-- ==== Sys2Proof/Word.lean ====
section
/-! DEFINITION. The word types of the UAN-3264 model (R10: multi-byte fields are little-endian; R509: registers are 32 bits wide). -/

set_option Elab.async false

namespace Sys2Proof

/-- A byte of Tarn, of a record or of a descriptor. -/
abbrev Byte := BitVec 8
/-- A 16-bit field. -/
abbrev U16 := BitVec 16
/-- A BAR0 register (R509), or a 32-bit field. -/
abbrev U32 := BitVec 32
/-- A 64-bit field: ISN, TIMESTAMP, an FRC count. -/
abbrev U64 := BitVec 64
/-- An IEEE 754 binary32 value, held as its 32 bits (R10). -/
abbrev F32 := BitVec 32

/-- A BAR0 or Tarn offset, an index or a count. -/
abbrev Off := Nat

end Sys2Proof
end

