-- ==== Sys2Proof/Stimulus.lean ====
section
/-! DEFINITION. The operand types of the node's steps: what the host, the wiring and the physics bring to one step of spec/opcode_table.json. The table gives its rows no operand fields, so what a row's operands are is read from the rule of its row (DEDUCED, log entry 3). -/

namespace Sys2Proof

/-- The two alarm engines (R17, R296). -/
inductive EngineId where
  | A
  | B
  deriving DecidableEq, Repr

/-- The two halves of a REC command's life (R118, R119, R227): CTRL takes it from the CMD ring and offers its record, or an engine evaluates that record at its ISN. -/
inductive Phase where
  | take
  | eval (e : EngineId)
  deriving DecidableEq, Repr

/-- What a node read of host memory brought back; `none` when the read failed (R122). -/
abbrev Image := Option (List Byte)

/-- The requests of R511 (BAR0) and R98 (Tarn window) that are not whole words: those that are discarded or aborted, and a read of the word at `off` with partial byte enables, which are bits 3-0 of `be`. -/
inductive BadAccess where
  | wideRead
  | wideWrite
  | partialWrite
  | tarnRead
  | partialRead (off : Nat) (be : BitVec 4)
  deriving DecidableEq, Repr

/-- The outcomes of the self-tests of Table 3-3 that the module's hardware decides: a set bit or `true` means failed (R79). -/
structure SelfTest where
  tarn : Bool := false
  tcm : Bool := false
  inletOutlet : Bool := false
  wellspring : Bool := false
  aeA : Bool := false
  aeB : Bool := false
  lanes : BitVec 48 := 0
  newtA : Bool := false
  newtB : Bool := false
  can : Byte := 0
  eth : BitVec 2 := 0
  deriving DecidableEq, Repr

/-- What the backplane, the pins and the module's hardware bring to one boot (R50, R75-R81). -/
structure BootEnv where
  slotId : BitVec 6 := 0
  fmodeStrap : Bool := false
  /-- The slot store answers within its three retries (R80). -/
  ssAnswers : Bool := true
  /-- An image slot whose flash reads back wrong (R77). -/
  imgBadA : Bool := false
  imgBadB : Bool := false
  tests : SelfTest := { }
  /-- CELL_TYPE is high: a primary cell (R59). -/
  cellHigh : Bool := true
  /-- The banks whose field side communicates (R367, R369). -/
  fieldUp : BitVec 4 := 15
  /-- The FE supplies are in range (R162, R200). -/
  fePwrOk : Bool := true
  /-- The speed and width to which the PCIe link trained (Table 4-14). -/
  linkSpeed : Nat := 3
  linkWidth : Nat := 2
  /-- SELFTEST's own calibration measurements, four of each lane item, oldest first: lane, item (0-15), measurement (R183). -/
  cal : List (Nat × Nat × F32) := []
  /-- The SCHEMA converter can read the previous settings at a trial boot (R487, R488). -/
  convertOk : Bool := true
  /-- 32.768 kHz ticks since the last RTC step. -/
  ticks : Nat := 0
  deriving DecidableEq, Repr

/-- The answer to a doorbell-page read (R105, R107): the 32 words of the page, or a failed read, with the round trip in ns. -/
structure DoorbellRsp where
  ok : Bool
  idx : List U32
  latNs : Nat
  deriving DecidableEq, Repr

/-- Successive readings of the CM comparator that found the same voltages (R193): how many, and the POS and NEG inputs in mV relative to FE_GND. -/
structure CmRun where
  n : Nat
  pos : Int
  neg : Int
  deriving DecidableEq, Repr

/-- What one lane slot measured (R169, R170, R192, R193). -/
structure SlotMeas where
  /-- The FIR outputs of the two halves, in codes. -/
  c1 : Int
  c2 : Int
  /-- The largest magnitude of the modulator input in each half, in codes. -/
  peak1 : Nat
  peak2 : Nat
  /-- The demodulated amplitudes in codes, sine mode only. -/
  inPh : F32
  quad : F32
  /-- The CM comparator's readings, oldest first. -/
  cm : List CmRun
  compliance : Bool
  overcurrent : Bool
  deriving DecidableEq, Repr

/-- The causes that set a bank's fault bit (R367); a thermal shutdown names its channel in the bank. -/
inductive FaultCause where
  | currentLimit
  | thermal (ch : BitVec 4)
  | supplyLow
  | noComm
  deriving DecidableEq, Repr

/-- A CAN frame as the controller sees it (R390, Table 13-13): `id` is [28:0] identifier, [29] IDE, [30] FDF, [31] RTR. -/
structure CanFrame where
  id : U32
  dlc : BitVec 4
  brs : Bool
  esi : Bool
  data : List Byte
  deriving DecidableEq, Repr

/-- A bus error (R388, CAN_LAST_ERR): its ISO 11898-1 code 1-6, and the part this channel had in it. Code 0: dominant bits after an overload flag, for which no error frame is sent. -/
structure CanErr where
  code : BitVec 3
  dataPhase : Bool
  asTransmitter : Bool
  /-- Steps of 8 that ISO 11898-1 gives the count for a bit error in an error or overload flag, and for dominant bits after one. -/
  flagSteps : Nat
  /-- Those steps alone change the count: no error of a frame came first. -/
  stepsOnly : Bool := false
  deriving DecidableEq, Repr

/-- How a transmission attempt ended (R383, R389); `inArb` marks a stuff error in the arbitration field, which ISO 11898-1 exempts from the count, and `acked` an error that followed the acknowledgment. -/
inductive TxResult where
  | sent
  | ackError
  | lostArb
  | error (code : BitVec 3) (dataPhase : Bool) (inArb : Bool) (acked : Bool)
  deriving DecidableEq, Repr

/-- What decides whether the node takes a PTP message (R421): its domain and its transport. -/
structure PtpHeader where
  domain : Byte
  udp : Bool
  deriving DecidableEq, Repr

/-- A two-step Sync whose Follow_Up has arrived (R421, R422): the master, the origin time t1 and logSyncInterval. -/
structure PtpSync where
  hdr : PtpHeader
  master : U64
  t1 : U64
  logInterval : Int
  deriving DecidableEq, Repr

/-- A Delay_Resp (R426): the master, its receipt time t4 of the node's Delay_Req, and that message's sequenceId. -/
structure PtpDelayResp where
  hdr : PtpHeader
  master : U64
  seq : U16
  t4 : U64
  deriving DecidableEq, Repr

/-- An Announce (R421): the dataset that the best master clock algorithm compares, and the announce interval. -/
structure PtpAnnounce where
  hdr : PtpHeader
  logInterval : Int
  /-- The sender's clockIdentity, bytes 0-3 lowest. -/
  master : U64
  /-- The grandmaster's. -/
  grandmaster : U64
  priority1 : Byte
  clockClass : Byte
  accuracy : Byte
  variance : U16
  priority2 : Byte
  stepsRemoved : U16
  /-- CORE clocks that bring the time to its arrival. -/
  dt : Nat := 0
  deriving DecidableEq, Repr

/-- A frame that a port is about to send (R416, R419): what the read of a host frame's buffer brought, and the CORE clocks that bring the time to the end of its SFD. -/
structure EthTx where
  buf : Image := none
  dt : Nat := 0
  deriving DecidableEq, Repr

/-- A write of RTC_TRICKLE (R60, R453): its value, and the level of CELL_TYPE at it. -/
structure TrickleWrite where
  v : U32
  cellHigh : Bool := false
  deriving DecidableEq, Repr

/-- Power-good falls (R63): RTC ticks since the last step of the RTC, and the bytes that a write of a record copy has brought when it is cut short (R71). -/
structure PowerFall where
  ticks : Nat := 0
  torn : Option Nat := none
  deriving DecidableEq, Repr

/-- A frame that arrived at a port (R417), without FCS. -/
structure EthRx where
  fcsOk : Bool
  data : List Byte
  /-- ADDR as read from the slot of the ring entry that takes the frame (R116); `none` when the read failed. -/
  addr : Option Nat
  deriving DecidableEq, Repr

/-- The shadow sets of the RTC that a freeze can time out on (R442, R443, R454). -/
inductive ShadowId where
  | host
  | legacy
  | lilypad
  deriving DecidableEq, Repr

/-- Lilypad's once-a-second measurements (R459-R461): the NTC resistance, the module's internal temperature in 0.1 °C and the measured VPP in mV. -/
structure PanelTemp where
  ntcOhm : Nat
  internal : Int
  vppMv : Nat
  deriving DecidableEq, Repr

/-- Gecko's measurements for a telemetry record (R62, Table 18-4). -/
structure TelemEnv where
  /-- The logic inputs' voltages in mV (R62). -/
  lvA : U16
  lvB : U16
  dieTemp : U16
  boardTemp : U16
  rails : U16
  geckoLoad : Byte
  deriving DecidableEq, Repr

end Sys2Proof
end

