-- ==== Sys2Proof/Syntax.lean ====
section
/-! DEFINITION. The steps of the UAN-3264: one constructor per row of spec/opcode_table.json, in the table's order, each docstring being the row's mnemonic, its rule and its summary. -/

namespace Sys2Proof

/-- One step of the node: an operation that the host commands, an event on a pin or a bus, or a step that one of the node's own units takes. -/
inductive Instr where
  /-- POWER_GOOD_RISE (R75). Power-good rises, or every reset source is released, and the node runs the boot sequence from BOOT through SELFTEST to SETUP. -/
  | powerGoodRise (env : BootEnv)
  /-- POWER_GOOD_FALL (R63). Both logic inputs stay below the stop threshold beyond hold-up, so power-good falls, the node enters RESET and the RTC switches to VBK. -/
  | powerGoodFall (f : PowerFall)
  /-- LOGIC_INPUT_CHANGE (R62). One logic supply input leaves or re-enters its range while the other runs the node without interruption. -/
  | logicInputChange (lvA lvB : U16)
  /-- CTRL_WATCHDOG (R73). CTRL fails to service its watchdog for 500 ms and the node resets with cause CTRL_WATCHDOG. -/
  | ctrlWatchdog
  /-- LOCKSTEP_MISMATCH (R37). A CTRL lockstep mismatch persists after recovery and the node enters FAULT_HALT with CAUSE LOCKSTEP. -/
  | lockstepMismatch
  /-- TCM_UNCORRECTABLE (R498). An uncorrectable error in CTRL tightly coupled memory, found by scrub or by CTRL, takes the node to FAULT_HALT. -/
  | tcmUncorrectable
  /-- PERST_N_ASSERT (R51). PERST_N is asserted and HIF is held in reset while the rest of the node runs on. -/
  | perstNAssert
  /-- LINK_DOWN (R34). A PCIe link-down or a loss of REFCLK stops and resets the HIF domain only. -/
  | linkDown
  /-- D3HOT_ENTRY (R99). A transition to D3hot has the effect of a link-down. -/
  | d3hotEntry
  /-- FLR (R129). A function-level reset resets HIF and MSI-X within 100 ms, keeping retained entries and taken commands. -/
  | flr
  /-- START (R93). MGMT_CMD START checks its conditions, recomputes the digest if dirty, and enters RUN or stays in SETUP. -/
  | startRun (vecA vecB : Bool) (dt : Nat)
  /-- STOP (R94). MGMT_CMD STOP drains admitted records, completes commands, releases ESNs and returns the node to SETUP. -/
  | stopRun
  /-- RESET (R74). MGMT_CMD RESET resets the node within 1 µs in any state, clearing Tarn, queues and registers other than the kept ones. -/
  | resetNode
  /-- COMMISSION (R92). MGMT_CMD COMMISSION writes a complete slot record from the node's present values and sets VALID or RESET_REQUIRED. -/
  | commission (ticks : Nat)
  /-- VERIFY_CFG (R90). MGMT_CMD VERIFY_CFG recomputes the configuration digest, sets CFG_MATCH and clears CFG_DIRTY. -/
  | verifyCfg
  /-- ACCEPT_SLOT (R81). MGMT_CMD ACCEPT_SLOT rewrites COMM_SLOT_ID to the present SLOT_ID and sets the status to VALID. -/
  | acceptSlot
  /-- SS_BYPASS (R82). MGMT_CMD SS_BYPASS sets BYPASSED for an unreadable slot store, so the node runs without it until reset. -/
  | ssBypass
  /-- MGMT_FMODE_WRITE (R86). A write to MGMT_FMODE in SETUP re-evaluates effective FMODE and may load the forerunner channel defaults. -/
  | mgmtFmodeWrite (v : U32)
  /-- MGMT_INT_REARM (R520). A write to MGMT_INT_REARM sends the summary MSI-X message when an enabled summary bit is set. -/
  | mgmtIntRearm (v : U32)
  /-- MGMT_INT_EN_WRITE (R520). A write to MGMT_INT_EN that enables an already pending bit sends the message at once. -/
  | mgmtIntEnWrite (v : U32)
  /-- REGISTER_WRITE (R515). A host write to a register without a row of its own is applied, or ignored and counted with a reason. -/
  | registerWrite (off : Off) (v : U32)
  /-- BAD_ACCESS (R511). A misaligned, over-wide or partial-byte BAR0 or Tarn request is aborted or discarded and counted. -/
  | badAccess (kind : BadAccess)
  /-- WIDE_PAIR_LO_READ (R513). A read of the _LO register of a 64-bit pair loads the pair's latch with the high word of the same instant. -/
  | widePairLoRead (off : Off) (dt : Nat)
  /-- TARN_WINDOW_WRITE (R24). A BAR2 write to the Tarn window is applied in SETUP and sets CFG_DIRTY, or is discarded and counted. -/
  | tarnWindowWrite (off : Off) (data : List Byte)
  /-- HIF_KICK (R105). A write to HIF_KICK causes a doorbell read within 1 µs, or exactly one further read when a read is outstanding. -/
  | hifKick (v : U32)
  /-- DOORBELL_POLL (R105). The HIF_DB_POLL interval elapses and the node issues a doorbell-page read. -/
  | doorbellPoll
  /-- DOORBELL_COMPLETION (R107). Doorbell data arrive: indices are checked, a ring may enter ERROR, credits and retained entries are freed, and descriptor fetches are issued. -/
  | doorbellCompletion (rsp : DoorbellRsp)
  /-- DESCRIPTOR_ARRIVAL (R119). A fetched host-to-node descriptor arrives and is handed to CTRL, Spawn, UPD, CANX or ETH in ring order. -/
  | descriptorArrival (ring : Nat) (data : Image)
  /-- PAGES_EN_SET (R108). Setting HIF_CTL.PAGES_EN starts doorbell polling and status-page writes, or is refused when the two pages coincide. -/
  | pagesEnSet
  /-- PAGES_EN_CLEAR (R138). Clearing HIF_CTL.PAGES_EN stops doorbell polling and status-page writes. -/
  | pagesEnClear
  /-- RING_ENABLE (R127). Setting RING_CTL.ENABLE checks the ring, loads its index from RING_START, sets ACTIVE and re-delivers retained entries. -/
  | ringEnable (ring : Nat) (ctl : U32)
  /-- RING_DISABLE (R128). Clearing RING_CTL.ENABLE stops the ring, discards prefetched descriptors and clears ACTIVE within 100 µs. -/
  | ringDisable (ring : Nat) (ctl : U32)
  /-- STATUS_PAGE_UPDATE (R109). Every 1 ms HIF increments HEARTBEAT and writes the status-page fields together. -/
  | statusPageUpdate
  /-- RING_MODERATION_TIMEOUT (R126). The oldest unsignalled entry of a ring reaches RING_MOD_TIME and the ring raises its MSI-X vector. -/
  | ringModerationTimeout (ring : Nat)
  /-- MSIX_VECTOR_UNMASK (R125). Unmasking a vector with its pending bit set sends the held message. -/
  | msixVectorUnmask (vec : Nat)
  /-- NOP (R121). The NOP command completes OK with RESULT 0, in ring order or behind a FENCE. -/
  | nop
  /-- UNKNOWN_OPCODE (R122). A command with an opcode not in Table 4-7 completes with BAD_OPCODE. -/
  | unknownOpcode
  /-- COMPLETION_WRITE (R120). A held completion is written to CMPL once the command's records are evaluated and ring credit allows. -/
  | completionWrite
  /-- POINT_WRITE (R234). POINT_WRITE reads and checks a 64 B point image and admits it as one configuration-changing CMD record. -/
  | pointWrite (img : Image)
  /-- POINT_READ (R238). POINT_READ is evaluated at its ISN and writes the configuration and both engine states to host memory. -/
  | pointRead (ph : Phase)
  /-- CHANDEF_WRITE (R157). CHANDEF_WRITE checks a channel-definition image against Table 5-6 and admits it as a CFG record. -/
  | chandefWrite (img : Image)
  /-- GROUP_WRITE (R263). GROUP_WRITE checks a group configuration image and admits it as three CMD records. -/
  | groupWrite (img : Image)
  /-- FANOUT_WRITE (R212). FANOUT_WRITE checks a new list for one head and admits the list and the head as consecutive CMD records. -/
  | fanoutWrite (img : Image)
  /-- LINTAB_WRITE (R187). LINTAB_WRITE checks a 2 KiB linearisation table and admits it as 32 CMD records. -/
  | lintabWrite (img : Image)
  /-- CANFILT_WRITE (R396). CANFILT_WRITE checks filter elements of one channel's share and admits them in records of four elements each. -/
  | canfiltWrite (img : Image)
  /-- CANSIG_WRITE (R403). CANSIG_WRITE checks signal definitions and admits them in records of four definitions each. -/
  | cansigWrite (img : Image)
  /-- ACK_POINT (R227). ACK_POINT, evaluated at its ISN, clears UNACKED and emits ACK. -/
  | ackPoint (ph : Phase)
  /-- SHELVE (R230). SHELVE sets SHELVED and loads the shelve timer, or reloads it when the point is already shelved. -/
  | shelve (ph : Phase)
  /-- UNSHELVE (R230). UNSHELVE ends a point's shelving, applies R226 and emits the event. -/
  | unshelve (ph : Phase)
  /-- FORCE_POINT (R231). FORCE_POINT forces a point's value and evaluates it, or releases the force. -/
  | forcePoint (ph : Phase)
  /-- ACK_GROUP (R262). ACK_GROUP acknowledges the group's members and accepts the call, or only accepts the call. -/
  | ackGroup (ph : Phase)
  /-- CALL_MANUAL (R262). CALL_MANUAL puts an idle, accepted or silenced ALARM session into the named calling state. -/
  | callManual (ph : Phase)
  /-- CALL_SILENCE (R255). CALL_SILENCE moves a calling session to SILENCED. -/
  | callSilence (ph : Phase)
  /-- DEADMAN_RESET (R258). DEADMAN_RESET clears DM_WARN, sets the session IDLE and restarts the dead-man period. -/
  | deadmanReset (ph : Phase)
  /-- CAN_CANCEL (R385). CAN_CANCEL cancels matching host frames in slots or prefetched descriptors, or reports them SENT. -/
  | canCancel
  /-- CAN_CHANNEL_CTL (R404). CAN_CHANNEL_CTL performs BUS_ON, BUS_OFF, TERM or MONITOR on a channel's run-time state. -/
  | canChannelCtl
  /-- SPAWN_CTL (R341). SPAWN_CTL turns a capture off, starts or arms a CONTINUOUS or WINDOW capture, or replaces the trigger table. -/
  | spawnCtl (img : Image)
  /-- SPAWN_TRIGGER (R342). SPAWN_TRIGGER triggers a recording WINDOW capture at ISN_HWM. -/
  | spawnTrigger
  /-- REPLAY_START (R343). REPLAY_START enters REPLAY, then loads the journal header, snapshot and mark from SPAWN_IN. -/
  | replayStart
  /-- REPLAY_STOP (R347). REPLAY_STOP consumes outstanding SPAWN_IN descriptors, returns to SETUP and reports the replay outcome. -/
  | replayStop
  /-- UPD_BEGIN (R474). UPD_BEGIN writes a session record, clears the bitmap and erases sector 0 of the target slot. -/
  | updBegin
  /-- UPD_STATUS (R480). UPD_STATUS returns the session state and optionally writes the 1,088 B status block. -/
  | updStatus (writeOk : Bool)
  /-- UPD_VERIFY (R481). UPD_VERIFY checks the target slot as in Table 17-10 and moves the session to READY, RECEIVING or IDLE. -/
  | updVerify
  /-- UPD_ACTIVATE (R484). UPD_ACTIVATE extends the watchdogs, writes its completion, enters ACTIVATING, writes the trial boot record and loads the new parts. -/
  | updActivate
  /-- UPD_CONFIRM (R486). UPD_CONFIRM writes an ACTIVE boot record, then erases the previous settings, revokes keys and ends the session. -/
  | updConfirm
  /-- UPD_ABANDON (R486). UPD_ABANDON ends the session, or in TRIAL falls back with REASON HOST and resets. -/
  | updAbandon
  /-- QUOTA_SET (R504). QUOTA_SET changes the ELASTIC, prefetch, CAN filter, trend or command-rate quota under the no-eviction rule. -/
  | quotaSet
  /-- ELASTIC_SPLIT_APPLY (R506). A pending change of the backlog/Spawn split takes effect once the events beyond the boundary are consumed or the capture ends. -/
  | elasticSplitApply
  /-- ENGINE_CTL (R318). ENGINE_CTL sets the preferred engine, removes an engine, returns an engine, or requests a hand-over. -/
  | engineCtl
  /-- TREND_CTL (R292). TREND_CTL sets or clears trend entries, or has Gecko offer a SEAL_REQUEST record. -/
  | trendCtl
  /-- DIO_WRITE (R362). DIO_WRITE sets OUT_HOST levels and sends extra frames to the banks within 20 µs. -/
  | dioWrite
  /-- PANEL_FLIP (R464). PANEL_FLIP copies an image into the back buffer and makes it the front buffer at the next frame boundary. -/
  | panelFlip (img : Image)
  /-- TIME_ADJ (R430). TIME_ADJ arms a Wellspring switch, sets INC, steps, declares quality, arms a TMO or sets PTP_ASYM_RUN. -/
  | timeAdj (dt : Nat)
  /-- RECORD_ADMISSION (R271). At each admission opportunity Inlet takes the next waiting record by priority and rotation and assigns its ISN. -/
  | recordAdmission
  /-- EVAL_SAMPLE (R213). An engine evaluates a SAMPLE record through FANOUT, applying input handling and threshold steps to each point. -/
  | evalSample (e : EngineId)
  /-- EVAL_DI_CHANGE (R213). An engine evaluates a DI_CHANGE record for the points of the changed channels, then for accept sources and dead-man presses. -/
  | evalDiChange (e : EngineId)
  /-- EVAL_COUNT (R213). An engine evaluates a COUNT record for the counter-rate points of that counter. -/
  | evalCount (e : EngineId)
  /-- EVAL_CAN_FRAME (R402). An engine extracts the candidate signals of a CAN_FRAME record and delivers them to their points and accept sources. -/
  | evalCanFrame (e : EngineId)
  /-- EVAL_TICK (R214). An engine sweeps every point and then every group at a TICK record, including coalescing notices and refreshes. -/
  | evalTick (e : EngineId)
  /-- DELAY_EXPIRY (R219). A point's on- or off-delay TIMER reaches 0 and the point moves to its recomputed target. -/
  | delayExpiry (e : EngineId) (p : Nat)
  /-- RATE_EVALUATION (R222). At the point's TICK of each second, a rate point computes r and its RATE or NORMAL target. -/
  | rateEvaluation (e : EngineId) (p : Nat)
  /-- BLOCK_DELAY_EXPIRY (R228). A point's BLOCK_TIMER reaches 0 after its block condition ended, and BLOCKED clears. -/
  | blockDelayExpiry (e : EngineId) (p : Nat)
  /-- SHELVE_EXPIRY (R230). A shelved point's TIMER reaches 0 and its shelving ends. -/
  | shelveExpiry (e : EngineId) (p : Nat)
  /-- GROUP_BLOCK_EXPIRY (R251). A group's BLOCK_TIMER reaches 0 and the group's BLOCKED clears. -/
  | groupBlockExpiry (e : EngineId) (g : Nat)
  /-- FLOOD_WINDOW_CLOSE (R250). FLOOD_TIMER reaches 0, so FLOODED clears or the next window opens. -/
  | floodWindowClose (e : EngineId) (g : Nat)
  /-- CALL_TIMEOUT (R255). CALL_TIMER reaches 0 and the session escalates to the next stage, to ALL_ENGINEERS or to BRIDGE. -/
  | callTimeout (e : EngineId) (g : Nat)
  /-- CALL_FRAME_REPEAT (R260). CAN_TIMER reaches 0 and the holder places the state's call frames again. -/
  | callFrameRepeat (e : EngineId) (g : Nat)
  /-- DEADMAN_WARN (R258). The dead-man CALL_TIMER reaches DM_WARN, so DM_WARN is set and WARN_MASK is driven. -/
  | deadmanWarn (e : EngineId) (g : Nat)
  /-- DEADMAN_EXPIRY (R258). The dead-man period runs out and the session enters STAGE_1. -/
  | deadmanExpiry (e : EngineId) (g : Nat)
  /-- SEAL_PERIOD_EXPIRY (R287). At a TICK that is a multiple of 1,000 × SEAL_PERIOD with CUST_N above 0, each engine emits CUSTODY_SEAL. -/
  | sealPeriodExpiry (e : EngineId)
  /-- HEALTH_PERIOD_EXPIRY (R317). At a TICK that is a multiple of 1,000 × HEALTH_PERIOD, each engine emits ENGINE_HEALTH. -/
  | healthPeriodExpiry (e : EngineId)
  /-- CONFIG_BARRIER (R236). Engines meet at a configuration-changing CMD record, one leader writes Tarn, each adjusts its state, and CFG_EPOCH advances. -/
  | configBarrier
  /-- EVAL_SOURCE_GAP (R275). Each engine emits a SOURCE_GAP event for a SOURCE_GAP record without changing point state. -/
  | evalSourceGap (e : EngineId)
  /-- EVAL_SNAPSHOT_MARK (R276). Each engine checks the mark's engine-wide state against its own. -/
  | evalSnapshotMark (e : EngineId)
  /-- EVAL_SEAL_REQUEST (R287). At a SEAL_REQUEST record each engine emits a CUSTODY_SEAL, whatever CUST_N is. -/
  | evalSealRequest (e : EngineId)
  /-- EVAL_ECC_FAULT (R497). At an ECC_FAULT record the engines repair the damaged word's object as in Table 18-2. -/
  | evalEccFault
  /-- EVAL_RESYNC_STATUS (R305). At a STATUS record each engine stores its last Skink status and emits ENGINE_HEALTH. -/
  | evalResyncStatus (e : EngineId)
  /-- EVAL_RESYNC_COPY (R312). The source engine reaches the COPY record and stops for the state copy. -/
  | evalResyncCopy (e : EngineId)
  /-- EVAL_AUDIT (R307). At an AUDIT record each engine writes fresh CRCs of the named block into its audit buffer. -/
  | evalAudit (e : EngineId)
  /-- EVAL_DIVERGE (R308). At a DIVERGE record each engine emits a DIVERGE event and checks its records against Table 10-4. -/
  | evalDiverge (e : EngineId)
  /-- EVAL_REPAIR (R534). At a REPAIR record each engine resets the named point or group state record and emits its events. -/
  | evalRepair (e : EngineId)
  /-- EVENT_COPY_ARRIVAL (R280). An engine's event copy reaches Outlet, which releases the ESN once every engine in service has delivered it. -/
  | eventCopyArrival (e : EngineId)
  /-- MERGE_WAIT_EXPIRY (R280). OUT_MERGE_WAIT passes after an ESN's first copy arrived and Outlet releases it. -/
  | mergeWaitExpiry
  /-- EVENT_DELIVERY (R111). A released copy is written to its event ring when ring credit exists. -/
  | eventDelivery (ring : Nat)
  /-- PUBLICATION_DATAGRAM (R293). Outlet sends a publication datagram once it holds 40 records, or WAIT ms after its first record. -/
  | publicationDatagram
  /-- CAN_PUBLICATION (R294). A selected released copy is placed as an FD publication frame, or discarded and counted. -/
  | canPublication
  /-- TREND_SAMPLE (R291). A trend entry's period ends and Outlet writes a TREND record when the deadband is met. -/
  | trendSample (entry : Nat) (dt : Nat)
  /-- LEG_EVT_W0_READ (R134). A read of LEG_EVT_W0 latches the head entry of the legacy FIFO. -/
  | legEvtW0Read
  /-- LEG_EVT_W3_READ (R134). A read of LEG_EVT_W3 removes the head entry of the legacy FIFO. -/
  | legEvtW3Read
  /-- FLUSH (R134). Writing FLUSH to LEG_EVT_CTL empties the legacy event FIFO. -/
  | legFlush
  /-- ENGINE_FAILURE (R301). An engine meets a failure condition, is failed with a cause, the hold is released if it held, and a STATUS record is offered. -/
  | engineFailure (e : EngineId) (cause : Nat)
  /-- TICK_STALL (R301). An admitted TICK waits 5 ms unevaluated by an engine, which is failed with cause TICK_STALL. -/
  | tickStall (e : EngineId)
  /-- HOLD_GRANT (R311). At least 10 µs after a holder failure the arbiter grants the hold to the other IN_SERVICE engine and offers a STATUS record. -/
  | holdGrant
  /-- ENGINE_RETURN_TEST (R312). A failed engine is reset and vector-tested, then enters RESYNC with a COPY record, or fails again. -/
  | engineReturnTest (e : EngineId) (pass : Bool)
  /-- STATE_COPY_COMPLETE (R312). The state copy to the target is verified, the source resumes and the target enters PROVING. -/
  | stateCopyComplete (verified : Bool)
  /-- RETURN_HOLDOFF_EXPIRY (R313). RETURN_HOLDOFF passes without a failed check and a PROVING engine enters IN_SERVICE. -/
  | returnHoldoffExpiry (e : EngineId)
  /-- TAKE_BACK (R314). At a Newt refresh the hold moves to the preferred engine once it is level with the holder. -/
  | takeBack
  /-- AUDIT_OFFER (R307). After a TICK that is a multiple of 1,000, Skink offers an AUDIT record for the next block. -/
  | auditOffer
  /-- AUDIT_COMPARE (R307). Gecko compares the two audit buffers and Skink offers a DIVERGE record on a difference. -/
  | auditCompare
  /-- DIVERGE_RESOLUTION (R309). Skink resolves a divergence from the engines' reports, fails one engine and offers REPAIR records where needed. -/
  | divergeResolution
  /-- AE_INJECT (R324). A write of 0x5A to AE_INJECT fails that engine with cause PARITY. -/
  | aeInject (e : EngineId) (v : U32)
  /-- INTLK_IN_CHANGE (R320). INTLK_IN_N changes level, restarting the claim qualification or revealing a tie. -/
  | intlkInChange (high : Bool)
  /-- PAIR_CLAIM (R320). With INTLK_IN_N high for 50 µs and an engine holding, the module asserts its claim and then drives the shared outputs. -/
  | pairClaim
  /-- PAIR_RELEASE (R321). The claimant commands its shared outputs off, waits 60 µs, then releases INTLK_OUT_N. -/
  | pairRelease
  /-- PAIR_SENSE_CHANGE (R322). PAIR_SENSE_N goes high, so the module acts alone and sets PAIR_LOST. -/
  | pairSenseChange (high : Bool)
  /-- TICK_GENERATION (R269). Every 200,000 FRC counts Wellspring issues a TICK record with Outlet's release position and its time state. -/
  | tickGeneration
  /-- SNAPSHOT_MARK_OFFER (R330). Once all admitted CFG barriers are applied, Gecko offers a SNAPSHOT_MARK and Skink a STATUS record. -/
  | snapshotMarkOffer
  /-- SNAPSHOT_COPY_COMPLETE (R330). Spawn finishes copying the source engine's state into staging under copy-before-write. -/
  | snapshotCopyComplete
  /-- SNAP_TIMEOUT (R332). A snapshot does not finish within 2 s, so its unit ends with ERR and command intake resumes. -/
  | snapTimeout
  /-- SPAWN_OUT_BUFFER_WRITE (R339). When SPAWN_OUT credit allows, Spawn writes the next 4 KiB buffer of a snapshot, journal, CKPT or window unit. -/
  | spawnOutBufferWrite (addr : Option Nat := some 0)
  /-- CHECKPOINT (R326). At a TICK that is a multiple of 1,000 × CHECKPOINT_PERIOD the engines hash their state and Spawn writes three CHECKPOINT records. -/
  | checkpoint
  /-- WINDOW_FREEZE (R337). Post-trigger bytes reach (100 − PRE_PCT) % of the ring, so Spawn freezes it and streams the window. -/
  | windowFreeze
  /-- REPLAY_BUFFER (R345). A SPAWN_IN buffer arrives in REPLAY and its records are checked and fed to Inlet. -/
  | replayBuffer (data : Image)
  /-- REPLAY_CHECKPOINT_COMPARE (R346). The comparator compares a journalled checkpoint's hashes with the replaying engines' hashes and may hold. -/
  | replayCheckpointCompare
  /-- REPLAY_DONE (R347). The record before LAST is evaluated and every event written, so the replay state becomes DONE. -/
  | replayDone
  /-- LANE_SLOT_START (R168). At a slot boundary the crosspoint, PGA and excitation are set for the next slot, or a calibration slot is inserted. -/
  | laneSlotStart (lane : Nat)
  /-- LANE_SLOT_END (R171). A slot ends, and the lane combines the halves, calibrates, linearises, flags and offers the sample. -/
  | laneSlotEnd (lane : Nat) (m : SlotMeas) (dt : Nat)
  /-- CAL_SLOT_DUE (R179). A lane's calibration due time arrives and its next slot boundary will insert a calibration slot. -/
  | calSlotDue (lane : Nat)
  /-- CAL_SLOT_END (R181). A calibration slot ends and its measurement is accepted into the coefficient or rejected. -/
  | calSlotEnd (lane : Nat) (meas : F32)
  /-- LANE_DRAINED (R197). The old lane's last sample of a moved definition is admitted or discarded, so the lane reports DRAINED and the new lane offers its held sample. -/
  | laneDrained (lane : Nat)
  /-- CLAMP_EVENT_START (R150). A terminal's clamp current exceeds 10 µA, which sets its sticky flag and counts the event. -/
  | clampEventStart (t : Nat)
  /-- CLAMP_EVENT_END (R150). A terminal's clamp current stays below 10 µA for 100 µs and the clamp event ends. -/
  | clampEventEnd (t : Nat)
  /-- BURDEN_SHUNT_OPEN (R149). A burden shunt carries more than 30 mA for 1 ms and is opened. -/
  | burdenShuntOpen (t : Nat)
  /-- BURDEN_SHUNT_RECLOSE (R149). An opened burden shunt closes again after 1 s. -/
  | burdenShuntReclose (t : Nat)
  /-- BIAS_CURRENT_LIMIT (R148). A bias generator reaches its 10 mA limit, setting BS_STATUS and counting the event. -/
  | biasCurrentLimit (n : Nat) (limiting : Bool)
  /-- XP_CHECK (R156). A write of 1 to XP_CHECK in SETUP checks all channel definitions against Table 5-6 within 5 ms. -/
  | xpCheck (v : U32)
  /-- DIO_WINDOW_END (R356). A bank's sampling window ends, latching levels and readbacks, updating mismatches and offering a DI_CHANGE record. -/
  | dioWindowEnd (bank : Nat) (pins : U16) (settled : U16) (dt : Nat)
  /-- COUNTER_EDGE (R359). A rising edge on a CNT channel increments its 32-bit counter. -/
  | counterEdge (k : Nat)
  /-- COUNT_PERIOD_EXPIRY (R359). DIO_CH_CNT_PERIOD elapses and Newt offers a COUNT record with the counter and its rate. -/
  | countPeriodExpiry (k : Nat) (cycles : Nat) (dt : Nat)
  /-- NEWT_REFRESH (R361). Every 1 ms Newt sends each bank a frame with the commanded levels and, while the holder is alive, the watchdog refresh. -/
  | newtRefresh (newt : Nat) (late : Bool)
  /-- WATCHDOG_EXPIRY (R363). A bank's field-side watchdog expires and its outputs take their safe state. -/
  | watchdogExpiry (bank : Nat)
  /-- NEWT_STALL (R366). A Newt gives no sign of life for 10 ms and CTRL restarts it. -/
  | newtStall (newt : Nat)
  /-- NEWT_RESTART (R366). A restarted Newt marks its losses and offers INITIAL records, with counters from 0. -/
  | newtRestart (newt : Nat)
  /-- FAULT_SET (R367). A qualified bank fault cause sets the bank fault bit and counts it. -/
  | faultSet (bank : Nat) (cause : FaultCause)
  /-- FAULT_CLEAR (R367). No fault cause has been present for 10 ms and the bank fault bit clears. -/
  | faultClear (bank : Nat)
  /-- FIELD_RESET (R369). A bank's field supply falls to 14.0 V or below and its field side resets with all outputs off. -/
  | fieldReset (bank : Nat)
  /-- FIELD_SIDE_RESTART (R369). The field supply rises to 16.0 V or above and the field side restarts with outputs in safe state. -/
  | fieldSideRestart (bank : Nat)
  /-- THERMAL_SHUTDOWN_RETRY (R353). 100 ms after a thermal shutdown the output switch retries. -/
  | thermalShutdownRetry (ch : Nat) (shorted : Bool)
  /-- CAN_FRAME_RECEIVED (R390). A channel receives a valid frame, stamps it and puts it in its receive FIFO, or discards it on overflow. -/
  | canFrameReceived (ch : Nat) (f : CanFrame) (dt : Nat)
  /-- PROTOCOL_EXCEPTION (R376). A channel with FD_EN clear sees an FDF frame, does not receive it and integrates again. -/
  | protocolException (ch : Nat)
  /-- CAN_BUS_ERROR (R388). A bus error changes TEC or REC and may move the channel to error passive or bus-off. -/
  | canBusError (ch : Nat) (err : CanErr)
  /-- FILTER_WALK (R391). The walker walks a received frame's filter share and sends it to the ring, to Inlet, to both, or rejects it. -/
  | filterWalk
  /-- CAN_TX_ENTRY_TAKEN (R379). A CAN_TX entry is copied into a free host slot, or completes REJECTED. -/
  | canTxEntryTaken (ch : Nat)
  /-- TX_ATTEMPT_START (R380). At bus idle the channel starts sending the pending slot that wins arbitration order. -/
  | txAttemptStart (ch : Nat) (dt : Nat)
  /-- TX_ATTEMPT_END (R383). A transmission attempt ends sent, unacknowledged, lost or in error, updating outcome, retry, LONELY and echo. -/
  | txAttemptEnd (ch : Nat) (r : TxResult) (dt : Nat)
  /-- INTEGRATION_COMPLETE (R376). A channel sees 11 consecutive recessive bits and joins the bus. -/
  | integrationComplete (ch : Nat)
  /-- BUS_OFF_RECOVERY_COMPLETE (R388). After 128 occurrences of 11 recessive bits a bus-off channel returns to error active and sends its pending frames. -/
  | busOffRecoveryComplete (ch : Nat)
  /-- TIME_SWITCH (R411). FRC reaches an armed switch instant and Wellspring applies the step, rate or mode change, updating TIME_EPOCH and the TMOs. -/
  | timeSwitch
  /-- PTP_SYNC_RECEIVED (R422). A Sync or Follow_Up completes an offset measurement and the servo slews, steps, locks or enters SUSPECT. -/
  | ptpSyncReceived (port : Nat) (m : PtpSync) (dt : Nat)
  /-- PTP_DELAY_RESP_RECEIVED (R426). A Delay_Resp yields a path-delay measurement that updates D or drives SUSPECT. -/
  | ptpDelayRespReceived (port : Nat) (m : PtpDelayResp)
  /-- PTP_ANNOUNCE_RECEIVED (R421). An Announce updates foreign-master selection and may qualify a master for ACQUIRE. -/
  | ptpAnnounceReceived (port : Nat) (m : PtpAnnounce)
  /-- DELAY_REQ_SEND (R421). The servo's Delay_Req interval elapses and it sends a Delay_Req. -/
  | delayReqSend (dt : Nat)
  /-- MASTER_LOSS (R425). The Announce or Sync receipt timeout expires and the servo enters HOLDOVER. -/
  | masterLoss
  /-- ACQUIRE_TIMEOUT (R422). The servo does not lock within 600 s in NORMAL, switches to INCREMENT and acquires again. -/
  | acquireTimeout
  /-- HOST_TIMEOUT (R429). With a host servo, no TIME_ADJ arrives for HOST_TIMEOUT s in NORMAL and quality becomes HOLDOVER. -/
  | hostTimeout
  /-- ETH_FRAME_RECEIVED (R417). A port receives a frame, timestamps it, and passes it to the servo or its ring, or discards it. -/
  | ethFrameReceived (port : Nat) (fr : EthRx) (dt : Nat)
  /-- ETH_TX_FRAME (R416). An ETH_TX descriptor's frame is sent in class order, or dropped for a bad length. -/
  | ethTxFrame (port : Nat) (f : EthTx)
  /-- ETH_TX_TIMESTAMP (R420). A TS_REQ frame's FCS leaves the MAC and its timestamp enters the queue, or is lost on overflow. -/
  | ethTxTimestamp (port : Nat) (dt : Nat)
  /-- ETH_LINK_CHANGE (R434). A port's link goes up or down, which is counted. -/
  | ethLinkChange (port : Nat) (up : Bool) (gig : Bool)
  /-- PTP_TXTS_W0_READ (R420). A read of PTP_TXTS_W0 latches the head of the transmit-timestamp queue. -/
  | ptpTxtsW0Read (port : Nat)
  /-- PTP_TXTS_TIME_HI_READ (R420). A read of PTP_TXTS_TIME_HI removes the head of the transmit-timestamp queue. -/
  | ptpTxtsTimeHiRead (port : Nat)
  /-- TMO_PULSE_START (R431). Wellspring time reaches a TMO boundary, so a pulse begins on the pin, the DIO route and the Spawn trigger. -/
  | tmoPulseStart (k : Nat) (dt : Nat)
  /-- TMO_PULSE_END (R431). A pulse's width in FRC ticks elapses and the TMO output returns inactive. -/
  | tmoPulseEnd (k : Nat) (dt : Nat)
  /-- SET (R444). Writing SET to RTC_CMD arms a commit of the staged time at the next 32.768 kHz edge. -/
  | rtcSet (ticks : Nat)
  /-- RTC_COMMIT (R444). At the edge after SET the RTC takes the staged time, ends any shift and handles an armed alarm. -/
  | rtcCommit
  /-- SWO_CLEAR (R451). Writing SWO_CLEAR to RTC_CMD clears SWO_VALID so that the next switch-over is timestamped. -/
  | swoClear
  /-- RTC_SHIFT (R445). A write to RTC_SHIFT starts a fractional shift, or is rejected with BUSY while one runs. -/
  | rtcShift (v : U32) (ticks : Nat)
  /-- SHIFT_DONE (R445). The requested ticks have been inserted or suppressed and the shift ends. -/
  | shiftDone (ticks : Nat)
  /-- DST_FORWARD (R439). Writing +1 h to RTC_DST sets DST_PENDING for the next second boundary. -/
  | dstForward
  /-- DST_BACK (R439). Writing −1 h to RTC_DST sets DST_PENDING for the next second boundary. -/
  | dstBack
  /-- LOCAL_TIME_APPLY (R439). At the RTC second boundary a pending local offset and DST change take effect together. -/
  | localTimeApply (ticks : Nat)
  /-- ALARM_ARM (R447). Writing ARM to RTC_ALM_CTL arms the alarm, or fires it at once when its second is reached or passed. -/
  | alarmArm (v : U32) (ticks : Nat)
  /-- ALARM_DISARM (R447). Writing 0 to ARM disarms the RTC alarm. -/
  | alarmDisarm (v : U32)
  /-- RTC_ALARM_FIRE (R447). SEC counts to ALM_SEC while armed, so the alarm fires and disarms. -/
  | rtcAlarmFire (ticks : Nat)
  /-- WAKE_ENABLE (R449). Setting RTC_WAKE_CTL.EN starts counting wake periods from the next oscillator edge. -/
  | wakeEnable (v : U32)
  /-- WAKE (R449). A wake period elapses, which sets RTC_EVT.WAKE and may drive WAKE_N. -/
  | rtcWake (ticks : Nat)
  /-- RTC_FRAC_READ (R442). A read of RTC_FRAC loads and freezes the host's RTC shadow set. -/
  | rtcFracRead (ticks : Nat)
  /-- RTC_SEC_HI_READ (R442). A read of RTC_SEC_HI releases the shadow set and reports STALE if the freeze timed out. -/
  | rtcSecHiRead (ticks : Nat)
  /-- SHADOW_FREEZE_TIMEOUT (R442). 1 ms after its freeze a shadow set follows live time again. -/
  | shadowFreezeTimeout (who : ShadowId)
  /-- LEG_RTC_SEC_READ (R454). A read of LEG_RTC_SEC freezes the forerunner window's shadow set. -/
  | legRtcSecRead (ticks : Nat)
  /-- LEG_RTC_YEAR_READ (R454). A read of LEG_RTC_YEAR releases the forerunner window's shadow set. -/
  | legRtcYearRead (ticks : Nat)
  /-- LEG_RTC_SET (R454). SET in LEG_RTC_CTL converts the staged local time to UTC and commits it, or refuses it with BAD. -/
  | legRtcSet
  /-- RTC_TRICKLE_WRITE (R453). A write to RTC_TRICKLE sets the charger, or is refused when it enables charging with CELL_TYPE high. -/
  | rtcTrickleWrite (w : TrickleWrite)
  /-- CELL_TYPE_HIGH (R60). CELL_TYPE goes high during charging, so the charger stops within 1 ms, EN clears and CHG_STOP is set. -/
  | cellTypeHigh
  /-- OSC_STOP (R452). VBK falls below 2.0 V without logic supply, the RTC oscillator stops and the backup domain is lost. -/
  | oscStop
  /-- LEG_PT_WRITE (R240). WRITE in LEG_PT_CMD converts the forerunner point entry into a POINT_CFG record in SETUP. -/
  | legPtWrite
  /-- LEG_PT_READ (R240). READ in LEG_PT_CMD converts a POINT_CFG record back into the forerunner format, or fails NOT_REPRESENTABLE. -/
  | legPtRead
  /-- PANEL_FRAME_BOUNDARY (R458). A panel frame begins, sampling the front buffer and applying pending flips, shifts and drive values. -/
  | panelFrameBoundary
  /-- PANEL_TEMP_UPDATE (R460). Each second Lilypad takes the panel temperature and sets drive voltage and column current. -/
  | panelTempUpdate (p : PanelTemp)
  /-- VPP_FAULT (R461). VPP leaves ±5 % for 10 ms, so Lilypad switches the boost off and stops scan-out. -/
  | vppFault
  /-- VPP_RETRY (R461). 1 s after a VPP fault Lilypad retries the boost. -/
  | vppRetry
  /-- ALARM_LIST_REDRAW (R463). Every 100 ms in ALARM_LIST mode the holder draws the alarm list into the back buffer and flips it. -/
  | alarmListRedraw (ticks : Nat)
  /-- BURN_IN_SHIFT (R465). SHIFT_PERIOD elapses and the scan-out offset steps to the next cycle position. -/
  | burnInShift
  /-- PNL_SENSE_CHANGE (R466). PNL_SENSE_N changes, so Lilypad stops scan-out and VPP, or resets and resumes the panel. -/
  | pnlSenseChange (high : Bool)
  /-- UPD_PIECE_RECEIVED (R476). A UPD descriptor's piece is read into an on-chip buffer, or rejected with a reason. -/
  | updPieceReceived (data : Image)
  /-- PIECE_STORED (R477). A piece is erased, programmed, read back and marked in both bitmap copies. -/
  | pieceStored (p : Nat) (readbackOk : Bool)
  /-- ACTIVATION_COMPLETE (R484). The new image runs, so MGMT_STATE returns to RUN, the session enters TRIAL and Inlet admits again. -/
  | activationComplete (pauseUs : Nat)
  /-- ACTIVATION_TIMEOUT (R485). RUN is not reached 400 ms after the pause began, so UPD writes a fallback record and resets. -/
  | activationTimeout
  /-- TRIAL_WARN (R486). 300 s remain in TRIAL and UPD sets TRIAL_WARN. -/
  | trialWarn
  /-- TRIAL_TIMEOUT (R486). The trial timer expires, so UPD writes a TIMEOUT fallback record and resets. -/
  | trialTimeout
  /-- SETTINGS_CONVERSION_DONE (R487). The SCHEMA converter finishes converting the previous settings into the new region and sets CONVERTED. -/
  | settingsConversionDone
  /-- SETTINGS_CONVERSION_FAIL (R488). The converter cannot read the previous settings, so the firmware records a SETTINGS fallback and resets. -/
  | settingsConversionFail
  /-- PROGRAM (R490). PROGRAM in UPD_KEY_CMD starts programming the custody key into OTP, or is refused. -/
  | keyProgram
  /-- KEY_PROGRAMMED (R490). OTP key programming ends, so KEY_LOADED is set, the check value computed and the key words cleared. -/
  | keyProgrammed
  /-- SCRUB_SLOT (R494). A bank's scrub slot arrives, so Gecko reads one line and writes back a corrected word. -/
  | scrubSlot (bank : Nat)
  /-- TARN_CORRECTED_ERROR (R495). A read finds a single-bit error, which is corrected, counted and scheduled for scrub. -/
  | tarnCorrectedError (off : Off)
  /-- TARN_UNCORRECTABLE (R496). A read finds a double-bit error, which is handled by region and may have Gecko offer an ECC_FAULT record. -/
  | tarnUncorrectable (off : Off)
  /-- TCM_SCRUB (R498). Each second Gecko reads CTRL's memory and writes back corrected errors. -/
  | tcmScrub (corrected : Nat)
  /-- SETTINGS_JOURNAL_WRITE (R500). An admitted configuration change is written as a journal entry to the active settings region. -/
  | settingsJournalWrite (sectorFail : Bool)
  /-- BASE_GENERATION_START (R501). The journal passes 75 %, or START or COMMISSION finds a changed configuration, and a base generation write begins. -/
  | baseGenerationStart
  /-- BASE_GENERATION_DURABLE (R501). A new base generation becomes durable and older journal sectors are freed. -/
  | baseGenerationDurable
  /-- DIGEST_REWRITE (R91). After 10 s without a configuration change the node recomputes the digest and rewrites it in the slot record. -/
  | digestRewrite
  /-- TELEMETRY (R503). TELEM_PERIOD elapses and Gecko writes a telemetry record to the lossy TELEMETRY ring. -/
  | telemetry (t : TelemEnv) (dt : Nat)
  /-- LINK_UP (R34). After PERST_N is released, REFCLK returns or a link-down ends, the PCIe link trains again and HIF leaves reset so that the host can set it up again. -/
  | linkUp (speed width : Nat)
  /-- COMMAND_RATE_ALLOWANCE (R505). At the start of every millisecond of the CORE free-running counter, CTRL raises the command-rate allowance by the quota, capped at the quota, so a CFG or REC command held at the head of the CMD ring may be taken. -/
  | commandRateAllowance
  deriving DecidableEq, Repr

end Sys2Proof
end

