-- ==== Sys2Proof/WellFormed.lean ====
section
/-! DEFINITION. Which steps name units that the node has (R3, R17, R103, R384, R431, R492 and the block map of R509). A step that is not well formed never reaches the hardware; `exec` answers it with a fault. -/

namespace Sys2Proof

/-- Every unit that the step's operands name exists. -/
def Instr.wf : Instr → Bool
  | .powerGoodRise _ => true
  | .powerGoodFall _ => true
  | .logicInputChange _ _ => true
  | .ctrlWatchdog => true
  | .lockstepMismatch => true
  | .tcmUncorrectable => true
  | .perstNAssert => true
  | .linkDown => true
  | .d3hotEntry => true
  | .flr => true
  | .startRun _ _ _ => true
  | .stopRun => true
  | .resetNode => true
  | .commission _ => true
  | .verifyCfg => true
  | .acceptSlot => true
  | .ssBypass => true
  | .mgmtFmodeWrite _ => true
  | .mgmtIntRearm _ => true
  | .mgmtIntEnWrite _ => true
  | .registerWrite off _ => decide (off < 0x100000)
  | .badAccess _ => true
  | .widePairLoRead off _ => decide (off < 0x100000)
  | .tarnWindowWrite off data => decide (off + data.length ≤ 0x2000000)
  | .hifKick _ => true
  | .doorbellPoll => true
  | .doorbellCompletion _ => true
  | .descriptorArrival ring _ => decide (ring < 31)
  | .pagesEnSet => true
  | .pagesEnClear => true
  | .ringEnable ring _ => decide (ring < 31)
  | .ringDisable ring _ => decide (ring < 31)
  | .statusPageUpdate => true
  | .ringModerationTimeout ring => decide (ring < 31)
  | .msixVectorUnmask vec => decide (vec < 32)
  | .nop => true
  | .unknownOpcode => true
  | .completionWrite => true
  | .pointWrite _ => true
  | .pointRead _ => true
  | .chandefWrite _ => true
  | .groupWrite _ => true
  | .fanoutWrite _ => true
  | .lintabWrite _ => true
  | .canfiltWrite _ => true
  | .cansigWrite _ => true
  | .ackPoint _ => true
  | .shelve _ => true
  | .unshelve _ => true
  | .forcePoint _ => true
  | .ackGroup _ => true
  | .callManual _ => true
  | .callSilence _ => true
  | .deadmanReset _ => true
  | .canCancel => true
  | .canChannelCtl => true
  | .spawnCtl _ => true
  | .spawnTrigger => true
  | .replayStart => true
  | .replayStop => true
  | .updBegin => true
  | .updStatus _ => true
  | .updVerify => true
  | .updActivate => true
  | .updConfirm => true
  | .updAbandon => true
  | .quotaSet => true
  | .elasticSplitApply => true
  | .engineCtl => true
  | .trendCtl => true
  | .dioWrite => true
  | .panelFlip _ => true
  | .timeAdj _ => true
  | .recordAdmission => true
  | .evalSample _ => true
  | .evalDiChange _ => true
  | .evalCount _ => true
  | .evalCanFrame _ => true
  | .evalTick _ => true
  | .delayExpiry _ p => decide (p < 81920)
  | .rateEvaluation _ p => decide (p < 81920)
  | .blockDelayExpiry _ p => decide (p < 81920)
  | .shelveExpiry _ p => decide (p < 81920)
  | .groupBlockExpiry _ g => decide (g < 256)
  | .floodWindowClose _ g => decide (g < 256)
  | .callTimeout _ g => decide (g < 256)
  | .callFrameRepeat _ g => decide (g < 256)
  | .deadmanWarn _ g => decide (g < 256)
  | .deadmanExpiry _ g => decide (g < 256)
  | .sealPeriodExpiry _ => true
  | .healthPeriodExpiry _ => true
  | .configBarrier => true
  | .evalSourceGap _ => true
  | .evalSnapshotMark _ => true
  | .evalSealRequest _ => true
  | .evalEccFault => true
  | .evalResyncStatus _ => true
  | .evalResyncCopy _ => true
  | .evalAudit _ => true
  | .evalDiverge _ => true
  | .evalRepair _ => true
  | .eventCopyArrival _ => true
  | .mergeWaitExpiry => true
  | .eventDelivery ring => decide (ring < 31)
  | .publicationDatagram => true
  | .canPublication => true
  | .trendSample entry _ => decide (entry < 4096)
  | .legEvtW0Read => true
  | .legEvtW3Read => true
  | .legFlush => true
  | .engineFailure _ cause => (1 ≤ cause && cause ≤ 12)
  | .tickStall _ => true
  | .holdGrant => true
  | .engineReturnTest _ _ => true
  | .stateCopyComplete _ => true
  | .returnHoldoffExpiry _ => true
  | .takeBack => true
  | .auditOffer => true
  | .auditCompare => true
  | .divergeResolution => true
  | .aeInject _ _ => true
  | .intlkInChange _ => true
  | .pairClaim => true
  | .pairRelease => true
  | .pairSenseChange _ => true
  | .tickGeneration => true
  | .snapshotMarkOffer => true
  | .snapshotCopyComplete => true
  | .snapTimeout => true
  | .spawnOutBufferWrite _ => true
  | .checkpoint => true
  | .windowFreeze => true
  | .replayBuffer _ => true
  | .replayCheckpointCompare => true
  | .replayDone => true
  | .laneSlotStart lane => decide (lane < 48)
  | .laneSlotEnd lane _ _ => decide (lane < 48)
  | .calSlotDue lane => decide (lane < 48)
  | .calSlotEnd lane _ => decide (lane < 48)
  | .laneDrained lane => decide (lane < 48)
  | .clampEventStart t => decide (t < 192)
  | .clampEventEnd t => decide (t < 192)
  | .burdenShuntOpen t => decide (t < 192)
  | .burdenShuntReclose t => decide (t < 192)
  | .biasCurrentLimit n _ => decide (n < 8)
  | .xpCheck _ => true
  | .dioWindowEnd bank _ _ _ => decide (bank < 4)
  | .counterEdge k => decide (k < 16)
  | .countPeriodExpiry k _ _ => decide (k < 16)
  | .newtRefresh newt _ => decide (newt < 2)
  | .watchdogExpiry bank => decide (bank < 4)
  | .newtStall newt => decide (newt < 2)
  | .newtRestart newt => decide (newt < 2)
  | .faultSet bank _ => decide (bank < 4)
  | .faultClear bank => decide (bank < 4)
  | .fieldReset bank => decide (bank < 4)
  | .fieldSideRestart bank => decide (bank < 4)
  | .thermalShutdownRetry ch _ => decide (ch < 64)
  | .canFrameReceived ch _ _ => decide (ch < 8)
  | .protocolException ch => decide (ch < 8)
  | .canBusError ch _ => decide (ch < 8)
  | .filterWalk => true
  | .canTxEntryTaken ch => decide (ch < 8)
  | .txAttemptStart ch _ => decide (ch < 8)
  | .txAttemptEnd ch _ _ => decide (ch < 8)
  | .integrationComplete ch => decide (ch < 8)
  | .busOffRecoveryComplete ch => decide (ch < 8)
  | .timeSwitch => true
  | .ptpSyncReceived port _ _ => decide (port < 2)
  | .ptpDelayRespReceived port _ => decide (port < 2)
  | .ptpAnnounceReceived port _ => decide (port < 2)
  | .delayReqSend _ => true
  | .masterLoss => true
  | .acquireTimeout => true
  | .hostTimeout => true
  | .ethFrameReceived port _ _ => decide (port < 2)
  | .ethTxFrame port _ => decide (port < 2)
  | .ethTxTimestamp port _ => decide (port < 2)
  | .ethLinkChange port _ _ => decide (port < 2)
  | .ptpTxtsW0Read port => decide (port < 2)
  | .ptpTxtsTimeHiRead port => decide (port < 2)
  | .tmoPulseStart k _ => decide (k < 8)
  | .tmoPulseEnd k _ => decide (k < 8)
  | .rtcSet _ => true
  | .rtcCommit => true
  | .swoClear => true
  | .rtcShift _ _ => true
  | .shiftDone _ => true
  | .dstForward => true
  | .dstBack => true
  | .localTimeApply _ => true
  | .alarmArm _ _ => true
  | .alarmDisarm _ => true
  | .rtcAlarmFire _ => true
  | .wakeEnable _ => true
  | .rtcWake _ => true
  | .rtcFracRead _ => true
  | .rtcSecHiRead _ => true
  | .shadowFreezeTimeout _ => true
  | .legRtcSecRead _ => true
  | .legRtcYearRead _ => true
  | .legRtcSet => true
  | .rtcTrickleWrite _ => true
  | .cellTypeHigh => true
  | .oscStop => true
  | .legPtWrite => true
  | .legPtRead => true
  | .panelFrameBoundary => true
  | .panelTempUpdate _ => true
  | .vppFault => true
  | .vppRetry => true
  | .alarmListRedraw _ => true
  | .burnInShift => true
  | .pnlSenseChange _ => true
  | .updPieceReceived _ => true
  | .pieceStored p _ => decide (p < 8192)
  | .activationComplete _ => true
  | .activationTimeout => true
  | .trialWarn => true
  | .trialTimeout => true
  | .settingsConversionDone => true
  | .settingsConversionFail => true
  | .keyProgram => true
  | .keyProgrammed => true
  | .scrubSlot bank => decide (bank < 16)
  | .tarnCorrectedError off => decide (off < 0x2000000)
  | .tarnUncorrectable off => decide (off < 0x2000000)
  | .tcmScrub _ => true
  | .settingsJournalWrite _ => true
  | .baseGenerationStart => true
  | .baseGenerationDurable => true
  | .digestRewrite => true
  | .telemetry _ _ => true
  | .linkUp speed width => (1 ≤ speed && speed ≤ 3) && (1 ≤ width && width ≤ 2)
  | .commandRateAllowance => true

end Sys2Proof
end

