-- ==== Sys2Proof/Decode.lean ====
section
/-! DEFINITION. The decoder over the rows of spec/opcode_table.json that give bits. No row of this table gives any (DESIGN CHOICE, log entry 2): a step reaches the node as itself, through `State.pending`. -/

namespace Sys2Proof

/-- The step that a word spells: none, since the table gives no row any bits. -/
def decodeTableWord (_nbits _w : Nat) : Option Instr := none

end Sys2Proof
end

