-- ==== Sys2Proof/Machine/State.lean ====
section
/-! DEFINITION. The state of the UAN-3264 as plain data. A scalar that a BAR0 register shows has its one home in the register file `State.regs`, under its own offset (R509); Tarn's bytes have theirs in `State.tarn` (R492), but for the two engines' point and group state, which is kept record by record in each `Engine` and shown as bytes through the Tarn window (R208, R245). The structures below hold what no register holds: queues, records in flight, non-volatile stores and the working state of the units. -/

namespace Sys2Proof.Machine

/-! ## Sparse stores -/

/-- Cells at strictly rising keys, none equal to what an unlisted key reads as. -/
abbrev Sparse (α : Type) := List (Nat × α)

/-! ## The input stream (R267-R276) -/

/-- An input record (Table 9-1). Before admission its `isn` is 0. -/
structure InRec where
  isn : U64 := 0
  time : U64 := 0
  source : U16 := 0
  ssn : U16 := 0
  kind : Byte := 0
  flags : Byte := 0
  payload : U64 := 0
  /-- Empty, or the 64 B extension. -/
  ext : List Byte := []
  deriving DecidableEq, Repr

/-- A taken CFG or REC command whose records wait for Inlet (R119): one BODY per record (Table 9-5). -/
structure CmdUnit where
  opcode : U16 := 0
  target : Nat := 0
  bodies : List (List Byte) := []
  /-- Records admitted already. -/
  sent : Nat := 0
  /-- Taken while Inlet's command credit was exhausted: CTRL takes nothing behind it (R119). -/
  waits : Bool := false
  /-- The whole object image, for a CFG command. -/
  image : List Byte := []
  cfg : Bool := false
  tag : U32 := 0
  flags : U16 := 0
  /-- Wellspring time at which CTRL took the command: the TIMESTAMP of its records. -/
  time : U64 := 0
  deriving DecidableEq, Repr

/-- Inlet, the input merger. -/
structure Inlet where
  /-- Last ISN admitted (ISN_HWM, R108). -/
  isn : U64 := 0
  /-- TICK_NO of the last TICK issued (R269). -/
  tickNo : U64 := 0
  /-- Records that sources have offered and Inlet has not admitted, oldest first (R271). -/
  waiting : List (Nat × InRec) := []
  /-- Host commands taken and not yet admitted, oldest first. -/
  cmds : List CmdUnit := []
  /-- The rotation's next place: 0-47 lanes, 48-49 Newts, 50-57 CAN channels (R271). -/
  rot : Nat := 0
  /-- The record that the next admission takes whatever waits: one that waits behind the SOURCE_GAP that it revealed (R274), the mark of a capture armed in SETUP, or the STATUS record that follows a mark (R329). -/
  reveal : Option InRec := none
  /-- Next SSN of each source, by SOURCE word (R266). -/
  ssn : Sparse U16 := []
  /-- SSN expected of each source that has had a record admitted this run (R274). -/
  expect : List (Nat × U16) := []
  /-- Sources that marked a loss (R274). -/
  lost : List Nat := []
  /-- The stream window (R273), oldest first. -/
  stream : List InRec := []
  /-- A hold of R272 was under way at the last admission opportunity. -/
  holding : Bool := false
  /-- Admitted CFG commands whose barrier has not been passed, by ISN of the last record. -/
  barriers : List (Nat × CmdUnit) := []
  deriving DecidableEq, Repr

/-! ## Points, groups and events -/

/-- A point state record (Table 7-5). STATE_CRC is computed when the record is read as bytes; `crcFlip` is by what it differs from the right one. -/
structure PtState where
  state : Byte := 0
  sub : U16 := 0
  value : F32 := 0
  prev : F32 := 0
  timer : U16 := 0
  blockTimer : U16 := 0
  lastEsn : BitVec 48 := 0
  coalesced : U16 := 0
  lastIsn : U32 := 0
  crcFlip : U32 := 0
  deriving DecidableEq, Repr

/-- A group state half (Table 8-4), with its STATE_CRC as a point state record has it. -/
structure GrState where
  worst : Byte := 0
  gflags : Byte := 0
  callState : Byte := 0
  firstOut : U32 := 0
  activeCnt : U32 := 0
  unackedCnt : U32 := 0
  faultCnt : U32 := 0
  floodCnt : U16 := 0
  floodTimer : U16 := 0
  blockTimer : U16 := 0
  callTimer : U16 := 0
  canTimer : U16 := 0
  newCnt : U16 := 0
  crcFlip : U32 := 0
  deriving DecidableEq, Repr

/-- One engine's records of a region: what an unlisted index holds, and the others. `live` is false from entry to SETUP to entry to RUN, when the region reads as zero bytes (R94, R246). -/
structure Region (α : Type) where
  live : Bool := false
  dflt : α
  cells : Sparse α := []
  deriving DecidableEq, Repr

/-- The running totals of one group (R247). `worst` is the member state of highest rank so far (R248). -/
structure Totals where
  active : Nat := 0
  unacked : Nat := 0
  fault : Nat := 0
  worst : Byte := 1
  deriving DecidableEq, Repr

/-- An event record (Table 9-8). `mac` holds bytes 0x18-0x1F of a CUSTODY_SEAL (R288); `prio` is the ring it goes to (R279); `custody` tells that the custody chain covers it (R287). -/
structure Event where
  esn : BitVec 48 := 0
  type : Byte := 0
  engine : EngineId := .A
  time : U64 := 0
  pointId : BitVec 23 := 0
  quality : BitVec 3 := 0
  epoch : BitVec 6 := 0
  stNew : Byte := 0
  stOld : Byte := 0
  sub : U16 := 0
  value : F32 := 0
  isnLo : U32 := 0
  mac : U64 := 0
  prio : Nat := 0
  custody : Bool := false
  deriving DecidableEq, Repr

/-- An alarm engine (R296-R324): its service state, the engine-wide state of Table 9-7, its own state records and its queue toward Outlet. -/
structure Engine where
  /-- Table 10-1. -/
  svc : Nat := 0
  /-- Table 10-2 code of the last failure. -/
  lastCause : Nat := 0
  /-- FRC of the failures of the last 3,600 s, newest first (R315). -/
  failTimes : List Nat := []
  /-- Failed its vector test in SELFTEST (R299). -/
  vecFailed : Bool := false
  /-- Reached IN_SERVICE from PROVING and not yet handed the hold (R314). -/
  proved : Bool := false
  /-- CORE clocks for which it has held this run, the present hold left out, and the FRC at which the present hold began (AE_HOLD_TIME). -/
  heldClocks : Nat := 0
  holdSince : Nat := 0
  /-- FRC at the end of its last copy (R313). -/
  provingSince : Nat := 0
  /-- ENGINE_CTL HANDOVER names this engine (R318). -/
  handReq : Bool := false
  /-- Engine-wide state of Table 9-7: EVAL_ISN and NEXT_ESN, and the rest below. -/
  evalIsn : U64 := 0
  nextEsn : BitVec 48 := 1
  lastTick : U64 := 0
  tickEpoch : BitVec 6 := 0
  tickQual : BitVec 3 := 0
  tickCap : U32 := 0
  tickRel : BitVec 48 := 1
  custN : Nat := 0
  groupRefresh : Bool := false
  nodeRefresh : Bool := false
  withheldCnt : U32 := 0
  sealNo : U16 := 0
  /-- A seal fell due while node events were withheld, with its cause (R284). -/
  sealDue : Option Byte := none
  /-- Last Skink status evaluated (R305). -/
  stHolder : Byte := 0
  stSvc : Byte := 0
  stCause : Byte := 0
  /-- EPOCH_CHANGE of cause RUN_START has been emitted (R278). -/
  runStarted : Bool := false
  pts : Region PtState := { dflt := { } }
  grs : Region GrState := { dflt := { } }
  /-- WORST and GFLAGS after the previous sweep, or as the last mark evaluated found them (R252 step 6, R40). -/
  swept : Sparse (Byte × Byte) := []
  totals : Sparse Totals := []
  /-- Channel, identifier and stage of the frames that each group's call has used (Table 8-9). -/
  called : Sparse (List (Nat × U32 × Nat)) := []
  /-- FRC at which it last evaluated a TICK (R361). -/
  tickAt : Nat := 0
  /-- Groups whose flood window opened in the TICK under evaluation (R250). -/
  opened : List Nat := []
  /-- How far that TICK's evaluation has come: the points and the groups before these have been visited, and of what follows 1 = the refresh, 2 = the health report, 3 = the seal is done (the model's own fields). -/
  sweepAt : Nat := 0
  groupAt : Nat := 0
  tickStage : Nat := 0
  /-- Points holding UNREPORTED now, and at the last sweep (OUT_COALESCED_PTS). -/
  unreported : Nat := 0
  unreportedSwept : Nat := 0
  /-- Events not yet handed to Outlet, oldest first (R280). -/
  evq : List Event := []
  /-- Events of the record under evaluation that found no event credit in REPLAY, oldest first: the engine waits with them (R286). -/
  evWait : List Event := []
  /-- Audit buffer in Skink: block and CRCs (R307). -/
  audit : Option (Nat × List U32) := none
  /-- Indices that broke a rule at the oldest outstanding DIVERGE record evaluated (R308), and at those behind it. -/
  report : Option (List Nat) := none
  reports : List (List Nat) := []
  /-- Stopped at a COPY record while its state is copied (R312). -/
  stopped : Bool := false
  /-- H0-H21, NEXT_ESN and CFG_EPOCH of the last checkpoint TICK (R326, R327). -/
  hashes : List U64 := []
  deriving DecidableEq, Repr

/-! ## Outlet (R277-R294) and the legacy FIFO -/

/-- An ESN whose copies are being merged (R280). -/
structure Merge where
  esn : BitVec 48
  copies : List Event
  deriving DecidableEq, Repr

/-- A released ESN in the backlog (R282, R283). -/
structure Backlog where
  ev : Event
  /-- The other engine's copy, when it differed. -/
  mismatch : Option Event := none
  /-- Its place in the backlog's part of the ELASTIC pool, in records of 32 B (R506). -/
  place : Nat := 0
  /-- Engines whose copies the host rings take, in delivery order. -/
  takes : List EngineId := []
  written : Nat := 0
  consumed : Nat := 0
  deriving DecidableEq, Repr

/-- One engine's custody chain (R290): M, and the custody events since the last seal, 32 B each. -/
structure Chain where
  mac : U64 := 0
  evs : List (List Byte) := []
  deriving DecidableEq, Repr

/-- Outlet, the event delivery stage. -/
structure Outlet where
  merge : List Merge := []
  nextRel : BitVec 48 := 1
  backlog : List Backlog := []
  chainA : Chain := { }
  chainB : Chain := { }
  /-- Legacy FIFO entries, four words each, oldest first (R132, R133). -/
  legFifo : List (List U32) := []
  /-- W0-W3 as the last read of LEG_EVT_W0 latched them (R134). -/
  legLatch : List U32 := [0, 0, 0, 0]
  /-- Events of the datagram being filled (R293). -/
  pub : List Event := []
  pubSeq : U16 := 0
  /-- Copies selected for CAN publication, oldest first (R294). -/
  pubCan : List Event := []
  /-- LAST has not been written since the trend entry was set (R291), by entry. -/
  trendFresh : List Nat := []
  deriving DecidableEq, Repr

/-! ## HIF and command intake (R96-R138, R504-R506) -/

/-- A completion (Table 4-6). `irqNow` is FLAGS[1] of its command; `fence` waits for it. -/
structure Compl where
  tag : U32
  opcode : U16
  status : U16
  result : U64
  irqNow : Bool := false
  deriving DecidableEq, Repr

/-- A command taken and not complete (R120): `left` lists the engines in service still to evaluate its record. -/
structure Running where
  tag : U32
  opcode : U16
  irqNow : Bool
  isn : U64
  status : U16 := 0
  left : List EngineId := []
  /-- DIR commands wait for their own step. -/
  dir : Bool := false
  /-- The image and the host address of a POINT_READ (R238). -/
  img : List Byte := []
  addr : Nat := 0
  deriving DecidableEq, Repr

/-- The host interface and CTRL's command intake. -/
structure Hif where
  linkUp : Bool := false
  /-- The function is in D3hot (R96, R99). -/
  d3hot : Bool := false
  /-- The host's index of each ring that the node goes by: RING_START, then each doorbell entry within the ring's bounds (R107, R127). -/
  hostIdx : Sparse U32 := []
  /-- Descriptors prefetched and not taken: ring and bytes, in arrival order. -/
  fetched : List (Nat × List Byte) := []
  /-- A doorbell read is outstanding, and a kick has asked for one more (R105). -/
  dbOut : Bool := false
  kick : Bool := false
  /-- Descriptor fetches issued and not arrived, by ring. -/
  fetching : Sparse Nat := []
  heartbeat : U64 := 0
  /-- Set once SETUP has been reached: the heartbeat runs (R110). -/
  beating : Bool := false
  /-- Completions ready to be written, and completions kept (R111, R123) with those not yet written since the ring was enabled counted by `unwritten`. -/
  ready : List Compl := []
  kept : List Compl := []
  unwritten : Nat := 0
  running : List Running := []
  /-- Entries reported since the ring's last interrupt (R126). -/
  unsig : Sparse Nat := []
  /-- Command-rate allowance (R505). -/
  allowance : Int := 0
  /-- Prefetch quota of each ring; 16 where unlisted (R135). -/
  prefetch : Sparse Nat := []
  /-- Requested backlog MiB, and the value in force (R506). -/
  elasticReq : Nat := 2
  elasticNow : Nat := 2
  trendQuota : Nat := 10000
  /-- Rings and the trend table whose quota was cut below their use, until the next grant (R32, R504). -/
  prefetchCut : List Nat := []
  trendCut : Bool := false
  cmdQuota : Nat := 16
  deriving DecidableEq, Repr

/-! ## Skink (R296-R324) and Spawn (R325-R350) -/

/-- A state copy under way (R312). -/
structure Copy where
  source : EngineId
  target : EngineId
  isn : U64 := 0
  started : Bool := false
  deriving DecidableEq, Repr

/-- The twin supervisor. -/
structure Skink where
  holder : Option EngineId := none
  handover : Bool := false
  preferred : EngineId := .A
  auditPos : Nat := 0
  auditPasses : Nat := 0
  /-- ARG of the DIVERGE that is outstanding (R307). -/
  diverge : Option U32 := none
  /-- Those of further DIVERGE records that are outstanding behind it, oldest first (R307). -/
  diverges : List U32 := []
  /-- Copy mismatches of point events that wait, by local point (R310). -/
  mismatches : List Nat := []
  copy : Option Copy := none
  /-- Holder failed and no STATUS of the new holder offered yet; FRC at which the hand-over began. -/
  handStart : Nat := 0
  /-- Levels of INTLK_IN_N and PAIR_SENSE_N (R49). -/
  intlkInHigh : Bool := true
  pairSenseHigh : Bool := true
  claim : Bool := false
  /-- Shared outputs may be driven: 3 µs have passed since the claim (R320). -/
  sharing : Bool := false
  /-- TICK_NO after which the last AUDIT record was offered or skipped. -/
  auditTick : U64 := 0
  deriving DecidableEq, Repr

/-- A unit that Spawn streams to SPAWN_OUT (Table 11-9). -/
structure SpawnUnit where
  kind : Nat
  /-- Bytes not yet written. -/
  bytes : List Byte := []
  /-- A snapshot unit: the ISN of its mark. -/
  snap : Option U64 := none
  /-- The first unit of its capture: INFO starts at 1 with it. -/
  restart : Bool := false
  first : Bool := true
  /-- No more bytes will be added. -/
  closed : Bool := false
  err : Bool := false
  deriving DecidableEq, Repr

/-- A SPAWN_OUT buffer written and kept (R111): its descriptor words and its bytes. -/
structure SpawnBuf where
  len : Nat
  dflags : U16
  info : U32
  data : List Byte
  deriving DecidableEq, Repr

/-- Replay (R343-R348). -/
structure Replay where
  rflags : U32 := 0
  stopIsn : U64 := 0
  tag : U32 := 0
  irqNow : Bool := false
  /-- Bytes read from SPAWN_IN and not yet consumed. -/
  buf : List Byte := []
  /-- INFO sequence of the last buffer. -/
  seq : U32 := 0
  lastSeen : Bool := false
  /-- 0 header, 1 sections, 2 mark, 3 records. -/
  stage : Nat := 0
  region : Nat := 1
  firstIsn : U64 := 0
  snapLen : Nat := 0
  nodeId : BitVec 6 := 0
  prevIsn : U64 := 0
  /-- H0-H21, NEXT_ESN and CFG_EPOCH of the CHECKPOINT records behind the last TICK read, until they have been compared. -/
  ckpt : List U64 := []
  compared : Nat := 0
  mismatch : Bool := false
  /-- FRC and TIMESTAMP at the mark, and of the last record evaluated (SPAWN_RP_SPEED). -/
  startFrc : Nat := 0
  firstTime : U64 := 0
  lastTime : U64 := 0
  lastFrc : Nat := 0
  deriving DecidableEq, Repr

/-- Spawn, the replay journal. -/
structure Spawn where
  trigTable : List U32 := []
  /-- Armed in SETUP: the mark is ISN 1 (R329). -/
  armedInSetup : Bool := false
  /-- A mark is wanted: Gecko offers it once every barrier has been applied (R330). -/
  markWanted : Bool := false
  /-- A mark has been offered and the snapshot is not complete. -/
  snapping : Bool := false
  /-- Source engine's records copied at the mark (copy-before-write). -/
  staging : Option (EngineId × Region PtState × Region GrState × U64) := none
  /-- The mark of the capture has been admitted: admitted records are journalled. -/
  journaling : Bool := false
  /-- Journal ring, one entry per record, oldest first; `torn` when the oldest has lost bytes to an overwrite. -/
  ring : List (List Byte) := []
  torn : Bool := false
  /-- Records that wait behind a checkpoint's CHECKPOINT records (R326). -/
  behind : List (List Byte) := []
  /-- Bytes written after the trigger record (R337). -/
  post : Nat := 0
  /-- The checkpoint of `ckptDue` is to have a snapshot, decided at its TICK (step 1 of Table 11-4). -/
  ckptSnap : Bool := false
  triggered : Bool := false
  units : List SpawnUnit := []
  /-- A unit of this capture has been formed. -/
  numbered : Bool := false
  kept : List SpawnBuf := []
  unwritten : Nat := 0
  seq : U32 := 0
  ckptNo : U16 := 0
  /-- The checkpoint TICK just evaluated (ISN, time, number) waits for its CHECKPOINT records. -/
  ckptDue : Option (U64 × U64 × U64) := none
  share : Nat := 16
  /-- Journal bytes written since the capture began: where in the ring the next goes (R333). -/
  wrote : Nat := 0
  /-- ISNs of the marks whose snapshot unit left without ERR (R338). -/
  goodMarks : List U64 := []
  replay : Replay := { }
  deriving DecidableEq, Repr

/-! ## Front end (R139-R202) -/

/-- The slot a lane is converting. -/
structure Slot where
  pos : Nat
  defn : Nat
  /-- The definition as it stood when the slot began (R159). -/
  image : List Byte
  /-- Its linearisation table as it stood then (R189); empty without one. -/
  table : List Byte := []
  valid : Bool
  adjacent : Bool := false
  clampSeen : Bool := false
  /-- The definition's settling counter stood above 0 as the slot began; the slot counts it down (R176, R178). -/
  settling : Bool := false
  /-- The calibration factor of its source as the slot began (R182). -/
  factor : F32 := 0
  deriving DecidableEq, Repr

/-- A switched row of the crosspoint (Table 5-1): an input of a lane, a pole of a source, a bias generator. -/
inductive XpRow where
  | lanePos (n : Nat)
  | laneNeg (n : Nat)
  | poleA (k : Nat)
  | poleB (k : Nat)
  | bias (k : Nat)
  deriving DecidableEq, Repr

/-- What a row is joined to: a terminal, or an internal row of Table 5-1. -/
inductive XpEnd where
  | terminal (t : Nat)
  | feGnd
  | ref2500
  | ref1k
  | ref10k
  | short
  deriving DecidableEq, Repr

/-- A closed switch of the crosspoint. -/
structure XpSwitch where
  row : XpRow
  to_ : XpEnd
  deriving DecidableEq, Repr

/-- A front-end lane. -/
structure Lane where
  slot : Option Slot := none
  /-- The switches that the lane's slot has closed (R141). -/
  closed : List XpSwitch := []
  /-- The lane has begun no slot since entry to RUN or the end of the activation pause: its first is position 0's (R174). -/
  atStart : Bool := false
  nextPos : Nat := 0
  calDue : Bool := false
  calActive : Bool := false
  calItem : Nat := 0
  /-- The next slot follows a calibration slot (R179). -/
  afterCal : Bool := false
  /-- Samples held until an old lane reports DRAINED (R198), oldest first. -/
  held : List InRec := []
  /-- Definitions moved away whose last sample is still in flight (R197), oldest first. -/
  drain : List Nat := []
  /-- Consecutive rejections by item (R181). -/
  rejects : Sparse Nat := []
  /-- FRC at the end of its last complete calibration cycle (LANE_CAL_AGE). -/
  calDoneAt : Nat := 0
  /-- Accepted measurements by item, newest first, at most four. -/
  accepted : List (Nat × List F32) := []
  deriving DecidableEq, Repr

/-- The front end's working state of one channel definition. -/
structure DefState where
  /-- Settling samples left (R176). -/
  settle : Nat := 0
  /-- What the next slot loads: 0 = nothing, 1 = SETTLE_N, 2 = SETTLE_N + EX_SETTLE; 2 at entry to RUN. -/
  load : Nat := 2
  /-- Last completed sample: value and flags, with the FRC at its end (R191). -/
  value : F32 := 0
  flags : Byte := 0
  endAt : Nat := 0
  seen : Bool := false
  /-- Last value without CM_FAULT and OVERRANGE. -/
  good : Option F32 := none
  /-- An excursion qualified too late for the last sample and stood at its end (R193). -/
  cmLate : Bool := false
  deriving DecidableEq, Repr

/-- The front end. -/
structure Fe where
  lanes : Sparse Lane := []
  defs : Sparse DefState := []
  /-- Accepted measurements of source items (2k for CAL_I, 2k + 1 for CAL_U), newest first, and consecutive rejections. -/
  exAccepted : List (Nat × List F32) := []
  exRejects : Sparse Nat := []
  /-- EX_MODE of the last definition that each source served (R180). -/
  exModes : Sparse Nat := []
  deriving DecidableEq, Repr

/-! ## Isolated digital I/O (R351-R374) -/

/-- A DIO bank: field side and logic side. -/
structure Bank where
  /-- LEVELS, fault bit of the last record that found credit (R356). -/
  lastLevels : U16 := 0
  lastFault : Bool := false
  initial : Bool := false
  fieldResetRec : Bool := false
  commanded : U16 := 0
  /-- Levels that the pins show. -/
  pins : U16 := 0
  wdExpired : Bool := true
  disagree : U16 := 0
  agree : U16 := 0
  causes : List FaultCause := []
  /-- Safe-state store of the field side, two bits a channel (R363). -/
  safe : U32 := 0
  /-- What HOLD holds: the switches' levels as the watchdog expired, 0 after a field-side reset (R363). -/
  held : U16 := 0
  /-- The field supply is present (R369). -/
  powered : Bool := true
  deriving DecidableEq, Repr

/-- A counter of CNT mode (R359): its count, and the count last reported. -/
structure Counter where
  count : U32 := 0
  prev : U32 := 0
  deriving DecidableEq, Repr

/-- The isolated I/O controllers and their banks. -/
structure Dio where
  bank0 : Bank := { }
  bank1 : Bank := { }
  bank2 : Bank := { }
  bank3 : Bank := { }
  counters : Sparse Counter := []
  stalledA : Bool := false
  stalledB : Bool := false
  /-- Levels held in REPLAY (Table 12-7). -/
  replayHold : Option U64 := none
  /-- The holder's requests as last built: Croak and owner terms. -/
  callReq : U64 := 0
  ownReq : U64 := 0
  deriving DecidableEq, Repr

/-! ## CAN FD (R375-R407) -/

/-- An occupied transmit slot (R379). -/
structure TxSlot where
  idx : Nat
  /-- Order of entry into the slots. -/
  seq : Nat
  node : Bool
  id : U32
  rtr : Bool
  brs : Bool
  oneShot : Bool
  report : Bool
  dlc : BitVec 4
  tag : U16
  data : List Byte
  attempts : Nat := 0
  inTx : Bool := false
  cancel : Bool := false
  sof : U64 := 0
  deriving DecidableEq, Repr

/-- A cancel that waits for an attempt to end (R387). -/
structure Cancel where
  tag : U32
  irqNow : Bool
  cancelled : Nat
  sent : Nat
  deriving DecidableEq, Repr

/-- The echo of a host frame's outcome (R384), held until the frames that ended before it have left the receive FIFO (R397). -/
structure Echo where
  /-- Frames of the FIFO that ended before the outcome. -/
  behind : Nat
  slot : TxSlot
  code : Nat
  time : U64
  seq : U32
  deriving DecidableEq, Repr

/-- A CAN FD channel. -/
structure Can where
  slots : List TxSlot := []
  txSeq : Nat := 0
  /-- Receive FIFO, oldest first: frame, SOF time, SEQ. -/
  rxFifo : List (CanFrame × U64 × U32) := []
  tecCnt : Nat := 0
  recCnt : Nat := 0
  /-- Frames received, modulo 2^32 (Table 13-13 SEQ). -/
  seq : U32 := 0
  lostBefore : Bool := false
  cancelling : List Cancel := []
  /-- Echoes that wait for the walker, oldest first. -/
  echoes : List Echo := []
  /-- BUS_OFF waits for the frame in progress: TAG and IRQ_NOW of its command (R404). -/
  busOffWait : Option (U32 × Bool) := none
  /-- Termination as CAN_CHANNEL_CTL set it, CAN_CFG.TERM deciding otherwise. -/
  term : Option Bool := none
  /-- Base and extent the walker uses, when not the share's (R395). -/
  oldWalk : Option (Nat × Nat) := none
  deriving DecidableEq, Repr

/-! ## Wellspring and Ethernet (R408-R436) -/

/-- An armed switch (R411) and the command that waits for it. -/
structure Switch where
  at_ : U64
  step : Int
  normal : Bool
  rate : U64 := 0
  inc : U64 := 0
  late : Bool := false
  cmd : Option (U32 × Bool) := none
  func : Nat := 0
  deriving DecidableEq, Repr

/-- A timed output (R431-R433). -/
structure Tmo where
  armed : Bool := false
  fired : Bool := false
  late : Bool := false
  level : Bool := false
  /-- Next PERIODIC boundary to serve, as n. -/
  next : Nat := 0
  /-- FRC at which the pulse began. -/
  began : U64 := 0
  /-- A pulse too short for its DIO route (R431). -/
  routeErr : Bool := false
  deriving DecidableEq, Repr

/-- The last Announce of a sender on a port, with the FRC of its arrival (R421). -/
structure Heard where
  master : U64
  port : Nat
  at_ : Nat
  deriving DecidableEq, Repr

/-- The node servo's working state (R421-R428). -/
structure Servo where
  master : Option (U64 × Nat) := none
  /-- Dataset of the present master, and the best foreign master seen. -/
  best : Option PtpAnnounce := none
  bestPort : Nat := 0
  /-- FRC at the last Announce of the best foreign master. -/
  bestSeen : Nat := 0
  /-- Senders of Announce messages, the latest last. -/
  heard : List Heard := []
  lockRun : Nat := 0
  /-- A master has been locked to; its identity (R425). -/
  lastMaster : Option (U64 × Nat) := none
  /-- Path-delay measurements of SUSPECT (R426), oldest first. -/
  pds : List Int := []
  haveD : Bool := false
  d : Int := 0
  pred : Int := 0
  predOk : Bool := false
  /-- Last t2 − t1, for the mean path delay. -/
  fwd : Int := 0
  /-- sequenceId and transmit time of the outstanding Delay_Req. -/
  t3 : Option (U16 × U64) := none
  /-- Frequency estimate, as a RATE. -/
  freq : U64 := 0x0500000000000000
  /-- sequenceId of the next Delay_Req. -/
  seq : U16 := 0
  deriving DecidableEq, Repr

/-- An Ethernet port. -/
structure Port where
  /-- Frames of the servo that wait, with the sequenceId of their Delay_Req, and publication datagrams. -/
  txServo : List (U16 × List Byte) := []
  txPub : List (List Byte) := []
  pubId : U16 := 0
  /-- TS_ID of the frames whose FCS has not yet left the MAC, and the time of their SFD (R419). -/
  tsWait : List (U16 × U64) := []
  txts : List (U16 × U64) := []
  latch : Option (U16 × U64) := none
  /-- The port failed its loopback test: out of service until the next reset (Table 3-3). -/
  failed : Bool := false
  deriving DecidableEq, Repr

/-- Wellspring, the network time base. -/
structure Wellspring where
  frc : U64 := 0
  normal : Bool := false
  offset : U64 := 0
  rate : U64 := 0x0500000000000000
  /-- INCREMENT counter, 64.32 fixed point. -/
  counter : BitVec 96 := 0
  inc : U64 := 0x0000000500000000
  epoch : BitVec 6 := 0
  /-- FRC as a read of WS_TIME_LO latched it, until WS_FRC_LO is read (R435). -/
  frcSnap : Option U64 := none
  quality : BitVec 3 := 0
  /-- The quality that the host last gave (R429); HOLDOVER before it has declared lock. -/
  hostQuality : BitVec 3 := 3
  armed : Option Switch := none
  servoState : Nat := 0
  servo : Servo := { }
  tmos : Sparse Tmo := []
  port0 : Port := { }
  port1 : Port := { }
  deriving DecidableEq, Repr

/-! ## RTC (R437-R456) -/

/-- A frozen shadow set: SEC, FRAC, LOCAL_OFS, DST_ACTIVE of one edge. -/
structure RtcSet where
  sec : BitVec 40
  frac : BitVec 15
  ofs : Byte
  dst : Bool
  deriving DecidableEq, Repr

/-- The real-time clock in its backup domain. -/
structure Rtc where
  sec : BitVec 40 := 0
  frac : BitVec 15 := 0
  /-- Oscillator ticks since the running shift began (R445). -/
  shiftPhase : Nat := 0
  setPending : Bool := false
  /-- A shift written and not begun: TICKS and SIGN. -/
  shiftNext : Option (Nat × Bool) := none
  /-- LOCAL_OFS in force, and the pending one. -/
  ofs : Byte := 0
  ofsNext : Option Byte := none
  dst : Bool := false
  dstNext : Option Bool := none
  host : Option RtcSet := none
  hostStale : Bool := false
  leg : Option RtcSet := none
  legStale : Bool := false
  /-- Lilypad's own set (R443, R463). -/
  lil : Option RtcSet := none
  /-- Time staged by a legacy SET, to be committed with FRAC 0. -/
  legCommit : Option (BitVec 40) := none
  cellHigh : Bool := true
  /-- WAKE_N is driven low. -/
  wakeN : Bool := false
  /-- Oscillator ticks to the next wake while RTC_WAKE_CTL.EN is set (R449). -/
  wakeLeft : Nat := 0
  /-- Oscillator ticks since VBK was last measured (R453). -/
  vbkPhase : Nat := 0
  /-- On VBK: the logic supply is absent. -/
  onVbk : Bool := false
  swoSeen : U32 := 0
  /-- The seven staged bytes of the forerunner window: SEC, MIN, HOUR, WDAY, DAY, MON, YEAR. -/
  legStage : List Byte := [0, 0, 0, 0, 0, 0, 0]
  deriving DecidableEq, Repr

/-! ## Panel (R457-R468) -/

/-- Lilypad. -/
structure Panel where
  absent : Bool := false
  vppOff : Bool := false
  /-- A flip waits for the frame boundary, with the command to complete. -/
  flip : Option (Option (U32 × Bool)) := none
  front : Bool := false
  shiftDue : Bool := false
  /-- Drive voltage and current code to apply at the next boundary. -/
  drive : Option (Nat × Nat) := none
  /-- A frame is being scanned out (the model's own field). -/
  scanning : Bool := false
  deriving DecidableEq, Repr

/-! ## Flash, update engine, settings, slot store (R67-R72, R469-R502) -/

/-- An image slot of flash: the shipped image, or pieces stored by an update. -/
structure ImageSlot where
  factory : Bool := false
  pieces : Sparse (List Byte) := []
  deriving DecidableEq, Repr

/-- A copy of the boot record, field by field as Table 17-12 has it. -/
structure BootRec where
  magic : U32 := 0
  seq : U32 := 0
  slot : Byte := 0
  settings : Byte := 0
  mode : Byte := 0
  trialBoots : Byte := 0
  prevSlot : Byte := 0
  prevSettings : Byte := 0
  trialMin : U16 := 0
  session : U32 := 0
  reason : Byte := 0
  resv : BitVec 24 := 0
  imageVer : U32 := 0
  crc : U32 := 0
  deriving DecidableEq, Repr

/-- A copy of the session record (R473), with the durable one of the states IDLE (0) and RECEIVING (1). -/
structure SesRec where
  id : U32 := 0
  pieces : Nat := 0
  hash : List Byte := []
  target : Nat := 0
  state : Nat := 0
  seq : U32 := 0
  crc : U32 := 0
  deriving DecidableEq, Repr

/-- The update session as its flash copies give it (R473, R479): the record in force, and the pieces whose bit both bitmap copies show set, ascending. -/
structure Session where
  id : U32 := 0
  pieces : Nat := 0
  hash : List Byte := []
  target : Nat := 0
  state : Nat := 0
  bitmap : List Nat := []
  seq : U32 := 0
  deriving DecidableEq, Repr

/-- One base generation (R499): its header, the bytes of the seven Tarn regions, and the RWS registers. -/
structure Generation where
  format : Nat := 0
  epoch : U16 := 0
  seq : Nat := 0
  /-- SHA-256 of the body. -/
  sha : List Byte := []
  tarn : Sparse Byte := []
  rws : List (Nat × U32) := []
  deriving DecidableEq, Repr

/-- One journal entry (R499): the header's CFG_EPOCH, OPCODE, target, length and CRC32, and the command's image. -/
structure JEntry where
  epoch : U16
  opcode : U16
  target : Nat
  length : Nat
  crc : U32
  image : List Byte
  deriving DecidableEq, Repr

/-- The quotas that QUOTA_SET has set (R504, Table 18-6), which the settings keep. -/
structure Quotas where
  /-- Backlog MiB of the ELASTIC pool. -/
  elastic : Nat := 2
  /-- Prefetch quota of each ring; 16 where unlisted. -/
  prefetch : Sparse Nat := []
  /-- CAN filter shares, channel 0 first. -/
  shares : List Nat := [2048, 2048, 2048, 2048, 2048, 2048, 2048, 2048]
  trend : Nat := 10000
  cmd : Nat := 16
  deriving DecidableEq, Repr

/-- A write of a copy in a non-volatile store that a loss of power can cut (R71, R482): what the copy held before. -/
inductive CopyWrite where
  | slotStore (at_ : Nat) (old : List Byte)
  | bootRec (copy : Nat)
  | session (copy : Nat)
  deriving DecidableEq, Repr

/-- A settings region and its base area. -/
structure Settings where
  gens : List Generation := []
  journal : List JEntry := []
  /-- Format of the region, 0 = none. -/
  format : Nat := 0
  /-- Byte of the journal ring at which the next entry goes. -/
  pos : Nat := 0
  quotas : Quotas := { }
  deriving DecidableEq, Repr

/-- The node's flash, OTP and the backplane slot store: what a reset does not touch (R74). -/
structure Nvm where
  slotA : ImageSlot := { factory := true }
  slotB : ImageSlot := { }
  boot0 : BootRec := { magic := 0x31524255, seq := 1, crc := 0x39DC9E28 }
  boot1 : BootRec := { }
  ses0 : SesRec := { }
  ses1 : SesRec := { }
  /-- Bits set in the two copies of the piece bitmap, ascending. -/
  bits0 : List Nat := []
  bits1 : List Nat := []
  set0 : Settings := { format := 1 }
  set1 : Settings := { }
  spare : Nat := 2042
  /-- Erase counts, by number of the sector (R502). -/
  erases : Sparse Nat := []
  /-- OTP image key slots: hash, revoked. -/
  keys : List (Nat × List Byte × Bool) := []
  custody : Option (List Byte) := none
  bank0Spent : Bool := false
  bank1Spent : Bool := false
  /-- The slot store's 64 KiB; an unlisted byte reads 0xFF. -/
  slotStore : Sparse Byte := []
  /-- The custody key that is being programmed into the first unspent bank (R490). -/
  programming : Option (List Byte) := none
  /-- A reset has cut the erase that follows a confirmation: the next boot takes it up (R486, R489). -/
  eraseDue : Bool := false
  deriving DecidableEq, Repr

/-- The erase that follows a confirmation (R486): the FRC at which it ends, and the OTP key slots as they stand until the revocation that comes after it. -/
structure Erase where
  ends : Nat
  keys : List (Nat × List Byte × Bool)
  deriving DecidableEq, Repr

/-- The update engine's volatile state. -/
structure Upd where
  /-- Table 17-4 state. -/
  state : Nat := 0
  /-- Pieces in on-chip buffers, oldest first: index and bytes. -/
  bufs : List (Nat × List Byte) := []
  /-- Read-backs that have failed, by piece (R477). -/
  readFails : Sparse Nat := []
  /-- Seconds of trial left at the FRC `trialAt`. -/
  trialLeft : Nat := 0
  trialAt : Nat := 0
  /-- REASON of a failed verification (Table 17-10), and the part of the last hash failure. -/
  reason : Nat := 0
  failPart : Nat := 0xFF
  converting : Bool := false
  converted : Bool := false
  /-- FRC at which the activation pause began. -/
  pauseAt : Nat := 0
  erasing : Option Erase := none
  runSlot : Nat := 0
  runSettings : Nat := 0
  /-- Custody key words written since reset. -/
  keyWords : List (Nat × U32) := []
  deriving DecidableEq, Repr

/-- Gecko's working state (R494-R503). -/
structure Gecko where
  /-- Lines read by the scrubber since reset, by bank, and the FRC at the end of the last whole pass. -/
  scrubAt : Sparse Nat := []
  passAt : Nat := 0
  /-- Lines to be scrubbed at the next slot of their bank, and the words with a single-bit error. -/
  scrubQ : List (Nat × Nat) := []
  ceWords : List Nat := []
  writeback : Sparse Nat := []
  /-- Words with an uncorrectable error whose record has not been admitted. -/
  ueWords : List Nat := []
  /-- Barriers applied whose journal entry is not yet durable. -/
  journalQ : List JEntry := []
  /-- A base generation being written. -/
  saving : Option Generation := none
  /-- Journal entries that were durable when it started. -/
  saveMark : Nat := 0
  /-- Quiet time reached since the last configuration change is for DIGEST_REWRITE (R91). -/
  digestStale : Bool := false
  /-- The newest write of a slot-record, boot-record or session-record copy, which a loss of power can still cut, and the FRC at its start (the model's own field). -/
  writing : Option (CopyWrite × Nat) := none
  telemSeq : U32 := 0
  ceSince : Nat := 0
  ueSince : Nat := 0
  lossSince : Nat := 0
  overrunSince : Nat := 0
  /-- CORE clocks for which a lossless producer has held without credit since the last record (R503). -/
  waitClocks : Nat := 0
  lagSince : Nat := 0
  deriving DecidableEq, Repr

/-! ## What a step puts outside -/

/-- What the last step put on the node's outside: a host-memory entry of a ring with its index and address, other writes and reads of host memory, the addresses of the descriptors that a fetch reads, a message, a frame, a pin. -/
inductive Output where
  | ringEntry (ring : Nat) (idx : U32) (at_ : Nat) (data : List Byte)
  | hostWrite (addr : Nat) (data : List Byte)
  | hostRead (addr n : Nat)
  | statusPage (data : List Byte)
  | dbRead
  | fetch (ring : Nat) (at_ : List Nat)
  | msix (vec : Nat)
  | canFrame (ch : Nat) (id : U32) (rtr brs esi : Bool) (dlc : BitVec 4) (data : List Byte)
  | ethFrame (port : Nat) (data : List Byte)
  | dioFrame (bank : Nat) (levels : U16) (refresh : Bool)
  | wdExtend (bank : Nat)
  | panelFrame (data : List Byte)
  | pin (name : String) (level : Bool)
  | abort
  deriving DecidableEq, Repr

/-! ## The whole state -/

/-- The node. -/
structure State where
  /-- The register file: BAR0 offset and value, an unlisted offset reading its reset value. -/
  regs : Sparse U32 := []
  /-- High-word latches and low-word holds of the 64-bit pairs, by offset of _LO (R512, R513). -/
  latch : List (Nat × U32) := []
  hold : List (Nat × U32) := []
  /-- Tarn's bytes, the engines' state regions excepted; an unlisted byte reads 0 (R74). -/
  tarn : Sparse Byte := []
  inlet : Inlet := { }
  aeA : Engine := { }
  aeB : Engine := { }
  outlet : Outlet := { }
  hif : Hif := { }
  skink : Skink := { }
  spawn : Spawn := { }
  fe : Fe := { }
  dio : Dio := { }
  can : Sparse Can := []
  /-- Channels of the frames in the receive FIFOs, in the order in which they ended (R391). -/
  canWalk : List Nat := []
  ws : Wellspring := { }
  rtc : Rtc := { }
  panel : Panel := { }
  nvm : Nvm := { }
  upd : Upd := { }
  gecko : Gecko := { }
  /-- Effective behaviour revision fixed at boot (R84). -/
  behavBoot : Nat := 2
  /-- Data of the last register read (the host's view of a read step). -/
  hostRead : U32 := 0
  /-- What the last step put outside (the model's own field). -/
  out : List Output := []
  /-- Counter of the free values drawn (the model's own field). -/
  free : Nat := 0
  /-- Commands that wait, first in, first out. -/
  pending : List Instr := []
  deriving DecidableEq, Repr

/-- Why the node cannot take a step. -/
inductive Fault where
  /-- Raised by every step whose operand names a unit that the node does not have (a lane above 47, a ring above 30, a Tarn offset beyond 32 MiB). Safe: the hardware never sees such a step. -/
  | noSuchUnit
  deriving DecidableEq, Repr

/-- Why the model gives a step no meaning. -/
inductive Refusal where
  /-- Raised by an arm of `exec` that has no meaning yet. Safe: nothing can be proved of the step. -/
  | notModelled (mnemonic : String)
  deriving DecidableEq, Repr

/-- The node right after reset: MGMT_STATE RESET, Tarn and every queue empty (R74), the registers at their reset values, the non-volatile stores as the log says (entries 5-8). -/
def State.reset : State := { }

end Sys2Proof.Machine
end

