-- ==== Sys2Proof/Machine/Bits.lean ====
section
/-! DEFINITION. Bit fields (R5), little-endian bytes (R10) and the sparse stores that the machine keeps its registers and Tarn in. -/

namespace Sys2Proof.Machine

/-! ## Bit fields -/

/-- Field [lo + n − 1 : lo] of a word, as an unsigned integer (R5). -/
def fld {w : Nat} (v : BitVec w) (lo n : Nat) : Nat := (v.toNat >>> lo) % 2 ^ n

/-- Bit `i` of a word. -/
def bitAt {w : Nat} (v : BitVec w) (i : Nat) : Bool := v.toNat.testBit i

/-- A Bool as the value of a bit. -/
def b2n (b : Bool) : Nat := if b then 1 else 0

/-- A word with its field [lo + n − 1 : lo] replaced by `x`. -/
def setFld {w : Nat} (v : BitVec w) (lo n x : Nat) : BitVec w :=
  v &&& ~~~(BitVec.ofNat w ((2 ^ n - 1) <<< lo)) ||| BitVec.ofNat w ((x % 2 ^ n) <<< lo)

/-- A word with bit `i` set to `b`. -/
def setBit {w : Nat} (v : BitVec w) (i : Nat) (b : Bool) : BitVec w := setFld v i 1 (b2n b)

/-- A word laid out field by field: value and position of each. -/
def packU32 (fs : List (Nat × Nat)) : U32 :=
  fs.foldl (fun acc f => acc ||| BitVec.ofNat 32 (f.1 <<< f.2)) 0

/-- The value of a two's-complement field of `n` bits. -/
def sext (n x : Nat) : Int := if x % 2 ^ n < 2 ^ (n - 1) then (x % 2 ^ n : Nat) else (x % 2 ^ n : Nat) - (2 ^ n : Nat)

/-- An integer in `w` bits of two's complement. -/
def ofInt (w : Nat) (i : Int) : BitVec w := BitVec.ofInt w i

/-- A count one higher that saturates at all-ones (R13). -/
def satAdd {w : Nat} (v : BitVec w) (n : Nat) : BitVec w :=
  if v.toNat + n < 2 ^ w then v + BitVec.ofNat w n else BitVec.allOnes w

/-- Sequence comparison with wrap-around (R70): the older-to-newer distance lies between 1 and 2^31 − 1. -/
def newer32 (a b : U32) : Bool := decide (0 < (a - b).toNat) && decide ((a - b).toNat < 2 ^ 31)

/-! ## Bytes -/

/-- The number that little-endian bytes spell (R10). -/
def leNat : List Byte → Nat
  | [] => 0
  | b :: bs => b.toNat + 256 * leNat bs

/-- `n` little-endian bytes of a number (R10). -/
def leBytes : Nat → Nat → List Byte
  | 0, _ => []
  | n + 1, x => BitVec.ofNat 8 x :: leBytes n (x / 256)

/-- Byte `i` of a record; 0 beyond its end. -/
def byteAt (l : List Byte) (i : Nat) : Byte := l.getD i 0

/-- `n` bytes of a record from offset `o`. -/
def slice (l : List Byte) (o n : Nat) : List Byte := (l.drop o).take n

/-- The unsigned field of `n` bytes at offset `o`. -/
def leAt (l : List Byte) (o n : Nat) : Nat := leNat (slice l o n)

def u16At (l : List Byte) (o : Nat) : U16 := BitVec.ofNat 16 (leAt l o 2)
def u32At (l : List Byte) (o : Nat) : U32 := BitVec.ofNat 32 (leAt l o 4)
def u64At (l : List Byte) (o : Nat) : U64 := BitVec.ofNat 64 (leAt l o 8)

/-- `n` zero bytes. -/
def zeros (n : Nat) : List Byte := List.replicate n 0

/-- Every byte is zero. -/
def allZero (l : List Byte) : Bool := l.all (· == 0)

/-- A record with the bytes at offset `o` replaced. -/
def patch (l : List Byte) (o : Nat) (bs : List Byte) : List Byte :=
  l.take o ++ bs ++ l.drop (o + bs.length)

/-- A record cut or filled with zeros to `n` bytes. -/
def fit (n : Nat) (l : List Byte) : List Byte := l.take n ++ zeros (n - l.length)

/-- A list cut in pieces of `n`; the fuel is the list's length. -/
def chunksAux {α : Type} (n : Nat) : Nat → List α → List (List α)
  | 0, _ => []
  | _ + 1, [] => []
  | f + 1, l => l.take n :: chunksAux n f (l.drop n)

def chunks {α : Type} (n : Nat) (l : List α) : List (List α) := chunksAux n l.length l

/-! ## Sparse stores -/

/-- What a key reads as: its cell, or `d`, the value of an unlisted key. -/
def Sparse.get {α : Type} (d : α) : Sparse α → Nat → α
  | [], _ => d
  | (k, v) :: l, i => if i = k then v else Sparse.get d l i

/-- The cell of a key, if it is listed. -/
def Sparse.find {α : Type} : Sparse α → Nat → Option α
  | [], _ => none
  | (k, v) :: l, i => if i = k then some v else Sparse.find l i

/-- A list without a key. -/
def Sparse.erase {α : Type} : Sparse α → Nat → Sparse α
  | [], _ => []
  | (k, v) :: l, i => if i = k then Sparse.erase l i else (k, v) :: Sparse.erase l i

/-- A cell put in its place among rising keys. -/
def Sparse.insert {α : Type} : Sparse α → Nat → α → Sparse α
  | [], i, x => [(i, x)]
  | (k, v) :: l, i, x =>
    if i < k then (i, x) :: (k, v) :: l
    else if i = k then (k, x) :: l
    else (k, v) :: Sparse.insert l i x

/-- A write that keeps the canonical form: the value of an unlisted key is not listed. -/
def Sparse.set {α : Type} [DecidableEq α] (d : α) (l : Sparse α) (i : Nat) (x : α) : Sparse α :=
  if x = d then Sparse.erase l i else Sparse.insert l i x

/-- A cell changed by a function. -/
def Sparse.upd {α : Type} [DecidableEq α] (d : α) (l : Sparse α) (i : Nat) (f : α → α) : Sparse α :=
  Sparse.set d l i (f (Sparse.get d l i))

/-- The canonical form: keys strictly rising from `lo`, no cell equal to an unlisted key's value. -/
def Sparse.wfFrom {α : Type} [DecidableEq α] (d : α) : Nat → Sparse α → Bool
  | _, [] => true
  | lo, (k, v) :: l => decide (lo ≤ k) && !(decide (v = d)) && Sparse.wfFrom d (k + 1) l

def Sparse.wf {α : Type} [DecidableEq α] (d : α) (l : Sparse α) : Bool := Sparse.wfFrom d 0 l

/-- A store whose first cells up to `lo` are dropped. -/
def Sparse.dropBelow {α : Type} : Sparse α → Nat → Sparse α
  | [], _ => []
  | (k, v) :: l, lo => if k < lo then Sparse.dropBelow l lo else (k, v) :: l

/-- The bytes [o, o + n) of a byte store whose unlisted bytes read `d`. -/
def Sparse.bytes (d : Byte) : Sparse Byte → Nat → Nat → List Byte
  | _, _, 0 => []
  | [], _, n + 1 => List.replicate (n + 1) d
  | (k, v) :: l, o, n + 1 =>
    if k = o then v :: Sparse.bytes d l (o + 1) n
    else d :: Sparse.bytes d ((k, v) :: l) (o + 1) n

/-- Read of `n` bytes at `o`. -/
def Sparse.read (d : Byte) (l : Sparse Byte) (o n : Nat) : List Byte :=
  Sparse.bytes d (Sparse.dropBelow l o) o n

/-- Write of consecutive bytes at `o`. -/
def Sparse.write (d : Byte) : Sparse Byte → Nat → List Byte → Sparse Byte
  | l, _, [] => l
  | l, o, b :: bs => Sparse.write d (Sparse.set d l o b) (o + 1) bs

/-! ## Lists -/

/-- An association list with the pair of a key replaced or added at the end. -/
def assocSet {α β : Type} [DecidableEq α] : List (α × β) → α → β → List (α × β)
  | [], k, v => [(k, v)]
  | (a, b) :: l, k, v => if k = a then (a, v) :: l else (a, b) :: assocSet l k v

def assocGet {α β : Type} [DecidableEq α] (d : β) : List (α × β) → α → β
  | [], _ => d
  | (a, b) :: l, k => if k = a then b else assocGet d l k

/-- Numbers `lo`, …, `lo + n − 1`. -/
def span (lo n : Nat) : List Nat := (List.range n).map (· + lo)

/-- The positions of the bits set in a word. -/
def bitsOf {w : Nat} (v : BitVec w) : List Nat := (List.range w).filter (fun i => bitAt v i)

/-- The word of `w` bits whose set bits are those for which `f` holds. -/
def maskOf (w : Nat) (f : Nat → Bool) : BitVec w :=
  BitVec.ofNat w ((List.range w).foldl (fun acc i => if f i then acc + 2 ^ i else acc) 0)

def inRange (lo hi x : Nat) : Bool := decide (lo ≤ x) && decide (x ≤ hi)

end Sys2Proof.Machine
end

