-- ==== Sys2Proof/Machine/Crc.lean ====
section
/-! DEFINITION. The checksums and signatures that the spec names: CRC-32 (R69, R203), CRC-16-CCITT (R132), SHA-256 (R89), HMAC-SHA-256 (R290) and ECDSA over P-256 (R472). The algorithms are those of IEEE 802.3, FIPS 180-4, RFC 2104 and FIPS 186, which the spec takes by name (PRESUMED, log entry 9). -/

namespace Sys2Proof.Machine

/-! ## CRC -/

/-- One bit of the reflected CRC-32 register. -/
def crc32Bit (c : U32) : U32 := if bitAt c 0 then (c >>> 1) ^^^ 0xEDB88320#32 else c >>> 1

def crc32Byte (c : U32) (b : Byte) : U32 :=
  let x := c ^^^ b.setWidth 32
  crc32Bit (crc32Bit (crc32Bit (crc32Bit (crc32Bit (crc32Bit (crc32Bit (crc32Bit x)))))))

/-- CRC-32 (IEEE 802.3 polynomial). -/
def crc32 (l : List Byte) : U32 := ~~~(l.foldl crc32Byte 0xFFFFFFFF#32)

/-- The last four of `n` bytes hold the CRC-32 of the others. -/
def crcOk (l : List Byte) (n : Nat) : Bool := crc32 (l.take (n - 4)) == u32At l (n - 4)

/-- A record of `n` bytes with its last four replaced by the CRC-32 of the others. -/
def withCrc (l : List Byte) (n : Nat) : List Byte := l.take (n - 4) ++ leBytes 4 (crc32 (l.take (n - 4))).toNat

def crc16Bit (c : U16) : U16 := if bitAt c 15 then (c <<< 1) ^^^ 0x1021#16 else c <<< 1

def crc16Byte (c : U16) (b : Byte) : U16 :=
  let x := c ^^^ (b.setWidth 16 <<< 8)
  crc16Bit (crc16Bit (crc16Bit (crc16Bit (crc16Bit (crc16Bit (crc16Bit (crc16Bit x)))))))

/-- CRC-16-CCITT, polynomial 0x1021, initial value 0xFFFF (Table 4-9). -/
def crc16 (l : List Byte) : U16 := l.foldl crc16Byte 0xFFFF#16

/-! ## SHA-256 -/

/-- The integer part of the k-th root of `n`, found bit by bit from bit `b − 1` down. -/
def rootBits (k n : Nat) : Nat → Nat → Nat
  | 0, acc => acc
  | b + 1, acc => rootBits k n b (if (acc + 2 ^ b) ^ k ≤ n then acc + 2 ^ b else acc)

/-- The first 32 bits behind the point of the k-th root of `p` (FIPS 180-4, 4.2.2 and 5.3.3). -/
def rootFraction (k p : Nat) : U32 := BitVec.ofNat 32 (rootBits k (p * 2 ^ (32 * k)) 40 0)

/-- The first 64 prime numbers, the last of which is 311. -/
def shaPrimes : List Nat :=
  (List.range 312).filter (fun p => decide (2 ≤ p) && (List.range p).all (fun d => decide (d < 2) || p % d != 0))

/-- The round constants: fractions of the primes' cube roots. -/
def shaK : List U32 := shaPrimes.map (rootFraction 3)

/-- The initial hash value: fractions of the first eight primes' square roots. -/
def shaInit : List U32 := (shaPrimes.take 8).map (rootFraction 2)

/-- Big-endian bytes of a number. -/
def beBytes (n x : Nat) : List Byte := (leBytes n x).reverse

/-- The number that big-endian bytes spell. -/
def beNat (l : List Byte) : Nat := leNat l.reverse

/-- The message with its padding (FIPS 180-4). -/
def shaPad (m : List Byte) : List Byte :=
  m ++ (0x80#8 :: zeros ((119 - m.length % 64) % 64)) ++ beBytes 8 (8 * m.length)

/-- The exclusive OR of a word rotated right by each of the amounts. -/
def rotXor (l : List Nat) (x : U32) : U32 := l.foldl (fun acc n => acc ^^^ x.rotateRight n) 0

/-- The next word of the schedule, whose words so far stand newest first. -/
def shaNext (w : List U32) : U32 :=
  let back := fun n => w.getD (n - 1) 0
  back 16 + back 7 + (rotXor [7, 18] (back 15) ^^^ (back 15 >>> 3)) + (rotXor [17, 19] (back 2) ^^^ (back 2 >>> 10))

/-- The schedule, newest word first, extended by `n` words. -/
def shaSchedule : Nat → List U32 → List U32
  | 0, w => w
  | n + 1, w => shaSchedule n (shaNext w :: w)

/-- One round on the eight working variables, numbered from a = 0 to h = 7. -/
def shaRound (v : List U32) (kw : U32 × U32) : List U32 :=
  let x := fun i => v.getD i 0
  let choose := (x 4 &&& x 5) ^^^ (~~~(x 4) &&& x 6)
  let most := (x 0 &&& x 1) ^^^ (x 0 &&& x 2) ^^^ (x 1 &&& x 2)
  let t := x 7 + rotXor [6, 11, 25] (x 4) + choose + kw.1 + kw.2
  [t + rotXor [2, 13, 22] (x 0) + most, x 0, x 1, x 2, x 3 + t, x 4, x 5, x 6]

def shaBlock (h : List U32) (blk : List Byte) : List U32 :=
  let first := (chunks 4 blk).map (fun b => BitVec.ofNat 32 (beNat b))
  let words := (shaSchedule 48 first.reverse).reverse
  List.zipWith (· + ·) h ((shaK.zip words).foldl shaRound h)

/-- SHA-256. -/
def sha256 (m : List Byte) : List Byte :=
  (((chunks 64 (shaPad m)).foldl shaBlock shaInit).map (fun w => beBytes 4 w.toNat)).flatten

/-- HMAC-SHA-256 (RFC 2104). -/
def hmac (key m : List Byte) : List Byte :=
  let k := fit 64 (if 64 < key.length then sha256 key else key)
  sha256 (k.map (· ^^^ 0x5c#8) ++ sha256 (k.map (· ^^^ 0x36#8) ++ m))

/-! ## ECDSA over P-256 -/

def p256p : Nat := 2 ^ 256 - 2 ^ 224 + 2 ^ 192 + 2 ^ 96 - 1
def p256n : Nat := 0xffffffff00000000ffffffffffffffffbce6faada7179e84f3b9cac2fc632551
def p256b : Nat := 0x5ac635d8aa3a93e7b3ebbd55769886bc651d06b0cc53b0f63bce3c3e27d2604b
def p256g : Nat × Nat :=
  (0x6b17d1f2e12c4247f8bce6e563a440f277037d812deb33a0f4a13945d898c296,
   0x4fe342e2fe1a7f9b8ee7eb4a7c0f9e162bce33576b315ececbb6406837bf51f5)

/-- b ^ e mod m, over the low `k` bits of e. -/
def powMod (m : Nat) : Nat → Nat → Nat → Nat
  | 0, _, _ => 1 % m
  | k + 1, b, e =>
    let r := powMod m k (b * b % m) (e / 2)
    if e % 2 = 1 then r * b % m else r

def invMod (m x : Nat) : Nat := powMod m 256 x (m - 2)

/-- Sum of two points of the curve; `none` is the point at infinity. -/
def ecAdd (a b : Option (Nat × Nat)) : Option (Nat × Nat) :=
  match a, b with
  | none, q => q
  | p, none => p
  | some (x1, y1), some (x2, y2) =>
    if x1 = x2 ∧ (y1 + y2) % p256p = 0 then none
    else
      let l := if x1 = x2 then (3 * x1 * x1 + (p256p - 3)) * invMod p256p (2 * y1) % p256p
               else (y2 + (p256p - y1)) * invMod p256p (x2 + (p256p - x1)) % p256p
      let x3 := (l * l + (p256p - x1) + (p256p - x2)) % p256p
      some (x3, (l * (x1 + (p256p - x3)) + (p256p - y1)) % p256p)

/-- k · P over the low `n` bits of k. -/
def ecMul : Nat → Nat → Option (Nat × Nat) → Option (Nat × Nat)
  | 0, _, _ => none
  | n + 1, k, p =>
    let r := ecMul n (k / 2) (ecAdd p p)
    if k % 2 = 1 then ecAdd r p else r

/-- ECDSA verification over P-256 with SHA-256 (R472). -/
def ecdsaOk (q : Nat × Nat) (r s : Nat) (m : List Byte) : Bool :=
  let z := beNat (sha256 m)
  let w := invMod p256n s
  let onCurve := decide (q.1 < p256p) && decide (q.2 < p256p) &&
    decide (q.2 * q.2 % p256p = (q.1 * q.1 * q.1 + (p256p - 3) * q.1 + p256b) % p256p)
  let ranges := decide (0 < r) && decide (r < p256n) && decide (0 < s) && decide (s < p256n)
  match ecAdd (ecMul 256 (z * w % p256n) (some p256g)) (ecMul 256 (r * w % p256n) (some q)) with
  | none => false
  | some (x, _) => onCurve && ranges && decide (x % p256n = r)

end Sys2Proof.Machine
end

