-- ==== Sys2Proof/Machine/F32.lean ====
section
/-! DEFINITION. IEEE 754 binary32 arithmetic (R10, R186): every finite value is an integer number of 2^−149, results are rounded to nearest with ties to even (DEDUCED, log entry 10), and a result that is no number is the quiet NaN 0x7FC0_0000 that the spec uses (R175, R225). -/

namespace Sys2Proof.Machine

def F32.qnan : F32 := 0x7FC00000
def F32.expo (x : F32) : Nat := fld x 23 8
def F32.frac (x : F32) : Nat := fld x 0 23
def F32.neg? (x : F32) : Bool := bitAt x 31
def F32.isNaN (x : F32) : Bool := (F32.expo x) == 255 && (F32.frac x) != 0
def F32.isInf (x : F32) : Bool := (F32.expo x) == 255 && (F32.frac x) == 0
def F32.isFinite (x : F32) : Bool := (F32.expo x) != 255

/-- The magnitude of a finite value, in units of 2^−149. -/
def F32.mag (x : F32) : Nat :=
  if (F32.expo x) = 0 then (F32.frac x) else (2 ^ 23 + (F32.frac x)) * 2 ^ ((F32.expo x) - 1)

/-- A finite value in units of 2^−149. -/
def F32.units (x : F32) : Int := if (F32.neg? x) then -((F32.mag x) : Int) else (F32.mag x)

def F32.inf (neg : Bool) : F32 := if neg then 0xFF800000 else 0x7F800000

/-- n / d rounded to the nearest integer, ties to even. -/
def divEven (n d : Nat) : Nat :=
  let q := n / d
  let r := n % d
  if 2 * r < d then q else if d < 2 * r then q + 1 else if q % 2 = 0 then q else q + 1

/-- The binary32 value nearest to (n / d) · 2^−149, with its sign. -/
def F32.round (neg : Bool) (n d : Nat) : F32 :=
  let t := n / d
  let sh := if t = 0 then 0 else Nat.log2 t + 1 - 24
  let bits := sh * 2 ^ 23 + divEven n (d * 2 ^ sh)
  if 0x7F800000 ≤ bits then F32.inf neg else BitVec.ofNat 32 (bits + if neg then 2 ^ 31 else 0)

/-- The binary32 value nearest to a signed number of 2^−149; `zneg` is the sign of an exact zero. -/
def F32.ofUnits (i : Int) (zneg : Bool) : F32 :=
  if i = 0 then (if zneg then 0x80000000 else 0) else F32.round (decide (i < 0)) i.natAbs 1

/-- The nearest value to an integer. -/
def F32.ofInt (i : Int) : F32 := F32.ofUnits (i * (2 ^ 149 : Nat)) false

def F32.ofNat (n : Nat) : F32 := F32.ofInt n

/-- The nearest value to a ratio of integers. -/
def F32.ofRatio (n : Int) (d : Nat) : F32 :=
  if n = 0 then 0 else F32.round (decide (n < 0)) (n.natAbs * 2 ^ 149) d

def F32.abs (x : F32) : F32 := x &&& 0x7FFFFFFF

def F32.add (a b : F32) : F32 :=
  if (F32.isNaN a) || (F32.isNaN b) then F32.qnan
  else if (F32.isInf a) && (F32.isInf b) then (if a = b then a else F32.qnan)
  else if (F32.isInf a) then a
  else if (F32.isInf b) then b
  else F32.ofUnits ((F32.units a) + (F32.units b)) ((F32.neg? a) && (F32.neg? b))

def F32.sub (a b : F32) : F32 :=
  if (F32.isNaN b) then F32.qnan else F32.add a (b ^^^ 0x80000000)

def F32.mul (a b : F32) : F32 :=
  let neg := (F32.neg? a) != (F32.neg? b)
  if (F32.isNaN a) || (F32.isNaN b) then F32.qnan
  else if (F32.isInf a) || (F32.isInf b) then
    if (F32.abs a) = 0 || (F32.abs b) = 0 then F32.qnan else F32.inf neg
  else F32.round neg ((F32.mag a) * (F32.mag b)) (2 ^ 149)

def F32.div (a b : F32) : F32 :=
  let neg := (F32.neg? a) != (F32.neg? b)
  if (F32.isNaN a) || (F32.isNaN b) then F32.qnan
  else if (F32.isInf a) then (if (F32.isInf b) then F32.qnan else F32.inf neg)
  else if (F32.isInf b) then F32.round neg 0 1
  else if (F32.mag b) = 0 then (if (F32.mag a) = 0 then F32.qnan else F32.inf neg)
  else F32.round neg ((F32.mag a) * 2 ^ 149) (F32.mag b)

/-- The value as a number that orders binary32 values, infinities included. -/
def F32.key (x : F32) : Int := if (F32.neg? x) then -(((F32.abs x)).toNat : Int) else x.toNat

/-- a < b; false when either is a NaN. -/
def F32.lt (a b : F32) : Bool := !(F32.isNaN a) && !(F32.isNaN b) && decide ((F32.key a) < (F32.key b))
def F32.le (a b : F32) : Bool := !(F32.isNaN a) && !(F32.isNaN b) && decide ((F32.key a) ≤ (F32.key b))
def F32.eq (a b : F32) : Bool := !(F32.isNaN a) && !(F32.isNaN b) && decide ((F32.key a) = (F32.key b))

/-- The integer nearest to a finite value, ties to even. -/
def F32.toIntEven (x : F32) : Int :=
  let m := divEven (F32.mag x) (2 ^ 149)
  if (F32.neg? x) then -(m : Int) else m

/-- The double-precision-free square of the exact value is never needed; √ of a finite value not below 0, rounded to nearest: the root of mag · 2^149 · 4^k is taken to 2^−k units. -/
def F32.sqrt (x : F32) : F32 :=
  if (F32.isNaN x) || ((F32.neg? x) && (F32.abs x) != 0) then F32.qnan
  else if (F32.isInf x) || (F32.abs x) = 0 then x
  else
    let n := (F32.mag x) * 2 ^ 149 * 4 ^ 60
    let r := Nat.sqrt n
    F32.round false (2 * r + if r * r = n then 0 else 1) (2 ^ 61)

end Sys2Proof.Machine
end

