-- ==== Sys2Proof/Config.lean ====
section
/-! DEFINITION. What an implementation fixes and what the spec leaves open: constants and free values without a body, so that no proof can lean on one. -/

namespace Sys2Proof

/-- The factory value of a register whose summary gives "factory" as its reset value (HW_REV, SERIAL, LANE_CAL_OFS, LANE_CAL_GAIN, ETH_MAC, PTP_TXLAT, PTP_RXLAT), by BAR0 offset. -/
opaque Config.factoryReg : Nat → BitVec 32

/-- REC after a good reception that finds it above 127: ISO 11898-1 allows 119 to 127. -/
opaque Config.freeRec : Nat → BitVec 8

/-- A measured transmitter loop delay in minimum quanta (R378). -/
opaque Config.freeLoop : Nat → BitVec 7

/-- Engine time of a TICK's sweep, in ns (R214, AE_SWEEP_MAX). -/
opaque Config.freeSweep : Nat → BitVec 20

/-- The direction in which a code half-way between two others is rounded (R171); `true` is up. -/
opaque Config.freeTie : Nat → Bool

/-- The cold-junction value used before the definition has delivered a sample (R191). -/
opaque Config.freeSample : Nat → BitVec 32

/-- The filtered mean path delay D after a measurement (R422 gives no filter), as a two's-complement count of ns. -/
opaque Config.freeDelay : Nat → BitVec 64

/-- The servo's frequency estimate, taken modulo the allowed range (R423). -/
opaque Config.freeFreq : Nat → BitVec 64

/-- The slew of a RATE change, taken modulo the ±100 ppm of R423. -/
opaque Config.freeSlew : Nat → BitVec 64

/-- The servo's prediction of the next offset (R426), as a two's-complement count of ns. -/
opaque Config.freePred : Nat → BitVec 64

/-- An entry of the alarm list (R463): the point, its state, whether it is unacknowledged, its value and LAST_ISN. -/
structure ListEntry where
  point : Nat
  state : Byte
  unacked : Bool
  value : F32
  lastIsn : U32
  deriving DecidableEq, Repr

/-- What a redraw of the alarm list shows (R463): row 0's local date and time in the BCD view's words, its NODE_ID and its count, and the entries in order. -/
structure ListImage where
  time : U32
  date : U32
  node : Nat
  count : Nat
  entries : List ListEntry
  deriving DecidableEq, Repr

/-- The 8,192 bytes of a redraw of the alarm list: font and layout come from the manifest part LILYPAD (R462). -/
opaque Config.listPixels : ListImage → BitVec 65536

/-- Alarm-list entries that the layout holds (R463). -/
opaque Config.panelRows : Nat

/-- The NTC temperature's error in 0.1 °C, taken modulo its ±1 °C, and the whole reading outside −25 °C to +70 °C (R459). -/
opaque Config.freeTemp : Nat → BitVec 16

/-- CORE clocks that the erase after a confirmation takes (R486). -/
opaque Config.eraseClocks : Nat → Nat

/-- How many sectors of a base generation fail as it is written (R502). -/
opaque Config.badSectors : Nat → Nat

/-- VBK in mV as measured once per second (R453, RTC_VBK). -/
opaque Config.freeVbk : Nat → BitVec 12

end Sys2Proof
end

