-- ==== Sys2Proof/Machine/Regs.lean ====
section
/-! DEFINITION. The BAR0 register map: the offset of every register, and one row per register with its access code, reset value, writable bits and stated ranges (R12, R509, R515 and the register summaries of each chapter). -/

namespace Sys2Proof.Machine

/-! ## Offsets, under the spec's names; `n` numbers the unit and `k` the register of an array -/

abbrev Reg.LEG_EVT_W0 : Off := 0x40000
abbrev Reg.LEG_EVT_W1 : Off := 0x40004
abbrev Reg.LEG_EVT_W2 : Off := 0x40008
abbrev Reg.LEG_EVT_W3 : Off := 0x4000c
abbrev Reg.LEG_EVT_LEVEL : Off := 0x40010
abbrev Reg.LEG_EVT_STAT : Off := 0x40014
abbrev Reg.LEG_EVT_OVF_CNT : Off := 0x40018
abbrev Reg.LEG_EVT_CTL : Off := 0x4001c
abbrev Reg.RING_BASE_LO (n : Nat) : Off := 0x1000 + 0x40 * n
abbrev Reg.RING_BASE_HI (n : Nat) : Off := 0x1004 + 0x40 * n
abbrev Reg.RING_SIZE (n : Nat) : Off := 0x1008 + 0x40 * n
abbrev Reg.RING_START (n : Nat) : Off := 0x100c + 0x40 * n
abbrev Reg.RING_CTL (n : Nat) : Off := 0x1010 + 0x40 * n
abbrev Reg.RING_STATUS (n : Nat) : Off := 0x1014 + 0x40 * n
abbrev Reg.RING_NODE_IDX (n : Nat) : Off := 0x1018 + 0x40 * n
abbrev Reg.RING_HOST_IDX (n : Nat) : Off := 0x101c + 0x40 * n
abbrev Reg.RING_MOD_COUNT (n : Nat) : Off := 0x1020 + 0x40 * n
abbrev Reg.RING_MOD_TIME (n : Nat) : Off := 0x1024 + 0x40 * n
abbrev Reg.RING_PREFETCH (n : Nat) : Off := 0x1028 + 0x40 * n
abbrev Reg.RING_INFLIGHT (n : Nat) : Off := 0x102c + 0x40 * n
abbrev Reg.RING_ENTRY_CNT (n : Nat) : Off := 0x1030 + 0x40 * n
abbrev Reg.RING_LOSS_CNT (n : Nat) : Off := 0x1034 + 0x40 * n
abbrev Reg.RING_ERR_CNT (n : Nat) : Off := 0x1038 + 0x40 * n
abbrev Reg.HIF_CTL : Off := 0x1800
abbrev Reg.HIF_STATUS : Off := 0x1804
abbrev Reg.HIF_DBPAGE_LO : Off := 0x1808
abbrev Reg.HIF_DBPAGE_HI : Off := 0x180c
abbrev Reg.HIF_STATPAGE_LO : Off := 0x1810
abbrev Reg.HIF_STATPAGE_HI : Off := 0x1814
abbrev Reg.HIF_DB_POLL : Off := 0x1818
abbrev Reg.HIF_KICK : Off := 0x181c
abbrev Reg.HIF_EVT : Off := 0x1820
abbrev Reg.HIF_INT_CTL : Off := 0x1824
abbrev Reg.HIF_DB_READ_CNT : Off := 0x1828
abbrev Reg.HIF_DB_ERR_CNT : Off := 0x182c
abbrev Reg.HIF_KICK_CNT : Off := 0x1830
abbrev Reg.HIF_IGNORED_WR_CNT : Off := 0x1834
abbrev Reg.HIF_FLR_CNT : Off := 0x1838
abbrev Reg.HIF_LINKDOWN_CNT : Off := 0x183c
abbrev Reg.HIF_DB_LAT_MAX : Off := 0x1840
abbrev Reg.HIF_CMPL_KEPT : Off := 0x1844
abbrev Reg.HIF_HEARTBEAT_LO : Off := 0x1848
abbrev Reg.HIF_HEARTBEAT_HI : Off := 0x184c
abbrev Reg.HIF_PREFETCH_OUT : Off := 0x1850
abbrev Reg.EX_CTL (n : Nat) : Off := 0xc000 + 0x40 * n
abbrev Reg.EX_STATUS (n : Nat) : Off := 0xc004 + 0x40 * n
abbrev Reg.EX_FLAGS (n : Nat) : Off := 0xc008 + 0x40 * n
abbrev Reg.EX_COMPL_CNT (n : Nat) : Off := 0xc00c + 0x40 * n
abbrev Reg.EX_OC_CNT (n : Nat) : Off := 0xc010 + 0x40 * n
abbrev Reg.EX_QHIGH_CNT (n : Nat) : Off := 0xc014 + 0x40 * n
abbrev Reg.EX_CAL_I (n : Nat) : Off := 0xc018 + 0x40 * n
abbrev Reg.EX_CAL_U (n : Nat) : Off := 0xc01c + 0x40 * n
abbrev Reg.EX_LAST_DEF (n : Nat) : Off := 0xc020 + 0x40 * n
abbrev Reg.EX_LAST_MAG (n : Nat) : Off := 0xc024 + 0x40 * n
abbrev Reg.EX_USE_CNT (n : Nat) : Off := 0xc028 + 0x40 * n
abbrev Reg.XP_STATUS : Off := 0xc400
abbrev Reg.XP_CHECK : Off := 0xc404
abbrev Reg.XP_CHK_STATUS : Off := 0xc408
abbrev Reg.XP_CHK_FIRST : Off := 0xc40c
abbrev Reg.XP_CHK_LAST : Off := 0xc410
abbrev Reg.XP_SKIPPED (k : Nat) : Off := 0xc414 + 4 * k
abbrev Reg.BS_LEVEL (k : Nat) : Off := 0xc440 + 4 * k
abbrev Reg.BS_STATUS : Off := 0xc460
abbrev Reg.BS_OC_CNT : Off := 0xc464
abbrev Reg.XP_BURDEN_OC_CNT : Off := 0xc468
abbrev Reg.XP_CLAMP_FLAG (k : Nat) : Off := 0xc500 + 4 * k
abbrev Reg.XP_CLAMP_NOW (k : Nat) : Off := 0xc520 + 4 * k
abbrev Reg.XP_BURDEN_EN (k : Nat) : Off := 0xc540 + 4 * k
abbrev Reg.XP_BURDEN_OPEN (k : Nat) : Off := 0xc560 + 4 * k
abbrev Reg.XP_CLAMP_CNT (k : Nat) : Off := 0xc600 + 4 * k
abbrev Reg.FE_STATUS : Off := 0x8000
abbrev Reg.FE_CAL_PERIOD : Off := 0x8004
abbrev Reg.FE_CAL_LIM : Off := 0x8008
abbrev Reg.FE_CJ_MAX_AGE : Off := 0x800c
abbrev Reg.FE_LIN_VALID0 : Off := 0x8010
abbrev Reg.FE_LIN_VALID1 : Off := 0x8014
abbrev Reg.FE_LANE_FAULT0 : Off := 0x8018
abbrev Reg.FE_LANE_FAULT1 : Off := 0x801c
abbrev Reg.FE_CAL_WARN0 : Off := 0x8020
abbrev Reg.FE_CAL_WARN1 : Off := 0x8024
abbrev Reg.FE_EVT : Off := 0x8028
abbrev Reg.FE_CJ_STALE_CNT : Off := 0x802c
abbrev Reg.FE_MOVE_CNT : Off := 0x8030
abbrev Reg.FE_SETTLING_CNT : Off := 0x8034
abbrev Reg.FE_LIN_LAST : Off := 0x8038
abbrev Reg.LANE_CTL (n : Nat) : Off := 0x9000 + 0x100 * n
abbrev Reg.LANE_STATUS (n : Nat) : Off := 0x9004 + 0x100 * n
abbrev Reg.LANE_EVT (n : Nat) : Off := 0x9008 + 0x100 * n
abbrev Reg.LANE_SCAN_PERIOD (n : Nat) : Off := 0x900c + 0x100 * n
abbrev Reg.LANE_SCAN (n k : Nat) : Off := 0x9010 + 0x100 * n + 4 * k
abbrev Reg.LANE_CAL_OFS (n k : Nat) : Off := 0x9050 + 0x100 * n + 4 * k
abbrev Reg.LANE_CAL_GAIN (n k : Nat) : Off := 0x9070 + 0x100 * n + 4 * k
abbrev Reg.LANE_CAL_AGE (n : Nat) : Off := 0x9090 + 0x100 * n
abbrev Reg.LANE_CAL_LAST (n : Nat) : Off := 0x9094 + 0x100 * n
abbrev Reg.LANE_SAMPLE_CNT (n : Nat) : Off := 0x9098 + 0x100 * n
abbrev Reg.LANE_SETTLING_CNT (n : Nat) : Off := 0x909c + 0x100 * n
abbrev Reg.LANE_CMF_CNT (n : Nat) : Off := 0x90a0 + 0x100 * n
abbrev Reg.LANE_OVR_CNT (n : Nat) : Off := 0x90a4 + 0x100 * n
abbrev Reg.LANE_CAL_CNT (n : Nat) : Off := 0x90a8 + 0x100 * n
abbrev Reg.LANE_CAL_REJ_CNT (n : Nat) : Off := 0x90ac + 0x100 * n
abbrev Reg.LANE_MOVE_CNT (n : Nat) : Off := 0x90b0 + 0x100 * n
abbrev Reg.LANE_HELD_DEF (n : Nat) : Off := 0x90b4 + 0x100 * n
abbrev Reg.LANE_DRAIN_DEF (n : Nat) : Off := 0x90b8 + 0x100 * n
abbrev Reg.LANE_LAST_RAW (n : Nat) : Off := 0x90bc + 0x100 * n
abbrev Reg.LEG_PT_W0 : Off := 0x40100
abbrev Reg.LEG_PT_W1 : Off := 0x40104
abbrev Reg.LEG_PT_W2 : Off := 0x40108
abbrev Reg.LEG_PT_W3 : Off := 0x4010c
abbrev Reg.LEG_PT_INDEX : Off := 0x40110
abbrev Reg.LEG_PT_CMD : Off := 0x40114
abbrev Reg.LEG_PT_STATUS : Off := 0x40118
abbrev Reg.LEG_PT_ERR_CNT : Off := 0x4011c
abbrev Reg.CROAK_STATUS : Off := 0x14000
abbrev Reg.CROAK_EVT : Off := 0x14004
abbrev Reg.CROAK_SEL : Off := 0x14008
abbrev Reg.CROAK_SEL_STATE : Off := 0x1400c
abbrev Reg.CROAK_SEL_ACTIVE : Off := 0x14010
abbrev Reg.CROAK_SEL_UNACKED : Off := 0x14014
abbrev Reg.CROAK_SEL_FIRST : Off := 0x14018
abbrev Reg.CROAK_DRIVE_LO : Off := 0x1401c
abbrev Reg.CROAK_DRIVE_HI : Off := 0x14020
abbrev Reg.CROAK_MASK_WARN_LO : Off := 0x14024
abbrev Reg.CROAK_MASK_WARN_HI : Off := 0x14028
abbrev Reg.CROAK_CALLING (k : Nat) : Off := 0x14040 + 4 * k
abbrev Reg.CROAK_BRIDGE (k : Nat) : Off := 0x14060 + 4 * k
abbrev Reg.CROAK_DMWARN (k : Nat) : Off := 0x14080 + 4 * k
abbrev Reg.CROAK_BAD (k : Nat) : Off := 0x140a0 + 4 * k
abbrev Reg.CROAK_RAISE_CNT : Off := 0x140c0
abbrev Reg.CROAK_ESC_CNT : Off := 0x140c4
abbrev Reg.CROAK_BRIDGE_CNT : Off := 0x140c8
abbrev Reg.CROAK_ACCEPT_CNT : Off := 0x140cc
abbrev Reg.CROAK_SILENCE_CNT : Off := 0x140d0
abbrev Reg.CROAK_DM_CALL_CNT : Off := 0x140d4
abbrev Reg.CROAK_FLOOD_CNT : Off := 0x140d8
abbrev Reg.CROAK_CANTX_LOSS_CNT : Off := 0x140dc
abbrev Reg.INLET_STATUS : Off := 0x12000
abbrev Reg.INLET_EVT : Off := 0x12004
abbrev Reg.INLET_ISN_LO : Off := 0x12008
abbrev Reg.INLET_ISN_HI : Off := 0x1200c
abbrev Reg.INLET_CFG_EPOCH : Off := 0x12010
abbrev Reg.INLET_TICK_NO_LO : Off := 0x12014
abbrev Reg.INLET_TICK_NO_HI : Off := 0x12018
abbrev Reg.INLET_FILL : Off := 0x1201c
abbrev Reg.INLET_LAG_A : Off := 0x12020
abbrev Reg.INLET_LAG_B : Off := 0x12024
abbrev Reg.INLET_ADMIT_CNT : Off := 0x12028
abbrev Reg.INLET_HOLD_CNT : Off := 0x1202c
abbrev Reg.INLET_OVR_FE_CNT : Off := 0x12030
abbrev Reg.INLET_OVR_DIO_CNT : Off := 0x12034
abbrev Reg.INLET_OVR_CAN_CNT : Off := 0x12038
abbrev Reg.INLET_OVR_TICK_CNT : Off := 0x1203c
abbrev Reg.INLET_GAP_CNT : Off := 0x12040
abbrev Reg.INLET_GAP_MISSING_CNT : Off := 0x12044
abbrev Reg.INLET_LAST_GAP : Off := 0x12048
abbrev Reg.OUT_STATUS : Off := 0x12080
abbrev Reg.OUT_EVT : Off := 0x12084
abbrev Reg.OUT_DELIVER : Off := 0x12088
abbrev Reg.OUT_MERGE_WAIT : Off := 0x1208c
abbrev Reg.OUT_NEXT_ESN_LO : Off := 0x12090
abbrev Reg.OUT_NEXT_ESN_HI : Off := 0x12094
abbrev Reg.OUT_RELEASED_ESN_LO : Off := 0x12098
abbrev Reg.OUT_RELEASED_ESN_HI : Off := 0x1209c
abbrev Reg.OUT_BACKLOG_FILL : Off := 0x120a0
abbrev Reg.OUT_BACKLOG_CAP : Off := 0x120a4
abbrev Reg.OUT_COALESCED_PTS : Off := 0x120a8
abbrev Reg.OUT_COALESCE_CNT : Off := 0x120ac
abbrev Reg.OUT_NOTICE_CNT : Off := 0x120b0
abbrev Reg.OUT_WITHHELD_CNT : Off := 0x120b4
abbrev Reg.OUT_LATE_COPY_CNT : Off := 0x120b8
abbrev Reg.OUT_COPY_MISMATCH_CNT : Off := 0x120bc
abbrev Reg.OUT_MISMATCH_ESN_LO : Off := 0x120c0
abbrev Reg.OUT_MISMATCH_ESN_HI : Off := 0x120c4
abbrev Reg.CUST_CTL : Off := 0x12100
abbrev Reg.CUST_STATUS : Off := 0x12104
abbrev Reg.CUST_SEAL_CNT : Off := 0x12108
abbrev Reg.CUST_LAST_MAC_LO : Off := 0x1210c
abbrev Reg.CUST_LAST_MAC_HI : Off := 0x12110
abbrev Reg.CUST_LAST_ESN_LO : Off := 0x12114
abbrev Reg.CUST_LAST_ESN_HI : Off := 0x12118
abbrev Reg.PUB_ETH_CTL : Off := 0x12180
abbrev Reg.PUB_ETH_SENT_CNT : Off := 0x12184
abbrev Reg.PUB_ETH_LOSS_CNT : Off := 0x12188
abbrev Reg.PUB_CAN_CTL : Off := 0x1218c
abbrev Reg.PUB_CAN_ID : Off := 0x12190
abbrev Reg.PUB_CAN_SENT_CNT : Off := 0x12194
abbrev Reg.PUB_CAN_LOSS_CNT : Off := 0x12198
abbrev Reg.TREND_STATUS : Off := 0x121a0
abbrev Reg.SKINK_STATUS : Off := 0x10000
abbrev Reg.SKINK_EVT : Off := 0x10004
abbrev Reg.SKINK_CTL : Off := 0x10008
abbrev Reg.SKINK_AUDIT_CTL : Off := 0x1000c
abbrev Reg.SKINK_AUDIT_POS : Off := 0x10010
abbrev Reg.SKINK_LAST_DIVERGE : Off := 0x10014
abbrev Reg.SKINK_HANDOVER_MAX : Off := 0x10018
abbrev Reg.SKINK_TAKEOVER_CNT : Off := 0x1001c
abbrev Reg.SKINK_TAKEBACK_CNT : Off := 0x10020
abbrev Reg.SKINK_DIVERGE_CNT : Off := 0x10024
abbrev Reg.SKINK_AUDIT_SKIP_CNT : Off := 0x10028
abbrev Reg.PAIR_CTL : Off := 0x10040
abbrev Reg.PAIR_MASK_LO : Off := 0x10044
abbrev Reg.PAIR_MASK_HI : Off := 0x10048
abbrev Reg.PAIR_BLOCKED_LO : Off := 0x1004c
abbrev Reg.PAIR_BLOCKED_HI : Off := 0x10050
abbrev Reg.PAIR_CLAIM_CNT : Off := 0x10054
abbrev Reg.PAIR_TIE_CNT : Off := 0x10058
abbrev Reg.PAIR_LOST_CNT : Off := 0x1005c
abbrev Reg.AE_STATUS (n : Nat) : Off := 0x10100 + 0x80 * n
abbrev Reg.AE_EVAL_ISN_LO (n : Nat) : Off := 0x10104 + 0x80 * n
abbrev Reg.AE_EVAL_ISN_HI (n : Nat) : Off := 0x10108 + 0x80 * n
abbrev Reg.AE_NEXT_ESN_LO (n : Nat) : Off := 0x1010c + 0x80 * n
abbrev Reg.AE_NEXT_ESN_HI (n : Nat) : Off := 0x10110 + 0x80 * n
abbrev Reg.AE_FAIL_ISN_LO (n : Nat) : Off := 0x10114 + 0x80 * n
abbrev Reg.AE_FAIL_ISN_HI (n : Nat) : Off := 0x10118 + 0x80 * n
abbrev Reg.AE_FAIL_CNT (n : Nat) : Off := 0x1011c + 0x80 * n
abbrev Reg.AE_CFG_INVALID_CNT (n : Nat) : Off := 0x10120 + 0x80 * n
abbrev Reg.AE_EVAL_CNT (n : Nat) : Off := 0x10124 + 0x80 * n
abbrev Reg.AE_EVT_CNT (n : Nat) : Off := 0x10128 + 0x80 * n
abbrev Reg.AE_SWEEP_MAX (n : Nat) : Off := 0x1012c + 0x80 * n
abbrev Reg.AE_LAG_MAX (n : Nat) : Off := 0x10130 + 0x80 * n
abbrev Reg.AE_HOLD_TIME (n : Nat) : Off := 0x10134 + 0x80 * n
abbrev Reg.AE_LAST_STATUS (n : Nat) : Off := 0x10138 + 0x80 * n
abbrev Reg.AE_AUDIT_BREAK_CNT (n : Nat) : Off := 0x1013c + 0x80 * n
abbrev Reg.AE_INJECT (n : Nat) : Off := 0x10140 + 0x80 * n
abbrev Reg.SPAWN_STATUS : Off := 0x13000
abbrev Reg.SPAWN_EVT : Off := 0x13004
abbrev Reg.SPAWN_CFG : Off := 0x13008
abbrev Reg.SPAWN_TRIG_CFG : Off := 0x1300c
abbrev Reg.SPAWN_RING_SIZE : Off := 0x13010
abbrev Reg.SPAWN_RING_FILL : Off := 0x13014
abbrev Reg.SPAWN_MARK_ISN_LO : Off := 0x13018
abbrev Reg.SPAWN_MARK_ISN_HI : Off := 0x1301c
abbrev Reg.SPAWN_TRIG_ISN_LO : Off := 0x13020
abbrev Reg.SPAWN_TRIG_ISN_HI : Off := 0x13024
abbrev Reg.SPAWN_LAST_ISN_LO : Off := 0x13028
abbrev Reg.SPAWN_LAST_ISN_HI : Off := 0x1302c
abbrev Reg.SPAWN_CKPT_NO : Off := 0x13030
abbrev Reg.SPAWN_BYTES_LO : Off := 0x13034
abbrev Reg.SPAWN_BYTES_HI : Off := 0x13038
abbrev Reg.SPAWN_SNAP_CNT : Off := 0x1303c
abbrev Reg.SPAWN_SNAP_FAIL_CNT : Off := 0x13040
abbrev Reg.SPAWN_SNAP_RETRY_CNT : Off := 0x13044
abbrev Reg.SPAWN_SNAP_SKIP_CNT : Off := 0x13048
abbrev Reg.SPAWN_TRIG_CNT : Off := 0x1304c
abbrev Reg.SPAWN_TRIG_LOST_CNT : Off := 0x13050
abbrev Reg.SPAWN_HOLD_CNT : Off := 0x13054
abbrev Reg.SPAWN_CKPT_DIFF_CNT : Off := 0x13058
abbrev Reg.SPAWN_RP_STATUS : Off := 0x13080
abbrev Reg.SPAWN_RP_CKPT_CNT : Off := 0x13084
abbrev Reg.SPAWN_RP_BAD_ISN_LO : Off := 0x13088
abbrev Reg.SPAWN_RP_BAD_ISN_HI : Off := 0x1308c
abbrev Reg.SPAWN_RP_BLOCKS : Off := 0x13090
abbrev Reg.SPAWN_RP_ISN_LO : Off := 0x13094
abbrev Reg.SPAWN_RP_ISN_HI : Off := 0x13098
abbrev Reg.SPAWN_RP_SPEED : Off := 0x1309c
abbrev Reg.SPAWN_RP_BYTES_LO : Off := 0x130a0
abbrev Reg.SPAWN_RP_BYTES_HI : Off := 0x130a4
abbrev Reg.DIO_CH_CFG (n : Nat) : Off := 0x18000 + 0x20 * n
abbrev Reg.DIO_CH_OWNER (n : Nat) : Off := 0x18004 + 0x20 * n
abbrev Reg.DIO_CH_CNT_PERIOD (n : Nat) : Off := 0x18008 + 0x20 * n
abbrev Reg.DIO_CH_STATUS (n : Nat) : Off := 0x1800c + 0x20 * n
abbrev Reg.DIO_CH_COUNT (n : Nat) : Off := 0x18010 + 0x20 * n
abbrev Reg.DIO_CH_EDGE_CNT (n : Nat) : Off := 0x18014 + 0x20 * n
abbrev Reg.DIO_CH_MISMATCH_CNT (n : Nat) : Off := 0x18018 + 0x20 * n
abbrev Reg.DIO_BANK_CFG (n : Nat) : Off := 0x18800 + 0x40 * n
abbrev Reg.DIO_BANK_STATUS (n : Nat) : Off := 0x18804 + 0x40 * n
abbrev Reg.DIO_BANK_EVT (n : Nat) : Off := 0x18808 + 0x40 * n
abbrev Reg.DIO_BANK_LEVEL (n : Nat) : Off := 0x1880c + 0x40 * n
abbrev Reg.DIO_BANK_CMD (n : Nat) : Off := 0x18810 + 0x40 * n
abbrev Reg.DIO_BANK_MISMATCH (n : Nat) : Off := 0x18814 + 0x40 * n
abbrev Reg.DIO_BANK_FAULT_CNT (n : Nat) : Off := 0x18818 + 0x40 * n
abbrev Reg.DIO_BANK_FAULT_MS_CNT (n : Nat) : Off := 0x1881c + 0x40 * n
abbrev Reg.DIO_BANK_FRESET_CNT (n : Nat) : Off := 0x18820 + 0x40 * n
abbrev Reg.DIO_BANK_WD_CNT (n : Nat) : Off := 0x18824 + 0x40 * n
abbrev Reg.DIO_BANK_RECORD_CNT (n : Nat) : Off := 0x18828 + 0x40 * n
abbrev Reg.DIO_STATUS : Off := 0x18a00
abbrev Reg.DIO_EVT : Off := 0x18a04
abbrev Reg.DIO_HOST_LO : Off := 0x18a08
abbrev Reg.DIO_HOST_HI : Off := 0x18a0c
abbrev Reg.DIO_REFRESH_LATE_CNT : Off := 0x18a10
abbrev Reg.DIO_NEWT_RESTART_CNT : Off := 0x18a14
abbrev Reg.DIO_WRITE_CNT : Off := 0x18a18
abbrev Reg.CAN_CFG (n : Nat) : Off := 0x20000 + 0x400 * n
abbrev Reg.CAN_NBT (n : Nat) : Off := 0x20004 + 0x400 * n
abbrev Reg.CAN_DBT (n : Nat) : Off := 0x20008 + 0x400 * n
abbrev Reg.CAN_TDC (n : Nat) : Off := 0x2000c + 0x400 * n
abbrev Reg.CAN_STATUS (n : Nat) : Off := 0x20010 + 0x400 * n
abbrev Reg.CAN_EVT (n : Nat) : Off := 0x20014 + 0x400 * n
abbrev Reg.CAN_ERRCNT (n : Nat) : Off := 0x20018 + 0x400 * n
abbrev Reg.CAN_LAST_ERR (n : Nat) : Off := 0x2001c + 0x400 * n
abbrev Reg.CAN_TX_TAKEN (n : Nat) : Off := 0x20020 + 0x400 * n
abbrev Reg.CAN_TX_SLOTS (n : Nat) : Off := 0x20024 + 0x400 * n
abbrev Reg.CAN_TX_OK_CNT (n : Nat) : Off := 0x20028 + 0x400 * n
abbrev Reg.CAN_TX_RETRY_CNT (n : Nat) : Off := 0x2002c + 0x400 * n
abbrev Reg.CAN_TX_NOACK_CNT (n : Nat) : Off := 0x20030 + 0x400 * n
abbrev Reg.CAN_TX_ARB_LOST_CNT (n : Nat) : Off := 0x20034 + 0x400 * n
abbrev Reg.CAN_TX_CANCEL_CNT (n : Nat) : Off := 0x20038 + 0x400 * n
abbrev Reg.CAN_TX_LATE_CNT (n : Nat) : Off := 0x2003c + 0x400 * n
abbrev Reg.CAN_TX_ABORT_CNT (n : Nat) : Off := 0x20040 + 0x400 * n
abbrev Reg.CAN_RX_CNT (n : Nat) : Off := 0x20044 + 0x400 * n
abbrev Reg.CAN_RX_REJECT_CNT (n : Nat) : Off := 0x20048 + 0x400 * n
abbrev Reg.CAN_RX_RING_CNT (n : Nat) : Off := 0x2004c + 0x400 * n
abbrev Reg.CAN_RX_EXTRACT_CNT (n : Nat) : Off := 0x20050 + 0x400 * n
abbrev Reg.CAN_RX_FIFO_OVF_CNT (n : Nat) : Off := 0x20054 + 0x400 * n
abbrev Reg.CAN_ERR_FRAME_CNT (n : Nat) : Off := 0x20058 + 0x400 * n
abbrev Reg.CAN_BUSOFF_CNT (n : Nat) : Off := 0x2005c + 0x400 * n
abbrev Reg.CAN_LONELY_CNT (n : Nat) : Off := 0x20060 + 0x400 * n
abbrev Reg.CAN_FILT_BASE (n : Nat) : Off := 0x20064 + 0x400 * n
abbrev Reg.CAN_FILT_SHARE (n : Nat) : Off := 0x20068 + 0x400 * n
abbrev Reg.CAN_FILT_USED (n : Nat) : Off := 0x2006c + 0x400 * n
abbrev Reg.CAN_FILT_BAD_CNT (n : Nat) : Off := 0x20070 + 0x400 * n
abbrev Reg.CAN_WALK_MAX (n : Nat) : Off := 0x20074 + 0x400 * n
abbrev Reg.CAN_RX_SSN (n : Nat) : Off := 0x20078 + 0x400 * n
abbrev Reg.CAN_NOACK_RUN (n : Nat) : Off := 0x2007c + 0x400 * n
abbrev Reg.CAN_SLOT (n k : Nat) : Off := 0x20080 + 0x400 * n + 4 * k
abbrev Reg.CAN_GLB_STATUS : Off := 0x22000
abbrev Reg.CAN_SIG_FAULT_CNT : Off := 0x22004
abbrev Reg.CAN_CHK_LAST : Off := 0x22008
abbrev Reg.CAN_WALK_CNT : Off := 0x2200c
abbrev Reg.ETH_CTL (n : Nat) : Off := 0x28000 + 0x800 * n
abbrev Reg.ETH_STATUS (n : Nat) : Off := 0x28004 + 0x800 * n
abbrev Reg.ETH_MAC_LO (n : Nat) : Off := 0x28008 + 0x800 * n
abbrev Reg.ETH_MAC_HI (n : Nat) : Off := 0x2800c + 0x800 * n
abbrev Reg.ETH_IPV4 (n : Nat) : Off := 0x28010 + 0x800 * n
abbrev Reg.PTP_TXLAT (n : Nat) : Off := 0x28014 + 0x800 * n
abbrev Reg.PTP_RXLAT (n : Nat) : Off := 0x28018 + 0x800 * n
abbrev Reg.PTP_ASYM (n : Nat) : Off := 0x2801c + 0x800 * n
abbrev Reg.PTP_TXTS_W0 (n : Nat) : Off := 0x28020 + 0x800 * n
abbrev Reg.PTP_TXTS_TIME_LO (n : Nat) : Off := 0x28024 + 0x800 * n
abbrev Reg.PTP_TXTS_TIME_HI (n : Nat) : Off := 0x28028 + 0x800 * n
abbrev Reg.PTP_TXTS_LEVEL (n : Nat) : Off := 0x2802c + 0x800 * n
abbrev Reg.PTP_TXTS_STAT (n : Nat) : Off := 0x28030 + 0x800 * n
abbrev Reg.PTP_TXTS_OVF_CNT (n : Nat) : Off := 0x28034 + 0x800 * n
abbrev Reg.PTP_ASYM_RUN (n : Nat) : Off := 0x28038 + 0x800 * n
abbrev Reg.ETH_TX_FRAME_CNT (n : Nat) : Off := 0x2803c + 0x800 * n
abbrev Reg.ETH_TX_BAD_CNT (n : Nat) : Off := 0x28040 + 0x800 * n
abbrev Reg.ETH_RX_FRAME_CNT (n : Nat) : Off := 0x28044 + 0x800 * n
abbrev Reg.ETH_RX_DROP_CNT (n : Nat) : Off := 0x28048 + 0x800 * n
abbrev Reg.ETH_RX_FCS_CNT (n : Nat) : Off := 0x2804c + 0x800 * n
abbrev Reg.ETH_LINKDOWN_CNT (n : Nat) : Off := 0x28050 + 0x800 * n
abbrev Reg.PTP_MSG_CNT (n : Nat) : Off := 0x28054 + 0x800 * n
abbrev Reg.WS_STATUS : Off := 0x29000
abbrev Reg.WS_EVT : Off := 0x29004
abbrev Reg.WS_CTL : Off := 0x29008
abbrev Reg.WS_SERVO_CFG : Off := 0x2900c
abbrev Reg.WS_LOCK_CFG : Off := 0x29010
abbrev Reg.WS_UTC_OFFSET : Off := 0x29014
abbrev Reg.PTP_CFG : Off := 0x29018
abbrev Reg.PTP_CLOCK_ID_LO : Off := 0x2901c
abbrev Reg.PTP_CLOCK_ID_HI : Off := 0x29020
abbrev Reg.ETH_IPV4_MASK : Off := 0x29024
abbrev Reg.PUB_GROUP : Off := 0x29028
abbrev Reg.PUB_PORT : Off := 0x2902c
abbrev Reg.WS_FRC_LO : Off := 0x29030
abbrev Reg.WS_FRC_HI : Off := 0x29034
abbrev Reg.WS_TIME_LO : Off := 0x29038
abbrev Reg.WS_TIME_HI : Off := 0x2903c
abbrev Reg.WS_OFFSET_LO : Off := 0x29040
abbrev Reg.WS_OFFSET_HI : Off := 0x29044
abbrev Reg.WS_RATE_LO : Off := 0x29048
abbrev Reg.WS_RATE_HI : Off := 0x2904c
abbrev Reg.WS_INC_LO : Off := 0x29050
abbrev Reg.WS_INC_HI : Off := 0x29054
abbrev Reg.WS_LAST_OFS : Off := 0x29058
abbrev Reg.WS_MEAN_PD : Off := 0x2905c
abbrev Reg.WS_MASTER_ID_LO : Off := 0x29060
abbrev Reg.WS_MASTER_ID_HI : Off := 0x29064
abbrev Reg.WS_LAST_STEP_LO : Off := 0x29068
abbrev Reg.WS_LAST_STEP_HI : Off := 0x2906c
abbrev Reg.WS_STEP_CNT : Off := 0x29070
abbrev Reg.WS_HOLDOVER_CNT : Off := 0x29074
abbrev Reg.WS_SUSPECT_CNT : Off := 0x29078
abbrev Reg.WS_MASTER_CHANGE_CNT : Off := 0x2907c
abbrev Reg.WS_SWITCH_LATE_CNT : Off := 0x29080
abbrev Reg.TMO_CFG (n : Nat) : Off := 0x29100 + 0x20 * n
abbrev Reg.TMO_START_LO (n : Nat) : Off := 0x29104 + 0x20 * n
abbrev Reg.TMO_START_HI (n : Nat) : Off := 0x29108 + 0x20 * n
abbrev Reg.TMO_PERIOD (n : Nat) : Off := 0x2910c + 0x20 * n
abbrev Reg.TMO_WIDTH (n : Nat) : Off := 0x29110 + 0x20 * n
abbrev Reg.TMO_STATUS (n : Nat) : Off := 0x29114 + 0x20 * n
abbrev Reg.TMO_MISSED_CNT (n : Nat) : Off := 0x29118 + 0x20 * n
abbrev Reg.TMO_PULSE_CNT (n : Nat) : Off := 0x2911c + 0x20 * n
abbrev Reg.RTC_STATUS : Off := 0x30000
abbrev Reg.RTC_EVT : Off := 0x30004
abbrev Reg.RTC_INT_EN : Off := 0x30008
abbrev Reg.RTC_FRAC : Off := 0x30010
abbrev Reg.RTC_SEC_LO : Off := 0x30014
abbrev Reg.RTC_SEC_HI : Off := 0x30018
abbrev Reg.RTC_BCD_TIME : Off := 0x3001c
abbrev Reg.RTC_BCD_DATE : Off := 0x30020
abbrev Reg.RTC_BCD_EXT : Off := 0x30024
abbrev Reg.RTC_STG_FRAC : Off := 0x30030
abbrev Reg.RTC_STG_SEC_LO : Off := 0x30034
abbrev Reg.RTC_STG_SEC_HI : Off := 0x30038
abbrev Reg.RTC_CMD : Off := 0x3003c
abbrev Reg.RTC_SHIFT : Off := 0x30040
abbrev Reg.RTC_SHIFT_LEFT : Off := 0x30044
abbrev Reg.RTC_DST : Off := 0x30048
abbrev Reg.RTC_LOCAL_OFS : Off := 0x3004c
abbrev Reg.RTC_ALM_LO : Off := 0x30050
abbrev Reg.RTC_ALM_HI : Off := 0x30054
abbrev Reg.RTC_ALM_CTL : Off := 0x30058
abbrev Reg.RTC_WAKE_CTL : Off := 0x30060
abbrev Reg.RTC_WAKE_PERIOD : Off := 0x30064
abbrev Reg.RTC_SWO_SEC_LO : Off := 0x30070
abbrev Reg.RTC_SWO_SEC_HI : Off := 0x30074
abbrev Reg.RTC_SWO_FRAC : Off := 0x30078
abbrev Reg.RTC_SWO_CNT : Off := 0x3007c
abbrev Reg.RTC_TRICKLE : Off := 0x30080
abbrev Reg.RTC_VBK : Off := 0x30084
abbrev Reg.RTC_SET_CNT : Off := 0x30088
abbrev Reg.RTC_SHIFT_CNT : Off := 0x3008c
abbrev Reg.RTC_ALM_CNT : Off := 0x30090
abbrev Reg.RTC_WAKE_CNT : Off := 0x30094
abbrev Reg.LEG_RTC_SEC : Off := 0x40200
abbrev Reg.LEG_RTC_MIN : Off := 0x40204
abbrev Reg.LEG_RTC_HOUR : Off := 0x40208
abbrev Reg.LEG_RTC_WDAY : Off := 0x4020c
abbrev Reg.LEG_RTC_DAY : Off := 0x40210
abbrev Reg.LEG_RTC_MON : Off := 0x40214
abbrev Reg.LEG_RTC_YEAR : Off := 0x40218
abbrev Reg.LEG_RTC_CTL : Off := 0x4021c
abbrev Reg.LEG_RTC_STAT : Off := 0x40220
abbrev Reg.LEG_RTC_ERR_CNT : Off := 0x40224
abbrev Reg.PNL_CTL : Off := 0x34000
abbrev Reg.PNL_STATUS : Off := 0x34004
abbrev Reg.PNL_EVT : Off := 0x34008
abbrev Reg.PNL_V25 : Off := 0x3400c
abbrev Reg.PNL_TC : Off := 0x34010
abbrev Reg.PNL_I25 : Off := 0x34014
abbrev Reg.PNL_ITC : Off := 0x34018
abbrev Reg.PNL_TEMP : Off := 0x3401c
abbrev Reg.PNL_VPP_SET : Off := 0x34020
abbrev Reg.PNL_VPP_MEAS : Off := 0x34024
abbrev Reg.PNL_ICODE : Off := 0x34028
abbrev Reg.PNL_NTC_OHM : Off := 0x3402c
abbrev Reg.PNL_LIST_CNT : Off := 0x34030
abbrev Reg.PNL_FRAME_CNT : Off := 0x34034
abbrev Reg.PNL_FLIP_CNT : Off := 0x34038
abbrev Reg.PNL_VPP_FAULT_CNT : Off := 0x3403c
abbrev Reg.PNL_NTC_FAULT_CNT : Off := 0x34040
abbrev Reg.UPD_STATUS : Off := 0x38000
abbrev Reg.UPD_EVT : Off := 0x38004
abbrev Reg.UPD_SESSION : Off := 0x38008
abbrev Reg.UPD_PIECES : Off := 0x3800c
abbrev Reg.UPD_STORED : Off := 0x38010
abbrev Reg.UPD_RUN_VER : Off := 0x38014
abbrev Reg.UPD_ALT_VER : Off := 0x38018
abbrev Reg.UPD_TARGET_VER : Off := 0x3801c
abbrev Reg.UPD_TRIAL_LEFT : Off := 0x38020
abbrev Reg.UPD_SETTINGS_FMT : Off := 0x38024
abbrev Reg.UPD_LAST_REJ : Off := 0x38028
abbrev Reg.UPD_BOOTREC_SEQ : Off := 0x3802c
abbrev Reg.UPD_PIECE_CNT : Off := 0x38030
abbrev Reg.UPD_PIECE_REJ_CNT : Off := 0x38034
abbrev Reg.UPD_PIECE_DUP_CNT : Off := 0x38038
abbrev Reg.UPD_VERIFY_FAIL_CNT : Off := 0x3803c
abbrev Reg.UPD_ACTIVATE_CNT : Off := 0x38040
abbrev Reg.UPD_FALLBACK_CNT : Off := 0x38044
abbrev Reg.UPD_PAUSE_MAX : Off := 0x38048
abbrev Reg.UPD_OTP_KEYS : Off := 0x3804c
abbrev Reg.UPD_KEY (k : Nat) : Off := 0x38060 + 4 * k
abbrev Reg.UPD_KEY_CMD : Off := 0x38080
abbrev Reg.UPD_KEY_STATUS : Off := 0x38084
abbrev Reg.UPD_KEY_CHECK : Off := 0x38088
abbrev Reg.TARN_STATUS : Off := 0x4000
abbrev Reg.TARN_EVT : Off := 0x4004
abbrev Reg.TARN_SCRUB_CTL : Off := 0x4008
abbrev Reg.TARN_SCRUB_POS : Off := 0x400c
abbrev Reg.TARN_SCRUB_AGE : Off := 0x4010
abbrev Reg.TARN_UE_LAST : Off := 0x4014
abbrev Reg.TARN_CE_TOTAL_CNT : Off := 0x4018
abbrev Reg.TARN_UE_TOTAL_CNT : Off := 0x401c
abbrev Reg.QUOTA_ELASTIC : Off := 0x4020
abbrev Reg.QUOTA_TREND : Off := 0x4024
abbrev Reg.QUOTA_CMD : Off := 0x4028
abbrev Reg.QUOTA_STATUS : Off := 0x402c
abbrev Reg.QUOTA_SET_CNT : Off := 0x4030
abbrev Reg.TARN_BANK_CE_CNT (n : Nat) : Off := 0x4100 + 0x10 * n
abbrev Reg.TARN_BANK_UE_CNT (n : Nat) : Off := 0x4104 + 0x10 * n
abbrev Reg.TARN_BANK_LAST_CE (n : Nat) : Off := 0x4108 + 0x10 * n
abbrev Reg.HK_STATUS : Off := 0x3c000
abbrev Reg.HK_EVT : Off := 0x3c004
abbrev Reg.HK_TELEM_CTL : Off := 0x3c008
abbrev Reg.HK_TCM_CE_CNT : Off := 0x3c00c
abbrev Reg.HK_SET_JOURNAL_FILL : Off := 0x3c010
abbrev Reg.HK_SET_ENTRIES : Off := 0x3c014
abbrev Reg.HK_SET_BASE : Off := 0x3c018
abbrev Reg.HK_SET_LAST_EPOCH : Off := 0x3c01c
abbrev Reg.HK_SECTOR_MAX_ERASE : Off := 0x3c020
abbrev Reg.HK_SPARE_SECTORS : Off := 0x3c024
abbrev Reg.HK_BASE_CNT : Off := 0x3c028
abbrev Reg.HK_SET_WRITE_FAIL_CNT : Off := 0x3c02c
abbrev Reg.HK_TELEM_SEQ : Off := 0x3c030
abbrev Reg.HK_DIE_TEMP : Off := 0x3c034
abbrev Reg.HK_BOARD_TEMP : Off := 0x3c038
abbrev Reg.HK_LV_A : Off := 0x3c03c
abbrev Reg.HK_LV_B : Off := 0x3c040
abbrev Reg.HK_GECKO_LOAD : Off := 0x3c044
abbrev Reg.VENDOR : Off := 0x0
abbrev Reg.PART : Off := 0x4
abbrev Reg.HW_REV : Off := 0x8
abbrev Reg.BEHAV_REV : Off := 0xc
abbrev Reg.SERIAL_LO : Off := 0x10
abbrev Reg.SERIAL_HI : Off := 0x14
abbrev Reg.MGMT_STATE : Off := 0x18
abbrev Reg.MGMT_CMD : Off := 0x1c
abbrev Reg.MGMT_RESET_CAUSE : Off := 0x20
abbrev Reg.MGMT_BOOT_STATUS : Off := 0x24
abbrev Reg.MGMT_SELFTEST : Off := 0x28
abbrev Reg.MGMT_SS_STATUS : Off := 0x2c
abbrev Reg.MGMT_NODE_ID : Off := 0x30
abbrev Reg.MGMT_SLOT_ID : Off := 0x34
abbrev Reg.MGMT_FMODE : Off := 0x38
abbrev Reg.MGMT_BEHAV_LOCK : Off := 0x3c
abbrev Reg.MGMT_COMM_REF (k : Nat) : Off := 0x40 + 4 * k
abbrev Reg.MGMT_FAULT_CAUSE : Off := 0x60
abbrev Reg.MGMT_FAULT_ISN_LO : Off := 0x64
abbrev Reg.MGMT_FAULT_ISN_HI : Off := 0x68
abbrev Reg.MGMT_IGNORED_WR_CNT : Off := 0x6c
abbrev Reg.MGMT_IGNORED_LAST : Off := 0x70
abbrev Reg.MGMT_BAD_ACCESS_CNT : Off := 0x74
abbrev Reg.MGMT_EVT : Off := 0x78
abbrev Reg.MGMT_SCRATCH : Off := 0x7c
abbrev Reg.MGMT_INT_STATUS : Off := 0x80
abbrev Reg.MGMT_INT_EN : Off := 0x84
abbrev Reg.MGMT_INT_REARM : Off := 0x88
abbrev Reg.MSIX (v k : Nat) : Off := 0x3000 + 0x10 * v + 4 * k
abbrev Reg.MSIX_PBA (k : Nat) : Off := 0x3800 + 4 * k

/-! ## Rows -/

/-- Access codes (R12). `cnt` is an RW counter or maximum register under R13: a write of zero clears it, any other value is ignored. -/
inductive Access where
  | rw | rws | ro | wo | w1c | cmd | cnt
  deriving DecidableEq, Repr

/-- Where a register's reset value comes from: the summary's number, the factory (an implementation's constant), the behaviour revision fixed at boot (R85), or the channel's share of the filter table (Table 13-19). -/
inductive RegReset where
  | val (v : Nat)
  | factory
  | behav
  | canShare
  deriving DecidableEq, Repr

/-- A register, or an array of `units` × `count` registers: unit n's register k lies at base + stride · n + 4 · k. `checks` are stated ranges: low bit, width, least and greatest value. -/
structure RegRow where
  base : Off
  stride : Nat
  units : Nat
  count : Nat
  acc : Access
  reset : RegReset
  mask : U32
  checks : List (Nat × Nat × Nat × Nat)
  deriving DecidableEq, Repr

/-- Table 4-10. -/
def legRows : List RegRow :=
  [⟨Reg.LEG_EVT_W0, 0, 1, 1, .ro, .val 0, 0xffffffff, []⟩,
   ⟨Reg.LEG_EVT_W1, 0, 1, 1, .ro, .val 0, 0xffffffff, []⟩,
   ⟨Reg.LEG_EVT_W2, 0, 1, 1, .ro, .val 0, 0xffffffff, []⟩,
   ⟨Reg.LEG_EVT_W3, 0, 1, 1, .ro, .val 0, 0xffffffff, []⟩,
   ⟨Reg.LEG_EVT_LEVEL, 0, 1, 1, .ro, .val 0, 0xffffffff, []⟩,
   ⟨Reg.LEG_EVT_STAT, 0, 1, 1, .w1c, .val 0, 0x1, []⟩,
   ⟨Reg.LEG_EVT_OVF_CNT, 0, 1, 1, .cnt, .val 0, 0xffffffff, []⟩,
   ⟨Reg.LEG_EVT_CTL, 0, 1, 1, .cmd, .val 0, 0xffffffff, []⟩]

/-- Table 4-11. -/
def ringRows : List RegRow :=
  [⟨(Reg.RING_BASE_LO 0), 0x40, 32, 1, .rw, .val 0, 0xfffff000, []⟩,
   ⟨(Reg.RING_BASE_HI 0), 0x40, 32, 1, .rw, .val 0, 0xffffffff, []⟩,
   ⟨(Reg.RING_SIZE 0), 0x40, 32, 1, .rw, .val 6, 0x1f, []⟩,
   ⟨(Reg.RING_START 0), 0x40, 32, 1, .rw, .val 0, 0xffffffff, []⟩,
   ⟨(Reg.RING_CTL 0), 0x40, 32, 1, .rw, .val 0, 0x1f07, []⟩,
   ⟨(Reg.RING_STATUS 0), 0x40, 32, 1, .ro, .val 0, 0xffffffff, []⟩,
   ⟨(Reg.RING_NODE_IDX 0), 0x40, 32, 1, .ro, .val 0, 0xffffffff, []⟩,
   ⟨(Reg.RING_HOST_IDX 0), 0x40, 32, 1, .ro, .val 0, 0xffffffff, []⟩,
   ⟨(Reg.RING_MOD_COUNT 0), 0x40, 32, 1, .rw, .val 1, 0xffff, [(0, 32, 0, 65535)]⟩,
   ⟨(Reg.RING_MOD_TIME 0), 0x40, 32, 1, .rw, .val 0, 0xffffffff, [(0, 32, 0, 10000)]⟩,
   ⟨(Reg.RING_PREFETCH 0), 0x40, 32, 1, .ro, .val 0x10, 0xffffffff, []⟩,
   ⟨(Reg.RING_INFLIGHT 0), 0x40, 32, 1, .ro, .val 0, 0xffffffff, []⟩,
   ⟨(Reg.RING_ENTRY_CNT 0), 0x40, 32, 1, .cnt, .val 0, 0xffffffff, []⟩,
   ⟨(Reg.RING_LOSS_CNT 0), 0x40, 32, 1, .cnt, .val 0, 0xffffffff, []⟩,
   ⟨(Reg.RING_ERR_CNT 0), 0x40, 32, 1, .cnt, .val 0, 0xffffffff, []⟩]

/-- Table 4-14. -/
def hifRows : List RegRow :=
  [⟨Reg.HIF_CTL, 0, 1, 1, .rw, .val 0, 0x1, []⟩,
   ⟨Reg.HIF_STATUS, 0, 1, 1, .ro, .val 0, 0xffffffff, []⟩,
   ⟨Reg.HIF_DBPAGE_LO, 0, 1, 1, .rw, .val 0, 0xfffff000, []⟩,
   ⟨Reg.HIF_DBPAGE_HI, 0, 1, 1, .rw, .val 0, 0xffffffff, []⟩,
   ⟨Reg.HIF_STATPAGE_LO, 0, 1, 1, .rw, .val 0, 0xfffff000, []⟩,
   ⟨Reg.HIF_STATPAGE_HI, 0, 1, 1, .rw, .val 0, 0xffffffff, []⟩,
   ⟨Reg.HIF_DB_POLL, 0, 1, 1, .rw, .behav, 0xffffffff, [(0, 32, 1, 1000)]⟩,
   ⟨Reg.HIF_KICK, 0, 1, 1, .cmd, .val 0, 0xffffffff, []⟩,
   ⟨Reg.HIF_EVT, 0, 1, 1, .w1c, .val 0, 0x3, []⟩,
   ⟨Reg.HIF_INT_CTL, 0, 1, 1, .rw, .val 0, 0x11f, []⟩,
   ⟨Reg.HIF_DB_READ_CNT, 0, 1, 1, .cnt, .val 0, 0xffffffff, []⟩,
   ⟨Reg.HIF_DB_ERR_CNT, 0, 1, 1, .cnt, .val 0, 0xffffffff, []⟩,
   ⟨Reg.HIF_KICK_CNT, 0, 1, 1, .cnt, .val 0, 0xffffffff, []⟩,
   ⟨Reg.HIF_IGNORED_WR_CNT, 0, 1, 1, .cnt, .val 0, 0xffffffff, []⟩,
   ⟨Reg.HIF_FLR_CNT, 0, 1, 1, .cnt, .val 0, 0xffffffff, []⟩,
   ⟨Reg.HIF_LINKDOWN_CNT, 0, 1, 1, .cnt, .val 0, 0xffffffff, []⟩,
   ⟨Reg.HIF_DB_LAT_MAX, 0, 1, 1, .cnt, .val 0, 0xffffffff, []⟩,
   ⟨Reg.HIF_CMPL_KEPT, 0, 1, 1, .ro, .val 0, 0xffffffff, []⟩,
   ⟨Reg.HIF_HEARTBEAT_LO, 0, 1, 1, .ro, .val 0, 0xffffffff, []⟩,
   ⟨Reg.HIF_HEARTBEAT_HI, 0, 1, 1, .ro, .val 0, 0xffffffff, []⟩,
   ⟨Reg.HIF_PREFETCH_OUT, 0, 1, 1, .ro, .val 0, 0xffffffff, []⟩]

/-- Table 5-9. -/
def exRows : List RegRow :=
  [⟨(Reg.EX_CTL 0), 0x40, 16, 1, .rws, .val 1, 0xf, []⟩,
   ⟨(Reg.EX_STATUS 0), 0x40, 16, 1, .ro, .val 0xff00, 0xffffffff, []⟩,
   ⟨(Reg.EX_FLAGS 0), 0x40, 16, 1, .w1c, .val 0, 0x7, []⟩,
   ⟨(Reg.EX_COMPL_CNT 0), 0x40, 16, 1, .cnt, .val 0, 0xffffffff, []⟩,
   ⟨(Reg.EX_OC_CNT 0), 0x40, 16, 1, .cnt, .val 0, 0xffffffff, []⟩,
   ⟨(Reg.EX_QHIGH_CNT 0), 0x40, 16, 1, .cnt, .val 0, 0xffffffff, []⟩,
   ⟨(Reg.EX_CAL_I 0), 0x40, 16, 1, .ro, .val 0, 0xffffffff, []⟩,
   ⟨(Reg.EX_CAL_U 0), 0x40, 16, 1, .ro, .val 0, 0xffffffff, []⟩,
   ⟨(Reg.EX_LAST_DEF 0), 0x40, 16, 1, .ro, .val 0xff, 0xffffffff, []⟩,
   ⟨(Reg.EX_LAST_MAG 0), 0x40, 16, 1, .ro, .val 0, 0xffffffff, []⟩,
   ⟨(Reg.EX_USE_CNT 0), 0x40, 16, 1, .cnt, .val 0, 0xffffffff, []⟩]

/-- Table 5-10. -/
def xpRows : List RegRow :=
  [⟨Reg.XP_STATUS, 0, 1, 1, .ro, .val 0, 0xffffffff, []⟩,
   ⟨Reg.XP_CHECK, 0, 1, 1, .cmd, .val 0, 0xffffffff, []⟩,
   ⟨Reg.XP_CHK_STATUS, 0, 1, 1, .ro, .val 0, 0xffffffff, []⟩,
   ⟨Reg.XP_CHK_FIRST, 0, 1, 1, .ro, .val 0xff00ff, 0xffffffff, []⟩,
   ⟨Reg.XP_CHK_LAST, 0, 1, 1, .ro, .val 0xff00ff, 0xffffffff, []⟩,
   ⟨(Reg.XP_SKIPPED 0), 0, 1, 8, .ro, .val 0, 0xffffffff, []⟩,
   ⟨(Reg.BS_LEVEL 0), 0, 1, 8, .rws, .val 0, 0xfff, [(0, 12, 0, 2500)]⟩,
   ⟨Reg.BS_STATUS, 0, 1, 1, .ro, .val 0, 0xffffffff, []⟩,
   ⟨Reg.BS_OC_CNT, 0, 1, 1, .cnt, .val 0, 0xffffffff, []⟩,
   ⟨Reg.XP_BURDEN_OC_CNT, 0, 1, 1, .cnt, .val 0, 0xffffffff, []⟩,
   ⟨(Reg.XP_CLAMP_FLAG 0), 0, 1, 6, .w1c, .val 0, 0xffffffff, []⟩,
   ⟨(Reg.XP_CLAMP_NOW 0), 0, 1, 6, .ro, .val 0, 0xffffffff, []⟩,
   ⟨(Reg.XP_BURDEN_EN 0), 0, 1, 6, .rws, .val 0, 0xffffffff, []⟩,
   ⟨(Reg.XP_BURDEN_OPEN 0), 0, 1, 6, .ro, .val 0, 0xffffffff, []⟩,
   ⟨(Reg.XP_CLAMP_CNT 0), 0, 1, 192, .cnt, .val 0, 0xffffffff, []⟩]

/-- Table 6-11. -/
def feRows : List RegRow :=
  [⟨Reg.FE_STATUS, 0, 1, 1, .ro, .val 0, 0xffffffff, []⟩,
   ⟨Reg.FE_CAL_PERIOD, 0, 1, 1, .rws, .val 0x3c, 0xfff, [(0, 12, 10, 3600)]⟩,
   ⟨Reg.FE_CAL_LIM, 0, 1, 1, .rws, .val 0x6400c8, 0xffffffff, [(0, 16, 1, 10000), (16, 16, 1, 10000)]⟩,
   ⟨Reg.FE_CJ_MAX_AGE, 0, 1, 1, .rws, .val 0x7d0, 0xffff, [(0, 16, 100, 60000)]⟩,
   ⟨Reg.FE_LIN_VALID0, 0, 1, 1, .ro, .val 0, 0xffffffff, []⟩,
   ⟨Reg.FE_LIN_VALID1, 0, 1, 1, .ro, .val 0, 0xffffffff, []⟩,
   ⟨Reg.FE_LANE_FAULT0, 0, 1, 1, .ro, .val 0, 0xffffffff, []⟩,
   ⟨Reg.FE_LANE_FAULT1, 0, 1, 1, .ro, .val 0, 0xffffffff, []⟩,
   ⟨Reg.FE_CAL_WARN0, 0, 1, 1, .ro, .val 0, 0xffffffff, []⟩,
   ⟨Reg.FE_CAL_WARN1, 0, 1, 1, .ro, .val 0, 0xffffffff, []⟩,
   ⟨Reg.FE_EVT, 0, 1, 1, .w1c, .val 0, 0x3, []⟩,
   ⟨Reg.FE_CJ_STALE_CNT, 0, 1, 1, .cnt, .val 0, 0xffffffff, []⟩,
   ⟨Reg.FE_MOVE_CNT, 0, 1, 1, .cnt, .val 0, 0xffffffff, []⟩,
   ⟨Reg.FE_SETTLING_CNT, 0, 1, 1, .cnt, .val 0, 0xffffffff, []⟩,
   ⟨Reg.FE_LIN_LAST, 0, 1, 1, .ro, .val 0, 0xffffffff, []⟩]

/-- Table 6-12. -/
def laneRows : List RegRow :=
  [⟨(Reg.LANE_CTL 0), 0x100, 48, 1, .rws, .val 1, 0x1, []⟩,
   ⟨(Reg.LANE_STATUS 0), 0x100, 48, 1, .ro, .val 0, 0xffffffff, []⟩,
   ⟨(Reg.LANE_EVT 0), 0x100, 48, 1, .w1c, .val 0, 0x7, []⟩,
   ⟨(Reg.LANE_SCAN_PERIOD 0), 0x100, 48, 1, .ro, .val 0, 0xffffffff, []⟩,
   ⟨(Reg.LANE_SCAN 0 0), 0x100, 48, 16, .rws, .val 0, 0x1ff, []⟩,
   ⟨(Reg.LANE_CAL_OFS 0 0), 0x100, 48, 8, .ro, .factory, 0xffffffff, []⟩,
   ⟨(Reg.LANE_CAL_GAIN 0 0), 0x100, 48, 8, .ro, .factory, 0xffffffff, []⟩,
   ⟨(Reg.LANE_CAL_AGE 0), 0x100, 48, 1, .ro, .val 0, 0xffffffff, []⟩,
   ⟨(Reg.LANE_CAL_LAST 0), 0x100, 48, 1, .ro, .val 0, 0xffffffff, []⟩,
   ⟨(Reg.LANE_SAMPLE_CNT 0), 0x100, 48, 1, .cnt, .val 0, 0xffffffff, []⟩,
   ⟨(Reg.LANE_SETTLING_CNT 0), 0x100, 48, 1, .cnt, .val 0, 0xffffffff, []⟩,
   ⟨(Reg.LANE_CMF_CNT 0), 0x100, 48, 1, .cnt, .val 0, 0xffffffff, []⟩,
   ⟨(Reg.LANE_OVR_CNT 0), 0x100, 48, 1, .cnt, .val 0, 0xffffffff, []⟩,
   ⟨(Reg.LANE_CAL_CNT 0), 0x100, 48, 1, .cnt, .val 0, 0xffffffff, []⟩,
   ⟨(Reg.LANE_CAL_REJ_CNT 0), 0x100, 48, 1, .cnt, .val 0, 0xffffffff, []⟩,
   ⟨(Reg.LANE_MOVE_CNT 0), 0x100, 48, 1, .cnt, .val 0, 0xffffffff, []⟩,
   ⟨(Reg.LANE_HELD_DEF 0), 0x100, 48, 1, .ro, .val 0x100, 0xffffffff, []⟩,
   ⟨(Reg.LANE_DRAIN_DEF 0), 0x100, 48, 1, .ro, .val 0x100, 0xffffffff, []⟩,
   ⟨(Reg.LANE_LAST_RAW 0), 0x100, 48, 1, .ro, .val 0, 0xffffffff, []⟩]

/-- Table 7-21. -/
def legPtRows : List RegRow :=
  [⟨Reg.LEG_PT_W0, 0, 1, 1, .rw, .val 0, 0xffffffff, []⟩,
   ⟨Reg.LEG_PT_W1, 0, 1, 1, .rw, .val 0, 0xffffffff, []⟩,
   ⟨Reg.LEG_PT_W2, 0, 1, 1, .rw, .val 0, 0xffffffff, []⟩,
   ⟨Reg.LEG_PT_W3, 0, 1, 1, .rw, .val 0, 0xffffffff, []⟩,
   ⟨Reg.LEG_PT_INDEX, 0, 1, 1, .rw, .val 0, 0x3ff, []⟩,
   ⟨Reg.LEG_PT_CMD, 0, 1, 1, .cmd, .val 0, 0xffffffff, []⟩,
   ⟨Reg.LEG_PT_STATUS, 0, 1, 1, .ro, .val 0, 0xffffffff, []⟩,
   ⟨Reg.LEG_PT_ERR_CNT, 0, 1, 1, .cnt, .val 0, 0xffffffff, []⟩]

/-- Table 8-16. -/
def croakRows : List RegRow :=
  [⟨Reg.CROAK_STATUS, 0, 1, 1, .ro, .val 0, 0xffffffff, []⟩,
   ⟨Reg.CROAK_EVT, 0, 1, 1, .w1c, .val 0, 0x7, []⟩,
   ⟨Reg.CROAK_SEL, 0, 1, 1, .rw, .val 0, 0xff, []⟩,
   ⟨Reg.CROAK_SEL_STATE, 0, 1, 1, .ro, .val 0, 0xffffffff, []⟩,
   ⟨Reg.CROAK_SEL_ACTIVE, 0, 1, 1, .ro, .val 0, 0xffffffff, []⟩,
   ⟨Reg.CROAK_SEL_UNACKED, 0, 1, 1, .ro, .val 0, 0xffffffff, []⟩,
   ⟨Reg.CROAK_SEL_FIRST, 0, 1, 1, .ro, .val 0, 0xffffffff, []⟩,
   ⟨Reg.CROAK_DRIVE_LO, 0, 1, 1, .ro, .val 0, 0xffffffff, []⟩,
   ⟨Reg.CROAK_DRIVE_HI, 0, 1, 1, .ro, .val 0, 0xffffffff, []⟩,
   ⟨Reg.CROAK_MASK_WARN_LO, 0, 1, 1, .ro, .val 0, 0xffffffff, []⟩,
   ⟨Reg.CROAK_MASK_WARN_HI, 0, 1, 1, .ro, .val 0, 0xffffffff, []⟩,
   ⟨(Reg.CROAK_CALLING 0), 0, 1, 8, .ro, .val 0, 0xffffffff, []⟩,
   ⟨(Reg.CROAK_BRIDGE 0), 0, 1, 8, .ro, .val 0, 0xffffffff, []⟩,
   ⟨(Reg.CROAK_DMWARN 0), 0, 1, 8, .ro, .val 0, 0xffffffff, []⟩,
   ⟨(Reg.CROAK_BAD 0), 0, 1, 8, .ro, .val 0, 0xffffffff, []⟩,
   ⟨Reg.CROAK_RAISE_CNT, 0, 1, 1, .cnt, .val 0, 0xffffffff, []⟩,
   ⟨Reg.CROAK_ESC_CNT, 0, 1, 1, .cnt, .val 0, 0xffffffff, []⟩,
   ⟨Reg.CROAK_BRIDGE_CNT, 0, 1, 1, .cnt, .val 0, 0xffffffff, []⟩,
   ⟨Reg.CROAK_ACCEPT_CNT, 0, 1, 1, .cnt, .val 0, 0xffffffff, []⟩,
   ⟨Reg.CROAK_SILENCE_CNT, 0, 1, 1, .cnt, .val 0, 0xffffffff, []⟩,
   ⟨Reg.CROAK_DM_CALL_CNT, 0, 1, 1, .cnt, .val 0, 0xffffffff, []⟩,
   ⟨Reg.CROAK_FLOOD_CNT, 0, 1, 1, .cnt, .val 0, 0xffffffff, []⟩,
   ⟨Reg.CROAK_CANTX_LOSS_CNT, 0, 1, 1, .cnt, .val 0, 0xffffffff, []⟩]

/-- Table 9-14. -/
def inletRows : List RegRow :=
  [⟨Reg.INLET_STATUS, 0, 1, 1, .ro, .val 0, 0xffffffff, []⟩,
   ⟨Reg.INLET_EVT, 0, 1, 1, .w1c, .val 0, 0x3, []⟩,
   ⟨Reg.INLET_ISN_LO, 0, 1, 1, .ro, .val 0, 0xffffffff, []⟩,
   ⟨Reg.INLET_ISN_HI, 0, 1, 1, .ro, .val 0, 0xffffffff, []⟩,
   ⟨Reg.INLET_CFG_EPOCH, 0, 1, 1, .ro, .val 0, 0xffffffff, []⟩,
   ⟨Reg.INLET_TICK_NO_LO, 0, 1, 1, .ro, .val 0, 0xffffffff, []⟩,
   ⟨Reg.INLET_TICK_NO_HI, 0, 1, 1, .ro, .val 0, 0xffffffff, []⟩,
   ⟨Reg.INLET_FILL, 0, 1, 1, .ro, .val 0, 0xffffffff, []⟩,
   ⟨Reg.INLET_LAG_A, 0, 1, 1, .ro, .val 0, 0xffffffff, []⟩,
   ⟨Reg.INLET_LAG_B, 0, 1, 1, .ro, .val 0, 0xffffffff, []⟩,
   ⟨Reg.INLET_ADMIT_CNT, 0, 1, 1, .cnt, .val 0, 0xffffffff, []⟩,
   ⟨Reg.INLET_HOLD_CNT, 0, 1, 1, .cnt, .val 0, 0xffffffff, []⟩,
   ⟨Reg.INLET_OVR_FE_CNT, 0, 1, 1, .cnt, .val 0, 0xffffffff, []⟩,
   ⟨Reg.INLET_OVR_DIO_CNT, 0, 1, 1, .cnt, .val 0, 0xffffffff, []⟩,
   ⟨Reg.INLET_OVR_CAN_CNT, 0, 1, 1, .cnt, .val 0, 0xffffffff, []⟩,
   ⟨Reg.INLET_OVR_TICK_CNT, 0, 1, 1, .cnt, .val 0, 0xffffffff, []⟩,
   ⟨Reg.INLET_GAP_CNT, 0, 1, 1, .cnt, .val 0, 0xffffffff, []⟩,
   ⟨Reg.INLET_GAP_MISSING_CNT, 0, 1, 1, .cnt, .val 0, 0xffffffff, []⟩,
   ⟨Reg.INLET_LAST_GAP, 0, 1, 1, .ro, .val 0, 0xffffffff, []⟩,
   ⟨Reg.OUT_STATUS, 0, 1, 1, .ro, .val 0, 0xffffffff, []⟩,
   ⟨Reg.OUT_EVT, 0, 1, 1, .w1c, .val 0, 0xf, []⟩,
   ⟨Reg.OUT_DELIVER, 0, 1, 1, .rws, .val 0x10, 0x3f, [(0, 2, 0, 1), (2, 2, 0, 1), (4, 2, 0, 1)]⟩,
   ⟨Reg.OUT_MERGE_WAIT, 0, 1, 1, .rws, .val 0x3e8, 0x1fff, [(0, 13, 100, 5000)]⟩,
   ⟨Reg.OUT_NEXT_ESN_LO, 0, 1, 1, .ro, .val 1, 0xffffffff, []⟩,
   ⟨Reg.OUT_NEXT_ESN_HI, 0, 1, 1, .ro, .val 0, 0xffffffff, []⟩,
   ⟨Reg.OUT_RELEASED_ESN_LO, 0, 1, 1, .ro, .val 1, 0xffffffff, []⟩,
   ⟨Reg.OUT_RELEASED_ESN_HI, 0, 1, 1, .ro, .val 0, 0xffffffff, []⟩,
   ⟨Reg.OUT_BACKLOG_FILL, 0, 1, 1, .ro, .val 0, 0xffffffff, []⟩,
   ⟨Reg.OUT_BACKLOG_CAP, 0, 1, 1, .ro, .val 0x10000, 0xffffffff, []⟩,
   ⟨Reg.OUT_COALESCED_PTS, 0, 1, 1, .ro, .val 0, 0xffffffff, []⟩,
   ⟨Reg.OUT_COALESCE_CNT, 0, 1, 1, .cnt, .val 0, 0xffffffff, []⟩,
   ⟨Reg.OUT_NOTICE_CNT, 0, 1, 1, .cnt, .val 0, 0xffffffff, []⟩,
   ⟨Reg.OUT_WITHHELD_CNT, 0, 1, 1, .cnt, .val 0, 0xffffffff, []⟩,
   ⟨Reg.OUT_LATE_COPY_CNT, 0, 1, 1, .cnt, .val 0, 0xffffffff, []⟩,
   ⟨Reg.OUT_COPY_MISMATCH_CNT, 0, 1, 1, .cnt, .val 0, 0xffffffff, []⟩,
   ⟨Reg.OUT_MISMATCH_ESN_LO, 0, 1, 1, .ro, .val 0, 0xffffffff, []⟩,
   ⟨Reg.OUT_MISMATCH_ESN_HI, 0, 1, 1, .ro, .val 0, 0xffffffff, []⟩,
   ⟨Reg.CUST_CTL, 0, 1, 1, .rws, .val 0x384, 0xffff, [(0, 16, 0, 3600)]⟩,
   ⟨Reg.CUST_STATUS, 0, 1, 1, .ro, .val 0, 0xffffffff, []⟩,
   ⟨Reg.CUST_SEAL_CNT, 0, 1, 1, .cnt, .val 0, 0xffffffff, []⟩,
   ⟨Reg.CUST_LAST_MAC_LO, 0, 1, 1, .ro, .val 0, 0xffffffff, []⟩,
   ⟨Reg.CUST_LAST_MAC_HI, 0, 1, 1, .ro, .val 0, 0xffffffff, []⟩,
   ⟨Reg.CUST_LAST_ESN_LO, 0, 1, 1, .ro, .val 0, 0xffffffff, []⟩,
   ⟨Reg.CUST_LAST_ESN_HI, 0, 1, 1, .ro, .val 0, 0xffffffff, []⟩,
   ⟨Reg.PUB_ETH_CTL, 0, 1, 1, .rws, .val 0xaf00, 0xfffff07, [(12, 8, 1, 100)]⟩,
   ⟨Reg.PUB_ETH_SENT_CNT, 0, 1, 1, .cnt, .val 0, 0xffffffff, []⟩,
   ⟨Reg.PUB_ETH_LOSS_CNT, 0, 1, 1, .cnt, .val 0, 0xffffffff, []⟩,
   ⟨Reg.PUB_CAN_CTL, 0, 1, 1, .rws, .val 0xf00, 0xf0f, []⟩,
   ⟨Reg.PUB_CAN_ID, 0, 1, 1, .rws, .val 0, 0x3fffffff, []⟩,
   ⟨Reg.PUB_CAN_SENT_CNT, 0, 1, 1, .cnt, .val 0, 0xffffffff, []⟩,
   ⟨Reg.PUB_CAN_LOSS_CNT, 0, 1, 1, .cnt, .val 0, 0xffffffff, []⟩,
   ⟨Reg.TREND_STATUS, 0, 1, 1, .ro, .val 0, 0xffffffff, []⟩]

/-- Table 10-10. -/
def skinkRows : List RegRow :=
  [⟨Reg.SKINK_STATUS, 0, 1, 1, .ro, .val 0x100, 0xffffffff, []⟩,
   ⟨Reg.SKINK_EVT, 0, 1, 1, .w1c, .val 0, 0xff, []⟩,
   ⟨Reg.SKINK_CTL, 0, 1, 1, .rws, .val 0xa003c, 0xffffffff, [(0, 16, 10, 3600), (16, 16, 1, 3600)]⟩,
   ⟨Reg.SKINK_AUDIT_CTL, 0, 1, 1, .rws, .val 1, 0x1, []⟩,
   ⟨Reg.SKINK_AUDIT_POS, 0, 1, 1, .ro, .val 0, 0xffffffff, []⟩,
   ⟨Reg.SKINK_LAST_DIVERGE, 0, 1, 1, .ro, .val 0, 0xffffffff, []⟩,
   ⟨Reg.SKINK_HANDOVER_MAX, 0, 1, 1, .cnt, .val 0, 0xffffffff, []⟩,
   ⟨Reg.SKINK_TAKEOVER_CNT, 0, 1, 1, .cnt, .val 0, 0xffffffff, []⟩,
   ⟨Reg.SKINK_TAKEBACK_CNT, 0, 1, 1, .cnt, .val 0, 0xffffffff, []⟩,
   ⟨Reg.SKINK_DIVERGE_CNT, 0, 1, 1, .cnt, .val 0, 0xffffffff, []⟩,
   ⟨Reg.SKINK_AUDIT_SKIP_CNT, 0, 1, 1, .cnt, .val 0, 0xffffffff, []⟩,
   ⟨Reg.PAIR_CTL, 0, 1, 1, .rws, .val 0, 0x3f01, []⟩,
   ⟨Reg.PAIR_MASK_LO, 0, 1, 1, .rws, .val 0, 0xffffffff, []⟩,
   ⟨Reg.PAIR_MASK_HI, 0, 1, 1, .rws, .val 0, 0xffffffff, []⟩,
   ⟨Reg.PAIR_BLOCKED_LO, 0, 1, 1, .ro, .val 0, 0xffffffff, []⟩,
   ⟨Reg.PAIR_BLOCKED_HI, 0, 1, 1, .ro, .val 0, 0xffffffff, []⟩,
   ⟨Reg.PAIR_CLAIM_CNT, 0, 1, 1, .cnt, .val 0, 0xffffffff, []⟩,
   ⟨Reg.PAIR_TIE_CNT, 0, 1, 1, .cnt, .val 0, 0xffffffff, []⟩,
   ⟨Reg.PAIR_LOST_CNT, 0, 1, 1, .cnt, .val 0, 0xffffffff, []⟩]

/-- Table 10-11. -/
def aeRows : List RegRow :=
  [⟨(Reg.AE_STATUS 0), 0x80, 2, 1, .ro, .val 0, 0xffffffff, []⟩,
   ⟨(Reg.AE_EVAL_ISN_LO 0), 0x80, 2, 1, .ro, .val 0, 0xffffffff, []⟩,
   ⟨(Reg.AE_EVAL_ISN_HI 0), 0x80, 2, 1, .ro, .val 0, 0xffffffff, []⟩,
   ⟨(Reg.AE_NEXT_ESN_LO 0), 0x80, 2, 1, .ro, .val 1, 0xffffffff, []⟩,
   ⟨(Reg.AE_NEXT_ESN_HI 0), 0x80, 2, 1, .ro, .val 0, 0xffffffff, []⟩,
   ⟨(Reg.AE_FAIL_ISN_LO 0), 0x80, 2, 1, .ro, .val 0, 0xffffffff, []⟩,
   ⟨(Reg.AE_FAIL_ISN_HI 0), 0x80, 2, 1, .ro, .val 0, 0xffffffff, []⟩,
   ⟨(Reg.AE_FAIL_CNT 0), 0x80, 2, 1, .cnt, .val 0, 0xffffffff, []⟩,
   ⟨(Reg.AE_CFG_INVALID_CNT 0), 0x80, 2, 1, .cnt, .val 0, 0xffffffff, []⟩,
   ⟨(Reg.AE_EVAL_CNT 0), 0x80, 2, 1, .cnt, .val 0, 0xffffffff, []⟩,
   ⟨(Reg.AE_EVT_CNT 0), 0x80, 2, 1, .cnt, .val 0, 0xffffffff, []⟩,
   ⟨(Reg.AE_SWEEP_MAX 0), 0x80, 2, 1, .cnt, .val 0, 0xffffffff, []⟩,
   ⟨(Reg.AE_LAG_MAX 0), 0x80, 2, 1, .cnt, .val 0, 0xffffffff, []⟩,
   ⟨(Reg.AE_HOLD_TIME 0), 0x80, 2, 1, .ro, .val 0, 0xffffffff, []⟩,
   ⟨(Reg.AE_LAST_STATUS 0), 0x80, 2, 1, .ro, .val 0, 0xffffffff, []⟩,
   ⟨(Reg.AE_AUDIT_BREAK_CNT 0), 0x80, 2, 1, .cnt, .val 0, 0xffffffff, []⟩,
   ⟨(Reg.AE_INJECT 0), 0x80, 2, 1, .cmd, .val 0, 0xffffffff, []⟩]

/-- Table 11-16. SPAWN_RP_CKPT_CNT is RO there, and so ignores every write with READ_ONLY, though R13 lets a write of zero clear a register of such a name (DESIGN CHOICE, log entry 72). -/
def spawnRows : List RegRow :=
  [⟨Reg.SPAWN_STATUS, 0, 1, 1, .ro, .val 0, 0xffffffff, []⟩,
   ⟨Reg.SPAWN_EVT, 0, 1, 1, .w1c, .val 0, 0xff, []⟩,
   ⟨Reg.SPAWN_CFG, 0, 1, 1, .ro, .val 0x4b03c, 0xffffffff, []⟩,
   ⟨Reg.SPAWN_TRIG_CFG, 0, 1, 1, .ro, .val 0, 0xffffffff, []⟩,
   ⟨Reg.SPAWN_RING_SIZE, 0, 1, 1, .ro, .val 0xd7c000, 0xffffffff, []⟩,
   ⟨Reg.SPAWN_RING_FILL, 0, 1, 1, .ro, .val 0, 0xffffffff, []⟩,
   ⟨Reg.SPAWN_MARK_ISN_LO, 0, 1, 1, .ro, .val 0, 0xffffffff, []⟩,
   ⟨Reg.SPAWN_MARK_ISN_HI, 0, 1, 1, .ro, .val 0, 0xffffffff, []⟩,
   ⟨Reg.SPAWN_TRIG_ISN_LO, 0, 1, 1, .ro, .val 0, 0xffffffff, []⟩,
   ⟨Reg.SPAWN_TRIG_ISN_HI, 0, 1, 1, .ro, .val 0, 0xffffffff, []⟩,
   ⟨Reg.SPAWN_LAST_ISN_LO, 0, 1, 1, .ro, .val 0, 0xffffffff, []⟩,
   ⟨Reg.SPAWN_LAST_ISN_HI, 0, 1, 1, .ro, .val 0, 0xffffffff, []⟩,
   ⟨Reg.SPAWN_CKPT_NO, 0, 1, 1, .ro, .val 0, 0xffffffff, []⟩,
   ⟨Reg.SPAWN_BYTES_LO, 0, 1, 1, .ro, .val 0, 0xffffffff, []⟩,
   ⟨Reg.SPAWN_BYTES_HI, 0, 1, 1, .ro, .val 0, 0xffffffff, []⟩,
   ⟨Reg.SPAWN_SNAP_CNT, 0, 1, 1, .cnt, .val 0, 0xffffffff, []⟩,
   ⟨Reg.SPAWN_SNAP_FAIL_CNT, 0, 1, 1, .cnt, .val 0, 0xffffffff, []⟩,
   ⟨Reg.SPAWN_SNAP_RETRY_CNT, 0, 1, 1, .cnt, .val 0, 0xffffffff, []⟩,
   ⟨Reg.SPAWN_SNAP_SKIP_CNT, 0, 1, 1, .cnt, .val 0, 0xffffffff, []⟩,
   ⟨Reg.SPAWN_TRIG_CNT, 0, 1, 1, .cnt, .val 0, 0xffffffff, []⟩,
   ⟨Reg.SPAWN_TRIG_LOST_CNT, 0, 1, 1, .cnt, .val 0, 0xffffffff, []⟩,
   ⟨Reg.SPAWN_HOLD_CNT, 0, 1, 1, .cnt, .val 0, 0xffffffff, []⟩,
   ⟨Reg.SPAWN_CKPT_DIFF_CNT, 0, 1, 1, .cnt, .val 0, 0xffffffff, []⟩,
   ⟨Reg.SPAWN_RP_STATUS, 0, 1, 1, .ro, .val 0xff0000, 0xffffffff, []⟩,
   ⟨Reg.SPAWN_RP_CKPT_CNT, 0, 1, 1, .ro, .val 0, 0xffffffff, []⟩,
   ⟨Reg.SPAWN_RP_BAD_ISN_LO, 0, 1, 1, .ro, .val 0, 0xffffffff, []⟩,
   ⟨Reg.SPAWN_RP_BAD_ISN_HI, 0, 1, 1, .ro, .val 0, 0xffffffff, []⟩,
   ⟨Reg.SPAWN_RP_BLOCKS, 0, 1, 1, .ro, .val 0, 0xffffffff, []⟩,
   ⟨Reg.SPAWN_RP_ISN_LO, 0, 1, 1, .ro, .val 0, 0xffffffff, []⟩,
   ⟨Reg.SPAWN_RP_ISN_HI, 0, 1, 1, .ro, .val 0, 0xffffffff, []⟩,
   ⟨Reg.SPAWN_RP_SPEED, 0, 1, 1, .ro, .val 0, 0xffffffff, []⟩,
   ⟨Reg.SPAWN_RP_BYTES_LO, 0, 1, 1, .ro, .val 0, 0xffffffff, []⟩,
   ⟨Reg.SPAWN_RP_BYTES_HI, 0, 1, 1, .ro, .val 0, 0xffffffff, []⟩]

/-- Table 12-9. -/
def dioChRows : List RegRow :=
  [⟨(Reg.DIO_CH_CFG 0), 0x20, 64, 1, .rws, .val 0, 0xf77, []⟩,
   ⟨(Reg.DIO_CH_OWNER 0), 0x20, 64, 1, .rws, .val 0x1ffff, 0xfffff, []⟩,
   ⟨(Reg.DIO_CH_CNT_PERIOD 0), 0x20, 64, 1, .rws, .val 0x64, 0x3ff, [(0, 10, 1, 1000)]⟩,
   ⟨(Reg.DIO_CH_STATUS 0), 0x20, 64, 1, .ro, .val 0, 0xffffffff, []⟩,
   ⟨(Reg.DIO_CH_COUNT 0), 0x20, 64, 1, .ro, .val 0, 0xffffffff, []⟩,
   ⟨(Reg.DIO_CH_EDGE_CNT 0), 0x20, 64, 1, .cnt, .val 0, 0xffffffff, []⟩,
   ⟨(Reg.DIO_CH_MISMATCH_CNT 0), 0x20, 64, 1, .cnt, .val 0, 0xffffffff, []⟩]

/-- Table 12-10. -/
def dioBankRows : List RegRow :=
  [⟨(Reg.DIO_BANK_CFG 0), 0x40, 4, 1, .rws, .val 0x320002, 0x3ff0007, [(0, 3, 0, 5), (16, 10, 1, 1000)]⟩,
   ⟨(Reg.DIO_BANK_STATUS 0), 0x40, 4, 1, .ro, .val 0, 0xffffffff, []⟩,
   ⟨(Reg.DIO_BANK_EVT 0), 0x40, 4, 1, .w1c, .val 0, 0x1f, []⟩,
   ⟨(Reg.DIO_BANK_LEVEL 0), 0x40, 4, 1, .ro, .val 0, 0xffffffff, []⟩,
   ⟨(Reg.DIO_BANK_CMD 0), 0x40, 4, 1, .ro, .val 0, 0xffffffff, []⟩,
   ⟨(Reg.DIO_BANK_MISMATCH 0), 0x40, 4, 1, .ro, .val 0, 0xffffffff, []⟩,
   ⟨(Reg.DIO_BANK_FAULT_CNT 0), 0x40, 4, 1, .cnt, .val 0, 0xffffffff, []⟩,
   ⟨(Reg.DIO_BANK_FAULT_MS_CNT 0), 0x40, 4, 1, .cnt, .val 0, 0xffffffff, []⟩,
   ⟨(Reg.DIO_BANK_FRESET_CNT 0), 0x40, 4, 1, .cnt, .val 0, 0xffffffff, []⟩,
   ⟨(Reg.DIO_BANK_WD_CNT 0), 0x40, 4, 1, .cnt, .val 0, 0xffffffff, []⟩,
   ⟨(Reg.DIO_BANK_RECORD_CNT 0), 0x40, 4, 1, .cnt, .val 0, 0xffffffff, []⟩]

/-- Table 12-11. -/
def dioRows : List RegRow :=
  [⟨Reg.DIO_STATUS, 0, 1, 1, .ro, .val 0, 0xffffffff, []⟩,
   ⟨Reg.DIO_EVT, 0, 1, 1, .w1c, .val 0, 0x3, []⟩,
   ⟨Reg.DIO_HOST_LO, 0, 1, 1, .ro, .val 0, 0xffffffff, []⟩,
   ⟨Reg.DIO_HOST_HI, 0, 1, 1, .ro, .val 0, 0xffffffff, []⟩,
   ⟨Reg.DIO_REFRESH_LATE_CNT, 0, 1, 1, .cnt, .val 0, 0xffffffff, []⟩,
   ⟨Reg.DIO_NEWT_RESTART_CNT, 0, 1, 1, .cnt, .val 0, 0xffffffff, []⟩,
   ⟨Reg.DIO_WRITE_CNT, 0, 1, 1, .cnt, .val 0, 0xffffffff, []⟩]

/-- Table 13-19. -/
def canRows : List RegRow :=
  [⟨(Reg.CAN_CFG 0), 0x400, 8, 1, .rws, .behav, 0x1fff01ff, []⟩,
   ⟨(Reg.CAN_NBT 0), 0x400, 8, 1, .rws, .val 0x1f1f7e01, 0x7f7fffff, []⟩,
   ⟨(Reg.CAN_DBT 0), 0x400, 8, 1, .rws, .val 0x9091c00, 0xf0f1f1f, []⟩,
   ⟨(Reg.CAN_TDC 0), 0x400, 8, 1, .rws, .val 0x1E01, 0x7f01, []⟩,
   ⟨(Reg.CAN_STATUS 0), 0x400, 8, 1, .ro, .val 0, 0xffffffff, []⟩,
   ⟨(Reg.CAN_EVT 0), 0x400, 8, 1, .w1c, .val 0, 0x3ff, []⟩,
   ⟨(Reg.CAN_ERRCNT 0), 0x400, 8, 1, .ro, .val 0, 0xffffffff, []⟩,
   ⟨(Reg.CAN_LAST_ERR 0), 0x400, 8, 1, .ro, .val 0, 0xffffffff, []⟩,
   ⟨(Reg.CAN_TX_TAKEN 0), 0x400, 8, 1, .ro, .val 0, 0xffffffff, []⟩,
   ⟨(Reg.CAN_TX_SLOTS 0), 0x400, 8, 1, .ro, .val 0, 0xffffffff, []⟩,
   ⟨(Reg.CAN_TX_OK_CNT 0), 0x400, 8, 1, .cnt, .val 0, 0xffffffff, []⟩,
   ⟨(Reg.CAN_TX_RETRY_CNT 0), 0x400, 8, 1, .cnt, .val 0, 0xffffffff, []⟩,
   ⟨(Reg.CAN_TX_NOACK_CNT 0), 0x400, 8, 1, .cnt, .val 0, 0xffffffff, []⟩,
   ⟨(Reg.CAN_TX_ARB_LOST_CNT 0), 0x400, 8, 1, .cnt, .val 0, 0xffffffff, []⟩,
   ⟨(Reg.CAN_TX_CANCEL_CNT 0), 0x400, 8, 1, .cnt, .val 0, 0xffffffff, []⟩,
   ⟨(Reg.CAN_TX_LATE_CNT 0), 0x400, 8, 1, .cnt, .val 0, 0xffffffff, []⟩,
   ⟨(Reg.CAN_TX_ABORT_CNT 0), 0x400, 8, 1, .cnt, .val 0, 0xffffffff, []⟩,
   ⟨(Reg.CAN_RX_CNT 0), 0x400, 8, 1, .cnt, .val 0, 0xffffffff, []⟩,
   ⟨(Reg.CAN_RX_REJECT_CNT 0), 0x400, 8, 1, .cnt, .val 0, 0xffffffff, []⟩,
   ⟨(Reg.CAN_RX_RING_CNT 0), 0x400, 8, 1, .cnt, .val 0, 0xffffffff, []⟩,
   ⟨(Reg.CAN_RX_EXTRACT_CNT 0), 0x400, 8, 1, .cnt, .val 0, 0xffffffff, []⟩,
   ⟨(Reg.CAN_RX_FIFO_OVF_CNT 0), 0x400, 8, 1, .cnt, .val 0, 0xffffffff, []⟩,
   ⟨(Reg.CAN_ERR_FRAME_CNT 0), 0x400, 8, 1, .cnt, .val 0, 0xffffffff, []⟩,
   ⟨(Reg.CAN_BUSOFF_CNT 0), 0x400, 8, 1, .cnt, .val 0, 0xffffffff, []⟩,
   ⟨(Reg.CAN_LONELY_CNT 0), 0x400, 8, 1, .cnt, .val 0, 0xffffffff, []⟩,
   ⟨(Reg.CAN_FILT_BASE 0), 0x400, 8, 1, .ro, .canShare, 0xffffffff, []⟩,
   ⟨(Reg.CAN_FILT_SHARE 0), 0x400, 8, 1, .ro, .val 0x800, 0xffffffff, []⟩,
   ⟨(Reg.CAN_FILT_USED 0), 0x400, 8, 1, .ro, .val 0, 0xffffffff, []⟩,
   ⟨(Reg.CAN_FILT_BAD_CNT 0), 0x400, 8, 1, .cnt, .val 0, 0xffffffff, []⟩,
   ⟨(Reg.CAN_WALK_MAX 0), 0x400, 8, 1, .cnt, .val 0, 0xffffffff, []⟩,
   ⟨(Reg.CAN_RX_SSN 0), 0x400, 8, 1, .ro, .val 0, 0xffffffff, []⟩,
   ⟨(Reg.CAN_NOACK_RUN 0), 0x400, 8, 1, .ro, .val 0, 0xffffffff, []⟩,
   ⟨(Reg.CAN_SLOT 0 0), 0x400, 8, 32, .ro, .val 0, 0xffffffff, []⟩]

/-- Table 13-20. -/
def canGlbRows : List RegRow :=
  [⟨Reg.CAN_GLB_STATUS, 0, 1, 1, .ro, .val 0, 0xffffffff, []⟩,
   ⟨Reg.CAN_SIG_FAULT_CNT, 0, 1, 1, .cnt, .val 0, 0xffffffff, []⟩,
   ⟨Reg.CAN_CHK_LAST, 0, 1, 1, .ro, .val 0xffff, 0xffffffff, []⟩,
   ⟨Reg.CAN_WALK_CNT, 0, 1, 1, .cnt, .val 0, 0xffffffff, []⟩]

/-- Table 14-6. -/
def ethRows : List RegRow :=
  [⟨(Reg.ETH_CTL 0), 0x800, 2, 1, .rws, .val 3, 0x7, []⟩,
   ⟨(Reg.ETH_STATUS 0), 0x800, 2, 1, .ro, .val 0, 0xffffffff, []⟩,
   ⟨(Reg.ETH_MAC_LO 0), 0x800, 2, 1, .rws, .factory, 0xffffffff, []⟩,
   ⟨(Reg.ETH_MAC_HI 0), 0x800, 2, 1, .rws, .factory, 0xffff, []⟩,
   ⟨(Reg.ETH_IPV4 0), 0x800, 2, 1, .rws, .val 0, 0xffffffff, []⟩,
   ⟨(Reg.PTP_TXLAT 0), 0x800, 2, 1, .ro, .factory, 0xffffffff, []⟩,
   ⟨(Reg.PTP_RXLAT 0), 0x800, 2, 1, .ro, .factory, 0xffffffff, []⟩,
   ⟨(Reg.PTP_ASYM 0), 0x800, 2, 1, .rws, .val 0, 0xffffffff, []⟩,
   ⟨(Reg.PTP_TXTS_W0 0), 0x800, 2, 1, .ro, .val 0, 0xffffffff, []⟩,
   ⟨(Reg.PTP_TXTS_TIME_LO 0), 0x800, 2, 1, .ro, .val 0, 0xffffffff, []⟩,
   ⟨(Reg.PTP_TXTS_TIME_HI 0), 0x800, 2, 1, .ro, .val 0, 0xffffffff, []⟩,
   ⟨(Reg.PTP_TXTS_LEVEL 0), 0x800, 2, 1, .ro, .val 0, 0xffffffff, []⟩,
   ⟨(Reg.PTP_TXTS_STAT 0), 0x800, 2, 1, .w1c, .val 0, 0x1, []⟩,
   ⟨(Reg.PTP_TXTS_OVF_CNT 0), 0x800, 2, 1, .cnt, .val 0, 0xffffffff, []⟩,
   ⟨(Reg.PTP_ASYM_RUN 0), 0x800, 2, 1, .ro, .val 0, 0xffffffff, []⟩,
   ⟨(Reg.ETH_TX_FRAME_CNT 0), 0x800, 2, 1, .cnt, .val 0, 0xffffffff, []⟩,
   ⟨(Reg.ETH_TX_BAD_CNT 0), 0x800, 2, 1, .cnt, .val 0, 0xffffffff, []⟩,
   ⟨(Reg.ETH_RX_FRAME_CNT 0), 0x800, 2, 1, .cnt, .val 0, 0xffffffff, []⟩,
   ⟨(Reg.ETH_RX_DROP_CNT 0), 0x800, 2, 1, .cnt, .val 0, 0xffffffff, []⟩,
   ⟨(Reg.ETH_RX_FCS_CNT 0), 0x800, 2, 1, .cnt, .val 0, 0xffffffff, []⟩,
   ⟨(Reg.ETH_LINKDOWN_CNT 0), 0x800, 2, 1, .cnt, .val 0, 0xffffffff, []⟩,
   ⟨(Reg.PTP_MSG_CNT 0), 0x800, 2, 1, .cnt, .val 0, 0xffffffff, []⟩]

/-- Table 14-7. -/
def wsRows : List RegRow :=
  [⟨Reg.WS_STATUS, 0, 1, 1, .ro, .val 0, 0xffffffff, []⟩,
   ⟨Reg.WS_EVT, 0, 1, 1, .w1c, .val 0, 0x1ff, []⟩,
   ⟨Reg.WS_CTL, 0, 1, 1, .rws, .val 0xa00, 0xff01, [(8, 8, 1, 255)]⟩,
   ⟨Reg.WS_SERVO_CFG, 0, 1, 1, .rws, .val 0x803e8, 0xffffff, [(0, 16, 100, 65535), (16, 8, 2, 64)]⟩,
   ⟨Reg.WS_LOCK_CFG, 0, 1, 1, .rws, .val 0x6403e8, 0xffffffff, [(0, 16, 100, 65535), (16, 16, 1, 10000)]⟩,
   ⟨Reg.WS_UTC_OFFSET, 0, 1, 1, .rws, .val 0x25, 0xffff, []⟩,
   ⟨Reg.PTP_CFG, 0, 1, 1, .rws, .val 0, 0x1ff, []⟩,
   ⟨Reg.PTP_CLOCK_ID_LO, 0, 1, 1, .rws, .val 0, 0xffffffff, []⟩,
   ⟨Reg.PTP_CLOCK_ID_HI, 0, 1, 1, .rws, .val 0, 0xffffffff, []⟩,
   ⟨Reg.ETH_IPV4_MASK, 0, 1, 1, .rws, .val 0, 0xffffffff, []⟩,
   ⟨Reg.PUB_GROUP, 0, 1, 1, .rws, .val 0, 0xffffffff, []⟩,
   ⟨Reg.PUB_PORT, 0, 1, 1, .rws, .val 0, 0xffff, []⟩,
   ⟨Reg.WS_FRC_LO, 0, 1, 1, .ro, .val 0, 0xffffffff, []⟩,
   ⟨Reg.WS_FRC_HI, 0, 1, 1, .ro, .val 0, 0xffffffff, []⟩,
   ⟨Reg.WS_TIME_LO, 0, 1, 1, .ro, .val 0, 0xffffffff, []⟩,
   ⟨Reg.WS_TIME_HI, 0, 1, 1, .ro, .val 0, 0xffffffff, []⟩,
   ⟨Reg.WS_OFFSET_LO, 0, 1, 1, .ro, .val 0, 0xffffffff, []⟩,
   ⟨Reg.WS_OFFSET_HI, 0, 1, 1, .ro, .val 0, 0xffffffff, []⟩,
   ⟨Reg.WS_RATE_LO, 0, 1, 1, .ro, .val 0, 0xffffffff, []⟩,
   ⟨Reg.WS_RATE_HI, 0, 1, 1, .ro, .val 0x5000000, 0xffffffff, []⟩,
   ⟨Reg.WS_INC_LO, 0, 1, 1, .ro, .val 0, 0xffffffff, []⟩,
   ⟨Reg.WS_INC_HI, 0, 1, 1, .ro, .val 5, 0xffffffff, []⟩,
   ⟨Reg.WS_LAST_OFS, 0, 1, 1, .ro, .val 0, 0xffffffff, []⟩,
   ⟨Reg.WS_MEAN_PD, 0, 1, 1, .ro, .val 0, 0xffffffff, []⟩,
   ⟨Reg.WS_MASTER_ID_LO, 0, 1, 1, .ro, .val 0, 0xffffffff, []⟩,
   ⟨Reg.WS_MASTER_ID_HI, 0, 1, 1, .ro, .val 0, 0xffffffff, []⟩,
   ⟨Reg.WS_LAST_STEP_LO, 0, 1, 1, .ro, .val 0, 0xffffffff, []⟩,
   ⟨Reg.WS_LAST_STEP_HI, 0, 1, 1, .ro, .val 0, 0xffffffff, []⟩,
   ⟨Reg.WS_STEP_CNT, 0, 1, 1, .cnt, .val 0, 0xffffffff, []⟩,
   ⟨Reg.WS_HOLDOVER_CNT, 0, 1, 1, .cnt, .val 0, 0xffffffff, []⟩,
   ⟨Reg.WS_SUSPECT_CNT, 0, 1, 1, .cnt, .val 0, 0xffffffff, []⟩,
   ⟨Reg.WS_MASTER_CHANGE_CNT, 0, 1, 1, .cnt, .val 0, 0xffffffff, []⟩,
   ⟨Reg.WS_SWITCH_LATE_CNT, 0, 1, 1, .cnt, .val 0, 0xffffffff, []⟩]

/-- Table 14-8. -/
def tmoRows : List RegRow :=
  -- PIN_EN [3] is TMO0-TMO3 only; in the others the bit is reserved (R11).
  [⟨(Reg.TMO_CFG 0), 0x20, 4, 1, .rws, .val 0, 0xf, [(0, 2, 0, 2)]⟩,
   ⟨(Reg.TMO_CFG 4), 0x20, 4, 1, .rws, .val 0, 0x7, [(0, 2, 0, 2)]⟩,
   ⟨(Reg.TMO_START_LO 0), 0x20, 8, 1, .rws, .val 0, 0xffffffff, []⟩,
   ⟨(Reg.TMO_START_HI 0), 0x20, 8, 1, .rws, .val 0, 0xffffffff, []⟩,
   ⟨(Reg.TMO_PERIOD 0), 0x20, 8, 1, .rws, .val 0x3b9aca00, 0xffffffff, [(0, 32, 1000, 4000000000)]⟩,
   ⟨(Reg.TMO_WIDTH 0), 0x20, 8, 1, .rws, .val 0x989680, 0xffffffff, [(0, 32, 10, 4000000000)]⟩,
   ⟨(Reg.TMO_STATUS 0), 0x20, 8, 1, .ro, .val 0, 0xffffffff, []⟩,
   ⟨(Reg.TMO_MISSED_CNT 0), 0x20, 8, 1, .cnt, .val 0, 0xffffffff, []⟩,
   ⟨(Reg.TMO_PULSE_CNT 0), 0x20, 8, 1, .cnt, .val 0, 0xffffffff, []⟩]

/-- Table 15-2. -/
def rtcRows : List RegRow :=
  [⟨Reg.RTC_STATUS, 0, 1, 1, .ro, .val 0, 0xffffffff, []⟩,
   ⟨Reg.RTC_EVT, 0, 1, 1, .w1c, .val 0x80, 0x3ff, []⟩,
   ⟨Reg.RTC_INT_EN, 0, 1, 1, .rw, .val 0, 0x3ff, []⟩,
   ⟨Reg.RTC_FRAC, 0, 1, 1, .ro, .val 0, 0xffffffff, []⟩,
   ⟨Reg.RTC_SEC_LO, 0, 1, 1, .ro, .val 0, 0xffffffff, []⟩,
   ⟨Reg.RTC_SEC_HI, 0, 1, 1, .ro, .val 0, 0xffffffff, []⟩,
   ⟨Reg.RTC_BCD_TIME, 0, 1, 1, .ro, .val 0, 0xffffffff, []⟩,
   ⟨Reg.RTC_BCD_DATE, 0, 1, 1, .ro, .val 0, 0xffffffff, []⟩,
   ⟨Reg.RTC_BCD_EXT, 0, 1, 1, .ro, .val 0, 0xffffffff, []⟩,
   ⟨Reg.RTC_STG_FRAC, 0, 1, 1, .rw, .val 0, 0x7fff, []⟩,
   ⟨Reg.RTC_STG_SEC_LO, 0, 1, 1, .rw, .val 0, 0xffffffff, []⟩,
   ⟨Reg.RTC_STG_SEC_HI, 0, 1, 1, .rw, .val 0, 0xff, []⟩,
   ⟨Reg.RTC_CMD, 0, 1, 1, .cmd, .val 0, 0xffffffff, []⟩,
   ⟨Reg.RTC_SHIFT, 0, 1, 1, .cmd, .val 0, 0xffffffff, []⟩,
   ⟨Reg.RTC_SHIFT_LEFT, 0, 1, 1, .ro, .val 0, 0xffffffff, []⟩,
   ⟨Reg.RTC_DST, 0, 1, 1, .cmd, .val 0, 0xffffffff, []⟩,
   ⟨Reg.RTC_LOCAL_OFS, 0, 1, 1, .rw, .val 0, 0xff, []⟩,
   ⟨Reg.RTC_ALM_LO, 0, 1, 1, .rw, .val 0, 0xffffffff, []⟩,
   ⟨Reg.RTC_ALM_HI, 0, 1, 1, .rw, .val 0, 0xff, []⟩,
   ⟨Reg.RTC_ALM_CTL, 0, 1, 1, .rw, .val 0, 0x101, []⟩,
   ⟨Reg.RTC_WAKE_CTL, 0, 1, 1, .rw, .val 0, 0x3, []⟩,
   ⟨Reg.RTC_WAKE_PERIOD, 0, 1, 1, .rw, .val 0x100, 0x1ffffff, [(0, 25, 1, 22118400)]⟩,
   ⟨Reg.RTC_SWO_SEC_LO, 0, 1, 1, .ro, .val 0, 0xffffffff, []⟩,
   ⟨Reg.RTC_SWO_SEC_HI, 0, 1, 1, .ro, .val 0, 0xffffffff, []⟩,
   ⟨Reg.RTC_SWO_FRAC, 0, 1, 1, .ro, .val 0, 0xffffffff, []⟩,
   ⟨Reg.RTC_SWO_CNT, 0, 1, 1, .cnt, .val 0, 0xffffffff, []⟩,
   ⟨Reg.RTC_TRICKLE, 0, 1, 1, .rw, .val 0, 0xf, []⟩,
   ⟨Reg.RTC_VBK, 0, 1, 1, .ro, .val 0, 0xffffffff, []⟩,
   ⟨Reg.RTC_SET_CNT, 0, 1, 1, .cnt, .val 0, 0xffffffff, []⟩,
   ⟨Reg.RTC_SHIFT_CNT, 0, 1, 1, .cnt, .val 0, 0xffffffff, []⟩,
   ⟨Reg.RTC_ALM_CNT, 0, 1, 1, .cnt, .val 0, 0xffffffff, []⟩,
   ⟨Reg.RTC_WAKE_CNT, 0, 1, 1, .cnt, .val 0, 0xffffffff, []⟩]

/-- Table 15-5. -/
def legRtcRows : List RegRow :=
  [⟨Reg.LEG_RTC_SEC, 0, 1, 1, .rw, .val 0, 0x7f, []⟩,
   ⟨Reg.LEG_RTC_MIN, 0, 1, 1, .rw, .val 0, 0x7f, []⟩,
   ⟨Reg.LEG_RTC_HOUR, 0, 1, 1, .rw, .val 0, 0x3f, []⟩,
   ⟨Reg.LEG_RTC_WDAY, 0, 1, 1, .rw, .val 0, 0x7, []⟩,
   ⟨Reg.LEG_RTC_DAY, 0, 1, 1, .rw, .val 0, 0x3f, []⟩,
   ⟨Reg.LEG_RTC_MON, 0, 1, 1, .rw, .val 0, 0x9f, []⟩,
   ⟨Reg.LEG_RTC_YEAR, 0, 1, 1, .rw, .val 0, 0xff, []⟩,
   ⟨Reg.LEG_RTC_CTL, 0, 1, 1, .cmd, .val 0, 0xffffffff, []⟩,
   ⟨Reg.LEG_RTC_STAT, 0, 1, 1, .ro, .val 0, 0xffffffff, []⟩,
   ⟨Reg.LEG_RTC_ERR_CNT, 0, 1, 1, .cnt, .val 0, 0xffffffff, []⟩]

/-- Table 16-3. PNL_LIST_CNT is RO there, and so ignores every write with READ_ONLY, though R13 lets a write of zero clear a register of such a name (DESIGN CHOICE, log entry 72). -/
def pnlRows : List RegRow :=
  [⟨Reg.PNL_CTL, 0, 1, 1, .rws, .val 0xa08, 0xff0f, [(8, 8, 1, 255)]⟩,
   ⟨Reg.PNL_STATUS, 0, 1, 1, .ro, .val 0, 0xffffffff, []⟩,
   ⟨Reg.PNL_EVT, 0, 1, 1, .w1c, .val 0, 0x1f, []⟩,
   ⟨Reg.PNL_V25, 0, 1, 1, .rws, .val 0x2ee0, 0x3fff, [(0, 14, 8000, 16000)]⟩,
   ⟨Reg.PNL_TC, 0, 1, 1, .rws, .val 0, 0xff, []⟩,
   ⟨Reg.PNL_I25, 0, 1, 1, .rws, .val 0x80, 0xff, []⟩,
   ⟨Reg.PNL_ITC, 0, 1, 1, .rws, .val 0, 0xffff, []⟩,
   ⟨Reg.PNL_TEMP, 0, 1, 1, .ro, .val 0, 0xffffffff, []⟩,
   ⟨Reg.PNL_VPP_SET, 0, 1, 1, .ro, .val 0, 0xffffffff, []⟩,
   ⟨Reg.PNL_VPP_MEAS, 0, 1, 1, .ro, .val 0, 0xffffffff, []⟩,
   ⟨Reg.PNL_ICODE, 0, 1, 1, .ro, .val 0, 0xffffffff, []⟩,
   ⟨Reg.PNL_NTC_OHM, 0, 1, 1, .ro, .val 0, 0xffffffff, []⟩,
   ⟨Reg.PNL_LIST_CNT, 0, 1, 1, .ro, .val 0, 0xffffffff, []⟩,
   ⟨Reg.PNL_FRAME_CNT, 0, 1, 1, .cnt, .val 0, 0xffffffff, []⟩,
   ⟨Reg.PNL_FLIP_CNT, 0, 1, 1, .cnt, .val 0, 0xffffffff, []⟩,
   ⟨Reg.PNL_VPP_FAULT_CNT, 0, 1, 1, .cnt, .val 0, 0xffffffff, []⟩,
   ⟨Reg.PNL_NTC_FAULT_CNT, 0, 1, 1, .cnt, .val 0, 0xffffffff, []⟩]

/-- Table 17-14. -/
def updRows : List RegRow :=
  [⟨Reg.UPD_STATUS, 0, 1, 1, .ro, .val 0, 0xffffffff, []⟩,
   ⟨Reg.UPD_EVT, 0, 1, 1, .w1c, .val 0, 0xff, []⟩,
   ⟨Reg.UPD_SESSION, 0, 1, 1, .ro, .val 0, 0xffffffff, []⟩,
   ⟨Reg.UPD_PIECES, 0, 1, 1, .ro, .val 0, 0xffffffff, []⟩,
   ⟨Reg.UPD_STORED, 0, 1, 1, .ro, .val 0, 0xffffffff, []⟩,
   ⟨Reg.UPD_RUN_VER, 0, 1, 1, .ro, .val 0, 0xffffffff, []⟩,
   ⟨Reg.UPD_ALT_VER, 0, 1, 1, .ro, .val 0, 0xffffffff, []⟩,
   ⟨Reg.UPD_TARGET_VER, 0, 1, 1, .ro, .val 0, 0xffffffff, []⟩,
   ⟨Reg.UPD_TRIAL_LEFT, 0, 1, 1, .ro, .val 0, 0xffffffff, []⟩,
   ⟨Reg.UPD_SETTINGS_FMT, 0, 1, 1, .ro, .val 0, 0xffffffff, []⟩,
   ⟨Reg.UPD_LAST_REJ, 0, 1, 1, .ro, .val 0, 0xffffffff, []⟩,
   ⟨Reg.UPD_BOOTREC_SEQ, 0, 1, 1, .ro, .val 0, 0xffffffff, []⟩,
   ⟨Reg.UPD_PIECE_CNT, 0, 1, 1, .cnt, .val 0, 0xffffffff, []⟩,
   ⟨Reg.UPD_PIECE_REJ_CNT, 0, 1, 1, .cnt, .val 0, 0xffffffff, []⟩,
   ⟨Reg.UPD_PIECE_DUP_CNT, 0, 1, 1, .cnt, .val 0, 0xffffffff, []⟩,
   ⟨Reg.UPD_VERIFY_FAIL_CNT, 0, 1, 1, .cnt, .val 0, 0xffffffff, []⟩,
   ⟨Reg.UPD_ACTIVATE_CNT, 0, 1, 1, .cnt, .val 0, 0xffffffff, []⟩,
   ⟨Reg.UPD_FALLBACK_CNT, 0, 1, 1, .cnt, .val 0, 0xffffffff, []⟩,
   ⟨Reg.UPD_PAUSE_MAX, 0, 1, 1, .cnt, .val 0, 0xffffffff, []⟩,
   ⟨Reg.UPD_OTP_KEYS, 0, 1, 1, .ro, .val 0, 0xffffffff, []⟩,
   ⟨(Reg.UPD_KEY 0), 0, 1, 8, .wo, .val 0, 0xffffffff, []⟩,
   ⟨Reg.UPD_KEY_CMD, 0, 1, 1, .cmd, .val 0, 0xffffffff, []⟩,
   ⟨Reg.UPD_KEY_STATUS, 0, 1, 1, .ro, .val 0, 0xffffffff, []⟩,
   ⟨Reg.UPD_KEY_CHECK, 0, 1, 1, .ro, .val 0, 0xffffffff, []⟩]

/-- Table 18-8. -/
def tarnRows : List RegRow :=
  [⟨Reg.TARN_STATUS, 0, 1, 1, .ro, .val 0, 0xffffffff, []⟩,
   ⟨Reg.TARN_EVT, 0, 1, 1, .w1c, .val 0, 0x1f, []⟩,
   ⟨Reg.TARN_SCRUB_CTL, 0, 1, 1, .rws, .val 0xa, 0xfff, [(0, 12, 1, 3600)]⟩,
   ⟨Reg.TARN_SCRUB_POS, 0, 1, 1, .ro, .val 0, 0xffffffff, []⟩,
   ⟨Reg.TARN_SCRUB_AGE, 0, 1, 1, .ro, .val 0, 0xffffffff, []⟩,
   ⟨Reg.TARN_UE_LAST, 0, 1, 1, .ro, .val 0, 0xffffffff, []⟩,
   ⟨Reg.TARN_CE_TOTAL_CNT, 0, 1, 1, .cnt, .val 0, 0xffffffff, []⟩,
   ⟨Reg.TARN_UE_TOTAL_CNT, 0, 1, 1, .cnt, .val 0, 0xffffffff, []⟩,
   ⟨Reg.QUOTA_ELASTIC, 0, 1, 1, .ro, .val 0x100202, 0xffffffff, []⟩,
   ⟨Reg.QUOTA_TREND, 0, 1, 1, .ro, .val 0x2710, 0xffffffff, []⟩,
   ⟨Reg.QUOTA_CMD, 0, 1, 1, .ro, .val 0x10, 0xffffffff, []⟩,
   ⟨Reg.QUOTA_STATUS, 0, 1, 1, .ro, .val 0, 0xffffffff, []⟩,
   ⟨Reg.QUOTA_SET_CNT, 0, 1, 1, .cnt, .val 0, 0xffffffff, []⟩]

/-- Table 18-9. -/
def tarnBankRows : List RegRow :=
  [⟨(Reg.TARN_BANK_CE_CNT 0), 0x10, 16, 1, .cnt, .val 0, 0xffffffff, []⟩,
   ⟨(Reg.TARN_BANK_UE_CNT 0), 0x10, 16, 1, .cnt, .val 0, 0xffffffff, []⟩,
   ⟨(Reg.TARN_BANK_LAST_CE 0), 0x10, 16, 1, .ro, .val 0, 0xffffffff, []⟩]

/-- Table 18-10. -/
def hkRows : List RegRow :=
  [⟨Reg.HK_STATUS, 0, 1, 1, .ro, .val 0, 0xffffffff, []⟩,
   ⟨Reg.HK_EVT, 0, 1, 1, .w1c, .val 0, 0x1f, []⟩,
   ⟨Reg.HK_TELEM_CTL, 0, 1, 1, .rws, .val 0x3e80001, 0xffff0001, [(16, 16, 100, 60000)]⟩,
   ⟨Reg.HK_TCM_CE_CNT, 0, 1, 1, .cnt, .val 0, 0xffffffff, []⟩,
   ⟨Reg.HK_SET_JOURNAL_FILL, 0, 1, 1, .ro, .val 0, 0xffffffff, []⟩,
   ⟨Reg.HK_SET_ENTRIES, 0, 1, 1, .ro, .val 0, 0xffffffff, []⟩,
   ⟨Reg.HK_SET_BASE, 0, 1, 1, .ro, .val 0, 0xffffffff, []⟩,
   ⟨Reg.HK_SET_LAST_EPOCH, 0, 1, 1, .ro, .val 0, 0xffffffff, []⟩,
   ⟨Reg.HK_SECTOR_MAX_ERASE, 0, 1, 1, .ro, .val 0, 0xffffffff, []⟩,
   ⟨Reg.HK_SPARE_SECTORS, 0, 1, 1, .ro, .val 0x7fa, 0xffffffff, []⟩,
   ⟨Reg.HK_BASE_CNT, 0, 1, 1, .cnt, .val 0, 0xffffffff, []⟩,
   ⟨Reg.HK_SET_WRITE_FAIL_CNT, 0, 1, 1, .cnt, .val 0, 0xffffffff, []⟩,
   ⟨Reg.HK_TELEM_SEQ, 0, 1, 1, .ro, .val 0, 0xffffffff, []⟩,
   ⟨Reg.HK_DIE_TEMP, 0, 1, 1, .ro, .val 0, 0xffffffff, []⟩,
   ⟨Reg.HK_BOARD_TEMP, 0, 1, 1, .ro, .val 0, 0xffffffff, []⟩,
   ⟨Reg.HK_LV_A, 0, 1, 1, .ro, .val 0, 0xffffffff, []⟩,
   ⟨Reg.HK_LV_B, 0, 1, 1, .ro, .val 0, 0xffffffff, []⟩,
   ⟨Reg.HK_GECKO_LOAD, 0, 1, 1, .ro, .val 0, 0xffffffff, []⟩]

/-- Table 19-3. -/
def mgmtRows : List RegRow :=
  [⟨Reg.VENDOR, 0, 1, 1, .ro, .val 0x1f9b, 0xffffffff, []⟩,
   ⟨Reg.PART, 0, 1, 1, .ro, .val 0x3264, 0xffffffff, []⟩,
   ⟨Reg.HW_REV, 0, 1, 1, .ro, .factory, 0xffff, []⟩,
   ⟨Reg.BEHAV_REV, 0, 1, 1, .ro, .val 0, 0xffffffff, []⟩,
   ⟨Reg.SERIAL_LO, 0, 1, 1, .ro, .factory, 0xffffffff, []⟩,
   ⟨Reg.SERIAL_HI, 0, 1, 1, .ro, .factory, 0xffffffff, []⟩,
   ⟨Reg.MGMT_STATE, 0, 1, 1, .ro, .val 0, 0xffffffff, []⟩,
   ⟨Reg.MGMT_CMD, 0, 1, 1, .cmd, .val 0, 0xffffffff, []⟩,
   ⟨Reg.MGMT_RESET_CAUSE, 0, 1, 1, .ro, .val 0, 0xffffffff, []⟩,
   ⟨Reg.MGMT_BOOT_STATUS, 0, 1, 1, .ro, .val 0, 0xffffffff, []⟩,
   ⟨Reg.MGMT_SELFTEST, 0, 1, 1, .ro, .val 0, 0xffffffff, []⟩,
   ⟨Reg.MGMT_SS_STATUS, 0, 1, 1, .ro, .val 0, 0xffffffff, []⟩,
   ⟨Reg.MGMT_NODE_ID, 0, 1, 1, .rws, .val 0, 0x3f, []⟩,
   ⟨Reg.MGMT_SLOT_ID, 0, 1, 1, .ro, .val 0, 0xffffffff, []⟩,
   ⟨Reg.MGMT_FMODE, 0, 1, 1, .rws, .val 0, 0x3, [(0, 2, 0, 2)]⟩,
   ⟨Reg.MGMT_BEHAV_LOCK, 0, 1, 1, .rws, .val 0, 0xff, [(0, 8, 0, 2)]⟩,
   ⟨(Reg.MGMT_COMM_REF 0), 0, 1, 8, .rws, .val 0, 0xffffffff, []⟩,
   ⟨Reg.MGMT_FAULT_CAUSE, 0, 1, 1, .ro, .val 0, 0xffffffff, []⟩,
   ⟨Reg.MGMT_FAULT_ISN_LO, 0, 1, 1, .ro, .val 0, 0xffffffff, []⟩,
   ⟨Reg.MGMT_FAULT_ISN_HI, 0, 1, 1, .ro, .val 0, 0xffffffff, []⟩,
   ⟨Reg.MGMT_IGNORED_WR_CNT, 0, 1, 1, .cnt, .val 0, 0xffffffff, []⟩,
   ⟨Reg.MGMT_IGNORED_LAST, 0, 1, 1, .ro, .val 0, 0xffffffff, []⟩,
   ⟨Reg.MGMT_BAD_ACCESS_CNT, 0, 1, 1, .cnt, .val 0, 0xffffffff, []⟩,
   ⟨Reg.MGMT_EVT, 0, 1, 1, .w1c, .val 0, 0x1f, []⟩,
   ⟨Reg.MGMT_SCRATCH, 0, 1, 1, .rw, .val 0, 0xffffffff, []⟩,
   ⟨Reg.MGMT_INT_STATUS, 0, 1, 1, .ro, .val 0, 0xffffffff, []⟩,
   ⟨Reg.MGMT_INT_EN, 0, 1, 1, .rw, .val 0, 0x1ffff, []⟩,
   ⟨Reg.MGMT_INT_REARM, 0, 1, 1, .cmd, .val 0, 0xffffffff, []⟩]

/-- The MSI-X table and its pending bits (R125), in the layout of the PCI Express Base Specification; a vector is masked at reset (PRESUMED, log entry 12). -/
def msixRows : List RegRow :=
  [⟨Reg.MSIX 0 0, 0x10, 32, 3, .rw, .val 0, 0xffffffff, []⟩,
   ⟨Reg.MSIX 0 3, 0x10, 32, 1, .rw, .val 1, 0x1, []⟩,
   ⟨Reg.MSIX_PBA 0, 0, 1, 2, .ro, .val 0, 0xffffffff, []⟩]

/-- The spans that hold registers, in rising order (Table 19-1): first offset, offset past the end, rows. -/
def regBlocks : List (Off × Off × List RegRow) :=
  [(0x0, 0x1000, mgmtRows),
   (0x1000, 0x1800, ringRows),
   (0x1800, 0x1900, hifRows),
   (0x3000, 0x3808, msixRows),
   (0x4000, 0x4100, tarnRows),
   (0x4100, 0x4200, tarnBankRows),
   (0x8000, 0x8100, feRows),
   (0x9000, 0xc000, laneRows),
   (0xc000, 0xc400, exRows),
   (0xc400, 0xc900, xpRows),
   (0x10000, 0x10100, skinkRows),
   (0x10100, 0x10200, aeRows),
   (0x12000, 0x12200, inletRows),
   (0x13000, 0x13100, spawnRows),
   (0x14000, 0x14100, croakRows),
   (0x18000, 0x18800, dioChRows),
   (0x18800, 0x18900, dioBankRows),
   (0x18a00, 0x18b00, dioRows),
   (0x20000, 0x22000, canRows),
   (0x22000, 0x22100, canGlbRows),
   (0x28000, 0x29000, ethRows),
   (0x29000, 0x29100, wsRows),
   (0x29100, 0x29200, tmoRows),
   (0x30000, 0x30100, rtcRows),
   (0x34000, 0x340c0, pnlRows),
   (0x38000, 0x380c0, updRows),
   (0x3c000, 0x3c400, hkRows),
   (0x40000, 0x40100, legRows),
   (0x40100, 0x40200, legPtRows),
   (0x40200, 0x40300, legRtcRows)]

/-- The register of a row at an offset: the row's unit and array index. -/
def RegRow.at? (r : RegRow) (o : Off) : Option (Nat × Nat) :=
  if o < r.base || o % 4 != 0 then none
  else
    let d := o - r.base
    let n := if r.stride = 0 then 0 else d / r.stride
    let k := (if r.stride = 0 then d else d % r.stride) / 4
    if n < r.units && k < r.count then some (n, k) else none

/-- The row of an offset, with the register's unit number; `none` where no register lies (R510). -/
def regRow (o : Off) : Option (RegRow × Nat) :=
  match regBlocks.find? (fun b => decide (b.1 ≤ o) && decide (o < b.2.1)) with
  | none => none
  | some b => b.2.2.findSome? (fun r => (r.at? o).map (fun x => (r, x.1)))

/-- The bits that a register defines; the others read zero (R11). -/
def regMask (o : Off) : U32 := match regRow o with | some (r, _) => r.mask | none => 0

/-- Reset value of a row's register, reserved bits 0 (R11), under the behaviour revision fixed at boot (R85: HIF_DB_POLL 10 µs or 50 µs; CAN_CFG with LONELY_EN set or clear). -/
def RegRow.resetVal (r : RegRow) (o : Off) (unit behav : Nat) : U32 :=
  match r.reset with
  | .val v => BitVec.ofNat 32 v
  | .factory => Config.factoryReg o &&& r.mask
  | .behav =>
    if o = Reg.HIF_DB_POLL then (if behav = 1 then 50 else 10)
    else (if behav = 1 then 0x18100040 else 0x18100140)
  | .canShare => BitVec.ofNat 32 (0x800 * unit)

/-- The stored value that an offset has before anything writes it. -/
def regReset (behav : Nat) (o : Off) : U32 :=
  match regRow o with
  | none => 0
  | some (r, n) => r.resetVal o n behav

/-- A value lies in every range that its register's summary states (Table 19-2, RANGE). -/
def RegRow.inRange (r : RegRow) (v : U32) : Bool :=
  r.checks.all (fun c => decide (c.2.2.1 ≤ fld v c.1 c.2.1) && decide (fld v c.1 c.2.1 ≤ c.2.2.2))

/-- The number of registers that the map defines (R509). -/
def regCount : Nat :=
  (regBlocks.map (fun b => (b.2.2.map (fun r => r.units * r.count)).sum)).sum

end Sys2Proof.Machine
end

