-- ==== Sys2Proof/Machine/Flags.lean ====
section
/-! DEFINITION. The register file, the event bits that hardware sets and software clears (R14), saturating counters (R13), ignored writes (R515) and the interrupt summary (R519, R520). -/

namespace Sys2Proof.Machine

/-! ## The register file -/

/-- The stored value of a register: what was last put there, else its reset value (R516, R521). -/
def State.reg (s : State) (o : Off) : U32 :=
  match Sparse.find s.regs o with
  | some v => v
  | none => regReset s.behavBoot o

/-- A register given a value. -/
def State.setReg (s : State) (o : Off) (v : U32) : State :=
  { s with regs := Sparse.insert s.regs o v }

/-- A field of a register. -/
def State.rfld (s : State) (o : Off) (lo n : Nat) : Nat := fld (s.reg o) lo n

/-- A bit of a register. -/
def State.rbit (s : State) (o : Off) (i : Nat) : Bool := bitAt (s.reg o) i

/-- A register with one field replaced. -/
def State.setRegFld (s : State) (o : Off) (lo n x : Nat) : State :=
  s.setReg o (setFld (s.reg o) lo n x)

/-- A register with one bit replaced. -/
def State.setRegBit (s : State) (o : Off) (i : Nat) (b : Bool) : State :=
  s.setRegFld o i 1 (b2n b)

/-- A 64-bit value kept in a _LO and a _HI register (R512). -/
def State.pair (s : State) (lo hi : Off) : U64 := (s.reg hi) ++ (s.reg lo)

/-- A 64-bit value put in a pair. -/
def State.setPair (s : State) (lo hi : Off) (v : U64) : State :=
  (s.setReg lo (v.truncate 32)).setReg hi (BitVec.ofNat 32 (v.toNat / 2 ^ 32))

/-! ## Outputs and free values -/

/-- The state in which a step begins: nothing put outside yet. -/
def State.fresh (s : State) : State := { s with out := [] }

/-- Something put outside by the step. -/
def State.emitOut (s : State) (o : Output) : State := { s with out := s.out ++ [o] }

/-- The next free value's number (DESIGN CHOICE, log entry 4). -/
def State.draw (s : State) : Nat × State := (s.free, { s with free := s.free + 1 })

/-! ## Interrupts (R125, R519, R520) -/

/-- The bit of Table 19-9 that an event register feeds; the RTC's has its own rule. -/
def summaryBit (o : Off) : Option Nat :=
  if o = Reg.MGMT_EVT then some 0
  else if o = Reg.TARN_EVT then some 1
  else if o = Reg.FE_EVT then some 2
  else if Reg.LANE_CTL 0 ≤ o && o < Reg.LANE_CTL 48 && (o - Reg.LANE_CTL 0) % 0x100 == 8 then some 2
  else if Reg.EX_CTL 0 ≤ o && o < Reg.EX_CTL 16 && (o - Reg.EX_CTL 0) % 0x40 == 8 then some 3
  else if Reg.XP_CLAMP_FLAG 0 ≤ o && o < Reg.XP_CLAMP_FLAG 6 then some 3
  else if o = Reg.SKINK_EVT then some 4
  else if o = Reg.INLET_EVT || o = Reg.OUT_EVT then some 5
  else if o = Reg.SPAWN_EVT then some 6
  else if o = Reg.CROAK_EVT then some 7
  else if o = Reg.DIO_EVT then some 8
  else if o = Reg.DIO_BANK_EVT 0 || o = Reg.DIO_BANK_EVT 1 || o = Reg.DIO_BANK_EVT 2 || o = Reg.DIO_BANK_EVT 3 then some 8
  else if Reg.CAN_CFG 0 ≤ o && o < Reg.CAN_CFG 8 && o % 0x400 == Reg.CAN_EVT 0 % 0x400 then some 9
  else if o = Reg.WS_EVT then some 10
  else if o = Reg.PTP_TXTS_STAT 0 || o = Reg.PTP_TXTS_STAT 1 then some 11
  else if o = Reg.PNL_EVT then some 13
  else if o = Reg.UPD_EVT then some 14
  else if o = Reg.HK_EVT then some 15
  else if o = Reg.LEG_EVT_STAT then some 16
  else none

/-- MGMT_INT_STATUS (Table 19-9): every event register resets to 0 but RTC_EVT, so only stored ones count. -/
def State.intStatus (s : State) : U32 :=
  let rtc := s.reg Reg.RTC_EVT &&& s.reg Reg.RTC_INT_EN
  List.foldl
    (fun (acc : U32) (c : Nat × U32) => if c.2 = 0 then acc else
      match summaryBit c.1 with
      | some b => setBit acc b true
      | none => acc)
    (if rtc = 0 then 0 else 0x1000) s.regs

/-- MGMT_INT_STATUS AND MGMT_INT_EN (R520). -/
def State.intPending (s : State) : U32 := s.intStatus &&& s.reg Reg.MGMT_INT_EN

/-- A vector is raised (R125): a masked one sets its pending bit, another sends its message. -/
def State.sendVector (s : State) (v : Nat) : State :=
  if bitAt (s.reg (Reg.MSIX v 3)) 0 then s.setRegBit (Reg.MSIX_PBA 0) v true
  else s.emitOut (.msix v)

/-- The message of HIF_INT_CTL (R520), sent while its EN is 1. -/
def State.hifMessage (s : State) : State :=
  if s.rbit Reg.HIF_INT_CTL 8 then s.sendVector (s.rfld Reg.HIF_INT_CTL 0 5) else s

/-- A state change with the message that a rise of an enabled summary bit sends (R520). -/
def State.summarise (before after : State) : State :=
  if after.intPending &&& ~~~before.intPending = 0 then after else after.hifMessage

/-- Event bits set by hardware (R14), with the message of R520: a risen enabled summary bit, or a bit set in HIF_EVT. -/
def State.raise (s : State) (o : Off) (m : Nat) : State :=
  let s1 := s.setReg o (s.reg o ||| BitVec.ofNat 32 m)
  if o = Reg.HIF_EVT then s1.hifMessage else State.summarise s s1

/-! ## Counters (R13) -/

/-- A counter raised by `n`, saturating at 0xFFFF_FFFF. -/
def State.bumpBy (s : State) (o : Off) (n : Nat) : State := s.setReg o (satAdd (s.reg o) n)

def State.bump (s : State) (o : Off) : State := s.bumpBy o 1

/-- A maximum register that records a value (R514). -/
def State.recordMax (s : State) (o : Off) (n : Nat) : State :=
  if (s.reg o).toNat < n then s.setReg o (BitVec.ofNat 32 (min n (2 ^ 32 - 1))) else s

/-! ## Ignored writes (R510, R515) -/

/-- Reasons of Table 19-2. -/
abbrev Why.rwsState : Nat := 1
abbrev Why.range : Nat := 2
abbrev Why.cmdState : Nat := 3
abbrev Why.readOnly : Nat := 4
abbrev Why.undecoded : Nat := 5
abbrev Why.window : Nat := 6
abbrev Why.condition : Nat := 7

/-- An ignored write (R515): counted in HIF_IGNORED_WR_CNT inside the HIF span and in MGMT_IGNORED_WR_CNT elsewhere (R510), recorded with its reason, and shown in MGMT_EVT. -/
def State.ignored (s : State) (o : Off) (reason : Nat) (tarn : Bool := false) : State :=
  let hif := !tarn && decide (0x1000 ≤ o) && decide (o < 0x1900)
  let s := s.bump (if hif then Reg.HIF_IGNORED_WR_CNT else Reg.MGMT_IGNORED_WR_CNT)
  let s := s.setReg Reg.MGMT_IGNORED_LAST
    (packU32 [(if tarn then o % 2 ^ 25 else o % 2 ^ 25 / 4 * 4, 0), (reason, 25), (b2n tarn, 31)])
  s.raise Reg.MGMT_EVT 4

end Sys2Proof.Machine
end

