-- ==== Sys2Proof/Machine/Ops.lean ====
section
/-! DEFINITION. The named operations that the meanings share: node state, Tarn, the clock's readings, rings, the engines' handles and the offer of records to Inlet. -/

namespace Sys2Proof.Machine

/-! ## Node state (R35-R37) -/

abbrev Node.reset : Nat := 0
abbrev Node.boot : Nat := 1
abbrev Node.selftest : Nat := 2
abbrev Node.setup : Nat := 3
abbrev Node.run : Nat := 4
abbrev Node.replay : Nat := 5
abbrev Node.activating : Nat := 6
abbrev Node.faultHalt : Nat := 7

/-- MGMT_STATE.STATE (Table 19-4). -/
def State.mgmt (s : State) : Nat := s.rfld Reg.MGMT_STATE 0 3

/-- A transition of MGMT_STATE, which sets MGMT_EVT.STATE_CHANGE (R517). -/
def State.setMgmt (s : State) (st : Nat) : State :=
  if s.mgmt = st then s else (s.setRegFld Reg.MGMT_STATE 0 3 st).raise Reg.MGMT_EVT 1

/-- The journal unit of a CONTINUOUS capture ends with the bytes that the ring holds (R334); one not yet formed is formed of them (R94). -/
def Spawn.endJournal (p : Spawn) : Spawn :=
  let rest := (p.ring ++ p.behind).flatten
  if p.units.any (fun u => u.kind == 1 && !u.closed) then
    { p with units := p.units.map (fun u => if u.kind = 1 && !u.closed then { u with bytes := rest, closed := true } else u) }
  else if p.journaling then
    { p with units := p.units ++ [{ kind := 1, bytes := rest, closed := true, restart := !p.numbered }], numbered := true }
  else p

/-- A capture records nothing more. -/
def Spawn.closeJournal (p : Spawn) : Spawn :=
  { p with
    ring := [], behind := [], torn := false, journaling := false, ckptDue := none, markWanted := false }

/-- A CONTINUOUS capture ends: MODE OFF, CAPTURE IDLE. -/
def State.endContinuous (s : State) : State :=
  if s.rfld Reg.SPAWN_STATUS 0 2 = 1 then { s.setRegFld Reg.SPAWN_STATUS 0 6 0 with spawn := s.spawn.endJournal.closeJournal } else s

/-! ## The lanes' switches (R141, R174) -/

def State.lane (s : State) (n : Nat) : Lane := Sparse.get { } s.fe.lanes n
def State.updLane (s : State) (n : Nat) (f : Lane → Lane) : State :=
  { s with fe := { s.fe with lanes := Sparse.upd { } s.fe.lanes n f } }

/-- A source rests: EX_STATUS shows no lane (Table 5-9). -/
def State.restSource (s : State) (k : Nat) : State := s.setReg (Reg.EX_STATUS k) 0xFF00

/-- Every source rests but one that a calibration slot goes on driving. -/
def State.restSources (s : State) : State :=
  (List.range 16).foldl (fun s k => if (s.lane (s.rfld (Reg.EX_STATUS k) 8 8)).calActive then s else s.restSource k) s

/-- The activation pause cuts a lane's slot, of either kind, and opens its switches; held samples and drains stay. -/
def Lane.cut (l : Lane) : Lane := { l with slot := none, calActive := false, closed := [] }

/-- STOP cuts a slot of a definition; a calibration slot goes on, for SETUP carries those (R174). -/
def Lane.stop (l : Lane) : Lane :=
  { l with slot := none, closed := if l.calActive then l.closed else [], held := [], drain := [] }

/-- REPLAY and FAULT_HALT leave a lane nothing. -/
def Lane.halt (l : Lane) : Lane := { l.cut with held := [], drain := [] }

/-- Every lane ends what it does, and the sources rest. -/
def State.lanesEnd (s : State) (f : Lane → Lane) : State :=
  ((List.range 48).foldl (fun s n => s.updLane n f) s).restSources

/-- Outside RUN and REPLAY no session and no owner requests an output: DIO_CH_STATUS and PAIR_BLOCKED show none (Tables 10-10 and 12-9). -/
def State.requestsEnd (s : State) : State :=
  { s with dio := { s.dio with callReq := 0, ownReq := 0 } }.setPair Reg.PAIR_BLOCKED_LO Reg.PAIR_BLOCKED_HI 0

/-- RUN or REPLAY. -/
def State.running (s : State) : Bool := s.mgmt == Node.run || s.mgmt == Node.replay

def State.nodeId (s : State) : Nat := s.rfld Reg.MGMT_NODE_ID 0 6

/-- The behaviour revision in force, REPLAY included (R84). -/
def State.behav (s : State) : Nat := s.rfld Reg.BEHAV_REV 0 8

/-- The NODE_ID that the engines and the custody chain use: in REPLAY the journal header's (R344). -/
def State.streamNode (s : State) : Nat :=
  if s.mgmt = Node.replay then s.spawn.replay.nodeId.toNat else s.nodeId

/-- The system ID of a local point index (R16). -/
def State.sysId (s : State) (p : Nat) : BitVec 23 := BitVec.ofNat 23 (s.streamNode * 131072 + p)

/-- The local index of the node identifier (R277) and of group g (R261). -/
abbrev nodeIndex : Nat := 130560
abbrev groupIndex (g : Nat) : Nat := 130816 + g

def State.cfgEpoch (s : State) : Nat := s.rfld Reg.INLET_CFG_EPOCH 0 16

/-- CFG_EPOCH as of the records that every engine has evaluated: the admitted changes whose barrier lies ahead are not yet counted. -/
def State.evalEpoch (s : State) : Nat := (s.cfgEpoch + 65536 - s.inlet.barriers.length) % 65536

/-- Effective FMODE is on (R86). -/
def State.fmodeOn (s : State) : Bool := s.rfld Reg.MGMT_FMODE 8 2 == 2

/-! ## Tarn (Table 18-1) -/

abbrev Tarn.POINT_CFG : Off := 0x000000
abbrev Tarn.STATE_A : Off := 0x500000
abbrev Tarn.STATE_B : Off := 0x780000
abbrev Tarn.FANOUT : Off := 0xA00000
abbrev Tarn.GROUPS : Off := 0xB00000
abbrev Tarn.CHANDEF : Off := 0xB10000
abbrev Tarn.LILYPAD : Off := 0xB14000
abbrev Tarn.LINTAB : Off := 0xB20000
abbrev Tarn.CAN_FILT : Off := 0xB40000
abbrev Tarn.CAN_SIG : Off := 0xB80000
abbrev Tarn.TREND : Off := 0xC00000
abbrev Tarn.WINDOW : Off := 0xC40000
abbrev Tarn.WINDOW_END : Off := 0xDC0000
abbrev Tarn.ELASTIC : Off := 0xE00000
abbrev Tarn.SIZE : Off := 0x2000000

/-- Bytes of Tarn; an unlisted byte reads 0 (R74). -/
def State.tarnRead (s : State) (o n : Nat) : List Byte := Sparse.read 0 s.tarn o n

def State.tarnWrite (s : State) (o : Nat) (bs : List Byte) : State :=
  { s with tarn := Sparse.write 0 s.tarn o bs }

/-- What a reader of configuration gets: a word with an uncorrectable error reads as zero until its record is admitted (R497). -/
def State.tarnSee (s : State) (o n : Nat) : List Byte :=
  (s.gecko.ueWords.filter (fun w => decide (o ≤ w) && decide (w < o + n))).foldl
    (fun l w => patch l (w - o) (zeros 8)) (s.tarnRead o n)

/-- A span of `n` bytes at `o` reaches the `k` bytes at `w`. -/
def overlaps (o n w k : Nat) : Bool := n != 0 && decide (o < w + k) && decide (w < o + n)

/-- What a write does to the scrubber's work, `hit` telling which bytes it reaches: a single-bit error is gone from a word, and a line is not written back (R495). -/
def State.rewritten (s : State) (hit : Nat → Nat → Bool) : State :=
  { s with gecko := { s.gecko with
      ceWords := s.gecko.ceWords.filter (fun w => !hit w 8)
      writeback := s.gecko.writeback.filter (fun c => !hit (128 * c.2) 128) } }

/-- A unit's write of `n` bytes at `o`, whose bytes are kept elsewhere than in `State.tarn`. -/
def State.lineWritten (s : State) (o n : Nat) : State := s.rewritten (overlaps o n)

/-- A write gives its words correct ECC: they hold no error any longer (R495, R496). -/
def State.clearUe (s : State) (o n : Nat) : State :=
  let s := s.lineWritten o n
  { s with gecko := { s.gecko with ueWords := s.gecko.ueWords.filter (fun w => !overlaps o n w 8) } }

/-- The state regions and the group state halves are written whole (R233, R246). -/
def State.statesWritten (s : State) : State :=
  s.rewritten (fun w k => overlaps Tarn.STATE_A (Tarn.FANOUT - Tarn.STATE_A) w k
    || (overlaps Tarn.GROUPS 0x10000 w k && decide (0xB0 < (w - Tarn.GROUPS) % 256 + k)))

/-- A unit's write of Tarn. -/
def State.tarnStore (s : State) (o : Nat) (bs : List Byte) : State := (s.tarnWrite o bs).clearUe o bs.length

/-- The indices of the records of `size` bytes in [base, base + size · n) that hold a byte that is not 0, ascending. -/
def State.listed (s : State) (base size n : Nat) : List Nat :=
  let cells := (Sparse.dropBelow s.tarn base).takeWhile (fun c => c.1 < base + size * n)
  (cells.foldl (fun acc c =>
    let i := (c.1 - base) / size
    if acc.head? = some i then acc else i :: acc) []).reverse

/-! ## Time (R408-R410) -/

/-- The Wellspring time of an FRC reading in NORMAL mode (R409). -/
def Wellspring.normalTime (w : Wellspring) (frc : U64) : U64 :=
  w.offset + BitVec.ofNat 64 (frc.toNat * w.rate.toNat / 2 ^ 56)

/-- TIME now (R409, R410). -/
def Wellspring.time (w : Wellspring) : U64 :=
  if w.normal then w.normalTime w.frc else BitVec.ofNat 64 (w.counter.toNat / 2 ^ 32)

def State.now (s : State) : U64 := s.ws.time

def State.frcNat (s : State) : Nat := s.ws.frc.toNat

/-! ## The engines' handles -/

def State.eng (s : State) : EngineId → Engine
  | .A => s.aeA
  | .B => s.aeB

def State.setEng (s : State) (e : EngineId) (x : Engine) : State :=
  match e with
  | .A => { s with aeA := x }
  | .B => { s with aeB := x }

def State.updEng (s : State) (e : EngineId) (f : Engine → Engine) : State := s.setEng e (f (s.eng e))

def other : EngineId → EngineId
  | .A => .B
  | .B => .A

/-- Engine number in register and record fields: 1 = AE-A, 2 = AE-B. -/
def engNo : EngineId → Nat
  | .A => 1
  | .B => 2

/-- Register block of an engine (R324): 0 = AE-A, 1 = AE-B. -/
def engIx : EngineId → Nat
  | .A => 0
  | .B => 1

/-- Service states of Table 10-1. -/
abbrev Svc.offline : Nat := 0
abbrev Svc.inService : Nat := 1
abbrev Svc.failed : Nat := 2
abbrev Svc.resync : Nat := 3
abbrev Svc.proving : Nat := 4

/-- The state is marked "in service" in Table 10-1. -/
def Engine.serving (x : Engine) : Bool := x.svc == Svc.inService || x.svc == Svc.proving

def State.serves (s : State) (e : EngineId) : Bool := (s.eng e).serving

/-- The engines in service, AE-A first. -/
def State.servers (s : State) : List EngineId := [EngineId.A, EngineId.B].filter s.serves

def State.bothServe (s : State) : Bool := s.aeA.serving && s.aeB.serving

/-- HOLDER as a code: 0 = none, 1 = AE-A, 2 = AE-B. -/
def State.holderCode (s : State) : Nat := match s.skink.holder with | none => 0 | some e => engNo e

/-- The engine whose state views and counters show: the holder, or AE-A when none holds and AE-A is in service, else AE-B (R265). -/
def State.viewEng (s : State) : EngineId := s.skink.holder.getD (if s.aeA.serving then .A else .B)

/-- A counter of an engine's results, kept for the view engine alone (R265). -/
def State.bumpView (s : State) (e : EngineId) (o : Off) : State :=
  if e = s.viewEng then s.bump o else s

/-- The holder, or the lower-numbered engine in service when none holds (R326, R329). -/
def State.sourceEng (s : State) : Option EngineId :=
  match s.skink.holder with
  | some e => some e
  | none => s.servers.head?

/-- Records admitted and not evaluated by an engine. -/
def State.lag (s : State) (e : EngineId) : Nat := (s.inlet.isn - (s.eng e).evalIsn).toNat

/-- Records in the on-die queue: the 4,096 most recent of the stream window (R273). -/
def State.inletFill (s : State) : Nat := min 4096 s.inlet.stream.length

/-! ## Rings (R102-R112, R126) -/

def isHostToNode (n : Nat) : Bool :=
  n == 0 || n == 8 || n == 9 || (10 ≤ n && n ≤ 17) || n == 26 || n == 27

def State.ringActive (s : State) (n : Nat) : Bool := s.rbit (Reg.RING_STATUS n) 0 && !s.rbit (Reg.RING_STATUS n) 2

def State.ringSize (s : State) (n : Nat) : Nat := 2 ^ s.rfld (Reg.RING_SIZE n) 0 5

/-- Bytes of a ring's entry (Table 4-2). -/
def entrySize (n : Nat) : Nat :=
  if n = 0 || n = 30 then 64
  else if 2 ≤ n && n ≤ 5 then 32
  else if 10 ≤ n && n ≤ 17 then 80
  else if 18 ≤ n && n ≤ 25 then 96
  else 16

/-- Host address of entry i of a ring: slot i mod 2^n from RING_BASE (R102). -/
def State.ringSlot (s : State) (n : Nat) (i : U32) : Nat :=
  (s.pair (Reg.RING_BASE_LO n) (Reg.RING_BASE_HI n)).toNat + entrySize n * (i.toNat % s.ringSize n)

/-- The host's index of a ring that the node goes by. -/
def State.hostIdx (s : State) (n : Nat) : U32 := Sparse.get 0 s.hif.hostIdx n

def State.setHostIdx (s : State) (n : Nat) (i : U32) : State :=
  { s with hif := { s.hif with hostIdx := Sparse.set 0 s.hif.hostIdx n i } }

/-- Entries of a node-to-host ring written and not consumed. -/
def State.ringUsed (s : State) (n : Nat) : Nat := (s.reg (Reg.RING_NODE_IDX n) - s.hostIdx n).toNat

/-- Credits of a node-to-host ring (R111); none while HIF writes no ring (R124). -/
def State.ringCredit (s : State) (n : Nat) : Nat :=
  if s.ringActive n && s.mgmt != Node.activating && s.hif.linkUp then s.ringSize n - s.ringUsed n else 0

/-- Address of the status page (R108). -/
def State.statPage (s : State) : Nat := (s.pair Reg.HIF_STATPAGE_LO Reg.HIF_STATPAGE_HI).toNat

/-- A ring reports one entry (R126): the vector is raised when moderation allows, or at once for IRQ_NOW. -/
def State.report (s : State) (n : Nat) (now : Bool) : State :=
  -- Consumed descriptors count toward interrupts only with SPACE_IRQ.
  if isHostToNode n && !s.rbit (Reg.RING_CTL n) 2 then s else
  let k := Sparse.get 0 s.hif.unsig n + 1
  let en := s.rbit (Reg.RING_CTL n) 1
  let due := now || (en && (decide ((s.reg (Reg.RING_MOD_COUNT n)).toNat ≤ k) || s.reg (Reg.RING_MOD_TIME n) == 0))
  if due then
    { s with hif := { s.hif with unsig := Sparse.set 0 s.hif.unsig n 0 } }.sendVector (s.rfld (Reg.RING_CTL n) 8 5)
  else { s with hif := { s.hif with unsig := Sparse.set 0 s.hif.unsig n k } }

/-- The node's index of a ring advances by one, and the status page shows it before any interrupt (R109). -/
def State.advanceRing (s : State) (n : Nat) (now : Bool) : State :=
  let i := s.reg (Reg.RING_NODE_IDX n) + 1
  let s := (s.setReg (Reg.RING_NODE_IDX n) i).bump (Reg.RING_ENTRY_CNT n)
  let s := if s.rbit Reg.HIF_CTL 0 then s.emitOut (.hostWrite (s.statPage + 4 * n) (leBytes 4 i.toNat)) else s
  s.report n now

/-- An entry written to a node-to-host ring that has credit. -/
def State.postEntry (s : State) (n : Nat) (data : List Byte) (now : Bool := false) : State :=
  let i := s.reg (Reg.RING_NODE_IDX n)
  (s.emitOut (.ringEntry n i (s.ringSlot n i) data)).advanceRing n now

/-- An entry of a lossy ring is discarded (R112), and counted for the next telemetry record too (Table 18-4). -/
def State.ringLoss (s : State) (n : Nat) : State :=
  { s with gecko := { s.gecko with lossSince := s.gecko.lossSince + 1 } }.bump (Reg.RING_LOSS_CNT n)

/-- An entry offered to a lossy ring (R112): written, or discarded and counted. -/
def State.postLossy (s : State) (n : Nat) (data : List Byte) : State :=
  if 0 < s.ringCredit n then s.postEntry n data else s.ringLoss n

/-- A ring enters ERROR (R107, R137). ACTIVE stays as it is until ENABLE is cleared: R137 does not say that it falls (DESIGN CHOICE, log entry 64). -/
def State.ringError (s : State) (n code : Nat) : State :=
  if s.rbit (Reg.RING_STATUS n) 2 then s else
  let s := (s.setRegBit (Reg.RING_STATUS n) 2 true).setRegFld (Reg.RING_STATUS n) 4 3 code
  (s.bump (Reg.RING_ERR_CNT n)).raise Reg.HIF_EVT 2

/-- The next entry of a posted-buffer ring (R116): the node reads ADDR from its slot, fills the buffer there and writes bytes 0x08-0x0F of the descriptor. A failed read of ADDR stops the ring with DMA_ABORT (R137). -/
def State.postBuffer (s : State) (n : Nat) (addr : Option Nat) (desc data : List Byte) : State :=
  let i := s.reg (Reg.RING_NODE_IDX n)
  let s := s.emitOut (.hostRead (s.ringSlot n i) 8)
  match addr with
  | none => s.ringError n 3
  | some a => ((s.emitOut (.hostWrite a data)).emitOut (.ringEntry n i (s.ringSlot n i + 8) desc)).advanceRing n false

/-- The node reads the buffer that a descriptor of a host-to-node ring names (Table 4-4). -/
def State.readBuffer (s : State) (desc : List Byte) : State := s.emitOut (.hostRead (leAt desc 0 8) (leAt desc 8 2))

/-- The descriptors of one ring that wait in the node, oldest first. -/
def State.fetchedOf (s : State) (n : Nat) : List (List Byte) :=
  (s.hif.fetched.filter (fun d => d.1 == n)).map (·.2)

def dropFirst (n : Nat) : List (Nat × List Byte) → List (Nat × List Byte)
  | [] => []
  | d :: l => if d.1 = n then l else d :: dropFirst n l

/-- The oldest waiting descriptor of a ring is consumed: the node's index passes it (R115). -/
def State.consume (s : State) (n : Nat) : State :=
  { s with hif := { s.hif with fetched := dropFirst n s.hif.fetched } }.advanceRing n false

/-! ## Records (Table 9-1) and their offer to Inlet (R266, R271-R274) -/

/-- SOURCE: type and index (Table 9-2). -/
def mkSource (type index : Nat) : U16 := BitVec.ofNat 16 (type * 4096 + index)

def InRec.srcType (r : InRec) : Nat := fld r.source 12 4
def InRec.srcIndex (r : InRec) : Nat := fld r.source 0 12

/-- The bytes of a record (Table 9-1). -/
def InRec.bytes (r : InRec) : List Byte :=
  leBytes 8 r.isn.toNat ++ leBytes 8 r.time.toNat ++ leBytes 2 r.source.toNat ++ leBytes 2 r.ssn.toNat
    ++ [r.kind, r.flags] ++ leBytes 2 r.ext.length ++ leBytes 8 r.payload.toNat ++ r.ext

/-- Byte fields of PAYLOAD, at their offset in the record (0x18-0x1F). -/
def InRec.pay (r : InRec) (o n : Nat) : Nat := fld r.payload (8 * (o - 0x18)) (8 * n)

/-- Tarn offset that an ECC_FAULT record names. -/
def InRec.eccOffset (r : InRec) : Off := 8 * (r.pay 0x1C 4 % 2 ^ 22)

/-- Record kinds of Table 9-3. -/
abbrev Kind.sample : Byte := 1
abbrev Kind.diChange : Byte := 2
abbrev Kind.count : Byte := 3
abbrev Kind.canFrame : Byte := 4
abbrev Kind.tick : Byte := 5
abbrev Kind.cmd : Byte := 6
abbrev Kind.sourceGap : Byte := 7
abbrev Kind.checkpoint : Byte := 8
abbrev Kind.mark : Byte := 9
abbrev Kind.resync : Byte := 10

/-- Places in Inlet's order: the rotation's 0-57, then the sources ahead of it (R271). -/
abbrev Place.newt (n : Nat) : Nat := 48 + n
abbrev Place.can (n : Nat) : Nat := 50 + n
abbrev Place.gecko : Nat := 60
abbrev Place.skink : Nat := 61
abbrev Place.tick : Nat := 62

/-- Credits toward Inlet (Table 1-5); Skink and Gecko offer without loss. -/
def placeCredit (pl : Nat) : Option Nat :=
  if pl < 48 then some 8 else if pl < 50 then some 32 else if pl < 58 then some 64
  else if pl = Place.tick then some 4 else none

/-- The overrun counter of a place (Table 9-14). -/
def placeOvr (pl : Nat) : Off :=
  if pl < 48 then Reg.INLET_OVR_FE_CNT else if pl < 50 then Reg.INLET_OVR_DIO_CNT
  else if pl < 58 then Reg.INLET_OVR_CAN_CNT else Reg.INLET_OVR_TICK_CNT

/-- A credit is free at a place. -/
def State.hasCredit (s : State) (pl : Nat) : Bool :=
  match placeCredit pl with
  | none => true
  | some c => decide ((s.inlet.waiting.filter (fun w => w.1 == pl)).length < c)

/-- A source's next SSN, which every record offered takes (R266). -/
def State.takeSsn (s : State) (src : U16) : U16 × State :=
  let n := Sparse.get 0 s.inlet.ssn src.toNat
  (n, { s with inlet := { s.inlet with ssn := Sparse.set 0 s.inlet.ssn src.toNat (n + 1) } })

/-- A record discarded at Inlet for want of a credit (R28). -/
def State.overrun (s : State) (pl : Nat) : State :=
  let s := { s with gecko := { s.gecko with overrunSince := s.gecko.overrunSince + 1 } }
  (s.bump (placeOvr pl)).raise Reg.INLET_EVT 2

/-- A source offers a record: it takes an SSN and waits for admission, or finds no credit and is lost. -/
def State.offer (s : State) (pl : Nat) (r : InRec) : State :=
  let (n, s) := s.takeSsn r.source
  if s.hasCredit pl then
    { s with inlet := { s.inlet with waiting := s.inlet.waiting ++ [(pl, { r with ssn := n })] } }
  else s.overrun pl

/-- A source marks that it lost data before offering it (R274). -/
def State.markLoss (s : State) (src : U16) : State :=
  if s.inlet.lost.contains src.toNat then s
  else { s with inlet := { s.inlet with lost := s.inlet.lost ++ [src.toNat] } }

/-- The sources run: the node is in RUN, or in the activation pause, in which they overrun (R272). -/
def State.sourcesRun (s : State) : Bool := s.mgmt == Node.run || s.mgmt == Node.activating

/-! ## Completions (R120, Table 4-8) -/

abbrev Status.ok : Nat := 0
abbrev Status.badOpcode : Nat := 1
abbrev Status.badArg : Nat := 2
abbrev Status.busy : Nat := 3
abbrev Status.state : Nat := 4
abbrev Status.quota : Nat := 5
abbrev Status.notFound : Nat := 6
abbrev Status.crc : Nat := 7
abbrev Status.auth : Nat := 8
abbrev Status.late : Nat := 9
abbrev Status.partial_ : Nat := 10

/-- A completion becomes ready to be written to CMPL. -/
def State.complete (s : State) (tag : U32) (irq : Bool) (opcode status : Nat) (result : U64) : State :=
  let c : Compl := { tag := tag, opcode := BitVec.ofNat 16 opcode, status := BitVec.ofNat 16 status,
                     result := result, irqNow := irq }
  { s with hif := { s.hif with ready := s.hif.ready ++ [c] } }

def dropRunning (opcode : Nat) (tag : U32) : List Running → List Running
  | [] => []
  | r :: l => if r.opcode.toNat = opcode && r.tag = tag && r.dir then l else r :: dropRunning opcode tag l

/-- A DIR command that waits for a later step (R119). -/
def State.defer (s : State) (tag : U32) (irq : Bool) (opcode : Nat) : State :=
  let r : Running := { tag := tag, opcode := BitVec.ofNat 16 opcode, irqNow := irq, isn := 0, dir := true }
  { s with hif := { s.hif with running := s.hif.running ++ [r] } }

/-- A waiting DIR command ends. -/
def State.finish (s : State) (tag : U32) (irq : Bool) (opcode status : Nat) (result : U64) : State :=
  State.complete { s with hif := { s.hif with running := dropRunning opcode tag s.hif.running } }
    tag irq opcode status result

/-- A command whose record has been evaluated completes, a POINT_READ after its image is written (R120, R238). -/
def State.closeRunning (s : State) (r : Running) : State :=
  let s := if r.img.isEmpty then s else s.emitOut (.hostWrite r.addr r.img)
  s.complete r.tag r.irqNow r.opcode.toNat r.status.toNat (if r.status = 0 then r.isn else 0)

/-- A host write before SETUP is ignored (R76); from SETUP onward it acts. -/
def State.fromSetup (s : State) (o : Off) (reason : Nat) (f : State → State) : State :=
  if s.mgmt < Node.setup then s.ignored o reason else f s

/-! ## The settings region in use (R499) -/

def State.updNvm (s : State) (f : Nvm → Nvm) : State := { s with nvm := f s.nvm }

def Nvm.region (v : Nvm) (k : Nat) : Settings := if k = 0 then v.set0 else v.set1

def State.updRegion (s : State) (k : Nat) (f : Settings → Settings) : State :=
  s.updNvm (fun v => if k = 0 then { v with set0 := f v.set0 } else { v with set1 := f v.set1 })

/-- The region in use. -/
def State.active (s : State) : Settings := s.nvm.region s.upd.runSettings

/-- A quota that the settings keep, durable as QUOTA_SET completes (DESIGN CHOICE, log entry 34). -/
def State.saveQuota (s : State) (f : Quotas → Quotas) : State :=
  s.updRegion s.upd.runSettings (fun t => { t with quotas := f t.quotas })

/-! ## Outcomes -/

/-- A step always ends in a next state, unless its operand names a unit that the node lacks. -/
def need (ok : Bool) (s : State) : Host.Outcome State Fault Refusal :=
  if ok then .next s else .fault .noSuchUnit

end Sys2Proof.Machine
end

