-- ==== Sys2Proof/Machine/CanOps.lean ====
section
/-! DEFINITION. The CAN FD channels as the other units use them: bus state, transmit slots, outcomes, echoes, errors (R375-R390). -/

namespace Sys2Proof.Machine

def State.canCh (s : State) (n : Nat) : Can := Sparse.get { } s.can n
def State.updCan (s : State) (n : Nat) (f : Can → Can) : State := { s with can := Sparse.upd { } s.can n f }

/-! ## Configuration and bus state -/

/-- CAN_CFG.MODE: 0 = OFF, 1 = NORMAL, 2 = MONITOR. -/
def State.canMode (s : State) (n : Nat) : Nat := s.rfld (Reg.CAN_CFG n) 0 2
def State.canFd (s : State) (n : Nat) : Bool := s.rbit (Reg.CAN_CFG n) 2
def State.canBrs (s : State) (n : Nat) : Bool := s.rbit (Reg.CAN_CFG n) 3

/-- Host slots of a channel (R379). -/
def State.canShare (s : State) (n : Nat) : Nat := s.rfld (Reg.CAN_CFG n) 24 5

/-- CAN_STATUS.BUS_STATE: 0 = off the bus, 1 = error active, 2 = error passive, 3 = bus-off. -/
def State.canBus (s : State) (n : Nat) : Nat := s.rfld (Reg.CAN_STATUS n) 0 2

/-- The channel takes part in the bus (R376). -/
def State.canOn (s : State) (n : Nat) : Bool := s.canBus n == 1 || s.canBus n == 2

abbrev CanStat.lonely : Nat := 2
abbrev CanStat.recovering : Nat := 3
abbrev CanStat.hostOff : Nat := 4
abbrev CanStat.monitorOvr : Nat := 5
abbrev CanStat.overQuota : Nat := 7
abbrev CanStat.outOfService : Nat := 8
abbrev CanStat.integrating : Nat := 9
abbrev CanStat.timingErr : Nat := 10

def State.canStat (s : State) (n i : Nat) : Bool := s.rbit (Reg.CAN_STATUS n) i
def State.setCanStat (s : State) (n i : Nat) (b : Bool) : State := s.setRegBit (Reg.CAN_STATUS n) i b
def State.setCanBus (s : State) (n b : Nat) : State := s.setRegFld (Reg.CAN_STATUS n) 0 2 b

/-- The channel runs as MONITOR, by its mode or by CAN_CHANNEL_CTL (R404). -/
def State.canMonitor (s : State) (n : Nat) : Bool := s.canMode n == 2 || s.canStat n CanStat.monitorOvr

/-- The termination is connected (R404). -/
def State.canTerm (s : State) (n : Nat) : Bool := (s.canCh n).term.getD (s.rbit (Reg.CAN_CFG n) 5)

/-- CAN_STATUS as a read shows it. -/
def State.canStatusView (s : State) (n : Nat) : U32 :=
  setFld (setFld (s.reg (Reg.CAN_STATUS n)) 6 1 (b2n (s.canTerm n))) 24 6 (s.canCh n).slots.length

/-- Quanta of a nominal bit, and of a data bit, at 80 MHz (R377). -/
def nominalQuanta (v : U32) : Nat := (fld v 8 8 + fld v 16 7 + 3) * (fld v 0 8 + 1)
def dataQuanta (v : U32) : Nat := (fld v 8 5 + fld v 16 4 + 3) * (fld v 0 5 + 1)

/-- A CAN_NBT value lies in Table 13-3 and in 10 kbit/s to 1 Mbit/s (R377). -/
def nbtOk (v : U32) : Bool :=
  decide (1 ≤ fld v 8 8) && decide (1 ≤ fld v 16 7) && decide (fld v 24 7 ≤ fld v 16 7)
    && inRange 80 8000 (nominalQuanta v)

/-- A CAN_DBT value lies in Table 13-3 and in 500 kbit/s to 5 Mbit/s (R377). -/
def dbtOk (v : U32) : Bool :=
  decide (fld v 24 4 ≤ fld v 16 4) && inRange 16 160 (dataQuanta v)

/-! ## Frames -/

/-- Data bytes that a frame carries (R398); a remote frame carries none. -/
def dlcLength (fd rtr : Bool) (dlc : Nat) : Nat :=
  if rtr then 0
  else if dlc ≤ 8 then dlc
  else if !fd then 8
  else [12, 16, 20, 24, 32, 48, 64].getD (dlc - 9) 64

/-- 64 data bytes, zero beyond the DLC's length. -/
def frameData (fd rtr : Bool) (dlc : Nat) (data : List Byte) : List Byte :=
  fit 64 (data.take (dlcLength fd rtr dlc))

def frameFd (f : CanFrame) : Bool := bitAt f.id 30
def frameRtr (f : CanFrame) : Bool := bitAt f.id 31

/-- A CAN_RX entry (Table 13-13). -/
def rxEntry (time : U64) (id : U32) (dlc rflags filter tag status ch : Nat) (seq : U32) (data : List Byte) : List Byte :=
  leBytes 8 time.toNat ++ leBytes 4 id.toNat ++ [BitVec.ofNat 8 dlc, BitVec.ofNat 8 rflags] ++ leBytes 2 filter
    ++ leBytes 2 tag ++ [BitVec.ofNat 8 status, BitVec.ofNat 8 ch] ++ leBytes 4 seq.toNat ++ zeros 8 ++ data

/-- An entry for CAN_RXn, with LOST_BEFORE after a discarded one (R394); the flag tells that it was written. -/
def State.canRing (s : State) (n : Nat) (entry : Nat → List Byte) : State × Bool :=
  let lost := if (s.canCh n).lostBefore then 8 else 0
  if 0 < s.ringCredit (18 + n) then
    ((s.updCan n (fun c => { c with lostBefore := false })).postEntry (18 + n) (entry lost), true)
  else
    (((s.updCan n (fun c => { c with lostBefore := true })).ringLoss (18 + n)).raise (Reg.CAN_EVT n) 0x20, false)

/-! ## Transmit slots (R379-R384) -/

/-- The lowest free slot. -/
def Can.freeSlot (c : Can) : Option Nat := (List.range 32).find? (fun i => !c.slots.any (fun t => t.idx == i))

def Can.hostSlots (c : Can) : Nat := (c.slots.filter (fun t => !t.node)).length

/-- Arbitration order as a number: base identifier, RTR or SRR, IDE, extension, RTR (R380). -/
def TxSlot.arb (t : TxSlot) : Nat :=
  let id := fld t.id 0 29
  if bitAt t.id 29 then (id / 2 ^ 18) * 2 ^ 21 + 2 ^ 20 + 2 ^ 19 + (id % 2 ^ 18) * 2 + b2n t.rtr
  else (id % 2 ^ 11) * 2 ^ 21 + b2n t.rtr * 2 ^ 20

/-- The slot sent next (R380). -/
def bestSlot : List TxSlot → Option TxSlot
  | [] => none
  | t :: l =>
    match bestSlot l with
    | none => some t
    | some u => if u.arb < t.arb || (u.arb == t.arb && decide (u.seq < t.seq)) then some u else some t

/-- The frame has exactly one attempt (R381). -/
def State.oneShot (s : State) (n : Nat) (t : TxSlot) : Bool := s.rbit (Reg.CAN_CFG n) 4 || (!t.node && t.oneShot)

abbrev TxOut.sent : Nat := 0
abbrev TxOut.cancelled : Nat := 1
abbrev TxOut.noAck : Nat := 2
abbrev TxOut.lostArb : Nat := 3
abbrev TxOut.error : Nat := 4
abbrev TxOut.busOff : Nat := 5
abbrev TxOut.aborted : Nat := 6
abbrev TxOut.rejected : Nat := 7

/-- An echo's entry goes to the channel's ring (R384). -/
def State.postEcho (s : State) (n : Nat) (e : Echo) : State :=
  let t := e.slot
  (s.canRing n (fun lost => rxEntry e.time (setBit t.id 31 t.rtr) t.dlc.toNat (b2n t.brs + 4 + lost) 0xFFFF
    t.tag.toNat e.code n e.seq (frameData (bitAt t.id 30) t.rtr t.dlc.toNat t.data))).1

/-- A frame before an echo has left the FIFO. -/
def Echo.nearer (e : Echo) : Echo := { e with behind := e.behind - 1 }

/-- The echoes go out that have no earlier frame before them in the receive FIFO (R397). -/
def State.echoesDue (s : State) (n : Nat) : State :=
  let due := (s.canCh n).echoes.takeWhile (fun e => e.behind == 0)
  let s := s.updCan n (fun c => { c with echoes := c.echoes.dropWhile (fun e => e.behind == 0) })
  due.foldl (fun s e => s.postEcho n e) s

/-- The echo of a host frame's outcome (R384): it takes its place behind the frames that ended before (R397). -/
def State.echo (s : State) (n : Nat) (t : TxSlot) (code : Nat) : State :=
  let c := s.canCh n
  let e : Echo := { behind := c.rxFifo.length, slot := t, code := code, seq := c.seq,
                    time := if t.attempts = 0 then s.now else t.sof }
  (s.updCan n (fun c => { c with echoes := c.echoes ++ [e] })).echoesDue n

/-- The receive FIFO is emptied; the echoes that waited behind its frames go out. -/
def State.rxFlush (s : State) (n : Nat) : State :=
  (s.updCan n (fun c => { c with rxFifo := [], echoes := c.echoes.map (fun e => { e with behind := 0 }) })).echoesDue n

/-- A frame ends with an outcome of Table 13-6; a node-originated one has none. -/
def State.txOutcome (s : State) (n : Nat) (t : TxSlot) (code : Nat) : State :=
  if t.node then s else
  let s := if code = TxOut.cancelled then s.bump (Reg.CAN_TX_CANCEL_CNT n)
           else if code = TxOut.busOff || code = TxOut.aborted || code = TxOut.rejected then s.bump (Reg.CAN_TX_ABORT_CNT n)
           else s
  if t.report then s.echo n t code else s

/-- A slot freed. -/
def State.freeTx (s : State) (n idx : Nat) : State :=
  s.updCan n (fun c => { c with slots := c.slots.filter (fun t => t.idx != idx) })

/-- Frames that leave their slots with one outcome. -/
def State.endFrames (s : State) (n : Nat) (f : TxSlot → Bool) (code : Nat) : State :=
  let gone := (s.canCh n).slots.filter f
  let s := s.updCan n (fun c => { c with slots := c.slots.filter (fun t => !f t) })
  gone.foldl (fun s t => s.txOutcome n t code) s

/-- A node-originated frame is placed in a free slot, when its channel can take it (R260, R379) and frames can wait (Table 13-2); the flag tells whether it was. -/
def State.placeNode (s : State) (n : Nat) (id : U32) (brs : Bool) (data : List Byte) (dlc : Nat) : State × Bool :=
  let c := s.canCh n
  if !s.sourcesRun || s.canMode n = 0 || s.canStat n CanStat.outOfService || (bitAt id 30 && !s.canFd n) then (s, false)
  else match c.freeSlot with
    | none => (s, false)
    | some i =>
      let t : TxSlot := { idx := i, seq := c.txSeq, node := true, id := id, rtr := false, brs := brs, oneShot := false,
                          report := false, dlc := BitVec.ofNat 4 dlc, tag := 0, data := data }
      (s.updCan n (fun c => { c with slots := c.slots ++ [t], txSeq := c.txSeq + 1 }), true)

/-! ## On and off the bus (R376, R388, Table 13-2) -/

/-- Leaving the bus clears the ACK-error count and LONELY (R389). -/
def State.canQuiet (s : State) (n : Nat) : State :=
  (s.setReg (Reg.CAN_NOACK_RUN n) 0).setCanStat n CanStat.lonely false

/-- Bus-off recovery begins (R388). -/
def State.canRecover (s : State) (n : Nat) : State := s.setCanStat n CanStat.recovering true

/-- A channel goes on the bus: it integrates first, unless the relation of its two rates keeps it off (R376, R377). -/
def State.canJoin (s : State) (n : Nat) : State :=
  if s.canMode n = 0 || s.canStat n CanStat.outOfService || s.canStat n CanStat.hostOff || s.canOn n then s
  else if s.canFd n && s.canBrs n && decide (nominalQuanta (s.reg (Reg.CAN_NBT n)) < dataQuanta (s.reg (Reg.CAN_DBT n))) then
    s.setCanStat n CanStat.timingErr true
  else if 255 < (s.canCh n).tecCnt then
    -- A channel that left the bus in bus-off is in bus-off still.
    let s := s.setCanBus n 3
    if s.rbit (Reg.CAN_CFG n) 6 then s.canRecover n else s
  else s.setCanStat n CanStat.integrating true

/-- A channel that has no frame in progress leaves the bus; a BUS_OFF that waited for it completes (R404). -/
def State.canOff (s : State) (n : Nat) : State :=
  let s := (((s.setCanBus n 0).setCanStat n CanStat.integrating false).setCanStat n CanStat.recovering false).canQuiet n
  match (s.canCh n).busOffWait with
  | none => s
  | some (tag, irq) =>
    (s.updCan n (fun c => { c with busOffWait := none })).finish tag irq 0x41 Status.ok ((s.canStatusView n).zeroExtend 64)

/-- A cancel that waited for an attempt ends with it (R387). -/
def State.cancelEnds (s : State) (n : Nat) (sent : Bool) : State :=
  let cs := (s.canCh n).cancelling
  let s := s.updCan n (fun c => { c with cancelling := [] })
  cs.foldl (fun s c =>
    let k := c.cancelled + b2n (!sent)
    let m := c.sent + b2n sent
    let st := if m = 0 then Status.ok else if k = 0 then Status.late else Status.partial_
    s.finish c.tag c.irqNow 0x40 st (BitVec.ofNat 64 (k + 65536 * m))) s

/-- A channel in FAULT_HALT is off the bus at once, and no frame is pending (Table 13-2). A frame that a cancel waited for ends CANCELLED, another host frame ABORTED (DESIGN CHOICE, log entry 71). -/
def State.canHaltOne (s : State) (n : Nat) : State :=
  let s := ((s.rxFlush n).endFrames n TxSlot.cancel TxOut.cancelled).cancelEnds n false
  (s.endFrames n (fun _ => true) TxOut.aborted).canOff n

def State.canHalt (s : State) : State :=
  (List.range 8).foldl State.canHaltOne { s with canWalk := [], outlet := { s.outlet with pubCan := [] } }

/-- STOP, or BUS_OFF: host frames that are not in transmission end ABORTED, node frames are discarded, and the channel leaves once its frame in progress has ended. -/
def State.canLeave (s : State) (n : Nat) : State :=
  let s := s.endFrames n (fun t => !t.inTx) TxOut.aborted
  if (s.canCh n).slots.isEmpty then s.canOff n else s

/-- Entry to RUN (Table 13-2). -/
def State.canStart (s : State) : State := (List.range 8).foldl State.canJoin s

/-- The end of RUN: what CAN_CHANNEL_CTL set lasts no longer (R404). -/
def State.canStop (s : State) : State :=
  (List.range 8).foldl (fun s n =>
    let s := ((s.setCanStat n CanStat.hostOff false).setCanStat n CanStat.monitorOvr false).setCanStat n CanStat.timingErr false
    (s.updCan n (fun c => { c with term := none })).canLeave n) s

/-- The activation pause: a channel with no frame in progress is off the bus, and its frames are kept (Table 13-2). -/
def State.canPause (s : State) : State :=
  (List.range 8).foldl (fun s n => if (s.canCh n).slots.any TxSlot.inTx then s else s.canOff n) s

/-! ## Error confinement (R388, ISO 11898-1) -/

/-- The state that TEC and REC give. -/
def errState (tec rec : Nat) : Nat := if 255 < tec then 3 else if 127 < tec || 127 < rec then 2 else 1

/-- TEC and REC changed on a channel that is on the bus, with the entries into error passive and bus-off. -/
def State.setErr (s : State) (n tec rec : Nat) : State :=
  let old := s.canBus n
  let s := s.updCan n (fun c => { c with tecCnt := min tec 256, recCnt := min rec 255 })
  let st := errState tec rec
  let s := s.setCanBus n st
  if st = 3 then
    let s := ((s.bump (Reg.CAN_BUSOFF_CNT n)).raise (Reg.CAN_EVT n) 1).canQuiet n
    let s := s.endFrames n (fun t => !t.inTx && s.oneShot n t) TxOut.busOff
    if s.rbit (Reg.CAN_CFG n) 6 then s.canRecover n else s
  else if st = 2 && old != 2 then s.raise (Reg.CAN_EVT n) 2
  else s

/-- An error frame signalled or observed, with its code. -/
def State.errFrame (s : State) (n code : Nat) (dataPhase : Bool) : State :=
  (s.bump (Reg.CAN_ERR_FRAME_CNT n)).setReg (Reg.CAN_LAST_ERR n) (packU32 [(code, 0), (b2n dataPhase, 3)])

end Sys2Proof.Machine
end

