-- ==== Sys2Proof/Machine/Journal.lean ====
section
/-! DEFINITION. Spawn's journal ring and its triggers (R325, R334-R337): what admission, released events and TMO edges do to a capture. -/

namespace Sys2Proof.Machine

/-- SPAWN_STATUS.MODE: 0 = OFF, 1 = CONTINUOUS, 2 = WINDOW. -/
def State.capMode (s : State) : Nat := s.rfld Reg.SPAWN_STATUS 0 2

/-- SPAWN_STATUS.CAPTURE (Table 11-16). -/
abbrev Cap.idle : Nat := 0
abbrev Cap.armed : Nat := 1
abbrev Cap.snapshot : Nat := 2
abbrev Cap.recording : Nat := 3
abbrev Cap.postTrigger : Nat := 4
abbrev Cap.frozen : Nat := 5
abbrev Cap.done : Nat := 6

def State.capState (s : State) : Nat := s.rfld Reg.SPAWN_STATUS 2 3
def State.setCap (s : State) (c : Nat) : State := s.setRegFld Reg.SPAWN_STATUS 2 3 c

/-- A capture is armed or running: its state is neither IDLE nor DONE. -/
def State.capturing (s : State) : Bool := s.capState != Cap.idle && s.capState != Cap.done

def State.updSpawn (s : State) (f : Spawn → Spawn) : State := { s with spawn := f s.spawn }

/-- Journal bytes held. -/
def Spawn.fill (p : Spawn) : Nat := (p.ring.map List.length).sum

/-- Post-trigger bytes that freeze the ring (R337). -/
def State.postLimit (s : State) : Nat :=
  (s.reg Reg.SPAWN_RING_SIZE).toNat * (100 - s.rfld Reg.SPAWN_CFG 12 7) / 100

/-- The window has its post-trigger bytes: later records are not journalled. -/
def State.windowFull (s : State) : Bool := s.spawn.triggered && decide (s.postLimit ≤ s.spawn.post)

/-- The oldest bytes overwritten so that `excess` fewer bytes are held. -/
def overwrite : List (List Byte) → Nat → Bool → List (List Byte) × Bool
  | [], _, _ => ([], false)
  | r :: l, excess, torn =>
    if excess = 0 then (r :: l, torn)
    else if r.length ≤ excess then overwrite l (excess - r.length) false
    else (r.drop excess :: l, true)

/-- Bytes of the staging area, and where the Spawn share of the capture begins in Tarn (R333). -/
abbrev stagingSize : Nat := 2637824
def State.shareBase (s : State) : Off := Tarn.ELASTIC + (18 - s.spawn.share) * 2 ^ 20

/-- Bytes put in the journal ring: CONTINUOUS appends, WINDOW overwrites the oldest bytes (Table 11-7). -/
def State.ringPut (s : State) (rec : List Byte) : State :=
  let ring := s.spawn.ring ++ [rec]
  let fill := s.spawn.fill + rec.length
  let cap := (s.reg Reg.SPAWN_RING_SIZE).toNat
  let cut := if s.capMode = 2 then overwrite ring (fill - cap) s.spawn.torn else (ring, s.spawn.torn)
  let s := s.lineWritten (s.shareBase + stagingSize + s.spawn.wrote % cap) rec.length
  let s := s.updSpawn (fun p => { p with ring := cut.1, torn := cut.2, wrote := p.wrote + rec.length })
  s.setPair Reg.SPAWN_LAST_ISN_LO Reg.SPAWN_LAST_ISN_HI (u64At rec 0)

/-- Bytes of the next buffer of a unit, whether it is the unit's last, and the ring and the unit behind it; a buffer is filled whole but for the last. -/
def Spawn.nextBuffer (p : Spawn) (u : SpawnUnit) : Option (List Byte × Bool × Spawn × SpawnUnit) :=
  if u.kind = 1 && !u.closed then
    let all := p.ring.flatten
    if all.length < 4096 then none
    else
      let cut := overwrite p.ring 4096 p.torn
      some (all.take 4096, false, { p with ring := cut.1, torn := cut.2 }, u)
  else if u.closed then
    some (u.bytes.take 4096, decide (u.bytes.length ≤ 4096), p, { u with bytes := u.bytes.drop 4096 })
  else none

/-- A buffer waits to be written, again or for the first time. -/
def State.bufReady (s : State) : Bool :=
  s.spawn.unwritten != 0 || (match s.spawn.units with | u :: _ => (s.spawn.nextBuffer u).isSome | [] => false)

/-- The ring has no room for `n` more bytes in CONTINUOUS mode, beside the 288 B of CHECKPOINT records that are due (R31, R326). -/
def State.ringFullFor (s : State) (n : Nat) : Bool :=
  s.capMode == 1 && s.spawn.journaling &&
    decide ((s.reg Reg.SPAWN_RING_SIZE).toNat < s.spawn.fill + (s.spawn.behind.map List.length).sum
      + (if s.spawn.ckptDue.isSome then 288 else 0) + n)

/-- Bytes that follow the trigger record are counted as they are journalled (R337). -/
def State.countPost (s : State) (n : Nat) : State :=
  if s.spawn.triggered then s.updSpawn (fun p => { p with post := p.post + n }) else s

/-- An admitted record enters the journal, behind the CHECKPOINT records of a TICK that still wait (R325, R326). -/
def State.journal (s : State) (rec : List Byte) : State :=
  if !s.spawn.journaling || s.windowFull then s
  else
  let s := s.countPost rec.length
  if s.spawn.ckptDue.isSome then s.updSpawn (fun p => { p with behind := p.behind ++ [rec] })
  else s.ringPut rec

/-- Bytes of the records after the one of a given ISN, its CHECKPOINT records among them. -/
def bytesAfter (isn : U64) : List (List Byte) → Nat
  | [] => 0
  | r :: l =>
    let at_ := (u64At r 0).toNat
    if decide (at_ < isn.toNat) || (at_ == isn.toNat && byteAt r 0x14 != Kind.checkpoint) then bytesAfter isn l
    else (r :: l).flatten.length

/-- A trigger of a WINDOW capture (R336, R337): the first one acts, later ones are counted as lost. -/
def State.trigger (s : State) (isn : U64) : State :=
  if s.capMode != 2 || !s.spawn.journaling then s
  else if s.spawn.triggered then s.bump Reg.SPAWN_TRIG_LOST_CNT
  else if s.capState = Cap.snapshot || s.capState = Cap.recording then
    let s := s.setPair Reg.SPAWN_TRIG_ISN_LO Reg.SPAWN_TRIG_ISN_HI isn
    let s := s.updSpawn (fun p => { p with triggered := true, post := bytesAfter isn ((if p.torn then p.ring.drop 1 else p.ring) ++ p.behind) })
    ((s.bump Reg.SPAWN_TRIG_CNT).setCap Cap.postTrigger).raise Reg.SPAWN_EVT 1
  else s

/-- The ISN of 64 bits, not after ISN_HWM, whose low word an event carries. -/
def State.fullIsn (s : State) (lo : U32) : U64 :=
  let d := s.inlet.isn.truncate 32 - lo
  s.inlet.isn - d.zeroExtend 64

/-- A rising edge of TMO k (Table 11-8). -/
def State.tmoTrigger (s : State) (k : Nat) : State :=
  if s.rbit Reg.SPAWN_TRIG_CFG (8 + k) then s.trigger s.inlet.isn else s

end Sys2Proof.Machine
end

