-- ==== Sys2Proof/Machine/Time.lean ====
section
/-! DEFINITION. The passing of CORE clocks (R408-R411), steps of the time (R412), and the timed outputs that follow it (R431-R433). -/

namespace Sys2Proof.Machine

/-! ## Timed outputs -/

def State.tmo (s : State) (k : Nat) : Tmo := Sparse.get { } s.ws.tmos k
def State.updTmo (s : State) (k : Nat) (f : Tmo → Tmo) : State :=
  { s with ws := { s.ws with tmos := Sparse.upd { } s.ws.tmos k f } }

/-- TMO_CFG.MODE: 0 = OFF, 1 = ONESHOT, 2 = PERIODIC. -/
def State.tmoMode (s : State) (k : Nat) : Nat := s.rfld (Reg.TMO_CFG k) 0 2
def State.tmoStart (s : State) (k : Nat) : Nat := (s.pair (Reg.TMO_START_LO k) (Reg.TMO_START_HI k)).toNat
def State.tmoPeriod (s : State) (k : Nat) : Nat := (s.reg (Reg.TMO_PERIOD k)).toNat
def State.tmoWidth (s : State) (k : Nat) : Nat := (s.reg (Reg.TMO_WIDTH k)).toNat

/-- The number of the first boundary START + n · PERIOD above a time. -/
def boundaryAbove (start period t : Nat) : Nat :=
  if t < start then 0 else (t - start) / period + 1

/-- The number of the first boundary at or after a time. -/
def boundaryFrom (start period t : Nat) : Nat :=
  if t ≤ start then 0 else (t - start + period - 1) / period

/-- The level of a TMO pin: TMO0-TMO3 with PIN_EN, in the polarity of TMO_CFG. -/
def State.tmoPin (s : State) (k : Nat) : State :=
  if k < 4 && s.rbit (Reg.TMO_CFG k) 3 then
    s.emitOut (.pin (["TMO0", "TMO1", "TMO2", "TMO3"].getD k "") ((s.tmo k).level != s.rbit (Reg.TMO_CFG k) 2))
  else s

/-- A DIO channel takes its level from TMO k (R360): mode OUT, OWN_TYPE TMO route, this TMO. -/
def State.tmoRouted (s : State) (k : Nat) : Bool :=
  (List.range 64).any (fun c => s.rfld (Reg.DIO_CH_CFG c) 0 3 == 3 && s.rfld (Reg.DIO_CH_CFG c) 10 2 == 2 &&
    s.rfld (Reg.DIO_CH_OWNER c) 17 3 == k)

/-- The route bounds of R431, in either mode: WIDTH and PERIOD − WIDTH of at least 1 ms. -/
def State.tmoRouteOk (s : State) (k : Nat) : Bool :=
  decide (1000000 ≤ s.tmoWidth k) && decide (1000000 + s.tmoWidth k ≤ s.tmoPeriod k)

/-- A pulse begins: level, pin, route and Spawn trigger (R431). -/
def State.pulse (s : State) (k : Nat) : State :=
  let s := s.updTmo k (fun t => { t with level := true, fired := true, armed := false, began := s.ws.frc,
                                         routeErr := t.routeErr || (s.tmoRouted k && !s.tmoRouteOk k) })
  ((s.bump (Reg.TMO_PULSE_CNT k)).tmoPin k).tmoTrigger k

/-- TMO k's start or next boundary has been reached. -/
def State.tmoDue (s : State) (k : Nat) : Bool :=
  let t := s.tmo k
  match s.tmoMode k with
  | 1 => t.armed && !t.fired && decide (s.tmoStart k ≤ s.now.toNat)
  | 2 => decide (s.tmoStart k + t.next * s.tmoPeriod k ≤ s.now.toNat)
  | _ => false

/-- The pulse of a TMO that is due. -/
def State.tmoFire (s : State) (k : Nat) : State :=
  if s.tmoDue k then
    let s := s.pulse k
    if s.tmoMode k = 2 then s.updTmo k (fun t => { t with next := t.next + 1 }) else s
  else s

/-- The end of a pulse: ⌈WIDTH / 5⌉ FRC ticks after it began (R431). -/
def State.tmoEnd (s : State) (k : Nat) : State :=
  let t := s.tmo k
  if t.level && decide ((s.tmoWidth k + 4) / 5 ≤ s.ws.frc.toNat - t.began.toNat) then
    (s.updTmo k (fun t => { t with level := false })).tmoPin k
  else s

/-- One TMO at a step of the time from T to T′, forward where STEP is above 0 and backward where it is below (R433). -/
def State.tmoRevisit (s : State) (step : Int) (t t' : Nat) (k : Nat) : State :=
  let x := s.tmo k
  match s.tmoMode k with
  | 1 =>
    if x.armed && !x.fired && decide (0 < step) && decide (s.tmoStart k ≤ t') then
      ((s.pulse k).updTmo k (fun t => { t with late := true })).raise Reg.WS_EVT 0x80
    else s
  | 2 =>
    if step = 0 then s else
    let n := boundaryAbove (s.tmoStart k) (s.tmoPeriod k) t'
    let missed := if 0 < step then n - boundaryAbove (s.tmoStart k) (s.tmoPeriod k) t else 0
    ((s.updTmo k (fun x => { x with next := n })).bumpBy (Reg.TMO_MISSED_CNT k) missed).raise Reg.WS_EVT 0x100
  | _ => s

/-- TMO k armed or disarmed by a write of MODE in SETUP, or by TMO_ARM (R431). -/
def State.tmoArm (s : State) (k : Nat) : State :=
  match s.tmoMode k with
  | 1 => s.updTmo k (fun t => { t with armed := true, fired := false, late := false })
  | 2 => s.updTmo k (fun t => { t with armed := false, fired := false, late := false,
                                       next := boundaryFrom (s.tmoStart k) (s.tmoPeriod k) s.now.toNat })
  | _ => (s.updTmo k (fun t => { t with armed := false, fired := false, late := false, level := false })).tmoPin k

/-! ## Steps and switches -/

/-- The consequences of a step or a mode change (R412, R433). -/
def State.stepped (s : State) (step : Int) (modeChange : Bool) (t : U64) : State :=
  let s := if decide (step < 0) || modeChange then { s with ws := { s.ws with epoch := s.ws.epoch + 1 } } else s
  let s := if step = 0 then s else
    (s.setPair Reg.WS_LAST_STEP_LO Reg.WS_LAST_STEP_HI (ofInt 64 step)).bump Reg.WS_STEP_CNT
  let ev := b2n (decide (step < 0)) + 2 * b2n (decide (0 < step)) + 4 * b2n modeChange
  let s := if ev = 0 then s else s.raise Reg.WS_EVT ev
  (List.range 8).foldl (fun s k => s.tmoRevisit step t.toNat s.now.toNat k) s

/-- A switch takes place now (R411); one that a host has armed waits on. -/
def State.doSwitch (s : State) (sw : Switch) : State :=
  let t := s.now
  let t' := t + ofInt 64 sw.step
  let change := s.ws.normal != sw.normal
  let ws := s.ws
  let ws := if sw.normal then
      { ws with normal := true, rate := sw.rate,
                offset := t' - BitVec.ofNat 64 (ws.frc.toNat * sw.rate.toNat / 2 ^ 56) }
    else { ws with normal := false, inc := sw.inc, counter := t' ++ (0 : U32) }
  State.stepped { s with ws := ws } sw.step change t

/-- The counters after `n` CORE clocks without a switch (R408, R410). -/
def Wellspring.clocks (w : Wellspring) (n : Nat) : Wellspring :=
  { w with frc := w.frc + BitVec.ofNat 64 n, counter := w.counter + BitVec.ofNat 96 (w.inc.toNat * n) }

/-- The quality after a host's switch (R413, R429): TO_NORMAL gives PTP_LOCKED, TO_INCREMENT gives INCREMENT_MODE, another restores what the host gave. A switch that meets the node servo again finds it FREE, and NORMAL is then HOLDOVER (Table 14-3). -/
def Wellspring.switched (w : Wellspring) (host : Bool) (func : Nat) : Wellspring :=
  match func with
  | 3 => { w with quality := if host then 2 else 3, hostQuality := 2 }
  | 4 => { w with quality := 4 }
  | _ => { w with quality := if host then w.hostQuality else 3 }

/-- The armed switch is applied at its instant, and the TIME_ADJ that armed it completes with the FRC (R430). -/
def State.applySwitch (s : State) (sw : Switch) : State :=
  let s := s.doSwitch sw
  let s := { s with ws := { s.ws.switched (s.rbit Reg.WS_CTL 0) sw.func with armed := none } }
  match sw.cmd with
  | none => s
  | some (tag, irq) => s.finish tag irq 0x75 (if sw.late then Status.late else Status.ok) s.ws.frc

/-- `n` CORE clocks pass; an armed switch takes place at its instant. -/
def State.elapse (s : State) (n : Nat) : State :=
  match s.ws.armed with
  | some sw =>
    let d := (sw.at_ - s.ws.frc).toNat
    if d ≤ n then
      let s := State.applySwitch { s with ws := s.ws.clocks d } sw
      { s with ws := s.ws.clocks (n - d) }
    else { s with ws := s.ws.clocks n }
  | none => { s with ws := s.ws.clocks n }

end Sys2Proof.Machine
end

