-- ==== Sys2Proof/Machine/Operands.lean ====
section
/-! DEFINITION. The operand forms: command descriptors (Table 4-5), point and group configuration records with their rules (Tables 7-1 to 7-4, 8-1 to 8-6), and FANOUT (Table 7-8). -/

namespace Sys2Proof.Machine

/-! ## Command descriptors (R117) -/

/-- A CMD descriptor: OPCODE, FLAGS, TAG and its 64 bytes. -/
structure Desc where
  opcode : Nat
  fence : Bool
  irqNow : Bool
  force : Bool
  tag : U32
  raw : List Byte
  deriving DecidableEq, Repr

def Desc.ofBytes (l : List Byte) : Desc :=
  let fl := u16At l 2
  { opcode := leAt l 0 2, fence := bitAt fl 0, irqNow := bitAt fl 1, force := bitAt fl 2,
    tag := u32At l 4, raw := fit 64 l }

/-- An argument field, at its offset in the descriptor. -/
def Desc.arg (d : Desc) (o n : Nat) : Nat := leAt d.raw o n

/-- Every byte of [o, o + n) is zero. -/
def Desc.resv (d : Desc) (o n : Nat) : Bool := allZero (slice d.raw o n)

/-- A host address that must be aligned to 64 B. -/
def Desc.aligned (d : Desc) (o : Nat) : Bool := d.arg o 8 % 64 == 0

/-! ## Point configuration (Tables 7-1, 7-2) -/

structure PCfg where
  srcType : Nat
  srcIndex : Nat
  enable : Bool
  invert : Bool
  latch : Bool
  faultAlarm : Bool
  rate : Bool
  custody : Bool
  panel : Bool
  gain : F32
  offset : F32
  thLL : F32
  thL : F32
  thH : F32
  thHH : F32
  hyst : F32
  rateLimit : F32
  onDelay : Nat
  offDelay : Nat
  group : Nat
  prio : Nat
  thEn : Byte
  blockSrc : U32
  blockDelay : Nat
  shelveMax : Nat
  raw : List Byte
  deriving DecidableEq, Repr

def PCfg.ofBytes (l : List Byte) : PCfg :=
  let src := u32At l 0
  { srcType := fld src 28 4, srcIndex := fld src 8 20, enable := bitAt src 0, invert := bitAt src 1,
    latch := bitAt src 2, faultAlarm := bitAt src 3, rate := bitAt src 4, custody := bitAt src 5, panel := bitAt src 6,
    gain := u32At l 4, offset := u32At l 8, thLL := u32At l 0xC, thL := u32At l 0x10, thH := u32At l 0x14,
    thHH := u32At l 0x18, hyst := u32At l 0x1C, rateLimit := u32At l 0x20, onDelay := leAt l 0x24 2,
    offDelay := leAt l 0x26 2, group := leAt l 0x28 1, prio := leAt l 0x29 1, thEn := byteAt l 0x2B,
    blockSrc := u32At l 0x2C, blockDelay := leAt l 0x30 2, shelveMax := leAt l 0x32 2, raw := l }

/-- Types 2, 5 and 6 make digital points (R206). -/
def PCfg.digital (c : PCfg) : Bool := c.srcType == 2 || c.srcType == 5 || c.srcType == 6

/-- Types 1, 3, 4 and 7 make analog points (R206). -/
def PCfg.analog (c : PCfg) : Bool := c.srcType == 1 || c.srcType == 3 || c.srcType == 4 || c.srcType == 7

/-- SRC_INDEX lies in the range of its type (Table 7-3). -/
def srcRange (type index : Nat) : Bool :=
  match type with
  | 0 => index == 0
  | 1 => decide (index < 256)
  | 2 => decide (index < 64)
  | 3 => decide (index < 16)
  | 4 => decide (index < 32768)
  | 5 => decide (index < 81920)
  | 6 => decide (index < 256)
  | 7 => index == 0
  | _ => false

/-- A list of values in strictly rising order. -/
def rising : List F32 → Bool
  | a :: b :: l => F32.lt a b && rising (b :: l)
  | _ => true

/-- BLOCK_SRC's word is well formed: rule 9 of Table 7-4 but for the point itself. -/
def blockWordOk (w : U32) : Bool :=
  (fld w 0 17 == 0x1FFFF || decide (fld w 0 17 < 81920)) && decide (fld w 17 3 < 4) && fld w 20 12 == 0

/-- The rules of Table 7-4 other than CRC, for point p. -/
def PCfg.rulesOk (c : PCfg) (p : Nat) : Bool :=
  let en := fun i => bitAt c.thEn i
  let levels := (if en 0 then [c.thLL] else []) ++ (if en 1 then [c.thL] else []) ++
    (if en 2 then [c.thH] else []) ++ (if en 3 then [c.thHH] else [])
  srcRange c.srcType c.srcIndex
    -- A point type that reads another point does not name itself (Table 7-3).
    && !(c.srcType == 5 && c.srcIndex == p)
    && !bitAt (u32At c.raw 0) 7 && !(c.invert && c.analog)
    && F32.isFinite c.gain && F32.isFinite c.offset && F32.isFinite c.hyst && F32.le 0 c.hyst
    && levels.all F32.isFinite && rising levels
    && !(c.digital && (c.thEn != 0 || c.rate))
    && !(c.rate && fld c.thEn 0 4 != 0) && !(en 4 && !c.rate)
    && !(en 4 && (!F32.isFinite c.rateLimit || F32.eq c.rateLimit 0))
    && decide (c.prio ≤ 3) && fld c.thEn 5 3 == 0
    && blockWordOk c.blockSrc && fld c.blockSrc 0 17 != p
    && leAt c.raw 0x3A 2 == 0

/-- A record is valid (R207). -/
def PCfg.valid (c : PCfg) (p : Nat) : Bool := c.rulesOk p && crcOk c.raw 64

/-- Point p's configuration record as an engine reads it. -/
def State.pcfg (s : State) (p : Nat) : PCfg := PCfg.ofBytes (s.tarnSee (Tarn.POINT_CFG + 64 * p) 64)

/-- The point is not DISABLED by its configuration (R206). -/
def PCfg.on (c : PCfg) : Bool := c.srcType != 0 && c.enable

/-- A point state code of an alarm: LL, L, H, HH or RATE (R360, R247). -/
def alarmCode (st : Byte) : Bool := st == 2 || st == 3 || st == 4 || st == 5 || st == 6

/-- STATE is an alarm state of Table 7-7. -/
def PCfg.alarm (c : PCfg) (st : Byte) : Bool := alarmCode st || (st == 7 && c.faultAlarm)

/-- What an engine reads of a configuration record: of one that is not valid, no field (R225). -/
def PCfg.read (c : PCfg) (p : Nat) : PCfg := if c.valid p then c else PCfg.ofBytes (zeros 64)

/-! ## FANOUT (R210, R211) -/

/-- Tarn offset of the head of a source (Table 7-8). -/
def headOffset (type index : Nat) : Off :=
  match type with
  | 1 => Tarn.FANOUT + 8 * index
  | 2 => Tarn.FANOUT + 0x800 + 8 * index
  | 3 => Tarn.FANOUT + 0xA00 + 8 * index
  | _ => Tarn.FANOUT + 0x1000 + 8 * index

abbrev Tarn.FAN_LIST : Off := 0xA41000

/-- The list entries of a source, up to the end of the list area (R211). -/
def State.fanout (s : State) (type index : Nat) : List Nat :=
  let h := s.tarnSee (headOffset type index) 8
  let lo := leAt h 0 4
  let n := min (leAt h 4 2) (195584 - lo)
  (chunks 4 (s.tarnSee (Tarn.FAN_LIST + 4 * lo) (4 * n))).map (fun e => leNat e % 2 ^ 17)

/-! ## Group configuration (Tables 8-1 to 8-3) -/

structure GStage where
  outMask : U64
  canId : U32
  canCh : Nat
  accType : Nat
  accIndex : Nat
  deriving DecidableEq, Repr

structure GCfg where
  gctl : U32
  prio : Nat
  nStages : Nat
  dmDi : Nat
  blockSrc : U32
  blockDelay : Nat
  floodN : Nat
  floodWindow : Nat
  tAccept : Nat
  tAll : Nat
  canRepeat : Nat
  dmPeriod : Nat
  dmWarn : Nat
  bridgeId : U32
  bridgeMask : U64
  warnMask : U64
  bridgeCh : Nat
  stages : List GStage
  raw : List Byte
  deriving DecidableEq, Repr

def GStage.ofBytes (l : List Byte) : GStage :=
  { outMask := u64At l 0, canId := u32At l 8, canCh := leAt l 0xC 1, accType := leAt l 0xD 1, accIndex := leAt l 0xE 2 }

def GCfg.ofBytes (l : List Byte) : GCfg :=
  { gctl := u32At l 0, prio := leAt l 4 1, nStages := leAt l 6 1, dmDi := leAt l 7 1, blockSrc := u32At l 8,
    blockDelay := leAt l 0xC 2, floodN := leAt l 0xE 2, floodWindow := leAt l 0x10 2, tAccept := leAt l 0x12 2,
    tAll := leAt l 0x14 2, canRepeat := leAt l 0x16 2, dmPeriod := leAt l 0x18 2, dmWarn := leAt l 0x1A 2,
    bridgeId := u32At l 0x1C, bridgeMask := u64At l 0x20, warnMask := u64At l 0x28, bridgeCh := leAt l 0x30 1,
    stages := (List.range 6).map (fun k => GStage.ofBytes (slice l (0x40 + 16 * k) 16)), raw := l }

def GCfg.enable (c : GCfg) : Bool := bitAt c.gctl 0
def GCfg.callEn (c : GCfg) : Bool := bitAt c.gctl 1
def GCfg.deadman (c : GCfg) : Bool := bitAt c.gctl 2
def GCfg.recall (c : GCfg) : Bool := bitAt c.gctl 3

/-- Stages 1 to N_STAGES (R244). -/
def GCfg.used (c : GCfg) : List GStage := c.stages.take c.nStages

/-- A CAN identifier of Table 8-3 is well formed (rule 5 of Table 8-6). -/
def callIdOk (id : U32) : Bool := !bitAt id 31 && (bitAt id 29 || decide (fld id 0 29 ≤ 0x7FF))

def callChOk (ch : Nat) : Bool := decide (ch < 8) || ch == 0xFF

def GStage.rulesOk (g : GStage) : Bool :=
  decide (g.accType ≤ 2) &&
    (g.accType != 0 || g.accIndex == 0) && (g.accType != 1 || decide (g.accIndex < 64)) &&
    (g.accType != 2 || decide (g.accIndex < 32768)) &&
    callChOk g.canCh && callIdOk g.canId

/-- The rules of Table 8-6 other than CRC. -/
def GCfg.rulesOk (c : GCfg) : Bool :=
  decide (c.prio ≤ 3) && inRange 1 6 c.nStages && inRange 10 3600 c.tAccept && inRange 10 3600 c.tAll
    && decide (c.canRepeat ≤ 600) && decide (c.floodN ≤ 1000) && (c.floodN == 0 || inRange 1 600 c.floodWindow)
    && (if c.deadman then inRange 180 1800 c.dmPeriod && decide (c.dmWarn < c.dmPeriod) && decide (c.dmDi ≤ 63)
        else c.dmDi == 0xFF)
    && c.used.all GStage.rulesOk && callChOk c.bridgeCh && callIdOk c.bridgeId
    && blockWordOk c.blockSrc
    && fld c.gctl 4 28 == 0 && byteAt c.raw 5 == 0 && allZero (slice c.raw 0x31 15)
    && leAt c.raw 0xA2 2 == 0 && leAt c.raw 0xA8 4 == 0

/-- A group configuration is valid (R253). -/
def GCfg.valid (c : GCfg) : Bool := c.rulesOk && crcOk c.raw 0xB0

/-- Group g's configuration as an engine reads it. -/
def State.gcfg (s : State) (g : Nat) : GCfg := GCfg.ofBytes (s.tarnSee (Tarn.GROUPS + 256 * g) 0xB0)

end Sys2Proof.Machine
end

