-- ==== Sys2Proof/Machine/Twin.lean ====
section
/-! DEFINITION. What Skink does to the engines: records it offers, failures, the hold (R298-R316). The steps themselves are in Skink.lean. -/

namespace Sys2Proof.Machine

def State.updSkink (s : State) (f : Skink → Skink) : State := { s with skink := f s.skink }

/-- SVC of Table 10-3: AE-A in [3:0], AE-B in [7:4]. -/
def State.svcByte (s : State) : Nat := s.aeA.svc + 16 * s.aeB.svc

/-- PAYLOAD of a RESYNC record (Table 10-3). -/
def State.resyncPayload (s : State) (func cause : Nat) (arg : U32) : U64 :=
  BitVec.ofNat 64 (func + s.holderCode * 2 ^ 8 + s.svcByte * 2 ^ 16 + cause * 2 ^ 24 + arg.toNat * 2 ^ 32)

abbrev Resync.status : Nat := 0
abbrev Resync.copy : Nat := 1
abbrev Resync.audit : Nat := 2
abbrev Resync.diverge : Nat := 3
abbrev Resync.repair : Nat := 4

/-- Skink offers a RESYNC record; in REPLAY it offers none (R344). -/
def State.offerResync (s : State) (func cause : Nat) (arg : U32) : State :=
  if s.sourcesRun then
    s.offer Place.skink { time := s.now, source := mkSource 7 0, kind := Kind.resync,
                          payload := s.resyncPayload func cause arg }
  else s

/-- A STATUS record that waits for admission takes the state after a further change (R306). -/
def mergeStatus (pay : U64) (cause : Nat) : List (Nat × InRec) → Option (List (Nat × InRec))
  | [] => none
  | (pl, r) :: l =>
    if pl = Place.skink && r.kind = Kind.resync && r.pay 0x18 1 = Resync.status then
      let old := r.pay 0x1B 1
      some ((pl, { r with payload := setFld pay 24 8 (if cause = 0 then old else cause) }) :: l)
    else (mergeStatus pay cause l).map ((pl, r) :: ·)

/-- A change of holder or of a service state is reported (R306), the record that the next admission takes among those it may join. -/
def State.offerStatus (s : State) (cause : Nat) : State :=
  match s.inlet.reveal.bind (fun r => mergeStatus (s.resyncPayload Resync.status cause 0) cause [(Place.skink, r)]) with
  | some ((_, r) :: _) => { s with inlet := { s.inlet with reveal := some r } }
  | _ =>
  match mergeStatus (s.resyncPayload Resync.status cause 0) cause s.inlet.waiting with
  | some w => { s with inlet := { s.inlet with waiting := w } }
  | none => s.offerResync Resync.status cause 0

/-- The hold leaves an engine: its time held is kept (AE_HOLD_TIME). -/
def State.releaseHold (s : State) : State :=
  match s.skink.holder with
  | none => s
  | some h =>
    let s := s.updEng h (fun x => { x with heldClocks := x.heldClocks + (s.frcNat - x.holdSince) })
    s.updSkink (fun k => { k with holder := none, handover := true, handStart := s.frcNat })

/-- The arbiter grants the hold (R299, R311). -/
def State.grantHold (s : State) (e : EngineId) : State :=
  let s := s.recordMax Reg.SKINK_HANDOVER_MAX (if s.skink.handover then (s.frcNat - s.skink.handStart) * 5 else 0)
  let s := s.updEng e (fun x => { x with holdSince := s.frcNat, proved := false, handReq := false })
  s.updSkink (fun k => { k with holder := some e, handover := false })

/-- The engine that a rule about "the non-holder" fails (R301). -/
def State.nonHolder (s : State) : Option EngineId :=
  if s.bothServe then
    match s.skink.holder with
    | some h => some (other h)
    | none => some .B
  else none

/-- 3,600 s of CORE clocks (R315). -/
abbrev failWindow : Nat := 3600 * 200000000

/-- A failure is recorded (R301, R315): the third within 3,600 s takes the engine OFFLINE. -/
def State.recordFailure (s : State) (e : EngineId) (cause : Nat) : State :=
  let x := s.eng e
  let times := s.frcNat :: x.failTimes.filter (fun t => decide (s.frcNat - t < failWindow))
  let off := decide (3 ≤ times.length) || x.svc == Svc.offline
  let s := s.setEng e { x with svc := if off then Svc.offline else Svc.failed, lastCause := cause,
                               failTimes := times, proved := false, handReq := false, evq := [], evWait := [], stopped := false }
  let s := s.setPair (Reg.AE_FAIL_ISN_LO (engIx e)) (Reg.AE_FAIL_ISN_HI (engIx e)) x.evalIsn
  let s := (s.bump (Reg.AE_FAIL_CNT (engIx e))).raise Reg.SKINK_EVT (4 + if off then 0x10 else 0)
  s

/-- Some engine has evaluated the record of an ISN. -/
def State.someEvaluated (s : State) (isn : U64) : Bool :=
  decide (isn.toNat ≤ s.aeA.evalIsn.toNat) || decide (isn.toNat ≤ s.aeB.evalIsn.toNat)

/-- An engine that left service is waited for by no command (R120): what every engine still in service has evaluated completes. A command whose record no engine has evaluated when the last one leaves completes with STATE, for the node goes to FAULT_HALT: R120 names no status for it (DESIGN CHOICE, log entry 65). -/
def State.dropWaiter (s : State) (e : EngineId) : State :=
  let rs := s.hif.running.map (fun r => { r with left := r.left.filter (· != e) })
  let isDone := fun r : Running => !r.dir && r.left.isEmpty
  let s := { s with hif := { s.hif with running := rs.filter (fun r => !isDone r) } }
  (rs.filter isDone).foldl
    (fun s r => if s.someEvaluated r.isn then s.closeRunning r
                else s.complete r.tag r.irqNow r.opcode.toNat Status.state 0) s

/-- Commands taken and not admitted, and seal requests not admitted, complete with STATE (R94). -/
def State.refuseTaken (s : State) (units : List CmdUnit) : State :=
  let s := units.foldl (fun s u => s.complete u.tag (bitAt u.flags 1) u.opcode.toNat Status.state 0) s
  (s.hif.running.filter (fun r => r.dir && r.opcode == 0x72)).foldl
    (fun s r => s.finish r.tag r.irqNow 0x72 Status.state 0) s

/-- The abandoned mark of a snapshot: a new one is wanted, and what was journalled from the old one on belongs to no snapshot. -/
def Spawn.dropMark (p : Spawn) (isn : U64) : Spawn :=
  let before := fun (l : List (List Byte)) => l.filter (fun b => decide ((u64At b 0).toNat < isn.toNat))
  { p with
    staging := none, snapping := false, markWanted := true, journaling := false, behind := [],
    ckptDue := p.ckptDue.filter (fun c => decide (c.1.toNat < isn.toNat))
    ring := if p.torn then p.ring.take 1 ++ before (p.ring.drop 1) else before p.ring
    units := p.units.map (fun u => if u.kind = 2 && !u.closed then { u with bytes := u.bytes.take 288 } else u) }

/-- A mark that Inlet has not admitted. -/
def State.markWaits (s : State) : Bool :=
  s.inlet.waiting.any (fun w => w.2.kind == Kind.mark) || s.inlet.reveal.any (fun r => r.kind == Kind.mark)

/-- A snapshot whose source leaves service before its copy is complete is taken again from a new mark (R332); its first mark, when it still waits for admission, begins no snapshot, and the journal stops at it (DEDUCED, log entry 70). -/
def State.snapRetry (s : State) (e : EngineId) (source : Bool) : State :=
  let src := match s.spawn.staging with | some (x, _) => x == e | none => source
  let copied := match s.spawn.staging with
    | some (_, _, _, isn) => s.spawn.units.any (fun u => u.snap == some isn)
    | none => false
  if !src || !s.spawn.snapping || copied then s
  else
    let s := if s.markWaits then s.updSpawn (fun p => { p with staging := none, snapping := false, markWanted := true })
             else s.updSpawn (fun p => p.dropMark (s.pair Reg.SPAWN_MARK_ISN_LO Reg.SPAWN_MARK_ISN_HI))
    s.bump Reg.SPAWN_SNAP_RETRY_CNT

/-- The engine, just out of service, was the source of snapshots: the holder, or the lower-numbered one when none held (R329). -/
def State.wasSource (s : State) (e : EngineId) : Bool :=
  match s.skink.holder with
  | some h => h == e
  | none => e == .A || !s.serves .A

/-- A state copy that an engine's failure ends (R316). -/
def State.abandonCopy (s : State) (e : EngineId) : State :=
  match s.skink.copy with
  | none => s
  | some c =>
    if c.source = e then
      (s.updEng c.target (fun x => { x with svc := Svc.failed })).updSkink (fun k => { k with copy := none })
    else if c.target = e then
      (s.updEng c.source (fun x => { x with stopped := false })).updSkink (fun k => { k with copy := none })
    else s

/-- What CTRL has taken and not completed when the node halts, for which no engine evaluates anything more: a command whose record some engine has evaluated completes as that evaluation found, every other one with STATE (R120, log entry 65). -/
def State.closeTaken (s : State) : State :=
  let rs := s.hif.running.filter (fun r => !r.dir)
  let us := s.inlet.cmds
  let s := { s with hif := { s.hif with running := s.hif.running.filter Running.dir }, inlet := { s.inlet with cmds := [] } }
  let s := rs.foldl (fun s r => if s.someEvaluated r.isn then s.closeRunning r
                                else s.complete r.tag r.irqNow r.opcode.toNat Status.state 0) s
  s.refuseTaken us

/-- Entry to FAULT_HALT (R37, R518): the cause and ISN_HWM are written once; a CONTINUOUS capture ends, for the node leaves RUN (R334), the lanes carry nothing (R174), and the CAN channels are off the bus with no frame pending (Table 13-2). -/
def State.haltNode (s : State) (cause engCause : Nat) : State :=
  if s.mgmt = Node.faultHalt then s else
  let s := (s.closeTaken.endContinuous.requestsEnd.lanesEnd Lane.halt).setReg Reg.MGMT_FAULT_CAUSE (packU32 [(cause, 0), (engCause, 8)])
  let s := s.setPair Reg.MGMT_FAULT_ISN_LO Reg.MGMT_FAULT_ISN_HI s.inlet.isn
  ((s.setMgmt Node.faultHalt).raise Reg.MGMT_EVT 0x10).canHalt

/-- An engine leaves service (R297, R304): the hold, the commands, the snapshot and the copy that depended on it. -/
def State.leaveService (s : State) (e : EngineId) (cause : Nat) : State :=
  let source := s.wasSource e
  let s := if s.skink.holder = some e then s.releaseHold else s
  let s := ((s.dropWaiter e).snapRetry e source).abandonCopy e
  let s := s.offerStatus cause
  if s.servers.isEmpty && s.running then s.haltNode 3 cause else s

/-- The engine is the target of a state copy (R312). -/
def State.isTarget (s : State) (e : EngineId) : Bool := s.skink.copy.any (fun c => c.target == e)

/-- An engine in service is failed (R301), or the target of a copy, which is then abandoned (R316); Outlet's releases follow in `State.failEngine`. -/
def State.failCore (s : State) (e : EngineId) (cause : Nat) : State :=
  if s.serves e then (s.recordFailure e cause).leaveService e cause
  else if s.isTarget e then ((s.recordFailure e cause).abandonCopy e).offerStatus cause
  else s

/-- A failure of an engine that is out of service already, recorded; it is reported where it changes the service state (R306, R315). -/
def State.failOut (s : State) (e : EngineId) (cause : Nat) : State :=
  let t := s.recordFailure e cause
  if (t.eng e).svc = (s.eng e).svc then t else t.offerStatus cause

/-- ARG of a DIVERGE record (Table 10-3). -/
def divergeArg (block first count origin : Nat) : U32 :=
  packU32 [(block, 0), (first, 7), (count, 17), (origin, 28)]

/-- A DIVERGE record is offered and outstanding, behind one that is so already (R307, R310). -/
def State.offerDiverge (s : State) (arg : U32) : State :=
  let clear := fun (x : Engine) => { x with report := none, reports := [] }
  let s := match s.skink.diverge with
    | none => { s.updSkink (fun k => { k with diverge := some arg }) with aeA := clear s.aeA, aeB := clear s.aeB }
    | some _ => s.updSkink (fun k => { k with diverges := k.diverges ++ [arg] })
  let s := s.setReg Reg.SKINK_LAST_DIVERGE arg
  ((s.bump Reg.SKINK_DIVERGE_CNT).raise Reg.SKINK_EVT 8).offerResync Resync.diverge 0 arg

/-- ARG of the DIVERGE that names one point (R310). -/
def pointDiverge (p : Nat) : U32 := divergeArg (p / 1024) (p % 1024) 1 1

/-- Outlet tells Skink of differing copies of a point event (R310). -/
def State.pointMismatch (s : State) (p : Nat) : State :=
  if !s.sourcesRun then s
  else if s.skink.diverge.isNone then s.offerDiverge (pointDiverge p)
  else if s.skink.mismatches.length < 16 then s.updSkink (fun k => { k with mismatches := k.mismatches ++ [p] })
  else match s.nonHolder with
    | some e => s.failCore e 9
    | none => s

/-- The oldest DIVERGE is no longer outstanding: an audit's behind it is the next to be resolved; when there is none, the next queued mismatch is offered, unless a resolution failed an engine (R310). -/
def State.divergeDone (s : State) (failed : Bool) : State :=
  let next := fun (x : Engine) => { x with report := x.reports.head?, reports := x.reports.drop 1 }
  let s := s.updSkink (fun k => { k with
    diverge := k.diverges.head?, diverges := k.diverges.drop 1, mismatches := if failed then [] else k.mismatches })
  let s := { s with aeA := next s.aeA, aeB := next s.aeB }
  if s.skink.diverge.isSome then s else
  match s.skink.mismatches with
  | [] => s
  | p :: l => (s.updSkink (fun k => { k with mismatches := l })).offerDiverge (pointDiverge p)

end Sys2Proof.Machine
end

