-- ==== Sys2Proof/Machine/Outlet.lean ====
section
/-! DEFINITION. Outlet: event records, the custody chain, the merge of the two engines' copies, the backlog and what a release hands to the receivers (R277-R294). -/

namespace Sys2Proof.Machine

/-! ## Event records (Tables 9-8, 9-9) -/

abbrev Ev.pointTransition : Byte := 1
abbrev Ev.ack : Byte := 2
abbrev Ev.groupState : Byte := 3
abbrev Ev.callState : Byte := 4
abbrev Ev.coalesceNotice : Byte := 5
abbrev Ev.epochChange : Byte := 6
abbrev Ev.engineHealth : Byte := 7
abbrev Ev.timeStep : Byte := 8
abbrev Ev.sourceGap : Byte := 9
abbrev Ev.custodySeal : Byte := 10
abbrev Ev.diverge : Byte := 11
abbrev Ev.firstOut : Byte := 12

/-- Bytes 0x00-0x17 of an event record, with ENGINE as given. -/
def Event.head (v : Event) (engine : Nat) : List Byte :=
  leBytes 8 (v.esn.toNat + v.type.toNat * 2 ^ 48 + engine * 2 ^ 56) ++ leBytes 8 v.time.toNat
    ++ leBytes 4 (v.pointId.toNat + v.quality.toNat * 2 ^ 23 + v.epoch.toNat * 2 ^ 26)
    ++ [v.stNew, v.stOld] ++ leBytes 2 v.sub.toNat

/-- The 32 bytes of an event record (Table 9-8); a seal's last eight are its MAC (Table 9-11). -/
def Event.bytesAs (v : Event) (engine : Nat) : List Byte :=
  v.head engine ++
    (if v.type = Ev.custodySeal then leBytes 8 v.mac.toNat else leBytes 4 v.value.toNat ++ leBytes 4 v.isnLo.toNat)

def Event.bytes (v : Event) : List Byte := v.bytesAs (engNo v.engine)

/-- The local index of the event's POINT_ID. -/
def Event.localIndex (v : Event) : Nat := v.pointId.toNat % 131072

/-- Point events: the class of Table 9-10, and the mismatches that a DIVERGE resolves (R310). -/
def Event.isPoint (v : Event) : Bool :=
  v.type == Ev.pointTransition || v.type == Ev.ack || v.type == Ev.coalesceNotice

/-- The ESN after another: the series continues at 1 after 2^48 − 1 (R266). -/
def nextEsnOf (e : BitVec 48) : BitVec 48 := if e + 1 = 0 then 1 else e + 1

/-- The custody chain takes an event of its engine (R290): a covered one is kept for the next seal, and a seal takes its MAC. -/
def Chain.take (c : Chain) (key : Option (List Byte)) (node : Nat) (v : Event) : Chain × Event :=
  if v.type = Ev.custodySeal then
    let m := match key with
      | none => 0
      | some k => u64At (hmac k (leBytes 8 c.mac.toNat ++ [BitVec.ofNat 8 node] ++ c.evs.flatten ++ v.head 0)) 0
    ({ mac := m, evs := [] }, { v with mac := m })
  else if v.custody then ({ c with evs := c.evs ++ [v.bytesAs 0] }, v)
  else (c, v)

def State.updOutlet (s : State) (f : Outlet → Outlet) : State := { s with outlet := f s.outlet }

def State.chain (s : State) : EngineId → Chain
  | .A => s.outlet.chainA
  | .B => s.outlet.chainB

def State.setChain (s : State) (e : EngineId) (c : Chain) : State :=
  match e with
  | .A => s.updOutlet (fun o => { o with chainA := c })
  | .B => s.updOutlet (fun o => { o with chainB := c })

/-- The chain as it stands when Outlet has taken every event the engine has emitted. -/
def State.chainNow (s : State) (e : EngineId) : Chain :=
  ((s.eng e).evq ++ (s.eng e).evWait).foldl (fun c v => (c.take s.nvm.custody s.streamNode v).1) (s.chain e)

/-! ## Backlog figures (R108, R282-R284) -/

/-- Backlog capacity in events: 32,768 to the MiB; a lowered quota counts at once, a raised one when applied (R506). -/
def State.backlogCap (s : State) : Nat := 32768 * min s.hif.elasticNow s.hif.elasticReq

def State.backlogFill (s : State) : Nat := s.outlet.backlog.length

/-- The lowest place of the backlog's part of the pool that holds no event: where the next goes (DESIGN CHOICE, log entry 84). -/
def State.freePlace (s : State) : Nat :=
  ((List.range (s.backlogFill + 1)).find? (fun k => !s.outlet.backlog.any (fun b => b.place == k))).getD s.backlogFill

/-- An event lies beyond the backlog's end: its quota was cut below its use (R506). -/
def State.backlogOver (s : State) : Bool := s.outlet.backlog.any (fun b => decide (s.backlogCap ≤ b.place))

/-- RELEASED_ESN: the lowest ESN still kept, or the next to be released (R282). -/
def State.releasedEsn (s : State) : BitVec 48 :=
  match s.outlet.backlog with
  | [] => s.outlet.nextRel
  | b :: _ => b.ev.esn

/-! ## Release (R280-R283) -/

/-- The copies that a receiver takes under OUT_DELIVER (R282). -/
def State.copiesFor (s : State) (sel : Nat) (cs : List Event) : List Event :=
  if sel = 0 then cs
  else
    let holders := cs.filter (fun v => s.skink.holder == some v.engine)
    let serving := cs.filter (fun v => s.serves v.engine)
    ((holders ++ serving ++ cs).take 1)

/-- Two copies are the same apart from ENGINE (R281). -/
def sameCopy (a b : Event) : Bool := decide ({ a with engine := .A } = { b with engine := .A })

/-- The legacy FIFO takes an ESN once (R132-R134). -/
def legEntry (v : Event) : List U32 :=
  let ns := v.time.toNat
  let b := leBytes 4 v.esn.toNat ++ leBytes 2 v.localIndex ++
    [v.stNew, if v.type = Ev.ack then 2 else 1] ++ leBytes 4 (ns / 1000000000) ++ leBytes 2 (ns / 1000000 % 1000)
  let b := b ++ leBytes 2 (crc16 b).toNat
  [u32At b 0, u32At b 4, u32At b 8, u32At b 12]

def State.legacyPut (s : State) (v : Event) : State :=
  if s.fmodeOn && s.mgmt != Node.replay && v.isPoint && decide (v.localIndex < 1024) then
    if s.outlet.legFifo.length < 256 then s.updOutlet (fun o => { o with legFifo := o.legFifo ++ [legEntry v] })
    else (s.bump Reg.LEG_EVT_OVF_CNT).raise Reg.LEG_EVT_STAT 1
  else s

/-- Copies selected for Ethernet and CAN publication are placed in release order (R293, R294); in REPLAY none is (R344). -/
def State.publish (s : State) (cs : List Event) : State :=
  if s.mgmt = Node.replay then s else
  let sel := fun (o : Off) (v : Event) => s.rbit o 0 && s.rbit o (8 + v.prio)
  let eth := (s.copiesFor (s.rfld Reg.OUT_DELIVER 2 2) cs).filter (sel Reg.PUB_ETH_CTL)
  let can := (s.copiesFor (s.rfld Reg.OUT_DELIVER 4 2) cs).filter (sel Reg.PUB_CAN_CTL)
  s.updOutlet (fun o => { o with pub := o.pub ++ eth, pubCan := o.pubCan ++ can })

/-- The point trigger's condition on a change (Table 11-11). -/
def trigCond (c : PCfg) (cond : Nat) (v : Event) : Bool :=
  v.stNew != v.stOld &&
    (cond == 0 || (cond == 1 && c.alarm v.stNew) || (cond == 2 && v.stNew == 7))

/-- A released event may trigger a window (Table 11-8). -/
def State.eventTrigger (s : State) (v : Event) : State :=
  let hit :=
    (v.type == Ev.diverge && s.rbit Reg.SPAWN_TRIG_CFG 1) ||
    (v.type == Ev.pointTransition && s.rbit Reg.SPAWN_TRIG_CFG 0 &&
      s.spawn.trigTable.any (fun t => fld t 0 17 == v.localIndex && trigCond ((s.pcfg v.localIndex).read v.localIndex) (fld t 17 2) v))
  if hit then s.trigger (s.fullIsn v.isnLo) else s

/-- What a release reports in registers: notices and seals. -/
def State.noteRelease (s : State) (v : Event) : State :=
  if v.type = Ev.coalesceNotice then s.bump Reg.OUT_NOTICE_CNT
  else if v.type = Ev.custodySeal then
    let s := s.setPair Reg.CUST_LAST_MAC_LO Reg.CUST_LAST_MAC_HI v.mac
    (s.setPair Reg.CUST_LAST_ESN_LO Reg.CUST_LAST_ESN_HI (v.esn.zeroExtend 64)).bump Reg.CUST_SEAL_CNT
  else s

/-- Differing copies (R281, R283, R310): recorded, and Skink is told. -/
def State.mismatch (s : State) (v : Event) : State :=
  let s := s.setPair Reg.OUT_MISMATCH_ESN_LO Reg.OUT_MISMATCH_ESN_HI (v.esn.zeroExtend 64)
  let s := (s.bump Reg.OUT_COPY_MISMATCH_CNT).raise Reg.OUT_EVT 2
  if v.isPoint then s.pointMismatch v.localIndex
  else match s.nonHolder with
    | some e => s.failCore e 9
    | none => s

/-- Copies held in the mismatch store (R283). -/
def State.mismatchHeld (s : State) : Nat := (s.outlet.backlog.filter (fun b => b.mismatch.isSome)).length

/-- The engine whose copy a full mismatch store gives up: the non-holder, or the one that has left service. -/
def State.dropsCopy (s : State) : Option EngineId :=
  s.nonHolder.orElse (fun _ => [EngineId.A, EngineId.B].find? (fun e => !s.serves e))

/-- In REPLAY Outlet takes no event while its backlog is full (R286). -/
def State.outletFull (s : State) : Bool := s.mgmt == Node.replay && decide (s.backlogCap ≤ s.backlogFill)

/-- One ESN is released with the copies that have arrived, AE-A's first. -/
def State.releaseOne (s : State) (m : Merge) : State :=
  let s := s.updOutlet (fun o => { o with nextRel := nextEsnOf m.esn, merge := o.merge.filter (fun x => x.esn != m.esn) })
  let cs := m.copies.filter (fun v => v.engine == .A) ++ m.copies.filter (fun v => v.engine == .B)
  match cs with
  | [] => s
  | v :: rest =>
    let differ := rest.any (fun w => !sameCopy v w)
    -- A full mismatch store fails the non-holder, and the ESN goes out from the other copy (R283).
    let out := if differ && decide (256 ≤ s.mismatchHeld) then s.dropsCopy else none
    let s := if differ then s.mismatch v else s
    let s := match out with | some e => s.failCore e 9 | none => s
    let cs := match out with | some e => cs.filter (fun w => w.engine != e) | none => cs
    let v := cs.headD v
    let takes := (s.copiesFor (s.rfld Reg.OUT_DELIVER 0 2) cs).map Event.engine
    let b : Backlog := { ev := v, mismatch := if differ then cs[1]? else none, place := s.freePlace, takes := takes }
    let s := (s.lineWritten (Tarn.ELASTIC + 32 * b.place) 32).updOutlet (fun o => { o with backlog := o.backlog ++ [b] })
    (((s.noteRelease v).legacyPut v).publish cs).eventTrigger v

/-- Every ESN in series that all engines in service have delivered is released (R280), but none is placed beyond the end of the backlog (R506). -/
def State.releaseReady : Nat → State → State
  | 0, s => s
  | n + 1, s =>
    match s.outlet.merge.find? (fun m => m.esn == s.outlet.nextRel) with
    | none => s
    | some m =>
      if !s.outletFull && decide (s.freePlace < s.backlogCap) && s.servers.all (fun e => m.copies.any (fun v => v.engine == e)) then
        State.releaseReady n (s.releaseOne m)
      else s

def State.release (s : State) : State := s.releaseReady s.outlet.merge.length

/-- An engine is failed, and Outlet stops waiting for it (R280, R301). -/
def State.failEngine (s : State) (e : EngineId) (cause : Nat) : State := (s.failCore e cause).release

/-- A copy joins its ESN's merge. -/
def addCopy (v : Event) : List Merge → List Merge
  | [] => [{ esn := v.esn, copies := [v] }]
  | m :: l => if m.esn = v.esn then { m with copies := m.copies ++ [v] } :: l else m :: addCopy v l

/-- The ESN has been released: it lies behind the next one to be released in the series. -/
def State.isReleased (s : State) (esn : BitVec 48) : Bool := decide (2 ^ 47 ≤ (esn - s.outlet.nextRel).toNat)

/-- The engine has handed over its oldest event; the freed credit goes to the one that has waited longest. -/
def Engine.handed (x : Engine) : Engine := { x with evq := x.evq.drop 1 ++ x.evWait.take 1, evWait := x.evWait.drop 1 }

/-- The oldest event of an engine's queue reaches Outlet, which discards it when its ESN has been released. -/
def State.takeCopy (s : State) (e : EngineId) : State :=
  match (s.eng e).evq with
  | [] => s
  | v :: _ =>
    let s := s.updEng e Engine.handed
    let (c, v) := (s.chain e).take s.nvm.custody s.streamNode v
    let s := s.setChain e c
    if s.isReleased v.esn then (s.bump Reg.OUT_LATE_COPY_CNT).raise Reg.OUT_EVT 4
    else s.updOutlet (fun o => { o with merge := addCopy v o.merge })

/-- An engine hands over its oldest event, and Outlet releases what is complete (R280, R286). -/
def State.copyArrives (s : State) (e : EngineId) : State := if s.outletFull then s else (s.takeCopy e).release

/-! ## Delivery to the event rings (R111, R279) -/

/-- The copy of an ESN that names one engine (R283). -/
def Backlog.copy (b : Backlog) (e : EngineId) : Event :=
  match b.mismatch with
  | some m => if m.engine = e then m else { b.ev with engine := e }
  | none => { b.ev with engine := e }

/-- The first entry of a priority with a copy unwritten gets one more written. -/
def writeNext (prio : Nat) : List Backlog → Option (Event × List Backlog)
  | [] => none
  | b :: l =>
    if b.ev.prio = prio && decide (b.written < b.takes.length) then
      some (b.copy (b.takes.getD b.written .A), { b with written := b.written + 1 } :: l)
    else (writeNext prio l).map (fun x => (x.1, b :: x.2))

/-- A released copy is written to its event ring when the ring has credit. -/
def State.deliver (s : State) (ring : Nat) : State :=
  if s.ringCredit ring = 0 then s else
  match writeNext (ring - 2) s.outlet.backlog with
  | none => s
  | some (v, l) => (s.updOutlet (fun o => { o with backlog := l })).postEntry ring v.bytes

/-- `n` more copies of a priority are consumed, oldest first. -/
def consumeCopies (prio : Nat) : Nat → List Backlog → List Backlog
  | _, [] => []
  | n, b :: l =>
    if b.ev.prio = prio then
      let k := min n (b.written - b.consumed)
      { b with consumed := b.consumed + k } :: consumeCopies prio (n - k) l
    else b :: consumeCopies prio n l

/-- The host has consumed `n` entries of an event ring: ESNs whose copies are all consumed leave the backlog (R111, R282), and those that waited for a place are released. -/
def State.eventsConsumed (s : State) (ring n : Nat) : State :=
  (s.updOutlet (fun o => { o with
    backlog := (consumeCopies (ring - 2) n o.backlog).filter (fun b => decide (b.consumed < b.takes.length)) })).release

/-- A re-enabled event ring takes its kept entries again (R111). -/
def State.eventsRewrite (s : State) (ring : Nat) : State :=
  s.updOutlet (fun o => { o with
    backlog := o.backlog.map (fun b => if b.ev.prio = ring - 2 then { b with written := b.consumed } else b) })

end Sys2Proof.Machine
end

