-- ==== Sys2Proof/Machine/Points.lean ====
section
/-! DEFINITION. Points: their state records, the emission of events within the backlog's room (R284, R285), inputs, threshold steps, delays, blocking, shelving and forcing (R208-R231). Each is one engine's evaluation of one record. -/

namespace Sys2Proof.Machine

/-! ## Emission (R277, R284) -/

/-- F of R284, from the last TICK evaluated. -/
def Engine.room (x : Engine) : Nat := x.tickCap.toNat - (x.nextEsn - x.tickRel).toNat

/-- Reserves of Table 9-10. -/
abbrev reservePoint : Nat := 4096
abbrev reserveGroup : Nat := 256

/-- The common fields of an event that record r causes (R277). -/
def State.baseEvent (s : State) (e : EngineId) (r : InRec) (type : Byte) (index : Nat) : Event :=
  let x := s.eng e
  { type := type, engine := e, time := r.time, pointId := s.sysId index,
    quality := if s.mgmt = Node.replay then 5 else x.tickQual, epoch := x.tickEpoch, isnLo := r.isn.truncate 32 }

/-- Events that an engine may hand over before Outlet frees one (Table 1-5). -/
abbrev eventCredits : Nat := 4096

/-- An engine without an event credit: its oldest event goes over first, unless Outlet withholds credit in REPLAY (R30, R286). -/
def State.eventCredit (s : State) (e : EngineId) : State :=
  if decide (eventCredits ≤ (s.eng e).evq.length) && !s.outletFull then s.takeCopy e else s

/-- An event joins its engine's queue; one that finds no credit, as it may in REPLAY alone, waits with the engine (R286, R297). -/
def Engine.queue (x : Engine) (v : Event) : Engine :=
  if x.evWait.isEmpty && decide (x.evq.length < eventCredits) then { x with evq := x.evq ++ [v] }
  else { x with evWait := x.evWait ++ [v] }

/-- An event takes the next ESN and joins the engine's queue. -/
def State.put (s : State) (e : EngineId) (v : Event) : State :=
  let s := s.eventCredit e
  let x := s.eng e
  let s := s.setEng e { x.queue { v with esn := x.nextEsn } with nextEsn := nextEsnOf x.nextEsn }
  s.bump (Reg.AE_EVT_CNT (engIx e))

/-- A node-level event, or its withholding (Table 9-10). -/
def State.putNode (s : State) (e : EngineId) (v : Event) : State :=
  if 0 < (s.eng e).room then s.put e v
  else
    let s := s.updEng e (fun x => { x with nodeRefresh := true, withheldCnt := satAdd x.withheldCnt 1 })
    if e = s.viewEng then (s.bump Reg.OUT_WITHHELD_CNT).raise Reg.OUT_EVT 8 else s

/-- CUSTODY_SEAL (R287, Table 9-11); one that finds no room is due at the refresh (R284). -/
def State.putSeal (s : State) (e : EngineId) (r : InRec) (cause : Byte) : State :=
  let x := s.eng e
  if 0 < x.room then
    let v := { s.baseEvent e r Ev.custodySeal nodeIndex with
      stNew := BitVec.ofNat 8 x.custN, stOld := cause, sub := x.sealNo + 1 }
    (s.updEng e (fun x => { x with custN := 0, sealNo := x.sealNo + 1, sealDue := none })).put e v
  else
    (s.updEng e (fun x => { x with sealDue := some (x.sealDue.getD cause) })).putNode e
      (s.baseEvent e r Ev.custodySeal nodeIndex)

/-- An emitted custody event is counted, and the 64th is followed by a seal (R287). -/
def State.countCustody (s : State) (e : EngineId) (r : InRec) (custody : Bool) : State :=
  if !custody then s else
  let s := s.updEng e (fun x => { x with custN := min 255 (x.custN + 1) })
  if (s.eng e).custN = 64 then s.putSeal e r 0 else s

/-- A group-level event, or its withholding (Table 9-10). -/
def State.putGroup (s : State) (e : EngineId) (v : Event) : State :=
  if reserveGroup < (s.eng e).room then s.put e v
  else
    let s := s.updEng e (fun x => { x with groupRefresh := true })
    if e = s.viewEng then (s.bump Reg.OUT_WITHHELD_CNT).raise Reg.OUT_EVT 8 else s

/-! ## State records (Tables 7-5, 7-6, 7-7) -/

abbrev Pt.unknown : Byte := 0
abbrev Pt.normal : Byte := 1
abbrev Pt.ll : Byte := 2
abbrev Pt.l : Byte := 3
abbrev Pt.h : Byte := 4
abbrev Pt.hh : Byte := 5
abbrev Pt.rate : Byte := 6
abbrev Pt.fault : Byte := 7
abbrev Pt.disabled : Byte := 8

abbrev Sub.pendOn : Nat := 0
abbrev Sub.pendOff : Nat := 1
abbrev Sub.blocked : Nat := 2
abbrev Sub.shelved : Nat := 3
abbrev Sub.unacked : Nat := 4
abbrev Sub.unreported : Nat := 5
abbrev Sub.settling : Nat := 6
abbrev Sub.forced : Nat := 7

def PtState.has (x : PtState) (i : Nat) : Bool := bitAt x.sub i
def PtState.mark (x : PtState) (i : Nat) (b : Bool) : PtState := { x with sub := setBit x.sub i b }
def PtState.faultRun (x : PtState) : Nat := fld x.sub 8 8
def PtState.setRun (x : PtState) (n : Nat) : PtState := { x with sub := setFld x.sub 8 8 (min n 255) }

def Engine.pt (x : Engine) (p : Nat) : PtState := Sparse.get x.pts.dflt x.pts.cells p
def State.pt (s : State) (e : EngineId) (p : Nat) : PtState := (s.eng e).pt p

/-- Tarn offsets of an engine's state record of a point, and of its half of a group record. -/
def stateOffset (e : EngineId) (p : Nat) : Off := (match e with | .A => Tarn.STATE_A | .B => Tarn.STATE_B) + 32 * p
def halfOffset (e : EngineId) (g : Nat) : Off := Tarn.GROUPS + 256 * g + 0xB0 + 40 * engIx e

/-- Gecko's ECC_FAULT records that await admission, by the word that each names (R497, R507). -/
def State.eccAwaits (s : State) : List Off :=
  ((s.inlet.reveal.toList ++ s.inlet.waiting.map Prod.snd).filter (fun r =>
    r.kind == Kind.cmd && r.source == mkSource 8 0 && r.pay 0x18 2 == 0xFF02)).map InRec.eccOffset

/-- The engine's own record of a point has an uncorrectable word whose record awaits admission: until then it evaluates the point as UNKNOWN, without an event (R497). -/
def State.eccHeld (s : State) (e : EngineId) (p : Nat) : Bool := s.eccAwaits.any (fun w => overlaps (stateOffset e p) 32 w 8)

/-- A state record stored, with its STATE_CRC; LAST_ISN follows a change of STATE, VALUE or SUBFLAGS (Table 7-5). -/
def State.setPt (s : State) (e : EngineId) (r : InRec) (p : Nat) (y : PtState) : State :=
  let x := s.pt e p
  let y := if x.state = y.state && x.value = y.value && x.sub = y.sub then y
           else { y with lastIsn := r.isn.truncate 32 }
  let y := { y with crcFlip := 0 }
  (s.lineWritten (stateOffset e p) 32).updEng e (fun g => { g with
    pts := { g.pts with cells := Sparse.set g.pts.dflt g.pts.cells p y },
    unreported := g.unreported + b2n (y.has Sub.unreported) - b2n (x.has Sub.unreported) })

/-- The 28 bytes of a state record that STATE_CRC covers. -/
def PtState.body (x : PtState) : List Byte :=
  [x.state, 0] ++ leBytes 2 x.sub.toNat ++ leBytes 4 x.value.toNat ++ leBytes 4 x.prev.toNat
    ++ leBytes 2 x.timer.toNat ++ leBytes 2 x.blockTimer.toNat ++ leBytes 6 x.lastEsn.toNat
    ++ leBytes 2 x.coalesced.toNat ++ leBytes 4 x.lastIsn.toNat

def PtState.bytes (x : PtState) : List Byte := x.body ++ leBytes 4 (crc32 x.body ^^^ x.crcFlip).toNat

/-! ## Point events (R215, R285) -/

/-- A point event: emitted, reported with a notice, or coalesced. -/
def State.pointEvent (s : State) (e : EngineId) (r : InRec) (p prio : Nat) (custody : Bool)
    (type stNew stOld : Byte) : State :=
  let x := s.pt e p
  let base := { s.baseEvent e r type p with stNew := stNew, stOld := stOld, sub := x.sub, value := x.value,
                                            prio := prio, custody := custody }
  if reservePoint < (s.eng e).room then
    if x.has Sub.unreported then
      -- A change of its own reports the point with the count that includes it (R285).
      let n := satAdd x.coalesced 1
      let y := x.mark Sub.unreported false
      let v := if s.behav = 1 then
          { base with type := Ev.pointTransition, stNew := x.state, stOld := x.state, sub := y.sub }
        else { base with type := Ev.coalesceNotice, stNew := x.state, stOld := x.state, sub := y.sub,
                         isnLo := packU32 [(n.toNat, 0), (r.isn.toNat % 65536, 16)] }
      let s := s.setPt e r p { y with coalesced := if s.behav = 1 then n else 0, lastEsn := (s.eng e).nextEsn }
      (s.put e v).countCustody e r custody
    else
      ((s.setPt e r p { x with lastEsn := (s.eng e).nextEsn }).put e base).countCustody e r custody
  else
    let first := (s.eng e).unreported == 0
    let s := s.setPt e r p ({ x with coalesced := satAdd x.coalesced 1 }.mark Sub.unreported true)
    if e = s.viewEng then
      let s := s.bump Reg.OUT_COALESCE_CNT
      if first then s.raise Reg.OUT_EVT 1 else s
    else s

/-- The notice of a point that holds UNREPORTED, at a sweep visit with room (R285). -/
def State.sweepNotice (s : State) (e : EngineId) (r : InRec) (p prio : Nat) (custody : Bool) : State :=
  let x := s.pt e p
  if x.has Sub.unreported && decide (reservePoint < (s.eng e).room) then
    let y := x.mark Sub.unreported false
    let base := { s.baseEvent e r Ev.coalesceNotice p with
      stNew := x.state, stOld := x.state, sub := y.sub, value := x.value, prio := prio, custody := custody }
    let v := if s.behav = 1 then { base with type := Ev.pointTransition }
             else { base with isnLo := packU32 [(x.coalesced.toNat, 0), (r.isn.toNat % 65536, 16)] }
    let s := s.setPt e r p { y with coalesced := if s.behav = 1 then x.coalesced else 0, lastEsn := (s.eng e).nextEsn }
    (s.put e v).countCustody e r custody
  else s

/-! ## Groups' part in a member's change (R249) -/

abbrev G.inAlarm : Nat := 0
abbrev G.unacked : Nat := 1
abbrev G.blocked : Nat := 2
abbrev G.flooded : Nat := 3
abbrev G.floodRaised : Nat := 4
abbrev G.dmWarn : Nat := 5
abbrev G.cfgFault : Nat := 6

abbrev noPoint : U32 := 0x1FFFF

def GrState.has (x : GrState) (i : Nat) : Bool := bitAt x.gflags i
def GrState.mark (x : GrState) (i : Nat) (b : Bool) : GrState := { x with gflags := setBit x.gflags i b }

def Engine.gr (x : Engine) (g : Nat) : GrState := Sparse.get x.grs.dflt x.grs.cells g
def State.gr (s : State) (e : EngineId) (g : Nat) : GrState := (s.eng e).gr g
def State.setGr (s : State) (e : EngineId) (g : Nat) (y : GrState) : State :=
  (s.lineWritten (halfOffset e g) 40).updEng e (fun x => { x with grs := { x.grs with cells := Sparse.set x.grs.dflt x.grs.cells g { y with crcFlip := 0 } } })
def State.updGr (s : State) (e : EngineId) (g : Nat) (f : GrState → GrState) : State := s.setGr e g (f (s.gr e g))

/-- A configuration record that an engine reads fails its CRC32 on both reads (R302). -/
def State.noteInvalid (s : State) (e : EngineId) (raw : List Byte) (n : Nat) : State :=
  if crcOk raw n then s else s.bump (Reg.AE_CFG_INVALID_CNT (engIx e))

/-- An engine reads the record of a group whose ENABLE is set. -/
def State.noteGroup (s : State) (e : EngineId) (g : Nat) : State :=
  let c := s.gcfg g
  if c.enable then s.noteInvalid e c.raw 0xB0 else s

/-- A new alarm of member p reaches its group, directly after the member's own event (R249). -/
def State.newAlarm (s : State) (e : EngineId) (r : InRec) (p : Nat) (c : PCfg) (stNew stOld : Byte) : State :=
  let g := c.group
  let gc := s.gcfg g
  let x := s.gr e g
  let s := s.noteGroup e g
  if !gc.enable || !gc.valid || x.has G.cfgFault || x.has G.blocked then s else
  let s := s.updGr e g (fun x => { x with newCnt := satAdd x.newCnt 1 })
  let s := if x.firstOut = noPoint then
      let v := { s.baseEvent e r Ev.firstOut p with stNew := stNew, stOld := stOld, sub := BitVec.ofNat 16 g,
                                                    value := (s.pt e p).value, prio := c.prio }
      (s.updGr e g (fun x => { x with firstOut := BitVec.ofNat 32 p })).putGroup e v
    else s
  if gc.floodN = 0 then s
  else
    let s := if x.floodTimer = 0 then
        (s.updGr e g (fun x => { x with floodTimer := BitVec.ofNat 16 gc.floodWindow, floodCnt := 0 })).updEng e
          (fun x => { x with opened := x.opened ++ [g] })
      else s
    s.updGr e g (fun x => { x with floodCnt := satAdd x.floodCnt 1 })

/-! ## Changes of STATE (R226, R232) -/

/-- Both pending bits cleared; TIMER then counts nothing unless the point is shelved (Table 10-4, rule 3). -/
def PtState.clearPend (x : PtState) : PtState :=
  let y := (x.mark Sub.pendOn false).mark Sub.pendOff false
  if x.has Sub.shelved then y else { y with timer := 0 }

/-- STATE takes a new value, with UNACKED under R226; the flag tells of a new alarm. -/
def PtState.enter (c : PCfg) (x : PtState) (t : Byte) : PtState × Bool :=
  let y := { x with state := t }
  if c.alarm t && !x.has Sub.blocked && !x.has Sub.shelved then (y.mark Sub.unacked true, true)
  else if !c.latch && (t == Pt.normal || t == Pt.unknown || t == Pt.disabled) then (y.mark Sub.unacked false, false)
  else (y, false)

/-- The end of BLOCKED or SHELVED sets UNACKED in an alarm state (R226, R228, R230). -/
def PtState.unackIfAlarm (c : PCfg) (x : PtState) : PtState × Bool :=
  if c.alarm x.state && !x.has Sub.blocked && !x.has Sub.shelved then (x.mark Sub.unacked true, true) else (x, false)

/-- A changed record is stored and its event emitted, with what a new alarm does to the group (R215, R249, R261). -/
def State.report_ (s : State) (e : EngineId) (r : InRec) (p : Nat) (c : PCfg) (y : PtState) (old : Byte) (alarm : Bool) :
    State :=
  let s := s.setPt e r p y
  let s := s.pointEvent e r p c.prio c.custody Ev.pointTransition y.state old
  if alarm then s.newAlarm e r p c y.state old else s

/-- STATE changes to `t` at once. -/
def State.moveTo (s : State) (e : EngineId) (r : InRec) (p : Nat) (c : PCfg) (x : PtState) (t : Byte) : State :=
  let (y, a) := x.enter c t
  if s.eccHeld e p then s else s.report_ e r p c y (s.pt e p).state a

/-! ## Threshold step (R218) -/

/-- Severity of a state (Table 7-7); states without one count as NORMAL. -/
def severity (st : Byte) : Nat := if st == Pt.ll || st == Pt.hh then 2 else if st == Pt.l || st == Pt.h || st == Pt.rate then 1 else 0

/-- target() of R218 on a value and a current state. -/
def PCfg.target (c : PCfg) (v : F32) (st : Byte) : Byte :=
  let cur := if st == Pt.unknown || st == Pt.fault then Pt.normal else st
  let en := fun i => bitAt c.thEn i
  if c.digital then (if F32.eq v 0x3F800000 != c.invert then Pt.h else Pt.normal)
  else if en 3 && (F32.le c.thHH v || (cur == Pt.hh && F32.le (F32.sub c.thHH c.hyst) v)) then Pt.hh
  else if en 2 && (F32.le c.thH v || ((cur == Pt.h || cur == Pt.hh) && F32.le (F32.sub c.thH c.hyst) v)) then Pt.h
  else if en 0 && (F32.le v c.thLL || (cur == Pt.ll && F32.le v (F32.add c.thLL c.hyst))) then Pt.ll
  else if en 1 && (F32.le v c.thL || ((cur == Pt.l || cur == Pt.ll) && F32.le v (F32.add c.thL c.hyst))) then Pt.l
  else Pt.normal

/-- What a step decides for a record: nothing but the record's new value, or a move; `started` when a delay started. -/
structure Decision where
  pt : PtState
  move : Option Byte := none
  started : Bool := false
  deriving DecidableEq, Repr

/-- The threshold step towards a target (R218). -/
def PCfg.towards (c : PCfg) (x : PtState) (t : Byte) : Decision :=
  if t = x.state then { pt := x.clearPend }
  else if x.state == Pt.unknown || x.state == Pt.fault || x.has Sub.shelved then { pt := x.clearPend, move := some t }
  else
    let on := !decide (severity t < severity x.state)
    let d := if on then c.onDelay else c.offDelay
    if d = 0 then { pt := x.clearPend, move := some t }
    else if x.has (if on then Sub.pendOn else Sub.pendOff) then { pt := x }
    else
      let y := (x.mark Sub.pendOn on).mark Sub.pendOff (!on)
      { pt := { y with timer := BitVec.ofNat 16 d }, started := true }

/-- A decision carried out. -/
def State.decide_ (s : State) (e : EngineId) (r : InRec) (p : Nat) (c : PCfg) (d : Decision) : State × Bool :=
  match d.move with
  | none => (s.setPt e r p d.pt, d.started)
  | some t => (s.moveTo e r p c d.pt t, d.started)

/-- A usable input (R217): the rule of R221 on a rate point, the threshold step on another. -/
def PCfg.usable (c : PCfg) (x : PtState) (v : F32) : Decision :=
  let y := { (x.mark Sub.settling false).setRun 0 with value := v }
  if c.rate then
    if x.state == Pt.unknown || x.state == Pt.fault then { pt := { y with prev := v }, move := some Pt.normal }
    else { pt := y }
  else c.towards y (c.target v x.state)

/-- An input as the rows of Table 7-11 see it. -/
structure PtInput where
  settling : Bool := false
  bad : Bool := false
  value : F32 := 0
  deriving DecidableEq, Repr

/-- The fault count of a point (R216): CHANDEF's FAULT_COUNT for type 1. -/
def State.faultCount (s : State) (c : PCfg) : Nat :=
  if c.srcType = 1 then leAt (s.tarnSee (Tarn.CHANDEF + 64 * c.srcIndex) 64) 0x15 1 else 1

/-- apply_input (R217, R223, R224). -/
def State.applyInput (s : State) (e : EngineId) (r : InRec) (p : Nat) (c : PCfg) (i : PtInput) : State × Bool :=
  let x := s.pt e p
  if i.settling then (s.setPt e r p (x.mark Sub.settling true), false)
  else if i.bad || !F32.isFinite i.value then
    let y := (x.mark Sub.settling false).setRun (x.faultRun + 1)
    if x.state != Pt.fault && decide (s.faultCount c ≤ y.faultRun) then
      (s.moveTo e r p c y.clearPend Pt.fault, false)
    else (s.setPt e r p y, false)
  else s.decide_ e r p c (c.usable x i.value)

/-! ## The sweep's steps on one point (R214) -/

/-- The value of a type 1, 3 or 4 point (Table 7-3). -/
def PCfg.scale (c : PCfg) (v : F32) : F32 := F32.add (F32.mul v c.gain) c.offset

def boolF (b : Bool) : F32 := if b then 0x3F800000 else 0

/-- derived_input: types 5, 6 and 7 (R206, R251, Table 7-11). -/
def State.derived (s : State) (e : EngineId) (c : PCfg) : PtInput :=
  match c.srcType with
  | 5 =>
    let st := (s.pt e c.srcIndex).state
    { settling := st == Pt.unknown, bad := st == Pt.fault || st == Pt.disabled, value := boolF (alarmCode st) }
  | 6 =>
    let x := s.gr e c.srcIndex
    { value := boolF (x.has G.inAlarm && !x.has G.blocked) }
  | _ => { value := c.offset }

/-- The rate target of R222. -/
def PCfg.rateTarget (c : PCfg) (st : Byte) (rr : F32) : Byte :=
  let l := c.rateLimit
  let on := bitAt c.thEn 4 &&
    (if F32.lt 0 l then F32.le l rr || (st == Pt.rate && F32.le (F32.sub l c.hyst) rr)
     else F32.lt l 0 && (F32.le rr l || (st == Pt.rate && F32.le rr (F32.add l c.hyst))))
  if on then Pt.rate else Pt.normal

/-- rate_step (R222), at the point's TICK of each second. -/
def State.rateStep (s : State) (e : EngineId) (r : InRec) (p : Nat) (c : PCfg) : State × Bool :=
  let x := s.pt e p
  if x.has Sub.settling || x.state == Pt.unknown || x.state == Pt.fault then (s, false)
  else
    let rr := F32.sub x.value x.prev
    s.decide_ e r p c (c.towards { x with prev := x.value } (c.rateTarget x.state rr))

/-- The state a delay's end moves a point to (R219). -/
def PCfg.delayTarget (c : PCfg) (x : PtState) : Byte :=
  if c.rate then (if x.has Sub.pendOn then Pt.rate else Pt.normal) else c.target x.value x.state

/-- delay_tick (R219): one count, and the move when it is the last. -/
def State.delayTick (s : State) (e : EngineId) (r : InRec) (p : Nat) (c : PCfg) : State :=
  let x := s.pt e p
  if 1 < x.timer.toNat then s.setPt e r p { x with timer := x.timer - 1 }
  else
    let t := c.delayTarget x
    let y := { x.clearPend with timer := 0 }
    if t = x.state then s.setPt e r p y else s.moveTo e r p c y t

/-- The block condition of Table 7-12 on a state. -/
def blockCond (mode : Nat) (st : Byte) : Bool :=
  match mode with
  | 0 => alarmCode st
  | 1 => st == Pt.normal
  | 2 => alarmCode st || st == Pt.fault || st == Pt.unknown || st == Pt.disabled
  | 3 => st == Pt.normal || st == Pt.fault || st == Pt.unknown || st == Pt.disabled
  | _ => false

/-- The end of BLOCKED, whatever its cause (R228). -/
def State.endBlock (s : State) (e : EngineId) (r : InRec) (p : Nat) (c : PCfg) : State :=
  let x := s.pt e p
  let (y, a) := (x.mark Sub.blocked false).unackIfAlarm c
  s.report_ e r p c y x.state a

/-- block_step (R228). -/
def State.blockStep (s : State) (e : EngineId) (r : InRec) (p : Nat) (c : PCfg) (tick : Nat) : State :=
  let x := s.pt e p
  if fld c.blockSrc 0 17 = 0x1FFFF then
    if x.has Sub.blocked then s.endBlock e r p c else s
  else if blockCond (fld c.blockSrc 17 3) (s.pt e (fld c.blockSrc 0 17)).state then
    let x := { x with blockTimer := BitVec.ofNat 16 c.blockDelay }
    if x.has Sub.blocked then s.setPt e r p x
    else
      let y := x.mark Sub.blocked true
      let y := if c.latch then y else y.mark Sub.unacked false
      s.report_ e r p c y x.state false
  else
    let n := if x.has Sub.blocked && x.blockTimer != 0 && tick % 1000 == 0 then x.blockTimer - 1 else x.blockTimer
    let s := s.setPt e r p { x with blockTimer := n }
    if x.has Sub.blocked && n == 0 then s.endBlock e r p c else s

/-- The end of a shelving (R230). While the record is not valid, FAULT_IS_ALARM is not read and the point is a member of no group (R225). -/
def State.endShelve (s : State) (e : EngineId) (r : InRec) (p : Nat) (c : PCfg) : State :=
  let x := s.pt e p
  let (y, a) := { x.mark Sub.shelved false with timer := 0 }.unackIfAlarm (c.read p)
  s.report_ e r p (c.read p) y x.state (a && c.valid p)

/-- shelve_tick (R230). -/
def State.shelveTick (s : State) (e : EngineId) (r : InRec) (p : Nat) (c : PCfg) : State :=
  let x := s.pt e p
  if 1 < x.timer.toNat then s.setPt e r p { x with timer := x.timer - 1 } else s.endShelve e r p c

/-- config_fault (R225): FAULT with VALUE quiet NaN and FAULT_RUN 0, its event once. No field of the record is read, so the event goes to EVT0 outside the custody chain (DESIGN CHOICE, log entry 20). -/
def State.configFault (s : State) (e : EngineId) (r : InRec) (p : Nat) : State :=
  let x := s.pt e p
  if x.state == Pt.fault && x.value == F32.qnan && x.faultRun == 0 then s
  else
    let y := { x.clearPend.setRun 0 with state := Pt.fault, value := F32.qnan }
    (s.setPt e r p y).pointEvent e r p 0 false Ev.pointTransition Pt.fault x.state

/-- A member joins its group's running totals (R247, R248). -/
def rankOf (st : Byte) : Nat :=
  if st == Pt.hh then 6 else if st == Pt.ll then 5 else if st == Pt.fault then 4
  else if st == Pt.h then 3 else if st == Pt.l then 2 else if st == Pt.rate then 1 else 0

def Totals.add (t : Totals) (c : PCfg) (x : PtState) : Totals :=
  let counts := !x.has Sub.blocked && !x.has Sub.shelved
  let active := counts && c.alarm x.state
  { active := t.active + b2n active
    unacked := t.unacked + b2n (counts && x.has Sub.unacked)
    fault := t.fault + b2n (x.state == Pt.fault)
    worst := if active && decide (rankOf t.worst < rankOf x.state) then x.state else t.worst }

/-- sweep_point (R214), with the totals of R247. -/
def State.sweepPoint (s : State) (e : EngineId) (r : InRec) (tick : Nat) (p : Nat) : State :=
  let c := s.pcfg p
  let ok := c.valid p
  let s := s.sweepNotice e r p (c.read p).prio (c.read p).custody
  if !c.on then s
  else if !ok then (s.noteInvalid e c.raw 64).configFault e r p
  else
    let (s, st1) := if 5 ≤ c.srcType && !(s.pt e p).has Sub.forced then s.applyInput e r p c (s.derived e c) else (s, false)
    let (s, st2) := if c.rate && tick % 1000 == p % 1000 then s.rateStep e r p c else (s, false)
    let x := s.pt e p
    let s := if (x.has Sub.pendOn || x.has Sub.pendOff) && !(st1 || st2) && tick % 10 == 0 then s.delayTick e r p c else s
    let s := s.blockStep e r p c tick
    let s := if (s.pt e p).has Sub.shelved && tick % 60000 == 0 then s.shelveTick e r p c else s
    s.updEng e (fun g => { g with totals := Sparse.upd { } g.totals c.group (fun t => t.add c (g.pt p)) })

/-- The indices of the points whose configuration record holds a byte other than 0, ascending; every other point is DISABLED. -/
def State.points (s : State) : List Nat := s.listed Tarn.POINT_CFG 64 81920

/-- The point visit of a TICK goes on, in ascending order, to the points below `upto` (R214). -/
def State.sweepPoints (s : State) (e : EngineId) (r : InRec) (upto : Nat) : State :=
  if upto ≤ (s.eng e).sweepAt then s else
  ((s.points.filter (fun p => decide ((s.eng e).sweepAt ≤ p) && decide (p < upto))).foldl
    (fun s p => s.sweepPoint e r r.payload.toNat p) s).updEng e (fun x => { x with sweepAt := upto })

end Sys2Proof.Machine
end

