-- ==== Sys2Proof/Machine/Groups.lean ====
section
/-! DEFINITION. Groups and call sessions: the group sweep, flood limiting, blocking, the session steps, accept sources, outputs and call frames, and the refresh of withheld events (R242-R265, R284). Each is one engine's evaluation of one record. -/

namespace Sys2Proof.Machine

/-- The groups whose record holds a byte other than 0, ascending; every other group has ENABLE 0. -/
def State.groups (s : State) : List Nat := s.listed Tarn.GROUPS 256 256

/-- Groups with ENABLE set, ascending. -/
def State.enabledGroups (s : State) : List Nat := s.groups.filter (fun g => (s.gcfg g).enable)

/-- The ring of a group's events: its PRIORITY, or EVT0 while its record is not valid (DESIGN CHOICE, log entry 20). -/
def GCfg.ring (c : GCfg) : Nat := if c.valid then c.prio else 0

/-- Calling states are codes 1 to 8 (R255). -/
def calling (st : Byte) : Bool := decide (1 ≤ st.toNat) && decide (st.toNat ≤ 8)

abbrev Call.idle : Byte := 0
abbrev Call.stage1 : Byte := 1
abbrev Call.all : Byte := 7
abbrev Call.bridge : Byte := 8
abbrev Call.accepted : Byte := 9
abbrev Call.silenced : Byte := 10

/-- Causes of Table 8-11. -/
abbrev Cause.timeout : Nat := 0
abbrev Cause.newAlarm : Nat := 1
abbrev Cause.ackGroup : Nat := 4
abbrev Cause.manual : Nat := 5
abbrev Cause.silence : Nat := 6
abbrev Cause.period : Nat := 7
abbrev Cause.press : Nat := 8
abbrev Cause.quiet : Nat := 9
abbrev Cause.config : Nat := 10
abbrev Cause.block : Nat := 11
abbrev Cause.refresh : Nat := 12

/-! ## Events (R261, Table 8-11) -/

def State.groupEvent (s : State) (e : EngineId) (r : InRec) (g : Nat) (c : GCfg) (type stNew stOld : Byte)
    (sub value : Nat) : State :=
  s.putGroup e { s.baseEvent e r type (groupIndex g) with
    stNew := stNew, stOld := stOld, sub := BitVec.ofNat 16 sub, value := F32.ofNat value, prio := c.ring }

/-- WORST and GFLAGS as the last sweep, or the last GROUP_STATE event, left them. -/
def Engine.sweptOf (x : Engine) (g : Nat) : Byte × Byte := Sparse.get (Pt.disabled, 0) x.swept g

/-- The picture that a later sweep compares with (R252 step 6). -/
def State.markSwept (s : State) (e : EngineId) (g : Nat) : State :=
  s.updEng e (fun x => { x with swept := Sparse.set (Pt.disabled, 0) x.swept g ((x.gr g).worst, (x.gr g).gflags) })

/-- Every group's WORST and GFLAGS as the state halves hold them. -/
def Engine.pictures (x : Engine) : Sparse (Byte × Byte) :=
  (List.range 256).filterMap (fun g =>
    let y := ((x.gr g).worst, (x.gr g).gflags)
    if y = (Pt.disabled, 0) then none else some (g, y))

/-- At a mark an engine goes on from what the state regions and the mark hold, as a replay of the journal does from there (R40, R276): the stored pictures are those of the previous sweep, and while node events are withheld a seal is due (DESIGN CHOICE, log entry 77). -/
def Engine.atMark (x : Engine) : Engine :=
  { x with
    swept := x.pictures
    sealDue := if x.nodeRefresh then some (if 64 ≤ x.custN then 0 else if x.custN ≠ 0 then 1 else 2) else none }

/-- GROUP_STATE. -/
def State.groupState (s : State) (e : EngineId) (r : InRec) (g : Nat) (c : GCfg) : State :=
  let x := s.gr e g
  (s.groupEvent e r g c Ev.groupState x.worst ((s.eng e).sweptOf g).1 x.gflags.toNat x.activeCnt.toNat).markSwept e g

/-! ## Call frames (R259, R260) -/

/-- Channel, identifier and STAGE of the frames of a calling state (Table 8-9). -/
def GCfg.frames (c : GCfg) (st : Nat) : List (Nat × U32 × Nat) :=
  let of := fun k => ((c.stages.getD (k - 1) ⟨0, 0, 0xFF, 0, 0⟩).canCh, (c.stages.getD (k - 1) ⟨0, 0, 0xFF, 0, 0⟩).canId, k)
  let l := if st ≤ 6 then [of st] else (span 1 c.nStages).map of
  (l ++ (if st = 8 then [(c.bridgeCh, c.bridgeId, 7)] else [])).filter (fun f => f.1 != 0xFF)

/-- The payload of Table 8-10. -/
def GrState.payload (x : GrState) (node g stage : Nat) : List Byte :=
  [BitVec.ofNat 8 node, BitVec.ofNat 8 g, x.callState, BitVec.ofNat 8 stage] ++ leBytes 2 (min 65535 x.activeCnt.toNat)
    ++ [x.worst, x.gflags]

/-- The holder places call frames, outside REPLAY; a frame that cannot be placed is counted. -/
def State.sendFrames (s : State) (e : EngineId) (g : Nat) (fs : List (Nat × U32 × Nat)) : State :=
  if s.skink.holder != some e || s.mgmt == Node.replay then s
  else fs.foldl (fun s f =>
    let (s, ok) := s.placeNode f.1 f.2.1 false ((s.gr e g).payload s.nodeId g f.2.2) 8
    if ok then s else s.bump Reg.CROAK_CANTX_LOSS_CNT) s

/-- Frames with a channel and identifier not among those listed. -/
def addFrames (old new : List (Nat × U32 × Nat)) : List (Nat × U32 × Nat) :=
  new.foldl (fun l f => if l.any (fun x => x.1 == f.1 && x.2.1 == f.2.1) then l else l ++ [f]) old

/-! ## Changes of CALL_STATE (R254-R256) -/

/-- The timer that a state loads on entry. -/
def GCfg.timer (c : GCfg) (st : Byte) (otherwise : Nat) : Nat :=
  if calling st then (if st.toNat ≤ 6 then c.tAccept else if st = Call.all then c.tAll else 0) else otherwise

/-- What a change of CALL_STATE counts (Table 8-16), in the view engine. -/
def State.countCall (s : State) (e : EngineId) (st : Byte) (cause : Nat) : State :=
  if e != s.viewEng then s else
  let s := if cause = Cause.newAlarm || cause = Cause.period then s.bump Reg.CROAK_RAISE_CNT else s
  let s := if cause = Cause.timeout then s.bump Reg.CROAK_ESC_CNT else s
  let s := if cause = Cause.period then (s.bump Reg.CROAK_DM_CALL_CNT).raise Reg.CROAK_EVT 4 else s
  if st = Call.bridge then (s.bump Reg.CROAK_BRIDGE_CNT).raise Reg.CROAK_EVT 2
  else if st = Call.accepted then s.bump Reg.CROAK_ACCEPT_CNT
  else if st = Call.silenced then s.bump Reg.CROAK_SILENCE_CNT
  else s

/-- CALL_STATE changes: timers, event, counters and frames. FLOOD_RAISED is set by the calls of a new alarm and of the dead-man period, not by a CALL_MANUAL, though Table 8-5 has it that the session has called (DESIGN CHOICE, log entry 81). -/
def State.callTo (s : State) (e : EngineId) (r : InRec) (g : Nat) (c : GCfg) (st : Byte) (cause : Nat)
    (timer : Nat := 0) : State :=
  let x := s.gr e g
  let t := c.timer st timer
  let y := { x with callState := st, callTimer := BitVec.ofNat 16 t,
                    canTimer := if calling st then BitVec.ofNat 16 c.canRepeat else 0 }
  let raised := (cause == Cause.newAlarm || cause == Cause.period) && x.has G.flooded
  let y := if raised then y.mark G.floodRaised true else y
  let s := (s.setGr e g y).groupEvent e r g c Ev.callState st x.callState cause t
  let s := s.countCall e st cause
  let used := Sparse.get [] (s.eng e).called g
  let keep := fun l => s.updEng e (fun z => { z with called := Sparse.set [] z.called g l })
  if calling st then
    let fs := c.frames st.toNat
    (keep (addFrames (if calling x.callState then used else []) fs)).sendFrames e g fs
  else if st = Call.idle then keep []
  else s.sendFrames e g used

/-- A press of the dead-man button, or DEADMAN_RESET (R258). -/
def State.press (s : State) (e : EngineId) (r : InRec) (g : Nat) (c : GCfg) : State :=
  let s := s.updGr e g (fun x => x.mark G.dmWarn false)
  if (s.gr e g).callState = Call.idle then
    s.updGr e g (fun x => { x with callTimer := BitVec.ofNat 16 c.dmPeriod })
  else s.callTo e r g c Call.idle Cause.press c.dmPeriod

/-! ## The group sweep (R252) -/

/-- The group block step (R251): as R228, with the group's own timer. A DEADMAN session's period stops with it. -/
def State.groupBlock (s : State) (e : EngineId) (g : Nat) (c : GCfg) (tick : Nat) : State :=
  let x := s.gr e g
  if fld c.blockSrc 0 17 != 0x1FFFF && blockCond (fld c.blockSrc 17 3) (s.pt e (fld c.blockSrc 0 17)).state then
    let y := { x with blockTimer := BitVec.ofNat 16 c.blockDelay }.mark G.blocked true
    s.setGr e g (if c.deadman then y.mark G.dmWarn false else y)
  else if !x.has G.blocked then s
  else if fld c.blockSrc 0 17 = 0x1FFFF then s.setGr e g (x.mark G.blocked false)
  else
    let n := if x.blockTimer != 0 && tick % 1000 == 0 then x.blockTimer - 1 else x.blockTimer
    let y := { x with blockTimer := n }
    s.setGr e g (if n == 0 then y.mark G.blocked false else y)

/-- The flood step (R250). -/
def State.floodStep (s : State) (e : EngineId) (g : Nat) (c : GCfg) (tick : Nat) : State :=
  if c.floodN = 0 then s else
  let x := s.gr e g
  let excess := decide (c.floodN < x.floodCnt.toNat)
  let s :=
    if excess && !x.has G.flooded then
      let y := x.mark G.flooded true
      (s.setGr e g (if x.callState = Call.idle then y else y.mark G.floodRaised true)).bumpView e Reg.CROAK_FLOOD_CNT
    else s
  let x := s.gr e g
  if x.floodTimer = 0 || tick % 1000 != 0 || (s.eng e).opened.contains g then s
  else if 1 < x.floodTimer.toNat then s.setGr e g { x with floodTimer := x.floodTimer - 1 }
  else if x.has G.flooded && excess then
    s.setGr e g { x with floodTimer := BitVec.ofNat 16 c.floodWindow, floodCnt := 0 }
  else
    s.setGr e g (({ x with floodTimer := 0, floodCnt := 0 }.mark G.flooded false).mark G.floodRaised false)

/-- The state to which a calling session escalates (Table 8-8). -/
def GCfg.escalate (c : GCfg) (st : Byte) : Byte :=
  if st = Call.all then Call.bridge else if st.toNat < c.nStages then st + 1 else Call.all

/-- CALL_TIMER and CAN_TIMER of a calling session at a whole second (R255, R256, R260). -/
def State.callTimers (s : State) (e : EngineId) (r : InRec) (g : Nat) (c : GCfg) (tick : Nat) : State :=
  let x := s.gr e g
  if !calling x.callState || tick % 1000 != 0 then s
  else if x.callState != Call.bridge && x.callTimer.toNat = 1 then
    s.callTo e r g c (c.escalate x.callState) Cause.timeout
  else
    let x := if x.callTimer = 0 then x else { x with callTimer := x.callTimer - 1 }
    if x.canTimer.toNat = 1 then
      let fs := c.frames x.callState.toNat
      let s := (s.setGr e g { x with canTimer := BitVec.ofNat 16 c.canRepeat }).updEng e (fun z => { z with
        called := Sparse.set [] z.called g (addFrames (Sparse.get [] z.called g) fs) })
      s.sendFrames e g fs
    else s.setGr e g (if x.canTimer = 0 then x else { x with canTimer := x.canTimer - 1 })

/-- The call step of an ALARM session (Table 8-8). -/
def State.alarmStep (s : State) (e : EngineId) (r : InRec) (g : Nat) (c : GCfg) (tick : Nat) : State :=
  let x := s.gr e g
  let st := x.callState
  if !c.callEn then s
  else if (st == Call.idle || st == Call.silenced || (st == Call.accepted && c.recall)) && x.newCnt != 0
      && !x.has G.blocked && !(x.has G.flooded && x.has G.floodRaised) then
    s.callTo e r g c Call.stage1 Cause.newAlarm
  else if (st == Call.accepted || st == Call.silenced) && !x.has G.inAlarm then
    s.callTo e r g c Call.idle Cause.quiet
  else s.callTimers e r g c tick

/-- The pre-warning of a dead-man period (R258). -/
def State.dmWarnNow (s : State) (e : EngineId) (r : InRec) (g : Nat) (c : GCfg) : State :=
  (s.updGr e g (fun x => x.mark G.dmWarn true)).groupState e r g c

/-- The end of a dead-man period (R258). -/
def State.dmExpire (s : State) (e : EngineId) (r : InRec) (g : Nat) (c : GCfg) : State :=
  (s.updGr e g (fun x => x.mark G.dmWarn false)).callTo e r g c Call.stage1 Cause.period

/-- The dead-man step (R258). A period that is not running has CALL_TIMER 0. -/
def State.deadmanStep (s : State) (e : EngineId) (r : InRec) (g : Nat) (c : GCfg) (tick : Nat) : State :=
  let x := s.gr e g
  if x.has G.blocked then
    if x.callState = Call.idle then s.setGr e g { x with callTimer := 0 }
    else s.callTo e r g c Call.idle Cause.block
  else if !c.callEn then s
  else if x.callState != Call.idle then s.callTimers e r g c tick
  else if x.callTimer = 0 then s.setGr e g { x with callTimer := BitVec.ofNat 16 c.dmPeriod }
  else if tick % 1000 != 0 then s
  else
    let y := { x with callTimer := x.callTimer - 1 }
    let s := s.setGr e g y
    let s := if c.dmWarn != 0 && y.callTimer.toNat == c.dmWarn then s.dmWarnNow e r g c else s
    if y.callTimer = 0 then s.dmExpire e r g c else s

/-- The running totals stored, and IN_ALARM and UNACKED set (R247, R248). -/
def GrState.picture (x : GrState) (t : Totals) : GrState :=
  let y := { x with activeCnt := BitVec.ofNat 32 t.active, unackedCnt := BitVec.ofNat 32 t.unacked,
                    faultCnt := BitVec.ofNat 32 t.fault, worst := if t.active = 0 then Pt.normal else t.worst }
  (y.mark G.inAlarm (t.active != 0 || t.unacked != 0)).mark G.unacked (t.unacked != 0)

/-- An enabled group found not valid (R253): its session ends and its events are emitted once. -/
def State.groupFault (s : State) (e : EngineId) (r : InRec) (g : Nat) (c : GCfg) : State :=
  let x := s.gr e g
  if x.has G.cfgFault then s
  else
    let s := (s.setGr e g ((x.mark G.cfgFault true).mark G.dmWarn false)).groupState e r g c
    if x.callState = Call.idle then s.updGr e g (fun x => { x with callTimer := 0 })
    else s.callTo e r g c Call.idle Cause.config

/-- One group's part of the group sweep (R252). -/
def State.sweepGroup (s : State) (e : EngineId) (r : InRec) (tick : Nat) (g : Nat) : State :=
  let c := s.gcfg g
  if !c.enable then s
  else if !c.valid then
    ((s.noteInvalid e c.raw 0xB0).groupFault e r g c).updGr e g (fun x => { x with newCnt := 0 })
  else
    let s := s.updGr e g (fun x => x.picture (Sparse.get { } (s.eng e).totals g))
    let s := (s.groupBlock e g c tick).floodStep e g c tick
    let s := s.updGr e g (fun x => if x.has G.inAlarm then x else { x with firstOut := noPoint })
    let x := s.gr e g
    let s := if (x.worst, x.gflags) = (s.eng e).sweptOf g then s else s.groupState e r g c
    let s := if c.deadman then s.deadmanStep e r g c tick else s.alarmStep e r g c tick
    (s.updGr e g (fun x => { x with newCnt := 0 })).markSwept e g

/-- Every point of a TICK has been visited. -/
def State.sweptPoints (s : State) (e : EngineId) (r : InRec) : State :=
  if 81920 ≤ (s.eng e).sweepAt then s
  else (s.sweepPoints e r 81920).updEng e (fun x => { x with unreportedSwept := x.unreported })

/-- The group sweep goes on, in ascending order, to the groups below `upto` (R252). -/
def State.sweepGroups (s : State) (e : EngineId) (r : InRec) (upto : Nat) : State :=
  let s := s.sweptPoints e r
  if upto ≤ (s.eng e).groupAt then s else
  ((s.groups.filter (fun g => decide ((s.eng e).groupAt ≤ g) && decide (g < upto))).foldl
    (fun s g => s.sweepGroup e r r.payload.toNat g) s).updEng e (fun x => { x with groupAt := upto })

/-! ## Refresh of withheld events (R284) -/

/-- The events of one group's refresh. -/
def State.refreshGroup (s : State) (e : EngineId) (r : InRec) (g : Nat) : State :=
  let c := s.gcfg g
  let x := s.gr e g
  let s := (s.noteGroup e g).groupEvent e r g c Ev.groupState x.worst x.worst x.gflags.toNat x.activeCnt.toNat
  let s :=
    if x.firstOut = noPoint then s
    else
      let p := x.firstOut.toNat
      let y := s.pt e p
      let s := s.noteInvalid e (s.pcfg p).raw 64
      s.putGroup e { s.baseEvent e r Ev.firstOut p with
        stNew := y.state, stOld := y.state, sub := BitVec.ofNat 16 g, value := y.value, prio := ((s.pcfg p).read p).prio }
  if x.callState = Call.idle then s
  else s.groupEvent e r g c Ev.callState x.callState x.callState Cause.refresh x.callTimer.toNat

/-- The refresh of node-level events: one EPOCH_CHANGE of cause 2, then a seal that fell due (R284). -/
def State.refreshNode (s : State) (e : EngineId) (r : InRec) : State :=
  let x := s.eng e
  let s := s.putNode e { s.baseEvent e r Ev.epochChange nodeIndex with
    stNew := 2, sub := BitVec.ofNat 16 s.evalEpoch, value := F32.ofNat x.withheldCnt.toNat }
  let s := s.updEng e (fun x => { x with nodeRefresh := false, withheldCnt := 0 })
  match x.sealDue with
  | some cause => s.putSeal e r cause
  | none => s

/-- What follows the last group of a sweep (R284). -/
def State.refresh (s : State) (e : EngineId) (r : InRec) : State :=
  let x := s.eng e
  if reservePoint < x.room then
    let s := if x.groupRefresh then
        (s.enabledGroups.foldl (fun s g => s.refreshGroup e r g) s).updEng e (fun x => { x with groupRefresh := false })
      else s
    if x.nodeRefresh then s.refreshNode e r else s
  else s

/-! ## Accept sources and presses (R257, R258) -/

/-- Stages whose accept source may end the present state (Table 8-8). -/
def GCfg.eligible (c : GCfg) (st : Byte) : List GStage :=
  if !calling st then [] else if st.toNat ≤ 6 then c.used.take st.toNat else c.used

/-- One group's answer to the DI channels that became active and the signals that a record carries. -/
def State.acceptGroup (s : State) (e : EngineId) (r : InRec) (dis sigs : List Nat) (g : Nat) : State :=
  let c := s.gcfg g
  let x := s.gr e g
  let s := s.noteGroup e g
  if !c.enable || !c.valid || x.has G.cfgFault then s
  else if c.deadman && dis.contains c.dmDi then
    if c.callEn && !x.has G.blocked then s.press e r g c else s
  else
    match (c.eligible x.callState).find? (fun t =>
      (t.accType == 1 && dis.contains t.accIndex) || (t.accType == 2 && sigs.contains t.accIndex)) with
    | some t => s.callTo e r g c Call.accepted (t.accType + 1)
    | none => s

/-- One pass over the sessions in ascending group order. -/
def State.acceptSources (s : State) (e : EngineId) (r : InRec) (dis sigs : List Nat) : State :=
  if dis.isEmpty && sigs.isEmpty then s
  else s.enabledGroups.foldl (fun s g => s.acceptGroup e r dis sigs g) s

/-! ## State halves (R246) and the effect of a GROUP_WRITE (R264) -/

/-- A state half as at entry to RUN. -/
def freshHalf (enable : Bool) : GrState :=
  { worst := if enable then Pt.normal else Pt.disabled, firstOut := noPoint }

/-- A state half set as in R246, with CALL_STATE of cause 10 when it changes. -/
def State.resetHalf (s : State) (e : EngineId) (r : InRec) (g : Nat) (c : GCfg) (event : Bool) : State :=
  let old := (s.gr e g).callState
  let s := s.setGr e g (freshHalf c.enable)
  let s := if event then s.groupState e r g c else s
  let s := s.updEng e (fun z => { z with called := Sparse.set [] z.called g [] })
  if old = Call.idle then s else s.groupEvent e r g c Ev.callState Call.idle old Cause.config 0

/-- Rows 3 to 8 of Table 8-15. -/
def State.groupAdjust (s : State) (e : EngineId) (r : InRec) (g : Nat) (old new : GCfg) : State :=
  let low := fun (t : U16) (n : Nat) => BitVec.ofNat 16 (min t.toNat n)
  let s := if old.callEn && !new.callEn then
      let s := s.updGr e g (fun x => x.mark G.dmWarn false)
      if (s.gr e g).callState = Call.idle then s.updGr e g (fun x => { x with callTimer := 0 })
      else s.callTo e r g new Call.idle Cause.config
    else s
  let st := (s.gr e g).callState
  let s := if decide (1 ≤ st.toNat) && decide (st.toNat ≤ 6) && decide (new.nStages < st.toNat) then
      s.callTo e r g new Call.all Cause.config
    else s
  let s := if (old.tAccept, old.tAll, old.dmPeriod) = (new.tAccept, new.tAll, new.dmPeriod) then s
    else s.updGr e g (fun x =>
      if x.callState = Call.idle then (if new.deadman then { x with callTimer := low x.callTimer new.dmPeriod } else x)
      else if calling x.callState then { x with callTimer := low x.callTimer (new.timer x.callState 0) }
      else x)
  let s := if old.dmWarn != new.dmWarn then
      s.updGr e g (fun x => if x.has G.dmWarn && decide (new.dmWarn < x.callTimer.toNat) then x.mark G.dmWarn false else x)
    else s
  let s := if old.floodN != new.floodN || old.floodWindow != new.floodWindow then
      s.updGr e g (fun x =>
        if new.floodN = 0 then ({ x with floodTimer := 0, floodCnt := 0 }.mark G.flooded false).mark G.floodRaised false
        else { x with floodTimer := low x.floodTimer new.floodWindow })
    else s
  if old.blockDelay != new.blockDelay then s.updGr e g (fun x => { x with blockTimer := low x.blockTimer new.blockDelay })
  else s

/-- Table 8-15. -/
def State.groupWritten (s : State) (e : EngineId) (r : InRec) (g : Nat) (old new : GCfg) : State :=
  if old.enable && !new.enable then s.resetHalf e r g new true
  else if !new.enable then s
  else if !old.enable || old.deadman != new.deadman || !old.valid then s.resetHalf e r g new false
  else s.groupAdjust e r g old new

/-! ## Croak's request (R259) -/

/-- Outputs that one session's state drives (Table 8-9). -/
def GCfg.drive (c : GCfg) (x : GrState) : U64 :=
  let any := c.used.foldl (fun m t => m ||| t.outMask) 0
  if x.callState = Call.idle then (if x.has G.dmWarn then c.warnMask else 0)
  else if !calling x.callState then 0
  else if x.callState.toNat ≤ 6 then (c.stages.getD (x.callState.toNat - 1) ⟨0, 0, 0, 0, 0⟩).outMask
  else if x.callState = Call.all then any
  else any ||| c.bridgeMask

/-- DIO_CH_CFG.MODE of a channel is OUT_CALL. -/
def State.isOutCall (s : State) (n : Nat) : Bool := s.rfld (Reg.DIO_CH_CFG n) 0 3 == 4

/-- The outputs that an engine's sessions request on; a mask bit of a channel not in OUT_CALL mode has no effect. -/
def State.croakDrive (s : State) (e : EngineId) : U64 :=
  s.enabledGroups.foldl (fun m g => m ||| (s.gcfg g).drive (s.gr e g)) 0 &&& maskOf 64 s.isOutCall

/-- Channels named in a mask and not in OUT_CALL mode (R259). The masks that count are those of enabled groups: of the stages up to N_STAGES, BRIDGE_MASK, and WARN_MASK where DEADMAN is set (DESIGN CHOICE, log entry 81). -/
def State.maskWarn (s : State) : U64 :=
  let named := s.enabledGroups.foldl (fun m g =>
    let c := s.gcfg g
    m ||| c.used.foldl (fun m t => m ||| t.outMask) (c.bridgeMask ||| if c.deadman then c.warnMask else 0)) (0 : U64)
  maskOf 64 (fun n => bitAt named n && !s.isOutCall n)

/-- CROAK_EVT.MASK_WARN, when a channel is so named. -/
def State.noteMasks (s : State) : State := if s.maskWarn = 0 then s else s.raise Reg.CROAK_EVT 1

end Sys2Proof.Machine
end

