-- ==== Sys2Proof/Machine/Engine.lean ====
section
/-! DEFINITION. The alarm engines' evaluation of the stream: source records, TICKs, commands, gaps, marks and Skink's records (R213-R238, R262, R269-R278, R305-R310, R317, R326-R328, R534). -/

namespace Sys2Proof.Machine

/-! ## The stream -/

/-- The next record of an engine that evaluates: in service, not stopped, in RUN or REPLAY (R25, R297); in REPLAY it waits while the backlog is full, it has no event credit, or events of the record before wait for one (R286). -/
def State.headRec (s : State) (e : EngineId) : Option InRec :=
  let x := s.eng e
  if !x.serving || x.stopped || !s.running || s.outletFull
      || (s.mgmt == Node.replay && (decide (eventCredits ≤ x.evq.length) || !x.evWait.isEmpty)) then none
  else s.inlet.stream.find? (fun r => decide (x.evalIsn.toNat < r.isn.toNat))

/-- EPOCH_CHANGE (Table 9-9). -/
def State.epochChange (s : State) (e : EngineId) (r : InRec) (cause : Byte) (epoch : Nat) : State :=
  s.putNode e { s.baseEvent e r Ev.epochChange nodeIndex with stNew := cause, sub := BitVec.ofNat 16 epoch }

/-- RUN_START comes before any other event of the first record (R278). -/
def State.runStart (s : State) (e : EngineId) (r : InRec) : State :=
  if (s.eng e).runStarted then s
  else (s.updEng e (fun x => { x with runStarted := true })).epochChange e r 0 s.evalEpoch

/-- Records that every engine in service has evaluated leave the stream window (R273). -/
def State.prune (s : State) : State :=
  { s with inlet := { s.inlet with
      stream := s.inlet.stream.filter (fun r => s.servers.any (fun e => decide ((s.eng e).evalIsn.toNat < r.isn.toNat))) } }

/-- An engine has evaluated a command's record: the last one completes it (R120). -/
def State.cmdDone (s : State) (e : EngineId) (isn : U64) : State :=
  match s.hif.running.find? (fun r => !r.dir && r.isn == isn) with
  | none => s
  | some r =>
    let left := r.left.filter (· != e)
    if left.isEmpty then
      let s := { s with hif := { s.hif with running := s.hif.running.filter (fun x => x.dir || x.isn != isn) } }
      s.closeRunning r
    else
      { s with hif := { s.hif with running := s.hif.running.map (fun x =>
          if !x.dir && x.isn == isn then { x with left := left } else x) } }

/-- What SPAWN_RP_ISN and SPAWN_RP_SPEED show of a record that REPLAY has evaluated. -/
def State.replayed (s : State) (isn : U64) : State :=
  let s := s.setPair Reg.SPAWN_RP_ISN_LO Reg.SPAWN_RP_ISN_HI isn
  match s.inlet.stream.find? (fun r => r.isn == isn) with
  | none => s
  | some r =>
    let p := s.spawn.replay
    { s with spawn := { s.spawn with replay := { p with lastTime := r.time, lastFrc := s.frcNat } } }

/-- A record has been evaluated. -/
def State.evaluated (s : State) (e : EngineId) (isn : U64) : State :=
  let s := (s.updEng e (fun x => { x with evalIsn := isn })).bump (Reg.AE_EVAL_CNT (engIx e))
  let s := if s.mgmt = Node.replay then s.replayed isn else s
  (s.cmdDone e isn).prune

/-! ## STATE_CRC (R301) -/

/-- The ECC check reports no error on a read. -/
def State.eccClean (s : State) (o n : Nat) : Bool :=
  !s.gecko.ueWords.any (fun w => decide (o < w + 8) && decide (w < o + n))

/-- Some of these points and groups has a record in the engine's own region that fails its STATE_CRC, with no error of the ECC check. -/
def State.failsCrc (s : State) (e : EngineId) (reads : List Nat × List Nat) : Bool :=
  reads.1.any (fun p => (s.pt e p).crcFlip != 0 && s.eccClean (stateOffset e p) 32)
    || reads.2.any (fun g => (s.gr e g).crcFlip != 0 && s.eccClean (halfOffset e g) 40)

/-- The points that the heads of a source reach. -/
def State.fed (s : State) (type index : Nat) : List Nat :=
  (s.fanout type index).filter (fun p => decide (p ≤ 81919) && (s.pcfg p).valid p && (s.pcfg p).enable)

/-- The points and groups whose state the evaluation of a record reads. -/
def State.recReads (s : State) (r : InRec) : List Nat × List Nat :=
  match r.kind.toNat with
  | 1 => (s.fed 1 r.srcIndex, [])
  | 2 => (((List.range 16).filter (fun i => (r.pay 0x1A 2).testBit i)).flatMap (fun i => s.fed 2 (16 * r.srcIndex + i)), [])
  | 3 => (s.fed 3 r.srcIndex, [])
  | 4 => ((span (r.pay 0x1E 2) (r.pay 0x1D 1)).flatMap (s.fed 4), [])
  | 5 =>
    ((s.points.filter (fun p => (s.pcfg p).on)).flatMap (fun p =>
      let c := s.pcfg p
      p :: (if c.srcType = 5 then [c.srcIndex] else []) ++ (if fld c.blockSrc 0 17 = 0x1FFFF then [] else [fld c.blockSrc 0 17])),
      s.enabledGroups)
  | 6 =>
    let op := r.pay 0x18 2
    if r.srcType != 6 then ([], [])
    else if op = 0x11 || inRange 0x20 0x24 op && op != 0x21 then ([leAt r.ext 0 4 % 131072], [])
    else if op = 0x21 || inRange 0x30 0x32 op then ([], [leAt r.ext 0 1])
    else ([], [])
  | _ => ([], [])

/-- An engine evaluates its next record, when that is of the step's kind; one that reads a damaged state record for it is failed instead (R301). -/
def State.evaluate (s : State) (e : EngineId) (ok : InRec → Bool) (f : InRec → State → State) : State :=
  match s.headRec e with
  | none => s
  | some r =>
    if !ok r then s
    else if s.failsCrc e (s.recReads r) then s.failEngine e 2
    else (f r (s.runStart e r)).evaluated e r.isn

/-! ## Source records (R213) -/

/-- One head's points, in list order. -/
def State.feed (s : State) (e : EngineId) (r : InRec) (type index : Nat) (input : PCfg → PtInput) : State :=
  (s.fanout type index).foldl (fun s p =>
    if 81919 < p then s else
    let c := s.pcfg p
    if !c.valid p then s.noteInvalid e c.raw 64
    else if !c.enable || c.srcType != type || c.srcIndex != index || (s.pt e p).has Sub.forced then s
    else (s.applyInput e r p c (input c)).1) s

/-- SAMPLE: value and flags of one channel definition (R171, Table 6-10). -/
def State.onSample (s : State) (e : EngineId) (r : InRec) : State :=
  let v := BitVec.ofNat 32 (r.pay 0x18 4)
  s.feed e r 1 r.srcIndex (fun c => { settling := bitAt r.flags 0, bad := bitAt r.flags 1, value := c.scale v })

/-- DI_CHANGE: one head per changed channel, then accept sources and presses (R213, R257, R258, R358). -/
def State.onDiChange (s : State) (e : EngineId) (r : InRec) : State :=
  let bit := fun o i => (r.pay o 2).testBit i
  let chs := (List.range 16).filter (bit 0x1A)
  let s := chs.foldl (fun s i =>
    s.feed e r 2 (16 * r.srcIndex + i) (fun _ => { value := boolF (bit 0x18 i) })) s
  if (r.pay 0x1E 1).testBit 1 || (r.pay 0x1E 1).testBit 2 then s
  else s.acceptSources e r ((chs.filter (bit 0x18)).map (fun i => 16 * r.srcIndex + i)) []

/-- COUNT: the rate of one counter (R359). -/
def State.onCount (s : State) (e : EngineId) (r : InRec) : State :=
  s.feed e r 3 r.srcIndex (fun c => { value := c.scale (BitVec.ofNat 32 (r.pay 0x1C 4)) })

/-! ## CAN signals (R399-R402) -/

/-- Positions of a field's bits, least significant first (R400). -/
def sigBits (big : Bool) (start len : Nat) : List Nat :=
  if big then
    let rec go : Nat → Int → List Nat → List Nat
      | 0, _, acc => acc
      | n + 1, q, acc => go n (if q % 8 = 0 then q + 15 else q - 1) (q.toNat :: acc)
    go len start []
  else span start len

/-- The number that a field's bits make. -/
def sigField (data : List Byte) (ps : List Nat) : Nat :=
  ps.foldr (fun p acc => 2 * acc + b2n (bitAt (byteAt data (p / 8)) (p % 8))) 0

structure SigDef where
  ident : Nat
  ide : Bool
  anyId : Bool
  start : Nat
  len : Nat
  big : Bool
  type : Nat
  muxStart : Nat
  muxLen : Nat
  muxBig : Bool
  muxVal : Nat
  raw : List Byte
  deriving DecidableEq, Repr

/-- A signal definition (Table 13-15). -/
def SigDef.ofBytes (l : List Byte) : SigDef :=
  let id := u32At l 0
  let m := u32At l 8
  let f := byteAt l 7
  { ident := fld id 0 29, ide := bitAt id 29, anyId := bitAt id 30, start := fld (u16At l 4) 0 9, len := leAt l 6 1,
    big := bitAt f 0, type := fld f 1 2, muxStart := fld m 0 9, muxLen := fld m 9 4, muxBig := bitAt m 13,
    muxVal := fld m 14 8, raw := l }

def SigDef.bits (d : SigDef) : List Nat := sigBits d.big d.start d.len
def SigDef.mux (d : SigDef) : List Nat := sigBits d.muxBig d.muxStart d.muxLen

/-- The rule of Table 13-16 that a definition breaks first, 0 when none. -/
def SigDef.rule (d : SigDef) : Nat :=
  let l := d.raw
  if !crcOk l 16 then 1
  else if !d.ide && decide (0x7FF < d.ident) then 2
  else if d.len = 0 || decide (32 < d.len) || d.type = 3 || (d.type = 2 && d.len != 32) || d.bits.any (fun p => decide (511 < p)) then 3
  else if decide (8 < d.muxLen) || decide (2 ^ d.muxLen ≤ d.muxVal)
      || (d.muxLen = 0 && (d.muxStart != 0 || d.muxBig)) || d.mux.any (fun p => decide (511 < p)) then 4
  else if bitAt (u32At l 0) 31 || fld (u16At l 4) 9 7 != 0 || fld (byteAt l 7) 3 5 != 0 || fld (u32At l 8) 22 10 != 0 then 5
  else 0

/-- Some bit lies beyond the data bytes. -/
def beyond (ps : List Nat) (len : Nat) : Bool := ps.any (fun p => decide (8 * len ≤ p))

/-- The physical value of a raw field (R400). -/
def SigDef.value (d : SigDef) (x : Nat) : F32 :=
  if d.type = 2 then BitVec.ofNat 32 x
  else if d.type = 1 then F32.ofInt (sext d.len x)
  else F32.ofNat x

/-- What a definition delivers from a frame: nothing, a FAULT_INPUT, or a value (R402). -/
def SigDef.extract (d : SigDef) (id : U32) (len : Nat) (data : List Byte) : Option (Option F32) :=
  if d.rule != 0 then some none
  else if !d.anyId && (d.ident != fld id 0 29 || d.ide != bitAt id 29) then none
  else if d.muxLen != 0 && (beyond d.mux len || sigField data d.mux != d.muxVal) then none
  else if beyond d.bits len then some none
  else some (some (d.value (sigField data d.bits)))

/-- CAN_FRAME: the candidate signals in ascending order, then accept sources (R402, R257). -/
def State.onCanFrame (s : State) (e : EngineId) (r : InRec) : State :=
  let id := BitVec.ofNat 32 (r.pay 0x18 4)
  let len := dlcLength (bitAt id 30) false (r.pay 0x1C 1 % 16)
  let (s, acc) := (span (r.pay 0x1E 2) (r.pay 0x1D 1)).foldl (fun (a : State × List Nat) k =>
    let (s, acc) := a
    let d := SigDef.ofBytes (s.tarnSee (Tarn.CAN_SIG + 16 * k) 16)
    let s := s.noteInvalid e d.raw 16
    match d.extract id len r.ext with
    | none => (s, acc)
    | some none => ((s.bumpView e Reg.CAN_SIG_FAULT_CNT).feed e r 4 k (fun _ => { bad := true }), acc)
    | some (some v) =>
      (s.feed e r 4 k (fun c => { value := c.scale v }),
        if F32.isFinite v && !F32.eq v 0 then acc ++ [k] else acc)) (s, [])
  s.acceptSources e r [] acc

/-! ## Engine-wide state (Tables 9-7, 11-3) -/

/-- The extension of a SNAPSHOT_MARK (Table 9-7). -/
def Engine.wide (x : Engine) (mac : U64) (epoch : Nat) : List Byte :=
  leBytes 8 x.nextEsn.toNat ++ leBytes 8 x.lastTick.toNat ++ leBytes 8 mac.toNat
    ++ [BitVec.ofNat 8 x.custN, BitVec.ofNat 8 (b2n x.groupRefresh + 2 * b2n x.nodeRefresh)] ++ leBytes 2 epoch
    ++ leBytes 4 x.withheldCnt.toNat ++ leBytes 2 x.sealNo.toNat
    ++ [x.tickEpoch.zeroExtend 8, x.tickQual.zeroExtend 8] ++ leBytes 4 x.tickCap.toNat ++ leBytes 8 x.tickRel.toNat ++ zeros 16

/-- The 36 bytes of a group state half that STATE_CRC covers (Table 8-4). -/
def GrState.body (x : GrState) : List Byte :=
  [x.worst, x.gflags, x.callState, 0] ++ leBytes 4 x.firstOut.toNat ++ leBytes 4 x.activeCnt.toNat
    ++ leBytes 4 x.unackedCnt.toNat ++ leBytes 4 x.faultCnt.toNat ++ leBytes 2 x.floodCnt.toNat
    ++ leBytes 2 x.floodTimer.toNat ++ leBytes 2 x.blockTimer.toNat ++ leBytes 2 x.callTimer.toNat
    ++ leBytes 2 x.canTimer.toNat ++ leBytes 2 x.newCnt.toNat ++ zeros 4

def GrState.bytes (x : GrState) : List Byte := x.body ++ leBytes 4 (crc32 x.body ^^^ x.crcFlip).toNat

/-- Bytes of a region's records `lo`, …, `lo + n − 1`; zeros while the region is not live (R94, R246). -/
def Region.bytes {α : Type} (g : Region α) (f : α → List Byte) (size lo n : Nat) : List Byte :=
  if !g.live then zeros (size * n) else
  let d := f g.dflt
  (span lo n).foldr (fun i acc => (match Sparse.find g.cells i with | some x => f x | none => d) ++ acc) []

/-- The first eight bytes of SHA-256. -/
def hash8 (l : List Byte) : U64 := u64At (sha256 l) 0

/-- The checkpoint hashes H0-H21 (Table 11-3). -/
def State.stateHashes (s : State) (e : EngineId) : List U64 :=
  let x := s.eng e
  (List.range 20).map (fun b => hash8 (x.pts.bytes PtState.bytes 32 (4096 * b) 4096))
    ++ [hash8 (x.grs.bytes GrState.bytes 40 0 256),
        hash8 (leBytes 8 x.nextEsn.toNat ++ leBytes 8 x.lastTick.toNat ++ leBytes 4 x.withheldCnt.toNat
          ++ leBytes 2 s.evalEpoch ++ leBytes 2 x.sealNo.toNat
          ++ [BitVec.ofNat 8 x.custN, BitVec.ofNat 8 (b2n x.groupRefresh + 2 * b2n x.nodeRefresh)] ++ zeros 6)]

/-! ## TICKs (R214, R252, R269, R278, R284, R287, R317) -/

/-- ENGINE_HEALTH (Table 10-7). -/
def State.health (s : State) (e : EngineId) (r : InRec) (atStatus : Bool) : State :=
  let x := s.eng e
  s.putNode e { s.baseEvent e r Ev.engineHealth nodeIndex with
    stNew := x.stHolder, stOld := x.stSvc, sub := BitVec.ofNat 16 (x.stCause.toNat + 256 * b2n atStatus),
    value := F32.ofNat x.unreported }

/-- TICK_NO. -/
def InRec.tickNo (r : InRec) : Nat := r.payload.toNat

/-- What a TICK's evaluation begins with, once: its values are taken, and a changed TIME_EPOCH is reported (Table 14-1). -/
def State.enterTick (s : State) (e : EngineId) (r : InRec) : State :=
  let x := s.eng e
  if x.lastTick = r.payload then s else
  let q : BitVec 3 := BitVec.ofNat 3 (leAt r.ext 0xC 1)
  let ep : BitVec 6 := BitVec.ofNat 6 (leAt r.ext 0xD 1)
  let s := s.updEng e (fun x => { x with lastTick := r.payload, tickRel := BitVec.ofNat 48 (leAt r.ext 0 8),
                                         tickCap := u32At r.ext 8, tickQual := q, tickEpoch := ep, opened := [],
                                         sweepAt := 0, groupAt := 0, tickStage := 0 })
  if ep = x.tickEpoch then s
  else
    let room := decide (0 < (s.eng e).room)
    let s := s.putNode e { s.baseEvent e r Ev.timeStep nodeIndex with
      stNew := q.zeroExtend 8, stOld := x.tickQual.zeroExtend 8,
      sub := BitVec.ofNat 16 (ep.toNat + 64 * x.tickEpoch.toNat), custody := true }
    s.countCustody e r room

/-- The periodic seal (R287). -/
def State.sealTick (s : State) (e : EngineId) (r : InRec) : State :=
  let p := s.rfld Reg.CUST_CTL 0 16
  if p != 0 && r.tickNo % (1000 * p) == 0 && (s.eng e).custN != 0 then s.putSeal e r 1 else s

/-- The periodic health report (R317). -/
def State.healthTick (s : State) (e : EngineId) (r : InRec) : State :=
  let p := s.rfld Reg.SKINK_CTL 16 16
  if p != 0 && r.tickNo % (1000 * p) == 0 then s.health e r false else s

/-- The checkpoint hashes of a TICK that is a checkpoint's (R326). -/
def State.tickHash (s : State) (e : EngineId) (r : InRec) : State :=
  match s.spawn.ckptDue with
  | some (isn, _) => if isn = r.isn then s.updEng e (fun x => { x with hashes := s.stateHashes e ++ [(s.eng e).nextEsn.zeroExtend 64, BitVec.ofNat 64 s.evalEpoch] }) else s
  | none => s

/-- Both sweeps, new totals for the next one (R247), the checkpoint hash and the refresh. -/
def State.tickRefresh (s : State) (e : EngineId) (r : InRec) : State :=
  let s := s.sweepGroups e r 256
  if 1 ≤ (s.eng e).tickStage then s else
  (((s.updEng e (fun x => { x with totals := [], opened := [] })).tickHash e r).refresh e r).updEng e
    (fun x => { x with tickStage := 1 })

/-- All that comes before the periodic seal. -/
def State.tickHealth (s : State) (e : EngineId) (r : InRec) : State :=
  let s := s.tickRefresh e r
  if 2 ≤ (s.eng e).tickStage then s else (s.healthTick e r).updEng e (fun x => { x with tickStage := 2 })

/-- All of a TICK's evaluation. -/
def State.tickSeal (s : State) (e : EngineId) (r : InRec) : State :=
  let s := s.tickHealth e r
  if 3 ≤ (s.eng e).tickStage then s else (s.sealTick e r).updEng e (fun x => { x with tickStage := 3 })

/-- A TICK: the point visit, the group sweep, the checkpoint hash, the refresh, and what falls due, each once and in this order (R214, R252). -/
def State.onTick (s : State) (e : EngineId) (r : InRec) : State :=
  let s := (s.enterTick e r).tickSeal e r
  let (n, s) := s.draw
  (s.recordMax (Reg.AE_SWEEP_MAX (engIx e)) (min 820000 (Config.freeSweep n).toNat)).updEng e
    (fun x => { x with tickAt := s.frcNat })

/-- A part of a TICK's evaluation as a step of its own, when a TICK is the engine's next record: all that the sweep's order puts before the part is done first, so that every choice of such steps gives the events of the one evaluation (R40). -/
def State.inTick (s : State) (e : EngineId) (f : InRec → State → State) : State :=
  match s.headRec e with
  | some r =>
    if r.kind != Kind.tick then s
    else if s.failsCrc e (s.recReads r) then s.failEngine e 2
    else f r ((s.runStart e r).enterTick e r)
  | none => s

/-! ## Commands (R227, R262) -/

/-- Status and state that a command's evaluation gives. -/
abbrev Eval := Nat × State

/-- The arguments of a command record: BODY holds the 56 B ARGS (Table 9-5). -/
def InRec.desc (r : InRec) : Desc :=
  { opcode := 0, fence := false, irqNow := false, force := false, tag := 0, raw := zeros 8 ++ r.ext.take 56 }

/-- POINT: an index in range and bits [31:17] zero. -/
def Desc.pointOk (d : Desc) : Bool := decide (d.arg 8 4 < 81920)
def Desc.point (d : Desc) : Nat := d.arg 8 4

/-- A point is DISABLED, or its record is not valid. -/
def PCfg.unusable (c : PCfg) (p : Nat) : Bool := !c.on || !c.valid p

/-- ACK of a point (R226). -/
def State.ackPoint (s : State) (e : EngineId) (r : InRec) (p : Nat) : State :=
  let x := s.pt e p
  if !x.has Sub.unacked then s
  else
    let s := s.noteInvalid e (s.pcfg p).raw 64
    let c := (s.pcfg p).read p
    (s.setPt e r p (x.mark Sub.unacked false)).pointEvent e r p c.prio c.custody Ev.ack x.state x.state

def State.evalAckPoint (s : State) (e : EngineId) (r : InRec) : Eval :=
  let d := r.desc
  if !d.pointOk || !d.resv 0xC 52 then (Status.badArg, s) else (Status.ok, s.ackPoint e r d.point)

def State.evalShelve (s : State) (e : EngineId) (r : InRec) : Eval :=
  let d := r.desc
  let p := d.point
  let c := s.pcfg p
  let m := d.arg 0xC 2
  let s := if d.pointOk then s.noteInvalid e c.raw 64 else s
  if !d.pointOk || !d.resv 0xE 50 || m = 0 || (c.valid p && c.shelveMax != 0 && decide (c.shelveMax < m)) then
    (Status.badArg, s)
  else if c.unusable p || c.shelveMax = 0 then (Status.state, s)
  else
    let x := s.pt e p
    if x.has Sub.shelved then (Status.ok, s.setPt e r p { x with timer := BitVec.ofNat 16 m })
    else
      let y := { x.clearPend.mark Sub.shelved true with timer := BitVec.ofNat 16 m }
      (Status.ok, s.report_ e r p c (if c.latch then y else y.mark Sub.unacked false) x.state false)

def State.evalUnshelve (s : State) (e : EngineId) (r : InRec) : Eval :=
  let d := r.desc
  let p := d.point
  if !d.pointOk || !d.resv 0xC 52 then (Status.badArg, s)
  else if !(s.pt e p).has Sub.shelved then (Status.state, s)
  else (Status.ok, (s.noteInvalid e (s.pcfg p).raw 64).endShelve e r p (s.pcfg p))

/-- FORCE_POINT, MODE 1 (R231): one event carries the FORCED change and a transition. -/
def State.force (s : State) (e : EngineId) (r : InRec) (p : Nat) (c : PCfg) (v : F32) : State :=
  let x := s.pt e p
  let d := c.usable (x.mark Sub.forced true) v
  match d.move with
  | some t => s.moveTo e r p c d.pt t
  | none => if x.has Sub.forced then s.setPt e r p d.pt else s.report_ e r p c d.pt x.state false

def State.evalForcePoint (s : State) (e : EngineId) (r : InRec) : Eval :=
  let d := r.desc
  let p := d.point
  let c := s.pcfg p
  let mode := d.arg 0xE 1
  let v := u32At d.raw 0x10
  let binary := F32.eq v 0 || F32.eq v 0x3F800000
  let s := if d.pointOk then s.noteInvalid e c.raw 64 else s
  if !d.pointOk || !d.resv 0xC 2 || !d.resv 0xF 1 || !d.resv 0x14 44 || decide (1 < mode)
      || !F32.isFinite v || (c.valid p && c.digital && !binary) then (Status.badArg, s)
  else if c.unusable p || (mode = 0 && !(s.pt e p).has Sub.forced) then (Status.state, s)
  else if mode = 1 then (Status.ok, s.force e r p c v)
  else
    let x := s.pt e p
    (Status.ok, s.report_ e r p c (x.mark Sub.forced false) x.state false)

/-- POINT_READ (R238): the engine's own part of the 192 B image. -/
def State.evalPointRead (s : State) (e : EngineId) (r : InRec) : Eval :=
  let d := r.desc
  let p := d.point
  if !d.pointOk || !d.resv 0xC 4 || !d.resv 0x18 40 || !d.aligned 0x10 then (Status.badArg, s)
  else
    let base := leBytes 8 r.isn.toNat ++ zeros 8 ++ leBytes 2 s.evalEpoch ++ zeros 46
      ++ s.tarnSee (Tarn.POINT_CFG + 64 * p) 64 ++ zeros 64
    let add := fun (img : List Byte) =>
      patch (patch img (0x80 + 32 * engIx e) (s.pt e p).bytes) 8 [byteAt img 8 ||| BitVec.ofNat 8 (engNo e)]
    (Status.ok, { s with hif := { s.hif with running := s.hif.running.map (fun x =>
      if !x.dir && x.isn == r.isn then { x with img := add (if x.img.isEmpty then base else x.img), addr := d.arg 0x10 8 }
      else x) } })

/-- The group of a command, when it is enabled and valid (Table 8-13). -/
def State.groupReady (s : State) (e : EngineId) (g : Nat) : Bool :=
  let c := s.gcfg g
  c.enable && c.valid && !(s.gr e g).has G.cfgFault

/-- ACK_GROUP: the members of the group, ascending (R247, R262). -/
def State.ackMembers (s : State) (e : EngineId) (r : InRec) (g : Nat) : State :=
  s.points.foldl (fun s p =>
    let c := s.pcfg p
    if !c.on then s
    else if !c.valid p then s.noteInvalid e c.raw 64
    else if c.group = g then s.ackPoint e r p else s) s

def State.evalAckGroup (s : State) (e : EngineId) (r : InRec) : Eval :=
  let d := r.desc
  let g := d.arg 8 1
  let mode := d.arg 9 1
  let s := s.noteGroup e g
  if !d.resv 0xA 54 || decide (1 < mode) then (Status.badArg, s)
  else if !s.groupReady e g then (Status.state, s)
  else
    let s := if mode = 0 then s.ackMembers e r g else s
    (Status.ok, if calling (s.gr e g).callState then s.callTo e r g (s.gcfg g) Call.accepted Cause.ackGroup else s)

def State.evalCallManual (s : State) (e : EngineId) (r : InRec) : Eval :=
  let d := r.desc
  let g := d.arg 8 1
  let t := d.arg 9 1
  let c := s.gcfg g
  let s := s.noteGroup e g
  if !d.resv 0xA 54 || t = 0 || (decide (c.nStages < t) && decide (t ≤ 6)) || decide (8 < t) then (Status.badArg, s)
  else if !s.groupReady e g || !c.callEn || c.deadman || calling (s.gr e g).callState then (Status.state, s)
  else (Status.ok, s.callTo e r g c (BitVec.ofNat 8 t) Cause.manual)

def State.evalCallSilence (s : State) (e : EngineId) (r : InRec) : Eval :=
  let d := r.desc
  let g := d.arg 8 1
  let s := s.noteGroup e g
  if !d.resv 9 55 then (Status.badArg, s)
  else if !s.groupReady e g || !calling (s.gr e g).callState then (Status.state, s)
  else (Status.ok, s.callTo e r g (s.gcfg g) Call.silenced Cause.silence)

def State.evalDeadmanReset (s : State) (e : EngineId) (r : InRec) : Eval :=
  let d := r.desc
  let g := d.arg 8 1
  let c := s.gcfg g
  let s := s.noteGroup e g
  if !d.resv 9 55 then (Status.badArg, s)
  else if !s.groupReady e g || !c.deadman || !c.callEn || (s.gr e g).has G.blocked then (Status.state, s)
  else (Status.ok, s.press e r g c)

/-- A host command's record of a given opcode. -/
def InRec.isCmd (r : InRec) (opcode : Nat) : Bool :=
  r.kind == Kind.cmd && r.srcType == 6 && r.pay 0x18 2 == opcode

/-- An engine evaluates a REC command; the status goes into its completion (R120). -/
def State.evalCmd (s : State) (e : EngineId) (opcode : Nat) (f : InRec → State → Eval) : State :=
  s.evaluate e (fun r => r.isCmd opcode) (fun r s =>
    let (st, s) := f r s
    { s with hif := { s.hif with running := s.hif.running.map (fun x =>
        if !x.dir && x.isn == r.isn then { x with status := BitVec.ofNat 16 st } else x) } })

/-- The opcodes of REC commands (Table 4-7). -/
def isRecOp (op : Nat) : Bool := op == 0x11 || inRange 0x20 0x24 op || inRange 0x30 0x32 op

/-- What an engine does with a REC command's record. -/
def State.evalOp (s : State) (op : Nat) (e : EngineId) (r : InRec) : Eval :=
  match op with
  | 0x11 => s.evalPointRead e r
  | 0x20 => s.evalAckPoint e r
  | 0x21 => s.evalAckGroup e r
  | 0x22 => s.evalShelve e r
  | 0x23 => s.evalUnshelve e r
  | 0x24 => s.evalForcePoint e r
  | 0x30 => s.evalCallManual e r
  | 0x31 => s.evalCallSilence e r
  | _ => s.evalDeadmanReset e r

/-! ## Marks (R276, R330, R343) -/

/-- The mark's extension is filled in, in the stream and in the journal. -/
def State.fillMark (s : State) (isn : U64) (ext : List Byte) : State :=
  let s := { s with inlet := { s.inlet with
    stream := s.inlet.stream.map (fun (r : InRec) => if r.isn = isn && r.kind = Kind.mark then { r with ext := ext } else r) } }
  s.updSpawn (fun p =>
    let fill := fun (b : List Byte) =>
      if b.length = 96 && u64At b 0 = isn && byteAt b 0x14 = Kind.mark then b.take 32 ++ ext else b
    let ckpt := fun (u : SpawnUnit) =>
      if u.kind = 2 && !u.closed && decide (384 ≤ u.bytes.length) && u64At u.bytes 288 = isn then
        let l := patch u.bytes 320 ext
        { u with bytes := l, closed := l.length == 416 }
      else u
    { p with ring := p.ring.map fill, behind := p.behind.map fill, units := p.units.map ckpt })

/-- An engine's engine-wide state as a mark carries it. -/
def State.wideOf (s : State) (e : EngineId) : List Byte := (s.eng e).wide (s.chainNow e).mac s.evalEpoch

/-- The mark is the present snapshot's: the latest admitted one, not an abandoned one (R332). -/
def State.snapMark (s : State) (isn : U64) : Bool :=
  s.spawn.snapping && s.spawn.journaling && isn == s.pair Reg.SPAWN_MARK_ISN_LO Reg.SPAWN_MARK_ISN_HI

/-- The mark is evaluated: the source engine fills it and its state is staged; the other engine waits for that and checks its own state (R276). -/
def State.evalMark (s : State) (e : EngineId) : State :=
  match s.headRec e with
  | none => s
  | some r =>
    if r.kind != Kind.mark then s
    else if r.ext.isEmpty then
      if s.sourceEng != some e then s
      else
        let s := s.runStart e r
        let s := s.fillMark r.isn (s.wideOf e)
        let s := if s.snapMark r.isn then
            (s.lineWritten s.shareBase stagingSize).updSpawn (fun p => { p with staging := some (e, (s.eng e).pts, (s.eng e).grs, r.isn) })
          else s
        ((s.setRegFld Reg.SPAWN_STATUS 9 2 (engNo e)).updEng e Engine.atMark).evaluated e r.isn
    else
      let s := s.runStart e r
      if s.wideOf e = r.ext then (s.updEng e Engine.atMark).evaluated e r.isn else s.failEngine e 6

/-! ## Skink's records (R305-R310, R534) -/

def InRec.isResync (r : InRec) (func : Nat) : Bool := r.kind == Kind.resync && r.pay 0x18 1 == func

/-- ARG of a RESYNC record. -/
def InRec.arg (r : InRec) : U32 := BitVec.ofNat 32 (r.pay 0x1C 4)

/-- The last Skink status, which every RESYNC record carries (R305). -/
def State.takeStatus (s : State) (e : EngineId) (r : InRec) : State :=
  (s.updEng e (fun x => { x with stHolder := BitVec.ofNat 8 (r.pay 0x19 1), stSvc := BitVec.ofNat 8 (r.pay 0x1A 1),
                                 stCause := BitVec.ofNat 8 (r.pay 0x1B 1) })).setReg (Reg.AE_LAST_STATUS (engIx e))
    (packU32 [(r.pay 0x19 1, 0), (r.pay 0x1A 1, 8), (r.pay 0x1B 1, 16)])

/-- CRCs of a block's records: 1,024 points, or the 256 group halves (R307). -/
def Engine.auditCrcs (x : Engine) (b : Nat) : List U32 :=
  let crcs := fun {α : Type} (g : Region α) (f : α → List Byte) lo n =>
    let d := crc32 (f g.dflt)
    (span lo n).map (fun i => match Sparse.find g.cells i with | some y => crc32 (f y) | none => d)
  if b = 80 then crcs x.grs GrState.body 0 256 else crcs x.pts PtState.body (1024 * b) 1024

/-- A point record breaks a rule of Table 10-4. -/
def PtState.breaks (x : PtState) (c : PCfg) (p : Nat) : Bool :=
  let pend := x.has Sub.pendOn || x.has Sub.pendOff
  x.crcFlip != 0 || decide (8 < x.state.toNat) || (x.has Sub.pendOn && x.has Sub.pendOff)
    || (pend && x.timer == 0) || (!pend && !x.has Sub.shelved && x.timer != 0)
    || (c.on && c.valid p && !c.rate && !pend && decide (1 ≤ x.state.toNat) && decide (x.state.toNat ≤ 5)
        && x.state != c.target x.value x.state)
    || (x.has Sub.blocked && fld c.blockSrc 0 17 == 0x1FFFF)

/-- A group state half breaks rule 1, or rule 2 by its codes. -/
def GrState.breaks (x : GrState) : Bool := x.crcFlip != 0 || decide (8 < x.worst.toNat) || decide (10 < x.callState.toNat)

/-- The indices within the block, of those that a DIVERGE names, whose record breaks a rule. -/
def State.divergeBreaks (s : State) (e : EngineId) (arg : U32) : List Nat :=
  let b := fld arg 0 7
  let idx := span (fld arg 7 10) (fld arg 17 11)
  if b = 80 then (idx.filter (fun i => decide (i < 256))).filter (fun g => (s.gr e g).breaks)
  else (idx.filter (fun i => decide (i < 1024))).filter (fun i =>
    let p := 1024 * b + i
    decide (p < 81920) && (s.pt e p).breaks (s.pcfg p) p)

/-- The engine reads the configuration records of the points named (rule 4 of Table 10-4, R302). -/
def State.divergeReads (s : State) (e : EngineId) (arg : U32) : State :=
  let b := fld arg 0 7
  if b = 80 then s else
    (((span (fld arg 7 10) (fld arg 17 11)).filter (fun i => decide (i < 1024))).map (1024 * b + ·)).foldl
      (fun s p => if p < 81920 then s.noteInvalid e (s.pcfg p).raw 64 else s) s

/-- A report of the indices that broke a rule, behind those that Skink has not taken yet. -/
def Engine.reportOf (x : Engine) (broken : List Nat) : Engine :=
  if x.report.isNone then { x with report := some broken } else { x with reports := x.reports ++ [broken] }

/-- The DIVERGE event, then the check of the engine's own records (R308); with one engine in service it decides nothing. -/
def State.onDiverge (s : State) (e : EngineId) (r : InRec) : State :=
  let a := r.arg
  let s := s.putNode e { s.baseEvent e r Ev.diverge nodeIndex with
    stNew := BitVec.ofNat 8 (fld a 0 7), stOld := BitVec.ofNat 8 (fld a 28 1), sub := BitVec.ofNat 16 (fld a 7 10),
    value := F32.ofNat (fld a 17 11) }
  let s := s.divergeReads e a
  let broken := s.divergeBreaks e a
  let s := if broken.isEmpty then s else s.bump (Reg.AE_AUDIT_BREAK_CNT (engIx e))
  if s.mgmt = Node.replay then s
  else if s.bothServe then s.updEng e (fun x => x.reportOf broken)
  else s.divergeDone false

/-- A point's state record reset as rows 1 and 2 of Table 7-18 say, with its event; UNREPORTED, COALESCED and LAST_ESN stay. -/
def State.resetPoint (s : State) (e : EngineId) (r : InRec) (p prio : Nat) (custody : Bool) (st : Byte) : State :=
  let x := s.pt e p
  let y : PtState := { state := st, sub := x.sub &&& 0x20, lastEsn := x.lastEsn, coalesced := x.coalesced, lastIsn := x.lastIsn }
  (s.setPt e r p y).pointEvent e r p prio custody Ev.pointTransition st x.state

/-- A named record reset in the engine's own region (R534). -/
def State.onRepair (s : State) (e : EngineId) (r : InRec) : State :=
  let b := fld r.arg 0 7
  let i := fld r.arg 7 10
  if b = 80 then (if i < 256 then (s.noteGroup e i).resetHalf e r i (s.gcfg i) true else s)
  else
    let p := 1024 * b + i
    if p < 81920 then
      let s := s.noteInvalid e (s.pcfg p).raw 64
      let c := (s.pcfg p).read p
      s.resetPoint e r p c.prio c.custody Pt.unknown
    else s

/-- SOURCE_GAP (R275): an event, and no change of point state. -/
def State.onSourceGap (s : State) (e : EngineId) (r : InRec) : State :=
  s.putNode e { s.baseEvent e r Ev.sourceGap nodeIndex with
    stNew := BitVec.ofNat 8 r.srcType, stOld := BitVec.ofNat 8 (r.pay 0x1E 1), sub := BitVec.ofNat 16 r.srcIndex,
    value := F32.ofNat (r.pay 0x1C 2) }

/-- STATUS (R305). -/
def State.onStatus (s : State) (e : EngineId) (r : InRec) : State := (s.takeStatus e r).health e r true

/-- COPY (R312): in RUN the engine is the source of the copy, and stops; in REPLAY no state moves (R344). -/
def State.onCopy (s : State) (e : EngineId) (r : InRec) : State :=
  let s := s.takeStatus e r
  match s.skink.copy with
  | some c =>
    if s.mgmt = Node.run && !c.started && c.target != e then
      (s.updEng e (fun x => { x with stopped := true })).updSkink (fun k =>
        { k with copy := some { c with source := e, isn := r.isn, started := true } })
    else s
  | none => s

/-- AUDIT (R307). -/
def State.onAudit (s : State) (e : EngineId) (r : InRec) : State :=
  let b := fld r.arg 0 7
  (s.takeStatus e r).updEng e (fun x => { x with audit := some (b, x.auditCrcs b) })

/-- A RESYNC record by its function. -/
def State.onResync (s : State) (e : EngineId) (r : InRec) : State :=
  match r.pay 0x18 1 with
  | 0 => s.onStatus e r
  | 1 => s.onCopy e r
  | 2 => s.onAudit e r
  | 3 => (s.takeStatus e r).onDiverge e r
  | _ => (s.takeStatus e r).onRepair e r

/-- Gecko's SEAL_REQUEST record (R287). -/
def InRec.isSeal (r : InRec) : Bool := r.kind == Kind.cmd && r.srcType == 8 && r.pay 0x18 2 == 0xFF01

/-- A record whose evaluation is one engine's own affair: neither a mark nor a record at which the engines meet. -/
def InRec.alone (r : InRec) : Bool := r.kind != Kind.mark && (r.kind != Kind.cmd || r.isSeal || isRecOp (r.pay 0x18 2))

/-- The evaluation of such a record by its kind. -/
def State.onRecord (s : State) (e : EngineId) (r : InRec) : State :=
  match r.kind.toNat with
  | 1 => s.onSample e r
  | 2 => s.onDiChange e r
  | 3 => s.onCount e r
  | 4 => s.onCanFrame e r
  | 5 => s.onTick e r
  | 7 => s.onSourceGap e r
  | 10 => s.onResync e r
  | _ => s.putSeal e r 2

/-- An engine's next record, whatever it is, as the rows of the table evaluate it one by one. -/
def State.evalNext (s : State) (e : EngineId) : State :=
  match s.headRec e with
  | none => s
  | some r =>
    if r.kind = Kind.mark then s.evalMark e
    else if !r.alone then s
    else if r.kind = Kind.cmd && r.srcType = 6 then s.evalCmd e (r.pay 0x18 2) (fun r s => s.evalOp (r.pay 0x18 2) e r)
    else s.evaluate e (fun _ => true) (fun r s => s.onRecord e r)

/-! ## The effect of a POINT_WRITE (R237) -/

/-- Rows 3 to 8 of Table 7-18. -/
def State.pointAdjust (s : State) (e : EngineId) (r : InRec) (p : Nat) (old new : PCfg) : State :=
  let x := s.pt e p
  let s := if (slice old.raw 0xC 24 != slice new.raw 0xC 24 || old.thEn != new.thEn) && !new.rate
      && decide (1 ≤ x.state.toNat) && decide (x.state.toNat ≤ 5) then
      (s.decide_ e r p new (new.towards x (new.target x.value x.state))).1
    else s
  let x := s.pt e p
  let s := if (old.onDelay, old.offDelay) != (new.onDelay, new.offDelay) && (x.has Sub.pendOn || x.has Sub.pendOff) then
      let t := min x.timer.toNat (if x.has Sub.pendOn then new.onDelay else new.offDelay)
      let s := s.setPt e r p { x with timer := BitVec.ofNat 16 t }
      if t = 0 then s.delayTick e r p new else s
    else s
  let x := s.pt e p
  let s := if old.shelveMax != new.shelveMax && x.has Sub.shelved then
      if new.shelveMax = 0 then s.endShelve e r p new
      else s.setPt e r p { x with timer := BitVec.ofNat 16 (min x.timer.toNat new.shelveMax) }
    else s
  let x := s.pt e p
  let s := if old.blockDelay != new.blockDelay then
      s.setPt e r p { x with blockTimer := BitVec.ofNat 16 (min x.blockTimer.toNat new.blockDelay) }
    else s
  let x := s.pt e p
  if old.latch && !new.latch && !new.alarm x.state then s.setPt e r p (x.mark Sub.unacked false) else s

/-- A member that a write moves between groups is first-out of neither until it raises a new alarm (R264). -/
def State.leaveGroup (s : State) (e : EngineId) (p : Nat) (old new : PCfg) : State :=
  if old.group = new.group then s
  else [old.group, new.group].foldl (fun s g => s.updGr e g (fun x =>
    if x.firstOut = BitVec.ofNat 32 p then { x with firstOut := noPoint } else x)) s

/-- Table 7-18. A write that leaves a DISABLED point not enabled changes none of its state and emits no event, whatever fields it changes (DESIGN CHOICE, log entry 81). -/
def State.pointWritten (s : State) (e : EngineId) (r : InRec) (p : Nat) (old new : PCfg) : State :=
  let s := s.leaveGroup e p old new
  if !new.on then
    if (s.pt e p).state = Pt.disabled then s else s.resetPoint e r p new.prio new.custody Pt.disabled
  else if !old.enable || old.srcType != new.srcType || old.srcIndex != new.srcIndex || old.invert != new.invert
      || old.rate != new.rate || !old.valid p then
    s.resetPoint e r p new.prio new.custody Pt.unknown
  else s.pointAdjust e r p old new

/-! ## The steps -/

def execEvalSample (e : EngineId) (s : State) : Host.Outcome State Fault Refusal :=
  .next (s.fresh.evaluate e (fun r => r.kind == Kind.sample) (fun r s => s.onSample e r))

def execEvalDiChange (e : EngineId) (s : State) : Host.Outcome State Fault Refusal :=
  .next (s.fresh.evaluate e (fun r => r.kind == Kind.diChange) (fun r s => s.onDiChange e r))

def execEvalCount (e : EngineId) (s : State) : Host.Outcome State Fault Refusal :=
  .next (s.fresh.evaluate e (fun r => r.kind == Kind.count) (fun r s => s.onCount e r))

def execEvalCanFrame (e : EngineId) (s : State) : Host.Outcome State Fault Refusal :=
  .next (s.fresh.evaluate e (fun r => r.kind == Kind.canFrame) (fun r s => s.onCanFrame e r))

def execEvalTick (e : EngineId) (s : State) : Host.Outcome State Fault Refusal :=
  .next (s.fresh.evaluate e (fun r => r.kind == Kind.tick) (fun r s => s.onTick e r))

/-- Due: a delay is running and this TICK counts it to 0. -/
def execDelayExpiry (e : EngineId) (p : Nat) (s : State) : Host.Outcome State Fault Refusal :=
  need (decide (p < 81920)) (s.fresh.inTick e (fun r s =>
    let c := s.pcfg p
    let x := s.pt e p
    if c.on && c.valid p && (x.has Sub.pendOn || x.has Sub.pendOff) && decide (x.timer.toNat ≤ 1) && r.tickNo % 10 == 0 then
      s.sweepPoints e r (p + 1)
    else s))

def execRateEvaluation (e : EngineId) (p : Nat) (s : State) : Host.Outcome State Fault Refusal :=
  need (decide (p < 81920)) (s.fresh.inTick e (fun r s =>
    let c := s.pcfg p
    if c.on && c.valid p && c.rate && r.tickNo % 1000 == p % 1000 then s.sweepPoints e r (p + 1)
    else s))

/-- Due: the block condition has ended and this TICK counts BLOCK_TIMER to 0. -/
def execBlockDelayExpiry (e : EngineId) (p : Nat) (s : State) : Host.Outcome State Fault Refusal :=
  need (decide (p < 81920)) (s.fresh.inTick e (fun r s =>
    let c := s.pcfg p
    let x := s.pt e p
    if c.on && c.valid p && x.has Sub.blocked && (x.blockTimer == 0 || (x.blockTimer == 1 && r.tickNo % 1000 == 0)) then
      s.sweepPoints e r (p + 1)
    else s))

def execShelveExpiry (e : EngineId) (p : Nat) (s : State) : Host.Outcome State Fault Refusal :=
  need (decide (p < 81920)) (s.fresh.inTick e (fun r s =>
    let c := s.pcfg p
    let x := s.pt e p
    if c.on && c.valid p && x.has Sub.shelved && decide (x.timer.toNat ≤ 1) && r.tickNo % 60000 == 0 then
      s.sweepPoints e r (p + 1)
    else s))

def execGroupBlockExpiry (e : EngineId) (g : Nat) (s : State) : Host.Outcome State Fault Refusal :=
  need (decide (g < 256)) (s.fresh.inTick e (fun r s =>
    let x := s.gr e g
    if s.groupReady e g && x.has G.blocked && (x.blockTimer == 0 || (x.blockTimer == 1 && r.tickNo % 1000 == 0)) then
      s.sweepGroups e r (g + 1)
    else s))

def execFloodWindowClose (e : EngineId) (g : Nat) (s : State) : Host.Outcome State Fault Refusal :=
  need (decide (g < 256)) (s.fresh.inTick e (fun r s =>
    if s.groupReady e g && (s.gr e g).floodTimer == 1 && r.tickNo % 1000 == 0 then s.sweepGroups e r (g + 1) else s))

def execCallTimeout (e : EngineId) (g : Nat) (s : State) : Host.Outcome State Fault Refusal :=
  need (decide (g < 256)) (s.fresh.inTick e (fun r s =>
    let x := s.gr e g
    if s.groupReady e g && calling x.callState && x.callState != Call.bridge && x.callTimer == 1 && r.tickNo % 1000 == 0 then
      s.sweepGroups e r (g + 1)
    else s))

def execCallFrameRepeat (e : EngineId) (g : Nat) (s : State) : Host.Outcome State Fault Refusal :=
  need (decide (g < 256)) (s.fresh.inTick e (fun r s =>
    let x := s.gr e g
    if s.groupReady e g && calling x.callState && x.canTimer == 1 && r.tickNo % 1000 == 0
        && (x.callState == Call.bridge || x.callTimer != 1) then
      s.sweepGroups e r (g + 1)
    else s))

/-- Due: an unblocked dead-man session whose period this TICK counts down to `left`. -/
def State.dmDue (s : State) (e : EngineId) (r : InRec) (g left : Nat) : Bool :=
  let c := s.gcfg g
  let x := s.gr e g
  s.groupReady e g && c.deadman && c.callEn && !x.has G.blocked && x.callState == Call.idle
    && x.callTimer.toNat == left + 1 && r.tickNo % 1000 == 0

def execDeadmanWarn (e : EngineId) (g : Nat) (s : State) : Host.Outcome State Fault Refusal :=
  need (decide (g < 256)) (s.fresh.inTick e (fun r s =>
    let c := s.gcfg g
    if c.dmWarn != 0 && s.dmDue e r g c.dmWarn then s.sweepGroups e r (g + 1) else s))

def execDeadmanExpiry (e : EngineId) (g : Nat) (s : State) : Host.Outcome State Fault Refusal :=
  need (decide (g < 256)) (s.fresh.inTick e (fun r s =>
    if s.dmDue e r g 0 then s.sweepGroups e r (g + 1) else s))

def execSealPeriodExpiry (e : EngineId) (s : State) : Host.Outcome State Fault Refusal :=
  .next (s.fresh.inTick e (fun r s => s.tickSeal e r))

def execHealthPeriodExpiry (e : EngineId) (s : State) : Host.Outcome State Fault Refusal :=
  .next (s.fresh.inTick e (fun r s => s.tickHealth e r))

def execEvalSourceGap (e : EngineId) (s : State) : Host.Outcome State Fault Refusal :=
  .next (s.fresh.evaluate e (fun r => r.kind == Kind.sourceGap) (fun r s => s.onSourceGap e r))

def execEvalSnapshotMark (e : EngineId) (s : State) : Host.Outcome State Fault Refusal := .next (s.fresh.evalMark e)

def execEvalSealRequest (e : EngineId) (s : State) : Host.Outcome State Fault Refusal :=
  .next (s.fresh.evaluate e InRec.isSeal (fun r s => s.putSeal e r 2))

def execEvalResyncStatus (e : EngineId) (s : State) : Host.Outcome State Fault Refusal :=
  .next (s.fresh.evaluate e (fun r => r.isResync Resync.status) (fun r s => s.onStatus e r))

def execEvalResyncCopy (e : EngineId) (s : State) : Host.Outcome State Fault Refusal :=
  .next (s.fresh.evaluate e (fun r => r.isResync Resync.copy) (fun r s => s.onCopy e r))

def execEvalAudit (e : EngineId) (s : State) : Host.Outcome State Fault Refusal :=
  .next (s.fresh.evaluate e (fun r => r.isResync Resync.audit) (fun r s => s.onAudit e r))

def execEvalDiverge (e : EngineId) (s : State) : Host.Outcome State Fault Refusal :=
  .next (s.fresh.evaluate e (fun r => r.isResync Resync.diverge) (fun r s => (s.takeStatus e r).onDiverge e r))

def execEvalRepair (e : EngineId) (s : State) : Host.Outcome State Fault Refusal :=
  .next (s.fresh.evaluate e (fun r => r.isResync Resync.repair) (fun r s => (s.takeStatus e r).onRepair e r))

end Sys2Proof.Machine
end

