-- ==== Sys2Proof/Machine/Intake.lean ====
section
/-! DEFINITION. Command intake: descriptor fetching, the order in which CTRL takes commands, their acceptance by node state, and completions (R105, R115-R124, R505). -/

namespace Sys2Proof.Machine

/-! ## Fetching descriptors (R105, R119, R123, R135) -/

/-- Prefetch quota of a host-to-node ring: 16 until QUOTA_SET changes it. -/
def State.prefetchQuota (s : State) (n : Nat) : Nat := Sparse.get 16 s.hif.prefetch n

/-- Descriptors prefetched and not yet consumed, those still on their way included. -/
def State.prefetched (s : State) (n : Nat) : Nat := (s.fetchedOf n).length + Sparse.get 0 s.hif.fetching n

/-- OVER_QUOTA of a ring: from a cut of its quota below its use until its use falls below the quota (R32, R504). -/
def State.prefetchOver (s : State) (n : Nat) : Bool :=
  isHostToNode n && s.hif.prefetchCut.contains n && decide (s.prefetchQuota n ≤ s.prefetched n)

/-- Completions that the commands in the node have given or will give (R123). -/
def State.cmplLoad (s : State) : Nat :=
  s.hif.kept.length + s.hif.ready.length + s.hif.running.length + s.inlet.cmds.length

/-- Completions kept until the host has consumed them, those not yet in the ring included (R123). -/
def State.cmplKept (s : State) : Nat := s.hif.kept.length + s.hif.ready.length

/-- A command that found Inlet's 64 record credits used up waits: CTRL takes no later one, and HIF fetches none (R26, R119). -/
def State.cmdWaits (s : State) : Bool := s.inlet.cmds.any CmdUnit.waits

/-- Descriptors that HIF may fetch from a host-to-node ring now. -/
def State.fetchable (s : State) (n : Nat) : Nat :=
  let out := s.prefetched n
  if !isHostToNode n || !s.ringActive n || !s.hif.linkUp || !s.rbit Reg.HIF_CTL 0 || s.mgmt == Node.activating then 0
  else
    let avail := (s.hostIdx n - s.reg (Reg.RING_NODE_IDX n)).toNat - out
    if n = 0 && (decide (256 ≤ s.cmplKept) || s.cmdWaits) then 0 else min avail (s.prefetchQuota n - out)

/-- HIF issues the descriptor fetches that are possible on a ring. -/
def State.fetchMore (s : State) (n : Nat) : State :=
  let k := s.fetchable n
  let first := s.reg (Reg.RING_NODE_IDX n) + BitVec.ofNat 32 (s.prefetched n)
  if k = 0 then s
  else { s with hif := { s.hif with fetching := Sparse.upd 0 s.hif.fetching n (· + k)
                                    prefetchCut := s.hif.prefetchCut.filter (· != n) } }.emitOut
    (.fetch n ((List.range k).map (fun j => s.ringSlot n (first + BitVec.ofNat 32 j))))

/-- The oldest waiting descriptor is consumed, and its place in the quota serves the next fetch. -/
def State.takeHead (s : State) (n : Nat) : State := (s.consume n).fetchMore n

/-! ## Opcodes (Table 4-7) -/

/-- Classes of R118. -/
inductive CmdClass where
  | cfg
  | record
  | dir
  deriving DecidableEq, Repr

/-- Class and accepting states of an opcode: SETUP, RUN, REPLAY, FAULT_HALT. -/
def opInfo (op : Nat) : Option (CmdClass × List Nat) :=
  let setup := Node.setup
  let run := Node.run
  match op with
  | 0x01 => some (.dir, [setup, run, Node.replay, Node.faultHalt])
  | 0x10 | 0x12 | 0x13 | 0x14 | 0x15 | 0x16 | 0x17 => some (.cfg, [run])
  | 0x11 | 0x20 | 0x21 | 0x22 | 0x23 | 0x24 | 0x30 | 0x31 | 0x32 => some (.record, [run])
  | 0x40 | 0x51 | 0x63 | 0x73 => some (.dir, [run])
  | 0x41 | 0x50 | 0x60 | 0x62 | 0x64 | 0x65 | 0x70 | 0x71 | 0x72 => some (.dir, [setup, run])
  | 0x52 => some (.dir, [setup])
  | 0x53 => some (.dir, [Node.replay])
  | 0x61 => some (.dir, [setup, run, Node.replay, Node.faultHalt])
  | 0x74 | 0x75 => some (.dir, [setup, run, Node.replay])
  | _ => none

/-- The command is accepted in the present node state (R121). -/
def State.accepts (s : State) (op : Nat) : Bool :=
  match opInfo op with
  | some (_, l) => l.contains s.mgmt
  | none => false

/-! ## Taking a command (R119, R121) -/

/-- A FENCE holds while an earlier command has no completion written (Table 4-5). -/
def State.fenced (s : State) (d : Desc) : Bool :=
  d.fence && !(s.hif.running.isEmpty && s.hif.ready.isEmpty && s.inlet.cmds.isEmpty)

/-- The command at the head of the CMD ring, when the step is its step and CTRL may start it. CTRL takes none for whose completion there is no place among the 256 that the node keeps (DEDUCED from R123, log entry 64). -/
def State.cmdHead (s : State) (op : Nat → Bool) : Option Desc :=
  match s.fetchedOf 0 with
  | [] => none
  | b :: _ =>
    let d := Desc.ofBytes b
    if op d.opcode && s.mgmt != Node.activating && !s.fenced d && !s.cmdWaits && decide (s.cmplLoad < 256) then some d
    else none

/-- A command ends with a status; RESULT is as given. -/
def State.done (s : State) (d : Desc) (status : Nat) (result : U64 := 0) : State :=
  s.complete d.tag d.irqNow d.opcode status result

/-- A DIR command: taken, refused with STATE outside its node states, else carried out. -/
def State.dirCmd (s : State) (op : Nat) (f : Desc → State → State) : State :=
  match s.cmdHead (· == op) with
  | none => s
  | some d =>
    let t := s.takeHead 0
    if s.accepts op then f d t else t.done d Status.state

/-- What holds a CFG or REC command back: the command rate (R119, R505). -/
def State.recHeld (s : State) : Bool := decide (s.hif.allowance ≤ 0)

/-- Records of taken commands that Inlet has not admitted (Table 1-5). -/
def State.cmdRecords (s : State) : Nat := (s.inlet.cmds.map (fun u => u.bodies.length - u.sent)).sum

/-- What also holds a CFG command back: a snapshot under way, or a full settings journal (R330, R502). -/
def State.cfgHeld (s : State) : Bool := s.recHeld || s.rbit Reg.SPAWN_STATUS 5 || s.rbit Reg.HK_STATUS 2

/-- The records of a taken command wait for Inlet, and the allowance pays for them (R505). -/
def State.submit (s : State) (u : CmdUnit) : State :=
  { s with inlet := { s.inlet with cmds := s.inlet.cmds ++ [{ u with time := s.now, waits := decide (64 ≤ s.cmdRecords) }] },
           hif := { s.hif with allowance := s.hif.allowance - u.bodies.length } }

/-- A REC command: its ARGS become the BODY of one CMD record (Table 9-5), which the engines judge at its ISN. -/
def State.recTake (s : State) (op : Nat) : State :=
  match s.cmdHead (· == op) with
  | none => s
  | some d =>
    if s.recHeld then s else
    let t := s.takeHead 0
    if !s.accepts op then t.done d Status.state
    else t.submit { opcode := BitVec.ofNat 16 op, target := if op = 0x21 || 0x30 ≤ op then d.arg 8 1 else d.arg 8 4 % 2 ^ 22,
                    bodies := [slice d.raw 8 56 ++ zeros 8], tag := d.tag, flags := u16At d.raw 2 }

/-- A CFG command: judged as it is taken, and admitted when its check passes. The check answers a status with what it records, or the records. -/
def State.cfgTake (s : State) (op : Nat) (check : Desc → State → Nat × State ⊕ CmdUnit) : State :=
  match s.cmdHead (· == op) with
  | none => s
  | some d =>
    if s.cfgHeld then s else
    let t := s.takeHead 0
    if !s.accepts op then t.done d Status.state
    else match check d t with
      | .inl (st, t) => t.done d st
      | .inr u => t.submit { u with opcode := BitVec.ofNat 16 op, cfg := true, tag := d.tag, flags := u16At d.raw 2 }

/-! ## Completions (R120, R123) -/

/-- The 16 bytes of a completion (Table 4-6). -/
def Compl.bytes (c : Compl) : List Byte :=
  leBytes 4 c.tag.toNat ++ leBytes 2 c.opcode.toNat ++ leBytes 2 c.status.toNat ++ leBytes 8 c.result.toNat

/-- The oldest completion that CMPL does not hold is written to it: kept ones of a re-enabled ring first (R111). -/
def State.writeCompletion (s : State) : State :=
  if s.ringCredit 1 = 0 then s
  else if s.hif.unwritten ≠ 0 then
    match s.hif.kept[s.hif.kept.length - s.hif.unwritten]? with
    | none => s
    | some c => { s with hif := { s.hif with unwritten := s.hif.unwritten - 1 } }.postEntry 1 c.bytes c.irqNow
  else
    match s.hif.ready with
    | [] => s
    | c :: l =>
      { s with hif := { s.hif with ready := l, kept := s.hif.kept ++ [c] } }.postEntry 1 c.bytes c.irqNow

/-! ## The steps -/

def execNop (s : State) : Host.Outcome State Fault Refusal :=
  .next (s.fresh.dirCmd 0x01 (fun d s => s.done d Status.ok))

/-- An opcode that Table 4-7 does not list completes with BAD_OPCODE (R122). -/
def execUnknownOpcode (s : State) : Host.Outcome State Fault Refusal :=
  .next (match s.fresh.cmdHead (fun op => (opInfo op).isNone) with
    | none => s.fresh
    | some d => (s.fresh.takeHead 0).done d Status.badOpcode)

def execCompletionWrite (s : State) : Host.Outcome State Fault Refusal := .next s.fresh.writeCompletion

/-- A millisecond of the CORE free-running counter starts (R505). -/
def execCommandRateAllowance (s : State) : Host.Outcome State Fault Refusal :=
  let s := s.fresh
  .next { s with hif := { s.hif with allowance := min (s.hif.allowance + s.hif.cmdQuota) s.hif.cmdQuota } }

def execAckPoint (ph : Phase) (s : State) : Host.Outcome State Fault Refusal :=
  .next (match ph with
    | .take => s.fresh.recTake 0x20
    | .eval e => s.fresh.evalCmd e 0x20 (fun r s => s.evalAckPoint e r))

def execShelve (ph : Phase) (s : State) : Host.Outcome State Fault Refusal :=
  .next (match ph with
    | .take => s.fresh.recTake 0x22
    | .eval e => s.fresh.evalCmd e 0x22 (fun r s => s.evalShelve e r))

def execUnshelve (ph : Phase) (s : State) : Host.Outcome State Fault Refusal :=
  .next (match ph with
    | .take => s.fresh.recTake 0x23
    | .eval e => s.fresh.evalCmd e 0x23 (fun r s => s.evalUnshelve e r))

def execForcePoint (ph : Phase) (s : State) : Host.Outcome State Fault Refusal :=
  .next (match ph with
    | .take => s.fresh.recTake 0x24
    | .eval e => s.fresh.evalCmd e 0x24 (fun r s => s.evalForcePoint e r))

def execPointRead (ph : Phase) (s : State) : Host.Outcome State Fault Refusal :=
  .next (match ph with
    | .take => s.fresh.recTake 0x11
    | .eval e => s.fresh.evalCmd e 0x11 (fun r s => s.evalPointRead e r))

def execAckGroup (ph : Phase) (s : State) : Host.Outcome State Fault Refusal :=
  .next (match ph with
    | .take => s.fresh.recTake 0x21
    | .eval e => s.fresh.evalCmd e 0x21 (fun r s => s.evalAckGroup e r))

def execCallManual (ph : Phase) (s : State) : Host.Outcome State Fault Refusal :=
  .next (match ph with
    | .take => s.fresh.recTake 0x30
    | .eval e => s.fresh.evalCmd e 0x30 (fun r s => s.evalCallManual e r))

def execCallSilence (ph : Phase) (s : State) : Host.Outcome State Fault Refusal :=
  .next (match ph with
    | .take => s.fresh.recTake 0x31
    | .eval e => s.fresh.evalCmd e 0x31 (fun r s => s.evalCallSilence e r))

def execDeadmanReset (ph : Phase) (s : State) : Host.Outcome State Fault Refusal :=
  .next (match ph with
    | .take => s.fresh.recTake 0x32
    | .eval e => s.fresh.evalCmd e 0x32 (fun r s => s.evalDeadmanReset e r))

end Sys2Proof.Machine
end

