-- ==== Sys2Proof/Machine/Can.lean ====
section
/-! DEFINITION. The CAN FD channels' steps: reception, errors, the filter walker, transmission, cancelling and channel control (R375-R405). -/

namespace Sys2Proof.Machine

/-! ## Filter elements (Tables 13-9, 13-10) -/

structure FiltElem where
  type : Nat
  action : Nat
  ide : Bool
  format : Nat
  rtrOk : Bool
  sigCount : Nat
  id1 : Nat
  id2 : Nat
  sigFirst : Nat
  raw : List Byte
  deriving DecidableEq, Repr

def FiltElem.ofBytes (l : List Byte) : FiltElem :=
  let m := byteAt l 2
  { type := leAt l 0 1, action := leAt l 1 1, ide := bitAt m 0, format := fld m 1 2, rtrOk := bitAt m 3, sigCount := leAt l 3 1,
    id1 := leAt l 4 4, id2 := leAt l 8 4, sigFirst := leAt l 0xC 2, raw := l }

/-- An element is valid (R393). -/
def FiltElem.valid (f : FiltElem) : Bool :=
  let top := if f.ide then 2 ^ 29 else 2 ^ 11
  decide (f.type ≤ 4) && decide (f.action ≤ 3) && f.format != 3 && fld (byteAt f.raw 2) 4 4 == 0
    && decide (f.id1 < top) && decide (f.id2 < top) && leAt f.raw 0xE 2 == 0
    && (f.type != 1 || decide (f.id1 ≤ f.id2)) && decide (f.sigFirst < 32768) && decide (f.sigFirst + f.sigCount ≤ 32768)

/-- An element matches a frame (R392). -/
def FiltElem.hit (e : FiltElem) (f : CanFrame) : Bool :=
  let id := fld f.id 0 29
  e.ide == bitAt f.id 29 && (e.format == 0 || (e.format == 1) != (frameFd f)) && (e.rtrOk || !(frameRtr f)) &&
    (match e.type with
     | 1 => decide (e.id1 ≤ id) && decide (id ≤ e.id2)
     | 2 => id == e.id1 || id == e.id2
     | 3 => id &&& e.id2 == e.id1 &&& e.id2
     | _ => false)

def State.filt (s : State) (i : Nat) : FiltElem := FiltElem.ofBytes (s.tarnSee (Tarn.CAN_FILT + 16 * i) 16)

/-- Base and extent of a channel's share (R395). -/
def State.filtShare (s : State) (n : Nat) : Nat × Nat := (s.rfld (Reg.CAN_FILT_BASE n) 0 14, s.rfld (Reg.CAN_FILT_SHARE n) 0 15)

/-- Base and extent that the walker uses for a channel (R395). -/
def State.filtWalked (s : State) (n : Nat) : Nat × Nat := ((s.canCh n).oldWalk).getD (s.filtShare n)

/-- Elements before the first END within an extent (CAN_FILT_USED). -/
def State.filtUsed (s : State) (base n : Nat) : Nat :=
  match (List.range n).find? (fun i => let f := s.filt (base + i); f.type == 0 && f.valid) with
  | some i => i
  | none => n

/-- The outcome of a walk: the matching element with its place, the elements read, and the invalid ones passed. -/
structure Walk where
  found : Option (Nat × FiltElem) := none
  read : Nat := 0
  bad : Nat := 0
  deriving DecidableEq, Repr

/-- The walk of R391 over `n` elements from the one at place `i`. -/
def State.walk (s : State) (f : CanFrame) (base : Nat) : Nat → Nat → Walk → Walk
  | 0, _, w => w
  | n + 1, i, w =>
    let e := s.filt (base + i)
    let w := { w with read := w.read + 1 }
    if !e.valid then s.walk f base n (i + 1) { w with bad := w.bad + 1 }
    else if e.type = 0 then w
    else if e.hit f then { w with found := some (i, e) }
    else s.walk f base n (i + 1) w

/-! ## Receiving (R390-R398) -/

/-- REC after a good reception (ISO 11898-1): above 127 it takes a value from 119 to 127. -/
def State.goodRx (s : State) (n : Nat) : State :=
  if s.canMonitor n then s else
  let c := s.canCh n
  if c.recCnt = 0 then s
  else if c.recCnt ≤ 127 then s.setErr n c.tecCnt (c.recCnt - 1)
  else
    let (k, s) := s.draw
    s.setErr n c.tecCnt (119 + (Config.freeRec k).toNat % 9)

/-- A valid frame has ended: it enters the receive FIFO, or is lost there (R390). -/
def State.canReceive (s : State) (n : Nat) (f : CanFrame) : State :=
  if s.mgmt != Node.run || !s.canOn n || ((frameFd f) && !s.canFd n) then s else
  let s := (s.goodRx n).bump (Reg.CAN_RX_CNT n)
  let q := (s.canCh n).seq + 1
  let s := s.updCan n (fun c => { c with seq := q })
  if (s.canCh n).rxFifo.length < 16 then
    { s.updCan n (fun c => { c with rxFifo := c.rxFifo ++ [(f, s.now, q)] }) with canWalk := s.canWalk ++ [n] }
  else ((s.bump (Reg.CAN_RX_FIFO_OVF_CNT n)).raise (Reg.CAN_EVT n) 0x10).markLoss (mkSource 4 n)

/-- PAYLOAD of a CAN_FRAME record (Table 13-14). -/
def framePayload (f : CanFrame) (e : FiltElem) : U64 :=
  BitVec.ofNat 64 (f.id.toNat + f.dlc.toNat * 2 ^ 32 + b2n f.brs * 2 ^ 36 + b2n f.esi * 2 ^ 37 + e.sigCount * 2 ^ 40
    + e.sigFirst * 2 ^ 48)

/-- EXTRACT: the frame is offered to Inlet; one that finds no credit is a source overrun (R394). -/
def State.canExtract (s : State) (n : Nat) (f : CanFrame) (time : U64) (e : FiltElem) : State :=
  let lost := !s.hasCredit (Place.can n)
  let s := (s.offer (Place.can n) { time := time, source := mkSource 4 n, kind := Kind.canFrame, payload := framePayload f e,
                                    ext := frameData (frameFd f) (frameRtr f) f.dlc.toNat f.data }).bump (Reg.CAN_RX_EXTRACT_CNT n)
  if lost then s.raise (Reg.CAN_EVT n) 0x40 else s

/-- RING: the frame is written to CAN_RXn (Table 13-13). -/
def State.canToRing (s : State) (n : Nat) (f : CanFrame) (time : U64) (q : U32) (filter : Nat) : State :=
  let (s, ok) := s.canRing n (fun lost =>
    rxEntry time f.id f.dlc.toNat (b2n f.brs + 2 * b2n f.esi + lost) filter 0 0 n q (frameData (frameFd f) (frameRtr f) f.dlc.toNat f.data))
  if ok then s.bump (Reg.CAN_RX_RING_CNT n) else s

/-- Where a walked frame goes (R394). -/
def State.route (s : State) (n : Nat) (f : CanFrame) (time : U64) (q : U32) (w : Walk) : State :=
  let reject := fun (s : State) => s.bump (Reg.CAN_RX_REJECT_CNT n)
  match w.found with
  | none => if s.rbit (Reg.CAN_CFG n) 7 then s.canToRing n f time q 0xFFFF else reject s
  | some (i, e) =>
    match e.action with
    | 1 => s.canToRing n f time q i
    | 2 => if (frameRtr f) then reject s else s.canExtract n f time e
    | 3 => let s := s.canToRing n f time q i
           if (frameRtr f) then s else s.canExtract n f time e
    | _ => reject s

/-- The walker takes the frame that ended first (R391). -/
def State.walkNext (s : State) : State :=
  match s.canWalk with
  | [] => s
  | n :: rest =>
    match (s.canCh n).rxFifo with
    | [] => { s with canWalk := rest }
    | (f, time, q) :: l =>
      let s := { s with canWalk := rest }.updCan n (fun c => { c with rxFifo := l, echoes := c.echoes.map Echo.nearer })
      let b := s.filtWalked n
      let w := s.walk f b.1 b.2 0 { }
      let s := (s.bump Reg.CAN_WALK_CNT).recordMax (Reg.CAN_WALK_MAX n) ((w.read + 3) / 4 * 5)
      let s := if w.bad = 0 then s else (s.bumpBy (Reg.CAN_FILT_BAD_CNT n) w.bad).raise (Reg.CAN_EVT n) 0x80
      (s.route n f time q w).echoesDue n

/-- A share's change takes effect at the barrier of the channel's first CANFILT_WRITE that leaves an END within it (R395). -/
def State.filtSettle (s : State) (n : Nat) : State :=
  let sh := s.filtShare n
  if (s.canCh n).oldWalk.isSome && decide (s.filtUsed sh.1 sh.2 < sh.2) then
    (s.updCan n (fun c => { c with oldWalk := none })).setCanStat n CanStat.overQuota false
  else s

/-! ## Transmitting (R379-R389) -/

/-- The channel leaves the bus once the frame in progress has ended. -/
def State.canLeaving (s : State) (n : Nat) : Bool := s.mgmt != Node.run || (s.canCh n).busOffWait.isSome

/-- STOP or BUS_OFF gives up the frames that wait; the activation pause keeps them (Table 13-2). -/
def State.canAborts (s : State) (n : Nat) : Bool :=
  (s.mgmt != Node.run && s.mgmt != Node.activating) || (s.canCh n).busOffWait.isSome

/-- A frame whose attempt failed: cancelled, ended with the outcome of its one attempt (R381), given up, or left for a retry. -/
def State.attemptFails (s : State) (n : Nat) (t : TxSlot) (code : Nat) : State :=
  if t.cancel then ((s.freeTx n t.idx).txOutcome n t TxOut.cancelled).cancelEnds n false
  else if s.oneShot n t then (s.freeTx n t.idx).txOutcome n t code
  else if s.canAborts n then (s.freeTx n t.idx).txOutcome n t TxOut.aborted
  else
    (s.updCan n (fun c => { c with slots := c.slots.map (fun x => if x.idx = t.idx then { t with inTx := false } else x) })).bump
      (Reg.CAN_TX_RETRY_CNT n)

/-- An attempt that ended in an ACK error counts toward LONELY (R389). -/
def State.noAck (s : State) (n : Nat) : State :=
  let s := s.bump (Reg.CAN_TX_NOACK_CNT n)
  if !s.rbit (Reg.CAN_CFG n) 8 then s else
  let k := (s.reg (Reg.CAN_NOACK_RUN n)).toNat
  let s := s.setReg (Reg.CAN_NOACK_RUN n) (BitVec.ofNat 32 (min 255 (k + 1)))
  if k + 1 = s.rfld (Reg.CAN_CFG n) 16 8 then
    ((s.setCanStat n CanStat.lonely true).bump (Reg.CAN_LONELY_CNT n)).raise (Reg.CAN_EVT n) 4
  else s

/-- An acknowledged attempt ends LONELY and its count (R389). -/
def State.acked (s : State) (n : Nat) : State :=
  let was := s.canStat n CanStat.lonely
  let s := s.canQuiet n
  if was then s.raise (Reg.CAN_EVT n) 8 else s

/-- TEC raised by 8 (ISO 11898-1). -/
def State.txError (s : State) (n : Nat) : State := s.setErr n ((s.canCh n).tecCnt + 8) (s.canCh n).recCnt

/-- The attempt reached the falling edge of FDF to res; for an error outside the arbitration field and the data phase the node's report does not tell. -/
def pastFdf : TxResult → Option Bool
  | .sent | .ackError => some true
  | .lostArb => some false
  | .error _ dataPhase inArb acked => if dataPhase || acked then some true else if inArb then some false else none

/-- The loop delay of an FD frame with BRS is measured at the falling edge of FDF to res (R378); CAN_STATUS shows it from the attempt's end. Where the report does not tell whether the attempt came so far, a second free value does. -/
def State.loopDelay (s : State) (n : Nat) (t : TxSlot) (r : TxResult) : State :=
  if !(bitAt t.id 30 && t.brs && s.rbit (Reg.CAN_TDC n) 0) then s else
  let (k, s) := s.draw
  let (j, s) := s.draw
  if (pastFdf r).getD (bitAt (Config.freeLoop j) 0) then s.setRegFld (Reg.CAN_STATUS n) 16 7 ((Config.freeLoop k).toNat % 21)
  else s

/-- The end of the attempt of the frame in transmission. -/
def State.attemptEnd (s : State) (n : Nat) (t : TxSlot) (r : TxResult) : State :=
  let s := s.loopDelay n t r
  let s :=
    match r with
    | .sent =>
      -- An FD frame sent while error passive has ESI set (R388).
      let esi := bitAt t.id 30 && s.canBus n == 2
      let s := s.emitOut (.canFrame n t.id t.rtr t.brs esi t.dlc (frameData (bitAt t.id 30) t.rtr t.dlc.toNat t.data))
      let s := (s.bump (Reg.CAN_TX_OK_CNT n)).acked n
      let s := s.setErr n ((s.canCh n).tecCnt - 1) (s.canCh n).recCnt
      let s := (s.freeTx n t.idx).txOutcome n t TxOut.sent
      if t.cancel then (s.bump (Reg.CAN_TX_LATE_CNT n)).cancelEnds n true else s
    | .ackError =>
      let s := (s.errFrame n 3 false).noAck n
      let s := if s.canBus n = 1 then s.txError n else s
      s.attemptFails n t TxOut.noAck
    | .lostArb => (s.bump (Reg.CAN_TX_ARB_LOST_CNT n)).attemptFails n t TxOut.lostArb
    | .error code dp inArb acked =>
      let s := if acked then s.acked n else s
      let s := s.errFrame n code.toNat dp
      let s := if inArb then s else s.txError n
      s.attemptFails n t TxOut.error
  if s.canLeaving n then
    let s := s.canOff n
    -- A BUS_ON that met the BUS_OFF still under way takes effect now (R404).
    if s.mgmt = Node.run && !s.canStat n CanStat.hostOff then s.canJoin n else s
  else s

def Can.current (c : Can) : Option TxSlot := c.slots.find? TxSlot.inTx

/-- The pending frame that wins arbitration starts at bus idle (R380). -/
def State.attemptStart (s : State) (n : Nat) : State :=
  if s.mgmt != Node.run || !s.canOn n || s.canMonitor n || (s.canCh n).current.isSome then s else
  match bestSlot (s.canCh n).slots with
  | none => s
  | some t =>
    let u := { t with inTx := true, attempts := min 255 (t.attempts + 1), sof := s.now }
    s.updCan n (fun c => { c with slots := c.slots.map (fun x => if x.idx = t.idx then u else x) })

/-- The slot that a CAN_TX entry describes (Table 13-5). -/
def txOfEntry (l : List Byte) (idx seq : Nat) : TxSlot :=
  let id := u32At l 0
  let fl := byteAt l 5
  { idx := idx, seq := seq, node := false, id := setBit id 31 false, rtr := bitAt fl 2, brs := bitAt fl 0, oneShot := bitAt fl 1,
    report := bitAt fl 3, dlc := BitVec.ofNat 4 (leAt l 4 1), tag := u16At l 6, data := slice l 0x10 64 }

/-- An entry that R382 allows. -/
def State.txEntryOk (s : State) (n : Nat) (l : List Byte) : Bool :=
  let id := u32At l 0
  let fl := byteAt l 5
  let fd := bitAt id 30
  (bitAt id 29 || decide (fld id 0 29 ≤ 0x7FF)) && !(bitAt fl 2 && fd) && !(bitAt fl 0 && !fd)
    && decide (leAt l 4 1 ≤ if fd then 15 else 8) && !(fd && !s.canFd n) && !(bitAt fl 0 && !s.canBrs n)
    && !bitAt id 31 && fld fl 4 4 == 0 && allZero (slice l 8 8)

/-- An entry is taken: CAN_TX_TAKEN counts it and the ring's index passes it (R379). -/
def State.takeTx (s : State) (n : Nat) : State :=
  (s.setReg (Reg.CAN_TX_TAKEN n) (s.reg (Reg.CAN_TX_TAKEN n) + 1)).takeHead (10 + n)

/-- The next CAN_TXn entry enters a slot while the host's share has room, or completes REJECTED. -/
def State.takeEntry (s : State) (n : Nat) : State :=
  let c := s.canCh n
  if s.mgmt != Node.run || s.canMode n = 0 || s.canStat n CanStat.outOfService || decide (s.canShare n ≤ c.hostSlots) then s else
  match s.fetchedOf (10 + n), c.freeSlot with
  | l :: _, some i =>
    let t := txOfEntry l i c.txSeq
    let s := s.takeTx n
    if s.txEntryOk n l then s.updCan n (fun c => { c with slots := c.slots ++ [t], txSeq := c.txSeq + 1 })
    else s.txOutcome n t TxOut.rejected
  | _, _ => s

/-! ## Commands (R385-R387, R404) -/

/-- Prefetched CAN_TXn descriptors that a cancel matches leave at once (R385). -/
def State.cancelPrefetched (s : State) (n : Nat) (hit : U16 → Bool) : State × Nat :=
  let mine := fun (d : Nat × List Byte) => d.1 == 10 + n && hit (u16At d.2 6)
  let gone := s.hif.fetched.filter mine
  let s := { s with hif := { s.hif with fetched := s.hif.fetched.filter (fun d => !mine d) } }
  let s := gone.foldl (fun s d =>
    let s := (s.setReg (Reg.CAN_TX_TAKEN n) (s.reg (Reg.CAN_TX_TAKEN n) + 1)).advanceRing (10 + n) false
    s.txOutcome n (txOfEntry d.2 0 0) TxOut.cancelled) s
  (if gone.isEmpty then s else s.fetchMore (10 + n), gone.length)

def State.cancel (s : State) (d : Desc) : State :=
  let n := d.arg 8 1
  if decide (7 < n) || decide (1 < d.arg 9 1) || !d.resv 0xC 52 then s.done d Status.badArg
  else
    let hit := fun tag => d.arg 9 1 == 1 || tag == u16At d.raw 0xA
    let mine := fun (t : TxSlot) => !t.node && hit t.tag
    let k := ((s.canCh n).slots.filter (fun t => mine t && !t.inTx)).length
    let flying := (s.canCh n).slots.any (fun t => mine t && t.inTx)
    let s := s.endFrames n (fun t => mine t && !t.inTx) TxOut.cancelled
    let (s, p) := s.cancelPrefetched n hit
    if flying then
      (s.updCan n (fun c => { c with
        slots := c.slots.map (fun t => if mine t && t.inTx then { t with cancel := true } else t),
        cancelling := c.cancelling ++ [{ tag := d.tag, irqNow := d.irqNow, cancelled := k + p, sent := 0 }] })).defer
        d.tag d.irqNow 0x40
    else if k + p = 0 then s.done d Status.notFound
    else s.done d Status.ok (BitVec.ofNat 64 (k + p))

/-- BUS_ON (Table 13-17). -/
def State.busOn (s : State) (n : Nat) : State :=
  if s.canStat n CanStat.hostOff then
    let s := s.setCanStat n CanStat.hostOff false
    if (s.canCh n).busOffWait.isSome then s else s.canJoin n
  else if s.canBus n = 3 && !s.canStat n CanStat.recovering then s.canRecover n
  else s

def State.channelCtl (s : State) (d : Desc) : State :=
  let n := d.arg 8 1
  let f := d.arg 9 1
  let v := d.arg 0xA 1
  let ok := fun (s : State) => s.done d Status.ok ((s.canStatusView n).zeroExtend 64)
  if decide (7 < n) || decide (3 < f) || decide (1 < v) || !d.resv 0xB 53 then s.done d Status.badArg
  else if (s.mgmt = Node.setup && f != 2) || (f != 2 && (s.canMode n == 0 || s.canStat n CanStat.outOfService)) then
    s.done d Status.state
  else match f with
    | 0 => ok (s.busOn n)
    | 1 =>
      if (s.canCh n).busOffWait.isSome then s.done d Status.busy
      else
        let s := s.setCanStat n CanStat.hostOff true
        if (s.canCh n).current.isSome then
          ((s.canLeave n).updCan n (fun c => { c with busOffWait := some (d.tag, d.irqNow) })).defer d.tag d.irqNow 0x41
        else ok (s.canLeave n)
    | 2 => ok (s.updCan n (fun c => { c with term := some (v == 1) }))
    | _ => ok (if s.canMode n = 1 then s.setCanStat n CanStat.monitorOvr (v == 1) else s)

end Sys2Proof.Machine
end

