-- ==== Sys2Proof/Machine/FeCfg.lean ====
section
/-! DEFINITION. The front end's configuration: channel definitions and the rules that they keep (Tables 5-2 to 5-6), rate codes (Tables 6-1 to 6-4), linearisation tables (R184-R186), the scan lists and the moves between them (R143, R172, R196). -/

namespace Sys2Proof.Machine

/-! ## Channel definitions (Table 5-5) -/

structure ChDef where
  pos : Nat
  neg : Nat
  exSrc : Nat
  exMode : Nat
  poleA : Nat
  poleB : Nat
  exFreq : Nat
  bias : Byte
  exMag : F32
  pga : Nat
  rate : Nat
  notch : Nat
  opts : Byte
  cmLo : Int
  cmHi : Int
  settleN : Nat
  faultCount : Nat
  lane : Nat
  linId : Nat
  cj : Nat
  qLimit : Nat
  raw : List Byte
  deriving DecidableEq, Repr

def ChDef.ofBytes (l : List Byte) : ChDef :=
  let b := fun i => leAt l i 1
  { pos := b 0, neg := b 1, exSrc := b 2, exMode := b 3, poleA := b 4, poleB := b 5, exFreq := b 6, bias := byteAt l 7,
    exMag := u32At l 8, pga := b 0xC, rate := b 0xD, notch := b 0xE, opts := byteAt l 0xF,
    cmLo := sext 16 (leAt l 0x10 2), cmHi := sext 16 (leAt l 0x12 2), settleN := b 0x14, faultCount := b 0x15,
    lane := b 0x16, linId := b 0x17, cj := b 0x18, qLimit := leAt l 0x1A 2, raw := l }

def State.chBytes (s : State) (n : Nat) : List Byte := s.tarnSee (Tarn.CHANDEF + 64 * n) 64
def State.chDef (s : State) (n : Nat) : ChDef := ChDef.ofBytes (s.chBytes n)

def ChDef.biasOn (d : ChDef) : Bool := bitAt d.bias 7
def ChDef.biasTarget (d : ChDef) : Nat := if bitAt d.bias 3 then d.pos else d.neg
def ChDef.clampReport (d : ChDef) : Bool := bitAt d.opts 0
def ChDef.breakPull (d : ChDef) : Bool := bitAt d.opts 1

/-- The definition uses an excitation source. -/
def ChDef.excited (d : ChDef) : Bool := d.exMode != 0 && decide (d.exSrc < 16)

/-- A code names a terminal. -/
def isTerminal (c : Nat) : Bool := decide (c < 192)

/-- The terminals that a definition names in any role. -/
def ChDef.terminals (d : ChDef) : List Nat := [d.pos, d.neg, d.poleA, d.poleB].filter isTerminal

/-- Slot times in ns: T_SET and T_CONV of a rate code (Table 6-1); an undefined code takes code 9's (R155). -/
def slotTimes (rate : Nat) : Nat × Nat :=
  match rate with
  | 0 => (200000, 100000000)
  | 1 => (200000, 40000000)
  | 2 => (200000, 20000000)
  | 3 => (200000, 16666667)
  | 4 => (50000, 9950000)
  | 5 => (50000, 3950000)
  | 6 => (50000, 1950000)
  | 7 => (50000, 950000)
  | 8 => (50000, 450000)
  | _ => (50000, 200000)

def slotTime (rate : Nat) : Nat := (slotTimes rate).1 + (slotTimes rate).2

/-- Notch and rate code go together (Table 6-3). -/
def notchOk (notch rate : Nat) : Bool :=
  match notch with
  | 0 => true
  | 1 => decide (rate ≤ 2)
  | 2 => rate == 0 || rate == 3
  | 3 => rate == 0
  | _ => true

/-- Whole periods of EX_FREQ in a conversion (Table 6-4). -/
def sinePeriods (freq rate : Nat) : Nat :=
  let hz := if freq = 0 then 1000 else if freq = 1 then 2500 else 5000
  (slotTimes rate).2 * hz / 1000000000

/-- EX_MAG lies in the range of its mode (Table 5-4), between the binary32 values nearest to the bounds. -/
def exMagOk (mode : Nat) (m : F32) : Bool :=
  match mode with
  | 1 => F32.le 0x3727C5AC m && F32.le m 0x3BA3D70A
  | 2 => F32.le 0x3F000000 m && F32.le m 0x41200000
  | _ => F32.le 0x3DCCCCCD m && F32.le m 0x40A00000

/-! ## Linearisation tables (Table 6-7) -/

/-- X_i and Y_i of the entries in use. -/
def linPoints (l : List Byte) : List (F32 × F32) :=
  (List.range (leAt l 0x7F8 2)).map (fun i => (u32At l (8 * i), u32At l (8 * i + 4)))

/-- The reason of FE_LIN_LAST for which a table is not valid, 0 when it is (R185). -/
def linReason (l : List Byte) : Nat :=
  let n := leAt l 0x7F8 2
  let ps := linPoints l
  if !crcOk l 2048 then 1
  else if !inRange 2 255 n then 2
  else if !ps.all (fun p => F32.isFinite p.1 && F32.isFinite p.2) then 4
  else if !rising (ps.map Prod.fst) then 3
  else if !allZero (slice l (8 * n) (0x7F8 - 8 * n)) then 5
  else 0

def State.linBytes (s : State) (t : Nat) : List Byte := s.tarnSee (Tarn.LINTAB + 2048 * t) 2048

/-- Y_i is strictly increasing, as a cold-junction user needs (R185). -/
def linRising (l : List Byte) : Bool := rising ((linPoints l).map Prod.snd)

/-- LIN_ID names a table that a definition may use (R185). -/
def State.linOk (s : State) (d : ChDef) : Bool :=
  d.linId == 255 ||
    (decide (d.linId < 64) && linReason (s.linBytes d.linId) == 0 && (d.cj == 255 || linRising (s.linBytes d.linId)))

/-- The segment that serves x (R186). -/
def linSegment (x : F32) : List (F32 × F32) → Option ((F32 × F32) × (F32 × F32))
  | a :: b :: c :: l => if F32.lt x b.1 then some (a, b) else linSegment x (b :: c :: l)
  | [a, b] => some (a, b)
  | _ => none

/-- R186 on a list of breakpoints: the value, and whether it was extrapolated. -/
def linForward (ps : List (F32 × F32)) (x : F32) : F32 × Bool :=
  match linSegment x ps, ps.head?, ps.getLast? with
  | some (a, b), some lo, some hi =>
    (F32.add a.2 (F32.mul (F32.sub x a.1) (F32.div (F32.sub b.2 a.2) (F32.sub b.1 a.1))),
      F32.lt x lo.1 || F32.lt hi.1 x)
  | _, _, _ => (F32.qnan, false)

/-- inverse() of R190: R186 with the roles of X and Y exchanged. -/
def linInverse (ps : List (F32 × F32)) (y : F32) : F32 × Bool := linForward (ps.map (fun p => (p.2, p.1))) y

/-! ## Scan lists -/

def State.scanEn (s : State) (lane p : Nat) : Bool := s.rbit (Reg.LANE_SCAN lane p) 8
def State.scanDef (s : State) (lane p : Nat) : Nat := s.rfld (Reg.LANE_SCAN lane p) 0 8
def State.setScan (s : State) (lane p d : Nat) (en : Bool) : State :=
  s.setReg (Reg.LANE_SCAN lane p) (packU32 [(d, 0), (b2n en, 8)])

/-- Enabled positions of a lane. -/
def State.scanList (s : State) (lane : Nat) : List Nat := (List.range 16).filter (s.scanEn lane)

/-- A definition stands in a lane's scan list. -/
def State.standsIn (s : State) (lane n : Nat) : Bool := (s.scanList lane).any (fun p => s.scanDef lane p == n)

/-- A definition is bound to a lane and stands in its scan list (R143). -/
def State.scheduled (s : State) (n : Nat) : Bool :=
  let d := s.chDef n
  decide (d.lane < 48) && s.standsIn d.lane n

/-! ## The rules of Table 5-6 -/

def ChDef.terminalBad (d : ChDef) : Bool :=
  let pole := fun c => isTerminal c || (c == 0xFF && d.exMode == 0)
  !isTerminal d.pos || !(isTerminal d.neg || d.neg == 0xF0) || !pole d.poleA || !pole d.poleB

def ChDef.reuseBad (d : ChDef) : Bool :=
  let same := fun a b => isTerminal a && a == b
  same d.pos d.neg || same d.poleA d.poleB || same d.poleA d.neg || same d.poleB d.pos
    || (d.biasOn && (same d.biasTarget d.poleA || same d.biasTarget d.poleB))

def ChDef.excitationBad (d : ChDef) : Bool :=
  if d.exMode = 0 then d.exSrc != 0xFF || d.poleA != 0xFF || d.poleB != 0xFF || !F32.eq d.exMag 0 || d.exFreq != 0
  else if d.exMode ≤ 3 then
    decide (16 ≤ d.exSrc) || !isTerminal d.poleA || !isTerminal d.poleB || !exMagOk d.exMode d.exMag
      || (d.exMode != 3 && d.exFreq != 0)
  else d.exFreq != 0

/-- A scheduled definition of another lane that shares a terminal or a source with definition n (rule 7 of Table 5-6). The spec does not say which definitions count when they break rules themselves, nor which of several is reported: one whose CRC is wrong does not count, one that breaks another rule does, and the lowest is reported; a definition n that is bound to no lane (LANE 0xFF) breaks the rule as one bound to a lane does (DESIGN CHOICE, log entry 67). -/
def State.sharer (s : State) (n : Nat) (d : ChDef) : Option Nat :=
  (s.listed Tarn.CHANDEF 64 256).find? (fun m =>
    let e := s.chDef m
    m != n && e.lane != d.lane && crcOk e.raw 64 && s.scheduled m &&
      (d.terminals.any (fun t => e.terminals.contains t) || (d.excited && e.excited && d.exSrc == e.exSrc)))

def State.burdenOn (s : State) (t : Nat) : Bool := isTerminal t && s.rbit (Reg.XP_BURDEN_EN (t / 32)) (t % 32)

/-- The lowest rule other than 10 that definition n breaks, 0 when none; that the lowest of several is the one reported is the model's choice (log entry 67). -/
def State.chRuleBut10 (s : State) (n : Nat) : Nat :=
  let d := s.chDef n
  if allZero d.raw || !crcOk d.raw 64 then 1
  else if d.terminalBad then 2
  else if d.reuseBad then 3
  else if d.excitationBad then 4
  else if decide (3 < d.exMode) || decide (7 < d.pga) || decide (9 < d.rate) || decide (3 < d.notch) || decide (2 < d.exFreq)
      || !s.linOk d || decide (15 < d.settleN) || d.faultCount == 0 then 5
  else if decide (d.cmHi ≤ d.cmLo) || decide (d.cmLo < -10500) || decide (10500 < d.cmHi) then 6
  else if (s.sharer n d).isSome then 7
  else if s.burdenOn d.poleA || s.burdenOn d.poleB || (d.biasOn && s.burdenOn d.biasTarget) then 8
  else if d.exMode == 3 && decide (sinePeriods d.exFreq d.rate < 10) then 9
  else if inRange 48 254 d.lane then 11
  else if (d.biasOn || d.breakPull) && d.exMode != 0 then 12
  else if !notchOk d.notch d.rate then 13
  else if byteAt d.raw 0x19 != 0 || !allZero (slice d.raw 0x20 24) || leAt d.raw 0x3A 2 != 0
      || fld d.bias 4 3 != 0 || fld d.opts 2 6 != 0 then 14
  else 0

/-- The chain of CJ_CHANDEF references that starts at a definition breaks rule 10; the fuel is the number of definitions. -/
def State.chainBad (s : State) : Nat → List Nat → Nat → Bool
  | 0, _, _ => true
  | fuel + 1, seen, n =>
    let c := (s.chDef n).cj
    if c = 255 then false
    else if (n :: seen).contains c || s.chRuleBut10 c != 0 then true
    else s.chainBad fuel (n :: seen) c

/-- The lowest rule of Table 5-6 that definition n breaks, 0 when it is valid (R155). -/
def State.chRule (s : State) (n : Nat) : Nat :=
  let r := s.chRuleBut10 n
  if 0 < r && r < 10 then r else if s.chainBad 256 [] n then 10 else r

def State.chValid (s : State) (n : Nat) : Bool := s.chRule n == 0

/-- OTHER_DEF of a rule that definition n breaks; 0xFF when there is none. -/
def State.chOther (s : State) (n rule : Nat) : Nat :=
  if rule = 7 then (s.sharer n (s.chDef n)).getD 255 else if rule = 10 then (s.chDef n).cj else 255

/-- A report word: DEF, RULE, OTHER_DEF (XP_CHK_FIRST, XP_CHK_LAST). -/
def State.chReport (s : State) (n rule : Nat) : U32 := packU32 [(n, 0), (rule, 8), (s.chOther n rule, 16)]

/-- A report of XP_CHK_LAST for a write whose arguments, not a rule, are at fault: RULE 0, which Table 5-6 does not use (DESIGN CHOICE, log entry 67). -/
def chReportArgs (n : Nat) : U32 := packU32 [(n, 0), (0, 8), (255, 16)]

/-- The definitions that are not valid (R155), of all 256. -/
def State.invalidDefs (s : State) : List Nat := (List.range 256).filter (fun n => s.chRule n != 0)

/-- The check of R156. -/
def State.xpRun (s : State) (atStart : Bool) : State :=
  let bad := s.invalidDefs
  let first := match bad with | [] => (0xFF00FF : U32) | n :: _ => s.chReport n (s.chRule n)
  let s := s.setReg Reg.XP_CHK_STATUS
    (packU32 [(1, 0), (b2n (!bad.isEmpty), 1), (min bad.length 255, 8), (b2n atStart, 16)])
  let s := s.setReg Reg.XP_CHK_FIRST first
  if !atStart then s
  else (List.range 8).foldl (fun s k => s.setReg (Reg.XP_SKIPPED k) (maskOf 32 (fun i => bad.contains (32 * k + i)))) s

/-! ## Moves between lanes (R196) -/

def State.defSt (s : State) (n : Nat) : DefState := Sparse.get { } s.fe.defs n

/-- A definition is moving: a lane that it left has not yet reported DRAINED (R197). -/
def State.moving (s : State) (k : Nat) : Bool := (List.range 48).any (fun n => (s.lane n).drain.contains k)
def State.updDef (s : State) (n : Nat) (f : DefState → DefState) : State :=
  { s with fe := { s.fe with defs := Sparse.upd { } s.fe.defs n f } }

/-- A definition leaves every position of a lane's list. -/
def State.unscan (s : State) (lane n : Nat) : State :=
  (List.range 16).foldl (fun s p => if s.scanDef lane p = n && s.scanEn lane p then s.setScan lane p 0 false else s) s

/-- A definition takes the lowest free position of a lane, if there is one. -/
def State.place (s : State) (lane n : Nat) : State :=
  match (List.range 16).find? (fun p => !s.scanEn lane p) with
  | some p => s.setScan lane p n true
  | none => s

/-- The written definitions bound to a lane that stand at none of its positions (Table 6-13 UNPLACED). -/
def State.unplacedDefs (s : State) (lane : Nat) : List Nat :=
  (s.listed Tarn.CHANDEF 64 256).filter (fun d => (s.chDef d).lane == lane && !s.standsIn lane d)

/-- Definition n leaves a lane, and the positions it frees go to the lane's unplaced definitions, in ascending order (R202; DEDUCED, log entry 68). -/
def State.vacate (s : State) (lane n : Nat) : State :=
  (((s.unscan lane n).unplacedDefs lane).filter (· != n)).foldl (fun s d => s.place lane d) (s.unscan lane n)

/-- The scan lists as they stand after definition n has been written from lane `old` to lane `new`. -/
def State.rescan (s : State) (n old new : Nat) : State :=
  if old = new then s else
  let s := if old < 48 then s.vacate old n else s
  if new < 48 then s.place new n else s

end Sys2Proof.Machine
end

