-- ==== Sys2Proof/Machine/CfgCmds.lean ====
section
/-! DEFINITION. The CFG commands as CTRL takes them: images, checks and the records they become (R157, R187, R212, R234, R263, R396, R403), and the Tarn write that a barrier applies (R236). -/

namespace Sys2Proof.Machine

/-! ## Units -/

/-- Pieces of 64 B, the last padded with zeros. -/
def bodiesOf (l : List Byte) : List (List Byte) := (chunks 64 l).map (fit 64)

/-- TARGET of a unit's record (Table 9-5): FANOUT list records name their first entry, filter and signal records their first element. -/
def CmdUnit.partTarget (u : CmdUnit) (part : Nat) : Nat :=
  match u.opcode.toNat with
  | 0x14 => if part + 1 = u.bodies.length then u.target else leAt u.image 0 4 + 16 * part
  | 0x16 | 0x17 => u.target + 4 * part
  | _ => u.target

/-- A FANOUT unit's image: the head, then the list. -/
def fanoutImage (lo : Nat) (list : List Byte) : List Byte := leBytes 4 lo ++ leBytes 2 (list.length / 4) ++ zeros 2 ++ list

/-- EPOCH and CRC32 of a point, definition or group image renewed at admission (R157, R234, R263). -/
def CmdUnit.renew (u : CmdUnit) (epoch : Nat) : CmdUnit :=
  let redo := fun o n => withCrc (patch u.image o (leBytes 2 epoch)) n
  match u.opcode.toNat with
  | 0x10 | 0x12 => let i := redo 0x38 64; { u with image := i, bodies := bodiesOf i }
  | 0x13 => let i := redo 0xA0 0xB0; { u with image := i, bodies := bodiesOf i }
  | _ => u

/-- The bytes of an object whose word at Tarn offset `o` is damaged, repaired as Table 18-2 says: the record's base, size and CRC place. -/
def eccObject (o : Off) : Option (Off × Nat) :=
  let rec_ := fun base size => base + (o - base) / size * size
  if o < Tarn.STATE_A then some (rec_ Tarn.POINT_CFG 64, 64)
  else if Tarn.GROUPS ≤ o && o < Tarn.CHANDEF then some (rec_ Tarn.GROUPS 256, 0xB0)
  else if Tarn.CHANDEF ≤ o && o < Tarn.LILYPAD then some (rec_ Tarn.CHANDEF 64, 64)
  else if Tarn.LINTAB ≤ o && o < Tarn.CAN_FILT then some (rec_ Tarn.LINTAB 2048, 2048)
  else if Tarn.CAN_SIG ≤ o && o < Tarn.TREND then some (rec_ Tarn.CAN_SIG 16, 16)
  else none

/-- The Tarn write that repairs a damaged configuration word: the word is zeroed and the object's CRC32 is the complement of the CRC over its new bytes; a filter element becomes a SKIP element. -/
def State.eccRepair (s : State) (o : Off) : State :=
  match eccObject o with
  | some (b, n) =>
    let l := patch (s.tarnRead b n) (o - b) (zeros 8)
    s.tarnWrite b (l.take (n - 4) ++ leBytes 4 (~~~(crc32 (l.take (n - 4)))).toNat)
  | none =>
    if Tarn.CAN_FILT ≤ o && o < Tarn.CAN_SIG then s.tarnWrite (o / 16 * 16) (4 :: zeros 15)
    else s.tarnWrite (o / 8 * 8) (zeros 8)

/-- The Tarn write of a unit. -/
def State.applyUnit (s : State) (u : CmdUnit) : State :=
  match u.opcode.toNat with
  | 0x10 => s.tarnWrite (Tarn.POINT_CFG + 64 * u.target) u.image
  | 0x12 => s.tarnWrite (Tarn.CHANDEF + 64 * u.target) u.image
  | 0x13 => s.tarnWrite (Tarn.GROUPS + 256 * u.target) u.image
  | 0x14 => (s.tarnWrite (Tarn.FAN_LIST + 4 * leAt u.image 0 4) (u.image.drop 8)).tarnWrite
      (Tarn.FANOUT + 8 * u.target) (u.image.take 8)
  | 0x15 => s.tarnWrite (Tarn.LINTAB + 2048 * u.target) u.image
  | 0x16 => s.tarnWrite (Tarn.CAN_FILT + 16 * u.target) u.image
  | 0x17 => s.tarnWrite (Tarn.CAN_SIG + 16 * u.target) u.image
  | 0xFF02 => s.eccRepair (8 * u.target)
  | _ => s

/-- A written definition's place in the scan lists. -/
def State.applyScan (s : State) (u : CmdUnit) : State :=
  if u.opcode = 0x12 then s.rescan u.target (s.chDef u.target).lane (leAt u.image 0x16 1) else s

/-- The configuration that will stand when every command taken so far has been applied: what a new image is checked against. -/
def State.ahead (s : State) : State :=
  (s.inlet.barriers.map Prod.snd ++ s.inlet.cmds).foldl
    (fun s u => if u.cfg then (s.applyScan u).applyUnit u else s) s

/-- A command of one of the opcodes has not had its last record admitted. -/
def State.unadmitted (s : State) (ops : List Nat) : Bool := s.inlet.cmds.any (fun u => ops.contains u.opcode.toNat)

/-! ## Checks -/

/-- The image that a command's read of `n` bytes at DATA_ADDR brought, when the address is aligned and the read succeeded. -/
def Desc.image (d : Desc) (o n : Nat) (img : Image) : Option (List Byte) :=
  if d.aligned o then img.map (fit n) else none

abbrev Check := Nat × State ⊕ CmdUnit

def checkPoint (img : Image) (d : Desc) (s : State) : Check :=
  let p := d.arg 8 4
  match d.image 0x10 64 img with
  | none => .inl (Status.badArg, s)
  | some l =>
    if decide (81919 < p) || !d.resv 0xC 4 || !d.resv 0x18 40 then .inl (Status.badArg, s)
    else if !crcOk l 64 then .inl (Status.crc, s)
    else if !(PCfg.ofBytes l).rulesOk p then .inl (Status.badArg, s)
    else .inr { target := p, bodies := [l], image := l }

/-- A move of a definition off its lane has been taken in RUN and not applied: the definition is moving (Table 5-8). -/
def State.movesAhead (s : State) (n : Nat) : Bool :=
  s.mgmt == Node.run && decide ((s.chDef n).lane < 48) && (s.inlet.barriers.map Prod.snd ++ s.inlet.cmds).any (fun u =>
    u.opcode == 0x12 && u.target == n && (ChDef.ofBytes u.image).lane != (s.chDef n).lane)

/-- CHANDEF_WRITE: the rules are those of the definitions that will stand after the write (R157). -/
def checkChandef (img : Image) (d : Desc) (s : State) : Check :=
  let n := d.arg 8 1
  let argsBad := s.setReg Reg.XP_CHK_LAST (chReportArgs n)
  match d.image 0x10 64 img with
  | none => .inl (Status.badArg, argsBad)
  | some l =>
    if !d.resv 9 7 || !d.resv 0x18 40 then .inl (Status.badArg, argsBad)
    else if !crcOk l 64 then .inl (Status.crc, s)
    else
      let u : CmdUnit := { opcode := 0x12, target := n, bodies := [l], image := l }
      let t := (s.ahead.applyScan u).applyUnit u
      let rule := t.chRule n
      if rule != 0 then .inl (Status.badArg, s.setReg Reg.XP_CHK_LAST (t.chReport n rule))
      else if s.moving n || s.movesAhead n then .inl (Status.busy, s)
      else .inr u

def checkGroup (img : Image) (d : Desc) (s : State) : Check :=
  let g := d.arg 8 1
  match d.image 0x10 0xB0 img with
  | none => .inl (Status.badArg, s)
  | some l =>
    if !d.resv 9 7 || !d.resv 0x18 40 then .inl (Status.badArg, s)
    else if !crcOk l 0xB0 then .inl (Status.crc, s)
    else if !(GCfg.ofBytes l).rulesOk then .inl (Status.badArg, s)
    else if s.unadmitted [0x13] then .inl (Status.busy, s)
    else .inr { target := g, bodies := bodiesOf l, image := l }

/-- Heads of FANOUT, by number, that hold a byte other than 0. -/
def State.fanHeads (s : State) : List Nat :=
  (s.listed Tarn.FANOUT 8 0x8200).filter (fun h => !(decide (0x150 ≤ h) && decide (h < 0x200)))

/-- A list of entries overlaps that of another head. -/
def State.fanOverlap (s : State) (head lo n : Nat) : Bool :=
  s.fanHeads.any (fun h =>
    let b := s.tarnRead (Tarn.FANOUT + 8 * h) 8
    h != head && decide (lo < leAt b 0 4 + leAt b 4 2) && decide (leAt b 0 4 < lo + n) && leAt b 4 2 != 0)

/-- Point indices in strictly ascending order. -/
def ascending : List Nat → Bool
  | a :: b :: l => decide (a < b) && ascending (b :: l)
  | _ => true

def checkFanout (img : Image) (d : Desc) (s : State) : Check :=
  let type := d.arg 8 1
  let ix := d.arg 0xC 4
  let lo := d.arg 0x18 4
  let n := d.arg 0x1C 2
  let head := (headOffset type ix - Tarn.FANOUT) / 8
  match if n = 0 then (if d.aligned 0x10 then some [] else none) else d.image 0x10 (4 * n) img with
  | none => .inl (Status.badArg, s)
  | some l =>
    let es := (chunks 4 l).map leNat
    if !inRange 1 4 type || !srcRange type ix || !d.resv 9 3 || !d.resv 0x1E 34 || decide (195583 < lo) || decide (4096 < n)
        || decide (195584 < lo + n) || !ascending es || es.any (fun p => decide (81919 < p))
        || (n != 0 && s.ahead.fanOverlap head lo n) then .inl (Status.badArg, s)
    else if s.unadmitted [0x14] then .inl (Status.busy, s)
    else
      let i := fanoutImage lo l
      .inr { target := head, bodies := bodiesOf l ++ [fit 64 (i.take 8)], image := i }

/-- A definition with CJ_CHANDEF set uses the table. -/
def State.cjUser (s : State) (t : Nat) : Bool :=
  (s.listed Tarn.CHANDEF 64 256).any (fun n => let d := s.chDef n; d.linId == t && d.cj != 255)

/-- Arguments at fault leave reason 0 in FE_LIN_LAST, which Table 6-11 does not use (DESIGN CHOICE, log entry 67). -/
def checkLintab (img : Image) (d : Desc) (s : State) : Check :=
  let t := d.arg 8 1
  let argsBad := s.setReg Reg.FE_LIN_LAST (packU32 [(t, 0), (0, 8)])
  match d.image 0x10 2048 img with
  | none => .inl (Status.badArg, argsBad)
  | some l =>
    if decide (63 < t) || !d.resv 9 7 || !d.resv 0x18 40 then .inl (Status.badArg, argsBad)
    else
      let r := linReason l
      let r := if r = 0 && s.ahead.cjUser t && !linRising l then 6 else r
      if r != 0 then
        .inl (if r = 1 then Status.crc else Status.badArg, s.setReg Reg.FE_LIN_LAST (packU32 [(t, 0), (r, 8)]))
      else if s.unadmitted [0x15] then .inl (Status.busy, s)
      else .inr { target := t, bodies := bodiesOf l, image := l }

/-- CAN_CHK_LAST. -/
def chkLast (ix rule : Nat) (signal : Bool) (ch : Nat) : U32 := packU32 [(ix, 0), (rule, 16), (b2n signal, 24), (ch, 25)]

/-- Another channel still walks an element of the span (R395). -/
def State.walkedByOther (s : State) (n lo count : Nat) : Bool :=
  (List.range 8).any (fun m => m != n &&
    match (s.canCh m).oldWalk with
    | some (b, ext) => decide (b < lo + count) && decide (lo < b + ext)
    | none => false)

def checkCanfilt (img : Image) (d : Desc) (s : State) : Check :=
  let ch := d.arg 8 1
  let first := d.arg 0xC 2
  let n := d.arg 0xE 2
  let sh := s.filtShare ch
  match if n = 0 then none else d.image 0x10 (16 * n) img with
  | none => .inl (Status.badArg, s)
  | some l =>
    if decide (7 < ch) || decide (2048 < n) || decide (sh.2 < first + n) || !d.resv 9 3 || !d.resv 0x18 40 then
      .inl (Status.badArg, s)
    else
      match (chunks 16 l).findIdx? (fun e => !(FiltElem.ofBytes e).valid) with
      | some i => .inl (Status.badArg, s.setReg Reg.CAN_CHK_LAST (chkLast (first + i) 1 false ch))
      | none =>
        if s.walkedByOther ch (sh.1 + first) n then .inl (Status.quota, s)
        else if s.unadmitted [0x16, 0x17] then .inl (Status.busy, s)
        else .inr { target := sh.1 + first, bodies := bodiesOf l, image := l }

def checkCansig (img : Image) (d : Desc) (s : State) : Check :=
  let first := d.arg 8 2
  let n := d.arg 0xA 2
  match if n = 0 then none else d.image 0x10 (16 * n) img with
  | none => .inl (Status.badArg, s)
  | some l =>
    if decide (1024 < n) || decide (32768 < first + n) || !d.resv 0xC 4 || !d.resv 0x18 40 then .inl (Status.badArg, s)
    else
      let rules := (chunks 16 l).map (fun e => (SigDef.ofBytes e).rule)
      match rules.findIdx? (· != 0) with
      | some i =>
        let r := rules.getD i 0
        .inl (if r = 1 then Status.crc else Status.badArg, s.setReg Reg.CAN_CHK_LAST (chkLast (first + i) r true 0))
      | none =>
        if s.unadmitted [0x16, 0x17] then .inl (Status.busy, s)
        else .inr { target := first, bodies := bodiesOf l, image := l }

/-! ## The steps -/

def execPointWrite (img : Image) (s : State) : Host.Outcome State Fault Refusal :=
  .next (s.fresh.cfgTake 0x10 (checkPoint img))

def execChandefWrite (img : Image) (s : State) : Host.Outcome State Fault Refusal :=
  .next (s.fresh.cfgTake 0x12 (checkChandef img))

def execGroupWrite (img : Image) (s : State) : Host.Outcome State Fault Refusal :=
  .next (s.fresh.cfgTake 0x13 (checkGroup img))

def execFanoutWrite (img : Image) (s : State) : Host.Outcome State Fault Refusal :=
  .next (s.fresh.cfgTake 0x14 (checkFanout img))

def execLintabWrite (img : Image) (s : State) : Host.Outcome State Fault Refusal :=
  .next (s.fresh.cfgTake 0x15 (checkLintab img))

def execCanfiltWrite (img : Image) (s : State) : Host.Outcome State Fault Refusal :=
  .next (s.fresh.cfgTake 0x16 (checkCanfilt img))

def execCansigWrite (img : Image) (s : State) : Host.Outcome State Fault Refusal :=
  .next (s.fresh.cfgTake 0x17 (checkCansig img))

end Sys2Proof.Machine
end

