-- ==== Sys2Proof/Machine/Inlet.lean ====
section
/-! DEFINITION. Inlet: admission, gaps, holds and TICKs (R266, R269-R274). -/

namespace Sys2Proof.Machine

/-! ## Admission of one record -/

/-- The bytes of a record as Spawn stores it; a mark that has not been filled has a zero extension. -/
def storedBytes (r : InRec) : List Byte := (if r.kind = Kind.mark && r.ext.isEmpty then { r with ext := zeros 64 } else r).bytes

/-- A STATUS record of the present state, with its SSN (R305). -/
def State.statusRec (s : State) : InRec × State :=
  let src := mkSource 7 0
  let (n, s) := s.takeSsn src
  ({ time := s.now, source := src, ssn := n, kind := Kind.resync, payload := s.resyncPayload Resync.status 0 0 }, s)

/-- The STATUS record of Skink that waits ahead of its others, and what else waits. -/
def takeStatusRec : List (Nat × InRec) → Option (InRec × List (Nat × InRec))
  | [] => none
  | w :: l =>
    if w.1 = Place.skink then
      if w.2.kind = Kind.resync && w.2.pay 0x18 1 = Resync.status then some (w.2, l) else none
    else (takeStatusRec l).map (fun x => (x.1, w :: x.2))

/-- Bytes that join the CKPT unit that waits for them (R335); it is complete once its mark has been filled. -/
def SpawnUnit.fillCkpt (u : SpawnUnit) (have_ : Nat) (bs : List Byte) : SpawnUnit :=
  if u.kind = 2 && !u.closed && u.bytes.length = have_ then
    let l := u.bytes ++ bs
    { u with bytes := l, closed := l.length == 416 && !allZero (slice l 320 64) }
  else u

def State.ckptUnit (s : State) (have_ : Nat) (bs : List Byte) : State :=
  s.updSpawn (fun p => { p with units := p.units.map (fun u => u.fillCkpt have_ bs) })

/-- What the admission of a mark does to the journal: that of a capture still under way starts with it, and one whose snapshot was abandoned stops until its new mark (R332). -/
def Spawn.marked (p : Spawn) (capturing : Bool) : Spawn :=
  if p.snapping then { p with journaling := p.journaling || capturing }
  else if p.markWanted then { p with journaling := false } else p

/-- The STATUS record behind a mark: one that a change since entry to RUN has brought forward, or one of the present state (R306, R329). -/
def State.statusNext (s : State) : State :=
  match takeStatusRec s.inlet.waiting with
  | some (st, w) => { s with inlet := { s.inlet with waiting := w, reveal := some st } }
  | none =>
    let (st, s) := s.statusRec
    { s with inlet := { s.inlet with reveal := some st } }

/-- What Spawn and Inlet do at the admission of a mark: the journal starts with it, and the STATUS record follows (R329). -/
def State.markAdmitted (s : State) (r : InRec) : State :=
  let s := s.setPair Reg.SPAWN_MARK_ISN_LO Reg.SPAWN_MARK_ISN_HI r.isn
  (s.updSpawn (fun p => p.marked (s.capMode != 0))).statusNext

/-- A TICK at which a checkpoint is due while records are journalled (R326). -/
def State.ckptTick (s : State) (r : InRec) : Bool :=
  let p := s.rfld Reg.SPAWN_CFG 0 12
  r.kind == Kind.tick && p != 0 && r.payload.toNat % (1000 * p) == 0 && s.spawn.journaling && !s.windowFull

/-- A snapshot is under way. -/
def State.snapUnderWay (s : State) : Bool :=
  s.spawn.markWanted || s.spawn.snapping || s.spawn.staging.isSome

/-- A WINDOW capture's checkpoint TICK: unless a snapshot is still under way, its own begins, and CTRL takes no CFG command from here on (step 1 of Table 11-4, R335). -/
def State.ckptStart (s : State) : State :=
  if s.capMode != 2 then s
  else
    let take := !s.snapUnderWay
    let s := s.updSpawn (fun p => { p with ckptSnap := take })
    if take then s.setRegBit Reg.SPAWN_STATUS 5 true else s

/-- The stream's 4,096 most recent records are on die: with one more, the oldest of these goes to its slot in Tarn (R273, Table 18-1). -/
def State.spill (s : State) : State :=
  if s.inlet.stream.length ≤ 4096 then s
  else s.lineWritten (Tarn.WINDOW + 128 * ((s.inlet.isn.toNat - 4096) % 12288)) 128

/-- A record takes the next ISN and enters the stream and the journal (R266, R273, R325). -/
def State.admitRec (s : State) (r : InRec) : State :=
  let r := { r with isn := s.inlet.isn + 1 }
  let i := s.inlet
  let s := { s with inlet := { i with isn := r.isn, stream := i.stream ++ [r], holding := false,
                                      expect := if r.kind = Kind.sourceGap then i.expect
                                                else assocSet i.expect r.source.toNat (r.ssn + 1) } }
  let s := s.spill.bump Reg.INLET_ADMIT_CNT
  let s := s.servers.foldl (fun s e => s.recordMax (Reg.AE_LAG_MAX (engIx e)) (s.lag e)) s
  let s := { s with gecko := { s.gecko with lagSince := s.servers.foldl (fun m e => max m (s.lag e)) s.gecko.lagSince } }
  let due := s.ckptTick r
  let s := if r.kind = Kind.mark then
             (if s.spawn.snapping then (s.markAdmitted r).ckptUnit 288 (storedBytes r) else s.markAdmitted r)
           else if r.kind = Kind.resync then s.ckptUnit 384 r.bytes else s
  let s := s.journal (storedBytes r)
  if due then (s.updSpawn (fun p => { p with ckptDue := some (r.isn, r.time, r.payload) })).ckptStart else s

/-! ## Gaps (R274) -/

/-- PAYLOAD of a SOURCE_GAP (Table 9-6). -/
def gapPayload (expected received : U16) (cause : Nat) : U64 :=
  BitVec.ofNat 64 (expected.toNat + received.toNat * 2 ^ 16 + (received - expected).toNat * 2 ^ 32 + cause * 2 ^ 48)

/-- A record that reveals a gap waits for one admission, the gap record's. -/
def State.admitGap (s : State) (r : InRec) (expected : U16) (cause : Nat) : State :=
  let missing := (r.ssn - expected).toNat
  let s := s.admitRec { time := r.time, source := r.source, ssn := r.ssn - 1, kind := Kind.sourceGap,
                        payload := gapPayload expected r.ssn cause }
  let s := { s with inlet := { s.inlet with reveal := some r, lost := s.inlet.lost.filter (· != r.source.toNat) } }
  let s := ((s.bump Reg.INLET_GAP_CNT).bumpBy Reg.INLET_GAP_MISSING_CNT missing).setReg Reg.INLET_LAST_GAP
    (packU32 [(r.source.toNat, 0), (missing, 16)])
  s.raise Reg.INLET_EVT 1

/-- A source's record is admitted, behind a SOURCE_GAP when its SSN is not the expected one or its source marked a loss. -/
def State.admitSource (s : State) (r : InRec) : State :=
  let lost := s.inlet.lost.contains r.source.toNat
  match s.inlet.expect.find? (fun x => x.1 == r.source.toNat) with
  | some (_, x) => if lost || x != r.ssn then s.admitGap r x (b2n lost) else s.admitRec r
  | none => if lost then s.admitGap r r.ssn 1 else s.admitRec r

/-! ## Host commands and repair records (R23, R119, R497) -/

/-- PAYLOAD of a CMD record (Table 9-5). -/
def cmdPayload (opcode part target parts : Nat) : U64 :=
  BitVec.ofNat 64 (opcode + part * 2 ^ 16 + (target % 2 ^ 22) * 2 ^ 32 + parts * 2 ^ 54)

/-- A configuration change is admitted: CFG_EPOCH goes on, and its barrier stands at the ISN of its last record (R23). -/
def State.openBarrier (s : State) (isn : U64) (u : CmdUnit) : State :=
  let s := s.setReg Reg.INLET_CFG_EPOCH (BitVec.ofNat 32 ((s.cfgEpoch + 1) % 65536))
  { s with inlet := { s.inlet with barriers := s.inlet.barriers ++ [(isn.toNat, u)] } }

/-- The next record of a command (Table 9-5). -/
def State.unitRec (s : State) (u : CmdUnit) : InRec × State :=
  let src := mkSource 6 0
  let (ssn, s) := s.takeSsn src
  ({ time := u.time, source := src, ssn := ssn, kind := Kind.cmd,
     payload := cmdPayload u.opcode.toNat u.sent (u.partTarget u.sent) u.bodies.length, ext := u.bodies.getD u.sent [] }, s)

/-- A command's last record has been admitted: its barrier stands there, and it waits for the engines. -/
def State.unitAdmitted (s : State) (u : CmdUnit) : State :=
  let s := if u.cfg then s.openBarrier s.inlet.isn u else s
  let r : Running := { tag := u.tag, opcode := u.opcode, irqNow := bitAt u.flags 1, isn := s.inlet.isn, left := s.servers }
  { s with hif := { s.hif with running := s.hif.running ++ [r] } }

/-- The next record of the command at the head is admitted; its other records follow with consecutive ISNs, before anything else (R119). -/
def State.admitUnit (s : State) (u : CmdUnit) (l : List CmdUnit) : State :=
  let u := if u.cfg && u.sent = 0 then u.renew ((s.cfgEpoch + 1) % 65536) else u
  let (r, s) := s.unitRec u
  let s := s.admitRec r
  let v := { u with sent := u.sent + 1 }
  if v.sent < u.bodies.length then { s with inlet := { s.inlet with cmds := v :: l } }
  else State.unitAdmitted { s with inlet := { s.inlet with cmds := l } } v

/-- A command some of whose records have been admitted. -/
def State.begunUnit (s : State) : Bool :=
  match s.inlet.cmds with
  | u :: _ => decide (0 < u.sent)
  | [] => false

/-- The command at the head has its next record admitted. -/
def State.admitCmd (s : State) : Option State :=
  match s.inlet.cmds with
  | u :: l => some (s.admitUnit u l)
  | [] => none

/-- The region's errors are repaired as a configuration change (Table 18-2). -/
def eccConfig (o : Off) : Bool :=
  decide (o < Tarn.STATE_A) || (decide (Tarn.FANOUT ≤ o) && decide (o < Tarn.GROUPS))
    || (decide (Tarn.GROUPS ≤ o) && decide (o < Tarn.CHANDEF) && decide ((o - Tarn.GROUPS) % 256 < 0xB0))
    || (decide (Tarn.CHANDEF ≤ o) && decide (o < Tarn.LILYPAD)) || (decide (Tarn.LINTAB ≤ o) && decide (o < Tarn.TREND))

/-- What Gecko's own records do at admission: a seal request completes its command (R292); a configuration-class repair opens a barrier (R497). -/
def State.geckoAdmitted (s : State) (r : InRec) : State :=
  if r.kind = Kind.cmd && r.pay 0x18 2 = 0xFF01 then
    match s.hif.running.find? (fun x => x.dir && x.opcode == 0x72) with
    | some x => s.finish x.tag x.irqNow 0x72 Status.ok s.inlet.isn
    | none => s
  else if r.kind = Kind.cmd && r.pay 0x18 2 = 0xFF02 && eccConfig r.eccOffset then
    s.openBarrier s.inlet.isn { opcode := 0xFF02, target := r.eccOffset / 8, cfg := true }
  else s

/-! ## The admission opportunity (R271, R272) -/

/-- The first waiting record of a place, and the others. -/
def takePlace (pl : Nat) : List (Nat × InRec) → Option (InRec × List (Nat × InRec))
  | [] => none
  | w :: l => if w.1 = pl then some (w.2, l) else (takePlace pl l).map (fun x => (x.1, w :: x.2))

/-- Waiting sources in the order of R271: TICK, Skink, Gecko, and the rotation. -/
def State.placesAhead : List Nat := [Place.tick, Place.skink, Place.gecko]
def State.rotation (s : State) : List Nat := (List.range 58).map (fun i => (s.inlet.rot + i) % 58)

def State.admitPlace (s : State) (pl : Nat) : Option State :=
  match takePlace pl s.inlet.waiting with
  | none => none
  | some (r, w) =>
    let s := { s with inlet := { s.inlet with waiting := w, rot := if pl < 58 then (pl + 1) % 58 else s.inlet.rot } }
    let s := s.admitSource r
    some (if pl = Place.gecko then s.geckoAdmitted r else s)

/-- What waits first is admitted. -/
def State.admitNext (s : State) : State :=
  match s.inlet.reveal with
  | some r => State.admitRec { s with inlet := { s.inlet with reveal := none } } r
  | none =>
    if s.begunUnit then s.admitCmd.getD s else
    match State.placesAhead.findSome? s.admitPlace with
    | some t => t
    | none =>
      match s.admitCmd with
      | some t => t
      | none => (s.rotation.findSome? s.admitPlace).getD s

/-- An engine holds no credit toward Inlet: it is 16,384 records behind (R29). -/
def State.noCredit (s : State) (e : EngineId) : Bool := decide (16384 ≤ s.lag e)

/-- Every engine in service is without credit. -/
def State.heldByEngines (s : State) : Bool := s.servers.all s.noCredit

/-- The progress check of R29: an engine without credit fails, unless both in service are and Inlet holds. -/
def State.creditCheck (s : State) : State :=
  match s.servers.filter s.noCredit with
  | [e] => s.failEngine e 4
  | _ => s

/-- The Spawn ring has no room for the next record in CONTINUOUS mode. -/
def State.heldBySpawn (s : State) : Bool := s.ringFullFor 96

/-- A hold of R272 begins. -/
def State.beginHold (s : State) : State :=
  if s.inlet.holding then s else
  let s := { s with inlet := { s.inlet with holding := true } }.bump Reg.INLET_HOLD_CNT
  if s.heldBySpawn then (s.bump Reg.SPAWN_HOLD_CNT).raise Reg.SPAWN_EVT 0x10 else s

def State.admitRecord (s : State) : State :=
  if s.mgmt != Node.run then s else
  let s := s.creditCheck
  if s.mgmt != Node.run then s
  else if s.heldByEngines || s.heldBySpawn then s.beginHold
  else s.admitNext

/-! ## TICKs (R269) -/

/-- Extension of a TICK (Table 9-4). -/
def State.tickExt (s : State) : List Byte :=
  leBytes 8 s.releasedEsn.toNat ++ leBytes 4 s.backlogCap
    ++ [BitVec.ofNat 8 s.ws.quality.toNat, BitVec.ofNat 8 s.ws.epoch.toNat] ++ zeros 50

/-- CORE clocks to the next multiple of 200,000 of the free-running counter. -/
def State.toTick (s : State) : Nat := 200000 - s.frcNat % 200000

/-- Wellspring issues a TICK, in RUN only (R25, R344). -/
def State.issueTick (s : State) : State :=
  if s.mgmt != Node.run then s else
  let n := s.inlet.tickNo + 1
  let s := { s with inlet := { s.inlet with tickNo := n } }
  s.offer Place.tick { time := s.now, source := mkSource 5 0, kind := Kind.tick, payload := n, ext := s.tickExt }

/-! ## The steps -/

def execRecordAdmission (s : State) : Host.Outcome State Fault Refusal := .next s.fresh.admitRecord

end Sys2Proof.Machine
end

