-- ==== Sys2Proof/Machine/Dio.lean ====
section
/-! DEFINITION. Isolated digital I/O: sampling and records, counters, output requests and frames, the field-side watchdogs, faults and Newt restarts (R300, R319, R351-R374). -/

namespace Sys2Proof.Machine

/-! ## Banks and channels (R351, R352) -/

def State.bank (s : State) : Nat → Bank
  | 0 => s.dio.bank0
  | 1 => s.dio.bank1
  | 2 => s.dio.bank2
  | _ => s.dio.bank3

def State.updDio (s : State) (f : Dio → Dio) : State := { s with dio := f s.dio }

def State.updBank (s : State) (b : Nat) (f : Bank → Bank) : State :=
  match b with
  | 0 => s.updDio (fun d => { d with bank0 := f d.bank0 })
  | 1 => s.updDio (fun d => { d with bank1 := f d.bank1 })
  | 2 => s.updDio (fun d => { d with bank2 := f d.bank2 })
  | _ => s.updDio (fun d => { d with bank3 := f d.bank3 })

abbrev Dmode.in_ : Nat := 1
abbrev Dmode.cnt : Nat := 2
abbrev Dmode.out : Nat := 3
abbrev Dmode.outCall : Nat := 4
abbrev Dmode.outHost : Nat := 5

/-- DIO_CH_CFG.MODE (Table 12-1). -/
def State.dioMode (s : State) (n : Nat) : Nat := s.rfld (Reg.DIO_CH_CFG n) 0 3

/-- An output mode. -/
def State.dioOut (s : State) (n : Nat) : Bool := inRange 3 5 (s.dioMode n)

/-- The channels of a bank for which `f` holds, bit i for IO(16b + i). -/
def bankMask (b : Nat) (f : Nat → Bool) : U16 := maskOf 16 (fun i => f (16 * b + i))

/-- The Newt that serves a bank has stopped. -/
def State.stalled (s : State) (newt : Nat) : Bool := if newt = 0 then s.dio.stalledA else s.dio.stalledB

/-- The field side communicates (DIO_BANK_STATUS.FIELD_UP). -/
def State.fieldUp (s : State) (b : Nat) : Bool := s.rbit (Reg.DIO_BANK_STATUS b) 1

def State.bankFault (s : State) (b : Nat) : Bool := s.rbit (Reg.DIO_BANK_STATUS b) 0

/-! ## Output requests (R300, R319, R360) -/

/-- OUT_HOST levels (R362). -/
def State.dioHost (s : State) : U64 := s.pair Reg.DIO_HOST_LO Reg.DIO_HOST_HI

/-- The owning point's condition on an engine's region, or the owning TMO's level; a pulse below 1 ms is not routed (R431). -/
def State.ownerTerm (s : State) (e : EngineId) (n : Nat) : Bool :=
  let own := s.rfld (Reg.DIO_CH_OWNER n) 0 17
  match s.rfld (Reg.DIO_CH_CFG n) 10 2 with
  | 1 =>
    if 81919 < own then false else
    let x := s.pt e own
    let shown := !x.has Sub.blocked && !x.has Sub.shelved
    -- FAULT_IS_ALARM of a record that is not valid is not read (R225).
    let active := shown && ((s.pcfg own).read own).alarm x.state
    let unacked := shown && x.has Sub.unacked
    let on := match s.rfld (Reg.DIO_CH_CFG n) 8 2 with
      | 0 => active
      | 1 => unacked
      | 2 => active || unacked
      | _ => alarmCode x.state
    on != s.rbit (Reg.DIO_CH_CFG n) 6
  | 2 =>
    let k := s.rfld (Reg.DIO_CH_OWNER n) 17 3
    s.dioMode n == Dmode.out && s.tmoRouteOk k && (s.tmo k).level
  | _ => false

/-- PAIR_CTL.EN is 1 and the pair cable is present (R319). -/
def State.paired (s : State) : Bool := s.rbit Reg.PAIR_CTL 0 && !s.skink.pairSenseHigh

/-- A shared output: a channel in OUT_CALL whose bit in PAIR_MASK is 1. -/
def State.sharedOut (s : State) (n : Nat) : Bool :=
  s.dioMode n == Dmode.outCall && bitAt (s.pair Reg.PAIR_MASK_LO Reg.PAIR_MASK_HI) n

/-- A shared output that this module may not drive (R319): its bit in PAIR_MASK, the channel in OUT_CALL, no claim. -/
def State.withheld (s : State) (n : Nat) : Bool := s.paired && !s.skink.sharing && s.sharedOut n

/-- The holder's request image: Croak requests and owner terms; while no engine holds it stays as last built (R311). -/
def State.buildRequests (s : State) : State :=
  match s.skink.holder with
  | none => s
  | some e => s.updDio (fun d => { d with callReq := s.croakDrive e, ownReq := maskOf 64 (s.ownerTerm e) })

/-- A channel's request, before the pair gate (Table 12-4). -/
def State.request (s : State) (n : Nat) : Bool :=
  match s.dioMode n with
  | 3 => bitAt s.dio.ownReq n
  | 4 => bitAt s.dio.callReq n || bitAt s.dio.ownReq n
  | 5 => bitAt s.dioHost n
  | _ => false

/-- The level that a frame commands: in REPLAY the one held from its entry (Table 12-7). -/
def State.commandLevel (s : State) (n : Nat) : Bool :=
  match s.dio.replayHold with
  | some h => s.dioOut n && bitAt h n
  | none => s.request n && !s.withheld n

/-- PAIR_BLOCKED: requested on, withheld for lack of the claim. -/
def State.noteBlocked (s : State) : State :=
  s.setPair Reg.PAIR_BLOCKED_LO Reg.PAIR_BLOCKED_HI (maskOf 64 (fun n => s.withheld n && s.request n))

/-! ## Frames (R361, R363) -/

/-- The watchdog refresh reaches a bank: the latest image applies, and WD_TIMEOUT is in force again (R363, R365). -/
def State.refreshed (s : State) (b : Nat) : State :=
  ((s.setRegBit (Reg.DIO_BANK_STATUS b) 2 true).setRegBit (Reg.DIO_BANK_STATUS b) 3 false).setRegBit
    (Reg.DIO_BANK_STATUS b) 4 false |>.updBank b (fun k => { k with wdExpired := false })

/-- The channels of a bank in thermal shutdown. -/
def Bank.shut (k : Bank) : U16 := maskOf 16 (fun i => k.causes.contains (.thermal (BitVec.ofNat 4 i)))

/-- The pins follow the last image, while the field side is up and its watchdog runs; a switch that has shut down waits for its retry (R353). -/
def State.applyImage (s : State) (b : Nat) : State :=
  if s.fieldUp b && !(s.bank b).wdExpired then s.updBank b (fun k => { k with pins := k.commanded &&& ~~~k.shut }) else s

/-- Newt sends a bank a frame with 16 levels. -/
def State.frameOf (s : State) (refresh : Bool) (b : Nat) (img : U16) : State :=
  let s := (s.emitOut (.dioFrame b img refresh)).setReg (Reg.DIO_BANK_CMD b) (img.zeroExtend 32)
  let s := s.updBank b (fun k => { k with commanded := img })
  let s := if refresh && s.fieldUp b then s.refreshed b else s
  s.applyImage b

/-- Newt sends a bank a frame with its 16 commanded levels. -/
def State.frameTo (s : State) (refresh : Bool) (b : Nat) : State := s.frameOf refresh b (bankMask b s.commandLevel)

/-- The banks of a Newt (R351). -/
def newtBanks (newt : Nat) : List Nat := [2 * newt, 2 * newt + 1]

/-- An engine that could take the hold: IN_SERVICE (R299). -/
def State.candidate (s : State) : Option EngineId :=
  [s.skink.preferred, other s.skink.preferred].find? (fun e => (s.eng e).svc == Svc.inService)

/-- A holder alive in the sense of R361; entry to RUN and the end of a pause count as a TICK evaluated. -/
def State.holderAlive (s : State) : Bool :=
  match s.skink.holder with
  | some e => decide (s.frcNat - (s.eng e).tickAt ≤ 1000000)
  | none => s.skink.handover && s.candidate.isSome

/-- The frames of one Newt in RUN and REPLAY; in REPLAY the watchdogs are refreshed throughout (Table 12-7). -/
def State.frames (s : State) (newt : Nat) (refresh : Bool) : State :=
  if !s.running || s.stalled newt then s
  else (newtBanks newt).foldl (State.frameTo · (refresh && (s.holderAlive || s.mgmt == Node.replay)))
    s.buildRequests.noteBlocked

/-- Extra frames, sent at once with the latest image: after a DIO_WRITE or a TMO edge (R361). -/
def State.extraFrames (s : State) : State := (s.frames 0 false).frames 1 false

/-- The extra frames of a TMO edge, when a routed output changed in the step (R361). -/
def State.tmoEdges (before s : State) : State :=
  if (List.range 8).any (fun k => (before.tmo k).level != (s.tmo k).level && s.tmoRouted k) then s.extraFrames else s

/-- A lossless ring's producer has an entry to write: completions, events, capture buffers (R111). -/
def State.ringWaiting (s : State) (n : Nat) : Bool :=
  if n = 1 then !s.hif.ready.isEmpty || s.hif.unwritten != 0
  else if n = 7 then s.bufReady
  else decide (2 ≤ n) && decide (n ≤ 5) && (writeNext (n - 2) s.outlet.backlog).isSome

/-- `n` CORE clocks in which a lossless producer holds without credit are counted for CREDIT_WAIT (R503). -/
def State.countWait (s : State) (n : Nat) : State :=
  if [1, 2, 3, 4, 5, 7].any (fun k => s.ringWaiting k && s.ringCredit k == 0) then
    { s with gecko := { s.gecko with waitClocks := s.gecko.waitClocks + n } }
  else s

/-- `n` CORE clocks pass, with the frames of what an armed switch of the time may fire in them. -/
def State.pass (s : State) (n : Nat) : State := State.tmoEdges s ((s.countWait n).elapse n)

/-- The refresh frames of one Newt, and the milliseconds that a fault bit is set. -/
def State.newtRefresh (s : State) (newt : Nat) (late : Bool) : State :=
  let s := (newtBanks newt).foldl (fun s b => if s.bankFault b then s.bump (Reg.DIO_BANK_FAULT_MS_CNT b) else s) s
  if !s.running || s.stalled newt then
    (newtBanks newt).foldl (fun s b => s.setRegBit (Reg.DIO_BANK_STATUS b) 2 false) s
  else
    -- Shared outputs are driven from the first frame after the claim (DEDUCED, log entry 41).
    let s := { s with skink := { s.skink with sharing := s.skink.claim } }
    let s := if s.mgmt == Node.replay || s.holderAlive then s
      else (newtBanks newt).foldl (fun s b => s.setRegBit (Reg.DIO_BANK_STATUS b) 2 false) s
    let s := s.frames newt true
    if late then (s.bump Reg.DIO_REFRESH_LATE_CNT).raise Reg.DIO_EVT 2 else s

/-- DIO_WRITE (R362). -/
def State.dioWrite (s : State) (d : Desc) : State :=
  let mask := d.arg 8 8
  let level := d.arg 0x10 8
  if !d.resv 0x18 40 || (List.range 64).any (fun n => (mask.testBit n && s.dioMode n != Dmode.outHost)
      || (level.testBit n && !mask.testBit n)) then s.done d Status.badArg
  else
    let m := BitVec.ofNat 64 mask
    let img := (s.dioHost &&& ~~~m) ||| BitVec.ofNat 64 level
    let s := (s.setPair Reg.DIO_HOST_LO Reg.DIO_HOST_HI img).extraFrames
    (s.bump Reg.DIO_WRITE_CNT).done d Status.ok img

/-! ## Watchdogs and safe states (R363) -/

/-- The safe level of each output of a bank; HOLD keeps `held`. -/
def State.safeLevels (s : State) (b : Nat) (held : U16) : U16 :=
  maskOf 16 (fun i =>
    match fld (s.bank b).safe (2 * i) 2 with
    | 1 => true
    | 2 => bitAt held i
    | _ => false)

/-- Newt writes the safe-state store at START (R363); a channel that is no output has OFF there. -/
def State.writeSafe (s : State) : State :=
  (List.range 4).foldl (fun s b => s.updBank b (fun k => { k with
    safe := packU32 ((List.range 16).map (fun i => (if s.dioOut (16 * b + i) then s.rfld (Reg.DIO_CH_CFG (16 * b + i)) 4 2 else 0, 2 * i))) })) s

/-- A bank's watchdog expires: its outputs take their safe state, whatever the logic side does (R35). -/
def State.wdExpire (s : State) (b : Nat) : State :=
  let k := s.bank b
  if k.wdExpired then s else
  let s := s.updBank b (fun k => { k with wdExpired := true, held := k.pins, pins := s.safeLevels b k.pins &&& ~~~k.shut })
  if s.mgmt < Node.selftest then s else
  let s := (s.setRegBit (Reg.DIO_BANK_STATUS b) 2 false).setRegBit (Reg.DIO_BANK_STATUS b) 3 true
  (s.bump (Reg.DIO_BANK_WD_CNT b)).raise (Reg.DIO_BANK_EVT b) 8

/-- The frames that extend the watchdogs to 1,000 ms before an activation (R365). -/
def State.extendWatchdogs (s : State) : State :=
  (List.range 4).foldl (fun s b =>
    if s.stalled (b / 2) then s
    else (s.emitOut (.wdExtend b)).setRegBit (Reg.DIO_BANK_STATUS b) 4 true) s

/-! ## Sampling (R354-R358, R368) -/

/-- Disagreement of two consecutive windows sets a mismatch, agreement of two clears it (R368). -/
def State.mismatches (s : State) (b : Nat) (levels settled : U16) : State :=
  let k := s.bank b
  let outs := bankMask b s.dioOut
  let bad := (levels ^^^ k.commanded) &&& outs &&& settled
  let good := ~~~(levels ^^^ k.commanded) &&& outs &&& settled
  let old : U16 := BitVec.ofNat 16 (s.reg (Reg.DIO_BANK_MISMATCH b)).toNat
  let set := bad &&& k.disagree &&& ~~~old
  let now := (old ||| set) &&& ~~~(good &&& k.agree) &&& outs
  let s := s.updBank b (fun k => { k with disagree := bad, agree := good })
  let s := s.setReg (Reg.DIO_BANK_MISMATCH b) (now.zeroExtend 32)
  let s := (bitsOf set).foldl (fun s i => s.bump (Reg.DIO_CH_MISMATCH_CNT (16 * b + i))) s
  if set = 0 then s else s.raise (Reg.DIO_BANK_EVT b) 0x10

/-- The DI_CHANGE record of a window, when R356 asks for one. -/
def State.offerDi (s : State) (b : Nat) (levels : U16) : State :=
  let k := s.bank b
  let fault := s.bankFault b
  if !k.initial && !k.fieldResetRec && levels == k.lastLevels && fault == k.lastFault then s else
  let diff := levels ^^^ k.lastLevels
  let changed := if k.initial then bankMask b (fun n => s.dioMode n == Dmode.in_ || s.dioOut n) else diff
  let bstat := b2n fault + 2 * b2n k.initial + 4 * b2n k.fieldResetRec
  let pay := BitVec.ofNat 64 (levels.toNat + changed.toNat * 2 ^ 16 + k.commanded.toNat * 2 ^ 32 + bstat * 2 ^ 48)
  let credit := s.hasCredit (Place.newt (b / 2))
  let s := (s.offer (Place.newt (b / 2)) { time := s.now, source := mkSource 2 b, kind := Kind.diChange, payload := pay }).bump
    (Reg.DIO_BANK_RECORD_CNT b)
  if !credit then s else
  -- An INITIAL record reports levels; the others report changes of level.
  let s := if k.initial then s else (bitsOf diff).foldl (fun s i => s.bump (Reg.DIO_CH_EDGE_CNT (16 * b + i))) s
  s.updBank b (fun k => { k with lastLevels := levels, lastFault := fault, initial := false, fieldResetRec := false })

/-- A sampling window of a bank ends (R354). -/
def State.windowEnd (s : State) (b : Nat) (pins settled : U16) : State :=
  if !s.fieldUp b || s.stalled (b / 2) || decide (s.mgmt < Node.setup) then s else
  let levels := pins &&& bankMask b (fun n => s.dioMode n == Dmode.in_ || s.dioOut n)
  let s := (s.setReg (Reg.DIO_BANK_LEVEL b) (levels.zeroExtend 32)).mismatches b levels settled
  if s.mgmt = Node.run then s.offerDi b levels else s

/-! ## Counters (R359) -/

/-- The channel of counter k (Table 7-3). -/
def counterCh (k : Nat) : Nat := if k < 8 then k else 24 + k

def State.counter (s : State) (k : Nat) : Counter := Sparse.get { } s.dio.counters k
def State.updCounter (s : State) (k : Nat) (f : Counter → Counter) : State :=
  s.updDio (fun d => { d with counters := Sparse.upd { } d.counters k f })

/-- The counter runs: its channel is in CNT mode, its field side up and its Newt alive. -/
def State.counts (s : State) (k : Nat) : Bool :=
  s.dioMode (counterCh k) == Dmode.cnt && s.fieldUp (counterCh k / 16) && !s.stalled (k / 8)

/-- A COUNT record (R359). -/
def State.offerCount (s : State) (k cycles : Nat) : State :=
  if s.mgmt != Node.run || !s.counts k then s else
  let c := s.counter k
  let rate := F32.ofRatio ((c.count - c.prev).toNat * 48000000) (max cycles 1)
  let s := s.updCounter k (fun c => { c with prev := c.count })
  s.offer (Place.newt (k / 8)) { time := s.now, source := mkSource 3 k, kind := Kind.count,
                                 payload := rate ++ c.count }

/-! ## Newt stops and faults (R366, R367, R369) -/

/-- CTRL restarts a Newt that gives no sign of life. -/
def State.newtStop (s : State) (newt : Nat) : State :=
  if s.stalled newt then s else
  let s := s.updDio (fun d => if newt = 0 then { d with stalledA := true } else { d with stalledB := true })
  let s := (newtBanks newt).foldl (fun s b => s.setRegBit (Reg.DIO_BANK_STATUS b) 2 false) s
  ((s.setRegBit Reg.DIO_STATUS newt false).bump Reg.DIO_NEWT_RESTART_CNT).raise Reg.DIO_EVT 1

/-- The restarted Newt: losses marked, INITIAL records to come, counters from 0. One that failed its self-test stays stopped (Table 3-3). -/
def State.newtStart (s : State) (newt : Nat) : State :=
  if !s.stalled newt || s.rbit Reg.MGMT_SELFTEST (7 + newt) then s else
  let s := s.updDio (fun d => if newt = 0 then { d with stalledA := false } else { d with stalledB := false })
  let s := s.setRegBit Reg.DIO_STATUS newt true
  let s := (newtBanks newt).foldl (fun s b => (s.updBank b (fun k => { k with initial := true, disagree := 0, agree := 0 })).markLoss (mkSource 2 b)) s
  (span (8 * newt) 8).foldl (fun s k =>
    let s := s.updCounter k (fun _ => { })
    if s.dioMode (counterCh k) = Dmode.cnt then s.markLoss (mkSource 3 k) else s) s

/-- A qualified fault cause (R367); a switch in thermal shutdown is off. -/
def State.setFault (s : State) (b : Nat) (c : FaultCause) : State :=
  let s := s.updBank b (fun k => { k with causes := if k.causes.contains c then k.causes else k.causes ++ [c] })
  let s := s.updBank b (fun k => { k with pins := k.pins &&& ~~~k.shut })
  if s.bankFault b then s
  else ((s.setRegBit (Reg.DIO_BANK_STATUS b) 0 true).bump (Reg.DIO_BANK_FAULT_CNT b)).raise (Reg.DIO_BANK_EVT b) 1

/-- An output of the bank is in thermal shutdown. -/
def State.shutDown (s : State) (b : Nat) : Bool := (s.bank b).shut &&& bankMask b s.dioOut != 0

/-- No cause has been present for 10 ms: every shut-down output has recovered, and the field side communicates. -/
def State.clearFault (s : State) (b : Nat) : State :=
  if !s.bankFault b || !s.fieldUp b || s.shutDown b then s else
  ((s.updBank b (fun k => { k with causes := [] })).setRegBit (Reg.DIO_BANK_STATUS b) 0 false).raise (Reg.DIO_BANK_EVT b) 2

/-- The field supply has fallen to 14.0 V: every output off, no switch in shutdown, no sampling, no record. The field side does so whatever the node's state is (R74, R369). -/
def State.fieldReset (s : State) (b : Nat) : State :=
  if !s.fieldUp b && !(s.bank b).powered then s else
  let s := s.updBank b (fun k => { k with pins := 0, wdExpired := true, held := 0, powered := false,
                                          causes := k.causes.filter (fun c => c == .currentLimit || c == .supplyLow || c == .noComm) })
  (s.setRegBit (Reg.DIO_BANK_STATUS b) 1 false).setRegBit (Reg.DIO_BANK_STATUS b) 2 false

/-- The field side restarts in safe state, HOLD taken as OFF; a Newt that runs marks its loss and counts the reset. -/
def State.fieldStart (s : State) (b : Nat) : State :=
  if s.fieldUp b then s else
  let s := s.updBank b (fun k => { k with pins := s.safeLevels b 0, wdExpired := true, held := 0, powered := true, disagree := 0, agree := 0 })
  if s.mgmt < Node.selftest then s else
  let s := ((s.setRegBit (Reg.DIO_BANK_STATUS b) 1 true).bump (Reg.DIO_BANK_FRESET_CNT b)).raise (Reg.DIO_BANK_EVT b) 4
  if s.sourcesRun then (s.updBank b (fun k => { k with fieldResetRec := true })).markLoss (mkSource 2 b) else s

/-- The level that a channel's switch is to drive: its command, or its safe state while the watchdog has expired. -/
def State.driveLevel (s : State) (n : Nat) : Bool :=
  let k := s.bank (n / 16)
  s.dioOut n && bitAt (if k.wdExpired then s.safeLevels (n / 16) k.held else k.commanded) (n % 16)

/-- A shut-down output switch retries (R353): it stays off while it is to drive into the short, and drives its level again otherwise. -/
def State.thermalRetry (s : State) (n : Nat) (shorted : Bool) : State :=
  let b := n / 16
  let c : FaultCause := .thermal (BitVec.ofNat 4 n)
  if !(s.bank b).causes.contains c || !s.fieldUp b || (shorted && s.driveLevel n) then s
  else s.updBank b (fun k => { k with causes := k.causes.filter (· != c), pins := setBit k.pins (n % 16) (s.driveLevel n) })

/-- DIO at entry to RUN (R356, R359): an INITIAL record per bank, counters from 0. -/
def State.dioRun (s : State) : State :=
  let s := s.updDio (fun d => { d with counters := [], replayHold := none })
  (List.range 4).foldl (fun s b => s.updBank b (fun k => { k with
    initial := true, fieldResetRec := false, lastLevels := 0, lastFault := false })) s

/-- Levels that every pin shows. -/
def State.pinImage (s : State) : U64 :=
  maskOf 64 (fun n => bitAt (s.bank (n / 16)).pins (n % 16))

/-! ## The steps -/

/-- The next multiple of 200,000 of the free-running counter is reached. -/
def execTickGeneration (s : State) : Host.Outcome State Fault Refusal :=
  .next (s.fresh.pass s.toTick).issueTick

def execDioWrite (s : State) : Host.Outcome State Fault Refusal :=
  .next (s.fresh.dirCmd 0x73 (fun d s => s.dioWrite d))

def execDioWindowEnd (bank : Nat) (pins : U16) (settled : U16) (dt : Nat) (s : State) : Host.Outcome State Fault Refusal :=
  need (decide (bank < 4)) ((s.fresh.pass dt).windowEnd bank pins settled)

def execCounterEdge (k : Nat) (s : State) : Host.Outcome State Fault Refusal :=
  need (decide (k < 16)) (if s.fresh.counts k then s.fresh.updCounter k (fun c => { c with count := c.count + 1 }) else s.fresh)

def execCountPeriodExpiry (k : Nat) (cycles : Nat) (dt : Nat) (s : State) : Host.Outcome State Fault Refusal :=
  need (decide (k < 16)) ((s.fresh.pass dt).offerCount k cycles)

def execNewtRefresh (newt : Nat) (late : Bool) (s : State) : Host.Outcome State Fault Refusal :=
  need (decide (newt < 2)) (s.fresh.newtRefresh newt late)

def execWatchdogExpiry (bank : Nat) (s : State) : Host.Outcome State Fault Refusal :=
  need (decide (bank < 4)) (s.fresh.wdExpire bank)

def execNewtStall (newt : Nat) (s : State) : Host.Outcome State Fault Refusal :=
  need (decide (newt < 2)) (s.fresh.newtStop newt)

def execNewtRestart (newt : Nat) (s : State) : Host.Outcome State Fault Refusal :=
  need (decide (newt < 2)) (s.fresh.newtStart newt)

def execFaultSet (bank : Nat) (cause : FaultCause) (s : State) : Host.Outcome State Fault Refusal :=
  need (decide (bank < 4)) (s.fresh.setFault bank cause)

def execFaultClear (bank : Nat) (s : State) : Host.Outcome State Fault Refusal :=
  need (decide (bank < 4)) (s.fresh.clearFault bank)

def execFieldReset (bank : Nat) (s : State) : Host.Outcome State Fault Refusal :=
  need (decide (bank < 4)) (s.fresh.fieldReset bank)

def execFieldSideRestart (bank : Nat) (s : State) : Host.Outcome State Fault Refusal :=
  need (decide (bank < 4)) (s.fresh.fieldStart bank)

def execThermalShutdownRetry (ch : Nat) (shorted : Bool) (s : State) : Host.Outcome State Fault Refusal :=
  need (decide (ch < 64)) (s.fresh.thermalRetry ch shorted)

end Sys2Proof.Machine
end

