-- ==== Sys2Proof/Machine/Fe.lean ====
section
/-! DEFINITION. The front end at work: slots, samples, calibration, moves between lanes, clamps, shunts and bias generators (R145-R151, R156, R168-R202). -/

namespace Sys2Proof.Machine

/-! ## Lanes -/

/-- A lane bit in a pair of registers, 32 lanes to the first. -/
def State.laneBit (s : State) (lo : Off) (n : Nat) : Bool := s.rbit (lo + 4 * (n / 32)) (n % 32)
def State.setLaneBit (s : State) (lo : Off) (n : Nat) (b : Bool) : State := s.setRegBit (lo + 4 * (n / 32)) (n % 32) b

/-- The lane failed its self-test (Table 3-3). -/
def State.laneFault (s : State) (n : Nat) : Bool := s.laneBit Reg.FE_LANE_FAULT0 n

def State.laneOn (s : State) (n : Nat) : Bool := s.rbit (Reg.LANE_CTL n) 0

/-- A lane has a held sample of a definition. -/
def Lane.holds (l : Lane) (d : Nat) : Bool := l.held.any (fun r => r.srcIndex == d)

/-- The first position at or after the lane's next one that takes time: enabled, with a definition bound to the lane (R172). -/
def State.nextSlot (s : State) (n : Nat) : Option Nat :=
  ((List.range 16).map (fun i => ((s.lane n).nextPos + i) % 16)).find? (fun p =>
    s.scanEn n p && (s.chDef (s.scanDef n p)).lane == n)

/-- The settling counter is loaded at a definition's first slot since a cause of R176. -/
def State.loadSettle (s : State) (n : Nat) (d : ChDef) : State :=
  s.updDef n (fun x =>
    if x.load = 0 then x
    else { x with load := 0,
                  settle := d.settleN + if x.load = 2 && d.excited then s.rfld (Reg.EX_CTL d.exSrc) 0 4 else 0 })

/-- Source k drives in a slot of a lane (EX_STATUS, Table 5-9). -/
def State.exDrives (s : State) (k mode lane : Nat) : State := s.setReg (Reg.EX_STATUS k) (packU32 [(1, 0), (mode, 1), (lane, 8)])

/-- A source serves a slot (Table 5-9). -/
def State.driveSource (s : State) (n : Nat) (d : ChDef) : State :=
  if !d.excited then s else
  let s := s.exDrives d.exSrc d.exMode d.lane
  let s := { s with fe := { s.fe with exModes := Sparse.set 0 s.fe.exModes d.exSrc d.exMode } }
  let s := (s.setReg (Reg.EX_LAST_DEF d.exSrc) (BitVec.ofNat 32 n)).setReg (Reg.EX_LAST_MAG d.exSrc) d.exMag
  s.bump (Reg.EX_USE_CNT d.exSrc)

/-- A clamp event is in progress on a terminal. -/
def State.clampNow (s : State) (t : Nat) : Bool := s.rbit (Reg.XP_CLAMP_NOW (t / 32)) (t % 32)

/-! ## Calibration items (R180, Table 6-6) -/

/-- Sources whose last definition is bound to a lane; one that has served none since reset has no item. -/
def State.calSources (s : State) (n : Nat) : List Nat :=
  (List.range 16).filter (fun k =>
    s.reg (Reg.EX_LAST_MAG k) != 0 && (s.chDef (s.rfld (Reg.EX_LAST_DEF k) 0 8)).lane == n)

def State.calItems (s : State) (n : Nat) : List Nat := List.range 16 ++ (s.calSources n).map (· + 16)

/-- The first item at or after a given one; a cycle starts again at item 0. -/
def State.calItemFrom (s : State) (n i : Nat) : Nat := ((s.calItems n).find? (fun j => decide (i ≤ j))).getD 0

/-! ## The crosspoint (R139, R141, R148, R154) -/

/-- What a terminal select code names (Table 5-2). -/
def xpEnd (c : Nat) : XpEnd := if c = 0xF0 then .feGnd else .terminal c

/-- The switches that a definition's slot closes on a lane: its inputs, its poles, its bias and its pull through 10 MΩ. -/
def ChDef.switches (d : ChDef) (n : Nat) : List XpSwitch :=
  [⟨.lanePos n, xpEnd d.pos⟩, ⟨.laneNeg n, xpEnd d.neg⟩]
    ++ (if d.excited then [⟨.poleA d.exSrc, xpEnd d.poleA⟩, ⟨.poleB d.exSrc, xpEnd d.poleB⟩] else [])
    ++ (if d.biasOn && d.exMode == 0 then [⟨.bias (fld d.bias 0 3), xpEnd d.biasTarget⟩] else [])
    ++ (if d.breakPull && d.exMode == 0 then [⟨.lanePos n, .ref2500⟩] else [])

/-- 100 µA, the bound between the reference rows of Table 6-6. -/
abbrev f100u : F32 := 0x38D1B717

/-- The rows that a calibration slot joins (Table 6-6). -/
def State.calSwitches (s : State) (n item : Nat) : List XpSwitch :=
  let k := item - 16
  let mag := s.reg (Reg.EX_LAST_MAG k)
  if item < 8 then [⟨.lanePos n, .short⟩, ⟨.laneNeg n, .short⟩]
  else if item < 16 then [⟨.lanePos n, .ref2500⟩]
  else if F32.le mag 0x3BA3D70A then
    let ref := if F32.le f100u mag then .ref1k else .ref10k
    [⟨.poleA k, ref⟩, ⟨.poleB k, ref⟩]
  else []

/-- The sources whose pole A the switches join. -/
def drivenSources (l : List XpSwitch) : List Nat :=
  l.filterMap (fun x => match x.row with | .poleA k => some k | _ => none)

/-- A slot boundary of a lane (R141): the switches that the starting slot does not keep open, and the sources that drove on the lane rest, unless the starting slot uses them; then the starting slot's close. -/
def State.crosspoint (s : State) (n : Nat) (next : List XpSwitch) : State :=
  let old := (s.lane n).closed
  let kept := old.filter next.contains
  let rest := (List.range 16).filter (fun k => !(drivenSources next).contains k && s.rfld (Reg.EX_STATUS k) 8 8 == n)
  (rest.foldl State.restSource s).updLane n (fun l => { l with closed := kept ++ next.filter (fun x => !kept.contains x) })

/-- The rows that slots have joined to a terminal. -/
def State.joined (s : State) (t : Nat) : List XpRow :=
  (s.fe.lanes.flatMap (fun c => c.2.closed)).filterMap (fun x => if x.to_ = .terminal t then some x.row else none)

/-! ## Slot boundaries -/

/-- A calibration slot that is due begins; a source item's source drives in it in the mode in which it last served (Table 6-6). -/
def State.calStart (s : State) (n : Nat) : State :=
  let item := s.calItemFrom n (s.lane n).calItem
  let s := s.crosspoint n (s.calSwitches n item)
  let s := if item < 16 then s else s.exDrives (item - 16) (Sparse.get 0 s.fe.exModes (item - 16)) n
  s.updLane n (fun l => { l with calDue := false, calActive := true, calItem := item, atStart := false })

/-- The calibration factor of a definition's source: EX_CAL_I in current mode, EX_CAL_U in the others. -/
def State.exFactor (s : State) (d : ChDef) : F32 :=
  s.reg (if d.exMode = 1 then Reg.EX_CAL_I d.exSrc else Reg.EX_CAL_U d.exSrc)

/-- A slot boundary of a lane (R172, R174, R179): a calibration slot that is due comes first, but for the lane's first slot of a run, which is position 0's. -/
def State.slotStart (s : State) (n : Nat) : State :=
  let l := s.lane n
  let next := if s.mgmt = Node.run then s.nextSlot n else none
  if l.slot.isSome || l.calActive then s
  else if !s.laneOn n || !(s.mgmt == Node.run || s.mgmt == Node.setup) then s.crosspoint n []
  else if l.calDue && !(l.atStart && next.isSome) then s.calStart n
  else match next with
    | none => s.crosspoint n []
    | some p =>
      let k := s.scanDef n p
      let d := s.chDef k
      let go := s.chValid k && !l.holds k
      let sl : Slot := { pos := p, defn := k, image := d.raw, valid := go, adjacent := l.afterCal, factor := s.exFactor d,
                         table := if d.linId < 64 then s.linBytes d.linId else [],
                         clampSeen := d.terminals.any s.clampNow }
      let s := s.crosspoint n (if go then d.switches n else [])
      let s := if go then (s.loadSettle k d).driveSource k d else s
      let sl := { sl with settling := go && decide (0 < (s.defSt k).settle) }
      let s := if go then s.updDef k (fun x => { x with settle := x.settle - 1 }) else s
      s.updLane n (fun l => { l with slot := some sl, afterCal := false, atStart := false })

/-! ## From codes to a value (R145, R169, R170, R190, R191) -/

/-- LSB_g = 2.5 V / (2^g · 2^23). -/
def lsb (g : Nat) : F32 := F32.ofRatio 5 (2 ^ (g + 24))

/-- A ratio rounded to the nearest integer, a tie as the flag says. -/
def roundRatio (num : Int) (den : Nat) (up : Bool) : Int :=
  let q := num.fdiv den
  let r := (num.fmod den).toNat
  if 2 * r < den || (2 * r = den && !up) then q else q + 1

/-- The 24-bit two's-complement range. -/
def sat24 (i : Int) : Int := max (-8388608) (min 8388607 i)

def State.gainOf (s : State) (n g : Nat) : F32 := s.reg (Reg.LANE_CAL_GAIN n g)
def State.ofsOf (s : State) (n g : Nat) : F32 := s.reg (Reg.LANE_CAL_OFS n g)

/-- V_in of R169. -/
def State.vIn (s : State) (n : Nat) (d : ChDef) (m : SlotMeas) : F32 :=
  F32.mul (F32.mul (F32.sub (F32.ofRatio (m.c1 - m.c2) 2) (s.ofsOf n d.pga)) (s.gainOf n d.pga)) (lsb d.pga)

/-- A demodulated amplitude in V (R170). -/
def State.amplitude (s : State) (n : Nat) (d : ChDef) (x : F32) : F32 := F32.mul x (F32.mul (s.gainOf n d.pga) (lsb d.pga))

/-- 1,000 as binary32. -/
abbrev f1000 : F32 := 0x447A0000

/-- The value of R145, before linearisation; `cal` is I_cal in current mode, U_cal and U_peak in the others. -/
def State.baseValue (s : State) (n : Nat) (d : ChDef) (cal : F32) (m : SlotMeas) : F32 :=
  match d.exMode with
  | 0 => s.vIn n d m
  | 1 => F32.div (s.vIn n d m) cal
  | 2 => F32.div (F32.mul f1000 (s.vIn n d m)) cal
  | _ => F32.div (F32.mul f1000 (s.amplitude n d m.inPh)) cal

/-- The quadrature ratio exceeds Q_LIMIT · 0.01 mV/V (R147). -/
def State.quadHigh (s : State) (n : Nat) (d : ChDef) (cal : F32) (m : SlotMeas) : Bool :=
  let q := F32.div (F32.mul f1000 (s.amplitude n d m.quad)) cal
  d.exMode == 3 && d.qLimit != 0 && !F32.isNaN q && decide (d.qLimit * 2 ^ 149 < 100 * F32.mag q)

/-- What a cold junction gives a thermocouple sample: the value to use, and the flags of R191. -/
structure ColdJunction where
  value : F32
  settling : Bool
  stale : Bool
  deriving DecidableEq, Repr

def State.coldJunction (s : State) (k : Nat) (free : F32) : ColdJunction :=
  let x := s.defSt k
  let age := 5 * (s.frcNat - x.endAt)
  let stale := x.seen && (bitAt x.flags 1 || bitAt x.flags 3 || decide (s.rfld Reg.FE_CJ_MAX_AGE 0 16 * 1000000 < age))
  { value := if !x.seen then free else if stale then x.good.getD F32.qnan else x.value
    settling := !x.seen || bitAt x.flags 0
    stale := stale }

/-- A value linearised: the value, whether it was extrapolated, and what the cold junction brought. -/
structure Linear where
  value : F32
  extra : Bool := false
  settling : Bool := false
  stale : Bool := false
  deriving DecidableEq, Repr

def State.linearise (s : State) (d : ChDef) (table : List Byte) (v free : F32) : Linear :=
  if d.linId = 255 then { value := v } else
  let ps := linPoints table
  if d.cj = 255 then
    let y := linForward ps v
    { value := y.1, extra := y.2 }
  else
    let c := s.coldJunction d.cj free
    let e := linInverse ps c.value
    let y := linForward ps (F32.add v e.1)
    { value := y.1, extra := e.2 || y.2, settling := c.settling, stale := c.stale }

/-- RAW of R171, rounded and saturated. -/
def rawCode (d : ChDef) (m : SlotMeas) (up : Bool) : Int :=
  sat24 (if d.exMode = 3 then roundRatio (F32.units m.inPh) (2 ^ 149) up else roundRatio (m.c1 - m.c2) 2 up)

/-! ## Range and common-mode window (R152, R192, R193) -/

/-- A modulator input in codes above 104 % of the range; the test is on codes as they come, before calibration (DEDUCED, log entry 69). -/
def overRange (codes : Nat) : Bool := decide (104 * 2 ^ 23 < 100 * codes)

/-- The 104 % test of Table 6-10: of either half's input, of the amplitudes in sine mode. -/
def ChDef.overInput (d : ChDef) (m : SlotMeas) : Bool :=
  let amp := fun x => decide (104 * 2 ^ 172 < 100 * F32.mag x)
  if d.exMode = 3 then amp m.inPh || amp m.quad else overRange m.peak1 || overRange m.peak2

/-- Readings that found an input outside the window. -/
def ChDef.outside (d : ChDef) (r : CmRun) : Bool :=
  decide (r.pos < d.cmLo) || decide (d.cmHi < r.pos) || decide (r.neg < d.cmLo) || decide (d.cmHi < r.neg)

/-- What the CM comparator found in a slot: an excursion that qualified no later than 10 µs before the end, and one that qualified later and stands at the end. -/
structure CmSeen where
  inTime : Bool := false
  late : Bool := false
  deriving DecidableEq, Repr

/-- Readings of a list of runs. -/
def cmCount (l : List CmRun) : Nat := (l.map (·.n)).sum

/-- An excursion qualifies with the eighth consecutive reading outside; `c` counts those before the list. The last reading stands at the slot's end, and the readings lie 1 / 1.024 µs apart (DEDUCED, log entry 69). Those on either side of the gap at the half boundary are consecutive (DESIGN CHOICE, log entry 78). -/
def cmScan (out : CmRun → Bool) : List CmRun → Nat → CmSeen → CmSeen
  | [], _, x => x
  | r :: l, c, x =>
    if !out r then cmScan out l (if r.n = 0 then c else 0) (if r.n = 0 then x else { x with late := false })
    else if c < 8 && 8 ≤ c + r.n then
      let behind := cmCount l + (c + r.n - 8)
      cmScan out l (c + r.n) (if 10240 ≤ 1000 * behind then { x with inTime := true } else { x with late := true })
    else cmScan out l (c + r.n) x

/-- The window of the definition against its slot's readings. -/
def ChDef.cmSeen (d : ChDef) (m : SlotMeas) : CmSeen := cmScan d.outside m.cm 0 { }

/-- The first reading of a slot is outside: an excursion of the sample before persists. -/
def ChDef.cmPersists (d : ChDef) (m : SlotMeas) : Bool := ((m.cm.find? (fun r => r.n != 0)).map d.outside).getD false

/-! ## The sample -/

/-- A sample is offered to Inlet, and the lane's counters follow (Table 6-12). -/
def State.offerSample (s : State) (n : Nat) (r : InRec) : State :=
  let b := fun i (o : Off) (s : State) => if bitAt r.flags i then s.bump o else s
  let s := (s.offer n r).bump (Reg.LANE_SAMPLE_CNT n)
  let s := b 0 Reg.FE_SETTLING_CNT (b 0 (Reg.LANE_SETTLING_CNT n) s)
  b 3 (Reg.LANE_OVR_CNT n) (b 1 (Reg.LANE_CMF_CNT n) s)

/-- What the source reports of a slot (R146, R147). -/
def State.sourceReport (s : State) (d : ChDef) (comp excess quad : Bool) : State :=
  let put := fun (on : Bool) m (o : Off) (s : State) => if on then (s.raise (Reg.EX_FLAGS d.exSrc) m).bump o else s
  put quad 4 (Reg.EX_QHIGH_CNT d.exSrc) (put excess 2 (Reg.EX_OC_CNT d.exSrc) (put comp 1 (Reg.EX_COMPL_CNT d.exSrc) s))

/-- A thermocouple sample flagged for its cold junction (R191). -/
def State.staleReport (s : State) (stale : Bool) : State :=
  if stale then (s.raise Reg.FE_EVT 1).bump Reg.FE_CJ_STALE_CNT else s

/-- The sample of a slot: its record without SSN, in a state in which the definition's latest sample is recorded. -/
def State.sample (s : State) (n : Nat) (sl : Slot) (m : SlotMeas) : InRec × State :=
  let d := ChDef.ofBytes sl.image
  let k := sl.defn
  let cal := F32.mul sl.factor d.exMag
  let fault := s.laneFault n
  let l := s.lane n
  let cm := d.cmSeen m
  let (i, s) := s.draw
  let lin := s.linearise d sl.table (s.baseValue n d cal m) (Config.freeSample i)
  let lin := if fault then { lin with value := F32.qnan, stale := false } else lin
  let comp := d.exMode == 1 && m.compliance
  let excess := decide (2 ≤ d.exMode) && m.overcurrent
  let quad := s.quadHigh n d cal m && !fault
  let flags : Byte := maskOf 8 (fun b => match b with
    | 0 => sl.settling || lin.settling
    | 1 => cm.inTime || ((s.defSt k).cmLate && d.cmPersists m) || fault || lin.stale
    | 2 => d.clampReport && sl.clampSeen
    | 3 => d.overInput m || comp || excess || lin.extra || fault
    | 4 => quad
    | 5 => sl.adjacent || l.calDue
    | _ => false)
  let raw := if fault then 0 else rawCode d m (Config.freeTie i)
  let r : InRec := { time := s.now, source := mkSource 1 k, kind := Kind.sample, flags := flags,
                     payload := BitVec.ofNat 64 (lin.value.toNat + (ofInt 24 raw).toNat * 2 ^ 32 + n * 2 ^ 56) }
  let s := (s.sourceReport d comp excess quad).staleReport lin.stale
  let s := s.updDef k (fun x => { x with
    value := lin.value, flags := flags, endAt := s.frcNat, seen := true, cmLate := cm.late,
    good := if bitAt flags 1 || bitAt flags 3 then x.good else some lin.value })
  (r, s.setReg (Reg.LANE_LAST_RAW n) (packU32 [((ofInt 24 raw).toNat, 0), (flags.toNat, 24)]))

/-- The end of a lane's slot: the sample is offered, or held while the definition's old lane drains (R198). -/
def State.slotEnd (s : State) (n : Nat) (m : SlotMeas) : State :=
  match (s.lane n).slot with
  | none => s
  | some sl =>
    if s.mgmt != Node.run then s else
    let s := s.updLane n (fun l => { l with slot := none, nextPos := (sl.pos + 1) % 16 })
    if !sl.valid then s else
    let (r, s) := s.sample n sl m
    if s.moving sl.defn && !(s.lane n).drain.contains sl.defn then
      s.updLane n (fun l => { l with held := l.held ++ [r] })
    else s.offerSample n r

/-! ## Moves (R197, R198) -/

/-- A sample of a definition from a lane has been offered and not admitted. -/
def State.inFlight (s : State) (n k : Nat) : Bool :=
  let mine := fun (r : InRec) => r.source == mkSource 1 k && r.pay 0x1F 1 == n
  s.inlet.waiting.any (fun w => mine w.2) || (s.inlet.reveal.map mine).getD false

/-- The first definition of a lane whose drain has come to its end. -/
def State.drainedDef (s : State) (n : Nat) : Option Nat :=
  (s.lane n).drain.find? (fun k =>
    !s.inFlight n k && !((s.lane n).slot.map (fun sl => sl.valid && sl.defn == k)).getD false)

/-- The samples of a definition that lanes hold are offered. -/
def State.offerHeld (s : State) (k : Nat) : State :=
  (List.range 48).foldl (fun s n =>
    let mine := (s.lane n).held.filter (fun r => r.srcIndex == k)
    if mine.isEmpty then s else
    let s := s.updLane n (fun l => { l with held := l.held.filter (fun r => r.srcIndex != k) })
    mine.foldl (fun s r => s.offerSample n r) s) s

/-- A lane reports DRAINED; once no lane drains the definition, what the new one holds of it is offered. FE_MOVE_CNT counts here alone, so not a move from LANE 0xFF, which has no drain (DESIGN CHOICE, log entry 78). -/
def State.drained (s : State) (n : Nat) : State :=
  match s.drainedDef n with
  | none => s
  | some k =>
    let s := s.updLane n (fun l => { l with drain := l.drain.filter (· != k) })
    let s := (s.raise (Reg.LANE_EVT n) 2).bump Reg.FE_MOVE_CNT
    if s.moving k then s else s.offerHeld k

/-! ## Calibration (R181, R182) -/

/-- A measurement differs from the coefficient in force by more than FE_CAL_LIM. -/
def State.calRejects (s : State) (item : Nat) (meas inForce : F32) : Bool :=
  let diff := (F32.units meas - F32.units inForce).natAbs
  !F32.isFinite meas ||
    (if item < 8 then decide (s.rfld Reg.FE_CAL_LIM 16 16 * 2 ^ 172 < diff * 1000000)
     else decide (s.rfld Reg.FE_CAL_LIM 0 16 * F32.mag inForce < diff * 1000000))

/-- The mean of at most four measurements, rounded once. -/
def meanOf (l : List F32) : F32 := F32.ofRatio (l.map F32.units).sum (l.length * 2 ^ 149)

/-- The register of an item's coefficient; a source's factor is that of the mode in which it was last used. -/
def State.calReg (s : State) (n item : Nat) : Off :=
  if item < 8 then Reg.LANE_CAL_OFS n item
  else if item < 16 then Reg.LANE_CAL_GAIN n (item - 8)
  else if F32.le (s.reg (Reg.EX_LAST_MAG (item - 16))) 0x3BA3D70A then Reg.EX_CAL_I (item - 16)
  else Reg.EX_CAL_U (item - 16)

/-- The key under which a source item's measurements are kept. -/
def State.exKey (s : State) (n item : Nat) : Nat :=
  2 * (item - 16) + b2n (s.calReg n item == Reg.EX_CAL_U (item - 16))

def State.calAccepted (s : State) (n item : Nat) : List F32 :=
  if item < 16 then assocGet [] (s.lane n).accepted item else assocGet [] s.fe.exAccepted (s.exKey n item)

def State.setAccepted (s : State) (n item : Nat) (l : List F32) : State :=
  if item < 16 then s.updLane n (fun x => { x with accepted := assocSet x.accepted item l })
  else { s with fe := { s.fe with exAccepted := assocSet s.fe.exAccepted (s.exKey n item) l } }

def State.calRuns (s : State) (n item : Nat) : Nat :=
  if item < 16 then Sparse.get 0 (s.lane n).rejects item else Sparse.get 0 s.fe.exRejects (s.exKey n item)

def State.setRuns (s : State) (n item k : Nat) : State :=
  if item < 16 then s.updLane n (fun x => { x with rejects := Sparse.set 0 x.rejects item k })
  else { s with fe := { s.fe with exRejects := Sparse.set 0 s.fe.exRejects (s.exKey n item) k } }

/-- An item's measurement accepted: the coefficient becomes the mean of the last four, or of those there are while fewer have been accepted (DESIGN CHOICE, log entry 78). -/
def State.calAccept (s : State) (n item : Nat) (meas : F32) : State :=
  let l := (meas :: s.calAccepted n item).take 4
  (((s.setAccepted n item l).setRuns n item 0).setReg (s.calReg n item) (meanOf l)).setLaneBit Reg.FE_CAL_WARN0 n false

/-- A measurement rejected: the third in a row warns. -/
def State.calReject (s : State) (n item : Nat) : State :=
  let k := s.calRuns n item + 1
  let s := ((s.setRuns n item (min k 3)).raise (Reg.LANE_EVT n) 1).bump (Reg.LANE_CAL_REJ_CNT n)
  if 3 ≤ k then s.setLaneBit Reg.FE_CAL_WARN0 n true else s

/-- A measurement of an item is judged. -/
def State.calJudge (s : State) (n item : Nat) (meas : F32) : State :=
  let s := s.setReg (Reg.LANE_CAL_LAST n) meas
  if s.calRejects item meas (s.reg (s.calReg n item)) then s.calReject n item else s.calAccept n item meas

/-- The end of a calibration slot: the measurement is judged, and the lane's cycle goes on. -/
def State.calEnd (s : State) (n : Nat) (meas : F32) : State :=
  let l := s.lane n
  if !l.calActive || !(s.mgmt == Node.run || s.mgmt == Node.setup) then s else
  let item := l.calItem
  let s := (s.bump (Reg.LANE_CAL_CNT n)).calJudge n item meas
  let next := s.calItemFrom n (item + 1)
  s.updLane n (fun l => { l with calActive := false, afterCal := true, calItem := next,
                                 calDoneAt := if next = 0 then s.frcNat else l.calDoneAt })

/-! ## The steps -/

def execLaneSlotStart (lane : Nat) (s : State) : Host.Outcome State Fault Refusal :=
  need (decide (lane < 48)) (s.fresh.slotStart lane)

/-- `dt` CORE clocks bring the time to the slot's end. -/
def execLaneSlotEnd (lane : Nat) (m : SlotMeas) (dt : Nat) (s : State) : Host.Outcome State Fault Refusal :=
  need (decide (lane < 48)) ((s.fresh.pass dt).slotEnd lane m)

/-- In SETUP and RUN the lane's next slot boundary takes the calibration slot (R179). -/
def execCalSlotDue (lane : Nat) (s : State) : Host.Outcome State Fault Refusal :=
  let s := s.fresh
  need (decide (lane < 48)) (if (s.mgmt == Node.setup || s.mgmt == Node.run) && s.laneOn lane then
    s.updLane lane (fun l => { l with calDue := true })
  else s)

def execCalSlotEnd (lane : Nat) (meas : F32) (s : State) : Host.Outcome State Fault Refusal :=
  need (decide (lane < 48)) (s.fresh.calEnd lane meas)

def execLaneDrained (lane : Nat) (s : State) : Host.Outcome State Fault Refusal :=
  need (decide (lane < 48)) (s.fresh.drained lane)

/-- A clamp event begins: the sticky flag, the counter and the slots that name the terminal (R150, R151). -/
def execClampEventStart (t : Nat) (s : State) : Host.Outcome State Fault Refusal :=
  let s := s.fresh
  need (decide (t < 192)) (if s.clampNow t then s else
    let s := s.setRegBit (Reg.XP_CLAMP_NOW (t / 32)) (t % 32) true
    let s := (s.raise (Reg.XP_CLAMP_FLAG (t / 32)) (2 ^ (t % 32))).bump (Reg.XP_CLAMP_CNT t)
    (List.range 48).foldl (fun s n => s.updLane n (fun l => { l with
      slot := l.slot.map (fun sl => { sl with
        clampSeen := sl.clampSeen || (ChDef.ofBytes sl.image).terminals.contains t }) })) s)

def execClampEventEnd (t : Nat) (s : State) : Host.Outcome State Fault Refusal :=
  need (decide (t < 192)) (s.fresh.setRegBit (Reg.XP_CLAMP_NOW (t / 32)) (t % 32) false)

def State.burdenOpen (s : State) (t : Nat) : Bool := s.rbit (Reg.XP_BURDEN_OPEN (t / 32)) (t % 32)

/-- More than 30 mA for 1 ms opens an enabled shunt (R149). -/
def execBurdenShuntOpen (t : Nat) (s : State) : Host.Outcome State Fault Refusal :=
  let s := s.fresh
  need (decide (t < 192)) (if s.burdenOn t && !s.burdenOpen t then
    (s.setRegBit (Reg.XP_BURDEN_OPEN (t / 32)) (t % 32) true).bump Reg.XP_BURDEN_OC_CNT
  else s)

def execBurdenShuntReclose (t : Nat) (s : State) : Host.Outcome State Fault Refusal :=
  need (decide (t < 192)) (s.fresh.setRegBit (Reg.XP_BURDEN_OPEN (t / 32)) (t % 32) false)

/-- A bias generator begins or ends limiting; each beginning is counted (R148). -/
def execBiasCurrentLimit (n : Nat) (limiting : Bool) (s : State) : Host.Outcome State Fault Refusal :=
  let s := s.fresh
  let was := s.rbit Reg.BS_STATUS n
  let s' := s.setRegBit Reg.BS_STATUS n limiting
  need (decide (n < 8)) (if limiting && !was then s'.bump Reg.BS_OC_CNT else s')

/-- XP_CHECK: 1 in SETUP runs the check; in another state the write is ignored (Table 5-10), and so is another value in SETUP, with reason RANGE (DESIGN CHOICE, log entry 78). -/
def State.checkWrite (s : State) (v : U32) : State :=
  if s.mgmt != Node.setup then s.ignored Reg.XP_CHECK Why.cmdState
  else if v != 1 then s.ignored Reg.XP_CHECK Why.range
  else s.xpRun false

def execXpCheck (v : U32) (s : State) : Host.Outcome State Fault Refusal :=
  .next (s.fresh.checkWrite v)

end Sys2Proof.Machine
end

