-- ==== Sys2Proof/Machine/Barrier.lean ====
section
/-! DEFINITION. Configuration barriers (R22, R23, R236, R237, R264, R278) and the repair of uncorrectable errors in the stream (R496, R497). -/

namespace Sys2Proof.Machine

/-! ## What a barrier applies -/

/-- The Tarn bytes that a unit writes: offset and length. -/
def CmdUnit.spans (u : CmdUnit) : List (Off × Nat) :=
  match u.opcode.toNat with
  | 0x10 => [(Tarn.POINT_CFG + 64 * u.target, 64)]
  | 0x12 => [(Tarn.CHANDEF + 64 * u.target, 64)]
  | 0x13 => [(Tarn.GROUPS + 256 * u.target, 0xB0)]
  | 0x14 => [(Tarn.FAN_LIST + 4 * leAt u.image 0 4, u.image.length - 8), (Tarn.FANOUT + 8 * u.target, 8)]
  | 0x15 => [(Tarn.LINTAB + 2048 * u.target, 2048)]
  | 0x16 => [(Tarn.CAN_FILT + 16 * u.target, u.image.length)]
  | 0x17 => [(Tarn.CAN_SIG + 16 * u.target, u.image.length)]
  | 0xFF02 => [(8 * u.target, 8)]
  | _ => []

/-- The settling counter that a change of definition asks for at its next slot (R176): 0, 1 or 2 as in DefState.load. -/
def settleLoad (old new : ChDef) : Nat :=
  if (old.exSrc, old.exMode, old.poleA, old.poleB, old.exFreq, old.exMag) != (new.exSrc, new.exMode, new.poleA, new.poleB, new.exFreq, new.exMag) then 2
  else if (old.pos, old.neg, old.bias, old.pga, old.rate, old.notch, old.breakPull)
      != (new.pos, new.neg, new.bias, new.pga, new.rate, new.notch, new.breakPull) then 1
  else 0

/-- What the lanes do at the barrier of a CHANDEF_WRITE (R176, R196, R197). -/
def State.chandefApplied (s : State) (n : Nat) (old new : ChDef) : State :=
  let s := s.updDef n (fun x => { x with load := max x.load (settleLoad old new) })
  if old.lane = new.lane then s else
  let s := if old.lane < 48 then
      (s.updLane old.lane (fun l => { l with drain := l.drain ++ [n] })).bump (Reg.LANE_MOVE_CNT old.lane)
    else s
  if 48 ≤ new.lane then s else
  let s := (s.updDef n (fun x => { x with load := 2 })).bump (Reg.LANE_MOVE_CNT new.lane)
  if s.standsIn new.lane n then s else (s.raise (Reg.LANE_EVT new.lane) 4).raise Reg.FE_EVT 2

/-- The channel whose share holds a written filter element changes over to that share when it can (R395). -/
def State.shareSettle (s : State) (elem : Nat) : State :=
  match (List.range 8).find? (fun n => decide ((s.filtShare n).1 ≤ elem) && decide (elem < (s.filtShare n).1 + (s.filtShare n).2)) with
  | some n => s.filtSettle n
  | none => s

/-- What the CRC32 of a journal entry (R499) covers: its header before the CRC32, and the image (DESIGN CHOICE, log entry 83). -/
def JEntry.body (e : JEntry) : List Byte :=
  leBytes 2 e.epoch.toNat ++ leBytes 2 e.opcode.toNat ++ leBytes 4 e.target ++ leBytes 4 e.length ++ e.image

/-- The entry of a change. -/
def JEntry.of (epoch opcode : U16) (target : Nat) (image : List Byte) : JEntry :=
  let e : JEntry := { epoch := epoch, opcode := opcode, target := target, length := image.length, crc := 0, image := image }
  { e with crc := crc32 e.body }

/-- The barrier leader's write, and what the units that read configuration do with it. -/
def State.applyBarrier (s : State) (u : CmdUnit) : State :=
  let old := s.chDef u.target
  let s := (s.applyScan u).applyUnit u
  let s := u.spans.foldl (fun s x => s.clearUe x.1 x.2) s
  let s := if u.opcode = 0x12 && s.mgmt = Node.run then s.chandefApplied u.target old (s.chDef u.target) else s
  let s := if u.opcode = 0x13 then s.noteMasks else s
  let s := if u.opcode = 0x16 then s.shareSettle u.target else s
  if s.mgmt != Node.run then s else
  let e := JEntry.of (BitVec.ofNat 16 s.evalEpoch) u.opcode u.target u.image
  { s with gecko := { s.gecko with
      journalQ := if u.opcode = 0xFF02 then s.gecko.journalQ else s.gecko.journalQ ++ [e], digestStale := true } }

/-- Each engine's own adjustment: apply_point of R236. -/
def State.adjust (s : State) (e : EngineId) (r : InRec) (u : CmdUnit) (before : State) : State :=
  match u.opcode.toNat with
  | 0x10 => s.pointWritten e r u.target (before.pcfg u.target) (s.pcfg u.target)
  | 0x13 => s.groupWritten e r u.target (before.gcfg u.target) (s.gcfg u.target)
  | 0xFF02 => if 8 * u.target < Tarn.STATE_A then s.configFault e r (8 * u.target / 64) else s
  | _ => s

/-! ## The barrier -/

/-- The engine's next record is a record of the unit whose last ISN is `isn`. -/
def State.atUnit (s : State) (e : EngineId) (isn parts : Nat) : Bool :=
  match s.headRec e with
  | some r => decide (isn < r.isn.toNat + parts) && decide (r.isn.toNat ≤ isn)
  | none => false

/-- An engine passes the records before the one that carries the barrier: they change nothing (R119). -/
def State.passParts (s : State) (e : EngineId) (isn : Nat) : State :=
  let parts := s.inlet.stream.filter (fun r => decide ((s.eng e).evalIsn.toNat < r.isn.toNat) && decide (r.isn.toNat < isn))
  parts.foldl (fun s r => (s.runStart e r).evaluated e r.isn) s

/-- An engine's part of the barrier: EPOCH_CHANGE, its adjustment, and the end of the record (R236, R278). -/
def State.passBarrier (s : State) (e : EngineId) (r : InRec) (u : CmdUnit) (before : State) : State :=
  (((s.runStart e r).epochChange e r 1 s.evalEpoch).adjust e r u before).evaluated e r.isn

/-- The state records that the engines adjust at a unit's barrier. -/
def State.unitReads (s : State) (u : CmdUnit) : List Nat × List Nat :=
  if u.opcode = 0x10 then ([u.target], [(s.pcfg u.target).group]) else if u.opcode = 0x13 then ([], [u.target]) else ([], [])

/-- Every engine in service has arrived: one that finds a damaged state record is failed (R301); else one writes, each adjusts, and the command completes. -/
def State.configBarrier (s : State) : State :=
  match s.inlet.barriers with
  | [] => s
  | (isn, u) :: rest =>
    let es := s.servers
    let ready := !es.isEmpty && es.all (fun e => s.atUnit e isn (max 1 u.bodies.length))
    match s.inlet.stream.find? (fun r => r.isn.toNat == isn) with
    | none => s
    | some r =>
      if !ready then s else
      match es.find? (fun e => s.failsCrc e (s.unitReads u)) with
      | some e => s.failEngine e 2
      | none =>
      let s := es.foldl (fun s e => s.passParts e isn) s
      let before := s
      let s := State.applyBarrier { s with inlet := { s.inlet with barriers := rest } } u
      es.foldl (fun s e => s.passBarrier e r u before) s

/-! ## Damaged state records (R496, R497) -/

/-- What an uncorrectable word of a state region names: an engine's point, or an engine's half of a group. -/
inductive Damaged where
  | point (e : EngineId) (p : Nat)
  | half (e : EngineId) (g : Nat)
  deriving DecidableEq, Repr

def damagedAt (o : Off) : Option Damaged :=
  if Tarn.STATE_A ≤ o && o < Tarn.STATE_B then some (.point .A ((o - Tarn.STATE_A) / 32))
  else if Tarn.STATE_B ≤ o && o < Tarn.FANOUT then some (.point .B ((o - Tarn.STATE_B) / 32))
  else if Tarn.GROUPS ≤ o && o < Tarn.CHANDEF then
    let k := (o - Tarn.GROUPS) % 256
    if k < 0xB0 then none else some (.half (if k < 0xD8 then .A else .B) ((o - Tarn.GROUPS) / 256))
  else none

/-- An engine's part of an ECC_FAULT record of the alarm-state class (Table 18-2). -/
def State.eccState (s : State) (e : EngineId) (r : InRec) (d : Damaged) (other_ : GrState) (whole : Bool) : State :=
  match d with
  | .point bad p =>
    let c := s.pcfg p
    let ok := c.valid p
    let s := if e = bad then
        s.setPt e r p { s.pt e p with sub := setBit (s.pt e p).sub Sub.unreported false, coalesced := 0, lastEsn := 0 }
      else s
    s.resetPoint e r p (if ok then c.prio else 0) (ok && c.custody) Pt.unknown
  | .half _ g => if whole then s.setGr e g other_ else s.resetHalf e r g (s.gcfg g) true

/-- The engines repair the damaged record at its ECC_FAULT record, together. -/
def State.eccFault (s : State) : State :=
  match s.servers.map s.headRec with
  | some r :: rest =>
    if !(r.kind == Kind.cmd && r.srcType == 8 && r.pay 0x18 2 == 0xFF02) || !rest.all (· == some r) then s else
    let o := r.eccOffset
    match damagedAt o with
    | none => s
    | some d =>
      let s := s.clearUe o 8
      let (half, whole) := match d with
        | .half bad g => (s.gr (other bad) g,
            !s.gecko.ueWords.any (fun w => decide (halfOffset (other bad) g ≤ w) && decide (w < halfOffset (other bad) g + 40)))
        | .point _ _ => (({ } : GrState), false)
      s.servers.foldl (fun s e => ((s.runStart e r).eccState e r d half whole).evaluated e r.isn) s
  | _ => s

/-! ## The steps -/

def execConfigBarrier (s : State) : Host.Outcome State Fault Refusal := .next s.fresh.configBarrier

def execEvalEccFault (s : State) : Host.Outcome State Fault Refusal := .next s.fresh.eccFault

end Sys2Proof.Machine
end

