-- ==== Sys2Proof/Machine/CanSteps.lean ====
section
/-! DEFINITION. The steps of the CAN FD channels (R375-R407). -/

namespace Sys2Proof.Machine

/-! ## The steps -/

/-- `dt` CORE clocks bring the time to the frame's SOF. -/
def execCanFrameReceived (ch : Nat) (f : CanFrame) (dt : Nat) (s : State) : Host.Outcome State Fault Refusal :=
  need (decide (ch < 8)) ((s.fresh.pass dt).canReceive ch f)

/-- The protocol exception of ISO 11898-1: no error, no frame, and the channel integrates again (R376). -/
def execProtocolException (ch : Nat) (s : State) : Host.Outcome State Fault Refusal :=
  let s := s.fresh
  need (decide (ch < 8)) (if s.mgmt == Node.run && s.canOn ch && !s.canFd ch then
    ((s.setCanBus ch 0).setCanStat ch CanStat.integrating true).raise (Reg.CAN_EVT ch) 0x200
  else s)

/-- An error seen as receiver raises REC by 1, one seen as transmitter ends the attempt in progress, which raises TEC by 8; each step of ISO 11898-1 for a bit error in a flag and for dominant bits after one raises the same count by 8 more, for a transmitter also after its attempt has ended. Such steps may come alone (R388). -/
def execCanBusError (ch : Nat) (err : CanErr) (s : State) : Host.Outcome State Fault Refusal :=
  let s := s.fresh
  need (decide (ch < 8)) (
    if err.asTransmitter then
      let s := match (s.canCh ch).current, err.stepsOnly with
        | some t, false => s.attemptEnd ch t (.error err.code err.dataPhase false false)
        | _, _ => s
      if s.canOn ch && !s.canMonitor ch && err.flagSteps != 0 then
        s.setErr ch ((s.canCh ch).tecCnt + 8 * err.flagSteps) (s.canCh ch).recCnt
      else s
    else if s.mgmt != Node.run || !s.canOn ch then s
    else
      let s := if err.code = 0 then s else s.errFrame ch err.code.toNat err.dataPhase
      if s.canMonitor ch then s
      else s.setErr ch (s.canCh ch).tecCnt ((s.canCh ch).recCnt + b2n (!err.stepsOnly) + 8 * err.flagSteps))

def execFilterWalk (s : State) : Host.Outcome State Fault Refusal := .next s.fresh.walkNext

def execCanTxEntryTaken (ch : Nat) (s : State) : Host.Outcome State Fault Refusal :=
  need (decide (ch < 8)) (s.fresh.takeEntry ch)

def execTxAttemptStart (ch : Nat) (dt : Nat) (s : State) : Host.Outcome State Fault Refusal :=
  need (decide (ch < 8)) ((s.fresh.pass dt).attemptStart ch)

def execTxAttemptEnd (ch : Nat) (r : TxResult) (dt : Nat) (s : State) : Host.Outcome State Fault Refusal :=
  let s := s.fresh.pass dt
  need (decide (ch < 8)) (match (s.canCh ch).current with
    | some t => s.attemptEnd ch t r
    | none => s)

/-- 11 consecutive recessive bits: the channel joins the bus in the state that its counters give (R376). -/
def execIntegrationComplete (ch : Nat) (s : State) : Host.Outcome State Fault Refusal :=
  let s := s.fresh
  need (decide (ch < 8)) (if s.mgmt == Node.run && s.canStat ch CanStat.integrating then
    (s.setCanStat ch CanStat.integrating false).setCanBus ch (errState (s.canCh ch).tecCnt (s.canCh ch).recCnt)
  else s)

/-- The end of bus-off recovery: both counters 0, error active (R388). -/
def execBusOffRecoveryComplete (ch : Nat) (s : State) : Host.Outcome State Fault Refusal :=
  let s := s.fresh
  need (decide (ch < 8)) (if s.mgmt == Node.run && s.canBus ch == 3 && s.canStat ch CanStat.recovering then
    (((s.updCan ch (fun c => { c with tecCnt := 0, recCnt := 0 })).setCanBus ch 1).setCanStat ch CanStat.recovering false).raise
      (Reg.CAN_EVT ch) 0x100
  else s)

def execCanCancel (s : State) : Host.Outcome State Fault Refusal :=
  .next (s.fresh.dirCmd 0x40 (fun d s => s.cancel d))

def execCanChannelCtl (s : State) : Host.Outcome State Fault Refusal :=
  .next (s.fresh.dirCmd 0x41 (fun d s => s.channelCtl d))

end Sys2Proof.Machine
end

