-- ==== Sys2Proof/Machine/Delivery.lean ====
section
/-! DEFINITION. Outlet's receivers and the background quotas: event copies, delivery, publication, trends, QUOTA_SET (R279-R283, R291-R294, R418, R493, R504, R506). -/

namespace Sys2Proof.Machine

/-! ## Merging (R280) -/

/-- The merge that waits and lies nearest to the next ESN in series. -/
def State.oldestMerge (s : State) : Option Merge :=
  s.outlet.merge.foldl (fun best m =>
    match best with
    | none => some m
    | some b => if (m.esn - s.outlet.nextRel).toNat < (b.esn - s.outlet.nextRel).toNat then some m else best) none

/-- OUT_MERGE_WAIT has passed: the ESN goes out with the copies that have arrived, once the backlog has a place for it (R506). -/
def State.mergeExpire (s : State) : State :=
  if s.outletFull || decide (s.backlogCap ≤ s.freePlace) then s else
  match s.oldestMerge with
  | none => s
  | some m => (s.releaseOne m).release

/-! ## Ethernet publication (R293, R418) -/

/-- The ones' complement sum of the 16-bit words of a header, most significant byte first. -/
def inetSum (l : List Byte) : Nat := ((chunks 2 l).map (fun w => beNat (fit 2 w))).sum

/-- The Internet checksum; a sum over at most 64 KiB folds in three steps. -/
def inetChecksum (l : List Byte) : Nat :=
  let fold := fun (x : Nat) => x % 65536 + x / 65536
  65535 - fold (fold (fold (inetSum l)))

/-- A port's own address, byte 0 first. -/
def State.ethMac (s : State) (p : Nat) : List Byte :=
  leBytes 4 (s.reg (Reg.ETH_MAC_LO p)).toNat ++ leBytes 2 (s.reg (Reg.ETH_MAC_HI p)).toNat

/-- A datagram (R293). -/
def State.pubDatagram (s : State) (evs : List Event) : List Byte :=
  leBytes 4 0x31564555 ++ [BitVec.ofNat 8 s.nodeId, BitVec.ofNat 8 evs.length] ++ leBytes 2 s.outlet.pubSeq.toNat
    ++ leBytes 8 (evs.headD { }).esn.toNat ++ (evs.map Event.bytes).flatten

/-- The UDP segment with its checksum over the pseudo-header; a checksum of 0 is sent as all ones. -/
def udpSegment (src dst : List Byte) (port : Nat) (data : List Byte) : List Byte :=
  let len := 8 + data.length
  let head := fun c => beBytes 2 port ++ beBytes 2 port ++ beBytes 2 len ++ beBytes 2 c
  let c := inetChecksum (src ++ dst ++ [0, 17] ++ beBytes 2 len ++ head 0 ++ data)
  head (if c = 0 then 65535 else c) ++ data

/-- The frame that carries a datagram on a port (R418). -/
def State.pubFrame (s : State) (p : Nat) (ident : U16) (data : List Byte) : List Byte :=
  let group := s.reg Reg.PUB_GROUP
  let src := beBytes 4 (s.reg (Reg.ETH_IPV4 p)).toNat
  let dst := beBytes 4 group.toNat
  let udp := udpSegment src dst (s.rfld Reg.PUB_PORT 0 16) data
  let ip := fun c => [0x45, 0] ++ beBytes 2 (20 + udp.length) ++ beBytes 2 ident.toNat ++ [0x40, 0]
    ++ [BitVec.ofNat 8 (s.rfld Reg.PUB_ETH_CTL 20 8), 17] ++ beBytes 2 c ++ src ++ dst
  [0x01, 0x00, 0x5E] ++ beBytes 3 (fld group 0 23) ++ s.ethMac p ++ [0x08, 0x00]
    ++ ip (inetChecksum (ip 0)) ++ udp

def State.port (s : State) (p : Nat) : Port := if p = 0 then s.ws.port0 else s.ws.port1
def State.updPort (s : State) (p : Nat) (f : Port → Port) : State :=
  if p = 0 then { s with ws := { s.ws with port0 := f s.ws.port0 } } else { s with ws := { s.ws with port1 := f s.ws.port1 } }

/-- A datagram joins the four that a port holds, or is discarded; the flag tells that it was taken. -/
def State.pubOn (s : State) (p : Nat) (data : List Byte) : State × Bool :=
  let x := s.port p
  if x.txPub.length < 4 then
    (s.updPort p (fun x => { x with txPub := x.txPub ++ [s.pubFrame p x.pubId data], pubId := x.pubId + 1 }), true)
  else (s.bump Reg.PUB_ETH_LOSS_CNT, false)

/-- The next datagram is formed of at most 40 records (R293); SEQ counts those that a port took. -/
def State.pubSend (s : State) : State :=
  if s.outlet.pub.isEmpty || !s.rbit Reg.PUB_ETH_CTL 0 then s else
  let data := s.pubDatagram (s.outlet.pub.take 40)
  let s := s.updOutlet (fun o => { o with pub := o.pub.drop 40 })
  let go := fun p (x : State × Bool) =>
    if x.1.rbit Reg.PUB_ETH_CTL (1 + p) then let y := x.1.pubOn p data; (y.1, x.2 || y.2) else x
  let x := go 1 (go 0 (s, false))
  if x.2 then (x.1.updOutlet (fun o => { o with pubSeq := o.pubSeq + 1 })).bump Reg.PUB_ETH_SENT_CNT else x.1

/-! ## CAN publication (R294) -/

/-- The next selected copy is placed as an FD frame of 32 bytes (DLC 13). -/
def State.pubCan (s : State) : State :=
  match s.outlet.pubCan with
  | [] => s
  | v :: l =>
    let s := s.updOutlet (fun o => { o with pubCan := l })
    let n := s.rfld Reg.PUB_CAN_CTL 1 3
    let base := s.reg Reg.PUB_CAN_ID
    let id : U32 := BitVec.ofNat 32 ((fld base 0 29 + v.prio) % 2 ^ 29 + 2 ^ 29 * fld base 29 1 + 2 ^ 30)
    let (s, ok) := if s.rbit Reg.PUB_CAN_CTL 0 then s.placeNode n id (s.canBrs n) v.bytes 13 else (s, false)
    s.bump (if ok then Reg.PUB_CAN_SENT_CNT else Reg.PUB_CAN_LOSS_CNT)

/-! ## Trends (R291, R292, R493) -/

/-- An entry of the trend table; unused ones name no point, or have PERIOD 0 as a cleared or damaged word leaves it. -/
structure Trend where
  point : Nat
  period : Nat
  deadband : F32
  last : F32
  due : Nat
  used : Bool
  deriving DecidableEq, Repr

def Trend.ofBytes (l : List Byte) : Trend :=
  { point := leAt l 0 4 % 2 ^ 17, period := leAt l 4 2, deadband := u32At l 8, last := u32At l 0xC, due := leAt l 0x10 8,
    used := u32At l 0 != 0xFFFFFFFF && leAt l 4 2 != 0 }

def State.trend (s : State) (i : Nat) : Trend := Trend.ofBytes (s.tarnSee (Tarn.TREND + 32 * i) 32)

/-- The entries in use, ascending. -/
def State.trends (s : State) : List Nat := (s.listed Tarn.TREND 32 4096).filter (fun i => (s.trend i).used)

/-- A sum of fractions 1,000 / PERIOD, in lowest terms. -/
def trendSum (ps : List Nat) : Nat × Nat :=
  ps.foldl (fun a p => let n := a.1 * p + 1000 * a.2; let d := a.2 * p; let g := Nat.gcd n d; (n / g, d / g)) (0, 1)

/-- The configured records per second. -/
def State.trendRate (s : State) : Nat × Nat := trendSum (s.trends.map (fun i => (s.trend i).period))

/-- OVER_QUOTA of the trend table: from a cut below the configured sum until the sum falls below the quota (R504). -/
def State.trendOver (s : State) : Bool :=
  s.hif.trendCut && decide (s.hif.trendQuota * s.trendRate.2 ≤ s.trendRate.1)

/-- TREND_CTL (Table 9-13). -/
def State.trendCtl (s : State) (d : Desc) : State :=
  let f := d.arg 8 1
  let i := d.arg 0xA 2
  let p := d.arg 0x10 2
  let db := u32At d.raw 0x14
  let used := fun (s : State) => s.done d Status.ok s.trends.length
  if decide (3 < f) || !d.resv 9 1 || !d.resv 0x12 2 || !d.resv 0x18 40 || (decide (f ≤ 1) && decide (4095 < i))
      || (f = 0 && (decide (81919 < d.arg 0xC 4) || !inRange 10 60000 p || !F32.isFinite db || !F32.le 0 db)) then
    s.done d Status.badArg
  else match f with
    | 0 =>
      let sum := trendSum (p :: (s.trends.filter (· != i)).map (fun j => (s.trend j).period))
      if s.trendOver || decide (s.hif.trendQuota * sum.2 < sum.1) then s.done d Status.quota
      else
        let s := { s with hif := { s.hif with trendCut := false } }
        let s := s.tarnStore (Tarn.TREND + 32 * i) (leBytes 4 (d.arg 0xC 4) ++ leBytes 2 p ++ zeros 2 ++ leBytes 4 db.toNat
          ++ zeros 4 ++ leBytes 8 (s.now.toNat + 1000000 * p) ++ zeros 8)
        used (s.updOutlet (fun o => { o with trendFresh := o.trendFresh.filter (· != i) ++ [i] }))
    | 1 => used (s.tarnStore (Tarn.TREND + 32 * i) (leBytes 4 0xFFFFFFFF ++ zeros 28))
    | 2 => used (s.trends.foldl (fun s j => s.tarnStore (Tarn.TREND + 32 * j) (leBytes 4 0xFFFFFFFF ++ zeros 28)) s)
    | _ =>
      if s.mgmt != Node.run then s.done d Status.state
      else (s.defer d.tag d.irqNow 0x72).offer Place.gecko
        { time := s.now, source := mkSource 8 0, kind := Kind.cmd, payload := cmdPayload 0xFF01 0 0 1,
          ext := slice d.raw 8 56 ++ zeros 8 }

/-- |VALUE − LAST| is at least DEADBAND; DEADBAND 0 and an entry not yet written always write. -/
def Trend.moved (t : Trend) (v : F32) (first : Bool) : Bool :=
  first || F32.eq t.deadband 0 || F32.le t.deadband (F32.abs (F32.sub v t.last))

/-- A trend entry's period ends: the holder's record is sampled, or AE-A's when none holds (R291); in REPLAY trends carry nothing (R344). -/
def State.trendStep (s : State) (i : Nat) : State :=
  let t := s.trend i
  if !t.used || s.mgmt != Node.run || decide (s.now.toNat < t.due) then s
  else
    let x := s.pt (s.skink.holder.getD .A) t.point
    let at_ := Tarn.TREND + 32 * i
    let s := s.tarnStore (at_ + 0x10) (leBytes 8 (t.due + 1000000 * t.period))
    if t.moved x.value (s.outlet.trendFresh.contains i) then
      let s := (s.tarnStore (at_ + 0xC) (leBytes 4 x.value.toNat)).updOutlet (fun o => { o with
        trendFresh := o.trendFresh.filter (· != i) })
      s.postLossy 6 (leBytes 8 s.now.toNat ++ leBytes 4 (t.point + x.state.toNat * 2 ^ 24) ++ leBytes 4 x.value.toNat)
    else s

/-! ## Quotas (R504, R506) -/

/-- The boundary of the ELASTIC pool moves when it may. -/
def State.splitApply (s : State) : State :=
  let h := s.hif
  let free := s.outlet.backlog.all (fun b => decide (b.place < 32768 * h.elasticReq))
  if (h.elasticReq < h.elasticNow && free) || (decide (h.elasticNow < h.elasticReq) && !s.capturing) then
    { s with hif := { h with elasticNow := h.elasticReq } }
  else s

/-- A channel's walker after a new division of the filter elements (R395). -/
def State.shareSet (s : State) (n base size : Nat) : State :=
  let w := s.filtWalked n
  let s := (s.setReg (Reg.CAN_FILT_BASE n) (BitVec.ofNat 32 base)).setReg (Reg.CAN_FILT_SHARE n) (BitVec.ofNat 32 size)
  let fits := w.1 == base && decide (s.filtUsed w.1 w.2 ≤ size)
  (s.updCan n (fun c => { c with oldWalk := if fits then none else some w })).setCanStat n CanStat.overQuota (!fits)

/-- New shares, contiguous in channel order. -/
def State.sharesSet (s : State) : List Nat → Nat → Nat → State
  | [], _, _ => s
  | k :: l, n, base => (s.shareSet n base k).sharesSet l (n + 1) (base + k)

/-- QUOTA_SET (Tables 18-5 to 18-7). -/
def State.quotaSet (s : State) (d : Desc) : State :=
  let kind := d.arg 8 1
  let ix := d.arg 9 1
  let v := d.arg 0xC 4
  let shares := (List.range 8).map (fun n => d.arg (0x10 + 2 * n) 2)
  let fin := fun (excess : Bool) (s : State) => (s.bump Reg.QUOTA_SET_CNT).done d Status.ok (BitVec.ofNat 64 (b2n excess))
  let bad :=
    match kind with
    | 0 => !inRange 1 16 v
    | 1 => !isHostToNode ix || !inRange 1 64 v
    | 2 => shares.any (fun x => decide (16384 < x) || x % 16 != 0) || decide (16384 < shares.sum)
    | 3 => decide (100000 < v)
    | _ => !inRange 1 64 v
  if decide (4 < kind) || !d.resv 0xA 2 || !d.resv 0x20 32 || (kind != 1 && ix != 0) || bad then s.done d Status.badArg
  else match kind with
    | 0 =>
      if s.hif.elasticReq != s.hif.elasticNow then s.done d Status.busy
      else
        let s := (State.splitApply { s with hif := { s.hif with elasticReq := v } }).saveQuota (fun q => { q with elastic := v })
        fin s.backlogOver s
    | 1 =>
      let s := State.saveQuota { s with hif := { s.hif with prefetch := Sparse.set 16 s.hif.prefetch ix v } }
        (fun q => { q with prefetch := Sparse.set 16 q.prefetch ix v })
      let cut := decide (v < s.prefetched ix)
      let s := { s with hif := { s.hif with prefetchCut := s.hif.prefetchCut.filter (· != ix) ++ if cut then [ix] else [] } }
      fin cut (s.fetchMore ix)
    | 2 =>
      let s := (s.sharesSet shares 0 0).saveQuota (fun q => { q with shares := shares })
      fin ((List.range 8).any (fun n => s.canStat n CanStat.overQuota)) s
    | 3 =>
      let s := State.saveQuota { s with hif := { s.hif with trendQuota := v } } (fun q => { q with trend := v })
      let cut := decide (v * s.trendRate.2 < s.trendRate.1)
      fin cut { s with hif := { s.hif with trendCut := cut } }
    | _ => fin false (State.saveQuota { s with hif := { s.hif with cmdQuota := v } } (fun q => { q with cmd := v }))

/-! ## The steps -/

def execEventCopyArrival (e : EngineId) (s : State) : Host.Outcome State Fault Refusal := .next (s.fresh.copyArrives e)

def execMergeWaitExpiry (s : State) : Host.Outcome State Fault Refusal := .next s.fresh.mergeExpire

def execEventDelivery (ring : Nat) (s : State) : Host.Outcome State Fault Refusal :=
  need (decide (ring < 31)) (if inRange 2 5 ring then s.fresh.deliver ring else s.fresh)

def execPublicationDatagram (s : State) : Host.Outcome State Fault Refusal := .next s.fresh.pubSend

def execCanPublication (s : State) : Host.Outcome State Fault Refusal := .next s.fresh.pubCan

def execTrendSample (entry : Nat) (dt : Nat) (s : State) : Host.Outcome State Fault Refusal :=
  need (decide (entry < 4096)) ((s.fresh.pass dt).trendStep entry)

def execTrendCtl (s : State) : Host.Outcome State Fault Refusal :=
  .next (s.fresh.dirCmd 0x72 (fun d s => s.trendCtl d))

def execQuotaSet (s : State) : Host.Outcome State Fault Refusal :=
  .next (s.fresh.dirCmd 0x70 (fun d s => s.quotaSet d))

def execElasticSplitApply (s : State) : Host.Outcome State Fault Refusal := .next s.fresh.splitApply

end Sys2Proof.Machine
end

