-- ==== Sys2Proof/Machine/Flash.lean ====
section
/-! DEFINITION. The non-volatile stores: the slot store (R67-R72), the configuration digest (R89-R91), boot records and image slots (R77, R471, R472, R481-R483), and the settings regions (R499-R502). -/

namespace Sys2Proof.Machine

/-! ## RWS registers (R89, R328) -/

def isRws (o : Off) : Bool :=
  match regRow o with
  | some (r, _) => r.acc == .rws
  | none => false

/-- The RWS registers outside the MGMT block, in ascending offset. -/
def rwsOffsets : List Off :=
  (regBlocks.filter (fun b => b.1 != 0)).flatMap (fun b =>
    ((List.range ((b.2.1 - b.1) / 4)).map (fun k => b.1 + 4 * k)).filter isRws)

def State.rwsList (s : State) : List (Nat × U32) := rwsOffsets.map (fun o => (o, s.reg o))

/-! ## The slot store (R67-R72) -/

def State.ssRead (s : State) (o n : Nat) : List Byte := Sparse.read 0xFF s.nvm.slotStore o n

/-- A copy begins to be written. -/
def State.noteWrite (s : State) (w : CopyWrite) : State :=
  { s with gecko := { s.gecko with writing := some (w, s.frcNat) } }

/-- The newest write of a copy is durable. -/
def State.writeDone (s : State) : State := { s with gecko := { s.gecko with writing := none } }

/-- A write to the store, in ascending order; until it ends a loss of power can leave the rest of it unwritten (R70, R71). -/
def State.ssWrite (s : State) (o : Nat) (l : List Byte) : State :=
  (s.updNvm (fun v => { v with slotStore := Sparse.write 0xFF v.slotStore o l })).noteWrite (.slotStore o (s.ssRead o l.length))

/-- Copy k of the slot record (Table 2-10). -/
def State.slotCopy (s : State) (k : Nat) : List Byte := s.ssRead (0x1000 * k) 0x1000

/-- MAGIC, LAYOUT_VER and CRC32 are correct (R70). -/
def slotCopyOk (l : List Byte) : Bool := u32At l 0 == 0x31535355 && leAt l 4 2 == 1 && crcOk l 0x1000

/-- The newer of two valid copies; copy 0 where the sequence numbers do not decide (R70, R77). -/
def copyInUse (ok0 ok1 : Bool) (seq0 seq1 : U32) : Option Nat :=
  match ok0, ok1 with
  | true, true => some (if newer32 seq1 seq0 then 1 else 0)
  | true, false => some 0
  | false, true => some 1
  | false, false => none

def State.slotInUse (s : State) : Option Nat :=
  let a := s.slotCopy 0
  let b := s.slotCopy 1
  copyInUse (slotCopyOk a) (slotCopyOk b) (u32At a 8) (u32At b 8)

/-- The slot record that the store holds. -/
def State.slotRecord (s : State) : Option (List Byte) := s.slotInUse.map s.slotCopy

/-- A slot record is written into the copy not in use, its SEQ and CRC32 formed (R70). The read-back of step 4 finds it right: R70 says nothing of another outcome (DESIGN CHOICE, log entry 63). -/
def State.writeSlot (s : State) (rec_ : List Byte) : State :=
  let k := match s.slotInUse with | some k => 1 - k | none => 0
  let seq := match s.slotRecord with | some r => u32At r 8 + 1 | none => 1
  s.ssWrite (0x1000 * k) (withCrc (patch rec_ 8 (leBytes 4 seq.toNat)) 0x1000)

/-- MGMT_SS_STATUS.STATUS (Table 3-4). -/
abbrev Ss.valid : Nat := 0
abbrev Ss.blank : Nat := 1
abbrev Ss.unreadable : Nat := 2
abbrev Ss.mismatch : Nat := 3
abbrev Ss.lock : Nat := 4
abbrev Ss.resetRequired : Nat := 5
abbrev Ss.bypassed : Nat := 6

def State.ss (s : State) : Nat := s.rfld Reg.MGMT_SS_STATUS 0 3
def State.setSs (s : State) (st : Nat) : State := s.setRegFld Reg.MGMT_SS_STATUS 0 3 st
def State.cfgMatch (s : State) : Bool := s.rbit Reg.MGMT_SS_STATUS 9
def State.cfgDirty (s : State) : Bool := s.rbit Reg.MGMT_SS_STATUS 10

/-- A write in SETUP through the Tarn window or to an RWS register (R90). -/
def State.setDirty (s : State) : State := s.setRegBit Reg.MGMT_SS_STATUS 10 true

/-- The record that the node runs under: the store's, in the states of Table 3-4 that have a valid one (R81). -/
def State.recordInForce (s : State) : Option (List Byte) :=
  if s.ss = Ss.valid || s.ss = Ss.mismatch || s.ss = Ss.lock || s.ss = Ss.resetRequired then s.slotRecord else none

/-! ### The replacement log (R72) -/

def State.logEntry (s : State) (k : Nat) : List Byte := s.ssRead (0x2000 + 32 * k) 32

/-- The newest valid entry, ENTRY_NO being compared with the wrap-around that R70 gives SEQ: R72 names no comparison (DESIGN CHOICE, log entry 63). -/
def State.logNewest (s : State) : Option (List Byte) :=
  ((List.range 256).map s.logEntry).foldl (fun best l =>
    if !crcOk l 32 then best
    else match best with
      | none => some l
      | some b => if newer32 (u32At l 0x14) (u32At b 0x14) then some l else some b) none

def State.serial (s : State) : U64 := s.pair Reg.SERIAL_LO Reg.SERIAL_HI

/-- Native behaviour revision (Behaviour revisions). -/
abbrev nativeRev : Nat := 2

/-- The entry that a module new to the slot writes. -/
def State.logReplacement (s : State) (lock : Byte) : State :=
  let no : Option U32 := match s.logNewest with
    | none => some 0
    | some l => if u64At l 8 = s.serial then none else some (u32At l 0x14 + 1)
  match no with
  | none => s
  | some n =>
    let l := leBytes 8 s.rtc.sec.toNat ++ leBytes 8 s.serial.toNat ++ leBytes 2 (s.reg Reg.HW_REV).toNat
      ++ [BitVec.ofNat 8 nativeRev, lock] ++ leBytes 4 n.toNat ++ zeros 8
    s.ssWrite (0x2000 + 32 * (n.toNat % 256)) (withCrc l 32)

/-! ## The configuration digest (R89-R92) -/

/-- The seven Tarn regions of the digest. -/
def cfgRegions : List (Off × Nat) :=
  [(Tarn.POINT_CFG, 5242880), (Tarn.FANOUT, 1048576), (Tarn.GROUPS, 65536), (Tarn.CHANDEF, 16384),
   (Tarn.LINTAB, 131072), (Tarn.CAN_FILT, 262144), (Tarn.CAN_SIG, 524288)]

/-- The configuration digest; the group state halves are no bytes of `State.tarn`, which reads them as zero. -/
def State.digest (s : State) : List Byte :=
  sha256 (cfgRegions.flatMap (fun r => s.tarnRead r.1 r.2) ++ s.rwsList.flatMap (fun r => leBytes 4 r.2.toNat))

/-- The digest is computed again: CFG_DIRTY clears, CFG_MATCH follows, and on a match CFG_EPOCH resumes (R89, R90). -/
def State.takeDigest (s : State) : State :=
  let s := s.setRegBit Reg.MGMT_SS_STATUS 10 false
  match s.recordInForce with
  | none => s.setRegBit Reg.MGMT_SS_STATUS 9 false
  | some r =>
    if s.digest = slice r 0x40 32 then
      (s.setRegBit Reg.MGMT_SS_STATUS 9 true).setReg Reg.INLET_CFG_EPOCH (BitVec.ofNat 32 (leAt r 0x60 2))
    else s.setRegBit Reg.MGMT_SS_STATUS 9 false

/-- Bytes 0x068-0x091 of a slot record: the network and PTP identity as the registers hold it. -/
def State.identity (s : State) : List Byte :=
  let w := fun o => leBytes 4 (s.reg o).toNat
  s.ethMac 0 ++ s.ethMac 1 ++ w Reg.PTP_CLOCK_ID_LO ++ w Reg.PTP_CLOCK_ID_HI
    ++ leBytes 2 (s.rfld Reg.PTP_CFG 0 9) ++ zeros 2
    ++ w (Reg.ETH_IPV4 0) ++ w (Reg.ETH_IPV4 1) ++ w Reg.ETH_IPV4_MASK ++ w Reg.PUB_GROUP
    ++ leBytes 2 (s.rfld Reg.PUB_PORT 0 16)

/-- The registers of that identity, loaded from a record (R81). -/
def State.loadIdentity (s : State) (r : List Byte) : State :=
  let put := fun (s : State) (x : Off × Nat × Nat) => s.setReg x.1 (BitVec.ofNat 32 (leAt r x.2.1 x.2.2))
  [(Reg.ETH_MAC_LO 0, 0x68, 4), (Reg.ETH_MAC_HI 0, 0x6C, 2), (Reg.ETH_MAC_LO 1, 0x6E, 4), (Reg.ETH_MAC_HI 1, 0x72, 2),
   (Reg.PTP_CLOCK_ID_LO, 0x74, 4), (Reg.PTP_CLOCK_ID_HI, 0x78, 4), (Reg.PTP_CFG, 0x7C, 2),
   (Reg.ETH_IPV4 0, 0x80, 4), (Reg.ETH_IPV4 1, 0x84, 4), (Reg.ETH_IPV4_MASK, 0x88, 4), (Reg.PUB_GROUP, 0x8C, 4),
   (Reg.PUB_PORT, 0x90, 2)].foldl put s

/-- The registers that R81 takes from OTP when there is no slot record. -/
def isFactoryId (o : Off) : Bool :=
  [Reg.ETH_MAC_LO 0, Reg.ETH_MAC_HI 0, Reg.ETH_MAC_LO 1, Reg.ETH_MAC_HI 1, Reg.PTP_CLOCK_ID_LO, Reg.PTP_CLOCK_ID_HI].contains o

/-- The registers that a slot record carries (R81). -/
def isRecordId (o : Off) : Bool :=
  [Reg.PTP_CFG, Reg.ETH_IPV4 0, Reg.ETH_IPV4 1, Reg.ETH_IPV4_MASK, Reg.PUB_GROUP, Reg.PUB_PORT].contains o

/-- The registers whose value R81 takes from the slot record or from OTP, which the settings leave alone: with no record only the factory identity (DEDUCED, log entry 43). -/
def State.isIdentity (s : State) (o : Off) : Bool :=
  isFactoryId o || (isRecordId o && s.recordInForce.isSome)

/-- A complete slot record of the node's present values (R92, Table 2-11). -/
def State.newRecord (s : State) : List Byte :=
  leBytes 4 0x31535355 ++ leBytes 2 1 ++ zeros 6
    ++ [BitVec.ofNat 8 s.nodeId, BitVec.ofNat 8 (s.rfld Reg.MGMT_SLOT_ID 0 6), BitVec.ofNat 8 (s.rfld Reg.MGMT_BEHAV_LOCK 0 8),
        BitVec.ofNat 8 (s.rfld Reg.MGMT_FMODE 0 2)]
    ++ leBytes 8 s.rtc.sec.toNat ++ leBytes 8 s.serial.toNat
    ++ (List.range 8).flatMap (fun k => leBytes 4 (s.reg (Reg.MGMT_COMM_REF k)).toNat)
    ++ s.digest ++ leBytes 2 s.cfgEpoch ++ zeros 6 ++ s.identity ++ zeros 3950

/-! ## Boot records (R77, R482, R483) -/

/-- Bytes 0x00-0x1B of a boot record. -/
def BootRec.body (r : BootRec) : List Byte :=
  leBytes 4 r.magic.toNat ++ leBytes 4 r.seq.toNat
    ++ [r.slot, r.settings, r.mode, r.trialBoots, r.prevSlot, r.prevSettings] ++ leBytes 2 r.trialMin.toNat
    ++ leBytes 4 r.session.toNat ++ [r.reason] ++ leBytes 3 r.resv.toNat ++ leBytes 4 r.imageVer.toNat

/-- The bytes of Table 17-12. -/
def BootRec.bytes (r : BootRec) : List Byte := r.body ++ leBytes 4 r.crc.toNat

def BootRec.ofBytes (l : List Byte) : BootRec :=
  { magic := u32At l 0, seq := u32At l 4, slot := byteAt l 8, settings := byteAt l 9, mode := byteAt l 0xA,
    trialBoots := byteAt l 0xB, prevSlot := byteAt l 0xC, prevSettings := byteAt l 0xD, trialMin := u16At l 0xE,
    session := u32At l 0x10, reason := byteAt l 0x14, resv := BitVec.ofNat 24 (leAt l 0x15 3), imageVer := u32At l 0x18,
    crc := u32At l 0x1C }

/-- MAGIC and CRC32 are correct. -/
def BootRec.ok (r : BootRec) : Bool := r.magic == 0x31524255 && r.crc == crc32 r.body

/-- A record with its MAGIC and CRC32. -/
def BootRec.sealed (r : BootRec) : BootRec :=
  let r := { r with magic := 0x31524255, resv := 0 }
  { r with crc := crc32 r.body }

/-- The boot record in force; with no valid copy, slot A and its settings (DESIGN CHOICE, log entry 44). -/
def Nvm.bootIx (v : Nvm) : Option Nat := copyInUse v.boot0.ok v.boot1.ok v.boot0.seq v.boot1.seq

def Nvm.boot (v : Nvm) : BootRec :=
  match v.bootIx with
  | some 0 => v.boot0
  | some _ => v.boot1
  | none => { }

/-- An erase of a sector is counted (R502). -/
def State.countErase (s : State) (sector : Nat) : State :=
  let n := Sparse.get 0 s.nvm.erases sector + 1
  let s := s.updNvm (fun v => { v with erases := Sparse.set 0 v.erases sector n })
  if n = 90000 then s.raise Reg.HK_EVT 8 else s

/-- `n` sectors from `first` are erased. -/
def State.countErases (s : State) (first n : Nat) : State := (span first n).foldl State.countErase s

/-- A boot record written into the copy not in force, with SEQ one higher (R482). -/
def State.writeBoot (s : State) (r : BootRec) : State :=
  let r := { r with seq := s.nvm.boot.seq + 1 }.sealed
  match s.nvm.bootIx with
  | some 0 => ((s.countErase 0x4801).updNvm (fun v => { v with boot1 := r })).noteWrite (.bootRec 1)
  | _ => ((s.countErase 0x4800).updNvm (fun v => { v with boot0 := r })).noteWrite (.bootRec 0)

/-- A record of which the first `n` bytes have been programmed into an erased sector. -/
def BootRec.torn (r : BootRec) (n : Nat) : BootRec := BootRec.ofBytes (r.bytes.take n ++ List.replicate (32 - n) 0xFF)

/-! ## Update sessions (R473, R477, R479) -/

/-- What the CRC32 of a session record covers; the spec gives the record no layout (DESIGN CHOICE, log entry 83). -/
def SesRec.body (r : SesRec) : List Byte :=
  leBytes 4 r.id.toNat ++ leBytes 4 r.pieces ++ fit 32 r.hash ++ leBytes 1 r.target ++ leBytes 1 r.state ++ leBytes 4 r.seq.toNat

def SesRec.ok (r : SesRec) : Bool := r.crc == crc32 r.body

/-- The session record in force: the valid copy of higher sequence number (R473). -/
def Nvm.sesIx (v : Nvm) : Option Nat := copyInUse v.ses0.ok v.ses1.ok v.ses0.seq v.ses1.seq

def Nvm.sesRec (v : Nvm) : SesRec :=
  match v.sesIx with
  | some 0 => v.ses0
  | some _ => v.ses1
  | none => { }

/-- A bit counts only when both copies show it set (R479). -/
def Nvm.bitmap (v : Nvm) : List Nat := v.bits0.filter (fun p => v.bits1.contains p)

def Nvm.session (v : Nvm) : Session :=
  let r := v.sesRec
  { id := r.id, pieces := r.pieces, hash := r.hash, target := r.target, state := r.state, bitmap := v.bitmap, seq := r.seq }

/-- First sectors of the session records and of the bitmaps (Table 17-1). -/
abbrev sessionSector : Nat := 0x4802
abbrev bitmapSector : Nat := 0x4804

/-- A session record written into the copy not in force, with the next sequence number. -/
def State.writeSes (s : State) (r : SesRec) : State :=
  let r := { r with seq := s.nvm.sesRec.seq + 1 }
  let r := { r with crc := crc32 r.body }
  match s.nvm.sesIx with
  | some 0 => ((s.countErase (sessionSector + 1)).updNvm (fun v => { v with ses1 := r })).noteWrite (.session 1)
  | _ => ((s.countErase sessionSector).updNvm (fun v => { v with ses0 := r })).noteWrite (.session 0)

/-! ## Journal entries (R499, R500) -/

/-- Length and CRC32 are correct. -/
def JEntry.ok (e : JEntry) : Bool := e.length == e.image.length && e.crc == crc32 e.body

/-- Bytes of an entry in the journal: a 16 B header and the image, padded to 16 B. -/
def JEntry.size (e : JEntry) : Nat := 16 + (e.length + 15) / 16 * 16

/-- An entry of which `n` bytes have been programmed. -/
def JEntry.torn (e : JEntry) (n : Nat) : JEntry := if e.size ≤ n then e else { e with image := e.image.take (n - 16), crc := ~~~e.crc }

/-! ## Power lost in a write (R71, R473, R479, R482, R500) -/

/-- What the write of a copy has left behind when power is lost after `n` of its bytes: the rest of a slot record as it was, a record whose CRC32 fails. -/
def Nvm.tear (v : Nvm) (n : Nat) : CopyWrite → Nvm
  | .slotStore o old => { v with slotStore := Sparse.write 0xFF v.slotStore (o + n) (old.drop n) }
  | .bootRec 0 => { v with boot0 := v.boot0.torn n }
  | .bootRec _ => { v with boot1 := v.boot1.torn n }
  | .session 0 => { v with ses0 := { v.ses0 with crc := ~~~v.ses0.crc } }
  | .session _ => { v with ses1 := { v.ses1 with crc := ~~~v.ses1.crc } }

/-- CORE clocks for which the write of a copy can be cut: a boot record is durable 30 ms after the pause begins (Table 17-13), a full slot record within 300 ms (R70). -/
def CopyWrite.clocks : CopyWrite → Nat
  | .bootRec _ => 6000000
  | _ => 60000000

/-- The write of a copy that is under way. -/
def State.copyWriting (s : State) : Option CopyWrite :=
  match s.gecko.writing with
  | some (w, t) => if s.frcNat - t < w.clocks then some w else none
  | none => none

/-- Piece `p` with `n` bytes of its data and bitmap bits programmed: the bit of copy 0 follows the data, and that of copy 1 would have made it stored (R477, R479). -/
def Nvm.tearPiece (v : Nvm) (n p : Nat) (data : List Byte) : Nvm :=
  let put := fun (g : ImageSlot) => { g with pieces := Sparse.insert g.pieces p (data.take n ++ List.replicate (4096 - n) 0xFF) }
  let v := if v.session.target = 0 then { v with slotA := put v.slotA } else { v with slotB := put v.slotB }
  if 4096 < n then { v with bits0 := v.bits0.filter (· < p) ++ p :: v.bits0.filter (p < ·) } else v

/-- Power is lost after `torn` bytes of the write that is under way: that of a copy, of the next journal entry, or of the first piece held on chip. -/
def State.cutWrite (s : State) (torn : Option Nat) : State :=
  match torn with
  | none => s
  | some n =>
    match s.copyWriting, s.gecko.journalQ, s.upd.bufs.find? (fun b => !s.nvm.bitmap.contains b.1) with
    | some w, _, _ => s.updNvm (fun v => v.tear n w)
    | none, e :: _, _ => s.updRegion s.upd.runSettings (fun t => { t with journal := t.journal.takeWhile JEntry.ok ++ [e.torn n] })
    | none, [], some (p, data) => s.updNvm (fun v => v.tearPiece n p data)
    | none, [], none => s

/-- The fallback record of R483: the previous slot and its settings. -/
def BootRec.fallback (r : BootRec) (reason : Nat) (ver : U32) : BootRec :=
  { r with slot := r.prevSlot, settings := r.prevSettings, mode := 2, reason := BitVec.ofNat 8 reason, imageVer := ver }

/-! ## Image packages (R471, R472, R481) -/

def Nvm.slotOf (v : Nvm) (k : Nat) : ImageSlot := if k = 0 then v.slotA else v.slotB

def State.updSlot (s : State) (k : Nat) (f : ImageSlot → ImageSlot) : State :=
  s.updNvm (fun v => if k = 0 then { v with slotA := f v.slotA } else { v with slotB := f v.slotB })

/-- A piece as the slot holds it; an erased one reads 0xFF. -/
def ImageSlot.piece (g : ImageSlot) (p : Nat) : List Byte :=
  (Sparse.find g.pieces p).getD (List.replicate 4096 0xFF)

/-- Bytes of a package. -/
def ImageSlot.read (g : ImageSlot) (o n : Nat) : List Byte :=
  slice ((span (o / 4096) ((o % 4096 + n + 4095) / 4096)).flatMap g.piece) (o % 4096) n

def ImageSlot.manifest (g : ImageSlot) : List Byte := g.piece 0

/-- A part entry (Table 17-3). -/
structure Part where
  id : Nat
  offset : Nat
  length : Nat
  hash : List Byte
  resv : Bool
  deriving DecidableEq, Repr

def Part.ofBytes (l : List Byte) : Part :=
  { id := leAt l 0 1, offset := leAt l 8 4, length := leAt l 0xC 4, hash := slice l 0x10 32, resv := allZero (slice l 1 3) }

def manifestParts (m : List Byte) : List Part := (List.range 7).map (fun k => Part.ofBytes (slice m (0x20 + 48 * k) 48))

/-- Check 1 of Table 17-10. -/
def manifestFormatOk (m : List Byte) : Bool :=
  u32At m 0 == 0x31464D55 && leAt m 4 2 == 1 && leAt m 6 2 == 7 && fld (byteAt m 0xF) 4 4 == 0
    && allZero (slice m 0x18 8) && allZero (slice m 0x170 3472) && (manifestParts m).all Part.resv
    && (slice m 0xF80 128).all (· == 0xFF)

/-- Check 2: PUBKEY's hash stands in OTP slot KEY_INDEX, which is not revoked. -/
def Nvm.keyOk (v : Nvm) (m : List Byte) : Bool :=
  v.keys.any (fun k => k.1 == leAt m 0xE 1 && !k.2.2 && k.2.1 == sha256 (slice m 0xF00 64))

/-- Check 3: the signature over bytes 0x000-0xF3F (R472). -/
def manifestSigned (m : List Byte) : Bool :=
  ecdsaOk (beNat (slice m 0xF00 32), beNat (slice m 0xF20 32)) (beNat (slice m 0xF40 32)) (beNat (slice m 0xF60 32)) (m.take 0xF40)

/-- Bytes of a part, its padding to whole pieces included. -/
def Part.stop (p : Part) : Nat := p.offset + (p.length + 4095) / 4096 * 4096

/-- Check 5 of the parts: PART_ID ascending, each once; aligned, inside the package, apart. -/
def partsOk (ps : List Part) (pieces : Nat) : Bool :=
  ps.map Part.id == [1, 2, 3, 4, 5, 6, 7]
    && ps.all (fun p => p.offset != 0 && p.offset % 4096 == 0 && p.length != 0 && decide (p.stop ≤ 4096 * pieces))
    && ps.all (fun p => ps.all (fun q => p.id == q.id || decide (p.stop ≤ q.offset) || decide (q.stop ≤ p.offset)))

/-- Check 7: the first part whose hash is wrong. -/
def ImageSlot.badPart (g : ImageSlot) : Option Part :=
  (manifestParts g.manifest).find? (fun p => sha256 (g.read p.offset p.length) != p.hash)

/-- The manifest signature and every part hash are right: the slot can be booted (R77). -/
def Nvm.bootable (v : Nvm) (k : Nat) : Bool :=
  let g := v.slotOf k
  g.factory || (manifestFormatOk g.manifest && v.keyOk g.manifest && manifestSigned g.manifest && g.badPart.isNone)

/-- IMAGE_VER of a slot: the shipped image's is the factory's, 0 is no image. -/
def Nvm.imageVer (v : Nvm) (k : Nat) : U32 :=
  let g := v.slotOf k
  if g.factory then Config.factoryReg Reg.UPD_RUN_VER else if (Sparse.find g.pieces 0).isSome then u32At g.manifest 8 else 0

/-- Settings format that a slot's image writes; the shipped image's is 1 (DESIGN CHOICE, log entry 8). -/
def Nvm.imageFormat (v : Nvm) (k : Nat) : Nat :=
  let g := v.slotOf k
  if g.factory then 1 else leAt g.manifest 0x14 2

/-! ## The settings regions (R499-R502) -/

/-- The body of a generation: the seven regions, and the REGS layout of Table 11-6. -/
def Generation.body (g : Generation) : List Byte :=
  cfgRegions.flatMap (fun r => Sparse.read 0 g.tarn r.1 r.2) ++ g.rws.flatMap (fun r => leBytes 4 r.1 ++ leBytes 4 r.2.toNat)

/-- Its SHA-256 is correct. -/
def Generation.valid (g : Generation) : Bool := g.sha == sha256 g.body

/-- The newest base generation whose SHA-256 is correct. -/
def Settings.base (t : Settings) : Option Generation :=
  (t.gens.filter Generation.valid).foldl (fun best g =>
    match best with
    | none => some g
    | some b => if b.seq < g.seq then some g else some b) none

/-- An epoch later than another, modulo 2^16. -/
def epochAfter (a b : U16) : Bool := inRange 1 32767 (a - b).toNat

/-- The entries that apply to the base, in order: the journal ends at the first entry that fails (R500). -/
def Settings.live (t : Settings) : List JEntry :=
  let l := t.journal.takeWhile JEntry.ok
  match t.base with
  | none => l
  | some g => l.filter (fun e => epochAfter e.epoch g.epoch)

/-- The configuration bytes of Tarn. -/
def State.cfgTarn (s : State) : Sparse Byte :=
  s.tarn.filter (fun c => cfgRegions.any (fun r => decide (r.1 ≤ c.1) && decide (c.1 < r.1 + r.2)))

/-- A journal entry applied: the object written, and a definition's place in the scan lists. -/
def State.applyEntry (s : State) (e : JEntry) : State :=
  let u : CmdUnit := { opcode := e.opcode, target := e.target, image := e.image }
  (s.applyScan u).applyUnit u

/-- The registers of the filter shares, contiguous in channel order. -/
def State.loadShares (s : State) : List Nat → Nat → Nat → State
  | [], _, _ => s
  | k :: l, n, base => ((s.setReg (Reg.CAN_FILT_BASE n) (BitVec.ofNat 32 base)).setReg (Reg.CAN_FILT_SHARE n)
      (BitVec.ofNat 32 k)).loadShares l (n + 1) (base + k)

/-- The quotas kept in the settings (R504). -/
def State.loadQuotas (s : State) (q : Quotas) : State :=
  State.loadShares { s with hif := { s.hif with prefetch := q.prefetch, elasticReq := q.elastic, elasticNow := q.elastic,
                                                trendQuota := q.trend, cmdQuota := q.cmd } } q.shares 0 0

/-- A region's configuration put into Tarn and the set-up registers (step 8 of Table 3-2), with the quotas that it keeps. -/
def State.loadRegion (s : State) (t : Settings) : State :=
  let s := match t.base with
    | none => s
    | some g => (g.rws.filter (fun r => !s.isIdentity r.1)).foldl (fun s r => s.setReg r.1 r.2) { s with tarn := g.tarn }
  (t.live.foldl State.applyEntry s).loadQuotas t.quotas

/-- The configuration in Tarn and the registers differs from the durable one (R501). -/
def State.unsaved (s : State) : Bool :=
  let t := State.loadRegion { State.reset with behavBoot := s.behavBoot } s.active
  let mine := fun (l : List (Nat × U32)) => l.filter (fun r => !s.isIdentity r.1)
  !(decide (s.cfgTarn = t.cfgTarn)) || !(decide (mine s.rwsList = mine t.rwsList))

def Settings.fill (t : Settings) : Nat := (t.journal.map JEntry.size).sum

abbrev journalSize : Nat := 4 * 2 ^ 20

/-- First sector of a settings region, and of a base generation's place (Tables 17-1, 18-3). -/
def regionSector (k : Nat) : Nat := 0x4000 + 0x400 * k
def baseSector (k gen : Nat) : Nat := (if k = 0 then 0x4806 else 0x6006) + 2048 * gen

/-- The sequence number of the next generation: while a conversion runs it also comes after those that it will bring (R487). -/
def State.baseSeq (s : State) : Nat :=
  let next := fun (t : Settings) => (t.base.map (fun g => g.seq + 1)).getD 0
  if s.upd.converting then max (next s.active) (next (s.nvm.region (1 - s.upd.runSettings))) else next s.active

/-- The base generations that a region holds are erased, `n` sectors each. -/
def State.eraseBases (s : State) (k n : Nat) : State :=
  (s.nvm.region k).gens.foldl (fun s g => s.countErases (baseSector k (g.seq % 3)) n) s

/-- A settings region is erased with the base generations that it holds, and takes a new content. -/
def State.eraseRegion (s : State) (k : Nat) (t : Settings) : State :=
  ((s.countErases (regionSector k) 1024).eraseBases k 2048).updRegion k (fun _ => t)

/-- The revocation bits of a confirmed manifest are programmed, KEY_INDEX's never (R486). -/
def State.revoke (s : State) (m : List Byte) : State :=
  let named := (List.range 4).filter (fun k => bitAt (byteAt m 0xF) k && k != leAt m 0xE 1)
  s.updNvm (fun v => { v with keys := named.foldl (fun l k =>
      if l.any (fun x => x.1 == k) then l.map (fun x => if x.1 = k then (k, x.2.1, true) else x) else l ++ [(k, [], true)]) v.keys })

/-- The session's state; IDLE and RECEIVING stand in its flash record too. -/
def State.setSes (s : State) (st : Nat) : State :=
  let s := { s with upd := { s.upd with state := st } }
  if st ≤ 1 && s.nvm.sesRec.state != st then s.writeSes { s.nvm.sesRec with state := st } else s

/-- The erase that follows a confirmation is under way (UPD_STATUS.ERASE_PENDING). -/
def State.erasePending (s : State) : Bool :=
  match s.upd.erasing with
  | some e => decide (s.frcNat < e.ends)
  | none => false

/-- What a reset leaves in flash and OTP: an erase that it cuts is still due, and of a region half erased no boot reads anything before it has taken the erase up (R486). -/
def State.cutErase (s : State) : Nvm :=
  match s.upd.erasing with
  | some e => if s.frcNat < e.ends then { s.nvm with keys := e.keys, eraseDue := true } else s.nvm
  | none => s.nvm

/-- The boot takes up an erase that a reset cut: PREV_SETTINGS, the revocations and the end of the session (R486, R489). -/
def State.eraseResume (s : State) : State :=
  if !s.nvm.eraseDue || s.nvm.boot.mode != 0 then s else
  let s := (s.eraseRegion (1 - s.upd.runSettings) { }).revoke (s.nvm.slotOf s.upd.runSlot).manifest
  (s.setSes 0).updNvm (fun v => { v with eraseDue := false })

/-- A base generation of the present configuration begins to be written (R501); one already under way of the same content goes on. -/
def State.startBase (s : State) : State :=
  let g : Generation := { format := s.active.format, epoch := BitVec.ofNat 16 s.evalEpoch, seq := s.baseSeq,
                          tarn := s.cfgTarn, rws := s.rwsList }
  let g := { g with sha := sha256 g.body }
  if s.gecko.saving = some g then s
  else { s with gecko := { s.gecko with saving := some g, saveMark := s.active.journal.length } }

/-- `n` sectors fail: as many of the spare pool take their places, and the others leave their content in Tarn only (R502). -/
def State.sectorsFail (s : State) (n : Nat) : State × Bool :=
  if n = 0 then (s, true) else
  let left := s.nvm.spare
  let s := (s.updNvm (fun v => { v with spare := left - n })).bumpBy Reg.HK_SET_WRITE_FAIL_CNT (min n left)
  (if left ≤ n then s.raise Reg.HK_EVT 4 else s, decide (n ≤ left))

/-- The sectors of a base generation are erased; how many of them fail is a free value. -/
def State.baseSectors (s : State) (first n : Nat) : State × Bool :=
  let s := s.countErases first n
  s.draw.2.sectorsFail (Config.badSectors s.draw.1)

/-- A base generation under way is dropped. -/
def State.unsave (s : State) : State := { s with gecko := { s.gecko with saving := none, saveMark := 0 } }

/-- The generation is durable: it takes the place of the oldest of three, whose sectors are erased for it, and older entries are freed. How many sectors fail is a free value; when the spare pool cannot replace them all, the generation before it stays in force (R502). -/
def State.baseDurable (s : State) : State :=
  match s.gecko.saving with
  | none => s
  | some g =>
    let k := s.upd.runSettings
    let mark := s.gecko.saveMark
    let x := s.unsave.baseSectors (baseSector k (g.seq % 3)) 2048
    if !x.2 then x.1 else
    let s := x.1.updRegion k (fun t => { t with
      gens := (t.gens.filter (fun x => decide (g.seq < x.seq + 3))) ++ [g], journal := t.journal.drop mark })
    ((s.setRegBit Reg.HK_STATUS 2 false).bump Reg.HK_BASE_CNT).raise Reg.HK_EVT 2

/-- The sectors that `n` more bytes enter in the ring are erased, in ring order. -/
def State.ringErase (s : State) (k n : Nat) : State :=
  let pos := (s.nvm.region k).pos
  let first := (pos + 4095) / 4096
  let s := (span first ((pos + n + 4095) / 4096 - first)).foldl (fun s i => s.countErase (regionSector k + i % 1024)) s
  s.updRegion k (fun t => { t with pos := (pos + n) % journalSize })

/-- The journal entry of the oldest applied change becomes durable (R500, R501). -/
def State.journalWrite (s : State) (sectorFail : Bool) : State :=
  match s.gecko.journalQ with
  | [] => s
  | e :: l =>
    if journalSize < s.active.fill + e.size then s.setRegBit Reg.HK_STATUS 2 true
    else
      let s := { s with gecko := { s.gecko with journalQ := l } }
      let (s, ok) := s.sectorsFail (if sectorFail then 1 else 0)
      if !ok then s else
      let k := s.upd.runSettings
      let s := (s.ringErase k e.size).updRegion k (fun t => { t with journal := t.journal.takeWhile JEntry.ok ++ [e] })
      if 3 * journalSize < 4 * s.active.fill && s.gecko.saving.isNone then s.startBase else s

end Sys2Proof.Machine
end

