-- ==== Sys2Proof/Machine/Hif.lean ====
section
/-! DEFINITION. The host interface: pages, doorbells, rings, moderation, MSI-X, resets of HIF and the legacy event FIFO (R98-R112, R124-R138). -/

namespace Sys2Proof.Machine

def State.updHif (s : State) (f : Hif → Hif) : State := { s with hif := f s.hif }

def State.pagesOn (s : State) : Bool := s.rbit Reg.HIF_CTL 0

/-! ## The PCIe function (R96-R98) -/

/-- Table 4-1, with the fields of R97. -/
structure PcieFunction where
  vendorId : Nat := 0x1F9B
  deviceId : Nat := 0x3264
  classCode : Nat := 0x088000
  revisionId : Nat
  subsysVendorId : Nat := 0x1F9B
  subsysId : Nat := 0x0001
  maxPayload : Nat := 256
  outstanding : Nat := 32
  msixVectors : Nat := 32
  /-- Function-level reset, advertised in Device Capabilities; Advanced Error Reporting. -/
  flr : Bool := true
  aer : Bool := true
  deriving DecidableEq, Repr

/-- Max Read Request Size used: the programmed one, at most 512 B. -/
def maxReadRequest (programmed : Nat) : Nat := min programmed 512

/-- The function; the Revision ID equals HW_REV[7:0]. -/
def State.pcie (s : State) : PcieFunction := { revisionId := s.rfld Reg.HW_REV 0 8 }

/-- The fields of the configuration header that R97 gives, at their offsets in a type 0 header (PRESUMED from the PCI Express Base Specification, log entry 60): offset, bytes. -/
def State.cfgHeader (s : State) : List (Nat × List Byte) :=
  let f := s.pcie
  [(0x00, leBytes 2 f.vendorId), (0x02, leBytes 2 f.deviceId), (0x08, leBytes 1 f.revisionId), (0x09, leBytes 3 f.classCode),
   (0x2C, leBytes 2 f.subsysVendorId), (0x2E, leBytes 2 f.subsysId)]

/-! ## Pages (R104-R110) -/

/-- A doorbell read is issued, or noted behind the one outstanding (R105). -/
def State.dbRead (s : State) : State :=
  if !s.pagesOn || !s.hif.linkUp || s.hif.dbOut then s
  else ((s.updHif (fun h => { h with dbOut := true })).bump Reg.HIF_DB_READ_CNT).emitOut .dbRead

/-- The node accepts HIF set-up: it is past its self-test (R76). -/
def State.hifReady (s : State) : Bool := decide (Node.setup ≤ s.mgmt)

def State.dbPage (s : State) : U64 := s.pair Reg.HIF_DBPAGE_LO Reg.HIF_DBPAGE_HI

/-- NODE_IDX, one word per ring; ring 31's is zero (Table 4-3). -/
def State.nodeIdx (s : State) : List Byte :=
  (List.range 32).flatMap (fun n => if n = 31 then zeros 4 else leBytes 4 (s.reg (Reg.RING_NODE_IDX n)).toNat)

/-- PAGES_EN goes to 1: the page gets its NODE_IDX words, and the heartbeat starts from 0 (Table 4-3), or the write is refused (R108). CFG_ERR clears with the next accepted PAGES_EN or a reset of HIF: R108 and R138 only say what sets it (DESIGN CHOICE, log entry 64). All 32 words of NODE_IDX are written here, and none as ENABLE moves an index to RING_START; the spec gives only the write after an entry or a consumption (DESIGN CHOICE, log entry 80). -/
def State.pagesEnable (s : State) : State :=
  if s.pagesOn then s
  else if s.dbPage = s.pair Reg.HIF_STATPAGE_LO Reg.HIF_STATPAGE_HI then
    (s.setRegBit Reg.HIF_STATUS 8 true).ignored Reg.HIF_CTL Why.condition
  else
    let s := (s.setReg Reg.HIF_CTL 1).setRegBit Reg.HIF_STATUS 0 true
    let s := (s.setRegBit Reg.HIF_STATUS 8 false).updHif (fun h => { h with heartbeat := 0 })
    if s.hif.linkUp then s.emitOut (.hostWrite s.statPage s.nodeIdx) else s

def State.pagesDisable (s : State) : State := (s.setReg Reg.HIF_CTL 0).setRegBit Reg.HIF_STATUS 0 false

/-- Fields 0x080 to 0x09F of the status page (Table 4-3). -/
def State.pageFields (s : State) : List Byte :=
  leBytes 8 s.hif.heartbeat.toNat ++ leBytes 8 s.inlet.isn.toNat ++ leBytes 4 s.backlogFill ++ leBytes 4 s.backlogCap
    ++ leBytes 2 s.cfgEpoch ++ [BitVec.ofNat 8 s.mgmt, BitVec.ofNat 8 s.nodeId, BitVec.ofNat 8 s.holderCode,
      s.ws.quality.zeroExtend 8] ++ zeros 2

/-- The millisecond of the heartbeat and the status page (R109, R110). -/
def State.pageTick (s : State) : State :=
  let s := if s.hif.beating then s.updHif (fun h => { h with heartbeat := h.heartbeat + 1 }) else s
  if s.pagesOn && s.hif.linkUp then s.emitOut (.statusPage s.pageFields) else s

/-! ## Doorbell data (R105, R107, R111) -/

/-- Entries of a retained ring that are kept and stand in the ring. -/
def State.heldIn (s : State) (n : Nat) : Nat :=
  if n = 1 then s.hif.kept.length - s.hif.unwritten
  else if n = 7 then s.spawn.kept.length - s.spawn.unwritten
  else ((s.outlet.backlog.filter (fun b => b.ev.prio == n - 2)).map (fun b => b.written - b.consumed)).sum

/-- Entries of a retained ring that the host has consumed are freed. -/
def State.freed (s : State) (n k : Nat) : State :=
  if n = 1 then s.updHif (fun h => { h with kept := h.kept.drop k })
  else if 2 ≤ n && n ≤ 5 then s.eventsConsumed n k
  else if n = 7 then s.updSpawn (fun p => { p with kept := p.kept.drop k })
  else s

/-- One ring's doorbell entry: RING_HOST_IDX shows it, and a ring that is served goes by it while it lies within the ring's bounds. -/
def State.doorbell (s : State) (n : Nat) (h : U32) : State :=
  let s := s.setReg (Reg.RING_HOST_IDX n) h
  if !s.ringActive n then s
  else
    let node := s.reg (Reg.RING_NODE_IDX n)
    if isHostToNode n then
      if s.ringSize n < (h - node).toNat then s.ringError n 1 else s.setHostIdx n h
    else
      let ahead := (h - node).toNat
      if 1 ≤ ahead && decide (ahead ≤ 2 ^ 31) then s.ringError n 2
      else
        let k := (node - s.hostIdx n).toNat - (node - h).toNat
        -- Entries that an earlier run left in the ring are kept no longer: they free nothing.
        let stale := s.ringUsed n - s.heldIn n
        (s.setHostIdx n h).freed n (k - stale)

/-- Fetches that the rings' indices make possible. -/
def State.fetchAll (s : State) : State := (List.range 31).foldl State.fetchMore s

/-- Doorbell data arrive, or the read fails. -/
def State.doorbells (s : State) (rsp : DoorbellRsp) : State :=
  if !s.hif.dbOut then s else
  let s := (s.updHif (fun h => { h with dbOut := false })).recordMax Reg.HIF_DB_LAT_MAX rsp.latNs
  let s :=
    if !rsp.ok then (s.bump Reg.HIF_DB_ERR_CNT).raise Reg.HIF_EVT 1
    else if !s.pagesOn then s
    else ((List.range 31).foldl (fun s n => s.doorbell n (rsp.idx.getD n 0)) s).fetchAll
  if s.hif.kick then (s.updHif (fun h => { h with kick := false })).dbRead else s

/-! ## Descriptors (R105, R119, R137) -/

/-- A fetched descriptor arrives; a failed read of ring memory stops the ring. -/
def State.arrive (s : State) (n : Nat) (data : Image) : State :=
  let k := Sparse.get 0 s.hif.fetching n
  if !isHostToNode n || k = 0 then s else
  let s := s.updHif (fun h => { h with fetching := Sparse.set 0 h.fetching n (k - 1) })
  match data with
  | none => s.ringError n 3
  | some l => s.updHif (fun h => { h with fetched := h.fetched ++ [(n, fit (entrySize n) l)] })

/-! ## Enabling and disabling (R127, R128) -/

/-- Kept entries of a retained ring are written again (R111). -/
def State.redeliver (s : State) (n : Nat) : State :=
  if n = 1 then s.updHif (fun h => { h with unwritten := h.kept.length })
  else if 2 ≤ n && n ≤ 5 then s.eventsRewrite n
  else if n = 7 then s.updSpawn (fun p => { p with unwritten := p.kept.length })
  else s

/-- The node starts serving an enabled ring. With RING_SIZE out of range it enters ERROR instead, and takes neither the index nor ACTIVE: R127 does not order its three acts (DESIGN CHOICE, log entry 64). -/
def State.ringStart (s : State) (n : Nat) : State :=
  if !inRange 6 16 (s.rfld (Reg.RING_SIZE n) 0 5) then s.ringError n 4
  else
    let i := s.reg (Reg.RING_START n)
    let s := ((s.setReg (Reg.RING_NODE_IDX n) i).setHostIdx n i).setRegBit (Reg.RING_STATUS n) 0 true
    (s.updHif (fun h => { h with unsig := Sparse.set 0 h.unsig n 0 })).redeliver n

/-- The node stops serving a ring: prefetched descriptors that nothing has taken are discarded, and its error is cleared. -/
def State.ringStop (s : State) (n : Nat) : State :=
  (s.setReg (Reg.RING_STATUS n) (s.reg (Reg.RING_STATUS n) &&& 2)).updHif (fun h => { h with
    fetched := h.fetched.filter (fun d => d.1 != n), fetching := Sparse.set 0 h.fetching n 0 })

/-- A write to RING_CTL (Table 4-12). -/
def State.ringCtl (s : State) (n : Nat) (v : U32) : State :=
  let was := s.rbit (Reg.RING_CTL n) 0
  let en := bitAt v 0
  let put := fun (s : State) => s.setReg (Reg.RING_CTL n) (v &&& 0x1F07)
  if en && !was then
    if !s.pagesOn || !s.hifReady then s.ignored (Reg.RING_CTL n) Why.condition else (put s).ringStart n
  else if was && !en then (put s).ringStop n
  else put s

/-! ## Resets of HIF (R34, R51, R99, R129) -/

/-- Registers and MSI-X return to their reset values, the prefetch quotas with them, the two counts and the link's state excepted; what the node keeps or has taken stays. -/
def State.hifReset (s : State) : State :=
  let hif := fun (o : Off) => (decide (0x1000 ≤ o) && decide (o < 0x1900)) || (decide (0x3000 ≤ o) && decide (o < 0x3900))
  let keep := fun (o : Off) => o == Reg.HIF_FLR_CNT || o == Reg.HIF_LINKDOWN_CNT || o == Reg.HIF_STATUS
  let s := { s with regs := s.regs.filter (fun c => !hif c.1 || keep c.1),
                    latch := s.latch.filter (fun c => !hif c.1), hold := s.hold.filter (fun c => !hif c.1) }
  (s.setReg Reg.HIF_STATUS (s.reg Reg.HIF_STATUS &&& 0xFE)).updHif (fun h => { h with
    fetched := [], fetching := [], dbOut := false, kick := false, unsig := [], hostIdx := [], prefetch := [], prefetchCut := [], unwritten := 0, heartbeat := 0 })

/-- The link goes down. -/
def State.linkLost (s : State) : State :=
  ((s.hifReset.setRegFld Reg.HIF_STATUS 1 7 0).bump Reg.HIF_LINKDOWN_CNT).updHif (fun h => { h with linkUp := false })

/-- The link trains, and the function is in D0 (R34, R96). -/
def State.linkTrain (s : State) (speed width : Nat) : State :=
  ((s.setRegFld Reg.HIF_STATUS 1 3 speed).setRegFld Reg.HIF_STATUS 4 4 width).updHif (fun h => { h with linkUp := true, d3hot := false })

/-! ## Single writes -/

/-- HIF_KICK: a doorbell read, or one more behind the read that is outstanding (R105). -/
def State.kickNow (s : State) : State :=
  let s := s.bump Reg.HIF_KICK_CNT
  if s.hif.dbOut && s.pagesOn then s.updHif (fun h => { h with kick := true }) else s.dbRead

/-- A vector is unmasked: a message that was held is sent (R125). -/
def State.unmask (s : State) (vec : Nat) : State :=
  let s := s.setRegBit (Reg.MSIX vec 3) 0 false
  if s.rbit (Reg.MSIX_PBA 0) vec then (s.setRegBit (Reg.MSIX_PBA 0) vec false).emitOut (.msix vec) else s

/-- HIF_CTL (R108, R138). -/
def State.hifCtl (s : State) (v : U32) : State := if bitAt v 0 then s.pagesEnable else s.pagesDisable

/-- FLUSH in LEG_EVT_CTL (R134); the window is there while effective FMODE is on (R87). -/
def State.legFlush (s : State) : State :=
  if s.fmodeOn then s.updOutlet (fun o => { o with legFifo := [] }) else s.ignored Reg.LEG_EVT_CTL Why.cmdState

/-! ## The steps -/

def execHifKick (_v : U32) (s : State) : Host.Outcome State Fault Refusal :=
  .next (s.fresh.fromSetup Reg.HIF_KICK Why.cmdState State.kickNow)

def execDoorbellPoll (s : State) : Host.Outcome State Fault Refusal := .next s.fresh.dbRead

def execDoorbellCompletion (rsp : DoorbellRsp) (s : State) : Host.Outcome State Fault Refusal :=
  .next (s.fresh.doorbells rsp)

def execDescriptorArrival (ring : Nat) (data : Image) (s : State) : Host.Outcome State Fault Refusal :=
  need (decide (ring < 31)) (s.fresh.arrive ring data)

def execPagesEnSet (s : State) : Host.Outcome State Fault Refusal :=
  .next (s.fresh.fromSetup Reg.HIF_CTL Why.condition State.pagesEnable)

def execPagesEnClear (s : State) : Host.Outcome State Fault Refusal :=
  .next (s.fresh.fromSetup Reg.HIF_CTL Why.condition State.pagesDisable)

def execRingEnable (ring : Nat) (ctl : U32) (s : State) : Host.Outcome State Fault Refusal :=
  need (decide (ring < 31)) (s.fresh.fromSetup (Reg.RING_CTL ring) Why.condition (fun s => s.ringCtl ring (setBit ctl 0 true)))

def execRingDisable (ring : Nat) (ctl : U32) (s : State) : Host.Outcome State Fault Refusal :=
  need (decide (ring < 31)) (s.fresh.fromSetup (Reg.RING_CTL ring) Why.condition (fun s => s.ringCtl ring (setBit ctl 0 false)))

def execStatusPageUpdate (s : State) : Host.Outcome State Fault Refusal := .next s.fresh.pageTick

/-- The oldest unsignalled entry has reached RING_MOD_TIME. -/
def execRingModerationTimeout (ring : Nat) (s : State) : Host.Outcome State Fault Refusal :=
  let s := s.fresh
  need (decide (ring < 31)) (if s.rbit (Reg.RING_CTL ring) 1 && Sparse.get 0 s.hif.unsig ring != 0 then
    (s.updHif (fun h => { h with unsig := Sparse.set 0 h.unsig ring 0 })).sendVector (s.rfld (Reg.RING_CTL ring) 8 5)
  else s)

def execMsixVectorUnmask (vec : Nat) (s : State) : Host.Outcome State Fault Refusal :=
  need (decide (vec < 32)) (s.fresh.fromSetup (Reg.MSIX vec 3) Why.condition (fun s => s.unmask vec))

def execFlr (s : State) : Host.Outcome State Fault Refusal := .next (s.fresh.hifReset.bump Reg.HIF_FLR_CNT)

def execPerstNAssert (s : State) : Host.Outcome State Fault Refusal := .next s.fresh.linkLost

def execLinkDown (s : State) : Host.Outcome State Fault Refusal :=
  .next (if s.hif.linkUp then s.fresh.linkLost else s.fresh)

def execD3hotEntry (s : State) : Host.Outcome State Fault Refusal :=
  let s := s.fresh
  .next ((if s.hif.linkUp then s.linkLost else s).updHif (fun h => { h with d3hot := true }))

def execLinkUp (speed width : Nat) (s : State) : Host.Outcome State Fault Refusal :=
  need (inRange 1 3 speed && inRange 1 2 width)
    (if s.hif.linkUp then s.fresh else s.fresh.linkTrain speed width)

/-- A read of LEG_EVT_W0 latches the head entry; with the FIFO empty all four words read zero (R134). -/
def State.legW0Read (s : State) : State :=
  let e := if s.fmodeOn then s.outlet.legFifo.headD [0, 0, 0, 0] else [0, 0, 0, 0]
  { s.updOutlet (fun o => { o with legLatch := e }) with hostRead := e.getD 0 0 }

/-- A read of LEG_EVT_W3 removes it (R134). -/
def State.legW3Read (s : State) : State :=
  { s.updOutlet (fun o => { o with legFifo := o.legFifo.drop 1 }) with
    hostRead := if s.fmodeOn then s.outlet.legLatch.getD 3 0 else 0 }

def execLegEvtW0Read (s : State) : Host.Outcome State Fault Refusal := .next s.fresh.legW0Read

def execLegEvtW3Read (s : State) : Host.Outcome State Fault Refusal := .next s.fresh.legW3Read

def execLegFlush (s : State) : Host.Outcome State Fault Refusal :=
  .next (s.fresh.fromSetup Reg.LEG_EVT_CTL Why.cmdState State.legFlush)

end Sys2Proof.Machine
end

