-- ==== Sys2Proof/Machine/Capture.lean ====
section
/-! DEFINITION. Spawn's captures: SPAWN_CTL and SPAWN_TRIGGER, snapshots, checkpoints, the frozen window and the units on SPAWN_OUT (R326-R342). -/

namespace Sys2Proof.Machine

/-! ## Units (R339) -/

/-- A unit joins those that wait for SPAWN_OUT; the numbering of buffers starts with the first of a capture. -/
def State.pushUnit (s : State) (u : SpawnUnit) : State :=
  s.updSpawn (fun p => { p with units := p.units ++ [{ u with restart := !p.numbered }], numbered := true })

/-- A unit abandoned: its final buffer carries ERR and what is left of it is dropped. -/
def SpawnUnit.abandon (u : SpawnUnit) : SpawnUnit := { u with bytes := [], closed := true, err := true, snap := none }

/-- Units of a capture that ends or fails: snapshots, open CKPT units and a window being streamed. -/
def State.abandonUnits (s : State) (f : SpawnUnit → Bool) : State :=
  s.updSpawn (fun p => { p with units := p.units.map (fun u => if f u then u.abandon else u) })

/-- Bytes 0x08-0x0F of the posted descriptor (Table 4-4). -/
def SpawnBuf.desc (b : SpawnBuf) : List Byte := leBytes 2 b.len ++ leBytes 2 b.dflags.toNat ++ leBytes 4 b.info.toNat

/-- The mark whose state is staged. -/
def Spawn.stagedIsn (p : Spawn) : Option U64 := p.staging.map (fun x => x.2.2.2)

/-- The unit is the snapshot whose state is staged, not one of a capture before it. -/
def Spawn.isSnap (p : Spawn) (u : SpawnUnit) : Bool := u.snap.isSome && u.snap == p.stagedIsn

/-- A snapshot unit has left whole: commands are taken again when it is the present snapshot's (step 5 of Table 11-4). -/
def State.snapshotSent (s : State) (isn : U64) : State :=
  let now := s.spawn.stagedIsn == some isn
  let s := (s.updSpawn (fun p => { p with goodMarks := p.goodMarks ++ [isn] })).bump Reg.SPAWN_SNAP_CNT
  if !now then s else
  let s := (s.updSpawn (fun p => { p with staging := none, snapping := false })).setRegBit Reg.SPAWN_STATUS 5 false
  if s.capState = Cap.snapshot then s.setCap Cap.recording else s

/-- What the end of a unit does to its capture. -/
def State.unitSent (s : State) (u : SpawnUnit) : State :=
  if u.err then s
  else match u.snap with
    | some isn => s.snapshotSent isn
    | none => if u.kind = 3 then (s.setCap Cap.done).splitApply else s

/-- A buffer written before, and not consumed, is written again (R111). -/
def State.rewriteBuf (s : State) (addr : Nat) : State :=
  match s.spawn.kept[s.spawn.kept.length - s.spawn.unwritten]? with
  | none => s
  | some b => (s.updSpawn (fun p => { p with unwritten := p.unwritten - 1 })).postBuffer 7 (some addr) b.desc b.data

/-- The next buffer of the unit that is being streamed. -/
def State.writeBuf (s : State) (addr : Nat) : State :=
  match s.spawn.units with
  | [] => s
  | u :: rest =>
    match s.spawn.nextBuffer u with
    | none => s
    | some (data, last, p, v) =>
      let again := u.restart && u.first
      let seq := if again then 1 else p.seq + 1
      let flags := b2n last + 2 * b2n (last && u.err) + 4 * u.kind + 32 * b2n u.first
      let b : SpawnBuf := { len := data.length, dflags := BitVec.ofNat 16 flags, info := seq, data := data }
      let s := { s with spawn := { p with units := if last then rest else { v with first := false } :: rest,
                                          seq := seq, kept := p.kept ++ [b] } }
      let n := (if again then 0 else s.pair Reg.SPAWN_BYTES_LO Reg.SPAWN_BYTES_HI) + BitVec.ofNat 64 data.length
      let s := (s.setPair Reg.SPAWN_BYTES_LO Reg.SPAWN_BYTES_HI n).postBuffer 7 (some addr) b.desc b.data
      if last then s.unitSent u else s

/-! ## Captures (R329, R333, R341) -/

/-- MiB of the Spawn share (R506). -/
def State.spawnShare (s : State) : Nat := 18 - s.hif.elasticNow

/-- A capture starts: its area is set, the ring is empty, and its mark is asked for. -/
def State.startCapture (s : State) (mode : Nat) (d : Desc) : State :=
  let s := if d.arg 0xA 2 = 0 then s else s.setRegFld Reg.SPAWN_CFG 0 12 (d.arg 0xA 2)
  let s := if mode = 2 then (s.setRegFld Reg.SPAWN_CFG 12 7 (d.arg 9 1)).setRegFld Reg.SPAWN_TRIG_CFG 0 16 (d.arg 0xC 2) else s
  let share := s.spawnShare
  let setup := s.mgmt == Node.setup
  let s := s.setReg Reg.SPAWN_RING_SIZE (BitVec.ofNat 32 (share * 2 ^ 20 - stagingSize))
  let s := (s.setReg Reg.SPAWN_CKPT_NO 0).setPair Reg.SPAWN_BYTES_LO Reg.SPAWN_BYTES_HI 0
  let s := s.updSpawn (fun p => { p with
    armedInSetup := setup, markWanted := !setup, snapping := false, staging := none, journaling := false, ring := [],
    torn := false, behind := [], post := 0, triggered := false, numbered := false, ckptNo := 0, ckptDue := none, ckptSnap := false,
    share := share, wrote := 0, goodMarks := [] })
  let s := (s.setRegFld Reg.SPAWN_STATUS 0 2 mode).setCap (if setup then Cap.armed else Cap.snapshot)
  s.setRegBit Reg.SPAWN_STATUS 5 (!setup)

/-- FUNC 0: the journal unit ends with LAST, everything else of the capture that is being streamed with ERR. -/
def State.stopCapture (s : State) : State :=
  let s := s.abandonUnits (fun u => u.snap.isSome || u.kind == 3 || (u.kind == 2 && !u.closed))
  let s := if s.capMode = 1 then s.updSpawn Spawn.endJournal else s
  let s := { s with spawn := { s.spawn.closeJournal with
    armedInSetup := false, snapping := false, staging := none, triggered := false, post := 0 } }
  (s.setRegFld Reg.SPAWN_STATUS 0 6 0).splitApply

/-- A trigger entry's point, COND and reserved bits (Table 11-11). -/
def trigEntryOk (t : U32) : Bool := decide (fld t 0 17 ≤ 81919) && fld t 17 2 != 3 && fld t 19 13 == 0

/-- A WINDOW unit is still being streamed. -/
def State.windowStreaming (s : State) : Bool := s.spawn.units.any (fun u => u.kind == 3)

def State.spawnCtl (s : State) (img : Image) (d : Desc) : State :=
  let f := d.arg 8 1
  if decide (3 < f) || !d.resv 0x18 40 then s.done d Status.badArg
  else match f with
    | 0 => s.stopCapture.done d Status.ok
    | 3 =>
      let n := d.arg 0xE 2
      match if n = 0 then (if d.aligned 0x10 then some [] else none)
            else if d.aligned 0x10 then img.map (fit (4 * n)) else none with
      | none => s.done d Status.badArg
      | some l =>
        let es := (chunks 4 l).map (u32At · 0)
        if decide (256 < n) || !es.all trigEntryOk then s.done d Status.badArg
        else ((s.updSpawn (fun p => { p with trigTable := es })).setRegFld Reg.SPAWN_TRIG_CFG 16 9 n).done d Status.ok
    | _ =>
      if decide (3600 < d.arg 0xA 2) || (f = 2 && (decide (100 < d.arg 9 1) || d.arg 0xC 2 / 8 % 32 != 0)) then
        s.done d Status.badArg
      else if s.spawnShare < 4 then s.done d Status.quota
      else if s.capturing || (f = 2 && s.windowStreaming) then s.done d Status.busy
      else (s.startCapture f d).done d Status.ok

/-- SPAWN_TRIGGER (R342). -/
def State.spawnTrigger (s : State) (d : Desc) : State :=
  let recording := s.capMode == 2 && s.spawn.journaling && s.rbit Reg.SPAWN_TRIG_CFG 2
  if !recording then s.done d Status.state
  else if s.spawn.triggered then (s.trigger s.inlet.isn).done d Status.busy
  else (s.trigger s.inlet.isn).done d Status.ok s.inlet.isn

/-! ## Snapshots (R330-R332) -/

/-- Gecko offers the mark, once every admitted change of configuration has been applied (step 2 of Table 11-4). -/
def State.markOffer (s : State) : State :=
  if s.mgmt != Node.run || !s.spawn.markWanted || s.markWaits || !s.inlet.barriers.isEmpty || s.inlet.cmds.any CmdUnit.cfg then s
  else (s.updSpawn (fun p => { p with markWanted := false, snapping := true })).offer Place.gecko
    { time := s.now, source := mkSource 8 0, kind := Kind.mark }

/-- The regions of a snapshot (Table 11-6), with the source engine's state as it was staged. -/
def State.snapRegions (s : State) (pts : Region PtState) (grs : Region GrState) : List (Nat × List Byte) :=
  let half := fun g => grs.bytes GrState.bytes 40 g 1
  [(1, s.tarnRead Tarn.POINT_CFG 5242880), (2, pts.bytes PtState.bytes 32 0 81920),
   (3, (List.range 256).flatMap (fun g => s.tarnRead (Tarn.GROUPS + 256 * g) 0xB0 ++ half g ++ zeros 40)),
   (4, s.tarnRead Tarn.CHANDEF 16384), (5, s.tarnRead Tarn.FANOUT 1048576), (6, s.tarnRead Tarn.LINTAB 131072),
   (7, s.tarnRead Tarn.CAN_FILT 262144), (8, s.tarnRead Tarn.CAN_SIG 524288),
   (9, s.rwsList.flatMap (fun r => leBytes 4 r.1 ++ leBytes 4 r.2.toNat))]

/-- A section: its header (Table 11-5) and its data. -/
def sectionBytes (e : EngineId) (isn : U64) (code : Nat) (data : List Byte) : List Byte :=
  [BitVec.ofNat 8 code, BitVec.ofNat 8 (engNo e)] ++ zeros 2 ++ leBytes 4 data.length ++ leBytes 4 (fld isn 0 32)
    ++ leBytes 4 (crc32 data).toNat ++ data

/-- The state is staged: the snapshot unit can be streamed, and in CONTINUOUS mode the journal unit behind it. -/
def State.copyComplete (s : State) : State :=
  match s.spawn.staging with
  | none => s
  | some (e, pts, grs, isn) =>
    if s.spawn.units.any s.spawn.isSnap then s else
    let l := (s.snapRegions pts grs).flatMap (fun r => sectionBytes e isn r.1 r.2)
    let s := s.pushUnit { kind := 0, bytes := l, snap := some isn, closed := true }
    if s.capMode = 1 then s.pushUnit { kind := 1 } else s

/-- SNAP_TIMEOUT passes: the unit ends with ERR, and a CONTINUOUS capture with it (R332). -/
def State.snapExpire (s : State) : State :=
  if !s.snapUnderWay then s else
  let had := s.spawn.units.any s.spawn.isSnap
  let s := s.abandonUnits s.spawn.isSnap
  let s := if had then s else s.pushUnit { kind := 0, closed := true, err := true }
  let s := s.updSpawn (fun p => { p with
    staging := none, snapping := false, markWanted := false,
    units := p.units.map (fun u => if u.kind = 2 && !u.closed then { u with closed := true } else u) })
  let s := ((s.setRegBit Reg.SPAWN_STATUS 5 false).raise Reg.SPAWN_EVT 4).bump Reg.SPAWN_SNAP_FAIL_CNT
  if s.capMode = 1 then
    -- No byte of this capture's journal has left: the host holds no snapshot to read it with.
    ((s.updSpawn (fun p => { p with units := p.units.filter (fun u => u.kind != 1 || u.closed), ring := [], behind := [], journaling := false,
                                    ckptDue := none })).setRegFld Reg.SPAWN_STATUS 0 6 0).splitApply
  else if s.capState = Cap.snapshot then s.setCap Cap.recording else s

/-! ## Checkpoints (R326-R328, R335) -/

/-- A CHECKPOINT record (Tables 11-1, 11-2). -/
def ckptRecord (isn time tickNo : U64) (no : U16) (e : EngineId) (differ : Bool) (hashes : List U64) (part : Nat) : List Byte :=
  InRec.bytes { isn := isn, time := time, source := mkSource 8 1, ssn := no, kind := Kind.checkpoint,
                payload := BitVec.ofNat 64 (part + 3 * 2 ^ 8 + engNo e * 2 ^ 16 + b2n differ * 2 ^ 24 + fld tickNo 0 32 * 2 ^ 32),
                ext := ((hashes.drop (8 * part)).take 8).flatMap (fun h => leBytes 8 h.toNat) }

/-- The engines have produced different hashes at the checkpoint. -/
def State.hashesDiffer (s : State) : Bool := s.bothServe && s.aeA.hashes.take 22 != s.aeB.hashes.take 22

/-- The window is full before its checkpoint's snapshot has begun: none is taken, and CTRL takes commands again. -/
def State.ckptGiveUp (s : State) : State :=
  if s.spawn.ckptSnap then (s.updSpawn (fun p => { p with ckptSnap := false })).setRegBit Reg.SPAWN_STATUS 5 false else s

/-- A WINDOW capture's snapshot and CKPT unit at a checkpoint (R335). -/
def State.ckptSnapshot (s : State) (recs : List Byte) : State :=
  if s.capMode != 2 then s
  else if s.windowFull then s.ckptGiveUp
  else if !s.spawn.ckptSnap then (s.pushUnit { kind := 2, bytes := recs, closed := true }).bump Reg.SPAWN_SNAP_SKIP_CNT
  else (s.updSpawn (fun p => { p with ckptSnap := false, markWanted := true })).pushUnit { kind := 2, bytes := recs }

/-- The records that wait behind a checkpoint enter the ring. -/
def State.putBehind (s : State) : State :=
  s.spawn.behind.foldl (fun s b => s.ringPut b) (s.updSpawn (fun p => { p with behind := [] }))

/-- The three CHECKPOINT records of a TICK that every engine in service has evaluated. -/
def State.takeCkpt (s : State) : State :=
  match s.spawn.ckptDue, s.sourceEng with
  | some (isn, time, tick), some e =>
    if s.mgmt != Node.run || !s.servers.all (fun e => decide (isn.toNat ≤ (s.eng e).evalIsn.toNat)) then s else
    let s := s.updSpawn (fun p => { p with ckptDue := none })
    -- A window that its TICK has filled takes no more; one filled by a record behind it takes its CHECKPOINT records first.
    if !s.spawn.journaling || (s.windowFull && s.spawn.behind.isEmpty) then s.putBehind.ckptGiveUp else
    let differ := s.hashesDiffer
    let no := s.spawn.ckptNo + 1
    let recs := (List.range 3).map (ckptRecord isn time tick no e differ (s.eng e).hashes)
    let after := decide ((s.pair Reg.SPAWN_TRIG_ISN_LO Reg.SPAWN_TRIG_ISN_HI).toNat ≤ isn.toNat)
    let s := recs.foldl (fun s b => s.ringPut b) (s.updSpawn (fun p => { p with ckptNo := no }))
    let s := if after then s.countPost recs.flatten.length else s
    let s := s.setReg Reg.SPAWN_CKPT_NO (no.zeroExtend 32)
    let s := if differ then (s.raise Reg.SPAWN_EVT 8).bump Reg.SPAWN_CKPT_DIFF_CNT else s
    (s.putBehind).ckptSnapshot recs.flatten
  | _, _ => s

/-! ## The frozen window (R337) -/

/-- The window has its post-trigger bytes, and none of its records waits behind a checkpoint: the ring freezes and is streamed from its oldest complete record. -/
def State.freeze (s : State) : State :=
  if s.capState != Cap.postTrigger || !s.windowFull || !s.spawn.behind.isEmpty then s else
  let whole := if s.spawn.torn then s.spawn.ring.drop 1 else s.spawn.ring
  let s := s.pushUnit { kind := 3, bytes := whole.flatten, closed := true }
  (s.setCap Cap.frozen).raise Reg.SPAWN_EVT 2

/-- SPAWN_STATUS.NO_MARK: no mark of the frozen window has a snapshot that left without ERR (R338). -/
def State.noMark (s : State) : Bool :=
  (s.capState == Cap.frozen || s.capState == Cap.done) && s.capMode == 2 &&
    !(if s.spawn.torn then s.spawn.ring.drop 1 else s.spawn.ring).any (fun b =>
      byteAt b 0x14 == Kind.mark && s.spawn.goodMarks.contains (u64At b 0))

/-! ## The steps -/

def execSpawnCtl (img : Image) (s : State) : Host.Outcome State Fault Refusal :=
  .next (s.fresh.dirCmd 0x50 (fun d s => s.spawnCtl img d))

def execSpawnTrigger (s : State) : Host.Outcome State Fault Refusal :=
  .next (s.fresh.dirCmd 0x51 (fun d s => s.spawnTrigger d))

def execSnapshotMarkOffer (s : State) : Host.Outcome State Fault Refusal := .next s.fresh.markOffer

def execSnapshotCopyComplete (s : State) : Host.Outcome State Fault Refusal := .next s.fresh.copyComplete

def execSnapTimeout (s : State) : Host.Outcome State Fault Refusal := .next s.fresh.snapExpire

/-- SPAWN_OUT's next buffer, at the address that its slot's ADDR names; a failed read of ADDR leaves it waiting and the ring in ERROR. -/
def State.spawnOut (s : State) (addr : Option Nat) : State :=
  if s.ringCredit 7 = 0 || !s.bufReady then s
  else match addr with
    | none => s.postBuffer 7 none [] []
    | some a => if s.spawn.unwritten ≠ 0 then s.rewriteBuf a else s.writeBuf a

/-- `addr` is what the read of ADDR from the ring's slot brought (R116): `none` when it failed, 0 where the sender names none. -/
def execSpawnOutBufferWrite (s : State) (addr : Option Nat := some 0) : Host.Outcome State Fault Refusal :=
  .next (s.fresh.spawnOut addr)

def execCheckpoint (s : State) : Host.Outcome State Fault Refusal := .next s.fresh.takeCkpt

def execWindowFreeze (s : State) : Host.Outcome State Fault Refusal := .next s.fresh.freeze

end Sys2Proof.Machine
end

