-- ==== Sys2Proof/Machine/Housekeeping.lean ====
section
/-! DEFINITION. Gecko's background work: scrubbing and ECC errors (R494-R498), the settings journal and base generations (R500-R502), the rewrite of the digest (R91) and telemetry (R503). -/

namespace Sys2Proof.Machine

def State.updGecko (s : State) (f : Gecko → Gecko) : State := { s with gecko := f s.gecko }

/-- Gecko runs: from SETUP on, but for the activation pause. -/
def State.geckoRuns (s : State) : Bool := decide (Node.setup ≤ s.mgmt) && s.mgmt != Node.activating

/-! ## Single-bit errors (R494, R495) -/

/-- Line of a Tarn offset, and its bank (R492). -/
def lineOf (o : Off) : Nat := o / 128
def bankOf (o : Off) : Nat := lineOf o % 16

/-- A read finds a single-bit error in a word: corrected and counted. -/
def State.ceFound (s : State) (w : Off) : State :=
  let b := bankOf w
  let s := ((s.bump (Reg.TARN_BANK_CE_CNT b)).bump Reg.TARN_CE_TOTAL_CNT).setReg (Reg.TARN_BANK_LAST_CE b) (BitVec.ofNat 32 w)
  (s.updGecko (fun g => { g with ceSince := g.ceSince + 1 })).raise Reg.TARN_EVT 1

/-- A reader meets a single-bit error: its line is scrubbed at the bank's next slot. -/
def State.correctedError (s : State) (o : Off) : State :=
  let w := o / 8 * 8
  let s := s.ceFound w
  s.updGecko (fun g => { g with
    ceWords := if g.ceWords.contains w then g.ceWords else g.ceWords ++ [w]
    scrubQ := if g.scrubQ.contains (bankOf w, lineOf w) then g.scrubQ else g.scrubQ ++ [(bankOf w, lineOf w)] })

/-- The scrubber reads a line: every word in error is corrected, counted, and written back in the bank's next slot. -/
def State.scrubLine (s : State) (b line : Nat) : State :=
  let ws := s.gecko.ceWords.filter (fun w => lineOf w == line)
  let s := ws.foldl State.ceFound s
  if ws.isEmpty then s else s.updGecko (fun g => { g with writeback := Sparse.insert g.writeback b line })

/-- Passes of the scrubber over the whole of Tarn, and the next line within each bank. -/
def Gecko.scrubMin (g : Gecko) : Nat := (List.range 16).foldl (fun m b => min m (Sparse.get 0 g.scrubAt b)) (Sparse.get 0 g.scrubAt 0)

/-- A scrub slot of a bank: the write-back of the line read before, a line that waits, or the next in turn. -/
def State.scrubSlot (s : State) (b : Nat) : State :=
  if !s.geckoRuns then s else
  match Sparse.find s.gecko.writeback b with
  | some line => s.updGecko (fun g => { g with
      writeback := Sparse.erase g.writeback b, ceWords := g.ceWords.filter (fun w => lineOf w != line) })
  | none =>
    match s.gecko.scrubQ.find? (fun q => q.1 == b) with
    | some q => (s.updGecko (fun g => { g with scrubQ := g.scrubQ.erase q })).scrubLine b q.2
    | none =>
      let n := Sparse.get 0 s.gecko.scrubAt b
      let was := s.gecko.scrubMin
      let s := s.updGecko (fun g => { g with scrubAt := Sparse.insert g.scrubAt b (n + 1) })
      let s := if was / 16384 < s.gecko.scrubMin / 16384 then s.updGecko (fun g => { g with passAt := s.frcNat }) else s
      s.scrubLine b (b + 16 * (n % 16384))

/-! ## Uncorrectable errors (R496, R497, Table 18-2) -/

/-- Gecko offers the ECC_FAULT record of a word. -/
def State.eccOffer (s : State) (w : Off) : State :=
  let r : InRec := { time := s.now, source := mkSource 8 0, kind := Kind.cmd, payload := cmdPayload 0xFF02 0 (w / 8) 1, ext := zeros 64 }
  if s.mgmt = Node.run || s.mgmt = Node.activating then s.offer Place.gecko r else s

/-- Entry to RUN: the engines' state regions are written afresh, and the repair of each damaged configuration word is offered (R94, R497). -/
def State.repairsDue (s : State) : State :=
  let s := s.updGecko (fun g => { g with ueWords := g.ueWords.filter eccConfig })
  s.gecko.ueWords.foldl State.eccOffer s

/-- A word that is repaired through a record, one for each word until its repair, reads as zero until then (R497). -/
def State.ueMark (s : State) (w : Off) : State :=
  if s.gecko.ueWords.contains w then s
  else (s.updGecko (fun g => { g with ueWords := g.ueWords ++ [w] })).eccOffer w

/-- An engine's damaged point record stands as UNKNOWN, without an event, until its record is admitted. -/
def State.ueState (s : State) (w : Off) : State :=
  match damagedAt w with
  | some (.point e p) => s.updEng e (fun x =>
      if x.pts.live then
        { x with pts := { x.pts with cells := Sparse.upd x.pts.dflt x.pts.cells p (fun y => { y with state := Pt.unknown }) } }
      else x)
  | _ => s

/-- The stream window: an engine that reads the damaged record from its Tarn area, as its next one, is failed (R273, Table 18-2). -/
def State.ueWindow (s : State) (w : Off) : State :=
  let slot := (w - Tarn.WINDOW) / 128
  match s.servers.find? (fun e => match s.headRec e with
      | some r => decide (4096 ≤ s.lag e) && r.isn.toNat % 12288 == slot && (s.inlet.stream.take 12288).contains r
      | none => false) with
  | some e => s.failEngine e 3
  | none => s

/-- An event with one 64-bit word zeroed; ESN, TYPE and ENGINE are restored. -/
def Event.zeroWord (v : Event) : Nat → Event
  | 0 => v
  | 1 => { v with time := 0 }
  | 2 => { v with pointId := 0, quality := 0, epoch := 0, stNew := 0, stOld := 0, sub := 0 }
  | _ => { v with value := 0, isnLo := 0, mac := 0 }

/-- The Outlet backlog: rebuilt from the other copy where one is held. -/
def State.ueBacklog (s : State) (o : Off) : State :=
  s.updOutlet (fun x => { x with backlog := x.backlog.map (fun b =>
    if b.place = o / 32 then
      match b.mismatch with
      | some m => { b with ev := { m with engine := b.ev.engine } }
      | none => { b with ev := b.ev.zeroWord (o % 32 / 8) }
    else b) })

/-- The Spawn share: the snapshot being built, or the journal or window unit, ends with ERR. -/
def State.ueSpawn (s : State) (o : Off) : State :=
  if o < stagingSize then s.snapExpire
  else
    let hit := fun (u : SpawnUnit) => u.kind == 1 || u.kind == 3
    if !s.spawn.units.any hit then s else
    let s := (s.abandonUnits hit).bump Reg.SPAWN_TRIG_LOST_CNT
    if s.capMode = 1 then (s.updSpawn Spawn.closeJournal).endContinuous.splitApply else (s.setCap Cap.done).splitApply

/-- Regions whose damaged words are zeroed: LILYPAD, STAGING and what is reserved. -/
def ueZeroed (w : Off) : Bool :=
  (decide (Tarn.LILYPAD ≤ w) && decide (w < Tarn.LINTAB)) || (decide (Tarn.TREND ≤ w) && decide (w < Tarn.WINDOW))
    || (decide (Tarn.WINDOW_END ≤ w) && decide (w < Tarn.ELASTIC))

/-- A trend entry with a damaged word becomes unused (R493, Table 18-2). -/
def State.ueTrend (s : State) (w : Off) : State :=
  let i := (w - Tarn.TREND) / 32
  if Tarn.TREND ≤ w && decide (w < Tarn.TREND + 0x20000) then
    (s.tarnStore (Tarn.TREND + 32 * i) (leBytes 4 0xFFFFFFFF)).updOutlet (fun o => { o with trendFresh := o.trendFresh.filter (· != i) })
  else s

/-- Where the Spawn share begins: that of the capture while one is armed (R333, R506). -/
def State.spawnBase (s : State) : Off := if s.capturing then s.shareBase else Tarn.ELASTIC + s.hif.elasticNow * 2 ^ 20

/-- The action of Table 18-2, with the region's bit in TARN_EVT. -/
def State.ueAct (s : State) (w : Off) : State :=
  if eccConfig w then (s.raise Reg.TARN_EVT 4).ueMark w
  else if (damagedAt w).isSome then ((s.raise Reg.TARN_EVT 8).ueState w).ueMark w
  else
    let s := s.raise Reg.TARN_EVT 0x10
    if ueZeroed w then (s.tarnStore w (zeros 8)).ueTrend w
    else if w < Tarn.WINDOW_END then s.ueWindow w
    else if w - Tarn.ELASTIC < s.hif.elasticNow * 2 ^ 20 then s.ueBacklog (w - Tarn.ELASTIC)
    else if s.spawnBase ≤ w then s.ueSpawn (w - s.spawnBase)
    else s

/-- A double-bit error is found in a word. -/
def State.uncorrectable (s : State) (o : Off) : State :=
  let w := o / 8 * 8
  let s := ((s.bump (Reg.TARN_BANK_UE_CNT (bankOf w))).bump Reg.TARN_UE_TOTAL_CNT).setReg Reg.TARN_UE_LAST (BitVec.ofNat 32 w)
  ((s.updGecko (fun g => { g with ueSince := g.ueSince + 1 })).raise Reg.TARN_EVT 2).ueAct w

/-! ## CTRL memory (R498) -/

def State.tcmScrub (s : State) (corrected : Nat) : State :=
  if !s.geckoRuns || corrected = 0 then s
  else ((s.updGecko (fun g => { g with ceSince := g.ceSince + corrected })).bumpBy Reg.HK_TCM_CE_CNT corrected).raise Reg.HK_EVT 1

/-! ## The digest in the slot store (R91) -/

/-- Ten quiet seconds after the last change: the slot record takes the digest of the present configuration. -/
def State.digestRewrite (s : State) : State :=
  match s.slotRecord with
  | none => s
  | some r =>
    if s.mgmt != Node.run || s.ss != Ss.valid || s.upd.state == 5 || !s.gecko.digestStale || !s.inlet.barriers.isEmpty
      || !s.gecko.journalQ.isEmpty then s
    else
      let s := s.writeSlot (patch (patch r 0x40 s.digest) 0x60 (leBytes 2 s.cfgEpoch))
      (s.updGecko (fun g => { g with digestStale := false })).setRegBit Reg.MGMT_SS_STATUS 9 true

/-! ## Telemetry (R503) -/

/-- QUOTA_STATUS. -/
def State.quotaStatus (s : State) : U32 :=
  packU32 [(b2n s.backlogOver, 0),
    (b2n (s.capturing && decide (18 - s.hif.elasticReq < s.spawn.share)), 1),
    (b2n s.trendOver, 2),
    (b2n ((List.range 8).any (fun n => s.canStat n CanStat.overQuota)), 3),
    (b2n ((List.range 31).any s.prefetchOver), 4)]

/-- Fill of a ring in %. -/
def State.ringPct (s : State) (n : Nat) : Byte :=
  if !s.ringActive n then 0 else
  let used := if isHostToNode n then (s.hostIdx n - s.reg (Reg.RING_NODE_IDX n)).toNat else s.ringUsed n
  BitVec.ofNat 8 (min 100 (100 * used / s.ringSize n))

/-- A count in a field of `n` bytes, saturating. -/
def satBytes (n x : Nat) : List Byte := leBytes n (min x (256 ^ n - 1))

/-- HKFLAGS. -/
def State.hkFlags (s : State) (hot : Bool) : Byte :=
  BitVec.ofNat 8 (b2n (s.quotaStatus != 0) + 2 * b2n s.gecko.saving.isSome + 4 * b2n (s.rbit Reg.HK_STATUS 2)
    + 8 * b2n (s.nvm.erases.any (fun c => decide (90000 ≤ c.2))) + 16 * b2n hot)

/-- A telemetry record (Table 18-4). -/
def State.telemRecord (s : State) (t : TelemEnv) (hot : Bool) : List Byte :=
  let g := s.gecko
  leBytes 8 s.now.toNat ++ leBytes 4 g.telemSeq.toNat ++ leBytes 2 t.dieTemp.toNat ++ leBytes 2 t.boardTemp.toNat
    ++ leBytes 2 (s.rfld Reg.HK_LV_A 0 16) ++ leBytes 2 (s.rfld Reg.HK_LV_B 0 16) ++ leBytes 2 t.rails.toNat
    ++ satBytes 2 g.ueSince ++ satBytes 4 g.ceSince ++ leBytes 4 s.backlogFill
    ++ leBytes 2 s.inletFill ++ satBytes 2 g.lagSince ++ leBytes 4 s.spawn.fill
    ++ [s.ringPct 2, s.ringPct 3, s.ringPct 4, s.ringPct 5] ++ [s.ringPct 0, s.ringPct 1, s.ringPct 6, s.ringPct 7]
    ++ satBytes 4 g.lossSince ++ satBytes 4 g.overrunSince ++ satBytes 4 (g.waitClocks / 1024)
    ++ [BitVec.ofNat 8 s.holderCode, BitVec.ofNat 8 s.mgmt, s.ws.quality.zeroExtend 8, s.hkFlags hot]

/-- A telemetry period ends: the measurements are taken, and TEMP_HIGH with them (R533); the record is written while EN is set. -/
def State.telemetry (s : State) (t : TelemEnv) : State :=
  if !s.geckoRuns then s else
  let hot := decide (700 < sext 16 t.boardTemp.toNat)
  let s := (s.setReg Reg.HK_LV_A (t.lvA.zeroExtend 32)).setReg Reg.HK_LV_B (t.lvB.zeroExtend 32)
  let s := ((s.setReg Reg.HK_DIE_TEMP (t.dieTemp.zeroExtend 32)).setReg Reg.HK_BOARD_TEMP (t.boardTemp.zeroExtend 32)).setReg
    Reg.HK_GECKO_LOAD (t.geckoLoad.zeroExtend 32)
  let s := s.setRegBit Reg.HK_STATUS 4 hot
  if !s.rbit Reg.HK_TELEM_CTL 0 then s else
  let s := s.updGecko (fun g => { g with telemSeq := g.telemSeq + 1 })
  let s := s.setReg Reg.HK_TELEM_SEQ s.gecko.telemSeq
  let rec_ := s.telemRecord t hot
  let s := s.updGecko (fun g => { g with ueSince := 0, ceSince := 0, lossSince := 0, overrunSince := 0, lagSince := 0, waitClocks := 0 })
  let s := if s.ringCredit 30 = 0 then s.raise Reg.HK_EVT 0x10 else s
  s.postLossy 30 rec_

/-! ## The steps -/

def execScrubSlot (bank : Nat) (s : State) : Host.Outcome State Fault Refusal :=
  need (decide (bank < 16)) (s.fresh.scrubSlot bank)

def execTarnCorrectedError (off : Off) (s : State) : Host.Outcome State Fault Refusal :=
  need (decide (off < Tarn.SIZE)) (s.fresh.correctedError off)

def execTarnUncorrectable (off : Off) (s : State) : Host.Outcome State Fault Refusal :=
  need (decide (off < Tarn.SIZE)) (s.fresh.uncorrectable off)

def execTcmScrub (corrected : Nat) (s : State) : Host.Outcome State Fault Refusal := .next (s.fresh.tcmScrub corrected)

def execTcmUncorrectable (s : State) : Host.Outcome State Fault Refusal :=
  let s := s.fresh
  .next (if s.mgmt == Node.setup || s.running then s.haltNode 4 0 else s)

def execSettingsJournalWrite (sectorFail : Bool) (s : State) : Host.Outcome State Fault Refusal :=
  .next (s.fresh.journalWrite sectorFail)

/-- The journal has passed 75 % of its 4 MiB (R501). -/
def execBaseGenerationStart (s : State) : Host.Outcome State Fault Refusal :=
  let s := s.fresh
  .next (if s.geckoRuns && decide (3 * journalSize < 4 * s.active.fill) && s.gecko.saving.isNone then s.startBase else s)

def execBaseGenerationDurable (s : State) : Host.Outcome State Fault Refusal := .next s.fresh.baseDurable

def execDigestRewrite (s : State) : Host.Outcome State Fault Refusal := .next s.fresh.digestRewrite

def execTelemetry (t : TelemEnv) (dt : Nat) (s : State) : Host.Outcome State Fault Refusal :=
  .next ((s.fresh.pass dt).telemetry t)

end Sys2Proof.Machine
end

