-- ==== Sys2Proof/Machine/LegPoint.lean ====
section
/-! DEFINITION. The forerunner point format and its registers (R239-R241). -/

namespace Sys2Proof.Machine

/-- An entry of the forerunner format (Table 7-19). -/
structure LegEntry where
  channel : Nat
  mode : Byte
  group : Nat
  lo : F32
  hi : F32
  delay : Nat
  hyst : Nat
  deriving DecidableEq, Repr

def LegEntry.ofBytes (l : List Byte) : LegEntry :=
  { channel := leAt l 0 2, mode := byteAt l 2, group := leAt l 3 1, lo := u32At l 4, hi := u32At l 8,
    delay := leAt l 0xC 2, hyst := leAt l 0xE 2 }

def LegEntry.bytes (x : LegEntry) : List Byte :=
  leBytes 2 x.channel ++ [x.mode, BitVec.ofNat 8 x.group] ++ leBytes 4 x.lo.toNat ++ leBytes 4 x.hi.toNat
    ++ leBytes 2 x.delay ++ leBytes 2 x.hyst

/-- No field is bad (Table 7-21); the limits have an order only where both are used. -/
def LegEntry.ok (x : LegEntry) : Bool :=
  fld x.mode 4 4 == 0 && (decide (x.channel ≤ 15) || x.channel == 0xFFFF) && decide (x.delay ≤ 6553)
    && F32.isFinite x.lo && F32.isFinite x.hi && (!(bitAt x.mode 2 && bitAt x.mode 3) || F32.lt x.lo x.hi)

/-- The configuration record of an entry (Table 7-20), EPOCH as given. -/
def LegEntry.record (x : LegEntry) (epoch : Nat) : List Byte :=
  if x.channel = 0xFFFF then withCrc (zeros 64) 64 else
  let src := packU32 [(b2n (bitAt x.mode 0), 0), (b2n (bitAt x.mode 1), 2), (x.channel, 8), (1, 28)]
  withCrc (leBytes 4 src.toNat ++ leBytes 4 0x3F800000 ++ zeros 8 ++ leBytes 4 x.lo.toNat ++ leBytes 4 x.hi.toNat ++ zeros 4
    ++ leBytes 4 (F32.ofRatio x.hyst 1000).toNat ++ zeros 4 ++ leBytes 2 (10 * x.delay) ++ leBytes 2 (10 * x.delay)
    ++ [BitVec.ofNat 8 x.group, 2, 0, BitVec.ofNat 8 (2 * b2n (bitAt x.mode 3) + 4 * b2n (bitAt x.mode 2))]
    ++ leBytes 4 0x1FFFF ++ zeros 8 ++ leBytes 2 epoch ++ zeros 6) 64

/-- The entry that could have made a record. -/
def LegEntry.candidate (l : List Byte) : LegEntry :=
  if allZero (l.take 0x38) then { channel := 0xFFFF, mode := 0, group := 0, lo := 0, hi := 0, delay := 0, hyst := 0 }
  else
    let c := PCfg.ofBytes l
    { channel := c.srcIndex,
      mode := BitVec.ofNat 8 (b2n c.enable + 2 * b2n c.latch + 4 * b2n (bitAt c.thEn 2) + 8 * b2n (bitAt c.thEn 1)),
      group := c.group, lo := c.thL, hi := c.thH, delay := c.onDelay / 10,
      hyst := (F32.toIntEven (F32.mul c.hyst 0x447A0000)).toNat % 65536 }

/-- The entry whose WRITE makes the record, EPOCH and CRC32 apart (R240). -/
def legUnconvert (l : List Byte) : Option LegEntry :=
  let x := LegEntry.candidate l
  let r := x.record 0
  if x.ok && r.take 0x38 == l.take 0x38 && slice r 0x3A 2 == slice l 0x3A 2 then some x else none

/-- LEG_PT_STATUS: DONE, or FAIL with its reason; a failure is counted. -/
def State.legPtEnd (s : State) (reason : Nat) : State :=
  if reason = 0 then s.setReg Reg.LEG_PT_STATUS 1
  else (s.setReg Reg.LEG_PT_STATUS (packU32 [(1, 1), (reason, 2)])).bump Reg.LEG_PT_ERR_CNT

def State.legWords (s : State) : List Byte :=
  [Reg.LEG_PT_W0, Reg.LEG_PT_W1, Reg.LEG_PT_W2, Reg.LEG_PT_W3].flatMap (fun o => leBytes 4 (s.reg o).toNat)

def State.setLegWords (s : State) (l : List Byte) : State :=
  (((s.setReg Reg.LEG_PT_W0 (u32At l 0)).setReg Reg.LEG_PT_W1 (u32At l 4)).setReg Reg.LEG_PT_W2 (u32At l 8)).setReg
    Reg.LEG_PT_W3 (u32At l 12)

def State.legIndex (s : State) : Nat := s.rfld Reg.LEG_PT_INDEX 0 10

/-- WRITE. -/
def State.legPtWrite (s : State) : State :=
  if !s.fmodeOn then s.ignored Reg.LEG_PT_CMD Why.cmdState
  else if s.mgmt != Node.setup then (s.ignored Reg.LEG_PT_CMD Why.cmdState).legPtEnd 3
  else
    let x := LegEntry.ofBytes s.legWords
    if !x.ok then s.legPtEnd 1
    else
      let o := Tarn.POINT_CFG + 64 * s.legIndex
      ((s.tarnStore o (x.record s.cfgEpoch)).setDirty).legPtEnd 0

/-- READ. -/
def State.legPtRead (s : State) : State :=
  if !s.fmodeOn then s.ignored Reg.LEG_PT_CMD Why.cmdState
  else if s.mgmt < Node.setup then s.ignored Reg.LEG_PT_CMD Why.cmdState
  else
    match legUnconvert (s.tarnSee (Tarn.POINT_CFG + 64 * s.legIndex) 64) with
    | some x => (s.setLegWords x.bytes).legPtEnd 0
    | none => (s.setLegWords (zeros 16)).legPtEnd 2

/-! ## The steps -/

def execLegPtWrite (s : State) : Host.Outcome State Fault Refusal := .next s.fresh.legPtWrite

def execLegPtRead (s : State) : Host.Outcome State Fault Refusal := .next s.fresh.legPtRead

end Sys2Proof.Machine
end

