-- ==== Sys2Proof/Machine/Rtc.lean ====
section
/-! DEFINITION. The real-time clock: counting, shifts, commits, the alarm, the calendar views, shadow sets and the backup domain (R437-R456). `ticks` counts 32.768 kHz edges since the last step of the RTC. -/

namespace Sys2Proof.Machine

def State.updRtc (s : State) (f : Rtc → Rtc) : State := { s with rtc := f s.rtc }

/-- RTC registers accept writes from SETUP onward (R440). -/
def State.rtcWritable (s : State) : Bool := decide (Node.setup ≤ s.mgmt)

/-! ## The calendar (R438) -/

/-- Year, month and day of a count of days since 1970-01-01 in the Gregorian calendar. -/
def civil (days : Nat) : Nat × Nat × Nat :=
  let z := days + 719468
  let doe := z % 146097
  let yoe := (doe - doe / 1460 + doe / 36524 - doe / 146096) / 365
  let doy := doe - (365 * yoe + yoe / 4 - yoe / 100)
  let mp := (5 * doy + 2) / 153
  let m := if mp < 10 then mp + 3 else mp - 9
  (yoe + z / 146097 * 400 + (if m ≤ 2 then 1 else 0), m, doy - (153 * mp + 2) / 5 + 1)

/-- Days since 1970-01-01 of a date. -/
def daysOf (y m d : Nat) : Nat :=
  let y := if m ≤ 2 then y - 1 else y
  let yoe := y % 400
  let doy := (153 * (if 2 < m then m - 3 else m + 9) + 2) / 5 + d - 1
  y / 400 * 146097 + yoe * 365 + yoe / 4 - yoe / 100 + doy - 719468

/-- Days of a month. -/
def monthDays (y m : Nat) : Nat :=
  if m = 2 then (if y % 4 = 0 && (y % 100 != 0 || y % 400 == 0) then 29 else 28)
  else if m = 4 || m = 6 || m = 9 || m = 11 then 30 else 31

def bcd (n : Nat) : Nat := n / 10 * 16 + n % 10

/-- The number that two BCD digits spell. -/
def unbcd (x : Nat) : Option Nat := if x % 16 ≤ 9 && x / 16 ≤ 9 then some (x / 16 * 10 + x % 16) else none

/-- Local time L of a set, in seconds since 1970. -/
def RtcSet.local (t : RtcSet) : Int := t.sec.toNat + 900 * t.ofs.toInt + if t.dst then 3600 else 0

/-- A local time in the BCD view's span. -/
structure Cal where
  year : Nat
  month : Nat
  day : Nat
  hour : Nat
  min : Nat
  sec : Nat
  /-- ISO 8601: 1 = Monday. -/
  wday : Nat
  deriving DecidableEq, Repr

/-- The calendar of a set, when its local year lies in 2000–2399. -/
def RtcSet.cal (t : RtcSet) : Option Cal :=
  let l := t.local
  if l < 946684800 || 13569465600 ≤ l then none
  else
    let n := l.toNat
    let d := n / 86400
    let (y, m, dd) := civil d
    some { year := y, month := m, day := dd, hour := n % 86400 / 3600, min := n % 3600 / 60, sec := n % 60, wday := (d + 3) % 7 + 1 }

/-- The set of the last completed edge. -/
def Rtc.live (r : Rtc) : RtcSet := { sec := r.sec, frac := r.frac, ofs := r.ofs, dst := r.dst }

/-- What the host's registers show, what the forerunner window's do, and what Lilypad draws (R442, R443). -/
def Rtc.hostSet (r : Rtc) : RtcSet := r.host.getD r.live
def Rtc.legSet (r : Rtc) : RtcSet := r.leg.getD r.live
def Rtc.lilSet (r : Rtc) : RtcSet := r.lil.getD r.live

/-- RTC_BCD_TIME, RTC_BCD_DATE and RTC_BCD_EXT of a set. -/
def RtcSet.bcdTime (t : RtcSet) : U32 :=
  match t.cal with
  | some c => packU32 [(bcd c.sec, 0), (bcd c.min, 8), (bcd c.hour, 16)]
  | none => 0
def RtcSet.bcdDate (t : RtcSet) : U32 :=
  match t.cal with
  | some c => packU32 [(bcd c.day, 0), (bcd c.month, 8), (bcd (c.year % 100), 16), ((c.year - 2000) / 100, 24)]
  | none => 0
def RtcSet.bcdExt (t : RtcSet) : U32 :=
  match t.cal with
  | some c => packU32 [(c.wday, 0), (b2n t.dst, 3)]
  | none => packU32 [(b2n t.dst, 3), (1, 4)]

/-- The calendar in the forerunner's window: 2000–2199 (R454). -/
def RtcSet.legCal (t : RtcSet) : Option Cal :=
  match t.cal with
  | some c => if c.year < 2200 then some c else none
  | none => none

/-- Time register k of the window: SEC, MIN, HOUR, WDAY, DAY, MON, YEAR. -/
def RtcSet.legReg (t : RtcSet) (k : Nat) : U32 :=
  match t.legCal with
  | none => 0
  | some c =>
    BitVec.ofNat 32 (match k with
      | 0 => bcd c.sec | 1 => bcd c.min | 2 => bcd c.hour | 3 => c.wday % 7 | 4 => bcd c.day
      | 5 => bcd c.month + 128 * ((c.year - 2000) / 100) | _ => bcd (c.year % 100))

/-! ## The alarm (R447, R448) -/

def State.almSec (s : State) : Nat := s.rfld Reg.RTC_ALM_HI 0 8 * 2 ^ 32 + (s.reg Reg.RTC_ALM_LO).toNat
def State.almArmed (s : State) : Bool := s.rbit Reg.RTC_ALM_CTL 0

def State.almFire (s : State) (skipped : Bool) : State :=
  ((s.setReg Reg.RTC_ALM_CTL 0x100).bump Reg.RTC_ALM_CNT).raise Reg.RTC_EVT (1 + 2 * b2n skipped)

/-! ## Counting and shifts (R437, R445) -/

abbrev RtcStat.valid : Nat := 0
abbrev RtcStat.busy : Nat := 2

def State.rtcBit (s : State) (i : Nat) : Bool := s.rbit Reg.RTC_STATUS i

/-- A pending local offset and DST change take effect at a second boundary, together (R439). -/
def State.localApply (s : State) : State :=
  s.updRtc (fun r => { r with ofs := r.ofsNext.getD r.ofs, ofsNext := none, dst := r.dstNext.getD r.dst, dstNext := none })

/-- The count goes on by `n` ticks of 1/32,768 s; the alarm fires when SEC reaches ALM_SEC on the way. -/
def State.rtcCount (s : State) (n : Nat) : State :=
  let old := s.rtc.sec.toNat
  let t := s.rtc.frac.toNat + n
  let new := old + t / 32768
  let s := s.updRtc (fun r => { r with sec := BitVec.ofNat 40 new, frac := BitVec.ofNat 15 (t % 32768) })
  let s := if old < new then s.localApply else s
  if s.almArmed && decide (old < s.almSec) && decide (s.almSec ≤ new) then s.almFire false else s

/-- A shift ends with its last tick. -/
def State.shiftEnd (s : State) : State :=
  let s := (s.setRegBit Reg.RTC_STATUS RtcStat.busy false).updRtc (fun r => { r with shiftPhase := 0 })
  (s.bump Reg.RTC_SHIFT_CNT).raise Reg.RTC_EVT 0x10

/-- `n` oscillator ticks without a pending commit: a running shift inserts or suppresses one tick in every group of eight. -/
def State.rtcRun (s : State) (n : Nat) : State :=
  if !s.rtcBit RtcStat.busy then s.rtcCount n
  else
    let phase := s.rtc.shiftPhase
    let left := s.rfld Reg.RTC_SHIFT_LEFT 0 17
    let k := min left ((phase + n) / 8 - phase / 8)
    let s := s.rtcCount (if s.rbit Reg.RTC_SHIFT_LEFT 31 then n - k else n + k)
    let s := s.setRegFld Reg.RTC_SHIFT_LEFT 0 17 (left - k)
    if k = left then s.shiftEnd else s.updRtc (fun r => { r with shiftPhase := phase + n })

/-- A shift that was written starts at this edge. -/
def State.shiftBegin (s : State) : State :=
  match s.rtc.shiftNext with
  | none => s
  | some (ticks, sign) =>
    ((s.setReg Reg.RTC_SHIFT_LEFT (packU32 [(ticks, 0), (b2n sign, 31)])).setRegBit Reg.RTC_STATUS RtcStat.busy true).updRtc
      (fun r => { r with shiftNext := none, shiftPhase := 0 })

/-- The staged time as it stands at the commit edge; a legacy SET commits its own with FRAC 0. -/
def State.staged (s : State) : BitVec 40 × BitVec 15 :=
  match s.rtc.legCommit with
  | some v => (v, 0)
  | none => (BitVec.ofNat 40 (s.rfld Reg.RTC_STG_SEC_HI 0 8 * 2 ^ 32 + (s.reg Reg.RTC_STG_SEC_LO).toNat),
      BitVec.ofNat 15 (s.rfld Reg.RTC_STG_FRAC 0 15))

/-- The commit edge (R444, R446, R448). -/
def State.commit (s : State) : State :=
  let old := s.rtc.sec.toNat
  let (sec, frac) := s.staged
  let s := if s.rtcBit RtcStat.busy then (s.setRegBit Reg.RTC_STATUS RtcStat.busy false).raise Reg.RTC_EVT 0x40 else s
  let s := s.updRtc (fun r => { r with sec := sec, frac := frac, setPending := false, legCommit := none, shiftPhase := 0 })
  let s := ((s.setRegBit Reg.RTC_STATUS RtcStat.valid true).bump Reg.RTC_SET_CNT).raise Reg.RTC_EVT 0x200
  if s.almArmed && decide (old < s.almSec) && decide (s.almSec ≤ sec.toNat) then
    s.almFire (!(decide (sec.toNat = s.almSec) && frac == 0))
  else s

/-- One edge: a pending commit replaces the count, and a written shift starts after it. -/
def State.rtcEdge (s : State) : State := (if s.rtc.setPending then s.commit else s.rtcRun 1).shiftBegin

/-- `k` wakes fire (R449); WAKE_N is driven while the logic supply is present, from a wake that finds RTC_EVT.WAKE clear. -/
def State.wakes (s : State) (k : Nat) : State :=
  if k = 0 then s else
  let drive := s.rbit Reg.RTC_WAKE_CTL 1 && !s.rtc.onVbk && !s.rbit Reg.RTC_EVT 2
  let s := (s.raise Reg.RTC_EVT 4).bumpBy Reg.RTC_WAKE_CNT k
  if drive then (s.updRtc (fun r => { r with wakeN := true })).emitOut (.pin "WAKE_N" false) else s

/-- Oscillator ticks of a wake period. -/
def State.wakePeriod (s : State) : Nat := 128 * s.rfld Reg.RTC_WAKE_PERIOD 0 25

/-- `n` oscillator ticks of the wake's count, which no commit and no shift moves. -/
def State.wakeRun (s : State) (n : Nat) : State :=
  let p := s.wakePeriod
  let left := s.rtc.wakeLeft
  if !s.rbit Reg.RTC_WAKE_CTL 0 || p = 0 || n = 0 then s
  else if n < left then s.updRtc (fun r => { r with wakeLeft := left - n })
  else (s.updRtc (fun r => { r with wakeLeft := p - (n - left) % p })).wakes ((n - left) / p + 1)

/-- `n` oscillator ticks toward the next measurement of VBK, once per second while the logic supply is present (R453); what it finds is a free value (DESIGN CHOICE, log entry 4). -/
def State.vbkRun (s : State) (n : Nat) : State :=
  if s.rtc.onVbk then s else
  let t := s.rtc.vbkPhase + n
  let s := s.updRtc (fun r => { r with vbkPhase := t % 32768 })
  if t < 32768 then s else
  let (i, s) := s.draw
  s.setReg Reg.RTC_VBK ((Config.freeVbk i).zeroExtend 32)

/-- The time of `n` edges. -/
def State.rtcEdges (s : State) : Nat → State
  | 0 => s
  | n + 1 => s.rtcEdge.rtcRun n

/-- `n` edges pass. -/
def State.rtcElapse (s : State) (n : Nat) : State := ((s.rtcEdges n).wakeRun n).vbkRun n

/-! ## The forerunner window (R454) -/

/-- The staged local time as seconds since 1970, when it is a valid BCD date and time from 2000 to 2199. -/
def legLocal (l : List Byte) : Option Nat :=
  let b := fun i => leAt l i 1
  match unbcd (b 0 % 128), unbcd (b 1 % 128), unbcd (b 2 % 64), unbcd (b 4 % 64), unbcd (b 5 % 32), unbcd (b 6) with
  | some s, some mi, some h, some d, some mo, some y =>
    let year := 2000 + 100 * (b 5 / 128) + y
    if decide (s < 60) && decide (mi < 60) && decide (h < 24) && inRange 1 12 mo && decide (1 ≤ d) && decide (d ≤ monthDays year mo) then
      some (daysOf year mo d * 86400 + h * 3600 + mi * 60 + s)
    else none
  | _, _, _, _, _, _ => none
where
  inRange (lo hi x : Nat) : Bool := decide (lo ≤ x) && decide (x ≤ hi)

/-- SET in LEG_RTC_CTL. -/
def State.legSet (s : State) : State :=
  if !s.fmodeOn || !s.rtcWritable then s.ignored Reg.LEG_RTC_CTL Why.cmdState
  else match legLocal s.rtc.legStage with
    | none => (s.setRegBit Reg.LEG_RTC_STAT 0 true).bump Reg.LEG_RTC_ERR_CNT
    | some l =>
      let utc : Int := (l : Int) - 900 * s.rtc.ofs.toInt - if s.rtc.dst then 3600 else 0
      (s.setRegBit Reg.LEG_RTC_STAT 0 false).updRtc (fun r => { r with setPending := true, legCommit := some (ofInt 40 utc) })

/-! ## Backup supply (R60, R451-R453) -/

/-- The RTC goes over to VBK; WAKE_N is let go, for the backup cell powers no pin (R449), and stays so until a wake drives it again (DEDUCED, log entry 74). -/
def State.switchOver (s : State) : State :=
  let s := if s.rbit Reg.RTC_SWO_SEC_HI 31 then s
    else
      let s := s.setReg Reg.RTC_SWO_SEC_LO (s.rtc.sec.truncate 32)
      let s := s.setReg Reg.RTC_SWO_SEC_HI (packU32 [(s.rtc.sec.toNat / 2 ^ 32, 0), (1, 31)])
      s.setReg Reg.RTC_SWO_FRAC (s.rtc.frac.zeroExtend 32)
  let n := s.reg Reg.RTC_SWO_CNT
  let s := if s.rtc.wakeN then (s.updRtc (fun r => { r with wakeN := false })).emitOut (.pin "WAKE_N" true) else s
  (s.bump Reg.RTC_SWO_CNT).updRtc (fun r => { r with onVbk := true, swoSeen := n })

/-- The logic supply is back: a changed count of switch-overs is reported. -/
def State.switchBack (s : State) : State :=
  let s := s.updRtc (fun r => { r with onVbk := false })
  if s.reg Reg.RTC_SWO_CNT = s.rtc.swoSeen then s else s.raise Reg.RTC_EVT 8

/-- The charger is enabled, permitted and supplied. -/
def State.chargerOn (s : State) : Bool :=
  s.rbit Reg.RTC_TRICKLE 0 && s.rfld Reg.RTC_TRICKLE 1 2 != 0 && !s.rtc.cellHigh && !s.rtc.onVbk

/-- The charger's limit in mV; its ±50 mV are analog. -/
def State.chargeLimit (s : State) : Nat := if s.rbit Reg.RTC_TRICKLE 3 then 3300 else 3000

/-- The charger delivers current: it stops at the limit, by VBK as last measured (R453; DEDUCED, log entry 74). -/
def State.charging (s : State) : Bool := s.chargerOn && decide ((s.reg Reg.RTC_VBK).toNat < s.chargeLimit)

/-- The registers of the backup domain: the RTC block and the RTC window of the LEGACY block (R74, R440). -/
def isBackup (o : Off) : Bool :=
  (decide (0x30000 ≤ o) && decide (o < 0x30100)) || (decide (0x40200 ≤ o) && decide (o < 0x40300))

/-- The oscillator has stopped: the backup domain holds its reset values, RTC_EVT.OSC_STOP among them. -/
def State.backupLost (s : State) : State :=
  { s with regs := s.regs.filter (fun c => !isBackup c.1)
           latch := s.latch.filter (fun c => !isBackup c.1)
           hold := s.hold.filter (fun c => !isBackup c.1)
           rtc := { cellHigh := s.rtc.cellHigh, onVbk := s.rtc.onVbk } }

/-! ## Single writes -/

/-- SET in RTC_CMD (R444). -/
def State.setNow (s : State) : State :=
  if s.rtcWritable then s.updRtc (fun r => { r with setPending := true, legCommit := none })
  else s.ignored Reg.RTC_CMD Why.cmdState

/-- SWO_CLEAR in RTC_CMD (R451). -/
def State.clearSwo (s : State) : State :=
  if s.rtcWritable then s.setRegBit Reg.RTC_SWO_SEC_HI 31 false else s.ignored Reg.RTC_CMD Why.cmdState

/-- RTC_SHIFT: a shift is asked for, and rejected with BUSY while one runs (R446). -/
def State.shiftWrite (s : State) (v : U32) : State :=
  let t := fld v 0 17
  if !s.rtcWritable then s.ignored Reg.RTC_SHIFT Why.cmdState
  else if s.rtcBit RtcStat.busy || s.rtc.shiftNext.isSome then (s.raise Reg.RTC_EVT 0x20).ignored Reg.RTC_SHIFT Why.cmdState
  else if t = 0 || decide (32768 < t) then s.ignored Reg.RTC_SHIFT Why.range
  else s.updRtc (fun r => { r with shiftNext := some (t, bitAt v 31) })

/-- RTC_WAKE_CTL (R449): the count goes from the edge after EN is set, so the first wake is PERIOD after that edge. -/
def State.wakeCtl (s : State) (v : U32) : State :=
  if !s.rtcWritable then s.ignored Reg.RTC_WAKE_CTL Why.condition else
  let begins := bitAt v 0 && !s.rbit Reg.RTC_WAKE_CTL 0
  let s := s.setReg Reg.RTC_WAKE_CTL (v &&& 3)
  if begins then s.updRtc (fun r => { r with wakeLeft := s.wakePeriod + 1 }) else s

/-- The level of CELL_TYPE, seen with a write: a pin that has returned low lets the charger be enabled again (R60). -/
def State.cellLevel (s : State) (high : Bool) : State := s.updRtc (fun r => { r with cellHigh := high })

/-- RTC_TRICKLE: EN is refused while CELL_TYPE is high (R453). -/
def State.trickleWrite (s : State) (v : U32) : State :=
  if !s.rtcWritable then s.ignored Reg.RTC_TRICKLE Why.condition
  else if bitAt v 0 && s.rtc.cellHigh then s.ignored Reg.RTC_TRICKLE Why.condition
  else s.setReg Reg.RTC_TRICKLE (v &&& 0xF)

/-! ## The steps -/

/-- A write of SET to RTC_CMD. -/
def execRtcSet (ticks : Nat) (s : State) : Host.Outcome State Fault Refusal := .next (s.fresh.rtcElapse ticks).setNow

/-- The edge after SET. -/
def execRtcCommit (s : State) : Host.Outcome State Fault Refusal :=
  .next (if s.rtc.setPending then s.fresh.rtcElapse 1 else s.fresh)

def execSwoClear (s : State) : Host.Outcome State Fault Refusal := .next s.fresh.clearSwo

def execRtcShift (v : U32) (ticks : Nat) (s : State) : Host.Outcome State Fault Refusal :=
  .next ((s.fresh.rtcElapse ticks).shiftWrite v)

/-- The edges in which the shift's last ticks are inserted or suppressed pass. -/
def execShiftDone (ticks : Nat) (s : State) : Host.Outcome State Fault Refusal := .next (s.fresh.rtcElapse ticks)

/-- A DST write (R439). -/
def State.dstWrite (s : State) (on : Bool) : State :=
  if !s.rtcWritable then s.ignored Reg.RTC_DST Why.cmdState
  else if s.rtc.dstNext.isSome || s.rtc.dst == on then s.ignored Reg.RTC_DST Why.cmdState
  else s.updRtc (fun r => { r with dstNext := some on })

def execDstForward (s : State) : Host.Outcome State Fault Refusal := .next (s.fresh.dstWrite true)

def execDstBack (s : State) : Host.Outcome State Fault Refusal := .next (s.fresh.dstWrite false)

/-- The edges up to a second boundary pass. -/
def execLocalTimeApply (ticks : Nat) (s : State) : Host.Outcome State Fault Refusal := .next (s.fresh.rtcElapse ticks)

/-- A write to RTC_ALM_CTL. -/
def State.almCtl (s : State) (v : U32) : State :=
  if !s.rtcWritable then s.ignored Reg.RTC_ALM_CTL Why.condition
  else if !bitAt v 0 then s.setRegBit Reg.RTC_ALM_CTL 0 false
  else if s.almSec ≤ s.rtc.sec.toNat then s.almFire (decide (s.almSec < s.rtc.sec.toNat))
  else s.setReg Reg.RTC_ALM_CTL 1

def execAlarmArm (v : U32) (ticks : Nat) (s : State) : Host.Outcome State Fault Refusal :=
  .next ((s.fresh.rtcElapse ticks).almCtl (setBit v 0 true))

def execAlarmDisarm (v : U32) (s : State) : Host.Outcome State Fault Refusal := .next (s.fresh.almCtl (setBit v 0 false))

/-- The edges up to ALM_SEC pass. -/
def execRtcAlarmFire (ticks : Nat) (s : State) : Host.Outcome State Fault Refusal := .next (s.fresh.rtcElapse ticks)

def execWakeEnable (v : U32) (s : State) : Host.Outcome State Fault Refusal := .next (s.fresh.wakeCtl (setBit v 0 true))

/-- The edges up to the wake pass (R449). -/
def execRtcWake (ticks : Nat) (s : State) : Host.Outcome State Fault Refusal := .next (s.fresh.rtcElapse ticks)

/-- A read of RTC_FRAC loads and freezes the host's set (R442). -/
def State.fracRead (s : State) : State :=
  { s.updRtc (fun r => { r with host := some r.live, hostStale := false }) with hostRead := s.rtc.frac.zeroExtend 32 }

/-- A read of RTC_SEC_HI releases it (R442). -/
def State.secHiRead (s : State) : State :=
  { s.updRtc (fun r => { r with host := none, hostStale := false }) with
    hostRead := packU32 [(s.rtc.hostSet.sec.toNat / 2 ^ 32, 0), (b2n s.rtc.hostStale, 31)] }

def execRtcFracRead (ticks : Nat) (s : State) : Host.Outcome State Fault Refusal := .next (s.fresh.rtcElapse ticks).fracRead

def execRtcSecHiRead (ticks : Nat) (s : State) : Host.Outcome State Fault Refusal := .next (s.fresh.rtcElapse ticks).secHiRead

/-- 1 ms after its freeze a set follows the live time again. -/
def execShadowFreezeTimeout (who : ShadowId) (s : State) : Host.Outcome State Fault Refusal :=
  .next (s.fresh.updRtc (fun r => match who with
    | .host => if r.host.isSome then { r with host := none, hostStale := true } else r
    | .legacy => if r.leg.isSome then { r with leg := none, legStale := true } else r
    | .lilypad => { r with lil := none }))

/-- A read of LEG_RTC_SEC freezes the forerunner window's set, one of LEG_RTC_YEAR releases it (R454). -/
def State.legSecRead (s : State) : State :=
  if s.fmodeOn then
    { s.updRtc (fun r => { r with leg := some r.live, legStale := false }) with hostRead := s.rtc.live.legReg 0 }
  else { s with hostRead := 0 }

def State.legYearRead (s : State) : State :=
  if s.fmodeOn then { s.updRtc (fun r => { r with leg := none }) with hostRead := s.rtc.legSet.legReg 6 }
  else { s with hostRead := 0 }

def execLegRtcSecRead (ticks : Nat) (s : State) : Host.Outcome State Fault Refusal := .next (s.fresh.rtcElapse ticks).legSecRead

def execLegRtcYearRead (ticks : Nat) (s : State) : Host.Outcome State Fault Refusal := .next (s.fresh.rtcElapse ticks).legYearRead

def execLegRtcSet (s : State) : Host.Outcome State Fault Refusal := .next s.fresh.legSet

/-- CELL_TYPE goes high: a charger at work stops, and EN clears (R60), the taper at the limit included (DEDUCED, log entry 74). -/
def State.cellGoesHigh (s : State) : State :=
  let was := s.chargerOn
  let s := s.cellLevel true
  if was then (s.setRegBit Reg.RTC_TRICKLE 0 false).raise Reg.RTC_EVT 0x100 else s

/-- A write to RTC_TRICKLE, with the level of CELL_TYPE at it. -/
def execRtcTrickleWrite (w : TrickleWrite) (s : State) : Host.Outcome State Fault Refusal :=
  let s := s.fresh
  let s := if w.cellHigh then s.cellGoesHigh else s.cellLevel false
  .next (s.trickleWrite w.v)

def execCellTypeHigh (s : State) : Host.Outcome State Fault Refusal := .next s.fresh.cellGoesHigh

/-- VBK falls below 2.0 V while the logic supply is absent (R452). -/
def execOscStop (s : State) : Host.Outcome State Fault Refusal :=
  .next (if s.rtc.onVbk then s.fresh.backupLost else s.fresh)

end Sys2Proof.Machine
end

