-- ==== Sys2Proof/Machine/Panel.lean ====
section
/-! DEFINITION. Lilypad, the annunciator panel (R457-R468). -/

namespace Sys2Proof.Machine

def State.updPanel (s : State) (f : Panel → Panel) : State := { s with panel := f s.panel }

/-- The panel is driven: fitted, enabled, its boost on, from SETUP onward (R466, R467). -/
def State.driven (s : State) : Bool :=
  !s.panel.absent && !s.panel.vppOff && s.rbit Reg.PNL_CTL 0 && decide (Node.setup ≤ s.mgmt)

/-- Tarn offset of a framebuffer. -/
def fbOffset (front : Bool) : Off := Tarn.LILYPAD + if front then 0x2000 else 0

/-! ## Frames and flips (R458, R464, R465) -/

/-- A pending flip is applied: it completes with the number of the first frame that shows the new buffer. -/
def State.flipNow (s : State) : State :=
  match s.panel.flip with
  | none => s
  | some cmd =>
    let s := s.updPanel (fun p => { p with flip := none, front := !p.front })
    let s := (s.bump Reg.PNL_FLIP_CNT).raise Reg.PNL_EVT 1
    match cmd with
    | some (tag, irq) => s.finish tag irq 0x74 Status.ok ((s.reg Reg.PNL_FRAME_CNT).zeroExtend 64)
    | none => s

/-- The scan-out offset of each position of the burn-in cycle (R465). -/
def shiftOffset (pos : Nat) : Nat × Nat := [(0, 0), (1, 0), (1, 1), (0, 1)].getD pos (0, 0)

/-- Grey level of a pixel of a framebuffer (R457). -/
def pixel (l : List Byte) (x y : Nat) : Nat := (byteAt l (128 * y + x / 2)).toNat / 16 ^ (x % 2) % 16

/-- A framebuffer moved right and down, as the panel shows it: the column or row left vacant is dark. -/
def shifted (l : List Byte) (d : Nat × Nat) : List Byte :=
  if d = (0, 0) then l else
  let at_ := fun (x y : Nat) => if x < d.1 || y < d.2 then 0 else pixel l (x - d.1) (y - d.2)
  (List.range 64).flatMap (fun y => (List.range 128).map (fun k => BitVec.ofNat 8 (at_ (2 * k) y + 16 * at_ (2 * k + 1) y)))

/-- What the frame in progress shows: the front buffer at the offset in force. -/
def State.frameBytes (s : State) : List Byte :=
  shifted (s.tarnRead (fbOffset s.panel.front) 8192) (shiftOffset (s.rfld Reg.PNL_STATUS 8 2))

/-- Scan-out stops: the panel shows nothing until a whole frame has been sent again (R466, R467). -/
def State.scanStop (s : State) : State := s.updPanel (fun p => { p with scanning := false })

/-- A write of PNL_CTL: the panel is not driven with EN clear. -/
def State.panelCtl (s : State) : State := if s.rbit Reg.PNL_CTL 0 then s else s.scanStop

/-- The frame that ends has been sent whole, and the next begins: drive values, the shift and the flip apply together. -/
def State.frame (s : State) : State :=
  if !s.driven then s else
  let s := if s.panel.scanning then s.emitOut (.panelFrame s.frameBytes) else s.updPanel (fun p => { p with scanning := true })
  let s := s.bump Reg.PNL_FRAME_CNT
  let s := match s.panel.drive with
    | some (v, i) => (s.setReg Reg.PNL_VPP_SET (BitVec.ofNat 32 v)).setReg Reg.PNL_ICODE (BitVec.ofNat 32 i)
    | none => s
  let s := if s.panel.shiftDue then s.setRegFld Reg.PNL_STATUS 8 2 (s.rfld Reg.PNL_STATUS 8 2 + 1) else s
  (s.updPanel (fun p => { p with drive := none, shiftDue := false })).flipNow

/-- PANEL_FLIP (Table 16-2). -/
def State.panelFlip (s : State) (img : Image) (d : Desc) : State :=
  let copy := d.arg 8 8 != 0
  if !d.resv 0x10 48 || (copy && (!d.aligned 8 || img.isNone)) then s.done d Status.badArg
  else if (s.mgmt = Node.run && s.rbit Reg.PNL_CTL 1) || !s.rbit Reg.PNL_CTL 0 || s.panel.absent then s.done d Status.state
  else if s.panel.flip.isSome then s.done d Status.busy
  else
    let s := if copy then s.tarnStore (fbOffset (!s.panel.front)) (fit 8192 (img.getD [])) else s
    (s.updPanel (fun p => { p with flip := some (some (d.tag, d.irqNow)) })).defer d.tag d.irqNow 0x74

/-! ## Temperature and drive (R459, R460) -/

/-- Natural logarithm in 2^-40ths of a number from 1: exponent and series of the inverse hyperbolic tangent. -/
def lnFix (n : Nat) : Int :=
  let e := Nat.log2 n
  let one := 2 ^ 40
  let z := (n * one - 2 ^ e * one) / (n + 2 ^ e)
  let z2 := z * z / one
  let sum := (List.range 16).foldr (fun k acc => one / (2 * k + 1) + z2 * acc / one) 0
  (762123384786 * e + 2 * (z * sum / one) : Nat)

/-- An integer ratio rounded to nearest, a tie upward. -/
def nearest (num den : Int) : Int := (2 * num + den).fdiv (2 * den)

/-- T of R459 in 0.1 °C for an NTC resistance. -/
def ntcTenths (ohm : Nat) : Int :=
  let l := lnFix ohm - lnFix 10000
  let num : Int := 29815 * 3435 * 2 ^ 40
  let den : Int := 343500 * 2 ^ 40 + 29815 * l
  nearest (20 * num - 5463 * den) (2 * den)

/-- The NTC's reading: within ±1 °C of the formula from −25 °C to +70 °C. -/
def ntcReading (ohm : Nat) (free : BitVec 16) : Int :=
  let t := ntcTenths ohm
  if -250 ≤ t && t ≤ 700 then t + (free.toNat % 21 : Nat) - 10 else free.toInt

/-- A ratio rounded down or up, as the free bit says; the spec states no rounding. -/
def openRound (num : Int) (den : Nat) (up : Bool) : Int :=
  num.fdiv den + if up && num.fmod den != 0 then 1 else 0

/-- The measurements of one second; NTC_FAULT is set at each while the NTC is out of its range, whatever TSRC is (R459). V and I are clamped before V is rounded to the millivolts of PNL_VPP_SET. -/
def State.panelTemp (s : State) (p : PanelTemp) : State :=
  if s.mgmt < Node.setup then s else
  let (i, s) := s.draw
  let bad := decide (p.ntcOhm < 200) || decide (400000 < p.ntcOhm)
  let t := if bad || s.rbit Reg.PNL_CTL 2 then p.internal else ntcReading p.ntcOhm (Config.freeTemp i)
  let s := if bad && !s.rbit Reg.PNL_STATUS 5 then s.bump Reg.PNL_NTC_FAULT_CNT else s
  let s := if bad then s.raise Reg.PNL_EVT 4 else s
  let tc := sext 8 (s.rfld Reg.PNL_TC 0 8)
  let itc := sext 16 (s.rfld Reg.PNL_ITC 0 16)
  let v := 10 * s.rfld Reg.PNL_V25 0 14 + tc * (t - 250)
  let c := (s.rfld Reg.PNL_I25 0 8 : Int) * (100000 + itc * (t - 250))
  let vv := max 80000 (min 160000 v)
  let cc := max 0 (min 25500000 c)
  let code := if 2 * cc.fmod 100000 = 100000 && !Config.freeTie (i + 1) then cc.fdiv 100000 else nearest cc 100000
  let s := { s with free := s.free + 1 }
  let s := s.setRegFld Reg.PNL_STATUS 5 3 (b2n bad + 2 * b2n (decide (vv != v)) + 4 * b2n (decide (cc != c)))
  let s := (s.setReg Reg.PNL_TEMP (packU32 [((ofInt 16 t).toNat, 0)])).setReg Reg.PNL_NTC_OHM (BitVec.ofNat 32 (min p.ntcOhm 0xFFFFF))
  let s := s.setReg Reg.PNL_VPP_MEAS (BitVec.ofNat 32 (p.vppMv % 16384))
  s.updPanel (fun x => { x with drive := some ((openRound vv 10 (Config.freeTie i)).toNat, code.toNat) })

/-! ## The alarm list (R462, R463) -/

/-- A point belongs in the list: the members of a group with ENABLE 0 count nowhere (R252). -/
def State.listedPoint (s : State) (e : EngineId) (p : Nat) : Bool :=
  let c := s.pcfg p
  let x := s.pt e p
  c.panel && c.on && c.valid p && (s.gcfg c.group).enable && !x.has Sub.shelved && !x.has Sub.blocked && (c.alarm x.state || x.has Sub.unacked)

/-- Severity in the list: FAULT ranks with severity 2. -/
def listSeverity (st : Byte) : Nat := if st == Pt.fault then 2 else severity st

/-- One entry stands before another (R463): UNACKED, severity, the more recent change, the lower index. -/
def listBefore (a b : ListEntry) : Bool :=
  if a.unacked != b.unacked then a.unacked
  else if listSeverity a.state != listSeverity b.state then decide (listSeverity b.state < listSeverity a.state)
  else if a.lastIsn != b.lastIsn then decide (b.lastIsn < a.lastIsn)
  else decide (a.point < b.point)

/-- An entry in its place of an ordered list. -/
def listInsert (a : ListEntry) : List ListEntry → List ListEntry
  | [] => [a]
  | b :: l => if listBefore a b then a :: b :: l else b :: listInsert a l

/-- The list in its order. -/
def State.listEntries (s : State) (e : EngineId) : List ListEntry :=
  ((s.points.filter (s.listedPoint e)).map (fun p =>
    let x := s.pt e p
    { point := p, state := x.state, unacked := x.has Sub.unacked, value := x.value, lastIsn := x.lastIsn })).foldr listInsert []

/-- Lilypad freezes its own shadow set of the RTC for a redraw (R443). -/
def State.freezeLil (s : State) : State := s.updRtc (fun r => { r with lil := some r.live })

/-- What a redraw shows. -/
def State.listImage (s : State) (e : EngineId) : ListImage :=
  let l := s.listEntries e
  let t := s.rtc.lilSet
  { time := t.bcdTime, date := t.bcdDate, node := s.nodeId, count := l.length, entries := l.take Config.panelRows }

/-- The holder redraws the list into the back buffer and flips it; over a flip that still waits for its frame boundary the list is drawn afresh (DEDUCED, log entry 75). -/
def State.redraw (s : State) : State :=
  match s.skink.holder with
  | none => s
  | some e =>
    if s.mgmt != Node.run || !s.rbit Reg.PNL_CTL 1 then s else
    let s := s.freezeLil
    let g := s.listImage e
    let n := g.count
    let s := s.tarnStore (fbOffset (!s.panel.front)) (leBytes 8192 (Config.listPixels g).toNat)
    let s := (s.setReg Reg.PNL_LIST_CNT (BitVec.ofNat 32 n)).updPanel (fun p => { p with flip := p.flip.or (some none) })
    if Config.panelRows < n then s.raise Reg.PNL_EVT 0x10 else s

/-! ## The steps -/

def execPanelFlip (img : Image) (s : State) : Host.Outcome State Fault Refusal :=
  .next (s.fresh.dirCmd 0x74 (fun d s => s.panelFlip img d))

def execPanelFrameBoundary (s : State) : Host.Outcome State Fault Refusal := .next s.fresh.frame

def execPanelTempUpdate (p : PanelTemp) (s : State) : Host.Outcome State Fault Refusal := .next (s.fresh.panelTemp p)

/-- The boost goes off and scan-out stops (R461). -/
def execVppFault (s : State) : Host.Outcome State Fault Refusal :=
  let s := s.fresh
  .next (if s.driven then
    ((s.updPanel (fun p => { p with vppOff := true, scanning := false })).bump Reg.PNL_VPP_FAULT_CNT).raise Reg.PNL_EVT 2
  else s)

def execVppRetry (s : State) : Host.Outcome State Fault Refusal :=
  .next (s.fresh.updPanel (fun p => { p with vppOff := false }))

def execAlarmListRedraw (ticks : Nat) (s : State) : Host.Outcome State Fault Refusal :=
  .next (s.fresh.rtcElapse ticks).redraw

def execBurnInShift (s : State) : Host.Outcome State Fault Refusal :=
  let s := s.fresh
  .next (if s.rbit Reg.PNL_CTL 3 then s.updPanel (fun p => { p with shiftDue := true }) else s)

/-- The panel is removed, or fitted again and reset (R466). -/
def execPnlSenseChange (high : Bool) (s : State) : Host.Outcome State Fault Refusal :=
  let s := s.fresh
  .next (if high == s.panel.absent then s
    else
      let s := (s.updPanel (fun p => { p with absent := high, scanning := false })).emitOut (.pin "PRST_N" (!high && decide (Node.setup ≤ s.mgmt)))
      if high then s.raise Reg.PNL_EVT 8 else s)

end Sys2Proof.Machine
end

