-- ==== Sys2Proof/Machine/Skink.lean ====
section
/-! DEFINITION. The twin supervisor's steps: failures, the hold, the return of an engine, the audit, ENGINE_CTL and the external pair (R298-R324, R534). -/

namespace Sys2Proof.Machine

/-! ## Failures (R301) -/

/-- A failure condition that the engines' own checks or Skink's hardware meet: causes 1 to 4 of Table 10-2; the others have steps of their own. LAG needs the engine out of credit, and not both in service so (R29). -/
def State.meets (s : State) (e : EngineId) (cause : Nat) : Bool :=
  inRange 1 3 cause ||
    (cause == 4 && s.noCredit e && !(s.bothServe && s.noCredit (other e)))

/-- An admitted TICK waits for an engine. -/
def State.tickWaits (s : State) (e : EngineId) : Bool :=
  s.inlet.stream.any (fun r => r.kind == Kind.tick && decide ((s.eng e).evalIsn.toNat < r.isn.toNat))

/-! ## The hold (R311, R314) -/

/-- The hold goes to the engine that may take it, after a holder's failure. -/
def State.takeOver (s : State) : State :=
  if !s.running || s.skink.holder.isSome then s else
  match s.candidate with
  | none => s
  | some e => (((s.grantHold e).bump Reg.SKINK_TAKEOVER_CNT).raise Reg.SKINK_EVT 1).offerStatus 0

/-- The engine to which the hold moves at this refresh: named by HANDOVER, or the preferred one just proved; level with the holder. -/
def State.takeBackTo (s : State) : Option EngineId :=
  match s.skink.holder with
  | none => none
  | some h =>
    let e := other h
    let x := s.eng e
    if x.svc == Svc.inService && (x.handReq || (x.proved && e == s.skink.preferred))
        && decide ((s.eng h).evalIsn.toNat ≤ x.evalIsn.toNat) then some e else none

def State.takeBack (s : State) : State :=
  match s.takeBackTo with
  | none => s
  | some e => (((s.releaseHold.grantHold e).bump Reg.SKINK_TAKEBACK_CNT).raise Reg.SKINK_EVT 2).offerStatus 0

/-! ## Return (R312, R313, R315) -/

/-- A failure of an engine that is out of service: recorded and reported. -/
def State.failAgain (s : State) (e : EngineId) (cause : Nat) : State := (s.recordFailure e cause).offerStatus cause

/-- A failed engine has been reset and has run its vector test; with an engine in service it enters RESYNC (R312). -/
def State.returnTest (s : State) (e : EngineId) (pass : Bool) : State :=
  if s.mgmt != Node.run || (s.eng e).svc != Svc.failed || s.skink.copy.isSome || !s.serves (other e) then s
  else if !pass then s.failAgain e 11
  else
    let s := s.updEng e (fun x => { x with svc := Svc.resync })
    let s := s.updSkink (fun k => { k with copy := some { source := other e, target := e } })
    s.offerResync Resync.copy 0 (BitVec.ofNat 32 (engNo e))

/-- What the copy carries: the state regions and the engine-wide state; the target evaluates from the record after COPY. -/
def Engine.copied (src tgt : Engine) (isn : U64) : Engine :=
  { tgt with
    evalIsn := isn, nextEsn := src.nextEsn, lastTick := src.lastTick, tickEpoch := src.tickEpoch, tickQual := src.tickQual,
    tickCap := src.tickCap, tickRel := src.tickRel, custN := src.custN, groupRefresh := src.groupRefresh,
    nodeRefresh := src.nodeRefresh, withheldCnt := src.withheldCnt, sealNo := src.sealNo, sealDue := src.sealDue,
    stHolder := src.stHolder, stSvc := src.stSvc, stCause := src.stCause, runStarted := src.runStarted, pts := src.pts,
    grs := src.grs, swept := src.swept, totals := src.totals, called := src.called,
    tickAt := src.tickAt, opened := src.opened, sweepAt := src.sweepAt, groupAt := src.groupAt, tickStage := src.tickStage, unreported := src.unreported,
    unreportedSwept := src.unreportedSwept, hashes := src.hashes, evq := [], evWait := [], audit := none, report := none, reports := [] }

/-- The copy ends (R312): verified, the target proves itself; otherwise it has failed, and the source goes on in either case. -/
def State.copyDone (s : State) (verified : Bool) : State :=
  match s.skink.copy with
  | none => s
  | some c =>
    if !c.started then s else
    let s := (s.updSkink (fun k => { k with copy := none })).updEng c.source (fun x => { x with stopped := false })
    if !verified then s.failAgain c.target 12
    else
      let s := s.setEng c.target { (s.eng c.source).copied (s.eng c.target) c.isn with
        svc := Svc.proving, provingSince := s.frcNat }
      let s := s.rewritten (fun w k => overlaps (stateOffset c.target 0) 0x280000 w k
        || (List.range 256).any (fun g => overlaps (halfOffset c.target g) 40 w k))
      (s.setChain c.target (s.chainNow c.source)).offerStatus 0

/-- RETURN_HOLDOFF has passed without a failed check (R313); the preferred engine then waits for the hold (R314). -/
def State.holdoffOver (s : State) (e : EngineId) : State :=
  if !s.sourcesRun || (s.eng e).svc != Svc.proving then s else
  let want := s.skink.preferred == e && s.skink.holder == some (other e)
  (s.updEng e (fun x => { x with svc := Svc.inService, proved := want })).offerStatus 0

/-! ## Audit and divergence (R307-R310, R534) -/

/-- An AUDIT record after a TICK that is a multiple of 1,000 (R307). -/
def State.auditOffer (s : State) : State :=
  let k := s.skink
  if s.mgmt != Node.run || !s.rbit Reg.SKINK_AUDIT_CTL 0 || s.inlet.tickNo.toNat % 1000 != 0
      || s.inlet.tickNo == k.auditTick || k.diverge.isSome then s
  else
    let s := s.updSkink (fun k => { k with auditTick := s.inlet.tickNo })
    if !s.bothServe then s.bump Reg.SKINK_AUDIT_SKIP_CNT
    else (s.updSkink (fun k => { k with auditPos := (k.auditPos + 1) % 81 })).offerResync Resync.audit 0 (BitVec.ofNat 32 k.auditPos)

/-- Indices at which two audit buffers differ. -/
def differing (a b : List U32) : List Nat :=
  ((a.zip b).zipIdx.filter (fun x => x.1.1 != x.1.2)).map Prod.snd

/-- Gecko compares the two buffers of one block; in REPLAY the bench's Skink does nothing about them (R344). -/
def State.auditCompare (s : State) : State :=
  match s.aeA.audit, s.aeB.audit with
  | some (ba, a), some (bb, b) =>
    if ba != bb then s else
    let s := (s.updEng .A (fun x => { x with audit := none })).updEng .B (fun x => { x with audit := none })
    let s := if ba = 80 && s.mgmt == Node.run then s.updSkink (fun k => { k with auditPasses := min (k.auditPasses + 1) 65535 }) else s
    match differing a b with
    | [] => s
    | i :: l =>
      if s.mgmt != Node.run then s else s.offerDiverge (divergeArg ba i (l.length + 1) 0)
  | _, _ => s

/-- The REPAIR records of a holder's breaking records, in ascending index (R534). -/
def State.offerRepairs (s : State) (block : Nat) (idx : List Nat) : State :=
  idx.foldl (fun s i => s.offerResync Resync.repair 0 (packU32 [(block, 0), (i, 7)])) s

/-- Table 10-5; while one engine is in service a DIVERGE decides nothing (R308). -/
def State.resolve (s : State) : State :=
  match s.skink.diverge with
  | none => s
  | some a =>
    if !s.bothServe then
      (if s.servers.any (fun e => (s.eng e).report.isSome) then s.divergeDone false else s)
    else
      match s.aeA.report, s.aeB.report with
      | some ra, some rb =>
        if !ra.isEmpty && rb.isEmpty then (s.failEngine .A 7).divergeDone true
        else if ra.isEmpty && !rb.isEmpty then (s.failEngine .B 7).divergeDone true
        else
          match s.nonHolder with
          | none => s
          | some e =>
            let keep := if e = .A then rb else ra
            ((s.failEngine e 8).offerRepairs (fld a 0 7) keep).divergeDone true
      | _, _ => s

/-! ## ENGINE_CTL (R318) -/

/-- ENGINE of Table 10-8. -/
def engOf : Nat → Option EngineId
  | 1 => some .A
  | 2 => some .B
  | _ => none

/-- REMOVE: a failure of cause 10 (Table 10-2). -/
def State.removeEngine (s : State) (e : EngineId) : State := s.failEngine e 10

def State.engineCtl (s : State) (d : Desc) : State :=
  let func := d.arg 8 1
  match engOf (d.arg 9 1) with
  | none => s.done d Status.badArg
  | some e =>
    let x := s.eng e
    if !d.resv 0xA 54 || decide (3 < func) then s.done d Status.badArg
    else if func = 0 then (s.updSkink (fun k => { k with preferred := e })).done d Status.ok
    else if s.mgmt != Node.run then s.done d Status.state
    else if func = 1 then
      if x.serving && !s.serves (other e) then s.done d Status.state
      else (if x.serving then s.removeEngine e else s).done d Status.ok
    else if func = 2 then
      if s.skink.copy.isSome then s.done d Status.busy
      else if (x.svc != Svc.offline && x.svc != Svc.failed) || x.vecFailed then s.done d Status.state
      else
        let s := if x.svc = Svc.offline then (s.updEng e (fun x => { x with svc := Svc.failed })).offerStatus 0 else s
        s.done d Status.ok
    else if s.skink.holder = some e || x.svc != Svc.inService then s.done d Status.state
    else (s.updEng e (fun x => { x with handReq := true })).done d Status.ok

/-! ## The external pair (R319-R322) -/

/-- An engine holds, or a take-over has a candidate (R320, R321). -/
def State.pairEligible (s : State) : Bool :=
  s.mgmt == Node.run && (s.skink.holder.isSome || s.candidate.isSome)

/-- The claim is given up: INTLK_OUT_N goes to high impedance. -/
def State.dropClaim (s : State) : State :=
  (s.updSkink (fun k => { k with claim := false, sharing := false })).emitOut (.pin "INTLK_OUT_N" true)

/-- INTLK_IN_N changes: low before the claimant has driven its outputs is a tie, which the higher NODE_ID loses (R320). -/
def State.intlkIn (s : State) (high : Bool) : State :=
  let s := s.updSkink (fun k => { k with intlkInHigh := high })
  if !high && s.skink.claim && !s.skink.sharing && decide (s.rfld Reg.PAIR_CTL 8 6 < s.nodeId) then
    (s.dropClaim.bump Reg.PAIR_TIE_CNT).raise Reg.SKINK_EVT 0x40
  else s

/-- INTLK_IN_N has been high for 50 µs: the module claims (R320). -/
def State.pairClaim (s : State) : State :=
  if !s.paired || s.skink.claim || !s.pairEligible || !s.skink.intlkInHigh then s
  else if s.rfld Reg.PAIR_CTL 8 6 = s.nodeId then s.raise Reg.SKINK_EVT 0x80
  else ((s.updSkink (fun k => { k with claim := true })).bump Reg.PAIR_CLAIM_CNT).emitOut (.pin "INTLK_OUT_N" false)

/-- The shared outputs are commanded off (R321): outside RUN and REPLAY the banks' other outputs keep their last commanded levels. -/
def State.sharedOff (s : State) : State :=
  if s.running then s.extraFrames
  else (List.range 4).foldl (fun s b =>
    let k := s.bank b
    let img := k.commanded &&& ~~~bankMask b s.sharedOut
    if s.stalled (b / 2) || img == k.commanded then s else s.frameOf false b img) s

/-- The claimant is no longer eligible: its shared outputs go off, and then the claim (R321). -/
def State.pairRelease (s : State) : State :=
  if !s.skink.claim || s.pairEligible then s
  else (s.updSkink (fun k => { k with sharing := false })).sharedOff.dropClaim

/-- The module enters PAIR_LOST (R322). -/
def State.pairLost (s : State) : State := (s.bump Reg.PAIR_LOST_CNT).raise Reg.SKINK_EVT 0x20

/-- PAIR_CTL.EN has come to 1 since `before`: with no cable the module enters PAIR_LOST. -/
def State.pairEnabled (s before : State) : State :=
  if s.rbit Reg.PAIR_CTL 0 && !before.rbit Reg.PAIR_CTL 0 && s.skink.pairSenseHigh then s.pairLost else s

def State.pairSense (s : State) (high : Bool) : State :=
  let was := s.skink.pairSenseHigh
  let s := s.updSkink (fun k => { k with pairSenseHigh := high })
  if high && !was && s.rbit Reg.PAIR_CTL 0 then s.pairLost else s

/-- AE_INJECT: 0x5A fails the engine with cause 3, in RUN while the other is IN_SERVICE, whatever its own service state is; one that is OFFLINE stays so (Table 10-11, R298). -/
def State.inject (s : State) (e : EngineId) (v : U32) : State :=
  if v = 0x5A && s.mgmt = Node.run && (s.eng (other e)).svc = Svc.inService then
    if s.serves e || s.isTarget e then s.failEngine e 3 else s.failOut e 3
  else s.ignored (Reg.AE_INJECT (engIx e)) Why.cmdState

/-! ## The steps -/

def execEngineFailure (e : EngineId) (cause : Nat) (s : State) : Host.Outcome State Fault Refusal :=
  need (inRange 1 12 cause) (if s.fresh.meets e cause then s.fresh.failEngine e cause else s.fresh)

/-- The 5 ms without progress have passed (R301); an engine that Outlet keeps waiting in REPLAY does not stall (DEDUCED, log entry 29). -/
def State.stalls (s : State) (e : EngineId) : Bool := s.running && s.tickWaits e && !s.outletFull

/-- The step is the passing of the 5 ms (R301). -/
def execTickStall (e : EngineId) (s : State) : Host.Outcome State Fault Refusal :=
  .next (if s.fresh.stalls e then s.fresh.failEngine e 5 else s.fresh)

def execHoldGrant (s : State) : Host.Outcome State Fault Refusal := .next s.fresh.takeOver

def execTakeBack (s : State) : Host.Outcome State Fault Refusal := .next s.fresh.takeBack

def execEngineReturnTest (e : EngineId) (pass : Bool) (s : State) : Host.Outcome State Fault Refusal :=
  .next (s.fresh.returnTest e pass)

def execStateCopyComplete (verified : Bool) (s : State) : Host.Outcome State Fault Refusal :=
  .next (s.fresh.copyDone verified)

def execReturnHoldoffExpiry (e : EngineId) (s : State) : Host.Outcome State Fault Refusal :=
  .next (s.fresh.holdoffOver e)

def execAuditOffer (s : State) : Host.Outcome State Fault Refusal := .next s.fresh.auditOffer

def execAuditCompare (s : State) : Host.Outcome State Fault Refusal := .next s.fresh.auditCompare

def execDivergeResolution (s : State) : Host.Outcome State Fault Refusal := .next s.fresh.resolve

/-- AE_INJECT (R324): 0x5A fails the engine in RUN, while the other engine is IN_SERVICE. -/
def execAeInject (e : EngineId) (v : U32) (s : State) : Host.Outcome State Fault Refusal :=
  .next (s.fresh.inject e v)

def execEngineCtl (s : State) : Host.Outcome State Fault Refusal :=
  .next (s.fresh.dirCmd 0x71 (fun d s => s.engineCtl d))

def execIntlkInChange (high : Bool) (s : State) : Host.Outcome State Fault Refusal := .next (s.fresh.intlkIn high)

def execPairClaim (s : State) : Host.Outcome State Fault Refusal := .next s.fresh.pairClaim

def execPairRelease (s : State) : Host.Outcome State Fault Refusal := .next s.fresh.pairRelease

def execPairSenseChange (high : Bool) (s : State) : Host.Outcome State Fault Refusal := .next (s.fresh.pairSense high)

end Sys2Proof.Machine
end

