-- ==== Sys2Proof/Machine/Wellspring.lean ====
section
/-! DEFINITION. Wellspring at work: TIME_ADJ, the node servo, the Ethernet ports and the timed outputs (R408-R436). -/

namespace Sys2Proof.Machine

def State.updWs (s : State) (f : Wellspring → Wellspring) : State := { s with ws := f s.ws }
def State.updServo (s : State) (f : Servo → Servo) : State := s.updWs (fun w => { w with servo := f w.servo })

def State.servoHost (s : State) : Bool := s.rbit Reg.WS_CTL 0

/-! ## Ranges and steps (R409, R410) -/

/-- A rate of `bits` fraction bits lies within ±500 ppm of 5.0. -/
def rateOk (v bits : Nat) : Bool := decide (49975 * 2 ^ bits ≤ 10000 * v) && decide (10000 * v ≤ 50025 * 2 ^ bits)

/-- INC for a RATE: its 32 upper fraction bits, no less than the least INC of the range (DEDUCED, log entry 82). -/
def incOf (rate : Nat) : U64 := BitVec.ofNat 64 (max ((49975 * 2 ^ 32 + 9999) / 10000) (rate / 2 ^ 24))

/-- A step in INCREMENT mode adds whole nanoseconds to the counter. -/
def State.incStep (s : State) (step : Int) : State :=
  let t := s.now
  State.stepped { s with ws := { s.ws with counter := s.ws.counter + ofInt 96 (step * 2 ^ 32) } } step false t

/-! ## TIME_ADJ (R430) -/

/-- Arguments that Table 14-5 answers with BAD_ARG. -/
def State.adjBad (s : State) (d : Desc) : Bool :=
  let f := d.arg 8 1
  let sel := d.arg 9 1
  let step := sext 64 (d.arg 0x20 8)
  let at_ := d.arg 0x10 8
  let asym := sext 32 (d.arg 0x20 4)
  decide (7 < f) || !d.resv 0xA 6 || !d.resv 0x38 8
    || (match f with
        | 5 => !(sel == 2 || sel == 3)
        | 6 => decide (7 < sel)
        | 7 => decide (1 < sel)
        | _ => sel != 0)
    || ((f == 0 || f == 3) && !rateOk (d.arg 0x18 8) 56)
    || ((f == 1 || f == 4) && !rateOk (d.arg 0x28 8) 32)
    || ((f == 0 || f == 3 || f == 4) && decide (s.frcNat + 2 ^ 32 < at_))
    || ((f == 0 || f == 2 || f == 3 || f == 4) && decide (2 ^ 62 ≤ step.natAbs))
    || (f == 7 && decide (10000000 < asym.natAbs))

/-- Object states that Table 14-5 answers with STATE. -/
def State.adjState (s : State) (d : Desc) : Bool :=
  let f := d.arg 8 1
  (decide (f ≤ 5) && !s.servoHost) || ((f == 0 || f == 4) && !s.ws.normal)
    || ((f == 1 || f == 2 || f == 3) && s.ws.normal) || (f == 6 && s.tmoMode (d.arg 9 1) != 1)

/-- A switch is armed; its command completes when it has been applied. -/
def State.armSwitch (s : State) (d : Desc) : State :=
  let f := d.arg 8 1
  let at_ : U64 := BitVec.ofNat 64 (d.arg 0x10 8)
  let late := decide (at_.toNat < s.frcNat)
  let sw : Switch := { at_ := if late then s.ws.frc + 1 else at_, step := sext 64 (d.arg 0x20 8), normal := f != 4,
                       rate := BitVec.ofNat 64 (d.arg 0x18 8), inc := BitVec.ofNat 64 (d.arg 0x28 8), late := late,
                       cmd := some (d.tag, d.irqNow), func := f }
  let s := if late then s.bump Reg.WS_SWITCH_LATE_CNT else s
  (s.updWs (fun w => { w with armed := some sw })).defer d.tag d.irqNow 0x75

/-- The asymmetry of a port changes: where it is the servo's, A does, and the prediction is reset (R426). -/
def State.asymChanged (s : State) (p : Nat) : State :=
  if (s.ws.servo.master.map (fun m => m.2 == p)).getD false then s.updServo (fun x => { x with predOk := false }) else s

/-- PTP_ASYM_RUN is written. -/
def State.setAsymRun (s : State) (p : Nat) (v : U32) : State := (s.setReg (Reg.PTP_ASYM_RUN p) v).asymChanged p

def State.timeAdj (s : State) (d : Desc) : State :=
  let f := d.arg 8 1
  let sel := d.arg 9 1
  if s.adjBad d then s.done d Status.badArg
  else if s.adjState d then s.done d Status.state
  else if (f == 0 || f == 2 || f == 3 || f == 4) && s.ws.armed.isSome then s.done d Status.busy
  else match f with
    | 1 => (s.updWs (fun w => { w with inc := BitVec.ofNat 64 (d.arg 0x28 8), quality := 4 })).done d Status.ok
    | 2 =>
      let s := ((s.elapse 1).incStep (sext 64 (d.arg 0x20 8))).updWs (fun w => { w with quality := 4 })
      s.done d Status.ok s.ws.frc
    | 5 =>
      let q : BitVec 3 := BitVec.ofNat 3 sel
      -- PTP_LOCKED and HOLDOVER are qualities of NORMAL mode (Table 14-2): in INCREMENT the host's word is kept for the next switch (DEDUCED, log entry 73).
      (s.updWs (fun w => { w with quality := if w.normal then q else w.quality, hostQuality := q })).done d Status.ok
    | 6 =>
      ((s.setPair (Reg.TMO_START_LO sel) (Reg.TMO_START_HI sel) (BitVec.ofNat 64 (d.arg 0x30 8))).tmoArm sel).done d Status.ok
    | 7 => (s.setAsymRun sel (u32At d.raw 0x20)).done d Status.ok
    | _ => s.armSwitch d

/-! ## The node servo (R421-R428) -/

abbrev Servo.free : Nat := 0
abbrev Servo.acquire : Nat := 1
abbrev Servo.locked : Nat := 2
abbrev Servo.holdover : Nat := 3
abbrev Servo.suspect : Nat := 4

/-- The servo runs: not for the host, and not in the activation pause (R428). -/
def State.servoRuns (s : State) : Bool := !s.servoHost && decide (Node.setup ≤ s.mgmt) && s.mgmt != Node.activating

/-- The port takes part in PTP. -/
def State.ptpPort (s : State) (p : Nat) : Bool := s.rbit (Reg.ETH_CTL p) 0 && s.rbit (Reg.ETH_CTL p) 1

/-- A latency register's value at the port's present speed. -/
def State.phyLat (s : State) (o : Off) (p : Nat) : Nat :=
  if s.rbit (Reg.ETH_STATUS p) 1 then s.rfld o 0 16 else s.rfld o 16 16

/-- The timestamp of a frame received now, and of one sent now (R419). -/
def State.rxStamp (s : State) (p : Nat) : U64 := s.now - BitVec.ofNat 64 (s.phyLat (Reg.PTP_RXLAT p) p)
def State.txStamp (s : State) (p : Nat) : U64 := s.now + BitVec.ofNat 64 (s.phyLat (Reg.PTP_TXLAT p) p)

/-- Effective asymmetry A of a port. -/
def State.asymmetry (s : State) (p : Nat) : Int :=
  (s.reg (Reg.PTP_ASYM p)).toInt + (s.reg (Reg.PTP_ASYM_RUN p)).toInt

/-- An offset as a register of 32 bits shows it. -/
def sat32 (i : Int) : U32 := ofInt 32 (max (-2147483648) (min 2147483647 i))

def State.lockThresh (s : State) : Nat := s.rfld Reg.WS_LOCK_CFG 0 16
def State.stepThresh (s : State) : Nat := 1000 * s.rfld Reg.WS_LOCK_CFG 16 16
def State.jumpLimit (s : State) : Nat := s.rfld Reg.WS_SERVO_CFG 0 16
def State.pdConfirm (s : State) : Nat := s.rfld Reg.WS_SERVO_CFG 16 8

def State.setServo (s : State) (st : Nat) (q : BitVec 3) : State :=
  s.updWs (fun w => { w with servoState := st, quality := q })

/-- SERVO_HOST changes: the servo is FREE with the mode as left, and a NORMAL time runs on in HOLDOVER until someone locks it (Tables 14-2, 14-3; DEDUCED, log entry 73). CTRL sends no PTP frame for the host: a Delay_Req that waits is dropped (R429). -/
def State.servoChange (s : State) : State :=
  (s.updServo (fun p => { p with master := none, t3 := none })).updWs (fun w =>
    { w with port0 := { w.port0 with txServo := [] }, port1 := { w.port1 with txServo := [] }, servoState := Servo.free, hostQuality := 3, quality := if w.normal then 3 else w.quality })

/-- A PTP message of the node's domain, over its transport (R421). -/
def State.ptpTakes (s : State) (h : PtpHeader) : Bool :=
  h.domain.toNat == s.rfld Reg.PTP_CFG 0 8 && h.udp == s.rbit Reg.PTP_CFG 8

/-- A committed step of the servo (R423). -/
def State.servoStep (s : State) (step : Int) : State :=
  if s.ws.normal then s.doSwitch { at_ := s.ws.frc, step := step, normal := true, rate := s.ws.rate } else s.incStep step

/-- The least RATE of the allowed range, and the number of values in it. -/
def rateLo : Nat := (49975 * 2 ^ 56 + 9999) / 10000
def rateSpan : Nat := 50025 * 2 ^ 56 / 10000 - rateLo + 1

/-- A slew: the frequency estimate and the RATE within ±100 ppm of it are free values within their ranges (R423). -/
def State.servoSlew (s : State) : State :=
  let (i, s) := s.draw
  let freq := rateLo + (Config.freeFreq i).toNat % rateSpan
  let w := freq / 10000
  let rate := max rateLo (min (rateLo + rateSpan - 1) (freq - w + (Config.freeSlew i).toNat % (2 * w + 1)))
  let s := s.updServo (fun x => { x with freq := BitVec.ofNat 64 freq })
  if s.ws.normal then
    s.doSwitch { at_ := s.ws.frc, step := 0, normal := true, rate := BitVec.ofNat 64 rate }
  else s.updWs (fun w => { w with inc := incOf rate })

/-- Entry to LOCKED; from INCREMENT mode by a switch to NORMAL with STEP 0 and RATE = INC. -/
def State.servoLock (s : State) : State :=
  let s := if s.ws.normal then s
    else s.doSwitch { at_ := s.ws.frc, step := 0, normal := true, rate := s.ws.inc <<< 24 }
  (s.setServo Servo.locked 2).raise Reg.WS_EVT 0x20

/-- Entry to SUSPECT (R426). -/
def State.servoSuspect (s : State) : State :=
  (((s.setServo Servo.suspect 3).updServo (fun x => { x with pds := [] })).bump Reg.WS_SUSPECT_CNT).raise Reg.WS_EVT 0x10

/-- The next prediction is drawn after every measurement. -/
def State.predict (s : State) : State :=
  let (i, s) := s.draw
  s.updServo (fun x => { x with pred := (Config.freePred i).toInt, predOk := true })

/-- A measured offset in ACQUIRE. -/
def State.acquireSync (s : State) (o : Int) : State :=
  let s := if s.ws.normal then s else s.updWs (fun w => { w with quality := 4 })
  if s.stepThresh < o.natAbs then (s.servoStep (-o)).updServo (fun x => { x with lockRun := 0 })
  else
    let s := s.servoSlew
    let n := if o.natAbs < s.lockThresh then s.ws.servo.lockRun + 1 else 0
    let s := s.updServo (fun x => { x with lockRun := n })
    if 16 ≤ n then s.servoLock else s

/-- A measured offset in LOCKED. -/
def State.lockedSync (s : State) (o : Int) : State :=
  if s.ws.servo.predOk && decide (s.jumpLimit < (o - s.ws.servo.pred).natAbs) then s.servoSuspect
  else if s.stepThresh < o.natAbs then s.servoStep (-o)
  else s.servoSlew

/-- The master of the servo is this one, on this port. -/
def State.isMaster (s : State) (m : U64) (p : Nat) : Bool := s.ws.servo.master == some (m, p)

/-- A Sync and its Follow_Up complete an offset measurement (R422); the time is that of the Sync's SFD. The node accepts a logSyncInterval of −4 to +1 (R421). -/
def State.syncReceived (s : State) (p : Nat) (m : PtpSync) : State :=
  if !s.servoRuns || !s.ptpPort p || !s.ptpTakes m.hdr || !s.isMaster m.master p
    || !(decide (-4 ≤ m.logInterval) && decide (m.logInterval ≤ 1)) then s else
  let fwd := (s.rxStamp p - m.t1).toInt
  let o := fwd - s.ws.servo.d - s.asymmetry p
  let s := (s.updServo (fun x => { x with fwd := fwd })).setReg Reg.WS_LAST_OFS (sat32 o)
  let s := match s.ws.servoState with
    | 1 => s.acquireSync o
    | 2 => s.lockedSync o
    | _ => s
  s.predict

def State.setD (s : State) (d : Int) : State :=
  (s.updServo (fun x => { x with d := d, haveD := true })).setReg Reg.WS_MEAN_PD (sat32 d)

/-- D after an ordinary measurement: the first one, and then what the servo's filter gives. -/
def State.filterD (s : State) (md : Int) : State :=
  let (i, s) := s.draw
  s.setD (if s.ws.servo.haveD then (Config.freeDelay i).toInt else md)

/-- A path-delay measurement in SUSPECT, and what the last of PD_CONFIRM consistent ones decides (R426). -/
def State.suspectDelay (s : State) (p : Nat) (md : Int) : State :=
  let pds := match s.ws.servo.pds with
    | [] => [md]
    | a :: l => if 4 * (md - a).natAbs ≤ s.jumpLimit then a :: l ++ [md] else [md]
  let s := s.updServo (fun x => { x with pds := pds })
  if pds.length < s.pdConfirm then s
  else
    let s := (s.setD (pds.sum.fdiv pds.length)).updServo (fun x => { x with pds := [], lockRun := 0, predOk := false })
    let o := s.ws.servo.fwd - s.ws.servo.d - s.asymmetry p
    let s := s.setReg Reg.WS_LAST_OFS (sat32 o)
    if o.natAbs < s.lockThresh then s.servoLock else s.setServo Servo.acquire 3

/-- A Delay_Resp yields a mean path delay from the last Sync and the outstanding Delay_Req. -/
def State.delayResp (s : State) (p : Nat) (m : PtpDelayResp) : State :=
  match s.ws.servo.t3 with
  | none => s
  | some (q, t3) =>
    if !s.servoRuns || !s.ptpPort p || !s.ptpTakes m.hdr || !s.isMaster m.master p || q != m.seq then s else
    let md := (s.ws.servo.fwd + (m.t4 - t3).toInt).fdiv 2
    let s := s.updServo (fun x => { x with t3 := none })
    if s.ws.servoState = Servo.suspect then s.suspectDelay p md
    else if s.ws.servoState = Servo.locked && s.ws.servo.haveD && decide (s.jumpLimit < (md - s.ws.servo.d).natAbs) then
      s.servoSuspect
    else s.filterD md

/-- A clockIdentity in the order in which identities compare: byte 0 weighs most. -/
def identityRank (id : U64) : Nat := beNat (leBytes 8 id.toNat)

/-- The dataset comparison of the best master clock algorithm, as a list in order of weight: the grandmaster's dataset and identity, then its distance, the sender and the receiving port (PRESUMED from IEEE 1588-2019, which R421 names, log entry 73). -/
def PtpRank (a : PtpAnnounce) (port : Nat) : List Nat :=
  [a.priority1.toNat, a.clockClass.toNat, a.accuracy.toNat, a.variance.toNat, a.priority2.toNat, identityRank a.grandmaster,
    a.stepsRemoved.toNat, identityRank a.master, port]

/-- One list precedes another. -/
def precedes : List Nat → List Nat → Bool
  | a :: l, b :: m => decide (a < b) || (a == b && precedes l m)
  | _, _ => false

/-- A master is taken (R425): ACQUIRE with its quality of Table 14-3 at once, before a first correction in INCREMENT too (DEDUCED, log entry 73), and a change of master is counted. -/
def State.takeMaster (s : State) (m : U64) (p : Nat) : State :=
  let was := s.ws.servo.lastMaster
  let s := if was.isSome && was != some (m, p) then (s.bump Reg.WS_MASTER_CHANGE_CNT).raise Reg.WS_EVT 0x40 else s
  let s := s.setPair Reg.WS_MASTER_ID_LO Reg.WS_MASTER_ID_HI m
  let s := s.updServo (fun x => { x with
    master := some (m, p), lastMaster := some (m, p), best := none, lockRun := 0, pds := [], predOk := false, t3 := none,
    haveD := x.haveD && was == some (m, p), d := if was == some (m, p) then x.d else 0 })
  State.setServo (s.setReg Reg.WS_MEAN_PD (sat32 s.ws.servo.d)) Servo.acquire (if s.ws.normal then 3 else 4)

/-- The foreign-master window of IEEE 1588-2019, which R421 names: 4 announce intervals (PRESUMED from that standard, log entry 73), in CORE clocks. -/
def foreignWindow (logInterval : Int) : Nat :=
  if 0 ≤ logInterval then 800000000 * 2 ^ logInterval.toNat else 800000000 / 2 ^ (-logInterval).toNat

/-- An earlier Announce of this sender on this port lies inside the foreign-master window: with this one the master qualifies (R421; two Announces, and stepsRemoved below 255, PRESUMED from IEEE 1588-2019, log entry 73). -/
def State.qualifies (s : State) (p : Nat) (m : PtpAnnounce) : Bool :=
  decide (m.stepsRemoved.toNat < 255) &&
    s.ws.servo.heard.any (fun h => h.master == m.master && h.port == p && decide (s.frcNat ≤ h.at_ + foreignWindow m.logInterval))

/-- The Announce is remembered; of each sender and port the last one is. -/
def State.hear (s : State) (p : Nat) (m : PtpAnnounce) : State :=
  let h : Heard := { master := m.master, port := p, at_ := s.frcNat }
  s.updServo (fun x => { x with heard := x.heard.filter (fun y => !(y.master == m.master && y.port == p)) ++ [h] })

/-- The best foreign master of which an Announce has come within its window. -/
def State.foreign (s : State) : Option PtpAnnounce :=
  s.ws.servo.best.filter (fun b => decide (s.frcNat ≤ s.ws.servo.bestSeen + foreignWindow b.logInterval))

/-- An Announce (R421, R425): the best qualified foreign master is remembered, and taken from FREE or HOLDOVER. -/
def State.announce (s : State) (p : Nat) (m : PtpAnnounce) : State :=
  if !s.servoRuns || !s.ptpPort p || !s.ptpTakes m.hdr then s else
  let s := s.setRegBit (Reg.ETH_STATUS p) 2 true
  let qualified := s.qualifies p m
  let s := s.hear p m
  if !qualified || s.isMaster m.master p then s else
  let sv := s.ws.servo
  let keep := match s.foreign with
    | none => false
    | some b => (b.master != m.master || sv.bestPort != p) && precedes (PtpRank b sv.bestPort) (PtpRank m p)
  let s := if keep then s else s.updServo (fun x => { x with best := some m, bestPort := p, bestSeen := s.frcNat })
  if s.ws.servoState = Servo.free || s.ws.servoState = Servo.holdover then
    match s.ws.servo.best with
    | some b => s.takeMaster b.master s.ws.servo.bestPort
    | none => s
  else s

/-- A big-endian IEEE 1588 Delay_Req message: header, and an origin timestamp of 0. -/
def State.delayReqMsg (s : State) (p : Nat) : List Byte :=
  [0x01, 0x12, 0, 44, BitVec.ofNat 8 (s.rfld Reg.PTP_CFG 0 8), 0, 0, 0] ++ zeros 12
    ++ leBytes 4 (s.reg Reg.PTP_CLOCK_ID_LO).toNat ++ leBytes 4 (s.reg Reg.PTP_CLOCK_ID_HI).toNat ++ beBytes 2 (p + 1)
    ++ beBytes 2 s.ws.servo.seq.toNat ++ [1, 0x7F] ++ zeros 10

/-- The frame that carries it: Layer 2, or UDP/IPv4 to 224.0.1.129 port 319 (R421). -/
def State.delayReqFrame (s : State) (p : Nat) : List Byte :=
  let m := s.delayReqMsg p
  if s.rbit Reg.PTP_CFG 8 then
    let src := beBytes 4 (s.reg (Reg.ETH_IPV4 p)).toNat
    let dst := [224, 0, 1, 129]
    let udp := udpSegment src dst 319 m
    let ip := fun c => [0x45, 0] ++ beBytes 2 (20 + udp.length) ++ [0, 0, 0x40, 0, 1, 17] ++ beBytes 2 c ++ src ++ dst
    [0x01, 0x00, 0x5E, 0, 1, 129] ++ s.ethMac p ++ [0x08, 0x00] ++ ip (inetChecksum (ip 0)) ++ udp
  else [0x01, 0x1B, 0x19, 0, 0, 0] ++ s.ethMac p ++ [0x88, 0xF7] ++ m

/-- A Delay_Req to the servo's master waits for its port; its t3 is taken as it is sent (R419). -/
def State.sendDelayReq (s : State) : State :=
  match s.ws.servo.master with
  | none => s
  | some (_, p) =>
    if !s.servoRuns || !s.ptpPort p then s else
    let f := s.delayReqFrame p
    let q := s.ws.servo.seq
    (s.updPort p (fun x => { x with txServo := x.txServo ++ [(q, f)] })).updServo (fun x => { x with seq := x.seq + 1 })

/-- The master is lost (R425). -/
def State.loseMaster (s : State) : State :=
  match s.ws.servo.master with
  | none => s
  | some (_, p) =>
    if !s.servoRuns then s else
    let s := (s.setRegBit (Reg.ETH_STATUS p) 2 false).updServo (fun x => { x with master := none, t3 := none, pds := [], lockRun := 0 })
    ((s.setServo Servo.holdover (if s.ws.normal then 3 else s.ws.quality)).bump Reg.WS_HOLDOVER_CNT).raise Reg.WS_EVT 8

/-- 600 s in ACQUIRE and NORMAL without lock: INCREMENT, and ACQUIRE again (Table 14-3). -/
def State.acquireAgain (s : State) : State :=
  if s.servoRuns && s.ws.servoState = Servo.acquire && s.ws.normal then
    let s := s.doSwitch { at_ := s.ws.frc, step := 0, normal := false, inc := incOf s.ws.rate.toNat }
    (s.updServo (fun x => { x with lockRun := 0 })).setServo Servo.acquire 4
  else s

/-! ## Ethernet ports (R415-R420) -/

def State.ethUp (s : State) (p : Nat) : Bool := s.rbit (Reg.ETH_CTL p) 0 && s.rbit (Reg.ETH_STATUS p) 0

/-- The EtherType of an untagged frame. -/
def etherType (l : List Byte) : Nat := beNat (slice l 12 2)

/-- A PTP message: EtherType 0x88F7, or UDP to port 319 or 320. -/
def isPtp (l : List Byte) : Bool :=
  etherType l == 0x88F7 ||
    (etherType l == 0x0800 && leAt l 23 1 == 17 &&
      (let port := beNat (slice l (14 + 4 * (leAt l 14 1 % 16) + 2) 2); port == 319 || port == 320))

/-- A group address. -/
def isGroup (l : List Byte) : Bool := bitAt (byteAt l 0) 0

/-- The longest frame without FCS: 1,518 B, 1,522 B with a VLAN tag, less four. -/
def rxLong (l : List Byte) : Bool := decide ((if etherType l = 0x8100 then 1518 else 1514) < l.length)

/-- A received frame: to the servo, to the ring, or discarded (R417). -/
def State.ethReceive (s : State) (p : Nat) (f : EthRx) : State :=
  if !s.ethUp p then s
  else if !f.fcsOk then s.bump (Reg.ETH_RX_FCS_CNT p)
  else
    let s := s.bump (Reg.ETH_RX_FRAME_CNT p)
    let l := f.data
    let ptp := isPtp l
    let s := if ptp then s.bump (Reg.PTP_MSG_CNT p) else s
    let own := slice l 0 6 == s.ethMac p
    let up := if ptp then s.servoHost
      else s.rbit (Reg.ETH_CTL p) 2 && (own || isGroup l) && etherType l != 0x8808
    if rxLong l then s.bump (Reg.ETH_RX_DROP_CNT p)
    else if up then
      if s.ringCredit (28 + p) = 0 then s.ringLoss (28 + p)
      else s.postBuffer (28 + p) f.addr (leBytes 2 (8 + l.length) ++ leBytes 2 1 ++ leBytes 4 (b2n ptp + 2 + 4 * b2n (isGroup l)))
        (leBytes 8 (s.rxStamp p).toNat ++ l)
    else if ptp && s.ptpPort p then s
    else s.bump (Reg.ETH_RX_DROP_CNT p)

/-- A frame leaves the port, padded to 60 B. -/
def State.ethSend (s : State) (p : Nat) (l : List Byte) : State :=
  (s.emitOut (.ethFrame p (fit (max 60 l.length) l))).bump (Reg.ETH_TX_FRAME_CNT p)

/-- The next frame of a port in class order (R416), its SFD at the MAC now (R419). Descriptors already prefetched are consumed in the activation pause too, as doorbell reads go on in it (DESIGN CHOICE, log entry 80). -/
def State.ethTransmit (s : State) (p : Nat) (buf : Image) : State :=
  if !s.ethUp p then s else
  match (s.port p).txServo, s.fetchedOf (26 + p), (s.port p).txPub with
  | (q, f) :: l, _, _ =>
    let t := s.txStamp p
    (((s.updPort p (fun x => { x with txServo := l })).updServo (fun x => { x with t3 := some (q, t) }))).ethSend p f
  | [], d :: _, _ =>
    let s := (s.readBuffer d).takeHead (26 + p)
    let len := leAt d 8 2
    let info := u32At d 0xC
    match buf with
    | none => s.bump (Reg.ETH_TX_BAD_CNT p)
    | some b =>
      let f := fit len b
      if len < 14 || decide ((if etherType f = 0x8100 then 1518 else 1514) < len) then s.bump (Reg.ETH_TX_BAD_CNT p)
      else
        let s := s.ethSend p f
        if bitAt info 16 then s.updPort p (fun x => { x with tsWait := x.tsWait ++ [(info.truncate 16, s.txStamp p)] }) else s
  | [], [], f :: l => (s.updPort p (fun x => { x with txPub := l })).ethSend p f
  | [], [], [] => s

/-- The FCS of a TS_REQ frame has left the MAC (R420). -/
def State.ethStamp (s : State) (p : Nat) : State :=
  match (s.port p).tsWait with
  | [] => s
  | (id, t) :: l =>
    let s := s.updPort p (fun x => { x with tsWait := l })
    if (s.port p).txts.length < 16 then s.updPort p (fun x => { x with txts := x.txts ++ [(id, t)] })
    else (s.raise (Reg.PTP_TXTS_STAT p) 1).bump (Reg.PTP_TXTS_OVF_CNT p)

/-! ## The steps -/

/-- `dt` CORE clocks pass before CTRL takes the command. -/
def execTimeAdj (dt : Nat) (s : State) : Host.Outcome State Fault Refusal :=
  let s := s.fresh.pass dt
  .next (State.tmoEdges s (s.dirCmd 0x75 (fun d s => s.timeAdj d)))

/-- FRC reaches the armed switch. -/
def execTimeSwitch (s : State) : Host.Outcome State Fault Refusal :=
  let s := s.fresh
  .next (match s.ws.armed with
    | some sw => s.pass (sw.at_ - s.ws.frc).toNat
    | none => s)

/-- `dt` CORE clocks bring the time to the SFD of the Sync. -/
def execPtpSyncReceived (port : Nat) (m : PtpSync) (dt : Nat) (s : State) : Host.Outcome State Fault Refusal :=
  let s := s.fresh.pass dt
  need (decide (port < 2)) (State.tmoEdges s (s.syncReceived port m))

def execPtpDelayRespReceived (port : Nat) (m : PtpDelayResp) (s : State) : Host.Outcome State Fault Refusal :=
  need (decide (port < 2)) (s.fresh.delayResp port m)

def execPtpAnnounceReceived (port : Nat) (m : PtpAnnounce) (s : State) : Host.Outcome State Fault Refusal :=
  need (decide (port < 2)) ((s.fresh.pass m.dt).announce port m)

def execDelayReqSend (dt : Nat) (s : State) : Host.Outcome State Fault Refusal :=
  .next (s.fresh.pass dt).sendDelayReq

def execMasterLoss (s : State) : Host.Outcome State Fault Refusal := .next s.fresh.loseMaster

def execAcquireTimeout (s : State) : Host.Outcome State Fault Refusal := .next s.fresh.acquireAgain

/-- HOST_TIMEOUT s without a TIME_ADJ in NORMAL mode (R429); the activation pause leaves the quality unchanged (R428). -/
def execHostTimeout (s : State) : Host.Outcome State Fault Refusal :=
  let s := s.fresh
  .next (if s.servoHost && s.ws.normal && s.mgmt != Node.activating then s.updWs (fun w => { w with quality := 3 }) else s)

/-- `dt` CORE clocks bring the time to the end of the frame's SFD (R419). -/
def execEthFrameReceived (port : Nat) (fr : EthRx) (dt : Nat) (s : State) : Host.Outcome State Fault Refusal :=
  need (decide (port < 2)) ((s.fresh.pass dt).ethReceive port fr)

def execEthTxFrame (port : Nat) (f : EthTx) (s : State) : Host.Outcome State Fault Refusal :=
  need (decide (port < 2)) ((s.fresh.pass f.dt).ethTransmit port f.buf)

def execEthTxTimestamp (port : Nat) (dt : Nat) (s : State) : Host.Outcome State Fault Refusal :=
  need (decide (port < 2)) ((s.fresh.pass dt).ethStamp port)

def execEthLinkChange (port : Nat) (up : Bool) (gig : Bool) (s : State) : Host.Outcome State Fault Refusal :=
  let s := s.fresh
  let was := s.rbit (Reg.ETH_STATUS port) 0
  let up := up && !(s.port port).failed
  let s := (s.setRegBit (Reg.ETH_STATUS port) 0 up).setRegBit (Reg.ETH_STATUS port) 1 (up && gig)
  need (decide (port < 2)) (if was && !up then s.bump (Reg.ETH_LINKDOWN_CNT port) else s)

/-- A read of PTP_TXTS_W0 latches the head entry; with the queue empty VALID reads 0 (R420). -/
def State.txtsW0Read (s : State) (p : Nat) : State :=
  let h := (s.port p).txts.head?
  { s.updPort p (fun x => { x with latch := h }) with
    hostRead := match h with | some (id, _) => packU32 [(id.toNat, 0), (1, 16)] | none => 0 }

/-- A read of PTP_TXTS_TIME_HI removes the head entry. -/
def State.txtsHiRead (s : State) (p : Nat) : State :=
  let v : U32 := match (s.port p).latch with | some (_, t) => BitVec.ofNat 32 (t.toNat / 2 ^ 32) | none => 0
  { s.updPort p (fun x => { x with txts := x.txts.drop 1 }) with hostRead := v }

def execPtpTxtsW0Read (port : Nat) (s : State) : Host.Outcome State Fault Refusal :=
  need (decide (port < 2)) (s.fresh.txtsW0Read port)

def execPtpTxtsTimeHiRead (port : Nat) (s : State) : Host.Outcome State Fault Refusal :=
  need (decide (port < 2)) (s.fresh.txtsHiRead port)

/-- Timed outputs run from SETUP onward (R432). -/
def execTmoPulseStart (k : Nat) (dt : Nat) (s : State) : Host.Outcome State Fault Refusal :=
  let s := s.fresh.pass dt
  need (decide (k < 8)) (if Node.setup ≤ s.mgmt then State.tmoEdges s (s.tmoFire k) else s)

def execTmoPulseEnd (k : Nat) (dt : Nat) (s : State) : Host.Outcome State Fault Refusal :=
  let s := s.fresh.pass dt
  need (decide (k < 8)) (State.tmoEdges s (s.tmoEnd k))

end Sys2Proof.Machine
end

