-- ==== Sys2Proof/Machine/Node.lean ====
section
/-! DEFINITION. The node's states: reset, boot and self-test, the slot-store commands, START and STOP, forerunner mode and the interrupt summary's writes (R35-R39, R62-R63, R73-R95, R520). -/

namespace Sys2Proof.Machine

/-! ## Reset (R73, R74) -/

/-- Causes of Table 3-1. -/
abbrev Reset.powerOn : Nat := 0
abbrev Reset.mgmt : Nat := 1
abbrev Reset.watchdog : Nat := 2
abbrev Reset.upd : Nat := 3

/-- TMO0-TMO3 are driven low until Wellspring configures them (R49). -/
def State.tmoLow (s : State) : State :=
  ["TMO0", "TMO1", "TMO2", "TMO3"].foldl (fun s p => s.emitOut (.pin p false)) s

/-- What the field side of a bank keeps across a reset (R74). -/
def Bank.atReset (k : Bank) : Bank :=
  { commanded := k.commanded, pins := k.pins, wdExpired := k.wdExpired, causes := k.causes, safe := k.safe, held := k.held,
    powered := k.powered }

/-- A reset: what R74 does not name is at its reset value. HIF_DB_POLL and CAN_CFG show the reset values of the last boot's revision until the next boot's step 6 (DESIGN CHOICE, log entry 79). -/
def State.restart (s : State) (cause : Nat) : State :=
  let t : State := {
    regs := s.regs.filter (fun c => isBackup c.1)
    hold := s.hold.filter (fun c => isBackup c.1)
    skink := { intlkInHigh := s.skink.intlkInHigh, pairSenseHigh := s.skink.pairSenseHigh }
    dio := { bank0 := s.dio.bank0.atReset, bank1 := s.dio.bank1.atReset, bank2 := s.dio.bank2.atReset,
             bank3 := s.dio.bank3.atReset }
    rtc := s.rtc
    panel := { absent := s.panel.absent }
    nvm := s.cutErase
    behavBoot := s.behavBoot
    hostRead := s.hostRead
    out := s.out
    free := s.free
    pending := s.pending }
  let t := if s.skink.claim then t.emitOut (.pin "INTLK_OUT_N" true) else t
  -- PRST_N is low in RESET, BOOT and SELFTEST (R467).
  let t := if Node.setup ≤ s.mgmt then t.emitOut (.pin "PRST_N" false) else t
  t.tmoLow.setReg Reg.MGMT_RESET_CAUSE (BitVec.ofNat 32 cause)

/-- A fallback boot record is written, and UPD resets the node (R485, R486, R488); until the boot the record's write can still be cut (R489). No erase is under way in a trial. -/
def State.fallBack (s : State) (reason : Nat) : State :=
  let r := s.nvm.boot
  let s := { s with upd := { s.upd with erasing := none } }
  let s := s.writeBoot (r.fallback reason (s.nvm.imageVer r.prevSlot.toNat))
  let t := s.restart Reset.upd
  { t with gecko := { t.gecko with writing := s.gecko.writing.map (fun w => (w.1, 0)) } }

/-- Power-good falls (R63): a write of a record copy may be cut short after `torn` bytes (R71), the RTC goes over to VBK, and a key bank that was being programmed is spent (R490). -/
def State.powerFall (s : State) (ticks : Nat) (torn : Option Nat) : State :=
  let s := (s.cutWrite torn).rtcElapse ticks
  let s := if s.rtc.onVbk then s else s.switchOver
  let s := if s.nvm.programming.isSome then
      s.updNvm (fun v => { v with programming := none, bank0Spent := true, bank1Spent := v.bank0Spent })
    else s
  s.restart Reset.powerOn

/-! ## Choice of image (R77, R483) -/

/-- What the boot ROM decides. -/
structure BootChoice where
  slot : Nat
  settings : Nat
  trial : Bool := false
  alt : Bool := false
  deriving DecidableEq, Repr

/-- A slot and its settings, or the other slot with the other settings when its image is bad. -/
def bootSlot (good : Nat → Bool) (slot settings : Nat) : Option BootChoice :=
  if good slot then some { slot := slot, settings := settings }
  else if good (1 - slot) then some { slot := 1 - slot, settings := 1 - settings, alt := true }
  else none

/-- The boot ROM acts on the record in force; what it writes is durable before it boots. -/
def State.bootRom (s : State) (good : Nat → Bool) : Option BootChoice × State :=
  let r := s.nvm.boot
  let back := fun (why : Nat) (s : State) =>
    (bootSlot good r.prevSlot.toNat r.prevSettings.toNat, (s.writeBoot (r.fallback why (s.nvm.imageVer r.prevSlot.toNat))).writeDone)
  if r.mode != 1 then (bootSlot good r.slot.toNat r.settings.toNat, s.writeDone)
  else if r.trialBoots != 0 then back 2 s
  else
    let s := (s.writeBoot { r with trialBoots := 1 }).writeDone
    if good r.slot.toNat then (some { slot := r.slot.toNat, settings := r.settings.toNat, trial := true }, s) else back 6 s

/-- UPD and MGMT_BOOT_STATUS after the choice; a boot under a FALLBACK record is a fallback boot. -/
def State.bootChosen (s : State) (b : BootChoice) : State :=
  let r := s.nvm.boot
  let fall := r.mode == 2
  let s := s.setReg Reg.MGMT_BOOT_STATUS (packU32 [(b2n b.alt, 0), (b.slot, 2), (b2n b.trial, 3), (b2n fall, 4)])
  let s := { s with upd := { runSlot := b.slot, runSettings := b.settings,
                             state := if b.trial then 5 else if fall then 6 else s.nvm.session.state,
                             trialLeft := if b.trial then 60 * r.trialMin.toNat else 0 } }
  let s := s.eraseResume
  if fall then (s.raise Reg.UPD_EVT 0x20).bump Reg.UPD_FALLBACK_CNT else s

/-! ## Identity, revision and forerunner mode (R80-R86) -/

/-- The override, the record's FMODE, or the strap: the value in force and its source (R86). -/
def State.fmodeNow (s : State) : Nat × Nat :=
  let o := s.rfld Reg.MGMT_FMODE 0 2
  let rec_ := match s.recordInForce with | some r => leAt r 0xF 1 | none => 0
  if o = 1 || o = 2 then (o, 1) else if rec_ = 1 || rec_ = 2 then (rec_, 2)
  else (1 + s.rfld Reg.MGMT_SLOT_ID 8 1, 3)

/-- Effective FMODE and its source; the legacy event FIFO is empty and its registers read zero while it is off (R132). -/
def State.setFmode (s : State) : State :=
  let x := s.fmodeNow
  let s := (s.setRegFld Reg.MGMT_FMODE 8 2 x.1).setRegFld Reg.MGMT_FMODE 10 2 x.2
  if s.fmodeOn then s else
    ((s.setReg Reg.LEG_EVT_STAT 0).setReg Reg.LEG_EVT_OVF_CNT 0).updOutlet (fun o => { o with legFifo := [], legLatch := [0, 0, 0, 0] })

/-- MGMT_SS_STATUS.STATUS of a store that has answered (Table 3-4); an unsupported lock is reported first (R84). -/
def storeStatus (rec_ : Option (List Byte)) (slotId : Nat) : Nat :=
  match rec_ with
  | none => Ss.blank
  | some r => if 2 < leAt r 0xE 1 then Ss.lock else if leAt r 0xD 1 != slotId then Ss.mismatch else Ss.valid

/-- The revision that a lock selects (R84). -/
def lockRev (lock : Nat) : Nat := if lock = 1 then 1 else nativeRev

/-- The module's factory clockIdentity, from OTP (R81). -/
def State.factoryClock (s : State) : State :=
  (s.setReg Reg.PTP_CLOCK_ID_LO (Config.factoryReg Reg.PTP_CLOCK_ID_LO)).setReg Reg.PTP_CLOCK_ID_HI
    (Config.factoryReg Reg.PTP_CLOCK_ID_HI)

/-- Steps 5 and 6 of Table 3-2. A log entry records lock 0x00 when no lock has been read from a blank store: R72 says only "the BEHAV_LOCK it applied" (DESIGN CHOICE, log entry 63). -/
def State.takeIdentity (s : State) (answers : Bool) : State :=
  let r := if answers then s.slotRecord else none
  let slotId := s.rfld Reg.MGMT_SLOT_ID 0 6
  let s := s.setSs (if answers then storeStatus r slotId else Ss.unreadable)
  let lock := match r with | some l => leAt l 0xE 1 | none => 0
  let s := if answers then s.logReplacement (BitVec.ofNat 8 (if 2 < lock then 0 else lock)) else s
  let rev := lockRev lock
  let s := { s with behavBoot := rev }
  let s := s.setReg Reg.BEHAV_REV (packU32 [(rev, 0), (nativeRev, 8)])
  let s := match r with
    | some l => ((s.loadIdentity l).setReg Reg.MGMT_NODE_ID (BitVec.ofNat 32 (leAt l 0xC 1 % 64))).setReg
        Reg.MGMT_BEHAV_LOCK (BitVec.ofNat 32 (if 2 < lock then 0 else lock))
    | none => (s.factoryClock.setReg Reg.MGMT_NODE_ID (BitVec.ofNat 32 slotId)).setReg Reg.MGMT_BEHAV_LOCK (BitVec.ofNat 32 nativeRev)
  s.setFmode

/-! ## Self-test (R79, R183, Table 3-3) -/

/-- A test failed whose outcome is FAULT_HALT. -/
def testsHalt (t : SelfTest) : Bool := t.tarn || t.tcm || t.inletOutlet || t.wellspring || (t.aeA && t.aeB)

/-- MGMT_SELFTEST (Table 19-5). -/
def testsWord (t : SelfTest) : U32 :=
  packU32 [(b2n t.tarn, 0), (b2n t.tcm, 1), (b2n t.inletOutlet, 2), (b2n t.wellspring, 3), (b2n t.aeA, 4), (b2n t.aeB, 5),
    (b2n (t.lanes != 0), 6), (b2n t.newtA, 7), (b2n t.newtB, 8), (b2n (t.can != 0), 9), (b2n (t.eth != 0), 10), (1, 31)]

/-- The units that passed are in service, the others out of service until the next reset. -/
def State.selfTested (s : State) (t : SelfTest) : State :=
  let eng := fun (bad : Bool) (x : Engine) => { x with svc := if bad then Svc.offline else Svc.inService, vecFailed := bad }
  let s := { s with aeA := eng t.aeA s.aeA, aeB := eng t.aeB s.aeB }
  let s := (s.setReg Reg.FE_LANE_FAULT0 (BitVec.ofNat 32 (fld t.lanes 0 32))).setReg Reg.FE_LANE_FAULT1
    (BitVec.ofNat 32 (fld t.lanes 32 16))
  let s := s.updDio (fun d => { d with stalledA := t.newtA, stalledB := t.newtB })
  let s := s.setReg Reg.DIO_STATUS (packU32 [(b2n !t.newtA, 0), (b2n !t.newtB, 1)])
  let s := (bitsOf t.can).foldl (fun s n => s.setCanStat n CanStat.outOfService true) s
  (bitsOf t.eth).foldl (fun s p => s.updPort p (fun x => { x with failed := true })) s

/-- Each source loads its factory factors at reset (R183); EX_CAL_I and EX_CAL_U read their reset value, 0, until the boot (DEDUCED, log entry 68). -/
def State.factoryFactors (s : State) : State :=
  (List.range 16).foldl (fun s k => (s.setReg (Reg.EX_CAL_I k) (Config.factoryReg (Reg.EX_CAL_I k))).setReg (Reg.EX_CAL_U k)
    (Config.factoryReg (Reg.EX_CAL_U k))) s

/-- The measurements that the lanes took during SELFTEST, judged as those of calibration slots are (DEDUCED, log entry 68). -/
def State.firstCal (s : State) (cal : List (Nat × Nat × F32)) : State :=
  cal.foldl (fun s c => if c.1 < 48 && c.2.1 < 16 then s.calJudge c.1 c.2.1 c.2.2 else s) s

/-! ## Settings at boot (step 8 of Table 3-2; R487) -/

/-- The settings of the other region converted into the running one's format, its changes appended; the quotas in force came with the activation. A base generation that became durable meanwhile holds the whole configuration and stays in force, and one under way keeps the entries behind its start. -/
def State.convert (s : State) : State :=
  let k := s.upd.runSettings
  let prev := s.nvm.region (1 - k)
  let fmt := s.nvm.imageFormat s.upd.runSlot
  let whole := (s.nvm.region k).base.isSome
  let was := prev.journal.takeWhile JEntry.ok
  let s := s.updRegion k (fun t =>
    if whole then { t with format := fmt }
    else { t with gens := prev.gens, journal := was ++ t.journal, format := fmt, pos := (prev.pos + t.pos) % journalSize })
  let mark := if s.gecko.saving.isSome && !whole then s.gecko.saveMark + was.length else s.gecko.saveMark
  { s with upd := { s.upd with converting := false, converted := true }, gecko := { s.gecko with saveMark := mark } }

/-- The settings that the running image can read are loaded; others leave the configuration empty (R486). -/
def State.loadSettings (s : State) : State :=
  if s.active.format = s.nvm.imageFormat s.upd.runSlot then s.loadRegion s.active else s

/-! ## Forerunner defaults (R87, R88, Table 3-7) -/

/-- Definition n of Table 3-7; every field that the table does not list is zero, apart from LANE and the CRC. -/
def forerunnerDef (n : Nat) : List Byte :=
  let b := fun (x : Nat) => BitVec.ofNat 8 x
  withCrc ([b (4 * n + 1), b (4 * n + 2), b n, 3, b (4 * n), b (4 * n + 3), 1, 0] ++ leBytes 4 0x3F800000 ++ [5, 0, 0, 1]
    ++ leBytes 2 63036 ++ leBytes 2 2500 ++ [1, 2, b n, 0xFF, 0xFF, 0] ++ zeros 38) 64

def State.forerunner (s : State) : State :=
  (List.range 16).foldl (fun s n =>
    let s := s.tarnStore (Tarn.CHANDEF + 64 * n) (forerunnerDef n)
    if (s.scanList n).isEmpty then s.setScan n 0 n true else s) s

/-! ## SETUP -/

/-- Entry to SETUP: the engines' state is gone, and their regions read zero (R94, R246). -/
def State.enterSetup (s : State) : State :=
  let clear := fun (x : Engine) =>
    { x with pts := { dflt := { } }, grs := { dflt := { } }, evq := [], evWait := [], stopped := false, proved := false, handReq := false, audit := none, report := none, reports := [] }
  let s := s.releaseHold.updSkink (fun k => { k with handover := false, diverge := none, diverges := [], mismatches := [], copy := none, sharing := false })
  let i := { s.inlet with waiting := [], reveal := none, cmds := [], holding := false, stream := [], barriers := [] }
  let s := { s with aeA := clear s.aeA, aeB := clear s.aeB, inlet := i, gecko := { s.gecko with telemSeq := 0 }
                    outlet := { s.outlet with pubCan := [] } }
  s.statesWritten.requestsEnd.setMgmt Node.setup

/-- Wellspring's time at reset (R414): in INCREMENT mode from the RTC's valid time, or from 0. -/
def State.seedTime (s : State) : State :=
  if s.rtcBit RtcStat.valid then
    let secs := s.rtc.sec.toNat + s.rfld Reg.WS_UTC_OFFSET 0 16
    let ns := secs * 1000000000 + s.rtc.frac.toNat * 1000000000 / 32768
    { s with ws := { s.ws with counter := BitVec.ofNat 96 (ns * 2 ^ 32), quality := 1 } }
  else s

/-- PRST_N is released to a panel that is fitted: scan-out runs from SETUP on, FAULT_HALT included (R467). -/
def State.panelOut (s : State) : State := s.emitOut (.pin "PRST_N" (!s.panel.absent))

/-- The timed outputs that the settings configure: a PERIODIC one's boundaries run, and the pins take their levels (R431, R432). -/
def State.tmosLoaded (s : State) : State :=
  (List.range 8).foldl (fun s k => (if s.tmoMode k = 2 then s.tmoArm k else s).tmoPin k) s

/-- Steps 8 and 9 of Table 3-2; the saved WS_UTC_OFFSET has its part in the time that Wellspring starts from. -/
def State.finishBoot (s : State) : State :=
  let s := (s.loadSettings.pairEnabled s).seedTime.takeDigest
  let s := s.enterSetup.updHif (fun h => { h with beating := true })
  let s := s.panelOut.tmosLoaded
  if s.fmodeOn && (s.listed Tarn.CHANDEF 64 256).isEmpty then s.forerunner else s

/-! ## Boot (R75-R88) -/

/-- Steps 5 to 9 of Table 3-2, with the image that runs. -/
def State.bootImage (s : State) (env : BootEnv) (b : BootChoice) : State :=
  let s := ((s.bootChosen b).takeIdentity env.ssAnswers).setMgmt Node.selftest
  let s := (s.setReg Reg.MGMT_SELFTEST (testsWord env.tests)).selfTested env.tests
  if testsHalt env.tests then (s.haltNode 1 0).panelOut else
  let s := (s.factoryFactors.firstCal env.cal).setReg Reg.FE_STATUS (packU32 [(b2n env.fePwrOk, 0), (b2n env.fePwrOk, 1)])
  let s := (List.range 4).foldl (fun (s : State) k => (s.setRegBit (Reg.DIO_BANK_STATUS k) 1 (bitAt env.fieldUp k)).updBank k
    (fun x => { x with powered := x.powered || bitAt env.fieldUp k })) s
  if b.trial && s.active.format == 0 then
    if env.convertOk then s.convert.finishBoot else s.fallBack 3
  else State.finishBoot { s with upd := { s.upd with converted := b.trial } }

/-- Power-good is present and no reset source is active: the node boots. -/
def State.boot (s : State) (env : BootEnv) : State :=
  if s.mgmt != Node.reset then s else
  let s := s.rtcElapse env.ticks
  let s := if s.rtc.onVbk then s.switchBack else s
  let s := ((s.updRtc (fun r => { r with cellHigh := env.cellHigh })).tmoLow).setMgmt Node.boot
  let s := s.setReg Reg.MGMT_SLOT_ID (packU32 [(env.slotId.toNat, 0), (b2n env.fmodeStrap, 8)])
  let s := (s.linkTrain env.linkSpeed env.linkWidth).seedTime
  let bad := fun k => if k = 0 then env.imgBadA else env.imgBadB
  match s.bootRom (fun k => s.nvm.bootable k && !bad k) with
  | (none, s) => s.setReg Reg.MGMT_BOOT_STATUS 2
  | (some b, s) => s.bootImage env b

/-! ## MGMT_CMD (R83, R90-R93) -/

/-- A code that is not valid in the present state or condition. -/
def State.cmdIgnored (s : State) : State := s.ignored Reg.MGMT_CMD Why.cmdState

def State.ssDone (s : State) : State := s.raise Reg.MGMT_EVT 2

def State.commissionNow (s : State) : State :=
  if s.mgmt != Node.setup || s.ss = Ss.unreadable || s.ss = Ss.bypassed then s.cmdIgnored
  else
    let s := s.writeSlot s.newRecord
    let same := lockRev (s.rfld Reg.MGMT_BEHAV_LOCK 0 8) == s.behav
    let s := (s.setSs (if same then Ss.valid else Ss.resetRequired)).takeDigest
    (if s.unsaved then s.startBase else s).ssDone

def State.verifyNow (s : State) : State := if s.mgmt != Node.setup then s.cmdIgnored else s.takeDigest.ssDone

def State.acceptNow (s : State) : State :=
  match s.slotRecord with
  | some r =>
    if s.mgmt != Node.setup || s.ss != Ss.mismatch then s.cmdIgnored
    else ((s.writeSlot (patch r 0xD [BitVec.ofNat 8 (s.rfld Reg.MGMT_SLOT_ID 0 6)])).setSs Ss.valid).ssDone
  | none => s.cmdIgnored

def State.bypassNow (s : State) : State :=
  if s.mgmt != Node.setup || s.ss != Ss.unreadable then s.cmdIgnored else s.setSs Ss.bypassed

/-! ## START (R93, R233, R246, R299) -/

/-- The conditions of R93, the digest being fresh. -/
def State.startOk (s : State) : Bool :=
  s.ss == Ss.bypassed ||
    (s.ss == Ss.valid && s.cfgMatch &&
      (match s.slotRecord with | some r => leAt r 0xC 1 % 64 == s.nodeId | none => false))

/-- Service state at START: an engine that the last run left failed runs its vector test. -/
def State.startService (s : State) (e : EngineId) (pass : Bool) : State :=
  let x := s.eng e
  if x.svc = Svc.offline || x.svc = Svc.inService then s
  else if pass then s.updEng e (fun x => { x with svc := Svc.inService })
  else s.recordFailure e 11

/-- State records as at entry to RUN (R233). -/
def State.freshPoints (s : State) : Sparse PtState :=
  (s.points.filter (fun p => (s.pcfg p).on)).map (fun p => (p, { state := Pt.unknown }))

/-- The groups whose ENABLE is set. -/
def State.groupsOn (s : State) : List Nat := s.groups.filter (fun g => (s.gcfg g).enable)

/-- An engine at entry to RUN: its regions written afresh, and nothing evaluated. -/
def State.freshEngine (s : State) (x : Engine) : Engine :=
  { svc := x.svc, lastCause := x.lastCause, failTimes := x.failTimes, vecFailed := x.vecFailed
    tickCap := BitVec.ofNat 32 s.backlogCap, tickQual := s.ws.quality, tickEpoch := s.ws.epoch, tickAt := s.frcNat
    pts := { live := true, dflt := { state := Pt.disabled }, cells := s.freshPoints }
    grs := { live := true, dflt := freshHalf false, cells := s.groupsOn.map (fun g => (g, freshHalf true)) }
    swept := s.groupsOn.map (fun g => (g, Pt.normal, 0)) }

/-- What the lossless queues still hold is discarded (R94); what a capture armed in SETUP will use stays. -/
def State.dropHeld (s : State) : State :=
  let s := s.updHif (fun h => { h with kept := [], ready := [], unwritten := 0 })
  let s := { s with outlet := { legFifo := s.outlet.legFifo, legLatch := s.outlet.legLatch, pubSeq := s.outlet.pubSeq,
                                trendFresh := s.outlet.trendFresh } }
  let s := s.updSpawn (fun p => { p with units := [], kept := [], unwritten := 0 })
  if s.capState = Cap.frozen then (s.updSpawn Spawn.closeJournal).setRegFld Reg.SPAWN_STATUS 0 6 0 else s

/-- A lane begins at position 0 (R174). -/
def Lane.restart (l : Lane) : Lane := { l.cut with nextPos := 0, afterCal := false, atStart := true }

/-- Lanes at entry to RUN: position 0, calibration due anew from here (R179), nothing known of any definition, every settling counter to be loaded (R176). -/
def State.lanesStart (s : State) : State :=
  let s := s.lanesEnd (fun l => { l.halt.restart with calDue := false })
  { s with fe := { s.fe with defs := [] } }

/-- Lanes after the activation pause: position 0, and every settling counter to be loaded; the latest samples stay known (R174, R176, R191). -/
def State.lanesResume (s : State) : State :=
  (s.fe.defs.map Prod.fst).foldl (fun s k => s.updDef k (fun x => { x with load := 2 })) (s.lanesEnd Lane.restart)

/-- The mark of a capture armed in SETUP is ISN 1, and its STATUS record ISN 2 (R329); otherwise Skink's STATUS record of the first grant of the hold is (R306). -/
def State.firstRecords (s : State) : State :=
  if s.spawn.armedInSetup && s.capState = Cap.armed then
    let src := mkSource 8 0
    let (n, s) := s.takeSsn src
    let s := s.updSpawn (fun p => { p with armedInSetup := false, snapping := true })
    let s := (s.setCap Cap.snapshot).setRegBit Reg.SPAWN_STATUS 5 true
    { s with inlet := { s.inlet with reveal := some { time := s.now, source := src, ssn := n, kind := Kind.mark } } }
  else
    let (st, s) := s.statusRec
    { s with inlet := { s.inlet with reveal := some st } }

/-- The cause of the newest failure of either engine (MGMT_FAULT_CAUSE.ENGINE_CAUSE). -/
def State.newestCause (s : State) : Nat :=
  if s.aeA.failTimes.headD 0 < s.aeB.failTimes.headD 0 || s.aeA.failTimes.isEmpty then s.aeB.lastCause else s.aeA.lastCause

/-- CROAK_BAD: the groups enabled and not valid at START (Table 8-16). -/
def State.noteBad (s : State) : State :=
  let bad := s.groupsOn.filter (fun g => !(s.gcfg g).valid)
  (List.range 8).foldl (fun s k => s.setReg (Reg.CROAK_BAD k) (maskOf 32 (fun i => bad.contains (32 * k + i)))) s

/-- Entry to RUN. -/
def State.enterRun (s : State) (vecA vecB : Bool) : State :=
  let s := (s.startService .A vecA).startService .B vecB
  let s := if s.unsaved then s.startBase else s
  let s := (((((s.xpRun true).noteMasks).noteBad).writeSafe).dioRun).dropHeld
  let s := State.statesWritten { s with aeA := s.freshEngine s.aeA, aeB := s.freshEngine s.aeB, inlet := { } }
  let s := s.updSkink (fun k => { k with holder := none, handover := false, diverge := none, diverges := [], mismatches := [], copy := none, auditTick := 0, auditPasses := 0 })
  let s := s.lanesStart.setMgmt Node.run
  match s.candidate with
  | none => s.haltNode 3 s.newestCause
  | some e => (s.grantHold e).canStart.firstRecords.repairsDue

def State.startNow (s : State) (vecA vecB : Bool) : State :=
  if s.mgmt != Node.setup then s.cmdIgnored else
  let s := if s.cfgDirty then s.takeDigest else s
  if s.startOk then s.enterRun vecA vecB else s.cmdIgnored

/-! ## STOP (R94) -/

/-- One round of evaluation of what has been admitted. -/
def State.drainRound (s : State) : State :=
  if s.mgmt != Node.run then s else ((((s.evalNext .A).evalNext .B).configBarrier).eccFault).takeCkpt

/-- Every event that an engine has emitted reaches Outlet, which releases it. -/
def State.drainEvents (s : State) : State :=
  let n := max (s.aeA.evq.length + s.aeA.evWait.length) (s.aeB.evq.length + s.aeB.evWait.length)
  ((List.range n).foldl (fun s _ => (s.copyArrives .A).copyArrives .B) s).release

/-- A capture at the end of RUN: a staged snapshot goes out, the journal unit ends, a window that is not frozen is given up, a frozen one goes on streaming. -/
def State.captureStop (s : State) : State :=
  if s.capMode = 1 then s.copyComplete.endContinuous.splitApply
  else if s.capMode = 2 && s.capturing && s.capState != Cap.frozen then s.stopCapture else s

/-- The units that follow RUN: CAN, lanes, the pair's outputs. -/
def State.unitsStop (s : State) : State :=
  let s := (List.range 8).foldl State.rxFlush { s with canWalk := [] }
  let s := s.canStop.lanesEnd Lane.stop
  (s.setAsymRun 0 0).setAsymRun 1 0

/-- A command whose first record has been admitted is admitted whole, as the engines' evaluation frees credit. -/
def State.admitBegun (s : State) : State :=
  match s.inlet.cmds with
  | u :: _ =>
    if u.sent = 0 then s else
    (List.range (u.bodies.length - u.sent)).foldl (fun s _ =>
      let s := if s.heldByEngines then s.drainRound else s
      if s.begunUnit then s.admitCmd.getD s else s) s
  | [] => s

def State.stopNow (s : State) : State :=
  if s.mgmt != Node.run then s.cmdIgnored else
  let s := s.admitBegun
  let units := s.inlet.cmds
  let s := { s with inlet := { s.inlet with waiting := [], reveal := none, cmds := [] } }
  let s := match s.skink.copy with
    | some c => (s.updEng c.source (fun x => { x with stopped := false })).updSkink (fun k => { k with copy := none })
    | none => s
  let s := ((List.range (2 * s.inlet.stream.length + 2)).foldl (fun s _ => s.drainRound) s).drainEvents.refuseTaken units
  if s.mgmt != Node.run then s else s.captureStop.unitsStop.enterSetup

/-! ## Writes of MGMT registers -/

/-- MGMT_FMODE: a change of effective FMODE from off to on loads the forerunner defaults (R88). -/
def State.fmodeWrite (s : State) (v : U32) : State :=
  if s.mgmt != Node.setup then s.ignored Reg.MGMT_FMODE Why.rwsState
  else if fld v 0 2 = 3 then s.ignored Reg.MGMT_FMODE Why.range
  else
    let was := s.fmodeOn
    let s := (s.setRegFld Reg.MGMT_FMODE 0 2 (fld v 0 2)).setFmode.setDirty
    if s.fmodeOn && !was then s.forerunner else s

/-- MGMT_INT_REARM: any written value asks for the message of R520. -/
def State.intRearm (s : State) : State := if s.intPending = 0 then s else s.hifMessage

/-- MGMT_INT_EN (R520). -/
def State.intEnWrite (s : State) (v : U32) : State := State.summarise s (s.setReg Reg.MGMT_INT_EN (v &&& 0x1FFFF))

/-! ## The steps -/

def execPowerGoodRise (env : BootEnv) (s : State) : Host.Outcome State Fault Refusal := .next (s.fresh.boot env)

def execPowerGoodFall (f : PowerFall) (s : State) : Host.Outcome State Fault Refusal :=
  .next (s.fresh.powerFall f.ticks f.torn)

/-- The inputs' voltages in mV; the node runs on without interruption while one stays in range. -/
def execLogicInputChange (lvA lvB : U16) (s : State) : Host.Outcome State Fault Refusal :=
  .next ((s.fresh.setReg Reg.HK_LV_A (lvA.zeroExtend 32)).setReg Reg.HK_LV_B (lvB.zeroExtend 32))

def execCtrlWatchdog (s : State) : Host.Outcome State Fault Refusal := .next (s.fresh.restart Reset.watchdog)

/-- FAULT_HALT is entered from SETUP, RUN or REPLAY (R37). -/
def execLockstepMismatch (s : State) : Host.Outcome State Fault Refusal :=
  let s := s.fresh
  .next (if s.mgmt == Node.setup || s.running then s.haltNode 2 0 else s)

def execStartRun (vecA vecB : Bool) (dt : Nat) (s : State) : Host.Outcome State Fault Refusal :=
  .next ((s.fresh.pass dt).startNow vecA vecB)

def execStopRun (s : State) : Host.Outcome State Fault Refusal := .next s.fresh.stopNow

def execResetNode (s : State) : Host.Outcome State Fault Refusal := .next (s.fresh.restart Reset.mgmt)

def execCommission (ticks : Nat) (s : State) : Host.Outcome State Fault Refusal :=
  .next (s.fresh.rtcElapse ticks).commissionNow

def execVerifyCfg (s : State) : Host.Outcome State Fault Refusal := .next s.fresh.verifyNow

def execAcceptSlot (s : State) : Host.Outcome State Fault Refusal := .next s.fresh.acceptNow

def execSsBypass (s : State) : Host.Outcome State Fault Refusal := .next s.fresh.bypassNow

def execMgmtFmodeWrite (v : U32) (s : State) : Host.Outcome State Fault Refusal := .next (s.fresh.fmodeWrite v)

def execMgmtIntRearm (_v : U32) (s : State) : Host.Outcome State Fault Refusal :=
  .next (s.fresh.fromSetup Reg.MGMT_INT_REARM Why.cmdState State.intRearm)

def execMgmtIntEnWrite (v : U32) (s : State) : Host.Outcome State Fault Refusal :=
  .next (s.fresh.fromSetup Reg.MGMT_INT_EN Why.condition (fun s => s.intEnWrite v))

end Sys2Proof.Machine
end

