-- ==== Sys2Proof/Machine/Replay.lean ====
section
/-! DEFINITION. Replay of a journal file (R343-R348). -/

namespace Sys2Proof.Machine

def State.updReplay (s : State) (f : Replay → Replay) : State := s.updSpawn (fun p => { p with replay := f p.replay })

/-- SPAWN_RP_STATUS.STATE. -/
abbrev Rp.idle : Nat := 0
abbrev Rp.loading : Nat := 1
abbrev Rp.running : Nat := 2
abbrev Rp.held : Nat := 3
abbrev Rp.done : Nat := 4
abbrev Rp.error : Nat := 5

def State.rpState (s : State) : Nat := s.rfld Reg.SPAWN_RP_STATUS 0 3
def State.setRp (s : State) (st : Nat) : State := s.setRegFld Reg.SPAWN_RP_STATUS 0 3 st

/-- Error codes of Table 11-15. -/
abbrev RpErr.header : Nat := 1
abbrev RpErr.revision : Nat := 2
abbrev RpErr.section_ : Nat := 3
abbrev RpErr.noMark : Nat := 4
abbrev RpErr.isnGap : Nat := 5
abbrev RpErr.record : Nat := 6
abbrev RpErr.sequence : Nat := 7
abbrev RpErr.truncated : Nat := 8

/-- The replay state becomes ERROR. -/
def State.rpFail (s : State) (err : Nat) : State :=
  ((s.setRp Rp.error).setRegFld Reg.SPAWN_RP_STATUS 4 4 err).raise Reg.SPAWN_EVT 0x80

/-- REPLAY_START has not completed: the snapshot is being loaded. -/
def State.loading (s : State) : Bool := decide (s.spawn.replay.stage < 3)

/-- The deferred REPLAY_START completes. -/
def State.endStart (s : State) (status : Nat) (result : U64) : State :=
  s.finish s.spawn.replay.tag s.spawn.replay.irqNow 0x52 status result

/-- The replay ends in ERROR (R345); a REPLAY_START that still loads fails with `status`. -/
def State.rpError (s : State) (err status : Nat) : State :=
  let s := s.rpFail err
  if s.loading then s.endStart status 0 else s

/-! ## REPLAY_START (R343, Tables 11-13, 11-14) -/

/-- SPAWN_RP_STATUS and the figures beside it as a replay begins. -/
def State.rpClear (s : State) : State :=
  [Reg.SPAWN_RP_CKPT_CNT, Reg.SPAWN_RP_BAD_ISN_LO, Reg.SPAWN_RP_BAD_ISN_HI, Reg.SPAWN_RP_BLOCKS, Reg.SPAWN_RP_ISN_LO,
   Reg.SPAWN_RP_ISN_HI, Reg.SPAWN_RP_BYTES_LO, Reg.SPAWN_RP_BYTES_HI].foldl (fun s o => s.setReg o 0)
    (s.setReg Reg.SPAWN_RP_STATUS (packU32 [(Rp.loading, 0), (0xFF, 16)]))

/-- An engine that is not OFFLINE serves in REPLAY; its state comes with the file. -/
def replayEngine (x : Engine) : Engine :=
  { svc := if x.svc = Svc.offline then Svc.offline else Svc.inService, lastCause := x.lastCause, failTimes := x.failTimes,
    vecFailed := x.vecFailed, runStarted := true }

/-- Entry to REPLAY (R36, R94, R344): the pins stay as they are. -/
def State.enterReplay (s : State) (d : Desc) : State :=
  let s := s.dropHeld.rpClear.lanesEnd Lane.halt
  let s := s.updReplay (fun _ => { rflags := BitVec.ofNat 32 (d.arg 8 4), stopIsn := u64At d.raw 0x10, tag := d.tag, irqNow := d.irqNow })
  let s := s.updSpawn (fun p => { p with ckptDue := none, journaling := false })
  let s := s.updDio (fun x => { x with replayHold := some s.pinImage })
  let s := { s with aeA := replayEngine s.aeA, aeB := replayEngine s.aeB, inlet := { } }
  let s := s.updSkink (fun k => { k with holder := none, handover := false, diverge := none, diverges := [], mismatches := [], copy := none, auditTick := 0 })
  s.setMgmt Node.replay

/-- What REPLAY_START finds wrong before it reads the file (Table 11-14). -/
def State.replayBad (s : State) (d : Desc) : Nat :=
  if decide (3 < d.arg 8 4) || !d.resv 0xC 4 || !d.resv 0x18 40 then Status.badArg
  else if !s.ringActive 8 || (s.capturing && s.capState != Cap.frozen) then Status.state
  else Status.ok

/-- REPLAY_START; one that fails leaves the node in REPLAY too, in ERROR (R343). Table 11-15 has no code for a failure before the header: ERR stays 0 (DESIGN CHOICE, log entry 70). -/
def State.replayStart (s : State) (d : Desc) : State :=
  let bad := s.replayBad d
  let s := s.enterReplay d
  match s.candidate with
  | none => (s.haltNode 3 s.newestCause).done d Status.state
  | some e =>
    let s := s.grantHold e
    if bad = Status.ok then s.defer d.tag d.irqNow 0x52 else (s.rpFail 0).done d bad

/-! ## The header (Table 11-10) -/

/-- `n` bytes of the file have been consumed. -/
def State.eat (s : State) (n : Nat) : State := s.updReplay (fun p => { p with buf := p.buf.drop n })

def State.rpHeader (s : State) (l : List Byte) : State :=
  let rev := (byteAt l 0x21).toNat
  if leAt l 0 4 != 0x314A534E || leAt l 4 2 != 1 || leAt l 6 2 != 64 then s.rpError RpErr.header Status.badArg
  else if !crcOk l 64 then s.rpError RpErr.header Status.crc
  else if !inRange 1 nativeRev rev then s.rpError RpErr.revision Status.badArg
  else
    let s := s.updReplay (fun p => { p with
      stage := 1, region := 1, firstIsn := u64At l 8, snapLen := leAt l 0x10 8, nodeId := BitVec.ofNat 6 (leAt l 0x20 1) })
    (s.eat 64).setRegFld Reg.BEHAV_REV 0 8 rev

/-! ## Sections (Tables 11-5, 11-6) -/

/-- LENGTH of each region. -/
def sectionLength : Nat → Nat
  | 1 => 5242880
  | 2 => 2621440
  | 3 => 65536
  | 4 => 16384
  | 5 => 1048576
  | 6 => 131072
  | 7 => 262144
  | 8 => 524288
  | _ => 8 * rwsOffsets.length

/-- Tarn offset of a configuration region. -/
def sectionBase : Nat → Off
  | 1 => Tarn.POINT_CFG
  | 4 => Tarn.CHANDEF
  | 5 => Tarn.FANOUT
  | 6 => Tarn.LINTAB
  | 7 => Tarn.CAN_FILT
  | _ => Tarn.CAN_SIG

/-- A state record as the snapshot carries it (Table 7-5). -/
def PtState.ofBytes (l : List Byte) : PtState :=
  { state := byteAt l 0, sub := u16At l 2, value := u32At l 4, prev := u32At l 8, timer := u16At l 0xC, blockTimer := u16At l 0xE,
    lastEsn := BitVec.ofNat 48 (leAt l 0x10 6), coalesced := u16At l 0x16, lastIsn := u32At l 0x18,
    crcFlip := u32At l 0x1C ^^^ crc32 (l.take 0x1C) }

/-- A group state half (Table 8-4). -/
def GrState.ofBytes (l : List Byte) : GrState :=
  { worst := byteAt l 0, gflags := byteAt l 1, callState := byteAt l 2, firstOut := u32At l 4, activeCnt := u32At l 8,
    unackedCnt := u32At l 0xC, faultCnt := u32At l 0x10, floodCnt := u16At l 0x14, floodTimer := u16At l 0x16,
    blockTimer := u16At l 0x18, callTimer := u16At l 0x1A, canTimer := u16At l 0x1C, newCnt := u16At l 0x1E,
    crcFlip := u32At l 0x24 ^^^ crc32 (l.take 0x24) }

/-- A region of records taken from bytes, those equal to an unlisted one left out. -/
def regionOf {α : Type} [DecidableEq α] (dflt : α) (f : List Byte → α) (recs : List (List Byte)) : Region α :=
  { live := true, dflt := dflt,
    cells := recs.zipIdx.filterMap (fun x => let y := f x.1; if y = dflt then none else some (x.2, y)) }

/-- The state that a loaded snapshot gives an engine: what it holds UNREPORTED. -/
def Engine.loaded (x : Engine) : Engine :=
  let n := (x.pts.cells.filter (fun c => c.2.has Sub.unreported)).length
  { x with unreported := n, unreportedSwept := n }

/-- A region's data put in its place, in both engines where it is state. -/
def State.loadSection (s : State) (region : Nat) (l : List Byte) : State :=
  match region with
  | 2 =>
    let g := regionOf ({ state := Pt.disabled } : PtState) PtState.ofBytes (chunks 32 l)
    State.statesWritten { s with aeA := { s.aeA with pts := g }, aeB := { s.aeB with pts := g } }
  | 3 =>
    let recs := chunks 256 l
    let g := regionOf (freshHalf false) (fun b => GrState.ofBytes (slice b 0xB0 40)) recs
    let s := recs.zipIdx.foldl (fun s x => s.tarnStore (Tarn.GROUPS + 256 * x.2) (x.1.take 0xB0)) s
    State.statesWritten { s with aeA := { s.aeA with grs := g }, aeB := { s.aeB with grs := g } }
  | 9 => ((chunks 8 l).foldl (fun s b => s.setReg (leAt b 0 4) (u32At b 4 &&& regMask (leAt b 0 4))) s).pairEnabled s
  | _ => s.tarnStore (sectionBase region) l

/-- The bytes of a whole snapshot. -/
def snapTotal : Nat := ((span 1 9).map (fun k => 16 + sectionLength k)).sum

/-- One section, when its header or all of it has arrived; none while bytes are missing. -/
def State.rpSection (s : State) : Option State :=
  let p := s.spawn.replay
  let n := sectionLength p.region
  let h := p.buf.take 16
  if h.length < 16 then none
  else if (byteAt h 0).toNat != p.region || leAt h 4 4 != n || leAt h 8 4 != fld p.firstIsn 0 32 || p.snapLen != snapTotal then
    some (s.rpError RpErr.section_ Status.badArg)
  else if p.buf.length < 16 + n then none
  else
    let l := slice p.buf 16 n
    if crc32 l != u32At h 0xC then some (s.rpError RpErr.section_ Status.crc)
    else if p.region = 9 && !(chunks 8 l).all (fun b => isRws (leAt b 0 4)) then some (s.rpError RpErr.section_ Status.badArg)
    else
      let s := ((s.loadSection p.region l).clearUe (sectionBase p.region) (if p.region = 9 then 0 else n)).eat (16 + n)
      some (s.updReplay (fun p => { p with region := p.region + 1, stage := if p.region = 9 then 2 else 1 }))

/-! ## Records -/

/-- The record that stands first in a piece of the file: its 32 B and its extension. -/
def InRec.ofBytes (l : List Byte) : InRec :=
  { isn := u64At l 0, time := u64At l 8, source := u16At l 0x10, ssn := u16At l 0x12, kind := byteAt l 0x14, flags := byteAt l 0x15,
    payload := u64At l 0x18, ext := slice l 0x20 (leAt l 0x16 2) }

/-- KIND is one of Table 9-3 and EXT_LEN is the kind's (R267). -/
def recordHeadOk (l : List Byte) : Bool :=
  let k := (byteAt l 0x14).toNat
  inRange 1 10 k && leAt l 0x16 2 == (if k == 4 || k == 5 || k == 6 || k == 8 || k == 9 then 64 else 0)

/-- Bytes of the record that stands first. -/
def recordLength (l : List Byte) : Nat := 32 + leAt l 0x16 2

/-- An engine takes its engine-wide state from the mark (Table 9-7, R343). -/
def Engine.fromMark (x : Engine) (r : InRec) (frc : Nat) : Engine :=
  let l := r.ext
  { x with
    evalIsn := r.isn, nextEsn := BitVec.ofNat 48 (leAt l 0 8), lastTick := u64At l 8, custN := leAt l 0x18 1,
    groupRefresh := bitAt (byteAt l 0x19) 0, nodeRefresh := bitAt (byteAt l 0x19) 1, withheldCnt := u32At l 0x1C,
    sealNo := u16At l 0x20, tickEpoch := BitVec.ofNat 6 (leAt l 0x22 1), tickQual := BitVec.ofNat 3 (leAt l 0x23 1),
    tickCap := u32At l 0x24, tickRel := BitVec.ofNat 48 (leAt l 0x28 8), tickAt := frc }

/-- The mark: the engines, the custody chains and CFG_EPOCH take their state, and REPLAY_START completes. -/
def State.rpMark (s : State) (r : InRec) : State :=
  let mac := u64At r.ext 0x10
  let s := { s with aeA := (s.aeA.loaded.fromMark r s.frcNat).atMark, aeB := (s.aeB.loaded.fromMark r s.frcNat).atMark
                    inlet := { s.inlet with isn := r.isn } }
  let s := s.updOutlet (fun o => { o with nextRel := BitVec.ofNat 48 (leAt r.ext 0 8), merge := [], backlog := [],
                                          chainA := { mac := mac }, chainB := { mac := mac } })
  let s := s.setReg Reg.INLET_CFG_EPOCH (BitVec.ofNat 32 (leAt r.ext 0x1A 2))
  let s := s.setPair Reg.SPAWN_RP_ISN_LO Reg.SPAWN_RP_ISN_HI r.isn
  let s := s.updReplay (fun p => { p with
    stage := 3, prevIsn := r.isn, startFrc := s.frcNat, lastFrc := s.frcNat, firstTime := r.time, lastTime := r.time })
  (s.endStart Status.ok (BitVec.ofNat 64 s.spawn.replay.snapLen)).setRp Rp.running

/-- A FANOUT command's image from its records; a filter or signal command's loses the zero elements that fill its last record. -/
def dropZeroElems (l : List Byte) : List Byte :=
  let es := chunks 16 l
  let keep := (es.reverse.dropWhile allZero).length
  l.take (16 * max keep (es.length - 3))

/-- A configuration change as its records carry it (R118, Table 9-5). -/
def unitOf (opcode target : Nat) (recs : List InRec) : CmdUnit :=
  let bodies := recs.map InRec.ext
  let all := bodies.flatten
  let last := bodies.getLastD []
  let image := match opcode with
    | 0x13 => all.take 0xB0
    | 0x14 => last.take 8 ++ all.take (4 * leAt last 4 2)
    | 0x16 | 0x17 => dropZeroElems all
    | _ => all
  { opcode := BitVec.ofNat 16 opcode, target := target, bodies := bodies, image := image, cfg := true }

/-- What an admitted record of the file opens: a configuration barrier, at the last record of its command (R22, R23). -/
def State.rpBarrier (s : State) (r : InRec) : State :=
  let op := r.pay 0x18 2
  let parts := fld r.payload 54 10
  if r.kind != Kind.cmd then s
  else if r.srcType = 8 then
    if op = 0xFF02 && eccConfig r.eccOffset then
      s.openBarrier r.isn { opcode := 0xFF02, target := r.eccOffset / 8, cfg := true }
    else s
  else if op < 0x10 || 0x17 < op || op = 0x11 || r.pay 0x1A 2 + 1 != parts then s
  else
    let recs := s.inlet.stream.drop (s.inlet.stream.length - parts)
    let target := if op = 0x16 || op = 0x17 then fld (recs.headD r).payload 32 22 else fld r.payload 32 22
    s.openBarrier r.isn (unitOf op target recs)

/-- Inlet takes a record of the file, its ISN kept (R344). -/
def State.rpAdmit (s : State) (r : InRec) : State :=
  let s := { s with inlet := { s.inlet with isn := r.isn, stream := s.inlet.stream ++ [r] } }
  let s := (s.spill.bump Reg.INLET_ADMIT_CNT).updReplay (fun p => { p with prevIsn := r.isn })
  let s := s.servers.foldl (fun s e => s.recordMax (Reg.AE_LAG_MAX (engIx e)) (s.lag e)) s
  s.rpBarrier r

/-- The first `n` of the CHECKPOINT records that follow a TICK, in order (R327). -/
def ckptsOk (isn : U64) (n : Nat) (l : List Byte) : Bool :=
  (List.range n).all (fun k =>
    let b := slice l (96 * k) 96
    recordHeadOk b && byteAt b 0x14 == Kind.checkpoint && (byteAt b 0x18).toNat == k && u64At b 0 == isn)

/-- What follows them is, so far as its first 32 B tell, not the next of them. -/
def ckptBroken (isn : U64) (n : Nat) (l : List Byte) : Bool :=
  decide (n < 3) && decide (96 * n + 32 ≤ l.length) && !ckptsOk isn (n + 1) l

/-- The hashes that three CHECKPOINT records carry. -/
def ckptHashes (l : List Byte) : List U64 :=
  (chunks 96 (l.take 288)).flatMap (fun b => (chunks 8 (b.drop 32)).map (u64At · 0))

/-- A TICK of the file: the CHECKPOINT records behind it are read ahead (R344); none while they are missing. -/
def State.rpTick (s : State) (r : InRec) (n : Nat) : Option State :=
  let p := s.spawn.replay
  let rest := p.buf.drop n
  let plain := (s.eat n).rpAdmit r
  if rest.length < 32 then (if p.lastSeen then some plain else none)
  else if byteAt rest 0x14 != Kind.checkpoint then some plain
  else
    let k := min 3 (rest.length / 96)
    if !ckptsOk r.isn k rest || ckptBroken r.isn k rest then some (plain.rpError RpErr.record 0)
    else if k < 3 then
      if !p.lastSeen then none
      -- The file ends behind PART 0 or 1: at a record boundary, with no whole checkpoint to compare.
      else if rest.length % 96 = 0 then some ((s.eat (n + rest.length)).rpAdmit r)
      else some (plain.rpError RpErr.truncated 0)
    else
      let s := (s.eat (n + 288)).rpAdmit r
      let s := s.updReplay (fun p => { p with ckpt := ckptHashes rest })
      some (s.updSpawn (fun p => { p with ckptDue := some (r.isn, r.time, r.payload) }))

/-- The next record of the running replay. -/
def State.rpRecord (s : State) : Option State :=
  let p := s.spawn.replay
  let l := p.buf
  let n := recordLength l
  let short := if p.lastSeen && !l.isEmpty then some (s.rpError RpErr.truncated 0) else none
  if l.length < 32 then short
  else if !recordHeadOk l || byteAt l 0x14 == Kind.checkpoint then some (s.rpError RpErr.record 0)
  else if l.length < n then short
  else
    let r := InRec.ofBytes l
    if r.isn != p.prevIsn + 1 then some (s.rpError RpErr.isnGap 0)
    else if r.kind = Kind.tick then s.rpTick r n
    else some ((s.eat n).rpAdmit r)

/-- The file ends before the replay runs. -/
def State.rpShort (s : State) (err : Nat) : Option State :=
  if s.spawn.replay.lastSeen then some (s.rpError err Status.badArg) else none

/-- STOP_AT_ISN: nothing is admitted after STOP_ISN. -/
def State.rpStopped (s : State) : Bool := bitAt s.spawn.replay.rflags 1 && s.spawn.replay.prevIsn == s.spawn.replay.stopIsn

/-- The next thing that Spawn can take from the bytes it has read; none when it waits. -/
def State.rpNext (s : State) : Option State :=
  let p := s.spawn.replay
  if s.rpState != Rp.loading && s.rpState != Rp.running then none
  else match p.stage with
    | 0 => if p.buf.length < 64 then s.rpShort RpErr.header else some (s.rpHeader (p.buf.take 64))
    | 1 => s.rpSection <|> s.rpShort RpErr.section_
    | 2 =>
      if p.buf.length < 96 then s.rpShort RpErr.noMark
      else
        let r := InRec.ofBytes p.buf
        if recordHeadOk p.buf && r.kind == Kind.mark && r.isn == p.firstIsn then some ((s.eat 96).rpMark r)
        else some (s.rpError RpErr.noMark Status.badArg)
    | _ => if !p.ckpt.isEmpty || s.rpStopped then none else s.rpRecord

/-- Spawn takes what it can, at most `n` things. -/
def State.rpFeed : Nat → State → State
  | 0, s => s
  | n + 1, s => match s.rpNext with
    | none => s
    | some t => State.rpFeed n t

/-- Everything that the bytes at hand allow. -/
def State.rpRun (s : State) : State := s.rpFeed (s.spawn.replay.buf.length / 16 + 2)

/-! ## SPAWN_IN (R115, R343, R345) -/

/-- The buffer's records have room in the stream window (R272, R273). -/
def State.rpRoom (s : State) : Bool :=
  s.loading || decide (s.inlet.stream.length + s.spawn.replay.buf.length / 32 + 128 ≤ 16384)

/-- The oldest SPAWN_IN buffer is read. -/
def State.rpBuffer (s : State) (data : Image) : State :=
  match s.fetchedOf 8 with
  | [] => s
  | b :: _ =>
    let p := s.spawn.replay
    if s.mgmt != Node.replay || (s.rpState != Rp.loading && s.rpState != Rp.running) || p.lastSeen || !s.rpRoom then s
    else
      let s := s.readBuffer b
      match data with
      | none => s.ringError 8 3
      | some l =>
        let l := fit (min 4096 (leAt b 8 2)) l
        let s := s.takeHead 8
        let n := s.pair Reg.SPAWN_RP_BYTES_LO Reg.SPAWN_RP_BYTES_HI + BitVec.ofNat 64 l.length
        let s := s.setPair Reg.SPAWN_RP_BYTES_LO Reg.SPAWN_RP_BYTES_HI n
        if u32At b 0xC != p.seq + 1 then s.rpError RpErr.sequence Status.badArg
        else (s.updReplay (fun p => { p with
          buf := p.buf ++ l, seq := p.seq + 1, lastSeen := bitAt (u16At b 0xA) 0 })).rpRun

/-! ## Checkpoints (R346) -/

/-- The blocks in which an engine's hashes differ from the journalled ones. -/
def badBlocks (mine journal : List U64) : List Nat := (List.range 22).filter (fun b => mine.getD b 0 != journal.getD b 0)

/-- The first checkpoint that differs is recorded. -/
def State.rpMismatch (s : State) (isn : U64) (bad : List Nat) : State :=
  if s.spawn.replay.mismatch then s else
  let s := s.setPair Reg.SPAWN_RP_BAD_ISN_LO Reg.SPAWN_RP_BAD_ISN_HI isn
  let s := s.setReg Reg.SPAWN_RP_BLOCKS (maskOf 32 (fun b => bad.contains b))
  let s := (s.setRegFld Reg.SPAWN_RP_STATUS 8 2 2).setRegFld Reg.SPAWN_RP_STATUS 16 8 (bad.min?.getD 0xFF)
  (s.updReplay (fun p => { p with mismatch := true })).raise Reg.SPAWN_EVT 0x40

/-- The comparator, once every engine in service has evaluated the TICK. -/
def State.rpCompare (s : State) : State :=
  let p := s.spawn.replay
  match s.spawn.ckptDue with
  | none => s
  | some (isn, _, _) =>
    if s.mgmt != Node.replay || p.ckpt.isEmpty || !s.servers.all (fun e => decide (isn.toNat ≤ (s.eng e).evalIsn.toNat)) then s else
    let bad := (List.range 22).filter (fun b => s.servers.any (fun e => (badBlocks (s.eng e).hashes p.ckpt).contains b))
    let differ := s.hashesDiffer
    let s := (s.updReplay (fun p => { p with ckpt := [], compared := p.compared + 1 })).bump Reg.SPAWN_RP_CKPT_CNT
    let s := s.updSpawn (fun p => { p with ckptDue := none })
    let s := if bad.isEmpty then s else s.rpMismatch isn bad
    let s := match s.nonHolder with
      | some e => if differ then s.failEngine e 8 else s
      | none => s
    if !bad.isEmpty && bitAt p.rflags 0 && s.rpState = Rp.running then s.setRp Rp.held else s.rpRun

/-! ## The end (R347) -/

/-- Every record admitted has been evaluated by every engine in service. -/
def State.allEvaluated (s : State) : Bool :=
  s.spawn.replay.ckpt.isEmpty && s.servers.all (fun e => decide (s.inlet.isn.toNat ≤ (s.eng e).evalIsn.toNat))

/-- Every event has been written to its ring. -/
def State.allWritten (s : State) : Bool :=
  s.aeA.evq.isEmpty && s.aeB.evq.isEmpty && s.aeA.evWait.isEmpty && s.aeB.evWait.isEmpty && s.outlet.merge.isEmpty && s.outlet.backlog.all (fun b => decide (b.takes.length ≤ b.written))

/-- A replay that has reached STOP_ISN is HELD; one at the end of its file is DONE. -/
def State.rpEnd (s : State) : State :=
  let p := s.spawn.replay
  if s.mgmt != Node.replay || s.rpState != Rp.running || !s.allEvaluated then s
  else if s.rpStopped then s.setRp Rp.held
  else if p.lastSeen && p.buf.isEmpty && s.allWritten then
    let outcome := if p.mismatch then 2 else if p.compared = 0 then 0 else 1
    ((s.setRp Rp.done).setRegFld Reg.SPAWN_RP_STATUS 8 2 outcome).raise Reg.SPAWN_EVT 0x20
  else s

/-- Every outstanding SPAWN_IN descriptor is consumed. -/
def State.eatSpawnIn (s : State) : State :=
  let n := (s.hostIdx 8 - s.reg (Reg.RING_NODE_IDX 8)).toNat
  let s := s.updHif (fun h => { h with fetched := h.fetched.filter (fun d => d.1 != 8), fetching := Sparse.set 0 h.fetching 8 0 })
  (List.range n).foldl (fun s _ => s.advanceRing 8 false) s

def State.replayStop (s : State) (d : Desc) : State :=
  let result : U64 := s.reg Reg.SPAWN_RP_CKPT_CNT ++ s.reg Reg.SPAWN_RP_STATUS
  -- A REPLAY_START that has not completed ends with its file.
  let s := if s.loading && s.rpState = Rp.loading then s.endStart Status.state 0 else s
  let s := (s.eatSpawnIn.setRp Rp.idle).updReplay (fun _ => { })
  let s := (s.updSpawn (fun p => { p with ckptDue := none })).updDio (fun x => { x with replayHold := none })
  (s.enterSetup.setDirty.setRegFld Reg.BEHAV_REV 0 8 s.behavBoot).done d Status.ok result

/-! ## The steps -/

def execReplayStart (s : State) : Host.Outcome State Fault Refusal :=
  .next (s.fresh.dirCmd 0x52 (fun d s => s.replayStart d))

def execReplayStop (s : State) : Host.Outcome State Fault Refusal :=
  .next (s.fresh.dirCmd 0x53 (fun d s => s.replayStop d))

def execReplayBuffer (data : Image) (s : State) : Host.Outcome State Fault Refusal := .next (s.fresh.rpBuffer data)

def execReplayCheckpointCompare (s : State) : Host.Outcome State Fault Refusal := .next s.fresh.rpCompare

def execReplayDone (s : State) : Host.Outcome State Fault Refusal := .next s.fresh.rpEnd

end Sys2Proof.Machine
end

