-- ==== Sys2Proof/Machine/Update.lean ====
section
/-! DEFINITION. The update engine: sessions, pieces, verification, activation, trial, and the custody key (R473-R490). -/

namespace Sys2Proof.Machine

def State.updUpd (s : State) (f : Upd → Upd) : State := { s with upd := f s.upd }

/-- Session states of Table 17-4. -/
abbrev Ses.idle : Nat := 0
abbrev Ses.receiving : Nat := 1
abbrev Ses.verifying : Nat := 2
abbrev Ses.ready : Nat := 3
abbrev Ses.activating : Nat := 4
abbrev Ses.trial : Nat := 5
abbrev Ses.fallback : Nat := 6

/-- Both bitmap copies without the pieces that `f` names. -/
def State.clearBits (s : State) (f : Nat → Bool) : State :=
  let keep := fun (l : List Nat) => l.filter (fun p => !f p)
  (s.countErases bitmapSector 2).updNvm (fun v => { v with bits0 := keep v.bits0, bits1 := keep v.bits1 })

/-- Bit `p` is programmed in both copies. -/
def State.setBits (s : State) (p : Nat) : State :=
  let put := fun (l : List Nat) => l.filter (· < p) ++ p :: l.filter (p < ·)
  s.updNvm (fun v => { v with bits0 := put v.bits0, bits1 := put v.bits1 })

/-- The session ends in IDLE with its bitmap cleared. -/
def State.endSession (s : State) : State :=
  ((s.clearBits (fun _ => true)).updUpd (fun u => { u with bufs := [], readFails := [] })).setSes Ses.idle

/-- The boot record as an ACTIVE one: a fallback or a trial is over. -/
def State.bootActive (s : State) : State := s.writeBoot { s.nvm.boot with mode := 0, trialBoots := 0, reason := 0 }

/-! ## UPD_BEGIN (R474, R475) -/

def State.updBegin (s : State) (d : Desc) : State :=
  let id := d.arg 8 4
  let n := d.arg 0xC 4
  let st := s.upd.state
  if !inRange 1 524287 id || !inRange 2 8192 n || !d.resv 0x30 16 then s.done d Status.badArg
  else if inRange Ses.verifying Ses.trial st || (st = Ses.receiving && !d.force) then s.done d Status.busy
  else
    let k := 1 - s.upd.runSlot
    let s := if st = Ses.fallback then s.bootActive else s
    let s := s.writeSes { id := BitVec.ofNat 32 id, pieces := n, hash := slice d.raw 0x10 32, target := k, state := Ses.receiving }
    let s := (s.clearBits (fun _ => true)).countErase (0x2000 * k)
    let s := s.updSlot k (fun g => { factory := false, pieces := Sparse.erase g.pieces 0 })
    let s := s.updUpd (fun u => { u with bufs := [], readFails := [], reason := 0, failPart := 0xFF })
    (s.setSes Ses.receiving).writeDone.done d Status.ok (BitVec.ofNat 64 k)

/-! ## Pieces (R476-R478) -/

/-- A rejected piece (Table 17-8). -/
def State.pieceReject (s : State) (p reason : Nat) : State :=
  let s := s.setReg Reg.UPD_LAST_REJ (packU32 [(p, 0), (reason, 16)])
  (s.bump Reg.UPD_PIECE_REJ_CNT).raise Reg.UPD_EVT 1

/-- Reason for which a piece is not taken; 0 when it is. -/
def State.pieceReason (s : State) (b : List Byte) (data : Image) : Nat :=
  let x := s.nvm.session
  let info := u32At b 0xC
  if fld info 13 19 != x.id.toNat then 1
  else if x.pieces ≤ fld info 0 13 then 2
  else if leAt b 8 2 != 4096 || leAt b 0xA 2 != 0 then 3
  else if fld info 0 13 = 0 && (match data with | some l => sha256 (fit 4096 l) != x.hash | none => false) then 4
  else if s.upd.state != Ses.receiving then 5
  else if data.isNone then 6
  else 0

/-- A UPD descriptor's buffer is read, while one of the 16 on-chip buffers is free. -/
def State.pieceReceived (s : State) (data : Image) : State :=
  match s.fetchedOf 9 with
  | [] => s
  | b :: _ =>
    if decide (16 ≤ s.upd.bufs.length) || s.mgmt == Node.activating then s else
    let p := fld (u32At b 0xC) 0 13
    let why := s.pieceReason b data
    let s := (s.readBuffer b).takeHead 9
    if why != 0 then s.pieceReject p why
    else if s.nvm.session.bitmap.contains p then s.bump Reg.UPD_PIECE_DUP_CNT
    else s.updUpd (fun u => { u with bufs := u.bufs ++ [(p, fit 4096 (data.getD []))] })

/-- The first buffer of a piece is free again. -/
def State.dropBuf (s : State) (p : Nat) : State := s.updUpd (fun u => { u with bufs := dropFirst p u.bufs, readFails := Sparse.erase u.readFails p })

/-- Piece `p` of the buffers is erased, programmed and read back (R477); after a read-back that fails the sector counts as erased. -/
def State.storePiece (s : State) (p : Nat) (readbackOk : Bool) : State :=
  match s.upd.bufs.find? (fun b => b.1 == p) with
  | none => s
  | some (_, data) =>
    let k := s.nvm.session.target
    if s.nvm.session.bitmap.contains p then (s.dropBuf p).bump Reg.UPD_PIECE_DUP_CNT
    else
      let s := s.countErase (0x2000 * k + p)
      if readbackOk then
        let s := s.updSlot k (fun g => { g with pieces := Sparse.insert g.pieces p data })
        ((s.setBits p).dropBuf p).bump Reg.UPD_PIECE_CNT
      else
        let n := Sparse.get 0 s.upd.readFails p
        let s := s.updSlot k (fun g => { g with pieces := Sparse.erase g.pieces p })
        if n = 2 then (s.dropBuf p).pieceReject p 7 else s.updUpd (fun u => { u with readFails := Sparse.insert u.readFails p (n + 1) })

/-! ## UPD_STATUS (R480) -/

/-- REASON: a failed verification's, else the boot record's. -/
def State.updReason (s : State) : Nat := if s.upd.reason = 0 then s.nvm.boot.reason.toNat else s.upd.reason

/-- Seconds left in TRIAL. -/
def State.trialLeft (s : State) : Nat :=
  if s.upd.state = Ses.trial then s.upd.trialLeft - (s.frcNat - s.upd.trialAt) / 200000000 else 0

/-- IMAGE_VER of the session's manifest. -/
def State.targetVer (s : State) : U32 :=
  if s.nvm.session.bitmap.contains 0 then u32At (s.nvm.slotOf s.nvm.session.target).manifest 8 else 0

def State.updBlock (s : State) : List Byte :=
  let x := s.nvm.session
  leBytes 4 x.id.toNat ++ [BitVec.ofNat 8 s.upd.state, BitVec.ofNat 8 x.target, BitVec.ofNat 8 s.updReason,
    BitVec.ofNat 8 s.upd.failPart] ++ leBytes 4 x.pieces ++ leBytes 4 x.bitmap.length ++ fit 32 x.hash
    ++ leBytes 4 (s.nvm.imageVer s.upd.runSlot).toNat ++ leBytes 4 s.targetVer.toNat ++ leBytes 4 s.trialLeft ++ zeros 4
    ++ (List.range 1024).map (fun i => maskOf 8 (fun j => x.bitmap.contains (8 * i + j)))

def State.updStatus (s : State) (writeOk : Bool) (d : Desc) : State :=
  let addr := d.arg 0x10 8
  if !d.resv 8 8 || !d.resv 0x18 40 || addr % 64 != 0 || (addr != 0 && !writeOk) then s.done d Status.badArg
  else
    let s := if addr = 0 then s else s.emitOut (.hostWrite addr s.updBlock)
    s.done d Status.ok (BitVec.ofNat 64 (s.upd.state + 2 ^ 8 * s.updReason + 2 ^ 16 * s.nvm.session.bitmap.length
      + 2 ^ 32 * s.nvm.session.id.toNat))

/-! ## UPD_VERIFY (R481, Tables 17-10, 17-11) -/

/-- The SESSION_ID of a command is the present session's. -/
def State.sesMatch (s : State) (d : Desc) : Bool := d.arg 8 4 == s.nvm.session.id.toNat

/-- The first failing check of 1 to 6: REASON and status. -/
def State.checkManifest (s : State) (m : List Byte) : Option (Nat × Nat) :=
  let fmt := s.nvm.imageFormat s.upd.runSlot
  if !manifestFormatOk m then some (0x11, Status.badArg)
  else if !s.nvm.keyOk m then some (0x12, Status.auth)
  else if !manifestSigned m then some (0x13, Status.auth)
  else if s.rfld Reg.HW_REV 0 16 < leAt m 0xC 2 then some (0x14, Status.badArg)
  else if leAt m 0x10 4 != s.nvm.session.pieces || !partsOk (manifestParts m) s.nvm.session.pieces then some (0x15, Status.badArg)
  else if !(decide (leAt m 0x16 2 ≤ fmt) && decide (fmt ≤ leAt m 0x14 2)) then some (0x18, Status.badArg)
  else none

def State.verifyFailed (s : State) (reason : Nat) : State :=
  ((s.updUpd (fun u => { u with reason := reason })).bump Reg.UPD_VERIFY_FAIL_CNT).raise Reg.UPD_EVT 4

def State.updVerify (s : State) (d : Desc) : State :=
  let x := s.nvm.session
  if !d.resv 0xC 52 then s.done d Status.badArg
  else if !s.sesMatch d then s.done d Status.notFound
  else if s.upd.state = Ses.verifying then s.done d Status.busy
  else if s.upd.state != Ses.receiving || decide (x.bitmap.length < x.pieces) then
    s.done d Status.state (BitVec.ofNat 64 (x.pieces - x.bitmap.length))
  else
    let g := s.nvm.slotOf x.target
    match s.checkManifest g.manifest with
    | some (why, st) => ((s.verifyFailed why).endSession).done d st
    | none =>
      match g.badPart with
      | some p =>
        let s := (s.verifyFailed 0x17).clearBits (fun i => decide (p.offset / 4096 ≤ i) && decide (i < p.stop / 4096))
        (s.updUpd (fun u => { u with failPart := p.id })).done d Status.crc
      | none =>
        let s := s.updUpd (fun u => { u with reason := 0, failPart := 0xFF })
        ((s.setSes Ses.ready).raise Reg.UPD_EVT 2).done d Status.ok ((u32At g.manifest 8).zeroExtend 64)

/-! ## UPD_ACTIVATE (R484, Table 17-13) -/

/-- Completions that are ready are written while CMPL has credit. -/
def State.writeReady (s : State) : State :=
  (List.range (s.hif.ready.length + s.hif.unwritten)).foldl (fun s _ => s.writeCompletion) s

/-- A shared-output claim is given up before the pause, its outputs first (R321). -/
def State.claimGone (s : State) : State :=
  if s.skink.claim then (s.updSkink (fun k => { k with sharing := false })).sharedOff.dropClaim else s

/-- Step 3: the trial's boot record, with a settings region to convert into that holds the quotas in force (R504) and is empty else. -/
def State.trialRecord (s : State) (minutes : Nat) : State :=
  let u := s.upd
  let k := 1 - u.runSettings
  let target := s.nvm.session.target
  let s := (s.eraseRegion k { quotas := s.active.quotas }).updUpd (fun u => { u with erasing := none })
  s.writeBoot { s.nvm.boot with
    slot := BitVec.ofNat 8 target, settings := BitVec.ofNat 8 k, mode := 1, trialBoots := 0, prevSlot := BitVec.ofNat 8 u.runSlot,
    prevSettings := BitVec.ofNat 8 u.runSettings, trialMin := BitVec.ofNat 16 minutes, session := s.nvm.session.id, reason := 0,
    imageVer := s.nvm.imageVer target }

/-- The arguments of UPD_ACTIVATE. -/
def Desc.activateOk (d : Desc) : Bool := d.resv 0xE 50 && decide (d.arg 0xC 2 ≤ 1440)

/-- Its completion can be written at once, behind those that are ready. -/
def State.canAnswer (s : State) : Bool := decide (s.hif.ready.length + s.hif.unwritten < s.ringCredit 1)

/-- UPD_ACTIVATE, its steps up to the pause (R484, Table 17-13); its completion is written before the pause (R124). -/
def State.updActivate (s : State) (d : Desc) : State :=
  let m := d.arg 0xC 2
  if !d.activateOk then s.done d Status.badArg
  else if !s.sesMatch d then s.done d Status.notFound
  else if s.upd.state != Ses.ready then s.done d Status.state
  else
    let s := (s.extendWatchdogs.claimGone.copyDone true).done d Status.ok
    let s := ((s.writeReady.setMgmt Node.activating).lanesEnd Lane.cut).canPause.unsave.beginHold
    let s := s.updUpd (fun u => { u with pauseAt := s.frcNat })
    (s.trialRecord (if m = 0 then 30 else m)).setSes Ses.activating

/-- Step 6: the new image runs, `pauseUs` after the pause began, and the node goes on in RUN (R25, R174, R356, R376); the trial's boot record has been durable since step 3. -/
def State.activated (s : State) (pauseUs : Nat) : State :=
  if s.mgmt != Node.activating then s else
  let s := s.writeDone
  let s := s.pass (200 * pauseUs - (s.frcNat - s.upd.pauseAt))
  let u := s.upd
  let s := { s with upd := { u with
    state := Ses.trial, runSlot := s.nvm.session.target, runSettings := 1 - u.runSettings, trialAt := s.frcNat,
    trialLeft := 60 * s.nvm.boot.trialMin.toNat, converting := true, converted := false } }
  let s := ((s.recordMax Reg.UPD_PAUSE_MAX ((s.frcNat - s.upd.pauseAt) / 200)).bump Reg.UPD_ACTIVATE_CNT).raise Reg.UPD_EVT 8
  let s := (List.range 4).foldl (fun s b => s.updBank b (fun k => { k with initial := true })) s
  let s := (s.updEng .A (fun x => { x with tickAt := s.frcNat })).updEng .B (fun x => { x with tickAt := s.frcNat })
  (s.setMgmt Node.run).lanesResume.canStart.fetchAll

/-- Step 6 is not reached within 400 ms (R485). -/
def State.notActivated (s : State) : State := if s.mgmt = Node.activating then s.fallBack 4 else s

/-! ## Trial (R486-R488) -/

def State.trialWarn (s : State) : State :=
  if s.upd.state != Ses.trial then s
  else (s.updUpd (fun u => { u with trialLeft := 300, trialAt := s.frcNat })).raise Reg.UPD_EVT 0x40

def State.trialOver (s : State) : State := if s.upd.state = Ses.trial then s.fallBack 1 else s

/-- UPD_CONFIRM completes once its record is durable; the erase that follows goes on until a time that the spec does not state, and a reset before it leaves the rest to the next boot (R486, R489). -/
def State.updConfirm (s : State) (d : Desc) : State :=
  if !d.resv 0xC 52 then s.done d Status.badArg
  else if !s.sesMatch d then s.done d Status.notFound
  else if s.upd.state != Ses.trial then s.done d Status.state
  else if s.upd.converting then s.done d Status.busy
  else
    let k := 1 - s.upd.runSettings
    let (i, s) := s.bootActive.draw
    let e : Erase := { ends := s.frcNat + Config.eraseClocks i, keys := s.nvm.keys }
    let s := ((s.eraseRegion k { }).revoke (s.nvm.slotOf s.upd.runSlot).manifest).setSes Ses.idle
    let s := (s.updUpd (fun u => { u with trialLeft := 0, erasing := some e })).writeDone
    (s.raise Reg.UPD_EVT 0x10).done d Status.ok ((s.nvm.imageVer s.upd.runSlot).zeroExtend 64)

def State.updAbandon (s : State) (d : Desc) : State :=
  if !d.resv 0xC 52 then s.done d Status.badArg
  else if !s.sesMatch d then s.done d Status.notFound
  else if s.upd.state = Ses.idle then s.done d Status.state
  else if s.upd.state = Ses.trial then (s.done d Status.ok).writeReady.fallBack 5
  else
    let s := if s.upd.state = Ses.fallback then s.bootActive else s
    s.endSession.done d Status.ok

def State.converted (s : State) : State := if s.upd.converting then s.convert else s

def State.notConverted (s : State) : State := if s.upd.converting then s.fallBack 3 else s

/-! ## The custody key (R490) -/

/-- Key byte 4k + j is byte j of UPD_KEYk. -/
def Upd.key (u : Upd) : List Byte := (List.range 8).flatMap (fun k => leBytes 4 (assocGet 0 u.keyWords k).toNat)

def Upd.keyWhole (u : Upd) : Bool := (List.range 8).all (fun k => u.keyWords.any (fun w => w.1 == k))

/-- PROGRAM. -/
def State.keyProgram (s : State) : State :=
  let v := s.nvm
  if s.mgmt != Node.setup || v.custody.isSome || v.programming.isSome || !s.upd.keyWhole || (v.bank0Spent && v.bank1Spent) then
    (s.setRegBit Reg.UPD_KEY_STATUS 3 true).ignored Reg.UPD_KEY_CMD Why.cmdState
  else (s.setRegBit Reg.UPD_KEY_STATUS 3 false).updNvm (fun v => { v with programming := some s.upd.key })

/-- OTP holds the key: it is loaded, and the words are cleared. -/
def State.keyDone (s : State) : State :=
  match s.nvm.programming with
  | none => s
  | some k =>
    let s := s.updNvm (fun v => { v with custody := some k, programming := none })
    (s.updUpd (fun u => { u with keyWords := u.keyWords.map (fun w => (w.1, 0)) })).raise Reg.UPD_EVT 0x80

/-! ## The steps -/

def execUpdBegin (s : State) : Host.Outcome State Fault Refusal := .next (s.fresh.dirCmd 0x60 (fun d s => s.updBegin d))

def execUpdStatus (writeOk : Bool) (s : State) : Host.Outcome State Fault Refusal :=
  .next (s.fresh.dirCmd 0x61 (fun d s => s.updStatus writeOk d))

def execUpdVerify (s : State) : Host.Outcome State Fault Refusal := .next (s.fresh.dirCmd 0x62 (fun d s => s.updVerify d))

/-- The command is not started while CMPL has no free entry for its completion, which R124 has written before the pause (DESIGN CHOICE, log entry 64). -/
def State.activateWaits (s : State) : Bool :=
  match s.cmdHead (· == 0x63) with
  | some d => s.accepts 0x63 && d.activateOk && s.sesMatch d && s.upd.state == Ses.ready && !s.canAnswer
  | none => false

def execUpdActivate (s : State) : Host.Outcome State Fault Refusal :=
  let s := s.fresh
  .next (if s.activateWaits then s else s.dirCmd 0x63 (fun d s => s.updActivate d))

def execUpdConfirm (s : State) : Host.Outcome State Fault Refusal := .next (s.fresh.dirCmd 0x64 (fun d s => s.updConfirm d))

def execUpdAbandon (s : State) : Host.Outcome State Fault Refusal := .next (s.fresh.dirCmd 0x65 (fun d s => s.updAbandon d))

def execUpdPieceReceived (data : Image) (s : State) : Host.Outcome State Fault Refusal := .next (s.fresh.pieceReceived data)

def execPieceStored (p : Nat) (readbackOk : Bool) (s : State) : Host.Outcome State Fault Refusal :=
  need (decide (p < 8192)) (s.fresh.storePiece p readbackOk)

def execActivationComplete (pauseUs : Nat) (s : State) : Host.Outcome State Fault Refusal := .next (s.fresh.activated pauseUs)

def execActivationTimeout (s : State) : Host.Outcome State Fault Refusal := .next s.fresh.notActivated

def execTrialWarn (s : State) : Host.Outcome State Fault Refusal := .next s.fresh.trialWarn

def execTrialTimeout (s : State) : Host.Outcome State Fault Refusal := .next s.fresh.trialOver

def execSettingsConversionDone (s : State) : Host.Outcome State Fault Refusal := .next s.fresh.converted

def execSettingsConversionFail (s : State) : Host.Outcome State Fault Refusal := .next s.fresh.notConverted

def execKeyProgram (s : State) : Host.Outcome State Fault Refusal := .next s.fresh.keyProgram

def execKeyProgrammed (s : State) : Host.Outcome State Fault Refusal := .next s.fresh.keyDone

end Sys2Proof.Machine
end

