-- ==== Sys2Proof/Machine/RegView.lean ====
section
/-! DEFINITION. What a read of each BAR0 register shows (R509-R513 and the register summaries): the stored value, or the value that the units' state gives at that instant. -/

namespace Sys2Proof.Machine

/-- Unit number of an offset in a block of a base and a stride, and the offset of its register in unit 0. -/
def regUnit (base stride o : Nat) : Nat × Off := ((o - base) / stride, base + (o - base) % stride)

def lo32 (v : U64) : U32 := v.truncate 32
def hi32 (v : U64) : U32 := BitVec.ofNat 32 (v.toNat / 2 ^ 32)
def n32 (n : Nat) : U32 := BitVec.ofNat 32 n

/-- A pair's half: `lo` at its first offset, the high word at the next. -/
def half (o lo : Off) (v : U64) : U32 := if o = lo then lo32 v else hi32 v

/-- An offset is one of the two of a pair that starts at `lo`. -/
def inPair (o lo : Off) : Bool := o == lo || o == lo + 4

/-- A stored register with bits taken from the state beside it. -/
def State.withBits (s : State) (o : Off) (bits : List (Nat × Nat)) : U32 := s.reg o ||| packU32 bits

/-! ## HIF (Tables 4-11 to 4-14) and the LEGACY block -/

/-- RING_STATUS.HELD: a lossless ring waits for free entries, or CMD for completion space (R123, R137). -/
def State.ringHeld (s : State) (n : Nat) : Bool :=
  s.ringActive n &&
    (if n = 0 then decide (256 ≤ s.cmplKept)
    else decide (s.ringSize n ≤ s.ringUsed n) && s.ringWaiting n)

/-- Registers of ring n; those of ring 31 read zero (R103). -/
def State.viewRing (s : State) (o : Off) : U32 :=
  let (n, b) := regUnit 0x1000 0x40 o
  if n = 31 then 0
  else if b = Reg.RING_STATUS 0 then
    s.withBits o [(b2n (s.prefetchOver n), 1), (b2n (s.ringHeld n), 8)]
  else if b = Reg.RING_PREFETCH 0 then (if isHostToNode n then n32 (s.prefetchQuota n) else 0)
  else if b = Reg.RING_INFLIGHT 0 then n32 (if isHostToNode n then s.prefetched n else s.ringUsed n)
  else s.reg o

def State.viewHif (s : State) (o : Off) : U32 :=
  if o = Reg.HIF_CMPL_KEPT then n32 s.cmplKept
  else if inPair o Reg.HIF_HEARTBEAT_LO then half o Reg.HIF_HEARTBEAT_LO s.hif.heartbeat
  else if o = Reg.HIF_PREFETCH_OUT then n32 ((List.range 31).map s.prefetched).sum
  else s.reg o

/-- The LEGACY block, which reads zero while effective FMODE is off (R87, R132). -/
def State.viewLegacy (s : State) (o : Off) : U32 :=
  if !s.fmodeOn then 0
  else if decide (Reg.LEG_EVT_W0 ≤ o) && decide (o ≤ Reg.LEG_EVT_W3) then s.outlet.legLatch.getD ((o - Reg.LEG_EVT_W0) / 4) 0
  else if o = Reg.LEG_EVT_LEVEL then n32 s.outlet.legFifo.length
  else if decide (Reg.LEG_RTC_SEC ≤ o) && decide (o ≤ Reg.LEG_RTC_YEAR) then s.rtc.legSet.legReg ((o - Reg.LEG_RTC_SEC) / 4)
  else if o = Reg.LEG_RTC_STAT then
    s.withBits o [(b2n s.rtc.legSet.legCal.isNone, 1), (b2n s.rtc.legStale, 2)]
  else s.reg o

/-! ## Front end (Tables 5-10, 6-11 to 6-13) -/

def State.anyLane (s : State) (f : Lane → Bool) : Bool := s.fe.lanes.any (fun c => f c.2)

/-- The lane has a position that converts or idles (R173). -/
def State.laneScans (s : State) (n : Nat) : Bool :=
  (s.scanList n).any (fun p => (s.chDef (s.scanDef n p)).lane == n)

def State.laneStatus (s : State) (n : Nat) : U32 :=
  let l := s.lane n
  packU32 [(b2n (s.mgmt == Node.run && s.laneOn n && (s.laneScans n || l.calActive)), 0), (b2n (s.laneFault n), 1), (b2n l.calActive, 2),
    (b2n (s.laneBit Reg.FE_CAL_WARN0 n), 3), (b2n (!l.drain.isEmpty), 4), (b2n (!l.held.isEmpty), 5),
    (b2n !(s.unplacedDefs n).isEmpty, 6), ((l.slot.map (·.pos)).getD 0, 8), ((s.scanList n).length, 16),
    (if l.calActive then l.calItem else s.calItemFrom n l.calItem, 24)]

/-- The scan period in µs, the fraction dropped where P is no whole number of them (R173; DESIGN CHOICE, log entry 78). -/
def State.scanPeriod (s : State) (n : Nat) : Nat :=
  (((s.scanList n).filter (fun p => (s.chDef (s.scanDef n p)).lane == n)).map
    (fun p => slotTime (s.chDef (s.scanDef n p)).rate)).sum / 1000

def State.viewLane (s : State) (o : Off) : U32 :=
  let (n, b) := regUnit 0x9000 0x100 o
  if b = Reg.LANE_STATUS 0 then s.laneStatus n
  else if b = Reg.LANE_SCAN_PERIOD 0 then n32 (s.scanPeriod n)
  else if b = Reg.LANE_CAL_AGE 0 then n32 ((s.frcNat - (s.lane n).calDoneAt) / 200000000)
  else if b = Reg.LANE_HELD_DEF 0 then (match (s.lane n).held with | r :: _ => n32 r.srcIndex | [] => 0x100)
  else if b = Reg.LANE_DRAIN_DEF 0 then (match (s.lane n).drain with | d :: _ => n32 d | [] => 0x100)
  else s.reg o

def State.viewFe (s : State) (o : Off) : U32 :=
  if o = Reg.FE_STATUS then
    s.withBits o [(b2n (s.reg Reg.FE_LANE_FAULT0 != 0 || s.reg Reg.FE_LANE_FAULT1 != 0), 2),
      (b2n (s.anyLane (fun l => !l.drain.isEmpty || !l.held.isEmpty)), 3)]
  else if inPair o Reg.FE_LIN_VALID0 then
    maskOf 32 (fun i => linReason (s.linBytes (8 * (o - Reg.FE_LIN_VALID0) + i)) == 0)
  else s.reg o

def State.viewXp (s : State) (o : Off) : U32 :=
  if o = Reg.XP_STATUS then
    packU32 [(b2n ((List.range 6).any (fun k => s.reg (Reg.XP_CLAMP_NOW k) != 0)), 1),
      (b2n ((List.range 6).any (fun k => s.reg (Reg.XP_BURDEN_OPEN k) != 0)), 2), (b2n (s.rbit Reg.FE_STATUS 0), 3)]
  else s.reg o

/-! ## Engines, Inlet and Outlet, Croak (Tables 8-16, 9-14, 10-10, 10-11) -/

def State.viewSkink (s : State) (o : Off) : U32 :=
  let k := s.skink
  if o = Reg.SKINK_STATUS then
    packU32 [(s.holderCode, 0), (b2n k.handover, 2), (b2n k.claim, 3), (b2n (!k.intlkInHigh), 4), (b2n (!k.pairSenseHigh), 5),
      (b2n (s.mgmt == Node.run && s.rbit Reg.SKINK_AUDIT_CTL 0), 6), (b2n k.diverge.isSome, 7), (engNo k.preferred, 8)]
  else if o = Reg.SKINK_AUDIT_POS then packU32 [(k.auditPos, 0), (min k.auditPasses 65535, 16)]
  else s.reg o

/-- Seconds of RETURN_HOLDOFF left to an engine in PROVING. -/
def State.holdoffLeft (s : State) (e : EngineId) : Nat :=
  let x := s.eng e
  if x.svc = Svc.proving then s.rfld Reg.SKINK_CTL 0 16 - (s.frcNat - x.provingSince) / 200000000 else 0

def State.viewEngine (s : State) (o : Off) : U32 :=
  let (n, b) := regUnit 0x10100 0x80 o
  let e := if n = 0 then EngineId.A else EngineId.B
  let x := s.eng e
  let holds := s.skink.holder == some e
  if b = Reg.AE_STATUS 0 then
    packU32 [(x.svc, 0), (b2n holds, 3), (b2n (x.svc == Svc.inService), 4), (x.lastCause, 8),
      (min 3 (x.failTimes.filter (fun t => decide (s.frcNat - t ≤ failWindow))).length, 12), (s.holdoffLeft e, 16)]
  else if inPair b (Reg.AE_EVAL_ISN_LO 0) then half b (Reg.AE_EVAL_ISN_LO 0) x.evalIsn
  else if inPair b (Reg.AE_NEXT_ESN_LO 0) then half b (Reg.AE_NEXT_ESN_LO 0) (x.nextEsn.zeroExtend 64)
  else if b = Reg.AE_HOLD_TIME 0 then
    n32 ((x.heldClocks + if holds then s.frcNat - x.holdSince else 0) / 200000000)
  else s.reg o

def State.viewInlet (s : State) (o : Off) : U32 :=
  let run := s.mgmt == Node.run
  let v := s.eng s.viewEng
  if o = Reg.INLET_STATUS then
    packU32 [(b2n (run && !s.heldByEngines && !s.heldBySpawn), 0), (b2n (run && s.heldByEngines), 1),
      (b2n (run && s.heldBySpawn), 2), (b2n (s.mgmt == Node.activating), 3), (b2n (s.mgmt == Node.replay), 4)]
  else if inPair o Reg.INLET_ISN_LO then half o Reg.INLET_ISN_LO s.inlet.isn
  else if inPair o Reg.INLET_TICK_NO_LO then half o Reg.INLET_TICK_NO_LO s.inlet.tickNo
  else if o = Reg.INLET_FILL then n32 s.inletFill
  else if o = Reg.INLET_LAG_A then n32 (min 16384 (s.lag .A))
  else if o = Reg.INLET_LAG_B then n32 (min 16384 (s.lag .B))
  else if o = Reg.OUT_STATUS then
    packU32 [(b2n (v.unreported != 0), 0), (b2n v.groupRefresh, 1), (b2n v.nodeRefresh, 2),
      (b2n s.backlogOver, 3), (b2n (!s.outlet.merge.isEmpty), 4)]
  else if inPair o Reg.OUT_NEXT_ESN_LO then half o Reg.OUT_NEXT_ESN_LO (s.outlet.nextRel.zeroExtend 64)
  else if inPair o Reg.OUT_RELEASED_ESN_LO then half o Reg.OUT_RELEASED_ESN_LO (s.releasedEsn.zeroExtend 64)
  else if o = Reg.OUT_BACKLOG_FILL then n32 s.backlogFill
  else if o = Reg.OUT_BACKLOG_CAP then n32 s.backlogCap
  else if o = Reg.OUT_COALESCED_PTS then n32 v.unreportedSwept
  else if o = Reg.CUST_STATUS then packU32 [(b2n s.nvm.custody.isSome, 0), (v.custN % 256, 8)]
  else if o = Reg.TREND_STATUS then packU32 [(s.trends.length, 0), (min 65535 (s.trendRate.1 / s.trendRate.2), 16)]
  else s.reg o

/-- The group's state half that the view shows: the view engine's, and zeros outside RUN (Table 8-16). -/
def State.groupMask (s : State) (k : Nat) (f : GrState → Bool) : U32 :=
  if s.mgmt != Node.run then 0 else maskOf 32 (fun i => f (s.gr s.viewEng (32 * k + i)))

def State.anyGroup (s : State) (f : GrState → Bool) : Bool :=
  s.mgmt == Node.run && (s.enabledGroups.any (fun g => f (s.gr s.viewEng g)))

def State.viewCroak (s : State) (o : Off) : U32 :=
  let run := s.mgmt == Node.run
  let x := s.gr s.viewEng (s.rfld Reg.CROAK_SEL 0 8)
  let bank := fun (base : Off) => decide (base ≤ o) && decide (o < base + 0x20)
  let k := (o - 0x14040) % 0x20 / 4
  if o = Reg.CROAK_STATUS then
    if run then packU32 [(engNo s.viewEng, 0), (b2n (s.maskWarn != 0), 2), (b2n (s.anyGroup (fun x => calling x.callState)), 3),
      (b2n (s.anyGroup (fun x => x.callState == Call.bridge)), 4), (b2n (s.anyGroup (fun x => x.has G.dmWarn)), 5)] else 0
  else if o = Reg.CROAK_SEL_STATE then
    (if run then packU32 [(x.callState.toNat, 0), (x.gflags.toNat, 8), (x.callTimer.toNat, 16)] else 0)
  else if o = Reg.CROAK_SEL_ACTIVE then (if run then x.activeCnt else 0)
  else if o = Reg.CROAK_SEL_UNACKED then (if run then x.unackedCnt else 0)
  else if o = Reg.CROAK_SEL_FIRST then (if run then packU32 [(fld x.firstOut 0 17, 0), (x.worst.toNat, 24)] else 0)
  else if inPair o Reg.CROAK_DRIVE_LO then (if run then half o Reg.CROAK_DRIVE_LO (s.croakDrive s.viewEng) else 0)
  else if inPair o Reg.CROAK_MASK_WARN_LO then (if run then half o Reg.CROAK_MASK_WARN_LO s.maskWarn else 0)
  else if bank (Reg.CROAK_CALLING 0) then s.groupMask k (fun x => calling x.callState)
  else if bank (Reg.CROAK_BRIDGE 0) then s.groupMask k (fun x => x.callState == Call.bridge)
  else if bank (Reg.CROAK_DMWARN 0) then s.groupMask k (fun x => x.has G.dmWarn)
  else if bank (Reg.CROAK_BAD 0) then (if run then s.reg o ||| s.groupMask k (fun x => x.has G.cfgFault) else 0)
  else s.reg o

/-! ## Spawn (Table 11-16) -/

/-- Journal time replayed per unit of replay time, × 1,000: ns of TIMESTAMP against FRC ticks of 5 ns. -/
def Replay.speed (p : Replay) : Nat :=
  (p.lastTime.toNat - p.firstTime.toNat) * 1000 / ((p.lastFrc - p.startFrc) * 5)

def State.viewSpawn (s : State) (o : Off) : U32 :=
  if o = Reg.SPAWN_STATUS then
    s.withBits o [(b2n s.heldBySpawn, 6), (b2n s.noMark, 7), (b2n (s.capturing && decide (18 - s.hif.elasticReq < s.spawn.share)), 8)]
  else if o = Reg.SPAWN_RING_FILL then n32 s.spawn.fill
  else if o = Reg.SPAWN_RP_SPEED then n32 s.spawn.replay.speed
  else s.reg o

/-! ## DIO (Tables 12-9, 12-11) and CAN (Tables 13-19, 13-20) -/

def State.viewDioCh (s : State) (o : Off) : U32 :=
  let (n, b) := regUnit 0x18000 0x20 o
  let bit := fun (r : Off) => b2n (s.rbit r (n % 16))
  if b = Reg.DIO_CH_STATUS 0 then
    packU32 [(bit (Reg.DIO_BANK_LEVEL (n / 16)), 0), (bit (Reg.DIO_BANK_CMD (n / 16)), 1), (bit (Reg.DIO_BANK_MISMATCH (n / 16)), 2),
      (b2n (bitAt s.dio.callReq n), 3), (b2n (bitAt s.dio.ownReq n), 4), (b2n (s.withheld n && s.request n), 5)]
  else if b = Reg.DIO_CH_COUNT 0 then
    (if n < 8 then (s.counter n).count else if 32 ≤ n && n < 40 then (s.counter (n - 24)).count else 0)
  else s.reg o

def TxSlot.word (t : TxSlot) : U32 :=
  packU32 [(1, 0), (b2n t.node, 1), (b2n t.inTx, 2), (b2n t.cancel, 3), (min 255 t.attempts, 8), (t.tag.toNat, 16)]

def State.viewCan (s : State) (o : Off) : U32 :=
  let (n, b) := regUnit 0x20000 0x400 o
  let c := s.canCh n
  if b = Reg.CAN_STATUS 0 then s.canStatusView n
  else if b = Reg.CAN_ERRCNT 0 then
    packU32 [(min c.tecCnt 511, 0), (c.recCnt % 128, 16), (b2n (decide (128 ≤ c.recCnt)), 23)]
  else if b = Reg.CAN_TX_SLOTS 0 then maskOf 32 (fun i => c.slots.any (fun t => t.idx == i))
  else if b = Reg.CAN_FILT_USED 0 then n32 (s.filtUsed (s.filtWalked n).1 (s.filtWalked n).2)
  else if b = Reg.CAN_RX_SSN 0 then (Sparse.get (0 : U16) s.inlet.ssn (mkSource 4 n).toNat).zeroExtend 32
  else if decide (Reg.CAN_SLOT 0 0 ≤ b) && decide (b ≤ Reg.CAN_SLOT 0 31) then
    ((c.slots.find? (fun t => t.idx == (b - Reg.CAN_SLOT 0 0) / 4)).map TxSlot.word).getD 0
  else s.reg o

def State.viewCanGlb (s : State) (o : Off) : U32 :=
  if o = Reg.CAN_GLB_STATUS then
    maskOf 32 (fun i => if i < 8 then decide (Node.setup ≤ s.mgmt) && !s.canStat i CanStat.outOfService else decide (i < 16) && s.canOn (i - 8))
  else s.reg o

/-! ## Time (Tables 14-6 to 14-8, 15-2, 15-3) -/

def State.viewEth (s : State) (o : Off) : U32 :=
  let (p, b) := regUnit 0x28000 0x800 o
  let x := s.port p
  if b = Reg.ETH_STATUS 0 then s.withBits o [(b2n (s.ws.servo.master.any (fun m => m.2 == p)), 3)]
  else if b = Reg.PTP_TXTS_W0 0 then (match x.txts with | (id, _) :: _ => packU32 [(id.toNat, 0), (1, 16)] | [] => 0)
  else if inPair b (Reg.PTP_TXTS_TIME_LO 0) then half b (Reg.PTP_TXTS_TIME_LO 0) ((x.latch.map (·.2)).getD 0)
  else if b = Reg.PTP_TXTS_LEVEL 0 then n32 x.txts.length
  else s.reg o

def State.viewWs (s : State) (o : Off) : U32 :=
  let w := s.ws
  if o = Reg.WS_STATUS then
    packU32 [(b2n w.normal, 0), (w.quality.toNat, 1), (w.epoch.toNat, 4), (if s.servoHost then 5 else w.servoState, 10),
      (b2n w.armed.isSome, 13), ((w.servo.master.map (·.2)).getD 0, 14)]
  else if inPair o Reg.WS_FRC_LO then half o Reg.WS_FRC_LO w.frc
  else if inPair o Reg.WS_TIME_LO then half o Reg.WS_TIME_LO s.now
  else if inPair o Reg.WS_OFFSET_LO then half o Reg.WS_OFFSET_LO w.offset
  else if inPair o Reg.WS_RATE_LO then half o Reg.WS_RATE_LO w.rate
  else if inPair o Reg.WS_INC_LO then half o Reg.WS_INC_LO w.inc
  else s.reg o

def State.viewTmo (s : State) (o : Off) : U32 :=
  let (k, b) := regUnit 0x29100 0x20 o
  let t := s.tmo k
  if b = Reg.TMO_STATUS 0 then
    packU32 [(b2n t.level, 0), (b2n t.armed, 1), (b2n t.fired, 2), (b2n t.late, 3), (b2n t.routeErr, 4)]
  else s.reg o

/-- The RTC block. -/
def State.viewRtc (s : State) (o : Off) : U32 :=
  let r := s.rtc
  let t := r.hostSet
  if o = Reg.RTC_STATUS then
    s.withBits o [(b2n r.setPending, 1), (b2n r.dstNext.isSome, 3), (b2n r.dst, 4), (b2n r.live.cal.isNone, 5),
      (b2n (!r.cellHigh), 6), (b2n s.charging, 7), (b2n r.host.isSome, 8)]
  else if o = Reg.RTC_FRAC then t.frac.zeroExtend 32
  else if o = Reg.RTC_SEC_LO then t.sec.truncate 32
  else if o = Reg.RTC_SEC_HI then packU32 [(t.sec.toNat / 2 ^ 32, 0), (b2n r.hostStale, 31)]
  else if o = Reg.RTC_BCD_TIME then t.bcdTime
  else if o = Reg.RTC_BCD_DATE then t.bcdDate
  else if o = Reg.RTC_BCD_EXT then t.bcdExt
  else if o = Reg.RTC_LOCAL_OFS then (r.ofsNext.getD r.ofs).zeroExtend 32
  else s.reg o

/-! ## Panel, update, Tarn and housekeeping (Tables 16-3, 17-14, 18-8, 18-10) -/

/-- The PNL block; PNL_STATUS stands at its reset value in RESET. -/
def State.viewPnl (s : State) (o : Off) : U32 :=
  if o = Reg.PNL_STATUS then
    s.withBits o [(b2n (!s.panel.absent && s.mgmt != Node.reset), 0), (b2n (s.driven), 1), (b2n s.panel.front, 2), (b2n s.panel.flip.isSome, 3)]
  else s.reg o

/-- The check value of the custody key (R490). -/
def State.keyCheck (s : State) : U32 :=
  match s.nvm.custody with
  | none => 0
  | some k => u32At (hmac k ("UAN-3264".toList.map (fun c => BitVec.ofNat 8 c.toNat))) 0

/-- The UPD block; FAIL_PART, 0xFF for none in Table 17-9, stands at its reset value 0 here (DEDUCED, log entry 38). -/
def State.viewUpd (s : State) (o : Off) : U32 :=
  let v := s.nvm
  let u := s.upd
  let other := 1 - u.runSlot
  if o = Reg.UPD_STATUS then
    packU32 [(u.state, 0), (u.runSlot, 4), (v.session.target, 5), (u.runSettings, 6), (b2n u.converting, 7), (b2n u.converted, 8),
      (b2n s.erasePending, 9), (s.updReason, 16), (if u.failPart = 0xFF then 0 else u.failPart, 24)]
  else if o = Reg.UPD_SESSION then v.session.id
  else if o = Reg.UPD_PIECES then n32 v.session.pieces
  else if o = Reg.UPD_STORED then n32 v.session.bitmap.length
  else if o = Reg.UPD_RUN_VER then v.imageVer u.runSlot
  else if o = Reg.UPD_ALT_VER then (if v.bootable other then v.imageVer other else 0)
  else if o = Reg.UPD_TARGET_VER then s.targetVer
  else if o = Reg.UPD_TRIAL_LEFT then n32 s.trialLeft
  else if o = Reg.UPD_SETTINGS_FMT then packU32 [(v.imageFormat u.runSlot, 0), ((v.region (1 - u.runSettings)).format, 16)]
  else if o = Reg.UPD_BOOTREC_SEQ then v.boot.seq
  else if o = Reg.UPD_OTP_KEYS then
    maskOf 32 (fun i => if i < 4 then v.keys.any (fun k => k.1 == i && !k.2.1.isEmpty) else v.keys.any (fun k => k.1 + 4 == i && k.2.2))
  else if o = Reg.UPD_KEY_STATUS then
    s.withBits o [(b2n v.custody.isSome, 0), (b2n v.bank0Spent, 1), (b2n v.bank1Spent, 2), (b2n v.programming.isSome, 4),
      ((u.keyWords.map (fun w => 2 ^ w.1)).sum, 8)]
  else if o = Reg.UPD_KEY_CHECK then s.keyCheck
  else if decide (Reg.UPD_KEY 0 ≤ o) && decide (o ≤ Reg.UPD_KEY 7) then 0
  else s.reg o

def State.viewTarn (s : State) (o : Off) : U32 :=
  if o = Reg.TARN_STATUS then
    packU32 [(b2n s.geckoRuns, 0), (b2n (!s.eccAwaits.isEmpty), 1), (b2n (s.hif.elasticReq != s.hif.elasticNow), 2),
      (b2n s.backlogOver, 3)]
  else if o = Reg.TARN_SCRUB_POS then packU32 [(s.gecko.scrubMin % 16384, 0), (min 65535 (s.gecko.scrubMin / 16384), 16)]
  else if o = Reg.TARN_SCRUB_AGE then n32 ((s.frcNat - s.gecko.passAt) / 200000)
  else if o = Reg.QUOTA_ELASTIC then
    packU32 [(s.hif.elasticNow, 0), (s.hif.elasticReq, 8), (if s.capturing then s.spawn.share else s.spawnShare, 16)]
  else if o = Reg.QUOTA_TREND then n32 s.hif.trendQuota
  else if o = Reg.QUOTA_CMD then n32 s.hif.cmdQuota
  else if o = Reg.QUOTA_STATUS then s.quotaStatus
  else s.reg o

/-- Erase counts of the settings regions and base areas (Table 18-3). -/
def isSettingsSector (k : Nat) : Bool := (decide (0x4000 ≤ k) && decide (k < 0x4800)) || decide (0x4806 ≤ k)

def State.viewHk (s : State) (o : Off) : U32 :=
  let t := s.active
  let base : U16 := (t.base.map (fun g => g.epoch)).getD 0
  if o = Reg.HK_STATUS then
    s.withBits o [(b2n s.geckoRuns, 0), (b2n s.gecko.saving.isSome, 1), (b2n (s.geckoRuns && s.rbit Reg.HK_TELEM_CTL 0), 3)]
  else if o = Reg.HK_SET_JOURNAL_FILL then n32 t.fill
  else if o = Reg.HK_SET_ENTRIES then n32 t.live.length
  else if o = Reg.HK_SET_BASE then packU32 [(base.toNat, 0), ((t.base.map (fun g => g.seq % 3)).getD 0, 16)]
  else if o = Reg.HK_SET_LAST_EPOCH then ((t.journal.getLast?.map (fun e => e.epoch)).getD base).zeroExtend 32
  else if o = Reg.HK_SECTOR_MAX_ERASE then n32 ((s.nvm.erases.filter (fun c => isSettingsSector c.1)).foldl (fun m c => max m c.2) 0)
  else if o = Reg.HK_SPARE_SECTORS then n32 s.nvm.spare
  else s.reg o

/-! ## A read -/

/-- What a read of BAR0 offset `o` returns: a reserved offset reads as zero (R510). -/
def State.readReg (s : State) (o : Off) : U32 :=
  if (regRow o).isNone then 0
  else if o < 0x1000 then (if o = Reg.MGMT_INT_STATUS then s.intStatus else s.reg o)
  else if o < 0x1800 then s.viewRing o
  else if o < 0x3000 then s.viewHif o
  else if o < 0x4000 then s.reg o
  else if o < 0x8000 then s.viewTarn o
  else if o < 0x9000 then s.viewFe o
  else if o < 0xC000 then s.viewLane o
  else if o < 0xC400 then s.reg o
  else if o < 0x10000 then s.viewXp o
  else if o < 0x10100 then s.viewSkink o
  else if o < 0x12000 then s.viewEngine o
  else if o < 0x13000 then s.viewInlet o
  else if o < 0x14000 then s.viewSpawn o
  else if o < 0x18000 then s.viewCroak o
  else if o < 0x18800 then s.viewDioCh o
  else if o < 0x20000 then
    (if o = Reg.DIO_STATUS then s.withBits o [(b2n (s.running && s.holderAlive), 2)] else s.reg o)
  else if o < 0x22000 then s.viewCan o
  else if o < 0x28000 then s.viewCanGlb o
  else if o < 0x29000 then s.viewEth o
  else if o < 0x29100 then s.viewWs o
  else if o < 0x30000 then s.viewTmo o
  else if o < 0x34000 then s.viewRtc o
  else if o < 0x38000 then s.viewPnl o
  else if o < 0x3C000 then s.viewUpd o
  else if o < 0x40000 then s.viewHk o
  else s.viewLegacy o

/-! ## A read of the Tarn window (R24, R98, R492) -/

/-- Group record g: its configuration and the two engines' halves (Table 8-1). -/
def State.groupRecord (s : State) (g : Nat) : List Byte :=
  s.tarnRead (Tarn.GROUPS + 256 * g) 0xB0 ++ s.aeA.grs.bytes GrState.bytes 40 g 1 ++ s.aeB.grs.bytes GrState.bytes 40 g 1

/-- The aligned 64 bytes at offset 64 × k; the regions that the window does not show read as zero. -/
def State.windowBlock (s : State) (k : Nat) : List Byte :=
  let o := 64 * k
  if Tarn.STATE_A ≤ o && o < Tarn.STATE_B then s.aeA.pts.bytes PtState.bytes 32 ((o - Tarn.STATE_A) / 32) 2
  else if Tarn.STATE_B ≤ o && o < Tarn.FANOUT then s.aeB.pts.bytes PtState.bytes 32 ((o - Tarn.STATE_B) / 32) 2
  else if Tarn.GROUPS ≤ o && o < Tarn.CHANDEF then slice (s.groupRecord ((o - Tarn.GROUPS) / 256)) (o % 256) 64
  else if Tarn.LILYPAD + 0x4000 ≤ o && o < Tarn.LINTAB || decide (Tarn.TREND + 0x20000 ≤ o) then zeros 64
  else s.tarnRead o 64

/-- A read of `n` bytes inside one aligned 64-byte block. -/
def State.windowRead (s : State) (o n : Nat) : List Byte := slice (s.windowBlock (o / 64)) (o % 64) n

/-! ## 64-bit pairs (R512, R513) -/

/-- The registers that form pairs, by offset of _LO, as rows of the map hold them. -/
def isPairLo (o : Off) : Bool :=
  let ring := decide (0x1000 ≤ o) && decide (o < 0x17C0) && o % 0x40 == 0
  let ae := inUnit 0x10100 0x80 0x10200 [Reg.AE_EVAL_ISN_LO 0, Reg.AE_NEXT_ESN_LO 0, Reg.AE_FAIL_ISN_LO 0]
  let eth := inUnit 0x28000 0x800 0x29000 [Reg.ETH_MAC_LO 0]
  let tmo := inUnit 0x29100 0x20 0x29200 [Reg.TMO_START_LO 0]
  ring || ae || eth || tmo || [Reg.HIF_DBPAGE_LO, Reg.HIF_STATPAGE_LO, Reg.HIF_HEARTBEAT_LO, Reg.INLET_ISN_LO, Reg.INLET_TICK_NO_LO,
    Reg.OUT_NEXT_ESN_LO, Reg.OUT_RELEASED_ESN_LO, Reg.OUT_MISMATCH_ESN_LO, Reg.CUST_LAST_MAC_LO, Reg.CUST_LAST_ESN_LO,
    Reg.SPAWN_MARK_ISN_LO, Reg.SPAWN_TRIG_ISN_LO, Reg.SPAWN_LAST_ISN_LO, Reg.SPAWN_BYTES_LO, Reg.SPAWN_RP_BAD_ISN_LO,
    Reg.SPAWN_RP_ISN_LO, Reg.SPAWN_RP_BYTES_LO, Reg.PTP_CLOCK_ID_LO, Reg.WS_FRC_LO, Reg.WS_TIME_LO, Reg.WS_OFFSET_LO,
    Reg.WS_RATE_LO, Reg.WS_INC_LO, Reg.WS_MASTER_ID_LO, Reg.WS_LAST_STEP_LO, Reg.RTC_ALM_LO, Reg.RTC_STG_SEC_LO, Reg.RTC_SWO_SEC_LO,
    Reg.SERIAL_LO, Reg.MGMT_FAULT_ISN_LO].contains o
where
  inUnit (base stride stop : Nat) (l : List Off) : Bool :=
    decide (base ≤ o) && decide (o < stop) && l.contains (regUnit base stride o).2

/-- What a read of a register other than a _LO returns: of _HI the pair's latch, or the present high word before the pair's first _LO read (R513). -/
def State.readHi (s : State) (o : Off) : U32 :=
  if isPairLo (o - 4) then assocGet (s.readReg o) s.latch (o - 4) else s.readReg o

/-- A read of a _LO register: the pair's latch takes the high word of the same instant. WS_TIME_LO also latches WS_FRC, which the next read of WS_FRC_LO shows (R435). -/
def State.readLo (s : State) (o : Off) : State :=
  if !isPairLo o then { s with hostRead := s.readHi o }
  else if o = Reg.WS_FRC_LO then
    let v := s.ws.frcSnap.getD s.ws.frc
    { s with hostRead := lo32 v, latch := assocSet s.latch o (hi32 v), ws := { s.ws with frcSnap := none } }
  else
    let s' := { s with hostRead := s.readReg o, latch := assocSet s.latch o (s.readReg (o + 4)) }
    if o = Reg.WS_TIME_LO then
      { s' with latch := assocSet s'.latch Reg.WS_FRC_LO (hi32 s.ws.frc), ws := { s.ws with frcSnap := some s.ws.frc } }
    else s'


end Sys2Proof.Machine
end

