-- ==== Sys2Proof/Machine/RegAccess.lean ====
section
/-! DEFINITION. Host writes of BAR0 registers and of the Tarn window, bad accesses and reads of 64-bit pairs (R13, R14, R24, R76, R98, R246, R510-R516). -/

namespace Sys2Proof.Machine

/-! ## Values that a write may leave (Table 19-2, RANGE) -/

/-- A two's-complement field lies in a range. -/
def signedIn (n x : Nat) (lo hi : Int) : Bool := decide (lo ≤ sext n x) && decide (sext n x ≤ hi)

/-- TMO_CFG, TMO_PERIOD and TMO_WIDTH form a valid combination (R436). -/
def tmoCombo (cfg period width : U32) : Bool :=
  decide (fld cfg 0 2 ≤ 2) && inRange 1000 4000000000 period.toNat && decide (10 ≤ width.toNat) &&
    (if fld cfg 0 2 = 1 then decide (width.toNat ≤ 4000000000) else decide (width.toNat + 10 ≤ period.toNat))

/-- A TMO register's value fits the other two. -/
def State.tmoValueOk (s : State) (k : Nat) (b : Off) (v : U32) : Bool :=
  let get := fun (r : Off) (o : Off) => if b = r then v else s.reg o
  (b != Reg.TMO_CFG 0 && b != Reg.TMO_PERIOD 0 && b != Reg.TMO_WIDTH 0) ||
    tmoCombo (get (Reg.TMO_CFG 0) (Reg.TMO_CFG k)) (get (Reg.TMO_PERIOD 0) (Reg.TMO_PERIOD k)) (get (Reg.TMO_WIDTH 0) (Reg.TMO_WIDTH k))

/-- CAN_CFG, CAN_NBT and CAN_DBT (Table 13-19, R377). -/
def canValueOk (b : Off) (v : U32) : Bool :=
  if b = Reg.CAN_CFG 0 then fld v 0 2 != 3 && fld v 16 8 != 0 && fld v 24 5 != 0
  else if b = Reg.CAN_NBT 0 then nbtOk v
  else if b = Reg.CAN_DBT 0 then dbtOk v
  else true

/-- DIO_CH_CFG of channel n: the modes that the channel has, the safe states, and owners; a TMO owner in OUT only (Tables 12-1 and 12-9, R360). -/
def dioCfgOk (n : Nat) (v : U32) : Bool :=
  let mode := fld v 0 3
  decide (mode ≤ 5) && (mode != Dmode.cnt || decide (n < 8) || inRange 32 39 n) && fld v 4 2 != 3 && decide (fld v 10 2 ≤ 2) &&
    (fld v 10 2 != 2 || mode == Dmode.out)

/-- The ranges that a row of the map does not state field by field. -/
def State.valueOk (s : State) (o : Off) (v : U32) : Bool :=
  if 0x18000 ≤ o && o < 0x18800 then
    let (n, b) := regUnit 0x18000 0x20 o
    b != Reg.DIO_CH_CFG 0 || dioCfgOk n v
  else if 0x20000 ≤ o && o < 0x22000 then canValueOk (regUnit 0x20000 0x400 o).2 v
  else if 0x28000 ≤ o && o < 0x29000 then
    (regUnit 0x28000 0x800 o).2 != Reg.PTP_ASYM 0 || signedIn 32 v.toNat (-10000000) 10000000
  else if 0x29100 ≤ o && o < 0x29200 then
    let (k, b) := regUnit 0x29100 0x20 o
    s.tmoValueOk k b v
  else if o = Reg.PUB_CAN_ID then bitAt v 29 || decide (fld v 0 29 + 3 ≤ 0x7FF)
  else if o = Reg.RTC_LOCAL_OFS then signedIn 8 (fld v 0 8) (-56) 56
  else if o = Reg.PNL_TC then signedIn 8 (fld v 0 8) (-50) 0
  else if o = Reg.PNL_ITC then signedIn 16 (fld v 0 16) (-200) 0
  else true

/-! ## Conditions that a register's description states (Table 19-2, CONDITION) -/

/-- Registers of ring n that only a ring at rest takes (R127). -/
def isRingSetup (b : Off) : Bool := [Reg.RING_BASE_LO 0, Reg.RING_BASE_HI 0, Reg.RING_SIZE 0, Reg.RING_START 0].contains b

/-- The condition of a write to a register without a row of its own. -/
def State.writeAllowed (s : State) (o : Off) (v : U32) : Bool :=
  if 0x1000 ≤ o && o < 0x1800 then
    let (n, b) := regUnit 0x1000 0x40 o
    !isRingSetup b || (!s.rbit (Reg.RING_CTL n) 0 && !s.rbit (Reg.RING_STATUS n) 0)
  else if [Reg.HIF_DBPAGE_LO, Reg.HIF_DBPAGE_HI, Reg.HIF_STATPAGE_LO, Reg.HIF_STATPAGE_HI].contains o then !s.pagesOn
  else if o = Reg.PUB_ETH_CTL then !bitAt v 0 || fld v 20 8 != 0
  else if Reg.UPD_KEY 0 ≤ o && o ≤ Reg.UPD_KEY 7 then s.mgmt == Node.setup
  else if 0x40000 ≤ o then s.fmodeOn
  else true

/-! ## What an applied write does beside the store -/

/-- TMO registers (R431): a write of TMO_CFG arms the output, and START or PERIOD set the next boundary of a periodic one. -/
def State.tmoWritten (s : State) (k : Nat) (b : Off) : State :=
  if b = Reg.TMO_CFG 0 then (s.tmoArm k).tmoPin k
  else if s.tmoMode k = 2 then
    s.updTmo k (fun t => { t with next := boundaryFrom (s.tmoStart k) (s.tmoPeriod k) s.now.toNat })
  else s

/-- The consequences of a stored write: TMO arming, PAIR_LOST (R322), the servo's hand-over (R421) and its asymmetry (R426), the panel's EN (R466), and the RTC's pending and staged values (R439, R454). -/
def State.written (s : State) (was : U32) (o : Off) (v : U32) : State :=
  if 0x29100 ≤ o && o < 0x29200 then
    let (k, b) := regUnit 0x29100 0x20 o
    s.tmoWritten k b
  else if 0x28000 ≤ o && o < 0x29000 then
    let (p, b) := regUnit 0x28000 0x800 o
    if b = Reg.PTP_ASYM 0 then s.asymChanged p else s
  else if o = Reg.PNL_CTL then s.panelCtl
  else if o = Reg.PAIR_CTL then (if bitAt v 0 && !bitAt was 0 && s.skink.pairSenseHigh then s.pairLost else s)
  else if o = Reg.WS_CTL then (if bitAt v 0 == bitAt was 0 then s else s.servoChange)
  else if o = Reg.RTC_LOCAL_OFS then s.updRtc (fun r => { r with ofsNext := some (BitVec.ofNat 8 v.toNat) })
  else if Reg.LEG_RTC_SEC ≤ o && o ≤ Reg.LEG_RTC_YEAR then
    s.updRtc (fun r => { r with legStage := r.legStage.set ((o - Reg.LEG_RTC_SEC) / 4) (BitVec.ofNat 8 v.toNat) })
  else s

/-! ## Writes by access type (Table 0-2) -/

/-- W1C: the written bits clear; WAKE_N is released with RTC_EVT.WAKE (R449). -/
def State.clearW1c (s : State) (o : Off) (v : U32) : State :=
  let s := s.setReg o (s.reg o &&& ~~~v)
  if o = Reg.RTC_EVT && bitAt v 2 && s.rtc.wakeN then
    (s.updRtc (fun r => { r with wakeN := false })).emitOut (.pin "WAKE_N" true)
  else s

/-- What a write leaves in a register: RING_MOD_COUNT takes 0 as 1 (R126). -/
def storedValue (o : Off) (w : U32) : U32 :=
  if 0x1000 ≤ o && o < 0x1800 && (regUnit 0x1000 0x40 o).2 = Reg.RING_MOD_COUNT 0 && w = 0 then 1 else w

/-- RW and RWS: the writable bits are stored, and an applied RWS write sets CFG_DIRTY (R515). -/
def State.storeReg (s : State) (r : RegRow) (o : Off) (v : U32) : State :=
  let w := storedValue o (v &&& r.mask)
  let was := s.reg o
  let t := (s.setReg o w).written was o w
  let t := if r.acc = .rws then t.setDirty else t
  if o = Reg.RTC_INT_EN then State.summarise s t else t

/-- The reason for which a write of an RW, RWS or WO register is ignored; 0 where it is applied. -/
def State.whyIgnored (s : State) (r : RegRow) (o : Off) (v : U32) : Nat :=
  if r.acc = .rws && s.mgmt != Node.setup then Why.rwsState
  else if !r.inRange v || !s.valueOk o v then Why.range
  else if !s.writeAllowed o v then Why.condition
  else 0

/-- The reason that an ignored write has before SETUP, by access type (R76). -/
def RegRow.earlyWhy (r : RegRow) : Nat :=
  if r.acc = .rws then Why.rwsState else if r.acc = .cmd then Why.cmdState else Why.condition

/-- A write by the register's access type. -/
def State.writeByAccess (s : State) (r : RegRow) (o : Off) (v : U32) : State :=
  match r.acc with
  | .ro => s.ignored o Why.readOnly
  | .cmd => s.ignored o Why.cmdState
  | .cnt => if !s.writeAllowed o v then s.ignored o Why.condition else if v = 0 then s.setReg o 0 else s.ignored o Why.range
  | .w1c => if s.writeAllowed o v then s.clearW1c o v else s.ignored o Why.condition
  | .wo =>
    if s.writeAllowed o v then
      s.updUpd (fun u => { u with keyWords := assocSet u.keyWords ((o - Reg.UPD_KEY 0) / 4) v })
    else s.ignored o Why.condition
  | .rw => let why := s.whyIgnored r o v; if why = 0 then s.storeReg r o v else s.ignored o why
  | .rws => let why := s.whyIgnored r o v; if why = 0 then s.storeReg r o v else s.ignored o why

/-! ## Pairs that hold one quantity (R512) -/

/-- The first offset of a holding pair. -/
def isHoldLo (o : Off) : Bool :=
  (decide (0x1000 ≤ o) && decide (o < 0x17C0) && o % 0x40 == 0) ||
    [Reg.HIF_DBPAGE_LO, Reg.HIF_STATPAGE_LO, Reg.RTC_ALM_LO, Reg.PTP_CLOCK_ID_LO, Reg.ETH_MAC_LO 0, Reg.ETH_MAC_LO 1].contains o ||
    (decide (0x29100 ≤ o) && decide (o < 0x29200) && (regUnit 0x29100 0x20 o).2 == Reg.TMO_START_LO 0)

/-- A write of _LO is held. -/
def State.holdLow (s : State) (o : Off) (v : U32) : State := { s with hold := assocSet s.hold o v }

/-- A write of _HI commits both halves, or is ignored and keeps the held word. -/
def State.commitPair (s : State) (r : RegRow) (hi : Off) (v : U32) : State :=
  let lo := hi - 4
  let why := s.whyIgnored r hi v
  if why != 0 then s.ignored hi why
  else
    let w := assocGet (s.reg lo) s.hold lo &&& regMask lo
    let s := { s.setReg lo w with hold := s.hold.filter (fun c => c.1 != lo) }
    s.storeReg r hi v

/-! ## Registers that have rows of their own -/

/-- MGMT_CMD (Table 3-5). -/
def State.mgmtCmd (s : State) (v : U32) : State :=
  match v.toNat with
  | 0x01 => s.startNow true true
  | 0x02 => s.stopNow
  | 0x03 => s.restart Reset.mgmt
  | 0x10 => s.commissionNow
  | 0x11 => s.verifyNow
  | 0x12 => s.acceptNow
  | 0x13 => s.bypassNow
  | _ => s.cmdIgnored

/-- MSI-X vector control: the mask bit (R125). -/
def State.msixCtl (s : State) (vec : Nat) (v : U32) : State :=
  if bitAt v 0 then s.setRegBit (Reg.MSIX vec 3) 0 true else s.unmask vec

/-- CMD registers whose codes are 1 and 2. -/
def State.byCode (s : State) (o : Off) (v : U32) (one two : State → State) : State :=
  if v = 1 then one s else if v = 2 then two s else s.ignored o Why.range

/-- A write to a register that a row of the table names, from SETUP onward. -/
def ownWrite (o : Off) (v : U32) : Option (State → State) :=
  if o = Reg.HIF_CTL then some (fun s => s.hifCtl v)
  else if 0x1000 ≤ o && o < 0x17C0 && o % 0x40 == 0x10 then some (fun s => s.ringCtl ((o - 0x1000) / 0x40) v)
  else if o = Reg.HIF_KICK then some State.kickNow
  else if 0x3000 ≤ o && o < 0x3200 && o % 0x10 == 0xC then some (fun s => s.msixCtl ((o - 0x3000) / 0x10) v)
  else if o = Reg.LEG_EVT_CTL then some (fun s => if bitAt v 0 then s.legFlush else s)
  else if o = Reg.XP_CHECK then some (fun s => s.checkWrite v)
  else if o = Reg.LEG_PT_CMD then some (fun s => s.byCode o v State.legPtWrite State.legPtRead)
  else if o = Reg.AE_INJECT 0 then some (fun s => s.inject .A v)
  else if o = Reg.AE_INJECT 1 then some (fun s => s.inject .B v)
  else if o = Reg.RTC_CMD then some (fun s => s.byCode o v State.setNow State.clearSwo)
  else if o = Reg.RTC_SHIFT then some (fun s => s.shiftWrite v)
  else if o = Reg.RTC_DST then some (fun s => s.byCode o (v &&& 3) (fun s => s.dstWrite true) (fun s => s.dstWrite false))
  else if o = Reg.RTC_ALM_CTL then some (fun s => s.almCtl v)
  else if o = Reg.RTC_WAKE_CTL then some (fun s => s.wakeCtl v)
  else if o = Reg.RTC_TRICKLE then some (fun s => s.trickleWrite v)
  else if o = Reg.LEG_RTC_CTL then some (fun s => if v = 1 then s.legSet else s.ignored o Why.range)
  else if o = Reg.UPD_KEY_CMD then some (fun s => if v = 1 then s.keyProgram else s.ignored o Why.cmdState)
  else if o = Reg.MGMT_FMODE then some (fun s => s.fmodeWrite v)
  else if o = Reg.MGMT_INT_EN then some (fun s => s.intEnWrite v)
  else if o = Reg.MGMT_INT_REARM then some State.intRearm
  else if o = Reg.MGMT_CMD then some (fun s => s.mgmtCmd v)
  else none

/-! ## One write -/

/-- Ring 31 has no registers that act (R103), and the TEST span decodes nothing (R510). -/
def decoded (o : Off) : Option RegRow :=
  if 0x17C0 ≤ o && o < 0x1800 then none else (regRow o).map (·.1)

/-- A write of one word to BAR0 (R515, Table 19-2). In a FAULT_HALT that self-test has led to, where SETUP was never reached, writes act as in any FAULT_HALT: R76 ignores those made before SETUP and says nothing of this one (DESIGN CHOICE, log entry 66). -/
def State.writeReg (s : State) (o : Off) (v : U32) : State :=
  match decoded o with
  | none => s.ignored o Why.undecoded
  | some r =>
    if r.acc = .ro then s.ignored o Why.readOnly
    else if o = Reg.MGMT_CMD && v == 3 then s.restart Reset.mgmt
    else if s.mgmt < Node.setup then s.ignored o r.earlyWhy
    else match ownWrite o v with
      | some f => f s
      | none =>
        if isHoldLo o then s.holdLow o v
        else if isHoldLo (o - 4) then s.commitPair r o v
        else s.writeByAccess r o v

/-- A read of one word of BAR0, with its side effects (R134, R420, R442, R454, R513). -/
def State.readWord (s : State) (o : Off) : State :=
  if o = Reg.LEG_EVT_W0 then s.legW0Read
  else if o = Reg.LEG_EVT_W3 then s.legW3Read
  else if o = Reg.RTC_FRAC then s.fracRead
  else if o = Reg.RTC_SEC_HI then s.secHiRead
  else if o = Reg.LEG_RTC_SEC then s.legSecRead
  else if o = Reg.LEG_RTC_YEAR then s.legYearRead
  else if o = Reg.PTP_TXTS_W0 0 then s.txtsW0Read 0
  else if o = Reg.PTP_TXTS_W0 1 then s.txtsW0Read 1
  else if o = Reg.PTP_TXTS_TIME_HI 0 then s.txtsHiRead 0
  else if o = Reg.PTP_TXTS_TIME_HI 1 then s.txtsHiRead 1
  else s.readLo o

/-- The bytes of a word that byte enables select. -/
def enabledBytes (be : BitVec 4) (v : U32) : U32 :=
  v &&& maskOf 32 (fun i => bitAt be (i / 8))

/-- A discarded or aborted request (R511, R98) is counted, and a read of that kind ends with Completer Abort; a read with partial byte enables reads the whole word and returns the enabled bytes. -/
def State.badRequest (s : State) (k : BadAccess) : State :=
  let bad := (s.bump Reg.MGMT_BAD_ACCESS_CNT).raise Reg.MGMT_EVT 8
  match k with
  | .wideRead | .tarnRead => bad.emitOut .abort
  | .wideWrite | .partialWrite => bad
  | .partialRead o be =>
    let t := s.readWord (o / 4 * 4)
    { t with hostRead := enabledBytes be t.hostRead }

/-! ## The Tarn window (R24, R246, R492) -/

/-- A byte of Tarn that the window writes in SETUP. -/
def windowWrites (o : Off) : Bool :=
  let within := fun (lo hi : Off) => decide (lo ≤ o) && decide (o < hi)
  within Tarn.POINT_CFG Tarn.STATE_A || within Tarn.FANOUT Tarn.GROUPS
    || (within Tarn.GROUPS Tarn.CHANDEF && decide (o % 256 < 0xB0))
    || within Tarn.CHANDEF (Tarn.LILYPAD + 0x4000) || within Tarn.LINTAB Tarn.TREND

/-- The bytes that the window writes, with their offsets. -/
def windowBytes (o : Off) : List Byte → List (Off × Byte)
  | [] => []
  | b :: l => if windowWrites o then (o, b) :: windowBytes (o + 1) l else windowBytes (o + 1) l

/-- A write to the Tarn window. -/
def State.windowWrite (s : State) (o : Off) (data : List Byte) : State :=
  if s.mgmt != Node.setup then s.ignored o Why.window true
  else
    let ok := windowBytes o data
    let s := if ok.length = data.length then s else s.ignored o Why.window true
    if ok.isEmpty then s
    else (ok.foldl (fun (s : State) c => s.tarnStore c.1 [c.2]) s).setDirty

/-! ## The steps -/

/-- A misaligned write is one of the requests that R511 discards; BAR0 ends at 1 MiB. -/
def execRegisterWrite (off : Off) (v : U32) (s : State) : Host.Outcome State Fault Refusal :=
  let s := s.fresh
  need (decide (off < 0x100000)) (if off % 4 = 0 then s.writeReg off v else s.badRequest .wideWrite)

def execBadAccess (kind : BadAccess) (s : State) : Host.Outcome State Fault Refusal := .next (s.fresh.badRequest kind)

def execWidePairLoRead (off : Off) (dt : Nat) (s : State) : Host.Outcome State Fault Refusal :=
  let s := s.fresh.pass dt
  need (decide (off < 0x100000)) (if off % 4 = 0 then s.readWord off else s.badRequest .wideRead)

def execTarnWindowWrite (off : Off) (data : List Byte) (s : State) : Host.Outcome State Fault Refusal :=
  need (decide (off + data.length ≤ Tarn.SIZE)) (s.fresh.windowWrite off data)

end Sys2Proof.Machine
end

