-- ==== Sys2Proof/Machine/Dispatch.lean ====
section
/-! DEFINITION. Which meaning each step has: one arm per constructor of `Instr`, in the table's order. -/

namespace Sys2Proof.Machine

/-- The effect of one step on everything but the queue (R36, R41). -/
def exec (i : Instr) (s : State) : Host.Outcome State Fault Refusal :=
  match i with
  | .powerGoodRise env => Sys2Proof.Machine.execPowerGoodRise env s
  | .powerGoodFall f => Sys2Proof.Machine.execPowerGoodFall f s
  | .logicInputChange lvA lvB => Sys2Proof.Machine.execLogicInputChange lvA lvB s
  | .ctrlWatchdog => Sys2Proof.Machine.execCtrlWatchdog s
  | .lockstepMismatch => Sys2Proof.Machine.execLockstepMismatch s
  | .tcmUncorrectable => Sys2Proof.Machine.execTcmUncorrectable s
  | .perstNAssert => Sys2Proof.Machine.execPerstNAssert s
  | .linkDown => Sys2Proof.Machine.execLinkDown s
  | .d3hotEntry => Sys2Proof.Machine.execD3hotEntry s
  | .flr => Sys2Proof.Machine.execFlr s
  | .startRun vecA vecB dt => Sys2Proof.Machine.execStartRun vecA vecB dt s
  | .stopRun => Sys2Proof.Machine.execStopRun s
  | .resetNode => Sys2Proof.Machine.execResetNode s
  | .commission ticks => Sys2Proof.Machine.execCommission ticks s
  | .verifyCfg => Sys2Proof.Machine.execVerifyCfg s
  | .acceptSlot => Sys2Proof.Machine.execAcceptSlot s
  | .ssBypass => Sys2Proof.Machine.execSsBypass s
  | .mgmtFmodeWrite v => Sys2Proof.Machine.execMgmtFmodeWrite v s
  | .mgmtIntRearm v => Sys2Proof.Machine.execMgmtIntRearm v s
  | .mgmtIntEnWrite v => Sys2Proof.Machine.execMgmtIntEnWrite v s
  | .registerWrite off v => Sys2Proof.Machine.execRegisterWrite off v s
  | .badAccess kind => Sys2Proof.Machine.execBadAccess kind s
  | .widePairLoRead off dt => Sys2Proof.Machine.execWidePairLoRead off dt s
  | .tarnWindowWrite off data => Sys2Proof.Machine.execTarnWindowWrite off data s
  | .hifKick v => Sys2Proof.Machine.execHifKick v s
  | .doorbellPoll => Sys2Proof.Machine.execDoorbellPoll s
  | .doorbellCompletion rsp => Sys2Proof.Machine.execDoorbellCompletion rsp s
  | .descriptorArrival ring data => Sys2Proof.Machine.execDescriptorArrival ring data s
  | .pagesEnSet => Sys2Proof.Machine.execPagesEnSet s
  | .pagesEnClear => Sys2Proof.Machine.execPagesEnClear s
  | .ringEnable ring ctl => Sys2Proof.Machine.execRingEnable ring ctl s
  | .ringDisable ring ctl => Sys2Proof.Machine.execRingDisable ring ctl s
  | .statusPageUpdate => Sys2Proof.Machine.execStatusPageUpdate s
  | .ringModerationTimeout ring => Sys2Proof.Machine.execRingModerationTimeout ring s
  | .msixVectorUnmask vec => Sys2Proof.Machine.execMsixVectorUnmask vec s
  | .nop => Sys2Proof.Machine.execNop s
  | .unknownOpcode => Sys2Proof.Machine.execUnknownOpcode s
  | .completionWrite => Sys2Proof.Machine.execCompletionWrite s
  | .pointWrite img => Sys2Proof.Machine.execPointWrite img s
  | .pointRead ph => Sys2Proof.Machine.execPointRead ph s
  | .chandefWrite img => Sys2Proof.Machine.execChandefWrite img s
  | .groupWrite img => Sys2Proof.Machine.execGroupWrite img s
  | .fanoutWrite img => Sys2Proof.Machine.execFanoutWrite img s
  | .lintabWrite img => Sys2Proof.Machine.execLintabWrite img s
  | .canfiltWrite img => Sys2Proof.Machine.execCanfiltWrite img s
  | .cansigWrite img => Sys2Proof.Machine.execCansigWrite img s
  | .ackPoint ph => Sys2Proof.Machine.execAckPoint ph s
  | .shelve ph => Sys2Proof.Machine.execShelve ph s
  | .unshelve ph => Sys2Proof.Machine.execUnshelve ph s
  | .forcePoint ph => Sys2Proof.Machine.execForcePoint ph s
  | .ackGroup ph => Sys2Proof.Machine.execAckGroup ph s
  | .callManual ph => Sys2Proof.Machine.execCallManual ph s
  | .callSilence ph => Sys2Proof.Machine.execCallSilence ph s
  | .deadmanReset ph => Sys2Proof.Machine.execDeadmanReset ph s
  | .canCancel => Sys2Proof.Machine.execCanCancel s
  | .canChannelCtl => Sys2Proof.Machine.execCanChannelCtl s
  | .spawnCtl img => Sys2Proof.Machine.execSpawnCtl img s
  | .spawnTrigger => Sys2Proof.Machine.execSpawnTrigger s
  | .replayStart => Sys2Proof.Machine.execReplayStart s
  | .replayStop => Sys2Proof.Machine.execReplayStop s
  | .updBegin => Sys2Proof.Machine.execUpdBegin s
  | .updStatus writeOk => Sys2Proof.Machine.execUpdStatus writeOk s
  | .updVerify => Sys2Proof.Machine.execUpdVerify s
  | .updActivate => Sys2Proof.Machine.execUpdActivate s
  | .updConfirm => Sys2Proof.Machine.execUpdConfirm s
  | .updAbandon => Sys2Proof.Machine.execUpdAbandon s
  | .quotaSet => Sys2Proof.Machine.execQuotaSet s
  | .elasticSplitApply => Sys2Proof.Machine.execElasticSplitApply s
  | .engineCtl => Sys2Proof.Machine.execEngineCtl s
  | .trendCtl => Sys2Proof.Machine.execTrendCtl s
  | .dioWrite => Sys2Proof.Machine.execDioWrite s
  | .panelFlip img => Sys2Proof.Machine.execPanelFlip img s
  | .timeAdj dt => Sys2Proof.Machine.execTimeAdj dt s
  | .recordAdmission => Sys2Proof.Machine.execRecordAdmission s
  | .evalSample e => Sys2Proof.Machine.execEvalSample e s
  | .evalDiChange e => Sys2Proof.Machine.execEvalDiChange e s
  | .evalCount e => Sys2Proof.Machine.execEvalCount e s
  | .evalCanFrame e => Sys2Proof.Machine.execEvalCanFrame e s
  | .evalTick e => Sys2Proof.Machine.execEvalTick e s
  | .delayExpiry e p => Sys2Proof.Machine.execDelayExpiry e p s
  | .rateEvaluation e p => Sys2Proof.Machine.execRateEvaluation e p s
  | .blockDelayExpiry e p => Sys2Proof.Machine.execBlockDelayExpiry e p s
  | .shelveExpiry e p => Sys2Proof.Machine.execShelveExpiry e p s
  | .groupBlockExpiry e g => Sys2Proof.Machine.execGroupBlockExpiry e g s
  | .floodWindowClose e g => Sys2Proof.Machine.execFloodWindowClose e g s
  | .callTimeout e g => Sys2Proof.Machine.execCallTimeout e g s
  | .callFrameRepeat e g => Sys2Proof.Machine.execCallFrameRepeat e g s
  | .deadmanWarn e g => Sys2Proof.Machine.execDeadmanWarn e g s
  | .deadmanExpiry e g => Sys2Proof.Machine.execDeadmanExpiry e g s
  | .sealPeriodExpiry e => Sys2Proof.Machine.execSealPeriodExpiry e s
  | .healthPeriodExpiry e => Sys2Proof.Machine.execHealthPeriodExpiry e s
  | .configBarrier => Sys2Proof.Machine.execConfigBarrier s
  | .evalSourceGap e => Sys2Proof.Machine.execEvalSourceGap e s
  | .evalSnapshotMark e => Sys2Proof.Machine.execEvalSnapshotMark e s
  | .evalSealRequest e => Sys2Proof.Machine.execEvalSealRequest e s
  | .evalEccFault => Sys2Proof.Machine.execEvalEccFault s
  | .evalResyncStatus e => Sys2Proof.Machine.execEvalResyncStatus e s
  | .evalResyncCopy e => Sys2Proof.Machine.execEvalResyncCopy e s
  | .evalAudit e => Sys2Proof.Machine.execEvalAudit e s
  | .evalDiverge e => Sys2Proof.Machine.execEvalDiverge e s
  | .evalRepair e => Sys2Proof.Machine.execEvalRepair e s
  | .eventCopyArrival e => Sys2Proof.Machine.execEventCopyArrival e s
  | .mergeWaitExpiry => Sys2Proof.Machine.execMergeWaitExpiry s
  | .eventDelivery ring => Sys2Proof.Machine.execEventDelivery ring s
  | .publicationDatagram => Sys2Proof.Machine.execPublicationDatagram s
  | .canPublication => Sys2Proof.Machine.execCanPublication s
  | .trendSample entry dt => Sys2Proof.Machine.execTrendSample entry dt s
  | .legEvtW0Read => Sys2Proof.Machine.execLegEvtW0Read s
  | .legEvtW3Read => Sys2Proof.Machine.execLegEvtW3Read s
  | .legFlush => Sys2Proof.Machine.execLegFlush s
  | .engineFailure e cause => Sys2Proof.Machine.execEngineFailure e cause s
  | .tickStall e => Sys2Proof.Machine.execTickStall e s
  | .holdGrant => Sys2Proof.Machine.execHoldGrant s
  | .engineReturnTest e pass => Sys2Proof.Machine.execEngineReturnTest e pass s
  | .stateCopyComplete verified => Sys2Proof.Machine.execStateCopyComplete verified s
  | .returnHoldoffExpiry e => Sys2Proof.Machine.execReturnHoldoffExpiry e s
  | .takeBack => Sys2Proof.Machine.execTakeBack s
  | .auditOffer => Sys2Proof.Machine.execAuditOffer s
  | .auditCompare => Sys2Proof.Machine.execAuditCompare s
  | .divergeResolution => Sys2Proof.Machine.execDivergeResolution s
  | .aeInject e v => Sys2Proof.Machine.execAeInject e v s
  | .intlkInChange high => Sys2Proof.Machine.execIntlkInChange high s
  | .pairClaim => Sys2Proof.Machine.execPairClaim s
  | .pairRelease => Sys2Proof.Machine.execPairRelease s
  | .pairSenseChange high => Sys2Proof.Machine.execPairSenseChange high s
  | .tickGeneration => Sys2Proof.Machine.execTickGeneration s
  | .snapshotMarkOffer => Sys2Proof.Machine.execSnapshotMarkOffer s
  | .snapshotCopyComplete => Sys2Proof.Machine.execSnapshotCopyComplete s
  | .snapTimeout => Sys2Proof.Machine.execSnapTimeout s
  | .spawnOutBufferWrite addr => Sys2Proof.Machine.execSpawnOutBufferWrite s addr
  | .checkpoint => Sys2Proof.Machine.execCheckpoint s
  | .windowFreeze => Sys2Proof.Machine.execWindowFreeze s
  | .replayBuffer data => Sys2Proof.Machine.execReplayBuffer data s
  | .replayCheckpointCompare => Sys2Proof.Machine.execReplayCheckpointCompare s
  | .replayDone => Sys2Proof.Machine.execReplayDone s
  | .laneSlotStart lane => Sys2Proof.Machine.execLaneSlotStart lane s
  | .laneSlotEnd lane m dt => Sys2Proof.Machine.execLaneSlotEnd lane m dt s
  | .calSlotDue lane => Sys2Proof.Machine.execCalSlotDue lane s
  | .calSlotEnd lane meas => Sys2Proof.Machine.execCalSlotEnd lane meas s
  | .laneDrained lane => Sys2Proof.Machine.execLaneDrained lane s
  | .clampEventStart t => Sys2Proof.Machine.execClampEventStart t s
  | .clampEventEnd t => Sys2Proof.Machine.execClampEventEnd t s
  | .burdenShuntOpen t => Sys2Proof.Machine.execBurdenShuntOpen t s
  | .burdenShuntReclose t => Sys2Proof.Machine.execBurdenShuntReclose t s
  | .biasCurrentLimit n limiting => Sys2Proof.Machine.execBiasCurrentLimit n limiting s
  | .xpCheck v => Sys2Proof.Machine.execXpCheck v s
  | .dioWindowEnd bank pins settled dt => Sys2Proof.Machine.execDioWindowEnd bank pins settled dt s
  | .counterEdge k => Sys2Proof.Machine.execCounterEdge k s
  | .countPeriodExpiry k cycles dt => Sys2Proof.Machine.execCountPeriodExpiry k cycles dt s
  | .newtRefresh newt late => Sys2Proof.Machine.execNewtRefresh newt late s
  | .watchdogExpiry bank => Sys2Proof.Machine.execWatchdogExpiry bank s
  | .newtStall newt => Sys2Proof.Machine.execNewtStall newt s
  | .newtRestart newt => Sys2Proof.Machine.execNewtRestart newt s
  | .faultSet bank cause => Sys2Proof.Machine.execFaultSet bank cause s
  | .faultClear bank => Sys2Proof.Machine.execFaultClear bank s
  | .fieldReset bank => Sys2Proof.Machine.execFieldReset bank s
  | .fieldSideRestart bank => Sys2Proof.Machine.execFieldSideRestart bank s
  | .thermalShutdownRetry ch shorted => Sys2Proof.Machine.execThermalShutdownRetry ch shorted s
  | .canFrameReceived ch f dt => Sys2Proof.Machine.execCanFrameReceived ch f dt s
  | .protocolException ch => Sys2Proof.Machine.execProtocolException ch s
  | .canBusError ch err => Sys2Proof.Machine.execCanBusError ch err s
  | .filterWalk => Sys2Proof.Machine.execFilterWalk s
  | .canTxEntryTaken ch => Sys2Proof.Machine.execCanTxEntryTaken ch s
  | .txAttemptStart ch dt => Sys2Proof.Machine.execTxAttemptStart ch dt s
  | .txAttemptEnd ch r dt => Sys2Proof.Machine.execTxAttemptEnd ch r dt s
  | .integrationComplete ch => Sys2Proof.Machine.execIntegrationComplete ch s
  | .busOffRecoveryComplete ch => Sys2Proof.Machine.execBusOffRecoveryComplete ch s
  | .timeSwitch => Sys2Proof.Machine.execTimeSwitch s
  | .ptpSyncReceived port m dt => Sys2Proof.Machine.execPtpSyncReceived port m dt s
  | .ptpDelayRespReceived port m => Sys2Proof.Machine.execPtpDelayRespReceived port m s
  | .ptpAnnounceReceived port m => Sys2Proof.Machine.execPtpAnnounceReceived port m s
  | .delayReqSend dt => Sys2Proof.Machine.execDelayReqSend dt s
  | .masterLoss => Sys2Proof.Machine.execMasterLoss s
  | .acquireTimeout => Sys2Proof.Machine.execAcquireTimeout s
  | .hostTimeout => Sys2Proof.Machine.execHostTimeout s
  | .ethFrameReceived port fr dt => Sys2Proof.Machine.execEthFrameReceived port fr dt s
  | .ethTxFrame port f => Sys2Proof.Machine.execEthTxFrame port f s
  | .ethTxTimestamp port dt => Sys2Proof.Machine.execEthTxTimestamp port dt s
  | .ethLinkChange port up gig => Sys2Proof.Machine.execEthLinkChange port up gig s
  | .ptpTxtsW0Read port => Sys2Proof.Machine.execPtpTxtsW0Read port s
  | .ptpTxtsTimeHiRead port => Sys2Proof.Machine.execPtpTxtsTimeHiRead port s
  | .tmoPulseStart k dt => Sys2Proof.Machine.execTmoPulseStart k dt s
  | .tmoPulseEnd k dt => Sys2Proof.Machine.execTmoPulseEnd k dt s
  | .rtcSet ticks => Sys2Proof.Machine.execRtcSet ticks s
  | .rtcCommit => Sys2Proof.Machine.execRtcCommit s
  | .swoClear => Sys2Proof.Machine.execSwoClear s
  | .rtcShift v ticks => Sys2Proof.Machine.execRtcShift v ticks s
  | .shiftDone ticks => Sys2Proof.Machine.execShiftDone ticks s
  | .dstForward => Sys2Proof.Machine.execDstForward s
  | .dstBack => Sys2Proof.Machine.execDstBack s
  | .localTimeApply ticks => Sys2Proof.Machine.execLocalTimeApply ticks s
  | .alarmArm v ticks => Sys2Proof.Machine.execAlarmArm v ticks s
  | .alarmDisarm v => Sys2Proof.Machine.execAlarmDisarm v s
  | .rtcAlarmFire ticks => Sys2Proof.Machine.execRtcAlarmFire ticks s
  | .wakeEnable v => Sys2Proof.Machine.execWakeEnable v s
  | .rtcWake ticks => Sys2Proof.Machine.execRtcWake ticks s
  | .rtcFracRead ticks => Sys2Proof.Machine.execRtcFracRead ticks s
  | .rtcSecHiRead ticks => Sys2Proof.Machine.execRtcSecHiRead ticks s
  | .shadowFreezeTimeout who => Sys2Proof.Machine.execShadowFreezeTimeout who s
  | .legRtcSecRead ticks => Sys2Proof.Machine.execLegRtcSecRead ticks s
  | .legRtcYearRead ticks => Sys2Proof.Machine.execLegRtcYearRead ticks s
  | .legRtcSet => Sys2Proof.Machine.execLegRtcSet s
  | .rtcTrickleWrite w => Sys2Proof.Machine.execRtcTrickleWrite w s
  | .cellTypeHigh => Sys2Proof.Machine.execCellTypeHigh s
  | .oscStop => Sys2Proof.Machine.execOscStop s
  | .legPtWrite => Sys2Proof.Machine.execLegPtWrite s
  | .legPtRead => Sys2Proof.Machine.execLegPtRead s
  | .panelFrameBoundary => Sys2Proof.Machine.execPanelFrameBoundary s
  | .panelTempUpdate p => Sys2Proof.Machine.execPanelTempUpdate p s
  | .vppFault => Sys2Proof.Machine.execVppFault s
  | .vppRetry => Sys2Proof.Machine.execVppRetry s
  | .alarmListRedraw ticks => Sys2Proof.Machine.execAlarmListRedraw ticks s
  | .burnInShift => Sys2Proof.Machine.execBurnInShift s
  | .pnlSenseChange high => Sys2Proof.Machine.execPnlSenseChange high s
  | .updPieceReceived data => Sys2Proof.Machine.execUpdPieceReceived data s
  | .pieceStored p readbackOk => Sys2Proof.Machine.execPieceStored p readbackOk s
  | .activationComplete pauseUs => Sys2Proof.Machine.execActivationComplete pauseUs s
  | .activationTimeout => Sys2Proof.Machine.execActivationTimeout s
  | .trialWarn => Sys2Proof.Machine.execTrialWarn s
  | .trialTimeout => Sys2Proof.Machine.execTrialTimeout s
  | .settingsConversionDone => Sys2Proof.Machine.execSettingsConversionDone s
  | .settingsConversionFail => Sys2Proof.Machine.execSettingsConversionFail s
  | .keyProgram => Sys2Proof.Machine.execKeyProgram s
  | .keyProgrammed => Sys2Proof.Machine.execKeyProgrammed s
  | .scrubSlot bank => Sys2Proof.Machine.execScrubSlot bank s
  | .tarnCorrectedError off => Sys2Proof.Machine.execTarnCorrectedError off s
  | .tarnUncorrectable off => Sys2Proof.Machine.execTarnUncorrectable off s
  | .tcmScrub corrected => Sys2Proof.Machine.execTcmScrub corrected s
  | .settingsJournalWrite sectorFail => Sys2Proof.Machine.execSettingsJournalWrite sectorFail s
  | .baseGenerationStart => Sys2Proof.Machine.execBaseGenerationStart s
  | .baseGenerationDurable => Sys2Proof.Machine.execBaseGenerationDurable s
  | .digestRewrite => Sys2Proof.Machine.execDigestRewrite s
  | .telemetry t dt => Sys2Proof.Machine.execTelemetry t dt s
  | .linkUp speed width => Sys2Proof.Machine.execLinkUp speed width s
  | .commandRateAllowance => Sys2Proof.Machine.execCommandRateAllowance s

end Sys2Proof.Machine
end

