-- ==== Sys2Proof/Safety.lean ====
section
/-! DEFINITION. What a sound state of the node is, in the terms the statements use: the canonical form of Tarn and of the register file, the bounds that the spec sets on queues (R26, R132, R271, R476), and the legal behaviour revisions (R84). -/

namespace Sys2Proof.Machine

/-- Keys strictly rising from `lo`. -/
def Sparse.rising {α : Type} : Nat → Sparse α → Bool
  | _, [] => true
  | lo, (k, _) :: l => decide (lo ≤ k) && Sparse.rising (k + 1) l

/-- The invariant, over the parts of the state that it speaks of. -/
structure InvOf (tarn : Sparse Byte) (regs : Sparse U32) (waiting : List (Nat × InRec)) (rot : Nat)
    (legFifo : List (List U32)) (bufs : List (Nat × List Byte)) (behav : Nat)
    (gens0 gens1 : List Generation) (saving : Option Generation) : Prop where
  /-- Tarn lists its bytes once each, in rising offsets, and none that is 0. -/
  tarn : Sparse.wf 0 tarn = true
  /-- The register file lists each offset at most once, rising. -/
  regs : Sparse.rising 0 regs = true
  /-- No place holds more records toward Inlet than Table 1-5 grants it (R26, R28). -/
  credits : ∀ pl c, placeCredit pl = some c → (waiting.filter (fun w => w.1 == pl)).length ≤ c
  /-- The rotation stands on one of its 58 places (R271). -/
  rot : rot < 58
  /-- The legacy event FIFO holds at most 256 entries (R132). -/
  legFifo : legFifo.length ≤ 256
  /-- The update engine holds at most 16 pieces on chip (R476). -/
  bufs : bufs.length ≤ 16
  /-- The effective behaviour revision is 1 or 2 (R84). -/
  behav : behav = 1 ∨ behav = 2
  /-- Every settings generation holds Tarn's regions in canonical form. -/
  gens : ∀ g, g ∈ gens0 ∨ g ∈ gens1 ∨ saving = some g → Sparse.wf 0 g.tarn = true

/-- What every step of the node keeps. -/
def State.Inv (s : State) : Prop :=
  InvOf s.tarn s.regs s.inlet.waiting s.inlet.rot s.outlet.legFifo s.upd.bufs s.behavBoot
    s.nvm.set0.gens s.nvm.set1.gens s.gecko.saving

/-! ## What a step leaves alone -/

/-- The parts of the state, one for each field but what the last step put outside. -/
inductive Zone where
  | regs | latch | hold | tarn | inlet | aeA | aeB | outlet | hif | skink | spawn | fe | dio | can | canWalk | ws | rtc | panel
  | nvm | upd | gecko | behavBoot | hostRead | free | pending
  deriving DecidableEq, Repr

/-- The part is the same in both states. -/
def Zone.same : Zone → State → State → Prop
  | .regs, s, t => t.regs = s.regs
  | .latch, s, t => t.latch = s.latch
  | .hold, s, t => t.hold = s.hold
  | .tarn, s, t => t.tarn = s.tarn
  | .inlet, s, t => t.inlet = s.inlet
  | .aeA, s, t => t.aeA = s.aeA
  | .aeB, s, t => t.aeB = s.aeB
  | .outlet, s, t => t.outlet = s.outlet
  | .hif, s, t => t.hif = s.hif
  | .skink, s, t => t.skink = s.skink
  | .spawn, s, t => t.spawn = s.spawn
  | .fe, s, t => t.fe = s.fe
  | .dio, s, t => t.dio = s.dio
  | .can, s, t => t.can = s.can
  | .canWalk, s, t => t.canWalk = s.canWalk
  | .ws, s, t => t.ws = s.ws
  | .rtc, s, t => t.rtc = s.rtc
  | .panel, s, t => t.panel = s.panel
  | .nvm, s, t => t.nvm = s.nvm
  | .upd, s, t => t.upd = s.upd
  | .gecko, s, t => t.gecko = s.gecko
  | .behavBoot, s, t => t.behavBoot = s.behavBoot
  | .hostRead, s, t => t.hostRead = s.hostRead
  | .free, s, t => t.free = s.free
  | .pending, s, t => t.pending = s.pending

/-- Every part of the state but those named is as it was. -/
def PartsBut (s t : State) (zs : List Zone) : Prop := ∀ z, z ∉ zs → z.same s t

/-- Every register but those named keeps its value. -/
def RegsBut (s t : State) (os : List Off) : Prop := ∀ o, o ∉ os → t.reg o = s.reg o

/-! ## What a command does -/

/-- The command answers a next state, and `p` holds of it. -/
def Ends (c : Instr) (s : State) (p : State → Prop) : Prop := ∃ t, exec c s = .next t ∧ p t

/-- A command of the opcode stands at the head of the CMD ring, the node state accepts it (R121), and CTRL may start it. -/
def State.Heads (s : State) (op : Nat) (d : Desc) : Prop := s.cmdHead (· == op) = some d ∧ s.accepts op = true

/-- The completion of a command, as CMPL will show it (Table 4-6). -/
def Desc.answer (d : Desc) (status : Nat) (result : U64) : Compl :=
  { tag := d.tag, opcode := BitVec.ofNat 16 d.opcode, status := BitVec.ofNat 16 status, result := result, irqNow := d.irqNow }

/-- The command at the head of the CMD ring has been taken, and its completion stands behind those that were ready. -/
def Answered (s t : State) (d : Desc) (status : Nat) (result : U64) : Prop :=
  t.hif.ready = s.hif.ready ++ [d.answer status result] ∧ t.fetchedOf 0 = (s.fetchedOf 0).drop 1

/-- The command at the head of the CMD ring has been taken, and waits for a step of its own to complete it. -/
def Deferred (s t : State) (d : Desc) : Prop :=
  t.hif.running = s.hif.running ++ [{ tag := d.tag, opcode := BitVec.ofNat 16 d.opcode, irqNow := d.irqNow, isn := 0, dir := true }]
    ∧ t.hif.ready = s.hif.ready ∧ t.fetchedOf 0 = (s.fetchedOf 0).drop 1

/-- The node after a reset of the cause (R74): MGMT_STATE RESET, the registers of the backup domain as they were, every other register at its reset value; Tarn, the queues and the units' working state empty; flash, OTP and the slot store as they were, or with an erase that the reset has cut still due (R486). -/
structure Restarted (s t : State) (cause : Nat) : Prop where
  mgmt : t.mgmt = Node.reset
  cause : t.reg Reg.MGMT_RESET_CAUSE = BitVec.ofNat 32 cause
  kept : ∀ o, isBackup o = true → t.reg o = s.reg o
  cleared : ∀ o, isBackup o = false → o ≠ Reg.MGMT_RESET_CAUSE → t.reg o = regReset t.behavBoot o
  tarn : t.tarn = []
  units : t.inlet = { } ∧ t.aeA = { } ∧ t.aeB = { } ∧ t.outlet = { } ∧ t.spawn = { } ∧ t.fe = { } ∧ t.can = [] ∧ t.ws = { }
    ∧ t.upd = { } ∧ t.gecko = { }
  queues : t.hif.ready = [] ∧ t.hif.kept = [] ∧ t.hif.running = [] ∧ t.hif.fetched = []
  stores : t.nvm = s.cutErase ∧ t.rtc = s.rtc

/-- A register that a reset of HIF sets to its reset value (R34, R129): HIF's and MSI-X's, but for the two counts and the link's state. -/
def hifCleared (o : Off) : Bool :=
  ((decide (0x1000 ≤ o) && decide (o < 0x1900)) || (decide (0x3000 ≤ o) && decide (o < 0x3900)))
    && o != Reg.HIF_FLR_CNT && o != Reg.HIF_LINKDOWN_CNT && o != Reg.HIF_STATUS

/-- What a reset of HIF leaves: what the node keeps or has taken stays, what it had only fetched is gone. -/
structure HifReset (s t : State) : Prop where
  cleared : ∀ o, hifCleared o = true → t.reg o = regReset t.behavBoot o
  kept : ∀ o, hifCleared o = false → o ≠ Reg.HIF_FLR_CNT → o ≠ Reg.HIF_LINKDOWN_CNT → o ≠ Reg.HIF_STATUS → t.reg o = s.reg o
  taken : t.hif.kept = s.hif.kept ∧ t.hif.ready = s.hif.ready ∧ t.hif.running = s.hif.running ∧ t.inlet = s.inlet ∧ t.outlet = s.outlet
  fetched : t.hif.fetched = [] ∧ t.hif.fetching = [] ∧ t.hif.dbOut = false ∧ t.hif.prefetch = []

/-- A write that the register does not take (R515): counted, recorded with its offset and reason, and shown. -/
structure Ignored (s t : State) (off : Off) (why : Nat) : Prop where
  last : t.reg Reg.MGMT_IGNORED_LAST = packU32 [(off, 0), (why, 25)]
  shown : t.rbit Reg.MGMT_EVT 2 = true
  count : (0x1000 ≤ off → off < 0x1900 → t.reg Reg.HIF_IGNORED_WR_CNT = satAdd (s.reg Reg.HIF_IGNORED_WR_CNT) 1)
    ∧ (off < 0x1000 ∨ 0x1900 ≤ off → t.reg Reg.MGMT_IGNORED_WR_CNT = satAdd (s.reg Reg.MGMT_IGNORED_WR_CNT) 1)
  regs : RegsBut s t [Reg.HIF_IGNORED_WR_CNT, Reg.MGMT_IGNORED_WR_CNT, Reg.MGMT_IGNORED_LAST, Reg.MGMT_EVT, Reg.MSIX_PBA 0]
  held : t.hold = s.hold

/-- A register that has a row of the map, a condition or a range, but no command of its own, and its two ways to be written: by a word, or as the high half of a pair (R512). -/
structure PlainReg (s : State) (off : Off) (v : U32) (r : RegRow) : Prop where
  range : off < 0x100000
  aligned : off % 4 = 0
  row : decoded off = some r
  ready : Node.setup ≤ s.mgmt
  own : (ownWrite off v).isNone = true
  lo : isHoldLo off = false

/-! ## Commands that become records, and what an engine does with a record -/

/-- CTRL has taken the command at the head of the CMD ring, and its records wait for Inlet, paid for from the allowance (R119, R505). -/
structure Taken (s t : State) (d : Desc) (u : CmdUnit) : Prop where
  cmds : t.inlet.cmds = s.inlet.cmds ++
    [{ u with opcode := BitVec.ofNat 16 d.opcode, tag := d.tag, flags := u16At d.raw 2, time := s.now,
              waits := decide (64 ≤ s.cmdRecords) }]
  allowance : t.hif.allowance = s.hif.allowance - u.bodies.length
  waits : t.hif.ready = s.hif.ready ∧ t.hif.running = s.hif.running ∧ t.fetchedOf 0 = (s.fetchedOf 0).drop 1
  regs : RegsBut s t [Reg.RING_NODE_IDX 0, Reg.RING_ENTRY_CNT 0, Reg.MSIX_PBA 0]
  tarn : t.tarn = s.tarn

/-- An engine has evaluated its next record: EVAL_ISN is the record's ISN, the record is counted, and the other engine and Tarn are as they were (R25, R324). -/
structure Evaluated (s t : State) (e : EngineId) (r : InRec) : Prop where
  isn : (t.eng e).evalIsn = r.isn
  begun : (t.eng e).runStarted = true
  count : t.reg (Reg.AE_EVAL_CNT (engIx e)) = satAdd (s.reg (Reg.AE_EVAL_CNT (engIx e))) 1
  other_ : (t.eng (other e)).evalIsn = (s.eng (other e)).evalIsn ∧ (t.eng (other e)).pts = (s.eng (other e)).pts
    ∧ (t.eng (other e)).grs = (s.eng (other e)).grs ∧ (t.eng (other e)).evq = (s.eng (other e)).evq
  tarn : t.tarn = s.tarn

/-- The list of a source names one point, which is valid, enabled and fed by that source, is not forced (R213), and has no damaged state record that awaits its repair (R497). -/
structure Feeds (s : State) (e : EngineId) (type index p : Nat) : Prop where
  list : s.fanout type index = [p]
  range : p < 81920
  valid : (s.pcfg p).valid p = true
  enabled : (s.pcfg p).enable = true
  source : (s.pcfg p).srcType = type ∧ (s.pcfg p).srcIndex = index
  free : (s.pt e p).has Sub.forced = false
  whole : s.eccHeld e p = false

/-- What signal definition k takes from a CAN_FRAME record: nothing, a FAULT_INPUT, or a value (R402). -/
def State.carried (s : State) (r : InRec) (k : Nat) : Option (Option F32) :=
  (SigDef.ofBytes (s.tarnSee (Tarn.CAN_SIG + 16 * k) 16)).extract (BitVec.ofNat 32 (r.pay 0x18 4))
    (dlcLength (bitAt (BitVec.ofNat 32 (r.pay 0x18 4)) 30) false (r.pay 0x1C 1 % 16)) r.ext

/-- The entry of CAN_RXn that echoes a host frame's outcome (R384, Table 13-13). -/
def State.echoEntry (s : State) (n : Nat) (x : TxSlot) (code : Nat) : List Byte :=
  rxEntry x.sof (setBit x.id 31 x.rtr) x.dlc.toNat (b2n x.brs + 4 + if (s.canCh n).lostBefore then 8 else 0) 0xFFFF x.tag.toNat code n
    (s.canCh n).seq (frameData (bitAt x.id 30) x.rtr x.dlc.toNat x.data)

/-- A host frame's outcome is echoed: at once, or behind the frames that wait in the receive FIFO (R384, R397). -/
structure Echoed (s t : State) (n : Nat) (x : TxSlot) (code : Nat) : Prop where
  posted : (s.canCh n).rxFifo = [] → (s.canCh n).echoes = [] → 0 < s.ringCredit (18 + n) →
    Output.ringEntry (18 + n) (s.reg (Reg.RING_NODE_IDX (18 + n))) (s.ringSlot (18 + n) (s.reg (Reg.RING_NODE_IDX (18 + n))))
      (s.echoEntry n x code) ∈ t.out
  waits : (s.canCh n).rxFifo ≠ [] → (s.canCh n).echoes = [] → (t.canCh n).echoes =
    [{ behind := (s.canCh n).rxFifo.length, slot := x, code := code, seq := (s.canCh n).seq, time := x.sof }]

/-- An attempt has failed: its frame waits for the next one, or has left its slot with the outcome of its one attempt (R381, R383). -/
structure AttemptFailed (s t : State) (n : Nat) (x : TxSlot) (code : Nat) : Prop where
  again : s.oneShot n x = false → { x with inTx := false } ∈ (t.canCh n).slots
    ∧ t.reg (Reg.CAN_TX_RETRY_CNT n) = satAdd (s.reg (Reg.CAN_TX_RETRY_CNT n)) 1
  once : s.oneShot n x = true → (∀ y, y ∈ (t.canCh n).slots → y.idx ≠ x.idx)
    ∧ (x.node = false → x.report = true → 1 ≤ x.attempts → Echoed s t n x code)

/-- The engine's next record, and no state record that its evaluation reads fails its STATE_CRC (R301). -/
def State.atRec (s : State) (e : EngineId) (r : InRec) : Prop := s.headRec e = some r ∧ s.failsCrc e (s.recReads r) = false

/-- A TICK is the engine's next record. -/
def State.AtTick (s : State) (e : EngineId) (r : InRec) : Prop := s.atRec e r ∧ r.kind = Kind.tick

/-- A part of a TICK's evaluation has been done: the TICK's values are taken, and the record stays the engine's next one. -/
structure WithinTick (s t : State) (e : EngineId) (r : InRec) : Prop where
  taken : (t.eng e).lastTick = r.payload
  begun : (t.eng e).runStarted = true
  isn : (t.eng e).evalIsn = (s.eng e).evalIsn
  inlet : t.inlet = s.inlet
  other_ : t.eng (other e) = s.eng (other e)
  tarn : t.tarn = s.tarn

/-- The TICK at hand has its values taken, and its evaluation has come to the visit of point `p`: every point before it has been visited. -/
def State.atPoint (s : State) (e : EngineId) (r : InRec) (p : Nat) : Prop :=
  (s.eng e).lastTick = r.payload ∧ (s.eng e).runStarted = true ∧ (s.eng e).sweepAt = p

/-- The TICK at hand has every point visited, and the groups before `g` swept. -/
def State.atGroup (s : State) (e : EngineId) (r : InRec) (g : Nat) : Prop :=
  (s.eng e).lastTick = r.payload ∧ (s.eng e).runStarted = true ∧ 81920 ≤ (s.eng e).sweepAt ∧ (s.eng e).groupAt = g

/-- The TICK at hand has both sweeps and the first `k` of its later parts behind it. -/
def State.atStage (s : State) (e : EngineId) (r : InRec) (k : Nat) : Prop :=
  (s.eng e).lastTick = r.payload ∧ (s.eng e).runStarted = true ∧ 81920 ≤ (s.eng e).sweepAt ∧ 256 ≤ (s.eng e).groupAt
    ∧ (s.eng e).tickStage = k

/-- A block source names no point, or its condition does not hold. -/
def State.sourceQuiet (s : State) (e : EngineId) (w : U32) : Prop :=
  fld w 0 17 = 0x1FFFF ∨ blockCond (fld w 17 3) (s.pt e (fld w 0 17)).state = false

/-- No record waits at a place. -/
def State.noneAt (s : State) (pl : Nat) : Prop := ∀ w, w ∈ s.inlet.waiting → w.1 ≠ pl

/-- Place `pl` is the first that R271 serves: TICK, then Skink, then Gecko, then the host commands, and last the other sources in rotation from where it stands. -/
def State.firstPlace (s : State) (pl : Nat) : Prop :=
  pl = Place.tick
  ∨ (pl = Place.skink ∧ s.noneAt Place.tick)
  ∨ (pl = Place.gecko ∧ s.noneAt Place.tick ∧ s.noneAt Place.skink)
  ∨ (∃ i, i < 58 ∧ pl = (s.inlet.rot + i) % 58 ∧ s.inlet.cmds = [] ∧ s.noneAt Place.tick ∧ s.noneAt Place.skink
      ∧ s.noneAt Place.gecko ∧ ∀ j, j < i → s.noneAt ((s.inlet.rot + j) % 58))

/-- Some engine serves, and none that does is without credit toward Inlet. -/
def State.credited (s : State) : Prop := s.servers ≠ [] ∧ ∀ e, e ∈ s.servers → s.noCredit e = false

/-- The engine's next record is a host command's, and its arguments are `d`. -/
def State.AtCmd (s : State) (e : EngineId) (op : Nat) (r : InRec) (d : Desc) : Prop :=
  s.atRec e r ∧ r.isCmd op = true ∧ d = r.desc

/-- An event that the engine has emitted and not handed over, by type and number of its node, point or group. -/
def State.queued (s : State) (e : EngineId) (type : Byte) (index : Nat) (p : Event → Prop) : Prop :=
  ∃ v, v ∈ (s.eng e).evq ++ (s.eng e).evWait ∧ v.type = type ∧ v.pointId = s.sysId index ∧ p v

/-- An engine has been failed (R301): out of service with the cause of Table 10-2, counted, and the hold is not its own. -/
structure EngineFailed (s t : State) (e : EngineId) (cause : Nat) : Prop where
  out : t.serves e = false
  cause : (t.eng e).lastCause = cause
  count : t.reg (Reg.AE_FAIL_CNT (engIx e)) = satAdd (s.reg (Reg.AE_FAIL_CNT (engIx e))) 1
  hold : t.skink.holder ≠ some e

/-- The failure of an engine that is out of service (R298, R301, R315): counted with its cause, and the engine FAILED, or OFFLINE where it was so or has failed three times within 3,600 s. -/
structure FailedOut (s t : State) (e : EngineId) (cause : Nat) : Prop where
  svc : (t.eng e).svc = (if (s.eng e).svc = Svc.offline ∨ 2 ≤ ((s.eng e).failTimes.filter (fun u => decide (s.frcNat - u < failWindow))).length
    then Svc.offline else Svc.failed)
  cause : (t.eng e).lastCause = cause
  count : t.reg (Reg.AE_FAIL_CNT (engIx e)) = satAdd (s.reg (Reg.AE_FAIL_CNT (engIx e))) 1
  other_ : t.eng (other e) = s.eng (other e)

/-- Check 1 of Table 17-10: MAGIC, FORMAT_VER, PART_COUNT and the reserved fields of Tables 17-2 and 17-3. -/
structure ManifestFormat (m : List Byte) : Prop where
  magic : u32At m 0 = 0x31464D55
  version : leAt m 4 2 = 1
  count : leAt m 6 2 = 7
  revoke : leAt m 0xF 1 < 16
  zeros : ∀ b, b ∈ slice m 0x18 8 ++ slice m 0x170 3472 → b = 0
  parts : ∀ k, k < 7 → ∀ b, b ∈ slice m (0x21 + 48 * k) 3 → b = 0
  ones : ∀ b, b ∈ slice m 0xF80 128 → b = 0xFF

/-- Check 2: the hash of PUBKEY stands in OTP slot KEY_INDEX, and the slot is not revoked. -/
def Nvm.KeyRight (v : Nvm) (m : List Byte) : Prop := (leAt m 0xE 1, sha256 (slice m 0xF00 64), false) ∈ v.keys

/-- Part k of a manifest (Table 17-3). -/
def partOf (m : List Byte) (k : Nat) : Part := Part.ofBytes (slice m (0x20 + 48 * k) 48)

/-- Check 5: PIECES is that of UPD_BEGIN, every PART_ID stands once, and every part is aligned, inside the package and apart from the others. -/
structure PackageLayout (m : List Byte) (pieces : Nat) : Prop where
  whole : leAt m 0x10 4 = pieces
  ids : ∀ k, k < 7 → (partOf m k).id = k + 1
  aligned : ∀ k, k < 7 → (partOf m k).offset ≠ 0 ∧ (partOf m k).offset % 4096 = 0
  inside : ∀ k, k < 7 → (partOf m k).length ≠ 0 ∧ (partOf m k).stop ≤ 4096 * pieces
  apart : ∀ j k, j < 7 → k < 7 → j ≠ k → (partOf m j).stop ≤ (partOf m k).offset ∨ (partOf m k).stop ≤ (partOf m j).offset

/-- Check 6: MIN_SETTINGS_FMT ≤ running settings format ≤ SETTINGS_FMT. -/
def SettingsFormatFits (m : List Byte) (fmt : Nat) : Prop := leAt m 0x16 2 ≤ fmt ∧ fmt ≤ leAt m 0x14 2

/-- Checks 1 to 6 of Table 17-10 hold of the manifest in the session's slot. -/
structure ManifestRight (s : State) (m : List Byte) : Prop where
  format : ManifestFormat m
  key : s.nvm.KeyRight m
  authentic : manifestSigned m = true
  hwRev : leAt m 0xC 2 ≤ s.rfld Reg.HW_REV 0 16
  layout : PackageLayout m s.nvm.session.pieces
  settings : SettingsFormatFits m (s.nvm.imageFormat s.upd.runSlot)

/-- A verification has failed with a REASON (R481): counted and shown. -/
structure VerifyFailed (s t : State) (d : Desc) (status reason : Nat) : Prop where
  answer : Answered s t d status 0
  reason : t.upd.reason = reason
  shown : t.rbit Reg.UPD_EVT 2 = true
  count : t.reg Reg.UPD_VERIFY_FAIL_CNT = satAdd (s.reg Reg.UPD_VERIFY_FAIL_CNT) 1

/-- It has ended the session in IDLE with the bitmap cleared. -/
structure VerifyEnded (s t : State) (d : Desc) (status reason : Nat) : Prop where
  failed : VerifyFailed s t d status reason
  state : t.upd.state = Ses.idle ∧ t.nvm.session.state = Ses.idle
  bitmap : t.nvm.bits0 = [] ∧ t.nvm.bits1 = []

/-- The update engine has gone back to the slot before (R483, R485): a fallback boot record with the reason is in force, and the node is in RESET by UPD. -/
structure FellBack (s t : State) (reason : Nat) : Prop where
  mgmt : t.mgmt = Node.reset
  cause : t.reg Reg.MGMT_RESET_CAUSE = 3
  tarn : t.tarn = []
  mode : t.nvm.boot.mode = 2 ∧ t.nvm.boot.reason = BitVec.ofNat 8 reason
  slot : t.nvm.boot.slot = s.nvm.boot.prevSlot ∧ t.nvm.boot.settings = s.nvm.boot.prevSettings
  stores : t.nvm.slotStore = s.nvm.slotStore ∧ t.nvm.set0 = s.nvm.set0 ∧ t.nvm.set1 = s.nvm.set1 ∧ t.nvm.session = s.nvm.session

/-! ## What every command leaves alone, and the moves of the node state -/

/-- A reset of the node: every part but flash, OTP, the RTC and what lies outside the module (R74). -/
def Zone.ofReset : List Zone :=
  [.regs, .latch, .hold, .tarn, .inlet, .aeA, .aeB, .outlet, .hif, .skink, .spawn, .fe, .dio, .can, .canWalk, .ws, .panel, .upd, .gecko]

/-- The transitions of Table 1-9 between node states, but for those that a reset makes: boot, START and STOP, REPLAY_START and REPLAY_STOP, UPD_ACTIVATE and the image's return, and the ways into FAULT_HALT. -/
def moves : List (Nat × Nat) :=
  [(Node.reset, Node.boot), (Node.reset, Node.setup), (Node.reset, Node.faultHalt), (Node.setup, Node.run), (Node.setup, Node.replay),
   (Node.setup, Node.faultHalt), (Node.run, Node.setup), (Node.run, Node.activating), (Node.run, Node.faultHalt),
   (Node.replay, Node.setup), (Node.replay, Node.faultHalt), (Node.activating, Node.run)]

/-- The node state stays, falls into RESET, or makes one of its moves. -/
def Moved (s t : State) : Prop := t.mgmt = s.mgmt ∨ t.mgmt = Node.reset ∨ (s.mgmt, t.mgmt) ∈ moves

end Sys2Proof.Machine

namespace Sys2Proof

open Sys2Proof.Machine

/-- The parts of the state that a command may change; every other part is as it was. -/
def Instr.touches : Instr → List Zone
  | .powerGoodRise _ => .rtc :: .nvm :: .behavBoot :: .free :: Zone.ofReset
  | .powerGoodFall _ => .rtc :: .nvm :: .free :: Zone.ofReset
  | .logicInputChange _ _ => [.regs]
  | .ctrlWatchdog => .nvm :: Zone.ofReset
  | .lockstepMismatch => [.regs, .inlet, .outlet, .hif, .spawn, .fe, .dio, .can, .canWalk, .gecko]
  | .tcmUncorrectable => [.regs, .inlet, .outlet, .hif, .spawn, .fe, .dio, .can, .canWalk, .gecko]
  | .perstNAssert => [.regs, .latch, .hold, .hif]
  | .linkDown => [.regs, .latch, .hold, .hif]
  | .d3hotEntry => [.regs, .latch, .hold, .hif]
  | .flr => [.regs, .latch, .hold, .hif]
  | .startRun _ _ _ => [.regs, .inlet, .aeA, .aeB, .outlet, .hif, .skink, .spawn, .fe, .dio, .can, .canWalk, .ws, .gecko]
  | .stopRun => [.regs, .tarn, .inlet, .aeA, .aeB, .outlet, .hif, .skink, .spawn, .fe, .dio, .can, .canWalk, .ws, .gecko, .free]
  | .resetNode => .nvm :: Zone.ofReset
  | .commission _ => [.regs, .rtc, .nvm, .gecko, .free]
  | .verifyCfg => [.regs]
  | .acceptSlot => [.regs, .nvm, .gecko]
  | .ssBypass => [.regs]
  | .mgmtFmodeWrite _ => [.regs, .tarn, .outlet, .gecko]
  | .mgmtIntRearm _ => [.regs]
  | .mgmtIntEnWrite _ => [.regs]
  | .registerWrite _ _ => [.regs, .latch, .hold, .tarn, .inlet, .aeA, .aeB, .outlet, .hif, .skink, .spawn, .fe, .dio, .can, .canWalk, .ws, .rtc, .panel, .nvm, .upd, .gecko, .hostRead, .free]
  | .badAccess _ => [.regs, .latch, .outlet, .ws, .rtc, .hostRead]
  | .widePairLoRead _ _ => [.regs, .latch, .outlet, .hif, .spawn, .dio, .ws, .rtc, .gecko, .hostRead]
  | .tarnWindowWrite _ _ => [.regs, .tarn, .gecko]
  | .hifKick _ => [.regs, .hif]
  | .doorbellPoll => [.regs, .hif]
  | .doorbellCompletion _ => [.regs, .inlet, .aeA, .aeB, .outlet, .hif, .skink, .spawn, .fe, .dio, .can, .canWalk, .gecko]
  | .descriptorArrival _ _ => [.regs, .hif]
  | .pagesEnSet => [.regs, .hif]
  | .pagesEnClear => [.regs]
  | .ringEnable _ _ => [.regs, .outlet, .hif, .spawn]
  | .ringDisable _ _ => [.regs, .outlet, .hif, .spawn]
  | .statusPageUpdate => [.hif]
  | .ringModerationTimeout _ => [.regs, .hif]
  | .msixVectorUnmask _ => [.regs]
  | .nop => [.regs, .hif]
  | .unknownOpcode => [.regs, .hif]
  | .completionWrite => [.regs, .hif]
  | .pointWrite _ => [.regs, .inlet, .hif]
  | .pointRead _ => [.regs, .inlet, .aeA, .aeB, .outlet, .hif, .skink, .spawn, .fe, .dio, .can, .canWalk, .gecko]
  | .chandefWrite _ => [.regs, .inlet, .hif]
  | .groupWrite _ => [.regs, .inlet, .hif]
  | .fanoutWrite _ => [.regs, .inlet, .hif]
  | .lintabWrite _ => [.regs, .inlet, .hif]
  | .canfiltWrite _ => [.regs, .inlet, .hif]
  | .cansigWrite _ => [.regs, .inlet, .hif]
  | .ackPoint _ => [.regs, .inlet, .aeA, .aeB, .outlet, .hif, .skink, .spawn, .fe, .dio, .can, .canWalk, .gecko]
  | .shelve _ => [.regs, .inlet, .aeA, .aeB, .outlet, .hif, .skink, .spawn, .fe, .dio, .can, .canWalk, .gecko]
  | .unshelve _ => [.regs, .inlet, .aeA, .aeB, .outlet, .hif, .skink, .spawn, .fe, .dio, .can, .canWalk, .gecko]
  | .forcePoint _ => [.regs, .inlet, .aeA, .aeB, .outlet, .hif, .skink, .spawn, .fe, .dio, .can, .canWalk, .gecko]
  | .ackGroup _ => [.regs, .inlet, .aeA, .aeB, .outlet, .hif, .skink, .spawn, .fe, .dio, .can, .canWalk, .gecko]
  | .callManual _ => [.regs, .inlet, .aeA, .aeB, .outlet, .hif, .skink, .spawn, .fe, .dio, .can, .canWalk, .gecko]
  | .callSilence _ => [.regs, .inlet, .aeA, .aeB, .outlet, .hif, .skink, .spawn, .fe, .dio, .can, .canWalk, .gecko]
  | .deadmanReset _ => [.regs, .inlet, .aeA, .aeB, .outlet, .hif, .skink, .spawn, .fe, .dio, .can, .canWalk, .gecko]
  | .canCancel => [.regs, .hif, .can, .gecko]
  | .canChannelCtl => [.regs, .hif, .can, .gecko]
  | .spawnCtl _ => [.regs, .hif, .spawn]
  | .spawnTrigger => [.regs, .hif, .spawn]
  | .replayStart => [.regs, .inlet, .aeA, .aeB, .outlet, .hif, .skink, .spawn, .fe, .dio, .can, .canWalk, .gecko]
  | .replayStop => [.regs, .inlet, .aeA, .aeB, .outlet, .hif, .skink, .spawn, .dio, .gecko]
  | .updBegin => [.regs, .hif, .nvm, .upd, .gecko]
  | .updStatus _ => [.regs, .hif]
  | .updVerify => [.regs, .hif, .nvm, .upd, .gecko]
  | .updActivate => [.regs, .inlet, .aeA, .aeB, .outlet, .hif, .skink, .fe, .dio, .can, .nvm, .upd, .gecko]
  | .updConfirm => [.regs, .hif, .nvm, .upd, .gecko, .free]
  | .updAbandon => .nvm :: Zone.ofReset
  | .quotaSet => [.regs, .hif, .can, .nvm]
  | .elasticSplitApply => [.hif]
  | .engineCtl => [.regs, .inlet, .aeA, .aeB, .outlet, .hif, .skink, .spawn, .fe, .dio, .can, .canWalk, .gecko]
  | .trendCtl => [.regs, .tarn, .inlet, .outlet, .hif, .gecko]
  | .dioWrite => [.regs, .hif, .dio]
  | .panelFlip _ => [.regs, .tarn, .hif, .panel, .gecko]
  | .timeAdj _ => [.regs, .hif, .spawn, .dio, .ws, .gecko]
  | .recordAdmission => [.regs, .inlet, .aeA, .aeB, .outlet, .hif, .skink, .spawn, .fe, .dio, .can, .canWalk, .gecko]
  | .evalSample _ => [.regs, .inlet, .aeA, .aeB, .outlet, .hif, .skink, .spawn, .fe, .dio, .can, .canWalk, .gecko]
  | .evalDiChange _ => [.regs, .inlet, .aeA, .aeB, .outlet, .hif, .skink, .spawn, .fe, .dio, .can, .canWalk, .gecko]
  | .evalCount _ => [.regs, .inlet, .aeA, .aeB, .outlet, .hif, .skink, .spawn, .fe, .dio, .can, .canWalk, .gecko]
  | .evalCanFrame _ => [.regs, .inlet, .aeA, .aeB, .outlet, .hif, .skink, .spawn, .fe, .dio, .can, .canWalk, .gecko]
  | .evalTick _ => [.regs, .inlet, .aeA, .aeB, .outlet, .hif, .skink, .spawn, .fe, .dio, .can, .canWalk, .gecko, .free]
  | .delayExpiry _ _ => [.regs, .inlet, .aeA, .aeB, .outlet, .hif, .skink, .spawn, .fe, .dio, .can, .canWalk, .gecko]
  | .rateEvaluation _ _ => [.regs, .inlet, .aeA, .aeB, .outlet, .hif, .skink, .spawn, .fe, .dio, .can, .canWalk, .gecko]
  | .blockDelayExpiry _ _ => [.regs, .inlet, .aeA, .aeB, .outlet, .hif, .skink, .spawn, .fe, .dio, .can, .canWalk, .gecko]
  | .shelveExpiry _ _ => [.regs, .inlet, .aeA, .aeB, .outlet, .hif, .skink, .spawn, .fe, .dio, .can, .canWalk, .gecko]
  | .groupBlockExpiry _ _ => [.regs, .inlet, .aeA, .aeB, .outlet, .hif, .skink, .spawn, .fe, .dio, .can, .canWalk, .gecko]
  | .floodWindowClose _ _ => [.regs, .inlet, .aeA, .aeB, .outlet, .hif, .skink, .spawn, .fe, .dio, .can, .canWalk, .gecko]
  | .callTimeout _ _ => [.regs, .inlet, .aeA, .aeB, .outlet, .hif, .skink, .spawn, .fe, .dio, .can, .canWalk, .gecko]
  | .callFrameRepeat _ _ => [.regs, .inlet, .aeA, .aeB, .outlet, .hif, .skink, .spawn, .fe, .dio, .can, .canWalk, .gecko]
  | .deadmanWarn _ _ => [.regs, .inlet, .aeA, .aeB, .outlet, .hif, .skink, .spawn, .fe, .dio, .can, .canWalk, .gecko]
  | .deadmanExpiry _ _ => [.regs, .inlet, .aeA, .aeB, .outlet, .hif, .skink, .spawn, .fe, .dio, .can, .canWalk, .gecko]
  | .sealPeriodExpiry _ => [.regs, .inlet, .aeA, .aeB, .outlet, .hif, .skink, .spawn, .fe, .dio, .can, .canWalk, .gecko]
  | .healthPeriodExpiry _ => [.regs, .inlet, .aeA, .aeB, .outlet, .hif, .skink, .spawn, .fe, .dio, .can, .canWalk, .gecko]
  | .configBarrier => [.regs, .tarn, .inlet, .aeA, .aeB, .outlet, .hif, .skink, .spawn, .fe, .dio, .can, .canWalk, .gecko]
  | .evalSourceGap _ => [.regs, .inlet, .aeA, .aeB, .outlet, .hif, .skink, .spawn, .fe, .dio, .can, .canWalk, .gecko]
  | .evalSnapshotMark _ => [.regs, .inlet, .aeA, .aeB, .outlet, .hif, .skink, .spawn, .fe, .dio, .can, .canWalk, .gecko]
  | .evalSealRequest _ => [.regs, .inlet, .aeA, .aeB, .outlet, .hif, .skink, .spawn, .fe, .dio, .can, .canWalk, .gecko]
  | .evalEccFault => [.regs, .inlet, .aeA, .aeB, .outlet, .hif, .spawn, .gecko]
  | .evalResyncStatus _ => [.regs, .inlet, .aeA, .aeB, .outlet, .hif, .skink, .spawn, .fe, .dio, .can, .canWalk, .gecko]
  | .evalResyncCopy _ => [.regs, .inlet, .aeA, .aeB, .outlet, .hif, .skink, .spawn, .fe, .dio, .can, .canWalk, .gecko]
  | .evalAudit _ => [.regs, .inlet, .aeA, .aeB, .outlet, .hif, .skink, .spawn, .fe, .dio, .can, .canWalk, .gecko]
  | .evalDiverge _ => [.regs, .inlet, .aeA, .aeB, .outlet, .hif, .skink, .spawn, .fe, .dio, .can, .canWalk, .gecko]
  | .evalRepair _ => [.regs, .inlet, .aeA, .aeB, .outlet, .hif, .skink, .spawn, .fe, .dio, .can, .canWalk, .gecko]
  | .eventCopyArrival _ => [.regs, .inlet, .aeA, .aeB, .outlet, .hif, .skink, .spawn, .fe, .dio, .can, .canWalk, .gecko]
  | .mergeWaitExpiry => [.regs, .inlet, .aeA, .aeB, .outlet, .hif, .skink, .spawn, .fe, .dio, .can, .canWalk, .gecko]
  | .eventDelivery _ => [.regs, .outlet, .hif]
  | .publicationDatagram => [.regs, .outlet, .ws]
  | .canPublication => [.regs, .outlet, .can]
  | .trendSample _ _ => [.regs, .tarn, .outlet, .hif, .spawn, .dio, .ws, .gecko]
  | .legEvtW0Read => [.outlet, .hostRead]
  | .legEvtW3Read => [.outlet, .hostRead]
  | .legFlush => [.regs, .outlet]
  | .engineFailure _ _ => [.regs, .inlet, .aeA, .aeB, .outlet, .hif, .skink, .spawn, .fe, .dio, .can, .canWalk, .gecko]
  | .tickStall _ => [.regs, .inlet, .aeA, .aeB, .outlet, .hif, .skink, .spawn, .fe, .dio, .can, .canWalk, .gecko]
  | .holdGrant => [.regs, .inlet, .aeA, .aeB, .skink, .gecko]
  | .engineReturnTest _ _ => [.regs, .inlet, .aeA, .aeB, .skink, .gecko]
  | .stateCopyComplete _ => [.regs, .inlet, .aeA, .aeB, .outlet, .skink, .gecko]
  | .returnHoldoffExpiry _ => [.regs, .inlet, .aeA, .aeB, .gecko]
  | .takeBack => [.regs, .inlet, .aeA, .aeB, .skink, .gecko]
  | .auditOffer => [.regs, .inlet, .skink, .gecko]
  | .auditCompare => [.regs, .inlet, .aeA, .aeB, .skink, .gecko]
  | .divergeResolution => [.regs, .inlet, .aeA, .aeB, .outlet, .hif, .skink, .spawn, .fe, .dio, .can, .canWalk, .gecko]
  | .aeInject _ _ => [.regs, .inlet, .aeA, .aeB, .outlet, .hif, .skink, .spawn, .fe, .dio, .can, .canWalk, .gecko]
  | .intlkInChange _ => [.regs, .skink]
  | .pairClaim => [.regs, .skink]
  | .pairRelease => [.regs, .skink, .dio]
  | .pairSenseChange _ => [.regs, .skink]
  | .tickGeneration => [.regs, .inlet, .hif, .spawn, .dio, .ws, .gecko]
  | .snapshotMarkOffer => [.regs, .inlet, .spawn, .gecko]
  | .snapshotCopyComplete => [.spawn]
  | .snapTimeout => [.regs, .hif, .spawn]
  | .spawnOutBufferWrite _ => [.regs, .hif, .spawn]
  | .checkpoint => [.regs, .spawn, .gecko]
  | .windowFreeze => [.regs, .spawn]
  | .replayBuffer _ => [.regs, .tarn, .inlet, .aeA, .aeB, .outlet, .hif, .spawn, .gecko]
  | .replayCheckpointCompare => [.regs, .tarn, .inlet, .aeA, .aeB, .outlet, .hif, .skink, .spawn, .fe, .dio, .can, .canWalk, .gecko]
  | .replayDone => [.regs]
  | .laneSlotStart _ => [.regs, .fe]
  | .laneSlotEnd _ _ _ => [.regs, .inlet, .hif, .spawn, .fe, .dio, .ws, .gecko, .free]
  | .calSlotDue _ => [.fe]
  | .calSlotEnd _ _ => [.regs, .fe]
  | .laneDrained _ => [.regs, .inlet, .fe, .gecko]
  | .clampEventStart _ => [.regs, .fe]
  | .clampEventEnd _ => [.regs]
  | .burdenShuntOpen _ => [.regs]
  | .burdenShuntReclose _ => [.regs]
  | .biasCurrentLimit _ _ => [.regs]
  | .xpCheck _ => [.regs]
  | .dioWindowEnd _ _ _ _ => [.regs, .inlet, .hif, .spawn, .dio, .ws, .gecko]
  | .counterEdge _ => [.dio]
  | .countPeriodExpiry _ _ _ => [.regs, .inlet, .hif, .spawn, .dio, .ws, .gecko]
  | .newtRefresh _ _ => [.regs, .skink, .dio]
  | .watchdogExpiry _ => [.regs, .dio]
  | .newtStall _ => [.regs, .dio]
  | .newtRestart _ => [.regs, .inlet, .dio]
  | .faultSet _ _ => [.regs, .dio]
  | .faultClear _ => [.regs, .dio]
  | .fieldReset _ => [.regs, .dio]
  | .fieldSideRestart _ => [.regs, .inlet, .dio]
  | .thermalShutdownRetry _ _ => [.dio]
  | .canFrameReceived _ _ _ => [.regs, .inlet, .hif, .spawn, .dio, .can, .canWalk, .ws, .gecko, .free]
  | .protocolException _ => [.regs]
  | .canBusError _ _ => [.regs, .hif, .can, .gecko, .free]
  | .filterWalk => [.regs, .inlet, .hif, .can, .canWalk, .gecko]
  | .canTxEntryTaken _ => [.regs, .hif, .can, .gecko]
  | .txAttemptStart _ _ => [.regs, .hif, .spawn, .dio, .can, .ws, .gecko]
  | .txAttemptEnd _ _ _ => [.regs, .hif, .spawn, .dio, .can, .ws, .gecko, .free]
  | .integrationComplete _ => [.regs]
  | .busOffRecoveryComplete _ => [.regs, .can]
  | .timeSwitch => [.regs, .hif, .spawn, .dio, .ws, .gecko]
  | .ptpSyncReceived _ _ _ => [.regs, .hif, .spawn, .dio, .ws, .gecko, .free]
  | .ptpDelayRespReceived _ _ => [.regs, .spawn, .ws, .free]
  | .ptpAnnounceReceived _ _ => [.regs, .hif, .spawn, .dio, .ws, .gecko]
  | .delayReqSend _ => [.regs, .hif, .spawn, .dio, .ws, .gecko]
  | .masterLoss => [.regs, .ws]
  | .acquireTimeout => [.regs, .spawn, .ws]
  | .hostTimeout => [.ws]
  | .ethFrameReceived _ _ _ => [.regs, .hif, .spawn, .dio, .ws, .gecko]
  | .ethTxFrame _ _ => [.regs, .hif, .spawn, .dio, .ws, .gecko]
  | .ethTxTimestamp _ _ => [.regs, .hif, .spawn, .dio, .ws, .gecko]
  | .ethLinkChange _ _ _ => [.regs]
  | .ptpTxtsW0Read _ => [.ws, .hostRead]
  | .ptpTxtsTimeHiRead _ => [.ws, .hostRead]
  | .tmoPulseStart _ _ => [.regs, .hif, .spawn, .dio, .ws, .gecko]
  | .tmoPulseEnd _ _ => [.regs, .hif, .spawn, .dio, .ws, .gecko]
  | .rtcSet _ => [.regs, .rtc, .free]
  | .rtcCommit => [.regs, .rtc, .free]
  | .swoClear => [.regs]
  | .rtcShift _ _ => [.regs, .rtc, .free]
  | .shiftDone _ => [.regs, .rtc, .free]
  | .dstForward => [.regs, .rtc]
  | .dstBack => [.regs, .rtc]
  | .localTimeApply _ => [.regs, .rtc, .free]
  | .alarmArm _ _ => [.regs, .rtc, .free]
  | .alarmDisarm _ => [.regs]
  | .rtcAlarmFire _ => [.regs, .rtc, .free]
  | .wakeEnable _ => [.regs, .rtc]
  | .rtcWake _ => [.regs, .rtc, .free]
  | .rtcFracRead _ => [.regs, .rtc, .hostRead, .free]
  | .rtcSecHiRead _ => [.regs, .rtc, .hostRead, .free]
  | .shadowFreezeTimeout _ => [.rtc]
  | .legRtcSecRead _ => [.regs, .rtc, .hostRead, .free]
  | .legRtcYearRead _ => [.regs, .rtc, .hostRead, .free]
  | .legRtcSet => [.regs, .rtc]
  | .rtcTrickleWrite _ => [.regs, .rtc]
  | .cellTypeHigh => [.regs, .rtc]
  | .oscStop => [.regs, .latch, .hold, .rtc]
  | .legPtWrite => [.regs, .tarn, .gecko]
  | .legPtRead => [.regs]
  | .panelFrameBoundary => [.regs, .hif, .panel]
  | .panelTempUpdate _ => [.regs, .panel, .free]
  | .vppFault => [.regs, .panel]
  | .vppRetry => [.panel]
  | .alarmListRedraw _ => [.regs, .tarn, .rtc, .panel, .gecko, .free]
  | .burnInShift => [.panel]
  | .pnlSenseChange _ => [.regs, .panel]
  | .updPieceReceived _ => [.regs, .hif, .upd]
  | .pieceStored _ _ => [.regs, .nvm, .upd]
  | .activationComplete _ => [.regs, .aeA, .aeB, .hif, .spawn, .fe, .dio, .ws, .upd, .gecko]
  | .activationTimeout => .nvm :: Zone.ofReset
  | .trialWarn => [.regs, .upd]
  | .trialTimeout => .nvm :: Zone.ofReset
  | .settingsConversionDone => [.nvm, .upd, .gecko]
  | .settingsConversionFail => .nvm :: Zone.ofReset
  | .keyProgram => [.regs, .nvm]
  | .keyProgrammed => [.regs, .nvm, .upd]
  | .scrubSlot _ => [.regs, .gecko]
  | .tarnCorrectedError _ => [.regs, .gecko]
  | .tarnUncorrectable _ => [.regs, .tarn, .inlet, .aeA, .aeB, .outlet, .hif, .skink, .spawn, .fe, .dio, .can, .canWalk, .gecko]
  | .tcmScrub _ => [.regs, .gecko]
  | .settingsJournalWrite _ => [.regs, .nvm, .gecko]
  | .baseGenerationStart => [.gecko]
  | .baseGenerationDurable => [.regs, .nvm, .gecko, .free]
  | .digestRewrite => [.regs, .nvm, .gecko]
  | .telemetry _ _ => [.regs, .hif, .spawn, .dio, .ws, .gecko]
  | .linkUp _ _ => [.regs, .hif]
  | .commandRateAllowance => [.hif]

/-- Commands that can reset the node (R73, R77, R485). -/
def Instr.resets : Instr → Bool
  | .powerGoodRise _ | .powerGoodFall _ | .ctrlWatchdog | .resetNode | .updAbandon | .activationTimeout | .trialTimeout
  | .settingsConversionFail | .registerWrite _ _ => true
  | _ => false

/-- CORE clocks that pass with a command: those that its operand counts, up to the switch or the TICK that it is, or to the end of the activation pause. -/
def Instr.clocks (s : State) : Instr → Nat
  | .startRun _ _ dt | .timeAdj dt | .laneSlotEnd _ _ dt | .dioWindowEnd _ _ _ dt | .countPeriodExpiry _ _ dt
  | .canFrameReceived _ _ dt | .txAttemptStart _ dt | .txAttemptEnd _ _ dt | .trendSample _ dt | .telemetry _ dt
  | .ptpSyncReceived _ _ dt | .delayReqSend dt | .ethFrameReceived _ _ dt
  | .ethTxTimestamp _ dt | .tmoPulseStart _ dt
  | .tmoPulseEnd _ dt | .widePairLoRead _ dt => dt
  | .ptpAnnounceReceived _ m => m.dt
  | .ethTxFrame _ f => f.dt
  | .tickGeneration => s.toTick
  | .timeSwitch => match s.ws.armed with | some sw => (sw.at_ - s.ws.frc).toNat | none => 0
  | .activationComplete us => if s.mgmt = Node.activating then 200 * us - (s.frcNat - s.upd.pauseAt) else 0
  | _ => 0

end Sys2Proof
end

