-- ==== Sys2Proof/Certificates/Slice0/Obligations.lean ====
section
/-! DEFINITION. The statements for the provers, by block of the node: what each family of commands does, then what holds of every command. `Ends c s p`: the command answers a next state, of which `p` holds. -/

section

open Sys2Proof Sys2Proof.Machine

/-! ## Node states, boot and reset (R35-R39, R62-R95, R517-R520) -/

/-- POWER_GOOD_RISE: a node whose image, self-test and boot record are in order comes to SETUP (R75, R77, R79, Table 3-2). CTRL_WATCHDOG and RESET: the whole of a reset, with its cause, in every state (R73, R74). POWER_GOOD_FALL and LOGIC_INPUT_CHANGE: without logic supply the node is in RESET with cause POWER_ON, TMO0-TMO3 are low and the RTC runs on VBK; a slot record being written keeps what has been written of it, the rest of its copy as it was, a boot record being written is torn in its own copy alone, and a journal entry being written stands torn behind those before it (which write is cut, and for how long one can be: log entry 70, DESIGN CHOICE); a supply input that changes while the other carries the node only shows its voltage (R49, R62, R63, R71, R74). -/
def Obligations.BootAndResets : Prop :=
  ((∀ (s : State) (env : BootEnv), s.mgmt = Node.reset → s.nvm.boot.mode ≠ 1 → s.nvm.bootable s.nvm.boot.slot.toNat = true →
    env.imgBadA = false → env.imgBadB = false → testsHalt env.tests = false →
    Ends (.powerGoodRise env) s (fun t => t.mgmt = Node.setup ∧ t.upd.runSlot = s.nvm.boot.slot.toNat ∧ t.hif.beating = true
      ∧ t.inlet.waiting = [] ∧ t.skink.holder = none))
  ∧ (∀ (s : State) (env : BootEnv), s.mgmt = Node.reset → s.nvm.boot.mode ≠ 1 → s.nvm.bootable s.nvm.boot.slot.toNat = true →
    env.imgBadA = false → env.imgBadB = false → testsHalt env.tests = true →
    Ends (.powerGoodRise env) s (fun t => t.mgmt = Node.faultHalt ∧ t.reg Reg.MGMT_FAULT_CAUSE = 1)))
  ∧ (∀ s : State, Ends .ctrlWatchdog s (fun t => Restarted s t Reset.watchdog) ∧ Ends .resetNode s (fun t => Restarted s t Reset.mgmt))
  ∧ ((∀ (s : State) (ticks : Nat) (torn : Option Nat), Ends (.powerGoodFall ⟨ticks, torn⟩) s (fun t =>
    t.mgmt = Node.reset ∧ t.reg Reg.MGMT_RESET_CAUSE = 0 ∧ t.tarn = [] ∧ t.hif.running = [] ∧ t.rtc.onVbk = true
      ∧ (∀ p, p ∈ ["TMO0", "TMO1", "TMO2", "TMO3"] → Output.pin p false ∈ t.out)
      ∧ t.nvm.programming = none
      ∧ (torn = none ∨ s.copyWriting.isSome = true ∨ s.gecko.journalQ = [] → t.nvm.set0 = s.nvm.set0 ∧ t.nvm.set1 = s.nvm.set1)
      ∧ (torn = none ∨ s.copyWriting = none → t.nvm.slotStore = s.nvm.slotStore ∧ t.nvm.boot0 = s.nvm.boot0 ∧ t.nvm.boot1 = s.nvm.boot1)
      ∧ (∀ n, torn = some n → s.copyWriting = some (.bootRec 0) → t.nvm.boot0 = s.nvm.boot0.torn n ∧ t.nvm.boot1 = s.nvm.boot1)
      ∧ (∀ n, torn = some n → s.copyWriting = some (.bootRec 1) → t.nvm.boot1 = s.nvm.boot1.torn n ∧ t.nvm.boot0 = s.nvm.boot0)
      ∧ (∀ n e l, torn = some n → s.copyWriting = none → s.gecko.journalQ = e :: l →
          t.nvm.region s.upd.runSettings = { s.active with journal := s.active.journal.takeWhile JEntry.ok ++ [e.torn n] })
      ∧ (∀ n o old at_, torn = some n → s.gecko.writing = some (.slotStore o old, at_) → s.frcNat - at_ < 60000000 →
          t.nvm.slotStore = Sparse.write 0xFF s.nvm.slotStore (o + n) (old.drop n))))
  ∧ (∀ (s : State) (a b : U16), Ends (.logicInputChange a b) s (fun t =>
    t.reg Reg.HK_LV_A = a.zeroExtend 32 ∧ t.reg Reg.HK_LV_B = b.zeroExtend 32 ∧ RegsBut s t [Reg.HK_LV_A, Reg.HK_LV_B])))

/-- LOCKSTEP_MISMATCH and TCM_UNCORRECTABLE: from SETUP, RUN or REPLAY the node enters FAULT_HALT with its cause in MGMT_FAULT_CAUSE (Table 19-8) and ISN_HWM recorded (R37, R498, R518). START: with its conditions met and the preferred engine in service, the node enters RUN, the preferred engine holds, and both engines begin with regions written afresh (R93, R233, R246, R299). STOP: from RUN the node leaves for SETUP, or for FAULT_HALT where the drain finds a fault; with nothing left to evaluate or release it is in SETUP, no engine holds, and the state regions read as zero (R94). -/
def Obligations.RunAndHalt : Prop :=
  (∀ s : State, s.mgmt = Node.setup ∨ s.mgmt = Node.run ∨ s.mgmt = Node.replay →
    Ends .lockstepMismatch s (fun t => t.mgmt = Node.faultHalt ∧ t.reg Reg.MGMT_FAULT_CAUSE = 2
      ∧ t.pair Reg.MGMT_FAULT_ISN_LO Reg.MGMT_FAULT_ISN_HI = s.inlet.isn ∧ t.rbit Reg.MGMT_EVT 4 = true)
    ∧ Ends .tcmUncorrectable s (fun t => t.mgmt = Node.faultHalt ∧ t.reg Reg.MGMT_FAULT_CAUSE = 4
      ∧ t.pair Reg.MGMT_FAULT_ISN_LO Reg.MGMT_FAULT_ISN_HI = s.inlet.isn ∧ t.rbit Reg.MGMT_EVT 4 = true))
  ∧ (∀ (s : State) (va vb : Bool) (dt : Nat), (s.fresh.pass dt).mgmt = Node.setup → (s.fresh.pass dt).cfgDirty = false →
    (s.fresh.pass dt).startOk = true → ((s.fresh.pass dt).eng (s.fresh.pass dt).skink.preferred).svc = Svc.inService →
    Ends (.startRun va vb dt) s (fun t => t.mgmt = Node.run ∧ t.skink.holder = some (s.fresh.pass dt).skink.preferred
      ∧ t.inlet.isn = 0 ∧ t.inlet.tickNo = 0 ∧ t.aeA.evalIsn = 0 ∧ t.aeB.evalIsn = 0 ∧ t.aeA.pts.live = true ∧ t.aeB.pts.live = true))
  ∧ ((∀ s : State, s.mgmt = Node.run → Ends .stopRun s (fun t => t.mgmt = Node.setup ∨ t.mgmt = Node.faultHalt))
  ∧ (∀ s : State, s.mgmt = Node.run → s.inlet.stream = [] → s.inlet.barriers = [] → s.skink.copy = none → s.spawn.ckptDue = none →
    s.aeA.evq = [] → s.aeB.evq = [] → s.outlet.merge = [] → s.begunUnit = false →
    Ends .stopRun s (fun t => t.mgmt = Node.setup ∧ t.skink.holder = none ∧ t.aeA.pts.live = false ∧ t.aeB.pts.live = false
      ∧ t.inlet.waiting = [] ∧ t.inlet.cmds = [])))

/-- COMMISSION, VERIFY_CFG, ACCEPT_SLOT and SS_BYPASS, each in the state of Table 3-5 that takes it (R81, R82, R90, R92). That COMMISSION and ACCEPT_SLOT always end with the record written, and with VALID or RESET_REQUIRED, is the model's choice: the read-back of R70 is always right (DESIGN CHOICE, log entry 63). MGMT_FMODE, MGMT_INT_REARM and MGMT_INT_EN writes (R86, R520). -/
def Obligations.SlotStoreAndManagement : Prop :=
  ((∀ (s : State) (ticks : Nat), (s.fresh.rtcElapse ticks).mgmt = Node.setup → (s.fresh.rtcElapse ticks).ss ≠ Ss.unreadable →
    (s.fresh.rtcElapse ticks).ss ≠ Ss.bypassed →
    Ends (.commission ticks) s (fun t => t.cfgDirty = false ∧ t.rbit Reg.MGMT_EVT 1 = true
      ∧ t.ss = (if lockRev ((s.fresh.rtcElapse ticks).rfld Reg.MGMT_BEHAV_LOCK 0 8) = (s.fresh.rtcElapse ticks).behav
          then Ss.valid else Ss.resetRequired)
      ∧ t.nvm.slotStore = ((s.fresh.rtcElapse ticks).writeSlot (s.fresh.rtcElapse ticks).newRecord).nvm.slotStore))
  ∧ (∀ s : State, s.mgmt = Node.setup → Ends .verifyCfg s (fun t => t.cfgDirty = false ∧ t.rbit Reg.MGMT_EVT 1 = true
      ∧ RegsBut s t [Reg.MGMT_SS_STATUS, Reg.INLET_CFG_EPOCH, Reg.MGMT_EVT, Reg.MSIX_PBA 0]))
  ∧ (∀ (s : State) (r : List Byte), s.mgmt = Node.setup → s.ss = Ss.mismatch → s.slotRecord = some r →
    Ends .acceptSlot s (fun t => t.ss = Ss.valid ∧ t.rbit Reg.MGMT_EVT 1 = true
      ∧ t.nvm.slotStore = (s.writeSlot (patch r 0xD [BitVec.ofNat 8 (s.rfld Reg.MGMT_SLOT_ID 0 6)])).nvm.slotStore
      ∧ RegsBut s t [Reg.MGMT_SS_STATUS, Reg.MGMT_EVT, Reg.MSIX_PBA 0]))
  ∧ (∀ s : State, s.mgmt = Node.setup → s.ss = Ss.unreadable →
    Ends .ssBypass s (fun t => t.ss = Ss.bypassed ∧ RegsBut s t [Reg.MGMT_SS_STATUS])))
  ∧ ((∀ (s : State) (v : U32), s.mgmt = Node.setup → fld v 0 2 ≠ 3 →
    Ends (.mgmtFmodeWrite v) s (fun t => t.rfld Reg.MGMT_FMODE 0 2 = fld v 0 2 ∧ t.cfgDirty = true))
  ∧ (∀ (s : State) (v : U32), Node.setup ≤ s.mgmt → s.intPending = 0 → Ends (.mgmtIntRearm v) s (fun t => t = s.fresh))
  ∧ (∀ (s : State) (v : U32), Node.setup ≤ s.mgmt → s.intPending ≠ 0 → s.rbit Reg.HIF_INT_CTL 8 = true →
    s.rbit (Reg.MSIX (s.rfld Reg.HIF_INT_CTL 0 5) 3) 0 = false →
    Ends (.mgmtIntRearm v) s (fun t => t.out = [.msix (s.rfld Reg.HIF_INT_CTL 0 5)] ∧ RegsBut s t []))
  ∧ (∀ (s : State) (v : U32), Node.setup ≤ s.mgmt →
    Ends (.mgmtIntEnWrite v) s (fun t => t.reg Reg.MGMT_INT_EN = v &&& 0x1FFFF ∧ RegsBut s t [Reg.MGMT_INT_EN, Reg.MSIX_PBA 0])))

/-! ## The host interface (R34, R51, R96-R138) -/

/-- HIF_KICK and DOORBELL_POLL issue a doorbell read, or note one more behind the read that is outstanding (R105). DOORBELL_COMPLETION and DESCRIPTOR_ARRIVAL: a failed doorbell read is counted and shown; a good one gives every ring its index, by which an active host-to-node ring goes while it is within the ring's size, and past which it stops; an active node-to-host ring goes by an index that lies behind NODE_IDX, which frees the entries before it as credit, and one ahead of it stops the ring with CONSUMER_AHEAD; a descriptor joins those that wait, and a failed fetch stops its ring (R105, R107, R137). -/
def Obligations.DoorbellsAndDescriptors : Prop :=
  ((∀ (s : State) (v : U32), Node.setup ≤ s.mgmt → s.pagesOn = true → s.hif.linkUp = true → s.hif.dbOut = false →
    Ends (.hifKick v) s (fun t => t.hif = { s.hif with dbOut := true } ∧ t.out = [.dbRead]
      ∧ t.reg Reg.HIF_KICK_CNT = satAdd (s.reg Reg.HIF_KICK_CNT) 1 ∧ RegsBut s t [Reg.HIF_KICK_CNT, Reg.HIF_DB_READ_CNT]))
  ∧ (∀ (s : State) (v : U32), Node.setup ≤ s.mgmt → s.pagesOn = true → s.hif.dbOut = true →
    Ends (.hifKick v) s (fun t => t.hif = { s.hif with kick := true } ∧ t.out = []
      ∧ t.reg Reg.HIF_KICK_CNT = satAdd (s.reg Reg.HIF_KICK_CNT) 1 ∧ RegsBut s t [Reg.HIF_KICK_CNT]))
  ∧ (∀ s : State, s.pagesOn = true → s.hif.linkUp = true → s.hif.dbOut = false →
    Ends .doorbellPoll s (fun t => t.hif = { s.hif with dbOut := true } ∧ t.out = [.dbRead]
      ∧ t.reg Reg.HIF_DB_READ_CNT = satAdd (s.reg Reg.HIF_DB_READ_CNT) 1 ∧ RegsBut s t [Reg.HIF_DB_READ_CNT])))
  ∧ ((∀ (s : State) (rsp : DoorbellRsp), s.hif.dbOut = true → s.hif.kick = false → rsp.ok = false →
    Ends (.doorbellCompletion rsp) s (fun t => t.hif = { s.hif with dbOut := false }
      ∧ t.reg Reg.HIF_DB_ERR_CNT = satAdd (s.reg Reg.HIF_DB_ERR_CNT) 1 ∧ t.rbit Reg.HIF_EVT 0 = true
      ∧ RegsBut s t [Reg.HIF_DB_ERR_CNT, Reg.HIF_EVT, Reg.HIF_DB_LAT_MAX, Reg.MSIX_PBA 0]))
  ∧ (∀ (s : State) (rsp : DoorbellRsp), s.hif.dbOut = true → rsp.ok = true → s.pagesOn = true →
    Ends (.doorbellCompletion rsp) s (fun t => ∀ n, n < 31 → t.reg (Reg.RING_HOST_IDX n) = rsp.idx.getD n 0
      ∧ (isHostToNode n = true → s.ringActive n = true → (rsp.idx.getD n 0 - s.reg (Reg.RING_NODE_IDX n)).toNat ≤ s.ringSize n →
          t.hostIdx n = rsp.idx.getD n 0)
      ∧ (isHostToNode n = true → s.ringActive n = true → s.ringSize n < (rsp.idx.getD n 0 - s.reg (Reg.RING_NODE_IDX n)).toNat →
          t.rbit (Reg.RING_STATUS n) 2 = true ∧ t.rfld (Reg.RING_STATUS n) 4 3 = 1 ∧ t.hostIdx n = s.hostIdx n)))
  ∧ (∀ (s : State) (rsp : DoorbellRsp), s.hif.dbOut = true → rsp.ok = true → s.pagesOn = true → s.outlet.merge = [] →
    Ends (.doorbellCompletion rsp) s (fun t => ∀ n, n < 31 → isHostToNode n = false → s.ringActive n = true →
      t.reg (Reg.RING_NODE_IDX n) = s.reg (Reg.RING_NODE_IDX n)
      ∧ (1 ≤ (rsp.idx.getD n 0 - s.reg (Reg.RING_NODE_IDX n)).toNat → (rsp.idx.getD n 0 - s.reg (Reg.RING_NODE_IDX n)).toNat ≤ 2 ^ 31 →
          t.rbit (Reg.RING_STATUS n) 2 = true ∧ t.rfld (Reg.RING_STATUS n) 4 3 = 2 ∧ t.hostIdx n = s.hostIdx n
            ∧ t.ringUsed n = s.ringUsed n ∧ t.ringCredit n = 0)
      ∧ (rsp.idx.getD n 0 = s.reg (Reg.RING_NODE_IDX n) ∨ 2 ^ 31 < (rsp.idx.getD n 0 - s.reg (Reg.RING_NODE_IDX n)).toNat →
          t.hostIdx n = rsp.idx.getD n 0 ∧ t.rbit (Reg.RING_STATUS n) 2 = false
            ∧ t.ringUsed n = (s.reg (Reg.RING_NODE_IDX n) - rsp.idx.getD n 0).toNat
            ∧ (s.mgmt ≠ Node.activating → s.hif.linkUp = true →
                t.ringCredit n = s.ringSize n - (s.reg (Reg.RING_NODE_IDX n) - rsp.idx.getD n 0).toNat))))
  ∧ (∀ (s : State) (n : Nat) (l : List Byte), n < 31 → isHostToNode n = true → Sparse.get 0 s.hif.fetching n ≠ 0 →
    Ends (.descriptorArrival n (some l)) s (fun t => t.hif.fetched = s.hif.fetched ++ [(n, fit (entrySize n) l)] ∧ RegsBut s t []))
  ∧ (∀ (s : State) (n : Nat), n < 31 → isHostToNode n = true → Sparse.get 0 s.hif.fetching n ≠ 0 → s.rbit (Reg.RING_STATUS n) 2 = false →
    Ends (.descriptorArrival n none) s (fun t => t.hif.fetched = s.hif.fetched ∧ t.rbit (Reg.RING_STATUS n) 2 = true
      ∧ t.rfld (Reg.RING_STATUS n) 4 3 = 3 ∧ t.rbit Reg.HIF_EVT 1 = true
      ∧ RegsBut s t [Reg.RING_STATUS n, Reg.RING_ERR_CNT n, Reg.HIF_EVT, Reg.MSIX_PBA 0])))

/-- PAGES_EN_SET, PAGES_EN_CLEAR, RING_ENABLE and RING_DISABLE (R108, R127, R128, R138). STATUS_PAGE_UPDATE, RING_MODERATION_TIMEOUT and MSIX_VECTOR_UNMASK (R109, R110, R125, R126). -/
def Obligations.PagesRingsAndVectors : Prop :=
  ((∀ s : State, Node.setup ≤ s.mgmt → s.pagesOn = false → s.dbPage ≠ s.pair Reg.HIF_STATPAGE_LO Reg.HIF_STATPAGE_HI →
    Ends .pagesEnSet s (fun t => t.pagesOn = true ∧ t.rbit Reg.HIF_STATUS 0 = true ∧ t.hif = { s.hif with heartbeat := 0 }
      ∧ t.out = (if s.hif.linkUp then [.hostWrite s.statPage s.nodeIdx] else [])
      ∧ RegsBut s t [Reg.HIF_CTL, Reg.HIF_STATUS]))
  ∧ (∀ s : State, Node.setup ≤ s.mgmt → Ends .pagesEnClear s (fun t => t.pagesOn = false ∧ t.rbit Reg.HIF_STATUS 0 = false
      ∧ t.hif = s.hif ∧ RegsBut s t [Reg.HIF_CTL, Reg.HIF_STATUS]))
  ∧ (∀ (s : State) (n : Nat) (v : U32), n < 31 → Node.setup ≤ s.mgmt → s.pagesOn = true → s.rbit (Reg.RING_CTL n) 0 = false →
    6 ≤ s.rfld (Reg.RING_SIZE n) 0 5 → s.rfld (Reg.RING_SIZE n) 0 5 ≤ 16 →
    Ends (.ringEnable n v) s (fun t => t.rbit (Reg.RING_CTL n) 0 = true ∧ t.rbit (Reg.RING_STATUS n) 0 = true
      ∧ t.reg (Reg.RING_NODE_IDX n) = s.reg (Reg.RING_START n) ∧ t.hostIdx n = s.reg (Reg.RING_START n)
      ∧ RegsBut s t [Reg.RING_CTL n, Reg.RING_STATUS n, Reg.RING_NODE_IDX n]))
  ∧ (∀ (s : State) (n : Nat) (v : U32), n < 31 → Node.setup ≤ s.mgmt → s.rbit (Reg.RING_CTL n) 0 = true →
    Ends (.ringDisable n v) s (fun t => t.rbit (Reg.RING_CTL n) 0 = false ∧ t.reg (Reg.RING_STATUS n) = s.reg (Reg.RING_STATUS n) &&& 2
      ∧ t.fetchedOf n = [] ∧ RegsBut s t [Reg.RING_CTL n, Reg.RING_STATUS n])))
  ∧ ((∀ s : State, s.hif.beating = true → s.pagesOn = true → s.hif.linkUp = true →
    Ends .statusPageUpdate s (fun t => t.hif = { s.hif with heartbeat := s.hif.heartbeat + 1 }
      ∧ t.out = [.statusPage t.pageFields] ∧ RegsBut s t []))
  ∧ (∀ (s : State) (n : Nat), n < 31 → s.rbit (Reg.RING_CTL n) 1 = true → Sparse.get 0 s.hif.unsig n ≠ 0 →
    Ends (.ringModerationTimeout n) s (fun t => RegsBut s t [Reg.MSIX_PBA 0]
      ∧ (if s.rbit (Reg.MSIX (s.rfld (Reg.RING_CTL n) 8 5) 3) 0 then t.rbit (Reg.MSIX_PBA 0) (s.rfld (Reg.RING_CTL n) 8 5) = true ∧ t.out = []
         else t.out = [.msix (s.rfld (Reg.RING_CTL n) 8 5)])))
  ∧ (∀ (s : State) (vec : Nat), vec < 32 → Node.setup ≤ s.mgmt →
    Ends (.msixVectorUnmask vec) s (fun t => t.rbit (Reg.MSIX vec 3) 0 = false ∧ t.rbit (Reg.MSIX_PBA 0) vec = false
      ∧ t.out = (if s.rbit (Reg.MSIX_PBA 0) vec then [.msix vec] else []) ∧ RegsBut s t [Reg.MSIX vec 3, Reg.MSIX_PBA 0])))

/-- FLR, PERST_N_ASSERT, LINK_DOWN, D3HOT_ENTRY and LINK_UP: only HIF is reset, and counted; a trained link shows its speed and width (R34, R51, R99, R129). -/
def Obligations.LinkAndFunctionResets : Prop :=
  (∀ s : State, Ends .flr s (fun t => HifReset s t ∧ t.reg Reg.HIF_FLR_CNT = satAdd (s.reg Reg.HIF_FLR_CNT) 1
      ∧ t.reg Reg.HIF_LINKDOWN_CNT = s.reg Reg.HIF_LINKDOWN_CNT ∧ t.hif.linkUp = s.hif.linkUp))
  ∧ (∀ s : State, Ends .perstNAssert s (fun t => HifReset s t ∧ t.hif.linkUp = false ∧ t.reg Reg.HIF_FLR_CNT = s.reg Reg.HIF_FLR_CNT
      ∧ t.reg Reg.HIF_LINKDOWN_CNT = satAdd (s.reg Reg.HIF_LINKDOWN_CNT) 1))
  ∧ (∀ s : State, s.hif.linkUp = true →
      Ends .linkDown s (fun t => HifReset s t ∧ t.hif.linkUp = false ∧ t.reg Reg.HIF_LINKDOWN_CNT = satAdd (s.reg Reg.HIF_LINKDOWN_CNT) 1)
      ∧ Ends .d3hotEntry s (fun t => HifReset s t ∧ t.hif.linkUp = false ∧ t.hif.d3hot = true ∧ t.reg Reg.HIF_LINKDOWN_CNT = satAdd (s.reg Reg.HIF_LINKDOWN_CNT) 1))
  ∧ (∀ (s : State) (speed width : Nat), 1 ≤ speed → speed ≤ 3 → 1 ≤ width → width ≤ 2 → s.hif.linkUp = false →
    Ends (.linkUp speed width) s (fun t => t.hif = { s.hif with linkUp := true, d3hot := false } ∧ t.rfld Reg.HIF_STATUS 1 3 = speed
      ∧ t.rfld Reg.HIF_STATUS 4 4 = width ∧ RegsBut s t [Reg.HIF_STATUS]))

/-- LEG_EVT_W0_READ, LEG_EVT_W3_READ and LEG_FLUSH: the forerunner's event FIFO (R87, R132, R134). -/
def Obligations.LegacyEventFifo : Prop :=
  (∀ s : State, s.fmodeOn = true → Ends .legEvtW0Read s (fun t =>
    t.outlet = { s.outlet with legLatch := s.outlet.legFifo.headD [0, 0, 0, 0] }
      ∧ t.hostRead = (s.outlet.legFifo.headD [0, 0, 0, 0]).getD 0 0 ∧ RegsBut s t []))
  ∧ (∀ s : State, s.fmodeOn = true → Ends .legEvtW3Read s (fun t =>
    t.outlet = { s.outlet with legFifo := s.outlet.legFifo.drop 1 } ∧ t.hostRead = s.outlet.legLatch.getD 3 0 ∧ RegsBut s t []))
  ∧ (∀ s : State, s.fmodeOn = true → Node.setup ≤ s.mgmt → Ends .legFlush s (fun t =>
    t.outlet = { s.outlet with legFifo := [] } ∧ RegsBut s t []))
  ∧ (∀ (s : State) (v : Event), s.fmodeOn = true → s.mgmt ≠ Node.replay → v.isPoint = true → v.localIndex < 1024 →
    (s.outlet.legFifo.length < 256 → (s.legacyPut v).outlet = { s.outlet with legFifo := s.outlet.legFifo ++ [legEntry v] })
    ∧ (256 ≤ s.outlet.legFifo.length → (s.legacyPut v).outlet = s.outlet ∧ (s.legacyPut v).hif = s.hif
      ∧ (s.legacyPut v).rbit Reg.LEG_EVT_STAT 0 = true
      ∧ (s.legacyPut v).reg Reg.LEG_EVT_OVF_CNT = satAdd (s.reg Reg.LEG_EVT_OVF_CNT) 1))

/-! ## Registers and the Tarn window (R13, R98, R510-R516) -/

/-- REGISTER_WRITE by access type: an RW or RWS register takes the writable bits of a value in range; a W1C register clears the bits written as 1; the WO registers take their words in SETUP; a CMD register does what the command of its code does; a pair holds the word of _LO until that of _HI commits both (R12, R14, R512). Ignored, with its reason: an RWS register outside SETUP (RWS_STATE), a value out of range (RANGE), a condition not met (CONDITION), a code that is none (CMD_STATE), a read-only register (READ_ONLY), an offset that decodes nothing (UNDECODED), and before SETUP whatever is written (R76, R515, R516, Table 19-2). A misaligned write is counted as a bad access, and RESET in MGMT_CMD acts in every node state (R36, R511). -/
def Obligations.RegisterWrites : Prop :=
  (∀ (s : State) (off : Off) (v : U32) (r : RegRow), off < 0x100000 → off % 4 = 0 → Node.setup ≤ s.mgmt → decoded off = some r →
    (r.acc = .rw ∨ r.acc = .rws) → (ownWrite off v).isNone = true → isHoldLo off = false → isHoldLo (off - 4) = false →
    s.whyIgnored r off v = 0 →
    Ends (.registerWrite off v) s (fun t => t.reg off = storedValue off (v &&& r.mask) ∧ (r.acc = .rws → t.cfgDirty = true)))
  ∧ (∀ (s : State) (off : Off) (v : U32) (r : RegRow), off < 0x100000 → off % 4 = 0 → decoded off = some r → r.acc = .ro →
    Ends (.registerWrite off v) s (fun t => Ignored s t off Why.readOnly))
  ∧ (∀ (s : State) (off : Off) (v : U32), off < 0x100000 → off % 4 = 0 → decoded off = none →
    Ends (.registerWrite off v) s (fun t => Ignored s t off Why.undecoded))
  ∧ (∀ (s : State) (off : Off) (v : U32), off < 0x100000 → off % 4 ≠ 0 →
    Ends (.registerWrite off v) s (fun t => t.reg Reg.MGMT_BAD_ACCESS_CNT = satAdd (s.reg Reg.MGMT_BAD_ACCESS_CNT) 1
      ∧ RegsBut s t [Reg.MGMT_BAD_ACCESS_CNT, Reg.MGMT_EVT, Reg.MSIX_PBA 0]))
  ∧ (∀ s : State, Ends (.registerWrite Reg.MGMT_CMD 3) s (fun t => Restarted s t Reset.mgmt))
  ∧ ((∀ (s : State) (off : Off) (v : U32) (r : RegRow), PlainReg s off v r → r.acc = .w1c → isHoldLo (off - 4) = false →
      s.writeAllowed off v = true →
      Ends (.registerWrite off v) s (fun t => t.reg off = s.reg off &&& ~~~v ∧ RegsBut s t [off]))
    ∧ (∀ (s : State) (v : U32) (k : Nat), k < 8 → s.mgmt = Node.setup →
      Ends (.registerWrite (Reg.UPD_KEY k) v) s (fun t => assocGet 0 t.upd.keyWords k = v
        ∧ (∀ j, j ≠ k → assocGet 0 t.upd.keyWords j = assocGet 0 s.upd.keyWords j) ∧ RegsBut s t []))
    ∧ (∀ (s : State) (v : U32) (k : Nat), k < 8 → Node.setup < s.mgmt →
      Ends (.registerWrite (Reg.UPD_KEY k) v) s (fun t => Ignored s t (Reg.UPD_KEY k) Why.condition ∧ t.upd = s.upd))
    ∧ (∀ (s : State) (off : Off) (v : U32), off < 0x100000 → off % 4 = 0 → Node.setup ≤ s.mgmt → isHoldLo off = true →
      Ends (.registerWrite off v) s (fun t => assocGet 0 t.hold off = v ∧ RegsBut s t []))
    ∧ (∀ (s : State) (off : Off) (v : U32) (r : RegRow), PlainReg s off v r → isHoldLo (off - 4) = true → s.whyIgnored r off v = 0 →
      Ends (.registerWrite off v) s (fun t => t.reg off = storedValue off (v &&& r.mask)
        ∧ t.reg (off - 4) = assocGet (s.reg (off - 4)) s.hold (off - 4) &&& regMask (off - 4)
        ∧ ∀ w, assocGet w t.hold (off - 4) = w)))
  ∧ ((∀ (s : State) (off : Off) (v : U32) (r : RegRow), PlainReg s off v r → r.acc = .rws → s.mgmt ≠ Node.setup →
      Ends (.registerWrite off v) s (fun t => Ignored s t off Why.rwsState))
    ∧ (∀ (s : State) (off : Off) (v : U32) (r : RegRow), PlainReg s off v r → r.acc = .rw ∨ (r.acc = .rws ∧ s.mgmt = Node.setup) →
      r.inRange v = false ∨ s.valueOk off v = false →
      Ends (.registerWrite off v) s (fun t => Ignored s t off Why.range))
    ∧ (∀ (s : State) (off : Off) (v : U32) (r : RegRow), PlainReg s off v r → r.acc = .rw ∨ (r.acc = .rws ∧ s.mgmt = Node.setup) →
      r.inRange v = true → s.valueOk off v = true → s.writeAllowed off v = false →
      Ends (.registerWrite off v) s (fun t => Ignored s t off Why.condition))
    ∧ (∀ (s : State) (n : Nat) (v : U32), n < 31 → Node.setup ≤ s.mgmt → s.rbit (Reg.RING_CTL n) 0 = true →
      Ends (.registerWrite (Reg.RING_START n) v) s (fun t => Ignored s t (Reg.RING_START n) Why.condition)
      ∧ Ends (.registerWrite (Reg.RING_SIZE n) v) s (fun t => Ignored s t (Reg.RING_SIZE n) Why.condition)
      ∧ Ends (.registerWrite (Reg.RING_BASE_HI n) v) s (fun t => Ignored s t (Reg.RING_BASE_HI n) Why.condition))
    ∧ (∀ (s : State) (v : U32), Node.setup ≤ s.mgmt → s.pagesOn = true →
      Ends (.registerWrite Reg.HIF_DBPAGE_HI v) s (fun t => Ignored s t Reg.HIF_DBPAGE_HI Why.condition)
      ∧ Ends (.registerWrite Reg.HIF_STATPAGE_HI v) s (fun t => Ignored s t Reg.HIF_STATPAGE_HI Why.condition))
    ∧ (∀ (s : State) (v : U32), Node.setup ≤ s.mgmt → v.toNat ∉ [1, 2, 3, 0x10, 0x11, 0x12, 0x13] →
      Ends (.registerWrite Reg.MGMT_CMD v) s (fun t => Ignored s t Reg.MGMT_CMD Why.cmdState))
    ∧ (∀ (s : State) (off : Off) (v : U32) (r : RegRow), off < 0x100000 → off % 4 = 0 → s.mgmt < Node.setup → decoded off = some r →
      r.acc ≠ .ro → ¬(off = Reg.MGMT_CMD ∧ v = 3) →
      Ends (.registerWrite off v) s (fun t => Ignored s t off
        (if r.acc = .rws then Why.rwsState else if r.acc = .cmd then Why.cmdState else Why.condition))))
  ∧ (∀ (s : State) (v : U32), Node.setup ≤ s.mgmt →
    exec (.registerWrite Reg.MGMT_CMD 2) s = exec .stopRun s
    ∧ exec (.registerWrite Reg.MGMT_CMD 0x11) s = exec .verifyCfg s
    ∧ exec (.registerWrite Reg.MGMT_CMD 0x12) s = exec .acceptSlot s
    ∧ exec (.registerWrite Reg.MGMT_CMD 0x13) s = exec .ssBypass s
    ∧ exec (.registerWrite Reg.MGMT_FMODE v) s = exec (.mgmtFmodeWrite v) s
    ∧ exec (.registerWrite Reg.MGMT_INT_REARM v) s = exec (.mgmtIntRearm v) s
    ∧ exec (.registerWrite Reg.MGMT_INT_EN v) s = exec (.mgmtIntEnWrite v) s
    ∧ exec (.registerWrite Reg.HIF_KICK v) s = exec (.hifKick v) s
    ∧ exec (.registerWrite Reg.HIF_CTL 1) s = exec .pagesEnSet s
    ∧ exec (.registerWrite Reg.HIF_CTL 0) s = exec .pagesEnClear s
    ∧ exec (.registerWrite Reg.LEG_EVT_CTL 1) s = exec .legFlush s
    ∧ exec (.registerWrite Reg.XP_CHECK v) s = exec (.xpCheck v) s
    ∧ exec (.registerWrite Reg.LEG_PT_CMD 1) s = exec .legPtWrite s
    ∧ exec (.registerWrite Reg.LEG_PT_CMD 2) s = exec .legPtRead s
    ∧ exec (.registerWrite (Reg.AE_INJECT 0) v) s = exec (.aeInject .A v) s
    ∧ exec (.registerWrite (Reg.AE_INJECT 1) v) s = exec (.aeInject .B v) s
    ∧ exec (.registerWrite Reg.RTC_CMD 2) s = exec .swoClear s
    ∧ exec (.registerWrite Reg.RTC_DST 1) s = exec .dstForward s
    ∧ exec (.registerWrite Reg.RTC_DST 2) s = exec .dstBack s
    ∧ exec (.registerWrite Reg.LEG_RTC_CTL 1) s = exec .legRtcSet s
    ∧ exec (.registerWrite Reg.UPD_KEY_CMD 1) s = exec .keyProgram s
    ∧ ∀ n, n < 31 → exec (.registerWrite (Reg.RING_CTL n) (setBit v 0 true)) s = exec (.ringEnable n v) s
      ∧ exec (.registerWrite (Reg.RING_CTL n) (setBit v 0 false)) s = exec (.ringDisable n v) s)

/-- BAD_ACCESS and WIDE_PAIR_LO_READ: a bad request is counted and shown, and a read among them aborted; a read with partial byte enables has the side effects of the whole word's and returns the enabled bytes; a read of _LO latches the high word, that of WS_TIME_LO the FRC of the same instant too, and a read of _HI returns what is latched (R98, R435, R511, R512, R513). TARN_WINDOW_WRITE: in SETUP the bytes of the configuration regions take the data and nothing else of Tarn moves; in another state nothing of it moves, and the write is ignored with WINDOW (R24, R90, R492, R515). -/
def Obligations.PairsAndTheTarnWindow : Prop :=
  ((∀ (s : State) (k : BadAccess), (∀ o be, k ≠ .partialRead o be) → Ends (.badAccess k) s (fun t =>
    t.reg Reg.MGMT_BAD_ACCESS_CNT = satAdd (s.reg Reg.MGMT_BAD_ACCESS_CNT) 1 ∧ t.rbit Reg.MGMT_EVT 3 = true
      ∧ ((k = .wideRead ∨ k = .tarnRead) → Output.abort ∈ t.out)
      ∧ RegsBut s t [Reg.MGMT_BAD_ACCESS_CNT, Reg.MGMT_EVT, Reg.MSIX_PBA 0]))
  ∧ (∀ (s : State) (off : Off) (dt : Nat), off < 0x100000 → off % 4 = 0 → isPairLo off = true → off ≠ Reg.WS_FRC_LO →
    off ≠ Reg.WS_TIME_LO →
    Ends (.widePairLoRead off dt) s (fun t => t.hostRead = (s.fresh.pass dt).readReg off
      ∧ assocGet 0 t.latch off = (s.fresh.pass dt).readReg (off + 4) ∧ RegsBut (s.fresh.pass dt) t []))
  ∧ (∀ (s : State) (o : Off) (be : BitVec 4), ∃ u, s.fresh.readWord (o / 4 * 4) = u ∧ Ends (.badAccess (.partialRead o be)) s (fun t =>
    t = { u with hostRead := t.hostRead } ∧ ∀ i, i < 32 → bitAt t.hostRead i = (bitAt u.hostRead i && bitAt be (i / 8))))
  ∧ (∀ (s : State) (dt : Nat), Ends (.widePairLoRead Reg.WS_FRC_LO dt) s (fun t =>
    t.hostRead = lo32 ((s.fresh.pass dt).ws.frcSnap.getD (s.fresh.pass dt).ws.frc)
      ∧ assocGet 0 t.latch Reg.WS_FRC_LO = hi32 ((s.fresh.pass dt).ws.frcSnap.getD (s.fresh.pass dt).ws.frc)
      ∧ t.ws.frcSnap = none ∧ t.ws.frc = (s.fresh.pass dt).ws.frc ∧ RegsBut (s.fresh.pass dt) t []))
  ∧ (∀ (s : State) (dt : Nat), Ends (.widePairLoRead Reg.WS_TIME_LO dt) s (fun t =>
    t.hostRead = (s.fresh.pass dt).readReg Reg.WS_TIME_LO
      ∧ assocGet 0 t.latch Reg.WS_TIME_LO = (s.fresh.pass dt).readReg (Reg.WS_TIME_LO + 4)
      ∧ assocGet 0 t.latch Reg.WS_FRC_LO = hi32 (s.fresh.pass dt).ws.frc ∧ t.ws.frcSnap = some (s.fresh.pass dt).ws.frc
      ∧ RegsBut (s.fresh.pass dt) t []))
  ∧ (∀ (s : State) (off : Off) (dt : Nat), off < 0x100000 → off % 4 = 0 → isPairLo off = false → isPairLo (off - 4) = true →
    Ends (.widePairLoRead off dt) s (fun t => t.hostRead = assocGet ((s.fresh.pass dt).readReg off) (s.fresh.pass dt).latch (off - 4)
      ∧ t.latch = (s.fresh.pass dt).latch ∧ RegsBut (s.fresh.pass dt) t [])))
  ∧ ((∀ (s : State) (off : Off) (data : List Byte), off + data.length ≤ 0x2000000 → data ≠ [] → s.mgmt = Node.setup →
    (∀ k, k < data.length → windowWrites (off + k) = true) →
    Ends (.tarnWindowWrite off data) s (fun t => (∀ k, k < data.length → Sparse.get 0 t.tarn (off + k) = data.getD k 0)
      ∧ (∀ a, a < off ∨ off + data.length ≤ a → Sparse.get 0 t.tarn a = Sparse.get 0 s.tarn a)
      ∧ t.cfgDirty = true ∧ RegsBut s t [Reg.MGMT_SS_STATUS]))
  ∧ (∀ (s : State) (off : Off) (data : List Byte), off + data.length ≤ 0x2000000 → s.mgmt ≠ Node.setup →
    Ends (.tarnWindowWrite off data) s (fun t => t.tarn = s.tarn ∧ t.rbit Reg.MGMT_EVT 2 = true
      ∧ t.reg Reg.MGMT_IGNORED_LAST = packU32 [(off % 2 ^ 25, 0), (Why.window, 25), (1, 31)]
      ∧ RegsBut s t [Reg.MGMT_IGNORED_LAST, Reg.MGMT_EVT, Reg.MGMT_IGNORED_WR_CNT, Reg.MSIX_PBA 0])))

/-- A counter saturates at all-ones and stays there; a write of zero clears it, and any other write is ignored and counted with RANGE (R13). -/
def Obligations.CountersSaturate : Prop :=
  (∀ (s : State) (o : Off) (n : Nat), s.reg o = BitVec.allOnes 32 → (s.bumpBy o n).reg o = BitVec.allOnes 32)
  ∧ (∀ (s : State) (o : Off) (n : Nat), (s.reg o).toNat + n < 2 ^ 32 → ((s.bumpBy o n).reg o).toNat = (s.reg o).toNat + n)
  ∧ (∀ (s : State) (o : Off) (n : Nat), 2 ^ 32 ≤ (s.reg o).toNat + n → (s.bumpBy o n).reg o = BitVec.allOnes 32)
  ∧ (∀ (s : State) (off : Off) (v : U32) (r : RegRow), off < 0x100000 → off % 4 = 0 → Node.setup ≤ s.mgmt → decoded off = some r →
    r.acc = .cnt → (ownWrite off v).isNone = true → isHoldLo off = false → isHoldLo (off - 4) = false → s.writeAllowed off v = true →
    (v = 0 → Ends (.registerWrite off v) s (fun t => t.reg off = 0 ∧ RegsBut s t [off]))
    ∧ (v ≠ 0 → Ends (.registerWrite off v) s (fun t => t.reg Reg.MGMT_IGNORED_LAST = packU32 [(off, 0), (Why.range, 25)]
      ∧ t.rbit Reg.MGMT_EVT 2 = true
      ∧ (0x1000 ≤ off → off < 0x1900 → t.reg Reg.HIF_IGNORED_WR_CNT = satAdd (s.reg Reg.HIF_IGNORED_WR_CNT) 1)
      ∧ (off < 0x1000 ∨ 0x1900 ≤ off → t.reg Reg.MGMT_IGNORED_WR_CNT = satAdd (s.reg Reg.MGMT_IGNORED_WR_CNT) 1)
      ∧ RegsBut s t [Reg.HIF_IGNORED_WR_CNT, Reg.MGMT_IGNORED_WR_CNT, Reg.MGMT_IGNORED_LAST, Reg.MGMT_EVT, Reg.MSIX_PBA 0])))

/-! ## Command intake (R115-R124, R505) -/

/-- NOP, UNKNOWN_OPCODE and COMPLETION_WRITE (R122, R123). -/
def Obligations.CompletionsOfCommands : Prop :=
  (∀ (s : State) (d : Desc), s.Heads 1 d → Ends .nop s (fun t => Answered s t d Status.ok 0
    ∧ RegsBut s t [Reg.RING_NODE_IDX 0, Reg.RING_ENTRY_CNT 0, Reg.MSIX_PBA 0]))
  ∧ (∀ (s : State) (d : Desc), s.cmdHead (fun op => (opInfo op).isNone) = some d →
    Ends .unknownOpcode s (fun t => Answered s t d Status.badOpcode 0
      ∧ RegsBut s t [Reg.RING_NODE_IDX 0, Reg.RING_ENTRY_CNT 0, Reg.MSIX_PBA 0]))
  ∧ (∀ (s : State) (c : Compl) (l : List Compl), 0 < s.ringCredit 1 → s.hif.unwritten = 0 → s.hif.ready = c :: l →
    Ends .completionWrite s (fun t => t.hif.ready = l ∧ t.hif.kept = s.hif.kept ++ [c]
      ∧ t.reg (Reg.RING_NODE_IDX 1) = s.reg (Reg.RING_NODE_IDX 1) + 1
      ∧ Output.ringEntry 1 (s.reg (Reg.RING_NODE_IDX 1)) (s.ringSlot 1 (s.reg (Reg.RING_NODE_IDX 1))) c.bytes ∈ t.out
      ∧ RegsBut s t [Reg.RING_NODE_IDX 1, Reg.RING_ENTRY_CNT 1, Reg.MSIX_PBA 0]))

/-- The command-rate allowance: a millisecond makes it the smaller of its value plus the quota and the quota, and while it is not above 0 no CFG or REC command is taken (R505); that it holds them in every node state, before their state is judged, is the model's reading (DEDUCED, log entry 48). -/
def Obligations.AllowanceHoldsCommands : Prop :=
  (∀ s : State, Ends .commandRateAllowance s (fun t =>
    t.hif = { s.hif with allowance := min (s.hif.allowance + s.hif.cmdQuota) s.hif.cmdQuota } ∧ RegsBut s t []))
  ∧ (∀ (s : State) (img : Image), s.hif.allowance ≤ 0 →
    ∀ i, i ∈ [Instr.pointWrite img, .chandefWrite img, .groupWrite img, .fanoutWrite img, .lintabWrite img, .canfiltWrite img,
      .cansigWrite img, .pointRead .take, .ackPoint .take, .ackGroup .take, .shelve .take, .unshelve .take, .forcePoint .take,
      .callManual .take, .callSilence .take, .deadmanReset .take] → exec i s = .next s.fresh)

/-- The CFG commands: judged as they are taken, a good one waits for Inlet with its records, a bad one completes at once with its status and changes nothing of Tarn (R119, R234, R157, R187, R212, R263, R396, R403). Which images each takes, in the order of its checks, and which status and report word it answers: a definition by Table 5-6, a group by Table 8-6, a fan-out list by R211 and R212, a table by Table 6-7, filter elements by Table 13-12 and signals by Table 13-16. The REC commands: their arguments become the BODY of one CMD record, whatever the arguments are, and a command outside its node states answers STATE (R119, R121, Table 9-5). -/
def Obligations.CommandsTaken : Prop :=
  (∀ (s : State) (d : Desc) (img : Image), s.cfgHeld = false →
    ∀ x : Nat × (Desc → State → Check) × Instr,
      x ∈ [(0x10, checkPoint img, .pointWrite img), (0x12, checkChandef img, .chandefWrite img),
        (0x13, checkGroup img, .groupWrite img), (0x14, checkFanout img, .fanoutWrite img),
        (0x15, checkLintab img, .lintabWrite img), (0x16, checkCanfilt img, .canfiltWrite img),
        (0x17, checkCansig img, .cansigWrite img)] → s.Heads x.1 d →
      (∀ u, x.2.1 d (s.fresh.takeHead 0) = .inr u → Ends x.2.2 s (fun t => Taken s t d { u with cfg := true }))
      ∧ (∀ st v, x.2.1 d (s.fresh.takeHead 0) = .inl (st, v) → Ends x.2.2 s (fun t => Answered s t d st 0 ∧ t.tarn = s.tarn
          ∧ t.inlet = s.inlet)))
  ∧ (∀ (s : State) (d : Desc), s.cfgHeld = false → ∀ v, v = s.fresh.takeHead 0 →
    (s.Heads 0x12 d →
      (∀ img : Image, d.image 0x10 64 img = none ∨ d.resv 9 7 = false ∨ d.resv 0x18 40 = false →
        Ends (.chandefWrite img) s (fun t => Answered s t d Status.badArg 0 ∧ t.reg Reg.XP_CHK_LAST = chReportArgs (d.arg 8 1)))
      ∧ ∀ l, l.length = 64 → d.aligned 0x10 = true → d.resv 9 7 = true → d.resv 0x18 40 = true →
        ∀ u, u = ({ opcode := 0x12, target := d.arg 8 1, bodies := [l], image := l } : CmdUnit) →
        ∀ w, w = (v.ahead.applyScan u).applyUnit u →
        Ends (.chandefWrite (some l)) s (fun t =>
          if crcOk l 64 = false then Answered s t d Status.crc 0
          else if w.chRule (d.arg 8 1) ≠ 0 then Answered s t d Status.badArg 0
            ∧ t.reg Reg.XP_CHK_LAST = packU32 [(d.arg 8 1, 0), (w.chRule (d.arg 8 1), 8), (w.chOther (d.arg 8 1) (w.chRule (d.arg 8 1)), 16)]
          else if (v.moving (d.arg 8 1) || v.movesAhead (d.arg 8 1)) = true then Answered s t d Status.busy 0
          else Taken s t d { u with cfg := true }))
    ∧ (s.Heads 0x13 d → ∀ l, l.length = 0xB0 → d.aligned 0x10 = true → d.resv 9 7 = true → d.resv 0x18 40 = true →
        Ends (.groupWrite (some l)) s (fun t =>
          if crcOk l 0xB0 = false then Answered s t d Status.crc 0
          else if (GCfg.ofBytes l).rulesOk = false then Answered s t d Status.badArg 0
          else if v.unadmitted [0x13] = true then Answered s t d Status.busy 0
          else Taken s t d { target := d.arg 8 1, bodies := bodiesOf l, image := l, cfg := true }))
    ∧ (s.Heads 0x14 d → ∀ l, l.length = 4 * d.arg 0x1C 2 → 0 < d.arg 0x1C 2 → d.arg 0x1C 2 ≤ 4096 → d.aligned 0x10 = true →
        d.resv 9 3 = true → d.resv 0x1E 34 = true → 1 ≤ d.arg 8 1 → d.arg 8 1 ≤ 4 →
        srcRange (d.arg 8 1) (d.arg 0xC 4) = true → d.arg 0x18 4 + d.arg 0x1C 2 ≤ 195584 →
        ∀ head, head = (headOffset (d.arg 8 1) (d.arg 0xC 4) - Tarn.FANOUT) / 8 → ∀ es, es = (chunks 4 l).map leNat →
        Ends (.fanoutWrite (some l)) s (fun t =>
          if ascending es = false ∨ (∃ p, p ∈ es ∧ 81919 < p) ∨ v.ahead.fanOverlap head (d.arg 0x18 4) (d.arg 0x1C 2) = true then
            Answered s t d Status.badArg 0
          else if v.unadmitted [0x14] = true then Answered s t d Status.busy 0
          else Taken s t d { target := head, image := fanoutImage (d.arg 0x18 4) l, cfg := true,
                             bodies := bodiesOf l ++ [fit 64 ((fanoutImage (d.arg 0x18 4) l).take 8)] }))
    ∧ (s.Heads 0x15 d → ∀ l, l.length = 2048 → d.aligned 0x10 = true → d.arg 8 1 < 64 → d.resv 9 7 = true → d.resv 0x18 40 = true →
        Ends (.lintabWrite (some l)) s (fun t =>
          if linReason l ≠ 0 then Answered s t d (if linReason l = 1 then Status.crc else Status.badArg) 0
            ∧ t.reg Reg.FE_LIN_LAST = packU32 [(d.arg 8 1, 0), (linReason l, 8)]
          else if v.ahead.cjUser (d.arg 8 1) = true ∧ linRising l = false then Answered s t d Status.badArg 0
            ∧ t.reg Reg.FE_LIN_LAST = packU32 [(d.arg 8 1, 0), (6, 8)]
          else if v.unadmitted [0x15] = true then Answered s t d Status.busy 0
          else Taken s t d { target := d.arg 8 1, bodies := bodiesOf l, image := l, cfg := true }))
    ∧ (s.Heads 0x16 d → ∀ l, l.length = 16 * d.arg 0xE 2 → 0 < d.arg 0xE 2 → d.arg 0xE 2 ≤ 2048 → d.aligned 0x10 = true →
        d.arg 8 1 < 8 → d.resv 9 3 = true → d.resv 0x18 40 = true → d.arg 0xC 2 + d.arg 0xE 2 ≤ (v.filtShare (d.arg 8 1)).2 →
        (∀ i, i < d.arg 0xE 2 → (FiltElem.ofBytes (slice l (16 * i) 16)).valid = false →
          (∀ j, j < i → (FiltElem.ofBytes (slice l (16 * j) 16)).valid = true) →
          Ends (.canfiltWrite (some l)) s (fun t => Answered s t d Status.badArg 0
            ∧ t.reg Reg.CAN_CHK_LAST = packU32 [(d.arg 0xC 2 + i, 0), (1, 16), (d.arg 8 1, 25)]))
        ∧ ((∀ i, i < d.arg 0xE 2 → (FiltElem.ofBytes (slice l (16 * i) 16)).valid = true) →
          Ends (.canfiltWrite (some l)) s (fun t =>
            if v.walkedByOther (d.arg 8 1) ((v.filtShare (d.arg 8 1)).1 + d.arg 0xC 2) (d.arg 0xE 2) = true then
              Answered s t d Status.quota 0
            else if v.unadmitted [0x16, 0x17] = true then Answered s t d Status.busy 0
            else Taken s t d { target := (v.filtShare (d.arg 8 1)).1 + d.arg 0xC 2, bodies := bodiesOf l, image := l, cfg := true })))
    ∧ (s.Heads 0x17 d → ∀ l, l.length = 16 * d.arg 0xA 2 → 0 < d.arg 0xA 2 → d.arg 0xA 2 ≤ 1024 → d.aligned 0x10 = true →
        d.arg 8 2 + d.arg 0xA 2 ≤ 32768 → d.resv 0xC 4 = true → d.resv 0x18 40 = true →
        (∀ i, i < d.arg 0xA 2 → (SigDef.ofBytes (slice l (16 * i) 16)).rule ≠ 0 →
          (∀ j, j < i → (SigDef.ofBytes (slice l (16 * j) 16)).rule = 0) →
          Ends (.cansigWrite (some l)) s (fun t =>
            Answered s t d (if (SigDef.ofBytes (slice l (16 * i) 16)).rule = 1 then Status.crc else Status.badArg) 0
              ∧ t.reg Reg.CAN_CHK_LAST = packU32 [(d.arg 8 2 + i, 0), ((SigDef.ofBytes (slice l (16 * i) 16)).rule, 16), (1, 24)]))
        ∧ ((∀ i, i < d.arg 0xA 2 → (SigDef.ofBytes (slice l (16 * i) 16)).rule = 0) →
          Ends (.cansigWrite (some l)) s (fun t =>
            if v.unadmitted [0x16, 0x17] = true then Answered s t d Status.busy 0
            else Taken s t d { target := d.arg 8 2, bodies := bodiesOf l, image := l, cfg := true }))))
  ∧ (∀ (s : State) (d : Desc) (x : Nat × Instr),
    x ∈ [(0x11, .pointRead .take), (0x20, .ackPoint .take), (0x21, .ackGroup .take), (0x22, .shelve .take),
      (0x23, .unshelve .take), (0x24, .forcePoint .take), (0x30, .callManual .take), (0x31, .callSilence .take),
      (0x32, .deadmanReset .take)] → s.recHeld = false → s.cmdHead (· == x.1) = some d →
    (s.mgmt = Node.run → Ends x.2 s (fun t =>
      Taken s t d { target := if x.1 = 0x21 ∨ 0x30 ≤ x.1 then d.arg 8 1 else d.arg 8 4 % 2 ^ 22,
                    bodies := [slice d.raw 8 56 ++ zeros 8] }))
    ∧ (s.mgmt ≠ Node.run → Ends x.2 s (fun t => Answered s t d Status.state 0 ∧ t.inlet = s.inlet)))

/-- POINT_WRITE takes an image that is aligned and arrives, names a point in range, has its reserved bytes zero and passes CRC32 and the rules of Table 7-4; without its image, or with an argument or a rule broken, it answers BAD_ARG, and with a wrong CRC32 alone the status CRC (R234, R235). LEG_PT_WRITE and LEG_PT_READ: an entry of the forerunner's format becomes the point's configuration record, field by field as in Table 7-20, and a record that such an entry could have made is given back as that entry, and no other is (R239-R241). Both always end: outside forerunner mode and before SETUP ignored, a WRITE outside SETUP with NOT_SETUP. The corners are the model's reading (DEDUCED, log entry 36): two limits have an order only where both are used, HYST is the nearest binary32, and of the all-zero record the entry given back is CHANNEL 0xFFFF with zeros. -/
def Obligations.PointRecords : Prop :=
  ((∀ (s : State) (d : Desc) (l : List Byte), s.Heads 0x10 d → s.cfgHeld = false → l.length = 64 → d.aligned 0x10 = true →
    d.arg 8 4 < 81920 → d.resv 0xC 4 = true → d.resv 0x18 40 = true → crcOk l 64 = true →
    (PCfg.ofBytes l).rulesOk (d.arg 8 4) = true →
    Ends (.pointWrite (some l)) s (fun t => Taken s t d { target := d.arg 8 4, bodies := [l], image := l, cfg := true }))
  ∧ (∀ (s : State) (d : Desc), s.Heads 0x10 d → s.cfgHeld = false →
    Ends (.pointWrite none) s (fun t => Answered s t d Status.badArg 0))
  ∧ (∀ (s : State) (d : Desc) (l : List Byte), s.Heads 0x10 d → s.cfgHeld = false → l.length = 64 → d.aligned 0x10 = true →
    d.arg 8 4 < 81920 → d.resv 0xC 4 = true → d.resv 0x18 40 = true → crcOk l 64 = false →
    Ends (.pointWrite (some l)) s (fun t => Answered s t d Status.crc 0))
  ∧ (∀ (s : State) (d : Desc) (l : List Byte), s.Heads 0x10 d → s.cfgHeld = false → l.length = 64 → d.aligned 0x10 = true →
    (81920 ≤ d.arg 8 4 ∨ d.resv 0xC 4 = false ∨ d.resv 0x18 40 = false
      ∨ (crcOk l 64 = true ∧ (PCfg.ofBytes l).rulesOk (d.arg 8 4) = false)) →
    Ends (.pointWrite (some l)) s (fun t => Answered s t d Status.badArg 0)))
  ∧ ((∀ (s : State) (x : LegEntry), s.fmodeOn = true → s.mgmt = Node.setup → x = LegEntry.ofBytes s.legWords →
    (x.ok = true → Ends .legPtWrite s (fun t => (∀ k, k < 64 → Sparse.get 0 t.tarn (Tarn.POINT_CFG + 64 * s.legIndex + k) = (x.record s.cfgEpoch).getD k 0)
      ∧ (∀ a, a < Tarn.POINT_CFG + 64 * s.legIndex ∨ Tarn.POINT_CFG + 64 * s.legIndex + 64 ≤ a → Sparse.get 0 t.tarn a = Sparse.get 0 s.tarn a)
      ∧ t.reg Reg.LEG_PT_STATUS = 1 ∧ t.cfgDirty = true ∧ t.reg Reg.LEG_PT_ERR_CNT = s.reg Reg.LEG_PT_ERR_CNT))
    ∧ (x.ok = false → Ends .legPtWrite s (fun t => t.tarn = s.tarn ∧ t.rfld Reg.LEG_PT_STATUS 1 1 = 1 ∧ t.rfld Reg.LEG_PT_STATUS 2 2 = 1
      ∧ t.reg Reg.LEG_PT_ERR_CNT = satAdd (s.reg Reg.LEG_PT_ERR_CNT) 1 ∧ RegsBut s t [Reg.LEG_PT_STATUS, Reg.LEG_PT_ERR_CNT])))
  ∧ (∀ s : State, s.fmodeOn = false ∨ s.mgmt < Node.setup →
    Ends .legPtRead s (fun t => Ignored s t Reg.LEG_PT_CMD Why.cmdState)
    ∧ (s.fmodeOn = false → Ends .legPtWrite s (fun t => Ignored s t Reg.LEG_PT_CMD Why.cmdState)))
  ∧ (∀ s : State, s.fmodeOn = true → s.mgmt ≠ Node.setup → Ends .legPtWrite s (fun t =>
      t.reg Reg.MGMT_IGNORED_LAST = packU32 [(Reg.LEG_PT_CMD, 0), (Why.cmdState, 25)] ∧ t.rbit Reg.MGMT_EVT 2 = true
      ∧ t.reg Reg.LEG_PT_STATUS = packU32 [(1, 1), (3, 2)] ∧ t.tarn = s.tarn
      ∧ t.reg Reg.LEG_PT_ERR_CNT = satAdd (s.reg Reg.LEG_PT_ERR_CNT) 1))
  ∧ (∀ s : State, s.fmodeOn = true → Node.setup ≤ s.mgmt →
    (∀ x, legUnconvert (s.tarnSee (Tarn.POINT_CFG + 64 * s.legIndex) 64) = some x → Ends .legPtRead s (fun t =>
      t.legWords = x.bytes ∧ t.reg Reg.LEG_PT_STATUS = 1 ∧ t.tarn = s.tarn
      ∧ RegsBut s t [Reg.LEG_PT_W0, Reg.LEG_PT_W1, Reg.LEG_PT_W2, Reg.LEG_PT_W3, Reg.LEG_PT_STATUS]))
    ∧ (legUnconvert (s.tarnSee (Tarn.POINT_CFG + 64 * s.legIndex) 64) = none → Ends .legPtRead s (fun t =>
      t.legWords = zeros 16 ∧ t.rfld Reg.LEG_PT_STATUS 1 1 = 1 ∧ t.rfld Reg.LEG_PT_STATUS 2 2 = 2 ∧ t.tarn = s.tarn
      ∧ t.reg Reg.LEG_PT_ERR_CNT = satAdd (s.reg Reg.LEG_PT_ERR_CNT) 1))))
  ∧ ((∀ (b : List Byte) (x : LegEntry) (epoch : Nat), x = LegEntry.ofBytes b → x.ok = true →
      (x.channel ≤ 15 → legUnconvert (x.record epoch) = some x)
      ∧ (x.channel = 0xFFFF → legUnconvert (x.record epoch) =
          some { channel := 0xFFFF, mode := 0, group := 0, lo := 0, hi := 0, delay := 0, hyst := 0 }))
    ∧ (∀ (l : List Byte) (x : LegEntry), legUnconvert l = some x → x.ok = true ∧ (x.record 0).take 0x38 = l.take 0x38
        ∧ slice (x.record 0) 0x3A 2 = slice l 0x3A 2)
    ∧ (∀ l : List Byte, legUnconvert l = none → ∀ b x, x = LegEntry.ofBytes b → x.ok = true →
        ¬((x.record 0).take 0x38 = l.take 0x38 ∧ slice (x.record 0) 0x3A 2 = slice l 0x3A 2))
    ∧ (∀ (b : List Byte) (x : LegEntry) (epoch : Nat), x = LegEntry.ofBytes b → x.ok = true → x.channel ≤ 15 →
        ∀ c, c = PCfg.ofBytes (x.record epoch) →
        c.srcType = 1 ∧ c.srcIndex = x.channel ∧ c.enable = bitAt x.mode 0 ∧ c.latch = bitAt x.mode 1
        ∧ c.invert = false ∧ c.faultAlarm = false ∧ c.rate = false ∧ c.custody = false ∧ c.panel = false
        ∧ c.gain = 0x3F800000 ∧ c.offset = 0 ∧ c.thL = x.lo ∧ c.thH = x.hi ∧ c.thLL = 0 ∧ c.thHH = 0 ∧ c.rateLimit = 0
        ∧ (∀ i, i < 8 → bitAt c.thEn i = (if i = 1 then bitAt x.mode 3 else if i = 2 then bitAt x.mode 2 else false))
        ∧ c.hyst = F32.ofRatio x.hyst 1000 ∧ c.onDelay = 10 * x.delay ∧ c.offDelay = 10 * x.delay
        ∧ c.group = x.group ∧ c.prio = 2 ∧ leAt (x.record epoch) 0x2A 1 = 0 ∧ c.blockSrc = 0x1FFFF ∧ c.blockDelay = 0
        ∧ c.shelveMax = 0 ∧ leAt (x.record epoch) 0x34 4 = 0 ∧ leAt (x.record epoch) 0x38 2 = epoch % 65536
        ∧ (x.record epoch).length = 64 ∧ crcOk (x.record epoch) 64 = true)
    ∧ (∀ (x : LegEntry) (epoch : Nat), x.channel = 0xFFFF →
        (x.record epoch).take 60 = zeros 60 ∧ (x.record epoch).length = 64 ∧ crcOk (x.record epoch) 64 = true))

/-! ## The engines (R203-R265, R275-R290) -/

/-- EVAL_SAMPLE, EVAL_DI_CHANGE, EVAL_COUNT and EVAL_CAN_FRAME: the record is evaluated, and the point that its source feeds takes the value; a settling sample sets SETTLING and nothing else; an engine whose next record, a source's or a TICK, makes it read a state record with a wrong STATE_CRC is failed with cause 2 instead (R213, R216, R217, R301, R358, R359, R402). -/
def Obligations.SourceRecords : Prop :=
  (∀ (s : State) (e : EngineId) (r : InRec) (x : Byte × Instr), s.headRec e = some r → s.failsCrc e (s.recReads r) = true →
    x ∈ [(Kind.sample, .evalSample e), (Kind.diChange, .evalDiChange e), (Kind.count, .evalCount e),
      (Kind.canFrame, .evalCanFrame e), (Kind.tick, .evalTick e)] → r.kind = x.1 →
    Ends x.2 s (fun t => EngineFailed s t e 2))
  ∧ ∀ (s : State) (e : EngineId) (r : InRec), s.atRec e r →
    (r.kind = Kind.sample → Ends (.evalSample e) s (fun t => Evaluated s t e r
      ∧ ∀ p, Feeds s e 1 r.srcIndex p →
        (bitAt r.flags 0 = true → (t.pt e p).has Sub.settling = true ∧ (t.pt e p).state = (s.pt e p).state)
        ∧ (bitAt r.flags 0 = false → bitAt r.flags 1 = false →
            F32.isFinite ((s.pcfg p).scale (BitVec.ofNat 32 (r.pay 0x18 4))) = true →
            (t.pt e p).value = (s.pcfg p).scale (BitVec.ofNat 32 (r.pay 0x18 4)) ∧ (t.pt e p).faultRun = 0)
        ∧ (bitAt r.flags 0 = false → bitAt r.flags 1 = true → s.faultCount (s.pcfg p) ≤ 1 → (t.pt e p).state = Pt.fault)))
    ∧ (r.kind = Kind.diChange → Ends (.evalDiChange e) s (fun t => Evaluated s t e r
      ∧ ∀ p i, i < 16 → r.pay 0x1A 2 = 2 ^ i → Feeds s e 2 (16 * r.srcIndex + i) p →
        (t.pt e p).value = boolF ((r.pay 0x18 2).testBit i)))
    ∧ (r.kind = Kind.count → Ends (.evalCount e) s (fun t => Evaluated s t e r
      ∧ ∀ p, Feeds s e 3 r.srcIndex p → F32.isFinite ((s.pcfg p).scale (BitVec.ofNat 32 (r.pay 0x1C 4))) = true →
        (t.pt e p).value = (s.pcfg p).scale (BitVec.ofNat 32 (r.pay 0x1C 4))))
    ∧ (r.kind = Kind.canFrame → Ends (.evalCanFrame e) s (fun t => Evaluated s t e r
      ∧ (r.pay 0x1D 1 = 0 → (t.eng e).pts = (s.eng e).pts ∧ (t.eng e).grs = (s.eng e).grs)
      ∧ (r.pay 0x1D 1 = 1 → ∀ p v, s.carried r (r.pay 0x1E 2) = some (some v) → Feeds s e 4 (r.pay 0x1E 2) p →
          F32.isFinite ((s.pcfg p).scale v) = true → (t.pt e p).value = (s.pcfg p).scale v)))

/-- EVAL_TICK, SEAL_PERIOD_EXPIRY and HEALTH_PERIOD_EXPIRY: a TICK's values are taken, its sweeps end with nothing left over, and the periodic seal and health report come in their turn, once (R214, R269, R284, R287, R317; that a part of a TICK may be a step of its own is the model's, log entry 21). -/
def Obligations.TickRecords : Prop :=
  ∀ (s : State) (e : EngineId) (r : InRec), s.AtTick e r →
    Ends (.evalTick e) s (fun t => Evaluated s t e r ∧ (t.eng e).lastTick = r.payload ∧ (t.eng e).tickAt = s.frcNat
      ∧ 81920 ≤ (t.eng e).sweepAt ∧ 256 ≤ (t.eng e).groupAt ∧ 3 ≤ (t.eng e).tickStage
      ∧ ((s.eng e).lastTick ≠ r.payload ∨ (s.eng e).tickStage = 0 → (t.eng e).totals = [] ∧ (t.eng e).opened = [])
      ∧ ((s.eng e).lastTick ≠ r.payload → (t.eng e).tickRel = BitVec.ofNat 48 (leAt r.ext 0 8) ∧ (t.eng e).tickCap = u32At r.ext 8
          ∧ (t.eng e).tickQual = BitVec.ofNat 3 (leAt r.ext 0xC 1) ∧ (t.eng e).tickEpoch = BitVec.ofNat 6 (leAt r.ext 0xD 1)))
    ∧ Ends (.sealPeriodExpiry e) s (fun t => WithinTick s t e r ∧ 3 ≤ (t.eng e).tickStage
      ∧ (s.rfld Reg.CUST_CTL 0 16 ≠ 0 → r.tickNo % (1000 * s.rfld Reg.CUST_CTL 0 16) = 0 → (s.eng e).custN ≠ 0 →
          s.atStage e r 2 → 0 < (s.eng e).room →
          (t.eng e).custN = 0 ∧ (t.eng e).sealNo = (s.eng e).sealNo + 1
            ∧ t.queued e Ev.custodySeal nodeIndex (fun v => v.stOld = 1 ∧ v.stNew = BitVec.ofNat 8 (s.eng e).custN)))
    ∧ Ends (.healthPeriodExpiry e) s (fun t => WithinTick s t e r ∧ 2 ≤ (t.eng e).tickStage
      ∧ (s.rfld Reg.SKINK_CTL 16 16 ≠ 0 → r.tickNo % (1000 * s.rfld Reg.SKINK_CTL 16 16) = 0 → s.atStage e r 1 → 0 < (s.eng e).room →
          t.queued e Ev.engineHealth nodeIndex (fun v => v.stNew = (s.eng e).stHolder ∧ v.stOld = (s.eng e).stSvc)))

/-- DELAY_EXPIRY, RATE_EVALUATION, BLOCK_DELAY_EXPIRY and SHELVE_EXPIRY: each is a part of its TICK's visit of the points, and, where the visit has come to the point, leaves in its record what the end of that time does (R214, R219, R222, R228, R230; the parts as steps of their own are the model's, log entry 21). The premise on Tarn is a part of the invariant. -/
def Obligations.PointTimes : Prop :=
  (∀ (s : State) (e : EngineId) (r : InRec) (p : Nat), s.AtTick e r → p < 81920 →
    ∀ i, i ∈ [Instr.delayExpiry e p, .rateEvaluation e p, .blockDelayExpiry e p, .shelveExpiry e p] →
      Ends i s (fun t => WithinTick s t e r))
  ∧ (∀ (s : State) (e : EngineId) (r : InRec) (p : Nat), s.AtTick e r → p < 81920 → Sparse.wf 0 s.tarn = true → s.atPoint e r p →
    (s.pcfg p).on = true → (s.pcfg p).valid p = true →
    ((s.pt e p).has Sub.shelved = true → (s.pt e p).timer.toNat ≤ 1 → r.tickNo % 60000 = 0 →
      Ends (.shelveExpiry e p) s (fun t => (t.pt e p).has Sub.shelved = false ∧ (t.pt e p).timer = 0 ∧ (t.eng e).sweepAt = p + 1))
    ∧ ((s.pt e p).has Sub.blocked = true →
        ((s.pt e p).blockTimer = 0 ∨ ((s.pt e p).blockTimer = 1 ∧ r.tickNo % 1000 = 0)) → s.sourceQuiet e (s.pcfg p).blockSrc →
      Ends (.blockDelayExpiry e p) s (fun t => (t.pt e p).has Sub.blocked = false ∧ (t.eng e).sweepAt = p + 1))
    ∧ ((s.pcfg p).srcType < 5 ∨ (s.pt e p).has Sub.forced = true → s.eccHeld e p = false →
      (((s.pt e p).has Sub.pendOn || (s.pt e p).has Sub.pendOff) = true → (s.pt e p).timer.toNat ≤ 1 → r.tickNo % 10 = 0 →
          (s.pcfg p).rate = false ∨ r.tickNo % 1000 ≠ p % 1000 →
        Ends (.delayExpiry e p) s (fun t => (t.pt e p).state = (s.pcfg p).delayTarget (s.pt e p)
          ∧ (t.pt e p).has Sub.pendOn = false ∧ (t.pt e p).has Sub.pendOff = false))
      ∧ ((s.pcfg p).rate = true → r.tickNo % 1000 = p % 1000 → (s.pt e p).has Sub.settling = false →
          (s.pt e p).state ≠ Pt.unknown → (s.pt e p).state ≠ Pt.fault →
        Ends (.rateEvaluation e p) s (fun t => (t.pt e p).prev = (s.pt e p).value ∧ (t.pt e p).value = (s.pt e p).value
          ∧ ((s.pcfg p).onDelay = 0 → (s.pcfg p).offDelay = 0 →
              (t.pt e p).state = (s.pcfg p).rateTarget (s.pt e p).state (F32.sub (s.pt e p).value (s.pt e p).prev))))))

/-- GROUP_BLOCK_EXPIRY, FLOOD_WINDOW_CLOSE, CALL_TIMEOUT, CALL_FRAME_REPEAT, DEADMAN_WARN and DEADMAN_EXPIRY: each is a part of its TICK's sweep of the groups, and, where the sweep has come to the group, does what the end of that time does (R250-R252, R255, R256, R258, R260; the parts as steps of their own are the model's, log entry 21). The premise on Tarn is a part of the invariant. -/
def Obligations.GroupTimes : Prop :=
  (∀ (s : State) (e : EngineId) (r : InRec) (g : Nat), s.AtTick e r → g < 256 →
    ∀ i, i ∈ [Instr.groupBlockExpiry e g, .floodWindowClose e g, .callTimeout e g, .callFrameRepeat e g, .deadmanWarn e g,
        .deadmanExpiry e g] → Ends i s (fun t => WithinTick s t e r))
  ∧ (∀ (s : State) (e : EngineId) (r : InRec) (g : Nat), s.AtTick e r → g < 256 → Sparse.wf 0 s.tarn = true → s.atGroup e r g →
    s.groupReady e g = true → r.tickNo % 1000 = 0 →
    ((s.gr e g).has G.blocked = true → ((s.gr e g).blockTimer = 0 ∨ (s.gr e g).blockTimer = 1) → s.sourceQuiet e (s.gcfg g).blockSrc →
      Ends (.groupBlockExpiry e g) s (fun t => (t.gr e g).has G.blocked = false ∧ (t.eng e).groupAt = g + 1))
    ∧ ((s.gr e g).floodTimer = 1 → (s.gcfg g).floodN ≠ 0 → (s.eng e).opened.contains g = false →
      Ends (.floodWindowClose e g) s (fun t => (t.gr e g).floodCnt = 0
        ∧ (if (s.gcfg g).floodN < (s.gr e g).floodCnt.toNat
            then (t.gr e g).has G.flooded = true ∧ (t.gr e g).floodTimer = BitVec.ofNat 16 (s.gcfg g).floodWindow
            else (t.gr e g).has G.flooded = false ∧ (t.gr e g).floodTimer = 0)))
    ∧ ((s.gcfg g).callEn = true →
        ((s.gcfg g).deadman = true → (s.gr e g).has G.blocked = false ∧ s.sourceQuiet e (s.gcfg g).blockSrc) →
      (calling (s.gr e g).callState = true → (s.gr e g).callState ≠ Call.bridge → (s.gr e g).callTimer = 1 →
        Ends (.callTimeout e g) s (fun t => (t.gr e g).callState = (s.gcfg g).escalate (s.gr e g).callState ∧ (t.eng e).groupAt = g + 1))
      ∧ (calling (s.gr e g).callState = true → (s.gr e g).canTimer = 1 →
          ((s.gr e g).callState = Call.bridge ∨ (s.gr e g).callTimer ≠ 1) →
        Ends (.callFrameRepeat e g) s (fun t => (t.gr e g).canTimer = BitVec.ofNat 16 (s.gcfg g).canRepeat
          ∧ (t.gr e g).callState = (s.gr e g).callState ∧ (t.eng e).groupAt = g + 1))
      ∧ ((s.gcfg g).deadman = true → (s.gr e g).callState = Call.idle → (s.gcfg g).dmWarn ≠ 0 →
          (s.gr e g).callTimer.toNat = (s.gcfg g).dmWarn + 1 →
        Ends (.deadmanWarn e g) s (fun t => (t.gr e g).has G.dmWarn = true ∧ (t.gr e g).callTimer.toNat = (s.gcfg g).dmWarn
          ∧ (t.gr e g).callState = Call.idle))
      ∧ ((s.gcfg g).deadman = true → (s.gr e g).callState = Call.idle → (s.gr e g).callTimer = 1 →
        Ends (.deadmanExpiry e g) s (fun t => (t.gr e g).callState = Call.stage1 ∧ (t.gr e g).has G.dmWarn = false))))

/-- ACK_POINT, SHELVE, UNSHELVE, FORCE_POINT and POINT_READ, at their record (R226, R227, R229, R230, R231, R238). -/
def Obligations.PointCommands : Prop :=
  ∀ (s : State) (e : EngineId) (r : InRec) (d : Desc), d.pointOk = true →
    (s.AtCmd e 0x20 r d → d.resv 0xC 52 = true →
      Ends (.ackPoint (.eval e)) s (fun t => Evaluated s t e r ∧ (t.pt e d.point).has Sub.unacked = false
        ∧ (t.pt e d.point).state = (s.pt e d.point).state))
    ∧ (s.AtCmd e 0x22 r d → d.resv 0xE 50 = true → d.arg 0xC 2 ≠ 0 → d.arg 0xC 2 ≤ (s.pcfg d.point).shelveMax →
        (s.pcfg d.point).unusable d.point = false →
      Ends (.shelve (.eval e)) s (fun t => Evaluated s t e r ∧ (t.pt e d.point).has Sub.shelved = true
        ∧ (t.pt e d.point).timer = BitVec.ofNat 16 (d.arg 0xC 2) ∧ (t.pt e d.point).state = (s.pt e d.point).state))
    ∧ (s.AtCmd e 0x23 r d → d.resv 0xC 52 = true → (s.pt e d.point).has Sub.shelved = true →
      Ends (.unshelve (.eval e)) s (fun t => Evaluated s t e r ∧ (t.pt e d.point).has Sub.shelved = false
        ∧ (t.pt e d.point).timer = 0))
    ∧ (s.AtCmd e 0x24 r d → d.resv 0xC 2 = true → d.resv 0xF 1 = true → d.resv 0x14 44 = true →
        (s.pcfg d.point).unusable d.point = false →
      F32.isFinite (u32At d.raw 0x10) = true → ((s.pcfg d.point).digital = true →
          (F32.eq (u32At d.raw 0x10) 0 || F32.eq (u32At d.raw 0x10) 0x3F800000) = true) →
      (d.arg 0xE 1 = 1 → s.eccHeld e d.point = false →
        Ends (.forcePoint (.eval e)) s (fun t => Evaluated s t e r ∧ (t.pt e d.point).has Sub.forced = true
          ∧ (t.pt e d.point).value = u32At d.raw 0x10))
      ∧ (d.arg 0xE 1 = 0 → (s.pt e d.point).has Sub.forced = true →
        Ends (.forcePoint (.eval e)) s (fun t => Evaluated s t e r ∧ (t.pt e d.point).has Sub.forced = false
          ∧ (t.pt e d.point).value = (s.pt e d.point).value)))
    ∧ (s.AtCmd e 0x11 r d → d.resv 0xC 4 = true → d.resv 0x18 40 = true → d.aligned 0x10 = true → ∀ x : Running,
        s.hif.running = [x] → x.dir = false → x.isn = r.isn → x.left = [e] → x.img = [] →
      Ends (.pointRead (.eval e)) s (fun t => Evaluated s t e r ∧ t.hif.running = []
        ∧ t.hif.ready = s.hif.ready ++ [{ tag := x.tag, opcode := x.opcode, status := 0, result := r.isn, irqNow := x.irqNow }]
        ∧ ∃ img, Output.hostWrite (d.arg 0x10 8) img ∈ t.out ∧ slice img 0 8 = leBytes 8 r.isn.toNat
          ∧ slice img (0x80 + 32 * engIx e) 32 = (s.pt e d.point).bytes))

/-- ACK_GROUP, CALL_MANUAL, CALL_SILENCE and DEADMAN_RESET, at their record, on an enabled and valid group (R255, R258, R262, Table 8-13). -/
def Obligations.GroupCommands : Prop :=
  ∀ (s : State) (e : EngineId) (r : InRec) (d : Desc), s.groupReady e (d.arg 8 1) = true →
    (s.AtCmd e 0x21 r d → d.resv 0xA 54 = true → d.arg 9 1 = 0 →
      Ends (.ackGroup (.eval e)) s (fun t => Evaluated s t e r
        ∧ (calling (s.gr e (d.arg 8 1)).callState = true → (t.gr e (d.arg 8 1)).callState = Call.accepted)
        ∧ ∀ p, p ∈ s.points → (s.pcfg p).on = true → (s.pcfg p).group = d.arg 8 1 → (s.pcfg p).valid p = true →
            (t.pt e p).has Sub.unacked = false))
    ∧ (s.AtCmd e 0x30 r d → d.resv 0xA 54 = true → d.arg 9 1 ≠ 0 →
        (d.arg 9 1 ≤ (s.gcfg (d.arg 8 1)).nStages ∨ d.arg 9 1 = 7 ∨ d.arg 9 1 = 8) → d.arg 9 1 ≤ 8 →
        (s.gcfg (d.arg 8 1)).callEn = true → (s.gcfg (d.arg 8 1)).deadman = false → calling (s.gr e (d.arg 8 1)).callState = false →
      Ends (.callManual (.eval e)) s (fun t => Evaluated s t e r ∧ (t.gr e (d.arg 8 1)).callState = BitVec.ofNat 8 (d.arg 9 1)))
    ∧ (s.AtCmd e 0x31 r d → d.resv 9 55 = true → calling (s.gr e (d.arg 8 1)).callState = true →
      Ends (.callSilence (.eval e)) s (fun t => Evaluated s t e r ∧ (t.gr e (d.arg 8 1)).callState = Call.silenced))
    ∧ (s.AtCmd e 0x32 r d → d.resv 9 55 = true → (s.gcfg (d.arg 8 1)).deadman = true → (s.gcfg (d.arg 8 1)).callEn = true →
        (s.gr e (d.arg 8 1)).has G.blocked = false →
      Ends (.deadmanReset (.eval e)) s (fun t => Evaluated s t e r ∧ (t.gr e (d.arg 8 1)).callState = Call.idle
        ∧ (t.gr e (d.arg 8 1)).callTimer = BitVec.ofNat 16 (s.gcfg (d.arg 8 1)).dmPeriod
        ∧ (t.gr e (d.arg 8 1)).has G.dmWarn = false))

/-- EVAL_SOURCE_GAP, EVAL_SEAL_REQUEST and EVAL_SNAPSHOT_MARK: a gap changes no point or group, a request seals, the source engine fills the mark, and an engine whose own state differs from the mark is failed (R275, R276, R287). CONFIG_BARRIER and EVAL_ECC_FAULT: once every engine in service stands at the unit's records, the change is written once and every engine has passed it, but one that finds a wrong STATE_CRC in a record it would adjust is failed first; a damaged point record is reset in both engines (R22, R23, R236, R301, R497). -/
def Obligations.GapsSealsAndBarriers : Prop :=
  (∀ (s : State) (e : EngineId) (r : InRec), s.headRec e = some r →
    (r.kind = Kind.sourceGap → Ends (.evalSourceGap e) s (fun t => Evaluated s t e r
      ∧ (t.eng e).pts = (s.eng e).pts ∧ (t.eng e).grs = (s.eng e).grs
      ∧ (0 < ((s.fresh.runStart e r).eng e).room → t.queued e Ev.sourceGap nodeIndex (fun v =>
          v.stNew = BitVec.ofNat 8 r.srcType ∧ v.sub = BitVec.ofNat 16 r.srcIndex))))
    ∧ (r.isSeal = true → 0 < ((s.fresh.runStart e r).eng e).room → Ends (.evalSealRequest e) s (fun t => Evaluated s t e r
      ∧ (t.eng e).custN = 0 ∧ (t.eng e).sealNo = (s.eng e).sealNo + 1
      ∧ t.queued e Ev.custodySeal nodeIndex (fun v => v.stNew = BitVec.ofNat 8 (s.eng e).custN ∧ v.stOld = 2)))
    ∧ (r.kind = Kind.mark → r.ext = [] → s.sourceEng = some e → Ends (.evalSnapshotMark e) s (fun t => Evaluated s t e r
      ∧ t.rfld Reg.SPAWN_STATUS 9 2 = engNo e
      ∧ (s.snapMark r.isn = true → t.spawn.staging = some (e, (s.eng e).pts, (s.eng e).grs, r.isn))))
    ∧ (r.kind = Kind.mark → r.ext ≠ [] → (s.fresh.runStart e r).wideOf e = r.ext →
      Ends (.evalSnapshotMark e) s (fun t => Evaluated s t e r ∧ (t.eng e).pts = (s.eng e).pts))
    ∧ (r.kind = Kind.mark → r.ext ≠ [] → (s.fresh.runStart e r).wideOf e ≠ r.ext →
      Ends (.evalSnapshotMark e) s (fun t => t.serves e = false)))
  ∧ ((∀ (s : State) (isn : Nat) (u : CmdUnit) (rest : List (Nat × CmdUnit)) (r : InRec), s.inlet.barriers = (isn, u) :: rest →
    s.servers ≠ [] → (∀ e, e ∈ s.servers → s.atUnit e isn (max 1 u.bodies.length) = true) →
    s.inlet.stream.find? (fun r => r.isn.toNat == isn) = some r →
    ((∀ e, e ∈ s.servers → s.failsCrc e (s.unitReads u) = false) →
      Ends .configBarrier s (fun t => t.inlet.barriers = rest ∧ t.tarn = (s.applyUnit u).tarn
        ∧ ∀ e, e ∈ s.servers → (t.eng e).evalIsn = r.isn))
    ∧ (∀ e, s.servers.find? (fun e => s.failsCrc e (s.unitReads u)) = some e →
      Ends .configBarrier s (fun t => EngineFailed s t e 2)))
  ∧ (∀ (s : State) (r : InRec) (bad : EngineId) (p : Nat), s.servers ≠ [] → (∀ e, e ∈ s.servers → s.headRec e = some r) →
    r.kind = Kind.cmd → r.srcType = 8 → r.pay 0x18 2 = 0xFF02 → damagedAt r.eccOffset = some (.point bad p) →
    Ends .evalEccFault s (fun t => ∀ e, e ∈ s.servers → (t.eng e).evalIsn = r.isn ∧ (t.pt e p).state = Pt.unknown)))

/-- EVAL_RESYNC_STATUS, EVAL_RESYNC_COPY, EVAL_AUDIT, EVAL_DIVERGE and EVAL_REPAIR (R305, R307, R308, R312, R534). -/
def Obligations.SkinkRecords : Prop :=
  ∀ (s : State) (e : EngineId) (r : InRec), s.headRec e = some r →
    (r.isResync Resync.status = true → Ends (.evalResyncStatus e) s (fun t => Evaluated s t e r
      ∧ t.reg (Reg.AE_LAST_STATUS (engIx e)) = packU32 [(r.pay 0x19 1, 0), (r.pay 0x1A 1, 8), (r.pay 0x1B 1, 16)]
      ∧ (t.eng e).pts = (s.eng e).pts ∧ (t.eng e).grs = (s.eng e).grs))
    ∧ (∀ c : Copy, r.isResync Resync.copy = true → s.mgmt = Node.run → s.skink.copy = some c → c.started = false → c.target ≠ e →
      Ends (.evalResyncCopy e) s (fun t => Evaluated s t e r ∧ (t.eng e).stopped = true
        ∧ t.skink.copy = some { c with source := e, isn := r.isn, started := true }))
    ∧ (r.isResync Resync.audit = true → Ends (.evalAudit e) s (fun t => Evaluated s t e r
      ∧ (t.eng e).audit = some (fld r.arg 0 7, (s.eng e).auditCrcs (fld r.arg 0 7)) ∧ (t.eng e).pts = (s.eng e).pts))
    ∧ (r.isResync Resync.diverge = true → Ends (.evalDiverge e) s (fun t => (t.eng e).evalIsn = r.isn
      ∧ (t.eng e).pts = (s.eng e).pts ∧ (t.eng e).grs = (s.eng e).grs
      ∧ (s.mgmt = Node.run → s.bothServe = true → (if (s.eng e).report = none then (t.eng e).report = some (s.divergeBreaks e r.arg) ∧ (t.eng e).reports = (s.eng e).reports
        else (t.eng e).report = (s.eng e).report ∧ (t.eng e).reports = (s.eng e).reports ++ [s.divergeBreaks e r.arg]))))
    ∧ (r.isResync Resync.repair = true → Ends (.evalRepair e) s (fun t => Evaluated s t e r
      ∧ (fld r.arg 0 7 ≠ 80 → 1024 * fld r.arg 0 7 + fld r.arg 7 10 < 81920 →
          (t.pt e (1024 * fld r.arg 0 7 + fld r.arg 7 10)).state = Pt.unknown)
      ∧ (fld r.arg 0 7 = 80 → fld r.arg 7 10 < 256 →
          t.gr e (fld r.arg 7 10) = freshHalf (s.gcfg (fld r.arg 7 10)).enable)))

/-! ## Inlet and Outlet (R266-R294, R418, R493, R504-R506) -/

/-- RECORD_ADMISSION: what waits first takes the next ISN, first TICK, then Skink, then Gecko, then the host commands, then the other sources in rotation, which goes on behind the one served; a record out of series waits behind a SOURCE_GAP, a host command's records go in one after another and the last of a configuration change opens its barrier; an engine without credit beside one that has some is failed, and a hold admits nothing (R23, R29, R119, R266, R271-R274). TICK_GENERATION: the counter has come to a multiple of 200,000, and in RUN the next TICK waits for Inlet, or is lost for want of a credit (R28, R269). -/
def Obligations.Admission : Prop :=
  (∀ s : State, s.mgmt = Node.run →
    (s.credited → s.heldBySpawn = false → ∀ r : InRec, s.inlet.reveal = some r → r.kind ≠ Kind.mark →
      Ends .recordAdmission s (fun t => t.inlet.isn = s.inlet.isn + 1
        ∧ t.inlet.stream = s.inlet.stream ++ [{ r with isn := s.inlet.isn + 1 }] ∧ t.inlet.waiting = s.inlet.waiting
        ∧ t.reg Reg.INLET_ADMIT_CNT = satAdd (s.reg Reg.INLET_ADMIT_CNT) 1))
    ∧ (s.credited → s.heldBySpawn = false → s.inlet.reveal = none → s.begunUnit = false → ∀ (pl : Nat) (r : InRec) (w : List (Nat × InRec)),
        s.firstPlace pl → takePlace pl s.inlet.waiting = some (r, w) → r.kind ≠ Kind.mark →
        s.inlet.lost.contains r.source.toNat = false →
      (s.inlet.expect.find? (fun x => x.1 == r.source.toNat) = some (r.source.toNat, r.ssn) →
        Ends .recordAdmission s (fun t => t.inlet.isn = s.inlet.isn + 1 ∧ t.inlet.waiting = w
          ∧ t.inlet.rot = (if pl < 58 then (pl + 1) % 58 else s.inlet.rot)
          ∧ t.inlet.stream = s.inlet.stream ++ [{ r with isn := s.inlet.isn + 1 }]))
      ∧ (∀ x, s.inlet.expect.find? (fun x => x.1 == r.source.toNat) = some (r.source.toNat, x) → x ≠ r.ssn →
        Ends .recordAdmission s (fun t => t.inlet.isn = s.inlet.isn + 1 ∧ t.inlet.waiting = w ∧ t.inlet.reveal = some r
          ∧ t.inlet.rot = (if pl < 58 then (pl + 1) % 58 else s.inlet.rot)
          ∧ (∃ g : InRec, t.inlet.stream = s.inlet.stream ++ [g] ∧ g.kind = Kind.sourceGap ∧ g.source = r.source
            ∧ g.payload = gapPayload x r.ssn 0)
          ∧ t.reg Reg.INLET_GAP_CNT = satAdd (s.reg Reg.INLET_GAP_CNT) 1)))
    ∧ (s.credited → s.heldBySpawn = false → s.inlet.reveal = none →
        s.begunUnit = true ∨ (s.noneAt Place.tick ∧ s.noneAt Place.skink ∧ s.noneAt Place.gecko) →
        ∀ (u v : CmdUnit) (l : List CmdUnit), s.inlet.cmds = u :: l →
        v = (if u.cfg && u.sent = 0 then u.renew ((s.cfgEpoch + 1) % 65536) else u) →
      Ends .recordAdmission s (fun t => t.inlet.isn = s.inlet.isn + 1 ∧ t.inlet.waiting = s.inlet.waiting
        ∧ (∃ g : InRec, t.inlet.stream = s.inlet.stream ++ [g] ∧ g.kind = Kind.cmd ∧ g.isn = s.inlet.isn + 1 ∧ g.source = mkSource 6 0
            ∧ g.payload = cmdPayload v.opcode.toNat v.sent (v.partTarget v.sent) v.bodies.length ∧ g.ext = v.bodies.getD v.sent [])
        ∧ (v.sent + 1 < v.bodies.length → t.inlet.cmds = { v with sent := v.sent + 1 } :: l ∧ t.inlet.barriers = s.inlet.barriers
            ∧ t.cfgEpoch = s.cfgEpoch)
        ∧ (v.bodies.length ≤ v.sent + 1 → t.inlet.cmds = l
            ∧ (u.cfg = false → t.cfgEpoch = s.cfgEpoch ∧ t.inlet.barriers = s.inlet.barriers)
            ∧ (u.cfg = true → t.cfgEpoch = (s.cfgEpoch + 1) % 65536
                ∧ t.inlet.barriers = s.inlet.barriers ++ [((s.inlet.isn + 1).toNat, { v with sent := v.sent + 1 })]))))
    ∧ (∀ e, s.servers.filter s.noCredit = [e] → Ends .recordAdmission s (fun t => EngineFailed s t e 4))
    ∧ (s.heldByEngines = true → s.servers.length ≠ 1 → s.inlet.holding = false →
      Ends .recordAdmission s (fun t => t.inlet = { s.inlet with holding := true }
        ∧ t.reg Reg.INLET_HOLD_CNT = satAdd (s.reg Reg.INLET_HOLD_CNT) 1)))
  ∧ (∀ s : State, (s.fresh.pass s.fresh.toTick).mgmt = Node.run →
    ((s.fresh.pass s.fresh.toTick).hasCredit Place.tick = true →
      Ends .tickGeneration s (fun t => t.ws.frc = s.ws.frc + BitVec.ofNat 64 s.toTick
        ∧ t.inlet.tickNo = (s.fresh.pass s.fresh.toTick).inlet.tickNo + 1
        ∧ ∃ r : InRec, t.inlet.waiting = (s.fresh.pass s.fresh.toTick).inlet.waiting ++ [(Place.tick, r)] ∧ r.kind = Kind.tick
          ∧ r.payload = t.inlet.tickNo ∧ r.time = t.now ∧ r.source = mkSource 5 0))
    ∧ ((s.fresh.pass s.fresh.toTick).hasCredit Place.tick = false →
      Ends .tickGeneration s (fun t => t.inlet.waiting = (s.fresh.pass s.fresh.toTick).inlet.waiting
        ∧ t.reg Reg.INLET_OVR_TICK_CNT = satAdd ((s.fresh.pass s.fresh.toTick).reg Reg.INLET_OVR_TICK_CNT) 1)))

/-- EVENT_COPY_ARRIVAL and MERGE_WAIT_EXPIRY: a late copy is counted, the only engine's copy is released at once, to the lowest free place of the backlog (log entry 84), one of two waits for the other, and the wait's end releases what has come; what finds no place before the backlog's end stays in the merge, and in REPLAY none arrives while the backlog is full (R280, R286, R506). EVENT_DELIVERY, PUBLICATION_DATAGRAM and CAN_PUBLICATION (R111, R279, R293, R294, R418). -/
def Obligations.EventsToReceivers : Prop :=
  ((∀ (s : State) (e : EngineId) (v : Event) (rest : List Event), (s.eng e).evq = v :: rest →
    (s.outletFull = true → Ends (.eventCopyArrival e) s (fun t => t = s.fresh))
    ∧ (s.outletFull = false → s.isReleased v.esn = true → (∀ m, m ∈ s.outlet.merge → m.esn ≠ s.outlet.nextRel) →
      Ends (.eventCopyArrival e) s (fun t => (t.eng e).evq = rest ++ (s.eng e).evWait.take 1 ∧ t.outlet.backlog = s.outlet.backlog
        ∧ t.outlet.merge = s.outlet.merge ∧ t.reg Reg.OUT_LATE_COPY_CNT = satAdd (s.reg Reg.OUT_LATE_COPY_CNT) 1
        ∧ t.rbit Reg.OUT_EVT 2 = true))
    ∧ (s.outletFull = false → v.esn = s.outlet.nextRel → s.outlet.merge = [] → s.servers = [e] → v.engine = e →
      s.freePlace < s.backlogCap →
      Ends (.eventCopyArrival e) s (fun t => (t.eng e).evq = rest ++ (s.eng e).evWait.take 1 ∧ t.outlet.merge = []
        ∧ t.outlet.nextRel = nextEsnOf v.esn
        ∧ ∃ b : Backlog, t.outlet.backlog = s.outlet.backlog ++ [b] ∧ b.ev.esn = v.esn ∧ b.takes = [e] ∧ b.place = s.freePlace))
    ∧ (s.outletFull = false → v.esn = s.outlet.nextRel → s.outlet.merge = [] →
        s.bothServe = true ∨ (s.servers = [e] ∧ s.backlogCap ≤ s.freePlace) → v.engine = e →
      Ends (.eventCopyArrival e) s (fun t => (t.eng e).evq = rest ++ (s.eng e).evWait.take 1 ∧ t.outlet.backlog = s.outlet.backlog
        ∧ t.outlet.nextRel = s.outlet.nextRel ∧ ∃ w : Event, t.outlet.merge = [{ esn := v.esn, copies := [w] }] ∧ w.esn = v.esn)))
  ∧ (∀ (s : State) (m : Merge) (v : Event), s.oldestMerge = some m → m.copies = [v] →
    (s.outletFull = false → s.freePlace < s.backlogCap →
      Ends .mergeWaitExpiry s (fun t => (∀ x, x ∈ t.outlet.merge → x.esn ≠ m.esn) ∧ ∃ b, b ∈ t.outlet.backlog ∧ b.ev = v))
    ∧ (s.backlogCap ≤ s.freePlace → Ends .mergeWaitExpiry s (fun t => t = s.fresh))))
  ∧ ((∀ (s : State) (ring : Nat) (v : Event) (l : List Backlog), 2 ≤ ring → ring ≤ 5 → 0 < s.ringCredit ring →
    writeNext (ring - 2) s.outlet.backlog = some (v, l) →
    Ends (.eventDelivery ring) s (fun t => t.outlet = { s.outlet with backlog := l }
      ∧ Output.ringEntry ring (s.reg (Reg.RING_NODE_IDX ring)) (s.ringSlot ring (s.reg (Reg.RING_NODE_IDX ring))) v.bytes ∈ t.out
      ∧ t.reg (Reg.RING_NODE_IDX ring) = s.reg (Reg.RING_NODE_IDX ring) + 1
      ∧ RegsBut s t [Reg.RING_NODE_IDX ring, Reg.RING_ENTRY_CNT ring, Reg.MSIX_PBA 0]))
  ∧ (∀ s : State, s.outlet.pub ≠ [] → s.rbit Reg.PUB_ETH_CTL 0 = true →
    Ends .publicationDatagram s (fun t => t.outlet.pub = s.outlet.pub.drop 40 ∧ t.outlet.backlog = s.outlet.backlog
      ∧ (∀ p, p < 2 → s.rbit Reg.PUB_ETH_CTL (1 + p) = true → (s.port p).txPub.length < 4 →
          (t.port p).txPub = (s.port p).txPub ++ [s.pubFrame p (s.port p).pubId (s.pubDatagram (s.outlet.pub.take 40))]
          ∧ t.outlet.pubSeq = s.outlet.pubSeq + 1 ∧ t.reg Reg.PUB_ETH_SENT_CNT = satAdd (s.reg Reg.PUB_ETH_SENT_CNT) 1)
      ∧ (∀ p, p < 2 → 4 ≤ (s.port p).txPub.length → t.port p = s.port p)
      ∧ ((∀ p, p < 2 → s.rbit Reg.PUB_ETH_CTL (1 + p) = false ∨ 4 ≤ (s.port p).txPub.length) →
          t.outlet.pubSeq = s.outlet.pubSeq ∧ t.reg Reg.PUB_ETH_SENT_CNT = s.reg Reg.PUB_ETH_SENT_CNT)))
  ∧ (∀ (s : State) (v : Event) (l : List Event), s.outlet.pubCan = v :: l →
    Ends .canPublication s (fun t => t.outlet = { s.outlet with pubCan := l }
      ∧ (s.rbit Reg.PUB_CAN_CTL 0 = false → t.reg Reg.PUB_CAN_LOSS_CNT = satAdd (s.reg Reg.PUB_CAN_LOSS_CNT) 1)
      ∧ (s.sourcesRun = false → t.can = s.can ∧ t.reg Reg.PUB_CAN_LOSS_CNT = satAdd (s.reg Reg.PUB_CAN_LOSS_CNT) 1)
      ∧ (s.sourcesRun = true → s.rbit Reg.PUB_CAN_CTL 0 = true → s.canMode (s.rfld Reg.PUB_CAN_CTL 1 3) ≠ 0 →
          s.canStat (s.rfld Reg.PUB_CAN_CTL 1 3) CanStat.outOfService = false → s.canFd (s.rfld Reg.PUB_CAN_CTL 1 3) = true →
          (s.canCh (s.rfld Reg.PUB_CAN_CTL 1 3)).freeSlot.isSome = true →
          t.reg Reg.PUB_CAN_SENT_CNT = satAdd (s.reg Reg.PUB_CAN_SENT_CNT) 1
          ∧ ∃ x, (t.canCh (s.rfld Reg.PUB_CAN_CTL 1 3)).slots = (s.canCh (s.rfld Reg.PUB_CAN_CTL 1 3)).slots ++ [x]
            ∧ x.node = true ∧ x.data = v.bytes ∧ x.dlc = 13))))

/-- TREND_SAMPLE and TREND_CTL (R291, R292, R493). QUOTA_SET and ELASTIC_SPLIT_APPLY (R135, R395, R504, R506, Tables 18-5 to 18-7); the boundary moves down once no event lies beyond its new place. That the settings hold a new quota as QUOTA_SET completes is the model's choice (DESIGN CHOICE, log entry 34). -/
def Obligations.TrendsAndQuotas : Prop :=
  ((∀ (s : State) (i dt : Nat), i < 4096 → ((s.fresh.pass dt).trend i).used = true → (s.fresh.pass dt).mgmt = Node.run →
    ((s.fresh.pass dt).trend i).due ≤ (s.fresh.pass dt).now.toNat →
    (s.fresh.pass dt).outlet.trendFresh.contains i = true → 0 < (s.fresh.pass dt).ringCredit 6 →
    Ends (.trendSample i dt) s (fun t => i ∉ t.outlet.trendFresh
      ∧ t.reg (Reg.RING_NODE_IDX 6) = (s.fresh.pass dt).reg (Reg.RING_NODE_IDX 6) + 1
      ∧ ∃ at_ data, Output.ringEntry 6 ((s.fresh.pass dt).reg (Reg.RING_NODE_IDX 6)) at_ data ∈ t.out
        ∧ at_ = (s.fresh.pass dt).ringSlot 6 ((s.fresh.pass dt).reg (Reg.RING_NODE_IDX 6))
        ∧ slice data 0 8 = leBytes 8 (s.fresh.pass dt).now.toNat))
  ∧ (∀ (s : State) (d : Desc), s.Heads 0x72 d → d.resv 9 1 = true → d.resv 0x12 2 = true → d.resv 0x18 40 = true →
    (d.arg 8 1 = 1 → d.arg 0xA 2 ≤ 4095 →
      Ends .trendCtl s (fun t => Answered s t d Status.ok t.trends.length ∧ t.inlet = s.inlet))
    ∧ (d.arg 8 1 = 3 → s.mgmt = Node.run →
      Ends .trendCtl s (fun t => Deferred s t d ∧ t.tarn = s.tarn
        ∧ ∃ r : InRec, t.inlet.waiting = s.inlet.waiting ++ [(Place.gecko, r)] ∧ r.isSeal = true
          ∧ r.ext = slice d.raw 8 56 ++ zeros 8))))
  ∧ ((∀ (s : State) (d : Desc), s.Heads 0x70 d → d.resv 0xA 2 = true → d.resv 0x20 32 = true →
    (d.arg 8 1 = 0 → d.arg 9 1 = 0 → 1 ≤ d.arg 0xC 4 → d.arg 0xC 4 ≤ 16 → s.hif.elasticReq = s.hif.elasticNow →
      Ends .quotaSet s (fun t => (∃ x, Answered s t d Status.ok x) ∧ t.hif.elasticReq = d.arg 0xC 4))
    ∧ (d.arg 8 1 = 1 → isHostToNode (d.arg 9 1) = true → 1 ≤ d.arg 0xC 4 → d.arg 0xC 4 ≤ 64 →
      Ends .quotaSet s (fun t => (∃ x, Answered s t d Status.ok x) ∧ t.prefetchQuota (d.arg 9 1) = d.arg 0xC 4))
    ∧ (d.arg 8 1 = 2 → d.arg 9 1 = 0 → (∀ n, n < 8 → d.arg (0x10 + 2 * n) 2 % 16 = 0) →
        ((List.range 8).map (fun n => d.arg (0x10 + 2 * n) 2)).sum ≤ 16384 →
      Ends .quotaSet s (fun t => (∃ x, Answered s t d Status.ok x)
        ∧ ∀ n, n < 8 → t.reg (Reg.CAN_FILT_SHARE n) = BitVec.ofNat 32 (d.arg (0x10 + 2 * n) 2)
          ∧ t.reg (Reg.CAN_FILT_BASE n) = BitVec.ofNat 32 (((List.range n).map (fun m => d.arg (0x10 + 2 * m) 2)).sum)))
    ∧ (d.arg 8 1 = 3 → d.arg 9 1 = 0 → d.arg 0xC 4 ≤ 100000 →
      Ends .quotaSet s (fun t => Answered s t d Status.ok (BitVec.ofNat 64 (b2n (decide (d.arg 0xC 4 * s.trendRate.2 < s.trendRate.1))))
        ∧ t.hif.trendQuota = d.arg 0xC 4 ∧ t.hif.trendCut = decide (d.arg 0xC 4 * s.trendRate.2 < s.trendRate.1)))
    ∧ (d.arg 8 1 = 4 → d.arg 9 1 = 0 → 1 ≤ d.arg 0xC 4 → d.arg 0xC 4 ≤ 64 →
      Ends .quotaSet s (fun t => Answered s t d Status.ok 0 ∧ t.hif.cmdQuota = d.arg 0xC 4
        ∧ t.active.quotas.cmd = d.arg 0xC 4 ∧ t.reg Reg.QUOTA_SET_CNT = satAdd (s.reg Reg.QUOTA_SET_CNT) 1)))
  ∧ (∀ s : State, (s.hif.elasticReq < s.hif.elasticNow ∧ ∀ b, b ∈ s.outlet.backlog → b.place < 32768 * s.hif.elasticReq)
      ∨ (s.hif.elasticNow < s.hif.elasticReq ∧ s.capturing = false) →
    Ends .elasticSplitApply s (fun t => t.hif = { s.hif with elasticNow := s.hif.elasticReq } ∧ RegsBut s t [])))

/-! ## The front end and the digital I/O (R139-R202, R351-R374) -/

/-- LANE_SLOT_START and LANE_SLOT_END: a slot serves the next enabled position with the switches of its definition closed and no other of its lane, and its end offers one sample (R141, R168, R171-R174, R198). CAL_SLOT_DUE, CAL_SLOT_END and LANE_DRAINED: a measurement within the limits becomes part of the mean of four, another is rejected and changes no coefficient; in a source's calibration slot EX_STATUS shows it driving on the lane (R161, R179, R181, R182, R197, R198). The mean of fewer than four, and FE_MOVE_CNT at DRAINED alone, are the model's choices (DESIGN CHOICE, log entry 78). -/
def Obligations.LanesAndCalibration : Prop :=
  ((∀ (s : State) (n p : Nat), n < 48 → s.mgmt = Node.run → s.laneOn n = true → (s.lane n).slot = none → (s.lane n).calActive = false →
    (s.lane n).calDue = false → s.nextSlot n = some p → s.chValid (s.scanDef n p) = true → (s.lane n).holds (s.scanDef n p) = false →
    Ends (.laneSlotStart n) s (fun t => ∃ sl, (t.lane n).slot = some sl ∧ sl.pos = p ∧ sl.defn = s.scanDef n p ∧ sl.valid = true
      ∧ sl.image = s.chBytes (s.scanDef n p) ∧ sl.adjacent = (s.lane n).afterCal
      ∧ sl.factor = s.exFactor (s.chDef (s.scanDef n p))
      ∧ ∀ x, x ∈ (t.lane n).closed ↔ x ∈ (s.chDef (s.scanDef n p)).switches n))
  ∧ (∀ (s : State) (n : Nat), n < 48 → s.mgmt = Node.run ∨ s.mgmt = Node.setup → s.laneOn n = true → (s.lane n).slot = none →
    (s.lane n).calActive = false → (s.lane n).calDue = true → (s.lane n).atStart = false ∨ s.mgmt = Node.setup →
    Ends (.laneSlotStart n) s (fun t => (t.lane n).calActive = true ∧ (t.lane n).calDue = false ∧ (t.lane n).slot = none
      ∧ (∀ x, x ∈ (t.lane n).closed ↔ x ∈ s.calSwitches n (t.lane n).calItem) 
      ∧ ((t.lane n).calItem < 16 → (∀ k, k < 16 → s.rfld (Reg.EX_STATUS k) 8 8 ≠ n) → RegsBut s t [])
      ∧ (∀ k, k < 16 → (t.lane n).calItem = 16 + k → t.rbit (Reg.EX_STATUS k) 0 = true ∧ t.rfld (Reg.EX_STATUS k) 8 8 = n)))
  ∧ (∀ (s : State) (n dt : Nat) (m : SlotMeas) (sl : Slot), n < 48 → (s.fresh.pass dt).mgmt = Node.run →
    ((s.fresh.pass dt).lane n).slot = some sl → sl.valid = true → (s.fresh.pass dt).moving sl.defn = false →
    (s.fresh.pass dt).hasCredit n = true →
    Ends (.laneSlotEnd n m dt) s (fun t => (t.lane n).slot = none ∧ (t.lane n).nextPos = (sl.pos + 1) % 16
      ∧ t.reg (Reg.LANE_SAMPLE_CNT n) = satAdd ((s.fresh.pass dt).reg (Reg.LANE_SAMPLE_CNT n)) 1
      ∧ ∃ r : InRec, t.inlet.waiting = (s.fresh.pass dt).inlet.waiting ++ [(n, r)] ∧ r.kind = Kind.sample
        ∧ r.source = mkSource 1 sl.defn ∧ r.time = (s.fresh.pass dt).now)))
  ∧ ((∀ (s : State) (n : Nat), n < 48 → s.mgmt = Node.run ∨ s.mgmt = Node.setup → s.laneOn n = true →
    Ends (.calSlotDue n) s (fun t => (t.lane n).calDue = true ∧ RegsBut s t []))
  ∧ (∀ (s : State) (n : Nat) (meas : F32), n < 48 → s.mgmt = Node.run ∨ s.mgmt = Node.setup → (s.lane n).calActive = true →
    (s.lane n).calItem < 32 →
    (s.calRejects (s.lane n).calItem meas (s.reg (s.calReg n (s.lane n).calItem)) = false →
      Ends (.calSlotEnd n meas) s (fun t => (t.lane n).calActive = false ∧ (t.lane n).afterCal = true
        ∧ t.reg (s.calReg n (s.lane n).calItem) = meanOf ((meas :: s.calAccepted n (s.lane n).calItem).take 4)
        ∧ t.reg (Reg.LANE_CAL_LAST n) = meas))
    ∧ (s.calRejects (s.lane n).calItem meas (s.reg (s.calReg n (s.lane n).calItem)) = true →
      Ends (.calSlotEnd n meas) s (fun t => (t.lane n).calActive = false ∧ (t.lane n).afterCal = true
        ∧ t.reg (s.calReg n (s.lane n).calItem) = s.reg (s.calReg n (s.lane n).calItem)
        ∧ t.reg (Reg.LANE_CAL_LAST n) = meas ∧ t.reg (Reg.LANE_CAL_REJ_CNT n) = satAdd (s.reg (Reg.LANE_CAL_REJ_CNT n)) 1)))
  ∧ (∀ (s : State) (n k : Nat), n < 48 → s.drainedDef n = some k →
    Ends (.laneDrained n) s (fun t => k ∉ (t.lane n).drain
      ∧ ((∀ m, m < 48 → m ≠ n → k ∉ (s.lane m).drain) → t.moving k = false) ∧ t.rbit (Reg.LANE_EVT n) 1 = true
      ∧ t.reg Reg.FE_MOVE_CNT = satAdd (s.reg Reg.FE_MOVE_CNT) 1)))

/-- CLAMP_EVENT_START, CLAMP_EVENT_END, BURDEN_SHUNT_OPEN, BURDEN_SHUNT_RECLOSE, BIAS_CURRENT_LIMIT and XP_CHECK (R148-R151, R156). -/
def Obligations.TerminalsAndCheck : Prop :=
  (∀ (s : State) (k : Nat), k < 192 → s.clampNow k = false →
    Ends (.clampEventStart k) s (fun t => t.clampNow k = true ∧ t.rbit (Reg.XP_CLAMP_FLAG (k / 32)) (k % 32) = true
      ∧ t.reg (Reg.XP_CLAMP_CNT k) = satAdd (s.reg (Reg.XP_CLAMP_CNT k)) 1))
  ∧ (∀ (s : State) (k : Nat), k < 192 → Ends (.clampEventEnd k) s (fun t => t.clampNow k = false
      ∧ RegsBut s t [Reg.XP_CLAMP_NOW (k / 32)]))
  ∧ (∀ (s : State) (k : Nat), k < 192 → s.burdenOn k = true → s.burdenOpen k = false →
    Ends (.burdenShuntOpen k) s (fun t => t.burdenOpen k = true ∧ t.reg Reg.XP_BURDEN_OC_CNT = satAdd (s.reg Reg.XP_BURDEN_OC_CNT) 1
      ∧ RegsBut s t [Reg.XP_BURDEN_OPEN (k / 32), Reg.XP_BURDEN_OC_CNT]))
  ∧ (∀ (s : State) (k : Nat), k < 192 → Ends (.burdenShuntReclose k) s (fun t => t.burdenOpen k = false
      ∧ RegsBut s t [Reg.XP_BURDEN_OPEN (k / 32)]))
  ∧ (∀ (s : State) (k : Nat), k < 8 → s.rbit Reg.BS_STATUS k = false →
    Ends (.biasCurrentLimit k true) s (fun t => t.rbit Reg.BS_STATUS k = true ∧ t.reg Reg.BS_OC_CNT = satAdd (s.reg Reg.BS_OC_CNT) 1
      ∧ RegsBut s t [Reg.BS_STATUS, Reg.BS_OC_CNT]))
  ∧ (∀ (s : State) (k : Nat), k < 8 → Ends (.biasCurrentLimit k false) s (fun t => t.rbit Reg.BS_STATUS k = false
      ∧ RegsBut s t [Reg.BS_STATUS]))
  ∧ (∀ s : State, s.mgmt = Node.setup → Ends (.xpCheck 1) s (fun t => t.rbit Reg.XP_CHK_STATUS 0 = true
      ∧ (t.rbit Reg.XP_CHK_STATUS 1 = true ↔ ∃ n, n < 256 ∧ s.chValid n = false) ∧ RegsBut s t [Reg.XP_CHK_STATUS, Reg.XP_CHK_FIRST]))
  ∧ (∀ (s : State) (v : U32), s.mgmt ≠ Node.setup → Ends (.xpCheck v) s (fun t =>
      t.reg Reg.XP_CHK_STATUS = s.reg Reg.XP_CHK_STATUS ∧ t.rbit Reg.MGMT_EVT 2 = true))

/-- DIO_WRITE, DIO_WINDOW_END, COUNTER_EDGE and COUNT_PERIOD_EXPIRY (R354-R359, R362). -/
def Obligations.DioLevelsAndCounts : Prop :=
  (∀ (s : State) (d : Desc), s.Heads 0x73 d → d.resv 0x18 40 = true →
    (∀ n, n < 64 → (d.arg 8 8).testBit n = true → s.dioMode n = Dmode.outHost) →
    (∀ n, n < 64 → (d.arg 0x10 8).testBit n = true → (d.arg 8 8).testBit n = true) →
    Ends .dioWrite s (fun t => t.dioHost = (s.dioHost &&& ~~~(BitVec.ofNat 64 (d.arg 8 8))) ||| BitVec.ofNat 64 (d.arg 0x10 8)
      ∧ Answered s t d Status.ok t.dioHost ∧ t.reg Reg.DIO_WRITE_CNT = satAdd (s.reg Reg.DIO_WRITE_CNT) 1))
  ∧ (∀ (s : State) (b dt : Nat) (pins settled : U16), b < 4 → (s.fresh.pass dt).fieldUp b = true →
    (s.fresh.pass dt).stalled (b / 2) = false → Node.setup ≤ (s.fresh.pass dt).mgmt →
    Ends (.dioWindowEnd b pins settled dt) s (fun t =>
      t.reg (Reg.DIO_BANK_LEVEL b) = (pins &&& bankMask b (fun n => (s.fresh.pass dt).dioMode n == Dmode.in_ || (s.fresh.pass dt).dioOut n)).zeroExtend 32
      ∧ ((s.fresh.pass dt).mgmt = Node.run → ((s.fresh.pass dt).bank b).initial = true →
          (s.fresh.pass dt).hasCredit (Place.newt (b / 2)) = true →
          (t.bank b).initial = false ∧ ∃ r : InRec, t.inlet.waiting = (s.fresh.pass dt).inlet.waiting ++ [(Place.newt (b / 2), r)]
            ∧ r.kind = Kind.diChange ∧ r.source = mkSource 2 b ∧ (r.pay 0x1E 1).testBit 1 = true)))
  ∧ (∀ (s : State) (k : Nat), k < 16 → s.counts k = true →
    Ends (.counterEdge k) s (fun t => (t.counter k).count = (s.counter k).count + 1 ∧ (t.counter k).prev = (s.counter k).prev
      ∧ RegsBut s t []))
  ∧ (∀ (s : State) (k cycles dt : Nat), k < 16 → (s.fresh.pass dt).mgmt = Node.run → (s.fresh.pass dt).counts k = true →
    (s.fresh.pass dt).hasCredit (Place.newt (k / 8)) = true →
    Ends (.countPeriodExpiry k cycles dt) s (fun t => (t.counter k).prev = (t.counter k).count
      ∧ ∃ r : InRec, t.inlet.waiting = (s.fresh.pass dt).inlet.waiting ++ [(Place.newt (k / 8), r)] ∧ r.kind = Kind.count
        ∧ r.pay 0x18 4 = ((s.fresh.pass dt).counter k).count.toNat))

/-- NEWT_REFRESH, WATCHDOG_EXPIRY, NEWT_STALL and NEWT_RESTART (R35, R361, R363, R369). FAULT_SET, FAULT_CLEAR, FIELD_RESET, FIELD_SIDE_RESTART and THERMAL_SHUTDOWN_RETRY (R74, R353, R363, R366, R367). A field side resets and restarts in every node state; what shows it shows from SELFTEST on. That FIELD_RESET leaves DIO_BANK_EVT as it was, for its bit comes with the restart (DEDUCED, log entry 45), and that a claim is shared from the first refresh on (DEDUCED, log entry 41), is the model's reading. -/
def Obligations.FieldSideAndWatchdogs : Prop :=
  ((∀ (s : State) (n : Nat) (late : Bool), n < 2 → s.mgmt = Node.run → s.stalled n = false → s.holderAlive = true →
    Ends (.newtRefresh n late) s (fun t => t.skink.sharing = s.skink.claim
      ∧ (∀ b, b ∈ newtBanks n → Output.dioFrame b (t.bank b).commanded true ∈ t.out)
      ∧ (late = true → t.reg Reg.DIO_REFRESH_LATE_CNT = satAdd (s.reg Reg.DIO_REFRESH_LATE_CNT) 1 ∧ t.rbit Reg.DIO_EVT 1 = true)))
  ∧ (∀ (s : State) (b : Nat), b < 4 → Node.selftest ≤ s.mgmt → (s.bank b).wdExpired = false →
    Ends (.watchdogExpiry b) s (fun t => (t.bank b).wdExpired = true
      ∧ (t.bank b).pins = s.safeLevels b (s.bank b).pins &&& ~~~(s.bank b).shut ∧ (t.bank b).held = (s.bank b).pins
      ∧ t.rbit (Reg.DIO_BANK_STATUS b) 2 = false ∧ t.rbit (Reg.DIO_BANK_STATUS b) 3 = true
      ∧ t.reg (Reg.DIO_BANK_WD_CNT b) = satAdd (s.reg (Reg.DIO_BANK_WD_CNT b)) 1))
  ∧ (∀ (s : State) (n : Nat), n < 2 → s.stalled n = false →
    Ends (.newtStall n) s (fun t => t.stalled n = true ∧ t.rbit Reg.DIO_STATUS n = false ∧ t.rbit Reg.DIO_EVT 0 = true
      ∧ t.reg Reg.DIO_NEWT_RESTART_CNT = satAdd (s.reg Reg.DIO_NEWT_RESTART_CNT) 1))
  ∧ (∀ (s : State) (n : Nat), n < 2 → s.stalled n = true → s.rbit Reg.MGMT_SELFTEST (7 + n) = false →
    Ends (.newtRestart n) s (fun t => t.stalled n = false ∧ t.rbit Reg.DIO_STATUS n = true
      ∧ ∀ b, b ∈ newtBanks n → (t.bank b).initial = true ∧ t.inlet.lost.contains (mkSource 2 b).toNat = true)))
  ∧ ((∀ (s : State) (b : Nat) (c : FaultCause), b < 4 → s.bankFault b = false →
    Ends (.faultSet b c) s (fun t => t.bankFault b = true ∧ c ∈ (t.bank b).causes ∧ t.rbit (Reg.DIO_BANK_EVT b) 0 = true
      ∧ t.reg (Reg.DIO_BANK_FAULT_CNT b) = satAdd (s.reg (Reg.DIO_BANK_FAULT_CNT b)) 1
      ∧ ∀ i, c = .thermal i → bitAt (t.bank b).pins i.toNat = false))
  ∧ (∀ (s : State) (b : Nat), b < 4 → s.bankFault b = true → s.fieldUp b = true → s.shutDown b = false →
    Ends (.faultClear b) s (fun t => t.bankFault b = false ∧ (t.bank b).causes = [] ∧ t.rbit (Reg.DIO_BANK_EVT b) 1 = true))
  ∧ (∀ (s : State) (b : Nat), b < 4 → s.fieldUp b = true ∨ (s.bank b).powered = true →
    Ends (.fieldReset b) s (fun t => t.fieldUp b = false ∧ (t.bank b).pins = 0 ∧ (t.bank b).wdExpired = true
      ∧ (t.bank b).held = 0 ∧ (t.bank b).powered = false
      ∧ (∀ i, FaultCause.thermal i ∉ (t.bank b).causes)
      ∧ RegsBut s t [Reg.DIO_BANK_STATUS b]))
  ∧ (∀ (s : State) (b : Nat), b < 4 → s.fieldUp b = false →
    Ends (.fieldSideRestart b) s (fun t => (t.bank b).pins = s.safeLevels b 0 ∧ (t.bank b).wdExpired = true ∧ (t.bank b).powered = true
      ∧ (Node.selftest ≤ s.mgmt → t.fieldUp b = true
          ∧ t.reg (Reg.DIO_BANK_FRESET_CNT b) = satAdd (s.reg (Reg.DIO_BANK_FRESET_CNT b)) 1 ∧ t.rbit (Reg.DIO_BANK_EVT b) 2 = true)
      ∧ (s.mgmt < Node.selftest → RegsBut s t [])
      ∧ (s.mgmt = Node.run → (t.bank b).fieldResetRec = true)))
  ∧ (∀ (s : State) (ch : Nat) (shorted : Bool), ch < 64 → FaultCause.thermal (BitVec.ofNat 4 ch) ∈ (s.bank (ch / 16)).causes →
    s.fieldUp (ch / 16) = true →
    (shorted = true → s.driveLevel ch = true → Ends (.thermalShutdownRetry ch shorted) s (fun t => t = s.fresh))
    ∧ (shorted = false ∨ s.driveLevel ch = false → Ends (.thermalShutdownRetry ch shorted) s (fun t =>
        FaultCause.thermal (BitVec.ofNat 4 ch) ∉ (t.bank (ch / 16)).causes
        ∧ bitAt (t.bank (ch / 16)).pins (ch % 16) = s.driveLevel ch ∧ RegsBut s t []))))

/-! ## CAN FD (R375-R405) -/

/-- CAN_FRAME_RECEIVED, FILTER_WALK, PROTOCOL_EXCEPTION and CAN_BUS_ERROR (R376, R388, R390, R391, R394). That BUS_STATE reads 0 while the channel integrates after a protocol exception is the model's reading (DEDUCED, log entry 27). -/
def Obligations.CanReception : Prop :=
  (∀ (s : State) (ch dt : Nat) (f : CanFrame), ch < 8 → (s.fresh.pass dt).mgmt = Node.run → (s.fresh.pass dt).canOn ch = true →
    (frameFd f = true → (s.fresh.pass dt).canFd ch = true) →
    (((s.fresh.pass dt).canCh ch).rxFifo.length < 16 →
      Ends (.canFrameReceived ch f dt) s (fun t => t.reg (Reg.CAN_RX_CNT ch) = satAdd ((s.fresh.pass dt).reg (Reg.CAN_RX_CNT ch)) 1
        ∧ (t.canCh ch).rxFifo = ((s.fresh.pass dt).canCh ch).rxFifo
            ++ [(f, (s.fresh.pass dt).now, ((s.fresh.pass dt).canCh ch).seq + 1)]
        ∧ t.canWalk = (s.fresh.pass dt).canWalk ++ [ch]))
    ∧ (16 ≤ ((s.fresh.pass dt).canCh ch).rxFifo.length →
      Ends (.canFrameReceived ch f dt) s (fun t => (t.canCh ch).rxFifo = ((s.fresh.pass dt).canCh ch).rxFifo
        ∧ t.reg (Reg.CAN_RX_FIFO_OVF_CNT ch) = satAdd ((s.fresh.pass dt).reg (Reg.CAN_RX_FIFO_OVF_CNT ch)) 1
        ∧ t.inlet.lost.contains (mkSource 4 ch).toNat = true)))
  ∧ (∀ (s : State) (n : Nat) (rest : List Nat) (f : CanFrame) (time : U64) (q : U32) (l : List (CanFrame × U64 × U32)), n < 8 →
    s.canWalk = n :: rest → (s.canCh n).rxFifo = (f, time, q) :: l →
    Ends .filterWalk s (fun t => t.canWalk = rest ∧ (t.canCh n).rxFifo = l ∧ t.reg Reg.CAN_WALK_CNT = satAdd (s.reg Reg.CAN_WALK_CNT) 1
      ∧ ((s.walk f (s.filtWalked n).1 (s.filtWalked n).2 0 { }).found = none → s.rbit (Reg.CAN_CFG n) 7 = false →
          t.reg (Reg.CAN_RX_REJECT_CNT n) = satAdd (s.reg (Reg.CAN_RX_REJECT_CNT n)) 1 ∧ t.inlet = s.inlet)
      ∧ (∀ (i : Nat) (e : FiltElem), (s.walk f (s.filtWalked n).1 (s.filtWalked n).2 0 { }).found = some (i, e) → e.action = 2 →
          frameRtr f = false → s.hasCredit (Place.can n) = true →
          ∃ r : InRec, t.inlet.waiting = s.inlet.waiting ++ [(Place.can n, r)] ∧ r.kind = Kind.canFrame ∧ r.time = time
            ∧ r.payload = framePayload f e)))
  ∧ (∀ (s : State) (ch : Nat), ch < 8 → s.mgmt = Node.run → s.canOn ch = true → s.canFd ch = false →
    Ends (.protocolException ch) s (fun t => t.canBus ch = 0 ∧ t.canStat ch CanStat.integrating = true
      ∧ t.rbit (Reg.CAN_EVT ch) 9 = true ∧ t.can = s.can))
  ∧ (∀ (s : State) (ch : Nat) (err : CanErr), ch < 8 → s.mgmt = Node.run → err.asTransmitter = false → s.canOn ch = true →
    s.canMonitor ch = false →
    Ends (.canBusError ch err) s (fun t =>
      (t.canCh ch).recCnt = min ((s.canCh ch).recCnt + (if err.stepsOnly then 0 else 1) + 8 * err.flagSteps) 255
      ∧ (t.canCh ch).tecCnt = min (s.canCh ch).tecCnt 256
      ∧ t.reg (Reg.CAN_ERR_FRAME_CNT ch) =
          (if err.code = 0 then s.reg (Reg.CAN_ERR_FRAME_CNT ch) else satAdd (s.reg (Reg.CAN_ERR_FRAME_CNT ch)) 1)
      ∧ (err.code ≠ 0 → t.reg (Reg.CAN_LAST_ERR ch) = packU32 [(err.code.toNat, 0), (b2n err.dataPhase, 3)])
      ∧ t.canBus ch = errState (s.canCh ch).tecCnt ((s.canCh ch).recCnt + (if err.stepsOnly then 0 else 1) + 8 * err.flagSteps)))
  ∧ (∀ (s : State) (ch : Nat) (err : CanErr), ch < 8 → err.asTransmitter = true → s.canOn ch = true → s.canMonitor ch = false →
    (s.canCh ch).current = none ∨ err.stepsOnly = true → err.flagSteps ≠ 0 →
    Ends (.canBusError ch err) s (fun t => (t.canCh ch).tecCnt = min ((s.canCh ch).tecCnt + 8 * err.flagSteps) 256
      ∧ (t.canCh ch).recCnt = min (s.canCh ch).recCnt 255
      ∧ t.canBus ch = errState ((s.canCh ch).tecCnt + 8 * err.flagSteps) (s.canCh ch).recCnt))

/-- CAN_TX_ENTRY_TAKEN, TX_ATTEMPT_START and TX_ATTEMPT_END: an attempt ends with the frame sent, without an acknowledgment, in lost arbitration or in another error; a failed one is repeated, or is the frame's outcome where it had one attempt; an ACK error counts toward LONELY, and raises TEC only while the channel is error active; a host frame that asks for it has its outcome echoed (R379-R384, R388, R389, R397). -/
def Obligations.CanTransmission : Prop :=
  (∀ (s : State) (ch i : Nat) (l : List Byte) (rest : List (List Byte)), ch < 8 → s.mgmt = Node.run → s.canMode ch ≠ 0 →
    s.canStat ch CanStat.outOfService = false → (s.canCh ch).hostSlots < s.canShare ch → s.fetchedOf (10 + ch) = l :: rest →
    (s.canCh ch).freeSlot = some i →
    Ends (.canTxEntryTaken ch) s (fun t => t.reg (Reg.CAN_TX_TAKEN ch) = s.reg (Reg.CAN_TX_TAKEN ch) + 1
      ∧ t.fetchedOf (10 + ch) = rest
      ∧ (s.txEntryOk ch l = true → (t.canCh ch).slots = (s.canCh ch).slots ++ [txOfEntry l i (s.canCh ch).txSeq])
      ∧ (s.txEntryOk ch l = false → (t.canCh ch).slots = (s.canCh ch).slots
          ∧ t.reg (Reg.CAN_TX_ABORT_CNT ch) = satAdd (s.reg (Reg.CAN_TX_ABORT_CNT ch)) 1)))
  ∧ (∀ (s : State) (ch dt : Nat) (x : TxSlot), ch < 8 → (s.fresh.pass dt).mgmt = Node.run → (s.fresh.pass dt).canOn ch = true →
    (s.fresh.pass dt).canMonitor ch = false → ((s.fresh.pass dt).canCh ch).current = none →
    bestSlot ((s.fresh.pass dt).canCh ch).slots = some x →
    Ends (.txAttemptStart ch dt) s (fun t =>
      { x with inTx := true, attempts := min 255 (x.attempts + 1), sof := (s.fresh.pass dt).now } ∈ (t.canCh ch).slots))
  ∧ (∀ (s : State) (ch dt : Nat) (x : TxSlot), ch < 8 → (s.fresh.pass dt).mgmt = Node.run →
    ((s.fresh.pass dt).canCh ch).current = some x → ((s.fresh.pass dt).canCh ch).busOffWait = none → x.cancel = false →
    Ends (.txAttemptEnd ch .sent dt) s (fun t => (∀ y, y ∈ (t.canCh ch).slots → y.idx ≠ x.idx)
        ∧ t.reg (Reg.CAN_TX_OK_CNT ch) = satAdd ((s.fresh.pass dt).reg (Reg.CAN_TX_OK_CNT ch)) 1
        ∧ t.reg (Reg.CAN_NOACK_RUN ch) = 0 ∧ t.canStat ch CanStat.lonely = false
        ∧ Output.canFrame ch x.id x.rtr x.brs (bitAt x.id 30 && (s.fresh.pass dt).canBus ch == 2) x.dlc (frameData (bitAt x.id 30) x.rtr x.dlc.toNat x.data) ∈ t.out
        ∧ (((s.fresh.pass dt).canCh ch).tecCnt ≤ 256 → x.node = false → x.report = true → 1 ≤ x.attempts →
            Echoed (s.fresh.pass dt) t ch x TxOut.sent)
        ∧ (((s.fresh.pass dt).canCh ch).tecCnt ≤ 256 → x.node = true ∨ x.report = false →
            (t.canCh ch).echoes = ((s.fresh.pass dt).canCh ch).echoes))
    ∧ Ends (.txAttemptEnd ch .lostArb dt) s (fun t => AttemptFailed (s.fresh.pass dt) t ch x TxOut.lostArb
        ∧ t.reg (Reg.CAN_TX_ARB_LOST_CNT ch) = satAdd ((s.fresh.pass dt).reg (Reg.CAN_TX_ARB_LOST_CNT ch)) 1)
    ∧ (((s.fresh.pass dt).canCh ch).tecCnt ≤ 247 → (s.fresh.pass dt).canOn ch = true →
      Ends (.txAttemptEnd ch .ackError dt) s (fun t => AttemptFailed (s.fresh.pass dt) t ch x TxOut.noAck
        ∧ t.reg (Reg.CAN_TX_NOACK_CNT ch) = satAdd ((s.fresh.pass dt).reg (Reg.CAN_TX_NOACK_CNT ch)) 1
        ∧ t.reg (Reg.CAN_ERR_FRAME_CNT ch) = satAdd ((s.fresh.pass dt).reg (Reg.CAN_ERR_FRAME_CNT ch)) 1
        ∧ t.reg (Reg.CAN_LAST_ERR ch) = 3
        ∧ (t.canCh ch).tecCnt = ((s.fresh.pass dt).canCh ch).tecCnt + (if (s.fresh.pass dt).canBus ch = 1 then 8 else 0)
        ∧ ((s.fresh.pass dt).rbit (Reg.CAN_CFG ch) 8 = false →
            t.reg (Reg.CAN_NOACK_RUN ch) = (s.fresh.pass dt).reg (Reg.CAN_NOACK_RUN ch))
        ∧ ((s.fresh.pass dt).rbit (Reg.CAN_CFG ch) 8 = true →
            t.reg (Reg.CAN_NOACK_RUN ch) = BitVec.ofNat 32 (min 255 (((s.fresh.pass dt).reg (Reg.CAN_NOACK_RUN ch)).toNat + 1))
            ∧ (((s.fresh.pass dt).reg (Reg.CAN_NOACK_RUN ch)).toNat + 1 = (s.fresh.pass dt).rfld (Reg.CAN_CFG ch) 16 8 →
                t.canStat ch CanStat.lonely = true ∧ t.rbit (Reg.CAN_EVT ch) 2 = true
                ∧ t.reg (Reg.CAN_LONELY_CNT ch) = satAdd ((s.fresh.pass dt).reg (Reg.CAN_LONELY_CNT ch)) 1)))
      ∧ ∀ code dataPhase inArb acked, Ends (.txAttemptEnd ch (.error code dataPhase inArb acked) dt) s (fun t =>
        AttemptFailed (s.fresh.pass dt) t ch x TxOut.error
        ∧ t.reg (Reg.CAN_ERR_FRAME_CNT ch) = satAdd ((s.fresh.pass dt).reg (Reg.CAN_ERR_FRAME_CNT ch)) 1
        ∧ t.reg (Reg.CAN_LAST_ERR ch) = packU32 [(code.toNat, 0), (b2n dataPhase, 3)]
        ∧ (t.canCh ch).tecCnt = ((s.fresh.pass dt).canCh ch).tecCnt + (if inArb then 0 else 8)
        ∧ (acked = true → t.reg (Reg.CAN_NOACK_RUN ch) = 0 ∧ t.canStat ch CanStat.lonely = false)))
    ∧ (((s.fresh.pass dt).canCh ch).tecCnt ≤ 255 → 247 < ((s.fresh.pass dt).canCh ch).tecCnt →
      ∀ code dataPhase acked, Ends (.txAttemptEnd ch (.error code dataPhase false acked) dt) s (fun t => t.canBus ch = 3
        ∧ t.reg (Reg.CAN_BUSOFF_CNT ch) = satAdd ((s.fresh.pass dt).reg (Reg.CAN_BUSOFF_CNT ch)) 1 ∧ t.rbit (Reg.CAN_EVT ch) 0 = true)))

/-- INTEGRATION_COMPLETE, BUS_OFF_RECOVERY_COMPLETE, CAN_CANCEL and CAN_CHANNEL_CTL (R376, R385-R388, R404). -/
def Obligations.CanControl : Prop :=
  (∀ (s : State) (ch : Nat), ch < 8 → s.mgmt = Node.run → s.canStat ch CanStat.integrating = true →
    Ends (.integrationComplete ch) s (fun t => t.canStat ch CanStat.integrating = false
      ∧ t.canBus ch = errState (s.canCh ch).tecCnt (s.canCh ch).recCnt ∧ t.can = s.can ∧ RegsBut s t [Reg.CAN_STATUS ch]))
  ∧ (∀ (s : State) (ch : Nat), ch < 8 → s.mgmt = Node.run → s.canBus ch = 3 → s.canStat ch CanStat.recovering = true →
    Ends (.busOffRecoveryComplete ch) s (fun t => t.canBus ch = 1 ∧ t.canStat ch CanStat.recovering = false
      ∧ (t.canCh ch).tecCnt = 0 ∧ (t.canCh ch).recCnt = 0 ∧ (t.canCh ch).slots = (s.canCh ch).slots ∧ t.rbit (Reg.CAN_EVT ch) 8 = true))
  ∧ (∀ (s : State) (d : Desc), s.Heads 0x40 d → d.arg 8 1 ≤ 7 → d.arg 9 1 = 1 → d.resv 0xC 52 = true →
    s.fetchedOf (10 + d.arg 8 1) = [] →
    ((∀ x, x ∈ (s.canCh (d.arg 8 1)).slots → x.node = true) →
      Ends .canCancel s (fun t => Answered s t d Status.notFound 0 ∧ (t.canCh (d.arg 8 1)).slots = (s.canCh (d.arg 8 1)).slots))
    ∧ ((∀ x, x ∈ (s.canCh (d.arg 8 1)).slots → x.node = false → x.inTx = false) → (s.canCh (d.arg 8 1)).hostSlots ≠ 0 →
      Ends .canCancel s (fun t => Answered s t d Status.ok (BitVec.ofNat 64 (s.canCh (d.arg 8 1)).hostSlots)
        ∧ (t.canCh (d.arg 8 1)).slots = (s.canCh (d.arg 8 1)).slots.filter TxSlot.node)))
  ∧ (∀ (s : State) (d : Desc), s.Heads 0x41 d → d.arg 8 1 ≤ 7 → d.arg 0xA 1 ≤ 1 → d.resv 0xB 53 = true →
    (d.arg 9 1 = 2 → Ends .canChannelCtl s (fun t => Answered s t d Status.ok ((t.canStatusView (d.arg 8 1)).zeroExtend 64)
      ∧ t.canTerm (d.arg 8 1) = decide (d.arg 0xA 1 = 1)))
    ∧ (d.arg 9 1 = 3 → s.mgmt = Node.run → s.canMode (d.arg 8 1) = 1 → s.canStat (d.arg 8 1) CanStat.outOfService = false →
      Ends .canChannelCtl s (fun t => Answered s t d Status.ok ((t.canStatusView (d.arg 8 1)).zeroExtend 64)
        ∧ t.canMonitor (d.arg 8 1) = decide (d.arg 0xA 1 = 1))))

/-! ## The twin supervisor and Spawn (R296-R348) -/

/-- ENGINE_FAILURE, TICK_STALL and AE_INJECT: the failed engine leaves service and the hold; AE_INJECT fails in RUN, while the other engine is IN_SERVICE, an engine in any service state, the target of a state copy with the copy's end, and leaves one that is OFFLINE so (R298, R301, R304, R316, R324, Table 10-11). ENGINE_CTL: PREFER, REMOVE, which is a failure of cause 10 (DEDUCED, log entry 42), RETURN and HANDOVER (R318). -/
def Obligations.EngineFailuresAndControl : Prop :=
  (∀ (s : State) (e : EngineId), s.serves e = true →
    (∀ cause, 1 ≤ cause → cause ≤ 3 → Ends (.engineFailure e cause) s (fun t => EngineFailed s t e cause))
    ∧ (s.noCredit e = true → s.serves (other e) = false ∨ s.noCredit (other e) = false →
        Ends (.engineFailure e 4) s (fun t => EngineFailed s t e 4))
    ∧ (s.running = true → s.outletFull = false → s.tickWaits e = true → Ends (.tickStall e) s (fun t => EngineFailed s t e 5))
    ∧ (s.mgmt = Node.run → (s.eng (other e)).svc = Svc.inService → Ends (.aeInject e 0x5A) s (fun t => EngineFailed s t e 3))
    ∧ (∀ v, v ≠ 0x5A → Ends (.aeInject e v) s (fun t => t.aeA = s.aeA ∧ t.aeB = s.aeB ∧ t.rbit Reg.MGMT_EVT 2 = true)))
  ∧ (∀ (s : State) (e : EngineId), s.mgmt = Node.run → (s.eng (other e)).svc = Svc.inService → s.serves e = false →
    (s.isTarget e = false → Ends (.aeInject e 0x5A) s (fun t => FailedOut s t e 3 ∧ t.skink = s.skink))
    ∧ (∀ c, s.skink.copy = some c → c.target = e → c.source = other e → Ends (.aeInject e 0x5A) s (fun t => t.serves e = false ∧ t.skink.copy = none
        ∧ (t.eng e).lastCause = 3 ∧ (t.eng (other e)).stopped = false
        ∧ t.reg (Reg.AE_FAIL_CNT (engIx e)) = satAdd (s.reg (Reg.AE_FAIL_CNT (engIx e))) 1)))
  ∧ (∀ (s : State) (d : Desc) (e : EngineId), s.Heads 0x71 d → engOf (d.arg 9 1) = some e → d.resv 0xA 54 = true →
    (d.arg 8 1 = 0 → Ends .engineCtl s (fun t => Answered s t d Status.ok 0 ∧ t.skink = { s.skink with preferred := e }))
    ∧ (d.arg 8 1 = 1 → s.mgmt = Node.run → s.serves e = true → s.serves (other e) = true →
      Ends .engineCtl s (fun t => EngineFailed s t e 10 ∧ t.hif.ready.getLast? = some (d.answer Status.ok 0)
        ∧ (t.eng e).svc = (if ((s.eng e).failTimes.filter (fun u => decide (s.frcNat - u < failWindow))).length < 2
            then Svc.failed else Svc.offline)))
    ∧ (d.arg 8 1 = 2 → s.mgmt = Node.run → s.skink.copy = none → (s.eng e).svc = Svc.offline → (s.eng e).vecFailed = false →
      Ends .engineCtl s (fun t => Answered s t d Status.ok 0 ∧ t.eng e = { s.eng e with svc := Svc.failed }))
    ∧ (d.arg 8 1 = 3 → s.mgmt = Node.run → s.skink.holder ≠ some e → (s.eng e).svc = Svc.inService →
      Ends .engineCtl s (fun t => Answered s t d Status.ok 0 ∧ t.eng e = { s.eng e with handReq := true }))
    ∧ (d.arg 8 1 = 3 → s.mgmt = Node.run → s.skink.holder = some e →
      Ends .engineCtl s (fun t => Answered s t d Status.state 0 ∧ t.aeA = s.aeA ∧ t.aeB = s.aeB)))

/-- HOLD_GRANT, TAKE_BACK, ENGINE_RETURN_TEST, STATE_COPY_COMPLETE and RETURN_HOLDOFF_EXPIRY (R299, R311-R315). -/
def Obligations.HoldAndReturn : Prop :=
  (∀ (s : State) (e : EngineId), s.running = true → s.skink.holder = none → s.candidate = some e →
    Ends .holdGrant s (fun t => t.skink.holder = some e ∧ t.skink.handover = false ∧ t.rbit Reg.SKINK_EVT 0 = true
      ∧ t.reg Reg.SKINK_TAKEOVER_CNT = satAdd (s.reg Reg.SKINK_TAKEOVER_CNT) 1))
  ∧ (∀ (s : State) (e : EngineId), s.takeBackTo = some e →
    Ends .takeBack s (fun t => t.skink.holder = some e ∧ (t.eng e).handReq = false ∧ (t.eng e).proved = false
      ∧ t.rbit Reg.SKINK_EVT 1 = true ∧ t.reg Reg.SKINK_TAKEBACK_CNT = satAdd (s.reg Reg.SKINK_TAKEBACK_CNT) 1))
  ∧ (∀ (s : State) (e : EngineId), s.mgmt = Node.run → (s.eng e).svc = Svc.failed → s.skink.copy = none → s.serves (other e) = true →
    Ends (.engineReturnTest e true) s (fun t => (t.eng e).svc = Svc.resync
        ∧ t.skink.copy = some { source := other e, target := e } ∧ t.eng (other e) = s.eng (other e))
    ∧ (s.skink.holder ≠ some e → Ends (.engineReturnTest e false) s (fun t => EngineFailed s t e 11)))
  ∧ (∀ (s : State) (c : Copy), s.skink.copy = some c → c.started = true →
    Ends (.stateCopyComplete true) s (fun t => t.skink.copy = none ∧ (t.eng c.target).svc = Svc.proving
        ∧ (t.eng c.target).evalIsn = c.isn ∧ (t.eng c.target).pts = (s.eng c.source).pts ∧ (t.eng c.target).grs = (s.eng c.source).grs
        ∧ (t.eng c.target).nextEsn = (s.eng c.source).nextEsn ∧ (t.eng c.source).stopped = false)
    ∧ Ends (.stateCopyComplete false) s (fun t => t.skink.copy = none ∧ t.serves c.target = false ∧ (t.eng c.target).lastCause = 12
        ∧ (t.eng c.source).stopped = false))
  ∧ (∀ (s : State) (e : EngineId), s.mgmt = Node.run → (s.eng e).svc = Svc.proving →
    Ends (.returnHoldoffExpiry e) s (fun t => (t.eng e).svc = Svc.inService ∧ t.eng (other e) = s.eng (other e)
      ∧ t.skink = s.skink))

/-- AUDIT_OFFER, AUDIT_COMPARE and DIVERGE_RESOLUTION: no audit while a DIVERGE is outstanding, a DIVERGE on every difference, behind one that is outstanding already, and Table 10-5, with the REPAIR records of its last row in ascending index (R307-R310, R534). -/
def Obligations.AuditAndDivergence : Prop :=
  (∀ s : State, s.mgmt = Node.run → s.rbit Reg.SKINK_AUDIT_CTL 0 = true → s.inlet.tickNo.toNat % 1000 = 0 →
    s.inlet.tickNo ≠ s.skink.auditTick → s.skink.diverge = none →
    (s.bothServe = true → Ends .auditOffer s (fun t => t.skink.auditPos = (s.skink.auditPos + 1) % 81
      ∧ ∃ r : InRec, t.inlet.waiting = s.inlet.waiting ++ [(Place.skink, r)] ∧ r.kind = Kind.resync
        ∧ r.payload = s.resyncPayload Resync.audit 0 (BitVec.ofNat 32 s.skink.auditPos)))
    ∧ (s.bothServe = false → Ends .auditOffer s (fun t => t.inlet = s.inlet
      ∧ t.reg Reg.SKINK_AUDIT_SKIP_CNT = satAdd (s.reg Reg.SKINK_AUDIT_SKIP_CNT) 1)))
  ∧ (∀ s : State, s.skink.diverge.isSome = true → Ends .auditOffer s (fun t => t = s.fresh))
  ∧ (∀ (s : State) (k : Nat) (a b : List U32), s.aeA.audit = some (k, a) → s.aeB.audit = some (k, b) →
    (differing a b = [] → Ends .auditCompare s (fun t => t.aeA.audit = none ∧ t.aeB.audit = none
      ∧ t.skink.diverge = s.skink.diverge ∧ RegsBut s t []))
    ∧ (∀ i l, differing a b = i :: l → s.mgmt = Node.run →
      Ends .auditCompare s (fun t => t.aeA.audit = none ∧ t.aeB.audit = none
        ∧ (s.skink.diverge = none → t.skink.diverge = some (divergeArg k i (l.length + 1) 0))
        ∧ (s.skink.diverge.isSome = true → t.skink.diverge = s.skink.diverge
            ∧ t.skink.diverges = s.skink.diverges ++ [divergeArg k i (l.length + 1) 0])
        ∧ t.reg Reg.SKINK_LAST_DIVERGE = divergeArg k i (l.length + 1) 0
        ∧ t.reg Reg.SKINK_DIVERGE_CNT = satAdd (s.reg Reg.SKINK_DIVERGE_CNT) 1
        ∧ ∃ r : InRec, t.inlet.waiting = s.inlet.waiting ++ [(Place.skink, r)] ∧ r.kind = Kind.resync
            ∧ r.payload = s.resyncPayload Resync.diverge 0 (divergeArg k i (l.length + 1) 0))))
  ∧ (∀ (s : State) (a : U32) (ra rb : List Nat), s.skink.diverge = some a → s.bothServe = true → s.aeA.report = some ra →
    s.aeB.report = some rb →
    (ra ≠ [] → rb = [] → Ends .divergeResolution s (fun t => EngineFailed s t .A 7 ∧ t.skink.diverge = s.skink.diverges.head? ∧ t.skink.mismatches = []))
    ∧ (ra = [] → rb ≠ [] → Ends .divergeResolution s (fun t => EngineFailed s t .B 7 ∧ t.skink.diverge = s.skink.diverges.head? ∧ t.skink.mismatches = []))
    ∧ (∀ e, (ra = [] ↔ rb = []) → s.nonHolder = some e →
        Ends .divergeResolution s (fun t => EngineFailed s t e 8 ∧ t.skink.diverge = s.skink.diverges.head? ∧ t.skink.mismatches = []
          ∧ (s.mgmt = Node.run → ∃ rest repairs, t.inlet.waiting = rest ++ repairs
              ∧ repairs.map (fun w => (w.1, w.2.kind, w.2.payload)) = (if e = .A then rb else ra).map (fun i =>
                  (Place.skink, Kind.resync, t.resyncPayload Resync.repair 0 (packU32 [(fld a 0 7, 0), (i, 7)])))))))

/-- INTLK_IN_CHANGE, PAIR_CLAIM, PAIR_RELEASE and PAIR_SENSE_CHANGE (R319-R322). A tie is one that is seen before the claimant's first refresh (log entry 41, DEDUCED: R320 gives the claimant 2 µs). -/
def Obligations.ExternalPair : Prop :=
  (∀ (s : State) (high : Bool), Ends (.intlkInChange high) s (fun t => t.skink.intlkInHigh = high
    ∧ (high = false → s.skink.claim = true → s.skink.sharing = false → s.rfld Reg.PAIR_CTL 8 6 < s.nodeId →
        t.skink.claim = false ∧ t.reg Reg.PAIR_TIE_CNT = satAdd (s.reg Reg.PAIR_TIE_CNT) 1
          ∧ Output.pin "INTLK_OUT_N" true ∈ t.out)))
  ∧ (∀ s : State, s.paired = true → s.skink.claim = false → s.pairEligible = true → s.skink.intlkInHigh = true →
    (s.rfld Reg.PAIR_CTL 8 6 ≠ s.nodeId → Ends .pairClaim s (fun t => t.skink = { s.skink with claim := true }
      ∧ t.reg Reg.PAIR_CLAIM_CNT = satAdd (s.reg Reg.PAIR_CLAIM_CNT) 1 ∧ t.out = [.pin "INTLK_OUT_N" false]))
    ∧ (s.rfld Reg.PAIR_CTL 8 6 = s.nodeId → Ends .pairClaim s (fun t => t.skink = s.skink ∧ t.rbit Reg.SKINK_EVT 7 = true)))
  ∧ (∀ s : State, s.skink.claim = true → s.pairEligible = false →
    Ends .pairRelease s (fun t => t.skink.claim = false ∧ t.skink.sharing = false ∧ Output.pin "INTLK_OUT_N" true ∈ t.out
      ∧ (s.running = false → ∀ n, n < 64 → s.sharedOut n = true → s.stalled (n / 32) = false →
          bitAt (t.bank (n / 16)).commanded (n % 16) = false)))
  ∧ (∀ (s : State) (high : Bool), Ends (.pairSenseChange high) s (fun t => t.skink = { s.skink with pairSenseHigh := high }
    ∧ (high = true → s.skink.pairSenseHigh = false → s.rbit Reg.PAIR_CTL 0 = true →
        t.reg Reg.PAIR_LOST_CNT = satAdd (s.reg Reg.PAIR_LOST_CNT) 1 ∧ t.rbit Reg.SKINK_EVT 5 = true)))

/-- SPAWN_CTL and SPAWN_TRIGGER (R329, R341, R342, Tables 11-7 to 11-11). SNAPSHOT_MARK_OFFER, SNAPSHOT_COPY_COMPLETE and SNAP_TIMEOUT (R330-R332, Table 11-4). A SPAWN_CTL argument that its FUNC does not use is not looked at (log entry 33, DEDUCED). -/
def Obligations.CapturesAndSnapshots : Prop :=
  ((∀ (s : State) (d : Desc) (img : Image), s.Heads 0x50 d → d.resv 0x18 40 = true →
    (d.arg 8 1 = 0 → Ends (.spawnCtl img) s (fun t => Answered s t d Status.ok 0 ∧ t.capMode = 0 ∧ t.capState = Cap.idle
      ∧ t.spawn.journaling = false ∧ t.spawn.ring = []))
    ∧ (d.arg 8 1 = 3 → d.arg 0xE 2 = 0 → d.aligned 0x10 = true →
      Ends (.spawnCtl img) s (fun t => Answered s t d Status.ok 0 ∧ t.spawn.trigTable = [] ∧ t.rfld Reg.SPAWN_TRIG_CFG 16 9 = 0))
    ∧ (d.arg 8 1 = 1 → d.arg 0xA 2 ≤ 3600 → 4 ≤ s.spawnShare → s.capturing = false →
      Ends (.spawnCtl img) s (fun t => Answered s t d Status.ok 0 ∧ t.capMode = 1 ∧ t.spawn.ring = []
        ∧ t.spawn.markWanted = (s.mgmt != Node.setup) ∧ t.capState = (if s.mgmt = Node.setup then Cap.armed else Cap.snapshot)))
    ∧ (d.arg 8 1 = 1 → d.arg 0xA 2 ≤ 3600 → 4 ≤ s.spawnShare → s.capturing = true →
      Ends (.spawnCtl img) s (fun t => Answered s t d Status.busy 0 ∧ t.spawn = s.spawn)))
  ∧ (∀ (s : State) (d : Desc), s.Heads 0x51 d →
    (s.capMode = 2 → s.spawn.journaling = true → s.rbit Reg.SPAWN_TRIG_CFG 2 = true → s.spawn.triggered = false →
      s.capState = Cap.recording →
      Ends .spawnTrigger s (fun t => Answered s t d Status.ok s.inlet.isn ∧ t.spawn.triggered = true ∧ t.capState = Cap.postTrigger
        ∧ t.reg Reg.SPAWN_TRIG_CNT = satAdd (s.reg Reg.SPAWN_TRIG_CNT) 1
        ∧ t.pair Reg.SPAWN_TRIG_ISN_LO Reg.SPAWN_TRIG_ISN_HI = s.inlet.isn))
    ∧ (s.capMode ≠ 2 → Ends .spawnTrigger s (fun t => Answered s t d Status.state 0 ∧ t.spawn = s.spawn))))
  ∧ ((∀ s : State, s.mgmt = Node.run → s.spawn.markWanted = true → s.markWaits = false → s.inlet.barriers = [] → s.inlet.cmds.any CmdUnit.cfg = false →
    Ends .snapshotMarkOffer s (fun t => t.spawn = { s.spawn with markWanted := false, snapping := true }
      ∧ ∃ r : InRec, t.inlet.waiting = s.inlet.waiting ++ [(Place.gecko, r)] ∧ r.kind = Kind.mark ∧ r.ext = [] ∧ r.time = s.now))
  ∧ (∀ (s : State) (e : EngineId) (pts : Region PtState) (grs : Region GrState) (isn : U64),
    s.spawn.staging = some (e, pts, grs, isn) → s.spawn.units.any s.spawn.isSnap = false →
    Ends .snapshotCopyComplete s (fun t => ∃ u : SpawnUnit, u.kind = 0 ∧ u.snap = some isn ∧ u.closed = true
      ∧ u.bytes = (s.snapRegions pts grs).flatMap (fun r => sectionBytes e isn r.1 r.2)
      ∧ (s.capMode ≠ 1 → t.spawn.units = s.spawn.units ++ [u])
      ∧ (s.capMode = 1 → ∃ j : SpawnUnit, t.spawn.units = s.spawn.units ++ [u, j] ∧ j.kind = 1 ∧ j.closed = false)))
  ∧ (∀ s : State, s.snapUnderWay = true →
    Ends .snapTimeout s (fun t => t.snapUnderWay = false ∧ t.rbit Reg.SPAWN_STATUS 5 = false ∧ t.rbit Reg.SPAWN_EVT 2 = true
      ∧ t.reg Reg.SPAWN_SNAP_FAIL_CNT = satAdd (s.reg Reg.SPAWN_SNAP_FAIL_CNT) 1
      ∧ (s.capMode = 1 → t.capMode = 0 ∧ t.spawn.journaling = false))))

/-- SPAWN_OUT_BUFFER_WRITE, CHECKPOINT and WINDOW_FREEZE (R326, R327, R337, R339): a buffer of the oldest unit, the three CHECKPOINT records and those that wait behind them, and the window once none of its records waits. -/
def Obligations.JournalStreaming : Prop :=
  (∀ (s : State) (u : SpawnUnit) (rest : List SpawnUnit), 0 < s.ringCredit 7 → s.spawn.unwritten = 0 → s.spawn.units = u :: rest →
    u.closed = true →
    (s.rbit (Reg.RING_STATUS 7) 2 = false → Ends (.spawnOutBufferWrite none) s (fun t => t.rbit (Reg.RING_STATUS 7) 2 = true
      ∧ t.rfld (Reg.RING_STATUS 7) 4 3 = 3 ∧ t.spawn = s.spawn))
    ∧ ∀ a, Ends (.spawnOutBufferWrite (some a)) s (fun t => t.reg (Reg.RING_NODE_IDX 7) = s.reg (Reg.RING_NODE_IDX 7) + 1
      ∧ (∃ b : SpawnBuf, t.spawn.kept = s.spawn.kept ++ [b] ∧ b.data = u.bytes.take 4096
          ∧ b.info = (if u.restart && u.first then 1 else s.spawn.seq + 1)
          ∧ Output.hostRead (s.ringSlot 7 (s.reg (Reg.RING_NODE_IDX 7))) 8 ∈ t.out ∧ Output.hostWrite a b.data ∈ t.out
          ∧ Output.ringEntry 7 (s.reg (Reg.RING_NODE_IDX 7)) (s.ringSlot 7 (s.reg (Reg.RING_NODE_IDX 7)) + 8) b.desc ∈ t.out)
      ∧ (u.bytes.length ≤ 4096 → t.spawn.units = rest)
      ∧ (4096 < u.bytes.length → t.spawn.units = { u with bytes := u.bytes.drop 4096, first := false } :: rest)))
  ∧ (∀ (s : State) (isn time tick : U64) (e : EngineId), s.mgmt = Node.run → s.spawn.ckptDue = some (isn, time, tick) →
    s.sourceEng = some e → (∀ x, x ∈ s.servers → isn.toNat ≤ (s.eng x).evalIsn.toNat) → s.spawn.journaling = true →
    s.windowFull = false ∨ s.spawn.behind ≠ [] →
    Ends .checkpoint s (fun t => t.spawn.ckptDue = none ∧ t.spawn.ckptNo = s.spawn.ckptNo + 1 ∧ t.spawn.behind = []
      ∧ t.reg Reg.SPAWN_CKPT_NO = (s.spawn.ckptNo + 1).zeroExtend 32
      ∧ (s.capMode = 1 → t.spawn.ring = s.spawn.ring
          ++ (List.range 3).map (ckptRecord isn time tick (s.spawn.ckptNo + 1) e s.hashesDiffer (s.eng e).hashes) ++ s.spawn.behind)))
  ∧ (∀ s : State, s.capState = Cap.postTrigger → s.windowFull = true → s.spawn.behind = [] →
    Ends .windowFreeze s (fun t => t.capState = Cap.frozen ∧ t.rbit Reg.SPAWN_EVT 1 = true
      ∧ ∃ u : SpawnUnit, t.spawn.units = s.spawn.units ++ [u] ∧ u.kind = 3 ∧ u.closed = true
        ∧ u.bytes = (if s.spawn.torn then s.spawn.ring.drop 1 else s.spawn.ring).flatten))

/-- REPLAY_START, REPLAY_STOP, REPLAY_BUFFER, REPLAY_CHECKPOINT_COMPARE and REPLAY_DONE (R343-R348). That HELD comes before DONE, that a buffer which cannot be read stops ring 8 with DMA_ABORT, and that an engine which is not OFFLINE serves without a vector test, is read from the rules by inference (log entry 37, DEDUCED). -/
def Obligations.ReplayRuns : Prop :=
  (∀ (s : State) (d : Desc), s.Heads 0x52 d → d.arg 8 4 ≤ 3 → d.resv 0xC 4 = true → d.resv 0x18 40 = true → s.ringActive 8 = true →
    (s.capturing = false ∨ s.capState = Cap.frozen) → (s.eng s.skink.preferred).svc ≠ Svc.offline →
    Ends .replayStart s (fun t => t.mgmt = Node.replay ∧ t.skink.holder = some s.skink.preferred ∧ t.rpState = Rp.loading
      ∧ t.inlet.stream = [] ∧ t.inlet.isn = 0 ∧ t.hif.running = s.hif.running ++
        [{ tag := d.tag, opcode := 0x52, irqNow := d.irqNow, isn := 0, dir := true }]))
  ∧ (∀ (s : State) (d : Desc), s.Heads 0x52 d → (s.eng s.skink.preferred).svc ≠ Svc.offline →
    (3 < d.arg 8 4 → Ends .replayStart s (fun t => t.mgmt = Node.replay ∧ t.rpState = Rp.error
      ∧ t.hif.ready.getLast? = some (d.answer Status.badArg 0)))
    ∧ (d.arg 8 4 ≤ 3 → d.resv 0xC 4 = true → d.resv 0x18 40 = true → s.ringActive 8 = false →
      Ends .replayStart s (fun t => t.mgmt = Node.replay ∧ t.rpState = Rp.error
        ∧ t.hif.ready.getLast? = some (d.answer Status.state 0))))
  ∧ (∀ (s : State) (d : Desc), s.Heads 0x53 d →
    Ends .replayStop s (fun t => t.mgmt = Node.setup ∧ t.rpState = Rp.idle ∧ t.cfgDirty = true ∧ t.dio.replayHold = none
      ∧ t.hif.ready.getLast? = some (d.answer Status.ok (s.reg Reg.SPAWN_RP_CKPT_CNT ++ s.reg Reg.SPAWN_RP_STATUS))))
  ∧ (∀ (s : State) (b : List Byte) (rest : List (List Byte)), s.fetchedOf 8 = b :: rest → s.mgmt = Node.replay →
    (s.rpState = Rp.loading ∨ s.rpState = Rp.running) → s.spawn.replay.lastSeen = false → s.rpRoom = true →
    (s.rbit (Reg.RING_STATUS 8) 2 = false → Ends (.replayBuffer none) s (fun t => t.rbit (Reg.RING_STATUS 8) 2 = true
      ∧ t.rfld (Reg.RING_STATUS 8) 4 3 = 3 ∧ t.spawn = s.spawn ∧ Output.hostRead (leAt b 0 8) (leAt b 8 2) ∈ t.out))
    ∧ (∀ l, u32At b 0xC ≠ s.spawn.replay.seq + 1 → Ends (.replayBuffer (some l)) s (fun t => t.rpState = Rp.error
      ∧ t.rfld Reg.SPAWN_RP_STATUS 4 4 = RpErr.sequence ∧ t.fetchedOf 8 = rest))
    ∧ (∀ l, u32At b 0xC = s.spawn.replay.seq + 1 → Ends (.replayBuffer (some l)) s (fun t =>
      t.spawn.replay.seq = s.spawn.replay.seq + 1 ∧ t.fetchedOf 8 = rest)))
  ∧ (∀ (s : State) (isn : U64) (x : U64 × U64), s.mgmt = Node.replay → s.spawn.ckptDue = some (isn, x) → s.spawn.replay.ckpt ≠ [] →
    (∀ e, e ∈ s.servers → isn.toNat ≤ (s.eng e).evalIsn.toNat) →
    Ends .replayCheckpointCompare s (fun t => t.spawn.replay.compared = s.spawn.replay.compared + 1))
  ∧ (∀ s : State, s.mgmt = Node.replay → s.rpState = Rp.running → s.allEvaluated = true →
    (s.rpStopped = true → Ends .replayDone s (fun t => t.rpState = Rp.held ∧ t.spawn = s.spawn))
    ∧ (s.rpStopped = false → s.spawn.replay.lastSeen = true → s.spawn.replay.buf = [] → s.allWritten = true →
      Ends .replayDone s (fun t => t.rpState = Rp.done ∧ t.rbit Reg.SPAWN_EVT 5 = true
        ∧ t.rfld Reg.SPAWN_RP_STATUS 8 2 = (if s.spawn.replay.mismatch then 2 else if s.spawn.replay.compared = 0 then 0 else 1))))

/-! ## Wellspring, the RTC and the panel (R408-R468) -/

/-- TIME_ADJ, TIME_SWITCH and HOST_TIMEOUT: the host's ways to set rate, offset, quality, a one-shot start and an asymmetry; a switch is armed and takes place when FRC reaches its instant (R409-R413, R428-R430, Table 14-5). Read by inference (DEDUCED): FUNC 5 in INCREMENT is only recorded (log entry 73), BAD_ARG comes before STATE and STATE before BUSY (log entry 26), and RESULT is the row's instant (log entry 55). -/
def Obligations.HostTimeControl : Prop :=
  (∀ (s : State) (dt : Nat) (d : Desc), ∀ r : State, s.fresh.pass dt = r → r.Heads 0x75 d →
    (r.adjBad d = true → Ends (.timeAdj dt) s (fun t => Answered r t d Status.badArg 0 ∧ t.ws = r.ws))
    ∧ (r.adjBad d = false → r.adjState d = true → Ends (.timeAdj dt) s (fun t => Answered r t d Status.state 0 ∧ t.ws = r.ws))
    ∧ (r.adjBad d = false → r.adjState d = false →
      (d.arg 8 1 = 0 ∨ d.arg 8 1 = 3 ∨ d.arg 8 1 = 4 → r.ws.armed = none →
        Ends (.timeAdj dt) s (fun t => Deferred r t d ∧ t.now = r.now ∧ ∃ sw : Switch, t.ws = { r.ws with armed := some sw }
          ∧ sw.step = sext 64 (d.arg 0x20 8) ∧ sw.normal = (d.arg 8 1 != 4) ∧ sw.rate = BitVec.ofNat 64 (d.arg 0x18 8)
          ∧ sw.inc = BitVec.ofNat 64 (d.arg 0x28 8) ∧ sw.late = decide (d.arg 0x10 8 < r.frcNat)
          ∧ (r.frcNat ≤ d.arg 0x10 8 → sw.at_ = BitVec.ofNat 64 (d.arg 0x10 8)) ∧ (d.arg 0x10 8 < r.frcNat → sw.at_ = r.ws.frc + 1)))
      ∧ (d.arg 8 1 = 0 ∨ d.arg 8 1 = 2 ∨ d.arg 8 1 = 3 ∨ d.arg 8 1 = 4 → r.ws.armed.isSome = true →
        Ends (.timeAdj dt) s (fun t => Answered r t d Status.busy 0 ∧ t.ws = r.ws))
      ∧ (d.arg 8 1 = 1 → Ends (.timeAdj dt) s (fun t => Answered r t d Status.ok 0
          ∧ t.ws = { r.ws with inc := BitVec.ofNat 64 (d.arg 0x28 8), quality := 4 }))
      ∧ (d.arg 8 1 = 2 → r.ws.armed = none → Ends (.timeAdj dt) s (fun t => Answered r t d Status.ok (r.ws.frc + 1)
          ∧ t.ws.frc = r.ws.frc + 1 ∧ t.ws.quality = 4
          ∧ t.ws.counter = (r.ws.clocks 1).counter + ofInt 96 (sext 64 (d.arg 0x20 8) * 2 ^ 32)))
      ∧ (d.arg 8 1 = 5 → Ends (.timeAdj dt) s (fun t => Answered r t d Status.ok 0
          ∧ t.ws = { r.ws with quality := if r.ws.normal then BitVec.ofNat 3 (d.arg 9 1) else r.ws.quality,
                               hostQuality := BitVec.ofNat 3 (d.arg 9 1) }))
      ∧ (d.arg 8 1 = 6 → Ends (.timeAdj dt) s (fun t => Answered r t d Status.ok 0 ∧ (t.tmo (d.arg 9 1)).armed = true
          ∧ (t.tmo (d.arg 9 1)).fired = false ∧ t.tmoStart (d.arg 9 1) = d.arg 0x30 8 ∧ t.ws.servo = r.ws.servo))
      ∧ (d.arg 8 1 = 7 → Ends (.timeAdj dt) s (fun t => Answered r t d Status.ok 0
          ∧ t.reg (Reg.PTP_ASYM_RUN (d.arg 9 1)) = u32At d.raw 0x20
          ∧ RegsBut r t [Reg.PTP_ASYM_RUN (d.arg 9 1), Reg.RING_NODE_IDX 0, Reg.RING_ENTRY_CNT 0, Reg.MSIX_PBA 0]))))
  ∧ (∀ (s : State) (sw : Switch), s.ws.armed = some sw →
    Ends .timeSwitch s (fun t => t.ws.frc = sw.at_ ∧ t.ws.armed = none ∧ t.ws.normal = sw.normal
      ∧ (sw.normal = true → t.ws.rate = sw.rate) ∧ (sw.normal = false → t.ws.inc = sw.inc)
      ∧ t.now = (s.ws.clocks (sw.at_ - s.ws.frc).toNat).time + ofInt 64 sw.step
      ∧ (s.servoHost = true → t.ws.quality = (if sw.func = 3 then 2 else if sw.func = 4 then 4 else s.ws.hostQuality))
      ∧ (∀ tag irq, sw.cmd = some (tag, irq) → ∃ c, c ∈ t.hif.ready ∧ c.tag = tag ∧ c.opcode = 0x75 ∧ c.result = sw.at_
          ∧ c.status.toNat = (if sw.late then Status.late else Status.ok))))
  ∧ (∀ s : State, s.servoHost = true → s.ws.normal = true →
    (s.mgmt ≠ Node.activating → Ends .hostTimeout s (fun t => t.ws = { s.ws with quality := 3 } ∧ RegsBut s t []))
    ∧ (s.mgmt = Node.activating → Ends .hostTimeout s (fun t => t = s.fresh)))

/-- The node servo: Sync, Delay_Resp and Announce messages, Delay_Req, and what the loss of a master and a long ACQUIRE do (R421-R428, R435, Table 14-3). A master qualifies with a second Announce inside its foreign-master window and stepsRemoved below 255, as in IEEE 1588-2019 (log entry 73, PRESUMED); the quality of a master taken at once is log entry 73 (DEDUCED), and INC is RATE's, no less than its least value (log entry 82, DEDUCED). -/
def Obligations.NodeServo : Prop :=
  (∀ (s : State) (p : Nat) (m : PtpSync) (dt : Nat) (o : Int), p < 2 → ∀ r : State, s.fresh.pass dt = r → r.servoRuns = true → r.ptpPort p = true →
    r.ptpTakes m.hdr = true → -4 ≤ m.logInterval → m.logInterval ≤ 1 → r.isMaster m.master p = true →
    o = (r.rxStamp p - m.t1).toInt - r.ws.servo.d - r.asymmetry p →
    Ends (.ptpSyncReceived p m dt) s (fun t => t.reg Reg.WS_LAST_OFS = sat32 o ∧ t.ws.servo.fwd = (r.rxStamp p - m.t1).toInt
      ∧ (r.ws.servoState = Servo.locked → r.ws.servo.predOk = true → r.jumpLimit < (o - r.ws.servo.pred).natAbs →
          t.ws.servoState = Servo.suspect ∧ t.ws.quality = 3 ∧ t.ws.rate = r.ws.rate
          ∧ t.reg Reg.WS_SUSPECT_CNT = satAdd (r.reg Reg.WS_SUSPECT_CNT) 1)
      ∧ (r.ws.servoState = Servo.acquire → r.stepThresh < o.natAbs → t.now = r.now + ofInt 64 (-o) ∧ t.ws.servo.lockRun = 0
          ∧ t.reg Reg.WS_STEP_CNT = satAdd (r.reg Reg.WS_STEP_CNT) 1)
      ∧ (r.ws.servoState = Servo.acquire → o.natAbs ≤ r.stepThresh → o.natAbs < r.lockThresh → 15 ≤ r.ws.servo.lockRun →
          t.ws.servoState = Servo.locked ∧ t.ws.quality = 2 ∧ t.ws.normal = true ∧ t.rbit Reg.WS_EVT 5 = true)
      ∧ (r.ws.servoState = Servo.suspect → t.ws.servoState = Servo.suspect ∧ t.now = r.now ∧ t.ws.rate = r.ws.rate)))
  ∧ (∀ (s : State) (p : Nat) (m : PtpSync) (dt : Nat), p < 2 → ∀ r : State, s.fresh.pass dt = r →
    r.ptpTakes m.hdr = false ∨ m.logInterval < -4 ∨ 1 < m.logInterval → Ends (.ptpSyncReceived p m dt) s (fun t => t = r))
  ∧ (∀ (s : State) (p : Nat) (m : PtpDelayResp) (t3 : U64) (md : Int), p < 2 → s.ws.servo.t3 = some (m.seq, t3) → s.servoRuns = true →
    s.ptpPort p = true → s.ptpTakes m.hdr = true → s.isMaster m.master p = true → md = (s.ws.servo.fwd + (m.t4 - t3).toInt).fdiv 2 →
    (s.ws.servoState ≠ Servo.suspect → s.ws.servo.haveD = false →
      Ends (.ptpDelayRespReceived p m) s (fun t => t.ws.servo = { s.ws.servo with t3 := none, d := md, haveD := true }
        ∧ t.reg Reg.WS_MEAN_PD = sat32 md ∧ RegsBut s t [Reg.WS_MEAN_PD]))
    ∧ (s.ws.servoState = Servo.locked → s.ws.servo.haveD = true → s.jumpLimit < (md - s.ws.servo.d).natAbs →
      Ends (.ptpDelayRespReceived p m) s (fun t => t.ws.servoState = Servo.suspect ∧ t.ws.servo.d = s.ws.servo.d
        ∧ t.reg Reg.WS_SUSPECT_CNT = satAdd (s.reg Reg.WS_SUSPECT_CNT) 1 ∧ t.rbit Reg.WS_EVT 4 = true)))
  ∧ (∀ (s : State) (p : Nat) (m : PtpAnnounce), p < 2 → ∀ r : State, s.fresh.pass m.dt = r →
    (r.ptpTakes m.hdr = false → Ends (.ptpAnnounceReceived p m) s (fun t => t = r))
    ∧ (r.servoRuns = true → r.ptpPort p = true → r.ptpTakes m.hdr = true →
      (255 ≤ m.stepsRemoved.toNat ∨ (∀ h, h ∈ r.ws.servo.heard → h.master = m.master → h.port = p → h.at_ + foreignWindow m.logInterval < r.frcNat) →
        Ends (.ptpAnnounceReceived p m) s (fun t => t.rbit (Reg.ETH_STATUS p) 2 = true ∧ RegsBut r t [Reg.ETH_STATUS p]
          ∧ ∃ l, t.ws = { r.ws with servo := { r.ws.servo with heard := l ++ [{ master := m.master, port := p, at_ := r.frcNat }] } }
            ∧ ∀ h, h ∈ l ↔ h ∈ r.ws.servo.heard ∧ (h.master ≠ m.master ∨ h.port ≠ p)))
      ∧ (∀ h, m.stepsRemoved.toNat < 255 → h ∈ r.ws.servo.heard → h.master = m.master → h.port = p →
          r.frcNat ≤ h.at_ + foreignWindow m.logInterval → r.ws.servo.master = none → r.ws.servo.best = none → r.ws.servoState = Servo.free →
        Ends (.ptpAnnounceReceived p m) s (fun t => t.ws.servo.master = some (m.master, p) ∧ t.ws.servoState = Servo.acquire
          ∧ t.pair Reg.WS_MASTER_ID_LO Reg.WS_MASTER_ID_HI = m.master ∧ (r.ws.normal = true → t.ws.quality = 3) ∧ t.now = r.now
          ∧ t.reg Reg.WS_MEAN_PD = sat32 t.ws.servo.d ∧ (r.ws.servo.lastMaster ≠ some (m.master, p) → t.ws.servo.d = 0)))))
  ∧ (∀ (s : State) (dt : Nat) (x : U64) (p : Nat), ∀ r : State, s.fresh.pass dt = r → r.ws.servo.master = some (x, p) → r.servoRuns = true →
    r.ptpPort p = true → Ends (.delayReqSend dt) s (fun t =>
      (t.port p).txServo = (r.port p).txServo ++ [(r.ws.servo.seq, r.delayReqFrame p)]
      ∧ t.ws.servo = { r.ws.servo with seq := r.ws.servo.seq + 1 }))
  ∧ (∀ (s : State) (x : U64) (p : Nat), s.ws.servo.master = some (x, p) → s.servoRuns = true →
    Ends .masterLoss s (fun t => t.ws.servo.master = none ∧ t.ws.servoState = Servo.holdover
      ∧ (s.ws.normal = true → t.ws.quality = 3) ∧ t.ws.rate = s.ws.rate ∧ t.now = s.now
      ∧ t.reg Reg.WS_HOLDOVER_CNT = satAdd (s.reg Reg.WS_HOLDOVER_CNT) 1 ∧ t.rbit Reg.WS_EVT 3 = true))
  ∧ (∀ s : State, s.servoRuns = true → s.ws.servoState = Servo.acquire → s.ws.normal = true →
    Ends .acquireTimeout s (fun t => t.ws.normal = false ∧ t.ws.servoState = Servo.acquire ∧ t.ws.quality = 4
      ∧ t.ws.inc = incOf s.ws.rate.toNat ∧ t.now = s.now))

/-- The Ethernet ports and the timed outputs: frames received and sent, the timestamps of sent frames, the link; a pulse begins when its TMO is due and ends after its width (R415-R420, R431, R432). A descriptor whose buffer cannot be read is consumed and counted in ETH_TX_BAD_CNT (log entry 64, DESIGN CHOICE: R416 speaks only of LEN). -/
def Obligations.EthernetAndTimedOutputs : Prop :=
  (∀ (s : State) (p dt : Nat) (f : EthRx), p < 2 → ∀ r : State, s.fresh.pass dt = r → r.ethUp p = true →
    (f.fcsOk = false → Ends (.ethFrameReceived p f dt) s (fun t =>
      t.reg (Reg.ETH_RX_FCS_CNT p) = satAdd (r.reg (Reg.ETH_RX_FCS_CNT p)) 1 ∧ RegsBut r t [Reg.ETH_RX_FCS_CNT p]))
    ∧ (f.fcsOk = true → isPtp f.data = false → rxLong f.data = false → r.rbit (Reg.ETH_CTL p) 2 = true →
        slice f.data 0 6 = r.ethMac p → etherType f.data ≠ 0x8808 → 0 < r.ringCredit (28 + p) →
      (f.addr = none → r.rbit (Reg.RING_STATUS (28 + p)) 2 = false → Ends (.ethFrameReceived p f dt) s (fun t =>
        t.rbit (Reg.RING_STATUS (28 + p)) 2 = true ∧ t.rfld (Reg.RING_STATUS (28 + p)) 4 3 = 3))
      ∧ ∀ a, f.addr = some a → Ends (.ethFrameReceived p f dt) s (fun t => t.reg (Reg.ETH_RX_FRAME_CNT p) = satAdd (r.reg (Reg.ETH_RX_FRAME_CNT p)) 1
        ∧ t.reg (Reg.ETH_RX_DROP_CNT p) = r.reg (Reg.ETH_RX_DROP_CNT p)
        ∧ Output.hostWrite a (leBytes 8 (r.rxStamp p).toNat ++ f.data) ∈ t.out
        ∧ ∃ desc, Output.ringEntry (28 + p) (r.reg (Reg.RING_NODE_IDX (28 + p)))
              (r.ringSlot (28 + p) (r.reg (Reg.RING_NODE_IDX (28 + p))) + 8) desc ∈ t.out
          ∧ desc.length = 8 ∧ leAt desc 0 2 = 8 + f.data.length))
    ∧ (f.fcsOk = true → isPtp f.data = false → r.rbit (Reg.ETH_CTL p) 2 = false →
      Ends (.ethFrameReceived p f dt) s (fun t => t.out = r.out
        ∧ t.reg (Reg.ETH_RX_DROP_CNT p) = satAdd (r.reg (Reg.ETH_RX_DROP_CNT p)) 1)))
  ∧ (∀ (s : State) (p dt : Nat) (q : U16) (f : List Byte) (l : List (U16 × List Byte)) (buf : Image), p < 2 →
    ∀ r : State, s.fresh.pass dt = r → r.ethUp p = true → (r.port p).txServo = (q, f) :: l →
    Ends (.ethTxFrame p ⟨buf, dt⟩) s (fun t => (t.port p).txServo = l ∧ Output.ethFrame p (fit (max 60 f.length) f) ∈ t.out
      ∧ t.ws.servo.t3 = some (q, r.txStamp p)
      ∧ t.reg (Reg.ETH_TX_FRAME_CNT p) = satAdd (r.reg (Reg.ETH_TX_FRAME_CNT p)) 1 ∧ t.fetchedOf (26 + p) = r.fetchedOf (26 + p)))
  ∧ (∀ (s : State) (p dt : Nat) (d : List Byte) (l : List (List Byte)), p < 2 → ∀ r : State, s.fresh.pass dt = r → r.ethUp p = true →
    (r.port p).txServo = [] → r.fetchedOf (26 + p) = d :: l →
    Ends (.ethTxFrame p ⟨none, dt⟩) s (fun t => t.fetchedOf (26 + p) = l ∧ t.port p = r.port p
      ∧ Output.hostRead (leAt d 0 8) (leAt d 8 2) ∈ t.out ∧ t.reg (Reg.ETH_TX_BAD_CNT p) = satAdd (r.reg (Reg.ETH_TX_BAD_CNT p)) 1)
    ∧ (∀ b n, n = leAt d 8 2 → 14 ≤ n → n ≤ 1514 → Ends (.ethTxFrame p ⟨some b, dt⟩) s (fun t => t.fetchedOf (26 + p) = l
      ∧ Output.ethFrame p (fit (max 60 n) (fit n b)) ∈ t.out
      ∧ t.reg (Reg.ETH_TX_FRAME_CNT p) = satAdd (r.reg (Reg.ETH_TX_FRAME_CNT p)) 1
      ∧ (t.port p).tsWait = (r.port p).tsWait
          ++ if bitAt (u32At d 0xC) 16 then [((u32At d 0xC).truncate 16, r.txStamp p)] else [])))
  ∧ (∀ (s : State) (p dt : Nat) (id : U16) (x : U64) (l : List (U16 × U64)), p < 2 → ∀ r : State, s.fresh.pass dt = r →
    (r.port p).tsWait = (id, x) :: l →
    ((r.port p).txts.length < 16 → Ends (.ethTxTimestamp p dt) s (fun t =>
      t.port p = { r.port p with tsWait := l, txts := (r.port p).txts ++ [(id, x)] } ∧ RegsBut r t []))
    ∧ (16 ≤ (r.port p).txts.length → Ends (.ethTxTimestamp p dt) s (fun t => t.port p = { r.port p with tsWait := l }
      ∧ t.reg (Reg.PTP_TXTS_OVF_CNT p) = satAdd (r.reg (Reg.PTP_TXTS_OVF_CNT p)) 1 ∧ t.rbit (Reg.PTP_TXTS_STAT p) 0 = true)))
  ∧ (∀ (s : State) (p : Nat) (up gig : Bool), p < 2 → Ends (.ethLinkChange p up gig) s (fun t =>
      t.rbit (Reg.ETH_STATUS p) 0 = (up && !(s.port p).failed) ∧ t.rbit (Reg.ETH_STATUS p) 1 = (up && !(s.port p).failed && gig)
      ∧ RegsBut s t [Reg.ETH_STATUS p, Reg.ETH_LINKDOWN_CNT p]
      ∧ (s.rbit (Reg.ETH_STATUS p) 0 = true → up = false →
          t.reg (Reg.ETH_LINKDOWN_CNT p) = satAdd (s.reg (Reg.ETH_LINKDOWN_CNT p)) 1)))
  ∧ (∀ (s : State) (p : Nat), p < 2 →
    Ends (.ptpTxtsW0Read p) s (fun t => t.port p = { s.port p with latch := (s.port p).txts.head? } ∧ RegsBut s t []
      ∧ t.hostRead.toNat = (match (s.port p).txts with | x :: _ => x.1.toNat + 65536 | [] => 0))
    ∧ Ends (.ptpTxtsTimeHiRead p) s (fun t => t.port p = { s.port p with txts := (s.port p).txts.drop 1 } ∧ RegsBut s t []
      ∧ ∀ x, (s.port p).latch = some x → t.hostRead.toNat = x.2.toNat / 2 ^ 32))
  ∧ (∀ (s : State) (k dt : Nat), k < 8 → ∀ r : State, s.fresh.pass dt = r → Node.setup ≤ r.mgmt → r.tmoDue k = true →
    Ends (.tmoPulseStart k dt) s (fun t => (t.tmo k).level = true ∧ (t.tmo k).fired = true ∧ (t.tmo k).armed = false
      ∧ (t.tmo k).began = r.ws.frc ∧ t.reg (Reg.TMO_PULSE_CNT k) = satAdd (r.reg (Reg.TMO_PULSE_CNT k)) 1
      ∧ (r.tmoMode k = 2 → (t.tmo k).next = (r.tmo k).next + 1)))
  ∧ (∀ (s : State) (k dt : Nat), k < 8 → ∀ r : State, s.fresh.pass dt = r → (r.tmo k).level = true →
    (r.tmoWidth k + 4) / 5 ≤ r.ws.frc.toNat - (r.tmo k).began.toNat →
    Ends (.tmoPulseEnd k dt) s (fun t => t.tmo k = { r.tmo k with level := false }))

/-- The RTC counts the ticks of its oscillator, a second boundary brings pending local times into force, ALM_SEC fires an armed alarm once, a shift ends with its last tick, and a commit edge loads the staged time (R437, R439, R444-R448). -/
def Obligations.RtcCounting : Prop :=
  (∀ (s : State) (ticks : Nat), 1 ≤ ticks → s.rtc.setPending = false → s.rtc.shiftNext = none → s.rtcBit RtcStat.busy = false →
    Ends (.localTimeApply ticks) s (fun t =>
      t.rtc.sec.toNat * 32768 + t.rtc.frac.toNat = (s.rtc.sec.toNat * 32768 + s.rtc.frac.toNat + ticks) % 2 ^ 55
      ∧ (s.rtc.frac.toNat + ticks < 32768 → t.rtc.ofs = s.rtc.ofs ∧ t.rtc.dst = s.rtc.dst ∧ t.rtc.dstNext = s.rtc.dstNext)
      ∧ (32768 ≤ s.rtc.frac.toNat + ticks → t.rtc.ofs = s.rtc.ofsNext.getD s.rtc.ofs ∧ t.rtc.dst = s.rtc.dstNext.getD s.rtc.dst
          ∧ t.rtc.ofsNext = none ∧ t.rtc.dstNext = none)))
  ∧ (∀ (s : State) (ticks : Nat), s.rtc.setPending = false → s.rtc.shiftNext = none → s.rtcBit RtcStat.busy = false → s.almArmed = true →
    s.rtc.sec.toNat < s.almSec → s.almSec * 32768 ≤ s.rtc.sec.toNat * 32768 + s.rtc.frac.toNat + ticks →
    Ends (.rtcAlarmFire ticks) s (fun t => t.reg Reg.RTC_ALM_CTL = 0x100 ∧ t.rbit Reg.RTC_EVT 0 = true
      ∧ t.reg Reg.RTC_ALM_CNT = satAdd (s.reg Reg.RTC_ALM_CNT) 1))
  ∧ (∀ (s : State) (ticks left : Nat), 1 ≤ ticks → s.rtc.setPending = false → s.rtc.shiftNext = none → s.rtcBit RtcStat.busy = true →
    s.rfld Reg.RTC_SHIFT_LEFT 0 17 = left → left ≤ (s.rtc.shiftPhase + ticks) / 8 - s.rtc.shiftPhase / 8 →
    Ends (.shiftDone ticks) s (fun t => t.rtcBit RtcStat.busy = false ∧ t.rbit Reg.RTC_EVT 4 = true
      ∧ t.reg Reg.RTC_SHIFT_CNT = satAdd (s.reg Reg.RTC_SHIFT_CNT) 1
      ∧ t.rtc.sec.toNat * 32768 + t.rtc.frac.toNat = (s.rtc.sec.toNat * 32768 + s.rtc.frac.toNat
          + (if s.rbit Reg.RTC_SHIFT_LEFT 31 then ticks - left else ticks + left)) % 2 ^ 55))
  ∧ (∀ s : State, s.rtc.setPending = true →
    Ends .rtcCommit s (fun t => t.rtc.sec = s.staged.1 ∧ t.rtc.frac = s.staged.2 ∧ t.rtc.setPending = false ∧ t.rtc.legCommit = none
      ∧ t.rtcBit RtcStat.valid = true ∧ t.rbit Reg.RTC_EVT 9 = true ∧ t.reg Reg.RTC_SET_CNT = satAdd (s.reg Reg.RTC_SET_CNT) 1
      ∧ (s.rtcBit RtcStat.busy = true → t.rbit Reg.RTC_EVT 6 = true)))

/-- What the host writes to the RTC: SET, a shift, daylight saving, the alarm, the wake timer, the charger, and the clearing of the switch-over time (R439, R440, R444-R453). -/
def Obligations.RtcControl : Prop :=
  (∀ (s : State) (ticks : Nat), ∀ r : State, s.fresh.rtcElapse ticks = r →
    (Node.setup ≤ r.mgmt → Ends (.rtcSet ticks) s (fun t => t.rtc = { r.rtc with setPending := true, legCommit := none } ∧ RegsBut r t []))
    ∧ (r.mgmt < Node.setup → Ends (.rtcSet ticks) s (fun t => t.rtc = r.rtc
        ∧ t.reg Reg.MGMT_IGNORED_WR_CNT = satAdd (r.reg Reg.MGMT_IGNORED_WR_CNT) 1)))
  ∧ (∀ (s : State) (v : U32) (ticks : Nat), ∀ r : State, s.fresh.rtcElapse ticks = r → Node.setup ≤ r.mgmt →
    (r.rtcBit RtcStat.busy = false → r.rtc.shiftNext = none → 1 ≤ fld v 0 17 → fld v 0 17 ≤ 32768 →
      Ends (.rtcShift v ticks) s (fun t => t.rtc = { r.rtc with shiftNext := some (fld v 0 17, bitAt v 31) } ∧ RegsBut r t []))
    ∧ (r.rtcBit RtcStat.busy = true → Ends (.rtcShift v ticks) s (fun t => t.rtc = r.rtc ∧ t.rbit Reg.RTC_EVT 5 = true))
    ∧ (r.rtc.sec.toNat < r.almSec → Ends (.alarmArm v ticks) s (fun t => t.rtc = r.rtc ∧ t.reg Reg.RTC_ALM_CTL = 1
        ∧ RegsBut r t [Reg.RTC_ALM_CTL]))
    ∧ (r.almSec ≤ r.rtc.sec.toNat → Ends (.alarmArm v ticks) s (fun t => t.rtc = r.rtc ∧ t.reg Reg.RTC_ALM_CTL = 0x100
        ∧ t.rbit Reg.RTC_EVT 0 = true ∧ (r.almSec < r.rtc.sec.toNat → t.rbit Reg.RTC_EVT 1 = true)
        ∧ t.reg Reg.RTC_ALM_CNT = satAdd (r.reg Reg.RTC_ALM_CNT) 1)))
  ∧ (∀ s : State, Node.setup ≤ s.mgmt →
    (s.rtc.dstNext = none → s.rtc.dst = false → Ends .dstForward s (fun t => t.rtc = { s.rtc with dstNext := some true } ∧ RegsBut s t []))
    ∧ (s.rtc.dstNext = none → s.rtc.dst = true → Ends .dstBack s (fun t => t.rtc = { s.rtc with dstNext := some false } ∧ RegsBut s t []))
    ∧ Ends .swoClear s (fun t => t.rtc = s.rtc ∧ t.rbit Reg.RTC_SWO_SEC_HI 31 = false ∧ RegsBut s t [Reg.RTC_SWO_SEC_HI])
    ∧ (∀ v, Ends (.alarmDisarm v) s (fun t => t.rtc = s.rtc ∧ t.almArmed = false ∧ RegsBut s t [Reg.RTC_ALM_CTL]))
    ∧ (∀ v, Ends (.wakeEnable v) s (fun t => t.reg Reg.RTC_WAKE_CTL = (v &&& 2) ||| 1 ∧ RegsBut s t [Reg.RTC_WAKE_CTL]
        ∧ t.rtc = if s.rbit Reg.RTC_WAKE_CTL 0 then s.rtc else { s.rtc with wakeLeft := 128 * s.rfld Reg.RTC_WAKE_PERIOD 0 25 + 1 }))
    ∧ (∀ v high, bitAt v 0 = false ∨ high = false → Ends (.rtcTrickleWrite ⟨v, high⟩) s (fun t => t.rtc = { s.rtc with cellHigh := high }
        ∧ t.reg Reg.RTC_TRICKLE = v &&& 0xF ∧ (high = false ∨ s.chargerOn = false → RegsBut s t [Reg.RTC_TRICKLE])))
    ∧ (∀ v, bitAt v 0 = true → Ends (.rtcTrickleWrite ⟨v, true⟩) s (fun t => t.rtc = { s.rtc with cellHigh := true }
        ∧ t.rbit Reg.MGMT_EVT 2 = true ∧ (s.chargerOn = false → t.reg Reg.RTC_TRICKLE = s.reg Reg.RTC_TRICKLE)
        ∧ (s.chargerOn = true → t.rbit Reg.RTC_TRICKLE 0 = false ∧ t.rbit Reg.RTC_EVT 8 = true))))

/-- The RTC's shadow sets, the forerunner's window, the wake timer, and the backup domain: a freeze holds one set, its end lets go of it, a wake fires as its period's ticks have passed, and a stopped oscillator loses the domain (R60, R442, R443, R449, R451-R454). That the domain takes the forerunner's RTC window with it is log entry 51 (DEDUCED), and that a charger which tapers at its limit is at work when CELL_TYPE goes high is log entry 74 (DEDUCED). -/
def Obligations.RtcViewsAndBackup : Prop :=
  (∀ (s : State) (ticks : Nat), ∀ r : State, s.fresh.rtcElapse ticks = r →
    Ends (.rtcFracRead ticks) s (fun t => t.rtc = { r.rtc with host := some r.rtc.live, hostStale := false }
      ∧ t.hostRead.toNat = r.rtc.frac.toNat ∧ RegsBut r t [])
    ∧ Ends (.rtcSecHiRead ticks) s (fun t => t.rtc = { r.rtc with host := none, hostStale := false }
      ∧ t.hostRead.toNat = r.rtc.hostSet.sec.toNat / 2 ^ 32 + 2 ^ 31 * b2n r.rtc.hostStale ∧ RegsBut r t [])
    ∧ (r.fmodeOn = true → Ends (.legRtcSecRead ticks) s (fun t => t.rtc = { r.rtc with leg := some r.rtc.live, legStale := false }
        ∧ t.hostRead = r.rtc.live.legReg 0 ∧ RegsBut r t []))
    ∧ (r.fmodeOn = true → Ends (.legRtcYearRead ticks) s (fun t => t.rtc = { r.rtc with leg := none }
        ∧ t.hostRead = r.rtc.legSet.legReg 6 ∧ RegsBut r t [])))
  ∧ (∀ (s : State) (ticks period left : Nat), s.rbit Reg.RTC_WAKE_CTL 0 = true → period = 128 * s.rfld Reg.RTC_WAKE_PERIOD 0 25 → 0 < period →
    left = s.rtc.wakeLeft → 1 ≤ ticks →
    (ticks < left → Ends (.rtcWake ticks) s (fun t => t.rtc.wakeLeft = left - ticks ∧ t.reg Reg.RTC_WAKE_CNT = s.reg Reg.RTC_WAKE_CNT
        ∧ t.rtc.wakeN = s.rtc.wakeN))
    ∧ (left ≤ ticks → Ends (.rtcWake ticks) s (fun t => t.rbit Reg.RTC_EVT 2 = true
        ∧ t.reg Reg.RTC_WAKE_CNT = satAdd (s.reg Reg.RTC_WAKE_CNT) ((ticks - left) / period + 1)
        ∧ t.rtc.wakeLeft = period - (ticks - left) % period
        ∧ (s.rbit Reg.RTC_WAKE_CTL 1 = true → s.rtc.onVbk = false → s.rbit Reg.RTC_EVT 2 = false →
            t.rtc.wakeN = true ∧ Output.pin "WAKE_N" false ∈ t.out)
        ∧ (s.rbit Reg.RTC_WAKE_CTL 1 = false ∨ s.rtc.onVbk = true → t.rtc.wakeN = s.rtc.wakeN))))
  ∧ (∀ (s : State) (ticks : Nat), s.rtc.onVbk = true ∨ s.rtc.vbkPhase + ticks < 32768 →
    Ends (.localTimeApply ticks) s (fun t => t.reg Reg.RTC_VBK = s.reg Reg.RTC_VBK))
  ∧ (∀ (s : State) (x : RtcSet),
    (s.rtc.host = some x → Ends (.shadowFreezeTimeout .host) s (fun t => t.rtc = { s.rtc with host := none, hostStale := true } ∧ RegsBut s t []))
    ∧ (s.rtc.leg = some x → Ends (.shadowFreezeTimeout .legacy) s (fun t => t.rtc = { s.rtc with leg := none, legStale := true } ∧ RegsBut s t []))
    ∧ Ends (.shadowFreezeTimeout .lilypad) s (fun t => t.rtc = { s.rtc with lil := none } ∧ RegsBut s t []))
  ∧ (∀ s : State, s.fmodeOn = true → Node.setup ≤ s.mgmt →
    (legLocal s.rtc.legStage = none → Ends .legRtcSet s (fun t => t.rtc = s.rtc ∧ t.rbit Reg.LEG_RTC_STAT 0 = true
      ∧ t.reg Reg.LEG_RTC_ERR_CNT = satAdd (s.reg Reg.LEG_RTC_ERR_CNT) 1))
    ∧ (∀ l, legLocal s.rtc.legStage = some l → Ends .legRtcSet s (fun t => t.rtc.setPending = true ∧ t.rbit Reg.LEG_RTC_STAT 0 = false
      ∧ t.rtc.legCommit = some (ofInt 40 ((l : Int) - 900 * s.rtc.ofs.toInt - (if s.rtc.dst then 3600 else 0)))
      ∧ t.rtc.sec = s.rtc.sec ∧ RegsBut s t [Reg.LEG_RTC_STAT])))
  ∧ (∀ s : State, (s.chargerOn = true → Ends .cellTypeHigh s (fun t => t.rtc = { s.rtc with cellHigh := true }
        ∧ t.rbit Reg.RTC_TRICKLE 0 = false ∧ t.rbit Reg.RTC_EVT 8 = true))
    ∧ (s.chargerOn = false → Ends .cellTypeHigh s (fun t => t.rtc = { s.rtc with cellHigh := true } ∧ RegsBut s t [])))
  ∧ (∀ s : State, (s.rtc.onVbk = true → Ends .oscStop s (fun t => t.rtc = { cellHigh := s.rtc.cellHigh, onVbk := true }
        ∧ (∀ o, isBackup o = true → t.reg o = regReset t.behavBoot o) ∧ (∀ o, isBackup o = false → t.reg o = s.reg o)))
    ∧ (s.rtc.onVbk = false → Ends .oscStop s (fun t => t = s.fresh)))

/-- PANEL_FLIP, PANEL_FRAME_BOUNDARY, PANEL_TEMP_UPDATE, VPP_FAULT, VPP_RETRY, ALARM_LIST_REDRAW, BURN_IN_SHIFT and PNL_SENSE_CHANGE (R458-R466, Table 16-2). TEMP_FALLBACK is clear while the NTC reads well, with TSRC 1 too (log entry 50, DEDUCED); the RESULT of a flip is the count of the frame as it begins, and a list drawn over a flip that still waits joins it (log entry 75, DEDUCED). -/
def Obligations.PanelCommands : Prop :=
  (∀ (s : State) (d : Desc) (img : Image), s.Heads 0x74 d → d.resv 0x10 48 = true → s.rbit Reg.PNL_CTL 0 = true → s.panel.absent = false →
    s.mgmt ≠ Node.run ∨ s.rbit Reg.PNL_CTL 1 = false →
    (s.panel.flip = none → d.arg 8 8 = 0 → Ends (.panelFlip img) s (fun t => Deferred s t d ∧ t.tarn = s.tarn
        ∧ t.panel = { s.panel with flip := some (some (d.tag, d.irqNow)) }))
    ∧ (∀ b, img = some b → s.panel.flip = none → d.arg 8 8 ≠ 0 → d.aligned 8 = true →
        Ends (.panelFlip img) s (fun t => Deferred s t d ∧ (∀ k, k < 8192 → Sparse.get 0 t.tarn (fbOffset (!s.panel.front) + k) = b.getD k 0)
          ∧ (∀ a, a < fbOffset (!s.panel.front) ∨ fbOffset (!s.panel.front) + 8192 ≤ a → Sparse.get 0 t.tarn a = Sparse.get 0 s.tarn a)
          ∧ t.panel = { s.panel with flip := some (some (d.tag, d.irqNow)) }))
    ∧ (s.panel.flip.isSome = true → d.arg 8 8 = 0 → Ends (.panelFlip img) s (fun t => Answered s t d Status.busy 0
        ∧ t.tarn = s.tarn ∧ t.panel = s.panel)))
  ∧ (∀ s : State, s.driven = true →
    (∀ cmd, s.panel.flip = some cmd → Ends .panelFrameBoundary s (fun t => t.panel.front = !s.panel.front ∧ t.panel.flip = none
        ∧ t.reg Reg.PNL_FRAME_CNT = satAdd (s.reg Reg.PNL_FRAME_CNT) 1 ∧ t.reg Reg.PNL_FLIP_CNT = satAdd (s.reg Reg.PNL_FLIP_CNT) 1
        ∧ t.rbit Reg.PNL_EVT 0 = true
        ∧ ∀ tag irq, cmd = some (tag, irq) → ∃ c, c ∈ t.hif.ready ∧ c.tag = tag ∧ c.opcode = 0x74 ∧ c.status = 0
            ∧ c.result = (t.reg Reg.PNL_FRAME_CNT).zeroExtend 64))
    ∧ (∀ v i, s.panel.flip = none → s.panel.drive = some (v, i) → Ends .panelFrameBoundary s (fun t =>
        t.panel = { s.panel with drive := none, shiftDue := false, scanning := true } ∧ t.reg Reg.PNL_VPP_SET = BitVec.ofNat 32 v
        ∧ t.reg Reg.PNL_ICODE = BitVec.ofNat 32 i ∧ t.hif = s.hif))
    ∧ (s.panel.scanning = true → Ends .panelFrameBoundary s (fun t => .panelFrame (shifted (s.tarnRead (fbOffset s.panel.front) 8192)
        (shiftOffset (s.rfld Reg.PNL_STATUS 8 2))) ∈ t.out))
    ∧ (s.panel.scanning = false → s.panel.flip = none → Ends .panelFrameBoundary s (fun t => t.out = [] ∧ t.panel.scanning = true))
    ∧ Ends .vppFault s (fun t => t.panel = { s.panel with vppOff := true, scanning := false } ∧ t.rbit Reg.PNL_EVT 1 = true
        ∧ t.reg Reg.PNL_VPP_FAULT_CNT = satAdd (s.reg Reg.PNL_VPP_FAULT_CNT) 1))
  ∧ (∀ s : State, Ends .vppRetry s (fun t => t.panel = { s.panel with vppOff := false } ∧ RegsBut s t [])
    ∧ (s.rbit Reg.PNL_CTL 3 = true → Ends .burnInShift s (fun t => t.panel = { s.panel with shiftDue := true } ∧ RegsBut s t []))
    ∧ (∀ high, Ends (.pnlSenseChange high) s (fun t => t.panel = { s.panel with absent := high, scanning := s.panel.scanning && high == s.panel.absent } ∧ RegsBut s t [Reg.PNL_EVT, Reg.MSIX_PBA 0]
        ∧ (high = true → s.panel.absent = false → t.rbit Reg.PNL_EVT 3 = true))))
  ∧ (∀ (s : State) (p : PanelTemp), Node.setup ≤ s.mgmt →
    (s.rbit Reg.PNL_CTL 2 = true → 200 ≤ p.ntcOhm → p.ntcOhm ≤ 400000 → Ends (.panelTempUpdate p) s (fun t =>
        t.reg Reg.PNL_TEMP = BitVec.ofNat 32 (ofInt 16 p.internal).toNat ∧ t.rbit Reg.PNL_STATUS 5 = false ∧ t.panel.drive.isSome = true
        ∧ ∀ v, v = 10 * (s.rfld Reg.PNL_V25 0 14 : Int) + sext 8 (s.rfld Reg.PNL_TC 0 8) * (p.internal - 250) →
            (t.rbit Reg.PNL_STATUS 6 = true ↔ v < 80000 ∨ 160000 < v)))
    ∧ (p.ntcOhm < 200 ∨ 400000 < p.ntcOhm → Ends (.panelTempUpdate p) s (fun t =>
        t.reg Reg.PNL_TEMP = BitVec.ofNat 32 (ofInt 16 p.internal).toNat ∧ t.rbit Reg.PNL_STATUS 5 = true
        ∧ t.rbit Reg.PNL_EVT 2 = true
        ∧ (s.rbit Reg.PNL_STATUS 5 = false → t.reg Reg.PNL_NTC_FAULT_CNT = satAdd (s.reg Reg.PNL_NTC_FAULT_CNT) 1))))
  ∧ (∀ (s : State) (ticks : Nat) (e : EngineId), ∀ r : State, s.fresh.rtcElapse ticks = r → r.skink.holder = some e → r.mgmt = Node.run →
    r.rbit Reg.PNL_CTL 1 = true →
    Ends (.alarmListRedraw ticks) s (fun t => t.panel = { r.panel with flip := if r.panel.flip.isSome then r.panel.flip else some none }
      ∧ t.reg Reg.PNL_LIST_CNT = BitVec.ofNat 32 (r.points.filter (r.listedPoint e)).length ∧ t.hif = r.hif
      ∧ t.rtc = { r.rtc with lil := some r.rtc.live }
      ∧ (∃ g : ListImage, g.time = r.rtc.live.bcdTime ∧ g.date = r.rtc.live.bcdDate ∧ g.node = r.nodeId
          ∧ g.count = (r.points.filter (r.listedPoint e)).length ∧ g.entries = (r.listEntries e).take Config.panelRows
          ∧ ∀ k, k < 8192 → Sparse.get 0 t.tarn (fbOffset (!r.panel.front) + k) = (leBytes 8192 (Config.listPixels g).toNat).getD k 0)
      ∧ ∀ a, a < fbOffset (!r.panel.front) ∨ fbOffset (!r.panel.front) + 8192 ≤ a → Sparse.get 0 t.tarn a = Sparse.get 0 r.tarn a))

/-! ## The update engine and housekeeping (R91, R473-R503) -/

/-- UPD_BEGIN and UPD_STATUS (R474, R475, R480, Tables 17-5 to 17-7, 17-9). BAD_ARG comes in every session state, before BUSY (log entry 26, DEDUCED), and REASON is a failed verification's before the boot record's (log entry 38, DEDUCED). OK of UPD_BEGIN comes once the session record is durable and the bitmap erased in both copies (R474). KEY_PROGRAM and KEY_PROGRAMMED: the eight words go into OTP once, and the words are cleared when OTP holds the key (R490). -/
def Obligations.UpdateSessionAndKey : Prop :=
  ((∀ (s : State) (d : Desc), s.Heads 0x60 d →
    (1 ≤ d.arg 8 4 → d.arg 8 4 ≤ 524287 → 2 ≤ d.arg 0xC 4 → d.arg 0xC 4 ≤ 8192 → d.resv 0x30 16 = true →
      (s.upd.state = Ses.idle ∨ (s.upd.state = Ses.receiving ∧ d.force = true) →
        Ends .updBegin s (fun t => Answered s t d Status.ok (BitVec.ofNat 64 (1 - s.upd.runSlot)) ∧ t.upd.state = Ses.receiving
          ∧ t.nvm.session = { id := BitVec.ofNat 32 (d.arg 8 4), pieces := d.arg 0xC 4, hash := slice d.raw 0x10 32,
                              target := 1 - s.upd.runSlot, state := Ses.receiving, bitmap := [], seq := s.nvm.session.seq + 1 }
          ∧ t.nvm.bits0 = [] ∧ t.nvm.bits1 = [] ∧ t.gecko.writing = none
          ∧ Sparse.find (t.nvm.slotOf (1 - s.upd.runSlot)).pieces 0 = none ∧ t.upd.bufs = [] ∧ t.upd.reason = 0))
      ∧ (s.upd.state = Ses.ready ∨ s.upd.state = Ses.trial ∨ (s.upd.state = Ses.receiving ∧ d.force = false) →
        Ends .updBegin s (fun t => Answered s t d Status.busy 0 ∧ t.upd = s.upd ∧ t.nvm = s.nvm)))
    ∧ (d.arg 8 4 = 0 ∨ 524287 < d.arg 8 4 ∨ d.arg 0xC 4 < 2 ∨ 8192 < d.arg 0xC 4 ∨ d.resv 0x30 16 = false → Ends .updBegin s (fun t => Answered s t d Status.badArg 0 ∧ t.upd = s.upd ∧ t.nvm = s.nvm)))
  ∧ (∀ (s : State) (d : Desc) (ok : Bool), s.Heads 0x61 d → d.resv 8 8 = true → d.resv 0x18 40 = true → d.arg 0x10 8 % 64 = 0 →
    (d.arg 0x10 8 = 0 ∨ ok = true → Ends (.updStatus ok) s (fun t => t.upd = s.upd ∧ t.nvm = s.nvm
      ∧ Answered s t d Status.ok (BitVec.ofNat 64 (s.upd.state + 2 ^ 8 * s.updReason + 2 ^ 16 * s.nvm.session.bitmap.length
          + 2 ^ 32 * s.nvm.session.id.toNat))
      ∧ (d.arg 0x10 8 ≠ 0 → Output.hostWrite (d.arg 0x10 8) s.updBlock ∈ t.out)))
    ∧ (d.arg 0x10 8 ≠ 0 → ok = false → Ends (.updStatus ok) s (fun t => Answered s t d Status.badArg 0))))
  ∧ ((∀ s : State,
    (s.mgmt = Node.setup → s.nvm.custody = none → s.nvm.programming = none → s.upd.keyWhole = true →
      s.nvm.bank0Spent = false ∨ s.nvm.bank1Spent = false →
      Ends .keyProgram s (fun t => t.nvm = { s.nvm with programming := some s.upd.key } ∧ t.rbit Reg.UPD_KEY_STATUS 3 = false
        ∧ RegsBut s t [Reg.UPD_KEY_STATUS]))
    ∧ (s.mgmt ≠ Node.setup ∨ s.nvm.custody.isSome = true ∨ s.upd.keyWhole = false →
      Ends .keyProgram s (fun t => t.nvm = s.nvm ∧ t.rbit Reg.UPD_KEY_STATUS 3 = true ∧ t.rbit Reg.MGMT_EVT 2 = true)))
  ∧ (∀ (s : State) (k : List Byte), s.nvm.programming = some k →
    Ends .keyProgrammed s (fun t => t.nvm = { s.nvm with custody := some k, programming := none }
      ∧ (∀ w, w ∈ t.upd.keyWords → w.2 = 0) ∧ t.rbit Reg.UPD_EVT 7 = true ∧ RegsBut s t [Reg.UPD_EVT, Reg.MSIX_PBA 0])))

/-- UPD_PIECE_RECEIVED and PIECE_STORED: a piece is taken, rejected or a duplicate; a stored one has its bit in both copies of the bitmap, and one whose read-back fails a third time is rejected (R476-R479, Table 17-8). -/
def Obligations.UpdatePieces : Prop :=
  (∀ (s : State) (data : Image) (b : List Byte) (l : List (List Byte)) (p : Nat), s.fetchedOf 9 = b :: l → s.upd.bufs.length < 16 →
    s.mgmt ≠ Node.activating → p = fld (u32At b 0xC) 0 13 →
    (s.pieceReason b data ≠ 0 → Ends (.updPieceReceived data) s (fun t => t.fetchedOf 9 = l ∧ t.upd = s.upd ∧ t.nvm = s.nvm
      ∧ t.reg Reg.UPD_LAST_REJ = packU32 [(p, 0), (s.pieceReason b data, 16)] ∧ t.rbit Reg.UPD_EVT 0 = true
      ∧ t.reg Reg.UPD_PIECE_REJ_CNT = satAdd (s.reg Reg.UPD_PIECE_REJ_CNT) 1))
    ∧ (s.pieceReason b data = 0 → p ∈ s.nvm.session.bitmap → Ends (.updPieceReceived data) s (fun t => t.fetchedOf 9 = l
      ∧ t.upd = s.upd ∧ t.nvm = s.nvm ∧ t.reg Reg.UPD_PIECE_DUP_CNT = satAdd (s.reg Reg.UPD_PIECE_DUP_CNT) 1))
    ∧ (s.pieceReason b data = 0 → p ∉ s.nvm.session.bitmap → Ends (.updPieceReceived data) s (fun t => t.fetchedOf 9 = l
      ∧ t.nvm = s.nvm ∧ ∃ x, data = some x ∧ t.upd = { s.upd with bufs := s.upd.bufs ++ [(p, fit 4096 x)] })))
  ∧ (∀ (s : State) (p : Nat) (x : List Byte), p < 8192 → s.upd.bufs.find? (fun b => b.1 == p) = some (p, x) →
    (p ∉ s.nvm.session.bitmap →
      Ends (.pieceStored p true) s (fun t => p ∈ t.nvm.session.bitmap ∧ p ∈ t.nvm.bits0 ∧ p ∈ t.nvm.bits1 ∧ t.upd = { s.upd with bufs := dropFirst p s.upd.bufs, readFails := Sparse.erase s.upd.readFails p }
        ∧ (∀ q, q ≠ p → (q ∈ t.nvm.session.bitmap ↔ q ∈ s.nvm.session.bitmap))
        ∧ Sparse.find (t.nvm.slotOf s.nvm.session.target).pieces p = some x
        ∧ t.reg Reg.UPD_PIECE_CNT = satAdd (s.reg Reg.UPD_PIECE_CNT) 1)
      ∧ Ends (.pieceStored p false) s (fun t => (t.nvm.slotOf s.nvm.session.target).pieces
          = Sparse.erase (s.nvm.slotOf s.nvm.session.target).pieces p)
      ∧ (Sparse.get 0 s.upd.readFails p = 2 → Ends (.pieceStored p false) s (fun t => t.nvm.session = s.nvm.session
          ∧ t.upd.bufs = dropFirst p s.upd.bufs ∧ t.reg Reg.UPD_LAST_REJ = packU32 [(p, 0), (7, 16)]))
      ∧ (Sparse.get 0 s.upd.readFails p < 2 → Ends (.pieceStored p false) s (fun t => t.nvm.session = s.nvm.session
          ∧ t.upd = { s.upd with readFails := Sparse.insert s.upd.readFails p (Sparse.get 0 s.upd.readFails p + 1) })))
    ∧ (p ∈ s.nvm.session.bitmap → ∀ ok, Ends (.pieceStored p ok) s (fun t => t.nvm = s.nvm ∧ t.upd.bufs = dropFirst p s.upd.bufs
        ∧ t.reg Reg.UPD_PIECE_DUP_CNT = satAdd (s.reg Reg.UPD_PIECE_DUP_CNT) 1)))

/-- UPD_VERIFY: checks 1 to 7 of Table 17-10 in order, with the status and REASON of the first that fails, format 0x11 BAD_ARG, key 0x12 AUTH, signature 0x13 AUTH, HW_REV 0x14 BAD_ARG, layout 0x15 BAD_ARG, settings format 0x18 BAD_ARG and part hash 0x17 CRC; READY when all hold; and the completions of Table 17-11 before them, their order being log entry 26 (DEDUCED) (R472, R481). -/
def Obligations.UpdateVerify : Prop :=
  (∀ (s : State) (d : Desc), s.Heads 0x62 d →
    (d.resv 0xC 52 = false → Ends .updVerify s (fun t => Answered s t d Status.badArg 0 ∧ t.upd = s.upd ∧ t.nvm = s.nvm))
    ∧ (d.resv 0xC 52 = true → d.arg 8 4 ≠ s.nvm.session.id.toNat →
        Ends .updVerify s (fun t => Answered s t d Status.notFound 0 ∧ t.upd = s.upd ∧ t.nvm = s.nvm))
    ∧ (d.resv 0xC 52 = true → d.arg 8 4 = s.nvm.session.id.toNat → s.upd.state = Ses.verifying →
        Ends .updVerify s (fun t => Answered s t d Status.busy 0 ∧ t.upd = s.upd ∧ t.nvm = s.nvm))
    ∧ (d.resv 0xC 52 = true → d.arg 8 4 = s.nvm.session.id.toNat → s.upd.state ≠ Ses.verifying →
        s.upd.state ≠ Ses.receiving ∨ s.nvm.session.bitmap.length < s.nvm.session.pieces →
        Ends .updVerify s (fun t => Answered s t d Status.state (BitVec.ofNat 64 (s.nvm.session.pieces - s.nvm.session.bitmap.length))
          ∧ t.upd = s.upd ∧ t.nvm = s.nvm)))
  ∧ (∀ (s : State) (d : Desc) (g : ImageSlot) (m : List Byte), s.Heads 0x62 d → d.resv 0xC 52 = true → d.arg 8 4 = s.nvm.session.id.toNat →
    s.upd.state = Ses.receiving → s.nvm.session.pieces ≤ s.nvm.session.bitmap.length → g = s.nvm.slotOf s.nvm.session.target → m = g.piece 0 →
    (¬ManifestFormat m → Ends .updVerify s (fun t => VerifyEnded s t d Status.badArg 0x11))
    ∧ (ManifestFormat m → ¬s.nvm.KeyRight m → Ends .updVerify s (fun t => VerifyEnded s t d Status.auth 0x12))
    ∧ (ManifestFormat m → s.nvm.KeyRight m → manifestSigned m = false → Ends .updVerify s (fun t => VerifyEnded s t d Status.auth 0x13))
    ∧ (ManifestFormat m → s.nvm.KeyRight m → manifestSigned m = true → s.rfld Reg.HW_REV 0 16 < leAt m 0xC 2 →
        Ends .updVerify s (fun t => VerifyEnded s t d Status.badArg 0x14))
    ∧ (ManifestFormat m → s.nvm.KeyRight m → manifestSigned m = true → leAt m 0xC 2 ≤ s.rfld Reg.HW_REV 0 16 →
        ¬PackageLayout m s.nvm.session.pieces → Ends .updVerify s (fun t => VerifyEnded s t d Status.badArg 0x15))
    ∧ (ManifestFormat m → s.nvm.KeyRight m → manifestSigned m = true → leAt m 0xC 2 ≤ s.rfld Reg.HW_REV 0 16 →
        PackageLayout m s.nvm.session.pieces → ¬SettingsFormatFits m (s.nvm.imageFormat s.upd.runSlot) →
        Ends .updVerify s (fun t => VerifyEnded s t d Status.badArg 0x18))
    ∧ (∀ k p, ManifestRight s m → k < 7 → p = partOf m k → sha256 (g.read p.offset p.length) ≠ p.hash →
        (∀ j, j < k → sha256 (g.read (partOf m j).offset (partOf m j).length) = (partOf m j).hash) →
        Ends .updVerify s (fun t => VerifyFailed s t d Status.crc 0x17 ∧ t.upd.state = Ses.receiving ∧ t.upd.failPart = p.id
          ∧ (∀ i, i ∈ t.nvm.session.bitmap ↔ i ∈ s.nvm.session.bitmap ∧ ¬(p.offset / 4096 ≤ i ∧ i < p.stop / 4096))))
    ∧ (ManifestRight s m → (∀ k, k < 7 → sha256 (g.read (partOf m k).offset (partOf m k).length) = (partOf m k).hash) →
        Ends .updVerify s (fun t => t.upd.state = Ses.ready ∧ Answered s t d Status.ok ((u32At m 8).zeroExtend 64) ∧ t.nvm = s.nvm
          ∧ t.upd.reason = 0 ∧ t.rbit Reg.UPD_EVT 1 = true)))

/-- UPD_ACTIVATE, ACTIVATION_COMPLETE, UPD_CONFIRM, UPD_ABANDON and the ends of a trial: the trial's boot record, the pause, TRIAL on the new image, the erase that follows a confirmation, which a boot takes up when a reset has cut it, and the ways back to the slot before (R482-R489, Table 17-13). That UPD_ACTIVATE waits for a free entry of CMPL is log entry 64 (DESIGN CHOICE). -/
def Obligations.ActivationAndTrial : Prop :=
  (∀ (s : State) (d : Desc), s.Heads 0x63 d → d.resv 0xE 50 = true → d.arg 0xC 2 ≤ 1440 → s.sesMatch d = true → s.upd.state = Ses.ready →
    (s.canAnswer = false → Ends .updActivate s (fun t => t = s.fresh))
    ∧ (s.canAnswer = true → Ends .updActivate s (fun t => t.mgmt = Node.activating ∧ t.upd.state = Ses.activating ∧ t.gecko.saving = none
      ∧ t.nvm.boot.slot = BitVec.ofNat 8 s.nvm.session.target ∧ t.nvm.boot.mode = 1 ∧ t.nvm.boot.prevSlot = BitVec.ofNat 8 s.upd.runSlot
      ∧ t.nvm.boot.settings = BitVec.ofNat 8 (1 - s.upd.runSettings) ∧ t.nvm.boot.prevSettings = BitVec.ofNat 8 s.upd.runSettings
      ∧ t.nvm.boot.trialMin.toNat = (if d.arg 0xC 2 = 0 then 30 else d.arg 0xC 2) ∧ t.nvm.boot.trialBoots = 0 ∧ t.nvm.boot.ok = true
      ∧ t.nvm.region (1 - s.upd.runSettings) = { quotas := s.active.quotas }
      ∧ (s.hif.unwritten ≤ s.hif.kept.length → t.hif.ready = [] ∧ d.answer Status.ok 0 ∈ t.hif.kept))))
  ∧ (∀ (s : State) (us : Nat), s.mgmt = Node.activating →
    Ends (.activationComplete us) s (fun t => t.mgmt = Node.run ∧ t.upd.state = Ses.trial ∧ t.upd.runSlot = s.nvm.session.target
      ∧ t.upd.runSettings = 1 - s.upd.runSettings ∧ t.upd.trialLeft = 60 * s.nvm.boot.trialMin.toNat ∧ t.upd.converting = true
      ∧ t.aeA.pts = s.aeA.pts ∧ t.aeB.pts = s.aeB.pts ∧ t.inlet.isn = s.inlet.isn ∧ t.tarn = s.tarn
      ∧ t.reg Reg.UPD_ACTIVATE_CNT = satAdd (s.reg Reg.UPD_ACTIVATE_CNT) 1 ∧ t.rbit Reg.UPD_EVT 3 = true)
    ∧ Ends .activationTimeout s (fun t => FellBack s t 4))
  ∧ (∀ s : State, s.upd.state = Ses.trial →
    Ends .trialTimeout s (fun t => FellBack s t 1)
    ∧ Ends .trialWarn s (fun t => t.upd = { s.upd with trialLeft := 300, trialAt := s.frcNat } ∧ t.rbit Reg.UPD_EVT 6 = true
        ∧ RegsBut s t [Reg.UPD_EVT, Reg.MSIX_PBA 0]))
  ∧ (∀ s : State, s.upd.converting = true →
    Ends .settingsConversionFail s (fun t => FellBack s t 3)
    ∧ Ends .settingsConversionDone s (fun t => t.upd = { s.upd with converting := false, converted := true }
        ∧ (s.active.base = none → t.active.gens = (s.nvm.region (1 - s.upd.runSettings)).gens
            ∧ t.active.journal = (s.nvm.region (1 - s.upd.runSettings)).journal.takeWhile JEntry.ok ++ s.active.journal)
        ∧ (s.active.base ≠ none → t.active.gens = s.active.gens ∧ t.active.journal = s.active.journal)
        ∧ t.active.format = s.nvm.imageFormat s.upd.runSlot ∧ RegsBut s t []))
  ∧ (∀ (s : State) (d : Desc), s.Heads 0x64 d → d.resv 0xC 52 = true → s.sesMatch d = true → s.upd.state = Ses.trial →
    (s.upd.converting = false → Ends .updConfirm s (fun t => Answered s t d Status.ok ((s.nvm.imageVer s.upd.runSlot).zeroExtend 64)
      ∧ t.upd.state = Ses.idle ∧ t.nvm.boot.mode = 0 ∧ t.nvm.boot.slot = s.nvm.boot.slot ∧ t.nvm.boot.settings = s.nvm.boot.settings
      ∧ t.gecko.writing = none ∧ t.nvm.region (1 - s.upd.runSettings) = { } ∧ t.active = s.active
      ∧ (∃ x, t.upd.erasing = some { ends := s.frcNat + Config.eraseClocks x, keys := s.nvm.keys }) ∧ t.rbit Reg.UPD_EVT 4 = true))
    ∧ (s.upd.converting = true → Ends .updConfirm s (fun t => Answered s t d Status.busy 0 ∧ t.upd = s.upd ∧ t.nvm = s.nvm)))
  ∧ (∀ (s : State) (env : BootEnv), s.mgmt = Node.reset → s.nvm.eraseDue = true → s.nvm.boot.mode = 0 →
    s.nvm.bootable s.nvm.boot.slot.toNat = true → env.imgBadA = false → env.imgBadB = false →
    Ends (.powerGoodRise env) s (fun t => t.nvm.eraseDue = false ∧ t.nvm.region (1 - s.nvm.boot.settings.toNat) = { }
      ∧ t.upd.state = Ses.idle))
  ∧ (∀ (s : State) (d : Desc), s.Heads 0x65 d → d.resv 0xC 52 = true → s.sesMatch d = true →
    (s.upd.state = Ses.trial → Ends .updAbandon s (fun t => FellBack s t 5))
    ∧ (s.upd.state = Ses.receiving ∨ s.upd.state = Ses.ready → Ends .updAbandon s (fun t => Answered s t d Status.ok 0
      ∧ t.upd.state = Ses.idle ∧ t.upd.bufs = [] ∧ t.nvm.session.bitmap = [] ∧ t.nvm.boot = s.nvm.boot))
    ∧ (s.upd.state = Ses.idle → Ends .updAbandon s (fun t => Answered s t d Status.state 0 ∧ t.upd = s.upd ∧ t.nvm = s.nvm)))

/-- SCRUB_SLOT, TARN_CORRECTED_ERROR, TARN_UNCORRECTABLE and TCM_SCRUB (R492-R498, Table 18-2): a damaged configuration or state word has one repair record offered until its repair, and a trend entry hit anywhere becomes unused. -/
def Obligations.TarnErrors : Prop :=
  (∀ (s : State) (b : Nat), b < 16 → s.geckoRuns = true →
    (∀ line, Sparse.find s.gecko.writeback b = some line → Ends (.scrubSlot b) s (fun t => RegsBut s t []
      ∧ t.gecko = { s.gecko with writeback := Sparse.erase s.gecko.writeback b,
                                 ceWords := s.gecko.ceWords.filter (fun w => lineOf w != line) }))
    ∧ (Sparse.find s.gecko.writeback b = none → s.gecko.scrubQ.find? (fun q => q.1 == b) = none → s.gecko.ceWords = [] →
      Ends (.scrubSlot b) s (fun t => Sparse.get 0 t.gecko.scrubAt b = Sparse.get 0 s.gecko.scrubAt b + 1
        ∧ (∀ c, c ≠ b → Sparse.get 0 t.gecko.scrubAt c = Sparse.get 0 s.gecko.scrubAt c) ∧ t.gecko.writeback = s.gecko.writeback
        ∧ RegsBut s t []))
    ∧ (∀ line w, Sparse.find s.gecko.writeback b = none → s.gecko.scrubQ.find? (fun q => q.1 == b) = some (b, line) →
        s.gecko.ceWords.filter (fun x => lineOf x == line) = [w] →
      Ends (.scrubSlot b) s (fun t => t.gecko.scrubQ = s.gecko.scrubQ.erase (b, line) ∧ Sparse.find t.gecko.writeback b = some line
        ∧ t.reg Reg.TARN_CE_TOTAL_CNT = satAdd (s.reg Reg.TARN_CE_TOTAL_CNT) 1
        ∧ t.reg (Reg.TARN_BANK_LAST_CE (bankOf w)) = BitVec.ofNat 32 w ∧ t.rbit Reg.TARN_EVT 0 = true)))
  ∧ (∀ (s : State) (off w : Nat), off < Tarn.SIZE → w = off / 8 * 8 →
    Ends (.tarnCorrectedError off) s (fun t => (bankOf w, lineOf w) ∈ t.gecko.scrubQ ∧ w ∈ t.gecko.ceWords
      ∧ t.gecko.ceSince = s.gecko.ceSince + 1
      ∧ t.reg (Reg.TARN_BANK_CE_CNT (bankOf w)) = satAdd (s.reg (Reg.TARN_BANK_CE_CNT (bankOf w))) 1
      ∧ t.reg Reg.TARN_CE_TOTAL_CNT = satAdd (s.reg Reg.TARN_CE_TOTAL_CNT) 1
      ∧ t.reg (Reg.TARN_BANK_LAST_CE (bankOf w)) = BitVec.ofNat 32 w ∧ t.rbit Reg.TARN_EVT 0 = true)
    ∧ Ends (.tarnUncorrectable off) s (fun t =>
      t.reg (Reg.TARN_BANK_UE_CNT (bankOf w)) = satAdd (s.reg (Reg.TARN_BANK_UE_CNT (bankOf w))) 1
      ∧ t.reg Reg.TARN_UE_TOTAL_CNT = satAdd (s.reg Reg.TARN_UE_TOTAL_CNT) 1 ∧ t.reg Reg.TARN_UE_LAST = BitVec.ofNat 32 w
      ∧ t.rbit Reg.TARN_EVT 1 = true
      ∧ (eccConfig w = true → t.rbit Reg.TARN_EVT 2 = true ∧ w ∈ t.gecko.ueWords ∧ t.tarn = s.tarn
          ∧ (w ∈ s.gecko.ueWords → t.inlet.waiting = s.inlet.waiting)
          ∧ (s.mgmt = Node.run ∨ s.mgmt = Node.activating → w ∉ s.gecko.ueWords → s.inlet.waiting = [] → ∃ r : InRec, t.inlet.waiting = [(Place.gecko, r)] ∧ r.kind = Kind.cmd
              ∧ r.payload = cmdPayload 0xFF02 0 (w / 8) 1))
      ∧ (eccConfig w = false → (damagedAt w).isSome = true → t.rbit Reg.TARN_EVT 3 = true ∧ w ∈ t.gecko.ueWords ∧ t.tarn = s.tarn)
      ∧ (eccConfig w = false → damagedAt w = none → Tarn.TREND ≤ w → w < Tarn.TREND + 0x20000 → t.rbit Reg.TARN_EVT 4 = true
          ∧ (t.trend ((w - Tarn.TREND) / 32)).used = false ∧ w ∉ t.gecko.ueWords)
      ∧ (eccConfig w = false → damagedAt w = none → ueZeroed w = true → w < Tarn.TREND ∨ Tarn.TREND + 0x20000 ≤ w → t.rbit Reg.TARN_EVT 4 = true ∧ (∀ k, k < 8 → Sparse.get 0 t.tarn (w + k) = 0)
          ∧ (∀ a, a < w ∨ w + 8 ≤ a → Sparse.get 0 t.tarn a = Sparse.get 0 s.tarn a)
          ∧ (∀ x, x + 8 ≤ w ∨ w + 8 ≤ x → (x ∈ t.gecko.ueWords ↔ x ∈ s.gecko.ueWords)) ∧ w ∉ t.gecko.ueWords)))
  ∧ (∀ (s : State) (n : Nat), s.geckoRuns = true → 0 < n → Ends (.tcmScrub n) s (fun t =>
      t.reg Reg.HK_TCM_CE_CNT = satAdd (s.reg Reg.HK_TCM_CE_CNT) n ∧ t.gecko = { s.gecko with ceSince := s.gecko.ceSince + n }
      ∧ t.rbit Reg.HK_EVT 0 = true ∧ RegsBut s t [Reg.HK_TCM_CE_CNT, Reg.HK_EVT, Reg.MSIX_PBA 0]))

/-- SETTINGS_JOURNAL_WRITE, BASE_GENERATION_START, BASE_GENERATION_DURABLE and DIGEST_REWRITE: an entry goes behind those that are whole; a base generation holds the present configuration with its SHA-256, and is durable where the spare pool replaces the sectors that fail, whose number is a free value (R91, R499-R502). TELEMETRY: a record with its time, number and readings is offered to ring 30 while EN is set, and what it counts starts again; TEMP_HIGH is measured with EN clear too (R503, R533, Table 18-4). -/
def Obligations.SettingsDigestAndTelemetry : Prop :=
  ((∀ (s : State) (e : JEntry) (l : List JEntry), s.gecko.journalQ = e :: l →
    (journalSize < s.active.fill + e.size → ∀ b, Ends (.settingsJournalWrite b) s (fun t => t.nvm = s.nvm ∧ t.gecko = s.gecko
      ∧ t.rbit Reg.HK_STATUS 2 = true ∧ RegsBut s t [Reg.HK_STATUS]))
    ∧ (s.active.fill + e.size ≤ journalSize → Ends (.settingsJournalWrite false) s (fun t => t.active.journal = s.active.journal.takeWhile JEntry.ok ++ [e]
      ∧ t.gecko.journalQ = l ∧ t.active.gens = s.active.gens ∧ t.active.pos = (s.active.pos + e.size) % journalSize))
    ∧ (s.active.fill + e.size ≤ journalSize → s.nvm.spare = 0 → Ends (.settingsJournalWrite true) s (fun t => t.nvm = s.nvm
      ∧ t.gecko = { s.gecko with journalQ := l } ∧ t.tarn = s.tarn ∧ t.rbit Reg.HK_EVT 2 = true))
    ∧ (s.active.fill + e.size ≤ journalSize → 0 < s.nvm.spare → Ends (.settingsJournalWrite true) s (fun t =>
      t.nvm.spare = s.nvm.spare - 1 ∧ t.active.journal = s.active.journal.takeWhile JEntry.ok ++ [e]
      ∧ t.reg Reg.HK_SET_WRITE_FAIL_CNT = satAdd (s.reg Reg.HK_SET_WRITE_FAIL_CNT) 1)))
  ∧ (∀ s : State, s.geckoRuns = true → 3 * journalSize < 4 * s.active.fill → s.gecko.saving = none →
    Ends .baseGenerationStart s (fun t => RegsBut s t [] ∧ t.nvm = s.nvm ∧ t.gecko.saveMark = s.active.journal.length
      ∧ ∃ g : Generation, t.gecko.saving = some g ∧ g.tarn = s.cfgTarn ∧ g.rws = s.rwsList ∧ g.valid = true
        ∧ g.epoch = BitVec.ofNat 16 s.evalEpoch ∧ g.format = s.active.format))
  ∧ (∀ (s : State) (g : Generation) (n : Nat), s.gecko.saving = some g → n = Config.badSectors s.free →
    (n ≤ s.nvm.spare → Ends .baseGenerationDurable s (fun t => g ∈ t.active.gens ∧ t.active.journal = s.active.journal.drop s.gecko.saveMark
      ∧ t.gecko = { s.gecko with saving := none, saveMark := 0 } ∧ t.rbit Reg.HK_EVT 1 = true ∧ t.rbit Reg.HK_STATUS 2 = false
      ∧ t.nvm.spare = s.nvm.spare - n ∧ t.reg Reg.HK_SET_WRITE_FAIL_CNT = satAdd (s.reg Reg.HK_SET_WRITE_FAIL_CNT) n
      ∧ t.reg Reg.HK_BASE_CNT = satAdd (s.reg Reg.HK_BASE_CNT) 1))
    ∧ (s.nvm.spare < n → Ends .baseGenerationDurable s (fun t => t.active = s.active ∧ t.gecko = { s.gecko with saving := none, saveMark := 0 }
      ∧ t.nvm.spare = 0 ∧ t.rbit Reg.HK_EVT 2 = true)))
  ∧ (∀ (s : State) (r : List Byte), s.slotRecord = some r → s.mgmt = Node.run → s.ss = Ss.valid → s.upd.state ≠ Ses.trial →
    s.gecko.digestStale = true → s.inlet.barriers = [] → s.gecko.journalQ = [] →
    Ends .digestRewrite s (fun t => t.gecko = { s.gecko with digestStale := false, writing := t.gecko.writing } ∧ t.rbit Reg.MGMT_SS_STATUS 9 = true
      ∧ t.nvm.slotStore = (s.writeSlot (patch (patch r 0x40 s.digest) 0x60 (leBytes 2 s.cfgEpoch))).nvm.slotStore
      ∧ t.nvm.set0 = s.nvm.set0 ∧ t.nvm.set1 = s.nvm.set1)))
  ∧ (∀ (s : State) (e : TelemEnv) (dt : Nat), ∀ r : State, s.fresh.pass dt = r → r.geckoRuns = true → r.rbit Reg.HK_TELEM_CTL 0 = true →
    (0 < r.ringCredit 30 → Ends (.telemetry e dt) s (fun t => t.gecko.telemSeq = r.gecko.telemSeq + 1
      ∧ t.reg Reg.HK_TELEM_SEQ = r.gecko.telemSeq + 1 ∧ t.reg Reg.HK_DIE_TEMP = e.dieTemp.zeroExtend 32
      ∧ t.reg Reg.HK_BOARD_TEMP = e.boardTemp.zeroExtend 32 ∧ t.reg Reg.HK_LV_A = e.lvA.zeroExtend 32 ∧ t.reg Reg.HK_LV_B = e.lvB.zeroExtend 32
      ∧ t.gecko.ceSince = 0 ∧ t.gecko.ueSince = 0 ∧ t.gecko.lossSince = 0 ∧ t.gecko.waitClocks = 0
      ∧ t.rbit Reg.HK_STATUS 4 = decide (700 < sext 16 e.boardTemp.toNat)
      ∧ ∃ data, Output.ringEntry 30 (r.reg (Reg.RING_NODE_IDX 30)) (r.ringSlot 30 (r.reg (Reg.RING_NODE_IDX 30))) data ∈ t.out
        ∧ data.length = 64
        ∧ slice data 0 8 = leBytes 8 r.now.toNat ∧ leAt data 8 4 = (r.gecko.telemSeq + 1).toNat
        ∧ leAt data 0xC 2 = e.dieTemp.toNat ∧ leAt data 0xE 2 = e.boardTemp.toNat
        ∧ leAt data 0x10 2 = e.lvA.toNat ∧ leAt data 0x12 2 = e.lvB.toNat
        ∧ leAt data 0x38 4 = min (r.gecko.waitClocks / 1024) (2 ^ 32 - 1)))
    ∧ (r.ringCredit 30 = 0 → Ends (.telemetry e dt) s (fun t => t.gecko.telemSeq = r.gecko.telemSeq + 1
      ∧ t.reg (Reg.RING_LOSS_CNT 30) = satAdd (r.reg (Reg.RING_LOSS_CNT 30)) 1 ∧ t.gecko.lossSince = 1 ∧ t.rbit Reg.HK_EVT 4 = true)))
  ∧ (∀ (s : State) (e : TelemEnv) (dt : Nat), ∀ r : State, s.fresh.pass dt = r → r.geckoRuns = true → r.rbit Reg.HK_TELEM_CTL 0 = false →
    Ends (.telemetry e dt) s (fun t => t.rbit Reg.HK_STATUS 4 = decide (700 < sext 16 e.boardTemp.toNat) ∧ t.gecko = r.gecko ∧ t.hif = r.hif
      ∧ t.reg Reg.HK_BOARD_TEMP = e.boardTemp.zeroExtend 32
      ∧ RegsBut r t [Reg.HK_STATUS, Reg.HK_LV_A, Reg.HK_LV_B, Reg.HK_DIE_TEMP, Reg.HK_BOARD_TEMP, Reg.HK_GECKO_LOAD]))

/-! ## The whole machine -/

/-- One step takes the command at the front of the queue and answers what `exec` answers on the rest; with an empty queue the block idles (DESIGN CHOICE, log entry 1). -/
def Obligations.StepRunsTheFrontCommand : Prop :=
  (∀ (s : State) (c : Instr) (cs : List Instr), s.pending = c :: cs → step s = exec c { s with pending := cs })
  ∧ (∀ s : State, s.pending = [] → step s = .next s)

/-- A command whose operands name units that the node has ends in a next state, and any other in the fault noSuchUnit (R3, R17, R103, R509). -/
def Obligations.WellFormedCommandsEnd : Prop :=
  ∀ (i : Instr) (s : State), (i.wf = true → ∃ t, exec i s = .next t) ∧ (i.wf = false → exec i s = .fault .noSuchUnit)

/-- Right after reset: RESET, POWER_ON, every register at its reset value, FRC at 0, Tarn, the queues and the units empty, no engine holding, and the invariant. -/
def Obligations.ResetState : Prop :=
  State.reset.Inv ∧ State.reset.mgmt = Node.reset ∧ State.reset.reg Reg.MGMT_RESET_CAUSE = 0
  ∧ (∀ o, State.reset.reg o = regReset State.reset.behavBoot o) ∧ State.reset.ws.frc = 0 ∧ State.reset.tarn = []
  ∧ State.reset.pending = [] ∧ State.reset.inlet = { } ∧ State.reset.inlet.isn = 0 ∧ State.reset.inlet.waiting = []
  ∧ State.reset.inlet.cmds = [] ∧ State.reset.inlet.stream = [] ∧ State.reset.inlet.barriers = []
  ∧ State.reset.aeA = { } ∧ State.reset.aeB = { } ∧ State.reset.aeA.evq = [] ∧ State.reset.aeB.evq = []
  ∧ State.reset.outlet = { } ∧ State.reset.outlet.merge = [] ∧ State.reset.outlet.backlog = [] ∧ State.reset.outlet.legFifo = []
  ∧ State.reset.hif.ready = [] ∧ State.reset.hif.kept = [] ∧ State.reset.hif.running = [] ∧ State.reset.hif.fetched = []
  ∧ State.reset.spawn = { } ∧ State.reset.spawn.units = [] ∧ State.reset.spawn.ring = [] ∧ State.reset.fe = { }
  ∧ State.reset.can = [] ∧ State.reset.canWalk = [] ∧ State.reset.upd.bufs = [] ∧ State.reset.gecko = { }
  ∧ State.reset.skink.holder = none ∧ State.reset.skink.copy = none
  ∧ State.reset.ws.rate = 0x0500000000000000 ∧ State.reset.ws.inc = 0x0000000500000000

/-- Every step keeps the invariant: Tarn and the settings generations stay in canonical form, the register file lists each offset once, no place passes its credit, the rotation stands on a place, the legacy FIFO and the piece buffers keep their bounds, and the behaviour revision stays 1 or 2 (R26, R84, R132, R271, R476). -/
def Obligations.EveryStepKeepsTheInvariant : Prop :=
  ∀ s t : State, s.Inv → step s = .next t → t.Inv

/-- Every command leaves every part of the state alone but those that `Instr.touches` names for it; no command touches the queue (R5, R21, R34). -/
def Obligations.EveryCommandHasItsFrame : Prop :=
  ∀ (i : Instr) (s t : State), exec i s = .next t → PartsBut s t i.touches ∧ t.pending = s.pending

/-- The node state moves only along the transitions of Table 1-9, whatever the command (R36, R37, R73). -/
def Obligations.NodeStateMoves : Prop :=
  ∀ (i : Instr) (s t : State), exec i s = .next t → Moved s t

/-- A custody key that OTP holds stays for good, and no other is programmed beside it (R490). -/
def Obligations.CustodyKeyIsWrittenOnce : Prop :=
  ∀ (s t : State) (k : List Byte), s.nvm.custody = some k → s.nvm.programming = none → step s = .next t →
    t.nvm.custody = some k ∧ t.nvm.programming = none

/-- FRC counts CORE clocks from 0 at reset: a command advances it by the clocks that pass with it, by one more for the clock at which a TIME_ADJ step applies, and only a reset of the node sets it, to 0 (R408). -/
def Obligations.FrcCountsCoreClocks : Prop :=
  State.reset.ws.frc = 0
  ∧ ∀ (i : Instr) (s t : State), exec i s = .next t →
    t.ws.frc = s.ws.frc + BitVec.ofNat 64 (i.clocks s)
    ∨ (∃ dt, i = .timeAdj dt ∧ t.ws.frc = s.ws.frc + BitVec.ofNat 64 (dt + 1))
    ∨ (i.resets = true ∧ t.ws.frc = 0)

end
end

