-- ==== Sys2Proof/Laws/Bits.lean ====
section
/-! SUPPORT. Fields and bits of a word after a field has been replaced, and records that carry their CRC. -/

set_option Elab.async false

namespace Sys2Proof.Machine
theorem testBit_setFld {w : Nat} (v : BitVec w) (lo n x j : Nat) :
    (setFld v lo n x).toNat.testBit j
      = if lo ≤ j ∧ j < lo + n ∧ j < w then x.testBit (j - lo) else v.toNat.testBit j := by
  unfold setFld
  simp only [BitVec.testBit_toNat, BitVec.getLsbD_or, BitVec.getLsbD_and, BitVec.getLsbD_not, BitVec.getLsbD_ofNat,
    Nat.testBit_shiftLeft, Nat.testBit_mod_two_pow, Nat.testBit_two_pow_sub_one]
  by_cases hw : j < w
  · by_cases hl : lo ≤ j
    · by_cases hn : j < lo + n
      · have : j - lo < n := by omega
        simp [hw, hl, hn, this]
      · have : ¬ j - lo < n := by omega
        simp [hw, hl, hn, this]
    · simp [hw, hl]
  · simp [hw, BitVec.getLsbD_of_ge v j (by omega)]

theorem fld_setFld {w : Nat} (v : BitVec w) (lo n x : Nat) (h : lo + n ≤ w) : fld (setFld v lo n x) lo n = x % 2 ^ n := by
  unfold fld
  apply Nat.eq_of_testBit_eq
  intro i
  simp only [Nat.testBit_mod_two_pow, Nat.testBit_shiftRight, testBit_setFld]
  by_cases hi : i < n
  · have : lo + i < lo + n ∧ lo + i < w := by omega
    simp [hi, this]
  · simp [hi]

theorem fld_setFld_ne {w : Nat} (v : BitVec w) (lo n x lo' n' : Nat) (h : lo' + n' ≤ lo ∨ lo + n ≤ lo') :
    fld (setFld v lo n x) lo' n' = fld v lo' n' := by
  unfold fld
  apply Nat.eq_of_testBit_eq
  intro i
  simp only [Nat.testBit_mod_two_pow, Nat.testBit_shiftRight, testBit_setFld]
  by_cases hi : i < n'
  · have : ¬ (lo ≤ lo' + i ∧ lo' + i < lo + n ∧ lo' + i < w) := by omega
    simp [this]
  · simp [hi]

theorem bitAt_setFld {w : Nat} (v : BitVec w) (lo n x j : Nat) :
    bitAt (setFld v lo n x) j = if lo ≤ j ∧ j < lo + n ∧ j < w then x.testBit (j - lo) else bitAt v j := testBit_setFld v lo n x j


/-! ## Little-endian fields and CRC-32 -/

@[simp] theorem length_leBytes (n x : Nat) : (leBytes n x).length = n := by
  induction n generalizing x with
  | zero => rfl
  | succ n ih => simp [leBytes, ih]

theorem leNat_leBytes (n x : Nat) : leNat (leBytes n x) = x % 256 ^ n := by
  induction n generalizing x with
  | zero => simp [leBytes, leNat, Nat.mod_one]
  | succ n ih =>
    simp only [leBytes, leNat, ih, BitVec.toNat_ofNat]
    have h : x % 256 ^ (n + 1) = x % 256 + 256 * (x / 256 % 256 ^ n) := by
      rw [Nat.pow_succ', Nat.mod_mul]
    rw [h]

/-- A record that ends with the CRC-32 of its other bytes passes (R69, R203). -/
theorem crcOk_withCrc (l : List Byte) (n : Nat) (h : n ≤ l.length + 4) (h4 : 4 ≤ n) : crcOk (withCrc l n) n = true := by
  unfold crcOk withCrc
  generalize hm : n - 4 = m
  have hl : (l.take m).length = m := by rw [List.length_take]; omega
  generalize l.take m = a at hl
  have ht : (a ++ leBytes 4 (crc32 a).toNat).take m = a := List.take_left' hl
  have hd : (a ++ leBytes 4 (crc32 a).toNat).drop m = leBytes 4 (crc32 a).toNat := List.drop_left' hl
  have hk : (leBytes 4 (crc32 a).toNat).take 4 = leBytes 4 (crc32 a).toNat :=
    List.take_of_length_le (Nat.le_of_eq (length_leBytes _ _))
  simp only [u32At, leAt, slice, ht, hd, hk, leNat_leBytes, beq_iff_eq]
  exact BitVec.eq_of_toNat_eq (by simpa using (Nat.mod_eq_of_lt (crc32 a).isLt).symm)

end Sys2Proof.Machine
end

