-- ==== Sys2Proof/Laws/Sparse.lean ====
section
/-! SUPPORT. The sparse stores: what a read gives after a write, and that every operation keeps the canonical form. -/

set_option Elab.async false

namespace Sys2Proof.Machine

variable {α : Type}

/-! ## Reads after writes -/

@[simp] theorem Sparse.find_insert_self (l : Sparse α) (i : Nat) (x : α) : Sparse.find (Sparse.insert l i x) i = some x := by
  induction l with
  | nil => simp [Sparse.insert, Sparse.find]
  | cons c l ih =>
    simp only [Sparse.insert]
    split
    · simp [Sparse.find]
    · split
      · simp [Sparse.find, *]
      · simp [Sparse.find, *]

theorem Sparse.find_insert_ne (l : Sparse α) {i j : Nat} (x : α) (h : j ≠ i) :
    Sparse.find (Sparse.insert l i x) j = Sparse.find l j := by
  induction l with
  | nil => simp [Sparse.insert, Sparse.find, h]
  | cons c l ih =>
    simp only [Sparse.insert]
    split
    · simp [Sparse.find, h]
    · split
      · next hk => subst hk; simp [Sparse.find, h]
      · simp only [Sparse.find, ih]

@[simp] theorem Sparse.get_insert_self (d : α) (l : Sparse α) (i : Nat) (x : α) :
    Sparse.get d (Sparse.insert l i x) i = x := by
  induction l with
  | nil => simp [Sparse.insert, Sparse.get]
  | cons c l ih =>
    simp only [Sparse.insert]
    split
    · simp [Sparse.get]
    · split
      · simp [Sparse.get, *]
      · simp [Sparse.get, *]

theorem Sparse.get_insert_ne (d : α) (l : Sparse α) {i j : Nat} (x : α) (h : j ≠ i) :
    Sparse.get d (Sparse.insert l i x) j = Sparse.get d l j := by
  induction l with
  | nil => simp [Sparse.insert, Sparse.get, h]
  | cons c l ih =>
    simp only [Sparse.insert]
    split
    · simp [Sparse.get, h]
    · split
      · next hk => subst hk; simp [Sparse.get, h]
      · simp only [Sparse.get, ih]

theorem Sparse.get_erase_ne (d : α) (l : Sparse α) {i j : Nat} (h : j ≠ i) :
    Sparse.get d (Sparse.erase l i) j = Sparse.get d l j := by
  induction l with
  | nil => rfl
  | cons c l ih =>
    simp only [Sparse.erase]
    split
    · next hk => subst hk; rw [ih]; simp [Sparse.get, h]
    · simp only [Sparse.get, ih]

theorem Sparse.get_of_rising (d : α) (l : Sparse α) {lo i : Nat} (h : Sparse.rising lo l = true) (hi : i < lo) :
    Sparse.get d l i = d := by
  induction l generalizing lo with
  | nil => rfl
  | cons c l ih =>
    simp only [Sparse.rising, Bool.and_eq_true, decide_eq_true_eq] at h
    have hc : i ≠ c.1 := by omega
    simp only [Sparse.get, if_neg hc]
    exact ih h.2 (by omega)

@[simp] theorem Sparse.get_erase_self (d : α) (l : Sparse α) (i : Nat) : Sparse.get d (Sparse.erase l i) i = d := by
  induction l with
  | nil => rfl
  | cons c l ih =>
    simp only [Sparse.erase]
    split
    · exact ih
    · next hk => simp only [Sparse.get, if_neg hk, ih]

/-! ## The canonical form -/

theorem Sparse.rising_mono (l : Sparse α) {lo lo' : Nat} (h : Sparse.rising lo' l = true) (hl : lo ≤ lo') :
    Sparse.rising lo l = true := by
  cases l with
  | nil => rfl
  | cons c l => simp only [Sparse.rising, Bool.and_eq_true, decide_eq_true_eq] at h ⊢; exact ⟨by omega, h.2⟩

theorem Sparse.rising_insert (l : Sparse α) {lo : Nat} (i : Nat) (x : α) (h : Sparse.rising lo l = true) (hi : lo ≤ i) :
    Sparse.rising lo (Sparse.insert l i x) = true := by
  induction l generalizing lo with
  | nil => simp [Sparse.insert, Sparse.rising, hi]
  | cons c l ih =>
    simp only [Sparse.rising, Bool.and_eq_true, decide_eq_true_eq] at h
    simp only [Sparse.insert]
    split
    · simp only [Sparse.rising, Bool.and_eq_true, decide_eq_true_eq]; exact ⟨hi, by omega, h.2⟩
    · split
      · simp only [Sparse.rising, Bool.and_eq_true, decide_eq_true_eq]; exact h
      · simp only [Sparse.rising, Bool.and_eq_true, decide_eq_true_eq]; exact ⟨h.1, ih h.2 (by omega)⟩

theorem Sparse.rising_filter (l : Sparse α) {lo : Nat} (p : Nat × α → Bool) (h : Sparse.rising lo l = true) :
    Sparse.rising lo (l.filter p) = true := by
  induction l generalizing lo with
  | nil => rfl
  | cons c l ih =>
    simp only [Sparse.rising, Bool.and_eq_true, decide_eq_true_eq] at h
    simp only [List.filter_cons]
    split
    · simp only [Sparse.rising, Bool.and_eq_true, decide_eq_true_eq]; exact ⟨h.1, ih h.2⟩
    · exact Sparse.rising_mono _ (ih h.2) (by omega)

variable [DecidableEq α]

theorem Sparse.wfFrom_rising {d : α} (l : Sparse α) {lo : Nat} (h : Sparse.wfFrom d lo l = true) :
    Sparse.rising lo l = true := by
  induction l generalizing lo with
  | nil => rfl
  | cons c l ih =>
    simp only [Sparse.wfFrom, Sparse.rising, Bool.and_eq_true, decide_eq_true_eq] at h ⊢
    exact ⟨h.1.1, ih h.2⟩

theorem Sparse.wfFrom_mono {d : α} (l : Sparse α) {lo lo' : Nat} (h : Sparse.wfFrom d lo' l = true) (hl : lo ≤ lo') :
    Sparse.wfFrom d lo l = true := by
  cases l with
  | nil => rfl
  | cons c l => simp only [Sparse.wfFrom, Bool.and_eq_true, decide_eq_true_eq] at h ⊢; exact ⟨⟨by omega, h.1.2⟩, h.2⟩

theorem Sparse.wfFrom_insert {d : α} (l : Sparse α) {lo : Nat} (i : Nat) {x : α} (hx : x ≠ d)
    (h : Sparse.wfFrom d lo l = true) (hi : lo ≤ i) : Sparse.wfFrom d lo (Sparse.insert l i x) = true := by
  induction l generalizing lo with
  | nil => simp [Sparse.insert, Sparse.wfFrom, hi, hx]
  | cons c l ih =>
    simp only [Sparse.wfFrom, Bool.and_eq_true, decide_eq_true_eq, Bool.not_eq_true', decide_eq_false_iff_not] at h
    simp only [Sparse.insert]
    split
    · simp [Sparse.wfFrom, hi, hx, h.1.2, h.2]; omega
    · split
      · simp [Sparse.wfFrom, h.1.1, hx, h.2]
      · simp [Sparse.wfFrom, h.1.1, h.1.2, ih h.2 (by omega)]

theorem Sparse.wfFrom_erase {d : α} (l : Sparse α) {lo : Nat} (i : Nat) (h : Sparse.wfFrom d lo l = true) :
    Sparse.wfFrom d lo (Sparse.erase l i) = true := by
  induction l generalizing lo with
  | nil => rfl
  | cons c l ih =>
    simp only [Sparse.wfFrom, Bool.and_eq_true, decide_eq_true_eq] at h
    simp only [Sparse.erase]
    split
    · exact ih (Sparse.wfFrom_mono _ h.2 (by omega))
    · simp only [Sparse.wfFrom, Bool.and_eq_true, decide_eq_true_eq]; exact ⟨h.1, ih h.2⟩

theorem Sparse.wf_set {d : α} (l : Sparse α) (i : Nat) (x : α) (h : Sparse.wf d l = true) :
    Sparse.wf d (Sparse.set d l i x) = true := by
  unfold Sparse.wf at *
  unfold Sparse.set
  split
  · exact Sparse.wfFrom_erase l i h
  · next hx => exact Sparse.wfFrom_insert l i hx h (Nat.zero_le i)

theorem Sparse.wf_filter {d : α} (l : Sparse α) (p : Nat × α → Bool) (h : Sparse.wf d l = true) :
    Sparse.wf d (l.filter p) = true := by
  unfold Sparse.wf at *
  generalize 0 = lo at *
  induction l generalizing lo with
  | nil => rfl
  | cons c l ih =>
    simp only [Sparse.wfFrom, Bool.and_eq_true, decide_eq_true_eq] at h
    simp only [List.filter_cons]
    split
    · simp only [Sparse.wfFrom, Bool.and_eq_true, decide_eq_true_eq]; exact ⟨h.1, ih _ h.2⟩
    · exact Sparse.wfFrom_mono _ (ih _ h.2) (by omega)

@[simp] theorem Sparse.get_set_self {d : α} (l : Sparse α) (i : Nat) (x : α) : Sparse.get d (Sparse.set d l i x) i = x := by
  unfold Sparse.set
  split
  · next hx => simp [hx]
  · simp

theorem Sparse.get_set_ne {d : α} (l : Sparse α) {i j : Nat} (x : α) (h : j ≠ i) :
    Sparse.get d (Sparse.set d l i x) j = Sparse.get d l j := by
  unfold Sparse.set
  split
  · exact Sparse.get_erase_ne d l h
  · exact Sparse.get_insert_ne d l x h

/-! ## Byte stores -/

/-- A write keeps the canonical form. -/
theorem Sparse.wf_write {d : Byte} (bs : List Byte) (l : Sparse Byte) (o : Nat) (h : Sparse.wf d l = true) :
    Sparse.wf d (Sparse.write d l o bs) = true := by
  induction bs generalizing l o with
  | nil => exact h
  | cons b bs ih => exact ih _ _ (Sparse.wf_set l o b h)

/-- A write leaves every other byte alone. -/
theorem Sparse.get_write_outside {d : Byte} (bs : List Byte) (l : Sparse Byte) (o a : Nat)
    (h : a < o ∨ o + bs.length ≤ a) : Sparse.get d (Sparse.write d l o bs) a = Sparse.get d l a := by
  induction bs generalizing l o with
  | nil => rfl
  | cons b bs ih =>
    simp only [List.length_cons] at h
    rw [Sparse.write, ih _ _ (by omega), Sparse.get_set_ne l b (by omega)]

/-- A byte that a write stores reads back. -/
theorem Sparse.get_write_inside {d : Byte} (bs : List Byte) (l : Sparse Byte) (o k : Nat) (h : k < bs.length) :
    Sparse.get d (Sparse.write d l o bs) (o + k) = bs.getD k d := by
  induction bs generalizing l o k with
  | nil => simp at h
  | cons b bs ih =>
    rw [Sparse.write]
    cases k with
    | zero => rw [Sparse.get_write_outside _ _ _ _ (by omega)]; simp
    | succ k =>
      have := ih (Sparse.set d l o b) (o + 1) k (by simp at h; omega)
      rw [show o + (k + 1) = o + 1 + k by omega, this]; simp

/-! ## Runs of bytes -/

/-- A read gives each byte as `Sparse.get` has it. -/
theorem Sparse.bytes_eq (d : Byte) (n : Nat) : ∀ (l : Sparse Byte) (o : Nat), Sparse.rising o l = true →
    Sparse.bytes d l o n = (List.range n).map (fun k => Sparse.get d l (o + k)) := by
  induction n with
  | zero => intro l o _; simp [Sparse.bytes]
  | succ n ih =>
    intro l o h
    rw [List.range_succ_eq_map]
    cases l with
    | nil =>
      simp only [Sparse.bytes, Sparse.get, List.map_cons, List.map_map]
      rw [List.replicate_succ]
      congr 1
      exact (List.eq_replicate_iff.mpr ⟨by simp, by simp⟩).symm
    | cons c l =>
      obtain ⟨k, v⟩ := c
      have hc := h
      simp only [Sparse.rising, Bool.and_eq_true, decide_eq_true_eq] at hc
      simp only [Sparse.bytes]
      by_cases hk : k = o
      · subst hk
        simp only [if_true, List.map_cons, List.map_map, Nat.add_zero]
        congr 1
        · simp [Sparse.get]
        rw [ih l (k + 1) hc.2]
        refine List.map_congr_left fun j _ => ?_
        simp only [Function.comp, Sparse.get]
        rw [if_neg (by omega)]
        congr 1
        omega
      · simp only [if_neg hk, List.map_cons, List.map_map, Nat.add_zero]
        congr 1
        · simp only [Sparse.get]
          rw [if_neg (by omega), Sparse.get_of_rising d l hc.2 (by omega)]
        · rw [ih ((k, v) :: l) (o + 1) (by simp only [Sparse.rising, Bool.and_eq_true, decide_eq_true_eq]; exact ⟨by omega, hc.2⟩)]
          refine List.map_congr_left fun j _ => ?_
          simp only [Function.comp]
          congr 1
          omega

omit [DecidableEq α] in
theorem Sparse.dropBelow_rising (l : Sparse α) {lo : Nat} (o : Nat) (h : Sparse.rising lo l = true) :
    Sparse.rising o (Sparse.dropBelow l o) = true := by
  induction l generalizing lo with
  | nil => rfl
  | cons c l ih =>
    simp only [Sparse.rising, Bool.and_eq_true, decide_eq_true_eq] at h
    simp only [Sparse.dropBelow]
    split
    · exact ih h.2
    · simp only [Sparse.rising, Bool.and_eq_true, decide_eq_true_eq]
      exact ⟨by omega, h.2⟩

omit [DecidableEq α] in
theorem Sparse.get_dropBelow (d : α) (l : Sparse α) {o i : Nat} (h : o ≤ i) :
    Sparse.get d (Sparse.dropBelow l o) i = Sparse.get d l i := by
  induction l with
  | nil => rfl
  | cons c l ih =>
    simp only [Sparse.dropBelow]
    split
    · next hk => rw [ih]; simp only [Sparse.get]; rw [if_neg (by omega)]
    · rfl

theorem Sparse.read_eq (d : Byte) (l : Sparse Byte) {lo : Nat} (o n : Nat) (h : Sparse.rising lo l = true) :
    Sparse.read d l o n = (List.range n).map (fun k => Sparse.get d l (o + k)) := by
  unfold Sparse.read
  rw [Sparse.bytes_eq d n _ o (Sparse.dropBelow_rising l o h)]
  exact List.map_congr_left fun k _ => Sparse.get_dropBelow d l (by omega)

/-- What was written is read back. -/
theorem Sparse.read_write {d : Byte} (bs : List Byte) (l : Sparse Byte) (o : Nat) (h : Sparse.wf d l = true) :
    Sparse.read d (Sparse.write d l o bs) o bs.length = bs := by
  have hr : Sparse.rising 0 (Sparse.write d l o bs) = true := Sparse.wfFrom_rising _ (Sparse.wf_write bs l o h)
  rw [Sparse.read_eq d _ o _ hr]
  refine List.ext_getElem (by simp) fun k hk _ => ?_
  simp only [List.getElem_map, List.getElem_range]
  have hk' : k < bs.length := by simpa using hk
  have := Sparse.get_write_inside (d := d) bs l o k hk'
  rw [this]
  first
  | exact List.getD_eq_getElem _ _ hk'
  | simp [hk']

end Sys2Proof.Machine
end

