-- ==== Sys2Proof/Laws/State.lean ====
section
/-! SUPPORT. Each part of the state after each of the record updates that the operations are built from: one lemma per field per update. -/

set_option Elab.async false

namespace Sys2Proof.Machine

variable (s : State)

/-! ## `State.setReg` -/

@[simp] theorem State.setReg_regs (o : Off) (v : U32) : (s.setReg o v).regs = Sparse.insert s.regs o v := rfl
@[simp] theorem State.setReg_latch (o : Off) (v : U32) : (s.setReg o v).latch = s.latch := rfl
@[simp] theorem State.setReg_hold (o : Off) (v : U32) : (s.setReg o v).hold = s.hold := rfl
@[simp] theorem State.setReg_tarn (o : Off) (v : U32) : (s.setReg o v).tarn = s.tarn := rfl
@[simp] theorem State.setReg_inlet (o : Off) (v : U32) : (s.setReg o v).inlet = s.inlet := rfl
@[simp] theorem State.setReg_aeA (o : Off) (v : U32) : (s.setReg o v).aeA = s.aeA := rfl
@[simp] theorem State.setReg_aeB (o : Off) (v : U32) : (s.setReg o v).aeB = s.aeB := rfl
@[simp] theorem State.setReg_outlet (o : Off) (v : U32) : (s.setReg o v).outlet = s.outlet := rfl
@[simp] theorem State.setReg_hif (o : Off) (v : U32) : (s.setReg o v).hif = s.hif := rfl
@[simp] theorem State.setReg_skink (o : Off) (v : U32) : (s.setReg o v).skink = s.skink := rfl
@[simp] theorem State.setReg_spawn (o : Off) (v : U32) : (s.setReg o v).spawn = s.spawn := rfl
@[simp] theorem State.setReg_fe (o : Off) (v : U32) : (s.setReg o v).fe = s.fe := rfl
@[simp] theorem State.setReg_dio (o : Off) (v : U32) : (s.setReg o v).dio = s.dio := rfl
@[simp] theorem State.setReg_can (o : Off) (v : U32) : (s.setReg o v).can = s.can := rfl
@[simp] theorem State.setReg_canWalk (o : Off) (v : U32) : (s.setReg o v).canWalk = s.canWalk := rfl
@[simp] theorem State.setReg_ws (o : Off) (v : U32) : (s.setReg o v).ws = s.ws := rfl
@[simp] theorem State.setReg_rtc (o : Off) (v : U32) : (s.setReg o v).rtc = s.rtc := rfl
@[simp] theorem State.setReg_panel (o : Off) (v : U32) : (s.setReg o v).panel = s.panel := rfl
@[simp] theorem State.setReg_nvm (o : Off) (v : U32) : (s.setReg o v).nvm = s.nvm := rfl
@[simp] theorem State.setReg_upd (o : Off) (v : U32) : (s.setReg o v).upd = s.upd := rfl
@[simp] theorem State.setReg_gecko (o : Off) (v : U32) : (s.setReg o v).gecko = s.gecko := rfl
@[simp] theorem State.setReg_behavBoot (o : Off) (v : U32) : (s.setReg o v).behavBoot = s.behavBoot := rfl
@[simp] theorem State.setReg_hostRead (o : Off) (v : U32) : (s.setReg o v).hostRead = s.hostRead := rfl
@[simp] theorem State.setReg_out (o : Off) (v : U32) : (s.setReg o v).out = s.out := rfl
@[simp] theorem State.setReg_free (o : Off) (v : U32) : (s.setReg o v).free = s.free := rfl
@[simp] theorem State.setReg_pending (o : Off) (v : U32) : (s.setReg o v).pending = s.pending := rfl

/-! ## `State.fresh` -/

@[simp] theorem State.fresh_regs : s.fresh.regs = s.regs := rfl
@[simp] theorem State.fresh_latch : s.fresh.latch = s.latch := rfl
@[simp] theorem State.fresh_hold : s.fresh.hold = s.hold := rfl
@[simp] theorem State.fresh_tarn : s.fresh.tarn = s.tarn := rfl
@[simp] theorem State.fresh_inlet : s.fresh.inlet = s.inlet := rfl
@[simp] theorem State.fresh_aeA : s.fresh.aeA = s.aeA := rfl
@[simp] theorem State.fresh_aeB : s.fresh.aeB = s.aeB := rfl
@[simp] theorem State.fresh_outlet : s.fresh.outlet = s.outlet := rfl
@[simp] theorem State.fresh_hif : s.fresh.hif = s.hif := rfl
@[simp] theorem State.fresh_skink : s.fresh.skink = s.skink := rfl
@[simp] theorem State.fresh_spawn : s.fresh.spawn = s.spawn := rfl
@[simp] theorem State.fresh_fe : s.fresh.fe = s.fe := rfl
@[simp] theorem State.fresh_dio : s.fresh.dio = s.dio := rfl
@[simp] theorem State.fresh_can : s.fresh.can = s.can := rfl
@[simp] theorem State.fresh_canWalk : s.fresh.canWalk = s.canWalk := rfl
@[simp] theorem State.fresh_ws : s.fresh.ws = s.ws := rfl
@[simp] theorem State.fresh_rtc : s.fresh.rtc = s.rtc := rfl
@[simp] theorem State.fresh_panel : s.fresh.panel = s.panel := rfl
@[simp] theorem State.fresh_nvm : s.fresh.nvm = s.nvm := rfl
@[simp] theorem State.fresh_upd : s.fresh.upd = s.upd := rfl
@[simp] theorem State.fresh_gecko : s.fresh.gecko = s.gecko := rfl
@[simp] theorem State.fresh_behavBoot : s.fresh.behavBoot = s.behavBoot := rfl
@[simp] theorem State.fresh_hostRead : s.fresh.hostRead = s.hostRead := rfl
@[simp] theorem State.fresh_out : s.fresh.out = [] := rfl
@[simp] theorem State.fresh_free : s.fresh.free = s.free := rfl
@[simp] theorem State.fresh_pending : s.fresh.pending = s.pending := rfl

/-! ## `State.emitOut` -/

@[simp] theorem State.emitOut_regs (x : Output) : (s.emitOut x).regs = s.regs := rfl
@[simp] theorem State.emitOut_latch (x : Output) : (s.emitOut x).latch = s.latch := rfl
@[simp] theorem State.emitOut_hold (x : Output) : (s.emitOut x).hold = s.hold := rfl
@[simp] theorem State.emitOut_tarn (x : Output) : (s.emitOut x).tarn = s.tarn := rfl
@[simp] theorem State.emitOut_inlet (x : Output) : (s.emitOut x).inlet = s.inlet := rfl
@[simp] theorem State.emitOut_aeA (x : Output) : (s.emitOut x).aeA = s.aeA := rfl
@[simp] theorem State.emitOut_aeB (x : Output) : (s.emitOut x).aeB = s.aeB := rfl
@[simp] theorem State.emitOut_outlet (x : Output) : (s.emitOut x).outlet = s.outlet := rfl
@[simp] theorem State.emitOut_hif (x : Output) : (s.emitOut x).hif = s.hif := rfl
@[simp] theorem State.emitOut_skink (x : Output) : (s.emitOut x).skink = s.skink := rfl
@[simp] theorem State.emitOut_spawn (x : Output) : (s.emitOut x).spawn = s.spawn := rfl
@[simp] theorem State.emitOut_fe (x : Output) : (s.emitOut x).fe = s.fe := rfl
@[simp] theorem State.emitOut_dio (x : Output) : (s.emitOut x).dio = s.dio := rfl
@[simp] theorem State.emitOut_can (x : Output) : (s.emitOut x).can = s.can := rfl
@[simp] theorem State.emitOut_canWalk (x : Output) : (s.emitOut x).canWalk = s.canWalk := rfl
@[simp] theorem State.emitOut_ws (x : Output) : (s.emitOut x).ws = s.ws := rfl
@[simp] theorem State.emitOut_rtc (x : Output) : (s.emitOut x).rtc = s.rtc := rfl
@[simp] theorem State.emitOut_panel (x : Output) : (s.emitOut x).panel = s.panel := rfl
@[simp] theorem State.emitOut_nvm (x : Output) : (s.emitOut x).nvm = s.nvm := rfl
@[simp] theorem State.emitOut_upd (x : Output) : (s.emitOut x).upd = s.upd := rfl
@[simp] theorem State.emitOut_gecko (x : Output) : (s.emitOut x).gecko = s.gecko := rfl
@[simp] theorem State.emitOut_behavBoot (x : Output) : (s.emitOut x).behavBoot = s.behavBoot := rfl
@[simp] theorem State.emitOut_hostRead (x : Output) : (s.emitOut x).hostRead = s.hostRead := rfl
@[simp] theorem State.emitOut_out (x : Output) : (s.emitOut x).out = s.out ++ [x] := rfl
@[simp] theorem State.emitOut_free (x : Output) : (s.emitOut x).free = s.free := rfl
@[simp] theorem State.emitOut_pending (x : Output) : (s.emitOut x).pending = s.pending := rfl

/-! ## `State.tarnWrite` -/

@[simp] theorem State.tarnWrite_regs (o : Off) (l : List Byte) : (s.tarnWrite o l).regs = s.regs := rfl
@[simp] theorem State.tarnWrite_latch (o : Off) (l : List Byte) : (s.tarnWrite o l).latch = s.latch := rfl
@[simp] theorem State.tarnWrite_hold (o : Off) (l : List Byte) : (s.tarnWrite o l).hold = s.hold := rfl
@[simp] theorem State.tarnWrite_tarn (o : Off) (l : List Byte) : (s.tarnWrite o l).tarn = Sparse.write 0 s.tarn o l := rfl
@[simp] theorem State.tarnWrite_inlet (o : Off) (l : List Byte) : (s.tarnWrite o l).inlet = s.inlet := rfl
@[simp] theorem State.tarnWrite_aeA (o : Off) (l : List Byte) : (s.tarnWrite o l).aeA = s.aeA := rfl
@[simp] theorem State.tarnWrite_aeB (o : Off) (l : List Byte) : (s.tarnWrite o l).aeB = s.aeB := rfl
@[simp] theorem State.tarnWrite_outlet (o : Off) (l : List Byte) : (s.tarnWrite o l).outlet = s.outlet := rfl
@[simp] theorem State.tarnWrite_hif (o : Off) (l : List Byte) : (s.tarnWrite o l).hif = s.hif := rfl
@[simp] theorem State.tarnWrite_skink (o : Off) (l : List Byte) : (s.tarnWrite o l).skink = s.skink := rfl
@[simp] theorem State.tarnWrite_spawn (o : Off) (l : List Byte) : (s.tarnWrite o l).spawn = s.spawn := rfl
@[simp] theorem State.tarnWrite_fe (o : Off) (l : List Byte) : (s.tarnWrite o l).fe = s.fe := rfl
@[simp] theorem State.tarnWrite_dio (o : Off) (l : List Byte) : (s.tarnWrite o l).dio = s.dio := rfl
@[simp] theorem State.tarnWrite_can (o : Off) (l : List Byte) : (s.tarnWrite o l).can = s.can := rfl
@[simp] theorem State.tarnWrite_canWalk (o : Off) (l : List Byte) : (s.tarnWrite o l).canWalk = s.canWalk := rfl
@[simp] theorem State.tarnWrite_ws (o : Off) (l : List Byte) : (s.tarnWrite o l).ws = s.ws := rfl
@[simp] theorem State.tarnWrite_rtc (o : Off) (l : List Byte) : (s.tarnWrite o l).rtc = s.rtc := rfl
@[simp] theorem State.tarnWrite_panel (o : Off) (l : List Byte) : (s.tarnWrite o l).panel = s.panel := rfl
@[simp] theorem State.tarnWrite_nvm (o : Off) (l : List Byte) : (s.tarnWrite o l).nvm = s.nvm := rfl
@[simp] theorem State.tarnWrite_upd (o : Off) (l : List Byte) : (s.tarnWrite o l).upd = s.upd := rfl
@[simp] theorem State.tarnWrite_gecko (o : Off) (l : List Byte) : (s.tarnWrite o l).gecko = s.gecko := rfl
@[simp] theorem State.tarnWrite_behavBoot (o : Off) (l : List Byte) : (s.tarnWrite o l).behavBoot = s.behavBoot := rfl
@[simp] theorem State.tarnWrite_hostRead (o : Off) (l : List Byte) : (s.tarnWrite o l).hostRead = s.hostRead := rfl
@[simp] theorem State.tarnWrite_out (o : Off) (l : List Byte) : (s.tarnWrite o l).out = s.out := rfl
@[simp] theorem State.tarnWrite_free (o : Off) (l : List Byte) : (s.tarnWrite o l).free = s.free := rfl
@[simp] theorem State.tarnWrite_pending (o : Off) (l : List Byte) : (s.tarnWrite o l).pending = s.pending := rfl

/-! ## `State.updHif` -/

@[simp] theorem State.updHif_regs (f : Hif → Hif) : (s.updHif f).regs = s.regs := rfl
@[simp] theorem State.updHif_latch (f : Hif → Hif) : (s.updHif f).latch = s.latch := rfl
@[simp] theorem State.updHif_hold (f : Hif → Hif) : (s.updHif f).hold = s.hold := rfl
@[simp] theorem State.updHif_tarn (f : Hif → Hif) : (s.updHif f).tarn = s.tarn := rfl
@[simp] theorem State.updHif_inlet (f : Hif → Hif) : (s.updHif f).inlet = s.inlet := rfl
@[simp] theorem State.updHif_aeA (f : Hif → Hif) : (s.updHif f).aeA = s.aeA := rfl
@[simp] theorem State.updHif_aeB (f : Hif → Hif) : (s.updHif f).aeB = s.aeB := rfl
@[simp] theorem State.updHif_outlet (f : Hif → Hif) : (s.updHif f).outlet = s.outlet := rfl
@[simp] theorem State.updHif_hif (f : Hif → Hif) : (s.updHif f).hif = f s.hif := rfl
@[simp] theorem State.updHif_skink (f : Hif → Hif) : (s.updHif f).skink = s.skink := rfl
@[simp] theorem State.updHif_spawn (f : Hif → Hif) : (s.updHif f).spawn = s.spawn := rfl
@[simp] theorem State.updHif_fe (f : Hif → Hif) : (s.updHif f).fe = s.fe := rfl
@[simp] theorem State.updHif_dio (f : Hif → Hif) : (s.updHif f).dio = s.dio := rfl
@[simp] theorem State.updHif_can (f : Hif → Hif) : (s.updHif f).can = s.can := rfl
@[simp] theorem State.updHif_canWalk (f : Hif → Hif) : (s.updHif f).canWalk = s.canWalk := rfl
@[simp] theorem State.updHif_ws (f : Hif → Hif) : (s.updHif f).ws = s.ws := rfl
@[simp] theorem State.updHif_rtc (f : Hif → Hif) : (s.updHif f).rtc = s.rtc := rfl
@[simp] theorem State.updHif_panel (f : Hif → Hif) : (s.updHif f).panel = s.panel := rfl
@[simp] theorem State.updHif_nvm (f : Hif → Hif) : (s.updHif f).nvm = s.nvm := rfl
@[simp] theorem State.updHif_upd (f : Hif → Hif) : (s.updHif f).upd = s.upd := rfl
@[simp] theorem State.updHif_gecko (f : Hif → Hif) : (s.updHif f).gecko = s.gecko := rfl
@[simp] theorem State.updHif_behavBoot (f : Hif → Hif) : (s.updHif f).behavBoot = s.behavBoot := rfl
@[simp] theorem State.updHif_hostRead (f : Hif → Hif) : (s.updHif f).hostRead = s.hostRead := rfl
@[simp] theorem State.updHif_out (f : Hif → Hif) : (s.updHif f).out = s.out := rfl
@[simp] theorem State.updHif_free (f : Hif → Hif) : (s.updHif f).free = s.free := rfl
@[simp] theorem State.updHif_pending (f : Hif → Hif) : (s.updHif f).pending = s.pending := rfl

/-! ## `State.updSkink` -/

@[simp] theorem State.updSkink_regs (f : Skink → Skink) : (s.updSkink f).regs = s.regs := rfl
@[simp] theorem State.updSkink_latch (f : Skink → Skink) : (s.updSkink f).latch = s.latch := rfl
@[simp] theorem State.updSkink_hold (f : Skink → Skink) : (s.updSkink f).hold = s.hold := rfl
@[simp] theorem State.updSkink_tarn (f : Skink → Skink) : (s.updSkink f).tarn = s.tarn := rfl
@[simp] theorem State.updSkink_inlet (f : Skink → Skink) : (s.updSkink f).inlet = s.inlet := rfl
@[simp] theorem State.updSkink_aeA (f : Skink → Skink) : (s.updSkink f).aeA = s.aeA := rfl
@[simp] theorem State.updSkink_aeB (f : Skink → Skink) : (s.updSkink f).aeB = s.aeB := rfl
@[simp] theorem State.updSkink_outlet (f : Skink → Skink) : (s.updSkink f).outlet = s.outlet := rfl
@[simp] theorem State.updSkink_hif (f : Skink → Skink) : (s.updSkink f).hif = s.hif := rfl
@[simp] theorem State.updSkink_skink (f : Skink → Skink) : (s.updSkink f).skink = f s.skink := rfl
@[simp] theorem State.updSkink_spawn (f : Skink → Skink) : (s.updSkink f).spawn = s.spawn := rfl
@[simp] theorem State.updSkink_fe (f : Skink → Skink) : (s.updSkink f).fe = s.fe := rfl
@[simp] theorem State.updSkink_dio (f : Skink → Skink) : (s.updSkink f).dio = s.dio := rfl
@[simp] theorem State.updSkink_can (f : Skink → Skink) : (s.updSkink f).can = s.can := rfl
@[simp] theorem State.updSkink_canWalk (f : Skink → Skink) : (s.updSkink f).canWalk = s.canWalk := rfl
@[simp] theorem State.updSkink_ws (f : Skink → Skink) : (s.updSkink f).ws = s.ws := rfl
@[simp] theorem State.updSkink_rtc (f : Skink → Skink) : (s.updSkink f).rtc = s.rtc := rfl
@[simp] theorem State.updSkink_panel (f : Skink → Skink) : (s.updSkink f).panel = s.panel := rfl
@[simp] theorem State.updSkink_nvm (f : Skink → Skink) : (s.updSkink f).nvm = s.nvm := rfl
@[simp] theorem State.updSkink_upd (f : Skink → Skink) : (s.updSkink f).upd = s.upd := rfl
@[simp] theorem State.updSkink_gecko (f : Skink → Skink) : (s.updSkink f).gecko = s.gecko := rfl
@[simp] theorem State.updSkink_behavBoot (f : Skink → Skink) : (s.updSkink f).behavBoot = s.behavBoot := rfl
@[simp] theorem State.updSkink_hostRead (f : Skink → Skink) : (s.updSkink f).hostRead = s.hostRead := rfl
@[simp] theorem State.updSkink_out (f : Skink → Skink) : (s.updSkink f).out = s.out := rfl
@[simp] theorem State.updSkink_free (f : Skink → Skink) : (s.updSkink f).free = s.free := rfl
@[simp] theorem State.updSkink_pending (f : Skink → Skink) : (s.updSkink f).pending = s.pending := rfl

/-! ## `State.updSpawn` -/

@[simp] theorem State.updSpawn_regs (f : Spawn → Spawn) : (s.updSpawn f).regs = s.regs := rfl
@[simp] theorem State.updSpawn_latch (f : Spawn → Spawn) : (s.updSpawn f).latch = s.latch := rfl
@[simp] theorem State.updSpawn_hold (f : Spawn → Spawn) : (s.updSpawn f).hold = s.hold := rfl
@[simp] theorem State.updSpawn_tarn (f : Spawn → Spawn) : (s.updSpawn f).tarn = s.tarn := rfl
@[simp] theorem State.updSpawn_inlet (f : Spawn → Spawn) : (s.updSpawn f).inlet = s.inlet := rfl
@[simp] theorem State.updSpawn_aeA (f : Spawn → Spawn) : (s.updSpawn f).aeA = s.aeA := rfl
@[simp] theorem State.updSpawn_aeB (f : Spawn → Spawn) : (s.updSpawn f).aeB = s.aeB := rfl
@[simp] theorem State.updSpawn_outlet (f : Spawn → Spawn) : (s.updSpawn f).outlet = s.outlet := rfl
@[simp] theorem State.updSpawn_hif (f : Spawn → Spawn) : (s.updSpawn f).hif = s.hif := rfl
@[simp] theorem State.updSpawn_skink (f : Spawn → Spawn) : (s.updSpawn f).skink = s.skink := rfl
@[simp] theorem State.updSpawn_spawn (f : Spawn → Spawn) : (s.updSpawn f).spawn = f s.spawn := rfl
@[simp] theorem State.updSpawn_fe (f : Spawn → Spawn) : (s.updSpawn f).fe = s.fe := rfl
@[simp] theorem State.updSpawn_dio (f : Spawn → Spawn) : (s.updSpawn f).dio = s.dio := rfl
@[simp] theorem State.updSpawn_can (f : Spawn → Spawn) : (s.updSpawn f).can = s.can := rfl
@[simp] theorem State.updSpawn_canWalk (f : Spawn → Spawn) : (s.updSpawn f).canWalk = s.canWalk := rfl
@[simp] theorem State.updSpawn_ws (f : Spawn → Spawn) : (s.updSpawn f).ws = s.ws := rfl
@[simp] theorem State.updSpawn_rtc (f : Spawn → Spawn) : (s.updSpawn f).rtc = s.rtc := rfl
@[simp] theorem State.updSpawn_panel (f : Spawn → Spawn) : (s.updSpawn f).panel = s.panel := rfl
@[simp] theorem State.updSpawn_nvm (f : Spawn → Spawn) : (s.updSpawn f).nvm = s.nvm := rfl
@[simp] theorem State.updSpawn_upd (f : Spawn → Spawn) : (s.updSpawn f).upd = s.upd := rfl
@[simp] theorem State.updSpawn_gecko (f : Spawn → Spawn) : (s.updSpawn f).gecko = s.gecko := rfl
@[simp] theorem State.updSpawn_behavBoot (f : Spawn → Spawn) : (s.updSpawn f).behavBoot = s.behavBoot := rfl
@[simp] theorem State.updSpawn_hostRead (f : Spawn → Spawn) : (s.updSpawn f).hostRead = s.hostRead := rfl
@[simp] theorem State.updSpawn_out (f : Spawn → Spawn) : (s.updSpawn f).out = s.out := rfl
@[simp] theorem State.updSpawn_free (f : Spawn → Spawn) : (s.updSpawn f).free = s.free := rfl
@[simp] theorem State.updSpawn_pending (f : Spawn → Spawn) : (s.updSpawn f).pending = s.pending := rfl

/-! ## `State.updOutlet` -/

@[simp] theorem State.updOutlet_regs (f : Outlet → Outlet) : (s.updOutlet f).regs = s.regs := rfl
@[simp] theorem State.updOutlet_latch (f : Outlet → Outlet) : (s.updOutlet f).latch = s.latch := rfl
@[simp] theorem State.updOutlet_hold (f : Outlet → Outlet) : (s.updOutlet f).hold = s.hold := rfl
@[simp] theorem State.updOutlet_tarn (f : Outlet → Outlet) : (s.updOutlet f).tarn = s.tarn := rfl
@[simp] theorem State.updOutlet_inlet (f : Outlet → Outlet) : (s.updOutlet f).inlet = s.inlet := rfl
@[simp] theorem State.updOutlet_aeA (f : Outlet → Outlet) : (s.updOutlet f).aeA = s.aeA := rfl
@[simp] theorem State.updOutlet_aeB (f : Outlet → Outlet) : (s.updOutlet f).aeB = s.aeB := rfl
@[simp] theorem State.updOutlet_outlet (f : Outlet → Outlet) : (s.updOutlet f).outlet = f s.outlet := rfl
@[simp] theorem State.updOutlet_hif (f : Outlet → Outlet) : (s.updOutlet f).hif = s.hif := rfl
@[simp] theorem State.updOutlet_skink (f : Outlet → Outlet) : (s.updOutlet f).skink = s.skink := rfl
@[simp] theorem State.updOutlet_spawn (f : Outlet → Outlet) : (s.updOutlet f).spawn = s.spawn := rfl
@[simp] theorem State.updOutlet_fe (f : Outlet → Outlet) : (s.updOutlet f).fe = s.fe := rfl
@[simp] theorem State.updOutlet_dio (f : Outlet → Outlet) : (s.updOutlet f).dio = s.dio := rfl
@[simp] theorem State.updOutlet_can (f : Outlet → Outlet) : (s.updOutlet f).can = s.can := rfl
@[simp] theorem State.updOutlet_canWalk (f : Outlet → Outlet) : (s.updOutlet f).canWalk = s.canWalk := rfl
@[simp] theorem State.updOutlet_ws (f : Outlet → Outlet) : (s.updOutlet f).ws = s.ws := rfl
@[simp] theorem State.updOutlet_rtc (f : Outlet → Outlet) : (s.updOutlet f).rtc = s.rtc := rfl
@[simp] theorem State.updOutlet_panel (f : Outlet → Outlet) : (s.updOutlet f).panel = s.panel := rfl
@[simp] theorem State.updOutlet_nvm (f : Outlet → Outlet) : (s.updOutlet f).nvm = s.nvm := rfl
@[simp] theorem State.updOutlet_upd (f : Outlet → Outlet) : (s.updOutlet f).upd = s.upd := rfl
@[simp] theorem State.updOutlet_gecko (f : Outlet → Outlet) : (s.updOutlet f).gecko = s.gecko := rfl
@[simp] theorem State.updOutlet_behavBoot (f : Outlet → Outlet) : (s.updOutlet f).behavBoot = s.behavBoot := rfl
@[simp] theorem State.updOutlet_hostRead (f : Outlet → Outlet) : (s.updOutlet f).hostRead = s.hostRead := rfl
@[simp] theorem State.updOutlet_out (f : Outlet → Outlet) : (s.updOutlet f).out = s.out := rfl
@[simp] theorem State.updOutlet_free (f : Outlet → Outlet) : (s.updOutlet f).free = s.free := rfl
@[simp] theorem State.updOutlet_pending (f : Outlet → Outlet) : (s.updOutlet f).pending = s.pending := rfl

/-! ## `State.updDio` -/

@[simp] theorem State.updDio_regs (f : Dio → Dio) : (s.updDio f).regs = s.regs := rfl
@[simp] theorem State.updDio_latch (f : Dio → Dio) : (s.updDio f).latch = s.latch := rfl
@[simp] theorem State.updDio_hold (f : Dio → Dio) : (s.updDio f).hold = s.hold := rfl
@[simp] theorem State.updDio_tarn (f : Dio → Dio) : (s.updDio f).tarn = s.tarn := rfl
@[simp] theorem State.updDio_inlet (f : Dio → Dio) : (s.updDio f).inlet = s.inlet := rfl
@[simp] theorem State.updDio_aeA (f : Dio → Dio) : (s.updDio f).aeA = s.aeA := rfl
@[simp] theorem State.updDio_aeB (f : Dio → Dio) : (s.updDio f).aeB = s.aeB := rfl
@[simp] theorem State.updDio_outlet (f : Dio → Dio) : (s.updDio f).outlet = s.outlet := rfl
@[simp] theorem State.updDio_hif (f : Dio → Dio) : (s.updDio f).hif = s.hif := rfl
@[simp] theorem State.updDio_skink (f : Dio → Dio) : (s.updDio f).skink = s.skink := rfl
@[simp] theorem State.updDio_spawn (f : Dio → Dio) : (s.updDio f).spawn = s.spawn := rfl
@[simp] theorem State.updDio_fe (f : Dio → Dio) : (s.updDio f).fe = s.fe := rfl
@[simp] theorem State.updDio_dio (f : Dio → Dio) : (s.updDio f).dio = f s.dio := rfl
@[simp] theorem State.updDio_can (f : Dio → Dio) : (s.updDio f).can = s.can := rfl
@[simp] theorem State.updDio_canWalk (f : Dio → Dio) : (s.updDio f).canWalk = s.canWalk := rfl
@[simp] theorem State.updDio_ws (f : Dio → Dio) : (s.updDio f).ws = s.ws := rfl
@[simp] theorem State.updDio_rtc (f : Dio → Dio) : (s.updDio f).rtc = s.rtc := rfl
@[simp] theorem State.updDio_panel (f : Dio → Dio) : (s.updDio f).panel = s.panel := rfl
@[simp] theorem State.updDio_nvm (f : Dio → Dio) : (s.updDio f).nvm = s.nvm := rfl
@[simp] theorem State.updDio_upd (f : Dio → Dio) : (s.updDio f).upd = s.upd := rfl
@[simp] theorem State.updDio_gecko (f : Dio → Dio) : (s.updDio f).gecko = s.gecko := rfl
@[simp] theorem State.updDio_behavBoot (f : Dio → Dio) : (s.updDio f).behavBoot = s.behavBoot := rfl
@[simp] theorem State.updDio_hostRead (f : Dio → Dio) : (s.updDio f).hostRead = s.hostRead := rfl
@[simp] theorem State.updDio_out (f : Dio → Dio) : (s.updDio f).out = s.out := rfl
@[simp] theorem State.updDio_free (f : Dio → Dio) : (s.updDio f).free = s.free := rfl
@[simp] theorem State.updDio_pending (f : Dio → Dio) : (s.updDio f).pending = s.pending := rfl

/-! ## `State.updCan` -/

@[simp] theorem State.updCan_regs (n : Nat) (f : Can → Can) : (s.updCan n f).regs = s.regs := rfl
@[simp] theorem State.updCan_latch (n : Nat) (f : Can → Can) : (s.updCan n f).latch = s.latch := rfl
@[simp] theorem State.updCan_hold (n : Nat) (f : Can → Can) : (s.updCan n f).hold = s.hold := rfl
@[simp] theorem State.updCan_tarn (n : Nat) (f : Can → Can) : (s.updCan n f).tarn = s.tarn := rfl
@[simp] theorem State.updCan_inlet (n : Nat) (f : Can → Can) : (s.updCan n f).inlet = s.inlet := rfl
@[simp] theorem State.updCan_aeA (n : Nat) (f : Can → Can) : (s.updCan n f).aeA = s.aeA := rfl
@[simp] theorem State.updCan_aeB (n : Nat) (f : Can → Can) : (s.updCan n f).aeB = s.aeB := rfl
@[simp] theorem State.updCan_outlet (n : Nat) (f : Can → Can) : (s.updCan n f).outlet = s.outlet := rfl
@[simp] theorem State.updCan_hif (n : Nat) (f : Can → Can) : (s.updCan n f).hif = s.hif := rfl
@[simp] theorem State.updCan_skink (n : Nat) (f : Can → Can) : (s.updCan n f).skink = s.skink := rfl
@[simp] theorem State.updCan_spawn (n : Nat) (f : Can → Can) : (s.updCan n f).spawn = s.spawn := rfl
@[simp] theorem State.updCan_fe (n : Nat) (f : Can → Can) : (s.updCan n f).fe = s.fe := rfl
@[simp] theorem State.updCan_dio (n : Nat) (f : Can → Can) : (s.updCan n f).dio = s.dio := rfl
@[simp] theorem State.updCan_can (n : Nat) (f : Can → Can) : (s.updCan n f).can = Sparse.upd { } s.can n f := rfl
@[simp] theorem State.updCan_canWalk (n : Nat) (f : Can → Can) : (s.updCan n f).canWalk = s.canWalk := rfl
@[simp] theorem State.updCan_ws (n : Nat) (f : Can → Can) : (s.updCan n f).ws = s.ws := rfl
@[simp] theorem State.updCan_rtc (n : Nat) (f : Can → Can) : (s.updCan n f).rtc = s.rtc := rfl
@[simp] theorem State.updCan_panel (n : Nat) (f : Can → Can) : (s.updCan n f).panel = s.panel := rfl
@[simp] theorem State.updCan_nvm (n : Nat) (f : Can → Can) : (s.updCan n f).nvm = s.nvm := rfl
@[simp] theorem State.updCan_upd (n : Nat) (f : Can → Can) : (s.updCan n f).upd = s.upd := rfl
@[simp] theorem State.updCan_gecko (n : Nat) (f : Can → Can) : (s.updCan n f).gecko = s.gecko := rfl
@[simp] theorem State.updCan_behavBoot (n : Nat) (f : Can → Can) : (s.updCan n f).behavBoot = s.behavBoot := rfl
@[simp] theorem State.updCan_hostRead (n : Nat) (f : Can → Can) : (s.updCan n f).hostRead = s.hostRead := rfl
@[simp] theorem State.updCan_out (n : Nat) (f : Can → Can) : (s.updCan n f).out = s.out := rfl
@[simp] theorem State.updCan_free (n : Nat) (f : Can → Can) : (s.updCan n f).free = s.free := rfl
@[simp] theorem State.updCan_pending (n : Nat) (f : Can → Can) : (s.updCan n f).pending = s.pending := rfl

/-! ## `State.updLane` -/

@[simp] theorem State.updLane_regs (n : Nat) (f : Lane → Lane) : (s.updLane n f).regs = s.regs := rfl
@[simp] theorem State.updLane_latch (n : Nat) (f : Lane → Lane) : (s.updLane n f).latch = s.latch := rfl
@[simp] theorem State.updLane_hold (n : Nat) (f : Lane → Lane) : (s.updLane n f).hold = s.hold := rfl
@[simp] theorem State.updLane_tarn (n : Nat) (f : Lane → Lane) : (s.updLane n f).tarn = s.tarn := rfl
@[simp] theorem State.updLane_inlet (n : Nat) (f : Lane → Lane) : (s.updLane n f).inlet = s.inlet := rfl
@[simp] theorem State.updLane_aeA (n : Nat) (f : Lane → Lane) : (s.updLane n f).aeA = s.aeA := rfl
@[simp] theorem State.updLane_aeB (n : Nat) (f : Lane → Lane) : (s.updLane n f).aeB = s.aeB := rfl
@[simp] theorem State.updLane_outlet (n : Nat) (f : Lane → Lane) : (s.updLane n f).outlet = s.outlet := rfl
@[simp] theorem State.updLane_hif (n : Nat) (f : Lane → Lane) : (s.updLane n f).hif = s.hif := rfl
@[simp] theorem State.updLane_skink (n : Nat) (f : Lane → Lane) : (s.updLane n f).skink = s.skink := rfl
@[simp] theorem State.updLane_spawn (n : Nat) (f : Lane → Lane) : (s.updLane n f).spawn = s.spawn := rfl
@[simp] theorem State.updLane_fe (n : Nat) (f : Lane → Lane) : (s.updLane n f).fe = { s.fe with lanes := Sparse.upd { } s.fe.lanes n f } := rfl
@[simp] theorem State.updLane_dio (n : Nat) (f : Lane → Lane) : (s.updLane n f).dio = s.dio := rfl
@[simp] theorem State.updLane_can (n : Nat) (f : Lane → Lane) : (s.updLane n f).can = s.can := rfl
@[simp] theorem State.updLane_canWalk (n : Nat) (f : Lane → Lane) : (s.updLane n f).canWalk = s.canWalk := rfl
@[simp] theorem State.updLane_ws (n : Nat) (f : Lane → Lane) : (s.updLane n f).ws = s.ws := rfl
@[simp] theorem State.updLane_rtc (n : Nat) (f : Lane → Lane) : (s.updLane n f).rtc = s.rtc := rfl
@[simp] theorem State.updLane_panel (n : Nat) (f : Lane → Lane) : (s.updLane n f).panel = s.panel := rfl
@[simp] theorem State.updLane_nvm (n : Nat) (f : Lane → Lane) : (s.updLane n f).nvm = s.nvm := rfl
@[simp] theorem State.updLane_upd (n : Nat) (f : Lane → Lane) : (s.updLane n f).upd = s.upd := rfl
@[simp] theorem State.updLane_gecko (n : Nat) (f : Lane → Lane) : (s.updLane n f).gecko = s.gecko := rfl
@[simp] theorem State.updLane_behavBoot (n : Nat) (f : Lane → Lane) : (s.updLane n f).behavBoot = s.behavBoot := rfl
@[simp] theorem State.updLane_hostRead (n : Nat) (f : Lane → Lane) : (s.updLane n f).hostRead = s.hostRead := rfl
@[simp] theorem State.updLane_out (n : Nat) (f : Lane → Lane) : (s.updLane n f).out = s.out := rfl
@[simp] theorem State.updLane_free (n : Nat) (f : Lane → Lane) : (s.updLane n f).free = s.free := rfl
@[simp] theorem State.updLane_pending (n : Nat) (f : Lane → Lane) : (s.updLane n f).pending = s.pending := rfl

/-! ## `State.updDef` -/

@[simp] theorem State.updDef_regs (n : Nat) (f : DefState → DefState) : (s.updDef n f).regs = s.regs := rfl
@[simp] theorem State.updDef_latch (n : Nat) (f : DefState → DefState) : (s.updDef n f).latch = s.latch := rfl
@[simp] theorem State.updDef_hold (n : Nat) (f : DefState → DefState) : (s.updDef n f).hold = s.hold := rfl
@[simp] theorem State.updDef_tarn (n : Nat) (f : DefState → DefState) : (s.updDef n f).tarn = s.tarn := rfl
@[simp] theorem State.updDef_inlet (n : Nat) (f : DefState → DefState) : (s.updDef n f).inlet = s.inlet := rfl
@[simp] theorem State.updDef_aeA (n : Nat) (f : DefState → DefState) : (s.updDef n f).aeA = s.aeA := rfl
@[simp] theorem State.updDef_aeB (n : Nat) (f : DefState → DefState) : (s.updDef n f).aeB = s.aeB := rfl
@[simp] theorem State.updDef_outlet (n : Nat) (f : DefState → DefState) : (s.updDef n f).outlet = s.outlet := rfl
@[simp] theorem State.updDef_hif (n : Nat) (f : DefState → DefState) : (s.updDef n f).hif = s.hif := rfl
@[simp] theorem State.updDef_skink (n : Nat) (f : DefState → DefState) : (s.updDef n f).skink = s.skink := rfl
@[simp] theorem State.updDef_spawn (n : Nat) (f : DefState → DefState) : (s.updDef n f).spawn = s.spawn := rfl
@[simp] theorem State.updDef_fe (n : Nat) (f : DefState → DefState) : (s.updDef n f).fe = { s.fe with defs := Sparse.upd { } s.fe.defs n f } := rfl
@[simp] theorem State.updDef_dio (n : Nat) (f : DefState → DefState) : (s.updDef n f).dio = s.dio := rfl
@[simp] theorem State.updDef_can (n : Nat) (f : DefState → DefState) : (s.updDef n f).can = s.can := rfl
@[simp] theorem State.updDef_canWalk (n : Nat) (f : DefState → DefState) : (s.updDef n f).canWalk = s.canWalk := rfl
@[simp] theorem State.updDef_ws (n : Nat) (f : DefState → DefState) : (s.updDef n f).ws = s.ws := rfl
@[simp] theorem State.updDef_rtc (n : Nat) (f : DefState → DefState) : (s.updDef n f).rtc = s.rtc := rfl
@[simp] theorem State.updDef_panel (n : Nat) (f : DefState → DefState) : (s.updDef n f).panel = s.panel := rfl
@[simp] theorem State.updDef_nvm (n : Nat) (f : DefState → DefState) : (s.updDef n f).nvm = s.nvm := rfl
@[simp] theorem State.updDef_upd (n : Nat) (f : DefState → DefState) : (s.updDef n f).upd = s.upd := rfl
@[simp] theorem State.updDef_gecko (n : Nat) (f : DefState → DefState) : (s.updDef n f).gecko = s.gecko := rfl
@[simp] theorem State.updDef_behavBoot (n : Nat) (f : DefState → DefState) : (s.updDef n f).behavBoot = s.behavBoot := rfl
@[simp] theorem State.updDef_hostRead (n : Nat) (f : DefState → DefState) : (s.updDef n f).hostRead = s.hostRead := rfl
@[simp] theorem State.updDef_out (n : Nat) (f : DefState → DefState) : (s.updDef n f).out = s.out := rfl
@[simp] theorem State.updDef_free (n : Nat) (f : DefState → DefState) : (s.updDef n f).free = s.free := rfl
@[simp] theorem State.updDef_pending (n : Nat) (f : DefState → DefState) : (s.updDef n f).pending = s.pending := rfl

/-! ## `State.updWs` -/

@[simp] theorem State.updWs_regs (f : Wellspring → Wellspring) : (s.updWs f).regs = s.regs := rfl
@[simp] theorem State.updWs_latch (f : Wellspring → Wellspring) : (s.updWs f).latch = s.latch := rfl
@[simp] theorem State.updWs_hold (f : Wellspring → Wellspring) : (s.updWs f).hold = s.hold := rfl
@[simp] theorem State.updWs_tarn (f : Wellspring → Wellspring) : (s.updWs f).tarn = s.tarn := rfl
@[simp] theorem State.updWs_inlet (f : Wellspring → Wellspring) : (s.updWs f).inlet = s.inlet := rfl
@[simp] theorem State.updWs_aeA (f : Wellspring → Wellspring) : (s.updWs f).aeA = s.aeA := rfl
@[simp] theorem State.updWs_aeB (f : Wellspring → Wellspring) : (s.updWs f).aeB = s.aeB := rfl
@[simp] theorem State.updWs_outlet (f : Wellspring → Wellspring) : (s.updWs f).outlet = s.outlet := rfl
@[simp] theorem State.updWs_hif (f : Wellspring → Wellspring) : (s.updWs f).hif = s.hif := rfl
@[simp] theorem State.updWs_skink (f : Wellspring → Wellspring) : (s.updWs f).skink = s.skink := rfl
@[simp] theorem State.updWs_spawn (f : Wellspring → Wellspring) : (s.updWs f).spawn = s.spawn := rfl
@[simp] theorem State.updWs_fe (f : Wellspring → Wellspring) : (s.updWs f).fe = s.fe := rfl
@[simp] theorem State.updWs_dio (f : Wellspring → Wellspring) : (s.updWs f).dio = s.dio := rfl
@[simp] theorem State.updWs_can (f : Wellspring → Wellspring) : (s.updWs f).can = s.can := rfl
@[simp] theorem State.updWs_canWalk (f : Wellspring → Wellspring) : (s.updWs f).canWalk = s.canWalk := rfl
@[simp] theorem State.updWs_ws (f : Wellspring → Wellspring) : (s.updWs f).ws = f s.ws := rfl
@[simp] theorem State.updWs_rtc (f : Wellspring → Wellspring) : (s.updWs f).rtc = s.rtc := rfl
@[simp] theorem State.updWs_panel (f : Wellspring → Wellspring) : (s.updWs f).panel = s.panel := rfl
@[simp] theorem State.updWs_nvm (f : Wellspring → Wellspring) : (s.updWs f).nvm = s.nvm := rfl
@[simp] theorem State.updWs_upd (f : Wellspring → Wellspring) : (s.updWs f).upd = s.upd := rfl
@[simp] theorem State.updWs_gecko (f : Wellspring → Wellspring) : (s.updWs f).gecko = s.gecko := rfl
@[simp] theorem State.updWs_behavBoot (f : Wellspring → Wellspring) : (s.updWs f).behavBoot = s.behavBoot := rfl
@[simp] theorem State.updWs_hostRead (f : Wellspring → Wellspring) : (s.updWs f).hostRead = s.hostRead := rfl
@[simp] theorem State.updWs_out (f : Wellspring → Wellspring) : (s.updWs f).out = s.out := rfl
@[simp] theorem State.updWs_free (f : Wellspring → Wellspring) : (s.updWs f).free = s.free := rfl
@[simp] theorem State.updWs_pending (f : Wellspring → Wellspring) : (s.updWs f).pending = s.pending := rfl

/-! ## `State.updTmo` -/

@[simp] theorem State.updTmo_regs (k : Nat) (f : Tmo → Tmo) : (s.updTmo k f).regs = s.regs := rfl
@[simp] theorem State.updTmo_latch (k : Nat) (f : Tmo → Tmo) : (s.updTmo k f).latch = s.latch := rfl
@[simp] theorem State.updTmo_hold (k : Nat) (f : Tmo → Tmo) : (s.updTmo k f).hold = s.hold := rfl
@[simp] theorem State.updTmo_tarn (k : Nat) (f : Tmo → Tmo) : (s.updTmo k f).tarn = s.tarn := rfl
@[simp] theorem State.updTmo_inlet (k : Nat) (f : Tmo → Tmo) : (s.updTmo k f).inlet = s.inlet := rfl
@[simp] theorem State.updTmo_aeA (k : Nat) (f : Tmo → Tmo) : (s.updTmo k f).aeA = s.aeA := rfl
@[simp] theorem State.updTmo_aeB (k : Nat) (f : Tmo → Tmo) : (s.updTmo k f).aeB = s.aeB := rfl
@[simp] theorem State.updTmo_outlet (k : Nat) (f : Tmo → Tmo) : (s.updTmo k f).outlet = s.outlet := rfl
@[simp] theorem State.updTmo_hif (k : Nat) (f : Tmo → Tmo) : (s.updTmo k f).hif = s.hif := rfl
@[simp] theorem State.updTmo_skink (k : Nat) (f : Tmo → Tmo) : (s.updTmo k f).skink = s.skink := rfl
@[simp] theorem State.updTmo_spawn (k : Nat) (f : Tmo → Tmo) : (s.updTmo k f).spawn = s.spawn := rfl
@[simp] theorem State.updTmo_fe (k : Nat) (f : Tmo → Tmo) : (s.updTmo k f).fe = s.fe := rfl
@[simp] theorem State.updTmo_dio (k : Nat) (f : Tmo → Tmo) : (s.updTmo k f).dio = s.dio := rfl
@[simp] theorem State.updTmo_can (k : Nat) (f : Tmo → Tmo) : (s.updTmo k f).can = s.can := rfl
@[simp] theorem State.updTmo_canWalk (k : Nat) (f : Tmo → Tmo) : (s.updTmo k f).canWalk = s.canWalk := rfl
@[simp] theorem State.updTmo_ws (k : Nat) (f : Tmo → Tmo) : (s.updTmo k f).ws = { s.ws with tmos := Sparse.upd { } s.ws.tmos k f } := rfl
@[simp] theorem State.updTmo_rtc (k : Nat) (f : Tmo → Tmo) : (s.updTmo k f).rtc = s.rtc := rfl
@[simp] theorem State.updTmo_panel (k : Nat) (f : Tmo → Tmo) : (s.updTmo k f).panel = s.panel := rfl
@[simp] theorem State.updTmo_nvm (k : Nat) (f : Tmo → Tmo) : (s.updTmo k f).nvm = s.nvm := rfl
@[simp] theorem State.updTmo_upd (k : Nat) (f : Tmo → Tmo) : (s.updTmo k f).upd = s.upd := rfl
@[simp] theorem State.updTmo_gecko (k : Nat) (f : Tmo → Tmo) : (s.updTmo k f).gecko = s.gecko := rfl
@[simp] theorem State.updTmo_behavBoot (k : Nat) (f : Tmo → Tmo) : (s.updTmo k f).behavBoot = s.behavBoot := rfl
@[simp] theorem State.updTmo_hostRead (k : Nat) (f : Tmo → Tmo) : (s.updTmo k f).hostRead = s.hostRead := rfl
@[simp] theorem State.updTmo_out (k : Nat) (f : Tmo → Tmo) : (s.updTmo k f).out = s.out := rfl
@[simp] theorem State.updTmo_free (k : Nat) (f : Tmo → Tmo) : (s.updTmo k f).free = s.free := rfl
@[simp] theorem State.updTmo_pending (k : Nat) (f : Tmo → Tmo) : (s.updTmo k f).pending = s.pending := rfl

/-! ## `State.updRtc` -/

@[simp] theorem State.updRtc_regs (f : Rtc → Rtc) : (s.updRtc f).regs = s.regs := rfl
@[simp] theorem State.updRtc_latch (f : Rtc → Rtc) : (s.updRtc f).latch = s.latch := rfl
@[simp] theorem State.updRtc_hold (f : Rtc → Rtc) : (s.updRtc f).hold = s.hold := rfl
@[simp] theorem State.updRtc_tarn (f : Rtc → Rtc) : (s.updRtc f).tarn = s.tarn := rfl
@[simp] theorem State.updRtc_inlet (f : Rtc → Rtc) : (s.updRtc f).inlet = s.inlet := rfl
@[simp] theorem State.updRtc_aeA (f : Rtc → Rtc) : (s.updRtc f).aeA = s.aeA := rfl
@[simp] theorem State.updRtc_aeB (f : Rtc → Rtc) : (s.updRtc f).aeB = s.aeB := rfl
@[simp] theorem State.updRtc_outlet (f : Rtc → Rtc) : (s.updRtc f).outlet = s.outlet := rfl
@[simp] theorem State.updRtc_hif (f : Rtc → Rtc) : (s.updRtc f).hif = s.hif := rfl
@[simp] theorem State.updRtc_skink (f : Rtc → Rtc) : (s.updRtc f).skink = s.skink := rfl
@[simp] theorem State.updRtc_spawn (f : Rtc → Rtc) : (s.updRtc f).spawn = s.spawn := rfl
@[simp] theorem State.updRtc_fe (f : Rtc → Rtc) : (s.updRtc f).fe = s.fe := rfl
@[simp] theorem State.updRtc_dio (f : Rtc → Rtc) : (s.updRtc f).dio = s.dio := rfl
@[simp] theorem State.updRtc_can (f : Rtc → Rtc) : (s.updRtc f).can = s.can := rfl
@[simp] theorem State.updRtc_canWalk (f : Rtc → Rtc) : (s.updRtc f).canWalk = s.canWalk := rfl
@[simp] theorem State.updRtc_ws (f : Rtc → Rtc) : (s.updRtc f).ws = s.ws := rfl
@[simp] theorem State.updRtc_rtc (f : Rtc → Rtc) : (s.updRtc f).rtc = f s.rtc := rfl
@[simp] theorem State.updRtc_panel (f : Rtc → Rtc) : (s.updRtc f).panel = s.panel := rfl
@[simp] theorem State.updRtc_nvm (f : Rtc → Rtc) : (s.updRtc f).nvm = s.nvm := rfl
@[simp] theorem State.updRtc_upd (f : Rtc → Rtc) : (s.updRtc f).upd = s.upd := rfl
@[simp] theorem State.updRtc_gecko (f : Rtc → Rtc) : (s.updRtc f).gecko = s.gecko := rfl
@[simp] theorem State.updRtc_behavBoot (f : Rtc → Rtc) : (s.updRtc f).behavBoot = s.behavBoot := rfl
@[simp] theorem State.updRtc_hostRead (f : Rtc → Rtc) : (s.updRtc f).hostRead = s.hostRead := rfl
@[simp] theorem State.updRtc_out (f : Rtc → Rtc) : (s.updRtc f).out = s.out := rfl
@[simp] theorem State.updRtc_free (f : Rtc → Rtc) : (s.updRtc f).free = s.free := rfl
@[simp] theorem State.updRtc_pending (f : Rtc → Rtc) : (s.updRtc f).pending = s.pending := rfl

/-! ## `State.updPanel` -/

@[simp] theorem State.updPanel_regs (f : Panel → Panel) : (s.updPanel f).regs = s.regs := rfl
@[simp] theorem State.updPanel_latch (f : Panel → Panel) : (s.updPanel f).latch = s.latch := rfl
@[simp] theorem State.updPanel_hold (f : Panel → Panel) : (s.updPanel f).hold = s.hold := rfl
@[simp] theorem State.updPanel_tarn (f : Panel → Panel) : (s.updPanel f).tarn = s.tarn := rfl
@[simp] theorem State.updPanel_inlet (f : Panel → Panel) : (s.updPanel f).inlet = s.inlet := rfl
@[simp] theorem State.updPanel_aeA (f : Panel → Panel) : (s.updPanel f).aeA = s.aeA := rfl
@[simp] theorem State.updPanel_aeB (f : Panel → Panel) : (s.updPanel f).aeB = s.aeB := rfl
@[simp] theorem State.updPanel_outlet (f : Panel → Panel) : (s.updPanel f).outlet = s.outlet := rfl
@[simp] theorem State.updPanel_hif (f : Panel → Panel) : (s.updPanel f).hif = s.hif := rfl
@[simp] theorem State.updPanel_skink (f : Panel → Panel) : (s.updPanel f).skink = s.skink := rfl
@[simp] theorem State.updPanel_spawn (f : Panel → Panel) : (s.updPanel f).spawn = s.spawn := rfl
@[simp] theorem State.updPanel_fe (f : Panel → Panel) : (s.updPanel f).fe = s.fe := rfl
@[simp] theorem State.updPanel_dio (f : Panel → Panel) : (s.updPanel f).dio = s.dio := rfl
@[simp] theorem State.updPanel_can (f : Panel → Panel) : (s.updPanel f).can = s.can := rfl
@[simp] theorem State.updPanel_canWalk (f : Panel → Panel) : (s.updPanel f).canWalk = s.canWalk := rfl
@[simp] theorem State.updPanel_ws (f : Panel → Panel) : (s.updPanel f).ws = s.ws := rfl
@[simp] theorem State.updPanel_rtc (f : Panel → Panel) : (s.updPanel f).rtc = s.rtc := rfl
@[simp] theorem State.updPanel_panel (f : Panel → Panel) : (s.updPanel f).panel = f s.panel := rfl
@[simp] theorem State.updPanel_nvm (f : Panel → Panel) : (s.updPanel f).nvm = s.nvm := rfl
@[simp] theorem State.updPanel_upd (f : Panel → Panel) : (s.updPanel f).upd = s.upd := rfl
@[simp] theorem State.updPanel_gecko (f : Panel → Panel) : (s.updPanel f).gecko = s.gecko := rfl
@[simp] theorem State.updPanel_behavBoot (f : Panel → Panel) : (s.updPanel f).behavBoot = s.behavBoot := rfl
@[simp] theorem State.updPanel_hostRead (f : Panel → Panel) : (s.updPanel f).hostRead = s.hostRead := rfl
@[simp] theorem State.updPanel_out (f : Panel → Panel) : (s.updPanel f).out = s.out := rfl
@[simp] theorem State.updPanel_free (f : Panel → Panel) : (s.updPanel f).free = s.free := rfl
@[simp] theorem State.updPanel_pending (f : Panel → Panel) : (s.updPanel f).pending = s.pending := rfl

/-! ## `State.updNvm` -/

@[simp] theorem State.updNvm_regs (f : Nvm → Nvm) : (s.updNvm f).regs = s.regs := rfl
@[simp] theorem State.updNvm_latch (f : Nvm → Nvm) : (s.updNvm f).latch = s.latch := rfl
@[simp] theorem State.updNvm_hold (f : Nvm → Nvm) : (s.updNvm f).hold = s.hold := rfl
@[simp] theorem State.updNvm_tarn (f : Nvm → Nvm) : (s.updNvm f).tarn = s.tarn := rfl
@[simp] theorem State.updNvm_inlet (f : Nvm → Nvm) : (s.updNvm f).inlet = s.inlet := rfl
@[simp] theorem State.updNvm_aeA (f : Nvm → Nvm) : (s.updNvm f).aeA = s.aeA := rfl
@[simp] theorem State.updNvm_aeB (f : Nvm → Nvm) : (s.updNvm f).aeB = s.aeB := rfl
@[simp] theorem State.updNvm_outlet (f : Nvm → Nvm) : (s.updNvm f).outlet = s.outlet := rfl
@[simp] theorem State.updNvm_hif (f : Nvm → Nvm) : (s.updNvm f).hif = s.hif := rfl
@[simp] theorem State.updNvm_skink (f : Nvm → Nvm) : (s.updNvm f).skink = s.skink := rfl
@[simp] theorem State.updNvm_spawn (f : Nvm → Nvm) : (s.updNvm f).spawn = s.spawn := rfl
@[simp] theorem State.updNvm_fe (f : Nvm → Nvm) : (s.updNvm f).fe = s.fe := rfl
@[simp] theorem State.updNvm_dio (f : Nvm → Nvm) : (s.updNvm f).dio = s.dio := rfl
@[simp] theorem State.updNvm_can (f : Nvm → Nvm) : (s.updNvm f).can = s.can := rfl
@[simp] theorem State.updNvm_canWalk (f : Nvm → Nvm) : (s.updNvm f).canWalk = s.canWalk := rfl
@[simp] theorem State.updNvm_ws (f : Nvm → Nvm) : (s.updNvm f).ws = s.ws := rfl
@[simp] theorem State.updNvm_rtc (f : Nvm → Nvm) : (s.updNvm f).rtc = s.rtc := rfl
@[simp] theorem State.updNvm_panel (f : Nvm → Nvm) : (s.updNvm f).panel = s.panel := rfl
@[simp] theorem State.updNvm_nvm (f : Nvm → Nvm) : (s.updNvm f).nvm = f s.nvm := rfl
@[simp] theorem State.updNvm_upd (f : Nvm → Nvm) : (s.updNvm f).upd = s.upd := rfl
@[simp] theorem State.updNvm_gecko (f : Nvm → Nvm) : (s.updNvm f).gecko = s.gecko := rfl
@[simp] theorem State.updNvm_behavBoot (f : Nvm → Nvm) : (s.updNvm f).behavBoot = s.behavBoot := rfl
@[simp] theorem State.updNvm_hostRead (f : Nvm → Nvm) : (s.updNvm f).hostRead = s.hostRead := rfl
@[simp] theorem State.updNvm_out (f : Nvm → Nvm) : (s.updNvm f).out = s.out := rfl
@[simp] theorem State.updNvm_free (f : Nvm → Nvm) : (s.updNvm f).free = s.free := rfl
@[simp] theorem State.updNvm_pending (f : Nvm → Nvm) : (s.updNvm f).pending = s.pending := rfl

/-! ## `State.updUpd` -/

@[simp] theorem State.updUpd_regs (f : Upd → Upd) : (s.updUpd f).regs = s.regs := rfl
@[simp] theorem State.updUpd_latch (f : Upd → Upd) : (s.updUpd f).latch = s.latch := rfl
@[simp] theorem State.updUpd_hold (f : Upd → Upd) : (s.updUpd f).hold = s.hold := rfl
@[simp] theorem State.updUpd_tarn (f : Upd → Upd) : (s.updUpd f).tarn = s.tarn := rfl
@[simp] theorem State.updUpd_inlet (f : Upd → Upd) : (s.updUpd f).inlet = s.inlet := rfl
@[simp] theorem State.updUpd_aeA (f : Upd → Upd) : (s.updUpd f).aeA = s.aeA := rfl
@[simp] theorem State.updUpd_aeB (f : Upd → Upd) : (s.updUpd f).aeB = s.aeB := rfl
@[simp] theorem State.updUpd_outlet (f : Upd → Upd) : (s.updUpd f).outlet = s.outlet := rfl
@[simp] theorem State.updUpd_hif (f : Upd → Upd) : (s.updUpd f).hif = s.hif := rfl
@[simp] theorem State.updUpd_skink (f : Upd → Upd) : (s.updUpd f).skink = s.skink := rfl
@[simp] theorem State.updUpd_spawn (f : Upd → Upd) : (s.updUpd f).spawn = s.spawn := rfl
@[simp] theorem State.updUpd_fe (f : Upd → Upd) : (s.updUpd f).fe = s.fe := rfl
@[simp] theorem State.updUpd_dio (f : Upd → Upd) : (s.updUpd f).dio = s.dio := rfl
@[simp] theorem State.updUpd_can (f : Upd → Upd) : (s.updUpd f).can = s.can := rfl
@[simp] theorem State.updUpd_canWalk (f : Upd → Upd) : (s.updUpd f).canWalk = s.canWalk := rfl
@[simp] theorem State.updUpd_ws (f : Upd → Upd) : (s.updUpd f).ws = s.ws := rfl
@[simp] theorem State.updUpd_rtc (f : Upd → Upd) : (s.updUpd f).rtc = s.rtc := rfl
@[simp] theorem State.updUpd_panel (f : Upd → Upd) : (s.updUpd f).panel = s.panel := rfl
@[simp] theorem State.updUpd_nvm (f : Upd → Upd) : (s.updUpd f).nvm = s.nvm := rfl
@[simp] theorem State.updUpd_upd (f : Upd → Upd) : (s.updUpd f).upd = f s.upd := rfl
@[simp] theorem State.updUpd_gecko (f : Upd → Upd) : (s.updUpd f).gecko = s.gecko := rfl
@[simp] theorem State.updUpd_behavBoot (f : Upd → Upd) : (s.updUpd f).behavBoot = s.behavBoot := rfl
@[simp] theorem State.updUpd_hostRead (f : Upd → Upd) : (s.updUpd f).hostRead = s.hostRead := rfl
@[simp] theorem State.updUpd_out (f : Upd → Upd) : (s.updUpd f).out = s.out := rfl
@[simp] theorem State.updUpd_free (f : Upd → Upd) : (s.updUpd f).free = s.free := rfl
@[simp] theorem State.updUpd_pending (f : Upd → Upd) : (s.updUpd f).pending = s.pending := rfl

/-! ## `State.updGecko` -/

@[simp] theorem State.updGecko_regs (f : Gecko → Gecko) : (s.updGecko f).regs = s.regs := rfl
@[simp] theorem State.updGecko_latch (f : Gecko → Gecko) : (s.updGecko f).latch = s.latch := rfl
@[simp] theorem State.updGecko_hold (f : Gecko → Gecko) : (s.updGecko f).hold = s.hold := rfl
@[simp] theorem State.updGecko_tarn (f : Gecko → Gecko) : (s.updGecko f).tarn = s.tarn := rfl
@[simp] theorem State.updGecko_inlet (f : Gecko → Gecko) : (s.updGecko f).inlet = s.inlet := rfl
@[simp] theorem State.updGecko_aeA (f : Gecko → Gecko) : (s.updGecko f).aeA = s.aeA := rfl
@[simp] theorem State.updGecko_aeB (f : Gecko → Gecko) : (s.updGecko f).aeB = s.aeB := rfl
@[simp] theorem State.updGecko_outlet (f : Gecko → Gecko) : (s.updGecko f).outlet = s.outlet := rfl
@[simp] theorem State.updGecko_hif (f : Gecko → Gecko) : (s.updGecko f).hif = s.hif := rfl
@[simp] theorem State.updGecko_skink (f : Gecko → Gecko) : (s.updGecko f).skink = s.skink := rfl
@[simp] theorem State.updGecko_spawn (f : Gecko → Gecko) : (s.updGecko f).spawn = s.spawn := rfl
@[simp] theorem State.updGecko_fe (f : Gecko → Gecko) : (s.updGecko f).fe = s.fe := rfl
@[simp] theorem State.updGecko_dio (f : Gecko → Gecko) : (s.updGecko f).dio = s.dio := rfl
@[simp] theorem State.updGecko_can (f : Gecko → Gecko) : (s.updGecko f).can = s.can := rfl
@[simp] theorem State.updGecko_canWalk (f : Gecko → Gecko) : (s.updGecko f).canWalk = s.canWalk := rfl
@[simp] theorem State.updGecko_ws (f : Gecko → Gecko) : (s.updGecko f).ws = s.ws := rfl
@[simp] theorem State.updGecko_rtc (f : Gecko → Gecko) : (s.updGecko f).rtc = s.rtc := rfl
@[simp] theorem State.updGecko_panel (f : Gecko → Gecko) : (s.updGecko f).panel = s.panel := rfl
@[simp] theorem State.updGecko_nvm (f : Gecko → Gecko) : (s.updGecko f).nvm = s.nvm := rfl
@[simp] theorem State.updGecko_upd (f : Gecko → Gecko) : (s.updGecko f).upd = s.upd := rfl
@[simp] theorem State.updGecko_gecko (f : Gecko → Gecko) : (s.updGecko f).gecko = f s.gecko := rfl
@[simp] theorem State.updGecko_behavBoot (f : Gecko → Gecko) : (s.updGecko f).behavBoot = s.behavBoot := rfl
@[simp] theorem State.updGecko_hostRead (f : Gecko → Gecko) : (s.updGecko f).hostRead = s.hostRead := rfl
@[simp] theorem State.updGecko_out (f : Gecko → Gecko) : (s.updGecko f).out = s.out := rfl
@[simp] theorem State.updGecko_free (f : Gecko → Gecko) : (s.updGecko f).free = s.free := rfl
@[simp] theorem State.updGecko_pending (f : Gecko → Gecko) : (s.updGecko f).pending = s.pending := rfl

/-! ## A ring's operations leave the update engine alone -/

theorem fetchMore_upd (s : State) (n : Nat) : (s.fetchMore n).upd = s.upd := by
  unfold State.fetchMore; dsimp only; split <;> rfl

theorem report_upd (s : State) (n : Nat) (now : Bool) : (s.report n now).upd = s.upd := by
  unfold State.report State.sendVector; dsimp only; repeat' split
  all_goals rfl

theorem advanceRing_upd (s : State) (n : Nat) (now : Bool) : (s.advanceRing n now).upd = s.upd := by
  unfold State.advanceRing; dsimp only; rw [report_upd]; split <;> rfl

theorem consume_upd (s : State) (n : Nat) : (s.consume n).upd = s.upd := by
  unfold State.consume; rw [advanceRing_upd]

theorem takeHead_upd (s : State) (n : Nat) : (s.takeHead n).upd = s.upd := by
  unfold State.takeHead; rw [fetchMore_upd, consume_upd]

end Sys2Proof.Machine
end

