-- ==== Sys2Proof/Laws/Frame.lean ====
section
/-! SUPPORT. What every operation of the machine leaves alone: one lemma per operation over the parts that it may change, stated so that they chain. -/

set_option Elab.async false
set_option linter.unusedTactic false
set_option linter.unreachableTactic false

namespace Sys2Proof.Machine

/-- `P` names the part. -/
class Named (P : Zone → Bool) (z : Zone) : Prop where
  out : P z = true

/-- `t` differs from `r` only in parts that `P` names and in what the step put outside. -/
structure Foot (P : Zone → Bool) (r t : State) : Prop where
  same : ∀ p, P p = false → p.same r t

variable {P : Zone → Bool} {r : State}

theorem Foot.refl (r : State) : Foot P r r := ⟨fun p _ => by cases p <;> rfl⟩

theorem foldl_foot {α : Type} (g : State → α → State) (hg : ∀ s x, Foot P r s → Foot P r (g s x)) (l : List α) (s : State)
    (h : Foot P r s) : Foot P r (l.foldl g s) := by
  induction l generalizing s with
  | nil => exact h
  | cons x l ih => exact ih _ (hg s x h)

theorem ite_foot (c : Prop) [Decidable c] (a b : State) (ha : c → Foot P r a) (hb : ¬c → Foot P r b) :
    Foot P r (if c then a else b) := by
  split
  · exact ha ‹_›
  · exact hb ‹_›

theorem ifSome_foot {c : Prop} [Decidable c] {f g : State → State} {x : Option (State → State)} {s : State}
    (e : (if c then some g else x) = some f) (hg : Foot P r (g s)) (hx : x = some f → Foot P r (f s)) : Foot P r (f s) := by
  split at e
  · simp only [Option.some.injEq] at e; exact e ▸ hg
  · exact hx e

theorem Foot.named {z : Zone} {a : Prop} [Named P z] : P z = true ∨ a := .inl Named.out

/-- A record update: each part is one of `P` or the part of the state updated. -/
theorem Foot.upd {s : State} {x_regs : _} {x_latch : _} {x_hold : _} {x_tarn : _} {x_inlet : _} {x_aeA : _} {x_aeB : _} {x_outlet : _} {x_hif : _} {x_skink : _} {x_spawn : _} {x_fe : _} {x_dio : _} {x_can : _} {x_canWalk : _} {x_ws : _} {x_rtc : _} {x_panel : _} {x_nvm : _} {x_upd : _} {x_gecko : _} {x_behavBoot : _} {x_hostRead : _} {x_free : _} {x_pending : _} {out : List Output} (h : Foot P r s) (pending : x_pending = s.pending)
    (regs : P .regs = true ∨ x_regs = s.regs)
    (latch : P .latch = true ∨ x_latch = s.latch)
    (hold : P .hold = true ∨ x_hold = s.hold)
    (tarn : P .tarn = true ∨ x_tarn = s.tarn)
    (inlet : P .inlet = true ∨ x_inlet = s.inlet)
    (aeA : P .aeA = true ∨ x_aeA = s.aeA)
    (aeB : P .aeB = true ∨ x_aeB = s.aeB)
    (outlet : P .outlet = true ∨ x_outlet = s.outlet)
    (hif : P .hif = true ∨ x_hif = s.hif)
    (skink : P .skink = true ∨ x_skink = s.skink)
    (spawn : P .spawn = true ∨ x_spawn = s.spawn)
    (fe : P .fe = true ∨ x_fe = s.fe)
    (dio : P .dio = true ∨ x_dio = s.dio)
    (can : P .can = true ∨ x_can = s.can)
    (canWalk : P .canWalk = true ∨ x_canWalk = s.canWalk)
    (ws : P .ws = true ∨ x_ws = s.ws)
    (rtc : P .rtc = true ∨ x_rtc = s.rtc)
    (panel : P .panel = true ∨ x_panel = s.panel)
    (nvm : P .nvm = true ∨ x_nvm = s.nvm)
    (upd : P .upd = true ∨ x_upd = s.upd)
    (gecko : P .gecko = true ∨ x_gecko = s.gecko)
    (behavBoot : P .behavBoot = true ∨ x_behavBoot = s.behavBoot)
    (hostRead : P .hostRead = true ∨ x_hostRead = s.hostRead)
    (free : P .free = true ∨ x_free = s.free)
    : Foot P r (State.mk x_regs x_latch x_hold x_tarn x_inlet x_aeA x_aeB x_outlet x_hif x_skink x_spawn x_fe x_dio x_can x_canWalk x_ws x_rtc x_panel x_nvm x_upd x_gecko x_behavBoot x_hostRead out x_free x_pending) := by
  refine ⟨fun p hp => ?_⟩
  cases p
  case regs => exact (regs.resolve_left (by simp [hp])).trans (h.same .regs hp)
  case latch => exact (latch.resolve_left (by simp [hp])).trans (h.same .latch hp)
  case hold => exact (hold.resolve_left (by simp [hp])).trans (h.same .hold hp)
  case tarn => exact (tarn.resolve_left (by simp [hp])).trans (h.same .tarn hp)
  case inlet => exact (inlet.resolve_left (by simp [hp])).trans (h.same .inlet hp)
  case aeA => exact (aeA.resolve_left (by simp [hp])).trans (h.same .aeA hp)
  case aeB => exact (aeB.resolve_left (by simp [hp])).trans (h.same .aeB hp)
  case outlet => exact (outlet.resolve_left (by simp [hp])).trans (h.same .outlet hp)
  case hif => exact (hif.resolve_left (by simp [hp])).trans (h.same .hif hp)
  case skink => exact (skink.resolve_left (by simp [hp])).trans (h.same .skink hp)
  case spawn => exact (spawn.resolve_left (by simp [hp])).trans (h.same .spawn hp)
  case fe => exact (fe.resolve_left (by simp [hp])).trans (h.same .fe hp)
  case dio => exact (dio.resolve_left (by simp [hp])).trans (h.same .dio hp)
  case can => exact (can.resolve_left (by simp [hp])).trans (h.same .can hp)
  case canWalk => exact (canWalk.resolve_left (by simp [hp])).trans (h.same .canWalk hp)
  case ws => exact (ws.resolve_left (by simp [hp])).trans (h.same .ws hp)
  case rtc => exact (rtc.resolve_left (by simp [hp])).trans (h.same .rtc hp)
  case panel => exact (panel.resolve_left (by simp [hp])).trans (h.same .panel hp)
  case nvm => exact (nvm.resolve_left (by simp [hp])).trans (h.same .nvm hp)
  case upd => exact (upd.resolve_left (by simp [hp])).trans (h.same .upd hp)
  case gecko => exact (gecko.resolve_left (by simp [hp])).trans (h.same .gecko hp)
  case behavBoot => exact (behavBoot.resolve_left (by simp [hp])).trans (h.same .behavBoot hp)
  case hostRead => exact (hostRead.resolve_left (by simp [hp])).trans (h.same .hostRead hp)
  case free => exact (free.resolve_left (by simp [hp])).trans (h.same .free hp)
  case pending => exact pending.trans (h.same .pending hp)

theorem setReg_foot (s : State) (o : Off) (v : U32) (h : Foot P r s) [Named P .regs] : Foot P r (State.setReg s o v) := by
  unfold State.setReg
  try extract_lets
  repeat' first
    | with_reducible assumption | with_reducible apply foldl_foot | with_reducible apply ite_foot | intro _ | split | contradiction | dsimp only
    | refine Foot.upd ?_ rfl Foot.named (.inr rfl) (.inr rfl) (.inr rfl) (.inr rfl) (.inr rfl) (.inr rfl) (.inr rfl) (.inr rfl) (.inr rfl) (.inr rfl) (.inr rfl) (.inr rfl) (.inr rfl) (.inr rfl) (.inr rfl) (.inr rfl) (.inr rfl) (.inr rfl) (.inr rfl) (.inr rfl) (.inr rfl) (.inr rfl) (.inr rfl)

theorem setRegFld_foot (s : State) (o : Off) (lo : Nat) (n : Nat) (x : Nat) (h : Foot P r s) [Named P .regs] : Foot P r (State.setRegFld s o lo n x) := by
  unfold State.setRegFld
  try extract_lets
  repeat' first
    | with_reducible assumption | with_reducible apply setReg_foot | with_reducible apply foldl_foot | with_reducible apply ite_foot | intro _ | split
    | contradiction | dsimp only

theorem setRegBit_foot (s : State) (o : Off) (i : Nat) (b : Bool) (h : Foot P r s) [Named P .regs] : Foot P r (State.setRegBit s o i b) := by
  unfold State.setRegBit
  try extract_lets
  repeat' first
    | with_reducible assumption | with_reducible apply setRegFld_foot | with_reducible apply foldl_foot | with_reducible apply ite_foot | intro _
    | split | contradiction | dsimp only

theorem setPair_foot (s : State) (lo : Off) (hi : Off) (v : U64) (h : Foot P r s) [Named P .regs] : Foot P r (State.setPair s lo hi v) := by
  unfold State.setPair
  try extract_lets
  repeat' first
    | with_reducible assumption | with_reducible apply setReg_foot | with_reducible apply foldl_foot | with_reducible apply ite_foot | intro _ | split
    | contradiction | dsimp only

theorem fresh_foot (s : State) (h : Foot P r s) : Foot P r (State.fresh s) := by
  unfold State.fresh
  try extract_lets
  repeat' first
    | with_reducible assumption | with_reducible apply foldl_foot | with_reducible apply ite_foot | intro _ | split | contradiction | dsimp only
    | refine Foot.upd ?_ rfl (.inr rfl) (.inr rfl) (.inr rfl) (.inr rfl) (.inr rfl) (.inr rfl) (.inr rfl) (.inr rfl) (.inr rfl) (.inr rfl) (.inr rfl) (.inr rfl) (.inr rfl) (.inr rfl) (.inr rfl) (.inr rfl) (.inr rfl) (.inr rfl) (.inr rfl) (.inr rfl) (.inr rfl) (.inr rfl) (.inr rfl) (.inr rfl)

theorem emitOut_foot (s : State) (o : Output) (h : Foot P r s) : Foot P r (State.emitOut s o) := by
  unfold State.emitOut
  try extract_lets
  repeat' first
    | with_reducible assumption | with_reducible apply foldl_foot | with_reducible apply ite_foot | intro _ | split | contradiction | dsimp only
    | refine Foot.upd ?_ rfl (.inr rfl) (.inr rfl) (.inr rfl) (.inr rfl) (.inr rfl) (.inr rfl) (.inr rfl) (.inr rfl) (.inr rfl) (.inr rfl) (.inr rfl) (.inr rfl) (.inr rfl) (.inr rfl) (.inr rfl) (.inr rfl) (.inr rfl) (.inr rfl) (.inr rfl) (.inr rfl) (.inr rfl) (.inr rfl) (.inr rfl) (.inr rfl)

theorem draw_foot (s : State) (h : Foot P r s) [Named P .free] : Foot P r (State.draw s).2 := by
  unfold State.draw
  try extract_lets
  repeat' first
    | with_reducible assumption | with_reducible apply foldl_foot | with_reducible apply ite_foot | intro _ | split | contradiction | dsimp only
    | refine Foot.upd ?_ rfl (.inr rfl) (.inr rfl) (.inr rfl) (.inr rfl) (.inr rfl) (.inr rfl) (.inr rfl) (.inr rfl) (.inr rfl) (.inr rfl) (.inr rfl) (.inr rfl) (.inr rfl) (.inr rfl) (.inr rfl) (.inr rfl) (.inr rfl) (.inr rfl) (.inr rfl) (.inr rfl) (.inr rfl) (.inr rfl) (.inr rfl) Foot.named

theorem sendVector_foot (s : State) (v : Nat) (h : Foot P r s) [Named P .regs] : Foot P r (State.sendVector s v) := by
  unfold State.sendVector
  try extract_lets
  repeat' first
    | with_reducible assumption | with_reducible apply setRegBit_foot | with_reducible apply emitOut_foot | with_reducible apply foldl_foot
    | with_reducible apply ite_foot | intro _ | split | contradiction | dsimp only

theorem hifMessage_foot (s : State) (h : Foot P r s) [Named P .regs] : Foot P r (State.hifMessage s) := by
  unfold State.hifMessage
  try extract_lets
  repeat' first
    | with_reducible assumption | with_reducible apply sendVector_foot | with_reducible apply foldl_foot | with_reducible apply ite_foot | intro _
    | split | contradiction | dsimp only

theorem summarise_foot (before : State) (after : State) (h : Foot P r after) [Named P .regs] : Foot P r (State.summarise before after) := by
  unfold State.summarise
  try extract_lets
  repeat' first
    | with_reducible assumption | with_reducible apply hifMessage_foot | with_reducible apply foldl_foot | with_reducible apply ite_foot | intro _
    | split | contradiction | dsimp only

theorem raise_foot (s : State) (o : Off) (m : Nat) (h : Foot P r s) [Named P .regs] : Foot P r (State.raise s o m) := by
  unfold State.raise
  try extract_lets
  repeat' first
    | with_reducible assumption | with_reducible apply setReg_foot | with_reducible apply hifMessage_foot | with_reducible apply summarise_foot
    | with_reducible apply foldl_foot | with_reducible apply ite_foot | intro _ | split | contradiction | dsimp only

theorem bumpBy_foot (s : State) (o : Off) (n : Nat) (h : Foot P r s) [Named P .regs] : Foot P r (State.bumpBy s o n) := by
  unfold State.bumpBy
  try extract_lets
  repeat' first
    | with_reducible assumption | with_reducible apply setReg_foot | with_reducible apply foldl_foot | with_reducible apply ite_foot | intro _ | split
    | contradiction | dsimp only

theorem bump_foot (s : State) (o : Off) (h : Foot P r s) [Named P .regs] : Foot P r (State.bump s o) := by
  unfold State.bump
  try extract_lets
  repeat' first
    | with_reducible assumption | with_reducible apply bumpBy_foot | with_reducible apply foldl_foot | with_reducible apply ite_foot | intro _ | split
    | contradiction | dsimp only

theorem recordMax_foot (s : State) (o : Off) (n : Nat) (h : Foot P r s) [Named P .regs] : Foot P r (State.recordMax s o n) := by
  unfold State.recordMax
  try extract_lets
  repeat' first
    | with_reducible assumption | with_reducible apply setReg_foot | with_reducible apply foldl_foot | with_reducible apply ite_foot | intro _ | split
    | contradiction | dsimp only

theorem ignored_foot (s : State) (o : Off) (reason : Nat) (tarn : Bool) (h : Foot P r s) [Named P .regs] : Foot P r (State.ignored s o reason tarn) := by
  unfold State.ignored
  try extract_lets
  repeat' first
    | with_reducible assumption | with_reducible apply bump_foot | with_reducible apply setReg_foot | with_reducible apply raise_foot
    | with_reducible apply foldl_foot | with_reducible apply ite_foot | intro _ | split | contradiction | dsimp only

theorem setMgmt_foot (s : State) (st : Nat) (h : Foot P r s) [Named P .regs] : Foot P r (State.setMgmt s st) := by
  unfold State.setMgmt
  try extract_lets
  repeat' first
    | with_reducible assumption | with_reducible apply raise_foot | with_reducible apply setRegFld_foot | with_reducible apply foldl_foot
    | with_reducible apply ite_foot | intro _ | split | contradiction | dsimp only

theorem endContinuous_foot (s : State) (h : Foot P r s) [Named P .regs] [Named P .spawn] : Foot P r (State.endContinuous s) := by
  unfold State.endContinuous
  try extract_lets
  repeat' first
    | with_reducible assumption | with_reducible apply setRegFld_foot | with_reducible apply foldl_foot | with_reducible apply ite_foot | intro _
    | split | contradiction | dsimp only
    | refine Foot.upd ?_ rfl (.inr rfl) (.inr rfl) (.inr rfl) (.inr rfl) (.inr rfl) (.inr rfl) (.inr rfl) (.inr rfl) (.inr rfl) (.inr rfl) Foot.named (.inr rfl) (.inr rfl) (.inr rfl) (.inr rfl) (.inr rfl) (.inr rfl) (.inr rfl) (.inr rfl) (.inr rfl) (.inr rfl) (.inr rfl) (.inr rfl) (.inr rfl)

theorem updLane_foot (s : State) (n : Nat) (f : Lane → Lane) (h : Foot P r s) [Named P .fe] : Foot P r (State.updLane s n f) := by
  unfold State.updLane
  try extract_lets
  repeat' first
    | with_reducible assumption | with_reducible apply foldl_foot | with_reducible apply ite_foot | intro _ | split | contradiction | dsimp only
    | refine Foot.upd ?_ rfl (.inr rfl) (.inr rfl) (.inr rfl) (.inr rfl) (.inr rfl) (.inr rfl) (.inr rfl) (.inr rfl) (.inr rfl) (.inr rfl) (.inr rfl) Foot.named (.inr rfl) (.inr rfl) (.inr rfl) (.inr rfl) (.inr rfl) (.inr rfl) (.inr rfl) (.inr rfl) (.inr rfl) (.inr rfl) (.inr rfl) (.inr rfl)

theorem restSource_foot (s : State) (k : Nat) (h : Foot P r s) [Named P .regs] : Foot P r (State.restSource s k) := by
  unfold State.restSource
  try extract_lets
  repeat' first
    | with_reducible assumption | with_reducible apply setReg_foot | with_reducible apply foldl_foot | with_reducible apply ite_foot | intro _ | split
    | contradiction | dsimp only

theorem restSources_foot (s : State) (h : Foot P r s) [Named P .regs] : Foot P r (State.restSources s) := by
  unfold State.restSources
  try extract_lets
  repeat' first
    | with_reducible assumption | with_reducible apply restSource_foot | with_reducible apply foldl_foot | with_reducible apply ite_foot | intro _
    | split | contradiction | dsimp only

theorem lanesEnd_foot (s : State) (f : Lane → Lane) (h : Foot P r s) [Named P .regs] [Named P .fe] : Foot P r (State.lanesEnd s f) := by
  unfold State.lanesEnd
  try extract_lets
  repeat' first
    | with_reducible assumption | with_reducible apply restSources_foot | with_reducible apply updLane_foot | with_reducible apply foldl_foot
    | with_reducible apply ite_foot | intro _ | split | contradiction | dsimp only

theorem requestsEnd_foot (s : State) (h : Foot P r s) [Named P .regs] [Named P .dio] : Foot P r (State.requestsEnd s) := by
  unfold State.requestsEnd
  try extract_lets
  repeat' first
    | with_reducible assumption | with_reducible apply setPair_foot | with_reducible apply foldl_foot | with_reducible apply ite_foot | intro _
    | split | contradiction | dsimp only
    | refine Foot.upd ?_ rfl (.inr rfl) (.inr rfl) (.inr rfl) (.inr rfl) (.inr rfl) (.inr rfl) (.inr rfl) (.inr rfl) (.inr rfl) (.inr rfl) (.inr rfl) (.inr rfl) Foot.named (.inr rfl) (.inr rfl) (.inr rfl) (.inr rfl) (.inr rfl) (.inr rfl) (.inr rfl) (.inr rfl) (.inr rfl) (.inr rfl) (.inr rfl)

theorem tarnWrite_foot (s : State) (o : Nat) (bs : List Byte) (h : Foot P r s) [Named P .tarn] : Foot P r (State.tarnWrite s o bs) := by
  unfold State.tarnWrite
  try extract_lets
  repeat' first
    | with_reducible assumption | with_reducible apply foldl_foot | with_reducible apply ite_foot | intro _ | split | contradiction | dsimp only
    | refine Foot.upd ?_ rfl (.inr rfl) (.inr rfl) (.inr rfl) Foot.named (.inr rfl) (.inr rfl) (.inr rfl) (.inr rfl) (.inr rfl) (.inr rfl) (.inr rfl) (.inr rfl) (.inr rfl) (.inr rfl) (.inr rfl) (.inr rfl) (.inr rfl) (.inr rfl) (.inr rfl) (.inr rfl) (.inr rfl) (.inr rfl) (.inr rfl) (.inr rfl)

theorem rewritten_foot (s : State) (hit : Nat → Nat → Bool) (h : Foot P r s) [Named P .gecko] : Foot P r (State.rewritten s hit) := by
  unfold State.rewritten
  try extract_lets
  repeat' first
    | with_reducible assumption | with_reducible apply foldl_foot | with_reducible apply ite_foot | intro _ | split | contradiction | dsimp only
    | refine Foot.upd ?_ rfl (.inr rfl) (.inr rfl) (.inr rfl) (.inr rfl) (.inr rfl) (.inr rfl) (.inr rfl) (.inr rfl) (.inr rfl) (.inr rfl) (.inr rfl) (.inr rfl) (.inr rfl) (.inr rfl) (.inr rfl) (.inr rfl) (.inr rfl) (.inr rfl) (.inr rfl) (.inr rfl) Foot.named (.inr rfl) (.inr rfl) (.inr rfl)

theorem lineWritten_foot (s : State) (o : Nat) (n : Nat) (h : Foot P r s) [Named P .gecko] : Foot P r (State.lineWritten s o n) := by
  unfold State.lineWritten
  try extract_lets
  repeat' first
    | with_reducible assumption | with_reducible apply rewritten_foot | with_reducible apply foldl_foot | with_reducible apply ite_foot | intro _
    | split | contradiction | dsimp only

theorem clearUe_foot (s : State) (o : Nat) (n : Nat) (h : Foot P r s) [Named P .gecko] : Foot P r (State.clearUe s o n) := by
  unfold State.clearUe
  try extract_lets
  repeat' first
    | with_reducible assumption | with_reducible apply lineWritten_foot | with_reducible apply foldl_foot | with_reducible apply ite_foot | intro _
    | split | contradiction | dsimp only
    | refine Foot.upd ?_ rfl (.inr rfl) (.inr rfl) (.inr rfl) (.inr rfl) (.inr rfl) (.inr rfl) (.inr rfl) (.inr rfl) (.inr rfl) (.inr rfl) (.inr rfl) (.inr rfl) (.inr rfl) (.inr rfl) (.inr rfl) (.inr rfl) (.inr rfl) (.inr rfl) (.inr rfl) (.inr rfl) Foot.named (.inr rfl) (.inr rfl) (.inr rfl)

theorem statesWritten_foot (s : State) (h : Foot P r s) [Named P .gecko] : Foot P r (State.statesWritten s) := by
  unfold State.statesWritten
  try extract_lets
  repeat' first
    | with_reducible assumption | with_reducible apply rewritten_foot | with_reducible apply foldl_foot | with_reducible apply ite_foot | intro _
    | split | contradiction | dsimp only

theorem tarnStore_foot (s : State) (o : Nat) (bs : List Byte) (h : Foot P r s) [Named P .tarn] [Named P .gecko] : Foot P r (State.tarnStore s o bs) := by
  unfold State.tarnStore
  try extract_lets
  repeat' first
    | with_reducible assumption | with_reducible apply clearUe_foot | with_reducible apply tarnWrite_foot | with_reducible apply foldl_foot
    | with_reducible apply ite_foot | intro _ | split | contradiction | dsimp only

theorem setEng_foot (s : State) (e : EngineId) (x : Engine) (h : Foot P r s) [Named P .aeA] [Named P .aeB] : Foot P r (State.setEng s e x) := by
  unfold State.setEng
  try extract_lets
  repeat' first
    | with_reducible assumption | with_reducible apply foldl_foot | with_reducible apply ite_foot | intro _ | split | contradiction | dsimp only
    | refine Foot.upd ?_ rfl (.inr rfl) (.inr rfl) (.inr rfl) (.inr rfl) (.inr rfl) Foot.named (.inr rfl) (.inr rfl) (.inr rfl) (.inr rfl) (.inr rfl) (.inr rfl) (.inr rfl) (.inr rfl) (.inr rfl) (.inr rfl) (.inr rfl) (.inr rfl) (.inr rfl) (.inr rfl) (.inr rfl) (.inr rfl) (.inr rfl) (.inr rfl)
    | refine Foot.upd ?_ rfl (.inr rfl) (.inr rfl) (.inr rfl) (.inr rfl) (.inr rfl) (.inr rfl) Foot.named (.inr rfl) (.inr rfl) (.inr rfl) (.inr rfl) (.inr rfl) (.inr rfl) (.inr rfl) (.inr rfl) (.inr rfl) (.inr rfl) (.inr rfl) (.inr rfl) (.inr rfl) (.inr rfl) (.inr rfl) (.inr rfl) (.inr rfl)

theorem updEng_foot (s : State) (e : EngineId) (f : Engine → Engine) (h : Foot P r s) [Named P .aeA] [Named P .aeB] : Foot P r (State.updEng s e f) := by
  unfold State.updEng
  try extract_lets
  repeat' first
    | with_reducible assumption | with_reducible apply setEng_foot | with_reducible apply foldl_foot | with_reducible apply ite_foot | intro _ | split
    | contradiction | dsimp only

theorem bumpView_foot (s : State) (e : EngineId) (o : Off) (h : Foot P r s) [Named P .regs] : Foot P r (State.bumpView s e o) := by
  unfold State.bumpView
  try extract_lets
  repeat' first
    | with_reducible assumption | with_reducible apply bump_foot | with_reducible apply foldl_foot | with_reducible apply ite_foot | intro _ | split
    | contradiction | dsimp only

theorem setHostIdx_foot (s : State) (n : Nat) (i : U32) (h : Foot P r s) [Named P .hif] : Foot P r (State.setHostIdx s n i) := by
  unfold State.setHostIdx
  try extract_lets
  repeat' first
    | with_reducible assumption | with_reducible apply foldl_foot | with_reducible apply ite_foot | intro _ | split | contradiction | dsimp only
    | refine Foot.upd ?_ rfl (.inr rfl) (.inr rfl) (.inr rfl) (.inr rfl) (.inr rfl) (.inr rfl) (.inr rfl) (.inr rfl) Foot.named (.inr rfl) (.inr rfl) (.inr rfl) (.inr rfl) (.inr rfl) (.inr rfl) (.inr rfl) (.inr rfl) (.inr rfl) (.inr rfl) (.inr rfl) (.inr rfl) (.inr rfl) (.inr rfl) (.inr rfl)

theorem report_foot (s : State) (n : Nat) (now : Bool) (h : Foot P r s) [Named P .regs] [Named P .hif] : Foot P r (State.report s n now) := by
  unfold State.report
  try extract_lets
  repeat' first
    | with_reducible assumption | with_reducible apply sendVector_foot | with_reducible apply foldl_foot | with_reducible apply ite_foot | intro _
    | split | contradiction | dsimp only
    | refine Foot.upd ?_ rfl (.inr rfl) (.inr rfl) (.inr rfl) (.inr rfl) (.inr rfl) (.inr rfl) (.inr rfl) (.inr rfl) Foot.named (.inr rfl) (.inr rfl) (.inr rfl) (.inr rfl) (.inr rfl) (.inr rfl) (.inr rfl) (.inr rfl) (.inr rfl) (.inr rfl) (.inr rfl) (.inr rfl) (.inr rfl) (.inr rfl) (.inr rfl)

theorem advanceRing_foot (s : State) (n : Nat) (now : Bool) (h : Foot P r s) [Named P .regs] [Named P .hif] : Foot P r (State.advanceRing s n now) := by
  unfold State.advanceRing
  try extract_lets
  repeat' first
    | with_reducible assumption | with_reducible apply bump_foot | with_reducible apply setReg_foot | with_reducible apply emitOut_foot
    | with_reducible apply report_foot | with_reducible apply foldl_foot | with_reducible apply ite_foot | intro _ | split | contradiction
    | dsimp only

theorem postEntry_foot (s : State) (n : Nat) (data : List Byte) (now : Bool) (h : Foot P r s) [Named P .regs] [Named P .hif] : Foot P r (State.postEntry s n data now) := by
  unfold State.postEntry
  try extract_lets
  repeat' first
    | with_reducible assumption | with_reducible apply advanceRing_foot | with_reducible apply emitOut_foot | with_reducible apply foldl_foot
    | with_reducible apply ite_foot | intro _ | split | contradiction | dsimp only

theorem ringLoss_foot (s : State) (n : Nat) (h : Foot P r s) [Named P .regs] [Named P .gecko] : Foot P r (State.ringLoss s n) := by
  unfold State.ringLoss
  try extract_lets
  repeat' first
    | with_reducible assumption | with_reducible apply bump_foot | with_reducible apply foldl_foot | with_reducible apply ite_foot | intro _ | split
    | contradiction | dsimp only
    | refine Foot.upd ?_ rfl (.inr rfl) (.inr rfl) (.inr rfl) (.inr rfl) (.inr rfl) (.inr rfl) (.inr rfl) (.inr rfl) (.inr rfl) (.inr rfl) (.inr rfl) (.inr rfl) (.inr rfl) (.inr rfl) (.inr rfl) (.inr rfl) (.inr rfl) (.inr rfl) (.inr rfl) (.inr rfl) Foot.named (.inr rfl) (.inr rfl) (.inr rfl)

theorem postLossy_foot (s : State) (n : Nat) (data : List Byte) (h : Foot P r s) [Named P .regs] [Named P .hif] [Named P .gecko] : Foot P r (State.postLossy s n data) := by
  unfold State.postLossy
  try extract_lets
  repeat' first
    | with_reducible assumption | with_reducible apply postEntry_foot | with_reducible apply ringLoss_foot | with_reducible apply foldl_foot
    | with_reducible apply ite_foot | intro _ | split | contradiction | dsimp only

theorem ringError_foot (s : State) (n : Nat) (code : Nat) (h : Foot P r s) [Named P .regs] : Foot P r (State.ringError s n code) := by
  unfold State.ringError
  try extract_lets
  repeat' first
    | with_reducible assumption | with_reducible apply setRegFld_foot | with_reducible apply setRegBit_foot | with_reducible apply raise_foot
    | with_reducible apply bump_foot | with_reducible apply foldl_foot | with_reducible apply ite_foot | intro _ | split | contradiction | dsimp only

theorem postBuffer_foot (s : State) (n : Nat) (addr : Option Nat) (desc : List Byte) (data : List Byte) (h : Foot P r s) [Named P .regs] [Named P .hif] : Foot P r (State.postBuffer s n addr desc data) := by
  unfold State.postBuffer
  try extract_lets
  repeat' first
    | with_reducible assumption | with_reducible apply emitOut_foot | with_reducible apply ringError_foot | with_reducible apply advanceRing_foot
    | with_reducible apply foldl_foot | with_reducible apply ite_foot | intro _ | split | contradiction | dsimp only

theorem readBuffer_foot (s : State) (desc : List Byte) (h : Foot P r s) : Foot P r (State.readBuffer s desc) := by
  unfold State.readBuffer
  try extract_lets
  repeat' first
    | with_reducible assumption | with_reducible apply emitOut_foot | with_reducible apply foldl_foot | with_reducible apply ite_foot | intro _
    | split | contradiction | dsimp only

theorem consume_foot (s : State) (n : Nat) (h : Foot P r s) [Named P .regs] [Named P .hif] : Foot P r (State.consume s n) := by
  unfold State.consume
  try extract_lets
  repeat' first
    | with_reducible assumption | with_reducible apply advanceRing_foot | with_reducible apply foldl_foot | with_reducible apply ite_foot | intro _
    | split | contradiction | dsimp only
    | refine Foot.upd ?_ rfl (.inr rfl) (.inr rfl) (.inr rfl) (.inr rfl) (.inr rfl) (.inr rfl) (.inr rfl) (.inr rfl) Foot.named (.inr rfl) (.inr rfl) (.inr rfl) (.inr rfl) (.inr rfl) (.inr rfl) (.inr rfl) (.inr rfl) (.inr rfl) (.inr rfl) (.inr rfl) (.inr rfl) (.inr rfl) (.inr rfl) (.inr rfl)

theorem takeSsn_foot (s : State) (src : U16) (h : Foot P r s) [Named P .inlet] : Foot P r (State.takeSsn s src).2 := by
  unfold State.takeSsn
  try extract_lets
  repeat' first
    | with_reducible assumption | with_reducible apply foldl_foot | with_reducible apply ite_foot | intro _ | split | contradiction | dsimp only
    | refine Foot.upd ?_ rfl (.inr rfl) (.inr rfl) (.inr rfl) (.inr rfl) Foot.named (.inr rfl) (.inr rfl) (.inr rfl) (.inr rfl) (.inr rfl) (.inr rfl) (.inr rfl) (.inr rfl) (.inr rfl) (.inr rfl) (.inr rfl) (.inr rfl) (.inr rfl) (.inr rfl) (.inr rfl) (.inr rfl) (.inr rfl) (.inr rfl) (.inr rfl)

theorem overrun_foot (s : State) (pl : Nat) (h : Foot P r s) [Named P .regs] [Named P .gecko] : Foot P r (State.overrun s pl) := by
  unfold State.overrun
  try extract_lets
  repeat' first
    | with_reducible assumption | with_reducible apply raise_foot | with_reducible apply bump_foot | with_reducible apply foldl_foot
    | with_reducible apply ite_foot | intro _ | split | contradiction | dsimp only
    | refine Foot.upd ?_ rfl (.inr rfl) (.inr rfl) (.inr rfl) (.inr rfl) (.inr rfl) (.inr rfl) (.inr rfl) (.inr rfl) (.inr rfl) (.inr rfl) (.inr rfl) (.inr rfl) (.inr rfl) (.inr rfl) (.inr rfl) (.inr rfl) (.inr rfl) (.inr rfl) (.inr rfl) (.inr rfl) Foot.named (.inr rfl) (.inr rfl) (.inr rfl)

theorem offer_foot (s : State) (pl : Nat) (r1 : InRec) (h : Foot P r s) [Named P .regs] [Named P .inlet] [Named P .gecko] : Foot P r (State.offer s pl r1) := by
  unfold State.offer
  try extract_lets
  repeat' first
    | with_reducible assumption | with_reducible apply takeSsn_foot
    | (with_reducible refine Eq.mp (congrArg (Foot P r) (congrArg Prod.snd ‹_ = (_, _)›)) (takeSsn_foot ..)) | with_reducible apply overrun_foot
    | with_reducible apply foldl_foot | with_reducible apply ite_foot | intro _ | split | contradiction | dsimp only
    | refine Foot.upd ?_ rfl (.inr rfl) (.inr rfl) (.inr rfl) (.inr rfl) Foot.named (.inr rfl) (.inr rfl) (.inr rfl) (.inr rfl) (.inr rfl) (.inr rfl) (.inr rfl) (.inr rfl) (.inr rfl) (.inr rfl) (.inr rfl) (.inr rfl) (.inr rfl) (.inr rfl) (.inr rfl) (.inr rfl) (.inr rfl) (.inr rfl) (.inr rfl)

theorem markLoss_foot (s : State) (src : U16) (h : Foot P r s) [Named P .inlet] : Foot P r (State.markLoss s src) := by
  unfold State.markLoss
  try extract_lets
  repeat' first
    | with_reducible assumption | with_reducible apply foldl_foot | with_reducible apply ite_foot | intro _ | split | contradiction | dsimp only
    | refine Foot.upd ?_ rfl (.inr rfl) (.inr rfl) (.inr rfl) (.inr rfl) Foot.named (.inr rfl) (.inr rfl) (.inr rfl) (.inr rfl) (.inr rfl) (.inr rfl) (.inr rfl) (.inr rfl) (.inr rfl) (.inr rfl) (.inr rfl) (.inr rfl) (.inr rfl) (.inr rfl) (.inr rfl) (.inr rfl) (.inr rfl) (.inr rfl) (.inr rfl)

theorem complete_foot (s : State) (tag : U32) (irq : Bool) (opcode : Nat) (status : Nat) (result : U64) (h : Foot P r s) [Named P .hif] : Foot P r (State.complete s tag irq opcode status result) := by
  unfold State.complete
  try extract_lets
  repeat' first
    | with_reducible assumption | with_reducible apply foldl_foot | with_reducible apply ite_foot | intro _ | split | contradiction | dsimp only
    | refine Foot.upd ?_ rfl (.inr rfl) (.inr rfl) (.inr rfl) (.inr rfl) (.inr rfl) (.inr rfl) (.inr rfl) (.inr rfl) Foot.named (.inr rfl) (.inr rfl) (.inr rfl) (.inr rfl) (.inr rfl) (.inr rfl) (.inr rfl) (.inr rfl) (.inr rfl) (.inr rfl) (.inr rfl) (.inr rfl) (.inr rfl) (.inr rfl) (.inr rfl)

theorem defer_foot (s : State) (tag : U32) (irq : Bool) (opcode : Nat) (h : Foot P r s) [Named P .hif] : Foot P r (State.defer s tag irq opcode) := by
  unfold State.defer
  try extract_lets
  repeat' first
    | with_reducible assumption | with_reducible apply foldl_foot | with_reducible apply ite_foot | intro _ | split | contradiction | dsimp only
    | refine Foot.upd ?_ rfl (.inr rfl) (.inr rfl) (.inr rfl) (.inr rfl) (.inr rfl) (.inr rfl) (.inr rfl) (.inr rfl) Foot.named (.inr rfl) (.inr rfl) (.inr rfl) (.inr rfl) (.inr rfl) (.inr rfl) (.inr rfl) (.inr rfl) (.inr rfl) (.inr rfl) (.inr rfl) (.inr rfl) (.inr rfl) (.inr rfl) (.inr rfl)

theorem finish_foot (s : State) (tag : U32) (irq : Bool) (opcode : Nat) (status : Nat) (result : U64) (h : Foot P r s) [Named P .hif] : Foot P r (State.finish s tag irq opcode status result) := by
  unfold State.finish
  try extract_lets
  repeat' first
    | with_reducible assumption | with_reducible apply complete_foot | with_reducible apply foldl_foot | with_reducible apply ite_foot | intro _
    | split | contradiction | dsimp only
    | refine Foot.upd ?_ rfl (.inr rfl) (.inr rfl) (.inr rfl) (.inr rfl) (.inr rfl) (.inr rfl) (.inr rfl) (.inr rfl) Foot.named (.inr rfl) (.inr rfl) (.inr rfl) (.inr rfl) (.inr rfl) (.inr rfl) (.inr rfl) (.inr rfl) (.inr rfl) (.inr rfl) (.inr rfl) (.inr rfl) (.inr rfl) (.inr rfl) (.inr rfl)

theorem closeRunning_foot (s : State) (r1 : Running) (h : Foot P r s) [Named P .hif] : Foot P r (State.closeRunning s r1) := by
  unfold State.closeRunning
  try extract_lets
  repeat' first
    | with_reducible assumption | with_reducible apply emitOut_foot | with_reducible apply complete_foot | with_reducible apply foldl_foot
    | with_reducible apply ite_foot | intro _ | split | contradiction | dsimp only

theorem fromSetup_foot (s : State) (o : Off) (reason : Nat) (f : State → State) (h : Foot P r s) (h_f : ∀ t, Foot P r t → Foot P r (f t)) [Named P .regs] : Foot P r (State.fromSetup s o reason f) := by
  unfold State.fromSetup
  try extract_lets
  repeat' first
    | with_reducible assumption | with_reducible apply h_f | with_reducible apply ignored_foot | with_reducible apply foldl_foot
    | with_reducible apply ite_foot | intro _ | split | contradiction | dsimp only

theorem updNvm_foot (s : State) (f : Nvm → Nvm) (h : Foot P r s) [Named P .nvm] : Foot P r (State.updNvm s f) := by
  unfold State.updNvm
  try extract_lets
  repeat' first
    | with_reducible assumption | with_reducible apply foldl_foot | with_reducible apply ite_foot | intro _ | split | contradiction | dsimp only
    | refine Foot.upd ?_ rfl (.inr rfl) (.inr rfl) (.inr rfl) (.inr rfl) (.inr rfl) (.inr rfl) (.inr rfl) (.inr rfl) (.inr rfl) (.inr rfl) (.inr rfl) (.inr rfl) (.inr rfl) (.inr rfl) (.inr rfl) (.inr rfl) (.inr rfl) (.inr rfl) Foot.named (.inr rfl) (.inr rfl) (.inr rfl) (.inr rfl) (.inr rfl)

theorem updRegion_foot (s : State) (k : Nat) (f : Settings → Settings) (h : Foot P r s) [Named P .nvm] : Foot P r (State.updRegion s k f) := by
  unfold State.updRegion
  try extract_lets
  repeat' first
    | with_reducible assumption | with_reducible apply updNvm_foot | with_reducible apply foldl_foot | with_reducible apply ite_foot | intro _ | split
    | contradiction | dsimp only

theorem saveQuota_foot (s : State) (f : Quotas → Quotas) (h : Foot P r s) [Named P .nvm] : Foot P r (State.saveQuota s f) := by
  unfold State.saveQuota
  try extract_lets
  repeat' first
    | with_reducible assumption | with_reducible apply updRegion_foot | with_reducible apply foldl_foot | with_reducible apply ite_foot | intro _
    | split | contradiction | dsimp only

theorem setCap_foot (s : State) (c : Nat) (h : Foot P r s) [Named P .regs] : Foot P r (State.setCap s c) := by
  unfold State.setCap
  try extract_lets
  repeat' first
    | with_reducible assumption | with_reducible apply setRegFld_foot | with_reducible apply foldl_foot | with_reducible apply ite_foot | intro _
    | split | contradiction | dsimp only

theorem updSpawn_foot (s : State) (f : Spawn → Spawn) (h : Foot P r s) [Named P .spawn] : Foot P r (State.updSpawn s f) := by
  unfold State.updSpawn
  try extract_lets
  repeat' first
    | with_reducible assumption | with_reducible apply foldl_foot | with_reducible apply ite_foot | intro _ | split | contradiction | dsimp only
    | refine Foot.upd ?_ rfl (.inr rfl) (.inr rfl) (.inr rfl) (.inr rfl) (.inr rfl) (.inr rfl) (.inr rfl) (.inr rfl) (.inr rfl) (.inr rfl) Foot.named (.inr rfl) (.inr rfl) (.inr rfl) (.inr rfl) (.inr rfl) (.inr rfl) (.inr rfl) (.inr rfl) (.inr rfl) (.inr rfl) (.inr rfl) (.inr rfl) (.inr rfl)

theorem ringPut_foot (s : State) (rec : List Byte) (h : Foot P r s) [Named P .regs] [Named P .spawn] [Named P .gecko] : Foot P r (State.ringPut s rec) := by
  unfold State.ringPut
  try extract_lets
  repeat' first
    | with_reducible assumption | with_reducible apply lineWritten_foot | with_reducible apply updSpawn_foot | with_reducible apply setPair_foot
    | with_reducible apply foldl_foot | with_reducible apply ite_foot | intro _ | split | contradiction | dsimp only

theorem countPost_foot (s : State) (n : Nat) (h : Foot P r s) [Named P .spawn] : Foot P r (State.countPost s n) := by
  unfold State.countPost
  try extract_lets
  repeat' first
    | with_reducible assumption | with_reducible apply updSpawn_foot | with_reducible apply foldl_foot | with_reducible apply ite_foot | intro _
    | split | contradiction | dsimp only

theorem journal_foot (s : State) (rec : List Byte) (h : Foot P r s) [Named P .regs] [Named P .spawn] [Named P .gecko] : Foot P r (State.journal s rec) := by
  unfold State.journal
  try extract_lets
  repeat' first
    | with_reducible assumption | with_reducible apply countPost_foot | with_reducible apply updSpawn_foot | with_reducible apply ringPut_foot
    | with_reducible apply foldl_foot | with_reducible apply ite_foot | intro _ | split | contradiction | dsimp only

theorem trigger_foot (s : State) (isn : U64) (h : Foot P r s) [Named P .regs] [Named P .spawn] : Foot P r (State.trigger s isn) := by
  unfold State.trigger
  try extract_lets
  repeat' first
    | with_reducible assumption | with_reducible apply bump_foot | with_reducible apply setPair_foot | with_reducible apply updSpawn_foot
    | with_reducible apply raise_foot | with_reducible apply setCap_foot | with_reducible apply foldl_foot | with_reducible apply ite_foot | intro _
    | split | contradiction | dsimp only

theorem tmoTrigger_foot (s : State) (k : Nat) (h : Foot P r s) [Named P .regs] [Named P .spawn] : Foot P r (State.tmoTrigger s k) := by
  unfold State.tmoTrigger
  try extract_lets
  repeat' first
    | with_reducible assumption | with_reducible apply trigger_foot | with_reducible apply foldl_foot | with_reducible apply ite_foot | intro _
    | split | contradiction | dsimp only

theorem updTmo_foot (s : State) (k : Nat) (f : Tmo → Tmo) (h : Foot P r s) [Named P .ws] : Foot P r (State.updTmo s k f) := by
  unfold State.updTmo
  try extract_lets
  repeat' first
    | with_reducible assumption | with_reducible apply foldl_foot | with_reducible apply ite_foot | intro _ | split | contradiction | dsimp only
    | refine Foot.upd ?_ rfl (.inr rfl) (.inr rfl) (.inr rfl) (.inr rfl) (.inr rfl) (.inr rfl) (.inr rfl) (.inr rfl) (.inr rfl) (.inr rfl) (.inr rfl) (.inr rfl) (.inr rfl) (.inr rfl) (.inr rfl) Foot.named (.inr rfl) (.inr rfl) (.inr rfl) (.inr rfl) (.inr rfl) (.inr rfl) (.inr rfl) (.inr rfl)

theorem tmoPin_foot (s : State) (k : Nat) (h : Foot P r s) : Foot P r (State.tmoPin s k) := by
  unfold State.tmoPin
  try extract_lets
  repeat' first
    | with_reducible assumption | with_reducible apply emitOut_foot | with_reducible apply foldl_foot | with_reducible apply ite_foot | intro _
    | split | contradiction | dsimp only

theorem pulse_foot (s : State) (k : Nat) (h : Foot P r s) [Named P .regs] [Named P .spawn] [Named P .ws] : Foot P r (State.pulse s k) := by
  unfold State.pulse
  try extract_lets
  repeat' first
    | with_reducible assumption | with_reducible apply updTmo_foot | with_reducible apply tmoTrigger_foot | with_reducible apply tmoPin_foot
    | with_reducible apply bump_foot | with_reducible apply foldl_foot | with_reducible apply ite_foot | intro _ | split | contradiction | dsimp only

theorem tmoFire_foot (s : State) (k : Nat) (h : Foot P r s) [Named P .regs] [Named P .spawn] [Named P .ws] : Foot P r (State.tmoFire s k) := by
  unfold State.tmoFire
  try extract_lets
  repeat' first
    | with_reducible assumption | with_reducible apply pulse_foot | with_reducible apply updTmo_foot | with_reducible apply foldl_foot
    | with_reducible apply ite_foot | intro _ | split | contradiction | dsimp only

theorem tmoEnd_foot (s : State) (k : Nat) (h : Foot P r s) [Named P .ws] : Foot P r (State.tmoEnd s k) := by
  unfold State.tmoEnd
  try extract_lets
  repeat' first
    | with_reducible assumption | with_reducible apply tmoPin_foot | with_reducible apply updTmo_foot | with_reducible apply foldl_foot
    | with_reducible apply ite_foot | intro _ | split | contradiction | dsimp only

theorem tmoRevisit_foot (s : State) (step : Int) (t : Nat) (t' : Nat) (k : Nat) (h : Foot P r s) [Named P .regs] [Named P .spawn] [Named P .ws] : Foot P r (State.tmoRevisit s step t t' k) := by
  unfold State.tmoRevisit
  try extract_lets
  repeat' first
    | with_reducible assumption | with_reducible apply raise_foot | with_reducible apply updTmo_foot | with_reducible apply pulse_foot
    | with_reducible apply bumpBy_foot | with_reducible apply foldl_foot | with_reducible apply ite_foot | intro _ | split | contradiction
    | dsimp only

theorem tmoArm_foot (s : State) (k : Nat) (h : Foot P r s) [Named P .ws] : Foot P r (State.tmoArm s k) := by
  unfold State.tmoArm
  try extract_lets
  repeat' first
    | with_reducible assumption | with_reducible apply updTmo_foot | with_reducible apply tmoPin_foot | with_reducible apply foldl_foot
    | with_reducible apply ite_foot | intro _ | split | contradiction | dsimp only

theorem stepped_foot (s : State) (step : Int) (modeChange : Bool) (t : U64) (h : Foot P r s) [Named P .regs] [Named P .spawn] [Named P .ws] : Foot P r (State.stepped s step modeChange t) := by
  unfold State.stepped
  try extract_lets
  repeat' first
    | with_reducible assumption | with_reducible apply bump_foot | with_reducible apply setPair_foot | with_reducible apply raise_foot
    | with_reducible apply tmoRevisit_foot | with_reducible apply foldl_foot | with_reducible apply ite_foot | intro _ | split | contradiction
    | dsimp only
    | refine Foot.upd ?_ rfl (.inr rfl) (.inr rfl) (.inr rfl) (.inr rfl) (.inr rfl) (.inr rfl) (.inr rfl) (.inr rfl) (.inr rfl) (.inr rfl) (.inr rfl) (.inr rfl) (.inr rfl) (.inr rfl) (.inr rfl) Foot.named (.inr rfl) (.inr rfl) (.inr rfl) (.inr rfl) (.inr rfl) (.inr rfl) (.inr rfl) (.inr rfl)

theorem doSwitch_foot (s : State) (sw : Switch) (h : Foot P r s) [Named P .regs] [Named P .spawn] [Named P .ws] : Foot P r (State.doSwitch s sw) := by
  unfold State.doSwitch
  try extract_lets
  repeat' first
    | with_reducible assumption | with_reducible apply stepped_foot | with_reducible apply foldl_foot | with_reducible apply ite_foot | intro _
    | split | contradiction | dsimp only
    | refine Foot.upd ?_ rfl (.inr rfl) (.inr rfl) (.inr rfl) (.inr rfl) (.inr rfl) (.inr rfl) (.inr rfl) (.inr rfl) (.inr rfl) (.inr rfl) (.inr rfl) (.inr rfl) (.inr rfl) (.inr rfl) (.inr rfl) Foot.named (.inr rfl) (.inr rfl) (.inr rfl) (.inr rfl) (.inr rfl) (.inr rfl) (.inr rfl) (.inr rfl)

theorem applySwitch_foot (s : State) (sw : Switch) (h : Foot P r s) [Named P .regs] [Named P .hif] [Named P .spawn] [Named P .ws] : Foot P r (State.applySwitch s sw) := by
  unfold State.applySwitch
  try extract_lets
  repeat' first
    | with_reducible assumption | with_reducible apply doSwitch_foot | with_reducible apply finish_foot | with_reducible apply foldl_foot
    | with_reducible apply ite_foot | intro _ | split | contradiction | dsimp only
    | refine Foot.upd ?_ rfl (.inr rfl) (.inr rfl) (.inr rfl) (.inr rfl) (.inr rfl) (.inr rfl) (.inr rfl) (.inr rfl) (.inr rfl) (.inr rfl) (.inr rfl) (.inr rfl) (.inr rfl) (.inr rfl) (.inr rfl) Foot.named (.inr rfl) (.inr rfl) (.inr rfl) (.inr rfl) (.inr rfl) (.inr rfl) (.inr rfl) (.inr rfl)

theorem elapse_foot (s : State) (n : Nat) (h : Foot P r s) [Named P .regs] [Named P .hif] [Named P .spawn] [Named P .ws] : Foot P r (State.elapse s n) := by
  unfold State.elapse
  try extract_lets
  repeat' first
    | with_reducible assumption | with_reducible apply applySwitch_foot | with_reducible apply foldl_foot | with_reducible apply ite_foot | intro _
    | split | contradiction | dsimp only
    | refine Foot.upd ?_ rfl (.inr rfl) (.inr rfl) (.inr rfl) (.inr rfl) (.inr rfl) (.inr rfl) (.inr rfl) (.inr rfl) (.inr rfl) (.inr rfl) (.inr rfl) (.inr rfl) (.inr rfl) (.inr rfl) (.inr rfl) Foot.named (.inr rfl) (.inr rfl) (.inr rfl) (.inr rfl) (.inr rfl) (.inr rfl) (.inr rfl) (.inr rfl)

theorem updCan_foot (s : State) (n : Nat) (f : Can → Can) (h : Foot P r s) [Named P .can] : Foot P r (State.updCan s n f) := by
  unfold State.updCan
  try extract_lets
  repeat' first
    | with_reducible assumption | with_reducible apply foldl_foot | with_reducible apply ite_foot | intro _ | split | contradiction | dsimp only
    | refine Foot.upd ?_ rfl (.inr rfl) (.inr rfl) (.inr rfl) (.inr rfl) (.inr rfl) (.inr rfl) (.inr rfl) (.inr rfl) (.inr rfl) (.inr rfl) (.inr rfl) (.inr rfl) (.inr rfl) Foot.named (.inr rfl) (.inr rfl) (.inr rfl) (.inr rfl) (.inr rfl) (.inr rfl) (.inr rfl) (.inr rfl) (.inr rfl) (.inr rfl)

theorem setCanStat_foot (s : State) (n : Nat) (i : Nat) (b : Bool) (h : Foot P r s) [Named P .regs] : Foot P r (State.setCanStat s n i b) := by
  unfold State.setCanStat
  try extract_lets
  repeat' first
    | with_reducible assumption | with_reducible apply setRegBit_foot | with_reducible apply foldl_foot | with_reducible apply ite_foot | intro _
    | split | contradiction | dsimp only

theorem setCanBus_foot (s : State) (n : Nat) (b : Nat) (h : Foot P r s) [Named P .regs] : Foot P r (State.setCanBus s n b) := by
  unfold State.setCanBus
  try extract_lets
  repeat' first
    | with_reducible assumption | with_reducible apply setRegFld_foot | with_reducible apply foldl_foot | with_reducible apply ite_foot | intro _
    | split | contradiction | dsimp only

theorem canRing_foot (s : State) (n : Nat) (entry : Nat → List Byte) (h : Foot P r s) [Named P .regs] [Named P .hif] [Named P .can] [Named P .gecko] : Foot P r (State.canRing s n entry).1 := by
  unfold State.canRing
  try extract_lets
  repeat' first
    | with_reducible assumption | with_reducible apply postEntry_foot | with_reducible apply updCan_foot | with_reducible apply raise_foot
    | with_reducible apply ringLoss_foot | with_reducible apply foldl_foot | with_reducible apply ite_foot | intro _ | split | contradiction
    | dsimp only

theorem postEcho_foot (s : State) (n : Nat) (e : Echo) (h : Foot P r s) [Named P .regs] [Named P .hif] [Named P .can] [Named P .gecko] : Foot P r (State.postEcho s n e) := by
  unfold State.postEcho
  try extract_lets
  repeat' first
    | with_reducible assumption | with_reducible apply canRing_foot
    | (with_reducible refine Eq.mp (congrArg (Foot P r) (congrArg Prod.fst ‹_ = (_, _)›)) (canRing_foot ..)) | with_reducible apply foldl_foot
    | with_reducible apply ite_foot | intro _ | split | contradiction | dsimp only

theorem echoesDue_foot (s : State) (n : Nat) (h : Foot P r s) [Named P .regs] [Named P .hif] [Named P .can] [Named P .gecko] : Foot P r (State.echoesDue s n) := by
  unfold State.echoesDue
  try extract_lets
  repeat' first
    | with_reducible assumption | with_reducible apply updCan_foot | with_reducible apply postEcho_foot | with_reducible apply foldl_foot
    | with_reducible apply ite_foot | intro _ | split | contradiction | dsimp only

theorem echo_foot (s : State) (n : Nat) (t : TxSlot) (code : Nat) (h : Foot P r s) [Named P .regs] [Named P .hif] [Named P .can] [Named P .gecko] : Foot P r (State.echo s n t code) := by
  unfold State.echo
  try extract_lets
  repeat' first
    | with_reducible assumption | with_reducible apply echoesDue_foot | with_reducible apply updCan_foot | with_reducible apply foldl_foot
    | with_reducible apply ite_foot | intro _ | split | contradiction | dsimp only

theorem rxFlush_foot (s : State) (n : Nat) (h : Foot P r s) [Named P .regs] [Named P .hif] [Named P .can] [Named P .gecko] : Foot P r (State.rxFlush s n) := by
  unfold State.rxFlush
  try extract_lets
  repeat' first
    | with_reducible assumption | with_reducible apply echoesDue_foot | with_reducible apply updCan_foot | with_reducible apply foldl_foot
    | with_reducible apply ite_foot | intro _ | split | contradiction | dsimp only

theorem txOutcome_foot (s : State) (n : Nat) (t : TxSlot) (code : Nat) (h : Foot P r s) [Named P .regs] [Named P .hif] [Named P .can] [Named P .gecko] : Foot P r (State.txOutcome s n t code) := by
  unfold State.txOutcome
  try extract_lets
  repeat' first
    | with_reducible assumption | with_reducible apply bump_foot | with_reducible apply echo_foot | with_reducible apply foldl_foot
    | with_reducible apply ite_foot | intro _ | split | contradiction | dsimp only

theorem freeTx_foot (s : State) (n : Nat) (idx : Nat) (h : Foot P r s) [Named P .can] : Foot P r (State.freeTx s n idx) := by
  unfold State.freeTx
  try extract_lets
  repeat' first
    | with_reducible assumption | with_reducible apply updCan_foot | with_reducible apply foldl_foot | with_reducible apply ite_foot | intro _ | split
    | contradiction | dsimp only

theorem endFrames_foot (s : State) (n : Nat) (f : TxSlot → Bool) (code : Nat) (h : Foot P r s) [Named P .regs] [Named P .hif] [Named P .can] [Named P .gecko] : Foot P r (State.endFrames s n f code) := by
  unfold State.endFrames
  try extract_lets
  repeat' first
    | with_reducible assumption | with_reducible apply updCan_foot | with_reducible apply txOutcome_foot | with_reducible apply foldl_foot
    | with_reducible apply ite_foot | intro _ | split | contradiction | dsimp only

theorem placeNode_foot (s : State) (n : Nat) (id : U32) (brs : Bool) (data : List Byte) (dlc : Nat) (h : Foot P r s) [Named P .can] : Foot P r (State.placeNode s n id brs data dlc).1 := by
  unfold State.placeNode
  try extract_lets
  repeat' first
    | with_reducible assumption | with_reducible apply updCan_foot | with_reducible apply foldl_foot | with_reducible apply ite_foot | intro _ | split
    | contradiction | dsimp only

theorem canQuiet_foot (s : State) (n : Nat) (h : Foot P r s) [Named P .regs] : Foot P r (State.canQuiet s n) := by
  unfold State.canQuiet
  try extract_lets
  repeat' first
    | with_reducible assumption | with_reducible apply setCanStat_foot | with_reducible apply setReg_foot | with_reducible apply foldl_foot
    | with_reducible apply ite_foot | intro _ | split | contradiction | dsimp only

theorem canRecover_foot (s : State) (n : Nat) (h : Foot P r s) [Named P .regs] : Foot P r (State.canRecover s n) := by
  unfold State.canRecover
  try extract_lets
  repeat' first
    | with_reducible assumption | with_reducible apply setCanStat_foot | with_reducible apply foldl_foot | with_reducible apply ite_foot | intro _
    | split | contradiction | dsimp only

theorem canJoin_foot (s : State) (n : Nat) (h : Foot P r s) [Named P .regs] : Foot P r (State.canJoin s n) := by
  unfold State.canJoin
  try extract_lets
  repeat' first
    | with_reducible assumption | with_reducible apply setCanStat_foot | with_reducible apply setCanBus_foot | with_reducible apply canRecover_foot
    | with_reducible apply foldl_foot | with_reducible apply ite_foot | intro _ | split | contradiction | dsimp only

theorem canOff_foot (s : State) (n : Nat) (h : Foot P r s) [Named P .regs] [Named P .hif] [Named P .can] : Foot P r (State.canOff s n) := by
  unfold State.canOff
  try extract_lets
  repeat' first
    | with_reducible assumption | with_reducible apply canQuiet_foot | with_reducible apply setCanStat_foot | with_reducible apply setCanBus_foot
    | with_reducible apply finish_foot | with_reducible apply updCan_foot | with_reducible apply foldl_foot | with_reducible apply ite_foot | intro _
    | split | contradiction | dsimp only

theorem cancelEnds_foot (s : State) (n : Nat) (sent : Bool) (h : Foot P r s) [Named P .hif] [Named P .can] : Foot P r (State.cancelEnds s n sent) := by
  unfold State.cancelEnds
  try extract_lets
  repeat' first
    | with_reducible assumption | with_reducible apply updCan_foot | with_reducible apply finish_foot | with_reducible apply foldl_foot
    | with_reducible apply ite_foot | intro _ | split | contradiction | dsimp only

theorem canHaltOne_foot (s : State) (n : Nat) (h : Foot P r s) [Named P .regs] [Named P .hif] [Named P .can] [Named P .gecko] : Foot P r (State.canHaltOne s n) := by
  unfold State.canHaltOne
  try extract_lets
  repeat' first
    | with_reducible assumption | with_reducible apply cancelEnds_foot | with_reducible apply endFrames_foot | with_reducible apply rxFlush_foot
    | with_reducible apply canOff_foot | with_reducible apply foldl_foot | with_reducible apply ite_foot | intro _ | split | contradiction
    | dsimp only

theorem canHalt_foot (s : State) (h : Foot P r s) [Named P .regs] [Named P .outlet] [Named P .hif] [Named P .can] [Named P .canWalk] [Named P .gecko] : Foot P r (State.canHalt s) := by
  unfold State.canHalt
  try extract_lets
  repeat' first
    | with_reducible assumption | with_reducible apply canHaltOne_foot | with_reducible apply foldl_foot | with_reducible apply ite_foot | intro _
    | split | contradiction | dsimp only
    | refine Foot.upd ?_ rfl (.inr rfl) (.inr rfl) (.inr rfl) (.inr rfl) (.inr rfl) (.inr rfl) (.inr rfl) Foot.named (.inr rfl) (.inr rfl) (.inr rfl) (.inr rfl) (.inr rfl) (.inr rfl) Foot.named (.inr rfl) (.inr rfl) (.inr rfl) (.inr rfl) (.inr rfl) (.inr rfl) (.inr rfl) (.inr rfl) (.inr rfl)

theorem canLeave_foot (s : State) (n : Nat) (h : Foot P r s) [Named P .regs] [Named P .hif] [Named P .can] [Named P .gecko] : Foot P r (State.canLeave s n) := by
  unfold State.canLeave
  try extract_lets
  repeat' first
    | with_reducible assumption | with_reducible apply endFrames_foot | with_reducible apply canOff_foot | with_reducible apply foldl_foot
    | with_reducible apply ite_foot | intro _ | split | contradiction | dsimp only

theorem canStart_foot (s : State) (h : Foot P r s) [Named P .regs] : Foot P r (State.canStart s) := by
  unfold State.canStart
  try extract_lets
  repeat' first
    | with_reducible assumption | with_reducible apply canJoin_foot | with_reducible apply foldl_foot | with_reducible apply ite_foot | intro _
    | split | contradiction | dsimp only

theorem canStop_foot (s : State) (h : Foot P r s) [Named P .regs] [Named P .hif] [Named P .can] [Named P .gecko] : Foot P r (State.canStop s) := by
  unfold State.canStop
  try extract_lets
  repeat' first
    | with_reducible assumption | with_reducible apply setCanStat_foot | with_reducible apply canLeave_foot | with_reducible apply updCan_foot
    | with_reducible apply foldl_foot | with_reducible apply ite_foot | intro _ | split | contradiction | dsimp only

theorem canPause_foot (s : State) (h : Foot P r s) [Named P .regs] [Named P .hif] [Named P .can] : Foot P r (State.canPause s) := by
  unfold State.canPause
  try extract_lets
  repeat' first
    | with_reducible assumption | with_reducible apply canOff_foot | with_reducible apply foldl_foot | with_reducible apply ite_foot | intro _ | split
    | contradiction | dsimp only

theorem setErr_foot (s : State) (n : Nat) (tec : Nat) (rec : Nat) (h : Foot P r s) [Named P .regs] [Named P .hif] [Named P .can] [Named P .gecko] : Foot P r (State.setErr s n tec rec) := by
  unfold State.setErr
  try extract_lets
  repeat' first
    | with_reducible assumption | with_reducible apply updCan_foot | with_reducible apply setCanBus_foot | with_reducible apply canQuiet_foot
    | with_reducible apply raise_foot | with_reducible apply bump_foot | with_reducible apply endFrames_foot | with_reducible apply canRecover_foot
    | with_reducible apply foldl_foot | with_reducible apply ite_foot | intro _ | split | contradiction | dsimp only

theorem errFrame_foot (s : State) (n : Nat) (code : Nat) (dataPhase : Bool) (h : Foot P r s) [Named P .regs] : Foot P r (State.errFrame s n code dataPhase) := by
  unfold State.errFrame
  try extract_lets
  repeat' first
    | with_reducible assumption | with_reducible apply setReg_foot | with_reducible apply bump_foot | with_reducible apply foldl_foot
    | with_reducible apply ite_foot | intro _ | split | contradiction | dsimp only

theorem updSkink_foot (s : State) (f : Skink → Skink) (h : Foot P r s) [Named P .skink] : Foot P r (State.updSkink s f) := by
  unfold State.updSkink
  try extract_lets
  repeat' first
    | with_reducible assumption | with_reducible apply foldl_foot | with_reducible apply ite_foot | intro _ | split | contradiction | dsimp only
    | refine Foot.upd ?_ rfl (.inr rfl) (.inr rfl) (.inr rfl) (.inr rfl) (.inr rfl) (.inr rfl) (.inr rfl) (.inr rfl) (.inr rfl) Foot.named (.inr rfl) (.inr rfl) (.inr rfl) (.inr rfl) (.inr rfl) (.inr rfl) (.inr rfl) (.inr rfl) (.inr rfl) (.inr rfl) (.inr rfl) (.inr rfl) (.inr rfl) (.inr rfl)

theorem offerResync_foot (s : State) (func : Nat) (cause : Nat) (arg : U32) (h : Foot P r s) [Named P .regs] [Named P .inlet] [Named P .gecko] : Foot P r (State.offerResync s func cause arg) := by
  unfold State.offerResync
  try extract_lets
  repeat' first
    | with_reducible assumption | with_reducible apply offer_foot | with_reducible apply foldl_foot | with_reducible apply ite_foot | intro _ | split
    | contradiction | dsimp only

theorem offerStatus_foot (s : State) (cause : Nat) (h : Foot P r s) [Named P .regs] [Named P .inlet] [Named P .gecko] : Foot P r (State.offerStatus s cause) := by
  unfold State.offerStatus
  try extract_lets
  repeat' first
    | with_reducible assumption | with_reducible apply offerResync_foot | with_reducible apply foldl_foot | with_reducible apply ite_foot | intro _
    | split | contradiction | dsimp only
    | refine Foot.upd ?_ rfl (.inr rfl) (.inr rfl) (.inr rfl) (.inr rfl) Foot.named (.inr rfl) (.inr rfl) (.inr rfl) (.inr rfl) (.inr rfl) (.inr rfl) (.inr rfl) (.inr rfl) (.inr rfl) (.inr rfl) (.inr rfl) (.inr rfl) (.inr rfl) (.inr rfl) (.inr rfl) (.inr rfl) (.inr rfl) (.inr rfl) (.inr rfl)

theorem releaseHold_foot (s : State) (h : Foot P r s) [Named P .aeA] [Named P .aeB] [Named P .skink] : Foot P r (State.releaseHold s) := by
  unfold State.releaseHold
  try extract_lets
  repeat' first
    | with_reducible assumption | with_reducible apply updEng_foot | with_reducible apply updSkink_foot | with_reducible apply foldl_foot
    | with_reducible apply ite_foot | intro _ | split | contradiction | dsimp only

theorem grantHold_foot (s : State) (e : EngineId) (h : Foot P r s) [Named P .regs] [Named P .aeA] [Named P .aeB] [Named P .skink] : Foot P r (State.grantHold s e) := by
  unfold State.grantHold
  try extract_lets
  repeat' first
    | with_reducible assumption | with_reducible apply recordMax_foot | with_reducible apply updEng_foot | with_reducible apply updSkink_foot
    | with_reducible apply foldl_foot | with_reducible apply ite_foot | intro _ | split | contradiction | dsimp only

theorem recordFailure_foot (s : State) (e : EngineId) (cause : Nat) (h : Foot P r s) [Named P .regs] [Named P .aeA] [Named P .aeB] : Foot P r (State.recordFailure s e cause) := by
  unfold State.recordFailure
  try extract_lets
  repeat' first
    | with_reducible assumption | with_reducible apply setEng_foot | with_reducible apply setPair_foot | with_reducible apply raise_foot
    | with_reducible apply bump_foot | with_reducible apply foldl_foot | with_reducible apply ite_foot | intro _ | split | contradiction | dsimp only

theorem dropWaiter_foot (s : State) (e : EngineId) (h : Foot P r s) [Named P .hif] : Foot P r (State.dropWaiter s e) := by
  unfold State.dropWaiter
  try extract_lets
  repeat' first
    | with_reducible assumption | with_reducible apply closeRunning_foot | with_reducible apply complete_foot | with_reducible apply foldl_foot
    | with_reducible apply ite_foot | intro _ | split | contradiction | dsimp only
    | refine Foot.upd ?_ rfl (.inr rfl) (.inr rfl) (.inr rfl) (.inr rfl) (.inr rfl) (.inr rfl) (.inr rfl) (.inr rfl) Foot.named (.inr rfl) (.inr rfl) (.inr rfl) (.inr rfl) (.inr rfl) (.inr rfl) (.inr rfl) (.inr rfl) (.inr rfl) (.inr rfl) (.inr rfl) (.inr rfl) (.inr rfl) (.inr rfl) (.inr rfl)

theorem refuseTaken_foot (s : State) (units : List CmdUnit) (h : Foot P r s) [Named P .hif] : Foot P r (State.refuseTaken s units) := by
  unfold State.refuseTaken
  try extract_lets
  repeat' first
    | with_reducible assumption | with_reducible apply complete_foot | with_reducible apply finish_foot | with_reducible apply foldl_foot
    | with_reducible apply ite_foot | intro _ | split | contradiction | dsimp only

theorem snapRetry_foot (s : State) (e : EngineId) (source : Bool) (h : Foot P r s) [Named P .regs] [Named P .spawn] : Foot P r (State.snapRetry s e source) := by
  unfold State.snapRetry
  try extract_lets
  repeat' first
    | with_reducible assumption | with_reducible apply updSpawn_foot | with_reducible apply bump_foot | with_reducible apply foldl_foot
    | with_reducible apply ite_foot | intro _ | split | contradiction | dsimp only

theorem abandonCopy_foot (s : State) (e : EngineId) (h : Foot P r s) [Named P .aeA] [Named P .aeB] [Named P .skink] : Foot P r (State.abandonCopy s e) := by
  unfold State.abandonCopy
  try extract_lets
  repeat' first
    | with_reducible assumption | with_reducible apply updSkink_foot | with_reducible apply updEng_foot | with_reducible apply foldl_foot
    | with_reducible apply ite_foot | intro _ | split | contradiction | dsimp only

theorem closeTaken_foot (s : State) (h : Foot P r s) [Named P .inlet] [Named P .hif] : Foot P r (State.closeTaken s) := by
  unfold State.closeTaken
  try extract_lets
  repeat' first
    | with_reducible assumption | with_reducible apply closeRunning_foot | with_reducible apply complete_foot | with_reducible apply refuseTaken_foot
    | with_reducible apply foldl_foot | with_reducible apply ite_foot | intro _ | split | contradiction | dsimp only
    | refine Foot.upd ?_ rfl (.inr rfl) (.inr rfl) (.inr rfl) (.inr rfl) Foot.named (.inr rfl) (.inr rfl) (.inr rfl) Foot.named (.inr rfl) (.inr rfl) (.inr rfl) (.inr rfl) (.inr rfl) (.inr rfl) (.inr rfl) (.inr rfl) (.inr rfl) (.inr rfl) (.inr rfl) (.inr rfl) (.inr rfl) (.inr rfl) (.inr rfl)

theorem haltNode_foot (s : State) (cause : Nat) (engCause : Nat) (h : Foot P r s) [Named P .regs] [Named P .inlet] [Named P .outlet] [Named P .hif] [Named P .spawn] [Named P .fe] [Named P .dio] [Named P .can] [Named P .canWalk] [Named P .gecko] : Foot P r (State.haltNode s cause engCause) := by
  unfold State.haltNode
  try extract_lets
  repeat' first
    | with_reducible assumption | with_reducible apply setReg_foot | with_reducible apply lanesEnd_foot | with_reducible apply requestsEnd_foot
    | with_reducible apply endContinuous_foot | with_reducible apply closeTaken_foot | with_reducible apply setPair_foot
    | with_reducible apply canHalt_foot | with_reducible apply raise_foot | with_reducible apply setMgmt_foot | with_reducible apply foldl_foot
    | with_reducible apply ite_foot | intro _ | split | contradiction | dsimp only

theorem leaveService_foot (s : State) (e : EngineId) (cause : Nat) (h : Foot P r s) [Named P .regs] [Named P .inlet] [Named P .aeA] [Named P .aeB] [Named P .outlet] [Named P .hif] [Named P .skink] [Named P .spawn] [Named P .fe] [Named P .dio] [Named P .can] [Named P .canWalk] [Named P .gecko] : Foot P r (State.leaveService s e cause) := by
  unfold State.leaveService
  try extract_lets
  repeat' first
    | with_reducible assumption | with_reducible apply releaseHold_foot | with_reducible apply abandonCopy_foot | with_reducible apply snapRetry_foot
    | with_reducible apply dropWaiter_foot | with_reducible apply offerStatus_foot | with_reducible apply haltNode_foot
    | with_reducible apply foldl_foot | with_reducible apply ite_foot | intro _ | split | contradiction | dsimp only

theorem failCore_foot (s : State) (e : EngineId) (cause : Nat) (h : Foot P r s) [Named P .regs] [Named P .inlet] [Named P .aeA] [Named P .aeB] [Named P .outlet] [Named P .hif] [Named P .skink] [Named P .spawn] [Named P .fe] [Named P .dio] [Named P .can] [Named P .canWalk] [Named P .gecko] : Foot P r (State.failCore s e cause) := by
  unfold State.failCore
  try extract_lets
  repeat' first
    | with_reducible assumption | with_reducible apply leaveService_foot | with_reducible apply recordFailure_foot
    | with_reducible apply offerStatus_foot | with_reducible apply abandonCopy_foot | with_reducible apply foldl_foot | with_reducible apply ite_foot
    | intro _ | split | contradiction | dsimp only

theorem failOut_foot (s : State) (e : EngineId) (cause : Nat) (h : Foot P r s) [Named P .regs] [Named P .inlet] [Named P .aeA] [Named P .aeB] [Named P .gecko] : Foot P r (State.failOut s e cause) := by
  unfold State.failOut
  try extract_lets
  repeat' first
    | with_reducible assumption | with_reducible apply recordFailure_foot | with_reducible apply offerStatus_foot | with_reducible apply foldl_foot
    | with_reducible apply ite_foot | intro _ | split | contradiction | dsimp only

theorem offerDiverge_foot (s : State) (arg : U32) (h : Foot P r s) [Named P .regs] [Named P .inlet] [Named P .aeA] [Named P .aeB] [Named P .skink] [Named P .gecko] : Foot P r (State.offerDiverge s arg) := by
  unfold State.offerDiverge
  try extract_lets
  repeat' first
    | with_reducible assumption | with_reducible apply updSkink_foot | with_reducible apply setReg_foot | with_reducible apply offerResync_foot
    | with_reducible apply raise_foot | with_reducible apply bump_foot | with_reducible apply foldl_foot | with_reducible apply ite_foot | intro _
    | split | contradiction | dsimp only
    | refine Foot.upd ?_ rfl (.inr rfl) (.inr rfl) (.inr rfl) (.inr rfl) (.inr rfl) Foot.named Foot.named (.inr rfl) (.inr rfl) (.inr rfl) (.inr rfl) (.inr rfl) (.inr rfl) (.inr rfl) (.inr rfl) (.inr rfl) (.inr rfl) (.inr rfl) (.inr rfl) (.inr rfl) (.inr rfl) (.inr rfl) (.inr rfl) (.inr rfl)

theorem pointMismatch_foot (s : State) (p : Nat) (h : Foot P r s) [Named P .regs] [Named P .inlet] [Named P .aeA] [Named P .aeB] [Named P .outlet] [Named P .hif] [Named P .skink] [Named P .spawn] [Named P .fe] [Named P .dio] [Named P .can] [Named P .canWalk] [Named P .gecko] : Foot P r (State.pointMismatch s p) := by
  unfold State.pointMismatch
  try extract_lets
  repeat' first
    | with_reducible assumption | with_reducible apply offerDiverge_foot | with_reducible apply updSkink_foot | with_reducible apply failCore_foot
    | with_reducible apply foldl_foot | with_reducible apply ite_foot | intro _ | split | contradiction | dsimp only

theorem divergeDone_foot (s : State) (failed : Bool) (h : Foot P r s) [Named P .regs] [Named P .inlet] [Named P .aeA] [Named P .aeB] [Named P .skink] [Named P .gecko] : Foot P r (State.divergeDone s failed) := by
  unfold State.divergeDone
  try extract_lets
  repeat' first
    | with_reducible assumption | with_reducible apply updSkink_foot | with_reducible apply offerDiverge_foot | with_reducible apply foldl_foot
    | with_reducible apply ite_foot | intro _ | split | contradiction | dsimp only
    | refine Foot.upd ?_ rfl (.inr rfl) (.inr rfl) (.inr rfl) (.inr rfl) (.inr rfl) Foot.named Foot.named (.inr rfl) (.inr rfl) (.inr rfl) (.inr rfl) (.inr rfl) (.inr rfl) (.inr rfl) (.inr rfl) (.inr rfl) (.inr rfl) (.inr rfl) (.inr rfl) (.inr rfl) (.inr rfl) (.inr rfl) (.inr rfl) (.inr rfl)

theorem updOutlet_foot (s : State) (f : Outlet → Outlet) (h : Foot P r s) [Named P .outlet] : Foot P r (State.updOutlet s f) := by
  unfold State.updOutlet
  try extract_lets
  repeat' first
    | with_reducible assumption | with_reducible apply foldl_foot | with_reducible apply ite_foot | intro _ | split | contradiction | dsimp only
    | refine Foot.upd ?_ rfl (.inr rfl) (.inr rfl) (.inr rfl) (.inr rfl) (.inr rfl) (.inr rfl) (.inr rfl) Foot.named (.inr rfl) (.inr rfl) (.inr rfl) (.inr rfl) (.inr rfl) (.inr rfl) (.inr rfl) (.inr rfl) (.inr rfl) (.inr rfl) (.inr rfl) (.inr rfl) (.inr rfl) (.inr rfl) (.inr rfl) (.inr rfl)

theorem setChain_foot (s : State) (e : EngineId) (c : Chain) (h : Foot P r s) [Named P .outlet] : Foot P r (State.setChain s e c) := by
  unfold State.setChain
  try extract_lets
  repeat' first
    | with_reducible assumption | with_reducible apply updOutlet_foot | with_reducible apply foldl_foot | with_reducible apply ite_foot | intro _
    | split | contradiction | dsimp only

theorem legacyPut_foot (s : State) (v : Event) (h : Foot P r s) [Named P .regs] [Named P .outlet] : Foot P r (State.legacyPut s v) := by
  unfold State.legacyPut
  try extract_lets
  repeat' first
    | with_reducible assumption | with_reducible apply updOutlet_foot | with_reducible apply raise_foot | with_reducible apply bump_foot
    | with_reducible apply foldl_foot | with_reducible apply ite_foot | intro _ | split | contradiction | dsimp only

theorem publish_foot (s : State) (cs : List Event) (h : Foot P r s) [Named P .outlet] : Foot P r (State.publish s cs) := by
  unfold State.publish
  try extract_lets
  repeat' first
    | with_reducible assumption | with_reducible apply updOutlet_foot | with_reducible apply foldl_foot | with_reducible apply ite_foot | intro _
    | split | contradiction | dsimp only

theorem eventTrigger_foot (s : State) (v : Event) (h : Foot P r s) [Named P .regs] [Named P .spawn] : Foot P r (State.eventTrigger s v) := by
  unfold State.eventTrigger
  try extract_lets
  repeat' first
    | with_reducible assumption | with_reducible apply trigger_foot | with_reducible apply foldl_foot | with_reducible apply ite_foot | intro _
    | split | contradiction | dsimp only

theorem noteRelease_foot (s : State) (v : Event) (h : Foot P r s) [Named P .regs] : Foot P r (State.noteRelease s v) := by
  unfold State.noteRelease
  try extract_lets
  repeat' first
    | with_reducible assumption | with_reducible apply bump_foot | with_reducible apply setPair_foot | with_reducible apply foldl_foot
    | with_reducible apply ite_foot | intro _ | split | contradiction | dsimp only

theorem mismatch_foot (s : State) (v : Event) (h : Foot P r s) [Named P .regs] [Named P .inlet] [Named P .aeA] [Named P .aeB] [Named P .outlet] [Named P .hif] [Named P .skink] [Named P .spawn] [Named P .fe] [Named P .dio] [Named P .can] [Named P .canWalk] [Named P .gecko] : Foot P r (State.mismatch s v) := by
  unfold State.mismatch
  try extract_lets
  repeat' first
    | with_reducible assumption | with_reducible apply setPair_foot | with_reducible apply raise_foot | with_reducible apply bump_foot
    | with_reducible apply pointMismatch_foot | with_reducible apply failCore_foot | with_reducible apply foldl_foot | with_reducible apply ite_foot
    | intro _ | split | contradiction | dsimp only

theorem releaseOne_foot (s : State) (m : Merge) (h : Foot P r s) [Named P .regs] [Named P .inlet] [Named P .aeA] [Named P .aeB] [Named P .outlet] [Named P .hif] [Named P .skink] [Named P .spawn] [Named P .fe] [Named P .dio] [Named P .can] [Named P .canWalk] [Named P .gecko] : Foot P r (State.releaseOne s m) := by
  unfold State.releaseOne
  dsimp only
  repeat' first
    | with_reducible assumption | with_reducible apply updOutlet_foot | with_reducible apply mismatch_foot | with_reducible apply failCore_foot
    | with_reducible apply lineWritten_foot | with_reducible apply eventTrigger_foot | with_reducible apply publish_foot
    | with_reducible apply legacyPut_foot | with_reducible apply noteRelease_foot | with_reducible apply foldl_foot | with_reducible apply ite_foot
    | intro _ | split | contradiction | dsimp only

theorem releaseReady_foot (n : Nat) (s : State) (h : Foot P r s) [Named P .regs] [Named P .inlet] [Named P .aeA] [Named P .aeB] [Named P .outlet] [Named P .hif] [Named P .skink] [Named P .spawn] [Named P .fe] [Named P .dio] [Named P .can] [Named P .canWalk] [Named P .gecko] : Foot P r (State.releaseReady n s) := by
  induction n generalizing s with
  | zero => exact h
  | succ n ih =>
    unfold State.releaseReady
    split
    · exact h
    · split
      · exact ih _ (releaseOne_foot _ _ h)
      · exact h

theorem release_foot (s : State) (h : Foot P r s) [Named P .regs] [Named P .inlet] [Named P .aeA] [Named P .aeB] [Named P .outlet] [Named P .hif] [Named P .skink] [Named P .spawn] [Named P .fe] [Named P .dio] [Named P .can] [Named P .canWalk] [Named P .gecko] : Foot P r (State.release s) := by
  unfold State.release
  try extract_lets
  repeat' first
    | with_reducible assumption | with_reducible apply releaseReady_foot | with_reducible apply foldl_foot | with_reducible apply ite_foot | intro _
    | split | contradiction | dsimp only

theorem failEngine_foot (s : State) (e : EngineId) (cause : Nat) (h : Foot P r s) [Named P .regs] [Named P .inlet] [Named P .aeA] [Named P .aeB] [Named P .outlet] [Named P .hif] [Named P .skink] [Named P .spawn] [Named P .fe] [Named P .dio] [Named P .can] [Named P .canWalk] [Named P .gecko] : Foot P r (State.failEngine s e cause) := by
  unfold State.failEngine
  try extract_lets
  repeat' first
    | with_reducible assumption | with_reducible apply release_foot | with_reducible apply failCore_foot | with_reducible apply foldl_foot
    | with_reducible apply ite_foot | intro _ | split | contradiction | dsimp only

theorem takeCopy_foot (s : State) (e : EngineId) (h : Foot P r s) [Named P .regs] [Named P .aeA] [Named P .aeB] [Named P .outlet] : Foot P r (State.takeCopy s e) := by
  unfold State.takeCopy
  try extract_lets
  repeat' first
    | with_reducible assumption | with_reducible apply updEng_foot | with_reducible apply setChain_foot | with_reducible apply raise_foot
    | with_reducible apply bump_foot | with_reducible apply updOutlet_foot | with_reducible apply foldl_foot | with_reducible apply ite_foot | intro _
    | split | contradiction | dsimp only

theorem copyArrives_foot (s : State) (e : EngineId) (h : Foot P r s) [Named P .regs] [Named P .inlet] [Named P .aeA] [Named P .aeB] [Named P .outlet] [Named P .hif] [Named P .skink] [Named P .spawn] [Named P .fe] [Named P .dio] [Named P .can] [Named P .canWalk] [Named P .gecko] : Foot P r (State.copyArrives s e) := by
  unfold State.copyArrives
  try extract_lets
  repeat' first
    | with_reducible assumption | with_reducible apply release_foot | with_reducible apply takeCopy_foot | with_reducible apply foldl_foot
    | with_reducible apply ite_foot | intro _ | split | contradiction | dsimp only

theorem deliver_foot (s : State) (ring : Nat) (h : Foot P r s) [Named P .regs] [Named P .outlet] [Named P .hif] : Foot P r (State.deliver s ring) := by
  unfold State.deliver
  try extract_lets
  repeat' first
    | with_reducible assumption | with_reducible apply postEntry_foot | with_reducible apply updOutlet_foot | with_reducible apply foldl_foot
    | with_reducible apply ite_foot | intro _ | split | contradiction | dsimp only

theorem eventsConsumed_foot (s : State) (ring : Nat) (n : Nat) (h : Foot P r s) [Named P .regs] [Named P .inlet] [Named P .aeA] [Named P .aeB] [Named P .outlet] [Named P .hif] [Named P .skink] [Named P .spawn] [Named P .fe] [Named P .dio] [Named P .can] [Named P .canWalk] [Named P .gecko] : Foot P r (State.eventsConsumed s ring n) := by
  unfold State.eventsConsumed
  try extract_lets
  repeat' first
    | with_reducible assumption | with_reducible apply release_foot | with_reducible apply updOutlet_foot | with_reducible apply foldl_foot
    | with_reducible apply ite_foot | intro _ | split | contradiction | dsimp only

theorem eventsRewrite_foot (s : State) (ring : Nat) (h : Foot P r s) [Named P .outlet] : Foot P r (State.eventsRewrite s ring) := by
  unfold State.eventsRewrite
  try extract_lets
  repeat' first
    | with_reducible assumption | with_reducible apply updOutlet_foot | with_reducible apply foldl_foot | with_reducible apply ite_foot | intro _
    | split | contradiction | dsimp only

theorem eventCredit_foot (s : State) (e : EngineId) (h : Foot P r s) [Named P .regs] [Named P .aeA] [Named P .aeB] [Named P .outlet] : Foot P r (State.eventCredit s e) := by
  unfold State.eventCredit
  try extract_lets
  repeat' first
    | with_reducible assumption | with_reducible apply takeCopy_foot | with_reducible apply foldl_foot | with_reducible apply ite_foot | intro _
    | split | contradiction | dsimp only

theorem put_foot (s : State) (e : EngineId) (v : Event) (h : Foot P r s) [Named P .regs] [Named P .aeA] [Named P .aeB] [Named P .outlet] : Foot P r (State.put s e v) := by
  unfold State.put
  try extract_lets
  repeat' first
    | with_reducible assumption | with_reducible apply eventCredit_foot | with_reducible apply setEng_foot | with_reducible apply bump_foot
    | with_reducible apply foldl_foot | with_reducible apply ite_foot | intro _ | split | contradiction | dsimp only

theorem putNode_foot (s : State) (e : EngineId) (v : Event) (h : Foot P r s) [Named P .regs] [Named P .aeA] [Named P .aeB] [Named P .outlet] : Foot P r (State.putNode s e v) := by
  unfold State.putNode
  try extract_lets
  repeat' first
    | with_reducible assumption | with_reducible apply put_foot | with_reducible apply updEng_foot | with_reducible apply raise_foot
    | with_reducible apply bump_foot | with_reducible apply foldl_foot | with_reducible apply ite_foot | intro _ | split | contradiction | dsimp only

theorem putSeal_foot (s : State) (e : EngineId) (r1 : InRec) (cause : Byte) (h : Foot P r s) [Named P .regs] [Named P .aeA] [Named P .aeB] [Named P .outlet] : Foot P r (State.putSeal s e r1 cause) := by
  unfold State.putSeal
  try extract_lets
  repeat' first
    | with_reducible assumption | with_reducible apply put_foot | with_reducible apply updEng_foot | with_reducible apply putNode_foot
    | with_reducible apply foldl_foot | with_reducible apply ite_foot | intro _ | split | contradiction | dsimp only

theorem countCustody_foot (s : State) (e : EngineId) (r1 : InRec) (custody : Bool) (h : Foot P r s) [Named P .regs] [Named P .aeA] [Named P .aeB] [Named P .outlet] : Foot P r (State.countCustody s e r1 custody) := by
  unfold State.countCustody
  try extract_lets
  repeat' first
    | with_reducible assumption | with_reducible apply updEng_foot | with_reducible apply putSeal_foot | with_reducible apply foldl_foot
    | with_reducible apply ite_foot | intro _ | split | contradiction | dsimp only

theorem putGroup_foot (s : State) (e : EngineId) (v : Event) (h : Foot P r s) [Named P .regs] [Named P .aeA] [Named P .aeB] [Named P .outlet] : Foot P r (State.putGroup s e v) := by
  unfold State.putGroup
  try extract_lets
  repeat' first
    | with_reducible assumption | with_reducible apply put_foot | with_reducible apply updEng_foot | with_reducible apply raise_foot
    | with_reducible apply bump_foot | with_reducible apply foldl_foot | with_reducible apply ite_foot | intro _ | split | contradiction | dsimp only

theorem setPt_foot (s : State) (e : EngineId) (r1 : InRec) (p : Nat) (y : PtState) (h : Foot P r s) [Named P .aeA] [Named P .aeB] [Named P .gecko] : Foot P r (State.setPt s e r1 p y) := by
  unfold State.setPt
  try extract_lets
  repeat' first
    | with_reducible assumption | with_reducible apply updEng_foot | with_reducible apply lineWritten_foot | with_reducible apply foldl_foot
    | with_reducible apply ite_foot | intro _ | split | contradiction | dsimp only

theorem pointEvent_foot (s : State) (e : EngineId) (r1 : InRec) (p : Nat) (prio : Nat) (custody : Bool) (type : Byte) (stNew : Byte) (stOld : Byte) (h : Foot P r s) [Named P .regs] [Named P .aeA] [Named P .aeB] [Named P .outlet] [Named P .gecko] : Foot P r (State.pointEvent s e r1 p prio custody type stNew stOld) := by
  unfold State.pointEvent
  try extract_lets
  repeat' first
    | with_reducible assumption | with_reducible apply setPt_foot | with_reducible apply countCustody_foot | with_reducible apply put_foot
    | with_reducible apply bump_foot | with_reducible apply raise_foot | with_reducible apply foldl_foot | with_reducible apply ite_foot | intro _
    | split | contradiction | dsimp only

theorem sweepNotice_foot (s : State) (e : EngineId) (r1 : InRec) (p : Nat) (prio : Nat) (custody : Bool) (h : Foot P r s) [Named P .regs] [Named P .aeA] [Named P .aeB] [Named P .outlet] [Named P .gecko] : Foot P r (State.sweepNotice s e r1 p prio custody) := by
  unfold State.sweepNotice
  try extract_lets
  repeat' first
    | with_reducible assumption | with_reducible apply setPt_foot | with_reducible apply countCustody_foot | with_reducible apply put_foot
    | with_reducible apply foldl_foot | with_reducible apply ite_foot | intro _ | split | contradiction | dsimp only

theorem setGr_foot (s : State) (e : EngineId) (g : Nat) (y : GrState) (h : Foot P r s) [Named P .aeA] [Named P .aeB] [Named P .gecko] : Foot P r (State.setGr s e g y) := by
  unfold State.setGr
  try extract_lets
  repeat' first
    | with_reducible assumption | with_reducible apply updEng_foot | with_reducible apply lineWritten_foot | with_reducible apply foldl_foot
    | with_reducible apply ite_foot | intro _ | split | contradiction | dsimp only

theorem updGr_foot (s : State) (e : EngineId) (g : Nat) (f : GrState → GrState) (h : Foot P r s) [Named P .aeA] [Named P .aeB] [Named P .gecko] : Foot P r (State.updGr s e g f) := by
  unfold State.updGr
  try extract_lets
  repeat' first
    | with_reducible assumption | with_reducible apply setGr_foot | with_reducible apply foldl_foot | with_reducible apply ite_foot | intro _ | split
    | contradiction | dsimp only

theorem noteInvalid_foot (s : State) (e : EngineId) (raw : List Byte) (n : Nat) (h : Foot P r s) [Named P .regs] : Foot P r (State.noteInvalid s e raw n) := by
  unfold State.noteInvalid
  try extract_lets
  repeat' first
    | with_reducible assumption | with_reducible apply bump_foot | with_reducible apply foldl_foot | with_reducible apply ite_foot | intro _ | split
    | contradiction | dsimp only

theorem noteGroup_foot (s : State) (e : EngineId) (g : Nat) (h : Foot P r s) [Named P .regs] : Foot P r (State.noteGroup s e g) := by
  unfold State.noteGroup
  try extract_lets
  repeat' first
    | with_reducible assumption | with_reducible apply noteInvalid_foot | with_reducible apply foldl_foot | with_reducible apply ite_foot | intro _
    | split | contradiction | dsimp only

theorem newAlarm_foot (s : State) (e : EngineId) (r1 : InRec) (p : Nat) (c : PCfg) (stNew : Byte) (stOld : Byte) (h : Foot P r s) [Named P .regs] [Named P .aeA] [Named P .aeB] [Named P .outlet] [Named P .gecko] : Foot P r (State.newAlarm s e r1 p c stNew stOld) := by
  unfold State.newAlarm
  try extract_lets
  repeat' first
    | with_reducible assumption | with_reducible apply noteGroup_foot | with_reducible apply updGr_foot | with_reducible apply putGroup_foot
    | with_reducible apply updEng_foot | with_reducible apply foldl_foot | with_reducible apply ite_foot | intro _ | split | contradiction
    | dsimp only

theorem report__foot (s : State) (e : EngineId) (r1 : InRec) (p : Nat) (c : PCfg) (y : PtState) (old : Byte) (alarm : Bool) (h : Foot P r s) [Named P .regs] [Named P .aeA] [Named P .aeB] [Named P .outlet] [Named P .gecko] : Foot P r (State.report_ s e r1 p c y old alarm) := by
  unfold State.report_
  try extract_lets
  repeat' first
    | with_reducible assumption | with_reducible apply setPt_foot | with_reducible apply pointEvent_foot | with_reducible apply newAlarm_foot
    | with_reducible apply foldl_foot | with_reducible apply ite_foot | intro _ | split | contradiction | dsimp only

theorem moveTo_foot (s : State) (e : EngineId) (r1 : InRec) (p : Nat) (c : PCfg) (x : PtState) (t : Byte) (h : Foot P r s) [Named P .regs] [Named P .aeA] [Named P .aeB] [Named P .outlet] [Named P .gecko] : Foot P r (State.moveTo s e r1 p c x t) := by
  unfold State.moveTo
  try extract_lets
  repeat' first
    | with_reducible assumption | with_reducible apply report__foot | with_reducible apply foldl_foot | with_reducible apply ite_foot | intro _
    | split | contradiction | dsimp only

theorem decide__foot (s : State) (e : EngineId) (r1 : InRec) (p : Nat) (c : PCfg) (d : Decision) (h : Foot P r s) [Named P .regs] [Named P .aeA] [Named P .aeB] [Named P .outlet] [Named P .gecko] : Foot P r (State.decide_ s e r1 p c d).1 := by
  unfold State.decide_
  try extract_lets
  repeat' first
    | with_reducible assumption | with_reducible apply setPt_foot | with_reducible apply moveTo_foot | with_reducible apply foldl_foot
    | with_reducible apply ite_foot | intro _ | split | contradiction | dsimp only

theorem applyInput_foot (s : State) (e : EngineId) (r1 : InRec) (p : Nat) (c : PCfg) (i : PtInput) (h : Foot P r s) [Named P .regs] [Named P .aeA] [Named P .aeB] [Named P .outlet] [Named P .gecko] : Foot P r (State.applyInput s e r1 p c i).1 := by
  unfold State.applyInput
  try extract_lets
  repeat' first
    | with_reducible assumption | with_reducible apply setPt_foot | with_reducible apply moveTo_foot | with_reducible apply decide__foot
    | (with_reducible refine Eq.mp (congrArg (Foot P r) (congrArg Prod.fst ‹_ = (_, _)›)) (decide__foot ..)) | with_reducible apply foldl_foot
    | with_reducible apply ite_foot | intro _ | split | contradiction | dsimp only

theorem rateStep_foot (s : State) (e : EngineId) (r1 : InRec) (p : Nat) (c : PCfg) (h : Foot P r s) [Named P .regs] [Named P .aeA] [Named P .aeB] [Named P .outlet] [Named P .gecko] : Foot P r (State.rateStep s e r1 p c).1 := by
  unfold State.rateStep
  try extract_lets
  repeat' first
    | with_reducible assumption | with_reducible apply decide__foot
    | (with_reducible refine Eq.mp (congrArg (Foot P r) (congrArg Prod.fst ‹_ = (_, _)›)) (decide__foot ..)) | with_reducible apply foldl_foot
    | with_reducible apply ite_foot | intro _ | split | contradiction | dsimp only

theorem delayTick_foot (s : State) (e : EngineId) (r1 : InRec) (p : Nat) (c : PCfg) (h : Foot P r s) [Named P .regs] [Named P .aeA] [Named P .aeB] [Named P .outlet] [Named P .gecko] : Foot P r (State.delayTick s e r1 p c) := by
  unfold State.delayTick
  try extract_lets
  repeat' first
    | with_reducible assumption | with_reducible apply setPt_foot | with_reducible apply moveTo_foot | with_reducible apply foldl_foot
    | with_reducible apply ite_foot | intro _ | split | contradiction | dsimp only

theorem endBlock_foot (s : State) (e : EngineId) (r1 : InRec) (p : Nat) (c : PCfg) (h : Foot P r s) [Named P .regs] [Named P .aeA] [Named P .aeB] [Named P .outlet] [Named P .gecko] : Foot P r (State.endBlock s e r1 p c) := by
  unfold State.endBlock
  try extract_lets
  repeat' first
    | with_reducible assumption | with_reducible apply report__foot | with_reducible apply foldl_foot | with_reducible apply ite_foot | intro _
    | split | contradiction | dsimp only

theorem blockStep_foot (s : State) (e : EngineId) (r1 : InRec) (p : Nat) (c : PCfg) (tick : Nat) (h : Foot P r s) [Named P .regs] [Named P .aeA] [Named P .aeB] [Named P .outlet] [Named P .gecko] : Foot P r (State.blockStep s e r1 p c tick) := by
  unfold State.blockStep
  try extract_lets
  repeat' first
    | with_reducible assumption | with_reducible apply endBlock_foot | with_reducible apply setPt_foot | with_reducible apply report__foot
    | with_reducible apply foldl_foot | with_reducible apply ite_foot | intro _ | split | contradiction | dsimp only

theorem endShelve_foot (s : State) (e : EngineId) (r1 : InRec) (p : Nat) (c : PCfg) (h : Foot P r s) [Named P .regs] [Named P .aeA] [Named P .aeB] [Named P .outlet] [Named P .gecko] : Foot P r (State.endShelve s e r1 p c) := by
  unfold State.endShelve
  try extract_lets
  repeat' first
    | with_reducible assumption | with_reducible apply report__foot | with_reducible apply foldl_foot | with_reducible apply ite_foot | intro _
    | split | contradiction | dsimp only

theorem shelveTick_foot (s : State) (e : EngineId) (r1 : InRec) (p : Nat) (c : PCfg) (h : Foot P r s) [Named P .regs] [Named P .aeA] [Named P .aeB] [Named P .outlet] [Named P .gecko] : Foot P r (State.shelveTick s e r1 p c) := by
  unfold State.shelveTick
  try extract_lets
  repeat' first
    | with_reducible assumption | with_reducible apply setPt_foot | with_reducible apply endShelve_foot | with_reducible apply foldl_foot
    | with_reducible apply ite_foot | intro _ | split | contradiction | dsimp only

theorem configFault_foot (s : State) (e : EngineId) (r1 : InRec) (p : Nat) (h : Foot P r s) [Named P .regs] [Named P .aeA] [Named P .aeB] [Named P .outlet] [Named P .gecko] : Foot P r (State.configFault s e r1 p) := by
  unfold State.configFault
  try extract_lets
  repeat' first
    | with_reducible assumption | with_reducible apply pointEvent_foot | with_reducible apply setPt_foot | with_reducible apply foldl_foot
    | with_reducible apply ite_foot | intro _ | split | contradiction | dsimp only

theorem sweepPoint_foot (s : State) (e : EngineId) (r1 : InRec) (tick : Nat) (p : Nat) (h : Foot P r s) [Named P .regs] [Named P .aeA] [Named P .aeB] [Named P .outlet] [Named P .gecko] : Foot P r (State.sweepPoint s e r1 tick p) := by
  unfold State.sweepPoint
  try extract_lets
  repeat' first
    | with_reducible assumption | with_reducible apply sweepNotice_foot | with_reducible apply configFault_foot
    | with_reducible apply noteInvalid_foot | with_reducible apply applyInput_foot
    | (with_reducible refine Eq.mp (congrArg (Foot P r) (congrArg Prod.fst ‹_ = (_, _)›)) (applyInput_foot ..)) | with_reducible apply rateStep_foot
    | (with_reducible refine Eq.mp (congrArg (Foot P r) (congrArg Prod.fst ‹_ = (_, _)›)) (rateStep_foot ..)) | with_reducible apply delayTick_foot
    | with_reducible apply blockStep_foot | with_reducible apply shelveTick_foot | with_reducible apply updEng_foot | with_reducible apply foldl_foot
    | with_reducible apply ite_foot | intro _ | split | contradiction | dsimp only

theorem sweepPoints_foot (s : State) (e : EngineId) (r1 : InRec) (upto : Nat) (h : Foot P r s) [Named P .regs] [Named P .aeA] [Named P .aeB] [Named P .outlet] [Named P .gecko] : Foot P r (State.sweepPoints s e r1 upto) := by
  unfold State.sweepPoints
  try extract_lets
  repeat' first
    | with_reducible assumption | with_reducible apply updEng_foot | with_reducible apply sweepPoint_foot | with_reducible apply foldl_foot
    | with_reducible apply ite_foot | intro _ | split | contradiction | dsimp only

theorem groupEvent_foot (s : State) (e : EngineId) (r1 : InRec) (g : Nat) (c : GCfg) (type : Byte) (stNew : Byte) (stOld : Byte) (sub : Nat) (value : Nat) (h : Foot P r s) [Named P .regs] [Named P .aeA] [Named P .aeB] [Named P .outlet] : Foot P r (State.groupEvent s e r1 g c type stNew stOld sub value) := by
  unfold State.groupEvent
  try extract_lets
  repeat' first
    | with_reducible assumption | with_reducible apply putGroup_foot | with_reducible apply foldl_foot | with_reducible apply ite_foot | intro _
    | split | contradiction | dsimp only

theorem markSwept_foot (s : State) (e : EngineId) (g : Nat) (h : Foot P r s) [Named P .aeA] [Named P .aeB] : Foot P r (State.markSwept s e g) := by
  unfold State.markSwept
  try extract_lets
  repeat' first
    | with_reducible assumption | with_reducible apply updEng_foot | with_reducible apply foldl_foot | with_reducible apply ite_foot | intro _ | split
    | contradiction | dsimp only

theorem groupState_foot (s : State) (e : EngineId) (r1 : InRec) (g : Nat) (c : GCfg) (h : Foot P r s) [Named P .regs] [Named P .aeA] [Named P .aeB] [Named P .outlet] : Foot P r (State.groupState s e r1 g c) := by
  unfold State.groupState
  try extract_lets
  repeat' first
    | with_reducible assumption | with_reducible apply markSwept_foot | with_reducible apply groupEvent_foot | with_reducible apply foldl_foot
    | with_reducible apply ite_foot | intro _ | split | contradiction | dsimp only

theorem sendFrames_foot (s : State) (e : EngineId) (g : Nat) (fs : List (Nat × U32 × Nat)) (h : Foot P r s) [Named P .regs] [Named P .can] : Foot P r (State.sendFrames s e g fs) := by
  unfold State.sendFrames
  try extract_lets
  repeat' first
    | with_reducible assumption | with_reducible apply placeNode_foot
    | (with_reducible refine Eq.mp (congrArg (Foot P r) (congrArg Prod.fst ‹_ = (_, _)›)) (placeNode_foot ..)) | with_reducible apply bump_foot
    | with_reducible apply foldl_foot | with_reducible apply ite_foot | intro _ | split | contradiction | dsimp only

theorem countCall_foot (s : State) (e : EngineId) (st : Byte) (cause : Nat) (h : Foot P r s) [Named P .regs] : Foot P r (State.countCall s e st cause) := by
  unfold State.countCall
  try extract_lets
  repeat' first
    | with_reducible assumption | with_reducible apply bump_foot | with_reducible apply raise_foot | with_reducible apply foldl_foot
    | with_reducible apply ite_foot | intro _ | split | contradiction | dsimp only

theorem callTo_foot (s : State) (e : EngineId) (r1 : InRec) (g : Nat) (c : GCfg) (st : Byte) (cause : Nat) (timer : Nat) (h : Foot P r s) [Named P .regs] [Named P .aeA] [Named P .aeB] [Named P .outlet] [Named P .can] [Named P .gecko] : Foot P r (State.callTo s e r1 g c st cause timer) := by
  unfold State.callTo
  try extract_lets
  repeat' first
    | with_reducible assumption | with_reducible apply groupEvent_foot | with_reducible apply setGr_foot | with_reducible apply countCall_foot
    | with_reducible apply updEng_foot | with_reducible apply sendFrames_foot | with_reducible apply foldl_foot | with_reducible apply ite_foot
    | intro _ | split | contradiction | dsimp only

theorem press_foot (s : State) (e : EngineId) (r1 : InRec) (g : Nat) (c : GCfg) (h : Foot P r s) [Named P .regs] [Named P .aeA] [Named P .aeB] [Named P .outlet] [Named P .can] [Named P .gecko] : Foot P r (State.press s e r1 g c) := by
  unfold State.press
  try extract_lets
  repeat' first
    | with_reducible assumption | with_reducible apply updGr_foot | with_reducible apply callTo_foot | with_reducible apply foldl_foot
    | with_reducible apply ite_foot | intro _ | split | contradiction | dsimp only

theorem groupBlock_foot (s : State) (e : EngineId) (g : Nat) (c : GCfg) (tick : Nat) (h : Foot P r s) [Named P .aeA] [Named P .aeB] [Named P .gecko] : Foot P r (State.groupBlock s e g c tick) := by
  unfold State.groupBlock
  try extract_lets
  repeat' first
    | with_reducible assumption | with_reducible apply setGr_foot | with_reducible apply foldl_foot | with_reducible apply ite_foot | intro _ | split
    | contradiction | dsimp only

theorem floodStep_foot (s : State) (e : EngineId) (g : Nat) (c : GCfg) (tick : Nat) (h : Foot P r s) [Named P .regs] [Named P .aeA] [Named P .aeB] [Named P .gecko] : Foot P r (State.floodStep s e g c tick) := by
  unfold State.floodStep
  try extract_lets
  repeat' first
    | with_reducible assumption | with_reducible apply bumpView_foot | with_reducible apply setGr_foot | with_reducible apply foldl_foot
    | with_reducible apply ite_foot | intro _ | split | contradiction | dsimp only

theorem callTimers_foot (s : State) (e : EngineId) (r1 : InRec) (g : Nat) (c : GCfg) (tick : Nat) (h : Foot P r s) [Named P .regs] [Named P .aeA] [Named P .aeB] [Named P .outlet] [Named P .can] [Named P .gecko] : Foot P r (State.callTimers s e r1 g c tick) := by
  unfold State.callTimers
  try extract_lets
  repeat' first
    | with_reducible assumption | with_reducible apply callTo_foot | with_reducible apply updEng_foot | with_reducible apply setGr_foot
    | with_reducible apply sendFrames_foot | with_reducible apply foldl_foot | with_reducible apply ite_foot | intro _ | split | contradiction
    | dsimp only

theorem alarmStep_foot (s : State) (e : EngineId) (r1 : InRec) (g : Nat) (c : GCfg) (tick : Nat) (h : Foot P r s) [Named P .regs] [Named P .aeA] [Named P .aeB] [Named P .outlet] [Named P .can] [Named P .gecko] : Foot P r (State.alarmStep s e r1 g c tick) := by
  unfold State.alarmStep
  try extract_lets
  repeat' first
    | with_reducible assumption | with_reducible apply callTo_foot | with_reducible apply callTimers_foot | with_reducible apply foldl_foot
    | with_reducible apply ite_foot | intro _ | split | contradiction | dsimp only

theorem dmWarnNow_foot (s : State) (e : EngineId) (r1 : InRec) (g : Nat) (c : GCfg) (h : Foot P r s) [Named P .regs] [Named P .aeA] [Named P .aeB] [Named P .outlet] [Named P .gecko] : Foot P r (State.dmWarnNow s e r1 g c) := by
  unfold State.dmWarnNow
  try extract_lets
  repeat' first
    | with_reducible assumption | with_reducible apply groupState_foot | with_reducible apply updGr_foot | with_reducible apply foldl_foot
    | with_reducible apply ite_foot | intro _ | split | contradiction | dsimp only

theorem dmExpire_foot (s : State) (e : EngineId) (r1 : InRec) (g : Nat) (c : GCfg) (h : Foot P r s) [Named P .regs] [Named P .aeA] [Named P .aeB] [Named P .outlet] [Named P .can] [Named P .gecko] : Foot P r (State.dmExpire s e r1 g c) := by
  unfold State.dmExpire
  try extract_lets
  repeat' first
    | with_reducible assumption | with_reducible apply callTo_foot | with_reducible apply updGr_foot | with_reducible apply foldl_foot
    | with_reducible apply ite_foot | intro _ | split | contradiction | dsimp only

theorem deadmanStep_foot (s : State) (e : EngineId) (r1 : InRec) (g : Nat) (c : GCfg) (tick : Nat) (h : Foot P r s) [Named P .regs] [Named P .aeA] [Named P .aeB] [Named P .outlet] [Named P .can] [Named P .gecko] : Foot P r (State.deadmanStep s e r1 g c tick) := by
  unfold State.deadmanStep
  try extract_lets
  repeat' first
    | with_reducible assumption | with_reducible apply setGr_foot | with_reducible apply callTo_foot | with_reducible apply callTimers_foot
    | with_reducible apply dmWarnNow_foot | with_reducible apply dmExpire_foot | with_reducible apply foldl_foot | with_reducible apply ite_foot
    | intro _ | split | contradiction | dsimp only

theorem groupFault_foot (s : State) (e : EngineId) (r1 : InRec) (g : Nat) (c : GCfg) (h : Foot P r s) [Named P .regs] [Named P .aeA] [Named P .aeB] [Named P .outlet] [Named P .can] [Named P .gecko] : Foot P r (State.groupFault s e r1 g c) := by
  unfold State.groupFault
  try extract_lets
  repeat' first
    | with_reducible assumption | with_reducible apply groupState_foot | with_reducible apply setGr_foot | with_reducible apply updGr_foot
    | with_reducible apply callTo_foot | with_reducible apply foldl_foot | with_reducible apply ite_foot | intro _ | split | contradiction
    | dsimp only

theorem sweepGroup_foot (s : State) (e : EngineId) (r1 : InRec) (tick : Nat) (g : Nat) (h : Foot P r s) [Named P .regs] [Named P .aeA] [Named P .aeB] [Named P .outlet] [Named P .can] [Named P .gecko] : Foot P r (State.sweepGroup s e r1 tick g) := by
  unfold State.sweepGroup
  try extract_lets
  repeat' first
    | with_reducible assumption | with_reducible apply updGr_foot | with_reducible apply groupFault_foot | with_reducible apply noteInvalid_foot
    | with_reducible apply floodStep_foot | with_reducible apply groupBlock_foot | with_reducible apply groupState_foot
    | with_reducible apply deadmanStep_foot | with_reducible apply alarmStep_foot | with_reducible apply markSwept_foot
    | with_reducible apply foldl_foot | with_reducible apply ite_foot | intro _ | split | contradiction | dsimp only

theorem sweptPoints_foot (s : State) (e : EngineId) (r1 : InRec) (h : Foot P r s) [Named P .regs] [Named P .aeA] [Named P .aeB] [Named P .outlet] [Named P .gecko] : Foot P r (State.sweptPoints s e r1) := by
  unfold State.sweptPoints
  try extract_lets
  repeat' first
    | with_reducible assumption | with_reducible apply updEng_foot | with_reducible apply sweepPoints_foot | with_reducible apply foldl_foot
    | with_reducible apply ite_foot | intro _ | split | contradiction | dsimp only

theorem sweepGroups_foot (s : State) (e : EngineId) (r1 : InRec) (upto : Nat) (h : Foot P r s) [Named P .regs] [Named P .aeA] [Named P .aeB] [Named P .outlet] [Named P .can] [Named P .gecko] : Foot P r (State.sweepGroups s e r1 upto) := by
  unfold State.sweepGroups
  try extract_lets
  repeat' first
    | with_reducible assumption | with_reducible apply sweptPoints_foot | with_reducible apply updEng_foot | with_reducible apply sweepGroup_foot
    | with_reducible apply foldl_foot | with_reducible apply ite_foot | intro _ | split | contradiction | dsimp only

theorem refreshGroup_foot (s : State) (e : EngineId) (r1 : InRec) (g : Nat) (h : Foot P r s) [Named P .regs] [Named P .aeA] [Named P .aeB] [Named P .outlet] : Foot P r (State.refreshGroup s e r1 g) := by
  unfold State.refreshGroup
  try extract_lets
  repeat' first
    | with_reducible assumption | with_reducible apply groupEvent_foot | with_reducible apply noteGroup_foot | with_reducible apply noteInvalid_foot
    | with_reducible apply putGroup_foot | with_reducible apply foldl_foot | with_reducible apply ite_foot | intro _ | split | contradiction
    | dsimp only

theorem refreshNode_foot (s : State) (e : EngineId) (r1 : InRec) (h : Foot P r s) [Named P .regs] [Named P .aeA] [Named P .aeB] [Named P .outlet] : Foot P r (State.refreshNode s e r1) := by
  unfold State.refreshNode
  try extract_lets
  repeat' first
    | with_reducible assumption | with_reducible apply putNode_foot | with_reducible apply updEng_foot | with_reducible apply putSeal_foot
    | with_reducible apply foldl_foot | with_reducible apply ite_foot | intro _ | split | contradiction | dsimp only

theorem refresh_foot (s : State) (e : EngineId) (r1 : InRec) (h : Foot P r s) [Named P .regs] [Named P .aeA] [Named P .aeB] [Named P .outlet] : Foot P r (State.refresh s e r1) := by
  unfold State.refresh
  try extract_lets
  repeat' first
    | with_reducible assumption | with_reducible apply updEng_foot | with_reducible apply refreshGroup_foot | with_reducible apply refreshNode_foot
    | with_reducible apply foldl_foot | with_reducible apply ite_foot | intro _ | split | contradiction | dsimp only

theorem acceptGroup_foot (s : State) (e : EngineId) (r1 : InRec) (dis : List Nat) (sigs : List Nat) (g : Nat) (h : Foot P r s) [Named P .regs] [Named P .aeA] [Named P .aeB] [Named P .outlet] [Named P .can] [Named P .gecko] : Foot P r (State.acceptGroup s e r1 dis sigs g) := by
  unfold State.acceptGroup
  try extract_lets
  repeat' first
    | with_reducible assumption | with_reducible apply noteGroup_foot | with_reducible apply press_foot | with_reducible apply callTo_foot
    | with_reducible apply foldl_foot | with_reducible apply ite_foot | intro _ | split | contradiction | dsimp only

theorem acceptSources_foot (s : State) (e : EngineId) (r1 : InRec) (dis : List Nat) (sigs : List Nat) (h : Foot P r s) [Named P .regs] [Named P .aeA] [Named P .aeB] [Named P .outlet] [Named P .can] [Named P .gecko] : Foot P r (State.acceptSources s e r1 dis sigs) := by
  unfold State.acceptSources
  try extract_lets
  repeat' first
    | with_reducible assumption | with_reducible apply acceptGroup_foot | with_reducible apply foldl_foot | with_reducible apply ite_foot | intro _
    | split | contradiction | dsimp only

theorem resetHalf_foot (s : State) (e : EngineId) (r1 : InRec) (g : Nat) (c : GCfg) (event : Bool) (h : Foot P r s) [Named P .regs] [Named P .aeA] [Named P .aeB] [Named P .outlet] [Named P .gecko] : Foot P r (State.resetHalf s e r1 g c event) := by
  unfold State.resetHalf
  try extract_lets
  repeat' first
    | with_reducible assumption | with_reducible apply setGr_foot | with_reducible apply groupState_foot | with_reducible apply updEng_foot
    | with_reducible apply groupEvent_foot | with_reducible apply foldl_foot | with_reducible apply ite_foot | intro _ | split | contradiction
    | dsimp only

theorem groupAdjust_foot (s : State) (e : EngineId) (r1 : InRec) (g : Nat) (old : GCfg) (new : GCfg) (h : Foot P r s) [Named P .regs] [Named P .aeA] [Named P .aeB] [Named P .outlet] [Named P .can] [Named P .gecko] : Foot P r (State.groupAdjust s e r1 g old new) := by
  unfold State.groupAdjust
  try extract_lets
  repeat' first
    | with_reducible assumption | with_reducible apply updGr_foot | with_reducible apply callTo_foot | with_reducible apply foldl_foot
    | with_reducible apply ite_foot | intro _ | split | contradiction | dsimp only

theorem groupWritten_foot (s : State) (e : EngineId) (r1 : InRec) (g : Nat) (old : GCfg) (new : GCfg) (h : Foot P r s) [Named P .regs] [Named P .aeA] [Named P .aeB] [Named P .outlet] [Named P .can] [Named P .gecko] : Foot P r (State.groupWritten s e r1 g old new) := by
  unfold State.groupWritten
  try extract_lets
  repeat' first
    | with_reducible assumption | with_reducible apply resetHalf_foot | with_reducible apply groupAdjust_foot | with_reducible apply foldl_foot
    | with_reducible apply ite_foot | intro _ | split | contradiction | dsimp only

theorem noteMasks_foot (s : State) (h : Foot P r s) [Named P .regs] : Foot P r (State.noteMasks s) := by
  unfold State.noteMasks
  try extract_lets
  repeat' first
    | with_reducible assumption | with_reducible apply raise_foot | with_reducible apply foldl_foot | with_reducible apply ite_foot | intro _ | split
    | contradiction | dsimp only

theorem epochChange_foot (s : State) (e : EngineId) (r1 : InRec) (cause : Byte) (epoch : Nat) (h : Foot P r s) [Named P .regs] [Named P .aeA] [Named P .aeB] [Named P .outlet] : Foot P r (State.epochChange s e r1 cause epoch) := by
  unfold State.epochChange
  try extract_lets
  repeat' first
    | with_reducible assumption | with_reducible apply putNode_foot | with_reducible apply foldl_foot | with_reducible apply ite_foot | intro _
    | split | contradiction | dsimp only

theorem runStart_foot (s : State) (e : EngineId) (r1 : InRec) (h : Foot P r s) [Named P .regs] [Named P .aeA] [Named P .aeB] [Named P .outlet] : Foot P r (State.runStart s e r1) := by
  unfold State.runStart
  try extract_lets
  repeat' first
    | with_reducible assumption | with_reducible apply epochChange_foot | with_reducible apply updEng_foot | with_reducible apply foldl_foot
    | with_reducible apply ite_foot | intro _ | split | contradiction | dsimp only

theorem prune_foot (s : State) (h : Foot P r s) [Named P .inlet] : Foot P r (State.prune s) := by
  unfold State.prune
  try extract_lets
  repeat' first
    | with_reducible assumption | with_reducible apply foldl_foot | with_reducible apply ite_foot | intro _ | split | contradiction | dsimp only
    | refine Foot.upd ?_ rfl (.inr rfl) (.inr rfl) (.inr rfl) (.inr rfl) Foot.named (.inr rfl) (.inr rfl) (.inr rfl) (.inr rfl) (.inr rfl) (.inr rfl) (.inr rfl) (.inr rfl) (.inr rfl) (.inr rfl) (.inr rfl) (.inr rfl) (.inr rfl) (.inr rfl) (.inr rfl) (.inr rfl) (.inr rfl) (.inr rfl) (.inr rfl)

theorem cmdDone_foot (s : State) (e : EngineId) (isn : U64) (h : Foot P r s) [Named P .hif] : Foot P r (State.cmdDone s e isn) := by
  unfold State.cmdDone
  try extract_lets
  repeat' first
    | with_reducible assumption | with_reducible apply closeRunning_foot | with_reducible apply foldl_foot | with_reducible apply ite_foot | intro _
    | split | contradiction | dsimp only
    | refine Foot.upd ?_ rfl (.inr rfl) (.inr rfl) (.inr rfl) (.inr rfl) (.inr rfl) (.inr rfl) (.inr rfl) (.inr rfl) Foot.named (.inr rfl) (.inr rfl) (.inr rfl) (.inr rfl) (.inr rfl) (.inr rfl) (.inr rfl) (.inr rfl) (.inr rfl) (.inr rfl) (.inr rfl) (.inr rfl) (.inr rfl) (.inr rfl) (.inr rfl)

theorem replayed_foot (s : State) (isn : U64) (h : Foot P r s) [Named P .regs] [Named P .spawn] : Foot P r (State.replayed s isn) := by
  unfold State.replayed
  try extract_lets
  repeat' first
    | with_reducible assumption | with_reducible apply setPair_foot | with_reducible apply foldl_foot | with_reducible apply ite_foot | intro _
    | split | contradiction | dsimp only
    | refine Foot.upd ?_ rfl (.inr rfl) (.inr rfl) (.inr rfl) (.inr rfl) (.inr rfl) (.inr rfl) (.inr rfl) (.inr rfl) (.inr rfl) (.inr rfl) Foot.named (.inr rfl) (.inr rfl) (.inr rfl) (.inr rfl) (.inr rfl) (.inr rfl) (.inr rfl) (.inr rfl) (.inr rfl) (.inr rfl) (.inr rfl) (.inr rfl) (.inr rfl)

theorem evaluated_foot (s : State) (e : EngineId) (isn : U64) (h : Foot P r s) [Named P .regs] [Named P .inlet] [Named P .aeA] [Named P .aeB] [Named P .hif] [Named P .spawn] : Foot P r (State.evaluated s e isn) := by
  unfold State.evaluated
  try extract_lets
  repeat' first
    | with_reducible assumption | with_reducible apply bump_foot | with_reducible apply updEng_foot | with_reducible apply replayed_foot
    | with_reducible apply prune_foot | with_reducible apply cmdDone_foot | with_reducible apply foldl_foot | with_reducible apply ite_foot | intro _
    | split | contradiction | dsimp only

theorem evaluate_foot (s : State) (e : EngineId) (ok : InRec → Bool) (f : InRec → State → State) (h : Foot P r s) (h_f : ∀ x0 t, Foot P r t → Foot P r (f x0 t)) [Named P .regs] [Named P .inlet] [Named P .aeA] [Named P .aeB] [Named P .outlet] [Named P .hif] [Named P .skink] [Named P .spawn] [Named P .fe] [Named P .dio] [Named P .can] [Named P .canWalk] [Named P .gecko] : Foot P r (State.evaluate s e ok f) := by
  unfold State.evaluate
  try extract_lets
  repeat' first
    | with_reducible assumption | with_reducible apply h_f | with_reducible apply failEngine_foot | with_reducible apply evaluated_foot
    | with_reducible apply runStart_foot | with_reducible apply foldl_foot | with_reducible apply ite_foot | intro _ | split | contradiction
    | dsimp only

theorem feed_foot (s : State) (e : EngineId) (r1 : InRec) (type : Nat) (index : Nat) (input : PCfg → PtInput) (h : Foot P r s) [Named P .regs] [Named P .aeA] [Named P .aeB] [Named P .outlet] [Named P .gecko] : Foot P r (State.feed s e r1 type index input) := by
  unfold State.feed
  try extract_lets
  repeat' first
    | with_reducible assumption | with_reducible apply noteInvalid_foot | with_reducible apply applyInput_foot
    | (with_reducible refine Eq.mp (congrArg (Foot P r) (congrArg Prod.fst ‹_ = (_, _)›)) (applyInput_foot ..)) | with_reducible apply foldl_foot
    | with_reducible apply ite_foot | intro _ | split | contradiction | dsimp only

theorem onSample_foot (s : State) (e : EngineId) (r1 : InRec) (h : Foot P r s) [Named P .regs] [Named P .aeA] [Named P .aeB] [Named P .outlet] [Named P .gecko] : Foot P r (State.onSample s e r1) := by
  unfold State.onSample
  try extract_lets
  repeat' first
    | with_reducible assumption | with_reducible apply feed_foot | with_reducible apply foldl_foot | with_reducible apply ite_foot | intro _ | split
    | contradiction | dsimp only

theorem onDiChange_foot (s : State) (e : EngineId) (r1 : InRec) (h : Foot P r s) [Named P .regs] [Named P .aeA] [Named P .aeB] [Named P .outlet] [Named P .can] [Named P .gecko] : Foot P r (State.onDiChange s e r1) := by
  unfold State.onDiChange
  try extract_lets
  repeat' first
    | with_reducible assumption | with_reducible apply feed_foot | with_reducible apply acceptSources_foot | with_reducible apply foldl_foot
    | with_reducible apply ite_foot | intro _ | split | contradiction | dsimp only

theorem onCount_foot (s : State) (e : EngineId) (r1 : InRec) (h : Foot P r s) [Named P .regs] [Named P .aeA] [Named P .aeB] [Named P .outlet] [Named P .gecko] : Foot P r (State.onCount s e r1) := by
  unfold State.onCount
  try extract_lets
  repeat' first
    | with_reducible assumption | with_reducible apply feed_foot | with_reducible apply foldl_foot | with_reducible apply ite_foot | intro _ | split
    | contradiction | dsimp only

theorem onCanFrame_foot (s : State) (e : EngineId) (x : InRec) (h : Foot P r s) [Named P .regs] [Named P .aeA] [Named P .aeB] [Named P .outlet] [Named P .can] [Named P .gecko] : Foot P r (s.onCanFrame e x) := by
  unfold State.onCanFrame
  extract_lets id len
  refine acceptSources_foot _ _ _ _ _ ?_
  have key : ∀ (l : List Nat) (a : State × List Nat), Foot P r a.1 →
      Foot P r (l.foldl (fun (a : State × List Nat) k =>
        let (s, acc) := a
        let d := SigDef.ofBytes (s.tarnSee (Tarn.CAN_SIG + 16 * k) 16)
        let s := s.noteInvalid e d.raw 16
        match d.extract id len x.ext with
        | none => (s, acc)
        | some none => ((s.bumpView e Reg.CAN_SIG_FAULT_CNT).feed e x 4 k (fun _ => { bad := true }), acc)
        | some (some v) =>
          (s.feed e x 4 k (fun c => { value := c.scale v }),
            if F32.isFinite v && !F32.eq v 0 then acc ++ [k] else acc)) a).1 := by
    intro l
    induction l with
    | nil => exact fun a ha => ha
    | cons k l ih =>
      intro a ha
      rw [List.foldl_cons]
      apply ih
      obtain ⟨s, acc⟩ := a
      replace ha : Foot P r s := ha
      dsimp only
      split <;> dsimp only
      · exact noteInvalid_foot _ _ _ _ ha
      · exact feed_foot _ _ _ _ _ _ (bumpView_foot _ _ _ (noteInvalid_foot _ _ _ _ ha))
      · exact feed_foot _ _ _ _ _ _ (noteInvalid_foot _ _ _ _ ha)
  exact key _ _ h

theorem health_foot (s : State) (e : EngineId) (r1 : InRec) (atStatus : Bool) (h : Foot P r s) [Named P .regs] [Named P .aeA] [Named P .aeB] [Named P .outlet] : Foot P r (State.health s e r1 atStatus) := by
  unfold State.health
  try extract_lets
  repeat' first
    | with_reducible assumption | with_reducible apply putNode_foot | with_reducible apply foldl_foot | with_reducible apply ite_foot | intro _
    | split | contradiction | dsimp only

theorem enterTick_foot (s : State) (e : EngineId) (r1 : InRec) (h : Foot P r s) [Named P .regs] [Named P .aeA] [Named P .aeB] [Named P .outlet] : Foot P r (State.enterTick s e r1) := by
  unfold State.enterTick
  try extract_lets
  repeat' first
    | with_reducible assumption | with_reducible apply updEng_foot | with_reducible apply putNode_foot | with_reducible apply countCustody_foot
    | with_reducible apply foldl_foot | with_reducible apply ite_foot | intro _ | split | contradiction | dsimp only

theorem sealTick_foot (s : State) (e : EngineId) (r1 : InRec) (h : Foot P r s) [Named P .regs] [Named P .aeA] [Named P .aeB] [Named P .outlet] : Foot P r (State.sealTick s e r1) := by
  unfold State.sealTick
  try extract_lets
  repeat' first
    | with_reducible assumption | with_reducible apply putSeal_foot | with_reducible apply foldl_foot | with_reducible apply ite_foot | intro _
    | split | contradiction | dsimp only

theorem healthTick_foot (s : State) (e : EngineId) (r1 : InRec) (h : Foot P r s) [Named P .regs] [Named P .aeA] [Named P .aeB] [Named P .outlet] : Foot P r (State.healthTick s e r1) := by
  unfold State.healthTick
  try extract_lets
  repeat' first
    | with_reducible assumption | with_reducible apply health_foot | with_reducible apply foldl_foot | with_reducible apply ite_foot | intro _ | split
    | contradiction | dsimp only

theorem tickHash_foot (s : State) (e : EngineId) (r1 : InRec) (h : Foot P r s) [Named P .aeA] [Named P .aeB] : Foot P r (State.tickHash s e r1) := by
  unfold State.tickHash
  try extract_lets
  repeat' first
    | with_reducible assumption | with_reducible apply updEng_foot | with_reducible apply foldl_foot | with_reducible apply ite_foot | intro _ | split
    | contradiction | dsimp only

theorem tickRefresh_foot (s : State) (e : EngineId) (r1 : InRec) (h : Foot P r s) [Named P .regs] [Named P .aeA] [Named P .aeB] [Named P .outlet] [Named P .can] [Named P .gecko] : Foot P r (State.tickRefresh s e r1) := by
  unfold State.tickRefresh
  try extract_lets
  repeat' first
    | with_reducible assumption | with_reducible apply sweepGroups_foot | with_reducible apply updEng_foot | with_reducible apply refresh_foot
    | with_reducible apply tickHash_foot | with_reducible apply foldl_foot | with_reducible apply ite_foot | intro _ | split | contradiction
    | dsimp only

theorem tickHealth_foot (s : State) (e : EngineId) (r1 : InRec) (h : Foot P r s) [Named P .regs] [Named P .aeA] [Named P .aeB] [Named P .outlet] [Named P .can] [Named P .gecko] : Foot P r (State.tickHealth s e r1) := by
  unfold State.tickHealth
  try extract_lets
  repeat' first
    | with_reducible assumption | with_reducible apply tickRefresh_foot | with_reducible apply updEng_foot | with_reducible apply healthTick_foot
    | with_reducible apply foldl_foot | with_reducible apply ite_foot | intro _ | split | contradiction | dsimp only

theorem tickSeal_foot (s : State) (e : EngineId) (r1 : InRec) (h : Foot P r s) [Named P .regs] [Named P .aeA] [Named P .aeB] [Named P .outlet] [Named P .can] [Named P .gecko] : Foot P r (State.tickSeal s e r1) := by
  unfold State.tickSeal
  try extract_lets
  repeat' first
    | with_reducible assumption | with_reducible apply tickHealth_foot | with_reducible apply updEng_foot | with_reducible apply sealTick_foot
    | with_reducible apply foldl_foot | with_reducible apply ite_foot | intro _ | split | contradiction | dsimp only

theorem onTick_foot (s : State) (e : EngineId) (r1 : InRec) (h : Foot P r s) [Named P .regs] [Named P .aeA] [Named P .aeB] [Named P .outlet] [Named P .can] [Named P .gecko] [Named P .free] : Foot P r (State.onTick s e r1) := by
  unfold State.onTick
  dsimp only
  repeat' first
    | with_reducible assumption | with_reducible apply tickSeal_foot | with_reducible apply enterTick_foot | with_reducible apply draw_foot
    | (with_reducible refine Eq.mp (congrArg (Foot P r) (congrArg Prod.snd ‹_ = (_, _)›)) (draw_foot ..)) | with_reducible apply updEng_foot
    | with_reducible apply recordMax_foot | with_reducible apply foldl_foot | with_reducible apply ite_foot | intro _ | split | contradiction
    | dsimp only

theorem inTick_foot (s : State) (e : EngineId) (f : InRec → State → State) (h : Foot P r s) (h_f : ∀ x0 t, Foot P r t → Foot P r (f x0 t)) [Named P .regs] [Named P .inlet] [Named P .aeA] [Named P .aeB] [Named P .outlet] [Named P .hif] [Named P .skink] [Named P .spawn] [Named P .fe] [Named P .dio] [Named P .can] [Named P .canWalk] [Named P .gecko] : Foot P r (State.inTick s e f) := by
  unfold State.inTick
  try extract_lets
  repeat' first
    | with_reducible assumption | with_reducible apply h_f | with_reducible apply failEngine_foot | with_reducible apply enterTick_foot
    | with_reducible apply runStart_foot | with_reducible apply foldl_foot | with_reducible apply ite_foot | intro _ | split | contradiction
    | dsimp only

theorem ackPoint_foot (s : State) (e : EngineId) (r1 : InRec) (p : Nat) (h : Foot P r s) [Named P .regs] [Named P .aeA] [Named P .aeB] [Named P .outlet] [Named P .gecko] : Foot P r (State.ackPoint s e r1 p) := by
  unfold State.ackPoint
  try extract_lets
  repeat' first
    | with_reducible assumption | with_reducible apply noteInvalid_foot | with_reducible apply pointEvent_foot | with_reducible apply setPt_foot
    | with_reducible apply foldl_foot | with_reducible apply ite_foot | intro _ | split | contradiction | dsimp only

theorem evalAckPoint_foot (s : State) (e : EngineId) (r1 : InRec) (h : Foot P r s) [Named P .regs] [Named P .aeA] [Named P .aeB] [Named P .outlet] [Named P .gecko] : Foot P r (State.evalAckPoint s e r1).2 := by
  unfold State.evalAckPoint
  try extract_lets
  repeat' first
    | with_reducible assumption | with_reducible apply ackPoint_foot | with_reducible apply foldl_foot | with_reducible apply ite_foot | intro _
    | split | contradiction | dsimp only

theorem evalShelve_foot (s : State) (e : EngineId) (r1 : InRec) (h : Foot P r s) [Named P .regs] [Named P .aeA] [Named P .aeB] [Named P .outlet] [Named P .gecko] : Foot P r (State.evalShelve s e r1).2 := by
  unfold State.evalShelve
  try extract_lets
  repeat' first
    | with_reducible assumption | with_reducible apply noteInvalid_foot | with_reducible apply setPt_foot | with_reducible apply report__foot
    | with_reducible apply foldl_foot | with_reducible apply ite_foot | intro _ | split | contradiction | dsimp only

theorem evalUnshelve_foot (s : State) (e : EngineId) (r1 : InRec) (h : Foot P r s) [Named P .regs] [Named P .aeA] [Named P .aeB] [Named P .outlet] [Named P .gecko] : Foot P r (State.evalUnshelve s e r1).2 := by
  unfold State.evalUnshelve
  try extract_lets
  repeat' first
    | with_reducible assumption | with_reducible apply endShelve_foot | with_reducible apply noteInvalid_foot | with_reducible apply foldl_foot
    | with_reducible apply ite_foot | intro _ | split | contradiction | dsimp only

theorem force_foot (s : State) (e : EngineId) (r1 : InRec) (p : Nat) (c : PCfg) (v : F32) (h : Foot P r s) [Named P .regs] [Named P .aeA] [Named P .aeB] [Named P .outlet] [Named P .gecko] : Foot P r (State.force s e r1 p c v) := by
  unfold State.force
  try extract_lets
  repeat' first
    | with_reducible assumption | with_reducible apply moveTo_foot | with_reducible apply setPt_foot | with_reducible apply report__foot
    | with_reducible apply foldl_foot | with_reducible apply ite_foot | intro _ | split | contradiction | dsimp only

theorem evalForcePoint_foot (s : State) (e : EngineId) (r1 : InRec) (h : Foot P r s) [Named P .regs] [Named P .aeA] [Named P .aeB] [Named P .outlet] [Named P .gecko] : Foot P r (State.evalForcePoint s e r1).2 := by
  unfold State.evalForcePoint
  try extract_lets
  repeat' first
    | with_reducible assumption | with_reducible apply noteInvalid_foot | with_reducible apply force_foot | with_reducible apply report__foot
    | with_reducible apply foldl_foot | with_reducible apply ite_foot | intro _ | split | contradiction | dsimp only

theorem evalPointRead_foot (s : State) (e : EngineId) (r1 : InRec) (h : Foot P r s) [Named P .hif] : Foot P r (State.evalPointRead s e r1).2 := by
  unfold State.evalPointRead
  try extract_lets
  repeat' first
    | with_reducible assumption | with_reducible apply foldl_foot | with_reducible apply ite_foot | intro _ | split | contradiction | dsimp only
    | refine Foot.upd ?_ rfl (.inr rfl) (.inr rfl) (.inr rfl) (.inr rfl) (.inr rfl) (.inr rfl) (.inr rfl) (.inr rfl) Foot.named (.inr rfl) (.inr rfl) (.inr rfl) (.inr rfl) (.inr rfl) (.inr rfl) (.inr rfl) (.inr rfl) (.inr rfl) (.inr rfl) (.inr rfl) (.inr rfl) (.inr rfl) (.inr rfl) (.inr rfl)

theorem ackMembers_foot (s : State) (e : EngineId) (r1 : InRec) (g : Nat) (h : Foot P r s) [Named P .regs] [Named P .aeA] [Named P .aeB] [Named P .outlet] [Named P .gecko] : Foot P r (State.ackMembers s e r1 g) := by
  unfold State.ackMembers
  try extract_lets
  repeat' first
    | with_reducible assumption | with_reducible apply noteInvalid_foot | with_reducible apply ackPoint_foot | with_reducible apply foldl_foot
    | with_reducible apply ite_foot | intro _ | split | contradiction | dsimp only

theorem evalAckGroup_foot (s : State) (e : EngineId) (r1 : InRec) (h : Foot P r s) [Named P .regs] [Named P .aeA] [Named P .aeB] [Named P .outlet] [Named P .can] [Named P .gecko] : Foot P r (State.evalAckGroup s e r1).2 := by
  unfold State.evalAckGroup
  try extract_lets
  repeat' first
    | with_reducible assumption | with_reducible apply noteGroup_foot | with_reducible apply ackMembers_foot | with_reducible apply callTo_foot
    | with_reducible apply foldl_foot | with_reducible apply ite_foot | intro _ | split | contradiction | dsimp only

theorem evalCallManual_foot (s : State) (e : EngineId) (r1 : InRec) (h : Foot P r s) [Named P .regs] [Named P .aeA] [Named P .aeB] [Named P .outlet] [Named P .can] [Named P .gecko] : Foot P r (State.evalCallManual s e r1).2 := by
  unfold State.evalCallManual
  try extract_lets
  repeat' first
    | with_reducible assumption | with_reducible apply noteGroup_foot | with_reducible apply callTo_foot | with_reducible apply foldl_foot
    | with_reducible apply ite_foot | intro _ | split | contradiction | dsimp only

theorem evalCallSilence_foot (s : State) (e : EngineId) (r1 : InRec) (h : Foot P r s) [Named P .regs] [Named P .aeA] [Named P .aeB] [Named P .outlet] [Named P .can] [Named P .gecko] : Foot P r (State.evalCallSilence s e r1).2 := by
  unfold State.evalCallSilence
  try extract_lets
  repeat' first
    | with_reducible assumption | with_reducible apply noteGroup_foot | with_reducible apply callTo_foot | with_reducible apply foldl_foot
    | with_reducible apply ite_foot | intro _ | split | contradiction | dsimp only

theorem evalDeadmanReset_foot (s : State) (e : EngineId) (r1 : InRec) (h : Foot P r s) [Named P .regs] [Named P .aeA] [Named P .aeB] [Named P .outlet] [Named P .can] [Named P .gecko] : Foot P r (State.evalDeadmanReset s e r1).2 := by
  unfold State.evalDeadmanReset
  try extract_lets
  repeat' first
    | with_reducible assumption | with_reducible apply noteGroup_foot | with_reducible apply press_foot | with_reducible apply foldl_foot
    | with_reducible apply ite_foot | intro _ | split | contradiction | dsimp only

theorem evalCmd_foot (s : State) (e : EngineId) (opcode : Nat) (f : InRec → State → Eval) (h : Foot P r s)
    (h_f : ∀ x t, Foot P r t → Foot P r (f x t).2) [Named P .regs] [Named P .inlet] [Named P .aeA] [Named P .aeB] [Named P .outlet] [Named P .hif] [Named P .skink] [Named P .spawn] [Named P .fe] [Named P .dio] [Named P .can] [Named P .canWalk] [Named P .gecko] : Foot P r (s.evalCmd e opcode f) := by
  unfold State.evalCmd
  refine evaluate_foot _ _ _ _ h (fun x t ht => ?_)
  have hx := h_f x t ht
  rcases e : f x t with ⟨st, u⟩
  rw [e] at hx
  exact Foot.upd hx rfl (.inr rfl) (.inr rfl) (.inr rfl) (.inr rfl) (.inr rfl) (.inr rfl) (.inr rfl) (.inr rfl) Foot.named (.inr rfl) (.inr rfl) (.inr rfl) (.inr rfl) (.inr rfl) (.inr rfl) (.inr rfl) (.inr rfl) (.inr rfl) (.inr rfl) (.inr rfl) (.inr rfl) (.inr rfl) (.inr rfl) (.inr rfl)

theorem evalOp_foot (s : State) (op : Nat) (e : EngineId) (r1 : InRec) (h : Foot P r s) [Named P .regs] [Named P .aeA] [Named P .aeB] [Named P .outlet] [Named P .hif] [Named P .can] [Named P .gecko] : Foot P r (State.evalOp s op e r1).2 := by
  unfold State.evalOp
  try extract_lets
  repeat' first
    | with_reducible assumption | with_reducible apply evalPointRead_foot
    | (with_reducible refine Eq.mp (congrArg (Foot P r) (congrArg Prod.snd ‹_ = (_, _)›)) (evalPointRead_foot ..))
    | with_reducible apply evalAckPoint_foot
    | (with_reducible refine Eq.mp (congrArg (Foot P r) (congrArg Prod.snd ‹_ = (_, _)›)) (evalAckPoint_foot ..))
    | with_reducible apply evalAckGroup_foot
    | (with_reducible refine Eq.mp (congrArg (Foot P r) (congrArg Prod.snd ‹_ = (_, _)›)) (evalAckGroup_foot ..))
    | with_reducible apply evalShelve_foot | (with_reducible refine Eq.mp (congrArg (Foot P r) (congrArg Prod.snd ‹_ = (_, _)›)) (evalShelve_foot ..))
    | with_reducible apply evalUnshelve_foot
    | (with_reducible refine Eq.mp (congrArg (Foot P r) (congrArg Prod.snd ‹_ = (_, _)›)) (evalUnshelve_foot ..))
    | with_reducible apply evalForcePoint_foot
    | (with_reducible refine Eq.mp (congrArg (Foot P r) (congrArg Prod.snd ‹_ = (_, _)›)) (evalForcePoint_foot ..))
    | with_reducible apply evalCallManual_foot
    | (with_reducible refine Eq.mp (congrArg (Foot P r) (congrArg Prod.snd ‹_ = (_, _)›)) (evalCallManual_foot ..))
    | with_reducible apply evalCallSilence_foot
    | (with_reducible refine Eq.mp (congrArg (Foot P r) (congrArg Prod.snd ‹_ = (_, _)›)) (evalCallSilence_foot ..))
    | with_reducible apply evalDeadmanReset_foot
    | (with_reducible refine Eq.mp (congrArg (Foot P r) (congrArg Prod.snd ‹_ = (_, _)›)) (evalDeadmanReset_foot ..))
    | with_reducible apply foldl_foot | with_reducible apply ite_foot | intro _ | split | contradiction | dsimp only

theorem fillMark_foot (s : State) (isn : U64) (ext : List Byte) (h : Foot P r s) [Named P .inlet] [Named P .spawn] : Foot P r (State.fillMark s isn ext) := by
  unfold State.fillMark
  try extract_lets
  repeat' first
    | with_reducible assumption | with_reducible apply updSpawn_foot | with_reducible apply foldl_foot | with_reducible apply ite_foot | intro _
    | split | contradiction | dsimp only
    | refine Foot.upd ?_ rfl (.inr rfl) (.inr rfl) (.inr rfl) (.inr rfl) Foot.named (.inr rfl) (.inr rfl) (.inr rfl) (.inr rfl) (.inr rfl) (.inr rfl) (.inr rfl) (.inr rfl) (.inr rfl) (.inr rfl) (.inr rfl) (.inr rfl) (.inr rfl) (.inr rfl) (.inr rfl) (.inr rfl) (.inr rfl) (.inr rfl) (.inr rfl)

theorem evalMark_foot (s : State) (e : EngineId) (h : Foot P r s) [Named P .regs] [Named P .inlet] [Named P .aeA] [Named P .aeB] [Named P .outlet] [Named P .hif] [Named P .skink] [Named P .spawn] [Named P .fe] [Named P .dio] [Named P .can] [Named P .canWalk] [Named P .gecko] : Foot P r (State.evalMark s e) := by
  unfold State.evalMark
  try extract_lets
  repeat' first
    | with_reducible assumption | with_reducible apply runStart_foot | with_reducible apply fillMark_foot | with_reducible apply updSpawn_foot
    | with_reducible apply lineWritten_foot | with_reducible apply evaluated_foot | with_reducible apply updEng_foot
    | with_reducible apply setRegFld_foot | with_reducible apply failEngine_foot | with_reducible apply foldl_foot | with_reducible apply ite_foot
    | intro _ | split | contradiction | dsimp only

theorem takeStatus_foot (s : State) (e : EngineId) (r1 : InRec) (h : Foot P r s) [Named P .regs] [Named P .aeA] [Named P .aeB] : Foot P r (State.takeStatus s e r1) := by
  unfold State.takeStatus
  try extract_lets
  repeat' first
    | with_reducible assumption | with_reducible apply setReg_foot | with_reducible apply updEng_foot | with_reducible apply foldl_foot
    | with_reducible apply ite_foot | intro _ | split | contradiction | dsimp only

theorem divergeReads_foot (s : State) (e : EngineId) (arg : U32) (h : Foot P r s) [Named P .regs] : Foot P r (State.divergeReads s e arg) := by
  unfold State.divergeReads
  try extract_lets
  repeat' first
    | with_reducible assumption | with_reducible apply noteInvalid_foot | with_reducible apply foldl_foot | with_reducible apply ite_foot | intro _
    | split | contradiction | dsimp only

theorem onDiverge_foot (s : State) (e : EngineId) (r1 : InRec) (h : Foot P r s) [Named P .regs] [Named P .inlet] [Named P .aeA] [Named P .aeB] [Named P .outlet] [Named P .skink] [Named P .gecko] : Foot P r (State.onDiverge s e r1) := by
  unfold State.onDiverge
  try extract_lets
  repeat' first
    | with_reducible assumption | with_reducible apply putNode_foot | with_reducible apply divergeReads_foot | with_reducible apply bump_foot
    | with_reducible apply updEng_foot | with_reducible apply divergeDone_foot | with_reducible apply foldl_foot | with_reducible apply ite_foot
    | intro _ | split | contradiction | dsimp only

theorem resetPoint_foot (s : State) (e : EngineId) (r1 : InRec) (p : Nat) (prio : Nat) (custody : Bool) (st : Byte) (h : Foot P r s) [Named P .regs] [Named P .aeA] [Named P .aeB] [Named P .outlet] [Named P .gecko] : Foot P r (State.resetPoint s e r1 p prio custody st) := by
  unfold State.resetPoint
  try extract_lets
  repeat' first
    | with_reducible assumption | with_reducible apply pointEvent_foot | with_reducible apply setPt_foot | with_reducible apply foldl_foot
    | with_reducible apply ite_foot | intro _ | split | contradiction | dsimp only

theorem onRepair_foot (s : State) (e : EngineId) (r1 : InRec) (h : Foot P r s) [Named P .regs] [Named P .aeA] [Named P .aeB] [Named P .outlet] [Named P .gecko] : Foot P r (State.onRepair s e r1) := by
  unfold State.onRepair
  try extract_lets
  repeat' first
    | with_reducible assumption | with_reducible apply resetHalf_foot | with_reducible apply noteGroup_foot | with_reducible apply noteInvalid_foot
    | with_reducible apply resetPoint_foot | with_reducible apply foldl_foot | with_reducible apply ite_foot | intro _ | split | contradiction
    | dsimp only

theorem onSourceGap_foot (s : State) (e : EngineId) (r1 : InRec) (h : Foot P r s) [Named P .regs] [Named P .aeA] [Named P .aeB] [Named P .outlet] : Foot P r (State.onSourceGap s e r1) := by
  unfold State.onSourceGap
  try extract_lets
  repeat' first
    | with_reducible assumption | with_reducible apply putNode_foot | with_reducible apply foldl_foot | with_reducible apply ite_foot | intro _
    | split | contradiction | dsimp only

theorem onStatus_foot (s : State) (e : EngineId) (r1 : InRec) (h : Foot P r s) [Named P .regs] [Named P .aeA] [Named P .aeB] [Named P .outlet] : Foot P r (State.onStatus s e r1) := by
  unfold State.onStatus
  try extract_lets
  repeat' first
    | with_reducible assumption | with_reducible apply health_foot | with_reducible apply takeStatus_foot | with_reducible apply foldl_foot
    | with_reducible apply ite_foot | intro _ | split | contradiction | dsimp only

theorem onCopy_foot (s : State) (e : EngineId) (r1 : InRec) (h : Foot P r s) [Named P .regs] [Named P .aeA] [Named P .aeB] [Named P .skink] : Foot P r (State.onCopy s e r1) := by
  unfold State.onCopy
  try extract_lets
  repeat' first
    | with_reducible assumption | with_reducible apply takeStatus_foot | with_reducible apply updSkink_foot | with_reducible apply updEng_foot
    | with_reducible apply foldl_foot | with_reducible apply ite_foot | intro _ | split | contradiction | dsimp only

theorem onAudit_foot (s : State) (e : EngineId) (r1 : InRec) (h : Foot P r s) [Named P .regs] [Named P .aeA] [Named P .aeB] : Foot P r (State.onAudit s e r1) := by
  unfold State.onAudit
  try extract_lets
  repeat' first
    | with_reducible assumption | with_reducible apply updEng_foot | with_reducible apply takeStatus_foot | with_reducible apply foldl_foot
    | with_reducible apply ite_foot | intro _ | split | contradiction | dsimp only

theorem onResync_foot (s : State) (e : EngineId) (r1 : InRec) (h : Foot P r s) [Named P .regs] [Named P .inlet] [Named P .aeA] [Named P .aeB] [Named P .outlet] [Named P .skink] [Named P .gecko] : Foot P r (State.onResync s e r1) := by
  unfold State.onResync
  try extract_lets
  repeat' first
    | with_reducible assumption | with_reducible apply onStatus_foot | with_reducible apply onCopy_foot | with_reducible apply onAudit_foot
    | with_reducible apply onDiverge_foot | with_reducible apply takeStatus_foot | with_reducible apply onRepair_foot
    | with_reducible apply foldl_foot | with_reducible apply ite_foot | intro _ | split | contradiction | dsimp only

theorem onRecord_foot (s : State) (e : EngineId) (r1 : InRec) (h : Foot P r s) [Named P .regs] [Named P .inlet] [Named P .aeA] [Named P .aeB] [Named P .outlet] [Named P .skink] [Named P .can] [Named P .gecko] [Named P .free] : Foot P r (State.onRecord s e r1) := by
  unfold State.onRecord
  try extract_lets
  repeat' first
    | with_reducible assumption | with_reducible apply onSample_foot | with_reducible apply onDiChange_foot | with_reducible apply onCount_foot
    | with_reducible apply onCanFrame_foot | with_reducible apply onTick_foot | with_reducible apply onSourceGap_foot
    | with_reducible apply onResync_foot | with_reducible apply putSeal_foot | with_reducible apply foldl_foot | with_reducible apply ite_foot
    | intro _ | split | contradiction | dsimp only

theorem evalNext_foot (s : State) (e : EngineId) (h : Foot P r s) [Named P .regs] [Named P .inlet] [Named P .aeA] [Named P .aeB] [Named P .outlet] [Named P .hif] [Named P .skink] [Named P .spawn] [Named P .fe] [Named P .dio] [Named P .can] [Named P .canWalk] [Named P .gecko] [Named P .free] : Foot P r (State.evalNext s e) := by
  unfold State.evalNext
  try extract_lets
  repeat' first
    | with_reducible assumption | with_reducible apply evalMark_foot | with_reducible apply evalCmd_foot | with_reducible apply evalOp_foot
    | (with_reducible refine Eq.mp (congrArg (Foot P r) (congrArg Prod.snd ‹_ = (_, _)›)) (evalOp_foot ..)) | with_reducible apply evaluate_foot
    | with_reducible apply onRecord_foot | with_reducible apply foldl_foot | with_reducible apply ite_foot | intro _ | split | contradiction
    | dsimp only

theorem pointAdjust_foot (s : State) (e : EngineId) (r1 : InRec) (p : Nat) (old : PCfg) (new : PCfg) (h : Foot P r s) [Named P .regs] [Named P .aeA] [Named P .aeB] [Named P .outlet] [Named P .gecko] : Foot P r (State.pointAdjust s e r1 p old new) := by
  unfold State.pointAdjust
  try extract_lets
  repeat' first
    | with_reducible assumption | with_reducible apply decide__foot
    | (with_reducible refine Eq.mp (congrArg (Foot P r) (congrArg Prod.fst ‹_ = (_, _)›)) (decide__foot ..)) | with_reducible apply setPt_foot
    | with_reducible apply delayTick_foot | with_reducible apply endShelve_foot | with_reducible apply foldl_foot | with_reducible apply ite_foot
    | intro _ | split | contradiction | dsimp only

theorem leaveGroup_foot (s : State) (e : EngineId) (p : Nat) (old : PCfg) (new : PCfg) (h : Foot P r s) [Named P .aeA] [Named P .aeB] [Named P .gecko] : Foot P r (State.leaveGroup s e p old new) := by
  unfold State.leaveGroup
  try extract_lets
  repeat' first
    | with_reducible assumption | with_reducible apply updGr_foot | with_reducible apply foldl_foot | with_reducible apply ite_foot | intro _ | split
    | contradiction | dsimp only

theorem pointWritten_foot (s : State) (e : EngineId) (r1 : InRec) (p : Nat) (old : PCfg) (new : PCfg) (h : Foot P r s) [Named P .regs] [Named P .aeA] [Named P .aeB] [Named P .outlet] [Named P .gecko] : Foot P r (State.pointWritten s e r1 p old new) := by
  unfold State.pointWritten
  try extract_lets
  repeat' first
    | with_reducible assumption | with_reducible apply leaveGroup_foot | with_reducible apply resetPoint_foot | with_reducible apply pointAdjust_foot
    | with_reducible apply foldl_foot | with_reducible apply ite_foot | intro _ | split | contradiction | dsimp only

theorem fetchMore_foot (s : State) (n : Nat) (h : Foot P r s) [Named P .hif] : Foot P r (State.fetchMore s n) := by
  unfold State.fetchMore
  try extract_lets
  repeat' first
    | with_reducible assumption | with_reducible apply emitOut_foot | with_reducible apply foldl_foot | with_reducible apply ite_foot | intro _
    | split | contradiction | dsimp only
    | refine Foot.upd ?_ rfl (.inr rfl) (.inr rfl) (.inr rfl) (.inr rfl) (.inr rfl) (.inr rfl) (.inr rfl) (.inr rfl) Foot.named (.inr rfl) (.inr rfl) (.inr rfl) (.inr rfl) (.inr rfl) (.inr rfl) (.inr rfl) (.inr rfl) (.inr rfl) (.inr rfl) (.inr rfl) (.inr rfl) (.inr rfl) (.inr rfl) (.inr rfl)

theorem takeHead_foot (s : State) (n : Nat) (h : Foot P r s) [Named P .regs] [Named P .hif] : Foot P r (s.takeHead n) :=
  fetchMore_foot _ _ (consume_foot _ _ h)

theorem done_foot (s : State) (d : Desc) (status : Nat) (result : U64) (h : Foot P r s) [Named P .hif] : Foot P r (State.done s d status result) := by
  unfold State.done
  try extract_lets
  repeat' first
    | with_reducible assumption | with_reducible apply complete_foot | with_reducible apply foldl_foot | with_reducible apply ite_foot | intro _
    | split | contradiction | dsimp only

theorem dirCmd_foot (s : State) (op : Nat) (f : Desc → State → State) (h : Foot P r s) (h_f : ∀ x0 t, Foot P r t → Foot P r (f x0 t)) [Named P .regs] [Named P .hif] : Foot P r (State.dirCmd s op f) := by
  unfold State.dirCmd
  try extract_lets
  repeat' first
    | with_reducible assumption | with_reducible apply h_f | with_reducible apply takeHead_foot | with_reducible apply done_foot
    | with_reducible apply foldl_foot | with_reducible apply ite_foot | intro _ | split | contradiction | dsimp only

theorem submit_foot (s : State) (u : CmdUnit) (h : Foot P r s) [Named P .inlet] [Named P .hif] : Foot P r (State.submit s u) := by
  unfold State.submit
  try extract_lets
  repeat' first
    | with_reducible assumption | with_reducible apply foldl_foot | with_reducible apply ite_foot | intro _ | split | contradiction | dsimp only
    | refine Foot.upd ?_ rfl (.inr rfl) (.inr rfl) (.inr rfl) (.inr rfl) Foot.named (.inr rfl) (.inr rfl) (.inr rfl) Foot.named (.inr rfl) (.inr rfl) (.inr rfl) (.inr rfl) (.inr rfl) (.inr rfl) (.inr rfl) (.inr rfl) (.inr rfl) (.inr rfl) (.inr rfl) (.inr rfl) (.inr rfl) (.inr rfl) (.inr rfl)

theorem recTake_foot (s : State) (op : Nat) (h : Foot P r s) [Named P .regs] [Named P .inlet] [Named P .hif] : Foot P r (State.recTake s op) := by
  unfold State.recTake
  try extract_lets
  repeat' first
    | with_reducible assumption | with_reducible apply takeHead_foot | with_reducible apply done_foot | with_reducible apply submit_foot
    | with_reducible apply foldl_foot | with_reducible apply ite_foot | intro _ | split | contradiction | dsimp only

theorem cfgTake_foot (s : State) (op : Nat) (check : Desc → State → Nat × State ⊕ CmdUnit) (h : Foot P r s)
    (hc : ∀ d t x, Foot P r t → check d t = .inl x → Foot P r x.2) [Named P .regs] [Named P .inlet] [Named P .hif] : Foot P r (s.cfgTake op check) := by
  unfold State.cfgTake
  split
  · exact h
  · next d _ =>
    extract_lets t
    have ht : Foot P r t := takeHead_foot _ _ h
    refine ite_foot _ _ _ (fun _ => h) fun _ => ite_foot _ _ _ (fun _ => done_foot _ _ _ _ ht) fun _ => ?_
    split
    · next st y e => exact done_foot _ _ _ _ (hc _ _ _ ht e)
    · exact submit_foot _ _ ht

theorem writeCompletion_foot (s : State) (h : Foot P r s) [Named P .regs] [Named P .hif] : Foot P r (State.writeCompletion s) := by
  unfold State.writeCompletion
  try extract_lets
  repeat' first
    | with_reducible assumption | with_reducible apply postEntry_foot | with_reducible apply foldl_foot | with_reducible apply ite_foot | intro _
    | split | contradiction | dsimp only
    | refine Foot.upd ?_ rfl (.inr rfl) (.inr rfl) (.inr rfl) (.inr rfl) (.inr rfl) (.inr rfl) (.inr rfl) (.inr rfl) Foot.named (.inr rfl) (.inr rfl) (.inr rfl) (.inr rfl) (.inr rfl) (.inr rfl) (.inr rfl) (.inr rfl) (.inr rfl) (.inr rfl) (.inr rfl) (.inr rfl) (.inr rfl) (.inr rfl) (.inr rfl)

theorem goodRx_foot (s : State) (n : Nat) (h : Foot P r s) [Named P .regs] [Named P .hif] [Named P .can] [Named P .gecko] [Named P .free] : Foot P r (State.goodRx s n) := by
  unfold State.goodRx
  try extract_lets
  repeat' first
    | with_reducible assumption | with_reducible apply setErr_foot | with_reducible apply draw_foot
    | (with_reducible refine Eq.mp (congrArg (Foot P r) (congrArg Prod.snd ‹_ = (_, _)›)) (draw_foot ..)) | with_reducible apply foldl_foot
    | with_reducible apply ite_foot | intro _ | split | contradiction | dsimp only

theorem canReceive_foot (s : State) (n : Nat) (f : CanFrame) (h : Foot P r s) [Named P .regs] [Named P .inlet] [Named P .hif] [Named P .can] [Named P .canWalk] [Named P .gecko] [Named P .free] : Foot P r (State.canReceive s n f) := by
  unfold State.canReceive
  try extract_lets
  repeat' first
    | with_reducible assumption | with_reducible apply bump_foot | with_reducible apply goodRx_foot | with_reducible apply updCan_foot
    | with_reducible apply markLoss_foot | with_reducible apply raise_foot | with_reducible apply foldl_foot | with_reducible apply ite_foot | intro _
    | split | contradiction | dsimp only
    | refine Foot.upd ?_ rfl (.inr rfl) (.inr rfl) (.inr rfl) (.inr rfl) (.inr rfl) (.inr rfl) (.inr rfl) (.inr rfl) (.inr rfl) (.inr rfl) (.inr rfl) (.inr rfl) (.inr rfl) (.inr rfl) Foot.named (.inr rfl) (.inr rfl) (.inr rfl) (.inr rfl) (.inr rfl) (.inr rfl) (.inr rfl) (.inr rfl) (.inr rfl)

theorem canExtract_foot (s : State) (n : Nat) (f : CanFrame) (time : U64) (e : FiltElem) (h : Foot P r s) [Named P .regs] [Named P .inlet] [Named P .gecko] : Foot P r (State.canExtract s n f time e) := by
  unfold State.canExtract
  try extract_lets
  repeat' first
    | with_reducible assumption | with_reducible apply bump_foot | with_reducible apply offer_foot | with_reducible apply raise_foot
    | with_reducible apply foldl_foot | with_reducible apply ite_foot | intro _ | split | contradiction | dsimp only

theorem canToRing_foot (s : State) (n : Nat) (f : CanFrame) (time : U64) (q : U32) (filter : Nat) (h : Foot P r s) [Named P .regs] [Named P .hif] [Named P .can] [Named P .gecko] : Foot P r (State.canToRing s n f time q filter) := by
  unfold State.canToRing
  try extract_lets
  repeat' first
    | with_reducible assumption | with_reducible apply canRing_foot
    | (with_reducible refine Eq.mp (congrArg (Foot P r) (congrArg Prod.fst ‹_ = (_, _)›)) (canRing_foot ..)) | with_reducible apply bump_foot
    | with_reducible apply foldl_foot | with_reducible apply ite_foot | intro _ | split | contradiction | dsimp only

theorem route_foot (s : State) (n : Nat) (f : CanFrame) (time : U64) (q : U32) (w : Walk) (h : Foot P r s) [Named P .regs] [Named P .inlet] [Named P .hif] [Named P .can] [Named P .gecko] : Foot P r (State.route s n f time q w) := by
  unfold State.route
  try extract_lets
  repeat' first
    | with_reducible assumption | with_reducible apply bump_foot | with_reducible apply canToRing_foot | with_reducible apply canExtract_foot
    | with_reducible apply foldl_foot | with_reducible apply ite_foot | intro _ | split | contradiction | dsimp only

theorem walkNext_foot (s : State) (h : Foot P r s) [Named P .regs] [Named P .inlet] [Named P .hif] [Named P .can] [Named P .canWalk] [Named P .gecko] : Foot P r (State.walkNext s) := by
  unfold State.walkNext
  try extract_lets
  repeat' first
    | with_reducible assumption | with_reducible apply updCan_foot | with_reducible apply recordMax_foot | with_reducible apply bump_foot
    | with_reducible apply raise_foot | with_reducible apply bumpBy_foot | with_reducible apply echoesDue_foot | with_reducible apply route_foot
    | with_reducible apply foldl_foot | with_reducible apply ite_foot | intro _ | split | contradiction | dsimp only
    | refine Foot.upd ?_ rfl (.inr rfl) (.inr rfl) (.inr rfl) (.inr rfl) (.inr rfl) (.inr rfl) (.inr rfl) (.inr rfl) (.inr rfl) (.inr rfl) (.inr rfl) (.inr rfl) (.inr rfl) (.inr rfl) Foot.named (.inr rfl) (.inr rfl) (.inr rfl) (.inr rfl) (.inr rfl) (.inr rfl) (.inr rfl) (.inr rfl) (.inr rfl)

theorem filtSettle_foot (s : State) (n : Nat) (h : Foot P r s) [Named P .regs] [Named P .can] : Foot P r (State.filtSettle s n) := by
  unfold State.filtSettle
  try extract_lets
  repeat' first
    | with_reducible assumption | with_reducible apply setCanStat_foot | with_reducible apply updCan_foot | with_reducible apply foldl_foot
    | with_reducible apply ite_foot | intro _ | split | contradiction | dsimp only

theorem attemptFails_foot (s : State) (n : Nat) (t : TxSlot) (code : Nat) (h : Foot P r s) [Named P .regs] [Named P .hif] [Named P .can] [Named P .gecko] : Foot P r (State.attemptFails s n t code) := by
  unfold State.attemptFails
  try extract_lets
  repeat' first
    | with_reducible assumption | with_reducible apply cancelEnds_foot | with_reducible apply txOutcome_foot | with_reducible apply freeTx_foot
    | with_reducible apply bump_foot | with_reducible apply updCan_foot | with_reducible apply foldl_foot | with_reducible apply ite_foot | intro _
    | split | contradiction | dsimp only

theorem noAck_foot (s : State) (n : Nat) (h : Foot P r s) [Named P .regs] : Foot P r (State.noAck s n) := by
  unfold State.noAck
  try extract_lets
  repeat' first
    | with_reducible assumption | with_reducible apply bump_foot | with_reducible apply setReg_foot | with_reducible apply raise_foot
    | with_reducible apply setCanStat_foot | with_reducible apply foldl_foot | with_reducible apply ite_foot | intro _ | split | contradiction
    | dsimp only

theorem acked_foot (s : State) (n : Nat) (h : Foot P r s) [Named P .regs] : Foot P r (State.acked s n) := by
  unfold State.acked
  try extract_lets
  repeat' first
    | with_reducible assumption | with_reducible apply canQuiet_foot | with_reducible apply raise_foot | with_reducible apply foldl_foot
    | with_reducible apply ite_foot | intro _ | split | contradiction | dsimp only

theorem txError_foot (s : State) (n : Nat) (h : Foot P r s) [Named P .regs] [Named P .hif] [Named P .can] [Named P .gecko] : Foot P r (State.txError s n) := by
  unfold State.txError
  try extract_lets
  repeat' first
    | with_reducible assumption | with_reducible apply setErr_foot | with_reducible apply foldl_foot | with_reducible apply ite_foot | intro _ | split
    | contradiction | dsimp only

theorem loopDelay_foot (s : State) (n : Nat) (t : TxSlot) (r1 : TxResult) (h : Foot P r s) [Named P .regs] [Named P .free] : Foot P r (State.loopDelay s n t r1) := by
  unfold State.loopDelay
  try extract_lets
  repeat' first
    | with_reducible assumption | with_reducible apply draw_foot
    | (with_reducible refine Eq.mp (congrArg (Foot P r) (congrArg Prod.snd ‹_ = (_, _)›)) (draw_foot ..)) | with_reducible apply setRegFld_foot
    | with_reducible apply foldl_foot | with_reducible apply ite_foot | intro _ | split | contradiction | dsimp only

theorem attemptEnd_foot (s : State) (n : Nat) (t : TxSlot) (r1 : TxResult) (h : Foot P r s) [Named P .regs] [Named P .hif] [Named P .can] [Named P .gecko] [Named P .free] : Foot P r (State.attemptEnd s n t r1) := by
  unfold State.attemptEnd
  dsimp only
  repeat' first
    | with_reducible assumption | with_reducible apply loopDelay_foot | with_reducible apply emitOut_foot | with_reducible apply acked_foot
    | with_reducible apply bump_foot | with_reducible apply setErr_foot | with_reducible apply txOutcome_foot | with_reducible apply freeTx_foot
    | with_reducible apply cancelEnds_foot | with_reducible apply noAck_foot | with_reducible apply errFrame_foot | with_reducible apply txError_foot
    | with_reducible apply attemptFails_foot | with_reducible apply canOff_foot | with_reducible apply canJoin_foot | with_reducible apply foldl_foot
    | with_reducible apply ite_foot | intro _ | split | contradiction | dsimp only

theorem attemptStart_foot (s : State) (n : Nat) (h : Foot P r s) [Named P .can] : Foot P r (State.attemptStart s n) := by
  unfold State.attemptStart
  try extract_lets
  repeat' first
    | with_reducible assumption | with_reducible apply updCan_foot | with_reducible apply foldl_foot | with_reducible apply ite_foot | intro _ | split
    | contradiction | dsimp only

theorem takeTx_foot (s : State) (n : Nat) (h : Foot P r s) [Named P .regs] [Named P .hif] : Foot P r (State.takeTx s n) := by
  unfold State.takeTx
  try extract_lets
  repeat' first
    | with_reducible assumption | with_reducible apply takeHead_foot | with_reducible apply setReg_foot | with_reducible apply foldl_foot
    | with_reducible apply ite_foot | intro _ | split | contradiction | dsimp only

theorem takeEntry_foot (s : State) (n : Nat) (h : Foot P r s) [Named P .regs] [Named P .hif] [Named P .can] [Named P .gecko] : Foot P r (State.takeEntry s n) := by
  unfold State.takeEntry
  try extract_lets
  repeat' first
    | with_reducible assumption | with_reducible apply takeTx_foot | with_reducible apply updCan_foot | with_reducible apply txOutcome_foot
    | with_reducible apply foldl_foot | with_reducible apply ite_foot | intro _ | split | contradiction | dsimp only

theorem cancelPrefetched_foot (s : State) (n : Nat) (hit : U16 → Bool) (h : Foot P r s) [Named P .regs] [Named P .hif] [Named P .can] [Named P .gecko] : Foot P r (State.cancelPrefetched s n hit).1 := by
  unfold State.cancelPrefetched
  try extract_lets
  repeat' first
    | with_reducible assumption | with_reducible apply advanceRing_foot | with_reducible apply setReg_foot | with_reducible apply txOutcome_foot
    | with_reducible apply fetchMore_foot | with_reducible apply foldl_foot | with_reducible apply ite_foot | intro _ | split | contradiction
    | dsimp only
    | refine Foot.upd ?_ rfl (.inr rfl) (.inr rfl) (.inr rfl) (.inr rfl) (.inr rfl) (.inr rfl) (.inr rfl) (.inr rfl) Foot.named (.inr rfl) (.inr rfl) (.inr rfl) (.inr rfl) (.inr rfl) (.inr rfl) (.inr rfl) (.inr rfl) (.inr rfl) (.inr rfl) (.inr rfl) (.inr rfl) (.inr rfl) (.inr rfl) (.inr rfl)

theorem cancel_foot (s : State) (d : Desc) (h : Foot P r s) [Named P .regs] [Named P .hif] [Named P .can] [Named P .gecko] : Foot P r (State.cancel s d) := by
  unfold State.cancel
  try extract_lets
  repeat' first
    | with_reducible assumption | with_reducible apply done_foot | with_reducible apply endFrames_foot | with_reducible apply cancelPrefetched_foot
    | (with_reducible refine Eq.mp (congrArg (Foot P r) (congrArg Prod.fst ‹_ = (_, _)›)) (cancelPrefetched_foot ..))
    | with_reducible apply defer_foot | with_reducible apply updCan_foot | with_reducible apply foldl_foot | with_reducible apply ite_foot | intro _
    | split | contradiction | dsimp only

theorem busOn_foot (s : State) (n : Nat) (h : Foot P r s) [Named P .regs] : Foot P r (State.busOn s n) := by
  unfold State.busOn
  try extract_lets
  repeat' first
    | with_reducible assumption | with_reducible apply setCanStat_foot | with_reducible apply canJoin_foot | with_reducible apply canRecover_foot
    | with_reducible apply foldl_foot | with_reducible apply ite_foot | intro _ | split | contradiction | dsimp only

theorem channelCtl_foot (s : State) (d : Desc) (h : Foot P r s) [Named P .regs] [Named P .hif] [Named P .can] [Named P .gecko] : Foot P r (State.channelCtl s d) := by
  unfold State.channelCtl
  dsimp only
  repeat' first
    | with_reducible assumption | with_reducible apply done_foot | with_reducible apply busOn_foot | with_reducible apply setCanStat_foot
    | with_reducible apply defer_foot | with_reducible apply updCan_foot | with_reducible apply canLeave_foot | with_reducible apply foldl_foot
    | with_reducible apply ite_foot | intro _ | split | contradiction | dsimp only

theorem setScan_foot (s : State) (lane : Nat) (p : Nat) (d : Nat) (en : Bool) (h : Foot P r s) [Named P .regs] : Foot P r (State.setScan s lane p d en) := by
  unfold State.setScan
  try extract_lets
  repeat' first
    | with_reducible assumption | with_reducible apply setReg_foot | with_reducible apply foldl_foot | with_reducible apply ite_foot | intro _ | split
    | contradiction | dsimp only

theorem xpRun_foot (s : State) (atStart : Bool) (h : Foot P r s) [Named P .regs] : Foot P r (State.xpRun s atStart) := by
  unfold State.xpRun
  try extract_lets
  repeat' first
    | with_reducible assumption | with_reducible apply setReg_foot | with_reducible apply foldl_foot | with_reducible apply ite_foot | intro _ | split
    | contradiction | dsimp only

theorem updDef_foot (s : State) (n : Nat) (f : DefState → DefState) (h : Foot P r s) [Named P .fe] : Foot P r (State.updDef s n f) := by
  unfold State.updDef
  try extract_lets
  repeat' first
    | with_reducible assumption | with_reducible apply foldl_foot | with_reducible apply ite_foot | intro _ | split | contradiction | dsimp only
    | refine Foot.upd ?_ rfl (.inr rfl) (.inr rfl) (.inr rfl) (.inr rfl) (.inr rfl) (.inr rfl) (.inr rfl) (.inr rfl) (.inr rfl) (.inr rfl) (.inr rfl) Foot.named (.inr rfl) (.inr rfl) (.inr rfl) (.inr rfl) (.inr rfl) (.inr rfl) (.inr rfl) (.inr rfl) (.inr rfl) (.inr rfl) (.inr rfl) (.inr rfl)

theorem unscan_foot (s : State) (lane : Nat) (n : Nat) (h : Foot P r s) [Named P .regs] : Foot P r (State.unscan s lane n) := by
  unfold State.unscan
  try extract_lets
  repeat' first
    | with_reducible assumption | with_reducible apply setScan_foot | with_reducible apply foldl_foot | with_reducible apply ite_foot | intro _
    | split | contradiction | dsimp only

theorem place_foot (s : State) (lane : Nat) (n : Nat) (h : Foot P r s) [Named P .regs] : Foot P r (State.place s lane n) := by
  unfold State.place
  try extract_lets
  repeat' first
    | with_reducible assumption | with_reducible apply setScan_foot | with_reducible apply foldl_foot | with_reducible apply ite_foot | intro _
    | split | contradiction | dsimp only

theorem vacate_foot (s : State) (lane : Nat) (n : Nat) (h : Foot P r s) [Named P .regs] : Foot P r (State.vacate s lane n) := by
  unfold State.vacate
  try extract_lets
  repeat' first
    | with_reducible assumption | with_reducible apply place_foot | with_reducible apply unscan_foot | with_reducible apply foldl_foot
    | with_reducible apply ite_foot | intro _ | split | contradiction | dsimp only

theorem rescan_foot (s : State) (n : Nat) (old : Nat) (new : Nat) (h : Foot P r s) [Named P .regs] : Foot P r (State.rescan s n old new) := by
  unfold State.rescan
  try extract_lets
  repeat' first
    | with_reducible assumption | with_reducible apply vacate_foot | with_reducible apply place_foot | with_reducible apply foldl_foot
    | with_reducible apply ite_foot | intro _ | split | contradiction | dsimp only

theorem eccRepair_foot (s : State) (o : Off) (h : Foot P r s) [Named P .tarn] : Foot P r (State.eccRepair s o) := by
  unfold State.eccRepair
  try extract_lets
  repeat' first
    | with_reducible assumption | with_reducible apply tarnWrite_foot | with_reducible apply foldl_foot | with_reducible apply ite_foot | intro _
    | split | contradiction | dsimp only

theorem applyUnit_foot (s : State) (u : CmdUnit) (h : Foot P r s) [Named P .tarn] : Foot P r (State.applyUnit s u) := by
  unfold State.applyUnit
  try extract_lets
  repeat' first
    | with_reducible assumption | with_reducible apply tarnWrite_foot | with_reducible apply eccRepair_foot | with_reducible apply foldl_foot
    | with_reducible apply ite_foot | intro _ | split | contradiction | dsimp only

theorem applyScan_foot (s : State) (u : CmdUnit) (h : Foot P r s) [Named P .regs] : Foot P r (State.applyScan s u) := by
  unfold State.applyScan
  try extract_lets
  repeat' first
    | with_reducible assumption | with_reducible apply rescan_foot | with_reducible apply foldl_foot | with_reducible apply ite_foot | intro _ | split
    | contradiction | dsimp only

theorem ahead_foot (s : State) (h : Foot P r s) [Named P .regs] [Named P .tarn] : Foot P r (State.ahead s) := by
  unfold State.ahead
  try extract_lets
  repeat' first
    | with_reducible assumption | with_reducible apply applyUnit_foot | with_reducible apply applyScan_foot | with_reducible apply foldl_foot
    | with_reducible apply ite_foot | intro _ | split | contradiction | dsimp only

theorem statusRec_foot (s : State) (h : Foot P r s) [Named P .inlet] : Foot P r (State.statusRec s).2 := by
  unfold State.statusRec
  try extract_lets
  repeat' first
    | with_reducible assumption | with_reducible apply takeSsn_foot
    | (with_reducible refine Eq.mp (congrArg (Foot P r) (congrArg Prod.snd ‹_ = (_, _)›)) (takeSsn_foot ..)) | with_reducible apply foldl_foot
    | with_reducible apply ite_foot | intro _ | split | contradiction | dsimp only

theorem ckptUnit_foot (s : State) (have_ : Nat) (bs : List Byte) (h : Foot P r s) [Named P .spawn] : Foot P r (State.ckptUnit s have_ bs) := by
  unfold State.ckptUnit
  try extract_lets
  repeat' first
    | with_reducible assumption | with_reducible apply updSpawn_foot | with_reducible apply foldl_foot | with_reducible apply ite_foot | intro _
    | split | contradiction | dsimp only

theorem statusNext_foot (s : State) (h : Foot P r s) [Named P .inlet] : Foot P r s.statusNext := by
  unfold State.statusNext
  split
  · exact Foot.upd h rfl (.inr rfl) (.inr rfl) (.inr rfl) (.inr rfl) Foot.named (.inr rfl) (.inr rfl) (.inr rfl) (.inr rfl) (.inr rfl) (.inr rfl) (.inr rfl) (.inr rfl) (.inr rfl) (.inr rfl) (.inr rfl) (.inr rfl) (.inr rfl) (.inr rfl) (.inr rfl) (.inr rfl) (.inr rfl) (.inr rfl) (.inr rfl)
  · have k := statusRec_foot s h
    rcases e : s.statusRec with ⟨st, u⟩
    rw [e] at k
    exact Foot.upd k rfl (.inr rfl) (.inr rfl) (.inr rfl) (.inr rfl) Foot.named (.inr rfl) (.inr rfl) (.inr rfl) (.inr rfl) (.inr rfl) (.inr rfl) (.inr rfl) (.inr rfl) (.inr rfl) (.inr rfl) (.inr rfl) (.inr rfl) (.inr rfl) (.inr rfl) (.inr rfl) (.inr rfl) (.inr rfl) (.inr rfl) (.inr rfl)

theorem markAdmitted_foot (s : State) (r1 : InRec) (h : Foot P r s) [Named P .regs] [Named P .inlet] [Named P .spawn] : Foot P r (State.markAdmitted s r1) := by
  unfold State.markAdmitted
  try extract_lets
  repeat' first
    | with_reducible assumption | with_reducible apply setPair_foot | with_reducible apply statusNext_foot | with_reducible apply updSpawn_foot
    | with_reducible apply foldl_foot | with_reducible apply ite_foot | intro _ | split | contradiction | dsimp only

theorem ckptStart_foot (s : State) (h : Foot P r s) [Named P .regs] [Named P .spawn] : Foot P r (State.ckptStart s) := by
  unfold State.ckptStart
  try extract_lets
  repeat' first
    | with_reducible assumption | with_reducible apply updSpawn_foot | with_reducible apply setRegBit_foot | with_reducible apply foldl_foot
    | with_reducible apply ite_foot | intro _ | split | contradiction | dsimp only

theorem spill_foot (s : State) (h : Foot P r s) [Named P .gecko] : Foot P r (State.spill s) := by
  unfold State.spill
  try extract_lets
  repeat' first
    | with_reducible assumption | with_reducible apply lineWritten_foot | with_reducible apply foldl_foot | with_reducible apply ite_foot | intro _
    | split | contradiction | dsimp only

theorem putInlet_foot (s : State) (x : Inlet) (h : Foot P r s) [Named P .inlet] : Foot P r { s with inlet := x } :=
  Foot.upd h rfl (.inr rfl) (.inr rfl) (.inr rfl) (.inr rfl) Foot.named (.inr rfl) (.inr rfl) (.inr rfl) (.inr rfl) (.inr rfl) (.inr rfl) (.inr rfl) (.inr rfl) (.inr rfl) (.inr rfl) (.inr rfl) (.inr rfl) (.inr rfl) (.inr rfl) (.inr rfl) (.inr rfl) (.inr rfl) (.inr rfl) (.inr rfl)

theorem putGecko_foot (s : State) (x : Gecko) (h : Foot P r s) [Named P .gecko] : Foot P r { s with gecko := x } :=
  Foot.upd h rfl (.inr rfl) (.inr rfl) (.inr rfl) (.inr rfl) (.inr rfl) (.inr rfl) (.inr rfl) (.inr rfl) (.inr rfl) (.inr rfl) (.inr rfl) (.inr rfl) (.inr rfl) (.inr rfl) (.inr rfl) (.inr rfl) (.inr rfl) (.inr rfl) (.inr rfl) (.inr rfl) Foot.named (.inr rfl) (.inr rfl) (.inr rfl)

theorem admitRec_foot (s : State) (r1 : InRec) (h : Foot P r s) [Named P .regs] [Named P .inlet] [Named P .spawn] [Named P .gecko] : Foot P r (State.admitRec s r1) := by
  unfold State.admitRec
  try extract_lets
  repeat' first
    | with_reducible assumption | with_reducible apply bump_foot | with_reducible apply spill_foot | with_reducible apply recordMax_foot
    | with_reducible apply ckptUnit_foot | with_reducible apply markAdmitted_foot | with_reducible apply journal_foot
    | with_reducible apply ckptStart_foot | with_reducible apply updSpawn_foot | with_reducible apply foldl_foot | with_reducible apply ite_foot
    | intro _ | split | contradiction | dsimp only
    | with_reducible apply putInlet_foot
    | with_reducible apply putGecko_foot

theorem admitGap_foot (s : State) (r1 : InRec) (expected : U16) (cause : Nat) (h : Foot P r s) [Named P .regs] [Named P .inlet] [Named P .spawn] [Named P .gecko] : Foot P r (State.admitGap s r1 expected cause) := by
  unfold State.admitGap
  try extract_lets
  repeat' first
    | with_reducible assumption | with_reducible apply admitRec_foot | with_reducible apply setReg_foot | with_reducible apply bumpBy_foot
    | with_reducible apply bump_foot | with_reducible apply raise_foot | with_reducible apply foldl_foot | with_reducible apply ite_foot | intro _
    | split | contradiction | dsimp only
    | with_reducible apply putInlet_foot

theorem admitSource_foot (s : State) (r1 : InRec) (h : Foot P r s) [Named P .regs] [Named P .inlet] [Named P .spawn] [Named P .gecko] : Foot P r (State.admitSource s r1) := by
  unfold State.admitSource
  try extract_lets
  repeat' first
    | with_reducible assumption | with_reducible apply admitGap_foot | with_reducible apply admitRec_foot | with_reducible apply foldl_foot
    | with_reducible apply ite_foot | intro _ | split | contradiction | dsimp only

theorem openBarrier_foot (s : State) (isn : U64) (u : CmdUnit) (h : Foot P r s) [Named P .regs] [Named P .inlet] : Foot P r (State.openBarrier s isn u) := by
  unfold State.openBarrier
  try extract_lets
  repeat' first
    | with_reducible assumption | with_reducible apply setReg_foot | with_reducible apply foldl_foot | with_reducible apply ite_foot | intro _ | split
    | contradiction | dsimp only
    | refine Foot.upd ?_ rfl (.inr rfl) (.inr rfl) (.inr rfl) (.inr rfl) Foot.named (.inr rfl) (.inr rfl) (.inr rfl) (.inr rfl) (.inr rfl) (.inr rfl) (.inr rfl) (.inr rfl) (.inr rfl) (.inr rfl) (.inr rfl) (.inr rfl) (.inr rfl) (.inr rfl) (.inr rfl) (.inr rfl) (.inr rfl) (.inr rfl) (.inr rfl)

theorem unitRec_foot (s : State) (u : CmdUnit) (h : Foot P r s) [Named P .inlet] : Foot P r (State.unitRec s u).2 := by
  unfold State.unitRec
  try extract_lets
  repeat' first
    | with_reducible assumption | with_reducible apply takeSsn_foot
    | (with_reducible refine Eq.mp (congrArg (Foot P r) (congrArg Prod.snd ‹_ = (_, _)›)) (takeSsn_foot ..)) | with_reducible apply foldl_foot
    | with_reducible apply ite_foot | intro _ | split | contradiction | dsimp only

theorem unitAdmitted_foot (s : State) (u : CmdUnit) (h : Foot P r s) [Named P .regs] [Named P .inlet] [Named P .hif] : Foot P r (State.unitAdmitted s u) := by
  unfold State.unitAdmitted
  try extract_lets
  repeat' first
    | with_reducible assumption | with_reducible apply openBarrier_foot | with_reducible apply foldl_foot | with_reducible apply ite_foot | intro _
    | split | contradiction | dsimp only
    | refine Foot.upd ?_ rfl (.inr rfl) (.inr rfl) (.inr rfl) (.inr rfl) (.inr rfl) (.inr rfl) (.inr rfl) (.inr rfl) Foot.named (.inr rfl) (.inr rfl) (.inr rfl) (.inr rfl) (.inr rfl) (.inr rfl) (.inr rfl) (.inr rfl) (.inr rfl) (.inr rfl) (.inr rfl) (.inr rfl) (.inr rfl) (.inr rfl) (.inr rfl)

theorem admitUnit_foot (s : State) (u : CmdUnit) (l : List CmdUnit) (h : Foot P r s) [Named P .regs] [Named P .inlet] [Named P .hif] [Named P .spawn] [Named P .gecko] : Foot P r (State.admitUnit s u l) := by
  unfold State.admitUnit
  try extract_lets
  repeat' first
    | with_reducible assumption | with_reducible apply unitRec_foot
    | (with_reducible refine Eq.mp (congrArg (Foot P r) (congrArg Prod.snd ‹_ = (_, _)›)) (unitRec_foot ..)) | with_reducible apply admitRec_foot
    | with_reducible apply unitAdmitted_foot | with_reducible apply foldl_foot | with_reducible apply ite_foot | intro _ | split | contradiction
    | dsimp only
    | with_reducible apply putInlet_foot

theorem admitCmd_foot (s : State) (h : Foot P r s) [Named P .regs] [Named P .inlet] [Named P .hif] [Named P .spawn] [Named P .gecko] : Foot P r (s.admitCmd.getD s) := by
  unfold State.admitCmd
  split
  · exact admitUnit_foot _ _ _ h
  · exact h

theorem geckoAdmitted_foot (s : State) (r1 : InRec) (h : Foot P r s) [Named P .regs] [Named P .inlet] [Named P .hif] : Foot P r (State.geckoAdmitted s r1) := by
  unfold State.geckoAdmitted
  try extract_lets
  repeat' first
    | with_reducible assumption | with_reducible apply finish_foot | with_reducible apply openBarrier_foot | with_reducible apply foldl_foot
    | with_reducible apply ite_foot | intro _ | split | contradiction | dsimp only

theorem admitPlace_foot (s : State) (pl : Nat) (h : Foot P r s) (t : State) (e : s.admitPlace pl = some t) [Named P .regs] [Named P .inlet] [Named P .hif] [Named P .spawn] [Named P .gecko] : Foot P r t := by
  unfold State.admitPlace at e
  split at e
  · simp at e
  · next x w hw =>
    simp only [Option.some.injEq] at e
    subst e
    have h1 : Foot P r { s with inlet := { s.inlet with waiting := w, rot := if pl < 58 then (pl + 1) % 58 else s.inlet.rot } } :=
      Foot.upd h rfl (.inr rfl) (.inr rfl) (.inr rfl) (.inr rfl) Foot.named (.inr rfl) (.inr rfl) (.inr rfl) (.inr rfl) (.inr rfl) (.inr rfl) (.inr rfl) (.inr rfl) (.inr rfl) (.inr rfl) (.inr rfl) (.inr rfl) (.inr rfl) (.inr rfl) (.inr rfl) (.inr rfl) (.inr rfl) (.inr rfl) (.inr rfl)
    split
    · exact geckoAdmitted_foot _ _ (admitSource_foot _ _ h1)
    · exact admitSource_foot _ _ h1

theorem findSome_foot (f : Nat → Option State) (l : List Nat) (hf : ∀ x t, f x = some t → Foot P r t) (t : State)
    (e : l.findSome? f = some t) : Foot P r t := by
  obtain ⟨x, _, hx⟩ := List.exists_of_findSome?_eq_some e
  exact hf x t hx

theorem admitNext_foot (s : State) (h : Foot P r s) [Named P .regs] [Named P .inlet] [Named P .hif] [Named P .spawn] [Named P .gecko] : Foot P r s.admitNext := by
  unfold State.admitNext
  split
  · exact admitRec_foot _ _ (Foot.upd h rfl (.inr rfl) (.inr rfl) (.inr rfl) (.inr rfl) Foot.named (.inr rfl) (.inr rfl) (.inr rfl) (.inr rfl) (.inr rfl) (.inr rfl) (.inr rfl) (.inr rfl) (.inr rfl) (.inr rfl) (.inr rfl) (.inr rfl) (.inr rfl) (.inr rfl) (.inr rfl) (.inr rfl) (.inr rfl) (.inr rfl) (.inr rfl))
  · split
    · exact admitCmd_foot _ h
    · split
      · next t e => exact findSome_foot _ _ (fun x t e => admitPlace_foot s x h t e) t e
      · split
        · next t e => have := admitCmd_foot s h; rw [e] at this; exact this
        · cases e : s.rotation.findSome? s.admitPlace with
          | none => exact h
          | some t => exact findSome_foot _ _ (fun x t e => admitPlace_foot s x h t e) t e

theorem creditCheck_foot (s : State) (h : Foot P r s) [Named P .regs] [Named P .inlet] [Named P .aeA] [Named P .aeB] [Named P .outlet] [Named P .hif] [Named P .skink] [Named P .spawn] [Named P .fe] [Named P .dio] [Named P .can] [Named P .canWalk] [Named P .gecko] : Foot P r (State.creditCheck s) := by
  unfold State.creditCheck
  try extract_lets
  repeat' first
    | with_reducible assumption | with_reducible apply failEngine_foot | with_reducible apply foldl_foot | with_reducible apply ite_foot | intro _
    | split | contradiction | dsimp only

theorem beginHold_foot (s : State) (h : Foot P r s) [Named P .regs] [Named P .inlet] : Foot P r (State.beginHold s) := by
  unfold State.beginHold
  try extract_lets
  repeat' first
    | with_reducible assumption | with_reducible apply bump_foot | with_reducible apply raise_foot | with_reducible apply foldl_foot
    | with_reducible apply ite_foot | intro _ | split | contradiction | dsimp only
    | refine Foot.upd ?_ rfl (.inr rfl) (.inr rfl) (.inr rfl) (.inr rfl) Foot.named (.inr rfl) (.inr rfl) (.inr rfl) (.inr rfl) (.inr rfl) (.inr rfl) (.inr rfl) (.inr rfl) (.inr rfl) (.inr rfl) (.inr rfl) (.inr rfl) (.inr rfl) (.inr rfl) (.inr rfl) (.inr rfl) (.inr rfl) (.inr rfl) (.inr rfl)

theorem admitRecord_foot (s : State) (h : Foot P r s) [Named P .regs] [Named P .inlet] [Named P .aeA] [Named P .aeB] [Named P .outlet] [Named P .hif] [Named P .skink] [Named P .spawn] [Named P .fe] [Named P .dio] [Named P .can] [Named P .canWalk] [Named P .gecko] : Foot P r (State.admitRecord s) := by
  unfold State.admitRecord
  try extract_lets
  repeat' first
    | with_reducible assumption | with_reducible apply creditCheck_foot | with_reducible apply beginHold_foot | with_reducible apply admitNext_foot
    | with_reducible apply foldl_foot | with_reducible apply ite_foot | intro _ | split | contradiction | dsimp only

theorem issueTick_foot (s : State) (h : Foot P r s) [Named P .regs] [Named P .inlet] [Named P .gecko] : Foot P r (State.issueTick s) := by
  unfold State.issueTick
  try extract_lets
  repeat' first
    | with_reducible assumption | with_reducible apply offer_foot | with_reducible apply foldl_foot | with_reducible apply ite_foot | intro _ | split
    | contradiction | dsimp only
    | refine Foot.upd ?_ rfl (.inr rfl) (.inr rfl) (.inr rfl) (.inr rfl) Foot.named (.inr rfl) (.inr rfl) (.inr rfl) (.inr rfl) (.inr rfl) (.inr rfl) (.inr rfl) (.inr rfl) (.inr rfl) (.inr rfl) (.inr rfl) (.inr rfl) (.inr rfl) (.inr rfl) (.inr rfl) (.inr rfl) (.inr rfl) (.inr rfl) (.inr rfl)

theorem updDio_foot (s : State) (f : Dio → Dio) (h : Foot P r s) [Named P .dio] : Foot P r (State.updDio s f) := by
  unfold State.updDio
  try extract_lets
  repeat' first
    | with_reducible assumption | with_reducible apply foldl_foot | with_reducible apply ite_foot | intro _ | split | contradiction | dsimp only
    | refine Foot.upd ?_ rfl (.inr rfl) (.inr rfl) (.inr rfl) (.inr rfl) (.inr rfl) (.inr rfl) (.inr rfl) (.inr rfl) (.inr rfl) (.inr rfl) (.inr rfl) (.inr rfl) Foot.named (.inr rfl) (.inr rfl) (.inr rfl) (.inr rfl) (.inr rfl) (.inr rfl) (.inr rfl) (.inr rfl) (.inr rfl) (.inr rfl) (.inr rfl)

theorem updBank_foot (s : State) (b : Nat) (f : Bank → Bank) (h : Foot P r s) [Named P .dio] : Foot P r (State.updBank s b f) := by
  unfold State.updBank
  try extract_lets
  repeat' first
    | with_reducible assumption | with_reducible apply updDio_foot | with_reducible apply foldl_foot | with_reducible apply ite_foot | intro _ | split
    | contradiction | dsimp only

theorem buildRequests_foot (s : State) (h : Foot P r s) [Named P .dio] : Foot P r (State.buildRequests s) := by
  unfold State.buildRequests
  try extract_lets
  repeat' first
    | with_reducible assumption | with_reducible apply updDio_foot | with_reducible apply foldl_foot | with_reducible apply ite_foot | intro _ | split
    | contradiction | dsimp only

theorem noteBlocked_foot (s : State) (h : Foot P r s) [Named P .regs] : Foot P r (State.noteBlocked s) := by
  unfold State.noteBlocked
  try extract_lets
  repeat' first
    | with_reducible assumption | with_reducible apply setPair_foot | with_reducible apply foldl_foot | with_reducible apply ite_foot | intro _
    | split | contradiction | dsimp only

theorem refreshed_foot (s : State) (b : Nat) (h : Foot P r s) [Named P .regs] [Named P .dio] : Foot P r (State.refreshed s b) := by
  unfold State.refreshed
  try extract_lets
  repeat' first
    | with_reducible assumption | with_reducible apply updBank_foot | with_reducible apply setRegBit_foot | with_reducible apply foldl_foot
    | with_reducible apply ite_foot | intro _ | split | contradiction | dsimp only

theorem applyImage_foot (s : State) (b : Nat) (h : Foot P r s) [Named P .dio] : Foot P r (State.applyImage s b) := by
  unfold State.applyImage
  try extract_lets
  repeat' first
    | with_reducible assumption | with_reducible apply updBank_foot | with_reducible apply foldl_foot | with_reducible apply ite_foot | intro _
    | split | contradiction | dsimp only

theorem frameOf_foot (s : State) (refresh : Bool) (b : Nat) (img : U16) (h : Foot P r s) [Named P .regs] [Named P .dio] : Foot P r (State.frameOf s refresh b img) := by
  unfold State.frameOf
  try extract_lets
  repeat' first
    | with_reducible assumption | with_reducible apply setReg_foot | with_reducible apply emitOut_foot | with_reducible apply updBank_foot
    | with_reducible apply refreshed_foot | with_reducible apply applyImage_foot | with_reducible apply foldl_foot | with_reducible apply ite_foot
    | intro _ | split | contradiction | dsimp only

theorem frameTo_foot (s : State) (refresh : Bool) (b : Nat) (h : Foot P r s) [Named P .regs] [Named P .dio] : Foot P r (State.frameTo s refresh b) := by
  unfold State.frameTo
  try extract_lets
  repeat' first
    | with_reducible assumption | with_reducible apply frameOf_foot | with_reducible apply foldl_foot | with_reducible apply ite_foot | intro _
    | split | contradiction | dsimp only

theorem frames_foot (s : State) (newt : Nat) (refresh : Bool) (h : Foot P r s) [Named P .regs] [Named P .dio] : Foot P r (State.frames s newt refresh) := by
  unfold State.frames
  try extract_lets
  repeat' first
    | with_reducible assumption | with_reducible apply frameTo_foot | with_reducible apply noteBlocked_foot | with_reducible apply buildRequests_foot
    | with_reducible apply foldl_foot | with_reducible apply ite_foot | intro _ | split | contradiction | dsimp only

theorem extraFrames_foot (s : State) (h : Foot P r s) [Named P .regs] [Named P .dio] : Foot P r (State.extraFrames s) := by
  unfold State.extraFrames
  try extract_lets
  repeat' first
    | with_reducible assumption | with_reducible apply frames_foot | with_reducible apply foldl_foot | with_reducible apply ite_foot | intro _ | split
    | contradiction | dsimp only

theorem tmoEdges_foot (before : State) (s : State) (h : Foot P r s) [Named P .regs] [Named P .dio] : Foot P r (State.tmoEdges before s) := by
  unfold State.tmoEdges
  try extract_lets
  repeat' first
    | with_reducible assumption | with_reducible apply extraFrames_foot | with_reducible apply foldl_foot | with_reducible apply ite_foot | intro _
    | split | contradiction | dsimp only

theorem countWait_foot (s : State) (n : Nat) (h : Foot P r s) [Named P .gecko] : Foot P r (State.countWait s n) := by
  unfold State.countWait
  try extract_lets
  repeat' first
    | with_reducible assumption | with_reducible apply foldl_foot | with_reducible apply ite_foot | intro _ | split | contradiction | dsimp only
    | refine Foot.upd ?_ rfl (.inr rfl) (.inr rfl) (.inr rfl) (.inr rfl) (.inr rfl) (.inr rfl) (.inr rfl) (.inr rfl) (.inr rfl) (.inr rfl) (.inr rfl) (.inr rfl) (.inr rfl) (.inr rfl) (.inr rfl) (.inr rfl) (.inr rfl) (.inr rfl) (.inr rfl) (.inr rfl) Foot.named (.inr rfl) (.inr rfl) (.inr rfl)

theorem pass_foot (s : State) (n : Nat) (h : Foot P r s) [Named P .regs] [Named P .hif] [Named P .spawn] [Named P .dio] [Named P .ws] [Named P .gecko] : Foot P r (State.pass s n) := by
  unfold State.pass
  try extract_lets
  repeat' first
    | with_reducible assumption | with_reducible apply tmoEdges_foot | with_reducible apply elapse_foot | with_reducible apply countWait_foot
    | with_reducible apply foldl_foot | with_reducible apply ite_foot | intro _ | split | contradiction | dsimp only

theorem newtRefresh_foot (s : State) (newt : Nat) (late : Bool) (h : Foot P r s) [Named P .regs] [Named P .skink] [Named P .dio] : Foot P r (State.newtRefresh s newt late) := by
  unfold State.newtRefresh
  try extract_lets
  repeat' first
    | with_reducible assumption | with_reducible apply bump_foot | with_reducible apply setRegBit_foot | with_reducible apply frames_foot
    | with_reducible apply raise_foot | with_reducible apply foldl_foot | with_reducible apply ite_foot | intro _ | split | contradiction | dsimp only
    | refine Foot.upd ?_ rfl (.inr rfl) (.inr rfl) (.inr rfl) (.inr rfl) (.inr rfl) (.inr rfl) (.inr rfl) (.inr rfl) (.inr rfl) Foot.named (.inr rfl) (.inr rfl) (.inr rfl) (.inr rfl) (.inr rfl) (.inr rfl) (.inr rfl) (.inr rfl) (.inr rfl) (.inr rfl) (.inr rfl) (.inr rfl) (.inr rfl) (.inr rfl)

theorem dioWrite_foot (s : State) (d : Desc) (h : Foot P r s) [Named P .regs] [Named P .hif] [Named P .dio] : Foot P r (State.dioWrite s d) := by
  unfold State.dioWrite
  try extract_lets
  repeat' first
    | with_reducible assumption | with_reducible apply done_foot | with_reducible apply extraFrames_foot | with_reducible apply setPair_foot
    | with_reducible apply bump_foot | with_reducible apply foldl_foot | with_reducible apply ite_foot | intro _ | split | contradiction | dsimp only

theorem writeSafe_foot (s : State) (h : Foot P r s) [Named P .dio] : Foot P r (State.writeSafe s) := by
  unfold State.writeSafe
  try extract_lets
  repeat' first
    | with_reducible assumption | with_reducible apply updBank_foot | with_reducible apply foldl_foot | with_reducible apply ite_foot | intro _
    | split | contradiction | dsimp only

theorem wdExpire_foot (s : State) (b : Nat) (h : Foot P r s) [Named P .regs] [Named P .dio] : Foot P r (State.wdExpire s b) := by
  unfold State.wdExpire
  try extract_lets
  repeat' first
    | with_reducible assumption | with_reducible apply updBank_foot | with_reducible apply setRegBit_foot | with_reducible apply raise_foot
    | with_reducible apply bump_foot | with_reducible apply foldl_foot | with_reducible apply ite_foot | intro _ | split | contradiction | dsimp only

theorem extendWatchdogs_foot (s : State) (h : Foot P r s) [Named P .regs] : Foot P r (State.extendWatchdogs s) := by
  unfold State.extendWatchdogs
  try extract_lets
  repeat' first
    | with_reducible assumption | with_reducible apply setRegBit_foot | with_reducible apply emitOut_foot | with_reducible apply foldl_foot
    | with_reducible apply ite_foot | intro _ | split | contradiction | dsimp only

theorem mismatches_foot (s : State) (b : Nat) (levels : U16) (settled : U16) (h : Foot P r s) [Named P .regs] [Named P .dio] : Foot P r (State.mismatches s b levels settled) := by
  unfold State.mismatches
  try extract_lets
  repeat' first
    | with_reducible assumption | with_reducible apply updBank_foot | with_reducible apply setReg_foot | with_reducible apply bump_foot
    | with_reducible apply raise_foot | with_reducible apply foldl_foot | with_reducible apply ite_foot | intro _ | split | contradiction | dsimp only

theorem offerDi_foot (s : State) (b : Nat) (levels : U16) (h : Foot P r s) [Named P .regs] [Named P .inlet] [Named P .dio] [Named P .gecko] : Foot P r (State.offerDi s b levels) := by
  unfold State.offerDi
  try extract_lets
  repeat' first
    | with_reducible assumption | with_reducible apply bump_foot | with_reducible apply offer_foot | with_reducible apply updBank_foot
    | with_reducible apply foldl_foot | with_reducible apply ite_foot | intro _ | split | contradiction | dsimp only

theorem windowEnd_foot (s : State) (b : Nat) (pins : U16) (settled : U16) (h : Foot P r s) [Named P .regs] [Named P .inlet] [Named P .dio] [Named P .gecko] : Foot P r (State.windowEnd s b pins settled) := by
  unfold State.windowEnd
  try extract_lets
  repeat' first
    | with_reducible assumption | with_reducible apply mismatches_foot | with_reducible apply setReg_foot | with_reducible apply offerDi_foot
    | with_reducible apply foldl_foot | with_reducible apply ite_foot | intro _ | split | contradiction | dsimp only

theorem updCounter_foot (s : State) (k : Nat) (f : Counter → Counter) (h : Foot P r s) [Named P .dio] : Foot P r (State.updCounter s k f) := by
  unfold State.updCounter
  try extract_lets
  repeat' first
    | with_reducible assumption | with_reducible apply updDio_foot | with_reducible apply foldl_foot | with_reducible apply ite_foot | intro _ | split
    | contradiction | dsimp only

theorem offerCount_foot (s : State) (k : Nat) (cycles : Nat) (h : Foot P r s) [Named P .regs] [Named P .inlet] [Named P .dio] [Named P .gecko] : Foot P r (State.offerCount s k cycles) := by
  unfold State.offerCount
  try extract_lets
  repeat' first
    | with_reducible assumption | with_reducible apply updCounter_foot | with_reducible apply offer_foot | with_reducible apply foldl_foot
    | with_reducible apply ite_foot | intro _ | split | contradiction | dsimp only

theorem newtStop_foot (s : State) (newt : Nat) (h : Foot P r s) [Named P .regs] [Named P .dio] : Foot P r (State.newtStop s newt) := by
  unfold State.newtStop
  try extract_lets
  repeat' first
    | with_reducible assumption | with_reducible apply updDio_foot | with_reducible apply setRegBit_foot | with_reducible apply raise_foot
    | with_reducible apply bump_foot | with_reducible apply foldl_foot | with_reducible apply ite_foot | intro _ | split | contradiction | dsimp only

theorem newtStart_foot (s : State) (newt : Nat) (h : Foot P r s) [Named P .regs] [Named P .inlet] [Named P .dio] : Foot P r (State.newtStart s newt) := by
  unfold State.newtStart
  try extract_lets
  repeat' first
    | with_reducible assumption | with_reducible apply updDio_foot | with_reducible apply setRegBit_foot | with_reducible apply markLoss_foot
    | with_reducible apply updBank_foot | with_reducible apply updCounter_foot | with_reducible apply foldl_foot | with_reducible apply ite_foot
    | intro _ | split | contradiction | dsimp only

theorem setFault_foot (s : State) (b : Nat) (c : FaultCause) (h : Foot P r s) [Named P .regs] [Named P .dio] : Foot P r (State.setFault s b c) := by
  unfold State.setFault
  try extract_lets
  repeat' first
    | with_reducible assumption | with_reducible apply updBank_foot | with_reducible apply raise_foot | with_reducible apply bump_foot
    | with_reducible apply setRegBit_foot | with_reducible apply foldl_foot | with_reducible apply ite_foot | intro _ | split | contradiction
    | dsimp only

theorem clearFault_foot (s : State) (b : Nat) (h : Foot P r s) [Named P .regs] [Named P .dio] : Foot P r (State.clearFault s b) := by
  unfold State.clearFault
  try extract_lets
  repeat' first
    | with_reducible assumption | with_reducible apply raise_foot | with_reducible apply setRegBit_foot | with_reducible apply updBank_foot
    | with_reducible apply foldl_foot | with_reducible apply ite_foot | intro _ | split | contradiction | dsimp only

theorem fieldReset_foot (s : State) (b : Nat) (h : Foot P r s) [Named P .regs] [Named P .dio] : Foot P r (State.fieldReset s b) := by
  unfold State.fieldReset
  try extract_lets
  repeat' first
    | with_reducible assumption | with_reducible apply updBank_foot | with_reducible apply setRegBit_foot | with_reducible apply foldl_foot
    | with_reducible apply ite_foot | intro _ | split | contradiction | dsimp only

theorem fieldStart_foot (s : State) (b : Nat) (h : Foot P r s) [Named P .regs] [Named P .inlet] [Named P .dio] : Foot P r (State.fieldStart s b) := by
  unfold State.fieldStart
  try extract_lets
  repeat' first
    | with_reducible assumption | with_reducible apply updBank_foot | with_reducible apply raise_foot | with_reducible apply bump_foot
    | with_reducible apply setRegBit_foot | with_reducible apply markLoss_foot | with_reducible apply foldl_foot | with_reducible apply ite_foot
    | intro _ | split | contradiction | dsimp only

theorem thermalRetry_foot (s : State) (n : Nat) (shorted : Bool) (h : Foot P r s) [Named P .dio] : Foot P r (State.thermalRetry s n shorted) := by
  unfold State.thermalRetry
  try extract_lets
  repeat' first
    | with_reducible assumption | with_reducible apply updBank_foot | with_reducible apply foldl_foot | with_reducible apply ite_foot | intro _
    | split | contradiction | dsimp only

theorem dioRun_foot (s : State) (h : Foot P r s) [Named P .dio] : Foot P r (State.dioRun s) := by
  unfold State.dioRun
  try extract_lets
  repeat' first
    | with_reducible assumption | with_reducible apply updDio_foot | with_reducible apply updBank_foot | with_reducible apply foldl_foot
    | with_reducible apply ite_foot | intro _ | split | contradiction | dsimp only

theorem setLaneBit_foot (s : State) (lo : Off) (n : Nat) (b : Bool) (h : Foot P r s) [Named P .regs] : Foot P r (State.setLaneBit s lo n b) := by
  unfold State.setLaneBit
  try extract_lets
  repeat' first
    | with_reducible assumption | with_reducible apply setRegBit_foot | with_reducible apply foldl_foot | with_reducible apply ite_foot | intro _
    | split | contradiction | dsimp only

theorem loadSettle_foot (s : State) (n : Nat) (d : ChDef) (h : Foot P r s) [Named P .fe] : Foot P r (State.loadSettle s n d) := by
  unfold State.loadSettle
  try extract_lets
  repeat' first
    | with_reducible assumption | with_reducible apply updDef_foot | with_reducible apply foldl_foot | with_reducible apply ite_foot | intro _ | split
    | contradiction | dsimp only

theorem exDrives_foot (s : State) (k : Nat) (mode : Nat) (lane : Nat) (h : Foot P r s) [Named P .regs] : Foot P r (State.exDrives s k mode lane) := by
  unfold State.exDrives
  try extract_lets
  repeat' first
    | with_reducible assumption | with_reducible apply setReg_foot | with_reducible apply foldl_foot | with_reducible apply ite_foot | intro _ | split
    | contradiction | dsimp only

theorem driveSource_foot (s : State) (n : Nat) (d : ChDef) (h : Foot P r s) [Named P .regs] [Named P .fe] : Foot P r (State.driveSource s n d) := by
  unfold State.driveSource
  try extract_lets
  repeat' first
    | with_reducible assumption | with_reducible apply exDrives_foot | with_reducible apply setReg_foot | with_reducible apply bump_foot
    | with_reducible apply foldl_foot | with_reducible apply ite_foot | intro _ | split | contradiction | dsimp only
    | refine Foot.upd ?_ rfl (.inr rfl) (.inr rfl) (.inr rfl) (.inr rfl) (.inr rfl) (.inr rfl) (.inr rfl) (.inr rfl) (.inr rfl) (.inr rfl) (.inr rfl) Foot.named (.inr rfl) (.inr rfl) (.inr rfl) (.inr rfl) (.inr rfl) (.inr rfl) (.inr rfl) (.inr rfl) (.inr rfl) (.inr rfl) (.inr rfl) (.inr rfl)

theorem crosspoint_foot (s : State) (n : Nat) (next : List XpSwitch) (h : Foot P r s) [Named P .regs] [Named P .fe] : Foot P r (State.crosspoint s n next) := by
  unfold State.crosspoint
  try extract_lets
  repeat' first
    | with_reducible assumption | with_reducible apply updLane_foot | with_reducible apply restSource_foot | with_reducible apply foldl_foot
    | with_reducible apply ite_foot | intro _ | split | contradiction | dsimp only

theorem calStart_foot (s : State) (n : Nat) (h : Foot P r s) [Named P .regs] [Named P .fe] : Foot P r (State.calStart s n) := by
  unfold State.calStart
  try extract_lets
  repeat' first
    | with_reducible assumption | with_reducible apply crosspoint_foot | with_reducible apply exDrives_foot | with_reducible apply updLane_foot
    | with_reducible apply foldl_foot | with_reducible apply ite_foot | intro _ | split | contradiction | dsimp only

theorem slotStart_foot (s : State) (n : Nat) (h : Foot P r s) [Named P .regs] [Named P .fe] : Foot P r (State.slotStart s n) := by
  unfold State.slotStart
  extract_lets l next
  clear_value next
  repeat' first
    | with_reducible assumption | with_reducible apply crosspoint_foot | with_reducible apply calStart_foot | with_reducible apply driveSource_foot
    | with_reducible apply loadSettle_foot | with_reducible apply updDef_foot | with_reducible apply updLane_foot | with_reducible apply foldl_foot
    | with_reducible apply ite_foot | intro _ | split | contradiction | dsimp only

theorem offerSample_foot (s : State) (n : Nat) (r1 : InRec) (h : Foot P r s) [Named P .regs] [Named P .inlet] [Named P .gecko] : Foot P r (State.offerSample s n r1) := by
  unfold State.offerSample
  try extract_lets
  repeat' first
    | with_reducible assumption | with_reducible apply bump_foot | with_reducible apply offer_foot | with_reducible apply foldl_foot
    | with_reducible apply ite_foot | intro _ | split | contradiction | dsimp only

theorem sourceReport_foot (s : State) (d : ChDef) (comp : Bool) (excess : Bool) (quad : Bool) (h : Foot P r s) [Named P .regs] : Foot P r (State.sourceReport s d comp excess quad) := by
  unfold State.sourceReport
  try extract_lets
  repeat' first
    | with_reducible assumption | with_reducible apply bump_foot | with_reducible apply raise_foot | with_reducible apply foldl_foot
    | with_reducible apply ite_foot | intro _ | split | contradiction | dsimp only

theorem staleReport_foot (s : State) (stale : Bool) (h : Foot P r s) [Named P .regs] : Foot P r (State.staleReport s stale) := by
  unfold State.staleReport
  try extract_lets
  repeat' first
    | with_reducible assumption | with_reducible apply bump_foot | with_reducible apply raise_foot | with_reducible apply foldl_foot
    | with_reducible apply ite_foot | intro _ | split | contradiction | dsimp only

theorem sample_foot (s : State) (n : Nat) (sl : Slot) (m : SlotMeas) (h : Foot P r s) [Named P .regs] [Named P .fe] [Named P .free] : Foot P r (State.sample s n sl m).2 := by
  unfold State.sample
  try extract_lets
  repeat' first
    | with_reducible assumption | with_reducible apply draw_foot
    | (with_reducible refine Eq.mp (congrArg (Foot P r) (congrArg Prod.snd ‹_ = (_, _)›)) (draw_foot ..)) | with_reducible apply staleReport_foot
    | with_reducible apply sourceReport_foot | with_reducible apply updDef_foot | with_reducible apply setReg_foot | with_reducible apply foldl_foot
    | with_reducible apply ite_foot | intro _ | split | contradiction | dsimp only

theorem slotEnd_foot (s : State) (n : Nat) (m : SlotMeas) (h : Foot P r s) [Named P .regs] [Named P .inlet] [Named P .fe] [Named P .gecko] [Named P .free] : Foot P r (State.slotEnd s n m) := by
  unfold State.slotEnd
  try extract_lets
  repeat' first
    | with_reducible assumption | with_reducible apply updLane_foot | with_reducible apply sample_foot
    | (with_reducible refine Eq.mp (congrArg (Foot P r) (congrArg Prod.snd ‹_ = (_, _)›)) (sample_foot ..)) | with_reducible apply offerSample_foot
    | with_reducible apply foldl_foot | with_reducible apply ite_foot | intro _ | split | contradiction | dsimp only

theorem offerHeld_foot (s : State) (k : Nat) (h : Foot P r s) [Named P .regs] [Named P .inlet] [Named P .fe] [Named P .gecko] : Foot P r (State.offerHeld s k) := by
  unfold State.offerHeld
  try extract_lets
  repeat' first
    | with_reducible assumption | with_reducible apply updLane_foot | with_reducible apply offerSample_foot | with_reducible apply foldl_foot
    | with_reducible apply ite_foot | intro _ | split | contradiction | dsimp only

theorem drained_foot (s : State) (n : Nat) (h : Foot P r s) [Named P .regs] [Named P .inlet] [Named P .fe] [Named P .gecko] : Foot P r (State.drained s n) := by
  unfold State.drained
  try extract_lets
  repeat' first
    | with_reducible assumption | with_reducible apply updLane_foot | with_reducible apply bump_foot | with_reducible apply raise_foot
    | with_reducible apply offerHeld_foot | with_reducible apply foldl_foot | with_reducible apply ite_foot | intro _ | split | contradiction
    | dsimp only

theorem setAccepted_foot (s : State) (n : Nat) (item : Nat) (l : List F32) (h : Foot P r s) [Named P .fe] : Foot P r (State.setAccepted s n item l) := by
  unfold State.setAccepted
  try extract_lets
  repeat' first
    | with_reducible assumption | with_reducible apply updLane_foot | with_reducible apply foldl_foot | with_reducible apply ite_foot | intro _
    | split | contradiction | dsimp only
    | refine Foot.upd ?_ rfl (.inr rfl) (.inr rfl) (.inr rfl) (.inr rfl) (.inr rfl) (.inr rfl) (.inr rfl) (.inr rfl) (.inr rfl) (.inr rfl) (.inr rfl) Foot.named (.inr rfl) (.inr rfl) (.inr rfl) (.inr rfl) (.inr rfl) (.inr rfl) (.inr rfl) (.inr rfl) (.inr rfl) (.inr rfl) (.inr rfl) (.inr rfl)

theorem setRuns_foot (s : State) (n : Nat) (item : Nat) (k : Nat) (h : Foot P r s) [Named P .fe] : Foot P r (State.setRuns s n item k) := by
  unfold State.setRuns
  try extract_lets
  repeat' first
    | with_reducible assumption | with_reducible apply updLane_foot | with_reducible apply foldl_foot | with_reducible apply ite_foot | intro _
    | split | contradiction | dsimp only
    | refine Foot.upd ?_ rfl (.inr rfl) (.inr rfl) (.inr rfl) (.inr rfl) (.inr rfl) (.inr rfl) (.inr rfl) (.inr rfl) (.inr rfl) (.inr rfl) (.inr rfl) Foot.named (.inr rfl) (.inr rfl) (.inr rfl) (.inr rfl) (.inr rfl) (.inr rfl) (.inr rfl) (.inr rfl) (.inr rfl) (.inr rfl) (.inr rfl) (.inr rfl)

theorem calAccept_foot (s : State) (n : Nat) (item : Nat) (meas : F32) (h : Foot P r s) [Named P .regs] [Named P .fe] : Foot P r (State.calAccept s n item meas) := by
  unfold State.calAccept
  try extract_lets
  repeat' first
    | with_reducible assumption | with_reducible apply setLaneBit_foot | with_reducible apply setReg_foot | with_reducible apply setRuns_foot
    | with_reducible apply setAccepted_foot | with_reducible apply foldl_foot | with_reducible apply ite_foot | intro _ | split | contradiction
    | dsimp only

theorem calReject_foot (s : State) (n : Nat) (item : Nat) (h : Foot P r s) [Named P .regs] [Named P .fe] : Foot P r (State.calReject s n item) := by
  unfold State.calReject
  try extract_lets
  repeat' first
    | with_reducible assumption | with_reducible apply bump_foot | with_reducible apply raise_foot | with_reducible apply setRuns_foot
    | with_reducible apply setLaneBit_foot | with_reducible apply foldl_foot | with_reducible apply ite_foot | intro _ | split | contradiction
    | dsimp only

theorem calJudge_foot (s : State) (n : Nat) (item : Nat) (meas : F32) (h : Foot P r s) [Named P .regs] [Named P .fe] : Foot P r (State.calJudge s n item meas) := by
  unfold State.calJudge
  try extract_lets
  repeat' first
    | with_reducible assumption | with_reducible apply setReg_foot | with_reducible apply calReject_foot | with_reducible apply calAccept_foot
    | with_reducible apply foldl_foot | with_reducible apply ite_foot | intro _ | split | contradiction | dsimp only

theorem calEnd_foot (s : State) (n : Nat) (meas : F32) (h : Foot P r s) [Named P .regs] [Named P .fe] : Foot P r (State.calEnd s n meas) := by
  unfold State.calEnd
  try extract_lets
  repeat' first
    | with_reducible assumption | with_reducible apply calJudge_foot | with_reducible apply bump_foot | with_reducible apply updLane_foot
    | with_reducible apply foldl_foot | with_reducible apply ite_foot | intro _ | split | contradiction | dsimp only

theorem checkWrite_foot (s : State) (v : U32) (h : Foot P r s) [Named P .regs] : Foot P r (State.checkWrite s v) := by
  unfold State.checkWrite
  try extract_lets
  repeat' first
    | with_reducible assumption | with_reducible apply ignored_foot | with_reducible apply xpRun_foot | with_reducible apply foldl_foot
    | with_reducible apply ite_foot | intro _ | split | contradiction | dsimp only

theorem chandefApplied_foot (s : State) (n : Nat) (old : ChDef) (new : ChDef) (h : Foot P r s) [Named P .regs] [Named P .fe] : Foot P r (State.chandefApplied s n old new) := by
  unfold State.chandefApplied
  try extract_lets
  repeat' first
    | with_reducible assumption | with_reducible apply updDef_foot | with_reducible apply bump_foot | with_reducible apply updLane_foot
    | with_reducible apply raise_foot | with_reducible apply foldl_foot | with_reducible apply ite_foot | intro _ | split | contradiction | dsimp only

theorem shareSettle_foot (s : State) (elem : Nat) (h : Foot P r s) [Named P .regs] [Named P .can] : Foot P r (State.shareSettle s elem) := by
  unfold State.shareSettle
  try extract_lets
  repeat' first
    | with_reducible assumption | with_reducible apply filtSettle_foot | with_reducible apply foldl_foot | with_reducible apply ite_foot | intro _
    | split | contradiction | dsimp only

theorem applyBarrier_foot (s : State) (u : CmdUnit) (h : Foot P r s) [Named P .regs] [Named P .tarn] [Named P .fe] [Named P .can] [Named P .gecko] : Foot P r (State.applyBarrier s u) := by
  unfold State.applyBarrier
  try extract_lets
  repeat' first
    | with_reducible assumption | with_reducible apply applyUnit_foot | with_reducible apply applyScan_foot | with_reducible apply clearUe_foot
    | with_reducible apply chandefApplied_foot | with_reducible apply noteMasks_foot | with_reducible apply shareSettle_foot
    | with_reducible apply foldl_foot | with_reducible apply ite_foot | intro _ | split | contradiction | dsimp only
    | refine Foot.upd ?_ rfl (.inr rfl) (.inr rfl) (.inr rfl) (.inr rfl) (.inr rfl) (.inr rfl) (.inr rfl) (.inr rfl) (.inr rfl) (.inr rfl) (.inr rfl) (.inr rfl) (.inr rfl) (.inr rfl) (.inr rfl) (.inr rfl) (.inr rfl) (.inr rfl) (.inr rfl) (.inr rfl) Foot.named (.inr rfl) (.inr rfl) (.inr rfl)

theorem adjust_foot (s : State) (e : EngineId) (r1 : InRec) (u : CmdUnit) (before : State) (h : Foot P r s) [Named P .regs] [Named P .aeA] [Named P .aeB] [Named P .outlet] [Named P .can] [Named P .gecko] : Foot P r (State.adjust s e r1 u before) := by
  unfold State.adjust
  try extract_lets
  repeat' first
    | with_reducible assumption | with_reducible apply pointWritten_foot | with_reducible apply groupWritten_foot
    | with_reducible apply configFault_foot | with_reducible apply foldl_foot | with_reducible apply ite_foot | intro _ | split | contradiction
    | dsimp only

theorem passParts_foot (s : State) (e : EngineId) (isn : Nat) (h : Foot P r s) [Named P .regs] [Named P .inlet] [Named P .aeA] [Named P .aeB] [Named P .outlet] [Named P .hif] [Named P .spawn] : Foot P r (State.passParts s e isn) := by
  unfold State.passParts
  try extract_lets
  repeat' first
    | with_reducible assumption | with_reducible apply evaluated_foot | with_reducible apply runStart_foot | with_reducible apply foldl_foot
    | with_reducible apply ite_foot | intro _ | split | contradiction | dsimp only

theorem passBarrier_foot (s : State) (e : EngineId) (r1 : InRec) (u : CmdUnit) (before : State) (h : Foot P r s) [Named P .regs] [Named P .inlet] [Named P .aeA] [Named P .aeB] [Named P .outlet] [Named P .hif] [Named P .spawn] [Named P .can] [Named P .gecko] : Foot P r (State.passBarrier s e r1 u before) := by
  unfold State.passBarrier
  try extract_lets
  repeat' first
    | with_reducible assumption | with_reducible apply evaluated_foot | with_reducible apply adjust_foot | with_reducible apply epochChange_foot
    | with_reducible apply runStart_foot | with_reducible apply foldl_foot | with_reducible apply ite_foot | intro _ | split | contradiction
    | dsimp only

theorem configBarrier_foot (s : State) (h : Foot P r s) [Named P .regs] [Named P .tarn] [Named P .inlet] [Named P .aeA] [Named P .aeB] [Named P .outlet] [Named P .hif] [Named P .skink] [Named P .spawn] [Named P .fe] [Named P .dio] [Named P .can] [Named P .canWalk] [Named P .gecko] : Foot P r (State.configBarrier s) := by
  unfold State.configBarrier
  try extract_lets
  repeat' first
    | with_reducible assumption | with_reducible apply failEngine_foot | with_reducible apply passParts_foot | with_reducible apply applyBarrier_foot
    | with_reducible apply passBarrier_foot | with_reducible apply foldl_foot | with_reducible apply ite_foot | intro _ | split | contradiction
    | dsimp only
    | refine Foot.upd ?_ rfl (.inr rfl) (.inr rfl) (.inr rfl) (.inr rfl) Foot.named (.inr rfl) (.inr rfl) (.inr rfl) (.inr rfl) (.inr rfl) (.inr rfl) (.inr rfl) (.inr rfl) (.inr rfl) (.inr rfl) (.inr rfl) (.inr rfl) (.inr rfl) (.inr rfl) (.inr rfl) (.inr rfl) (.inr rfl) (.inr rfl) (.inr rfl)

theorem eccState_foot (s : State) (e : EngineId) (r1 : InRec) (d : Damaged) (other_ : GrState) (whole : Bool) (h : Foot P r s) [Named P .regs] [Named P .aeA] [Named P .aeB] [Named P .outlet] [Named P .gecko] : Foot P r (State.eccState s e r1 d other_ whole) := by
  unfold State.eccState
  try extract_lets
  repeat' first
    | with_reducible assumption | with_reducible apply setPt_foot | with_reducible apply resetPoint_foot | with_reducible apply setGr_foot
    | with_reducible apply resetHalf_foot | with_reducible apply foldl_foot | with_reducible apply ite_foot | intro _ | split | contradiction
    | dsimp only

theorem eccFault_foot (s : State) (h : Foot P r s) [Named P .regs] [Named P .inlet] [Named P .aeA] [Named P .aeB] [Named P .outlet] [Named P .hif] [Named P .spawn] [Named P .gecko] : Foot P r (State.eccFault s) := by
  unfold State.eccFault
  try extract_lets
  repeat' first
    | with_reducible assumption | with_reducible apply clearUe_foot | with_reducible apply evaluated_foot | with_reducible apply eccState_foot
    | with_reducible apply runStart_foot | with_reducible apply foldl_foot | with_reducible apply ite_foot | intro _ | split | contradiction
    | dsimp only

theorem mergeExpire_foot (s : State) (h : Foot P r s) [Named P .regs] [Named P .inlet] [Named P .aeA] [Named P .aeB] [Named P .outlet] [Named P .hif] [Named P .skink] [Named P .spawn] [Named P .fe] [Named P .dio] [Named P .can] [Named P .canWalk] [Named P .gecko] : Foot P r (State.mergeExpire s) := by
  unfold State.mergeExpire
  try extract_lets
  repeat' first
    | with_reducible assumption | with_reducible apply release_foot | with_reducible apply releaseOne_foot | with_reducible apply foldl_foot
    | with_reducible apply ite_foot | intro _ | split | contradiction | dsimp only

theorem updPort_foot (s : State) (p : Nat) (f : Port → Port) (h : Foot P r s) [Named P .ws] : Foot P r (State.updPort s p f) := by
  unfold State.updPort
  try extract_lets
  repeat' first
    | with_reducible assumption | with_reducible apply foldl_foot | with_reducible apply ite_foot | intro _ | split | contradiction | dsimp only
    | refine Foot.upd ?_ rfl (.inr rfl) (.inr rfl) (.inr rfl) (.inr rfl) (.inr rfl) (.inr rfl) (.inr rfl) (.inr rfl) (.inr rfl) (.inr rfl) (.inr rfl) (.inr rfl) (.inr rfl) (.inr rfl) (.inr rfl) Foot.named (.inr rfl) (.inr rfl) (.inr rfl) (.inr rfl) (.inr rfl) (.inr rfl) (.inr rfl) (.inr rfl)

theorem pubOn_foot (s : State) (p : Nat) (data : List Byte) (h : Foot P r s) [Named P .regs] [Named P .ws] : Foot P r (State.pubOn s p data).1 := by
  unfold State.pubOn
  try extract_lets
  repeat' first
    | with_reducible assumption | with_reducible apply updPort_foot | with_reducible apply bump_foot | with_reducible apply foldl_foot
    | with_reducible apply ite_foot | intro _ | split | contradiction | dsimp only

theorem pubSend_foot (s : State) (h : Foot P r s) [Named P .regs] [Named P .outlet] [Named P .ws] : Foot P r (State.pubSend s) := by
  unfold State.pubSend
  dsimp only
  repeat' first
    | with_reducible assumption | with_reducible apply updOutlet_foot | with_reducible apply pubOn_foot
    | (with_reducible refine Eq.mp (congrArg (Foot P r) (congrArg Prod.fst ‹_ = (_, _)›)) (pubOn_foot ..)) | with_reducible apply bump_foot
    | with_reducible apply foldl_foot | with_reducible apply ite_foot | intro _ | split | contradiction | dsimp only

theorem pubCan_foot (s : State) (h : Foot P r s) [Named P .regs] [Named P .outlet] [Named P .can] : Foot P r (State.pubCan s) := by
  unfold State.pubCan
  try extract_lets
  repeat' first
    | with_reducible assumption | with_reducible apply updOutlet_foot | with_reducible apply placeNode_foot
    | (with_reducible refine Eq.mp (congrArg (Foot P r) (congrArg Prod.fst ‹_ = (_, _)›)) (placeNode_foot ..)) | with_reducible apply bump_foot
    | with_reducible apply foldl_foot | with_reducible apply ite_foot | intro _ | split | contradiction | dsimp only

theorem trendCtl_foot (s : State) (d : Desc) (h : Foot P r s) [Named P .regs] [Named P .tarn] [Named P .inlet] [Named P .outlet] [Named P .hif] [Named P .gecko] : Foot P r (State.trendCtl s d) := by
  unfold State.trendCtl
  dsimp only
  repeat' first
    | with_reducible assumption | with_reducible apply done_foot | with_reducible apply tarnStore_foot | with_reducible apply updOutlet_foot
    | with_reducible apply offer_foot | with_reducible apply defer_foot | with_reducible apply foldl_foot | with_reducible apply ite_foot | intro _
    | split | contradiction | dsimp only
    | refine Foot.upd ?_ rfl (.inr rfl) (.inr rfl) (.inr rfl) (.inr rfl) (.inr rfl) (.inr rfl) (.inr rfl) (.inr rfl) Foot.named (.inr rfl) (.inr rfl) (.inr rfl) (.inr rfl) (.inr rfl) (.inr rfl) (.inr rfl) (.inr rfl) (.inr rfl) (.inr rfl) (.inr rfl) (.inr rfl) (.inr rfl) (.inr rfl) (.inr rfl)

theorem trendStep_foot (s : State) (i : Nat) (h : Foot P r s) [Named P .regs] [Named P .tarn] [Named P .outlet] [Named P .hif] [Named P .gecko] : Foot P r (State.trendStep s i) := by
  unfold State.trendStep
  try extract_lets
  repeat' first
    | with_reducible assumption | with_reducible apply tarnStore_foot | with_reducible apply updOutlet_foot | with_reducible apply postLossy_foot
    | with_reducible apply foldl_foot | with_reducible apply ite_foot | intro _ | split | contradiction | dsimp only

theorem splitApply_foot (s : State) (h : Foot P r s) [Named P .hif] : Foot P r (State.splitApply s) := by
  unfold State.splitApply
  try extract_lets
  repeat' first
    | with_reducible assumption | with_reducible apply foldl_foot | with_reducible apply ite_foot | intro _ | split | contradiction | dsimp only
    | refine Foot.upd ?_ rfl (.inr rfl) (.inr rfl) (.inr rfl) (.inr rfl) (.inr rfl) (.inr rfl) (.inr rfl) (.inr rfl) Foot.named (.inr rfl) (.inr rfl) (.inr rfl) (.inr rfl) (.inr rfl) (.inr rfl) (.inr rfl) (.inr rfl) (.inr rfl) (.inr rfl) (.inr rfl) (.inr rfl) (.inr rfl) (.inr rfl) (.inr rfl)

theorem shareSet_foot (s : State) (n : Nat) (base : Nat) (size : Nat) (h : Foot P r s) [Named P .regs] [Named P .can] : Foot P r (State.shareSet s n base size) := by
  unfold State.shareSet
  try extract_lets
  repeat' first
    | with_reducible assumption | with_reducible apply setReg_foot | with_reducible apply setCanStat_foot | with_reducible apply updCan_foot
    | with_reducible apply foldl_foot | with_reducible apply ite_foot | intro _ | split | contradiction | dsimp only

theorem sharesSet_foot (s : State) (l : List Nat) (n base : Nat) (h : Foot P r s) [Named P .regs] [Named P .can] : Foot P r (s.sharesSet l n base) := by
  induction l generalizing s n base with
  | nil => exact h
  | cons k l ih => exact ih _ _ _ (shareSet_foot _ _ _ _ h)

theorem quotaSet_foot (s : State) (d : Desc) (h : Foot P r s) [Named P .regs] [Named P .hif] [Named P .can] [Named P .nvm] : Foot P r (State.quotaSet s d) := by
  unfold State.quotaSet
  dsimp only
  repeat' first
    | with_reducible assumption | with_reducible apply done_foot | with_reducible apply bump_foot | with_reducible apply saveQuota_foot
    | with_reducible apply splitApply_foot | with_reducible apply fetchMore_foot | with_reducible apply sharesSet_foot
    | with_reducible apply foldl_foot | with_reducible apply ite_foot | intro _ | split | contradiction | dsimp only
    | refine Foot.upd ?_ rfl (.inr rfl) (.inr rfl) (.inr rfl) (.inr rfl) (.inr rfl) (.inr rfl) (.inr rfl) (.inr rfl) Foot.named (.inr rfl) (.inr rfl) (.inr rfl) (.inr rfl) (.inr rfl) (.inr rfl) (.inr rfl) (.inr rfl) (.inr rfl) (.inr rfl) (.inr rfl) (.inr rfl) (.inr rfl) (.inr rfl) (.inr rfl)

theorem noteWrite_foot (s : State) (w : CopyWrite) (h : Foot P r s) [Named P .gecko] : Foot P r (State.noteWrite s w) := by
  unfold State.noteWrite
  try extract_lets
  repeat' first
    | with_reducible assumption | with_reducible apply foldl_foot | with_reducible apply ite_foot | intro _ | split | contradiction | dsimp only
    | refine Foot.upd ?_ rfl (.inr rfl) (.inr rfl) (.inr rfl) (.inr rfl) (.inr rfl) (.inr rfl) (.inr rfl) (.inr rfl) (.inr rfl) (.inr rfl) (.inr rfl) (.inr rfl) (.inr rfl) (.inr rfl) (.inr rfl) (.inr rfl) (.inr rfl) (.inr rfl) (.inr rfl) (.inr rfl) Foot.named (.inr rfl) (.inr rfl) (.inr rfl)

theorem writeDone_foot (s : State) (h : Foot P r s) [Named P .gecko] : Foot P r (State.writeDone s) := by
  unfold State.writeDone
  try extract_lets
  repeat' first
    | with_reducible assumption | with_reducible apply foldl_foot | with_reducible apply ite_foot | intro _ | split | contradiction | dsimp only
    | refine Foot.upd ?_ rfl (.inr rfl) (.inr rfl) (.inr rfl) (.inr rfl) (.inr rfl) (.inr rfl) (.inr rfl) (.inr rfl) (.inr rfl) (.inr rfl) (.inr rfl) (.inr rfl) (.inr rfl) (.inr rfl) (.inr rfl) (.inr rfl) (.inr rfl) (.inr rfl) (.inr rfl) (.inr rfl) Foot.named (.inr rfl) (.inr rfl) (.inr rfl)

theorem ssWrite_foot (s : State) (o : Nat) (l : List Byte) (h : Foot P r s) [Named P .nvm] [Named P .gecko] : Foot P r (State.ssWrite s o l) := by
  unfold State.ssWrite
  try extract_lets
  repeat' first
    | with_reducible assumption | with_reducible apply noteWrite_foot | with_reducible apply updNvm_foot | with_reducible apply foldl_foot
    | with_reducible apply ite_foot | intro _ | split | contradiction | dsimp only

theorem writeSlot_foot (s : State) (rec_ : List Byte) (h : Foot P r s) [Named P .nvm] [Named P .gecko] : Foot P r (State.writeSlot s rec_) := by
  unfold State.writeSlot
  try extract_lets
  repeat' first
    | with_reducible assumption | with_reducible apply ssWrite_foot | with_reducible apply foldl_foot | with_reducible apply ite_foot | intro _
    | split | contradiction | dsimp only

theorem setSs_foot (s : State) (st : Nat) (h : Foot P r s) [Named P .regs] : Foot P r (State.setSs s st) := by
  unfold State.setSs
  try extract_lets
  repeat' first
    | with_reducible assumption | with_reducible apply setRegFld_foot | with_reducible apply foldl_foot | with_reducible apply ite_foot | intro _
    | split | contradiction | dsimp only

theorem setDirty_foot (s : State) (h : Foot P r s) [Named P .regs] : Foot P r (State.setDirty s) := by
  unfold State.setDirty
  try extract_lets
  repeat' first
    | with_reducible assumption | with_reducible apply setRegBit_foot | with_reducible apply foldl_foot | with_reducible apply ite_foot | intro _
    | split | contradiction | dsimp only

theorem logReplacement_foot (s : State) (lock : Byte) (h : Foot P r s) [Named P .nvm] [Named P .gecko] : Foot P r (State.logReplacement s lock) := by
  unfold State.logReplacement
  dsimp only
  repeat' first
    | with_reducible assumption | with_reducible apply ssWrite_foot | with_reducible apply foldl_foot | with_reducible apply ite_foot | intro _
    | split | contradiction | dsimp only

theorem takeDigest_foot (s : State) (h : Foot P r s) [Named P .regs] : Foot P r (State.takeDigest s) := by
  unfold State.takeDigest
  try extract_lets
  repeat' first
    | with_reducible assumption | with_reducible apply setRegBit_foot | with_reducible apply setReg_foot | with_reducible apply foldl_foot
    | with_reducible apply ite_foot | intro _ | split | contradiction | dsimp only

theorem loadIdentity_foot (s : State) (r1 : List Byte) (h : Foot P r s) [Named P .regs] : Foot P r (State.loadIdentity s r1) := by
  unfold State.loadIdentity
  try extract_lets
  repeat' first
    | with_reducible assumption | with_reducible apply setReg_foot | with_reducible apply foldl_foot | with_reducible apply ite_foot | intro _ | split
    | contradiction | dsimp only

theorem countErase_foot (s : State) (sector : Nat) (h : Foot P r s) [Named P .regs] [Named P .nvm] : Foot P r (State.countErase s sector) := by
  unfold State.countErase
  try extract_lets
  repeat' first
    | with_reducible assumption | with_reducible apply updNvm_foot | with_reducible apply raise_foot | with_reducible apply foldl_foot
    | with_reducible apply ite_foot | intro _ | split | contradiction | dsimp only

theorem countErases_foot (s : State) (first : Nat) (n : Nat) (h : Foot P r s) [Named P .regs] [Named P .nvm] : Foot P r (State.countErases s first n) := by
  unfold State.countErases
  try extract_lets
  repeat' first
    | with_reducible assumption | with_reducible apply countErase_foot | with_reducible apply foldl_foot | with_reducible apply ite_foot | intro _
    | split | contradiction | dsimp only

theorem writeBoot_foot (s : State) (r1 : BootRec) (h : Foot P r s) [Named P .regs] [Named P .nvm] [Named P .gecko] : Foot P r (State.writeBoot s r1) := by
  unfold State.writeBoot
  try extract_lets
  repeat' first
    | with_reducible assumption | with_reducible apply noteWrite_foot | with_reducible apply updNvm_foot | with_reducible apply countErase_foot
    | with_reducible apply foldl_foot | with_reducible apply ite_foot | intro _ | split | contradiction | dsimp only

theorem writeSes_foot (s : State) (r1 : SesRec) (h : Foot P r s) [Named P .regs] [Named P .nvm] [Named P .gecko] : Foot P r (State.writeSes s r1) := by
  unfold State.writeSes
  try extract_lets
  repeat' first
    | with_reducible assumption | with_reducible apply noteWrite_foot | with_reducible apply updNvm_foot | with_reducible apply countErase_foot
    | with_reducible apply foldl_foot | with_reducible apply ite_foot | intro _ | split | contradiction | dsimp only

theorem cutWrite_foot (s : State) (torn : Option Nat) (h : Foot P r s) [Named P .nvm] : Foot P r (State.cutWrite s torn) := by
  unfold State.cutWrite
  try extract_lets
  repeat' first
    | with_reducible assumption | with_reducible apply updNvm_foot | with_reducible apply updRegion_foot | with_reducible apply foldl_foot
    | with_reducible apply ite_foot | intro _ | split | contradiction | dsimp only

theorem updSlot_foot (s : State) (k : Nat) (f : ImageSlot → ImageSlot) (h : Foot P r s) [Named P .nvm] : Foot P r (State.updSlot s k f) := by
  unfold State.updSlot
  try extract_lets
  repeat' first
    | with_reducible assumption | with_reducible apply updNvm_foot | with_reducible apply foldl_foot | with_reducible apply ite_foot | intro _ | split
    | contradiction | dsimp only

theorem applyEntry_foot (s : State) (e : JEntry) (h : Foot P r s) [Named P .regs] [Named P .tarn] : Foot P r (State.applyEntry s e) := by
  unfold State.applyEntry
  try extract_lets
  repeat' first
    | with_reducible assumption | with_reducible apply applyUnit_foot | with_reducible apply applyScan_foot | with_reducible apply foldl_foot
    | with_reducible apply ite_foot | intro _ | split | contradiction | dsimp only

theorem loadShares_foot (s : State) (l : List Nat) (n base : Nat) (h : Foot P r s) [Named P .regs] : Foot P r (s.loadShares l n base) := by
  induction l generalizing s n base with
  | nil => exact h
  | cons k l ih => exact ih _ _ _ (setReg_foot _ _ _ (setReg_foot _ _ _ h))

theorem loadQuotas_foot (s : State) (q : Quotas) (h : Foot P r s) [Named P .regs] [Named P .hif] : Foot P r (State.loadQuotas s q) := by
  unfold State.loadQuotas
  try extract_lets
  repeat' first
    | with_reducible assumption | with_reducible apply loadShares_foot | with_reducible apply foldl_foot | with_reducible apply ite_foot | intro _
    | split | contradiction | dsimp only
    | refine Foot.upd ?_ rfl (.inr rfl) (.inr rfl) (.inr rfl) (.inr rfl) (.inr rfl) (.inr rfl) (.inr rfl) (.inr rfl) Foot.named (.inr rfl) (.inr rfl) (.inr rfl) (.inr rfl) (.inr rfl) (.inr rfl) (.inr rfl) (.inr rfl) (.inr rfl) (.inr rfl) (.inr rfl) (.inr rfl) (.inr rfl) (.inr rfl) (.inr rfl)

theorem loadRegion_foot (s : State) (t : Settings) (h : Foot P r s) [Named P .regs] [Named P .tarn] [Named P .hif] : Foot P r (State.loadRegion s t) := by
  unfold State.loadRegion
  try extract_lets
  repeat' first
    | with_reducible assumption | with_reducible apply setReg_foot | with_reducible apply loadQuotas_foot | with_reducible apply applyEntry_foot
    | with_reducible apply foldl_foot | with_reducible apply ite_foot | intro _ | split | contradiction | dsimp only
    | refine Foot.upd ?_ rfl (.inr rfl) (.inr rfl) (.inr rfl) Foot.named (.inr rfl) (.inr rfl) (.inr rfl) (.inr rfl) (.inr rfl) (.inr rfl) (.inr rfl) (.inr rfl) (.inr rfl) (.inr rfl) (.inr rfl) (.inr rfl) (.inr rfl) (.inr rfl) (.inr rfl) (.inr rfl) (.inr rfl) (.inr rfl) (.inr rfl) (.inr rfl)

theorem eraseBases_foot (s : State) (k : Nat) (n : Nat) (h : Foot P r s) [Named P .regs] [Named P .nvm] : Foot P r (State.eraseBases s k n) := by
  unfold State.eraseBases
  try extract_lets
  repeat' first
    | with_reducible assumption | with_reducible apply countErases_foot | with_reducible apply foldl_foot | with_reducible apply ite_foot | intro _
    | split | contradiction | dsimp only

theorem eraseRegion_foot (s : State) (k : Nat) (t : Settings) (h : Foot P r s) [Named P .regs] [Named P .nvm] : Foot P r (State.eraseRegion s k t) := by
  unfold State.eraseRegion
  try extract_lets
  repeat' first
    | with_reducible assumption | with_reducible apply updRegion_foot | with_reducible apply eraseBases_foot | with_reducible apply countErases_foot
    | with_reducible apply foldl_foot | with_reducible apply ite_foot | intro _ | split | contradiction | dsimp only

theorem revoke_foot (s : State) (m : List Byte) (h : Foot P r s) [Named P .nvm] : Foot P r (State.revoke s m) := by
  unfold State.revoke
  try extract_lets
  repeat' first
    | with_reducible assumption | with_reducible apply updNvm_foot | with_reducible apply foldl_foot | with_reducible apply ite_foot | intro _ | split
    | contradiction | dsimp only

theorem setSes_foot (s : State) (st : Nat) (h : Foot P r s) [Named P .regs] [Named P .nvm] [Named P .upd] [Named P .gecko] : Foot P r (State.setSes s st) := by
  unfold State.setSes
  try extract_lets
  repeat' first
    | with_reducible assumption | with_reducible apply writeSes_foot | with_reducible apply foldl_foot | with_reducible apply ite_foot | intro _
    | split | contradiction | dsimp only
    | refine Foot.upd ?_ rfl (.inr rfl) (.inr rfl) (.inr rfl) (.inr rfl) (.inr rfl) (.inr rfl) (.inr rfl) (.inr rfl) (.inr rfl) (.inr rfl) (.inr rfl) (.inr rfl) (.inr rfl) (.inr rfl) (.inr rfl) (.inr rfl) (.inr rfl) (.inr rfl) (.inr rfl) Foot.named (.inr rfl) (.inr rfl) (.inr rfl) (.inr rfl)

theorem eraseResume_foot (s : State) (h : Foot P r s) [Named P .regs] [Named P .nvm] [Named P .upd] [Named P .gecko] : Foot P r (State.eraseResume s) := by
  unfold State.eraseResume
  try extract_lets
  repeat' first
    | with_reducible assumption | with_reducible apply revoke_foot | with_reducible apply eraseRegion_foot | with_reducible apply updNvm_foot
    | with_reducible apply setSes_foot | with_reducible apply foldl_foot | with_reducible apply ite_foot | intro _ | split | contradiction
    | dsimp only

theorem startBase_foot (s : State) (h : Foot P r s) [Named P .gecko] : Foot P r (State.startBase s) := by
  unfold State.startBase
  try extract_lets
  repeat' first
    | with_reducible assumption | with_reducible apply foldl_foot | with_reducible apply ite_foot | intro _ | split | contradiction | dsimp only
    | refine Foot.upd ?_ rfl (.inr rfl) (.inr rfl) (.inr rfl) (.inr rfl) (.inr rfl) (.inr rfl) (.inr rfl) (.inr rfl) (.inr rfl) (.inr rfl) (.inr rfl) (.inr rfl) (.inr rfl) (.inr rfl) (.inr rfl) (.inr rfl) (.inr rfl) (.inr rfl) (.inr rfl) (.inr rfl) Foot.named (.inr rfl) (.inr rfl) (.inr rfl)

theorem sectorsFail_foot (s : State) (n : Nat) (h : Foot P r s) [Named P .regs] [Named P .nvm] : Foot P r (State.sectorsFail s n).1 := by
  unfold State.sectorsFail
  try extract_lets
  repeat' first
    | with_reducible assumption | with_reducible apply bumpBy_foot | with_reducible apply updNvm_foot | with_reducible apply raise_foot
    | with_reducible apply foldl_foot | with_reducible apply ite_foot | intro _ | split | contradiction | dsimp only

theorem baseSectors_foot (s : State) (first : Nat) (n : Nat) (h : Foot P r s) [Named P .regs] [Named P .nvm] [Named P .free] : Foot P r (State.baseSectors s first n).1 := by
  unfold State.baseSectors
  try extract_lets
  repeat' first
    | with_reducible assumption | with_reducible apply countErases_foot | with_reducible apply sectorsFail_foot
    | (with_reducible refine Eq.mp (congrArg (Foot P r) (congrArg Prod.fst ‹_ = (_, _)›)) (sectorsFail_foot ..)) | with_reducible apply draw_foot
    | (with_reducible refine Eq.mp (congrArg (Foot P r) (congrArg Prod.snd ‹_ = (_, _)›)) (draw_foot ..)) | with_reducible apply foldl_foot
    | with_reducible apply ite_foot | intro _ | split | contradiction | dsimp only

theorem unsave_foot (s : State) (h : Foot P r s) [Named P .gecko] : Foot P r (State.unsave s) := by
  unfold State.unsave
  try extract_lets
  repeat' first
    | with_reducible assumption | with_reducible apply foldl_foot | with_reducible apply ite_foot | intro _ | split | contradiction | dsimp only
    | refine Foot.upd ?_ rfl (.inr rfl) (.inr rfl) (.inr rfl) (.inr rfl) (.inr rfl) (.inr rfl) (.inr rfl) (.inr rfl) (.inr rfl) (.inr rfl) (.inr rfl) (.inr rfl) (.inr rfl) (.inr rfl) (.inr rfl) (.inr rfl) (.inr rfl) (.inr rfl) (.inr rfl) (.inr rfl) Foot.named (.inr rfl) (.inr rfl) (.inr rfl)

theorem baseDurable_foot (s : State) (h : Foot P r s) [Named P .regs] [Named P .nvm] [Named P .gecko] [Named P .free] : Foot P r (State.baseDurable s) := by
  unfold State.baseDurable
  try extract_lets
  repeat' first
    | with_reducible assumption | with_reducible apply baseSectors_foot
    | (with_reducible refine Eq.mp (congrArg (Foot P r) (congrArg Prod.fst ‹_ = (_, _)›)) (baseSectors_foot ..)) | with_reducible apply unsave_foot
    | with_reducible apply updRegion_foot | with_reducible apply raise_foot | with_reducible apply bump_foot | with_reducible apply setRegBit_foot
    | with_reducible apply foldl_foot | with_reducible apply ite_foot | intro _ | split | contradiction | dsimp only

theorem ringErase_foot (s : State) (k : Nat) (n : Nat) (h : Foot P r s) [Named P .regs] [Named P .nvm] : Foot P r (State.ringErase s k n) := by
  unfold State.ringErase
  try extract_lets
  repeat' first
    | with_reducible assumption | with_reducible apply countErase_foot | with_reducible apply updRegion_foot | with_reducible apply foldl_foot
    | with_reducible apply ite_foot | intro _ | split | contradiction | dsimp only

theorem journalWrite_foot (s : State) (sectorFail : Bool) (h : Foot P r s) [Named P .regs] [Named P .nvm] [Named P .gecko] : Foot P r (State.journalWrite s sectorFail) := by
  unfold State.journalWrite
  try extract_lets
  repeat' first
    | with_reducible assumption | with_reducible apply setRegBit_foot | with_reducible apply sectorsFail_foot
    | (with_reducible refine Eq.mp (congrArg (Foot P r) (congrArg Prod.fst ‹_ = (_, _)›)) (sectorsFail_foot ..)) | with_reducible apply updRegion_foot
    | with_reducible apply ringErase_foot | with_reducible apply startBase_foot | with_reducible apply foldl_foot | with_reducible apply ite_foot
    | intro _ | split | contradiction | dsimp only
    | refine Foot.upd ?_ rfl (.inr rfl) (.inr rfl) (.inr rfl) (.inr rfl) (.inr rfl) (.inr rfl) (.inr rfl) (.inr rfl) (.inr rfl) (.inr rfl) (.inr rfl) (.inr rfl) (.inr rfl) (.inr rfl) (.inr rfl) (.inr rfl) (.inr rfl) (.inr rfl) (.inr rfl) (.inr rfl) Foot.named (.inr rfl) (.inr rfl) (.inr rfl)

theorem updHif_foot (s : State) (f : Hif → Hif) (h : Foot P r s) [Named P .hif] : Foot P r (State.updHif s f) := by
  unfold State.updHif
  try extract_lets
  repeat' first
    | with_reducible assumption | with_reducible apply foldl_foot | with_reducible apply ite_foot | intro _ | split | contradiction | dsimp only
    | refine Foot.upd ?_ rfl (.inr rfl) (.inr rfl) (.inr rfl) (.inr rfl) (.inr rfl) (.inr rfl) (.inr rfl) (.inr rfl) Foot.named (.inr rfl) (.inr rfl) (.inr rfl) (.inr rfl) (.inr rfl) (.inr rfl) (.inr rfl) (.inr rfl) (.inr rfl) (.inr rfl) (.inr rfl) (.inr rfl) (.inr rfl) (.inr rfl) (.inr rfl)

theorem dbRead_foot (s : State) (h : Foot P r s) [Named P .regs] [Named P .hif] : Foot P r (State.dbRead s) := by
  unfold State.dbRead
  try extract_lets
  repeat' first
    | with_reducible assumption | with_reducible apply emitOut_foot | with_reducible apply bump_foot | with_reducible apply updHif_foot
    | with_reducible apply foldl_foot | with_reducible apply ite_foot | intro _ | split | contradiction | dsimp only

theorem pagesEnable_foot (s : State) (h : Foot P r s) [Named P .regs] [Named P .hif] : Foot P r (State.pagesEnable s) := by
  unfold State.pagesEnable
  try extract_lets
  repeat' first
    | with_reducible assumption | with_reducible apply ignored_foot | with_reducible apply setRegBit_foot | with_reducible apply setReg_foot
    | with_reducible apply updHif_foot | with_reducible apply emitOut_foot | with_reducible apply foldl_foot | with_reducible apply ite_foot | intro _
    | split | contradiction | dsimp only

theorem pagesDisable_foot (s : State) (h : Foot P r s) [Named P .regs] : Foot P r (State.pagesDisable s) := by
  unfold State.pagesDisable
  try extract_lets
  repeat' first
    | with_reducible assumption | with_reducible apply setRegBit_foot | with_reducible apply setReg_foot | with_reducible apply foldl_foot
    | with_reducible apply ite_foot | intro _ | split | contradiction | dsimp only

theorem pageTick_foot (s : State) (h : Foot P r s) [Named P .hif] : Foot P r (State.pageTick s) := by
  unfold State.pageTick
  try extract_lets
  repeat' first
    | with_reducible assumption | with_reducible apply updHif_foot | with_reducible apply emitOut_foot | with_reducible apply foldl_foot
    | with_reducible apply ite_foot | intro _ | split | contradiction | dsimp only

theorem freed_foot (s : State) (n : Nat) (k : Nat) (h : Foot P r s) [Named P .regs] [Named P .inlet] [Named P .aeA] [Named P .aeB] [Named P .outlet] [Named P .hif] [Named P .skink] [Named P .spawn] [Named P .fe] [Named P .dio] [Named P .can] [Named P .canWalk] [Named P .gecko] : Foot P r (State.freed s n k) := by
  unfold State.freed
  try extract_lets
  repeat' first
    | with_reducible assumption | with_reducible apply updHif_foot | with_reducible apply eventsConsumed_foot | with_reducible apply updSpawn_foot
    | with_reducible apply foldl_foot | with_reducible apply ite_foot | intro _ | split | contradiction | dsimp only

theorem doorbell_foot (s : State) (n : Nat) (h1 : U32) (h : Foot P r s) [Named P .regs] [Named P .inlet] [Named P .aeA] [Named P .aeB] [Named P .outlet] [Named P .hif] [Named P .skink] [Named P .spawn] [Named P .fe] [Named P .dio] [Named P .can] [Named P .canWalk] [Named P .gecko] : Foot P r (State.doorbell s n h1) := by
  unfold State.doorbell
  try extract_lets
  repeat' first
    | with_reducible assumption | with_reducible apply setReg_foot | with_reducible apply ringError_foot | with_reducible apply setHostIdx_foot
    | with_reducible apply freed_foot | with_reducible apply foldl_foot | with_reducible apply ite_foot | intro _ | split | contradiction | dsimp only

theorem fetchAll_foot (s : State) (h : Foot P r s) [Named P .hif] : Foot P r (State.fetchAll s) := by
  unfold State.fetchAll
  try extract_lets
  repeat' first
    | with_reducible assumption | with_reducible apply fetchMore_foot | with_reducible apply foldl_foot | with_reducible apply ite_foot | intro _
    | split | contradiction | dsimp only

theorem doorbells_foot (s : State) (rsp : DoorbellRsp) (h : Foot P r s) [Named P .regs] [Named P .inlet] [Named P .aeA] [Named P .aeB] [Named P .outlet] [Named P .hif] [Named P .skink] [Named P .spawn] [Named P .fe] [Named P .dio] [Named P .can] [Named P .canWalk] [Named P .gecko] : Foot P r (State.doorbells s rsp) := by
  unfold State.doorbells
  try extract_lets
  repeat' first
    | with_reducible assumption | with_reducible apply recordMax_foot | with_reducible apply updHif_foot | with_reducible apply raise_foot
    | with_reducible apply bump_foot | with_reducible apply fetchAll_foot | with_reducible apply doorbell_foot | with_reducible apply dbRead_foot
    | with_reducible apply foldl_foot | with_reducible apply ite_foot | intro _ | split | contradiction | dsimp only

theorem arrive_foot (s : State) (n : Nat) (data : Image) (h : Foot P r s) [Named P .regs] [Named P .hif] : Foot P r (State.arrive s n data) := by
  unfold State.arrive
  try extract_lets
  repeat' first
    | with_reducible assumption | with_reducible apply updHif_foot | with_reducible apply ringError_foot | with_reducible apply foldl_foot
    | with_reducible apply ite_foot | intro _ | split | contradiction | dsimp only

theorem redeliver_foot (s : State) (n : Nat) (h : Foot P r s) [Named P .outlet] [Named P .hif] [Named P .spawn] : Foot P r (State.redeliver s n) := by
  unfold State.redeliver
  try extract_lets
  repeat' first
    | with_reducible assumption | with_reducible apply updHif_foot | with_reducible apply eventsRewrite_foot | with_reducible apply updSpawn_foot
    | with_reducible apply foldl_foot | with_reducible apply ite_foot | intro _ | split | contradiction | dsimp only

theorem ringStart_foot (s : State) (n : Nat) (h : Foot P r s) [Named P .regs] [Named P .outlet] [Named P .hif] [Named P .spawn] : Foot P r (State.ringStart s n) := by
  unfold State.ringStart
  try extract_lets
  repeat' first
    | with_reducible assumption | with_reducible apply ringError_foot | with_reducible apply setRegBit_foot | with_reducible apply setHostIdx_foot
    | with_reducible apply setReg_foot | with_reducible apply redeliver_foot | with_reducible apply updHif_foot | with_reducible apply foldl_foot
    | with_reducible apply ite_foot | intro _ | split | contradiction | dsimp only

theorem ringStop_foot (s : State) (n : Nat) (h : Foot P r s) [Named P .regs] [Named P .hif] : Foot P r (State.ringStop s n) := by
  unfold State.ringStop
  try extract_lets
  repeat' first
    | with_reducible assumption | with_reducible apply updHif_foot | with_reducible apply setReg_foot | with_reducible apply foldl_foot
    | with_reducible apply ite_foot | intro _ | split | contradiction | dsimp only

theorem ringCtl_foot (s : State) (n : Nat) (v : U32) (h : Foot P r s) [Named P .regs] [Named P .outlet] [Named P .hif] [Named P .spawn] : Foot P r (State.ringCtl s n v) := by
  unfold State.ringCtl
  try extract_lets
  repeat' first
    | with_reducible assumption | with_reducible apply setReg_foot | with_reducible apply ignored_foot | with_reducible apply ringStart_foot
    | with_reducible apply ringStop_foot | with_reducible apply foldl_foot | with_reducible apply ite_foot | intro _ | split | contradiction
    | dsimp only

theorem hifReset_foot (s : State) (h : Foot P r s) [Named P .regs] [Named P .latch] [Named P .hold] [Named P .hif] : Foot P r (State.hifReset s) := by
  unfold State.hifReset
  try extract_lets
  repeat' first
    | with_reducible assumption | with_reducible apply updHif_foot | with_reducible apply setReg_foot | with_reducible apply foldl_foot
    | with_reducible apply ite_foot | intro _ | split | contradiction | dsimp only
    | refine Foot.upd ?_ rfl Foot.named Foot.named Foot.named (.inr rfl) (.inr rfl) (.inr rfl) (.inr rfl) (.inr rfl) (.inr rfl) (.inr rfl) (.inr rfl) (.inr rfl) (.inr rfl) (.inr rfl) (.inr rfl) (.inr rfl) (.inr rfl) (.inr rfl) (.inr rfl) (.inr rfl) (.inr rfl) (.inr rfl) (.inr rfl) (.inr rfl)

theorem linkLost_foot (s : State) (h : Foot P r s) [Named P .regs] [Named P .latch] [Named P .hold] [Named P .hif] : Foot P r (State.linkLost s) := by
  unfold State.linkLost
  try extract_lets
  repeat' first
    | with_reducible assumption | with_reducible apply updHif_foot | with_reducible apply bump_foot | with_reducible apply setRegFld_foot
    | with_reducible apply hifReset_foot | with_reducible apply foldl_foot | with_reducible apply ite_foot | intro _ | split | contradiction
    | dsimp only

theorem linkTrain_foot (s : State) (speed : Nat) (width : Nat) (h : Foot P r s) [Named P .regs] [Named P .hif] : Foot P r (State.linkTrain s speed width) := by
  unfold State.linkTrain
  try extract_lets
  repeat' first
    | with_reducible assumption | with_reducible apply updHif_foot | with_reducible apply setRegFld_foot | with_reducible apply foldl_foot
    | with_reducible apply ite_foot | intro _ | split | contradiction | dsimp only

theorem kickNow_foot (s : State) (h : Foot P r s) [Named P .regs] [Named P .hif] : Foot P r (State.kickNow s) := by
  unfold State.kickNow
  try extract_lets
  repeat' first
    | with_reducible assumption | with_reducible apply bump_foot | with_reducible apply updHif_foot | with_reducible apply dbRead_foot
    | with_reducible apply foldl_foot | with_reducible apply ite_foot | intro _ | split | contradiction | dsimp only

theorem unmask_foot (s : State) (vec : Nat) (h : Foot P r s) [Named P .regs] : Foot P r (State.unmask s vec) := by
  unfold State.unmask
  try extract_lets
  repeat' first
    | with_reducible assumption | with_reducible apply setRegBit_foot | with_reducible apply emitOut_foot | with_reducible apply foldl_foot
    | with_reducible apply ite_foot | intro _ | split | contradiction | dsimp only

theorem hifCtl_foot (s : State) (v : U32) (h : Foot P r s) [Named P .regs] [Named P .hif] : Foot P r (State.hifCtl s v) := by
  unfold State.hifCtl
  try extract_lets
  repeat' first
    | with_reducible assumption | with_reducible apply pagesEnable_foot | with_reducible apply pagesDisable_foot | with_reducible apply foldl_foot
    | with_reducible apply ite_foot | intro _ | split | contradiction | dsimp only

theorem legFlush_foot (s : State) (h : Foot P r s) [Named P .regs] [Named P .outlet] : Foot P r (State.legFlush s) := by
  unfold State.legFlush
  try extract_lets
  repeat' first
    | with_reducible assumption | with_reducible apply updOutlet_foot | with_reducible apply ignored_foot | with_reducible apply foldl_foot
    | with_reducible apply ite_foot | intro _ | split | contradiction | dsimp only

theorem legW0Read_foot (s : State) (h : Foot P r s) [Named P .outlet] [Named P .hostRead] : Foot P r (State.legW0Read s) := by
  unfold State.legW0Read
  try extract_lets
  repeat' first
    | with_reducible assumption | with_reducible apply updOutlet_foot | with_reducible apply foldl_foot | with_reducible apply ite_foot | intro _
    | split | contradiction | dsimp only
    | refine Foot.upd ?_ rfl (.inr rfl) (.inr rfl) (.inr rfl) (.inr rfl) (.inr rfl) (.inr rfl) (.inr rfl) (.inr rfl) (.inr rfl) (.inr rfl) (.inr rfl) (.inr rfl) (.inr rfl) (.inr rfl) (.inr rfl) (.inr rfl) (.inr rfl) (.inr rfl) (.inr rfl) (.inr rfl) (.inr rfl) (.inr rfl) Foot.named (.inr rfl)

theorem legW3Read_foot (s : State) (h : Foot P r s) [Named P .outlet] [Named P .hostRead] : Foot P r (State.legW3Read s) := by
  unfold State.legW3Read
  try extract_lets
  repeat' first
    | with_reducible assumption | with_reducible apply updOutlet_foot | with_reducible apply foldl_foot | with_reducible apply ite_foot | intro _
    | split | contradiction | dsimp only
    | refine Foot.upd ?_ rfl (.inr rfl) (.inr rfl) (.inr rfl) (.inr rfl) (.inr rfl) (.inr rfl) (.inr rfl) (.inr rfl) (.inr rfl) (.inr rfl) (.inr rfl) (.inr rfl) (.inr rfl) (.inr rfl) (.inr rfl) (.inr rfl) (.inr rfl) (.inr rfl) (.inr rfl) (.inr rfl) (.inr rfl) (.inr rfl) Foot.named (.inr rfl)

theorem pushUnit_foot (s : State) (u : SpawnUnit) (h : Foot P r s) [Named P .spawn] : Foot P r (State.pushUnit s u) := by
  unfold State.pushUnit
  try extract_lets
  repeat' first
    | with_reducible assumption | with_reducible apply updSpawn_foot | with_reducible apply foldl_foot | with_reducible apply ite_foot | intro _
    | split | contradiction | dsimp only

theorem abandonUnits_foot (s : State) (f : SpawnUnit → Bool) (h : Foot P r s) [Named P .spawn] : Foot P r (State.abandonUnits s f) := by
  unfold State.abandonUnits
  try extract_lets
  repeat' first
    | with_reducible assumption | with_reducible apply updSpawn_foot | with_reducible apply foldl_foot | with_reducible apply ite_foot | intro _
    | split | contradiction | dsimp only

theorem snapshotSent_foot (s : State) (isn : U64) (h : Foot P r s) [Named P .regs] [Named P .spawn] : Foot P r (State.snapshotSent s isn) := by
  unfold State.snapshotSent
  try extract_lets
  repeat' first
    | with_reducible assumption | with_reducible apply bump_foot | with_reducible apply updSpawn_foot | with_reducible apply setRegBit_foot
    | with_reducible apply setCap_foot | with_reducible apply foldl_foot | with_reducible apply ite_foot | intro _ | split | contradiction
    | dsimp only

theorem unitSent_foot (s : State) (u : SpawnUnit) (h : Foot P r s) [Named P .regs] [Named P .hif] [Named P .spawn] : Foot P r (State.unitSent s u) := by
  unfold State.unitSent
  try extract_lets
  repeat' first
    | with_reducible assumption | with_reducible apply snapshotSent_foot | with_reducible apply splitApply_foot | with_reducible apply setCap_foot
    | with_reducible apply foldl_foot | with_reducible apply ite_foot | intro _ | split | contradiction | dsimp only

theorem rewriteBuf_foot (s : State) (addr : Nat) (h : Foot P r s) [Named P .regs] [Named P .hif] [Named P .spawn] : Foot P r (State.rewriteBuf s addr) := by
  unfold State.rewriteBuf
  try extract_lets
  repeat' first
    | with_reducible assumption | with_reducible apply postBuffer_foot | with_reducible apply updSpawn_foot | with_reducible apply foldl_foot
    | with_reducible apply ite_foot | intro _ | split | contradiction | dsimp only

theorem writeBuf_foot (s : State) (addr : Nat) (h : Foot P r s) [Named P .regs] [Named P .hif] [Named P .spawn] : Foot P r (State.writeBuf s addr) := by
  unfold State.writeBuf
  try extract_lets
  repeat' first
    | with_reducible assumption | with_reducible apply postBuffer_foot | with_reducible apply setPair_foot | with_reducible apply unitSent_foot
    | with_reducible apply foldl_foot | with_reducible apply ite_foot | intro _ | split | contradiction | dsimp only
    | refine Foot.upd ?_ rfl (.inr rfl) (.inr rfl) (.inr rfl) (.inr rfl) (.inr rfl) (.inr rfl) (.inr rfl) (.inr rfl) (.inr rfl) (.inr rfl) Foot.named (.inr rfl) (.inr rfl) (.inr rfl) (.inr rfl) (.inr rfl) (.inr rfl) (.inr rfl) (.inr rfl) (.inr rfl) (.inr rfl) (.inr rfl) (.inr rfl) (.inr rfl)

theorem startCapture_foot (s : State) (mode : Nat) (d : Desc) (h : Foot P r s) [Named P .regs] [Named P .spawn] : Foot P r (State.startCapture s mode d) := by
  unfold State.startCapture
  try extract_lets
  repeat' first
    | with_reducible assumption | with_reducible apply setRegFld_foot | with_reducible apply setReg_foot | with_reducible apply setPair_foot
    | with_reducible apply updSpawn_foot | with_reducible apply setCap_foot | with_reducible apply setRegBit_foot | with_reducible apply foldl_foot
    | with_reducible apply ite_foot | intro _ | split | contradiction | dsimp only

theorem stopCapture_foot (s : State) (h : Foot P r s) [Named P .regs] [Named P .hif] [Named P .spawn] : Foot P r (State.stopCapture s) := by
  unfold State.stopCapture
  try extract_lets
  repeat' first
    | with_reducible assumption | with_reducible apply abandonUnits_foot | with_reducible apply updSpawn_foot | with_reducible apply splitApply_foot
    | with_reducible apply setRegFld_foot | with_reducible apply foldl_foot | with_reducible apply ite_foot | intro _ | split | contradiction
    | dsimp only
    | refine Foot.upd ?_ rfl (.inr rfl) (.inr rfl) (.inr rfl) (.inr rfl) (.inr rfl) (.inr rfl) (.inr rfl) (.inr rfl) (.inr rfl) (.inr rfl) Foot.named (.inr rfl) (.inr rfl) (.inr rfl) (.inr rfl) (.inr rfl) (.inr rfl) (.inr rfl) (.inr rfl) (.inr rfl) (.inr rfl) (.inr rfl) (.inr rfl) (.inr rfl)

theorem spawnCtl_foot (s : State) (img : Image) (d : Desc) (h : Foot P r s) [Named P .regs] [Named P .hif] [Named P .spawn] : Foot P r (State.spawnCtl s img d) := by
  unfold State.spawnCtl
  dsimp only
  repeat' first
    | with_reducible assumption | with_reducible apply done_foot | with_reducible apply stopCapture_foot | with_reducible apply setRegFld_foot
    | with_reducible apply updSpawn_foot | with_reducible apply startCapture_foot | with_reducible apply foldl_foot | with_reducible apply ite_foot
    | intro _ | split | contradiction | dsimp only

theorem spawnTrigger_foot (s : State) (d : Desc) (h : Foot P r s) [Named P .regs] [Named P .hif] [Named P .spawn] : Foot P r (State.spawnTrigger s d) := by
  unfold State.spawnTrigger
  try extract_lets
  repeat' first
    | with_reducible assumption | with_reducible apply done_foot | with_reducible apply trigger_foot | with_reducible apply foldl_foot
    | with_reducible apply ite_foot | intro _ | split | contradiction | dsimp only

theorem markOffer_foot (s : State) (h : Foot P r s) [Named P .regs] [Named P .inlet] [Named P .spawn] [Named P .gecko] : Foot P r (State.markOffer s) := by
  unfold State.markOffer
  try extract_lets
  repeat' first
    | with_reducible assumption | with_reducible apply offer_foot | with_reducible apply updSpawn_foot | with_reducible apply foldl_foot
    | with_reducible apply ite_foot | intro _ | split | contradiction | dsimp only

theorem copyComplete_foot (s : State) (h : Foot P r s) [Named P .spawn] : Foot P r (State.copyComplete s) := by
  unfold State.copyComplete
  try extract_lets
  repeat' first
    | with_reducible assumption | with_reducible apply pushUnit_foot | with_reducible apply foldl_foot | with_reducible apply ite_foot | intro _
    | split | contradiction | dsimp only

theorem snapExpire_foot (s : State) (h : Foot P r s) [Named P .regs] [Named P .hif] [Named P .spawn] : Foot P r (State.snapExpire s) := by
  unfold State.snapExpire
  try extract_lets
  repeat' first
    | with_reducible assumption | with_reducible apply abandonUnits_foot | with_reducible apply pushUnit_foot | with_reducible apply updSpawn_foot
    | with_reducible apply bump_foot | with_reducible apply raise_foot | with_reducible apply setRegBit_foot | with_reducible apply splitApply_foot
    | with_reducible apply setRegFld_foot | with_reducible apply setCap_foot | with_reducible apply foldl_foot | with_reducible apply ite_foot
    | intro _ | split | contradiction | dsimp only

theorem ckptGiveUp_foot (s : State) (h : Foot P r s) [Named P .regs] [Named P .spawn] : Foot P r (State.ckptGiveUp s) := by
  unfold State.ckptGiveUp
  try extract_lets
  repeat' first
    | with_reducible assumption | with_reducible apply setRegBit_foot | with_reducible apply updSpawn_foot | with_reducible apply foldl_foot
    | with_reducible apply ite_foot | intro _ | split | contradiction | dsimp only

theorem ckptSnapshot_foot (s : State) (recs : List Byte) (h : Foot P r s) [Named P .regs] [Named P .spawn] : Foot P r (State.ckptSnapshot s recs) := by
  unfold State.ckptSnapshot
  try extract_lets
  repeat' first
    | with_reducible assumption | with_reducible apply ckptGiveUp_foot | with_reducible apply bump_foot | with_reducible apply pushUnit_foot
    | with_reducible apply updSpawn_foot | with_reducible apply foldl_foot | with_reducible apply ite_foot | intro _ | split | contradiction
    | dsimp only

theorem putBehind_foot (s : State) (h : Foot P r s) [Named P .regs] [Named P .spawn] [Named P .gecko] : Foot P r (State.putBehind s) := by
  unfold State.putBehind
  try extract_lets
  repeat' first
    | with_reducible assumption | with_reducible apply ringPut_foot | with_reducible apply updSpawn_foot | with_reducible apply foldl_foot
    | with_reducible apply ite_foot | intro _ | split | contradiction | dsimp only

theorem takeCkpt_foot (s : State) (h : Foot P r s) [Named P .regs] [Named P .spawn] [Named P .gecko] : Foot P r (State.takeCkpt s) := by
  unfold State.takeCkpt
  try extract_lets
  repeat' first
    | with_reducible assumption | with_reducible apply updSpawn_foot | with_reducible apply ckptGiveUp_foot | with_reducible apply putBehind_foot
    | with_reducible apply ringPut_foot | with_reducible apply countPost_foot | with_reducible apply setReg_foot | with_reducible apply bump_foot
    | with_reducible apply raise_foot | with_reducible apply ckptSnapshot_foot | with_reducible apply foldl_foot | with_reducible apply ite_foot
    | intro _ | split | contradiction | dsimp only

theorem freeze_foot (s : State) (h : Foot P r s) [Named P .regs] [Named P .spawn] : Foot P r (State.freeze s) := by
  unfold State.freeze
  try extract_lets
  repeat' first
    | with_reducible assumption | with_reducible apply pushUnit_foot | with_reducible apply raise_foot | with_reducible apply setCap_foot
    | with_reducible apply foldl_foot | with_reducible apply ite_foot | intro _ | split | contradiction | dsimp only

theorem spawnOut_foot (s : State) (addr : Option Nat) (h : Foot P r s) [Named P .regs] [Named P .hif] [Named P .spawn] : Foot P r (State.spawnOut s addr) := by
  unfold State.spawnOut
  try extract_lets
  repeat' first
    | with_reducible assumption | with_reducible apply postBuffer_foot | with_reducible apply rewriteBuf_foot | with_reducible apply writeBuf_foot
    | with_reducible apply foldl_foot | with_reducible apply ite_foot | intro _ | split | contradiction | dsimp only

theorem updGecko_foot (s : State) (f : Gecko → Gecko) (h : Foot P r s) [Named P .gecko] : Foot P r (State.updGecko s f) := by
  unfold State.updGecko
  try extract_lets
  repeat' first
    | with_reducible assumption | with_reducible apply foldl_foot | with_reducible apply ite_foot | intro _ | split | contradiction | dsimp only
    | refine Foot.upd ?_ rfl (.inr rfl) (.inr rfl) (.inr rfl) (.inr rfl) (.inr rfl) (.inr rfl) (.inr rfl) (.inr rfl) (.inr rfl) (.inr rfl) (.inr rfl) (.inr rfl) (.inr rfl) (.inr rfl) (.inr rfl) (.inr rfl) (.inr rfl) (.inr rfl) (.inr rfl) (.inr rfl) Foot.named (.inr rfl) (.inr rfl) (.inr rfl)

theorem ceFound_foot (s : State) (w : Off) (h : Foot P r s) [Named P .regs] [Named P .gecko] : Foot P r (State.ceFound s w) := by
  unfold State.ceFound
  try extract_lets
  repeat' first
    | with_reducible assumption | with_reducible apply setReg_foot | with_reducible apply bump_foot | with_reducible apply raise_foot
    | with_reducible apply updGecko_foot | with_reducible apply foldl_foot | with_reducible apply ite_foot | intro _ | split | contradiction
    | dsimp only

theorem correctedError_foot (s : State) (o : Off) (h : Foot P r s) [Named P .regs] [Named P .gecko] : Foot P r (State.correctedError s o) := by
  unfold State.correctedError
  try extract_lets
  repeat' first
    | with_reducible assumption | with_reducible apply ceFound_foot | with_reducible apply updGecko_foot | with_reducible apply foldl_foot
    | with_reducible apply ite_foot | intro _ | split | contradiction | dsimp only

theorem scrubLine_foot (s : State) (b : Nat) (line : Nat) (h : Foot P r s) [Named P .regs] [Named P .gecko] : Foot P r (State.scrubLine s b line) := by
  unfold State.scrubLine
  try extract_lets
  repeat' first
    | with_reducible assumption | with_reducible apply ceFound_foot | with_reducible apply updGecko_foot | with_reducible apply foldl_foot
    | with_reducible apply ite_foot | intro _ | split | contradiction | dsimp only

theorem scrubSlot_foot (s : State) (b : Nat) (h : Foot P r s) [Named P .regs] [Named P .gecko] : Foot P r (State.scrubSlot s b) := by
  unfold State.scrubSlot
  try extract_lets
  repeat' first
    | with_reducible assumption | with_reducible apply updGecko_foot | with_reducible apply scrubLine_foot | with_reducible apply foldl_foot
    | with_reducible apply ite_foot | intro _ | split | contradiction | dsimp only

theorem eccOffer_foot (s : State) (w : Off) (h : Foot P r s) [Named P .regs] [Named P .inlet] [Named P .gecko] : Foot P r (State.eccOffer s w) := by
  unfold State.eccOffer
  try extract_lets
  repeat' first
    | with_reducible assumption | with_reducible apply offer_foot | with_reducible apply foldl_foot | with_reducible apply ite_foot | intro _ | split
    | contradiction | dsimp only

theorem repairsDue_foot (s : State) (h : Foot P r s) [Named P .regs] [Named P .inlet] [Named P .gecko] : Foot P r (State.repairsDue s) := by
  unfold State.repairsDue
  try extract_lets
  repeat' first
    | with_reducible assumption | with_reducible apply updGecko_foot | with_reducible apply eccOffer_foot | with_reducible apply foldl_foot
    | with_reducible apply ite_foot | intro _ | split | contradiction | dsimp only

theorem ueMark_foot (s : State) (w : Off) (h : Foot P r s) [Named P .regs] [Named P .inlet] [Named P .gecko] : Foot P r (State.ueMark s w) := by
  unfold State.ueMark
  try extract_lets
  repeat' first
    | with_reducible assumption | with_reducible apply eccOffer_foot | with_reducible apply updGecko_foot | with_reducible apply foldl_foot
    | with_reducible apply ite_foot | intro _ | split | contradiction | dsimp only

theorem ueState_foot (s : State) (w : Off) (h : Foot P r s) [Named P .aeA] [Named P .aeB] : Foot P r (State.ueState s w) := by
  unfold State.ueState
  try extract_lets
  repeat' first
    | with_reducible assumption | with_reducible apply updEng_foot | with_reducible apply foldl_foot | with_reducible apply ite_foot | intro _ | split
    | contradiction | dsimp only

theorem ueWindow_foot (s : State) (w : Off) (h : Foot P r s) [Named P .regs] [Named P .inlet] [Named P .aeA] [Named P .aeB] [Named P .outlet] [Named P .hif] [Named P .skink] [Named P .spawn] [Named P .fe] [Named P .dio] [Named P .can] [Named P .canWalk] [Named P .gecko] : Foot P r (State.ueWindow s w) := by
  unfold State.ueWindow
  try extract_lets
  repeat' first
    | with_reducible assumption | with_reducible apply failEngine_foot | with_reducible apply foldl_foot | with_reducible apply ite_foot | intro _
    | split | contradiction | dsimp only

theorem ueBacklog_foot (s : State) (o : Off) (h : Foot P r s) [Named P .outlet] : Foot P r (State.ueBacklog s o) := by
  unfold State.ueBacklog
  try extract_lets
  repeat' first
    | with_reducible assumption | with_reducible apply updOutlet_foot | with_reducible apply foldl_foot | with_reducible apply ite_foot | intro _
    | split | contradiction | dsimp only

theorem ueSpawn_foot (s : State) (o : Off) (h : Foot P r s) [Named P .regs] [Named P .hif] [Named P .spawn] : Foot P r (State.ueSpawn s o) := by
  unfold State.ueSpawn
  try extract_lets
  repeat' first
    | with_reducible assumption | with_reducible apply snapExpire_foot | with_reducible apply bump_foot | with_reducible apply abandonUnits_foot
    | with_reducible apply splitApply_foot | with_reducible apply endContinuous_foot | with_reducible apply updSpawn_foot
    | with_reducible apply setCap_foot | with_reducible apply foldl_foot | with_reducible apply ite_foot | intro _ | split | contradiction
    | dsimp only

theorem ueTrend_foot (s : State) (w : Off) (h : Foot P r s) [Named P .tarn] [Named P .outlet] [Named P .gecko] : Foot P r (State.ueTrend s w) := by
  unfold State.ueTrend
  try extract_lets
  repeat' first
    | with_reducible assumption | with_reducible apply updOutlet_foot | with_reducible apply tarnStore_foot | with_reducible apply foldl_foot
    | with_reducible apply ite_foot | intro _ | split | contradiction | dsimp only

theorem ueAct_foot (s : State) (w : Off) (h : Foot P r s) [Named P .regs] [Named P .tarn] [Named P .inlet] [Named P .aeA] [Named P .aeB] [Named P .outlet] [Named P .hif] [Named P .skink] [Named P .spawn] [Named P .fe] [Named P .dio] [Named P .can] [Named P .canWalk] [Named P .gecko] : Foot P r (State.ueAct s w) := by
  unfold State.ueAct
  try extract_lets
  repeat' first
    | with_reducible assumption | with_reducible apply ueMark_foot | with_reducible apply raise_foot | with_reducible apply ueState_foot
    | with_reducible apply ueTrend_foot | with_reducible apply tarnStore_foot | with_reducible apply ueWindow_foot
    | with_reducible apply ueBacklog_foot | with_reducible apply ueSpawn_foot | with_reducible apply foldl_foot | with_reducible apply ite_foot
    | intro _ | split | contradiction | dsimp only

theorem uncorrectable_foot (s : State) (o : Off) (h : Foot P r s) [Named P .regs] [Named P .tarn] [Named P .inlet] [Named P .aeA] [Named P .aeB] [Named P .outlet] [Named P .hif] [Named P .skink] [Named P .spawn] [Named P .fe] [Named P .dio] [Named P .can] [Named P .canWalk] [Named P .gecko] : Foot P r (State.uncorrectable s o) := by
  unfold State.uncorrectable
  try extract_lets
  repeat' first
    | with_reducible assumption | with_reducible apply setReg_foot | with_reducible apply bump_foot | with_reducible apply ueAct_foot
    | with_reducible apply raise_foot | with_reducible apply updGecko_foot | with_reducible apply foldl_foot | with_reducible apply ite_foot | intro _
    | split | contradiction | dsimp only

theorem tcmScrub_foot (s : State) (corrected : Nat) (h : Foot P r s) [Named P .regs] [Named P .gecko] : Foot P r (State.tcmScrub s corrected) := by
  unfold State.tcmScrub
  try extract_lets
  repeat' first
    | with_reducible assumption | with_reducible apply raise_foot | with_reducible apply bumpBy_foot | with_reducible apply updGecko_foot
    | with_reducible apply foldl_foot | with_reducible apply ite_foot | intro _ | split | contradiction | dsimp only

theorem digestRewrite_foot (s : State) (h : Foot P r s) [Named P .regs] [Named P .nvm] [Named P .gecko] : Foot P r (State.digestRewrite s) := by
  unfold State.digestRewrite
  try extract_lets
  repeat' first
    | with_reducible assumption | with_reducible apply writeSlot_foot | with_reducible apply setRegBit_foot | with_reducible apply updGecko_foot
    | with_reducible apply foldl_foot | with_reducible apply ite_foot | intro _ | split | contradiction | dsimp only

theorem telemetry_foot (s : State) (t : TelemEnv) (h : Foot P r s) [Named P .regs] [Named P .hif] [Named P .gecko] : Foot P r (State.telemetry s t) := by
  unfold State.telemetry
  try extract_lets
  repeat' first
    | with_reducible assumption | with_reducible apply setReg_foot | with_reducible apply setRegBit_foot | with_reducible apply updGecko_foot
    | with_reducible apply raise_foot | with_reducible apply postLossy_foot | with_reducible apply foldl_foot | with_reducible apply ite_foot
    | intro _ | split | contradiction | dsimp only

theorem legPtEnd_foot (s : State) (reason : Nat) (h : Foot P r s) [Named P .regs] : Foot P r (State.legPtEnd s reason) := by
  unfold State.legPtEnd
  try extract_lets
  repeat' first
    | with_reducible assumption | with_reducible apply setReg_foot | with_reducible apply bump_foot | with_reducible apply foldl_foot
    | with_reducible apply ite_foot | intro _ | split | contradiction | dsimp only

theorem setLegWords_foot (s : State) (l : List Byte) (h : Foot P r s) [Named P .regs] : Foot P r (State.setLegWords s l) := by
  unfold State.setLegWords
  try extract_lets
  repeat' first
    | with_reducible assumption | with_reducible apply setReg_foot | with_reducible apply foldl_foot | with_reducible apply ite_foot | intro _ | split
    | contradiction | dsimp only

theorem legPtWrite_foot (s : State) (h : Foot P r s) [Named P .regs] [Named P .tarn] [Named P .gecko] : Foot P r (State.legPtWrite s) := by
  unfold State.legPtWrite
  try extract_lets
  repeat' first
    | with_reducible assumption | with_reducible apply ignored_foot | with_reducible apply legPtEnd_foot | with_reducible apply setDirty_foot
    | with_reducible apply tarnStore_foot | with_reducible apply foldl_foot | with_reducible apply ite_foot | intro _ | split | contradiction
    | dsimp only

theorem legPtRead_foot (s : State) (h : Foot P r s) [Named P .regs] : Foot P r (State.legPtRead s) := by
  unfold State.legPtRead
  try extract_lets
  repeat' first
    | with_reducible assumption | with_reducible apply ignored_foot | with_reducible apply legPtEnd_foot | with_reducible apply setLegWords_foot
    | with_reducible apply foldl_foot | with_reducible apply ite_foot | intro _ | split | contradiction | dsimp only

theorem takeOver_foot (s : State) (h : Foot P r s) [Named P .regs] [Named P .inlet] [Named P .aeA] [Named P .aeB] [Named P .skink] [Named P .gecko] : Foot P r (State.takeOver s) := by
  unfold State.takeOver
  try extract_lets
  repeat' first
    | with_reducible assumption | with_reducible apply offerStatus_foot | with_reducible apply raise_foot | with_reducible apply bump_foot
    | with_reducible apply grantHold_foot | with_reducible apply foldl_foot | with_reducible apply ite_foot | intro _ | split | contradiction
    | dsimp only

theorem takeBack_foot (s : State) (h : Foot P r s) [Named P .regs] [Named P .inlet] [Named P .aeA] [Named P .aeB] [Named P .skink] [Named P .gecko] : Foot P r (State.takeBack s) := by
  unfold State.takeBack
  try extract_lets
  repeat' first
    | with_reducible assumption | with_reducible apply offerStatus_foot | with_reducible apply raise_foot | with_reducible apply bump_foot
    | with_reducible apply grantHold_foot | with_reducible apply releaseHold_foot | with_reducible apply foldl_foot | with_reducible apply ite_foot
    | intro _ | split | contradiction | dsimp only

theorem failAgain_foot (s : State) (e : EngineId) (cause : Nat) (h : Foot P r s) [Named P .regs] [Named P .inlet] [Named P .aeA] [Named P .aeB] [Named P .gecko] : Foot P r (State.failAgain s e cause) := by
  unfold State.failAgain
  try extract_lets
  repeat' first
    | with_reducible assumption | with_reducible apply offerStatus_foot | with_reducible apply recordFailure_foot | with_reducible apply foldl_foot
    | with_reducible apply ite_foot | intro _ | split | contradiction | dsimp only

theorem returnTest_foot (s : State) (e : EngineId) (pass : Bool) (h : Foot P r s) [Named P .regs] [Named P .inlet] [Named P .aeA] [Named P .aeB] [Named P .skink] [Named P .gecko] : Foot P r (State.returnTest s e pass) := by
  unfold State.returnTest
  try extract_lets
  repeat' first
    | with_reducible assumption | with_reducible apply failAgain_foot | with_reducible apply updEng_foot | with_reducible apply updSkink_foot
    | with_reducible apply offerResync_foot | with_reducible apply foldl_foot | with_reducible apply ite_foot | intro _ | split | contradiction
    | dsimp only

theorem copyDone_foot (s : State) (verified : Bool) (h : Foot P r s) [Named P .regs] [Named P .inlet] [Named P .aeA] [Named P .aeB] [Named P .outlet] [Named P .skink] [Named P .gecko] : Foot P r (State.copyDone s verified) := by
  unfold State.copyDone
  try extract_lets
  repeat' first
    | with_reducible assumption | with_reducible apply updEng_foot | with_reducible apply updSkink_foot | with_reducible apply failAgain_foot
    | with_reducible apply setEng_foot | with_reducible apply rewritten_foot | with_reducible apply offerStatus_foot
    | with_reducible apply setChain_foot | with_reducible apply foldl_foot | with_reducible apply ite_foot | intro _ | split | contradiction
    | dsimp only

theorem holdoffOver_foot (s : State) (e : EngineId) (h : Foot P r s) [Named P .regs] [Named P .inlet] [Named P .aeA] [Named P .aeB] [Named P .gecko] : Foot P r (State.holdoffOver s e) := by
  unfold State.holdoffOver
  try extract_lets
  repeat' first
    | with_reducible assumption | with_reducible apply offerStatus_foot | with_reducible apply updEng_foot | with_reducible apply foldl_foot
    | with_reducible apply ite_foot | intro _ | split | contradiction | dsimp only

theorem auditOffer_foot (s : State) (h : Foot P r s) [Named P .regs] [Named P .inlet] [Named P .skink] [Named P .gecko] : Foot P r (State.auditOffer s) := by
  unfold State.auditOffer
  try extract_lets
  repeat' first
    | with_reducible assumption | with_reducible apply updSkink_foot | with_reducible apply bump_foot | with_reducible apply offerResync_foot
    | with_reducible apply foldl_foot | with_reducible apply ite_foot | intro _ | split | contradiction | dsimp only

theorem auditCompare_foot (s : State) (h : Foot P r s) [Named P .regs] [Named P .inlet] [Named P .aeA] [Named P .aeB] [Named P .skink] [Named P .gecko] : Foot P r (State.auditCompare s) := by
  unfold State.auditCompare
  try extract_lets
  repeat' first
    | with_reducible assumption | with_reducible apply updEng_foot | with_reducible apply updSkink_foot | with_reducible apply offerDiverge_foot
    | with_reducible apply foldl_foot | with_reducible apply ite_foot | intro _ | split | contradiction | dsimp only

theorem offerRepairs_foot (s : State) (block : Nat) (idx : List Nat) (h : Foot P r s) [Named P .regs] [Named P .inlet] [Named P .gecko] : Foot P r (State.offerRepairs s block idx) := by
  unfold State.offerRepairs
  try extract_lets
  repeat' first
    | with_reducible assumption | with_reducible apply offerResync_foot | with_reducible apply foldl_foot | with_reducible apply ite_foot | intro _
    | split | contradiction | dsimp only

theorem resolve_foot (s : State) (h : Foot P r s) [Named P .regs] [Named P .inlet] [Named P .aeA] [Named P .aeB] [Named P .outlet] [Named P .hif] [Named P .skink] [Named P .spawn] [Named P .fe] [Named P .dio] [Named P .can] [Named P .canWalk] [Named P .gecko] : Foot P r (State.resolve s) := by
  unfold State.resolve
  try extract_lets
  repeat' first
    | with_reducible assumption | with_reducible apply divergeDone_foot | with_reducible apply failEngine_foot
    | with_reducible apply offerRepairs_foot | with_reducible apply foldl_foot | with_reducible apply ite_foot | intro _ | split | contradiction
    | dsimp only

theorem removeEngine_foot (s : State) (e : EngineId) (h : Foot P r s) [Named P .regs] [Named P .inlet] [Named P .aeA] [Named P .aeB] [Named P .outlet] [Named P .hif] [Named P .skink] [Named P .spawn] [Named P .fe] [Named P .dio] [Named P .can] [Named P .canWalk] [Named P .gecko] : Foot P r (State.removeEngine s e) := by
  unfold State.removeEngine
  try extract_lets
  repeat' first
    | with_reducible assumption | with_reducible apply failEngine_foot | with_reducible apply foldl_foot | with_reducible apply ite_foot | intro _
    | split | contradiction | dsimp only

theorem engineCtl_foot (s : State) (d : Desc) (h : Foot P r s) [Named P .regs] [Named P .inlet] [Named P .aeA] [Named P .aeB] [Named P .outlet] [Named P .hif] [Named P .skink] [Named P .spawn] [Named P .fe] [Named P .dio] [Named P .can] [Named P .canWalk] [Named P .gecko] : Foot P r (State.engineCtl s d) := by
  unfold State.engineCtl
  try extract_lets
  repeat' first
    | with_reducible assumption | with_reducible apply done_foot | with_reducible apply updSkink_foot | with_reducible apply removeEngine_foot
    | with_reducible apply offerStatus_foot | with_reducible apply updEng_foot | with_reducible apply foldl_foot | with_reducible apply ite_foot
    | intro _ | split | contradiction | dsimp only

theorem dropClaim_foot (s : State) (h : Foot P r s) [Named P .skink] : Foot P r (State.dropClaim s) := by
  unfold State.dropClaim
  try extract_lets
  repeat' first
    | with_reducible assumption | with_reducible apply emitOut_foot | with_reducible apply updSkink_foot | with_reducible apply foldl_foot
    | with_reducible apply ite_foot | intro _ | split | contradiction | dsimp only

theorem intlkIn_foot (s : State) (high : Bool) (h : Foot P r s) [Named P .regs] [Named P .skink] : Foot P r (State.intlkIn s high) := by
  unfold State.intlkIn
  try extract_lets
  repeat' first
    | with_reducible assumption | with_reducible apply updSkink_foot | with_reducible apply raise_foot | with_reducible apply bump_foot
    | with_reducible apply dropClaim_foot | with_reducible apply foldl_foot | with_reducible apply ite_foot | intro _ | split | contradiction
    | dsimp only

theorem pairClaim_foot (s : State) (h : Foot P r s) [Named P .regs] [Named P .skink] : Foot P r (State.pairClaim s) := by
  unfold State.pairClaim
  try extract_lets
  repeat' first
    | with_reducible assumption | with_reducible apply raise_foot | with_reducible apply emitOut_foot | with_reducible apply bump_foot
    | with_reducible apply updSkink_foot | with_reducible apply foldl_foot | with_reducible apply ite_foot | intro _ | split | contradiction
    | dsimp only

theorem sharedOff_foot (s : State) (h : Foot P r s) [Named P .regs] [Named P .dio] : Foot P r (State.sharedOff s) := by
  unfold State.sharedOff
  try extract_lets
  repeat' first
    | with_reducible assumption | with_reducible apply extraFrames_foot | with_reducible apply frameOf_foot | with_reducible apply foldl_foot
    | with_reducible apply ite_foot | intro _ | split | contradiction | dsimp only

theorem pairRelease_foot (s : State) (h : Foot P r s) [Named P .regs] [Named P .skink] [Named P .dio] : Foot P r (State.pairRelease s) := by
  unfold State.pairRelease
  try extract_lets
  repeat' first
    | with_reducible assumption | with_reducible apply dropClaim_foot | with_reducible apply sharedOff_foot | with_reducible apply updSkink_foot
    | with_reducible apply foldl_foot | with_reducible apply ite_foot | intro _ | split | contradiction | dsimp only

theorem pairLost_foot (s : State) (h : Foot P r s) [Named P .regs] : Foot P r (State.pairLost s) := by
  unfold State.pairLost
  try extract_lets
  repeat' first
    | with_reducible assumption | with_reducible apply raise_foot | with_reducible apply bump_foot | with_reducible apply foldl_foot
    | with_reducible apply ite_foot | intro _ | split | contradiction | dsimp only

theorem pairEnabled_foot (s : State) (before : State) (h : Foot P r s) [Named P .regs] : Foot P r (State.pairEnabled s before) := by
  unfold State.pairEnabled
  try extract_lets
  repeat' first
    | with_reducible assumption | with_reducible apply pairLost_foot | with_reducible apply foldl_foot | with_reducible apply ite_foot | intro _
    | split | contradiction | dsimp only

theorem pairSense_foot (s : State) (high : Bool) (h : Foot P r s) [Named P .regs] [Named P .skink] : Foot P r (State.pairSense s high) := by
  unfold State.pairSense
  try extract_lets
  repeat' first
    | with_reducible assumption | with_reducible apply updSkink_foot | with_reducible apply pairLost_foot | with_reducible apply foldl_foot
    | with_reducible apply ite_foot | intro _ | split | contradiction | dsimp only

theorem inject_foot (s : State) (e : EngineId) (v : U32) (h : Foot P r s) [Named P .regs] [Named P .inlet] [Named P .aeA] [Named P .aeB] [Named P .outlet] [Named P .hif] [Named P .skink] [Named P .spawn] [Named P .fe] [Named P .dio] [Named P .can] [Named P .canWalk] [Named P .gecko] : Foot P r (State.inject s e v) := by
  unfold State.inject
  try extract_lets
  repeat' first
    | with_reducible assumption | with_reducible apply failEngine_foot | with_reducible apply failOut_foot | with_reducible apply ignored_foot
    | with_reducible apply foldl_foot | with_reducible apply ite_foot | intro _ | split | contradiction | dsimp only

theorem updWs_foot (s : State) (f : Wellspring → Wellspring) (h : Foot P r s) [Named P .ws] : Foot P r (State.updWs s f) := by
  unfold State.updWs
  try extract_lets
  repeat' first
    | with_reducible assumption | with_reducible apply foldl_foot | with_reducible apply ite_foot | intro _ | split | contradiction | dsimp only
    | refine Foot.upd ?_ rfl (.inr rfl) (.inr rfl) (.inr rfl) (.inr rfl) (.inr rfl) (.inr rfl) (.inr rfl) (.inr rfl) (.inr rfl) (.inr rfl) (.inr rfl) (.inr rfl) (.inr rfl) (.inr rfl) (.inr rfl) Foot.named (.inr rfl) (.inr rfl) (.inr rfl) (.inr rfl) (.inr rfl) (.inr rfl) (.inr rfl) (.inr rfl)

theorem updServo_foot (s : State) (f : Servo → Servo) (h : Foot P r s) [Named P .ws] : Foot P r (State.updServo s f) := by
  unfold State.updServo
  try extract_lets
  repeat' first
    | with_reducible assumption | with_reducible apply updWs_foot | with_reducible apply foldl_foot | with_reducible apply ite_foot | intro _ | split
    | contradiction | dsimp only

theorem incStep_foot (s : State) (step : Int) (h : Foot P r s) [Named P .regs] [Named P .spawn] [Named P .ws] : Foot P r (State.incStep s step) := by
  unfold State.incStep
  try extract_lets
  repeat' first
    | with_reducible assumption | with_reducible apply stepped_foot | with_reducible apply foldl_foot | with_reducible apply ite_foot | intro _
    | split | contradiction | dsimp only
    | refine Foot.upd ?_ rfl (.inr rfl) (.inr rfl) (.inr rfl) (.inr rfl) (.inr rfl) (.inr rfl) (.inr rfl) (.inr rfl) (.inr rfl) (.inr rfl) (.inr rfl) (.inr rfl) (.inr rfl) (.inr rfl) (.inr rfl) Foot.named (.inr rfl) (.inr rfl) (.inr rfl) (.inr rfl) (.inr rfl) (.inr rfl) (.inr rfl) (.inr rfl)

theorem armSwitch_foot (s : State) (d : Desc) (h : Foot P r s) [Named P .regs] [Named P .hif] [Named P .ws] : Foot P r (State.armSwitch s d) := by
  unfold State.armSwitch
  try extract_lets
  repeat' first
    | with_reducible assumption | with_reducible apply bump_foot | with_reducible apply defer_foot | with_reducible apply updWs_foot
    | with_reducible apply foldl_foot | with_reducible apply ite_foot | intro _ | split | contradiction | dsimp only

theorem asymChanged_foot (s : State) (p : Nat) (h : Foot P r s) [Named P .ws] : Foot P r (State.asymChanged s p) := by
  unfold State.asymChanged
  try extract_lets
  repeat' first
    | with_reducible assumption | with_reducible apply updServo_foot | with_reducible apply foldl_foot | with_reducible apply ite_foot | intro _
    | split | contradiction | dsimp only

theorem setAsymRun_foot (s : State) (p : Nat) (v : U32) (h : Foot P r s) [Named P .regs] [Named P .ws] : Foot P r (State.setAsymRun s p v) := by
  unfold State.setAsymRun
  try extract_lets
  repeat' first
    | with_reducible assumption | with_reducible apply asymChanged_foot | with_reducible apply setReg_foot | with_reducible apply foldl_foot
    | with_reducible apply ite_foot | intro _ | split | contradiction | dsimp only

theorem timeAdj_foot (s : State) (d : Desc) (h : Foot P r s) [Named P .regs] [Named P .hif] [Named P .spawn] [Named P .ws] : Foot P r (State.timeAdj s d) := by
  unfold State.timeAdj
  dsimp only
  repeat' first
    | with_reducible assumption | with_reducible apply done_foot | with_reducible apply updWs_foot | with_reducible apply incStep_foot
    | with_reducible apply elapse_foot | with_reducible apply tmoArm_foot | with_reducible apply setPair_foot | with_reducible apply setAsymRun_foot
    | with_reducible apply armSwitch_foot | with_reducible apply foldl_foot | with_reducible apply ite_foot | intro _ | split | contradiction
    | dsimp only

theorem setServo_foot (s : State) (st : Nat) (q : BitVec 3) (h : Foot P r s) [Named P .ws] : Foot P r (State.setServo s st q) := by
  unfold State.setServo
  try extract_lets
  repeat' first
    | with_reducible assumption | with_reducible apply updWs_foot | with_reducible apply foldl_foot | with_reducible apply ite_foot | intro _ | split
    | contradiction | dsimp only

theorem servoChange_foot (s : State) (h : Foot P r s) [Named P .ws] : Foot P r (State.servoChange s) := by
  unfold State.servoChange
  try extract_lets
  repeat' first
    | with_reducible assumption | with_reducible apply updWs_foot | with_reducible apply updServo_foot | with_reducible apply foldl_foot
    | with_reducible apply ite_foot | intro _ | split | contradiction | dsimp only

theorem servoStep_foot (s : State) (step : Int) (h : Foot P r s) [Named P .regs] [Named P .spawn] [Named P .ws] : Foot P r (State.servoStep s step) := by
  unfold State.servoStep
  try extract_lets
  repeat' first
    | with_reducible assumption | with_reducible apply doSwitch_foot | with_reducible apply incStep_foot | with_reducible apply foldl_foot
    | with_reducible apply ite_foot | intro _ | split | contradiction | dsimp only

theorem servoSlew_foot (s : State) (h : Foot P r s) [Named P .regs] [Named P .spawn] [Named P .ws] [Named P .free] : Foot P r (State.servoSlew s) := by
  unfold State.servoSlew
  try extract_lets
  repeat' first
    | with_reducible assumption | with_reducible apply draw_foot
    | (with_reducible refine Eq.mp (congrArg (Foot P r) (congrArg Prod.snd ‹_ = (_, _)›)) (draw_foot ..)) | with_reducible apply updServo_foot
    | with_reducible apply doSwitch_foot | with_reducible apply updWs_foot | with_reducible apply foldl_foot | with_reducible apply ite_foot | intro _
    | split | contradiction | dsimp only

theorem servoLock_foot (s : State) (h : Foot P r s) [Named P .regs] [Named P .spawn] [Named P .ws] : Foot P r (State.servoLock s) := by
  unfold State.servoLock
  try extract_lets
  repeat' first
    | with_reducible assumption | with_reducible apply doSwitch_foot | with_reducible apply raise_foot | with_reducible apply setServo_foot
    | with_reducible apply foldl_foot | with_reducible apply ite_foot | intro _ | split | contradiction | dsimp only

theorem servoSuspect_foot (s : State) (h : Foot P r s) [Named P .regs] [Named P .ws] : Foot P r (State.servoSuspect s) := by
  unfold State.servoSuspect
  try extract_lets
  repeat' first
    | with_reducible assumption | with_reducible apply raise_foot | with_reducible apply bump_foot | with_reducible apply updServo_foot
    | with_reducible apply setServo_foot | with_reducible apply foldl_foot | with_reducible apply ite_foot | intro _ | split | contradiction
    | dsimp only

theorem predict_foot (s : State) (h : Foot P r s) [Named P .ws] [Named P .free] : Foot P r (State.predict s) := by
  unfold State.predict
  try extract_lets
  repeat' first
    | with_reducible assumption | with_reducible apply draw_foot
    | (with_reducible refine Eq.mp (congrArg (Foot P r) (congrArg Prod.snd ‹_ = (_, _)›)) (draw_foot ..)) | with_reducible apply updServo_foot
    | with_reducible apply foldl_foot | with_reducible apply ite_foot | intro _ | split | contradiction | dsimp only

theorem acquireSync_foot (s : State) (o : Int) (h : Foot P r s) [Named P .regs] [Named P .spawn] [Named P .ws] [Named P .free] : Foot P r (State.acquireSync s o) := by
  unfold State.acquireSync
  try extract_lets
  repeat' first
    | with_reducible assumption | with_reducible apply updWs_foot | with_reducible apply updServo_foot | with_reducible apply servoStep_foot
    | with_reducible apply servoSlew_foot | with_reducible apply servoLock_foot | with_reducible apply foldl_foot | with_reducible apply ite_foot
    | intro _ | split | contradiction | dsimp only

theorem lockedSync_foot (s : State) (o : Int) (h : Foot P r s) [Named P .regs] [Named P .spawn] [Named P .ws] [Named P .free] : Foot P r (State.lockedSync s o) := by
  unfold State.lockedSync
  try extract_lets
  repeat' first
    | with_reducible assumption | with_reducible apply servoSuspect_foot | with_reducible apply servoStep_foot | with_reducible apply servoSlew_foot
    | with_reducible apply foldl_foot | with_reducible apply ite_foot | intro _ | split | contradiction | dsimp only

theorem syncReceived_foot (s : State) (p : Nat) (m : PtpSync) (h : Foot P r s) [Named P .regs] [Named P .spawn] [Named P .ws] [Named P .free] : Foot P r (State.syncReceived s p m) := by
  unfold State.syncReceived
  dsimp only
  repeat' first
    | with_reducible assumption | with_reducible apply setReg_foot | with_reducible apply updServo_foot | with_reducible apply acquireSync_foot
    | with_reducible apply lockedSync_foot | with_reducible apply predict_foot | with_reducible apply foldl_foot | with_reducible apply ite_foot
    | intro _ | split | contradiction | dsimp only

theorem setD_foot (s : State) (d : Int) (h : Foot P r s) [Named P .regs] [Named P .ws] : Foot P r (State.setD s d) := by
  unfold State.setD
  try extract_lets
  repeat' first
    | with_reducible assumption | with_reducible apply setReg_foot | with_reducible apply updServo_foot | with_reducible apply foldl_foot
    | with_reducible apply ite_foot | intro _ | split | contradiction | dsimp only

theorem filterD_foot (s : State) (md : Int) (h : Foot P r s) [Named P .regs] [Named P .ws] [Named P .free] : Foot P r (State.filterD s md) := by
  unfold State.filterD
  try extract_lets
  repeat' first
    | with_reducible assumption | with_reducible apply draw_foot
    | (with_reducible refine Eq.mp (congrArg (Foot P r) (congrArg Prod.snd ‹_ = (_, _)›)) (draw_foot ..)) | with_reducible apply setD_foot
    | with_reducible apply foldl_foot | with_reducible apply ite_foot | intro _ | split | contradiction | dsimp only

theorem suspectDelay_foot (s : State) (p : Nat) (md : Int) (h : Foot P r s) [Named P .regs] [Named P .spawn] [Named P .ws] : Foot P r (State.suspectDelay s p md) := by
  unfold State.suspectDelay
  try extract_lets
  repeat' first
    | with_reducible assumption | with_reducible apply updServo_foot | with_reducible apply setD_foot | with_reducible apply setReg_foot
    | with_reducible apply servoLock_foot | with_reducible apply setServo_foot | with_reducible apply foldl_foot | with_reducible apply ite_foot
    | intro _ | split | contradiction | dsimp only

theorem delayResp_foot (s : State) (p : Nat) (m : PtpDelayResp) (h : Foot P r s) [Named P .regs] [Named P .spawn] [Named P .ws] [Named P .free] : Foot P r (State.delayResp s p m) := by
  unfold State.delayResp
  try extract_lets
  repeat' first
    | with_reducible assumption | with_reducible apply updServo_foot | with_reducible apply suspectDelay_foot | with_reducible apply servoSuspect_foot
    | with_reducible apply filterD_foot | with_reducible apply foldl_foot | with_reducible apply ite_foot | intro _ | split | contradiction
    | dsimp only

theorem takeMaster_foot (s : State) (m : U64) (p : Nat) (h : Foot P r s) [Named P .regs] [Named P .ws] : Foot P r (State.takeMaster s m p) := by
  unfold State.takeMaster
  try extract_lets
  repeat' first
    | with_reducible assumption | with_reducible apply raise_foot | with_reducible apply bump_foot | with_reducible apply setPair_foot
    | with_reducible apply updServo_foot | with_reducible apply setServo_foot | with_reducible apply setReg_foot | with_reducible apply foldl_foot
    | with_reducible apply ite_foot | intro _ | split | contradiction | dsimp only

theorem hear_foot (s : State) (p : Nat) (m : PtpAnnounce) (h : Foot P r s) [Named P .ws] : Foot P r (State.hear s p m) := by
  unfold State.hear
  try extract_lets
  repeat' first
    | with_reducible assumption | with_reducible apply updServo_foot | with_reducible apply foldl_foot | with_reducible apply ite_foot | intro _
    | split | contradiction | dsimp only

theorem announce_foot (s : State) (p : Nat) (m : PtpAnnounce) (h : Foot P r s) [Named P .regs] [Named P .ws] : Foot P r (State.announce s p m) := by
  unfold State.announce
  try extract_lets
  repeat' first
    | with_reducible assumption | with_reducible apply setRegBit_foot | with_reducible apply hear_foot | with_reducible apply updServo_foot
    | with_reducible apply takeMaster_foot | with_reducible apply foldl_foot | with_reducible apply ite_foot | intro _ | split | contradiction
    | dsimp only

theorem sendDelayReq_foot (s : State) (h : Foot P r s) [Named P .ws] : Foot P r (State.sendDelayReq s) := by
  unfold State.sendDelayReq
  try extract_lets
  repeat' first
    | with_reducible assumption | with_reducible apply updServo_foot | with_reducible apply updPort_foot | with_reducible apply foldl_foot
    | with_reducible apply ite_foot | intro _ | split | contradiction | dsimp only

theorem loseMaster_foot (s : State) (h : Foot P r s) [Named P .regs] [Named P .ws] : Foot P r (State.loseMaster s) := by
  unfold State.loseMaster
  try extract_lets
  repeat' first
    | with_reducible assumption | with_reducible apply updServo_foot | with_reducible apply setRegBit_foot | with_reducible apply raise_foot
    | with_reducible apply bump_foot | with_reducible apply setServo_foot | with_reducible apply foldl_foot | with_reducible apply ite_foot | intro _
    | split | contradiction | dsimp only

theorem acquireAgain_foot (s : State) (h : Foot P r s) [Named P .regs] [Named P .spawn] [Named P .ws] : Foot P r (State.acquireAgain s) := by
  unfold State.acquireAgain
  try extract_lets
  repeat' first
    | with_reducible assumption | with_reducible apply doSwitch_foot | with_reducible apply setServo_foot | with_reducible apply updServo_foot
    | with_reducible apply foldl_foot | with_reducible apply ite_foot | intro _ | split | contradiction | dsimp only

theorem ethReceive_foot (s : State) (p : Nat) (f : EthRx) (h : Foot P r s) [Named P .regs] [Named P .hif] [Named P .gecko] : Foot P r (State.ethReceive s p f) := by
  unfold State.ethReceive
  try extract_lets
  repeat' first
    | with_reducible assumption | with_reducible apply bump_foot | with_reducible apply ringLoss_foot | with_reducible apply postBuffer_foot
    | with_reducible apply foldl_foot | with_reducible apply ite_foot | intro _ | split | contradiction | dsimp only

theorem ethSend_foot (s : State) (p : Nat) (l : List Byte) (h : Foot P r s) [Named P .regs] : Foot P r (State.ethSend s p l) := by
  unfold State.ethSend
  try extract_lets
  repeat' first
    | with_reducible assumption | with_reducible apply bump_foot | with_reducible apply emitOut_foot | with_reducible apply foldl_foot
    | with_reducible apply ite_foot | intro _ | split | contradiction | dsimp only

theorem ethTransmit_foot (s : State) (p : Nat) (buf : Image) (h : Foot P r s) [Named P .regs] [Named P .hif] [Named P .ws] : Foot P r (State.ethTransmit s p buf) := by
  unfold State.ethTransmit
  try extract_lets
  repeat' first
    | with_reducible assumption | with_reducible apply ethSend_foot | with_reducible apply updServo_foot | with_reducible apply updPort_foot
    | with_reducible apply takeHead_foot | with_reducible apply readBuffer_foot | with_reducible apply bump_foot | with_reducible apply foldl_foot
    | with_reducible apply ite_foot | intro _ | split | contradiction | dsimp only

theorem ethStamp_foot (s : State) (p : Nat) (h : Foot P r s) [Named P .regs] [Named P .ws] : Foot P r (State.ethStamp s p) := by
  unfold State.ethStamp
  try extract_lets
  repeat' first
    | with_reducible assumption | with_reducible apply updPort_foot | with_reducible apply bump_foot | with_reducible apply raise_foot
    | with_reducible apply foldl_foot | with_reducible apply ite_foot | intro _ | split | contradiction | dsimp only

theorem txtsW0Read_foot (s : State) (p : Nat) (h : Foot P r s) [Named P .ws] [Named P .hostRead] : Foot P r (State.txtsW0Read s p) := by
  unfold State.txtsW0Read
  try extract_lets
  repeat' first
    | with_reducible assumption | with_reducible apply updPort_foot | with_reducible apply foldl_foot | with_reducible apply ite_foot | intro _
    | split | contradiction | dsimp only
    | refine Foot.upd ?_ rfl (.inr rfl) (.inr rfl) (.inr rfl) (.inr rfl) (.inr rfl) (.inr rfl) (.inr rfl) (.inr rfl) (.inr rfl) (.inr rfl) (.inr rfl) (.inr rfl) (.inr rfl) (.inr rfl) (.inr rfl) (.inr rfl) (.inr rfl) (.inr rfl) (.inr rfl) (.inr rfl) (.inr rfl) (.inr rfl) Foot.named (.inr rfl)

theorem txtsHiRead_foot (s : State) (p : Nat) (h : Foot P r s) [Named P .ws] [Named P .hostRead] : Foot P r (State.txtsHiRead s p) := by
  unfold State.txtsHiRead
  try extract_lets
  repeat' first
    | with_reducible assumption | with_reducible apply updPort_foot | with_reducible apply foldl_foot | with_reducible apply ite_foot | intro _
    | split | contradiction | dsimp only
    | refine Foot.upd ?_ rfl (.inr rfl) (.inr rfl) (.inr rfl) (.inr rfl) (.inr rfl) (.inr rfl) (.inr rfl) (.inr rfl) (.inr rfl) (.inr rfl) (.inr rfl) (.inr rfl) (.inr rfl) (.inr rfl) (.inr rfl) (.inr rfl) (.inr rfl) (.inr rfl) (.inr rfl) (.inr rfl) (.inr rfl) (.inr rfl) Foot.named (.inr rfl)

theorem updRtc_foot (s : State) (f : Rtc → Rtc) (h : Foot P r s) [Named P .rtc] : Foot P r (State.updRtc s f) := by
  unfold State.updRtc
  try extract_lets
  repeat' first
    | with_reducible assumption | with_reducible apply foldl_foot | with_reducible apply ite_foot | intro _ | split | contradiction | dsimp only
    | refine Foot.upd ?_ rfl (.inr rfl) (.inr rfl) (.inr rfl) (.inr rfl) (.inr rfl) (.inr rfl) (.inr rfl) (.inr rfl) (.inr rfl) (.inr rfl) (.inr rfl) (.inr rfl) (.inr rfl) (.inr rfl) (.inr rfl) (.inr rfl) Foot.named (.inr rfl) (.inr rfl) (.inr rfl) (.inr rfl) (.inr rfl) (.inr rfl) (.inr rfl)

theorem almFire_foot (s : State) (skipped : Bool) (h : Foot P r s) [Named P .regs] : Foot P r (State.almFire s skipped) := by
  unfold State.almFire
  try extract_lets
  repeat' first
    | with_reducible assumption | with_reducible apply raise_foot | with_reducible apply bump_foot | with_reducible apply setReg_foot
    | with_reducible apply foldl_foot | with_reducible apply ite_foot | intro _ | split | contradiction | dsimp only

theorem localApply_foot (s : State) (h : Foot P r s) [Named P .rtc] : Foot P r (State.localApply s) := by
  unfold State.localApply
  try extract_lets
  repeat' first
    | with_reducible assumption | with_reducible apply updRtc_foot | with_reducible apply foldl_foot | with_reducible apply ite_foot | intro _ | split
    | contradiction | dsimp only

theorem rtcCount_foot (s : State) (n : Nat) (h : Foot P r s) [Named P .regs] [Named P .rtc] : Foot P r (State.rtcCount s n) := by
  unfold State.rtcCount
  try extract_lets
  repeat' first
    | with_reducible assumption | with_reducible apply updRtc_foot | with_reducible apply localApply_foot | with_reducible apply almFire_foot
    | with_reducible apply foldl_foot | with_reducible apply ite_foot | intro _ | split | contradiction | dsimp only

theorem shiftEnd_foot (s : State) (h : Foot P r s) [Named P .regs] [Named P .rtc] : Foot P r (State.shiftEnd s) := by
  unfold State.shiftEnd
  try extract_lets
  repeat' first
    | with_reducible assumption | with_reducible apply updRtc_foot | with_reducible apply setRegBit_foot | with_reducible apply raise_foot
    | with_reducible apply bump_foot | with_reducible apply foldl_foot | with_reducible apply ite_foot | intro _ | split | contradiction | dsimp only

theorem rtcRun_foot (s : State) (n : Nat) (h : Foot P r s) [Named P .regs] [Named P .rtc] : Foot P r (State.rtcRun s n) := by
  unfold State.rtcRun
  try extract_lets
  repeat' first
    | with_reducible assumption | with_reducible apply rtcCount_foot | with_reducible apply setRegFld_foot | with_reducible apply shiftEnd_foot
    | with_reducible apply updRtc_foot | with_reducible apply foldl_foot | with_reducible apply ite_foot | intro _ | split | contradiction
    | dsimp only

theorem shiftBegin_foot (s : State) (h : Foot P r s) [Named P .regs] [Named P .rtc] : Foot P r (State.shiftBegin s) := by
  unfold State.shiftBegin
  try extract_lets
  repeat' first
    | with_reducible assumption | with_reducible apply updRtc_foot | with_reducible apply setRegBit_foot | with_reducible apply setReg_foot
    | with_reducible apply foldl_foot | with_reducible apply ite_foot | intro _ | split | contradiction | dsimp only

theorem commit_foot (s : State) (h : Foot P r s) [Named P .regs] [Named P .rtc] : Foot P r (State.commit s) := by
  unfold State.commit
  try extract_lets
  repeat' first
    | with_reducible assumption | with_reducible apply raise_foot | with_reducible apply setRegBit_foot | with_reducible apply updRtc_foot
    | with_reducible apply bump_foot | with_reducible apply almFire_foot | with_reducible apply foldl_foot | with_reducible apply ite_foot | intro _
    | split | contradiction | dsimp only

theorem rtcEdge_foot (s : State) (h : Foot P r s) [Named P .regs] [Named P .rtc] : Foot P r (State.rtcEdge s) := by
  unfold State.rtcEdge
  try extract_lets
  repeat' first
    | with_reducible assumption | with_reducible apply shiftBegin_foot | with_reducible apply commit_foot | with_reducible apply rtcRun_foot
    | with_reducible apply foldl_foot | with_reducible apply ite_foot | intro _ | split | contradiction | dsimp only

theorem wakes_foot (s : State) (k : Nat) (h : Foot P r s) [Named P .regs] [Named P .rtc] : Foot P r (State.wakes s k) := by
  unfold State.wakes
  try extract_lets
  repeat' first
    | with_reducible assumption | with_reducible apply bumpBy_foot | with_reducible apply raise_foot | with_reducible apply emitOut_foot
    | with_reducible apply updRtc_foot | with_reducible apply foldl_foot | with_reducible apply ite_foot | intro _ | split | contradiction
    | dsimp only

theorem wakeRun_foot (s : State) (n : Nat) (h : Foot P r s) [Named P .regs] [Named P .rtc] : Foot P r (State.wakeRun s n) := by
  unfold State.wakeRun
  try extract_lets
  repeat' first
    | with_reducible assumption | with_reducible apply updRtc_foot | with_reducible apply wakes_foot | with_reducible apply foldl_foot
    | with_reducible apply ite_foot | intro _ | split | contradiction | dsimp only

theorem vbkRun_foot (s : State) (n : Nat) (h : Foot P r s) [Named P .regs] [Named P .rtc] [Named P .free] : Foot P r (State.vbkRun s n) := by
  unfold State.vbkRun
  try extract_lets
  repeat' first
    | with_reducible assumption | with_reducible apply updRtc_foot | with_reducible apply draw_foot
    | (with_reducible refine Eq.mp (congrArg (Foot P r) (congrArg Prod.snd ‹_ = (_, _)›)) (draw_foot ..)) | with_reducible apply setReg_foot
    | with_reducible apply foldl_foot | with_reducible apply ite_foot | intro _ | split | contradiction | dsimp only

theorem rtcEdges_foot (s : State) (a1 : Nat) (h : Foot P r s) [Named P .regs] [Named P .rtc] : Foot P r (State.rtcEdges s a1) := by
  unfold State.rtcEdges
  try extract_lets
  repeat' first
    | with_reducible assumption | with_reducible apply rtcRun_foot | with_reducible apply rtcEdge_foot | with_reducible apply foldl_foot
    | with_reducible apply ite_foot | intro _ | split | contradiction | dsimp only

theorem rtcElapse_foot (s : State) (n : Nat) (h : Foot P r s) [Named P .regs] [Named P .rtc] [Named P .free] : Foot P r (State.rtcElapse s n) := by
  unfold State.rtcElapse
  try extract_lets
  repeat' first
    | with_reducible assumption | with_reducible apply vbkRun_foot | with_reducible apply wakeRun_foot | with_reducible apply rtcEdges_foot
    | with_reducible apply foldl_foot | with_reducible apply ite_foot | intro _ | split | contradiction | dsimp only

theorem legSet_foot (s : State) (h : Foot P r s) [Named P .regs] [Named P .rtc] : Foot P r (State.legSet s) := by
  unfold State.legSet
  try extract_lets
  repeat' first
    | with_reducible assumption | with_reducible apply ignored_foot | with_reducible apply bump_foot | with_reducible apply setRegBit_foot
    | with_reducible apply updRtc_foot | with_reducible apply foldl_foot | with_reducible apply ite_foot | intro _ | split | contradiction
    | dsimp only

theorem switchOver_foot (s : State) (h : Foot P r s) [Named P .regs] [Named P .rtc] : Foot P r (State.switchOver s) := by
  unfold State.switchOver
  try extract_lets
  repeat' first
    | with_reducible assumption | with_reducible apply setReg_foot | with_reducible apply emitOut_foot | with_reducible apply updRtc_foot
    | with_reducible apply bump_foot | with_reducible apply foldl_foot | with_reducible apply ite_foot | intro _ | split | contradiction | dsimp only

theorem switchBack_foot (s : State) (h : Foot P r s) [Named P .regs] [Named P .rtc] : Foot P r (State.switchBack s) := by
  unfold State.switchBack
  try extract_lets
  repeat' first
    | with_reducible assumption | with_reducible apply updRtc_foot | with_reducible apply raise_foot | with_reducible apply foldl_foot
    | with_reducible apply ite_foot | intro _ | split | contradiction | dsimp only

theorem backupLost_foot (s : State) (h : Foot P r s) [Named P .regs] [Named P .latch] [Named P .hold] [Named P .rtc] : Foot P r (State.backupLost s) := by
  unfold State.backupLost
  try extract_lets
  repeat' first
    | with_reducible assumption | with_reducible apply foldl_foot | with_reducible apply ite_foot | intro _ | split | contradiction | dsimp only
    | refine Foot.upd ?_ rfl Foot.named Foot.named Foot.named (.inr rfl) (.inr rfl) (.inr rfl) (.inr rfl) (.inr rfl) (.inr rfl) (.inr rfl) (.inr rfl) (.inr rfl) (.inr rfl) (.inr rfl) (.inr rfl) (.inr rfl) Foot.named (.inr rfl) (.inr rfl) (.inr rfl) (.inr rfl) (.inr rfl) (.inr rfl) (.inr rfl)

theorem setNow_foot (s : State) (h : Foot P r s) [Named P .regs] [Named P .rtc] : Foot P r (State.setNow s) := by
  unfold State.setNow
  try extract_lets
  repeat' first
    | with_reducible assumption | with_reducible apply updRtc_foot | with_reducible apply ignored_foot | with_reducible apply foldl_foot
    | with_reducible apply ite_foot | intro _ | split | contradiction | dsimp only

theorem clearSwo_foot (s : State) (h : Foot P r s) [Named P .regs] : Foot P r (State.clearSwo s) := by
  unfold State.clearSwo
  try extract_lets
  repeat' first
    | with_reducible assumption | with_reducible apply setRegBit_foot | with_reducible apply ignored_foot | with_reducible apply foldl_foot
    | with_reducible apply ite_foot | intro _ | split | contradiction | dsimp only

theorem shiftWrite_foot (s : State) (v : U32) (h : Foot P r s) [Named P .regs] [Named P .rtc] : Foot P r (State.shiftWrite s v) := by
  unfold State.shiftWrite
  try extract_lets
  repeat' first
    | with_reducible assumption | with_reducible apply ignored_foot | with_reducible apply raise_foot | with_reducible apply updRtc_foot
    | with_reducible apply foldl_foot | with_reducible apply ite_foot | intro _ | split | contradiction | dsimp only

theorem wakeCtl_foot (s : State) (v : U32) (h : Foot P r s) [Named P .regs] [Named P .rtc] : Foot P r (State.wakeCtl s v) := by
  unfold State.wakeCtl
  try extract_lets
  repeat' first
    | with_reducible assumption | with_reducible apply ignored_foot | with_reducible apply setReg_foot | with_reducible apply updRtc_foot
    | with_reducible apply foldl_foot | with_reducible apply ite_foot | intro _ | split | contradiction | dsimp only

theorem cellLevel_foot (s : State) (high : Bool) (h : Foot P r s) [Named P .rtc] : Foot P r (State.cellLevel s high) := by
  unfold State.cellLevel
  try extract_lets
  repeat' first
    | with_reducible assumption | with_reducible apply updRtc_foot | with_reducible apply foldl_foot | with_reducible apply ite_foot | intro _ | split
    | contradiction | dsimp only

theorem trickleWrite_foot (s : State) (v : U32) (h : Foot P r s) [Named P .regs] : Foot P r (State.trickleWrite s v) := by
  unfold State.trickleWrite
  try extract_lets
  repeat' first
    | with_reducible assumption | with_reducible apply ignored_foot | with_reducible apply setReg_foot | with_reducible apply foldl_foot
    | with_reducible apply ite_foot | intro _ | split | contradiction | dsimp only

theorem dstWrite_foot (s : State) (on : Bool) (h : Foot P r s) [Named P .regs] [Named P .rtc] : Foot P r (State.dstWrite s on) := by
  unfold State.dstWrite
  try extract_lets
  repeat' first
    | with_reducible assumption | with_reducible apply ignored_foot | with_reducible apply updRtc_foot | with_reducible apply foldl_foot
    | with_reducible apply ite_foot | intro _ | split | contradiction | dsimp only

theorem almCtl_foot (s : State) (v : U32) (h : Foot P r s) [Named P .regs] : Foot P r (State.almCtl s v) := by
  unfold State.almCtl
  try extract_lets
  repeat' first
    | with_reducible assumption | with_reducible apply ignored_foot | with_reducible apply setRegBit_foot | with_reducible apply almFire_foot
    | with_reducible apply setReg_foot | with_reducible apply foldl_foot | with_reducible apply ite_foot | intro _ | split | contradiction
    | dsimp only

theorem fracRead_foot (s : State) (h : Foot P r s) [Named P .rtc] [Named P .hostRead] : Foot P r (State.fracRead s) := by
  unfold State.fracRead
  try extract_lets
  repeat' first
    | with_reducible assumption | with_reducible apply updRtc_foot | with_reducible apply foldl_foot | with_reducible apply ite_foot | intro _ | split
    | contradiction | dsimp only
    | refine Foot.upd ?_ rfl (.inr rfl) (.inr rfl) (.inr rfl) (.inr rfl) (.inr rfl) (.inr rfl) (.inr rfl) (.inr rfl) (.inr rfl) (.inr rfl) (.inr rfl) (.inr rfl) (.inr rfl) (.inr rfl) (.inr rfl) (.inr rfl) (.inr rfl) (.inr rfl) (.inr rfl) (.inr rfl) (.inr rfl) (.inr rfl) Foot.named (.inr rfl)

theorem secHiRead_foot (s : State) (h : Foot P r s) [Named P .rtc] [Named P .hostRead] : Foot P r (State.secHiRead s) := by
  unfold State.secHiRead
  try extract_lets
  repeat' first
    | with_reducible assumption | with_reducible apply updRtc_foot | with_reducible apply foldl_foot | with_reducible apply ite_foot | intro _ | split
    | contradiction | dsimp only
    | refine Foot.upd ?_ rfl (.inr rfl) (.inr rfl) (.inr rfl) (.inr rfl) (.inr rfl) (.inr rfl) (.inr rfl) (.inr rfl) (.inr rfl) (.inr rfl) (.inr rfl) (.inr rfl) (.inr rfl) (.inr rfl) (.inr rfl) (.inr rfl) (.inr rfl) (.inr rfl) (.inr rfl) (.inr rfl) (.inr rfl) (.inr rfl) Foot.named (.inr rfl)

theorem legSecRead_foot (s : State) (h : Foot P r s) [Named P .rtc] [Named P .hostRead] : Foot P r (State.legSecRead s) := by
  unfold State.legSecRead
  try extract_lets
  repeat' first
    | with_reducible assumption | with_reducible apply updRtc_foot | with_reducible apply foldl_foot | with_reducible apply ite_foot | intro _ | split
    | contradiction | dsimp only
    | refine Foot.upd ?_ rfl (.inr rfl) (.inr rfl) (.inr rfl) (.inr rfl) (.inr rfl) (.inr rfl) (.inr rfl) (.inr rfl) (.inr rfl) (.inr rfl) (.inr rfl) (.inr rfl) (.inr rfl) (.inr rfl) (.inr rfl) (.inr rfl) (.inr rfl) (.inr rfl) (.inr rfl) (.inr rfl) (.inr rfl) (.inr rfl) Foot.named (.inr rfl)

theorem legYearRead_foot (s : State) (h : Foot P r s) [Named P .rtc] [Named P .hostRead] : Foot P r (State.legYearRead s) := by
  unfold State.legYearRead
  try extract_lets
  repeat' first
    | with_reducible assumption | with_reducible apply updRtc_foot | with_reducible apply foldl_foot | with_reducible apply ite_foot | intro _ | split
    | contradiction | dsimp only
    | refine Foot.upd ?_ rfl (.inr rfl) (.inr rfl) (.inr rfl) (.inr rfl) (.inr rfl) (.inr rfl) (.inr rfl) (.inr rfl) (.inr rfl) (.inr rfl) (.inr rfl) (.inr rfl) (.inr rfl) (.inr rfl) (.inr rfl) (.inr rfl) (.inr rfl) (.inr rfl) (.inr rfl) (.inr rfl) (.inr rfl) (.inr rfl) Foot.named (.inr rfl)

theorem cellGoesHigh_foot (s : State) (h : Foot P r s) [Named P .regs] [Named P .rtc] : Foot P r (State.cellGoesHigh s) := by
  unfold State.cellGoesHigh
  try extract_lets
  repeat' first
    | with_reducible assumption | with_reducible apply cellLevel_foot | with_reducible apply raise_foot | with_reducible apply setRegBit_foot
    | with_reducible apply foldl_foot | with_reducible apply ite_foot | intro _ | split | contradiction | dsimp only

theorem updPanel_foot (s : State) (f : Panel → Panel) (h : Foot P r s) [Named P .panel] : Foot P r (State.updPanel s f) := by
  unfold State.updPanel
  try extract_lets
  repeat' first
    | with_reducible assumption | with_reducible apply foldl_foot | with_reducible apply ite_foot | intro _ | split | contradiction | dsimp only
    | refine Foot.upd ?_ rfl (.inr rfl) (.inr rfl) (.inr rfl) (.inr rfl) (.inr rfl) (.inr rfl) (.inr rfl) (.inr rfl) (.inr rfl) (.inr rfl) (.inr rfl) (.inr rfl) (.inr rfl) (.inr rfl) (.inr rfl) (.inr rfl) (.inr rfl) Foot.named (.inr rfl) (.inr rfl) (.inr rfl) (.inr rfl) (.inr rfl) (.inr rfl)

theorem flipNow_foot (s : State) (h : Foot P r s) [Named P .regs] [Named P .hif] [Named P .panel] : Foot P r (State.flipNow s) := by
  unfold State.flipNow
  try extract_lets
  repeat' first
    | with_reducible assumption | with_reducible apply updPanel_foot | with_reducible apply raise_foot | with_reducible apply bump_foot
    | with_reducible apply finish_foot | with_reducible apply foldl_foot | with_reducible apply ite_foot | intro _ | split | contradiction
    | dsimp only

theorem scanStop_foot (s : State) (h : Foot P r s) [Named P .panel] : Foot P r (State.scanStop s) := by
  unfold State.scanStop
  try extract_lets
  repeat' first
    | with_reducible assumption | with_reducible apply updPanel_foot | with_reducible apply foldl_foot | with_reducible apply ite_foot | intro _
    | split | contradiction | dsimp only

theorem panelCtl_foot (s : State) (h : Foot P r s) [Named P .panel] : Foot P r (State.panelCtl s) := by
  unfold State.panelCtl
  try extract_lets
  repeat' first
    | with_reducible assumption | with_reducible apply scanStop_foot | with_reducible apply foldl_foot | with_reducible apply ite_foot | intro _
    | split | contradiction | dsimp only

theorem frame_foot (s : State) (h : Foot P r s) [Named P .regs] [Named P .hif] [Named P .panel] : Foot P r (State.frame s) := by
  unfold State.frame
  dsimp only
  repeat' first
    | with_reducible assumption | with_reducible apply emitOut_foot | with_reducible apply updPanel_foot | with_reducible apply bump_foot
    | with_reducible apply setReg_foot | with_reducible apply setRegFld_foot | with_reducible apply flipNow_foot | with_reducible apply foldl_foot
    | with_reducible apply ite_foot | intro _ | split | contradiction | dsimp only

theorem panelFlip_foot (s : State) (img : Image) (d : Desc) (h : Foot P r s) [Named P .tarn] [Named P .hif] [Named P .panel] [Named P .gecko] : Foot P r (State.panelFlip s img d) := by
  unfold State.panelFlip
  try extract_lets
  repeat' first
    | with_reducible assumption | with_reducible apply done_foot | with_reducible apply tarnStore_foot | with_reducible apply defer_foot
    | with_reducible apply updPanel_foot | with_reducible apply foldl_foot | with_reducible apply ite_foot | intro _ | split | contradiction
    | dsimp only

theorem panelTemp_foot (s : State) (p : PanelTemp) (h : Foot P r s) [Named P .regs] [Named P .panel] [Named P .free] : Foot P r (State.panelTemp s p) := by
  unfold State.panelTemp
  try extract_lets
  repeat' first
    | with_reducible assumption | with_reducible apply draw_foot
    | (with_reducible refine Eq.mp (congrArg (Foot P r) (congrArg Prod.snd ‹_ = (_, _)›)) (draw_foot ..)) | with_reducible apply bump_foot
    | with_reducible apply raise_foot | with_reducible apply setRegFld_foot | with_reducible apply setReg_foot | with_reducible apply updPanel_foot
    | with_reducible apply foldl_foot | with_reducible apply ite_foot | intro _ | split | contradiction | dsimp only
    | refine Foot.upd ?_ rfl (.inr rfl) (.inr rfl) (.inr rfl) (.inr rfl) (.inr rfl) (.inr rfl) (.inr rfl) (.inr rfl) (.inr rfl) (.inr rfl) (.inr rfl) (.inr rfl) (.inr rfl) (.inr rfl) (.inr rfl) (.inr rfl) (.inr rfl) (.inr rfl) (.inr rfl) (.inr rfl) (.inr rfl) (.inr rfl) (.inr rfl) Foot.named

theorem freezeLil_foot (s : State) (h : Foot P r s) [Named P .rtc] : Foot P r (State.freezeLil s) := by
  unfold State.freezeLil
  try extract_lets
  repeat' first
    | with_reducible assumption | with_reducible apply updRtc_foot | with_reducible apply foldl_foot | with_reducible apply ite_foot | intro _ | split
    | contradiction | dsimp only

theorem redraw_foot (s : State) (h : Foot P r s) [Named P .regs] [Named P .tarn] [Named P .rtc] [Named P .panel] [Named P .gecko] : Foot P r (State.redraw s) := by
  unfold State.redraw
  try extract_lets
  repeat' first
    | with_reducible assumption | with_reducible apply freezeLil_foot | with_reducible apply tarnStore_foot | with_reducible apply updPanel_foot
    | with_reducible apply setReg_foot | with_reducible apply raise_foot | with_reducible apply foldl_foot | with_reducible apply ite_foot | intro _
    | split | contradiction | dsimp only

theorem tmoLow_foot (s : State) (h : Foot P r s) : Foot P r (State.tmoLow s) := by
  unfold State.tmoLow
  try extract_lets
  repeat' first
    | with_reducible assumption | with_reducible apply emitOut_foot | with_reducible apply foldl_foot | with_reducible apply ite_foot | intro _
    | split | contradiction | dsimp only

theorem restart_foot (s : State) (cause : Nat) (h : Foot P r s) [Named P .regs] [Named P .latch] [Named P .hold] [Named P .tarn] [Named P .inlet] [Named P .aeA] [Named P .aeB] [Named P .outlet] [Named P .hif] [Named P .skink] [Named P .spawn] [Named P .fe] [Named P .dio] [Named P .can] [Named P .canWalk] [Named P .ws] [Named P .panel] [Named P .nvm] [Named P .upd] [Named P .gecko] : Foot P r (State.restart s cause) := by
  unfold State.restart
  try extract_lets
  repeat' first
    | with_reducible assumption | with_reducible apply emitOut_foot | with_reducible apply setReg_foot | with_reducible apply tmoLow_foot
    | with_reducible apply foldl_foot | with_reducible apply ite_foot | intro _ | split | contradiction | dsimp only
    | refine Foot.upd ?_ rfl Foot.named Foot.named Foot.named Foot.named Foot.named Foot.named Foot.named Foot.named Foot.named Foot.named Foot.named Foot.named Foot.named Foot.named Foot.named Foot.named (.inr rfl) Foot.named Foot.named Foot.named Foot.named (.inr rfl) (.inr rfl) (.inr rfl)

theorem fallBack_foot (s : State) (reason : Nat) (h : Foot P r s) [Named P .regs] [Named P .latch] [Named P .hold] [Named P .tarn] [Named P .inlet] [Named P .aeA] [Named P .aeB] [Named P .outlet] [Named P .hif] [Named P .skink] [Named P .spawn] [Named P .fe] [Named P .dio] [Named P .can] [Named P .canWalk] [Named P .ws] [Named P .panel] [Named P .nvm] [Named P .upd] [Named P .gecko] : Foot P r (State.fallBack s reason) := by
  unfold State.fallBack
  try extract_lets
  repeat' first
    | with_reducible assumption | with_reducible apply writeBoot_foot | with_reducible apply restart_foot | with_reducible apply foldl_foot
    | with_reducible apply ite_foot | intro _ | split | contradiction | dsimp only
    | refine Foot.upd ?_ rfl (.inr rfl) (.inr rfl) (.inr rfl) (.inr rfl) (.inr rfl) (.inr rfl) (.inr rfl) (.inr rfl) (.inr rfl) (.inr rfl) (.inr rfl) (.inr rfl) (.inr rfl) (.inr rfl) (.inr rfl) (.inr rfl) (.inr rfl) (.inr rfl) (.inr rfl) Foot.named (.inr rfl) (.inr rfl) (.inr rfl) (.inr rfl)
    | refine Foot.upd ?_ rfl (.inr rfl) (.inr rfl) (.inr rfl) (.inr rfl) (.inr rfl) (.inr rfl) (.inr rfl) (.inr rfl) (.inr rfl) (.inr rfl) (.inr rfl) (.inr rfl) (.inr rfl) (.inr rfl) (.inr rfl) (.inr rfl) (.inr rfl) (.inr rfl) (.inr rfl) (.inr rfl) Foot.named (.inr rfl) (.inr rfl) (.inr rfl)

theorem powerFall_foot (s : State) (ticks : Nat) (torn : Option Nat) (h : Foot P r s) [Named P .regs] [Named P .latch] [Named P .hold] [Named P .tarn] [Named P .inlet] [Named P .aeA] [Named P .aeB] [Named P .outlet] [Named P .hif] [Named P .skink] [Named P .spawn] [Named P .fe] [Named P .dio] [Named P .can] [Named P .canWalk] [Named P .ws] [Named P .rtc] [Named P .panel] [Named P .nvm] [Named P .upd] [Named P .gecko] [Named P .free] : Foot P r (State.powerFall s ticks torn) := by
  unfold State.powerFall
  try extract_lets
  repeat' first
    | with_reducible assumption | with_reducible apply rtcElapse_foot | with_reducible apply cutWrite_foot | with_reducible apply switchOver_foot
    | with_reducible apply updNvm_foot | with_reducible apply restart_foot | with_reducible apply foldl_foot | with_reducible apply ite_foot | intro _
    | split | contradiction | dsimp only

theorem bootRom_foot (s : State) (good : Nat → Bool) (h : Foot P r s) [Named P .regs] [Named P .nvm] [Named P .gecko] : Foot P r (State.bootRom s good).2 := by
  unfold State.bootRom
  try extract_lets
  repeat' first
    | with_reducible assumption | with_reducible apply writeDone_foot | with_reducible apply writeBoot_foot | with_reducible apply foldl_foot
    | with_reducible apply ite_foot | intro _ | split | contradiction | dsimp only

theorem bootChosen_foot (s : State) (b : BootChoice) (h : Foot P r s) [Named P .regs] [Named P .nvm] [Named P .upd] [Named P .gecko] : Foot P r (State.bootChosen s b) := by
  unfold State.bootChosen
  try extract_lets
  repeat' first
    | with_reducible assumption | with_reducible apply setReg_foot | with_reducible apply eraseResume_foot | with_reducible apply bump_foot
    | with_reducible apply raise_foot | with_reducible apply foldl_foot | with_reducible apply ite_foot | intro _ | split | contradiction | dsimp only
    | refine Foot.upd ?_ rfl (.inr rfl) (.inr rfl) (.inr rfl) (.inr rfl) (.inr rfl) (.inr rfl) (.inr rfl) (.inr rfl) (.inr rfl) (.inr rfl) (.inr rfl) (.inr rfl) (.inr rfl) (.inr rfl) (.inr rfl) (.inr rfl) (.inr rfl) (.inr rfl) (.inr rfl) Foot.named (.inr rfl) (.inr rfl) (.inr rfl) (.inr rfl)

theorem setFmode_foot (s : State) (h : Foot P r s) [Named P .regs] [Named P .outlet] : Foot P r (State.setFmode s) := by
  unfold State.setFmode
  try extract_lets
  repeat' first
    | with_reducible assumption | with_reducible apply setRegFld_foot | with_reducible apply updOutlet_foot | with_reducible apply setReg_foot
    | with_reducible apply foldl_foot | with_reducible apply ite_foot | intro _ | split | contradiction | dsimp only

theorem factoryClock_foot (s : State) (h : Foot P r s) [Named P .regs] : Foot P r (State.factoryClock s) := by
  unfold State.factoryClock
  try extract_lets
  repeat' first
    | with_reducible assumption | with_reducible apply setReg_foot | with_reducible apply foldl_foot | with_reducible apply ite_foot | intro _ | split
    | contradiction | dsimp only

theorem takeIdentity_foot (s : State) (answers : Bool) (h : Foot P r s) [Named P .regs] [Named P .outlet] [Named P .nvm] [Named P .gecko] [Named P .behavBoot] : Foot P r (s.takeIdentity answers) := by
  unfold State.takeIdentity
  generalize (if answers then s.slotRecord else none) = x0
  extract_lets x slotId s1 lock s2 rev s3 s4 s5
  have h1 : Foot P r s1 := setSs_foot _ _ h
  have h2 : Foot P r s2 := ite_foot _ _ _ (fun _ => logReplacement_foot _ _ h1) (fun _ => h1)
  have h3 : Foot P r s3 := Foot.upd h2 rfl (.inr rfl) (.inr rfl) (.inr rfl) (.inr rfl) (.inr rfl) (.inr rfl) (.inr rfl) (.inr rfl) (.inr rfl) (.inr rfl) (.inr rfl) (.inr rfl) (.inr rfl) (.inr rfl) (.inr rfl) (.inr rfl) (.inr rfl) (.inr rfl) (.inr rfl) (.inr rfl) (.inr rfl) Foot.named (.inr rfl) (.inr rfl)
  have h4 : Foot P r s4 := setReg_foot _ _ _ h3
  refine setFmode_foot _ ?_
  clear_value s4
  clear h1 h2 h3
  simp only [s5]
  clear_value lock
  clear_value x
  cases x
  · exact setReg_foot _ _ _ (setReg_foot _ _ _ (factoryClock_foot _ h4))
  · exact setReg_foot _ _ _ (setReg_foot _ _ _ (loadIdentity_foot _ _ h4))

theorem selfTested_foot (s : State) (t : SelfTest) (h : Foot P r s) [Named P .regs] [Named P .aeA] [Named P .aeB] [Named P .dio] [Named P .ws] : Foot P r (State.selfTested s t) := by
  unfold State.selfTested
  try extract_lets
  repeat' first
    | with_reducible assumption | with_reducible apply setReg_foot | with_reducible apply updDio_foot | with_reducible apply setCanStat_foot
    | with_reducible apply updPort_foot | with_reducible apply foldl_foot | with_reducible apply ite_foot | intro _ | split | contradiction
    | dsimp only
    | refine Foot.upd ?_ rfl (.inr rfl) (.inr rfl) (.inr rfl) (.inr rfl) (.inr rfl) Foot.named Foot.named (.inr rfl) (.inr rfl) (.inr rfl) (.inr rfl) (.inr rfl) (.inr rfl) (.inr rfl) (.inr rfl) (.inr rfl) (.inr rfl) (.inr rfl) (.inr rfl) (.inr rfl) (.inr rfl) (.inr rfl) (.inr rfl) (.inr rfl)

theorem factoryFactors_foot (s : State) (h : Foot P r s) [Named P .regs] : Foot P r (State.factoryFactors s) := by
  unfold State.factoryFactors
  try extract_lets
  repeat' first
    | with_reducible assumption | with_reducible apply setReg_foot | with_reducible apply foldl_foot | with_reducible apply ite_foot | intro _ | split
    | contradiction | dsimp only

theorem firstCal_foot (s : State) (cal : List (Nat × Nat × F32)) (h : Foot P r s) [Named P .regs] [Named P .fe] : Foot P r (State.firstCal s cal) := by
  unfold State.firstCal
  try extract_lets
  repeat' first
    | with_reducible assumption | with_reducible apply calJudge_foot | with_reducible apply foldl_foot | with_reducible apply ite_foot | intro _
    | split | contradiction | dsimp only

theorem convert_foot (s : State) (h : Foot P r s) [Named P .nvm] [Named P .upd] [Named P .gecko] : Foot P r (State.convert s) := by
  unfold State.convert
  try extract_lets
  repeat' first
    | with_reducible assumption | with_reducible apply updRegion_foot | with_reducible apply foldl_foot | with_reducible apply ite_foot | intro _
    | split | contradiction | dsimp only
    | refine Foot.upd ?_ rfl (.inr rfl) (.inr rfl) (.inr rfl) (.inr rfl) (.inr rfl) (.inr rfl) (.inr rfl) (.inr rfl) (.inr rfl) (.inr rfl) (.inr rfl) (.inr rfl) (.inr rfl) (.inr rfl) (.inr rfl) (.inr rfl) (.inr rfl) (.inr rfl) (.inr rfl) Foot.named Foot.named (.inr rfl) (.inr rfl) (.inr rfl)

theorem loadSettings_foot (s : State) (h : Foot P r s) [Named P .regs] [Named P .tarn] [Named P .hif] : Foot P r (State.loadSettings s) := by
  unfold State.loadSettings
  try extract_lets
  repeat' first
    | with_reducible assumption | with_reducible apply loadRegion_foot | with_reducible apply foldl_foot | with_reducible apply ite_foot | intro _
    | split | contradiction | dsimp only

theorem forerunner_foot (s : State) (h : Foot P r s) [Named P .regs] [Named P .tarn] [Named P .gecko] : Foot P r (State.forerunner s) := by
  unfold State.forerunner
  try extract_lets
  repeat' first
    | with_reducible assumption | with_reducible apply tarnStore_foot | with_reducible apply setScan_foot | with_reducible apply foldl_foot
    | with_reducible apply ite_foot | intro _ | split | contradiction | dsimp only

theorem enterSetup_foot (s : State) (h : Foot P r s) [Named P .regs] [Named P .inlet] [Named P .aeA] [Named P .aeB] [Named P .outlet] [Named P .skink] [Named P .dio] [Named P .gecko] : Foot P r (State.enterSetup s) := by
  unfold State.enterSetup
  try extract_lets
  repeat' first
    | with_reducible assumption | with_reducible apply updSkink_foot | with_reducible apply releaseHold_foot | with_reducible apply setMgmt_foot
    | with_reducible apply requestsEnd_foot | with_reducible apply statesWritten_foot | with_reducible apply foldl_foot
    | with_reducible apply ite_foot | intro _ | split | contradiction | dsimp only
    | refine Foot.upd ?_ rfl (.inr rfl) (.inr rfl) (.inr rfl) (.inr rfl) Foot.named Foot.named Foot.named Foot.named (.inr rfl) (.inr rfl) (.inr rfl) (.inr rfl) (.inr rfl) (.inr rfl) (.inr rfl) (.inr rfl) (.inr rfl) (.inr rfl) (.inr rfl) (.inr rfl) Foot.named (.inr rfl) (.inr rfl) (.inr rfl)

theorem seedTime_foot (s : State) (h : Foot P r s) [Named P .ws] : Foot P r (State.seedTime s) := by
  unfold State.seedTime
  try extract_lets
  repeat' first
    | with_reducible assumption | with_reducible apply foldl_foot | with_reducible apply ite_foot | intro _ | split | contradiction | dsimp only
    | refine Foot.upd ?_ rfl (.inr rfl) (.inr rfl) (.inr rfl) (.inr rfl) (.inr rfl) (.inr rfl) (.inr rfl) (.inr rfl) (.inr rfl) (.inr rfl) (.inr rfl) (.inr rfl) (.inr rfl) (.inr rfl) (.inr rfl) Foot.named (.inr rfl) (.inr rfl) (.inr rfl) (.inr rfl) (.inr rfl) (.inr rfl) (.inr rfl) (.inr rfl)

theorem panelOut_foot (s : State) (h : Foot P r s) : Foot P r (State.panelOut s) := by
  unfold State.panelOut
  try extract_lets
  repeat' first
    | with_reducible assumption | with_reducible apply emitOut_foot | with_reducible apply foldl_foot | with_reducible apply ite_foot | intro _
    | split | contradiction | dsimp only

theorem tmosLoaded_foot (s : State) (h : Foot P r s) [Named P .ws] : Foot P r (State.tmosLoaded s) := by
  unfold State.tmosLoaded
  try extract_lets
  repeat' first
    | with_reducible assumption | with_reducible apply tmoPin_foot | with_reducible apply tmoArm_foot | with_reducible apply foldl_foot
    | with_reducible apply ite_foot | intro _ | split | contradiction | dsimp only

theorem finishBoot_foot (s : State) (h : Foot P r s) [Named P .regs] [Named P .tarn] [Named P .inlet] [Named P .aeA] [Named P .aeB] [Named P .outlet] [Named P .hif] [Named P .skink] [Named P .dio] [Named P .ws] [Named P .gecko] : Foot P r (State.finishBoot s) := by
  unfold State.finishBoot
  try extract_lets
  repeat' first
    | with_reducible assumption | with_reducible apply takeDigest_foot | with_reducible apply seedTime_foot | with_reducible apply pairEnabled_foot
    | with_reducible apply loadSettings_foot | with_reducible apply updHif_foot | with_reducible apply enterSetup_foot
    | with_reducible apply tmosLoaded_foot | with_reducible apply panelOut_foot | with_reducible apply forerunner_foot
    | with_reducible apply foldl_foot | with_reducible apply ite_foot | intro _ | split | contradiction | dsimp only

theorem bootImage_foot (s : State) (env : BootEnv) (b : BootChoice) (h : Foot P r s) [Named P .regs] [Named P .latch] [Named P .hold] [Named P .tarn] [Named P .inlet] [Named P .aeA] [Named P .aeB] [Named P .outlet] [Named P .hif] [Named P .skink] [Named P .spawn] [Named P .fe] [Named P .dio] [Named P .can] [Named P .canWalk] [Named P .ws] [Named P .panel] [Named P .nvm] [Named P .upd] [Named P .gecko] [Named P .behavBoot] : Foot P r (State.bootImage s env b) := by
  unfold State.bootImage
  try extract_lets
  repeat' first
    | with_reducible assumption | with_reducible apply setMgmt_foot | with_reducible apply takeIdentity_foot | with_reducible apply bootChosen_foot
    | with_reducible apply selfTested_foot | with_reducible apply setReg_foot | with_reducible apply panelOut_foot
    | with_reducible apply haltNode_foot | with_reducible apply firstCal_foot | with_reducible apply factoryFactors_foot
    | with_reducible apply updBank_foot | with_reducible apply setRegBit_foot | with_reducible apply finishBoot_foot
    | with_reducible apply convert_foot | with_reducible apply fallBack_foot | with_reducible apply foldl_foot | with_reducible apply ite_foot
    | intro _ | split | contradiction | dsimp only
    | refine Foot.upd ?_ rfl (.inr rfl) (.inr rfl) (.inr rfl) (.inr rfl) (.inr rfl) (.inr rfl) (.inr rfl) (.inr rfl) (.inr rfl) (.inr rfl) (.inr rfl) (.inr rfl) (.inr rfl) (.inr rfl) (.inr rfl) (.inr rfl) (.inr rfl) (.inr rfl) (.inr rfl) Foot.named (.inr rfl) (.inr rfl) (.inr rfl) (.inr rfl)

theorem boot_foot (s : State) (env : BootEnv) (h : Foot P r s) [Named P .regs] [Named P .latch] [Named P .hold] [Named P .tarn] [Named P .inlet] [Named P .aeA] [Named P .aeB] [Named P .outlet] [Named P .hif] [Named P .skink] [Named P .spawn] [Named P .fe] [Named P .dio] [Named P .can] [Named P .canWalk] [Named P .ws] [Named P .rtc] [Named P .panel] [Named P .nvm] [Named P .upd] [Named P .gecko] [Named P .behavBoot] [Named P .free] : Foot P r (s.boot env) := by
  unfold State.boot
  split
  · exact h
  · extract_lets s1 s2 s3 s4 s5 bad
    have h1 : Foot P r s1 := rtcElapse_foot _ _ h
    have h2 : Foot P r s2 := ite_foot _ _ _ (fun _ => switchBack_foot _ h1) (fun _ => h1)
    have h3 : Foot P r s3 := setMgmt_foot _ _ (tmoLow_foot _ (updRtc_foot _ _ h2))
    have h4 : Foot P r s4 := setReg_foot _ _ _ h3
    have h5 : Foot P r s5 := seedTime_foot _ (linkTrain_foot _ _ _ h4)
    clear_value s5
    have hb := bootRom_foot s5 (fun k => s5.nvm.bootable k && !bad k) h5
    split
    · next e => rw [e] at hb; exact setReg_foot _ _ _ hb
    · next e => rw [e] at hb; exact bootImage_foot _ _ _ hb

theorem cmdIgnored_foot (s : State) (h : Foot P r s) [Named P .regs] : Foot P r (State.cmdIgnored s) := by
  unfold State.cmdIgnored
  try extract_lets
  repeat' first
    | with_reducible assumption | with_reducible apply ignored_foot | with_reducible apply foldl_foot | with_reducible apply ite_foot | intro _
    | split | contradiction | dsimp only

theorem ssDone_foot (s : State) (h : Foot P r s) [Named P .regs] : Foot P r (State.ssDone s) := by
  unfold State.ssDone
  try extract_lets
  repeat' first
    | with_reducible assumption | with_reducible apply raise_foot | with_reducible apply foldl_foot | with_reducible apply ite_foot | intro _ | split
    | contradiction | dsimp only

theorem commissionNow_foot (s : State) (h : Foot P r s) [Named P .regs] [Named P .nvm] [Named P .gecko] : Foot P r (State.commissionNow s) := by
  unfold State.commissionNow
  try extract_lets
  repeat' first
    | with_reducible assumption | with_reducible apply cmdIgnored_foot | with_reducible apply writeSlot_foot | with_reducible apply takeDigest_foot
    | with_reducible apply setSs_foot | with_reducible apply ssDone_foot | with_reducible apply startBase_foot | with_reducible apply foldl_foot
    | with_reducible apply ite_foot | intro _ | split | contradiction | dsimp only

theorem verifyNow_foot (s : State) (h : Foot P r s) [Named P .regs] : Foot P r (State.verifyNow s) := by
  unfold State.verifyNow
  try extract_lets
  repeat' first
    | with_reducible assumption | with_reducible apply cmdIgnored_foot | with_reducible apply ssDone_foot | with_reducible apply takeDigest_foot
    | with_reducible apply foldl_foot | with_reducible apply ite_foot | intro _ | split | contradiction | dsimp only

theorem acceptNow_foot (s : State) (h : Foot P r s) [Named P .regs] [Named P .nvm] [Named P .gecko] : Foot P r (State.acceptNow s) := by
  unfold State.acceptNow
  try extract_lets
  repeat' first
    | with_reducible assumption | with_reducible apply cmdIgnored_foot | with_reducible apply ssDone_foot | with_reducible apply setSs_foot
    | with_reducible apply writeSlot_foot | with_reducible apply foldl_foot | with_reducible apply ite_foot | intro _ | split | contradiction
    | dsimp only

theorem bypassNow_foot (s : State) (h : Foot P r s) [Named P .regs] : Foot P r (State.bypassNow s) := by
  unfold State.bypassNow
  try extract_lets
  repeat' first
    | with_reducible assumption | with_reducible apply cmdIgnored_foot | with_reducible apply setSs_foot | with_reducible apply foldl_foot
    | with_reducible apply ite_foot | intro _ | split | contradiction | dsimp only

theorem startService_foot (s : State) (e : EngineId) (pass : Bool) (h : Foot P r s) [Named P .regs] [Named P .aeA] [Named P .aeB] : Foot P r (State.startService s e pass) := by
  unfold State.startService
  try extract_lets
  repeat' first
    | with_reducible assumption | with_reducible apply updEng_foot | with_reducible apply recordFailure_foot | with_reducible apply foldl_foot
    | with_reducible apply ite_foot | intro _ | split | contradiction | dsimp only

theorem dropHeld_foot (s : State) (h : Foot P r s) [Named P .regs] [Named P .outlet] [Named P .hif] [Named P .spawn] : Foot P r (State.dropHeld s) := by
  unfold State.dropHeld
  try extract_lets
  repeat' first
    | with_reducible assumption | with_reducible apply updHif_foot | with_reducible apply updSpawn_foot | with_reducible apply setRegFld_foot
    | with_reducible apply foldl_foot | with_reducible apply ite_foot | intro _ | split | contradiction | dsimp only
    | refine Foot.upd ?_ rfl (.inr rfl) (.inr rfl) (.inr rfl) (.inr rfl) (.inr rfl) (.inr rfl) (.inr rfl) Foot.named (.inr rfl) (.inr rfl) (.inr rfl) (.inr rfl) (.inr rfl) (.inr rfl) (.inr rfl) (.inr rfl) (.inr rfl) (.inr rfl) (.inr rfl) (.inr rfl) (.inr rfl) (.inr rfl) (.inr rfl) (.inr rfl)

theorem lanesStart_foot (s : State) (h : Foot P r s) [Named P .regs] [Named P .fe] : Foot P r (State.lanesStart s) := by
  unfold State.lanesStart
  try extract_lets
  repeat' first
    | with_reducible assumption | with_reducible apply lanesEnd_foot | with_reducible apply foldl_foot | with_reducible apply ite_foot | intro _
    | split | contradiction | dsimp only
    | refine Foot.upd ?_ rfl (.inr rfl) (.inr rfl) (.inr rfl) (.inr rfl) (.inr rfl) (.inr rfl) (.inr rfl) (.inr rfl) (.inr rfl) (.inr rfl) (.inr rfl) Foot.named (.inr rfl) (.inr rfl) (.inr rfl) (.inr rfl) (.inr rfl) (.inr rfl) (.inr rfl) (.inr rfl) (.inr rfl) (.inr rfl) (.inr rfl) (.inr rfl)

theorem lanesResume_foot (s : State) (h : Foot P r s) [Named P .regs] [Named P .fe] : Foot P r (State.lanesResume s) := by
  unfold State.lanesResume
  try extract_lets
  repeat' first
    | with_reducible assumption | with_reducible apply updDef_foot | with_reducible apply lanesEnd_foot | with_reducible apply foldl_foot
    | with_reducible apply ite_foot | intro _ | split | contradiction | dsimp only

theorem firstRecords_foot (s : State) (h : Foot P r s) [Named P .regs] [Named P .inlet] [Named P .spawn] : Foot P r s.firstRecords := by
  unfold State.firstRecords
  split
  · extract_lets src
    have h1 := takeSsn_foot s src h
    rcases e : s.takeSsn src with ⟨n, u⟩
    rw [e] at h1
    exact Foot.upd (setRegBit_foot _ _ _ _ (setCap_foot _ _ (updSpawn_foot u _ h1))) rfl (.inr rfl) (.inr rfl) (.inr rfl) (.inr rfl) Foot.named (.inr rfl) (.inr rfl) (.inr rfl) (.inr rfl) (.inr rfl) (.inr rfl) (.inr rfl) (.inr rfl) (.inr rfl) (.inr rfl) (.inr rfl) (.inr rfl) (.inr rfl) (.inr rfl) (.inr rfl) (.inr rfl) (.inr rfl) (.inr rfl) (.inr rfl)
  · have h1 := statusRec_foot s h
    rcases e : s.statusRec with ⟨n, u⟩
    rw [e] at h1
    exact Foot.upd h1 rfl (.inr rfl) (.inr rfl) (.inr rfl) (.inr rfl) Foot.named (.inr rfl) (.inr rfl) (.inr rfl) (.inr rfl) (.inr rfl) (.inr rfl) (.inr rfl) (.inr rfl) (.inr rfl) (.inr rfl) (.inr rfl) (.inr rfl) (.inr rfl) (.inr rfl) (.inr rfl) (.inr rfl) (.inr rfl) (.inr rfl) (.inr rfl)

theorem noteBad_foot (s : State) (h : Foot P r s) [Named P .regs] : Foot P r (State.noteBad s) := by
  unfold State.noteBad
  try extract_lets
  repeat' first
    | with_reducible assumption | with_reducible apply setReg_foot | with_reducible apply foldl_foot | with_reducible apply ite_foot | intro _ | split
    | contradiction | dsimp only

theorem enterRun_foot (s : State) (vecA vecB : Bool) (h : Foot P r s) [Named P .regs] [Named P .inlet] [Named P .aeA] [Named P .aeB] [Named P .outlet] [Named P .hif] [Named P .skink] [Named P .spawn] [Named P .fe] [Named P .dio] [Named P .can] [Named P .canWalk] [Named P .gecko] : Foot P r (s.enterRun vecA vecB) := by
  unfold State.enterRun
  extract_lets s1 s2 s3 s4 s5 s6
  have h1 : Foot P r s1 := startService_foot _ _ _ (startService_foot _ _ _ h)
  have h2 : Foot P r s2 := ite_foot _ _ _ (fun _ => startBase_foot _ h1) (fun _ => h1)
  have h3 : Foot P r s3 := dropHeld_foot _ (dioRun_foot _ (writeSafe_foot _ (noteBad_foot _ (noteMasks_foot _ (xpRun_foot _ _ h2)))))
  have h4 : Foot P r s4 := statesWritten_foot _ (Foot.upd h3 rfl (.inr rfl) (.inr rfl) (.inr rfl) (.inr rfl) Foot.named Foot.named Foot.named (.inr rfl) (.inr rfl) (.inr rfl) (.inr rfl) (.inr rfl) (.inr rfl) (.inr rfl) (.inr rfl) (.inr rfl) (.inr rfl) (.inr rfl) (.inr rfl) (.inr rfl) (.inr rfl) (.inr rfl) (.inr rfl) (.inr rfl))
  have h5 : Foot P r s5 := updSkink_foot _ _ h4
  have h6 : Foot P r s6 := setMgmt_foot _ _ (lanesStart_foot _ h5)
  clear_value s6
  split
  · exact haltNode_foot _ _ _ h6
  · exact repairsDue_foot _ (firstRecords_foot _ (canStart_foot _ (grantHold_foot _ _ h6)))

theorem startNow_foot (s : State) (vecA : Bool) (vecB : Bool) (h : Foot P r s) [Named P .regs] [Named P .inlet] [Named P .aeA] [Named P .aeB] [Named P .outlet] [Named P .hif] [Named P .skink] [Named P .spawn] [Named P .fe] [Named P .dio] [Named P .can] [Named P .canWalk] [Named P .gecko] : Foot P r (State.startNow s vecA vecB) := by
  unfold State.startNow
  try extract_lets
  repeat' first
    | with_reducible assumption | with_reducible apply cmdIgnored_foot | with_reducible apply takeDigest_foot | with_reducible apply enterRun_foot
    | with_reducible apply foldl_foot | with_reducible apply ite_foot | intro _ | split | contradiction | dsimp only

theorem drainRound_foot (s : State) (h : Foot P r s) [Named P .regs] [Named P .tarn] [Named P .inlet] [Named P .aeA] [Named P .aeB] [Named P .outlet] [Named P .hif] [Named P .skink] [Named P .spawn] [Named P .fe] [Named P .dio] [Named P .can] [Named P .canWalk] [Named P .gecko] [Named P .free] : Foot P r (State.drainRound s) := by
  unfold State.drainRound
  try extract_lets
  repeat' first
    | with_reducible assumption | with_reducible apply takeCkpt_foot | with_reducible apply eccFault_foot | with_reducible apply configBarrier_foot
    | with_reducible apply evalNext_foot | with_reducible apply foldl_foot | with_reducible apply ite_foot | intro _ | split | contradiction
    | dsimp only

theorem drainEvents_foot (s : State) (h : Foot P r s) [Named P .regs] [Named P .inlet] [Named P .aeA] [Named P .aeB] [Named P .outlet] [Named P .hif] [Named P .skink] [Named P .spawn] [Named P .fe] [Named P .dio] [Named P .can] [Named P .canWalk] [Named P .gecko] : Foot P r (State.drainEvents s) := by
  unfold State.drainEvents
  try extract_lets
  repeat' first
    | with_reducible assumption | with_reducible apply release_foot | with_reducible apply copyArrives_foot | with_reducible apply foldl_foot
    | with_reducible apply ite_foot | intro _ | split | contradiction | dsimp only

theorem captureStop_foot (s : State) (h : Foot P r s) [Named P .regs] [Named P .hif] [Named P .spawn] : Foot P r (State.captureStop s) := by
  unfold State.captureStop
  try extract_lets
  repeat' first
    | with_reducible assumption | with_reducible apply splitApply_foot | with_reducible apply endContinuous_foot
    | with_reducible apply copyComplete_foot | with_reducible apply stopCapture_foot | with_reducible apply foldl_foot | with_reducible apply ite_foot
    | intro _ | split | contradiction | dsimp only

theorem unitsStop_foot (s : State) (h : Foot P r s) [Named P .regs] [Named P .hif] [Named P .fe] [Named P .can] [Named P .canWalk] [Named P .ws] [Named P .gecko] : Foot P r (State.unitsStop s) := by
  unfold State.unitsStop
  try extract_lets
  repeat' first
    | with_reducible assumption | with_reducible apply rxFlush_foot | with_reducible apply lanesEnd_foot | with_reducible apply canStop_foot
    | with_reducible apply setAsymRun_foot | with_reducible apply foldl_foot | with_reducible apply ite_foot | intro _ | split | contradiction
    | dsimp only
    | refine Foot.upd ?_ rfl (.inr rfl) (.inr rfl) (.inr rfl) (.inr rfl) (.inr rfl) (.inr rfl) (.inr rfl) (.inr rfl) (.inr rfl) (.inr rfl) (.inr rfl) (.inr rfl) (.inr rfl) (.inr rfl) Foot.named (.inr rfl) (.inr rfl) (.inr rfl) (.inr rfl) (.inr rfl) (.inr rfl) (.inr rfl) (.inr rfl) (.inr rfl)

theorem admitBegun_foot (s : State) (h : Foot P r s) [Named P .regs] [Named P .tarn] [Named P .inlet] [Named P .aeA] [Named P .aeB] [Named P .outlet] [Named P .hif] [Named P .skink] [Named P .spawn] [Named P .fe] [Named P .dio] [Named P .can] [Named P .canWalk] [Named P .gecko] [Named P .free] : Foot P r s.admitBegun := by
  unfold State.admitBegun
  split
  · refine ite_foot _ _ _ (fun _ => h) fun _ => foldl_foot _ (fun s x h => ?_) _ _ h
    have h1 : Foot P r (if s.heldByEngines then s.drainRound else s) := ite_foot _ _ _ (fun _ => drainRound_foot _ h) (fun _ => h)
    exact ite_foot _ _ _ (fun _ => admitCmd_foot _ h1) (fun _ => h1)
  · exact h

theorem stopNow_foot (s : State) (h : Foot P r s) [Named P .regs] [Named P .tarn] [Named P .inlet] [Named P .aeA] [Named P .aeB] [Named P .outlet] [Named P .hif] [Named P .skink] [Named P .spawn] [Named P .fe] [Named P .dio] [Named P .can] [Named P .canWalk] [Named P .ws] [Named P .gecko] [Named P .free] : Foot P r (State.stopNow s) := by
  unfold State.stopNow
  try extract_lets
  repeat' first
    | with_reducible assumption | with_reducible apply cmdIgnored_foot | with_reducible apply admitBegun_foot | with_reducible apply updSkink_foot
    | with_reducible apply updEng_foot | with_reducible apply refuseTaken_foot | with_reducible apply drainEvents_foot
    | with_reducible apply drainRound_foot | with_reducible apply enterSetup_foot | with_reducible apply unitsStop_foot
    | with_reducible apply captureStop_foot | with_reducible apply foldl_foot | with_reducible apply ite_foot | intro _ | split | contradiction
    | dsimp only
    | refine Foot.upd ?_ rfl (.inr rfl) (.inr rfl) (.inr rfl) (.inr rfl) Foot.named (.inr rfl) (.inr rfl) (.inr rfl) (.inr rfl) (.inr rfl) (.inr rfl) (.inr rfl) (.inr rfl) (.inr rfl) (.inr rfl) (.inr rfl) (.inr rfl) (.inr rfl) (.inr rfl) (.inr rfl) (.inr rfl) (.inr rfl) (.inr rfl) (.inr rfl)

theorem fmodeWrite_foot (s : State) (v : U32) (h : Foot P r s) [Named P .regs] [Named P .tarn] [Named P .outlet] [Named P .gecko] : Foot P r (State.fmodeWrite s v) := by
  unfold State.fmodeWrite
  try extract_lets
  repeat' first
    | with_reducible assumption | with_reducible apply ignored_foot | with_reducible apply setDirty_foot | with_reducible apply setFmode_foot
    | with_reducible apply setRegFld_foot | with_reducible apply forerunner_foot | with_reducible apply foldl_foot | with_reducible apply ite_foot
    | intro _ | split | contradiction | dsimp only

theorem intRearm_foot (s : State) (h : Foot P r s) [Named P .regs] : Foot P r (State.intRearm s) := by
  unfold State.intRearm
  try extract_lets
  repeat' first
    | with_reducible assumption | with_reducible apply hifMessage_foot | with_reducible apply foldl_foot | with_reducible apply ite_foot | intro _
    | split | contradiction | dsimp only

theorem intEnWrite_foot (s : State) (v : U32) (h : Foot P r s) [Named P .regs] : Foot P r (State.intEnWrite s v) := by
  unfold State.intEnWrite
  try extract_lets
  repeat' first
    | with_reducible assumption | with_reducible apply summarise_foot | with_reducible apply setReg_foot | with_reducible apply foldl_foot
    | with_reducible apply ite_foot | intro _ | split | contradiction | dsimp only

theorem updUpd_foot (s : State) (f : Upd → Upd) (h : Foot P r s) [Named P .upd] : Foot P r (State.updUpd s f) := by
  unfold State.updUpd
  try extract_lets
  repeat' first
    | with_reducible assumption | with_reducible apply foldl_foot | with_reducible apply ite_foot | intro _ | split | contradiction | dsimp only
    | refine Foot.upd ?_ rfl (.inr rfl) (.inr rfl) (.inr rfl) (.inr rfl) (.inr rfl) (.inr rfl) (.inr rfl) (.inr rfl) (.inr rfl) (.inr rfl) (.inr rfl) (.inr rfl) (.inr rfl) (.inr rfl) (.inr rfl) (.inr rfl) (.inr rfl) (.inr rfl) (.inr rfl) Foot.named (.inr rfl) (.inr rfl) (.inr rfl) (.inr rfl)

theorem clearBits_foot (s : State) (f : Nat → Bool) (h : Foot P r s) [Named P .regs] [Named P .nvm] : Foot P r (State.clearBits s f) := by
  unfold State.clearBits
  try extract_lets
  repeat' first
    | with_reducible assumption | with_reducible apply updNvm_foot | with_reducible apply countErases_foot | with_reducible apply foldl_foot
    | with_reducible apply ite_foot | intro _ | split | contradiction | dsimp only

theorem setBits_foot (s : State) (p : Nat) (h : Foot P r s) [Named P .nvm] : Foot P r (State.setBits s p) := by
  unfold State.setBits
  try extract_lets
  repeat' first
    | with_reducible assumption | with_reducible apply updNvm_foot | with_reducible apply foldl_foot | with_reducible apply ite_foot | intro _ | split
    | contradiction | dsimp only

theorem endSession_foot (s : State) (h : Foot P r s) [Named P .regs] [Named P .nvm] [Named P .upd] [Named P .gecko] : Foot P r (State.endSession s) := by
  unfold State.endSession
  try extract_lets
  repeat' first
    | with_reducible assumption | with_reducible apply setSes_foot | with_reducible apply updUpd_foot | with_reducible apply clearBits_foot
    | with_reducible apply foldl_foot | with_reducible apply ite_foot | intro _ | split | contradiction | dsimp only

theorem bootActive_foot (s : State) (h : Foot P r s) [Named P .regs] [Named P .nvm] [Named P .gecko] : Foot P r (State.bootActive s) := by
  unfold State.bootActive
  try extract_lets
  repeat' first
    | with_reducible assumption | with_reducible apply writeBoot_foot | with_reducible apply foldl_foot | with_reducible apply ite_foot | intro _
    | split | contradiction | dsimp only

theorem updBegin_foot (s : State) (d : Desc) (h : Foot P r s) [Named P .regs] [Named P .hif] [Named P .nvm] [Named P .upd] [Named P .gecko] : Foot P r (State.updBegin s d) := by
  unfold State.updBegin
  try extract_lets
  repeat' first
    | with_reducible assumption | with_reducible apply done_foot | with_reducible apply bootActive_foot | with_reducible apply writeSes_foot
    | with_reducible apply countErase_foot | with_reducible apply clearBits_foot | with_reducible apply updSlot_foot
    | with_reducible apply updUpd_foot | with_reducible apply writeDone_foot | with_reducible apply setSes_foot | with_reducible apply foldl_foot
    | with_reducible apply ite_foot | intro _ | split | contradiction | dsimp only

theorem pieceReject_foot (s : State) (p : Nat) (reason : Nat) (h : Foot P r s) [Named P .regs] : Foot P r (State.pieceReject s p reason) := by
  unfold State.pieceReject
  try extract_lets
  repeat' first
    | with_reducible assumption | with_reducible apply setReg_foot | with_reducible apply raise_foot | with_reducible apply bump_foot
    | with_reducible apply foldl_foot | with_reducible apply ite_foot | intro _ | split | contradiction | dsimp only

theorem pieceReceived_foot (s : State) (data : Image) (h : Foot P r s) [Named P .regs] [Named P .hif] [Named P .upd] : Foot P r (State.pieceReceived s data) := by
  unfold State.pieceReceived
  try extract_lets
  repeat' first
    | with_reducible assumption | with_reducible apply takeHead_foot | with_reducible apply readBuffer_foot | with_reducible apply pieceReject_foot
    | with_reducible apply bump_foot | with_reducible apply updUpd_foot | with_reducible apply foldl_foot | with_reducible apply ite_foot | intro _
    | split | contradiction | dsimp only

theorem dropBuf_foot (s : State) (p : Nat) (h : Foot P r s) [Named P .upd] : Foot P r (State.dropBuf s p) := by
  unfold State.dropBuf
  try extract_lets
  repeat' first
    | with_reducible assumption | with_reducible apply updUpd_foot | with_reducible apply foldl_foot | with_reducible apply ite_foot | intro _ | split
    | contradiction | dsimp only

theorem storePiece_foot (s : State) (p : Nat) (readbackOk : Bool) (h : Foot P r s) [Named P .regs] [Named P .nvm] [Named P .upd] : Foot P r (State.storePiece s p readbackOk) := by
  unfold State.storePiece
  try extract_lets
  repeat' first
    | with_reducible assumption | with_reducible apply bump_foot | with_reducible apply dropBuf_foot | with_reducible apply countErase_foot
    | with_reducible apply updSlot_foot | with_reducible apply setBits_foot | with_reducible apply pieceReject_foot | with_reducible apply updUpd_foot
    | with_reducible apply foldl_foot | with_reducible apply ite_foot | intro _ | split | contradiction | dsimp only

theorem updStatus_foot (s : State) (writeOk : Bool) (d : Desc) (h : Foot P r s) [Named P .hif] : Foot P r (State.updStatus s writeOk d) := by
  unfold State.updStatus
  try extract_lets
  repeat' first
    | with_reducible assumption | with_reducible apply done_foot | with_reducible apply emitOut_foot | with_reducible apply foldl_foot
    | with_reducible apply ite_foot | intro _ | split | contradiction | dsimp only

theorem verifyFailed_foot (s : State) (reason : Nat) (h : Foot P r s) [Named P .regs] [Named P .upd] : Foot P r (State.verifyFailed s reason) := by
  unfold State.verifyFailed
  try extract_lets
  repeat' first
    | with_reducible assumption | with_reducible apply raise_foot | with_reducible apply bump_foot | with_reducible apply updUpd_foot
    | with_reducible apply foldl_foot | with_reducible apply ite_foot | intro _ | split | contradiction | dsimp only

theorem updVerify_foot (s : State) (d : Desc) (h : Foot P r s) [Named P .regs] [Named P .hif] [Named P .nvm] [Named P .upd] [Named P .gecko] : Foot P r (State.updVerify s d) := by
  unfold State.updVerify
  try extract_lets
  repeat' first
    | with_reducible assumption | with_reducible apply done_foot | with_reducible apply endSession_foot | with_reducible apply verifyFailed_foot
    | with_reducible apply clearBits_foot | with_reducible apply updUpd_foot | with_reducible apply raise_foot | with_reducible apply setSes_foot
    | with_reducible apply foldl_foot | with_reducible apply ite_foot | intro _ | split | contradiction | dsimp only

theorem writeReady_foot (s : State) (h : Foot P r s) [Named P .regs] [Named P .hif] : Foot P r (State.writeReady s) := by
  unfold State.writeReady
  try extract_lets
  repeat' first
    | with_reducible assumption | with_reducible apply writeCompletion_foot | with_reducible apply foldl_foot | with_reducible apply ite_foot
    | intro _ | split | contradiction | dsimp only

theorem claimGone_foot (s : State) (h : Foot P r s) [Named P .regs] [Named P .skink] [Named P .dio] : Foot P r (State.claimGone s) := by
  unfold State.claimGone
  try extract_lets
  repeat' first
    | with_reducible assumption | with_reducible apply dropClaim_foot | with_reducible apply sharedOff_foot | with_reducible apply updSkink_foot
    | with_reducible apply foldl_foot | with_reducible apply ite_foot | intro _ | split | contradiction | dsimp only

theorem trialRecord_foot (s : State) (minutes : Nat) (h : Foot P r s) [Named P .regs] [Named P .nvm] [Named P .upd] [Named P .gecko] : Foot P r (State.trialRecord s minutes) := by
  unfold State.trialRecord
  try extract_lets
  repeat' first
    | with_reducible assumption | with_reducible apply updUpd_foot | with_reducible apply eraseRegion_foot | with_reducible apply writeBoot_foot
    | with_reducible apply foldl_foot | with_reducible apply ite_foot | intro _ | split | contradiction | dsimp only

theorem updActivate_foot (s : State) (d : Desc) (h : Foot P r s) [Named P .regs] [Named P .inlet] [Named P .aeA] [Named P .aeB] [Named P .outlet] [Named P .hif] [Named P .skink] [Named P .fe] [Named P .dio] [Named P .can] [Named P .nvm] [Named P .upd] [Named P .gecko] : Foot P r (State.updActivate s d) := by
  unfold State.updActivate
  try extract_lets
  repeat' first
    | with_reducible assumption | with_reducible apply done_foot | with_reducible apply copyDone_foot | with_reducible apply claimGone_foot
    | with_reducible apply extendWatchdogs_foot | with_reducible apply beginHold_foot | with_reducible apply unsave_foot
    | with_reducible apply canPause_foot | with_reducible apply lanesEnd_foot | with_reducible apply setMgmt_foot
    | with_reducible apply writeReady_foot | with_reducible apply updUpd_foot | with_reducible apply setSes_foot
    | with_reducible apply trialRecord_foot | with_reducible apply foldl_foot | with_reducible apply ite_foot | intro _ | split | contradiction
    | dsimp only

theorem activated_foot (s : State) (pauseUs : Nat) (h : Foot P r s) [Named P .regs] [Named P .aeA] [Named P .aeB] [Named P .hif] [Named P .spawn] [Named P .fe] [Named P .dio] [Named P .ws] [Named P .upd] [Named P .gecko] : Foot P r (State.activated s pauseUs) := by
  unfold State.activated
  try extract_lets
  repeat' first
    | with_reducible assumption | with_reducible apply writeDone_foot | with_reducible apply pass_foot | with_reducible apply raise_foot
    | with_reducible apply bump_foot | with_reducible apply recordMax_foot | with_reducible apply updBank_foot | with_reducible apply updEng_foot
    | with_reducible apply fetchAll_foot | with_reducible apply canStart_foot | with_reducible apply lanesResume_foot
    | with_reducible apply setMgmt_foot | with_reducible apply foldl_foot | with_reducible apply ite_foot | intro _ | split | contradiction
    | dsimp only
    | refine Foot.upd ?_ rfl (.inr rfl) (.inr rfl) (.inr rfl) (.inr rfl) (.inr rfl) (.inr rfl) (.inr rfl) (.inr rfl) (.inr rfl) (.inr rfl) (.inr rfl) (.inr rfl) (.inr rfl) (.inr rfl) (.inr rfl) (.inr rfl) (.inr rfl) (.inr rfl) (.inr rfl) Foot.named (.inr rfl) (.inr rfl) (.inr rfl) (.inr rfl)

theorem notActivated_foot (s : State) (h : Foot P r s) [Named P .regs] [Named P .latch] [Named P .hold] [Named P .tarn] [Named P .inlet] [Named P .aeA] [Named P .aeB] [Named P .outlet] [Named P .hif] [Named P .skink] [Named P .spawn] [Named P .fe] [Named P .dio] [Named P .can] [Named P .canWalk] [Named P .ws] [Named P .panel] [Named P .nvm] [Named P .upd] [Named P .gecko] : Foot P r (State.notActivated s) := by
  unfold State.notActivated
  try extract_lets
  repeat' first
    | with_reducible assumption | with_reducible apply fallBack_foot | with_reducible apply foldl_foot | with_reducible apply ite_foot | intro _
    | split | contradiction | dsimp only

theorem trialWarn_foot (s : State) (h : Foot P r s) [Named P .regs] [Named P .upd] : Foot P r (State.trialWarn s) := by
  unfold State.trialWarn
  try extract_lets
  repeat' first
    | with_reducible assumption | with_reducible apply raise_foot | with_reducible apply updUpd_foot | with_reducible apply foldl_foot
    | with_reducible apply ite_foot | intro _ | split | contradiction | dsimp only

theorem trialOver_foot (s : State) (h : Foot P r s) [Named P .regs] [Named P .latch] [Named P .hold] [Named P .tarn] [Named P .inlet] [Named P .aeA] [Named P .aeB] [Named P .outlet] [Named P .hif] [Named P .skink] [Named P .spawn] [Named P .fe] [Named P .dio] [Named P .can] [Named P .canWalk] [Named P .ws] [Named P .panel] [Named P .nvm] [Named P .upd] [Named P .gecko] : Foot P r (State.trialOver s) := by
  unfold State.trialOver
  try extract_lets
  repeat' first
    | with_reducible assumption | with_reducible apply fallBack_foot | with_reducible apply foldl_foot | with_reducible apply ite_foot | intro _
    | split | contradiction | dsimp only

theorem updConfirm_foot (s : State) (d : Desc) (h : Foot P r s) [Named P .regs] [Named P .hif] [Named P .nvm] [Named P .upd] [Named P .gecko] [Named P .free] : Foot P r (State.updConfirm s d) := by
  unfold State.updConfirm
  try extract_lets
  repeat' first
    | with_reducible assumption | with_reducible apply done_foot | with_reducible apply draw_foot
    | (with_reducible refine Eq.mp (congrArg (Foot P r) (congrArg Prod.snd ‹_ = (_, _)›)) (draw_foot ..)) | with_reducible apply bootActive_foot
    | with_reducible apply setSes_foot | with_reducible apply revoke_foot | with_reducible apply eraseRegion_foot
    | with_reducible apply writeDone_foot | with_reducible apply updUpd_foot | with_reducible apply raise_foot | with_reducible apply foldl_foot
    | with_reducible apply ite_foot | intro _ | split | contradiction | dsimp only

theorem updAbandon_foot (s : State) (d : Desc) (h : Foot P r s) [Named P .regs] [Named P .latch] [Named P .hold] [Named P .tarn] [Named P .inlet] [Named P .aeA] [Named P .aeB] [Named P .outlet] [Named P .hif] [Named P .skink] [Named P .spawn] [Named P .fe] [Named P .dio] [Named P .can] [Named P .canWalk] [Named P .ws] [Named P .panel] [Named P .nvm] [Named P .upd] [Named P .gecko] : Foot P r (State.updAbandon s d) := by
  unfold State.updAbandon
  try extract_lets
  repeat' first
    | with_reducible assumption | with_reducible apply done_foot | with_reducible apply fallBack_foot | with_reducible apply writeReady_foot
    | with_reducible apply bootActive_foot | with_reducible apply endSession_foot | with_reducible apply foldl_foot | with_reducible apply ite_foot
    | intro _ | split | contradiction | dsimp only

theorem converted_foot (s : State) (h : Foot P r s) [Named P .nvm] [Named P .upd] [Named P .gecko] : Foot P r (State.converted s) := by
  unfold State.converted
  try extract_lets
  repeat' first
    | with_reducible assumption | with_reducible apply convert_foot | with_reducible apply foldl_foot | with_reducible apply ite_foot | intro _
    | split | contradiction | dsimp only

theorem notConverted_foot (s : State) (h : Foot P r s) [Named P .regs] [Named P .latch] [Named P .hold] [Named P .tarn] [Named P .inlet] [Named P .aeA] [Named P .aeB] [Named P .outlet] [Named P .hif] [Named P .skink] [Named P .spawn] [Named P .fe] [Named P .dio] [Named P .can] [Named P .canWalk] [Named P .ws] [Named P .panel] [Named P .nvm] [Named P .upd] [Named P .gecko] : Foot P r (State.notConverted s) := by
  unfold State.notConverted
  try extract_lets
  repeat' first
    | with_reducible assumption | with_reducible apply fallBack_foot | with_reducible apply foldl_foot | with_reducible apply ite_foot | intro _
    | split | contradiction | dsimp only

theorem keyProgram_foot (s : State) (h : Foot P r s) [Named P .regs] [Named P .nvm] : Foot P r (State.keyProgram s) := by
  unfold State.keyProgram
  try extract_lets
  repeat' first
    | with_reducible assumption | with_reducible apply ignored_foot | with_reducible apply setRegBit_foot | with_reducible apply updNvm_foot
    | with_reducible apply foldl_foot | with_reducible apply ite_foot | intro _ | split | contradiction | dsimp only

theorem keyDone_foot (s : State) (h : Foot P r s) [Named P .regs] [Named P .nvm] [Named P .upd] : Foot P r (State.keyDone s) := by
  unfold State.keyDone
  try extract_lets
  repeat' first
    | with_reducible assumption | with_reducible apply updNvm_foot | with_reducible apply raise_foot | with_reducible apply updUpd_foot
    | with_reducible apply foldl_foot | with_reducible apply ite_foot | intro _ | split | contradiction | dsimp only

theorem updReplay_foot (s : State) (f : Replay → Replay) (h : Foot P r s) [Named P .spawn] : Foot P r (State.updReplay s f) := by
  unfold State.updReplay
  try extract_lets
  repeat' first
    | with_reducible assumption | with_reducible apply updSpawn_foot | with_reducible apply foldl_foot | with_reducible apply ite_foot | intro _
    | split | contradiction | dsimp only

theorem setRp_foot (s : State) (st : Nat) (h : Foot P r s) [Named P .regs] : Foot P r (State.setRp s st) := by
  unfold State.setRp
  try extract_lets
  repeat' first
    | with_reducible assumption | with_reducible apply setRegFld_foot | with_reducible apply foldl_foot | with_reducible apply ite_foot | intro _
    | split | contradiction | dsimp only

theorem rpFail_foot (s : State) (err : Nat) (h : Foot P r s) [Named P .regs] : Foot P r (State.rpFail s err) := by
  unfold State.rpFail
  try extract_lets
  repeat' first
    | with_reducible assumption | with_reducible apply raise_foot | with_reducible apply setRegFld_foot | with_reducible apply setRp_foot
    | with_reducible apply foldl_foot | with_reducible apply ite_foot | intro _ | split | contradiction | dsimp only

theorem endStart_foot (s : State) (status : Nat) (result : U64) (h : Foot P r s) [Named P .hif] : Foot P r (State.endStart s status result) := by
  unfold State.endStart
  try extract_lets
  repeat' first
    | with_reducible assumption | with_reducible apply finish_foot | with_reducible apply foldl_foot | with_reducible apply ite_foot | intro _ | split
    | contradiction | dsimp only

theorem rpError_foot (s : State) (err : Nat) (status : Nat) (h : Foot P r s) [Named P .regs] [Named P .hif] : Foot P r (State.rpError s err status) := by
  unfold State.rpError
  try extract_lets
  repeat' first
    | with_reducible assumption | with_reducible apply rpFail_foot | with_reducible apply endStart_foot | with_reducible apply foldl_foot
    | with_reducible apply ite_foot | intro _ | split | contradiction | dsimp only

theorem rpClear_foot (s : State) (h : Foot P r s) [Named P .regs] : Foot P r (State.rpClear s) := by
  unfold State.rpClear
  try extract_lets
  repeat' first
    | with_reducible assumption | with_reducible apply setReg_foot | with_reducible apply foldl_foot | with_reducible apply ite_foot | intro _ | split
    | contradiction | dsimp only

theorem enterReplay_foot (s : State) (d : Desc) (h : Foot P r s) [Named P .regs] [Named P .inlet] [Named P .aeA] [Named P .aeB] [Named P .outlet] [Named P .hif] [Named P .skink] [Named P .spawn] [Named P .fe] [Named P .dio] : Foot P r (State.enterReplay s d) := by
  unfold State.enterReplay
  try extract_lets
  repeat' first
    | with_reducible assumption | with_reducible apply lanesEnd_foot | with_reducible apply rpClear_foot | with_reducible apply dropHeld_foot
    | with_reducible apply updReplay_foot | with_reducible apply updSpawn_foot | with_reducible apply updDio_foot | with_reducible apply updSkink_foot
    | with_reducible apply setMgmt_foot | with_reducible apply foldl_foot | with_reducible apply ite_foot | intro _ | split | contradiction
    | dsimp only
    | refine Foot.upd ?_ rfl (.inr rfl) (.inr rfl) (.inr rfl) (.inr rfl) Foot.named Foot.named Foot.named (.inr rfl) (.inr rfl) (.inr rfl) (.inr rfl) (.inr rfl) (.inr rfl) (.inr rfl) (.inr rfl) (.inr rfl) (.inr rfl) (.inr rfl) (.inr rfl) (.inr rfl) (.inr rfl) (.inr rfl) (.inr rfl) (.inr rfl)

theorem replayStart_foot (s : State) (d : Desc) (h : Foot P r s) [Named P .regs] [Named P .inlet] [Named P .aeA] [Named P .aeB] [Named P .outlet] [Named P .hif] [Named P .skink] [Named P .spawn] [Named P .fe] [Named P .dio] [Named P .can] [Named P .canWalk] [Named P .gecko] : Foot P r (State.replayStart s d) := by
  unfold State.replayStart
  try extract_lets
  repeat' first
    | with_reducible assumption | with_reducible apply enterReplay_foot | with_reducible apply done_foot | with_reducible apply haltNode_foot
    | with_reducible apply grantHold_foot | with_reducible apply defer_foot | with_reducible apply rpFail_foot | with_reducible apply foldl_foot
    | with_reducible apply ite_foot | intro _ | split | contradiction | dsimp only

theorem eat_foot (s : State) (n : Nat) (h : Foot P r s) [Named P .spawn] : Foot P r (State.eat s n) := by
  unfold State.eat
  try extract_lets
  repeat' first
    | with_reducible assumption | with_reducible apply updReplay_foot | with_reducible apply foldl_foot | with_reducible apply ite_foot | intro _
    | split | contradiction | dsimp only

theorem rpHeader_foot (s : State) (l : List Byte) (h : Foot P r s) [Named P .regs] [Named P .hif] [Named P .spawn] : Foot P r (State.rpHeader s l) := by
  unfold State.rpHeader
  try extract_lets
  repeat' first
    | with_reducible assumption | with_reducible apply rpError_foot | with_reducible apply updReplay_foot | with_reducible apply setRegFld_foot
    | with_reducible apply eat_foot | with_reducible apply foldl_foot | with_reducible apply ite_foot | intro _ | split | contradiction | dsimp only

theorem loadSection_foot (s : State) (region : Nat) (l : List Byte) (h : Foot P r s) [Named P .regs] [Named P .tarn] [Named P .aeA] [Named P .aeB] [Named P .gecko] : Foot P r (State.loadSection s region l) := by
  unfold State.loadSection
  try extract_lets
  repeat' first
    | with_reducible assumption | with_reducible apply statesWritten_foot | with_reducible apply tarnStore_foot
    | with_reducible apply pairEnabled_foot | with_reducible apply setReg_foot | with_reducible apply foldl_foot | with_reducible apply ite_foot
    | intro _ | split | contradiction | dsimp only
    | refine Foot.upd ?_ rfl (.inr rfl) (.inr rfl) (.inr rfl) (.inr rfl) (.inr rfl) Foot.named Foot.named (.inr rfl) (.inr rfl) (.inr rfl) (.inr rfl) (.inr rfl) (.inr rfl) (.inr rfl) (.inr rfl) (.inr rfl) (.inr rfl) (.inr rfl) (.inr rfl) (.inr rfl) (.inr rfl) (.inr rfl) (.inr rfl) (.inr rfl)

theorem rpSection_foot (s t : State) (h : Foot P r s) (e : s.rpSection = some t) [Named P .regs] [Named P .tarn] [Named P .aeA] [Named P .aeB] [Named P .hif] [Named P .spawn] [Named P .gecko] : Foot P r t := by
  unfold State.rpSection at e
  dsimp only at e
  repeat' split at e
  all_goals first
    | cases e; done
    | cases e; exact rpError_foot _ _ _ h
    | cases e; exact updReplay_foot _ _ (eat_foot _ _ (clearUe_foot _ _ _ (loadSection_foot _ _ _ h)))

theorem rpMark_foot (s : State) (r1 : InRec) (h : Foot P r s) [Named P .regs] [Named P .inlet] [Named P .aeA] [Named P .aeB] [Named P .outlet] [Named P .hif] [Named P .spawn] : Foot P r (State.rpMark s r1) := by
  unfold State.rpMark
  try extract_lets
  repeat' first
    | with_reducible assumption | with_reducible apply updOutlet_foot | with_reducible apply setReg_foot | with_reducible apply setPair_foot
    | with_reducible apply updReplay_foot | with_reducible apply setRp_foot | with_reducible apply endStart_foot | with_reducible apply foldl_foot
    | with_reducible apply ite_foot | intro _ | split | contradiction | dsimp only
    | refine Foot.upd ?_ rfl (.inr rfl) (.inr rfl) (.inr rfl) (.inr rfl) Foot.named Foot.named Foot.named (.inr rfl) (.inr rfl) (.inr rfl) (.inr rfl) (.inr rfl) (.inr rfl) (.inr rfl) (.inr rfl) (.inr rfl) (.inr rfl) (.inr rfl) (.inr rfl) (.inr rfl) (.inr rfl) (.inr rfl) (.inr rfl) (.inr rfl)

theorem rpBarrier_foot (s : State) (r1 : InRec) (h : Foot P r s) [Named P .regs] [Named P .inlet] : Foot P r (State.rpBarrier s r1) := by
  unfold State.rpBarrier
  try extract_lets
  repeat' first
    | with_reducible assumption | with_reducible apply openBarrier_foot | with_reducible apply foldl_foot | with_reducible apply ite_foot | intro _
    | split | contradiction | dsimp only

theorem rpAdmit_foot (s : State) (r1 : InRec) (h : Foot P r s) [Named P .regs] [Named P .inlet] [Named P .spawn] [Named P .gecko] : Foot P r (State.rpAdmit s r1) := by
  unfold State.rpAdmit
  try extract_lets
  repeat' first
    | with_reducible assumption | with_reducible apply updReplay_foot | with_reducible apply bump_foot | with_reducible apply spill_foot
    | with_reducible apply recordMax_foot | with_reducible apply rpBarrier_foot | with_reducible apply foldl_foot | with_reducible apply ite_foot
    | intro _ | split | contradiction | dsimp only
    | refine Foot.upd ?_ rfl (.inr rfl) (.inr rfl) (.inr rfl) (.inr rfl) Foot.named (.inr rfl) (.inr rfl) (.inr rfl) (.inr rfl) (.inr rfl) (.inr rfl) (.inr rfl) (.inr rfl) (.inr rfl) (.inr rfl) (.inr rfl) (.inr rfl) (.inr rfl) (.inr rfl) (.inr rfl) (.inr rfl) (.inr rfl) (.inr rfl) (.inr rfl)

theorem rpTick_foot (s : State) (x : InRec) (n : Nat) (t : State) (h : Foot P r s) (e : s.rpTick x n = some t) [Named P .regs] [Named P .inlet] [Named P .hif] [Named P .spawn] [Named P .gecko] : Foot P r t := by
  unfold State.rpTick at e
  dsimp only at e
  have hp : ∀ k, Foot P r ((s.eat k).rpAdmit x) := fun k => rpAdmit_foot _ _ (eat_foot _ _ h)
  repeat' split at e
  all_goals first
    | cases e; done
    | cases e; exact hp _
    | cases e; exact rpError_foot _ _ _ (hp _)
    | cases e; exact rpError_foot _ _ _ h
    | cases e; exact updSpawn_foot _ _ (updReplay_foot _ _ (hp _))

theorem rpRecord_foot (s t : State) (h : Foot P r s) (e : s.rpRecord = some t) [Named P .regs] [Named P .inlet] [Named P .hif] [Named P .spawn] [Named P .gecko] : Foot P r t := by
  unfold State.rpRecord at e
  dsimp only at e
  repeat' split at e
  all_goals first
    | cases e; done
    | cases e; exact rpError_foot _ _ _ h
    | exact rpTick_foot _ _ _ _ h e
    | cases e; exact rpAdmit_foot _ _ (eat_foot _ _ h)

theorem rpShort_foot (s : State) (n : Nat) (t : State) (h : Foot P r s) (e : s.rpShort n = some t) [Named P .regs] [Named P .hif] : Foot P r t := by
  unfold State.rpShort at e
  split at e <;> cases e
  exact rpError_foot _ _ _ h

theorem rpNext_foot (s t : State) (h : Foot P r s) (e : s.rpNext = some t) [Named P .regs] [Named P .tarn] [Named P .inlet] [Named P .aeA] [Named P .aeB] [Named P .outlet] [Named P .hif] [Named P .spawn] [Named P .gecko] : Foot P r t := by
  unfold State.rpNext at e
  dsimp only at e
  split at e
  · cases e
  · split at e
    · split at e
      · exact rpShort_foot _ _ _ h e
      · cases e; exact rpHeader_foot _ _ h
    · rw [Option.orElse_eq_orElse, Option.orElse_eq_or, Option.or_eq_some_iff] at e
      rcases e with e | ⟨_, e⟩
      · exact rpSection_foot _ _ h e
      · exact rpShort_foot _ _ _ h e
    · split at e
      · exact rpShort_foot _ _ _ h e
      · split at e
        · cases e; exact rpMark_foot _ _ (eat_foot _ _ h)
        · cases e; exact rpError_foot _ _ _ h
    · split at e
      · cases e
      · exact rpRecord_foot _ _ h e

theorem rpFeed_foot (n : Nat) (s : State) (h : Foot P r s) [Named P .regs] [Named P .tarn] [Named P .inlet] [Named P .aeA] [Named P .aeB] [Named P .outlet] [Named P .hif] [Named P .spawn] [Named P .gecko] : Foot P r (State.rpFeed n s) := by
  induction n generalizing s with
  | zero => exact h
  | succ n ih =>
    unfold State.rpFeed
    split
    · exact h
    · next t e => exact ih _ (rpNext_foot s t h e)

theorem rpRun_foot (s : State) (h : Foot P r s) [Named P .regs] [Named P .tarn] [Named P .inlet] [Named P .aeA] [Named P .aeB] [Named P .outlet] [Named P .hif] [Named P .spawn] [Named P .gecko] : Foot P r (State.rpRun s) := by
  unfold State.rpRun
  try extract_lets
  repeat' first
    | with_reducible assumption | with_reducible apply rpFeed_foot | with_reducible apply foldl_foot | with_reducible apply ite_foot | intro _ | split
    | contradiction | dsimp only

theorem rpBuffer_foot (s : State) (data : Image) (h : Foot P r s) [Named P .regs] [Named P .tarn] [Named P .inlet] [Named P .aeA] [Named P .aeB] [Named P .outlet] [Named P .hif] [Named P .spawn] [Named P .gecko] : Foot P r (State.rpBuffer s data) := by
  unfold State.rpBuffer
  try extract_lets
  repeat' first
    | with_reducible assumption | with_reducible apply readBuffer_foot | with_reducible apply ringError_foot | with_reducible apply takeHead_foot
    | with_reducible apply setPair_foot | with_reducible apply rpError_foot | with_reducible apply rpRun_foot | with_reducible apply updReplay_foot
    | with_reducible apply foldl_foot | with_reducible apply ite_foot | intro _ | split | contradiction | dsimp only

theorem rpMismatch_foot (s : State) (isn : U64) (bad : List Nat) (h : Foot P r s) [Named P .regs] [Named P .spawn] : Foot P r (State.rpMismatch s isn bad) := by
  unfold State.rpMismatch
  try extract_lets
  repeat' first
    | with_reducible assumption | with_reducible apply setPair_foot | with_reducible apply setReg_foot | with_reducible apply setRegFld_foot
    | with_reducible apply raise_foot | with_reducible apply updReplay_foot | with_reducible apply foldl_foot | with_reducible apply ite_foot
    | intro _ | split | contradiction | dsimp only

theorem rpCompare_foot (s : State) (h : Foot P r s) [Named P .regs] [Named P .tarn] [Named P .inlet] [Named P .aeA] [Named P .aeB] [Named P .outlet] [Named P .hif] [Named P .skink] [Named P .spawn] [Named P .fe] [Named P .dio] [Named P .can] [Named P .canWalk] [Named P .gecko] : Foot P r (State.rpCompare s) := by
  unfold State.rpCompare
  try extract_lets
  repeat' first
    | with_reducible assumption | with_reducible apply bump_foot | with_reducible apply updReplay_foot | with_reducible apply updSpawn_foot
    | with_reducible apply rpMismatch_foot | with_reducible apply failEngine_foot | with_reducible apply setRp_foot | with_reducible apply rpRun_foot
    | with_reducible apply foldl_foot | with_reducible apply ite_foot | intro _ | split | contradiction | dsimp only

theorem rpEnd_foot (s : State) (h : Foot P r s) [Named P .regs] : Foot P r (State.rpEnd s) := by
  unfold State.rpEnd
  try extract_lets
  repeat' first
    | with_reducible assumption | with_reducible apply setRp_foot | with_reducible apply raise_foot | with_reducible apply setRegFld_foot
    | with_reducible apply foldl_foot | with_reducible apply ite_foot | intro _ | split | contradiction | dsimp only

theorem eatSpawnIn_foot (s : State) (h : Foot P r s) [Named P .regs] [Named P .hif] : Foot P r (State.eatSpawnIn s) := by
  unfold State.eatSpawnIn
  try extract_lets
  repeat' first
    | with_reducible assumption | with_reducible apply updHif_foot | with_reducible apply advanceRing_foot | with_reducible apply foldl_foot
    | with_reducible apply ite_foot | intro _ | split | contradiction | dsimp only

theorem replayStop_foot (s : State) (d : Desc) (h : Foot P r s) [Named P .regs] [Named P .inlet] [Named P .aeA] [Named P .aeB] [Named P .outlet] [Named P .hif] [Named P .skink] [Named P .spawn] [Named P .dio] [Named P .gecko] : Foot P r (State.replayStop s d) := by
  unfold State.replayStop
  try extract_lets
  repeat' first
    | with_reducible assumption | with_reducible apply endStart_foot | with_reducible apply updReplay_foot | with_reducible apply setRp_foot
    | with_reducible apply eatSpawnIn_foot | with_reducible apply updDio_foot | with_reducible apply updSpawn_foot | with_reducible apply done_foot
    | with_reducible apply setRegFld_foot | with_reducible apply setDirty_foot | with_reducible apply enterSetup_foot
    | with_reducible apply foldl_foot | with_reducible apply ite_foot | intro _ | split | contradiction | dsimp only

theorem readLo_foot (s : State) (o : Off) (h : Foot P r s) [Named P .latch] [Named P .ws] [Named P .hostRead] : Foot P r (State.readLo s o) := by
  unfold State.readLo
  try extract_lets
  repeat' first
    | with_reducible assumption | with_reducible apply foldl_foot | with_reducible apply ite_foot | intro _ | split | contradiction | dsimp only
    | refine Foot.upd ?_ rfl (.inr rfl) (.inr rfl) (.inr rfl) (.inr rfl) (.inr rfl) (.inr rfl) (.inr rfl) (.inr rfl) (.inr rfl) (.inr rfl) (.inr rfl) (.inr rfl) (.inr rfl) (.inr rfl) (.inr rfl) (.inr rfl) (.inr rfl) (.inr rfl) (.inr rfl) (.inr rfl) (.inr rfl) (.inr rfl) Foot.named (.inr rfl)
    | refine Foot.upd ?_ rfl (.inr rfl) Foot.named (.inr rfl) (.inr rfl) (.inr rfl) (.inr rfl) (.inr rfl) (.inr rfl) (.inr rfl) (.inr rfl) (.inr rfl) (.inr rfl) (.inr rfl) (.inr rfl) (.inr rfl) Foot.named (.inr rfl) (.inr rfl) (.inr rfl) (.inr rfl) (.inr rfl) (.inr rfl) Foot.named (.inr rfl)
    | refine Foot.upd ?_ rfl (.inr rfl) Foot.named (.inr rfl) (.inr rfl) (.inr rfl) (.inr rfl) (.inr rfl) (.inr rfl) (.inr rfl) (.inr rfl) (.inr rfl) (.inr rfl) (.inr rfl) (.inr rfl) (.inr rfl) (.inr rfl) (.inr rfl) (.inr rfl) (.inr rfl) (.inr rfl) (.inr rfl) (.inr rfl) Foot.named (.inr rfl)
    | refine Foot.upd ?_ rfl (.inr rfl) Foot.named (.inr rfl) (.inr rfl) (.inr rfl) (.inr rfl) (.inr rfl) (.inr rfl) (.inr rfl) (.inr rfl) (.inr rfl) (.inr rfl) (.inr rfl) (.inr rfl) (.inr rfl) Foot.named (.inr rfl) (.inr rfl) (.inr rfl) (.inr rfl) (.inr rfl) (.inr rfl) (.inr rfl) (.inr rfl)

theorem tmoWritten_foot (s : State) (k : Nat) (b : Off) (h : Foot P r s) [Named P .ws] : Foot P r (State.tmoWritten s k b) := by
  unfold State.tmoWritten
  try extract_lets
  repeat' first
    | with_reducible assumption | with_reducible apply tmoPin_foot | with_reducible apply tmoArm_foot | with_reducible apply updTmo_foot
    | with_reducible apply foldl_foot | with_reducible apply ite_foot | intro _ | split | contradiction | dsimp only

theorem written_foot (s : State) (was : U32) (o : Off) (v : U32) (h : Foot P r s) [Named P .regs] [Named P .ws] [Named P .rtc] [Named P .panel] : Foot P r (State.written s was o v) := by
  unfold State.written
  try extract_lets
  repeat' first
    | with_reducible assumption | with_reducible apply tmoWritten_foot | with_reducible apply asymChanged_foot | with_reducible apply panelCtl_foot
    | with_reducible apply pairLost_foot | with_reducible apply servoChange_foot | with_reducible apply updRtc_foot | with_reducible apply foldl_foot
    | with_reducible apply ite_foot | intro _ | split | contradiction | dsimp only

theorem clearW1c_foot (s : State) (o : Off) (v : U32) (h : Foot P r s) [Named P .regs] [Named P .rtc] : Foot P r (State.clearW1c s o v) := by
  unfold State.clearW1c
  try extract_lets
  repeat' first
    | with_reducible assumption | with_reducible apply setReg_foot | with_reducible apply emitOut_foot | with_reducible apply updRtc_foot
    | with_reducible apply foldl_foot | with_reducible apply ite_foot | intro _ | split | contradiction | dsimp only

theorem storeReg_foot (s : State) (r1 : RegRow) (o : Off) (v : U32) (h : Foot P r s) [Named P .regs] [Named P .ws] [Named P .rtc] [Named P .panel] : Foot P r (State.storeReg s r1 o v) := by
  unfold State.storeReg
  try extract_lets
  repeat' first
    | with_reducible assumption | with_reducible apply written_foot | with_reducible apply setReg_foot | with_reducible apply setDirty_foot
    | with_reducible apply summarise_foot | with_reducible apply foldl_foot | with_reducible apply ite_foot | intro _ | split | contradiction
    | dsimp only

theorem writeByAccess_foot (s : State) (r1 : RegRow) (o : Off) (v : U32) (h : Foot P r s) [Named P .regs] [Named P .ws] [Named P .rtc] [Named P .panel] [Named P .upd] : Foot P r (State.writeByAccess s r1 o v) := by
  unfold State.writeByAccess
  try extract_lets
  repeat' first
    | with_reducible assumption | with_reducible apply ignored_foot | with_reducible apply setReg_foot | with_reducible apply clearW1c_foot
    | with_reducible apply updUpd_foot | with_reducible apply storeReg_foot | with_reducible apply foldl_foot | with_reducible apply ite_foot
    | intro _ | split | contradiction | dsimp only

theorem holdLow_foot (s : State) (o : Off) (v : U32) (h : Foot P r s) [Named P .hold] : Foot P r (State.holdLow s o v) := by
  unfold State.holdLow
  try extract_lets
  repeat' first
    | with_reducible assumption | with_reducible apply foldl_foot | with_reducible apply ite_foot | intro _ | split | contradiction | dsimp only
    | refine Foot.upd ?_ rfl (.inr rfl) (.inr rfl) Foot.named (.inr rfl) (.inr rfl) (.inr rfl) (.inr rfl) (.inr rfl) (.inr rfl) (.inr rfl) (.inr rfl) (.inr rfl) (.inr rfl) (.inr rfl) (.inr rfl) (.inr rfl) (.inr rfl) (.inr rfl) (.inr rfl) (.inr rfl) (.inr rfl) (.inr rfl) (.inr rfl) (.inr rfl)

theorem commitPair_foot (s : State) (r1 : RegRow) (hi : Off) (v : U32) (h : Foot P r s) [Named P .regs] [Named P .hold] [Named P .ws] [Named P .rtc] [Named P .panel] : Foot P r (State.commitPair s r1 hi v) := by
  unfold State.commitPair
  try extract_lets
  repeat' first
    | with_reducible assumption | with_reducible apply ignored_foot | with_reducible apply setReg_foot | with_reducible apply storeReg_foot
    | with_reducible apply foldl_foot | with_reducible apply ite_foot | intro _ | split | contradiction | dsimp only
    | refine Foot.upd ?_ rfl (.inr rfl) (.inr rfl) Foot.named (.inr rfl) (.inr rfl) (.inr rfl) (.inr rfl) (.inr rfl) (.inr rfl) (.inr rfl) (.inr rfl) (.inr rfl) (.inr rfl) (.inr rfl) (.inr rfl) (.inr rfl) (.inr rfl) (.inr rfl) (.inr rfl) (.inr rfl) (.inr rfl) (.inr rfl) (.inr rfl) (.inr rfl)

theorem mgmtCmd_foot (s : State) (v : U32) (h : Foot P r s) [Named P .regs] [Named P .latch] [Named P .hold] [Named P .tarn] [Named P .inlet] [Named P .aeA] [Named P .aeB] [Named P .outlet] [Named P .hif] [Named P .skink] [Named P .spawn] [Named P .fe] [Named P .dio] [Named P .can] [Named P .canWalk] [Named P .ws] [Named P .panel] [Named P .nvm] [Named P .upd] [Named P .gecko] [Named P .free] : Foot P r (State.mgmtCmd s v) := by
  unfold State.mgmtCmd
  try extract_lets
  repeat' first
    | with_reducible assumption | with_reducible apply startNow_foot | with_reducible apply stopNow_foot | with_reducible apply restart_foot
    | with_reducible apply commissionNow_foot | with_reducible apply verifyNow_foot | with_reducible apply acceptNow_foot
    | with_reducible apply bypassNow_foot | with_reducible apply cmdIgnored_foot | with_reducible apply foldl_foot | with_reducible apply ite_foot
    | intro _ | split | contradiction | dsimp only

theorem msixCtl_foot (s : State) (vec : Nat) (v : U32) (h : Foot P r s) [Named P .regs] : Foot P r (State.msixCtl s vec v) := by
  unfold State.msixCtl
  try extract_lets
  repeat' first
    | with_reducible assumption | with_reducible apply setRegBit_foot | with_reducible apply unmask_foot | with_reducible apply foldl_foot
    | with_reducible apply ite_foot | intro _ | split | contradiction | dsimp only

theorem byCode_foot (s : State) (o : Off) (v : U32) (one : State → State) (two : State → State) (h : Foot P r s) (h_one : ∀ t, Foot P r t → Foot P r (one t)) (h_two : ∀ t, Foot P r t → Foot P r (two t)) [Named P .regs] : Foot P r (State.byCode s o v one two) := by
  unfold State.byCode
  try extract_lets
  repeat' first
    | with_reducible assumption | with_reducible apply h_one | with_reducible apply h_two | with_reducible apply ignored_foot
    | with_reducible apply foldl_foot | with_reducible apply ite_foot | intro _ | split | contradiction | dsimp only

theorem ownWrite_foot (o : Off) (v : U32) (f : State → State) (s : State) (e : ownWrite o v = some f) (h : Foot P r s) [Named P .regs] [Named P .latch] [Named P .hold] [Named P .tarn] [Named P .inlet] [Named P .aeA] [Named P .aeB] [Named P .outlet] [Named P .hif] [Named P .skink] [Named P .spawn] [Named P .fe] [Named P .dio] [Named P .can] [Named P .canWalk] [Named P .ws] [Named P .rtc] [Named P .panel] [Named P .nvm] [Named P .upd] [Named P .gecko] [Named P .free] :
    Foot P r (f s) := by
  unfold ownWrite at e
  refine ifSome_foot e (hifCtl_foot _ _ h) fun e => ?_
  refine ifSome_foot e (ringCtl_foot _ _ _ h) fun e => ?_
  refine ifSome_foot e (kickNow_foot _ h) fun e => ?_
  refine ifSome_foot e (msixCtl_foot _ _ _ h) fun e => ?_
  refine ifSome_foot e (ite_foot _ _ _ (fun _ => legFlush_foot _ h) (fun _ => h)) fun e => ?_
  refine ifSome_foot e (checkWrite_foot _ _ h) fun e => ?_
  refine ifSome_foot e (byCode_foot _ _ _ _ _ h (fun _ h => legPtWrite_foot _ h) (fun _ h => legPtRead_foot _ h)) fun e => ?_
  refine ifSome_foot e (inject_foot _ _ _ h) fun e => ?_
  refine ifSome_foot e (inject_foot _ _ _ h) fun e => ?_
  refine ifSome_foot e (byCode_foot _ _ _ _ _ h (fun _ h => setNow_foot _ h) (fun _ h => clearSwo_foot _ h)) fun e => ?_
  refine ifSome_foot e (shiftWrite_foot _ _ h) fun e => ?_
  refine ifSome_foot e (byCode_foot _ _ _ _ _ h (fun _ h => dstWrite_foot _ _ h) (fun _ h => dstWrite_foot _ _ h)) fun e => ?_
  refine ifSome_foot e (almCtl_foot _ _ h) fun e => ?_
  refine ifSome_foot e (wakeCtl_foot _ _ h) fun e => ?_
  refine ifSome_foot e (trickleWrite_foot _ _ h) fun e => ?_
  refine ifSome_foot e (ite_foot _ _ _ (fun _ => legSet_foot _ h) (fun _ => ignored_foot _ _ _ _ h)) fun e => ?_
  refine ifSome_foot e (ite_foot _ _ _ (fun _ => keyProgram_foot _ h) (fun _ => ignored_foot _ _ _ _ h)) fun e => ?_
  refine ifSome_foot e (fmodeWrite_foot _ _ h) fun e => ?_
  refine ifSome_foot e (intEnWrite_foot _ _ h) fun e => ?_
  refine ifSome_foot e (intRearm_foot _ h) fun e => ?_
  refine ifSome_foot e (mgmtCmd_foot _ _ h) fun e => ?_
  cases e

theorem writeReg_foot (s : State) (o : Off) (v : U32) (h : Foot P r s) [Named P .regs] [Named P .latch] [Named P .hold] [Named P .tarn] [Named P .inlet] [Named P .aeA] [Named P .aeB] [Named P .outlet] [Named P .hif] [Named P .skink] [Named P .spawn] [Named P .fe] [Named P .dio] [Named P .can] [Named P .canWalk] [Named P .ws] [Named P .rtc] [Named P .panel] [Named P .nvm] [Named P .upd] [Named P .gecko] [Named P .free] : Foot P r (s.writeReg o v) := by
  unfold State.writeReg
  split
  · exact ignored_foot _ _ _ _ h
  · refine ite_foot _ _ _ (fun _ => ignored_foot _ _ _ _ h) fun _ => ite_foot _ _ _ (fun _ => restart_foot _ _ h) fun _ =>
      ite_foot _ _ _ (fun _ => ignored_foot _ _ _ _ h) fun _ => ?_
    split
    · next f e => exact ownWrite_foot o v f s e h
    · exact ite_foot _ _ _ (fun _ => holdLow_foot _ _ _ h) fun _ => ite_foot _ _ _ (fun _ => commitPair_foot _ _ _ _ h)
        fun _ => writeByAccess_foot _ _ _ _ h

theorem readWord_foot (s : State) (o : Off) (h : Foot P r s) [Named P .latch] [Named P .outlet] [Named P .ws] [Named P .rtc] [Named P .hostRead] : Foot P r (State.readWord s o) := by
  unfold State.readWord
  try extract_lets
  repeat' first
    | with_reducible assumption | with_reducible apply legW0Read_foot | with_reducible apply legW3Read_foot | with_reducible apply fracRead_foot
    | with_reducible apply secHiRead_foot | with_reducible apply legSecRead_foot | with_reducible apply legYearRead_foot
    | with_reducible apply txtsW0Read_foot | with_reducible apply txtsHiRead_foot | with_reducible apply readLo_foot | with_reducible apply foldl_foot
    | with_reducible apply ite_foot | intro _ | split | contradiction | dsimp only

theorem badRequest_foot (s : State) (k : BadAccess) (h : Foot P r s) [Named P .regs] [Named P .latch] [Named P .outlet] [Named P .ws] [Named P .rtc] [Named P .hostRead] : Foot P r (State.badRequest s k) := by
  unfold State.badRequest
  try extract_lets
  repeat' first
    | with_reducible assumption | with_reducible apply raise_foot | with_reducible apply bump_foot | with_reducible apply emitOut_foot
    | with_reducible apply readWord_foot | with_reducible apply foldl_foot | with_reducible apply ite_foot | intro _ | split | contradiction
    | dsimp only
    | refine Foot.upd ?_ rfl (.inr rfl) (.inr rfl) (.inr rfl) (.inr rfl) (.inr rfl) (.inr rfl) (.inr rfl) (.inr rfl) (.inr rfl) (.inr rfl) (.inr rfl) (.inr rfl) (.inr rfl) (.inr rfl) (.inr rfl) (.inr rfl) (.inr rfl) (.inr rfl) (.inr rfl) (.inr rfl) (.inr rfl) (.inr rfl) Foot.named (.inr rfl)

theorem windowWrite_foot (s : State) (o : Off) (data : List Byte) (h : Foot P r s) [Named P .regs] [Named P .tarn] [Named P .gecko] : Foot P r (State.windowWrite s o data) := by
  unfold State.windowWrite
  try extract_lets
  repeat' first
    | with_reducible assumption | with_reducible apply ignored_foot | with_reducible apply setDirty_foot | with_reducible apply tarnStore_foot
    | with_reducible apply foldl_foot | with_reducible apply ite_foot | intro _ | split | contradiction | dsimp only

theorem withFetchWord_foot (s : State) (nbits : Nat) (w : Nat) (h : Foot P r s) : Foot P r (State.withFetchWord s nbits w) := by
  unfold State.withFetchWord
  try extract_lets
  repeat' first
    | with_reducible assumption | with_reducible apply foldl_foot | with_reducible apply ite_foot | intro _ | split | contradiction | dsimp only
    | refine Foot.upd ?_ rfl (.inr rfl) (.inr rfl) (.inr rfl) (.inr rfl) (.inr rfl) (.inr rfl) (.inr rfl) (.inr rfl) (.inr rfl) (.inr rfl) (.inr rfl) (.inr rfl) (.inr rfl) (.inr rfl) (.inr rfl) (.inr rfl) (.inr rfl) (.inr rfl) (.inr rfl) (.inr rfl) (.inr rfl) (.inr rfl) (.inr rfl) (.inr rfl)

end Sys2Proof.Machine
end

