-- ==== Sys2Proof/Laws/ExecFrame.lean ====
section
/-! SUPPORT. What the meaning of every row leaves alone, wherever it answers a next state. -/

set_option Elab.async false
set_option linter.unusedTactic false
set_option linter.unreachableTactic false

namespace Sys2Proof.Machine

variable {P : Zone → Bool} {r : State}

theorem next_foot {s t : State} (h : Foot P r s) (e : (.next s : Host.Outcome State Fault Refusal) = .next t) : Foot P r t := by
  cases e; exact h

theorem need_foot {c : Bool} {s t : State} (h : Foot P r s) (e : need c s = .next t) : Foot P r t := by
  unfold need at e
  split at e
  · cases e; exact h
  · cases e

theorem checkPoint_foot (img : Image) (d : Desc) (s : State) (x : Nat × State) (h : Foot P r s) (e : checkPoint img d s = .inl x) :
    Foot P r x.2 := by
  unfold checkPoint at e
  dsimp only at e
  repeat' split at e
  all_goals first
    | cases e; done
    | cases e; exact h
    | cases e; exact setReg_foot _ _ _ h

theorem checkChandef_foot (img : Image) (d : Desc) (s : State) (x : Nat × State) (h : Foot P r s) (e : checkChandef img d s = .inl x) [Named P .regs] :
    Foot P r x.2 := by
  unfold checkChandef at e
  dsimp only at e
  repeat' split at e
  all_goals first
    | cases e; done
    | cases e; exact h
    | cases e; exact setReg_foot _ _ _ h

theorem checkGroup_foot (img : Image) (d : Desc) (s : State) (x : Nat × State) (h : Foot P r s) (e : checkGroup img d s = .inl x) :
    Foot P r x.2 := by
  unfold checkGroup at e
  dsimp only at e
  repeat' split at e
  all_goals first
    | cases e; done
    | cases e; exact h
    | cases e; exact setReg_foot _ _ _ h

theorem checkFanout_foot (img : Image) (d : Desc) (s : State) (x : Nat × State) (h : Foot P r s) (e : checkFanout img d s = .inl x) :
    Foot P r x.2 := by
  unfold checkFanout at e
  dsimp only at e
  repeat' split at e
  all_goals first
    | cases e; done
    | cases e; exact h
    | cases e; exact setReg_foot _ _ _ h

theorem checkLintab_foot (img : Image) (d : Desc) (s : State) (x : Nat × State) (h : Foot P r s) (e : checkLintab img d s = .inl x) [Named P .regs] :
    Foot P r x.2 := by
  unfold checkLintab at e
  dsimp only at e
  repeat' split at e
  all_goals first
    | cases e; done
    | cases e; exact h
    | cases e; exact setReg_foot _ _ _ h

theorem checkCanfilt_foot (img : Image) (d : Desc) (s : State) (x : Nat × State) (h : Foot P r s) (e : checkCanfilt img d s = .inl x) [Named P .regs] :
    Foot P r x.2 := by
  unfold checkCanfilt at e
  dsimp only at e
  repeat' split at e
  all_goals first
    | cases e; done
    | cases e; exact h
    | cases e; exact setReg_foot _ _ _ h

theorem checkCansig_foot (img : Image) (d : Desc) (s : State) (x : Nat × State) (h : Foot P r s) (e : checkCansig img d s = .inl x) [Named P .regs] :
    Foot P r x.2 := by
  unfold checkCansig at e
  dsimp only at e
  repeat' split at e
  all_goals first
    | cases e; done
    | cases e; exact h
    | cases e; exact setReg_foot _ _ _ h

theorem execEvalSample_foot (e1 : EngineId) (s : State) (t : State) (e : execEvalSample e1 s = .next t) [Named P .regs] [Named P .inlet] [Named P .aeA] [Named P .aeB] [Named P .outlet] [Named P .hif] [Named P .skink] [Named P .spawn] [Named P .fe] [Named P .dio] [Named P .can] [Named P .canWalk] [Named P .gecko] : Foot P s t := by
  have h : Foot P s s := Foot.refl s
  unfold execEvalSample at e
  try extract_lets at e
  first | refine next_foot ?_ e | refine need_foot ?_ e
  all_goals repeat' first
    | with_reducible assumption | with_reducible apply evaluate_foot | with_reducible apply fresh_foot | with_reducible apply onSample_foot
    | with_reducible apply foldl_foot | with_reducible apply ite_foot | intro _ | split | contradiction | dsimp only

theorem execEvalDiChange_foot (e1 : EngineId) (s : State) (t : State) (e : execEvalDiChange e1 s = .next t) [Named P .regs] [Named P .inlet] [Named P .aeA] [Named P .aeB] [Named P .outlet] [Named P .hif] [Named P .skink] [Named P .spawn] [Named P .fe] [Named P .dio] [Named P .can] [Named P .canWalk] [Named P .gecko] : Foot P s t := by
  have h : Foot P s s := Foot.refl s
  unfold execEvalDiChange at e
  try extract_lets at e
  first | refine next_foot ?_ e | refine need_foot ?_ e
  all_goals repeat' first
    | with_reducible assumption | with_reducible apply evaluate_foot | with_reducible apply fresh_foot | with_reducible apply onDiChange_foot
    | with_reducible apply foldl_foot | with_reducible apply ite_foot | intro _ | split | contradiction | dsimp only

theorem execEvalCount_foot (e1 : EngineId) (s : State) (t : State) (e : execEvalCount e1 s = .next t) [Named P .regs] [Named P .inlet] [Named P .aeA] [Named P .aeB] [Named P .outlet] [Named P .hif] [Named P .skink] [Named P .spawn] [Named P .fe] [Named P .dio] [Named P .can] [Named P .canWalk] [Named P .gecko] : Foot P s t := by
  have h : Foot P s s := Foot.refl s
  unfold execEvalCount at e
  try extract_lets at e
  first | refine next_foot ?_ e | refine need_foot ?_ e
  all_goals repeat' first
    | with_reducible assumption | with_reducible apply evaluate_foot | with_reducible apply fresh_foot | with_reducible apply onCount_foot
    | with_reducible apply foldl_foot | with_reducible apply ite_foot | intro _ | split | contradiction | dsimp only

theorem execEvalCanFrame_foot (e1 : EngineId) (s : State) (t : State) (e : execEvalCanFrame e1 s = .next t) [Named P .regs] [Named P .inlet] [Named P .aeA] [Named P .aeB] [Named P .outlet] [Named P .hif] [Named P .skink] [Named P .spawn] [Named P .fe] [Named P .dio] [Named P .can] [Named P .canWalk] [Named P .gecko] : Foot P s t := by
  have h : Foot P s s := Foot.refl s
  unfold execEvalCanFrame at e
  try extract_lets at e
  first | refine next_foot ?_ e | refine need_foot ?_ e
  all_goals repeat' first
    | with_reducible assumption | with_reducible apply evaluate_foot | with_reducible apply fresh_foot | with_reducible apply onCanFrame_foot
    | with_reducible apply foldl_foot | with_reducible apply ite_foot | intro _ | split | contradiction | dsimp only

theorem execEvalTick_foot (e1 : EngineId) (s : State) (t : State) (e : execEvalTick e1 s = .next t) [Named P .regs] [Named P .inlet] [Named P .aeA] [Named P .aeB] [Named P .outlet] [Named P .hif] [Named P .skink] [Named P .spawn] [Named P .fe] [Named P .dio] [Named P .can] [Named P .canWalk] [Named P .gecko] [Named P .free] : Foot P s t := by
  have h : Foot P s s := Foot.refl s
  unfold execEvalTick at e
  try extract_lets at e
  first | refine next_foot ?_ e | refine need_foot ?_ e
  all_goals repeat' first
    | with_reducible assumption | with_reducible apply evaluate_foot | with_reducible apply fresh_foot | with_reducible apply onTick_foot
    | with_reducible apply foldl_foot | with_reducible apply ite_foot | intro _ | split | contradiction | dsimp only

theorem execDelayExpiry_foot (e1 : EngineId) (p : Nat) (s : State) (t : State) (e : execDelayExpiry e1 p s = .next t) [Named P .regs] [Named P .inlet] [Named P .aeA] [Named P .aeB] [Named P .outlet] [Named P .hif] [Named P .skink] [Named P .spawn] [Named P .fe] [Named P .dio] [Named P .can] [Named P .canWalk] [Named P .gecko] : Foot P s t := by
  have h : Foot P s s := Foot.refl s
  unfold execDelayExpiry at e
  try extract_lets at e
  first | refine next_foot ?_ e | refine need_foot ?_ e
  all_goals repeat' first
    | with_reducible assumption | with_reducible apply inTick_foot | with_reducible apply fresh_foot | with_reducible apply sweepPoints_foot
    | with_reducible apply foldl_foot | with_reducible apply ite_foot | intro _ | split | contradiction | dsimp only

theorem execRateEvaluation_foot (e1 : EngineId) (p : Nat) (s : State) (t : State) (e : execRateEvaluation e1 p s = .next t) [Named P .regs] [Named P .inlet] [Named P .aeA] [Named P .aeB] [Named P .outlet] [Named P .hif] [Named P .skink] [Named P .spawn] [Named P .fe] [Named P .dio] [Named P .can] [Named P .canWalk] [Named P .gecko] : Foot P s t := by
  have h : Foot P s s := Foot.refl s
  unfold execRateEvaluation at e
  try extract_lets at e
  first | refine next_foot ?_ e | refine need_foot ?_ e
  all_goals repeat' first
    | with_reducible assumption | with_reducible apply inTick_foot | with_reducible apply fresh_foot | with_reducible apply sweepPoints_foot
    | with_reducible apply foldl_foot | with_reducible apply ite_foot | intro _ | split | contradiction | dsimp only

theorem execBlockDelayExpiry_foot (e1 : EngineId) (p : Nat) (s : State) (t : State) (e : execBlockDelayExpiry e1 p s = .next t) [Named P .regs] [Named P .inlet] [Named P .aeA] [Named P .aeB] [Named P .outlet] [Named P .hif] [Named P .skink] [Named P .spawn] [Named P .fe] [Named P .dio] [Named P .can] [Named P .canWalk] [Named P .gecko] : Foot P s t := by
  have h : Foot P s s := Foot.refl s
  unfold execBlockDelayExpiry at e
  try extract_lets at e
  first | refine next_foot ?_ e | refine need_foot ?_ e
  all_goals repeat' first
    | with_reducible assumption | with_reducible apply inTick_foot | with_reducible apply fresh_foot | with_reducible apply sweepPoints_foot
    | with_reducible apply foldl_foot | with_reducible apply ite_foot | intro _ | split | contradiction | dsimp only

theorem execShelveExpiry_foot (e1 : EngineId) (p : Nat) (s : State) (t : State) (e : execShelveExpiry e1 p s = .next t) [Named P .regs] [Named P .inlet] [Named P .aeA] [Named P .aeB] [Named P .outlet] [Named P .hif] [Named P .skink] [Named P .spawn] [Named P .fe] [Named P .dio] [Named P .can] [Named P .canWalk] [Named P .gecko] : Foot P s t := by
  have h : Foot P s s := Foot.refl s
  unfold execShelveExpiry at e
  try extract_lets at e
  first | refine next_foot ?_ e | refine need_foot ?_ e
  all_goals repeat' first
    | with_reducible assumption | with_reducible apply inTick_foot | with_reducible apply fresh_foot | with_reducible apply sweepPoints_foot
    | with_reducible apply foldl_foot | with_reducible apply ite_foot | intro _ | split | contradiction | dsimp only

theorem execGroupBlockExpiry_foot (e1 : EngineId) (g : Nat) (s : State) (t : State) (e : execGroupBlockExpiry e1 g s = .next t) [Named P .regs] [Named P .inlet] [Named P .aeA] [Named P .aeB] [Named P .outlet] [Named P .hif] [Named P .skink] [Named P .spawn] [Named P .fe] [Named P .dio] [Named P .can] [Named P .canWalk] [Named P .gecko] : Foot P s t := by
  have h : Foot P s s := Foot.refl s
  unfold execGroupBlockExpiry at e
  try extract_lets at e
  first | refine next_foot ?_ e | refine need_foot ?_ e
  all_goals repeat' first
    | with_reducible assumption | with_reducible apply inTick_foot | with_reducible apply fresh_foot | with_reducible apply sweepGroups_foot
    | with_reducible apply foldl_foot | with_reducible apply ite_foot | intro _ | split | contradiction | dsimp only

theorem execFloodWindowClose_foot (e1 : EngineId) (g : Nat) (s : State) (t : State) (e : execFloodWindowClose e1 g s = .next t) [Named P .regs] [Named P .inlet] [Named P .aeA] [Named P .aeB] [Named P .outlet] [Named P .hif] [Named P .skink] [Named P .spawn] [Named P .fe] [Named P .dio] [Named P .can] [Named P .canWalk] [Named P .gecko] : Foot P s t := by
  have h : Foot P s s := Foot.refl s
  unfold execFloodWindowClose at e
  try extract_lets at e
  first | refine next_foot ?_ e | refine need_foot ?_ e
  all_goals repeat' first
    | with_reducible assumption | with_reducible apply inTick_foot | with_reducible apply fresh_foot | with_reducible apply sweepGroups_foot
    | with_reducible apply foldl_foot | with_reducible apply ite_foot | intro _ | split | contradiction | dsimp only

theorem execCallTimeout_foot (e1 : EngineId) (g : Nat) (s : State) (t : State) (e : execCallTimeout e1 g s = .next t) [Named P .regs] [Named P .inlet] [Named P .aeA] [Named P .aeB] [Named P .outlet] [Named P .hif] [Named P .skink] [Named P .spawn] [Named P .fe] [Named P .dio] [Named P .can] [Named P .canWalk] [Named P .gecko] : Foot P s t := by
  have h : Foot P s s := Foot.refl s
  unfold execCallTimeout at e
  try extract_lets at e
  first | refine next_foot ?_ e | refine need_foot ?_ e
  all_goals repeat' first
    | with_reducible assumption | with_reducible apply inTick_foot | with_reducible apply fresh_foot | with_reducible apply sweepGroups_foot
    | with_reducible apply foldl_foot | with_reducible apply ite_foot | intro _ | split | contradiction | dsimp only

theorem execCallFrameRepeat_foot (e1 : EngineId) (g : Nat) (s : State) (t : State) (e : execCallFrameRepeat e1 g s = .next t) [Named P .regs] [Named P .inlet] [Named P .aeA] [Named P .aeB] [Named P .outlet] [Named P .hif] [Named P .skink] [Named P .spawn] [Named P .fe] [Named P .dio] [Named P .can] [Named P .canWalk] [Named P .gecko] : Foot P s t := by
  have h : Foot P s s := Foot.refl s
  unfold execCallFrameRepeat at e
  try extract_lets at e
  first | refine next_foot ?_ e | refine need_foot ?_ e
  all_goals repeat' first
    | with_reducible assumption | with_reducible apply inTick_foot | with_reducible apply fresh_foot | with_reducible apply sweepGroups_foot
    | with_reducible apply foldl_foot | with_reducible apply ite_foot | intro _ | split | contradiction | dsimp only

theorem execDeadmanWarn_foot (e1 : EngineId) (g : Nat) (s : State) (t : State) (e : execDeadmanWarn e1 g s = .next t) [Named P .regs] [Named P .inlet] [Named P .aeA] [Named P .aeB] [Named P .outlet] [Named P .hif] [Named P .skink] [Named P .spawn] [Named P .fe] [Named P .dio] [Named P .can] [Named P .canWalk] [Named P .gecko] : Foot P s t := by
  have h : Foot P s s := Foot.refl s
  unfold execDeadmanWarn at e
  try extract_lets at e
  first | refine next_foot ?_ e | refine need_foot ?_ e
  all_goals repeat' first
    | with_reducible assumption | with_reducible apply inTick_foot | with_reducible apply fresh_foot | with_reducible apply sweepGroups_foot
    | with_reducible apply foldl_foot | with_reducible apply ite_foot | intro _ | split | contradiction | dsimp only

theorem execDeadmanExpiry_foot (e1 : EngineId) (g : Nat) (s : State) (t : State) (e : execDeadmanExpiry e1 g s = .next t) [Named P .regs] [Named P .inlet] [Named P .aeA] [Named P .aeB] [Named P .outlet] [Named P .hif] [Named P .skink] [Named P .spawn] [Named P .fe] [Named P .dio] [Named P .can] [Named P .canWalk] [Named P .gecko] : Foot P s t := by
  have h : Foot P s s := Foot.refl s
  unfold execDeadmanExpiry at e
  try extract_lets at e
  first | refine next_foot ?_ e | refine need_foot ?_ e
  all_goals repeat' first
    | with_reducible assumption | with_reducible apply inTick_foot | with_reducible apply fresh_foot | with_reducible apply sweepGroups_foot
    | with_reducible apply foldl_foot | with_reducible apply ite_foot | intro _ | split | contradiction | dsimp only

theorem execSealPeriodExpiry_foot (e1 : EngineId) (s : State) (t : State) (e : execSealPeriodExpiry e1 s = .next t) [Named P .regs] [Named P .inlet] [Named P .aeA] [Named P .aeB] [Named P .outlet] [Named P .hif] [Named P .skink] [Named P .spawn] [Named P .fe] [Named P .dio] [Named P .can] [Named P .canWalk] [Named P .gecko] : Foot P s t := by
  have h : Foot P s s := Foot.refl s
  unfold execSealPeriodExpiry at e
  try extract_lets at e
  first | refine next_foot ?_ e | refine need_foot ?_ e
  all_goals repeat' first
    | with_reducible assumption | with_reducible apply inTick_foot | with_reducible apply fresh_foot | with_reducible apply tickSeal_foot
    | with_reducible apply foldl_foot | with_reducible apply ite_foot | intro _ | split | contradiction | dsimp only

theorem execHealthPeriodExpiry_foot (e1 : EngineId) (s : State) (t : State) (e : execHealthPeriodExpiry e1 s = .next t) [Named P .regs] [Named P .inlet] [Named P .aeA] [Named P .aeB] [Named P .outlet] [Named P .hif] [Named P .skink] [Named P .spawn] [Named P .fe] [Named P .dio] [Named P .can] [Named P .canWalk] [Named P .gecko] : Foot P s t := by
  have h : Foot P s s := Foot.refl s
  unfold execHealthPeriodExpiry at e
  try extract_lets at e
  first | refine next_foot ?_ e | refine need_foot ?_ e
  all_goals repeat' first
    | with_reducible assumption | with_reducible apply inTick_foot | with_reducible apply fresh_foot | with_reducible apply tickHealth_foot
    | with_reducible apply foldl_foot | with_reducible apply ite_foot | intro _ | split | contradiction | dsimp only

theorem execEvalSourceGap_foot (e1 : EngineId) (s : State) (t : State) (e : execEvalSourceGap e1 s = .next t) [Named P .regs] [Named P .inlet] [Named P .aeA] [Named P .aeB] [Named P .outlet] [Named P .hif] [Named P .skink] [Named P .spawn] [Named P .fe] [Named P .dio] [Named P .can] [Named P .canWalk] [Named P .gecko] : Foot P s t := by
  have h : Foot P s s := Foot.refl s
  unfold execEvalSourceGap at e
  try extract_lets at e
  first | refine next_foot ?_ e | refine need_foot ?_ e
  all_goals repeat' first
    | with_reducible assumption | with_reducible apply evaluate_foot | with_reducible apply fresh_foot | with_reducible apply onSourceGap_foot
    | with_reducible apply foldl_foot | with_reducible apply ite_foot | intro _ | split | contradiction | dsimp only

theorem execEvalSnapshotMark_foot (e1 : EngineId) (s : State) (t : State) (e : execEvalSnapshotMark e1 s = .next t) [Named P .regs] [Named P .inlet] [Named P .aeA] [Named P .aeB] [Named P .outlet] [Named P .hif] [Named P .skink] [Named P .spawn] [Named P .fe] [Named P .dio] [Named P .can] [Named P .canWalk] [Named P .gecko] : Foot P s t := by
  have h : Foot P s s := Foot.refl s
  unfold execEvalSnapshotMark at e
  try extract_lets at e
  first | refine next_foot ?_ e | refine need_foot ?_ e
  all_goals repeat' first
    | with_reducible assumption | with_reducible apply evalMark_foot | with_reducible apply fresh_foot | with_reducible apply foldl_foot
    | with_reducible apply ite_foot | intro _ | split | contradiction | dsimp only

theorem execEvalSealRequest_foot (e1 : EngineId) (s : State) (t : State) (e : execEvalSealRequest e1 s = .next t) [Named P .regs] [Named P .inlet] [Named P .aeA] [Named P .aeB] [Named P .outlet] [Named P .hif] [Named P .skink] [Named P .spawn] [Named P .fe] [Named P .dio] [Named P .can] [Named P .canWalk] [Named P .gecko] : Foot P s t := by
  have h : Foot P s s := Foot.refl s
  unfold execEvalSealRequest at e
  try extract_lets at e
  first | refine next_foot ?_ e | refine need_foot ?_ e
  all_goals repeat' first
    | with_reducible assumption | with_reducible apply evaluate_foot | with_reducible apply fresh_foot | with_reducible apply putSeal_foot
    | with_reducible apply foldl_foot | with_reducible apply ite_foot | intro _ | split | contradiction | dsimp only

theorem execEvalResyncStatus_foot (e1 : EngineId) (s : State) (t : State) (e : execEvalResyncStatus e1 s = .next t) [Named P .regs] [Named P .inlet] [Named P .aeA] [Named P .aeB] [Named P .outlet] [Named P .hif] [Named P .skink] [Named P .spawn] [Named P .fe] [Named P .dio] [Named P .can] [Named P .canWalk] [Named P .gecko] : Foot P s t := by
  have h : Foot P s s := Foot.refl s
  unfold execEvalResyncStatus at e
  try extract_lets at e
  first | refine next_foot ?_ e | refine need_foot ?_ e
  all_goals repeat' first
    | with_reducible assumption | with_reducible apply evaluate_foot | with_reducible apply fresh_foot | with_reducible apply onStatus_foot
    | with_reducible apply foldl_foot | with_reducible apply ite_foot | intro _ | split | contradiction | dsimp only

theorem execEvalResyncCopy_foot (e1 : EngineId) (s : State) (t : State) (e : execEvalResyncCopy e1 s = .next t) [Named P .regs] [Named P .inlet] [Named P .aeA] [Named P .aeB] [Named P .outlet] [Named P .hif] [Named P .skink] [Named P .spawn] [Named P .fe] [Named P .dio] [Named P .can] [Named P .canWalk] [Named P .gecko] : Foot P s t := by
  have h : Foot P s s := Foot.refl s
  unfold execEvalResyncCopy at e
  try extract_lets at e
  first | refine next_foot ?_ e | refine need_foot ?_ e
  all_goals repeat' first
    | with_reducible assumption | with_reducible apply evaluate_foot | with_reducible apply fresh_foot | with_reducible apply onCopy_foot
    | with_reducible apply foldl_foot | with_reducible apply ite_foot | intro _ | split | contradiction | dsimp only

theorem execEvalAudit_foot (e1 : EngineId) (s : State) (t : State) (e : execEvalAudit e1 s = .next t) [Named P .regs] [Named P .inlet] [Named P .aeA] [Named P .aeB] [Named P .outlet] [Named P .hif] [Named P .skink] [Named P .spawn] [Named P .fe] [Named P .dio] [Named P .can] [Named P .canWalk] [Named P .gecko] : Foot P s t := by
  have h : Foot P s s := Foot.refl s
  unfold execEvalAudit at e
  try extract_lets at e
  first | refine next_foot ?_ e | refine need_foot ?_ e
  all_goals repeat' first
    | with_reducible assumption | with_reducible apply evaluate_foot | with_reducible apply fresh_foot | with_reducible apply onAudit_foot
    | with_reducible apply foldl_foot | with_reducible apply ite_foot | intro _ | split | contradiction | dsimp only

theorem execEvalDiverge_foot (e1 : EngineId) (s : State) (t : State) (e : execEvalDiverge e1 s = .next t) [Named P .regs] [Named P .inlet] [Named P .aeA] [Named P .aeB] [Named P .outlet] [Named P .hif] [Named P .skink] [Named P .spawn] [Named P .fe] [Named P .dio] [Named P .can] [Named P .canWalk] [Named P .gecko] : Foot P s t := by
  have h : Foot P s s := Foot.refl s
  unfold execEvalDiverge at e
  try extract_lets at e
  first | refine next_foot ?_ e | refine need_foot ?_ e
  all_goals repeat' first
    | with_reducible assumption | with_reducible apply evaluate_foot | with_reducible apply fresh_foot | with_reducible apply onDiverge_foot
    | with_reducible apply takeStatus_foot | with_reducible apply foldl_foot | with_reducible apply ite_foot | intro _ | split | contradiction
    | dsimp only

theorem execEvalRepair_foot (e1 : EngineId) (s : State) (t : State) (e : execEvalRepair e1 s = .next t) [Named P .regs] [Named P .inlet] [Named P .aeA] [Named P .aeB] [Named P .outlet] [Named P .hif] [Named P .skink] [Named P .spawn] [Named P .fe] [Named P .dio] [Named P .can] [Named P .canWalk] [Named P .gecko] : Foot P s t := by
  have h : Foot P s s := Foot.refl s
  unfold execEvalRepair at e
  try extract_lets at e
  first | refine next_foot ?_ e | refine need_foot ?_ e
  all_goals repeat' first
    | with_reducible assumption | with_reducible apply evaluate_foot | with_reducible apply fresh_foot | with_reducible apply onRepair_foot
    | with_reducible apply takeStatus_foot | with_reducible apply foldl_foot | with_reducible apply ite_foot | intro _ | split | contradiction
    | dsimp only

theorem execNop_foot (s : State) (t : State) (e : execNop s = .next t) [Named P .regs] [Named P .hif] : Foot P s t := by
  have h : Foot P s s := Foot.refl s
  unfold execNop at e
  try extract_lets at e
  first | refine next_foot ?_ e | refine need_foot ?_ e
  all_goals repeat' first
    | with_reducible assumption | with_reducible apply dirCmd_foot | with_reducible apply fresh_foot | with_reducible apply done_foot
    | with_reducible apply foldl_foot | with_reducible apply ite_foot | intro _ | split | contradiction | dsimp only

theorem execUnknownOpcode_foot (s : State) (t : State) (e : execUnknownOpcode s = .next t) [Named P .regs] [Named P .hif] : Foot P s t := by
  have h : Foot P s s := Foot.refl s
  unfold execUnknownOpcode at e
  try extract_lets at e
  first | refine next_foot ?_ e | refine need_foot ?_ e
  all_goals repeat' first
    | with_reducible assumption | with_reducible apply fresh_foot | with_reducible apply done_foot | with_reducible apply takeHead_foot
    | with_reducible apply foldl_foot | with_reducible apply ite_foot | intro _ | split | contradiction | dsimp only

theorem execCompletionWrite_foot (s : State) (t : State) (e : execCompletionWrite s = .next t) [Named P .regs] [Named P .hif] : Foot P s t := by
  have h : Foot P s s := Foot.refl s
  unfold execCompletionWrite at e
  try extract_lets at e
  first | refine next_foot ?_ e | refine need_foot ?_ e
  all_goals repeat' first
    | with_reducible assumption | with_reducible apply writeCompletion_foot | with_reducible apply fresh_foot | with_reducible apply foldl_foot
    | with_reducible apply ite_foot | intro _ | split | contradiction | dsimp only

theorem execCommandRateAllowance_foot (s : State) (t : State) (e : execCommandRateAllowance s = .next t) [Named P .hif] : Foot P s t := by
  have h : Foot P s s := Foot.refl s
  unfold execCommandRateAllowance at e
  try extract_lets at e
  first | refine next_foot ?_ e | refine need_foot ?_ e
  all_goals repeat' first
    | with_reducible assumption | with_reducible apply fresh_foot | with_reducible apply foldl_foot | with_reducible apply ite_foot | intro _ | split
    | contradiction | dsimp only
    | refine Foot.upd ?_ rfl (.inr rfl) (.inr rfl) (.inr rfl) (.inr rfl) (.inr rfl) (.inr rfl) (.inr rfl) (.inr rfl) Foot.named (.inr rfl) (.inr rfl) (.inr rfl) (.inr rfl) (.inr rfl) (.inr rfl) (.inr rfl) (.inr rfl) (.inr rfl) (.inr rfl) (.inr rfl) (.inr rfl) (.inr rfl) (.inr rfl) (.inr rfl)

theorem execAckPoint_foot (ph : Phase) (s : State) (t : State) (e : execAckPoint ph s = .next t) [Named P .regs] [Named P .inlet] [Named P .aeA] [Named P .aeB] [Named P .outlet] [Named P .hif] [Named P .skink] [Named P .spawn] [Named P .fe] [Named P .dio] [Named P .can] [Named P .canWalk] [Named P .gecko] : Foot P s t := by
  have h : Foot P s s := Foot.refl s
  unfold execAckPoint at e
  try extract_lets at e
  first | refine next_foot ?_ e | refine need_foot ?_ e
  all_goals repeat' first
    | with_reducible assumption | with_reducible apply recTake_foot | with_reducible apply fresh_foot | with_reducible apply evalCmd_foot
    | with_reducible apply evalAckPoint_foot
    | (with_reducible refine Eq.mp (congrArg (Foot P s) (congrArg Prod.snd ‹_ = (_, _)›)) (evalAckPoint_foot ..)) | with_reducible apply foldl_foot
    | with_reducible apply ite_foot | intro _ | split | contradiction | dsimp only

theorem execShelve_foot (ph : Phase) (s : State) (t : State) (e : execShelve ph s = .next t) [Named P .regs] [Named P .inlet] [Named P .aeA] [Named P .aeB] [Named P .outlet] [Named P .hif] [Named P .skink] [Named P .spawn] [Named P .fe] [Named P .dio] [Named P .can] [Named P .canWalk] [Named P .gecko] : Foot P s t := by
  have h : Foot P s s := Foot.refl s
  unfold execShelve at e
  try extract_lets at e
  first | refine next_foot ?_ e | refine need_foot ?_ e
  all_goals repeat' first
    | with_reducible assumption | with_reducible apply recTake_foot | with_reducible apply fresh_foot | with_reducible apply evalCmd_foot
    | with_reducible apply evalShelve_foot | (with_reducible refine Eq.mp (congrArg (Foot P s) (congrArg Prod.snd ‹_ = (_, _)›)) (evalShelve_foot ..))
    | with_reducible apply foldl_foot | with_reducible apply ite_foot | intro _ | split | contradiction | dsimp only

theorem execUnshelve_foot (ph : Phase) (s : State) (t : State) (e : execUnshelve ph s = .next t) [Named P .regs] [Named P .inlet] [Named P .aeA] [Named P .aeB] [Named P .outlet] [Named P .hif] [Named P .skink] [Named P .spawn] [Named P .fe] [Named P .dio] [Named P .can] [Named P .canWalk] [Named P .gecko] : Foot P s t := by
  have h : Foot P s s := Foot.refl s
  unfold execUnshelve at e
  try extract_lets at e
  first | refine next_foot ?_ e | refine need_foot ?_ e
  all_goals repeat' first
    | with_reducible assumption | with_reducible apply recTake_foot | with_reducible apply fresh_foot | with_reducible apply evalCmd_foot
    | with_reducible apply evalUnshelve_foot
    | (with_reducible refine Eq.mp (congrArg (Foot P s) (congrArg Prod.snd ‹_ = (_, _)›)) (evalUnshelve_foot ..)) | with_reducible apply foldl_foot
    | with_reducible apply ite_foot | intro _ | split | contradiction | dsimp only

theorem execForcePoint_foot (ph : Phase) (s : State) (t : State) (e : execForcePoint ph s = .next t) [Named P .regs] [Named P .inlet] [Named P .aeA] [Named P .aeB] [Named P .outlet] [Named P .hif] [Named P .skink] [Named P .spawn] [Named P .fe] [Named P .dio] [Named P .can] [Named P .canWalk] [Named P .gecko] : Foot P s t := by
  have h : Foot P s s := Foot.refl s
  unfold execForcePoint at e
  try extract_lets at e
  first | refine next_foot ?_ e | refine need_foot ?_ e
  all_goals repeat' first
    | with_reducible assumption | with_reducible apply recTake_foot | with_reducible apply fresh_foot | with_reducible apply evalCmd_foot
    | with_reducible apply evalForcePoint_foot
    | (with_reducible refine Eq.mp (congrArg (Foot P s) (congrArg Prod.snd ‹_ = (_, _)›)) (evalForcePoint_foot ..)) | with_reducible apply foldl_foot
    | with_reducible apply ite_foot | intro _ | split | contradiction | dsimp only

theorem execPointRead_foot (ph : Phase) (s : State) (t : State) (e : execPointRead ph s = .next t) [Named P .regs] [Named P .inlet] [Named P .aeA] [Named P .aeB] [Named P .outlet] [Named P .hif] [Named P .skink] [Named P .spawn] [Named P .fe] [Named P .dio] [Named P .can] [Named P .canWalk] [Named P .gecko] : Foot P s t := by
  have h : Foot P s s := Foot.refl s
  unfold execPointRead at e
  try extract_lets at e
  first | refine next_foot ?_ e | refine need_foot ?_ e
  all_goals repeat' first
    | with_reducible assumption | with_reducible apply recTake_foot | with_reducible apply fresh_foot | with_reducible apply evalCmd_foot
    | with_reducible apply evalPointRead_foot
    | (with_reducible refine Eq.mp (congrArg (Foot P s) (congrArg Prod.snd ‹_ = (_, _)›)) (evalPointRead_foot ..)) | with_reducible apply foldl_foot
    | with_reducible apply ite_foot | intro _ | split | contradiction | dsimp only

theorem execAckGroup_foot (ph : Phase) (s : State) (t : State) (e : execAckGroup ph s = .next t) [Named P .regs] [Named P .inlet] [Named P .aeA] [Named P .aeB] [Named P .outlet] [Named P .hif] [Named P .skink] [Named P .spawn] [Named P .fe] [Named P .dio] [Named P .can] [Named P .canWalk] [Named P .gecko] : Foot P s t := by
  have h : Foot P s s := Foot.refl s
  unfold execAckGroup at e
  try extract_lets at e
  first | refine next_foot ?_ e | refine need_foot ?_ e
  all_goals repeat' first
    | with_reducible assumption | with_reducible apply recTake_foot | with_reducible apply fresh_foot | with_reducible apply evalCmd_foot
    | with_reducible apply evalAckGroup_foot
    | (with_reducible refine Eq.mp (congrArg (Foot P s) (congrArg Prod.snd ‹_ = (_, _)›)) (evalAckGroup_foot ..)) | with_reducible apply foldl_foot
    | with_reducible apply ite_foot | intro _ | split | contradiction | dsimp only

theorem execCallManual_foot (ph : Phase) (s : State) (t : State) (e : execCallManual ph s = .next t) [Named P .regs] [Named P .inlet] [Named P .aeA] [Named P .aeB] [Named P .outlet] [Named P .hif] [Named P .skink] [Named P .spawn] [Named P .fe] [Named P .dio] [Named P .can] [Named P .canWalk] [Named P .gecko] : Foot P s t := by
  have h : Foot P s s := Foot.refl s
  unfold execCallManual at e
  try extract_lets at e
  first | refine next_foot ?_ e | refine need_foot ?_ e
  all_goals repeat' first
    | with_reducible assumption | with_reducible apply recTake_foot | with_reducible apply fresh_foot | with_reducible apply evalCmd_foot
    | with_reducible apply evalCallManual_foot
    | (with_reducible refine Eq.mp (congrArg (Foot P s) (congrArg Prod.snd ‹_ = (_, _)›)) (evalCallManual_foot ..)) | with_reducible apply foldl_foot
    | with_reducible apply ite_foot | intro _ | split | contradiction | dsimp only

theorem execCallSilence_foot (ph : Phase) (s : State) (t : State) (e : execCallSilence ph s = .next t) [Named P .regs] [Named P .inlet] [Named P .aeA] [Named P .aeB] [Named P .outlet] [Named P .hif] [Named P .skink] [Named P .spawn] [Named P .fe] [Named P .dio] [Named P .can] [Named P .canWalk] [Named P .gecko] : Foot P s t := by
  have h : Foot P s s := Foot.refl s
  unfold execCallSilence at e
  try extract_lets at e
  first | refine next_foot ?_ e | refine need_foot ?_ e
  all_goals repeat' first
    | with_reducible assumption | with_reducible apply recTake_foot | with_reducible apply fresh_foot | with_reducible apply evalCmd_foot
    | with_reducible apply evalCallSilence_foot
    | (with_reducible refine Eq.mp (congrArg (Foot P s) (congrArg Prod.snd ‹_ = (_, _)›)) (evalCallSilence_foot ..)) | with_reducible apply foldl_foot
    | with_reducible apply ite_foot | intro _ | split | contradiction | dsimp only

theorem execDeadmanReset_foot (ph : Phase) (s : State) (t : State) (e : execDeadmanReset ph s = .next t) [Named P .regs] [Named P .inlet] [Named P .aeA] [Named P .aeB] [Named P .outlet] [Named P .hif] [Named P .skink] [Named P .spawn] [Named P .fe] [Named P .dio] [Named P .can] [Named P .canWalk] [Named P .gecko] : Foot P s t := by
  have h : Foot P s s := Foot.refl s
  unfold execDeadmanReset at e
  try extract_lets at e
  first | refine next_foot ?_ e | refine need_foot ?_ e
  all_goals repeat' first
    | with_reducible assumption | with_reducible apply recTake_foot | with_reducible apply fresh_foot | with_reducible apply evalCmd_foot
    | with_reducible apply evalDeadmanReset_foot
    | (with_reducible refine Eq.mp (congrArg (Foot P s) (congrArg Prod.snd ‹_ = (_, _)›)) (evalDeadmanReset_foot ..))
    | with_reducible apply foldl_foot | with_reducible apply ite_foot | intro _ | split | contradiction | dsimp only

theorem execPointWrite_foot (img : Image) (s : State) (t : State) (e : execPointWrite img s = .next t) [Named P .regs] [Named P .inlet] [Named P .hif] : Foot P s t := by
  have h : Foot P s s := Foot.refl s
  unfold execPointWrite at e
  try extract_lets at e
  first | refine next_foot ?_ e | refine need_foot ?_ e
  all_goals repeat' first
    | with_reducible assumption | with_reducible apply cfgTake_foot | with_reducible apply fresh_foot | exact checkPoint_foot _ _ _ _ ‹_› ‹_›
    | with_reducible apply foldl_foot | with_reducible apply ite_foot | intro _ | split | contradiction | dsimp only

theorem execChandefWrite_foot (img : Image) (s : State) (t : State) (e : execChandefWrite img s = .next t) [Named P .regs] [Named P .inlet] [Named P .hif] : Foot P s t := by
  have h : Foot P s s := Foot.refl s
  unfold execChandefWrite at e
  try extract_lets at e
  first | refine next_foot ?_ e | refine need_foot ?_ e
  all_goals repeat' first
    | with_reducible assumption | with_reducible apply cfgTake_foot | with_reducible apply fresh_foot | exact checkChandef_foot _ _ _ _ ‹_› ‹_›
    | with_reducible apply foldl_foot | with_reducible apply ite_foot | intro _ | split | contradiction | dsimp only

theorem execGroupWrite_foot (img : Image) (s : State) (t : State) (e : execGroupWrite img s = .next t) [Named P .regs] [Named P .inlet] [Named P .hif] : Foot P s t := by
  have h : Foot P s s := Foot.refl s
  unfold execGroupWrite at e
  try extract_lets at e
  first | refine next_foot ?_ e | refine need_foot ?_ e
  all_goals repeat' first
    | with_reducible assumption | with_reducible apply cfgTake_foot | with_reducible apply fresh_foot | exact checkGroup_foot _ _ _ _ ‹_› ‹_›
    | with_reducible apply foldl_foot | with_reducible apply ite_foot | intro _ | split | contradiction | dsimp only

theorem execFanoutWrite_foot (img : Image) (s : State) (t : State) (e : execFanoutWrite img s = .next t) [Named P .regs] [Named P .inlet] [Named P .hif] : Foot P s t := by
  have h : Foot P s s := Foot.refl s
  unfold execFanoutWrite at e
  try extract_lets at e
  first | refine next_foot ?_ e | refine need_foot ?_ e
  all_goals repeat' first
    | with_reducible assumption | with_reducible apply cfgTake_foot | with_reducible apply fresh_foot | exact checkFanout_foot _ _ _ _ ‹_› ‹_›
    | with_reducible apply foldl_foot | with_reducible apply ite_foot | intro _ | split | contradiction | dsimp only

theorem execLintabWrite_foot (img : Image) (s : State) (t : State) (e : execLintabWrite img s = .next t) [Named P .regs] [Named P .inlet] [Named P .hif] : Foot P s t := by
  have h : Foot P s s := Foot.refl s
  unfold execLintabWrite at e
  try extract_lets at e
  first | refine next_foot ?_ e | refine need_foot ?_ e
  all_goals repeat' first
    | with_reducible assumption | with_reducible apply cfgTake_foot | with_reducible apply fresh_foot | exact checkLintab_foot _ _ _ _ ‹_› ‹_›
    | with_reducible apply foldl_foot | with_reducible apply ite_foot | intro _ | split | contradiction | dsimp only

theorem execCanfiltWrite_foot (img : Image) (s : State) (t : State) (e : execCanfiltWrite img s = .next t) [Named P .regs] [Named P .inlet] [Named P .hif] : Foot P s t := by
  have h : Foot P s s := Foot.refl s
  unfold execCanfiltWrite at e
  try extract_lets at e
  first | refine next_foot ?_ e | refine need_foot ?_ e
  all_goals repeat' first
    | with_reducible assumption | with_reducible apply cfgTake_foot | with_reducible apply fresh_foot | exact checkCanfilt_foot _ _ _ _ ‹_› ‹_›
    | with_reducible apply foldl_foot | with_reducible apply ite_foot | intro _ | split | contradiction | dsimp only

theorem execCansigWrite_foot (img : Image) (s : State) (t : State) (e : execCansigWrite img s = .next t) [Named P .regs] [Named P .inlet] [Named P .hif] : Foot P s t := by
  have h : Foot P s s := Foot.refl s
  unfold execCansigWrite at e
  try extract_lets at e
  first | refine next_foot ?_ e | refine need_foot ?_ e
  all_goals repeat' first
    | with_reducible assumption | with_reducible apply cfgTake_foot | with_reducible apply fresh_foot | exact checkCansig_foot _ _ _ _ ‹_› ‹_›
    | with_reducible apply foldl_foot | with_reducible apply ite_foot | intro _ | split | contradiction | dsimp only

theorem execRecordAdmission_foot (s : State) (t : State) (e : execRecordAdmission s = .next t) [Named P .regs] [Named P .inlet] [Named P .aeA] [Named P .aeB] [Named P .outlet] [Named P .hif] [Named P .skink] [Named P .spawn] [Named P .fe] [Named P .dio] [Named P .can] [Named P .canWalk] [Named P .gecko] : Foot P s t := by
  have h : Foot P s s := Foot.refl s
  unfold execRecordAdmission at e
  try extract_lets at e
  first | refine next_foot ?_ e | refine need_foot ?_ e
  all_goals repeat' first
    | with_reducible assumption | with_reducible apply admitRecord_foot | with_reducible apply fresh_foot | with_reducible apply foldl_foot
    | with_reducible apply ite_foot | intro _ | split | contradiction | dsimp only

theorem execTickGeneration_foot (s : State) (t : State) (e : execTickGeneration s = .next t) [Named P .regs] [Named P .inlet] [Named P .hif] [Named P .spawn] [Named P .dio] [Named P .ws] [Named P .gecko] : Foot P s t := by
  have h : Foot P s s := Foot.refl s
  unfold execTickGeneration at e
  try extract_lets at e
  first | refine next_foot ?_ e | refine need_foot ?_ e
  all_goals repeat' first
    | with_reducible assumption | with_reducible apply issueTick_foot | with_reducible apply pass_foot | with_reducible apply fresh_foot
    | with_reducible apply foldl_foot | with_reducible apply ite_foot | intro _ | split | contradiction | dsimp only

theorem execDioWrite_foot (s : State) (t : State) (e : execDioWrite s = .next t) [Named P .regs] [Named P .hif] [Named P .dio] : Foot P s t := by
  have h : Foot P s s := Foot.refl s
  unfold execDioWrite at e
  try extract_lets at e
  first | refine next_foot ?_ e | refine need_foot ?_ e
  all_goals repeat' first
    | with_reducible assumption | with_reducible apply dirCmd_foot | with_reducible apply fresh_foot | with_reducible apply dioWrite_foot
    | with_reducible apply foldl_foot | with_reducible apply ite_foot | intro _ | split | contradiction | dsimp only

theorem execDioWindowEnd_foot (bank : Nat) (pins : U16) (settled : U16) (dt : Nat) (s : State) (t : State) (e : execDioWindowEnd bank pins settled dt s = .next t) [Named P .regs] [Named P .inlet] [Named P .hif] [Named P .spawn] [Named P .dio] [Named P .ws] [Named P .gecko] : Foot P s t := by
  have h : Foot P s s := Foot.refl s
  unfold execDioWindowEnd at e
  try extract_lets at e
  first | refine next_foot ?_ e | refine need_foot ?_ e
  all_goals repeat' first
    | with_reducible assumption | with_reducible apply windowEnd_foot | with_reducible apply pass_foot | with_reducible apply fresh_foot
    | with_reducible apply foldl_foot | with_reducible apply ite_foot | intro _ | split | contradiction | dsimp only

theorem execCounterEdge_foot (k : Nat) (s : State) (t : State) (e : execCounterEdge k s = .next t) [Named P .dio] : Foot P s t := by
  have h : Foot P s s := Foot.refl s
  unfold execCounterEdge at e
  try extract_lets at e
  first | refine next_foot ?_ e | refine need_foot ?_ e
  all_goals repeat' first
    | with_reducible assumption | with_reducible apply fresh_foot | with_reducible apply updCounter_foot | with_reducible apply foldl_foot
    | with_reducible apply ite_foot | intro _ | split | contradiction | dsimp only

theorem execCountPeriodExpiry_foot (k : Nat) (cycles : Nat) (dt : Nat) (s : State) (t : State) (e : execCountPeriodExpiry k cycles dt s = .next t) [Named P .regs] [Named P .inlet] [Named P .hif] [Named P .spawn] [Named P .dio] [Named P .ws] [Named P .gecko] : Foot P s t := by
  have h : Foot P s s := Foot.refl s
  unfold execCountPeriodExpiry at e
  try extract_lets at e
  first | refine next_foot ?_ e | refine need_foot ?_ e
  all_goals repeat' first
    | with_reducible assumption | with_reducible apply offerCount_foot | with_reducible apply pass_foot | with_reducible apply fresh_foot
    | with_reducible apply foldl_foot | with_reducible apply ite_foot | intro _ | split | contradiction | dsimp only

theorem execNewtRefresh_foot (newt : Nat) (late : Bool) (s : State) (t : State) (e : execNewtRefresh newt late s = .next t) [Named P .regs] [Named P .skink] [Named P .dio] : Foot P s t := by
  have h : Foot P s s := Foot.refl s
  unfold execNewtRefresh at e
  try extract_lets at e
  first | refine next_foot ?_ e | refine need_foot ?_ e
  all_goals repeat' first
    | with_reducible assumption | with_reducible apply newtRefresh_foot | with_reducible apply fresh_foot | with_reducible apply foldl_foot
    | with_reducible apply ite_foot | intro _ | split | contradiction | dsimp only

theorem execWatchdogExpiry_foot (bank : Nat) (s : State) (t : State) (e : execWatchdogExpiry bank s = .next t) [Named P .regs] [Named P .dio] : Foot P s t := by
  have h : Foot P s s := Foot.refl s
  unfold execWatchdogExpiry at e
  try extract_lets at e
  first | refine next_foot ?_ e | refine need_foot ?_ e
  all_goals repeat' first
    | with_reducible assumption | with_reducible apply wdExpire_foot | with_reducible apply fresh_foot | with_reducible apply foldl_foot
    | with_reducible apply ite_foot | intro _ | split | contradiction | dsimp only

theorem execNewtStall_foot (newt : Nat) (s : State) (t : State) (e : execNewtStall newt s = .next t) [Named P .regs] [Named P .dio] : Foot P s t := by
  have h : Foot P s s := Foot.refl s
  unfold execNewtStall at e
  try extract_lets at e
  first | refine next_foot ?_ e | refine need_foot ?_ e
  all_goals repeat' first
    | with_reducible assumption | with_reducible apply newtStop_foot | with_reducible apply fresh_foot | with_reducible apply foldl_foot
    | with_reducible apply ite_foot | intro _ | split | contradiction | dsimp only

theorem execNewtRestart_foot (newt : Nat) (s : State) (t : State) (e : execNewtRestart newt s = .next t) [Named P .regs] [Named P .inlet] [Named P .dio] : Foot P s t := by
  have h : Foot P s s := Foot.refl s
  unfold execNewtRestart at e
  try extract_lets at e
  first | refine next_foot ?_ e | refine need_foot ?_ e
  all_goals repeat' first
    | with_reducible assumption | with_reducible apply newtStart_foot | with_reducible apply fresh_foot | with_reducible apply foldl_foot
    | with_reducible apply ite_foot | intro _ | split | contradiction | dsimp only

theorem execFaultSet_foot (bank : Nat) (cause : FaultCause) (s : State) (t : State) (e : execFaultSet bank cause s = .next t) [Named P .regs] [Named P .dio] : Foot P s t := by
  have h : Foot P s s := Foot.refl s
  unfold execFaultSet at e
  try extract_lets at e
  first | refine next_foot ?_ e | refine need_foot ?_ e
  all_goals repeat' first
    | with_reducible assumption | with_reducible apply setFault_foot | with_reducible apply fresh_foot | with_reducible apply foldl_foot
    | with_reducible apply ite_foot | intro _ | split | contradiction | dsimp only

theorem execFaultClear_foot (bank : Nat) (s : State) (t : State) (e : execFaultClear bank s = .next t) [Named P .regs] [Named P .dio] : Foot P s t := by
  have h : Foot P s s := Foot.refl s
  unfold execFaultClear at e
  try extract_lets at e
  first | refine next_foot ?_ e | refine need_foot ?_ e
  all_goals repeat' first
    | with_reducible assumption | with_reducible apply clearFault_foot | with_reducible apply fresh_foot | with_reducible apply foldl_foot
    | with_reducible apply ite_foot | intro _ | split | contradiction | dsimp only

theorem execFieldReset_foot (bank : Nat) (s : State) (t : State) (e : execFieldReset bank s = .next t) [Named P .regs] [Named P .dio] : Foot P s t := by
  have h : Foot P s s := Foot.refl s
  unfold execFieldReset at e
  try extract_lets at e
  first | refine next_foot ?_ e | refine need_foot ?_ e
  all_goals repeat' first
    | with_reducible assumption | with_reducible apply fieldReset_foot | with_reducible apply fresh_foot | with_reducible apply foldl_foot
    | with_reducible apply ite_foot | intro _ | split | contradiction | dsimp only

theorem execFieldSideRestart_foot (bank : Nat) (s : State) (t : State) (e : execFieldSideRestart bank s = .next t) [Named P .regs] [Named P .inlet] [Named P .dio] : Foot P s t := by
  have h : Foot P s s := Foot.refl s
  unfold execFieldSideRestart at e
  try extract_lets at e
  first | refine next_foot ?_ e | refine need_foot ?_ e
  all_goals repeat' first
    | with_reducible assumption | with_reducible apply fieldStart_foot | with_reducible apply fresh_foot | with_reducible apply foldl_foot
    | with_reducible apply ite_foot | intro _ | split | contradiction | dsimp only

theorem execThermalShutdownRetry_foot (ch : Nat) (shorted : Bool) (s : State) (t : State) (e : execThermalShutdownRetry ch shorted s = .next t) [Named P .dio] : Foot P s t := by
  have h : Foot P s s := Foot.refl s
  unfold execThermalShutdownRetry at e
  try extract_lets at e
  first | refine next_foot ?_ e | refine need_foot ?_ e
  all_goals repeat' first
    | with_reducible assumption | with_reducible apply thermalRetry_foot | with_reducible apply fresh_foot | with_reducible apply foldl_foot
    | with_reducible apply ite_foot | intro _ | split | contradiction | dsimp only

theorem execLaneSlotStart_foot (lane : Nat) (s : State) (t : State) (e : execLaneSlotStart lane s = .next t) [Named P .regs] [Named P .fe] : Foot P s t := by
  have h : Foot P s s := Foot.refl s
  unfold execLaneSlotStart at e
  try extract_lets at e
  first | refine next_foot ?_ e | refine need_foot ?_ e
  all_goals repeat' first
    | with_reducible assumption | with_reducible apply slotStart_foot | with_reducible apply fresh_foot | with_reducible apply foldl_foot
    | with_reducible apply ite_foot | intro _ | split | contradiction | dsimp only

theorem execLaneSlotEnd_foot (lane : Nat) (m : SlotMeas) (dt : Nat) (s : State) (t : State) (e : execLaneSlotEnd lane m dt s = .next t) [Named P .regs] [Named P .inlet] [Named P .hif] [Named P .spawn] [Named P .fe] [Named P .dio] [Named P .ws] [Named P .gecko] [Named P .free] : Foot P s t := by
  have h : Foot P s s := Foot.refl s
  unfold execLaneSlotEnd at e
  try extract_lets at e
  first | refine next_foot ?_ e | refine need_foot ?_ e
  all_goals repeat' first
    | with_reducible assumption | with_reducible apply slotEnd_foot | with_reducible apply pass_foot | with_reducible apply fresh_foot
    | with_reducible apply foldl_foot | with_reducible apply ite_foot | intro _ | split | contradiction | dsimp only

theorem execCalSlotDue_foot (lane : Nat) (s : State) (t : State) (e : execCalSlotDue lane s = .next t) [Named P .fe] : Foot P s t := by
  have h : Foot P s s := Foot.refl s
  unfold execCalSlotDue at e
  try extract_lets at e
  first | refine next_foot ?_ e | refine need_foot ?_ e
  all_goals repeat' first
    | with_reducible assumption | with_reducible apply fresh_foot | with_reducible apply updLane_foot | with_reducible apply foldl_foot
    | with_reducible apply ite_foot | intro _ | split | contradiction | dsimp only

theorem execCalSlotEnd_foot (lane : Nat) (meas : F32) (s : State) (t : State) (e : execCalSlotEnd lane meas s = .next t) [Named P .regs] [Named P .fe] : Foot P s t := by
  have h : Foot P s s := Foot.refl s
  unfold execCalSlotEnd at e
  try extract_lets at e
  first | refine next_foot ?_ e | refine need_foot ?_ e
  all_goals repeat' first
    | with_reducible assumption | with_reducible apply calEnd_foot | with_reducible apply fresh_foot | with_reducible apply foldl_foot
    | with_reducible apply ite_foot | intro _ | split | contradiction | dsimp only

theorem execLaneDrained_foot (lane : Nat) (s : State) (t : State) (e : execLaneDrained lane s = .next t) [Named P .regs] [Named P .inlet] [Named P .fe] [Named P .gecko] : Foot P s t := by
  have h : Foot P s s := Foot.refl s
  unfold execLaneDrained at e
  try extract_lets at e
  first | refine next_foot ?_ e | refine need_foot ?_ e
  all_goals repeat' first
    | with_reducible assumption | with_reducible apply drained_foot | with_reducible apply fresh_foot | with_reducible apply foldl_foot
    | with_reducible apply ite_foot | intro _ | split | contradiction | dsimp only

theorem execClampEventStart_foot (t1 : Nat) (s : State) (t : State) (e : execClampEventStart t1 s = .next t) [Named P .regs] [Named P .fe] : Foot P s t := by
  have h : Foot P s s := Foot.refl s
  unfold execClampEventStart at e
  try extract_lets at e
  first | refine next_foot ?_ e | refine need_foot ?_ e
  all_goals repeat' first
    | with_reducible assumption | with_reducible apply fresh_foot | with_reducible apply setRegBit_foot | with_reducible apply bump_foot
    | with_reducible apply raise_foot | with_reducible apply updLane_foot | with_reducible apply foldl_foot | with_reducible apply ite_foot | intro _
    | split | contradiction | dsimp only

theorem execClampEventEnd_foot (t1 : Nat) (s : State) (t : State) (e : execClampEventEnd t1 s = .next t) [Named P .regs] : Foot P s t := by
  have h : Foot P s s := Foot.refl s
  unfold execClampEventEnd at e
  try extract_lets at e
  first | refine next_foot ?_ e | refine need_foot ?_ e
  all_goals repeat' first
    | with_reducible assumption | with_reducible apply setRegBit_foot | with_reducible apply fresh_foot | with_reducible apply foldl_foot
    | with_reducible apply ite_foot | intro _ | split | contradiction | dsimp only

theorem execBurdenShuntOpen_foot (t1 : Nat) (s : State) (t : State) (e : execBurdenShuntOpen t1 s = .next t) [Named P .regs] : Foot P s t := by
  have h : Foot P s s := Foot.refl s
  unfold execBurdenShuntOpen at e
  try extract_lets at e
  first | refine next_foot ?_ e | refine need_foot ?_ e
  all_goals repeat' first
    | with_reducible assumption | with_reducible apply fresh_foot | with_reducible apply bump_foot | with_reducible apply setRegBit_foot
    | with_reducible apply foldl_foot | with_reducible apply ite_foot | intro _ | split | contradiction | dsimp only

theorem execBurdenShuntReclose_foot (t1 : Nat) (s : State) (t : State) (e : execBurdenShuntReclose t1 s = .next t) [Named P .regs] : Foot P s t := by
  have h : Foot P s s := Foot.refl s
  unfold execBurdenShuntReclose at e
  try extract_lets at e
  first | refine next_foot ?_ e | refine need_foot ?_ e
  all_goals repeat' first
    | with_reducible assumption | with_reducible apply setRegBit_foot | with_reducible apply fresh_foot | with_reducible apply foldl_foot
    | with_reducible apply ite_foot | intro _ | split | contradiction | dsimp only

theorem execBiasCurrentLimit_foot (n : Nat) (limiting : Bool) (s : State) (t : State) (e : execBiasCurrentLimit n limiting s = .next t) [Named P .regs] : Foot P s t := by
  have h : Foot P s s := Foot.refl s
  unfold execBiasCurrentLimit at e
  try extract_lets at e
  first | refine next_foot ?_ e | refine need_foot ?_ e
  all_goals repeat' first
    | with_reducible assumption | with_reducible apply fresh_foot | with_reducible apply setRegBit_foot | with_reducible apply bump_foot
    | with_reducible apply foldl_foot | with_reducible apply ite_foot | intro _ | split | contradiction | dsimp only

theorem execXpCheck_foot (v : U32) (s : State) (t : State) (e : execXpCheck v s = .next t) [Named P .regs] : Foot P s t := by
  have h : Foot P s s := Foot.refl s
  unfold execXpCheck at e
  try extract_lets at e
  first | refine next_foot ?_ e | refine need_foot ?_ e
  all_goals repeat' first
    | with_reducible assumption | with_reducible apply checkWrite_foot | with_reducible apply fresh_foot | with_reducible apply foldl_foot
    | with_reducible apply ite_foot | intro _ | split | contradiction | dsimp only

theorem execConfigBarrier_foot (s : State) (t : State) (e : execConfigBarrier s = .next t) [Named P .regs] [Named P .tarn] [Named P .inlet] [Named P .aeA] [Named P .aeB] [Named P .outlet] [Named P .hif] [Named P .skink] [Named P .spawn] [Named P .fe] [Named P .dio] [Named P .can] [Named P .canWalk] [Named P .gecko] : Foot P s t := by
  have h : Foot P s s := Foot.refl s
  unfold execConfigBarrier at e
  try extract_lets at e
  first | refine next_foot ?_ e | refine need_foot ?_ e
  all_goals repeat' first
    | with_reducible assumption | with_reducible apply configBarrier_foot | with_reducible apply fresh_foot | with_reducible apply foldl_foot
    | with_reducible apply ite_foot | intro _ | split | contradiction | dsimp only

theorem execEvalEccFault_foot (s : State) (t : State) (e : execEvalEccFault s = .next t) [Named P .regs] [Named P .inlet] [Named P .aeA] [Named P .aeB] [Named P .outlet] [Named P .hif] [Named P .spawn] [Named P .gecko] : Foot P s t := by
  have h : Foot P s s := Foot.refl s
  unfold execEvalEccFault at e
  try extract_lets at e
  first | refine next_foot ?_ e | refine need_foot ?_ e
  all_goals repeat' first
    | with_reducible assumption | with_reducible apply eccFault_foot | with_reducible apply fresh_foot | with_reducible apply foldl_foot
    | with_reducible apply ite_foot | intro _ | split | contradiction | dsimp only

theorem execCanFrameReceived_foot (ch : Nat) (f : CanFrame) (dt : Nat) (s : State) (t : State) (e : execCanFrameReceived ch f dt s = .next t) [Named P .regs] [Named P .inlet] [Named P .hif] [Named P .spawn] [Named P .dio] [Named P .can] [Named P .canWalk] [Named P .ws] [Named P .gecko] [Named P .free] : Foot P s t := by
  have h : Foot P s s := Foot.refl s
  unfold execCanFrameReceived at e
  try extract_lets at e
  first | refine next_foot ?_ e | refine need_foot ?_ e
  all_goals repeat' first
    | with_reducible assumption | with_reducible apply canReceive_foot | with_reducible apply pass_foot | with_reducible apply fresh_foot
    | with_reducible apply foldl_foot | with_reducible apply ite_foot | intro _ | split | contradiction | dsimp only

theorem execProtocolException_foot (ch : Nat) (s : State) (t : State) (e : execProtocolException ch s = .next t) [Named P .regs] : Foot P s t := by
  have h : Foot P s s := Foot.refl s
  unfold execProtocolException at e
  try extract_lets at e
  first | refine next_foot ?_ e | refine need_foot ?_ e
  all_goals repeat' first
    | with_reducible assumption | with_reducible apply fresh_foot | with_reducible apply raise_foot | with_reducible apply setCanStat_foot
    | with_reducible apply setCanBus_foot | with_reducible apply foldl_foot | with_reducible apply ite_foot | intro _ | split | contradiction
    | dsimp only

theorem execCanBusError_foot (ch : Nat) (err : CanErr) (s : State) (t : State) (e : execCanBusError ch err s = .next t) [Named P .regs] [Named P .hif] [Named P .can] [Named P .gecko] [Named P .free] : Foot P s t := by
  have h : Foot P s s := Foot.refl s
  unfold execCanBusError at e
  dsimp only at e
  first | refine next_foot ?_ e | refine need_foot ?_ e
  all_goals repeat' first
    | with_reducible assumption | with_reducible apply fresh_foot | with_reducible apply attemptEnd_foot | with_reducible apply setErr_foot
    | with_reducible apply errFrame_foot | with_reducible apply foldl_foot | with_reducible apply ite_foot | intro _ | split | contradiction
    | dsimp only

theorem execFilterWalk_foot (s : State) (t : State) (e : execFilterWalk s = .next t) [Named P .regs] [Named P .inlet] [Named P .hif] [Named P .can] [Named P .canWalk] [Named P .gecko] : Foot P s t := by
  have h : Foot P s s := Foot.refl s
  unfold execFilterWalk at e
  try extract_lets at e
  first | refine next_foot ?_ e | refine need_foot ?_ e
  all_goals repeat' first
    | with_reducible assumption | with_reducible apply walkNext_foot | with_reducible apply fresh_foot | with_reducible apply foldl_foot
    | with_reducible apply ite_foot | intro _ | split | contradiction | dsimp only

theorem execCanTxEntryTaken_foot (ch : Nat) (s : State) (t : State) (e : execCanTxEntryTaken ch s = .next t) [Named P .regs] [Named P .hif] [Named P .can] [Named P .gecko] : Foot P s t := by
  have h : Foot P s s := Foot.refl s
  unfold execCanTxEntryTaken at e
  try extract_lets at e
  first | refine next_foot ?_ e | refine need_foot ?_ e
  all_goals repeat' first
    | with_reducible assumption | with_reducible apply takeEntry_foot | with_reducible apply fresh_foot | with_reducible apply foldl_foot
    | with_reducible apply ite_foot | intro _ | split | contradiction | dsimp only

theorem execTxAttemptStart_foot (ch : Nat) (dt : Nat) (s : State) (t : State) (e : execTxAttemptStart ch dt s = .next t) [Named P .regs] [Named P .hif] [Named P .spawn] [Named P .dio] [Named P .can] [Named P .ws] [Named P .gecko] : Foot P s t := by
  have h : Foot P s s := Foot.refl s
  unfold execTxAttemptStart at e
  try extract_lets at e
  first | refine next_foot ?_ e | refine need_foot ?_ e
  all_goals repeat' first
    | with_reducible assumption | with_reducible apply attemptStart_foot | with_reducible apply pass_foot | with_reducible apply fresh_foot
    | with_reducible apply foldl_foot | with_reducible apply ite_foot | intro _ | split | contradiction | dsimp only

theorem execTxAttemptEnd_foot (ch : Nat) (r1 : TxResult) (dt : Nat) (s : State) (t : State) (e : execTxAttemptEnd ch r1 dt s = .next t) [Named P .regs] [Named P .hif] [Named P .spawn] [Named P .dio] [Named P .can] [Named P .ws] [Named P .gecko] [Named P .free] : Foot P s t := by
  have h : Foot P s s := Foot.refl s
  unfold execTxAttemptEnd at e
  try extract_lets at e
  first | refine next_foot ?_ e | refine need_foot ?_ e
  all_goals repeat' first
    | with_reducible assumption | with_reducible apply pass_foot | with_reducible apply fresh_foot | with_reducible apply attemptEnd_foot
    | with_reducible apply foldl_foot | with_reducible apply ite_foot | intro _ | split | contradiction | dsimp only

theorem execIntegrationComplete_foot (ch : Nat) (s : State) (t : State) (e : execIntegrationComplete ch s = .next t) [Named P .regs] : Foot P s t := by
  have h : Foot P s s := Foot.refl s
  unfold execIntegrationComplete at e
  try extract_lets at e
  first | refine next_foot ?_ e | refine need_foot ?_ e
  all_goals repeat' first
    | with_reducible assumption | with_reducible apply fresh_foot | with_reducible apply setCanBus_foot | with_reducible apply setCanStat_foot
    | with_reducible apply foldl_foot | with_reducible apply ite_foot | intro _ | split | contradiction | dsimp only

theorem execBusOffRecoveryComplete_foot (ch : Nat) (s : State) (t : State) (e : execBusOffRecoveryComplete ch s = .next t) [Named P .regs] [Named P .can] : Foot P s t := by
  have h : Foot P s s := Foot.refl s
  unfold execBusOffRecoveryComplete at e
  try extract_lets at e
  first | refine next_foot ?_ e | refine need_foot ?_ e
  all_goals repeat' first
    | with_reducible assumption | with_reducible apply fresh_foot | with_reducible apply raise_foot | with_reducible apply setCanStat_foot
    | with_reducible apply setCanBus_foot | with_reducible apply updCan_foot | with_reducible apply foldl_foot | with_reducible apply ite_foot
    | intro _ | split | contradiction | dsimp only

theorem execCanCancel_foot (s : State) (t : State) (e : execCanCancel s = .next t) [Named P .regs] [Named P .hif] [Named P .can] [Named P .gecko] : Foot P s t := by
  have h : Foot P s s := Foot.refl s
  unfold execCanCancel at e
  try extract_lets at e
  first | refine next_foot ?_ e | refine need_foot ?_ e
  all_goals repeat' first
    | with_reducible assumption | with_reducible apply dirCmd_foot | with_reducible apply fresh_foot | with_reducible apply cancel_foot
    | with_reducible apply foldl_foot | with_reducible apply ite_foot | intro _ | split | contradiction | dsimp only

theorem execCanChannelCtl_foot (s : State) (t : State) (e : execCanChannelCtl s = .next t) [Named P .regs] [Named P .hif] [Named P .can] [Named P .gecko] : Foot P s t := by
  have h : Foot P s s := Foot.refl s
  unfold execCanChannelCtl at e
  try extract_lets at e
  first | refine next_foot ?_ e | refine need_foot ?_ e
  all_goals repeat' first
    | with_reducible assumption | with_reducible apply dirCmd_foot | with_reducible apply fresh_foot | with_reducible apply channelCtl_foot
    | with_reducible apply foldl_foot | with_reducible apply ite_foot | intro _ | split | contradiction | dsimp only

theorem execEventCopyArrival_foot (e1 : EngineId) (s : State) (t : State) (e : execEventCopyArrival e1 s = .next t) [Named P .regs] [Named P .inlet] [Named P .aeA] [Named P .aeB] [Named P .outlet] [Named P .hif] [Named P .skink] [Named P .spawn] [Named P .fe] [Named P .dio] [Named P .can] [Named P .canWalk] [Named P .gecko] : Foot P s t := by
  have h : Foot P s s := Foot.refl s
  unfold execEventCopyArrival at e
  try extract_lets at e
  first | refine next_foot ?_ e | refine need_foot ?_ e
  all_goals repeat' first
    | with_reducible assumption | with_reducible apply copyArrives_foot | with_reducible apply fresh_foot | with_reducible apply foldl_foot
    | with_reducible apply ite_foot | intro _ | split | contradiction | dsimp only

theorem execMergeWaitExpiry_foot (s : State) (t : State) (e : execMergeWaitExpiry s = .next t) [Named P .regs] [Named P .inlet] [Named P .aeA] [Named P .aeB] [Named P .outlet] [Named P .hif] [Named P .skink] [Named P .spawn] [Named P .fe] [Named P .dio] [Named P .can] [Named P .canWalk] [Named P .gecko] : Foot P s t := by
  have h : Foot P s s := Foot.refl s
  unfold execMergeWaitExpiry at e
  try extract_lets at e
  first | refine next_foot ?_ e | refine need_foot ?_ e
  all_goals repeat' first
    | with_reducible assumption | with_reducible apply mergeExpire_foot | with_reducible apply fresh_foot | with_reducible apply foldl_foot
    | with_reducible apply ite_foot | intro _ | split | contradiction | dsimp only

theorem execEventDelivery_foot (ring : Nat) (s : State) (t : State) (e : execEventDelivery ring s = .next t) [Named P .regs] [Named P .outlet] [Named P .hif] : Foot P s t := by
  have h : Foot P s s := Foot.refl s
  unfold execEventDelivery at e
  try extract_lets at e
  first | refine next_foot ?_ e | refine need_foot ?_ e
  all_goals repeat' first
    | with_reducible assumption | with_reducible apply deliver_foot | with_reducible apply fresh_foot | with_reducible apply foldl_foot
    | with_reducible apply ite_foot | intro _ | split | contradiction | dsimp only

theorem execPublicationDatagram_foot (s : State) (t : State) (e : execPublicationDatagram s = .next t) [Named P .regs] [Named P .outlet] [Named P .ws] : Foot P s t := by
  have h : Foot P s s := Foot.refl s
  unfold execPublicationDatagram at e
  try extract_lets at e
  first | refine next_foot ?_ e | refine need_foot ?_ e
  all_goals repeat' first
    | with_reducible assumption | with_reducible apply pubSend_foot | with_reducible apply fresh_foot | with_reducible apply foldl_foot
    | with_reducible apply ite_foot | intro _ | split | contradiction | dsimp only

theorem execCanPublication_foot (s : State) (t : State) (e : execCanPublication s = .next t) [Named P .regs] [Named P .outlet] [Named P .can] : Foot P s t := by
  have h : Foot P s s := Foot.refl s
  unfold execCanPublication at e
  try extract_lets at e
  first | refine next_foot ?_ e | refine need_foot ?_ e
  all_goals repeat' first
    | with_reducible assumption | with_reducible apply pubCan_foot | with_reducible apply fresh_foot | with_reducible apply foldl_foot
    | with_reducible apply ite_foot | intro _ | split | contradiction | dsimp only

theorem execTrendSample_foot (entry : Nat) (dt : Nat) (s : State) (t : State) (e : execTrendSample entry dt s = .next t) [Named P .regs] [Named P .tarn] [Named P .outlet] [Named P .hif] [Named P .spawn] [Named P .dio] [Named P .ws] [Named P .gecko] : Foot P s t := by
  have h : Foot P s s := Foot.refl s
  unfold execTrendSample at e
  try extract_lets at e
  first | refine next_foot ?_ e | refine need_foot ?_ e
  all_goals repeat' first
    | with_reducible assumption | with_reducible apply trendStep_foot | with_reducible apply pass_foot | with_reducible apply fresh_foot
    | with_reducible apply foldl_foot | with_reducible apply ite_foot | intro _ | split | contradiction | dsimp only

theorem execTrendCtl_foot (s : State) (t : State) (e : execTrendCtl s = .next t) [Named P .regs] [Named P .tarn] [Named P .inlet] [Named P .outlet] [Named P .hif] [Named P .gecko] : Foot P s t := by
  have h : Foot P s s := Foot.refl s
  unfold execTrendCtl at e
  try extract_lets at e
  first | refine next_foot ?_ e | refine need_foot ?_ e
  all_goals repeat' first
    | with_reducible assumption | with_reducible apply dirCmd_foot | with_reducible apply fresh_foot | with_reducible apply trendCtl_foot
    | with_reducible apply foldl_foot | with_reducible apply ite_foot | intro _ | split | contradiction | dsimp only

theorem execQuotaSet_foot (s : State) (t : State) (e : execQuotaSet s = .next t) [Named P .regs] [Named P .hif] [Named P .can] [Named P .nvm] : Foot P s t := by
  have h : Foot P s s := Foot.refl s
  unfold execQuotaSet at e
  try extract_lets at e
  first | refine next_foot ?_ e | refine need_foot ?_ e
  all_goals repeat' first
    | with_reducible assumption | with_reducible apply dirCmd_foot | with_reducible apply fresh_foot | with_reducible apply quotaSet_foot
    | with_reducible apply foldl_foot | with_reducible apply ite_foot | intro _ | split | contradiction | dsimp only

theorem execElasticSplitApply_foot (s : State) (t : State) (e : execElasticSplitApply s = .next t) [Named P .hif] : Foot P s t := by
  have h : Foot P s s := Foot.refl s
  unfold execElasticSplitApply at e
  try extract_lets at e
  first | refine next_foot ?_ e | refine need_foot ?_ e
  all_goals repeat' first
    | with_reducible assumption | with_reducible apply splitApply_foot | with_reducible apply fresh_foot | with_reducible apply foldl_foot
    | with_reducible apply ite_foot | intro _ | split | contradiction | dsimp only

theorem execHifKick_foot (_v : U32) (s : State) (t : State) (e : execHifKick _v s = .next t) [Named P .regs] [Named P .hif] : Foot P s t := by
  have h : Foot P s s := Foot.refl s
  unfold execHifKick at e
  try extract_lets at e
  first | refine next_foot ?_ e | refine need_foot ?_ e
  all_goals repeat' first
    | with_reducible assumption | with_reducible apply fromSetup_foot | with_reducible apply fresh_foot | with_reducible apply kickNow_foot
    | with_reducible apply foldl_foot | with_reducible apply ite_foot | intro _ | split | contradiction | dsimp only

theorem execDoorbellPoll_foot (s : State) (t : State) (e : execDoorbellPoll s = .next t) [Named P .regs] [Named P .hif] : Foot P s t := by
  have h : Foot P s s := Foot.refl s
  unfold execDoorbellPoll at e
  try extract_lets at e
  first | refine next_foot ?_ e | refine need_foot ?_ e
  all_goals repeat' first
    | with_reducible assumption | with_reducible apply dbRead_foot | with_reducible apply fresh_foot | with_reducible apply foldl_foot
    | with_reducible apply ite_foot | intro _ | split | contradiction | dsimp only

theorem execDoorbellCompletion_foot (rsp : DoorbellRsp) (s : State) (t : State) (e : execDoorbellCompletion rsp s = .next t) [Named P .regs] [Named P .inlet] [Named P .aeA] [Named P .aeB] [Named P .outlet] [Named P .hif] [Named P .skink] [Named P .spawn] [Named P .fe] [Named P .dio] [Named P .can] [Named P .canWalk] [Named P .gecko] : Foot P s t := by
  have h : Foot P s s := Foot.refl s
  unfold execDoorbellCompletion at e
  try extract_lets at e
  first | refine next_foot ?_ e | refine need_foot ?_ e
  all_goals repeat' first
    | with_reducible assumption | with_reducible apply doorbells_foot | with_reducible apply fresh_foot | with_reducible apply foldl_foot
    | with_reducible apply ite_foot | intro _ | split | contradiction | dsimp only

theorem execDescriptorArrival_foot (ring : Nat) (data : Image) (s : State) (t : State) (e : execDescriptorArrival ring data s = .next t) [Named P .regs] [Named P .hif] : Foot P s t := by
  have h : Foot P s s := Foot.refl s
  unfold execDescriptorArrival at e
  try extract_lets at e
  first | refine next_foot ?_ e | refine need_foot ?_ e
  all_goals repeat' first
    | with_reducible assumption | with_reducible apply arrive_foot | with_reducible apply fresh_foot | with_reducible apply foldl_foot
    | with_reducible apply ite_foot | intro _ | split | contradiction | dsimp only

theorem execPagesEnSet_foot (s : State) (t : State) (e : execPagesEnSet s = .next t) [Named P .regs] [Named P .hif] : Foot P s t := by
  have h : Foot P s s := Foot.refl s
  unfold execPagesEnSet at e
  try extract_lets at e
  first | refine next_foot ?_ e | refine need_foot ?_ e
  all_goals repeat' first
    | with_reducible assumption | with_reducible apply fromSetup_foot | with_reducible apply fresh_foot | with_reducible apply pagesEnable_foot
    | with_reducible apply foldl_foot | with_reducible apply ite_foot | intro _ | split | contradiction | dsimp only

theorem execPagesEnClear_foot (s : State) (t : State) (e : execPagesEnClear s = .next t) [Named P .regs] : Foot P s t := by
  have h : Foot P s s := Foot.refl s
  unfold execPagesEnClear at e
  try extract_lets at e
  first | refine next_foot ?_ e | refine need_foot ?_ e
  all_goals repeat' first
    | with_reducible assumption | with_reducible apply fromSetup_foot | with_reducible apply fresh_foot | with_reducible apply pagesDisable_foot
    | with_reducible apply foldl_foot | with_reducible apply ite_foot | intro _ | split | contradiction | dsimp only

theorem execRingEnable_foot (ring : Nat) (ctl : U32) (s : State) (t : State) (e : execRingEnable ring ctl s = .next t) [Named P .regs] [Named P .outlet] [Named P .hif] [Named P .spawn] : Foot P s t := by
  have h : Foot P s s := Foot.refl s
  unfold execRingEnable at e
  try extract_lets at e
  first | refine next_foot ?_ e | refine need_foot ?_ e
  all_goals repeat' first
    | with_reducible assumption | with_reducible apply fromSetup_foot | with_reducible apply fresh_foot | with_reducible apply ringCtl_foot
    | with_reducible apply foldl_foot | with_reducible apply ite_foot | intro _ | split | contradiction | dsimp only

theorem execRingDisable_foot (ring : Nat) (ctl : U32) (s : State) (t : State) (e : execRingDisable ring ctl s = .next t) [Named P .regs] [Named P .outlet] [Named P .hif] [Named P .spawn] : Foot P s t := by
  have h : Foot P s s := Foot.refl s
  unfold execRingDisable at e
  try extract_lets at e
  first | refine next_foot ?_ e | refine need_foot ?_ e
  all_goals repeat' first
    | with_reducible assumption | with_reducible apply fromSetup_foot | with_reducible apply fresh_foot | with_reducible apply ringCtl_foot
    | with_reducible apply foldl_foot | with_reducible apply ite_foot | intro _ | split | contradiction | dsimp only

theorem execStatusPageUpdate_foot (s : State) (t : State) (e : execStatusPageUpdate s = .next t) [Named P .hif] : Foot P s t := by
  have h : Foot P s s := Foot.refl s
  unfold execStatusPageUpdate at e
  try extract_lets at e
  first | refine next_foot ?_ e | refine need_foot ?_ e
  all_goals repeat' first
    | with_reducible assumption | with_reducible apply pageTick_foot | with_reducible apply fresh_foot | with_reducible apply foldl_foot
    | with_reducible apply ite_foot | intro _ | split | contradiction | dsimp only

theorem execRingModerationTimeout_foot (ring : Nat) (s : State) (t : State) (e : execRingModerationTimeout ring s = .next t) [Named P .regs] [Named P .hif] : Foot P s t := by
  have h : Foot P s s := Foot.refl s
  unfold execRingModerationTimeout at e
  try extract_lets at e
  first | refine next_foot ?_ e | refine need_foot ?_ e
  all_goals repeat' first
    | with_reducible assumption | with_reducible apply fresh_foot | with_reducible apply sendVector_foot | with_reducible apply updHif_foot
    | with_reducible apply foldl_foot | with_reducible apply ite_foot | intro _ | split | contradiction | dsimp only

theorem execMsixVectorUnmask_foot (vec : Nat) (s : State) (t : State) (e : execMsixVectorUnmask vec s = .next t) [Named P .regs] : Foot P s t := by
  have h : Foot P s s := Foot.refl s
  unfold execMsixVectorUnmask at e
  try extract_lets at e
  first | refine next_foot ?_ e | refine need_foot ?_ e
  all_goals repeat' first
    | with_reducible assumption | with_reducible apply fromSetup_foot | with_reducible apply fresh_foot | with_reducible apply unmask_foot
    | with_reducible apply foldl_foot | with_reducible apply ite_foot | intro _ | split | contradiction | dsimp only

theorem execFlr_foot (s : State) (t : State) (e : execFlr s = .next t) [Named P .regs] [Named P .latch] [Named P .hold] [Named P .hif] : Foot P s t := by
  have h : Foot P s s := Foot.refl s
  unfold execFlr at e
  try extract_lets at e
  first | refine next_foot ?_ e | refine need_foot ?_ e
  all_goals repeat' first
    | with_reducible assumption | with_reducible apply bump_foot | with_reducible apply hifReset_foot | with_reducible apply fresh_foot
    | with_reducible apply foldl_foot | with_reducible apply ite_foot | intro _ | split | contradiction | dsimp only

theorem execPerstNAssert_foot (s : State) (t : State) (e : execPerstNAssert s = .next t) [Named P .regs] [Named P .latch] [Named P .hold] [Named P .hif] : Foot P s t := by
  have h : Foot P s s := Foot.refl s
  unfold execPerstNAssert at e
  try extract_lets at e
  first | refine next_foot ?_ e | refine need_foot ?_ e
  all_goals repeat' first
    | with_reducible assumption | with_reducible apply linkLost_foot | with_reducible apply fresh_foot | with_reducible apply foldl_foot
    | with_reducible apply ite_foot | intro _ | split | contradiction | dsimp only

theorem execLinkDown_foot (s : State) (t : State) (e : execLinkDown s = .next t) [Named P .regs] [Named P .latch] [Named P .hold] [Named P .hif] : Foot P s t := by
  have h : Foot P s s := Foot.refl s
  unfold execLinkDown at e
  try extract_lets at e
  first | refine next_foot ?_ e | refine need_foot ?_ e
  all_goals repeat' first
    | with_reducible assumption | with_reducible apply linkLost_foot | with_reducible apply fresh_foot | with_reducible apply foldl_foot
    | with_reducible apply ite_foot | intro _ | split | contradiction | dsimp only

theorem execD3hotEntry_foot (s : State) (t : State) (e : execD3hotEntry s = .next t) [Named P .regs] [Named P .latch] [Named P .hold] [Named P .hif] : Foot P s t := by
  have h : Foot P s s := Foot.refl s
  unfold execD3hotEntry at e
  try extract_lets at e
  first | refine next_foot ?_ e | refine need_foot ?_ e
  all_goals repeat' first
    | with_reducible assumption | with_reducible apply fresh_foot | with_reducible apply updHif_foot | with_reducible apply linkLost_foot
    | with_reducible apply foldl_foot | with_reducible apply ite_foot | intro _ | split | contradiction | dsimp only

theorem execLinkUp_foot (speed : Nat) (width : Nat) (s : State) (t : State) (e : execLinkUp speed width s = .next t) [Named P .regs] [Named P .hif] : Foot P s t := by
  have h : Foot P s s := Foot.refl s
  unfold execLinkUp at e
  try extract_lets at e
  first | refine next_foot ?_ e | refine need_foot ?_ e
  all_goals repeat' first
    | with_reducible assumption | with_reducible apply fresh_foot | with_reducible apply linkTrain_foot | with_reducible apply foldl_foot
    | with_reducible apply ite_foot | intro _ | split | contradiction | dsimp only

theorem execLegEvtW0Read_foot (s : State) (t : State) (e : execLegEvtW0Read s = .next t) [Named P .outlet] [Named P .hostRead] : Foot P s t := by
  have h : Foot P s s := Foot.refl s
  unfold execLegEvtW0Read at e
  try extract_lets at e
  first | refine next_foot ?_ e | refine need_foot ?_ e
  all_goals repeat' first
    | with_reducible assumption | with_reducible apply legW0Read_foot | with_reducible apply fresh_foot | with_reducible apply foldl_foot
    | with_reducible apply ite_foot | intro _ | split | contradiction | dsimp only

theorem execLegEvtW3Read_foot (s : State) (t : State) (e : execLegEvtW3Read s = .next t) [Named P .outlet] [Named P .hostRead] : Foot P s t := by
  have h : Foot P s s := Foot.refl s
  unfold execLegEvtW3Read at e
  try extract_lets at e
  first | refine next_foot ?_ e | refine need_foot ?_ e
  all_goals repeat' first
    | with_reducible assumption | with_reducible apply legW3Read_foot | with_reducible apply fresh_foot | with_reducible apply foldl_foot
    | with_reducible apply ite_foot | intro _ | split | contradiction | dsimp only

theorem execLegFlush_foot (s : State) (t : State) (e : execLegFlush s = .next t) [Named P .regs] [Named P .outlet] : Foot P s t := by
  have h : Foot P s s := Foot.refl s
  unfold execLegFlush at e
  try extract_lets at e
  first | refine next_foot ?_ e | refine need_foot ?_ e
  all_goals repeat' first
    | with_reducible assumption | with_reducible apply fromSetup_foot | with_reducible apply fresh_foot | with_reducible apply legFlush_foot
    | with_reducible apply foldl_foot | with_reducible apply ite_foot | intro _ | split | contradiction | dsimp only

theorem execSpawnCtl_foot (img : Image) (s : State) (t : State) (e : execSpawnCtl img s = .next t) [Named P .regs] [Named P .hif] [Named P .spawn] : Foot P s t := by
  have h : Foot P s s := Foot.refl s
  unfold execSpawnCtl at e
  try extract_lets at e
  first | refine next_foot ?_ e | refine need_foot ?_ e
  all_goals repeat' first
    | with_reducible assumption | with_reducible apply dirCmd_foot | with_reducible apply fresh_foot | with_reducible apply spawnCtl_foot
    | with_reducible apply foldl_foot | with_reducible apply ite_foot | intro _ | split | contradiction | dsimp only

theorem execSpawnTrigger_foot (s : State) (t : State) (e : execSpawnTrigger s = .next t) [Named P .regs] [Named P .hif] [Named P .spawn] : Foot P s t := by
  have h : Foot P s s := Foot.refl s
  unfold execSpawnTrigger at e
  try extract_lets at e
  first | refine next_foot ?_ e | refine need_foot ?_ e
  all_goals repeat' first
    | with_reducible assumption | with_reducible apply dirCmd_foot | with_reducible apply fresh_foot | with_reducible apply spawnTrigger_foot
    | with_reducible apply foldl_foot | with_reducible apply ite_foot | intro _ | split | contradiction | dsimp only

theorem execSnapshotMarkOffer_foot (s : State) (t : State) (e : execSnapshotMarkOffer s = .next t) [Named P .regs] [Named P .inlet] [Named P .spawn] [Named P .gecko] : Foot P s t := by
  have h : Foot P s s := Foot.refl s
  unfold execSnapshotMarkOffer at e
  try extract_lets at e
  first | refine next_foot ?_ e | refine need_foot ?_ e
  all_goals repeat' first
    | with_reducible assumption | with_reducible apply markOffer_foot | with_reducible apply fresh_foot | with_reducible apply foldl_foot
    | with_reducible apply ite_foot | intro _ | split | contradiction | dsimp only

theorem execSnapshotCopyComplete_foot (s : State) (t : State) (e : execSnapshotCopyComplete s = .next t) [Named P .spawn] : Foot P s t := by
  have h : Foot P s s := Foot.refl s
  unfold execSnapshotCopyComplete at e
  try extract_lets at e
  first | refine next_foot ?_ e | refine need_foot ?_ e
  all_goals repeat' first
    | with_reducible assumption | with_reducible apply copyComplete_foot | with_reducible apply fresh_foot | with_reducible apply foldl_foot
    | with_reducible apply ite_foot | intro _ | split | contradiction | dsimp only

theorem execSnapTimeout_foot (s : State) (t : State) (e : execSnapTimeout s = .next t) [Named P .regs] [Named P .hif] [Named P .spawn] : Foot P s t := by
  have h : Foot P s s := Foot.refl s
  unfold execSnapTimeout at e
  try extract_lets at e
  first | refine next_foot ?_ e | refine need_foot ?_ e
  all_goals repeat' first
    | with_reducible assumption | with_reducible apply snapExpire_foot | with_reducible apply fresh_foot | with_reducible apply foldl_foot
    | with_reducible apply ite_foot | intro _ | split | contradiction | dsimp only

theorem execSpawnOutBufferWrite_foot (s : State) (addr : (Option Nat)) (t : State) (e : execSpawnOutBufferWrite s addr = .next t) [Named P .regs] [Named P .hif] [Named P .spawn] : Foot P s t := by
  have h : Foot P s s := Foot.refl s
  unfold execSpawnOutBufferWrite at e
  try extract_lets at e
  first | refine next_foot ?_ e | refine need_foot ?_ e
  all_goals repeat' first
    | with_reducible assumption | with_reducible apply spawnOut_foot | with_reducible apply fresh_foot | with_reducible apply foldl_foot
    | with_reducible apply ite_foot | intro _ | split | contradiction | dsimp only

theorem execCheckpoint_foot (s : State) (t : State) (e : execCheckpoint s = .next t) [Named P .regs] [Named P .spawn] [Named P .gecko] : Foot P s t := by
  have h : Foot P s s := Foot.refl s
  unfold execCheckpoint at e
  try extract_lets at e
  first | refine next_foot ?_ e | refine need_foot ?_ e
  all_goals repeat' first
    | with_reducible assumption | with_reducible apply takeCkpt_foot | with_reducible apply fresh_foot | with_reducible apply foldl_foot
    | with_reducible apply ite_foot | intro _ | split | contradiction | dsimp only

theorem execWindowFreeze_foot (s : State) (t : State) (e : execWindowFreeze s = .next t) [Named P .regs] [Named P .spawn] : Foot P s t := by
  have h : Foot P s s := Foot.refl s
  unfold execWindowFreeze at e
  try extract_lets at e
  first | refine next_foot ?_ e | refine need_foot ?_ e
  all_goals repeat' first
    | with_reducible assumption | with_reducible apply freeze_foot | with_reducible apply fresh_foot | with_reducible apply foldl_foot
    | with_reducible apply ite_foot | intro _ | split | contradiction | dsimp only

theorem execScrubSlot_foot (bank : Nat) (s : State) (t : State) (e : execScrubSlot bank s = .next t) [Named P .regs] [Named P .gecko] : Foot P s t := by
  have h : Foot P s s := Foot.refl s
  unfold execScrubSlot at e
  try extract_lets at e
  first | refine next_foot ?_ e | refine need_foot ?_ e
  all_goals repeat' first
    | with_reducible assumption | with_reducible apply scrubSlot_foot | with_reducible apply fresh_foot | with_reducible apply foldl_foot
    | with_reducible apply ite_foot | intro _ | split | contradiction | dsimp only

theorem execTarnCorrectedError_foot (off : Off) (s : State) (t : State) (e : execTarnCorrectedError off s = .next t) [Named P .regs] [Named P .gecko] : Foot P s t := by
  have h : Foot P s s := Foot.refl s
  unfold execTarnCorrectedError at e
  try extract_lets at e
  first | refine next_foot ?_ e | refine need_foot ?_ e
  all_goals repeat' first
    | with_reducible assumption | with_reducible apply correctedError_foot | with_reducible apply fresh_foot | with_reducible apply foldl_foot
    | with_reducible apply ite_foot | intro _ | split | contradiction | dsimp only

theorem execTarnUncorrectable_foot (off : Off) (s : State) (t : State) (e : execTarnUncorrectable off s = .next t) [Named P .regs] [Named P .tarn] [Named P .inlet] [Named P .aeA] [Named P .aeB] [Named P .outlet] [Named P .hif] [Named P .skink] [Named P .spawn] [Named P .fe] [Named P .dio] [Named P .can] [Named P .canWalk] [Named P .gecko] : Foot P s t := by
  have h : Foot P s s := Foot.refl s
  unfold execTarnUncorrectable at e
  try extract_lets at e
  first | refine next_foot ?_ e | refine need_foot ?_ e
  all_goals repeat' first
    | with_reducible assumption | with_reducible apply uncorrectable_foot | with_reducible apply fresh_foot | with_reducible apply foldl_foot
    | with_reducible apply ite_foot | intro _ | split | contradiction | dsimp only

theorem execTcmScrub_foot (corrected : Nat) (s : State) (t : State) (e : execTcmScrub corrected s = .next t) [Named P .regs] [Named P .gecko] : Foot P s t := by
  have h : Foot P s s := Foot.refl s
  unfold execTcmScrub at e
  try extract_lets at e
  first | refine next_foot ?_ e | refine need_foot ?_ e
  all_goals repeat' first
    | with_reducible assumption | with_reducible apply tcmScrub_foot | with_reducible apply fresh_foot | with_reducible apply foldl_foot
    | with_reducible apply ite_foot | intro _ | split | contradiction | dsimp only

theorem execTcmUncorrectable_foot (s : State) (t : State) (e : execTcmUncorrectable s = .next t) [Named P .regs] [Named P .inlet] [Named P .outlet] [Named P .hif] [Named P .spawn] [Named P .fe] [Named P .dio] [Named P .can] [Named P .canWalk] [Named P .gecko] : Foot P s t := by
  have h : Foot P s s := Foot.refl s
  unfold execTcmUncorrectable at e
  try extract_lets at e
  first | refine next_foot ?_ e | refine need_foot ?_ e
  all_goals repeat' first
    | with_reducible assumption | with_reducible apply fresh_foot | with_reducible apply haltNode_foot | with_reducible apply foldl_foot
    | with_reducible apply ite_foot | intro _ | split | contradiction | dsimp only

theorem execSettingsJournalWrite_foot (sectorFail : Bool) (s : State) (t : State) (e : execSettingsJournalWrite sectorFail s = .next t) [Named P .regs] [Named P .nvm] [Named P .gecko] : Foot P s t := by
  have h : Foot P s s := Foot.refl s
  unfold execSettingsJournalWrite at e
  try extract_lets at e
  first | refine next_foot ?_ e | refine need_foot ?_ e
  all_goals repeat' first
    | with_reducible assumption | with_reducible apply journalWrite_foot | with_reducible apply fresh_foot | with_reducible apply foldl_foot
    | with_reducible apply ite_foot | intro _ | split | contradiction | dsimp only

theorem execBaseGenerationStart_foot (s : State) (t : State) (e : execBaseGenerationStart s = .next t) [Named P .gecko] : Foot P s t := by
  have h : Foot P s s := Foot.refl s
  unfold execBaseGenerationStart at e
  try extract_lets at e
  first | refine next_foot ?_ e | refine need_foot ?_ e
  all_goals repeat' first
    | with_reducible assumption | with_reducible apply fresh_foot | with_reducible apply startBase_foot | with_reducible apply foldl_foot
    | with_reducible apply ite_foot | intro _ | split | contradiction | dsimp only

theorem execBaseGenerationDurable_foot (s : State) (t : State) (e : execBaseGenerationDurable s = .next t) [Named P .regs] [Named P .nvm] [Named P .gecko] [Named P .free] : Foot P s t := by
  have h : Foot P s s := Foot.refl s
  unfold execBaseGenerationDurable at e
  try extract_lets at e
  first | refine next_foot ?_ e | refine need_foot ?_ e
  all_goals repeat' first
    | with_reducible assumption | with_reducible apply baseDurable_foot | with_reducible apply fresh_foot | with_reducible apply foldl_foot
    | with_reducible apply ite_foot | intro _ | split | contradiction | dsimp only

theorem execDigestRewrite_foot (s : State) (t : State) (e : execDigestRewrite s = .next t) [Named P .regs] [Named P .nvm] [Named P .gecko] : Foot P s t := by
  have h : Foot P s s := Foot.refl s
  unfold execDigestRewrite at e
  try extract_lets at e
  first | refine next_foot ?_ e | refine need_foot ?_ e
  all_goals repeat' first
    | with_reducible assumption | with_reducible apply digestRewrite_foot | with_reducible apply fresh_foot | with_reducible apply foldl_foot
    | with_reducible apply ite_foot | intro _ | split | contradiction | dsimp only

theorem execTelemetry_foot (t1 : TelemEnv) (dt : Nat) (s : State) (t : State) (e : execTelemetry t1 dt s = .next t) [Named P .regs] [Named P .hif] [Named P .spawn] [Named P .dio] [Named P .ws] [Named P .gecko] : Foot P s t := by
  have h : Foot P s s := Foot.refl s
  unfold execTelemetry at e
  try extract_lets at e
  first | refine next_foot ?_ e | refine need_foot ?_ e
  all_goals repeat' first
    | with_reducible assumption | with_reducible apply telemetry_foot | with_reducible apply pass_foot | with_reducible apply fresh_foot
    | with_reducible apply foldl_foot | with_reducible apply ite_foot | intro _ | split | contradiction | dsimp only

theorem execLegPtWrite_foot (s : State) (t : State) (e : execLegPtWrite s = .next t) [Named P .regs] [Named P .tarn] [Named P .gecko] : Foot P s t := by
  have h : Foot P s s := Foot.refl s
  unfold execLegPtWrite at e
  try extract_lets at e
  first | refine next_foot ?_ e | refine need_foot ?_ e
  all_goals repeat' first
    | with_reducible assumption | with_reducible apply legPtWrite_foot | with_reducible apply fresh_foot | with_reducible apply foldl_foot
    | with_reducible apply ite_foot | intro _ | split | contradiction | dsimp only

theorem execLegPtRead_foot (s : State) (t : State) (e : execLegPtRead s = .next t) [Named P .regs] : Foot P s t := by
  have h : Foot P s s := Foot.refl s
  unfold execLegPtRead at e
  try extract_lets at e
  first | refine next_foot ?_ e | refine need_foot ?_ e
  all_goals repeat' first
    | with_reducible assumption | with_reducible apply legPtRead_foot | with_reducible apply fresh_foot | with_reducible apply foldl_foot
    | with_reducible apply ite_foot | intro _ | split | contradiction | dsimp only

theorem execEngineFailure_foot (e1 : EngineId) (cause : Nat) (s : State) (t : State) (e : execEngineFailure e1 cause s = .next t) [Named P .regs] [Named P .inlet] [Named P .aeA] [Named P .aeB] [Named P .outlet] [Named P .hif] [Named P .skink] [Named P .spawn] [Named P .fe] [Named P .dio] [Named P .can] [Named P .canWalk] [Named P .gecko] : Foot P s t := by
  have h : Foot P s s := Foot.refl s
  unfold execEngineFailure at e
  try extract_lets at e
  first | refine next_foot ?_ e | refine need_foot ?_ e
  all_goals repeat' first
    | with_reducible assumption | with_reducible apply fresh_foot | with_reducible apply failEngine_foot | with_reducible apply foldl_foot
    | with_reducible apply ite_foot | intro _ | split | contradiction | dsimp only

theorem execTickStall_foot (e1 : EngineId) (s : State) (t : State) (e : execTickStall e1 s = .next t) [Named P .regs] [Named P .inlet] [Named P .aeA] [Named P .aeB] [Named P .outlet] [Named P .hif] [Named P .skink] [Named P .spawn] [Named P .fe] [Named P .dio] [Named P .can] [Named P .canWalk] [Named P .gecko] : Foot P s t := by
  have h : Foot P s s := Foot.refl s
  unfold execTickStall at e
  try extract_lets at e
  first | refine next_foot ?_ e | refine need_foot ?_ e
  all_goals repeat' first
    | with_reducible assumption | with_reducible apply fresh_foot | with_reducible apply failEngine_foot | with_reducible apply foldl_foot
    | with_reducible apply ite_foot | intro _ | split | contradiction | dsimp only

theorem execHoldGrant_foot (s : State) (t : State) (e : execHoldGrant s = .next t) [Named P .regs] [Named P .inlet] [Named P .aeA] [Named P .aeB] [Named P .skink] [Named P .gecko] : Foot P s t := by
  have h : Foot P s s := Foot.refl s
  unfold execHoldGrant at e
  try extract_lets at e
  first | refine next_foot ?_ e | refine need_foot ?_ e
  all_goals repeat' first
    | with_reducible assumption | with_reducible apply takeOver_foot | with_reducible apply fresh_foot | with_reducible apply foldl_foot
    | with_reducible apply ite_foot | intro _ | split | contradiction | dsimp only

theorem execTakeBack_foot (s : State) (t : State) (e : execTakeBack s = .next t) [Named P .regs] [Named P .inlet] [Named P .aeA] [Named P .aeB] [Named P .skink] [Named P .gecko] : Foot P s t := by
  have h : Foot P s s := Foot.refl s
  unfold execTakeBack at e
  try extract_lets at e
  first | refine next_foot ?_ e | refine need_foot ?_ e
  all_goals repeat' first
    | with_reducible assumption | with_reducible apply takeBack_foot | with_reducible apply fresh_foot | with_reducible apply foldl_foot
    | with_reducible apply ite_foot | intro _ | split | contradiction | dsimp only

theorem execEngineReturnTest_foot (e1 : EngineId) (pass : Bool) (s : State) (t : State) (e : execEngineReturnTest e1 pass s = .next t) [Named P .regs] [Named P .inlet] [Named P .aeA] [Named P .aeB] [Named P .skink] [Named P .gecko] : Foot P s t := by
  have h : Foot P s s := Foot.refl s
  unfold execEngineReturnTest at e
  try extract_lets at e
  first | refine next_foot ?_ e | refine need_foot ?_ e
  all_goals repeat' first
    | with_reducible assumption | with_reducible apply returnTest_foot | with_reducible apply fresh_foot | with_reducible apply foldl_foot
    | with_reducible apply ite_foot | intro _ | split | contradiction | dsimp only

theorem execStateCopyComplete_foot (verified : Bool) (s : State) (t : State) (e : execStateCopyComplete verified s = .next t) [Named P .regs] [Named P .inlet] [Named P .aeA] [Named P .aeB] [Named P .outlet] [Named P .skink] [Named P .gecko] : Foot P s t := by
  have h : Foot P s s := Foot.refl s
  unfold execStateCopyComplete at e
  try extract_lets at e
  first | refine next_foot ?_ e | refine need_foot ?_ e
  all_goals repeat' first
    | with_reducible assumption | with_reducible apply copyDone_foot | with_reducible apply fresh_foot | with_reducible apply foldl_foot
    | with_reducible apply ite_foot | intro _ | split | contradiction | dsimp only

theorem execReturnHoldoffExpiry_foot (e1 : EngineId) (s : State) (t : State) (e : execReturnHoldoffExpiry e1 s = .next t) [Named P .regs] [Named P .inlet] [Named P .aeA] [Named P .aeB] [Named P .gecko] : Foot P s t := by
  have h : Foot P s s := Foot.refl s
  unfold execReturnHoldoffExpiry at e
  try extract_lets at e
  first | refine next_foot ?_ e | refine need_foot ?_ e
  all_goals repeat' first
    | with_reducible assumption | with_reducible apply holdoffOver_foot | with_reducible apply fresh_foot | with_reducible apply foldl_foot
    | with_reducible apply ite_foot | intro _ | split | contradiction | dsimp only

theorem execAuditOffer_foot (s : State) (t : State) (e : execAuditOffer s = .next t) [Named P .regs] [Named P .inlet] [Named P .skink] [Named P .gecko] : Foot P s t := by
  have h : Foot P s s := Foot.refl s
  unfold execAuditOffer at e
  try extract_lets at e
  first | refine next_foot ?_ e | refine need_foot ?_ e
  all_goals repeat' first
    | with_reducible assumption | with_reducible apply auditOffer_foot | with_reducible apply fresh_foot | with_reducible apply foldl_foot
    | with_reducible apply ite_foot | intro _ | split | contradiction | dsimp only

theorem execAuditCompare_foot (s : State) (t : State) (e : execAuditCompare s = .next t) [Named P .regs] [Named P .inlet] [Named P .aeA] [Named P .aeB] [Named P .skink] [Named P .gecko] : Foot P s t := by
  have h : Foot P s s := Foot.refl s
  unfold execAuditCompare at e
  try extract_lets at e
  first | refine next_foot ?_ e | refine need_foot ?_ e
  all_goals repeat' first
    | with_reducible assumption | with_reducible apply auditCompare_foot | with_reducible apply fresh_foot | with_reducible apply foldl_foot
    | with_reducible apply ite_foot | intro _ | split | contradiction | dsimp only

theorem execDivergeResolution_foot (s : State) (t : State) (e : execDivergeResolution s = .next t) [Named P .regs] [Named P .inlet] [Named P .aeA] [Named P .aeB] [Named P .outlet] [Named P .hif] [Named P .skink] [Named P .spawn] [Named P .fe] [Named P .dio] [Named P .can] [Named P .canWalk] [Named P .gecko] : Foot P s t := by
  have h : Foot P s s := Foot.refl s
  unfold execDivergeResolution at e
  try extract_lets at e
  first | refine next_foot ?_ e | refine need_foot ?_ e
  all_goals repeat' first
    | with_reducible assumption | with_reducible apply resolve_foot | with_reducible apply fresh_foot | with_reducible apply foldl_foot
    | with_reducible apply ite_foot | intro _ | split | contradiction | dsimp only

theorem execAeInject_foot (e1 : EngineId) (v : U32) (s : State) (t : State) (e : execAeInject e1 v s = .next t) [Named P .regs] [Named P .inlet] [Named P .aeA] [Named P .aeB] [Named P .outlet] [Named P .hif] [Named P .skink] [Named P .spawn] [Named P .fe] [Named P .dio] [Named P .can] [Named P .canWalk] [Named P .gecko] : Foot P s t := by
  have h : Foot P s s := Foot.refl s
  unfold execAeInject at e
  try extract_lets at e
  first | refine next_foot ?_ e | refine need_foot ?_ e
  all_goals repeat' first
    | with_reducible assumption | with_reducible apply inject_foot | with_reducible apply fresh_foot | with_reducible apply foldl_foot
    | with_reducible apply ite_foot | intro _ | split | contradiction | dsimp only

theorem execEngineCtl_foot (s : State) (t : State) (e : execEngineCtl s = .next t) [Named P .regs] [Named P .inlet] [Named P .aeA] [Named P .aeB] [Named P .outlet] [Named P .hif] [Named P .skink] [Named P .spawn] [Named P .fe] [Named P .dio] [Named P .can] [Named P .canWalk] [Named P .gecko] : Foot P s t := by
  have h : Foot P s s := Foot.refl s
  unfold execEngineCtl at e
  try extract_lets at e
  first | refine next_foot ?_ e | refine need_foot ?_ e
  all_goals repeat' first
    | with_reducible assumption | with_reducible apply dirCmd_foot | with_reducible apply fresh_foot | with_reducible apply engineCtl_foot
    | with_reducible apply foldl_foot | with_reducible apply ite_foot | intro _ | split | contradiction | dsimp only

theorem execIntlkInChange_foot (high : Bool) (s : State) (t : State) (e : execIntlkInChange high s = .next t) [Named P .regs] [Named P .skink] : Foot P s t := by
  have h : Foot P s s := Foot.refl s
  unfold execIntlkInChange at e
  try extract_lets at e
  first | refine next_foot ?_ e | refine need_foot ?_ e
  all_goals repeat' first
    | with_reducible assumption | with_reducible apply intlkIn_foot | with_reducible apply fresh_foot | with_reducible apply foldl_foot
    | with_reducible apply ite_foot | intro _ | split | contradiction | dsimp only

theorem execPairClaim_foot (s : State) (t : State) (e : execPairClaim s = .next t) [Named P .regs] [Named P .skink] : Foot P s t := by
  have h : Foot P s s := Foot.refl s
  unfold execPairClaim at e
  try extract_lets at e
  first | refine next_foot ?_ e | refine need_foot ?_ e
  all_goals repeat' first
    | with_reducible assumption | with_reducible apply pairClaim_foot | with_reducible apply fresh_foot | with_reducible apply foldl_foot
    | with_reducible apply ite_foot | intro _ | split | contradiction | dsimp only

theorem execPairRelease_foot (s : State) (t : State) (e : execPairRelease s = .next t) [Named P .regs] [Named P .skink] [Named P .dio] : Foot P s t := by
  have h : Foot P s s := Foot.refl s
  unfold execPairRelease at e
  try extract_lets at e
  first | refine next_foot ?_ e | refine need_foot ?_ e
  all_goals repeat' first
    | with_reducible assumption | with_reducible apply pairRelease_foot | with_reducible apply fresh_foot | with_reducible apply foldl_foot
    | with_reducible apply ite_foot | intro _ | split | contradiction | dsimp only

theorem execPairSenseChange_foot (high : Bool) (s : State) (t : State) (e : execPairSenseChange high s = .next t) [Named P .regs] [Named P .skink] : Foot P s t := by
  have h : Foot P s s := Foot.refl s
  unfold execPairSenseChange at e
  try extract_lets at e
  first | refine next_foot ?_ e | refine need_foot ?_ e
  all_goals repeat' first
    | with_reducible assumption | with_reducible apply pairSense_foot | with_reducible apply fresh_foot | with_reducible apply foldl_foot
    | with_reducible apply ite_foot | intro _ | split | contradiction | dsimp only

theorem execTimeAdj_foot (dt : Nat) (s : State) (t : State) (e : execTimeAdj dt s = .next t) [Named P .regs] [Named P .hif] [Named P .spawn] [Named P .dio] [Named P .ws] [Named P .gecko] : Foot P s t := by
  have h : Foot P s s := Foot.refl s
  unfold execTimeAdj at e
  try extract_lets at e
  first | refine next_foot ?_ e | refine need_foot ?_ e
  all_goals repeat' first
    | with_reducible assumption | with_reducible apply pass_foot | with_reducible apply fresh_foot | with_reducible apply tmoEdges_foot
    | with_reducible apply dirCmd_foot | with_reducible apply timeAdj_foot | with_reducible apply foldl_foot | with_reducible apply ite_foot | intro _
    | split | contradiction | dsimp only

theorem execTimeSwitch_foot (s : State) (t : State) (e : execTimeSwitch s = .next t) [Named P .regs] [Named P .hif] [Named P .spawn] [Named P .dio] [Named P .ws] [Named P .gecko] : Foot P s t := by
  have h : Foot P s s := Foot.refl s
  unfold execTimeSwitch at e
  try extract_lets at e
  first | refine next_foot ?_ e | refine need_foot ?_ e
  all_goals repeat' first
    | with_reducible assumption | with_reducible apply fresh_foot | with_reducible apply pass_foot | with_reducible apply foldl_foot
    | with_reducible apply ite_foot | intro _ | split | contradiction | dsimp only

theorem execPtpSyncReceived_foot (port : Nat) (m : PtpSync) (dt : Nat) (s : State) (t : State) (e : execPtpSyncReceived port m dt s = .next t) [Named P .regs] [Named P .hif] [Named P .spawn] [Named P .dio] [Named P .ws] [Named P .gecko] [Named P .free] : Foot P s t := by
  have h : Foot P s s := Foot.refl s
  unfold execPtpSyncReceived at e
  try extract_lets at e
  first | refine next_foot ?_ e | refine need_foot ?_ e
  all_goals repeat' first
    | with_reducible assumption | with_reducible apply pass_foot | with_reducible apply fresh_foot | with_reducible apply tmoEdges_foot
    | with_reducible apply syncReceived_foot | with_reducible apply foldl_foot | with_reducible apply ite_foot | intro _ | split | contradiction
    | dsimp only

theorem execPtpDelayRespReceived_foot (port : Nat) (m : PtpDelayResp) (s : State) (t : State) (e : execPtpDelayRespReceived port m s = .next t) [Named P .regs] [Named P .spawn] [Named P .ws] [Named P .free] : Foot P s t := by
  have h : Foot P s s := Foot.refl s
  unfold execPtpDelayRespReceived at e
  try extract_lets at e
  first | refine next_foot ?_ e | refine need_foot ?_ e
  all_goals repeat' first
    | with_reducible assumption | with_reducible apply delayResp_foot | with_reducible apply fresh_foot | with_reducible apply foldl_foot
    | with_reducible apply ite_foot | intro _ | split | contradiction | dsimp only

theorem execPtpAnnounceReceived_foot (port : Nat) (m : PtpAnnounce) (s : State) (t : State) (e : execPtpAnnounceReceived port m s = .next t) [Named P .regs] [Named P .hif] [Named P .spawn] [Named P .dio] [Named P .ws] [Named P .gecko] : Foot P s t := by
  have h : Foot P s s := Foot.refl s
  unfold execPtpAnnounceReceived at e
  try extract_lets at e
  first | refine next_foot ?_ e | refine need_foot ?_ e
  all_goals repeat' first
    | with_reducible assumption | with_reducible apply announce_foot | with_reducible apply pass_foot | with_reducible apply fresh_foot
    | with_reducible apply foldl_foot | with_reducible apply ite_foot | intro _ | split | contradiction | dsimp only

theorem execDelayReqSend_foot (dt : Nat) (s : State) (t : State) (e : execDelayReqSend dt s = .next t) [Named P .regs] [Named P .hif] [Named P .spawn] [Named P .dio] [Named P .ws] [Named P .gecko] : Foot P s t := by
  have h : Foot P s s := Foot.refl s
  unfold execDelayReqSend at e
  try extract_lets at e
  first | refine next_foot ?_ e | refine need_foot ?_ e
  all_goals repeat' first
    | with_reducible assumption | with_reducible apply sendDelayReq_foot | with_reducible apply pass_foot | with_reducible apply fresh_foot
    | with_reducible apply foldl_foot | with_reducible apply ite_foot | intro _ | split | contradiction | dsimp only

theorem execMasterLoss_foot (s : State) (t : State) (e : execMasterLoss s = .next t) [Named P .regs] [Named P .ws] : Foot P s t := by
  have h : Foot P s s := Foot.refl s
  unfold execMasterLoss at e
  try extract_lets at e
  first | refine next_foot ?_ e | refine need_foot ?_ e
  all_goals repeat' first
    | with_reducible assumption | with_reducible apply loseMaster_foot | with_reducible apply fresh_foot | with_reducible apply foldl_foot
    | with_reducible apply ite_foot | intro _ | split | contradiction | dsimp only

theorem execAcquireTimeout_foot (s : State) (t : State) (e : execAcquireTimeout s = .next t) [Named P .regs] [Named P .spawn] [Named P .ws] : Foot P s t := by
  have h : Foot P s s := Foot.refl s
  unfold execAcquireTimeout at e
  try extract_lets at e
  first | refine next_foot ?_ e | refine need_foot ?_ e
  all_goals repeat' first
    | with_reducible assumption | with_reducible apply acquireAgain_foot | with_reducible apply fresh_foot | with_reducible apply foldl_foot
    | with_reducible apply ite_foot | intro _ | split | contradiction | dsimp only

theorem execHostTimeout_foot (s : State) (t : State) (e : execHostTimeout s = .next t) [Named P .ws] : Foot P s t := by
  have h : Foot P s s := Foot.refl s
  unfold execHostTimeout at e
  try extract_lets at e
  first | refine next_foot ?_ e | refine need_foot ?_ e
  all_goals repeat' first
    | with_reducible assumption | with_reducible apply fresh_foot | with_reducible apply updWs_foot | with_reducible apply foldl_foot
    | with_reducible apply ite_foot | intro _ | split | contradiction | dsimp only

theorem execEthFrameReceived_foot (port : Nat) (fr : EthRx) (dt : Nat) (s : State) (t : State) (e : execEthFrameReceived port fr dt s = .next t) [Named P .regs] [Named P .hif] [Named P .spawn] [Named P .dio] [Named P .ws] [Named P .gecko] : Foot P s t := by
  have h : Foot P s s := Foot.refl s
  unfold execEthFrameReceived at e
  try extract_lets at e
  first | refine next_foot ?_ e | refine need_foot ?_ e
  all_goals repeat' first
    | with_reducible assumption | with_reducible apply ethReceive_foot | with_reducible apply pass_foot | with_reducible apply fresh_foot
    | with_reducible apply foldl_foot | with_reducible apply ite_foot | intro _ | split | contradiction | dsimp only

theorem execEthTxFrame_foot (port : Nat) (f : EthTx) (s : State) (t : State) (e : execEthTxFrame port f s = .next t) [Named P .regs] [Named P .hif] [Named P .spawn] [Named P .dio] [Named P .ws] [Named P .gecko] : Foot P s t := by
  have h : Foot P s s := Foot.refl s
  unfold execEthTxFrame at e
  try extract_lets at e
  first | refine next_foot ?_ e | refine need_foot ?_ e
  all_goals repeat' first
    | with_reducible assumption | with_reducible apply ethTransmit_foot | with_reducible apply pass_foot | with_reducible apply fresh_foot
    | with_reducible apply foldl_foot | with_reducible apply ite_foot | intro _ | split | contradiction | dsimp only

theorem execEthTxTimestamp_foot (port : Nat) (dt : Nat) (s : State) (t : State) (e : execEthTxTimestamp port dt s = .next t) [Named P .regs] [Named P .hif] [Named P .spawn] [Named P .dio] [Named P .ws] [Named P .gecko] : Foot P s t := by
  have h : Foot P s s := Foot.refl s
  unfold execEthTxTimestamp at e
  try extract_lets at e
  first | refine next_foot ?_ e | refine need_foot ?_ e
  all_goals repeat' first
    | with_reducible assumption | with_reducible apply ethStamp_foot | with_reducible apply pass_foot | with_reducible apply fresh_foot
    | with_reducible apply foldl_foot | with_reducible apply ite_foot | intro _ | split | contradiction | dsimp only

theorem execEthLinkChange_foot (port : Nat) (up : Bool) (gig : Bool) (s : State) (t : State) (e : execEthLinkChange port up gig s = .next t) [Named P .regs] : Foot P s t := by
  have h : Foot P s s := Foot.refl s
  unfold execEthLinkChange at e
  try extract_lets at e
  first | refine next_foot ?_ e | refine need_foot ?_ e
  all_goals repeat' first
    | with_reducible assumption | with_reducible apply fresh_foot | with_reducible apply setRegBit_foot | with_reducible apply bump_foot
    | with_reducible apply foldl_foot | with_reducible apply ite_foot | intro _ | split | contradiction | dsimp only

theorem execPtpTxtsW0Read_foot (port : Nat) (s : State) (t : State) (e : execPtpTxtsW0Read port s = .next t) [Named P .ws] [Named P .hostRead] : Foot P s t := by
  have h : Foot P s s := Foot.refl s
  unfold execPtpTxtsW0Read at e
  try extract_lets at e
  first | refine next_foot ?_ e | refine need_foot ?_ e
  all_goals repeat' first
    | with_reducible assumption | with_reducible apply txtsW0Read_foot | with_reducible apply fresh_foot | with_reducible apply foldl_foot
    | with_reducible apply ite_foot | intro _ | split | contradiction | dsimp only

theorem execPtpTxtsTimeHiRead_foot (port : Nat) (s : State) (t : State) (e : execPtpTxtsTimeHiRead port s = .next t) [Named P .ws] [Named P .hostRead] : Foot P s t := by
  have h : Foot P s s := Foot.refl s
  unfold execPtpTxtsTimeHiRead at e
  try extract_lets at e
  first | refine next_foot ?_ e | refine need_foot ?_ e
  all_goals repeat' first
    | with_reducible assumption | with_reducible apply txtsHiRead_foot | with_reducible apply fresh_foot | with_reducible apply foldl_foot
    | with_reducible apply ite_foot | intro _ | split | contradiction | dsimp only

theorem execTmoPulseStart_foot (k : Nat) (dt : Nat) (s : State) (t : State) (e : execTmoPulseStart k dt s = .next t) [Named P .regs] [Named P .hif] [Named P .spawn] [Named P .dio] [Named P .ws] [Named P .gecko] : Foot P s t := by
  have h : Foot P s s := Foot.refl s
  unfold execTmoPulseStart at e
  try extract_lets at e
  first | refine next_foot ?_ e | refine need_foot ?_ e
  all_goals repeat' first
    | with_reducible assumption | with_reducible apply pass_foot | with_reducible apply fresh_foot | with_reducible apply tmoEdges_foot
    | with_reducible apply tmoFire_foot | with_reducible apply foldl_foot | with_reducible apply ite_foot | intro _ | split | contradiction
    | dsimp only

theorem execTmoPulseEnd_foot (k : Nat) (dt : Nat) (s : State) (t : State) (e : execTmoPulseEnd k dt s = .next t) [Named P .regs] [Named P .hif] [Named P .spawn] [Named P .dio] [Named P .ws] [Named P .gecko] : Foot P s t := by
  have h : Foot P s s := Foot.refl s
  unfold execTmoPulseEnd at e
  try extract_lets at e
  first | refine next_foot ?_ e | refine need_foot ?_ e
  all_goals repeat' first
    | with_reducible assumption | with_reducible apply pass_foot | with_reducible apply fresh_foot | with_reducible apply tmoEdges_foot
    | with_reducible apply tmoEnd_foot | with_reducible apply foldl_foot | with_reducible apply ite_foot | intro _ | split | contradiction
    | dsimp only

theorem execRtcSet_foot (ticks : Nat) (s : State) (t : State) (e : execRtcSet ticks s = .next t) [Named P .regs] [Named P .rtc] [Named P .free] : Foot P s t := by
  have h : Foot P s s := Foot.refl s
  unfold execRtcSet at e
  try extract_lets at e
  first | refine next_foot ?_ e | refine need_foot ?_ e
  all_goals repeat' first
    | with_reducible assumption | with_reducible apply setNow_foot | with_reducible apply rtcElapse_foot | with_reducible apply fresh_foot
    | with_reducible apply foldl_foot | with_reducible apply ite_foot | intro _ | split | contradiction | dsimp only

theorem execRtcCommit_foot (s : State) (t : State) (e : execRtcCommit s = .next t) [Named P .regs] [Named P .rtc] [Named P .free] : Foot P s t := by
  have h : Foot P s s := Foot.refl s
  unfold execRtcCommit at e
  try extract_lets at e
  first | refine next_foot ?_ e | refine need_foot ?_ e
  all_goals repeat' first
    | with_reducible assumption | with_reducible apply rtcElapse_foot | with_reducible apply fresh_foot | with_reducible apply foldl_foot
    | with_reducible apply ite_foot | intro _ | split | contradiction | dsimp only

theorem execSwoClear_foot (s : State) (t : State) (e : execSwoClear s = .next t) [Named P .regs] : Foot P s t := by
  have h : Foot P s s := Foot.refl s
  unfold execSwoClear at e
  try extract_lets at e
  first | refine next_foot ?_ e | refine need_foot ?_ e
  all_goals repeat' first
    | with_reducible assumption | with_reducible apply clearSwo_foot | with_reducible apply fresh_foot | with_reducible apply foldl_foot
    | with_reducible apply ite_foot | intro _ | split | contradiction | dsimp only

theorem execRtcShift_foot (v : U32) (ticks : Nat) (s : State) (t : State) (e : execRtcShift v ticks s = .next t) [Named P .regs] [Named P .rtc] [Named P .free] : Foot P s t := by
  have h : Foot P s s := Foot.refl s
  unfold execRtcShift at e
  try extract_lets at e
  first | refine next_foot ?_ e | refine need_foot ?_ e
  all_goals repeat' first
    | with_reducible assumption | with_reducible apply shiftWrite_foot | with_reducible apply rtcElapse_foot | with_reducible apply fresh_foot
    | with_reducible apply foldl_foot | with_reducible apply ite_foot | intro _ | split | contradiction | dsimp only

theorem execShiftDone_foot (ticks : Nat) (s : State) (t : State) (e : execShiftDone ticks s = .next t) [Named P .regs] [Named P .rtc] [Named P .free] : Foot P s t := by
  have h : Foot P s s := Foot.refl s
  unfold execShiftDone at e
  try extract_lets at e
  first | refine next_foot ?_ e | refine need_foot ?_ e
  all_goals repeat' first
    | with_reducible assumption | with_reducible apply rtcElapse_foot | with_reducible apply fresh_foot | with_reducible apply foldl_foot
    | with_reducible apply ite_foot | intro _ | split | contradiction | dsimp only

theorem execDstForward_foot (s : State) (t : State) (e : execDstForward s = .next t) [Named P .regs] [Named P .rtc] : Foot P s t := by
  have h : Foot P s s := Foot.refl s
  unfold execDstForward at e
  try extract_lets at e
  first | refine next_foot ?_ e | refine need_foot ?_ e
  all_goals repeat' first
    | with_reducible assumption | with_reducible apply dstWrite_foot | with_reducible apply fresh_foot | with_reducible apply foldl_foot
    | with_reducible apply ite_foot | intro _ | split | contradiction | dsimp only

theorem execDstBack_foot (s : State) (t : State) (e : execDstBack s = .next t) [Named P .regs] [Named P .rtc] : Foot P s t := by
  have h : Foot P s s := Foot.refl s
  unfold execDstBack at e
  try extract_lets at e
  first | refine next_foot ?_ e | refine need_foot ?_ e
  all_goals repeat' first
    | with_reducible assumption | with_reducible apply dstWrite_foot | with_reducible apply fresh_foot | with_reducible apply foldl_foot
    | with_reducible apply ite_foot | intro _ | split | contradiction | dsimp only

theorem execLocalTimeApply_foot (ticks : Nat) (s : State) (t : State) (e : execLocalTimeApply ticks s = .next t) [Named P .regs] [Named P .rtc] [Named P .free] : Foot P s t := by
  have h : Foot P s s := Foot.refl s
  unfold execLocalTimeApply at e
  try extract_lets at e
  first | refine next_foot ?_ e | refine need_foot ?_ e
  all_goals repeat' first
    | with_reducible assumption | with_reducible apply rtcElapse_foot | with_reducible apply fresh_foot | with_reducible apply foldl_foot
    | with_reducible apply ite_foot | intro _ | split | contradiction | dsimp only

theorem execAlarmArm_foot (v : U32) (ticks : Nat) (s : State) (t : State) (e : execAlarmArm v ticks s = .next t) [Named P .regs] [Named P .rtc] [Named P .free] : Foot P s t := by
  have h : Foot P s s := Foot.refl s
  unfold execAlarmArm at e
  try extract_lets at e
  first | refine next_foot ?_ e | refine need_foot ?_ e
  all_goals repeat' first
    | with_reducible assumption | with_reducible apply almCtl_foot | with_reducible apply rtcElapse_foot | with_reducible apply fresh_foot
    | with_reducible apply foldl_foot | with_reducible apply ite_foot | intro _ | split | contradiction | dsimp only

theorem execAlarmDisarm_foot (v : U32) (s : State) (t : State) (e : execAlarmDisarm v s = .next t) [Named P .regs] : Foot P s t := by
  have h : Foot P s s := Foot.refl s
  unfold execAlarmDisarm at e
  try extract_lets at e
  first | refine next_foot ?_ e | refine need_foot ?_ e
  all_goals repeat' first
    | with_reducible assumption | with_reducible apply almCtl_foot | with_reducible apply fresh_foot | with_reducible apply foldl_foot
    | with_reducible apply ite_foot | intro _ | split | contradiction | dsimp only

theorem execRtcAlarmFire_foot (ticks : Nat) (s : State) (t : State) (e : execRtcAlarmFire ticks s = .next t) [Named P .regs] [Named P .rtc] [Named P .free] : Foot P s t := by
  have h : Foot P s s := Foot.refl s
  unfold execRtcAlarmFire at e
  try extract_lets at e
  first | refine next_foot ?_ e | refine need_foot ?_ e
  all_goals repeat' first
    | with_reducible assumption | with_reducible apply rtcElapse_foot | with_reducible apply fresh_foot | with_reducible apply foldl_foot
    | with_reducible apply ite_foot | intro _ | split | contradiction | dsimp only

theorem execWakeEnable_foot (v : U32) (s : State) (t : State) (e : execWakeEnable v s = .next t) [Named P .regs] [Named P .rtc] : Foot P s t := by
  have h : Foot P s s := Foot.refl s
  unfold execWakeEnable at e
  try extract_lets at e
  first | refine next_foot ?_ e | refine need_foot ?_ e
  all_goals repeat' first
    | with_reducible assumption | with_reducible apply wakeCtl_foot | with_reducible apply fresh_foot | with_reducible apply foldl_foot
    | with_reducible apply ite_foot | intro _ | split | contradiction | dsimp only

theorem execRtcWake_foot (ticks : Nat) (s : State) (t : State) (e : execRtcWake ticks s = .next t) [Named P .regs] [Named P .rtc] [Named P .free] : Foot P s t := by
  have h : Foot P s s := Foot.refl s
  unfold execRtcWake at e
  try extract_lets at e
  first | refine next_foot ?_ e | refine need_foot ?_ e
  all_goals repeat' first
    | with_reducible assumption | with_reducible apply rtcElapse_foot | with_reducible apply fresh_foot | with_reducible apply foldl_foot
    | with_reducible apply ite_foot | intro _ | split | contradiction | dsimp only

theorem execRtcFracRead_foot (ticks : Nat) (s : State) (t : State) (e : execRtcFracRead ticks s = .next t) [Named P .regs] [Named P .rtc] [Named P .hostRead] [Named P .free] : Foot P s t := by
  have h : Foot P s s := Foot.refl s
  unfold execRtcFracRead at e
  try extract_lets at e
  first | refine next_foot ?_ e | refine need_foot ?_ e
  all_goals repeat' first
    | with_reducible assumption | with_reducible apply fracRead_foot | with_reducible apply rtcElapse_foot | with_reducible apply fresh_foot
    | with_reducible apply foldl_foot | with_reducible apply ite_foot | intro _ | split | contradiction | dsimp only

theorem execRtcSecHiRead_foot (ticks : Nat) (s : State) (t : State) (e : execRtcSecHiRead ticks s = .next t) [Named P .regs] [Named P .rtc] [Named P .hostRead] [Named P .free] : Foot P s t := by
  have h : Foot P s s := Foot.refl s
  unfold execRtcSecHiRead at e
  try extract_lets at e
  first | refine next_foot ?_ e | refine need_foot ?_ e
  all_goals repeat' first
    | with_reducible assumption | with_reducible apply secHiRead_foot | with_reducible apply rtcElapse_foot | with_reducible apply fresh_foot
    | with_reducible apply foldl_foot | with_reducible apply ite_foot | intro _ | split | contradiction | dsimp only

theorem execShadowFreezeTimeout_foot (who : ShadowId) (s : State) (t : State) (e : execShadowFreezeTimeout who s = .next t) [Named P .rtc] : Foot P s t := by
  have h : Foot P s s := Foot.refl s
  unfold execShadowFreezeTimeout at e
  try extract_lets at e
  first | refine next_foot ?_ e | refine need_foot ?_ e
  all_goals repeat' first
    | with_reducible assumption | with_reducible apply updRtc_foot | with_reducible apply fresh_foot | with_reducible apply foldl_foot
    | with_reducible apply ite_foot | intro _ | split | contradiction | dsimp only

theorem execLegRtcSecRead_foot (ticks : Nat) (s : State) (t : State) (e : execLegRtcSecRead ticks s = .next t) [Named P .regs] [Named P .rtc] [Named P .hostRead] [Named P .free] : Foot P s t := by
  have h : Foot P s s := Foot.refl s
  unfold execLegRtcSecRead at e
  try extract_lets at e
  first | refine next_foot ?_ e | refine need_foot ?_ e
  all_goals repeat' first
    | with_reducible assumption | with_reducible apply legSecRead_foot | with_reducible apply rtcElapse_foot | with_reducible apply fresh_foot
    | with_reducible apply foldl_foot | with_reducible apply ite_foot | intro _ | split | contradiction | dsimp only

theorem execLegRtcYearRead_foot (ticks : Nat) (s : State) (t : State) (e : execLegRtcYearRead ticks s = .next t) [Named P .regs] [Named P .rtc] [Named P .hostRead] [Named P .free] : Foot P s t := by
  have h : Foot P s s := Foot.refl s
  unfold execLegRtcYearRead at e
  try extract_lets at e
  first | refine next_foot ?_ e | refine need_foot ?_ e
  all_goals repeat' first
    | with_reducible assumption | with_reducible apply legYearRead_foot | with_reducible apply rtcElapse_foot | with_reducible apply fresh_foot
    | with_reducible apply foldl_foot | with_reducible apply ite_foot | intro _ | split | contradiction | dsimp only

theorem execLegRtcSet_foot (s : State) (t : State) (e : execLegRtcSet s = .next t) [Named P .regs] [Named P .rtc] : Foot P s t := by
  have h : Foot P s s := Foot.refl s
  unfold execLegRtcSet at e
  try extract_lets at e
  first | refine next_foot ?_ e | refine need_foot ?_ e
  all_goals repeat' first
    | with_reducible assumption | with_reducible apply legSet_foot | with_reducible apply fresh_foot | with_reducible apply foldl_foot
    | with_reducible apply ite_foot | intro _ | split | contradiction | dsimp only

theorem execRtcTrickleWrite_foot (w : TrickleWrite) (s : State) (t : State) (e : execRtcTrickleWrite w s = .next t) [Named P .regs] [Named P .rtc] : Foot P s t := by
  have h : Foot P s s := Foot.refl s
  unfold execRtcTrickleWrite at e
  try extract_lets at e
  first | refine next_foot ?_ e | refine need_foot ?_ e
  all_goals repeat' first
    | with_reducible assumption | with_reducible apply fresh_foot | with_reducible apply cellGoesHigh_foot | with_reducible apply cellLevel_foot
    | with_reducible apply trickleWrite_foot | with_reducible apply foldl_foot | with_reducible apply ite_foot | intro _ | split | contradiction
    | dsimp only

theorem execCellTypeHigh_foot (s : State) (t : State) (e : execCellTypeHigh s = .next t) [Named P .regs] [Named P .rtc] : Foot P s t := by
  have h : Foot P s s := Foot.refl s
  unfold execCellTypeHigh at e
  try extract_lets at e
  first | refine next_foot ?_ e | refine need_foot ?_ e
  all_goals repeat' first
    | with_reducible assumption | with_reducible apply cellGoesHigh_foot | with_reducible apply fresh_foot | with_reducible apply foldl_foot
    | with_reducible apply ite_foot | intro _ | split | contradiction | dsimp only

theorem execOscStop_foot (s : State) (t : State) (e : execOscStop s = .next t) [Named P .regs] [Named P .latch] [Named P .hold] [Named P .rtc] : Foot P s t := by
  have h : Foot P s s := Foot.refl s
  unfold execOscStop at e
  try extract_lets at e
  first | refine next_foot ?_ e | refine need_foot ?_ e
  all_goals repeat' first
    | with_reducible assumption | with_reducible apply backupLost_foot | with_reducible apply fresh_foot | with_reducible apply foldl_foot
    | with_reducible apply ite_foot | intro _ | split | contradiction | dsimp only

theorem execPanelFlip_foot (img : Image) (s : State) (t : State) (e : execPanelFlip img s = .next t) [Named P .regs] [Named P .tarn] [Named P .hif] [Named P .panel] [Named P .gecko] : Foot P s t := by
  have h : Foot P s s := Foot.refl s
  unfold execPanelFlip at e
  try extract_lets at e
  first | refine next_foot ?_ e | refine need_foot ?_ e
  all_goals repeat' first
    | with_reducible assumption | with_reducible apply dirCmd_foot | with_reducible apply fresh_foot | with_reducible apply panelFlip_foot
    | with_reducible apply foldl_foot | with_reducible apply ite_foot | intro _ | split | contradiction | dsimp only

theorem execPanelFrameBoundary_foot (s : State) (t : State) (e : execPanelFrameBoundary s = .next t) [Named P .regs] [Named P .hif] [Named P .panel] : Foot P s t := by
  have h : Foot P s s := Foot.refl s
  unfold execPanelFrameBoundary at e
  try extract_lets at e
  first | refine next_foot ?_ e | refine need_foot ?_ e
  all_goals repeat' first
    | with_reducible assumption | with_reducible apply frame_foot | with_reducible apply fresh_foot | with_reducible apply foldl_foot
    | with_reducible apply ite_foot | intro _ | split | contradiction | dsimp only

theorem execPanelTempUpdate_foot (p : PanelTemp) (s : State) (t : State) (e : execPanelTempUpdate p s = .next t) [Named P .regs] [Named P .panel] [Named P .free] : Foot P s t := by
  have h : Foot P s s := Foot.refl s
  unfold execPanelTempUpdate at e
  try extract_lets at e
  first | refine next_foot ?_ e | refine need_foot ?_ e
  all_goals repeat' first
    | with_reducible assumption | with_reducible apply panelTemp_foot | with_reducible apply fresh_foot | with_reducible apply foldl_foot
    | with_reducible apply ite_foot | intro _ | split | contradiction | dsimp only

theorem execVppFault_foot (s : State) (t : State) (e : execVppFault s = .next t) [Named P .regs] [Named P .panel] : Foot P s t := by
  have h : Foot P s s := Foot.refl s
  unfold execVppFault at e
  try extract_lets at e
  first | refine next_foot ?_ e | refine need_foot ?_ e
  all_goals repeat' first
    | with_reducible assumption | with_reducible apply fresh_foot | with_reducible apply raise_foot | with_reducible apply bump_foot
    | with_reducible apply updPanel_foot | with_reducible apply foldl_foot | with_reducible apply ite_foot | intro _ | split | contradiction
    | dsimp only

theorem execVppRetry_foot (s : State) (t : State) (e : execVppRetry s = .next t) [Named P .panel] : Foot P s t := by
  have h : Foot P s s := Foot.refl s
  unfold execVppRetry at e
  try extract_lets at e
  first | refine next_foot ?_ e | refine need_foot ?_ e
  all_goals repeat' first
    | with_reducible assumption | with_reducible apply updPanel_foot | with_reducible apply fresh_foot | with_reducible apply foldl_foot
    | with_reducible apply ite_foot | intro _ | split | contradiction | dsimp only

theorem execAlarmListRedraw_foot (ticks : Nat) (s : State) (t : State) (e : execAlarmListRedraw ticks s = .next t) [Named P .regs] [Named P .tarn] [Named P .rtc] [Named P .panel] [Named P .gecko] [Named P .free] : Foot P s t := by
  have h : Foot P s s := Foot.refl s
  unfold execAlarmListRedraw at e
  try extract_lets at e
  first | refine next_foot ?_ e | refine need_foot ?_ e
  all_goals repeat' first
    | with_reducible assumption | with_reducible apply redraw_foot | with_reducible apply rtcElapse_foot | with_reducible apply fresh_foot
    | with_reducible apply foldl_foot | with_reducible apply ite_foot | intro _ | split | contradiction | dsimp only

theorem execBurnInShift_foot (s : State) (t : State) (e : execBurnInShift s = .next t) [Named P .panel] : Foot P s t := by
  have h : Foot P s s := Foot.refl s
  unfold execBurnInShift at e
  try extract_lets at e
  first | refine next_foot ?_ e | refine need_foot ?_ e
  all_goals repeat' first
    | with_reducible assumption | with_reducible apply fresh_foot | with_reducible apply updPanel_foot | with_reducible apply foldl_foot
    | with_reducible apply ite_foot | intro _ | split | contradiction | dsimp only

theorem execPnlSenseChange_foot (high : Bool) (s : State) (t : State) (e : execPnlSenseChange high s = .next t) [Named P .regs] [Named P .panel] : Foot P s t := by
  have h : Foot P s s := Foot.refl s
  unfold execPnlSenseChange at e
  try extract_lets at e
  first | refine next_foot ?_ e | refine need_foot ?_ e
  all_goals repeat' first
    | with_reducible assumption | with_reducible apply fresh_foot | with_reducible apply emitOut_foot | with_reducible apply updPanel_foot
    | with_reducible apply raise_foot | with_reducible apply foldl_foot | with_reducible apply ite_foot | intro _ | split | contradiction | dsimp only

theorem execPowerGoodRise_foot (env : BootEnv) (s : State) (t : State) (e : execPowerGoodRise env s = .next t) [Named P .regs] [Named P .latch] [Named P .hold] [Named P .tarn] [Named P .inlet] [Named P .aeA] [Named P .aeB] [Named P .outlet] [Named P .hif] [Named P .skink] [Named P .spawn] [Named P .fe] [Named P .dio] [Named P .can] [Named P .canWalk] [Named P .ws] [Named P .rtc] [Named P .panel] [Named P .nvm] [Named P .upd] [Named P .gecko] [Named P .behavBoot] [Named P .free] : Foot P s t := by
  have h : Foot P s s := Foot.refl s
  unfold execPowerGoodRise at e
  try extract_lets at e
  first | refine next_foot ?_ e | refine need_foot ?_ e
  all_goals repeat' first
    | with_reducible assumption | with_reducible apply boot_foot | with_reducible apply fresh_foot | with_reducible apply foldl_foot
    | with_reducible apply ite_foot | intro _ | split | contradiction | dsimp only

theorem execPowerGoodFall_foot (f : PowerFall) (s : State) (t : State) (e : execPowerGoodFall f s = .next t) [Named P .regs] [Named P .latch] [Named P .hold] [Named P .tarn] [Named P .inlet] [Named P .aeA] [Named P .aeB] [Named P .outlet] [Named P .hif] [Named P .skink] [Named P .spawn] [Named P .fe] [Named P .dio] [Named P .can] [Named P .canWalk] [Named P .ws] [Named P .rtc] [Named P .panel] [Named P .nvm] [Named P .upd] [Named P .gecko] [Named P .free] : Foot P s t := by
  have h : Foot P s s := Foot.refl s
  unfold execPowerGoodFall at e
  try extract_lets at e
  first | refine next_foot ?_ e | refine need_foot ?_ e
  all_goals repeat' first
    | with_reducible assumption | with_reducible apply powerFall_foot | with_reducible apply fresh_foot | with_reducible apply foldl_foot
    | with_reducible apply ite_foot | intro _ | split | contradiction | dsimp only

theorem execLogicInputChange_foot (lvA : U16) (lvB : U16) (s : State) (t : State) (e : execLogicInputChange lvA lvB s = .next t) [Named P .regs] : Foot P s t := by
  have h : Foot P s s := Foot.refl s
  unfold execLogicInputChange at e
  try extract_lets at e
  first | refine next_foot ?_ e | refine need_foot ?_ e
  all_goals repeat' first
    | with_reducible assumption | with_reducible apply setReg_foot | with_reducible apply fresh_foot | with_reducible apply foldl_foot
    | with_reducible apply ite_foot | intro _ | split | contradiction | dsimp only

theorem execCtrlWatchdog_foot (s : State) (t : State) (e : execCtrlWatchdog s = .next t) [Named P .regs] [Named P .latch] [Named P .hold] [Named P .tarn] [Named P .inlet] [Named P .aeA] [Named P .aeB] [Named P .outlet] [Named P .hif] [Named P .skink] [Named P .spawn] [Named P .fe] [Named P .dio] [Named P .can] [Named P .canWalk] [Named P .ws] [Named P .panel] [Named P .nvm] [Named P .upd] [Named P .gecko] : Foot P s t := by
  have h : Foot P s s := Foot.refl s
  unfold execCtrlWatchdog at e
  try extract_lets at e
  first | refine next_foot ?_ e | refine need_foot ?_ e
  all_goals repeat' first
    | with_reducible assumption | with_reducible apply restart_foot | with_reducible apply fresh_foot | with_reducible apply foldl_foot
    | with_reducible apply ite_foot | intro _ | split | contradiction | dsimp only

theorem execLockstepMismatch_foot (s : State) (t : State) (e : execLockstepMismatch s = .next t) [Named P .regs] [Named P .inlet] [Named P .outlet] [Named P .hif] [Named P .spawn] [Named P .fe] [Named P .dio] [Named P .can] [Named P .canWalk] [Named P .gecko] : Foot P s t := by
  have h : Foot P s s := Foot.refl s
  unfold execLockstepMismatch at e
  try extract_lets at e
  first | refine next_foot ?_ e | refine need_foot ?_ e
  all_goals repeat' first
    | with_reducible assumption | with_reducible apply fresh_foot | with_reducible apply haltNode_foot | with_reducible apply foldl_foot
    | with_reducible apply ite_foot | intro _ | split | contradiction | dsimp only

theorem execStartRun_foot (vecA : Bool) (vecB : Bool) (dt : Nat) (s : State) (t : State) (e : execStartRun vecA vecB dt s = .next t) [Named P .regs] [Named P .inlet] [Named P .aeA] [Named P .aeB] [Named P .outlet] [Named P .hif] [Named P .skink] [Named P .spawn] [Named P .fe] [Named P .dio] [Named P .can] [Named P .canWalk] [Named P .ws] [Named P .gecko] : Foot P s t := by
  have h : Foot P s s := Foot.refl s
  unfold execStartRun at e
  try extract_lets at e
  first | refine next_foot ?_ e | refine need_foot ?_ e
  all_goals repeat' first
    | with_reducible assumption | with_reducible apply startNow_foot | with_reducible apply pass_foot | with_reducible apply fresh_foot
    | with_reducible apply foldl_foot | with_reducible apply ite_foot | intro _ | split | contradiction | dsimp only

theorem execStopRun_foot (s : State) (t : State) (e : execStopRun s = .next t) [Named P .regs] [Named P .tarn] [Named P .inlet] [Named P .aeA] [Named P .aeB] [Named P .outlet] [Named P .hif] [Named P .skink] [Named P .spawn] [Named P .fe] [Named P .dio] [Named P .can] [Named P .canWalk] [Named P .ws] [Named P .gecko] [Named P .free] : Foot P s t := by
  have h : Foot P s s := Foot.refl s
  unfold execStopRun at e
  try extract_lets at e
  first | refine next_foot ?_ e | refine need_foot ?_ e
  all_goals repeat' first
    | with_reducible assumption | with_reducible apply stopNow_foot | with_reducible apply fresh_foot | with_reducible apply foldl_foot
    | with_reducible apply ite_foot | intro _ | split | contradiction | dsimp only

theorem execResetNode_foot (s : State) (t : State) (e : execResetNode s = .next t) [Named P .regs] [Named P .latch] [Named P .hold] [Named P .tarn] [Named P .inlet] [Named P .aeA] [Named P .aeB] [Named P .outlet] [Named P .hif] [Named P .skink] [Named P .spawn] [Named P .fe] [Named P .dio] [Named P .can] [Named P .canWalk] [Named P .ws] [Named P .panel] [Named P .nvm] [Named P .upd] [Named P .gecko] : Foot P s t := by
  have h : Foot P s s := Foot.refl s
  unfold execResetNode at e
  try extract_lets at e
  first | refine next_foot ?_ e | refine need_foot ?_ e
  all_goals repeat' first
    | with_reducible assumption | with_reducible apply restart_foot | with_reducible apply fresh_foot | with_reducible apply foldl_foot
    | with_reducible apply ite_foot | intro _ | split | contradiction | dsimp only

theorem execCommission_foot (ticks : Nat) (s : State) (t : State) (e : execCommission ticks s = .next t) [Named P .regs] [Named P .rtc] [Named P .nvm] [Named P .gecko] [Named P .free] : Foot P s t := by
  have h : Foot P s s := Foot.refl s
  unfold execCommission at e
  try extract_lets at e
  first | refine next_foot ?_ e | refine need_foot ?_ e
  all_goals repeat' first
    | with_reducible assumption | with_reducible apply commissionNow_foot | with_reducible apply rtcElapse_foot | with_reducible apply fresh_foot
    | with_reducible apply foldl_foot | with_reducible apply ite_foot | intro _ | split | contradiction | dsimp only

theorem execVerifyCfg_foot (s : State) (t : State) (e : execVerifyCfg s = .next t) [Named P .regs] : Foot P s t := by
  have h : Foot P s s := Foot.refl s
  unfold execVerifyCfg at e
  try extract_lets at e
  first | refine next_foot ?_ e | refine need_foot ?_ e
  all_goals repeat' first
    | with_reducible assumption | with_reducible apply verifyNow_foot | with_reducible apply fresh_foot | with_reducible apply foldl_foot
    | with_reducible apply ite_foot | intro _ | split | contradiction | dsimp only

theorem execAcceptSlot_foot (s : State) (t : State) (e : execAcceptSlot s = .next t) [Named P .regs] [Named P .nvm] [Named P .gecko] : Foot P s t := by
  have h : Foot P s s := Foot.refl s
  unfold execAcceptSlot at e
  try extract_lets at e
  first | refine next_foot ?_ e | refine need_foot ?_ e
  all_goals repeat' first
    | with_reducible assumption | with_reducible apply acceptNow_foot | with_reducible apply fresh_foot | with_reducible apply foldl_foot
    | with_reducible apply ite_foot | intro _ | split | contradiction | dsimp only

theorem execSsBypass_foot (s : State) (t : State) (e : execSsBypass s = .next t) [Named P .regs] : Foot P s t := by
  have h : Foot P s s := Foot.refl s
  unfold execSsBypass at e
  try extract_lets at e
  first | refine next_foot ?_ e | refine need_foot ?_ e
  all_goals repeat' first
    | with_reducible assumption | with_reducible apply bypassNow_foot | with_reducible apply fresh_foot | with_reducible apply foldl_foot
    | with_reducible apply ite_foot | intro _ | split | contradiction | dsimp only

theorem execMgmtFmodeWrite_foot (v : U32) (s : State) (t : State) (e : execMgmtFmodeWrite v s = .next t) [Named P .regs] [Named P .tarn] [Named P .outlet] [Named P .gecko] : Foot P s t := by
  have h : Foot P s s := Foot.refl s
  unfold execMgmtFmodeWrite at e
  try extract_lets at e
  first | refine next_foot ?_ e | refine need_foot ?_ e
  all_goals repeat' first
    | with_reducible assumption | with_reducible apply fmodeWrite_foot | with_reducible apply fresh_foot | with_reducible apply foldl_foot
    | with_reducible apply ite_foot | intro _ | split | contradiction | dsimp only

theorem execMgmtIntRearm_foot (_v : U32) (s : State) (t : State) (e : execMgmtIntRearm _v s = .next t) [Named P .regs] : Foot P s t := by
  have h : Foot P s s := Foot.refl s
  unfold execMgmtIntRearm at e
  try extract_lets at e
  first | refine next_foot ?_ e | refine need_foot ?_ e
  all_goals repeat' first
    | with_reducible assumption | with_reducible apply fromSetup_foot | with_reducible apply fresh_foot | with_reducible apply intRearm_foot
    | with_reducible apply foldl_foot | with_reducible apply ite_foot | intro _ | split | contradiction | dsimp only

theorem execMgmtIntEnWrite_foot (v : U32) (s : State) (t : State) (e : execMgmtIntEnWrite v s = .next t) [Named P .regs] : Foot P s t := by
  have h : Foot P s s := Foot.refl s
  unfold execMgmtIntEnWrite at e
  try extract_lets at e
  first | refine next_foot ?_ e | refine need_foot ?_ e
  all_goals repeat' first
    | with_reducible assumption | with_reducible apply fromSetup_foot | with_reducible apply fresh_foot | with_reducible apply intEnWrite_foot
    | with_reducible apply foldl_foot | with_reducible apply ite_foot | intro _ | split | contradiction | dsimp only

theorem execUpdBegin_foot (s : State) (t : State) (e : execUpdBegin s = .next t) [Named P .regs] [Named P .hif] [Named P .nvm] [Named P .upd] [Named P .gecko] : Foot P s t := by
  have h : Foot P s s := Foot.refl s
  unfold execUpdBegin at e
  try extract_lets at e
  first | refine next_foot ?_ e | refine need_foot ?_ e
  all_goals repeat' first
    | with_reducible assumption | with_reducible apply dirCmd_foot | with_reducible apply fresh_foot | with_reducible apply updBegin_foot
    | with_reducible apply foldl_foot | with_reducible apply ite_foot | intro _ | split | contradiction | dsimp only

theorem execUpdStatus_foot (writeOk : Bool) (s : State) (t : State) (e : execUpdStatus writeOk s = .next t) [Named P .regs] [Named P .hif] : Foot P s t := by
  have h : Foot P s s := Foot.refl s
  unfold execUpdStatus at e
  try extract_lets at e
  first | refine next_foot ?_ e | refine need_foot ?_ e
  all_goals repeat' first
    | with_reducible assumption | with_reducible apply dirCmd_foot | with_reducible apply fresh_foot | with_reducible apply updStatus_foot
    | with_reducible apply foldl_foot | with_reducible apply ite_foot | intro _ | split | contradiction | dsimp only

theorem execUpdVerify_foot (s : State) (t : State) (e : execUpdVerify s = .next t) [Named P .regs] [Named P .hif] [Named P .nvm] [Named P .upd] [Named P .gecko] : Foot P s t := by
  have h : Foot P s s := Foot.refl s
  unfold execUpdVerify at e
  try extract_lets at e
  first | refine next_foot ?_ e | refine need_foot ?_ e
  all_goals repeat' first
    | with_reducible assumption | with_reducible apply dirCmd_foot | with_reducible apply fresh_foot | with_reducible apply updVerify_foot
    | with_reducible apply foldl_foot | with_reducible apply ite_foot | intro _ | split | contradiction | dsimp only

theorem execUpdActivate_foot (s : State) (t : State) (e : execUpdActivate s = .next t) [Named P .regs] [Named P .inlet] [Named P .aeA] [Named P .aeB] [Named P .outlet] [Named P .hif] [Named P .skink] [Named P .fe] [Named P .dio] [Named P .can] [Named P .nvm] [Named P .upd] [Named P .gecko] : Foot P s t := by
  have h : Foot P s s := Foot.refl s
  unfold execUpdActivate at e
  try extract_lets at e
  first | refine next_foot ?_ e | refine need_foot ?_ e
  all_goals repeat' first
    | with_reducible assumption | with_reducible apply fresh_foot | with_reducible apply dirCmd_foot | with_reducible apply updActivate_foot
    | with_reducible apply foldl_foot | with_reducible apply ite_foot | intro _ | split | contradiction | dsimp only

theorem execUpdConfirm_foot (s : State) (t : State) (e : execUpdConfirm s = .next t) [Named P .regs] [Named P .hif] [Named P .nvm] [Named P .upd] [Named P .gecko] [Named P .free] : Foot P s t := by
  have h : Foot P s s := Foot.refl s
  unfold execUpdConfirm at e
  try extract_lets at e
  first | refine next_foot ?_ e | refine need_foot ?_ e
  all_goals repeat' first
    | with_reducible assumption | with_reducible apply dirCmd_foot | with_reducible apply fresh_foot | with_reducible apply updConfirm_foot
    | with_reducible apply foldl_foot | with_reducible apply ite_foot | intro _ | split | contradiction | dsimp only

theorem execUpdAbandon_foot (s : State) (t : State) (e : execUpdAbandon s = .next t) [Named P .regs] [Named P .latch] [Named P .hold] [Named P .tarn] [Named P .inlet] [Named P .aeA] [Named P .aeB] [Named P .outlet] [Named P .hif] [Named P .skink] [Named P .spawn] [Named P .fe] [Named P .dio] [Named P .can] [Named P .canWalk] [Named P .ws] [Named P .panel] [Named P .nvm] [Named P .upd] [Named P .gecko] : Foot P s t := by
  have h : Foot P s s := Foot.refl s
  unfold execUpdAbandon at e
  try extract_lets at e
  first | refine next_foot ?_ e | refine need_foot ?_ e
  all_goals repeat' first
    | with_reducible assumption | with_reducible apply dirCmd_foot | with_reducible apply fresh_foot | with_reducible apply updAbandon_foot
    | with_reducible apply foldl_foot | with_reducible apply ite_foot | intro _ | split | contradiction | dsimp only

theorem execUpdPieceReceived_foot (data : Image) (s : State) (t : State) (e : execUpdPieceReceived data s = .next t) [Named P .regs] [Named P .hif] [Named P .upd] : Foot P s t := by
  have h : Foot P s s := Foot.refl s
  unfold execUpdPieceReceived at e
  try extract_lets at e
  first | refine next_foot ?_ e | refine need_foot ?_ e
  all_goals repeat' first
    | with_reducible assumption | with_reducible apply pieceReceived_foot | with_reducible apply fresh_foot | with_reducible apply foldl_foot
    | with_reducible apply ite_foot | intro _ | split | contradiction | dsimp only

theorem execPieceStored_foot (p : Nat) (readbackOk : Bool) (s : State) (t : State) (e : execPieceStored p readbackOk s = .next t) [Named P .regs] [Named P .nvm] [Named P .upd] : Foot P s t := by
  have h : Foot P s s := Foot.refl s
  unfold execPieceStored at e
  try extract_lets at e
  first | refine next_foot ?_ e | refine need_foot ?_ e
  all_goals repeat' first
    | with_reducible assumption | with_reducible apply storePiece_foot | with_reducible apply fresh_foot | with_reducible apply foldl_foot
    | with_reducible apply ite_foot | intro _ | split | contradiction | dsimp only

theorem execActivationComplete_foot (pauseUs : Nat) (s : State) (t : State) (e : execActivationComplete pauseUs s = .next t) [Named P .regs] [Named P .aeA] [Named P .aeB] [Named P .hif] [Named P .spawn] [Named P .fe] [Named P .dio] [Named P .ws] [Named P .upd] [Named P .gecko] : Foot P s t := by
  have h : Foot P s s := Foot.refl s
  unfold execActivationComplete at e
  try extract_lets at e
  first | refine next_foot ?_ e | refine need_foot ?_ e
  all_goals repeat' first
    | with_reducible assumption | with_reducible apply activated_foot | with_reducible apply fresh_foot | with_reducible apply foldl_foot
    | with_reducible apply ite_foot | intro _ | split | contradiction | dsimp only

theorem execActivationTimeout_foot (s : State) (t : State) (e : execActivationTimeout s = .next t) [Named P .regs] [Named P .latch] [Named P .hold] [Named P .tarn] [Named P .inlet] [Named P .aeA] [Named P .aeB] [Named P .outlet] [Named P .hif] [Named P .skink] [Named P .spawn] [Named P .fe] [Named P .dio] [Named P .can] [Named P .canWalk] [Named P .ws] [Named P .panel] [Named P .nvm] [Named P .upd] [Named P .gecko] : Foot P s t := by
  have h : Foot P s s := Foot.refl s
  unfold execActivationTimeout at e
  try extract_lets at e
  first | refine next_foot ?_ e | refine need_foot ?_ e
  all_goals repeat' first
    | with_reducible assumption | with_reducible apply notActivated_foot | with_reducible apply fresh_foot | with_reducible apply foldl_foot
    | with_reducible apply ite_foot | intro _ | split | contradiction | dsimp only

theorem execTrialWarn_foot (s : State) (t : State) (e : execTrialWarn s = .next t) [Named P .regs] [Named P .upd] : Foot P s t := by
  have h : Foot P s s := Foot.refl s
  unfold execTrialWarn at e
  try extract_lets at e
  first | refine next_foot ?_ e | refine need_foot ?_ e
  all_goals repeat' first
    | with_reducible assumption | with_reducible apply trialWarn_foot | with_reducible apply fresh_foot | with_reducible apply foldl_foot
    | with_reducible apply ite_foot | intro _ | split | contradiction | dsimp only

theorem execTrialTimeout_foot (s : State) (t : State) (e : execTrialTimeout s = .next t) [Named P .regs] [Named P .latch] [Named P .hold] [Named P .tarn] [Named P .inlet] [Named P .aeA] [Named P .aeB] [Named P .outlet] [Named P .hif] [Named P .skink] [Named P .spawn] [Named P .fe] [Named P .dio] [Named P .can] [Named P .canWalk] [Named P .ws] [Named P .panel] [Named P .nvm] [Named P .upd] [Named P .gecko] : Foot P s t := by
  have h : Foot P s s := Foot.refl s
  unfold execTrialTimeout at e
  try extract_lets at e
  first | refine next_foot ?_ e | refine need_foot ?_ e
  all_goals repeat' first
    | with_reducible assumption | with_reducible apply trialOver_foot | with_reducible apply fresh_foot | with_reducible apply foldl_foot
    | with_reducible apply ite_foot | intro _ | split | contradiction | dsimp only

theorem execSettingsConversionDone_foot (s : State) (t : State) (e : execSettingsConversionDone s = .next t) [Named P .nvm] [Named P .upd] [Named P .gecko] : Foot P s t := by
  have h : Foot P s s := Foot.refl s
  unfold execSettingsConversionDone at e
  try extract_lets at e
  first | refine next_foot ?_ e | refine need_foot ?_ e
  all_goals repeat' first
    | with_reducible assumption | with_reducible apply converted_foot | with_reducible apply fresh_foot | with_reducible apply foldl_foot
    | with_reducible apply ite_foot | intro _ | split | contradiction | dsimp only

theorem execSettingsConversionFail_foot (s : State) (t : State) (e : execSettingsConversionFail s = .next t) [Named P .regs] [Named P .latch] [Named P .hold] [Named P .tarn] [Named P .inlet] [Named P .aeA] [Named P .aeB] [Named P .outlet] [Named P .hif] [Named P .skink] [Named P .spawn] [Named P .fe] [Named P .dio] [Named P .can] [Named P .canWalk] [Named P .ws] [Named P .panel] [Named P .nvm] [Named P .upd] [Named P .gecko] : Foot P s t := by
  have h : Foot P s s := Foot.refl s
  unfold execSettingsConversionFail at e
  try extract_lets at e
  first | refine next_foot ?_ e | refine need_foot ?_ e
  all_goals repeat' first
    | with_reducible assumption | with_reducible apply notConverted_foot | with_reducible apply fresh_foot | with_reducible apply foldl_foot
    | with_reducible apply ite_foot | intro _ | split | contradiction | dsimp only

theorem execKeyProgram_foot (s : State) (t : State) (e : execKeyProgram s = .next t) [Named P .regs] [Named P .nvm] : Foot P s t := by
  have h : Foot P s s := Foot.refl s
  unfold execKeyProgram at e
  try extract_lets at e
  first | refine next_foot ?_ e | refine need_foot ?_ e
  all_goals repeat' first
    | with_reducible assumption | with_reducible apply keyProgram_foot | with_reducible apply fresh_foot | with_reducible apply foldl_foot
    | with_reducible apply ite_foot | intro _ | split | contradiction | dsimp only

theorem execKeyProgrammed_foot (s : State) (t : State) (e : execKeyProgrammed s = .next t) [Named P .regs] [Named P .nvm] [Named P .upd] : Foot P s t := by
  have h : Foot P s s := Foot.refl s
  unfold execKeyProgrammed at e
  try extract_lets at e
  first | refine next_foot ?_ e | refine need_foot ?_ e
  all_goals repeat' first
    | with_reducible assumption | with_reducible apply keyDone_foot | with_reducible apply fresh_foot | with_reducible apply foldl_foot
    | with_reducible apply ite_foot | intro _ | split | contradiction | dsimp only

theorem execReplayStart_foot (s : State) (t : State) (e : execReplayStart s = .next t) [Named P .regs] [Named P .inlet] [Named P .aeA] [Named P .aeB] [Named P .outlet] [Named P .hif] [Named P .skink] [Named P .spawn] [Named P .fe] [Named P .dio] [Named P .can] [Named P .canWalk] [Named P .gecko] : Foot P s t := by
  have h : Foot P s s := Foot.refl s
  unfold execReplayStart at e
  try extract_lets at e
  first | refine next_foot ?_ e | refine need_foot ?_ e
  all_goals repeat' first
    | with_reducible assumption | with_reducible apply dirCmd_foot | with_reducible apply fresh_foot | with_reducible apply replayStart_foot
    | with_reducible apply foldl_foot | with_reducible apply ite_foot | intro _ | split | contradiction | dsimp only

theorem execReplayStop_foot (s : State) (t : State) (e : execReplayStop s = .next t) [Named P .regs] [Named P .inlet] [Named P .aeA] [Named P .aeB] [Named P .outlet] [Named P .hif] [Named P .skink] [Named P .spawn] [Named P .dio] [Named P .gecko] : Foot P s t := by
  have h : Foot P s s := Foot.refl s
  unfold execReplayStop at e
  try extract_lets at e
  first | refine next_foot ?_ e | refine need_foot ?_ e
  all_goals repeat' first
    | with_reducible assumption | with_reducible apply dirCmd_foot | with_reducible apply fresh_foot | with_reducible apply replayStop_foot
    | with_reducible apply foldl_foot | with_reducible apply ite_foot | intro _ | split | contradiction | dsimp only

theorem execReplayBuffer_foot (data : Image) (s : State) (t : State) (e : execReplayBuffer data s = .next t) [Named P .regs] [Named P .tarn] [Named P .inlet] [Named P .aeA] [Named P .aeB] [Named P .outlet] [Named P .hif] [Named P .spawn] [Named P .gecko] : Foot P s t := by
  have h : Foot P s s := Foot.refl s
  unfold execReplayBuffer at e
  try extract_lets at e
  first | refine next_foot ?_ e | refine need_foot ?_ e
  all_goals repeat' first
    | with_reducible assumption | with_reducible apply rpBuffer_foot | with_reducible apply fresh_foot | with_reducible apply foldl_foot
    | with_reducible apply ite_foot | intro _ | split | contradiction | dsimp only

theorem execReplayCheckpointCompare_foot (s : State) (t : State) (e : execReplayCheckpointCompare s = .next t) [Named P .regs] [Named P .tarn] [Named P .inlet] [Named P .aeA] [Named P .aeB] [Named P .outlet] [Named P .hif] [Named P .skink] [Named P .spawn] [Named P .fe] [Named P .dio] [Named P .can] [Named P .canWalk] [Named P .gecko] : Foot P s t := by
  have h : Foot P s s := Foot.refl s
  unfold execReplayCheckpointCompare at e
  try extract_lets at e
  first | refine next_foot ?_ e | refine need_foot ?_ e
  all_goals repeat' first
    | with_reducible assumption | with_reducible apply rpCompare_foot | with_reducible apply fresh_foot | with_reducible apply foldl_foot
    | with_reducible apply ite_foot | intro _ | split | contradiction | dsimp only

theorem execReplayDone_foot (s : State) (t : State) (e : execReplayDone s = .next t) [Named P .regs] : Foot P s t := by
  have h : Foot P s s := Foot.refl s
  unfold execReplayDone at e
  try extract_lets at e
  first | refine next_foot ?_ e | refine need_foot ?_ e
  all_goals repeat' first
    | with_reducible assumption | with_reducible apply rpEnd_foot | with_reducible apply fresh_foot | with_reducible apply foldl_foot
    | with_reducible apply ite_foot | intro _ | split | contradiction | dsimp only

theorem execRegisterWrite_foot (off : Off) (v : U32) (s : State) (t : State) (e : execRegisterWrite off v s = .next t) [Named P .regs] [Named P .latch] [Named P .hold] [Named P .tarn] [Named P .inlet] [Named P .aeA] [Named P .aeB] [Named P .outlet] [Named P .hif] [Named P .skink] [Named P .spawn] [Named P .fe] [Named P .dio] [Named P .can] [Named P .canWalk] [Named P .ws] [Named P .rtc] [Named P .panel] [Named P .nvm] [Named P .upd] [Named P .gecko] [Named P .hostRead] [Named P .free] : Foot P s t := by
  have h : Foot P s s := Foot.refl s
  unfold execRegisterWrite at e
  try extract_lets at e
  first | refine next_foot ?_ e | refine need_foot ?_ e
  all_goals repeat' first
    | with_reducible assumption | with_reducible apply fresh_foot | with_reducible apply writeReg_foot | with_reducible apply badRequest_foot
    | with_reducible apply foldl_foot | with_reducible apply ite_foot | intro _ | split | contradiction | dsimp only

theorem execBadAccess_foot (kind : BadAccess) (s : State) (t : State) (e : execBadAccess kind s = .next t) [Named P .regs] [Named P .latch] [Named P .outlet] [Named P .ws] [Named P .rtc] [Named P .hostRead] : Foot P s t := by
  have h : Foot P s s := Foot.refl s
  unfold execBadAccess at e
  try extract_lets at e
  first | refine next_foot ?_ e | refine need_foot ?_ e
  all_goals repeat' first
    | with_reducible assumption | with_reducible apply badRequest_foot | with_reducible apply fresh_foot | with_reducible apply foldl_foot
    | with_reducible apply ite_foot | intro _ | split | contradiction | dsimp only

theorem execWidePairLoRead_foot (off : Off) (dt : Nat) (s : State) (t : State) (e : execWidePairLoRead off dt s = .next t) [Named P .regs] [Named P .latch] [Named P .outlet] [Named P .hif] [Named P .spawn] [Named P .dio] [Named P .ws] [Named P .rtc] [Named P .gecko] [Named P .hostRead] : Foot P s t := by
  have h : Foot P s s := Foot.refl s
  unfold execWidePairLoRead at e
  try extract_lets at e
  first | refine next_foot ?_ e | refine need_foot ?_ e
  all_goals repeat' first
    | with_reducible assumption | with_reducible apply pass_foot | with_reducible apply fresh_foot | with_reducible apply readWord_foot
    | with_reducible apply badRequest_foot | with_reducible apply foldl_foot | with_reducible apply ite_foot | intro _ | split | contradiction
    | dsimp only

theorem execTarnWindowWrite_foot (off : Off) (data : List Byte) (s : State) (t : State) (e : execTarnWindowWrite off data s = .next t) [Named P .regs] [Named P .tarn] [Named P .gecko] : Foot P s t := by
  have h : Foot P s s := Foot.refl s
  unfold execTarnWindowWrite at e
  try extract_lets at e
  first | refine next_foot ?_ e | refine need_foot ?_ e
  all_goals repeat' first
    | with_reducible assumption | with_reducible apply windowWrite_foot | with_reducible apply fresh_foot | with_reducible apply foldl_foot
    | with_reducible apply ite_foot | intro _ | split | contradiction | dsimp only

end Sys2Proof.Machine
end

