-- ==== Sys2Proof/Laws/Keeps.lean ====
section
/-! SUPPORT. Every operation of the machine keeps the invariant `State.Inv` and leaves the queue of waiting commands alone: one lemma per operation, stated so that they chain. -/

set_option Elab.async false
set_option linter.unusedTactic false
set_option linter.unreachableTactic false

namespace Sys2Proof.Machine

/-- The parts of a state that the invariant and the queue speak of, against a state `r` before: the queue is `r`'s, and the invariant holds if it held of `r`. -/
structure KeepsOf (r : State) (pending : List Instr) (tarn : Sparse Byte) (regs : Sparse U32) (waiting : List (Nat × InRec))
    (rot : Nat) (legFifo : List (List U32)) (bufs : List (Nat × List Byte)) (behav : Nat)
    (gens0 gens1 : List Generation) (saving : Option Generation) : Prop where
  pending : pending = r.pending
  inv : r.Inv → InvOf tarn regs waiting rot legFifo bufs behav gens0 gens1 saving

/-- `t` comes from `r` with the queue untouched and the invariant kept. -/
abbrev Keeps (r t : State) : Prop :=
  KeepsOf r t.pending t.tarn t.regs t.inlet.waiting t.inlet.rot t.outlet.legFifo t.upd.bufs t.behavBoot
    t.nvm.set0.gens t.nvm.set1.gens t.gecko.saving

theorem Keeps.refl (r : State) : Keeps r r := ⟨rfl, id⟩

variable {r : State}

theorem Keeps.trans {s t : State} (h : Keeps r s) (k : Keeps s t) : Keeps r t :=
  ⟨k.pending.trans h.pending, fun i => k.inv (h.inv i)⟩

theorem foldl_keeps {α : Type} (g : State → α → State) (hg : ∀ s x, Keeps r s → Keeps r (g s x)) (l : List α) (s : State)
    (h : Keeps r s) : Keeps r (l.foldl g s) := by
  induction l generalizing s with
  | nil => exact h
  | cons x l ih => exact ih _ (hg s x h)

theorem ite_keeps (c : Prop) [Decidable c] (a b : State) (ha : c → Keeps r a) (hb : ¬c → Keeps r b) :
    Keeps r (if c then a else b) := by
  split
  · exact ha ‹_›
  · exact hb ‹_›

/-! ## The primitive changes -/

theorem setReg_keeps (s : State) (o : Off) (v : U32) (h : Keeps r s) : Keeps r (s.setReg o v) :=
  ⟨h.pending, fun i => { h.inv i with regs := Sparse.rising_insert _ o v (h.inv i).regs (Nat.zero_le o) }⟩

theorem offer_credits (w : List (Nat × InRec)) (q : Nat) (x : InRec)
    (hw : ∀ pl c, placeCredit pl = some c → (w.filter (fun w => w.1 == pl)).length ≤ c)
    (hq : ∀ c, placeCredit q = some c → (w.filter (fun w => w.1 == q)).length < c) (pl c : Nat) (hc : placeCredit pl = some c) :
    ((w ++ [(q, x)]).filter (fun w => w.1 == pl)).length ≤ c := by
  by_cases e : q = pl
  · subst e; have := hq c hc; simp; omega
  · have := hw pl c hc; simp [e]; exact this

theorem sublist_credits {w v : List (Nat × InRec)} (h : v.Sublist w)
    (hw : ∀ pl c, placeCredit pl = some c → (w.filter (fun w => w.1 == pl)).length ≤ c) (pl c : Nat) (hc : placeCredit pl = some c) :
    (v.filter (fun w => w.1 == pl)).length ≤ c :=
  Nat.le_trans (h.filter _).length_le (hw pl c hc)

theorem takePlace_sublist (q : Nat) : ∀ (w : List (Nat × InRec)) (x : InRec) (v : List (Nat × InRec)),
    takePlace q w = some (x, v) → v.Sublist w := by
  intro w
  induction w with
  | nil => intro x v h; simp [takePlace] at h
  | cons a w ih =>
    intro x v h
    simp only [takePlace] at h
    split at h
    · simp only [Option.some.injEq, Prod.mk.injEq] at h; rw [← h.2]; exact List.sublist_cons_self a w
    · cases e : takePlace q w with
      | none => simp [e] at h
      | some y =>
        simp only [e, Option.map_some, Option.some.injEq, Prod.mk.injEq] at h
        rw [← h.2]
        exact (ih y.1 y.2 e).cons_cons a

theorem mergeStatus_places (pay : U64) (cause : Nat) : ∀ (w v : List (Nat × InRec)),
    mergeStatus pay cause w = some v → v.map Prod.fst = w.map Prod.fst := by
  intro w
  induction w with
  | nil => intro v h; simp [mergeStatus] at h
  | cons a w ih =>
    intro v h
    obtain ⟨pl, x⟩ := a
    simp only [mergeStatus] at h
    split at h
    · simp only [Option.some.injEq] at h; rw [← h]; rfl
    · cases e : mergeStatus pay cause w with
      | none => simp [e] at h
      | some y => simp only [e, Option.map_some, Option.some.injEq] at h; rw [← h]; simp [ih y e]

theorem filter_place_length (w : List (Nat × InRec)) (pl : Nat) :
    (w.filter (fun w => w.1 == pl)).length = ((w.map Prod.fst).filter (fun x => x == pl)).length := by
  induction w with
  | nil => rfl
  | cons a w ih => simp only [List.filter_cons, List.map_cons]; split <;> simp_all

theorem newest_mem (l : List Generation) (best : Option Generation) (g : Generation)
    (e : l.foldl (fun best g => match best with | none => some g | some b => if b.seq < g.seq then some g else some b) best
      = some g) : g ∈ l ∨ best = some g := by
  induction l generalizing best with
  | nil => exact .inr e
  | cons x l ih =>
    rw [List.foldl_cons] at e
    rcases ih _ e with hm | hb
    · exact .inl (List.mem_cons_of_mem _ hm)
    · split at hb
      · simp only [Option.some.injEq] at hb; exact .inl (hb ▸ List.mem_cons_self)
      · split at hb
        · simp only [Option.some.injEq] at hb; exact .inl (hb ▸ List.mem_cons_self)
        · exact .inr hb

theorem base_mem (t : Settings) (g : Generation) (e : t.base = some g) : g ∈ t.gens := by
  rcases newest_mem _ _ _ e with h | h
  · exact (List.mem_filter.mp h).1
  · simp at h

theorem active_gens (s : State) (i : s.Inv) (g : Generation) (hg : g ∈ s.active.gens) : Sparse.wf 0 g.tarn = true := by
  refine i.gens g ?_
  unfold State.active Nvm.region at hg
  split at hg
  · exact .inl hg
  · exact .inr (.inl hg)

theorem setRegFld_keeps (s : State) (o : Off) (lo : Nat) (n : Nat) (x : Nat) (h : Keeps r s) : Keeps r (State.setRegFld s o lo n x) := by
  unfold State.setRegFld
  try extract_lets
  repeat' first
    | with_reducible assumption | with_reducible apply setReg_keeps | with_reducible apply foldl_keeps | with_reducible apply ite_keeps | intro _
    | split | contradiction | dsimp only

theorem setRegBit_keeps (s : State) (o : Off) (i : Nat) (b : Bool) (h : Keeps r s) : Keeps r (State.setRegBit s o i b) := by
  unfold State.setRegBit
  try extract_lets
  repeat' first
    | with_reducible assumption | with_reducible apply setRegFld_keeps | with_reducible apply foldl_keeps | with_reducible apply ite_keeps | intro _
    | split | contradiction | dsimp only

theorem setPair_keeps (s : State) (lo : Off) (hi : Off) (v : U64) (h : Keeps r s) : Keeps r (State.setPair s lo hi v) := by
  unfold State.setPair
  try extract_lets
  repeat' first
    | with_reducible assumption | with_reducible apply setReg_keeps | with_reducible apply foldl_keeps | with_reducible apply ite_keeps | intro _
    | split | contradiction | dsimp only

theorem fresh_keeps (s : State) (h : Keeps r s) : Keeps r (State.fresh s) := by
  unfold State.fresh
  try extract_lets
  repeat' first
    | with_reducible assumption | with_reducible apply foldl_keeps | with_reducible apply ite_keeps | intro _ | split | contradiction | dsimp only

theorem emitOut_keeps (s : State) (o : Output) (h : Keeps r s) : Keeps r (State.emitOut s o) := by
  unfold State.emitOut
  try extract_lets
  repeat' first
    | with_reducible assumption | with_reducible apply foldl_keeps | with_reducible apply ite_keeps | intro _ | split | contradiction | dsimp only

theorem draw_keeps (s : State) (h : Keeps r s) : Keeps r (State.draw s).2 := by
  unfold State.draw
  try extract_lets
  repeat' first
    | with_reducible assumption | with_reducible apply foldl_keeps | with_reducible apply ite_keeps | intro _ | split | contradiction | dsimp only

theorem sendVector_keeps (s : State) (v : Nat) (h : Keeps r s) : Keeps r (State.sendVector s v) := by
  unfold State.sendVector
  try extract_lets
  repeat' first
    | with_reducible assumption | with_reducible apply setRegBit_keeps | with_reducible apply emitOut_keeps | with_reducible apply foldl_keeps
    | with_reducible apply ite_keeps | intro _ | split | contradiction | dsimp only

theorem hifMessage_keeps (s : State) (h : Keeps r s) : Keeps r (State.hifMessage s) := by
  unfold State.hifMessage
  try extract_lets
  repeat' first
    | with_reducible assumption | with_reducible apply sendVector_keeps | with_reducible apply foldl_keeps | with_reducible apply ite_keeps | intro _
    | split | contradiction | dsimp only

theorem summarise_keeps (before : State) (after : State) (h : Keeps r after) : Keeps r (State.summarise before after) := by
  unfold State.summarise
  try extract_lets
  repeat' first
    | with_reducible assumption | with_reducible apply hifMessage_keeps | with_reducible apply foldl_keeps | with_reducible apply ite_keeps | intro _
    | split | contradiction | dsimp only

theorem raise_keeps (s : State) (o : Off) (m : Nat) (h : Keeps r s) : Keeps r (State.raise s o m) := by
  unfold State.raise
  try extract_lets
  repeat' first
    | with_reducible assumption | with_reducible apply setReg_keeps | with_reducible apply hifMessage_keeps | with_reducible apply summarise_keeps
    | with_reducible apply foldl_keeps | with_reducible apply ite_keeps | intro _ | split | contradiction | dsimp only

theorem bumpBy_keeps (s : State) (o : Off) (n : Nat) (h : Keeps r s) : Keeps r (State.bumpBy s o n) := by
  unfold State.bumpBy
  try extract_lets
  repeat' first
    | with_reducible assumption | with_reducible apply setReg_keeps | with_reducible apply foldl_keeps | with_reducible apply ite_keeps | intro _
    | split | contradiction | dsimp only

theorem bump_keeps (s : State) (o : Off) (h : Keeps r s) : Keeps r (State.bump s o) := by
  unfold State.bump
  try extract_lets
  repeat' first
    | with_reducible assumption | with_reducible apply bumpBy_keeps | with_reducible apply foldl_keeps | with_reducible apply ite_keeps | intro _
    | split | contradiction | dsimp only

theorem recordMax_keeps (s : State) (o : Off) (n : Nat) (h : Keeps r s) : Keeps r (State.recordMax s o n) := by
  unfold State.recordMax
  try extract_lets
  repeat' first
    | with_reducible assumption | with_reducible apply setReg_keeps | with_reducible apply foldl_keeps | with_reducible apply ite_keeps | intro _
    | split | contradiction | dsimp only

theorem ignored_keeps (s : State) (o : Off) (reason : Nat) (tarn : Bool) (h : Keeps r s) : Keeps r (State.ignored s o reason tarn) := by
  unfold State.ignored
  try extract_lets
  repeat' first
    | with_reducible assumption | with_reducible apply bump_keeps | with_reducible apply setReg_keeps | with_reducible apply raise_keeps
    | with_reducible apply foldl_keeps | with_reducible apply ite_keeps | intro _ | split | contradiction | dsimp only

theorem setMgmt_keeps (s : State) (st : Nat) (h : Keeps r s) : Keeps r (State.setMgmt s st) := by
  unfold State.setMgmt
  try extract_lets
  repeat' first
    | with_reducible assumption | with_reducible apply raise_keeps | with_reducible apply setRegFld_keeps | with_reducible apply foldl_keeps
    | with_reducible apply ite_keeps | intro _ | split | contradiction | dsimp only

theorem endContinuous_keeps (s : State) (h : Keeps r s) : Keeps r (State.endContinuous s) := by
  unfold State.endContinuous
  try extract_lets
  repeat' first
    | with_reducible assumption | with_reducible apply setRegFld_keeps | with_reducible apply foldl_keeps | with_reducible apply ite_keeps | intro _
    | split | contradiction | dsimp only

theorem updLane_keeps (s : State) (n : Nat) (f : Lane → Lane) (h : Keeps r s) : Keeps r (State.updLane s n f) := by
  unfold State.updLane
  try extract_lets
  repeat' first
    | with_reducible assumption | with_reducible apply foldl_keeps | with_reducible apply ite_keeps | intro _ | split | contradiction | dsimp only

theorem restSource_keeps (s : State) (k : Nat) (h : Keeps r s) : Keeps r (State.restSource s k) := by
  unfold State.restSource
  try extract_lets
  repeat' first
    | with_reducible assumption | with_reducible apply setReg_keeps | with_reducible apply foldl_keeps | with_reducible apply ite_keeps | intro _
    | split | contradiction | dsimp only

theorem restSources_keeps (s : State) (h : Keeps r s) : Keeps r (State.restSources s) := by
  unfold State.restSources
  try extract_lets
  repeat' first
    | with_reducible assumption | with_reducible apply restSource_keeps | with_reducible apply foldl_keeps | with_reducible apply ite_keeps | intro _
    | split | contradiction | dsimp only

theorem lanesEnd_keeps (s : State) (f : Lane → Lane) (h : Keeps r s) : Keeps r (State.lanesEnd s f) := by
  unfold State.lanesEnd
  try extract_lets
  repeat' first
    | with_reducible assumption | with_reducible apply restSources_keeps | with_reducible apply updLane_keeps | with_reducible apply foldl_keeps
    | with_reducible apply ite_keeps | intro _ | split | contradiction | dsimp only

theorem requestsEnd_keeps (s : State) (h : Keeps r s) : Keeps r (State.requestsEnd s) := by
  unfold State.requestsEnd
  try extract_lets
  repeat' first
    | with_reducible assumption | with_reducible apply setPair_keeps | with_reducible apply foldl_keeps | with_reducible apply ite_keeps | intro _
    | split | contradiction | dsimp only

theorem regsFilter_keeps (s t : State) (p : Nat × U32 → Bool) (h : Keeps r s)
    (ht : Keeps r { t with regs := s.regs }) (e : t.regs = s.regs.filter p) : Keeps r t :=
  ⟨ht.pending, fun i => { ht.inv i with regs := by rw [e]; exact Sparse.rising_filter _ p (h.inv i).regs }⟩

theorem tarnWrite_keeps (s : State) (o : Nat) (bs : List Byte) (h : Keeps r s) : Keeps r (s.tarnWrite o bs) :=
  ⟨h.pending, fun i => { h.inv i with tarn := Sparse.wf_write bs _ o (h.inv i).tarn }⟩

theorem rewritten_keeps (s : State) (hit : Nat → Nat → Bool) (h : Keeps r s) : Keeps r (State.rewritten s hit) := by
  unfold State.rewritten
  try extract_lets
  repeat' first
    | with_reducible assumption | with_reducible apply foldl_keeps | with_reducible apply ite_keeps | intro _ | split | contradiction | dsimp only

theorem lineWritten_keeps (s : State) (o : Nat) (n : Nat) (h : Keeps r s) : Keeps r (State.lineWritten s o n) := by
  unfold State.lineWritten
  try extract_lets
  repeat' first
    | with_reducible assumption | with_reducible apply rewritten_keeps | with_reducible apply foldl_keeps | with_reducible apply ite_keeps | intro _
    | split | contradiction | dsimp only

theorem clearUe_keeps (s : State) (o : Nat) (n : Nat) (h : Keeps r s) : Keeps r (State.clearUe s o n) := by
  unfold State.clearUe
  try extract_lets
  repeat' first
    | with_reducible assumption | with_reducible apply lineWritten_keeps | with_reducible apply foldl_keeps | with_reducible apply ite_keeps | intro _
    | split | contradiction | dsimp only

theorem statesWritten_keeps (s : State) (h : Keeps r s) : Keeps r (State.statesWritten s) := by
  unfold State.statesWritten
  try extract_lets
  repeat' first
    | with_reducible assumption | with_reducible apply rewritten_keeps | with_reducible apply foldl_keeps | with_reducible apply ite_keeps | intro _
    | split | contradiction | dsimp only

theorem tarnStore_keeps (s : State) (o : Nat) (bs : List Byte) (h : Keeps r s) : Keeps r (State.tarnStore s o bs) := by
  unfold State.tarnStore
  try extract_lets
  repeat' first
    | with_reducible assumption | with_reducible apply clearUe_keeps | with_reducible apply tarnWrite_keeps | with_reducible apply foldl_keeps
    | with_reducible apply ite_keeps | intro _ | split | contradiction | dsimp only

theorem setEng_keeps (s : State) (e : EngineId) (x : Engine) (h : Keeps r s) : Keeps r (State.setEng s e x) := by
  unfold State.setEng
  try extract_lets
  repeat' first
    | with_reducible assumption | with_reducible apply foldl_keeps | with_reducible apply ite_keeps | intro _ | split | contradiction | dsimp only

theorem updEng_keeps (s : State) (e : EngineId) (f : Engine → Engine) (h : Keeps r s) : Keeps r (State.updEng s e f) := by
  unfold State.updEng
  try extract_lets
  repeat' first
    | with_reducible assumption | with_reducible apply setEng_keeps | with_reducible apply foldl_keeps | with_reducible apply ite_keeps | intro _
    | split | contradiction | dsimp only

theorem bumpView_keeps (s : State) (e : EngineId) (o : Off) (h : Keeps r s) : Keeps r (State.bumpView s e o) := by
  unfold State.bumpView
  try extract_lets
  repeat' first
    | with_reducible assumption | with_reducible apply bump_keeps | with_reducible apply foldl_keeps | with_reducible apply ite_keeps | intro _
    | split | contradiction | dsimp only

theorem setHostIdx_keeps (s : State) (n : Nat) (i : U32) (h : Keeps r s) : Keeps r (State.setHostIdx s n i) := by
  unfold State.setHostIdx
  try extract_lets
  repeat' first
    | with_reducible assumption | with_reducible apply foldl_keeps | with_reducible apply ite_keeps | intro _ | split | contradiction | dsimp only

theorem report_keeps (s : State) (n : Nat) (now : Bool) (h : Keeps r s) : Keeps r (State.report s n now) := by
  unfold State.report
  try extract_lets
  repeat' first
    | with_reducible assumption | with_reducible apply sendVector_keeps | with_reducible apply foldl_keeps | with_reducible apply ite_keeps | intro _
    | split | contradiction | dsimp only

theorem advanceRing_keeps (s : State) (n : Nat) (now : Bool) (h : Keeps r s) : Keeps r (State.advanceRing s n now) := by
  unfold State.advanceRing
  try extract_lets
  repeat' first
    | with_reducible assumption | with_reducible apply bump_keeps | with_reducible apply setReg_keeps | with_reducible apply emitOut_keeps
    | with_reducible apply report_keeps | with_reducible apply foldl_keeps | with_reducible apply ite_keeps | intro _ | split | contradiction
    | dsimp only

theorem postEntry_keeps (s : State) (n : Nat) (data : List Byte) (now : Bool) (h : Keeps r s) : Keeps r (State.postEntry s n data now) := by
  unfold State.postEntry
  try extract_lets
  repeat' first
    | with_reducible assumption | with_reducible apply advanceRing_keeps | with_reducible apply emitOut_keeps | with_reducible apply foldl_keeps
    | with_reducible apply ite_keeps | intro _ | split | contradiction | dsimp only

theorem ringLoss_keeps (s : State) (n : Nat) (h : Keeps r s) : Keeps r (State.ringLoss s n) := by
  unfold State.ringLoss
  try extract_lets
  repeat' first
    | with_reducible assumption | with_reducible apply bump_keeps | with_reducible apply foldl_keeps | with_reducible apply ite_keeps | intro _
    | split | contradiction | dsimp only

theorem postLossy_keeps (s : State) (n : Nat) (data : List Byte) (h : Keeps r s) : Keeps r (State.postLossy s n data) := by
  unfold State.postLossy
  try extract_lets
  repeat' first
    | with_reducible assumption | with_reducible apply postEntry_keeps | with_reducible apply ringLoss_keeps | with_reducible apply foldl_keeps
    | with_reducible apply ite_keeps | intro _ | split | contradiction | dsimp only

theorem ringError_keeps (s : State) (n : Nat) (code : Nat) (h : Keeps r s) : Keeps r (State.ringError s n code) := by
  unfold State.ringError
  try extract_lets
  repeat' first
    | with_reducible assumption | with_reducible apply setRegFld_keeps | with_reducible apply setRegBit_keeps | with_reducible apply raise_keeps
    | with_reducible apply bump_keeps | with_reducible apply foldl_keeps | with_reducible apply ite_keeps | intro _ | split | contradiction
    | dsimp only

theorem postBuffer_keeps (s : State) (n : Nat) (addr : Option Nat) (desc : List Byte) (data : List Byte) (h : Keeps r s) : Keeps r (State.postBuffer s n addr desc data) := by
  unfold State.postBuffer
  try extract_lets
  repeat' first
    | with_reducible assumption | with_reducible apply emitOut_keeps | with_reducible apply ringError_keeps | with_reducible apply advanceRing_keeps
    | with_reducible apply foldl_keeps | with_reducible apply ite_keeps | intro _ | split | contradiction | dsimp only

theorem readBuffer_keeps (s : State) (desc : List Byte) (h : Keeps r s) : Keeps r (State.readBuffer s desc) := by
  unfold State.readBuffer
  try extract_lets
  repeat' first
    | with_reducible assumption | with_reducible apply emitOut_keeps | with_reducible apply foldl_keeps | with_reducible apply ite_keeps | intro _
    | split | contradiction | dsimp only

theorem consume_keeps (s : State) (n : Nat) (h : Keeps r s) : Keeps r (State.consume s n) := by
  unfold State.consume
  try extract_lets
  repeat' first
    | with_reducible assumption | with_reducible apply advanceRing_keeps | with_reducible apply foldl_keeps | with_reducible apply ite_keeps | intro _
    | split | contradiction | dsimp only

theorem takeSsn_keeps (s : State) (src : U16) (h : Keeps r s) : Keeps r (State.takeSsn s src).2 := by
  unfold State.takeSsn
  try extract_lets
  repeat' first
    | with_reducible assumption | with_reducible apply foldl_keeps | with_reducible apply ite_keeps | intro _ | split | contradiction | dsimp only

theorem overrun_keeps (s : State) (pl : Nat) (h : Keeps r s) : Keeps r (State.overrun s pl) := by
  unfold State.overrun
  try extract_lets
  repeat' first
    | with_reducible assumption | with_reducible apply raise_keeps | with_reducible apply bump_keeps | with_reducible apply foldl_keeps
    | with_reducible apply ite_keeps | intro _ | split | contradiction | dsimp only

theorem offer_keeps (s : State) (q : Nat) (x : InRec) (h : Keeps r s) : Keeps r (s.offer q x) := by
  unfold State.offer State.takeSsn
  dsimp only
  split
  · next hc =>
    refine ⟨h.pending, fun i => { h.inv i with credits := offer_credits _ q _ (h.inv i).credits ?_ }⟩
    intro c hq
    simpa [State.hasCredit, hq] using hc
  · exact overrun_keeps _ q ⟨h.pending, fun i => { h.inv i with }⟩

theorem markLoss_keeps (s : State) (src : U16) (h : Keeps r s) : Keeps r (State.markLoss s src) := by
  unfold State.markLoss
  try extract_lets
  repeat' first
    | with_reducible assumption | with_reducible apply foldl_keeps | with_reducible apply ite_keeps | intro _ | split | contradiction | dsimp only

theorem complete_keeps (s : State) (tag : U32) (irq : Bool) (opcode : Nat) (status : Nat) (result : U64) (h : Keeps r s) : Keeps r (State.complete s tag irq opcode status result) := by
  unfold State.complete
  try extract_lets
  repeat' first
    | with_reducible assumption | with_reducible apply foldl_keeps | with_reducible apply ite_keeps | intro _ | split | contradiction | dsimp only

theorem defer_keeps (s : State) (tag : U32) (irq : Bool) (opcode : Nat) (h : Keeps r s) : Keeps r (State.defer s tag irq opcode) := by
  unfold State.defer
  try extract_lets
  repeat' first
    | with_reducible assumption | with_reducible apply foldl_keeps | with_reducible apply ite_keeps | intro _ | split | contradiction | dsimp only

theorem finish_keeps (s : State) (tag : U32) (irq : Bool) (opcode : Nat) (status : Nat) (result : U64) (h : Keeps r s) : Keeps r (State.finish s tag irq opcode status result) := by
  unfold State.finish
  try extract_lets
  repeat' first
    | with_reducible assumption | with_reducible apply complete_keeps | with_reducible apply foldl_keeps | with_reducible apply ite_keeps | intro _
    | split | contradiction | dsimp only

theorem closeRunning_keeps (s : State) (r1 : Running) (h : Keeps r s) : Keeps r (State.closeRunning s r1) := by
  unfold State.closeRunning
  try extract_lets
  repeat' first
    | with_reducible assumption | with_reducible apply emitOut_keeps | with_reducible apply complete_keeps | with_reducible apply foldl_keeps
    | with_reducible apply ite_keeps | intro _ | split | contradiction | dsimp only

theorem fromSetup_keeps (s : State) (o : Off) (reason : Nat) (f : State → State) (h : Keeps r s) (h_f : ∀ t, Keeps r t → Keeps r (f t)) : Keeps r (State.fromSetup s o reason f) := by
  unfold State.fromSetup
  try extract_lets
  repeat' first
    | with_reducible assumption | with_reducible apply h_f | with_reducible apply ignored_keeps | with_reducible apply foldl_keeps
    | with_reducible apply ite_keeps | intro _ | split | contradiction | dsimp only

theorem updNvm_keeps (s : State) (f : Nvm → Nvm) (h : Keeps r s)
    (hf : ∀ v : Nvm, (f v).set0.gens = v.set0.gens ∧ (f v).set1.gens = v.set1.gens) : Keeps r (s.updNvm f) :=
  ⟨h.pending, fun i => { h.inv i with gens := fun g hg => (h.inv i).gens g (by simpa [State.updNvm, (hf s.nvm).1, (hf s.nvm).2] using hg) }⟩

theorem updRegion_wf (s : State) (k : Nat) (f : Settings → Settings) (h : Keeps r s)
    (hf : r.Inv → ∀ t : Settings, (∀ g ∈ t.gens, Sparse.wf 0 g.tarn = true) → ∀ g ∈ (f t).gens, Sparse.wf 0 g.tarn = true) :
    Keeps r (s.updRegion k f) := by
  refine ⟨h.pending, fun i => { h.inv i with gens := ?_ }⟩
  intro g hg
  simp only [State.updRegion, State.updNvm] at hg
  split at hg
  · rcases hg with hg | hg | hg
    · exact hf i _ (fun y hy => (h.inv i).gens y (.inl hy)) g hg
    · exact (h.inv i).gens g (.inr (.inl hg))
    · exact (h.inv i).gens g (.inr (.inr hg))
  · rcases hg with hg | hg | hg
    · exact (h.inv i).gens g (.inl hg)
    · exact hf i _ (fun y hy => (h.inv i).gens y (.inr (.inl hy))) g hg
    · exact (h.inv i).gens g (.inr (.inr hg))

theorem updRegion_keeps (s : State) (k : Nat) (f : Settings → Settings) (h : Keeps r s)
    (hf : ∀ (t : Settings) (g : Generation), g ∈ (f t).gens → g ∈ t.gens) : Keeps r (s.updRegion k f) := by
  refine ⟨h.pending, fun i => { h.inv i with gens := ?_ }⟩
  intro g hg
  refine (h.inv i).gens g ?_
  simp only [State.updRegion, State.updNvm] at hg
  split at hg
  · exact hg.imp_left (hf _ _)
  · exact hg.imp_right (fun k => k.imp_left (hf _ _))

theorem saveQuota_keeps (s : State) (f : Quotas → Quotas) (h : Keeps r s) : Keeps r (State.saveQuota s f) := by
  unfold State.saveQuota
  try extract_lets
  repeat' first
    | with_reducible assumption | with_reducible apply updRegion_keeps | with_reducible exact fun _ _ h => h | with_reducible apply foldl_keeps
    | with_reducible apply ite_keeps | intro _ | split | contradiction | dsimp only

theorem setCap_keeps (s : State) (c : Nat) (h : Keeps r s) : Keeps r (State.setCap s c) := by
  unfold State.setCap
  try extract_lets
  repeat' first
    | with_reducible assumption | with_reducible apply setRegFld_keeps | with_reducible apply foldl_keeps | with_reducible apply ite_keeps | intro _
    | split | contradiction | dsimp only

theorem updSpawn_keeps (s : State) (f : Spawn → Spawn) (h : Keeps r s) : Keeps r (State.updSpawn s f) := by
  unfold State.updSpawn
  try extract_lets
  repeat' first
    | with_reducible assumption | with_reducible apply foldl_keeps | with_reducible apply ite_keeps | intro _ | split | contradiction | dsimp only

theorem ringPut_keeps (s : State) (rec : List Byte) (h : Keeps r s) : Keeps r (State.ringPut s rec) := by
  unfold State.ringPut
  try extract_lets
  repeat' first
    | with_reducible assumption | with_reducible apply lineWritten_keeps | with_reducible apply updSpawn_keeps | with_reducible apply setPair_keeps
    | with_reducible apply foldl_keeps | with_reducible apply ite_keeps | intro _ | split | contradiction | dsimp only

theorem countPost_keeps (s : State) (n : Nat) (h : Keeps r s) : Keeps r (State.countPost s n) := by
  unfold State.countPost
  try extract_lets
  repeat' first
    | with_reducible assumption | with_reducible apply updSpawn_keeps | with_reducible apply foldl_keeps | with_reducible apply ite_keeps | intro _
    | split | contradiction | dsimp only

theorem journal_keeps (s : State) (rec : List Byte) (h : Keeps r s) : Keeps r (State.journal s rec) := by
  unfold State.journal
  try extract_lets
  repeat' first
    | with_reducible assumption | with_reducible apply countPost_keeps | with_reducible apply updSpawn_keeps | with_reducible apply ringPut_keeps
    | with_reducible apply foldl_keeps | with_reducible apply ite_keeps | intro _ | split | contradiction | dsimp only

theorem trigger_keeps (s : State) (isn : U64) (h : Keeps r s) : Keeps r (State.trigger s isn) := by
  unfold State.trigger
  try extract_lets
  repeat' first
    | with_reducible assumption | with_reducible apply bump_keeps | with_reducible apply setPair_keeps | with_reducible apply updSpawn_keeps
    | with_reducible apply raise_keeps | with_reducible apply setCap_keeps | with_reducible apply foldl_keeps | with_reducible apply ite_keeps
    | intro _ | split | contradiction | dsimp only

theorem tmoTrigger_keeps (s : State) (k : Nat) (h : Keeps r s) : Keeps r (State.tmoTrigger s k) := by
  unfold State.tmoTrigger
  try extract_lets
  repeat' first
    | with_reducible assumption | with_reducible apply trigger_keeps | with_reducible apply foldl_keeps | with_reducible apply ite_keeps | intro _
    | split | contradiction | dsimp only

theorem updTmo_keeps (s : State) (k : Nat) (f : Tmo → Tmo) (h : Keeps r s) : Keeps r (State.updTmo s k f) := by
  unfold State.updTmo
  try extract_lets
  repeat' first
    | with_reducible assumption | with_reducible apply foldl_keeps | with_reducible apply ite_keeps | intro _ | split | contradiction | dsimp only

theorem tmoPin_keeps (s : State) (k : Nat) (h : Keeps r s) : Keeps r (State.tmoPin s k) := by
  unfold State.tmoPin
  try extract_lets
  repeat' first
    | with_reducible assumption | with_reducible apply emitOut_keeps | with_reducible apply foldl_keeps | with_reducible apply ite_keeps | intro _
    | split | contradiction | dsimp only

theorem pulse_keeps (s : State) (k : Nat) (h : Keeps r s) : Keeps r (State.pulse s k) := by
  unfold State.pulse
  try extract_lets
  repeat' first
    | with_reducible assumption | with_reducible apply updTmo_keeps | with_reducible apply tmoTrigger_keeps | with_reducible apply tmoPin_keeps
    | with_reducible apply bump_keeps | with_reducible apply foldl_keeps | with_reducible apply ite_keeps | intro _ | split | contradiction
    | dsimp only

theorem tmoFire_keeps (s : State) (k : Nat) (h : Keeps r s) : Keeps r (State.tmoFire s k) := by
  unfold State.tmoFire
  try extract_lets
  repeat' first
    | with_reducible assumption | with_reducible apply pulse_keeps | with_reducible apply updTmo_keeps | with_reducible apply foldl_keeps
    | with_reducible apply ite_keeps | intro _ | split | contradiction | dsimp only

theorem tmoEnd_keeps (s : State) (k : Nat) (h : Keeps r s) : Keeps r (State.tmoEnd s k) := by
  unfold State.tmoEnd
  try extract_lets
  repeat' first
    | with_reducible assumption | with_reducible apply tmoPin_keeps | with_reducible apply updTmo_keeps | with_reducible apply foldl_keeps
    | with_reducible apply ite_keeps | intro _ | split | contradiction | dsimp only

theorem tmoRevisit_keeps (s : State) (step : Int) (t : Nat) (t' : Nat) (k : Nat) (h : Keeps r s) : Keeps r (State.tmoRevisit s step t t' k) := by
  unfold State.tmoRevisit
  try extract_lets
  repeat' first
    | with_reducible assumption | with_reducible apply raise_keeps | with_reducible apply updTmo_keeps | with_reducible apply pulse_keeps
    | with_reducible apply bumpBy_keeps | with_reducible apply foldl_keeps | with_reducible apply ite_keeps | intro _ | split | contradiction
    | dsimp only

theorem tmoArm_keeps (s : State) (k : Nat) (h : Keeps r s) : Keeps r (State.tmoArm s k) := by
  unfold State.tmoArm
  try extract_lets
  repeat' first
    | with_reducible assumption | with_reducible apply updTmo_keeps | with_reducible apply tmoPin_keeps | with_reducible apply foldl_keeps
    | with_reducible apply ite_keeps | intro _ | split | contradiction | dsimp only

theorem stepped_keeps (s : State) (step : Int) (modeChange : Bool) (t : U64) (h : Keeps r s) : Keeps r (State.stepped s step modeChange t) := by
  unfold State.stepped
  try extract_lets
  repeat' first
    | with_reducible assumption | with_reducible apply bump_keeps | with_reducible apply setPair_keeps | with_reducible apply raise_keeps
    | with_reducible apply tmoRevisit_keeps | with_reducible apply foldl_keeps | with_reducible apply ite_keeps | intro _ | split | contradiction
    | dsimp only

theorem doSwitch_keeps (s : State) (sw : Switch) (h : Keeps r s) : Keeps r (State.doSwitch s sw) := by
  unfold State.doSwitch
  try extract_lets
  repeat' first
    | with_reducible assumption | with_reducible apply stepped_keeps | with_reducible apply foldl_keeps | with_reducible apply ite_keeps | intro _
    | split | contradiction | dsimp only

theorem applySwitch_keeps (s : State) (sw : Switch) (h : Keeps r s) : Keeps r (State.applySwitch s sw) := by
  unfold State.applySwitch
  try extract_lets
  repeat' first
    | with_reducible assumption | with_reducible apply doSwitch_keeps | with_reducible apply finish_keeps | with_reducible apply foldl_keeps
    | with_reducible apply ite_keeps | intro _ | split | contradiction | dsimp only

theorem elapse_keeps (s : State) (n : Nat) (h : Keeps r s) : Keeps r (State.elapse s n) := by
  unfold State.elapse
  try extract_lets
  repeat' first
    | with_reducible assumption | with_reducible apply applySwitch_keeps | with_reducible apply foldl_keeps | with_reducible apply ite_keeps | intro _
    | split | contradiction | dsimp only

theorem updCan_keeps (s : State) (n : Nat) (f : Can → Can) (h : Keeps r s) : Keeps r (State.updCan s n f) := by
  unfold State.updCan
  try extract_lets
  repeat' first
    | with_reducible assumption | with_reducible apply foldl_keeps | with_reducible apply ite_keeps | intro _ | split | contradiction | dsimp only

theorem setCanStat_keeps (s : State) (n : Nat) (i : Nat) (b : Bool) (h : Keeps r s) : Keeps r (State.setCanStat s n i b) := by
  unfold State.setCanStat
  try extract_lets
  repeat' first
    | with_reducible assumption | with_reducible apply setRegBit_keeps | with_reducible apply foldl_keeps | with_reducible apply ite_keeps | intro _
    | split | contradiction | dsimp only

theorem setCanBus_keeps (s : State) (n : Nat) (b : Nat) (h : Keeps r s) : Keeps r (State.setCanBus s n b) := by
  unfold State.setCanBus
  try extract_lets
  repeat' first
    | with_reducible assumption | with_reducible apply setRegFld_keeps | with_reducible apply foldl_keeps | with_reducible apply ite_keeps | intro _
    | split | contradiction | dsimp only

theorem canRing_keeps (s : State) (n : Nat) (entry : Nat → List Byte) (h : Keeps r s) : Keeps r (State.canRing s n entry).1 := by
  unfold State.canRing
  try extract_lets
  repeat' first
    | with_reducible assumption | with_reducible apply postEntry_keeps | with_reducible apply updCan_keeps | with_reducible apply raise_keeps
    | with_reducible apply ringLoss_keeps | with_reducible apply foldl_keeps | with_reducible apply ite_keeps | intro _ | split | contradiction
    | dsimp only

theorem postEcho_keeps (s : State) (n : Nat) (e : Echo) (h : Keeps r s) : Keeps r (State.postEcho s n e) := by
  unfold State.postEcho
  try extract_lets
  repeat' first
    | with_reducible assumption | with_reducible apply canRing_keeps
    | (with_reducible refine Eq.mp (congrArg (Keeps r) (congrArg Prod.fst ‹_ = (_, _)›)) (canRing_keeps ..)) | with_reducible apply foldl_keeps
    | with_reducible apply ite_keeps | intro _ | split | contradiction | dsimp only

theorem echoesDue_keeps (s : State) (n : Nat) (h : Keeps r s) : Keeps r (State.echoesDue s n) := by
  unfold State.echoesDue
  try extract_lets
  repeat' first
    | with_reducible assumption | with_reducible apply updCan_keeps | with_reducible apply postEcho_keeps | with_reducible apply foldl_keeps
    | with_reducible apply ite_keeps | intro _ | split | contradiction | dsimp only

theorem echo_keeps (s : State) (n : Nat) (t : TxSlot) (code : Nat) (h : Keeps r s) : Keeps r (State.echo s n t code) := by
  unfold State.echo
  try extract_lets
  repeat' first
    | with_reducible assumption | with_reducible apply echoesDue_keeps | with_reducible apply updCan_keeps | with_reducible apply foldl_keeps
    | with_reducible apply ite_keeps | intro _ | split | contradiction | dsimp only

theorem rxFlush_keeps (s : State) (n : Nat) (h : Keeps r s) : Keeps r (State.rxFlush s n) := by
  unfold State.rxFlush
  try extract_lets
  repeat' first
    | with_reducible assumption | with_reducible apply echoesDue_keeps | with_reducible apply updCan_keeps | with_reducible apply foldl_keeps
    | with_reducible apply ite_keeps | intro _ | split | contradiction | dsimp only

theorem txOutcome_keeps (s : State) (n : Nat) (t : TxSlot) (code : Nat) (h : Keeps r s) : Keeps r (State.txOutcome s n t code) := by
  unfold State.txOutcome
  try extract_lets
  repeat' first
    | with_reducible assumption | with_reducible apply bump_keeps | with_reducible apply echo_keeps | with_reducible apply foldl_keeps
    | with_reducible apply ite_keeps | intro _ | split | contradiction | dsimp only

theorem freeTx_keeps (s : State) (n : Nat) (idx : Nat) (h : Keeps r s) : Keeps r (State.freeTx s n idx) := by
  unfold State.freeTx
  try extract_lets
  repeat' first
    | with_reducible assumption | with_reducible apply updCan_keeps | with_reducible apply foldl_keeps | with_reducible apply ite_keeps | intro _
    | split | contradiction | dsimp only

theorem endFrames_keeps (s : State) (n : Nat) (f : TxSlot → Bool) (code : Nat) (h : Keeps r s) : Keeps r (State.endFrames s n f code) := by
  unfold State.endFrames
  try extract_lets
  repeat' first
    | with_reducible assumption | with_reducible apply updCan_keeps | with_reducible apply txOutcome_keeps | with_reducible apply foldl_keeps
    | with_reducible apply ite_keeps | intro _ | split | contradiction | dsimp only

theorem placeNode_keeps (s : State) (n : Nat) (id : U32) (brs : Bool) (data : List Byte) (dlc : Nat) (h : Keeps r s) : Keeps r (State.placeNode s n id brs data dlc).1 := by
  unfold State.placeNode
  try extract_lets
  repeat' first
    | with_reducible assumption | with_reducible apply updCan_keeps | with_reducible apply foldl_keeps | with_reducible apply ite_keeps | intro _
    | split | contradiction | dsimp only

theorem canQuiet_keeps (s : State) (n : Nat) (h : Keeps r s) : Keeps r (State.canQuiet s n) := by
  unfold State.canQuiet
  try extract_lets
  repeat' first
    | with_reducible assumption | with_reducible apply setCanStat_keeps | with_reducible apply setReg_keeps | with_reducible apply foldl_keeps
    | with_reducible apply ite_keeps | intro _ | split | contradiction | dsimp only

theorem canRecover_keeps (s : State) (n : Nat) (h : Keeps r s) : Keeps r (State.canRecover s n) := by
  unfold State.canRecover
  try extract_lets
  repeat' first
    | with_reducible assumption | with_reducible apply setCanStat_keeps | with_reducible apply foldl_keeps | with_reducible apply ite_keeps | intro _
    | split | contradiction | dsimp only

theorem canJoin_keeps (s : State) (n : Nat) (h : Keeps r s) : Keeps r (State.canJoin s n) := by
  unfold State.canJoin
  try extract_lets
  repeat' first
    | with_reducible assumption | with_reducible apply setCanStat_keeps | with_reducible apply setCanBus_keeps | with_reducible apply canRecover_keeps
    | with_reducible apply foldl_keeps | with_reducible apply ite_keeps | intro _ | split | contradiction | dsimp only

theorem canOff_keeps (s : State) (n : Nat) (h : Keeps r s) : Keeps r (State.canOff s n) := by
  unfold State.canOff
  try extract_lets
  repeat' first
    | with_reducible assumption | with_reducible apply canQuiet_keeps | with_reducible apply setCanStat_keeps | with_reducible apply setCanBus_keeps
    | with_reducible apply finish_keeps | with_reducible apply updCan_keeps | with_reducible apply foldl_keeps | with_reducible apply ite_keeps
    | intro _ | split | contradiction | dsimp only

theorem cancelEnds_keeps (s : State) (n : Nat) (sent : Bool) (h : Keeps r s) : Keeps r (State.cancelEnds s n sent) := by
  unfold State.cancelEnds
  try extract_lets
  repeat' first
    | with_reducible assumption | with_reducible apply updCan_keeps | with_reducible apply finish_keeps | with_reducible apply foldl_keeps
    | with_reducible apply ite_keeps | intro _ | split | contradiction | dsimp only

theorem canHaltOne_keeps (s : State) (n : Nat) (h : Keeps r s) : Keeps r (State.canHaltOne s n) := by
  unfold State.canHaltOne
  try extract_lets
  repeat' first
    | with_reducible assumption | with_reducible apply cancelEnds_keeps | with_reducible apply endFrames_keeps | with_reducible apply rxFlush_keeps
    | with_reducible apply canOff_keeps | with_reducible apply foldl_keeps | with_reducible apply ite_keeps | intro _ | split | contradiction
    | dsimp only

theorem canHalt_keeps (s : State) (h : Keeps r s) : Keeps r (State.canHalt s) := by
  unfold State.canHalt
  try extract_lets
  repeat' first
    | with_reducible assumption | with_reducible apply canHaltOne_keeps | with_reducible apply foldl_keeps | with_reducible apply ite_keeps | intro _
    | split | contradiction | dsimp only

theorem canLeave_keeps (s : State) (n : Nat) (h : Keeps r s) : Keeps r (State.canLeave s n) := by
  unfold State.canLeave
  try extract_lets
  repeat' first
    | with_reducible assumption | with_reducible apply endFrames_keeps | with_reducible apply canOff_keeps | with_reducible apply foldl_keeps
    | with_reducible apply ite_keeps | intro _ | split | contradiction | dsimp only

theorem canStart_keeps (s : State) (h : Keeps r s) : Keeps r (State.canStart s) := by
  unfold State.canStart
  try extract_lets
  repeat' first
    | with_reducible assumption | with_reducible apply canJoin_keeps | with_reducible apply foldl_keeps | with_reducible apply ite_keeps | intro _
    | split | contradiction | dsimp only

theorem canStop_keeps (s : State) (h : Keeps r s) : Keeps r (State.canStop s) := by
  unfold State.canStop
  try extract_lets
  repeat' first
    | with_reducible assumption | with_reducible apply setCanStat_keeps | with_reducible apply canLeave_keeps | with_reducible apply updCan_keeps
    | with_reducible apply foldl_keeps | with_reducible apply ite_keeps | intro _ | split | contradiction | dsimp only

theorem canPause_keeps (s : State) (h : Keeps r s) : Keeps r (State.canPause s) := by
  unfold State.canPause
  try extract_lets
  repeat' first
    | with_reducible assumption | with_reducible apply canOff_keeps | with_reducible apply foldl_keeps | with_reducible apply ite_keeps | intro _
    | split | contradiction | dsimp only

theorem setErr_keeps (s : State) (n : Nat) (tec : Nat) (rec : Nat) (h : Keeps r s) : Keeps r (State.setErr s n tec rec) := by
  unfold State.setErr
  try extract_lets
  repeat' first
    | with_reducible assumption | with_reducible apply updCan_keeps | with_reducible apply setCanBus_keeps | with_reducible apply canQuiet_keeps
    | with_reducible apply raise_keeps | with_reducible apply bump_keeps | with_reducible apply endFrames_keeps
    | with_reducible apply canRecover_keeps | with_reducible apply foldl_keeps | with_reducible apply ite_keeps | intro _ | split | contradiction
    | dsimp only

theorem errFrame_keeps (s : State) (n : Nat) (code : Nat) (dataPhase : Bool) (h : Keeps r s) : Keeps r (State.errFrame s n code dataPhase) := by
  unfold State.errFrame
  try extract_lets
  repeat' first
    | with_reducible assumption | with_reducible apply setReg_keeps | with_reducible apply bump_keeps | with_reducible apply foldl_keeps
    | with_reducible apply ite_keeps | intro _ | split | contradiction | dsimp only

theorem updSkink_keeps (s : State) (f : Skink → Skink) (h : Keeps r s) : Keeps r (State.updSkink s f) := by
  unfold State.updSkink
  try extract_lets
  repeat' first
    | with_reducible assumption | with_reducible apply foldl_keeps | with_reducible apply ite_keeps | intro _ | split | contradiction | dsimp only

theorem offerResync_keeps (s : State) (func : Nat) (cause : Nat) (arg : U32) (h : Keeps r s) : Keeps r (State.offerResync s func cause arg) := by
  unfold State.offerResync
  try extract_lets
  repeat' first
    | with_reducible assumption | with_reducible apply offer_keeps | with_reducible apply foldl_keeps | with_reducible apply ite_keeps | intro _
    | split | contradiction | dsimp only

theorem offerStatus_keeps (s : State) (cause : Nat) (h : Keeps r s) : Keeps r (s.offerStatus cause) := by
  unfold State.offerStatus
  split
  · exact ⟨h.pending, fun i => { h.inv i with }⟩
  · split
    · next w hw =>
      refine ⟨h.pending, fun i => { h.inv i with credits := ?_ }⟩
      intro pl c hc
      rw [filter_place_length, mergeStatus_places _ _ _ _ hw, ← filter_place_length]
      exact (h.inv i).credits pl c hc
    · exact offerResync_keeps _ _ _ _ h

theorem releaseHold_keeps (s : State) (h : Keeps r s) : Keeps r (State.releaseHold s) := by
  unfold State.releaseHold
  try extract_lets
  repeat' first
    | with_reducible assumption | with_reducible apply updEng_keeps | with_reducible apply updSkink_keeps | with_reducible apply foldl_keeps
    | with_reducible apply ite_keeps | intro _ | split | contradiction | dsimp only

theorem grantHold_keeps (s : State) (e : EngineId) (h : Keeps r s) : Keeps r (State.grantHold s e) := by
  unfold State.grantHold
  try extract_lets
  repeat' first
    | with_reducible assumption | with_reducible apply recordMax_keeps | with_reducible apply updEng_keeps | with_reducible apply updSkink_keeps
    | with_reducible apply foldl_keeps | with_reducible apply ite_keeps | intro _ | split | contradiction | dsimp only

theorem recordFailure_keeps (s : State) (e : EngineId) (cause : Nat) (h : Keeps r s) : Keeps r (State.recordFailure s e cause) := by
  unfold State.recordFailure
  try extract_lets
  repeat' first
    | with_reducible assumption | with_reducible apply setEng_keeps | with_reducible apply setPair_keeps | with_reducible apply raise_keeps
    | with_reducible apply bump_keeps | with_reducible apply foldl_keeps | with_reducible apply ite_keeps | intro _ | split | contradiction
    | dsimp only

theorem dropWaiter_keeps (s : State) (e : EngineId) (h : Keeps r s) : Keeps r (State.dropWaiter s e) := by
  unfold State.dropWaiter
  try extract_lets
  repeat' first
    | with_reducible assumption | with_reducible apply closeRunning_keeps | with_reducible apply complete_keeps | with_reducible apply foldl_keeps
    | with_reducible apply ite_keeps | intro _ | split | contradiction | dsimp only

theorem refuseTaken_keeps (s : State) (units : List CmdUnit) (h : Keeps r s) : Keeps r (State.refuseTaken s units) := by
  unfold State.refuseTaken
  try extract_lets
  repeat' first
    | with_reducible assumption | with_reducible apply complete_keeps | with_reducible apply finish_keeps | with_reducible apply foldl_keeps
    | with_reducible apply ite_keeps | intro _ | split | contradiction | dsimp only

theorem snapRetry_keeps (s : State) (e : EngineId) (source : Bool) (h : Keeps r s) : Keeps r (State.snapRetry s e source) := by
  unfold State.snapRetry
  try extract_lets
  repeat' first
    | with_reducible assumption | with_reducible apply updSpawn_keeps | with_reducible apply bump_keeps | with_reducible apply foldl_keeps
    | with_reducible apply ite_keeps | intro _ | split | contradiction | dsimp only

theorem abandonCopy_keeps (s : State) (e : EngineId) (h : Keeps r s) : Keeps r (State.abandonCopy s e) := by
  unfold State.abandonCopy
  try extract_lets
  repeat' first
    | with_reducible assumption | with_reducible apply updSkink_keeps | with_reducible apply updEng_keeps | with_reducible apply foldl_keeps
    | with_reducible apply ite_keeps | intro _ | split | contradiction | dsimp only

theorem closeTaken_keeps (s : State) (h : Keeps r s) : Keeps r (State.closeTaken s) := by
  unfold State.closeTaken
  try extract_lets
  repeat' first
    | with_reducible assumption | with_reducible apply closeRunning_keeps | with_reducible apply complete_keeps
    | with_reducible apply refuseTaken_keeps | with_reducible apply foldl_keeps | with_reducible apply ite_keeps | intro _ | split | contradiction
    | dsimp only

theorem haltNode_keeps (s : State) (cause : Nat) (engCause : Nat) (h : Keeps r s) : Keeps r (State.haltNode s cause engCause) := by
  unfold State.haltNode
  try extract_lets
  repeat' first
    | with_reducible assumption | with_reducible apply setReg_keeps | with_reducible apply lanesEnd_keeps | with_reducible apply requestsEnd_keeps
    | with_reducible apply endContinuous_keeps | with_reducible apply closeTaken_keeps | with_reducible apply setPair_keeps
    | with_reducible apply canHalt_keeps | with_reducible apply raise_keeps | with_reducible apply setMgmt_keeps | with_reducible apply foldl_keeps
    | with_reducible apply ite_keeps | intro _ | split | contradiction | dsimp only

theorem leaveService_keeps (s : State) (e : EngineId) (cause : Nat) (h : Keeps r s) : Keeps r (State.leaveService s e cause) := by
  unfold State.leaveService
  try extract_lets
  repeat' first
    | with_reducible assumption | with_reducible apply releaseHold_keeps | with_reducible apply abandonCopy_keeps
    | with_reducible apply snapRetry_keeps | with_reducible apply dropWaiter_keeps | with_reducible apply offerStatus_keeps
    | with_reducible apply haltNode_keeps | with_reducible apply foldl_keeps | with_reducible apply ite_keeps | intro _ | split | contradiction
    | dsimp only

theorem failCore_keeps (s : State) (e : EngineId) (cause : Nat) (h : Keeps r s) : Keeps r (State.failCore s e cause) := by
  unfold State.failCore
  try extract_lets
  repeat' first
    | with_reducible assumption | with_reducible apply leaveService_keeps | with_reducible apply recordFailure_keeps
    | with_reducible apply offerStatus_keeps | with_reducible apply abandonCopy_keeps | with_reducible apply foldl_keeps
    | with_reducible apply ite_keeps | intro _ | split | contradiction | dsimp only

theorem failOut_keeps (s : State) (e : EngineId) (cause : Nat) (h : Keeps r s) : Keeps r (State.failOut s e cause) := by
  unfold State.failOut
  try extract_lets
  repeat' first
    | with_reducible assumption | with_reducible apply recordFailure_keeps | with_reducible apply offerStatus_keeps | with_reducible apply foldl_keeps
    | with_reducible apply ite_keeps | intro _ | split | contradiction | dsimp only

theorem offerDiverge_keeps (s : State) (arg : U32) (h : Keeps r s) : Keeps r (s.offerDiverge arg) := by
  unfold State.offerDiverge
  dsimp only
  refine offerResync_keeps _ _ _ _ (raise_keeps _ _ _ (bump_keeps _ _ (setReg_keeps _ _ _ ?_)))
  split
  · have k := updSkink_keeps s (fun k => { k with diverge := some arg }) h
    exact ⟨k.pending, fun i => { k.inv i with }⟩
  · exact updSkink_keeps _ _ h

theorem pointMismatch_keeps (s : State) (p : Nat) (h : Keeps r s) : Keeps r (State.pointMismatch s p) := by
  unfold State.pointMismatch
  try extract_lets
  repeat' first
    | with_reducible assumption | with_reducible apply offerDiverge_keeps | with_reducible apply updSkink_keeps | with_reducible apply failCore_keeps
    | with_reducible apply foldl_keeps | with_reducible apply ite_keeps | intro _ | split | contradiction | dsimp only

theorem divergeDone_keeps (s : State) (failed : Bool) (h : Keeps r s) : Keeps r (State.divergeDone s failed) := by
  unfold State.divergeDone
  try extract_lets
  repeat' first
    | with_reducible assumption | with_reducible apply updSkink_keeps | with_reducible apply offerDiverge_keeps | with_reducible apply foldl_keeps
    | with_reducible apply ite_keeps | intro _ | split | contradiction | dsimp only

theorem updOutlet_keeps (s : State) (f : Outlet → Outlet) (h : Keeps r s)
    (hf : ∀ o : Outlet, o.legFifo.length ≤ 256 → (f o).legFifo.length ≤ 256) : Keeps r (s.updOutlet f) :=
  ⟨h.pending, fun i => { h.inv i with legFifo := hf _ (h.inv i).legFifo }⟩

theorem setChain_keeps (s : State) (e : EngineId) (c : Chain) (h : Keeps r s) : Keeps r (State.setChain s e c) := by
  unfold State.setChain
  try extract_lets
  repeat' first
    | with_reducible assumption | with_reducible apply updOutlet_keeps | with_reducible exact fun _ h => h | exact fun _ _ => Nat.zero_le _
    | with_reducible apply foldl_keeps | with_reducible apply ite_keeps | intro _ | split | contradiction | dsimp only

theorem legacyPut_keeps (s : State) (v : Event) (h : Keeps r s) : Keeps r (s.legacyPut v) := by
  unfold State.legacyPut
  split
  · split
    · next hl => exact ⟨h.pending, fun i => { h.inv i with legFifo := by simpa [State.updOutlet, Nat.lt_succ_iff] using hl }⟩
    · exact raise_keeps _ _ _ (bump_keeps _ _ h)
  · exact h

theorem publish_keeps (s : State) (cs : List Event) (h : Keeps r s) : Keeps r (State.publish s cs) := by
  unfold State.publish
  try extract_lets
  repeat' first
    | with_reducible assumption | with_reducible apply updOutlet_keeps | with_reducible exact fun _ h => h | exact fun _ _ => Nat.zero_le _
    | with_reducible apply foldl_keeps | with_reducible apply ite_keeps | intro _ | split | contradiction | dsimp only

theorem eventTrigger_keeps (s : State) (v : Event) (h : Keeps r s) : Keeps r (State.eventTrigger s v) := by
  unfold State.eventTrigger
  try extract_lets
  repeat' first
    | with_reducible assumption | with_reducible apply trigger_keeps | with_reducible apply foldl_keeps | with_reducible apply ite_keeps | intro _
    | split | contradiction | dsimp only

theorem noteRelease_keeps (s : State) (v : Event) (h : Keeps r s) : Keeps r (State.noteRelease s v) := by
  unfold State.noteRelease
  try extract_lets
  repeat' first
    | with_reducible assumption | with_reducible apply bump_keeps | with_reducible apply setPair_keeps | with_reducible apply foldl_keeps
    | with_reducible apply ite_keeps | intro _ | split | contradiction | dsimp only

theorem mismatch_keeps (s : State) (v : Event) (h : Keeps r s) : Keeps r (State.mismatch s v) := by
  unfold State.mismatch
  try extract_lets
  repeat' first
    | with_reducible assumption | with_reducible apply setPair_keeps | with_reducible apply raise_keeps | with_reducible apply bump_keeps
    | with_reducible apply pointMismatch_keeps | with_reducible apply failCore_keeps | with_reducible apply foldl_keeps
    | with_reducible apply ite_keeps | intro _ | split | contradiction | dsimp only

theorem releaseOne_keeps (s : State) (m : Merge) (h : Keeps r s) : Keeps r (State.releaseOne s m) := by
  unfold State.releaseOne
  dsimp only
  repeat' first
    | with_reducible assumption | with_reducible apply updOutlet_keeps | with_reducible apply mismatch_keeps | with_reducible apply failCore_keeps
    | with_reducible apply lineWritten_keeps | with_reducible apply eventTrigger_keeps | with_reducible apply publish_keeps
    | with_reducible apply legacyPut_keeps | with_reducible apply noteRelease_keeps | with_reducible exact fun _ h => h
    | exact fun _ _ => Nat.zero_le _ | with_reducible apply foldl_keeps | with_reducible apply ite_keeps | intro _ | split | contradiction
    | dsimp only

theorem releaseReady_keeps (n : Nat) (s : State) (h : Keeps r s) : Keeps r (State.releaseReady n s) := by
  induction n generalizing s with
  | zero => exact h
  | succ n ih =>
    unfold State.releaseReady
    split
    · exact h
    · split
      · exact ih _ (releaseOne_keeps _ _ h)
      · exact h

theorem release_keeps (s : State) (h : Keeps r s) : Keeps r (State.release s) := by
  unfold State.release
  try extract_lets
  repeat' first
    | with_reducible assumption | with_reducible apply releaseReady_keeps | with_reducible apply foldl_keeps | with_reducible apply ite_keeps
    | intro _ | split | contradiction | dsimp only

theorem failEngine_keeps (s : State) (e : EngineId) (cause : Nat) (h : Keeps r s) : Keeps r (State.failEngine s e cause) := by
  unfold State.failEngine
  try extract_lets
  repeat' first
    | with_reducible assumption | with_reducible apply release_keeps | with_reducible apply failCore_keeps | with_reducible apply foldl_keeps
    | with_reducible apply ite_keeps | intro _ | split | contradiction | dsimp only

theorem takeCopy_keeps (s : State) (e : EngineId) (h : Keeps r s) : Keeps r (State.takeCopy s e) := by
  unfold State.takeCopy
  try extract_lets
  repeat' first
    | with_reducible assumption | with_reducible apply updEng_keeps | with_reducible apply setChain_keeps | with_reducible apply raise_keeps
    | with_reducible apply bump_keeps | with_reducible apply updOutlet_keeps | with_reducible exact fun _ h => h | exact fun _ _ => Nat.zero_le _
    | with_reducible apply foldl_keeps | with_reducible apply ite_keeps | intro _ | split | contradiction | dsimp only

theorem copyArrives_keeps (s : State) (e : EngineId) (h : Keeps r s) : Keeps r (State.copyArrives s e) := by
  unfold State.copyArrives
  try extract_lets
  repeat' first
    | with_reducible assumption | with_reducible apply release_keeps | with_reducible apply takeCopy_keeps | with_reducible apply foldl_keeps
    | with_reducible apply ite_keeps | intro _ | split | contradiction | dsimp only

theorem deliver_keeps (s : State) (ring : Nat) (h : Keeps r s) : Keeps r (State.deliver s ring) := by
  unfold State.deliver
  try extract_lets
  repeat' first
    | with_reducible assumption | with_reducible apply postEntry_keeps | with_reducible apply updOutlet_keeps | with_reducible exact fun _ h => h
    | exact fun _ _ => Nat.zero_le _ | with_reducible apply foldl_keeps | with_reducible apply ite_keeps | intro _ | split | contradiction
    | dsimp only

theorem eventsConsumed_keeps (s : State) (ring : Nat) (n : Nat) (h : Keeps r s) : Keeps r (State.eventsConsumed s ring n) := by
  unfold State.eventsConsumed
  try extract_lets
  repeat' first
    | with_reducible assumption | with_reducible apply release_keeps | with_reducible apply updOutlet_keeps | with_reducible exact fun _ h => h
    | exact fun _ _ => Nat.zero_le _ | with_reducible apply foldl_keeps | with_reducible apply ite_keeps | intro _ | split | contradiction
    | dsimp only

theorem eventsRewrite_keeps (s : State) (ring : Nat) (h : Keeps r s) : Keeps r (State.eventsRewrite s ring) := by
  unfold State.eventsRewrite
  try extract_lets
  repeat' first
    | with_reducible assumption | with_reducible apply updOutlet_keeps | with_reducible exact fun _ h => h | exact fun _ _ => Nat.zero_le _
    | with_reducible apply foldl_keeps | with_reducible apply ite_keeps | intro _ | split | contradiction | dsimp only

theorem eventCredit_keeps (s : State) (e : EngineId) (h : Keeps r s) : Keeps r (State.eventCredit s e) := by
  unfold State.eventCredit
  try extract_lets
  repeat' first
    | with_reducible assumption | with_reducible apply takeCopy_keeps | with_reducible apply foldl_keeps | with_reducible apply ite_keeps | intro _
    | split | contradiction | dsimp only

theorem put_keeps (s : State) (e : EngineId) (v : Event) (h : Keeps r s) : Keeps r (State.put s e v) := by
  unfold State.put
  try extract_lets
  repeat' first
    | with_reducible assumption | with_reducible apply eventCredit_keeps | with_reducible apply setEng_keeps | with_reducible apply bump_keeps
    | with_reducible apply foldl_keeps | with_reducible apply ite_keeps | intro _ | split | contradiction | dsimp only

theorem putNode_keeps (s : State) (e : EngineId) (v : Event) (h : Keeps r s) : Keeps r (State.putNode s e v) := by
  unfold State.putNode
  try extract_lets
  repeat' first
    | with_reducible assumption | with_reducible apply put_keeps | with_reducible apply updEng_keeps | with_reducible apply raise_keeps
    | with_reducible apply bump_keeps | with_reducible apply foldl_keeps | with_reducible apply ite_keeps | intro _ | split | contradiction
    | dsimp only

theorem putSeal_keeps (s : State) (e : EngineId) (r1 : InRec) (cause : Byte) (h : Keeps r s) : Keeps r (State.putSeal s e r1 cause) := by
  unfold State.putSeal
  try extract_lets
  repeat' first
    | with_reducible assumption | with_reducible apply put_keeps | with_reducible apply updEng_keeps | with_reducible apply putNode_keeps
    | with_reducible apply foldl_keeps | with_reducible apply ite_keeps | intro _ | split | contradiction | dsimp only

theorem countCustody_keeps (s : State) (e : EngineId) (r1 : InRec) (custody : Bool) (h : Keeps r s) : Keeps r (State.countCustody s e r1 custody) := by
  unfold State.countCustody
  try extract_lets
  repeat' first
    | with_reducible assumption | with_reducible apply updEng_keeps | with_reducible apply putSeal_keeps | with_reducible apply foldl_keeps
    | with_reducible apply ite_keeps | intro _ | split | contradiction | dsimp only

theorem putGroup_keeps (s : State) (e : EngineId) (v : Event) (h : Keeps r s) : Keeps r (State.putGroup s e v) := by
  unfold State.putGroup
  try extract_lets
  repeat' first
    | with_reducible assumption | with_reducible apply put_keeps | with_reducible apply updEng_keeps | with_reducible apply raise_keeps
    | with_reducible apply bump_keeps | with_reducible apply foldl_keeps | with_reducible apply ite_keeps | intro _ | split | contradiction
    | dsimp only

theorem setPt_keeps (s : State) (e : EngineId) (r1 : InRec) (p : Nat) (y : PtState) (h : Keeps r s) : Keeps r (State.setPt s e r1 p y) := by
  unfold State.setPt
  try extract_lets
  repeat' first
    | with_reducible assumption | with_reducible apply updEng_keeps | with_reducible apply lineWritten_keeps | with_reducible apply foldl_keeps
    | with_reducible apply ite_keeps | intro _ | split | contradiction | dsimp only

theorem pointEvent_keeps (s : State) (e : EngineId) (r1 : InRec) (p : Nat) (prio : Nat) (custody : Bool) (type : Byte) (stNew : Byte) (stOld : Byte) (h : Keeps r s) : Keeps r (State.pointEvent s e r1 p prio custody type stNew stOld) := by
  unfold State.pointEvent
  try extract_lets
  repeat' first
    | with_reducible assumption | with_reducible apply setPt_keeps | with_reducible apply countCustody_keeps | with_reducible apply put_keeps
    | with_reducible apply bump_keeps | with_reducible apply raise_keeps | with_reducible apply foldl_keeps | with_reducible apply ite_keeps | intro _
    | split | contradiction | dsimp only

theorem sweepNotice_keeps (s : State) (e : EngineId) (r1 : InRec) (p : Nat) (prio : Nat) (custody : Bool) (h : Keeps r s) : Keeps r (State.sweepNotice s e r1 p prio custody) := by
  unfold State.sweepNotice
  try extract_lets
  repeat' first
    | with_reducible assumption | with_reducible apply setPt_keeps | with_reducible apply countCustody_keeps | with_reducible apply put_keeps
    | with_reducible apply foldl_keeps | with_reducible apply ite_keeps | intro _ | split | contradiction | dsimp only

theorem setGr_keeps (s : State) (e : EngineId) (g : Nat) (y : GrState) (h : Keeps r s) : Keeps r (State.setGr s e g y) := by
  unfold State.setGr
  try extract_lets
  repeat' first
    | with_reducible assumption | with_reducible apply updEng_keeps | with_reducible apply lineWritten_keeps | with_reducible apply foldl_keeps
    | with_reducible apply ite_keeps | intro _ | split | contradiction | dsimp only

theorem updGr_keeps (s : State) (e : EngineId) (g : Nat) (f : GrState → GrState) (h : Keeps r s) : Keeps r (State.updGr s e g f) := by
  unfold State.updGr
  try extract_lets
  repeat' first
    | with_reducible assumption | with_reducible apply setGr_keeps | with_reducible apply foldl_keeps | with_reducible apply ite_keeps | intro _
    | split | contradiction | dsimp only

theorem noteInvalid_keeps (s : State) (e : EngineId) (raw : List Byte) (n : Nat) (h : Keeps r s) : Keeps r (State.noteInvalid s e raw n) := by
  unfold State.noteInvalid
  try extract_lets
  repeat' first
    | with_reducible assumption | with_reducible apply bump_keeps | with_reducible apply foldl_keeps | with_reducible apply ite_keeps | intro _
    | split | contradiction | dsimp only

theorem noteGroup_keeps (s : State) (e : EngineId) (g : Nat) (h : Keeps r s) : Keeps r (State.noteGroup s e g) := by
  unfold State.noteGroup
  try extract_lets
  repeat' first
    | with_reducible assumption | with_reducible apply noteInvalid_keeps | with_reducible apply foldl_keeps | with_reducible apply ite_keeps | intro _
    | split | contradiction | dsimp only

theorem newAlarm_keeps (s : State) (e : EngineId) (r1 : InRec) (p : Nat) (c : PCfg) (stNew : Byte) (stOld : Byte) (h : Keeps r s) : Keeps r (State.newAlarm s e r1 p c stNew stOld) := by
  unfold State.newAlarm
  try extract_lets
  repeat' first
    | with_reducible assumption | with_reducible apply noteGroup_keeps | with_reducible apply updGr_keeps | with_reducible apply putGroup_keeps
    | with_reducible apply updEng_keeps | with_reducible apply foldl_keeps | with_reducible apply ite_keeps | intro _ | split | contradiction
    | dsimp only

theorem report__keeps (s : State) (e : EngineId) (r1 : InRec) (p : Nat) (c : PCfg) (y : PtState) (old : Byte) (alarm : Bool) (h : Keeps r s) : Keeps r (State.report_ s e r1 p c y old alarm) := by
  unfold State.report_
  try extract_lets
  repeat' first
    | with_reducible assumption | with_reducible apply setPt_keeps | with_reducible apply pointEvent_keeps | with_reducible apply newAlarm_keeps
    | with_reducible apply foldl_keeps | with_reducible apply ite_keeps | intro _ | split | contradiction | dsimp only

theorem moveTo_keeps (s : State) (e : EngineId) (r1 : InRec) (p : Nat) (c : PCfg) (x : PtState) (t : Byte) (h : Keeps r s) : Keeps r (State.moveTo s e r1 p c x t) := by
  unfold State.moveTo
  try extract_lets
  repeat' first
    | with_reducible assumption | with_reducible apply report__keeps | with_reducible apply foldl_keeps | with_reducible apply ite_keeps | intro _
    | split | contradiction | dsimp only

theorem decide__keeps (s : State) (e : EngineId) (r1 : InRec) (p : Nat) (c : PCfg) (d : Decision) (h : Keeps r s) : Keeps r (State.decide_ s e r1 p c d).1 := by
  unfold State.decide_
  try extract_lets
  repeat' first
    | with_reducible assumption | with_reducible apply setPt_keeps | with_reducible apply moveTo_keeps | with_reducible apply foldl_keeps
    | with_reducible apply ite_keeps | intro _ | split | contradiction | dsimp only

theorem applyInput_keeps (s : State) (e : EngineId) (r1 : InRec) (p : Nat) (c : PCfg) (i : PtInput) (h : Keeps r s) : Keeps r (State.applyInput s e r1 p c i).1 := by
  unfold State.applyInput
  try extract_lets
  repeat' first
    | with_reducible assumption | with_reducible apply setPt_keeps | with_reducible apply moveTo_keeps | with_reducible apply decide__keeps
    | (with_reducible refine Eq.mp (congrArg (Keeps r) (congrArg Prod.fst ‹_ = (_, _)›)) (decide__keeps ..)) | with_reducible apply foldl_keeps
    | with_reducible apply ite_keeps | intro _ | split | contradiction | dsimp only

theorem rateStep_keeps (s : State) (e : EngineId) (r1 : InRec) (p : Nat) (c : PCfg) (h : Keeps r s) : Keeps r (State.rateStep s e r1 p c).1 := by
  unfold State.rateStep
  try extract_lets
  repeat' first
    | with_reducible assumption | with_reducible apply decide__keeps
    | (with_reducible refine Eq.mp (congrArg (Keeps r) (congrArg Prod.fst ‹_ = (_, _)›)) (decide__keeps ..)) | with_reducible apply foldl_keeps
    | with_reducible apply ite_keeps | intro _ | split | contradiction | dsimp only

theorem delayTick_keeps (s : State) (e : EngineId) (r1 : InRec) (p : Nat) (c : PCfg) (h : Keeps r s) : Keeps r (State.delayTick s e r1 p c) := by
  unfold State.delayTick
  try extract_lets
  repeat' first
    | with_reducible assumption | with_reducible apply setPt_keeps | with_reducible apply moveTo_keeps | with_reducible apply foldl_keeps
    | with_reducible apply ite_keeps | intro _ | split | contradiction | dsimp only

theorem endBlock_keeps (s : State) (e : EngineId) (r1 : InRec) (p : Nat) (c : PCfg) (h : Keeps r s) : Keeps r (State.endBlock s e r1 p c) := by
  unfold State.endBlock
  try extract_lets
  repeat' first
    | with_reducible assumption | with_reducible apply report__keeps | with_reducible apply foldl_keeps | with_reducible apply ite_keeps | intro _
    | split | contradiction | dsimp only

theorem blockStep_keeps (s : State) (e : EngineId) (r1 : InRec) (p : Nat) (c : PCfg) (tick : Nat) (h : Keeps r s) : Keeps r (State.blockStep s e r1 p c tick) := by
  unfold State.blockStep
  try extract_lets
  repeat' first
    | with_reducible assumption | with_reducible apply endBlock_keeps | with_reducible apply setPt_keeps | with_reducible apply report__keeps
    | with_reducible apply foldl_keeps | with_reducible apply ite_keeps | intro _ | split | contradiction | dsimp only

theorem endShelve_keeps (s : State) (e : EngineId) (r1 : InRec) (p : Nat) (c : PCfg) (h : Keeps r s) : Keeps r (State.endShelve s e r1 p c) := by
  unfold State.endShelve
  try extract_lets
  repeat' first
    | with_reducible assumption | with_reducible apply report__keeps | with_reducible apply foldl_keeps | with_reducible apply ite_keeps | intro _
    | split | contradiction | dsimp only

theorem shelveTick_keeps (s : State) (e : EngineId) (r1 : InRec) (p : Nat) (c : PCfg) (h : Keeps r s) : Keeps r (State.shelveTick s e r1 p c) := by
  unfold State.shelveTick
  try extract_lets
  repeat' first
    | with_reducible assumption | with_reducible apply setPt_keeps | with_reducible apply endShelve_keeps | with_reducible apply foldl_keeps
    | with_reducible apply ite_keeps | intro _ | split | contradiction | dsimp only

theorem configFault_keeps (s : State) (e : EngineId) (r1 : InRec) (p : Nat) (h : Keeps r s) : Keeps r (State.configFault s e r1 p) := by
  unfold State.configFault
  try extract_lets
  repeat' first
    | with_reducible assumption | with_reducible apply pointEvent_keeps | with_reducible apply setPt_keeps | with_reducible apply foldl_keeps
    | with_reducible apply ite_keeps | intro _ | split | contradiction | dsimp only

theorem sweepPoint_keeps (s : State) (e : EngineId) (r1 : InRec) (tick : Nat) (p : Nat) (h : Keeps r s) : Keeps r (State.sweepPoint s e r1 tick p) := by
  unfold State.sweepPoint
  try extract_lets
  repeat' first
    | with_reducible assumption | with_reducible apply sweepNotice_keeps | with_reducible apply configFault_keeps
    | with_reducible apply noteInvalid_keeps | with_reducible apply applyInput_keeps
    | (with_reducible refine Eq.mp (congrArg (Keeps r) (congrArg Prod.fst ‹_ = (_, _)›)) (applyInput_keeps ..)) | with_reducible apply rateStep_keeps
    | (with_reducible refine Eq.mp (congrArg (Keeps r) (congrArg Prod.fst ‹_ = (_, _)›)) (rateStep_keeps ..)) | with_reducible apply delayTick_keeps
    | with_reducible apply blockStep_keeps | with_reducible apply shelveTick_keeps | with_reducible apply updEng_keeps
    | with_reducible apply foldl_keeps | with_reducible apply ite_keeps | intro _ | split | contradiction | dsimp only

theorem sweepPoints_keeps (s : State) (e : EngineId) (r1 : InRec) (upto : Nat) (h : Keeps r s) : Keeps r (State.sweepPoints s e r1 upto) := by
  unfold State.sweepPoints
  try extract_lets
  repeat' first
    | with_reducible assumption | with_reducible apply updEng_keeps | with_reducible apply sweepPoint_keeps | with_reducible apply foldl_keeps
    | with_reducible apply ite_keeps | intro _ | split | contradiction | dsimp only

theorem groupEvent_keeps (s : State) (e : EngineId) (r1 : InRec) (g : Nat) (c : GCfg) (type : Byte) (stNew : Byte) (stOld : Byte) (sub : Nat) (value : Nat) (h : Keeps r s) : Keeps r (State.groupEvent s e r1 g c type stNew stOld sub value) := by
  unfold State.groupEvent
  try extract_lets
  repeat' first
    | with_reducible assumption | with_reducible apply putGroup_keeps | with_reducible apply foldl_keeps | with_reducible apply ite_keeps | intro _
    | split | contradiction | dsimp only

theorem markSwept_keeps (s : State) (e : EngineId) (g : Nat) (h : Keeps r s) : Keeps r (State.markSwept s e g) := by
  unfold State.markSwept
  try extract_lets
  repeat' first
    | with_reducible assumption | with_reducible apply updEng_keeps | with_reducible apply foldl_keeps | with_reducible apply ite_keeps | intro _
    | split | contradiction | dsimp only

theorem groupState_keeps (s : State) (e : EngineId) (r1 : InRec) (g : Nat) (c : GCfg) (h : Keeps r s) : Keeps r (State.groupState s e r1 g c) := by
  unfold State.groupState
  try extract_lets
  repeat' first
    | with_reducible assumption | with_reducible apply markSwept_keeps | with_reducible apply groupEvent_keeps | with_reducible apply foldl_keeps
    | with_reducible apply ite_keeps | intro _ | split | contradiction | dsimp only

theorem sendFrames_keeps (s : State) (e : EngineId) (g : Nat) (fs : List (Nat × U32 × Nat)) (h : Keeps r s) : Keeps r (State.sendFrames s e g fs) := by
  unfold State.sendFrames
  try extract_lets
  repeat' first
    | with_reducible assumption | with_reducible apply placeNode_keeps
    | (with_reducible refine Eq.mp (congrArg (Keeps r) (congrArg Prod.fst ‹_ = (_, _)›)) (placeNode_keeps ..)) | with_reducible apply bump_keeps
    | with_reducible apply foldl_keeps | with_reducible apply ite_keeps | intro _ | split | contradiction | dsimp only

theorem countCall_keeps (s : State) (e : EngineId) (st : Byte) (cause : Nat) (h : Keeps r s) : Keeps r (State.countCall s e st cause) := by
  unfold State.countCall
  try extract_lets
  repeat' first
    | with_reducible assumption | with_reducible apply bump_keeps | with_reducible apply raise_keeps | with_reducible apply foldl_keeps
    | with_reducible apply ite_keeps | intro _ | split | contradiction | dsimp only

theorem callTo_keeps (s : State) (e : EngineId) (r1 : InRec) (g : Nat) (c : GCfg) (st : Byte) (cause : Nat) (timer : Nat) (h : Keeps r s) : Keeps r (State.callTo s e r1 g c st cause timer) := by
  unfold State.callTo
  try extract_lets
  repeat' first
    | with_reducible assumption | with_reducible apply groupEvent_keeps | with_reducible apply setGr_keeps | with_reducible apply countCall_keeps
    | with_reducible apply updEng_keeps | with_reducible apply sendFrames_keeps | with_reducible apply foldl_keeps | with_reducible apply ite_keeps
    | intro _ | split | contradiction | dsimp only

theorem press_keeps (s : State) (e : EngineId) (r1 : InRec) (g : Nat) (c : GCfg) (h : Keeps r s) : Keeps r (State.press s e r1 g c) := by
  unfold State.press
  try extract_lets
  repeat' first
    | with_reducible assumption | with_reducible apply updGr_keeps | with_reducible apply callTo_keeps | with_reducible apply foldl_keeps
    | with_reducible apply ite_keeps | intro _ | split | contradiction | dsimp only

theorem groupBlock_keeps (s : State) (e : EngineId) (g : Nat) (c : GCfg) (tick : Nat) (h : Keeps r s) : Keeps r (State.groupBlock s e g c tick) := by
  unfold State.groupBlock
  try extract_lets
  repeat' first
    | with_reducible assumption | with_reducible apply setGr_keeps | with_reducible apply foldl_keeps | with_reducible apply ite_keeps | intro _
    | split | contradiction | dsimp only

theorem floodStep_keeps (s : State) (e : EngineId) (g : Nat) (c : GCfg) (tick : Nat) (h : Keeps r s) : Keeps r (State.floodStep s e g c tick) := by
  unfold State.floodStep
  try extract_lets
  repeat' first
    | with_reducible assumption | with_reducible apply bumpView_keeps | with_reducible apply setGr_keeps | with_reducible apply foldl_keeps
    | with_reducible apply ite_keeps | intro _ | split | contradiction | dsimp only

theorem callTimers_keeps (s : State) (e : EngineId) (r1 : InRec) (g : Nat) (c : GCfg) (tick : Nat) (h : Keeps r s) : Keeps r (State.callTimers s e r1 g c tick) := by
  unfold State.callTimers
  try extract_lets
  repeat' first
    | with_reducible assumption | with_reducible apply callTo_keeps | with_reducible apply updEng_keeps | with_reducible apply setGr_keeps
    | with_reducible apply sendFrames_keeps | with_reducible apply foldl_keeps | with_reducible apply ite_keeps | intro _ | split | contradiction
    | dsimp only

theorem alarmStep_keeps (s : State) (e : EngineId) (r1 : InRec) (g : Nat) (c : GCfg) (tick : Nat) (h : Keeps r s) : Keeps r (State.alarmStep s e r1 g c tick) := by
  unfold State.alarmStep
  try extract_lets
  repeat' first
    | with_reducible assumption | with_reducible apply callTo_keeps | with_reducible apply callTimers_keeps | with_reducible apply foldl_keeps
    | with_reducible apply ite_keeps | intro _ | split | contradiction | dsimp only

theorem dmWarnNow_keeps (s : State) (e : EngineId) (r1 : InRec) (g : Nat) (c : GCfg) (h : Keeps r s) : Keeps r (State.dmWarnNow s e r1 g c) := by
  unfold State.dmWarnNow
  try extract_lets
  repeat' first
    | with_reducible assumption | with_reducible apply groupState_keeps | with_reducible apply updGr_keeps | with_reducible apply foldl_keeps
    | with_reducible apply ite_keeps | intro _ | split | contradiction | dsimp only

theorem dmExpire_keeps (s : State) (e : EngineId) (r1 : InRec) (g : Nat) (c : GCfg) (h : Keeps r s) : Keeps r (State.dmExpire s e r1 g c) := by
  unfold State.dmExpire
  try extract_lets
  repeat' first
    | with_reducible assumption | with_reducible apply callTo_keeps | with_reducible apply updGr_keeps | with_reducible apply foldl_keeps
    | with_reducible apply ite_keeps | intro _ | split | contradiction | dsimp only

theorem deadmanStep_keeps (s : State) (e : EngineId) (r1 : InRec) (g : Nat) (c : GCfg) (tick : Nat) (h : Keeps r s) : Keeps r (State.deadmanStep s e r1 g c tick) := by
  unfold State.deadmanStep
  try extract_lets
  repeat' first
    | with_reducible assumption | with_reducible apply setGr_keeps | with_reducible apply callTo_keeps | with_reducible apply callTimers_keeps
    | with_reducible apply dmWarnNow_keeps | with_reducible apply dmExpire_keeps | with_reducible apply foldl_keeps | with_reducible apply ite_keeps
    | intro _ | split | contradiction | dsimp only

theorem groupFault_keeps (s : State) (e : EngineId) (r1 : InRec) (g : Nat) (c : GCfg) (h : Keeps r s) : Keeps r (State.groupFault s e r1 g c) := by
  unfold State.groupFault
  try extract_lets
  repeat' first
    | with_reducible assumption | with_reducible apply groupState_keeps | with_reducible apply setGr_keeps | with_reducible apply updGr_keeps
    | with_reducible apply callTo_keeps | with_reducible apply foldl_keeps | with_reducible apply ite_keeps | intro _ | split | contradiction
    | dsimp only

theorem sweepGroup_keeps (s : State) (e : EngineId) (r1 : InRec) (tick : Nat) (g : Nat) (h : Keeps r s) : Keeps r (State.sweepGroup s e r1 tick g) := by
  unfold State.sweepGroup
  try extract_lets
  repeat' first
    | with_reducible assumption | with_reducible apply updGr_keeps | with_reducible apply groupFault_keeps | with_reducible apply noteInvalid_keeps
    | with_reducible apply floodStep_keeps | with_reducible apply groupBlock_keeps | with_reducible apply groupState_keeps
    | with_reducible apply deadmanStep_keeps | with_reducible apply alarmStep_keeps | with_reducible apply markSwept_keeps
    | with_reducible apply foldl_keeps | with_reducible apply ite_keeps | intro _ | split | contradiction | dsimp only

theorem sweptPoints_keeps (s : State) (e : EngineId) (r1 : InRec) (h : Keeps r s) : Keeps r (State.sweptPoints s e r1) := by
  unfold State.sweptPoints
  try extract_lets
  repeat' first
    | with_reducible assumption | with_reducible apply updEng_keeps | with_reducible apply sweepPoints_keeps | with_reducible apply foldl_keeps
    | with_reducible apply ite_keeps | intro _ | split | contradiction | dsimp only

theorem sweepGroups_keeps (s : State) (e : EngineId) (r1 : InRec) (upto : Nat) (h : Keeps r s) : Keeps r (State.sweepGroups s e r1 upto) := by
  unfold State.sweepGroups
  try extract_lets
  repeat' first
    | with_reducible assumption | with_reducible apply sweptPoints_keeps | with_reducible apply updEng_keeps | with_reducible apply sweepGroup_keeps
    | with_reducible apply foldl_keeps | with_reducible apply ite_keeps | intro _ | split | contradiction | dsimp only

theorem refreshGroup_keeps (s : State) (e : EngineId) (r1 : InRec) (g : Nat) (h : Keeps r s) : Keeps r (State.refreshGroup s e r1 g) := by
  unfold State.refreshGroup
  try extract_lets
  repeat' first
    | with_reducible assumption | with_reducible apply groupEvent_keeps | with_reducible apply noteGroup_keeps
    | with_reducible apply noteInvalid_keeps | with_reducible apply putGroup_keeps | with_reducible apply foldl_keeps | with_reducible apply ite_keeps
    | intro _ | split | contradiction | dsimp only

theorem refreshNode_keeps (s : State) (e : EngineId) (r1 : InRec) (h : Keeps r s) : Keeps r (State.refreshNode s e r1) := by
  unfold State.refreshNode
  try extract_lets
  repeat' first
    | with_reducible assumption | with_reducible apply putNode_keeps | with_reducible apply updEng_keeps | with_reducible apply putSeal_keeps
    | with_reducible apply foldl_keeps | with_reducible apply ite_keeps | intro _ | split | contradiction | dsimp only

theorem refresh_keeps (s : State) (e : EngineId) (r1 : InRec) (h : Keeps r s) : Keeps r (State.refresh s e r1) := by
  unfold State.refresh
  try extract_lets
  repeat' first
    | with_reducible assumption | with_reducible apply updEng_keeps | with_reducible apply refreshGroup_keeps | with_reducible apply refreshNode_keeps
    | with_reducible apply foldl_keeps | with_reducible apply ite_keeps | intro _ | split | contradiction | dsimp only

theorem acceptGroup_keeps (s : State) (e : EngineId) (r1 : InRec) (dis : List Nat) (sigs : List Nat) (g : Nat) (h : Keeps r s) : Keeps r (State.acceptGroup s e r1 dis sigs g) := by
  unfold State.acceptGroup
  try extract_lets
  repeat' first
    | with_reducible assumption | with_reducible apply noteGroup_keeps | with_reducible apply press_keeps | with_reducible apply callTo_keeps
    | with_reducible apply foldl_keeps | with_reducible apply ite_keeps | intro _ | split | contradiction | dsimp only

theorem acceptSources_keeps (s : State) (e : EngineId) (r1 : InRec) (dis : List Nat) (sigs : List Nat) (h : Keeps r s) : Keeps r (State.acceptSources s e r1 dis sigs) := by
  unfold State.acceptSources
  try extract_lets
  repeat' first
    | with_reducible assumption | with_reducible apply acceptGroup_keeps | with_reducible apply foldl_keeps | with_reducible apply ite_keeps | intro _
    | split | contradiction | dsimp only

theorem resetHalf_keeps (s : State) (e : EngineId) (r1 : InRec) (g : Nat) (c : GCfg) (event : Bool) (h : Keeps r s) : Keeps r (State.resetHalf s e r1 g c event) := by
  unfold State.resetHalf
  try extract_lets
  repeat' first
    | with_reducible assumption | with_reducible apply setGr_keeps | with_reducible apply groupState_keeps | with_reducible apply updEng_keeps
    | with_reducible apply groupEvent_keeps | with_reducible apply foldl_keeps | with_reducible apply ite_keeps | intro _ | split | contradiction
    | dsimp only

theorem groupAdjust_keeps (s : State) (e : EngineId) (r1 : InRec) (g : Nat) (old : GCfg) (new : GCfg) (h : Keeps r s) : Keeps r (State.groupAdjust s e r1 g old new) := by
  unfold State.groupAdjust
  try extract_lets
  repeat' first
    | with_reducible assumption | with_reducible apply updGr_keeps | with_reducible apply callTo_keeps | with_reducible apply foldl_keeps
    | with_reducible apply ite_keeps | intro _ | split | contradiction | dsimp only

theorem groupWritten_keeps (s : State) (e : EngineId) (r1 : InRec) (g : Nat) (old : GCfg) (new : GCfg) (h : Keeps r s) : Keeps r (State.groupWritten s e r1 g old new) := by
  unfold State.groupWritten
  try extract_lets
  repeat' first
    | with_reducible assumption | with_reducible apply resetHalf_keeps | with_reducible apply groupAdjust_keeps | with_reducible apply foldl_keeps
    | with_reducible apply ite_keeps | intro _ | split | contradiction | dsimp only

theorem noteMasks_keeps (s : State) (h : Keeps r s) : Keeps r (State.noteMasks s) := by
  unfold State.noteMasks
  try extract_lets
  repeat' first
    | with_reducible assumption | with_reducible apply raise_keeps | with_reducible apply foldl_keeps | with_reducible apply ite_keeps | intro _
    | split | contradiction | dsimp only

theorem epochChange_keeps (s : State) (e : EngineId) (r1 : InRec) (cause : Byte) (epoch : Nat) (h : Keeps r s) : Keeps r (State.epochChange s e r1 cause epoch) := by
  unfold State.epochChange
  try extract_lets
  repeat' first
    | with_reducible assumption | with_reducible apply putNode_keeps | with_reducible apply foldl_keeps | with_reducible apply ite_keeps | intro _
    | split | contradiction | dsimp only

theorem runStart_keeps (s : State) (e : EngineId) (r1 : InRec) (h : Keeps r s) : Keeps r (State.runStart s e r1) := by
  unfold State.runStart
  try extract_lets
  repeat' first
    | with_reducible assumption | with_reducible apply epochChange_keeps | with_reducible apply updEng_keeps | with_reducible apply foldl_keeps
    | with_reducible apply ite_keeps | intro _ | split | contradiction | dsimp only

theorem prune_keeps (s : State) (h : Keeps r s) : Keeps r (State.prune s) := by
  unfold State.prune
  try extract_lets
  repeat' first
    | with_reducible assumption | with_reducible apply foldl_keeps | with_reducible apply ite_keeps | intro _ | split | contradiction | dsimp only

theorem cmdDone_keeps (s : State) (e : EngineId) (isn : U64) (h : Keeps r s) : Keeps r (State.cmdDone s e isn) := by
  unfold State.cmdDone
  try extract_lets
  repeat' first
    | with_reducible assumption | with_reducible apply closeRunning_keeps | with_reducible apply foldl_keeps | with_reducible apply ite_keeps
    | intro _ | split | contradiction | dsimp only

theorem replayed_keeps (s : State) (isn : U64) (h : Keeps r s) : Keeps r (State.replayed s isn) := by
  unfold State.replayed
  try extract_lets
  repeat' first
    | with_reducible assumption | with_reducible apply setPair_keeps | with_reducible apply foldl_keeps | with_reducible apply ite_keeps | intro _
    | split | contradiction | dsimp only

theorem evaluated_keeps (s : State) (e : EngineId) (isn : U64) (h : Keeps r s) : Keeps r (State.evaluated s e isn) := by
  unfold State.evaluated
  try extract_lets
  repeat' first
    | with_reducible assumption | with_reducible apply bump_keeps | with_reducible apply updEng_keeps | with_reducible apply replayed_keeps
    | with_reducible apply prune_keeps | with_reducible apply cmdDone_keeps | with_reducible apply foldl_keeps | with_reducible apply ite_keeps
    | intro _ | split | contradiction | dsimp only

theorem evaluate_keeps (s : State) (e : EngineId) (ok : InRec → Bool) (f : InRec → State → State) (h : Keeps r s) (h_f : ∀ x0 t, Keeps r t → Keeps r (f x0 t)) : Keeps r (State.evaluate s e ok f) := by
  unfold State.evaluate
  try extract_lets
  repeat' first
    | with_reducible assumption | with_reducible apply h_f | with_reducible apply failEngine_keeps | with_reducible apply evaluated_keeps
    | with_reducible apply runStart_keeps | with_reducible apply foldl_keeps | with_reducible apply ite_keeps | intro _ | split | contradiction
    | dsimp only

theorem feed_keeps (s : State) (e : EngineId) (r1 : InRec) (type : Nat) (index : Nat) (input : PCfg → PtInput) (h : Keeps r s) : Keeps r (State.feed s e r1 type index input) := by
  unfold State.feed
  try extract_lets
  repeat' first
    | with_reducible assumption | with_reducible apply noteInvalid_keeps | with_reducible apply applyInput_keeps
    | (with_reducible refine Eq.mp (congrArg (Keeps r) (congrArg Prod.fst ‹_ = (_, _)›)) (applyInput_keeps ..)) | with_reducible apply foldl_keeps
    | with_reducible apply ite_keeps | intro _ | split | contradiction | dsimp only

theorem onSample_keeps (s : State) (e : EngineId) (r1 : InRec) (h : Keeps r s) : Keeps r (State.onSample s e r1) := by
  unfold State.onSample
  try extract_lets
  repeat' first
    | with_reducible assumption | with_reducible apply feed_keeps | with_reducible apply foldl_keeps | with_reducible apply ite_keeps | intro _
    | split | contradiction | dsimp only

theorem onDiChange_keeps (s : State) (e : EngineId) (r1 : InRec) (h : Keeps r s) : Keeps r (State.onDiChange s e r1) := by
  unfold State.onDiChange
  try extract_lets
  repeat' first
    | with_reducible assumption | with_reducible apply feed_keeps | with_reducible apply acceptSources_keeps | with_reducible apply foldl_keeps
    | with_reducible apply ite_keeps | intro _ | split | contradiction | dsimp only

theorem onCount_keeps (s : State) (e : EngineId) (r1 : InRec) (h : Keeps r s) : Keeps r (State.onCount s e r1) := by
  unfold State.onCount
  try extract_lets
  repeat' first
    | with_reducible assumption | with_reducible apply feed_keeps | with_reducible apply foldl_keeps | with_reducible apply ite_keeps | intro _
    | split | contradiction | dsimp only

theorem onCanFrame_keeps (s : State) (e : EngineId) (x : InRec) (h : Keeps r s) : Keeps r (s.onCanFrame e x) := by
  unfold State.onCanFrame
  extract_lets id len
  refine acceptSources_keeps _ _ _ _ _ ?_
  have key : ∀ (l : List Nat) (a : State × List Nat), Keeps r a.1 →
      Keeps r (l.foldl (fun (a : State × List Nat) k =>
        let (s, acc) := a
        let d := SigDef.ofBytes (s.tarnSee (Tarn.CAN_SIG + 16 * k) 16)
        let s := s.noteInvalid e d.raw 16
        match d.extract id len x.ext with
        | none => (s, acc)
        | some none => ((s.bumpView e Reg.CAN_SIG_FAULT_CNT).feed e x 4 k (fun _ => { bad := true }), acc)
        | some (some v) =>
          (s.feed e x 4 k (fun c => { value := c.scale v }),
            if F32.isFinite v && !F32.eq v 0 then acc ++ [k] else acc)) a).1 := by
    intro l
    induction l with
    | nil => exact fun a ha => ha
    | cons k l ih =>
      intro a ha
      rw [List.foldl_cons]
      apply ih
      obtain ⟨s, acc⟩ := a
      dsimp only
      split
      · exact noteInvalid_keeps _ _ _ _ ha
      · exact feed_keeps _ _ _ _ _ _ (bumpView_keeps _ _ _ (noteInvalid_keeps _ _ _ _ ha))
      · exact feed_keeps _ _ _ _ _ _ (noteInvalid_keeps _ _ _ _ ha)
  exact key _ _ h

theorem health_keeps (s : State) (e : EngineId) (r1 : InRec) (atStatus : Bool) (h : Keeps r s) : Keeps r (State.health s e r1 atStatus) := by
  unfold State.health
  try extract_lets
  repeat' first
    | with_reducible assumption | with_reducible apply putNode_keeps | with_reducible apply foldl_keeps | with_reducible apply ite_keeps | intro _
    | split | contradiction | dsimp only

theorem enterTick_keeps (s : State) (e : EngineId) (r1 : InRec) (h : Keeps r s) : Keeps r (State.enterTick s e r1) := by
  unfold State.enterTick
  try extract_lets
  repeat' first
    | with_reducible assumption | with_reducible apply updEng_keeps | with_reducible apply putNode_keeps | with_reducible apply countCustody_keeps
    | with_reducible apply foldl_keeps | with_reducible apply ite_keeps | intro _ | split | contradiction | dsimp only

theorem sealTick_keeps (s : State) (e : EngineId) (r1 : InRec) (h : Keeps r s) : Keeps r (State.sealTick s e r1) := by
  unfold State.sealTick
  try extract_lets
  repeat' first
    | with_reducible assumption | with_reducible apply putSeal_keeps | with_reducible apply foldl_keeps | with_reducible apply ite_keeps | intro _
    | split | contradiction | dsimp only

theorem healthTick_keeps (s : State) (e : EngineId) (r1 : InRec) (h : Keeps r s) : Keeps r (State.healthTick s e r1) := by
  unfold State.healthTick
  try extract_lets
  repeat' first
    | with_reducible assumption | with_reducible apply health_keeps | with_reducible apply foldl_keeps | with_reducible apply ite_keeps | intro _
    | split | contradiction | dsimp only

theorem tickHash_keeps (s : State) (e : EngineId) (r1 : InRec) (h : Keeps r s) : Keeps r (State.tickHash s e r1) := by
  unfold State.tickHash
  try extract_lets
  repeat' first
    | with_reducible assumption | with_reducible apply updEng_keeps | with_reducible apply foldl_keeps | with_reducible apply ite_keeps | intro _
    | split | contradiction | dsimp only

theorem tickRefresh_keeps (s : State) (e : EngineId) (r1 : InRec) (h : Keeps r s) : Keeps r (State.tickRefresh s e r1) := by
  unfold State.tickRefresh
  try extract_lets
  repeat' first
    | with_reducible assumption | with_reducible apply sweepGroups_keeps | with_reducible apply updEng_keeps | with_reducible apply refresh_keeps
    | with_reducible apply tickHash_keeps | with_reducible apply foldl_keeps | with_reducible apply ite_keeps | intro _ | split | contradiction
    | dsimp only

theorem tickHealth_keeps (s : State) (e : EngineId) (r1 : InRec) (h : Keeps r s) : Keeps r (State.tickHealth s e r1) := by
  unfold State.tickHealth
  try extract_lets
  repeat' first
    | with_reducible assumption | with_reducible apply tickRefresh_keeps | with_reducible apply updEng_keeps | with_reducible apply healthTick_keeps
    | with_reducible apply foldl_keeps | with_reducible apply ite_keeps | intro _ | split | contradiction | dsimp only

theorem tickSeal_keeps (s : State) (e : EngineId) (r1 : InRec) (h : Keeps r s) : Keeps r (State.tickSeal s e r1) := by
  unfold State.tickSeal
  try extract_lets
  repeat' first
    | with_reducible assumption | with_reducible apply tickHealth_keeps | with_reducible apply updEng_keeps | with_reducible apply sealTick_keeps
    | with_reducible apply foldl_keeps | with_reducible apply ite_keeps | intro _ | split | contradiction | dsimp only

theorem onTick_keeps (s : State) (e : EngineId) (r1 : InRec) (h : Keeps r s) : Keeps r (State.onTick s e r1) := by
  unfold State.onTick
  dsimp only
  repeat' first
    | with_reducible assumption | with_reducible apply tickSeal_keeps | with_reducible apply enterTick_keeps | with_reducible apply draw_keeps
    | (with_reducible refine Eq.mp (congrArg (Keeps r) (congrArg Prod.snd ‹_ = (_, _)›)) (draw_keeps ..)) | with_reducible apply updEng_keeps
    | with_reducible apply recordMax_keeps | with_reducible apply foldl_keeps | with_reducible apply ite_keeps | intro _ | split | contradiction
    | dsimp only

theorem inTick_keeps (s : State) (e : EngineId) (f : InRec → State → State) (h : Keeps r s) (h_f : ∀ x0 t, Keeps r t → Keeps r (f x0 t)) : Keeps r (State.inTick s e f) := by
  unfold State.inTick
  try extract_lets
  repeat' first
    | with_reducible assumption | with_reducible apply h_f | with_reducible apply failEngine_keeps | with_reducible apply enterTick_keeps
    | with_reducible apply runStart_keeps | with_reducible apply foldl_keeps | with_reducible apply ite_keeps | intro _ | split | contradiction
    | dsimp only

theorem ackPoint_keeps (s : State) (e : EngineId) (r1 : InRec) (p : Nat) (h : Keeps r s) : Keeps r (State.ackPoint s e r1 p) := by
  unfold State.ackPoint
  try extract_lets
  repeat' first
    | with_reducible assumption | with_reducible apply noteInvalid_keeps | with_reducible apply pointEvent_keeps | with_reducible apply setPt_keeps
    | with_reducible apply foldl_keeps | with_reducible apply ite_keeps | intro _ | split | contradiction | dsimp only

theorem evalAckPoint_keeps (s : State) (e : EngineId) (r1 : InRec) (h : Keeps r s) : Keeps r (State.evalAckPoint s e r1).2 := by
  unfold State.evalAckPoint
  try extract_lets
  repeat' first
    | with_reducible assumption | with_reducible apply ackPoint_keeps | with_reducible apply foldl_keeps | with_reducible apply ite_keeps | intro _
    | split | contradiction | dsimp only

theorem evalShelve_keeps (s : State) (e : EngineId) (r1 : InRec) (h : Keeps r s) : Keeps r (State.evalShelve s e r1).2 := by
  unfold State.evalShelve
  try extract_lets
  repeat' first
    | with_reducible assumption | with_reducible apply noteInvalid_keeps | with_reducible apply setPt_keeps | with_reducible apply report__keeps
    | with_reducible apply foldl_keeps | with_reducible apply ite_keeps | intro _ | split | contradiction | dsimp only

theorem evalUnshelve_keeps (s : State) (e : EngineId) (r1 : InRec) (h : Keeps r s) : Keeps r (State.evalUnshelve s e r1).2 := by
  unfold State.evalUnshelve
  try extract_lets
  repeat' first
    | with_reducible assumption | with_reducible apply endShelve_keeps | with_reducible apply noteInvalid_keeps | with_reducible apply foldl_keeps
    | with_reducible apply ite_keeps | intro _ | split | contradiction | dsimp only

theorem force_keeps (s : State) (e : EngineId) (r1 : InRec) (p : Nat) (c : PCfg) (v : F32) (h : Keeps r s) : Keeps r (State.force s e r1 p c v) := by
  unfold State.force
  try extract_lets
  repeat' first
    | with_reducible assumption | with_reducible apply moveTo_keeps | with_reducible apply setPt_keeps | with_reducible apply report__keeps
    | with_reducible apply foldl_keeps | with_reducible apply ite_keeps | intro _ | split | contradiction | dsimp only

theorem evalForcePoint_keeps (s : State) (e : EngineId) (r1 : InRec) (h : Keeps r s) : Keeps r (State.evalForcePoint s e r1).2 := by
  unfold State.evalForcePoint
  try extract_lets
  repeat' first
    | with_reducible assumption | with_reducible apply noteInvalid_keeps | with_reducible apply force_keeps | with_reducible apply report__keeps
    | with_reducible apply foldl_keeps | with_reducible apply ite_keeps | intro _ | split | contradiction | dsimp only

theorem evalPointRead_keeps (s : State) (e : EngineId) (r1 : InRec) (h : Keeps r s) : Keeps r (State.evalPointRead s e r1).2 := by
  unfold State.evalPointRead
  try extract_lets
  repeat' first
    | with_reducible assumption | with_reducible apply foldl_keeps | with_reducible apply ite_keeps | intro _ | split | contradiction | dsimp only

theorem ackMembers_keeps (s : State) (e : EngineId) (r1 : InRec) (g : Nat) (h : Keeps r s) : Keeps r (State.ackMembers s e r1 g) := by
  unfold State.ackMembers
  try extract_lets
  repeat' first
    | with_reducible assumption | with_reducible apply noteInvalid_keeps | with_reducible apply ackPoint_keeps | with_reducible apply foldl_keeps
    | with_reducible apply ite_keeps | intro _ | split | contradiction | dsimp only

theorem evalAckGroup_keeps (s : State) (e : EngineId) (r1 : InRec) (h : Keeps r s) : Keeps r (State.evalAckGroup s e r1).2 := by
  unfold State.evalAckGroup
  try extract_lets
  repeat' first
    | with_reducible assumption | with_reducible apply noteGroup_keeps | with_reducible apply ackMembers_keeps | with_reducible apply callTo_keeps
    | with_reducible apply foldl_keeps | with_reducible apply ite_keeps | intro _ | split | contradiction | dsimp only

theorem evalCallManual_keeps (s : State) (e : EngineId) (r1 : InRec) (h : Keeps r s) : Keeps r (State.evalCallManual s e r1).2 := by
  unfold State.evalCallManual
  try extract_lets
  repeat' first
    | with_reducible assumption | with_reducible apply noteGroup_keeps | with_reducible apply callTo_keeps | with_reducible apply foldl_keeps
    | with_reducible apply ite_keeps | intro _ | split | contradiction | dsimp only

theorem evalCallSilence_keeps (s : State) (e : EngineId) (r1 : InRec) (h : Keeps r s) : Keeps r (State.evalCallSilence s e r1).2 := by
  unfold State.evalCallSilence
  try extract_lets
  repeat' first
    | with_reducible assumption | with_reducible apply noteGroup_keeps | with_reducible apply callTo_keeps | with_reducible apply foldl_keeps
    | with_reducible apply ite_keeps | intro _ | split | contradiction | dsimp only

theorem evalDeadmanReset_keeps (s : State) (e : EngineId) (r1 : InRec) (h : Keeps r s) : Keeps r (State.evalDeadmanReset s e r1).2 := by
  unfold State.evalDeadmanReset
  try extract_lets
  repeat' first
    | with_reducible assumption | with_reducible apply noteGroup_keeps | with_reducible apply press_keeps | with_reducible apply foldl_keeps
    | with_reducible apply ite_keeps | intro _ | split | contradiction | dsimp only

theorem evalCmd_keeps (s : State) (e : EngineId) (opcode : Nat) (f : InRec → State → Eval) (h : Keeps r s)
    (h_f : ∀ x t, Keeps r t → Keeps r (f x t).2) : Keeps r (s.evalCmd e opcode f) := by
  unfold State.evalCmd
  refine evaluate_keeps _ _ _ _ h fun x t ht => ?_
  have := h_f x t ht
  split
  next e => rw [e] at this; exact ⟨this.pending, this.inv⟩

theorem evalOp_keeps (s : State) (op : Nat) (e : EngineId) (r1 : InRec) (h : Keeps r s) : Keeps r (State.evalOp s op e r1).2 := by
  unfold State.evalOp
  try extract_lets
  repeat' first
    | with_reducible assumption | with_reducible apply evalPointRead_keeps
    | (with_reducible refine Eq.mp (congrArg (Keeps r) (congrArg Prod.snd ‹_ = (_, _)›)) (evalPointRead_keeps ..))
    | with_reducible apply evalAckPoint_keeps
    | (with_reducible refine Eq.mp (congrArg (Keeps r) (congrArg Prod.snd ‹_ = (_, _)›)) (evalAckPoint_keeps ..))
    | with_reducible apply evalAckGroup_keeps
    | (with_reducible refine Eq.mp (congrArg (Keeps r) (congrArg Prod.snd ‹_ = (_, _)›)) (evalAckGroup_keeps ..))
    | with_reducible apply evalShelve_keeps
    | (with_reducible refine Eq.mp (congrArg (Keeps r) (congrArg Prod.snd ‹_ = (_, _)›)) (evalShelve_keeps ..))
    | with_reducible apply evalUnshelve_keeps
    | (with_reducible refine Eq.mp (congrArg (Keeps r) (congrArg Prod.snd ‹_ = (_, _)›)) (evalUnshelve_keeps ..))
    | with_reducible apply evalForcePoint_keeps
    | (with_reducible refine Eq.mp (congrArg (Keeps r) (congrArg Prod.snd ‹_ = (_, _)›)) (evalForcePoint_keeps ..))
    | with_reducible apply evalCallManual_keeps
    | (with_reducible refine Eq.mp (congrArg (Keeps r) (congrArg Prod.snd ‹_ = (_, _)›)) (evalCallManual_keeps ..))
    | with_reducible apply evalCallSilence_keeps
    | (with_reducible refine Eq.mp (congrArg (Keeps r) (congrArg Prod.snd ‹_ = (_, _)›)) (evalCallSilence_keeps ..))
    | with_reducible apply evalDeadmanReset_keeps
    | (with_reducible refine Eq.mp (congrArg (Keeps r) (congrArg Prod.snd ‹_ = (_, _)›)) (evalDeadmanReset_keeps ..))
    | with_reducible apply foldl_keeps | with_reducible apply ite_keeps | intro _ | split | contradiction | dsimp only

theorem fillMark_keeps (s : State) (isn : U64) (ext : List Byte) (h : Keeps r s) : Keeps r (State.fillMark s isn ext) := by
  unfold State.fillMark
  try extract_lets
  repeat' first
    | with_reducible assumption | with_reducible apply updSpawn_keeps | with_reducible apply foldl_keeps | with_reducible apply ite_keeps | intro _
    | split | contradiction | dsimp only

theorem evalMark_keeps (s : State) (e : EngineId) (h : Keeps r s) : Keeps r (State.evalMark s e) := by
  unfold State.evalMark
  try extract_lets
  repeat' first
    | with_reducible assumption | with_reducible apply runStart_keeps | with_reducible apply fillMark_keeps | with_reducible apply updSpawn_keeps
    | with_reducible apply lineWritten_keeps | with_reducible apply evaluated_keeps | with_reducible apply updEng_keeps
    | with_reducible apply setRegFld_keeps | with_reducible apply failEngine_keeps | with_reducible apply foldl_keeps | with_reducible apply ite_keeps
    | intro _ | split | contradiction | dsimp only

theorem takeStatus_keeps (s : State) (e : EngineId) (r1 : InRec) (h : Keeps r s) : Keeps r (State.takeStatus s e r1) := by
  unfold State.takeStatus
  try extract_lets
  repeat' first
    | with_reducible assumption | with_reducible apply setReg_keeps | with_reducible apply updEng_keeps | with_reducible apply foldl_keeps
    | with_reducible apply ite_keeps | intro _ | split | contradiction | dsimp only

theorem divergeReads_keeps (s : State) (e : EngineId) (arg : U32) (h : Keeps r s) : Keeps r (State.divergeReads s e arg) := by
  unfold State.divergeReads
  try extract_lets
  repeat' first
    | with_reducible assumption | with_reducible apply noteInvalid_keeps | with_reducible apply foldl_keeps | with_reducible apply ite_keeps | intro _
    | split | contradiction | dsimp only

theorem onDiverge_keeps (s : State) (e : EngineId) (r1 : InRec) (h : Keeps r s) : Keeps r (State.onDiverge s e r1) := by
  unfold State.onDiverge
  try extract_lets
  repeat' first
    | with_reducible assumption | with_reducible apply putNode_keeps | with_reducible apply divergeReads_keeps | with_reducible apply bump_keeps
    | with_reducible apply updEng_keeps | with_reducible apply divergeDone_keeps | with_reducible apply foldl_keeps | with_reducible apply ite_keeps
    | intro _ | split | contradiction | dsimp only

theorem resetPoint_keeps (s : State) (e : EngineId) (r1 : InRec) (p : Nat) (prio : Nat) (custody : Bool) (st : Byte) (h : Keeps r s) : Keeps r (State.resetPoint s e r1 p prio custody st) := by
  unfold State.resetPoint
  try extract_lets
  repeat' first
    | with_reducible assumption | with_reducible apply pointEvent_keeps | with_reducible apply setPt_keeps | with_reducible apply foldl_keeps
    | with_reducible apply ite_keeps | intro _ | split | contradiction | dsimp only

theorem onRepair_keeps (s : State) (e : EngineId) (r1 : InRec) (h : Keeps r s) : Keeps r (State.onRepair s e r1) := by
  unfold State.onRepair
  try extract_lets
  repeat' first
    | with_reducible assumption | with_reducible apply resetHalf_keeps | with_reducible apply noteGroup_keeps | with_reducible apply noteInvalid_keeps
    | with_reducible apply resetPoint_keeps | with_reducible apply foldl_keeps | with_reducible apply ite_keeps | intro _ | split | contradiction
    | dsimp only

theorem onSourceGap_keeps (s : State) (e : EngineId) (r1 : InRec) (h : Keeps r s) : Keeps r (State.onSourceGap s e r1) := by
  unfold State.onSourceGap
  try extract_lets
  repeat' first
    | with_reducible assumption | with_reducible apply putNode_keeps | with_reducible apply foldl_keeps | with_reducible apply ite_keeps | intro _
    | split | contradiction | dsimp only

theorem onStatus_keeps (s : State) (e : EngineId) (r1 : InRec) (h : Keeps r s) : Keeps r (State.onStatus s e r1) := by
  unfold State.onStatus
  try extract_lets
  repeat' first
    | with_reducible assumption | with_reducible apply health_keeps | with_reducible apply takeStatus_keeps | with_reducible apply foldl_keeps
    | with_reducible apply ite_keeps | intro _ | split | contradiction | dsimp only

theorem onCopy_keeps (s : State) (e : EngineId) (r1 : InRec) (h : Keeps r s) : Keeps r (State.onCopy s e r1) := by
  unfold State.onCopy
  try extract_lets
  repeat' first
    | with_reducible assumption | with_reducible apply takeStatus_keeps | with_reducible apply updSkink_keeps | with_reducible apply updEng_keeps
    | with_reducible apply foldl_keeps | with_reducible apply ite_keeps | intro _ | split | contradiction | dsimp only

theorem onAudit_keeps (s : State) (e : EngineId) (r1 : InRec) (h : Keeps r s) : Keeps r (State.onAudit s e r1) := by
  unfold State.onAudit
  try extract_lets
  repeat' first
    | with_reducible assumption | with_reducible apply updEng_keeps | with_reducible apply takeStatus_keeps | with_reducible apply foldl_keeps
    | with_reducible apply ite_keeps | intro _ | split | contradiction | dsimp only

theorem onResync_keeps (s : State) (e : EngineId) (r1 : InRec) (h : Keeps r s) : Keeps r (State.onResync s e r1) := by
  unfold State.onResync
  try extract_lets
  repeat' first
    | with_reducible assumption | with_reducible apply onStatus_keeps | with_reducible apply onCopy_keeps | with_reducible apply onAudit_keeps
    | with_reducible apply onDiverge_keeps | with_reducible apply takeStatus_keeps | with_reducible apply onRepair_keeps
    | with_reducible apply foldl_keeps | with_reducible apply ite_keeps | intro _ | split | contradiction | dsimp only

theorem onRecord_keeps (s : State) (e : EngineId) (r1 : InRec) (h : Keeps r s) : Keeps r (State.onRecord s e r1) := by
  unfold State.onRecord
  try extract_lets
  repeat' first
    | with_reducible assumption | with_reducible apply onSample_keeps | with_reducible apply onDiChange_keeps | with_reducible apply onCount_keeps
    | with_reducible apply onCanFrame_keeps | with_reducible apply onTick_keeps | with_reducible apply onSourceGap_keeps
    | with_reducible apply onResync_keeps | with_reducible apply putSeal_keeps | with_reducible apply foldl_keeps | with_reducible apply ite_keeps
    | intro _ | split | contradiction | dsimp only

theorem evalNext_keeps (s : State) (e : EngineId) (h : Keeps r s) : Keeps r (State.evalNext s e) := by
  unfold State.evalNext
  try extract_lets
  repeat' first
    | with_reducible assumption | with_reducible apply evalMark_keeps | with_reducible apply evalCmd_keeps | with_reducible apply evalOp_keeps
    | (with_reducible refine Eq.mp (congrArg (Keeps r) (congrArg Prod.snd ‹_ = (_, _)›)) (evalOp_keeps ..)) | with_reducible apply evaluate_keeps
    | with_reducible apply onRecord_keeps | with_reducible apply foldl_keeps | with_reducible apply ite_keeps | intro _ | split | contradiction
    | dsimp only

theorem pointAdjust_keeps (s : State) (e : EngineId) (r1 : InRec) (p : Nat) (old : PCfg) (new : PCfg) (h : Keeps r s) : Keeps r (State.pointAdjust s e r1 p old new) := by
  unfold State.pointAdjust
  try extract_lets
  repeat' first
    | with_reducible assumption | with_reducible apply decide__keeps
    | (with_reducible refine Eq.mp (congrArg (Keeps r) (congrArg Prod.fst ‹_ = (_, _)›)) (decide__keeps ..)) | with_reducible apply setPt_keeps
    | with_reducible apply delayTick_keeps | with_reducible apply endShelve_keeps | with_reducible apply foldl_keeps | with_reducible apply ite_keeps
    | intro _ | split | contradiction | dsimp only

theorem leaveGroup_keeps (s : State) (e : EngineId) (p : Nat) (old : PCfg) (new : PCfg) (h : Keeps r s) : Keeps r (State.leaveGroup s e p old new) := by
  unfold State.leaveGroup
  try extract_lets
  repeat' first
    | with_reducible assumption | with_reducible apply updGr_keeps | with_reducible apply foldl_keeps | with_reducible apply ite_keeps | intro _
    | split | contradiction | dsimp only

theorem pointWritten_keeps (s : State) (e : EngineId) (r1 : InRec) (p : Nat) (old : PCfg) (new : PCfg) (h : Keeps r s) : Keeps r (State.pointWritten s e r1 p old new) := by
  unfold State.pointWritten
  try extract_lets
  repeat' first
    | with_reducible assumption | with_reducible apply leaveGroup_keeps | with_reducible apply resetPoint_keeps
    | with_reducible apply pointAdjust_keeps | with_reducible apply foldl_keeps | with_reducible apply ite_keeps | intro _ | split | contradiction
    | dsimp only

theorem fetchMore_keeps (s : State) (n : Nat) (h : Keeps r s) : Keeps r (State.fetchMore s n) := by
  unfold State.fetchMore
  try extract_lets
  repeat' first
    | with_reducible assumption | with_reducible apply emitOut_keeps | with_reducible apply foldl_keeps | with_reducible apply ite_keeps | intro _
    | split | contradiction | dsimp only

theorem takeHead_keeps (s : State) (n : Nat) (h : Keeps r s) : Keeps r (s.takeHead n) :=
  fetchMore_keeps _ _ (consume_keeps _ _ h)

theorem done_keeps (s : State) (d : Desc) (status : Nat) (result : U64) (h : Keeps r s) : Keeps r (State.done s d status result) := by
  unfold State.done
  try extract_lets
  repeat' first
    | with_reducible assumption | with_reducible apply complete_keeps | with_reducible apply foldl_keeps | with_reducible apply ite_keeps | intro _
    | split | contradiction | dsimp only

theorem dirCmd_keeps (s : State) (op : Nat) (f : Desc → State → State) (h : Keeps r s) (h_f : ∀ x0 t, Keeps r t → Keeps r (f x0 t)) : Keeps r (State.dirCmd s op f) := by
  unfold State.dirCmd
  try extract_lets
  repeat' first
    | with_reducible assumption | with_reducible apply h_f | with_reducible apply takeHead_keeps | with_reducible apply done_keeps
    | with_reducible apply foldl_keeps | with_reducible apply ite_keeps | intro _ | split | contradiction | dsimp only

theorem submit_keeps (s : State) (u : CmdUnit) (h : Keeps r s) : Keeps r (State.submit s u) := by
  unfold State.submit
  try extract_lets
  repeat' first
    | with_reducible assumption | with_reducible apply foldl_keeps | with_reducible apply ite_keeps | intro _ | split | contradiction | dsimp only

theorem recTake_keeps (s : State) (op : Nat) (h : Keeps r s) : Keeps r (State.recTake s op) := by
  unfold State.recTake
  try extract_lets
  repeat' first
    | with_reducible assumption | with_reducible apply takeHead_keeps | with_reducible apply done_keeps | with_reducible apply submit_keeps
    | with_reducible apply foldl_keeps | with_reducible apply ite_keeps | intro _ | split | contradiction | dsimp only

theorem cfgTake_keeps (s : State) (op : Nat) (check : Desc → State → Nat × State ⊕ CmdUnit) (h : Keeps r s)
    (hc : ∀ d t x, Keeps r t → check d t = .inl x → Keeps r x.2) : Keeps r (s.cfgTake op check) := by
  unfold State.cfgTake
  split
  · exact h
  · next d _ =>
    extract_lets t
    have ht : Keeps r t := takeHead_keeps _ _ h
    refine ite_keeps _ _ _ (fun _ => h) fun _ => ite_keeps _ _ _ (fun _ => done_keeps _ _ _ _ ht) fun _ => ?_
    split
    · next st y e => exact done_keeps _ _ _ _ (hc _ _ _ ht e)
    · exact submit_keeps _ _ ht

theorem writeCompletion_keeps (s : State) (h : Keeps r s) : Keeps r (State.writeCompletion s) := by
  unfold State.writeCompletion
  try extract_lets
  repeat' first
    | with_reducible assumption | with_reducible apply postEntry_keeps | with_reducible apply foldl_keeps | with_reducible apply ite_keeps | intro _
    | split | contradiction | dsimp only

theorem goodRx_keeps (s : State) (n : Nat) (h : Keeps r s) : Keeps r (State.goodRx s n) := by
  unfold State.goodRx
  try extract_lets
  repeat' first
    | with_reducible assumption | with_reducible apply setErr_keeps | with_reducible apply draw_keeps
    | (with_reducible refine Eq.mp (congrArg (Keeps r) (congrArg Prod.snd ‹_ = (_, _)›)) (draw_keeps ..)) | with_reducible apply foldl_keeps
    | with_reducible apply ite_keeps | intro _ | split | contradiction | dsimp only

theorem canReceive_keeps (s : State) (n : Nat) (f : CanFrame) (h : Keeps r s) : Keeps r (State.canReceive s n f) := by
  unfold State.canReceive
  try extract_lets
  repeat' first
    | with_reducible assumption | with_reducible apply bump_keeps | with_reducible apply goodRx_keeps | with_reducible apply updCan_keeps
    | with_reducible apply markLoss_keeps | with_reducible apply raise_keeps | with_reducible apply foldl_keeps | with_reducible apply ite_keeps
    | intro _ | split | contradiction | dsimp only

theorem canExtract_keeps (s : State) (n : Nat) (f : CanFrame) (time : U64) (e : FiltElem) (h : Keeps r s) : Keeps r (State.canExtract s n f time e) := by
  unfold State.canExtract
  try extract_lets
  repeat' first
    | with_reducible assumption | with_reducible apply bump_keeps | with_reducible apply offer_keeps | with_reducible apply raise_keeps
    | with_reducible apply foldl_keeps | with_reducible apply ite_keeps | intro _ | split | contradiction | dsimp only

theorem canToRing_keeps (s : State) (n : Nat) (f : CanFrame) (time : U64) (q : U32) (filter : Nat) (h : Keeps r s) : Keeps r (State.canToRing s n f time q filter) := by
  unfold State.canToRing
  try extract_lets
  repeat' first
    | with_reducible assumption | with_reducible apply canRing_keeps
    | (with_reducible refine Eq.mp (congrArg (Keeps r) (congrArg Prod.fst ‹_ = (_, _)›)) (canRing_keeps ..)) | with_reducible apply bump_keeps
    | with_reducible apply foldl_keeps | with_reducible apply ite_keeps | intro _ | split | contradiction | dsimp only

theorem route_keeps (s : State) (n : Nat) (f : CanFrame) (time : U64) (q : U32) (w : Walk) (h : Keeps r s) : Keeps r (State.route s n f time q w) := by
  unfold State.route
  try extract_lets
  repeat' first
    | with_reducible assumption | with_reducible apply bump_keeps | with_reducible apply canToRing_keeps | with_reducible apply canExtract_keeps
    | with_reducible apply foldl_keeps | with_reducible apply ite_keeps | intro _ | split | contradiction | dsimp only

theorem walkNext_keeps (s : State) (h : Keeps r s) : Keeps r (State.walkNext s) := by
  unfold State.walkNext
  try extract_lets
  repeat' first
    | with_reducible assumption | with_reducible apply updCan_keeps | with_reducible apply recordMax_keeps | with_reducible apply bump_keeps
    | with_reducible apply raise_keeps | with_reducible apply bumpBy_keeps | with_reducible apply echoesDue_keeps | with_reducible apply route_keeps
    | with_reducible apply foldl_keeps | with_reducible apply ite_keeps | intro _ | split | contradiction | dsimp only

theorem filtSettle_keeps (s : State) (n : Nat) (h : Keeps r s) : Keeps r (State.filtSettle s n) := by
  unfold State.filtSettle
  try extract_lets
  repeat' first
    | with_reducible assumption | with_reducible apply setCanStat_keeps | with_reducible apply updCan_keeps | with_reducible apply foldl_keeps
    | with_reducible apply ite_keeps | intro _ | split | contradiction | dsimp only

theorem attemptFails_keeps (s : State) (n : Nat) (t : TxSlot) (code : Nat) (h : Keeps r s) : Keeps r (State.attemptFails s n t code) := by
  unfold State.attemptFails
  try extract_lets
  repeat' first
    | with_reducible assumption | with_reducible apply cancelEnds_keeps | with_reducible apply txOutcome_keeps | with_reducible apply freeTx_keeps
    | with_reducible apply bump_keeps | with_reducible apply updCan_keeps | with_reducible apply foldl_keeps | with_reducible apply ite_keeps
    | intro _ | split | contradiction | dsimp only

theorem noAck_keeps (s : State) (n : Nat) (h : Keeps r s) : Keeps r (State.noAck s n) := by
  unfold State.noAck
  try extract_lets
  repeat' first
    | with_reducible assumption | with_reducible apply bump_keeps | with_reducible apply setReg_keeps | with_reducible apply raise_keeps
    | with_reducible apply setCanStat_keeps | with_reducible apply foldl_keeps | with_reducible apply ite_keeps | intro _ | split | contradiction
    | dsimp only

theorem acked_keeps (s : State) (n : Nat) (h : Keeps r s) : Keeps r (State.acked s n) := by
  unfold State.acked
  try extract_lets
  repeat' first
    | with_reducible assumption | with_reducible apply canQuiet_keeps | with_reducible apply raise_keeps | with_reducible apply foldl_keeps
    | with_reducible apply ite_keeps | intro _ | split | contradiction | dsimp only

theorem txError_keeps (s : State) (n : Nat) (h : Keeps r s) : Keeps r (State.txError s n) := by
  unfold State.txError
  try extract_lets
  repeat' first
    | with_reducible assumption | with_reducible apply setErr_keeps | with_reducible apply foldl_keeps | with_reducible apply ite_keeps | intro _
    | split | contradiction | dsimp only

theorem loopDelay_keeps (s : State) (n : Nat) (t : TxSlot) (r1 : TxResult) (h : Keeps r s) : Keeps r (State.loopDelay s n t r1) := by
  unfold State.loopDelay
  try extract_lets
  repeat' first
    | with_reducible assumption | with_reducible apply draw_keeps
    | (with_reducible refine Eq.mp (congrArg (Keeps r) (congrArg Prod.snd ‹_ = (_, _)›)) (draw_keeps ..)) | with_reducible apply setRegFld_keeps
    | with_reducible apply foldl_keeps | with_reducible apply ite_keeps | intro _ | split | contradiction | dsimp only

theorem attemptEnd_keeps (s : State) (n : Nat) (t : TxSlot) (r1 : TxResult) (h : Keeps r s) : Keeps r (State.attemptEnd s n t r1) := by
  unfold State.attemptEnd
  dsimp only
  repeat' first
    | with_reducible assumption | with_reducible apply loopDelay_keeps | with_reducible apply emitOut_keeps | with_reducible apply acked_keeps
    | with_reducible apply bump_keeps | with_reducible apply setErr_keeps | with_reducible apply txOutcome_keeps | with_reducible apply freeTx_keeps
    | with_reducible apply cancelEnds_keeps | with_reducible apply noAck_keeps | with_reducible apply errFrame_keeps
    | with_reducible apply txError_keeps | with_reducible apply attemptFails_keeps | with_reducible apply canOff_keeps
    | with_reducible apply canJoin_keeps | with_reducible apply foldl_keeps | with_reducible apply ite_keeps | intro _ | split | contradiction
    | dsimp only

theorem attemptStart_keeps (s : State) (n : Nat) (h : Keeps r s) : Keeps r (State.attemptStart s n) := by
  unfold State.attemptStart
  try extract_lets
  repeat' first
    | with_reducible assumption | with_reducible apply updCan_keeps | with_reducible apply foldl_keeps | with_reducible apply ite_keeps | intro _
    | split | contradiction | dsimp only

theorem takeTx_keeps (s : State) (n : Nat) (h : Keeps r s) : Keeps r (State.takeTx s n) := by
  unfold State.takeTx
  try extract_lets
  repeat' first
    | with_reducible assumption | with_reducible apply takeHead_keeps | with_reducible apply setReg_keeps | with_reducible apply foldl_keeps
    | with_reducible apply ite_keeps | intro _ | split | contradiction | dsimp only

theorem takeEntry_keeps (s : State) (n : Nat) (h : Keeps r s) : Keeps r (State.takeEntry s n) := by
  unfold State.takeEntry
  try extract_lets
  repeat' first
    | with_reducible assumption | with_reducible apply takeTx_keeps | with_reducible apply updCan_keeps | with_reducible apply txOutcome_keeps
    | with_reducible apply foldl_keeps | with_reducible apply ite_keeps | intro _ | split | contradiction | dsimp only

theorem cancelPrefetched_keeps (s : State) (n : Nat) (hit : U16 → Bool) (h : Keeps r s) : Keeps r (State.cancelPrefetched s n hit).1 := by
  unfold State.cancelPrefetched
  try extract_lets
  repeat' first
    | with_reducible assumption | with_reducible apply advanceRing_keeps | with_reducible apply setReg_keeps | with_reducible apply txOutcome_keeps
    | with_reducible apply fetchMore_keeps | with_reducible apply foldl_keeps | with_reducible apply ite_keeps | intro _ | split | contradiction
    | dsimp only

theorem cancel_keeps (s : State) (d : Desc) (h : Keeps r s) : Keeps r (State.cancel s d) := by
  unfold State.cancel
  try extract_lets
  repeat' first
    | with_reducible assumption | with_reducible apply done_keeps | with_reducible apply endFrames_keeps | with_reducible apply cancelPrefetched_keeps
    | (with_reducible refine Eq.mp (congrArg (Keeps r) (congrArg Prod.fst ‹_ = (_, _)›)) (cancelPrefetched_keeps ..))
    | with_reducible apply defer_keeps | with_reducible apply updCan_keeps | with_reducible apply foldl_keeps | with_reducible apply ite_keeps
    | intro _ | split | contradiction | dsimp only

theorem busOn_keeps (s : State) (n : Nat) (h : Keeps r s) : Keeps r (State.busOn s n) := by
  unfold State.busOn
  try extract_lets
  repeat' first
    | with_reducible assumption | with_reducible apply setCanStat_keeps | with_reducible apply canJoin_keeps | with_reducible apply canRecover_keeps
    | with_reducible apply foldl_keeps | with_reducible apply ite_keeps | intro _ | split | contradiction | dsimp only

theorem channelCtl_keeps (s : State) (d : Desc) (h : Keeps r s) : Keeps r (State.channelCtl s d) := by
  unfold State.channelCtl
  dsimp only
  repeat' first
    | with_reducible assumption | with_reducible apply done_keeps | with_reducible apply busOn_keeps | with_reducible apply setCanStat_keeps
    | with_reducible apply defer_keeps | with_reducible apply updCan_keeps | with_reducible apply canLeave_keeps | with_reducible apply foldl_keeps
    | with_reducible apply ite_keeps | intro _ | split | contradiction | dsimp only

theorem setScan_keeps (s : State) (lane : Nat) (p : Nat) (d : Nat) (en : Bool) (h : Keeps r s) : Keeps r (State.setScan s lane p d en) := by
  unfold State.setScan
  try extract_lets
  repeat' first
    | with_reducible assumption | with_reducible apply setReg_keeps | with_reducible apply foldl_keeps | with_reducible apply ite_keeps | intro _
    | split | contradiction | dsimp only

theorem xpRun_keeps (s : State) (atStart : Bool) (h : Keeps r s) : Keeps r (State.xpRun s atStart) := by
  unfold State.xpRun
  try extract_lets
  repeat' first
    | with_reducible assumption | with_reducible apply setReg_keeps | with_reducible apply foldl_keeps | with_reducible apply ite_keeps | intro _
    | split | contradiction | dsimp only

theorem updDef_keeps (s : State) (n : Nat) (f : DefState → DefState) (h : Keeps r s) : Keeps r (State.updDef s n f) := by
  unfold State.updDef
  try extract_lets
  repeat' first
    | with_reducible assumption | with_reducible apply foldl_keeps | with_reducible apply ite_keeps | intro _ | split | contradiction | dsimp only

theorem unscan_keeps (s : State) (lane : Nat) (n : Nat) (h : Keeps r s) : Keeps r (State.unscan s lane n) := by
  unfold State.unscan
  try extract_lets
  repeat' first
    | with_reducible assumption | with_reducible apply setScan_keeps | with_reducible apply foldl_keeps | with_reducible apply ite_keeps | intro _
    | split | contradiction | dsimp only

theorem place_keeps (s : State) (lane : Nat) (n : Nat) (h : Keeps r s) : Keeps r (State.place s lane n) := by
  unfold State.place
  try extract_lets
  repeat' first
    | with_reducible assumption | with_reducible apply setScan_keeps | with_reducible apply foldl_keeps | with_reducible apply ite_keeps | intro _
    | split | contradiction | dsimp only

theorem vacate_keeps (s : State) (lane : Nat) (n : Nat) (h : Keeps r s) : Keeps r (State.vacate s lane n) := by
  unfold State.vacate
  try extract_lets
  repeat' first
    | with_reducible assumption | with_reducible apply place_keeps | with_reducible apply unscan_keeps | with_reducible apply foldl_keeps
    | with_reducible apply ite_keeps | intro _ | split | contradiction | dsimp only

theorem rescan_keeps (s : State) (n : Nat) (old : Nat) (new : Nat) (h : Keeps r s) : Keeps r (State.rescan s n old new) := by
  unfold State.rescan
  try extract_lets
  repeat' first
    | with_reducible assumption | with_reducible apply vacate_keeps | with_reducible apply place_keeps | with_reducible apply foldl_keeps
    | with_reducible apply ite_keeps | intro _ | split | contradiction | dsimp only

theorem eccRepair_keeps (s : State) (o : Off) (h : Keeps r s) : Keeps r (State.eccRepair s o) := by
  unfold State.eccRepair
  try extract_lets
  repeat' first
    | with_reducible assumption | with_reducible apply tarnWrite_keeps | with_reducible apply foldl_keeps | with_reducible apply ite_keeps | intro _
    | split | contradiction | dsimp only

theorem applyUnit_keeps (s : State) (u : CmdUnit) (h : Keeps r s) : Keeps r (State.applyUnit s u) := by
  unfold State.applyUnit
  try extract_lets
  repeat' first
    | with_reducible assumption | with_reducible apply tarnWrite_keeps | with_reducible apply eccRepair_keeps | with_reducible apply foldl_keeps
    | with_reducible apply ite_keeps | intro _ | split | contradiction | dsimp only

theorem applyScan_keeps (s : State) (u : CmdUnit) (h : Keeps r s) : Keeps r (State.applyScan s u) := by
  unfold State.applyScan
  try extract_lets
  repeat' first
    | with_reducible assumption | with_reducible apply rescan_keeps | with_reducible apply foldl_keeps | with_reducible apply ite_keeps | intro _
    | split | contradiction | dsimp only

theorem ahead_keeps (s : State) (h : Keeps r s) : Keeps r (State.ahead s) := by
  unfold State.ahead
  try extract_lets
  repeat' first
    | with_reducible assumption | with_reducible apply applyUnit_keeps | with_reducible apply applyScan_keeps | with_reducible apply foldl_keeps
    | with_reducible apply ite_keeps | intro _ | split | contradiction | dsimp only

theorem statusRec_keeps (s : State) (h : Keeps r s) : Keeps r (State.statusRec s).2 := by
  unfold State.statusRec
  try extract_lets
  repeat' first
    | with_reducible assumption | with_reducible apply takeSsn_keeps
    | (with_reducible refine Eq.mp (congrArg (Keeps r) (congrArg Prod.snd ‹_ = (_, _)›)) (takeSsn_keeps ..)) | with_reducible apply foldl_keeps
    | with_reducible apply ite_keeps | intro _ | split | contradiction | dsimp only

theorem ckptUnit_keeps (s : State) (have_ : Nat) (bs : List Byte) (h : Keeps r s) : Keeps r (State.ckptUnit s have_ bs) := by
  unfold State.ckptUnit
  try extract_lets
  repeat' first
    | with_reducible assumption | with_reducible apply updSpawn_keeps | with_reducible apply foldl_keeps | with_reducible apply ite_keeps | intro _
    | split | contradiction | dsimp only

theorem takeStatusRec_sublist (l : List (Nat × InRec)) (x : InRec) (v : List (Nat × InRec)) (e : takeStatusRec l = some (x, v)) :
    v.Sublist l := by
  induction l generalizing v with
  | nil => cases e
  | cons w l ih =>
    unfold takeStatusRec at e
    split at e
    · split at e
      · cases e
        exact List.sublist_cons_self w l
      · cases e
    · cases k : takeStatusRec l with
      | none => rw [k] at e; cases e
      | some y =>
        rw [k] at e
        cases e
        exact (ih _ k).cons_cons w

theorem statusNext_keeps (s : State) (h : Keeps r s) : Keeps r s.statusNext := by
  unfold State.statusNext
  split
  · next st w e =>
    refine ⟨h.pending, fun i => { h.inv i with credits := fun pl c hc => ?_ }⟩
    exact sublist_credits (takeStatusRec_sublist _ _ _ e) (h.inv i).credits pl c hc
  · have k := statusRec_keeps s h
    rcases e : s.statusRec with ⟨st, u⟩
    rw [e] at k
    exact ⟨k.pending, k.inv⟩

theorem markAdmitted_keeps (s : State) (r1 : InRec) (h : Keeps r s) : Keeps r (State.markAdmitted s r1) := by
  unfold State.markAdmitted
  try extract_lets
  repeat' first
    | with_reducible assumption | with_reducible apply setPair_keeps | with_reducible apply statusNext_keeps | with_reducible apply updSpawn_keeps
    | with_reducible apply foldl_keeps | with_reducible apply ite_keeps | intro _ | split | contradiction | dsimp only

theorem ckptStart_keeps (s : State) (h : Keeps r s) : Keeps r (State.ckptStart s) := by
  unfold State.ckptStart
  try extract_lets
  repeat' first
    | with_reducible assumption | with_reducible apply updSpawn_keeps | with_reducible apply setRegBit_keeps | with_reducible apply foldl_keeps
    | with_reducible apply ite_keeps | intro _ | split | contradiction | dsimp only

theorem spill_keeps (s : State) (h : Keeps r s) : Keeps r (State.spill s) := by
  unfold State.spill
  try extract_lets
  repeat' first
    | with_reducible assumption | with_reducible apply lineWritten_keeps | with_reducible apply foldl_keeps | with_reducible apply ite_keeps | intro _
    | split | contradiction | dsimp only

theorem admitRec_keeps (s : State) (r1 : InRec) (h : Keeps r s) : Keeps r (State.admitRec s r1) := by
  unfold State.admitRec
  try extract_lets
  repeat' first
    | with_reducible assumption | with_reducible apply bump_keeps | with_reducible apply spill_keeps | with_reducible apply recordMax_keeps
    | with_reducible apply ckptUnit_keeps | with_reducible apply markAdmitted_keeps | with_reducible apply journal_keeps
    | with_reducible apply ckptStart_keeps | with_reducible apply updSpawn_keeps | with_reducible apply foldl_keeps | with_reducible apply ite_keeps
    | intro _ | split | contradiction | dsimp only

theorem admitGap_keeps (s : State) (r1 : InRec) (expected : U16) (cause : Nat) (h : Keeps r s) : Keeps r (State.admitGap s r1 expected cause) := by
  unfold State.admitGap
  try extract_lets
  repeat' first
    | with_reducible assumption | with_reducible apply admitRec_keeps | with_reducible apply setReg_keeps | with_reducible apply bumpBy_keeps
    | with_reducible apply bump_keeps | with_reducible apply raise_keeps | with_reducible apply foldl_keeps | with_reducible apply ite_keeps | intro _
    | split | contradiction | dsimp only

theorem admitSource_keeps (s : State) (r1 : InRec) (h : Keeps r s) : Keeps r (State.admitSource s r1) := by
  unfold State.admitSource
  try extract_lets
  repeat' first
    | with_reducible assumption | with_reducible apply admitGap_keeps | with_reducible apply admitRec_keeps | with_reducible apply foldl_keeps
    | with_reducible apply ite_keeps | intro _ | split | contradiction | dsimp only

theorem openBarrier_keeps (s : State) (isn : U64) (u : CmdUnit) (h : Keeps r s) : Keeps r (State.openBarrier s isn u) := by
  unfold State.openBarrier
  try extract_lets
  repeat' first
    | with_reducible assumption | with_reducible apply setReg_keeps | with_reducible apply foldl_keeps | with_reducible apply ite_keeps | intro _
    | split | contradiction | dsimp only

theorem unitRec_keeps (s : State) (u : CmdUnit) (h : Keeps r s) : Keeps r (State.unitRec s u).2 := by
  unfold State.unitRec
  try extract_lets
  repeat' first
    | with_reducible assumption | with_reducible apply takeSsn_keeps
    | (with_reducible refine Eq.mp (congrArg (Keeps r) (congrArg Prod.snd ‹_ = (_, _)›)) (takeSsn_keeps ..)) | with_reducible apply foldl_keeps
    | with_reducible apply ite_keeps | intro _ | split | contradiction | dsimp only

theorem unitAdmitted_keeps (s : State) (u : CmdUnit) (h : Keeps r s) : Keeps r (State.unitAdmitted s u) := by
  unfold State.unitAdmitted
  try extract_lets
  repeat' first
    | with_reducible assumption | with_reducible apply openBarrier_keeps | with_reducible apply foldl_keeps | with_reducible apply ite_keeps | intro _
    | split | contradiction | dsimp only

theorem admitUnit_keeps (s : State) (u : CmdUnit) (l : List CmdUnit) (h : Keeps r s) : Keeps r (State.admitUnit s u l) := by
  unfold State.admitUnit
  try extract_lets
  repeat' first
    | with_reducible assumption | with_reducible apply unitRec_keeps
    | (with_reducible refine Eq.mp (congrArg (Keeps r) (congrArg Prod.snd ‹_ = (_, _)›)) (unitRec_keeps ..)) | with_reducible apply admitRec_keeps
    | with_reducible apply unitAdmitted_keeps | with_reducible apply foldl_keeps | with_reducible apply ite_keeps | intro _ | split | contradiction
    | dsimp only

theorem admitCmd_keeps (s : State) (h : Keeps r s) : Keeps r (s.admitCmd.getD s) := by
  unfold State.admitCmd
  split
  · exact admitUnit_keeps _ _ _ h
  · exact h

theorem geckoAdmitted_keeps (s : State) (r1 : InRec) (h : Keeps r s) : Keeps r (State.geckoAdmitted s r1) := by
  unfold State.geckoAdmitted
  try extract_lets
  repeat' first
    | with_reducible assumption | with_reducible apply finish_keeps | with_reducible apply openBarrier_keeps | with_reducible apply foldl_keeps
    | with_reducible apply ite_keeps | intro _ | split | contradiction | dsimp only

theorem admitPlace_keeps (s : State) (pl : Nat) (h : Keeps r s) (t : State) (e : s.admitPlace pl = some t) : Keeps r t := by
  unfold State.admitPlace at e
  split at e
  · simp at e
  · next x w hw =>
    simp only [Option.some.injEq] at e
    subst e
    have h1 : Keeps r { s with inlet := { s.inlet with waiting := w, rot := if pl < 58 then (pl + 1) % 58 else s.inlet.rot } } := by
      refine ⟨h.pending, fun i => { h.inv i with credits := sublist_credits (takePlace_sublist _ _ _ _ hw) (h.inv i).credits, rot := ?_ }⟩
      have := (h.inv i).rot
      dsimp only
      split <;> omega
    split
    · exact geckoAdmitted_keeps _ _ (admitSource_keeps _ _ h1)
    · exact admitSource_keeps _ _ h1

theorem findSome_keeps (f : Nat → Option State) (l : List Nat) (hf : ∀ x t, f x = some t → Keeps r t) (t : State)
    (e : l.findSome? f = some t) : Keeps r t := by
  obtain ⟨x, _, hx⟩ := List.exists_of_findSome?_eq_some e
  exact hf x t hx

theorem admitNext_keeps (s : State) (h : Keeps r s) : Keeps r s.admitNext := by
  unfold State.admitNext
  split
  · exact admitRec_keeps _ _ ⟨h.pending, fun i => { h.inv i with }⟩
  · split
    · exact admitCmd_keeps _ h
    · split
      · next t e => exact findSome_keeps _ _ (fun x t e => admitPlace_keeps s x h t e) t e
      · split
        · next t e => have := admitCmd_keeps s h; rw [e] at this; exact this
        · cases e : s.rotation.findSome? s.admitPlace with
          | none => exact h
          | some t => exact findSome_keeps _ _ (fun x t e => admitPlace_keeps s x h t e) t e

theorem creditCheck_keeps (s : State) (h : Keeps r s) : Keeps r (State.creditCheck s) := by
  unfold State.creditCheck
  try extract_lets
  repeat' first
    | with_reducible assumption | with_reducible apply failEngine_keeps | with_reducible apply foldl_keeps | with_reducible apply ite_keeps | intro _
    | split | contradiction | dsimp only

theorem beginHold_keeps (s : State) (h : Keeps r s) : Keeps r (State.beginHold s) := by
  unfold State.beginHold
  try extract_lets
  repeat' first
    | with_reducible assumption | with_reducible apply bump_keeps | with_reducible apply raise_keeps | with_reducible apply foldl_keeps
    | with_reducible apply ite_keeps | intro _ | split | contradiction | dsimp only

theorem admitRecord_keeps (s : State) (h : Keeps r s) : Keeps r (State.admitRecord s) := by
  unfold State.admitRecord
  try extract_lets
  repeat' first
    | with_reducible assumption | with_reducible apply creditCheck_keeps | with_reducible apply beginHold_keeps | with_reducible apply admitNext_keeps
    | with_reducible apply foldl_keeps | with_reducible apply ite_keeps | intro _ | split | contradiction | dsimp only

theorem issueTick_keeps (s : State) (h : Keeps r s) : Keeps r (State.issueTick s) := by
  unfold State.issueTick
  try extract_lets
  repeat' first
    | with_reducible assumption | with_reducible apply offer_keeps | with_reducible apply foldl_keeps | with_reducible apply ite_keeps | intro _
    | split | contradiction | dsimp only

theorem updDio_keeps (s : State) (f : Dio → Dio) (h : Keeps r s) : Keeps r (State.updDio s f) := by
  unfold State.updDio
  try extract_lets
  repeat' first
    | with_reducible assumption | with_reducible apply foldl_keeps | with_reducible apply ite_keeps | intro _ | split | contradiction | dsimp only

theorem updBank_keeps (s : State) (b : Nat) (f : Bank → Bank) (h : Keeps r s) : Keeps r (State.updBank s b f) := by
  unfold State.updBank
  try extract_lets
  repeat' first
    | with_reducible assumption | with_reducible apply updDio_keeps | with_reducible apply foldl_keeps | with_reducible apply ite_keeps | intro _
    | split | contradiction | dsimp only

theorem buildRequests_keeps (s : State) (h : Keeps r s) : Keeps r (State.buildRequests s) := by
  unfold State.buildRequests
  try extract_lets
  repeat' first
    | with_reducible assumption | with_reducible apply updDio_keeps | with_reducible apply foldl_keeps | with_reducible apply ite_keeps | intro _
    | split | contradiction | dsimp only

theorem noteBlocked_keeps (s : State) (h : Keeps r s) : Keeps r (State.noteBlocked s) := by
  unfold State.noteBlocked
  try extract_lets
  repeat' first
    | with_reducible assumption | with_reducible apply setPair_keeps | with_reducible apply foldl_keeps | with_reducible apply ite_keeps | intro _
    | split | contradiction | dsimp only

theorem refreshed_keeps (s : State) (b : Nat) (h : Keeps r s) : Keeps r (State.refreshed s b) := by
  unfold State.refreshed
  try extract_lets
  repeat' first
    | with_reducible assumption | with_reducible apply updBank_keeps | with_reducible apply setRegBit_keeps | with_reducible apply foldl_keeps
    | with_reducible apply ite_keeps | intro _ | split | contradiction | dsimp only

theorem applyImage_keeps (s : State) (b : Nat) (h : Keeps r s) : Keeps r (State.applyImage s b) := by
  unfold State.applyImage
  try extract_lets
  repeat' first
    | with_reducible assumption | with_reducible apply updBank_keeps | with_reducible apply foldl_keeps | with_reducible apply ite_keeps | intro _
    | split | contradiction | dsimp only

theorem frameOf_keeps (s : State) (refresh : Bool) (b : Nat) (img : U16) (h : Keeps r s) : Keeps r (State.frameOf s refresh b img) := by
  unfold State.frameOf
  try extract_lets
  repeat' first
    | with_reducible assumption | with_reducible apply setReg_keeps | with_reducible apply emitOut_keeps | with_reducible apply updBank_keeps
    | with_reducible apply refreshed_keeps | with_reducible apply applyImage_keeps | with_reducible apply foldl_keeps | with_reducible apply ite_keeps
    | intro _ | split | contradiction | dsimp only

theorem frameTo_keeps (s : State) (refresh : Bool) (b : Nat) (h : Keeps r s) : Keeps r (State.frameTo s refresh b) := by
  unfold State.frameTo
  try extract_lets
  repeat' first
    | with_reducible assumption | with_reducible apply frameOf_keeps | with_reducible apply foldl_keeps | with_reducible apply ite_keeps | intro _
    | split | contradiction | dsimp only

theorem frames_keeps (s : State) (newt : Nat) (refresh : Bool) (h : Keeps r s) : Keeps r (State.frames s newt refresh) := by
  unfold State.frames
  try extract_lets
  repeat' first
    | with_reducible assumption | with_reducible apply frameTo_keeps | with_reducible apply noteBlocked_keeps
    | with_reducible apply buildRequests_keeps | with_reducible apply foldl_keeps | with_reducible apply ite_keeps | intro _ | split | contradiction
    | dsimp only

theorem extraFrames_keeps (s : State) (h : Keeps r s) : Keeps r (State.extraFrames s) := by
  unfold State.extraFrames
  try extract_lets
  repeat' first
    | with_reducible assumption | with_reducible apply frames_keeps | with_reducible apply foldl_keeps | with_reducible apply ite_keeps | intro _
    | split | contradiction | dsimp only

theorem tmoEdges_keeps (before : State) (s : State) (h : Keeps r s) : Keeps r (State.tmoEdges before s) := by
  unfold State.tmoEdges
  try extract_lets
  repeat' first
    | with_reducible assumption | with_reducible apply extraFrames_keeps | with_reducible apply foldl_keeps | with_reducible apply ite_keeps | intro _
    | split | contradiction | dsimp only

theorem countWait_keeps (s : State) (n : Nat) (h : Keeps r s) : Keeps r (State.countWait s n) := by
  unfold State.countWait
  try extract_lets
  repeat' first
    | with_reducible assumption | with_reducible apply foldl_keeps | with_reducible apply ite_keeps | intro _ | split | contradiction | dsimp only

theorem pass_keeps (s : State) (n : Nat) (h : Keeps r s) : Keeps r (State.pass s n) := by
  unfold State.pass
  try extract_lets
  repeat' first
    | with_reducible assumption | with_reducible apply tmoEdges_keeps | with_reducible apply elapse_keeps | with_reducible apply countWait_keeps
    | with_reducible apply foldl_keeps | with_reducible apply ite_keeps | intro _ | split | contradiction | dsimp only

theorem newtRefresh_keeps (s : State) (newt : Nat) (late : Bool) (h : Keeps r s) : Keeps r (State.newtRefresh s newt late) := by
  unfold State.newtRefresh
  try extract_lets
  repeat' first
    | with_reducible assumption | with_reducible apply bump_keeps | with_reducible apply setRegBit_keeps | with_reducible apply frames_keeps
    | with_reducible apply raise_keeps | with_reducible apply foldl_keeps | with_reducible apply ite_keeps | intro _ | split | contradiction
    | dsimp only

theorem dioWrite_keeps (s : State) (d : Desc) (h : Keeps r s) : Keeps r (State.dioWrite s d) := by
  unfold State.dioWrite
  try extract_lets
  repeat' first
    | with_reducible assumption | with_reducible apply done_keeps | with_reducible apply extraFrames_keeps | with_reducible apply setPair_keeps
    | with_reducible apply bump_keeps | with_reducible apply foldl_keeps | with_reducible apply ite_keeps | intro _ | split | contradiction
    | dsimp only

theorem writeSafe_keeps (s : State) (h : Keeps r s) : Keeps r (State.writeSafe s) := by
  unfold State.writeSafe
  try extract_lets
  repeat' first
    | with_reducible assumption | with_reducible apply updBank_keeps | with_reducible apply foldl_keeps | with_reducible apply ite_keeps | intro _
    | split | contradiction | dsimp only

theorem wdExpire_keeps (s : State) (b : Nat) (h : Keeps r s) : Keeps r (State.wdExpire s b) := by
  unfold State.wdExpire
  try extract_lets
  repeat' first
    | with_reducible assumption | with_reducible apply updBank_keeps | with_reducible apply setRegBit_keeps | with_reducible apply raise_keeps
    | with_reducible apply bump_keeps | with_reducible apply foldl_keeps | with_reducible apply ite_keeps | intro _ | split | contradiction
    | dsimp only

theorem extendWatchdogs_keeps (s : State) (h : Keeps r s) : Keeps r (State.extendWatchdogs s) := by
  unfold State.extendWatchdogs
  try extract_lets
  repeat' first
    | with_reducible assumption | with_reducible apply setRegBit_keeps | with_reducible apply emitOut_keeps | with_reducible apply foldl_keeps
    | with_reducible apply ite_keeps | intro _ | split | contradiction | dsimp only

theorem mismatches_keeps (s : State) (b : Nat) (levels : U16) (settled : U16) (h : Keeps r s) : Keeps r (State.mismatches s b levels settled) := by
  unfold State.mismatches
  try extract_lets
  repeat' first
    | with_reducible assumption | with_reducible apply updBank_keeps | with_reducible apply setReg_keeps | with_reducible apply bump_keeps
    | with_reducible apply raise_keeps | with_reducible apply foldl_keeps | with_reducible apply ite_keeps | intro _ | split | contradiction
    | dsimp only

theorem offerDi_keeps (s : State) (b : Nat) (levels : U16) (h : Keeps r s) : Keeps r (State.offerDi s b levels) := by
  unfold State.offerDi
  try extract_lets
  repeat' first
    | with_reducible assumption | with_reducible apply bump_keeps | with_reducible apply offer_keeps | with_reducible apply updBank_keeps
    | with_reducible apply foldl_keeps | with_reducible apply ite_keeps | intro _ | split | contradiction | dsimp only

theorem windowEnd_keeps (s : State) (b : Nat) (pins : U16) (settled : U16) (h : Keeps r s) : Keeps r (State.windowEnd s b pins settled) := by
  unfold State.windowEnd
  try extract_lets
  repeat' first
    | with_reducible assumption | with_reducible apply mismatches_keeps | with_reducible apply setReg_keeps | with_reducible apply offerDi_keeps
    | with_reducible apply foldl_keeps | with_reducible apply ite_keeps | intro _ | split | contradiction | dsimp only

theorem updCounter_keeps (s : State) (k : Nat) (f : Counter → Counter) (h : Keeps r s) : Keeps r (State.updCounter s k f) := by
  unfold State.updCounter
  try extract_lets
  repeat' first
    | with_reducible assumption | with_reducible apply updDio_keeps | with_reducible apply foldl_keeps | with_reducible apply ite_keeps | intro _
    | split | contradiction | dsimp only

theorem offerCount_keeps (s : State) (k : Nat) (cycles : Nat) (h : Keeps r s) : Keeps r (State.offerCount s k cycles) := by
  unfold State.offerCount
  try extract_lets
  repeat' first
    | with_reducible assumption | with_reducible apply updCounter_keeps | with_reducible apply offer_keeps | with_reducible apply foldl_keeps
    | with_reducible apply ite_keeps | intro _ | split | contradiction | dsimp only

theorem newtStop_keeps (s : State) (newt : Nat) (h : Keeps r s) : Keeps r (State.newtStop s newt) := by
  unfold State.newtStop
  try extract_lets
  repeat' first
    | with_reducible assumption | with_reducible apply updDio_keeps | with_reducible apply setRegBit_keeps | with_reducible apply raise_keeps
    | with_reducible apply bump_keeps | with_reducible apply foldl_keeps | with_reducible apply ite_keeps | intro _ | split | contradiction
    | dsimp only

theorem newtStart_keeps (s : State) (newt : Nat) (h : Keeps r s) : Keeps r (State.newtStart s newt) := by
  unfold State.newtStart
  try extract_lets
  repeat' first
    | with_reducible assumption | with_reducible apply updDio_keeps | with_reducible apply setRegBit_keeps | with_reducible apply markLoss_keeps
    | with_reducible apply updBank_keeps | with_reducible apply updCounter_keeps | with_reducible apply foldl_keeps | with_reducible apply ite_keeps
    | intro _ | split | contradiction | dsimp only

theorem setFault_keeps (s : State) (b : Nat) (c : FaultCause) (h : Keeps r s) : Keeps r (State.setFault s b c) := by
  unfold State.setFault
  try extract_lets
  repeat' first
    | with_reducible assumption | with_reducible apply updBank_keeps | with_reducible apply raise_keeps | with_reducible apply bump_keeps
    | with_reducible apply setRegBit_keeps | with_reducible apply foldl_keeps | with_reducible apply ite_keeps | intro _ | split | contradiction
    | dsimp only

theorem clearFault_keeps (s : State) (b : Nat) (h : Keeps r s) : Keeps r (State.clearFault s b) := by
  unfold State.clearFault
  try extract_lets
  repeat' first
    | with_reducible assumption | with_reducible apply raise_keeps | with_reducible apply setRegBit_keeps | with_reducible apply updBank_keeps
    | with_reducible apply foldl_keeps | with_reducible apply ite_keeps | intro _ | split | contradiction | dsimp only

theorem fieldReset_keeps (s : State) (b : Nat) (h : Keeps r s) : Keeps r (State.fieldReset s b) := by
  unfold State.fieldReset
  try extract_lets
  repeat' first
    | with_reducible assumption | with_reducible apply updBank_keeps | with_reducible apply setRegBit_keeps | with_reducible apply foldl_keeps
    | with_reducible apply ite_keeps | intro _ | split | contradiction | dsimp only

theorem fieldStart_keeps (s : State) (b : Nat) (h : Keeps r s) : Keeps r (State.fieldStart s b) := by
  unfold State.fieldStart
  try extract_lets
  repeat' first
    | with_reducible assumption | with_reducible apply updBank_keeps | with_reducible apply raise_keeps | with_reducible apply bump_keeps
    | with_reducible apply setRegBit_keeps | with_reducible apply markLoss_keeps | with_reducible apply foldl_keeps | with_reducible apply ite_keeps
    | intro _ | split | contradiction | dsimp only

theorem thermalRetry_keeps (s : State) (n : Nat) (shorted : Bool) (h : Keeps r s) : Keeps r (State.thermalRetry s n shorted) := by
  unfold State.thermalRetry
  try extract_lets
  repeat' first
    | with_reducible assumption | with_reducible apply updBank_keeps | with_reducible apply foldl_keeps | with_reducible apply ite_keeps | intro _
    | split | contradiction | dsimp only

theorem dioRun_keeps (s : State) (h : Keeps r s) : Keeps r (State.dioRun s) := by
  unfold State.dioRun
  try extract_lets
  repeat' first
    | with_reducible assumption | with_reducible apply updDio_keeps | with_reducible apply updBank_keeps | with_reducible apply foldl_keeps
    | with_reducible apply ite_keeps | intro _ | split | contradiction | dsimp only

theorem setLaneBit_keeps (s : State) (lo : Off) (n : Nat) (b : Bool) (h : Keeps r s) : Keeps r (State.setLaneBit s lo n b) := by
  unfold State.setLaneBit
  try extract_lets
  repeat' first
    | with_reducible assumption | with_reducible apply setRegBit_keeps | with_reducible apply foldl_keeps | with_reducible apply ite_keeps | intro _
    | split | contradiction | dsimp only

theorem loadSettle_keeps (s : State) (n : Nat) (d : ChDef) (h : Keeps r s) : Keeps r (State.loadSettle s n d) := by
  unfold State.loadSettle
  try extract_lets
  repeat' first
    | with_reducible assumption | with_reducible apply updDef_keeps | with_reducible apply foldl_keeps | with_reducible apply ite_keeps | intro _
    | split | contradiction | dsimp only

theorem exDrives_keeps (s : State) (k : Nat) (mode : Nat) (lane : Nat) (h : Keeps r s) : Keeps r (State.exDrives s k mode lane) := by
  unfold State.exDrives
  try extract_lets
  repeat' first
    | with_reducible assumption | with_reducible apply setReg_keeps | with_reducible apply foldl_keeps | with_reducible apply ite_keeps | intro _
    | split | contradiction | dsimp only

theorem driveSource_keeps (s : State) (n : Nat) (d : ChDef) (h : Keeps r s) : Keeps r (State.driveSource s n d) := by
  unfold State.driveSource
  try extract_lets
  repeat' first
    | with_reducible assumption | with_reducible apply exDrives_keeps | with_reducible apply setReg_keeps | with_reducible apply bump_keeps
    | with_reducible apply foldl_keeps | with_reducible apply ite_keeps | intro _ | split | contradiction | dsimp only

theorem crosspoint_keeps (s : State) (n : Nat) (next : List XpSwitch) (h : Keeps r s) : Keeps r (State.crosspoint s n next) := by
  unfold State.crosspoint
  try extract_lets
  repeat' first
    | with_reducible assumption | with_reducible apply updLane_keeps | with_reducible apply restSource_keeps | with_reducible apply foldl_keeps
    | with_reducible apply ite_keeps | intro _ | split | contradiction | dsimp only

theorem calStart_keeps (s : State) (n : Nat) (h : Keeps r s) : Keeps r (State.calStart s n) := by
  unfold State.calStart
  try extract_lets
  repeat' first
    | with_reducible assumption | with_reducible apply crosspoint_keeps | with_reducible apply exDrives_keeps | with_reducible apply updLane_keeps
    | with_reducible apply foldl_keeps | with_reducible apply ite_keeps | intro _ | split | contradiction | dsimp only

theorem slotStart_keeps (s : State) (n : Nat) (h : Keeps r s) : Keeps r (State.slotStart s n) := by
  unfold State.slotStart
  extract_lets l next
  clear_value next
  repeat' first
    | with_reducible assumption | with_reducible apply crosspoint_keeps | with_reducible apply calStart_keeps | with_reducible apply driveSource_keeps
    | with_reducible apply loadSettle_keeps | with_reducible apply updDef_keeps | with_reducible apply updLane_keeps
    | with_reducible apply foldl_keeps | with_reducible apply ite_keeps | intro _ | split | contradiction | dsimp only

theorem offerSample_keeps (s : State) (n : Nat) (r1 : InRec) (h : Keeps r s) : Keeps r (State.offerSample s n r1) := by
  unfold State.offerSample
  try extract_lets
  repeat' first
    | with_reducible assumption | with_reducible apply bump_keeps | with_reducible apply offer_keeps | with_reducible apply foldl_keeps
    | with_reducible apply ite_keeps | intro _ | split | contradiction | dsimp only

theorem sourceReport_keeps (s : State) (d : ChDef) (comp : Bool) (excess : Bool) (quad : Bool) (h : Keeps r s) : Keeps r (State.sourceReport s d comp excess quad) := by
  unfold State.sourceReport
  try extract_lets
  repeat' first
    | with_reducible assumption | with_reducible apply bump_keeps | with_reducible apply raise_keeps | with_reducible apply foldl_keeps
    | with_reducible apply ite_keeps | intro _ | split | contradiction | dsimp only

theorem staleReport_keeps (s : State) (stale : Bool) (h : Keeps r s) : Keeps r (State.staleReport s stale) := by
  unfold State.staleReport
  try extract_lets
  repeat' first
    | with_reducible assumption | with_reducible apply bump_keeps | with_reducible apply raise_keeps | with_reducible apply foldl_keeps
    | with_reducible apply ite_keeps | intro _ | split | contradiction | dsimp only

theorem sample_keeps (s : State) (n : Nat) (sl : Slot) (m : SlotMeas) (h : Keeps r s) : Keeps r (State.sample s n sl m).2 := by
  unfold State.sample
  try extract_lets
  repeat' first
    | with_reducible assumption | with_reducible apply draw_keeps
    | (with_reducible refine Eq.mp (congrArg (Keeps r) (congrArg Prod.snd ‹_ = (_, _)›)) (draw_keeps ..)) | with_reducible apply staleReport_keeps
    | with_reducible apply sourceReport_keeps | with_reducible apply updDef_keeps | with_reducible apply setReg_keeps
    | with_reducible apply foldl_keeps | with_reducible apply ite_keeps | intro _ | split | contradiction | dsimp only

theorem slotEnd_keeps (s : State) (n : Nat) (m : SlotMeas) (h : Keeps r s) : Keeps r (State.slotEnd s n m) := by
  unfold State.slotEnd
  try extract_lets
  repeat' first
    | with_reducible assumption | with_reducible apply updLane_keeps | with_reducible apply sample_keeps
    | (with_reducible refine Eq.mp (congrArg (Keeps r) (congrArg Prod.snd ‹_ = (_, _)›)) (sample_keeps ..)) | with_reducible apply offerSample_keeps
    | with_reducible apply foldl_keeps | with_reducible apply ite_keeps | intro _ | split | contradiction | dsimp only

theorem offerHeld_keeps (s : State) (k : Nat) (h : Keeps r s) : Keeps r (State.offerHeld s k) := by
  unfold State.offerHeld
  try extract_lets
  repeat' first
    | with_reducible assumption | with_reducible apply updLane_keeps | with_reducible apply offerSample_keeps | with_reducible apply foldl_keeps
    | with_reducible apply ite_keeps | intro _ | split | contradiction | dsimp only

theorem drained_keeps (s : State) (n : Nat) (h : Keeps r s) : Keeps r (State.drained s n) := by
  unfold State.drained
  try extract_lets
  repeat' first
    | with_reducible assumption | with_reducible apply updLane_keeps | with_reducible apply bump_keeps | with_reducible apply raise_keeps
    | with_reducible apply offerHeld_keeps | with_reducible apply foldl_keeps | with_reducible apply ite_keeps | intro _ | split | contradiction
    | dsimp only

theorem setAccepted_keeps (s : State) (n : Nat) (item : Nat) (l : List F32) (h : Keeps r s) : Keeps r (State.setAccepted s n item l) := by
  unfold State.setAccepted
  try extract_lets
  repeat' first
    | with_reducible assumption | with_reducible apply updLane_keeps | with_reducible apply foldl_keeps | with_reducible apply ite_keeps | intro _
    | split | contradiction | dsimp only

theorem setRuns_keeps (s : State) (n : Nat) (item : Nat) (k : Nat) (h : Keeps r s) : Keeps r (State.setRuns s n item k) := by
  unfold State.setRuns
  try extract_lets
  repeat' first
    | with_reducible assumption | with_reducible apply updLane_keeps | with_reducible apply foldl_keeps | with_reducible apply ite_keeps | intro _
    | split | contradiction | dsimp only

theorem calAccept_keeps (s : State) (n : Nat) (item : Nat) (meas : F32) (h : Keeps r s) : Keeps r (State.calAccept s n item meas) := by
  unfold State.calAccept
  try extract_lets
  repeat' first
    | with_reducible assumption | with_reducible apply setLaneBit_keeps | with_reducible apply setReg_keeps | with_reducible apply setRuns_keeps
    | with_reducible apply setAccepted_keeps | with_reducible apply foldl_keeps | with_reducible apply ite_keeps | intro _ | split | contradiction
    | dsimp only

theorem calReject_keeps (s : State) (n : Nat) (item : Nat) (h : Keeps r s) : Keeps r (State.calReject s n item) := by
  unfold State.calReject
  try extract_lets
  repeat' first
    | with_reducible assumption | with_reducible apply bump_keeps | with_reducible apply raise_keeps | with_reducible apply setRuns_keeps
    | with_reducible apply setLaneBit_keeps | with_reducible apply foldl_keeps | with_reducible apply ite_keeps | intro _ | split | contradiction
    | dsimp only

theorem calJudge_keeps (s : State) (n : Nat) (item : Nat) (meas : F32) (h : Keeps r s) : Keeps r (State.calJudge s n item meas) := by
  unfold State.calJudge
  try extract_lets
  repeat' first
    | with_reducible assumption | with_reducible apply setReg_keeps | with_reducible apply calReject_keeps | with_reducible apply calAccept_keeps
    | with_reducible apply foldl_keeps | with_reducible apply ite_keeps | intro _ | split | contradiction | dsimp only

theorem calEnd_keeps (s : State) (n : Nat) (meas : F32) (h : Keeps r s) : Keeps r (State.calEnd s n meas) := by
  unfold State.calEnd
  try extract_lets
  repeat' first
    | with_reducible assumption | with_reducible apply calJudge_keeps | with_reducible apply bump_keeps | with_reducible apply updLane_keeps
    | with_reducible apply foldl_keeps | with_reducible apply ite_keeps | intro _ | split | contradiction | dsimp only

theorem checkWrite_keeps (s : State) (v : U32) (h : Keeps r s) : Keeps r (State.checkWrite s v) := by
  unfold State.checkWrite
  try extract_lets
  repeat' first
    | with_reducible assumption | with_reducible apply ignored_keeps | with_reducible apply xpRun_keeps | with_reducible apply foldl_keeps
    | with_reducible apply ite_keeps | intro _ | split | contradiction | dsimp only

theorem chandefApplied_keeps (s : State) (n : Nat) (old : ChDef) (new : ChDef) (h : Keeps r s) : Keeps r (State.chandefApplied s n old new) := by
  unfold State.chandefApplied
  try extract_lets
  repeat' first
    | with_reducible assumption | with_reducible apply updDef_keeps | with_reducible apply bump_keeps | with_reducible apply updLane_keeps
    | with_reducible apply raise_keeps | with_reducible apply foldl_keeps | with_reducible apply ite_keeps | intro _ | split | contradiction
    | dsimp only

theorem shareSettle_keeps (s : State) (elem : Nat) (h : Keeps r s) : Keeps r (State.shareSettle s elem) := by
  unfold State.shareSettle
  try extract_lets
  repeat' first
    | with_reducible assumption | with_reducible apply filtSettle_keeps | with_reducible apply foldl_keeps | with_reducible apply ite_keeps | intro _
    | split | contradiction | dsimp only

theorem applyBarrier_keeps (s : State) (u : CmdUnit) (h : Keeps r s) : Keeps r (State.applyBarrier s u) := by
  unfold State.applyBarrier
  try extract_lets
  repeat' first
    | with_reducible assumption | with_reducible apply applyUnit_keeps | with_reducible apply applyScan_keeps | with_reducible apply clearUe_keeps
    | with_reducible apply chandefApplied_keeps | with_reducible apply noteMasks_keeps | with_reducible apply shareSettle_keeps
    | with_reducible apply foldl_keeps | with_reducible apply ite_keeps | intro _ | split | contradiction | dsimp only

theorem adjust_keeps (s : State) (e : EngineId) (r1 : InRec) (u : CmdUnit) (before : State) (h : Keeps r s) : Keeps r (State.adjust s e r1 u before) := by
  unfold State.adjust
  try extract_lets
  repeat' first
    | with_reducible assumption | with_reducible apply pointWritten_keeps | with_reducible apply groupWritten_keeps
    | with_reducible apply configFault_keeps | with_reducible apply foldl_keeps | with_reducible apply ite_keeps | intro _ | split | contradiction
    | dsimp only

theorem passParts_keeps (s : State) (e : EngineId) (isn : Nat) (h : Keeps r s) : Keeps r (State.passParts s e isn) := by
  unfold State.passParts
  try extract_lets
  repeat' first
    | with_reducible assumption | with_reducible apply evaluated_keeps | with_reducible apply runStart_keeps | with_reducible apply foldl_keeps
    | with_reducible apply ite_keeps | intro _ | split | contradiction | dsimp only

theorem passBarrier_keeps (s : State) (e : EngineId) (r1 : InRec) (u : CmdUnit) (before : State) (h : Keeps r s) : Keeps r (State.passBarrier s e r1 u before) := by
  unfold State.passBarrier
  try extract_lets
  repeat' first
    | with_reducible assumption | with_reducible apply evaluated_keeps | with_reducible apply adjust_keeps | with_reducible apply epochChange_keeps
    | with_reducible apply runStart_keeps | with_reducible apply foldl_keeps | with_reducible apply ite_keeps | intro _ | split | contradiction
    | dsimp only

theorem configBarrier_keeps (s : State) (h : Keeps r s) : Keeps r (State.configBarrier s) := by
  unfold State.configBarrier
  try extract_lets
  repeat' first
    | with_reducible assumption | with_reducible apply failEngine_keeps | with_reducible apply passParts_keeps
    | with_reducible apply applyBarrier_keeps | with_reducible apply passBarrier_keeps | with_reducible apply foldl_keeps
    | with_reducible apply ite_keeps | intro _ | split | contradiction | dsimp only

theorem eccState_keeps (s : State) (e : EngineId) (r1 : InRec) (d : Damaged) (other_ : GrState) (whole : Bool) (h : Keeps r s) : Keeps r (State.eccState s e r1 d other_ whole) := by
  unfold State.eccState
  try extract_lets
  repeat' first
    | with_reducible assumption | with_reducible apply setPt_keeps | with_reducible apply resetPoint_keeps | with_reducible apply setGr_keeps
    | with_reducible apply resetHalf_keeps | with_reducible apply foldl_keeps | with_reducible apply ite_keeps | intro _ | split | contradiction
    | dsimp only

theorem eccFault_keeps (s : State) (h : Keeps r s) : Keeps r (State.eccFault s) := by
  unfold State.eccFault
  try extract_lets
  repeat' first
    | with_reducible assumption | with_reducible apply clearUe_keeps | with_reducible apply evaluated_keeps | with_reducible apply eccState_keeps
    | with_reducible apply runStart_keeps | with_reducible apply foldl_keeps | with_reducible apply ite_keeps | intro _ | split | contradiction
    | dsimp only

theorem mergeExpire_keeps (s : State) (h : Keeps r s) : Keeps r (State.mergeExpire s) := by
  unfold State.mergeExpire
  try extract_lets
  repeat' first
    | with_reducible assumption | with_reducible apply release_keeps | with_reducible apply releaseOne_keeps | with_reducible apply foldl_keeps
    | with_reducible apply ite_keeps | intro _ | split | contradiction | dsimp only

theorem updPort_keeps (s : State) (p : Nat) (f : Port → Port) (h : Keeps r s) : Keeps r (State.updPort s p f) := by
  unfold State.updPort
  try extract_lets
  repeat' first
    | with_reducible assumption | with_reducible apply foldl_keeps | with_reducible apply ite_keeps | intro _ | split | contradiction | dsimp only

theorem pubOn_keeps (s : State) (p : Nat) (data : List Byte) (h : Keeps r s) : Keeps r (State.pubOn s p data).1 := by
  unfold State.pubOn
  try extract_lets
  repeat' first
    | with_reducible assumption | with_reducible apply updPort_keeps | with_reducible apply bump_keeps | with_reducible apply foldl_keeps
    | with_reducible apply ite_keeps | intro _ | split | contradiction | dsimp only

theorem pubSend_keeps (s : State) (h : Keeps r s) : Keeps r (State.pubSend s) := by
  unfold State.pubSend
  dsimp only
  repeat' first
    | with_reducible assumption | with_reducible apply updOutlet_keeps | with_reducible apply pubOn_keeps
    | (with_reducible refine Eq.mp (congrArg (Keeps r) (congrArg Prod.fst ‹_ = (_, _)›)) (pubOn_keeps ..)) | with_reducible apply bump_keeps
    | with_reducible exact fun _ h => h | exact fun _ _ => Nat.zero_le _ | with_reducible apply foldl_keeps | with_reducible apply ite_keeps | intro _
    | split | contradiction | dsimp only

theorem pubCan_keeps (s : State) (h : Keeps r s) : Keeps r (State.pubCan s) := by
  unfold State.pubCan
  try extract_lets
  repeat' first
    | with_reducible assumption | with_reducible apply updOutlet_keeps | with_reducible apply placeNode_keeps
    | (with_reducible refine Eq.mp (congrArg (Keeps r) (congrArg Prod.fst ‹_ = (_, _)›)) (placeNode_keeps ..)) | with_reducible apply bump_keeps
    | with_reducible exact fun _ h => h | exact fun _ _ => Nat.zero_le _ | with_reducible apply foldl_keeps | with_reducible apply ite_keeps | intro _
    | split | contradiction | dsimp only

theorem trendCtl_keeps (s : State) (d : Desc) (h : Keeps r s) : Keeps r (State.trendCtl s d) := by
  unfold State.trendCtl
  dsimp only
  repeat' first
    | with_reducible assumption | with_reducible apply done_keeps | with_reducible apply tarnStore_keeps | with_reducible apply updOutlet_keeps
    | with_reducible apply offer_keeps | with_reducible apply defer_keeps | with_reducible exact fun _ h => h | exact fun _ _ => Nat.zero_le _
    | with_reducible apply foldl_keeps | with_reducible apply ite_keeps | intro _ | split | contradiction | dsimp only

theorem trendStep_keeps (s : State) (i : Nat) (h : Keeps r s) : Keeps r (State.trendStep s i) := by
  unfold State.trendStep
  try extract_lets
  repeat' first
    | with_reducible assumption | with_reducible apply tarnStore_keeps | with_reducible apply updOutlet_keeps | with_reducible apply postLossy_keeps
    | with_reducible exact fun _ h => h | exact fun _ _ => Nat.zero_le _ | with_reducible apply foldl_keeps | with_reducible apply ite_keeps | intro _
    | split | contradiction | dsimp only

theorem splitApply_keeps (s : State) (h : Keeps r s) : Keeps r (State.splitApply s) := by
  unfold State.splitApply
  try extract_lets
  repeat' first
    | with_reducible assumption | with_reducible apply foldl_keeps | with_reducible apply ite_keeps | intro _ | split | contradiction | dsimp only

theorem shareSet_keeps (s : State) (n : Nat) (base : Nat) (size : Nat) (h : Keeps r s) : Keeps r (State.shareSet s n base size) := by
  unfold State.shareSet
  try extract_lets
  repeat' first
    | with_reducible assumption | with_reducible apply setReg_keeps | with_reducible apply setCanStat_keeps | with_reducible apply updCan_keeps
    | with_reducible apply foldl_keeps | with_reducible apply ite_keeps | intro _ | split | contradiction | dsimp only

theorem sharesSet_keeps (s : State) (l : List Nat) (n base : Nat) (h : Keeps r s) : Keeps r (s.sharesSet l n base) := by
  induction l generalizing s n base with
  | nil => exact h
  | cons k l ih => exact ih _ _ _ (shareSet_keeps _ _ _ _ h)

theorem quotaSet_keeps (s : State) (d : Desc) (h : Keeps r s) : Keeps r (State.quotaSet s d) := by
  unfold State.quotaSet
  dsimp only
  repeat' first
    | with_reducible assumption | with_reducible apply done_keeps | with_reducible apply bump_keeps | with_reducible apply saveQuota_keeps
    | with_reducible apply splitApply_keeps | with_reducible apply fetchMore_keeps | with_reducible apply sharesSet_keeps
    | with_reducible apply foldl_keeps | with_reducible apply ite_keeps | intro _ | split | contradiction | dsimp only

theorem noteWrite_keeps (s : State) (w : CopyWrite) (h : Keeps r s) : Keeps r (State.noteWrite s w) := by
  unfold State.noteWrite
  try extract_lets
  repeat' first
    | with_reducible assumption | with_reducible apply foldl_keeps | with_reducible apply ite_keeps | intro _ | split | contradiction | dsimp only

theorem writeDone_keeps (s : State) (h : Keeps r s) : Keeps r (State.writeDone s) := by
  unfold State.writeDone
  try extract_lets
  repeat' first
    | with_reducible assumption | with_reducible apply foldl_keeps | with_reducible apply ite_keeps | intro _ | split | contradiction | dsimp only

theorem ssWrite_keeps (s : State) (o : Nat) (l : List Byte) (h : Keeps r s) : Keeps r (State.ssWrite s o l) := by
  unfold State.ssWrite
  try extract_lets
  repeat' first
    | with_reducible assumption | with_reducible apply noteWrite_keeps | with_reducible apply updNvm_keeps | with_reducible exact fun _ => ⟨rfl, rfl⟩
    | with_reducible apply foldl_keeps | with_reducible apply ite_keeps | intro _ | split | contradiction | dsimp only

theorem writeSlot_keeps (s : State) (rec_ : List Byte) (h : Keeps r s) : Keeps r (State.writeSlot s rec_) := by
  unfold State.writeSlot
  try extract_lets
  repeat' first
    | with_reducible assumption | with_reducible apply ssWrite_keeps | with_reducible apply foldl_keeps | with_reducible apply ite_keeps | intro _
    | split | contradiction | dsimp only

theorem setSs_keeps (s : State) (st : Nat) (h : Keeps r s) : Keeps r (State.setSs s st) := by
  unfold State.setSs
  try extract_lets
  repeat' first
    | with_reducible assumption | with_reducible apply setRegFld_keeps | with_reducible apply foldl_keeps | with_reducible apply ite_keeps | intro _
    | split | contradiction | dsimp only

theorem setDirty_keeps (s : State) (h : Keeps r s) : Keeps r (State.setDirty s) := by
  unfold State.setDirty
  try extract_lets
  repeat' first
    | with_reducible assumption | with_reducible apply setRegBit_keeps | with_reducible apply foldl_keeps | with_reducible apply ite_keeps | intro _
    | split | contradiction | dsimp only

theorem logReplacement_keeps (s : State) (lock : Byte) (h : Keeps r s) : Keeps r (State.logReplacement s lock) := by
  unfold State.logReplacement
  dsimp only
  repeat' first
    | with_reducible assumption | with_reducible apply ssWrite_keeps | with_reducible apply foldl_keeps | with_reducible apply ite_keeps | intro _
    | split | contradiction | dsimp only

theorem takeDigest_keeps (s : State) (h : Keeps r s) : Keeps r (State.takeDigest s) := by
  unfold State.takeDigest
  try extract_lets
  repeat' first
    | with_reducible assumption | with_reducible apply setRegBit_keeps | with_reducible apply setReg_keeps | with_reducible apply foldl_keeps
    | with_reducible apply ite_keeps | intro _ | split | contradiction | dsimp only

theorem loadIdentity_keeps (s : State) (r1 : List Byte) (h : Keeps r s) : Keeps r (State.loadIdentity s r1) := by
  unfold State.loadIdentity
  try extract_lets
  repeat' first
    | with_reducible assumption | with_reducible apply setReg_keeps | with_reducible apply foldl_keeps | with_reducible apply ite_keeps | intro _
    | split | contradiction | dsimp only

theorem countErase_keeps (s : State) (sector : Nat) (h : Keeps r s) : Keeps r (State.countErase s sector) := by
  unfold State.countErase
  try extract_lets
  repeat' first
    | with_reducible assumption | with_reducible apply updNvm_keeps | with_reducible apply raise_keeps | with_reducible exact fun _ => ⟨rfl, rfl⟩
    | with_reducible apply foldl_keeps | with_reducible apply ite_keeps | intro _ | split | contradiction | dsimp only

theorem countErases_keeps (s : State) (first : Nat) (n : Nat) (h : Keeps r s) : Keeps r (State.countErases s first n) := by
  unfold State.countErases
  try extract_lets
  repeat' first
    | with_reducible assumption | with_reducible apply countErase_keeps | with_reducible apply foldl_keeps | with_reducible apply ite_keeps | intro _
    | split | contradiction | dsimp only

theorem writeBoot_keeps (s : State) (r1 : BootRec) (h : Keeps r s) : Keeps r (State.writeBoot s r1) := by
  unfold State.writeBoot
  try extract_lets
  repeat' first
    | with_reducible assumption | with_reducible apply noteWrite_keeps | with_reducible apply updNvm_keeps | with_reducible apply countErase_keeps
    | with_reducible exact fun _ => ⟨rfl, rfl⟩ | with_reducible apply foldl_keeps | with_reducible apply ite_keeps | intro _ | split | contradiction
    | dsimp only

theorem writeSes_keeps (s : State) (r1 : SesRec) (h : Keeps r s) : Keeps r (State.writeSes s r1) := by
  unfold State.writeSes
  try extract_lets
  repeat' first
    | with_reducible assumption | with_reducible apply noteWrite_keeps | with_reducible apply updNvm_keeps | with_reducible apply countErase_keeps
    | with_reducible exact fun _ => ⟨rfl, rfl⟩ | with_reducible apply foldl_keeps | with_reducible apply ite_keeps | intro _ | split | contradiction
    | dsimp only

theorem cutWrite_keeps (s : State) (torn : Option Nat) (h : Keeps r s) : Keeps r (s.cutWrite torn) := by
  unfold State.cutWrite
  split
  · exact h
  · split
    · refine updNvm_keeps _ _ h fun v => ?_
      unfold Nvm.tear
      split <;> exact ⟨rfl, rfl⟩
    · exact updRegion_keeps _ _ _ h fun _ _ h => h
    · refine updNvm_keeps _ _ h fun v => ?_
      unfold Nvm.tearPiece
      dsimp only
      split <;> split <;> exact ⟨rfl, rfl⟩
    · exact h

theorem updSlot_keeps (s : State) (k : Nat) (f : ImageSlot → ImageSlot) (h : Keeps r s) : Keeps r (s.updSlot k f) := by
  unfold State.updSlot
  refine updNvm_keeps _ _ h fun v => ?_
  split <;> exact ⟨rfl, rfl⟩

theorem applyEntry_keeps (s : State) (e : JEntry) (h : Keeps r s) : Keeps r (State.applyEntry s e) := by
  unfold State.applyEntry
  try extract_lets
  repeat' first
    | with_reducible assumption | with_reducible apply applyUnit_keeps | with_reducible apply applyScan_keeps | with_reducible apply foldl_keeps
    | with_reducible apply ite_keeps | intro _ | split | contradiction | dsimp only

theorem loadShares_keeps (s : State) (l : List Nat) (n base : Nat) (h : Keeps r s) : Keeps r (s.loadShares l n base) := by
  induction l generalizing s n base with
  | nil => exact h
  | cons k l ih => exact ih _ _ _ (setReg_keeps _ _ _ (setReg_keeps _ _ _ h))

theorem loadQuotas_keeps (s : State) (q : Quotas) (h : Keeps r s) : Keeps r (State.loadQuotas s q) := by
  unfold State.loadQuotas
  try extract_lets
  repeat' first
    | with_reducible assumption | with_reducible apply loadShares_keeps | with_reducible apply foldl_keeps | with_reducible apply ite_keeps | intro _
    | split | contradiction | dsimp only

theorem loadRegion_keeps (s : State) (t : Settings) (h : Keeps r s)
    (ht : r.Inv → ∀ g ∈ t.gens, Sparse.wf 0 g.tarn = true) : Keeps r (s.loadRegion t) := by
  unfold State.loadRegion
  refine loadQuotas_keeps _ _ (foldl_keeps _ (fun s x h => applyEntry_keeps _ _ h) _ _ ?_)
  split
  · exact h
  · next g e =>
    refine foldl_keeps _ (fun s x h => setReg_keeps _ _ _ h) _ _ ?_
    exact ⟨h.pending, fun i => { h.inv i with tarn := ht i g (base_mem t g e) }⟩

theorem eraseFold_keeps (s : State) (l : List Generation) (a : Generation → Nat) (n : Nat) (h : Keeps r s) :
    Keeps r (l.foldl (fun s g => s.countErases (a g) n) s) :=
  foldl_keeps _ (fun _ _ h => countErases_keeps _ _ _ h) _ _ h

theorem eraseBases_keeps (s : State) (k n : Nat) (h : Keeps r s) : Keeps r (s.eraseBases k n) :=
  eraseFold_keeps s _ _ n h

theorem eraseRegion_keeps (s : State) (k : Nat) (t : Settings) (h : Keeps r s) (ht : t.gens = []) : Keeps r (s.eraseRegion k t) := by
  have hx := eraseBases_keeps (s.countErases (regionSector k) 1024) k 2048 (countErases_keeps s _ _ h)
  unfold State.eraseRegion
  generalize (s.countErases (regionSector k) 1024).eraseBases k 2048 = u at hx ⊢
  refine updRegion_keeps _ _ _ hx fun _ g hg => ?_
  rw [ht] at hg
  cases hg

theorem revoke_keeps (s : State) (m : List Byte) (h : Keeps r s) : Keeps r (State.revoke s m) := by
  unfold State.revoke
  try extract_lets
  repeat' first
    | with_reducible assumption | with_reducible apply updNvm_keeps | with_reducible exact fun _ => ⟨rfl, rfl⟩ | with_reducible apply foldl_keeps
    | with_reducible apply ite_keeps | intro _ | split | contradiction | dsimp only

theorem setSes_keeps (s : State) (st : Nat) (h : Keeps r s) : Keeps r (State.setSes s st) := by
  unfold State.setSes
  try extract_lets
  repeat' first
    | with_reducible assumption | with_reducible apply writeSes_keeps | with_reducible apply foldl_keeps | with_reducible apply ite_keeps | intro _
    | split | contradiction | dsimp only

theorem eraseResume_keeps (s : State) (h : Keeps r s) : Keeps r (State.eraseResume s) := by
  unfold State.eraseResume
  try extract_lets
  repeat' first
    | with_reducible assumption | with_reducible apply revoke_keeps | with_reducible apply eraseRegion_keeps | with_reducible apply updNvm_keeps
    | with_reducible apply setSes_keeps | with_reducible exact fun _ => ⟨rfl, rfl⟩ | with_reducible apply foldl_keeps | with_reducible apply ite_keeps
    | intro _ | split | contradiction | dsimp only

theorem startBase_keeps (s : State) (h : Keeps r s) : Keeps r s.startBase := by
  unfold State.startBase
  extract_lets g
  split
  · exact h
  · refine ⟨h.pending, fun i => { h.inv i with gens := ?_ }⟩
    intro x hx
    rcases hx with hx | hx | hx
    · exact (h.inv i).gens x (.inl hx)
    · exact (h.inv i).gens x (.inr (.inl hx))
    · simp only [Option.some.injEq] at hx
      rw [← hx]
      exact Sparse.wf_filter _ _ (h.inv i).tarn

theorem sectorsFail_keeps (s : State) (n : Nat) (h : Keeps r s) : Keeps r (State.sectorsFail s n).1 := by
  unfold State.sectorsFail
  try extract_lets
  repeat' first
    | with_reducible assumption | with_reducible apply bumpBy_keeps | with_reducible apply updNvm_keeps | with_reducible apply raise_keeps
    | with_reducible exact fun _ => ⟨rfl, rfl⟩ | with_reducible apply foldl_keeps | with_reducible apply ite_keeps | intro _ | split | contradiction
    | dsimp only

theorem baseSectors_keeps (s : State) (first : Nat) (n : Nat) (h : Keeps r s) : Keeps r (State.baseSectors s first n).1 := by
  unfold State.baseSectors
  try extract_lets
  repeat' first
    | with_reducible assumption | with_reducible apply countErases_keeps | with_reducible apply sectorsFail_keeps
    | (with_reducible refine Eq.mp (congrArg (Keeps r) (congrArg Prod.fst ‹_ = (_, _)›)) (sectorsFail_keeps ..)) | with_reducible apply draw_keeps
    | (with_reducible refine Eq.mp (congrArg (Keeps r) (congrArg Prod.snd ‹_ = (_, _)›)) (draw_keeps ..)) | with_reducible apply foldl_keeps
    | with_reducible apply ite_keeps | intro _ | split | contradiction | dsimp only

theorem unsave_keeps (s : State) (h : Keeps r s) : Keeps r s.unsave :=
  ⟨h.pending, fun i => { h.inv i with gens := fun x hx => (h.inv i).gens x (hx.imp_right (fun k => k.imp_right (fun k => nomatch k))) }⟩

theorem baseDurable_keeps (s : State) (h : Keeps r s) : Keeps r s.baseDurable := by
  unfold State.baseDurable
  split
  · exact h
  · next g e =>
    have hx := baseSectors_keeps s.unsave (baseSector s.upd.runSettings (g.seq % 3)) 2048 (unsave_keeps s h)
    dsimp only
    generalize s.unsave.baseSectors (baseSector s.upd.runSettings (g.seq % 3)) 2048 = x at hx ⊢
    refine ite_keeps _ _ _ (fun _ => hx) fun _ => raise_keeps _ _ _ (bump_keeps _ _ (setRegBit_keeps _ _ _ _ ?_))
    refine updRegion_wf _ _ _ hx fun i t ht y hy => ?_
    rcases List.mem_append.mp hy with hy | hy
    · exact ht y (List.mem_filter.mp hy).1
    · rw [List.mem_singleton.mp hy]
      exact (h.inv i).gens g (.inr (.inr e))

theorem ringErase_keeps (s : State) (k : Nat) (n : Nat) (h : Keeps r s) : Keeps r (State.ringErase s k n) := by
  unfold State.ringErase
  try extract_lets
  repeat' first
    | with_reducible assumption | with_reducible apply countErase_keeps | with_reducible apply updRegion_keeps | with_reducible exact fun _ _ h => h
    | with_reducible apply foldl_keeps | with_reducible apply ite_keeps | intro _ | split | contradiction | dsimp only

theorem journalWrite_keeps (s : State) (sectorFail : Bool) (h : Keeps r s) : Keeps r (State.journalWrite s sectorFail) := by
  unfold State.journalWrite
  try extract_lets
  repeat' first
    | with_reducible assumption | with_reducible apply setRegBit_keeps | with_reducible apply sectorsFail_keeps
    | (with_reducible refine Eq.mp (congrArg (Keeps r) (congrArg Prod.fst ‹_ = (_, _)›)) (sectorsFail_keeps ..))
    | with_reducible apply updRegion_keeps | with_reducible apply ringErase_keeps | with_reducible apply startBase_keeps
    | with_reducible exact fun _ _ h => h | with_reducible apply foldl_keeps | with_reducible apply ite_keeps | intro _ | split | contradiction
    | dsimp only

theorem updHif_keeps (s : State) (f : Hif → Hif) (h : Keeps r s) : Keeps r (State.updHif s f) := by
  unfold State.updHif
  try extract_lets
  repeat' first
    | with_reducible assumption | with_reducible apply foldl_keeps | with_reducible apply ite_keeps | intro _ | split | contradiction | dsimp only

theorem dbRead_keeps (s : State) (h : Keeps r s) : Keeps r (State.dbRead s) := by
  unfold State.dbRead
  try extract_lets
  repeat' first
    | with_reducible assumption | with_reducible apply emitOut_keeps | with_reducible apply bump_keeps | with_reducible apply updHif_keeps
    | with_reducible apply foldl_keeps | with_reducible apply ite_keeps | intro _ | split | contradiction | dsimp only

theorem pagesEnable_keeps (s : State) (h : Keeps r s) : Keeps r (State.pagesEnable s) := by
  unfold State.pagesEnable
  try extract_lets
  repeat' first
    | with_reducible assumption | with_reducible apply ignored_keeps | with_reducible apply setRegBit_keeps | with_reducible apply setReg_keeps
    | with_reducible apply updHif_keeps | with_reducible apply emitOut_keeps | with_reducible apply foldl_keeps | with_reducible apply ite_keeps
    | intro _ | split | contradiction | dsimp only

theorem pagesDisable_keeps (s : State) (h : Keeps r s) : Keeps r (State.pagesDisable s) := by
  unfold State.pagesDisable
  try extract_lets
  repeat' first
    | with_reducible assumption | with_reducible apply setRegBit_keeps | with_reducible apply setReg_keeps | with_reducible apply foldl_keeps
    | with_reducible apply ite_keeps | intro _ | split | contradiction | dsimp only

theorem pageTick_keeps (s : State) (h : Keeps r s) : Keeps r (State.pageTick s) := by
  unfold State.pageTick
  try extract_lets
  repeat' first
    | with_reducible assumption | with_reducible apply updHif_keeps | with_reducible apply emitOut_keeps | with_reducible apply foldl_keeps
    | with_reducible apply ite_keeps | intro _ | split | contradiction | dsimp only

theorem freed_keeps (s : State) (n : Nat) (k : Nat) (h : Keeps r s) : Keeps r (State.freed s n k) := by
  unfold State.freed
  try extract_lets
  repeat' first
    | with_reducible assumption | with_reducible apply updHif_keeps | with_reducible apply eventsConsumed_keeps | with_reducible apply updSpawn_keeps
    | with_reducible apply foldl_keeps | with_reducible apply ite_keeps | intro _ | split | contradiction | dsimp only

theorem doorbell_keeps (s : State) (n : Nat) (h1 : U32) (h : Keeps r s) : Keeps r (State.doorbell s n h1) := by
  unfold State.doorbell
  try extract_lets
  repeat' first
    | with_reducible assumption | with_reducible apply setReg_keeps | with_reducible apply ringError_keeps | with_reducible apply setHostIdx_keeps
    | with_reducible apply freed_keeps | with_reducible apply foldl_keeps | with_reducible apply ite_keeps | intro _ | split | contradiction
    | dsimp only

theorem fetchAll_keeps (s : State) (h : Keeps r s) : Keeps r (State.fetchAll s) := by
  unfold State.fetchAll
  try extract_lets
  repeat' first
    | with_reducible assumption | with_reducible apply fetchMore_keeps | with_reducible apply foldl_keeps | with_reducible apply ite_keeps | intro _
    | split | contradiction | dsimp only

theorem doorbells_keeps (s : State) (rsp : DoorbellRsp) (h : Keeps r s) : Keeps r (State.doorbells s rsp) := by
  unfold State.doorbells
  try extract_lets
  repeat' first
    | with_reducible assumption | with_reducible apply recordMax_keeps | with_reducible apply updHif_keeps | with_reducible apply raise_keeps
    | with_reducible apply bump_keeps | with_reducible apply fetchAll_keeps | with_reducible apply doorbell_keeps | with_reducible apply dbRead_keeps
    | with_reducible apply foldl_keeps | with_reducible apply ite_keeps | intro _ | split | contradiction | dsimp only

theorem arrive_keeps (s : State) (n : Nat) (data : Image) (h : Keeps r s) : Keeps r (State.arrive s n data) := by
  unfold State.arrive
  try extract_lets
  repeat' first
    | with_reducible assumption | with_reducible apply updHif_keeps | with_reducible apply ringError_keeps | with_reducible apply foldl_keeps
    | with_reducible apply ite_keeps | intro _ | split | contradiction | dsimp only

theorem redeliver_keeps (s : State) (n : Nat) (h : Keeps r s) : Keeps r (State.redeliver s n) := by
  unfold State.redeliver
  try extract_lets
  repeat' first
    | with_reducible assumption | with_reducible apply updHif_keeps | with_reducible apply eventsRewrite_keeps | with_reducible apply updSpawn_keeps
    | with_reducible apply foldl_keeps | with_reducible apply ite_keeps | intro _ | split | contradiction | dsimp only

theorem ringStart_keeps (s : State) (n : Nat) (h : Keeps r s) : Keeps r (State.ringStart s n) := by
  unfold State.ringStart
  try extract_lets
  repeat' first
    | with_reducible assumption | with_reducible apply ringError_keeps | with_reducible apply setRegBit_keeps | with_reducible apply setHostIdx_keeps
    | with_reducible apply setReg_keeps | with_reducible apply redeliver_keeps | with_reducible apply updHif_keeps | with_reducible apply foldl_keeps
    | with_reducible apply ite_keeps | intro _ | split | contradiction | dsimp only

theorem ringStop_keeps (s : State) (n : Nat) (h : Keeps r s) : Keeps r (State.ringStop s n) := by
  unfold State.ringStop
  try extract_lets
  repeat' first
    | with_reducible assumption | with_reducible apply updHif_keeps | with_reducible apply setReg_keeps | with_reducible apply foldl_keeps
    | with_reducible apply ite_keeps | intro _ | split | contradiction | dsimp only

theorem ringCtl_keeps (s : State) (n : Nat) (v : U32) (h : Keeps r s) : Keeps r (State.ringCtl s n v) := by
  unfold State.ringCtl
  try extract_lets
  repeat' first
    | with_reducible assumption | with_reducible apply setReg_keeps | with_reducible apply ignored_keeps | with_reducible apply ringStart_keeps
    | with_reducible apply ringStop_keeps | with_reducible apply foldl_keeps | with_reducible apply ite_keeps | intro _ | split | contradiction
    | dsimp only

theorem hifReset_keeps (s : State) (h : Keeps r s) : Keeps r s.hifReset := by
  unfold State.hifReset
  extract_lets hif keep s1
  have h1 : Keeps r s1 := ⟨h.pending, fun i => { h.inv i with regs := Sparse.rising_filter _ _ (h.inv i).regs }⟩
  exact updHif_keeps _ _ (setReg_keeps _ _ _ h1)

theorem linkLost_keeps (s : State) (h : Keeps r s) : Keeps r (State.linkLost s) := by
  unfold State.linkLost
  try extract_lets
  repeat' first
    | with_reducible assumption | with_reducible apply updHif_keeps | with_reducible apply bump_keeps | with_reducible apply setRegFld_keeps
    | with_reducible apply hifReset_keeps | with_reducible apply foldl_keeps | with_reducible apply ite_keeps | intro _ | split | contradiction
    | dsimp only

theorem linkTrain_keeps (s : State) (speed : Nat) (width : Nat) (h : Keeps r s) : Keeps r (State.linkTrain s speed width) := by
  unfold State.linkTrain
  try extract_lets
  repeat' first
    | with_reducible assumption | with_reducible apply updHif_keeps | with_reducible apply setRegFld_keeps | with_reducible apply foldl_keeps
    | with_reducible apply ite_keeps | intro _ | split | contradiction | dsimp only

theorem kickNow_keeps (s : State) (h : Keeps r s) : Keeps r (State.kickNow s) := by
  unfold State.kickNow
  try extract_lets
  repeat' first
    | with_reducible assumption | with_reducible apply bump_keeps | with_reducible apply updHif_keeps | with_reducible apply dbRead_keeps
    | with_reducible apply foldl_keeps | with_reducible apply ite_keeps | intro _ | split | contradiction | dsimp only

theorem unmask_keeps (s : State) (vec : Nat) (h : Keeps r s) : Keeps r (State.unmask s vec) := by
  unfold State.unmask
  try extract_lets
  repeat' first
    | with_reducible assumption | with_reducible apply setRegBit_keeps | with_reducible apply emitOut_keeps | with_reducible apply foldl_keeps
    | with_reducible apply ite_keeps | intro _ | split | contradiction | dsimp only

theorem hifCtl_keeps (s : State) (v : U32) (h : Keeps r s) : Keeps r (State.hifCtl s v) := by
  unfold State.hifCtl
  try extract_lets
  repeat' first
    | with_reducible assumption | with_reducible apply pagesEnable_keeps | with_reducible apply pagesDisable_keeps | with_reducible apply foldl_keeps
    | with_reducible apply ite_keeps | intro _ | split | contradiction | dsimp only

theorem legFlush_keeps (s : State) (h : Keeps r s) : Keeps r s.legFlush := by
  unfold State.legFlush
  split
  · exact updOutlet_keeps _ _ h (fun _ _ => Nat.zero_le _)
  · exact ignored_keeps _ _ _ _ h

theorem legW0Read_keeps (s : State) (h : Keeps r s) : Keeps r s.legW0Read :=
  ⟨h.pending, fun i => { h.inv i with }⟩

theorem legW3Read_keeps (s : State) (h : Keeps r s) : Keeps r s.legW3Read := by
  refine ⟨h.pending, fun i => { h.inv i with legFifo := ?_ }⟩
  have k := (h.inv i).legFifo
  simp only [State.legW3Read, State.updOutlet, List.length_drop]
  omega

theorem pushUnit_keeps (s : State) (u : SpawnUnit) (h : Keeps r s) : Keeps r (State.pushUnit s u) := by
  unfold State.pushUnit
  try extract_lets
  repeat' first
    | with_reducible assumption | with_reducible apply updSpawn_keeps | with_reducible apply foldl_keeps | with_reducible apply ite_keeps | intro _
    | split | contradiction | dsimp only

theorem abandonUnits_keeps (s : State) (f : SpawnUnit → Bool) (h : Keeps r s) : Keeps r (State.abandonUnits s f) := by
  unfold State.abandonUnits
  try extract_lets
  repeat' first
    | with_reducible assumption | with_reducible apply updSpawn_keeps | with_reducible apply foldl_keeps | with_reducible apply ite_keeps | intro _
    | split | contradiction | dsimp only

theorem snapshotSent_keeps (s : State) (isn : U64) (h : Keeps r s) : Keeps r (State.snapshotSent s isn) := by
  unfold State.snapshotSent
  try extract_lets
  repeat' first
    | with_reducible assumption | with_reducible apply bump_keeps | with_reducible apply updSpawn_keeps | with_reducible apply setRegBit_keeps
    | with_reducible apply setCap_keeps | with_reducible apply foldl_keeps | with_reducible apply ite_keeps | intro _ | split | contradiction
    | dsimp only

theorem unitSent_keeps (s : State) (u : SpawnUnit) (h : Keeps r s) : Keeps r (State.unitSent s u) := by
  unfold State.unitSent
  try extract_lets
  repeat' first
    | with_reducible assumption | with_reducible apply snapshotSent_keeps | with_reducible apply splitApply_keeps | with_reducible apply setCap_keeps
    | with_reducible apply foldl_keeps | with_reducible apply ite_keeps | intro _ | split | contradiction | dsimp only

theorem rewriteBuf_keeps (s : State) (addr : Nat) (h : Keeps r s) : Keeps r (State.rewriteBuf s addr) := by
  unfold State.rewriteBuf
  try extract_lets
  repeat' first
    | with_reducible assumption | with_reducible apply postBuffer_keeps | with_reducible apply updSpawn_keeps | with_reducible apply foldl_keeps
    | with_reducible apply ite_keeps | intro _ | split | contradiction | dsimp only

theorem writeBuf_keeps (s : State) (addr : Nat) (h : Keeps r s) : Keeps r (State.writeBuf s addr) := by
  unfold State.writeBuf
  try extract_lets
  repeat' first
    | with_reducible assumption | with_reducible apply postBuffer_keeps | with_reducible apply setPair_keeps | with_reducible apply unitSent_keeps
    | with_reducible apply foldl_keeps | with_reducible apply ite_keeps | intro _ | split | contradiction | dsimp only

theorem startCapture_keeps (s : State) (mode : Nat) (d : Desc) (h : Keeps r s) : Keeps r (State.startCapture s mode d) := by
  unfold State.startCapture
  try extract_lets
  repeat' first
    | with_reducible assumption | with_reducible apply setRegFld_keeps | with_reducible apply setReg_keeps | with_reducible apply setPair_keeps
    | with_reducible apply updSpawn_keeps | with_reducible apply setCap_keeps | with_reducible apply setRegBit_keeps
    | with_reducible apply foldl_keeps | with_reducible apply ite_keeps | intro _ | split | contradiction | dsimp only

theorem stopCapture_keeps (s : State) (h : Keeps r s) : Keeps r (State.stopCapture s) := by
  unfold State.stopCapture
  try extract_lets
  repeat' first
    | with_reducible assumption | with_reducible apply abandonUnits_keeps | with_reducible apply updSpawn_keeps
    | with_reducible apply splitApply_keeps | with_reducible apply setRegFld_keeps | with_reducible apply foldl_keeps | with_reducible apply ite_keeps
    | intro _ | split | contradiction | dsimp only

theorem spawnCtl_keeps (s : State) (img : Image) (d : Desc) (h : Keeps r s) : Keeps r (State.spawnCtl s img d) := by
  unfold State.spawnCtl
  dsimp only
  repeat' first
    | with_reducible assumption | with_reducible apply done_keeps | with_reducible apply stopCapture_keeps | with_reducible apply setRegFld_keeps
    | with_reducible apply updSpawn_keeps | with_reducible apply startCapture_keeps | with_reducible apply foldl_keeps
    | with_reducible apply ite_keeps | intro _ | split | contradiction | dsimp only

theorem spawnTrigger_keeps (s : State) (d : Desc) (h : Keeps r s) : Keeps r (State.spawnTrigger s d) := by
  unfold State.spawnTrigger
  try extract_lets
  repeat' first
    | with_reducible assumption | with_reducible apply done_keeps | with_reducible apply trigger_keeps | with_reducible apply foldl_keeps
    | with_reducible apply ite_keeps | intro _ | split | contradiction | dsimp only

theorem markOffer_keeps (s : State) (h : Keeps r s) : Keeps r (State.markOffer s) := by
  unfold State.markOffer
  try extract_lets
  repeat' first
    | with_reducible assumption | with_reducible apply offer_keeps | with_reducible apply updSpawn_keeps | with_reducible apply foldl_keeps
    | with_reducible apply ite_keeps | intro _ | split | contradiction | dsimp only

theorem copyComplete_keeps (s : State) (h : Keeps r s) : Keeps r (State.copyComplete s) := by
  unfold State.copyComplete
  try extract_lets
  repeat' first
    | with_reducible assumption | with_reducible apply pushUnit_keeps | with_reducible apply foldl_keeps | with_reducible apply ite_keeps | intro _
    | split | contradiction | dsimp only

theorem snapExpire_keeps (s : State) (h : Keeps r s) : Keeps r (State.snapExpire s) := by
  unfold State.snapExpire
  try extract_lets
  repeat' first
    | with_reducible assumption | with_reducible apply abandonUnits_keeps | with_reducible apply pushUnit_keeps | with_reducible apply updSpawn_keeps
    | with_reducible apply bump_keeps | with_reducible apply raise_keeps | with_reducible apply setRegBit_keeps
    | with_reducible apply splitApply_keeps | with_reducible apply setRegFld_keeps | with_reducible apply setCap_keeps
    | with_reducible apply foldl_keeps | with_reducible apply ite_keeps | intro _ | split | contradiction | dsimp only

theorem ckptGiveUp_keeps (s : State) (h : Keeps r s) : Keeps r (State.ckptGiveUp s) := by
  unfold State.ckptGiveUp
  try extract_lets
  repeat' first
    | with_reducible assumption | with_reducible apply setRegBit_keeps | with_reducible apply updSpawn_keeps | with_reducible apply foldl_keeps
    | with_reducible apply ite_keeps | intro _ | split | contradiction | dsimp only

theorem ckptSnapshot_keeps (s : State) (recs : List Byte) (h : Keeps r s) : Keeps r (State.ckptSnapshot s recs) := by
  unfold State.ckptSnapshot
  try extract_lets
  repeat' first
    | with_reducible assumption | with_reducible apply ckptGiveUp_keeps | with_reducible apply bump_keeps | with_reducible apply pushUnit_keeps
    | with_reducible apply updSpawn_keeps | with_reducible apply foldl_keeps | with_reducible apply ite_keeps | intro _ | split | contradiction
    | dsimp only

theorem putBehind_keeps (s : State) (h : Keeps r s) : Keeps r (State.putBehind s) := by
  unfold State.putBehind
  try extract_lets
  repeat' first
    | with_reducible assumption | with_reducible apply ringPut_keeps | with_reducible apply updSpawn_keeps | with_reducible apply foldl_keeps
    | with_reducible apply ite_keeps | intro _ | split | contradiction | dsimp only

theorem takeCkpt_keeps (s : State) (h : Keeps r s) : Keeps r (State.takeCkpt s) := by
  unfold State.takeCkpt
  try extract_lets
  repeat' first
    | with_reducible assumption | with_reducible apply updSpawn_keeps | with_reducible apply ckptGiveUp_keeps | with_reducible apply putBehind_keeps
    | with_reducible apply ringPut_keeps | with_reducible apply countPost_keeps | with_reducible apply setReg_keeps | with_reducible apply bump_keeps
    | with_reducible apply raise_keeps | with_reducible apply ckptSnapshot_keeps | with_reducible apply foldl_keeps | with_reducible apply ite_keeps
    | intro _ | split | contradiction | dsimp only

theorem freeze_keeps (s : State) (h : Keeps r s) : Keeps r (State.freeze s) := by
  unfold State.freeze
  try extract_lets
  repeat' first
    | with_reducible assumption | with_reducible apply pushUnit_keeps | with_reducible apply raise_keeps | with_reducible apply setCap_keeps
    | with_reducible apply foldl_keeps | with_reducible apply ite_keeps | intro _ | split | contradiction | dsimp only

theorem spawnOut_keeps (s : State) (addr : Option Nat) (h : Keeps r s) : Keeps r (State.spawnOut s addr) := by
  unfold State.spawnOut
  try extract_lets
  repeat' first
    | with_reducible assumption | with_reducible apply postBuffer_keeps | with_reducible apply rewriteBuf_keeps | with_reducible apply writeBuf_keeps
    | with_reducible apply foldl_keeps | with_reducible apply ite_keeps | intro _ | split | contradiction | dsimp only

theorem updGecko_keeps (s : State) (f : Gecko → Gecko) (h : Keeps r s)
    (hf : ∀ (g : Gecko) (x : Generation), (f g).saving = some x → g.saving = some x) : Keeps r (s.updGecko f) :=
  ⟨h.pending, fun i => { h.inv i with gens := fun g hg => (h.inv i).gens g (hg.imp_right (fun k => k.imp_right (hf _ _))) }⟩

theorem ceFound_keeps (s : State) (w : Off) (h : Keeps r s) : Keeps r (State.ceFound s w) := by
  unfold State.ceFound
  try extract_lets
  repeat' first
    | with_reducible assumption | with_reducible apply setReg_keeps | with_reducible apply bump_keeps | with_reducible apply raise_keeps
    | with_reducible apply updGecko_keeps | with_reducible exact fun _ _ h => h | exact fun _ _ h => nomatch h | with_reducible apply foldl_keeps
    | with_reducible apply ite_keeps | intro _ | split | contradiction | dsimp only

theorem correctedError_keeps (s : State) (o : Off) (h : Keeps r s) : Keeps r (State.correctedError s o) := by
  unfold State.correctedError
  try extract_lets
  repeat' first
    | with_reducible assumption | with_reducible apply ceFound_keeps | with_reducible apply updGecko_keeps | with_reducible exact fun _ _ h => h
    | exact fun _ _ h => nomatch h | with_reducible apply foldl_keeps | with_reducible apply ite_keeps | intro _ | split | contradiction | dsimp only

theorem scrubLine_keeps (s : State) (b : Nat) (line : Nat) (h : Keeps r s) : Keeps r (State.scrubLine s b line) := by
  unfold State.scrubLine
  try extract_lets
  repeat' first
    | with_reducible assumption | with_reducible apply ceFound_keeps | with_reducible apply updGecko_keeps | with_reducible exact fun _ _ h => h
    | exact fun _ _ h => nomatch h | with_reducible apply foldl_keeps | with_reducible apply ite_keeps | intro _ | split | contradiction | dsimp only

theorem scrubSlot_keeps (s : State) (b : Nat) (h : Keeps r s) : Keeps r (State.scrubSlot s b) := by
  unfold State.scrubSlot
  try extract_lets
  repeat' first
    | with_reducible assumption | with_reducible apply updGecko_keeps | with_reducible apply scrubLine_keeps | with_reducible exact fun _ _ h => h
    | exact fun _ _ h => nomatch h | with_reducible apply foldl_keeps | with_reducible apply ite_keeps | intro _ | split | contradiction | dsimp only

theorem eccOffer_keeps (s : State) (w : Off) (h : Keeps r s) : Keeps r (State.eccOffer s w) := by
  unfold State.eccOffer
  try extract_lets
  repeat' first
    | with_reducible assumption | with_reducible apply offer_keeps | with_reducible apply foldl_keeps | with_reducible apply ite_keeps | intro _
    | split | contradiction | dsimp only

theorem repairsDue_keeps (s : State) (h : Keeps r s) : Keeps r (State.repairsDue s) := by
  unfold State.repairsDue
  try extract_lets
  repeat' first
    | with_reducible assumption | with_reducible apply updGecko_keeps | with_reducible apply eccOffer_keeps | with_reducible exact fun _ _ h => h
    | exact fun _ _ h => nomatch h | with_reducible apply foldl_keeps | with_reducible apply ite_keeps | intro _ | split | contradiction | dsimp only

theorem ueMark_keeps (s : State) (w : Off) (h : Keeps r s) : Keeps r (State.ueMark s w) := by
  unfold State.ueMark
  try extract_lets
  repeat' first
    | with_reducible assumption | with_reducible apply eccOffer_keeps | with_reducible apply updGecko_keeps | with_reducible exact fun _ _ h => h
    | exact fun _ _ h => nomatch h | with_reducible apply foldl_keeps | with_reducible apply ite_keeps | intro _ | split | contradiction | dsimp only

theorem ueState_keeps (s : State) (w : Off) (h : Keeps r s) : Keeps r (State.ueState s w) := by
  unfold State.ueState
  try extract_lets
  repeat' first
    | with_reducible assumption | with_reducible apply updEng_keeps | with_reducible apply foldl_keeps | with_reducible apply ite_keeps | intro _
    | split | contradiction | dsimp only

theorem ueWindow_keeps (s : State) (w : Off) (h : Keeps r s) : Keeps r (State.ueWindow s w) := by
  unfold State.ueWindow
  try extract_lets
  repeat' first
    | with_reducible assumption | with_reducible apply failEngine_keeps | with_reducible apply foldl_keeps | with_reducible apply ite_keeps | intro _
    | split | contradiction | dsimp only

theorem ueBacklog_keeps (s : State) (o : Off) (h : Keeps r s) : Keeps r (State.ueBacklog s o) := by
  unfold State.ueBacklog
  try extract_lets
  repeat' first
    | with_reducible assumption | with_reducible apply updOutlet_keeps | with_reducible exact fun _ h => h | exact fun _ _ => Nat.zero_le _
    | with_reducible apply foldl_keeps | with_reducible apply ite_keeps | intro _ | split | contradiction | dsimp only

theorem ueSpawn_keeps (s : State) (o : Off) (h : Keeps r s) : Keeps r (State.ueSpawn s o) := by
  unfold State.ueSpawn
  try extract_lets
  repeat' first
    | with_reducible assumption | with_reducible apply snapExpire_keeps | with_reducible apply bump_keeps | with_reducible apply abandonUnits_keeps
    | with_reducible apply splitApply_keeps | with_reducible apply endContinuous_keeps | with_reducible apply updSpawn_keeps
    | with_reducible apply setCap_keeps | with_reducible apply foldl_keeps | with_reducible apply ite_keeps | intro _ | split | contradiction
    | dsimp only

theorem ueTrend_keeps (s : State) (w : Off) (h : Keeps r s) : Keeps r (State.ueTrend s w) := by
  unfold State.ueTrend
  try extract_lets
  repeat' first
    | with_reducible assumption | with_reducible apply updOutlet_keeps | with_reducible apply tarnStore_keeps | with_reducible exact fun _ h => h
    | exact fun _ _ => Nat.zero_le _ | with_reducible apply foldl_keeps | with_reducible apply ite_keeps | intro _ | split | contradiction
    | dsimp only

theorem ueAct_keeps (s : State) (w : Off) (h : Keeps r s) : Keeps r (State.ueAct s w) := by
  unfold State.ueAct
  try extract_lets
  repeat' first
    | with_reducible assumption | with_reducible apply ueMark_keeps | with_reducible apply raise_keeps | with_reducible apply ueState_keeps
    | with_reducible apply ueTrend_keeps | with_reducible apply tarnStore_keeps | with_reducible apply ueWindow_keeps
    | with_reducible apply ueBacklog_keeps | with_reducible apply ueSpawn_keeps | with_reducible apply foldl_keeps | with_reducible apply ite_keeps
    | intro _ | split | contradiction | dsimp only

theorem uncorrectable_keeps (s : State) (o : Off) (h : Keeps r s) : Keeps r (State.uncorrectable s o) := by
  unfold State.uncorrectable
  try extract_lets
  repeat' first
    | with_reducible assumption | with_reducible apply setReg_keeps | with_reducible apply bump_keeps | with_reducible apply ueAct_keeps
    | with_reducible apply raise_keeps | with_reducible apply updGecko_keeps | with_reducible exact fun _ _ h => h | exact fun _ _ h => nomatch h
    | with_reducible apply foldl_keeps | with_reducible apply ite_keeps | intro _ | split | contradiction | dsimp only

theorem tcmScrub_keeps (s : State) (corrected : Nat) (h : Keeps r s) : Keeps r (State.tcmScrub s corrected) := by
  unfold State.tcmScrub
  try extract_lets
  repeat' first
    | with_reducible assumption | with_reducible apply raise_keeps | with_reducible apply bumpBy_keeps | with_reducible apply updGecko_keeps
    | with_reducible exact fun _ _ h => h | exact fun _ _ h => nomatch h | with_reducible apply foldl_keeps | with_reducible apply ite_keeps | intro _
    | split | contradiction | dsimp only

theorem digestRewrite_keeps (s : State) (h : Keeps r s) : Keeps r (State.digestRewrite s) := by
  unfold State.digestRewrite
  try extract_lets
  repeat' first
    | with_reducible assumption | with_reducible apply writeSlot_keeps | with_reducible apply setRegBit_keeps | with_reducible apply updGecko_keeps
    | with_reducible exact fun _ _ h => h | exact fun _ _ h => nomatch h | with_reducible apply foldl_keeps | with_reducible apply ite_keeps | intro _
    | split | contradiction | dsimp only

theorem telemetry_keeps (s : State) (t : TelemEnv) (h : Keeps r s) : Keeps r (State.telemetry s t) := by
  unfold State.telemetry
  try extract_lets
  repeat' first
    | with_reducible assumption | with_reducible apply setReg_keeps | with_reducible apply setRegBit_keeps | with_reducible apply updGecko_keeps
    | with_reducible apply raise_keeps | with_reducible apply postLossy_keeps | with_reducible exact fun _ _ h => h | exact fun _ _ h => nomatch h
    | with_reducible apply foldl_keeps | with_reducible apply ite_keeps | intro _ | split | contradiction | dsimp only

theorem legPtEnd_keeps (s : State) (reason : Nat) (h : Keeps r s) : Keeps r (State.legPtEnd s reason) := by
  unfold State.legPtEnd
  try extract_lets
  repeat' first
    | with_reducible assumption | with_reducible apply setReg_keeps | with_reducible apply bump_keeps | with_reducible apply foldl_keeps
    | with_reducible apply ite_keeps | intro _ | split | contradiction | dsimp only

theorem setLegWords_keeps (s : State) (l : List Byte) (h : Keeps r s) : Keeps r (State.setLegWords s l) := by
  unfold State.setLegWords
  try extract_lets
  repeat' first
    | with_reducible assumption | with_reducible apply setReg_keeps | with_reducible apply foldl_keeps | with_reducible apply ite_keeps | intro _
    | split | contradiction | dsimp only

theorem legPtWrite_keeps (s : State) (h : Keeps r s) : Keeps r (State.legPtWrite s) := by
  unfold State.legPtWrite
  try extract_lets
  repeat' first
    | with_reducible assumption | with_reducible apply ignored_keeps | with_reducible apply legPtEnd_keeps | with_reducible apply setDirty_keeps
    | with_reducible apply tarnStore_keeps | with_reducible apply foldl_keeps | with_reducible apply ite_keeps | intro _ | split | contradiction
    | dsimp only

theorem legPtRead_keeps (s : State) (h : Keeps r s) : Keeps r (State.legPtRead s) := by
  unfold State.legPtRead
  try extract_lets
  repeat' first
    | with_reducible assumption | with_reducible apply ignored_keeps | with_reducible apply legPtEnd_keeps | with_reducible apply setLegWords_keeps
    | with_reducible apply foldl_keeps | with_reducible apply ite_keeps | intro _ | split | contradiction | dsimp only

theorem takeOver_keeps (s : State) (h : Keeps r s) : Keeps r (State.takeOver s) := by
  unfold State.takeOver
  try extract_lets
  repeat' first
    | with_reducible assumption | with_reducible apply offerStatus_keeps | with_reducible apply raise_keeps | with_reducible apply bump_keeps
    | with_reducible apply grantHold_keeps | with_reducible apply foldl_keeps | with_reducible apply ite_keeps | intro _ | split | contradiction
    | dsimp only

theorem takeBack_keeps (s : State) (h : Keeps r s) : Keeps r (State.takeBack s) := by
  unfold State.takeBack
  try extract_lets
  repeat' first
    | with_reducible assumption | with_reducible apply offerStatus_keeps | with_reducible apply raise_keeps | with_reducible apply bump_keeps
    | with_reducible apply grantHold_keeps | with_reducible apply releaseHold_keeps | with_reducible apply foldl_keeps
    | with_reducible apply ite_keeps | intro _ | split | contradiction | dsimp only

theorem failAgain_keeps (s : State) (e : EngineId) (cause : Nat) (h : Keeps r s) : Keeps r (State.failAgain s e cause) := by
  unfold State.failAgain
  try extract_lets
  repeat' first
    | with_reducible assumption | with_reducible apply offerStatus_keeps | with_reducible apply recordFailure_keeps | with_reducible apply foldl_keeps
    | with_reducible apply ite_keeps | intro _ | split | contradiction | dsimp only

theorem returnTest_keeps (s : State) (e : EngineId) (pass : Bool) (h : Keeps r s) : Keeps r (State.returnTest s e pass) := by
  unfold State.returnTest
  try extract_lets
  repeat' first
    | with_reducible assumption | with_reducible apply failAgain_keeps | with_reducible apply updEng_keeps | with_reducible apply updSkink_keeps
    | with_reducible apply offerResync_keeps | with_reducible apply foldl_keeps | with_reducible apply ite_keeps | intro _ | split | contradiction
    | dsimp only

theorem copyDone_keeps (s : State) (verified : Bool) (h : Keeps r s) : Keeps r (State.copyDone s verified) := by
  unfold State.copyDone
  try extract_lets
  repeat' first
    | with_reducible assumption | with_reducible apply updEng_keeps | with_reducible apply updSkink_keeps | with_reducible apply failAgain_keeps
    | with_reducible apply setEng_keeps | with_reducible apply rewritten_keeps | with_reducible apply offerStatus_keeps
    | with_reducible apply setChain_keeps | with_reducible apply foldl_keeps | with_reducible apply ite_keeps | intro _ | split | contradiction
    | dsimp only

theorem holdoffOver_keeps (s : State) (e : EngineId) (h : Keeps r s) : Keeps r (State.holdoffOver s e) := by
  unfold State.holdoffOver
  try extract_lets
  repeat' first
    | with_reducible assumption | with_reducible apply offerStatus_keeps | with_reducible apply updEng_keeps | with_reducible apply foldl_keeps
    | with_reducible apply ite_keeps | intro _ | split | contradiction | dsimp only

theorem auditOffer_keeps (s : State) (h : Keeps r s) : Keeps r (State.auditOffer s) := by
  unfold State.auditOffer
  try extract_lets
  repeat' first
    | with_reducible assumption | with_reducible apply updSkink_keeps | with_reducible apply bump_keeps | with_reducible apply offerResync_keeps
    | with_reducible apply foldl_keeps | with_reducible apply ite_keeps | intro _ | split | contradiction | dsimp only

theorem auditCompare_keeps (s : State) (h : Keeps r s) : Keeps r (State.auditCompare s) := by
  unfold State.auditCompare
  try extract_lets
  repeat' first
    | with_reducible assumption | with_reducible apply updEng_keeps | with_reducible apply updSkink_keeps | with_reducible apply offerDiverge_keeps
    | with_reducible apply foldl_keeps | with_reducible apply ite_keeps | intro _ | split | contradiction | dsimp only

theorem offerRepairs_keeps (s : State) (block : Nat) (idx : List Nat) (h : Keeps r s) : Keeps r (State.offerRepairs s block idx) := by
  unfold State.offerRepairs
  try extract_lets
  repeat' first
    | with_reducible assumption | with_reducible apply offerResync_keeps | with_reducible apply foldl_keeps | with_reducible apply ite_keeps | intro _
    | split | contradiction | dsimp only

theorem resolve_keeps (s : State) (h : Keeps r s) : Keeps r (State.resolve s) := by
  unfold State.resolve
  try extract_lets
  repeat' first
    | with_reducible assumption | with_reducible apply divergeDone_keeps | with_reducible apply failEngine_keeps
    | with_reducible apply offerRepairs_keeps | with_reducible apply foldl_keeps | with_reducible apply ite_keeps | intro _ | split | contradiction
    | dsimp only

theorem removeEngine_keeps (s : State) (e : EngineId) (h : Keeps r s) : Keeps r (State.removeEngine s e) := by
  unfold State.removeEngine
  try extract_lets
  repeat' first
    | with_reducible assumption | with_reducible apply failEngine_keeps | with_reducible apply foldl_keeps | with_reducible apply ite_keeps | intro _
    | split | contradiction | dsimp only

theorem engineCtl_keeps (s : State) (d : Desc) (h : Keeps r s) : Keeps r (State.engineCtl s d) := by
  unfold State.engineCtl
  try extract_lets
  repeat' first
    | with_reducible assumption | with_reducible apply done_keeps | with_reducible apply updSkink_keeps | with_reducible apply removeEngine_keeps
    | with_reducible apply offerStatus_keeps | with_reducible apply updEng_keeps | with_reducible apply foldl_keeps | with_reducible apply ite_keeps
    | intro _ | split | contradiction | dsimp only

theorem dropClaim_keeps (s : State) (h : Keeps r s) : Keeps r (State.dropClaim s) := by
  unfold State.dropClaim
  try extract_lets
  repeat' first
    | with_reducible assumption | with_reducible apply emitOut_keeps | with_reducible apply updSkink_keeps | with_reducible apply foldl_keeps
    | with_reducible apply ite_keeps | intro _ | split | contradiction | dsimp only

theorem intlkIn_keeps (s : State) (high : Bool) (h : Keeps r s) : Keeps r (State.intlkIn s high) := by
  unfold State.intlkIn
  try extract_lets
  repeat' first
    | with_reducible assumption | with_reducible apply updSkink_keeps | with_reducible apply raise_keeps | with_reducible apply bump_keeps
    | with_reducible apply dropClaim_keeps | with_reducible apply foldl_keeps | with_reducible apply ite_keeps | intro _ | split | contradiction
    | dsimp only

theorem pairClaim_keeps (s : State) (h : Keeps r s) : Keeps r (State.pairClaim s) := by
  unfold State.pairClaim
  try extract_lets
  repeat' first
    | with_reducible assumption | with_reducible apply raise_keeps | with_reducible apply emitOut_keeps | with_reducible apply bump_keeps
    | with_reducible apply updSkink_keeps | with_reducible apply foldl_keeps | with_reducible apply ite_keeps | intro _ | split | contradiction
    | dsimp only

theorem sharedOff_keeps (s : State) (h : Keeps r s) : Keeps r (State.sharedOff s) := by
  unfold State.sharedOff
  try extract_lets
  repeat' first
    | with_reducible assumption | with_reducible apply extraFrames_keeps | with_reducible apply frameOf_keeps | with_reducible apply foldl_keeps
    | with_reducible apply ite_keeps | intro _ | split | contradiction | dsimp only

theorem pairRelease_keeps (s : State) (h : Keeps r s) : Keeps r (State.pairRelease s) := by
  unfold State.pairRelease
  try extract_lets
  repeat' first
    | with_reducible assumption | with_reducible apply dropClaim_keeps | with_reducible apply sharedOff_keeps | with_reducible apply updSkink_keeps
    | with_reducible apply foldl_keeps | with_reducible apply ite_keeps | intro _ | split | contradiction | dsimp only

theorem pairLost_keeps (s : State) (h : Keeps r s) : Keeps r (State.pairLost s) := by
  unfold State.pairLost
  try extract_lets
  repeat' first
    | with_reducible assumption | with_reducible apply raise_keeps | with_reducible apply bump_keeps | with_reducible apply foldl_keeps
    | with_reducible apply ite_keeps | intro _ | split | contradiction | dsimp only

theorem pairEnabled_keeps (s : State) (before : State) (h : Keeps r s) : Keeps r (State.pairEnabled s before) := by
  unfold State.pairEnabled
  try extract_lets
  repeat' first
    | with_reducible assumption | with_reducible apply pairLost_keeps | with_reducible apply foldl_keeps | with_reducible apply ite_keeps | intro _
    | split | contradiction | dsimp only

theorem pairSense_keeps (s : State) (high : Bool) (h : Keeps r s) : Keeps r (State.pairSense s high) := by
  unfold State.pairSense
  try extract_lets
  repeat' first
    | with_reducible assumption | with_reducible apply updSkink_keeps | with_reducible apply pairLost_keeps | with_reducible apply foldl_keeps
    | with_reducible apply ite_keeps | intro _ | split | contradiction | dsimp only

theorem inject_keeps (s : State) (e : EngineId) (v : U32) (h : Keeps r s) : Keeps r (State.inject s e v) := by
  unfold State.inject
  try extract_lets
  repeat' first
    | with_reducible assumption | with_reducible apply failEngine_keeps | with_reducible apply failOut_keeps | with_reducible apply ignored_keeps
    | with_reducible apply foldl_keeps | with_reducible apply ite_keeps | intro _ | split | contradiction | dsimp only

theorem updWs_keeps (s : State) (f : Wellspring → Wellspring) (h : Keeps r s) : Keeps r (State.updWs s f) := by
  unfold State.updWs
  try extract_lets
  repeat' first
    | with_reducible assumption | with_reducible apply foldl_keeps | with_reducible apply ite_keeps | intro _ | split | contradiction | dsimp only

theorem updServo_keeps (s : State) (f : Servo → Servo) (h : Keeps r s) : Keeps r (State.updServo s f) := by
  unfold State.updServo
  try extract_lets
  repeat' first
    | with_reducible assumption | with_reducible apply updWs_keeps | with_reducible apply foldl_keeps | with_reducible apply ite_keeps | intro _
    | split | contradiction | dsimp only

theorem incStep_keeps (s : State) (step : Int) (h : Keeps r s) : Keeps r (State.incStep s step) := by
  unfold State.incStep
  try extract_lets
  repeat' first
    | with_reducible assumption | with_reducible apply stepped_keeps | with_reducible apply foldl_keeps | with_reducible apply ite_keeps | intro _
    | split | contradiction | dsimp only

theorem armSwitch_keeps (s : State) (d : Desc) (h : Keeps r s) : Keeps r (State.armSwitch s d) := by
  unfold State.armSwitch
  try extract_lets
  repeat' first
    | with_reducible assumption | with_reducible apply bump_keeps | with_reducible apply defer_keeps | with_reducible apply updWs_keeps
    | with_reducible apply foldl_keeps | with_reducible apply ite_keeps | intro _ | split | contradiction | dsimp only

theorem asymChanged_keeps (s : State) (p : Nat) (h : Keeps r s) : Keeps r (State.asymChanged s p) := by
  unfold State.asymChanged
  try extract_lets
  repeat' first
    | with_reducible assumption | with_reducible apply updServo_keeps | with_reducible apply foldl_keeps | with_reducible apply ite_keeps | intro _
    | split | contradiction | dsimp only

theorem setAsymRun_keeps (s : State) (p : Nat) (v : U32) (h : Keeps r s) : Keeps r (State.setAsymRun s p v) := by
  unfold State.setAsymRun
  try extract_lets
  repeat' first
    | with_reducible assumption | with_reducible apply asymChanged_keeps | with_reducible apply setReg_keeps | with_reducible apply foldl_keeps
    | with_reducible apply ite_keeps | intro _ | split | contradiction | dsimp only

theorem timeAdj_keeps (s : State) (d : Desc) (h : Keeps r s) : Keeps r (State.timeAdj s d) := by
  unfold State.timeAdj
  dsimp only
  repeat' first
    | with_reducible assumption | with_reducible apply done_keeps | with_reducible apply updWs_keeps | with_reducible apply incStep_keeps
    | with_reducible apply elapse_keeps | with_reducible apply tmoArm_keeps | with_reducible apply setPair_keeps
    | with_reducible apply setAsymRun_keeps | with_reducible apply armSwitch_keeps | with_reducible apply foldl_keeps | with_reducible apply ite_keeps
    | intro _ | split | contradiction | dsimp only

theorem setServo_keeps (s : State) (st : Nat) (q : BitVec 3) (h : Keeps r s) : Keeps r (State.setServo s st q) := by
  unfold State.setServo
  try extract_lets
  repeat' first
    | with_reducible assumption | with_reducible apply updWs_keeps | with_reducible apply foldl_keeps | with_reducible apply ite_keeps | intro _
    | split | contradiction | dsimp only

theorem servoChange_keeps (s : State) (h : Keeps r s) : Keeps r (State.servoChange s) := by
  unfold State.servoChange
  try extract_lets
  repeat' first
    | with_reducible assumption | with_reducible apply updWs_keeps | with_reducible apply updServo_keeps | with_reducible apply foldl_keeps
    | with_reducible apply ite_keeps | intro _ | split | contradiction | dsimp only

theorem servoStep_keeps (s : State) (step : Int) (h : Keeps r s) : Keeps r (State.servoStep s step) := by
  unfold State.servoStep
  try extract_lets
  repeat' first
    | with_reducible assumption | with_reducible apply doSwitch_keeps | with_reducible apply incStep_keeps | with_reducible apply foldl_keeps
    | with_reducible apply ite_keeps | intro _ | split | contradiction | dsimp only

theorem servoSlew_keeps (s : State) (h : Keeps r s) : Keeps r (State.servoSlew s) := by
  unfold State.servoSlew
  try extract_lets
  repeat' first
    | with_reducible assumption | with_reducible apply draw_keeps
    | (with_reducible refine Eq.mp (congrArg (Keeps r) (congrArg Prod.snd ‹_ = (_, _)›)) (draw_keeps ..)) | with_reducible apply updServo_keeps
    | with_reducible apply doSwitch_keeps | with_reducible apply updWs_keeps | with_reducible apply foldl_keeps | with_reducible apply ite_keeps
    | intro _ | split | contradiction | dsimp only

theorem servoLock_keeps (s : State) (h : Keeps r s) : Keeps r (State.servoLock s) := by
  unfold State.servoLock
  try extract_lets
  repeat' first
    | with_reducible assumption | with_reducible apply doSwitch_keeps | with_reducible apply raise_keeps | with_reducible apply setServo_keeps
    | with_reducible apply foldl_keeps | with_reducible apply ite_keeps | intro _ | split | contradiction | dsimp only

theorem servoSuspect_keeps (s : State) (h : Keeps r s) : Keeps r (State.servoSuspect s) := by
  unfold State.servoSuspect
  try extract_lets
  repeat' first
    | with_reducible assumption | with_reducible apply raise_keeps | with_reducible apply bump_keeps | with_reducible apply updServo_keeps
    | with_reducible apply setServo_keeps | with_reducible apply foldl_keeps | with_reducible apply ite_keeps | intro _ | split | contradiction
    | dsimp only

theorem predict_keeps (s : State) (h : Keeps r s) : Keeps r (State.predict s) := by
  unfold State.predict
  try extract_lets
  repeat' first
    | with_reducible assumption | with_reducible apply draw_keeps
    | (with_reducible refine Eq.mp (congrArg (Keeps r) (congrArg Prod.snd ‹_ = (_, _)›)) (draw_keeps ..)) | with_reducible apply updServo_keeps
    | with_reducible apply foldl_keeps | with_reducible apply ite_keeps | intro _ | split | contradiction | dsimp only

theorem acquireSync_keeps (s : State) (o : Int) (h : Keeps r s) : Keeps r (State.acquireSync s o) := by
  unfold State.acquireSync
  try extract_lets
  repeat' first
    | with_reducible assumption | with_reducible apply updWs_keeps | with_reducible apply updServo_keeps | with_reducible apply servoStep_keeps
    | with_reducible apply servoSlew_keeps | with_reducible apply servoLock_keeps | with_reducible apply foldl_keeps | with_reducible apply ite_keeps
    | intro _ | split | contradiction | dsimp only

theorem lockedSync_keeps (s : State) (o : Int) (h : Keeps r s) : Keeps r (State.lockedSync s o) := by
  unfold State.lockedSync
  try extract_lets
  repeat' first
    | with_reducible assumption | with_reducible apply servoSuspect_keeps | with_reducible apply servoStep_keeps
    | with_reducible apply servoSlew_keeps | with_reducible apply foldl_keeps | with_reducible apply ite_keeps | intro _ | split | contradiction
    | dsimp only

theorem syncReceived_keeps (s : State) (p : Nat) (m : PtpSync) (h : Keeps r s) : Keeps r (State.syncReceived s p m) := by
  unfold State.syncReceived
  dsimp only
  repeat' first
    | with_reducible assumption | with_reducible apply setReg_keeps | with_reducible apply updServo_keeps | with_reducible apply acquireSync_keeps
    | with_reducible apply lockedSync_keeps | with_reducible apply predict_keeps | with_reducible apply foldl_keeps | with_reducible apply ite_keeps
    | intro _ | split | contradiction | dsimp only

theorem setD_keeps (s : State) (d : Int) (h : Keeps r s) : Keeps r (State.setD s d) := by
  unfold State.setD
  try extract_lets
  repeat' first
    | with_reducible assumption | with_reducible apply setReg_keeps | with_reducible apply updServo_keeps | with_reducible apply foldl_keeps
    | with_reducible apply ite_keeps | intro _ | split | contradiction | dsimp only

theorem filterD_keeps (s : State) (md : Int) (h : Keeps r s) : Keeps r (State.filterD s md) := by
  unfold State.filterD
  try extract_lets
  repeat' first
    | with_reducible assumption | with_reducible apply draw_keeps
    | (with_reducible refine Eq.mp (congrArg (Keeps r) (congrArg Prod.snd ‹_ = (_, _)›)) (draw_keeps ..)) | with_reducible apply setD_keeps
    | with_reducible apply foldl_keeps | with_reducible apply ite_keeps | intro _ | split | contradiction | dsimp only

theorem suspectDelay_keeps (s : State) (p : Nat) (md : Int) (h : Keeps r s) : Keeps r (State.suspectDelay s p md) := by
  unfold State.suspectDelay
  try extract_lets
  repeat' first
    | with_reducible assumption | with_reducible apply updServo_keeps | with_reducible apply setD_keeps | with_reducible apply setReg_keeps
    | with_reducible apply servoLock_keeps | with_reducible apply setServo_keeps | with_reducible apply foldl_keeps | with_reducible apply ite_keeps
    | intro _ | split | contradiction | dsimp only

theorem delayResp_keeps (s : State) (p : Nat) (m : PtpDelayResp) (h : Keeps r s) : Keeps r (State.delayResp s p m) := by
  unfold State.delayResp
  try extract_lets
  repeat' first
    | with_reducible assumption | with_reducible apply updServo_keeps | with_reducible apply suspectDelay_keeps
    | with_reducible apply servoSuspect_keeps | with_reducible apply filterD_keeps | with_reducible apply foldl_keeps | with_reducible apply ite_keeps
    | intro _ | split | contradiction | dsimp only

theorem takeMaster_keeps (s : State) (m : U64) (p : Nat) (h : Keeps r s) : Keeps r (State.takeMaster s m p) := by
  unfold State.takeMaster
  try extract_lets
  repeat' first
    | with_reducible assumption | with_reducible apply raise_keeps | with_reducible apply bump_keeps | with_reducible apply setPair_keeps
    | with_reducible apply updServo_keeps | with_reducible apply setServo_keeps | with_reducible apply setReg_keeps | with_reducible apply foldl_keeps
    | with_reducible apply ite_keeps | intro _ | split | contradiction | dsimp only

theorem hear_keeps (s : State) (p : Nat) (m : PtpAnnounce) (h : Keeps r s) : Keeps r (State.hear s p m) := by
  unfold State.hear
  try extract_lets
  repeat' first
    | with_reducible assumption | with_reducible apply updServo_keeps | with_reducible apply foldl_keeps | with_reducible apply ite_keeps | intro _
    | split | contradiction | dsimp only

theorem announce_keeps (s : State) (p : Nat) (m : PtpAnnounce) (h : Keeps r s) : Keeps r (State.announce s p m) := by
  unfold State.announce
  try extract_lets
  repeat' first
    | with_reducible assumption | with_reducible apply setRegBit_keeps | with_reducible apply hear_keeps | with_reducible apply updServo_keeps
    | with_reducible apply takeMaster_keeps | with_reducible apply foldl_keeps | with_reducible apply ite_keeps | intro _ | split | contradiction
    | dsimp only

theorem sendDelayReq_keeps (s : State) (h : Keeps r s) : Keeps r (State.sendDelayReq s) := by
  unfold State.sendDelayReq
  try extract_lets
  repeat' first
    | with_reducible assumption | with_reducible apply updServo_keeps | with_reducible apply updPort_keeps | with_reducible apply foldl_keeps
    | with_reducible apply ite_keeps | intro _ | split | contradiction | dsimp only

theorem loseMaster_keeps (s : State) (h : Keeps r s) : Keeps r (State.loseMaster s) := by
  unfold State.loseMaster
  try extract_lets
  repeat' first
    | with_reducible assumption | with_reducible apply updServo_keeps | with_reducible apply setRegBit_keeps | with_reducible apply raise_keeps
    | with_reducible apply bump_keeps | with_reducible apply setServo_keeps | with_reducible apply foldl_keeps | with_reducible apply ite_keeps
    | intro _ | split | contradiction | dsimp only

theorem acquireAgain_keeps (s : State) (h : Keeps r s) : Keeps r (State.acquireAgain s) := by
  unfold State.acquireAgain
  try extract_lets
  repeat' first
    | with_reducible assumption | with_reducible apply doSwitch_keeps | with_reducible apply setServo_keeps | with_reducible apply updServo_keeps
    | with_reducible apply foldl_keeps | with_reducible apply ite_keeps | intro _ | split | contradiction | dsimp only

theorem ethReceive_keeps (s : State) (p : Nat) (f : EthRx) (h : Keeps r s) : Keeps r (State.ethReceive s p f) := by
  unfold State.ethReceive
  try extract_lets
  repeat' first
    | with_reducible assumption | with_reducible apply bump_keeps | with_reducible apply ringLoss_keeps | with_reducible apply postBuffer_keeps
    | with_reducible apply foldl_keeps | with_reducible apply ite_keeps | intro _ | split | contradiction | dsimp only

theorem ethSend_keeps (s : State) (p : Nat) (l : List Byte) (h : Keeps r s) : Keeps r (State.ethSend s p l) := by
  unfold State.ethSend
  try extract_lets
  repeat' first
    | with_reducible assumption | with_reducible apply bump_keeps | with_reducible apply emitOut_keeps | with_reducible apply foldl_keeps
    | with_reducible apply ite_keeps | intro _ | split | contradiction | dsimp only

theorem ethTransmit_keeps (s : State) (p : Nat) (buf : Image) (h : Keeps r s) : Keeps r (State.ethTransmit s p buf) := by
  unfold State.ethTransmit
  try extract_lets
  repeat' first
    | with_reducible assumption | with_reducible apply ethSend_keeps | with_reducible apply updServo_keeps | with_reducible apply updPort_keeps
    | with_reducible apply takeHead_keeps | with_reducible apply readBuffer_keeps | with_reducible apply bump_keeps | with_reducible apply foldl_keeps
    | with_reducible apply ite_keeps | intro _ | split | contradiction | dsimp only

theorem ethStamp_keeps (s : State) (p : Nat) (h : Keeps r s) : Keeps r (State.ethStamp s p) := by
  unfold State.ethStamp
  try extract_lets
  repeat' first
    | with_reducible assumption | with_reducible apply updPort_keeps | with_reducible apply bump_keeps | with_reducible apply raise_keeps
    | with_reducible apply foldl_keeps | with_reducible apply ite_keeps | intro _ | split | contradiction | dsimp only

theorem txtsW0Read_keeps (s : State) (p : Nat) (h : Keeps r s) : Keeps r (State.txtsW0Read s p) := by
  unfold State.txtsW0Read
  try extract_lets
  repeat' first
    | with_reducible assumption | with_reducible apply updPort_keeps | with_reducible apply foldl_keeps | with_reducible apply ite_keeps | intro _
    | split | contradiction | dsimp only

theorem txtsHiRead_keeps (s : State) (p : Nat) (h : Keeps r s) : Keeps r (State.txtsHiRead s p) := by
  unfold State.txtsHiRead
  try extract_lets
  repeat' first
    | with_reducible assumption | with_reducible apply updPort_keeps | with_reducible apply foldl_keeps | with_reducible apply ite_keeps | intro _
    | split | contradiction | dsimp only

theorem updRtc_keeps (s : State) (f : Rtc → Rtc) (h : Keeps r s) : Keeps r (State.updRtc s f) := by
  unfold State.updRtc
  try extract_lets
  repeat' first
    | with_reducible assumption | with_reducible apply foldl_keeps | with_reducible apply ite_keeps | intro _ | split | contradiction | dsimp only

theorem almFire_keeps (s : State) (skipped : Bool) (h : Keeps r s) : Keeps r (State.almFire s skipped) := by
  unfold State.almFire
  try extract_lets
  repeat' first
    | with_reducible assumption | with_reducible apply raise_keeps | with_reducible apply bump_keeps | with_reducible apply setReg_keeps
    | with_reducible apply foldl_keeps | with_reducible apply ite_keeps | intro _ | split | contradiction | dsimp only

theorem localApply_keeps (s : State) (h : Keeps r s) : Keeps r (State.localApply s) := by
  unfold State.localApply
  try extract_lets
  repeat' first
    | with_reducible assumption | with_reducible apply updRtc_keeps | with_reducible apply foldl_keeps | with_reducible apply ite_keeps | intro _
    | split | contradiction | dsimp only

theorem rtcCount_keeps (s : State) (n : Nat) (h : Keeps r s) : Keeps r (State.rtcCount s n) := by
  unfold State.rtcCount
  try extract_lets
  repeat' first
    | with_reducible assumption | with_reducible apply updRtc_keeps | with_reducible apply localApply_keeps | with_reducible apply almFire_keeps
    | with_reducible apply foldl_keeps | with_reducible apply ite_keeps | intro _ | split | contradiction | dsimp only

theorem shiftEnd_keeps (s : State) (h : Keeps r s) : Keeps r (State.shiftEnd s) := by
  unfold State.shiftEnd
  try extract_lets
  repeat' first
    | with_reducible assumption | with_reducible apply updRtc_keeps | with_reducible apply setRegBit_keeps | with_reducible apply raise_keeps
    | with_reducible apply bump_keeps | with_reducible apply foldl_keeps | with_reducible apply ite_keeps | intro _ | split | contradiction
    | dsimp only

theorem rtcRun_keeps (s : State) (n : Nat) (h : Keeps r s) : Keeps r (State.rtcRun s n) := by
  unfold State.rtcRun
  try extract_lets
  repeat' first
    | with_reducible assumption | with_reducible apply rtcCount_keeps | with_reducible apply setRegFld_keeps | with_reducible apply shiftEnd_keeps
    | with_reducible apply updRtc_keeps | with_reducible apply foldl_keeps | with_reducible apply ite_keeps | intro _ | split | contradiction
    | dsimp only

theorem shiftBegin_keeps (s : State) (h : Keeps r s) : Keeps r (State.shiftBegin s) := by
  unfold State.shiftBegin
  try extract_lets
  repeat' first
    | with_reducible assumption | with_reducible apply updRtc_keeps | with_reducible apply setRegBit_keeps | with_reducible apply setReg_keeps
    | with_reducible apply foldl_keeps | with_reducible apply ite_keeps | intro _ | split | contradiction | dsimp only

theorem commit_keeps (s : State) (h : Keeps r s) : Keeps r (State.commit s) := by
  unfold State.commit
  try extract_lets
  repeat' first
    | with_reducible assumption | with_reducible apply raise_keeps | with_reducible apply setRegBit_keeps | with_reducible apply updRtc_keeps
    | with_reducible apply bump_keeps | with_reducible apply almFire_keeps | with_reducible apply foldl_keeps | with_reducible apply ite_keeps
    | intro _ | split | contradiction | dsimp only

theorem rtcEdge_keeps (s : State) (h : Keeps r s) : Keeps r (State.rtcEdge s) := by
  unfold State.rtcEdge
  try extract_lets
  repeat' first
    | with_reducible assumption | with_reducible apply shiftBegin_keeps | with_reducible apply commit_keeps | with_reducible apply rtcRun_keeps
    | with_reducible apply foldl_keeps | with_reducible apply ite_keeps | intro _ | split | contradiction | dsimp only

theorem wakes_keeps (s : State) (k : Nat) (h : Keeps r s) : Keeps r (State.wakes s k) := by
  unfold State.wakes
  try extract_lets
  repeat' first
    | with_reducible assumption | with_reducible apply bumpBy_keeps | with_reducible apply raise_keeps | with_reducible apply emitOut_keeps
    | with_reducible apply updRtc_keeps | with_reducible apply foldl_keeps | with_reducible apply ite_keeps | intro _ | split | contradiction
    | dsimp only

theorem wakeRun_keeps (s : State) (n : Nat) (h : Keeps r s) : Keeps r (State.wakeRun s n) := by
  unfold State.wakeRun
  try extract_lets
  repeat' first
    | with_reducible assumption | with_reducible apply updRtc_keeps | with_reducible apply wakes_keeps | with_reducible apply foldl_keeps
    | with_reducible apply ite_keeps | intro _ | split | contradiction | dsimp only

theorem vbkRun_keeps (s : State) (n : Nat) (h : Keeps r s) : Keeps r (State.vbkRun s n) := by
  unfold State.vbkRun
  try extract_lets
  repeat' first
    | with_reducible assumption | with_reducible apply updRtc_keeps | with_reducible apply draw_keeps
    | (with_reducible refine Eq.mp (congrArg (Keeps r) (congrArg Prod.snd ‹_ = (_, _)›)) (draw_keeps ..)) | with_reducible apply setReg_keeps
    | with_reducible apply foldl_keeps | with_reducible apply ite_keeps | intro _ | split | contradiction | dsimp only

theorem rtcEdges_keeps (s : State) (a1 : Nat) (h : Keeps r s) : Keeps r (State.rtcEdges s a1) := by
  unfold State.rtcEdges
  try extract_lets
  repeat' first
    | with_reducible assumption | with_reducible apply rtcRun_keeps | with_reducible apply rtcEdge_keeps | with_reducible apply foldl_keeps
    | with_reducible apply ite_keeps | intro _ | split | contradiction | dsimp only

theorem rtcElapse_keeps (s : State) (n : Nat) (h : Keeps r s) : Keeps r (State.rtcElapse s n) := by
  unfold State.rtcElapse
  try extract_lets
  repeat' first
    | with_reducible assumption | with_reducible apply vbkRun_keeps | with_reducible apply wakeRun_keeps | with_reducible apply rtcEdges_keeps
    | with_reducible apply foldl_keeps | with_reducible apply ite_keeps | intro _ | split | contradiction | dsimp only

theorem legSet_keeps (s : State) (h : Keeps r s) : Keeps r (State.legSet s) := by
  unfold State.legSet
  try extract_lets
  repeat' first
    | with_reducible assumption | with_reducible apply ignored_keeps | with_reducible apply bump_keeps | with_reducible apply setRegBit_keeps
    | with_reducible apply updRtc_keeps | with_reducible apply foldl_keeps | with_reducible apply ite_keeps | intro _ | split | contradiction
    | dsimp only

theorem switchOver_keeps (s : State) (h : Keeps r s) : Keeps r (State.switchOver s) := by
  unfold State.switchOver
  try extract_lets
  repeat' first
    | with_reducible assumption | with_reducible apply setReg_keeps | with_reducible apply emitOut_keeps | with_reducible apply updRtc_keeps
    | with_reducible apply bump_keeps | with_reducible apply foldl_keeps | with_reducible apply ite_keeps | intro _ | split | contradiction
    | dsimp only

theorem switchBack_keeps (s : State) (h : Keeps r s) : Keeps r (State.switchBack s) := by
  unfold State.switchBack
  try extract_lets
  repeat' first
    | with_reducible assumption | with_reducible apply updRtc_keeps | with_reducible apply raise_keeps | with_reducible apply foldl_keeps
    | with_reducible apply ite_keeps | intro _ | split | contradiction | dsimp only

theorem backupLost_keeps (s : State) (h : Keeps r s) : Keeps r s.backupLost :=
  ⟨h.pending, fun i => { h.inv i with regs := Sparse.rising_filter _ _ (h.inv i).regs }⟩

theorem setNow_keeps (s : State) (h : Keeps r s) : Keeps r (State.setNow s) := by
  unfold State.setNow
  try extract_lets
  repeat' first
    | with_reducible assumption | with_reducible apply updRtc_keeps | with_reducible apply ignored_keeps | with_reducible apply foldl_keeps
    | with_reducible apply ite_keeps | intro _ | split | contradiction | dsimp only

theorem clearSwo_keeps (s : State) (h : Keeps r s) : Keeps r (State.clearSwo s) := by
  unfold State.clearSwo
  try extract_lets
  repeat' first
    | with_reducible assumption | with_reducible apply setRegBit_keeps | with_reducible apply ignored_keeps | with_reducible apply foldl_keeps
    | with_reducible apply ite_keeps | intro _ | split | contradiction | dsimp only

theorem shiftWrite_keeps (s : State) (v : U32) (h : Keeps r s) : Keeps r (State.shiftWrite s v) := by
  unfold State.shiftWrite
  try extract_lets
  repeat' first
    | with_reducible assumption | with_reducible apply ignored_keeps | with_reducible apply raise_keeps | with_reducible apply updRtc_keeps
    | with_reducible apply foldl_keeps | with_reducible apply ite_keeps | intro _ | split | contradiction | dsimp only

theorem wakeCtl_keeps (s : State) (v : U32) (h : Keeps r s) : Keeps r (State.wakeCtl s v) := by
  unfold State.wakeCtl
  try extract_lets
  repeat' first
    | with_reducible assumption | with_reducible apply ignored_keeps | with_reducible apply setReg_keeps | with_reducible apply updRtc_keeps
    | with_reducible apply foldl_keeps | with_reducible apply ite_keeps | intro _ | split | contradiction | dsimp only

theorem cellLevel_keeps (s : State) (high : Bool) (h : Keeps r s) : Keeps r (State.cellLevel s high) := by
  unfold State.cellLevel
  try extract_lets
  repeat' first
    | with_reducible assumption | with_reducible apply updRtc_keeps | with_reducible apply foldl_keeps | with_reducible apply ite_keeps | intro _
    | split | contradiction | dsimp only

theorem trickleWrite_keeps (s : State) (v : U32) (h : Keeps r s) : Keeps r (State.trickleWrite s v) := by
  unfold State.trickleWrite
  try extract_lets
  repeat' first
    | with_reducible assumption | with_reducible apply ignored_keeps | with_reducible apply setReg_keeps | with_reducible apply foldl_keeps
    | with_reducible apply ite_keeps | intro _ | split | contradiction | dsimp only

theorem dstWrite_keeps (s : State) (on : Bool) (h : Keeps r s) : Keeps r (State.dstWrite s on) := by
  unfold State.dstWrite
  try extract_lets
  repeat' first
    | with_reducible assumption | with_reducible apply ignored_keeps | with_reducible apply updRtc_keeps | with_reducible apply foldl_keeps
    | with_reducible apply ite_keeps | intro _ | split | contradiction | dsimp only

theorem almCtl_keeps (s : State) (v : U32) (h : Keeps r s) : Keeps r (State.almCtl s v) := by
  unfold State.almCtl
  try extract_lets
  repeat' first
    | with_reducible assumption | with_reducible apply ignored_keeps | with_reducible apply setRegBit_keeps | with_reducible apply almFire_keeps
    | with_reducible apply setReg_keeps | with_reducible apply foldl_keeps | with_reducible apply ite_keeps | intro _ | split | contradiction
    | dsimp only

theorem fracRead_keeps (s : State) (h : Keeps r s) : Keeps r (State.fracRead s) := by
  unfold State.fracRead
  try extract_lets
  repeat' first
    | with_reducible assumption | with_reducible apply updRtc_keeps | with_reducible apply foldl_keeps | with_reducible apply ite_keeps | intro _
    | split | contradiction | dsimp only

theorem secHiRead_keeps (s : State) (h : Keeps r s) : Keeps r (State.secHiRead s) := by
  unfold State.secHiRead
  try extract_lets
  repeat' first
    | with_reducible assumption | with_reducible apply updRtc_keeps | with_reducible apply foldl_keeps | with_reducible apply ite_keeps | intro _
    | split | contradiction | dsimp only

theorem legSecRead_keeps (s : State) (h : Keeps r s) : Keeps r (State.legSecRead s) := by
  unfold State.legSecRead
  try extract_lets
  repeat' first
    | with_reducible assumption | with_reducible apply updRtc_keeps | with_reducible apply foldl_keeps | with_reducible apply ite_keeps | intro _
    | split | contradiction | dsimp only

theorem legYearRead_keeps (s : State) (h : Keeps r s) : Keeps r (State.legYearRead s) := by
  unfold State.legYearRead
  try extract_lets
  repeat' first
    | with_reducible assumption | with_reducible apply updRtc_keeps | with_reducible apply foldl_keeps | with_reducible apply ite_keeps | intro _
    | split | contradiction | dsimp only

theorem cellGoesHigh_keeps (s : State) (h : Keeps r s) : Keeps r (State.cellGoesHigh s) := by
  unfold State.cellGoesHigh
  try extract_lets
  repeat' first
    | with_reducible assumption | with_reducible apply cellLevel_keeps | with_reducible apply raise_keeps | with_reducible apply setRegBit_keeps
    | with_reducible apply foldl_keeps | with_reducible apply ite_keeps | intro _ | split | contradiction | dsimp only

theorem updPanel_keeps (s : State) (f : Panel → Panel) (h : Keeps r s) : Keeps r (State.updPanel s f) := by
  unfold State.updPanel
  try extract_lets
  repeat' first
    | with_reducible assumption | with_reducible apply foldl_keeps | with_reducible apply ite_keeps | intro _ | split | contradiction | dsimp only

theorem flipNow_keeps (s : State) (h : Keeps r s) : Keeps r (State.flipNow s) := by
  unfold State.flipNow
  try extract_lets
  repeat' first
    | with_reducible assumption | with_reducible apply updPanel_keeps | with_reducible apply raise_keeps | with_reducible apply bump_keeps
    | with_reducible apply finish_keeps | with_reducible apply foldl_keeps | with_reducible apply ite_keeps | intro _ | split | contradiction
    | dsimp only

theorem scanStop_keeps (s : State) (h : Keeps r s) : Keeps r (State.scanStop s) := by
  unfold State.scanStop
  try extract_lets
  repeat' first
    | with_reducible assumption | with_reducible apply updPanel_keeps | with_reducible apply foldl_keeps | with_reducible apply ite_keeps | intro _
    | split | contradiction | dsimp only

theorem panelCtl_keeps (s : State) (h : Keeps r s) : Keeps r (State.panelCtl s) := by
  unfold State.panelCtl
  try extract_lets
  repeat' first
    | with_reducible assumption | with_reducible apply scanStop_keeps | with_reducible apply foldl_keeps | with_reducible apply ite_keeps | intro _
    | split | contradiction | dsimp only

theorem frame_keeps (s : State) (h : Keeps r s) : Keeps r (State.frame s) := by
  unfold State.frame
  dsimp only
  repeat' first
    | with_reducible assumption | with_reducible apply emitOut_keeps | with_reducible apply updPanel_keeps | with_reducible apply bump_keeps
    | with_reducible apply setReg_keeps | with_reducible apply setRegFld_keeps | with_reducible apply flipNow_keeps | with_reducible apply foldl_keeps
    | with_reducible apply ite_keeps | intro _ | split | contradiction | dsimp only

theorem panelFlip_keeps (s : State) (img : Image) (d : Desc) (h : Keeps r s) : Keeps r (State.panelFlip s img d) := by
  unfold State.panelFlip
  try extract_lets
  repeat' first
    | with_reducible assumption | with_reducible apply done_keeps | with_reducible apply tarnStore_keeps | with_reducible apply defer_keeps
    | with_reducible apply updPanel_keeps | with_reducible apply foldl_keeps | with_reducible apply ite_keeps | intro _ | split | contradiction
    | dsimp only

theorem panelTemp_keeps (s : State) (p : PanelTemp) (h : Keeps r s) : Keeps r (State.panelTemp s p) := by
  unfold State.panelTemp
  try extract_lets
  repeat' first
    | with_reducible assumption | with_reducible apply draw_keeps
    | (with_reducible refine Eq.mp (congrArg (Keeps r) (congrArg Prod.snd ‹_ = (_, _)›)) (draw_keeps ..)) | with_reducible apply bump_keeps
    | with_reducible apply raise_keeps | with_reducible apply setRegFld_keeps | with_reducible apply setReg_keeps
    | with_reducible apply updPanel_keeps | with_reducible apply foldl_keeps | with_reducible apply ite_keeps | intro _ | split | contradiction
    | dsimp only

theorem freezeLil_keeps (s : State) (h : Keeps r s) : Keeps r (State.freezeLil s) := by
  unfold State.freezeLil
  try extract_lets
  repeat' first
    | with_reducible assumption | with_reducible apply updRtc_keeps | with_reducible apply foldl_keeps | with_reducible apply ite_keeps | intro _
    | split | contradiction | dsimp only

theorem redraw_keeps (s : State) (h : Keeps r s) : Keeps r (State.redraw s) := by
  unfold State.redraw
  try extract_lets
  repeat' first
    | with_reducible assumption | with_reducible apply freezeLil_keeps | with_reducible apply tarnStore_keeps | with_reducible apply updPanel_keeps
    | with_reducible apply setReg_keeps | with_reducible apply raise_keeps | with_reducible apply foldl_keeps | with_reducible apply ite_keeps
    | intro _ | split | contradiction | dsimp only

theorem tmoLow_keeps (s : State) (h : Keeps r s) : Keeps r (State.tmoLow s) := by
  unfold State.tmoLow
  try extract_lets
  repeat' first
    | with_reducible assumption | with_reducible apply emitOut_keeps | with_reducible apply foldl_keeps | with_reducible apply ite_keeps | intro _
    | split | contradiction | dsimp only

theorem restart_keeps (s : State) (cause : Nat) (h : Keeps r s) : Keeps r (s.restart cause) := by
  unfold State.restart
  extract_lets t1 t2 t3
  have c : s.cutErase.set0 = s.nvm.set0 ∧ s.cutErase.set1 = s.nvm.set1 := by
    unfold State.cutErase
    split
    · split <;> exact ⟨rfl, rfl⟩
    · exact ⟨rfl, rfl⟩
  have h1 : Keeps r t1 := ⟨h.pending, fun i =>
    { tarn := rfl, regs := Sparse.rising_filter _ _ (h.inv i).regs, credits := fun _ _ _ => Nat.zero_le _, rot := (by decide : 0 < 58),
      legFifo := Nat.zero_le _, bufs := Nat.zero_le _, behav := (h.inv i).behav,
      gens := fun g hg => (h.inv i).gens g (c.1 ▸ c.2 ▸ hg.imp_right (fun k => k.imp_right (fun k => nomatch k))) }⟩
  have h2 : Keeps r t2 := ite_keeps _ _ _ (fun _ => emitOut_keeps _ _ h1) (fun _ => h1)
  have h3 : Keeps r t3 := ite_keeps _ _ _ (fun _ => emitOut_keeps _ _ h2) (fun _ => h2)
  exact setReg_keeps _ _ _ (tmoLow_keeps _ h3)

theorem fallBack_keeps (s : State) (reason : Nat) (h : Keeps r s) : Keeps r (State.fallBack s reason) := by
  unfold State.fallBack
  try extract_lets
  repeat' first
    | with_reducible assumption | with_reducible apply writeBoot_keeps | with_reducible apply restart_keeps | with_reducible apply foldl_keeps
    | with_reducible apply ite_keeps | intro _ | split | contradiction | dsimp only

theorem powerFall_keeps (s : State) (ticks : Nat) (torn : Option Nat) (h : Keeps r s) : Keeps r (State.powerFall s ticks torn) := by
  unfold State.powerFall
  try extract_lets
  repeat' first
    | with_reducible assumption | with_reducible apply rtcElapse_keeps | with_reducible apply cutWrite_keeps | with_reducible apply switchOver_keeps
    | with_reducible apply updNvm_keeps | with_reducible apply restart_keeps | with_reducible exact fun _ => ⟨rfl, rfl⟩
    | with_reducible apply foldl_keeps | with_reducible apply ite_keeps | intro _ | split | contradiction | dsimp only

theorem bootRom_keeps (s : State) (good : Nat → Bool) (h : Keeps r s) : Keeps r (State.bootRom s good).2 := by
  unfold State.bootRom
  try extract_lets
  repeat' first
    | with_reducible assumption | with_reducible apply writeDone_keeps | with_reducible apply writeBoot_keeps | with_reducible apply foldl_keeps
    | with_reducible apply ite_keeps | intro _ | split | contradiction | dsimp only

theorem bootChosen_keeps (s : State) (b : BootChoice) (h : Keeps r s) : Keeps r (s.bootChosen b) := by
  unfold State.bootChosen
  extract_lets x fall s1 s2 s3
  have h1 : Keeps r s1 := setReg_keeps _ _ _ h
  have h2 : Keeps r s2 := ⟨h1.pending, fun i => { h1.inv i with bufs := Nat.zero_le _ }⟩
  have h3 : Keeps r s3 := eraseResume_keeps _ h2
  exact ite_keeps _ _ _ (fun _ => bump_keeps _ _ (raise_keeps _ _ _ h3)) (fun _ => h3)

theorem setFmode_keeps (s : State) (h : Keeps r s) : Keeps r s.setFmode := by
  unfold State.setFmode
  extract_lets x s1
  have h1 : Keeps r s1 := setRegFld_keeps _ _ _ _ _ (setRegFld_keeps _ _ _ _ _ h)
  split
  · exact h1
  · exact updOutlet_keeps _ _ (setReg_keeps _ _ _ (setReg_keeps _ _ _ h1)) (fun _ _ => Nat.zero_le _)

theorem factoryClock_keeps (s : State) (h : Keeps r s) : Keeps r (State.factoryClock s) := by
  unfold State.factoryClock
  try extract_lets
  repeat' first
    | with_reducible assumption | with_reducible apply setReg_keeps | with_reducible apply foldl_keeps | with_reducible apply ite_keeps | intro _
    | split | contradiction | dsimp only

theorem takeIdentity_keeps (s : State) (answers : Bool) (h : Keeps r s) : Keeps r (s.takeIdentity answers) := by
  unfold State.takeIdentity
  generalize (if answers then s.slotRecord else none) = x0
  extract_lets x slotId s1 lock s2 rev s3 s4 s5
  have h1 : Keeps r s1 := setSs_keeps _ _ h
  have h2 : Keeps r s2 := ite_keeps _ _ _ (fun _ => logReplacement_keeps _ _ h1) (fun _ => h1)
  have hb : rev = 1 ∨ rev = 2 := by simp only [rev, lockRev, nativeRev]; split <;> simp
  have h3 : Keeps r s3 := ⟨h2.pending, fun i => { h2.inv i with behav := hb }⟩
  have h4 : Keeps r s4 := setReg_keeps _ _ _ h3
  refine setFmode_keeps _ ?_
  clear_value s4
  clear h1 h2 h3 hb
  simp only [s5]
  clear_value lock
  clear_value x
  cases x
  · exact setReg_keeps _ _ _ (setReg_keeps _ _ _ (factoryClock_keeps _ h4))
  · exact setReg_keeps _ _ _ (setReg_keeps _ _ _ (loadIdentity_keeps _ _ h4))

theorem selfTested_keeps (s : State) (t : SelfTest) (h : Keeps r s) : Keeps r (State.selfTested s t) := by
  unfold State.selfTested
  try extract_lets
  repeat' first
    | with_reducible assumption | with_reducible apply setReg_keeps | with_reducible apply updDio_keeps | with_reducible apply setCanStat_keeps
    | with_reducible apply updPort_keeps | with_reducible apply foldl_keeps | with_reducible apply ite_keeps | intro _ | split | contradiction
    | dsimp only

theorem factoryFactors_keeps (s : State) (h : Keeps r s) : Keeps r (State.factoryFactors s) := by
  unfold State.factoryFactors
  try extract_lets
  repeat' first
    | with_reducible assumption | with_reducible apply setReg_keeps | with_reducible apply foldl_keeps | with_reducible apply ite_keeps | intro _
    | split | contradiction | dsimp only

theorem firstCal_keeps (s : State) (cal : List (Nat × Nat × F32)) (h : Keeps r s) : Keeps r (State.firstCal s cal) := by
  unfold State.firstCal
  try extract_lets
  repeat' first
    | with_reducible assumption | with_reducible apply calJudge_keeps | with_reducible apply foldl_keeps | with_reducible apply ite_keeps | intro _
    | split | contradiction | dsimp only

theorem convert_keeps (s : State) (h : Keeps r s) : Keeps r s.convert := by
  unfold State.convert
  extract_lets k prev fmt whole was s1 mark
  have h1 : Keeps r s1 := by
    refine updRegion_wf _ _ _ h fun i t ht y hy => ?_
    split at hy
    · exact ht y hy
    · refine (h.inv i).gens y ?_
      simp only [prev, Nvm.region] at hy
      split at hy
      · exact .inl hy
      · exact .inr (.inl hy)
  clear_value s1
  exact ⟨h1.pending, fun i => { h1.inv i with }⟩

theorem loadSettings_keeps (s : State) (h : Keeps r s) : Keeps r s.loadSettings := by
  unfold State.loadSettings
  split
  · exact loadRegion_keeps _ _ h (fun i g hg => active_gens s (h.inv i) g hg)
  · exact h

theorem forerunner_keeps (s : State) (h : Keeps r s) : Keeps r (State.forerunner s) := by
  unfold State.forerunner
  try extract_lets
  repeat' first
    | with_reducible assumption | with_reducible apply tarnStore_keeps | with_reducible apply setScan_keeps | with_reducible apply foldl_keeps
    | with_reducible apply ite_keeps | intro _ | split | contradiction | dsimp only

theorem enterSetup_keeps (s : State) (h : Keeps r s) : Keeps r s.enterSetup := by
  unfold State.enterSetup
  extract_lets clear s1 i1 i2 gk o s3
  have h1 : Keeps r s1 := updSkink_keeps _ _ (releaseHold_keeps _ h)
  have h3 : Keeps r s3 := ⟨h1.pending, fun i => { h1.inv i with credits := fun _ _ _ => Nat.zero_le _ }⟩
  exact setMgmt_keeps _ _ (requestsEnd_keeps _ (statesWritten_keeps _ h3))

theorem seedTime_keeps (s : State) (h : Keeps r s) : Keeps r (State.seedTime s) := by
  unfold State.seedTime
  try extract_lets
  repeat' first
    | with_reducible assumption | with_reducible apply foldl_keeps | with_reducible apply ite_keeps | intro _ | split | contradiction | dsimp only

theorem panelOut_keeps (s : State) (h : Keeps r s) : Keeps r (State.panelOut s) := by
  unfold State.panelOut
  try extract_lets
  repeat' first
    | with_reducible assumption | with_reducible apply emitOut_keeps | with_reducible apply foldl_keeps | with_reducible apply ite_keeps | intro _
    | split | contradiction | dsimp only

theorem tmosLoaded_keeps (s : State) (h : Keeps r s) : Keeps r (State.tmosLoaded s) := by
  unfold State.tmosLoaded
  try extract_lets
  repeat' first
    | with_reducible assumption | with_reducible apply tmoPin_keeps | with_reducible apply tmoArm_keeps | with_reducible apply foldl_keeps
    | with_reducible apply ite_keeps | intro _ | split | contradiction | dsimp only

theorem finishBoot_keeps (s : State) (h : Keeps r s) : Keeps r (State.finishBoot s) := by
  unfold State.finishBoot
  try extract_lets
  repeat' first
    | with_reducible assumption | with_reducible apply takeDigest_keeps | with_reducible apply seedTime_keeps | with_reducible apply pairEnabled_keeps
    | with_reducible apply loadSettings_keeps | with_reducible apply updHif_keeps | with_reducible apply enterSetup_keeps
    | with_reducible apply tmosLoaded_keeps | with_reducible apply panelOut_keeps | with_reducible apply forerunner_keeps
    | with_reducible apply foldl_keeps | with_reducible apply ite_keeps | intro _ | split | contradiction | dsimp only

theorem bootImage_keeps (s : State) (env : BootEnv) (b : BootChoice) (h : Keeps r s) : Keeps r (State.bootImage s env b) := by
  unfold State.bootImage
  try extract_lets
  repeat' first
    | with_reducible assumption | with_reducible apply setMgmt_keeps | with_reducible apply takeIdentity_keeps | with_reducible apply bootChosen_keeps
    | with_reducible apply selfTested_keeps | with_reducible apply setReg_keeps | with_reducible apply panelOut_keeps
    | with_reducible apply haltNode_keeps | with_reducible apply firstCal_keeps | with_reducible apply factoryFactors_keeps
    | with_reducible apply updBank_keeps | with_reducible apply setRegBit_keeps | with_reducible apply finishBoot_keeps
    | with_reducible apply convert_keeps | with_reducible apply fallBack_keeps | with_reducible apply foldl_keeps | with_reducible apply ite_keeps
    | intro _ | split | contradiction | dsimp only

theorem boot_keeps (s : State) (env : BootEnv) (h : Keeps r s) : Keeps r (s.boot env) := by
  unfold State.boot
  split
  · exact h
  · extract_lets s1 s2 s3 s4 s5 bad
    have h1 : Keeps r s1 := rtcElapse_keeps _ _ h
    have h2 : Keeps r s2 := ite_keeps _ _ _ (fun _ => switchBack_keeps _ h1) (fun _ => h1)
    have h3 : Keeps r s3 := setMgmt_keeps _ _ (tmoLow_keeps _ (updRtc_keeps _ _ h2))
    have h4 : Keeps r s4 := setReg_keeps _ _ _ h3
    have h5 : Keeps r s5 := seedTime_keeps _ (linkTrain_keeps _ _ _ h4)
    clear_value s5
    have hb := bootRom_keeps s5 (fun k => s5.nvm.bootable k && !bad k) h5
    split
    · next e => rw [e] at hb; exact setReg_keeps _ _ _ hb
    · next e => rw [e] at hb; exact bootImage_keeps _ _ _ hb

theorem cmdIgnored_keeps (s : State) (h : Keeps r s) : Keeps r (State.cmdIgnored s) := by
  unfold State.cmdIgnored
  try extract_lets
  repeat' first
    | with_reducible assumption | with_reducible apply ignored_keeps | with_reducible apply foldl_keeps | with_reducible apply ite_keeps | intro _
    | split | contradiction | dsimp only

theorem ssDone_keeps (s : State) (h : Keeps r s) : Keeps r (State.ssDone s) := by
  unfold State.ssDone
  try extract_lets
  repeat' first
    | with_reducible assumption | with_reducible apply raise_keeps | with_reducible apply foldl_keeps | with_reducible apply ite_keeps | intro _
    | split | contradiction | dsimp only

theorem commissionNow_keeps (s : State) (h : Keeps r s) : Keeps r (State.commissionNow s) := by
  unfold State.commissionNow
  try extract_lets
  repeat' first
    | with_reducible assumption | with_reducible apply cmdIgnored_keeps | with_reducible apply writeSlot_keeps | with_reducible apply takeDigest_keeps
    | with_reducible apply setSs_keeps | with_reducible apply ssDone_keeps | with_reducible apply startBase_keeps | with_reducible apply foldl_keeps
    | with_reducible apply ite_keeps | intro _ | split | contradiction | dsimp only

theorem verifyNow_keeps (s : State) (h : Keeps r s) : Keeps r (State.verifyNow s) := by
  unfold State.verifyNow
  try extract_lets
  repeat' first
    | with_reducible assumption | with_reducible apply cmdIgnored_keeps | with_reducible apply ssDone_keeps | with_reducible apply takeDigest_keeps
    | with_reducible apply foldl_keeps | with_reducible apply ite_keeps | intro _ | split | contradiction | dsimp only

theorem acceptNow_keeps (s : State) (h : Keeps r s) : Keeps r (State.acceptNow s) := by
  unfold State.acceptNow
  try extract_lets
  repeat' first
    | with_reducible assumption | with_reducible apply cmdIgnored_keeps | with_reducible apply ssDone_keeps | with_reducible apply setSs_keeps
    | with_reducible apply writeSlot_keeps | with_reducible apply foldl_keeps | with_reducible apply ite_keeps | intro _ | split | contradiction
    | dsimp only

theorem bypassNow_keeps (s : State) (h : Keeps r s) : Keeps r (State.bypassNow s) := by
  unfold State.bypassNow
  try extract_lets
  repeat' first
    | with_reducible assumption | with_reducible apply cmdIgnored_keeps | with_reducible apply setSs_keeps | with_reducible apply foldl_keeps
    | with_reducible apply ite_keeps | intro _ | split | contradiction | dsimp only

theorem startService_keeps (s : State) (e : EngineId) (pass : Bool) (h : Keeps r s) : Keeps r (State.startService s e pass) := by
  unfold State.startService
  try extract_lets
  repeat' first
    | with_reducible assumption | with_reducible apply updEng_keeps | with_reducible apply recordFailure_keeps | with_reducible apply foldl_keeps
    | with_reducible apply ite_keeps | intro _ | split | contradiction | dsimp only

theorem dropHeld_keeps (s : State) (h : Keeps r s) : Keeps r (State.dropHeld s) := by
  unfold State.dropHeld
  try extract_lets
  repeat' first
    | with_reducible assumption | with_reducible apply updHif_keeps | with_reducible apply updSpawn_keeps | with_reducible apply setRegFld_keeps
    | with_reducible apply foldl_keeps | with_reducible apply ite_keeps | intro _ | split | contradiction | dsimp only

theorem lanesStart_keeps (s : State) (h : Keeps r s) : Keeps r s.lanesStart := by
  have hx := lanesEnd_keeps s (fun l => { l.halt.restart with calDue := false }) h
  unfold State.lanesStart
  generalize s.lanesEnd (fun l => { l.halt.restart with calDue := false }) = x at hx ⊢
  exact ⟨hx.pending, hx.inv⟩

theorem lanesResume_keeps (s : State) (h : Keeps r s) : Keeps r (State.lanesResume s) := by
  unfold State.lanesResume
  try extract_lets
  repeat' first
    | with_reducible assumption | with_reducible apply updDef_keeps | with_reducible apply lanesEnd_keeps | with_reducible apply foldl_keeps
    | with_reducible apply ite_keeps | intro _ | split | contradiction | dsimp only

theorem firstRecords_keeps (s : State) (h : Keeps r s) : Keeps r (State.firstRecords s) := by
  unfold State.firstRecords
  try extract_lets
  repeat' first
    | with_reducible assumption | with_reducible apply takeSsn_keeps
    | (with_reducible refine Eq.mp (congrArg (Keeps r) (congrArg Prod.snd ‹_ = (_, _)›)) (takeSsn_keeps ..)) | with_reducible apply updSpawn_keeps
    | with_reducible apply setRegBit_keeps | with_reducible apply setCap_keeps | with_reducible apply statusRec_keeps
    | (with_reducible refine Eq.mp (congrArg (Keeps r) (congrArg Prod.snd ‹_ = (_, _)›)) (statusRec_keeps ..)) | with_reducible apply foldl_keeps
    | with_reducible apply ite_keeps | intro _ | split | contradiction | dsimp only

theorem noteBad_keeps (s : State) (h : Keeps r s) : Keeps r (State.noteBad s) := by
  unfold State.noteBad
  try extract_lets
  repeat' first
    | with_reducible assumption | with_reducible apply setReg_keeps | with_reducible apply foldl_keeps | with_reducible apply ite_keeps | intro _
    | split | contradiction | dsimp only

theorem enterRun_keeps (s : State) (vecA vecB : Bool) (h : Keeps r s) : Keeps r (s.enterRun vecA vecB) := by
  unfold State.enterRun
  extract_lets s1 s2 s3 s4 s5 s6
  have h1 : Keeps r s1 := startService_keeps _ _ _ (startService_keeps _ _ _ h)
  clear_value s1
  have h2 : Keeps r s2 := ite_keeps _ _ _ (fun _ => startBase_keeps _ h1) (fun _ => h1)
  clear_value s2
  have h3 : Keeps r s3 := dropHeld_keeps _ (dioRun_keeps _ (writeSafe_keeps _ (noteBad_keeps _ (noteMasks_keeps _ (xpRun_keeps _ _ h2)))))
  clear_value s3
  have h4 : Keeps r s4 := statesWritten_keeps _ ⟨h3.pending, fun i => { h3.inv i with credits := fun _ _ _ => Nat.zero_le _, rot := (by decide : 0 < 58) }⟩
  clear_value s4
  have h5 : Keeps r s5 := updSkink_keeps _ _ h4
  clear_value s5
  have h6 : Keeps r s6 := by
    have h6 : Keeps r s5.lanesStart := lanesStart_keeps s5 h5
    simp only [s6]
    generalize s5.lanesStart = u at h6
    exact setMgmt_keeps u Node.run h6
  clear_value s6
  split
  · exact haltNode_keeps _ _ _ h6
  · exact repairsDue_keeps _ (firstRecords_keeps _ (canStart_keeps _ (grantHold_keeps _ _ h6)))

theorem startNow_keeps (s : State) (vecA : Bool) (vecB : Bool) (h : Keeps r s) : Keeps r (State.startNow s vecA vecB) := by
  unfold State.startNow
  try extract_lets
  repeat' first
    | with_reducible assumption | with_reducible apply cmdIgnored_keeps | with_reducible apply takeDigest_keeps | with_reducible apply enterRun_keeps
    | with_reducible apply foldl_keeps | with_reducible apply ite_keeps | intro _ | split | contradiction | dsimp only

theorem drainRound_keeps (s : State) (h : Keeps r s) : Keeps r (State.drainRound s) := by
  unfold State.drainRound
  try extract_lets
  repeat' first
    | with_reducible assumption | with_reducible apply takeCkpt_keeps | with_reducible apply eccFault_keeps | with_reducible apply configBarrier_keeps
    | with_reducible apply evalNext_keeps | with_reducible apply foldl_keeps | with_reducible apply ite_keeps | intro _ | split | contradiction
    | dsimp only

theorem drainEvents_keeps (s : State) (h : Keeps r s) : Keeps r (State.drainEvents s) := by
  unfold State.drainEvents
  try extract_lets
  repeat' first
    | with_reducible assumption | with_reducible apply release_keeps | with_reducible apply copyArrives_keeps | with_reducible apply foldl_keeps
    | with_reducible apply ite_keeps | intro _ | split | contradiction | dsimp only

theorem captureStop_keeps (s : State) (h : Keeps r s) : Keeps r (State.captureStop s) := by
  unfold State.captureStop
  try extract_lets
  repeat' first
    | with_reducible assumption | with_reducible apply splitApply_keeps | with_reducible apply endContinuous_keeps
    | with_reducible apply copyComplete_keeps | with_reducible apply stopCapture_keeps | with_reducible apply foldl_keeps
    | with_reducible apply ite_keeps | intro _ | split | contradiction | dsimp only

theorem unitsStop_keeps (s : State) (h : Keeps r s) : Keeps r (State.unitsStop s) := by
  unfold State.unitsStop
  try extract_lets
  repeat' first
    | with_reducible assumption | with_reducible apply rxFlush_keeps | with_reducible apply lanesEnd_keeps | with_reducible apply canStop_keeps
    | with_reducible apply setAsymRun_keeps | with_reducible apply foldl_keeps | with_reducible apply ite_keeps | intro _ | split | contradiction
    | dsimp only

theorem admitBegun_keeps (s : State) (h : Keeps r s) : Keeps r s.admitBegun := by
  unfold State.admitBegun
  split
  · refine ite_keeps _ _ _ (fun _ => h) fun _ => foldl_keeps _ (fun s x h => ?_) _ _ h
    have h1 : Keeps r (if s.heldByEngines then s.drainRound else s) := ite_keeps _ _ _ (fun _ => drainRound_keeps _ h) (fun _ => h)
    exact ite_keeps _ _ _ (fun _ => admitCmd_keeps _ h1) (fun _ => h1)
  · exact h

theorem stopNow_keeps (s : State) (h : Keeps r s) : Keeps r s.stopNow := by
  unfold State.stopNow
  split
  · exact cmdIgnored_keeps _ h
  · extract_lets s0 units i1 s1 s2 s3
    have h0 : Keeps r s0 := admitBegun_keeps _ h
    clear_value s0
    have h1 : Keeps r s1 := ⟨h0.pending, fun i => { h0.inv i with credits := fun _ _ _ => Nat.zero_le _ }⟩
    have h2 : Keeps r s2 := by
      simp only [s2]
      split
      · exact updSkink_keeps _ _ (updEng_keeps _ _ _ h1)
      · exact h1
    clear_value s2
    have h3 : Keeps r s3 := refuseTaken_keeps _ _ (drainEvents_keeps _ (foldl_keeps _ (fun s _ h => drainRound_keeps s h) _ _ h2))
    clear_value s3
    exact ite_keeps _ _ _ (fun _ => h3) (fun _ => enterSetup_keeps _ (unitsStop_keeps _ (captureStop_keeps _ h3)))

theorem fmodeWrite_keeps (s : State) (v : U32) (h : Keeps r s) : Keeps r (State.fmodeWrite s v) := by
  unfold State.fmodeWrite
  try extract_lets
  repeat' first
    | with_reducible assumption | with_reducible apply ignored_keeps | with_reducible apply setDirty_keeps | with_reducible apply setFmode_keeps
    | with_reducible apply setRegFld_keeps | with_reducible apply forerunner_keeps | with_reducible apply foldl_keeps | with_reducible apply ite_keeps
    | intro _ | split | contradiction | dsimp only

theorem intRearm_keeps (s : State) (h : Keeps r s) : Keeps r (State.intRearm s) := by
  unfold State.intRearm
  try extract_lets
  repeat' first
    | with_reducible assumption | with_reducible apply hifMessage_keeps | with_reducible apply foldl_keeps | with_reducible apply ite_keeps | intro _
    | split | contradiction | dsimp only

theorem intEnWrite_keeps (s : State) (v : U32) (h : Keeps r s) : Keeps r (State.intEnWrite s v) := by
  unfold State.intEnWrite
  try extract_lets
  repeat' first
    | with_reducible assumption | with_reducible apply summarise_keeps | with_reducible apply setReg_keeps | with_reducible apply foldl_keeps
    | with_reducible apply ite_keeps | intro _ | split | contradiction | dsimp only

theorem updUpd_keeps (s : State) (f : Upd → Upd) (h : Keeps r s)
    (hf : ∀ u : Upd, u.bufs.length ≤ 16 → (f u).bufs.length ≤ 16) : Keeps r (s.updUpd f) :=
  ⟨h.pending, fun i => { h.inv i with bufs := hf _ (h.inv i).bufs }⟩

theorem clearBits_keeps (s : State) (f : Nat → Bool) (h : Keeps r s) : Keeps r (State.clearBits s f) := by
  unfold State.clearBits
  try extract_lets
  repeat' first
    | with_reducible assumption | with_reducible apply updNvm_keeps | with_reducible apply countErases_keeps
    | with_reducible exact fun _ => ⟨rfl, rfl⟩ | with_reducible apply foldl_keeps | with_reducible apply ite_keeps | intro _ | split | contradiction
    | dsimp only

theorem setBits_keeps (s : State) (p : Nat) (h : Keeps r s) : Keeps r (State.setBits s p) := by
  unfold State.setBits
  try extract_lets
  repeat' first
    | with_reducible assumption | with_reducible apply updNvm_keeps | with_reducible exact fun _ => ⟨rfl, rfl⟩ | with_reducible apply foldl_keeps
    | with_reducible apply ite_keeps | intro _ | split | contradiction | dsimp only

theorem endSession_keeps (s : State) (h : Keeps r s) : Keeps r s.endSession :=
  setSes_keeps _ _ (updUpd_keeps _ _ (clearBits_keeps _ _ h) (fun _ _ => Nat.zero_le _))

theorem bootActive_keeps (s : State) (h : Keeps r s) : Keeps r (State.bootActive s) := by
  unfold State.bootActive
  try extract_lets
  repeat' first
    | with_reducible assumption | with_reducible apply writeBoot_keeps | with_reducible apply foldl_keeps | with_reducible apply ite_keeps | intro _
    | split | contradiction | dsimp only

theorem updBegin_keeps (s : State) (d : Desc) (h : Keeps r s) : Keeps r (State.updBegin s d) := by
  unfold State.updBegin
  try extract_lets
  repeat' first
    | with_reducible assumption | with_reducible apply done_keeps | with_reducible apply bootActive_keeps | with_reducible apply writeSes_keeps
    | with_reducible apply countErase_keeps | with_reducible apply clearBits_keeps | with_reducible apply updSlot_keeps
    | with_reducible apply updUpd_keeps | with_reducible apply writeDone_keeps | with_reducible apply setSes_keeps | with_reducible exact fun _ h => h
    | exact fun _ _ => Nat.zero_le _ | with_reducible apply foldl_keeps | with_reducible apply ite_keeps | intro _ | split | contradiction
    | dsimp only

theorem pieceReject_keeps (s : State) (p : Nat) (reason : Nat) (h : Keeps r s) : Keeps r (State.pieceReject s p reason) := by
  unfold State.pieceReject
  try extract_lets
  repeat' first
    | with_reducible assumption | with_reducible apply setReg_keeps | with_reducible apply raise_keeps | with_reducible apply bump_keeps
    | with_reducible apply foldl_keeps | with_reducible apply ite_keeps | intro _ | split | contradiction | dsimp only

theorem pieceReceived_keeps (s : State) (data : Image) (h : Keeps r s) : Keeps r (s.pieceReceived data) := by
  unfold State.pieceReceived
  split
  · exact h
  · split
    · exact h
    · next hl =>
      extract_lets p why s1
      have h1 : Keeps r s1 := takeHead_keeps _ _ (readBuffer_keeps _ _ h)
      have hb : s1.upd = s.upd := takeHead_upd _ 9
      split
      · exact pieceReject_keeps _ _ _ h1
      · split
        · exact bump_keeps _ _ h1
        · refine ⟨h1.pending, fun i => { h1.inv i with bufs := ?_ }⟩
          simp only [Bool.or_eq_true, decide_eq_true_eq, not_or] at hl
          simp only [State.updUpd, List.length_append, List.length_singleton, hb]
          omega

theorem dropFirst_length (p : Nat) (l : List (Nat × List Byte)) : (dropFirst p l).length ≤ l.length := by
  induction l with
  | nil => exact Nat.le_refl _
  | cons a l ih => unfold dropFirst; split <;> simp only [List.length_cons] <;> omega

theorem dropBuf_keeps (s : State) (p : Nat) (h : Keeps r s) : Keeps r (s.dropBuf p) :=
  updUpd_keeps _ _ h (fun _ k => Nat.le_trans (dropFirst_length _ _) k)

theorem storePiece_keeps (s : State) (p : Nat) (readbackOk : Bool) (h : Keeps r s) : Keeps r (State.storePiece s p readbackOk) := by
  unfold State.storePiece
  try extract_lets
  repeat' first
    | with_reducible assumption | with_reducible apply bump_keeps | with_reducible apply dropBuf_keeps | with_reducible apply countErase_keeps
    | with_reducible apply updSlot_keeps | with_reducible apply setBits_keeps | with_reducible apply pieceReject_keeps
    | with_reducible apply updUpd_keeps | with_reducible exact fun _ h => h | exact fun _ _ => Nat.zero_le _ | with_reducible apply foldl_keeps
    | with_reducible apply ite_keeps | intro _ | split | contradiction | dsimp only

theorem updStatus_keeps (s : State) (writeOk : Bool) (d : Desc) (h : Keeps r s) : Keeps r (State.updStatus s writeOk d) := by
  unfold State.updStatus
  try extract_lets
  repeat' first
    | with_reducible assumption | with_reducible apply done_keeps | with_reducible apply emitOut_keeps | with_reducible apply foldl_keeps
    | with_reducible apply ite_keeps | intro _ | split | contradiction | dsimp only

theorem verifyFailed_keeps (s : State) (reason : Nat) (h : Keeps r s) : Keeps r (State.verifyFailed s reason) := by
  unfold State.verifyFailed
  try extract_lets
  repeat' first
    | with_reducible assumption | with_reducible apply raise_keeps | with_reducible apply bump_keeps | with_reducible apply updUpd_keeps
    | with_reducible exact fun _ h => h | exact fun _ _ => Nat.zero_le _ | with_reducible apply foldl_keeps | with_reducible apply ite_keeps | intro _
    | split | contradiction | dsimp only

theorem updVerify_keeps (s : State) (d : Desc) (h : Keeps r s) : Keeps r (State.updVerify s d) := by
  unfold State.updVerify
  try extract_lets
  repeat' first
    | with_reducible assumption | with_reducible apply done_keeps | with_reducible apply endSession_keeps | with_reducible apply verifyFailed_keeps
    | with_reducible apply clearBits_keeps | with_reducible apply updUpd_keeps | with_reducible apply raise_keeps | with_reducible apply setSes_keeps
    | with_reducible exact fun _ h => h | exact fun _ _ => Nat.zero_le _ | with_reducible apply foldl_keeps | with_reducible apply ite_keeps | intro _
    | split | contradiction | dsimp only

theorem writeReady_keeps (s : State) (h : Keeps r s) : Keeps r (State.writeReady s) := by
  unfold State.writeReady
  try extract_lets
  repeat' first
    | with_reducible assumption | with_reducible apply writeCompletion_keeps | with_reducible apply foldl_keeps | with_reducible apply ite_keeps
    | intro _ | split | contradiction | dsimp only

theorem claimGone_keeps (s : State) (h : Keeps r s) : Keeps r (State.claimGone s) := by
  unfold State.claimGone
  try extract_lets
  repeat' first
    | with_reducible assumption | with_reducible apply dropClaim_keeps | with_reducible apply sharedOff_keeps | with_reducible apply updSkink_keeps
    | with_reducible apply foldl_keeps | with_reducible apply ite_keeps | intro _ | split | contradiction | dsimp only

theorem trialRecord_keeps (s : State) (minutes : Nat) (h : Keeps r s) : Keeps r (State.trialRecord s minutes) := by
  unfold State.trialRecord
  try extract_lets
  repeat' first
    | with_reducible assumption | with_reducible apply updUpd_keeps | with_reducible apply eraseRegion_keeps | with_reducible apply writeBoot_keeps
    | with_reducible exact fun _ h => h | exact fun _ _ => Nat.zero_le _ | with_reducible apply foldl_keeps | with_reducible apply ite_keeps | intro _
    | split | contradiction | dsimp only

theorem updActivate_keeps (s : State) (d : Desc) (h : Keeps r s) : Keeps r (State.updActivate s d) := by
  unfold State.updActivate
  try extract_lets
  repeat' first
    | with_reducible assumption | with_reducible apply done_keeps | with_reducible apply copyDone_keeps | with_reducible apply claimGone_keeps
    | with_reducible apply extendWatchdogs_keeps | with_reducible apply beginHold_keeps | with_reducible apply unsave_keeps
    | with_reducible apply canPause_keeps | with_reducible apply lanesEnd_keeps | with_reducible apply setMgmt_keeps
    | with_reducible apply writeReady_keeps | with_reducible apply updUpd_keeps | with_reducible apply setSes_keeps
    | with_reducible apply trialRecord_keeps | with_reducible exact fun _ h => h | exact fun _ _ => Nat.zero_le _ | with_reducible apply foldl_keeps
    | with_reducible apply ite_keeps | intro _ | split | contradiction | dsimp only

theorem activated_keeps (s : State) (pauseUs : Nat) (h : Keeps r s) : Keeps r (State.activated s pauseUs) := by
  unfold State.activated
  try extract_lets
  repeat' first
    | with_reducible assumption | with_reducible apply writeDone_keeps | with_reducible apply pass_keeps | with_reducible apply raise_keeps
    | with_reducible apply bump_keeps | with_reducible apply recordMax_keeps | with_reducible apply updBank_keeps | with_reducible apply updEng_keeps
    | with_reducible apply fetchAll_keeps | with_reducible apply canStart_keeps | with_reducible apply lanesResume_keeps
    | with_reducible apply setMgmt_keeps | with_reducible apply foldl_keeps | with_reducible apply ite_keeps | intro _ | split | contradiction
    | dsimp only

theorem notActivated_keeps (s : State) (h : Keeps r s) : Keeps r (State.notActivated s) := by
  unfold State.notActivated
  try extract_lets
  repeat' first
    | with_reducible assumption | with_reducible apply fallBack_keeps | with_reducible apply foldl_keeps | with_reducible apply ite_keeps | intro _
    | split | contradiction | dsimp only

theorem trialWarn_keeps (s : State) (h : Keeps r s) : Keeps r (State.trialWarn s) := by
  unfold State.trialWarn
  try extract_lets
  repeat' first
    | with_reducible assumption | with_reducible apply raise_keeps | with_reducible apply updUpd_keeps | with_reducible exact fun _ h => h
    | exact fun _ _ => Nat.zero_le _ | with_reducible apply foldl_keeps | with_reducible apply ite_keeps | intro _ | split | contradiction
    | dsimp only

theorem trialOver_keeps (s : State) (h : Keeps r s) : Keeps r (State.trialOver s) := by
  unfold State.trialOver
  try extract_lets
  repeat' first
    | with_reducible assumption | with_reducible apply fallBack_keeps | with_reducible apply foldl_keeps | with_reducible apply ite_keeps | intro _
    | split | contradiction | dsimp only

theorem updConfirm_keeps (s : State) (d : Desc) (h : Keeps r s) : Keeps r (State.updConfirm s d) := by
  unfold State.updConfirm
  try extract_lets
  repeat' first
    | with_reducible assumption | with_reducible apply done_keeps | with_reducible apply draw_keeps
    | (with_reducible refine Eq.mp (congrArg (Keeps r) (congrArg Prod.snd ‹_ = (_, _)›)) (draw_keeps ..)) | with_reducible apply bootActive_keeps
    | with_reducible apply setSes_keeps | with_reducible apply revoke_keeps | with_reducible apply eraseRegion_keeps
    | with_reducible apply writeDone_keeps | with_reducible apply updUpd_keeps | with_reducible apply raise_keeps | with_reducible exact fun _ h => h
    | exact fun _ _ => Nat.zero_le _ | with_reducible apply foldl_keeps | with_reducible apply ite_keeps | intro _ | split | contradiction
    | dsimp only

theorem updAbandon_keeps (s : State) (d : Desc) (h : Keeps r s) : Keeps r (State.updAbandon s d) := by
  unfold State.updAbandon
  try extract_lets
  repeat' first
    | with_reducible assumption | with_reducible apply done_keeps | with_reducible apply fallBack_keeps | with_reducible apply writeReady_keeps
    | with_reducible apply bootActive_keeps | with_reducible apply endSession_keeps | with_reducible apply foldl_keeps
    | with_reducible apply ite_keeps | intro _ | split | contradiction | dsimp only

theorem converted_keeps (s : State) (h : Keeps r s) : Keeps r (State.converted s) := by
  unfold State.converted
  try extract_lets
  repeat' first
    | with_reducible assumption | with_reducible apply convert_keeps | with_reducible apply foldl_keeps | with_reducible apply ite_keeps | intro _
    | split | contradiction | dsimp only

theorem notConverted_keeps (s : State) (h : Keeps r s) : Keeps r (State.notConverted s) := by
  unfold State.notConverted
  try extract_lets
  repeat' first
    | with_reducible assumption | with_reducible apply fallBack_keeps | with_reducible apply foldl_keeps | with_reducible apply ite_keeps | intro _
    | split | contradiction | dsimp only

theorem keyProgram_keeps (s : State) (h : Keeps r s) : Keeps r (State.keyProgram s) := by
  unfold State.keyProgram
  try extract_lets
  repeat' first
    | with_reducible assumption | with_reducible apply ignored_keeps | with_reducible apply setRegBit_keeps | with_reducible apply updNvm_keeps
    | with_reducible exact fun _ => ⟨rfl, rfl⟩ | with_reducible apply foldl_keeps | with_reducible apply ite_keeps | intro _ | split | contradiction
    | dsimp only

theorem keyDone_keeps (s : State) (h : Keeps r s) : Keeps r (State.keyDone s) := by
  unfold State.keyDone
  try extract_lets
  repeat' first
    | with_reducible assumption | with_reducible apply updNvm_keeps | with_reducible apply raise_keeps | with_reducible apply updUpd_keeps
    | with_reducible exact fun _ => ⟨rfl, rfl⟩ | with_reducible exact fun _ h => h | exact fun _ _ => Nat.zero_le _ | with_reducible apply foldl_keeps
    | with_reducible apply ite_keeps | intro _ | split | contradiction | dsimp only

theorem updReplay_keeps (s : State) (f : Replay → Replay) (h : Keeps r s) : Keeps r (State.updReplay s f) := by
  unfold State.updReplay
  try extract_lets
  repeat' first
    | with_reducible assumption | with_reducible apply updSpawn_keeps | with_reducible apply foldl_keeps | with_reducible apply ite_keeps | intro _
    | split | contradiction | dsimp only

theorem setRp_keeps (s : State) (st : Nat) (h : Keeps r s) : Keeps r (State.setRp s st) := by
  unfold State.setRp
  try extract_lets
  repeat' first
    | with_reducible assumption | with_reducible apply setRegFld_keeps | with_reducible apply foldl_keeps | with_reducible apply ite_keeps | intro _
    | split | contradiction | dsimp only

theorem rpFail_keeps (s : State) (err : Nat) (h : Keeps r s) : Keeps r (State.rpFail s err) := by
  unfold State.rpFail
  try extract_lets
  repeat' first
    | with_reducible assumption | with_reducible apply raise_keeps | with_reducible apply setRegFld_keeps | with_reducible apply setRp_keeps
    | with_reducible apply foldl_keeps | with_reducible apply ite_keeps | intro _ | split | contradiction | dsimp only

theorem endStart_keeps (s : State) (status : Nat) (result : U64) (h : Keeps r s) : Keeps r (State.endStart s status result) := by
  unfold State.endStart
  try extract_lets
  repeat' first
    | with_reducible assumption | with_reducible apply finish_keeps | with_reducible apply foldl_keeps | with_reducible apply ite_keeps | intro _
    | split | contradiction | dsimp only

theorem rpError_keeps (s : State) (err : Nat) (status : Nat) (h : Keeps r s) : Keeps r (State.rpError s err status) := by
  unfold State.rpError
  try extract_lets
  repeat' first
    | with_reducible assumption | with_reducible apply rpFail_keeps | with_reducible apply endStart_keeps | with_reducible apply foldl_keeps
    | with_reducible apply ite_keeps | intro _ | split | contradiction | dsimp only

theorem rpClear_keeps (s : State) (h : Keeps r s) : Keeps r (State.rpClear s) := by
  unfold State.rpClear
  try extract_lets
  repeat' first
    | with_reducible assumption | with_reducible apply setReg_keeps | with_reducible apply foldl_keeps | with_reducible apply ite_keeps | intro _
    | split | contradiction | dsimp only

theorem enterReplay_keeps (s : State) (d : Desc) (h : Keeps r s) : Keeps r (s.enterReplay d) := by
  have h1 := lanesEnd_keeps s.dropHeld.rpClear Lane.halt (rpClear_keeps _ (dropHeld_keeps _ h))
  unfold State.enterReplay
  generalize s.dropHeld.rpClear.lanesEnd Lane.halt = u at h1 ⊢
  extract_lets s2 s3 s4 s5 s6
  have h4 : Keeps r s5 := updDio_keeps _ _ (updSpawn_keeps _ _ (updReplay_keeps _ _ h1))
  clear_value s5
  have h5 : Keeps r s6 := ⟨h4.pending, fun i => { h4.inv i with credits := fun _ _ _ => Nat.zero_le _, rot := (by decide : 0 < 58) }⟩
  exact setMgmt_keeps _ _ (updSkink_keeps s6 _ h5)

theorem replayStart_keeps (s : State) (d : Desc) (h : Keeps r s) : Keeps r (State.replayStart s d) := by
  unfold State.replayStart
  try extract_lets
  repeat' first
    | with_reducible assumption | with_reducible apply enterReplay_keeps | with_reducible apply done_keeps | with_reducible apply haltNode_keeps
    | with_reducible apply grantHold_keeps | with_reducible apply defer_keeps | with_reducible apply rpFail_keeps | with_reducible apply foldl_keeps
    | with_reducible apply ite_keeps | intro _ | split | contradiction | dsimp only

theorem eat_keeps (s : State) (n : Nat) (h : Keeps r s) : Keeps r (State.eat s n) := by
  unfold State.eat
  try extract_lets
  repeat' first
    | with_reducible assumption | with_reducible apply updReplay_keeps | with_reducible apply foldl_keeps | with_reducible apply ite_keeps | intro _
    | split | contradiction | dsimp only

theorem rpHeader_keeps (s : State) (l : List Byte) (h : Keeps r s) : Keeps r (State.rpHeader s l) := by
  unfold State.rpHeader
  try extract_lets
  repeat' first
    | with_reducible assumption | with_reducible apply rpError_keeps | with_reducible apply updReplay_keeps | with_reducible apply setRegFld_keeps
    | with_reducible apply eat_keeps | with_reducible apply foldl_keeps | with_reducible apply ite_keeps | intro _ | split | contradiction
    | dsimp only

theorem loadSection_keeps (s : State) (region : Nat) (l : List Byte) (h : Keeps r s) : Keeps r (State.loadSection s region l) := by
  unfold State.loadSection
  try extract_lets
  repeat' first
    | with_reducible assumption | with_reducible apply statesWritten_keeps | with_reducible apply tarnStore_keeps
    | with_reducible apply pairEnabled_keeps | with_reducible apply setReg_keeps | with_reducible apply foldl_keeps | with_reducible apply ite_keeps
    | intro _ | split | contradiction | dsimp only

theorem rpSection_keeps (s t : State) (h : Keeps r s) (e : s.rpSection = some t) : Keeps r t := by
  unfold State.rpSection at e
  dsimp only at e
  repeat' split at e
  all_goals first
    | cases e; done
    | cases e; exact rpError_keeps _ _ _ h
    | cases e; exact updReplay_keeps _ _ (eat_keeps _ _ (clearUe_keeps _ _ _ (loadSection_keeps _ _ _ h)))

theorem rpMark_keeps (s : State) (r1 : InRec) (h : Keeps r s) : Keeps r (State.rpMark s r1) := by
  unfold State.rpMark
  try extract_lets
  repeat' first
    | with_reducible assumption | with_reducible apply updOutlet_keeps | with_reducible apply setReg_keeps | with_reducible apply setPair_keeps
    | with_reducible apply updReplay_keeps | with_reducible apply setRp_keeps | with_reducible apply endStart_keeps
    | with_reducible exact fun _ h => h | exact fun _ _ => Nat.zero_le _ | with_reducible apply foldl_keeps | with_reducible apply ite_keeps | intro _
    | split | contradiction | dsimp only

theorem rpBarrier_keeps (s : State) (r1 : InRec) (h : Keeps r s) : Keeps r (State.rpBarrier s r1) := by
  unfold State.rpBarrier
  try extract_lets
  repeat' first
    | with_reducible assumption | with_reducible apply openBarrier_keeps | with_reducible apply foldl_keeps | with_reducible apply ite_keeps | intro _
    | split | contradiction | dsimp only

theorem rpAdmit_keeps (s : State) (r1 : InRec) (h : Keeps r s) : Keeps r (State.rpAdmit s r1) := by
  unfold State.rpAdmit
  try extract_lets
  repeat' first
    | with_reducible assumption | with_reducible apply updReplay_keeps | with_reducible apply bump_keeps | with_reducible apply spill_keeps
    | with_reducible apply recordMax_keeps | with_reducible apply rpBarrier_keeps | with_reducible apply foldl_keeps | with_reducible apply ite_keeps
    | intro _ | split | contradiction | dsimp only

theorem rpTick_keeps (s : State) (x : InRec) (n : Nat) (t : State) (h : Keeps r s) (e : s.rpTick x n = some t) : Keeps r t := by
  unfold State.rpTick at e
  dsimp only at e
  have hp : ∀ k, Keeps r ((s.eat k).rpAdmit x) := fun k => rpAdmit_keeps _ _ (eat_keeps _ _ h)
  have some_of : ∀ u : State, Keeps r u → some u = some t → Keeps r t := fun u hu e => Option.some.inj e ▸ hu
  repeat' split at e
  · exact some_of _ (hp _) e
  · cases e
  · exact some_of _ (hp _) e
  · exact some_of _ (rpError_keeps _ _ _ (hp _)) e
  · cases e
  · exact some_of _ (hp _) e
  · exact some_of _ (rpError_keeps _ _ _ (hp _)) e
  · exact some_of _ (updSpawn_keeps _ _ (updReplay_keeps _ _ (hp _))) e

theorem rpRecord_keeps (s t : State) (h : Keeps r s) (e : s.rpRecord = some t) : Keeps r t := by
  unfold State.rpRecord at e
  dsimp only at e
  repeat' split at e
  all_goals first
    | exact rpTick_keeps _ _ _ _ h e
    | cases e; done
    | cases e; exact rpError_keeps _ _ _ h
    | cases e; exact rpAdmit_keeps _ _ (eat_keeps _ _ h)

theorem rpShort_keeps (s : State) (n : Nat) (t : State) (h : Keeps r s) (e : s.rpShort n = some t) : Keeps r t := by
  unfold State.rpShort at e
  split at e <;> cases e
  exact rpError_keeps _ _ _ h

theorem rpNext_keeps (s t : State) (h : Keeps r s) (e : s.rpNext = some t) : Keeps r t := by
  unfold State.rpNext at e
  dsimp only at e
  split at e
  · cases e
  · split at e
    · split at e
      · exact rpShort_keeps _ _ _ h e
      · cases e; exact rpHeader_keeps _ _ h
    · rw [Option.orElse_eq_orElse, Option.orElse_eq_or, Option.or_eq_some_iff] at e
      rcases e with e | ⟨_, e⟩
      · exact rpSection_keeps _ _ h e
      · exact rpShort_keeps _ _ _ h e
    · split at e
      · exact rpShort_keeps _ _ _ h e
      · split at e
        · cases e; exact rpMark_keeps _ _ (eat_keeps _ _ h)
        · cases e; exact rpError_keeps _ _ _ h
    · split at e
      · cases e
      · exact rpRecord_keeps _ _ h e

theorem rpFeed_keeps (n : Nat) (s : State) (h : Keeps r s) : Keeps r (State.rpFeed n s) := by
  induction n generalizing s with
  | zero => exact h
  | succ n ih =>
    unfold State.rpFeed
    split
    · exact h
    · next t e => exact ih _ (rpNext_keeps s t h e)

theorem rpRun_keeps (s : State) (h : Keeps r s) : Keeps r (State.rpRun s) := by
  unfold State.rpRun
  try extract_lets
  repeat' first
    | with_reducible assumption | with_reducible apply rpFeed_keeps | with_reducible apply foldl_keeps | with_reducible apply ite_keeps | intro _
    | split | contradiction | dsimp only

theorem rpBuffer_keeps (s : State) (data : Image) (h : Keeps r s) : Keeps r (State.rpBuffer s data) := by
  unfold State.rpBuffer
  try extract_lets
  repeat' first
    | with_reducible assumption | with_reducible apply readBuffer_keeps | with_reducible apply ringError_keeps | with_reducible apply takeHead_keeps
    | with_reducible apply setPair_keeps | with_reducible apply rpError_keeps | with_reducible apply rpRun_keeps
    | with_reducible apply updReplay_keeps | with_reducible apply foldl_keeps | with_reducible apply ite_keeps | intro _ | split | contradiction
    | dsimp only

theorem rpMismatch_keeps (s : State) (isn : U64) (bad : List Nat) (h : Keeps r s) : Keeps r (State.rpMismatch s isn bad) := by
  unfold State.rpMismatch
  try extract_lets
  repeat' first
    | with_reducible assumption | with_reducible apply setPair_keeps | with_reducible apply setReg_keeps | with_reducible apply setRegFld_keeps
    | with_reducible apply raise_keeps | with_reducible apply updReplay_keeps | with_reducible apply foldl_keeps | with_reducible apply ite_keeps
    | intro _ | split | contradiction | dsimp only

theorem rpCompare_keeps (s : State) (h : Keeps r s) : Keeps r (State.rpCompare s) := by
  unfold State.rpCompare
  try extract_lets
  repeat' first
    | with_reducible assumption | with_reducible apply bump_keeps | with_reducible apply updReplay_keeps | with_reducible apply updSpawn_keeps
    | with_reducible apply rpMismatch_keeps | with_reducible apply failEngine_keeps | with_reducible apply setRp_keeps
    | with_reducible apply rpRun_keeps | with_reducible apply foldl_keeps | with_reducible apply ite_keeps | intro _ | split | contradiction
    | dsimp only

theorem rpEnd_keeps (s : State) (h : Keeps r s) : Keeps r (State.rpEnd s) := by
  unfold State.rpEnd
  try extract_lets
  repeat' first
    | with_reducible assumption | with_reducible apply setRp_keeps | with_reducible apply raise_keeps | with_reducible apply setRegFld_keeps
    | with_reducible apply foldl_keeps | with_reducible apply ite_keeps | intro _ | split | contradiction | dsimp only

theorem eatSpawnIn_keeps (s : State) (h : Keeps r s) : Keeps r (State.eatSpawnIn s) := by
  unfold State.eatSpawnIn
  try extract_lets
  repeat' first
    | with_reducible assumption | with_reducible apply updHif_keeps | with_reducible apply advanceRing_keeps | with_reducible apply foldl_keeps
    | with_reducible apply ite_keeps | intro _ | split | contradiction | dsimp only

theorem replayStop_keeps (s : State) (d : Desc) (h : Keeps r s) : Keeps r (State.replayStop s d) := by
  unfold State.replayStop
  try extract_lets
  repeat' first
    | with_reducible assumption | with_reducible apply endStart_keeps | with_reducible apply updReplay_keeps | with_reducible apply setRp_keeps
    | with_reducible apply eatSpawnIn_keeps | with_reducible apply updDio_keeps | with_reducible apply updSpawn_keeps
    | with_reducible apply done_keeps | with_reducible apply setRegFld_keeps | with_reducible apply setDirty_keeps
    | with_reducible apply enterSetup_keeps | with_reducible apply foldl_keeps | with_reducible apply ite_keeps | intro _ | split | contradiction
    | dsimp only

theorem readLo_keeps (s : State) (o : Off) (h : Keeps r s) : Keeps r (State.readLo s o) := by
  unfold State.readLo
  try extract_lets
  repeat' first
    | with_reducible assumption | with_reducible apply foldl_keeps | with_reducible apply ite_keeps | intro _ | split | contradiction | dsimp only

theorem tmoWritten_keeps (s : State) (k : Nat) (b : Off) (h : Keeps r s) : Keeps r (State.tmoWritten s k b) := by
  unfold State.tmoWritten
  try extract_lets
  repeat' first
    | with_reducible assumption | with_reducible apply tmoPin_keeps | with_reducible apply tmoArm_keeps | with_reducible apply updTmo_keeps
    | with_reducible apply foldl_keeps | with_reducible apply ite_keeps | intro _ | split | contradiction | dsimp only

theorem written_keeps (s : State) (was : U32) (o : Off) (v : U32) (h : Keeps r s) : Keeps r (State.written s was o v) := by
  unfold State.written
  try extract_lets
  repeat' first
    | with_reducible assumption | with_reducible apply tmoWritten_keeps | with_reducible apply asymChanged_keeps | with_reducible apply panelCtl_keeps
    | with_reducible apply pairLost_keeps | with_reducible apply servoChange_keeps | with_reducible apply updRtc_keeps
    | with_reducible apply foldl_keeps | with_reducible apply ite_keeps | intro _ | split | contradiction | dsimp only

theorem clearW1c_keeps (s : State) (o : Off) (v : U32) (h : Keeps r s) : Keeps r (State.clearW1c s o v) := by
  unfold State.clearW1c
  try extract_lets
  repeat' first
    | with_reducible assumption | with_reducible apply setReg_keeps | with_reducible apply emitOut_keeps | with_reducible apply updRtc_keeps
    | with_reducible apply foldl_keeps | with_reducible apply ite_keeps | intro _ | split | contradiction | dsimp only

theorem storeReg_keeps (s : State) (r1 : RegRow) (o : Off) (v : U32) (h : Keeps r s) : Keeps r (State.storeReg s r1 o v) := by
  unfold State.storeReg
  try extract_lets
  repeat' first
    | with_reducible assumption | with_reducible apply written_keeps | with_reducible apply setReg_keeps | with_reducible apply setDirty_keeps
    | with_reducible apply summarise_keeps | with_reducible apply foldl_keeps | with_reducible apply ite_keeps | intro _ | split | contradiction
    | dsimp only

theorem writeByAccess_keeps (s : State) (r1 : RegRow) (o : Off) (v : U32) (h : Keeps r s) : Keeps r (State.writeByAccess s r1 o v) := by
  unfold State.writeByAccess
  try extract_lets
  repeat' first
    | with_reducible assumption | with_reducible apply ignored_keeps | with_reducible apply setReg_keeps | with_reducible apply clearW1c_keeps
    | with_reducible apply updUpd_keeps | with_reducible apply storeReg_keeps | with_reducible exact fun _ h => h | exact fun _ _ => Nat.zero_le _
    | with_reducible apply foldl_keeps | with_reducible apply ite_keeps | intro _ | split | contradiction | dsimp only

theorem holdLow_keeps (s : State) (o : Off) (v : U32) (h : Keeps r s) : Keeps r (State.holdLow s o v) := by
  unfold State.holdLow
  try extract_lets
  repeat' first
    | with_reducible assumption | with_reducible apply foldl_keeps | with_reducible apply ite_keeps | intro _ | split | contradiction | dsimp only

theorem commitPair_keeps (s : State) (r1 : RegRow) (hi : Off) (v : U32) (h : Keeps r s) : Keeps r (State.commitPair s r1 hi v) := by
  unfold State.commitPair
  try extract_lets
  repeat' first
    | with_reducible assumption | with_reducible apply ignored_keeps | with_reducible apply setReg_keeps | with_reducible apply storeReg_keeps
    | with_reducible apply foldl_keeps | with_reducible apply ite_keeps | intro _ | split | contradiction | dsimp only

theorem mgmtCmd_keeps (s : State) (v : U32) (h : Keeps r s) : Keeps r (State.mgmtCmd s v) := by
  unfold State.mgmtCmd
  try extract_lets
  repeat' first
    | with_reducible assumption | with_reducible apply startNow_keeps | with_reducible apply stopNow_keeps | with_reducible apply restart_keeps
    | with_reducible apply commissionNow_keeps | with_reducible apply verifyNow_keeps | with_reducible apply acceptNow_keeps
    | with_reducible apply bypassNow_keeps | with_reducible apply cmdIgnored_keeps | with_reducible apply foldl_keeps | with_reducible apply ite_keeps
    | intro _ | split | contradiction | dsimp only

theorem msixCtl_keeps (s : State) (vec : Nat) (v : U32) (h : Keeps r s) : Keeps r (State.msixCtl s vec v) := by
  unfold State.msixCtl
  try extract_lets
  repeat' first
    | with_reducible assumption | with_reducible apply setRegBit_keeps | with_reducible apply unmask_keeps | with_reducible apply foldl_keeps
    | with_reducible apply ite_keeps | intro _ | split | contradiction | dsimp only

theorem byCode_keeps (s : State) (o : Off) (v : U32) (one : State → State) (two : State → State) (h : Keeps r s) (h_one : ∀ t, Keeps r t → Keeps r (one t)) (h_two : ∀ t, Keeps r t → Keeps r (two t)) : Keeps r (State.byCode s o v one two) := by
  unfold State.byCode
  try extract_lets
  repeat' first
    | with_reducible assumption | with_reducible apply h_one | with_reducible apply h_two | with_reducible apply ignored_keeps
    | with_reducible apply foldl_keeps | with_reducible apply ite_keeps | intro _ | split | contradiction | dsimp only

theorem ifSome_keeps {c : Prop} [Decidable c] {f g : State → State} {x : Option (State → State)} {s : State}
    (e : (if c then some g else x) = some f) (hg : Keeps r (g s)) (hx : x = some f → Keeps r (f s)) : Keeps r (f s) := by
  split at e
  · simp only [Option.some.injEq] at e; exact e ▸ hg
  · exact hx e

theorem ownWrite_keeps (o : Off) (v : U32) (f : State → State) (s : State) (e : ownWrite o v = some f) (h : Keeps r s) :
    Keeps r (f s) := by
  unfold ownWrite at e
  refine ifSome_keeps e (hifCtl_keeps _ _ h) fun e => ?_
  refine ifSome_keeps e (ringCtl_keeps _ _ _ h) fun e => ?_
  refine ifSome_keeps e (kickNow_keeps _ h) fun e => ?_
  refine ifSome_keeps e (msixCtl_keeps _ _ _ h) fun e => ?_
  refine ifSome_keeps e (ite_keeps _ _ _ (fun _ => legFlush_keeps _ h) (fun _ => h)) fun e => ?_
  refine ifSome_keeps e (checkWrite_keeps _ _ h) fun e => ?_
  refine ifSome_keeps e (byCode_keeps _ _ _ _ _ h (fun _ h => legPtWrite_keeps _ h) (fun _ h => legPtRead_keeps _ h)) fun e => ?_
  refine ifSome_keeps e (inject_keeps _ _ _ h) fun e => ?_
  refine ifSome_keeps e (inject_keeps _ _ _ h) fun e => ?_
  refine ifSome_keeps e (byCode_keeps _ _ _ _ _ h (fun _ h => setNow_keeps _ h) (fun _ h => clearSwo_keeps _ h)) fun e => ?_
  refine ifSome_keeps e (shiftWrite_keeps _ _ h) fun e => ?_
  refine ifSome_keeps e (byCode_keeps _ _ _ _ _ h (fun _ h => dstWrite_keeps _ _ h) (fun _ h => dstWrite_keeps _ _ h)) fun e => ?_
  refine ifSome_keeps e (almCtl_keeps _ _ h) fun e => ?_
  refine ifSome_keeps e (wakeCtl_keeps _ _ h) fun e => ?_
  refine ifSome_keeps e (trickleWrite_keeps _ _ h) fun e => ?_
  refine ifSome_keeps e (ite_keeps _ _ _ (fun _ => legSet_keeps _ h) (fun _ => ignored_keeps _ _ _ _ h)) fun e => ?_
  refine ifSome_keeps e (ite_keeps _ _ _ (fun _ => keyProgram_keeps _ h) (fun _ => ignored_keeps _ _ _ _ h)) fun e => ?_
  refine ifSome_keeps e (fmodeWrite_keeps _ _ h) fun e => ?_
  refine ifSome_keeps e (intEnWrite_keeps _ _ h) fun e => ?_
  refine ifSome_keeps e (intRearm_keeps _ h) fun e => ?_
  refine ifSome_keeps e (mgmtCmd_keeps _ _ h) fun e => ?_
  cases e

theorem writeReg_keeps (s : State) (o : Off) (v : U32) (h : Keeps r s) : Keeps r (s.writeReg o v) := by
  unfold State.writeReg
  split
  · exact ignored_keeps _ _ _ _ h
  · refine ite_keeps _ _ _ (fun _ => ignored_keeps _ _ _ _ h) fun _ => ite_keeps _ _ _ (fun _ => restart_keeps _ _ h) fun _ =>
      ite_keeps _ _ _ (fun _ => ignored_keeps _ _ _ _ h) fun _ => ?_
    split
    · next f e => exact ownWrite_keeps o v f s e h
    · exact ite_keeps _ _ _ (fun _ => holdLow_keeps _ _ _ h) fun _ => ite_keeps _ _ _ (fun _ => commitPair_keeps _ _ _ _ h)
        fun _ => writeByAccess_keeps _ _ _ _ h

theorem readWord_keeps (s : State) (o : Off) (h : Keeps r s) : Keeps r (State.readWord s o) := by
  unfold State.readWord
  try extract_lets
  repeat' first
    | with_reducible assumption | with_reducible apply legW0Read_keeps | with_reducible apply legW3Read_keeps | with_reducible apply fracRead_keeps
    | with_reducible apply secHiRead_keeps | with_reducible apply legSecRead_keeps | with_reducible apply legYearRead_keeps
    | with_reducible apply txtsW0Read_keeps | with_reducible apply txtsHiRead_keeps | with_reducible apply readLo_keeps
    | with_reducible apply foldl_keeps | with_reducible apply ite_keeps | intro _ | split | contradiction | dsimp only

theorem badRequest_keeps (s : State) (k : BadAccess) (h : Keeps r s) : Keeps r (State.badRequest s k) := by
  unfold State.badRequest
  try extract_lets
  repeat' first
    | with_reducible assumption | with_reducible apply raise_keeps | with_reducible apply bump_keeps | with_reducible apply emitOut_keeps
    | with_reducible apply readWord_keeps | with_reducible apply foldl_keeps | with_reducible apply ite_keeps | intro _ | split | contradiction
    | dsimp only

theorem windowWrite_keeps (s : State) (o : Off) (data : List Byte) (h : Keeps r s) : Keeps r (State.windowWrite s o data) := by
  unfold State.windowWrite
  try extract_lets
  repeat' first
    | with_reducible assumption | with_reducible apply ignored_keeps | with_reducible apply setDirty_keeps | with_reducible apply tarnStore_keeps
    | with_reducible apply foldl_keeps | with_reducible apply ite_keeps | intro _ | split | contradiction | dsimp only

theorem withFetchWord_keeps (s : State) (nbits : Nat) (w : Nat) (h : Keeps r s) : Keeps r (State.withFetchWord s nbits w) := by
  unfold State.withFetchWord
  try extract_lets
  repeat' first
    | with_reducible assumption | with_reducible apply foldl_keeps | with_reducible apply ite_keeps | intro _ | split | contradiction | dsimp only

end Sys2Proof.Machine
end

