-- ==== Sys2Proof/Laws/ExecKeeps.lean ====
section
/-! SUPPORT. The meaning of every row keeps the invariant `State.Inv` and leaves the queue alone, wherever it answers a next state. -/

set_option Elab.async false
set_option linter.unusedTactic false
set_option linter.unreachableTactic false

namespace Sys2Proof.Machine

variable {r : State}

theorem next_keeps {s t : State} (h : Keeps r s) (e : (.next s : Host.Outcome State Fault Refusal) = .next t) : Keeps r t := by
  cases e; exact h

theorem need_keeps {c : Bool} {s t : State} (h : Keeps r s) (e : need c s = .next t) : Keeps r t := by
  unfold need at e
  split at e
  · cases e; exact h
  · cases e

theorem checkPoint_keeps (img : Image) (d : Desc) (s : State) (x : Nat × State) (h : Keeps r s) (e : checkPoint img d s = .inl x) :
    Keeps r x.2 := by
  unfold checkPoint at e
  dsimp only at e
  repeat' split at e
  all_goals first
    | cases e; done
    | cases e; exact h
    | cases e; exact setReg_keeps _ _ _ h

theorem checkChandef_keeps (img : Image) (d : Desc) (s : State) (x : Nat × State) (h : Keeps r s) (e : checkChandef img d s = .inl x) :
    Keeps r x.2 := by
  unfold checkChandef at e
  dsimp only at e
  repeat' split at e
  all_goals first
    | cases e; done
    | cases e; exact h
    | cases e; exact setReg_keeps _ _ _ h

theorem checkGroup_keeps (img : Image) (d : Desc) (s : State) (x : Nat × State) (h : Keeps r s) (e : checkGroup img d s = .inl x) :
    Keeps r x.2 := by
  unfold checkGroup at e
  dsimp only at e
  repeat' split at e
  all_goals first
    | cases e; done
    | cases e; exact h
    | cases e; exact setReg_keeps _ _ _ h

theorem checkFanout_keeps (img : Image) (d : Desc) (s : State) (x : Nat × State) (h : Keeps r s) (e : checkFanout img d s = .inl x) :
    Keeps r x.2 := by
  unfold checkFanout at e
  dsimp only at e
  repeat' split at e
  all_goals first
    | cases e; done
    | cases e; exact h
    | cases e; exact setReg_keeps _ _ _ h

theorem checkLintab_keeps (img : Image) (d : Desc) (s : State) (x : Nat × State) (h : Keeps r s) (e : checkLintab img d s = .inl x) :
    Keeps r x.2 := by
  unfold checkLintab at e
  dsimp only at e
  repeat' split at e
  all_goals first
    | cases e; done
    | cases e; exact h
    | cases e; exact setReg_keeps _ _ _ h

theorem checkCanfilt_keeps (img : Image) (d : Desc) (s : State) (x : Nat × State) (h : Keeps r s) (e : checkCanfilt img d s = .inl x) :
    Keeps r x.2 := by
  unfold checkCanfilt at e
  dsimp only at e
  repeat' split at e
  all_goals first
    | cases e; done
    | cases e; exact h
    | cases e; exact setReg_keeps _ _ _ h

theorem checkCansig_keeps (img : Image) (d : Desc) (s : State) (x : Nat × State) (h : Keeps r s) (e : checkCansig img d s = .inl x) :
    Keeps r x.2 := by
  unfold checkCansig at e
  dsimp only at e
  repeat' split at e
  all_goals first
    | cases e; done
    | cases e; exact h
    | cases e; exact setReg_keeps _ _ _ h

theorem execEvalSample_keeps (e1 : EngineId) (s : State) (t : State) (e : execEvalSample e1 s = .next t) : Keeps s t := by
  have h : Keeps s s := Keeps.refl s
  unfold execEvalSample at e
  try extract_lets at e
  first | refine next_keeps ?_ e | refine need_keeps ?_ e
  all_goals repeat' first
    | with_reducible assumption | with_reducible apply evaluate_keeps | with_reducible apply fresh_keeps | with_reducible apply onSample_keeps
    | with_reducible apply foldl_keeps | with_reducible apply ite_keeps | intro _ | split | contradiction | dsimp only

theorem execEvalDiChange_keeps (e1 : EngineId) (s : State) (t : State) (e : execEvalDiChange e1 s = .next t) : Keeps s t := by
  have h : Keeps s s := Keeps.refl s
  unfold execEvalDiChange at e
  try extract_lets at e
  first | refine next_keeps ?_ e | refine need_keeps ?_ e
  all_goals repeat' first
    | with_reducible assumption | with_reducible apply evaluate_keeps | with_reducible apply fresh_keeps | with_reducible apply onDiChange_keeps
    | with_reducible apply foldl_keeps | with_reducible apply ite_keeps | intro _ | split | contradiction | dsimp only

theorem execEvalCount_keeps (e1 : EngineId) (s : State) (t : State) (e : execEvalCount e1 s = .next t) : Keeps s t := by
  have h : Keeps s s := Keeps.refl s
  unfold execEvalCount at e
  try extract_lets at e
  first | refine next_keeps ?_ e | refine need_keeps ?_ e
  all_goals repeat' first
    | with_reducible assumption | with_reducible apply evaluate_keeps | with_reducible apply fresh_keeps | with_reducible apply onCount_keeps
    | with_reducible apply foldl_keeps | with_reducible apply ite_keeps | intro _ | split | contradiction | dsimp only

theorem execEvalCanFrame_keeps (e1 : EngineId) (s : State) (t : State) (e : execEvalCanFrame e1 s = .next t) : Keeps s t := by
  have h : Keeps s s := Keeps.refl s
  unfold execEvalCanFrame at e
  try extract_lets at e
  first | refine next_keeps ?_ e | refine need_keeps ?_ e
  all_goals repeat' first
    | with_reducible assumption | with_reducible apply evaluate_keeps | with_reducible apply fresh_keeps | with_reducible apply onCanFrame_keeps
    | with_reducible apply foldl_keeps | with_reducible apply ite_keeps | intro _ | split | contradiction | dsimp only

theorem execEvalTick_keeps (e1 : EngineId) (s : State) (t : State) (e : execEvalTick e1 s = .next t) : Keeps s t := by
  have h : Keeps s s := Keeps.refl s
  unfold execEvalTick at e
  try extract_lets at e
  first | refine next_keeps ?_ e | refine need_keeps ?_ e
  all_goals repeat' first
    | with_reducible assumption | with_reducible apply evaluate_keeps | with_reducible apply fresh_keeps | with_reducible apply onTick_keeps
    | with_reducible apply foldl_keeps | with_reducible apply ite_keeps | intro _ | split | contradiction | dsimp only

theorem execDelayExpiry_keeps (e1 : EngineId) (p : Nat) (s : State) (t : State) (e : execDelayExpiry e1 p s = .next t) : Keeps s t := by
  have h : Keeps s s := Keeps.refl s
  unfold execDelayExpiry at e
  try extract_lets at e
  first | refine next_keeps ?_ e | refine need_keeps ?_ e
  all_goals repeat' first
    | with_reducible assumption | with_reducible apply inTick_keeps | with_reducible apply fresh_keeps | with_reducible apply sweepPoints_keeps
    | with_reducible apply foldl_keeps | with_reducible apply ite_keeps | intro _ | split | contradiction | dsimp only

theorem execRateEvaluation_keeps (e1 : EngineId) (p : Nat) (s : State) (t : State) (e : execRateEvaluation e1 p s = .next t) : Keeps s t := by
  have h : Keeps s s := Keeps.refl s
  unfold execRateEvaluation at e
  try extract_lets at e
  first | refine next_keeps ?_ e | refine need_keeps ?_ e
  all_goals repeat' first
    | with_reducible assumption | with_reducible apply inTick_keeps | with_reducible apply fresh_keeps | with_reducible apply sweepPoints_keeps
    | with_reducible apply foldl_keeps | with_reducible apply ite_keeps | intro _ | split | contradiction | dsimp only

theorem execBlockDelayExpiry_keeps (e1 : EngineId) (p : Nat) (s : State) (t : State) (e : execBlockDelayExpiry e1 p s = .next t) : Keeps s t := by
  have h : Keeps s s := Keeps.refl s
  unfold execBlockDelayExpiry at e
  try extract_lets at e
  first | refine next_keeps ?_ e | refine need_keeps ?_ e
  all_goals repeat' first
    | with_reducible assumption | with_reducible apply inTick_keeps | with_reducible apply fresh_keeps | with_reducible apply sweepPoints_keeps
    | with_reducible apply foldl_keeps | with_reducible apply ite_keeps | intro _ | split | contradiction | dsimp only

theorem execShelveExpiry_keeps (e1 : EngineId) (p : Nat) (s : State) (t : State) (e : execShelveExpiry e1 p s = .next t) : Keeps s t := by
  have h : Keeps s s := Keeps.refl s
  unfold execShelveExpiry at e
  try extract_lets at e
  first | refine next_keeps ?_ e | refine need_keeps ?_ e
  all_goals repeat' first
    | with_reducible assumption | with_reducible apply inTick_keeps | with_reducible apply fresh_keeps | with_reducible apply sweepPoints_keeps
    | with_reducible apply foldl_keeps | with_reducible apply ite_keeps | intro _ | split | contradiction | dsimp only

theorem execGroupBlockExpiry_keeps (e1 : EngineId) (g : Nat) (s : State) (t : State) (e : execGroupBlockExpiry e1 g s = .next t) : Keeps s t := by
  have h : Keeps s s := Keeps.refl s
  unfold execGroupBlockExpiry at e
  try extract_lets at e
  first | refine next_keeps ?_ e | refine need_keeps ?_ e
  all_goals repeat' first
    | with_reducible assumption | with_reducible apply inTick_keeps | with_reducible apply fresh_keeps | with_reducible apply sweepGroups_keeps
    | with_reducible apply foldl_keeps | with_reducible apply ite_keeps | intro _ | split | contradiction | dsimp only

theorem execFloodWindowClose_keeps (e1 : EngineId) (g : Nat) (s : State) (t : State) (e : execFloodWindowClose e1 g s = .next t) : Keeps s t := by
  have h : Keeps s s := Keeps.refl s
  unfold execFloodWindowClose at e
  try extract_lets at e
  first | refine next_keeps ?_ e | refine need_keeps ?_ e
  all_goals repeat' first
    | with_reducible assumption | with_reducible apply inTick_keeps | with_reducible apply fresh_keeps | with_reducible apply sweepGroups_keeps
    | with_reducible apply foldl_keeps | with_reducible apply ite_keeps | intro _ | split | contradiction | dsimp only

theorem execCallTimeout_keeps (e1 : EngineId) (g : Nat) (s : State) (t : State) (e : execCallTimeout e1 g s = .next t) : Keeps s t := by
  have h : Keeps s s := Keeps.refl s
  unfold execCallTimeout at e
  try extract_lets at e
  first | refine next_keeps ?_ e | refine need_keeps ?_ e
  all_goals repeat' first
    | with_reducible assumption | with_reducible apply inTick_keeps | with_reducible apply fresh_keeps | with_reducible apply sweepGroups_keeps
    | with_reducible apply foldl_keeps | with_reducible apply ite_keeps | intro _ | split | contradiction | dsimp only

theorem execCallFrameRepeat_keeps (e1 : EngineId) (g : Nat) (s : State) (t : State) (e : execCallFrameRepeat e1 g s = .next t) : Keeps s t := by
  have h : Keeps s s := Keeps.refl s
  unfold execCallFrameRepeat at e
  try extract_lets at e
  first | refine next_keeps ?_ e | refine need_keeps ?_ e
  all_goals repeat' first
    | with_reducible assumption | with_reducible apply inTick_keeps | with_reducible apply fresh_keeps | with_reducible apply sweepGroups_keeps
    | with_reducible apply foldl_keeps | with_reducible apply ite_keeps | intro _ | split | contradiction | dsimp only

theorem execDeadmanWarn_keeps (e1 : EngineId) (g : Nat) (s : State) (t : State) (e : execDeadmanWarn e1 g s = .next t) : Keeps s t := by
  have h : Keeps s s := Keeps.refl s
  unfold execDeadmanWarn at e
  try extract_lets at e
  first | refine next_keeps ?_ e | refine need_keeps ?_ e
  all_goals repeat' first
    | with_reducible assumption | with_reducible apply inTick_keeps | with_reducible apply fresh_keeps | with_reducible apply sweepGroups_keeps
    | with_reducible apply foldl_keeps | with_reducible apply ite_keeps | intro _ | split | contradiction | dsimp only

theorem execDeadmanExpiry_keeps (e1 : EngineId) (g : Nat) (s : State) (t : State) (e : execDeadmanExpiry e1 g s = .next t) : Keeps s t := by
  have h : Keeps s s := Keeps.refl s
  unfold execDeadmanExpiry at e
  try extract_lets at e
  first | refine next_keeps ?_ e | refine need_keeps ?_ e
  all_goals repeat' first
    | with_reducible assumption | with_reducible apply inTick_keeps | with_reducible apply fresh_keeps | with_reducible apply sweepGroups_keeps
    | with_reducible apply foldl_keeps | with_reducible apply ite_keeps | intro _ | split | contradiction | dsimp only

theorem execSealPeriodExpiry_keeps (e1 : EngineId) (s : State) (t : State) (e : execSealPeriodExpiry e1 s = .next t) : Keeps s t := by
  have h : Keeps s s := Keeps.refl s
  unfold execSealPeriodExpiry at e
  try extract_lets at e
  first | refine next_keeps ?_ e | refine need_keeps ?_ e
  all_goals repeat' first
    | with_reducible assumption | with_reducible apply inTick_keeps | with_reducible apply fresh_keeps | with_reducible apply tickSeal_keeps
    | with_reducible apply foldl_keeps | with_reducible apply ite_keeps | intro _ | split | contradiction | dsimp only

theorem execHealthPeriodExpiry_keeps (e1 : EngineId) (s : State) (t : State) (e : execHealthPeriodExpiry e1 s = .next t) : Keeps s t := by
  have h : Keeps s s := Keeps.refl s
  unfold execHealthPeriodExpiry at e
  try extract_lets at e
  first | refine next_keeps ?_ e | refine need_keeps ?_ e
  all_goals repeat' first
    | with_reducible assumption | with_reducible apply inTick_keeps | with_reducible apply fresh_keeps | with_reducible apply tickHealth_keeps
    | with_reducible apply foldl_keeps | with_reducible apply ite_keeps | intro _ | split | contradiction | dsimp only

theorem execEvalSourceGap_keeps (e1 : EngineId) (s : State) (t : State) (e : execEvalSourceGap e1 s = .next t) : Keeps s t := by
  have h : Keeps s s := Keeps.refl s
  unfold execEvalSourceGap at e
  try extract_lets at e
  first | refine next_keeps ?_ e | refine need_keeps ?_ e
  all_goals repeat' first
    | with_reducible assumption | with_reducible apply evaluate_keeps | with_reducible apply fresh_keeps | with_reducible apply onSourceGap_keeps
    | with_reducible apply foldl_keeps | with_reducible apply ite_keeps | intro _ | split | contradiction | dsimp only

theorem execEvalSnapshotMark_keeps (e1 : EngineId) (s : State) (t : State) (e : execEvalSnapshotMark e1 s = .next t) : Keeps s t := by
  have h : Keeps s s := Keeps.refl s
  unfold execEvalSnapshotMark at e
  try extract_lets at e
  first | refine next_keeps ?_ e | refine need_keeps ?_ e
  all_goals repeat' first
    | with_reducible assumption | with_reducible apply evalMark_keeps | with_reducible apply fresh_keeps | with_reducible apply foldl_keeps
    | with_reducible apply ite_keeps | intro _ | split | contradiction | dsimp only

theorem execEvalSealRequest_keeps (e1 : EngineId) (s : State) (t : State) (e : execEvalSealRequest e1 s = .next t) : Keeps s t := by
  have h : Keeps s s := Keeps.refl s
  unfold execEvalSealRequest at e
  try extract_lets at e
  first | refine next_keeps ?_ e | refine need_keeps ?_ e
  all_goals repeat' first
    | with_reducible assumption | with_reducible apply evaluate_keeps | with_reducible apply fresh_keeps | with_reducible apply putSeal_keeps
    | with_reducible apply foldl_keeps | with_reducible apply ite_keeps | intro _ | split | contradiction | dsimp only

theorem execEvalResyncStatus_keeps (e1 : EngineId) (s : State) (t : State) (e : execEvalResyncStatus e1 s = .next t) : Keeps s t := by
  have h : Keeps s s := Keeps.refl s
  unfold execEvalResyncStatus at e
  try extract_lets at e
  first | refine next_keeps ?_ e | refine need_keeps ?_ e
  all_goals repeat' first
    | with_reducible assumption | with_reducible apply evaluate_keeps | with_reducible apply fresh_keeps | with_reducible apply onStatus_keeps
    | with_reducible apply foldl_keeps | with_reducible apply ite_keeps | intro _ | split | contradiction | dsimp only

theorem execEvalResyncCopy_keeps (e1 : EngineId) (s : State) (t : State) (e : execEvalResyncCopy e1 s = .next t) : Keeps s t := by
  have h : Keeps s s := Keeps.refl s
  unfold execEvalResyncCopy at e
  try extract_lets at e
  first | refine next_keeps ?_ e | refine need_keeps ?_ e
  all_goals repeat' first
    | with_reducible assumption | with_reducible apply evaluate_keeps | with_reducible apply fresh_keeps | with_reducible apply onCopy_keeps
    | with_reducible apply foldl_keeps | with_reducible apply ite_keeps | intro _ | split | contradiction | dsimp only

theorem execEvalAudit_keeps (e1 : EngineId) (s : State) (t : State) (e : execEvalAudit e1 s = .next t) : Keeps s t := by
  have h : Keeps s s := Keeps.refl s
  unfold execEvalAudit at e
  try extract_lets at e
  first | refine next_keeps ?_ e | refine need_keeps ?_ e
  all_goals repeat' first
    | with_reducible assumption | with_reducible apply evaluate_keeps | with_reducible apply fresh_keeps | with_reducible apply onAudit_keeps
    | with_reducible apply foldl_keeps | with_reducible apply ite_keeps | intro _ | split | contradiction | dsimp only

theorem execEvalDiverge_keeps (e1 : EngineId) (s : State) (t : State) (e : execEvalDiverge e1 s = .next t) : Keeps s t := by
  have h : Keeps s s := Keeps.refl s
  unfold execEvalDiverge at e
  try extract_lets at e
  first | refine next_keeps ?_ e | refine need_keeps ?_ e
  all_goals repeat' first
    | with_reducible assumption | with_reducible apply evaluate_keeps | with_reducible apply fresh_keeps | with_reducible apply onDiverge_keeps
    | with_reducible apply takeStatus_keeps | with_reducible apply foldl_keeps | with_reducible apply ite_keeps | intro _ | split | contradiction
    | dsimp only

theorem execEvalRepair_keeps (e1 : EngineId) (s : State) (t : State) (e : execEvalRepair e1 s = .next t) : Keeps s t := by
  have h : Keeps s s := Keeps.refl s
  unfold execEvalRepair at e
  try extract_lets at e
  first | refine next_keeps ?_ e | refine need_keeps ?_ e
  all_goals repeat' first
    | with_reducible assumption | with_reducible apply evaluate_keeps | with_reducible apply fresh_keeps | with_reducible apply onRepair_keeps
    | with_reducible apply takeStatus_keeps | with_reducible apply foldl_keeps | with_reducible apply ite_keeps | intro _ | split | contradiction
    | dsimp only

theorem execNop_keeps (s : State) (t : State) (e : execNop s = .next t) : Keeps s t := by
  have h : Keeps s s := Keeps.refl s
  unfold execNop at e
  try extract_lets at e
  first | refine next_keeps ?_ e | refine need_keeps ?_ e
  all_goals repeat' first
    | with_reducible assumption | with_reducible apply dirCmd_keeps | with_reducible apply fresh_keeps | with_reducible apply done_keeps
    | with_reducible apply foldl_keeps | with_reducible apply ite_keeps | intro _ | split | contradiction | dsimp only

theorem execUnknownOpcode_keeps (s : State) (t : State) (e : execUnknownOpcode s = .next t) : Keeps s t := by
  have h : Keeps s s := Keeps.refl s
  unfold execUnknownOpcode at e
  try extract_lets at e
  first | refine next_keeps ?_ e | refine need_keeps ?_ e
  all_goals repeat' first
    | with_reducible assumption | with_reducible apply fresh_keeps | with_reducible apply done_keeps | with_reducible apply takeHead_keeps
    | with_reducible apply foldl_keeps | with_reducible apply ite_keeps | intro _ | split | contradiction | dsimp only

theorem execCompletionWrite_keeps (s : State) (t : State) (e : execCompletionWrite s = .next t) : Keeps s t := by
  have h : Keeps s s := Keeps.refl s
  unfold execCompletionWrite at e
  try extract_lets at e
  first | refine next_keeps ?_ e | refine need_keeps ?_ e
  all_goals repeat' first
    | with_reducible assumption | with_reducible apply writeCompletion_keeps | with_reducible apply fresh_keeps | with_reducible apply foldl_keeps
    | with_reducible apply ite_keeps | intro _ | split | contradiction | dsimp only

theorem execCommandRateAllowance_keeps (s : State) (t : State) (e : execCommandRateAllowance s = .next t) : Keeps s t := by
  have h : Keeps s s := Keeps.refl s
  unfold execCommandRateAllowance at e
  try extract_lets at e
  first | refine next_keeps ?_ e | refine need_keeps ?_ e
  all_goals repeat' first
    | with_reducible assumption | with_reducible apply fresh_keeps | with_reducible apply foldl_keeps | with_reducible apply ite_keeps | intro _
    | split | contradiction | dsimp only

theorem execAckPoint_keeps (ph : Phase) (s : State) (t : State) (e : execAckPoint ph s = .next t) : Keeps s t := by
  have h : Keeps s s := Keeps.refl s
  unfold execAckPoint at e
  try extract_lets at e
  first | refine next_keeps ?_ e | refine need_keeps ?_ e
  all_goals repeat' first
    | with_reducible assumption | with_reducible apply recTake_keeps | with_reducible apply fresh_keeps | with_reducible apply evalCmd_keeps
    | with_reducible apply evalAckPoint_keeps
    | (with_reducible refine Eq.mp (congrArg (Keeps s) (congrArg Prod.snd ‹_ = (_, _)›)) (evalAckPoint_keeps ..)) | with_reducible apply foldl_keeps
    | with_reducible apply ite_keeps | intro _ | split | contradiction | dsimp only

theorem execShelve_keeps (ph : Phase) (s : State) (t : State) (e : execShelve ph s = .next t) : Keeps s t := by
  have h : Keeps s s := Keeps.refl s
  unfold execShelve at e
  try extract_lets at e
  first | refine next_keeps ?_ e | refine need_keeps ?_ e
  all_goals repeat' first
    | with_reducible assumption | with_reducible apply recTake_keeps | with_reducible apply fresh_keeps | with_reducible apply evalCmd_keeps
    | with_reducible apply evalShelve_keeps
    | (with_reducible refine Eq.mp (congrArg (Keeps s) (congrArg Prod.snd ‹_ = (_, _)›)) (evalShelve_keeps ..)) | with_reducible apply foldl_keeps
    | with_reducible apply ite_keeps | intro _ | split | contradiction | dsimp only

theorem execUnshelve_keeps (ph : Phase) (s : State) (t : State) (e : execUnshelve ph s = .next t) : Keeps s t := by
  have h : Keeps s s := Keeps.refl s
  unfold execUnshelve at e
  try extract_lets at e
  first | refine next_keeps ?_ e | refine need_keeps ?_ e
  all_goals repeat' first
    | with_reducible assumption | with_reducible apply recTake_keeps | with_reducible apply fresh_keeps | with_reducible apply evalCmd_keeps
    | with_reducible apply evalUnshelve_keeps
    | (with_reducible refine Eq.mp (congrArg (Keeps s) (congrArg Prod.snd ‹_ = (_, _)›)) (evalUnshelve_keeps ..)) | with_reducible apply foldl_keeps
    | with_reducible apply ite_keeps | intro _ | split | contradiction | dsimp only

theorem execForcePoint_keeps (ph : Phase) (s : State) (t : State) (e : execForcePoint ph s = .next t) : Keeps s t := by
  have h : Keeps s s := Keeps.refl s
  unfold execForcePoint at e
  try extract_lets at e
  first | refine next_keeps ?_ e | refine need_keeps ?_ e
  all_goals repeat' first
    | with_reducible assumption | with_reducible apply recTake_keeps | with_reducible apply fresh_keeps | with_reducible apply evalCmd_keeps
    | with_reducible apply evalForcePoint_keeps
    | (with_reducible refine Eq.mp (congrArg (Keeps s) (congrArg Prod.snd ‹_ = (_, _)›)) (evalForcePoint_keeps ..)) | with_reducible apply foldl_keeps
    | with_reducible apply ite_keeps | intro _ | split | contradiction | dsimp only

theorem execPointRead_keeps (ph : Phase) (s : State) (t : State) (e : execPointRead ph s = .next t) : Keeps s t := by
  have h : Keeps s s := Keeps.refl s
  unfold execPointRead at e
  try extract_lets at e
  first | refine next_keeps ?_ e | refine need_keeps ?_ e
  all_goals repeat' first
    | with_reducible assumption | with_reducible apply recTake_keeps | with_reducible apply fresh_keeps | with_reducible apply evalCmd_keeps
    | with_reducible apply evalPointRead_keeps
    | (with_reducible refine Eq.mp (congrArg (Keeps s) (congrArg Prod.snd ‹_ = (_, _)›)) (evalPointRead_keeps ..)) | with_reducible apply foldl_keeps
    | with_reducible apply ite_keeps | intro _ | split | contradiction | dsimp only

theorem execAckGroup_keeps (ph : Phase) (s : State) (t : State) (e : execAckGroup ph s = .next t) : Keeps s t := by
  have h : Keeps s s := Keeps.refl s
  unfold execAckGroup at e
  try extract_lets at e
  first | refine next_keeps ?_ e | refine need_keeps ?_ e
  all_goals repeat' first
    | with_reducible assumption | with_reducible apply recTake_keeps | with_reducible apply fresh_keeps | with_reducible apply evalCmd_keeps
    | with_reducible apply evalAckGroup_keeps
    | (with_reducible refine Eq.mp (congrArg (Keeps s) (congrArg Prod.snd ‹_ = (_, _)›)) (evalAckGroup_keeps ..)) | with_reducible apply foldl_keeps
    | with_reducible apply ite_keeps | intro _ | split | contradiction | dsimp only

theorem execCallManual_keeps (ph : Phase) (s : State) (t : State) (e : execCallManual ph s = .next t) : Keeps s t := by
  have h : Keeps s s := Keeps.refl s
  unfold execCallManual at e
  try extract_lets at e
  first | refine next_keeps ?_ e | refine need_keeps ?_ e
  all_goals repeat' first
    | with_reducible assumption | with_reducible apply recTake_keeps | with_reducible apply fresh_keeps | with_reducible apply evalCmd_keeps
    | with_reducible apply evalCallManual_keeps
    | (with_reducible refine Eq.mp (congrArg (Keeps s) (congrArg Prod.snd ‹_ = (_, _)›)) (evalCallManual_keeps ..)) | with_reducible apply foldl_keeps
    | with_reducible apply ite_keeps | intro _ | split | contradiction | dsimp only

theorem execCallSilence_keeps (ph : Phase) (s : State) (t : State) (e : execCallSilence ph s = .next t) : Keeps s t := by
  have h : Keeps s s := Keeps.refl s
  unfold execCallSilence at e
  try extract_lets at e
  first | refine next_keeps ?_ e | refine need_keeps ?_ e
  all_goals repeat' first
    | with_reducible assumption | with_reducible apply recTake_keeps | with_reducible apply fresh_keeps | with_reducible apply evalCmd_keeps
    | with_reducible apply evalCallSilence_keeps
    | (with_reducible refine Eq.mp (congrArg (Keeps s) (congrArg Prod.snd ‹_ = (_, _)›)) (evalCallSilence_keeps ..))
    | with_reducible apply foldl_keeps | with_reducible apply ite_keeps | intro _ | split | contradiction | dsimp only

theorem execDeadmanReset_keeps (ph : Phase) (s : State) (t : State) (e : execDeadmanReset ph s = .next t) : Keeps s t := by
  have h : Keeps s s := Keeps.refl s
  unfold execDeadmanReset at e
  try extract_lets at e
  first | refine next_keeps ?_ e | refine need_keeps ?_ e
  all_goals repeat' first
    | with_reducible assumption | with_reducible apply recTake_keeps | with_reducible apply fresh_keeps | with_reducible apply evalCmd_keeps
    | with_reducible apply evalDeadmanReset_keeps
    | (with_reducible refine Eq.mp (congrArg (Keeps s) (congrArg Prod.snd ‹_ = (_, _)›)) (evalDeadmanReset_keeps ..))
    | with_reducible apply foldl_keeps | with_reducible apply ite_keeps | intro _ | split | contradiction | dsimp only

theorem execPointWrite_keeps (img : Image) (s : State) (t : State) (e : execPointWrite img s = .next t) : Keeps s t := by
  have h : Keeps s s := Keeps.refl s
  unfold execPointWrite at e
  try extract_lets at e
  first | refine next_keeps ?_ e | refine need_keeps ?_ e
  all_goals repeat' first
    | with_reducible assumption | with_reducible apply cfgTake_keeps | with_reducible apply fresh_keeps | exact checkPoint_keeps _ _ _ _ ‹_› ‹_›
    | with_reducible apply foldl_keeps | with_reducible apply ite_keeps | intro _ | split | contradiction | dsimp only

theorem execChandefWrite_keeps (img : Image) (s : State) (t : State) (e : execChandefWrite img s = .next t) : Keeps s t := by
  have h : Keeps s s := Keeps.refl s
  unfold execChandefWrite at e
  try extract_lets at e
  first | refine next_keeps ?_ e | refine need_keeps ?_ e
  all_goals repeat' first
    | with_reducible assumption | with_reducible apply cfgTake_keeps | with_reducible apply fresh_keeps | exact checkChandef_keeps _ _ _ _ ‹_› ‹_›
    | with_reducible apply foldl_keeps | with_reducible apply ite_keeps | intro _ | split | contradiction | dsimp only

theorem execGroupWrite_keeps (img : Image) (s : State) (t : State) (e : execGroupWrite img s = .next t) : Keeps s t := by
  have h : Keeps s s := Keeps.refl s
  unfold execGroupWrite at e
  try extract_lets at e
  first | refine next_keeps ?_ e | refine need_keeps ?_ e
  all_goals repeat' first
    | with_reducible assumption | with_reducible apply cfgTake_keeps | with_reducible apply fresh_keeps | exact checkGroup_keeps _ _ _ _ ‹_› ‹_›
    | with_reducible apply foldl_keeps | with_reducible apply ite_keeps | intro _ | split | contradiction | dsimp only

theorem execFanoutWrite_keeps (img : Image) (s : State) (t : State) (e : execFanoutWrite img s = .next t) : Keeps s t := by
  have h : Keeps s s := Keeps.refl s
  unfold execFanoutWrite at e
  try extract_lets at e
  first | refine next_keeps ?_ e | refine need_keeps ?_ e
  all_goals repeat' first
    | with_reducible assumption | with_reducible apply cfgTake_keeps | with_reducible apply fresh_keeps | exact checkFanout_keeps _ _ _ _ ‹_› ‹_›
    | with_reducible apply foldl_keeps | with_reducible apply ite_keeps | intro _ | split | contradiction | dsimp only

theorem execLintabWrite_keeps (img : Image) (s : State) (t : State) (e : execLintabWrite img s = .next t) : Keeps s t := by
  have h : Keeps s s := Keeps.refl s
  unfold execLintabWrite at e
  try extract_lets at e
  first | refine next_keeps ?_ e | refine need_keeps ?_ e
  all_goals repeat' first
    | with_reducible assumption | with_reducible apply cfgTake_keeps | with_reducible apply fresh_keeps | exact checkLintab_keeps _ _ _ _ ‹_› ‹_›
    | with_reducible apply foldl_keeps | with_reducible apply ite_keeps | intro _ | split | contradiction | dsimp only

theorem execCanfiltWrite_keeps (img : Image) (s : State) (t : State) (e : execCanfiltWrite img s = .next t) : Keeps s t := by
  have h : Keeps s s := Keeps.refl s
  unfold execCanfiltWrite at e
  try extract_lets at e
  first | refine next_keeps ?_ e | refine need_keeps ?_ e
  all_goals repeat' first
    | with_reducible assumption | with_reducible apply cfgTake_keeps | with_reducible apply fresh_keeps | exact checkCanfilt_keeps _ _ _ _ ‹_› ‹_›
    | with_reducible apply foldl_keeps | with_reducible apply ite_keeps | intro _ | split | contradiction | dsimp only

theorem execCansigWrite_keeps (img : Image) (s : State) (t : State) (e : execCansigWrite img s = .next t) : Keeps s t := by
  have h : Keeps s s := Keeps.refl s
  unfold execCansigWrite at e
  try extract_lets at e
  first | refine next_keeps ?_ e | refine need_keeps ?_ e
  all_goals repeat' first
    | with_reducible assumption | with_reducible apply cfgTake_keeps | with_reducible apply fresh_keeps | exact checkCansig_keeps _ _ _ _ ‹_› ‹_›
    | with_reducible apply foldl_keeps | with_reducible apply ite_keeps | intro _ | split | contradiction | dsimp only

theorem execRecordAdmission_keeps (s : State) (t : State) (e : execRecordAdmission s = .next t) : Keeps s t := by
  have h : Keeps s s := Keeps.refl s
  unfold execRecordAdmission at e
  try extract_lets at e
  first | refine next_keeps ?_ e | refine need_keeps ?_ e
  all_goals repeat' first
    | with_reducible assumption | with_reducible apply admitRecord_keeps | with_reducible apply fresh_keeps | with_reducible apply foldl_keeps
    | with_reducible apply ite_keeps | intro _ | split | contradiction | dsimp only

theorem execTickGeneration_keeps (s : State) (t : State) (e : execTickGeneration s = .next t) : Keeps s t := by
  have h : Keeps s s := Keeps.refl s
  unfold execTickGeneration at e
  try extract_lets at e
  first | refine next_keeps ?_ e | refine need_keeps ?_ e
  all_goals repeat' first
    | with_reducible assumption | with_reducible apply issueTick_keeps | with_reducible apply pass_keeps | with_reducible apply fresh_keeps
    | with_reducible apply foldl_keeps | with_reducible apply ite_keeps | intro _ | split | contradiction | dsimp only

theorem execDioWrite_keeps (s : State) (t : State) (e : execDioWrite s = .next t) : Keeps s t := by
  have h : Keeps s s := Keeps.refl s
  unfold execDioWrite at e
  try extract_lets at e
  first | refine next_keeps ?_ e | refine need_keeps ?_ e
  all_goals repeat' first
    | with_reducible assumption | with_reducible apply dirCmd_keeps | with_reducible apply fresh_keeps | with_reducible apply dioWrite_keeps
    | with_reducible apply foldl_keeps | with_reducible apply ite_keeps | intro _ | split | contradiction | dsimp only

theorem execDioWindowEnd_keeps (bank : Nat) (pins : U16) (settled : U16) (dt : Nat) (s : State) (t : State) (e : execDioWindowEnd bank pins settled dt s = .next t) : Keeps s t := by
  have h : Keeps s s := Keeps.refl s
  unfold execDioWindowEnd at e
  try extract_lets at e
  first | refine next_keeps ?_ e | refine need_keeps ?_ e
  all_goals repeat' first
    | with_reducible assumption | with_reducible apply windowEnd_keeps | with_reducible apply pass_keeps | with_reducible apply fresh_keeps
    | with_reducible apply foldl_keeps | with_reducible apply ite_keeps | intro _ | split | contradiction | dsimp only

theorem execCounterEdge_keeps (k : Nat) (s : State) (t : State) (e : execCounterEdge k s = .next t) : Keeps s t := by
  have h : Keeps s s := Keeps.refl s
  unfold execCounterEdge at e
  try extract_lets at e
  first | refine next_keeps ?_ e | refine need_keeps ?_ e
  all_goals repeat' first
    | with_reducible assumption | with_reducible apply fresh_keeps | with_reducible apply updCounter_keeps | with_reducible apply foldl_keeps
    | with_reducible apply ite_keeps | intro _ | split | contradiction | dsimp only

theorem execCountPeriodExpiry_keeps (k : Nat) (cycles : Nat) (dt : Nat) (s : State) (t : State) (e : execCountPeriodExpiry k cycles dt s = .next t) : Keeps s t := by
  have h : Keeps s s := Keeps.refl s
  unfold execCountPeriodExpiry at e
  try extract_lets at e
  first | refine next_keeps ?_ e | refine need_keeps ?_ e
  all_goals repeat' first
    | with_reducible assumption | with_reducible apply offerCount_keeps | with_reducible apply pass_keeps | with_reducible apply fresh_keeps
    | with_reducible apply foldl_keeps | with_reducible apply ite_keeps | intro _ | split | contradiction | dsimp only

theorem execNewtRefresh_keeps (newt : Nat) (late : Bool) (s : State) (t : State) (e : execNewtRefresh newt late s = .next t) : Keeps s t := by
  have h : Keeps s s := Keeps.refl s
  unfold execNewtRefresh at e
  try extract_lets at e
  first | refine next_keeps ?_ e | refine need_keeps ?_ e
  all_goals repeat' first
    | with_reducible assumption | with_reducible apply newtRefresh_keeps | with_reducible apply fresh_keeps | with_reducible apply foldl_keeps
    | with_reducible apply ite_keeps | intro _ | split | contradiction | dsimp only

theorem execWatchdogExpiry_keeps (bank : Nat) (s : State) (t : State) (e : execWatchdogExpiry bank s = .next t) : Keeps s t := by
  have h : Keeps s s := Keeps.refl s
  unfold execWatchdogExpiry at e
  try extract_lets at e
  first | refine next_keeps ?_ e | refine need_keeps ?_ e
  all_goals repeat' first
    | with_reducible assumption | with_reducible apply wdExpire_keeps | with_reducible apply fresh_keeps | with_reducible apply foldl_keeps
    | with_reducible apply ite_keeps | intro _ | split | contradiction | dsimp only

theorem execNewtStall_keeps (newt : Nat) (s : State) (t : State) (e : execNewtStall newt s = .next t) : Keeps s t := by
  have h : Keeps s s := Keeps.refl s
  unfold execNewtStall at e
  try extract_lets at e
  first | refine next_keeps ?_ e | refine need_keeps ?_ e
  all_goals repeat' first
    | with_reducible assumption | with_reducible apply newtStop_keeps | with_reducible apply fresh_keeps | with_reducible apply foldl_keeps
    | with_reducible apply ite_keeps | intro _ | split | contradiction | dsimp only

theorem execNewtRestart_keeps (newt : Nat) (s : State) (t : State) (e : execNewtRestart newt s = .next t) : Keeps s t := by
  have h : Keeps s s := Keeps.refl s
  unfold execNewtRestart at e
  try extract_lets at e
  first | refine next_keeps ?_ e | refine need_keeps ?_ e
  all_goals repeat' first
    | with_reducible assumption | with_reducible apply newtStart_keeps | with_reducible apply fresh_keeps | with_reducible apply foldl_keeps
    | with_reducible apply ite_keeps | intro _ | split | contradiction | dsimp only

theorem execFaultSet_keeps (bank : Nat) (cause : FaultCause) (s : State) (t : State) (e : execFaultSet bank cause s = .next t) : Keeps s t := by
  have h : Keeps s s := Keeps.refl s
  unfold execFaultSet at e
  try extract_lets at e
  first | refine next_keeps ?_ e | refine need_keeps ?_ e
  all_goals repeat' first
    | with_reducible assumption | with_reducible apply setFault_keeps | with_reducible apply fresh_keeps | with_reducible apply foldl_keeps
    | with_reducible apply ite_keeps | intro _ | split | contradiction | dsimp only

theorem execFaultClear_keeps (bank : Nat) (s : State) (t : State) (e : execFaultClear bank s = .next t) : Keeps s t := by
  have h : Keeps s s := Keeps.refl s
  unfold execFaultClear at e
  try extract_lets at e
  first | refine next_keeps ?_ e | refine need_keeps ?_ e
  all_goals repeat' first
    | with_reducible assumption | with_reducible apply clearFault_keeps | with_reducible apply fresh_keeps | with_reducible apply foldl_keeps
    | with_reducible apply ite_keeps | intro _ | split | contradiction | dsimp only

theorem execFieldReset_keeps (bank : Nat) (s : State) (t : State) (e : execFieldReset bank s = .next t) : Keeps s t := by
  have h : Keeps s s := Keeps.refl s
  unfold execFieldReset at e
  try extract_lets at e
  first | refine next_keeps ?_ e | refine need_keeps ?_ e
  all_goals repeat' first
    | with_reducible assumption | with_reducible apply fieldReset_keeps | with_reducible apply fresh_keeps | with_reducible apply foldl_keeps
    | with_reducible apply ite_keeps | intro _ | split | contradiction | dsimp only

theorem execFieldSideRestart_keeps (bank : Nat) (s : State) (t : State) (e : execFieldSideRestart bank s = .next t) : Keeps s t := by
  have h : Keeps s s := Keeps.refl s
  unfold execFieldSideRestart at e
  try extract_lets at e
  first | refine next_keeps ?_ e | refine need_keeps ?_ e
  all_goals repeat' first
    | with_reducible assumption | with_reducible apply fieldStart_keeps | with_reducible apply fresh_keeps | with_reducible apply foldl_keeps
    | with_reducible apply ite_keeps | intro _ | split | contradiction | dsimp only

theorem execThermalShutdownRetry_keeps (ch : Nat) (shorted : Bool) (s : State) (t : State) (e : execThermalShutdownRetry ch shorted s = .next t) : Keeps s t := by
  have h : Keeps s s := Keeps.refl s
  unfold execThermalShutdownRetry at e
  try extract_lets at e
  first | refine next_keeps ?_ e | refine need_keeps ?_ e
  all_goals repeat' first
    | with_reducible assumption | with_reducible apply thermalRetry_keeps | with_reducible apply fresh_keeps | with_reducible apply foldl_keeps
    | with_reducible apply ite_keeps | intro _ | split | contradiction | dsimp only

theorem execLaneSlotStart_keeps (lane : Nat) (s : State) (t : State) (e : execLaneSlotStart lane s = .next t) : Keeps s t := by
  have h : Keeps s s := Keeps.refl s
  unfold execLaneSlotStart at e
  try extract_lets at e
  first | refine next_keeps ?_ e | refine need_keeps ?_ e
  all_goals repeat' first
    | with_reducible assumption | with_reducible apply slotStart_keeps | with_reducible apply fresh_keeps | with_reducible apply foldl_keeps
    | with_reducible apply ite_keeps | intro _ | split | contradiction | dsimp only

theorem execLaneSlotEnd_keeps (lane : Nat) (m : SlotMeas) (dt : Nat) (s : State) (t : State) (e : execLaneSlotEnd lane m dt s = .next t) : Keeps s t := by
  have h : Keeps s s := Keeps.refl s
  unfold execLaneSlotEnd at e
  try extract_lets at e
  first | refine next_keeps ?_ e | refine need_keeps ?_ e
  all_goals repeat' first
    | with_reducible assumption | with_reducible apply slotEnd_keeps | with_reducible apply pass_keeps | with_reducible apply fresh_keeps
    | with_reducible apply foldl_keeps | with_reducible apply ite_keeps | intro _ | split | contradiction | dsimp only

theorem execCalSlotDue_keeps (lane : Nat) (s : State) (t : State) (e : execCalSlotDue lane s = .next t) : Keeps s t := by
  have h : Keeps s s := Keeps.refl s
  unfold execCalSlotDue at e
  try extract_lets at e
  first | refine next_keeps ?_ e | refine need_keeps ?_ e
  all_goals repeat' first
    | with_reducible assumption | with_reducible apply fresh_keeps | with_reducible apply updLane_keeps | with_reducible apply foldl_keeps
    | with_reducible apply ite_keeps | intro _ | split | contradiction | dsimp only

theorem execCalSlotEnd_keeps (lane : Nat) (meas : F32) (s : State) (t : State) (e : execCalSlotEnd lane meas s = .next t) : Keeps s t := by
  have h : Keeps s s := Keeps.refl s
  unfold execCalSlotEnd at e
  try extract_lets at e
  first | refine next_keeps ?_ e | refine need_keeps ?_ e
  all_goals repeat' first
    | with_reducible assumption | with_reducible apply calEnd_keeps | with_reducible apply fresh_keeps | with_reducible apply foldl_keeps
    | with_reducible apply ite_keeps | intro _ | split | contradiction | dsimp only

theorem execLaneDrained_keeps (lane : Nat) (s : State) (t : State) (e : execLaneDrained lane s = .next t) : Keeps s t := by
  have h : Keeps s s := Keeps.refl s
  unfold execLaneDrained at e
  try extract_lets at e
  first | refine next_keeps ?_ e | refine need_keeps ?_ e
  all_goals repeat' first
    | with_reducible assumption | with_reducible apply drained_keeps | with_reducible apply fresh_keeps | with_reducible apply foldl_keeps
    | with_reducible apply ite_keeps | intro _ | split | contradiction | dsimp only

theorem execClampEventStart_keeps (t1 : Nat) (s : State) (t : State) (e : execClampEventStart t1 s = .next t) : Keeps s t := by
  have h : Keeps s s := Keeps.refl s
  unfold execClampEventStart at e
  try extract_lets at e
  first | refine next_keeps ?_ e | refine need_keeps ?_ e
  all_goals repeat' first
    | with_reducible assumption | with_reducible apply fresh_keeps | with_reducible apply setRegBit_keeps | with_reducible apply bump_keeps
    | with_reducible apply raise_keeps | with_reducible apply updLane_keeps | with_reducible apply foldl_keeps | with_reducible apply ite_keeps
    | intro _ | split | contradiction | dsimp only

theorem execClampEventEnd_keeps (t1 : Nat) (s : State) (t : State) (e : execClampEventEnd t1 s = .next t) : Keeps s t := by
  have h : Keeps s s := Keeps.refl s
  unfold execClampEventEnd at e
  try extract_lets at e
  first | refine next_keeps ?_ e | refine need_keeps ?_ e
  all_goals repeat' first
    | with_reducible assumption | with_reducible apply setRegBit_keeps | with_reducible apply fresh_keeps | with_reducible apply foldl_keeps
    | with_reducible apply ite_keeps | intro _ | split | contradiction | dsimp only

theorem execBurdenShuntOpen_keeps (t1 : Nat) (s : State) (t : State) (e : execBurdenShuntOpen t1 s = .next t) : Keeps s t := by
  have h : Keeps s s := Keeps.refl s
  unfold execBurdenShuntOpen at e
  try extract_lets at e
  first | refine next_keeps ?_ e | refine need_keeps ?_ e
  all_goals repeat' first
    | with_reducible assumption | with_reducible apply fresh_keeps | with_reducible apply bump_keeps | with_reducible apply setRegBit_keeps
    | with_reducible apply foldl_keeps | with_reducible apply ite_keeps | intro _ | split | contradiction | dsimp only

theorem execBurdenShuntReclose_keeps (t1 : Nat) (s : State) (t : State) (e : execBurdenShuntReclose t1 s = .next t) : Keeps s t := by
  have h : Keeps s s := Keeps.refl s
  unfold execBurdenShuntReclose at e
  try extract_lets at e
  first | refine next_keeps ?_ e | refine need_keeps ?_ e
  all_goals repeat' first
    | with_reducible assumption | with_reducible apply setRegBit_keeps | with_reducible apply fresh_keeps | with_reducible apply foldl_keeps
    | with_reducible apply ite_keeps | intro _ | split | contradiction | dsimp only

theorem execBiasCurrentLimit_keeps (n : Nat) (limiting : Bool) (s : State) (t : State) (e : execBiasCurrentLimit n limiting s = .next t) : Keeps s t := by
  have h : Keeps s s := Keeps.refl s
  unfold execBiasCurrentLimit at e
  try extract_lets at e
  first | refine next_keeps ?_ e | refine need_keeps ?_ e
  all_goals repeat' first
    | with_reducible assumption | with_reducible apply fresh_keeps | with_reducible apply setRegBit_keeps | with_reducible apply bump_keeps
    | with_reducible apply foldl_keeps | with_reducible apply ite_keeps | intro _ | split | contradiction | dsimp only

theorem execXpCheck_keeps (v : U32) (s : State) (t : State) (e : execXpCheck v s = .next t) : Keeps s t := by
  have h : Keeps s s := Keeps.refl s
  unfold execXpCheck at e
  try extract_lets at e
  first | refine next_keeps ?_ e | refine need_keeps ?_ e
  all_goals repeat' first
    | with_reducible assumption | with_reducible apply checkWrite_keeps | with_reducible apply fresh_keeps | with_reducible apply foldl_keeps
    | with_reducible apply ite_keeps | intro _ | split | contradiction | dsimp only

theorem execConfigBarrier_keeps (s : State) (t : State) (e : execConfigBarrier s = .next t) : Keeps s t := by
  have h : Keeps s s := Keeps.refl s
  unfold execConfigBarrier at e
  try extract_lets at e
  first | refine next_keeps ?_ e | refine need_keeps ?_ e
  all_goals repeat' first
    | with_reducible assumption | with_reducible apply configBarrier_keeps | with_reducible apply fresh_keeps | with_reducible apply foldl_keeps
    | with_reducible apply ite_keeps | intro _ | split | contradiction | dsimp only

theorem execEvalEccFault_keeps (s : State) (t : State) (e : execEvalEccFault s = .next t) : Keeps s t := by
  have h : Keeps s s := Keeps.refl s
  unfold execEvalEccFault at e
  try extract_lets at e
  first | refine next_keeps ?_ e | refine need_keeps ?_ e
  all_goals repeat' first
    | with_reducible assumption | with_reducible apply eccFault_keeps | with_reducible apply fresh_keeps | with_reducible apply foldl_keeps
    | with_reducible apply ite_keeps | intro _ | split | contradiction | dsimp only

theorem execCanFrameReceived_keeps (ch : Nat) (f : CanFrame) (dt : Nat) (s : State) (t : State) (e : execCanFrameReceived ch f dt s = .next t) : Keeps s t := by
  have h : Keeps s s := Keeps.refl s
  unfold execCanFrameReceived at e
  try extract_lets at e
  first | refine next_keeps ?_ e | refine need_keeps ?_ e
  all_goals repeat' first
    | with_reducible assumption | with_reducible apply canReceive_keeps | with_reducible apply pass_keeps | with_reducible apply fresh_keeps
    | with_reducible apply foldl_keeps | with_reducible apply ite_keeps | intro _ | split | contradiction | dsimp only

theorem execProtocolException_keeps (ch : Nat) (s : State) (t : State) (e : execProtocolException ch s = .next t) : Keeps s t := by
  have h : Keeps s s := Keeps.refl s
  unfold execProtocolException at e
  try extract_lets at e
  first | refine next_keeps ?_ e | refine need_keeps ?_ e
  all_goals repeat' first
    | with_reducible assumption | with_reducible apply fresh_keeps | with_reducible apply raise_keeps | with_reducible apply setCanStat_keeps
    | with_reducible apply setCanBus_keeps | with_reducible apply foldl_keeps | with_reducible apply ite_keeps | intro _ | split | contradiction
    | dsimp only

theorem execCanBusError_keeps (ch : Nat) (err : CanErr) (s : State) (t : State) (e : execCanBusError ch err s = .next t) : Keeps s t := by
  have h : Keeps s s := Keeps.refl s
  unfold execCanBusError at e
  dsimp only at e
  first | refine next_keeps ?_ e | refine need_keeps ?_ e
  all_goals repeat' first
    | with_reducible assumption | with_reducible apply fresh_keeps | with_reducible apply attemptEnd_keeps | with_reducible apply setErr_keeps
    | with_reducible apply errFrame_keeps | with_reducible apply foldl_keeps | with_reducible apply ite_keeps | intro _ | split | contradiction
    | dsimp only

theorem execFilterWalk_keeps (s : State) (t : State) (e : execFilterWalk s = .next t) : Keeps s t := by
  have h : Keeps s s := Keeps.refl s
  unfold execFilterWalk at e
  try extract_lets at e
  first | refine next_keeps ?_ e | refine need_keeps ?_ e
  all_goals repeat' first
    | with_reducible assumption | with_reducible apply walkNext_keeps | with_reducible apply fresh_keeps | with_reducible apply foldl_keeps
    | with_reducible apply ite_keeps | intro _ | split | contradiction | dsimp only

theorem execCanTxEntryTaken_keeps (ch : Nat) (s : State) (t : State) (e : execCanTxEntryTaken ch s = .next t) : Keeps s t := by
  have h : Keeps s s := Keeps.refl s
  unfold execCanTxEntryTaken at e
  try extract_lets at e
  first | refine next_keeps ?_ e | refine need_keeps ?_ e
  all_goals repeat' first
    | with_reducible assumption | with_reducible apply takeEntry_keeps | with_reducible apply fresh_keeps | with_reducible apply foldl_keeps
    | with_reducible apply ite_keeps | intro _ | split | contradiction | dsimp only

theorem execTxAttemptStart_keeps (ch : Nat) (dt : Nat) (s : State) (t : State) (e : execTxAttemptStart ch dt s = .next t) : Keeps s t := by
  have h : Keeps s s := Keeps.refl s
  unfold execTxAttemptStart at e
  try extract_lets at e
  first | refine next_keeps ?_ e | refine need_keeps ?_ e
  all_goals repeat' first
    | with_reducible assumption | with_reducible apply attemptStart_keeps | with_reducible apply pass_keeps | with_reducible apply fresh_keeps
    | with_reducible apply foldl_keeps | with_reducible apply ite_keeps | intro _ | split | contradiction | dsimp only

theorem execTxAttemptEnd_keeps (ch : Nat) (r1 : TxResult) (dt : Nat) (s : State) (t : State) (e : execTxAttemptEnd ch r1 dt s = .next t) : Keeps s t := by
  have h : Keeps s s := Keeps.refl s
  unfold execTxAttemptEnd at e
  try extract_lets at e
  first | refine next_keeps ?_ e | refine need_keeps ?_ e
  all_goals repeat' first
    | with_reducible assumption | with_reducible apply pass_keeps | with_reducible apply fresh_keeps | with_reducible apply attemptEnd_keeps
    | with_reducible apply foldl_keeps | with_reducible apply ite_keeps | intro _ | split | contradiction | dsimp only

theorem execIntegrationComplete_keeps (ch : Nat) (s : State) (t : State) (e : execIntegrationComplete ch s = .next t) : Keeps s t := by
  have h : Keeps s s := Keeps.refl s
  unfold execIntegrationComplete at e
  try extract_lets at e
  first | refine next_keeps ?_ e | refine need_keeps ?_ e
  all_goals repeat' first
    | with_reducible assumption | with_reducible apply fresh_keeps | with_reducible apply setCanBus_keeps | with_reducible apply setCanStat_keeps
    | with_reducible apply foldl_keeps | with_reducible apply ite_keeps | intro _ | split | contradiction | dsimp only

theorem execBusOffRecoveryComplete_keeps (ch : Nat) (s : State) (t : State) (e : execBusOffRecoveryComplete ch s = .next t) : Keeps s t := by
  have h : Keeps s s := Keeps.refl s
  unfold execBusOffRecoveryComplete at e
  try extract_lets at e
  first | refine next_keeps ?_ e | refine need_keeps ?_ e
  all_goals repeat' first
    | with_reducible assumption | with_reducible apply fresh_keeps | with_reducible apply raise_keeps | with_reducible apply setCanStat_keeps
    | with_reducible apply setCanBus_keeps | with_reducible apply updCan_keeps | with_reducible apply foldl_keeps | with_reducible apply ite_keeps
    | intro _ | split | contradiction | dsimp only

theorem execCanCancel_keeps (s : State) (t : State) (e : execCanCancel s = .next t) : Keeps s t := by
  have h : Keeps s s := Keeps.refl s
  unfold execCanCancel at e
  try extract_lets at e
  first | refine next_keeps ?_ e | refine need_keeps ?_ e
  all_goals repeat' first
    | with_reducible assumption | with_reducible apply dirCmd_keeps | with_reducible apply fresh_keeps | with_reducible apply cancel_keeps
    | with_reducible apply foldl_keeps | with_reducible apply ite_keeps | intro _ | split | contradiction | dsimp only

theorem execCanChannelCtl_keeps (s : State) (t : State) (e : execCanChannelCtl s = .next t) : Keeps s t := by
  have h : Keeps s s := Keeps.refl s
  unfold execCanChannelCtl at e
  try extract_lets at e
  first | refine next_keeps ?_ e | refine need_keeps ?_ e
  all_goals repeat' first
    | with_reducible assumption | with_reducible apply dirCmd_keeps | with_reducible apply fresh_keeps | with_reducible apply channelCtl_keeps
    | with_reducible apply foldl_keeps | with_reducible apply ite_keeps | intro _ | split | contradiction | dsimp only

theorem execEventCopyArrival_keeps (e1 : EngineId) (s : State) (t : State) (e : execEventCopyArrival e1 s = .next t) : Keeps s t := by
  have h : Keeps s s := Keeps.refl s
  unfold execEventCopyArrival at e
  try extract_lets at e
  first | refine next_keeps ?_ e | refine need_keeps ?_ e
  all_goals repeat' first
    | with_reducible assumption | with_reducible apply copyArrives_keeps | with_reducible apply fresh_keeps | with_reducible apply foldl_keeps
    | with_reducible apply ite_keeps | intro _ | split | contradiction | dsimp only

theorem execMergeWaitExpiry_keeps (s : State) (t : State) (e : execMergeWaitExpiry s = .next t) : Keeps s t := by
  have h : Keeps s s := Keeps.refl s
  unfold execMergeWaitExpiry at e
  try extract_lets at e
  first | refine next_keeps ?_ e | refine need_keeps ?_ e
  all_goals repeat' first
    | with_reducible assumption | with_reducible apply mergeExpire_keeps | with_reducible apply fresh_keeps | with_reducible apply foldl_keeps
    | with_reducible apply ite_keeps | intro _ | split | contradiction | dsimp only

theorem execEventDelivery_keeps (ring : Nat) (s : State) (t : State) (e : execEventDelivery ring s = .next t) : Keeps s t := by
  have h : Keeps s s := Keeps.refl s
  unfold execEventDelivery at e
  try extract_lets at e
  first | refine next_keeps ?_ e | refine need_keeps ?_ e
  all_goals repeat' first
    | with_reducible assumption | with_reducible apply deliver_keeps | with_reducible apply fresh_keeps | with_reducible apply foldl_keeps
    | with_reducible apply ite_keeps | intro _ | split | contradiction | dsimp only

theorem execPublicationDatagram_keeps (s : State) (t : State) (e : execPublicationDatagram s = .next t) : Keeps s t := by
  have h : Keeps s s := Keeps.refl s
  unfold execPublicationDatagram at e
  try extract_lets at e
  first | refine next_keeps ?_ e | refine need_keeps ?_ e
  all_goals repeat' first
    | with_reducible assumption | with_reducible apply pubSend_keeps | with_reducible apply fresh_keeps | with_reducible apply foldl_keeps
    | with_reducible apply ite_keeps | intro _ | split | contradiction | dsimp only

theorem execCanPublication_keeps (s : State) (t : State) (e : execCanPublication s = .next t) : Keeps s t := by
  have h : Keeps s s := Keeps.refl s
  unfold execCanPublication at e
  try extract_lets at e
  first | refine next_keeps ?_ e | refine need_keeps ?_ e
  all_goals repeat' first
    | with_reducible assumption | with_reducible apply pubCan_keeps | with_reducible apply fresh_keeps | with_reducible apply foldl_keeps
    | with_reducible apply ite_keeps | intro _ | split | contradiction | dsimp only

theorem execTrendSample_keeps (entry : Nat) (dt : Nat) (s : State) (t : State) (e : execTrendSample entry dt s = .next t) : Keeps s t := by
  have h : Keeps s s := Keeps.refl s
  unfold execTrendSample at e
  try extract_lets at e
  first | refine next_keeps ?_ e | refine need_keeps ?_ e
  all_goals repeat' first
    | with_reducible assumption | with_reducible apply trendStep_keeps | with_reducible apply pass_keeps | with_reducible apply fresh_keeps
    | with_reducible apply foldl_keeps | with_reducible apply ite_keeps | intro _ | split | contradiction | dsimp only

theorem execTrendCtl_keeps (s : State) (t : State) (e : execTrendCtl s = .next t) : Keeps s t := by
  have h : Keeps s s := Keeps.refl s
  unfold execTrendCtl at e
  try extract_lets at e
  first | refine next_keeps ?_ e | refine need_keeps ?_ e
  all_goals repeat' first
    | with_reducible assumption | with_reducible apply dirCmd_keeps | with_reducible apply fresh_keeps | with_reducible apply trendCtl_keeps
    | with_reducible apply foldl_keeps | with_reducible apply ite_keeps | intro _ | split | contradiction | dsimp only

theorem execQuotaSet_keeps (s : State) (t : State) (e : execQuotaSet s = .next t) : Keeps s t := by
  have h : Keeps s s := Keeps.refl s
  unfold execQuotaSet at e
  try extract_lets at e
  first | refine next_keeps ?_ e | refine need_keeps ?_ e
  all_goals repeat' first
    | with_reducible assumption | with_reducible apply dirCmd_keeps | with_reducible apply fresh_keeps | with_reducible apply quotaSet_keeps
    | with_reducible apply foldl_keeps | with_reducible apply ite_keeps | intro _ | split | contradiction | dsimp only

theorem execElasticSplitApply_keeps (s : State) (t : State) (e : execElasticSplitApply s = .next t) : Keeps s t := by
  have h : Keeps s s := Keeps.refl s
  unfold execElasticSplitApply at e
  try extract_lets at e
  first | refine next_keeps ?_ e | refine need_keeps ?_ e
  all_goals repeat' first
    | with_reducible assumption | with_reducible apply splitApply_keeps | with_reducible apply fresh_keeps | with_reducible apply foldl_keeps
    | with_reducible apply ite_keeps | intro _ | split | contradiction | dsimp only

theorem execHifKick_keeps (_v : U32) (s : State) (t : State) (e : execHifKick _v s = .next t) : Keeps s t := by
  have h : Keeps s s := Keeps.refl s
  unfold execHifKick at e
  try extract_lets at e
  first | refine next_keeps ?_ e | refine need_keeps ?_ e
  all_goals repeat' first
    | with_reducible assumption | with_reducible apply fromSetup_keeps | with_reducible apply fresh_keeps | with_reducible apply kickNow_keeps
    | with_reducible apply foldl_keeps | with_reducible apply ite_keeps | intro _ | split | contradiction | dsimp only

theorem execDoorbellPoll_keeps (s : State) (t : State) (e : execDoorbellPoll s = .next t) : Keeps s t := by
  have h : Keeps s s := Keeps.refl s
  unfold execDoorbellPoll at e
  try extract_lets at e
  first | refine next_keeps ?_ e | refine need_keeps ?_ e
  all_goals repeat' first
    | with_reducible assumption | with_reducible apply dbRead_keeps | with_reducible apply fresh_keeps | with_reducible apply foldl_keeps
    | with_reducible apply ite_keeps | intro _ | split | contradiction | dsimp only

theorem execDoorbellCompletion_keeps (rsp : DoorbellRsp) (s : State) (t : State) (e : execDoorbellCompletion rsp s = .next t) : Keeps s t := by
  have h : Keeps s s := Keeps.refl s
  unfold execDoorbellCompletion at e
  try extract_lets at e
  first | refine next_keeps ?_ e | refine need_keeps ?_ e
  all_goals repeat' first
    | with_reducible assumption | with_reducible apply doorbells_keeps | with_reducible apply fresh_keeps | with_reducible apply foldl_keeps
    | with_reducible apply ite_keeps | intro _ | split | contradiction | dsimp only

theorem execDescriptorArrival_keeps (ring : Nat) (data : Image) (s : State) (t : State) (e : execDescriptorArrival ring data s = .next t) : Keeps s t := by
  have h : Keeps s s := Keeps.refl s
  unfold execDescriptorArrival at e
  try extract_lets at e
  first | refine next_keeps ?_ e | refine need_keeps ?_ e
  all_goals repeat' first
    | with_reducible assumption | with_reducible apply arrive_keeps | with_reducible apply fresh_keeps | with_reducible apply foldl_keeps
    | with_reducible apply ite_keeps | intro _ | split | contradiction | dsimp only

theorem execPagesEnSet_keeps (s : State) (t : State) (e : execPagesEnSet s = .next t) : Keeps s t := by
  have h : Keeps s s := Keeps.refl s
  unfold execPagesEnSet at e
  try extract_lets at e
  first | refine next_keeps ?_ e | refine need_keeps ?_ e
  all_goals repeat' first
    | with_reducible assumption | with_reducible apply fromSetup_keeps | with_reducible apply fresh_keeps | with_reducible apply pagesEnable_keeps
    | with_reducible apply foldl_keeps | with_reducible apply ite_keeps | intro _ | split | contradiction | dsimp only

theorem execPagesEnClear_keeps (s : State) (t : State) (e : execPagesEnClear s = .next t) : Keeps s t := by
  have h : Keeps s s := Keeps.refl s
  unfold execPagesEnClear at e
  try extract_lets at e
  first | refine next_keeps ?_ e | refine need_keeps ?_ e
  all_goals repeat' first
    | with_reducible assumption | with_reducible apply fromSetup_keeps | with_reducible apply fresh_keeps | with_reducible apply pagesDisable_keeps
    | with_reducible apply foldl_keeps | with_reducible apply ite_keeps | intro _ | split | contradiction | dsimp only

theorem execRingEnable_keeps (ring : Nat) (ctl : U32) (s : State) (t : State) (e : execRingEnable ring ctl s = .next t) : Keeps s t := by
  have h : Keeps s s := Keeps.refl s
  unfold execRingEnable at e
  try extract_lets at e
  first | refine next_keeps ?_ e | refine need_keeps ?_ e
  all_goals repeat' first
    | with_reducible assumption | with_reducible apply fromSetup_keeps | with_reducible apply fresh_keeps | with_reducible apply ringCtl_keeps
    | with_reducible apply foldl_keeps | with_reducible apply ite_keeps | intro _ | split | contradiction | dsimp only

theorem execRingDisable_keeps (ring : Nat) (ctl : U32) (s : State) (t : State) (e : execRingDisable ring ctl s = .next t) : Keeps s t := by
  have h : Keeps s s := Keeps.refl s
  unfold execRingDisable at e
  try extract_lets at e
  first | refine next_keeps ?_ e | refine need_keeps ?_ e
  all_goals repeat' first
    | with_reducible assumption | with_reducible apply fromSetup_keeps | with_reducible apply fresh_keeps | with_reducible apply ringCtl_keeps
    | with_reducible apply foldl_keeps | with_reducible apply ite_keeps | intro _ | split | contradiction | dsimp only

theorem execStatusPageUpdate_keeps (s : State) (t : State) (e : execStatusPageUpdate s = .next t) : Keeps s t := by
  have h : Keeps s s := Keeps.refl s
  unfold execStatusPageUpdate at e
  try extract_lets at e
  first | refine next_keeps ?_ e | refine need_keeps ?_ e
  all_goals repeat' first
    | with_reducible assumption | with_reducible apply pageTick_keeps | with_reducible apply fresh_keeps | with_reducible apply foldl_keeps
    | with_reducible apply ite_keeps | intro _ | split | contradiction | dsimp only

theorem execRingModerationTimeout_keeps (ring : Nat) (s : State) (t : State) (e : execRingModerationTimeout ring s = .next t) : Keeps s t := by
  have h : Keeps s s := Keeps.refl s
  unfold execRingModerationTimeout at e
  try extract_lets at e
  first | refine next_keeps ?_ e | refine need_keeps ?_ e
  all_goals repeat' first
    | with_reducible assumption | with_reducible apply fresh_keeps | with_reducible apply sendVector_keeps | with_reducible apply updHif_keeps
    | with_reducible apply foldl_keeps | with_reducible apply ite_keeps | intro _ | split | contradiction | dsimp only

theorem execMsixVectorUnmask_keeps (vec : Nat) (s : State) (t : State) (e : execMsixVectorUnmask vec s = .next t) : Keeps s t := by
  have h : Keeps s s := Keeps.refl s
  unfold execMsixVectorUnmask at e
  try extract_lets at e
  first | refine next_keeps ?_ e | refine need_keeps ?_ e
  all_goals repeat' first
    | with_reducible assumption | with_reducible apply fromSetup_keeps | with_reducible apply fresh_keeps | with_reducible apply unmask_keeps
    | with_reducible apply foldl_keeps | with_reducible apply ite_keeps | intro _ | split | contradiction | dsimp only

theorem execFlr_keeps (s : State) (t : State) (e : execFlr s = .next t) : Keeps s t := by
  have h : Keeps s s := Keeps.refl s
  unfold execFlr at e
  try extract_lets at e
  first | refine next_keeps ?_ e | refine need_keeps ?_ e
  all_goals repeat' first
    | with_reducible assumption | with_reducible apply bump_keeps | with_reducible apply hifReset_keeps | with_reducible apply fresh_keeps
    | with_reducible apply foldl_keeps | with_reducible apply ite_keeps | intro _ | split | contradiction | dsimp only

theorem execPerstNAssert_keeps (s : State) (t : State) (e : execPerstNAssert s = .next t) : Keeps s t := by
  have h : Keeps s s := Keeps.refl s
  unfold execPerstNAssert at e
  try extract_lets at e
  first | refine next_keeps ?_ e | refine need_keeps ?_ e
  all_goals repeat' first
    | with_reducible assumption | with_reducible apply linkLost_keeps | with_reducible apply fresh_keeps | with_reducible apply foldl_keeps
    | with_reducible apply ite_keeps | intro _ | split | contradiction | dsimp only

theorem execLinkDown_keeps (s : State) (t : State) (e : execLinkDown s = .next t) : Keeps s t := by
  have h : Keeps s s := Keeps.refl s
  unfold execLinkDown at e
  try extract_lets at e
  first | refine next_keeps ?_ e | refine need_keeps ?_ e
  all_goals repeat' first
    | with_reducible assumption | with_reducible apply linkLost_keeps | with_reducible apply fresh_keeps | with_reducible apply foldl_keeps
    | with_reducible apply ite_keeps | intro _ | split | contradiction | dsimp only

theorem execD3hotEntry_keeps (s : State) (t : State) (e : execD3hotEntry s = .next t) : Keeps s t := by
  have h : Keeps s s := Keeps.refl s
  unfold execD3hotEntry at e
  try extract_lets at e
  first | refine next_keeps ?_ e | refine need_keeps ?_ e
  all_goals repeat' first
    | with_reducible assumption | with_reducible apply fresh_keeps | with_reducible apply updHif_keeps | with_reducible apply linkLost_keeps
    | with_reducible apply foldl_keeps | with_reducible apply ite_keeps | intro _ | split | contradiction | dsimp only

theorem execLinkUp_keeps (speed : Nat) (width : Nat) (s : State) (t : State) (e : execLinkUp speed width s = .next t) : Keeps s t := by
  have h : Keeps s s := Keeps.refl s
  unfold execLinkUp at e
  try extract_lets at e
  first | refine next_keeps ?_ e | refine need_keeps ?_ e
  all_goals repeat' first
    | with_reducible assumption | with_reducible apply fresh_keeps | with_reducible apply linkTrain_keeps | with_reducible apply foldl_keeps
    | with_reducible apply ite_keeps | intro _ | split | contradiction | dsimp only

theorem execLegEvtW0Read_keeps (s : State) (t : State) (e : execLegEvtW0Read s = .next t) : Keeps s t := by
  have h : Keeps s s := Keeps.refl s
  unfold execLegEvtW0Read at e
  try extract_lets at e
  first | refine next_keeps ?_ e | refine need_keeps ?_ e
  all_goals repeat' first
    | with_reducible assumption | with_reducible apply legW0Read_keeps | with_reducible apply fresh_keeps | with_reducible apply foldl_keeps
    | with_reducible apply ite_keeps | intro _ | split | contradiction | dsimp only

theorem execLegEvtW3Read_keeps (s : State) (t : State) (e : execLegEvtW3Read s = .next t) : Keeps s t := by
  have h : Keeps s s := Keeps.refl s
  unfold execLegEvtW3Read at e
  try extract_lets at e
  first | refine next_keeps ?_ e | refine need_keeps ?_ e
  all_goals repeat' first
    | with_reducible assumption | with_reducible apply legW3Read_keeps | with_reducible apply fresh_keeps | with_reducible apply foldl_keeps
    | with_reducible apply ite_keeps | intro _ | split | contradiction | dsimp only

theorem execLegFlush_keeps (s : State) (t : State) (e : execLegFlush s = .next t) : Keeps s t := by
  have h : Keeps s s := Keeps.refl s
  unfold execLegFlush at e
  try extract_lets at e
  first | refine next_keeps ?_ e | refine need_keeps ?_ e
  all_goals repeat' first
    | with_reducible assumption | with_reducible apply fromSetup_keeps | with_reducible apply fresh_keeps | with_reducible apply legFlush_keeps
    | with_reducible apply foldl_keeps | with_reducible apply ite_keeps | intro _ | split | contradiction | dsimp only

theorem execSpawnCtl_keeps (img : Image) (s : State) (t : State) (e : execSpawnCtl img s = .next t) : Keeps s t := by
  have h : Keeps s s := Keeps.refl s
  unfold execSpawnCtl at e
  try extract_lets at e
  first | refine next_keeps ?_ e | refine need_keeps ?_ e
  all_goals repeat' first
    | with_reducible assumption | with_reducible apply dirCmd_keeps | with_reducible apply fresh_keeps | with_reducible apply spawnCtl_keeps
    | with_reducible apply foldl_keeps | with_reducible apply ite_keeps | intro _ | split | contradiction | dsimp only

theorem execSpawnTrigger_keeps (s : State) (t : State) (e : execSpawnTrigger s = .next t) : Keeps s t := by
  have h : Keeps s s := Keeps.refl s
  unfold execSpawnTrigger at e
  try extract_lets at e
  first | refine next_keeps ?_ e | refine need_keeps ?_ e
  all_goals repeat' first
    | with_reducible assumption | with_reducible apply dirCmd_keeps | with_reducible apply fresh_keeps | with_reducible apply spawnTrigger_keeps
    | with_reducible apply foldl_keeps | with_reducible apply ite_keeps | intro _ | split | contradiction | dsimp only

theorem execSnapshotMarkOffer_keeps (s : State) (t : State) (e : execSnapshotMarkOffer s = .next t) : Keeps s t := by
  have h : Keeps s s := Keeps.refl s
  unfold execSnapshotMarkOffer at e
  try extract_lets at e
  first | refine next_keeps ?_ e | refine need_keeps ?_ e
  all_goals repeat' first
    | with_reducible assumption | with_reducible apply markOffer_keeps | with_reducible apply fresh_keeps | with_reducible apply foldl_keeps
    | with_reducible apply ite_keeps | intro _ | split | contradiction | dsimp only

theorem execSnapshotCopyComplete_keeps (s : State) (t : State) (e : execSnapshotCopyComplete s = .next t) : Keeps s t := by
  have h : Keeps s s := Keeps.refl s
  unfold execSnapshotCopyComplete at e
  try extract_lets at e
  first | refine next_keeps ?_ e | refine need_keeps ?_ e
  all_goals repeat' first
    | with_reducible assumption | with_reducible apply copyComplete_keeps | with_reducible apply fresh_keeps | with_reducible apply foldl_keeps
    | with_reducible apply ite_keeps | intro _ | split | contradiction | dsimp only

theorem execSnapTimeout_keeps (s : State) (t : State) (e : execSnapTimeout s = .next t) : Keeps s t := by
  have h : Keeps s s := Keeps.refl s
  unfold execSnapTimeout at e
  try extract_lets at e
  first | refine next_keeps ?_ e | refine need_keeps ?_ e
  all_goals repeat' first
    | with_reducible assumption | with_reducible apply snapExpire_keeps | with_reducible apply fresh_keeps | with_reducible apply foldl_keeps
    | with_reducible apply ite_keeps | intro _ | split | contradiction | dsimp only

theorem execSpawnOutBufferWrite_keeps (s : State) (addr : (Option Nat)) (t : State) (e : execSpawnOutBufferWrite s addr = .next t) : Keeps s t := by
  have h : Keeps s s := Keeps.refl s
  unfold execSpawnOutBufferWrite at e
  try extract_lets at e
  first | refine next_keeps ?_ e | refine need_keeps ?_ e
  all_goals repeat' first
    | with_reducible assumption | with_reducible apply spawnOut_keeps | with_reducible apply fresh_keeps | with_reducible apply foldl_keeps
    | with_reducible apply ite_keeps | intro _ | split | contradiction | dsimp only

theorem execCheckpoint_keeps (s : State) (t : State) (e : execCheckpoint s = .next t) : Keeps s t := by
  have h : Keeps s s := Keeps.refl s
  unfold execCheckpoint at e
  try extract_lets at e
  first | refine next_keeps ?_ e | refine need_keeps ?_ e
  all_goals repeat' first
    | with_reducible assumption | with_reducible apply takeCkpt_keeps | with_reducible apply fresh_keeps | with_reducible apply foldl_keeps
    | with_reducible apply ite_keeps | intro _ | split | contradiction | dsimp only

theorem execWindowFreeze_keeps (s : State) (t : State) (e : execWindowFreeze s = .next t) : Keeps s t := by
  have h : Keeps s s := Keeps.refl s
  unfold execWindowFreeze at e
  try extract_lets at e
  first | refine next_keeps ?_ e | refine need_keeps ?_ e
  all_goals repeat' first
    | with_reducible assumption | with_reducible apply freeze_keeps | with_reducible apply fresh_keeps | with_reducible apply foldl_keeps
    | with_reducible apply ite_keeps | intro _ | split | contradiction | dsimp only

theorem execScrubSlot_keeps (bank : Nat) (s : State) (t : State) (e : execScrubSlot bank s = .next t) : Keeps s t := by
  have h : Keeps s s := Keeps.refl s
  unfold execScrubSlot at e
  try extract_lets at e
  first | refine next_keeps ?_ e | refine need_keeps ?_ e
  all_goals repeat' first
    | with_reducible assumption | with_reducible apply scrubSlot_keeps | with_reducible apply fresh_keeps | with_reducible apply foldl_keeps
    | with_reducible apply ite_keeps | intro _ | split | contradiction | dsimp only

theorem execTarnCorrectedError_keeps (off : Off) (s : State) (t : State) (e : execTarnCorrectedError off s = .next t) : Keeps s t := by
  have h : Keeps s s := Keeps.refl s
  unfold execTarnCorrectedError at e
  try extract_lets at e
  first | refine next_keeps ?_ e | refine need_keeps ?_ e
  all_goals repeat' first
    | with_reducible assumption | with_reducible apply correctedError_keeps | with_reducible apply fresh_keeps | with_reducible apply foldl_keeps
    | with_reducible apply ite_keeps | intro _ | split | contradiction | dsimp only

theorem execTarnUncorrectable_keeps (off : Off) (s : State) (t : State) (e : execTarnUncorrectable off s = .next t) : Keeps s t := by
  have h : Keeps s s := Keeps.refl s
  unfold execTarnUncorrectable at e
  try extract_lets at e
  first | refine next_keeps ?_ e | refine need_keeps ?_ e
  all_goals repeat' first
    | with_reducible assumption | with_reducible apply uncorrectable_keeps | with_reducible apply fresh_keeps | with_reducible apply foldl_keeps
    | with_reducible apply ite_keeps | intro _ | split | contradiction | dsimp only

theorem execTcmScrub_keeps (corrected : Nat) (s : State) (t : State) (e : execTcmScrub corrected s = .next t) : Keeps s t := by
  have h : Keeps s s := Keeps.refl s
  unfold execTcmScrub at e
  try extract_lets at e
  first | refine next_keeps ?_ e | refine need_keeps ?_ e
  all_goals repeat' first
    | with_reducible assumption | with_reducible apply tcmScrub_keeps | with_reducible apply fresh_keeps | with_reducible apply foldl_keeps
    | with_reducible apply ite_keeps | intro _ | split | contradiction | dsimp only

theorem execTcmUncorrectable_keeps (s : State) (t : State) (e : execTcmUncorrectable s = .next t) : Keeps s t := by
  have h : Keeps s s := Keeps.refl s
  unfold execTcmUncorrectable at e
  try extract_lets at e
  first | refine next_keeps ?_ e | refine need_keeps ?_ e
  all_goals repeat' first
    | with_reducible assumption | with_reducible apply fresh_keeps | with_reducible apply haltNode_keeps | with_reducible apply foldl_keeps
    | with_reducible apply ite_keeps | intro _ | split | contradiction | dsimp only

theorem execSettingsJournalWrite_keeps (sectorFail : Bool) (s : State) (t : State) (e : execSettingsJournalWrite sectorFail s = .next t) : Keeps s t := by
  have h : Keeps s s := Keeps.refl s
  unfold execSettingsJournalWrite at e
  try extract_lets at e
  first | refine next_keeps ?_ e | refine need_keeps ?_ e
  all_goals repeat' first
    | with_reducible assumption | with_reducible apply journalWrite_keeps | with_reducible apply fresh_keeps | with_reducible apply foldl_keeps
    | with_reducible apply ite_keeps | intro _ | split | contradiction | dsimp only

theorem execBaseGenerationStart_keeps (s : State) (t : State) (e : execBaseGenerationStart s = .next t) : Keeps s t := by
  have h : Keeps s s := Keeps.refl s
  unfold execBaseGenerationStart at e
  try extract_lets at e
  first | refine next_keeps ?_ e | refine need_keeps ?_ e
  all_goals repeat' first
    | with_reducible assumption | with_reducible apply fresh_keeps | with_reducible apply startBase_keeps | with_reducible apply foldl_keeps
    | with_reducible apply ite_keeps | intro _ | split | contradiction | dsimp only

theorem execBaseGenerationDurable_keeps (s : State) (t : State) (e : execBaseGenerationDurable s = .next t) : Keeps s t := by
  have h : Keeps s s := Keeps.refl s
  unfold execBaseGenerationDurable at e
  try extract_lets at e
  first | refine next_keeps ?_ e | refine need_keeps ?_ e
  all_goals repeat' first
    | with_reducible assumption | with_reducible apply baseDurable_keeps | with_reducible apply fresh_keeps | with_reducible apply foldl_keeps
    | with_reducible apply ite_keeps | intro _ | split | contradiction | dsimp only

theorem execDigestRewrite_keeps (s : State) (t : State) (e : execDigestRewrite s = .next t) : Keeps s t := by
  have h : Keeps s s := Keeps.refl s
  unfold execDigestRewrite at e
  try extract_lets at e
  first | refine next_keeps ?_ e | refine need_keeps ?_ e
  all_goals repeat' first
    | with_reducible assumption | with_reducible apply digestRewrite_keeps | with_reducible apply fresh_keeps | with_reducible apply foldl_keeps
    | with_reducible apply ite_keeps | intro _ | split | contradiction | dsimp only

theorem execTelemetry_keeps (t1 : TelemEnv) (dt : Nat) (s : State) (t : State) (e : execTelemetry t1 dt s = .next t) : Keeps s t := by
  have h : Keeps s s := Keeps.refl s
  unfold execTelemetry at e
  try extract_lets at e
  first | refine next_keeps ?_ e | refine need_keeps ?_ e
  all_goals repeat' first
    | with_reducible assumption | with_reducible apply telemetry_keeps | with_reducible apply pass_keeps | with_reducible apply fresh_keeps
    | with_reducible apply foldl_keeps | with_reducible apply ite_keeps | intro _ | split | contradiction | dsimp only

theorem execLegPtWrite_keeps (s : State) (t : State) (e : execLegPtWrite s = .next t) : Keeps s t := by
  have h : Keeps s s := Keeps.refl s
  unfold execLegPtWrite at e
  try extract_lets at e
  first | refine next_keeps ?_ e | refine need_keeps ?_ e
  all_goals repeat' first
    | with_reducible assumption | with_reducible apply legPtWrite_keeps | with_reducible apply fresh_keeps | with_reducible apply foldl_keeps
    | with_reducible apply ite_keeps | intro _ | split | contradiction | dsimp only

theorem execLegPtRead_keeps (s : State) (t : State) (e : execLegPtRead s = .next t) : Keeps s t := by
  have h : Keeps s s := Keeps.refl s
  unfold execLegPtRead at e
  try extract_lets at e
  first | refine next_keeps ?_ e | refine need_keeps ?_ e
  all_goals repeat' first
    | with_reducible assumption | with_reducible apply legPtRead_keeps | with_reducible apply fresh_keeps | with_reducible apply foldl_keeps
    | with_reducible apply ite_keeps | intro _ | split | contradiction | dsimp only

theorem execEngineFailure_keeps (e1 : EngineId) (cause : Nat) (s : State) (t : State) (e : execEngineFailure e1 cause s = .next t) : Keeps s t := by
  have h : Keeps s s := Keeps.refl s
  unfold execEngineFailure at e
  try extract_lets at e
  first | refine next_keeps ?_ e | refine need_keeps ?_ e
  all_goals repeat' first
    | with_reducible assumption | with_reducible apply fresh_keeps | with_reducible apply failEngine_keeps | with_reducible apply foldl_keeps
    | with_reducible apply ite_keeps | intro _ | split | contradiction | dsimp only

theorem execTickStall_keeps (e1 : EngineId) (s : State) (t : State) (e : execTickStall e1 s = .next t) : Keeps s t := by
  have h : Keeps s s := Keeps.refl s
  unfold execTickStall at e
  try extract_lets at e
  first | refine next_keeps ?_ e | refine need_keeps ?_ e
  all_goals repeat' first
    | with_reducible assumption | with_reducible apply fresh_keeps | with_reducible apply failEngine_keeps | with_reducible apply foldl_keeps
    | with_reducible apply ite_keeps | intro _ | split | contradiction | dsimp only

theorem execHoldGrant_keeps (s : State) (t : State) (e : execHoldGrant s = .next t) : Keeps s t := by
  have h : Keeps s s := Keeps.refl s
  unfold execHoldGrant at e
  try extract_lets at e
  first | refine next_keeps ?_ e | refine need_keeps ?_ e
  all_goals repeat' first
    | with_reducible assumption | with_reducible apply takeOver_keeps | with_reducible apply fresh_keeps | with_reducible apply foldl_keeps
    | with_reducible apply ite_keeps | intro _ | split | contradiction | dsimp only

theorem execTakeBack_keeps (s : State) (t : State) (e : execTakeBack s = .next t) : Keeps s t := by
  have h : Keeps s s := Keeps.refl s
  unfold execTakeBack at e
  try extract_lets at e
  first | refine next_keeps ?_ e | refine need_keeps ?_ e
  all_goals repeat' first
    | with_reducible assumption | with_reducible apply takeBack_keeps | with_reducible apply fresh_keeps | with_reducible apply foldl_keeps
    | with_reducible apply ite_keeps | intro _ | split | contradiction | dsimp only

theorem execEngineReturnTest_keeps (e1 : EngineId) (pass : Bool) (s : State) (t : State) (e : execEngineReturnTest e1 pass s = .next t) : Keeps s t := by
  have h : Keeps s s := Keeps.refl s
  unfold execEngineReturnTest at e
  try extract_lets at e
  first | refine next_keeps ?_ e | refine need_keeps ?_ e
  all_goals repeat' first
    | with_reducible assumption | with_reducible apply returnTest_keeps | with_reducible apply fresh_keeps | with_reducible apply foldl_keeps
    | with_reducible apply ite_keeps | intro _ | split | contradiction | dsimp only

theorem execStateCopyComplete_keeps (verified : Bool) (s : State) (t : State) (e : execStateCopyComplete verified s = .next t) : Keeps s t := by
  have h : Keeps s s := Keeps.refl s
  unfold execStateCopyComplete at e
  try extract_lets at e
  first | refine next_keeps ?_ e | refine need_keeps ?_ e
  all_goals repeat' first
    | with_reducible assumption | with_reducible apply copyDone_keeps | with_reducible apply fresh_keeps | with_reducible apply foldl_keeps
    | with_reducible apply ite_keeps | intro _ | split | contradiction | dsimp only

theorem execReturnHoldoffExpiry_keeps (e1 : EngineId) (s : State) (t : State) (e : execReturnHoldoffExpiry e1 s = .next t) : Keeps s t := by
  have h : Keeps s s := Keeps.refl s
  unfold execReturnHoldoffExpiry at e
  try extract_lets at e
  first | refine next_keeps ?_ e | refine need_keeps ?_ e
  all_goals repeat' first
    | with_reducible assumption | with_reducible apply holdoffOver_keeps | with_reducible apply fresh_keeps | with_reducible apply foldl_keeps
    | with_reducible apply ite_keeps | intro _ | split | contradiction | dsimp only

theorem execAuditOffer_keeps (s : State) (t : State) (e : execAuditOffer s = .next t) : Keeps s t := by
  have h : Keeps s s := Keeps.refl s
  unfold execAuditOffer at e
  try extract_lets at e
  first | refine next_keeps ?_ e | refine need_keeps ?_ e
  all_goals repeat' first
    | with_reducible assumption | with_reducible apply auditOffer_keeps | with_reducible apply fresh_keeps | with_reducible apply foldl_keeps
    | with_reducible apply ite_keeps | intro _ | split | contradiction | dsimp only

theorem execAuditCompare_keeps (s : State) (t : State) (e : execAuditCompare s = .next t) : Keeps s t := by
  have h : Keeps s s := Keeps.refl s
  unfold execAuditCompare at e
  try extract_lets at e
  first | refine next_keeps ?_ e | refine need_keeps ?_ e
  all_goals repeat' first
    | with_reducible assumption | with_reducible apply auditCompare_keeps | with_reducible apply fresh_keeps | with_reducible apply foldl_keeps
    | with_reducible apply ite_keeps | intro _ | split | contradiction | dsimp only

theorem execDivergeResolution_keeps (s : State) (t : State) (e : execDivergeResolution s = .next t) : Keeps s t := by
  have h : Keeps s s := Keeps.refl s
  unfold execDivergeResolution at e
  try extract_lets at e
  first | refine next_keeps ?_ e | refine need_keeps ?_ e
  all_goals repeat' first
    | with_reducible assumption | with_reducible apply resolve_keeps | with_reducible apply fresh_keeps | with_reducible apply foldl_keeps
    | with_reducible apply ite_keeps | intro _ | split | contradiction | dsimp only

theorem execAeInject_keeps (e1 : EngineId) (v : U32) (s : State) (t : State) (e : execAeInject e1 v s = .next t) : Keeps s t := by
  have h : Keeps s s := Keeps.refl s
  unfold execAeInject at e
  try extract_lets at e
  first | refine next_keeps ?_ e | refine need_keeps ?_ e
  all_goals repeat' first
    | with_reducible assumption | with_reducible apply inject_keeps | with_reducible apply fresh_keeps | with_reducible apply foldl_keeps
    | with_reducible apply ite_keeps | intro _ | split | contradiction | dsimp only

theorem execEngineCtl_keeps (s : State) (t : State) (e : execEngineCtl s = .next t) : Keeps s t := by
  have h : Keeps s s := Keeps.refl s
  unfold execEngineCtl at e
  try extract_lets at e
  first | refine next_keeps ?_ e | refine need_keeps ?_ e
  all_goals repeat' first
    | with_reducible assumption | with_reducible apply dirCmd_keeps | with_reducible apply fresh_keeps | with_reducible apply engineCtl_keeps
    | with_reducible apply foldl_keeps | with_reducible apply ite_keeps | intro _ | split | contradiction | dsimp only

theorem execIntlkInChange_keeps (high : Bool) (s : State) (t : State) (e : execIntlkInChange high s = .next t) : Keeps s t := by
  have h : Keeps s s := Keeps.refl s
  unfold execIntlkInChange at e
  try extract_lets at e
  first | refine next_keeps ?_ e | refine need_keeps ?_ e
  all_goals repeat' first
    | with_reducible assumption | with_reducible apply intlkIn_keeps | with_reducible apply fresh_keeps | with_reducible apply foldl_keeps
    | with_reducible apply ite_keeps | intro _ | split | contradiction | dsimp only

theorem execPairClaim_keeps (s : State) (t : State) (e : execPairClaim s = .next t) : Keeps s t := by
  have h : Keeps s s := Keeps.refl s
  unfold execPairClaim at e
  try extract_lets at e
  first | refine next_keeps ?_ e | refine need_keeps ?_ e
  all_goals repeat' first
    | with_reducible assumption | with_reducible apply pairClaim_keeps | with_reducible apply fresh_keeps | with_reducible apply foldl_keeps
    | with_reducible apply ite_keeps | intro _ | split | contradiction | dsimp only

theorem execPairRelease_keeps (s : State) (t : State) (e : execPairRelease s = .next t) : Keeps s t := by
  have h : Keeps s s := Keeps.refl s
  unfold execPairRelease at e
  try extract_lets at e
  first | refine next_keeps ?_ e | refine need_keeps ?_ e
  all_goals repeat' first
    | with_reducible assumption | with_reducible apply pairRelease_keeps | with_reducible apply fresh_keeps | with_reducible apply foldl_keeps
    | with_reducible apply ite_keeps | intro _ | split | contradiction | dsimp only

theorem execPairSenseChange_keeps (high : Bool) (s : State) (t : State) (e : execPairSenseChange high s = .next t) : Keeps s t := by
  have h : Keeps s s := Keeps.refl s
  unfold execPairSenseChange at e
  try extract_lets at e
  first | refine next_keeps ?_ e | refine need_keeps ?_ e
  all_goals repeat' first
    | with_reducible assumption | with_reducible apply pairSense_keeps | with_reducible apply fresh_keeps | with_reducible apply foldl_keeps
    | with_reducible apply ite_keeps | intro _ | split | contradiction | dsimp only

theorem execTimeAdj_keeps (dt : Nat) (s : State) (t : State) (e : execTimeAdj dt s = .next t) : Keeps s t := by
  have h : Keeps s s := Keeps.refl s
  unfold execTimeAdj at e
  try extract_lets at e
  first | refine next_keeps ?_ e | refine need_keeps ?_ e
  all_goals repeat' first
    | with_reducible assumption | with_reducible apply pass_keeps | with_reducible apply fresh_keeps | with_reducible apply tmoEdges_keeps
    | with_reducible apply dirCmd_keeps | with_reducible apply timeAdj_keeps | with_reducible apply foldl_keeps | with_reducible apply ite_keeps
    | intro _ | split | contradiction | dsimp only

theorem execTimeSwitch_keeps (s : State) (t : State) (e : execTimeSwitch s = .next t) : Keeps s t := by
  have h : Keeps s s := Keeps.refl s
  unfold execTimeSwitch at e
  try extract_lets at e
  first | refine next_keeps ?_ e | refine need_keeps ?_ e
  all_goals repeat' first
    | with_reducible assumption | with_reducible apply fresh_keeps | with_reducible apply pass_keeps | with_reducible apply foldl_keeps
    | with_reducible apply ite_keeps | intro _ | split | contradiction | dsimp only

theorem execPtpSyncReceived_keeps (port : Nat) (m : PtpSync) (dt : Nat) (s : State) (t : State) (e : execPtpSyncReceived port m dt s = .next t) : Keeps s t := by
  have h : Keeps s s := Keeps.refl s
  unfold execPtpSyncReceived at e
  try extract_lets at e
  first | refine next_keeps ?_ e | refine need_keeps ?_ e
  all_goals repeat' first
    | with_reducible assumption | with_reducible apply pass_keeps | with_reducible apply fresh_keeps | with_reducible apply tmoEdges_keeps
    | with_reducible apply syncReceived_keeps | with_reducible apply foldl_keeps | with_reducible apply ite_keeps | intro _ | split | contradiction
    | dsimp only

theorem execPtpDelayRespReceived_keeps (port : Nat) (m : PtpDelayResp) (s : State) (t : State) (e : execPtpDelayRespReceived port m s = .next t) : Keeps s t := by
  have h : Keeps s s := Keeps.refl s
  unfold execPtpDelayRespReceived at e
  try extract_lets at e
  first | refine next_keeps ?_ e | refine need_keeps ?_ e
  all_goals repeat' first
    | with_reducible assumption | with_reducible apply delayResp_keeps | with_reducible apply fresh_keeps | with_reducible apply foldl_keeps
    | with_reducible apply ite_keeps | intro _ | split | contradiction | dsimp only

theorem execPtpAnnounceReceived_keeps (port : Nat) (m : PtpAnnounce) (s : State) (t : State) (e : execPtpAnnounceReceived port m s = .next t) : Keeps s t := by
  have h : Keeps s s := Keeps.refl s
  unfold execPtpAnnounceReceived at e
  try extract_lets at e
  first | refine next_keeps ?_ e | refine need_keeps ?_ e
  all_goals repeat' first
    | with_reducible assumption | with_reducible apply announce_keeps | with_reducible apply pass_keeps | with_reducible apply fresh_keeps
    | with_reducible apply foldl_keeps | with_reducible apply ite_keeps | intro _ | split | contradiction | dsimp only

theorem execDelayReqSend_keeps (dt : Nat) (s : State) (t : State) (e : execDelayReqSend dt s = .next t) : Keeps s t := by
  have h : Keeps s s := Keeps.refl s
  unfold execDelayReqSend at e
  try extract_lets at e
  first | refine next_keeps ?_ e | refine need_keeps ?_ e
  all_goals repeat' first
    | with_reducible assumption | with_reducible apply sendDelayReq_keeps | with_reducible apply pass_keeps | with_reducible apply fresh_keeps
    | with_reducible apply foldl_keeps | with_reducible apply ite_keeps | intro _ | split | contradiction | dsimp only

theorem execMasterLoss_keeps (s : State) (t : State) (e : execMasterLoss s = .next t) : Keeps s t := by
  have h : Keeps s s := Keeps.refl s
  unfold execMasterLoss at e
  try extract_lets at e
  first | refine next_keeps ?_ e | refine need_keeps ?_ e
  all_goals repeat' first
    | with_reducible assumption | with_reducible apply loseMaster_keeps | with_reducible apply fresh_keeps | with_reducible apply foldl_keeps
    | with_reducible apply ite_keeps | intro _ | split | contradiction | dsimp only

theorem execAcquireTimeout_keeps (s : State) (t : State) (e : execAcquireTimeout s = .next t) : Keeps s t := by
  have h : Keeps s s := Keeps.refl s
  unfold execAcquireTimeout at e
  try extract_lets at e
  first | refine next_keeps ?_ e | refine need_keeps ?_ e
  all_goals repeat' first
    | with_reducible assumption | with_reducible apply acquireAgain_keeps | with_reducible apply fresh_keeps | with_reducible apply foldl_keeps
    | with_reducible apply ite_keeps | intro _ | split | contradiction | dsimp only

theorem execHostTimeout_keeps (s : State) (t : State) (e : execHostTimeout s = .next t) : Keeps s t := by
  have h : Keeps s s := Keeps.refl s
  unfold execHostTimeout at e
  try extract_lets at e
  first | refine next_keeps ?_ e | refine need_keeps ?_ e
  all_goals repeat' first
    | with_reducible assumption | with_reducible apply fresh_keeps | with_reducible apply updWs_keeps | with_reducible apply foldl_keeps
    | with_reducible apply ite_keeps | intro _ | split | contradiction | dsimp only

theorem execEthFrameReceived_keeps (port : Nat) (fr : EthRx) (dt : Nat) (s : State) (t : State) (e : execEthFrameReceived port fr dt s = .next t) : Keeps s t := by
  have h : Keeps s s := Keeps.refl s
  unfold execEthFrameReceived at e
  try extract_lets at e
  first | refine next_keeps ?_ e | refine need_keeps ?_ e
  all_goals repeat' first
    | with_reducible assumption | with_reducible apply ethReceive_keeps | with_reducible apply pass_keeps | with_reducible apply fresh_keeps
    | with_reducible apply foldl_keeps | with_reducible apply ite_keeps | intro _ | split | contradiction | dsimp only

theorem execEthTxFrame_keeps (port : Nat) (f : EthTx) (s : State) (t : State) (e : execEthTxFrame port f s = .next t) : Keeps s t := by
  have h : Keeps s s := Keeps.refl s
  unfold execEthTxFrame at e
  try extract_lets at e
  first | refine next_keeps ?_ e | refine need_keeps ?_ e
  all_goals repeat' first
    | with_reducible assumption | with_reducible apply ethTransmit_keeps | with_reducible apply pass_keeps | with_reducible apply fresh_keeps
    | with_reducible apply foldl_keeps | with_reducible apply ite_keeps | intro _ | split | contradiction | dsimp only

theorem execEthTxTimestamp_keeps (port : Nat) (dt : Nat) (s : State) (t : State) (e : execEthTxTimestamp port dt s = .next t) : Keeps s t := by
  have h : Keeps s s := Keeps.refl s
  unfold execEthTxTimestamp at e
  try extract_lets at e
  first | refine next_keeps ?_ e | refine need_keeps ?_ e
  all_goals repeat' first
    | with_reducible assumption | with_reducible apply ethStamp_keeps | with_reducible apply pass_keeps | with_reducible apply fresh_keeps
    | with_reducible apply foldl_keeps | with_reducible apply ite_keeps | intro _ | split | contradiction | dsimp only

theorem execEthLinkChange_keeps (port : Nat) (up : Bool) (gig : Bool) (s : State) (t : State) (e : execEthLinkChange port up gig s = .next t) : Keeps s t := by
  have h : Keeps s s := Keeps.refl s
  unfold execEthLinkChange at e
  try extract_lets at e
  first | refine next_keeps ?_ e | refine need_keeps ?_ e
  all_goals repeat' first
    | with_reducible assumption | with_reducible apply fresh_keeps | with_reducible apply setRegBit_keeps | with_reducible apply bump_keeps
    | with_reducible apply foldl_keeps | with_reducible apply ite_keeps | intro _ | split | contradiction | dsimp only

theorem execPtpTxtsW0Read_keeps (port : Nat) (s : State) (t : State) (e : execPtpTxtsW0Read port s = .next t) : Keeps s t := by
  have h : Keeps s s := Keeps.refl s
  unfold execPtpTxtsW0Read at e
  try extract_lets at e
  first | refine next_keeps ?_ e | refine need_keeps ?_ e
  all_goals repeat' first
    | with_reducible assumption | with_reducible apply txtsW0Read_keeps | with_reducible apply fresh_keeps | with_reducible apply foldl_keeps
    | with_reducible apply ite_keeps | intro _ | split | contradiction | dsimp only

theorem execPtpTxtsTimeHiRead_keeps (port : Nat) (s : State) (t : State) (e : execPtpTxtsTimeHiRead port s = .next t) : Keeps s t := by
  have h : Keeps s s := Keeps.refl s
  unfold execPtpTxtsTimeHiRead at e
  try extract_lets at e
  first | refine next_keeps ?_ e | refine need_keeps ?_ e
  all_goals repeat' first
    | with_reducible assumption | with_reducible apply txtsHiRead_keeps | with_reducible apply fresh_keeps | with_reducible apply foldl_keeps
    | with_reducible apply ite_keeps | intro _ | split | contradiction | dsimp only

theorem execTmoPulseStart_keeps (k : Nat) (dt : Nat) (s : State) (t : State) (e : execTmoPulseStart k dt s = .next t) : Keeps s t := by
  have h : Keeps s s := Keeps.refl s
  unfold execTmoPulseStart at e
  try extract_lets at e
  first | refine next_keeps ?_ e | refine need_keeps ?_ e
  all_goals repeat' first
    | with_reducible assumption | with_reducible apply pass_keeps | with_reducible apply fresh_keeps | with_reducible apply tmoEdges_keeps
    | with_reducible apply tmoFire_keeps | with_reducible apply foldl_keeps | with_reducible apply ite_keeps | intro _ | split | contradiction
    | dsimp only

theorem execTmoPulseEnd_keeps (k : Nat) (dt : Nat) (s : State) (t : State) (e : execTmoPulseEnd k dt s = .next t) : Keeps s t := by
  have h : Keeps s s := Keeps.refl s
  unfold execTmoPulseEnd at e
  try extract_lets at e
  first | refine next_keeps ?_ e | refine need_keeps ?_ e
  all_goals repeat' first
    | with_reducible assumption | with_reducible apply pass_keeps | with_reducible apply fresh_keeps | with_reducible apply tmoEdges_keeps
    | with_reducible apply tmoEnd_keeps | with_reducible apply foldl_keeps | with_reducible apply ite_keeps | intro _ | split | contradiction
    | dsimp only

theorem execRtcSet_keeps (ticks : Nat) (s : State) (t : State) (e : execRtcSet ticks s = .next t) : Keeps s t := by
  have h : Keeps s s := Keeps.refl s
  unfold execRtcSet at e
  try extract_lets at e
  first | refine next_keeps ?_ e | refine need_keeps ?_ e
  all_goals repeat' first
    | with_reducible assumption | with_reducible apply setNow_keeps | with_reducible apply rtcElapse_keeps | with_reducible apply fresh_keeps
    | with_reducible apply foldl_keeps | with_reducible apply ite_keeps | intro _ | split | contradiction | dsimp only

theorem execRtcCommit_keeps (s : State) (t : State) (e : execRtcCommit s = .next t) : Keeps s t := by
  have h : Keeps s s := Keeps.refl s
  unfold execRtcCommit at e
  try extract_lets at e
  first | refine next_keeps ?_ e | refine need_keeps ?_ e
  all_goals repeat' first
    | with_reducible assumption | with_reducible apply rtcElapse_keeps | with_reducible apply fresh_keeps | with_reducible apply foldl_keeps
    | with_reducible apply ite_keeps | intro _ | split | contradiction | dsimp only

theorem execSwoClear_keeps (s : State) (t : State) (e : execSwoClear s = .next t) : Keeps s t := by
  have h : Keeps s s := Keeps.refl s
  unfold execSwoClear at e
  try extract_lets at e
  first | refine next_keeps ?_ e | refine need_keeps ?_ e
  all_goals repeat' first
    | with_reducible assumption | with_reducible apply clearSwo_keeps | with_reducible apply fresh_keeps | with_reducible apply foldl_keeps
    | with_reducible apply ite_keeps | intro _ | split | contradiction | dsimp only

theorem execRtcShift_keeps (v : U32) (ticks : Nat) (s : State) (t : State) (e : execRtcShift v ticks s = .next t) : Keeps s t := by
  have h : Keeps s s := Keeps.refl s
  unfold execRtcShift at e
  try extract_lets at e
  first | refine next_keeps ?_ e | refine need_keeps ?_ e
  all_goals repeat' first
    | with_reducible assumption | with_reducible apply shiftWrite_keeps | with_reducible apply rtcElapse_keeps | with_reducible apply fresh_keeps
    | with_reducible apply foldl_keeps | with_reducible apply ite_keeps | intro _ | split | contradiction | dsimp only

theorem execShiftDone_keeps (ticks : Nat) (s : State) (t : State) (e : execShiftDone ticks s = .next t) : Keeps s t := by
  have h : Keeps s s := Keeps.refl s
  unfold execShiftDone at e
  try extract_lets at e
  first | refine next_keeps ?_ e | refine need_keeps ?_ e
  all_goals repeat' first
    | with_reducible assumption | with_reducible apply rtcElapse_keeps | with_reducible apply fresh_keeps | with_reducible apply foldl_keeps
    | with_reducible apply ite_keeps | intro _ | split | contradiction | dsimp only

theorem execDstForward_keeps (s : State) (t : State) (e : execDstForward s = .next t) : Keeps s t := by
  have h : Keeps s s := Keeps.refl s
  unfold execDstForward at e
  try extract_lets at e
  first | refine next_keeps ?_ e | refine need_keeps ?_ e
  all_goals repeat' first
    | with_reducible assumption | with_reducible apply dstWrite_keeps | with_reducible apply fresh_keeps | with_reducible apply foldl_keeps
    | with_reducible apply ite_keeps | intro _ | split | contradiction | dsimp only

theorem execDstBack_keeps (s : State) (t : State) (e : execDstBack s = .next t) : Keeps s t := by
  have h : Keeps s s := Keeps.refl s
  unfold execDstBack at e
  try extract_lets at e
  first | refine next_keeps ?_ e | refine need_keeps ?_ e
  all_goals repeat' first
    | with_reducible assumption | with_reducible apply dstWrite_keeps | with_reducible apply fresh_keeps | with_reducible apply foldl_keeps
    | with_reducible apply ite_keeps | intro _ | split | contradiction | dsimp only

theorem execLocalTimeApply_keeps (ticks : Nat) (s : State) (t : State) (e : execLocalTimeApply ticks s = .next t) : Keeps s t := by
  have h : Keeps s s := Keeps.refl s
  unfold execLocalTimeApply at e
  try extract_lets at e
  first | refine next_keeps ?_ e | refine need_keeps ?_ e
  all_goals repeat' first
    | with_reducible assumption | with_reducible apply rtcElapse_keeps | with_reducible apply fresh_keeps | with_reducible apply foldl_keeps
    | with_reducible apply ite_keeps | intro _ | split | contradiction | dsimp only

theorem execAlarmArm_keeps (v : U32) (ticks : Nat) (s : State) (t : State) (e : execAlarmArm v ticks s = .next t) : Keeps s t := by
  have h : Keeps s s := Keeps.refl s
  unfold execAlarmArm at e
  try extract_lets at e
  first | refine next_keeps ?_ e | refine need_keeps ?_ e
  all_goals repeat' first
    | with_reducible assumption | with_reducible apply almCtl_keeps | with_reducible apply rtcElapse_keeps | with_reducible apply fresh_keeps
    | with_reducible apply foldl_keeps | with_reducible apply ite_keeps | intro _ | split | contradiction | dsimp only

theorem execAlarmDisarm_keeps (v : U32) (s : State) (t : State) (e : execAlarmDisarm v s = .next t) : Keeps s t := by
  have h : Keeps s s := Keeps.refl s
  unfold execAlarmDisarm at e
  try extract_lets at e
  first | refine next_keeps ?_ e | refine need_keeps ?_ e
  all_goals repeat' first
    | with_reducible assumption | with_reducible apply almCtl_keeps | with_reducible apply fresh_keeps | with_reducible apply foldl_keeps
    | with_reducible apply ite_keeps | intro _ | split | contradiction | dsimp only

theorem execRtcAlarmFire_keeps (ticks : Nat) (s : State) (t : State) (e : execRtcAlarmFire ticks s = .next t) : Keeps s t := by
  have h : Keeps s s := Keeps.refl s
  unfold execRtcAlarmFire at e
  try extract_lets at e
  first | refine next_keeps ?_ e | refine need_keeps ?_ e
  all_goals repeat' first
    | with_reducible assumption | with_reducible apply rtcElapse_keeps | with_reducible apply fresh_keeps | with_reducible apply foldl_keeps
    | with_reducible apply ite_keeps | intro _ | split | contradiction | dsimp only

theorem execWakeEnable_keeps (v : U32) (s : State) (t : State) (e : execWakeEnable v s = .next t) : Keeps s t := by
  have h : Keeps s s := Keeps.refl s
  unfold execWakeEnable at e
  try extract_lets at e
  first | refine next_keeps ?_ e | refine need_keeps ?_ e
  all_goals repeat' first
    | with_reducible assumption | with_reducible apply wakeCtl_keeps | with_reducible apply fresh_keeps | with_reducible apply foldl_keeps
    | with_reducible apply ite_keeps | intro _ | split | contradiction | dsimp only

theorem execRtcWake_keeps (ticks : Nat) (s : State) (t : State) (e : execRtcWake ticks s = .next t) : Keeps s t := by
  have h : Keeps s s := Keeps.refl s
  unfold execRtcWake at e
  try extract_lets at e
  first | refine next_keeps ?_ e | refine need_keeps ?_ e
  all_goals repeat' first
    | with_reducible assumption | with_reducible apply rtcElapse_keeps | with_reducible apply fresh_keeps | with_reducible apply foldl_keeps
    | with_reducible apply ite_keeps | intro _ | split | contradiction | dsimp only

theorem execRtcFracRead_keeps (ticks : Nat) (s : State) (t : State) (e : execRtcFracRead ticks s = .next t) : Keeps s t := by
  have h : Keeps s s := Keeps.refl s
  unfold execRtcFracRead at e
  try extract_lets at e
  first | refine next_keeps ?_ e | refine need_keeps ?_ e
  all_goals repeat' first
    | with_reducible assumption | with_reducible apply fracRead_keeps | with_reducible apply rtcElapse_keeps | with_reducible apply fresh_keeps
    | with_reducible apply foldl_keeps | with_reducible apply ite_keeps | intro _ | split | contradiction | dsimp only

theorem execRtcSecHiRead_keeps (ticks : Nat) (s : State) (t : State) (e : execRtcSecHiRead ticks s = .next t) : Keeps s t := by
  have h : Keeps s s := Keeps.refl s
  unfold execRtcSecHiRead at e
  try extract_lets at e
  first | refine next_keeps ?_ e | refine need_keeps ?_ e
  all_goals repeat' first
    | with_reducible assumption | with_reducible apply secHiRead_keeps | with_reducible apply rtcElapse_keeps | with_reducible apply fresh_keeps
    | with_reducible apply foldl_keeps | with_reducible apply ite_keeps | intro _ | split | contradiction | dsimp only

theorem execShadowFreezeTimeout_keeps (who : ShadowId) (s : State) (t : State) (e : execShadowFreezeTimeout who s = .next t) : Keeps s t := by
  have h : Keeps s s := Keeps.refl s
  unfold execShadowFreezeTimeout at e
  try extract_lets at e
  first | refine next_keeps ?_ e | refine need_keeps ?_ e
  all_goals repeat' first
    | with_reducible assumption | with_reducible apply updRtc_keeps | with_reducible apply fresh_keeps | with_reducible apply foldl_keeps
    | with_reducible apply ite_keeps | intro _ | split | contradiction | dsimp only

theorem execLegRtcSecRead_keeps (ticks : Nat) (s : State) (t : State) (e : execLegRtcSecRead ticks s = .next t) : Keeps s t := by
  have h : Keeps s s := Keeps.refl s
  unfold execLegRtcSecRead at e
  try extract_lets at e
  first | refine next_keeps ?_ e | refine need_keeps ?_ e
  all_goals repeat' first
    | with_reducible assumption | with_reducible apply legSecRead_keeps | with_reducible apply rtcElapse_keeps | with_reducible apply fresh_keeps
    | with_reducible apply foldl_keeps | with_reducible apply ite_keeps | intro _ | split | contradiction | dsimp only

theorem execLegRtcYearRead_keeps (ticks : Nat) (s : State) (t : State) (e : execLegRtcYearRead ticks s = .next t) : Keeps s t := by
  have h : Keeps s s := Keeps.refl s
  unfold execLegRtcYearRead at e
  try extract_lets at e
  first | refine next_keeps ?_ e | refine need_keeps ?_ e
  all_goals repeat' first
    | with_reducible assumption | with_reducible apply legYearRead_keeps | with_reducible apply rtcElapse_keeps | with_reducible apply fresh_keeps
    | with_reducible apply foldl_keeps | with_reducible apply ite_keeps | intro _ | split | contradiction | dsimp only

theorem execLegRtcSet_keeps (s : State) (t : State) (e : execLegRtcSet s = .next t) : Keeps s t := by
  have h : Keeps s s := Keeps.refl s
  unfold execLegRtcSet at e
  try extract_lets at e
  first | refine next_keeps ?_ e | refine need_keeps ?_ e
  all_goals repeat' first
    | with_reducible assumption | with_reducible apply legSet_keeps | with_reducible apply fresh_keeps | with_reducible apply foldl_keeps
    | with_reducible apply ite_keeps | intro _ | split | contradiction | dsimp only

theorem execRtcTrickleWrite_keeps (w : TrickleWrite) (s : State) (t : State) (e : execRtcTrickleWrite w s = .next t) : Keeps s t := by
  have h : Keeps s s := Keeps.refl s
  unfold execRtcTrickleWrite at e
  try extract_lets at e
  first | refine next_keeps ?_ e | refine need_keeps ?_ e
  all_goals repeat' first
    | with_reducible assumption | with_reducible apply fresh_keeps | with_reducible apply cellGoesHigh_keeps | with_reducible apply cellLevel_keeps
    | with_reducible apply trickleWrite_keeps | with_reducible apply foldl_keeps | with_reducible apply ite_keeps | intro _ | split | contradiction
    | dsimp only

theorem execCellTypeHigh_keeps (s : State) (t : State) (e : execCellTypeHigh s = .next t) : Keeps s t := by
  have h : Keeps s s := Keeps.refl s
  unfold execCellTypeHigh at e
  try extract_lets at e
  first | refine next_keeps ?_ e | refine need_keeps ?_ e
  all_goals repeat' first
    | with_reducible assumption | with_reducible apply cellGoesHigh_keeps | with_reducible apply fresh_keeps | with_reducible apply foldl_keeps
    | with_reducible apply ite_keeps | intro _ | split | contradiction | dsimp only

theorem execOscStop_keeps (s : State) (t : State) (e : execOscStop s = .next t) : Keeps s t := by
  have h : Keeps s s := Keeps.refl s
  unfold execOscStop at e
  try extract_lets at e
  first | refine next_keeps ?_ e | refine need_keeps ?_ e
  all_goals repeat' first
    | with_reducible assumption | with_reducible apply backupLost_keeps | with_reducible apply fresh_keeps | with_reducible apply foldl_keeps
    | with_reducible apply ite_keeps | intro _ | split | contradiction | dsimp only

theorem execPanelFlip_keeps (img : Image) (s : State) (t : State) (e : execPanelFlip img s = .next t) : Keeps s t := by
  have h : Keeps s s := Keeps.refl s
  unfold execPanelFlip at e
  try extract_lets at e
  first | refine next_keeps ?_ e | refine need_keeps ?_ e
  all_goals repeat' first
    | with_reducible assumption | with_reducible apply dirCmd_keeps | with_reducible apply fresh_keeps | with_reducible apply panelFlip_keeps
    | with_reducible apply foldl_keeps | with_reducible apply ite_keeps | intro _ | split | contradiction | dsimp only

theorem execPanelFrameBoundary_keeps (s : State) (t : State) (e : execPanelFrameBoundary s = .next t) : Keeps s t := by
  have h : Keeps s s := Keeps.refl s
  unfold execPanelFrameBoundary at e
  try extract_lets at e
  first | refine next_keeps ?_ e | refine need_keeps ?_ e
  all_goals repeat' first
    | with_reducible assumption | with_reducible apply frame_keeps | with_reducible apply fresh_keeps | with_reducible apply foldl_keeps
    | with_reducible apply ite_keeps | intro _ | split | contradiction | dsimp only

theorem execPanelTempUpdate_keeps (p : PanelTemp) (s : State) (t : State) (e : execPanelTempUpdate p s = .next t) : Keeps s t := by
  have h : Keeps s s := Keeps.refl s
  unfold execPanelTempUpdate at e
  try extract_lets at e
  first | refine next_keeps ?_ e | refine need_keeps ?_ e
  all_goals repeat' first
    | with_reducible assumption | with_reducible apply panelTemp_keeps | with_reducible apply fresh_keeps | with_reducible apply foldl_keeps
    | with_reducible apply ite_keeps | intro _ | split | contradiction | dsimp only

theorem execVppFault_keeps (s : State) (t : State) (e : execVppFault s = .next t) : Keeps s t := by
  have h : Keeps s s := Keeps.refl s
  unfold execVppFault at e
  try extract_lets at e
  first | refine next_keeps ?_ e | refine need_keeps ?_ e
  all_goals repeat' first
    | with_reducible assumption | with_reducible apply fresh_keeps | with_reducible apply raise_keeps | with_reducible apply bump_keeps
    | with_reducible apply updPanel_keeps | with_reducible apply foldl_keeps | with_reducible apply ite_keeps | intro _ | split | contradiction
    | dsimp only

theorem execVppRetry_keeps (s : State) (t : State) (e : execVppRetry s = .next t) : Keeps s t := by
  have h : Keeps s s := Keeps.refl s
  unfold execVppRetry at e
  try extract_lets at e
  first | refine next_keeps ?_ e | refine need_keeps ?_ e
  all_goals repeat' first
    | with_reducible assumption | with_reducible apply updPanel_keeps | with_reducible apply fresh_keeps | with_reducible apply foldl_keeps
    | with_reducible apply ite_keeps | intro _ | split | contradiction | dsimp only

theorem execAlarmListRedraw_keeps (ticks : Nat) (s : State) (t : State) (e : execAlarmListRedraw ticks s = .next t) : Keeps s t := by
  have h : Keeps s s := Keeps.refl s
  unfold execAlarmListRedraw at e
  try extract_lets at e
  first | refine next_keeps ?_ e | refine need_keeps ?_ e
  all_goals repeat' first
    | with_reducible assumption | with_reducible apply redraw_keeps | with_reducible apply rtcElapse_keeps | with_reducible apply fresh_keeps
    | with_reducible apply foldl_keeps | with_reducible apply ite_keeps | intro _ | split | contradiction | dsimp only

theorem execBurnInShift_keeps (s : State) (t : State) (e : execBurnInShift s = .next t) : Keeps s t := by
  have h : Keeps s s := Keeps.refl s
  unfold execBurnInShift at e
  try extract_lets at e
  first | refine next_keeps ?_ e | refine need_keeps ?_ e
  all_goals repeat' first
    | with_reducible assumption | with_reducible apply fresh_keeps | with_reducible apply updPanel_keeps | with_reducible apply foldl_keeps
    | with_reducible apply ite_keeps | intro _ | split | contradiction | dsimp only

theorem execPnlSenseChange_keeps (high : Bool) (s : State) (t : State) (e : execPnlSenseChange high s = .next t) : Keeps s t := by
  have h : Keeps s s := Keeps.refl s
  unfold execPnlSenseChange at e
  try extract_lets at e
  first | refine next_keeps ?_ e | refine need_keeps ?_ e
  all_goals repeat' first
    | with_reducible assumption | with_reducible apply fresh_keeps | with_reducible apply emitOut_keeps | with_reducible apply updPanel_keeps
    | with_reducible apply raise_keeps | with_reducible apply foldl_keeps | with_reducible apply ite_keeps | intro _ | split | contradiction
    | dsimp only

theorem execPowerGoodRise_keeps (env : BootEnv) (s : State) (t : State) (e : execPowerGoodRise env s = .next t) : Keeps s t := by
  have h : Keeps s s := Keeps.refl s
  unfold execPowerGoodRise at e
  try extract_lets at e
  first | refine next_keeps ?_ e | refine need_keeps ?_ e
  all_goals repeat' first
    | with_reducible assumption | with_reducible apply boot_keeps | with_reducible apply fresh_keeps | with_reducible apply foldl_keeps
    | with_reducible apply ite_keeps | intro _ | split | contradiction | dsimp only

theorem execPowerGoodFall_keeps (f : PowerFall) (s : State) (t : State) (e : execPowerGoodFall f s = .next t) : Keeps s t := by
  have h : Keeps s s := Keeps.refl s
  unfold execPowerGoodFall at e
  try extract_lets at e
  first | refine next_keeps ?_ e | refine need_keeps ?_ e
  all_goals repeat' first
    | with_reducible assumption | with_reducible apply powerFall_keeps | with_reducible apply fresh_keeps | with_reducible apply foldl_keeps
    | with_reducible apply ite_keeps | intro _ | split | contradiction | dsimp only

theorem execLogicInputChange_keeps (lvA : U16) (lvB : U16) (s : State) (t : State) (e : execLogicInputChange lvA lvB s = .next t) : Keeps s t := by
  have h : Keeps s s := Keeps.refl s
  unfold execLogicInputChange at e
  try extract_lets at e
  first | refine next_keeps ?_ e | refine need_keeps ?_ e
  all_goals repeat' first
    | with_reducible assumption | with_reducible apply setReg_keeps | with_reducible apply fresh_keeps | with_reducible apply foldl_keeps
    | with_reducible apply ite_keeps | intro _ | split | contradiction | dsimp only

theorem execCtrlWatchdog_keeps (s : State) (t : State) (e : execCtrlWatchdog s = .next t) : Keeps s t := by
  have h : Keeps s s := Keeps.refl s
  unfold execCtrlWatchdog at e
  try extract_lets at e
  first | refine next_keeps ?_ e | refine need_keeps ?_ e
  all_goals repeat' first
    | with_reducible assumption | with_reducible apply restart_keeps | with_reducible apply fresh_keeps | with_reducible apply foldl_keeps
    | with_reducible apply ite_keeps | intro _ | split | contradiction | dsimp only

theorem execLockstepMismatch_keeps (s : State) (t : State) (e : execLockstepMismatch s = .next t) : Keeps s t := by
  have h : Keeps s s := Keeps.refl s
  unfold execLockstepMismatch at e
  try extract_lets at e
  first | refine next_keeps ?_ e | refine need_keeps ?_ e
  all_goals repeat' first
    | with_reducible assumption | with_reducible apply fresh_keeps | with_reducible apply haltNode_keeps | with_reducible apply foldl_keeps
    | with_reducible apply ite_keeps | intro _ | split | contradiction | dsimp only

theorem execStartRun_keeps (vecA : Bool) (vecB : Bool) (dt : Nat) (s : State) (t : State) (e : execStartRun vecA vecB dt s = .next t) : Keeps s t := by
  have h : Keeps s s := Keeps.refl s
  unfold execStartRun at e
  try extract_lets at e
  first | refine next_keeps ?_ e | refine need_keeps ?_ e
  all_goals repeat' first
    | with_reducible assumption | with_reducible apply startNow_keeps | with_reducible apply pass_keeps | with_reducible apply fresh_keeps
    | with_reducible apply foldl_keeps | with_reducible apply ite_keeps | intro _ | split | contradiction | dsimp only

theorem execStopRun_keeps (s : State) (t : State) (e : execStopRun s = .next t) : Keeps s t := by
  have h : Keeps s s := Keeps.refl s
  unfold execStopRun at e
  try extract_lets at e
  first | refine next_keeps ?_ e | refine need_keeps ?_ e
  all_goals repeat' first
    | with_reducible assumption | with_reducible apply stopNow_keeps | with_reducible apply fresh_keeps | with_reducible apply foldl_keeps
    | with_reducible apply ite_keeps | intro _ | split | contradiction | dsimp only

theorem execResetNode_keeps (s : State) (t : State) (e : execResetNode s = .next t) : Keeps s t := by
  have h : Keeps s s := Keeps.refl s
  unfold execResetNode at e
  try extract_lets at e
  first | refine next_keeps ?_ e | refine need_keeps ?_ e
  all_goals repeat' first
    | with_reducible assumption | with_reducible apply restart_keeps | with_reducible apply fresh_keeps | with_reducible apply foldl_keeps
    | with_reducible apply ite_keeps | intro _ | split | contradiction | dsimp only

theorem execCommission_keeps (ticks : Nat) (s : State) (t : State) (e : execCommission ticks s = .next t) : Keeps s t := by
  have h : Keeps s s := Keeps.refl s
  unfold execCommission at e
  try extract_lets at e
  first | refine next_keeps ?_ e | refine need_keeps ?_ e
  all_goals repeat' first
    | with_reducible assumption | with_reducible apply commissionNow_keeps | with_reducible apply rtcElapse_keeps | with_reducible apply fresh_keeps
    | with_reducible apply foldl_keeps | with_reducible apply ite_keeps | intro _ | split | contradiction | dsimp only

theorem execVerifyCfg_keeps (s : State) (t : State) (e : execVerifyCfg s = .next t) : Keeps s t := by
  have h : Keeps s s := Keeps.refl s
  unfold execVerifyCfg at e
  try extract_lets at e
  first | refine next_keeps ?_ e | refine need_keeps ?_ e
  all_goals repeat' first
    | with_reducible assumption | with_reducible apply verifyNow_keeps | with_reducible apply fresh_keeps | with_reducible apply foldl_keeps
    | with_reducible apply ite_keeps | intro _ | split | contradiction | dsimp only

theorem execAcceptSlot_keeps (s : State) (t : State) (e : execAcceptSlot s = .next t) : Keeps s t := by
  have h : Keeps s s := Keeps.refl s
  unfold execAcceptSlot at e
  try extract_lets at e
  first | refine next_keeps ?_ e | refine need_keeps ?_ e
  all_goals repeat' first
    | with_reducible assumption | with_reducible apply acceptNow_keeps | with_reducible apply fresh_keeps | with_reducible apply foldl_keeps
    | with_reducible apply ite_keeps | intro _ | split | contradiction | dsimp only

theorem execSsBypass_keeps (s : State) (t : State) (e : execSsBypass s = .next t) : Keeps s t := by
  have h : Keeps s s := Keeps.refl s
  unfold execSsBypass at e
  try extract_lets at e
  first | refine next_keeps ?_ e | refine need_keeps ?_ e
  all_goals repeat' first
    | with_reducible assumption | with_reducible apply bypassNow_keeps | with_reducible apply fresh_keeps | with_reducible apply foldl_keeps
    | with_reducible apply ite_keeps | intro _ | split | contradiction | dsimp only

theorem execMgmtFmodeWrite_keeps (v : U32) (s : State) (t : State) (e : execMgmtFmodeWrite v s = .next t) : Keeps s t := by
  have h : Keeps s s := Keeps.refl s
  unfold execMgmtFmodeWrite at e
  try extract_lets at e
  first | refine next_keeps ?_ e | refine need_keeps ?_ e
  all_goals repeat' first
    | with_reducible assumption | with_reducible apply fmodeWrite_keeps | with_reducible apply fresh_keeps | with_reducible apply foldl_keeps
    | with_reducible apply ite_keeps | intro _ | split | contradiction | dsimp only

theorem execMgmtIntRearm_keeps (_v : U32) (s : State) (t : State) (e : execMgmtIntRearm _v s = .next t) : Keeps s t := by
  have h : Keeps s s := Keeps.refl s
  unfold execMgmtIntRearm at e
  try extract_lets at e
  first | refine next_keeps ?_ e | refine need_keeps ?_ e
  all_goals repeat' first
    | with_reducible assumption | with_reducible apply fromSetup_keeps | with_reducible apply fresh_keeps | with_reducible apply intRearm_keeps
    | with_reducible apply foldl_keeps | with_reducible apply ite_keeps | intro _ | split | contradiction | dsimp only

theorem execMgmtIntEnWrite_keeps (v : U32) (s : State) (t : State) (e : execMgmtIntEnWrite v s = .next t) : Keeps s t := by
  have h : Keeps s s := Keeps.refl s
  unfold execMgmtIntEnWrite at e
  try extract_lets at e
  first | refine next_keeps ?_ e | refine need_keeps ?_ e
  all_goals repeat' first
    | with_reducible assumption | with_reducible apply fromSetup_keeps | with_reducible apply fresh_keeps | with_reducible apply intEnWrite_keeps
    | with_reducible apply foldl_keeps | with_reducible apply ite_keeps | intro _ | split | contradiction | dsimp only

theorem execUpdBegin_keeps (s : State) (t : State) (e : execUpdBegin s = .next t) : Keeps s t := by
  have h : Keeps s s := Keeps.refl s
  unfold execUpdBegin at e
  try extract_lets at e
  first | refine next_keeps ?_ e | refine need_keeps ?_ e
  all_goals repeat' first
    | with_reducible assumption | with_reducible apply dirCmd_keeps | with_reducible apply fresh_keeps | with_reducible apply updBegin_keeps
    | with_reducible apply foldl_keeps | with_reducible apply ite_keeps | intro _ | split | contradiction | dsimp only

theorem execUpdStatus_keeps (writeOk : Bool) (s : State) (t : State) (e : execUpdStatus writeOk s = .next t) : Keeps s t := by
  have h : Keeps s s := Keeps.refl s
  unfold execUpdStatus at e
  try extract_lets at e
  first | refine next_keeps ?_ e | refine need_keeps ?_ e
  all_goals repeat' first
    | with_reducible assumption | with_reducible apply dirCmd_keeps | with_reducible apply fresh_keeps | with_reducible apply updStatus_keeps
    | with_reducible apply foldl_keeps | with_reducible apply ite_keeps | intro _ | split | contradiction | dsimp only

theorem execUpdVerify_keeps (s : State) (t : State) (e : execUpdVerify s = .next t) : Keeps s t := by
  have h : Keeps s s := Keeps.refl s
  unfold execUpdVerify at e
  try extract_lets at e
  first | refine next_keeps ?_ e | refine need_keeps ?_ e
  all_goals repeat' first
    | with_reducible assumption | with_reducible apply dirCmd_keeps | with_reducible apply fresh_keeps | with_reducible apply updVerify_keeps
    | with_reducible apply foldl_keeps | with_reducible apply ite_keeps | intro _ | split | contradiction | dsimp only

theorem execUpdActivate_keeps (s : State) (t : State) (e : execUpdActivate s = .next t) : Keeps s t := by
  have h : Keeps s s := Keeps.refl s
  unfold execUpdActivate at e
  try extract_lets at e
  first | refine next_keeps ?_ e | refine need_keeps ?_ e
  all_goals repeat' first
    | with_reducible assumption | with_reducible apply fresh_keeps | with_reducible apply dirCmd_keeps | with_reducible apply updActivate_keeps
    | with_reducible apply foldl_keeps | with_reducible apply ite_keeps | intro _ | split | contradiction | dsimp only

theorem execUpdConfirm_keeps (s : State) (t : State) (e : execUpdConfirm s = .next t) : Keeps s t := by
  have h : Keeps s s := Keeps.refl s
  unfold execUpdConfirm at e
  try extract_lets at e
  first | refine next_keeps ?_ e | refine need_keeps ?_ e
  all_goals repeat' first
    | with_reducible assumption | with_reducible apply dirCmd_keeps | with_reducible apply fresh_keeps | with_reducible apply updConfirm_keeps
    | with_reducible apply foldl_keeps | with_reducible apply ite_keeps | intro _ | split | contradiction | dsimp only

theorem execUpdAbandon_keeps (s : State) (t : State) (e : execUpdAbandon s = .next t) : Keeps s t := by
  have h : Keeps s s := Keeps.refl s
  unfold execUpdAbandon at e
  try extract_lets at e
  first | refine next_keeps ?_ e | refine need_keeps ?_ e
  all_goals repeat' first
    | with_reducible assumption | with_reducible apply dirCmd_keeps | with_reducible apply fresh_keeps | with_reducible apply updAbandon_keeps
    | with_reducible apply foldl_keeps | with_reducible apply ite_keeps | intro _ | split | contradiction | dsimp only

theorem execUpdPieceReceived_keeps (data : Image) (s : State) (t : State) (e : execUpdPieceReceived data s = .next t) : Keeps s t := by
  have h : Keeps s s := Keeps.refl s
  unfold execUpdPieceReceived at e
  try extract_lets at e
  first | refine next_keeps ?_ e | refine need_keeps ?_ e
  all_goals repeat' first
    | with_reducible assumption | with_reducible apply pieceReceived_keeps | with_reducible apply fresh_keeps | with_reducible apply foldl_keeps
    | with_reducible apply ite_keeps | intro _ | split | contradiction | dsimp only

theorem execPieceStored_keeps (p : Nat) (readbackOk : Bool) (s : State) (t : State) (e : execPieceStored p readbackOk s = .next t) : Keeps s t := by
  have h : Keeps s s := Keeps.refl s
  unfold execPieceStored at e
  try extract_lets at e
  first | refine next_keeps ?_ e | refine need_keeps ?_ e
  all_goals repeat' first
    | with_reducible assumption | with_reducible apply storePiece_keeps | with_reducible apply fresh_keeps | with_reducible apply foldl_keeps
    | with_reducible apply ite_keeps | intro _ | split | contradiction | dsimp only

theorem execActivationComplete_keeps (pauseUs : Nat) (s : State) (t : State) (e : execActivationComplete pauseUs s = .next t) : Keeps s t := by
  have h : Keeps s s := Keeps.refl s
  unfold execActivationComplete at e
  try extract_lets at e
  first | refine next_keeps ?_ e | refine need_keeps ?_ e
  all_goals repeat' first
    | with_reducible assumption | with_reducible apply activated_keeps | with_reducible apply fresh_keeps | with_reducible apply foldl_keeps
    | with_reducible apply ite_keeps | intro _ | split | contradiction | dsimp only

theorem execActivationTimeout_keeps (s : State) (t : State) (e : execActivationTimeout s = .next t) : Keeps s t := by
  have h : Keeps s s := Keeps.refl s
  unfold execActivationTimeout at e
  try extract_lets at e
  first | refine next_keeps ?_ e | refine need_keeps ?_ e
  all_goals repeat' first
    | with_reducible assumption | with_reducible apply notActivated_keeps | with_reducible apply fresh_keeps | with_reducible apply foldl_keeps
    | with_reducible apply ite_keeps | intro _ | split | contradiction | dsimp only

theorem execTrialWarn_keeps (s : State) (t : State) (e : execTrialWarn s = .next t) : Keeps s t := by
  have h : Keeps s s := Keeps.refl s
  unfold execTrialWarn at e
  try extract_lets at e
  first | refine next_keeps ?_ e | refine need_keeps ?_ e
  all_goals repeat' first
    | with_reducible assumption | with_reducible apply trialWarn_keeps | with_reducible apply fresh_keeps | with_reducible apply foldl_keeps
    | with_reducible apply ite_keeps | intro _ | split | contradiction | dsimp only

theorem execTrialTimeout_keeps (s : State) (t : State) (e : execTrialTimeout s = .next t) : Keeps s t := by
  have h : Keeps s s := Keeps.refl s
  unfold execTrialTimeout at e
  try extract_lets at e
  first | refine next_keeps ?_ e | refine need_keeps ?_ e
  all_goals repeat' first
    | with_reducible assumption | with_reducible apply trialOver_keeps | with_reducible apply fresh_keeps | with_reducible apply foldl_keeps
    | with_reducible apply ite_keeps | intro _ | split | contradiction | dsimp only

theorem execSettingsConversionDone_keeps (s : State) (t : State) (e : execSettingsConversionDone s = .next t) : Keeps s t := by
  have h : Keeps s s := Keeps.refl s
  unfold execSettingsConversionDone at e
  try extract_lets at e
  first | refine next_keeps ?_ e | refine need_keeps ?_ e
  all_goals repeat' first
    | with_reducible assumption | with_reducible apply converted_keeps | with_reducible apply fresh_keeps | with_reducible apply foldl_keeps
    | with_reducible apply ite_keeps | intro _ | split | contradiction | dsimp only

theorem execSettingsConversionFail_keeps (s : State) (t : State) (e : execSettingsConversionFail s = .next t) : Keeps s t := by
  have h : Keeps s s := Keeps.refl s
  unfold execSettingsConversionFail at e
  try extract_lets at e
  first | refine next_keeps ?_ e | refine need_keeps ?_ e
  all_goals repeat' first
    | with_reducible assumption | with_reducible apply notConverted_keeps | with_reducible apply fresh_keeps | with_reducible apply foldl_keeps
    | with_reducible apply ite_keeps | intro _ | split | contradiction | dsimp only

theorem execKeyProgram_keeps (s : State) (t : State) (e : execKeyProgram s = .next t) : Keeps s t := by
  have h : Keeps s s := Keeps.refl s
  unfold execKeyProgram at e
  try extract_lets at e
  first | refine next_keeps ?_ e | refine need_keeps ?_ e
  all_goals repeat' first
    | with_reducible assumption | with_reducible apply keyProgram_keeps | with_reducible apply fresh_keeps | with_reducible apply foldl_keeps
    | with_reducible apply ite_keeps | intro _ | split | contradiction | dsimp only

theorem execKeyProgrammed_keeps (s : State) (t : State) (e : execKeyProgrammed s = .next t) : Keeps s t := by
  have h : Keeps s s := Keeps.refl s
  unfold execKeyProgrammed at e
  try extract_lets at e
  first | refine next_keeps ?_ e | refine need_keeps ?_ e
  all_goals repeat' first
    | with_reducible assumption | with_reducible apply keyDone_keeps | with_reducible apply fresh_keeps | with_reducible apply foldl_keeps
    | with_reducible apply ite_keeps | intro _ | split | contradiction | dsimp only

theorem execReplayStart_keeps (s : State) (t : State) (e : execReplayStart s = .next t) : Keeps s t := by
  have h : Keeps s s := Keeps.refl s
  unfold execReplayStart at e
  try extract_lets at e
  first | refine next_keeps ?_ e | refine need_keeps ?_ e
  all_goals repeat' first
    | with_reducible assumption | with_reducible apply dirCmd_keeps | with_reducible apply fresh_keeps | with_reducible apply replayStart_keeps
    | with_reducible apply foldl_keeps | with_reducible apply ite_keeps | intro _ | split | contradiction | dsimp only

theorem execReplayStop_keeps (s : State) (t : State) (e : execReplayStop s = .next t) : Keeps s t := by
  have h : Keeps s s := Keeps.refl s
  unfold execReplayStop at e
  try extract_lets at e
  first | refine next_keeps ?_ e | refine need_keeps ?_ e
  all_goals repeat' first
    | with_reducible assumption | with_reducible apply dirCmd_keeps | with_reducible apply fresh_keeps | with_reducible apply replayStop_keeps
    | with_reducible apply foldl_keeps | with_reducible apply ite_keeps | intro _ | split | contradiction | dsimp only

theorem execReplayBuffer_keeps (data : Image) (s : State) (t : State) (e : execReplayBuffer data s = .next t) : Keeps s t := by
  have h : Keeps s s := Keeps.refl s
  unfold execReplayBuffer at e
  try extract_lets at e
  first | refine next_keeps ?_ e | refine need_keeps ?_ e
  all_goals repeat' first
    | with_reducible assumption | with_reducible apply rpBuffer_keeps | with_reducible apply fresh_keeps | with_reducible apply foldl_keeps
    | with_reducible apply ite_keeps | intro _ | split | contradiction | dsimp only

theorem execReplayCheckpointCompare_keeps (s : State) (t : State) (e : execReplayCheckpointCompare s = .next t) : Keeps s t := by
  have h : Keeps s s := Keeps.refl s
  unfold execReplayCheckpointCompare at e
  try extract_lets at e
  first | refine next_keeps ?_ e | refine need_keeps ?_ e
  all_goals repeat' first
    | with_reducible assumption | with_reducible apply rpCompare_keeps | with_reducible apply fresh_keeps | with_reducible apply foldl_keeps
    | with_reducible apply ite_keeps | intro _ | split | contradiction | dsimp only

theorem execReplayDone_keeps (s : State) (t : State) (e : execReplayDone s = .next t) : Keeps s t := by
  have h : Keeps s s := Keeps.refl s
  unfold execReplayDone at e
  try extract_lets at e
  first | refine next_keeps ?_ e | refine need_keeps ?_ e
  all_goals repeat' first
    | with_reducible assumption | with_reducible apply rpEnd_keeps | with_reducible apply fresh_keeps | with_reducible apply foldl_keeps
    | with_reducible apply ite_keeps | intro _ | split | contradiction | dsimp only

theorem execRegisterWrite_keeps (off : Off) (v : U32) (s : State) (t : State) (e : execRegisterWrite off v s = .next t) : Keeps s t := by
  have h : Keeps s s := Keeps.refl s
  unfold execRegisterWrite at e
  try extract_lets at e
  first | refine next_keeps ?_ e | refine need_keeps ?_ e
  all_goals repeat' first
    | with_reducible assumption | with_reducible apply fresh_keeps | with_reducible apply writeReg_keeps | with_reducible apply badRequest_keeps
    | with_reducible apply foldl_keeps | with_reducible apply ite_keeps | intro _ | split | contradiction | dsimp only

theorem execBadAccess_keeps (kind : BadAccess) (s : State) (t : State) (e : execBadAccess kind s = .next t) : Keeps s t := by
  have h : Keeps s s := Keeps.refl s
  unfold execBadAccess at e
  try extract_lets at e
  first | refine next_keeps ?_ e | refine need_keeps ?_ e
  all_goals repeat' first
    | with_reducible assumption | with_reducible apply badRequest_keeps | with_reducible apply fresh_keeps | with_reducible apply foldl_keeps
    | with_reducible apply ite_keeps | intro _ | split | contradiction | dsimp only

theorem execWidePairLoRead_keeps (off : Off) (dt : Nat) (s : State) (t : State) (e : execWidePairLoRead off dt s = .next t) : Keeps s t := by
  have h : Keeps s s := Keeps.refl s
  unfold execWidePairLoRead at e
  try extract_lets at e
  first | refine next_keeps ?_ e | refine need_keeps ?_ e
  all_goals repeat' first
    | with_reducible assumption | with_reducible apply pass_keeps | with_reducible apply fresh_keeps | with_reducible apply readWord_keeps
    | with_reducible apply badRequest_keeps | with_reducible apply foldl_keeps | with_reducible apply ite_keeps | intro _ | split | contradiction
    | dsimp only

theorem execTarnWindowWrite_keeps (off : Off) (data : List Byte) (s : State) (t : State) (e : execTarnWindowWrite off data s = .next t) : Keeps s t := by
  have h : Keeps s s := Keeps.refl s
  unfold execTarnWindowWrite at e
  try extract_lets at e
  first | refine next_keeps ?_ e | refine need_keeps ?_ e
  all_goals repeat' first
    | with_reducible assumption | with_reducible apply windowWrite_keeps | with_reducible apply fresh_keeps | with_reducible apply foldl_keeps
    | with_reducible apply ite_keeps | intro _ | split | contradiction | dsimp only

end Sys2Proof.Machine
end

