-- ==== Sys2Proof/Laws/Flags.lean ====
section
/-! SUPPORT. The register file: what a register reads after each of the operations that write registers (R13, R14, R515, R520). -/

set_option Elab.async false

namespace Sys2Proof.Machine

variable (s : State)

/-- A register reads what was put there, and every other one what it read before. -/
@[simp] theorem State.reg_setReg (o p : Off) (v : U32) : (s.setReg o v).reg p = if p = o then v else s.reg p := by
  unfold State.reg State.setReg
  dsimp only
  by_cases h : p = o
  · rw [h, Sparse.find_insert_self, if_pos rfl]
  · rw [Sparse.find_insert_ne _ _ h, if_neg h]

/-- A register depends on the register file and the behaviour revision alone. -/
theorem State.reg_congr {s t : State} (h : t.regs = s.regs) (k : t.behavBoot = s.behavBoot) (o : Off) : t.reg o = s.reg o := by
  unfold State.reg; rw [h, k]

@[simp] theorem State.reg_fresh (o : Off) : s.fresh.reg o = s.reg o := rfl
@[simp] theorem State.reg_emitOut (x : Output) (o : Off) : (s.emitOut x).reg o = s.reg o := rfl
@[simp] theorem State.reg_tarnWrite (a : Off) (l : List Byte) (o : Off) : (s.tarnWrite a l).reg o = s.reg o := rfl
@[simp] theorem State.reg_updHif (f : Hif → Hif) (o : Off) : (s.updHif f).reg o = s.reg o := rfl
@[simp] theorem State.reg_updSkink (f : Skink → Skink) (o : Off) : (s.updSkink f).reg o = s.reg o := rfl
@[simp] theorem State.reg_updSpawn (f : Spawn → Spawn) (o : Off) : (s.updSpawn f).reg o = s.reg o := rfl
@[simp] theorem State.reg_updOutlet (f : Outlet → Outlet) (o : Off) : (s.updOutlet f).reg o = s.reg o := rfl
@[simp] theorem State.reg_updDio (f : Dio → Dio) (o : Off) : (s.updDio f).reg o = s.reg o := rfl
@[simp] theorem State.reg_updCan (n : Nat) (f : Can → Can) (o : Off) : (s.updCan n f).reg o = s.reg o := rfl
@[simp] theorem State.reg_updLane (n : Nat) (f : Lane → Lane) (o : Off) : (s.updLane n f).reg o = s.reg o := rfl
@[simp] theorem State.reg_updDef (n : Nat) (f : DefState → DefState) (o : Off) : (s.updDef n f).reg o = s.reg o := rfl
@[simp] theorem State.reg_updWs (f : Wellspring → Wellspring) (o : Off) : (s.updWs f).reg o = s.reg o := rfl
@[simp] theorem State.reg_updTmo (k : Nat) (f : Tmo → Tmo) (o : Off) : (s.updTmo k f).reg o = s.reg o := rfl
@[simp] theorem State.reg_updRtc (f : Rtc → Rtc) (o : Off) : (s.updRtc f).reg o = s.reg o := rfl
@[simp] theorem State.reg_updPanel (f : Panel → Panel) (o : Off) : (s.updPanel f).reg o = s.reg o := rfl
@[simp] theorem State.reg_updNvm (f : Nvm → Nvm) (o : Off) : (s.updNvm f).reg o = s.reg o := rfl
@[simp] theorem State.reg_updUpd (f : Upd → Upd) (o : Off) : (s.updUpd f).reg o = s.reg o := rfl
@[simp] theorem State.reg_updGecko (f : Gecko → Gecko) (o : Off) : (s.updGecko f).reg o = s.reg o := rfl
@[simp] theorem State.reg_setEng (e : EngineId) (x : Engine) (o : Off) : (s.setEng e x).reg o = s.reg o := by cases e <;> rfl
@[simp] theorem State.reg_updEng (e : EngineId) (f : Engine → Engine) (o : Off) : (s.updEng e f).reg o = s.reg o := by
  cases e <;> rfl

/-- A raised vector changes no register but MSIX_PBA (R125). -/
theorem State.reg_sendVector (v : Nat) (p : Off) (h : p ≠ Reg.MSIX_PBA 0) : (s.sendVector v).reg p = s.reg p := by
  unfold State.sendVector
  split
  · simp [State.setRegBit, State.setRegFld, h]
  · rfl

theorem State.reg_hifMessage (p : Off) (h : p ≠ Reg.MSIX_PBA 0) : s.hifMessage.reg p = s.reg p := by
  unfold State.hifMessage
  split
  · exact s.reg_sendVector _ _ h
  · rfl

/-- An event bit changes no register but its own and MSIX_PBA (R14, R520). -/
theorem State.reg_raise (o p : Off) (m : Nat) (h : p ≠ Reg.MSIX_PBA 0) :
    (s.raise o m).reg p = if p = o then s.reg o ||| BitVec.ofNat 32 m else s.reg p := by
  unfold State.raise State.summarise
  dsimp only
  repeat' split
  all_goals simp_all [State.reg_hifMessage]

@[simp] theorem State.reg_bump (o p : Off) : (s.bump o).reg p = if p = o then satAdd (s.reg o) 1 else s.reg p := by
  unfold State.bump State.bumpBy; rw [State.reg_setReg]

@[simp] theorem State.reg_setRegFld (o p : Off) (lo n x : Nat) :
    (s.setRegFld o lo n x).reg p = if p = o then setFld (s.reg o) lo n x else s.reg p := by
  unfold State.setRegFld; rw [State.reg_setReg]

@[simp] theorem State.reg_setRegBit (o p : Off) (i : Nat) (b : Bool) :
    (s.setRegBit o i b).reg p = if p = o then setFld (s.reg o) i 1 (b2n b) else s.reg p := by
  unfold State.setRegBit; rw [State.reg_setRegFld]

/-- An ignored write changes its counter, MGMT_IGNORED_LAST, MGMT_EVT and MSIX_PBA alone (R515). -/
theorem State.reg_ignored (o : Off) (why : Nat) (tarn : Bool) (p : Off)
    (h : p ∉ [Reg.HIF_IGNORED_WR_CNT, Reg.MGMT_IGNORED_WR_CNT, Reg.MGMT_IGNORED_LAST, Reg.MGMT_EVT, Reg.MSIX_PBA 0]) :
    (s.ignored o why tarn).reg p = s.reg p := by
  simp only [List.mem_cons, List.not_mem_nil, or_false, not_or] at h
  unfold State.ignored
  dsimp only
  rw [State.reg_raise _ _ _ _ h.2.2.2.2, if_neg h.2.2.2.1, State.reg_setReg, if_neg h.2.2.1, State.reg_bump]
  split <;> simp [h]

/-! ## Operations that write registers alone -/

/-- An operation whose only part is the register file leaves every other part as it was. -/
theorem onlyRegs {s t : State} (h : ∀ (P : Zone → Bool) [Named P .regs], Foot P s t) {z : Zone} (hz : z ≠ .regs) : z.same s t :=
  have : Named (· == .regs) .regs := ⟨rfl⟩
  (h (· == .regs)).same z (by simpa using hz)

/-! ### `State.setRegFld` -/

theorem State.setRegFld_same (o : Off) (lo n x : Nat) {z : Zone} (hz : z ≠ .regs) : z.same s (s.setRegFld o lo n x) := onlyRegs (fun _ _ => setRegFld_foot _ _ _ _ _ (Foot.refl s)) hz
@[simp] theorem State.setRegFld_latch (o : Off) (lo n x : Nat) : (s.setRegFld o lo n x).latch = s.latch := s.setRegFld_same (z := .latch) o lo n x nofun
@[simp] theorem State.setRegFld_hold (o : Off) (lo n x : Nat) : (s.setRegFld o lo n x).hold = s.hold := s.setRegFld_same (z := .hold) o lo n x nofun
@[simp] theorem State.setRegFld_tarn (o : Off) (lo n x : Nat) : (s.setRegFld o lo n x).tarn = s.tarn := s.setRegFld_same (z := .tarn) o lo n x nofun
@[simp] theorem State.setRegFld_inlet (o : Off) (lo n x : Nat) : (s.setRegFld o lo n x).inlet = s.inlet := s.setRegFld_same (z := .inlet) o lo n x nofun
@[simp] theorem State.setRegFld_aeA (o : Off) (lo n x : Nat) : (s.setRegFld o lo n x).aeA = s.aeA := s.setRegFld_same (z := .aeA) o lo n x nofun
@[simp] theorem State.setRegFld_aeB (o : Off) (lo n x : Nat) : (s.setRegFld o lo n x).aeB = s.aeB := s.setRegFld_same (z := .aeB) o lo n x nofun
@[simp] theorem State.setRegFld_outlet (o : Off) (lo n x : Nat) : (s.setRegFld o lo n x).outlet = s.outlet := s.setRegFld_same (z := .outlet) o lo n x nofun
@[simp] theorem State.setRegFld_hif (o : Off) (lo n x : Nat) : (s.setRegFld o lo n x).hif = s.hif := s.setRegFld_same (z := .hif) o lo n x nofun
@[simp] theorem State.setRegFld_skink (o : Off) (lo n x : Nat) : (s.setRegFld o lo n x).skink = s.skink := s.setRegFld_same (z := .skink) o lo n x nofun
@[simp] theorem State.setRegFld_spawn (o : Off) (lo n x : Nat) : (s.setRegFld o lo n x).spawn = s.spawn := s.setRegFld_same (z := .spawn) o lo n x nofun
@[simp] theorem State.setRegFld_fe (o : Off) (lo n x : Nat) : (s.setRegFld o lo n x).fe = s.fe := s.setRegFld_same (z := .fe) o lo n x nofun
@[simp] theorem State.setRegFld_dio (o : Off) (lo n x : Nat) : (s.setRegFld o lo n x).dio = s.dio := s.setRegFld_same (z := .dio) o lo n x nofun
@[simp] theorem State.setRegFld_can (o : Off) (lo n x : Nat) : (s.setRegFld o lo n x).can = s.can := s.setRegFld_same (z := .can) o lo n x nofun
@[simp] theorem State.setRegFld_canWalk (o : Off) (lo n x : Nat) : (s.setRegFld o lo n x).canWalk = s.canWalk := s.setRegFld_same (z := .canWalk) o lo n x nofun
@[simp] theorem State.setRegFld_ws (o : Off) (lo n x : Nat) : (s.setRegFld o lo n x).ws = s.ws := s.setRegFld_same (z := .ws) o lo n x nofun
@[simp] theorem State.setRegFld_rtc (o : Off) (lo n x : Nat) : (s.setRegFld o lo n x).rtc = s.rtc := s.setRegFld_same (z := .rtc) o lo n x nofun
@[simp] theorem State.setRegFld_panel (o : Off) (lo n x : Nat) : (s.setRegFld o lo n x).panel = s.panel := s.setRegFld_same (z := .panel) o lo n x nofun
@[simp] theorem State.setRegFld_nvm (o : Off) (lo n x : Nat) : (s.setRegFld o lo n x).nvm = s.nvm := s.setRegFld_same (z := .nvm) o lo n x nofun
@[simp] theorem State.setRegFld_upd (o : Off) (lo n x : Nat) : (s.setRegFld o lo n x).upd = s.upd := s.setRegFld_same (z := .upd) o lo n x nofun
@[simp] theorem State.setRegFld_gecko (o : Off) (lo n x : Nat) : (s.setRegFld o lo n x).gecko = s.gecko := s.setRegFld_same (z := .gecko) o lo n x nofun
@[simp] theorem State.setRegFld_behavBoot (o : Off) (lo n x : Nat) : (s.setRegFld o lo n x).behavBoot = s.behavBoot := s.setRegFld_same (z := .behavBoot) o lo n x nofun
@[simp] theorem State.setRegFld_hostRead (o : Off) (lo n x : Nat) : (s.setRegFld o lo n x).hostRead = s.hostRead := s.setRegFld_same (z := .hostRead) o lo n x nofun
@[simp] theorem State.setRegFld_free (o : Off) (lo n x : Nat) : (s.setRegFld o lo n x).free = s.free := s.setRegFld_same (z := .free) o lo n x nofun
@[simp] theorem State.setRegFld_pending (o : Off) (lo n x : Nat) : (s.setRegFld o lo n x).pending = s.pending := s.setRegFld_same (z := .pending) o lo n x nofun

/-! ### `State.setRegBit` -/

theorem State.setRegBit_same (o : Off) (i : Nat) (b : Bool) {z : Zone} (hz : z ≠ .regs) : z.same s (s.setRegBit o i b) := onlyRegs (fun _ _ => setRegBit_foot _ _ _ _ (Foot.refl s)) hz
@[simp] theorem State.setRegBit_latch (o : Off) (i : Nat) (b : Bool) : (s.setRegBit o i b).latch = s.latch := s.setRegBit_same (z := .latch) o i b nofun
@[simp] theorem State.setRegBit_hold (o : Off) (i : Nat) (b : Bool) : (s.setRegBit o i b).hold = s.hold := s.setRegBit_same (z := .hold) o i b nofun
@[simp] theorem State.setRegBit_tarn (o : Off) (i : Nat) (b : Bool) : (s.setRegBit o i b).tarn = s.tarn := s.setRegBit_same (z := .tarn) o i b nofun
@[simp] theorem State.setRegBit_inlet (o : Off) (i : Nat) (b : Bool) : (s.setRegBit o i b).inlet = s.inlet := s.setRegBit_same (z := .inlet) o i b nofun
@[simp] theorem State.setRegBit_aeA (o : Off) (i : Nat) (b : Bool) : (s.setRegBit o i b).aeA = s.aeA := s.setRegBit_same (z := .aeA) o i b nofun
@[simp] theorem State.setRegBit_aeB (o : Off) (i : Nat) (b : Bool) : (s.setRegBit o i b).aeB = s.aeB := s.setRegBit_same (z := .aeB) o i b nofun
@[simp] theorem State.setRegBit_outlet (o : Off) (i : Nat) (b : Bool) : (s.setRegBit o i b).outlet = s.outlet := s.setRegBit_same (z := .outlet) o i b nofun
@[simp] theorem State.setRegBit_hif (o : Off) (i : Nat) (b : Bool) : (s.setRegBit o i b).hif = s.hif := s.setRegBit_same (z := .hif) o i b nofun
@[simp] theorem State.setRegBit_skink (o : Off) (i : Nat) (b : Bool) : (s.setRegBit o i b).skink = s.skink := s.setRegBit_same (z := .skink) o i b nofun
@[simp] theorem State.setRegBit_spawn (o : Off) (i : Nat) (b : Bool) : (s.setRegBit o i b).spawn = s.spawn := s.setRegBit_same (z := .spawn) o i b nofun
@[simp] theorem State.setRegBit_fe (o : Off) (i : Nat) (b : Bool) : (s.setRegBit o i b).fe = s.fe := s.setRegBit_same (z := .fe) o i b nofun
@[simp] theorem State.setRegBit_dio (o : Off) (i : Nat) (b : Bool) : (s.setRegBit o i b).dio = s.dio := s.setRegBit_same (z := .dio) o i b nofun
@[simp] theorem State.setRegBit_can (o : Off) (i : Nat) (b : Bool) : (s.setRegBit o i b).can = s.can := s.setRegBit_same (z := .can) o i b nofun
@[simp] theorem State.setRegBit_canWalk (o : Off) (i : Nat) (b : Bool) : (s.setRegBit o i b).canWalk = s.canWalk := s.setRegBit_same (z := .canWalk) o i b nofun
@[simp] theorem State.setRegBit_ws (o : Off) (i : Nat) (b : Bool) : (s.setRegBit o i b).ws = s.ws := s.setRegBit_same (z := .ws) o i b nofun
@[simp] theorem State.setRegBit_rtc (o : Off) (i : Nat) (b : Bool) : (s.setRegBit o i b).rtc = s.rtc := s.setRegBit_same (z := .rtc) o i b nofun
@[simp] theorem State.setRegBit_panel (o : Off) (i : Nat) (b : Bool) : (s.setRegBit o i b).panel = s.panel := s.setRegBit_same (z := .panel) o i b nofun
@[simp] theorem State.setRegBit_nvm (o : Off) (i : Nat) (b : Bool) : (s.setRegBit o i b).nvm = s.nvm := s.setRegBit_same (z := .nvm) o i b nofun
@[simp] theorem State.setRegBit_upd (o : Off) (i : Nat) (b : Bool) : (s.setRegBit o i b).upd = s.upd := s.setRegBit_same (z := .upd) o i b nofun
@[simp] theorem State.setRegBit_gecko (o : Off) (i : Nat) (b : Bool) : (s.setRegBit o i b).gecko = s.gecko := s.setRegBit_same (z := .gecko) o i b nofun
@[simp] theorem State.setRegBit_behavBoot (o : Off) (i : Nat) (b : Bool) : (s.setRegBit o i b).behavBoot = s.behavBoot := s.setRegBit_same (z := .behavBoot) o i b nofun
@[simp] theorem State.setRegBit_hostRead (o : Off) (i : Nat) (b : Bool) : (s.setRegBit o i b).hostRead = s.hostRead := s.setRegBit_same (z := .hostRead) o i b nofun
@[simp] theorem State.setRegBit_free (o : Off) (i : Nat) (b : Bool) : (s.setRegBit o i b).free = s.free := s.setRegBit_same (z := .free) o i b nofun
@[simp] theorem State.setRegBit_pending (o : Off) (i : Nat) (b : Bool) : (s.setRegBit o i b).pending = s.pending := s.setRegBit_same (z := .pending) o i b nofun

/-! ### `State.setPair` -/

theorem State.setPair_same (lo hi : Off) (v : U64) {z : Zone} (hz : z ≠ .regs) : z.same s (s.setPair lo hi v) := onlyRegs (fun _ _ => setPair_foot _ _ _ _ (Foot.refl s)) hz
@[simp] theorem State.setPair_latch (lo hi : Off) (v : U64) : (s.setPair lo hi v).latch = s.latch := s.setPair_same (z := .latch) lo hi v nofun
@[simp] theorem State.setPair_hold (lo hi : Off) (v : U64) : (s.setPair lo hi v).hold = s.hold := s.setPair_same (z := .hold) lo hi v nofun
@[simp] theorem State.setPair_tarn (lo hi : Off) (v : U64) : (s.setPair lo hi v).tarn = s.tarn := s.setPair_same (z := .tarn) lo hi v nofun
@[simp] theorem State.setPair_inlet (lo hi : Off) (v : U64) : (s.setPair lo hi v).inlet = s.inlet := s.setPair_same (z := .inlet) lo hi v nofun
@[simp] theorem State.setPair_aeA (lo hi : Off) (v : U64) : (s.setPair lo hi v).aeA = s.aeA := s.setPair_same (z := .aeA) lo hi v nofun
@[simp] theorem State.setPair_aeB (lo hi : Off) (v : U64) : (s.setPair lo hi v).aeB = s.aeB := s.setPair_same (z := .aeB) lo hi v nofun
@[simp] theorem State.setPair_outlet (lo hi : Off) (v : U64) : (s.setPair lo hi v).outlet = s.outlet := s.setPair_same (z := .outlet) lo hi v nofun
@[simp] theorem State.setPair_hif (lo hi : Off) (v : U64) : (s.setPair lo hi v).hif = s.hif := s.setPair_same (z := .hif) lo hi v nofun
@[simp] theorem State.setPair_skink (lo hi : Off) (v : U64) : (s.setPair lo hi v).skink = s.skink := s.setPair_same (z := .skink) lo hi v nofun
@[simp] theorem State.setPair_spawn (lo hi : Off) (v : U64) : (s.setPair lo hi v).spawn = s.spawn := s.setPair_same (z := .spawn) lo hi v nofun
@[simp] theorem State.setPair_fe (lo hi : Off) (v : U64) : (s.setPair lo hi v).fe = s.fe := s.setPair_same (z := .fe) lo hi v nofun
@[simp] theorem State.setPair_dio (lo hi : Off) (v : U64) : (s.setPair lo hi v).dio = s.dio := s.setPair_same (z := .dio) lo hi v nofun
@[simp] theorem State.setPair_can (lo hi : Off) (v : U64) : (s.setPair lo hi v).can = s.can := s.setPair_same (z := .can) lo hi v nofun
@[simp] theorem State.setPair_canWalk (lo hi : Off) (v : U64) : (s.setPair lo hi v).canWalk = s.canWalk := s.setPair_same (z := .canWalk) lo hi v nofun
@[simp] theorem State.setPair_ws (lo hi : Off) (v : U64) : (s.setPair lo hi v).ws = s.ws := s.setPair_same (z := .ws) lo hi v nofun
@[simp] theorem State.setPair_rtc (lo hi : Off) (v : U64) : (s.setPair lo hi v).rtc = s.rtc := s.setPair_same (z := .rtc) lo hi v nofun
@[simp] theorem State.setPair_panel (lo hi : Off) (v : U64) : (s.setPair lo hi v).panel = s.panel := s.setPair_same (z := .panel) lo hi v nofun
@[simp] theorem State.setPair_nvm (lo hi : Off) (v : U64) : (s.setPair lo hi v).nvm = s.nvm := s.setPair_same (z := .nvm) lo hi v nofun
@[simp] theorem State.setPair_upd (lo hi : Off) (v : U64) : (s.setPair lo hi v).upd = s.upd := s.setPair_same (z := .upd) lo hi v nofun
@[simp] theorem State.setPair_gecko (lo hi : Off) (v : U64) : (s.setPair lo hi v).gecko = s.gecko := s.setPair_same (z := .gecko) lo hi v nofun
@[simp] theorem State.setPair_behavBoot (lo hi : Off) (v : U64) : (s.setPair lo hi v).behavBoot = s.behavBoot := s.setPair_same (z := .behavBoot) lo hi v nofun
@[simp] theorem State.setPair_hostRead (lo hi : Off) (v : U64) : (s.setPair lo hi v).hostRead = s.hostRead := s.setPair_same (z := .hostRead) lo hi v nofun
@[simp] theorem State.setPair_free (lo hi : Off) (v : U64) : (s.setPair lo hi v).free = s.free := s.setPair_same (z := .free) lo hi v nofun
@[simp] theorem State.setPair_pending (lo hi : Off) (v : U64) : (s.setPair lo hi v).pending = s.pending := s.setPair_same (z := .pending) lo hi v nofun

/-! ### `State.sendVector` -/

theorem State.sendVector_same (v : Nat) {z : Zone} (hz : z ≠ .regs) : z.same s (s.sendVector v) := onlyRegs (fun _ _ => sendVector_foot _ _ (Foot.refl s)) hz
@[simp] theorem State.sendVector_latch (v : Nat) : (s.sendVector v).latch = s.latch := s.sendVector_same (z := .latch) v nofun
@[simp] theorem State.sendVector_hold (v : Nat) : (s.sendVector v).hold = s.hold := s.sendVector_same (z := .hold) v nofun
@[simp] theorem State.sendVector_tarn (v : Nat) : (s.sendVector v).tarn = s.tarn := s.sendVector_same (z := .tarn) v nofun
@[simp] theorem State.sendVector_inlet (v : Nat) : (s.sendVector v).inlet = s.inlet := s.sendVector_same (z := .inlet) v nofun
@[simp] theorem State.sendVector_aeA (v : Nat) : (s.sendVector v).aeA = s.aeA := s.sendVector_same (z := .aeA) v nofun
@[simp] theorem State.sendVector_aeB (v : Nat) : (s.sendVector v).aeB = s.aeB := s.sendVector_same (z := .aeB) v nofun
@[simp] theorem State.sendVector_outlet (v : Nat) : (s.sendVector v).outlet = s.outlet := s.sendVector_same (z := .outlet) v nofun
@[simp] theorem State.sendVector_hif (v : Nat) : (s.sendVector v).hif = s.hif := s.sendVector_same (z := .hif) v nofun
@[simp] theorem State.sendVector_skink (v : Nat) : (s.sendVector v).skink = s.skink := s.sendVector_same (z := .skink) v nofun
@[simp] theorem State.sendVector_spawn (v : Nat) : (s.sendVector v).spawn = s.spawn := s.sendVector_same (z := .spawn) v nofun
@[simp] theorem State.sendVector_fe (v : Nat) : (s.sendVector v).fe = s.fe := s.sendVector_same (z := .fe) v nofun
@[simp] theorem State.sendVector_dio (v : Nat) : (s.sendVector v).dio = s.dio := s.sendVector_same (z := .dio) v nofun
@[simp] theorem State.sendVector_can (v : Nat) : (s.sendVector v).can = s.can := s.sendVector_same (z := .can) v nofun
@[simp] theorem State.sendVector_canWalk (v : Nat) : (s.sendVector v).canWalk = s.canWalk := s.sendVector_same (z := .canWalk) v nofun
@[simp] theorem State.sendVector_ws (v : Nat) : (s.sendVector v).ws = s.ws := s.sendVector_same (z := .ws) v nofun
@[simp] theorem State.sendVector_rtc (v : Nat) : (s.sendVector v).rtc = s.rtc := s.sendVector_same (z := .rtc) v nofun
@[simp] theorem State.sendVector_panel (v : Nat) : (s.sendVector v).panel = s.panel := s.sendVector_same (z := .panel) v nofun
@[simp] theorem State.sendVector_nvm (v : Nat) : (s.sendVector v).nvm = s.nvm := s.sendVector_same (z := .nvm) v nofun
@[simp] theorem State.sendVector_upd (v : Nat) : (s.sendVector v).upd = s.upd := s.sendVector_same (z := .upd) v nofun
@[simp] theorem State.sendVector_gecko (v : Nat) : (s.sendVector v).gecko = s.gecko := s.sendVector_same (z := .gecko) v nofun
@[simp] theorem State.sendVector_behavBoot (v : Nat) : (s.sendVector v).behavBoot = s.behavBoot := s.sendVector_same (z := .behavBoot) v nofun
@[simp] theorem State.sendVector_hostRead (v : Nat) : (s.sendVector v).hostRead = s.hostRead := s.sendVector_same (z := .hostRead) v nofun
@[simp] theorem State.sendVector_free (v : Nat) : (s.sendVector v).free = s.free := s.sendVector_same (z := .free) v nofun
@[simp] theorem State.sendVector_pending (v : Nat) : (s.sendVector v).pending = s.pending := s.sendVector_same (z := .pending) v nofun

/-! ### `State.raise` -/

theorem State.raise_same (o : Off) (m : Nat) {z : Zone} (hz : z ≠ .regs) : z.same s (s.raise o m) := onlyRegs (fun _ _ => raise_foot _ _ _ (Foot.refl s)) hz
@[simp] theorem State.raise_latch (o : Off) (m : Nat) : (s.raise o m).latch = s.latch := s.raise_same (z := .latch) o m nofun
@[simp] theorem State.raise_hold (o : Off) (m : Nat) : (s.raise o m).hold = s.hold := s.raise_same (z := .hold) o m nofun
@[simp] theorem State.raise_tarn (o : Off) (m : Nat) : (s.raise o m).tarn = s.tarn := s.raise_same (z := .tarn) o m nofun
@[simp] theorem State.raise_inlet (o : Off) (m : Nat) : (s.raise o m).inlet = s.inlet := s.raise_same (z := .inlet) o m nofun
@[simp] theorem State.raise_aeA (o : Off) (m : Nat) : (s.raise o m).aeA = s.aeA := s.raise_same (z := .aeA) o m nofun
@[simp] theorem State.raise_aeB (o : Off) (m : Nat) : (s.raise o m).aeB = s.aeB := s.raise_same (z := .aeB) o m nofun
@[simp] theorem State.raise_outlet (o : Off) (m : Nat) : (s.raise o m).outlet = s.outlet := s.raise_same (z := .outlet) o m nofun
@[simp] theorem State.raise_hif (o : Off) (m : Nat) : (s.raise o m).hif = s.hif := s.raise_same (z := .hif) o m nofun
@[simp] theorem State.raise_skink (o : Off) (m : Nat) : (s.raise o m).skink = s.skink := s.raise_same (z := .skink) o m nofun
@[simp] theorem State.raise_spawn (o : Off) (m : Nat) : (s.raise o m).spawn = s.spawn := s.raise_same (z := .spawn) o m nofun
@[simp] theorem State.raise_fe (o : Off) (m : Nat) : (s.raise o m).fe = s.fe := s.raise_same (z := .fe) o m nofun
@[simp] theorem State.raise_dio (o : Off) (m : Nat) : (s.raise o m).dio = s.dio := s.raise_same (z := .dio) o m nofun
@[simp] theorem State.raise_can (o : Off) (m : Nat) : (s.raise o m).can = s.can := s.raise_same (z := .can) o m nofun
@[simp] theorem State.raise_canWalk (o : Off) (m : Nat) : (s.raise o m).canWalk = s.canWalk := s.raise_same (z := .canWalk) o m nofun
@[simp] theorem State.raise_ws (o : Off) (m : Nat) : (s.raise o m).ws = s.ws := s.raise_same (z := .ws) o m nofun
@[simp] theorem State.raise_rtc (o : Off) (m : Nat) : (s.raise o m).rtc = s.rtc := s.raise_same (z := .rtc) o m nofun
@[simp] theorem State.raise_panel (o : Off) (m : Nat) : (s.raise o m).panel = s.panel := s.raise_same (z := .panel) o m nofun
@[simp] theorem State.raise_nvm (o : Off) (m : Nat) : (s.raise o m).nvm = s.nvm := s.raise_same (z := .nvm) o m nofun
@[simp] theorem State.raise_upd (o : Off) (m : Nat) : (s.raise o m).upd = s.upd := s.raise_same (z := .upd) o m nofun
@[simp] theorem State.raise_gecko (o : Off) (m : Nat) : (s.raise o m).gecko = s.gecko := s.raise_same (z := .gecko) o m nofun
@[simp] theorem State.raise_behavBoot (o : Off) (m : Nat) : (s.raise o m).behavBoot = s.behavBoot := s.raise_same (z := .behavBoot) o m nofun
@[simp] theorem State.raise_hostRead (o : Off) (m : Nat) : (s.raise o m).hostRead = s.hostRead := s.raise_same (z := .hostRead) o m nofun
@[simp] theorem State.raise_free (o : Off) (m : Nat) : (s.raise o m).free = s.free := s.raise_same (z := .free) o m nofun
@[simp] theorem State.raise_pending (o : Off) (m : Nat) : (s.raise o m).pending = s.pending := s.raise_same (z := .pending) o m nofun

/-! ### `State.bump` -/

theorem State.bump_same (o : Off) {z : Zone} (hz : z ≠ .regs) : z.same s (s.bump o) := onlyRegs (fun _ _ => bump_foot _ _ (Foot.refl s)) hz
@[simp] theorem State.bump_latch (o : Off) : (s.bump o).latch = s.latch := s.bump_same (z := .latch) o nofun
@[simp] theorem State.bump_hold (o : Off) : (s.bump o).hold = s.hold := s.bump_same (z := .hold) o nofun
@[simp] theorem State.bump_tarn (o : Off) : (s.bump o).tarn = s.tarn := s.bump_same (z := .tarn) o nofun
@[simp] theorem State.bump_inlet (o : Off) : (s.bump o).inlet = s.inlet := s.bump_same (z := .inlet) o nofun
@[simp] theorem State.bump_aeA (o : Off) : (s.bump o).aeA = s.aeA := s.bump_same (z := .aeA) o nofun
@[simp] theorem State.bump_aeB (o : Off) : (s.bump o).aeB = s.aeB := s.bump_same (z := .aeB) o nofun
@[simp] theorem State.bump_outlet (o : Off) : (s.bump o).outlet = s.outlet := s.bump_same (z := .outlet) o nofun
@[simp] theorem State.bump_hif (o : Off) : (s.bump o).hif = s.hif := s.bump_same (z := .hif) o nofun
@[simp] theorem State.bump_skink (o : Off) : (s.bump o).skink = s.skink := s.bump_same (z := .skink) o nofun
@[simp] theorem State.bump_spawn (o : Off) : (s.bump o).spawn = s.spawn := s.bump_same (z := .spawn) o nofun
@[simp] theorem State.bump_fe (o : Off) : (s.bump o).fe = s.fe := s.bump_same (z := .fe) o nofun
@[simp] theorem State.bump_dio (o : Off) : (s.bump o).dio = s.dio := s.bump_same (z := .dio) o nofun
@[simp] theorem State.bump_can (o : Off) : (s.bump o).can = s.can := s.bump_same (z := .can) o nofun
@[simp] theorem State.bump_canWalk (o : Off) : (s.bump o).canWalk = s.canWalk := s.bump_same (z := .canWalk) o nofun
@[simp] theorem State.bump_ws (o : Off) : (s.bump o).ws = s.ws := s.bump_same (z := .ws) o nofun
@[simp] theorem State.bump_rtc (o : Off) : (s.bump o).rtc = s.rtc := s.bump_same (z := .rtc) o nofun
@[simp] theorem State.bump_panel (o : Off) : (s.bump o).panel = s.panel := s.bump_same (z := .panel) o nofun
@[simp] theorem State.bump_nvm (o : Off) : (s.bump o).nvm = s.nvm := s.bump_same (z := .nvm) o nofun
@[simp] theorem State.bump_upd (o : Off) : (s.bump o).upd = s.upd := s.bump_same (z := .upd) o nofun
@[simp] theorem State.bump_gecko (o : Off) : (s.bump o).gecko = s.gecko := s.bump_same (z := .gecko) o nofun
@[simp] theorem State.bump_behavBoot (o : Off) : (s.bump o).behavBoot = s.behavBoot := s.bump_same (z := .behavBoot) o nofun
@[simp] theorem State.bump_hostRead (o : Off) : (s.bump o).hostRead = s.hostRead := s.bump_same (z := .hostRead) o nofun
@[simp] theorem State.bump_free (o : Off) : (s.bump o).free = s.free := s.bump_same (z := .free) o nofun
@[simp] theorem State.bump_pending (o : Off) : (s.bump o).pending = s.pending := s.bump_same (z := .pending) o nofun

/-! ### `State.bumpBy` -/

theorem State.bumpBy_same (o : Off) (n : Nat) {z : Zone} (hz : z ≠ .regs) : z.same s (s.bumpBy o n) := onlyRegs (fun _ _ => bumpBy_foot _ _ _ (Foot.refl s)) hz
@[simp] theorem State.bumpBy_latch (o : Off) (n : Nat) : (s.bumpBy o n).latch = s.latch := s.bumpBy_same (z := .latch) o n nofun
@[simp] theorem State.bumpBy_hold (o : Off) (n : Nat) : (s.bumpBy o n).hold = s.hold := s.bumpBy_same (z := .hold) o n nofun
@[simp] theorem State.bumpBy_tarn (o : Off) (n : Nat) : (s.bumpBy o n).tarn = s.tarn := s.bumpBy_same (z := .tarn) o n nofun
@[simp] theorem State.bumpBy_inlet (o : Off) (n : Nat) : (s.bumpBy o n).inlet = s.inlet := s.bumpBy_same (z := .inlet) o n nofun
@[simp] theorem State.bumpBy_aeA (o : Off) (n : Nat) : (s.bumpBy o n).aeA = s.aeA := s.bumpBy_same (z := .aeA) o n nofun
@[simp] theorem State.bumpBy_aeB (o : Off) (n : Nat) : (s.bumpBy o n).aeB = s.aeB := s.bumpBy_same (z := .aeB) o n nofun
@[simp] theorem State.bumpBy_outlet (o : Off) (n : Nat) : (s.bumpBy o n).outlet = s.outlet := s.bumpBy_same (z := .outlet) o n nofun
@[simp] theorem State.bumpBy_hif (o : Off) (n : Nat) : (s.bumpBy o n).hif = s.hif := s.bumpBy_same (z := .hif) o n nofun
@[simp] theorem State.bumpBy_skink (o : Off) (n : Nat) : (s.bumpBy o n).skink = s.skink := s.bumpBy_same (z := .skink) o n nofun
@[simp] theorem State.bumpBy_spawn (o : Off) (n : Nat) : (s.bumpBy o n).spawn = s.spawn := s.bumpBy_same (z := .spawn) o n nofun
@[simp] theorem State.bumpBy_fe (o : Off) (n : Nat) : (s.bumpBy o n).fe = s.fe := s.bumpBy_same (z := .fe) o n nofun
@[simp] theorem State.bumpBy_dio (o : Off) (n : Nat) : (s.bumpBy o n).dio = s.dio := s.bumpBy_same (z := .dio) o n nofun
@[simp] theorem State.bumpBy_can (o : Off) (n : Nat) : (s.bumpBy o n).can = s.can := s.bumpBy_same (z := .can) o n nofun
@[simp] theorem State.bumpBy_canWalk (o : Off) (n : Nat) : (s.bumpBy o n).canWalk = s.canWalk := s.bumpBy_same (z := .canWalk) o n nofun
@[simp] theorem State.bumpBy_ws (o : Off) (n : Nat) : (s.bumpBy o n).ws = s.ws := s.bumpBy_same (z := .ws) o n nofun
@[simp] theorem State.bumpBy_rtc (o : Off) (n : Nat) : (s.bumpBy o n).rtc = s.rtc := s.bumpBy_same (z := .rtc) o n nofun
@[simp] theorem State.bumpBy_panel (o : Off) (n : Nat) : (s.bumpBy o n).panel = s.panel := s.bumpBy_same (z := .panel) o n nofun
@[simp] theorem State.bumpBy_nvm (o : Off) (n : Nat) : (s.bumpBy o n).nvm = s.nvm := s.bumpBy_same (z := .nvm) o n nofun
@[simp] theorem State.bumpBy_upd (o : Off) (n : Nat) : (s.bumpBy o n).upd = s.upd := s.bumpBy_same (z := .upd) o n nofun
@[simp] theorem State.bumpBy_gecko (o : Off) (n : Nat) : (s.bumpBy o n).gecko = s.gecko := s.bumpBy_same (z := .gecko) o n nofun
@[simp] theorem State.bumpBy_behavBoot (o : Off) (n : Nat) : (s.bumpBy o n).behavBoot = s.behavBoot := s.bumpBy_same (z := .behavBoot) o n nofun
@[simp] theorem State.bumpBy_hostRead (o : Off) (n : Nat) : (s.bumpBy o n).hostRead = s.hostRead := s.bumpBy_same (z := .hostRead) o n nofun
@[simp] theorem State.bumpBy_free (o : Off) (n : Nat) : (s.bumpBy o n).free = s.free := s.bumpBy_same (z := .free) o n nofun
@[simp] theorem State.bumpBy_pending (o : Off) (n : Nat) : (s.bumpBy o n).pending = s.pending := s.bumpBy_same (z := .pending) o n nofun

/-! ### `State.recordMax` -/

theorem State.recordMax_same (o : Off) (n : Nat) {z : Zone} (hz : z ≠ .regs) : z.same s (s.recordMax o n) := onlyRegs (fun _ _ => recordMax_foot _ _ _ (Foot.refl s)) hz
@[simp] theorem State.recordMax_latch (o : Off) (n : Nat) : (s.recordMax o n).latch = s.latch := s.recordMax_same (z := .latch) o n nofun
@[simp] theorem State.recordMax_hold (o : Off) (n : Nat) : (s.recordMax o n).hold = s.hold := s.recordMax_same (z := .hold) o n nofun
@[simp] theorem State.recordMax_tarn (o : Off) (n : Nat) : (s.recordMax o n).tarn = s.tarn := s.recordMax_same (z := .tarn) o n nofun
@[simp] theorem State.recordMax_inlet (o : Off) (n : Nat) : (s.recordMax o n).inlet = s.inlet := s.recordMax_same (z := .inlet) o n nofun
@[simp] theorem State.recordMax_aeA (o : Off) (n : Nat) : (s.recordMax o n).aeA = s.aeA := s.recordMax_same (z := .aeA) o n nofun
@[simp] theorem State.recordMax_aeB (o : Off) (n : Nat) : (s.recordMax o n).aeB = s.aeB := s.recordMax_same (z := .aeB) o n nofun
@[simp] theorem State.recordMax_outlet (o : Off) (n : Nat) : (s.recordMax o n).outlet = s.outlet := s.recordMax_same (z := .outlet) o n nofun
@[simp] theorem State.recordMax_hif (o : Off) (n : Nat) : (s.recordMax o n).hif = s.hif := s.recordMax_same (z := .hif) o n nofun
@[simp] theorem State.recordMax_skink (o : Off) (n : Nat) : (s.recordMax o n).skink = s.skink := s.recordMax_same (z := .skink) o n nofun
@[simp] theorem State.recordMax_spawn (o : Off) (n : Nat) : (s.recordMax o n).spawn = s.spawn := s.recordMax_same (z := .spawn) o n nofun
@[simp] theorem State.recordMax_fe (o : Off) (n : Nat) : (s.recordMax o n).fe = s.fe := s.recordMax_same (z := .fe) o n nofun
@[simp] theorem State.recordMax_dio (o : Off) (n : Nat) : (s.recordMax o n).dio = s.dio := s.recordMax_same (z := .dio) o n nofun
@[simp] theorem State.recordMax_can (o : Off) (n : Nat) : (s.recordMax o n).can = s.can := s.recordMax_same (z := .can) o n nofun
@[simp] theorem State.recordMax_canWalk (o : Off) (n : Nat) : (s.recordMax o n).canWalk = s.canWalk := s.recordMax_same (z := .canWalk) o n nofun
@[simp] theorem State.recordMax_ws (o : Off) (n : Nat) : (s.recordMax o n).ws = s.ws := s.recordMax_same (z := .ws) o n nofun
@[simp] theorem State.recordMax_rtc (o : Off) (n : Nat) : (s.recordMax o n).rtc = s.rtc := s.recordMax_same (z := .rtc) o n nofun
@[simp] theorem State.recordMax_panel (o : Off) (n : Nat) : (s.recordMax o n).panel = s.panel := s.recordMax_same (z := .panel) o n nofun
@[simp] theorem State.recordMax_nvm (o : Off) (n : Nat) : (s.recordMax o n).nvm = s.nvm := s.recordMax_same (z := .nvm) o n nofun
@[simp] theorem State.recordMax_upd (o : Off) (n : Nat) : (s.recordMax o n).upd = s.upd := s.recordMax_same (z := .upd) o n nofun
@[simp] theorem State.recordMax_gecko (o : Off) (n : Nat) : (s.recordMax o n).gecko = s.gecko := s.recordMax_same (z := .gecko) o n nofun
@[simp] theorem State.recordMax_behavBoot (o : Off) (n : Nat) : (s.recordMax o n).behavBoot = s.behavBoot := s.recordMax_same (z := .behavBoot) o n nofun
@[simp] theorem State.recordMax_hostRead (o : Off) (n : Nat) : (s.recordMax o n).hostRead = s.hostRead := s.recordMax_same (z := .hostRead) o n nofun
@[simp] theorem State.recordMax_free (o : Off) (n : Nat) : (s.recordMax o n).free = s.free := s.recordMax_same (z := .free) o n nofun
@[simp] theorem State.recordMax_pending (o : Off) (n : Nat) : (s.recordMax o n).pending = s.pending := s.recordMax_same (z := .pending) o n nofun

/-! ### `State.setMgmt` -/

theorem State.setMgmt_same (st : Nat) {z : Zone} (hz : z ≠ .regs) : z.same s (s.setMgmt st) := onlyRegs (fun _ _ => setMgmt_foot _ _ (Foot.refl s)) hz
@[simp] theorem State.setMgmt_latch (st : Nat) : (s.setMgmt st).latch = s.latch := s.setMgmt_same (z := .latch) st nofun
@[simp] theorem State.setMgmt_hold (st : Nat) : (s.setMgmt st).hold = s.hold := s.setMgmt_same (z := .hold) st nofun
@[simp] theorem State.setMgmt_tarn (st : Nat) : (s.setMgmt st).tarn = s.tarn := s.setMgmt_same (z := .tarn) st nofun
@[simp] theorem State.setMgmt_inlet (st : Nat) : (s.setMgmt st).inlet = s.inlet := s.setMgmt_same (z := .inlet) st nofun
@[simp] theorem State.setMgmt_aeA (st : Nat) : (s.setMgmt st).aeA = s.aeA := s.setMgmt_same (z := .aeA) st nofun
@[simp] theorem State.setMgmt_aeB (st : Nat) : (s.setMgmt st).aeB = s.aeB := s.setMgmt_same (z := .aeB) st nofun
@[simp] theorem State.setMgmt_outlet (st : Nat) : (s.setMgmt st).outlet = s.outlet := s.setMgmt_same (z := .outlet) st nofun
@[simp] theorem State.setMgmt_hif (st : Nat) : (s.setMgmt st).hif = s.hif := s.setMgmt_same (z := .hif) st nofun
@[simp] theorem State.setMgmt_skink (st : Nat) : (s.setMgmt st).skink = s.skink := s.setMgmt_same (z := .skink) st nofun
@[simp] theorem State.setMgmt_spawn (st : Nat) : (s.setMgmt st).spawn = s.spawn := s.setMgmt_same (z := .spawn) st nofun
@[simp] theorem State.setMgmt_fe (st : Nat) : (s.setMgmt st).fe = s.fe := s.setMgmt_same (z := .fe) st nofun
@[simp] theorem State.setMgmt_dio (st : Nat) : (s.setMgmt st).dio = s.dio := s.setMgmt_same (z := .dio) st nofun
@[simp] theorem State.setMgmt_can (st : Nat) : (s.setMgmt st).can = s.can := s.setMgmt_same (z := .can) st nofun
@[simp] theorem State.setMgmt_canWalk (st : Nat) : (s.setMgmt st).canWalk = s.canWalk := s.setMgmt_same (z := .canWalk) st nofun
@[simp] theorem State.setMgmt_ws (st : Nat) : (s.setMgmt st).ws = s.ws := s.setMgmt_same (z := .ws) st nofun
@[simp] theorem State.setMgmt_rtc (st : Nat) : (s.setMgmt st).rtc = s.rtc := s.setMgmt_same (z := .rtc) st nofun
@[simp] theorem State.setMgmt_panel (st : Nat) : (s.setMgmt st).panel = s.panel := s.setMgmt_same (z := .panel) st nofun
@[simp] theorem State.setMgmt_nvm (st : Nat) : (s.setMgmt st).nvm = s.nvm := s.setMgmt_same (z := .nvm) st nofun
@[simp] theorem State.setMgmt_upd (st : Nat) : (s.setMgmt st).upd = s.upd := s.setMgmt_same (z := .upd) st nofun
@[simp] theorem State.setMgmt_gecko (st : Nat) : (s.setMgmt st).gecko = s.gecko := s.setMgmt_same (z := .gecko) st nofun
@[simp] theorem State.setMgmt_behavBoot (st : Nat) : (s.setMgmt st).behavBoot = s.behavBoot := s.setMgmt_same (z := .behavBoot) st nofun
@[simp] theorem State.setMgmt_hostRead (st : Nat) : (s.setMgmt st).hostRead = s.hostRead := s.setMgmt_same (z := .hostRead) st nofun
@[simp] theorem State.setMgmt_free (st : Nat) : (s.setMgmt st).free = s.free := s.setMgmt_same (z := .free) st nofun
@[simp] theorem State.setMgmt_pending (st : Nat) : (s.setMgmt st).pending = s.pending := s.setMgmt_same (z := .pending) st nofun

/-! ### `State.ignored` -/

theorem State.ignored_same (o : Off) (why : Nat) (b : Bool) {z : Zone} (hz : z ≠ .regs) : z.same s (s.ignored o why b) := onlyRegs (fun _ _ => ignored_foot _ _ _ _ (Foot.refl s)) hz
@[simp] theorem State.ignored_latch (o : Off) (why : Nat) (b : Bool) : (s.ignored o why b).latch = s.latch := s.ignored_same (z := .latch) o why b nofun
@[simp] theorem State.ignored_hold (o : Off) (why : Nat) (b : Bool) : (s.ignored o why b).hold = s.hold := s.ignored_same (z := .hold) o why b nofun
@[simp] theorem State.ignored_tarn (o : Off) (why : Nat) (b : Bool) : (s.ignored o why b).tarn = s.tarn := s.ignored_same (z := .tarn) o why b nofun
@[simp] theorem State.ignored_inlet (o : Off) (why : Nat) (b : Bool) : (s.ignored o why b).inlet = s.inlet := s.ignored_same (z := .inlet) o why b nofun
@[simp] theorem State.ignored_aeA (o : Off) (why : Nat) (b : Bool) : (s.ignored o why b).aeA = s.aeA := s.ignored_same (z := .aeA) o why b nofun
@[simp] theorem State.ignored_aeB (o : Off) (why : Nat) (b : Bool) : (s.ignored o why b).aeB = s.aeB := s.ignored_same (z := .aeB) o why b nofun
@[simp] theorem State.ignored_outlet (o : Off) (why : Nat) (b : Bool) : (s.ignored o why b).outlet = s.outlet := s.ignored_same (z := .outlet) o why b nofun
@[simp] theorem State.ignored_hif (o : Off) (why : Nat) (b : Bool) : (s.ignored o why b).hif = s.hif := s.ignored_same (z := .hif) o why b nofun
@[simp] theorem State.ignored_skink (o : Off) (why : Nat) (b : Bool) : (s.ignored o why b).skink = s.skink := s.ignored_same (z := .skink) o why b nofun
@[simp] theorem State.ignored_spawn (o : Off) (why : Nat) (b : Bool) : (s.ignored o why b).spawn = s.spawn := s.ignored_same (z := .spawn) o why b nofun
@[simp] theorem State.ignored_fe (o : Off) (why : Nat) (b : Bool) : (s.ignored o why b).fe = s.fe := s.ignored_same (z := .fe) o why b nofun
@[simp] theorem State.ignored_dio (o : Off) (why : Nat) (b : Bool) : (s.ignored o why b).dio = s.dio := s.ignored_same (z := .dio) o why b nofun
@[simp] theorem State.ignored_can (o : Off) (why : Nat) (b : Bool) : (s.ignored o why b).can = s.can := s.ignored_same (z := .can) o why b nofun
@[simp] theorem State.ignored_canWalk (o : Off) (why : Nat) (b : Bool) : (s.ignored o why b).canWalk = s.canWalk := s.ignored_same (z := .canWalk) o why b nofun
@[simp] theorem State.ignored_ws (o : Off) (why : Nat) (b : Bool) : (s.ignored o why b).ws = s.ws := s.ignored_same (z := .ws) o why b nofun
@[simp] theorem State.ignored_rtc (o : Off) (why : Nat) (b : Bool) : (s.ignored o why b).rtc = s.rtc := s.ignored_same (z := .rtc) o why b nofun
@[simp] theorem State.ignored_panel (o : Off) (why : Nat) (b : Bool) : (s.ignored o why b).panel = s.panel := s.ignored_same (z := .panel) o why b nofun
@[simp] theorem State.ignored_nvm (o : Off) (why : Nat) (b : Bool) : (s.ignored o why b).nvm = s.nvm := s.ignored_same (z := .nvm) o why b nofun
@[simp] theorem State.ignored_upd (o : Off) (why : Nat) (b : Bool) : (s.ignored o why b).upd = s.upd := s.ignored_same (z := .upd) o why b nofun
@[simp] theorem State.ignored_gecko (o : Off) (why : Nat) (b : Bool) : (s.ignored o why b).gecko = s.gecko := s.ignored_same (z := .gecko) o why b nofun
@[simp] theorem State.ignored_behavBoot (o : Off) (why : Nat) (b : Bool) : (s.ignored o why b).behavBoot = s.behavBoot := s.ignored_same (z := .behavBoot) o why b nofun
@[simp] theorem State.ignored_hostRead (o : Off) (why : Nat) (b : Bool) : (s.ignored o why b).hostRead = s.hostRead := s.ignored_same (z := .hostRead) o why b nofun
@[simp] theorem State.ignored_free (o : Off) (why : Nat) (b : Bool) : (s.ignored o why b).free = s.free := s.ignored_same (z := .free) o why b nofun
@[simp] theorem State.ignored_pending (o : Off) (why : Nat) (b : Bool) : (s.ignored o why b).pending = s.pending := s.ignored_same (z := .pending) o why b nofun

end Sys2Proof.Machine
end

