-- ==== Sys2Proof/Laws/Mode.lean ====
section
/-! SUPPORT. The node state through every operation that does not move it: MGMT_STATE stays, or a fault of R37 halts the node. -/

set_option Elab.async false
set_option linter.unusedTactic false
set_option linter.unreachableTactic false

namespace Sys2Proof.Machine

/-- MGMT_STATE.STATE as the register file holds it. -/
def modeOf (regs : Sparse U32) : Nat := fld ((Sparse.find regs Reg.MGMT_STATE).getD 0) 0 3

theorem State.mgmt_eq (s : State) : s.mgmt = modeOf s.regs := by
  unfold State.mgmt State.rfld State.reg modeOf
  cases Sparse.find s.regs Reg.MGMT_STATE <;> rfl

/-- The node state is that of `r`, or the node has halted from SETUP, RUN or REPLAY. -/
def ModeOf (r : State) (regs : Sparse U32) : Prop :=
  modeOf regs = modeOf r.regs ∨ (modeOf r.regs ∈ [Node.setup, Node.run, Node.replay] ∧ modeOf regs = Node.faultHalt)

structure Mode (r t : State) : Prop where
  out : ModeOf r t.regs

theorem Mode.refl (r : State) : Mode r r := ⟨.inl rfl⟩

variable {r : State}

/-- A record update that leaves the register file alone. -/
theorem Mode.upd {s : State} {x1 : _} {x2 : _} {x3 : _} {x4 : _} {x5 : _} {x6 : _} {x7 : _} {x8 : _} {x9 : _} {x10 : _} {x11 : _} {x12 : _} {x13 : _} {x14 : _} {x15 : _} {x16 : _} {x17 : _} {x18 : _} {x19 : _} {x20 : _} {x21 : _} {x22 : _} {x23 : _} {x24 : _} {x25 : _} (h : Mode r s) :
    Mode r (State.mk s.regs x1 x2 x3 x4 x5 x6 x7 x8 x9 x10 x11 x12 x13 x14 x15 x16 x17 x18 x19 x20 x21 x22 x23 x24 x25) := ⟨h.out⟩

theorem foldl_mode {α : Type} (g : State → α → State) (hg : ∀ s x, Mode r s → Mode r (g s x)) (l : List α) (s : State)
    (h : Mode r s) : Mode r (l.foldl g s) := by
  induction l generalizing s with
  | nil => exact h
  | cons x l ih => exact ih _ (hg s x h)

theorem ite_mode (c : Prop) [Decidable c] (a b : State) (ha : c → Mode r a) (hb : ¬c → Mode r b) :
    Mode r (if c then a else b) := by
  split
  · exact ha ‹_›
  · exact hb ‹_›

theorem off_ne {a b : Nat} (h : 0x18 < a) : a + b ≠ Reg.MGMT_STATE := Nat.ne_of_gt (Nat.lt_of_lt_of_le h (Nat.le_add_right a b))
theorem off_lt {a b : Nat} (h : 0x18 < a) : 0x18 < a + b := Nat.lt_of_lt_of_le h (Nat.le_add_right a b)

theorem setReg_mode (s : State) (o : Off) (v : U32) (h : Mode r s) (ho : o ≠ Reg.MGMT_STATE) : Mode r (s.setReg o v) := by
  have h := h.out
  refine ⟨?_⟩
  unfold ModeOf modeOf at *
  simpa only [State.setReg_regs, Sparse.find_insert_ne _ _ ho.symm] using h

theorem setRegFld_mode (s : State) (o : Off) (lo n x : Nat) (h : Mode r s) (ho : o ≠ Reg.MGMT_STATE) : Mode r (s.setRegFld o lo n x) :=
  setReg_mode _ _ _ h ho

theorem setRegBit_mode (s : State) (o : Off) (i : Nat) (b : Bool) (h : Mode r s) (ho : o ≠ Reg.MGMT_STATE) : Mode r (s.setRegBit o i b) :=
  setReg_mode _ _ _ h ho

theorem setPair_mode (s : State) (lo hi : Off) (v : U64) (h : Mode r s) (ho : lo ≠ Reg.MGMT_STATE) (hp : hi ≠ Reg.MGMT_STATE) :
    Mode r (s.setPair lo hi v) := setReg_mode _ _ _ (setReg_mode _ _ _ h ho) hp

theorem fresh_mode (s : State) (h : Mode r s) : Mode r (State.fresh s) := by
  unfold State.fresh
  try extract_lets
  repeat' first
    | with_reducible assumption | with_reducible apply foldl_mode | with_reducible apply ite_mode | decide | with_reducible refine off_ne ?_
    | with_reducible refine off_lt ?_ | intro _ | split | contradiction | dsimp only | refine Mode.upd ?_

theorem emitOut_mode (s : State) (o : Output) (h : Mode r s) : Mode r (State.emitOut s o) := by
  unfold State.emitOut
  try extract_lets
  repeat' first
    | with_reducible assumption | with_reducible apply foldl_mode | with_reducible apply ite_mode | decide | with_reducible refine off_ne ?_
    | with_reducible refine off_lt ?_ | intro _ | split | contradiction | dsimp only | refine Mode.upd ?_

theorem draw_mode (s : State) (h : Mode r s) : Mode r (State.draw s).2 := by
  unfold State.draw
  try extract_lets
  repeat' first
    | with_reducible assumption | with_reducible apply foldl_mode | with_reducible apply ite_mode | decide | with_reducible refine off_ne ?_
    | with_reducible refine off_lt ?_ | intro _ | split | contradiction | dsimp only | refine Mode.upd ?_

theorem sendVector_mode (s : State) (v : Nat) (h : Mode r s) : Mode r (s.sendVector v) := by
  unfold State.sendVector
  split
  · exact setRegBit_mode _ _ _ _ h (by decide)
  · exact h.upd

theorem hifMessage_mode (s : State) (h : Mode r s) : Mode r s.hifMessage := by
  unfold State.hifMessage
  split
  · exact sendVector_mode _ _ h
  · exact h

theorem summarise_mode (before after : State) (h : Mode r after) : Mode r (State.summarise before after) := by
  unfold State.summarise
  split
  · exact h
  · exact hifMessage_mode _ h

theorem raise_mode (s : State) (o : Off) (m : Nat) (h : Mode r s) (ho : o ≠ Reg.MGMT_STATE) : Mode r (s.raise o m) := by
  unfold State.raise
  have h1 := setReg_mode s o (s.reg o ||| BitVec.ofNat 32 m) h ho
  split
  · exact hifMessage_mode _ h1
  · exact summarise_mode _ _ h1

theorem bumpBy_mode (s : State) (o : Off) (n : Nat) (h : Mode r s) (ho : o ≠ Reg.MGMT_STATE) : Mode r (s.bumpBy o n) :=
  setReg_mode _ _ _ h ho

theorem bump_mode (s : State) (o : Off) (h : Mode r s) (ho : o ≠ Reg.MGMT_STATE) : Mode r (s.bump o) := setReg_mode _ _ _ h ho

theorem recordMax_mode (s : State) (o : Off) (n : Nat) (h : Mode r s) (ho : o ≠ Reg.MGMT_STATE) : Mode r (s.recordMax o n) := by
  unfold State.recordMax
  split
  · exact setReg_mode _ _ _ h ho
  · exact h

theorem ite_off {c : Prop} [Decidable c] {a b : Off} (ha : a ≠ Reg.MGMT_STATE) (hb : b ≠ Reg.MGMT_STATE) :
    (if c then a else b) ≠ Reg.MGMT_STATE := by
  split
  · exact ha
  · exact hb

theorem ignored_mode (s : State) (o : Off) (why : Nat) (tarn : Bool) (h : Mode r s) : Mode r (s.ignored o why tarn) := by
  unfold State.ignored
  extract_lets hif s1 s2
  exact raise_mode _ _ _ (setReg_mode _ _ _ (bump_mode _ _ h (ite_off (by decide) (by decide))) (by decide)) (by decide)

theorem endContinuous_mode (s : State) (h : Mode r s) : Mode r (State.endContinuous s) := by
  unfold State.endContinuous
  try extract_lets
  repeat' first
    | with_reducible assumption | with_reducible apply setRegFld_mode | with_reducible apply foldl_mode | with_reducible apply ite_mode | decide
    | with_reducible refine off_ne ?_ | with_reducible refine off_lt ?_ | intro _ | split | contradiction | dsimp only | refine Mode.upd ?_

theorem updLane_mode (s : State) (n : Nat) (f : Lane → Lane) (h : Mode r s) : Mode r (State.updLane s n f) := by
  unfold State.updLane
  try extract_lets
  repeat' first
    | with_reducible assumption | with_reducible apply foldl_mode | with_reducible apply ite_mode | decide | with_reducible refine off_ne ?_
    | with_reducible refine off_lt ?_ | intro _ | split | contradiction | dsimp only | refine Mode.upd ?_

theorem restSource_mode (s : State) (k : Nat) (h : Mode r s) : Mode r (State.restSource s k) := by
  unfold State.restSource
  try extract_lets
  repeat' first
    | with_reducible assumption | with_reducible apply setReg_mode | with_reducible apply foldl_mode | with_reducible apply ite_mode | decide
    | with_reducible refine off_ne ?_ | with_reducible refine off_lt ?_ | intro _ | split | contradiction | dsimp only

theorem restSources_mode (s : State) (h : Mode r s) : Mode r (State.restSources s) := by
  unfold State.restSources
  try extract_lets
  repeat' first
    | with_reducible assumption | with_reducible apply restSource_mode | with_reducible apply foldl_mode | with_reducible apply ite_mode | decide
    | with_reducible refine off_ne ?_ | with_reducible refine off_lt ?_ | intro _ | split | contradiction | dsimp only

theorem lanesEnd_mode (s : State) (f : Lane → Lane) (h : Mode r s) : Mode r (State.lanesEnd s f) := by
  unfold State.lanesEnd
  try extract_lets
  repeat' first
    | with_reducible assumption | with_reducible apply restSources_mode | with_reducible apply updLane_mode | with_reducible apply foldl_mode
    | with_reducible apply ite_mode | decide | with_reducible refine off_ne ?_ | with_reducible refine off_lt ?_ | intro _ | split | contradiction
    | dsimp only

theorem requestsEnd_mode (s : State) (h : Mode r s) : Mode r (State.requestsEnd s) := by
  unfold State.requestsEnd
  try extract_lets
  repeat' first
    | with_reducible assumption | with_reducible apply setPair_mode | with_reducible apply foldl_mode | with_reducible apply ite_mode | decide
    | with_reducible refine off_ne ?_ | with_reducible refine off_lt ?_ | intro _ | split | contradiction | dsimp only | refine Mode.upd ?_

theorem tarnWrite_mode (s : State) (o : Nat) (bs : List Byte) (h : Mode r s) : Mode r (State.tarnWrite s o bs) := by
  unfold State.tarnWrite
  try extract_lets
  repeat' first
    | with_reducible assumption | with_reducible apply foldl_mode | with_reducible apply ite_mode | decide | with_reducible refine off_ne ?_
    | with_reducible refine off_lt ?_ | intro _ | split | contradiction | dsimp only | refine Mode.upd ?_

theorem rewritten_mode (s : State) (hit : Nat → Nat → Bool) (h : Mode r s) : Mode r (State.rewritten s hit) := by
  unfold State.rewritten
  try extract_lets
  repeat' first
    | with_reducible assumption | with_reducible apply foldl_mode | with_reducible apply ite_mode | decide | with_reducible refine off_ne ?_
    | with_reducible refine off_lt ?_ | intro _ | split | contradiction | dsimp only | refine Mode.upd ?_

theorem lineWritten_mode (s : State) (o : Nat) (n : Nat) (h : Mode r s) : Mode r (State.lineWritten s o n) := by
  unfold State.lineWritten
  try extract_lets
  repeat' first
    | with_reducible assumption | with_reducible apply rewritten_mode | with_reducible apply foldl_mode | with_reducible apply ite_mode | decide
    | with_reducible refine off_ne ?_ | with_reducible refine off_lt ?_ | intro _ | split | contradiction | dsimp only

theorem clearUe_mode (s : State) (o : Nat) (n : Nat) (h : Mode r s) : Mode r (State.clearUe s o n) := by
  unfold State.clearUe
  try extract_lets
  repeat' first
    | with_reducible assumption | with_reducible apply lineWritten_mode | with_reducible apply foldl_mode | with_reducible apply ite_mode | decide
    | with_reducible refine off_ne ?_ | with_reducible refine off_lt ?_ | intro _ | split | contradiction | dsimp only | refine Mode.upd ?_

theorem statesWritten_mode (s : State) (h : Mode r s) : Mode r (State.statesWritten s) := by
  unfold State.statesWritten
  try extract_lets
  repeat' first
    | with_reducible assumption | with_reducible apply rewritten_mode | with_reducible apply foldl_mode | with_reducible apply ite_mode | decide
    | with_reducible refine off_ne ?_ | with_reducible refine off_lt ?_ | intro _ | split | contradiction | dsimp only

theorem tarnStore_mode (s : State) (o : Nat) (bs : List Byte) (h : Mode r s) : Mode r (State.tarnStore s o bs) := by
  unfold State.tarnStore
  try extract_lets
  repeat' first
    | with_reducible assumption | with_reducible apply clearUe_mode | with_reducible apply tarnWrite_mode | with_reducible apply foldl_mode
    | with_reducible apply ite_mode | decide | with_reducible refine off_ne ?_ | with_reducible refine off_lt ?_ | intro _ | split | contradiction
    | dsimp only

theorem setEng_mode (s : State) (e : EngineId) (x : Engine) (h : Mode r s) : Mode r (State.setEng s e x) := by
  unfold State.setEng
  try extract_lets
  repeat' first
    | with_reducible assumption | with_reducible apply foldl_mode | with_reducible apply ite_mode | decide | with_reducible refine off_ne ?_
    | with_reducible refine off_lt ?_ | intro _ | split | contradiction | dsimp only | refine Mode.upd ?_

theorem updEng_mode (s : State) (e : EngineId) (f : Engine → Engine) (h : Mode r s) : Mode r (State.updEng s e f) := by
  unfold State.updEng
  try extract_lets
  repeat' first
    | with_reducible assumption | with_reducible apply setEng_mode | with_reducible apply foldl_mode | with_reducible apply ite_mode | decide
    | with_reducible refine off_ne ?_ | with_reducible refine off_lt ?_ | intro _ | split | contradiction | dsimp only

theorem bumpView_mode (s : State) (e : EngineId) (o : Off) (h : Mode r s) (ho : o ≠ Reg.MGMT_STATE) : Mode r (s.bumpView e o) := by
  unfold State.bumpView
  split
  · exact bump_mode _ _ h ho
  · exact h

theorem setHostIdx_mode (s : State) (n : Nat) (i : U32) (h : Mode r s) : Mode r (State.setHostIdx s n i) := by
  unfold State.setHostIdx
  try extract_lets
  repeat' first
    | with_reducible assumption | with_reducible apply foldl_mode | with_reducible apply ite_mode | decide | with_reducible refine off_ne ?_
    | with_reducible refine off_lt ?_ | intro _ | split | contradiction | dsimp only | refine Mode.upd ?_

theorem report_mode (s : State) (n : Nat) (now : Bool) (h : Mode r s) : Mode r (State.report s n now) := by
  unfold State.report
  try extract_lets
  repeat' first
    | with_reducible assumption | with_reducible apply sendVector_mode | with_reducible apply foldl_mode | with_reducible apply ite_mode | decide
    | with_reducible refine off_ne ?_ | with_reducible refine off_lt ?_ | intro _ | split | contradiction | dsimp only | refine Mode.upd ?_

theorem advanceRing_mode (s : State) (n : Nat) (now : Bool) (h : Mode r s) : Mode r (State.advanceRing s n now) := by
  unfold State.advanceRing
  try extract_lets
  repeat' first
    | with_reducible assumption | with_reducible apply bump_mode | with_reducible apply setReg_mode | with_reducible apply emitOut_mode
    | with_reducible apply report_mode | with_reducible apply foldl_mode | with_reducible apply ite_mode | decide | with_reducible refine off_ne ?_
    | with_reducible refine off_lt ?_ | intro _ | split | contradiction | dsimp only

theorem postEntry_mode (s : State) (n : Nat) (data : List Byte) (now : Bool) (h : Mode r s) : Mode r (State.postEntry s n data now) := by
  unfold State.postEntry
  try extract_lets
  repeat' first
    | with_reducible assumption | with_reducible apply advanceRing_mode | with_reducible apply emitOut_mode | with_reducible apply foldl_mode
    | with_reducible apply ite_mode | decide | with_reducible refine off_ne ?_ | with_reducible refine off_lt ?_ | intro _ | split | contradiction
    | dsimp only

theorem ringLoss_mode (s : State) (n : Nat) (h : Mode r s) : Mode r (State.ringLoss s n) := by
  unfold State.ringLoss
  try extract_lets
  repeat' first
    | with_reducible assumption | with_reducible apply bump_mode | with_reducible apply foldl_mode | with_reducible apply ite_mode | decide
    | with_reducible refine off_ne ?_ | with_reducible refine off_lt ?_ | intro _ | split | contradiction | dsimp only | refine Mode.upd ?_

theorem postLossy_mode (s : State) (n : Nat) (data : List Byte) (h : Mode r s) : Mode r (State.postLossy s n data) := by
  unfold State.postLossy
  try extract_lets
  repeat' first
    | with_reducible assumption | with_reducible apply postEntry_mode | with_reducible apply ringLoss_mode | with_reducible apply foldl_mode
    | with_reducible apply ite_mode | decide | with_reducible refine off_ne ?_ | with_reducible refine off_lt ?_ | intro _ | split | contradiction
    | dsimp only

theorem ringError_mode (s : State) (n : Nat) (code : Nat) (h : Mode r s) : Mode r (State.ringError s n code) := by
  unfold State.ringError
  try extract_lets
  repeat' first
    | with_reducible assumption | with_reducible apply setRegFld_mode | with_reducible apply setRegBit_mode | with_reducible apply raise_mode
    | with_reducible apply bump_mode | with_reducible apply foldl_mode | with_reducible apply ite_mode | decide | with_reducible refine off_ne ?_
    | with_reducible refine off_lt ?_ | intro _ | split | contradiction | dsimp only

theorem postBuffer_mode (s : State) (n : Nat) (addr : Option Nat) (desc : List Byte) (data : List Byte) (h : Mode r s) : Mode r (State.postBuffer s n addr desc data) := by
  unfold State.postBuffer
  try extract_lets
  repeat' first
    | with_reducible assumption | with_reducible apply emitOut_mode | with_reducible apply ringError_mode | with_reducible apply advanceRing_mode
    | with_reducible apply foldl_mode | with_reducible apply ite_mode | decide | with_reducible refine off_ne ?_ | with_reducible refine off_lt ?_
    | intro _ | split | contradiction | dsimp only

theorem readBuffer_mode (s : State) (desc : List Byte) (h : Mode r s) : Mode r (State.readBuffer s desc) := by
  unfold State.readBuffer
  try extract_lets
  repeat' first
    | with_reducible assumption | with_reducible apply emitOut_mode | with_reducible apply foldl_mode | with_reducible apply ite_mode | decide
    | with_reducible refine off_ne ?_ | with_reducible refine off_lt ?_ | intro _ | split | contradiction | dsimp only

theorem consume_mode (s : State) (n : Nat) (h : Mode r s) : Mode r (State.consume s n) := by
  unfold State.consume
  try extract_lets
  repeat' first
    | with_reducible assumption | with_reducible apply advanceRing_mode | with_reducible apply foldl_mode | with_reducible apply ite_mode | decide
    | with_reducible refine off_ne ?_ | with_reducible refine off_lt ?_ | intro _ | split | contradiction | dsimp only | refine Mode.upd ?_

theorem takeSsn_mode (s : State) (src : U16) (h : Mode r s) : Mode r (State.takeSsn s src).2 := by
  unfold State.takeSsn
  try extract_lets
  repeat' first
    | with_reducible assumption | with_reducible apply foldl_mode | with_reducible apply ite_mode | decide | with_reducible refine off_ne ?_
    | with_reducible refine off_lt ?_ | intro _ | split | contradiction | dsimp only | refine Mode.upd ?_

theorem overrun_mode (s : State) (pl : Nat) (h : Mode r s) : Mode r (s.overrun pl) := by
  unfold State.overrun
  extract_lets g s1
  have ho : placeOvr pl ≠ Reg.MGMT_STATE := by
    unfold placeOvr
    repeat' split
    all_goals first | decide | refine off_ne ?_; repeat' first | decide | refine off_lt ?_
  exact raise_mode _ _ _ (bump_mode s1 _ (h.upd) ho) (by decide)

theorem offer_mode (s : State) (pl : Nat) (r1 : InRec) (h : Mode r s) : Mode r (State.offer s pl r1) := by
  unfold State.offer
  try extract_lets
  repeat' first
    | with_reducible assumption | with_reducible apply takeSsn_mode
    | (with_reducible refine Eq.mp (congrArg (Mode r) (congrArg Prod.snd ‹_ = (_, _)›)) (takeSsn_mode ..)) | with_reducible apply overrun_mode
    | with_reducible apply foldl_mode | with_reducible apply ite_mode | decide | with_reducible refine off_ne ?_ | with_reducible refine off_lt ?_
    | intro _ | split | contradiction | dsimp only | refine Mode.upd ?_

theorem markLoss_mode (s : State) (src : U16) (h : Mode r s) : Mode r (State.markLoss s src) := by
  unfold State.markLoss
  try extract_lets
  repeat' first
    | with_reducible assumption | with_reducible apply foldl_mode | with_reducible apply ite_mode | decide | with_reducible refine off_ne ?_
    | with_reducible refine off_lt ?_ | intro _ | split | contradiction | dsimp only | refine Mode.upd ?_

theorem complete_mode (s : State) (tag : U32) (irq : Bool) (opcode : Nat) (status : Nat) (result : U64) (h : Mode r s) : Mode r (State.complete s tag irq opcode status result) := by
  unfold State.complete
  try extract_lets
  repeat' first
    | with_reducible assumption | with_reducible apply foldl_mode | with_reducible apply ite_mode | decide | with_reducible refine off_ne ?_
    | with_reducible refine off_lt ?_ | intro _ | split | contradiction | dsimp only | refine Mode.upd ?_

theorem defer_mode (s : State) (tag : U32) (irq : Bool) (opcode : Nat) (h : Mode r s) : Mode r (State.defer s tag irq opcode) := by
  unfold State.defer
  try extract_lets
  repeat' first
    | with_reducible assumption | with_reducible apply foldl_mode | with_reducible apply ite_mode | decide | with_reducible refine off_ne ?_
    | with_reducible refine off_lt ?_ | intro _ | split | contradiction | dsimp only | refine Mode.upd ?_

theorem finish_mode (s : State) (tag : U32) (irq : Bool) (opcode : Nat) (status : Nat) (result : U64) (h : Mode r s) : Mode r (State.finish s tag irq opcode status result) := by
  unfold State.finish
  try extract_lets
  repeat' first
    | with_reducible assumption | with_reducible apply complete_mode | with_reducible apply foldl_mode | with_reducible apply ite_mode | decide
    | with_reducible refine off_ne ?_ | with_reducible refine off_lt ?_ | intro _ | split | contradiction | dsimp only | refine Mode.upd ?_

theorem closeRunning_mode (s : State) (r1 : Running) (h : Mode r s) : Mode r (State.closeRunning s r1) := by
  unfold State.closeRunning
  try extract_lets
  repeat' first
    | with_reducible assumption | with_reducible apply emitOut_mode | with_reducible apply complete_mode | with_reducible apply foldl_mode
    | with_reducible apply ite_mode | decide | with_reducible refine off_ne ?_ | with_reducible refine off_lt ?_ | intro _ | split | contradiction
    | dsimp only

theorem fromSetup_mode (s : State) (o : Off) (reason : Nat) (f : State → State) (h : Mode r s) (h_f : ∀ t, Mode r t → Mode r (f t)) : Mode r (State.fromSetup s o reason f) := by
  unfold State.fromSetup
  try extract_lets
  repeat' first
    | with_reducible assumption | with_reducible apply h_f | with_reducible apply ignored_mode | with_reducible apply foldl_mode
    | with_reducible apply ite_mode | decide | with_reducible refine off_ne ?_ | with_reducible refine off_lt ?_ | intro _ | split | contradiction
    | dsimp only

theorem updNvm_mode (s : State) (f : Nvm → Nvm) (h : Mode r s) : Mode r (State.updNvm s f) := by
  unfold State.updNvm
  try extract_lets
  repeat' first
    | with_reducible assumption | with_reducible apply foldl_mode | with_reducible apply ite_mode | decide | with_reducible refine off_ne ?_
    | with_reducible refine off_lt ?_ | intro _ | split | contradiction | dsimp only | refine Mode.upd ?_

theorem updRegion_mode (s : State) (k : Nat) (f : Settings → Settings) (h : Mode r s) : Mode r (State.updRegion s k f) := by
  unfold State.updRegion
  try extract_lets
  repeat' first
    | with_reducible assumption | with_reducible apply updNvm_mode | with_reducible apply foldl_mode | with_reducible apply ite_mode | decide
    | with_reducible refine off_ne ?_ | with_reducible refine off_lt ?_ | intro _ | split | contradiction | dsimp only

theorem saveQuota_mode (s : State) (f : Quotas → Quotas) (h : Mode r s) : Mode r (State.saveQuota s f) := by
  unfold State.saveQuota
  try extract_lets
  repeat' first
    | with_reducible assumption | with_reducible apply updRegion_mode | with_reducible apply foldl_mode | with_reducible apply ite_mode | decide
    | with_reducible refine off_ne ?_ | with_reducible refine off_lt ?_ | intro _ | split | contradiction | dsimp only

theorem setCap_mode (s : State) (c : Nat) (h : Mode r s) : Mode r (State.setCap s c) := by
  unfold State.setCap
  try extract_lets
  repeat' first
    | with_reducible assumption | with_reducible apply setRegFld_mode | with_reducible apply foldl_mode | with_reducible apply ite_mode | decide
    | with_reducible refine off_ne ?_ | with_reducible refine off_lt ?_ | intro _ | split | contradiction | dsimp only

theorem updSpawn_mode (s : State) (f : Spawn → Spawn) (h : Mode r s) : Mode r (State.updSpawn s f) := by
  unfold State.updSpawn
  try extract_lets
  repeat' first
    | with_reducible assumption | with_reducible apply foldl_mode | with_reducible apply ite_mode | decide | with_reducible refine off_ne ?_
    | with_reducible refine off_lt ?_ | intro _ | split | contradiction | dsimp only | refine Mode.upd ?_

theorem ringPut_mode (s : State) (rec : List Byte) (h : Mode r s) : Mode r (State.ringPut s rec) := by
  unfold State.ringPut
  try extract_lets
  repeat' first
    | with_reducible assumption | with_reducible apply lineWritten_mode | with_reducible apply updSpawn_mode | with_reducible apply setPair_mode
    | with_reducible apply foldl_mode | with_reducible apply ite_mode | decide | with_reducible refine off_ne ?_ | with_reducible refine off_lt ?_
    | intro _ | split | contradiction | dsimp only

theorem countPost_mode (s : State) (n : Nat) (h : Mode r s) : Mode r (State.countPost s n) := by
  unfold State.countPost
  try extract_lets
  repeat' first
    | with_reducible assumption | with_reducible apply updSpawn_mode | with_reducible apply foldl_mode | with_reducible apply ite_mode | decide
    | with_reducible refine off_ne ?_ | with_reducible refine off_lt ?_ | intro _ | split | contradiction | dsimp only

theorem journal_mode (s : State) (rec : List Byte) (h : Mode r s) : Mode r (State.journal s rec) := by
  unfold State.journal
  try extract_lets
  repeat' first
    | with_reducible assumption | with_reducible apply countPost_mode | with_reducible apply updSpawn_mode | with_reducible apply ringPut_mode
    | with_reducible apply foldl_mode | with_reducible apply ite_mode | decide | with_reducible refine off_ne ?_ | with_reducible refine off_lt ?_
    | intro _ | split | contradiction | dsimp only

theorem trigger_mode (s : State) (isn : U64) (h : Mode r s) : Mode r (State.trigger s isn) := by
  unfold State.trigger
  try extract_lets
  repeat' first
    | with_reducible assumption | with_reducible apply bump_mode | with_reducible apply setPair_mode | with_reducible apply updSpawn_mode
    | with_reducible apply raise_mode | with_reducible apply setCap_mode | with_reducible apply foldl_mode | with_reducible apply ite_mode | decide
    | with_reducible refine off_ne ?_ | with_reducible refine off_lt ?_ | intro _ | split | contradiction | dsimp only

theorem tmoTrigger_mode (s : State) (k : Nat) (h : Mode r s) : Mode r (State.tmoTrigger s k) := by
  unfold State.tmoTrigger
  try extract_lets
  repeat' first
    | with_reducible assumption | with_reducible apply trigger_mode | with_reducible apply foldl_mode | with_reducible apply ite_mode | decide
    | with_reducible refine off_ne ?_ | with_reducible refine off_lt ?_ | intro _ | split | contradiction | dsimp only

theorem updTmo_mode (s : State) (k : Nat) (f : Tmo → Tmo) (h : Mode r s) : Mode r (State.updTmo s k f) := by
  unfold State.updTmo
  try extract_lets
  repeat' first
    | with_reducible assumption | with_reducible apply foldl_mode | with_reducible apply ite_mode | decide | with_reducible refine off_ne ?_
    | with_reducible refine off_lt ?_ | intro _ | split | contradiction | dsimp only | refine Mode.upd ?_

theorem tmoPin_mode (s : State) (k : Nat) (h : Mode r s) : Mode r (State.tmoPin s k) := by
  unfold State.tmoPin
  try extract_lets
  repeat' first
    | with_reducible assumption | with_reducible apply emitOut_mode | with_reducible apply foldl_mode | with_reducible apply ite_mode | decide
    | with_reducible refine off_ne ?_ | with_reducible refine off_lt ?_ | intro _ | split | contradiction | dsimp only

theorem pulse_mode (s : State) (k : Nat) (h : Mode r s) : Mode r (State.pulse s k) := by
  unfold State.pulse
  try extract_lets
  repeat' first
    | with_reducible assumption | with_reducible apply updTmo_mode | with_reducible apply tmoTrigger_mode | with_reducible apply tmoPin_mode
    | with_reducible apply bump_mode | with_reducible apply foldl_mode | with_reducible apply ite_mode | decide | with_reducible refine off_ne ?_
    | with_reducible refine off_lt ?_ | intro _ | split | contradiction | dsimp only

theorem tmoFire_mode (s : State) (k : Nat) (h : Mode r s) : Mode r (State.tmoFire s k) := by
  unfold State.tmoFire
  try extract_lets
  repeat' first
    | with_reducible assumption | with_reducible apply pulse_mode | with_reducible apply updTmo_mode | with_reducible apply foldl_mode
    | with_reducible apply ite_mode | decide | with_reducible refine off_ne ?_ | with_reducible refine off_lt ?_ | intro _ | split | contradiction
    | dsimp only

theorem tmoEnd_mode (s : State) (k : Nat) (h : Mode r s) : Mode r (State.tmoEnd s k) := by
  unfold State.tmoEnd
  try extract_lets
  repeat' first
    | with_reducible assumption | with_reducible apply tmoPin_mode | with_reducible apply updTmo_mode | with_reducible apply foldl_mode
    | with_reducible apply ite_mode | decide | with_reducible refine off_ne ?_ | with_reducible refine off_lt ?_ | intro _ | split | contradiction
    | dsimp only

theorem tmoRevisit_mode (s : State) (step : Int) (t : Nat) (t' : Nat) (k : Nat) (h : Mode r s) : Mode r (State.tmoRevisit s step t t' k) := by
  unfold State.tmoRevisit
  try extract_lets
  repeat' first
    | with_reducible assumption | with_reducible apply raise_mode | with_reducible apply updTmo_mode | with_reducible apply pulse_mode
    | with_reducible apply bumpBy_mode | with_reducible apply foldl_mode | with_reducible apply ite_mode | decide | with_reducible refine off_ne ?_
    | with_reducible refine off_lt ?_ | intro _ | split | contradiction | dsimp only

theorem tmoArm_mode (s : State) (k : Nat) (h : Mode r s) : Mode r (State.tmoArm s k) := by
  unfold State.tmoArm
  try extract_lets
  repeat' first
    | with_reducible assumption | with_reducible apply updTmo_mode | with_reducible apply tmoPin_mode | with_reducible apply foldl_mode
    | with_reducible apply ite_mode | decide | with_reducible refine off_ne ?_ | with_reducible refine off_lt ?_ | intro _ | split | contradiction
    | dsimp only

theorem stepped_mode (s : State) (step : Int) (modeChange : Bool) (t : U64) (h : Mode r s) : Mode r (State.stepped s step modeChange t) := by
  unfold State.stepped
  try extract_lets
  repeat' first
    | with_reducible assumption | with_reducible apply bump_mode | with_reducible apply setPair_mode | with_reducible apply raise_mode
    | with_reducible apply tmoRevisit_mode | with_reducible apply foldl_mode | with_reducible apply ite_mode | decide
    | with_reducible refine off_ne ?_ | with_reducible refine off_lt ?_ | intro _ | split | contradiction | dsimp only | refine Mode.upd ?_

theorem doSwitch_mode (s : State) (sw : Switch) (h : Mode r s) : Mode r (State.doSwitch s sw) := by
  unfold State.doSwitch
  try extract_lets
  repeat' first
    | with_reducible assumption | with_reducible apply stepped_mode | with_reducible apply foldl_mode | with_reducible apply ite_mode | decide
    | with_reducible refine off_ne ?_ | with_reducible refine off_lt ?_ | intro _ | split | contradiction | dsimp only | refine Mode.upd ?_

theorem applySwitch_mode (s : State) (sw : Switch) (h : Mode r s) : Mode r (State.applySwitch s sw) := by
  unfold State.applySwitch
  try extract_lets
  repeat' first
    | with_reducible assumption | with_reducible apply doSwitch_mode | with_reducible apply finish_mode | with_reducible apply foldl_mode
    | with_reducible apply ite_mode | decide | with_reducible refine off_ne ?_ | with_reducible refine off_lt ?_ | intro _ | split | contradiction
    | dsimp only | refine Mode.upd ?_

theorem elapse_mode (s : State) (n : Nat) (h : Mode r s) : Mode r (State.elapse s n) := by
  unfold State.elapse
  try extract_lets
  repeat' first
    | with_reducible assumption | with_reducible apply applySwitch_mode | with_reducible apply foldl_mode | with_reducible apply ite_mode | decide
    | with_reducible refine off_ne ?_ | with_reducible refine off_lt ?_ | intro _ | split | contradiction | dsimp only | refine Mode.upd ?_

theorem updCan_mode (s : State) (n : Nat) (f : Can → Can) (h : Mode r s) : Mode r (State.updCan s n f) := by
  unfold State.updCan
  try extract_lets
  repeat' first
    | with_reducible assumption | with_reducible apply foldl_mode | with_reducible apply ite_mode | decide | with_reducible refine off_ne ?_
    | with_reducible refine off_lt ?_ | intro _ | split | contradiction | dsimp only | refine Mode.upd ?_

theorem setCanStat_mode (s : State) (n : Nat) (i : Nat) (b : Bool) (h : Mode r s) : Mode r (State.setCanStat s n i b) := by
  unfold State.setCanStat
  try extract_lets
  repeat' first
    | with_reducible assumption | with_reducible apply setRegBit_mode | with_reducible apply foldl_mode | with_reducible apply ite_mode | decide
    | with_reducible refine off_ne ?_ | with_reducible refine off_lt ?_ | intro _ | split | contradiction | dsimp only

theorem setCanBus_mode (s : State) (n : Nat) (b : Nat) (h : Mode r s) : Mode r (State.setCanBus s n b) := by
  unfold State.setCanBus
  try extract_lets
  repeat' first
    | with_reducible assumption | with_reducible apply setRegFld_mode | with_reducible apply foldl_mode | with_reducible apply ite_mode | decide
    | with_reducible refine off_ne ?_ | with_reducible refine off_lt ?_ | intro _ | split | contradiction | dsimp only

theorem canRing_mode (s : State) (n : Nat) (entry : Nat → List Byte) (h : Mode r s) : Mode r (State.canRing s n entry).1 := by
  unfold State.canRing
  try extract_lets
  repeat' first
    | with_reducible assumption | with_reducible apply postEntry_mode | with_reducible apply updCan_mode | with_reducible apply raise_mode
    | with_reducible apply ringLoss_mode | with_reducible apply foldl_mode | with_reducible apply ite_mode | decide | with_reducible refine off_ne ?_
    | with_reducible refine off_lt ?_ | intro _ | split | contradiction | dsimp only

theorem postEcho_mode (s : State) (n : Nat) (e : Echo) (h : Mode r s) : Mode r (State.postEcho s n e) := by
  unfold State.postEcho
  try extract_lets
  repeat' first
    | with_reducible assumption | with_reducible apply canRing_mode
    | (with_reducible refine Eq.mp (congrArg (Mode r) (congrArg Prod.fst ‹_ = (_, _)›)) (canRing_mode ..)) | with_reducible apply foldl_mode
    | with_reducible apply ite_mode | decide | with_reducible refine off_ne ?_ | with_reducible refine off_lt ?_ | intro _ | split | contradiction
    | dsimp only

theorem echoesDue_mode (s : State) (n : Nat) (h : Mode r s) : Mode r (State.echoesDue s n) := by
  unfold State.echoesDue
  try extract_lets
  repeat' first
    | with_reducible assumption | with_reducible apply updCan_mode | with_reducible apply postEcho_mode | with_reducible apply foldl_mode
    | with_reducible apply ite_mode | decide | with_reducible refine off_ne ?_ | with_reducible refine off_lt ?_ | intro _ | split | contradiction
    | dsimp only

theorem echo_mode (s : State) (n : Nat) (t : TxSlot) (code : Nat) (h : Mode r s) : Mode r (State.echo s n t code) := by
  unfold State.echo
  try extract_lets
  repeat' first
    | with_reducible assumption | with_reducible apply echoesDue_mode | with_reducible apply updCan_mode | with_reducible apply foldl_mode
    | with_reducible apply ite_mode | decide | with_reducible refine off_ne ?_ | with_reducible refine off_lt ?_ | intro _ | split | contradiction
    | dsimp only

theorem rxFlush_mode (s : State) (n : Nat) (h : Mode r s) : Mode r (State.rxFlush s n) := by
  unfold State.rxFlush
  try extract_lets
  repeat' first
    | with_reducible assumption | with_reducible apply echoesDue_mode | with_reducible apply updCan_mode | with_reducible apply foldl_mode
    | with_reducible apply ite_mode | decide | with_reducible refine off_ne ?_ | with_reducible refine off_lt ?_ | intro _ | split | contradiction
    | dsimp only

theorem txOutcome_mode (s : State) (n : Nat) (t : TxSlot) (code : Nat) (h : Mode r s) : Mode r (State.txOutcome s n t code) := by
  unfold State.txOutcome
  try extract_lets
  repeat' first
    | with_reducible assumption | with_reducible apply bump_mode | with_reducible apply echo_mode | with_reducible apply foldl_mode
    | with_reducible apply ite_mode | decide | with_reducible refine off_ne ?_ | with_reducible refine off_lt ?_ | intro _ | split | contradiction
    | dsimp only

theorem freeTx_mode (s : State) (n : Nat) (idx : Nat) (h : Mode r s) : Mode r (State.freeTx s n idx) := by
  unfold State.freeTx
  try extract_lets
  repeat' first
    | with_reducible assumption | with_reducible apply updCan_mode | with_reducible apply foldl_mode | with_reducible apply ite_mode | decide
    | with_reducible refine off_ne ?_ | with_reducible refine off_lt ?_ | intro _ | split | contradiction | dsimp only

theorem endFrames_mode (s : State) (n : Nat) (f : TxSlot → Bool) (code : Nat) (h : Mode r s) : Mode r (State.endFrames s n f code) := by
  unfold State.endFrames
  try extract_lets
  repeat' first
    | with_reducible assumption | with_reducible apply updCan_mode | with_reducible apply txOutcome_mode | with_reducible apply foldl_mode
    | with_reducible apply ite_mode | decide | with_reducible refine off_ne ?_ | with_reducible refine off_lt ?_ | intro _ | split | contradiction
    | dsimp only

theorem placeNode_mode (s : State) (n : Nat) (id : U32) (brs : Bool) (data : List Byte) (dlc : Nat) (h : Mode r s) : Mode r (State.placeNode s n id brs data dlc).1 := by
  unfold State.placeNode
  try extract_lets
  repeat' first
    | with_reducible assumption | with_reducible apply updCan_mode | with_reducible apply foldl_mode | with_reducible apply ite_mode | decide
    | with_reducible refine off_ne ?_ | with_reducible refine off_lt ?_ | intro _ | split | contradiction | dsimp only

theorem canQuiet_mode (s : State) (n : Nat) (h : Mode r s) : Mode r (State.canQuiet s n) := by
  unfold State.canQuiet
  try extract_lets
  repeat' first
    | with_reducible assumption | with_reducible apply setCanStat_mode | with_reducible apply setReg_mode | with_reducible apply foldl_mode
    | with_reducible apply ite_mode | decide | with_reducible refine off_ne ?_ | with_reducible refine off_lt ?_ | intro _ | split | contradiction
    | dsimp only

theorem canRecover_mode (s : State) (n : Nat) (h : Mode r s) : Mode r (State.canRecover s n) := by
  unfold State.canRecover
  try extract_lets
  repeat' first
    | with_reducible assumption | with_reducible apply setCanStat_mode | with_reducible apply foldl_mode | with_reducible apply ite_mode | decide
    | with_reducible refine off_ne ?_ | with_reducible refine off_lt ?_ | intro _ | split | contradiction | dsimp only

theorem canJoin_mode (s : State) (n : Nat) (h : Mode r s) : Mode r (State.canJoin s n) := by
  unfold State.canJoin
  try extract_lets
  repeat' first
    | with_reducible assumption | with_reducible apply setCanStat_mode | with_reducible apply setCanBus_mode | with_reducible apply canRecover_mode
    | with_reducible apply foldl_mode | with_reducible apply ite_mode | decide | with_reducible refine off_ne ?_ | with_reducible refine off_lt ?_
    | intro _ | split | contradiction | dsimp only

theorem canOff_mode (s : State) (n : Nat) (h : Mode r s) : Mode r (State.canOff s n) := by
  unfold State.canOff
  try extract_lets
  repeat' first
    | with_reducible assumption | with_reducible apply canQuiet_mode | with_reducible apply setCanStat_mode | with_reducible apply setCanBus_mode
    | with_reducible apply finish_mode | with_reducible apply updCan_mode | with_reducible apply foldl_mode | with_reducible apply ite_mode | decide
    | with_reducible refine off_ne ?_ | with_reducible refine off_lt ?_ | intro _ | split | contradiction | dsimp only

theorem cancelEnds_mode (s : State) (n : Nat) (sent : Bool) (h : Mode r s) : Mode r (State.cancelEnds s n sent) := by
  unfold State.cancelEnds
  try extract_lets
  repeat' first
    | with_reducible assumption | with_reducible apply updCan_mode | with_reducible apply finish_mode | with_reducible apply foldl_mode
    | with_reducible apply ite_mode | decide | with_reducible refine off_ne ?_ | with_reducible refine off_lt ?_ | intro _ | split | contradiction
    | dsimp only

theorem canHaltOne_mode (s : State) (n : Nat) (h : Mode r s) : Mode r (State.canHaltOne s n) := by
  unfold State.canHaltOne
  try extract_lets
  repeat' first
    | with_reducible assumption | with_reducible apply cancelEnds_mode | with_reducible apply endFrames_mode | with_reducible apply rxFlush_mode
    | with_reducible apply canOff_mode | with_reducible apply foldl_mode | with_reducible apply ite_mode | decide | with_reducible refine off_ne ?_
    | with_reducible refine off_lt ?_ | intro _ | split | contradiction | dsimp only

theorem canHalt_mode (s : State) (h : Mode r s) : Mode r (State.canHalt s) := by
  unfold State.canHalt
  try extract_lets
  repeat' first
    | with_reducible assumption | with_reducible apply canHaltOne_mode | with_reducible apply foldl_mode | with_reducible apply ite_mode | decide
    | with_reducible refine off_ne ?_ | with_reducible refine off_lt ?_ | intro _ | split | contradiction | dsimp only | refine Mode.upd ?_

theorem canLeave_mode (s : State) (n : Nat) (h : Mode r s) : Mode r (State.canLeave s n) := by
  unfold State.canLeave
  try extract_lets
  repeat' first
    | with_reducible assumption | with_reducible apply endFrames_mode | with_reducible apply canOff_mode | with_reducible apply foldl_mode
    | with_reducible apply ite_mode | decide | with_reducible refine off_ne ?_ | with_reducible refine off_lt ?_ | intro _ | split | contradiction
    | dsimp only

theorem canStart_mode (s : State) (h : Mode r s) : Mode r (State.canStart s) := by
  unfold State.canStart
  try extract_lets
  repeat' first
    | with_reducible assumption | with_reducible apply canJoin_mode | with_reducible apply foldl_mode | with_reducible apply ite_mode | decide
    | with_reducible refine off_ne ?_ | with_reducible refine off_lt ?_ | intro _ | split | contradiction | dsimp only

theorem canStop_mode (s : State) (h : Mode r s) : Mode r (State.canStop s) := by
  unfold State.canStop
  try extract_lets
  repeat' first
    | with_reducible assumption | with_reducible apply setCanStat_mode | with_reducible apply canLeave_mode | with_reducible apply updCan_mode
    | with_reducible apply foldl_mode | with_reducible apply ite_mode | decide | with_reducible refine off_ne ?_ | with_reducible refine off_lt ?_
    | intro _ | split | contradiction | dsimp only

theorem canPause_mode (s : State) (h : Mode r s) : Mode r (State.canPause s) := by
  unfold State.canPause
  try extract_lets
  repeat' first
    | with_reducible assumption | with_reducible apply canOff_mode | with_reducible apply foldl_mode | with_reducible apply ite_mode | decide
    | with_reducible refine off_ne ?_ | with_reducible refine off_lt ?_ | intro _ | split | contradiction | dsimp only

theorem setErr_mode (s : State) (n : Nat) (tec : Nat) (rec : Nat) (h : Mode r s) : Mode r (State.setErr s n tec rec) := by
  unfold State.setErr
  try extract_lets
  repeat' first
    | with_reducible assumption | with_reducible apply updCan_mode | with_reducible apply setCanBus_mode | with_reducible apply canQuiet_mode
    | with_reducible apply raise_mode | with_reducible apply bump_mode | with_reducible apply endFrames_mode | with_reducible apply canRecover_mode
    | with_reducible apply foldl_mode | with_reducible apply ite_mode | decide | with_reducible refine off_ne ?_ | with_reducible refine off_lt ?_
    | intro _ | split | contradiction | dsimp only

theorem errFrame_mode (s : State) (n : Nat) (code : Nat) (dataPhase : Bool) (h : Mode r s) : Mode r (State.errFrame s n code dataPhase) := by
  unfold State.errFrame
  try extract_lets
  repeat' first
    | with_reducible assumption | with_reducible apply setReg_mode | with_reducible apply bump_mode | with_reducible apply foldl_mode
    | with_reducible apply ite_mode | decide | with_reducible refine off_ne ?_ | with_reducible refine off_lt ?_ | intro _ | split | contradiction
    | dsimp only

theorem updSkink_mode (s : State) (f : Skink → Skink) (h : Mode r s) : Mode r (State.updSkink s f) := by
  unfold State.updSkink
  try extract_lets
  repeat' first
    | with_reducible assumption | with_reducible apply foldl_mode | with_reducible apply ite_mode | decide | with_reducible refine off_ne ?_
    | with_reducible refine off_lt ?_ | intro _ | split | contradiction | dsimp only | refine Mode.upd ?_

theorem offerResync_mode (s : State) (func : Nat) (cause : Nat) (arg : U32) (h : Mode r s) : Mode r (State.offerResync s func cause arg) := by
  unfold State.offerResync
  try extract_lets
  repeat' first
    | with_reducible assumption | with_reducible apply offer_mode | with_reducible apply foldl_mode | with_reducible apply ite_mode | decide
    | with_reducible refine off_ne ?_ | with_reducible refine off_lt ?_ | intro _ | split | contradiction | dsimp only

theorem offerStatus_mode (s : State) (cause : Nat) (h : Mode r s) : Mode r (State.offerStatus s cause) := by
  unfold State.offerStatus
  try extract_lets
  repeat' first
    | with_reducible assumption | with_reducible apply offerResync_mode | with_reducible apply foldl_mode | with_reducible apply ite_mode | decide
    | with_reducible refine off_ne ?_ | with_reducible refine off_lt ?_ | intro _ | split | contradiction | dsimp only | refine Mode.upd ?_

theorem releaseHold_mode (s : State) (h : Mode r s) : Mode r (State.releaseHold s) := by
  unfold State.releaseHold
  try extract_lets
  repeat' first
    | with_reducible assumption | with_reducible apply updEng_mode | with_reducible apply updSkink_mode | with_reducible apply foldl_mode
    | with_reducible apply ite_mode | decide | with_reducible refine off_ne ?_ | with_reducible refine off_lt ?_ | intro _ | split | contradiction
    | dsimp only

theorem grantHold_mode (s : State) (e : EngineId) (h : Mode r s) : Mode r (State.grantHold s e) := by
  unfold State.grantHold
  try extract_lets
  repeat' first
    | with_reducible assumption | with_reducible apply recordMax_mode | with_reducible apply updEng_mode | with_reducible apply updSkink_mode
    | with_reducible apply foldl_mode | with_reducible apply ite_mode | decide | with_reducible refine off_ne ?_ | with_reducible refine off_lt ?_
    | intro _ | split | contradiction | dsimp only

theorem recordFailure_mode (s : State) (e : EngineId) (cause : Nat) (h : Mode r s) : Mode r (State.recordFailure s e cause) := by
  unfold State.recordFailure
  try extract_lets
  repeat' first
    | with_reducible assumption | with_reducible apply setEng_mode | with_reducible apply setPair_mode | with_reducible apply raise_mode
    | with_reducible apply bump_mode | with_reducible apply foldl_mode | with_reducible apply ite_mode | decide | with_reducible refine off_ne ?_
    | with_reducible refine off_lt ?_ | intro _ | split | contradiction | dsimp only

theorem dropWaiter_mode (s : State) (e : EngineId) (h : Mode r s) : Mode r (State.dropWaiter s e) := by
  unfold State.dropWaiter
  try extract_lets
  repeat' first
    | with_reducible assumption | with_reducible apply closeRunning_mode | with_reducible apply complete_mode | with_reducible apply foldl_mode
    | with_reducible apply ite_mode | decide | with_reducible refine off_ne ?_ | with_reducible refine off_lt ?_ | intro _ | split | contradiction
    | dsimp only | refine Mode.upd ?_

theorem refuseTaken_mode (s : State) (units : List CmdUnit) (h : Mode r s) : Mode r (State.refuseTaken s units) := by
  unfold State.refuseTaken
  try extract_lets
  repeat' first
    | with_reducible assumption | with_reducible apply complete_mode | with_reducible apply finish_mode | with_reducible apply foldl_mode
    | with_reducible apply ite_mode | decide | with_reducible refine off_ne ?_ | with_reducible refine off_lt ?_ | intro _ | split | contradiction
    | dsimp only

theorem snapRetry_mode (s : State) (e : EngineId) (source : Bool) (h : Mode r s) : Mode r (State.snapRetry s e source) := by
  unfold State.snapRetry
  try extract_lets
  repeat' first
    | with_reducible assumption | with_reducible apply updSpawn_mode | with_reducible apply bump_mode | with_reducible apply foldl_mode
    | with_reducible apply ite_mode | decide | with_reducible refine off_ne ?_ | with_reducible refine off_lt ?_ | intro _ | split | contradiction
    | dsimp only

theorem abandonCopy_mode (s : State) (e : EngineId) (h : Mode r s) : Mode r (State.abandonCopy s e) := by
  unfold State.abandonCopy
  try extract_lets
  repeat' first
    | with_reducible assumption | with_reducible apply updSkink_mode | with_reducible apply updEng_mode | with_reducible apply foldl_mode
    | with_reducible apply ite_mode | decide | with_reducible refine off_ne ?_ | with_reducible refine off_lt ?_ | intro _ | split | contradiction
    | dsimp only

theorem closeTaken_mode (s : State) (h : Mode r s) : Mode r (State.closeTaken s) := by
  unfold State.closeTaken
  try extract_lets
  repeat' first
    | with_reducible assumption | with_reducible apply closeRunning_mode | with_reducible apply complete_mode | with_reducible apply refuseTaken_mode
    | with_reducible apply foldl_mode | with_reducible apply ite_mode | decide | with_reducible refine off_ne ?_ | with_reducible refine off_lt ?_
    | intro _ | split | contradiction | dsimp only | refine Mode.upd ?_

theorem mgmt_raise (s : State) (o : Off) (m : Nat) (h : o ≠ Reg.MGMT_STATE) : (s.raise o m).mgmt = s.mgmt := by
  unfold State.mgmt State.rfld
  rw [State.reg_raise _ _ _ _ (by decide), if_neg h.symm]

theorem mgmt_setMgmt (s : State) (st : Nat) (h : st < 8) : (s.setMgmt st).mgmt = st := by
  unfold State.setMgmt
  split
  · assumption
  · rw [mgmt_raise _ _ _ (by decide)]
    unfold State.mgmt State.rfld
    rw [State.reg_setRegFld, if_pos rfl, fld_setFld _ _ _ _ (by decide), Nat.mod_eq_of_lt (show st < 2 ^ 3 from h)]

theorem haltNode_mode (s : State) (cause engCause : Nat) (h : Mode r s) (g : s.mgmt ∈ [Node.setup, Node.run, Node.replay]) :
    Mode r (s.haltNode cause engCause) := by
  have key : modeOf r.regs ∈ [Node.setup, Node.run, Node.replay] := by
    rcases h.out with h | h
    · rwa [State.mgmt_eq, h] at g
    · exact h.1
  unfold State.haltNode
  split
  · exact h
  · extract_lets s1 s2
    have hu : ((s2.setMgmt Node.faultHalt).raise Reg.MGMT_EVT 0x10).mgmt = Node.faultHalt := by
      rw [mgmt_raise _ _ _ (by decide), mgmt_setMgmt _ _ (by decide)]
    generalize (s2.setMgmt Node.faultHalt).raise Reg.MGMT_EVT 0x10 = u at hu
    rw [State.mgmt_eq] at hu
    refine ⟨.inr ⟨key, ?_⟩⟩
    rcases (canHalt_mode u (Mode.refl u)).out with k | k
    · rw [k, hu]
    · rw [hu] at k
      exact absurd k.1 (by decide)

theorem leaveService_mode (s : State) (e : EngineId) (cause : Nat) (h : Mode r s) : Mode r (s.leaveService e cause) := by
  unfold State.leaveService
  extract_lets source s1 s2 s3
  have h1 : Mode r s1 := ite_mode _ _ _ (fun _ => releaseHold_mode _ h) (fun _ => h)
  have h3 : Mode r s3 := offerStatus_mode _ _ (abandonCopy_mode _ _ (snapRetry_mode _ _ _ (dropWaiter_mode _ _ h1)))
  refine ite_mode _ _ _ (fun g => haltNode_mode _ _ _ h3 ?_) (fun _ => h3)
  simp only [State.running, Bool.and_eq_true, Bool.or_eq_true, beq_iff_eq] at g
  rcases g.2 with g | g <;> simp [g]

theorem failCore_mode (s : State) (e : EngineId) (cause : Nat) (h : Mode r s) : Mode r (State.failCore s e cause) := by
  unfold State.failCore
  try extract_lets
  repeat' first
    | with_reducible assumption | with_reducible apply leaveService_mode | with_reducible apply recordFailure_mode
    | with_reducible apply offerStatus_mode | with_reducible apply abandonCopy_mode | with_reducible apply foldl_mode | with_reducible apply ite_mode
    | decide | with_reducible refine off_ne ?_ | with_reducible refine off_lt ?_ | intro _ | split | contradiction | dsimp only

theorem failOut_mode (s : State) (e : EngineId) (cause : Nat) (h : Mode r s) : Mode r (State.failOut s e cause) := by
  unfold State.failOut
  try extract_lets
  repeat' first
    | with_reducible assumption | with_reducible apply recordFailure_mode | with_reducible apply offerStatus_mode | with_reducible apply foldl_mode
    | with_reducible apply ite_mode | decide | with_reducible refine off_ne ?_ | with_reducible refine off_lt ?_ | intro _ | split | contradiction
    | dsimp only

theorem offerDiverge_mode (s : State) (arg : U32) (h : Mode r s) : Mode r (State.offerDiverge s arg) := by
  unfold State.offerDiverge
  try extract_lets
  repeat' first
    | with_reducible assumption | with_reducible apply updSkink_mode | with_reducible apply setReg_mode | with_reducible apply offerResync_mode
    | with_reducible apply raise_mode | with_reducible apply bump_mode | with_reducible apply foldl_mode | with_reducible apply ite_mode | decide
    | with_reducible refine off_ne ?_ | with_reducible refine off_lt ?_ | intro _ | split | contradiction | dsimp only | refine Mode.upd ?_

theorem pointMismatch_mode (s : State) (p : Nat) (h : Mode r s) : Mode r (State.pointMismatch s p) := by
  unfold State.pointMismatch
  try extract_lets
  repeat' first
    | with_reducible assumption | with_reducible apply offerDiverge_mode | with_reducible apply updSkink_mode | with_reducible apply failCore_mode
    | with_reducible apply foldl_mode | with_reducible apply ite_mode | decide | with_reducible refine off_ne ?_ | with_reducible refine off_lt ?_
    | intro _ | split | contradiction | dsimp only

theorem divergeDone_mode (s : State) (failed : Bool) (h : Mode r s) : Mode r (State.divergeDone s failed) := by
  unfold State.divergeDone
  try extract_lets
  repeat' first
    | with_reducible assumption | with_reducible apply updSkink_mode | with_reducible apply offerDiverge_mode | with_reducible apply foldl_mode
    | with_reducible apply ite_mode | decide | with_reducible refine off_ne ?_ | with_reducible refine off_lt ?_ | intro _ | split | contradiction
    | dsimp only | refine Mode.upd ?_

theorem updOutlet_mode (s : State) (f : Outlet → Outlet) (h : Mode r s) : Mode r (State.updOutlet s f) := by
  unfold State.updOutlet
  try extract_lets
  repeat' first
    | with_reducible assumption | with_reducible apply foldl_mode | with_reducible apply ite_mode | decide | with_reducible refine off_ne ?_
    | with_reducible refine off_lt ?_ | intro _ | split | contradiction | dsimp only | refine Mode.upd ?_

theorem setChain_mode (s : State) (e : EngineId) (c : Chain) (h : Mode r s) : Mode r (State.setChain s e c) := by
  unfold State.setChain
  try extract_lets
  repeat' first
    | with_reducible assumption | with_reducible apply updOutlet_mode | with_reducible apply foldl_mode | with_reducible apply ite_mode | decide
    | with_reducible refine off_ne ?_ | with_reducible refine off_lt ?_ | intro _ | split | contradiction | dsimp only

theorem legacyPut_mode (s : State) (v : Event) (h : Mode r s) : Mode r (State.legacyPut s v) := by
  unfold State.legacyPut
  try extract_lets
  repeat' first
    | with_reducible assumption | with_reducible apply updOutlet_mode | with_reducible apply raise_mode | with_reducible apply bump_mode
    | with_reducible apply foldl_mode | with_reducible apply ite_mode | decide | with_reducible refine off_ne ?_ | with_reducible refine off_lt ?_
    | intro _ | split | contradiction | dsimp only

theorem publish_mode (s : State) (cs : List Event) (h : Mode r s) : Mode r (State.publish s cs) := by
  unfold State.publish
  try extract_lets
  repeat' first
    | with_reducible assumption | with_reducible apply updOutlet_mode | with_reducible apply foldl_mode | with_reducible apply ite_mode | decide
    | with_reducible refine off_ne ?_ | with_reducible refine off_lt ?_ | intro _ | split | contradiction | dsimp only

theorem eventTrigger_mode (s : State) (v : Event) (h : Mode r s) : Mode r (State.eventTrigger s v) := by
  unfold State.eventTrigger
  try extract_lets
  repeat' first
    | with_reducible assumption | with_reducible apply trigger_mode | with_reducible apply foldl_mode | with_reducible apply ite_mode | decide
    | with_reducible refine off_ne ?_ | with_reducible refine off_lt ?_ | intro _ | split | contradiction | dsimp only

theorem noteRelease_mode (s : State) (v : Event) (h : Mode r s) : Mode r (State.noteRelease s v) := by
  unfold State.noteRelease
  try extract_lets
  repeat' first
    | with_reducible assumption | with_reducible apply bump_mode | with_reducible apply setPair_mode | with_reducible apply foldl_mode
    | with_reducible apply ite_mode | decide | with_reducible refine off_ne ?_ | with_reducible refine off_lt ?_ | intro _ | split | contradiction
    | dsimp only

theorem mismatch_mode (s : State) (v : Event) (h : Mode r s) : Mode r (State.mismatch s v) := by
  unfold State.mismatch
  try extract_lets
  repeat' first
    | with_reducible assumption | with_reducible apply setPair_mode | with_reducible apply raise_mode | with_reducible apply bump_mode
    | with_reducible apply pointMismatch_mode | with_reducible apply failCore_mode | with_reducible apply foldl_mode | with_reducible apply ite_mode
    | decide | with_reducible refine off_ne ?_ | with_reducible refine off_lt ?_ | intro _ | split | contradiction | dsimp only

theorem releaseOne_mode (s : State) (m : Merge) (h : Mode r s) : Mode r (State.releaseOne s m) := by
  unfold State.releaseOne
  dsimp only
  repeat' first
    | with_reducible assumption | with_reducible apply updOutlet_mode | with_reducible apply mismatch_mode | with_reducible apply failCore_mode
    | with_reducible apply lineWritten_mode | with_reducible apply eventTrigger_mode | with_reducible apply publish_mode
    | with_reducible apply legacyPut_mode | with_reducible apply noteRelease_mode | with_reducible apply foldl_mode | with_reducible apply ite_mode
    | decide | with_reducible refine off_ne ?_ | with_reducible refine off_lt ?_ | intro _ | split | contradiction | dsimp only

theorem releaseReady_mode (n : Nat) (s : State) (h : Mode r s) : Mode r (State.releaseReady n s) := by
  induction n generalizing s with
  | zero => exact h
  | succ n ih =>
    unfold State.releaseReady
    split
    · exact h
    · split
      · exact ih _ (releaseOne_mode _ _ h)
      · exact h

theorem release_mode (s : State) (h : Mode r s) : Mode r (State.release s) := by
  unfold State.release
  try extract_lets
  repeat' first
    | with_reducible assumption | with_reducible apply releaseReady_mode | with_reducible apply foldl_mode | with_reducible apply ite_mode | decide
    | with_reducible refine off_ne ?_ | with_reducible refine off_lt ?_ | intro _ | split | contradiction | dsimp only

theorem failEngine_mode (s : State) (e : EngineId) (cause : Nat) (h : Mode r s) : Mode r (State.failEngine s e cause) := by
  unfold State.failEngine
  try extract_lets
  repeat' first
    | with_reducible assumption | with_reducible apply release_mode | with_reducible apply failCore_mode | with_reducible apply foldl_mode
    | with_reducible apply ite_mode | decide | with_reducible refine off_ne ?_ | with_reducible refine off_lt ?_ | intro _ | split | contradiction
    | dsimp only

theorem takeCopy_mode (s : State) (e : EngineId) (h : Mode r s) : Mode r (State.takeCopy s e) := by
  unfold State.takeCopy
  try extract_lets
  repeat' first
    | with_reducible assumption | with_reducible apply updEng_mode | with_reducible apply setChain_mode | with_reducible apply raise_mode
    | with_reducible apply bump_mode | with_reducible apply updOutlet_mode | with_reducible apply foldl_mode | with_reducible apply ite_mode | decide
    | with_reducible refine off_ne ?_ | with_reducible refine off_lt ?_ | intro _ | split | contradiction | dsimp only

theorem copyArrives_mode (s : State) (e : EngineId) (h : Mode r s) : Mode r (State.copyArrives s e) := by
  unfold State.copyArrives
  try extract_lets
  repeat' first
    | with_reducible assumption | with_reducible apply release_mode | with_reducible apply takeCopy_mode | with_reducible apply foldl_mode
    | with_reducible apply ite_mode | decide | with_reducible refine off_ne ?_ | with_reducible refine off_lt ?_ | intro _ | split | contradiction
    | dsimp only

theorem deliver_mode (s : State) (ring : Nat) (h : Mode r s) : Mode r (State.deliver s ring) := by
  unfold State.deliver
  try extract_lets
  repeat' first
    | with_reducible assumption | with_reducible apply postEntry_mode | with_reducible apply updOutlet_mode | with_reducible apply foldl_mode
    | with_reducible apply ite_mode | decide | with_reducible refine off_ne ?_ | with_reducible refine off_lt ?_ | intro _ | split | contradiction
    | dsimp only

theorem eventsConsumed_mode (s : State) (ring : Nat) (n : Nat) (h : Mode r s) : Mode r (State.eventsConsumed s ring n) := by
  unfold State.eventsConsumed
  try extract_lets
  repeat' first
    | with_reducible assumption | with_reducible apply release_mode | with_reducible apply updOutlet_mode | with_reducible apply foldl_mode
    | with_reducible apply ite_mode | decide | with_reducible refine off_ne ?_ | with_reducible refine off_lt ?_ | intro _ | split | contradiction
    | dsimp only

theorem eventsRewrite_mode (s : State) (ring : Nat) (h : Mode r s) : Mode r (State.eventsRewrite s ring) := by
  unfold State.eventsRewrite
  try extract_lets
  repeat' first
    | with_reducible assumption | with_reducible apply updOutlet_mode | with_reducible apply foldl_mode | with_reducible apply ite_mode | decide
    | with_reducible refine off_ne ?_ | with_reducible refine off_lt ?_ | intro _ | split | contradiction | dsimp only

theorem eventCredit_mode (s : State) (e : EngineId) (h : Mode r s) : Mode r (State.eventCredit s e) := by
  unfold State.eventCredit
  try extract_lets
  repeat' first
    | with_reducible assumption | with_reducible apply takeCopy_mode | with_reducible apply foldl_mode | with_reducible apply ite_mode | decide
    | with_reducible refine off_ne ?_ | with_reducible refine off_lt ?_ | intro _ | split | contradiction | dsimp only

theorem put_mode (s : State) (e : EngineId) (v : Event) (h : Mode r s) : Mode r (State.put s e v) := by
  unfold State.put
  try extract_lets
  repeat' first
    | with_reducible assumption | with_reducible apply eventCredit_mode | with_reducible apply setEng_mode | with_reducible apply bump_mode
    | with_reducible apply foldl_mode | with_reducible apply ite_mode | decide | with_reducible refine off_ne ?_ | with_reducible refine off_lt ?_
    | intro _ | split | contradiction | dsimp only

theorem putNode_mode (s : State) (e : EngineId) (v : Event) (h : Mode r s) : Mode r (State.putNode s e v) := by
  unfold State.putNode
  try extract_lets
  repeat' first
    | with_reducible assumption | with_reducible apply put_mode | with_reducible apply updEng_mode | with_reducible apply raise_mode
    | with_reducible apply bump_mode | with_reducible apply foldl_mode | with_reducible apply ite_mode | decide | with_reducible refine off_ne ?_
    | with_reducible refine off_lt ?_ | intro _ | split | contradiction | dsimp only

theorem putSeal_mode (s : State) (e : EngineId) (r1 : InRec) (cause : Byte) (h : Mode r s) : Mode r (State.putSeal s e r1 cause) := by
  unfold State.putSeal
  try extract_lets
  repeat' first
    | with_reducible assumption | with_reducible apply put_mode | with_reducible apply updEng_mode | with_reducible apply putNode_mode
    | with_reducible apply foldl_mode | with_reducible apply ite_mode | decide | with_reducible refine off_ne ?_ | with_reducible refine off_lt ?_
    | intro _ | split | contradiction | dsimp only

theorem countCustody_mode (s : State) (e : EngineId) (r1 : InRec) (custody : Bool) (h : Mode r s) : Mode r (State.countCustody s e r1 custody) := by
  unfold State.countCustody
  try extract_lets
  repeat' first
    | with_reducible assumption | with_reducible apply updEng_mode | with_reducible apply putSeal_mode | with_reducible apply foldl_mode
    | with_reducible apply ite_mode | decide | with_reducible refine off_ne ?_ | with_reducible refine off_lt ?_ | intro _ | split | contradiction
    | dsimp only

theorem putGroup_mode (s : State) (e : EngineId) (v : Event) (h : Mode r s) : Mode r (State.putGroup s e v) := by
  unfold State.putGroup
  try extract_lets
  repeat' first
    | with_reducible assumption | with_reducible apply put_mode | with_reducible apply updEng_mode | with_reducible apply raise_mode
    | with_reducible apply bump_mode | with_reducible apply foldl_mode | with_reducible apply ite_mode | decide | with_reducible refine off_ne ?_
    | with_reducible refine off_lt ?_ | intro _ | split | contradiction | dsimp only

theorem setPt_mode (s : State) (e : EngineId) (r1 : InRec) (p : Nat) (y : PtState) (h : Mode r s) : Mode r (State.setPt s e r1 p y) := by
  unfold State.setPt
  try extract_lets
  repeat' first
    | with_reducible assumption | with_reducible apply updEng_mode | with_reducible apply lineWritten_mode | with_reducible apply foldl_mode
    | with_reducible apply ite_mode | decide | with_reducible refine off_ne ?_ | with_reducible refine off_lt ?_ | intro _ | split | contradiction
    | dsimp only

theorem pointEvent_mode (s : State) (e : EngineId) (r1 : InRec) (p : Nat) (prio : Nat) (custody : Bool) (type : Byte) (stNew : Byte) (stOld : Byte) (h : Mode r s) : Mode r (State.pointEvent s e r1 p prio custody type stNew stOld) := by
  unfold State.pointEvent
  try extract_lets
  repeat' first
    | with_reducible assumption | with_reducible apply setPt_mode | with_reducible apply countCustody_mode | with_reducible apply put_mode
    | with_reducible apply bump_mode | with_reducible apply raise_mode | with_reducible apply foldl_mode | with_reducible apply ite_mode | decide
    | with_reducible refine off_ne ?_ | with_reducible refine off_lt ?_ | intro _ | split | contradiction | dsimp only

theorem sweepNotice_mode (s : State) (e : EngineId) (r1 : InRec) (p : Nat) (prio : Nat) (custody : Bool) (h : Mode r s) : Mode r (State.sweepNotice s e r1 p prio custody) := by
  unfold State.sweepNotice
  try extract_lets
  repeat' first
    | with_reducible assumption | with_reducible apply setPt_mode | with_reducible apply countCustody_mode | with_reducible apply put_mode
    | with_reducible apply foldl_mode | with_reducible apply ite_mode | decide | with_reducible refine off_ne ?_ | with_reducible refine off_lt ?_
    | intro _ | split | contradiction | dsimp only

theorem setGr_mode (s : State) (e : EngineId) (g : Nat) (y : GrState) (h : Mode r s) : Mode r (State.setGr s e g y) := by
  unfold State.setGr
  try extract_lets
  repeat' first
    | with_reducible assumption | with_reducible apply updEng_mode | with_reducible apply lineWritten_mode | with_reducible apply foldl_mode
    | with_reducible apply ite_mode | decide | with_reducible refine off_ne ?_ | with_reducible refine off_lt ?_ | intro _ | split | contradiction
    | dsimp only

theorem updGr_mode (s : State) (e : EngineId) (g : Nat) (f : GrState → GrState) (h : Mode r s) : Mode r (State.updGr s e g f) := by
  unfold State.updGr
  try extract_lets
  repeat' first
    | with_reducible assumption | with_reducible apply setGr_mode | with_reducible apply foldl_mode | with_reducible apply ite_mode | decide
    | with_reducible refine off_ne ?_ | with_reducible refine off_lt ?_ | intro _ | split | contradiction | dsimp only

theorem noteInvalid_mode (s : State) (e : EngineId) (raw : List Byte) (n : Nat) (h : Mode r s) : Mode r (State.noteInvalid s e raw n) := by
  unfold State.noteInvalid
  try extract_lets
  repeat' first
    | with_reducible assumption | with_reducible apply bump_mode | with_reducible apply foldl_mode | with_reducible apply ite_mode | decide
    | with_reducible refine off_ne ?_ | with_reducible refine off_lt ?_ | intro _ | split | contradiction | dsimp only

theorem noteGroup_mode (s : State) (e : EngineId) (g : Nat) (h : Mode r s) : Mode r (State.noteGroup s e g) := by
  unfold State.noteGroup
  try extract_lets
  repeat' first
    | with_reducible assumption | with_reducible apply noteInvalid_mode | with_reducible apply foldl_mode | with_reducible apply ite_mode | decide
    | with_reducible refine off_ne ?_ | with_reducible refine off_lt ?_ | intro _ | split | contradiction | dsimp only

theorem newAlarm_mode (s : State) (e : EngineId) (r1 : InRec) (p : Nat) (c : PCfg) (stNew : Byte) (stOld : Byte) (h : Mode r s) : Mode r (State.newAlarm s e r1 p c stNew stOld) := by
  unfold State.newAlarm
  try extract_lets
  repeat' first
    | with_reducible assumption | with_reducible apply noteGroup_mode | with_reducible apply updGr_mode | with_reducible apply putGroup_mode
    | with_reducible apply updEng_mode | with_reducible apply foldl_mode | with_reducible apply ite_mode | decide | with_reducible refine off_ne ?_
    | with_reducible refine off_lt ?_ | intro _ | split | contradiction | dsimp only

theorem report__mode (s : State) (e : EngineId) (r1 : InRec) (p : Nat) (c : PCfg) (y : PtState) (old : Byte) (alarm : Bool) (h : Mode r s) : Mode r (State.report_ s e r1 p c y old alarm) := by
  unfold State.report_
  try extract_lets
  repeat' first
    | with_reducible assumption | with_reducible apply setPt_mode | with_reducible apply pointEvent_mode | with_reducible apply newAlarm_mode
    | with_reducible apply foldl_mode | with_reducible apply ite_mode | decide | with_reducible refine off_ne ?_ | with_reducible refine off_lt ?_
    | intro _ | split | contradiction | dsimp only

theorem moveTo_mode (s : State) (e : EngineId) (r1 : InRec) (p : Nat) (c : PCfg) (x : PtState) (t : Byte) (h : Mode r s) : Mode r (State.moveTo s e r1 p c x t) := by
  unfold State.moveTo
  try extract_lets
  repeat' first
    | with_reducible assumption | with_reducible apply report__mode | with_reducible apply foldl_mode | with_reducible apply ite_mode | decide
    | with_reducible refine off_ne ?_ | with_reducible refine off_lt ?_ | intro _ | split | contradiction | dsimp only

theorem decide__mode (s : State) (e : EngineId) (r1 : InRec) (p : Nat) (c : PCfg) (d : Decision) (h : Mode r s) : Mode r (State.decide_ s e r1 p c d).1 := by
  unfold State.decide_
  try extract_lets
  repeat' first
    | with_reducible assumption | with_reducible apply setPt_mode | with_reducible apply moveTo_mode | with_reducible apply foldl_mode
    | with_reducible apply ite_mode | decide | with_reducible refine off_ne ?_ | with_reducible refine off_lt ?_ | intro _ | split | contradiction
    | dsimp only

theorem applyInput_mode (s : State) (e : EngineId) (r1 : InRec) (p : Nat) (c : PCfg) (i : PtInput) (h : Mode r s) : Mode r (State.applyInput s e r1 p c i).1 := by
  unfold State.applyInput
  try extract_lets
  repeat' first
    | with_reducible assumption | with_reducible apply setPt_mode | with_reducible apply moveTo_mode | with_reducible apply decide__mode
    | (with_reducible refine Eq.mp (congrArg (Mode r) (congrArg Prod.fst ‹_ = (_, _)›)) (decide__mode ..)) | with_reducible apply foldl_mode
    | with_reducible apply ite_mode | decide | with_reducible refine off_ne ?_ | with_reducible refine off_lt ?_ | intro _ | split | contradiction
    | dsimp only

theorem rateStep_mode (s : State) (e : EngineId) (r1 : InRec) (p : Nat) (c : PCfg) (h : Mode r s) : Mode r (State.rateStep s e r1 p c).1 := by
  unfold State.rateStep
  try extract_lets
  repeat' first
    | with_reducible assumption | with_reducible apply decide__mode
    | (with_reducible refine Eq.mp (congrArg (Mode r) (congrArg Prod.fst ‹_ = (_, _)›)) (decide__mode ..)) | with_reducible apply foldl_mode
    | with_reducible apply ite_mode | decide | with_reducible refine off_ne ?_ | with_reducible refine off_lt ?_ | intro _ | split | contradiction
    | dsimp only

theorem delayTick_mode (s : State) (e : EngineId) (r1 : InRec) (p : Nat) (c : PCfg) (h : Mode r s) : Mode r (State.delayTick s e r1 p c) := by
  unfold State.delayTick
  try extract_lets
  repeat' first
    | with_reducible assumption | with_reducible apply setPt_mode | with_reducible apply moveTo_mode | with_reducible apply foldl_mode
    | with_reducible apply ite_mode | decide | with_reducible refine off_ne ?_ | with_reducible refine off_lt ?_ | intro _ | split | contradiction
    | dsimp only

theorem endBlock_mode (s : State) (e : EngineId) (r1 : InRec) (p : Nat) (c : PCfg) (h : Mode r s) : Mode r (State.endBlock s e r1 p c) := by
  unfold State.endBlock
  try extract_lets
  repeat' first
    | with_reducible assumption | with_reducible apply report__mode | with_reducible apply foldl_mode | with_reducible apply ite_mode | decide
    | with_reducible refine off_ne ?_ | with_reducible refine off_lt ?_ | intro _ | split | contradiction | dsimp only

theorem blockStep_mode (s : State) (e : EngineId) (r1 : InRec) (p : Nat) (c : PCfg) (tick : Nat) (h : Mode r s) : Mode r (State.blockStep s e r1 p c tick) := by
  unfold State.blockStep
  try extract_lets
  repeat' first
    | with_reducible assumption | with_reducible apply endBlock_mode | with_reducible apply setPt_mode | with_reducible apply report__mode
    | with_reducible apply foldl_mode | with_reducible apply ite_mode | decide | with_reducible refine off_ne ?_ | with_reducible refine off_lt ?_
    | intro _ | split | contradiction | dsimp only

theorem endShelve_mode (s : State) (e : EngineId) (r1 : InRec) (p : Nat) (c : PCfg) (h : Mode r s) : Mode r (State.endShelve s e r1 p c) := by
  unfold State.endShelve
  try extract_lets
  repeat' first
    | with_reducible assumption | with_reducible apply report__mode | with_reducible apply foldl_mode | with_reducible apply ite_mode | decide
    | with_reducible refine off_ne ?_ | with_reducible refine off_lt ?_ | intro _ | split | contradiction | dsimp only

theorem shelveTick_mode (s : State) (e : EngineId) (r1 : InRec) (p : Nat) (c : PCfg) (h : Mode r s) : Mode r (State.shelveTick s e r1 p c) := by
  unfold State.shelveTick
  try extract_lets
  repeat' first
    | with_reducible assumption | with_reducible apply setPt_mode | with_reducible apply endShelve_mode | with_reducible apply foldl_mode
    | with_reducible apply ite_mode | decide | with_reducible refine off_ne ?_ | with_reducible refine off_lt ?_ | intro _ | split | contradiction
    | dsimp only

theorem configFault_mode (s : State) (e : EngineId) (r1 : InRec) (p : Nat) (h : Mode r s) : Mode r (State.configFault s e r1 p) := by
  unfold State.configFault
  try extract_lets
  repeat' first
    | with_reducible assumption | with_reducible apply pointEvent_mode | with_reducible apply setPt_mode | with_reducible apply foldl_mode
    | with_reducible apply ite_mode | decide | with_reducible refine off_ne ?_ | with_reducible refine off_lt ?_ | intro _ | split | contradiction
    | dsimp only

theorem sweepPoint_mode (s : State) (e : EngineId) (r1 : InRec) (tick : Nat) (p : Nat) (h : Mode r s) : Mode r (State.sweepPoint s e r1 tick p) := by
  unfold State.sweepPoint
  try extract_lets
  repeat' first
    | with_reducible assumption | with_reducible apply sweepNotice_mode | with_reducible apply configFault_mode
    | with_reducible apply noteInvalid_mode | with_reducible apply applyInput_mode
    | (with_reducible refine Eq.mp (congrArg (Mode r) (congrArg Prod.fst ‹_ = (_, _)›)) (applyInput_mode ..)) | with_reducible apply rateStep_mode
    | (with_reducible refine Eq.mp (congrArg (Mode r) (congrArg Prod.fst ‹_ = (_, _)›)) (rateStep_mode ..)) | with_reducible apply delayTick_mode
    | with_reducible apply blockStep_mode | with_reducible apply shelveTick_mode | with_reducible apply updEng_mode | with_reducible apply foldl_mode
    | with_reducible apply ite_mode | decide | with_reducible refine off_ne ?_ | with_reducible refine off_lt ?_ | intro _ | split | contradiction
    | dsimp only

theorem sweepPoints_mode (s : State) (e : EngineId) (r1 : InRec) (upto : Nat) (h : Mode r s) : Mode r (State.sweepPoints s e r1 upto) := by
  unfold State.sweepPoints
  try extract_lets
  repeat' first
    | with_reducible assumption | with_reducible apply updEng_mode | with_reducible apply sweepPoint_mode | with_reducible apply foldl_mode
    | with_reducible apply ite_mode | decide | with_reducible refine off_ne ?_ | with_reducible refine off_lt ?_ | intro _ | split | contradiction
    | dsimp only

theorem groupEvent_mode (s : State) (e : EngineId) (r1 : InRec) (g : Nat) (c : GCfg) (type : Byte) (stNew : Byte) (stOld : Byte) (sub : Nat) (value : Nat) (h : Mode r s) : Mode r (State.groupEvent s e r1 g c type stNew stOld sub value) := by
  unfold State.groupEvent
  try extract_lets
  repeat' first
    | with_reducible assumption | with_reducible apply putGroup_mode | with_reducible apply foldl_mode | with_reducible apply ite_mode | decide
    | with_reducible refine off_ne ?_ | with_reducible refine off_lt ?_ | intro _ | split | contradiction | dsimp only

theorem markSwept_mode (s : State) (e : EngineId) (g : Nat) (h : Mode r s) : Mode r (State.markSwept s e g) := by
  unfold State.markSwept
  try extract_lets
  repeat' first
    | with_reducible assumption | with_reducible apply updEng_mode | with_reducible apply foldl_mode | with_reducible apply ite_mode | decide
    | with_reducible refine off_ne ?_ | with_reducible refine off_lt ?_ | intro _ | split | contradiction | dsimp only

theorem groupState_mode (s : State) (e : EngineId) (r1 : InRec) (g : Nat) (c : GCfg) (h : Mode r s) : Mode r (State.groupState s e r1 g c) := by
  unfold State.groupState
  try extract_lets
  repeat' first
    | with_reducible assumption | with_reducible apply markSwept_mode | with_reducible apply groupEvent_mode | with_reducible apply foldl_mode
    | with_reducible apply ite_mode | decide | with_reducible refine off_ne ?_ | with_reducible refine off_lt ?_ | intro _ | split | contradiction
    | dsimp only

theorem sendFrames_mode (s : State) (e : EngineId) (g : Nat) (fs : List (Nat × U32 × Nat)) (h : Mode r s) : Mode r (State.sendFrames s e g fs) := by
  unfold State.sendFrames
  try extract_lets
  repeat' first
    | with_reducible assumption | with_reducible apply placeNode_mode
    | (with_reducible refine Eq.mp (congrArg (Mode r) (congrArg Prod.fst ‹_ = (_, _)›)) (placeNode_mode ..)) | with_reducible apply bump_mode
    | with_reducible apply foldl_mode | with_reducible apply ite_mode | decide | with_reducible refine off_ne ?_ | with_reducible refine off_lt ?_
    | intro _ | split | contradiction | dsimp only

theorem countCall_mode (s : State) (e : EngineId) (st : Byte) (cause : Nat) (h : Mode r s) : Mode r (State.countCall s e st cause) := by
  unfold State.countCall
  try extract_lets
  repeat' first
    | with_reducible assumption | with_reducible apply bump_mode | with_reducible apply raise_mode | with_reducible apply foldl_mode
    | with_reducible apply ite_mode | decide | with_reducible refine off_ne ?_ | with_reducible refine off_lt ?_ | intro _ | split | contradiction
    | dsimp only

theorem callTo_mode (s : State) (e : EngineId) (r1 : InRec) (g : Nat) (c : GCfg) (st : Byte) (cause : Nat) (timer : Nat) (h : Mode r s) : Mode r (State.callTo s e r1 g c st cause timer) := by
  unfold State.callTo
  try extract_lets
  repeat' first
    | with_reducible assumption | with_reducible apply groupEvent_mode | with_reducible apply setGr_mode | with_reducible apply countCall_mode
    | with_reducible apply updEng_mode | with_reducible apply sendFrames_mode | with_reducible apply foldl_mode | with_reducible apply ite_mode
    | decide | with_reducible refine off_ne ?_ | with_reducible refine off_lt ?_ | intro _ | split | contradiction | dsimp only

theorem press_mode (s : State) (e : EngineId) (r1 : InRec) (g : Nat) (c : GCfg) (h : Mode r s) : Mode r (State.press s e r1 g c) := by
  unfold State.press
  try extract_lets
  repeat' first
    | with_reducible assumption | with_reducible apply updGr_mode | with_reducible apply callTo_mode | with_reducible apply foldl_mode
    | with_reducible apply ite_mode | decide | with_reducible refine off_ne ?_ | with_reducible refine off_lt ?_ | intro _ | split | contradiction
    | dsimp only

theorem groupBlock_mode (s : State) (e : EngineId) (g : Nat) (c : GCfg) (tick : Nat) (h : Mode r s) : Mode r (State.groupBlock s e g c tick) := by
  unfold State.groupBlock
  try extract_lets
  repeat' first
    | with_reducible assumption | with_reducible apply setGr_mode | with_reducible apply foldl_mode | with_reducible apply ite_mode | decide
    | with_reducible refine off_ne ?_ | with_reducible refine off_lt ?_ | intro _ | split | contradiction | dsimp only

theorem floodStep_mode (s : State) (e : EngineId) (g : Nat) (c : GCfg) (tick : Nat) (h : Mode r s) : Mode r (State.floodStep s e g c tick) := by
  unfold State.floodStep
  try extract_lets
  repeat' first
    | with_reducible assumption | with_reducible apply bumpView_mode | with_reducible apply setGr_mode | with_reducible apply foldl_mode
    | with_reducible apply ite_mode | decide | with_reducible refine off_ne ?_ | with_reducible refine off_lt ?_ | intro _ | split | contradiction
    | dsimp only

theorem callTimers_mode (s : State) (e : EngineId) (r1 : InRec) (g : Nat) (c : GCfg) (tick : Nat) (h : Mode r s) : Mode r (State.callTimers s e r1 g c tick) := by
  unfold State.callTimers
  try extract_lets
  repeat' first
    | with_reducible assumption | with_reducible apply callTo_mode | with_reducible apply updEng_mode | with_reducible apply setGr_mode
    | with_reducible apply sendFrames_mode | with_reducible apply foldl_mode | with_reducible apply ite_mode | decide
    | with_reducible refine off_ne ?_ | with_reducible refine off_lt ?_ | intro _ | split | contradiction | dsimp only

theorem alarmStep_mode (s : State) (e : EngineId) (r1 : InRec) (g : Nat) (c : GCfg) (tick : Nat) (h : Mode r s) : Mode r (State.alarmStep s e r1 g c tick) := by
  unfold State.alarmStep
  try extract_lets
  repeat' first
    | with_reducible assumption | with_reducible apply callTo_mode | with_reducible apply callTimers_mode | with_reducible apply foldl_mode
    | with_reducible apply ite_mode | decide | with_reducible refine off_ne ?_ | with_reducible refine off_lt ?_ | intro _ | split | contradiction
    | dsimp only

theorem dmWarnNow_mode (s : State) (e : EngineId) (r1 : InRec) (g : Nat) (c : GCfg) (h : Mode r s) : Mode r (State.dmWarnNow s e r1 g c) := by
  unfold State.dmWarnNow
  try extract_lets
  repeat' first
    | with_reducible assumption | with_reducible apply groupState_mode | with_reducible apply updGr_mode | with_reducible apply foldl_mode
    | with_reducible apply ite_mode | decide | with_reducible refine off_ne ?_ | with_reducible refine off_lt ?_ | intro _ | split | contradiction
    | dsimp only

theorem dmExpire_mode (s : State) (e : EngineId) (r1 : InRec) (g : Nat) (c : GCfg) (h : Mode r s) : Mode r (State.dmExpire s e r1 g c) := by
  unfold State.dmExpire
  try extract_lets
  repeat' first
    | with_reducible assumption | with_reducible apply callTo_mode | with_reducible apply updGr_mode | with_reducible apply foldl_mode
    | with_reducible apply ite_mode | decide | with_reducible refine off_ne ?_ | with_reducible refine off_lt ?_ | intro _ | split | contradiction
    | dsimp only

theorem deadmanStep_mode (s : State) (e : EngineId) (r1 : InRec) (g : Nat) (c : GCfg) (tick : Nat) (h : Mode r s) : Mode r (State.deadmanStep s e r1 g c tick) := by
  unfold State.deadmanStep
  try extract_lets
  repeat' first
    | with_reducible assumption | with_reducible apply setGr_mode | with_reducible apply callTo_mode | with_reducible apply callTimers_mode
    | with_reducible apply dmWarnNow_mode | with_reducible apply dmExpire_mode | with_reducible apply foldl_mode | with_reducible apply ite_mode
    | decide | with_reducible refine off_ne ?_ | with_reducible refine off_lt ?_ | intro _ | split | contradiction | dsimp only

theorem groupFault_mode (s : State) (e : EngineId) (r1 : InRec) (g : Nat) (c : GCfg) (h : Mode r s) : Mode r (State.groupFault s e r1 g c) := by
  unfold State.groupFault
  try extract_lets
  repeat' first
    | with_reducible assumption | with_reducible apply groupState_mode | with_reducible apply setGr_mode | with_reducible apply updGr_mode
    | with_reducible apply callTo_mode | with_reducible apply foldl_mode | with_reducible apply ite_mode | decide | with_reducible refine off_ne ?_
    | with_reducible refine off_lt ?_ | intro _ | split | contradiction | dsimp only

theorem sweepGroup_mode (s : State) (e : EngineId) (r1 : InRec) (tick : Nat) (g : Nat) (h : Mode r s) : Mode r (State.sweepGroup s e r1 tick g) := by
  unfold State.sweepGroup
  try extract_lets
  repeat' first
    | with_reducible assumption | with_reducible apply updGr_mode | with_reducible apply groupFault_mode | with_reducible apply noteInvalid_mode
    | with_reducible apply floodStep_mode | with_reducible apply groupBlock_mode | with_reducible apply groupState_mode
    | with_reducible apply deadmanStep_mode | with_reducible apply alarmStep_mode | with_reducible apply markSwept_mode
    | with_reducible apply foldl_mode | with_reducible apply ite_mode | decide | with_reducible refine off_ne ?_ | with_reducible refine off_lt ?_
    | intro _ | split | contradiction | dsimp only

theorem sweptPoints_mode (s : State) (e : EngineId) (r1 : InRec) (h : Mode r s) : Mode r (State.sweptPoints s e r1) := by
  unfold State.sweptPoints
  try extract_lets
  repeat' first
    | with_reducible assumption | with_reducible apply updEng_mode | with_reducible apply sweepPoints_mode | with_reducible apply foldl_mode
    | with_reducible apply ite_mode | decide | with_reducible refine off_ne ?_ | with_reducible refine off_lt ?_ | intro _ | split | contradiction
    | dsimp only

theorem sweepGroups_mode (s : State) (e : EngineId) (r1 : InRec) (upto : Nat) (h : Mode r s) : Mode r (State.sweepGroups s e r1 upto) := by
  unfold State.sweepGroups
  try extract_lets
  repeat' first
    | with_reducible assumption | with_reducible apply sweptPoints_mode | with_reducible apply updEng_mode | with_reducible apply sweepGroup_mode
    | with_reducible apply foldl_mode | with_reducible apply ite_mode | decide | with_reducible refine off_ne ?_ | with_reducible refine off_lt ?_
    | intro _ | split | contradiction | dsimp only

theorem refreshGroup_mode (s : State) (e : EngineId) (r1 : InRec) (g : Nat) (h : Mode r s) : Mode r (State.refreshGroup s e r1 g) := by
  unfold State.refreshGroup
  try extract_lets
  repeat' first
    | with_reducible assumption | with_reducible apply groupEvent_mode | with_reducible apply noteGroup_mode | with_reducible apply noteInvalid_mode
    | with_reducible apply putGroup_mode | with_reducible apply foldl_mode | with_reducible apply ite_mode | decide | with_reducible refine off_ne ?_
    | with_reducible refine off_lt ?_ | intro _ | split | contradiction | dsimp only

theorem refreshNode_mode (s : State) (e : EngineId) (r1 : InRec) (h : Mode r s) : Mode r (State.refreshNode s e r1) := by
  unfold State.refreshNode
  try extract_lets
  repeat' first
    | with_reducible assumption | with_reducible apply putNode_mode | with_reducible apply updEng_mode | with_reducible apply putSeal_mode
    | with_reducible apply foldl_mode | with_reducible apply ite_mode | decide | with_reducible refine off_ne ?_ | with_reducible refine off_lt ?_
    | intro _ | split | contradiction | dsimp only

theorem refresh_mode (s : State) (e : EngineId) (r1 : InRec) (h : Mode r s) : Mode r (State.refresh s e r1) := by
  unfold State.refresh
  try extract_lets
  repeat' first
    | with_reducible assumption | with_reducible apply updEng_mode | with_reducible apply refreshGroup_mode | with_reducible apply refreshNode_mode
    | with_reducible apply foldl_mode | with_reducible apply ite_mode | decide | with_reducible refine off_ne ?_ | with_reducible refine off_lt ?_
    | intro _ | split | contradiction | dsimp only

theorem acceptGroup_mode (s : State) (e : EngineId) (r1 : InRec) (dis : List Nat) (sigs : List Nat) (g : Nat) (h : Mode r s) : Mode r (State.acceptGroup s e r1 dis sigs g) := by
  unfold State.acceptGroup
  try extract_lets
  repeat' first
    | with_reducible assumption | with_reducible apply noteGroup_mode | with_reducible apply press_mode | with_reducible apply callTo_mode
    | with_reducible apply foldl_mode | with_reducible apply ite_mode | decide | with_reducible refine off_ne ?_ | with_reducible refine off_lt ?_
    | intro _ | split | contradiction | dsimp only

theorem acceptSources_mode (s : State) (e : EngineId) (r1 : InRec) (dis : List Nat) (sigs : List Nat) (h : Mode r s) : Mode r (State.acceptSources s e r1 dis sigs) := by
  unfold State.acceptSources
  try extract_lets
  repeat' first
    | with_reducible assumption | with_reducible apply acceptGroup_mode | with_reducible apply foldl_mode | with_reducible apply ite_mode | decide
    | with_reducible refine off_ne ?_ | with_reducible refine off_lt ?_ | intro _ | split | contradiction | dsimp only

theorem resetHalf_mode (s : State) (e : EngineId) (r1 : InRec) (g : Nat) (c : GCfg) (event : Bool) (h : Mode r s) : Mode r (State.resetHalf s e r1 g c event) := by
  unfold State.resetHalf
  try extract_lets
  repeat' first
    | with_reducible assumption | with_reducible apply setGr_mode | with_reducible apply groupState_mode | with_reducible apply updEng_mode
    | with_reducible apply groupEvent_mode | with_reducible apply foldl_mode | with_reducible apply ite_mode | decide
    | with_reducible refine off_ne ?_ | with_reducible refine off_lt ?_ | intro _ | split | contradiction | dsimp only

theorem groupAdjust_mode (s : State) (e : EngineId) (r1 : InRec) (g : Nat) (old : GCfg) (new : GCfg) (h : Mode r s) : Mode r (State.groupAdjust s e r1 g old new) := by
  unfold State.groupAdjust
  try extract_lets
  repeat' first
    | with_reducible assumption | with_reducible apply updGr_mode | with_reducible apply callTo_mode | with_reducible apply foldl_mode
    | with_reducible apply ite_mode | decide | with_reducible refine off_ne ?_ | with_reducible refine off_lt ?_ | intro _ | split | contradiction
    | dsimp only

theorem groupWritten_mode (s : State) (e : EngineId) (r1 : InRec) (g : Nat) (old : GCfg) (new : GCfg) (h : Mode r s) : Mode r (State.groupWritten s e r1 g old new) := by
  unfold State.groupWritten
  try extract_lets
  repeat' first
    | with_reducible assumption | with_reducible apply resetHalf_mode | with_reducible apply groupAdjust_mode | with_reducible apply foldl_mode
    | with_reducible apply ite_mode | decide | with_reducible refine off_ne ?_ | with_reducible refine off_lt ?_ | intro _ | split | contradiction
    | dsimp only

theorem noteMasks_mode (s : State) (h : Mode r s) : Mode r (State.noteMasks s) := by
  unfold State.noteMasks
  try extract_lets
  repeat' first
    | with_reducible assumption | with_reducible apply raise_mode | with_reducible apply foldl_mode | with_reducible apply ite_mode | decide
    | with_reducible refine off_ne ?_ | with_reducible refine off_lt ?_ | intro _ | split | contradiction | dsimp only

theorem epochChange_mode (s : State) (e : EngineId) (r1 : InRec) (cause : Byte) (epoch : Nat) (h : Mode r s) : Mode r (State.epochChange s e r1 cause epoch) := by
  unfold State.epochChange
  try extract_lets
  repeat' first
    | with_reducible assumption | with_reducible apply putNode_mode | with_reducible apply foldl_mode | with_reducible apply ite_mode | decide
    | with_reducible refine off_ne ?_ | with_reducible refine off_lt ?_ | intro _ | split | contradiction | dsimp only

theorem runStart_mode (s : State) (e : EngineId) (r1 : InRec) (h : Mode r s) : Mode r (State.runStart s e r1) := by
  unfold State.runStart
  try extract_lets
  repeat' first
    | with_reducible assumption | with_reducible apply epochChange_mode | with_reducible apply updEng_mode | with_reducible apply foldl_mode
    | with_reducible apply ite_mode | decide | with_reducible refine off_ne ?_ | with_reducible refine off_lt ?_ | intro _ | split | contradiction
    | dsimp only

theorem prune_mode (s : State) (h : Mode r s) : Mode r (State.prune s) := by
  unfold State.prune
  try extract_lets
  repeat' first
    | with_reducible assumption | with_reducible apply foldl_mode | with_reducible apply ite_mode | decide | with_reducible refine off_ne ?_
    | with_reducible refine off_lt ?_ | intro _ | split | contradiction | dsimp only | refine Mode.upd ?_

theorem cmdDone_mode (s : State) (e : EngineId) (isn : U64) (h : Mode r s) : Mode r (State.cmdDone s e isn) := by
  unfold State.cmdDone
  try extract_lets
  repeat' first
    | with_reducible assumption | with_reducible apply closeRunning_mode | with_reducible apply foldl_mode | with_reducible apply ite_mode | decide
    | with_reducible refine off_ne ?_ | with_reducible refine off_lt ?_ | intro _ | split | contradiction | dsimp only | refine Mode.upd ?_

theorem replayed_mode (s : State) (isn : U64) (h : Mode r s) : Mode r (State.replayed s isn) := by
  unfold State.replayed
  try extract_lets
  repeat' first
    | with_reducible assumption | with_reducible apply setPair_mode | with_reducible apply foldl_mode | with_reducible apply ite_mode | decide
    | with_reducible refine off_ne ?_ | with_reducible refine off_lt ?_ | intro _ | split | contradiction | dsimp only | refine Mode.upd ?_

theorem evaluated_mode (s : State) (e : EngineId) (isn : U64) (h : Mode r s) : Mode r (State.evaluated s e isn) := by
  unfold State.evaluated
  try extract_lets
  repeat' first
    | with_reducible assumption | with_reducible apply bump_mode | with_reducible apply updEng_mode | with_reducible apply replayed_mode
    | with_reducible apply prune_mode | with_reducible apply cmdDone_mode | with_reducible apply foldl_mode | with_reducible apply ite_mode | decide
    | with_reducible refine off_ne ?_ | with_reducible refine off_lt ?_ | intro _ | split | contradiction | dsimp only

theorem evaluate_mode (s : State) (e : EngineId) (ok : InRec → Bool) (f : InRec → State → State) (h : Mode r s) (h_f : ∀ x0 t, Mode r t → Mode r (f x0 t)) : Mode r (State.evaluate s e ok f) := by
  unfold State.evaluate
  try extract_lets
  repeat' first
    | with_reducible assumption | with_reducible apply h_f | with_reducible apply failEngine_mode | with_reducible apply evaluated_mode
    | with_reducible apply runStart_mode | with_reducible apply foldl_mode | with_reducible apply ite_mode | decide | with_reducible refine off_ne ?_
    | with_reducible refine off_lt ?_ | intro _ | split | contradiction | dsimp only

theorem feed_mode (s : State) (e : EngineId) (r1 : InRec) (type : Nat) (index : Nat) (input : PCfg → PtInput) (h : Mode r s) : Mode r (State.feed s e r1 type index input) := by
  unfold State.feed
  try extract_lets
  repeat' first
    | with_reducible assumption | with_reducible apply noteInvalid_mode | with_reducible apply applyInput_mode
    | (with_reducible refine Eq.mp (congrArg (Mode r) (congrArg Prod.fst ‹_ = (_, _)›)) (applyInput_mode ..)) | with_reducible apply foldl_mode
    | with_reducible apply ite_mode | decide | with_reducible refine off_ne ?_ | with_reducible refine off_lt ?_ | intro _ | split | contradiction
    | dsimp only

theorem onSample_mode (s : State) (e : EngineId) (r1 : InRec) (h : Mode r s) : Mode r (State.onSample s e r1) := by
  unfold State.onSample
  try extract_lets
  repeat' first
    | with_reducible assumption | with_reducible apply feed_mode | with_reducible apply foldl_mode | with_reducible apply ite_mode | decide
    | with_reducible refine off_ne ?_ | with_reducible refine off_lt ?_ | intro _ | split | contradiction | dsimp only

theorem onDiChange_mode (s : State) (e : EngineId) (r1 : InRec) (h : Mode r s) : Mode r (State.onDiChange s e r1) := by
  unfold State.onDiChange
  try extract_lets
  repeat' first
    | with_reducible assumption | with_reducible apply feed_mode | with_reducible apply acceptSources_mode | with_reducible apply foldl_mode
    | with_reducible apply ite_mode | decide | with_reducible refine off_ne ?_ | with_reducible refine off_lt ?_ | intro _ | split | contradiction
    | dsimp only

theorem onCount_mode (s : State) (e : EngineId) (r1 : InRec) (h : Mode r s) : Mode r (State.onCount s e r1) := by
  unfold State.onCount
  try extract_lets
  repeat' first
    | with_reducible assumption | with_reducible apply feed_mode | with_reducible apply foldl_mode | with_reducible apply ite_mode | decide
    | with_reducible refine off_ne ?_ | with_reducible refine off_lt ?_ | intro _ | split | contradiction | dsimp only

theorem onCanFrame_mode (s : State) (e : EngineId) (x : InRec) (h : Mode r s) : Mode r (s.onCanFrame e x) := by
  unfold State.onCanFrame
  extract_lets id len
  refine acceptSources_mode _ _ _ _ _ ?_
  have key : ∀ (l : List Nat) (a : State × List Nat), Mode r a.1 →
      Mode r (l.foldl (fun (a : State × List Nat) k =>
        let (s, acc) := a
        let d := SigDef.ofBytes (s.tarnSee (Tarn.CAN_SIG + 16 * k) 16)
        let s := s.noteInvalid e d.raw 16
        match d.extract id len x.ext with
        | none => (s, acc)
        | some none => ((s.bumpView e Reg.CAN_SIG_FAULT_CNT).feed e x 4 k (fun _ => { bad := true }), acc)
        | some (some v) =>
          (s.feed e x 4 k (fun c => { value := c.scale v }),
            if F32.isFinite v && !F32.eq v 0 then acc ++ [k] else acc)) a).1 := by
    intro l
    induction l with
    | nil => exact fun a ha => ha
    | cons k l ih =>
      intro a ha
      rw [List.foldl_cons]
      apply ih
      obtain ⟨s, acc⟩ := a
      replace ha : Mode r s := ha
      dsimp only
      split <;> dsimp only
      · exact noteInvalid_mode _ _ _ _ ha
      · exact feed_mode _ _ _ _ _ _ (bumpView_mode _ _ Reg.CAN_SIG_FAULT_CNT (noteInvalid_mode _ _ _ _ ha) (by decide))
      · exact feed_mode _ _ _ _ _ _ (noteInvalid_mode _ _ _ _ ha)
  exact key _ _ h

theorem health_mode (s : State) (e : EngineId) (r1 : InRec) (atStatus : Bool) (h : Mode r s) : Mode r (State.health s e r1 atStatus) := by
  unfold State.health
  try extract_lets
  repeat' first
    | with_reducible assumption | with_reducible apply putNode_mode | with_reducible apply foldl_mode | with_reducible apply ite_mode | decide
    | with_reducible refine off_ne ?_ | with_reducible refine off_lt ?_ | intro _ | split | contradiction | dsimp only

theorem enterTick_mode (s : State) (e : EngineId) (r1 : InRec) (h : Mode r s) : Mode r (State.enterTick s e r1) := by
  unfold State.enterTick
  try extract_lets
  repeat' first
    | with_reducible assumption | with_reducible apply updEng_mode | with_reducible apply putNode_mode | with_reducible apply countCustody_mode
    | with_reducible apply foldl_mode | with_reducible apply ite_mode | decide | with_reducible refine off_ne ?_ | with_reducible refine off_lt ?_
    | intro _ | split | contradiction | dsimp only

theorem sealTick_mode (s : State) (e : EngineId) (r1 : InRec) (h : Mode r s) : Mode r (State.sealTick s e r1) := by
  unfold State.sealTick
  try extract_lets
  repeat' first
    | with_reducible assumption | with_reducible apply putSeal_mode | with_reducible apply foldl_mode | with_reducible apply ite_mode | decide
    | with_reducible refine off_ne ?_ | with_reducible refine off_lt ?_ | intro _ | split | contradiction | dsimp only

theorem healthTick_mode (s : State) (e : EngineId) (r1 : InRec) (h : Mode r s) : Mode r (State.healthTick s e r1) := by
  unfold State.healthTick
  try extract_lets
  repeat' first
    | with_reducible assumption | with_reducible apply health_mode | with_reducible apply foldl_mode | with_reducible apply ite_mode | decide
    | with_reducible refine off_ne ?_ | with_reducible refine off_lt ?_ | intro _ | split | contradiction | dsimp only

theorem tickHash_mode (s : State) (e : EngineId) (r1 : InRec) (h : Mode r s) : Mode r (State.tickHash s e r1) := by
  unfold State.tickHash
  try extract_lets
  repeat' first
    | with_reducible assumption | with_reducible apply updEng_mode | with_reducible apply foldl_mode | with_reducible apply ite_mode | decide
    | with_reducible refine off_ne ?_ | with_reducible refine off_lt ?_ | intro _ | split | contradiction | dsimp only

theorem tickRefresh_mode (s : State) (e : EngineId) (r1 : InRec) (h : Mode r s) : Mode r (State.tickRefresh s e r1) := by
  unfold State.tickRefresh
  try extract_lets
  repeat' first
    | with_reducible assumption | with_reducible apply sweepGroups_mode | with_reducible apply updEng_mode | with_reducible apply refresh_mode
    | with_reducible apply tickHash_mode | with_reducible apply foldl_mode | with_reducible apply ite_mode | decide | with_reducible refine off_ne ?_
    | with_reducible refine off_lt ?_ | intro _ | split | contradiction | dsimp only

theorem tickHealth_mode (s : State) (e : EngineId) (r1 : InRec) (h : Mode r s) : Mode r (State.tickHealth s e r1) := by
  unfold State.tickHealth
  try extract_lets
  repeat' first
    | with_reducible assumption | with_reducible apply tickRefresh_mode | with_reducible apply updEng_mode | with_reducible apply healthTick_mode
    | with_reducible apply foldl_mode | with_reducible apply ite_mode | decide | with_reducible refine off_ne ?_ | with_reducible refine off_lt ?_
    | intro _ | split | contradiction | dsimp only

theorem tickSeal_mode (s : State) (e : EngineId) (r1 : InRec) (h : Mode r s) : Mode r (State.tickSeal s e r1) := by
  unfold State.tickSeal
  try extract_lets
  repeat' first
    | with_reducible assumption | with_reducible apply tickHealth_mode | with_reducible apply updEng_mode | with_reducible apply sealTick_mode
    | with_reducible apply foldl_mode | with_reducible apply ite_mode | decide | with_reducible refine off_ne ?_ | with_reducible refine off_lt ?_
    | intro _ | split | contradiction | dsimp only

theorem onTick_mode (s : State) (e : EngineId) (r1 : InRec) (h : Mode r s) : Mode r (State.onTick s e r1) := by
  unfold State.onTick
  dsimp only
  repeat' first
    | with_reducible assumption | with_reducible apply tickSeal_mode | with_reducible apply enterTick_mode | with_reducible apply draw_mode
    | (with_reducible refine Eq.mp (congrArg (Mode r) (congrArg Prod.snd ‹_ = (_, _)›)) (draw_mode ..)) | with_reducible apply updEng_mode
    | with_reducible apply recordMax_mode | with_reducible apply foldl_mode | with_reducible apply ite_mode | decide | with_reducible refine off_ne ?_
    | with_reducible refine off_lt ?_ | intro _ | split | contradiction | dsimp only

theorem inTick_mode (s : State) (e : EngineId) (f : InRec → State → State) (h : Mode r s) (h_f : ∀ x0 t, Mode r t → Mode r (f x0 t)) : Mode r (State.inTick s e f) := by
  unfold State.inTick
  try extract_lets
  repeat' first
    | with_reducible assumption | with_reducible apply h_f | with_reducible apply failEngine_mode | with_reducible apply enterTick_mode
    | with_reducible apply runStart_mode | with_reducible apply foldl_mode | with_reducible apply ite_mode | decide | with_reducible refine off_ne ?_
    | with_reducible refine off_lt ?_ | intro _ | split | contradiction | dsimp only

theorem ackPoint_mode (s : State) (e : EngineId) (r1 : InRec) (p : Nat) (h : Mode r s) : Mode r (State.ackPoint s e r1 p) := by
  unfold State.ackPoint
  try extract_lets
  repeat' first
    | with_reducible assumption | with_reducible apply noteInvalid_mode | with_reducible apply pointEvent_mode | with_reducible apply setPt_mode
    | with_reducible apply foldl_mode | with_reducible apply ite_mode | decide | with_reducible refine off_ne ?_ | with_reducible refine off_lt ?_
    | intro _ | split | contradiction | dsimp only

theorem evalAckPoint_mode (s : State) (e : EngineId) (r1 : InRec) (h : Mode r s) : Mode r (State.evalAckPoint s e r1).2 := by
  unfold State.evalAckPoint
  try extract_lets
  repeat' first
    | with_reducible assumption | with_reducible apply ackPoint_mode | with_reducible apply foldl_mode | with_reducible apply ite_mode | decide
    | with_reducible refine off_ne ?_ | with_reducible refine off_lt ?_ | intro _ | split | contradiction | dsimp only

theorem evalShelve_mode (s : State) (e : EngineId) (r1 : InRec) (h : Mode r s) : Mode r (State.evalShelve s e r1).2 := by
  unfold State.evalShelve
  try extract_lets
  repeat' first
    | with_reducible assumption | with_reducible apply noteInvalid_mode | with_reducible apply setPt_mode | with_reducible apply report__mode
    | with_reducible apply foldl_mode | with_reducible apply ite_mode | decide | with_reducible refine off_ne ?_ | with_reducible refine off_lt ?_
    | intro _ | split | contradiction | dsimp only

theorem evalUnshelve_mode (s : State) (e : EngineId) (r1 : InRec) (h : Mode r s) : Mode r (State.evalUnshelve s e r1).2 := by
  unfold State.evalUnshelve
  try extract_lets
  repeat' first
    | with_reducible assumption | with_reducible apply endShelve_mode | with_reducible apply noteInvalid_mode | with_reducible apply foldl_mode
    | with_reducible apply ite_mode | decide | with_reducible refine off_ne ?_ | with_reducible refine off_lt ?_ | intro _ | split | contradiction
    | dsimp only

theorem force_mode (s : State) (e : EngineId) (r1 : InRec) (p : Nat) (c : PCfg) (v : F32) (h : Mode r s) : Mode r (State.force s e r1 p c v) := by
  unfold State.force
  try extract_lets
  repeat' first
    | with_reducible assumption | with_reducible apply moveTo_mode | with_reducible apply setPt_mode | with_reducible apply report__mode
    | with_reducible apply foldl_mode | with_reducible apply ite_mode | decide | with_reducible refine off_ne ?_ | with_reducible refine off_lt ?_
    | intro _ | split | contradiction | dsimp only

theorem evalForcePoint_mode (s : State) (e : EngineId) (r1 : InRec) (h : Mode r s) : Mode r (State.evalForcePoint s e r1).2 := by
  unfold State.evalForcePoint
  try extract_lets
  repeat' first
    | with_reducible assumption | with_reducible apply noteInvalid_mode | with_reducible apply force_mode | with_reducible apply report__mode
    | with_reducible apply foldl_mode | with_reducible apply ite_mode | decide | with_reducible refine off_ne ?_ | with_reducible refine off_lt ?_
    | intro _ | split | contradiction | dsimp only

theorem evalPointRead_mode (s : State) (e : EngineId) (r1 : InRec) (h : Mode r s) : Mode r (State.evalPointRead s e r1).2 := by
  unfold State.evalPointRead
  try extract_lets
  repeat' first
    | with_reducible assumption | with_reducible apply foldl_mode | with_reducible apply ite_mode | decide | with_reducible refine off_ne ?_
    | with_reducible refine off_lt ?_ | intro _ | split | contradiction | dsimp only | refine Mode.upd ?_

theorem ackMembers_mode (s : State) (e : EngineId) (r1 : InRec) (g : Nat) (h : Mode r s) : Mode r (State.ackMembers s e r1 g) := by
  unfold State.ackMembers
  try extract_lets
  repeat' first
    | with_reducible assumption | with_reducible apply noteInvalid_mode | with_reducible apply ackPoint_mode | with_reducible apply foldl_mode
    | with_reducible apply ite_mode | decide | with_reducible refine off_ne ?_ | with_reducible refine off_lt ?_ | intro _ | split | contradiction
    | dsimp only

theorem evalAckGroup_mode (s : State) (e : EngineId) (r1 : InRec) (h : Mode r s) : Mode r (State.evalAckGroup s e r1).2 := by
  unfold State.evalAckGroup
  try extract_lets
  repeat' first
    | with_reducible assumption | with_reducible apply noteGroup_mode | with_reducible apply ackMembers_mode | with_reducible apply callTo_mode
    | with_reducible apply foldl_mode | with_reducible apply ite_mode | decide | with_reducible refine off_ne ?_ | with_reducible refine off_lt ?_
    | intro _ | split | contradiction | dsimp only

theorem evalCallManual_mode (s : State) (e : EngineId) (r1 : InRec) (h : Mode r s) : Mode r (State.evalCallManual s e r1).2 := by
  unfold State.evalCallManual
  try extract_lets
  repeat' first
    | with_reducible assumption | with_reducible apply noteGroup_mode | with_reducible apply callTo_mode | with_reducible apply foldl_mode
    | with_reducible apply ite_mode | decide | with_reducible refine off_ne ?_ | with_reducible refine off_lt ?_ | intro _ | split | contradiction
    | dsimp only

theorem evalCallSilence_mode (s : State) (e : EngineId) (r1 : InRec) (h : Mode r s) : Mode r (State.evalCallSilence s e r1).2 := by
  unfold State.evalCallSilence
  try extract_lets
  repeat' first
    | with_reducible assumption | with_reducible apply noteGroup_mode | with_reducible apply callTo_mode | with_reducible apply foldl_mode
    | with_reducible apply ite_mode | decide | with_reducible refine off_ne ?_ | with_reducible refine off_lt ?_ | intro _ | split | contradiction
    | dsimp only

theorem evalDeadmanReset_mode (s : State) (e : EngineId) (r1 : InRec) (h : Mode r s) : Mode r (State.evalDeadmanReset s e r1).2 := by
  unfold State.evalDeadmanReset
  try extract_lets
  repeat' first
    | with_reducible assumption | with_reducible apply noteGroup_mode | with_reducible apply press_mode | with_reducible apply foldl_mode
    | with_reducible apply ite_mode | decide | with_reducible refine off_ne ?_ | with_reducible refine off_lt ?_ | intro _ | split | contradiction
    | dsimp only

theorem evalCmd_mode (s : State) (e : EngineId) (opcode : Nat) (f : InRec → State → Eval) (h : Mode r s)
    (h_f : ∀ x t, Mode r t → Mode r (f x t).2) : Mode r (s.evalCmd e opcode f) := by
  unfold State.evalCmd
  refine evaluate_mode _ _ _ _ h (fun x t ht => ?_)
  have hx := h_f x t ht
  rcases e : f x t with ⟨st, u⟩
  rw [e] at hx
  exact hx.upd

theorem evalOp_mode (s : State) (op : Nat) (e : EngineId) (r1 : InRec) (h : Mode r s) : Mode r (State.evalOp s op e r1).2 := by
  unfold State.evalOp
  try extract_lets
  repeat' first
    | with_reducible assumption | with_reducible apply evalPointRead_mode
    | (with_reducible refine Eq.mp (congrArg (Mode r) (congrArg Prod.snd ‹_ = (_, _)›)) (evalPointRead_mode ..))
    | with_reducible apply evalAckPoint_mode
    | (with_reducible refine Eq.mp (congrArg (Mode r) (congrArg Prod.snd ‹_ = (_, _)›)) (evalAckPoint_mode ..))
    | with_reducible apply evalAckGroup_mode
    | (with_reducible refine Eq.mp (congrArg (Mode r) (congrArg Prod.snd ‹_ = (_, _)›)) (evalAckGroup_mode ..)) | with_reducible apply evalShelve_mode
    | (with_reducible refine Eq.mp (congrArg (Mode r) (congrArg Prod.snd ‹_ = (_, _)›)) (evalShelve_mode ..)) | with_reducible apply evalUnshelve_mode
    | (with_reducible refine Eq.mp (congrArg (Mode r) (congrArg Prod.snd ‹_ = (_, _)›)) (evalUnshelve_mode ..))
    | with_reducible apply evalForcePoint_mode
    | (with_reducible refine Eq.mp (congrArg (Mode r) (congrArg Prod.snd ‹_ = (_, _)›)) (evalForcePoint_mode ..))
    | with_reducible apply evalCallManual_mode
    | (with_reducible refine Eq.mp (congrArg (Mode r) (congrArg Prod.snd ‹_ = (_, _)›)) (evalCallManual_mode ..))
    | with_reducible apply evalCallSilence_mode
    | (with_reducible refine Eq.mp (congrArg (Mode r) (congrArg Prod.snd ‹_ = (_, _)›)) (evalCallSilence_mode ..))
    | with_reducible apply evalDeadmanReset_mode
    | (with_reducible refine Eq.mp (congrArg (Mode r) (congrArg Prod.snd ‹_ = (_, _)›)) (evalDeadmanReset_mode ..)) | with_reducible apply foldl_mode
    | with_reducible apply ite_mode | decide | with_reducible refine off_ne ?_ | with_reducible refine off_lt ?_ | intro _ | split | contradiction
    | dsimp only

theorem fillMark_mode (s : State) (isn : U64) (ext : List Byte) (h : Mode r s) : Mode r (State.fillMark s isn ext) := by
  unfold State.fillMark
  try extract_lets
  repeat' first
    | with_reducible assumption | with_reducible apply updSpawn_mode | with_reducible apply foldl_mode | with_reducible apply ite_mode | decide
    | with_reducible refine off_ne ?_ | with_reducible refine off_lt ?_ | intro _ | split | contradiction | dsimp only | refine Mode.upd ?_

theorem evalMark_mode (s : State) (e : EngineId) (h : Mode r s) : Mode r (State.evalMark s e) := by
  unfold State.evalMark
  try extract_lets
  repeat' first
    | with_reducible assumption | with_reducible apply runStart_mode | with_reducible apply fillMark_mode | with_reducible apply updSpawn_mode
    | with_reducible apply lineWritten_mode | with_reducible apply evaluated_mode | with_reducible apply updEng_mode
    | with_reducible apply setRegFld_mode | with_reducible apply failEngine_mode | with_reducible apply foldl_mode | with_reducible apply ite_mode
    | decide | with_reducible refine off_ne ?_ | with_reducible refine off_lt ?_ | intro _ | split | contradiction | dsimp only

theorem takeStatus_mode (s : State) (e : EngineId) (r1 : InRec) (h : Mode r s) : Mode r (State.takeStatus s e r1) := by
  unfold State.takeStatus
  try extract_lets
  repeat' first
    | with_reducible assumption | with_reducible apply setReg_mode | with_reducible apply updEng_mode | with_reducible apply foldl_mode
    | with_reducible apply ite_mode | decide | with_reducible refine off_ne ?_ | with_reducible refine off_lt ?_ | intro _ | split | contradiction
    | dsimp only

theorem divergeReads_mode (s : State) (e : EngineId) (arg : U32) (h : Mode r s) : Mode r (State.divergeReads s e arg) := by
  unfold State.divergeReads
  try extract_lets
  repeat' first
    | with_reducible assumption | with_reducible apply noteInvalid_mode | with_reducible apply foldl_mode | with_reducible apply ite_mode | decide
    | with_reducible refine off_ne ?_ | with_reducible refine off_lt ?_ | intro _ | split | contradiction | dsimp only

theorem onDiverge_mode (s : State) (e : EngineId) (r1 : InRec) (h : Mode r s) : Mode r (State.onDiverge s e r1) := by
  unfold State.onDiverge
  try extract_lets
  repeat' first
    | with_reducible assumption | with_reducible apply putNode_mode | with_reducible apply divergeReads_mode | with_reducible apply bump_mode
    | with_reducible apply updEng_mode | with_reducible apply divergeDone_mode | with_reducible apply foldl_mode | with_reducible apply ite_mode
    | decide | with_reducible refine off_ne ?_ | with_reducible refine off_lt ?_ | intro _ | split | contradiction | dsimp only

theorem resetPoint_mode (s : State) (e : EngineId) (r1 : InRec) (p : Nat) (prio : Nat) (custody : Bool) (st : Byte) (h : Mode r s) : Mode r (State.resetPoint s e r1 p prio custody st) := by
  unfold State.resetPoint
  try extract_lets
  repeat' first
    | with_reducible assumption | with_reducible apply pointEvent_mode | with_reducible apply setPt_mode | with_reducible apply foldl_mode
    | with_reducible apply ite_mode | decide | with_reducible refine off_ne ?_ | with_reducible refine off_lt ?_ | intro _ | split | contradiction
    | dsimp only

theorem onRepair_mode (s : State) (e : EngineId) (r1 : InRec) (h : Mode r s) : Mode r (State.onRepair s e r1) := by
  unfold State.onRepair
  try extract_lets
  repeat' first
    | with_reducible assumption | with_reducible apply resetHalf_mode | with_reducible apply noteGroup_mode | with_reducible apply noteInvalid_mode
    | with_reducible apply resetPoint_mode | with_reducible apply foldl_mode | with_reducible apply ite_mode | decide
    | with_reducible refine off_ne ?_ | with_reducible refine off_lt ?_ | intro _ | split | contradiction | dsimp only

theorem onSourceGap_mode (s : State) (e : EngineId) (r1 : InRec) (h : Mode r s) : Mode r (State.onSourceGap s e r1) := by
  unfold State.onSourceGap
  try extract_lets
  repeat' first
    | with_reducible assumption | with_reducible apply putNode_mode | with_reducible apply foldl_mode | with_reducible apply ite_mode | decide
    | with_reducible refine off_ne ?_ | with_reducible refine off_lt ?_ | intro _ | split | contradiction | dsimp only

theorem onStatus_mode (s : State) (e : EngineId) (r1 : InRec) (h : Mode r s) : Mode r (State.onStatus s e r1) := by
  unfold State.onStatus
  try extract_lets
  repeat' first
    | with_reducible assumption | with_reducible apply health_mode | with_reducible apply takeStatus_mode | with_reducible apply foldl_mode
    | with_reducible apply ite_mode | decide | with_reducible refine off_ne ?_ | with_reducible refine off_lt ?_ | intro _ | split | contradiction
    | dsimp only

theorem onCopy_mode (s : State) (e : EngineId) (r1 : InRec) (h : Mode r s) : Mode r (State.onCopy s e r1) := by
  unfold State.onCopy
  try extract_lets
  repeat' first
    | with_reducible assumption | with_reducible apply takeStatus_mode | with_reducible apply updSkink_mode | with_reducible apply updEng_mode
    | with_reducible apply foldl_mode | with_reducible apply ite_mode | decide | with_reducible refine off_ne ?_ | with_reducible refine off_lt ?_
    | intro _ | split | contradiction | dsimp only

theorem onAudit_mode (s : State) (e : EngineId) (r1 : InRec) (h : Mode r s) : Mode r (State.onAudit s e r1) := by
  unfold State.onAudit
  try extract_lets
  repeat' first
    | with_reducible assumption | with_reducible apply updEng_mode | with_reducible apply takeStatus_mode | with_reducible apply foldl_mode
    | with_reducible apply ite_mode | decide | with_reducible refine off_ne ?_ | with_reducible refine off_lt ?_ | intro _ | split | contradiction
    | dsimp only

theorem onResync_mode (s : State) (e : EngineId) (r1 : InRec) (h : Mode r s) : Mode r (State.onResync s e r1) := by
  unfold State.onResync
  try extract_lets
  repeat' first
    | with_reducible assumption | with_reducible apply onStatus_mode | with_reducible apply onCopy_mode | with_reducible apply onAudit_mode
    | with_reducible apply onDiverge_mode | with_reducible apply takeStatus_mode | with_reducible apply onRepair_mode
    | with_reducible apply foldl_mode | with_reducible apply ite_mode | decide | with_reducible refine off_ne ?_ | with_reducible refine off_lt ?_
    | intro _ | split | contradiction | dsimp only

theorem onRecord_mode (s : State) (e : EngineId) (r1 : InRec) (h : Mode r s) : Mode r (State.onRecord s e r1) := by
  unfold State.onRecord
  try extract_lets
  repeat' first
    | with_reducible assumption | with_reducible apply onSample_mode | with_reducible apply onDiChange_mode | with_reducible apply onCount_mode
    | with_reducible apply onCanFrame_mode | with_reducible apply onTick_mode | with_reducible apply onSourceGap_mode
    | with_reducible apply onResync_mode | with_reducible apply putSeal_mode | with_reducible apply foldl_mode | with_reducible apply ite_mode
    | decide | with_reducible refine off_ne ?_ | with_reducible refine off_lt ?_ | intro _ | split | contradiction | dsimp only

theorem evalNext_mode (s : State) (e : EngineId) (h : Mode r s) : Mode r (State.evalNext s e) := by
  unfold State.evalNext
  try extract_lets
  repeat' first
    | with_reducible assumption | with_reducible apply evalMark_mode | with_reducible apply evalCmd_mode | with_reducible apply evalOp_mode
    | (with_reducible refine Eq.mp (congrArg (Mode r) (congrArg Prod.snd ‹_ = (_, _)›)) (evalOp_mode ..)) | with_reducible apply evaluate_mode
    | with_reducible apply onRecord_mode | with_reducible apply foldl_mode | with_reducible apply ite_mode | decide | with_reducible refine off_ne ?_
    | with_reducible refine off_lt ?_ | intro _ | split | contradiction | dsimp only

theorem pointAdjust_mode (s : State) (e : EngineId) (r1 : InRec) (p : Nat) (old : PCfg) (new : PCfg) (h : Mode r s) : Mode r (State.pointAdjust s e r1 p old new) := by
  unfold State.pointAdjust
  try extract_lets
  repeat' first
    | with_reducible assumption | with_reducible apply decide__mode
    | (with_reducible refine Eq.mp (congrArg (Mode r) (congrArg Prod.fst ‹_ = (_, _)›)) (decide__mode ..)) | with_reducible apply setPt_mode
    | with_reducible apply delayTick_mode | with_reducible apply endShelve_mode | with_reducible apply foldl_mode | with_reducible apply ite_mode
    | decide | with_reducible refine off_ne ?_ | with_reducible refine off_lt ?_ | intro _ | split | contradiction | dsimp only

theorem leaveGroup_mode (s : State) (e : EngineId) (p : Nat) (old : PCfg) (new : PCfg) (h : Mode r s) : Mode r (State.leaveGroup s e p old new) := by
  unfold State.leaveGroup
  try extract_lets
  repeat' first
    | with_reducible assumption | with_reducible apply updGr_mode | with_reducible apply foldl_mode | with_reducible apply ite_mode | decide
    | with_reducible refine off_ne ?_ | with_reducible refine off_lt ?_ | intro _ | split | contradiction | dsimp only

theorem pointWritten_mode (s : State) (e : EngineId) (r1 : InRec) (p : Nat) (old : PCfg) (new : PCfg) (h : Mode r s) : Mode r (State.pointWritten s e r1 p old new) := by
  unfold State.pointWritten
  try extract_lets
  repeat' first
    | with_reducible assumption | with_reducible apply leaveGroup_mode | with_reducible apply resetPoint_mode | with_reducible apply pointAdjust_mode
    | with_reducible apply foldl_mode | with_reducible apply ite_mode | decide | with_reducible refine off_ne ?_ | with_reducible refine off_lt ?_
    | intro _ | split | contradiction | dsimp only

theorem fetchMore_mode (s : State) (n : Nat) (h : Mode r s) : Mode r (State.fetchMore s n) := by
  unfold State.fetchMore
  try extract_lets
  repeat' first
    | with_reducible assumption | with_reducible apply emitOut_mode | with_reducible apply foldl_mode | with_reducible apply ite_mode | decide
    | with_reducible refine off_ne ?_ | with_reducible refine off_lt ?_ | intro _ | split | contradiction | dsimp only | refine Mode.upd ?_

theorem takeHead_mode (s : State) (n : Nat) (h : Mode r s) : Mode r (s.takeHead n) :=
  fetchMore_mode _ _ (consume_mode _ _ h)

theorem done_mode (s : State) (d : Desc) (status : Nat) (result : U64) (h : Mode r s) : Mode r (State.done s d status result) := by
  unfold State.done
  try extract_lets
  repeat' first
    | with_reducible assumption | with_reducible apply complete_mode | with_reducible apply foldl_mode | with_reducible apply ite_mode | decide
    | with_reducible refine off_ne ?_ | with_reducible refine off_lt ?_ | intro _ | split | contradiction | dsimp only

theorem dirCmd_mode (s : State) (op : Nat) (f : Desc → State → State) (h : Mode r s) (h_f : ∀ x0 t, Mode r t → Mode r (f x0 t)) : Mode r (State.dirCmd s op f) := by
  unfold State.dirCmd
  try extract_lets
  repeat' first
    | with_reducible assumption | with_reducible apply h_f | with_reducible apply takeHead_mode | with_reducible apply done_mode
    | with_reducible apply foldl_mode | with_reducible apply ite_mode | decide | with_reducible refine off_ne ?_ | with_reducible refine off_lt ?_
    | intro _ | split | contradiction | dsimp only

theorem submit_mode (s : State) (u : CmdUnit) (h : Mode r s) : Mode r (State.submit s u) := by
  unfold State.submit
  try extract_lets
  repeat' first
    | with_reducible assumption | with_reducible apply foldl_mode | with_reducible apply ite_mode | decide | with_reducible refine off_ne ?_
    | with_reducible refine off_lt ?_ | intro _ | split | contradiction | dsimp only | refine Mode.upd ?_

theorem recTake_mode (s : State) (op : Nat) (h : Mode r s) : Mode r (State.recTake s op) := by
  unfold State.recTake
  try extract_lets
  repeat' first
    | with_reducible assumption | with_reducible apply takeHead_mode | with_reducible apply done_mode | with_reducible apply submit_mode
    | with_reducible apply foldl_mode | with_reducible apply ite_mode | decide | with_reducible refine off_ne ?_ | with_reducible refine off_lt ?_
    | intro _ | split | contradiction | dsimp only

theorem cfgTake_mode (s : State) (op : Nat) (check : Desc → State → Nat × State ⊕ CmdUnit) (h : Mode r s)
    (hc : ∀ d t x, Mode r t → check d t = .inl x → Mode r x.2) : Mode r (s.cfgTake op check) := by
  unfold State.cfgTake
  split
  · exact h
  · next d _ =>
    extract_lets t
    have ht : Mode r t := takeHead_mode _ _ h
    refine ite_mode _ _ _ (fun _ => h) fun _ => ite_mode _ _ _ (fun _ => done_mode _ _ _ _ ht) fun _ => ?_
    split
    · next st y e => exact done_mode _ _ _ _ (hc _ _ _ ht e)
    · exact submit_mode _ _ ht

theorem writeCompletion_mode (s : State) (h : Mode r s) : Mode r (State.writeCompletion s) := by
  unfold State.writeCompletion
  try extract_lets
  repeat' first
    | with_reducible assumption | with_reducible apply postEntry_mode | with_reducible apply foldl_mode | with_reducible apply ite_mode | decide
    | with_reducible refine off_ne ?_ | with_reducible refine off_lt ?_ | intro _ | split | contradiction | dsimp only | refine Mode.upd ?_

theorem goodRx_mode (s : State) (n : Nat) (h : Mode r s) : Mode r (State.goodRx s n) := by
  unfold State.goodRx
  try extract_lets
  repeat' first
    | with_reducible assumption | with_reducible apply setErr_mode | with_reducible apply draw_mode
    | (with_reducible refine Eq.mp (congrArg (Mode r) (congrArg Prod.snd ‹_ = (_, _)›)) (draw_mode ..)) | with_reducible apply foldl_mode
    | with_reducible apply ite_mode | decide | with_reducible refine off_ne ?_ | with_reducible refine off_lt ?_ | intro _ | split | contradiction
    | dsimp only

theorem canReceive_mode (s : State) (n : Nat) (f : CanFrame) (h : Mode r s) : Mode r (State.canReceive s n f) := by
  unfold State.canReceive
  try extract_lets
  repeat' first
    | with_reducible assumption | with_reducible apply bump_mode | with_reducible apply goodRx_mode | with_reducible apply updCan_mode
    | with_reducible apply markLoss_mode | with_reducible apply raise_mode | with_reducible apply foldl_mode | with_reducible apply ite_mode | decide
    | with_reducible refine off_ne ?_ | with_reducible refine off_lt ?_ | intro _ | split | contradiction | dsimp only | refine Mode.upd ?_

theorem canExtract_mode (s : State) (n : Nat) (f : CanFrame) (time : U64) (e : FiltElem) (h : Mode r s) : Mode r (State.canExtract s n f time e) := by
  unfold State.canExtract
  try extract_lets
  repeat' first
    | with_reducible assumption | with_reducible apply bump_mode | with_reducible apply offer_mode | with_reducible apply raise_mode
    | with_reducible apply foldl_mode | with_reducible apply ite_mode | decide | with_reducible refine off_ne ?_ | with_reducible refine off_lt ?_
    | intro _ | split | contradiction | dsimp only

theorem canToRing_mode (s : State) (n : Nat) (f : CanFrame) (time : U64) (q : U32) (filter : Nat) (h : Mode r s) : Mode r (State.canToRing s n f time q filter) := by
  unfold State.canToRing
  try extract_lets
  repeat' first
    | with_reducible assumption | with_reducible apply canRing_mode
    | (with_reducible refine Eq.mp (congrArg (Mode r) (congrArg Prod.fst ‹_ = (_, _)›)) (canRing_mode ..)) | with_reducible apply bump_mode
    | with_reducible apply foldl_mode | with_reducible apply ite_mode | decide | with_reducible refine off_ne ?_ | with_reducible refine off_lt ?_
    | intro _ | split | contradiction | dsimp only

theorem route_mode (s : State) (n : Nat) (f : CanFrame) (time : U64) (q : U32) (w : Walk) (h : Mode r s) : Mode r (State.route s n f time q w) := by
  unfold State.route
  try extract_lets
  repeat' first
    | with_reducible assumption | with_reducible apply bump_mode | with_reducible apply canToRing_mode | with_reducible apply canExtract_mode
    | with_reducible apply foldl_mode | with_reducible apply ite_mode | decide | with_reducible refine off_ne ?_ | with_reducible refine off_lt ?_
    | intro _ | split | contradiction | dsimp only

theorem walkNext_mode (s : State) (h : Mode r s) : Mode r (State.walkNext s) := by
  unfold State.walkNext
  try extract_lets
  repeat' first
    | with_reducible assumption | with_reducible apply updCan_mode | with_reducible apply recordMax_mode | with_reducible apply bump_mode
    | with_reducible apply raise_mode | with_reducible apply bumpBy_mode | with_reducible apply echoesDue_mode | with_reducible apply route_mode
    | with_reducible apply foldl_mode | with_reducible apply ite_mode | decide | with_reducible refine off_ne ?_ | with_reducible refine off_lt ?_
    | intro _ | split | contradiction | dsimp only | refine Mode.upd ?_

theorem filtSettle_mode (s : State) (n : Nat) (h : Mode r s) : Mode r (State.filtSettle s n) := by
  unfold State.filtSettle
  try extract_lets
  repeat' first
    | with_reducible assumption | with_reducible apply setCanStat_mode | with_reducible apply updCan_mode | with_reducible apply foldl_mode
    | with_reducible apply ite_mode | decide | with_reducible refine off_ne ?_ | with_reducible refine off_lt ?_ | intro _ | split | contradiction
    | dsimp only

theorem attemptFails_mode (s : State) (n : Nat) (t : TxSlot) (code : Nat) (h : Mode r s) : Mode r (State.attemptFails s n t code) := by
  unfold State.attemptFails
  try extract_lets
  repeat' first
    | with_reducible assumption | with_reducible apply cancelEnds_mode | with_reducible apply txOutcome_mode | with_reducible apply freeTx_mode
    | with_reducible apply bump_mode | with_reducible apply updCan_mode | with_reducible apply foldl_mode | with_reducible apply ite_mode | decide
    | with_reducible refine off_ne ?_ | with_reducible refine off_lt ?_ | intro _ | split | contradiction | dsimp only

theorem noAck_mode (s : State) (n : Nat) (h : Mode r s) : Mode r (State.noAck s n) := by
  unfold State.noAck
  try extract_lets
  repeat' first
    | with_reducible assumption | with_reducible apply bump_mode | with_reducible apply setReg_mode | with_reducible apply raise_mode
    | with_reducible apply setCanStat_mode | with_reducible apply foldl_mode | with_reducible apply ite_mode | decide
    | with_reducible refine off_ne ?_ | with_reducible refine off_lt ?_ | intro _ | split | contradiction | dsimp only

theorem acked_mode (s : State) (n : Nat) (h : Mode r s) : Mode r (State.acked s n) := by
  unfold State.acked
  try extract_lets
  repeat' first
    | with_reducible assumption | with_reducible apply canQuiet_mode | with_reducible apply raise_mode | with_reducible apply foldl_mode
    | with_reducible apply ite_mode | decide | with_reducible refine off_ne ?_ | with_reducible refine off_lt ?_ | intro _ | split | contradiction
    | dsimp only

theorem txError_mode (s : State) (n : Nat) (h : Mode r s) : Mode r (State.txError s n) := by
  unfold State.txError
  try extract_lets
  repeat' first
    | with_reducible assumption | with_reducible apply setErr_mode | with_reducible apply foldl_mode | with_reducible apply ite_mode | decide
    | with_reducible refine off_ne ?_ | with_reducible refine off_lt ?_ | intro _ | split | contradiction | dsimp only

theorem loopDelay_mode (s : State) (n : Nat) (t : TxSlot) (r1 : TxResult) (h : Mode r s) : Mode r (State.loopDelay s n t r1) := by
  unfold State.loopDelay
  try extract_lets
  repeat' first
    | with_reducible assumption | with_reducible apply draw_mode
    | (with_reducible refine Eq.mp (congrArg (Mode r) (congrArg Prod.snd ‹_ = (_, _)›)) (draw_mode ..)) | with_reducible apply setRegFld_mode
    | with_reducible apply foldl_mode | with_reducible apply ite_mode | decide | with_reducible refine off_ne ?_ | with_reducible refine off_lt ?_
    | intro _ | split | contradiction | dsimp only

theorem attemptEnd_mode (s : State) (n : Nat) (t : TxSlot) (r1 : TxResult) (h : Mode r s) : Mode r (State.attemptEnd s n t r1) := by
  unfold State.attemptEnd
  dsimp only
  repeat' first
    | with_reducible assumption | with_reducible apply loopDelay_mode | with_reducible apply emitOut_mode | with_reducible apply acked_mode
    | with_reducible apply bump_mode | with_reducible apply setErr_mode | with_reducible apply txOutcome_mode | with_reducible apply freeTx_mode
    | with_reducible apply cancelEnds_mode | with_reducible apply noAck_mode | with_reducible apply errFrame_mode | with_reducible apply txError_mode
    | with_reducible apply attemptFails_mode | with_reducible apply canOff_mode | with_reducible apply canJoin_mode | with_reducible apply foldl_mode
    | with_reducible apply ite_mode | decide | with_reducible refine off_ne ?_ | with_reducible refine off_lt ?_ | intro _ | split | contradiction
    | dsimp only

theorem attemptStart_mode (s : State) (n : Nat) (h : Mode r s) : Mode r (State.attemptStart s n) := by
  unfold State.attemptStart
  try extract_lets
  repeat' first
    | with_reducible assumption | with_reducible apply updCan_mode | with_reducible apply foldl_mode | with_reducible apply ite_mode | decide
    | with_reducible refine off_ne ?_ | with_reducible refine off_lt ?_ | intro _ | split | contradiction | dsimp only

theorem takeTx_mode (s : State) (n : Nat) (h : Mode r s) : Mode r (State.takeTx s n) := by
  unfold State.takeTx
  try extract_lets
  repeat' first
    | with_reducible assumption | with_reducible apply takeHead_mode | with_reducible apply setReg_mode | with_reducible apply foldl_mode
    | with_reducible apply ite_mode | decide | with_reducible refine off_ne ?_ | with_reducible refine off_lt ?_ | intro _ | split | contradiction
    | dsimp only

theorem takeEntry_mode (s : State) (n : Nat) (h : Mode r s) : Mode r (State.takeEntry s n) := by
  unfold State.takeEntry
  try extract_lets
  repeat' first
    | with_reducible assumption | with_reducible apply takeTx_mode | with_reducible apply updCan_mode | with_reducible apply txOutcome_mode
    | with_reducible apply foldl_mode | with_reducible apply ite_mode | decide | with_reducible refine off_ne ?_ | with_reducible refine off_lt ?_
    | intro _ | split | contradiction | dsimp only

theorem cancelPrefetched_mode (s : State) (n : Nat) (hit : U16 → Bool) (h : Mode r s) : Mode r (State.cancelPrefetched s n hit).1 := by
  unfold State.cancelPrefetched
  try extract_lets
  repeat' first
    | with_reducible assumption | with_reducible apply advanceRing_mode | with_reducible apply setReg_mode | with_reducible apply txOutcome_mode
    | with_reducible apply fetchMore_mode | with_reducible apply foldl_mode | with_reducible apply ite_mode | decide | with_reducible refine off_ne ?_
    | with_reducible refine off_lt ?_ | intro _ | split | contradiction | dsimp only | refine Mode.upd ?_

theorem cancel_mode (s : State) (d : Desc) (h : Mode r s) : Mode r (State.cancel s d) := by
  unfold State.cancel
  try extract_lets
  repeat' first
    | with_reducible assumption | with_reducible apply done_mode | with_reducible apply endFrames_mode | with_reducible apply cancelPrefetched_mode
    | (with_reducible refine Eq.mp (congrArg (Mode r) (congrArg Prod.fst ‹_ = (_, _)›)) (cancelPrefetched_mode ..)) | with_reducible apply defer_mode
    | with_reducible apply updCan_mode | with_reducible apply foldl_mode | with_reducible apply ite_mode | decide | with_reducible refine off_ne ?_
    | with_reducible refine off_lt ?_ | intro _ | split | contradiction | dsimp only

theorem busOn_mode (s : State) (n : Nat) (h : Mode r s) : Mode r (State.busOn s n) := by
  unfold State.busOn
  try extract_lets
  repeat' first
    | with_reducible assumption | with_reducible apply setCanStat_mode | with_reducible apply canJoin_mode | with_reducible apply canRecover_mode
    | with_reducible apply foldl_mode | with_reducible apply ite_mode | decide | with_reducible refine off_ne ?_ | with_reducible refine off_lt ?_
    | intro _ | split | contradiction | dsimp only

theorem channelCtl_mode (s : State) (d : Desc) (h : Mode r s) : Mode r (State.channelCtl s d) := by
  unfold State.channelCtl
  dsimp only
  repeat' first
    | with_reducible assumption | with_reducible apply done_mode | with_reducible apply busOn_mode | with_reducible apply setCanStat_mode
    | with_reducible apply defer_mode | with_reducible apply updCan_mode | with_reducible apply canLeave_mode | with_reducible apply foldl_mode
    | with_reducible apply ite_mode | decide | with_reducible refine off_ne ?_ | with_reducible refine off_lt ?_ | intro _ | split | contradiction
    | dsimp only

theorem setScan_mode (s : State) (lane : Nat) (p : Nat) (d : Nat) (en : Bool) (h : Mode r s) : Mode r (State.setScan s lane p d en) := by
  unfold State.setScan
  try extract_lets
  repeat' first
    | with_reducible assumption | with_reducible apply setReg_mode | with_reducible apply foldl_mode | with_reducible apply ite_mode | decide
    | with_reducible refine off_ne ?_ | with_reducible refine off_lt ?_ | intro _ | split | contradiction | dsimp only

theorem xpRun_mode (s : State) (atStart : Bool) (h : Mode r s) : Mode r (State.xpRun s atStart) := by
  unfold State.xpRun
  try extract_lets
  repeat' first
    | with_reducible assumption | with_reducible apply setReg_mode | with_reducible apply foldl_mode | with_reducible apply ite_mode | decide
    | with_reducible refine off_ne ?_ | with_reducible refine off_lt ?_ | intro _ | split | contradiction | dsimp only

theorem updDef_mode (s : State) (n : Nat) (f : DefState → DefState) (h : Mode r s) : Mode r (State.updDef s n f) := by
  unfold State.updDef
  try extract_lets
  repeat' first
    | with_reducible assumption | with_reducible apply foldl_mode | with_reducible apply ite_mode | decide | with_reducible refine off_ne ?_
    | with_reducible refine off_lt ?_ | intro _ | split | contradiction | dsimp only | refine Mode.upd ?_

theorem unscan_mode (s : State) (lane : Nat) (n : Nat) (h : Mode r s) : Mode r (State.unscan s lane n) := by
  unfold State.unscan
  try extract_lets
  repeat' first
    | with_reducible assumption | with_reducible apply setScan_mode | with_reducible apply foldl_mode | with_reducible apply ite_mode | decide
    | with_reducible refine off_ne ?_ | with_reducible refine off_lt ?_ | intro _ | split | contradiction | dsimp only

theorem place_mode (s : State) (lane : Nat) (n : Nat) (h : Mode r s) : Mode r (State.place s lane n) := by
  unfold State.place
  try extract_lets
  repeat' first
    | with_reducible assumption | with_reducible apply setScan_mode | with_reducible apply foldl_mode | with_reducible apply ite_mode | decide
    | with_reducible refine off_ne ?_ | with_reducible refine off_lt ?_ | intro _ | split | contradiction | dsimp only

theorem vacate_mode (s : State) (lane : Nat) (n : Nat) (h : Mode r s) : Mode r (State.vacate s lane n) := by
  unfold State.vacate
  try extract_lets
  repeat' first
    | with_reducible assumption | with_reducible apply place_mode | with_reducible apply unscan_mode | with_reducible apply foldl_mode
    | with_reducible apply ite_mode | decide | with_reducible refine off_ne ?_ | with_reducible refine off_lt ?_ | intro _ | split | contradiction
    | dsimp only

theorem rescan_mode (s : State) (n : Nat) (old : Nat) (new : Nat) (h : Mode r s) : Mode r (State.rescan s n old new) := by
  unfold State.rescan
  try extract_lets
  repeat' first
    | with_reducible assumption | with_reducible apply vacate_mode | with_reducible apply place_mode | with_reducible apply foldl_mode
    | with_reducible apply ite_mode | decide | with_reducible refine off_ne ?_ | with_reducible refine off_lt ?_ | intro _ | split | contradiction
    | dsimp only

theorem eccRepair_mode (s : State) (o : Off) (h : Mode r s) : Mode r (State.eccRepair s o) := by
  unfold State.eccRepair
  try extract_lets
  repeat' first
    | with_reducible assumption | with_reducible apply tarnWrite_mode | with_reducible apply foldl_mode | with_reducible apply ite_mode | decide
    | with_reducible refine off_ne ?_ | with_reducible refine off_lt ?_ | intro _ | split | contradiction | dsimp only

theorem applyUnit_mode (s : State) (u : CmdUnit) (h : Mode r s) : Mode r (State.applyUnit s u) := by
  unfold State.applyUnit
  try extract_lets
  repeat' first
    | with_reducible assumption | with_reducible apply tarnWrite_mode | with_reducible apply eccRepair_mode | with_reducible apply foldl_mode
    | with_reducible apply ite_mode | decide | with_reducible refine off_ne ?_ | with_reducible refine off_lt ?_ | intro _ | split | contradiction
    | dsimp only

theorem applyScan_mode (s : State) (u : CmdUnit) (h : Mode r s) : Mode r (State.applyScan s u) := by
  unfold State.applyScan
  try extract_lets
  repeat' first
    | with_reducible assumption | with_reducible apply rescan_mode | with_reducible apply foldl_mode | with_reducible apply ite_mode | decide
    | with_reducible refine off_ne ?_ | with_reducible refine off_lt ?_ | intro _ | split | contradiction | dsimp only

theorem ahead_mode (s : State) (h : Mode r s) : Mode r (State.ahead s) := by
  unfold State.ahead
  try extract_lets
  repeat' first
    | with_reducible assumption | with_reducible apply applyUnit_mode | with_reducible apply applyScan_mode | with_reducible apply foldl_mode
    | with_reducible apply ite_mode | decide | with_reducible refine off_ne ?_ | with_reducible refine off_lt ?_ | intro _ | split | contradiction
    | dsimp only

theorem statusRec_mode (s : State) (h : Mode r s) : Mode r (State.statusRec s).2 := by
  unfold State.statusRec
  try extract_lets
  repeat' first
    | with_reducible assumption | with_reducible apply takeSsn_mode
    | (with_reducible refine Eq.mp (congrArg (Mode r) (congrArg Prod.snd ‹_ = (_, _)›)) (takeSsn_mode ..)) | with_reducible apply foldl_mode
    | with_reducible apply ite_mode | decide | with_reducible refine off_ne ?_ | with_reducible refine off_lt ?_ | intro _ | split | contradiction
    | dsimp only

theorem ckptUnit_mode (s : State) (have_ : Nat) (bs : List Byte) (h : Mode r s) : Mode r (State.ckptUnit s have_ bs) := by
  unfold State.ckptUnit
  try extract_lets
  repeat' first
    | with_reducible assumption | with_reducible apply updSpawn_mode | with_reducible apply foldl_mode | with_reducible apply ite_mode | decide
    | with_reducible refine off_ne ?_ | with_reducible refine off_lt ?_ | intro _ | split | contradiction | dsimp only

theorem statusNext_mode (s : State) (h : Mode r s) : Mode r s.statusNext := by
  unfold State.statusNext
  split
  · exact h.upd
  · have k := statusRec_mode s h
    rcases e : s.statusRec with ⟨st, u⟩
    rw [e] at k
    exact k.upd

theorem markAdmitted_mode (s : State) (r1 : InRec) (h : Mode r s) : Mode r (State.markAdmitted s r1) := by
  unfold State.markAdmitted
  try extract_lets
  repeat' first
    | with_reducible assumption | with_reducible apply setPair_mode | with_reducible apply statusNext_mode | with_reducible apply updSpawn_mode
    | with_reducible apply foldl_mode | with_reducible apply ite_mode | decide | with_reducible refine off_ne ?_ | with_reducible refine off_lt ?_
    | intro _ | split | contradiction | dsimp only

theorem ckptStart_mode (s : State) (h : Mode r s) : Mode r (State.ckptStart s) := by
  unfold State.ckptStart
  try extract_lets
  repeat' first
    | with_reducible assumption | with_reducible apply updSpawn_mode | with_reducible apply setRegBit_mode | with_reducible apply foldl_mode
    | with_reducible apply ite_mode | decide | with_reducible refine off_ne ?_ | with_reducible refine off_lt ?_ | intro _ | split | contradiction
    | dsimp only

theorem spill_mode (s : State) (h : Mode r s) : Mode r (State.spill s) := by
  unfold State.spill
  try extract_lets
  repeat' first
    | with_reducible assumption | with_reducible apply lineWritten_mode | with_reducible apply foldl_mode | with_reducible apply ite_mode | decide
    | with_reducible refine off_ne ?_ | with_reducible refine off_lt ?_ | intro _ | split | contradiction | dsimp only

theorem admitRec_mode (s : State) (r1 : InRec) (h : Mode r s) : Mode r (State.admitRec s r1) := by
  unfold State.admitRec
  try extract_lets
  repeat' first
    | with_reducible assumption | with_reducible apply bump_mode | with_reducible apply spill_mode | with_reducible apply recordMax_mode
    | with_reducible apply ckptUnit_mode | with_reducible apply markAdmitted_mode | with_reducible apply journal_mode
    | with_reducible apply ckptStart_mode | with_reducible apply updSpawn_mode | with_reducible apply foldl_mode | with_reducible apply ite_mode
    | decide | with_reducible refine off_ne ?_ | with_reducible refine off_lt ?_ | intro _ | split | contradiction | dsimp only | refine Mode.upd ?_

theorem admitGap_mode (s : State) (r1 : InRec) (expected : U16) (cause : Nat) (h : Mode r s) : Mode r (State.admitGap s r1 expected cause) := by
  unfold State.admitGap
  try extract_lets
  repeat' first
    | with_reducible assumption | with_reducible apply admitRec_mode | with_reducible apply setReg_mode | with_reducible apply bumpBy_mode
    | with_reducible apply bump_mode | with_reducible apply raise_mode | with_reducible apply foldl_mode | with_reducible apply ite_mode | decide
    | with_reducible refine off_ne ?_ | with_reducible refine off_lt ?_ | intro _ | split | contradiction | dsimp only | refine Mode.upd ?_

theorem admitSource_mode (s : State) (r1 : InRec) (h : Mode r s) : Mode r (State.admitSource s r1) := by
  unfold State.admitSource
  try extract_lets
  repeat' first
    | with_reducible assumption | with_reducible apply admitGap_mode | with_reducible apply admitRec_mode | with_reducible apply foldl_mode
    | with_reducible apply ite_mode | decide | with_reducible refine off_ne ?_ | with_reducible refine off_lt ?_ | intro _ | split | contradiction
    | dsimp only

theorem openBarrier_mode (s : State) (isn : U64) (u : CmdUnit) (h : Mode r s) : Mode r (State.openBarrier s isn u) := by
  unfold State.openBarrier
  try extract_lets
  repeat' first
    | with_reducible assumption | with_reducible apply setReg_mode | with_reducible apply foldl_mode | with_reducible apply ite_mode | decide
    | with_reducible refine off_ne ?_ | with_reducible refine off_lt ?_ | intro _ | split | contradiction | dsimp only | refine Mode.upd ?_

theorem unitRec_mode (s : State) (u : CmdUnit) (h : Mode r s) : Mode r (State.unitRec s u).2 := by
  unfold State.unitRec
  try extract_lets
  repeat' first
    | with_reducible assumption | with_reducible apply takeSsn_mode
    | (with_reducible refine Eq.mp (congrArg (Mode r) (congrArg Prod.snd ‹_ = (_, _)›)) (takeSsn_mode ..)) | with_reducible apply foldl_mode
    | with_reducible apply ite_mode | decide | with_reducible refine off_ne ?_ | with_reducible refine off_lt ?_ | intro _ | split | contradiction
    | dsimp only

theorem unitAdmitted_mode (s : State) (u : CmdUnit) (h : Mode r s) : Mode r (State.unitAdmitted s u) := by
  unfold State.unitAdmitted
  try extract_lets
  repeat' first
    | with_reducible assumption | with_reducible apply openBarrier_mode | with_reducible apply foldl_mode | with_reducible apply ite_mode | decide
    | with_reducible refine off_ne ?_ | with_reducible refine off_lt ?_ | intro _ | split | contradiction | dsimp only | refine Mode.upd ?_

theorem admitUnit_mode (s : State) (u : CmdUnit) (l : List CmdUnit) (h : Mode r s) : Mode r (State.admitUnit s u l) := by
  unfold State.admitUnit
  try extract_lets
  repeat' first
    | with_reducible assumption | with_reducible apply unitRec_mode
    | (with_reducible refine Eq.mp (congrArg (Mode r) (congrArg Prod.snd ‹_ = (_, _)›)) (unitRec_mode ..)) | with_reducible apply admitRec_mode
    | with_reducible apply unitAdmitted_mode | with_reducible apply foldl_mode | with_reducible apply ite_mode | decide
    | with_reducible refine off_ne ?_ | with_reducible refine off_lt ?_ | intro _ | split | contradiction | dsimp only | refine Mode.upd ?_

theorem admitCmd_mode (s : State) (h : Mode r s) : Mode r (s.admitCmd.getD s) := by
  unfold State.admitCmd
  split
  · exact admitUnit_mode _ _ _ h
  · exact h

theorem geckoAdmitted_mode (s : State) (r1 : InRec) (h : Mode r s) : Mode r (State.geckoAdmitted s r1) := by
  unfold State.geckoAdmitted
  try extract_lets
  repeat' first
    | with_reducible assumption | with_reducible apply finish_mode | with_reducible apply openBarrier_mode | with_reducible apply foldl_mode
    | with_reducible apply ite_mode | decide | with_reducible refine off_ne ?_ | with_reducible refine off_lt ?_ | intro _ | split | contradiction
    | dsimp only

theorem admitPlace_mode (s : State) (pl : Nat) (h : Mode r s) (t : State) (e : s.admitPlace pl = some t) : Mode r t := by
  unfold State.admitPlace at e
  split at e
  · simp at e
  · next x w hw =>
    simp only [Option.some.injEq] at e
    subst e
    have h1 : Mode r { s with inlet := { s.inlet with waiting := w, rot := if pl < 58 then (pl + 1) % 58 else s.inlet.rot } } := h.upd
    split
    · exact geckoAdmitted_mode _ _ (admitSource_mode _ _ h1)
    · exact admitSource_mode _ _ h1

theorem findSome_mode (f : Nat → Option State) (l : List Nat) (hf : ∀ x t, f x = some t → Mode r t) (t : State)
    (e : l.findSome? f = some t) : Mode r t := by
  obtain ⟨x, _, hx⟩ := List.exists_of_findSome?_eq_some e
  exact hf x t hx

theorem admitNext_mode (s : State) (h : Mode r s) : Mode r s.admitNext := by
  unfold State.admitNext
  split
  · exact admitRec_mode _ _ h.upd
  · split
    · exact admitCmd_mode _ h
    · split
      · next t e => exact findSome_mode _ _ (fun x t e => admitPlace_mode s x h t e) t e
      · split
        · next t e => have := admitCmd_mode s h; rw [e] at this; exact this
        · cases e : s.rotation.findSome? s.admitPlace with
          | none => exact h
          | some t => exact findSome_mode _ _ (fun x t e => admitPlace_mode s x h t e) t e

theorem creditCheck_mode (s : State) (h : Mode r s) : Mode r (State.creditCheck s) := by
  unfold State.creditCheck
  try extract_lets
  repeat' first
    | with_reducible assumption | with_reducible apply failEngine_mode | with_reducible apply foldl_mode | with_reducible apply ite_mode | decide
    | with_reducible refine off_ne ?_ | with_reducible refine off_lt ?_ | intro _ | split | contradiction | dsimp only

theorem beginHold_mode (s : State) (h : Mode r s) : Mode r (State.beginHold s) := by
  unfold State.beginHold
  try extract_lets
  repeat' first
    | with_reducible assumption | with_reducible apply bump_mode | with_reducible apply raise_mode | with_reducible apply foldl_mode
    | with_reducible apply ite_mode | decide | with_reducible refine off_ne ?_ | with_reducible refine off_lt ?_ | intro _ | split | contradiction
    | dsimp only | refine Mode.upd ?_

theorem admitRecord_mode (s : State) (h : Mode r s) : Mode r (State.admitRecord s) := by
  unfold State.admitRecord
  try extract_lets
  repeat' first
    | with_reducible assumption | with_reducible apply creditCheck_mode | with_reducible apply beginHold_mode | with_reducible apply admitNext_mode
    | with_reducible apply foldl_mode | with_reducible apply ite_mode | decide | with_reducible refine off_ne ?_ | with_reducible refine off_lt ?_
    | intro _ | split | contradiction | dsimp only

theorem issueTick_mode (s : State) (h : Mode r s) : Mode r (State.issueTick s) := by
  unfold State.issueTick
  try extract_lets
  repeat' first
    | with_reducible assumption | with_reducible apply offer_mode | with_reducible apply foldl_mode | with_reducible apply ite_mode | decide
    | with_reducible refine off_ne ?_ | with_reducible refine off_lt ?_ | intro _ | split | contradiction | dsimp only | refine Mode.upd ?_

theorem updDio_mode (s : State) (f : Dio → Dio) (h : Mode r s) : Mode r (State.updDio s f) := by
  unfold State.updDio
  try extract_lets
  repeat' first
    | with_reducible assumption | with_reducible apply foldl_mode | with_reducible apply ite_mode | decide | with_reducible refine off_ne ?_
    | with_reducible refine off_lt ?_ | intro _ | split | contradiction | dsimp only | refine Mode.upd ?_

theorem updBank_mode (s : State) (b : Nat) (f : Bank → Bank) (h : Mode r s) : Mode r (State.updBank s b f) := by
  unfold State.updBank
  try extract_lets
  repeat' first
    | with_reducible assumption | with_reducible apply updDio_mode | with_reducible apply foldl_mode | with_reducible apply ite_mode | decide
    | with_reducible refine off_ne ?_ | with_reducible refine off_lt ?_ | intro _ | split | contradiction | dsimp only

theorem buildRequests_mode (s : State) (h : Mode r s) : Mode r (State.buildRequests s) := by
  unfold State.buildRequests
  try extract_lets
  repeat' first
    | with_reducible assumption | with_reducible apply updDio_mode | with_reducible apply foldl_mode | with_reducible apply ite_mode | decide
    | with_reducible refine off_ne ?_ | with_reducible refine off_lt ?_ | intro _ | split | contradiction | dsimp only

theorem noteBlocked_mode (s : State) (h : Mode r s) : Mode r (State.noteBlocked s) := by
  unfold State.noteBlocked
  try extract_lets
  repeat' first
    | with_reducible assumption | with_reducible apply setPair_mode | with_reducible apply foldl_mode | with_reducible apply ite_mode | decide
    | with_reducible refine off_ne ?_ | with_reducible refine off_lt ?_ | intro _ | split | contradiction | dsimp only

theorem refreshed_mode (s : State) (b : Nat) (h : Mode r s) : Mode r (State.refreshed s b) := by
  unfold State.refreshed
  try extract_lets
  repeat' first
    | with_reducible assumption | with_reducible apply updBank_mode | with_reducible apply setRegBit_mode | with_reducible apply foldl_mode
    | with_reducible apply ite_mode | decide | with_reducible refine off_ne ?_ | with_reducible refine off_lt ?_ | intro _ | split | contradiction
    | dsimp only

theorem applyImage_mode (s : State) (b : Nat) (h : Mode r s) : Mode r (State.applyImage s b) := by
  unfold State.applyImage
  try extract_lets
  repeat' first
    | with_reducible assumption | with_reducible apply updBank_mode | with_reducible apply foldl_mode | with_reducible apply ite_mode | decide
    | with_reducible refine off_ne ?_ | with_reducible refine off_lt ?_ | intro _ | split | contradiction | dsimp only

theorem frameOf_mode (s : State) (refresh : Bool) (b : Nat) (img : U16) (h : Mode r s) : Mode r (State.frameOf s refresh b img) := by
  unfold State.frameOf
  try extract_lets
  repeat' first
    | with_reducible assumption | with_reducible apply setReg_mode | with_reducible apply emitOut_mode | with_reducible apply updBank_mode
    | with_reducible apply refreshed_mode | with_reducible apply applyImage_mode | with_reducible apply foldl_mode | with_reducible apply ite_mode
    | decide | with_reducible refine off_ne ?_ | with_reducible refine off_lt ?_ | intro _ | split | contradiction | dsimp only

theorem frameTo_mode (s : State) (refresh : Bool) (b : Nat) (h : Mode r s) : Mode r (State.frameTo s refresh b) := by
  unfold State.frameTo
  try extract_lets
  repeat' first
    | with_reducible assumption | with_reducible apply frameOf_mode | with_reducible apply foldl_mode | with_reducible apply ite_mode | decide
    | with_reducible refine off_ne ?_ | with_reducible refine off_lt ?_ | intro _ | split | contradiction | dsimp only

theorem frames_mode (s : State) (newt : Nat) (refresh : Bool) (h : Mode r s) : Mode r (State.frames s newt refresh) := by
  unfold State.frames
  try extract_lets
  repeat' first
    | with_reducible assumption | with_reducible apply frameTo_mode | with_reducible apply noteBlocked_mode | with_reducible apply buildRequests_mode
    | with_reducible apply foldl_mode | with_reducible apply ite_mode | decide | with_reducible refine off_ne ?_ | with_reducible refine off_lt ?_
    | intro _ | split | contradiction | dsimp only

theorem extraFrames_mode (s : State) (h : Mode r s) : Mode r (State.extraFrames s) := by
  unfold State.extraFrames
  try extract_lets
  repeat' first
    | with_reducible assumption | with_reducible apply frames_mode | with_reducible apply foldl_mode | with_reducible apply ite_mode | decide
    | with_reducible refine off_ne ?_ | with_reducible refine off_lt ?_ | intro _ | split | contradiction | dsimp only

theorem tmoEdges_mode (before : State) (s : State) (h : Mode r s) : Mode r (State.tmoEdges before s) := by
  unfold State.tmoEdges
  try extract_lets
  repeat' first
    | with_reducible assumption | with_reducible apply extraFrames_mode | with_reducible apply foldl_mode | with_reducible apply ite_mode | decide
    | with_reducible refine off_ne ?_ | with_reducible refine off_lt ?_ | intro _ | split | contradiction | dsimp only

theorem countWait_mode (s : State) (n : Nat) (h : Mode r s) : Mode r (State.countWait s n) := by
  unfold State.countWait
  try extract_lets
  repeat' first
    | with_reducible assumption | with_reducible apply foldl_mode | with_reducible apply ite_mode | decide | with_reducible refine off_ne ?_
    | with_reducible refine off_lt ?_ | intro _ | split | contradiction | dsimp only | refine Mode.upd ?_

theorem pass_mode (s : State) (n : Nat) (h : Mode r s) : Mode r (State.pass s n) := by
  unfold State.pass
  try extract_lets
  repeat' first
    | with_reducible assumption | with_reducible apply tmoEdges_mode | with_reducible apply elapse_mode | with_reducible apply countWait_mode
    | with_reducible apply foldl_mode | with_reducible apply ite_mode | decide | with_reducible refine off_ne ?_ | with_reducible refine off_lt ?_
    | intro _ | split | contradiction | dsimp only

theorem newtRefresh_mode (s : State) (newt : Nat) (late : Bool) (h : Mode r s) : Mode r (State.newtRefresh s newt late) := by
  unfold State.newtRefresh
  try extract_lets
  repeat' first
    | with_reducible assumption | with_reducible apply bump_mode | with_reducible apply setRegBit_mode | with_reducible apply frames_mode
    | with_reducible apply raise_mode | with_reducible apply foldl_mode | with_reducible apply ite_mode | decide | with_reducible refine off_ne ?_
    | with_reducible refine off_lt ?_ | intro _ | split | contradiction | dsimp only | refine Mode.upd ?_

theorem dioWrite_mode (s : State) (d : Desc) (h : Mode r s) : Mode r (State.dioWrite s d) := by
  unfold State.dioWrite
  try extract_lets
  repeat' first
    | with_reducible assumption | with_reducible apply done_mode | with_reducible apply extraFrames_mode | with_reducible apply setPair_mode
    | with_reducible apply bump_mode | with_reducible apply foldl_mode | with_reducible apply ite_mode | decide | with_reducible refine off_ne ?_
    | with_reducible refine off_lt ?_ | intro _ | split | contradiction | dsimp only

theorem writeSafe_mode (s : State) (h : Mode r s) : Mode r (State.writeSafe s) := by
  unfold State.writeSafe
  try extract_lets
  repeat' first
    | with_reducible assumption | with_reducible apply updBank_mode | with_reducible apply foldl_mode | with_reducible apply ite_mode | decide
    | with_reducible refine off_ne ?_ | with_reducible refine off_lt ?_ | intro _ | split | contradiction | dsimp only

theorem wdExpire_mode (s : State) (b : Nat) (h : Mode r s) : Mode r (State.wdExpire s b) := by
  unfold State.wdExpire
  try extract_lets
  repeat' first
    | with_reducible assumption | with_reducible apply updBank_mode | with_reducible apply setRegBit_mode | with_reducible apply raise_mode
    | with_reducible apply bump_mode | with_reducible apply foldl_mode | with_reducible apply ite_mode | decide | with_reducible refine off_ne ?_
    | with_reducible refine off_lt ?_ | intro _ | split | contradiction | dsimp only

theorem extendWatchdogs_mode (s : State) (h : Mode r s) : Mode r (State.extendWatchdogs s) := by
  unfold State.extendWatchdogs
  try extract_lets
  repeat' first
    | with_reducible assumption | with_reducible apply setRegBit_mode | with_reducible apply emitOut_mode | with_reducible apply foldl_mode
    | with_reducible apply ite_mode | decide | with_reducible refine off_ne ?_ | with_reducible refine off_lt ?_ | intro _ | split | contradiction
    | dsimp only

theorem mismatches_mode (s : State) (b : Nat) (levels : U16) (settled : U16) (h : Mode r s) : Mode r (State.mismatches s b levels settled) := by
  unfold State.mismatches
  try extract_lets
  repeat' first
    | with_reducible assumption | with_reducible apply updBank_mode | with_reducible apply setReg_mode | with_reducible apply bump_mode
    | with_reducible apply raise_mode | with_reducible apply foldl_mode | with_reducible apply ite_mode | decide | with_reducible refine off_ne ?_
    | with_reducible refine off_lt ?_ | intro _ | split | contradiction | dsimp only

theorem offerDi_mode (s : State) (b : Nat) (levels : U16) (h : Mode r s) : Mode r (State.offerDi s b levels) := by
  unfold State.offerDi
  try extract_lets
  repeat' first
    | with_reducible assumption | with_reducible apply bump_mode | with_reducible apply offer_mode | with_reducible apply updBank_mode
    | with_reducible apply foldl_mode | with_reducible apply ite_mode | decide | with_reducible refine off_ne ?_ | with_reducible refine off_lt ?_
    | intro _ | split | contradiction | dsimp only

theorem windowEnd_mode (s : State) (b : Nat) (pins : U16) (settled : U16) (h : Mode r s) : Mode r (State.windowEnd s b pins settled) := by
  unfold State.windowEnd
  try extract_lets
  repeat' first
    | with_reducible assumption | with_reducible apply mismatches_mode | with_reducible apply setReg_mode | with_reducible apply offerDi_mode
    | with_reducible apply foldl_mode | with_reducible apply ite_mode | decide | with_reducible refine off_ne ?_ | with_reducible refine off_lt ?_
    | intro _ | split | contradiction | dsimp only

theorem updCounter_mode (s : State) (k : Nat) (f : Counter → Counter) (h : Mode r s) : Mode r (State.updCounter s k f) := by
  unfold State.updCounter
  try extract_lets
  repeat' first
    | with_reducible assumption | with_reducible apply updDio_mode | with_reducible apply foldl_mode | with_reducible apply ite_mode | decide
    | with_reducible refine off_ne ?_ | with_reducible refine off_lt ?_ | intro _ | split | contradiction | dsimp only

theorem offerCount_mode (s : State) (k : Nat) (cycles : Nat) (h : Mode r s) : Mode r (State.offerCount s k cycles) := by
  unfold State.offerCount
  try extract_lets
  repeat' first
    | with_reducible assumption | with_reducible apply updCounter_mode | with_reducible apply offer_mode | with_reducible apply foldl_mode
    | with_reducible apply ite_mode | decide | with_reducible refine off_ne ?_ | with_reducible refine off_lt ?_ | intro _ | split | contradiction
    | dsimp only

theorem newtStop_mode (s : State) (newt : Nat) (h : Mode r s) : Mode r (State.newtStop s newt) := by
  unfold State.newtStop
  try extract_lets
  repeat' first
    | with_reducible assumption | with_reducible apply updDio_mode | with_reducible apply setRegBit_mode | with_reducible apply raise_mode
    | with_reducible apply bump_mode | with_reducible apply foldl_mode | with_reducible apply ite_mode | decide | with_reducible refine off_ne ?_
    | with_reducible refine off_lt ?_ | intro _ | split | contradiction | dsimp only

theorem newtStart_mode (s : State) (newt : Nat) (h : Mode r s) : Mode r (State.newtStart s newt) := by
  unfold State.newtStart
  try extract_lets
  repeat' first
    | with_reducible assumption | with_reducible apply updDio_mode | with_reducible apply setRegBit_mode | with_reducible apply markLoss_mode
    | with_reducible apply updBank_mode | with_reducible apply updCounter_mode | with_reducible apply foldl_mode | with_reducible apply ite_mode
    | decide | with_reducible refine off_ne ?_ | with_reducible refine off_lt ?_ | intro _ | split | contradiction | dsimp only

theorem setFault_mode (s : State) (b : Nat) (c : FaultCause) (h : Mode r s) : Mode r (State.setFault s b c) := by
  unfold State.setFault
  try extract_lets
  repeat' first
    | with_reducible assumption | with_reducible apply updBank_mode | with_reducible apply raise_mode | with_reducible apply bump_mode
    | with_reducible apply setRegBit_mode | with_reducible apply foldl_mode | with_reducible apply ite_mode | decide | with_reducible refine off_ne ?_
    | with_reducible refine off_lt ?_ | intro _ | split | contradiction | dsimp only

theorem clearFault_mode (s : State) (b : Nat) (h : Mode r s) : Mode r (State.clearFault s b) := by
  unfold State.clearFault
  try extract_lets
  repeat' first
    | with_reducible assumption | with_reducible apply raise_mode | with_reducible apply setRegBit_mode | with_reducible apply updBank_mode
    | with_reducible apply foldl_mode | with_reducible apply ite_mode | decide | with_reducible refine off_ne ?_ | with_reducible refine off_lt ?_
    | intro _ | split | contradiction | dsimp only

theorem fieldReset_mode (s : State) (b : Nat) (h : Mode r s) : Mode r (State.fieldReset s b) := by
  unfold State.fieldReset
  try extract_lets
  repeat' first
    | with_reducible assumption | with_reducible apply updBank_mode | with_reducible apply setRegBit_mode | with_reducible apply foldl_mode
    | with_reducible apply ite_mode | decide | with_reducible refine off_ne ?_ | with_reducible refine off_lt ?_ | intro _ | split | contradiction
    | dsimp only

theorem fieldStart_mode (s : State) (b : Nat) (h : Mode r s) : Mode r (State.fieldStart s b) := by
  unfold State.fieldStart
  try extract_lets
  repeat' first
    | with_reducible assumption | with_reducible apply updBank_mode | with_reducible apply raise_mode | with_reducible apply bump_mode
    | with_reducible apply setRegBit_mode | with_reducible apply markLoss_mode | with_reducible apply foldl_mode | with_reducible apply ite_mode
    | decide | with_reducible refine off_ne ?_ | with_reducible refine off_lt ?_ | intro _ | split | contradiction | dsimp only

theorem thermalRetry_mode (s : State) (n : Nat) (shorted : Bool) (h : Mode r s) : Mode r (State.thermalRetry s n shorted) := by
  unfold State.thermalRetry
  try extract_lets
  repeat' first
    | with_reducible assumption | with_reducible apply updBank_mode | with_reducible apply foldl_mode | with_reducible apply ite_mode | decide
    | with_reducible refine off_ne ?_ | with_reducible refine off_lt ?_ | intro _ | split | contradiction | dsimp only

theorem dioRun_mode (s : State) (h : Mode r s) : Mode r (State.dioRun s) := by
  unfold State.dioRun
  try extract_lets
  repeat' first
    | with_reducible assumption | with_reducible apply updDio_mode | with_reducible apply updBank_mode | with_reducible apply foldl_mode
    | with_reducible apply ite_mode | decide | with_reducible refine off_ne ?_ | with_reducible refine off_lt ?_ | intro _ | split | contradiction
    | dsimp only

theorem setLaneBit_mode (s : State) (lo : Off) (n : Nat) (b : Bool) (h : Mode r s) (h_lo : 0x18 < lo := by decide) :
    Mode r (s.setLaneBit lo n b) := setRegBit_mode _ _ _ _ h (off_ne h_lo)

theorem loadSettle_mode (s : State) (n : Nat) (d : ChDef) (h : Mode r s) : Mode r (State.loadSettle s n d) := by
  unfold State.loadSettle
  try extract_lets
  repeat' first
    | with_reducible assumption | with_reducible apply updDef_mode | with_reducible apply foldl_mode | with_reducible apply ite_mode | decide
    | with_reducible refine off_ne ?_ | with_reducible refine off_lt ?_ | intro _ | split | contradiction | dsimp only

theorem exDrives_mode (s : State) (k : Nat) (mode : Nat) (lane : Nat) (h : Mode r s) : Mode r (State.exDrives s k mode lane) := by
  unfold State.exDrives
  try extract_lets
  repeat' first
    | with_reducible assumption | with_reducible apply setReg_mode | with_reducible apply foldl_mode | with_reducible apply ite_mode | decide
    | with_reducible refine off_ne ?_ | with_reducible refine off_lt ?_ | intro _ | split | contradiction | dsimp only

theorem driveSource_mode (s : State) (n : Nat) (d : ChDef) (h : Mode r s) : Mode r (State.driveSource s n d) := by
  unfold State.driveSource
  try extract_lets
  repeat' first
    | with_reducible assumption | with_reducible apply exDrives_mode | with_reducible apply setReg_mode | with_reducible apply bump_mode
    | with_reducible apply foldl_mode | with_reducible apply ite_mode | decide | with_reducible refine off_ne ?_ | with_reducible refine off_lt ?_
    | intro _ | split | contradiction | dsimp only | refine Mode.upd ?_

theorem crosspoint_mode (s : State) (n : Nat) (next : List XpSwitch) (h : Mode r s) : Mode r (State.crosspoint s n next) := by
  unfold State.crosspoint
  try extract_lets
  repeat' first
    | with_reducible assumption | with_reducible apply updLane_mode | with_reducible apply restSource_mode | with_reducible apply foldl_mode
    | with_reducible apply ite_mode | decide | with_reducible refine off_ne ?_ | with_reducible refine off_lt ?_ | intro _ | split | contradiction
    | dsimp only

theorem calStart_mode (s : State) (n : Nat) (h : Mode r s) : Mode r (State.calStart s n) := by
  unfold State.calStart
  try extract_lets
  repeat' first
    | with_reducible assumption | with_reducible apply crosspoint_mode | with_reducible apply exDrives_mode | with_reducible apply updLane_mode
    | with_reducible apply foldl_mode | with_reducible apply ite_mode | decide | with_reducible refine off_ne ?_ | with_reducible refine off_lt ?_
    | intro _ | split | contradiction | dsimp only

theorem slotStart_mode (s : State) (n : Nat) (h : Mode r s) : Mode r (State.slotStart s n) := by
  unfold State.slotStart
  extract_lets l next
  clear_value next
  repeat' first
    | with_reducible assumption | with_reducible apply crosspoint_mode | with_reducible apply calStart_mode | with_reducible apply driveSource_mode
    | with_reducible apply loadSettle_mode | with_reducible apply updDef_mode | with_reducible apply updLane_mode | with_reducible apply foldl_mode
    | with_reducible apply ite_mode | decide | with_reducible refine off_ne ?_ | with_reducible refine off_lt ?_ | intro _ | split | contradiction
    | dsimp only

theorem offerSample_mode (s : State) (n : Nat) (r1 : InRec) (h : Mode r s) : Mode r (State.offerSample s n r1) := by
  unfold State.offerSample
  try extract_lets
  repeat' first
    | with_reducible assumption | with_reducible apply bump_mode | with_reducible apply offer_mode | with_reducible apply foldl_mode
    | with_reducible apply ite_mode | decide | with_reducible refine off_ne ?_ | with_reducible refine off_lt ?_ | intro _ | split | contradiction
    | dsimp only

theorem sourceReport_mode (s : State) (d : ChDef) (comp : Bool) (excess : Bool) (quad : Bool) (h : Mode r s) : Mode r (State.sourceReport s d comp excess quad) := by
  unfold State.sourceReport
  try extract_lets
  repeat' first
    | with_reducible assumption | with_reducible apply bump_mode | with_reducible apply raise_mode | with_reducible apply foldl_mode
    | with_reducible apply ite_mode | decide | with_reducible refine off_ne ?_ | with_reducible refine off_lt ?_ | intro _ | split | contradiction
    | dsimp only

theorem staleReport_mode (s : State) (stale : Bool) (h : Mode r s) : Mode r (State.staleReport s stale) := by
  unfold State.staleReport
  try extract_lets
  repeat' first
    | with_reducible assumption | with_reducible apply bump_mode | with_reducible apply raise_mode | with_reducible apply foldl_mode
    | with_reducible apply ite_mode | decide | with_reducible refine off_ne ?_ | with_reducible refine off_lt ?_ | intro _ | split | contradiction
    | dsimp only

theorem sample_mode (s : State) (n : Nat) (sl : Slot) (m : SlotMeas) (h : Mode r s) : Mode r (State.sample s n sl m).2 := by
  unfold State.sample
  try extract_lets
  repeat' first
    | with_reducible assumption | with_reducible apply draw_mode
    | (with_reducible refine Eq.mp (congrArg (Mode r) (congrArg Prod.snd ‹_ = (_, _)›)) (draw_mode ..)) | with_reducible apply staleReport_mode
    | with_reducible apply sourceReport_mode | with_reducible apply updDef_mode | with_reducible apply setReg_mode | with_reducible apply foldl_mode
    | with_reducible apply ite_mode | decide | with_reducible refine off_ne ?_ | with_reducible refine off_lt ?_ | intro _ | split | contradiction
    | dsimp only

theorem slotEnd_mode (s : State) (n : Nat) (m : SlotMeas) (h : Mode r s) : Mode r (State.slotEnd s n m) := by
  unfold State.slotEnd
  try extract_lets
  repeat' first
    | with_reducible assumption | with_reducible apply updLane_mode | with_reducible apply sample_mode
    | (with_reducible refine Eq.mp (congrArg (Mode r) (congrArg Prod.snd ‹_ = (_, _)›)) (sample_mode ..)) | with_reducible apply offerSample_mode
    | with_reducible apply foldl_mode | with_reducible apply ite_mode | decide | with_reducible refine off_ne ?_ | with_reducible refine off_lt ?_
    | intro _ | split | contradiction | dsimp only

theorem offerHeld_mode (s : State) (k : Nat) (h : Mode r s) : Mode r (State.offerHeld s k) := by
  unfold State.offerHeld
  try extract_lets
  repeat' first
    | with_reducible assumption | with_reducible apply updLane_mode | with_reducible apply offerSample_mode | with_reducible apply foldl_mode
    | with_reducible apply ite_mode | decide | with_reducible refine off_ne ?_ | with_reducible refine off_lt ?_ | intro _ | split | contradiction
    | dsimp only

theorem drained_mode (s : State) (n : Nat) (h : Mode r s) : Mode r (State.drained s n) := by
  unfold State.drained
  try extract_lets
  repeat' first
    | with_reducible assumption | with_reducible apply updLane_mode | with_reducible apply bump_mode | with_reducible apply raise_mode
    | with_reducible apply offerHeld_mode | with_reducible apply foldl_mode | with_reducible apply ite_mode | decide | with_reducible refine off_ne ?_
    | with_reducible refine off_lt ?_ | intro _ | split | contradiction | dsimp only

theorem calReg_mode (s : State) (n item : Nat) : s.calReg n item ≠ Reg.MGMT_STATE := by
  unfold State.calReg
  repeat' split
  all_goals refine off_ne ?_; repeat' first | decide | refine off_lt ?_

theorem setAccepted_mode (s : State) (n : Nat) (item : Nat) (l : List F32) (h : Mode r s) : Mode r (State.setAccepted s n item l) := by
  unfold State.setAccepted
  try extract_lets
  repeat' first
    | with_reducible assumption | with_reducible apply updLane_mode | with_reducible apply foldl_mode | with_reducible apply ite_mode | decide
    | with_reducible refine off_ne ?_ | with_reducible refine off_lt ?_ | intro _ | split | contradiction | dsimp only | refine Mode.upd ?_

theorem setRuns_mode (s : State) (n : Nat) (item : Nat) (k : Nat) (h : Mode r s) : Mode r (State.setRuns s n item k) := by
  unfold State.setRuns
  try extract_lets
  repeat' first
    | with_reducible assumption | with_reducible apply updLane_mode | with_reducible apply foldl_mode | with_reducible apply ite_mode | decide
    | with_reducible refine off_ne ?_ | with_reducible refine off_lt ?_ | intro _ | split | contradiction | dsimp only | refine Mode.upd ?_

theorem calAccept_mode (s : State) (n item : Nat) (meas : F32) (h : Mode r s) : Mode r (s.calAccept n item meas) := by
  unfold State.calAccept
  extract_lets l
  exact setLaneBit_mode _ _ _ _ (setReg_mode _ _ _ (setRuns_mode _ _ _ _ (setAccepted_mode _ _ _ _ h)) (calReg_mode _ _ _))

theorem calReject_mode (s : State) (n : Nat) (item : Nat) (h : Mode r s) : Mode r (State.calReject s n item) := by
  unfold State.calReject
  try extract_lets
  repeat' first
    | with_reducible assumption | with_reducible apply bump_mode | with_reducible apply raise_mode | with_reducible apply setRuns_mode
    | with_reducible apply setLaneBit_mode | with_reducible apply foldl_mode | with_reducible apply ite_mode | decide
    | with_reducible refine off_ne ?_ | with_reducible refine off_lt ?_ | intro _ | split | contradiction | dsimp only

theorem calJudge_mode (s : State) (n : Nat) (item : Nat) (meas : F32) (h : Mode r s) : Mode r (State.calJudge s n item meas) := by
  unfold State.calJudge
  try extract_lets
  repeat' first
    | with_reducible assumption | with_reducible apply setReg_mode | with_reducible apply calReject_mode | with_reducible apply calAccept_mode
    | with_reducible apply foldl_mode | with_reducible apply ite_mode | decide | with_reducible refine off_ne ?_ | with_reducible refine off_lt ?_
    | intro _ | split | contradiction | dsimp only

theorem calEnd_mode (s : State) (n : Nat) (meas : F32) (h : Mode r s) : Mode r (State.calEnd s n meas) := by
  unfold State.calEnd
  try extract_lets
  repeat' first
    | with_reducible assumption | with_reducible apply calJudge_mode | with_reducible apply bump_mode | with_reducible apply updLane_mode
    | with_reducible apply foldl_mode | with_reducible apply ite_mode | decide | with_reducible refine off_ne ?_ | with_reducible refine off_lt ?_
    | intro _ | split | contradiction | dsimp only

theorem checkWrite_mode (s : State) (v : U32) (h : Mode r s) : Mode r (State.checkWrite s v) := by
  unfold State.checkWrite
  try extract_lets
  repeat' first
    | with_reducible assumption | with_reducible apply ignored_mode | with_reducible apply xpRun_mode | with_reducible apply foldl_mode
    | with_reducible apply ite_mode | decide | with_reducible refine off_ne ?_ | with_reducible refine off_lt ?_ | intro _ | split | contradiction
    | dsimp only

theorem chandefApplied_mode (s : State) (n : Nat) (old : ChDef) (new : ChDef) (h : Mode r s) : Mode r (State.chandefApplied s n old new) := by
  unfold State.chandefApplied
  try extract_lets
  repeat' first
    | with_reducible assumption | with_reducible apply updDef_mode | with_reducible apply bump_mode | with_reducible apply updLane_mode
    | with_reducible apply raise_mode | with_reducible apply foldl_mode | with_reducible apply ite_mode | decide | with_reducible refine off_ne ?_
    | with_reducible refine off_lt ?_ | intro _ | split | contradiction | dsimp only

theorem shareSettle_mode (s : State) (elem : Nat) (h : Mode r s) : Mode r (State.shareSettle s elem) := by
  unfold State.shareSettle
  try extract_lets
  repeat' first
    | with_reducible assumption | with_reducible apply filtSettle_mode | with_reducible apply foldl_mode | with_reducible apply ite_mode | decide
    | with_reducible refine off_ne ?_ | with_reducible refine off_lt ?_ | intro _ | split | contradiction | dsimp only

theorem applyBarrier_mode (s : State) (u : CmdUnit) (h : Mode r s) : Mode r (State.applyBarrier s u) := by
  unfold State.applyBarrier
  try extract_lets
  repeat' first
    | with_reducible assumption | with_reducible apply applyUnit_mode | with_reducible apply applyScan_mode | with_reducible apply clearUe_mode
    | with_reducible apply chandefApplied_mode | with_reducible apply noteMasks_mode | with_reducible apply shareSettle_mode
    | with_reducible apply foldl_mode | with_reducible apply ite_mode | decide | with_reducible refine off_ne ?_ | with_reducible refine off_lt ?_
    | intro _ | split | contradiction | dsimp only | refine Mode.upd ?_

theorem adjust_mode (s : State) (e : EngineId) (r1 : InRec) (u : CmdUnit) (before : State) (h : Mode r s) : Mode r (State.adjust s e r1 u before) := by
  unfold State.adjust
  try extract_lets
  repeat' first
    | with_reducible assumption | with_reducible apply pointWritten_mode | with_reducible apply groupWritten_mode
    | with_reducible apply configFault_mode | with_reducible apply foldl_mode | with_reducible apply ite_mode | decide
    | with_reducible refine off_ne ?_ | with_reducible refine off_lt ?_ | intro _ | split | contradiction | dsimp only

theorem passParts_mode (s : State) (e : EngineId) (isn : Nat) (h : Mode r s) : Mode r (State.passParts s e isn) := by
  unfold State.passParts
  try extract_lets
  repeat' first
    | with_reducible assumption | with_reducible apply evaluated_mode | with_reducible apply runStart_mode | with_reducible apply foldl_mode
    | with_reducible apply ite_mode | decide | with_reducible refine off_ne ?_ | with_reducible refine off_lt ?_ | intro _ | split | contradiction
    | dsimp only

theorem passBarrier_mode (s : State) (e : EngineId) (r1 : InRec) (u : CmdUnit) (before : State) (h : Mode r s) : Mode r (State.passBarrier s e r1 u before) := by
  unfold State.passBarrier
  try extract_lets
  repeat' first
    | with_reducible assumption | with_reducible apply evaluated_mode | with_reducible apply adjust_mode | with_reducible apply epochChange_mode
    | with_reducible apply runStart_mode | with_reducible apply foldl_mode | with_reducible apply ite_mode | decide | with_reducible refine off_ne ?_
    | with_reducible refine off_lt ?_ | intro _ | split | contradiction | dsimp only

theorem configBarrier_mode (s : State) (h : Mode r s) : Mode r (State.configBarrier s) := by
  unfold State.configBarrier
  try extract_lets
  repeat' first
    | with_reducible assumption | with_reducible apply failEngine_mode | with_reducible apply passParts_mode | with_reducible apply applyBarrier_mode
    | with_reducible apply passBarrier_mode | with_reducible apply foldl_mode | with_reducible apply ite_mode | decide
    | with_reducible refine off_ne ?_ | with_reducible refine off_lt ?_ | intro _ | split | contradiction | dsimp only | refine Mode.upd ?_

theorem eccState_mode (s : State) (e : EngineId) (r1 : InRec) (d : Damaged) (other_ : GrState) (whole : Bool) (h : Mode r s) : Mode r (State.eccState s e r1 d other_ whole) := by
  unfold State.eccState
  try extract_lets
  repeat' first
    | with_reducible assumption | with_reducible apply setPt_mode | with_reducible apply resetPoint_mode | with_reducible apply setGr_mode
    | with_reducible apply resetHalf_mode | with_reducible apply foldl_mode | with_reducible apply ite_mode | decide | with_reducible refine off_ne ?_
    | with_reducible refine off_lt ?_ | intro _ | split | contradiction | dsimp only

theorem eccFault_mode (s : State) (h : Mode r s) : Mode r (State.eccFault s) := by
  unfold State.eccFault
  try extract_lets
  repeat' first
    | with_reducible assumption | with_reducible apply clearUe_mode | with_reducible apply evaluated_mode | with_reducible apply eccState_mode
    | with_reducible apply runStart_mode | with_reducible apply foldl_mode | with_reducible apply ite_mode | decide | with_reducible refine off_ne ?_
    | with_reducible refine off_lt ?_ | intro _ | split | contradiction | dsimp only

theorem mergeExpire_mode (s : State) (h : Mode r s) : Mode r (State.mergeExpire s) := by
  unfold State.mergeExpire
  try extract_lets
  repeat' first
    | with_reducible assumption | with_reducible apply release_mode | with_reducible apply releaseOne_mode | with_reducible apply foldl_mode
    | with_reducible apply ite_mode | decide | with_reducible refine off_ne ?_ | with_reducible refine off_lt ?_ | intro _ | split | contradiction
    | dsimp only

theorem updPort_mode (s : State) (p : Nat) (f : Port → Port) (h : Mode r s) : Mode r (State.updPort s p f) := by
  unfold State.updPort
  try extract_lets
  repeat' first
    | with_reducible assumption | with_reducible apply foldl_mode | with_reducible apply ite_mode | decide | with_reducible refine off_ne ?_
    | with_reducible refine off_lt ?_ | intro _ | split | contradiction | dsimp only | refine Mode.upd ?_

theorem pubOn_mode (s : State) (p : Nat) (data : List Byte) (h : Mode r s) : Mode r (State.pubOn s p data).1 := by
  unfold State.pubOn
  try extract_lets
  repeat' first
    | with_reducible assumption | with_reducible apply updPort_mode | with_reducible apply bump_mode | with_reducible apply foldl_mode
    | with_reducible apply ite_mode | decide | with_reducible refine off_ne ?_ | with_reducible refine off_lt ?_ | intro _ | split | contradiction
    | dsimp only

theorem pubSend_mode (s : State) (h : Mode r s) : Mode r (State.pubSend s) := by
  unfold State.pubSend
  dsimp only
  repeat' first
    | with_reducible assumption | with_reducible apply updOutlet_mode | with_reducible apply pubOn_mode
    | (with_reducible refine Eq.mp (congrArg (Mode r) (congrArg Prod.fst ‹_ = (_, _)›)) (pubOn_mode ..)) | with_reducible apply bump_mode
    | with_reducible apply foldl_mode | with_reducible apply ite_mode | decide | with_reducible refine off_ne ?_ | with_reducible refine off_lt ?_
    | intro _ | split | contradiction | dsimp only

theorem pubCan_mode (s : State) (h : Mode r s) : Mode r s.pubCan := by
  unfold State.pubCan
  split
  · exact h
  · next v l _ =>
    extract_lets s1 n base id
    have h1 : Mode r s1 := h.upd
    have h2 := placeNode_mode s1 n id (s1.canBrs n) v.bytes 13 h1
    have h3 : Mode r (if s1.rbit Reg.PUB_CAN_CTL 0 then s1.placeNode n id (s1.canBrs n) v.bytes 13 else (s1, false)).1 := by
      split
      · exact h2
      · exact h1
    exact bump_mode _ _ h3 (ite_off (by decide) (by decide))

theorem trendCtl_mode (s : State) (d : Desc) (h : Mode r s) : Mode r (State.trendCtl s d) := by
  unfold State.trendCtl
  dsimp only
  repeat' first
    | with_reducible assumption | with_reducible apply done_mode | with_reducible apply tarnStore_mode | with_reducible apply updOutlet_mode
    | with_reducible apply offer_mode | with_reducible apply defer_mode | with_reducible apply foldl_mode | with_reducible apply ite_mode | decide
    | with_reducible refine off_ne ?_ | with_reducible refine off_lt ?_ | intro _ | split | contradiction | dsimp only | refine Mode.upd ?_

theorem trendStep_mode (s : State) (i : Nat) (h : Mode r s) : Mode r (State.trendStep s i) := by
  unfold State.trendStep
  try extract_lets
  repeat' first
    | with_reducible assumption | with_reducible apply tarnStore_mode | with_reducible apply updOutlet_mode | with_reducible apply postLossy_mode
    | with_reducible apply foldl_mode | with_reducible apply ite_mode | decide | with_reducible refine off_ne ?_ | with_reducible refine off_lt ?_
    | intro _ | split | contradiction | dsimp only

theorem splitApply_mode (s : State) (h : Mode r s) : Mode r (State.splitApply s) := by
  unfold State.splitApply
  try extract_lets
  repeat' first
    | with_reducible assumption | with_reducible apply foldl_mode | with_reducible apply ite_mode | decide | with_reducible refine off_ne ?_
    | with_reducible refine off_lt ?_ | intro _ | split | contradiction | dsimp only | refine Mode.upd ?_

theorem shareSet_mode (s : State) (n : Nat) (base : Nat) (size : Nat) (h : Mode r s) : Mode r (State.shareSet s n base size) := by
  unfold State.shareSet
  try extract_lets
  repeat' first
    | with_reducible assumption | with_reducible apply setReg_mode | with_reducible apply setCanStat_mode | with_reducible apply updCan_mode
    | with_reducible apply foldl_mode | with_reducible apply ite_mode | decide | with_reducible refine off_ne ?_ | with_reducible refine off_lt ?_
    | intro _ | split | contradiction | dsimp only

theorem sharesSet_mode (s : State) (l : List Nat) (n base : Nat) (h : Mode r s) : Mode r (s.sharesSet l n base) := by
  induction l generalizing s n base with
  | nil => exact h
  | cons k l ih => exact ih _ _ _ (shareSet_mode _ _ _ _ h)

theorem quotaSet_mode (s : State) (d : Desc) (h : Mode r s) : Mode r (State.quotaSet s d) := by
  unfold State.quotaSet
  dsimp only
  repeat' first
    | with_reducible assumption | with_reducible apply done_mode | with_reducible apply bump_mode | with_reducible apply saveQuota_mode
    | with_reducible apply splitApply_mode | with_reducible apply fetchMore_mode | with_reducible apply sharesSet_mode
    | with_reducible apply foldl_mode | with_reducible apply ite_mode | decide | with_reducible refine off_ne ?_ | with_reducible refine off_lt ?_
    | intro _ | split | contradiction | dsimp only | refine Mode.upd ?_

theorem noteWrite_mode (s : State) (w : CopyWrite) (h : Mode r s) : Mode r (State.noteWrite s w) := by
  unfold State.noteWrite
  try extract_lets
  repeat' first
    | with_reducible assumption | with_reducible apply foldl_mode | with_reducible apply ite_mode | decide | with_reducible refine off_ne ?_
    | with_reducible refine off_lt ?_ | intro _ | split | contradiction | dsimp only | refine Mode.upd ?_

theorem writeDone_mode (s : State) (h : Mode r s) : Mode r (State.writeDone s) := by
  unfold State.writeDone
  try extract_lets
  repeat' first
    | with_reducible assumption | with_reducible apply foldl_mode | with_reducible apply ite_mode | decide | with_reducible refine off_ne ?_
    | with_reducible refine off_lt ?_ | intro _ | split | contradiction | dsimp only | refine Mode.upd ?_

theorem ssWrite_mode (s : State) (o : Nat) (l : List Byte) (h : Mode r s) : Mode r (State.ssWrite s o l) := by
  unfold State.ssWrite
  try extract_lets
  repeat' first
    | with_reducible assumption | with_reducible apply noteWrite_mode | with_reducible apply updNvm_mode | with_reducible apply foldl_mode
    | with_reducible apply ite_mode | decide | with_reducible refine off_ne ?_ | with_reducible refine off_lt ?_ | intro _ | split | contradiction
    | dsimp only

theorem writeSlot_mode (s : State) (rec_ : List Byte) (h : Mode r s) : Mode r (State.writeSlot s rec_) := by
  unfold State.writeSlot
  try extract_lets
  repeat' first
    | with_reducible assumption | with_reducible apply ssWrite_mode | with_reducible apply foldl_mode | with_reducible apply ite_mode | decide
    | with_reducible refine off_ne ?_ | with_reducible refine off_lt ?_ | intro _ | split | contradiction | dsimp only

theorem setSs_mode (s : State) (st : Nat) (h : Mode r s) : Mode r (State.setSs s st) := by
  unfold State.setSs
  try extract_lets
  repeat' first
    | with_reducible assumption | with_reducible apply setRegFld_mode | with_reducible apply foldl_mode | with_reducible apply ite_mode | decide
    | with_reducible refine off_ne ?_ | with_reducible refine off_lt ?_ | intro _ | split | contradiction | dsimp only

theorem setDirty_mode (s : State) (h : Mode r s) : Mode r (State.setDirty s) := by
  unfold State.setDirty
  try extract_lets
  repeat' first
    | with_reducible assumption | with_reducible apply setRegBit_mode | with_reducible apply foldl_mode | with_reducible apply ite_mode | decide
    | with_reducible refine off_ne ?_ | with_reducible refine off_lt ?_ | intro _ | split | contradiction | dsimp only

theorem logReplacement_mode (s : State) (lock : Byte) (h : Mode r s) : Mode r (State.logReplacement s lock) := by
  unfold State.logReplacement
  dsimp only
  repeat' first
    | with_reducible assumption | with_reducible apply ssWrite_mode | with_reducible apply foldl_mode | with_reducible apply ite_mode | decide
    | with_reducible refine off_ne ?_ | with_reducible refine off_lt ?_ | intro _ | split | contradiction | dsimp only

theorem takeDigest_mode (s : State) (h : Mode r s) : Mode r (State.takeDigest s) := by
  unfold State.takeDigest
  try extract_lets
  repeat' first
    | with_reducible assumption | with_reducible apply setRegBit_mode | with_reducible apply setReg_mode | with_reducible apply foldl_mode
    | with_reducible apply ite_mode | decide | with_reducible refine off_ne ?_ | with_reducible refine off_lt ?_ | intro _ | split | contradiction
    | dsimp only

theorem loadIdentity_mode (s : State) (l : List Byte) (h : Mode r s) : Mode r (s.loadIdentity l) := by
  unfold State.loadIdentity
  simp only [List.foldl_cons, List.foldl_nil]
  repeat' first | assumption | refine setReg_mode _ _ _ ?_ (by decide)

theorem countErase_mode (s : State) (sector : Nat) (h : Mode r s) : Mode r (State.countErase s sector) := by
  unfold State.countErase
  try extract_lets
  repeat' first
    | with_reducible assumption | with_reducible apply updNvm_mode | with_reducible apply raise_mode | with_reducible apply foldl_mode
    | with_reducible apply ite_mode | decide | with_reducible refine off_ne ?_ | with_reducible refine off_lt ?_ | intro _ | split | contradiction
    | dsimp only

theorem countErases_mode (s : State) (first : Nat) (n : Nat) (h : Mode r s) : Mode r (State.countErases s first n) := by
  unfold State.countErases
  try extract_lets
  repeat' first
    | with_reducible assumption | with_reducible apply countErase_mode | with_reducible apply foldl_mode | with_reducible apply ite_mode | decide
    | with_reducible refine off_ne ?_ | with_reducible refine off_lt ?_ | intro _ | split | contradiction | dsimp only

theorem writeBoot_mode (s : State) (r1 : BootRec) (h : Mode r s) : Mode r (State.writeBoot s r1) := by
  unfold State.writeBoot
  try extract_lets
  repeat' first
    | with_reducible assumption | with_reducible apply noteWrite_mode | with_reducible apply updNvm_mode | with_reducible apply countErase_mode
    | with_reducible apply foldl_mode | with_reducible apply ite_mode | decide | with_reducible refine off_ne ?_ | with_reducible refine off_lt ?_
    | intro _ | split | contradiction | dsimp only

theorem writeSes_mode (s : State) (r1 : SesRec) (h : Mode r s) : Mode r (State.writeSes s r1) := by
  unfold State.writeSes
  try extract_lets
  repeat' first
    | with_reducible assumption | with_reducible apply noteWrite_mode | with_reducible apply updNvm_mode | with_reducible apply countErase_mode
    | with_reducible apply foldl_mode | with_reducible apply ite_mode | decide | with_reducible refine off_ne ?_ | with_reducible refine off_lt ?_
    | intro _ | split | contradiction | dsimp only

theorem cutWrite_mode (s : State) (torn : Option Nat) (h : Mode r s) : Mode r (State.cutWrite s torn) := by
  unfold State.cutWrite
  try extract_lets
  repeat' first
    | with_reducible assumption | with_reducible apply updNvm_mode | with_reducible apply updRegion_mode | with_reducible apply foldl_mode
    | with_reducible apply ite_mode | decide | with_reducible refine off_ne ?_ | with_reducible refine off_lt ?_ | intro _ | split | contradiction
    | dsimp only

theorem updSlot_mode (s : State) (k : Nat) (f : ImageSlot → ImageSlot) (h : Mode r s) : Mode r (State.updSlot s k f) := by
  unfold State.updSlot
  try extract_lets
  repeat' first
    | with_reducible assumption | with_reducible apply updNvm_mode | with_reducible apply foldl_mode | with_reducible apply ite_mode | decide
    | with_reducible refine off_ne ?_ | with_reducible refine off_lt ?_ | intro _ | split | contradiction | dsimp only

theorem applyEntry_mode (s : State) (e : JEntry) (h : Mode r s) : Mode r (State.applyEntry s e) := by
  unfold State.applyEntry
  try extract_lets
  repeat' first
    | with_reducible assumption | with_reducible apply applyUnit_mode | with_reducible apply applyScan_mode | with_reducible apply foldl_mode
    | with_reducible apply ite_mode | decide | with_reducible refine off_ne ?_ | with_reducible refine off_lt ?_ | intro _ | split | contradiction
    | dsimp only

theorem loadShares_mode (s : State) (l : List Nat) (n base : Nat) (h : Mode r s) : Mode r (s.loadShares l n base) := by
  induction l generalizing s n base with
  | nil => exact h
  | cons k l ih => exact ih _ _ _ (setReg_mode _ _ _ (setReg_mode _ _ _ h (off_ne (by decide))) (off_ne (by decide)))

theorem loadQuotas_mode (s : State) (q : Quotas) (h : Mode r s) : Mode r (State.loadQuotas s q) := by
  unfold State.loadQuotas
  try extract_lets
  repeat' first
    | with_reducible assumption | with_reducible apply loadShares_mode | with_reducible apply foldl_mode | with_reducible apply ite_mode | decide
    | with_reducible refine off_ne ?_ | with_reducible refine off_lt ?_ | intro _ | split | contradiction | dsimp only | refine Mode.upd ?_

theorem eraseBases_mode (s : State) (k : Nat) (n : Nat) (h : Mode r s) : Mode r (State.eraseBases s k n) := by
  unfold State.eraseBases
  try extract_lets
  repeat' first
    | with_reducible assumption | with_reducible apply countErases_mode | with_reducible apply foldl_mode | with_reducible apply ite_mode | decide
    | with_reducible refine off_ne ?_ | with_reducible refine off_lt ?_ | intro _ | split | contradiction | dsimp only

theorem eraseRegion_mode (s : State) (k : Nat) (t : Settings) (h : Mode r s) : Mode r (State.eraseRegion s k t) := by
  unfold State.eraseRegion
  try extract_lets
  repeat' first
    | with_reducible assumption | with_reducible apply updRegion_mode | with_reducible apply eraseBases_mode | with_reducible apply countErases_mode
    | with_reducible apply foldl_mode | with_reducible apply ite_mode | decide | with_reducible refine off_ne ?_ | with_reducible refine off_lt ?_
    | intro _ | split | contradiction | dsimp only

theorem revoke_mode (s : State) (m : List Byte) (h : Mode r s) : Mode r (State.revoke s m) := by
  unfold State.revoke
  try extract_lets
  repeat' first
    | with_reducible assumption | with_reducible apply updNvm_mode | with_reducible apply foldl_mode | with_reducible apply ite_mode | decide
    | with_reducible refine off_ne ?_ | with_reducible refine off_lt ?_ | intro _ | split | contradiction | dsimp only

theorem setSes_mode (s : State) (st : Nat) (h : Mode r s) : Mode r (State.setSes s st) := by
  unfold State.setSes
  try extract_lets
  repeat' first
    | with_reducible assumption | with_reducible apply writeSes_mode | with_reducible apply foldl_mode | with_reducible apply ite_mode | decide
    | with_reducible refine off_ne ?_ | with_reducible refine off_lt ?_ | intro _ | split | contradiction | dsimp only | refine Mode.upd ?_

theorem eraseResume_mode (s : State) (h : Mode r s) : Mode r (State.eraseResume s) := by
  unfold State.eraseResume
  try extract_lets
  repeat' first
    | with_reducible assumption | with_reducible apply revoke_mode | with_reducible apply eraseRegion_mode | with_reducible apply updNvm_mode
    | with_reducible apply setSes_mode | with_reducible apply foldl_mode | with_reducible apply ite_mode | decide | with_reducible refine off_ne ?_
    | with_reducible refine off_lt ?_ | intro _ | split | contradiction | dsimp only

theorem startBase_mode (s : State) (h : Mode r s) : Mode r (State.startBase s) := by
  unfold State.startBase
  try extract_lets
  repeat' first
    | with_reducible assumption | with_reducible apply foldl_mode | with_reducible apply ite_mode | decide | with_reducible refine off_ne ?_
    | with_reducible refine off_lt ?_ | intro _ | split | contradiction | dsimp only | refine Mode.upd ?_

theorem sectorsFail_mode (s : State) (n : Nat) (h : Mode r s) : Mode r (State.sectorsFail s n).1 := by
  unfold State.sectorsFail
  try extract_lets
  repeat' first
    | with_reducible assumption | with_reducible apply bumpBy_mode | with_reducible apply updNvm_mode | with_reducible apply raise_mode
    | with_reducible apply foldl_mode | with_reducible apply ite_mode | decide | with_reducible refine off_ne ?_ | with_reducible refine off_lt ?_
    | intro _ | split | contradiction | dsimp only

theorem baseSectors_mode (s : State) (first : Nat) (n : Nat) (h : Mode r s) : Mode r (State.baseSectors s first n).1 := by
  unfold State.baseSectors
  try extract_lets
  repeat' first
    | with_reducible assumption | with_reducible apply countErases_mode | with_reducible apply sectorsFail_mode
    | (with_reducible refine Eq.mp (congrArg (Mode r) (congrArg Prod.fst ‹_ = (_, _)›)) (sectorsFail_mode ..)) | with_reducible apply draw_mode
    | (with_reducible refine Eq.mp (congrArg (Mode r) (congrArg Prod.snd ‹_ = (_, _)›)) (draw_mode ..)) | with_reducible apply foldl_mode
    | with_reducible apply ite_mode | decide | with_reducible refine off_ne ?_ | with_reducible refine off_lt ?_ | intro _ | split | contradiction
    | dsimp only

theorem unsave_mode (s : State) (h : Mode r s) : Mode r (State.unsave s) := by
  unfold State.unsave
  try extract_lets
  repeat' first
    | with_reducible assumption | with_reducible apply foldl_mode | with_reducible apply ite_mode | decide | with_reducible refine off_ne ?_
    | with_reducible refine off_lt ?_ | intro _ | split | contradiction | dsimp only | refine Mode.upd ?_

theorem baseDurable_mode (s : State) (h : Mode r s) : Mode r (State.baseDurable s) := by
  unfold State.baseDurable
  try extract_lets
  repeat' first
    | with_reducible assumption | with_reducible apply baseSectors_mode
    | (with_reducible refine Eq.mp (congrArg (Mode r) (congrArg Prod.fst ‹_ = (_, _)›)) (baseSectors_mode ..)) | with_reducible apply unsave_mode
    | with_reducible apply updRegion_mode | with_reducible apply raise_mode | with_reducible apply bump_mode | with_reducible apply setRegBit_mode
    | with_reducible apply foldl_mode | with_reducible apply ite_mode | decide | with_reducible refine off_ne ?_ | with_reducible refine off_lt ?_
    | intro _ | split | contradiction | dsimp only

theorem ringErase_mode (s : State) (k : Nat) (n : Nat) (h : Mode r s) : Mode r (State.ringErase s k n) := by
  unfold State.ringErase
  try extract_lets
  repeat' first
    | with_reducible assumption | with_reducible apply countErase_mode | with_reducible apply updRegion_mode | with_reducible apply foldl_mode
    | with_reducible apply ite_mode | decide | with_reducible refine off_ne ?_ | with_reducible refine off_lt ?_ | intro _ | split | contradiction
    | dsimp only

theorem journalWrite_mode (s : State) (sectorFail : Bool) (h : Mode r s) : Mode r (State.journalWrite s sectorFail) := by
  unfold State.journalWrite
  try extract_lets
  repeat' first
    | with_reducible assumption | with_reducible apply setRegBit_mode | with_reducible apply sectorsFail_mode
    | (with_reducible refine Eq.mp (congrArg (Mode r) (congrArg Prod.fst ‹_ = (_, _)›)) (sectorsFail_mode ..)) | with_reducible apply updRegion_mode
    | with_reducible apply ringErase_mode | with_reducible apply startBase_mode | with_reducible apply foldl_mode | with_reducible apply ite_mode
    | decide | with_reducible refine off_ne ?_ | with_reducible refine off_lt ?_ | intro _ | split | contradiction | dsimp only | refine Mode.upd ?_

theorem updHif_mode (s : State) (f : Hif → Hif) (h : Mode r s) : Mode r (State.updHif s f) := by
  unfold State.updHif
  try extract_lets
  repeat' first
    | with_reducible assumption | with_reducible apply foldl_mode | with_reducible apply ite_mode | decide | with_reducible refine off_ne ?_
    | with_reducible refine off_lt ?_ | intro _ | split | contradiction | dsimp only | refine Mode.upd ?_

theorem dbRead_mode (s : State) (h : Mode r s) : Mode r (State.dbRead s) := by
  unfold State.dbRead
  try extract_lets
  repeat' first
    | with_reducible assumption | with_reducible apply emitOut_mode | with_reducible apply bump_mode | with_reducible apply updHif_mode
    | with_reducible apply foldl_mode | with_reducible apply ite_mode | decide | with_reducible refine off_ne ?_ | with_reducible refine off_lt ?_
    | intro _ | split | contradiction | dsimp only

theorem pagesEnable_mode (s : State) (h : Mode r s) : Mode r (State.pagesEnable s) := by
  unfold State.pagesEnable
  try extract_lets
  repeat' first
    | with_reducible assumption | with_reducible apply ignored_mode | with_reducible apply setRegBit_mode | with_reducible apply setReg_mode
    | with_reducible apply updHif_mode | with_reducible apply emitOut_mode | with_reducible apply foldl_mode | with_reducible apply ite_mode | decide
    | with_reducible refine off_ne ?_ | with_reducible refine off_lt ?_ | intro _ | split | contradiction | dsimp only

theorem pagesDisable_mode (s : State) (h : Mode r s) : Mode r (State.pagesDisable s) := by
  unfold State.pagesDisable
  try extract_lets
  repeat' first
    | with_reducible assumption | with_reducible apply setRegBit_mode | with_reducible apply setReg_mode | with_reducible apply foldl_mode
    | with_reducible apply ite_mode | decide | with_reducible refine off_ne ?_ | with_reducible refine off_lt ?_ | intro _ | split | contradiction
    | dsimp only

theorem pageTick_mode (s : State) (h : Mode r s) : Mode r (State.pageTick s) := by
  unfold State.pageTick
  try extract_lets
  repeat' first
    | with_reducible assumption | with_reducible apply updHif_mode | with_reducible apply emitOut_mode | with_reducible apply foldl_mode
    | with_reducible apply ite_mode | decide | with_reducible refine off_ne ?_ | with_reducible refine off_lt ?_ | intro _ | split | contradiction
    | dsimp only

theorem freed_mode (s : State) (n : Nat) (k : Nat) (h : Mode r s) : Mode r (State.freed s n k) := by
  unfold State.freed
  try extract_lets
  repeat' first
    | with_reducible assumption | with_reducible apply updHif_mode | with_reducible apply eventsConsumed_mode | with_reducible apply updSpawn_mode
    | with_reducible apply foldl_mode | with_reducible apply ite_mode | decide | with_reducible refine off_ne ?_ | with_reducible refine off_lt ?_
    | intro _ | split | contradiction | dsimp only

theorem doorbell_mode (s : State) (n : Nat) (h1 : U32) (h : Mode r s) : Mode r (State.doorbell s n h1) := by
  unfold State.doorbell
  try extract_lets
  repeat' first
    | with_reducible assumption | with_reducible apply setReg_mode | with_reducible apply ringError_mode | with_reducible apply setHostIdx_mode
    | with_reducible apply freed_mode | with_reducible apply foldl_mode | with_reducible apply ite_mode | decide | with_reducible refine off_ne ?_
    | with_reducible refine off_lt ?_ | intro _ | split | contradiction | dsimp only

theorem fetchAll_mode (s : State) (h : Mode r s) : Mode r (State.fetchAll s) := by
  unfold State.fetchAll
  try extract_lets
  repeat' first
    | with_reducible assumption | with_reducible apply fetchMore_mode | with_reducible apply foldl_mode | with_reducible apply ite_mode | decide
    | with_reducible refine off_ne ?_ | with_reducible refine off_lt ?_ | intro _ | split | contradiction | dsimp only

theorem doorbells_mode (s : State) (rsp : DoorbellRsp) (h : Mode r s) : Mode r (State.doorbells s rsp) := by
  unfold State.doorbells
  try extract_lets
  repeat' first
    | with_reducible assumption | with_reducible apply recordMax_mode | with_reducible apply updHif_mode | with_reducible apply raise_mode
    | with_reducible apply bump_mode | with_reducible apply fetchAll_mode | with_reducible apply doorbell_mode | with_reducible apply dbRead_mode
    | with_reducible apply foldl_mode | with_reducible apply ite_mode | decide | with_reducible refine off_ne ?_ | with_reducible refine off_lt ?_
    | intro _ | split | contradiction | dsimp only

theorem arrive_mode (s : State) (n : Nat) (data : Image) (h : Mode r s) : Mode r (State.arrive s n data) := by
  unfold State.arrive
  try extract_lets
  repeat' first
    | with_reducible assumption | with_reducible apply updHif_mode | with_reducible apply ringError_mode | with_reducible apply foldl_mode
    | with_reducible apply ite_mode | decide | with_reducible refine off_ne ?_ | with_reducible refine off_lt ?_ | intro _ | split | contradiction
    | dsimp only

theorem redeliver_mode (s : State) (n : Nat) (h : Mode r s) : Mode r (State.redeliver s n) := by
  unfold State.redeliver
  try extract_lets
  repeat' first
    | with_reducible assumption | with_reducible apply updHif_mode | with_reducible apply eventsRewrite_mode | with_reducible apply updSpawn_mode
    | with_reducible apply foldl_mode | with_reducible apply ite_mode | decide | with_reducible refine off_ne ?_ | with_reducible refine off_lt ?_
    | intro _ | split | contradiction | dsimp only

theorem ringStart_mode (s : State) (n : Nat) (h : Mode r s) : Mode r (State.ringStart s n) := by
  unfold State.ringStart
  try extract_lets
  repeat' first
    | with_reducible assumption | with_reducible apply ringError_mode | with_reducible apply setRegBit_mode | with_reducible apply setHostIdx_mode
    | with_reducible apply setReg_mode | with_reducible apply redeliver_mode | with_reducible apply updHif_mode | with_reducible apply foldl_mode
    | with_reducible apply ite_mode | decide | with_reducible refine off_ne ?_ | with_reducible refine off_lt ?_ | intro _ | split | contradiction
    | dsimp only

theorem ringStop_mode (s : State) (n : Nat) (h : Mode r s) : Mode r (State.ringStop s n) := by
  unfold State.ringStop
  try extract_lets
  repeat' first
    | with_reducible assumption | with_reducible apply updHif_mode | with_reducible apply setReg_mode | with_reducible apply foldl_mode
    | with_reducible apply ite_mode | decide | with_reducible refine off_ne ?_ | with_reducible refine off_lt ?_ | intro _ | split | contradiction
    | dsimp only

theorem ringCtl_mode (s : State) (n : Nat) (v : U32) (h : Mode r s) : Mode r (State.ringCtl s n v) := by
  unfold State.ringCtl
  try extract_lets
  repeat' first
    | with_reducible assumption | with_reducible apply setReg_mode | with_reducible apply ignored_mode | with_reducible apply ringStart_mode
    | with_reducible apply ringStop_mode | with_reducible apply foldl_mode | with_reducible apply ite_mode | decide | with_reducible refine off_ne ?_
    | with_reducible refine off_lt ?_ | intro _ | split | contradiction | dsimp only

theorem filter_mode (s : State) (p : Off × U32 → Bool) (h : Mode r s) (hp : ∀ v, p (Reg.MGMT_STATE, v) = true) (t : State)
    (e : t.regs = s.regs.filter p) : Mode r t := by
  have : Sparse.find (s.regs.filter p) Reg.MGMT_STATE = Sparse.find s.regs Reg.MGMT_STATE := by
    induction s.regs with
    | nil => rfl
    | cons c l ih =>
      obtain ⟨k, x⟩ := c
      by_cases hk : k = Reg.MGMT_STATE
      · subst hk; simp [hp, Sparse.find]
      · rw [List.filter_cons]; split <;> simp [Sparse.find, Ne.symm hk, ih]
  have h := h.out
  refine ⟨?_⟩
  unfold ModeOf modeOf at *
  rw [e, this]
  exact h

theorem hifReset_mode (s : State) (h : Mode r s) : Mode r s.hifReset := by
  unfold State.hifReset
  extract_lets hif keep s1
  have h1 : Mode r s1 := filter_mode s _ h (fun _ => by simp [hif, Reg.MGMT_STATE]) s1 rfl
  exact updHif_mode _ _ (setReg_mode _ _ _ h1 (by decide))

theorem linkLost_mode (s : State) (h : Mode r s) : Mode r (State.linkLost s) := by
  unfold State.linkLost
  try extract_lets
  repeat' first
    | with_reducible assumption | with_reducible apply updHif_mode | with_reducible apply bump_mode | with_reducible apply setRegFld_mode
    | with_reducible apply hifReset_mode | with_reducible apply foldl_mode | with_reducible apply ite_mode | decide | with_reducible refine off_ne ?_
    | with_reducible refine off_lt ?_ | intro _ | split | contradiction | dsimp only

theorem linkTrain_mode (s : State) (speed : Nat) (width : Nat) (h : Mode r s) : Mode r (State.linkTrain s speed width) := by
  unfold State.linkTrain
  try extract_lets
  repeat' first
    | with_reducible assumption | with_reducible apply updHif_mode | with_reducible apply setRegFld_mode | with_reducible apply foldl_mode
    | with_reducible apply ite_mode | decide | with_reducible refine off_ne ?_ | with_reducible refine off_lt ?_ | intro _ | split | contradiction
    | dsimp only

theorem kickNow_mode (s : State) (h : Mode r s) : Mode r (State.kickNow s) := by
  unfold State.kickNow
  try extract_lets
  repeat' first
    | with_reducible assumption | with_reducible apply bump_mode | with_reducible apply updHif_mode | with_reducible apply dbRead_mode
    | with_reducible apply foldl_mode | with_reducible apply ite_mode | decide | with_reducible refine off_ne ?_ | with_reducible refine off_lt ?_
    | intro _ | split | contradiction | dsimp only

theorem unmask_mode (s : State) (vec : Nat) (h : Mode r s) : Mode r (State.unmask s vec) := by
  unfold State.unmask
  try extract_lets
  repeat' first
    | with_reducible assumption | with_reducible apply setRegBit_mode | with_reducible apply emitOut_mode | with_reducible apply foldl_mode
    | with_reducible apply ite_mode | decide | with_reducible refine off_ne ?_ | with_reducible refine off_lt ?_ | intro _ | split | contradiction
    | dsimp only

theorem hifCtl_mode (s : State) (v : U32) (h : Mode r s) : Mode r (State.hifCtl s v) := by
  unfold State.hifCtl
  try extract_lets
  repeat' first
    | with_reducible assumption | with_reducible apply pagesEnable_mode | with_reducible apply pagesDisable_mode | with_reducible apply foldl_mode
    | with_reducible apply ite_mode | decide | with_reducible refine off_ne ?_ | with_reducible refine off_lt ?_ | intro _ | split | contradiction
    | dsimp only

theorem legFlush_mode (s : State) (h : Mode r s) : Mode r (State.legFlush s) := by
  unfold State.legFlush
  try extract_lets
  repeat' first
    | with_reducible assumption | with_reducible apply updOutlet_mode | with_reducible apply ignored_mode | with_reducible apply foldl_mode
    | with_reducible apply ite_mode | decide | with_reducible refine off_ne ?_ | with_reducible refine off_lt ?_ | intro _ | split | contradiction
    | dsimp only

theorem legW0Read_mode (s : State) (h : Mode r s) : Mode r (State.legW0Read s) := by
  unfold State.legW0Read
  try extract_lets
  repeat' first
    | with_reducible assumption | with_reducible apply updOutlet_mode | with_reducible apply foldl_mode | with_reducible apply ite_mode | decide
    | with_reducible refine off_ne ?_ | with_reducible refine off_lt ?_ | intro _ | split | contradiction | dsimp only | refine Mode.upd ?_

theorem legW3Read_mode (s : State) (h : Mode r s) : Mode r (State.legW3Read s) := by
  unfold State.legW3Read
  try extract_lets
  repeat' first
    | with_reducible assumption | with_reducible apply updOutlet_mode | with_reducible apply foldl_mode | with_reducible apply ite_mode | decide
    | with_reducible refine off_ne ?_ | with_reducible refine off_lt ?_ | intro _ | split | contradiction | dsimp only | refine Mode.upd ?_

theorem pushUnit_mode (s : State) (u : SpawnUnit) (h : Mode r s) : Mode r (State.pushUnit s u) := by
  unfold State.pushUnit
  try extract_lets
  repeat' first
    | with_reducible assumption | with_reducible apply updSpawn_mode | with_reducible apply foldl_mode | with_reducible apply ite_mode | decide
    | with_reducible refine off_ne ?_ | with_reducible refine off_lt ?_ | intro _ | split | contradiction | dsimp only

theorem abandonUnits_mode (s : State) (f : SpawnUnit → Bool) (h : Mode r s) : Mode r (State.abandonUnits s f) := by
  unfold State.abandonUnits
  try extract_lets
  repeat' first
    | with_reducible assumption | with_reducible apply updSpawn_mode | with_reducible apply foldl_mode | with_reducible apply ite_mode | decide
    | with_reducible refine off_ne ?_ | with_reducible refine off_lt ?_ | intro _ | split | contradiction | dsimp only

theorem snapshotSent_mode (s : State) (isn : U64) (h : Mode r s) : Mode r (State.snapshotSent s isn) := by
  unfold State.snapshotSent
  try extract_lets
  repeat' first
    | with_reducible assumption | with_reducible apply bump_mode | with_reducible apply updSpawn_mode | with_reducible apply setRegBit_mode
    | with_reducible apply setCap_mode | with_reducible apply foldl_mode | with_reducible apply ite_mode | decide | with_reducible refine off_ne ?_
    | with_reducible refine off_lt ?_ | intro _ | split | contradiction | dsimp only

theorem unitSent_mode (s : State) (u : SpawnUnit) (h : Mode r s) : Mode r (State.unitSent s u) := by
  unfold State.unitSent
  try extract_lets
  repeat' first
    | with_reducible assumption | with_reducible apply snapshotSent_mode | with_reducible apply splitApply_mode | with_reducible apply setCap_mode
    | with_reducible apply foldl_mode | with_reducible apply ite_mode | decide | with_reducible refine off_ne ?_ | with_reducible refine off_lt ?_
    | intro _ | split | contradiction | dsimp only

theorem rewriteBuf_mode (s : State) (addr : Nat) (h : Mode r s) : Mode r (State.rewriteBuf s addr) := by
  unfold State.rewriteBuf
  try extract_lets
  repeat' first
    | with_reducible assumption | with_reducible apply postBuffer_mode | with_reducible apply updSpawn_mode | with_reducible apply foldl_mode
    | with_reducible apply ite_mode | decide | with_reducible refine off_ne ?_ | with_reducible refine off_lt ?_ | intro _ | split | contradiction
    | dsimp only

theorem writeBuf_mode (s : State) (addr : Nat) (h : Mode r s) : Mode r (State.writeBuf s addr) := by
  unfold State.writeBuf
  try extract_lets
  repeat' first
    | with_reducible assumption | with_reducible apply postBuffer_mode | with_reducible apply setPair_mode | with_reducible apply unitSent_mode
    | with_reducible apply foldl_mode | with_reducible apply ite_mode | decide | with_reducible refine off_ne ?_ | with_reducible refine off_lt ?_
    | intro _ | split | contradiction | dsimp only | refine Mode.upd ?_

theorem startCapture_mode (s : State) (mode : Nat) (d : Desc) (h : Mode r s) : Mode r (State.startCapture s mode d) := by
  unfold State.startCapture
  try extract_lets
  repeat' first
    | with_reducible assumption | with_reducible apply setRegFld_mode | with_reducible apply setReg_mode | with_reducible apply setPair_mode
    | with_reducible apply updSpawn_mode | with_reducible apply setCap_mode | with_reducible apply setRegBit_mode | with_reducible apply foldl_mode
    | with_reducible apply ite_mode | decide | with_reducible refine off_ne ?_ | with_reducible refine off_lt ?_ | intro _ | split | contradiction
    | dsimp only

theorem stopCapture_mode (s : State) (h : Mode r s) : Mode r (State.stopCapture s) := by
  unfold State.stopCapture
  try extract_lets
  repeat' first
    | with_reducible assumption | with_reducible apply abandonUnits_mode | with_reducible apply updSpawn_mode | with_reducible apply splitApply_mode
    | with_reducible apply setRegFld_mode | with_reducible apply foldl_mode | with_reducible apply ite_mode | decide | with_reducible refine off_ne ?_
    | with_reducible refine off_lt ?_ | intro _ | split | contradiction | dsimp only | refine Mode.upd ?_

theorem spawnCtl_mode (s : State) (img : Image) (d : Desc) (h : Mode r s) : Mode r (State.spawnCtl s img d) := by
  unfold State.spawnCtl
  dsimp only
  repeat' first
    | with_reducible assumption | with_reducible apply done_mode | with_reducible apply stopCapture_mode | with_reducible apply setRegFld_mode
    | with_reducible apply updSpawn_mode | with_reducible apply startCapture_mode | with_reducible apply foldl_mode | with_reducible apply ite_mode
    | decide | with_reducible refine off_ne ?_ | with_reducible refine off_lt ?_ | intro _ | split | contradiction | dsimp only

theorem spawnTrigger_mode (s : State) (d : Desc) (h : Mode r s) : Mode r (State.spawnTrigger s d) := by
  unfold State.spawnTrigger
  try extract_lets
  repeat' first
    | with_reducible assumption | with_reducible apply done_mode | with_reducible apply trigger_mode | with_reducible apply foldl_mode
    | with_reducible apply ite_mode | decide | with_reducible refine off_ne ?_ | with_reducible refine off_lt ?_ | intro _ | split | contradiction
    | dsimp only

theorem markOffer_mode (s : State) (h : Mode r s) : Mode r (State.markOffer s) := by
  unfold State.markOffer
  try extract_lets
  repeat' first
    | with_reducible assumption | with_reducible apply offer_mode | with_reducible apply updSpawn_mode | with_reducible apply foldl_mode
    | with_reducible apply ite_mode | decide | with_reducible refine off_ne ?_ | with_reducible refine off_lt ?_ | intro _ | split | contradiction
    | dsimp only

theorem copyComplete_mode (s : State) (h : Mode r s) : Mode r (State.copyComplete s) := by
  unfold State.copyComplete
  try extract_lets
  repeat' first
    | with_reducible assumption | with_reducible apply pushUnit_mode | with_reducible apply foldl_mode | with_reducible apply ite_mode | decide
    | with_reducible refine off_ne ?_ | with_reducible refine off_lt ?_ | intro _ | split | contradiction | dsimp only

theorem snapExpire_mode (s : State) (h : Mode r s) : Mode r (State.snapExpire s) := by
  unfold State.snapExpire
  try extract_lets
  repeat' first
    | with_reducible assumption | with_reducible apply abandonUnits_mode | with_reducible apply pushUnit_mode | with_reducible apply updSpawn_mode
    | with_reducible apply bump_mode | with_reducible apply raise_mode | with_reducible apply setRegBit_mode | with_reducible apply splitApply_mode
    | with_reducible apply setRegFld_mode | with_reducible apply setCap_mode | with_reducible apply foldl_mode | with_reducible apply ite_mode
    | decide | with_reducible refine off_ne ?_ | with_reducible refine off_lt ?_ | intro _ | split | contradiction | dsimp only

theorem ckptGiveUp_mode (s : State) (h : Mode r s) : Mode r (State.ckptGiveUp s) := by
  unfold State.ckptGiveUp
  try extract_lets
  repeat' first
    | with_reducible assumption | with_reducible apply setRegBit_mode | with_reducible apply updSpawn_mode | with_reducible apply foldl_mode
    | with_reducible apply ite_mode | decide | with_reducible refine off_ne ?_ | with_reducible refine off_lt ?_ | intro _ | split | contradiction
    | dsimp only

theorem ckptSnapshot_mode (s : State) (recs : List Byte) (h : Mode r s) : Mode r (State.ckptSnapshot s recs) := by
  unfold State.ckptSnapshot
  try extract_lets
  repeat' first
    | with_reducible assumption | with_reducible apply ckptGiveUp_mode | with_reducible apply bump_mode | with_reducible apply pushUnit_mode
    | with_reducible apply updSpawn_mode | with_reducible apply foldl_mode | with_reducible apply ite_mode | decide | with_reducible refine off_ne ?_
    | with_reducible refine off_lt ?_ | intro _ | split | contradiction | dsimp only

theorem putBehind_mode (s : State) (h : Mode r s) : Mode r (State.putBehind s) := by
  unfold State.putBehind
  try extract_lets
  repeat' first
    | with_reducible assumption | with_reducible apply ringPut_mode | with_reducible apply updSpawn_mode | with_reducible apply foldl_mode
    | with_reducible apply ite_mode | decide | with_reducible refine off_ne ?_ | with_reducible refine off_lt ?_ | intro _ | split | contradiction
    | dsimp only

theorem takeCkpt_mode (s : State) (h : Mode r s) : Mode r (State.takeCkpt s) := by
  unfold State.takeCkpt
  try extract_lets
  repeat' first
    | with_reducible assumption | with_reducible apply updSpawn_mode | with_reducible apply ckptGiveUp_mode | with_reducible apply putBehind_mode
    | with_reducible apply ringPut_mode | with_reducible apply countPost_mode | with_reducible apply setReg_mode | with_reducible apply bump_mode
    | with_reducible apply raise_mode | with_reducible apply ckptSnapshot_mode | with_reducible apply foldl_mode | with_reducible apply ite_mode
    | decide | with_reducible refine off_ne ?_ | with_reducible refine off_lt ?_ | intro _ | split | contradiction | dsimp only

theorem freeze_mode (s : State) (h : Mode r s) : Mode r (State.freeze s) := by
  unfold State.freeze
  try extract_lets
  repeat' first
    | with_reducible assumption | with_reducible apply pushUnit_mode | with_reducible apply raise_mode | with_reducible apply setCap_mode
    | with_reducible apply foldl_mode | with_reducible apply ite_mode | decide | with_reducible refine off_ne ?_ | with_reducible refine off_lt ?_
    | intro _ | split | contradiction | dsimp only

theorem spawnOut_mode (s : State) (addr : Option Nat) (h : Mode r s) : Mode r (State.spawnOut s addr) := by
  unfold State.spawnOut
  try extract_lets
  repeat' first
    | with_reducible assumption | with_reducible apply postBuffer_mode | with_reducible apply rewriteBuf_mode | with_reducible apply writeBuf_mode
    | with_reducible apply foldl_mode | with_reducible apply ite_mode | decide | with_reducible refine off_ne ?_ | with_reducible refine off_lt ?_
    | intro _ | split | contradiction | dsimp only

theorem updGecko_mode (s : State) (f : Gecko → Gecko) (h : Mode r s) : Mode r (State.updGecko s f) := by
  unfold State.updGecko
  try extract_lets
  repeat' first
    | with_reducible assumption | with_reducible apply foldl_mode | with_reducible apply ite_mode | decide | with_reducible refine off_ne ?_
    | with_reducible refine off_lt ?_ | intro _ | split | contradiction | dsimp only | refine Mode.upd ?_

theorem ceFound_mode (s : State) (w : Off) (h : Mode r s) : Mode r (State.ceFound s w) := by
  unfold State.ceFound
  try extract_lets
  repeat' first
    | with_reducible assumption | with_reducible apply setReg_mode | with_reducible apply bump_mode | with_reducible apply raise_mode
    | with_reducible apply updGecko_mode | with_reducible apply foldl_mode | with_reducible apply ite_mode | decide | with_reducible refine off_ne ?_
    | with_reducible refine off_lt ?_ | intro _ | split | contradiction | dsimp only

theorem correctedError_mode (s : State) (o : Off) (h : Mode r s) : Mode r (State.correctedError s o) := by
  unfold State.correctedError
  try extract_lets
  repeat' first
    | with_reducible assumption | with_reducible apply ceFound_mode | with_reducible apply updGecko_mode | with_reducible apply foldl_mode
    | with_reducible apply ite_mode | decide | with_reducible refine off_ne ?_ | with_reducible refine off_lt ?_ | intro _ | split | contradiction
    | dsimp only

theorem scrubLine_mode (s : State) (b : Nat) (line : Nat) (h : Mode r s) : Mode r (State.scrubLine s b line) := by
  unfold State.scrubLine
  try extract_lets
  repeat' first
    | with_reducible assumption | with_reducible apply ceFound_mode | with_reducible apply updGecko_mode | with_reducible apply foldl_mode
    | with_reducible apply ite_mode | decide | with_reducible refine off_ne ?_ | with_reducible refine off_lt ?_ | intro _ | split | contradiction
    | dsimp only

theorem scrubSlot_mode (s : State) (b : Nat) (h : Mode r s) : Mode r (State.scrubSlot s b) := by
  unfold State.scrubSlot
  try extract_lets
  repeat' first
    | with_reducible assumption | with_reducible apply updGecko_mode | with_reducible apply scrubLine_mode | with_reducible apply foldl_mode
    | with_reducible apply ite_mode | decide | with_reducible refine off_ne ?_ | with_reducible refine off_lt ?_ | intro _ | split | contradiction
    | dsimp only

theorem eccOffer_mode (s : State) (w : Off) (h : Mode r s) : Mode r (State.eccOffer s w) := by
  unfold State.eccOffer
  try extract_lets
  repeat' first
    | with_reducible assumption | with_reducible apply offer_mode | with_reducible apply foldl_mode | with_reducible apply ite_mode | decide
    | with_reducible refine off_ne ?_ | with_reducible refine off_lt ?_ | intro _ | split | contradiction | dsimp only

theorem repairsDue_mode (s : State) (h : Mode r s) : Mode r (State.repairsDue s) := by
  unfold State.repairsDue
  try extract_lets
  repeat' first
    | with_reducible assumption | with_reducible apply updGecko_mode | with_reducible apply eccOffer_mode | with_reducible apply foldl_mode
    | with_reducible apply ite_mode | decide | with_reducible refine off_ne ?_ | with_reducible refine off_lt ?_ | intro _ | split | contradiction
    | dsimp only

theorem ueMark_mode (s : State) (w : Off) (h : Mode r s) : Mode r (State.ueMark s w) := by
  unfold State.ueMark
  try extract_lets
  repeat' first
    | with_reducible assumption | with_reducible apply eccOffer_mode | with_reducible apply updGecko_mode | with_reducible apply foldl_mode
    | with_reducible apply ite_mode | decide | with_reducible refine off_ne ?_ | with_reducible refine off_lt ?_ | intro _ | split | contradiction
    | dsimp only

theorem ueState_mode (s : State) (w : Off) (h : Mode r s) : Mode r (State.ueState s w) := by
  unfold State.ueState
  try extract_lets
  repeat' first
    | with_reducible assumption | with_reducible apply updEng_mode | with_reducible apply foldl_mode | with_reducible apply ite_mode | decide
    | with_reducible refine off_ne ?_ | with_reducible refine off_lt ?_ | intro _ | split | contradiction | dsimp only

theorem ueWindow_mode (s : State) (w : Off) (h : Mode r s) : Mode r (State.ueWindow s w) := by
  unfold State.ueWindow
  try extract_lets
  repeat' first
    | with_reducible assumption | with_reducible apply failEngine_mode | with_reducible apply foldl_mode | with_reducible apply ite_mode | decide
    | with_reducible refine off_ne ?_ | with_reducible refine off_lt ?_ | intro _ | split | contradiction | dsimp only

theorem ueBacklog_mode (s : State) (o : Off) (h : Mode r s) : Mode r (State.ueBacklog s o) := by
  unfold State.ueBacklog
  try extract_lets
  repeat' first
    | with_reducible assumption | with_reducible apply updOutlet_mode | with_reducible apply foldl_mode | with_reducible apply ite_mode | decide
    | with_reducible refine off_ne ?_ | with_reducible refine off_lt ?_ | intro _ | split | contradiction | dsimp only

theorem ueSpawn_mode (s : State) (o : Off) (h : Mode r s) : Mode r (State.ueSpawn s o) := by
  unfold State.ueSpawn
  try extract_lets
  repeat' first
    | with_reducible assumption | with_reducible apply snapExpire_mode | with_reducible apply bump_mode | with_reducible apply abandonUnits_mode
    | with_reducible apply splitApply_mode | with_reducible apply endContinuous_mode | with_reducible apply updSpawn_mode
    | with_reducible apply setCap_mode | with_reducible apply foldl_mode | with_reducible apply ite_mode | decide | with_reducible refine off_ne ?_
    | with_reducible refine off_lt ?_ | intro _ | split | contradiction | dsimp only

theorem ueTrend_mode (s : State) (w : Off) (h : Mode r s) : Mode r (State.ueTrend s w) := by
  unfold State.ueTrend
  try extract_lets
  repeat' first
    | with_reducible assumption | with_reducible apply updOutlet_mode | with_reducible apply tarnStore_mode | with_reducible apply foldl_mode
    | with_reducible apply ite_mode | decide | with_reducible refine off_ne ?_ | with_reducible refine off_lt ?_ | intro _ | split | contradiction
    | dsimp only

theorem ueAct_mode (s : State) (w : Off) (h : Mode r s) : Mode r (State.ueAct s w) := by
  unfold State.ueAct
  try extract_lets
  repeat' first
    | with_reducible assumption | with_reducible apply ueMark_mode | with_reducible apply raise_mode | with_reducible apply ueState_mode
    | with_reducible apply ueTrend_mode | with_reducible apply tarnStore_mode | with_reducible apply ueWindow_mode
    | with_reducible apply ueBacklog_mode | with_reducible apply ueSpawn_mode | with_reducible apply foldl_mode | with_reducible apply ite_mode
    | decide | with_reducible refine off_ne ?_ | with_reducible refine off_lt ?_ | intro _ | split | contradiction | dsimp only

theorem uncorrectable_mode (s : State) (o : Off) (h : Mode r s) : Mode r (State.uncorrectable s o) := by
  unfold State.uncorrectable
  try extract_lets
  repeat' first
    | with_reducible assumption | with_reducible apply setReg_mode | with_reducible apply bump_mode | with_reducible apply ueAct_mode
    | with_reducible apply raise_mode | with_reducible apply updGecko_mode | with_reducible apply foldl_mode | with_reducible apply ite_mode | decide
    | with_reducible refine off_ne ?_ | with_reducible refine off_lt ?_ | intro _ | split | contradiction | dsimp only

theorem tcmScrub_mode (s : State) (corrected : Nat) (h : Mode r s) : Mode r (State.tcmScrub s corrected) := by
  unfold State.tcmScrub
  try extract_lets
  repeat' first
    | with_reducible assumption | with_reducible apply raise_mode | with_reducible apply bumpBy_mode | with_reducible apply updGecko_mode
    | with_reducible apply foldl_mode | with_reducible apply ite_mode | decide | with_reducible refine off_ne ?_ | with_reducible refine off_lt ?_
    | intro _ | split | contradiction | dsimp only

theorem digestRewrite_mode (s : State) (h : Mode r s) : Mode r (State.digestRewrite s) := by
  unfold State.digestRewrite
  try extract_lets
  repeat' first
    | with_reducible assumption | with_reducible apply writeSlot_mode | with_reducible apply setRegBit_mode | with_reducible apply updGecko_mode
    | with_reducible apply foldl_mode | with_reducible apply ite_mode | decide | with_reducible refine off_ne ?_ | with_reducible refine off_lt ?_
    | intro _ | split | contradiction | dsimp only

theorem telemetry_mode (s : State) (t : TelemEnv) (h : Mode r s) : Mode r (State.telemetry s t) := by
  unfold State.telemetry
  try extract_lets
  repeat' first
    | with_reducible assumption | with_reducible apply setReg_mode | with_reducible apply setRegBit_mode | with_reducible apply updGecko_mode
    | with_reducible apply raise_mode | with_reducible apply postLossy_mode | with_reducible apply foldl_mode | with_reducible apply ite_mode | decide
    | with_reducible refine off_ne ?_ | with_reducible refine off_lt ?_ | intro _ | split | contradiction | dsimp only

theorem legPtEnd_mode (s : State) (reason : Nat) (h : Mode r s) : Mode r (State.legPtEnd s reason) := by
  unfold State.legPtEnd
  try extract_lets
  repeat' first
    | with_reducible assumption | with_reducible apply setReg_mode | with_reducible apply bump_mode | with_reducible apply foldl_mode
    | with_reducible apply ite_mode | decide | with_reducible refine off_ne ?_ | with_reducible refine off_lt ?_ | intro _ | split | contradiction
    | dsimp only

theorem setLegWords_mode (s : State) (l : List Byte) (h : Mode r s) : Mode r (State.setLegWords s l) := by
  unfold State.setLegWords
  try extract_lets
  repeat' first
    | with_reducible assumption | with_reducible apply setReg_mode | with_reducible apply foldl_mode | with_reducible apply ite_mode | decide
    | with_reducible refine off_ne ?_ | with_reducible refine off_lt ?_ | intro _ | split | contradiction | dsimp only

theorem legPtWrite_mode (s : State) (h : Mode r s) : Mode r (State.legPtWrite s) := by
  unfold State.legPtWrite
  try extract_lets
  repeat' first
    | with_reducible assumption | with_reducible apply ignored_mode | with_reducible apply legPtEnd_mode | with_reducible apply setDirty_mode
    | with_reducible apply tarnStore_mode | with_reducible apply foldl_mode | with_reducible apply ite_mode | decide | with_reducible refine off_ne ?_
    | with_reducible refine off_lt ?_ | intro _ | split | contradiction | dsimp only

theorem legPtRead_mode (s : State) (h : Mode r s) : Mode r (State.legPtRead s) := by
  unfold State.legPtRead
  try extract_lets
  repeat' first
    | with_reducible assumption | with_reducible apply ignored_mode | with_reducible apply legPtEnd_mode | with_reducible apply setLegWords_mode
    | with_reducible apply foldl_mode | with_reducible apply ite_mode | decide | with_reducible refine off_ne ?_ | with_reducible refine off_lt ?_
    | intro _ | split | contradiction | dsimp only

theorem takeOver_mode (s : State) (h : Mode r s) : Mode r (State.takeOver s) := by
  unfold State.takeOver
  try extract_lets
  repeat' first
    | with_reducible assumption | with_reducible apply offerStatus_mode | with_reducible apply raise_mode | with_reducible apply bump_mode
    | with_reducible apply grantHold_mode | with_reducible apply foldl_mode | with_reducible apply ite_mode | decide | with_reducible refine off_ne ?_
    | with_reducible refine off_lt ?_ | intro _ | split | contradiction | dsimp only

theorem takeBack_mode (s : State) (h : Mode r s) : Mode r (State.takeBack s) := by
  unfold State.takeBack
  try extract_lets
  repeat' first
    | with_reducible assumption | with_reducible apply offerStatus_mode | with_reducible apply raise_mode | with_reducible apply bump_mode
    | with_reducible apply grantHold_mode | with_reducible apply releaseHold_mode | with_reducible apply foldl_mode | with_reducible apply ite_mode
    | decide | with_reducible refine off_ne ?_ | with_reducible refine off_lt ?_ | intro _ | split | contradiction | dsimp only

theorem failAgain_mode (s : State) (e : EngineId) (cause : Nat) (h : Mode r s) : Mode r (State.failAgain s e cause) := by
  unfold State.failAgain
  try extract_lets
  repeat' first
    | with_reducible assumption | with_reducible apply offerStatus_mode | with_reducible apply recordFailure_mode | with_reducible apply foldl_mode
    | with_reducible apply ite_mode | decide | with_reducible refine off_ne ?_ | with_reducible refine off_lt ?_ | intro _ | split | contradiction
    | dsimp only

theorem returnTest_mode (s : State) (e : EngineId) (pass : Bool) (h : Mode r s) : Mode r (State.returnTest s e pass) := by
  unfold State.returnTest
  try extract_lets
  repeat' first
    | with_reducible assumption | with_reducible apply failAgain_mode | with_reducible apply updEng_mode | with_reducible apply updSkink_mode
    | with_reducible apply offerResync_mode | with_reducible apply foldl_mode | with_reducible apply ite_mode | decide
    | with_reducible refine off_ne ?_ | with_reducible refine off_lt ?_ | intro _ | split | contradiction | dsimp only

theorem copyDone_mode (s : State) (verified : Bool) (h : Mode r s) : Mode r (State.copyDone s verified) := by
  unfold State.copyDone
  try extract_lets
  repeat' first
    | with_reducible assumption | with_reducible apply updEng_mode | with_reducible apply updSkink_mode | with_reducible apply failAgain_mode
    | with_reducible apply setEng_mode | with_reducible apply rewritten_mode | with_reducible apply offerStatus_mode
    | with_reducible apply setChain_mode | with_reducible apply foldl_mode | with_reducible apply ite_mode | decide | with_reducible refine off_ne ?_
    | with_reducible refine off_lt ?_ | intro _ | split | contradiction | dsimp only

theorem holdoffOver_mode (s : State) (e : EngineId) (h : Mode r s) : Mode r (State.holdoffOver s e) := by
  unfold State.holdoffOver
  try extract_lets
  repeat' first
    | with_reducible assumption | with_reducible apply offerStatus_mode | with_reducible apply updEng_mode | with_reducible apply foldl_mode
    | with_reducible apply ite_mode | decide | with_reducible refine off_ne ?_ | with_reducible refine off_lt ?_ | intro _ | split | contradiction
    | dsimp only

theorem auditOffer_mode (s : State) (h : Mode r s) : Mode r (State.auditOffer s) := by
  unfold State.auditOffer
  try extract_lets
  repeat' first
    | with_reducible assumption | with_reducible apply updSkink_mode | with_reducible apply bump_mode | with_reducible apply offerResync_mode
    | with_reducible apply foldl_mode | with_reducible apply ite_mode | decide | with_reducible refine off_ne ?_ | with_reducible refine off_lt ?_
    | intro _ | split | contradiction | dsimp only

theorem auditCompare_mode (s : State) (h : Mode r s) : Mode r (State.auditCompare s) := by
  unfold State.auditCompare
  try extract_lets
  repeat' first
    | with_reducible assumption | with_reducible apply updEng_mode | with_reducible apply updSkink_mode | with_reducible apply offerDiverge_mode
    | with_reducible apply foldl_mode | with_reducible apply ite_mode | decide | with_reducible refine off_ne ?_ | with_reducible refine off_lt ?_
    | intro _ | split | contradiction | dsimp only

theorem offerRepairs_mode (s : State) (block : Nat) (idx : List Nat) (h : Mode r s) : Mode r (State.offerRepairs s block idx) := by
  unfold State.offerRepairs
  try extract_lets
  repeat' first
    | with_reducible assumption | with_reducible apply offerResync_mode | with_reducible apply foldl_mode | with_reducible apply ite_mode | decide
    | with_reducible refine off_ne ?_ | with_reducible refine off_lt ?_ | intro _ | split | contradiction | dsimp only

theorem resolve_mode (s : State) (h : Mode r s) : Mode r (State.resolve s) := by
  unfold State.resolve
  try extract_lets
  repeat' first
    | with_reducible assumption | with_reducible apply divergeDone_mode | with_reducible apply failEngine_mode
    | with_reducible apply offerRepairs_mode | with_reducible apply foldl_mode | with_reducible apply ite_mode | decide
    | with_reducible refine off_ne ?_ | with_reducible refine off_lt ?_ | intro _ | split | contradiction | dsimp only

theorem removeEngine_mode (s : State) (e : EngineId) (h : Mode r s) : Mode r (State.removeEngine s e) := by
  unfold State.removeEngine
  try extract_lets
  repeat' first
    | with_reducible assumption | with_reducible apply failEngine_mode | with_reducible apply foldl_mode | with_reducible apply ite_mode | decide
    | with_reducible refine off_ne ?_ | with_reducible refine off_lt ?_ | intro _ | split | contradiction | dsimp only

theorem engineCtl_mode (s : State) (d : Desc) (h : Mode r s) : Mode r (State.engineCtl s d) := by
  unfold State.engineCtl
  try extract_lets
  repeat' first
    | with_reducible assumption | with_reducible apply done_mode | with_reducible apply updSkink_mode | with_reducible apply removeEngine_mode
    | with_reducible apply offerStatus_mode | with_reducible apply updEng_mode | with_reducible apply foldl_mode | with_reducible apply ite_mode
    | decide | with_reducible refine off_ne ?_ | with_reducible refine off_lt ?_ | intro _ | split | contradiction | dsimp only

theorem dropClaim_mode (s : State) (h : Mode r s) : Mode r (State.dropClaim s) := by
  unfold State.dropClaim
  try extract_lets
  repeat' first
    | with_reducible assumption | with_reducible apply emitOut_mode | with_reducible apply updSkink_mode | with_reducible apply foldl_mode
    | with_reducible apply ite_mode | decide | with_reducible refine off_ne ?_ | with_reducible refine off_lt ?_ | intro _ | split | contradiction
    | dsimp only

theorem intlkIn_mode (s : State) (high : Bool) (h : Mode r s) : Mode r (State.intlkIn s high) := by
  unfold State.intlkIn
  try extract_lets
  repeat' first
    | with_reducible assumption | with_reducible apply updSkink_mode | with_reducible apply raise_mode | with_reducible apply bump_mode
    | with_reducible apply dropClaim_mode | with_reducible apply foldl_mode | with_reducible apply ite_mode | decide | with_reducible refine off_ne ?_
    | with_reducible refine off_lt ?_ | intro _ | split | contradiction | dsimp only

theorem pairClaim_mode (s : State) (h : Mode r s) : Mode r (State.pairClaim s) := by
  unfold State.pairClaim
  try extract_lets
  repeat' first
    | with_reducible assumption | with_reducible apply raise_mode | with_reducible apply emitOut_mode | with_reducible apply bump_mode
    | with_reducible apply updSkink_mode | with_reducible apply foldl_mode | with_reducible apply ite_mode | decide | with_reducible refine off_ne ?_
    | with_reducible refine off_lt ?_ | intro _ | split | contradiction | dsimp only

theorem sharedOff_mode (s : State) (h : Mode r s) : Mode r (State.sharedOff s) := by
  unfold State.sharedOff
  try extract_lets
  repeat' first
    | with_reducible assumption | with_reducible apply extraFrames_mode | with_reducible apply frameOf_mode | with_reducible apply foldl_mode
    | with_reducible apply ite_mode | decide | with_reducible refine off_ne ?_ | with_reducible refine off_lt ?_ | intro _ | split | contradiction
    | dsimp only

theorem pairRelease_mode (s : State) (h : Mode r s) : Mode r (State.pairRelease s) := by
  unfold State.pairRelease
  try extract_lets
  repeat' first
    | with_reducible assumption | with_reducible apply dropClaim_mode | with_reducible apply sharedOff_mode | with_reducible apply updSkink_mode
    | with_reducible apply foldl_mode | with_reducible apply ite_mode | decide | with_reducible refine off_ne ?_ | with_reducible refine off_lt ?_
    | intro _ | split | contradiction | dsimp only

theorem pairLost_mode (s : State) (h : Mode r s) : Mode r (State.pairLost s) := by
  unfold State.pairLost
  try extract_lets
  repeat' first
    | with_reducible assumption | with_reducible apply raise_mode | with_reducible apply bump_mode | with_reducible apply foldl_mode
    | with_reducible apply ite_mode | decide | with_reducible refine off_ne ?_ | with_reducible refine off_lt ?_ | intro _ | split | contradiction
    | dsimp only

theorem pairEnabled_mode (s : State) (before : State) (h : Mode r s) : Mode r (State.pairEnabled s before) := by
  unfold State.pairEnabled
  try extract_lets
  repeat' first
    | with_reducible assumption | with_reducible apply pairLost_mode | with_reducible apply foldl_mode | with_reducible apply ite_mode | decide
    | with_reducible refine off_ne ?_ | with_reducible refine off_lt ?_ | intro _ | split | contradiction | dsimp only

theorem pairSense_mode (s : State) (high : Bool) (h : Mode r s) : Mode r (State.pairSense s high) := by
  unfold State.pairSense
  try extract_lets
  repeat' first
    | with_reducible assumption | with_reducible apply updSkink_mode | with_reducible apply pairLost_mode | with_reducible apply foldl_mode
    | with_reducible apply ite_mode | decide | with_reducible refine off_ne ?_ | with_reducible refine off_lt ?_ | intro _ | split | contradiction
    | dsimp only

theorem inject_mode (s : State) (e : EngineId) (v : U32) (h : Mode r s) : Mode r (State.inject s e v) := by
  unfold State.inject
  try extract_lets
  repeat' first
    | with_reducible assumption | with_reducible apply failEngine_mode | with_reducible apply failOut_mode | with_reducible apply ignored_mode
    | with_reducible apply foldl_mode | with_reducible apply ite_mode | decide | with_reducible refine off_ne ?_ | with_reducible refine off_lt ?_
    | intro _ | split | contradiction | dsimp only

theorem updWs_mode (s : State) (f : Wellspring → Wellspring) (h : Mode r s) : Mode r (State.updWs s f) := by
  unfold State.updWs
  try extract_lets
  repeat' first
    | with_reducible assumption | with_reducible apply foldl_mode | with_reducible apply ite_mode | decide | with_reducible refine off_ne ?_
    | with_reducible refine off_lt ?_ | intro _ | split | contradiction | dsimp only | refine Mode.upd ?_

theorem updServo_mode (s : State) (f : Servo → Servo) (h : Mode r s) : Mode r (State.updServo s f) := by
  unfold State.updServo
  try extract_lets
  repeat' first
    | with_reducible assumption | with_reducible apply updWs_mode | with_reducible apply foldl_mode | with_reducible apply ite_mode | decide
    | with_reducible refine off_ne ?_ | with_reducible refine off_lt ?_ | intro _ | split | contradiction | dsimp only

theorem incStep_mode (s : State) (step : Int) (h : Mode r s) : Mode r (State.incStep s step) := by
  unfold State.incStep
  try extract_lets
  repeat' first
    | with_reducible assumption | with_reducible apply stepped_mode | with_reducible apply foldl_mode | with_reducible apply ite_mode | decide
    | with_reducible refine off_ne ?_ | with_reducible refine off_lt ?_ | intro _ | split | contradiction | dsimp only | refine Mode.upd ?_

theorem armSwitch_mode (s : State) (d : Desc) (h : Mode r s) : Mode r (State.armSwitch s d) := by
  unfold State.armSwitch
  try extract_lets
  repeat' first
    | with_reducible assumption | with_reducible apply bump_mode | with_reducible apply defer_mode | with_reducible apply updWs_mode
    | with_reducible apply foldl_mode | with_reducible apply ite_mode | decide | with_reducible refine off_ne ?_ | with_reducible refine off_lt ?_
    | intro _ | split | contradiction | dsimp only

theorem asymChanged_mode (s : State) (p : Nat) (h : Mode r s) : Mode r (State.asymChanged s p) := by
  unfold State.asymChanged
  try extract_lets
  repeat' first
    | with_reducible assumption | with_reducible apply updServo_mode | with_reducible apply foldl_mode | with_reducible apply ite_mode | decide
    | with_reducible refine off_ne ?_ | with_reducible refine off_lt ?_ | intro _ | split | contradiction | dsimp only

theorem setAsymRun_mode (s : State) (p : Nat) (v : U32) (h : Mode r s) : Mode r (State.setAsymRun s p v) := by
  unfold State.setAsymRun
  try extract_lets
  repeat' first
    | with_reducible assumption | with_reducible apply asymChanged_mode | with_reducible apply setReg_mode | with_reducible apply foldl_mode
    | with_reducible apply ite_mode | decide | with_reducible refine off_ne ?_ | with_reducible refine off_lt ?_ | intro _ | split | contradiction
    | dsimp only

theorem timeAdj_mode (s : State) (d : Desc) (h : Mode r s) : Mode r (State.timeAdj s d) := by
  unfold State.timeAdj
  dsimp only
  repeat' first
    | with_reducible assumption | with_reducible apply done_mode | with_reducible apply updWs_mode | with_reducible apply incStep_mode
    | with_reducible apply elapse_mode | with_reducible apply tmoArm_mode | with_reducible apply setPair_mode | with_reducible apply setAsymRun_mode
    | with_reducible apply armSwitch_mode | with_reducible apply foldl_mode | with_reducible apply ite_mode | decide | with_reducible refine off_ne ?_
    | with_reducible refine off_lt ?_ | intro _ | split | contradiction | dsimp only

theorem setServo_mode (s : State) (st : Nat) (q : BitVec 3) (h : Mode r s) : Mode r (State.setServo s st q) := by
  unfold State.setServo
  try extract_lets
  repeat' first
    | with_reducible assumption | with_reducible apply updWs_mode | with_reducible apply foldl_mode | with_reducible apply ite_mode | decide
    | with_reducible refine off_ne ?_ | with_reducible refine off_lt ?_ | intro _ | split | contradiction | dsimp only

theorem servoChange_mode (s : State) (h : Mode r s) : Mode r (State.servoChange s) := by
  unfold State.servoChange
  try extract_lets
  repeat' first
    | with_reducible assumption | with_reducible apply updWs_mode | with_reducible apply updServo_mode | with_reducible apply foldl_mode
    | with_reducible apply ite_mode | decide | with_reducible refine off_ne ?_ | with_reducible refine off_lt ?_ | intro _ | split | contradiction
    | dsimp only

theorem servoStep_mode (s : State) (step : Int) (h : Mode r s) : Mode r (State.servoStep s step) := by
  unfold State.servoStep
  try extract_lets
  repeat' first
    | with_reducible assumption | with_reducible apply doSwitch_mode | with_reducible apply incStep_mode | with_reducible apply foldl_mode
    | with_reducible apply ite_mode | decide | with_reducible refine off_ne ?_ | with_reducible refine off_lt ?_ | intro _ | split | contradiction
    | dsimp only

theorem servoSlew_mode (s : State) (h : Mode r s) : Mode r (State.servoSlew s) := by
  unfold State.servoSlew
  try extract_lets
  repeat' first
    | with_reducible assumption | with_reducible apply draw_mode
    | (with_reducible refine Eq.mp (congrArg (Mode r) (congrArg Prod.snd ‹_ = (_, _)›)) (draw_mode ..)) | with_reducible apply updServo_mode
    | with_reducible apply doSwitch_mode | with_reducible apply updWs_mode | with_reducible apply foldl_mode | with_reducible apply ite_mode | decide
    | with_reducible refine off_ne ?_ | with_reducible refine off_lt ?_ | intro _ | split | contradiction | dsimp only

theorem servoLock_mode (s : State) (h : Mode r s) : Mode r (State.servoLock s) := by
  unfold State.servoLock
  try extract_lets
  repeat' first
    | with_reducible assumption | with_reducible apply doSwitch_mode | with_reducible apply raise_mode | with_reducible apply setServo_mode
    | with_reducible apply foldl_mode | with_reducible apply ite_mode | decide | with_reducible refine off_ne ?_ | with_reducible refine off_lt ?_
    | intro _ | split | contradiction | dsimp only

theorem servoSuspect_mode (s : State) (h : Mode r s) : Mode r (State.servoSuspect s) := by
  unfold State.servoSuspect
  try extract_lets
  repeat' first
    | with_reducible assumption | with_reducible apply raise_mode | with_reducible apply bump_mode | with_reducible apply updServo_mode
    | with_reducible apply setServo_mode | with_reducible apply foldl_mode | with_reducible apply ite_mode | decide | with_reducible refine off_ne ?_
    | with_reducible refine off_lt ?_ | intro _ | split | contradiction | dsimp only

theorem predict_mode (s : State) (h : Mode r s) : Mode r (State.predict s) := by
  unfold State.predict
  try extract_lets
  repeat' first
    | with_reducible assumption | with_reducible apply draw_mode
    | (with_reducible refine Eq.mp (congrArg (Mode r) (congrArg Prod.snd ‹_ = (_, _)›)) (draw_mode ..)) | with_reducible apply updServo_mode
    | with_reducible apply foldl_mode | with_reducible apply ite_mode | decide | with_reducible refine off_ne ?_ | with_reducible refine off_lt ?_
    | intro _ | split | contradiction | dsimp only

theorem acquireSync_mode (s : State) (o : Int) (h : Mode r s) : Mode r (State.acquireSync s o) := by
  unfold State.acquireSync
  try extract_lets
  repeat' first
    | with_reducible assumption | with_reducible apply updWs_mode | with_reducible apply updServo_mode | with_reducible apply servoStep_mode
    | with_reducible apply servoSlew_mode | with_reducible apply servoLock_mode | with_reducible apply foldl_mode | with_reducible apply ite_mode
    | decide | with_reducible refine off_ne ?_ | with_reducible refine off_lt ?_ | intro _ | split | contradiction | dsimp only

theorem lockedSync_mode (s : State) (o : Int) (h : Mode r s) : Mode r (State.lockedSync s o) := by
  unfold State.lockedSync
  try extract_lets
  repeat' first
    | with_reducible assumption | with_reducible apply servoSuspect_mode | with_reducible apply servoStep_mode | with_reducible apply servoSlew_mode
    | with_reducible apply foldl_mode | with_reducible apply ite_mode | decide | with_reducible refine off_ne ?_ | with_reducible refine off_lt ?_
    | intro _ | split | contradiction | dsimp only

theorem syncReceived_mode (s : State) (p : Nat) (m : PtpSync) (h : Mode r s) : Mode r (State.syncReceived s p m) := by
  unfold State.syncReceived
  dsimp only
  repeat' first
    | with_reducible assumption | with_reducible apply setReg_mode | with_reducible apply updServo_mode | with_reducible apply acquireSync_mode
    | with_reducible apply lockedSync_mode | with_reducible apply predict_mode | with_reducible apply foldl_mode | with_reducible apply ite_mode
    | decide | with_reducible refine off_ne ?_ | with_reducible refine off_lt ?_ | intro _ | split | contradiction | dsimp only

theorem setD_mode (s : State) (d : Int) (h : Mode r s) : Mode r (State.setD s d) := by
  unfold State.setD
  try extract_lets
  repeat' first
    | with_reducible assumption | with_reducible apply setReg_mode | with_reducible apply updServo_mode | with_reducible apply foldl_mode
    | with_reducible apply ite_mode | decide | with_reducible refine off_ne ?_ | with_reducible refine off_lt ?_ | intro _ | split | contradiction
    | dsimp only

theorem filterD_mode (s : State) (md : Int) (h : Mode r s) : Mode r (State.filterD s md) := by
  unfold State.filterD
  try extract_lets
  repeat' first
    | with_reducible assumption | with_reducible apply draw_mode
    | (with_reducible refine Eq.mp (congrArg (Mode r) (congrArg Prod.snd ‹_ = (_, _)›)) (draw_mode ..)) | with_reducible apply setD_mode
    | with_reducible apply foldl_mode | with_reducible apply ite_mode | decide | with_reducible refine off_ne ?_ | with_reducible refine off_lt ?_
    | intro _ | split | contradiction | dsimp only

theorem suspectDelay_mode (s : State) (p : Nat) (md : Int) (h : Mode r s) : Mode r (State.suspectDelay s p md) := by
  unfold State.suspectDelay
  try extract_lets
  repeat' first
    | with_reducible assumption | with_reducible apply updServo_mode | with_reducible apply setD_mode | with_reducible apply setReg_mode
    | with_reducible apply servoLock_mode | with_reducible apply setServo_mode | with_reducible apply foldl_mode | with_reducible apply ite_mode
    | decide | with_reducible refine off_ne ?_ | with_reducible refine off_lt ?_ | intro _ | split | contradiction | dsimp only

theorem delayResp_mode (s : State) (p : Nat) (m : PtpDelayResp) (h : Mode r s) : Mode r (State.delayResp s p m) := by
  unfold State.delayResp
  try extract_lets
  repeat' first
    | with_reducible assumption | with_reducible apply updServo_mode | with_reducible apply suspectDelay_mode | with_reducible apply servoSuspect_mode
    | with_reducible apply filterD_mode | with_reducible apply foldl_mode | with_reducible apply ite_mode | decide | with_reducible refine off_ne ?_
    | with_reducible refine off_lt ?_ | intro _ | split | contradiction | dsimp only

theorem takeMaster_mode (s : State) (m : U64) (p : Nat) (h : Mode r s) : Mode r (State.takeMaster s m p) := by
  unfold State.takeMaster
  try extract_lets
  repeat' first
    | with_reducible assumption | with_reducible apply raise_mode | with_reducible apply bump_mode | with_reducible apply setPair_mode
    | with_reducible apply updServo_mode | with_reducible apply setServo_mode | with_reducible apply setReg_mode | with_reducible apply foldl_mode
    | with_reducible apply ite_mode | decide | with_reducible refine off_ne ?_ | with_reducible refine off_lt ?_ | intro _ | split | contradiction
    | dsimp only

theorem hear_mode (s : State) (p : Nat) (m : PtpAnnounce) (h : Mode r s) : Mode r (State.hear s p m) := by
  unfold State.hear
  try extract_lets
  repeat' first
    | with_reducible assumption | with_reducible apply updServo_mode | with_reducible apply foldl_mode | with_reducible apply ite_mode | decide
    | with_reducible refine off_ne ?_ | with_reducible refine off_lt ?_ | intro _ | split | contradiction | dsimp only

theorem announce_mode (s : State) (p : Nat) (m : PtpAnnounce) (h : Mode r s) : Mode r (State.announce s p m) := by
  unfold State.announce
  try extract_lets
  repeat' first
    | with_reducible assumption | with_reducible apply setRegBit_mode | with_reducible apply hear_mode | with_reducible apply updServo_mode
    | with_reducible apply takeMaster_mode | with_reducible apply foldl_mode | with_reducible apply ite_mode | decide
    | with_reducible refine off_ne ?_ | with_reducible refine off_lt ?_ | intro _ | split | contradiction | dsimp only

theorem sendDelayReq_mode (s : State) (h : Mode r s) : Mode r (State.sendDelayReq s) := by
  unfold State.sendDelayReq
  try extract_lets
  repeat' first
    | with_reducible assumption | with_reducible apply updServo_mode | with_reducible apply updPort_mode | with_reducible apply foldl_mode
    | with_reducible apply ite_mode | decide | with_reducible refine off_ne ?_ | with_reducible refine off_lt ?_ | intro _ | split | contradiction
    | dsimp only

theorem loseMaster_mode (s : State) (h : Mode r s) : Mode r (State.loseMaster s) := by
  unfold State.loseMaster
  try extract_lets
  repeat' first
    | with_reducible assumption | with_reducible apply updServo_mode | with_reducible apply setRegBit_mode | with_reducible apply raise_mode
    | with_reducible apply bump_mode | with_reducible apply setServo_mode | with_reducible apply foldl_mode | with_reducible apply ite_mode | decide
    | with_reducible refine off_ne ?_ | with_reducible refine off_lt ?_ | intro _ | split | contradiction | dsimp only

theorem acquireAgain_mode (s : State) (h : Mode r s) : Mode r (State.acquireAgain s) := by
  unfold State.acquireAgain
  try extract_lets
  repeat' first
    | with_reducible assumption | with_reducible apply doSwitch_mode | with_reducible apply setServo_mode | with_reducible apply updServo_mode
    | with_reducible apply foldl_mode | with_reducible apply ite_mode | decide | with_reducible refine off_ne ?_ | with_reducible refine off_lt ?_
    | intro _ | split | contradiction | dsimp only

theorem ethReceive_mode (s : State) (p : Nat) (f : EthRx) (h : Mode r s) : Mode r (State.ethReceive s p f) := by
  unfold State.ethReceive
  try extract_lets
  repeat' first
    | with_reducible assumption | with_reducible apply bump_mode | with_reducible apply ringLoss_mode | with_reducible apply postBuffer_mode
    | with_reducible apply foldl_mode | with_reducible apply ite_mode | decide | with_reducible refine off_ne ?_ | with_reducible refine off_lt ?_
    | intro _ | split | contradiction | dsimp only

theorem ethSend_mode (s : State) (p : Nat) (l : List Byte) (h : Mode r s) : Mode r (State.ethSend s p l) := by
  unfold State.ethSend
  try extract_lets
  repeat' first
    | with_reducible assumption | with_reducible apply bump_mode | with_reducible apply emitOut_mode | with_reducible apply foldl_mode
    | with_reducible apply ite_mode | decide | with_reducible refine off_ne ?_ | with_reducible refine off_lt ?_ | intro _ | split | contradiction
    | dsimp only

theorem ethTransmit_mode (s : State) (p : Nat) (buf : Image) (h : Mode r s) : Mode r (State.ethTransmit s p buf) := by
  unfold State.ethTransmit
  try extract_lets
  repeat' first
    | with_reducible assumption | with_reducible apply ethSend_mode | with_reducible apply updServo_mode | with_reducible apply updPort_mode
    | with_reducible apply takeHead_mode | with_reducible apply readBuffer_mode | with_reducible apply bump_mode | with_reducible apply foldl_mode
    | with_reducible apply ite_mode | decide | with_reducible refine off_ne ?_ | with_reducible refine off_lt ?_ | intro _ | split | contradiction
    | dsimp only

theorem ethStamp_mode (s : State) (p : Nat) (h : Mode r s) : Mode r (State.ethStamp s p) := by
  unfold State.ethStamp
  try extract_lets
  repeat' first
    | with_reducible assumption | with_reducible apply updPort_mode | with_reducible apply bump_mode | with_reducible apply raise_mode
    | with_reducible apply foldl_mode | with_reducible apply ite_mode | decide | with_reducible refine off_ne ?_ | with_reducible refine off_lt ?_
    | intro _ | split | contradiction | dsimp only

theorem txtsW0Read_mode (s : State) (p : Nat) (h : Mode r s) : Mode r (State.txtsW0Read s p) := by
  unfold State.txtsW0Read
  try extract_lets
  repeat' first
    | with_reducible assumption | with_reducible apply updPort_mode | with_reducible apply foldl_mode | with_reducible apply ite_mode | decide
    | with_reducible refine off_ne ?_ | with_reducible refine off_lt ?_ | intro _ | split | contradiction | dsimp only | refine Mode.upd ?_

theorem txtsHiRead_mode (s : State) (p : Nat) (h : Mode r s) : Mode r (State.txtsHiRead s p) := by
  unfold State.txtsHiRead
  try extract_lets
  repeat' first
    | with_reducible assumption | with_reducible apply updPort_mode | with_reducible apply foldl_mode | with_reducible apply ite_mode | decide
    | with_reducible refine off_ne ?_ | with_reducible refine off_lt ?_ | intro _ | split | contradiction | dsimp only | refine Mode.upd ?_

theorem updRtc_mode (s : State) (f : Rtc → Rtc) (h : Mode r s) : Mode r (State.updRtc s f) := by
  unfold State.updRtc
  try extract_lets
  repeat' first
    | with_reducible assumption | with_reducible apply foldl_mode | with_reducible apply ite_mode | decide | with_reducible refine off_ne ?_
    | with_reducible refine off_lt ?_ | intro _ | split | contradiction | dsimp only | refine Mode.upd ?_

theorem almFire_mode (s : State) (skipped : Bool) (h : Mode r s) : Mode r (State.almFire s skipped) := by
  unfold State.almFire
  try extract_lets
  repeat' first
    | with_reducible assumption | with_reducible apply raise_mode | with_reducible apply bump_mode | with_reducible apply setReg_mode
    | with_reducible apply foldl_mode | with_reducible apply ite_mode | decide | with_reducible refine off_ne ?_ | with_reducible refine off_lt ?_
    | intro _ | split | contradiction | dsimp only

theorem localApply_mode (s : State) (h : Mode r s) : Mode r (State.localApply s) := by
  unfold State.localApply
  try extract_lets
  repeat' first
    | with_reducible assumption | with_reducible apply updRtc_mode | with_reducible apply foldl_mode | with_reducible apply ite_mode | decide
    | with_reducible refine off_ne ?_ | with_reducible refine off_lt ?_ | intro _ | split | contradiction | dsimp only

theorem rtcCount_mode (s : State) (n : Nat) (h : Mode r s) : Mode r (State.rtcCount s n) := by
  unfold State.rtcCount
  try extract_lets
  repeat' first
    | with_reducible assumption | with_reducible apply updRtc_mode | with_reducible apply localApply_mode | with_reducible apply almFire_mode
    | with_reducible apply foldl_mode | with_reducible apply ite_mode | decide | with_reducible refine off_ne ?_ | with_reducible refine off_lt ?_
    | intro _ | split | contradiction | dsimp only

theorem shiftEnd_mode (s : State) (h : Mode r s) : Mode r (State.shiftEnd s) := by
  unfold State.shiftEnd
  try extract_lets
  repeat' first
    | with_reducible assumption | with_reducible apply updRtc_mode | with_reducible apply setRegBit_mode | with_reducible apply raise_mode
    | with_reducible apply bump_mode | with_reducible apply foldl_mode | with_reducible apply ite_mode | decide | with_reducible refine off_ne ?_
    | with_reducible refine off_lt ?_ | intro _ | split | contradiction | dsimp only

theorem rtcRun_mode (s : State) (n : Nat) (h : Mode r s) : Mode r (State.rtcRun s n) := by
  unfold State.rtcRun
  try extract_lets
  repeat' first
    | with_reducible assumption | with_reducible apply rtcCount_mode | with_reducible apply setRegFld_mode | with_reducible apply shiftEnd_mode
    | with_reducible apply updRtc_mode | with_reducible apply foldl_mode | with_reducible apply ite_mode | decide | with_reducible refine off_ne ?_
    | with_reducible refine off_lt ?_ | intro _ | split | contradiction | dsimp only

theorem shiftBegin_mode (s : State) (h : Mode r s) : Mode r (State.shiftBegin s) := by
  unfold State.shiftBegin
  try extract_lets
  repeat' first
    | with_reducible assumption | with_reducible apply updRtc_mode | with_reducible apply setRegBit_mode | with_reducible apply setReg_mode
    | with_reducible apply foldl_mode | with_reducible apply ite_mode | decide | with_reducible refine off_ne ?_ | with_reducible refine off_lt ?_
    | intro _ | split | contradiction | dsimp only

theorem commit_mode (s : State) (h : Mode r s) : Mode r (State.commit s) := by
  unfold State.commit
  try extract_lets
  repeat' first
    | with_reducible assumption | with_reducible apply raise_mode | with_reducible apply setRegBit_mode | with_reducible apply updRtc_mode
    | with_reducible apply bump_mode | with_reducible apply almFire_mode | with_reducible apply foldl_mode | with_reducible apply ite_mode | decide
    | with_reducible refine off_ne ?_ | with_reducible refine off_lt ?_ | intro _ | split | contradiction | dsimp only

theorem rtcEdge_mode (s : State) (h : Mode r s) : Mode r (State.rtcEdge s) := by
  unfold State.rtcEdge
  try extract_lets
  repeat' first
    | with_reducible assumption | with_reducible apply shiftBegin_mode | with_reducible apply commit_mode | with_reducible apply rtcRun_mode
    | with_reducible apply foldl_mode | with_reducible apply ite_mode | decide | with_reducible refine off_ne ?_ | with_reducible refine off_lt ?_
    | intro _ | split | contradiction | dsimp only

theorem wakes_mode (s : State) (k : Nat) (h : Mode r s) : Mode r (State.wakes s k) := by
  unfold State.wakes
  try extract_lets
  repeat' first
    | with_reducible assumption | with_reducible apply bumpBy_mode | with_reducible apply raise_mode | with_reducible apply emitOut_mode
    | with_reducible apply updRtc_mode | with_reducible apply foldl_mode | with_reducible apply ite_mode | decide | with_reducible refine off_ne ?_
    | with_reducible refine off_lt ?_ | intro _ | split | contradiction | dsimp only

theorem wakeRun_mode (s : State) (n : Nat) (h : Mode r s) : Mode r (State.wakeRun s n) := by
  unfold State.wakeRun
  try extract_lets
  repeat' first
    | with_reducible assumption | with_reducible apply updRtc_mode | with_reducible apply wakes_mode | with_reducible apply foldl_mode
    | with_reducible apply ite_mode | decide | with_reducible refine off_ne ?_ | with_reducible refine off_lt ?_ | intro _ | split | contradiction
    | dsimp only

theorem vbkRun_mode (s : State) (n : Nat) (h : Mode r s) : Mode r (State.vbkRun s n) := by
  unfold State.vbkRun
  try extract_lets
  repeat' first
    | with_reducible assumption | with_reducible apply updRtc_mode | with_reducible apply draw_mode
    | (with_reducible refine Eq.mp (congrArg (Mode r) (congrArg Prod.snd ‹_ = (_, _)›)) (draw_mode ..)) | with_reducible apply setReg_mode
    | with_reducible apply foldl_mode | with_reducible apply ite_mode | decide | with_reducible refine off_ne ?_ | with_reducible refine off_lt ?_
    | intro _ | split | contradiction | dsimp only

theorem rtcEdges_mode (s : State) (a1 : Nat) (h : Mode r s) : Mode r (State.rtcEdges s a1) := by
  unfold State.rtcEdges
  try extract_lets
  repeat' first
    | with_reducible assumption | with_reducible apply rtcRun_mode | with_reducible apply rtcEdge_mode | with_reducible apply foldl_mode
    | with_reducible apply ite_mode | decide | with_reducible refine off_ne ?_ | with_reducible refine off_lt ?_ | intro _ | split | contradiction
    | dsimp only

theorem rtcElapse_mode (s : State) (n : Nat) (h : Mode r s) : Mode r (State.rtcElapse s n) := by
  unfold State.rtcElapse
  try extract_lets
  repeat' first
    | with_reducible assumption | with_reducible apply vbkRun_mode | with_reducible apply wakeRun_mode | with_reducible apply rtcEdges_mode
    | with_reducible apply foldl_mode | with_reducible apply ite_mode | decide | with_reducible refine off_ne ?_ | with_reducible refine off_lt ?_
    | intro _ | split | contradiction | dsimp only

theorem legSet_mode (s : State) (h : Mode r s) : Mode r (State.legSet s) := by
  unfold State.legSet
  try extract_lets
  repeat' first
    | with_reducible assumption | with_reducible apply ignored_mode | with_reducible apply bump_mode | with_reducible apply setRegBit_mode
    | with_reducible apply updRtc_mode | with_reducible apply foldl_mode | with_reducible apply ite_mode | decide | with_reducible refine off_ne ?_
    | with_reducible refine off_lt ?_ | intro _ | split | contradiction | dsimp only

theorem switchOver_mode (s : State) (h : Mode r s) : Mode r (State.switchOver s) := by
  unfold State.switchOver
  try extract_lets
  repeat' first
    | with_reducible assumption | with_reducible apply setReg_mode | with_reducible apply emitOut_mode | with_reducible apply updRtc_mode
    | with_reducible apply bump_mode | with_reducible apply foldl_mode | with_reducible apply ite_mode | decide | with_reducible refine off_ne ?_
    | with_reducible refine off_lt ?_ | intro _ | split | contradiction | dsimp only

theorem switchBack_mode (s : State) (h : Mode r s) : Mode r (State.switchBack s) := by
  unfold State.switchBack
  try extract_lets
  repeat' first
    | with_reducible assumption | with_reducible apply updRtc_mode | with_reducible apply raise_mode | with_reducible apply foldl_mode
    | with_reducible apply ite_mode | decide | with_reducible refine off_ne ?_ | with_reducible refine off_lt ?_ | intro _ | split | contradiction
    | dsimp only

theorem backupLost_mode (s : State) (h : Mode r s) : Mode r s.backupLost :=
  filter_mode s _ h (fun _ => rfl) _ rfl

theorem setNow_mode (s : State) (h : Mode r s) : Mode r (State.setNow s) := by
  unfold State.setNow
  try extract_lets
  repeat' first
    | with_reducible assumption | with_reducible apply updRtc_mode | with_reducible apply ignored_mode | with_reducible apply foldl_mode
    | with_reducible apply ite_mode | decide | with_reducible refine off_ne ?_ | with_reducible refine off_lt ?_ | intro _ | split | contradiction
    | dsimp only

theorem clearSwo_mode (s : State) (h : Mode r s) : Mode r (State.clearSwo s) := by
  unfold State.clearSwo
  try extract_lets
  repeat' first
    | with_reducible assumption | with_reducible apply setRegBit_mode | with_reducible apply ignored_mode | with_reducible apply foldl_mode
    | with_reducible apply ite_mode | decide | with_reducible refine off_ne ?_ | with_reducible refine off_lt ?_ | intro _ | split | contradiction
    | dsimp only

theorem shiftWrite_mode (s : State) (v : U32) (h : Mode r s) : Mode r (State.shiftWrite s v) := by
  unfold State.shiftWrite
  try extract_lets
  repeat' first
    | with_reducible assumption | with_reducible apply ignored_mode | with_reducible apply raise_mode | with_reducible apply updRtc_mode
    | with_reducible apply foldl_mode | with_reducible apply ite_mode | decide | with_reducible refine off_ne ?_ | with_reducible refine off_lt ?_
    | intro _ | split | contradiction | dsimp only

theorem wakeCtl_mode (s : State) (v : U32) (h : Mode r s) : Mode r (State.wakeCtl s v) := by
  unfold State.wakeCtl
  try extract_lets
  repeat' first
    | with_reducible assumption | with_reducible apply ignored_mode | with_reducible apply setReg_mode | with_reducible apply updRtc_mode
    | with_reducible apply foldl_mode | with_reducible apply ite_mode | decide | with_reducible refine off_ne ?_ | with_reducible refine off_lt ?_
    | intro _ | split | contradiction | dsimp only

theorem cellLevel_mode (s : State) (high : Bool) (h : Mode r s) : Mode r (State.cellLevel s high) := by
  unfold State.cellLevel
  try extract_lets
  repeat' first
    | with_reducible assumption | with_reducible apply updRtc_mode | with_reducible apply foldl_mode | with_reducible apply ite_mode | decide
    | with_reducible refine off_ne ?_ | with_reducible refine off_lt ?_ | intro _ | split | contradiction | dsimp only

theorem trickleWrite_mode (s : State) (v : U32) (h : Mode r s) : Mode r (State.trickleWrite s v) := by
  unfold State.trickleWrite
  try extract_lets
  repeat' first
    | with_reducible assumption | with_reducible apply ignored_mode | with_reducible apply setReg_mode | with_reducible apply foldl_mode
    | with_reducible apply ite_mode | decide | with_reducible refine off_ne ?_ | with_reducible refine off_lt ?_ | intro _ | split | contradiction
    | dsimp only

theorem dstWrite_mode (s : State) (on : Bool) (h : Mode r s) : Mode r (State.dstWrite s on) := by
  unfold State.dstWrite
  try extract_lets
  repeat' first
    | with_reducible assumption | with_reducible apply ignored_mode | with_reducible apply updRtc_mode | with_reducible apply foldl_mode
    | with_reducible apply ite_mode | decide | with_reducible refine off_ne ?_ | with_reducible refine off_lt ?_ | intro _ | split | contradiction
    | dsimp only

theorem almCtl_mode (s : State) (v : U32) (h : Mode r s) : Mode r (State.almCtl s v) := by
  unfold State.almCtl
  try extract_lets
  repeat' first
    | with_reducible assumption | with_reducible apply ignored_mode | with_reducible apply setRegBit_mode | with_reducible apply almFire_mode
    | with_reducible apply setReg_mode | with_reducible apply foldl_mode | with_reducible apply ite_mode | decide | with_reducible refine off_ne ?_
    | with_reducible refine off_lt ?_ | intro _ | split | contradiction | dsimp only

theorem fracRead_mode (s : State) (h : Mode r s) : Mode r (State.fracRead s) := by
  unfold State.fracRead
  try extract_lets
  repeat' first
    | with_reducible assumption | with_reducible apply updRtc_mode | with_reducible apply foldl_mode | with_reducible apply ite_mode | decide
    | with_reducible refine off_ne ?_ | with_reducible refine off_lt ?_ | intro _ | split | contradiction | dsimp only | refine Mode.upd ?_

theorem secHiRead_mode (s : State) (h : Mode r s) : Mode r (State.secHiRead s) := by
  unfold State.secHiRead
  try extract_lets
  repeat' first
    | with_reducible assumption | with_reducible apply updRtc_mode | with_reducible apply foldl_mode | with_reducible apply ite_mode | decide
    | with_reducible refine off_ne ?_ | with_reducible refine off_lt ?_ | intro _ | split | contradiction | dsimp only | refine Mode.upd ?_

theorem legSecRead_mode (s : State) (h : Mode r s) : Mode r (State.legSecRead s) := by
  unfold State.legSecRead
  try extract_lets
  repeat' first
    | with_reducible assumption | with_reducible apply updRtc_mode | with_reducible apply foldl_mode | with_reducible apply ite_mode | decide
    | with_reducible refine off_ne ?_ | with_reducible refine off_lt ?_ | intro _ | split | contradiction | dsimp only | refine Mode.upd ?_

theorem legYearRead_mode (s : State) (h : Mode r s) : Mode r (State.legYearRead s) := by
  unfold State.legYearRead
  try extract_lets
  repeat' first
    | with_reducible assumption | with_reducible apply updRtc_mode | with_reducible apply foldl_mode | with_reducible apply ite_mode | decide
    | with_reducible refine off_ne ?_ | with_reducible refine off_lt ?_ | intro _ | split | contradiction | dsimp only | refine Mode.upd ?_

theorem cellGoesHigh_mode (s : State) (h : Mode r s) : Mode r (State.cellGoesHigh s) := by
  unfold State.cellGoesHigh
  try extract_lets
  repeat' first
    | with_reducible assumption | with_reducible apply cellLevel_mode | with_reducible apply raise_mode | with_reducible apply setRegBit_mode
    | with_reducible apply foldl_mode | with_reducible apply ite_mode | decide | with_reducible refine off_ne ?_ | with_reducible refine off_lt ?_
    | intro _ | split | contradiction | dsimp only

theorem updPanel_mode (s : State) (f : Panel → Panel) (h : Mode r s) : Mode r (State.updPanel s f) := by
  unfold State.updPanel
  try extract_lets
  repeat' first
    | with_reducible assumption | with_reducible apply foldl_mode | with_reducible apply ite_mode | decide | with_reducible refine off_ne ?_
    | with_reducible refine off_lt ?_ | intro _ | split | contradiction | dsimp only | refine Mode.upd ?_

theorem flipNow_mode (s : State) (h : Mode r s) : Mode r (State.flipNow s) := by
  unfold State.flipNow
  try extract_lets
  repeat' first
    | with_reducible assumption | with_reducible apply updPanel_mode | with_reducible apply raise_mode | with_reducible apply bump_mode
    | with_reducible apply finish_mode | with_reducible apply foldl_mode | with_reducible apply ite_mode | decide | with_reducible refine off_ne ?_
    | with_reducible refine off_lt ?_ | intro _ | split | contradiction | dsimp only

theorem scanStop_mode (s : State) (h : Mode r s) : Mode r (State.scanStop s) := by
  unfold State.scanStop
  try extract_lets
  repeat' first
    | with_reducible assumption | with_reducible apply updPanel_mode | with_reducible apply foldl_mode | with_reducible apply ite_mode | decide
    | with_reducible refine off_ne ?_ | with_reducible refine off_lt ?_ | intro _ | split | contradiction | dsimp only

theorem panelCtl_mode (s : State) (h : Mode r s) : Mode r (State.panelCtl s) := by
  unfold State.panelCtl
  try extract_lets
  repeat' first
    | with_reducible assumption | with_reducible apply scanStop_mode | with_reducible apply foldl_mode | with_reducible apply ite_mode | decide
    | with_reducible refine off_ne ?_ | with_reducible refine off_lt ?_ | intro _ | split | contradiction | dsimp only

theorem frame_mode (s : State) (h : Mode r s) : Mode r (State.frame s) := by
  unfold State.frame
  dsimp only
  repeat' first
    | with_reducible assumption | with_reducible apply emitOut_mode | with_reducible apply updPanel_mode | with_reducible apply bump_mode
    | with_reducible apply setReg_mode | with_reducible apply setRegFld_mode | with_reducible apply flipNow_mode | with_reducible apply foldl_mode
    | with_reducible apply ite_mode | decide | with_reducible refine off_ne ?_ | with_reducible refine off_lt ?_ | intro _ | split | contradiction
    | dsimp only

theorem panelFlip_mode (s : State) (img : Image) (d : Desc) (h : Mode r s) : Mode r (State.panelFlip s img d) := by
  unfold State.panelFlip
  try extract_lets
  repeat' first
    | with_reducible assumption | with_reducible apply done_mode | with_reducible apply tarnStore_mode | with_reducible apply defer_mode
    | with_reducible apply updPanel_mode | with_reducible apply foldl_mode | with_reducible apply ite_mode | decide | with_reducible refine off_ne ?_
    | with_reducible refine off_lt ?_ | intro _ | split | contradiction | dsimp only

theorem panelTemp_mode (s : State) (p : PanelTemp) (h : Mode r s) : Mode r (State.panelTemp s p) := by
  unfold State.panelTemp
  try extract_lets
  repeat' first
    | with_reducible assumption | with_reducible apply draw_mode
    | (with_reducible refine Eq.mp (congrArg (Mode r) (congrArg Prod.snd ‹_ = (_, _)›)) (draw_mode ..)) | with_reducible apply bump_mode
    | with_reducible apply raise_mode | with_reducible apply setRegFld_mode | with_reducible apply setReg_mode | with_reducible apply updPanel_mode
    | with_reducible apply foldl_mode | with_reducible apply ite_mode | decide | with_reducible refine off_ne ?_ | with_reducible refine off_lt ?_
    | intro _ | split | contradiction | dsimp only | refine Mode.upd ?_

theorem freezeLil_mode (s : State) (h : Mode r s) : Mode r (State.freezeLil s) := by
  unfold State.freezeLil
  try extract_lets
  repeat' first
    | with_reducible assumption | with_reducible apply updRtc_mode | with_reducible apply foldl_mode | with_reducible apply ite_mode | decide
    | with_reducible refine off_ne ?_ | with_reducible refine off_lt ?_ | intro _ | split | contradiction | dsimp only

theorem redraw_mode (s : State) (h : Mode r s) : Mode r (State.redraw s) := by
  unfold State.redraw
  try extract_lets
  repeat' first
    | with_reducible assumption | with_reducible apply freezeLil_mode | with_reducible apply tarnStore_mode | with_reducible apply updPanel_mode
    | with_reducible apply setReg_mode | with_reducible apply raise_mode | with_reducible apply foldl_mode | with_reducible apply ite_mode | decide
    | with_reducible refine off_ne ?_ | with_reducible refine off_lt ?_ | intro _ | split | contradiction | dsimp only

theorem tmoLow_mode (s : State) (h : Mode r s) : Mode r (State.tmoLow s) := by
  unfold State.tmoLow
  try extract_lets
  repeat' first
    | with_reducible assumption | with_reducible apply emitOut_mode | with_reducible apply foldl_mode | with_reducible apply ite_mode | decide
    | with_reducible refine off_ne ?_ | with_reducible refine off_lt ?_ | intro _ | split | contradiction | dsimp only

theorem bootRom_mode (s : State) (good : Nat → Bool) (h : Mode r s) : Mode r (State.bootRom s good).2 := by
  unfold State.bootRom
  try extract_lets
  repeat' first
    | with_reducible assumption | with_reducible apply writeDone_mode | with_reducible apply writeBoot_mode | with_reducible apply foldl_mode
    | with_reducible apply ite_mode | decide | with_reducible refine off_ne ?_ | with_reducible refine off_lt ?_ | intro _ | split | contradiction
    | dsimp only

theorem bootChosen_mode (s : State) (b : BootChoice) (h : Mode r s) : Mode r (State.bootChosen s b) := by
  unfold State.bootChosen
  try extract_lets
  repeat' first
    | with_reducible assumption | with_reducible apply setReg_mode | with_reducible apply eraseResume_mode | with_reducible apply bump_mode
    | with_reducible apply raise_mode | with_reducible apply foldl_mode | with_reducible apply ite_mode | decide | with_reducible refine off_ne ?_
    | with_reducible refine off_lt ?_ | intro _ | split | contradiction | dsimp only | refine Mode.upd ?_

theorem setFmode_mode (s : State) (h : Mode r s) : Mode r (State.setFmode s) := by
  unfold State.setFmode
  try extract_lets
  repeat' first
    | with_reducible assumption | with_reducible apply setRegFld_mode | with_reducible apply updOutlet_mode | with_reducible apply setReg_mode
    | with_reducible apply foldl_mode | with_reducible apply ite_mode | decide | with_reducible refine off_ne ?_ | with_reducible refine off_lt ?_
    | intro _ | split | contradiction | dsimp only

theorem factoryClock_mode (s : State) (h : Mode r s) : Mode r (State.factoryClock s) := by
  unfold State.factoryClock
  try extract_lets
  repeat' first
    | with_reducible assumption | with_reducible apply setReg_mode | with_reducible apply foldl_mode | with_reducible apply ite_mode | decide
    | with_reducible refine off_ne ?_ | with_reducible refine off_lt ?_ | intro _ | split | contradiction | dsimp only

theorem takeIdentity_mode (s : State) (answers : Bool) (h : Mode r s) : Mode r (s.takeIdentity answers) := by
  unfold State.takeIdentity
  generalize (if answers then s.slotRecord else none) = x0
  extract_lets x slotId s1 lock s2 rev s3 s4 s5
  have h1 : Mode r s1 := setSs_mode _ _ h
  have h2 : Mode r s2 := ite_mode _ _ _ (fun _ => logReplacement_mode _ _ h1) (fun _ => h1)
  have h4 : Mode r s4 := setReg_mode s3 _ _ (h2.upd) (by decide)
  refine setFmode_mode _ ?_
  clear_value s4
  clear h1 h2
  simp only [s5]
  clear_value lock
  clear_value x
  cases x
  · exact setReg_mode _ _ _ (setReg_mode _ _ _ (factoryClock_mode _ h4) (by decide)) (by decide)
  · exact setReg_mode _ _ _ (setReg_mode _ _ _ (loadIdentity_mode _ _ h4) (by decide)) (by decide)

theorem selfTested_mode (s : State) (t : SelfTest) (h : Mode r s) : Mode r (State.selfTested s t) := by
  unfold State.selfTested
  try extract_lets
  repeat' first
    | with_reducible assumption | with_reducible apply setReg_mode | with_reducible apply updDio_mode | with_reducible apply setCanStat_mode
    | with_reducible apply updPort_mode | with_reducible apply foldl_mode | with_reducible apply ite_mode | decide | with_reducible refine off_ne ?_
    | with_reducible refine off_lt ?_ | intro _ | split | contradiction | dsimp only | refine Mode.upd ?_

theorem factoryFactors_mode (s : State) (h : Mode r s) : Mode r (State.factoryFactors s) := by
  unfold State.factoryFactors
  try extract_lets
  repeat' first
    | with_reducible assumption | with_reducible apply setReg_mode | with_reducible apply foldl_mode | with_reducible apply ite_mode | decide
    | with_reducible refine off_ne ?_ | with_reducible refine off_lt ?_ | intro _ | split | contradiction | dsimp only

theorem firstCal_mode (s : State) (cal : List (Nat × Nat × F32)) (h : Mode r s) : Mode r (s.firstCal cal) := by
  unfold State.firstCal
  exact foldl_mode _ (fun s c h => ite_mode _ _ _ (fun _ => calJudge_mode _ _ _ _ h) (fun _ => h)) _ _ h

theorem convert_mode (s : State) (h : Mode r s) : Mode r (State.convert s) := by
  unfold State.convert
  try extract_lets
  repeat' first
    | with_reducible assumption | with_reducible apply updRegion_mode | with_reducible apply foldl_mode | with_reducible apply ite_mode | decide
    | with_reducible refine off_ne ?_ | with_reducible refine off_lt ?_ | intro _ | split | contradiction | dsimp only | refine Mode.upd ?_

theorem forerunner_mode (s : State) (h : Mode r s) : Mode r (State.forerunner s) := by
  unfold State.forerunner
  try extract_lets
  repeat' first
    | with_reducible assumption | with_reducible apply tarnStore_mode | with_reducible apply setScan_mode | with_reducible apply foldl_mode
    | with_reducible apply ite_mode | decide | with_reducible refine off_ne ?_ | with_reducible refine off_lt ?_ | intro _ | split | contradiction
    | dsimp only

theorem seedTime_mode (s : State) (h : Mode r s) : Mode r (State.seedTime s) := by
  unfold State.seedTime
  try extract_lets
  repeat' first
    | with_reducible assumption | with_reducible apply foldl_mode | with_reducible apply ite_mode | decide | with_reducible refine off_ne ?_
    | with_reducible refine off_lt ?_ | intro _ | split | contradiction | dsimp only | refine Mode.upd ?_

theorem panelOut_mode (s : State) (h : Mode r s) : Mode r (State.panelOut s) := by
  unfold State.panelOut
  try extract_lets
  repeat' first
    | with_reducible assumption | with_reducible apply emitOut_mode | with_reducible apply foldl_mode | with_reducible apply ite_mode | decide
    | with_reducible refine off_ne ?_ | with_reducible refine off_lt ?_ | intro _ | split | contradiction | dsimp only

theorem tmosLoaded_mode (s : State) (h : Mode r s) : Mode r (State.tmosLoaded s) := by
  unfold State.tmosLoaded
  try extract_lets
  repeat' first
    | with_reducible assumption | with_reducible apply tmoPin_mode | with_reducible apply tmoArm_mode | with_reducible apply foldl_mode
    | with_reducible apply ite_mode | decide | with_reducible refine off_ne ?_ | with_reducible refine off_lt ?_ | intro _ | split | contradiction
    | dsimp only

theorem cmdIgnored_mode (s : State) (h : Mode r s) : Mode r (State.cmdIgnored s) := by
  unfold State.cmdIgnored
  try extract_lets
  repeat' first
    | with_reducible assumption | with_reducible apply ignored_mode | with_reducible apply foldl_mode | with_reducible apply ite_mode | decide
    | with_reducible refine off_ne ?_ | with_reducible refine off_lt ?_ | intro _ | split | contradiction | dsimp only

theorem ssDone_mode (s : State) (h : Mode r s) : Mode r (State.ssDone s) := by
  unfold State.ssDone
  try extract_lets
  repeat' first
    | with_reducible assumption | with_reducible apply raise_mode | with_reducible apply foldl_mode | with_reducible apply ite_mode | decide
    | with_reducible refine off_ne ?_ | with_reducible refine off_lt ?_ | intro _ | split | contradiction | dsimp only

theorem commissionNow_mode (s : State) (h : Mode r s) : Mode r (State.commissionNow s) := by
  unfold State.commissionNow
  try extract_lets
  repeat' first
    | with_reducible assumption | with_reducible apply cmdIgnored_mode | with_reducible apply writeSlot_mode | with_reducible apply takeDigest_mode
    | with_reducible apply setSs_mode | with_reducible apply ssDone_mode | with_reducible apply startBase_mode | with_reducible apply foldl_mode
    | with_reducible apply ite_mode | decide | with_reducible refine off_ne ?_ | with_reducible refine off_lt ?_ | intro _ | split | contradiction
    | dsimp only

theorem verifyNow_mode (s : State) (h : Mode r s) : Mode r (State.verifyNow s) := by
  unfold State.verifyNow
  try extract_lets
  repeat' first
    | with_reducible assumption | with_reducible apply cmdIgnored_mode | with_reducible apply ssDone_mode | with_reducible apply takeDigest_mode
    | with_reducible apply foldl_mode | with_reducible apply ite_mode | decide | with_reducible refine off_ne ?_ | with_reducible refine off_lt ?_
    | intro _ | split | contradiction | dsimp only

theorem acceptNow_mode (s : State) (h : Mode r s) : Mode r (State.acceptNow s) := by
  unfold State.acceptNow
  try extract_lets
  repeat' first
    | with_reducible assumption | with_reducible apply cmdIgnored_mode | with_reducible apply ssDone_mode | with_reducible apply setSs_mode
    | with_reducible apply writeSlot_mode | with_reducible apply foldl_mode | with_reducible apply ite_mode | decide | with_reducible refine off_ne ?_
    | with_reducible refine off_lt ?_ | intro _ | split | contradiction | dsimp only

theorem bypassNow_mode (s : State) (h : Mode r s) : Mode r (State.bypassNow s) := by
  unfold State.bypassNow
  try extract_lets
  repeat' first
    | with_reducible assumption | with_reducible apply cmdIgnored_mode | with_reducible apply setSs_mode | with_reducible apply foldl_mode
    | with_reducible apply ite_mode | decide | with_reducible refine off_ne ?_ | with_reducible refine off_lt ?_ | intro _ | split | contradiction
    | dsimp only

theorem startService_mode (s : State) (e : EngineId) (pass : Bool) (h : Mode r s) : Mode r (State.startService s e pass) := by
  unfold State.startService
  try extract_lets
  repeat' first
    | with_reducible assumption | with_reducible apply updEng_mode | with_reducible apply recordFailure_mode | with_reducible apply foldl_mode
    | with_reducible apply ite_mode | decide | with_reducible refine off_ne ?_ | with_reducible refine off_lt ?_ | intro _ | split | contradiction
    | dsimp only

theorem dropHeld_mode (s : State) (h : Mode r s) : Mode r (State.dropHeld s) := by
  unfold State.dropHeld
  try extract_lets
  repeat' first
    | with_reducible assumption | with_reducible apply updHif_mode | with_reducible apply updSpawn_mode | with_reducible apply setRegFld_mode
    | with_reducible apply foldl_mode | with_reducible apply ite_mode | decide | with_reducible refine off_ne ?_ | with_reducible refine off_lt ?_
    | intro _ | split | contradiction | dsimp only | refine Mode.upd ?_

theorem lanesStart_mode (s : State) (h : Mode r s) : Mode r s.lanesStart := by
  unfold State.lanesStart
  extract_lets x
  have hx : Mode r x := lanesEnd_mode _ _ h
  clear_value x
  exact hx.upd

theorem lanesResume_mode (s : State) (h : Mode r s) : Mode r (State.lanesResume s) := by
  unfold State.lanesResume
  try extract_lets
  repeat' first
    | with_reducible assumption | with_reducible apply updDef_mode | with_reducible apply lanesEnd_mode | with_reducible apply foldl_mode
    | with_reducible apply ite_mode | decide | with_reducible refine off_ne ?_ | with_reducible refine off_lt ?_ | intro _ | split | contradiction
    | dsimp only

theorem firstRecords_mode (s : State) (h : Mode r s) : Mode r s.firstRecords := by
  unfold State.firstRecords
  split
  · extract_lets src
    have h1 := takeSsn_mode s src h
    rcases e : s.takeSsn src with ⟨n, u⟩
    rw [e] at h1
    exact (setRegBit_mode _ _ _ _ (setCap_mode _ _ (updSpawn_mode u _ h1)) (by decide)).upd
  · have h1 := statusRec_mode s h
    rcases e : s.statusRec with ⟨n, u⟩
    rw [e] at h1
    exact h1.upd

theorem noteBad_mode (s : State) (h : Mode r s) : Mode r (State.noteBad s) := by
  unfold State.noteBad
  try extract_lets
  repeat' first
    | with_reducible assumption | with_reducible apply setReg_mode | with_reducible apply foldl_mode | with_reducible apply ite_mode | decide
    | with_reducible refine off_ne ?_ | with_reducible refine off_lt ?_ | intro _ | split | contradiction | dsimp only

theorem drainRound_mode (s : State) (h : Mode r s) : Mode r (State.drainRound s) := by
  unfold State.drainRound
  try extract_lets
  repeat' first
    | with_reducible assumption | with_reducible apply takeCkpt_mode | with_reducible apply eccFault_mode | with_reducible apply configBarrier_mode
    | with_reducible apply evalNext_mode | with_reducible apply foldl_mode | with_reducible apply ite_mode | decide | with_reducible refine off_ne ?_
    | with_reducible refine off_lt ?_ | intro _ | split | contradiction | dsimp only

theorem drainEvents_mode (s : State) (h : Mode r s) : Mode r (State.drainEvents s) := by
  unfold State.drainEvents
  try extract_lets
  repeat' first
    | with_reducible assumption | with_reducible apply release_mode | with_reducible apply copyArrives_mode | with_reducible apply foldl_mode
    | with_reducible apply ite_mode | decide | with_reducible refine off_ne ?_ | with_reducible refine off_lt ?_ | intro _ | split | contradiction
    | dsimp only

theorem captureStop_mode (s : State) (h : Mode r s) : Mode r (State.captureStop s) := by
  unfold State.captureStop
  try extract_lets
  repeat' first
    | with_reducible assumption | with_reducible apply splitApply_mode | with_reducible apply endContinuous_mode
    | with_reducible apply copyComplete_mode | with_reducible apply stopCapture_mode | with_reducible apply foldl_mode | with_reducible apply ite_mode
    | decide | with_reducible refine off_ne ?_ | with_reducible refine off_lt ?_ | intro _ | split | contradiction | dsimp only

theorem unitsStop_mode (s : State) (h : Mode r s) : Mode r (State.unitsStop s) := by
  unfold State.unitsStop
  try extract_lets
  repeat' first
    | with_reducible assumption | with_reducible apply rxFlush_mode | with_reducible apply lanesEnd_mode | with_reducible apply canStop_mode
    | with_reducible apply setAsymRun_mode | with_reducible apply foldl_mode | with_reducible apply ite_mode | decide
    | with_reducible refine off_ne ?_ | with_reducible refine off_lt ?_ | intro _ | split | contradiction | dsimp only | refine Mode.upd ?_

theorem admitBegun_mode (s : State) (h : Mode r s) : Mode r s.admitBegun := by
  unfold State.admitBegun
  split
  · refine ite_mode _ _ _ (fun _ => h) fun _ => foldl_mode _ (fun s x h => ?_) _ _ h
    have h1 : Mode r (if s.heldByEngines then s.drainRound else s) := ite_mode _ _ _ (fun _ => drainRound_mode _ h) (fun _ => h)
    exact ite_mode _ _ _ (fun _ => admitCmd_mode _ h1) (fun _ => h1)
  · exact h

theorem fmodeWrite_mode (s : State) (v : U32) (h : Mode r s) : Mode r (State.fmodeWrite s v) := by
  unfold State.fmodeWrite
  try extract_lets
  repeat' first
    | with_reducible assumption | with_reducible apply ignored_mode | with_reducible apply setDirty_mode | with_reducible apply setFmode_mode
    | with_reducible apply setRegFld_mode | with_reducible apply forerunner_mode | with_reducible apply foldl_mode | with_reducible apply ite_mode
    | decide | with_reducible refine off_ne ?_ | with_reducible refine off_lt ?_ | intro _ | split | contradiction | dsimp only

theorem intRearm_mode (s : State) (h : Mode r s) : Mode r (State.intRearm s) := by
  unfold State.intRearm
  try extract_lets
  repeat' first
    | with_reducible assumption | with_reducible apply hifMessage_mode | with_reducible apply foldl_mode | with_reducible apply ite_mode | decide
    | with_reducible refine off_ne ?_ | with_reducible refine off_lt ?_ | intro _ | split | contradiction | dsimp only

theorem intEnWrite_mode (s : State) (v : U32) (h : Mode r s) : Mode r (State.intEnWrite s v) := by
  unfold State.intEnWrite
  try extract_lets
  repeat' first
    | with_reducible assumption | with_reducible apply summarise_mode | with_reducible apply setReg_mode | with_reducible apply foldl_mode
    | with_reducible apply ite_mode | decide | with_reducible refine off_ne ?_ | with_reducible refine off_lt ?_ | intro _ | split | contradiction
    | dsimp only

theorem updUpd_mode (s : State) (f : Upd → Upd) (h : Mode r s) : Mode r (State.updUpd s f) := by
  unfold State.updUpd
  try extract_lets
  repeat' first
    | with_reducible assumption | with_reducible apply foldl_mode | with_reducible apply ite_mode | decide | with_reducible refine off_ne ?_
    | with_reducible refine off_lt ?_ | intro _ | split | contradiction | dsimp only | refine Mode.upd ?_

theorem clearBits_mode (s : State) (f : Nat → Bool) (h : Mode r s) : Mode r (State.clearBits s f) := by
  unfold State.clearBits
  try extract_lets
  repeat' first
    | with_reducible assumption | with_reducible apply updNvm_mode | with_reducible apply countErases_mode | with_reducible apply foldl_mode
    | with_reducible apply ite_mode | decide | with_reducible refine off_ne ?_ | with_reducible refine off_lt ?_ | intro _ | split | contradiction
    | dsimp only

theorem setBits_mode (s : State) (p : Nat) (h : Mode r s) : Mode r (State.setBits s p) := by
  unfold State.setBits
  try extract_lets
  repeat' first
    | with_reducible assumption | with_reducible apply updNvm_mode | with_reducible apply foldl_mode | with_reducible apply ite_mode | decide
    | with_reducible refine off_ne ?_ | with_reducible refine off_lt ?_ | intro _ | split | contradiction | dsimp only

theorem endSession_mode (s : State) (h : Mode r s) : Mode r (State.endSession s) := by
  unfold State.endSession
  try extract_lets
  repeat' first
    | with_reducible assumption | with_reducible apply setSes_mode | with_reducible apply updUpd_mode | with_reducible apply clearBits_mode
    | with_reducible apply foldl_mode | with_reducible apply ite_mode | decide | with_reducible refine off_ne ?_ | with_reducible refine off_lt ?_
    | intro _ | split | contradiction | dsimp only

theorem bootActive_mode (s : State) (h : Mode r s) : Mode r (State.bootActive s) := by
  unfold State.bootActive
  try extract_lets
  repeat' first
    | with_reducible assumption | with_reducible apply writeBoot_mode | with_reducible apply foldl_mode | with_reducible apply ite_mode | decide
    | with_reducible refine off_ne ?_ | with_reducible refine off_lt ?_ | intro _ | split | contradiction | dsimp only

theorem updBegin_mode (s : State) (d : Desc) (h : Mode r s) : Mode r (State.updBegin s d) := by
  unfold State.updBegin
  try extract_lets
  repeat' first
    | with_reducible assumption | with_reducible apply done_mode | with_reducible apply bootActive_mode | with_reducible apply writeSes_mode
    | with_reducible apply countErase_mode | with_reducible apply clearBits_mode | with_reducible apply updSlot_mode
    | with_reducible apply updUpd_mode | with_reducible apply writeDone_mode | with_reducible apply setSes_mode | with_reducible apply foldl_mode
    | with_reducible apply ite_mode | decide | with_reducible refine off_ne ?_ | with_reducible refine off_lt ?_ | intro _ | split | contradiction
    | dsimp only

theorem pieceReject_mode (s : State) (p : Nat) (reason : Nat) (h : Mode r s) : Mode r (State.pieceReject s p reason) := by
  unfold State.pieceReject
  try extract_lets
  repeat' first
    | with_reducible assumption | with_reducible apply setReg_mode | with_reducible apply raise_mode | with_reducible apply bump_mode
    | with_reducible apply foldl_mode | with_reducible apply ite_mode | decide | with_reducible refine off_ne ?_ | with_reducible refine off_lt ?_
    | intro _ | split | contradiction | dsimp only

theorem pieceReceived_mode (s : State) (data : Image) (h : Mode r s) : Mode r (State.pieceReceived s data) := by
  unfold State.pieceReceived
  try extract_lets
  repeat' first
    | with_reducible assumption | with_reducible apply takeHead_mode | with_reducible apply readBuffer_mode | with_reducible apply pieceReject_mode
    | with_reducible apply bump_mode | with_reducible apply updUpd_mode | with_reducible apply foldl_mode | with_reducible apply ite_mode | decide
    | with_reducible refine off_ne ?_ | with_reducible refine off_lt ?_ | intro _ | split | contradiction | dsimp only

theorem dropBuf_mode (s : State) (p : Nat) (h : Mode r s) : Mode r (State.dropBuf s p) := by
  unfold State.dropBuf
  try extract_lets
  repeat' first
    | with_reducible assumption | with_reducible apply updUpd_mode | with_reducible apply foldl_mode | with_reducible apply ite_mode | decide
    | with_reducible refine off_ne ?_ | with_reducible refine off_lt ?_ | intro _ | split | contradiction | dsimp only

theorem storePiece_mode (s : State) (p : Nat) (readbackOk : Bool) (h : Mode r s) : Mode r (State.storePiece s p readbackOk) := by
  unfold State.storePiece
  try extract_lets
  repeat' first
    | with_reducible assumption | with_reducible apply bump_mode | with_reducible apply dropBuf_mode | with_reducible apply countErase_mode
    | with_reducible apply updSlot_mode | with_reducible apply setBits_mode | with_reducible apply pieceReject_mode | with_reducible apply updUpd_mode
    | with_reducible apply foldl_mode | with_reducible apply ite_mode | decide | with_reducible refine off_ne ?_ | with_reducible refine off_lt ?_
    | intro _ | split | contradiction | dsimp only

theorem updStatus_mode (s : State) (writeOk : Bool) (d : Desc) (h : Mode r s) : Mode r (State.updStatus s writeOk d) := by
  unfold State.updStatus
  try extract_lets
  repeat' first
    | with_reducible assumption | with_reducible apply done_mode | with_reducible apply emitOut_mode | with_reducible apply foldl_mode
    | with_reducible apply ite_mode | decide | with_reducible refine off_ne ?_ | with_reducible refine off_lt ?_ | intro _ | split | contradiction
    | dsimp only

theorem verifyFailed_mode (s : State) (reason : Nat) (h : Mode r s) : Mode r (State.verifyFailed s reason) := by
  unfold State.verifyFailed
  try extract_lets
  repeat' first
    | with_reducible assumption | with_reducible apply raise_mode | with_reducible apply bump_mode | with_reducible apply updUpd_mode
    | with_reducible apply foldl_mode | with_reducible apply ite_mode | decide | with_reducible refine off_ne ?_ | with_reducible refine off_lt ?_
    | intro _ | split | contradiction | dsimp only

theorem updVerify_mode (s : State) (d : Desc) (h : Mode r s) : Mode r (State.updVerify s d) := by
  unfold State.updVerify
  try extract_lets
  repeat' first
    | with_reducible assumption | with_reducible apply done_mode | with_reducible apply endSession_mode | with_reducible apply verifyFailed_mode
    | with_reducible apply clearBits_mode | with_reducible apply updUpd_mode | with_reducible apply raise_mode | with_reducible apply setSes_mode
    | with_reducible apply foldl_mode | with_reducible apply ite_mode | decide | with_reducible refine off_ne ?_ | with_reducible refine off_lt ?_
    | intro _ | split | contradiction | dsimp only

theorem writeReady_mode (s : State) (h : Mode r s) : Mode r (State.writeReady s) := by
  unfold State.writeReady
  try extract_lets
  repeat' first
    | with_reducible assumption | with_reducible apply writeCompletion_mode | with_reducible apply foldl_mode | with_reducible apply ite_mode | decide
    | with_reducible refine off_ne ?_ | with_reducible refine off_lt ?_ | intro _ | split | contradiction | dsimp only

theorem claimGone_mode (s : State) (h : Mode r s) : Mode r (State.claimGone s) := by
  unfold State.claimGone
  try extract_lets
  repeat' first
    | with_reducible assumption | with_reducible apply dropClaim_mode | with_reducible apply sharedOff_mode | with_reducible apply updSkink_mode
    | with_reducible apply foldl_mode | with_reducible apply ite_mode | decide | with_reducible refine off_ne ?_ | with_reducible refine off_lt ?_
    | intro _ | split | contradiction | dsimp only

theorem trialRecord_mode (s : State) (minutes : Nat) (h : Mode r s) : Mode r (State.trialRecord s minutes) := by
  unfold State.trialRecord
  try extract_lets
  repeat' first
    | with_reducible assumption | with_reducible apply updUpd_mode | with_reducible apply eraseRegion_mode | with_reducible apply writeBoot_mode
    | with_reducible apply foldl_mode | with_reducible apply ite_mode | decide | with_reducible refine off_ne ?_ | with_reducible refine off_lt ?_
    | intro _ | split | contradiction | dsimp only

theorem trialWarn_mode (s : State) (h : Mode r s) : Mode r (State.trialWarn s) := by
  unfold State.trialWarn
  try extract_lets
  repeat' first
    | with_reducible assumption | with_reducible apply raise_mode | with_reducible apply updUpd_mode | with_reducible apply foldl_mode
    | with_reducible apply ite_mode | decide | with_reducible refine off_ne ?_ | with_reducible refine off_lt ?_ | intro _ | split | contradiction
    | dsimp only

theorem updConfirm_mode (s : State) (d : Desc) (h : Mode r s) : Mode r (State.updConfirm s d) := by
  unfold State.updConfirm
  try extract_lets
  repeat' first
    | with_reducible assumption | with_reducible apply done_mode | with_reducible apply draw_mode
    | (with_reducible refine Eq.mp (congrArg (Mode r) (congrArg Prod.snd ‹_ = (_, _)›)) (draw_mode ..)) | with_reducible apply bootActive_mode
    | with_reducible apply setSes_mode | with_reducible apply revoke_mode | with_reducible apply eraseRegion_mode
    | with_reducible apply writeDone_mode | with_reducible apply updUpd_mode | with_reducible apply raise_mode | with_reducible apply foldl_mode
    | with_reducible apply ite_mode | decide | with_reducible refine off_ne ?_ | with_reducible refine off_lt ?_ | intro _ | split | contradiction
    | dsimp only

theorem converted_mode (s : State) (h : Mode r s) : Mode r (State.converted s) := by
  unfold State.converted
  try extract_lets
  repeat' first
    | with_reducible assumption | with_reducible apply convert_mode | with_reducible apply foldl_mode | with_reducible apply ite_mode | decide
    | with_reducible refine off_ne ?_ | with_reducible refine off_lt ?_ | intro _ | split | contradiction | dsimp only

theorem keyProgram_mode (s : State) (h : Mode r s) : Mode r (State.keyProgram s) := by
  unfold State.keyProgram
  try extract_lets
  repeat' first
    | with_reducible assumption | with_reducible apply ignored_mode | with_reducible apply setRegBit_mode | with_reducible apply updNvm_mode
    | with_reducible apply foldl_mode | with_reducible apply ite_mode | decide | with_reducible refine off_ne ?_ | with_reducible refine off_lt ?_
    | intro _ | split | contradiction | dsimp only

theorem keyDone_mode (s : State) (h : Mode r s) : Mode r (State.keyDone s) := by
  unfold State.keyDone
  try extract_lets
  repeat' first
    | with_reducible assumption | with_reducible apply updNvm_mode | with_reducible apply raise_mode | with_reducible apply updUpd_mode
    | with_reducible apply foldl_mode | with_reducible apply ite_mode | decide | with_reducible refine off_ne ?_ | with_reducible refine off_lt ?_
    | intro _ | split | contradiction | dsimp only

theorem updReplay_mode (s : State) (f : Replay → Replay) (h : Mode r s) : Mode r (State.updReplay s f) := by
  unfold State.updReplay
  try extract_lets
  repeat' first
    | with_reducible assumption | with_reducible apply updSpawn_mode | with_reducible apply foldl_mode | with_reducible apply ite_mode | decide
    | with_reducible refine off_ne ?_ | with_reducible refine off_lt ?_ | intro _ | split | contradiction | dsimp only

theorem setRp_mode (s : State) (st : Nat) (h : Mode r s) : Mode r (State.setRp s st) := by
  unfold State.setRp
  try extract_lets
  repeat' first
    | with_reducible assumption | with_reducible apply setRegFld_mode | with_reducible apply foldl_mode | with_reducible apply ite_mode | decide
    | with_reducible refine off_ne ?_ | with_reducible refine off_lt ?_ | intro _ | split | contradiction | dsimp only

theorem rpFail_mode (s : State) (err : Nat) (h : Mode r s) : Mode r (State.rpFail s err) := by
  unfold State.rpFail
  try extract_lets
  repeat' first
    | with_reducible assumption | with_reducible apply raise_mode | with_reducible apply setRegFld_mode | with_reducible apply setRp_mode
    | with_reducible apply foldl_mode | with_reducible apply ite_mode | decide | with_reducible refine off_ne ?_ | with_reducible refine off_lt ?_
    | intro _ | split | contradiction | dsimp only

theorem endStart_mode (s : State) (status : Nat) (result : U64) (h : Mode r s) : Mode r (State.endStart s status result) := by
  unfold State.endStart
  try extract_lets
  repeat' first
    | with_reducible assumption | with_reducible apply finish_mode | with_reducible apply foldl_mode | with_reducible apply ite_mode | decide
    | with_reducible refine off_ne ?_ | with_reducible refine off_lt ?_ | intro _ | split | contradiction | dsimp only

theorem rpError_mode (s : State) (err : Nat) (status : Nat) (h : Mode r s) : Mode r (State.rpError s err status) := by
  unfold State.rpError
  try extract_lets
  repeat' first
    | with_reducible assumption | with_reducible apply rpFail_mode | with_reducible apply endStart_mode | with_reducible apply foldl_mode
    | with_reducible apply ite_mode | decide | with_reducible refine off_ne ?_ | with_reducible refine off_lt ?_ | intro _ | split | contradiction
    | dsimp only

theorem rpClear_mode (s : State) (h : Mode r s) : Mode r s.rpClear := by
  unfold State.rpClear
  simp only [List.foldl_cons, List.foldl_nil]
  repeat' first | assumption | refine setReg_mode _ _ _ ?_ (by decide)

theorem eat_mode (s : State) (n : Nat) (h : Mode r s) : Mode r (State.eat s n) := by
  unfold State.eat
  try extract_lets
  repeat' first
    | with_reducible assumption | with_reducible apply updReplay_mode | with_reducible apply foldl_mode | with_reducible apply ite_mode | decide
    | with_reducible refine off_ne ?_ | with_reducible refine off_lt ?_ | intro _ | split | contradiction | dsimp only

theorem rpHeader_mode (s : State) (l : List Byte) (h : Mode r s) : Mode r (State.rpHeader s l) := by
  unfold State.rpHeader
  try extract_lets
  repeat' first
    | with_reducible assumption | with_reducible apply rpError_mode | with_reducible apply updReplay_mode | with_reducible apply setRegFld_mode
    | with_reducible apply eat_mode | with_reducible apply foldl_mode | with_reducible apply ite_mode | decide | with_reducible refine off_ne ?_
    | with_reducible refine off_lt ?_ | intro _ | split | contradiction | dsimp only

theorem rws_ne (o : Off) (h : isRws o = true) : o ≠ Reg.MGMT_STATE := by
  rintro rfl
  revert h
  decide

theorem loadSection_mode (s : State) (region : Nat) (l : List Byte) (h : Mode r s)
    (hl : region = 9 → (chunks 8 l).all (fun b => isRws (leAt b 0 4)) = true) : Mode r (s.loadSection region l) := by
  unfold State.loadSection
  split
  · exact statesWritten_mode _ h.upd
  · extract_lets recs g s1
    have h1 : Mode r s1 := foldl_mode _ (fun s x h => tarnStore_mode s _ _ h) _ s h
    clear_value s1
    exact statesWritten_mode _ h1.upd
  · have hl := hl rfl
    rw [List.all_eq_true] at hl
    have key : ∀ (cs : List (List Byte)) (s : State), (∀ b ∈ cs, isRws (leAt b 0 4) = true) → Mode r s →
        Mode r (cs.foldl (fun s b => s.setReg (leAt b 0 4) (u32At b 4 &&& regMask (leAt b 0 4))) s) := by
      intro cs
      induction cs with
      | nil => exact fun _ _ h => h
      | cons b cs ih =>
        intro s hb h
        exact ih _ (fun c hc => hb c (List.mem_cons_of_mem _ hc)) (setReg_mode _ _ _ h (rws_ne _ (hb b List.mem_cons_self)))
    exact pairEnabled_mode _ _ (key _ _ hl h)
  · exact tarnStore_mode _ _ _ h

theorem rpSection_mode (s t : State) (h : Mode r s) (e : s.rpSection = some t) : Mode r t := by
  unfold State.rpSection at e
  dsimp only at e
  split at e
  · cases e
  split at e
  · cases e; exact rpError_mode _ _ _ h
  split at e
  · cases e
  split at e
  · cases e; exact rpError_mode _ _ _ h
  split at e
  · cases e; exact rpError_mode _ _ _ h
  · next hc =>
    rw [Option.some.injEq] at e
    rw [← e]
    refine updReplay_mode _ _ (eat_mode _ _ (clearUe_mode _ _ _ (loadSection_mode _ _ _ h ?_)))
    intro h9
    simpa [h9] using hc

theorem rpMark_mode (s : State) (r1 : InRec) (h : Mode r s) : Mode r (State.rpMark s r1) := by
  unfold State.rpMark
  try extract_lets
  repeat' first
    | with_reducible assumption | with_reducible apply updOutlet_mode | with_reducible apply setReg_mode | with_reducible apply setPair_mode
    | with_reducible apply updReplay_mode | with_reducible apply setRp_mode | with_reducible apply endStart_mode | with_reducible apply foldl_mode
    | with_reducible apply ite_mode | decide | with_reducible refine off_ne ?_ | with_reducible refine off_lt ?_ | intro _ | split | contradiction
    | dsimp only | refine Mode.upd ?_

theorem rpBarrier_mode (s : State) (r1 : InRec) (h : Mode r s) : Mode r (State.rpBarrier s r1) := by
  unfold State.rpBarrier
  try extract_lets
  repeat' first
    | with_reducible assumption | with_reducible apply openBarrier_mode | with_reducible apply foldl_mode | with_reducible apply ite_mode | decide
    | with_reducible refine off_ne ?_ | with_reducible refine off_lt ?_ | intro _ | split | contradiction | dsimp only

theorem rpAdmit_mode (s : State) (r1 : InRec) (h : Mode r s) : Mode r (State.rpAdmit s r1) := by
  unfold State.rpAdmit
  try extract_lets
  repeat' first
    | with_reducible assumption | with_reducible apply updReplay_mode | with_reducible apply bump_mode | with_reducible apply spill_mode
    | with_reducible apply recordMax_mode | with_reducible apply rpBarrier_mode | with_reducible apply foldl_mode | with_reducible apply ite_mode
    | decide | with_reducible refine off_ne ?_ | with_reducible refine off_lt ?_ | intro _ | split | contradiction | dsimp only | refine Mode.upd ?_

theorem rpTick_mode (s : State) (x : InRec) (n : Nat) (t : State) (h : Mode r s) (e : s.rpTick x n = some t) : Mode r t := by
  unfold State.rpTick at e
  dsimp only at e
  have hp : ∀ k, Mode r ((s.eat k).rpAdmit x) := fun k => rpAdmit_mode _ _ (eat_mode _ _ h)
  have some_of : ∀ u : State, Mode r u → some u = some t → Mode r t := fun u hu e => Option.some.inj e ▸ hu
  repeat' split at e
  · exact some_of _ (hp _) e
  · cases e
  · exact some_of _ (hp _) e
  · exact some_of _ (rpError_mode _ _ _ (hp _)) e
  · cases e
  · exact some_of _ (hp _) e
  · exact some_of _ (rpError_mode _ _ _ (hp _)) e
  · exact some_of _ (updSpawn_mode _ _ (updReplay_mode _ _ (hp _))) e

theorem rpRecord_mode (s t : State) (h : Mode r s) (e : s.rpRecord = some t) : Mode r t := by
  unfold State.rpRecord at e
  dsimp only at e
  repeat' split at e
  all_goals first
    | cases e; done
    | (rw [Option.some.injEq] at e; rw [← e]; exact rpError_mode _ _ _ h)
    | exact rpTick_mode _ _ _ _ h e
    | (rw [Option.some.injEq] at e; rw [← e]; exact rpAdmit_mode _ _ (eat_mode _ _ h))

theorem rpShort_mode (s : State) (n : Nat) (t : State) (h : Mode r s) (e : s.rpShort n = some t) : Mode r t := by
  unfold State.rpShort at e
  split at e <;> cases e
  exact rpError_mode _ _ _ h

theorem rpNext_mode (s t : State) (h : Mode r s) (e : s.rpNext = some t) : Mode r t := by
  unfold State.rpNext at e
  dsimp only at e
  split at e
  · cases e
  · split at e
    · split at e
      · exact rpShort_mode _ _ _ h e
      · cases e; exact rpHeader_mode _ _ h
    · rw [Option.orElse_eq_orElse, Option.orElse_eq_or, Option.or_eq_some_iff] at e
      rcases e with e | ⟨_, e⟩
      · exact rpSection_mode _ _ h e
      · exact rpShort_mode _ _ _ h e
    · split at e
      · exact rpShort_mode _ _ _ h e
      · split at e
        · cases e; exact rpMark_mode _ _ (eat_mode _ _ h)
        · cases e; exact rpError_mode _ _ _ h
    · split at e
      · cases e
      · exact rpRecord_mode _ _ h e

theorem rpFeed_mode (n : Nat) (s : State) (h : Mode r s) : Mode r (State.rpFeed n s) := by
  induction n generalizing s with
  | zero => exact h
  | succ n ih =>
    unfold State.rpFeed
    split
    · exact h
    · next t e => exact ih _ (rpNext_mode s t h e)

theorem rpRun_mode (s : State) (h : Mode r s) : Mode r (State.rpRun s) := by
  unfold State.rpRun
  try extract_lets
  repeat' first
    | with_reducible assumption | with_reducible apply rpFeed_mode | with_reducible apply foldl_mode | with_reducible apply ite_mode | decide
    | with_reducible refine off_ne ?_ | with_reducible refine off_lt ?_ | intro _ | split | contradiction | dsimp only

theorem rpBuffer_mode (s : State) (data : Image) (h : Mode r s) : Mode r (State.rpBuffer s data) := by
  unfold State.rpBuffer
  try extract_lets
  repeat' first
    | with_reducible assumption | with_reducible apply readBuffer_mode | with_reducible apply ringError_mode | with_reducible apply takeHead_mode
    | with_reducible apply setPair_mode | with_reducible apply rpError_mode | with_reducible apply rpRun_mode | with_reducible apply updReplay_mode
    | with_reducible apply foldl_mode | with_reducible apply ite_mode | decide | with_reducible refine off_ne ?_ | with_reducible refine off_lt ?_
    | intro _ | split | contradiction | dsimp only

theorem rpMismatch_mode (s : State) (isn : U64) (bad : List Nat) (h : Mode r s) : Mode r (State.rpMismatch s isn bad) := by
  unfold State.rpMismatch
  try extract_lets
  repeat' first
    | with_reducible assumption | with_reducible apply setPair_mode | with_reducible apply setReg_mode | with_reducible apply setRegFld_mode
    | with_reducible apply raise_mode | with_reducible apply updReplay_mode | with_reducible apply foldl_mode | with_reducible apply ite_mode | decide
    | with_reducible refine off_ne ?_ | with_reducible refine off_lt ?_ | intro _ | split | contradiction | dsimp only

theorem rpCompare_mode (s : State) (h : Mode r s) : Mode r (State.rpCompare s) := by
  unfold State.rpCompare
  try extract_lets
  repeat' first
    | with_reducible assumption | with_reducible apply bump_mode | with_reducible apply updReplay_mode | with_reducible apply updSpawn_mode
    | with_reducible apply rpMismatch_mode | with_reducible apply failEngine_mode | with_reducible apply setRp_mode | with_reducible apply rpRun_mode
    | with_reducible apply foldl_mode | with_reducible apply ite_mode | decide | with_reducible refine off_ne ?_ | with_reducible refine off_lt ?_
    | intro _ | split | contradiction | dsimp only

theorem rpEnd_mode (s : State) (h : Mode r s) : Mode r (State.rpEnd s) := by
  unfold State.rpEnd
  try extract_lets
  repeat' first
    | with_reducible assumption | with_reducible apply setRp_mode | with_reducible apply raise_mode | with_reducible apply setRegFld_mode
    | with_reducible apply foldl_mode | with_reducible apply ite_mode | decide | with_reducible refine off_ne ?_ | with_reducible refine off_lt ?_
    | intro _ | split | contradiction | dsimp only

theorem eatSpawnIn_mode (s : State) (h : Mode r s) : Mode r (State.eatSpawnIn s) := by
  unfold State.eatSpawnIn
  try extract_lets
  repeat' first
    | with_reducible assumption | with_reducible apply updHif_mode | with_reducible apply advanceRing_mode | with_reducible apply foldl_mode
    | with_reducible apply ite_mode | decide | with_reducible refine off_ne ?_ | with_reducible refine off_lt ?_ | intro _ | split | contradiction
    | dsimp only

theorem readLo_mode (s : State) (o : Off) (h : Mode r s) : Mode r (State.readLo s o) := by
  unfold State.readLo
  try extract_lets
  repeat' first
    | with_reducible assumption | with_reducible apply foldl_mode | with_reducible apply ite_mode | decide | with_reducible refine off_ne ?_
    | with_reducible refine off_lt ?_ | intro _ | split | contradiction | dsimp only | refine Mode.upd ?_

theorem tmoWritten_mode (s : State) (k : Nat) (b : Off) (h : Mode r s) : Mode r (State.tmoWritten s k b) := by
  unfold State.tmoWritten
  try extract_lets
  repeat' first
    | with_reducible assumption | with_reducible apply tmoPin_mode | with_reducible apply tmoArm_mode | with_reducible apply updTmo_mode
    | with_reducible apply foldl_mode | with_reducible apply ite_mode | decide | with_reducible refine off_ne ?_ | with_reducible refine off_lt ?_
    | intro _ | split | contradiction | dsimp only

theorem written_mode (s : State) (was : U32) (o : Off) (v : U32) (h : Mode r s) : Mode r (State.written s was o v) := by
  unfold State.written
  try extract_lets
  repeat' first
    | with_reducible assumption | with_reducible apply tmoWritten_mode | with_reducible apply asymChanged_mode | with_reducible apply panelCtl_mode
    | with_reducible apply pairLost_mode | with_reducible apply servoChange_mode | with_reducible apply updRtc_mode | with_reducible apply foldl_mode
    | with_reducible apply ite_mode | decide | with_reducible refine off_ne ?_ | with_reducible refine off_lt ?_ | intro _ | split | contradiction
    | dsimp only

theorem holdLow_mode (s : State) (o : Off) (v : U32) (h : Mode r s) : Mode r (State.holdLow s o v) := by
  unfold State.holdLow
  try extract_lets
  repeat' first
    | with_reducible assumption | with_reducible apply foldl_mode | with_reducible apply ite_mode | decide | with_reducible refine off_ne ?_
    | with_reducible refine off_lt ?_ | intro _ | split | contradiction | dsimp only | refine Mode.upd ?_

theorem msixCtl_mode (s : State) (vec : Nat) (v : U32) (h : Mode r s) : Mode r (State.msixCtl s vec v) := by
  unfold State.msixCtl
  try extract_lets
  repeat' first
    | with_reducible assumption | with_reducible apply setRegBit_mode | with_reducible apply unmask_mode | with_reducible apply foldl_mode
    | with_reducible apply ite_mode | decide | with_reducible refine off_ne ?_ | with_reducible refine off_lt ?_ | intro _ | split | contradiction
    | dsimp only

theorem byCode_mode (s : State) (o : Off) (v : U32) (one : State → State) (two : State → State) (h : Mode r s) (h_one : ∀ t, Mode r t → Mode r (one t)) (h_two : ∀ t, Mode r t → Mode r (two t)) : Mode r (State.byCode s o v one two) := by
  unfold State.byCode
  try extract_lets
  repeat' first
    | with_reducible assumption | with_reducible apply h_one | with_reducible apply h_two | with_reducible apply ignored_mode
    | with_reducible apply foldl_mode | with_reducible apply ite_mode | decide | with_reducible refine off_ne ?_ | with_reducible refine off_lt ?_
    | intro _ | split | contradiction | dsimp only

theorem readWord_mode (s : State) (o : Off) (h : Mode r s) : Mode r (State.readWord s o) := by
  unfold State.readWord
  try extract_lets
  repeat' first
    | with_reducible assumption | with_reducible apply legW0Read_mode | with_reducible apply legW3Read_mode | with_reducible apply fracRead_mode
    | with_reducible apply secHiRead_mode | with_reducible apply legSecRead_mode | with_reducible apply legYearRead_mode
    | with_reducible apply txtsW0Read_mode | with_reducible apply txtsHiRead_mode | with_reducible apply readLo_mode | with_reducible apply foldl_mode
    | with_reducible apply ite_mode | decide | with_reducible refine off_ne ?_ | with_reducible refine off_lt ?_ | intro _ | split | contradiction
    | dsimp only

theorem badRequest_mode (s : State) (k : BadAccess) (h : Mode r s) : Mode r (State.badRequest s k) := by
  unfold State.badRequest
  try extract_lets
  repeat' first
    | with_reducible assumption | with_reducible apply raise_mode | with_reducible apply bump_mode | with_reducible apply emitOut_mode
    | with_reducible apply readWord_mode | with_reducible apply foldl_mode | with_reducible apply ite_mode | decide | with_reducible refine off_ne ?_
    | with_reducible refine off_lt ?_ | intro _ | split | contradiction | dsimp only | refine Mode.upd ?_

theorem windowWrite_mode (s : State) (o : Off) (data : List Byte) (h : Mode r s) : Mode r (State.windowWrite s o data) := by
  unfold State.windowWrite
  try extract_lets
  repeat' first
    | with_reducible assumption | with_reducible apply ignored_mode | with_reducible apply setDirty_mode | with_reducible apply tarnStore_mode
    | with_reducible apply foldl_mode | with_reducible apply ite_mode | decide | with_reducible refine off_ne ?_ | with_reducible refine off_lt ?_
    | intro _ | split | contradiction | dsimp only

theorem withFetchWord_mode (s : State) (nbits : Nat) (w : Nat) (h : Mode r s) : Mode r (State.withFetchWord s nbits w) := by
  unfold State.withFetchWord
  try extract_lets
  repeat' first
    | with_reducible assumption | with_reducible apply foldl_mode | with_reducible apply ite_mode | decide | with_reducible refine off_ne ?_
    | with_reducible refine off_lt ?_ | intro _ | split | contradiction | dsimp only | refine Mode.upd ?_

end Sys2Proof.Machine
end

