-- ==== Sys2Proof/Laws/ExecMode.lean ====
section
/-! SUPPORT. The node state through the meaning of every row that does not move it by itself. -/

set_option Elab.async false
set_option linter.unusedTactic false
set_option linter.unreachableTactic false

namespace Sys2Proof.Machine

variable {r : State}

theorem next_mode {s t : State} (h : Mode r s) (e : (.next s : Host.Outcome State Fault Refusal) = .next t) : Mode r t := by
  cases e; exact h

theorem need_mode {c : Bool} {s t : State} (h : Mode r s) (e : need c s = .next t) : Mode r t := by
  unfold need at e
  split at e
  · cases e; exact h
  · cases e

theorem checkPoint_mode (img : Image) (d : Desc) (s : State) (x : Nat × State) (h : Mode r s) (e : checkPoint img d s = .inl x) :
    Mode r x.2 := by
  unfold checkPoint at e
  dsimp only at e
  repeat' split at e
  all_goals first
    | cases e; done
    | cases e; exact h
    | cases e; exact setReg_mode _ _ _ h (by decide)

theorem checkChandef_mode (img : Image) (d : Desc) (s : State) (x : Nat × State) (h : Mode r s) (e : checkChandef img d s = .inl x) :
    Mode r x.2 := by
  unfold checkChandef at e
  dsimp only at e
  repeat' split at e
  all_goals first
    | cases e; done
    | cases e; exact h
    | cases e; exact setReg_mode _ _ _ h (by decide)

theorem checkGroup_mode (img : Image) (d : Desc) (s : State) (x : Nat × State) (h : Mode r s) (e : checkGroup img d s = .inl x) :
    Mode r x.2 := by
  unfold checkGroup at e
  dsimp only at e
  repeat' split at e
  all_goals first
    | cases e; done
    | cases e; exact h
    | cases e; exact setReg_mode _ _ _ h (by decide)

theorem checkFanout_mode (img : Image) (d : Desc) (s : State) (x : Nat × State) (h : Mode r s) (e : checkFanout img d s = .inl x) :
    Mode r x.2 := by
  unfold checkFanout at e
  dsimp only at e
  repeat' split at e
  all_goals first
    | cases e; done
    | cases e; exact h
    | cases e; exact setReg_mode _ _ _ h (by decide)

theorem checkLintab_mode (img : Image) (d : Desc) (s : State) (x : Nat × State) (h : Mode r s) (e : checkLintab img d s = .inl x) :
    Mode r x.2 := by
  unfold checkLintab at e
  dsimp only at e
  repeat' split at e
  all_goals first
    | cases e; done
    | cases e; exact h
    | cases e; exact setReg_mode _ _ _ h (by decide)

theorem checkCanfilt_mode (img : Image) (d : Desc) (s : State) (x : Nat × State) (h : Mode r s) (e : checkCanfilt img d s = .inl x) :
    Mode r x.2 := by
  unfold checkCanfilt at e
  dsimp only at e
  repeat' split at e
  all_goals first
    | cases e; done
    | cases e; exact h
    | cases e; exact setReg_mode _ _ _ h (by decide)

theorem checkCansig_mode (img : Image) (d : Desc) (s : State) (x : Nat × State) (h : Mode r s) (e : checkCansig img d s = .inl x) :
    Mode r x.2 := by
  unfold checkCansig at e
  dsimp only at e
  repeat' split at e
  all_goals first
    | cases e; done
    | cases e; exact h
    | cases e; exact setReg_mode _ _ _ h (by decide)

theorem execEvalSample_mode (e1 : EngineId) (s : State) (t : State) (e : execEvalSample e1 s = .next t) : Mode s t := by
  have h : Mode s s := Mode.refl s
  unfold execEvalSample at e
  try extract_lets at e
  first | refine next_mode ?_ e | refine need_mode ?_ e
  all_goals repeat' first
    | with_reducible assumption | with_reducible apply evaluate_mode | with_reducible apply fresh_mode | with_reducible apply onSample_mode
    | with_reducible apply foldl_mode | with_reducible apply ite_mode | decide | with_reducible refine off_ne ?_ | with_reducible refine off_lt ?_
    | intro _ | split | contradiction | dsimp only

theorem execEvalDiChange_mode (e1 : EngineId) (s : State) (t : State) (e : execEvalDiChange e1 s = .next t) : Mode s t := by
  have h : Mode s s := Mode.refl s
  unfold execEvalDiChange at e
  try extract_lets at e
  first | refine next_mode ?_ e | refine need_mode ?_ e
  all_goals repeat' first
    | with_reducible assumption | with_reducible apply evaluate_mode | with_reducible apply fresh_mode | with_reducible apply onDiChange_mode
    | with_reducible apply foldl_mode | with_reducible apply ite_mode | decide | with_reducible refine off_ne ?_ | with_reducible refine off_lt ?_
    | intro _ | split | contradiction | dsimp only

theorem execEvalCount_mode (e1 : EngineId) (s : State) (t : State) (e : execEvalCount e1 s = .next t) : Mode s t := by
  have h : Mode s s := Mode.refl s
  unfold execEvalCount at e
  try extract_lets at e
  first | refine next_mode ?_ e | refine need_mode ?_ e
  all_goals repeat' first
    | with_reducible assumption | with_reducible apply evaluate_mode | with_reducible apply fresh_mode | with_reducible apply onCount_mode
    | with_reducible apply foldl_mode | with_reducible apply ite_mode | decide | with_reducible refine off_ne ?_ | with_reducible refine off_lt ?_
    | intro _ | split | contradiction | dsimp only

theorem execEvalCanFrame_mode (e1 : EngineId) (s : State) (t : State) (e : execEvalCanFrame e1 s = .next t) : Mode s t := by
  have h : Mode s s := Mode.refl s
  unfold execEvalCanFrame at e
  try extract_lets at e
  first | refine next_mode ?_ e | refine need_mode ?_ e
  all_goals repeat' first
    | with_reducible assumption | with_reducible apply evaluate_mode | with_reducible apply fresh_mode | with_reducible apply onCanFrame_mode
    | with_reducible apply foldl_mode | with_reducible apply ite_mode | decide | with_reducible refine off_ne ?_ | with_reducible refine off_lt ?_
    | intro _ | split | contradiction | dsimp only

theorem execEvalTick_mode (e1 : EngineId) (s : State) (t : State) (e : execEvalTick e1 s = .next t) : Mode s t := by
  have h : Mode s s := Mode.refl s
  unfold execEvalTick at e
  try extract_lets at e
  first | refine next_mode ?_ e | refine need_mode ?_ e
  all_goals repeat' first
    | with_reducible assumption | with_reducible apply evaluate_mode | with_reducible apply fresh_mode | with_reducible apply onTick_mode
    | with_reducible apply foldl_mode | with_reducible apply ite_mode | decide | with_reducible refine off_ne ?_ | with_reducible refine off_lt ?_
    | intro _ | split | contradiction | dsimp only

theorem execDelayExpiry_mode (e1 : EngineId) (p : Nat) (s : State) (t : State) (e : execDelayExpiry e1 p s = .next t) : Mode s t := by
  have h : Mode s s := Mode.refl s
  unfold execDelayExpiry at e
  try extract_lets at e
  first | refine next_mode ?_ e | refine need_mode ?_ e
  all_goals repeat' first
    | with_reducible assumption | with_reducible apply inTick_mode | with_reducible apply fresh_mode | with_reducible apply sweepPoints_mode
    | with_reducible apply foldl_mode | with_reducible apply ite_mode | decide | with_reducible refine off_ne ?_ | with_reducible refine off_lt ?_
    | intro _ | split | contradiction | dsimp only

theorem execRateEvaluation_mode (e1 : EngineId) (p : Nat) (s : State) (t : State) (e : execRateEvaluation e1 p s = .next t) : Mode s t := by
  have h : Mode s s := Mode.refl s
  unfold execRateEvaluation at e
  try extract_lets at e
  first | refine next_mode ?_ e | refine need_mode ?_ e
  all_goals repeat' first
    | with_reducible assumption | with_reducible apply inTick_mode | with_reducible apply fresh_mode | with_reducible apply sweepPoints_mode
    | with_reducible apply foldl_mode | with_reducible apply ite_mode | decide | with_reducible refine off_ne ?_ | with_reducible refine off_lt ?_
    | intro _ | split | contradiction | dsimp only

theorem execBlockDelayExpiry_mode (e1 : EngineId) (p : Nat) (s : State) (t : State) (e : execBlockDelayExpiry e1 p s = .next t) : Mode s t := by
  have h : Mode s s := Mode.refl s
  unfold execBlockDelayExpiry at e
  try extract_lets at e
  first | refine next_mode ?_ e | refine need_mode ?_ e
  all_goals repeat' first
    | with_reducible assumption | with_reducible apply inTick_mode | with_reducible apply fresh_mode | with_reducible apply sweepPoints_mode
    | with_reducible apply foldl_mode | with_reducible apply ite_mode | decide | with_reducible refine off_ne ?_ | with_reducible refine off_lt ?_
    | intro _ | split | contradiction | dsimp only

theorem execShelveExpiry_mode (e1 : EngineId) (p : Nat) (s : State) (t : State) (e : execShelveExpiry e1 p s = .next t) : Mode s t := by
  have h : Mode s s := Mode.refl s
  unfold execShelveExpiry at e
  try extract_lets at e
  first | refine next_mode ?_ e | refine need_mode ?_ e
  all_goals repeat' first
    | with_reducible assumption | with_reducible apply inTick_mode | with_reducible apply fresh_mode | with_reducible apply sweepPoints_mode
    | with_reducible apply foldl_mode | with_reducible apply ite_mode | decide | with_reducible refine off_ne ?_ | with_reducible refine off_lt ?_
    | intro _ | split | contradiction | dsimp only

theorem execGroupBlockExpiry_mode (e1 : EngineId) (g : Nat) (s : State) (t : State) (e : execGroupBlockExpiry e1 g s = .next t) : Mode s t := by
  have h : Mode s s := Mode.refl s
  unfold execGroupBlockExpiry at e
  try extract_lets at e
  first | refine next_mode ?_ e | refine need_mode ?_ e
  all_goals repeat' first
    | with_reducible assumption | with_reducible apply inTick_mode | with_reducible apply fresh_mode | with_reducible apply sweepGroups_mode
    | with_reducible apply foldl_mode | with_reducible apply ite_mode | decide | with_reducible refine off_ne ?_ | with_reducible refine off_lt ?_
    | intro _ | split | contradiction | dsimp only

theorem execFloodWindowClose_mode (e1 : EngineId) (g : Nat) (s : State) (t : State) (e : execFloodWindowClose e1 g s = .next t) : Mode s t := by
  have h : Mode s s := Mode.refl s
  unfold execFloodWindowClose at e
  try extract_lets at e
  first | refine next_mode ?_ e | refine need_mode ?_ e
  all_goals repeat' first
    | with_reducible assumption | with_reducible apply inTick_mode | with_reducible apply fresh_mode | with_reducible apply sweepGroups_mode
    | with_reducible apply foldl_mode | with_reducible apply ite_mode | decide | with_reducible refine off_ne ?_ | with_reducible refine off_lt ?_
    | intro _ | split | contradiction | dsimp only

theorem execCallTimeout_mode (e1 : EngineId) (g : Nat) (s : State) (t : State) (e : execCallTimeout e1 g s = .next t) : Mode s t := by
  have h : Mode s s := Mode.refl s
  unfold execCallTimeout at e
  try extract_lets at e
  first | refine next_mode ?_ e | refine need_mode ?_ e
  all_goals repeat' first
    | with_reducible assumption | with_reducible apply inTick_mode | with_reducible apply fresh_mode | with_reducible apply sweepGroups_mode
    | with_reducible apply foldl_mode | with_reducible apply ite_mode | decide | with_reducible refine off_ne ?_ | with_reducible refine off_lt ?_
    | intro _ | split | contradiction | dsimp only

theorem execCallFrameRepeat_mode (e1 : EngineId) (g : Nat) (s : State) (t : State) (e : execCallFrameRepeat e1 g s = .next t) : Mode s t := by
  have h : Mode s s := Mode.refl s
  unfold execCallFrameRepeat at e
  try extract_lets at e
  first | refine next_mode ?_ e | refine need_mode ?_ e
  all_goals repeat' first
    | with_reducible assumption | with_reducible apply inTick_mode | with_reducible apply fresh_mode | with_reducible apply sweepGroups_mode
    | with_reducible apply foldl_mode | with_reducible apply ite_mode | decide | with_reducible refine off_ne ?_ | with_reducible refine off_lt ?_
    | intro _ | split | contradiction | dsimp only

theorem execDeadmanWarn_mode (e1 : EngineId) (g : Nat) (s : State) (t : State) (e : execDeadmanWarn e1 g s = .next t) : Mode s t := by
  have h : Mode s s := Mode.refl s
  unfold execDeadmanWarn at e
  try extract_lets at e
  first | refine next_mode ?_ e | refine need_mode ?_ e
  all_goals repeat' first
    | with_reducible assumption | with_reducible apply inTick_mode | with_reducible apply fresh_mode | with_reducible apply sweepGroups_mode
    | with_reducible apply foldl_mode | with_reducible apply ite_mode | decide | with_reducible refine off_ne ?_ | with_reducible refine off_lt ?_
    | intro _ | split | contradiction | dsimp only

theorem execDeadmanExpiry_mode (e1 : EngineId) (g : Nat) (s : State) (t : State) (e : execDeadmanExpiry e1 g s = .next t) : Mode s t := by
  have h : Mode s s := Mode.refl s
  unfold execDeadmanExpiry at e
  try extract_lets at e
  first | refine next_mode ?_ e | refine need_mode ?_ e
  all_goals repeat' first
    | with_reducible assumption | with_reducible apply inTick_mode | with_reducible apply fresh_mode | with_reducible apply sweepGroups_mode
    | with_reducible apply foldl_mode | with_reducible apply ite_mode | decide | with_reducible refine off_ne ?_ | with_reducible refine off_lt ?_
    | intro _ | split | contradiction | dsimp only

theorem execSealPeriodExpiry_mode (e1 : EngineId) (s : State) (t : State) (e : execSealPeriodExpiry e1 s = .next t) : Mode s t := by
  have h : Mode s s := Mode.refl s
  unfold execSealPeriodExpiry at e
  try extract_lets at e
  first | refine next_mode ?_ e | refine need_mode ?_ e
  all_goals repeat' first
    | with_reducible assumption | with_reducible apply inTick_mode | with_reducible apply fresh_mode | with_reducible apply tickSeal_mode
    | with_reducible apply foldl_mode | with_reducible apply ite_mode | decide | with_reducible refine off_ne ?_ | with_reducible refine off_lt ?_
    | intro _ | split | contradiction | dsimp only

theorem execHealthPeriodExpiry_mode (e1 : EngineId) (s : State) (t : State) (e : execHealthPeriodExpiry e1 s = .next t) : Mode s t := by
  have h : Mode s s := Mode.refl s
  unfold execHealthPeriodExpiry at e
  try extract_lets at e
  first | refine next_mode ?_ e | refine need_mode ?_ e
  all_goals repeat' first
    | with_reducible assumption | with_reducible apply inTick_mode | with_reducible apply fresh_mode | with_reducible apply tickHealth_mode
    | with_reducible apply foldl_mode | with_reducible apply ite_mode | decide | with_reducible refine off_ne ?_ | with_reducible refine off_lt ?_
    | intro _ | split | contradiction | dsimp only

theorem execEvalSourceGap_mode (e1 : EngineId) (s : State) (t : State) (e : execEvalSourceGap e1 s = .next t) : Mode s t := by
  have h : Mode s s := Mode.refl s
  unfold execEvalSourceGap at e
  try extract_lets at e
  first | refine next_mode ?_ e | refine need_mode ?_ e
  all_goals repeat' first
    | with_reducible assumption | with_reducible apply evaluate_mode | with_reducible apply fresh_mode | with_reducible apply onSourceGap_mode
    | with_reducible apply foldl_mode | with_reducible apply ite_mode | decide | with_reducible refine off_ne ?_ | with_reducible refine off_lt ?_
    | intro _ | split | contradiction | dsimp only

theorem execEvalSnapshotMark_mode (e1 : EngineId) (s : State) (t : State) (e : execEvalSnapshotMark e1 s = .next t) : Mode s t := by
  have h : Mode s s := Mode.refl s
  unfold execEvalSnapshotMark at e
  try extract_lets at e
  first | refine next_mode ?_ e | refine need_mode ?_ e
  all_goals repeat' first
    | with_reducible assumption | with_reducible apply evalMark_mode | with_reducible apply fresh_mode | with_reducible apply foldl_mode
    | with_reducible apply ite_mode | decide | with_reducible refine off_ne ?_ | with_reducible refine off_lt ?_ | intro _ | split | contradiction
    | dsimp only

theorem execEvalSealRequest_mode (e1 : EngineId) (s : State) (t : State) (e : execEvalSealRequest e1 s = .next t) : Mode s t := by
  have h : Mode s s := Mode.refl s
  unfold execEvalSealRequest at e
  try extract_lets at e
  first | refine next_mode ?_ e | refine need_mode ?_ e
  all_goals repeat' first
    | with_reducible assumption | with_reducible apply evaluate_mode | with_reducible apply fresh_mode | with_reducible apply putSeal_mode
    | with_reducible apply foldl_mode | with_reducible apply ite_mode | decide | with_reducible refine off_ne ?_ | with_reducible refine off_lt ?_
    | intro _ | split | contradiction | dsimp only

theorem execEvalResyncStatus_mode (e1 : EngineId) (s : State) (t : State) (e : execEvalResyncStatus e1 s = .next t) : Mode s t := by
  have h : Mode s s := Mode.refl s
  unfold execEvalResyncStatus at e
  try extract_lets at e
  first | refine next_mode ?_ e | refine need_mode ?_ e
  all_goals repeat' first
    | with_reducible assumption | with_reducible apply evaluate_mode | with_reducible apply fresh_mode | with_reducible apply onStatus_mode
    | with_reducible apply foldl_mode | with_reducible apply ite_mode | decide | with_reducible refine off_ne ?_ | with_reducible refine off_lt ?_
    | intro _ | split | contradiction | dsimp only

theorem execEvalResyncCopy_mode (e1 : EngineId) (s : State) (t : State) (e : execEvalResyncCopy e1 s = .next t) : Mode s t := by
  have h : Mode s s := Mode.refl s
  unfold execEvalResyncCopy at e
  try extract_lets at e
  first | refine next_mode ?_ e | refine need_mode ?_ e
  all_goals repeat' first
    | with_reducible assumption | with_reducible apply evaluate_mode | with_reducible apply fresh_mode | with_reducible apply onCopy_mode
    | with_reducible apply foldl_mode | with_reducible apply ite_mode | decide | with_reducible refine off_ne ?_ | with_reducible refine off_lt ?_
    | intro _ | split | contradiction | dsimp only

theorem execEvalAudit_mode (e1 : EngineId) (s : State) (t : State) (e : execEvalAudit e1 s = .next t) : Mode s t := by
  have h : Mode s s := Mode.refl s
  unfold execEvalAudit at e
  try extract_lets at e
  first | refine next_mode ?_ e | refine need_mode ?_ e
  all_goals repeat' first
    | with_reducible assumption | with_reducible apply evaluate_mode | with_reducible apply fresh_mode | with_reducible apply onAudit_mode
    | with_reducible apply foldl_mode | with_reducible apply ite_mode | decide | with_reducible refine off_ne ?_ | with_reducible refine off_lt ?_
    | intro _ | split | contradiction | dsimp only

theorem execEvalDiverge_mode (e1 : EngineId) (s : State) (t : State) (e : execEvalDiverge e1 s = .next t) : Mode s t := by
  have h : Mode s s := Mode.refl s
  unfold execEvalDiverge at e
  try extract_lets at e
  first | refine next_mode ?_ e | refine need_mode ?_ e
  all_goals repeat' first
    | with_reducible assumption | with_reducible apply evaluate_mode | with_reducible apply fresh_mode | with_reducible apply onDiverge_mode
    | with_reducible apply takeStatus_mode | with_reducible apply foldl_mode | with_reducible apply ite_mode | decide
    | with_reducible refine off_ne ?_ | with_reducible refine off_lt ?_ | intro _ | split | contradiction | dsimp only

theorem execEvalRepair_mode (e1 : EngineId) (s : State) (t : State) (e : execEvalRepair e1 s = .next t) : Mode s t := by
  have h : Mode s s := Mode.refl s
  unfold execEvalRepair at e
  try extract_lets at e
  first | refine next_mode ?_ e | refine need_mode ?_ e
  all_goals repeat' first
    | with_reducible assumption | with_reducible apply evaluate_mode | with_reducible apply fresh_mode | with_reducible apply onRepair_mode
    | with_reducible apply takeStatus_mode | with_reducible apply foldl_mode | with_reducible apply ite_mode | decide
    | with_reducible refine off_ne ?_ | with_reducible refine off_lt ?_ | intro _ | split | contradiction | dsimp only

theorem execNop_mode (s : State) (t : State) (e : execNop s = .next t) : Mode s t := by
  have h : Mode s s := Mode.refl s
  unfold execNop at e
  try extract_lets at e
  first | refine next_mode ?_ e | refine need_mode ?_ e
  all_goals repeat' first
    | with_reducible assumption | with_reducible apply dirCmd_mode | with_reducible apply fresh_mode | with_reducible apply done_mode
    | with_reducible apply foldl_mode | with_reducible apply ite_mode | decide | with_reducible refine off_ne ?_ | with_reducible refine off_lt ?_
    | intro _ | split | contradiction | dsimp only

theorem execUnknownOpcode_mode (s : State) (t : State) (e : execUnknownOpcode s = .next t) : Mode s t := by
  have h : Mode s s := Mode.refl s
  unfold execUnknownOpcode at e
  try extract_lets at e
  first | refine next_mode ?_ e | refine need_mode ?_ e
  all_goals repeat' first
    | with_reducible assumption | with_reducible apply fresh_mode | with_reducible apply done_mode | with_reducible apply takeHead_mode
    | with_reducible apply foldl_mode | with_reducible apply ite_mode | decide | with_reducible refine off_ne ?_ | with_reducible refine off_lt ?_
    | intro _ | split | contradiction | dsimp only

theorem execCompletionWrite_mode (s : State) (t : State) (e : execCompletionWrite s = .next t) : Mode s t := by
  have h : Mode s s := Mode.refl s
  unfold execCompletionWrite at e
  try extract_lets at e
  first | refine next_mode ?_ e | refine need_mode ?_ e
  all_goals repeat' first
    | with_reducible assumption | with_reducible apply writeCompletion_mode | with_reducible apply fresh_mode | with_reducible apply foldl_mode
    | with_reducible apply ite_mode | decide | with_reducible refine off_ne ?_ | with_reducible refine off_lt ?_ | intro _ | split | contradiction
    | dsimp only

theorem execCommandRateAllowance_mode (s : State) (t : State) (e : execCommandRateAllowance s = .next t) : Mode s t := by
  have h : Mode s s := Mode.refl s
  unfold execCommandRateAllowance at e
  try extract_lets at e
  first | refine next_mode ?_ e | refine need_mode ?_ e
  all_goals repeat' first
    | with_reducible assumption | with_reducible apply fresh_mode | with_reducible apply foldl_mode | with_reducible apply ite_mode | decide
    | with_reducible refine off_ne ?_ | with_reducible refine off_lt ?_ | intro _ | split | contradiction | dsimp only | refine Mode.upd ?_

theorem execAckPoint_mode (ph : Phase) (s : State) (t : State) (e : execAckPoint ph s = .next t) : Mode s t := by
  have h : Mode s s := Mode.refl s
  unfold execAckPoint at e
  try extract_lets at e
  first | refine next_mode ?_ e | refine need_mode ?_ e
  all_goals repeat' first
    | with_reducible assumption | with_reducible apply recTake_mode | with_reducible apply fresh_mode | with_reducible apply evalCmd_mode
    | with_reducible apply evalAckPoint_mode
    | (with_reducible refine Eq.mp (congrArg (Mode s) (congrArg Prod.snd ‹_ = (_, _)›)) (evalAckPoint_mode ..)) | with_reducible apply foldl_mode
    | with_reducible apply ite_mode | decide | with_reducible refine off_ne ?_ | with_reducible refine off_lt ?_ | intro _ | split | contradiction
    | dsimp only

theorem execShelve_mode (ph : Phase) (s : State) (t : State) (e : execShelve ph s = .next t) : Mode s t := by
  have h : Mode s s := Mode.refl s
  unfold execShelve at e
  try extract_lets at e
  first | refine next_mode ?_ e | refine need_mode ?_ e
  all_goals repeat' first
    | with_reducible assumption | with_reducible apply recTake_mode | with_reducible apply fresh_mode | with_reducible apply evalCmd_mode
    | with_reducible apply evalShelve_mode | (with_reducible refine Eq.mp (congrArg (Mode s) (congrArg Prod.snd ‹_ = (_, _)›)) (evalShelve_mode ..))
    | with_reducible apply foldl_mode | with_reducible apply ite_mode | decide | with_reducible refine off_ne ?_ | with_reducible refine off_lt ?_
    | intro _ | split | contradiction | dsimp only

theorem execUnshelve_mode (ph : Phase) (s : State) (t : State) (e : execUnshelve ph s = .next t) : Mode s t := by
  have h : Mode s s := Mode.refl s
  unfold execUnshelve at e
  try extract_lets at e
  first | refine next_mode ?_ e | refine need_mode ?_ e
  all_goals repeat' first
    | with_reducible assumption | with_reducible apply recTake_mode | with_reducible apply fresh_mode | with_reducible apply evalCmd_mode
    | with_reducible apply evalUnshelve_mode
    | (with_reducible refine Eq.mp (congrArg (Mode s) (congrArg Prod.snd ‹_ = (_, _)›)) (evalUnshelve_mode ..)) | with_reducible apply foldl_mode
    | with_reducible apply ite_mode | decide | with_reducible refine off_ne ?_ | with_reducible refine off_lt ?_ | intro _ | split | contradiction
    | dsimp only

theorem execForcePoint_mode (ph : Phase) (s : State) (t : State) (e : execForcePoint ph s = .next t) : Mode s t := by
  have h : Mode s s := Mode.refl s
  unfold execForcePoint at e
  try extract_lets at e
  first | refine next_mode ?_ e | refine need_mode ?_ e
  all_goals repeat' first
    | with_reducible assumption | with_reducible apply recTake_mode | with_reducible apply fresh_mode | with_reducible apply evalCmd_mode
    | with_reducible apply evalForcePoint_mode
    | (with_reducible refine Eq.mp (congrArg (Mode s) (congrArg Prod.snd ‹_ = (_, _)›)) (evalForcePoint_mode ..)) | with_reducible apply foldl_mode
    | with_reducible apply ite_mode | decide | with_reducible refine off_ne ?_ | with_reducible refine off_lt ?_ | intro _ | split | contradiction
    | dsimp only

theorem execPointRead_mode (ph : Phase) (s : State) (t : State) (e : execPointRead ph s = .next t) : Mode s t := by
  have h : Mode s s := Mode.refl s
  unfold execPointRead at e
  try extract_lets at e
  first | refine next_mode ?_ e | refine need_mode ?_ e
  all_goals repeat' first
    | with_reducible assumption | with_reducible apply recTake_mode | with_reducible apply fresh_mode | with_reducible apply evalCmd_mode
    | with_reducible apply evalPointRead_mode
    | (with_reducible refine Eq.mp (congrArg (Mode s) (congrArg Prod.snd ‹_ = (_, _)›)) (evalPointRead_mode ..)) | with_reducible apply foldl_mode
    | with_reducible apply ite_mode | decide | with_reducible refine off_ne ?_ | with_reducible refine off_lt ?_ | intro _ | split | contradiction
    | dsimp only

theorem execAckGroup_mode (ph : Phase) (s : State) (t : State) (e : execAckGroup ph s = .next t) : Mode s t := by
  have h : Mode s s := Mode.refl s
  unfold execAckGroup at e
  try extract_lets at e
  first | refine next_mode ?_ e | refine need_mode ?_ e
  all_goals repeat' first
    | with_reducible assumption | with_reducible apply recTake_mode | with_reducible apply fresh_mode | with_reducible apply evalCmd_mode
    | with_reducible apply evalAckGroup_mode
    | (with_reducible refine Eq.mp (congrArg (Mode s) (congrArg Prod.snd ‹_ = (_, _)›)) (evalAckGroup_mode ..)) | with_reducible apply foldl_mode
    | with_reducible apply ite_mode | decide | with_reducible refine off_ne ?_ | with_reducible refine off_lt ?_ | intro _ | split | contradiction
    | dsimp only

theorem execCallManual_mode (ph : Phase) (s : State) (t : State) (e : execCallManual ph s = .next t) : Mode s t := by
  have h : Mode s s := Mode.refl s
  unfold execCallManual at e
  try extract_lets at e
  first | refine next_mode ?_ e | refine need_mode ?_ e
  all_goals repeat' first
    | with_reducible assumption | with_reducible apply recTake_mode | with_reducible apply fresh_mode | with_reducible apply evalCmd_mode
    | with_reducible apply evalCallManual_mode
    | (with_reducible refine Eq.mp (congrArg (Mode s) (congrArg Prod.snd ‹_ = (_, _)›)) (evalCallManual_mode ..)) | with_reducible apply foldl_mode
    | with_reducible apply ite_mode | decide | with_reducible refine off_ne ?_ | with_reducible refine off_lt ?_ | intro _ | split | contradiction
    | dsimp only

theorem execCallSilence_mode (ph : Phase) (s : State) (t : State) (e : execCallSilence ph s = .next t) : Mode s t := by
  have h : Mode s s := Mode.refl s
  unfold execCallSilence at e
  try extract_lets at e
  first | refine next_mode ?_ e | refine need_mode ?_ e
  all_goals repeat' first
    | with_reducible assumption | with_reducible apply recTake_mode | with_reducible apply fresh_mode | with_reducible apply evalCmd_mode
    | with_reducible apply evalCallSilence_mode
    | (with_reducible refine Eq.mp (congrArg (Mode s) (congrArg Prod.snd ‹_ = (_, _)›)) (evalCallSilence_mode ..)) | with_reducible apply foldl_mode
    | with_reducible apply ite_mode | decide | with_reducible refine off_ne ?_ | with_reducible refine off_lt ?_ | intro _ | split | contradiction
    | dsimp only

theorem execDeadmanReset_mode (ph : Phase) (s : State) (t : State) (e : execDeadmanReset ph s = .next t) : Mode s t := by
  have h : Mode s s := Mode.refl s
  unfold execDeadmanReset at e
  try extract_lets at e
  first | refine next_mode ?_ e | refine need_mode ?_ e
  all_goals repeat' first
    | with_reducible assumption | with_reducible apply recTake_mode | with_reducible apply fresh_mode | with_reducible apply evalCmd_mode
    | with_reducible apply evalDeadmanReset_mode
    | (with_reducible refine Eq.mp (congrArg (Mode s) (congrArg Prod.snd ‹_ = (_, _)›)) (evalDeadmanReset_mode ..)) | with_reducible apply foldl_mode
    | with_reducible apply ite_mode | decide | with_reducible refine off_ne ?_ | with_reducible refine off_lt ?_ | intro _ | split | contradiction
    | dsimp only

theorem execPointWrite_mode (img : Image) (s : State) (t : State) (e : execPointWrite img s = .next t) : Mode s t := by
  have h : Mode s s := Mode.refl s
  unfold execPointWrite at e
  try extract_lets at e
  first | refine next_mode ?_ e | refine need_mode ?_ e
  all_goals repeat' first
    | with_reducible assumption | with_reducible apply cfgTake_mode | with_reducible apply fresh_mode | exact checkPoint_mode _ _ _ _ ‹_› ‹_›
    | with_reducible apply foldl_mode | with_reducible apply ite_mode | decide | with_reducible refine off_ne ?_ | with_reducible refine off_lt ?_
    | intro _ | split | contradiction | dsimp only

theorem execChandefWrite_mode (img : Image) (s : State) (t : State) (e : execChandefWrite img s = .next t) : Mode s t := by
  have h : Mode s s := Mode.refl s
  unfold execChandefWrite at e
  try extract_lets at e
  first | refine next_mode ?_ e | refine need_mode ?_ e
  all_goals repeat' first
    | with_reducible assumption | with_reducible apply cfgTake_mode | with_reducible apply fresh_mode | exact checkChandef_mode _ _ _ _ ‹_› ‹_›
    | with_reducible apply foldl_mode | with_reducible apply ite_mode | decide | with_reducible refine off_ne ?_ | with_reducible refine off_lt ?_
    | intro _ | split | contradiction | dsimp only

theorem execGroupWrite_mode (img : Image) (s : State) (t : State) (e : execGroupWrite img s = .next t) : Mode s t := by
  have h : Mode s s := Mode.refl s
  unfold execGroupWrite at e
  try extract_lets at e
  first | refine next_mode ?_ e | refine need_mode ?_ e
  all_goals repeat' first
    | with_reducible assumption | with_reducible apply cfgTake_mode | with_reducible apply fresh_mode | exact checkGroup_mode _ _ _ _ ‹_› ‹_›
    | with_reducible apply foldl_mode | with_reducible apply ite_mode | decide | with_reducible refine off_ne ?_ | with_reducible refine off_lt ?_
    | intro _ | split | contradiction | dsimp only

theorem execFanoutWrite_mode (img : Image) (s : State) (t : State) (e : execFanoutWrite img s = .next t) : Mode s t := by
  have h : Mode s s := Mode.refl s
  unfold execFanoutWrite at e
  try extract_lets at e
  first | refine next_mode ?_ e | refine need_mode ?_ e
  all_goals repeat' first
    | with_reducible assumption | with_reducible apply cfgTake_mode | with_reducible apply fresh_mode | exact checkFanout_mode _ _ _ _ ‹_› ‹_›
    | with_reducible apply foldl_mode | with_reducible apply ite_mode | decide | with_reducible refine off_ne ?_ | with_reducible refine off_lt ?_
    | intro _ | split | contradiction | dsimp only

theorem execLintabWrite_mode (img : Image) (s : State) (t : State) (e : execLintabWrite img s = .next t) : Mode s t := by
  have h : Mode s s := Mode.refl s
  unfold execLintabWrite at e
  try extract_lets at e
  first | refine next_mode ?_ e | refine need_mode ?_ e
  all_goals repeat' first
    | with_reducible assumption | with_reducible apply cfgTake_mode | with_reducible apply fresh_mode | exact checkLintab_mode _ _ _ _ ‹_› ‹_›
    | with_reducible apply foldl_mode | with_reducible apply ite_mode | decide | with_reducible refine off_ne ?_ | with_reducible refine off_lt ?_
    | intro _ | split | contradiction | dsimp only

theorem execCanfiltWrite_mode (img : Image) (s : State) (t : State) (e : execCanfiltWrite img s = .next t) : Mode s t := by
  have h : Mode s s := Mode.refl s
  unfold execCanfiltWrite at e
  try extract_lets at e
  first | refine next_mode ?_ e | refine need_mode ?_ e
  all_goals repeat' first
    | with_reducible assumption | with_reducible apply cfgTake_mode | with_reducible apply fresh_mode | exact checkCanfilt_mode _ _ _ _ ‹_› ‹_›
    | with_reducible apply foldl_mode | with_reducible apply ite_mode | decide | with_reducible refine off_ne ?_ | with_reducible refine off_lt ?_
    | intro _ | split | contradiction | dsimp only

theorem execCansigWrite_mode (img : Image) (s : State) (t : State) (e : execCansigWrite img s = .next t) : Mode s t := by
  have h : Mode s s := Mode.refl s
  unfold execCansigWrite at e
  try extract_lets at e
  first | refine next_mode ?_ e | refine need_mode ?_ e
  all_goals repeat' first
    | with_reducible assumption | with_reducible apply cfgTake_mode | with_reducible apply fresh_mode | exact checkCansig_mode _ _ _ _ ‹_› ‹_›
    | with_reducible apply foldl_mode | with_reducible apply ite_mode | decide | with_reducible refine off_ne ?_ | with_reducible refine off_lt ?_
    | intro _ | split | contradiction | dsimp only

theorem execRecordAdmission_mode (s : State) (t : State) (e : execRecordAdmission s = .next t) : Mode s t := by
  have h : Mode s s := Mode.refl s
  unfold execRecordAdmission at e
  try extract_lets at e
  first | refine next_mode ?_ e | refine need_mode ?_ e
  all_goals repeat' first
    | with_reducible assumption | with_reducible apply admitRecord_mode | with_reducible apply fresh_mode | with_reducible apply foldl_mode
    | with_reducible apply ite_mode | decide | with_reducible refine off_ne ?_ | with_reducible refine off_lt ?_ | intro _ | split | contradiction
    | dsimp only

theorem execTickGeneration_mode (s : State) (t : State) (e : execTickGeneration s = .next t) : Mode s t := by
  have h : Mode s s := Mode.refl s
  unfold execTickGeneration at e
  try extract_lets at e
  first | refine next_mode ?_ e | refine need_mode ?_ e
  all_goals repeat' first
    | with_reducible assumption | with_reducible apply issueTick_mode | with_reducible apply pass_mode | with_reducible apply fresh_mode
    | with_reducible apply foldl_mode | with_reducible apply ite_mode | decide | with_reducible refine off_ne ?_ | with_reducible refine off_lt ?_
    | intro _ | split | contradiction | dsimp only

theorem execDioWrite_mode (s : State) (t : State) (e : execDioWrite s = .next t) : Mode s t := by
  have h : Mode s s := Mode.refl s
  unfold execDioWrite at e
  try extract_lets at e
  first | refine next_mode ?_ e | refine need_mode ?_ e
  all_goals repeat' first
    | with_reducible assumption | with_reducible apply dirCmd_mode | with_reducible apply fresh_mode | with_reducible apply dioWrite_mode
    | with_reducible apply foldl_mode | with_reducible apply ite_mode | decide | with_reducible refine off_ne ?_ | with_reducible refine off_lt ?_
    | intro _ | split | contradiction | dsimp only

theorem execDioWindowEnd_mode (bank : Nat) (pins : U16) (settled : U16) (dt : Nat) (s : State) (t : State) (e : execDioWindowEnd bank pins settled dt s = .next t) : Mode s t := by
  have h : Mode s s := Mode.refl s
  unfold execDioWindowEnd at e
  try extract_lets at e
  first | refine next_mode ?_ e | refine need_mode ?_ e
  all_goals repeat' first
    | with_reducible assumption | with_reducible apply windowEnd_mode | with_reducible apply pass_mode | with_reducible apply fresh_mode
    | with_reducible apply foldl_mode | with_reducible apply ite_mode | decide | with_reducible refine off_ne ?_ | with_reducible refine off_lt ?_
    | intro _ | split | contradiction | dsimp only

theorem execCounterEdge_mode (k : Nat) (s : State) (t : State) (e : execCounterEdge k s = .next t) : Mode s t := by
  have h : Mode s s := Mode.refl s
  unfold execCounterEdge at e
  try extract_lets at e
  first | refine next_mode ?_ e | refine need_mode ?_ e
  all_goals repeat' first
    | with_reducible assumption | with_reducible apply fresh_mode | with_reducible apply updCounter_mode | with_reducible apply foldl_mode
    | with_reducible apply ite_mode | decide | with_reducible refine off_ne ?_ | with_reducible refine off_lt ?_ | intro _ | split | contradiction
    | dsimp only

theorem execCountPeriodExpiry_mode (k : Nat) (cycles : Nat) (dt : Nat) (s : State) (t : State) (e : execCountPeriodExpiry k cycles dt s = .next t) : Mode s t := by
  have h : Mode s s := Mode.refl s
  unfold execCountPeriodExpiry at e
  try extract_lets at e
  first | refine next_mode ?_ e | refine need_mode ?_ e
  all_goals repeat' first
    | with_reducible assumption | with_reducible apply offerCount_mode | with_reducible apply pass_mode | with_reducible apply fresh_mode
    | with_reducible apply foldl_mode | with_reducible apply ite_mode | decide | with_reducible refine off_ne ?_ | with_reducible refine off_lt ?_
    | intro _ | split | contradiction | dsimp only

theorem execNewtRefresh_mode (newt : Nat) (late : Bool) (s : State) (t : State) (e : execNewtRefresh newt late s = .next t) : Mode s t := by
  have h : Mode s s := Mode.refl s
  unfold execNewtRefresh at e
  try extract_lets at e
  first | refine next_mode ?_ e | refine need_mode ?_ e
  all_goals repeat' first
    | with_reducible assumption | with_reducible apply newtRefresh_mode | with_reducible apply fresh_mode | with_reducible apply foldl_mode
    | with_reducible apply ite_mode | decide | with_reducible refine off_ne ?_ | with_reducible refine off_lt ?_ | intro _ | split | contradiction
    | dsimp only

theorem execWatchdogExpiry_mode (bank : Nat) (s : State) (t : State) (e : execWatchdogExpiry bank s = .next t) : Mode s t := by
  have h : Mode s s := Mode.refl s
  unfold execWatchdogExpiry at e
  try extract_lets at e
  first | refine next_mode ?_ e | refine need_mode ?_ e
  all_goals repeat' first
    | with_reducible assumption | with_reducible apply wdExpire_mode | with_reducible apply fresh_mode | with_reducible apply foldl_mode
    | with_reducible apply ite_mode | decide | with_reducible refine off_ne ?_ | with_reducible refine off_lt ?_ | intro _ | split | contradiction
    | dsimp only

theorem execNewtStall_mode (newt : Nat) (s : State) (t : State) (e : execNewtStall newt s = .next t) : Mode s t := by
  have h : Mode s s := Mode.refl s
  unfold execNewtStall at e
  try extract_lets at e
  first | refine next_mode ?_ e | refine need_mode ?_ e
  all_goals repeat' first
    | with_reducible assumption | with_reducible apply newtStop_mode | with_reducible apply fresh_mode | with_reducible apply foldl_mode
    | with_reducible apply ite_mode | decide | with_reducible refine off_ne ?_ | with_reducible refine off_lt ?_ | intro _ | split | contradiction
    | dsimp only

theorem execNewtRestart_mode (newt : Nat) (s : State) (t : State) (e : execNewtRestart newt s = .next t) : Mode s t := by
  have h : Mode s s := Mode.refl s
  unfold execNewtRestart at e
  try extract_lets at e
  first | refine next_mode ?_ e | refine need_mode ?_ e
  all_goals repeat' first
    | with_reducible assumption | with_reducible apply newtStart_mode | with_reducible apply fresh_mode | with_reducible apply foldl_mode
    | with_reducible apply ite_mode | decide | with_reducible refine off_ne ?_ | with_reducible refine off_lt ?_ | intro _ | split | contradiction
    | dsimp only

theorem execFaultSet_mode (bank : Nat) (cause : FaultCause) (s : State) (t : State) (e : execFaultSet bank cause s = .next t) : Mode s t := by
  have h : Mode s s := Mode.refl s
  unfold execFaultSet at e
  try extract_lets at e
  first | refine next_mode ?_ e | refine need_mode ?_ e
  all_goals repeat' first
    | with_reducible assumption | with_reducible apply setFault_mode | with_reducible apply fresh_mode | with_reducible apply foldl_mode
    | with_reducible apply ite_mode | decide | with_reducible refine off_ne ?_ | with_reducible refine off_lt ?_ | intro _ | split | contradiction
    | dsimp only

theorem execFaultClear_mode (bank : Nat) (s : State) (t : State) (e : execFaultClear bank s = .next t) : Mode s t := by
  have h : Mode s s := Mode.refl s
  unfold execFaultClear at e
  try extract_lets at e
  first | refine next_mode ?_ e | refine need_mode ?_ e
  all_goals repeat' first
    | with_reducible assumption | with_reducible apply clearFault_mode | with_reducible apply fresh_mode | with_reducible apply foldl_mode
    | with_reducible apply ite_mode | decide | with_reducible refine off_ne ?_ | with_reducible refine off_lt ?_ | intro _ | split | contradiction
    | dsimp only

theorem execFieldReset_mode (bank : Nat) (s : State) (t : State) (e : execFieldReset bank s = .next t) : Mode s t := by
  have h : Mode s s := Mode.refl s
  unfold execFieldReset at e
  try extract_lets at e
  first | refine next_mode ?_ e | refine need_mode ?_ e
  all_goals repeat' first
    | with_reducible assumption | with_reducible apply fieldReset_mode | with_reducible apply fresh_mode | with_reducible apply foldl_mode
    | with_reducible apply ite_mode | decide | with_reducible refine off_ne ?_ | with_reducible refine off_lt ?_ | intro _ | split | contradiction
    | dsimp only

theorem execFieldSideRestart_mode (bank : Nat) (s : State) (t : State) (e : execFieldSideRestart bank s = .next t) : Mode s t := by
  have h : Mode s s := Mode.refl s
  unfold execFieldSideRestart at e
  try extract_lets at e
  first | refine next_mode ?_ e | refine need_mode ?_ e
  all_goals repeat' first
    | with_reducible assumption | with_reducible apply fieldStart_mode | with_reducible apply fresh_mode | with_reducible apply foldl_mode
    | with_reducible apply ite_mode | decide | with_reducible refine off_ne ?_ | with_reducible refine off_lt ?_ | intro _ | split | contradiction
    | dsimp only

theorem execThermalShutdownRetry_mode (ch : Nat) (shorted : Bool) (s : State) (t : State) (e : execThermalShutdownRetry ch shorted s = .next t) : Mode s t := by
  have h : Mode s s := Mode.refl s
  unfold execThermalShutdownRetry at e
  try extract_lets at e
  first | refine next_mode ?_ e | refine need_mode ?_ e
  all_goals repeat' first
    | with_reducible assumption | with_reducible apply thermalRetry_mode | with_reducible apply fresh_mode | with_reducible apply foldl_mode
    | with_reducible apply ite_mode | decide | with_reducible refine off_ne ?_ | with_reducible refine off_lt ?_ | intro _ | split | contradiction
    | dsimp only

theorem execLaneSlotStart_mode (lane : Nat) (s : State) (t : State) (e : execLaneSlotStart lane s = .next t) : Mode s t := by
  have h : Mode s s := Mode.refl s
  unfold execLaneSlotStart at e
  try extract_lets at e
  first | refine next_mode ?_ e | refine need_mode ?_ e
  all_goals repeat' first
    | with_reducible assumption | with_reducible apply slotStart_mode | with_reducible apply fresh_mode | with_reducible apply foldl_mode
    | with_reducible apply ite_mode | decide | with_reducible refine off_ne ?_ | with_reducible refine off_lt ?_ | intro _ | split | contradiction
    | dsimp only

theorem execLaneSlotEnd_mode (lane : Nat) (m : SlotMeas) (dt : Nat) (s : State) (t : State) (e : execLaneSlotEnd lane m dt s = .next t) : Mode s t := by
  have h : Mode s s := Mode.refl s
  unfold execLaneSlotEnd at e
  try extract_lets at e
  first | refine next_mode ?_ e | refine need_mode ?_ e
  all_goals repeat' first
    | with_reducible assumption | with_reducible apply slotEnd_mode | with_reducible apply pass_mode | with_reducible apply fresh_mode
    | with_reducible apply foldl_mode | with_reducible apply ite_mode | decide | with_reducible refine off_ne ?_ | with_reducible refine off_lt ?_
    | intro _ | split | contradiction | dsimp only

theorem execCalSlotDue_mode (lane : Nat) (s : State) (t : State) (e : execCalSlotDue lane s = .next t) : Mode s t := by
  have h : Mode s s := Mode.refl s
  unfold execCalSlotDue at e
  try extract_lets at e
  first | refine next_mode ?_ e | refine need_mode ?_ e
  all_goals repeat' first
    | with_reducible assumption | with_reducible apply fresh_mode | with_reducible apply updLane_mode | with_reducible apply foldl_mode
    | with_reducible apply ite_mode | decide | with_reducible refine off_ne ?_ | with_reducible refine off_lt ?_ | intro _ | split | contradiction
    | dsimp only

theorem execCalSlotEnd_mode (lane : Nat) (meas : F32) (s : State) (t : State) (e : execCalSlotEnd lane meas s = .next t) : Mode s t := by
  have h : Mode s s := Mode.refl s
  unfold execCalSlotEnd at e
  try extract_lets at e
  first | refine next_mode ?_ e | refine need_mode ?_ e
  all_goals repeat' first
    | with_reducible assumption | with_reducible apply calEnd_mode | with_reducible apply fresh_mode | with_reducible apply foldl_mode
    | with_reducible apply ite_mode | decide | with_reducible refine off_ne ?_ | with_reducible refine off_lt ?_ | intro _ | split | contradiction
    | dsimp only

theorem execLaneDrained_mode (lane : Nat) (s : State) (t : State) (e : execLaneDrained lane s = .next t) : Mode s t := by
  have h : Mode s s := Mode.refl s
  unfold execLaneDrained at e
  try extract_lets at e
  first | refine next_mode ?_ e | refine need_mode ?_ e
  all_goals repeat' first
    | with_reducible assumption | with_reducible apply drained_mode | with_reducible apply fresh_mode | with_reducible apply foldl_mode
    | with_reducible apply ite_mode | decide | with_reducible refine off_ne ?_ | with_reducible refine off_lt ?_ | intro _ | split | contradiction
    | dsimp only

theorem execClampEventStart_mode (t1 : Nat) (s : State) (t : State) (e : execClampEventStart t1 s = .next t) : Mode s t := by
  have h : Mode s s := Mode.refl s
  unfold execClampEventStart at e
  try extract_lets at e
  first | refine next_mode ?_ e | refine need_mode ?_ e
  all_goals repeat' first
    | with_reducible assumption | with_reducible apply fresh_mode | with_reducible apply setRegBit_mode | with_reducible apply bump_mode
    | with_reducible apply raise_mode | with_reducible apply updLane_mode | with_reducible apply foldl_mode | with_reducible apply ite_mode | decide
    | with_reducible refine off_ne ?_ | with_reducible refine off_lt ?_ | intro _ | split | contradiction | dsimp only

theorem execClampEventEnd_mode (t1 : Nat) (s : State) (t : State) (e : execClampEventEnd t1 s = .next t) : Mode s t := by
  have h : Mode s s := Mode.refl s
  unfold execClampEventEnd at e
  try extract_lets at e
  first | refine next_mode ?_ e | refine need_mode ?_ e
  all_goals repeat' first
    | with_reducible assumption | with_reducible apply setRegBit_mode | with_reducible apply fresh_mode | with_reducible apply foldl_mode
    | with_reducible apply ite_mode | decide | with_reducible refine off_ne ?_ | with_reducible refine off_lt ?_ | intro _ | split | contradiction
    | dsimp only

theorem execBurdenShuntOpen_mode (t1 : Nat) (s : State) (t : State) (e : execBurdenShuntOpen t1 s = .next t) : Mode s t := by
  have h : Mode s s := Mode.refl s
  unfold execBurdenShuntOpen at e
  try extract_lets at e
  first | refine next_mode ?_ e | refine need_mode ?_ e
  all_goals repeat' first
    | with_reducible assumption | with_reducible apply fresh_mode | with_reducible apply bump_mode | with_reducible apply setRegBit_mode
    | with_reducible apply foldl_mode | with_reducible apply ite_mode | decide | with_reducible refine off_ne ?_ | with_reducible refine off_lt ?_
    | intro _ | split | contradiction | dsimp only

theorem execBurdenShuntReclose_mode (t1 : Nat) (s : State) (t : State) (e : execBurdenShuntReclose t1 s = .next t) : Mode s t := by
  have h : Mode s s := Mode.refl s
  unfold execBurdenShuntReclose at e
  try extract_lets at e
  first | refine next_mode ?_ e | refine need_mode ?_ e
  all_goals repeat' first
    | with_reducible assumption | with_reducible apply setRegBit_mode | with_reducible apply fresh_mode | with_reducible apply foldl_mode
    | with_reducible apply ite_mode | decide | with_reducible refine off_ne ?_ | with_reducible refine off_lt ?_ | intro _ | split | contradiction
    | dsimp only

theorem execBiasCurrentLimit_mode (n : Nat) (limiting : Bool) (s : State) (t : State) (e : execBiasCurrentLimit n limiting s = .next t) : Mode s t := by
  have h : Mode s s := Mode.refl s
  unfold execBiasCurrentLimit at e
  try extract_lets at e
  first | refine next_mode ?_ e | refine need_mode ?_ e
  all_goals repeat' first
    | with_reducible assumption | with_reducible apply fresh_mode | with_reducible apply setRegBit_mode | with_reducible apply bump_mode
    | with_reducible apply foldl_mode | with_reducible apply ite_mode | decide | with_reducible refine off_ne ?_ | with_reducible refine off_lt ?_
    | intro _ | split | contradiction | dsimp only

theorem execXpCheck_mode (v : U32) (s : State) (t : State) (e : execXpCheck v s = .next t) : Mode s t := by
  have h : Mode s s := Mode.refl s
  unfold execXpCheck at e
  try extract_lets at e
  first | refine next_mode ?_ e | refine need_mode ?_ e
  all_goals repeat' first
    | with_reducible assumption | with_reducible apply checkWrite_mode | with_reducible apply fresh_mode | with_reducible apply foldl_mode
    | with_reducible apply ite_mode | decide | with_reducible refine off_ne ?_ | with_reducible refine off_lt ?_ | intro _ | split | contradiction
    | dsimp only

theorem execConfigBarrier_mode (s : State) (t : State) (e : execConfigBarrier s = .next t) : Mode s t := by
  have h : Mode s s := Mode.refl s
  unfold execConfigBarrier at e
  try extract_lets at e
  first | refine next_mode ?_ e | refine need_mode ?_ e
  all_goals repeat' first
    | with_reducible assumption | with_reducible apply configBarrier_mode | with_reducible apply fresh_mode | with_reducible apply foldl_mode
    | with_reducible apply ite_mode | decide | with_reducible refine off_ne ?_ | with_reducible refine off_lt ?_ | intro _ | split | contradiction
    | dsimp only

theorem execEvalEccFault_mode (s : State) (t : State) (e : execEvalEccFault s = .next t) : Mode s t := by
  have h : Mode s s := Mode.refl s
  unfold execEvalEccFault at e
  try extract_lets at e
  first | refine next_mode ?_ e | refine need_mode ?_ e
  all_goals repeat' first
    | with_reducible assumption | with_reducible apply eccFault_mode | with_reducible apply fresh_mode | with_reducible apply foldl_mode
    | with_reducible apply ite_mode | decide | with_reducible refine off_ne ?_ | with_reducible refine off_lt ?_ | intro _ | split | contradiction
    | dsimp only

theorem execCanFrameReceived_mode (ch : Nat) (f : CanFrame) (dt : Nat) (s : State) (t : State) (e : execCanFrameReceived ch f dt s = .next t) : Mode s t := by
  have h : Mode s s := Mode.refl s
  unfold execCanFrameReceived at e
  try extract_lets at e
  first | refine next_mode ?_ e | refine need_mode ?_ e
  all_goals repeat' first
    | with_reducible assumption | with_reducible apply canReceive_mode | with_reducible apply pass_mode | with_reducible apply fresh_mode
    | with_reducible apply foldl_mode | with_reducible apply ite_mode | decide | with_reducible refine off_ne ?_ | with_reducible refine off_lt ?_
    | intro _ | split | contradiction | dsimp only

theorem execProtocolException_mode (ch : Nat) (s : State) (t : State) (e : execProtocolException ch s = .next t) : Mode s t := by
  have h : Mode s s := Mode.refl s
  unfold execProtocolException at e
  try extract_lets at e
  first | refine next_mode ?_ e | refine need_mode ?_ e
  all_goals repeat' first
    | with_reducible assumption | with_reducible apply fresh_mode | with_reducible apply raise_mode | with_reducible apply setCanStat_mode
    | with_reducible apply setCanBus_mode | with_reducible apply foldl_mode | with_reducible apply ite_mode | decide | with_reducible refine off_ne ?_
    | with_reducible refine off_lt ?_ | intro _ | split | contradiction | dsimp only

theorem execCanBusError_mode (ch : Nat) (err : CanErr) (s : State) (t : State) (e : execCanBusError ch err s = .next t) : Mode s t := by
  have h : Mode s s := Mode.refl s
  unfold execCanBusError at e
  dsimp only at e
  first | refine next_mode ?_ e | refine need_mode ?_ e
  all_goals repeat' first
    | with_reducible assumption | with_reducible apply fresh_mode | with_reducible apply attemptEnd_mode | with_reducible apply setErr_mode
    | with_reducible apply errFrame_mode | with_reducible apply foldl_mode | with_reducible apply ite_mode | decide | with_reducible refine off_ne ?_
    | with_reducible refine off_lt ?_ | intro _ | split | contradiction | dsimp only

theorem execFilterWalk_mode (s : State) (t : State) (e : execFilterWalk s = .next t) : Mode s t := by
  have h : Mode s s := Mode.refl s
  unfold execFilterWalk at e
  try extract_lets at e
  first | refine next_mode ?_ e | refine need_mode ?_ e
  all_goals repeat' first
    | with_reducible assumption | with_reducible apply walkNext_mode | with_reducible apply fresh_mode | with_reducible apply foldl_mode
    | with_reducible apply ite_mode | decide | with_reducible refine off_ne ?_ | with_reducible refine off_lt ?_ | intro _ | split | contradiction
    | dsimp only

theorem execCanTxEntryTaken_mode (ch : Nat) (s : State) (t : State) (e : execCanTxEntryTaken ch s = .next t) : Mode s t := by
  have h : Mode s s := Mode.refl s
  unfold execCanTxEntryTaken at e
  try extract_lets at e
  first | refine next_mode ?_ e | refine need_mode ?_ e
  all_goals repeat' first
    | with_reducible assumption | with_reducible apply takeEntry_mode | with_reducible apply fresh_mode | with_reducible apply foldl_mode
    | with_reducible apply ite_mode | decide | with_reducible refine off_ne ?_ | with_reducible refine off_lt ?_ | intro _ | split | contradiction
    | dsimp only

theorem execTxAttemptStart_mode (ch : Nat) (dt : Nat) (s : State) (t : State) (e : execTxAttemptStart ch dt s = .next t) : Mode s t := by
  have h : Mode s s := Mode.refl s
  unfold execTxAttemptStart at e
  try extract_lets at e
  first | refine next_mode ?_ e | refine need_mode ?_ e
  all_goals repeat' first
    | with_reducible assumption | with_reducible apply attemptStart_mode | with_reducible apply pass_mode | with_reducible apply fresh_mode
    | with_reducible apply foldl_mode | with_reducible apply ite_mode | decide | with_reducible refine off_ne ?_ | with_reducible refine off_lt ?_
    | intro _ | split | contradiction | dsimp only

theorem execTxAttemptEnd_mode (ch : Nat) (r1 : TxResult) (dt : Nat) (s : State) (t : State) (e : execTxAttemptEnd ch r1 dt s = .next t) : Mode s t := by
  have h : Mode s s := Mode.refl s
  unfold execTxAttemptEnd at e
  try extract_lets at e
  first | refine next_mode ?_ e | refine need_mode ?_ e
  all_goals repeat' first
    | with_reducible assumption | with_reducible apply pass_mode | with_reducible apply fresh_mode | with_reducible apply attemptEnd_mode
    | with_reducible apply foldl_mode | with_reducible apply ite_mode | decide | with_reducible refine off_ne ?_ | with_reducible refine off_lt ?_
    | intro _ | split | contradiction | dsimp only

theorem execIntegrationComplete_mode (ch : Nat) (s : State) (t : State) (e : execIntegrationComplete ch s = .next t) : Mode s t := by
  have h : Mode s s := Mode.refl s
  unfold execIntegrationComplete at e
  try extract_lets at e
  first | refine next_mode ?_ e | refine need_mode ?_ e
  all_goals repeat' first
    | with_reducible assumption | with_reducible apply fresh_mode | with_reducible apply setCanBus_mode | with_reducible apply setCanStat_mode
    | with_reducible apply foldl_mode | with_reducible apply ite_mode | decide | with_reducible refine off_ne ?_ | with_reducible refine off_lt ?_
    | intro _ | split | contradiction | dsimp only

theorem execBusOffRecoveryComplete_mode (ch : Nat) (s : State) (t : State) (e : execBusOffRecoveryComplete ch s = .next t) : Mode s t := by
  have h : Mode s s := Mode.refl s
  unfold execBusOffRecoveryComplete at e
  try extract_lets at e
  first | refine next_mode ?_ e | refine need_mode ?_ e
  all_goals repeat' first
    | with_reducible assumption | with_reducible apply fresh_mode | with_reducible apply raise_mode | with_reducible apply setCanStat_mode
    | with_reducible apply setCanBus_mode | with_reducible apply updCan_mode | with_reducible apply foldl_mode | with_reducible apply ite_mode
    | decide | with_reducible refine off_ne ?_ | with_reducible refine off_lt ?_ | intro _ | split | contradiction | dsimp only

theorem execCanCancel_mode (s : State) (t : State) (e : execCanCancel s = .next t) : Mode s t := by
  have h : Mode s s := Mode.refl s
  unfold execCanCancel at e
  try extract_lets at e
  first | refine next_mode ?_ e | refine need_mode ?_ e
  all_goals repeat' first
    | with_reducible assumption | with_reducible apply dirCmd_mode | with_reducible apply fresh_mode | with_reducible apply cancel_mode
    | with_reducible apply foldl_mode | with_reducible apply ite_mode | decide | with_reducible refine off_ne ?_ | with_reducible refine off_lt ?_
    | intro _ | split | contradiction | dsimp only

theorem execCanChannelCtl_mode (s : State) (t : State) (e : execCanChannelCtl s = .next t) : Mode s t := by
  have h : Mode s s := Mode.refl s
  unfold execCanChannelCtl at e
  try extract_lets at e
  first | refine next_mode ?_ e | refine need_mode ?_ e
  all_goals repeat' first
    | with_reducible assumption | with_reducible apply dirCmd_mode | with_reducible apply fresh_mode | with_reducible apply channelCtl_mode
    | with_reducible apply foldl_mode | with_reducible apply ite_mode | decide | with_reducible refine off_ne ?_ | with_reducible refine off_lt ?_
    | intro _ | split | contradiction | dsimp only

theorem execEventCopyArrival_mode (e1 : EngineId) (s : State) (t : State) (e : execEventCopyArrival e1 s = .next t) : Mode s t := by
  have h : Mode s s := Mode.refl s
  unfold execEventCopyArrival at e
  try extract_lets at e
  first | refine next_mode ?_ e | refine need_mode ?_ e
  all_goals repeat' first
    | with_reducible assumption | with_reducible apply copyArrives_mode | with_reducible apply fresh_mode | with_reducible apply foldl_mode
    | with_reducible apply ite_mode | decide | with_reducible refine off_ne ?_ | with_reducible refine off_lt ?_ | intro _ | split | contradiction
    | dsimp only

theorem execMergeWaitExpiry_mode (s : State) (t : State) (e : execMergeWaitExpiry s = .next t) : Mode s t := by
  have h : Mode s s := Mode.refl s
  unfold execMergeWaitExpiry at e
  try extract_lets at e
  first | refine next_mode ?_ e | refine need_mode ?_ e
  all_goals repeat' first
    | with_reducible assumption | with_reducible apply mergeExpire_mode | with_reducible apply fresh_mode | with_reducible apply foldl_mode
    | with_reducible apply ite_mode | decide | with_reducible refine off_ne ?_ | with_reducible refine off_lt ?_ | intro _ | split | contradiction
    | dsimp only

theorem execEventDelivery_mode (ring : Nat) (s : State) (t : State) (e : execEventDelivery ring s = .next t) : Mode s t := by
  have h : Mode s s := Mode.refl s
  unfold execEventDelivery at e
  try extract_lets at e
  first | refine next_mode ?_ e | refine need_mode ?_ e
  all_goals repeat' first
    | with_reducible assumption | with_reducible apply deliver_mode | with_reducible apply fresh_mode | with_reducible apply foldl_mode
    | with_reducible apply ite_mode | decide | with_reducible refine off_ne ?_ | with_reducible refine off_lt ?_ | intro _ | split | contradiction
    | dsimp only

theorem execPublicationDatagram_mode (s : State) (t : State) (e : execPublicationDatagram s = .next t) : Mode s t := by
  have h : Mode s s := Mode.refl s
  unfold execPublicationDatagram at e
  try extract_lets at e
  first | refine next_mode ?_ e | refine need_mode ?_ e
  all_goals repeat' first
    | with_reducible assumption | with_reducible apply pubSend_mode | with_reducible apply fresh_mode | with_reducible apply foldl_mode
    | with_reducible apply ite_mode | decide | with_reducible refine off_ne ?_ | with_reducible refine off_lt ?_ | intro _ | split | contradiction
    | dsimp only

theorem execCanPublication_mode (s : State) (t : State) (e : execCanPublication s = .next t) : Mode s t := by
  have h : Mode s s := Mode.refl s
  unfold execCanPublication at e
  try extract_lets at e
  first | refine next_mode ?_ e | refine need_mode ?_ e
  all_goals repeat' first
    | with_reducible assumption | with_reducible apply pubCan_mode | with_reducible apply fresh_mode | with_reducible apply foldl_mode
    | with_reducible apply ite_mode | decide | with_reducible refine off_ne ?_ | with_reducible refine off_lt ?_ | intro _ | split | contradiction
    | dsimp only

theorem execTrendSample_mode (entry : Nat) (dt : Nat) (s : State) (t : State) (e : execTrendSample entry dt s = .next t) : Mode s t := by
  have h : Mode s s := Mode.refl s
  unfold execTrendSample at e
  try extract_lets at e
  first | refine next_mode ?_ e | refine need_mode ?_ e
  all_goals repeat' first
    | with_reducible assumption | with_reducible apply trendStep_mode | with_reducible apply pass_mode | with_reducible apply fresh_mode
    | with_reducible apply foldl_mode | with_reducible apply ite_mode | decide | with_reducible refine off_ne ?_ | with_reducible refine off_lt ?_
    | intro _ | split | contradiction | dsimp only

theorem execTrendCtl_mode (s : State) (t : State) (e : execTrendCtl s = .next t) : Mode s t := by
  have h : Mode s s := Mode.refl s
  unfold execTrendCtl at e
  try extract_lets at e
  first | refine next_mode ?_ e | refine need_mode ?_ e
  all_goals repeat' first
    | with_reducible assumption | with_reducible apply dirCmd_mode | with_reducible apply fresh_mode | with_reducible apply trendCtl_mode
    | with_reducible apply foldl_mode | with_reducible apply ite_mode | decide | with_reducible refine off_ne ?_ | with_reducible refine off_lt ?_
    | intro _ | split | contradiction | dsimp only

theorem execQuotaSet_mode (s : State) (t : State) (e : execQuotaSet s = .next t) : Mode s t := by
  have h : Mode s s := Mode.refl s
  unfold execQuotaSet at e
  try extract_lets at e
  first | refine next_mode ?_ e | refine need_mode ?_ e
  all_goals repeat' first
    | with_reducible assumption | with_reducible apply dirCmd_mode | with_reducible apply fresh_mode | with_reducible apply quotaSet_mode
    | with_reducible apply foldl_mode | with_reducible apply ite_mode | decide | with_reducible refine off_ne ?_ | with_reducible refine off_lt ?_
    | intro _ | split | contradiction | dsimp only

theorem execElasticSplitApply_mode (s : State) (t : State) (e : execElasticSplitApply s = .next t) : Mode s t := by
  have h : Mode s s := Mode.refl s
  unfold execElasticSplitApply at e
  try extract_lets at e
  first | refine next_mode ?_ e | refine need_mode ?_ e
  all_goals repeat' first
    | with_reducible assumption | with_reducible apply splitApply_mode | with_reducible apply fresh_mode | with_reducible apply foldl_mode
    | with_reducible apply ite_mode | decide | with_reducible refine off_ne ?_ | with_reducible refine off_lt ?_ | intro _ | split | contradiction
    | dsimp only

theorem execHifKick_mode (_v : U32) (s : State) (t : State) (e : execHifKick _v s = .next t) : Mode s t := by
  have h : Mode s s := Mode.refl s
  unfold execHifKick at e
  try extract_lets at e
  first | refine next_mode ?_ e | refine need_mode ?_ e
  all_goals repeat' first
    | with_reducible assumption | with_reducible apply fromSetup_mode | with_reducible apply fresh_mode | with_reducible apply kickNow_mode
    | with_reducible apply foldl_mode | with_reducible apply ite_mode | decide | with_reducible refine off_ne ?_ | with_reducible refine off_lt ?_
    | intro _ | split | contradiction | dsimp only

theorem execDoorbellPoll_mode (s : State) (t : State) (e : execDoorbellPoll s = .next t) : Mode s t := by
  have h : Mode s s := Mode.refl s
  unfold execDoorbellPoll at e
  try extract_lets at e
  first | refine next_mode ?_ e | refine need_mode ?_ e
  all_goals repeat' first
    | with_reducible assumption | with_reducible apply dbRead_mode | with_reducible apply fresh_mode | with_reducible apply foldl_mode
    | with_reducible apply ite_mode | decide | with_reducible refine off_ne ?_ | with_reducible refine off_lt ?_ | intro _ | split | contradiction
    | dsimp only

theorem execDoorbellCompletion_mode (rsp : DoorbellRsp) (s : State) (t : State) (e : execDoorbellCompletion rsp s = .next t) : Mode s t := by
  have h : Mode s s := Mode.refl s
  unfold execDoorbellCompletion at e
  try extract_lets at e
  first | refine next_mode ?_ e | refine need_mode ?_ e
  all_goals repeat' first
    | with_reducible assumption | with_reducible apply doorbells_mode | with_reducible apply fresh_mode | with_reducible apply foldl_mode
    | with_reducible apply ite_mode | decide | with_reducible refine off_ne ?_ | with_reducible refine off_lt ?_ | intro _ | split | contradiction
    | dsimp only

theorem execDescriptorArrival_mode (ring : Nat) (data : Image) (s : State) (t : State) (e : execDescriptorArrival ring data s = .next t) : Mode s t := by
  have h : Mode s s := Mode.refl s
  unfold execDescriptorArrival at e
  try extract_lets at e
  first | refine next_mode ?_ e | refine need_mode ?_ e
  all_goals repeat' first
    | with_reducible assumption | with_reducible apply arrive_mode | with_reducible apply fresh_mode | with_reducible apply foldl_mode
    | with_reducible apply ite_mode | decide | with_reducible refine off_ne ?_ | with_reducible refine off_lt ?_ | intro _ | split | contradiction
    | dsimp only

theorem execPagesEnSet_mode (s : State) (t : State) (e : execPagesEnSet s = .next t) : Mode s t := by
  have h : Mode s s := Mode.refl s
  unfold execPagesEnSet at e
  try extract_lets at e
  first | refine next_mode ?_ e | refine need_mode ?_ e
  all_goals repeat' first
    | with_reducible assumption | with_reducible apply fromSetup_mode | with_reducible apply fresh_mode | with_reducible apply pagesEnable_mode
    | with_reducible apply foldl_mode | with_reducible apply ite_mode | decide | with_reducible refine off_ne ?_ | with_reducible refine off_lt ?_
    | intro _ | split | contradiction | dsimp only

theorem execPagesEnClear_mode (s : State) (t : State) (e : execPagesEnClear s = .next t) : Mode s t := by
  have h : Mode s s := Mode.refl s
  unfold execPagesEnClear at e
  try extract_lets at e
  first | refine next_mode ?_ e | refine need_mode ?_ e
  all_goals repeat' first
    | with_reducible assumption | with_reducible apply fromSetup_mode | with_reducible apply fresh_mode | with_reducible apply pagesDisable_mode
    | with_reducible apply foldl_mode | with_reducible apply ite_mode | decide | with_reducible refine off_ne ?_ | with_reducible refine off_lt ?_
    | intro _ | split | contradiction | dsimp only

theorem execRingEnable_mode (ring : Nat) (ctl : U32) (s : State) (t : State) (e : execRingEnable ring ctl s = .next t) : Mode s t := by
  have h : Mode s s := Mode.refl s
  unfold execRingEnable at e
  try extract_lets at e
  first | refine next_mode ?_ e | refine need_mode ?_ e
  all_goals repeat' first
    | with_reducible assumption | with_reducible apply fromSetup_mode | with_reducible apply fresh_mode | with_reducible apply ringCtl_mode
    | with_reducible apply foldl_mode | with_reducible apply ite_mode | decide | with_reducible refine off_ne ?_ | with_reducible refine off_lt ?_
    | intro _ | split | contradiction | dsimp only

theorem execRingDisable_mode (ring : Nat) (ctl : U32) (s : State) (t : State) (e : execRingDisable ring ctl s = .next t) : Mode s t := by
  have h : Mode s s := Mode.refl s
  unfold execRingDisable at e
  try extract_lets at e
  first | refine next_mode ?_ e | refine need_mode ?_ e
  all_goals repeat' first
    | with_reducible assumption | with_reducible apply fromSetup_mode | with_reducible apply fresh_mode | with_reducible apply ringCtl_mode
    | with_reducible apply foldl_mode | with_reducible apply ite_mode | decide | with_reducible refine off_ne ?_ | with_reducible refine off_lt ?_
    | intro _ | split | contradiction | dsimp only

theorem execStatusPageUpdate_mode (s : State) (t : State) (e : execStatusPageUpdate s = .next t) : Mode s t := by
  have h : Mode s s := Mode.refl s
  unfold execStatusPageUpdate at e
  try extract_lets at e
  first | refine next_mode ?_ e | refine need_mode ?_ e
  all_goals repeat' first
    | with_reducible assumption | with_reducible apply pageTick_mode | with_reducible apply fresh_mode | with_reducible apply foldl_mode
    | with_reducible apply ite_mode | decide | with_reducible refine off_ne ?_ | with_reducible refine off_lt ?_ | intro _ | split | contradiction
    | dsimp only

theorem execRingModerationTimeout_mode (ring : Nat) (s : State) (t : State) (e : execRingModerationTimeout ring s = .next t) : Mode s t := by
  have h : Mode s s := Mode.refl s
  unfold execRingModerationTimeout at e
  try extract_lets at e
  first | refine next_mode ?_ e | refine need_mode ?_ e
  all_goals repeat' first
    | with_reducible assumption | with_reducible apply fresh_mode | with_reducible apply sendVector_mode | with_reducible apply updHif_mode
    | with_reducible apply foldl_mode | with_reducible apply ite_mode | decide | with_reducible refine off_ne ?_ | with_reducible refine off_lt ?_
    | intro _ | split | contradiction | dsimp only

theorem execMsixVectorUnmask_mode (vec : Nat) (s : State) (t : State) (e : execMsixVectorUnmask vec s = .next t) : Mode s t := by
  have h : Mode s s := Mode.refl s
  unfold execMsixVectorUnmask at e
  try extract_lets at e
  first | refine next_mode ?_ e | refine need_mode ?_ e
  all_goals repeat' first
    | with_reducible assumption | with_reducible apply fromSetup_mode | with_reducible apply fresh_mode | with_reducible apply unmask_mode
    | with_reducible apply foldl_mode | with_reducible apply ite_mode | decide | with_reducible refine off_ne ?_ | with_reducible refine off_lt ?_
    | intro _ | split | contradiction | dsimp only

theorem execFlr_mode (s : State) (t : State) (e : execFlr s = .next t) : Mode s t := by
  have h : Mode s s := Mode.refl s
  unfold execFlr at e
  try extract_lets at e
  first | refine next_mode ?_ e | refine need_mode ?_ e
  all_goals repeat' first
    | with_reducible assumption | with_reducible apply bump_mode | with_reducible apply hifReset_mode | with_reducible apply fresh_mode
    | with_reducible apply foldl_mode | with_reducible apply ite_mode | decide | with_reducible refine off_ne ?_ | with_reducible refine off_lt ?_
    | intro _ | split | contradiction | dsimp only

theorem execPerstNAssert_mode (s : State) (t : State) (e : execPerstNAssert s = .next t) : Mode s t := by
  have h : Mode s s := Mode.refl s
  unfold execPerstNAssert at e
  try extract_lets at e
  first | refine next_mode ?_ e | refine need_mode ?_ e
  all_goals repeat' first
    | with_reducible assumption | with_reducible apply linkLost_mode | with_reducible apply fresh_mode | with_reducible apply foldl_mode
    | with_reducible apply ite_mode | decide | with_reducible refine off_ne ?_ | with_reducible refine off_lt ?_ | intro _ | split | contradiction
    | dsimp only

theorem execLinkDown_mode (s : State) (t : State) (e : execLinkDown s = .next t) : Mode s t := by
  have h : Mode s s := Mode.refl s
  unfold execLinkDown at e
  try extract_lets at e
  first | refine next_mode ?_ e | refine need_mode ?_ e
  all_goals repeat' first
    | with_reducible assumption | with_reducible apply linkLost_mode | with_reducible apply fresh_mode | with_reducible apply foldl_mode
    | with_reducible apply ite_mode | decide | with_reducible refine off_ne ?_ | with_reducible refine off_lt ?_ | intro _ | split | contradiction
    | dsimp only

theorem execD3hotEntry_mode (s : State) (t : State) (e : execD3hotEntry s = .next t) : Mode s t := by
  have h : Mode s s := Mode.refl s
  unfold execD3hotEntry at e
  try extract_lets at e
  first | refine next_mode ?_ e | refine need_mode ?_ e
  all_goals repeat' first
    | with_reducible assumption | with_reducible apply fresh_mode | with_reducible apply updHif_mode | with_reducible apply linkLost_mode
    | with_reducible apply foldl_mode | with_reducible apply ite_mode | decide | with_reducible refine off_ne ?_ | with_reducible refine off_lt ?_
    | intro _ | split | contradiction | dsimp only

theorem execLinkUp_mode (speed : Nat) (width : Nat) (s : State) (t : State) (e : execLinkUp speed width s = .next t) : Mode s t := by
  have h : Mode s s := Mode.refl s
  unfold execLinkUp at e
  try extract_lets at e
  first | refine next_mode ?_ e | refine need_mode ?_ e
  all_goals repeat' first
    | with_reducible assumption | with_reducible apply fresh_mode | with_reducible apply linkTrain_mode | with_reducible apply foldl_mode
    | with_reducible apply ite_mode | decide | with_reducible refine off_ne ?_ | with_reducible refine off_lt ?_ | intro _ | split | contradiction
    | dsimp only

theorem execLegEvtW0Read_mode (s : State) (t : State) (e : execLegEvtW0Read s = .next t) : Mode s t := by
  have h : Mode s s := Mode.refl s
  unfold execLegEvtW0Read at e
  try extract_lets at e
  first | refine next_mode ?_ e | refine need_mode ?_ e
  all_goals repeat' first
    | with_reducible assumption | with_reducible apply legW0Read_mode | with_reducible apply fresh_mode | with_reducible apply foldl_mode
    | with_reducible apply ite_mode | decide | with_reducible refine off_ne ?_ | with_reducible refine off_lt ?_ | intro _ | split | contradiction
    | dsimp only

theorem execLegEvtW3Read_mode (s : State) (t : State) (e : execLegEvtW3Read s = .next t) : Mode s t := by
  have h : Mode s s := Mode.refl s
  unfold execLegEvtW3Read at e
  try extract_lets at e
  first | refine next_mode ?_ e | refine need_mode ?_ e
  all_goals repeat' first
    | with_reducible assumption | with_reducible apply legW3Read_mode | with_reducible apply fresh_mode | with_reducible apply foldl_mode
    | with_reducible apply ite_mode | decide | with_reducible refine off_ne ?_ | with_reducible refine off_lt ?_ | intro _ | split | contradiction
    | dsimp only

theorem execLegFlush_mode (s : State) (t : State) (e : execLegFlush s = .next t) : Mode s t := by
  have h : Mode s s := Mode.refl s
  unfold execLegFlush at e
  try extract_lets at e
  first | refine next_mode ?_ e | refine need_mode ?_ e
  all_goals repeat' first
    | with_reducible assumption | with_reducible apply fromSetup_mode | with_reducible apply fresh_mode | with_reducible apply legFlush_mode
    | with_reducible apply foldl_mode | with_reducible apply ite_mode | decide | with_reducible refine off_ne ?_ | with_reducible refine off_lt ?_
    | intro _ | split | contradiction | dsimp only

theorem execSpawnCtl_mode (img : Image) (s : State) (t : State) (e : execSpawnCtl img s = .next t) : Mode s t := by
  have h : Mode s s := Mode.refl s
  unfold execSpawnCtl at e
  try extract_lets at e
  first | refine next_mode ?_ e | refine need_mode ?_ e
  all_goals repeat' first
    | with_reducible assumption | with_reducible apply dirCmd_mode | with_reducible apply fresh_mode | with_reducible apply spawnCtl_mode
    | with_reducible apply foldl_mode | with_reducible apply ite_mode | decide | with_reducible refine off_ne ?_ | with_reducible refine off_lt ?_
    | intro _ | split | contradiction | dsimp only

theorem execSpawnTrigger_mode (s : State) (t : State) (e : execSpawnTrigger s = .next t) : Mode s t := by
  have h : Mode s s := Mode.refl s
  unfold execSpawnTrigger at e
  try extract_lets at e
  first | refine next_mode ?_ e | refine need_mode ?_ e
  all_goals repeat' first
    | with_reducible assumption | with_reducible apply dirCmd_mode | with_reducible apply fresh_mode | with_reducible apply spawnTrigger_mode
    | with_reducible apply foldl_mode | with_reducible apply ite_mode | decide | with_reducible refine off_ne ?_ | with_reducible refine off_lt ?_
    | intro _ | split | contradiction | dsimp only

theorem execSnapshotMarkOffer_mode (s : State) (t : State) (e : execSnapshotMarkOffer s = .next t) : Mode s t := by
  have h : Mode s s := Mode.refl s
  unfold execSnapshotMarkOffer at e
  try extract_lets at e
  first | refine next_mode ?_ e | refine need_mode ?_ e
  all_goals repeat' first
    | with_reducible assumption | with_reducible apply markOffer_mode | with_reducible apply fresh_mode | with_reducible apply foldl_mode
    | with_reducible apply ite_mode | decide | with_reducible refine off_ne ?_ | with_reducible refine off_lt ?_ | intro _ | split | contradiction
    | dsimp only

theorem execSnapshotCopyComplete_mode (s : State) (t : State) (e : execSnapshotCopyComplete s = .next t) : Mode s t := by
  have h : Mode s s := Mode.refl s
  unfold execSnapshotCopyComplete at e
  try extract_lets at e
  first | refine next_mode ?_ e | refine need_mode ?_ e
  all_goals repeat' first
    | with_reducible assumption | with_reducible apply copyComplete_mode | with_reducible apply fresh_mode | with_reducible apply foldl_mode
    | with_reducible apply ite_mode | decide | with_reducible refine off_ne ?_ | with_reducible refine off_lt ?_ | intro _ | split | contradiction
    | dsimp only

theorem execSnapTimeout_mode (s : State) (t : State) (e : execSnapTimeout s = .next t) : Mode s t := by
  have h : Mode s s := Mode.refl s
  unfold execSnapTimeout at e
  try extract_lets at e
  first | refine next_mode ?_ e | refine need_mode ?_ e
  all_goals repeat' first
    | with_reducible assumption | with_reducible apply snapExpire_mode | with_reducible apply fresh_mode | with_reducible apply foldl_mode
    | with_reducible apply ite_mode | decide | with_reducible refine off_ne ?_ | with_reducible refine off_lt ?_ | intro _ | split | contradiction
    | dsimp only

theorem execSpawnOutBufferWrite_mode (s : State) (addr : (Option Nat)) (t : State) (e : execSpawnOutBufferWrite s addr = .next t) : Mode s t := by
  have h : Mode s s := Mode.refl s
  unfold execSpawnOutBufferWrite at e
  try extract_lets at e
  first | refine next_mode ?_ e | refine need_mode ?_ e
  all_goals repeat' first
    | with_reducible assumption | with_reducible apply spawnOut_mode | with_reducible apply fresh_mode | with_reducible apply foldl_mode
    | with_reducible apply ite_mode | decide | with_reducible refine off_ne ?_ | with_reducible refine off_lt ?_ | intro _ | split | contradiction
    | dsimp only

theorem execCheckpoint_mode (s : State) (t : State) (e : execCheckpoint s = .next t) : Mode s t := by
  have h : Mode s s := Mode.refl s
  unfold execCheckpoint at e
  try extract_lets at e
  first | refine next_mode ?_ e | refine need_mode ?_ e
  all_goals repeat' first
    | with_reducible assumption | with_reducible apply takeCkpt_mode | with_reducible apply fresh_mode | with_reducible apply foldl_mode
    | with_reducible apply ite_mode | decide | with_reducible refine off_ne ?_ | with_reducible refine off_lt ?_ | intro _ | split | contradiction
    | dsimp only

theorem execWindowFreeze_mode (s : State) (t : State) (e : execWindowFreeze s = .next t) : Mode s t := by
  have h : Mode s s := Mode.refl s
  unfold execWindowFreeze at e
  try extract_lets at e
  first | refine next_mode ?_ e | refine need_mode ?_ e
  all_goals repeat' first
    | with_reducible assumption | with_reducible apply freeze_mode | with_reducible apply fresh_mode | with_reducible apply foldl_mode
    | with_reducible apply ite_mode | decide | with_reducible refine off_ne ?_ | with_reducible refine off_lt ?_ | intro _ | split | contradiction
    | dsimp only

theorem execScrubSlot_mode (bank : Nat) (s : State) (t : State) (e : execScrubSlot bank s = .next t) : Mode s t := by
  have h : Mode s s := Mode.refl s
  unfold execScrubSlot at e
  try extract_lets at e
  first | refine next_mode ?_ e | refine need_mode ?_ e
  all_goals repeat' first
    | with_reducible assumption | with_reducible apply scrubSlot_mode | with_reducible apply fresh_mode | with_reducible apply foldl_mode
    | with_reducible apply ite_mode | decide | with_reducible refine off_ne ?_ | with_reducible refine off_lt ?_ | intro _ | split | contradiction
    | dsimp only

theorem execTarnCorrectedError_mode (off : Off) (s : State) (t : State) (e : execTarnCorrectedError off s = .next t) : Mode s t := by
  have h : Mode s s := Mode.refl s
  unfold execTarnCorrectedError at e
  try extract_lets at e
  first | refine next_mode ?_ e | refine need_mode ?_ e
  all_goals repeat' first
    | with_reducible assumption | with_reducible apply correctedError_mode | with_reducible apply fresh_mode | with_reducible apply foldl_mode
    | with_reducible apply ite_mode | decide | with_reducible refine off_ne ?_ | with_reducible refine off_lt ?_ | intro _ | split | contradiction
    | dsimp only

theorem execTarnUncorrectable_mode (off : Off) (s : State) (t : State) (e : execTarnUncorrectable off s = .next t) : Mode s t := by
  have h : Mode s s := Mode.refl s
  unfold execTarnUncorrectable at e
  try extract_lets at e
  first | refine next_mode ?_ e | refine need_mode ?_ e
  all_goals repeat' first
    | with_reducible assumption | with_reducible apply uncorrectable_mode | with_reducible apply fresh_mode | with_reducible apply foldl_mode
    | with_reducible apply ite_mode | decide | with_reducible refine off_ne ?_ | with_reducible refine off_lt ?_ | intro _ | split | contradiction
    | dsimp only

theorem execTcmScrub_mode (corrected : Nat) (s : State) (t : State) (e : execTcmScrub corrected s = .next t) : Mode s t := by
  have h : Mode s s := Mode.refl s
  unfold execTcmScrub at e
  try extract_lets at e
  first | refine next_mode ?_ e | refine need_mode ?_ e
  all_goals repeat' first
    | with_reducible assumption | with_reducible apply tcmScrub_mode | with_reducible apply fresh_mode | with_reducible apply foldl_mode
    | with_reducible apply ite_mode | decide | with_reducible refine off_ne ?_ | with_reducible refine off_lt ?_ | intro _ | split | contradiction
    | dsimp only

theorem execTcmUncorrectable_mode (s t : State) (e : execTcmUncorrectable s = .next t) : Mode s t := by
  unfold execTcmUncorrectable at e
  refine next_mode (ite_mode _ _ _ (fun g => haltNode_mode _ _ _ (fresh_mode _ (Mode.refl s)) ?_) (fun _ => fresh_mode _ (Mode.refl s))) e
  simp only [State.running, Bool.or_eq_true, beq_iff_eq] at g
  rcases g with g | g | g <;> simp [g]

theorem execSettingsJournalWrite_mode (sectorFail : Bool) (s : State) (t : State) (e : execSettingsJournalWrite sectorFail s = .next t) : Mode s t := by
  have h : Mode s s := Mode.refl s
  unfold execSettingsJournalWrite at e
  try extract_lets at e
  first | refine next_mode ?_ e | refine need_mode ?_ e
  all_goals repeat' first
    | with_reducible assumption | with_reducible apply journalWrite_mode | with_reducible apply fresh_mode | with_reducible apply foldl_mode
    | with_reducible apply ite_mode | decide | with_reducible refine off_ne ?_ | with_reducible refine off_lt ?_ | intro _ | split | contradiction
    | dsimp only

theorem execBaseGenerationStart_mode (s : State) (t : State) (e : execBaseGenerationStart s = .next t) : Mode s t := by
  have h : Mode s s := Mode.refl s
  unfold execBaseGenerationStart at e
  try extract_lets at e
  first | refine next_mode ?_ e | refine need_mode ?_ e
  all_goals repeat' first
    | with_reducible assumption | with_reducible apply fresh_mode | with_reducible apply startBase_mode | with_reducible apply foldl_mode
    | with_reducible apply ite_mode | decide | with_reducible refine off_ne ?_ | with_reducible refine off_lt ?_ | intro _ | split | contradiction
    | dsimp only

theorem execBaseGenerationDurable_mode (s : State) (t : State) (e : execBaseGenerationDurable s = .next t) : Mode s t := by
  have h : Mode s s := Mode.refl s
  unfold execBaseGenerationDurable at e
  try extract_lets at e
  first | refine next_mode ?_ e | refine need_mode ?_ e
  all_goals repeat' first
    | with_reducible assumption | with_reducible apply baseDurable_mode | with_reducible apply fresh_mode | with_reducible apply foldl_mode
    | with_reducible apply ite_mode | decide | with_reducible refine off_ne ?_ | with_reducible refine off_lt ?_ | intro _ | split | contradiction
    | dsimp only

theorem execDigestRewrite_mode (s : State) (t : State) (e : execDigestRewrite s = .next t) : Mode s t := by
  have h : Mode s s := Mode.refl s
  unfold execDigestRewrite at e
  try extract_lets at e
  first | refine next_mode ?_ e | refine need_mode ?_ e
  all_goals repeat' first
    | with_reducible assumption | with_reducible apply digestRewrite_mode | with_reducible apply fresh_mode | with_reducible apply foldl_mode
    | with_reducible apply ite_mode | decide | with_reducible refine off_ne ?_ | with_reducible refine off_lt ?_ | intro _ | split | contradiction
    | dsimp only

theorem execTelemetry_mode (t1 : TelemEnv) (dt : Nat) (s : State) (t : State) (e : execTelemetry t1 dt s = .next t) : Mode s t := by
  have h : Mode s s := Mode.refl s
  unfold execTelemetry at e
  try extract_lets at e
  first | refine next_mode ?_ e | refine need_mode ?_ e
  all_goals repeat' first
    | with_reducible assumption | with_reducible apply telemetry_mode | with_reducible apply pass_mode | with_reducible apply fresh_mode
    | with_reducible apply foldl_mode | with_reducible apply ite_mode | decide | with_reducible refine off_ne ?_ | with_reducible refine off_lt ?_
    | intro _ | split | contradiction | dsimp only

theorem execLegPtWrite_mode (s : State) (t : State) (e : execLegPtWrite s = .next t) : Mode s t := by
  have h : Mode s s := Mode.refl s
  unfold execLegPtWrite at e
  try extract_lets at e
  first | refine next_mode ?_ e | refine need_mode ?_ e
  all_goals repeat' first
    | with_reducible assumption | with_reducible apply legPtWrite_mode | with_reducible apply fresh_mode | with_reducible apply foldl_mode
    | with_reducible apply ite_mode | decide | with_reducible refine off_ne ?_ | with_reducible refine off_lt ?_ | intro _ | split | contradiction
    | dsimp only

theorem execLegPtRead_mode (s : State) (t : State) (e : execLegPtRead s = .next t) : Mode s t := by
  have h : Mode s s := Mode.refl s
  unfold execLegPtRead at e
  try extract_lets at e
  first | refine next_mode ?_ e | refine need_mode ?_ e
  all_goals repeat' first
    | with_reducible assumption | with_reducible apply legPtRead_mode | with_reducible apply fresh_mode | with_reducible apply foldl_mode
    | with_reducible apply ite_mode | decide | with_reducible refine off_ne ?_ | with_reducible refine off_lt ?_ | intro _ | split | contradiction
    | dsimp only

theorem execEngineFailure_mode (e1 : EngineId) (cause : Nat) (s : State) (t : State) (e : execEngineFailure e1 cause s = .next t) : Mode s t := by
  have h : Mode s s := Mode.refl s
  unfold execEngineFailure at e
  try extract_lets at e
  first | refine next_mode ?_ e | refine need_mode ?_ e
  all_goals repeat' first
    | with_reducible assumption | with_reducible apply fresh_mode | with_reducible apply failEngine_mode | with_reducible apply foldl_mode
    | with_reducible apply ite_mode | decide | with_reducible refine off_ne ?_ | with_reducible refine off_lt ?_ | intro _ | split | contradiction
    | dsimp only

theorem execTickStall_mode (e1 : EngineId) (s : State) (t : State) (e : execTickStall e1 s = .next t) : Mode s t := by
  have h : Mode s s := Mode.refl s
  unfold execTickStall at e
  try extract_lets at e
  first | refine next_mode ?_ e | refine need_mode ?_ e
  all_goals repeat' first
    | with_reducible assumption | with_reducible apply fresh_mode | with_reducible apply failEngine_mode | with_reducible apply foldl_mode
    | with_reducible apply ite_mode | decide | with_reducible refine off_ne ?_ | with_reducible refine off_lt ?_ | intro _ | split | contradiction
    | dsimp only

theorem execHoldGrant_mode (s : State) (t : State) (e : execHoldGrant s = .next t) : Mode s t := by
  have h : Mode s s := Mode.refl s
  unfold execHoldGrant at e
  try extract_lets at e
  first | refine next_mode ?_ e | refine need_mode ?_ e
  all_goals repeat' first
    | with_reducible assumption | with_reducible apply takeOver_mode | with_reducible apply fresh_mode | with_reducible apply foldl_mode
    | with_reducible apply ite_mode | decide | with_reducible refine off_ne ?_ | with_reducible refine off_lt ?_ | intro _ | split | contradiction
    | dsimp only

theorem execTakeBack_mode (s : State) (t : State) (e : execTakeBack s = .next t) : Mode s t := by
  have h : Mode s s := Mode.refl s
  unfold execTakeBack at e
  try extract_lets at e
  first | refine next_mode ?_ e | refine need_mode ?_ e
  all_goals repeat' first
    | with_reducible assumption | with_reducible apply takeBack_mode | with_reducible apply fresh_mode | with_reducible apply foldl_mode
    | with_reducible apply ite_mode | decide | with_reducible refine off_ne ?_ | with_reducible refine off_lt ?_ | intro _ | split | contradiction
    | dsimp only

theorem execEngineReturnTest_mode (e1 : EngineId) (pass : Bool) (s : State) (t : State) (e : execEngineReturnTest e1 pass s = .next t) : Mode s t := by
  have h : Mode s s := Mode.refl s
  unfold execEngineReturnTest at e
  try extract_lets at e
  first | refine next_mode ?_ e | refine need_mode ?_ e
  all_goals repeat' first
    | with_reducible assumption | with_reducible apply returnTest_mode | with_reducible apply fresh_mode | with_reducible apply foldl_mode
    | with_reducible apply ite_mode | decide | with_reducible refine off_ne ?_ | with_reducible refine off_lt ?_ | intro _ | split | contradiction
    | dsimp only

theorem execStateCopyComplete_mode (verified : Bool) (s : State) (t : State) (e : execStateCopyComplete verified s = .next t) : Mode s t := by
  have h : Mode s s := Mode.refl s
  unfold execStateCopyComplete at e
  try extract_lets at e
  first | refine next_mode ?_ e | refine need_mode ?_ e
  all_goals repeat' first
    | with_reducible assumption | with_reducible apply copyDone_mode | with_reducible apply fresh_mode | with_reducible apply foldl_mode
    | with_reducible apply ite_mode | decide | with_reducible refine off_ne ?_ | with_reducible refine off_lt ?_ | intro _ | split | contradiction
    | dsimp only

theorem execReturnHoldoffExpiry_mode (e1 : EngineId) (s : State) (t : State) (e : execReturnHoldoffExpiry e1 s = .next t) : Mode s t := by
  have h : Mode s s := Mode.refl s
  unfold execReturnHoldoffExpiry at e
  try extract_lets at e
  first | refine next_mode ?_ e | refine need_mode ?_ e
  all_goals repeat' first
    | with_reducible assumption | with_reducible apply holdoffOver_mode | with_reducible apply fresh_mode | with_reducible apply foldl_mode
    | with_reducible apply ite_mode | decide | with_reducible refine off_ne ?_ | with_reducible refine off_lt ?_ | intro _ | split | contradiction
    | dsimp only

theorem execAuditOffer_mode (s : State) (t : State) (e : execAuditOffer s = .next t) : Mode s t := by
  have h : Mode s s := Mode.refl s
  unfold execAuditOffer at e
  try extract_lets at e
  first | refine next_mode ?_ e | refine need_mode ?_ e
  all_goals repeat' first
    | with_reducible assumption | with_reducible apply auditOffer_mode | with_reducible apply fresh_mode | with_reducible apply foldl_mode
    | with_reducible apply ite_mode | decide | with_reducible refine off_ne ?_ | with_reducible refine off_lt ?_ | intro _ | split | contradiction
    | dsimp only

theorem execAuditCompare_mode (s : State) (t : State) (e : execAuditCompare s = .next t) : Mode s t := by
  have h : Mode s s := Mode.refl s
  unfold execAuditCompare at e
  try extract_lets at e
  first | refine next_mode ?_ e | refine need_mode ?_ e
  all_goals repeat' first
    | with_reducible assumption | with_reducible apply auditCompare_mode | with_reducible apply fresh_mode | with_reducible apply foldl_mode
    | with_reducible apply ite_mode | decide | with_reducible refine off_ne ?_ | with_reducible refine off_lt ?_ | intro _ | split | contradiction
    | dsimp only

theorem execDivergeResolution_mode (s : State) (t : State) (e : execDivergeResolution s = .next t) : Mode s t := by
  have h : Mode s s := Mode.refl s
  unfold execDivergeResolution at e
  try extract_lets at e
  first | refine next_mode ?_ e | refine need_mode ?_ e
  all_goals repeat' first
    | with_reducible assumption | with_reducible apply resolve_mode | with_reducible apply fresh_mode | with_reducible apply foldl_mode
    | with_reducible apply ite_mode | decide | with_reducible refine off_ne ?_ | with_reducible refine off_lt ?_ | intro _ | split | contradiction
    | dsimp only

theorem execAeInject_mode (e1 : EngineId) (v : U32) (s : State) (t : State) (e : execAeInject e1 v s = .next t) : Mode s t := by
  have h : Mode s s := Mode.refl s
  unfold execAeInject at e
  try extract_lets at e
  first | refine next_mode ?_ e | refine need_mode ?_ e
  all_goals repeat' first
    | with_reducible assumption | with_reducible apply inject_mode | with_reducible apply fresh_mode | with_reducible apply foldl_mode
    | with_reducible apply ite_mode | decide | with_reducible refine off_ne ?_ | with_reducible refine off_lt ?_ | intro _ | split | contradiction
    | dsimp only

theorem execEngineCtl_mode (s : State) (t : State) (e : execEngineCtl s = .next t) : Mode s t := by
  have h : Mode s s := Mode.refl s
  unfold execEngineCtl at e
  try extract_lets at e
  first | refine next_mode ?_ e | refine need_mode ?_ e
  all_goals repeat' first
    | with_reducible assumption | with_reducible apply dirCmd_mode | with_reducible apply fresh_mode | with_reducible apply engineCtl_mode
    | with_reducible apply foldl_mode | with_reducible apply ite_mode | decide | with_reducible refine off_ne ?_ | with_reducible refine off_lt ?_
    | intro _ | split | contradiction | dsimp only

theorem execIntlkInChange_mode (high : Bool) (s : State) (t : State) (e : execIntlkInChange high s = .next t) : Mode s t := by
  have h : Mode s s := Mode.refl s
  unfold execIntlkInChange at e
  try extract_lets at e
  first | refine next_mode ?_ e | refine need_mode ?_ e
  all_goals repeat' first
    | with_reducible assumption | with_reducible apply intlkIn_mode | with_reducible apply fresh_mode | with_reducible apply foldl_mode
    | with_reducible apply ite_mode | decide | with_reducible refine off_ne ?_ | with_reducible refine off_lt ?_ | intro _ | split | contradiction
    | dsimp only

theorem execPairClaim_mode (s : State) (t : State) (e : execPairClaim s = .next t) : Mode s t := by
  have h : Mode s s := Mode.refl s
  unfold execPairClaim at e
  try extract_lets at e
  first | refine next_mode ?_ e | refine need_mode ?_ e
  all_goals repeat' first
    | with_reducible assumption | with_reducible apply pairClaim_mode | with_reducible apply fresh_mode | with_reducible apply foldl_mode
    | with_reducible apply ite_mode | decide | with_reducible refine off_ne ?_ | with_reducible refine off_lt ?_ | intro _ | split | contradiction
    | dsimp only

theorem execPairRelease_mode (s : State) (t : State) (e : execPairRelease s = .next t) : Mode s t := by
  have h : Mode s s := Mode.refl s
  unfold execPairRelease at e
  try extract_lets at e
  first | refine next_mode ?_ e | refine need_mode ?_ e
  all_goals repeat' first
    | with_reducible assumption | with_reducible apply pairRelease_mode | with_reducible apply fresh_mode | with_reducible apply foldl_mode
    | with_reducible apply ite_mode | decide | with_reducible refine off_ne ?_ | with_reducible refine off_lt ?_ | intro _ | split | contradiction
    | dsimp only

theorem execPairSenseChange_mode (high : Bool) (s : State) (t : State) (e : execPairSenseChange high s = .next t) : Mode s t := by
  have h : Mode s s := Mode.refl s
  unfold execPairSenseChange at e
  try extract_lets at e
  first | refine next_mode ?_ e | refine need_mode ?_ e
  all_goals repeat' first
    | with_reducible assumption | with_reducible apply pairSense_mode | with_reducible apply fresh_mode | with_reducible apply foldl_mode
    | with_reducible apply ite_mode | decide | with_reducible refine off_ne ?_ | with_reducible refine off_lt ?_ | intro _ | split | contradiction
    | dsimp only

theorem execTimeAdj_mode (dt : Nat) (s : State) (t : State) (e : execTimeAdj dt s = .next t) : Mode s t := by
  have h : Mode s s := Mode.refl s
  unfold execTimeAdj at e
  try extract_lets at e
  first | refine next_mode ?_ e | refine need_mode ?_ e
  all_goals repeat' first
    | with_reducible assumption | with_reducible apply pass_mode | with_reducible apply fresh_mode | with_reducible apply tmoEdges_mode
    | with_reducible apply dirCmd_mode | with_reducible apply timeAdj_mode | with_reducible apply foldl_mode | with_reducible apply ite_mode | decide
    | with_reducible refine off_ne ?_ | with_reducible refine off_lt ?_ | intro _ | split | contradiction | dsimp only

theorem execTimeSwitch_mode (s : State) (t : State) (e : execTimeSwitch s = .next t) : Mode s t := by
  have h : Mode s s := Mode.refl s
  unfold execTimeSwitch at e
  try extract_lets at e
  first | refine next_mode ?_ e | refine need_mode ?_ e
  all_goals repeat' first
    | with_reducible assumption | with_reducible apply fresh_mode | with_reducible apply pass_mode | with_reducible apply foldl_mode
    | with_reducible apply ite_mode | decide | with_reducible refine off_ne ?_ | with_reducible refine off_lt ?_ | intro _ | split | contradiction
    | dsimp only

theorem execPtpSyncReceived_mode (port : Nat) (m : PtpSync) (dt : Nat) (s : State) (t : State) (e : execPtpSyncReceived port m dt s = .next t) : Mode s t := by
  have h : Mode s s := Mode.refl s
  unfold execPtpSyncReceived at e
  try extract_lets at e
  first | refine next_mode ?_ e | refine need_mode ?_ e
  all_goals repeat' first
    | with_reducible assumption | with_reducible apply pass_mode | with_reducible apply fresh_mode | with_reducible apply tmoEdges_mode
    | with_reducible apply syncReceived_mode | with_reducible apply foldl_mode | with_reducible apply ite_mode | decide
    | with_reducible refine off_ne ?_ | with_reducible refine off_lt ?_ | intro _ | split | contradiction | dsimp only

theorem execPtpDelayRespReceived_mode (port : Nat) (m : PtpDelayResp) (s : State) (t : State) (e : execPtpDelayRespReceived port m s = .next t) : Mode s t := by
  have h : Mode s s := Mode.refl s
  unfold execPtpDelayRespReceived at e
  try extract_lets at e
  first | refine next_mode ?_ e | refine need_mode ?_ e
  all_goals repeat' first
    | with_reducible assumption | with_reducible apply delayResp_mode | with_reducible apply fresh_mode | with_reducible apply foldl_mode
    | with_reducible apply ite_mode | decide | with_reducible refine off_ne ?_ | with_reducible refine off_lt ?_ | intro _ | split | contradiction
    | dsimp only

theorem execPtpAnnounceReceived_mode (port : Nat) (m : PtpAnnounce) (s : State) (t : State) (e : execPtpAnnounceReceived port m s = .next t) : Mode s t := by
  have h : Mode s s := Mode.refl s
  unfold execPtpAnnounceReceived at e
  try extract_lets at e
  first | refine next_mode ?_ e | refine need_mode ?_ e
  all_goals repeat' first
    | with_reducible assumption | with_reducible apply announce_mode | with_reducible apply pass_mode | with_reducible apply fresh_mode
    | with_reducible apply foldl_mode | with_reducible apply ite_mode | decide | with_reducible refine off_ne ?_ | with_reducible refine off_lt ?_
    | intro _ | split | contradiction | dsimp only

theorem execDelayReqSend_mode (dt : Nat) (s : State) (t : State) (e : execDelayReqSend dt s = .next t) : Mode s t := by
  have h : Mode s s := Mode.refl s
  unfold execDelayReqSend at e
  try extract_lets at e
  first | refine next_mode ?_ e | refine need_mode ?_ e
  all_goals repeat' first
    | with_reducible assumption | with_reducible apply sendDelayReq_mode | with_reducible apply pass_mode | with_reducible apply fresh_mode
    | with_reducible apply foldl_mode | with_reducible apply ite_mode | decide | with_reducible refine off_ne ?_ | with_reducible refine off_lt ?_
    | intro _ | split | contradiction | dsimp only

theorem execMasterLoss_mode (s : State) (t : State) (e : execMasterLoss s = .next t) : Mode s t := by
  have h : Mode s s := Mode.refl s
  unfold execMasterLoss at e
  try extract_lets at e
  first | refine next_mode ?_ e | refine need_mode ?_ e
  all_goals repeat' first
    | with_reducible assumption | with_reducible apply loseMaster_mode | with_reducible apply fresh_mode | with_reducible apply foldl_mode
    | with_reducible apply ite_mode | decide | with_reducible refine off_ne ?_ | with_reducible refine off_lt ?_ | intro _ | split | contradiction
    | dsimp only

theorem execAcquireTimeout_mode (s : State) (t : State) (e : execAcquireTimeout s = .next t) : Mode s t := by
  have h : Mode s s := Mode.refl s
  unfold execAcquireTimeout at e
  try extract_lets at e
  first | refine next_mode ?_ e | refine need_mode ?_ e
  all_goals repeat' first
    | with_reducible assumption | with_reducible apply acquireAgain_mode | with_reducible apply fresh_mode | with_reducible apply foldl_mode
    | with_reducible apply ite_mode | decide | with_reducible refine off_ne ?_ | with_reducible refine off_lt ?_ | intro _ | split | contradiction
    | dsimp only

theorem execHostTimeout_mode (s : State) (t : State) (e : execHostTimeout s = .next t) : Mode s t := by
  have h : Mode s s := Mode.refl s
  unfold execHostTimeout at e
  try extract_lets at e
  first | refine next_mode ?_ e | refine need_mode ?_ e
  all_goals repeat' first
    | with_reducible assumption | with_reducible apply fresh_mode | with_reducible apply updWs_mode | with_reducible apply foldl_mode
    | with_reducible apply ite_mode | decide | with_reducible refine off_ne ?_ | with_reducible refine off_lt ?_ | intro _ | split | contradiction
    | dsimp only

theorem execEthFrameReceived_mode (port : Nat) (fr : EthRx) (dt : Nat) (s : State) (t : State) (e : execEthFrameReceived port fr dt s = .next t) : Mode s t := by
  have h : Mode s s := Mode.refl s
  unfold execEthFrameReceived at e
  try extract_lets at e
  first | refine next_mode ?_ e | refine need_mode ?_ e
  all_goals repeat' first
    | with_reducible assumption | with_reducible apply ethReceive_mode | with_reducible apply pass_mode | with_reducible apply fresh_mode
    | with_reducible apply foldl_mode | with_reducible apply ite_mode | decide | with_reducible refine off_ne ?_ | with_reducible refine off_lt ?_
    | intro _ | split | contradiction | dsimp only

theorem execEthTxFrame_mode (port : Nat) (f : EthTx) (s : State) (t : State) (e : execEthTxFrame port f s = .next t) : Mode s t := by
  have h : Mode s s := Mode.refl s
  unfold execEthTxFrame at e
  try extract_lets at e
  first | refine next_mode ?_ e | refine need_mode ?_ e
  all_goals repeat' first
    | with_reducible assumption | with_reducible apply ethTransmit_mode | with_reducible apply pass_mode | with_reducible apply fresh_mode
    | with_reducible apply foldl_mode | with_reducible apply ite_mode | decide | with_reducible refine off_ne ?_ | with_reducible refine off_lt ?_
    | intro _ | split | contradiction | dsimp only

theorem execEthTxTimestamp_mode (port : Nat) (dt : Nat) (s : State) (t : State) (e : execEthTxTimestamp port dt s = .next t) : Mode s t := by
  have h : Mode s s := Mode.refl s
  unfold execEthTxTimestamp at e
  try extract_lets at e
  first | refine next_mode ?_ e | refine need_mode ?_ e
  all_goals repeat' first
    | with_reducible assumption | with_reducible apply ethStamp_mode | with_reducible apply pass_mode | with_reducible apply fresh_mode
    | with_reducible apply foldl_mode | with_reducible apply ite_mode | decide | with_reducible refine off_ne ?_ | with_reducible refine off_lt ?_
    | intro _ | split | contradiction | dsimp only

theorem execEthLinkChange_mode (port : Nat) (up : Bool) (gig : Bool) (s : State) (t : State) (e : execEthLinkChange port up gig s = .next t) : Mode s t := by
  have h : Mode s s := Mode.refl s
  unfold execEthLinkChange at e
  try extract_lets at e
  first | refine next_mode ?_ e | refine need_mode ?_ e
  all_goals repeat' first
    | with_reducible assumption | with_reducible apply fresh_mode | with_reducible apply setRegBit_mode | with_reducible apply bump_mode
    | with_reducible apply foldl_mode | with_reducible apply ite_mode | decide | with_reducible refine off_ne ?_ | with_reducible refine off_lt ?_
    | intro _ | split | contradiction | dsimp only

theorem execPtpTxtsW0Read_mode (port : Nat) (s : State) (t : State) (e : execPtpTxtsW0Read port s = .next t) : Mode s t := by
  have h : Mode s s := Mode.refl s
  unfold execPtpTxtsW0Read at e
  try extract_lets at e
  first | refine next_mode ?_ e | refine need_mode ?_ e
  all_goals repeat' first
    | with_reducible assumption | with_reducible apply txtsW0Read_mode | with_reducible apply fresh_mode | with_reducible apply foldl_mode
    | with_reducible apply ite_mode | decide | with_reducible refine off_ne ?_ | with_reducible refine off_lt ?_ | intro _ | split | contradiction
    | dsimp only

theorem execPtpTxtsTimeHiRead_mode (port : Nat) (s : State) (t : State) (e : execPtpTxtsTimeHiRead port s = .next t) : Mode s t := by
  have h : Mode s s := Mode.refl s
  unfold execPtpTxtsTimeHiRead at e
  try extract_lets at e
  first | refine next_mode ?_ e | refine need_mode ?_ e
  all_goals repeat' first
    | with_reducible assumption | with_reducible apply txtsHiRead_mode | with_reducible apply fresh_mode | with_reducible apply foldl_mode
    | with_reducible apply ite_mode | decide | with_reducible refine off_ne ?_ | with_reducible refine off_lt ?_ | intro _ | split | contradiction
    | dsimp only

theorem execTmoPulseStart_mode (k : Nat) (dt : Nat) (s : State) (t : State) (e : execTmoPulseStart k dt s = .next t) : Mode s t := by
  have h : Mode s s := Mode.refl s
  unfold execTmoPulseStart at e
  try extract_lets at e
  first | refine next_mode ?_ e | refine need_mode ?_ e
  all_goals repeat' first
    | with_reducible assumption | with_reducible apply pass_mode | with_reducible apply fresh_mode | with_reducible apply tmoEdges_mode
    | with_reducible apply tmoFire_mode | with_reducible apply foldl_mode | with_reducible apply ite_mode | decide | with_reducible refine off_ne ?_
    | with_reducible refine off_lt ?_ | intro _ | split | contradiction | dsimp only

theorem execTmoPulseEnd_mode (k : Nat) (dt : Nat) (s : State) (t : State) (e : execTmoPulseEnd k dt s = .next t) : Mode s t := by
  have h : Mode s s := Mode.refl s
  unfold execTmoPulseEnd at e
  try extract_lets at e
  first | refine next_mode ?_ e | refine need_mode ?_ e
  all_goals repeat' first
    | with_reducible assumption | with_reducible apply pass_mode | with_reducible apply fresh_mode | with_reducible apply tmoEdges_mode
    | with_reducible apply tmoEnd_mode | with_reducible apply foldl_mode | with_reducible apply ite_mode | decide | with_reducible refine off_ne ?_
    | with_reducible refine off_lt ?_ | intro _ | split | contradiction | dsimp only

theorem execRtcSet_mode (ticks : Nat) (s : State) (t : State) (e : execRtcSet ticks s = .next t) : Mode s t := by
  have h : Mode s s := Mode.refl s
  unfold execRtcSet at e
  try extract_lets at e
  first | refine next_mode ?_ e | refine need_mode ?_ e
  all_goals repeat' first
    | with_reducible assumption | with_reducible apply setNow_mode | with_reducible apply rtcElapse_mode | with_reducible apply fresh_mode
    | with_reducible apply foldl_mode | with_reducible apply ite_mode | decide | with_reducible refine off_ne ?_ | with_reducible refine off_lt ?_
    | intro _ | split | contradiction | dsimp only

theorem execRtcCommit_mode (s : State) (t : State) (e : execRtcCommit s = .next t) : Mode s t := by
  have h : Mode s s := Mode.refl s
  unfold execRtcCommit at e
  try extract_lets at e
  first | refine next_mode ?_ e | refine need_mode ?_ e
  all_goals repeat' first
    | with_reducible assumption | with_reducible apply rtcElapse_mode | with_reducible apply fresh_mode | with_reducible apply foldl_mode
    | with_reducible apply ite_mode | decide | with_reducible refine off_ne ?_ | with_reducible refine off_lt ?_ | intro _ | split | contradiction
    | dsimp only

theorem execSwoClear_mode (s : State) (t : State) (e : execSwoClear s = .next t) : Mode s t := by
  have h : Mode s s := Mode.refl s
  unfold execSwoClear at e
  try extract_lets at e
  first | refine next_mode ?_ e | refine need_mode ?_ e
  all_goals repeat' first
    | with_reducible assumption | with_reducible apply clearSwo_mode | with_reducible apply fresh_mode | with_reducible apply foldl_mode
    | with_reducible apply ite_mode | decide | with_reducible refine off_ne ?_ | with_reducible refine off_lt ?_ | intro _ | split | contradiction
    | dsimp only

theorem execRtcShift_mode (v : U32) (ticks : Nat) (s : State) (t : State) (e : execRtcShift v ticks s = .next t) : Mode s t := by
  have h : Mode s s := Mode.refl s
  unfold execRtcShift at e
  try extract_lets at e
  first | refine next_mode ?_ e | refine need_mode ?_ e
  all_goals repeat' first
    | with_reducible assumption | with_reducible apply shiftWrite_mode | with_reducible apply rtcElapse_mode | with_reducible apply fresh_mode
    | with_reducible apply foldl_mode | with_reducible apply ite_mode | decide | with_reducible refine off_ne ?_ | with_reducible refine off_lt ?_
    | intro _ | split | contradiction | dsimp only

theorem execShiftDone_mode (ticks : Nat) (s : State) (t : State) (e : execShiftDone ticks s = .next t) : Mode s t := by
  have h : Mode s s := Mode.refl s
  unfold execShiftDone at e
  try extract_lets at e
  first | refine next_mode ?_ e | refine need_mode ?_ e
  all_goals repeat' first
    | with_reducible assumption | with_reducible apply rtcElapse_mode | with_reducible apply fresh_mode | with_reducible apply foldl_mode
    | with_reducible apply ite_mode | decide | with_reducible refine off_ne ?_ | with_reducible refine off_lt ?_ | intro _ | split | contradiction
    | dsimp only

theorem execDstForward_mode (s : State) (t : State) (e : execDstForward s = .next t) : Mode s t := by
  have h : Mode s s := Mode.refl s
  unfold execDstForward at e
  try extract_lets at e
  first | refine next_mode ?_ e | refine need_mode ?_ e
  all_goals repeat' first
    | with_reducible assumption | with_reducible apply dstWrite_mode | with_reducible apply fresh_mode | with_reducible apply foldl_mode
    | with_reducible apply ite_mode | decide | with_reducible refine off_ne ?_ | with_reducible refine off_lt ?_ | intro _ | split | contradiction
    | dsimp only

theorem execDstBack_mode (s : State) (t : State) (e : execDstBack s = .next t) : Mode s t := by
  have h : Mode s s := Mode.refl s
  unfold execDstBack at e
  try extract_lets at e
  first | refine next_mode ?_ e | refine need_mode ?_ e
  all_goals repeat' first
    | with_reducible assumption | with_reducible apply dstWrite_mode | with_reducible apply fresh_mode | with_reducible apply foldl_mode
    | with_reducible apply ite_mode | decide | with_reducible refine off_ne ?_ | with_reducible refine off_lt ?_ | intro _ | split | contradiction
    | dsimp only

theorem execLocalTimeApply_mode (ticks : Nat) (s : State) (t : State) (e : execLocalTimeApply ticks s = .next t) : Mode s t := by
  have h : Mode s s := Mode.refl s
  unfold execLocalTimeApply at e
  try extract_lets at e
  first | refine next_mode ?_ e | refine need_mode ?_ e
  all_goals repeat' first
    | with_reducible assumption | with_reducible apply rtcElapse_mode | with_reducible apply fresh_mode | with_reducible apply foldl_mode
    | with_reducible apply ite_mode | decide | with_reducible refine off_ne ?_ | with_reducible refine off_lt ?_ | intro _ | split | contradiction
    | dsimp only

theorem execAlarmArm_mode (v : U32) (ticks : Nat) (s : State) (t : State) (e : execAlarmArm v ticks s = .next t) : Mode s t := by
  have h : Mode s s := Mode.refl s
  unfold execAlarmArm at e
  try extract_lets at e
  first | refine next_mode ?_ e | refine need_mode ?_ e
  all_goals repeat' first
    | with_reducible assumption | with_reducible apply almCtl_mode | with_reducible apply rtcElapse_mode | with_reducible apply fresh_mode
    | with_reducible apply foldl_mode | with_reducible apply ite_mode | decide | with_reducible refine off_ne ?_ | with_reducible refine off_lt ?_
    | intro _ | split | contradiction | dsimp only

theorem execAlarmDisarm_mode (v : U32) (s : State) (t : State) (e : execAlarmDisarm v s = .next t) : Mode s t := by
  have h : Mode s s := Mode.refl s
  unfold execAlarmDisarm at e
  try extract_lets at e
  first | refine next_mode ?_ e | refine need_mode ?_ e
  all_goals repeat' first
    | with_reducible assumption | with_reducible apply almCtl_mode | with_reducible apply fresh_mode | with_reducible apply foldl_mode
    | with_reducible apply ite_mode | decide | with_reducible refine off_ne ?_ | with_reducible refine off_lt ?_ | intro _ | split | contradiction
    | dsimp only

theorem execRtcAlarmFire_mode (ticks : Nat) (s : State) (t : State) (e : execRtcAlarmFire ticks s = .next t) : Mode s t := by
  have h : Mode s s := Mode.refl s
  unfold execRtcAlarmFire at e
  try extract_lets at e
  first | refine next_mode ?_ e | refine need_mode ?_ e
  all_goals repeat' first
    | with_reducible assumption | with_reducible apply rtcElapse_mode | with_reducible apply fresh_mode | with_reducible apply foldl_mode
    | with_reducible apply ite_mode | decide | with_reducible refine off_ne ?_ | with_reducible refine off_lt ?_ | intro _ | split | contradiction
    | dsimp only

theorem execWakeEnable_mode (v : U32) (s : State) (t : State) (e : execWakeEnable v s = .next t) : Mode s t := by
  have h : Mode s s := Mode.refl s
  unfold execWakeEnable at e
  try extract_lets at e
  first | refine next_mode ?_ e | refine need_mode ?_ e
  all_goals repeat' first
    | with_reducible assumption | with_reducible apply wakeCtl_mode | with_reducible apply fresh_mode | with_reducible apply foldl_mode
    | with_reducible apply ite_mode | decide | with_reducible refine off_ne ?_ | with_reducible refine off_lt ?_ | intro _ | split | contradiction
    | dsimp only

theorem execRtcWake_mode (ticks : Nat) (s : State) (t : State) (e : execRtcWake ticks s = .next t) : Mode s t := by
  have h : Mode s s := Mode.refl s
  unfold execRtcWake at e
  try extract_lets at e
  first | refine next_mode ?_ e | refine need_mode ?_ e
  all_goals repeat' first
    | with_reducible assumption | with_reducible apply rtcElapse_mode | with_reducible apply fresh_mode | with_reducible apply foldl_mode
    | with_reducible apply ite_mode | decide | with_reducible refine off_ne ?_ | with_reducible refine off_lt ?_ | intro _ | split | contradiction
    | dsimp only

theorem execRtcFracRead_mode (ticks : Nat) (s : State) (t : State) (e : execRtcFracRead ticks s = .next t) : Mode s t := by
  have h : Mode s s := Mode.refl s
  unfold execRtcFracRead at e
  try extract_lets at e
  first | refine next_mode ?_ e | refine need_mode ?_ e
  all_goals repeat' first
    | with_reducible assumption | with_reducible apply fracRead_mode | with_reducible apply rtcElapse_mode | with_reducible apply fresh_mode
    | with_reducible apply foldl_mode | with_reducible apply ite_mode | decide | with_reducible refine off_ne ?_ | with_reducible refine off_lt ?_
    | intro _ | split | contradiction | dsimp only

theorem execRtcSecHiRead_mode (ticks : Nat) (s : State) (t : State) (e : execRtcSecHiRead ticks s = .next t) : Mode s t := by
  have h : Mode s s := Mode.refl s
  unfold execRtcSecHiRead at e
  try extract_lets at e
  first | refine next_mode ?_ e | refine need_mode ?_ e
  all_goals repeat' first
    | with_reducible assumption | with_reducible apply secHiRead_mode | with_reducible apply rtcElapse_mode | with_reducible apply fresh_mode
    | with_reducible apply foldl_mode | with_reducible apply ite_mode | decide | with_reducible refine off_ne ?_ | with_reducible refine off_lt ?_
    | intro _ | split | contradiction | dsimp only

theorem execShadowFreezeTimeout_mode (who : ShadowId) (s : State) (t : State) (e : execShadowFreezeTimeout who s = .next t) : Mode s t := by
  have h : Mode s s := Mode.refl s
  unfold execShadowFreezeTimeout at e
  try extract_lets at e
  first | refine next_mode ?_ e | refine need_mode ?_ e
  all_goals repeat' first
    | with_reducible assumption | with_reducible apply updRtc_mode | with_reducible apply fresh_mode | with_reducible apply foldl_mode
    | with_reducible apply ite_mode | decide | with_reducible refine off_ne ?_ | with_reducible refine off_lt ?_ | intro _ | split | contradiction
    | dsimp only

theorem execLegRtcSecRead_mode (ticks : Nat) (s : State) (t : State) (e : execLegRtcSecRead ticks s = .next t) : Mode s t := by
  have h : Mode s s := Mode.refl s
  unfold execLegRtcSecRead at e
  try extract_lets at e
  first | refine next_mode ?_ e | refine need_mode ?_ e
  all_goals repeat' first
    | with_reducible assumption | with_reducible apply legSecRead_mode | with_reducible apply rtcElapse_mode | with_reducible apply fresh_mode
    | with_reducible apply foldl_mode | with_reducible apply ite_mode | decide | with_reducible refine off_ne ?_ | with_reducible refine off_lt ?_
    | intro _ | split | contradiction | dsimp only

theorem execLegRtcYearRead_mode (ticks : Nat) (s : State) (t : State) (e : execLegRtcYearRead ticks s = .next t) : Mode s t := by
  have h : Mode s s := Mode.refl s
  unfold execLegRtcYearRead at e
  try extract_lets at e
  first | refine next_mode ?_ e | refine need_mode ?_ e
  all_goals repeat' first
    | with_reducible assumption | with_reducible apply legYearRead_mode | with_reducible apply rtcElapse_mode | with_reducible apply fresh_mode
    | with_reducible apply foldl_mode | with_reducible apply ite_mode | decide | with_reducible refine off_ne ?_ | with_reducible refine off_lt ?_
    | intro _ | split | contradiction | dsimp only

theorem execLegRtcSet_mode (s : State) (t : State) (e : execLegRtcSet s = .next t) : Mode s t := by
  have h : Mode s s := Mode.refl s
  unfold execLegRtcSet at e
  try extract_lets at e
  first | refine next_mode ?_ e | refine need_mode ?_ e
  all_goals repeat' first
    | with_reducible assumption | with_reducible apply legSet_mode | with_reducible apply fresh_mode | with_reducible apply foldl_mode
    | with_reducible apply ite_mode | decide | with_reducible refine off_ne ?_ | with_reducible refine off_lt ?_ | intro _ | split | contradiction
    | dsimp only

theorem execRtcTrickleWrite_mode (w : TrickleWrite) (s : State) (t : State) (e : execRtcTrickleWrite w s = .next t) : Mode s t := by
  have h : Mode s s := Mode.refl s
  unfold execRtcTrickleWrite at e
  try extract_lets at e
  first | refine next_mode ?_ e | refine need_mode ?_ e
  all_goals repeat' first
    | with_reducible assumption | with_reducible apply fresh_mode | with_reducible apply cellGoesHigh_mode | with_reducible apply cellLevel_mode
    | with_reducible apply trickleWrite_mode | with_reducible apply foldl_mode | with_reducible apply ite_mode | decide
    | with_reducible refine off_ne ?_ | with_reducible refine off_lt ?_ | intro _ | split | contradiction | dsimp only

theorem execCellTypeHigh_mode (s : State) (t : State) (e : execCellTypeHigh s = .next t) : Mode s t := by
  have h : Mode s s := Mode.refl s
  unfold execCellTypeHigh at e
  try extract_lets at e
  first | refine next_mode ?_ e | refine need_mode ?_ e
  all_goals repeat' first
    | with_reducible assumption | with_reducible apply cellGoesHigh_mode | with_reducible apply fresh_mode | with_reducible apply foldl_mode
    | with_reducible apply ite_mode | decide | with_reducible refine off_ne ?_ | with_reducible refine off_lt ?_ | intro _ | split | contradiction
    | dsimp only

theorem execOscStop_mode (s : State) (t : State) (e : execOscStop s = .next t) : Mode s t := by
  have h : Mode s s := Mode.refl s
  unfold execOscStop at e
  try extract_lets at e
  first | refine next_mode ?_ e | refine need_mode ?_ e
  all_goals repeat' first
    | with_reducible assumption | with_reducible apply backupLost_mode | with_reducible apply fresh_mode | with_reducible apply foldl_mode
    | with_reducible apply ite_mode | decide | with_reducible refine off_ne ?_ | with_reducible refine off_lt ?_ | intro _ | split | contradiction
    | dsimp only

theorem execPanelFlip_mode (img : Image) (s : State) (t : State) (e : execPanelFlip img s = .next t) : Mode s t := by
  have h : Mode s s := Mode.refl s
  unfold execPanelFlip at e
  try extract_lets at e
  first | refine next_mode ?_ e | refine need_mode ?_ e
  all_goals repeat' first
    | with_reducible assumption | with_reducible apply dirCmd_mode | with_reducible apply fresh_mode | with_reducible apply panelFlip_mode
    | with_reducible apply foldl_mode | with_reducible apply ite_mode | decide | with_reducible refine off_ne ?_ | with_reducible refine off_lt ?_
    | intro _ | split | contradiction | dsimp only

theorem execPanelFrameBoundary_mode (s : State) (t : State) (e : execPanelFrameBoundary s = .next t) : Mode s t := by
  have h : Mode s s := Mode.refl s
  unfold execPanelFrameBoundary at e
  try extract_lets at e
  first | refine next_mode ?_ e | refine need_mode ?_ e
  all_goals repeat' first
    | with_reducible assumption | with_reducible apply frame_mode | with_reducible apply fresh_mode | with_reducible apply foldl_mode
    | with_reducible apply ite_mode | decide | with_reducible refine off_ne ?_ | with_reducible refine off_lt ?_ | intro _ | split | contradiction
    | dsimp only

theorem execPanelTempUpdate_mode (p : PanelTemp) (s : State) (t : State) (e : execPanelTempUpdate p s = .next t) : Mode s t := by
  have h : Mode s s := Mode.refl s
  unfold execPanelTempUpdate at e
  try extract_lets at e
  first | refine next_mode ?_ e | refine need_mode ?_ e
  all_goals repeat' first
    | with_reducible assumption | with_reducible apply panelTemp_mode | with_reducible apply fresh_mode | with_reducible apply foldl_mode
    | with_reducible apply ite_mode | decide | with_reducible refine off_ne ?_ | with_reducible refine off_lt ?_ | intro _ | split | contradiction
    | dsimp only

theorem execVppFault_mode (s : State) (t : State) (e : execVppFault s = .next t) : Mode s t := by
  have h : Mode s s := Mode.refl s
  unfold execVppFault at e
  try extract_lets at e
  first | refine next_mode ?_ e | refine need_mode ?_ e
  all_goals repeat' first
    | with_reducible assumption | with_reducible apply fresh_mode | with_reducible apply raise_mode | with_reducible apply bump_mode
    | with_reducible apply updPanel_mode | with_reducible apply foldl_mode | with_reducible apply ite_mode | decide | with_reducible refine off_ne ?_
    | with_reducible refine off_lt ?_ | intro _ | split | contradiction | dsimp only

theorem execVppRetry_mode (s : State) (t : State) (e : execVppRetry s = .next t) : Mode s t := by
  have h : Mode s s := Mode.refl s
  unfold execVppRetry at e
  try extract_lets at e
  first | refine next_mode ?_ e | refine need_mode ?_ e
  all_goals repeat' first
    | with_reducible assumption | with_reducible apply updPanel_mode | with_reducible apply fresh_mode | with_reducible apply foldl_mode
    | with_reducible apply ite_mode | decide | with_reducible refine off_ne ?_ | with_reducible refine off_lt ?_ | intro _ | split | contradiction
    | dsimp only

theorem execAlarmListRedraw_mode (ticks : Nat) (s : State) (t : State) (e : execAlarmListRedraw ticks s = .next t) : Mode s t := by
  have h : Mode s s := Mode.refl s
  unfold execAlarmListRedraw at e
  try extract_lets at e
  first | refine next_mode ?_ e | refine need_mode ?_ e
  all_goals repeat' first
    | with_reducible assumption | with_reducible apply redraw_mode | with_reducible apply rtcElapse_mode | with_reducible apply fresh_mode
    | with_reducible apply foldl_mode | with_reducible apply ite_mode | decide | with_reducible refine off_ne ?_ | with_reducible refine off_lt ?_
    | intro _ | split | contradiction | dsimp only

theorem execBurnInShift_mode (s : State) (t : State) (e : execBurnInShift s = .next t) : Mode s t := by
  have h : Mode s s := Mode.refl s
  unfold execBurnInShift at e
  try extract_lets at e
  first | refine next_mode ?_ e | refine need_mode ?_ e
  all_goals repeat' first
    | with_reducible assumption | with_reducible apply fresh_mode | with_reducible apply updPanel_mode | with_reducible apply foldl_mode
    | with_reducible apply ite_mode | decide | with_reducible refine off_ne ?_ | with_reducible refine off_lt ?_ | intro _ | split | contradiction
    | dsimp only

theorem execPnlSenseChange_mode (high : Bool) (s : State) (t : State) (e : execPnlSenseChange high s = .next t) : Mode s t := by
  have h : Mode s s := Mode.refl s
  unfold execPnlSenseChange at e
  try extract_lets at e
  first | refine next_mode ?_ e | refine need_mode ?_ e
  all_goals repeat' first
    | with_reducible assumption | with_reducible apply fresh_mode | with_reducible apply emitOut_mode | with_reducible apply updPanel_mode
    | with_reducible apply raise_mode | with_reducible apply foldl_mode | with_reducible apply ite_mode | decide | with_reducible refine off_ne ?_
    | with_reducible refine off_lt ?_ | intro _ | split | contradiction | dsimp only

theorem execLogicInputChange_mode (lvA : U16) (lvB : U16) (s : State) (t : State) (e : execLogicInputChange lvA lvB s = .next t) : Mode s t := by
  have h : Mode s s := Mode.refl s
  unfold execLogicInputChange at e
  try extract_lets at e
  first | refine next_mode ?_ e | refine need_mode ?_ e
  all_goals repeat' first
    | with_reducible assumption | with_reducible apply setReg_mode | with_reducible apply fresh_mode | with_reducible apply foldl_mode
    | with_reducible apply ite_mode | decide | with_reducible refine off_ne ?_ | with_reducible refine off_lt ?_ | intro _ | split | contradiction
    | dsimp only

theorem execLockstepMismatch_mode (s t : State) (e : execLockstepMismatch s = .next t) : Mode s t := by
  unfold execLockstepMismatch at e
  refine next_mode (ite_mode _ _ _ (fun g => haltNode_mode _ _ _ (fresh_mode _ (Mode.refl s)) ?_) (fun _ => fresh_mode _ (Mode.refl s))) e
  simp only [State.running, Bool.or_eq_true, beq_iff_eq] at g
  rcases g with g | g | g <;> simp [g]

theorem execCommission_mode (ticks : Nat) (s : State) (t : State) (e : execCommission ticks s = .next t) : Mode s t := by
  have h : Mode s s := Mode.refl s
  unfold execCommission at e
  try extract_lets at e
  first | refine next_mode ?_ e | refine need_mode ?_ e
  all_goals repeat' first
    | with_reducible assumption | with_reducible apply commissionNow_mode | with_reducible apply rtcElapse_mode | with_reducible apply fresh_mode
    | with_reducible apply foldl_mode | with_reducible apply ite_mode | decide | with_reducible refine off_ne ?_ | with_reducible refine off_lt ?_
    | intro _ | split | contradiction | dsimp only

theorem execVerifyCfg_mode (s : State) (t : State) (e : execVerifyCfg s = .next t) : Mode s t := by
  have h : Mode s s := Mode.refl s
  unfold execVerifyCfg at e
  try extract_lets at e
  first | refine next_mode ?_ e | refine need_mode ?_ e
  all_goals repeat' first
    | with_reducible assumption | with_reducible apply verifyNow_mode | with_reducible apply fresh_mode | with_reducible apply foldl_mode
    | with_reducible apply ite_mode | decide | with_reducible refine off_ne ?_ | with_reducible refine off_lt ?_ | intro _ | split | contradiction
    | dsimp only

theorem execAcceptSlot_mode (s : State) (t : State) (e : execAcceptSlot s = .next t) : Mode s t := by
  have h : Mode s s := Mode.refl s
  unfold execAcceptSlot at e
  try extract_lets at e
  first | refine next_mode ?_ e | refine need_mode ?_ e
  all_goals repeat' first
    | with_reducible assumption | with_reducible apply acceptNow_mode | with_reducible apply fresh_mode | with_reducible apply foldl_mode
    | with_reducible apply ite_mode | decide | with_reducible refine off_ne ?_ | with_reducible refine off_lt ?_ | intro _ | split | contradiction
    | dsimp only

theorem execSsBypass_mode (s : State) (t : State) (e : execSsBypass s = .next t) : Mode s t := by
  have h : Mode s s := Mode.refl s
  unfold execSsBypass at e
  try extract_lets at e
  first | refine next_mode ?_ e | refine need_mode ?_ e
  all_goals repeat' first
    | with_reducible assumption | with_reducible apply bypassNow_mode | with_reducible apply fresh_mode | with_reducible apply foldl_mode
    | with_reducible apply ite_mode | decide | with_reducible refine off_ne ?_ | with_reducible refine off_lt ?_ | intro _ | split | contradiction
    | dsimp only

theorem execMgmtFmodeWrite_mode (v : U32) (s : State) (t : State) (e : execMgmtFmodeWrite v s = .next t) : Mode s t := by
  have h : Mode s s := Mode.refl s
  unfold execMgmtFmodeWrite at e
  try extract_lets at e
  first | refine next_mode ?_ e | refine need_mode ?_ e
  all_goals repeat' first
    | with_reducible assumption | with_reducible apply fmodeWrite_mode | with_reducible apply fresh_mode | with_reducible apply foldl_mode
    | with_reducible apply ite_mode | decide | with_reducible refine off_ne ?_ | with_reducible refine off_lt ?_ | intro _ | split | contradiction
    | dsimp only

theorem execMgmtIntRearm_mode (_v : U32) (s : State) (t : State) (e : execMgmtIntRearm _v s = .next t) : Mode s t := by
  have h : Mode s s := Mode.refl s
  unfold execMgmtIntRearm at e
  try extract_lets at e
  first | refine next_mode ?_ e | refine need_mode ?_ e
  all_goals repeat' first
    | with_reducible assumption | with_reducible apply fromSetup_mode | with_reducible apply fresh_mode | with_reducible apply intRearm_mode
    | with_reducible apply foldl_mode | with_reducible apply ite_mode | decide | with_reducible refine off_ne ?_ | with_reducible refine off_lt ?_
    | intro _ | split | contradiction | dsimp only

theorem execMgmtIntEnWrite_mode (v : U32) (s : State) (t : State) (e : execMgmtIntEnWrite v s = .next t) : Mode s t := by
  have h : Mode s s := Mode.refl s
  unfold execMgmtIntEnWrite at e
  try extract_lets at e
  first | refine next_mode ?_ e | refine need_mode ?_ e
  all_goals repeat' first
    | with_reducible assumption | with_reducible apply fromSetup_mode | with_reducible apply fresh_mode | with_reducible apply intEnWrite_mode
    | with_reducible apply foldl_mode | with_reducible apply ite_mode | decide | with_reducible refine off_ne ?_ | with_reducible refine off_lt ?_
    | intro _ | split | contradiction | dsimp only

theorem execUpdBegin_mode (s : State) (t : State) (e : execUpdBegin s = .next t) : Mode s t := by
  have h : Mode s s := Mode.refl s
  unfold execUpdBegin at e
  try extract_lets at e
  first | refine next_mode ?_ e | refine need_mode ?_ e
  all_goals repeat' first
    | with_reducible assumption | with_reducible apply dirCmd_mode | with_reducible apply fresh_mode | with_reducible apply updBegin_mode
    | with_reducible apply foldl_mode | with_reducible apply ite_mode | decide | with_reducible refine off_ne ?_ | with_reducible refine off_lt ?_
    | intro _ | split | contradiction | dsimp only

theorem execUpdStatus_mode (writeOk : Bool) (s : State) (t : State) (e : execUpdStatus writeOk s = .next t) : Mode s t := by
  have h : Mode s s := Mode.refl s
  unfold execUpdStatus at e
  try extract_lets at e
  first | refine next_mode ?_ e | refine need_mode ?_ e
  all_goals repeat' first
    | with_reducible assumption | with_reducible apply dirCmd_mode | with_reducible apply fresh_mode | with_reducible apply updStatus_mode
    | with_reducible apply foldl_mode | with_reducible apply ite_mode | decide | with_reducible refine off_ne ?_ | with_reducible refine off_lt ?_
    | intro _ | split | contradiction | dsimp only

theorem execUpdVerify_mode (s : State) (t : State) (e : execUpdVerify s = .next t) : Mode s t := by
  have h : Mode s s := Mode.refl s
  unfold execUpdVerify at e
  try extract_lets at e
  first | refine next_mode ?_ e | refine need_mode ?_ e
  all_goals repeat' first
    | with_reducible assumption | with_reducible apply dirCmd_mode | with_reducible apply fresh_mode | with_reducible apply updVerify_mode
    | with_reducible apply foldl_mode | with_reducible apply ite_mode | decide | with_reducible refine off_ne ?_ | with_reducible refine off_lt ?_
    | intro _ | split | contradiction | dsimp only

theorem execUpdConfirm_mode (s : State) (t : State) (e : execUpdConfirm s = .next t) : Mode s t := by
  have h : Mode s s := Mode.refl s
  unfold execUpdConfirm at e
  try extract_lets at e
  first | refine next_mode ?_ e | refine need_mode ?_ e
  all_goals repeat' first
    | with_reducible assumption | with_reducible apply dirCmd_mode | with_reducible apply fresh_mode | with_reducible apply updConfirm_mode
    | with_reducible apply foldl_mode | with_reducible apply ite_mode | decide | with_reducible refine off_ne ?_ | with_reducible refine off_lt ?_
    | intro _ | split | contradiction | dsimp only

theorem execUpdPieceReceived_mode (data : Image) (s : State) (t : State) (e : execUpdPieceReceived data s = .next t) : Mode s t := by
  have h : Mode s s := Mode.refl s
  unfold execUpdPieceReceived at e
  try extract_lets at e
  first | refine next_mode ?_ e | refine need_mode ?_ e
  all_goals repeat' first
    | with_reducible assumption | with_reducible apply pieceReceived_mode | with_reducible apply fresh_mode | with_reducible apply foldl_mode
    | with_reducible apply ite_mode | decide | with_reducible refine off_ne ?_ | with_reducible refine off_lt ?_ | intro _ | split | contradiction
    | dsimp only

theorem execPieceStored_mode (p : Nat) (readbackOk : Bool) (s : State) (t : State) (e : execPieceStored p readbackOk s = .next t) : Mode s t := by
  have h : Mode s s := Mode.refl s
  unfold execPieceStored at e
  try extract_lets at e
  first | refine next_mode ?_ e | refine need_mode ?_ e
  all_goals repeat' first
    | with_reducible assumption | with_reducible apply storePiece_mode | with_reducible apply fresh_mode | with_reducible apply foldl_mode
    | with_reducible apply ite_mode | decide | with_reducible refine off_ne ?_ | with_reducible refine off_lt ?_ | intro _ | split | contradiction
    | dsimp only

theorem execTrialWarn_mode (s : State) (t : State) (e : execTrialWarn s = .next t) : Mode s t := by
  have h : Mode s s := Mode.refl s
  unfold execTrialWarn at e
  try extract_lets at e
  first | refine next_mode ?_ e | refine need_mode ?_ e
  all_goals repeat' first
    | with_reducible assumption | with_reducible apply trialWarn_mode | with_reducible apply fresh_mode | with_reducible apply foldl_mode
    | with_reducible apply ite_mode | decide | with_reducible refine off_ne ?_ | with_reducible refine off_lt ?_ | intro _ | split | contradiction
    | dsimp only

theorem execSettingsConversionDone_mode (s : State) (t : State) (e : execSettingsConversionDone s = .next t) : Mode s t := by
  have h : Mode s s := Mode.refl s
  unfold execSettingsConversionDone at e
  try extract_lets at e
  first | refine next_mode ?_ e | refine need_mode ?_ e
  all_goals repeat' first
    | with_reducible assumption | with_reducible apply converted_mode | with_reducible apply fresh_mode | with_reducible apply foldl_mode
    | with_reducible apply ite_mode | decide | with_reducible refine off_ne ?_ | with_reducible refine off_lt ?_ | intro _ | split | contradiction
    | dsimp only

theorem execKeyProgram_mode (s : State) (t : State) (e : execKeyProgram s = .next t) : Mode s t := by
  have h : Mode s s := Mode.refl s
  unfold execKeyProgram at e
  try extract_lets at e
  first | refine next_mode ?_ e | refine need_mode ?_ e
  all_goals repeat' first
    | with_reducible assumption | with_reducible apply keyProgram_mode | with_reducible apply fresh_mode | with_reducible apply foldl_mode
    | with_reducible apply ite_mode | decide | with_reducible refine off_ne ?_ | with_reducible refine off_lt ?_ | intro _ | split | contradiction
    | dsimp only

theorem execKeyProgrammed_mode (s : State) (t : State) (e : execKeyProgrammed s = .next t) : Mode s t := by
  have h : Mode s s := Mode.refl s
  unfold execKeyProgrammed at e
  try extract_lets at e
  first | refine next_mode ?_ e | refine need_mode ?_ e
  all_goals repeat' first
    | with_reducible assumption | with_reducible apply keyDone_mode | with_reducible apply fresh_mode | with_reducible apply foldl_mode
    | with_reducible apply ite_mode | decide | with_reducible refine off_ne ?_ | with_reducible refine off_lt ?_ | intro _ | split | contradiction
    | dsimp only

theorem execReplayBuffer_mode (data : Image) (s : State) (t : State) (e : execReplayBuffer data s = .next t) : Mode s t := by
  have h : Mode s s := Mode.refl s
  unfold execReplayBuffer at e
  try extract_lets at e
  first | refine next_mode ?_ e | refine need_mode ?_ e
  all_goals repeat' first
    | with_reducible assumption | with_reducible apply rpBuffer_mode | with_reducible apply fresh_mode | with_reducible apply foldl_mode
    | with_reducible apply ite_mode | decide | with_reducible refine off_ne ?_ | with_reducible refine off_lt ?_ | intro _ | split | contradiction
    | dsimp only

theorem execReplayCheckpointCompare_mode (s : State) (t : State) (e : execReplayCheckpointCompare s = .next t) : Mode s t := by
  have h : Mode s s := Mode.refl s
  unfold execReplayCheckpointCompare at e
  try extract_lets at e
  first | refine next_mode ?_ e | refine need_mode ?_ e
  all_goals repeat' first
    | with_reducible assumption | with_reducible apply rpCompare_mode | with_reducible apply fresh_mode | with_reducible apply foldl_mode
    | with_reducible apply ite_mode | decide | with_reducible refine off_ne ?_ | with_reducible refine off_lt ?_ | intro _ | split | contradiction
    | dsimp only

theorem execReplayDone_mode (s : State) (t : State) (e : execReplayDone s = .next t) : Mode s t := by
  have h : Mode s s := Mode.refl s
  unfold execReplayDone at e
  try extract_lets at e
  first | refine next_mode ?_ e | refine need_mode ?_ e
  all_goals repeat' first
    | with_reducible assumption | with_reducible apply rpEnd_mode | with_reducible apply fresh_mode | with_reducible apply foldl_mode
    | with_reducible apply ite_mode | decide | with_reducible refine off_ne ?_ | with_reducible refine off_lt ?_ | intro _ | split | contradiction
    | dsimp only

theorem execBadAccess_mode (kind : BadAccess) (s : State) (t : State) (e : execBadAccess kind s = .next t) : Mode s t := by
  have h : Mode s s := Mode.refl s
  unfold execBadAccess at e
  try extract_lets at e
  first | refine next_mode ?_ e | refine need_mode ?_ e
  all_goals repeat' first
    | with_reducible assumption | with_reducible apply badRequest_mode | with_reducible apply fresh_mode | with_reducible apply foldl_mode
    | with_reducible apply ite_mode | decide | with_reducible refine off_ne ?_ | with_reducible refine off_lt ?_ | intro _ | split | contradiction
    | dsimp only

theorem execWidePairLoRead_mode (off : Off) (dt : Nat) (s : State) (t : State) (e : execWidePairLoRead off dt s = .next t) : Mode s t := by
  have h : Mode s s := Mode.refl s
  unfold execWidePairLoRead at e
  try extract_lets at e
  first | refine next_mode ?_ e | refine need_mode ?_ e
  all_goals repeat' first
    | with_reducible assumption | with_reducible apply pass_mode | with_reducible apply fresh_mode | with_reducible apply readWord_mode
    | with_reducible apply badRequest_mode | with_reducible apply foldl_mode | with_reducible apply ite_mode | decide
    | with_reducible refine off_ne ?_ | with_reducible refine off_lt ?_ | intro _ | split | contradiction | dsimp only

theorem execTarnWindowWrite_mode (off : Off) (data : List Byte) (s : State) (t : State) (e : execTarnWindowWrite off data s = .next t) : Mode s t := by
  have h : Mode s s := Mode.refl s
  unfold execTarnWindowWrite at e
  try extract_lets at e
  first | refine next_mode ?_ e | refine need_mode ?_ e
  all_goals repeat' first
    | with_reducible assumption | with_reducible apply windowWrite_mode | with_reducible apply fresh_mode | with_reducible apply foldl_mode
    | with_reducible apply ite_mode | decide | with_reducible refine off_ne ?_ | with_reducible refine off_lt ?_ | intro _ | split | contradiction
    | dsimp only

end Sys2Proof.Machine
end

