-- ==== Sys2Proof/Laws/PerInstr.lean ====
section
/-! SUPPORT. What holds of every command as syntax, one lemma for each: the queue of waiting commands is no part that a command touches, and the list of the parts that it may change names none twice. -/

set_option Elab.async false

namespace Sys2Proof.Laws.F

/-- No command touches the queue, and its list of parts names each once. -/
def Statement (i : Instr) : Prop := Machine.Zone.pending ∉ i.touches ∧ i.touches.Nodup

theorem powerGoodRise (env : BootEnv) : Statement (.powerGoodRise env) := by simp only [Statement, Instr.touches]; decide
theorem powerGoodFall (f : PowerFall) : Statement (.powerGoodFall f) := by simp only [Statement, Instr.touches]; decide
theorem logicInputChange (lvA lvB : U16) : Statement (.logicInputChange lvA lvB) := by simp only [Statement, Instr.touches]; decide
theorem ctrlWatchdog : Statement .ctrlWatchdog := by simp only [Statement, Instr.touches]; decide
theorem lockstepMismatch : Statement .lockstepMismatch := by simp only [Statement, Instr.touches]; decide
theorem tcmUncorrectable : Statement .tcmUncorrectable := by simp only [Statement, Instr.touches]; decide
theorem perstNAssert : Statement .perstNAssert := by simp only [Statement, Instr.touches]; decide
theorem linkDown : Statement .linkDown := by simp only [Statement, Instr.touches]; decide
theorem d3hotEntry : Statement .d3hotEntry := by simp only [Statement, Instr.touches]; decide
theorem flr : Statement .flr := by simp only [Statement, Instr.touches]; decide
theorem startRun (vecA vecB : Bool) (dt : Nat) : Statement (.startRun vecA vecB dt) := by simp only [Statement, Instr.touches]; decide
theorem stopRun : Statement .stopRun := by simp only [Statement, Instr.touches]; decide
theorem resetNode : Statement .resetNode := by simp only [Statement, Instr.touches]; decide
theorem commission (ticks : Nat) : Statement (.commission ticks) := by simp only [Statement, Instr.touches]; decide
theorem verifyCfg : Statement .verifyCfg := by simp only [Statement, Instr.touches]; decide
theorem acceptSlot : Statement .acceptSlot := by simp only [Statement, Instr.touches]; decide
theorem ssBypass : Statement .ssBypass := by simp only [Statement, Instr.touches]; decide
theorem mgmtFmodeWrite (v : U32) : Statement (.mgmtFmodeWrite v) := by simp only [Statement, Instr.touches]; decide
theorem mgmtIntRearm (v : U32) : Statement (.mgmtIntRearm v) := by simp only [Statement, Instr.touches]; decide
theorem mgmtIntEnWrite (v : U32) : Statement (.mgmtIntEnWrite v) := by simp only [Statement, Instr.touches]; decide
theorem registerWrite (off : Off) (v : U32) : Statement (.registerWrite off v) := by simp only [Statement, Instr.touches]; decide
theorem badAccess (kind : BadAccess) : Statement (.badAccess kind) := by simp only [Statement, Instr.touches]; decide
theorem widePairLoRead (off : Off) (dt : Nat) : Statement (.widePairLoRead off dt) := by simp only [Statement, Instr.touches]; decide
theorem tarnWindowWrite (off : Off) (data : List Byte) : Statement (.tarnWindowWrite off data) := by simp only [Statement, Instr.touches]; decide
theorem hifKick (v : U32) : Statement (.hifKick v) := by simp only [Statement, Instr.touches]; decide
theorem doorbellPoll : Statement .doorbellPoll := by simp only [Statement, Instr.touches]; decide
theorem doorbellCompletion (rsp : DoorbellRsp) : Statement (.doorbellCompletion rsp) := by simp only [Statement, Instr.touches]; decide
theorem descriptorArrival (ring : Nat) (data : Image) : Statement (.descriptorArrival ring data) := by simp only [Statement, Instr.touches]; decide
theorem pagesEnSet : Statement .pagesEnSet := by simp only [Statement, Instr.touches]; decide
theorem pagesEnClear : Statement .pagesEnClear := by simp only [Statement, Instr.touches]; decide
theorem ringEnable (ring : Nat) (ctl : U32) : Statement (.ringEnable ring ctl) := by simp only [Statement, Instr.touches]; decide
theorem ringDisable (ring : Nat) (ctl : U32) : Statement (.ringDisable ring ctl) := by simp only [Statement, Instr.touches]; decide
theorem statusPageUpdate : Statement .statusPageUpdate := by simp only [Statement, Instr.touches]; decide
theorem ringModerationTimeout (ring : Nat) : Statement (.ringModerationTimeout ring) := by simp only [Statement, Instr.touches]; decide
theorem msixVectorUnmask (vec : Nat) : Statement (.msixVectorUnmask vec) := by simp only [Statement, Instr.touches]; decide
theorem nop : Statement .nop := by simp only [Statement, Instr.touches]; decide
theorem unknownOpcode : Statement .unknownOpcode := by simp only [Statement, Instr.touches]; decide
theorem completionWrite : Statement .completionWrite := by simp only [Statement, Instr.touches]; decide
theorem pointWrite (img : Image) : Statement (.pointWrite img) := by simp only [Statement, Instr.touches]; decide
theorem pointRead (ph : Phase) : Statement (.pointRead ph) := by simp only [Statement, Instr.touches]; decide
theorem chandefWrite (img : Image) : Statement (.chandefWrite img) := by simp only [Statement, Instr.touches]; decide
theorem groupWrite (img : Image) : Statement (.groupWrite img) := by simp only [Statement, Instr.touches]; decide
theorem fanoutWrite (img : Image) : Statement (.fanoutWrite img) := by simp only [Statement, Instr.touches]; decide
theorem lintabWrite (img : Image) : Statement (.lintabWrite img) := by simp only [Statement, Instr.touches]; decide
theorem canfiltWrite (img : Image) : Statement (.canfiltWrite img) := by simp only [Statement, Instr.touches]; decide
theorem cansigWrite (img : Image) : Statement (.cansigWrite img) := by simp only [Statement, Instr.touches]; decide
theorem ackPoint (ph : Phase) : Statement (.ackPoint ph) := by simp only [Statement, Instr.touches]; decide
theorem shelve (ph : Phase) : Statement (.shelve ph) := by simp only [Statement, Instr.touches]; decide
theorem unshelve (ph : Phase) : Statement (.unshelve ph) := by simp only [Statement, Instr.touches]; decide
theorem forcePoint (ph : Phase) : Statement (.forcePoint ph) := by simp only [Statement, Instr.touches]; decide
theorem ackGroup (ph : Phase) : Statement (.ackGroup ph) := by simp only [Statement, Instr.touches]; decide
theorem callManual (ph : Phase) : Statement (.callManual ph) := by simp only [Statement, Instr.touches]; decide
theorem callSilence (ph : Phase) : Statement (.callSilence ph) := by simp only [Statement, Instr.touches]; decide
theorem deadmanReset (ph : Phase) : Statement (.deadmanReset ph) := by simp only [Statement, Instr.touches]; decide
theorem canCancel : Statement .canCancel := by simp only [Statement, Instr.touches]; decide
theorem canChannelCtl : Statement .canChannelCtl := by simp only [Statement, Instr.touches]; decide
theorem spawnCtl (img : Image) : Statement (.spawnCtl img) := by simp only [Statement, Instr.touches]; decide
theorem spawnTrigger : Statement .spawnTrigger := by simp only [Statement, Instr.touches]; decide
theorem replayStart : Statement .replayStart := by simp only [Statement, Instr.touches]; decide
theorem replayStop : Statement .replayStop := by simp only [Statement, Instr.touches]; decide
theorem updBegin : Statement .updBegin := by simp only [Statement, Instr.touches]; decide
theorem updStatus (writeOk : Bool) : Statement (.updStatus writeOk) := by simp only [Statement, Instr.touches]; decide
theorem updVerify : Statement .updVerify := by simp only [Statement, Instr.touches]; decide
theorem updActivate : Statement .updActivate := by simp only [Statement, Instr.touches]; decide
theorem updConfirm : Statement .updConfirm := by simp only [Statement, Instr.touches]; decide
theorem updAbandon : Statement .updAbandon := by simp only [Statement, Instr.touches]; decide
theorem quotaSet : Statement .quotaSet := by simp only [Statement, Instr.touches]; decide
theorem elasticSplitApply : Statement .elasticSplitApply := by simp only [Statement, Instr.touches]; decide
theorem engineCtl : Statement .engineCtl := by simp only [Statement, Instr.touches]; decide
theorem trendCtl : Statement .trendCtl := by simp only [Statement, Instr.touches]; decide
theorem dioWrite : Statement .dioWrite := by simp only [Statement, Instr.touches]; decide
theorem panelFlip (img : Image) : Statement (.panelFlip img) := by simp only [Statement, Instr.touches]; decide
theorem timeAdj (dt : Nat) : Statement (.timeAdj dt) := by simp only [Statement, Instr.touches]; decide
theorem recordAdmission : Statement .recordAdmission := by simp only [Statement, Instr.touches]; decide
theorem evalSample (e : EngineId) : Statement (.evalSample e) := by simp only [Statement, Instr.touches]; decide
theorem evalDiChange (e : EngineId) : Statement (.evalDiChange e) := by simp only [Statement, Instr.touches]; decide
theorem evalCount (e : EngineId) : Statement (.evalCount e) := by simp only [Statement, Instr.touches]; decide
theorem evalCanFrame (e : EngineId) : Statement (.evalCanFrame e) := by simp only [Statement, Instr.touches]; decide
theorem evalTick (e : EngineId) : Statement (.evalTick e) := by simp only [Statement, Instr.touches]; decide
theorem delayExpiry (e : EngineId) (p : Nat) : Statement (.delayExpiry e p) := by simp only [Statement, Instr.touches]; decide
theorem rateEvaluation (e : EngineId) (p : Nat) : Statement (.rateEvaluation e p) := by simp only [Statement, Instr.touches]; decide
theorem blockDelayExpiry (e : EngineId) (p : Nat) : Statement (.blockDelayExpiry e p) := by simp only [Statement, Instr.touches]; decide
theorem shelveExpiry (e : EngineId) (p : Nat) : Statement (.shelveExpiry e p) := by simp only [Statement, Instr.touches]; decide
theorem groupBlockExpiry (e : EngineId) (g : Nat) : Statement (.groupBlockExpiry e g) := by simp only [Statement, Instr.touches]; decide
theorem floodWindowClose (e : EngineId) (g : Nat) : Statement (.floodWindowClose e g) := by simp only [Statement, Instr.touches]; decide
theorem callTimeout (e : EngineId) (g : Nat) : Statement (.callTimeout e g) := by simp only [Statement, Instr.touches]; decide
theorem callFrameRepeat (e : EngineId) (g : Nat) : Statement (.callFrameRepeat e g) := by simp only [Statement, Instr.touches]; decide
theorem deadmanWarn (e : EngineId) (g : Nat) : Statement (.deadmanWarn e g) := by simp only [Statement, Instr.touches]; decide
theorem deadmanExpiry (e : EngineId) (g : Nat) : Statement (.deadmanExpiry e g) := by simp only [Statement, Instr.touches]; decide
theorem sealPeriodExpiry (e : EngineId) : Statement (.sealPeriodExpiry e) := by simp only [Statement, Instr.touches]; decide
theorem healthPeriodExpiry (e : EngineId) : Statement (.healthPeriodExpiry e) := by simp only [Statement, Instr.touches]; decide
theorem configBarrier : Statement .configBarrier := by simp only [Statement, Instr.touches]; decide
theorem evalSourceGap (e : EngineId) : Statement (.evalSourceGap e) := by simp only [Statement, Instr.touches]; decide
theorem evalSnapshotMark (e : EngineId) : Statement (.evalSnapshotMark e) := by simp only [Statement, Instr.touches]; decide
theorem evalSealRequest (e : EngineId) : Statement (.evalSealRequest e) := by simp only [Statement, Instr.touches]; decide
theorem evalEccFault : Statement .evalEccFault := by simp only [Statement, Instr.touches]; decide
theorem evalResyncStatus (e : EngineId) : Statement (.evalResyncStatus e) := by simp only [Statement, Instr.touches]; decide
theorem evalResyncCopy (e : EngineId) : Statement (.evalResyncCopy e) := by simp only [Statement, Instr.touches]; decide
theorem evalAudit (e : EngineId) : Statement (.evalAudit e) := by simp only [Statement, Instr.touches]; decide
theorem evalDiverge (e : EngineId) : Statement (.evalDiverge e) := by simp only [Statement, Instr.touches]; decide
theorem evalRepair (e : EngineId) : Statement (.evalRepair e) := by simp only [Statement, Instr.touches]; decide
theorem eventCopyArrival (e : EngineId) : Statement (.eventCopyArrival e) := by simp only [Statement, Instr.touches]; decide
theorem mergeWaitExpiry : Statement .mergeWaitExpiry := by simp only [Statement, Instr.touches]; decide
theorem eventDelivery (ring : Nat) : Statement (.eventDelivery ring) := by simp only [Statement, Instr.touches]; decide
theorem publicationDatagram : Statement .publicationDatagram := by simp only [Statement, Instr.touches]; decide
theorem canPublication : Statement .canPublication := by simp only [Statement, Instr.touches]; decide
theorem trendSample (entry : Nat) (dt : Nat) : Statement (.trendSample entry dt) := by simp only [Statement, Instr.touches]; decide
theorem legEvtW0Read : Statement .legEvtW0Read := by simp only [Statement, Instr.touches]; decide
theorem legEvtW3Read : Statement .legEvtW3Read := by simp only [Statement, Instr.touches]; decide
theorem legFlush : Statement .legFlush := by simp only [Statement, Instr.touches]; decide
theorem engineFailure (e : EngineId) (cause : Nat) : Statement (.engineFailure e cause) := by simp only [Statement, Instr.touches]; decide
theorem tickStall (e : EngineId) : Statement (.tickStall e) := by simp only [Statement, Instr.touches]; decide
theorem holdGrant : Statement .holdGrant := by simp only [Statement, Instr.touches]; decide
theorem engineReturnTest (e : EngineId) (pass : Bool) : Statement (.engineReturnTest e pass) := by simp only [Statement, Instr.touches]; decide
theorem stateCopyComplete (verified : Bool) : Statement (.stateCopyComplete verified) := by simp only [Statement, Instr.touches]; decide
theorem returnHoldoffExpiry (e : EngineId) : Statement (.returnHoldoffExpiry e) := by simp only [Statement, Instr.touches]; decide
theorem takeBack : Statement .takeBack := by simp only [Statement, Instr.touches]; decide
theorem auditOffer : Statement .auditOffer := by simp only [Statement, Instr.touches]; decide
theorem auditCompare : Statement .auditCompare := by simp only [Statement, Instr.touches]; decide
theorem divergeResolution : Statement .divergeResolution := by simp only [Statement, Instr.touches]; decide
theorem aeInject (e : EngineId) (v : U32) : Statement (.aeInject e v) := by simp only [Statement, Instr.touches]; decide
theorem intlkInChange (high : Bool) : Statement (.intlkInChange high) := by simp only [Statement, Instr.touches]; decide
theorem pairClaim : Statement .pairClaim := by simp only [Statement, Instr.touches]; decide
theorem pairRelease : Statement .pairRelease := by simp only [Statement, Instr.touches]; decide
theorem pairSenseChange (high : Bool) : Statement (.pairSenseChange high) := by simp only [Statement, Instr.touches]; decide
theorem tickGeneration : Statement .tickGeneration := by simp only [Statement, Instr.touches]; decide
theorem snapshotMarkOffer : Statement .snapshotMarkOffer := by simp only [Statement, Instr.touches]; decide
theorem snapshotCopyComplete : Statement .snapshotCopyComplete := by simp only [Statement, Instr.touches]; decide
theorem snapTimeout : Statement .snapTimeout := by simp only [Statement, Instr.touches]; decide
theorem spawnOutBufferWrite (addr : Option Nat) : Statement (.spawnOutBufferWrite addr) := by simp only [Statement, Instr.touches]; decide
theorem checkpoint : Statement .checkpoint := by simp only [Statement, Instr.touches]; decide
theorem windowFreeze : Statement .windowFreeze := by simp only [Statement, Instr.touches]; decide
theorem replayBuffer (data : Image) : Statement (.replayBuffer data) := by simp only [Statement, Instr.touches]; decide
theorem replayCheckpointCompare : Statement .replayCheckpointCompare := by simp only [Statement, Instr.touches]; decide
theorem replayDone : Statement .replayDone := by simp only [Statement, Instr.touches]; decide
theorem laneSlotStart (lane : Nat) : Statement (.laneSlotStart lane) := by simp only [Statement, Instr.touches]; decide
theorem laneSlotEnd (lane : Nat) (m : SlotMeas) (dt : Nat) : Statement (.laneSlotEnd lane m dt) := by simp only [Statement, Instr.touches]; decide
theorem calSlotDue (lane : Nat) : Statement (.calSlotDue lane) := by simp only [Statement, Instr.touches]; decide
theorem calSlotEnd (lane : Nat) (meas : F32) : Statement (.calSlotEnd lane meas) := by simp only [Statement, Instr.touches]; decide
theorem laneDrained (lane : Nat) : Statement (.laneDrained lane) := by simp only [Statement, Instr.touches]; decide
theorem clampEventStart (t : Nat) : Statement (.clampEventStart t) := by simp only [Statement, Instr.touches]; decide
theorem clampEventEnd (t : Nat) : Statement (.clampEventEnd t) := by simp only [Statement, Instr.touches]; decide
theorem burdenShuntOpen (t : Nat) : Statement (.burdenShuntOpen t) := by simp only [Statement, Instr.touches]; decide
theorem burdenShuntReclose (t : Nat) : Statement (.burdenShuntReclose t) := by simp only [Statement, Instr.touches]; decide
theorem biasCurrentLimit (n : Nat) (limiting : Bool) : Statement (.biasCurrentLimit n limiting) := by simp only [Statement, Instr.touches]; decide
theorem xpCheck (v : U32) : Statement (.xpCheck v) := by simp only [Statement, Instr.touches]; decide
theorem dioWindowEnd (bank : Nat) (pins : U16) (settled : U16) (dt : Nat) : Statement (.dioWindowEnd bank pins settled dt) := by simp only [Statement, Instr.touches]; decide
theorem counterEdge (k : Nat) : Statement (.counterEdge k) := by simp only [Statement, Instr.touches]; decide
theorem countPeriodExpiry (k : Nat) (cycles : Nat) (dt : Nat) : Statement (.countPeriodExpiry k cycles dt) := by simp only [Statement, Instr.touches]; decide
theorem newtRefresh (newt : Nat) (late : Bool) : Statement (.newtRefresh newt late) := by simp only [Statement, Instr.touches]; decide
theorem watchdogExpiry (bank : Nat) : Statement (.watchdogExpiry bank) := by simp only [Statement, Instr.touches]; decide
theorem newtStall (newt : Nat) : Statement (.newtStall newt) := by simp only [Statement, Instr.touches]; decide
theorem newtRestart (newt : Nat) : Statement (.newtRestart newt) := by simp only [Statement, Instr.touches]; decide
theorem faultSet (bank : Nat) (cause : FaultCause) : Statement (.faultSet bank cause) := by simp only [Statement, Instr.touches]; decide
theorem faultClear (bank : Nat) : Statement (.faultClear bank) := by simp only [Statement, Instr.touches]; decide
theorem fieldReset (bank : Nat) : Statement (.fieldReset bank) := by simp only [Statement, Instr.touches]; decide
theorem fieldSideRestart (bank : Nat) : Statement (.fieldSideRestart bank) := by simp only [Statement, Instr.touches]; decide
theorem thermalShutdownRetry (ch : Nat) (shorted : Bool) : Statement (.thermalShutdownRetry ch shorted) := by simp only [Statement, Instr.touches]; decide
theorem canFrameReceived (ch : Nat) (f : CanFrame) (dt : Nat) : Statement (.canFrameReceived ch f dt) := by simp only [Statement, Instr.touches]; decide
theorem protocolException (ch : Nat) : Statement (.protocolException ch) := by simp only [Statement, Instr.touches]; decide
theorem canBusError (ch : Nat) (err : CanErr) : Statement (.canBusError ch err) := by simp only [Statement, Instr.touches]; decide
theorem filterWalk : Statement .filterWalk := by simp only [Statement, Instr.touches]; decide
theorem canTxEntryTaken (ch : Nat) : Statement (.canTxEntryTaken ch) := by simp only [Statement, Instr.touches]; decide
theorem txAttemptStart (ch : Nat) (dt : Nat) : Statement (.txAttemptStart ch dt) := by simp only [Statement, Instr.touches]; decide
theorem txAttemptEnd (ch : Nat) (r : TxResult) (dt : Nat) : Statement (.txAttemptEnd ch r dt) := by simp only [Statement, Instr.touches]; decide
theorem integrationComplete (ch : Nat) : Statement (.integrationComplete ch) := by simp only [Statement, Instr.touches]; decide
theorem busOffRecoveryComplete (ch : Nat) : Statement (.busOffRecoveryComplete ch) := by simp only [Statement, Instr.touches]; decide
theorem timeSwitch : Statement .timeSwitch := by simp only [Statement, Instr.touches]; decide
theorem ptpSyncReceived (port : Nat) (m : PtpSync) (dt : Nat) : Statement (.ptpSyncReceived port m dt) := by simp only [Statement, Instr.touches]; decide
theorem ptpDelayRespReceived (port : Nat) (m : PtpDelayResp) : Statement (.ptpDelayRespReceived port m) := by simp only [Statement, Instr.touches]; decide
theorem ptpAnnounceReceived (port : Nat) (m : PtpAnnounce) : Statement (.ptpAnnounceReceived port m) := by simp only [Statement, Instr.touches]; decide
theorem delayReqSend (dt : Nat) : Statement (.delayReqSend dt) := by simp only [Statement, Instr.touches]; decide
theorem masterLoss : Statement .masterLoss := by simp only [Statement, Instr.touches]; decide
theorem acquireTimeout : Statement .acquireTimeout := by simp only [Statement, Instr.touches]; decide
theorem hostTimeout : Statement .hostTimeout := by simp only [Statement, Instr.touches]; decide
theorem ethFrameReceived (port : Nat) (fr : EthRx) (dt : Nat) : Statement (.ethFrameReceived port fr dt) := by simp only [Statement, Instr.touches]; decide
theorem ethTxFrame (port : Nat) (f : EthTx) : Statement (.ethTxFrame port f) := by simp only [Statement, Instr.touches]; decide
theorem ethTxTimestamp (port : Nat) (dt : Nat) : Statement (.ethTxTimestamp port dt) := by simp only [Statement, Instr.touches]; decide
theorem ethLinkChange (port : Nat) (up : Bool) (gig : Bool) : Statement (.ethLinkChange port up gig) := by simp only [Statement, Instr.touches]; decide
theorem ptpTxtsW0Read (port : Nat) : Statement (.ptpTxtsW0Read port) := by simp only [Statement, Instr.touches]; decide
theorem ptpTxtsTimeHiRead (port : Nat) : Statement (.ptpTxtsTimeHiRead port) := by simp only [Statement, Instr.touches]; decide
theorem tmoPulseStart (k : Nat) (dt : Nat) : Statement (.tmoPulseStart k dt) := by simp only [Statement, Instr.touches]; decide
theorem tmoPulseEnd (k : Nat) (dt : Nat) : Statement (.tmoPulseEnd k dt) := by simp only [Statement, Instr.touches]; decide
theorem rtcSet (ticks : Nat) : Statement (.rtcSet ticks) := by simp only [Statement, Instr.touches]; decide
theorem rtcCommit : Statement .rtcCommit := by simp only [Statement, Instr.touches]; decide
theorem swoClear : Statement .swoClear := by simp only [Statement, Instr.touches]; decide
theorem rtcShift (v : U32) (ticks : Nat) : Statement (.rtcShift v ticks) := by simp only [Statement, Instr.touches]; decide
theorem shiftDone (ticks : Nat) : Statement (.shiftDone ticks) := by simp only [Statement, Instr.touches]; decide
theorem dstForward : Statement .dstForward := by simp only [Statement, Instr.touches]; decide
theorem dstBack : Statement .dstBack := by simp only [Statement, Instr.touches]; decide
theorem localTimeApply (ticks : Nat) : Statement (.localTimeApply ticks) := by simp only [Statement, Instr.touches]; decide
theorem alarmArm (v : U32) (ticks : Nat) : Statement (.alarmArm v ticks) := by simp only [Statement, Instr.touches]; decide
theorem alarmDisarm (v : U32) : Statement (.alarmDisarm v) := by simp only [Statement, Instr.touches]; decide
theorem rtcAlarmFire (ticks : Nat) : Statement (.rtcAlarmFire ticks) := by simp only [Statement, Instr.touches]; decide
theorem wakeEnable (v : U32) : Statement (.wakeEnable v) := by simp only [Statement, Instr.touches]; decide
theorem rtcWake (ticks : Nat) : Statement (.rtcWake ticks) := by simp only [Statement, Instr.touches]; decide
theorem rtcFracRead (ticks : Nat) : Statement (.rtcFracRead ticks) := by simp only [Statement, Instr.touches]; decide
theorem rtcSecHiRead (ticks : Nat) : Statement (.rtcSecHiRead ticks) := by simp only [Statement, Instr.touches]; decide
theorem shadowFreezeTimeout (who : ShadowId) : Statement (.shadowFreezeTimeout who) := by simp only [Statement, Instr.touches]; decide
theorem legRtcSecRead (ticks : Nat) : Statement (.legRtcSecRead ticks) := by simp only [Statement, Instr.touches]; decide
theorem legRtcYearRead (ticks : Nat) : Statement (.legRtcYearRead ticks) := by simp only [Statement, Instr.touches]; decide
theorem legRtcSet : Statement .legRtcSet := by simp only [Statement, Instr.touches]; decide
theorem rtcTrickleWrite (w : TrickleWrite) : Statement (.rtcTrickleWrite w) := by simp only [Statement, Instr.touches]; decide
theorem cellTypeHigh : Statement .cellTypeHigh := by simp only [Statement, Instr.touches]; decide
theorem oscStop : Statement .oscStop := by simp only [Statement, Instr.touches]; decide
theorem legPtWrite : Statement .legPtWrite := by simp only [Statement, Instr.touches]; decide
theorem legPtRead : Statement .legPtRead := by simp only [Statement, Instr.touches]; decide
theorem panelFrameBoundary : Statement .panelFrameBoundary := by simp only [Statement, Instr.touches]; decide
theorem panelTempUpdate (p : PanelTemp) : Statement (.panelTempUpdate p) := by simp only [Statement, Instr.touches]; decide
theorem vppFault : Statement .vppFault := by simp only [Statement, Instr.touches]; decide
theorem vppRetry : Statement .vppRetry := by simp only [Statement, Instr.touches]; decide
theorem alarmListRedraw (ticks : Nat) : Statement (.alarmListRedraw ticks) := by simp only [Statement, Instr.touches]; decide
theorem burnInShift : Statement .burnInShift := by simp only [Statement, Instr.touches]; decide
theorem pnlSenseChange (high : Bool) : Statement (.pnlSenseChange high) := by simp only [Statement, Instr.touches]; decide
theorem updPieceReceived (data : Image) : Statement (.updPieceReceived data) := by simp only [Statement, Instr.touches]; decide
theorem pieceStored (p : Nat) (readbackOk : Bool) : Statement (.pieceStored p readbackOk) := by simp only [Statement, Instr.touches]; decide
theorem activationComplete (pauseUs : Nat) : Statement (.activationComplete pauseUs) := by simp only [Statement, Instr.touches]; decide
theorem activationTimeout : Statement .activationTimeout := by simp only [Statement, Instr.touches]; decide
theorem trialWarn : Statement .trialWarn := by simp only [Statement, Instr.touches]; decide
theorem trialTimeout : Statement .trialTimeout := by simp only [Statement, Instr.touches]; decide
theorem settingsConversionDone : Statement .settingsConversionDone := by simp only [Statement, Instr.touches]; decide
theorem settingsConversionFail : Statement .settingsConversionFail := by simp only [Statement, Instr.touches]; decide
theorem keyProgram : Statement .keyProgram := by simp only [Statement, Instr.touches]; decide
theorem keyProgrammed : Statement .keyProgrammed := by simp only [Statement, Instr.touches]; decide
theorem scrubSlot (bank : Nat) : Statement (.scrubSlot bank) := by simp only [Statement, Instr.touches]; decide
theorem tarnCorrectedError (off : Off) : Statement (.tarnCorrectedError off) := by simp only [Statement, Instr.touches]; decide
theorem tarnUncorrectable (off : Off) : Statement (.tarnUncorrectable off) := by simp only [Statement, Instr.touches]; decide
theorem tcmScrub (corrected : Nat) : Statement (.tcmScrub corrected) := by simp only [Statement, Instr.touches]; decide
theorem settingsJournalWrite (sectorFail : Bool) : Statement (.settingsJournalWrite sectorFail) := by simp only [Statement, Instr.touches]; decide
theorem baseGenerationStart : Statement .baseGenerationStart := by simp only [Statement, Instr.touches]; decide
theorem baseGenerationDurable : Statement .baseGenerationDurable := by simp only [Statement, Instr.touches]; decide
theorem digestRewrite : Statement .digestRewrite := by simp only [Statement, Instr.touches]; decide
theorem telemetry (t : TelemEnv) (dt : Nat) : Statement (.telemetry t dt) := by simp only [Statement, Instr.touches]; decide
theorem linkUp (speed width : Nat) : Statement (.linkUp speed width) := by simp only [Statement, Instr.touches]; decide
theorem commandRateAllowance : Statement .commandRateAllowance := by simp only [Statement, Instr.touches]; decide

end Sys2Proof.Laws.F
end

