-- ==== Sys2Proof/Laws/Signature.lean ====
section
/-! SUPPORT. A manifest of Table 17-2 whose signature is right (R472), for the witnesses of UPD_VERIFY: seven parts of one unwritten byte each, signed with the key 1, whose public half is the base point of the curve. SHA-256 of its 3,904 bytes and the two products of 256 bits are evaluated in parts. -/

set_option Elab.async false

namespace Sys2Proof.Laws.Signature

open Sys2Proof Sys2Proof.Machine


/-- The low `n` bits of k in k · P, on top of what the higher bits give. -/
def ecLow : Nat → Nat → Option (Nat × Nat) → Option (Nat × Nat) → Option (Nat × Nat)
  | 0, _, _, q => q
  | n + 1, k, p, q =>
    let r := ecLow n (k / 2) (ecAdd p p) q
    if k % 2 = 1 then ecAdd r p else r

/-- 2^n · P. -/
def ecDbl : Nat → Option (Nat × Nat) → Option (Nat × Nat)
  | 0, p => p
  | n + 1, p => ecDbl n (ecAdd p p)

theorem ecMul_split (b : Nat) : ∀ (a k : Nat) (p : Option (Nat × Nat)),
    ecMul (a + b) k p = ecLow a k p (ecMul b (k / 2 ^ a) (ecDbl a p))
  | 0, k, p => by rw [Nat.zero_add, Nat.pow_zero, Nat.div_one]; rfl
  | a + 1, k, p => by
    rw [Nat.succ_add]
    rw [ecMul, ecLow, ecMul_split b a, Nat.div_div_eq_div_mul, ← Nat.pow_succ', ecDbl]

/-- 2^64 times the base point. -/
def base1 : Nat × Nat :=
  (0xfa822bc2811aaa58492592e326e25de29493baaad651f7e90e75cb48e14db63,
   0xbff44ae8f5dba80d6f4ad4bcb3df188b34b1a65050fe82f5e41124545f462ee7)

theorem base1_right : ecDbl 64 (some p256g) = some base1 := by decide +kernel

/-- 2^128 times the base point. -/
def base2 : Nat × Nat :=
  (0x447d739beedb5e67fb982fd588c6766efc35ff7dc297eac357c84fc9d789bd85,
   0x2d4825ab834131eee12e9d953a4aaff73d349b95a7fae5000c7e33c972e25b32)

theorem base2_right : ecDbl 64 (some base1) = some base2 := by decide +kernel

/-- 2^192 times the base point. -/
def base3 : Nat × Nat :=
  (0xa6d39677a78492762736ff8344315fc596439591a3c6b94a6cf20ffb313728be,
   0x674f84749b0b881666b8babd2d27ecdf824a920c2284059bf2bab833c357f5f4)

theorem base3_right : ecDbl 64 (some base2) = some base3 := by decide +kernel

def hashZ : Nat := 0x16051166a6e241d0a32d810d3fd2fa5ff24feb332c78137c29be78a6306b9bf8

def invW : Nat := 0xc01fd93f3179083e291c7aa45695a483ed77f55d85603a1faaa9fb87917574bd

def factor1 : Nat := 0x724f2332d367947853f2962f0f2d5bbb2aa7f7e07b7718f4a460e0c930f1c190

/-- The bits of factor 1 from 192 on, times the base point's multiple. -/
def part13 : Nat × Nat :=
  (0x9663449680ec1b5c518d4b8ad4c17eab1f88b99133bb7ddf84f8771fdf1d43f0,
   0xf230858ea800709087f406262fda3555a060e46710ebed6ba00a06747a17dfa5)

theorem part13_right : ecMul 64 (factor1 / 2 ^ 192) (some base3) = some part13 := by decide +kernel

/-- The bits of factor 1 from 128 on, times the base point's multiple. -/
def part12 : Nat × Nat :=
  (0xfc0bdb3cef574130369d3b6b32bf607ffe09eaf42d77f36437fb81bc3b9f72ea,
   0xed46d10ceab33fd7ba8ba6d78dede77df268c6d07376cc7b267cb6c7559dacc8)

theorem part12_right : ecLow 64 (factor1 / 2 ^ 128) (some base2) (some part13) = some part12 := by decide +kernel

/-- The bits of factor 1 from 64 on, times the base point's multiple. -/
def part11 : Nat × Nat :=
  (0x88ad937b4786b8e16aa823228405a51cf67039633cd47819692bc97a0b34647b,
   0x5208d941221a1734ef2f9717cb36f83d101dcc2279486aeeba61ee5b146e3254)

theorem part11_right : ecLow 64 (factor1 / 2 ^ 64) (some base1) (some part12) = some part11 := by decide +kernel

/-- The bits of factor 1 from 0 on, times the base point's multiple. -/
def part10 : Nat × Nat :=
  (0x5d19d75ca82c305a8fdfa14c0e3ecc53cef75a95cc4b4bfcf284f489657e085d,
   0x9f7e0f2b4f4bf7388400f5c09c8176376af4b7b279d89101e7a4005feb907ec)

theorem part10_right : ecLow 64 (factor1) (some p256g) (some part11) = some part10 := by decide +kernel

def factor2 : Nat := 0x8db0dccc2c986b88ac0d69d0f0d2a444923f02cd2ba085904f58e9f9cb7163c2

/-- The bits of factor 2 from 192 on, times the base point's multiple. -/
def part23 : Nat × Nat :=
  (0x8044cfb4e3e1a1458d9e6048a96c3e0464bdf77681f0be9559c8c985eedc72be,
   0xe2e47e06ab99aaaf738273b86b0cad39ffdf54523906a10f269cffa1aae98f8f)

theorem part23_right : ecMul 64 (factor2 / 2 ^ 192) (some base3) = some part23 := by decide +kernel

/-- The bits of factor 2 from 128 on, times the base point's multiple. -/
def part22 : Nat × Nat :=
  (0xbaba8d57fb10468a92bf9aa2e7bd5e24e6b2bcb4d78d28826167c610c663552a,
   0xac8b43ffec95a6518e3f9a464fada6fa7636ebc1f5358cb82e3e3c7b7d9da0ae)

theorem part22_right : ecLow 64 (factor2 / 2 ^ 128) (some base2) (some part23) = some part22 := by decide +kernel

/-- The bits of factor 2 from 64 on, times the base point's multiple. -/
def part21 : Nat × Nat :=
  (0xeb0d4d93b46e4b6768c689bd1caa5a0cb97f3ed88d6499b5dd8669535b89de86,
   0xd54dc697d3204a17b64b4be61405790487febece8ce3b31559429294586a1a54)

theorem part21_right : ecLow 64 (factor2 / 2 ^ 64) (some base1) (some part22) = some part21 := by decide +kernel

/-- The bits of factor 2 from 0 on, times the base point's multiple. -/
def part20 : Nat × Nat :=
  (0x69770e9800c3b30b7ca9286074d48f7cb3838c8d2060bce116ae52205791b07e,
   0xbca7c204e3953c727908be2eea22ecc45c9c5c57923ab76b31c446972ec59c80)

theorem part20_right : ecLow 64 (factor2) (some p256g) (some part21) = some part20 := by decide +kernel

theorem ecMul_256 {k : Nat} {c3 c2 c1 c0 : Nat × Nat} (h3 : ecMul 64 (k / 2 ^ 192) (some base3) = some c3)
    (h2 : ecLow 64 (k / 2 ^ 128) (some base2) (some c3) = some c2) (h1 : ecLow 64 (k / 2 ^ 64) (some base1) (some c2) = some c1)
    (h0 : ecLow 64 k (some p256g) (some c1) = some c0) : ecMul 256 k (some p256g) = some c0 := by
  rw [show 256 = 64 + (64 + (64 + 64)) from rfl, ecMul_split, base1_right, ecMul_split, base2_right, ecMul_split, base3_right]
  simp only [Nat.div_div_eq_div_mul, ← Nat.pow_add]
  rw [h3, h2, h1, h0]

/-- SHA-256 of the byte 0xFF. -/
def eraseHash : List Byte := beBytes 32 0xa8100ae6aa1940d0b663bb31cd466142ebbdbd5187131b92d93818987832eb89

/-- The signed part of a manifest: IMAGE_VER 9, MIN_HW_REV 1, 8 pieces, settings format 1. -/
def signedPart : List Byte :=
  leBytes 4 0x31464D55 ++ leBytes 2 1 ++ leBytes 2 7 ++ leBytes 4 9 ++ leBytes 2 1 ++ zeros 2 ++ leBytes 4 8 ++ leBytes 2 1 ++ leBytes 2 1 ++ zeros 8
  ++ (List.range 7).flatMap (fun k => leBytes 8 (k + 1) ++ leBytes 4 (4096 * (k + 1)) ++ leBytes 4 1 ++ eraseHash)
  ++ zeros 3472 ++ beBytes 32 p256g.1 ++ beBytes 32 p256g.2

/-- The hash value of the manifest's signed part after each eight blocks. -/
def hashes : List (List U32) :=
  [[0x6a09e667, 0xbb67ae85, 0x3c6ef372, 0xa54ff53a, 0x510e527f, 0x9b05688c, 0x1f83d9ab, 0x5be0cd19],
   [0x58d24eb9, 0x6c1dab53, 0xead14e82, 0x39f30434, 0x76e8d816, 0x7e193adf, 0xb8324297, 0x9f684ec6],
   [0x6a158b80, 0x5a0520c8, 0x5b463611, 0xcef14783, 0xae7bde93, 0x21a1e459, 0x6375176c, 0x117c7d80],
   [0xf1396c27, 0x5bf3bbf4, 0x79e8df92, 0x7675d7d6, 0x0b9dfebb, 0x433a22f8, 0x3324f5ad, 0xaccc542b],
   [0xb49e3248, 0x3e28a53d, 0x69bec975, 0x0b637b98, 0x375db03e, 0x17ca15eb, 0x4b1008d2, 0xd177877e],
   [0x4840a81c, 0x35ba63ac, 0x86bd8690, 0x6f5e7d75, 0x6e1cb0b7, 0x365775bd, 0x4e8e37f6, 0x4c722cf6],
   [0x0c8b185e, 0xf5d25582, 0x30fa91b2, 0xc6eb7367, 0x07acc212, 0xf5844de0, 0x66f4c116, 0x08d0f39a],
   [0x7916e809, 0x512074bf, 0xbd23d230, 0x71726e42, 0xd4818cf0, 0x23360bef, 0xf16531df, 0x1aa7baac],
   [0x16051166, 0xa6e241d0, 0xa32d810d, 0x3fd2fa5f, 0xf24feb33, 0x2c78137c, 0x29be78a6, 0x306b9bf8]]

/-- The round constants, written out. -/
def roundK : List U32 :=
  [0x428a2f98, 0x71374491, 0xb5c0fbcf, 0xe9b5dba5, 0x3956c25b, 0x59f111f1, 0x923f82a4, 0xab1c5ed5,
   0xd807aa98, 0x12835b01, 0x243185be, 0x550c7dc3, 0x72be5d74, 0x80deb1fe, 0x9bdc06a7, 0xc19bf174,
   0xe49b69c1, 0xefbe4786, 0x0fc19dc6, 0x240ca1cc, 0x2de92c6f, 0x4a7484aa, 0x5cb0a9dc, 0x76f988da,
   0x983e5152, 0xa831c66d, 0xb00327c8, 0xbf597fc7, 0xc6e00bf3, 0xd5a79147, 0x06ca6351, 0x14292967,
   0x27b70a85, 0x2e1b2138, 0x4d2c6dfc, 0x53380d13, 0x650a7354, 0x766a0abb, 0x81c2c92e, 0x92722c85,
   0xa2bfe8a1, 0xa81a664b, 0xc24b8b70, 0xc76c51a3, 0xd192e819, 0xd6990624, 0xf40e3585, 0x106aa070,
   0x19a4c116, 0x1e376c08, 0x2748774c, 0x34b0bcb5, 0x391c0cb3, 0x4ed8aa4a, 0x5b9cca4f, 0x682e6ff3,
   0x748f82ee, 0x78a5636f, 0x84c87814, 0x8cc70208, 0x90befffa, 0xa4506ceb, 0xbef9a3f7, 0xc67178f2]

theorem roundK_right : shaK = roundK := by decide +kernel

/-- A block's step with the round constants given. -/
def blockStep (k : List U32) (h : List U32) (blk : List Byte) : List U32 :=
  List.zipWith (· + ·) h ((k.zip (shaSchedule 48 ((chunks 4 blk).map (fun b => BitVec.ofNat 32 (beNat b))).reverse).reverse).foldl shaRound h)

theorem shaBlock_eq : shaBlock = blockStep roundK := by rw [← roundK_right]; rfl

def blocks : List (List Byte) := chunks 64 (shaPad signedPart)

theorem hash_step0 : ((blocks.drop 0).take 8).foldl (blockStep roundK) (hashes.getD 0 []) = hashes.getD 1 [] := by decide +kernel

theorem hash_step1 : ((blocks.drop 8).take 8).foldl (blockStep roundK) (hashes.getD 1 []) = hashes.getD 2 [] := by decide +kernel

theorem hash_step2 : ((blocks.drop 16).take 8).foldl (blockStep roundK) (hashes.getD 2 []) = hashes.getD 3 [] := by decide +kernel

theorem hash_step3 : ((blocks.drop 24).take 8).foldl (blockStep roundK) (hashes.getD 3 []) = hashes.getD 4 [] := by decide +kernel

theorem hash_step4 : ((blocks.drop 32).take 8).foldl (blockStep roundK) (hashes.getD 4 []) = hashes.getD 5 [] := by decide +kernel

theorem hash_step5 : ((blocks.drop 40).take 8).foldl (blockStep roundK) (hashes.getD 5 []) = hashes.getD 6 [] := by decide +kernel

theorem hash_step6 : ((blocks.drop 48).take 8).foldl (blockStep roundK) (hashes.getD 6 []) = hashes.getD 7 [] := by decide +kernel

theorem hash_step7 : ((blocks.drop 56).take 8).foldl (blockStep roundK) (hashes.getD 7 []) = hashes.getD 8 [] := by decide +kernel

theorem foldl_eights {α β : Type} (f : β → α → β) (st : Nat → β) : ∀ (n i : Nat) (l : List α), l.length ≤ 8 * n →
    (∀ j, j < n → ((l.drop (8 * j)).take 8).foldl f (st (i + j)) = st (i + j + 1)) → l.foldl f (st i) = st (i + n)
  | 0, i, l, hl, _ => by rw [List.eq_nil_of_length_eq_zero (Nat.le_zero.mp hl)]; rfl
  | n + 1, i, l, hl, h => by
    have h0 : (l.take 8).foldl f (st i) = st (i + 1) := h 0 (Nat.succ_pos n)
    rw [← List.take_append_drop 8 l, List.foldl_append, h0, foldl_eights f st n (i + 1) (l.drop 8) (by rw [List.length_drop]; omega),
      Nat.add_assoc, Nat.add_comm 1 n]
    intro j hj
    have := h (j + 1) (by omega)
    rwa [Nat.mul_succ, Nat.add_comm (8 * j) 8, ← List.drop_drop, show i + (j + 1) = i + 1 + j by omega] at this

theorem signed_hash : beNat (sha256 signedPart) = hashZ := by
  have h : blocks.foldl (blockStep roundK) (hashes.getD 0 []) = hashes.getD (0 + 8) [] := by
    refine foldl_eights (blockStep roundK) (fun i => hashes.getD i []) 8 0 blocks (by decide +kernel) fun j hj => ?_
    rw [Nat.zero_add]
    match j, hj with
    | 0, _ => exact hash_step0
    | 1, _ => exact hash_step1
    | 2, _ => exact hash_step2
    | 3, _ => exact hash_step3
    | 4, _ => exact hash_step4
    | 5, _ => exact hash_step5
    | 6, _ => exact hash_step6
    | 7, _ => exact hash_step7
  have hi : shaInit = hashes.getD 0 [] := by decide +kernel
  unfold sha256
  rw [hi, shaBlock_eq]
  rw [show (chunks 64 (shaPad signedPart)).foldl (blockStep roundK) (hashes.getD 0 []) = hashes.getD 8 [] from h]
  decide +kernel

theorem ecdsaOk_of {q a b x : Nat × Nat} {r s z w u v : Nat} {m : List Byte} (hz : beNat (sha256 m) = z) (hw : invMod p256n s = w)
    (hu : z * w % p256n = u) (hv : r * w % p256n = v) (ha : ecMul 256 u (some p256g) = some a) (hb : ecMul 256 v (some q) = some b)
    (hx : ecAdd (some a) (some b) = some x) (hq : q.1 < p256p ∧ q.2 < p256p
      ∧ q.2 * q.2 % p256p = (q.1 * q.1 * q.1 + (p256p - 3) * q.1 + p256b) % p256p)
    (hr : 0 < r ∧ r < p256n ∧ 0 < s ∧ s < p256n ∧ x.1 % p256n = r) : ecdsaOk q r s m = true := by
  obtain ⟨q1, q2, q3⟩ := hq
  obtain ⟨r1, r2, r3, r4, r5⟩ := hr
  unfold ecdsaOk
  simp only [hz, hw, hu, hv, ha, hb, hx, q1, q2, q3, r1, r2, r3, r4, r5, decide_true, Bool.and_self]

/-- The manifest with its signature, and with one of 0. -/
def manifest (s : Nat) : List Byte := signedPart ++ beBytes 32 p256g.1 ++ beBytes 32 s ++ List.replicate 128 0xFF

def rightS : Nat := 0x811ce359880e84189bea67f2a3773b52695368b45a63471d1e5fb1ec09045e8e

theorem manifest_words : beNat (slice (manifest rightS) 0xF00 32) = p256g.1 ∧ beNat (slice (manifest rightS) 0xF20 32) = p256g.2
    ∧ beNat (slice (manifest rightS) 0xF40 32) = p256g.1 ∧ beNat (slice (manifest rightS) 0xF60 32) = rightS
    ∧ (manifest rightS).take 0xF40 = signedPart := by decide +kernel

theorem factors_right : invMod p256n rightS = invW ∧ hashZ * invW % p256n = factor1 ∧ p256g.1 * invW % p256n = factor2 := by decide +kernel

theorem manifest_signed : manifestSigned (manifest rightS) = true := by
  obtain ⟨h0, h1, h2, h3, h4⟩ := manifest_words
  obtain ⟨hw, hu, hv⟩ := factors_right
  unfold manifestSigned
  rw [h0, h1, h2, h3, h4]
  exact ecdsaOk_of signed_hash hw hu hv (ecMul_256 part13_right part12_right part11_right part10_right)
    (ecMul_256 part23_right part22_right part21_right part20_right) (x := p256g) (by decide +kernel) (by decide +kernel) (by decide +kernel)

end Sys2Proof.Laws.Signature
end

