-- ==== Sys2Proof/Laws/StateCrc.lean ====
section
/-! SUPPORT. STATE_CRC (R301): an engine whose every state record is whole is failed by none that it reads. -/

set_option Elab.async false

namespace Sys2Proof.Machine

/-- A property of the default and of every cell holds of whatever a store answers. -/
theorem Sparse.get_of_all {α : Type} {p : α → Prop} {d : α} (hd : p d) :
    ∀ {l : Sparse α}, (∀ x ∈ l, p x.2) → ∀ i, p (Sparse.get d l i)
  | [], _, _ => hd
  | (k, v) :: l, h, i => by
    unfold Sparse.get
    split
    · exact h (k, v) (List.mem_cons_self ..)
    · exact Sparse.get_of_all hd (fun x hx => h x (List.mem_cons_of_mem _ hx)) i

/-- Every state record of the engine has its STATE_CRC right. -/
def Engine.whole (x : Engine) : Bool :=
  x.pts.dflt.crcFlip == 0 && x.pts.cells.all (fun c => c.2.crcFlip == 0)
    && x.grs.dflt.crcFlip == 0 && x.grs.cells.all (fun c => c.2.crcFlip == 0)

theorem failsCrc_whole {s : State} {e : EngineId} (h : (s.eng e).whole = true) (reads : List Nat × List Nat) :
    s.failsCrc e reads = false := by
  simp only [Engine.whole, Bool.and_eq_true, beq_iff_eq, List.all_eq_true] at h
  obtain ⟨⟨⟨hp, hps⟩, hg⟩, hgs⟩ := h
  have h1 : ∀ p, (s.pt e p).crcFlip = 0 := Sparse.get_of_all (p := fun q : PtState => q.crcFlip = 0) hp hps
  have h2 : ∀ g, (s.gr e g).crcFlip = 0 := Sparse.get_of_all (p := fun q : GrState => q.crcFlip = 0) hg hgs
  simp [State.failsCrc, h1, h2]

end Sys2Proof.Machine
end

