-- ==== Sys2Proof/Tests/Slice0.lean ====
section
/-! SUPPORT. Tests: the words and bytes that the spec writes out, an ill-formed command for each check of `Instr.wf`, and for every statement of the certificate a state and operands that meet the hypotheses of each of its clauses together. -/

set_option Elab.async false

namespace Sys2Proof.Tests

open Sys2Proof Sys2Proof.Machine Sys2Proof.Laws.Signature

/-! ## Small states -/

/-- The node right after reset, but in a node state. -/
def at_ (m : Nat) : State := State.reset.setRegFld Reg.MGMT_STATE 0 3 m

/-- A record of n bytes, zero but for the fields given: offset, width, value. -/
def bytesOf (n : Nat) (fields : List (Nat × Nat × Nat)) : List Byte :=
  fields.foldl (fun l a => patch l a.1 (leBytes a.2.1 a.2.2)) (zeros n)

/-- The descriptor of a command. -/
def cmdBytes (op : Nat) (fields : List (Nat × Nat × Nat)) : List Byte := bytesOf 64 ((0, 2, op) :: fields)

def descOf (op : Nat) (fields : List (Nat × Nat × Nat)) : Desc := Desc.ofBytes (cmdBytes op fields)

/-- The command stands at the head of the CMD ring, and the allowance lets it in. -/
def withCmd (op : Nat) (fields : List (Nat × Nat × Nat)) (s : State) : State :=
  { s with hif := { s.hif with fetched := [(0, cmdBytes op fields)], allowance := 16 } }

/-- The hypotheses `Heads` of a command, as a proposition that can be decided. -/
abbrev heads (s : State) (op : Nat) (d : Desc) : Prop := s.cmdHead (· == op) = some d ∧ s.accepts op = true

/-- A ring is enabled on a link that is up, with its pages enabled. -/
def withRing (n : Nat) (s : State) : State :=
  { (s.setRegBit Reg.HIF_CTL 0 true).setReg (Reg.RING_STATUS n) 1 with hif := { s.hif with linkUp := true } }

/-- A descriptor of a ring waits. -/
def withEntry (n : Nat) (l : List Byte) (s : State) : State := { s with hif := { s.hif with fetched := [(n, l)] } }

/-- RUN with both engines in service and AE-A holding. -/
def run : State :=
  { at_ 4 with aeA := { svc := Svc.inService, pts := { live := true, dflt := { } }, grs := { live := true, dflt := { } } },
               aeB := { svc := Svc.inService, pts := { live := true, dflt := { } }, grs := { live := true, dflt := { } } },
               skink := { holder := some .A } }

/-- The record is the next one of every engine. -/
def withRec (r : InRec) (s : State) : State := { s with inlet := { s.inlet with isn := 1, stream := [{ r with isn := 1 }] } }

def tick (n : Nat) : InRec := { isn := 1, kind := Kind.tick, source := 0x5000, payload := BitVec.ofNat 64 n, ext := zeros 64 }

/-- The record of a REC command, and its descriptor as the engines read it. -/
def recOf (op : Nat) (fields : List (Nat × Nat × Nat)) : InRec :=
  { isn := 1, kind := Kind.cmd, source := 0x6000, payload := BitVec.ofNat 64 op, ext := (bytesOf 64 fields).drop 8 ++ zeros 8 }

/-- Point 5: enabled, analog, fed by channel definition 0, with the fields given besides. -/
def point (fields : List (Nat × Nat × Nat)) : List Byte :=
  withCrc (bytesOf 64 ([(0, 4, 0x10000001), (4, 4, 0x3F800000), (0x2C, 4, 0x1FFFF)] ++ fields)) 64

def withPoint (fields : List (Nat × Nat × Nat)) (q : PtState) (s : State) : State :=
  { s with tarn := Sparse.write 0 s.tarn (Tarn.POINT_CFG + 64 * 5) (point fields)
           aeA := { s.aeA with pts := { live := true, dflt := { state := Pt.disabled }, cells := [(5, q)] } }
           aeB := { s.aeB with pts := { live := true, dflt := { state := Pt.disabled }, cells := [(5, q)] } } }

def groupBase : List (Nat × Nat × Nat) :=
  [(0, 4, 3), (6, 1, 1), (7, 1, 0xFF), (8, 4, 0x1FFFF), (0x12, 2, 10), (0x14, 2, 10), (0x30, 1, 0xFF), (0x4C, 1, 0xFF)]

/-- Group 3: enabled and valid, with the fields given besides. -/
def group (fields : List (Nat × Nat × Nat)) : List Byte := withCrc (bytesOf 0xB0 (groupBase ++ fields)) 0xB0

def withGroup (fields : List (Nat × Nat × Nat)) (q : GrState) (s : State) : State :=
  { s with tarn := Sparse.write 0 s.tarn (Tarn.GROUPS + 256 * 3) (group fields)
           aeA := { s.aeA with grs := { live := true, dflt := { }, cells := [(3, q)] } }
           aeB := { s.aeB with grs := { live := true, dflt := { }, cells := [(3, q)] } } }

/-! ## Node states, boot and reset -/

theorem witness_BootAndResets :
    State.reset.mgmt = Node.reset ∧ State.reset.nvm.boot.mode ≠ 1
      ∧ State.reset.nvm.boot0.ok = true ∧ State.reset.nvm.bootable State.reset.nvm.boot.slot.toNat = true ∧ testsHalt { } = false ∧ testsHalt { tarn := true } = true
      ∧ State.reset.gecko.writing = none
      ∧ (let s := { State.reset with gecko := { writing := some (.slotStore 0 [1, 2], 0) } }
         s.gecko.writing = some (.slotStore 0 [1, 2], 0) ∧ s.frcNat - 0 < 60000000) := by
  decide +kernel

theorem slot_record_of (s : State) (l : List Byte) (hl : l.length = 0x1000) (hk : slotCopyOk l = true)
    (hs : s.nvm.slotStore = Sparse.write 0xFF [] 0 l) : s.slotRecord = some l := by
  have h0 : s.slotCopy 0 = l := by
    have h := Sparse.read_write (d := 0xFF) l [] 0 rfl
    rw [hl, ← hs] at h
    exact h
  have hr : Sparse.rising 0 s.nvm.slotStore = true := by
    rw [hs]; exact Sparse.wfFrom_rising _ (Sparse.wf_write l [] 0 rfl)
  have hz : ∀ b ∈ s.slotCopy 1, b = 0xFF := by
    intro b hb
    have h := Sparse.read_eq 0xFF _ (0x1000 * 1) 0x1000 hr
    rw [State.slotCopy, State.ssRead, h] at hb
    obtain ⟨k, _, rfl⟩ := List.mem_map.mp hb
    rw [hs, Sparse.get_write_outside l [] 0 _ (Or.inr (by omega))]
    rfl
  have h1 : slotCopyOk (s.slotCopy 1) = false := by
    generalize s.slotCopy 1 = c at hz
    have hm : (u32At c 0 == 0x31535355) = false := by
      have ha : ∀ b ∈ slice c 0 4, b = 0xFF := fun b hb => hz b (List.mem_of_mem_take hb)
      have hn : (slice c 0 4).length ≤ 4 := List.length_take_le _ _
      unfold u32At leAt
      match hc : slice c 0 4, ha, hn with
      | [], _, _ => decide
      | [a], h, _ => rw [h a (by simp)]; decide
      | [a, b], h, _ => rw [h a (by simp), h b (by simp)]; decide
      | [a, b, e], h, _ => rw [h a (by simp), h b (by simp), h e (by simp)]; decide
      | [a, b, e, f], h, _ => rw [h a (by simp), h b (by simp), h e (by simp), h f (by simp)]; decide
      | a :: b :: e :: f :: g :: t, _, hn => simp only [List.length_cons] at hn; omega
    simp only [slotCopyOk, hm, Bool.false_and]
  simp only [State.slotRecord, State.slotInUse, h0, h1, hk, copyInUse, Option.map_some]

theorem slotCopyOk_of (pad : List Byte) (n : Nat) (h : n = pad.length + 10) (h8 : n = 0x1000) :
    slotCopyOk (withCrc ([0x55, 0x53, 0x53, 0x31, 1, 0] ++ pad) n) = true := by
  have hc : crcOk (withCrc ([0x55, 0x53, 0x53, 0x31, 1, 0] ++ pad) n) n = true :=
    crcOk_withCrc _ _ (by simp; omega) (by omega)
  have hm : (u32At (withCrc ([0x55, 0x53, 0x53, 0x31, 1, 0] ++ pad) n) 0 == 0x31535355
      && leAt (withCrc ([0x55, 0x53, 0x53, 0x31, 1, 0] ++ pad) n) 4 2 == 1) = true := by
    obtain ⟨k, rfl⟩ : ∃ k, n = k + 6 + 4 := ⟨pad.length, by omega⟩
    generalize crc32 (([0x55, 0x53, 0x53, 0x31, 1, 0] ++ pad).take (k + 6)) = c
    simp only [withCrc, Nat.add_sub_cancel]
    generalize leBytes 4 _ = e
    rfl
  subst h8
  rw [slotCopyOk, hm, hc]
  rfl

/-- A slot record: MAGIC and LAYOUT_VER, no byte of the rest written, and its CRC32 (Table 2-10). -/
def slotRec : List Byte := withCrc ([0x55, 0x53, 0x53, 0x31, 1, 0] ++ List.replicate 4086 0xFF) 0x1000

def slotState (m ss : Nat) : State :=
  { (at_ m).setSs ss with nvm := { (at_ m).nvm with slotStore := Sparse.write 0xFF [] 0 slotRec } }

theorem slot_record (m ss : Nat) : (slotState m ss).slotRecord = some slotRec := by
  have hl : (List.replicate 4086 (0xFF : Byte)).length = 4086 := List.length_replicate ..
  unfold slotState slotRec
  generalize List.replicate 4086 (0xFF : Byte) = pad at hl
  refine slot_record_of _ _ ?_ (slotCopyOk_of pad 0x1000 (by omega) rfl) rfl
  unfold withCrc
  rw [List.length_append, List.length_take, length_leBytes, List.length_append, hl]
  rfl

theorem witness_SlotStoreAndManagement_accept : (slotState 3 Ss.mismatch).mgmt = Node.setup ∧ (slotState 3 Ss.mismatch).ss = Ss.mismatch
    ∧ (slotState 3 Ss.mismatch).slotRecord = some slotRec := by
  refine ⟨?_, ?_, slot_record 3 _⟩ <;> rfl

/-- SETUP with the slot store bypassed. -/
def ready : State := { (at_ 3).setSs Ss.bypassed with aeA := { svc := Svc.inService } }

theorem witness_RunAndHalt_start : (ready.fresh.pass 0).mgmt = Node.setup ∧ (ready.fresh.pass 0).cfgDirty = false
    ∧ (ready.fresh.pass 0).startOk = true ∧ ((ready.fresh.pass 0).eng (ready.fresh.pass 0).skink.preferred).svc = Svc.inService := by
  decide +kernel

theorem witness_RunAndHalt_stop : run.mgmt = Node.run ∧ run.inlet.stream = [] ∧ run.inlet.barriers = [] ∧ run.skink.copy = none
    ∧ run.spawn.ckptDue = none ∧ run.aeA.evq = [] ∧ run.aeB.evq = [] ∧ run.outlet.merge = [] ∧ run.begunUnit = false := by decide +kernel

theorem witness_SlotStoreAndManagement_commission : ((at_ 3).fresh.rtcElapse 0).mgmt = Node.setup
    ∧ ((at_ 3).fresh.rtcElapse 0).ss ≠ Ss.unreadable ∧ ((at_ 3).fresh.rtcElapse 0).ss ≠ Ss.bypassed := by decide +kernel

theorem witness_SlotStoreAndManagement_bypass : ((at_ 3).setSs Ss.unreadable).mgmt = Node.setup
    ∧ ((at_ 3).setSs Ss.unreadable).ss = Ss.unreadable := by decide +kernel

theorem witness_SlotStoreAndManagement_fmode : (at_ 3).mgmt = Node.setup ∧ fld (2 : U32) 0 2 ≠ 3 := by decide +kernel

/-- SETUP with an enabled interrupt pending and the message of HIF_INT_CTL enabled and unmasked. -/
def pendingInt : State :=
  ((((at_ 3).setReg Reg.MGMT_EVT 4).setReg Reg.MGMT_INT_EN 1).setReg Reg.HIF_INT_CTL 0x100).setReg (Reg.MSIX 0 3) 0

theorem witness_SlotStoreAndManagement_rearm : Node.setup ≤ (at_ 3).mgmt ∧ (at_ 3).intPending = 0 ∧ Node.setup ≤ pendingInt.mgmt
    ∧ pendingInt.intPending ≠ 0 ∧ pendingInt.rbit Reg.HIF_INT_CTL 8 = true
    ∧ pendingInt.rbit (Reg.MSIX (pendingInt.rfld Reg.HIF_INT_CTL 0 5) 3) 0 = false := by decide +kernel

/-! ## The host interface -/

/-- SETUP with the pages enabled, in two places, and the link up. -/
def paged : State := (withRing 0 (at_ 3)).setReg Reg.HIF_STATPAGE_LO 0x1000

def dbWaits : State := { paged with hif := { paged.hif with dbOut := true } }

theorem witness_DoorbellsAndDescriptors_kick : Node.setup ≤ paged.mgmt ∧ paged.pagesOn = true ∧ paged.hif.linkUp = true
    ∧ paged.hif.dbOut = false ∧ Node.setup ≤ dbWaits.mgmt ∧ dbWaits.pagesOn = true ∧ dbWaits.hif.dbOut = true := by decide +kernel

/-- Ring 9 active and its size at the least, the page 64 entries on: as far as it may be. -/
theorem witness_DoorbellsAndDescriptors_index : let s := { withRing 9 dbWaits with hif := dbWaits.hif }
    s.hif.dbOut = true ∧ s.hif.kick = false ∧ s.pagesOn = true ∧ isHostToNode 9 = true ∧ s.ringActive 9 = true
    ∧ (((List.replicate 32 (64 : U32)).getD 9 0) - s.reg (Reg.RING_NODE_IDX 9)).toNat ≤ s.ringSize 9 := by decide +kernel

theorem witness_DoorbellsAndDescriptors_descriptor : let s := { paged with hif := { paged.hif with fetching := [(27, 1)] } }
    isHostToNode 27 = true ∧ Sparse.get 0 s.hif.fetching 27 ≠ 0 ∧ s.rbit (Reg.RING_STATUS 27) 2 = false := by decide +kernel

theorem witness_PagesRingsAndVectors_pages : let s := (at_ 3).setReg Reg.HIF_STATPAGE_LO 0x1000
    Node.setup ≤ s.mgmt ∧ s.pagesOn = false ∧ s.dbPage ≠ s.pair Reg.HIF_STATPAGE_LO Reg.HIF_STATPAGE_HI := by decide +kernel

/-- The least and the greatest size of Table 4-11. -/
theorem witness_PagesRingsAndVectors_enable : let s := paged.setReg (Reg.RING_SIZE 30) 16
    Node.setup ≤ s.mgmt ∧ s.pagesOn = true ∧ s.rbit (Reg.RING_CTL 0) 0 = false ∧ s.rfld (Reg.RING_SIZE 0) 0 5 = 6
    ∧ s.rbit (Reg.RING_CTL 30) 0 = false ∧ s.rfld (Reg.RING_SIZE 30) 0 5 = 16 := by decide +kernel

theorem witness_PagesRingsAndVectors_disable : Node.setup ≤ ((at_ 3).setReg (Reg.RING_CTL 30) 1).mgmt
    ∧ ((at_ 3).setReg (Reg.RING_CTL 30) 1).rbit (Reg.RING_CTL 30) 0 = true := by decide +kernel

theorem witness_PagesRingsAndVectors_status : let s := { paged with hif := { paged.hif with beating := true } }
    s.hif.beating = true ∧ s.pagesOn = true ∧ s.hif.linkUp = true := by decide +kernel

/-- A masked vector and an unmasked one. -/
theorem witness_PagesRingsAndVectors_moderation :
    let s := { paged.setReg (Reg.RING_CTL 30) 0x1F03 with hif := { paged.hif with unsig := [(30, 1)] } }
    let u := s.setReg (Reg.MSIX 31 3) 0
    s.rbit (Reg.RING_CTL 30) 1 = true ∧ Sparse.get 0 s.hif.unsig 30 ≠ 0 ∧ s.rbit (Reg.MSIX (s.rfld (Reg.RING_CTL 30) 8 5) 3) 0 = true
    ∧ u.rbit (Reg.RING_CTL 30) 1 = true ∧ Sparse.get 0 u.hif.unsig 30 ≠ 0
    ∧ u.rbit (Reg.MSIX (u.rfld (Reg.RING_CTL 30) 8 5) 3) 0 = false := by decide +kernel

theorem witness_LinkAndFunctionResets : paged.hif.linkUp = true ∧ State.reset.hif.linkUp = false := by decide +kernel

/-- FMODE in force (R87). -/
def fmode (m : Nat) : State := (at_ m).setRegFld Reg.MGMT_FMODE 8 2 2

/-- An event of the last point that the FIFO takes, at a FIFO with room for one and at a full one. -/
theorem witness_LegacyEventFifo :
    let v : Event := { type := Ev.pointTransition, pointId := 1023 }
    let s := { fmode 3 with outlet := { legFifo := List.replicate 255 [0, 0, 0, 0] } }
    let f := { fmode 3 with outlet := { legFifo := List.replicate 256 [0, 0, 0, 0] } }
    s.fmodeOn = true ∧ Node.setup ≤ s.mgmt ∧ s.mgmt ≠ Node.replay ∧ v.isPoint = true ∧ v.localIndex < 1024
    ∧ s.outlet.legFifo.length < 256 ∧ f.fmodeOn = true ∧ f.mgmt ≠ Node.replay ∧ 256 ≤ f.outlet.legFifo.length := by decide +kernel

/-! ## Registers and the Tarn window -/

/-- An RW register and an RWS register, the second given the greatest value of its range. -/
theorem witness_RegisterWrites_applies : let s := at_ 3
    (∃ r, decoded (Reg.RING_MOD_TIME 0) = some r ∧ r.acc = .rw ∧ (ownWrite (Reg.RING_MOD_TIME 0) 10).isNone = true
      ∧ isHoldLo (Reg.RING_MOD_TIME 0) = false ∧ isHoldLo ((Reg.RING_MOD_TIME 0) - 4) = false ∧ s.whyIgnored r (Reg.RING_MOD_TIME 0) 10 = 0)
    ∧ ∃ r, decoded Reg.CUST_CTL = some r ∧ r.acc = .rws ∧ (ownWrite Reg.CUST_CTL 3600).isNone = true
      ∧ isHoldLo Reg.CUST_CTL = false ∧ isHoldLo (Reg.CUST_CTL - 4) = false ∧ s.whyIgnored r Reg.CUST_CTL 3600 = 0 := by
  refine ⟨⟨(decoded (Reg.RING_MOD_TIME 0)).get (by decide +kernel), ?_⟩, (decoded Reg.CUST_CTL).get (by decide +kernel), ?_⟩ <;>
    decide +kernel

/-- A read-only register, the last word of the block, which decodes nothing, and the byte before its end. -/
theorem witness_RegisterWrites_ignored : (decoded Reg.MGMT_STATE).map (·.acc) = some .ro ∧ decoded 0xFFFFC = none
    ∧ 0xFFFFF % 4 ≠ 0 := by decide +kernel

theorem witness_PairsAndTheTarnWindow_pair : isPairLo Reg.MGMT_FAULT_ISN_LO = true ∧ Reg.MGMT_FAULT_ISN_LO % 4 = 0
    ∧ Reg.MGMT_FAULT_ISN_LO ≠ Reg.WS_FRC_LO ∧ Reg.MGMT_FAULT_ISN_LO ≠ Reg.WS_TIME_LO := by decide +kernel

/-- The first and the last byte of a configuration region, in SETUP, and the window's last byte, in RUN. -/
theorem witness_PairsAndTheTarnWindow_window : (at_ 3).mgmt = Node.setup ∧ windowWrites Tarn.POINT_CFG = true
    ∧ windowWrites (Tarn.POINT_CFG + 64 * 81920 - 1) = true ∧ (at_ 4).mgmt ≠ Node.setup ∧ 0x1FFFFFF + [(0 : Byte)].length ≤ 0x2000000 := by
  decide +kernel

/-- A counter at all-ones; one that a count brings there to the last unit, and one past it; a counter that a write may clear. -/
theorem witness_CountersSaturate : let o := Reg.OUT_LATE_COPY_CNT
    (State.reset.setReg o 0xFFFFFFFF).reg o = BitVec.allOnes 32 ∧ ((State.reset.setReg o 0xFFFFFFFE).reg o).toNat + 1 < 2 ^ 32
    ∧ 2 ^ 32 ≤ ((State.reset.setReg o 0xFFFFFFFE).reg o).toNat + 2 ∧ Node.setup ≤ (at_ 3).mgmt
    ∧ (decoded o).map (·.acc) = some .cnt ∧ (ownWrite o 0).isNone = true ∧ (ownWrite o 1).isNone = true ∧ isHoldLo o = false
    ∧ isHoldLo (o - 4) = false ∧ (at_ 3).writeAllowed o 0 = true ∧ (at_ 3).writeAllowed o 1 = true
    ∧ (decoded Reg.HIF_KICK_CNT).map (·.acc) = some .cnt ∧ (at_ 3).writeAllowed Reg.HIF_KICK_CNT 1 = true := by decide +kernel

/-! ## Command intake -/

theorem witness_CompletionsOfCommands :
    heads (withCmd 1 [] (at_ 3)) 1 (descOf 1 []) ∧ (withCmd 0xFFFF [] (at_ 3)).cmdHead (fun op => (opInfo op).isNone) = some (descOf 0xFFFF [])
    ∧ (let s := { paged.setReg (Reg.RING_STATUS 1) 1 with hif := { paged.hif with ready := [{ tag := 0, opcode := 1, status := 0, result := 0, irqNow := false }] } }
      0 < s.ringCredit 1 ∧ s.hif.unwritten = 0 ∧ s.hif.ready ≠ []) := by decide +kernel

theorem witness_AllowanceHoldsCommands : { at_ 4 with hif := { allowance := 0 } }.hif.allowance ≤ 0 := by decide

/-- Each of the seven, at the head in RUN; the allowance does not hold it. -/
theorem witness_CommandsTaken_cfg : ∀ op ∈ [0x10, 0x12, 0x13, 0x14, 0x15, 0x16, 0x17],
    heads (withCmd op [] (at_ 4)) op (descOf op []) ∧ (withCmd op [] (at_ 4)).cfgHeld = false := by decide +kernel

/-- Each of the nine, at the head in RUN and, where the state turns it away, in SETUP. -/
theorem witness_CommandsTaken_rec : ∀ op ∈ [0x11, 0x20, 0x21, 0x22, 0x23, 0x24, 0x30, 0x31, 0x32],
    (withCmd op [] (at_ 4)).recHeld = false ∧ (withCmd op [] (at_ 4)).cmdHead (· == op) = some (descOf op [])
    ∧ (withCmd op [] (at_ 4)).mgmt = Node.run ∧ (withCmd op [] (at_ 3)).recHeld = false
    ∧ (withCmd op [] (at_ 3)).cmdHead (· == op) = some (descOf op []) ∧ (withCmd op [] (at_ 3)).mgmt ≠ Node.run := by decide +kernel

/-- The last point of Table 1-7, with a good image and with one whose CRC32 is wrong. -/
theorem witness_PointRecords_write : let d := descOf 0x10 [(8, 4, 81919), (0x10, 8, 0x1000)]
    heads (withCmd 0x10 [(8, 4, 81919), (0x10, 8, 0x1000)] (at_ 4)) 0x10 d
    ∧ (withCmd 0x10 [(8, 4, 81919), (0x10, 8, 0x1000)] (at_ 4)).cfgHeld = false ∧ d.aligned 0x10 = true ∧ d.arg 8 4 < 81920
    ∧ d.resv 0xC 4 = true ∧ d.resv 0x18 40 = true ∧ (point []).length = 64 ∧ crcOk (point []) 64 = true
    ∧ (PCfg.ofBytes (point [])).rulesOk (d.arg 8 4) = true ∧ crcOk (patch (point []) 0x3F [0]) 64 = false
    ∧ (patch (point []) 0x3F [0]).length = 64 := by decide +kernel

theorem witness_PointRecords_legacy : (fmode 3).fmodeOn = true ∧ (fmode 3).mgmt = Node.setup
    ∧ (LegEntry.ofBytes (fmode 3).legWords).ok = true
    ∧ (LegEntry.ofBytes ((fmode 3).setReg Reg.LEG_PT_W0 0xFFFFFFFF).legWords).ok = false := by decide +kernel

theorem witness_PointRecords_legacy_read : (legUnconvert ((fmode 3).tarnSee (Tarn.POINT_CFG + 64 * (fmode 3).legIndex) 64)).isSome = true
    ∧ legUnconvert ((withPoint [] { } { (fmode 3) with regs := ((fmode 3).setReg Reg.LEG_PT_INDEX 5).regs }).tarnSee (Tarn.POINT_CFG + 64 * 5) 64) = none
    ∧ (withPoint [] { } ((fmode 3).setReg Reg.LEG_PT_INDEX 5)).legIndex = 5 := by decide +kernel

/-! ## The engines -/

/-- The list of a source names point 5 alone. -/
def feeding (type index : Nat) (s : State) : State :=
  { s with tarn := Sparse.write 0 (Sparse.write 0 s.tarn (headOffset type index) (leBytes 8 0x100000000)) Tarn.FAN_LIST (leBytes 4 5) }

/-- The hypotheses `Feeds` of a source and a point; no state record of the engine is damaged (`failsCrc_whole`). -/
abbrev feeds (s : State) (e : EngineId) (type index p : Nat) : Prop :=
  s.fanout type index = [p] ∧ p < 81920 ∧ (s.pcfg p).valid p = true ∧ (s.pcfg p).enable = true
    ∧ ((s.pcfg p).srcType = type ∧ (s.pcfg p).srcIndex = index) ∧ (s.pt e p).has Sub.forced = false
    ∧ s.eccHeld e p = false ∧ (s.eng e).whole = true

def rec_ (kind flags : Byte) (source : U16) (payload : U64) (ext : List Byte) : InRec :=
  { isn := 1, kind := kind, flags := flags, source := source, payload := payload, ext := ext }

/-- A sample of 1.0 of channel definition 0: settling, good, and failed. -/
theorem witness_SourceRecords_sample :
    let s := fun (fl : Nat) => feeding 1 0 (withPoint [] { } (withRec (rec_ 1 (BitVec.ofNat 8 fl) 0x1000 0x3F800000 []) run))
    (∀ fl ∈ [1, 0, 2], ((s fl).headRec .A).isSome = true ∧ ((s fl).headRec .A).map (·.kind) = some Kind.sample ∧ feeds (s fl) .A 1 0 5)
    ∧ F32.isFinite (((s 0).pcfg 5).scale 0x3F800000) = true ∧ (s 2).faultCount ((s 2).pcfg 5) ≤ 1 := by decide +kernel

/-- Input 15 of module 0 changes. -/
theorem witness_SourceRecords_di :
    let r := rec_ 2 0 0x2000 0x80008000 []
    let s := feeding 2 15 (withPoint [(0, 4, 0x20000F01)] { } (withRec r run))
    s.headRec .A = some r ∧ r.kind = Kind.diChange ∧ r.pay 0x1A 2 = 2 ^ 15 ∧ feeds s .A 2 (16 * r.srcIndex + 15) 5 := by decide +kernel

theorem witness_SourceRecords_count :
    let r := rec_ 3 0 0x3000 0x3F80000000000000 []
    let s := feeding 3 0 (withPoint [(0, 4, 0x30000001)] { } (withRec r run))
    s.headRec .A = some r ∧ r.kind = Kind.count ∧ feeds s .A 3 0 5
    ∧ F32.isFinite ((s.pcfg 5).scale (BitVec.ofNat 32 (r.pay 0x1C 4))) = true := by decide +kernel

/-- A frame of 8 bytes with one signal, a 32-bit float that is 1.0, and a frame with none. -/
theorem witness_SourceRecords_can :
    let r := rec_ 4 0 0x4000 0x0000010800000000 (bytesOf 64 [(0, 4, 0x3F800000)])
    let z := rec_ 4 0 0x4000 0 (zeros 64)
    let s := feeding 4 0 (withPoint [(0, 4, 0x40000001)] { } (withRec r run))
    let s := { s with tarn := Sparse.write 0 s.tarn Tarn.CAN_SIG (withCrc (bytesOf 16 [(0, 4, 0x40000000), (6, 1, 32), (7, 1, 4)]) 16) }
    s.headRec .A = some r ∧ r.kind = Kind.canFrame ∧ r.pay 0x1D 1 = 1 ∧ s.carried r (r.pay 0x1E 2) = some (some 0x3F800000)
    ∧ feeds s .A 4 (r.pay 0x1E 2) 5 ∧ F32.isFinite ((s.pcfg 5).scale 0x3F800000) = true
    ∧ (withRec z run).headRec .A = some z ∧ z.pay 0x1D 1 = 0 ∧ (run.eng .A).whole = true := by decide +kernel

theorem witness_TickRecords_tick : (withRec (tick 1) run).headRec .A = some (tick 1) ∧ (tick 1).kind = Kind.tick ∧ (run.eng .A).whole = true
    ∧ ((withRec (tick 1) run).eng .A).lastTick ≠ (tick 1).payload := by decide +kernel

/-- TICK n is AE-A's next record, its values taken, and its evaluation has come to point p, group g and part k; there is room for one event. -/
def within (n p g k : Nat) (s : State) : State :=
  { withRec (tick n) s with
    aeA := { s.aeA with lastTick := BitVec.ofNat 64 n, runStarted := true, sweepAt := p, groupAt := g, tickStage := k, tickCap := 1 } }

/-- The TICK's values are taken, and no state record of the engine is damaged (`failsCrc_whole`). -/
abbrev taken (s : State) (n : Nat) : Prop :=
  (s.eng .A).whole = true ∧ s.headRec .A = some (tick n) ∧ (tick n).kind = Kind.tick ∧ (s.eng .A).lastTick = (tick n).payload ∧ (s.eng .A).runStarted = true

/-- The hypothesis `atStage`. -/
abbrev stage (s : State) (n k : Nat) : Prop :=
  taken s n ∧ 81920 ≤ (s.eng .A).sweepAt ∧ 256 ≤ (s.eng .A).groupAt ∧ (s.eng .A).tickStage = k

/-- A TICK begun and not come to its later parts, beside the one of above, which is not begun. -/
theorem witness_TickRecords_begun : let s := within 1 81920 256 0 run
    (s.eng .A).whole = true ∧ s.headRec .A = some (tick 1) ∧ (s.eng .A).lastTick = (tick 1).payload ∧ (s.eng .A).tickStage = 0 := by decide +kernel

/-- The tick at which the seal period of reset ends. -/
theorem witness_TickRecords_seal :
    let s := within 900000 81920 256 2 run
    let s := { s with aeA := { s.aeA with custN := 1 } }
    stage s 900000 2 ∧ s.rfld Reg.CUST_CTL 0 16 ≠ 0 ∧ (tick 900000).tickNo % (1000 * s.rfld Reg.CUST_CTL 0 16) = 0
    ∧ (s.eng .A).custN ≠ 0 ∧ 0 < (s.eng .A).room := by decide +kernel

theorem witness_TickRecords_health :
    let s := within 10000 81920 256 1 run
    stage s 10000 1 ∧ s.rfld Reg.SKINK_CTL 16 16 ≠ 0 ∧ (tick 10000).tickNo % (1000 * s.rfld Reg.SKINK_CTL 16 16) = 0
    ∧ 0 < (s.eng .A).room := by decide +kernel

/-- What every statement about point 5 and its times takes. -/
abbrev pointReady (s : State) (n : Nat) : Prop :=
  taken s n ∧ (s.eng .A).sweepAt = 5 ∧ Sparse.wf 0 s.tarn = true ∧ (s.pcfg 5).on = true ∧ (s.pcfg 5).valid 5 = true

/-- `sourceQuiet` of AE-A, as a proposition that can be decided. -/
abbrev quiet (s : State) (w : U32) : Prop := fld w 0 17 = 0x1FFFF ∨ blockCond (fld w 17 3) (s.pt .A (fld w 0 17)).state = false

/-- A delay and a shelving in their last unit, and with no time left. -/
theorem witness_PointTimes_delay_shelve : ∀ n ∈ [0, 1],
    let s := fun b t => within t 5 0 0 (withPoint [] { sub := b, timer := BitVec.ofNat 16 n } run)
    (s 1 10 |>.pcfg 5).srcType < 5 ∧ (s 1 10 |>.pcfg 5).rate = false ∧ pointReady (s 1 10) 10 ∧ pointReady (s 2 10) 10 ∧ pointReady (s 8 60000) 60000
    ∧ ((s 1 10).pt .A 5).has Sub.pendOn = true ∧ ((s 2 10).pt .A 5).has Sub.pendOff = true
    ∧ ((s 8 60000).pt .A 5).has Sub.shelved = true ∧ ((s 1 10).pt .A 5).timer.toNat ≤ 1 ∧ (tick 10).tickNo % 10 = 0
    ∧ (tick 60000).tickNo % 60000 = 0 := by decide +kernel

theorem witness_PointTimes_rate :
    let s := within 1005 5 0 0 (withPoint [(0, 4, 0x10000011)] { state := Pt.normal } run)
    pointReady s 1005 ∧ (s.pcfg 5).srcType < 5 ∧ (s.pcfg 5).rate = true ∧ (tick 1005).tickNo % 1000 = 5 % 1000
    ∧ (s.pcfg 5).onDelay = 0 ∧ (s.pcfg 5).offDelay = 0 ∧ (s.pt .A 5).has Sub.settling = false ∧ (s.pt .A 5).state ≠ Pt.unknown ∧ (s.pt .A 5).state ≠ Pt.fault := by decide +kernel

/-- A blocked point with its time at 0, and in its last second; blocked by none, and by a point that is not in alarm. -/
theorem witness_PointTimes_block :
    let s := within 1 5 0 0 (withPoint [] { sub := 4 } run)
    let u := within 1000 5 0 0 (withPoint [(0x2C, 4, 6)] { sub := 4, blockTimer := 1 } run)
    pointReady s 1 ∧ pointReady u 1000 ∧ (s.pt .A 5).has Sub.blocked = true ∧ (u.pt .A 5).has Sub.blocked = true
    ∧ (s.pt .A 5).blockTimer = 0 ∧ (u.pt .A 5).blockTimer = 1 ∧ (tick 1000).tickNo % 1000 = 0 ∧ fld (s.pcfg 5).blockSrc 0 17 = 0x1FFFF
    ∧ quiet s (s.pcfg 5).blockSrc ∧ quiet u (u.pcfg 5).blockSrc := by decide +kernel

/-! A group's record is long for the kernel to take its CRC-32 byte by byte, so the two lemmas of `Laws/` say that it is right. -/

theorem length_group (fields : List (Nat × Nat × Nat)) (h : (bytesOf 0xB0 (groupBase ++ fields)).length = 0xB0) :
    (group fields).length = 0xB0 := by
  unfold group withCrc
  rw [List.length_append, List.length_take, length_leBytes, h]
  rfl

/-- The state is ready to evaluate group 3, Tarn is in canonical form, and the property holds of the state and of the configuration that it reads for the group. -/
def Meets (fields : List (Nat × Nat × Nat)) (q : GrState) (s : State) (P : State → GCfg → Prop) : Prop :=
  (withGroup fields q s).groupReady .A 3 = true ∧ Sparse.wf 0 (withGroup fields q s).tarn = true ∧ P (withGroup fields q s) ((withGroup fields q s).gcfg 3)

theorem meets {fields : List (Nat × Nat × Nat)} {q : GrState} {s : State} {P : State → GCfg → Prop}
    (h : Sparse.wf 0 s.tarn = true ∧ s.gecko.ueWords = [] ∧ (bytesOf 0xB0 (groupBase ++ fields)).length = 0xB0
      ∧ (GCfg.ofBytes (group fields)).rulesOk = true ∧ (GCfg.ofBytes (group fields)).enable = true ∧ q.has G.cfgFault = false)
    (hp : P (withGroup fields q s) (GCfg.ofBytes (group fields))) : Meets fields q s P := by
  obtain ⟨hw, hu, hl, hr, he, hq⟩ := h
  have hg : (withGroup fields q s).gcfg 3 = GCfg.ofBytes (group fields) := by
    have hread := Sparse.read_write (d := 0) (group fields) s.tarn (Tarn.GROUPS + 256 * 3) hw
    rw [length_group fields hl] at hread
    have ht : (withGroup fields q s).tarnSee (Tarn.GROUPS + 256 * 3) 0xB0 = group fields := by
      show (s.gecko.ueWords.filter _).foldl _ (Sparse.read 0 (Sparse.write 0 s.tarn (Tarn.GROUPS + 256 * 3) (group fields))
        (Tarn.GROUPS + 256 * 3) 0xB0) = group fields
      rw [hu, hread]
      rfl
    unfold State.gcfg
    rw [ht]
  have hc : crcOk (group fields) 0xB0 = true := crcOk_withCrc _ _ (by rw [hl]; omega) (by omega)
  refine ⟨?_, Sparse.wf_write _ _ _ hw, by rw [hg]; exact hp⟩
  unfold State.groupReady GCfg.valid
  rw [hg]
  show ((GCfg.ofBytes (group fields)).enable && ((GCfg.ofBytes (group fields)).rulesOk && crcOk (group fields) 0xB0) && !q.has G.cfgFault) = true
  rw [he, hr, hc, hq]
  rfl

/-- What every statement about group 3 and its times takes besides. -/
abbrev groupAt (s : State) : Prop :=
  taken s 1000 ∧ (tick 1000).tickNo % 1000 = 0 ∧ 81920 ≤ (s.eng .A).sweepAt ∧ (s.eng .A).groupAt = 3

/-- The points of TICK 1,000 are visited, and the groups before group 3. -/
def ticking : State := within 1000 81920 3 0 run

theorem witness_GroupTimes_block_now : Meets [] { gflags := 4 } ticking (fun s c => groupAt s
    ∧ (s.gr .A 3).has G.blocked = true ∧ (s.gr .A 3).blockTimer = 0 ∧ fld c.blockSrc 0 17 = 0x1FFFF) :=
  meets (by decide +kernel) (by decide +kernel)

theorem witness_GroupTimes_block_last : Meets [] { gflags := 4, blockTimer := 1 } ticking (fun s c => groupAt s
    ∧ (s.gr .A 3).has G.blocked = true ∧ (s.gr .A 3).blockTimer = 1 ∧ fld c.blockSrc 0 17 = 0x1FFFF) :=
  meets (by decide +kernel) (by decide +kernel)

/-- A window that closes with as many events as the threshold, and with one more. -/
theorem witness_GroupTimes_flood_below : Meets [(0xE, 2, 10), (0x10, 2, 600)] { floodTimer := 1, floodCnt := 10 } ticking (fun s c =>
    groupAt s ∧ (s.eng .A).opened.contains 3 = false ∧ (s.gr .A 3).floodTimer = 1 ∧ c.floodN ≠ 0 ∧ ¬ c.floodN < (s.gr .A 3).floodCnt.toNat) :=
  meets (by decide +kernel) (by decide +kernel)

theorem witness_GroupTimes_flood_above : Meets [(0xE, 2, 10), (0x10, 2, 600)] { floodTimer := 1, floodCnt := 11 } ticking (fun s c =>
    groupAt s ∧ (s.eng .A).opened.contains 3 = false ∧ (s.gr .A 3).floodTimer = 1 ∧ c.floodN ≠ 0 ∧ c.floodN < (s.gr .A 3).floodCnt.toNat) :=
  meets (by decide +kernel) (by decide +kernel)

/-- A call in its first stage, a repetition that falls due, and one at the bridge. -/
theorem witness_GroupTimes_call : Meets [] { callState := Call.stage1, callTimer := 1 } ticking (fun s c =>
    groupAt s ∧ c.callEn = true ∧ c.deadman = false ∧ calling (s.gr .A 3).callState = true ∧ (s.gr .A 3).callState ≠ Call.bridge ∧ (s.gr .A 3).callTimer = 1) :=
  meets (by decide +kernel) (by decide +kernel)

theorem witness_GroupTimes_repeat : Meets [] { callState := Call.stage1, callTimer := 2, canTimer := 1 } ticking (fun s c =>
    groupAt s ∧ c.callEn = true ∧ c.deadman = false ∧ calling (s.gr .A 3).callState = true ∧ (s.gr .A 3).canTimer = 1 ∧ (s.gr .A 3).callTimer ≠ 1) :=
  meets (by decide +kernel) (by decide +kernel)

theorem witness_GroupTimes_repeat_bridge : Meets [] { callState := Call.bridge, callTimer := 1, canTimer := 1 } ticking (fun s c =>
    groupAt s ∧ c.callEn = true ∧ c.deadman = false ∧ calling (s.gr .A 3).callState = true ∧ (s.gr .A 3).canTimer = 1 ∧ (s.gr .A 3).callState = Call.bridge) :=
  meets (by decide +kernel) (by decide +kernel)

/-- A dead-man group with the shortest period of Table 8-6. -/
def deadman : List (Nat × Nat × Nat) := [(0, 4, 7), (7, 1, 0), (0x18, 2, 180), (0x1A, 2, 10)]

theorem witness_GroupTimes_deadman_warn : Meets deadman { callTimer := 11 } ticking (fun s c => groupAt s ∧ c.deadman = true
    ∧ c.callEn = true ∧ (s.gr .A 3).has G.blocked = false ∧ quiet s c.blockSrc ∧ (s.gr .A 3).callState = Call.idle ∧ c.dmWarn ≠ 0
    ∧ (s.gr .A 3).callTimer.toNat = c.dmWarn + 1) := meets (by decide +kernel) (by decide +kernel)

theorem witness_GroupTimes_deadman_end : Meets deadman { callTimer := 1 } ticking (fun s c => groupAt s ∧ c.deadman = true
    ∧ c.callEn = true ∧ (s.gr .A 3).has G.blocked = false ∧ quiet s c.blockSrc ∧ (s.gr .A 3).callState = Call.idle ∧ (s.gr .A 3).callTimer = 1) :=
  meets (by decide +kernel) (by decide +kernel)

/-- The hypotheses `AtCmd` of a record and its arguments; no state record of the engine is damaged (`failsCrc_whole`). -/
abbrev atCmd (s : State) (op : Nat) (r : InRec) : Prop := (s.eng .A).whole = true ∧ s.headRec .A = some r ∧ r.isCmd op = true

theorem witness_PointCommands_ack :
    let r := recOf 0x20 [(8, 4, 81919)]
    atCmd (withRec r run) 0x20 r ∧ r.desc.pointOk = true ∧ r.desc.resv 0xC 52 = true := by decide +kernel

/-- As long as SHELVE_MAX allows, and the least. -/
theorem witness_PointCommands_shelve : ∀ n ∈ [1, 30],
    let r := recOf 0x22 [(8, 4, 5), (0xC, 2, n)]
    let s := withPoint [(0x32, 2, 30)] { state := Pt.normal } (withRec r run)
    atCmd s 0x22 r ∧ r.desc.pointOk = true ∧ r.desc.resv 0xE 50 = true ∧ r.desc.arg 0xC 2 ≠ 0
    ∧ r.desc.arg 0xC 2 ≤ (s.pcfg r.desc.point).shelveMax ∧ (s.pcfg r.desc.point).unusable r.desc.point = false := by decide +kernel

theorem witness_PointCommands_unshelve :
    let r := recOf 0x23 [(8, 4, 5)]
    let s := withPoint [] { sub := 8, timer := 3 } (withRec r run)
    atCmd s 0x23 r ∧ r.desc.pointOk = true ∧ r.desc.resv 0xC 52 = true ∧ (s.pt .A r.desc.point).has Sub.shelved = true := by
  decide +kernel

/-- An analog point, a digital one, and the end of a forcing. -/
theorem witness_PointCommands_force :
    let r := recOf 0x24 [(8, 4, 5), (0xE, 1, 1), (0x10, 4, 0x3F800000)]
    let z := recOf 0x24 [(8, 4, 5)]
    let s := withPoint [] { } (withRec r run)
    let g := withPoint [(0, 4, 0x20000001)] { } (withRec r run)
    let u := withPoint [] { sub := 0x80 } (withRec z run)
    atCmd s 0x24 r ∧ atCmd g 0x24 r ∧ atCmd u 0x24 z ∧ r.desc.pointOk = true ∧ r.desc.resv 0xC 2 = true ∧ r.desc.resv 0xF 1 = true
    ∧ r.desc.resv 0x14 44 = true ∧ z.desc.resv 0x14 44 = true ∧ (s.pcfg 5).unusable 5 = false ∧ (g.pcfg 5).unusable 5 = false
    ∧ r.desc.arg 0xE 1 = 1 ∧ F32.isFinite (u32At r.desc.raw 0x10) = true ∧ (s.pcfg 5).digital = false ∧ (g.pcfg 5).digital = true
    ∧ (F32.eq (u32At r.desc.raw 0x10) 0 || F32.eq (u32At r.desc.raw 0x10) 0x3F800000) = true
    ∧ s.eccHeld .A 5 = false ∧ g.eccHeld .A 5 = false ∧ z.desc.resv 0xC 2 = true ∧ z.desc.resv 0xF 1 = true ∧ F32.isFinite (u32At z.desc.raw 0x10) = true ∧ (u.pcfg 5).unusable 5 = false
    ∧ (u.pcfg 5).digital = false ∧ z.desc.arg 0xE 1 = 0 ∧ (u.pt .A z.desc.point).has Sub.forced = true := by decide +kernel

theorem witness_PointCommands_read :
    let r := recOf 0x11 [(8, 4, 5), (0x10, 8, 0x1000)]
    let x : Running := { tag := 7, opcode := 0x11, irqNow := false, isn := 1, left := [.A] }
    let s := withPoint [] { } (withRec r run)
    let s := { s with hif := { s.hif with running := [x] } }
    atCmd s 0x11 r ∧ r.desc.pointOk = true ∧ r.desc.resv 0xC 4 = true ∧ r.desc.resv 0x18 40 = true ∧ r.desc.aligned 0x10 = true
    ∧ s.hif.running = [x] ∧ x.dir = false ∧ x.isn = r.isn ∧ x.left = [EngineId.A] ∧ x.img = [] := by decide +kernel

def groupCmd (op : Nat) (args : List (Nat × Nat × Nat)) : State := withRec (recOf op args) run

/-- Point 5 is a member of the group. -/
theorem witness_GroupCommands_ack : Meets [] { callState := Call.stage1 } (withPoint [(0x28, 1, 3)] { } (groupCmd 0x21 [(8, 1, 3)]))
    (fun s _ => let r := recOf 0x21 [(8, 1, 3)]
      atCmd s 0x21 r ∧ r.desc.arg 8 1 = 3 ∧ r.desc.resv 0xA 54 = true ∧ r.desc.arg 9 1 = 0 ∧ calling (s.gr .A 3).callState = true) :=
  meets (by decide +kernel) (by decide +kernel)

theorem witness_GroupCommands_member : let s := withPoint [(0x28, 1, 3)] { } (groupCmd 0x21 [(8, 1, 3)])
    (s.pcfg 5).on = true ∧ (s.pcfg 5).group = 3 ∧ (s.pcfg 5).valid 5 = true := by decide +kernel

/-- The first stage, and the bridge. -/
theorem witness_GroupCommands_manual_first : Meets [] { } (groupCmd 0x30 [(8, 1, 3), (9, 1, 1)]) (fun s c =>
    let r := recOf 0x30 [(8, 1, 3), (9, 1, 1)]
    atCmd s 0x30 r ∧ r.desc.arg 8 1 = 3 ∧ r.desc.resv 0xA 54 = true ∧ r.desc.arg 9 1 ≠ 0 ∧ r.desc.arg 9 1 ≤ c.nStages
      ∧ c.callEn = true ∧ c.deadman = false ∧ calling (s.gr .A 3).callState = false) := meets (by decide +kernel) (by decide +kernel)

theorem witness_GroupCommands_manual_bridge : Meets [] { } (groupCmd 0x30 [(8, 1, 3), (9, 1, 8)]) (fun s c =>
    let r := recOf 0x30 [(8, 1, 3), (9, 1, 8)]
    atCmd s 0x30 r ∧ r.desc.arg 8 1 = 3 ∧ r.desc.resv 0xA 54 = true ∧ r.desc.arg 9 1 = 8
      ∧ c.callEn = true ∧ c.deadman = false ∧ calling (s.gr .A 3).callState = false) := meets (by decide +kernel) (by decide +kernel)

theorem witness_GroupCommands_silence : Meets [] { callState := Call.bridge } (groupCmd 0x31 [(8, 1, 3)]) (fun s _ =>
    let r := recOf 0x31 [(8, 1, 3)]
    atCmd s 0x31 r ∧ r.desc.arg 8 1 = 3 ∧ r.desc.resv 9 55 = true ∧ calling (s.gr .A 3).callState = true) :=
  meets (by decide +kernel) (by decide +kernel)

theorem witness_GroupCommands_deadman : Meets deadman { } (groupCmd 0x32 [(8, 1, 3)]) (fun s c =>
    let r := recOf 0x32 [(8, 1, 3)]
    atCmd s 0x32 r ∧ r.desc.arg 8 1 = 3 ∧ r.desc.resv 9 55 = true ∧ c.deadman = true ∧ c.callEn = true
      ∧ (s.gr .A 3).has G.blocked = false) := meets (by decide +kernel) (by decide +kernel)

/-- RUN with RUN_START behind AE-A, and room for one event. -/
def begun : State := { run with aeA := { run.aeA with runStarted := true, tickCap := 1 } }

theorem witness_GapsSealsAndBarriers_gap :
    let r := rec_ 7 0 0x1003 0x50003 []
    (withRec r begun).headRec .A = some r ∧ r.kind = Kind.sourceGap
    ∧ 0 < (((withRec r begun).fresh.runStart .A r).eng .A).room := by decide +kernel

theorem witness_GapsSealsAndBarriers_seal :
    let r := rec_ 6 0 0x8000 0xFF01 (zeros 64)
    (withRec r begun).headRec .A = some r ∧ r.isSeal = true ∧ 0 < (((withRec r begun).fresh.runStart .A r).eng .A).room := by
  decide +kernel

/-- A mark that nobody has filled; one filled with the engine's own state; one filled with another. -/
theorem witness_GapsSealsAndBarriers_mark :
    let m := rec_ 9 0 0x8000 0 []
    let f := rec_ 9 0 0x8000 0 (begun.wideOf .A)
    let g := rec_ 9 0 0x8000 0 (List.replicate 64 0xFF)
    let s := { withRec m begun with spawn := { snapping := true } }
    s.headRec .A = some m ∧ m.kind = Kind.mark ∧ m.ext = [] ∧ s.sourceEng = some .A ∧ s.spawn.snapping = true
    ∧ (withRec f begun).headRec .A = some f ∧ f.ext ≠ [] ∧ ((withRec f begun).fresh.runStart .A f).wideOf .A = f.ext
    ∧ (withRec g begun).headRec .A = some g ∧ g.ext ≠ [] ∧ ((withRec g begun).fresh.runStart .A g).wideOf .A ≠ g.ext := by
  decide +kernel

theorem witness_GapsSealsAndBarriers_barrier :
    let u : CmdUnit := { opcode := 0x10, bodies := [zeros 64], cfg := true }
    let s := withRec (recOf 0x10 []) run
    let s := { s with inlet := { s.inlet with barriers := [(1, u)] } }
    let b := { s with aeA := { s.aeA with pts := { live := true, dflt := { crcFlip := 1 } } } }
    s.inlet.barriers = [(1, u)] ∧ s.servers ≠ [] ∧ (∀ e ∈ s.servers, s.atUnit e 1 (max 1 u.bodies.length) = true)
    ∧ (∀ e ∈ s.servers, s.failsCrc e (s.unitReads u) = false) ∧ b.inlet.barriers = [(1, u)] ∧ b.servers ≠ []
    ∧ (∀ e ∈ b.servers, b.atUnit e 1 (max 1 u.bodies.length) = true) ∧ b.servers.find? (fun e => b.failsCrc e (b.unitReads u)) = some .A
    ∧ s.inlet.stream.find? (fun r => r.isn.toNat == 1) = some (recOf 0x10 []) := by decide +kernel

/-- The last record of AE-B's state region is damaged. -/
theorem witness_GapsSealsAndBarriers_ecc :
    let r := rec_ 6 0 0x8000 0x0013FFFC0000FF02 (zeros 64)
    (withRec r run).servers ≠ [] ∧ (∀ e ∈ (withRec r run).servers, (withRec r run).headRec e = some r) ∧ r.kind = Kind.cmd
    ∧ r.srcType = 8 ∧ r.pay 0x18 2 = 0xFF02 ∧ damagedAt r.eccOffset = some (.point .B 81919) := by decide +kernel

def resync (func arg : Nat) : InRec := rec_ 10 0 0xA000 (BitVec.ofNat 64 (func + arg * 2 ^ 32)) []

/-- Each function, and the last point and the last group that a REPAIR may name. -/
theorem witness_SkinkRecords :
    (∀ f ∈ [0, 1, 2, 3, 4], (withRec (resync f 0) run).headRec .A = some (resync f 0) ∧ (resync f 0).isResync f = true)
    ∧ run.mgmt = Node.run ∧ run.bothServe = true ∧ (run.eng .A).report = none
    ∧ (let s := { withRec (resync 3 0) run with aeA := { run.aeA with report := some [1] } }
       s.headRec .A = some (resync 3 0) ∧ s.mgmt = Node.run ∧ s.bothServe = true ∧ (s.eng .A).report = some [1])
    ∧ (let r := resync 4 (79 + 1023 * 128); (withRec r run).headRec .A = some r ∧ fld r.arg 0 7 ≠ 80 ∧ 1024 * fld r.arg 0 7 + fld r.arg 7 10 = 81919)
    ∧ (let r := resync 4 (80 + 255 * 128); (withRec r run).headRec .A = some r ∧ fld r.arg 0 7 = 80 ∧ fld r.arg 7 10 = 255) := by
  decide +kernel

theorem witness_SkinkRecords_copy :
    let s := { withRec (resync 1 0) run with skink := { run.skink with copy := some { source := .A, target := .B } } }
    s.headRec .A = some (resync 1 0) ∧ s.mgmt = Node.run
    ∧ s.skink.copy = some { source := .A, target := .B, isn := 0, started := false } ∧ EngineId.B ≠ EngineId.A := by decide +kernel

/-! ## Inlet and Outlet -/

/-- What every admission takes: `credited`, and no hold of Spawn. -/
abbrev admits (s : State) : Prop :=
  s.mgmt = Node.run ∧ (s.servers ≠ [] ∧ ∀ e ∈ s.servers, s.noCredit e = false) ∧ s.heldBySpawn = false

def withInlet (i : Inlet) : State := { run with inlet := i }

/-- A record behind its gap; a tick in series, and one out of series; a command of two records, before its first and before its last, and records that wait beside it then; an engine without credit beside one with the last; a hold with both engines as far behind as they may be. -/
theorem witness_Admission :
    (let s := withInlet { reveal := some (tick 1) }; admits s ∧ s.inlet.reveal = some (tick 1))
    ∧ (let r : InRec := { tick 1 with ssn := 9 }
       let s := fun n => withInlet { waiting := [(Place.tick, r)], expect := [(0x5000, n)] }
       admits (s 9) ∧ (s 9).inlet.reveal = none ∧ (s 9).begunUnit = false ∧ takePlace Place.tick (s 9).inlet.waiting = some (r, [])
       ∧ (s 9).inlet.lost.contains r.source.toNat = false
       ∧ (s 9).inlet.expect.find? (fun x => x.1 == r.source.toNat) = some (r.source.toNat, r.ssn)
       ∧ admits (s 8) ∧ (s 8).inlet.expect.find? (fun x => x.1 == r.source.toNat) = some (r.source.toNat, 8) ∧ 8 ≠ r.ssn)
    ∧ (∀ cfg : Bool, ∀ n ∈ [0, 1], ∀ w ∈ [[], [(Place.tick, tick 1)]],
       let s := withInlet { cmds := [{ cfg := cfg, sent := n, bodies := [zeros 64, zeros 64] }], waiting := w }
       n = 1 ∨ w = [] → admits s ∧ s.inlet.reveal = none ∧ (s.begunUnit = true ∨ s.inlet.waiting = []) ∧ s.inlet.cmds ≠ [])
    ∧ (let s := { withInlet { isn := 16384 } with aeB := { run.aeB with evalIsn := 1 } }
       s.mgmt = Node.run ∧ s.servers.filter s.noCredit = [.A])
    ∧ (let s := withInlet { isn := 16384 }
       s.mgmt = Node.run ∧ s.heldByEngines = true ∧ s.servers.length ≠ 1 ∧ s.inlet.holding = false) := by decide +kernel

/-- Credit for one TICK more, and for none. -/
theorem witness_Admission_tick :
    (run.fresh.pass run.fresh.toTick).mgmt = Node.run ∧ (run.fresh.pass run.fresh.toTick).hasCredit Place.tick = true
    ∧ (let s := withInlet { waiting := List.replicate 8 (Place.tick, tick 1) }
       (s.fresh.pass s.fresh.toTick).mgmt = Node.run ∧ (s.fresh.pass s.fresh.toTick).hasCredit Place.tick = false) := by
  decide +kernel

def evt (esn : BitVec 48) : Event := { esn := esn, type := Ev.pointTransition }

/-- REPLAY with the smallest backlog of Table 18-6 full, and a copy that waits. -/
def fullReplay : State :=
  { at_ 5 with aeA := { svc := Svc.inService, evq := [evt 1] }, hif := { elasticNow := 1, elasticReq := 1 },
               outlet := { backlog := List.replicate 32768 { ev := evt 1 } } }

theorem witness_EventsToReceivers_full : (fullReplay.eng .A).evq = [evt 1] ∧ fullReplay.outletFull = true := by
  refine ⟨rfl, ?_⟩
  have hm : fullReplay.mgmt = Node.replay := by rfl
  have hl : (List.replicate 32768 ({ ev := evt 1 } : Backlog)).length = 32768 := List.length_replicate ..
  unfold State.outletFull State.backlogCap State.backlogFill
  rw [hm, show fullReplay.outlet.backlog = List.replicate 32768 ({ ev := evt 1 } : Backlog) from rfl, hl]
  decide

theorem witness_EventsToReceivers_copy :
    (let s := { run with aeA := { run.aeA with evq := [evt 0] } }
     run.outletFull = false ∧ s.outletFull = false ∧ (s.eng .A).evq = [evt 0] ∧ s.isReleased (evt 0).esn = true
     ∧ (∀ m ∈ s.outlet.merge, m.esn ≠ s.outlet.nextRel))
    ∧ (let s := { run with aeA := { run.aeA with evq := [evt 1] } }
       s.outletFull = false ∧ (s.eng .A).evq = [evt 1] ∧ (evt 1).esn = s.outlet.nextRel ∧ s.outlet.merge = [] ∧ s.bothServe = true
       ∧ (evt 1).engine = .A
       ∧ (let u := { s with aeB := { }, hif := { elasticNow := 1, elasticReq := 1 } }
          u.outletFull = false ∧ (u.eng .A).evq = [evt 1] ∧ u.servers = [.A] ∧ u.freePlace < u.backlogCap)
       ∧ (let u := { s with aeB := { }, hif := { elasticNow := 0, elasticReq := 0 } }
          u.outletFull = false ∧ (u.eng .A).evq = [evt 1] ∧ u.servers = [.A] ∧ u.backlogCap ≤ u.freePlace))
    ∧ (∀ n ∈ [0, 1], let s := { run with hif := { elasticNow := n, elasticReq := n },
                                         outlet := { merge := [{ esn := 2, copies := [evt 2] }, { esn := 1, copies := [evt 1] }] } }
       s.oldestMerge = some { esn := 1, copies := [evt 1] }
       ∧ (if n = 0 then s.backlogCap ≤ s.freePlace else s.outletFull = false ∧ s.freePlace < s.backlogCap)) := by decide +kernel

/-- The first and the last event ring. -/
theorem witness_EventsToReceivers_delivery : ∀ ring ∈ [2, 5],
    let v := { evt 1 with prio := ring - 2 }
    let s := { withRing ring run with outlet := { backlog := [{ ev := v, takes := [.A] }] } }
    0 < s.ringCredit ring ∧ (writeNext (ring - 2) s.outlet.backlog).isSome = true := by decide +kernel

theorem witness_EventsToReceivers_publication :
    let s := { run.setReg Reg.PUB_ETH_CTL 3 with outlet := { pub := [evt 1] } }
    let u := { s with ws := { port0 := { txPub := List.replicate 4 [] } } }
    s.outlet.pub ≠ [] ∧ s.rbit Reg.PUB_ETH_CTL 0 = true ∧ s.rbit Reg.PUB_ETH_CTL (1 + 0) = true ∧ (s.port 0).txPub.length < 4
    ∧ u.outlet.pub ≠ [] ∧ u.rbit Reg.PUB_ETH_CTL 0 = true ∧ 4 ≤ (u.port 0).txPub.length
    ∧ (∀ p, p < 2 → u.rbit Reg.PUB_ETH_CTL (1 + p) = false ∨ 4 ≤ (u.port p).txPub.length) := by
  decide +kernel

/-- Channel 7 in CAN FD, and no publication. -/
theorem witness_EventsToReceivers_can :
    let s := { (run.setReg Reg.PUB_CAN_CTL 0xF).setReg (Reg.CAN_CFG 7) 5 with outlet := { pubCan := [evt 1] } }
    let z := { run with outlet := { pubCan := [evt 1] } }
    s.sourcesRun = true ∧ { at_ 3 with outlet := { pubCan := [evt 1] } }.sourcesRun = false
    ∧ s.outlet.pubCan = [evt 1] ∧ s.rbit Reg.PUB_CAN_CTL 0 = true ∧ s.rfld Reg.PUB_CAN_CTL 1 3 = 7 ∧ s.canMode 7 ≠ 0
    ∧ s.canStat 7 CanStat.outOfService = false ∧ s.canFd 7 = true ∧ (s.canCh 7).freeSlot.isSome = true
    ∧ z.outlet.pubCan = [evt 1] ∧ z.rbit Reg.PUB_CAN_CTL 0 = false := by decide +kernel

theorem witness_TrendsAndQuotas_sample :
    let s := { withRing 6 run with outlet := { trendFresh := [4095] },
                                   tarn := Sparse.write 0 [] (Tarn.TREND + 32 * 4095) (bytesOf 32 [(4, 2, 1000)]) }
    let u := s.fresh.pass 0
    (u.trend 4095).used = true ∧ u.mgmt = Node.run ∧ (u.trend 4095).due ≤ u.now.toNat
    ∧ u.outlet.trendFresh.contains 4095 = true ∧ 0 < u.ringCredit 6 := by decide +kernel

/-- CLEAR of the last entry, and a seal in RUN. -/
theorem witness_TrendsAndQuotas_control :
    let f := [(8, 1, 1), (0xA, 2, 4095)]
    let d := descOf 0x72 f
    heads (withCmd 0x72 f run) 0x72 d ∧ d.resv 9 1 = true ∧ d.resv 0x12 2 = true ∧ d.resv 0x18 40 = true ∧ d.arg 8 1 = 1
    ∧ d.arg 0xA 2 ≤ 4095 ∧ heads (withCmd 0x72 [(8, 1, 3)] run) 0x72 (descOf 0x72 [(8, 1, 3)]) ∧ (descOf 0x72 [(8, 1, 3)]).arg 8 1 = 3
    ∧ (withCmd 0x72 [(8, 1, 3)] run).mgmt = Node.run := by decide +kernel

abbrev quota (f : List (Nat × Nat × Nat)) : Prop :=
  heads (withCmd 0x70 f run) 0x70 (descOf 0x70 f) ∧ (descOf 0x70 f).resv 0xA 2 = true ∧ (descOf 0x70 f).resv 0x20 32 = true

/-- Each quota at the ends of its range. -/
theorem witness_TrendsAndQuotas_ranges :
    (∀ v ∈ [1, 16], quota [(0xC, 4, v)] ∧ (descOf 0x70 [(0xC, 4, v)]).arg 8 1 = 0 ∧ (descOf 0x70 [(0xC, 4, v)]).arg 9 1 = 0
      ∧ (descOf 0x70 [(0xC, 4, v)]).arg 0xC 4 = v)
    ∧ (withCmd 0x70 [] run).hif.elasticReq = (withCmd 0x70 [] run).hif.elasticNow
    ∧ (∀ v ∈ [1, 64], let f := [(8, 1, 1), (9, 1, 27), (0xC, 4, v)]
        quota f ∧ (descOf 0x70 f).arg 8 1 = 1 ∧ isHostToNode ((descOf 0x70 f).arg 9 1) = true ∧ (descOf 0x70 f).arg 0xC 4 = v)
    ∧ (∀ v ∈ [0, 100000], let f := [(8, 1, 3), (0xC, 4, v)]; quota f ∧ (descOf 0x70 f).arg 8 1 = 3 ∧ (descOf 0x70 f).arg 0xC 4 = v)
    ∧ (∀ v ∈ [1, 64], let f := [(8, 1, 4), (0xC, 4, v)]; quota f ∧ (descOf 0x70 f).arg 8 1 = 4 ∧ (descOf 0x70 f).arg 0xC 4 = v) := by
  decide +kernel

/-- The whole of the filter memory for channel 7. -/
theorem witness_TrendsAndQuotas_shares :
    let f := [(8, 1, 2), (0x1E, 2, 16384)]
    let d := descOf 0x70 f
    quota f ∧ d.arg 8 1 = 2 ∧ d.arg 9 1 = 0 ∧ (∀ n, n < 8 → d.arg (0x10 + 2 * n) 2 % 16 = 0)
    ∧ ((List.range 8).map (fun n => d.arg (0x10 + 2 * n) 2)).sum = 16384 := by decide +kernel

theorem witness_TrendsAndQuotas_split :
    let s := { run with hif := { elasticReq := 1, elasticNow := 2 }, outlet := { backlog := [{ ev := evt 1, place := 32767 }] } }
    let u := { run with hif := { elasticReq := 16, elasticNow := 2 } }
    s.hif.elasticReq < s.hif.elasticNow ∧ (∀ b ∈ s.outlet.backlog, b.place < 32768 * s.hif.elasticReq) ∧ u.hif.elasticNow < u.hif.elasticReq
    ∧ u.capturing = false := by decide +kernel

/-! ## The front end and the digital I/O -/

/-- A definition on the last lane, at the last position of its scan list: the first two terminals, without excitation. -/
def withDef (s : State) : State :=
  { (s.setReg (Reg.LANE_CTL 47) 1).setReg (Reg.LANE_SCAN 47 15) 0x100 with
    tarn := Sparse.write 0 s.tarn Tarn.CHANDEF (withCrc (bytesOf 64 [(1, 1, 1), (2, 1, 0xFF), (4, 2, 0xFFFF), (0xD, 1, 9),
      (0x10, 2, 0xD8F0), (0x12, 2, 0x2710), (0x15, 1, 1), (0x16, 1, 47), (0x17, 2, 0xFFFF)]) 64) }

def withLane (l : Lane) (s : State) : State := { withDef s with fe := { lanes := [(47, l)] } }

/-- A slot in RUN; a calibration slot in RUN behind a lane's first slot, and one in SETUP before it. -/
theorem witness_LanesAndCalibration_start :
    let s := withLane { } run
    let c := withLane { calDue := true } run
    let d := withLane { calDue := true, atStart := true } (at_ 3)
    (c.lane 47).atStart = false ∧ (c.lane 47).closed = [] ∧ d.mgmt = Node.setup ∧ d.laneOn 47 = true ∧ (d.lane 47).slot = none
    ∧ (d.lane 47).calActive = false ∧ (d.lane 47).calDue = true ∧
    s.mgmt = Node.run ∧ s.laneOn 47 = true ∧ (s.lane 47).slot = none ∧ (s.lane 47).calActive = false ∧ (s.lane 47).calDue = false
    ∧ s.nextSlot 47 = some 15 ∧ s.chValid (s.scanDef 47 15) = true ∧ (s.lane 47).holds (s.scanDef 47 15) = false
    ∧ c.laneOn 47 = true ∧ (c.lane 47).slot = none ∧ (c.lane 47).calActive = false ∧ (c.lane 47).calDue = true := by decide +kernel

theorem witness_LanesAndCalibration_end :
    let sl : Slot := { pos := 15, defn := 0, image := [], valid := true }
    let s := (withLane { slot := some sl } run).fresh.pass 0
    s.mgmt = Node.run ∧ (s.lane 47).slot = some sl ∧ sl.valid = true ∧ s.moving sl.defn = false ∧ s.hasCredit 47 = true := by
  decide +kernel

/-- The last item, with a measurement that is in force already and one that is no number. -/
theorem witness_LanesAndCalibration_calibration :
    let s := withLane { calActive := true, calItem := 31 } run
    let d := withLane { drain := [0] } run
    (s.lane 47).calActive = true ∧ (s.lane 47).calItem < 32 ∧ s.calRejects 31 (s.reg (s.calReg 47 31)) (s.reg (s.calReg 47 31)) = false
    ∧ s.calRejects 31 F32.qnan (s.reg (s.calReg 47 31)) = true ∧ (at_ 3).mgmt = Node.setup ∧ (withLane { } (at_ 3)).laneOn 47 = true
    ∧ d.drainedDef 47 = some 0 := by decide +kernel

theorem witness_TerminalsAndCheck :
    let s := (at_ 3).setReg (Reg.XP_BURDEN_EN 5) 0x80000000
    s.clampNow 191 = false ∧ s.burdenOn 191 = true ∧ s.burdenOpen 191 = false ∧ s.rbit Reg.BS_STATUS 7 = false
    ∧ s.mgmt = Node.setup ∧ run.mgmt ≠ Node.setup := by decide +kernel

/-- Channel 63 an output of the host's, and written. -/
theorem witness_DioLevelsAndCounts_write :
    let f := [(8, 8, 0x8000000000000000), (0x10, 8, 0x8000000000000000)]
    let s := withCmd 0x73 f (run.setReg (Reg.DIO_CH_CFG 63) Dmode.outHost)
    let d := descOf 0x73 f
    heads s 0x73 d ∧ d.resv 0x18 40 = true ∧ (∀ n, n < 64 → (d.arg 8 8).testBit n = true → s.dioMode n = Dmode.outHost)
    ∧ (∀ n, n < 64 → (d.arg 0x10 8).testBit n = true → (d.arg 8 8).testBit n = true) := by decide +kernel

/-- The field side of every bank communicates; bank 3 owes its first record. -/
def field : State :=
  let s := { run with dio := { bank3 := { initial := true } } }
  ((((s.setReg (Reg.DIO_BANK_STATUS 0) 2).setReg (Reg.DIO_BANK_STATUS 1) 2).setReg (Reg.DIO_BANK_STATUS 2) 2).setReg
    (Reg.DIO_BANK_STATUS 3) 2)

theorem witness_DioLevelsAndCounts_window : let s := field.fresh.pass 0
    s.fieldUp 3 = true ∧ s.stalled (3 / 2) = false ∧ Node.setup ≤ s.mgmt ∧ s.mgmt = Node.run ∧ (s.bank 3).initial = true
    ∧ s.hasCredit (Place.newt (3 / 2)) = true := by decide +kernel

/-- The last counter. -/
theorem witness_DioLevelsAndCounts_count : let s := field.setReg (Reg.DIO_CH_CFG (counterCh 15)) Dmode.cnt
    s.counts 15 = true ∧ (s.fresh.pass 0).mgmt = Node.run ∧ (s.fresh.pass 0).counts 15 = true
    ∧ (s.fresh.pass 0).hasCredit (Place.newt (15 / 8)) = true := by decide +kernel

theorem witness_FieldSideAndWatchdogs_newt :
    let s := { run with dio := { stalledB := true } }
    let w := { run with dio := { bank3 := { wdExpired := false } } }
    run.mgmt = Node.run ∧ run.stalled 1 = false ∧ run.holderAlive = true ∧ Node.selftest ≤ w.mgmt ∧ (w.bank 3).wdExpired = false
    ∧ s.stalled 1 = true ∧ s.rbit Reg.MGMT_SELFTEST (7 + 1) = false := by decide +kernel

/-- Bank 3 in fault without a switch in shutdown; its channel 63 an output that has shut down, commanded on and commanded off. -/
theorem witness_FieldSideAndWatchdogs_fault :
    let s := field.setReg (Reg.DIO_BANK_STATUS 3) 3
    let x := fun c => { field.setReg (Reg.DIO_CH_CFG 63) Dmode.outHost with
      dio := { bank3 := { causes := [.thermal 15], commanded := c, wdExpired := false } } }
    let h := x 0x8000
    let g := x 0
    field.bankFault 3 = false ∧ s.bankFault 3 = true ∧ s.fieldUp 3 = true ∧ s.shutDown 3 = false ∧ (at_ 3).fieldUp 3 = false
    ∧ (∀ x ∈ [h, g], FaultCause.thermal (BitVec.ofNat 4 63) ∈ (x.bank (63 / 16)).causes ∧ x.fieldUp (63 / 16) = true)
    ∧ h.driveLevel 63 = true ∧ g.driveLevel 63 = false := by decide +kernel

/-! ## CAN FD -/

/-- Channel 7 normal, FD, on the bus. -/
def withCan (c : Can) : State := { (run.setReg (Reg.CAN_CFG 7) 0x1000005).setReg (Reg.CAN_STATUS 7) 1 with can := [(7, c)] }

def frame (fd : Nat) : CanFrame := { id := BitVec.ofNat 32 (fd * 2 ^ 30), dlc := 8, brs := false, esi := false, data := zeros 8 }

/-- A FIFO with room for one frame, and a full one. -/
theorem witness_CanReception_received :
    let s := fun n => ((withCan { rxFifo := List.replicate n (frame 0, 0, 0) }).fresh.pass 0)
    (s 15).mgmt = Node.run ∧ (s 15).canOn 7 = true ∧ frameFd (frame 1) = true ∧ (s 15).canFd 7 = true
    ∧ ((s 15).canCh 7).rxFifo.length < 16 ∧ (s 16).canOn 7 = true ∧ 16 ≤ ((s 16).canCh 7).rxFifo.length := by decide +kernel

/-- A frame that an element sends to the engines, and one that no element takes. -/
theorem witness_CanReception_walk :
    let s := { withCan { rxFifo := [(frame 0, 5, 1)] } with canWalk := [7] }
    let t := { s with
      tarn := Sparse.write 0 [] (Tarn.CAN_FILT + 16 * 14336) (bytesOf 16 [(0, 1, 1), (1, 1, 2), (8, 4, 0x7FF)]) }
    s.canWalk = [7] ∧ (s.canCh 7).rxFifo = [(frame 0, 5, 1)]
    ∧ (s.walk (frame 0) (s.filtWalked 7).1 (s.filtWalked 7).2 0 { }).found = none ∧ s.rbit (Reg.CAN_CFG 7) 7 = false
    ∧ (t.walk (frame 0) (t.filtWalked 7).1 (t.filtWalked 7).2 0 { }).found.map (·.2.action) = some 2
    ∧ frameRtr (frame 0) = false ∧ t.hasCredit (Place.can 7) = true := by decide +kernel

theorem witness_CanReception_errors :
    let s := (withCan { }).setReg (Reg.CAN_CFG 7) 1
    s.mgmt = Node.run ∧ s.canOn 7 = true ∧ s.canFd 7 = false ∧ s.canMonitor 7 = false := by decide +kernel

/-- An entry that may be sent, and one with a reserved bit; the share takes one frame. -/
theorem witness_CanTransmission_entry :
    let l := bytesOf 80 [(0, 4, 0x7FF), (4, 1, 8)]
    let b := bytesOf 80 [(0, 4, 0x800007FF), (4, 1, 8)]
    let s := fun e => { withCan { } with hif := { fetched := [(17, e)] } }
    (s l).mgmt = Node.run ∧ (s l).canMode 7 ≠ 0 ∧ (s l).canStat 7 CanStat.outOfService = false
    ∧ ((s l).canCh 7).hostSlots < (s l).canShare 7 ∧ (s l).fetchedOf (10 + 7) = [l] ∧ ((s l).canCh 7).freeSlot.isSome = true
    ∧ (s l).txEntryOk 7 l = true ∧ (s b).fetchedOf (10 + 7) = [b] ∧ (s b).txEntryOk 7 b = false := by decide +kernel

def slot (tx : Bool) : TxSlot :=
  { idx := 31, seq := 1, node := false, id := 0x7FF, rtr := false, brs := false, oneShot := false, report := false, dlc := 8, tag := 0,
    data := zeros 8, inTx := tx }

theorem witness_CanTransmission_attempt :
    let s := (withCan { slots := [slot false] }).fresh.pass 0
    let u := (withCan { slots := [slot true] }).fresh.pass 0
    s.mgmt = Node.run ∧ s.canOn 7 = true ∧ s.canMonitor 7 = false ∧ (s.canCh 7).current = none
    ∧ bestSlot (s.canCh 7).slots = some (slot false) ∧ u.mgmt = Node.run ∧ (u.canCh 7).current = some (slot true)
    ∧ (u.canCh 7).busOffWait = none ∧ (slot true).cancel = false ∧ u.oneShot 7 (slot true) = false := by decide +kernel

theorem witness_CanControl_states :
    let i := (withCan { }).setReg (Reg.CAN_STATUS 7) (BitVec.ofNat 32 (2 ^ CanStat.integrating))
    let b := (withCan { }).setReg (Reg.CAN_STATUS 7) (BitVec.ofNat 32 (3 + 2 ^ CanStat.recovering))
    i.mgmt = Node.run ∧ i.canStat 7 CanStat.integrating = true ∧ b.canBus 7 = 3 ∧ b.canStat 7 CanStat.recovering = true := by
  decide +kernel

/-- The last channel: with no host frame, and with one that is not on the bus. -/
theorem witness_CanControl_cancel :
    let f := [(8, 1, 7), (9, 1, 1)]
    let d := descOf 0x40 f
    let s := withCmd 0x40 f (withCan { })
    let u := withCmd 0x40 f (withCan { slots := [slot false] })
    heads s 0x40 d ∧ d.arg 8 1 ≤ 7 ∧ d.arg 9 1 = 1 ∧ d.resv 0xC 52 = true ∧ s.fetchedOf (10 + d.arg 8 1) = []
    ∧ (∀ x ∈ (s.canCh (d.arg 8 1)).slots, x.node = true) ∧ heads u 0x40 d ∧ u.fetchedOf (10 + d.arg 8 1) = []
    ∧ (∀ x ∈ (u.canCh (d.arg 8 1)).slots, x.node = false → x.inTx = false) ∧ (u.canCh (d.arg 8 1)).hostSlots ≠ 0 := by decide +kernel

/-- TERM and MONITOR, off and on. -/
theorem witness_CanControl_channel : ∀ v ∈ [0, 1], ∀ func ∈ [2, 3],
    let f := [(8, 1, 7), (9, 1, func), (0xA, 1, v)]
    let s := withCmd 0x41 f (withCan { })
    heads s 0x41 (descOf 0x41 f) ∧ (descOf 0x41 f).arg 8 1 ≤ 7 ∧ (descOf 0x41 f).arg 0xA 1 = v ∧ (descOf 0x41 f).resv 0xB 53 = true
    ∧ (descOf 0x41 f).arg 9 1 = func ∧ s.mgmt = Node.run ∧ s.canMode 7 = 1 ∧ s.canStat 7 CanStat.outOfService = false := by
  decide +kernel

/-! ## The twin supervisor and Spawn -/

/-- AE-A serves; it is without credit beside AE-B with the last, and alone; a TICK waits for it. -/
theorem witness_EngineFailuresAndControl_failure :
    let s := withRec (tick 1) run
    let u := { withInlet { isn := 16384 } with aeB := { run.aeB with evalIsn := 1 } }
    let l := { withInlet { isn := 16384 } with aeB := { } }
    s.serves .A = true ∧ s.mgmt = Node.run ∧ s.running = true ∧ s.outletFull = false ∧ s.tickWaits .A = true
    ∧ (run.eng (other .A)).svc = Svc.inService ∧ u.serves .A = true ∧ u.noCredit .A = true ∧ u.noCredit (other .A) = false
    ∧ l.serves .A = true ∧ l.noCredit .A = true ∧ l.serves (other .A) = false := by decide +kernel

/-- Each function of ENGINE_CTL on the engine that does not hold, and HANDOVER to the one that does. -/
theorem witness_EngineFailuresAndControl_control :
    (∀ func ∈ [0, 1, 3], let f := [(8, 1, func), (9, 1, 2)]; let s := withCmd 0x71 f run
      heads s 0x71 (descOf 0x71 f) ∧ engOf ((descOf 0x71 f).arg 9 1) = some .B ∧ (descOf 0x71 f).resv 0xA 54 = true
      ∧ (descOf 0x71 f).arg 8 1 = func ∧ s.mgmt = Node.run ∧ s.serves .B = true ∧ s.serves (other .B) = true
      ∧ s.skink.holder ≠ some .B ∧ (s.eng .B).svc = Svc.inService)
    ∧ (let f := [(8, 1, 2), (9, 1, 2)]; let s := { withCmd 0x71 f run with aeB := { svc := Svc.offline } }
       heads s 0x71 (descOf 0x71 f) ∧ engOf ((descOf 0x71 f).arg 9 1) = some .B ∧ (descOf 0x71 f).resv 0xA 54 = true
       ∧ (descOf 0x71 f).arg 8 1 = 2 ∧ s.mgmt = Node.run ∧ s.skink.copy = none ∧ (s.eng .B).svc = Svc.offline
       ∧ (s.eng .B).vecFailed = false)
    ∧ (let f := [(8, 1, 3), (9, 1, 1)]; heads (withCmd 0x71 f run) 0x71 (descOf 0x71 f) ∧ engOf ((descOf 0x71 f).arg 9 1) = some .A
      ∧ (withCmd 0x71 f run).skink.holder = some .A) := by decide +kernel

def twins (a b : Engine) (k : Skink) : State := { run with aeA := a, aeB := b, skink := k }

theorem witness_HoldAndReturn :
    (let s := twins { svc := Svc.failed } { svc := Svc.inService } { }
     s.running = true ∧ s.skink.holder = none ∧ s.candidate = some .B)
    ∧ (twins { svc := Svc.inService, handReq := true } { svc := Svc.inService } { holder := some .B }).takeBackTo = some .A
    ∧ (let s := twins { svc := Svc.inService } { svc := Svc.failed } { holder := some .A }
       s.mgmt = Node.run ∧ (s.eng .B).svc = Svc.failed ∧ s.skink.copy = none ∧ s.serves (other .B) = true ∧ s.skink.holder ≠ some .B)
    ∧ (let c : Copy := { source := .A, target := .B, started := true }
       (twins { svc := Svc.inService } { svc := Svc.resync } { copy := some c }).skink.copy = some c ∧ c.started = true)
    ∧ ((twins { } { svc := Svc.proving } { }).eng .B).svc = Svc.proving := by decide +kernel

theorem witness_AuditAndDivergence_offer :
    let s := { (run.setReg Reg.SKINK_AUDIT_CTL 1) with inlet := { tickNo := 1000 } }
    s.mgmt = Node.run ∧ s.rbit Reg.SKINK_AUDIT_CTL 0 = true ∧ s.inlet.tickNo.toNat % 1000 = 0 ∧ s.inlet.tickNo ≠ s.skink.auditTick
    ∧ s.skink.diverge = none ∧ s.bothServe = true ∧ { s with aeB := { } }.bothServe = false := by decide +kernel

/-- Equal buffers, and buffers that differ in the last record. -/
theorem witness_AuditAndDivergence_compare :
    let s := fun (b : List U32) => twins { svc := Svc.inService, audit := some (80, [1, 2]) } { svc := Svc.inService, audit := some (80, b) } { }
    (∀ x ∈ [(s [1, 3]), { s [1, 3] with skink := { diverge := some 9 } }], x.aeA.audit = some (80, [1, 2]) ∧ x.aeB.audit = some (80, [1, 3])
      ∧ x.mgmt = Node.run) ∧ { s [1, 3] with skink := { diverge := some 9 } }.skink.diverge.isSome = true
    ∧ (s [1, 2]).aeA.audit = some (80, [1, 2]) ∧ (s [1, 2]).aeB.audit = some (80, [1, 2]) ∧ differing [1, 2] [1, 2] = []
    ∧ differing [1, 2] [1, 3] = [1] ∧ (s [1, 3]).mgmt = Node.run ∧ (s [1, 3]).skink.diverge = none := by decide +kernel

/-- Whom the reports name: AE-A, AE-B, both, neither. -/
theorem witness_AuditAndDivergence_resolution : ∀ a ∈ [[], [1]], ∀ b ∈ [[], [2]],
    let s := twins { svc := Svc.inService, report := some a } { svc := Svc.inService, report := some b } { holder := some .B, diverge := some 1, diverges := [2] }
    s.mgmt = Node.run ∧ s.skink.diverge = some 1 ∧ s.bothServe = true ∧ s.aeA.report = some a ∧ s.aeB.report = some b ∧ s.nonHolder = some .A := by
  decide +kernel

/-- A module of a pair; its node identifier that of its partner, one above it, and another. -/
def pair (ctl : Nat) (k : Skink) : State := { (run.setReg Reg.PAIR_CTL (BitVec.ofNat 32 ctl)).setReg Reg.MGMT_NODE_ID 1 with skink := k }

theorem witness_ExternalPair :
    (let s := pair 1 { claim := true }; s.skink.claim = true ∧ s.skink.sharing = false ∧ s.rfld Reg.PAIR_CTL 8 6 < s.nodeId)
    ∧ (∀ c ∈ [1, 0x101], let s := pair c { pairSenseHigh := false, holder := some .A }
       s.paired = true ∧ s.skink.claim = false ∧ s.pairEligible = true ∧ s.skink.intlkInHigh = true)
    ∧ (pair 1 { }).rfld Reg.PAIR_CTL 8 6 ≠ (pair 1 { }).nodeId ∧ (pair 0x101 { }).rfld Reg.PAIR_CTL 8 6 = (pair 0x101 { }).nodeId
    ∧ (let s := { (at_ 3).setReg (Reg.DIO_CH_CFG 63) Dmode.outCall with skink := { claim := true } }.setReg Reg.PAIR_MASK_HI 0x80000000
       s.skink.claim = true ∧ s.pairEligible = false ∧ s.running = false ∧ s.sharedOut 63 = true ∧ s.stalled (63 / 32) = false)
    ∧ (pair 1 { pairSenseHigh := false }).skink.pairSenseHigh = false ∧ (pair 1 { }).rbit Reg.PAIR_CTL 0 = true := by decide +kernel

/-- A capture: mode and state of SPAWN_STATUS, and Spawn's own state. -/
def capture (mode st : Nat) (p : Spawn) : State := { run.setReg Reg.SPAWN_STATUS (BitVec.ofNat 32 (mode + 4 * st)) with spawn := p }

/-- STOP, CLEAR_TABLE with no entry, and CONTINUOUS with the longest checkpoint time, on an idle Spawn and on a busy one. -/
theorem witness_CapturesAndSnapshots_control :
    (∀ func ∈ [0, 3, 1], let f := [(8, 1, func), (0xA, 2, if func = 1 then 3600 else 0)]; let d := descOf 0x50 f
      heads (withCmd 0x50 f (capture 0 0 { })) 0x50 d ∧ d.resv 0x18 40 = true ∧ d.arg 8 1 = func ∧ d.arg 0xE 2 = 0 ∧ d.aligned 0x10 = true
      ∧ d.arg 0xA 2 ≤ 3600 ∧ 4 ≤ (withCmd 0x50 f (capture 0 0 { })).spawnShare ∧ (withCmd 0x50 f (capture 0 0 { })).capturing = false
      ∧ heads (withCmd 0x50 f (capture 1 3 { })) 0x50 d ∧ (withCmd 0x50 f (capture 1 3 { })).capturing = true)
    ∧ ({ capture 0 0 { } with hif := { elasticNow := 14 } }).spawnShare = 4 := by decide +kernel

theorem witness_CapturesAndSnapshots_trigger :
    let s := withCmd 0x51 [] ((capture 2 3 { journaling := true }).setReg Reg.SPAWN_TRIG_CFG 4)
    heads s 0x51 (descOf 0x51 []) ∧ s.capMode = 2 ∧ s.spawn.journaling = true ∧ s.rbit Reg.SPAWN_TRIG_CFG 2 = true
    ∧ s.spawn.triggered = false ∧ s.capState = Cap.recording ∧ heads (withCmd 0x51 [] run) 0x51 (descOf 0x51 [])
    ∧ (withCmd 0x51 [] run).capMode ≠ 2 := by decide +kernel

theorem witness_CapturesAndSnapshots_snapshot :
    (let s := capture 1 2 { markWanted := true }
     s.mgmt = Node.run ∧ s.spawn.markWanted = true ∧ s.markWaits = false ∧ s.inlet.barriers = [] ∧ s.inlet.cmds.any CmdUnit.cfg = false ∧ s.snapUnderWay = true)
    ∧ (∀ mode ∈ [1, 2], let s := capture mode 2 { staging := some (.A, { dflt := { } }, { dflt := { } }, 1) }
       s.spawn.staging = some (.A, { dflt := { } }, { dflt := { } }, 1) ∧ s.spawn.units.any s.spawn.isSnap = false
       ∧ s.capMode = mode) := by decide +kernel

theorem witness_JournalStreaming_buffer :
    let u : SpawnUnit := { kind := 0, bytes := [1, 2, 3], closed := true }
    let s := { withRing 7 run with spawn := { units := [u] } }
    s.rbit (Reg.RING_STATUS 7) 2 = false ∧ 0 < s.ringCredit 7 ∧ s.spawn.unwritten = 0 ∧ s.spawn.units = [u] ∧ u.closed = true ∧ u.bytes.length ≤ 4096 := by decide +kernel

/-- A unit of one byte more than a buffer takes. -/
theorem witness_JournalStreaming_long : 4096 < (List.replicate 4097 (0 : Byte)).length := by
  rw [List.length_replicate]; decide

theorem witness_JournalStreaming_checkpoint_freeze :
    (let s := capture 1 3 { journaling := true, ckptDue := some (0, 5, 6) }
     s.mgmt = Node.run ∧ s.spawn.ckptDue = some (0, 5, 6) ∧ s.sourceEng = some .A
     ∧ (∀ x ∈ s.servers, (0 : U64).toNat ≤ (s.eng x).evalIsn.toNat) ∧ s.spawn.journaling = true ∧ s.windowFull = false)
    ∧ (let s := capture 2 4 { journaling := true, ckptDue := some (0, 5, 6), behind := [[1]], triggered := true, post := 0xFFFFFFFF }
       s.mgmt = Node.run ∧ s.spawn.ckptDue = some (0, 5, 6) ∧ s.sourceEng = some .A
       ∧ (∀ x ∈ s.servers, (0 : U64).toNat ≤ (s.eng x).evalIsn.toNat) ∧ s.spawn.journaling = true ∧ s.windowFull = true
       ∧ s.spawn.behind ≠ [])
    ∧ (let s := capture 2 4 { triggered := true, post := 0xFFFFFFFF, ring := [[1], [2]] }
       s.capState = Cap.postTrigger ∧ s.windowFull = true ∧ s.spawn.behind = []) := by decide +kernel

theorem witness_ReplayRuns_start :
    let s := withCmd 0x52 [(8, 4, 3)] { (at_ 3).setReg (Reg.RING_STATUS 8) 1 with aeA := { svc := Svc.inService } }
    heads s 0x52 (descOf 0x52 [(8, 4, 3)]) ∧ (descOf 0x52 [(8, 4, 3)]).arg 8 4 ≤ 3 ∧ (descOf 0x52 [(8, 4, 3)]).resv 0xC 4 = true
    ∧ (descOf 0x52 [(8, 4, 3)]).resv 0x18 40 = true ∧ s.ringActive 8 = true ∧ s.capturing = false
    ∧ (s.eng s.skink.preferred).svc ≠ Svc.offline
    ∧ (let b := withCmd 0x52 [(8, 4, 4)] { at_ 3 with aeA := { svc := Svc.inService } }
       heads b 0x52 (descOf 0x52 [(8, 4, 4)]) ∧ (b.eng b.skink.preferred).svc ≠ Svc.offline ∧ 3 < (descOf 0x52 [(8, 4, 4)]).arg 8 4)
    ∧ (let b := withCmd 0x52 [(8, 4, 3)] { at_ 3 with aeA := { svc := Svc.inService } }
       heads b 0x52 (descOf 0x52 [(8, 4, 3)]) ∧ (b.eng b.skink.preferred).svc ≠ Svc.offline ∧ b.ringActive 8 = false) := by decide +kernel

/-- A replay: its state, and Spawn's own. -/
def replaying (st : Nat) (p : Spawn) : State :=
  { (at_ 5).setReg Reg.SPAWN_RP_STATUS (BitVec.ofNat 32 st) with aeA := { svc := Svc.inService }, skink := { holder := some .A }, spawn := p }

theorem witness_ReplayRuns_stop : heads (withCmd 0x53 [] (replaying 3 { })) 0x53 (descOf 0x53 []) := by decide +kernel

/-- The buffer that is next, and one out of sequence. -/
theorem witness_ReplayRuns_buffer :
    let s := fun n => { replaying 1 { } with hif := { fetched := [(8, bytesOf 16 [(0xC, 4, n)])] } }
    (s 1).fetchedOf 8 = [bytesOf 16 [(0xC, 4, 1)]] ∧ (s 1).mgmt = Node.replay ∧ (s 1).rpState = Rp.loading
    ∧ (s 1).spawn.replay.lastSeen = false ∧ (s 1).rpRoom = true ∧ (s 1).rbit (Reg.RING_STATUS 8) 2 = false
    ∧ u32At (bytesOf 16 [(0xC, 4, 1)]) 0xC = (s 1).spawn.replay.seq + 1 ∧ u32At (bytesOf 16 [(0xC, 4, 2)]) 0xC ≠ (s 2).spawn.replay.seq + 1 := by
  decide +kernel

theorem witness_ReplayRuns_end :
    (let s := replaying 2 { ckptDue := some (0, 5, 6), replay := { ckpt := [1] } }
     s.mgmt = Node.replay ∧ s.spawn.ckptDue = some (0, 5, 6) ∧ s.spawn.replay.ckpt ≠ []
     ∧ ∀ e ∈ s.servers, (0 : U64).toNat ≤ (s.eng e).evalIsn.toNat)
    ∧ (let s := replaying 2 { replay := { rflags := 2 } }
       s.mgmt = Node.replay ∧ s.rpState = Rp.running ∧ s.allEvaluated = true ∧ s.rpStopped = true)
    ∧ (let s := replaying 2 { replay := { lastSeen := true } }
       s.allEvaluated = true ∧ s.rpStopped = false ∧ s.spawn.replay.lastSeen = true ∧ s.spawn.replay.buf = [] ∧ s.allWritten = true) := by
  decide +kernel

/-! ## Wellspring, the RTC and the panel -/

/-- The host rules the time base: its command, its mode, and whether a switch is armed. -/
def host (f : List (Nat × Nat × Nat)) (w : Wellspring) : State :=
  State.pass (State.fresh (withCmd 0x75 f { run.setReg Reg.WS_CTL 1 with ws := w })) 0

def armed : Switch := { at_ := 5000, step := 0, normal := true }

/-- A command stands at the head, and neither its arguments nor the state turn it away. -/
abbrev takes (f : List (Nat × Nat × Nat)) (r : State) : Prop :=
  heads r 0x75 (descOf 0x75 f) ∧ r.adjBad (descOf 0x75 f) = false ∧ r.adjState (descOf 0x75 f) = false

/-- Each function in the mode that takes it, with and without an armed switch; a switch instant that is past, one that is the present, and one to come. -/
theorem witness_HostTimeControl_functions :
    (∀ at_ ∈ [999, 1000, 1001], ∀ func ∈ [0, 4],
      let f := [(8, 1, func), (0x10, 8, at_), (0x18, 8, 0x0500000000000000), (0x28, 8, 0x500000000)]
      takes f (host f { normal := true, frc := 1000 }) ∧ (descOf 0x75 f).arg 8 1 = func ∧ (host f { normal := true }).ws.armed = none
      ∧ (host f { normal := true, frc := 1000 }).frcNat = 1000
      ∧ takes f (host f { normal := true, frc := 1000, armed := some armed }))
    ∧ (∀ func ∈ [1, 2, 3], let f := [(8, 1, func), (0x18, 8, 0x0500000000000000), (0x28, 8, 0x500000000)]
      takes f (host f { }) ∧ (descOf 0x75 f).arg 8 1 = func ∧ (host f { }).ws.armed = none
      ∧ takes f (host f { armed := some armed }) ∧ (host f { armed := some armed }).ws.armed.isSome = true)
    ∧ (∀ q ∈ [2, 3], let f := [(8, 1, 5), (9, 1, q)]; takes f (host f { }) ∧ (descOf 0x75 f).arg 8 1 = 5)
    ∧ (let f := [(8, 1, 7), (9, 1, 1), (0x20, 4, 10000000)]; takes f (host f { }) ∧ (descOf 0x75 f).arg 8 1 = 7) := by decide +kernel

theorem witness_HostTimeControl_oneshot :
    let f := [(8, 1, 6), (9, 1, 7)]
    let s := withCmd 0x75 f (run.setReg (Reg.TMO_CFG 7) 1)
    takes f (s.fresh.pass 0) ∧ (descOf 0x75 f).arg 8 1 = 6 := by decide +kernel

/-- A function that is none, one that the state turns away, an armed switch with and without a command. -/
theorem witness_HostTimeControl_other :
    (let f := [(8, 1, 8)]; heads (host f { }) 0x75 (descOf 0x75 f) ∧ (host f { }).adjBad (descOf 0x75 f) = true)
    ∧ (let f := [(8, 1, 5), (9, 1, 2)]; let r := (withCmd 0x75 f run).fresh.pass 0
       heads r 0x75 (descOf 0x75 f) ∧ r.adjBad (descOf 0x75 f) = false ∧ r.adjState (descOf 0x75 f) = true)
    ∧ { run with ws := { armed := some { armed with cmd := some (7, true) } } }.ws.armed = some { armed with cmd := some (7, true) }
    ∧ { run with ws := { armed := some { armed with normal := false } } }.ws.armed = some { armed with normal := false }
    ∧ (host [] { normal := true }).servoHost = true ∧ (host [] { normal := true }).ws.normal = true := by decide +kernel

/-- The servo of the node runs, with its master on port 1. -/
def servo (st : Nat) (x : Servo) : State :=
  { (run.setReg (Reg.ETH_CTL 1) 3).setReg (Reg.PTP_RXLAT 1) 0 with ws := { normal := true, servoState := st, servo := { x with master := some (9, 1) } } }

/-- An offset of a nanosecond over the jump limit; of one over the step limit; the last of sixteen within the lock limit. -/
theorem witness_NodeServo_sync :
    let r := fun st x => (servo st x).fresh.pass 0
    let o := fun (s : State) (t1 : U64) => (s.rxStamp 1 - t1).toInt - s.ws.servo.d - s.asymmetry 1
    let h : PtpHeader := ⟨0, false⟩
    (∀ st ∈ [1, 2, 4], (r st { }).ptpTakes h = true ∧ (r st { }).ptpTakes ⟨1, false⟩ = false ∧ (r st { }).ptpTakes ⟨0, true⟩ = false ∧ (r st { }).servoRuns = true ∧ (r st { }).ptpPort 1 = true ∧ (r st { }).isMaster 9 1 = true ∧ (r st { }).ws.servoState = st)
    ∧ (let s := r 2 { predOk := true }; s.ws.servo.predOk = true ∧ s.jumpLimit < (o s (s.rxStamp 1 + BitVec.ofNat 64 (s.jumpLimit + 1)) - s.ws.servo.pred).natAbs)
    ∧ (let s := r 1 { }; s.stepThresh < (o s (s.rxStamp 1 + BitVec.ofNat 64 (s.stepThresh + 1))).natAbs)
    ∧ (let s := r 1 { lockRun := 15 }
       (o s (s.rxStamp 1)).natAbs ≤ s.stepThresh ∧ (o s (s.rxStamp 1)).natAbs < s.lockThresh ∧ 15 ≤ s.ws.servo.lockRun) := by decide +kernel

theorem witness_NodeServo_delay :
    let s := fun (st : Nat) (x : Servo) => servo st { x with t3 := some (7, 0) }
    (s 1 { }).ws.servo.t3 = some (7, 0) ∧ (s 1 { }).ptpTakes ⟨0, false⟩ = true ∧ (s 2 { haveD := true }).ptpTakes ⟨0, false⟩ = true ∧ (s 1 { }).servoRuns = true ∧ (s 1 { }).ptpPort 1 = true ∧ (s 1 { }).isMaster 9 1 = true
    ∧ (s 1 { }).ws.servoState ≠ Servo.suspect ∧ (s 1 { }).ws.servo.haveD = false ∧ (s 2 { haveD := true }).ws.servoState = Servo.locked
    ∧ (s 2 { haveD := true }).ws.servo.haveD = true ∧ (s 2 { haveD := true }).isMaster 9 1 = true
    ∧ (let u := s 2 { haveD := true }
       u.jumpLimit < ((u.ws.servo.fwd + (BitVec.ofNat 64 (2 * u.jumpLimit + 2) - 0).toInt).fdiv 2 - u.ws.servo.d).natAbs) := by decide +kernel

def announce (steps : U16) : PtpAnnounce :=
  { hdr := ⟨0, false⟩, logInterval := 0, master := 9, grandmaster := 9, priority1 := 128, clockClass := 6, accuracy := 0x21, variance := 0, priority2 := 128, stepsRemoved := steps }

theorem witness_NodeServo_master :
    (let s := (run.setReg (Reg.ETH_CTL 1) 3).fresh.pass 0
     s.ptpTakes (announce 0).hdr = true ∧ s.ptpTakes ⟨1, false⟩ = false ∧ s.servoRuns = true ∧ s.ptpPort 1 = true ∧ s.ws.servo.master = none ∧ s.ws.servo.best = none ∧ s.ws.servoState = Servo.free)
    ∧ ((servo 1 { }).fresh.pass 0).ws.servo.master = some (9, 1) ∧ ((servo 1 { }).fresh.pass 0).servoRuns = true
    ∧ ((servo 1 { }).fresh.pass 0).ptpPort 1 = true ∧ (servo 1 { }).ws.servo.master = some (9, 1) ∧ (servo 1 { }).servoRuns = true
    ∧ (servo 1 { }).ws.servoState = Servo.acquire ∧ (servo 1 { }).ws.normal = true := by decide +kernel

/-- Port 1 up, taking frames for the host; its MAC address is 0. -/
def eth (w : Wellspring) : State :=
  { ((((withRing 29 run).setReg (Reg.ETH_CTL 1) 5).setReg (Reg.ETH_STATUS 1) 1).setReg (Reg.ETH_MAC_LO 1) 0).setReg (Reg.ETH_MAC_HI 1) 0 with ws := w }

/-- The shortest frame and a broken one, with and without a ring for the host. -/
theorem witness_EthernetAndTimedOutputs_received :
    let l := zeros 60
    let r := (eth { }).fresh.pass 0
    r.rbit (Reg.RING_STATUS (28 + 1)) 2 = false ∧
    let u := ((eth { }).setReg (Reg.ETH_CTL 1) 1).fresh.pass 0
    r.ethUp 1 = true ∧ isPtp l = false ∧ rxLong l = false ∧ r.rbit (Reg.ETH_CTL 1) 2 = true ∧ slice l 0 6 = r.ethMac 1
    ∧ etherType l ≠ 0x8808 ∧ 0 < r.ringCredit (28 + 1) ∧ u.ethUp 1 = true ∧ u.rbit (Reg.ETH_CTL 1) 2 = false := by decide +kernel

theorem witness_EthernetAndTimedOutputs_sent :
    let s := (eth { port1 := { txServo := [(5, zeros 60)] } }).fresh.pass 0
    let d := fun n => bytesOf 16 [(8, 2, n), (0xC, 4, 0x10007)]
    let h := fun n => { eth { } with hif := { fetched := [(27, d n)] } }.fresh.pass 0
    let t := fun n => (eth { port1 := { tsWait := [(3, 9)], txts := List.replicate n (1, 2) } }).fresh.pass 0
    s.ethUp 1 = true ∧ (s.port 1).txServo = [(5, zeros 60)] ∧ (∀ n ∈ [14, 1514], (h n).ethUp 1 = true ∧ ((h n).port 1).txServo = []
      ∧ (h n).fetchedOf (26 + 1) = [d n] ∧ leAt (d n) 8 2 = n ∧ bitAt (u32At (d n) 0xC) 16 = true)
    ∧ ((t 15).port 1).tsWait = [(3, 9)] ∧ ((t 15).port 1).txts.length < 16 ∧ ((t 16).port 1).tsWait = [(3, 9)]
    ∧ 16 ≤ ((t 16).port 1).txts.length ∧ ((eth { port1 := { latch := some (1, 2) } }).port 1).latch = some (1, 2)
    ∧ (eth { }).rbit (Reg.ETH_STATUS 1) 0 = true := by decide +kernel

/-- TMO 7 as ONESHOT and as PERIODIC, due from the start; a pulse of the width 0. -/
theorem witness_EthernetAndTimedOutputs_pulse :
    let s := { run.setReg (Reg.TMO_CFG 7) 1 with ws := { tmos := [(7, { armed := true })] } }.fresh.pass 0
    let p := (run.setReg (Reg.TMO_CFG 7) 2).fresh.pass 0
    let e := { run with ws := { frc := 1000000000, tmos := [(7, { level := true })] } }.fresh.pass 0
    Node.setup ≤ s.mgmt ∧ s.tmoDue 7 = true ∧ Node.setup ≤ p.mgmt ∧ p.tmoDue 7 = true ∧ p.tmoMode 7 = 2 ∧ (e.tmo 7).level = true
    ∧ (e.tmoWidth 7 + 4) / 5 ≤ e.ws.frc.toNat - (e.tmo 7).began.toNat := by decide +kernel

/-- The tick before a second boundary, and the boundary; an alarm of the next second; a shift of eight ticks less one; a commit. -/
theorem witness_RtcCounting :
    (let s := { run with rtc := { frac := 32766 } }
     s.rtc.setPending = false ∧ s.rtc.shiftNext = none ∧ s.rtcBit RtcStat.busy = false ∧ s.rtc.frac.toNat + 1 < 32768
     ∧ 32768 ≤ s.rtc.frac.toNat + 2)
    ∧ (let s := { (run.setReg Reg.RTC_ALM_CTL 1).setReg Reg.RTC_ALM_LO 1 with rtc := { frac := 32767 } }
       s.almArmed = true ∧ s.rtc.sec.toNat < s.almSec ∧ s.almSec * 32768 ≤ s.rtc.sec.toNat * 32768 + s.rtc.frac.toNat + 1
       ∧ s.rtcBit RtcStat.busy = false)
    ∧ (let s := (run.setReg Reg.RTC_STATUS 4).setReg Reg.RTC_SHIFT_LEFT 1
       s.rtcBit RtcStat.busy = true ∧ s.rfld Reg.RTC_SHIFT_LEFT 0 17 = 1 ∧ 1 ≤ (s.rtc.shiftPhase + 8) / 8 - s.rtc.shiftPhase / 8)
    ∧ { run.setReg Reg.RTC_STATUS 4 with rtc := { setPending := true } }.rtc.setPending = true
    ∧ { run.setReg Reg.RTC_STATUS 4 with rtc := { setPending := true } }.rtcBit RtcStat.busy = true := by decide +kernel

/-- The least and the greatest shift, and an alarm that is due in the second that it names. -/
theorem witness_RtcControl :
    (let r := run.fresh.rtcElapse 0
     Node.setup ≤ r.mgmt ∧ r.rtcBit RtcStat.busy = false ∧ r.rtc.shiftNext = none ∧ fld (1 : U32) 0 17 = 1 ∧ fld (32768 : U32) 0 17 = 32768
     ∧ r.almSec ≤ r.rtc.sec.toNat ∧ (State.reset.fresh.rtcElapse 0).mgmt < Node.setup)
    ∧ ((run.setReg Reg.RTC_STATUS 4).fresh.rtcElapse 0).rtcBit RtcStat.busy = true
    ∧ ((run.setReg Reg.RTC_ALM_LO 1).fresh.rtcElapse 0).rtc.sec.toNat < ((run.setReg Reg.RTC_ALM_LO 1).fresh.rtcElapse 0).almSec
    ∧ ({ run with rtc := { sec := 1 } }.fresh.rtcElapse 0).almSec < ({ run with rtc := { sec := 1 } }.fresh.rtcElapse 0).rtc.sec.toNat
    ∧ run.rtc.dstNext = none ∧ run.rtc.dst = false ∧ { run with rtc := { dst := true } }.rtc.dst = true ∧ bitAt (0 : U32) 0 = false
    ∧ bitAt (1 : U32) 0 = true ∧ run.charging = false ∧ { run.setReg Reg.RTC_TRICKLE 3 with rtc := { cellHigh := false } }.charging = true := by
  decide +kernel

theorem witness_RtcViewsAndBackup :
    (let r := (fmode 4).fresh.rtcElapse 0; r.fmodeOn = true)
    ∧ (let r := (run.setReg Reg.RTC_WAKE_CTL 3).fresh.rtcElapse 0
       r.rbit Reg.RTC_WAKE_CTL 0 = true ∧ r.rbit Reg.RTC_WAKE_CTL 1 = true ∧ r.rtc.onVbk = false ∧ r.rbit Reg.RTC_EVT 2 = false)
    ∧ (let x : RtcSet := { sec := 1, frac := 2, ofs := 0, dst := false }
       { run with rtc := { host := some x } }.rtc.host = some x ∧ { run with rtc := { leg := some x } }.rtc.leg = some x)
    ∧ (let s := { fmode 4 with rtc := { legStage := [0, 0, 0, 0, 0x31, 0x12, 0x99] } }
       s.fmodeOn = true ∧ Node.setup ≤ s.mgmt ∧ (legLocal s.rtc.legStage).isSome = true)
    ∧ legLocal (fmode 4).rtc.legStage = none
    ∧ { run.setReg Reg.RTC_TRICKLE 3 with rtc := { cellHigh := false } }.charging = true ∧ run.charging = false
    ∧ { run with rtc := { onVbk := true } }.rtc.onVbk = true ∧ run.rtc.onVbk = false := by decide +kernel

/-- The panel driven by the host. -/
def panel (p : Panel) : State := { (at_ 3).setReg Reg.PNL_CTL 1 with panel := p }

abbrev flips (f : List (Nat × Nat × Nat)) (p : Panel) : Prop :=
  heads (withCmd 0x74 f (panel p)) 0x74 (descOf 0x74 f) ∧ (descOf 0x74 f).resv 0x10 48 = true
    ∧ (withCmd 0x74 f (panel p)).rbit Reg.PNL_CTL 0 = true ∧ (withCmd 0x74 f (panel p)).panel.absent = false
    ∧ (withCmd 0x74 f (panel p)).mgmt ≠ Node.run

theorem witness_PanelCommands_flip :
    let d := descOf 0x74 [(8, 8, 0x1000)]
    flips [] { } ∧ flips [(8, 8, 0x1000)] { } ∧ (panel { }).panel.flip = none ∧ (descOf 0x74 []).arg 8 8 = 0 ∧ d.arg 8 8 ≠ 0
    ∧ d.aligned 8 = true ∧ flips [] { flip := some none } ∧ (panel { flip := some none }).panel.flip.isSome = true := by decide +kernel

/-- A frame boundary with a flip, and with drive values; the tables of a temperature below their range and above. -/
theorem witness_PanelCommands_frame :
    (panel { flip := some (some (7, true)) }).driven = true ∧ (panel { flip := some (some (7, true)) }).panel.flip = some (some (7, true))
    ∧ (panel { drive := some (1, 2) }).driven = true ∧ (panel { drive := some (1, 2) }).panel.flip = none
    ∧ (panel { drive := some (1, 2) }).panel.drive = some (1, 2) ∧ ((panel { }).setReg Reg.PNL_CTL 8).rbit Reg.PNL_CTL 3 = true
    ∧ (panel { }).panel.absent = false ∧ Node.setup ≤ (panel { }).mgmt ∧ ((panel { }).setReg Reg.PNL_CTL 4).rbit Reg.PNL_CTL 2 = true
    ∧ (panel { }).rbit Reg.PNL_CTL 2 = false ∧ (panel { }).rbit Reg.PNL_STATUS 5 = false
    ∧ (panel { scanning := true }).driven = true ∧ (panel { scanning := true }).panel.scanning = true := by decide +kernel

theorem witness_PanelCommands_list :
    let r := (run.setReg Reg.PNL_CTL 3).fresh.rtcElapse 0
    r.skink.holder = some .A ∧ r.mgmt = Node.run ∧ r.rbit Reg.PNL_CTL 1 = true ∧ r.driven = true ∧ r.panel.flip = none := by decide +kernel

/-! ## The update engine and housekeeping -/

/-- A session: the command at the head, the engine's state and flash. -/
def session (op : Nat) (f : List (Nat × Nat × Nat)) (u : Upd) (v : Nvm) : State :=
  withCmd op f { run with upd := u, nvm := v }

/-- The ends of the ranges of UPD_BEGIN, in each state that takes it or turns it away. -/
theorem witness_UpdateSessionAndKey_begin :
    (∀ id ∈ [1, 524287], ∀ n ∈ [2, 8192], let d := descOf 0x60 [(8, 4, id), (0xC, 4, n)]
      d.arg 8 4 = id ∧ d.arg 0xC 4 = n ∧ d.resv 0x30 16 = true ∧ heads (session 0x60 [(8, 4, id), (0xC, 4, n)] { } { }) 0x60 d)
    ∧ (descOf 0x60 []).arg 8 4 = 0 ∧ heads (session 0x60 [] { } { }) 0x60 (descOf 0x60 [])
    ∧ (let f := [(2, 2, 4), (8, 4, 1), (0xC, 4, 2)]; heads (session 0x60 f { state := Ses.receiving } { }) 0x60 (descOf 0x60 f) ∧ (descOf 0x60 f).force = true)
    ∧ (let f := [(8, 4, 1), (0xC, 4, 2)]; (descOf 0x60 f).force = false ∧ (descOf 0x60 f).resv 0x30 16 = true
       ∧ ∀ st ∈ [Ses.receiving, Ses.ready, Ses.trial], heads (session 0x60 f { state := st } { }) 0x60 (descOf 0x60 f)) := by
  decide +kernel

theorem witness_UpdateSessionAndKey_status : ∀ a ∈ [0, 0x1000],
    let d := descOf 0x61 [(0x10, 8, a)]
    heads (session 0x61 [(0x10, 8, a)] { } { }) 0x61 d ∧ d.resv 8 8 = true ∧ d.resv 0x18 40 = true ∧ d.arg 0x10 8 % 64 = 0
    ∧ d.arg 0x10 8 = a := by decide +kernel

/-- The eight words of a key written, and seven of them. -/
theorem witness_UpdateSessionAndKey_key :
    let s := fun (n : Nat) => { at_ 3 with upd := { keyWords := (List.range n).map (fun k => (k, (7 : U32))) }, nvm := { } }
    (s 8).mgmt = Node.setup ∧ (s 8).nvm.custody = none ∧ (s 8).nvm.programming = none ∧ (s 8).upd.keyWhole = true
    ∧ (s 8).nvm.bank0Spent = false ∧ (s 7).upd.keyWhole = false ∧ { at_ 3 with nvm := { programming := some [1] } }.nvm.programming = some [1] := by
  decide +kernel

/-- A piece's descriptor: its session and its number. -/
def pieceDesc (id p : Nat) : List Byte := bytesOf 16 [(8, 2, 4096), (0xC, 4, id * 8192 + p)]

/-- Flash with session 1 of the given pieces, those of `bits` stored. -/
def sesNvm (pieces : Nat) (bits : List Nat) : Nvm :=
  let r : SesRec := { id := 1, pieces := pieces, state := 1 }
  { ses0 := { r with crc := crc32 r.body }, bits0 := bits, bits1 := bits }

def receiving (b : List Byte) (bitmap : List Nat) : State :=
  { run with upd := { state := Ses.receiving }, hif := { fetched := [(9, b)] },
             nvm := sesNvm 8192 bitmap }

/-- The last piece: of another session, stored already, and new. -/
theorem witness_UpdatePieces_received :
    (let s := receiving (pieceDesc 2 8191) []; s.fetchedOf 9 = [pieceDesc 2 8191] ∧ s.upd.bufs.length < 16 ∧ s.mgmt ≠ Node.activating
       ∧ s.pieceReason (pieceDesc 2 8191) (some []) ≠ 0)
    ∧ (let s := receiving (pieceDesc 1 8191) [8191]; s.fetchedOf 9 = [pieceDesc 1 8191] ∧ fld (u32At (pieceDesc 1 8191) 0xC) 0 13 = 8191
       ∧ s.pieceReason (pieceDesc 1 8191) (some []) = 0 ∧ 8191 ∈ s.nvm.session.bitmap)
    ∧ (let s := receiving (pieceDesc 1 8191) []; s.pieceReason (pieceDesc 1 8191) (some []) = 0 ∧ 8191 ∉ s.nvm.session.bitmap) := by
  decide +kernel

theorem witness_UpdatePieces_stored : ∀ n ∈ [0, 1, 2],
    let s := { receiving [] [] with upd := { bufs := [(8191, [1])], readFails := [(8191, n)] } }
    s.upd.bufs.find? (fun b => b.1 == 8191) = some (8191, [1]) ∧ 8191 ∉ s.nvm.session.bitmap ∧ Sparse.get 0 s.upd.readFails 8191 = n
    ∧ 8191 ∈ (receiving [] [8191]).nvm.session.bitmap := by decide +kernel

/-- A whole piece count, one short of it, and another session. -/
theorem witness_UpdateVerify :
    let d := descOf 0x62 [(8, 4, 1)]
    let s := fun bm id => session 0x62 [(8, 4, id)] { state := Ses.receiving } (sesNvm 2 bm)
    heads (s [0, 1] 1) 0x62 d ∧ d.resv 0xC 52 = true ∧ (s [0, 1] 1).sesMatch d = true ∧ (s [0, 1] 1).upd.state = Ses.receiving
    ∧ (s [0, 1] 1).nvm.session.pieces ≤ (s [0, 1] 1).nvm.session.bitmap.length ∧ heads (s [0] 1) 0x62 d ∧ (s [0] 1).sesMatch d = true
    ∧ (s [0] 1).nvm.session.bitmap.length < (s [0] 1).nvm.session.pieces ∧ heads (s [] 2) 0x62 (descOf 0x62 [(8, 4, 2)])
    ∧ (s [] 2).sesMatch (descOf 0x62 [(8, 4, 2)]) = false := by
  decide +kernel

/-- The longest trial, and the one that the field 0 stands for, without a CMPL ring that can take the completion and with one. -/
theorem witness_ActivationAndTrial_activate : ∀ n ∈ [0, 1440],
    let f := [(8, 4, 1), (0xC, 2, n)]
    let s := session 0x63 f { state := Ses.ready } (sesNvm 2 [])
    let u := { withRing 1 s with hif := { s.hif with linkUp := true } }
    (∀ x ∈ [s, u], heads x 0x63 (descOf 0x63 f) ∧ (descOf 0x63 f).resv 0xE 50 = true ∧ (descOf 0x63 f).arg 0xC 2 = n
      ∧ x.sesMatch (descOf 0x63 f) = true ∧ x.upd.state = Ses.ready)
    ∧ s.canAnswer = false ∧ u.canAnswer = true ∧ u.hif.unwritten ≤ u.hif.kept.length := by decide +kernel

theorem witness_ActivationAndTrial_trial :
    (at_ 6).mgmt = Node.activating ∧ { run with upd := { state := Ses.trial } }.upd.state = Ses.trial
    ∧ { run with upd := { converting := true } }.upd.converting = true
    ∧ (let d := descOf 0x64 [(8, 4, 1)]
       ∀ c : Bool, let s := session 0x64 [(8, 4, 1)] { state := Ses.trial, converting := c } (sesNvm 2 [])
         heads s 0x64 d ∧ d.resv 0xC 52 = true ∧ s.sesMatch d = true ∧ s.upd.state = Ses.trial ∧ s.upd.converting = c)
    ∧ (let d := descOf 0x65 [(8, 4, 1)]
       ∀ st ∈ [Ses.idle, Ses.receiving, Ses.ready, Ses.trial], let s := session 0x65 [(8, 4, 1)] { state := st } (sesNvm 2 [])
         heads s 0x65 d ∧ d.resv 0xC 52 = true ∧ s.sesMatch d = true ∧ s.upd.state = st) := by decide +kernel

/-- Bank 15: a line to be written back, nothing to do, and a line with one wrong word. -/
theorem witness_TarnErrors_scrub :
    let s := fun g => { run with gecko := g }
    (s { }).geckoRuns = true ∧ Sparse.find (s { writeback := [(15, 31)] }).gecko.writeback 15 = some 31
    ∧ Sparse.find (s { }).gecko.writeback 15 = none ∧ (s { }).gecko.scrubQ.find? (fun q => q.1 == 15) = none ∧ (s { }).gecko.ceWords = []
    ∧ (let u := s { scrubQ := [(15, 31)], ceWords := [3968] }
       Sparse.find u.gecko.writeback 15 = none ∧ u.gecko.scrubQ.find? (fun q => q.1 == 15) = some (15, 31)
       ∧ u.gecko.ceWords.filter (fun x => lineOf x == 31) = [3968]) := by decide +kernel

/-- The last word of Tarn, and a word of each kind of Table 18-2. -/
theorem witness_TarnErrors_words :
    0x1FFFFFF < Tarn.SIZE ∧ eccConfig (0x4FFFFF / 8 * 8) = true ∧ run.mgmt = Node.run ∧ run.inlet.waiting = []
    ∧ eccConfig 0x500000 = false ∧ (damagedAt 0x500000).isSome = true ∧ eccConfig 0xB14000 = false ∧ damagedAt 0xB14000 = none
    ∧ ueZeroed 0xB14000 = true := by decide +kernel

def entry (n : Nat) : JEntry := JEntry.of 1 0x10 0 (List.replicate n 0)

theorem size_entry (n : Nat) : (entry (16 * n)).size = 16 * n + 16 := by
  have h : (List.replicate (16 * n) (0 : Byte)).length = 16 * n := List.length_replicate ..
  unfold entry JEntry.of JEntry.size
  simp only [h]
  omega

/-- A journal of the given number of sixteen-byte blocks, and one entry of 64 bytes to write. -/
def journal (n spare : Nat) : State :=
  { run with nvm := { set0 := { journal := [entry (16 * n)], format := 1 }, spare := spare }, gecko := { journalQ := [entry (16 * 3)] } }

theorem fill_journal (n spare : Nat) : (journal n spare).active.fill = 16 * n + 16 := by
  show ([entry (16 * n)].map JEntry.size).sum = _
  simp [size_entry]

/-- The last entry that fits, with a spare sector and with none, and one that does not. -/
theorem witness_SettingsDigestAndTelemetry_journal :
    (journal 0x3FFFB 0).gecko.journalQ = [entry (16 * 3)] ∧ (journal 0x3FFFB 0).active.fill + (entry (16 * 3)).size = journalSize
    ∧ (journal 0x3FFFB 0).nvm.spare = 0 ∧ 0 < (journal 0x3FFFB 1).nvm.spare
    ∧ (journal 0x3FFFC 0).gecko.journalQ = [entry (16 * 3)] ∧ journalSize < (journal 0x3FFFC 0).active.fill + (entry (16 * 3)).size := by
  refine ⟨rfl, ?_, rfl, Nat.one_pos, rfl, ?_⟩ <;> rw [fill_journal, size_entry] <;> decide

/-- A journal of a block more than three quarters. -/
theorem witness_SettingsDigestAndTelemetry_base : (journal 0x30000 0).geckoRuns = true
    ∧ 3 * journalSize < 4 * (journal 0x30000 0).active.fill ∧ (journal 0x30000 0).gecko.saving = none
    ∧ { run with gecko := { saving := some { } } }.gecko.saving = some { } := by
  refine ⟨rfl, ?_, rfl, rfl⟩
  rw [fill_journal]
  decide

theorem witness_SettingsDigestAndTelemetry_digest :
    let s := { slotState 4 Ss.valid with gecko := { digestStale := true } }
    s.slotRecord = some slotRec ∧ s.mgmt = Node.run ∧ s.ss = Ss.valid ∧ s.upd.state ≠ Ses.trial ∧ s.gecko.digestStale = true
    ∧ s.inlet.barriers = [] := by
  refine ⟨slot_record 4 Ss.valid, ?_, ?_, ?_, ?_, ?_⟩ <;> decide +kernel

theorem witness_SettingsDigestAndTelemetry_telemetry :
    let r := ((withRing 30 run).setReg Reg.HK_TELEM_CTL 1).fresh.pass 0
    let z := (run.setReg Reg.HK_TELEM_CTL 1).fresh.pass 0
    r.geckoRuns = true ∧ r.rbit Reg.HK_TELEM_CTL 0 = true ∧ 0 < r.ringCredit 30 ∧ z.geckoRuns = true
    ∧ z.rbit Reg.HK_TELEM_CTL 0 = true ∧ z.ringCredit 30 = 0 := by decide +kernel

/-! ## More clauses: each in a state that meets its hypotheses -/

/-- A boot record copy being written, and a journal entry alone. -/
theorem witness_BootAndResets_cut :
    (∀ k ∈ [0, 1], { run with gecko := { writing := some (.bootRec k, 0) } }.copyWriting = some (.bootRec k))
    ∧ (let s := { run with gecko := { journalQ := [entry 1] } }; s.copyWriting = none ∧ s.gecko.journalQ = [entry 1]) := by
  decide +kernel

/-- Ring 2 at NODE_IDX 5: the two ends of the indices ahead of it, and of those at it or behind it. -/
theorem witness_DoorbellsAndDescriptors_consumer :
    let s := { (withRing 2 dbWaits).setReg (Reg.RING_NODE_IDX 2) 5 with hif := { dbWaits.hif with linkUp := true } }
    let d := fun (x : Nat) => ((List.replicate 32 (BitVec.ofNat 32 x)).getD 2 0 - s.reg (Reg.RING_NODE_IDX 2)).toNat
    s.hif.dbOut = true ∧ s.pagesOn = true ∧ s.outlet.merge = [] ∧ isHostToNode 2 = false ∧ s.ringActive 2 = true
    ∧ (∀ x ∈ [6, 0x80000005], 1 ≤ d x ∧ d x ≤ 2 ^ 31)
    ∧ (List.replicate 32 (5 : U32)).getD 2 0 = s.reg (Reg.RING_NODE_IDX 2) ∧ (∀ x ∈ [4, 0x80000006], 2 ^ 31 < d x)
    ∧ s.mgmt ≠ Node.activating ∧ s.hif.linkUp = true := by decide +kernel

/-- What `PlainReg` asks but for the row of the map, as a proposition that can be decided. -/
abbrev plain (s : State) (off : Off) (v : U32) : Prop :=
  off < 0x100000 ∧ off % 4 = 0 ∧ Node.setup ≤ s.mgmt ∧ (ownWrite off v).isNone = true ∧ isHoldLo off = false

/-- An event register, a pair, and the key words. -/
theorem witness_RegisterWrites_taken :
    (plain (at_ 3) Reg.MGMT_EVT 0x10 ∧ (decoded Reg.MGMT_EVT).map (·.acc) = some .w1c ∧ isHoldLo (Reg.MGMT_EVT - 4) = false
      ∧ (at_ 3).writeAllowed Reg.MGMT_EVT 0x10 = true)
    ∧ (at_ 3).mgmt = Node.setup ∧ Node.setup < run.mgmt
    ∧ isHoldLo (Reg.RING_BASE_LO 30) = true ∧ Reg.RING_BASE_LO 30 % 4 = 0
    ∧ plain (at_ 3) (Reg.RING_BASE_HI 30) 0xFFFFFFFF ∧ isHoldLo (Reg.RING_BASE_HI 30 - 4) = true
    ∧ (decoded (Reg.RING_BASE_HI 30)).map (fun r => (at_ 3).whyIgnored r (Reg.RING_BASE_HI 30) 0xFFFFFFFF) = some 0 := by
  decide +kernel

/-- One past a range, a signed value past its own, a condition, a ring that is enabled, pages that are, a code that is none, and each access type before SETUP. -/
theorem witness_RegisterWrites_refused :
    (plain run Reg.CUST_CTL 0 ∧ (decoded Reg.CUST_CTL).map (·.acc) = some .rws ∧ run.mgmt ≠ Node.setup)
    ∧ (plain (at_ 3) Reg.CUST_CTL 3601 ∧ (decoded Reg.CUST_CTL).map (fun r => r.inRange 3601) = some false)
    ∧ (plain (at_ 3) Reg.RTC_LOCAL_OFS 57 ∧ (decoded Reg.RTC_LOCAL_OFS).map (·.acc) = some .rw
        ∧ (at_ 3).valueOk Reg.RTC_LOCAL_OFS 57 = false)
    ∧ (let s := (at_ 3).setReg (Reg.RING_CTL 30) 1
       plain s (Reg.RING_SIZE 30) 6 ∧ (decoded (Reg.RING_SIZE 30)).map (fun r => (r.acc, r.inRange 6)) = some (.rw, true)
       ∧ s.valueOk (Reg.RING_SIZE 30) 6 = true ∧ s.writeAllowed (Reg.RING_SIZE 30) 6 = false ∧ s.rbit (Reg.RING_CTL 30) 0 = true)
    ∧ Node.setup ≤ paged.mgmt ∧ paged.pagesOn = true
    ∧ (∀ v ∈ [0, 4, 0xFFFFFFFF], (BitVec.ofNat 32 v).toNat ∉ [1, 2, 3, 0x10, 0x11, 0x12, 0x13])
    ∧ State.reset.mgmt < Node.setup ∧ (decoded Reg.CUST_CTL).map (·.acc) = some .rws ∧ (decoded Reg.MGMT_CMD).map (·.acc) = some .cmd
    ∧ (decoded Reg.MGMT_INT_EN).map (·.acc) = some .rw := by
  decide +kernel

theorem witness_PairsAndTheTarnWindow_high : isPairLo Reg.MGMT_FAULT_ISN_HI = false ∧ isPairLo (Reg.MGMT_FAULT_ISN_HI - 4) = true
    ∧ Reg.MGMT_FAULT_ISN_HI < 0x100000 ∧ Reg.MGMT_FAULT_ISN_HI % 4 = 0 := by decide +kernel

/-! The images of the CFG commands. A record's CRC that is one bit off: -/

/-- A record of `n` bytes with its last four replaced by a wrong CRC-32 of the others. -/
def badCrc (l : List Byte) (n : Nat) : List Byte := l.take (n - 4) ++ leBytes 4 (crc32 (l.take (n - 4)) ^^^ 1).toNat

theorem crcOk_badCrc (l : List Byte) (n : Nat) (h : n ≤ l.length + 4) (h4 : 4 ≤ n) : crcOk (badCrc l n) n = false := by
  unfold crcOk badCrc
  generalize hm : n - 4 = m
  have hl : (l.take m).length = m := by rw [List.length_take]; omega
  generalize l.take m = a at hl
  generalize hx : crc32 a ^^^ 1 = x
  have ht : (a ++ leBytes 4 x.toNat).take m = a := List.take_left' hl
  have hd : (a ++ leBytes 4 x.toNat).drop m = leBytes 4 x.toNat := List.drop_left' hl
  have hk : (leBytes 4 x.toNat).take 4 = leBytes 4 x.toNat := List.take_of_length_le (Nat.le_of_eq (length_leBytes _ _))
  have hne : crc32 a ≠ x := by
    intro hc
    rw [← hx] at hc
    have h1 := congrArg (fun y => crc32 a ^^^ y) hc
    simp only [BitVec.xor_self, ← BitVec.xor_assoc, BitVec.zero_xor] at h1
    exact absurd h1 (by decide)
  simp only [u32At, leAt, slice, ht, hd, hk, leNat_leBytes, beq_eq_false_iff_ne]
  intro h
  exact hne (h.trans (BitVec.eq_of_toNat_eq (by simpa using Nat.mod_eq_of_lt x.isLt)))

/-- Definition 0 on lane 47: two terminals, without excitation, with the fields given besides. -/
def chImage (f : List (Nat × Nat × Nat)) : List Byte :=
  withCrc (bytesOf 64 ([(1, 1, 1), (2, 1, 0xFF), (4, 2, 0xFFFF), (0xD, 1, 9), (0x10, 2, 0xD8F0), (0x12, 2, 0x2710), (0x15, 1, 1),
    (0x16, 1, 47), (0x17, 2, 0xFFFF)] ++ f)) 64

/-- What every clause on CHANDEF_WRITE takes: the head, the arguments and an image of 64 bytes. -/
abbrev chCmd (s : State) (l : List Byte) : Prop :=
  let d := descOf 0x12 [(0x10, 8, 0x1000)]
  heads s 0x12 d ∧ s.cfgHeld = false ∧ l.length = 64 ∧ d.aligned 0x10 = true ∧ d.resv 9 7 = true ∧ d.resv 0x18 40 = true ∧ d.arg 8 1 = 0

/-- The rule that definition 0 would break after the write. -/
def chBroken (s : State) (l : List Byte) : Nat :=
  let u : CmdUnit := { opcode := 0x12, target := 0, bodies := [l], image := l }
  (((s.fresh.takeHead 0).ahead.applyScan u).applyUnit u).chRule 0

/-- A definition that may stand; one with a wrong CRC, one that breaks a rule, and one that moves already; the arguments at fault. -/
theorem witness_CommandsTaken_chandef :
    (let s := withCmd 0x12 [(0x10, 8, 0x1000)] (withDef run)
     chCmd s (chImage []) ∧ crcOk (chImage []) 64 = true ∧ chBroken s (chImage []) = 0 ∧ (s.fresh.takeHead 0).moving 0 = false
     ∧ (s.fresh.takeHead 0).movesAhead 0 = false ∧ crcOk (patch (chImage []) 5 [3]) 64 = false
     ∧ crcOk (chImage [(0xD, 1, 77)]) 64 = true ∧ chBroken s (chImage [(0xD, 1, 77)]) ≠ 0)
    ∧ (let s := withCmd 0x12 [(0x10, 8, 0x1000)] (withLane { drain := [0] } run)
       chCmd s (chImage []) ∧ chBroken s (chImage []) = 0 ∧ (s.fresh.takeHead 0).moving 0 = true)
    ∧ (descOf 0x12 [(9, 1, 1)]).resv 9 7 = false ∧ heads (withCmd 0x12 [(9, 1, 1)] run) 0x12 (descOf 0x12 [(9, 1, 1)]) := by
  decide +kernel

/-- A group's change waits before this one. -/
def waitsFor (op : U16) : State := withInlet { cmds := [{ opcode := op, bodies := [zeros 64], cfg := true }] }

theorem witness_CommandsTaken_group :
    let f := [(8, 1, 3), (0x10, 8, 0x1000)]
    let d := descOf 0x13 f
    (∀ s ∈ [run, waitsFor 0x13], heads (withCmd 0x13 f s) 0x13 d) ∧ d.aligned 0x10 = true ∧ d.resv 9 7 = true ∧ d.resv 0x18 40 = true
    ∧ (GCfg.ofBytes (group [])).rulesOk = true ∧ (GCfg.ofBytes (group [(6, 1, 0)])).rulesOk = false
    ∧ ((withCmd 0x13 f run).fresh.takeHead 0).unadmitted [0x13] = false
    ∧ ((withCmd 0x13 f (waitsFor 0x13)).fresh.takeHead 0).unadmitted [0x13] = true := by decide +kernel

theorem witness_CommandsTaken_group_crc : crcOk (group []) 0xB0 = true ∧ crcOk (group [(6, 1, 0)]) 0xB0 = true
    ∧ crcOk (badCrc (group []) 0xB0) 0xB0 = false := by
  refine ⟨crcOk_withCrc _ _ ?_ (by decide), crcOk_withCrc _ _ ?_ (by decide), crcOk_badCrc _ _ ?_ (by decide)⟩
  · decide +kernel
  · decide +kernel
  · rw [length_group _ (by decide +kernel)]; decide

/-- A list of the last source of its type, at the end of the region; a list out of order, a point that is none, and a list over another's. -/
theorem witness_CommandsTaken_fanout :
    let f := fun (start n : Nat) => [(8, 1, 2), (0xC, 4, 15), (0x18, 4, start), (0x1C, 2, n), (0x10, 8, 0x1000)]
    let d := fun start n => descOf 0x14 (f start n)
    let v := fun (s : State) start n => (withCmd 0x14 (f start n) s).fresh.takeHead 0
    let head := (headOffset 2 15 - Tarn.FANOUT) / 8
    (∀ s ∈ [run, waitsFor 0x14, feeding 2 1 run], heads (withCmd 0x14 (f 195581 3) s) 0x14 (d 195581 3))
    ∧ (d 195581 3).aligned 0x10 = true ∧ (d 195581 3).resv 9 3 = true ∧ (d 195581 3).resv 0x1E 34 = true ∧ (d 195581 3).arg 8 1 = 2
    ∧ srcRange 2 ((d 195581 3).arg 0xC 4) = true ∧ (d 195581 3).arg 0x18 4 + (d 195581 3).arg 0x1C 2 = 195584
    ∧ ascending [1, 2, 81919] = true ∧ (v run 195581 3).ahead.fanOverlap head 195581 3 = false
    ∧ (v run 195581 3).unadmitted [0x14] = false ∧ (v (waitsFor 0x14) 195581 3).unadmitted [0x14] = true
    ∧ ascending [1, 1] = false ∧ 81919 < 81920 ∧ (v (feeding 2 1 run) 0 1).ahead.fanOverlap head 0 1 = true := by decide +kernel

/-! A table's CRC covers too many bytes for the kernel, so what the rest of the check reads is shown not to hang on it. -/

theorem slice_left (a e : List Byte) (o n : Nat) (h : o + n ≤ a.length) : slice (a ++ e) o n = slice a o n := by
  unfold slice
  rw [List.drop_append_of_le_length (by omega), List.take_append_of_le_length (by rw [List.length_drop]; omega)]

theorem linPoints_left (a e : List Byte) (h : a.length = 2044) (hn : leAt a 0x7F8 2 ≤ 255) : linPoints (a ++ e) = linPoints a := by
  unfold linPoints
  have h0 : leAt (a ++ e) 0x7F8 2 = leAt a 0x7F8 2 := by unfold leAt; rw [slice_left _ _ _ _ (by omega)]
  rw [h0]
  refine List.map_congr_left fun i hi => ?_
  have hi := List.mem_range.mp hi
  unfold u32At leAt
  rw [slice_left _ _ _ _ (by omega), slice_left _ _ _ _ (by omega)]

/-- A table of two points, with the fields given besides, and its CRC. -/
def linBody (f : List (Nat × Nat × Nat)) : List Byte :=
  (bytesOf 2048 ([(0, 4, 0), (4, 4, 0), (8, 4, 0x3F800000), (12, 4, 0x3F800000), (0x7F8, 2, 2)] ++ f)).take 2044

def linImage (f : List (Nat × Nat × Nat)) : List Byte := linBody f ++ leBytes 4 (crc32 (linBody f)).toNat

theorem linReason_image (f : List (Nat × Nat × Nat)) (h : (linBody f).length = 2044 ∧ leAt (linBody f) 0x7F8 2 = 2
    ∧ (linPoints (linBody f)).all (fun p => F32.isFinite p.1 && F32.isFinite p.2) = true
    ∧ rising ((linPoints (linBody f)).map Prod.fst) = true ∧ allZero (slice (linBody f) 16 2024) = true) :
    linReason (linImage f) = 0 ∧ linRising (linImage f) = rising ((linPoints (linBody f)).map Prod.snd) := by
  obtain ⟨hl, hn, hf, hr, hz⟩ := h
  have hc : crcOk (linImage f) 2048 = true := by
    have := crcOk_withCrc (linBody f ++ zeros 4) 2048 (by rw [List.length_append, hl]; decide) (by decide)
    have ht : (linBody f ++ zeros 4).take (2048 - 4) = linBody f := List.take_left' hl
    unfold withCrc at this
    rwa [ht] at this
  have hp : linPoints (linImage f) = linPoints (linBody f) := linPoints_left _ _ hl (by omega)
  have h2 : leAt (linImage f) 0x7F8 2 = 2 := by
    unfold leAt linImage; rw [slice_left _ _ _ _ (by omega)]; exact hn
  have hs : slice (linImage f) 16 2024 = slice (linBody f) 16 2024 := slice_left _ _ _ _ (by omega)
  unfold linReason linRising
  simp [hc, hp, h2, hf, hr, hs, hz, inRange]

theorem length_linImage (f : List (Nat × Nat × Nat)) (h : (linBody f).length = 2044) : (linImage f).length = 2048 := by
  unfold linImage; rw [List.length_append, h, length_leBytes]

/-- The table of the last number, with a rising line, with a level one that a definition with a cold junction uses, and with a wrong CRC. -/
theorem witness_CommandsTaken_lintab_image :
    linReason (linImage []) = 0 ∧ (linImage []).length = 2048
    ∧ linReason (linImage [(12, 4, 0)]) = 0 ∧ linRising (linImage [(12, 4, 0)]) = false ∧ (linImage [(12, 4, 0)]).length = 2048
    ∧ linReason (badCrc (linImage []) 2048) = 1 := by
  have h := linReason_image [] (by decide +kernel)
  have h1 := linReason_image [(12, 4, 0)] (by decide +kernel)
  have hl : (linBody []).length = 2044 := by decide +kernel
  refine ⟨h.1, length_linImage _ hl, h1.1, h1.2.trans (by decide +kernel), length_linImage _ (by decide +kernel), ?_⟩
  unfold linReason
  rw [crcOk_badCrc _ _ (by rw [length_linImage _ hl]; decide) (by decide)]
  rfl

theorem witness_CommandsTaken_lintab :
    let f := [(8, 1, 63), (0x10, 8, 0x1000)]
    let d := descOf 0x15 f
    let cj := { run with tarn := Sparse.write 0 [] Tarn.CHANDEF (chImage [(0x17, 1, 63), (0x18, 1, 0)]) }
    let v := fun s => (withCmd 0x15 f s).fresh.takeHead 0
    (∀ s ∈ [run, waitsFor 0x15, cj], heads (withCmd 0x15 f s) 0x15 d) ∧ d.aligned 0x10 = true ∧ d.arg 8 1 < 64 ∧ d.resv 9 7 = true
    ∧ d.resv 0x18 40 = true ∧ (v run).ahead.cjUser 63 = false ∧ (v cj).ahead.cjUser 63 = true ∧ (v run).unadmitted [0x15] = false
    ∧ (v (waitsFor 0x15)).unadmitted [0x15] = true := by decide +kernel

def filtElem (f : List (Nat × Nat × Nat)) : List Byte := bytesOf 16 ([(0, 1, 1), (1, 1, 2), (8, 4, 0x7FF)] ++ f)

/-- The last element of channel 7's share; a second that is not valid; one that another channel walks. -/
theorem witness_CommandsTaken_canfilt :
    let f := fun (n : Nat) => [(8, 1, 7), (0xC, 2, 2048 - n), (0xE, 2, n), (0x10, 8, 0x1000)]
    let d := fun n => descOf 0x16 (f n)
    let v := fun s => (withCmd 0x16 (f 1) s).fresh.takeHead 0
    let w := { run with can := [(3, { oldWalk := some (14336, 2048) })] }
    (∀ s ∈ [run, waitsFor 0x17, w], ∀ n ∈ [1, 2], heads (withCmd 0x16 (f n) s) 0x16 (d n))
    ∧ (∀ n ∈ [1, 2], (d n).aligned 0x10 = true ∧ (d n).resv 9 3 = true ∧ (d n).resv 0x18 40 = true ∧ (d n).arg 0xE 2 = n
        ∧ (d n).arg 0xC 2 + n = ((v run).filtShare 7).2)
    ∧ (filtElem []).length = 16 ∧ (FiltElem.ofBytes (filtElem [])).valid = true
    ∧ (FiltElem.ofBytes (slice (filtElem [] ++ filtElem [(0, 1, 0xFF)]) 0 16)).valid = true
    ∧ (FiltElem.ofBytes (slice (filtElem [] ++ filtElem [(0, 1, 0xFF)]) 16 16)).valid = false
    ∧ (v run).walkedByOther 7 (((v run).filtShare 7).1 + 2047) 1 = false ∧ (v w).walkedByOther 7 (((v w).filtShare 7).1 + 2047) 1 = true
    ∧ (v run).unadmitted [0x16, 0x17] = false ∧ (v (waitsFor 0x17)).unadmitted [0x16, 0x17] = true := by decide +kernel

def signal (f : List (Nat × Nat × Nat)) : List Byte := withCrc (bytesOf 16 ([(0, 4, 0x40000000), (6, 1, 32), (7, 1, 4)] ++ f)) 16

/-- The last definition; a second that breaks a rule, and one with a wrong CRC. -/
theorem witness_CommandsTaken_cansig :
    let f := fun (n : Nat) => [(8, 2, 32768 - n), (0xA, 2, n), (0x10, 8, 0x1000)]
    let d := fun n => descOf 0x17 (f n)
    let v := fun s => (withCmd 0x17 (f 1) s).fresh.takeHead 0
    (∀ s ∈ [run, waitsFor 0x16], ∀ n ∈ [1, 2], heads (withCmd 0x17 (f n) s) 0x17 (d n))
    ∧ (∀ n ∈ [1, 2], (d n).aligned 0x10 = true ∧ (d n).resv 0xC 4 = true ∧ (d n).resv 0x18 40 = true ∧ (d n).arg 0xA 2 = n
        ∧ (d n).arg 8 2 + n = 32768)
    ∧ (SigDef.ofBytes (signal [])).rule = 0 ∧ (SigDef.ofBytes (signal [(6, 1, 99)])).rule > 1
    ∧ (SigDef.ofBytes (patch (signal []) 1 [9])).rule = 1 ∧ slice (signal [] ++ signal [(6, 1, 99)]) 16 16 = signal [(6, 1, 99)]
    ∧ (v run).unadmitted [0x16, 0x17] = false ∧ (v (waitsFor 0x16)).unadmitted [0x16, 0x17] = true := by decide +kernel

/-- Each argument at fault alone, and an image that breaks a rule. -/
theorem witness_PointRecords_refused :
    (∀ f ∈ [[(8, 4, 81920), (0x10, 8, 0x1000)], [(0xC, 1, 1), (0x10, 8, 0x1000)], [(0x10, 8, 0x1000), (0x3F, 1, 1)]],
      let d := descOf 0x10 f
      heads (withCmd 0x10 f run) 0x10 d ∧ (withCmd 0x10 f run).cfgHeld = false ∧ d.aligned 0x10 = true
        ∧ (81920 ≤ d.arg 8 4 ∨ d.resv 0xC 4 = false ∨ d.resv 0x18 40 = false))
    ∧ crcOk (point [(0, 4, 0xF0000001)]) 64 = true ∧ (PCfg.ofBytes (point [(0, 4, 0xF0000001)])).rulesOk 0 = false
    ∧ heads (withCmd 0x10 [] run) 0x10 (descOf 0x10 []) := by decide +kernel

/-- Outside forerunner mode, before SETUP, and in it outside SETUP. -/
theorem witness_PointRecords_legacy_ignored : (at_ 3).fmodeOn = false ∧ State.reset.mgmt < Node.setup
    ∧ (fmode 4).fmodeOn = true ∧ (fmode 4).mgmt ≠ Node.setup ∧ Node.setup ≤ (fmode 4).mgmt := by decide +kernel

/-- An entry of the forerunner's format: a channel with both limits, and the unused one. -/
theorem witness_PointRecords_entries :
    (let x := LegEntry.ofBytes (bytesOf 16 [(0, 2, 15), (2, 1, 0xD), (3, 1, 0xFF), (4, 4, 0), (8, 4, 0x3F800000), (0xC, 2, 6000), (0xE, 2, 1000)])
     x.ok = true ∧ x.channel ≤ 15)
    ∧ (let x := LegEntry.ofBytes (bytesOf 16 [(0, 2, 0xFFFF)]); x.ok = true ∧ x.channel = 0xFFFF)
    ∧ (legUnconvert (zeros 64)).isSome = true ∧ legUnconvert (List.replicate 64 0xFF) = none := by decide +kernel

/-- A point's state record with a bit of its STATE_CRC wrong, before a record of each kind that reads it. -/
theorem witness_SourceRecords_crc :
    let q : PtState := { crcFlip := 1 }
    let s := fun (type : Nat) (r : InRec) => feeding type 0 (withPoint [(0, 4, type * 0x10000000 + 1)] q (withRec r run))
    (∀ x ∈ [(1, rec_ 1 0 0x1000 0 []), (2, rec_ 2 0 0x2000 0x10000 []), (3, rec_ 3 0 0x3000 0 []), (4, rec_ 4 0 0x4000 0x0000010000000000 (zeros 64))],
      (s x.1 x.2).headRec .A = some x.2 ∧ x.2.kind = BitVec.ofNat 8 x.1 ∧ (s x.1 x.2).failsCrc .A ((s x.1 x.2).recReads x.2) = true)
    ∧ (s 1 (tick 1)).headRec .A = some (tick 1) ∧ (s 1 (tick 1)).failsCrc .A ((s 1 (tick 1)).recReads (tick 1)) = true := by decide +kernel

/-- Skink's record, Gecko's behind none of Skink's, and in rotation the last place and the one behind it, each in series and out of it; a command before its first record with the record of a channel beside it. -/
theorem witness_Admission_order :
    let r : InRec := { tick 1 with source := 0x9000, ssn := 9 }
    let s := fun (pl n : Nat) => withInlet { waiting := [(pl, r)], expect := [(0x9000, BitVec.ofNat 16 n)], rot := 57 }
    (∀ pl ∈ [Place.skink, Place.gecko, 57, 3], ∀ n ∈ [8, 9],
      admits (s pl n) ∧ (s pl n).inlet.reveal = none ∧ (s pl n).begunUnit = false ∧ takePlace pl (s pl n).inlet.waiting = some (r, [])
      ∧ r.kind ≠ Kind.mark ∧ (s pl n).inlet.lost.contains r.source.toNat = false
      ∧ (s pl n).inlet.expect.find? (fun x => x.1 == r.source.toNat) = some (r.source.toNat, BitVec.ofNat 16 n))
    ∧ ((s Place.skink 9).firstPlace Place.skink) ∧ ((s Place.gecko 9).firstPlace Place.gecko) ∧ ((s 57 9).firstPlace 57) ∧ ((s 3 9).firstPlace 3)
    ∧ (let u := withInlet { waiting := [(3, r)], cmds := [{ cfg := true, sent := 0, bodies := [zeros 64] }] }
       admits u ∧ u.inlet.reveal = none ∧ u.begunUnit = false ∧ u.noneAt Place.tick ∧ u.noneAt Place.skink ∧ u.noneAt Place.gecko) := by
  intro r s
  have none_ : ∀ {x : State} {a b : Nat}, x.inlet.waiting = [(a, r)] → a ≠ b → x.noneAt b := by
    intro x a b h hab w hw
    rw [h, List.mem_singleton] at hw
    rw [hw]; exact hab
  refine ⟨by decide +kernel, Or.inr (Or.inl ⟨rfl, none_ rfl (by decide)⟩), Or.inr (Or.inr (Or.inl ⟨rfl, none_ rfl (by decide), none_ rfl (by decide)⟩)),
    Or.inr (Or.inr (Or.inr ⟨0, by decide, rfl, rfl, none_ rfl (by decide), none_ rfl (by decide), none_ rfl (by decide), fun j h => absurd h (by omega)⟩)),
    Or.inr (Or.inr (Or.inr ⟨4, by decide, by decide, rfl, none_ rfl (by decide), none_ rfl (by decide), none_ rfl (by decide), ?_⟩)), ?_⟩
  · intro j h
    refine none_ rfl ?_
    show 3 ≠ (57 + j) % 58
    omega
  · intro u
    exact ⟨by decide +kernel, rfl, rfl, none_ rfl (by decide), none_ rfl (by decide), none_ rfl (by decide)⟩

/-- The calibration slot of a lane's zero, with no source on the lane, and that of excitation source 4, whose definition the lane carries. -/
theorem witness_LanesAndCalibration_source :
    let d := fun (i : Nat) => withLane { calDue := true, calItem := i } ((run.setReg (Reg.EX_LAST_MAG 4) 0x3A83126F).setReg (Reg.EX_LAST_DEF 4) 0)
    let e := { d 20 with tarn := Sparse.write 0 [] Tarn.CHANDEF (withCrc (bytesOf 64 [(1, 1, 1), (2, 1, 4), (3, 1, 1), (4, 1, 2), (5, 1, 3), (8, 4, 0x3A83126F),
      (0xD, 1, 9), (0x10, 2, 0xD8F0), (0x12, 2, 0x2710), (0x15, 1, 1), (0x16, 1, 47), (0x17, 2, 0xFFFF)]) 64) }
    (∀ k, k < 16 → (d 0).rfld (Reg.EX_STATUS k) 8 8 ≠ 47) ∧ (d 0).laneOn 47 = true ∧ ((d 0).lane 47).calDue = true
    ∧ e.laneOn 47 = true ∧ (e.lane 47).calDue = true ∧ (e.lane 47).slot = none ∧ (e.lane 47).calActive = false ∧ (e.lane 47).atStart = false
    ∧ e.calItemFrom 47 20 = 20 := by decide +kernel

/-- A definition that two lanes drain, and one that only the last lane drains. -/
theorem witness_LanesAndCalibration_drained :
    let d := fun (o : List Nat) => { withDef run with fe := { lanes := [(46, { drain := o }), (47, { drain := [0] })] } }
    (d [0]).drainedDef 47 = some 0 ∧ (d []).drainedDef 47 = some 0 ∧ (∀ m, m < 48 → m ≠ 47 → 0 ∉ ((d []).lane m).drain) := by decide +kernel

/-- Bank 3 powered right after reset; a field side that restarts there and in RUN. -/
theorem witness_FieldSideAndWatchdogs_reset :
    let s := { State.reset with dio := { bank3 := { powered := true, pins := 5, causes := [.thermal 1] } } }
    s.fieldUp 3 = false ∧ (s.bank 3).powered = true ∧ field.fieldUp 3 = true ∧ State.reset.fieldUp 3 = false ∧ State.reset.mgmt < Node.selftest
    ∧ run.fieldUp 3 = false ∧ Node.selftest ≤ run.mgmt ∧ run.mgmt = Node.run := by decide +kernel

/-- Errors as a transmitter: dominant bits in a flag with no frame in transmission, and steps alone with one; as a receiver, steps alone and with an error. -/
theorem witness_CanReception_steps :
    let s := withCan { tecCnt := 248, recCnt := 127 }
    let u := withCan { slots := [slot true] }
    let x := fun a b (n : Nat) => ({ code := 1, dataPhase := true, asTransmitter := a, flagSteps := n, stepsOnly := b } : CanErr)
    s.canOn 7 = true ∧ s.canMonitor 7 = false ∧ (s.canCh 7).current = none ∧ (u.canCh 7).current = some (slot true) ∧ u.canOn 7 = true
    ∧ u.canMonitor 7 = false ∧ (x true false 1).flagSteps ≠ 0 ∧ (x true true 1).stepsOnly = true ∧ s.mgmt = Node.run
    ∧ (x false true 1).asTransmitter = false := by decide +kernel

/-- A frame of the host's in transmission that asks for its echo, with one attempt and with more, its FIFO empty and not; an acknowledgment missed one time short of LONELY; a count of errors one step from bus off. -/
theorem witness_CanTransmission_ends :
    let x : TxSlot := { slot true with report := true, attempts := 1 }
    let f := fun (os : Bool) (tec cfg : Nat) (q : List (CanFrame × U64 × U32)) =>
      ({ (((withRing 25 run).setReg (Reg.CAN_CFG 7) (BitVec.ofNat 32 cfg)).setReg (Reg.CAN_STATUS 7) 1).setReg (Reg.CAN_NOACK_RUN 7) 4 with
        can := [(7, { slots := [{ x with oneShot := os }], rxFifo := q, tecCnt := tec })] }).fresh.pass 0
    (∀ os : Bool, ∀ q ∈ [[], [(frame 0, (5 : U64), (1 : U32))]], ∀ tec ∈ [0, 247, 248, 255],
      let s := f os tec 0x5000105 q
      s.mgmt = Node.run ∧ (s.canCh 7).current = some { x with oneShot := os } ∧ (s.canCh 7).busOffWait = none ∧ x.cancel = false
      ∧ (s.canCh 7).tecCnt = tec ∧ s.oneShot 7 { x with oneShot := os } = os ∧ x.node = false ∧ x.report = true ∧ 1 ≤ x.attempts
      ∧ (s.canCh 7).rxFifo = q ∧ (s.canCh 7).echoes = [] ∧ 0 < s.ringCredit (18 + 7) ∧ s.canOn 7 = true)
    ∧ (f false 0 0x50105 []).rbit (Reg.CAN_CFG 7) 8 = true
    ∧ ((f false 0 0x50105 []).reg (Reg.CAN_NOACK_RUN 7)).toNat + 1 = (f false 0 0x50105 []).rfld (Reg.CAN_CFG 7) 16 8
    ∧ (f false 0 0x50005 []).rbit (Reg.CAN_CFG 7) 8 = false := by decide +kernel

/-- AE-B FAILED beside an engine in service, and the target of a copy from it. -/
theorem witness_EngineFailuresAndControl_inject :
    let s := twins { svc := Svc.inService } { svc := Svc.failed } { holder := some .A }
    let c : Copy := { source := .A, target := .B, started := true }
    let u := twins { svc := Svc.inService } { svc := Svc.resync } { holder := some .A, copy := some c }
    s.mgmt = Node.run ∧ (s.eng (other .B)).svc = Svc.inService ∧ s.serves .B = false ∧ s.isTarget .B = false
    ∧ u.mgmt = Node.run ∧ (u.eng (other .B)).svc = Svc.inService ∧ u.serves .B = false ∧ u.skink.copy = some c ∧ c.target = .B
    ∧ c.source = other .B := by decide +kernel

theorem witness_HostTimeControl_timeout :
    let s := { (at_ 6).setReg Reg.WS_CTL 1 with ws := { normal := true } }
    s.servoHost = true ∧ s.ws.normal = true ∧ s.mgmt = Node.activating := by decide +kernel

/-- A Sync of a wrong interval; an Announce not heard before, one with too many steps, and one heard at the end of its window. -/
theorem witness_NodeServo_announce :
    let s := fun h => ({ run.setReg (Reg.ETH_CTL 1) 3 with ws := { frc := 800000000, servo := { heard := h } } }).fresh.pass 0
    let h : Heard := { master := 9, port := 1, at_ := 0 }
    (-5 : Int) < -4 ∧ (1 : Int) < 2 ∧ (∀ l ∈ [[], [h]], (s l).ptpTakes (announce 0).hdr = true ∧ (s l).servoRuns = true ∧ (s l).ptpPort 1 = true)
    ∧ 255 ≤ (announce 255).stepsRemoved.toNat ∧ (announce 254).stepsRemoved.toNat < 255 ∧ (s []).ws.servo.heard = []
    ∧ (s [h]).frcNat = h.at_ + foreignWindow (announce 0).logInterval ∧ (s [h]).ws.servo.heard = [h] ∧ (s [h]).ws.servo.master = none
    ∧ (s [h]).ws.servo.best = none ∧ (s [h]).ws.servoState = Servo.free ∧ (s [h]).ws.servo.lastMaster ≠ some (9, 1) := by decide +kernel

/-- A charger at work, and one that its limit has stopped; a wake timer one tick before its end and at it, and on the battery; a second short of its last tick. -/
theorem witness_RtcViewsAndBackup_power :
    let s := { run.setReg Reg.RTC_TRICKLE 3 with rtc := { cellHigh := false } }
    let w := fun (b : Bool) => { (run.setReg Reg.RTC_WAKE_CTL 3).setReg Reg.RTC_WAKE_PERIOD 1 with rtc := { wakeLeft := 2, onVbk := b, vbkPhase := 32766 } }
    s.chargerOn = true ∧ (s.setReg Reg.RTC_VBK 3000).chargerOn = true ∧ (s.setReg Reg.RTC_VBK 3000).charging = false ∧ run.chargerOn = false
    ∧ (∀ b : Bool, (w b).rbit Reg.RTC_WAKE_CTL 0 = true ∧ 128 * (w b).rfld Reg.RTC_WAKE_PERIOD 0 25 = 128 ∧ (w b).rtc.wakeLeft = 2
      ∧ (w b).rbit Reg.RTC_WAKE_CTL 1 = true ∧ (w b).rbit Reg.RTC_EVT 2 = false ∧ (w b).rtc.onVbk = b)
    ∧ ((run.setReg Reg.RTC_WAKE_CTL 1).rbit Reg.RTC_WAKE_CTL 1) = false ∧ (w false).rtc.vbkPhase + 1 < 32768 := by decide +kernel

/-- A list drawn over a flip that waits, and while the panel is not driven. -/
theorem witness_PanelCommands_redraw :
    (∀ i ∈ [0, 1, 2], ∀ c ∈ [2, 3],
      let f := [none, some none, some (some (7, true))].getD i none
      let r := { run.setReg Reg.PNL_CTL (BitVec.ofNat 32 c) with panel := { flip := f } }.fresh.rtcElapse 0
      r.skink.holder = some .A ∧ r.mgmt = Node.run ∧ r.rbit Reg.PNL_CTL 1 = true ∧ r.panel.flip = f ∧ r.driven = decide (c = 3))
    ∧ (200 : Nat) ≤ 200 ∧ (199 : Nat) < 200 := by decide +kernel

/-- The values next to the ranges of UPD_BEGIN, and a reserved byte. -/
theorem witness_UpdateSessionAndKey_range : ∀ f ∈ [[(8, 4, 0), (0xC, 4, 2)], [(8, 4, 524288), (0xC, 4, 2)], [(8, 4, 1), (0xC, 4, 1)],
      [(8, 4, 1), (0xC, 4, 8193)], [(8, 4, 1), (0xC, 4, 2), (0x3F, 1, 1)]],
    let d := descOf 0x60 f
    heads (session 0x60 f { } { }) 0x60 d
    ∧ (d.arg 8 4 = 0 ∨ 524287 < d.arg 8 4 ∨ d.arg 0xC 4 < 2 ∨ 8192 < d.arg 0xC 4 ∨ d.resv 0x30 16 = false) := by decide +kernel

/-- The erase of a confirmation that a reset has cut; a conversion with a base generation of its own and with none. -/
theorem witness_ActivationAndTrial_erase :
    (let s := { State.reset with nvm := { boot0 := ({ seq := 9, slot := 0, settings := 1 } : BootRec).sealed, eraseDue := true } }
     s.mgmt = Node.reset ∧ s.nvm.eraseDue = true ∧ s.nvm.boot.mode = 0 ∧ s.nvm.boot.settings = 1 ∧ s.nvm.bootable s.nvm.boot.slot.toNat = true)
    ∧ (let s := { run with upd := { converting := true } }
       s.upd.converting = true ∧ s.active.base = none) := by decide +kernel

/-- A damaged word that awaits its repair already, a trend entry's last word, and the pause. -/
theorem witness_TarnErrors_pending :
    { run with gecko := { ueWords := [8] } }.gecko.ueWords = [8] ∧ eccConfig 8 = true ∧ (at_ 6).mgmt = Node.activating
    ∧ (let w := Tarn.TREND + 0x20000 - 8
       eccConfig w = false ∧ damagedAt w = none ∧ Tarn.TREND ≤ w ∧ w < Tarn.TREND + 0x20000) := by decide +kernel

/-- Telemetry that is not enabled; that the number of sectors which fail is a free value, so that one of its two cases is shown for the pool that it leaves nothing over. -/
theorem witness_SettingsDigestAndTelemetry_off :
    (let r := (run.setReg Reg.HK_TELEM_CTL 0).fresh.pass 0
     r.geckoRuns = true ∧ r.rbit Reg.HK_TELEM_CTL 0 = false)
    ∧ (let s := { run with gecko := { saving := some { } }, nvm := { spare := Config.badSectors run.free } }
       s.gecko.saving = some { } ∧ Config.badSectors s.free ≤ s.nvm.spare) := by
  exact ⟨by decide +kernel, rfl, Nat.le_refl _⟩

theorem ecMul_zero : ∀ (n : Nat) (p : Option (Nat × Nat)), ecMul n 0 p = none
  | 0, _ => rfl
  | n + 1, p => by unfold ecMul; exact ecMul_zero n _

theorem ecdsaOk_zero (q : Nat × Nat) (r : Nat) (m : List Byte) : ecdsaOk q r 0 m = false := by
  have h : invMod p256n 0 = 0 := by decide +kernel
  simp only [ecdsaOk, h, Nat.mul_zero, Nat.zero_mod, ecMul_zero, ecAdd]

theorem manifest_unsigned : manifestSigned (manifest 0) = false := by
  unfold manifestSigned
  rw [show beNat (slice (manifest 0) 0xF60 32) = 0 by decide +kernel]
  exact ecdsaOk_zero ..

theorem manifest_format (s : Nat) (h : s ∈ [0, rightS]) : ManifestFormat (manifest s) := by
  have hz : ∀ l : List Byte, allZero l = true → ∀ b, b ∈ l → b = 0 := fun l hl b hb => by
    have := List.all_eq_true.mp hl b hb
    simpa using this
  have ho : ∀ l : List Byte, l.all (· == 0xFF) = true → ∀ b, b ∈ l → b = 0xFF := fun l hl b hb => by
    have := List.all_eq_true.mp hl b hb
    simpa using this
  have all : ∀ s ∈ [0, rightS], u32At (manifest s) 0 = 0x31464D55 ∧ leAt (manifest s) 4 2 = 1 ∧ leAt (manifest s) 6 2 = 7
      ∧ leAt (manifest s) 0xF 1 < 16 ∧ allZero (slice (manifest s) 0x18 8 ++ slice (manifest s) 0x170 3472) = true
      ∧ (∀ k, k < 7 → allZero (slice (manifest s) (0x21 + 48 * k) 3) = true) ∧ (slice (manifest s) 0xF80 128).all (· == 0xFF) = true := by
    decide +kernel
  obtain ⟨h1, h2, h3, h4, h5, h6, h7⟩ := all s h
  exact ⟨h1, h2, h3, h4, hz _ h5, fun k hk => hz _ (h6 k hk), ho _ h7⟩

/-- The OTP slot of the key, valid, and the same revoked. -/
def keySlot (revoked : Bool) : Nat × List Byte × Bool :=
  (0, beBytes 32 0xd875db7def232236aec738c6b0bb3e80142f5d0fd8f4df24fed6eef5cbb50d9f, revoked)

/-- The session has every piece of the package; slot B runs, and an image of settings format `fmt` stands in it; the pieces besides the manifest, and the keys. -/
def verifying (m : List Byte) (keys : List (Nat × List Byte × Bool)) (hw pieces fmt st : Nat) (more : List (Nat × List Byte)) : State :=
  withCmd 0x62 [(8, 4, 1)] { run.setReg Reg.HW_REV (BitVec.ofNat 32 hw) with
    upd := { state := st, runSlot := 1 },
    nvm := { sesNvm pieces (List.range pieces) with keys := keys, slotA := { pieces := (0, m) :: more }, slotB := { pieces := [(0, bytesOf 4096 [(0x14, 2, fmt)])] } } }

/-- What every clause of the checks takes. -/
abbrev verifies (s : State) (m : List Byte) : Prop :=
  heads s 0x62 (descOf 0x62 [(8, 4, 1)]) ∧ (descOf 0x62 [(8, 4, 1)]).resv 0xC 52 = true
    ∧ (descOf 0x62 [(8, 4, 1)]).arg 8 4 = s.nvm.session.id.toNat ∧ s.upd.state = Ses.receiving
    ∧ s.nvm.session.pieces ≤ s.nvm.session.bitmap.length ∧ (s.nvm.slotOf s.nvm.session.target).piece 0 = m

theorem session_of {a b : Nvm} (h0 : a.ses0 = b.ses0) (h1 : a.ses1 = b.ses1) (h2 : a.bits0 = b.bits0) (h3 : a.bits1 = b.bits1) :
    a.session = b.session := by
  simp only [Nvm.session, Nvm.sesRec, Nvm.sesIx, Nvm.bitmap, h0, h1, h2, h3]

/-- The session of `verifying`, whatever stands in the slots. -/
theorem verifying_session (m : List Byte) (keys : List (Nat × List Byte × Bool)) (hw fmt st : Nat) (more : List (Nat × List Byte)) :
    (verifying m keys hw 8 fmt st more).nvm.session.pieces = 8 ∧ (verifying m keys hw 8 fmt st more).nvm.session = (sesNvm 8 (List.range 8)).session := by
  have h : (verifying m keys hw 8 fmt st more).nvm.session = (sesNvm 8 (List.range 8)).session := session_of rfl rfl rfl rfl
  refine ⟨?_, h⟩
  rw [h]; decide +kernel

theorem verifies_of (m : List Byte) (keys : List (Nat × List Byte × Bool)) (hw pieces fmt : Nat) (more : List (Nat × List Byte)) (h : pieces ∈ [8, 9]) :
    verifies (verifying m keys hw pieces fmt Ses.receiving more) m := by
  have hs : (verifying m keys hw pieces fmt Ses.receiving more).nvm.session = (sesNvm pieces (List.range pieces)).session :=
    session_of rfl rfl rfl rfl
  have all : ∀ p ∈ [8, 9], (descOf 0x62 [(8, 4, 1)]).arg 8 4 = (sesNvm p (List.range p)).session.id.toNat
      ∧ (sesNvm p (List.range p)).session.pieces ≤ (sesNvm p (List.range p)).session.bitmap.length ∧ (sesNvm p (List.range p)).session.target = 0 := by
    decide +kernel
  obtain ⟨h1, h2, h3⟩ := all pieces h
  refine ⟨⟨rfl, rfl⟩, by decide +kernel, ?_, rfl, ?_, ?_⟩ <;> rw [hs]
  · exact h1
  · exact h2
  · rw [h3]; rfl

theorem key_right (s : Nat) (h : s ∈ [0, rightS]) (x : State) (hx : x.nvm.keys = [keySlot false]) : x.nvm.KeyRight (manifest s) := by
  have all : ∀ s ∈ [0, rightS], (leAt (manifest s) 0xE 1, sha256 (slice (manifest s) 0xF00 64), false) = keySlot false := by decide +kernel
  unfold Nvm.KeyRight
  rw [hx, all s h]
  exact List.mem_singleton.mpr rfl

theorem layout_right : PackageLayout (manifest rightS) 8 :=
  ⟨by decide +kernel, by decide +kernel, by decide +kernel, by decide +kernel,
    fun j k hj hk => (by decide +kernel : ∀ j, j < 7 → ∀ k, k < 7 → j ≠ k → (partOf (manifest rightS) j).stop ≤ (partOf (manifest rightS) k).offset
      ∨ (partOf (manifest rightS) k).stop ≤ (partOf (manifest rightS) j).offset) j hj k hk⟩

/-- Each check failed with those before it right: the format, a key that is missing and one that is revoked, the signature, HW_REV, PIECES, the settings format. -/
theorem witness_UpdateVerify_checks :
    (verifies (verifying [] [] 1 8 1 Ses.receiving []) [] ∧ ¬ManifestFormat [])
    ∧ (ManifestFormat (manifest rightS) ∧ manifestSigned (manifest rightS) = true ∧ PackageLayout (manifest rightS) 8)
    ∧ (∀ k ∈ [[], [keySlot true]], verifies (verifying (manifest rightS) k 1 8 1 Ses.receiving []) (manifest rightS))
    ∧ (∀ k ∈ [[], [keySlot true]], ¬(verifying (manifest rightS) k 1 8 1 Ses.receiving []).nvm.KeyRight (manifest rightS))
    ∧ (let s := verifying (manifest 0) [keySlot false] 1 8 1 Ses.receiving []
       verifies s (manifest 0) ∧ ManifestFormat (manifest 0) ∧ s.nvm.KeyRight (manifest 0) ∧ manifestSigned (manifest 0) = false)
    ∧ (let s := verifying (manifest rightS) [keySlot false] 0 8 1 Ses.receiving []
       verifies s (manifest rightS) ∧ s.rfld Reg.HW_REV 0 16 < leAt (manifest rightS) 0xC 2)
    ∧ (let s := verifying (manifest rightS) [keySlot false] 1 9 1 Ses.receiving []
       verifies s (manifest rightS) ∧ leAt (manifest rightS) 0xC 2 ≤ s.rfld Reg.HW_REV 0 16 ∧ ¬PackageLayout (manifest rightS) s.nvm.session.pieces)
    ∧ (let s := verifying (manifest rightS) [keySlot false] 1 8 2 Ses.receiving []
       verifies s (manifest rightS) ∧ s.nvm.session.pieces = 8 ∧ ¬SettingsFormatFits (manifest rightS) (s.nvm.imageFormat s.upd.runSlot)) := by
  have v := fun m keys hw pieces fmt more => verifies_of m keys hw pieces fmt more
  refine ⟨⟨v _ _ _ _ _ _ (by decide), fun h => absurd h.magic (by decide)⟩, ⟨manifest_format _ (by simp), manifest_signed, layout_right⟩, fun k _ => v _ _ _ _ _ _ (by decide), ?_,
    ⟨v _ _ _ _ _ _ (by decide), manifest_format _ (by simp), key_right _ (by simp) _ rfl, manifest_unsigned⟩,
    ⟨v _ _ _ _ _ _ (by decide), by decide +kernel⟩, ⟨v _ _ _ _ _ _ (by decide), by decide +kernel, fun h => absurd h.whole (by decide +kernel)⟩,
    ⟨v _ _ _ _ _ _ (by decide), (verifying_session ..).1,
      fun h => absurd h.2 (by decide +kernel)⟩⟩
  intro k hk h
  have hm := List.mem_cons.mp hk
  rcases hm with rfl | hm
  · cases h
  · rw [List.mem_singleton.mp hm] at h
    have := List.mem_singleton.mp h
    exact absurd (congrArg (fun x => x.2.2) this) (by decide)

theorem manifest_right (more : List (Nat × List Byte)) (s : State) (hs : s = verifying (manifest rightS) [keySlot false] 1 8 1 Ses.receiving more) :
    ManifestRight s (manifest rightS) := by
  have hf : s.nvm.imageFormat s.upd.runSlot = 1 := by
    rw [show s.nvm.imageFormat s.upd.runSlot = leAt (bytesOf 4096 [(0x14, 2, 1)]) 0x14 2 by subst hs; rfl]
    decide +kernel
  have hh : s.rfld Reg.HW_REV 0 16 = 1 := by
    rw [show s.rfld Reg.HW_REV 0 16 = (run.setReg Reg.HW_REV 1).rfld Reg.HW_REV 0 16 by subst hs; rfl]
    decide +kernel
  have hp : s.nvm.session.pieces = 8 := by
    subst hs
    exact (verifying_session ..).1
  refine ⟨manifest_format _ (by simp), key_right _ (by simp) _ (by subst hs; rfl), manifest_signed, ?_, ?_, ?_⟩
  · rw [hh]; decide +kernel
  · rw [hp]; exact layout_right
  · unfold SettingsFormatFits
    rw [hf]; decide +kernel

/-- Every check right; the first part and the last with a wrong byte. -/
theorem witness_UpdateVerify_parts :
    (let s := verifying (manifest rightS) [keySlot false] 1 8 1 Ses.receiving []
     verifies s (manifest rightS) ∧ ManifestRight s (manifest rightS)
     ∧ ∀ k, k < 7 → sha256 ((s.nvm.slotOf s.nvm.session.target).read (partOf (manifest rightS) k).offset (partOf (manifest rightS) k).length)
         = (partOf (manifest rightS) k).hash)
    ∧ ∀ k ∈ [0, 6], let s := verifying (manifest rightS) [keySlot false] 1 8 1 Ses.receiving [(k + 1, zeros 4096)]
      let g := s.nvm.slotOf s.nvm.session.target
      verifies s (manifest rightS) ∧ ManifestRight s (manifest rightS)
      ∧ sha256 (g.read (partOf (manifest rightS) k).offset (partOf (manifest rightS) k).length) ≠ (partOf (manifest rightS) k).hash
      ∧ ∀ j, j < k → sha256 (g.read (partOf (manifest rightS) j).offset (partOf (manifest rightS) j).length) = (partOf (manifest rightS) j).hash := by
  refine ⟨⟨verifies_of _ _ _ _ _ _ (by decide), manifest_right [] _ rfl, by decide +kernel⟩,
    fun k hk => ⟨verifies_of _ _ _ _ _ _ (by decide), manifest_right _ _ rfl, ?_⟩⟩
  revert k; decide +kernel

/-- The completions before the checks: a reserved byte, and the states that do not take the command. -/
theorem witness_UpdateVerify_states :
    (let f := [(8, 4, 1), (0x3F, 1, 1)]; heads (session 0x62 f { state := Ses.receiving } (sesNvm 2 [])) 0x62 (descOf 0x62 f) ∧ (descOf 0x62 f).resv 0xC 52 = false)
    ∧ ∀ st ∈ [Ses.idle, Ses.verifying, Ses.ready], let s := verifying [] [] 1 8 1 st []
      heads s 0x62 (descOf 0x62 [(8, 4, 1)]) ∧ (descOf 0x62 [(8, 4, 1)]).arg 8 4 = s.nvm.session.id.toNat ∧ s.upd.state = st := by decide +kernel

theorem base_some {g : Generation} (h : g.valid = true) (t : Settings) (ht : t.gens = [g]) : t.base = some g := by
  unfold Settings.base
  rw [ht, List.filter_cons_of_pos h]
  rfl

/-- A generation's SHA-256 covers its body, which does not hold it. -/
theorem generation_valid (x : List Byte) (h : x = sha256 ({ } : Generation).body) : ({ sha := x } : Generation).valid = true := by
  have hb : ({ sha := x } : Generation).body = ({ } : Generation).body := by simp only [Generation.body]
  unfold Generation.valid
  exact beq_iff_eq.mpr (h.trans (congrArg sha256 hb.symm))

/-- A conversion beside a base generation of its own. -/
theorem witness_ActivationAndTrial_base : ∃ s : State, s.upd.converting = true ∧ s.active.base ≠ none := by
  have hv := generation_valid _ rfl
  generalize ({ sha := sha256 ({ } : Generation).body } : Generation) = g at hv
  refine ⟨{ run with upd := { converting := true }, nvm := { set0 := { gens := [g] } } }, rfl, ?_⟩
  have ht : (Nvm.region { set0 := { gens := [g] } } 0).gens = [g] := by rw [Nvm.region]; rfl
  have hb : (Nvm.region { set0 := { gens := [g] } } 0).base = some g := base_some hv _ ht
  exact fun h => Option.some_ne_none g (hb.symm.trans h)

/-! ## The whole machine -/

theorem witness_StepRunsTheFrontCommand : { run with pending := [.nop, .flr] }.pending = .nop :: [.flr] ∧ run.pending = [] := ⟨rfl, rfl⟩

/-- A command that names the last ring, and one that names a ring that is none. -/
theorem witness_WellFormedCommandsEnd : (Instr.ringEnable 30 0).wf = true ∧ (Instr.ringEnable 31 0).wf = false := by decide +kernel

/-- The small state in RUN meets the invariant, and a step from it ends in a next state. -/
theorem witness_EveryStepKeepsTheInvariant : { run with pending := [.flr] }.Inv ∧ ∃ t, step { run with pending := [.flr] } = .next t := by
  refine ⟨?_, _, rfl⟩
  constructor
  case credits => exact fun _ _ _ => Nat.zero_le _
  case gens => intro g h; rcases h with h | h | h <;> cases h
  all_goals decide +kernel

/-- The premise of the frame, of the moves of the node state, and of the clocks that FRC counts. -/
theorem witness_EveryCommandHasItsFrame : ∃ t, exec .flr State.reset = .next t := ⟨_, rfl⟩

theorem witness_CustodyKeyIsWrittenOnce : { run with nvm := { custody := some [1] } }.nvm.custody = some [1]
    ∧ { run with nvm := { custody := some [1] } }.nvm.programming = none := ⟨rfl, rfl⟩

theorem witness_NodeStateMoves : ∃ t, exec .resetNode run = .next t := ⟨_, rfl⟩

theorem witness_FrcCountsCoreClocks : ∃ t, exec .commandRateAllowance run = .next t := ⟨_, rfl⟩

/-! ## The spec's worked examples -/

/-- R16: local index 5,000 on node 12 is 0x18_1388. -/
theorem test_system_point_id : (run.setReg Reg.MGMT_NODE_ID 12).sysId 5000 = 0x181388 := by decide +kernel

/-- R102: producer 0x0000_0010 and consumer 0xFFFF_FFF8 leave 24 entries. -/
theorem test_ring_occupied :
    ((run.setReg (Reg.RING_NODE_IDX 2) 0x10).setHostIdx 2 0xFFFFFFF8).ringUsed 2 = 24 := by decide +kernel

def rateCfg : PCfg := PCfg.ofBytes (bytesOf 64 [(0x1C, 4, 0x3BA3D70A), (0x20, 4, 0xBCA3D70A), (0x2B, 1, 0x10)])

/-- R222: a fall from 4.835 m to 4.810 m in a second enters RATE; −0.016 stays in it, −0.012 leaves it. -/
theorem test_rate_point : rateCfg.rateTarget Pt.normal (F32.sub 0x4099EB85 0x409AB852) = Pt.rate
    ∧ rateCfg.rateTarget Pt.rate 0xBC83126F = Pt.rate ∧ rateCfg.rateTarget Pt.rate 0xBC449BA6 = Pt.normal := by decide +kernel

def plugBank (start flags : Nat) : SigDef :=
  SigDef.ofBytes (withCrc (bytesOf 16 [(0, 4, 0xC4), (4, 2, start), (6, 1, 16), (7, 1, flags), (8, 4, 0xD000)]) 16)

/-- R403: the frame of gateway 3 carries −210 little-endian and −230 big-endian while byte 0 is 3, and neither while it is 4. -/
theorem test_can_signals : (plugBank 16 2).extract 0xC4 8 [3, 0x11, 0x2E, 0xFF, 0xFF, 0x1A, 0, 0] = some (some 0xC3520000)
    ∧ (plugBank 39 3).extract 0xC4 8 [3, 0x11, 0x2E, 0xFF, 0xFF, 0x1A, 0, 0] = some (some 0xC3660000)
    ∧ (plugBank 16 2).extract 0xC4 8 [4, 0x11, 0x2E, 0xFF, 0xFF, 0x1A, 0, 0] = none := by decide +kernel

/-- R438: 2026-01-01 is day 20,454; summer time of 2026-03-29 in the BCD view at LOCAL_OFS +4. -/
theorem test_bcd_view : daysOf 2026 1 1 = 20454
    ∧ (let s := { run with rtc := { sec := 1774746000, ofs := 4, dst := true } }
       s.readReg Reg.RTC_BCD_TIME = 0x00030000 ∧ s.readReg Reg.RTC_BCD_DATE = 0x00260329 ∧ s.readReg Reg.RTC_BCD_EXT = 0xF)
    ∧ (let s := { run with rtc := { sec := 1774745999, ofs := 4 } }; s.readReg Reg.RTC_BCD_TIME = 0x00015959) := by decide +kernel

/-- The check value that IEEE 802.3's CRC-32 and CRC-16-CCITT are known by, over the digits 1 to 9. -/
theorem test_crc : crc32 [0x31, 0x32, 0x33, 0x34, 0x35, 0x36, 0x37, 0x38, 0x39] = 0xCBF43926
    ∧ crc16 [0x31, 0x32, 0x33, 0x34, 0x35, 0x36, 0x37, 0x38, 0x39] = 0x29B1 := by decide +kernel

/-- R506: a Spawn share of 17 MiB where the backlog has one. -/
theorem test_spawn_share : { run with hif := { elasticNow := 1 } }.spawnShare = 17 := by decide +kernel

/-! ## Terms that are ill formed, one for each check of `Instr.wf` -/

def noSlot : SlotMeas :=
  { c1 := 0, c2 := 0, peak1 := 0, peak2 := 0, inPh := 0, quad := 0, cm := [], compliance := false, overcurrent := false }

theorem test_ill_formed_host : ∀ i ∈ [Instr.registerWrite 0x100000 0, .widePairLoRead 0x100000 0, .tarnWindowWrite 0x2000000 [0],
    .descriptorArrival 31 none, .ringEnable 31 0, .ringDisable 31 0, .ringModerationTimeout 31, .msixVectorUnmask 32, .eventDelivery 31,
    .trendSample 4096 0], i.wf = false := by decide +kernel

theorem test_ill_formed_engines : ∀ i ∈ [Instr.delayExpiry .A 81920, .rateEvaluation .B 81920, .blockDelayExpiry .A 81920,
    .shelveExpiry .B 81920, .groupBlockExpiry .A 256, .floodWindowClose .B 256, .callTimeout .A 256, .callFrameRepeat .B 256,
    .deadmanWarn .A 256, .deadmanExpiry .B 256], i.wf = false := by decide +kernel

theorem test_ill_formed_field : ∀ i ∈ [Instr.laneSlotStart 48, .laneSlotEnd 48 noSlot 0, .calSlotDue 48, .calSlotEnd 48 0, .laneDrained 48,
    .clampEventStart 192, .clampEventEnd 192, .burdenShuntOpen 192, .burdenShuntReclose 192, .biasCurrentLimit 8 true,
    .dioWindowEnd 4 0 0 0, .counterEdge 16, .countPeriodExpiry 16 0 0, .newtRefresh 2 false, .watchdogExpiry 4, .newtStall 2,
    .newtRestart 2, .faultSet 4 (.thermal 0), .faultClear 4, .fieldReset 4, .fieldSideRestart 4, .thermalShutdownRetry 64 true],
    i.wf = false := by decide +kernel

theorem test_ill_formed_network : ∀ i ∈ [Instr.canFrameReceived 8 (frame 0) 0, .protocolException 8, .canBusError 8 ⟨1, false, false, 0, false⟩,
    .canTxEntryTaken 8, .txAttemptStart 8 0, .txAttemptEnd 8 .sent 0, .integrationComplete 8, .busOffRecoveryComplete 8,
    .ptpSyncReceived 2 ⟨⟨0, false⟩, 0, 0, 0⟩ 0, .ptpDelayRespReceived 2 ⟨⟨0, false⟩, 0, 0, 0⟩,
    .ptpAnnounceReceived 2 (announce 0), .ethFrameReceived 2 ⟨true, [], none⟩ 0, .ethTxFrame 2 { }, .ethTxTimestamp 2 0, .ethLinkChange 2 true true, .ptpTxtsW0Read 2, .ptpTxtsTimeHiRead 2, .tmoPulseStart 8 0,
    .tmoPulseEnd 8 0, .pieceStored 8192 true, .scrubSlot 16, .tarnCorrectedError 0x2000000, .tarnUncorrectable 0x2000000],
    i.wf = false := by decide +kernel

end Sys2Proof.Tests
end

/-! PROOFS. Counters and the writes of BAR0 (R13, R515): a saturating count, what an ignored write leaves, and a write that goes by the access type of its register. -/

namespace Sys2Proof.Machine

/-! ## Saturating counts (R13) -/

/-- A count ends at the sum or at all-ones, whichever is less. -/
theorem toNat_satAdd {w : Nat} (v : BitVec w) (n : Nat) : (satAdd v n).toNat = min (v.toNat + n) (2 ^ w - 1) := by
  unfold satAdd
  split
  · next h =>
    rw [BitVec.toNat_add, BitVec.toNat_ofNat, Nat.add_mod_mod, Nat.mod_eq_of_lt h]
    omega
  · next h =>
    rw [BitVec.toNat_allOnes]
    omega

theorem satAdd_eq_allOnes {w : Nat} (v : BitVec w) (n : Nat) (h : 2 ^ w - 1 ≤ v.toNat + n) : satAdd v n = BitVec.allOnes w :=
  BitVec.eq_of_toNat_eq (by rw [toNat_satAdd, BitVec.toNat_allOnes, Nat.min_eq_right h])

@[simp] theorem State.reg_bumpBy (s : State) (o p : Off) (n : Nat) :
    (s.bumpBy o n).reg p = if p = o then satAdd (s.reg o) n else s.reg p := s.reg_setReg o p _

/-! ## Ignored writes (R515) -/

/-- The record of an ignored register write holds the offset as it was written, and no mark of the Tarn window. -/
theorem packU32_ignored_register (off why : Nat) (h : off < 0x100000) (ha : off % 4 = 0) :
    packU32 [(off % 2 ^ 25 / 4 * 4, 0), (why, 25), (b2n false, 31)] = packU32 [(off, 0), (why, 25)] := by
  have ho : off % 2 ^ 25 / 4 * 4 = off := by omega
  rw [ho]
  simp [packU32, b2n]

theorem State.ignored_last (s : State) (off : Off) (why : Nat) (h : off < 0x100000) (ha : off % 4 = 0) :
    (s.ignored off why).reg Reg.MGMT_IGNORED_LAST = packU32 [(off, 0), (why, 25)] := by
  unfold State.ignored
  dsimp only
  rw [State.reg_raise _ _ _ _ (by decide), if_neg (by decide), State.reg_setReg, if_pos rfl]
  exact packU32_ignored_register off why h ha

/-- MGMT_EVT.IGNORED_WR is set. -/
theorem State.ignored_shown (s : State) (off : Off) (why : Nat) (tarn : Bool) : (s.ignored off why tarn).rbit Reg.MGMT_EVT 2 = true := by
  unfold State.ignored State.rbit
  dsimp only
  rw [State.reg_raise _ _ _ _ (by decide), if_pos rfl]
  rw [bitAt, BitVec.toNat_or, Nat.testBit_or]
  exact Bool.or_eq_true_iff.mpr (.inr (by decide))

/-- An ignored write counts in the one counter of its span. -/
theorem State.ignored_count (s : State) (off : Off) (why : Nat) (c : Off)
    (hc : c = if 0x1000 ≤ off ∧ off < 0x1900 then Reg.HIF_IGNORED_WR_CNT else Reg.MGMT_IGNORED_WR_CNT) :
    (s.ignored off why).reg c = satAdd (s.reg c) 1 := by
  obtain ⟨hpba, hevt, hlast⟩ : c ≠ Reg.MSIX_PBA 0 ∧ c ≠ Reg.MGMT_EVT ∧ c ≠ Reg.MGMT_IGNORED_LAST := by
    rw [hc]
    split <;> decide
  unfold State.ignored
  dsimp only
  rw [State.reg_raise _ _ _ _ hpba, if_neg hevt, State.reg_setReg, if_neg hlast]
  simp [hc]

/-- What `Ignored` says of a write of a register holds of every write that the model ignores. -/
theorem State.ignored_register (s : State) (off : Off) (why : Nat) (h : off < 0x100000) (ha : off % 4 = 0) :
    Ignored s (s.ignored off why) off why where
  last := s.ignored_last off why h ha
  shown := s.ignored_shown off why false
  count := ⟨fun hlo hhi => s.ignored_count off why _ (if_pos ⟨hlo, hhi⟩).symm,
    fun hout => s.ignored_count off why _ (if_neg fun ⟨hlo, hhi⟩ => hout.elim hlo.not_gt hhi.not_ge).symm⟩
  regs := fun p hp => s.reg_ignored off why false p hp
  held := s.ignored_hold off why false

/-! ## A write of one word (R515) -/

/-- A write of an aligned word of BAR0 is the write of its register. -/
theorem exec_registerWrite_word (s : State) (off : Off) (v : U32) (h : off < 0x100000) (ha : off % 4 = 0) :
    exec (.registerWrite off v) s = .next (s.fresh.writeReg off v) := by
  show execRegisterWrite off v s = _
  simp [execRegisterWrite, need, h, ha]

/-- MGMT_CMD has a row of its own, so that a register without one is another. -/
theorem ne_mgmtCmd_of_ownWrite_none {off : Off} {v : U32} (h : ownWrite off v = none) : off ≠ Reg.MGMT_CMD := by
  rintro rfl
  have hrow : ownWrite Reg.MGMT_CMD v = some (fun s => s.mgmtCmd v) := rfl
  exact Option.some_ne_none _ (hrow.symm.trans h)

/-- From SETUP onward a writable register without a row of its own, no half of a pair, is written by its access type. -/
theorem State.writeReg_byAccess (s : State) (off : Off) (v : U32) (r : RegRow) (hrow : decoded off = some r) (hro : r.acc ≠ .ro)
    (hm : Node.setup ≤ s.mgmt) (hown : ownWrite off v = none) (hlo : isHoldLo off = false) (hhi : isHoldLo (off - 4) = false) :
    s.writeReg off v = s.writeByAccess r off v := by
  have hcmd := ne_mgmtCmd_of_ownWrite_none hown
  have hup : ¬ s.mgmt < Node.setup := Nat.not_lt.mpr hm
  simp [State.writeReg, hrow, hro, hcmd, hup, hown, hlo, hhi]

/-- A counter takes a write of zero, and no other (R13). -/
theorem State.writeByAccess_cnt (s : State) (r : RegRow) (off : Off) (v : U32) (hacc : r.acc = .cnt) (hok : s.writeAllowed off v = true) :
    s.writeByAccess r off v = if v = 0 then s.setReg off 0 else s.ignored off Why.range := by
  simp [State.writeByAccess, hacc, hok]

/-- The write of a counter that its block takes writes of. -/
theorem exec_registerWrite_cnt (s : State) (off : Off) (v : U32) (r : RegRow) (h : off < 0x100000) (ha : off % 4 = 0)
    (hm : Node.setup ≤ s.mgmt) (hrow : decoded off = some r) (hacc : r.acc = .cnt) (hown : ownWrite off v = none)
    (hlo : isHoldLo off = false) (hhi : isHoldLo (off - 4) = false) (hok : s.writeAllowed off v = true) :
    exec (.registerWrite off v) s = .next (if v = 0 then s.fresh.setReg off 0 else s.fresh.ignored off Why.range) := by
  rw [exec_registerWrite_word s off v h ha, s.fresh.writeReg_byAccess off v r hrow (by simp [hacc]) hm hown hlo hhi,
    s.fresh.writeByAccess_cnt r off v hacc hok]

/-- Settles O10: a bump is the saturating sum, and the write of a counter is judged by its value alone. -/
theorem countersSaturate : Obligations.CountersSaturate := by
  unfold Obligations.CountersSaturate
  refine ⟨fun s o n h => ?_, fun s o n h => ?_, fun s o n h => ?_, fun s off v r h ha hm hrow hacc hown hlo hhi hok => ?_⟩
  · rw [State.reg_bumpBy, if_pos rfl]
    exact satAdd_eq_allOnes _ _ (by rw [h, BitVec.toNat_allOnes]; exact Nat.le_add_right _ _)
  · rw [State.reg_bumpBy, if_pos rfl, toNat_satAdd]
    omega
  · rw [State.reg_bumpBy, if_pos rfl]
    exact satAdd_eq_allOnes _ _ (by omega)
  · have hrun := exec_registerWrite_cnt s off v r h ha hm hrow hacc (Option.isNone_iff_eq_none.mp hown) hlo hhi hok
    refine ⟨fun hv => ⟨_, hrun, ?_⟩, fun hv => ⟨_, hrun, ?_⟩⟩
    · rw [if_pos hv]
      have hkept : RegsBut s (s.fresh.setReg off 0) [off] := fun p hp => by
        rw [State.reg_setReg, if_neg (List.ne_of_not_mem_cons hp), State.reg_fresh]
      exact ⟨by rw [State.reg_setReg, if_pos rfl], hkept⟩
    · rw [if_neg hv]
      obtain ⟨hlast, hshown, ⟨hhif, hmgmt⟩, hregs, -⟩ := s.fresh.ignored_register off Why.range h ha
      exact ⟨hlast, hshown, hhif, hmgmt, hregs⟩

end Sys2Proof.Machine

/-! PROOFS. The forerunner's event FIFO (R134): the latch, the removal and the flush, and what an event does at a FIFO with room and at a full one. -/

namespace Sys2Proof.Machine

/-! ## Operations that it shares with other units -/

theorem State.fromSetup_of_le (s : State) (o : Off) (reason : Nat) (f : State → State) (h : Node.setup ≤ s.mgmt) :
    s.fromSetup o reason f = f s := if_neg (Nat.not_lt.mpr h)

/-- An event raised shows in each bit of its mask. -/
theorem State.rbit_raise_self (s : State) (o : Off) (m i : Nat) (ho : o ≠ Reg.MSIX_PBA 0) (hm : bitAt (BitVec.ofNat 32 m) i = true) :
    (s.raise o m).rbit o i = true := by
  rw [State.rbit, State.reg_raise _ _ _ _ ho, if_pos rfl, bitAt, BitVec.toNat_or, Nat.testBit_or]
  exact Bool.or_eq_true_iff.mpr (.inr hm)

/-! ## Reads and the flush, while effective FMODE is on -/

section Window

variable (s : State) (hf : s.fmodeOn = true)
include hf

/-- A read of W0 latches the head entry, or zeros where there is none, and returns its first word. -/
theorem State.legW0Read_of_fmodeOn :
    s.legW0Read = { s.updOutlet (fun o => { o with legLatch := o.legFifo.headD [0, 0, 0, 0] }) with
      hostRead := (s.outlet.legFifo.headD [0, 0, 0, 0]).getD 0 0 } := by
  simp [State.legW0Read, State.updOutlet, hf]

/-- A read of W3 removes the head entry, and returns the last word that is latched. -/
theorem State.legW3Read_of_fmodeOn :
    s.legW3Read = { s.updOutlet (fun o => { o with legFifo := o.legFifo.drop 1 }) with hostRead := s.outlet.legLatch.getD 3 0 } := by
  simp [State.legW3Read, hf]

theorem State.legFlush_of_fmodeOn : s.legFlush = s.updOutlet (fun o => { o with legFifo := [] }) := if_pos hf

end Window

/-! ## An event at the FIFO -/

section Put

variable (s : State) (v : Event) (hf : s.fmodeOn = true) (hm : s.mgmt ≠ Node.replay) (hp : v.isPoint = true) (hi : v.localIndex < 1024)
include hf hm hp hi

/-- Outside REPLAY an event of one of the first 1024 points is appended while there is room, and else counted as lost. -/
theorem State.legacyPut_of_taken :
    s.legacyPut v = if s.outlet.legFifo.length < 256 then s.updOutlet (fun o => { o with legFifo := o.legFifo ++ [legEntry v] })
      else (s.bump Reg.LEG_EVT_OVF_CNT).raise Reg.LEG_EVT_STAT 1 :=
  if_pos (by simp [hf, hm, hp, hi])

theorem State.legacyPut_of_room (h : s.outlet.legFifo.length < 256) :
    s.legacyPut v = s.updOutlet (fun o => { o with legFifo := o.legFifo ++ [legEntry v] }) := by
  rw [s.legacyPut_of_taken v hf hm hp hi, if_pos h]

theorem State.legacyPut_of_full (h : 256 ≤ s.outlet.legFifo.length) :
    s.legacyPut v = (s.bump Reg.LEG_EVT_OVF_CNT).raise Reg.LEG_EVT_STAT 1 := by
  rw [s.legacyPut_of_taken v hf hm hp hi, if_neg (Nat.not_lt.mpr h)]

end Put

/-- Settles O7: each read and the flush is one write of the FIFO's part, and the event of a full FIFO only counts and shows. -/
theorem legacyEventFifo : Obligations.LegacyEventFifo := by
  unfold Obligations.LegacyEventFifo
  refine ⟨fun s hf => ⟨_, rfl, ?w0⟩, fun s hf => ⟨_, rfl, ?w3⟩, fun s hf hs => ⟨_, rfl, ?flush⟩,
    fun s v hf hm hp hi => ⟨fun hroom => ?room, fun hfull => ?full⟩⟩
  case w0 =>
    rw [s.fresh.legW0Read_of_fmodeOn hf]
    exact ⟨rfl, rfl, fun _ _ => rfl⟩
  case w3 =>
    rw [s.fresh.legW3Read_of_fmodeOn hf]
    exact ⟨rfl, rfl, fun _ _ => rfl⟩
  case flush =>
    rw [s.fresh.fromSetup_of_le _ _ _ hs, s.fresh.legFlush_of_fmodeOn hf]
    exact ⟨rfl, fun _ _ => rfl⟩
  case room => rw [s.legacyPut_of_room v hf hm hp hi hroom, State.updOutlet_outlet]
  case full =>
    rw [s.legacyPut_of_full v hf hm hp hi hfull]
    refine ⟨by rw [State.raise_outlet, State.bump_outlet], by rw [State.raise_hif, State.bump_hif],
      State.rbit_raise_self _ _ _ _ (by decide) (by decide), ?_⟩
    rw [State.reg_raise _ _ _ _ (by decide), if_neg (by decide), State.reg_bump, if_pos rfl]

end Sys2Proof.Machine
/-! PROOFS. What every command keeps (R26, R84, R132, R271, R476) and leaves alone (R5, R21, R34): the lemma of each command's meaning, put together over the commands. -/

namespace Sys2Proof.Machine

/-! ## The invariant -/

/-- Every command keeps the invariant and leaves the queue alone. -/
theorem exec_keeps (s t : State) : ∀ i : Instr, exec i s = .next t → Keeps s t
  | .powerGoodRise env, hrun => execPowerGoodRise_keeps env s t hrun
  | .powerGoodFall f, hrun => execPowerGoodFall_keeps f s t hrun
  | .logicInputChange lvA lvB, hrun => execLogicInputChange_keeps lvA lvB s t hrun
  | .ctrlWatchdog, hrun => execCtrlWatchdog_keeps s t hrun
  | .lockstepMismatch, hrun => execLockstepMismatch_keeps s t hrun
  | .tcmUncorrectable, hrun => execTcmUncorrectable_keeps s t hrun
  | .perstNAssert, hrun => execPerstNAssert_keeps s t hrun
  | .linkDown, hrun => execLinkDown_keeps s t hrun
  | .d3hotEntry, hrun => execD3hotEntry_keeps s t hrun
  | .flr, hrun => execFlr_keeps s t hrun
  | .startRun vecA vecB dt, hrun => execStartRun_keeps vecA vecB dt s t hrun
  | .stopRun, hrun => execStopRun_keeps s t hrun
  | .resetNode, hrun => execResetNode_keeps s t hrun
  | .commission ticks, hrun => execCommission_keeps ticks s t hrun
  | .verifyCfg, hrun => execVerifyCfg_keeps s t hrun
  | .acceptSlot, hrun => execAcceptSlot_keeps s t hrun
  | .ssBypass, hrun => execSsBypass_keeps s t hrun
  | .mgmtFmodeWrite v, hrun => execMgmtFmodeWrite_keeps v s t hrun
  | .mgmtIntRearm v, hrun => execMgmtIntRearm_keeps v s t hrun
  | .mgmtIntEnWrite v, hrun => execMgmtIntEnWrite_keeps v s t hrun
  | .registerWrite off v, hrun => execRegisterWrite_keeps off v s t hrun
  | .badAccess kind, hrun => execBadAccess_keeps kind s t hrun
  | .widePairLoRead off dt, hrun => execWidePairLoRead_keeps off dt s t hrun
  | .tarnWindowWrite off data, hrun => execTarnWindowWrite_keeps off data s t hrun
  | .hifKick v, hrun => execHifKick_keeps v s t hrun
  | .doorbellPoll, hrun => execDoorbellPoll_keeps s t hrun
  | .doorbellCompletion rsp, hrun => execDoorbellCompletion_keeps rsp s t hrun
  | .descriptorArrival ring data, hrun => execDescriptorArrival_keeps ring data s t hrun
  | .pagesEnSet, hrun => execPagesEnSet_keeps s t hrun
  | .pagesEnClear, hrun => execPagesEnClear_keeps s t hrun
  | .ringEnable ring ctl, hrun => execRingEnable_keeps ring ctl s t hrun
  | .ringDisable ring ctl, hrun => execRingDisable_keeps ring ctl s t hrun
  | .statusPageUpdate, hrun => execStatusPageUpdate_keeps s t hrun
  | .ringModerationTimeout ring, hrun => execRingModerationTimeout_keeps ring s t hrun
  | .msixVectorUnmask vec, hrun => execMsixVectorUnmask_keeps vec s t hrun
  | .nop, hrun => execNop_keeps s t hrun
  | .unknownOpcode, hrun => execUnknownOpcode_keeps s t hrun
  | .completionWrite, hrun => execCompletionWrite_keeps s t hrun
  | .pointWrite img, hrun => execPointWrite_keeps img s t hrun
  | .pointRead ph, hrun => execPointRead_keeps ph s t hrun
  | .chandefWrite img, hrun => execChandefWrite_keeps img s t hrun
  | .groupWrite img, hrun => execGroupWrite_keeps img s t hrun
  | .fanoutWrite img, hrun => execFanoutWrite_keeps img s t hrun
  | .lintabWrite img, hrun => execLintabWrite_keeps img s t hrun
  | .canfiltWrite img, hrun => execCanfiltWrite_keeps img s t hrun
  | .cansigWrite img, hrun => execCansigWrite_keeps img s t hrun
  | .ackPoint ph, hrun => execAckPoint_keeps ph s t hrun
  | .shelve ph, hrun => execShelve_keeps ph s t hrun
  | .unshelve ph, hrun => execUnshelve_keeps ph s t hrun
  | .forcePoint ph, hrun => execForcePoint_keeps ph s t hrun
  | .ackGroup ph, hrun => execAckGroup_keeps ph s t hrun
  | .callManual ph, hrun => execCallManual_keeps ph s t hrun
  | .callSilence ph, hrun => execCallSilence_keeps ph s t hrun
  | .deadmanReset ph, hrun => execDeadmanReset_keeps ph s t hrun
  | .canCancel, hrun => execCanCancel_keeps s t hrun
  | .canChannelCtl, hrun => execCanChannelCtl_keeps s t hrun
  | .spawnCtl img, hrun => execSpawnCtl_keeps img s t hrun
  | .spawnTrigger, hrun => execSpawnTrigger_keeps s t hrun
  | .replayStart, hrun => execReplayStart_keeps s t hrun
  | .replayStop, hrun => execReplayStop_keeps s t hrun
  | .updBegin, hrun => execUpdBegin_keeps s t hrun
  | .updStatus writeOk, hrun => execUpdStatus_keeps writeOk s t hrun
  | .updVerify, hrun => execUpdVerify_keeps s t hrun
  | .updActivate, hrun => execUpdActivate_keeps s t hrun
  | .updConfirm, hrun => execUpdConfirm_keeps s t hrun
  | .updAbandon, hrun => execUpdAbandon_keeps s t hrun
  | .quotaSet, hrun => execQuotaSet_keeps s t hrun
  | .elasticSplitApply, hrun => execElasticSplitApply_keeps s t hrun
  | .engineCtl, hrun => execEngineCtl_keeps s t hrun
  | .trendCtl, hrun => execTrendCtl_keeps s t hrun
  | .dioWrite, hrun => execDioWrite_keeps s t hrun
  | .panelFlip img, hrun => execPanelFlip_keeps img s t hrun
  | .timeAdj dt, hrun => execTimeAdj_keeps dt s t hrun
  | .recordAdmission, hrun => execRecordAdmission_keeps s t hrun
  | .evalSample e, hrun => execEvalSample_keeps e s t hrun
  | .evalDiChange e, hrun => execEvalDiChange_keeps e s t hrun
  | .evalCount e, hrun => execEvalCount_keeps e s t hrun
  | .evalCanFrame e, hrun => execEvalCanFrame_keeps e s t hrun
  | .evalTick e, hrun => execEvalTick_keeps e s t hrun
  | .delayExpiry e p, hrun => execDelayExpiry_keeps e p s t hrun
  | .rateEvaluation e p, hrun => execRateEvaluation_keeps e p s t hrun
  | .blockDelayExpiry e p, hrun => execBlockDelayExpiry_keeps e p s t hrun
  | .shelveExpiry e p, hrun => execShelveExpiry_keeps e p s t hrun
  | .groupBlockExpiry e g, hrun => execGroupBlockExpiry_keeps e g s t hrun
  | .floodWindowClose e g, hrun => execFloodWindowClose_keeps e g s t hrun
  | .callTimeout e g, hrun => execCallTimeout_keeps e g s t hrun
  | .callFrameRepeat e g, hrun => execCallFrameRepeat_keeps e g s t hrun
  | .deadmanWarn e g, hrun => execDeadmanWarn_keeps e g s t hrun
  | .deadmanExpiry e g, hrun => execDeadmanExpiry_keeps e g s t hrun
  | .sealPeriodExpiry e, hrun => execSealPeriodExpiry_keeps e s t hrun
  | .healthPeriodExpiry e, hrun => execHealthPeriodExpiry_keeps e s t hrun
  | .configBarrier, hrun => execConfigBarrier_keeps s t hrun
  | .evalSourceGap e, hrun => execEvalSourceGap_keeps e s t hrun
  | .evalSnapshotMark e, hrun => execEvalSnapshotMark_keeps e s t hrun
  | .evalSealRequest e, hrun => execEvalSealRequest_keeps e s t hrun
  | .evalEccFault, hrun => execEvalEccFault_keeps s t hrun
  | .evalResyncStatus e, hrun => execEvalResyncStatus_keeps e s t hrun
  | .evalResyncCopy e, hrun => execEvalResyncCopy_keeps e s t hrun
  | .evalAudit e, hrun => execEvalAudit_keeps e s t hrun
  | .evalDiverge e, hrun => execEvalDiverge_keeps e s t hrun
  | .evalRepair e, hrun => execEvalRepair_keeps e s t hrun
  | .eventCopyArrival e, hrun => execEventCopyArrival_keeps e s t hrun
  | .mergeWaitExpiry, hrun => execMergeWaitExpiry_keeps s t hrun
  | .eventDelivery ring, hrun => execEventDelivery_keeps ring s t hrun
  | .publicationDatagram, hrun => execPublicationDatagram_keeps s t hrun
  | .canPublication, hrun => execCanPublication_keeps s t hrun
  | .trendSample entry dt, hrun => execTrendSample_keeps entry dt s t hrun
  | .legEvtW0Read, hrun => execLegEvtW0Read_keeps s t hrun
  | .legEvtW3Read, hrun => execLegEvtW3Read_keeps s t hrun
  | .legFlush, hrun => execLegFlush_keeps s t hrun
  | .engineFailure e cause, hrun => execEngineFailure_keeps e cause s t hrun
  | .tickStall e, hrun => execTickStall_keeps e s t hrun
  | .holdGrant, hrun => execHoldGrant_keeps s t hrun
  | .engineReturnTest e pass, hrun => execEngineReturnTest_keeps e pass s t hrun
  | .stateCopyComplete verified, hrun => execStateCopyComplete_keeps verified s t hrun
  | .returnHoldoffExpiry e, hrun => execReturnHoldoffExpiry_keeps e s t hrun
  | .takeBack, hrun => execTakeBack_keeps s t hrun
  | .auditOffer, hrun => execAuditOffer_keeps s t hrun
  | .auditCompare, hrun => execAuditCompare_keeps s t hrun
  | .divergeResolution, hrun => execDivergeResolution_keeps s t hrun
  | .aeInject e v, hrun => execAeInject_keeps e v s t hrun
  | .intlkInChange high, hrun => execIntlkInChange_keeps high s t hrun
  | .pairClaim, hrun => execPairClaim_keeps s t hrun
  | .pairRelease, hrun => execPairRelease_keeps s t hrun
  | .pairSenseChange high, hrun => execPairSenseChange_keeps high s t hrun
  | .tickGeneration, hrun => execTickGeneration_keeps s t hrun
  | .snapshotMarkOffer, hrun => execSnapshotMarkOffer_keeps s t hrun
  | .snapshotCopyComplete, hrun => execSnapshotCopyComplete_keeps s t hrun
  | .snapTimeout, hrun => execSnapTimeout_keeps s t hrun
  | .spawnOutBufferWrite addr, hrun => execSpawnOutBufferWrite_keeps s addr t hrun
  | .checkpoint, hrun => execCheckpoint_keeps s t hrun
  | .windowFreeze, hrun => execWindowFreeze_keeps s t hrun
  | .replayBuffer data, hrun => execReplayBuffer_keeps data s t hrun
  | .replayCheckpointCompare, hrun => execReplayCheckpointCompare_keeps s t hrun
  | .replayDone, hrun => execReplayDone_keeps s t hrun
  | .laneSlotStart lane, hrun => execLaneSlotStart_keeps lane s t hrun
  | .laneSlotEnd lane m dt, hrun => execLaneSlotEnd_keeps lane m dt s t hrun
  | .calSlotDue lane, hrun => execCalSlotDue_keeps lane s t hrun
  | .calSlotEnd lane meas, hrun => execCalSlotEnd_keeps lane meas s t hrun
  | .laneDrained lane, hrun => execLaneDrained_keeps lane s t hrun
  | .clampEventStart x, hrun => execClampEventStart_keeps x s t hrun
  | .clampEventEnd x, hrun => execClampEventEnd_keeps x s t hrun
  | .burdenShuntOpen x, hrun => execBurdenShuntOpen_keeps x s t hrun
  | .burdenShuntReclose x, hrun => execBurdenShuntReclose_keeps x s t hrun
  | .biasCurrentLimit n limiting, hrun => execBiasCurrentLimit_keeps n limiting s t hrun
  | .xpCheck v, hrun => execXpCheck_keeps v s t hrun
  | .dioWindowEnd bank pins settled dt, hrun => execDioWindowEnd_keeps bank pins settled dt s t hrun
  | .counterEdge k, hrun => execCounterEdge_keeps k s t hrun
  | .countPeriodExpiry k cycles dt, hrun => execCountPeriodExpiry_keeps k cycles dt s t hrun
  | .newtRefresh newt late, hrun => execNewtRefresh_keeps newt late s t hrun
  | .watchdogExpiry bank, hrun => execWatchdogExpiry_keeps bank s t hrun
  | .newtStall newt, hrun => execNewtStall_keeps newt s t hrun
  | .newtRestart newt, hrun => execNewtRestart_keeps newt s t hrun
  | .faultSet bank cause, hrun => execFaultSet_keeps bank cause s t hrun
  | .faultClear bank, hrun => execFaultClear_keeps bank s t hrun
  | .fieldReset bank, hrun => execFieldReset_keeps bank s t hrun
  | .fieldSideRestart bank, hrun => execFieldSideRestart_keeps bank s t hrun
  | .thermalShutdownRetry ch shorted, hrun => execThermalShutdownRetry_keeps ch shorted s t hrun
  | .canFrameReceived ch f dt, hrun => execCanFrameReceived_keeps ch f dt s t hrun
  | .protocolException ch, hrun => execProtocolException_keeps ch s t hrun
  | .canBusError ch err, hrun => execCanBusError_keeps ch err s t hrun
  | .filterWalk, hrun => execFilterWalk_keeps s t hrun
  | .canTxEntryTaken ch, hrun => execCanTxEntryTaken_keeps ch s t hrun
  | .txAttemptStart ch dt, hrun => execTxAttemptStart_keeps ch dt s t hrun
  | .txAttemptEnd ch r dt, hrun => execTxAttemptEnd_keeps ch r dt s t hrun
  | .integrationComplete ch, hrun => execIntegrationComplete_keeps ch s t hrun
  | .busOffRecoveryComplete ch, hrun => execBusOffRecoveryComplete_keeps ch s t hrun
  | .timeSwitch, hrun => execTimeSwitch_keeps s t hrun
  | .ptpSyncReceived port m dt, hrun => execPtpSyncReceived_keeps port m dt s t hrun
  | .ptpDelayRespReceived port m, hrun => execPtpDelayRespReceived_keeps port m s t hrun
  | .ptpAnnounceReceived port m, hrun => execPtpAnnounceReceived_keeps port m s t hrun
  | .delayReqSend dt, hrun => execDelayReqSend_keeps dt s t hrun
  | .masterLoss, hrun => execMasterLoss_keeps s t hrun
  | .acquireTimeout, hrun => execAcquireTimeout_keeps s t hrun
  | .hostTimeout, hrun => execHostTimeout_keeps s t hrun
  | .ethFrameReceived port fr dt, hrun => execEthFrameReceived_keeps port fr dt s t hrun
  | .ethTxFrame port f, hrun => execEthTxFrame_keeps port f s t hrun
  | .ethTxTimestamp port dt, hrun => execEthTxTimestamp_keeps port dt s t hrun
  | .ethLinkChange port up gig, hrun => execEthLinkChange_keeps port up gig s t hrun
  | .ptpTxtsW0Read port, hrun => execPtpTxtsW0Read_keeps port s t hrun
  | .ptpTxtsTimeHiRead port, hrun => execPtpTxtsTimeHiRead_keeps port s t hrun
  | .tmoPulseStart k dt, hrun => execTmoPulseStart_keeps k dt s t hrun
  | .tmoPulseEnd k dt, hrun => execTmoPulseEnd_keeps k dt s t hrun
  | .rtcSet ticks, hrun => execRtcSet_keeps ticks s t hrun
  | .rtcCommit, hrun => execRtcCommit_keeps s t hrun
  | .swoClear, hrun => execSwoClear_keeps s t hrun
  | .rtcShift v ticks, hrun => execRtcShift_keeps v ticks s t hrun
  | .shiftDone ticks, hrun => execShiftDone_keeps ticks s t hrun
  | .dstForward, hrun => execDstForward_keeps s t hrun
  | .dstBack, hrun => execDstBack_keeps s t hrun
  | .localTimeApply ticks, hrun => execLocalTimeApply_keeps ticks s t hrun
  | .alarmArm v ticks, hrun => execAlarmArm_keeps v ticks s t hrun
  | .alarmDisarm v, hrun => execAlarmDisarm_keeps v s t hrun
  | .rtcAlarmFire ticks, hrun => execRtcAlarmFire_keeps ticks s t hrun
  | .wakeEnable v, hrun => execWakeEnable_keeps v s t hrun
  | .rtcWake ticks, hrun => execRtcWake_keeps ticks s t hrun
  | .rtcFracRead ticks, hrun => execRtcFracRead_keeps ticks s t hrun
  | .rtcSecHiRead ticks, hrun => execRtcSecHiRead_keeps ticks s t hrun
  | .shadowFreezeTimeout who, hrun => execShadowFreezeTimeout_keeps who s t hrun
  | .legRtcSecRead ticks, hrun => execLegRtcSecRead_keeps ticks s t hrun
  | .legRtcYearRead ticks, hrun => execLegRtcYearRead_keeps ticks s t hrun
  | .legRtcSet, hrun => execLegRtcSet_keeps s t hrun
  | .rtcTrickleWrite w, hrun => execRtcTrickleWrite_keeps w s t hrun
  | .cellTypeHigh, hrun => execCellTypeHigh_keeps s t hrun
  | .oscStop, hrun => execOscStop_keeps s t hrun
  | .legPtWrite, hrun => execLegPtWrite_keeps s t hrun
  | .legPtRead, hrun => execLegPtRead_keeps s t hrun
  | .panelFrameBoundary, hrun => execPanelFrameBoundary_keeps s t hrun
  | .panelTempUpdate p, hrun => execPanelTempUpdate_keeps p s t hrun
  | .vppFault, hrun => execVppFault_keeps s t hrun
  | .vppRetry, hrun => execVppRetry_keeps s t hrun
  | .alarmListRedraw ticks, hrun => execAlarmListRedraw_keeps ticks s t hrun
  | .burnInShift, hrun => execBurnInShift_keeps s t hrun
  | .pnlSenseChange high, hrun => execPnlSenseChange_keeps high s t hrun
  | .updPieceReceived data, hrun => execUpdPieceReceived_keeps data s t hrun
  | .pieceStored p readbackOk, hrun => execPieceStored_keeps p readbackOk s t hrun
  | .activationComplete pauseUs, hrun => execActivationComplete_keeps pauseUs s t hrun
  | .activationTimeout, hrun => execActivationTimeout_keeps s t hrun
  | .trialWarn, hrun => execTrialWarn_keeps s t hrun
  | .trialTimeout, hrun => execTrialTimeout_keeps s t hrun
  | .settingsConversionDone, hrun => execSettingsConversionDone_keeps s t hrun
  | .settingsConversionFail, hrun => execSettingsConversionFail_keeps s t hrun
  | .keyProgram, hrun => execKeyProgram_keeps s t hrun
  | .keyProgrammed, hrun => execKeyProgrammed_keeps s t hrun
  | .scrubSlot bank, hrun => execScrubSlot_keeps bank s t hrun
  | .tarnCorrectedError off, hrun => execTarnCorrectedError_keeps off s t hrun
  | .tarnUncorrectable off, hrun => execTarnUncorrectable_keeps off s t hrun
  | .tcmScrub corrected, hrun => execTcmScrub_keeps corrected s t hrun
  | .settingsJournalWrite sectorFail, hrun => execSettingsJournalWrite_keeps sectorFail s t hrun
  | .baseGenerationStart, hrun => execBaseGenerationStart_keeps s t hrun
  | .baseGenerationDurable, hrun => execBaseGenerationDurable_keeps s t hrun
  | .digestRewrite, hrun => execDigestRewrite_keeps s t hrun
  | .telemetry x dt, hrun => execTelemetry_keeps x dt s t hrun
  | .linkUp speed width, hrun => execLinkUp_keeps speed width s t hrun
  | .commandRateAllowance, hrun => execCommandRateAllowance_keeps s t hrun

/-- The invariant does not speak of the queue. -/
theorem State.Inv.withPending {s : State} (h : s.Inv) (cs : List Instr) : ({ s with pending := cs } : State).Inv := h

/-- A step idles, or runs the front command on the queue's rest. -/
theorem step_cases {s t : State} (h : step s = .next t) :
    t = s ∨ ∃ c cs, s.pending = c :: cs ∧ exec c { s with pending := cs } = .next t := by
  unfold step at h
  split at h
  · exact .inl (Host.Outcome.next.inj h).symm
  · next c cs hp => exact .inr ⟨c, cs, hp, h⟩

/-- Settles O56: a step idles or runs a command, and every command keeps the invariant. -/
theorem everyStepKeepsTheInvariant : Obligations.EveryStepKeepsTheInvariant := by
  unfold Obligations.EveryStepKeepsTheInvariant
  intro s t hs h
  obtain rfl | ⟨c, cs, -, he⟩ := step_cases h
  · exact hs
  · exact (exec_keeps _ t c he).inv (hs.withPending cs)

/-! ## The frame -/

/-- The parts of a list. -/
def within (zs : List Zone) (z : Zone) : Bool := decide (z ∈ zs)

theorem within_head (z : Zone) (zs : List Zone) : Named (within (z :: zs)) z := ⟨by simp [within]⟩

theorem within_tail (y z : Zone) (zs : List Zone) (h : Named (within zs) z) : Named (within (y :: zs)) z :=
  ⟨by have := h.out; simp_all [within]⟩

/-- Every command changes no part but those that `Instr.touches` names for it. -/
theorem exec_foot (i : Instr) (s t : State) (hrun : exec i s = .next t) : Foot (within i.touches) s t := by
  have head := within_head
  have tail : ∀ y z zs [Named (within zs) z], Named (within (y :: zs)) z := fun y z zs h => within_tail y z zs h
  cases i with
  | powerGoodRise env => rw [Instr.touches, Zone.ofReset]; exact execPowerGoodRise_foot env s t hrun
  | powerGoodFall f => rw [Instr.touches, Zone.ofReset]; exact execPowerGoodFall_foot f s t hrun
  | logicInputChange lvA lvB => rw [Instr.touches]; exact execLogicInputChange_foot lvA lvB s t hrun
  | ctrlWatchdog => rw [Instr.touches, Zone.ofReset]; exact execCtrlWatchdog_foot s t hrun
  | lockstepMismatch => rw [Instr.touches]; exact execLockstepMismatch_foot s t hrun
  | tcmUncorrectable => rw [Instr.touches]; exact execTcmUncorrectable_foot s t hrun
  | perstNAssert => rw [Instr.touches]; exact execPerstNAssert_foot s t hrun
  | linkDown => rw [Instr.touches]; exact execLinkDown_foot s t hrun
  | d3hotEntry => rw [Instr.touches]; exact execD3hotEntry_foot s t hrun
  | flr => rw [Instr.touches]; exact execFlr_foot s t hrun
  | startRun vecA vecB dt => rw [Instr.touches]; exact execStartRun_foot vecA vecB dt s t hrun
  | stopRun => rw [Instr.touches]; exact execStopRun_foot s t hrun
  | resetNode => rw [Instr.touches, Zone.ofReset]; exact execResetNode_foot s t hrun
  | commission ticks => rw [Instr.touches]; exact execCommission_foot ticks s t hrun
  | verifyCfg => rw [Instr.touches]; exact execVerifyCfg_foot s t hrun
  | acceptSlot => rw [Instr.touches]; exact execAcceptSlot_foot s t hrun
  | ssBypass => rw [Instr.touches]; exact execSsBypass_foot s t hrun
  | mgmtFmodeWrite v => rw [Instr.touches]; exact execMgmtFmodeWrite_foot v s t hrun
  | mgmtIntRearm v => rw [Instr.touches]; exact execMgmtIntRearm_foot v s t hrun
  | mgmtIntEnWrite v => rw [Instr.touches]; exact execMgmtIntEnWrite_foot v s t hrun
  | registerWrite off v => rw [Instr.touches]; exact execRegisterWrite_foot off v s t hrun
  | badAccess kind => rw [Instr.touches]; exact execBadAccess_foot kind s t hrun
  | widePairLoRead off dt => rw [Instr.touches]; exact execWidePairLoRead_foot off dt s t hrun
  | tarnWindowWrite off data => rw [Instr.touches]; exact execTarnWindowWrite_foot off data s t hrun
  | hifKick v => rw [Instr.touches]; exact execHifKick_foot v s t hrun
  | doorbellPoll => rw [Instr.touches]; exact execDoorbellPoll_foot s t hrun
  | doorbellCompletion rsp => rw [Instr.touches]; exact execDoorbellCompletion_foot rsp s t hrun
  | descriptorArrival ring data => rw [Instr.touches]; exact execDescriptorArrival_foot ring data s t hrun
  | pagesEnSet => rw [Instr.touches]; exact execPagesEnSet_foot s t hrun
  | pagesEnClear => rw [Instr.touches]; exact execPagesEnClear_foot s t hrun
  | ringEnable ring ctl => rw [Instr.touches]; exact execRingEnable_foot ring ctl s t hrun
  | ringDisable ring ctl => rw [Instr.touches]; exact execRingDisable_foot ring ctl s t hrun
  | statusPageUpdate => rw [Instr.touches]; exact execStatusPageUpdate_foot s t hrun
  | ringModerationTimeout ring => rw [Instr.touches]; exact execRingModerationTimeout_foot ring s t hrun
  | msixVectorUnmask vec => rw [Instr.touches]; exact execMsixVectorUnmask_foot vec s t hrun
  | nop => rw [Instr.touches]; exact execNop_foot s t hrun
  | unknownOpcode => rw [Instr.touches]; exact execUnknownOpcode_foot s t hrun
  | completionWrite => rw [Instr.touches]; exact execCompletionWrite_foot s t hrun
  | pointWrite img => rw [Instr.touches]; exact execPointWrite_foot img s t hrun
  | pointRead ph => rw [Instr.touches]; exact execPointRead_foot ph s t hrun
  | chandefWrite img => rw [Instr.touches]; exact execChandefWrite_foot img s t hrun
  | groupWrite img => rw [Instr.touches]; exact execGroupWrite_foot img s t hrun
  | fanoutWrite img => rw [Instr.touches]; exact execFanoutWrite_foot img s t hrun
  | lintabWrite img => rw [Instr.touches]; exact execLintabWrite_foot img s t hrun
  | canfiltWrite img => rw [Instr.touches]; exact execCanfiltWrite_foot img s t hrun
  | cansigWrite img => rw [Instr.touches]; exact execCansigWrite_foot img s t hrun
  | ackPoint ph => rw [Instr.touches]; exact execAckPoint_foot ph s t hrun
  | shelve ph => rw [Instr.touches]; exact execShelve_foot ph s t hrun
  | unshelve ph => rw [Instr.touches]; exact execUnshelve_foot ph s t hrun
  | forcePoint ph => rw [Instr.touches]; exact execForcePoint_foot ph s t hrun
  | ackGroup ph => rw [Instr.touches]; exact execAckGroup_foot ph s t hrun
  | callManual ph => rw [Instr.touches]; exact execCallManual_foot ph s t hrun
  | callSilence ph => rw [Instr.touches]; exact execCallSilence_foot ph s t hrun
  | deadmanReset ph => rw [Instr.touches]; exact execDeadmanReset_foot ph s t hrun
  | canCancel => rw [Instr.touches]; exact execCanCancel_foot s t hrun
  | canChannelCtl => rw [Instr.touches]; exact execCanChannelCtl_foot s t hrun
  | spawnCtl img => rw [Instr.touches]; exact execSpawnCtl_foot img s t hrun
  | spawnTrigger => rw [Instr.touches]; exact execSpawnTrigger_foot s t hrun
  | replayStart => rw [Instr.touches]; exact execReplayStart_foot s t hrun
  | replayStop => rw [Instr.touches]; exact execReplayStop_foot s t hrun
  | updBegin => rw [Instr.touches]; exact execUpdBegin_foot s t hrun
  | updStatus writeOk => rw [Instr.touches]; exact execUpdStatus_foot writeOk s t hrun
  | updVerify => rw [Instr.touches]; exact execUpdVerify_foot s t hrun
  | updActivate => rw [Instr.touches]; exact execUpdActivate_foot s t hrun
  | updConfirm => rw [Instr.touches]; exact execUpdConfirm_foot s t hrun
  | updAbandon => rw [Instr.touches, Zone.ofReset]; exact execUpdAbandon_foot s t hrun
  | quotaSet => rw [Instr.touches]; exact execQuotaSet_foot s t hrun
  | elasticSplitApply => rw [Instr.touches]; exact execElasticSplitApply_foot s t hrun
  | engineCtl => rw [Instr.touches]; exact execEngineCtl_foot s t hrun
  | trendCtl => rw [Instr.touches]; exact execTrendCtl_foot s t hrun
  | dioWrite => rw [Instr.touches]; exact execDioWrite_foot s t hrun
  | panelFlip img => rw [Instr.touches]; exact execPanelFlip_foot img s t hrun
  | timeAdj dt => rw [Instr.touches]; exact execTimeAdj_foot dt s t hrun
  | recordAdmission => rw [Instr.touches]; exact execRecordAdmission_foot s t hrun
  | evalSample e => rw [Instr.touches]; exact execEvalSample_foot e s t hrun
  | evalDiChange e => rw [Instr.touches]; exact execEvalDiChange_foot e s t hrun
  | evalCount e => rw [Instr.touches]; exact execEvalCount_foot e s t hrun
  | evalCanFrame e => rw [Instr.touches]; exact execEvalCanFrame_foot e s t hrun
  | evalTick e => rw [Instr.touches]; exact execEvalTick_foot e s t hrun
  | delayExpiry e p => rw [Instr.touches]; exact execDelayExpiry_foot e p s t hrun
  | rateEvaluation e p => rw [Instr.touches]; exact execRateEvaluation_foot e p s t hrun
  | blockDelayExpiry e p => rw [Instr.touches]; exact execBlockDelayExpiry_foot e p s t hrun
  | shelveExpiry e p => rw [Instr.touches]; exact execShelveExpiry_foot e p s t hrun
  | groupBlockExpiry e g => rw [Instr.touches]; exact execGroupBlockExpiry_foot e g s t hrun
  | floodWindowClose e g => rw [Instr.touches]; exact execFloodWindowClose_foot e g s t hrun
  | callTimeout e g => rw [Instr.touches]; exact execCallTimeout_foot e g s t hrun
  | callFrameRepeat e g => rw [Instr.touches]; exact execCallFrameRepeat_foot e g s t hrun
  | deadmanWarn e g => rw [Instr.touches]; exact execDeadmanWarn_foot e g s t hrun
  | deadmanExpiry e g => rw [Instr.touches]; exact execDeadmanExpiry_foot e g s t hrun
  | sealPeriodExpiry e => rw [Instr.touches]; exact execSealPeriodExpiry_foot e s t hrun
  | healthPeriodExpiry e => rw [Instr.touches]; exact execHealthPeriodExpiry_foot e s t hrun
  | configBarrier => rw [Instr.touches]; exact execConfigBarrier_foot s t hrun
  | evalSourceGap e => rw [Instr.touches]; exact execEvalSourceGap_foot e s t hrun
  | evalSnapshotMark e => rw [Instr.touches]; exact execEvalSnapshotMark_foot e s t hrun
  | evalSealRequest e => rw [Instr.touches]; exact execEvalSealRequest_foot e s t hrun
  | evalEccFault => rw [Instr.touches]; exact execEvalEccFault_foot s t hrun
  | evalResyncStatus e => rw [Instr.touches]; exact execEvalResyncStatus_foot e s t hrun
  | evalResyncCopy e => rw [Instr.touches]; exact execEvalResyncCopy_foot e s t hrun
  | evalAudit e => rw [Instr.touches]; exact execEvalAudit_foot e s t hrun
  | evalDiverge e => rw [Instr.touches]; exact execEvalDiverge_foot e s t hrun
  | evalRepair e => rw [Instr.touches]; exact execEvalRepair_foot e s t hrun
  | eventCopyArrival e => rw [Instr.touches]; exact execEventCopyArrival_foot e s t hrun
  | mergeWaitExpiry => rw [Instr.touches]; exact execMergeWaitExpiry_foot s t hrun
  | eventDelivery ring => rw [Instr.touches]; exact execEventDelivery_foot ring s t hrun
  | publicationDatagram => rw [Instr.touches]; exact execPublicationDatagram_foot s t hrun
  | canPublication => rw [Instr.touches]; exact execCanPublication_foot s t hrun
  | trendSample entry dt => rw [Instr.touches]; exact execTrendSample_foot entry dt s t hrun
  | legEvtW0Read => rw [Instr.touches]; exact execLegEvtW0Read_foot s t hrun
  | legEvtW3Read => rw [Instr.touches]; exact execLegEvtW3Read_foot s t hrun
  | legFlush => rw [Instr.touches]; exact execLegFlush_foot s t hrun
  | engineFailure e cause => rw [Instr.touches]; exact execEngineFailure_foot e cause s t hrun
  | tickStall e => rw [Instr.touches]; exact execTickStall_foot e s t hrun
  | holdGrant => rw [Instr.touches]; exact execHoldGrant_foot s t hrun
  | engineReturnTest e pass => rw [Instr.touches]; exact execEngineReturnTest_foot e pass s t hrun
  | stateCopyComplete verified => rw [Instr.touches]; exact execStateCopyComplete_foot verified s t hrun
  | returnHoldoffExpiry e => rw [Instr.touches]; exact execReturnHoldoffExpiry_foot e s t hrun
  | takeBack => rw [Instr.touches]; exact execTakeBack_foot s t hrun
  | auditOffer => rw [Instr.touches]; exact execAuditOffer_foot s t hrun
  | auditCompare => rw [Instr.touches]; exact execAuditCompare_foot s t hrun
  | divergeResolution => rw [Instr.touches]; exact execDivergeResolution_foot s t hrun
  | aeInject e v => rw [Instr.touches]; exact execAeInject_foot e v s t hrun
  | intlkInChange high => rw [Instr.touches]; exact execIntlkInChange_foot high s t hrun
  | pairClaim => rw [Instr.touches]; exact execPairClaim_foot s t hrun
  | pairRelease => rw [Instr.touches]; exact execPairRelease_foot s t hrun
  | pairSenseChange high => rw [Instr.touches]; exact execPairSenseChange_foot high s t hrun
  | tickGeneration => rw [Instr.touches]; exact execTickGeneration_foot s t hrun
  | snapshotMarkOffer => rw [Instr.touches]; exact execSnapshotMarkOffer_foot s t hrun
  | snapshotCopyComplete => rw [Instr.touches]; exact execSnapshotCopyComplete_foot s t hrun
  | snapTimeout => rw [Instr.touches]; exact execSnapTimeout_foot s t hrun
  | spawnOutBufferWrite addr => rw [Instr.touches]; exact execSpawnOutBufferWrite_foot s addr t hrun
  | checkpoint => rw [Instr.touches]; exact execCheckpoint_foot s t hrun
  | windowFreeze => rw [Instr.touches]; exact execWindowFreeze_foot s t hrun
  | replayBuffer data => rw [Instr.touches]; exact execReplayBuffer_foot data s t hrun
  | replayCheckpointCompare => rw [Instr.touches]; exact execReplayCheckpointCompare_foot s t hrun
  | replayDone => rw [Instr.touches]; exact execReplayDone_foot s t hrun
  | laneSlotStart lane => rw [Instr.touches]; exact execLaneSlotStart_foot lane s t hrun
  | laneSlotEnd lane m dt => rw [Instr.touches]; exact execLaneSlotEnd_foot lane m dt s t hrun
  | calSlotDue lane => rw [Instr.touches]; exact execCalSlotDue_foot lane s t hrun
  | calSlotEnd lane meas => rw [Instr.touches]; exact execCalSlotEnd_foot lane meas s t hrun
  | laneDrained lane => rw [Instr.touches]; exact execLaneDrained_foot lane s t hrun
  | clampEventStart x => rw [Instr.touches]; exact execClampEventStart_foot x s t hrun
  | clampEventEnd x => rw [Instr.touches]; exact execClampEventEnd_foot x s t hrun
  | burdenShuntOpen x => rw [Instr.touches]; exact execBurdenShuntOpen_foot x s t hrun
  | burdenShuntReclose x => rw [Instr.touches]; exact execBurdenShuntReclose_foot x s t hrun
  | biasCurrentLimit n limiting => rw [Instr.touches]; exact execBiasCurrentLimit_foot n limiting s t hrun
  | xpCheck v => rw [Instr.touches]; exact execXpCheck_foot v s t hrun
  | dioWindowEnd bank pins settled dt => rw [Instr.touches]; exact execDioWindowEnd_foot bank pins settled dt s t hrun
  | counterEdge k => rw [Instr.touches]; exact execCounterEdge_foot k s t hrun
  | countPeriodExpiry k cycles dt => rw [Instr.touches]; exact execCountPeriodExpiry_foot k cycles dt s t hrun
  | newtRefresh newt late => rw [Instr.touches]; exact execNewtRefresh_foot newt late s t hrun
  | watchdogExpiry bank => rw [Instr.touches]; exact execWatchdogExpiry_foot bank s t hrun
  | newtStall newt => rw [Instr.touches]; exact execNewtStall_foot newt s t hrun
  | newtRestart newt => rw [Instr.touches]; exact execNewtRestart_foot newt s t hrun
  | faultSet bank cause => rw [Instr.touches]; exact execFaultSet_foot bank cause s t hrun
  | faultClear bank => rw [Instr.touches]; exact execFaultClear_foot bank s t hrun
  | fieldReset bank => rw [Instr.touches]; exact execFieldReset_foot bank s t hrun
  | fieldSideRestart bank => rw [Instr.touches]; exact execFieldSideRestart_foot bank s t hrun
  | thermalShutdownRetry ch shorted => rw [Instr.touches]; exact execThermalShutdownRetry_foot ch shorted s t hrun
  | canFrameReceived ch f dt => rw [Instr.touches]; exact execCanFrameReceived_foot ch f dt s t hrun
  | protocolException ch => rw [Instr.touches]; exact execProtocolException_foot ch s t hrun
  | canBusError ch err => rw [Instr.touches]; exact execCanBusError_foot ch err s t hrun
  | filterWalk => rw [Instr.touches]; exact execFilterWalk_foot s t hrun
  | canTxEntryTaken ch => rw [Instr.touches]; exact execCanTxEntryTaken_foot ch s t hrun
  | txAttemptStart ch dt => rw [Instr.touches]; exact execTxAttemptStart_foot ch dt s t hrun
  | txAttemptEnd ch r dt => rw [Instr.touches]; exact execTxAttemptEnd_foot ch r dt s t hrun
  | integrationComplete ch => rw [Instr.touches]; exact execIntegrationComplete_foot ch s t hrun
  | busOffRecoveryComplete ch => rw [Instr.touches]; exact execBusOffRecoveryComplete_foot ch s t hrun
  | timeSwitch => rw [Instr.touches]; exact execTimeSwitch_foot s t hrun
  | ptpSyncReceived port m dt => rw [Instr.touches]; exact execPtpSyncReceived_foot port m dt s t hrun
  | ptpDelayRespReceived port m => rw [Instr.touches]; exact execPtpDelayRespReceived_foot port m s t hrun
  | ptpAnnounceReceived port m => rw [Instr.touches]; exact execPtpAnnounceReceived_foot port m s t hrun
  | delayReqSend dt => rw [Instr.touches]; exact execDelayReqSend_foot dt s t hrun
  | masterLoss => rw [Instr.touches]; exact execMasterLoss_foot s t hrun
  | acquireTimeout => rw [Instr.touches]; exact execAcquireTimeout_foot s t hrun
  | hostTimeout => rw [Instr.touches]; exact execHostTimeout_foot s t hrun
  | ethFrameReceived port fr dt => rw [Instr.touches]; exact execEthFrameReceived_foot port fr dt s t hrun
  | ethTxFrame port f => rw [Instr.touches]; exact execEthTxFrame_foot port f s t hrun
  | ethTxTimestamp port dt => rw [Instr.touches]; exact execEthTxTimestamp_foot port dt s t hrun
  | ethLinkChange port up gig => rw [Instr.touches]; exact execEthLinkChange_foot port up gig s t hrun
  | ptpTxtsW0Read port => rw [Instr.touches]; exact execPtpTxtsW0Read_foot port s t hrun
  | ptpTxtsTimeHiRead port => rw [Instr.touches]; exact execPtpTxtsTimeHiRead_foot port s t hrun
  | tmoPulseStart k dt => rw [Instr.touches]; exact execTmoPulseStart_foot k dt s t hrun
  | tmoPulseEnd k dt => rw [Instr.touches]; exact execTmoPulseEnd_foot k dt s t hrun
  | rtcSet ticks => rw [Instr.touches]; exact execRtcSet_foot ticks s t hrun
  | rtcCommit => rw [Instr.touches]; exact execRtcCommit_foot s t hrun
  | swoClear => rw [Instr.touches]; exact execSwoClear_foot s t hrun
  | rtcShift v ticks => rw [Instr.touches]; exact execRtcShift_foot v ticks s t hrun
  | shiftDone ticks => rw [Instr.touches]; exact execShiftDone_foot ticks s t hrun
  | dstForward => rw [Instr.touches]; exact execDstForward_foot s t hrun
  | dstBack => rw [Instr.touches]; exact execDstBack_foot s t hrun
  | localTimeApply ticks => rw [Instr.touches]; exact execLocalTimeApply_foot ticks s t hrun
  | alarmArm v ticks => rw [Instr.touches]; exact execAlarmArm_foot v ticks s t hrun
  | alarmDisarm v => rw [Instr.touches]; exact execAlarmDisarm_foot v s t hrun
  | rtcAlarmFire ticks => rw [Instr.touches]; exact execRtcAlarmFire_foot ticks s t hrun
  | wakeEnable v => rw [Instr.touches]; exact execWakeEnable_foot v s t hrun
  | rtcWake ticks => rw [Instr.touches]; exact execRtcWake_foot ticks s t hrun
  | rtcFracRead ticks => rw [Instr.touches]; exact execRtcFracRead_foot ticks s t hrun
  | rtcSecHiRead ticks => rw [Instr.touches]; exact execRtcSecHiRead_foot ticks s t hrun
  | shadowFreezeTimeout who => rw [Instr.touches]; exact execShadowFreezeTimeout_foot who s t hrun
  | legRtcSecRead ticks => rw [Instr.touches]; exact execLegRtcSecRead_foot ticks s t hrun
  | legRtcYearRead ticks => rw [Instr.touches]; exact execLegRtcYearRead_foot ticks s t hrun
  | legRtcSet => rw [Instr.touches]; exact execLegRtcSet_foot s t hrun
  | rtcTrickleWrite w => rw [Instr.touches]; exact execRtcTrickleWrite_foot w s t hrun
  | cellTypeHigh => rw [Instr.touches]; exact execCellTypeHigh_foot s t hrun
  | oscStop => rw [Instr.touches]; exact execOscStop_foot s t hrun
  | legPtWrite => rw [Instr.touches]; exact execLegPtWrite_foot s t hrun
  | legPtRead => rw [Instr.touches]; exact execLegPtRead_foot s t hrun
  | panelFrameBoundary => rw [Instr.touches]; exact execPanelFrameBoundary_foot s t hrun
  | panelTempUpdate p => rw [Instr.touches]; exact execPanelTempUpdate_foot p s t hrun
  | vppFault => rw [Instr.touches]; exact execVppFault_foot s t hrun
  | vppRetry => rw [Instr.touches]; exact execVppRetry_foot s t hrun
  | alarmListRedraw ticks => rw [Instr.touches]; exact execAlarmListRedraw_foot ticks s t hrun
  | burnInShift => rw [Instr.touches]; exact execBurnInShift_foot s t hrun
  | pnlSenseChange high => rw [Instr.touches]; exact execPnlSenseChange_foot high s t hrun
  | updPieceReceived data => rw [Instr.touches]; exact execUpdPieceReceived_foot data s t hrun
  | pieceStored p readbackOk => rw [Instr.touches]; exact execPieceStored_foot p readbackOk s t hrun
  | activationComplete pauseUs => rw [Instr.touches]; exact execActivationComplete_foot pauseUs s t hrun
  | activationTimeout => rw [Instr.touches, Zone.ofReset]; exact execActivationTimeout_foot s t hrun
  | trialWarn => rw [Instr.touches]; exact execTrialWarn_foot s t hrun
  | trialTimeout => rw [Instr.touches, Zone.ofReset]; exact execTrialTimeout_foot s t hrun
  | settingsConversionDone => rw [Instr.touches]; exact execSettingsConversionDone_foot s t hrun
  | settingsConversionFail => rw [Instr.touches, Zone.ofReset]; exact execSettingsConversionFail_foot s t hrun
  | keyProgram => rw [Instr.touches]; exact execKeyProgram_foot s t hrun
  | keyProgrammed => rw [Instr.touches]; exact execKeyProgrammed_foot s t hrun
  | scrubSlot bank => rw [Instr.touches]; exact execScrubSlot_foot bank s t hrun
  | tarnCorrectedError off => rw [Instr.touches]; exact execTarnCorrectedError_foot off s t hrun
  | tarnUncorrectable off => rw [Instr.touches]; exact execTarnUncorrectable_foot off s t hrun
  | tcmScrub corrected => rw [Instr.touches]; exact execTcmScrub_foot corrected s t hrun
  | settingsJournalWrite sectorFail => rw [Instr.touches]; exact execSettingsJournalWrite_foot sectorFail s t hrun
  | baseGenerationStart => rw [Instr.touches]; exact execBaseGenerationStart_foot s t hrun
  | baseGenerationDurable => rw [Instr.touches]; exact execBaseGenerationDurable_foot s t hrun
  | digestRewrite => rw [Instr.touches]; exact execDigestRewrite_foot s t hrun
  | telemetry x dt => rw [Instr.touches]; exact execTelemetry_foot x dt s t hrun
  | linkUp speed width => rw [Instr.touches]; exact execLinkUp_foot speed width s t hrun
  | commandRateAllowance => rw [Instr.touches]; exact execCommandRateAllowance_foot s t hrun

/-- Settles O57: each command's own frame, and the queue, which none of them touches. -/
theorem everyCommandHasItsFrame : Obligations.EveryCommandHasItsFrame := by
  unfold Obligations.EveryCommandHasItsFrame
  intro i s t e
  exact ⟨fun z hz => (exec_foot i s t e).same z (decide_eq_false hz), (exec_keeps s t i e).pending⟩

end Sys2Proof.Machine

/-! PROOFS. The step and the outcomes of commands (R3, R17, R103, R509), and what reset leaves (R73, R74). -/

namespace Sys2Proof.Machine

/-- Every meaning asks for exactly the units that `Instr.wf` names. -/
theorem exec_eq_need (i : Instr) (s : State) : ∃ t, exec i s = need i.wf t := by
  cases i <;> exact ⟨_, rfl⟩

/-- Settles O54: a meaning is a next state behind the check of its operands. -/
theorem wellFormedCommandsEnd : Obligations.WellFormedCommandsEnd := by
  unfold Obligations.WellFormedCommandsEnd
  intro i s
  obtain ⟨t, ht⟩ := exec_eq_need i s
  refine ⟨fun h => ⟨t, ?_⟩, fun h => ?_⟩
  · rw [ht, h]; rfl
  · rw [ht, h]; rfl

/-- Settles O53: by the definition of `step` on the two forms of the queue. -/
theorem stepRunsTheFrontCommand : Obligations.StepRunsTheFrontCommand := by
  unfold Obligations.StepRunsTheFrontCommand
  refine ⟨fun s c cs h => ?_, fun s h => ?_⟩
  · rw [step, h]
  · rw [step, h]

/-- The invariant's bounds hold of empty queues and an empty Tarn, and of the settings as shipped. -/
theorem State.inv_reset : State.reset.Inv where
  tarn := rfl
  regs := rfl
  credits _ c _ := Nat.zero_le c
  rot := by decide
  legFifo := Nat.zero_le _
  bufs := Nat.zero_le _
  behav := .inr rfl
  gens := by rintro g (h | h | h) <;> cases h

/-- Settles O55: the reset state is written out, and a register file that lists nothing reads reset values. -/
theorem resetState : Obligations.ResetState := by
  unfold Obligations.ResetState
  refine ⟨State.inv_reset, rfl, rfl, fun _ => rfl, ?_⟩
  repeat' constructor

end Sys2Proof.Machine

/-! PROOFS. The moves of the node state (R36, R37, R73): what a transition, a halt and a reset leave in MGMT_STATE, and every operation that moves the node. -/

namespace Sys2Proof.Machine

/-! ## Folds and the register file -/

/-- What every step of a fold leaves alone, the fold does. -/
theorem foldl_same {α β σ : Type} (f : σ → β) (g : σ → α → σ) (h : ∀ s x, f (g s x) = f s) (l : List α) (s : σ) :
    f (l.foldl g s) = f s := by
  induction l generalizing s with
  | nil => rfl
  | cons x l ih => exact (ih _).trans (h s x)

/-- The register file without the offsets that `p` refuses. -/
theorem Sparse.find_filter {α : Type} (p : Nat → Bool) (l : Sparse α) (i : Nat) :
    Sparse.find (l.filter (fun c => p c.1)) i = if p i then Sparse.find l i else none := by
  induction l with
  | nil => simp [Sparse.find]
  | cons c l ih =>
    obtain ⟨k, v⟩ := c
    by_cases hk : p k = true <;> by_cases hi : i = k <;> simp_all [Sparse.find]

@[simp] theorem State.tmoLow_reg (s : State) (o : Off) : s.tmoLow.reg o = s.reg o :=
  foldl_same (fun s => s.reg o) (fun s p => s.emitOut (.pin p false)) (fun _ _ => rfl) _ s

/-- After a reset the backup domain's registers read what they did, MGMT_RESET_CAUSE its cause, and every other register its reset value (R74). -/
theorem State.reg_restart (s : State) (cause : Nat) (o : Off) :
    (s.restart cause).reg o = if o = Reg.MGMT_RESET_CAUSE then BitVec.ofNat 32 cause
      else if isBackup o then s.reg o else regReset s.behavBoot o := by
  unfold State.restart
  dsimp only
  rw [State.reg_setReg, State.tmoLow_reg]
  have hfile : ∀ t : State, t.regs = s.regs.filter (fun c => isBackup c.1) → t.behavBoot = s.behavBoot →
      t.reg o = if isBackup o then s.reg o else regReset s.behavBoot o := by
    intro t hregs hb
    unfold State.reg
    rw [hregs, hb, Sparse.find_filter]
    by_cases ho : isBackup o = true
    · rw [if_pos ho, if_pos ho]
    · rw [if_neg ho, if_neg ho]
  refine ite_congr rfl (fun _ => rfl) fun _ => hfile _ ?_ ?_
  all_goals split <;> split <;> rfl

theorem State.mgmt_restart (s : State) (cause : Nat) : (s.restart cause).mgmt = Node.reset := by
  rw [State.mgmt, State.rfld, State.reg_restart, if_neg (by decide), if_neg (by decide)]
  rfl

/-! ## Transitions -/

/-- A transition leads to its node state (R517). -/
theorem State.mgmt_setMgmt (s : State) (st : Nat) (h : st < 8) : (s.setMgmt st).mgmt = st := by
  unfold State.setMgmt
  split
  · assumption
  · rw [State.mgmt, State.rfld, State.reg_raise _ _ _ _ (by decide), if_neg (by decide), State.reg_setRegFld, if_pos rfl,
      fld_setFld _ _ _ _ (by decide)]
    exact Nat.mod_eq_of_lt h

/-- What the laws of the node state say of a later state. -/
theorem Mode.cases {r t : State} (h : Mode r t) :
    t.mgmt = r.mgmt ∨ r.mgmt ∈ [Node.setup, Node.run, Node.replay] ∧ t.mgmt = Node.faultHalt := by
  rw [State.mgmt_eq, State.mgmt_eq]
  exact h.out

/-- A state that no fault can halt stays. -/
theorem Mode.mgmt_eq {r t : State} (h : Mode r t) (hr : r.mgmt ∉ [Node.setup, Node.run, Node.replay]) : t.mgmt = r.mgmt :=
  h.cases.resolve_right fun ⟨hm, _⟩ => hr hm

/-- From a given node state an operation that does not move it leads there, or to FAULT_HALT. -/
theorem Mode.mgmt_or {r t : State} {st : Nat} (h : Mode r t) (hr : r.mgmt = st) : t.mgmt = st ∨ t.mgmt = Node.faultHalt :=
  h.cases.imp (·.trans hr) And.right

theorem State.mgmt_haltNode (s : State) (cause engCause : Nat) : (s.haltNode cause engCause).mgmt = Node.faultHalt := by
  unfold State.haltNode
  split
  · assumption
  · dsimp only
    generalize hu : State.setMgmt _ Node.faultHalt = u
    have hm : u.mgmt = Node.faultHalt := hu ▸ State.mgmt_setMgmt _ _ (by decide)
    exact ((canHalt_mode _ (raise_mode u _ _ (Mode.refl u) (by decide))).mgmt_eq (by rw [hm]; decide)).trans hm

theorem State.mgmt_fallBack (s : State) (reason : Nat) : (s.fallBack reason).mgmt = Node.reset := by
  unfold State.fallBack
  exact State.mgmt_restart _ _

theorem State.mgmt_enterSetup (s : State) : s.enterSetup.mgmt = Node.setup := by
  unfold State.enterSetup
  exact State.mgmt_setMgmt _ _ (by decide)

/-! ## Moves -/

theorem Moved.refl (s : State) : Moved s s := .inl rfl

theorem Moved.toReset {s t : State} (h : t.mgmt = Node.reset) : Moved s t := .inr (.inl h)

/-- A move by the node states before and after. -/
theorem Moved.along {s t : State} {a b : Nat} (hs : s.mgmt = a) (ht : t.mgmt = b) (h : (a, b) ∈ moves := by decide) : Moved s t :=
  .inr (.inr (by rw [hs, ht]; exact h))

theorem faultHalt_mem_moves {a : Nat} (h : a ∈ [Node.setup, Node.run, Node.replay]) : (a, Node.faultHalt) ∈ moves := by
  simp only [List.mem_cons, List.not_mem_nil, or_false] at h
  obtain rfl | rfl | rfl := h <;> decide

/-- An operation that does not move the node makes one of its moves at most. -/
theorem Mode.moved {s t : State} (h : Mode s t) : Moved s t := by
  obtain hm | ⟨hs, ht⟩ := h.cases
  · exact .inl hm
  · exact .inr (.inr (ht ▸ faultHalt_mem_moves hs))

/-- Nothing but a reset leads out of FAULT_HALT. -/
theorem Moved.of_faultHalt {u t : State} (h : Moved u t) (hu : u.mgmt = Node.faultHalt) : t.mgmt = Node.faultHalt ∨ t.mgmt = Node.reset := by
  obtain hm | hm | hm := h
  · exact .inl (hm.trans hu)
  · exact .inr hm
  · rw [hu] at hm
    simp [moves] at hm

/-- A move after operations that do not move the node. -/
theorem Mode.then_moved {s u t : State} (h : Mode s u) (k : Moved u t) : Moved s t := by
  obtain hm | ⟨hs, hu⟩ := h.cases
  · unfold Moved at *
    rwa [← hm]
  · obtain ht | ht := k.of_faultHalt hu
    · exact .inr (.inr (ht ▸ faultHalt_mem_moves hs))
    · exact .toReset ht

/-- A move that leads to one of two node states. -/
theorem Moved.along_or {s t : State} {a b c : Nat} (hs : s.mgmt = a) (ht : t.mgmt = b ∨ t.mgmt = c) (hb : (a, b) ∈ moves := by decide)
    (hc : (a, c) ∈ moves := by decide) : Moved s t :=
  ht.elim (fun ht => .along hs ht hb) (fun ht => .along hs ht hc)

/-- A meaning behind a check of its operands. -/
theorem need_next {ok : Bool} {s t : State} (h : need ok s = .next t) : ok = true ∧ t = s := by
  unfold need at h
  split at h
  · next hok => exact ⟨hok, (Host.Outcome.next.inj h).symm⟩
  · cases h

/-! ## Boot (Table 3-2) -/

/-- Steps 8 and 9 end in SETUP, unless a fault halts the node. -/
theorem State.mgmt_finishBoot (s : State) : s.finishBoot.mgmt = Node.setup ∨ s.finishBoot.mgmt = Node.faultHalt := by
  unfold State.finishBoot
  dsimp only
  generalize hu : State.enterSetup _ = u
  have hm : u.mgmt = Node.setup := hu ▸ State.mgmt_enterSetup _
  have hmode : Mode u (u.updHif (fun h => { h with beating := true })).panelOut.tmosLoaded :=
    tmosLoaded_mode _ (panelOut_mode _ (updHif_mode u _ (Mode.refl u)))
  exact (ite_mode _ _ _ (fun _ => forerunner_mode _ hmode) (fun _ => hmode)).mgmt_or hm

/-- A boot image ends in SETUP, in FAULT_HALT, or goes back to the slot before it. -/
theorem State.mgmt_bootImage (s : State) (env : BootEnv) (b : BootChoice) :
    (s.bootImage env b).mgmt ∈ [Node.setup, Node.faultHalt, Node.reset] := by
  unfold State.bootImage
  extract_lets
  have hfinish : ∀ u : State, u.finishBoot.mgmt ∈ [Node.setup, Node.faultHalt, Node.reset] := fun u =>
    (u.mgmt_finishBoot).elim (fun h => by rw [h]; decide) (fun h => by rw [h]; decide)
  split
  · rw [(panelOut_mode _ (Mode.refl _)).mgmt_eq (by rw [State.mgmt_haltNode]; decide), State.mgmt_haltNode]
    decide
  · split
    · split
      · exact hfinish _
      · rw [State.mgmt_fallBack]; decide
    · exact hfinish _

theorem State.boot_moved (s : State) (env : BootEnv) : Moved s (s.boot env) := by
  unfold State.boot
  split
  · exact .refl s
  · next hr =>
    have hs : s.mgmt = Node.reset := by simpa using hr
    extract_lets _ _ u v w bad
    have hw : Mode u w := by
      refine seedTime_mode _ (linkTrain_mode _ _ _ (setReg_mode _ _ _ ?_ (by decide)))
      exact Mode.refl u
    have hu : u.mgmt = Node.boot := State.mgmt_setMgmt _ _ (by decide)
    have hrom := bootRom_mode w (fun k => w.nvm.bootable k && !bad k) hw
    split
    · next x hx =>
      rw [hx] at hrom
      exact .along hs (((setReg_mode _ _ _ hrom (by decide)).mgmt_eq (by rw [hu]; decide)).trans hu)
    · next b x hx =>
      have hb := State.mgmt_bootImage x env b
      simp only [List.mem_cons, List.not_mem_nil, or_false] at hb
      obtain hb | hb | hb := hb
      · exact .along hs hb
      · exact .along hs hb
      · exact .toReset hb

/-! ## START and STOP -/

/-- START leads into RUN, or into FAULT_HALT. -/
theorem State.mgmt_enterRun (s : State) (vecA vecB : Bool) :
    (s.enterRun vecA vecB).mgmt = Node.run ∨ (s.enterRun vecA vecB).mgmt = Node.faultHalt := by
  unfold State.enterRun
  extract_lets _ _ _ _ _ u
  have hm : u.mgmt = Node.run := State.mgmt_setMgmt _ _ (by decide)
  split
  · exact .inr (State.mgmt_haltNode _ _ _)
  · exact (repairsDue_mode _ (firstRecords_mode _ (canStart_mode _ (grantHold_mode u _ (Mode.refl u))))).mgmt_or hm

theorem State.startNow_moved (s : State) (vecA vecB : Bool) : Moved s (s.startNow vecA vecB) := by
  unfold State.startNow
  split
  · exact (cmdIgnored_mode s (.refl s)).moved
  · next hm =>
    have hs : s.mgmt = Node.setup := by simpa using hm
    have hu := ite_mode (s.cfgDirty = true) _ s (fun _ => takeDigest_mode s (.refl s)) (fun _ => .refl s)
    extract_lets u
    split
    · exact .along_or hs (u.mgmt_enterRun vecA vecB)
    · exact (cmdIgnored_mode u hu).moved

/-- STOP leaves RUN for SETUP, or for FAULT_HALT where the drain finds a fault (R94). -/
theorem State.mgmt_stopNow (s : State) (h : s.mgmt = Node.run) : s.stopNow.mgmt = Node.setup ∨ s.stopNow.mgmt = Node.faultHalt := by
  unfold State.stopNow
  rw [if_neg (by simp [h])]
  extract_lets u units i v w x
  have hv : Mode s v := Mode.upd (admitBegun_mode s (.refl s))
  have hw : Mode s w := by
    unfold w
    split
    · exact updSkink_mode _ _ (updEng_mode _ _ _ hv)
    · exact hv
  have hx : Mode s x :=
    refuseTaken_mode _ _ (drainEvents_mode _ (foldl_mode _ (fun _ _ h => drainRound_mode _ h) _ _ hw))
  split
  · next hne => exact (hx.mgmt_or h).imp (fun hrun => absurd hrun (by simpa using hne)) id
  · exact .inl (State.mgmt_enterSetup _)

theorem State.stopNow_moved (s : State) : Moved s s.stopNow := by
  by_cases h : s.mgmt = Node.run
  · exact .along_or h (s.mgmt_stopNow h)
  · unfold State.stopNow
    rw [if_pos (by simpa using h)]
    exact (cmdIgnored_mode s (.refl s)).moved

/-! ## Commands of CTRL -/

/-- A DIR command: none at the head, one that the node state refuses, or one that acts on the state that took it (R119, R121). -/
theorem State.dirCmd_moved (s : State) (op : Nat) (f : Desc → State → State)
    (h : ∀ d, s.accepts op = true → Moved s (f d (s.takeHead 0))) : Moved s (s.dirCmd op f) := by
  unfold State.dirCmd
  split
  · exact .refl s
  · next d _ =>
    dsimp only
    split
    · next ha => exact h d ha
    · exact (done_mode _ _ _ _ (takeHead_mode s 0 (.refl s))).moved

/-- REPLAY_START is taken in SETUP (Table 4-6). -/
theorem State.accepts_replayStart {s : State} (h : s.accepts 0x52 = true) : s.mgmt = Node.setup := by
  simpa [State.accepts, opInfo] using h

theorem State.accepts_replayStop {s : State} (h : s.accepts 0x53 = true) : s.mgmt = Node.replay := by
  simpa [State.accepts, opInfo] using h

theorem State.accepts_updActivate {s : State} (h : s.accepts 0x63 = true) : s.mgmt = Node.run := by
  simpa [State.accepts, opInfo] using h

/-- REPLAY_START leads into REPLAY, or into FAULT_HALT without an engine. -/
theorem State.mgmt_replayStart (s : State) (d : Desc) :
    (s.replayStart d).mgmt = Node.replay ∨ (s.replayStart d).mgmt = Node.faultHalt := by
  unfold State.replayStart
  extract_lets bad u
  split
  · rw [(done_mode _ d Status.state 0 (Mode.refl (u.haltNode 3 u.newestCause))).mgmt_eq (by rw [State.mgmt_haltNode]; decide)]
    exact .inr (State.mgmt_haltNode _ _ _)
  · next e _ =>
    have hm : u.mgmt = Node.replay := State.mgmt_setMgmt _ _ (by decide)
    have hg : Mode u (u.grantHold e) := grantHold_mode u e (.refl u)
    exact (ite_mode _ _ _ (fun _ => defer_mode _ _ _ _ hg) (fun _ => done_mode _ _ _ _ (rpFail_mode _ _ hg))).mgmt_or hm

/-- REPLAY_STOP leads into SETUP. -/
theorem State.mgmt_replayStop (s : State) (d : Desc) :
    (s.replayStop d).mgmt = Node.setup ∨ (s.replayStop d).mgmt = Node.faultHalt := by
  unfold State.replayStop
  extract_lets _ u v w
  have hm : w.enterSetup.mgmt = Node.setup := State.mgmt_enterSetup w
  exact (done_mode _ _ _ _ (setRegFld_mode _ _ _ _ _ (setDirty_mode _ (.refl w.enterSetup)) (by decide))).mgmt_or hm

/-- UPD_ACTIVATE answers a completion, or leads into the activation pause. -/
theorem State.mgmt_updActivate (s : State) (d : Desc) : Mode s (s.updActivate d) ∨ (s.updActivate d).mgmt = Node.activating := by
  have hdone (status : Nat) : Mode s (s.done d status) := done_mode _ _ _ _ (.refl s)
  unfold State.updActivate
  extract_lets m u v w
  split
  · exact .inl (hdone _)
  split
  · exact .inl (hdone _)
  split
  · exact .inl (hdone _)
  right
  have hm : (u.writeReady.setMgmt Node.activating).mgmt = Node.activating := State.mgmt_setMgmt _ _ (by decide)
  have hv : Mode (u.writeReady.setMgmt Node.activating) v := beginHold_mode _ (unsave_mode _ (canPause_mode _ (lanesEnd_mode _ _ (.refl _))))
  exact ((setSes_mode _ _ (trialRecord_mode _ _ (updUpd_mode _ _ hv))).mgmt_eq (by rw [hm]; decide)).trans hm

/-! ## The end of the activation pause -/

/-- MGMT_STATE is one register. -/
theorem State.mgmt_congr {s t : State} (h : t.reg Reg.MGMT_STATE = s.reg Reg.MGMT_STATE) : t.mgmt = s.mgmt := by
  rw [State.mgmt, State.mgmt, State.rfld, State.rfld, h]

theorem State.mgmt_setReg (s : State) (o : Off) (v : U32) (h : Reg.MGMT_STATE ≠ o) : (s.setReg o v).mgmt = s.mgmt :=
  State.mgmt_congr (by rw [State.reg_setReg, if_neg h])

theorem State.mgmt_lanesEnd (s : State) (f : Lane → Lane) : (s.lanesEnd f).mgmt = s.mgmt := by
  unfold State.lanesEnd State.restSources
  refine (foldl_same State.mgmt _ ?_ _ _).trans (foldl_same State.mgmt (fun u n => u.updLane n f) (fun _ _ => rfl) _ s)
  intro u k
  split
  · rfl
  · exact u.mgmt_setReg _ _ (Nat.ne_of_lt (by simp only [Reg.MGMT_STATE, Reg.EX_STATUS]; omega))

theorem State.mgmt_lanesResume (s : State) : s.lanesResume.mgmt = s.mgmt := by
  unfold State.lanesResume
  refine (foldl_same State.mgmt _ ?_ _ _).trans (s.mgmt_lanesEnd _)
  exact fun _ _ => rfl

theorem State.mgmt_setCanStat (s : State) (n i : Nat) (b : Bool) : (s.setCanStat n i b).mgmt = s.mgmt :=
  s.mgmt_setReg _ _ (Nat.ne_of_lt (by simp only [Reg.MGMT_STATE, Reg.CAN_STATUS]; omega))

theorem State.mgmt_setCanBus (s : State) (n b : Nat) : (s.setCanBus n b).mgmt = s.mgmt :=
  s.mgmt_setReg _ _ (Nat.ne_of_lt (by simp only [Reg.MGMT_STATE, Reg.CAN_STATUS]; omega))

theorem State.mgmt_canJoin (s : State) (n : Nat) : (s.canJoin n).mgmt = s.mgmt := by
  unfold State.canJoin State.canRecover
  split
  · rfl
  split
  · exact s.mgmt_setCanStat _ _ _
  split
  · dsimp only
    split
    · rw [State.mgmt_setCanStat, State.mgmt_setCanBus]
    · exact s.mgmt_setCanBus _ _
  · exact s.mgmt_setCanStat _ _ _

theorem State.mgmt_canStart (s : State) : s.canStart.mgmt = s.mgmt := foldl_same State.mgmt _ (fun u n => u.mgmt_canJoin n) _ s

theorem State.mgmt_fetchAll (s : State) : s.fetchAll.mgmt = s.mgmt :=
  foldl_same State.mgmt _ (fun u n => by unfold State.fetchMore; dsimp only; split <;> rfl) _ s

theorem State.activated_moved (s : State) (us : Nat) : Moved s (s.activated us) := by
  unfold State.activated
  split
  · exact .refl s
  · next hm =>
    have hs : s.mgmt = Node.activating := by simpa using hm
    extract_lets
    refine .along hs (b := Node.run) ?_
    rw [State.mgmt_fetchAll, State.mgmt_canStart, State.mgmt_lanesResume, State.mgmt_setMgmt _ _ (by decide)]

/-! ## Resets by UPD, and MGMT_CMD -/

theorem State.fallBack_moved (s u : State) (reason : Nat) : Moved s (u.fallBack reason) := .toReset (State.mgmt_fallBack _ _)

theorem State.notActivated_moved (s : State) : Moved s s.notActivated := by
  unfold State.notActivated
  split
  · exact s.fallBack_moved _ _
  · exact .refl s

theorem State.trialOver_moved (s : State) : Moved s s.trialOver := by
  unfold State.trialOver
  split
  · exact s.fallBack_moved _ _
  · exact .refl s

theorem State.notConverted_moved (s : State) : Moved s s.notConverted := by
  unfold State.notConverted
  split
  · exact s.fallBack_moved _ _
  · exact .refl s

/-- UPD_ABANDON resets the node in a trial, and else does not move it. -/
theorem State.mgmt_updAbandon (s : State) (d : Desc) : Mode s (s.updAbandon d) ∨ (s.updAbandon d).mgmt = Node.reset := by
  have hdone (status : Nat) : Mode s (s.done d status) := done_mode _ _ _ _ (.refl s)
  unfold State.updAbandon
  split
  · exact .inl (hdone _)
  split
  · exact .inl (hdone _)
  split
  · exact .inl (hdone _)
  split
  · exact .inr (State.mgmt_fallBack _ _)
  · exact .inl (done_mode _ _ _ _ (endSession_mode _ (ite_mode _ _ _ (fun _ => bootActive_mode s (.refl s)) (fun _ => .refl s))))

theorem State.mgmtCmd_moved (s : State) (v : U32) : Moved s (s.mgmtCmd v) := by
  unfold State.mgmtCmd
  split
  · exact s.startNow_moved _ _
  · exact s.stopNow_moved
  · exact .toReset (s.mgmt_restart _)
  · exact (commissionNow_mode s (.refl s)).moved
  · exact (verifyNow_mode s (.refl s)).moved
  · exact (acceptNow_mode s (.refl s)).moved
  · exact (bypassNow_mode s (.refl s)).moved
  · exact (cmdIgnored_mode s (.refl s)).moved

/-! ## Writes of BAR0 -/

theorem storeReg_mode (r s : State) (row : RegRow) (o : Off) (v : U32) (h : Mode r s) (ho : o ≠ Reg.MGMT_STATE) :
    Mode r (s.storeReg row o v) := by
  unfold State.storeReg
  extract_lets w was t u
  have ht : Mode r t := written_mode _ _ _ _ (setReg_mode _ _ _ h ho)
  have hu : Mode r u := ite_mode _ _ _ (fun _ => setDirty_mode _ ht) (fun _ => ht)
  exact ite_mode _ _ _ (fun _ => summarise_mode _ _ hu) (fun _ => hu)

theorem clearW1c_mode (s : State) (o : Off) (v : U32) (ho : o ≠ Reg.MGMT_STATE) : Mode s (s.clearW1c o v) := by
  have hset := setReg_mode s o (s.reg o &&& ~~~v) (.refl s) ho
  exact ite_mode _ _ _ (fun _ => emitOut_mode _ _ (updRtc_mode _ _ hset)) (fun _ => hset)

theorem writeByAccess_mode (s : State) (row : RegRow) (o : Off) (v : U32) (ho : o ≠ Reg.MGMT_STATE) : Mode s (s.writeByAccess row o v) := by
  have hr := Mode.refl s
  have hign (why : Nat) : Mode s (s.ignored o why) := ignored_mode _ _ _ _ hr
  have hstore := storeReg_mode s s row o v hr ho
  unfold State.writeByAccess
  split
  · exact hign _
  · exact hign _
  · split
    · exact hign _
    · split
      · exact setReg_mode _ _ _ hr ho
      · exact hign _
  · split
    · exact clearW1c_mode s o v ho
    · exact hign _
  · split
    · exact updUpd_mode _ _ hr
    · exact hign _
  all_goals
    dsimp only
    split
    · exact hstore
    · exact hign _

theorem commitPair_mode (s : State) (row : RegRow) (o : Off) (v : U32) (ho : o ≠ Reg.MGMT_STATE) (hlo : o - 4 ≠ Reg.MGMT_STATE) :
    Mode s (s.commitPair row o v) := by
  unfold State.commitPair
  extract_lets
  split
  · exact ignored_mode _ _ _ _ (.refl s)
  · exact storeReg_mode _ _ _ _ _ (Mode.upd (setReg_mode _ _ _ (.refl s) hlo)) ho

theorem ifSome_moved {c : Prop} [Decidable c] {f g : State → State} {x : Option (State → State)} {s : State}
    (e : (if c then some g else x) = some f) (hg : Moved s (g s)) (hx : x = some f → Moved s (f s)) : Moved s (f s) := by
  split at e
  · exact Option.some.inj e ▸ hg
  · exact hx e

/-- The registers that have rows of their own move the node by MGMT_CMD alone. -/
theorem ownWrite_moved (s : State) (o : Off) (v : U32) (f : State → State) (e : ownWrite o v = some f) : Moved s (f s) := by
  have h := Mode.refl s
  have hign (why : Nat) : Mode s (s.ignored o why) := ignored_mode _ _ _ _ h
  unfold ownWrite at e
  refine ifSome_moved e (hifCtl_mode _ _ h).moved fun e => ?_
  refine ifSome_moved e (ringCtl_mode _ _ _ h).moved fun e => ?_
  refine ifSome_moved e (kickNow_mode _ h).moved fun e => ?_
  refine ifSome_moved e (msixCtl_mode _ _ _ h).moved fun e => ?_
  refine ifSome_moved e (ite_mode _ _ _ (fun _ => legFlush_mode _ h) (fun _ => h)).moved fun e => ?_
  refine ifSome_moved e (checkWrite_mode _ _ h).moved fun e => ?_
  refine ifSome_moved e (byCode_mode _ _ _ _ _ h (fun _ h => legPtWrite_mode _ h) (fun _ h => legPtRead_mode _ h)).moved fun e => ?_
  refine ifSome_moved e (inject_mode _ _ _ h).moved fun e => ?_
  refine ifSome_moved e (inject_mode _ _ _ h).moved fun e => ?_
  refine ifSome_moved e (byCode_mode _ _ _ _ _ h (fun _ h => setNow_mode _ h) (fun _ h => clearSwo_mode _ h)).moved fun e => ?_
  refine ifSome_moved e (shiftWrite_mode _ _ h).moved fun e => ?_
  refine ifSome_moved e (byCode_mode _ _ _ _ _ h (fun _ h => dstWrite_mode _ _ h) (fun _ h => dstWrite_mode _ _ h)).moved fun e => ?_
  refine ifSome_moved e (almCtl_mode _ _ h).moved fun e => ?_
  refine ifSome_moved e (wakeCtl_mode _ _ h).moved fun e => ?_
  refine ifSome_moved e (trickleWrite_mode _ _ h).moved fun e => ?_
  refine ifSome_moved e (ite_mode _ _ _ (fun _ => legSet_mode _ h) (fun _ => hign _)).moved fun e => ?_
  refine ifSome_moved e (ite_mode _ _ _ (fun _ => keyProgram_mode _ h) (fun _ => hign _)).moved fun e => ?_
  refine ifSome_moved e (fmodeWrite_mode _ _ h).moved fun e => ?_
  refine ifSome_moved e (intEnWrite_mode _ _ h).moved fun e => ?_
  refine ifSome_moved e (intRearm_mode _ h).moved fun e => ?_
  refine ifSome_moved e (s.mgmtCmd_moved v) fun e => ?_
  cases e

theorem State.writeReg_moved (s : State) (o : Off) (v : U32) : Moved s (s.writeReg o v) := by
  have hign (why : Nat) : Moved s (s.ignored o why) := (ignored_mode _ _ _ _ (.refl s)).moved
  unfold State.writeReg
  split
  · exact hign _
  next row hrow =>
  split
  · exact hign _
  next hro =>
  have ho : o ≠ Reg.MGMT_STATE := by
    rintro rfl
    have hacc : (decoded Reg.MGMT_STATE).map RegRow.acc = some .ro := by decide +kernel
    rw [hrow] at hacc
    exact hro (Option.some.inj hacc)
  split
  · exact .toReset (s.mgmt_restart _)
  split
  · exact hign _
  split
  · next f hf => exact ownWrite_moved s o v f hf
  split
  · exact (holdLow_mode s o v (.refl s)).moved
  split
  · next hhi =>
    refine (commitPair_mode s row o v ho ?_).moved
    intro hlo
    rw [hlo] at hhi
    exact absurd hhi (by decide)
  · exact (writeByAccess_mode s row o v ho).moved

/-! ## Every command -/

theorem updAbandon_moved {s u : State} {d : Desc} (h : Mode s u) : Moved s (u.updAbandon d) :=
  h.then_moved ((u.mgmt_updAbandon d).elim Mode.moved .toReset)

theorem updActivate_moved (s t : State) (hrun : exec .updActivate s = .next t) : Moved s t := by
  cases hrun
  show Moved s (if s.fresh.activateWaits then s.fresh else s.fresh.dirCmd 0x63 (fun d s => s.updActivate d))
  split
  · exact .refl s
  · refine s.fresh.dirCmd_moved 0x63 _ fun d ha => ?_
    obtain h | h := State.mgmt_updActivate (s.fresh.takeHead 0) d
    · exact (takeHead_mode _ 0 (.refl s.fresh)).then_moved h.moved
    · exact .along (State.accepts_updActivate ha) h

theorem registerWrite_moved (s t : State) (off : Off) (v : U32) (hrun : exec (.registerWrite off v) s = .next t) : Moved s t := by
  obtain ⟨_, ht⟩ := need_next hrun
  subst ht
  split
  · exact s.fresh.writeReg_moved off v
  · exact (badRequest_mode _ _ (.refl s.fresh)).moved

theorem exec_moved (s t : State) : ∀ i : Instr, exec i s = .next t → Moved s t
  | .powerGoodRise env, hrun => by cases hrun; exact s.fresh.boot_moved env
  | .powerGoodFall f, hrun => by cases hrun; exact .toReset (State.mgmt_restart _ _)
  | .logicInputChange lvA lvB, hrun => (execLogicInputChange_mode lvA lvB s t hrun).moved
  | .ctrlWatchdog, hrun => by cases hrun; exact .toReset (s.fresh.mgmt_restart _)
  | .lockstepMismatch, hrun => (execLockstepMismatch_mode s t hrun).moved
  | .tcmUncorrectable, hrun => (execTcmUncorrectable_mode s t hrun).moved
  | .perstNAssert, hrun => (execPerstNAssert_mode s t hrun).moved
  | .linkDown, hrun => (execLinkDown_mode s t hrun).moved
  | .d3hotEntry, hrun => (execD3hotEntry_mode s t hrun).moved
  | .flr, hrun => (execFlr_mode s t hrun).moved
  | .startRun vecA vecB dt, hrun => by cases hrun; exact (pass_mode _ dt (fresh_mode s (.refl s))).then_moved (State.startNow_moved _ _ _)
  | .stopRun, hrun => by cases hrun; exact s.fresh.stopNow_moved
  | .resetNode, hrun => by cases hrun; exact .toReset (s.fresh.mgmt_restart _)
  | .commission ticks, hrun => (execCommission_mode ticks s t hrun).moved
  | .verifyCfg, hrun => (execVerifyCfg_mode s t hrun).moved
  | .acceptSlot, hrun => (execAcceptSlot_mode s t hrun).moved
  | .ssBypass, hrun => (execSsBypass_mode s t hrun).moved
  | .mgmtFmodeWrite v, hrun => (execMgmtFmodeWrite_mode v s t hrun).moved
  | .mgmtIntRearm v, hrun => (execMgmtIntRearm_mode v s t hrun).moved
  | .mgmtIntEnWrite v, hrun => (execMgmtIntEnWrite_mode v s t hrun).moved
  | .registerWrite off v, hrun => registerWrite_moved s t off v hrun
  | .badAccess kind, hrun => (execBadAccess_mode kind s t hrun).moved
  | .widePairLoRead off dt, hrun => (execWidePairLoRead_mode off dt s t hrun).moved
  | .tarnWindowWrite off data, hrun => (execTarnWindowWrite_mode off data s t hrun).moved
  | .hifKick v, hrun => (execHifKick_mode v s t hrun).moved
  | .doorbellPoll, hrun => (execDoorbellPoll_mode s t hrun).moved
  | .doorbellCompletion rsp, hrun => (execDoorbellCompletion_mode rsp s t hrun).moved
  | .descriptorArrival ring data, hrun => (execDescriptorArrival_mode ring data s t hrun).moved
  | .pagesEnSet, hrun => (execPagesEnSet_mode s t hrun).moved
  | .pagesEnClear, hrun => (execPagesEnClear_mode s t hrun).moved
  | .ringEnable ring ctl, hrun => (execRingEnable_mode ring ctl s t hrun).moved
  | .ringDisable ring ctl, hrun => (execRingDisable_mode ring ctl s t hrun).moved
  | .statusPageUpdate, hrun => (execStatusPageUpdate_mode s t hrun).moved
  | .ringModerationTimeout ring, hrun => (execRingModerationTimeout_mode ring s t hrun).moved
  | .msixVectorUnmask vec, hrun => (execMsixVectorUnmask_mode vec s t hrun).moved
  | .nop, hrun => (execNop_mode s t hrun).moved
  | .unknownOpcode, hrun => (execUnknownOpcode_mode s t hrun).moved
  | .completionWrite, hrun => (execCompletionWrite_mode s t hrun).moved
  | .pointWrite img, hrun => (execPointWrite_mode img s t hrun).moved
  | .pointRead ph, hrun => (execPointRead_mode ph s t hrun).moved
  | .chandefWrite img, hrun => (execChandefWrite_mode img s t hrun).moved
  | .groupWrite img, hrun => (execGroupWrite_mode img s t hrun).moved
  | .fanoutWrite img, hrun => (execFanoutWrite_mode img s t hrun).moved
  | .lintabWrite img, hrun => (execLintabWrite_mode img s t hrun).moved
  | .canfiltWrite img, hrun => (execCanfiltWrite_mode img s t hrun).moved
  | .cansigWrite img, hrun => (execCansigWrite_mode img s t hrun).moved
  | .ackPoint ph, hrun => (execAckPoint_mode ph s t hrun).moved
  | .shelve ph, hrun => (execShelve_mode ph s t hrun).moved
  | .unshelve ph, hrun => (execUnshelve_mode ph s t hrun).moved
  | .forcePoint ph, hrun => (execForcePoint_mode ph s t hrun).moved
  | .ackGroup ph, hrun => (execAckGroup_mode ph s t hrun).moved
  | .callManual ph, hrun => (execCallManual_mode ph s t hrun).moved
  | .callSilence ph, hrun => (execCallSilence_mode ph s t hrun).moved
  | .deadmanReset ph, hrun => (execDeadmanReset_mode ph s t hrun).moved
  | .canCancel, hrun => (execCanCancel_mode s t hrun).moved
  | .canChannelCtl, hrun => (execCanChannelCtl_mode s t hrun).moved
  | .spawnCtl img, hrun => (execSpawnCtl_mode img s t hrun).moved
  | .spawnTrigger, hrun => (execSpawnTrigger_mode s t hrun).moved
  | .replayStart, hrun => by
    cases hrun
    exact s.fresh.dirCmd_moved 0x52 _ fun d ha => .along_or (State.accepts_replayStart ha) (State.mgmt_replayStart _ d)
  | .replayStop, hrun => by
    cases hrun
    exact s.fresh.dirCmd_moved 0x53 _ fun d ha => .along_or (State.accepts_replayStop ha) (State.mgmt_replayStop _ d)
  | .updBegin, hrun => (execUpdBegin_mode s t hrun).moved
  | .updStatus writeOk, hrun => (execUpdStatus_mode writeOk s t hrun).moved
  | .updVerify, hrun => (execUpdVerify_mode s t hrun).moved
  | .updActivate, hrun => updActivate_moved s t hrun
  | .updConfirm, hrun => (execUpdConfirm_mode s t hrun).moved
  | .updAbandon, hrun => by
    cases hrun
    exact s.fresh.dirCmd_moved 0x65 _ fun d _ => updAbandon_moved (takeHead_mode _ 0 (.refl s.fresh))
  | .quotaSet, hrun => (execQuotaSet_mode s t hrun).moved
  | .elasticSplitApply, hrun => (execElasticSplitApply_mode s t hrun).moved
  | .engineCtl, hrun => (execEngineCtl_mode s t hrun).moved
  | .trendCtl, hrun => (execTrendCtl_mode s t hrun).moved
  | .dioWrite, hrun => (execDioWrite_mode s t hrun).moved
  | .panelFlip img, hrun => (execPanelFlip_mode img s t hrun).moved
  | .timeAdj dt, hrun => (execTimeAdj_mode dt s t hrun).moved
  | .recordAdmission, hrun => (execRecordAdmission_mode s t hrun).moved
  | .evalSample e, hrun => (execEvalSample_mode e s t hrun).moved
  | .evalDiChange e, hrun => (execEvalDiChange_mode e s t hrun).moved
  | .evalCount e, hrun => (execEvalCount_mode e s t hrun).moved
  | .evalCanFrame e, hrun => (execEvalCanFrame_mode e s t hrun).moved
  | .evalTick e, hrun => (execEvalTick_mode e s t hrun).moved
  | .delayExpiry e p, hrun => (execDelayExpiry_mode e p s t hrun).moved
  | .rateEvaluation e p, hrun => (execRateEvaluation_mode e p s t hrun).moved
  | .blockDelayExpiry e p, hrun => (execBlockDelayExpiry_mode e p s t hrun).moved
  | .shelveExpiry e p, hrun => (execShelveExpiry_mode e p s t hrun).moved
  | .groupBlockExpiry e g, hrun => (execGroupBlockExpiry_mode e g s t hrun).moved
  | .floodWindowClose e g, hrun => (execFloodWindowClose_mode e g s t hrun).moved
  | .callTimeout e g, hrun => (execCallTimeout_mode e g s t hrun).moved
  | .callFrameRepeat e g, hrun => (execCallFrameRepeat_mode e g s t hrun).moved
  | .deadmanWarn e g, hrun => (execDeadmanWarn_mode e g s t hrun).moved
  | .deadmanExpiry e g, hrun => (execDeadmanExpiry_mode e g s t hrun).moved
  | .sealPeriodExpiry e, hrun => (execSealPeriodExpiry_mode e s t hrun).moved
  | .healthPeriodExpiry e, hrun => (execHealthPeriodExpiry_mode e s t hrun).moved
  | .configBarrier, hrun => (execConfigBarrier_mode s t hrun).moved
  | .evalSourceGap e, hrun => (execEvalSourceGap_mode e s t hrun).moved
  | .evalSnapshotMark e, hrun => (execEvalSnapshotMark_mode e s t hrun).moved
  | .evalSealRequest e, hrun => (execEvalSealRequest_mode e s t hrun).moved
  | .evalEccFault, hrun => (execEvalEccFault_mode s t hrun).moved
  | .evalResyncStatus e, hrun => (execEvalResyncStatus_mode e s t hrun).moved
  | .evalResyncCopy e, hrun => (execEvalResyncCopy_mode e s t hrun).moved
  | .evalAudit e, hrun => (execEvalAudit_mode e s t hrun).moved
  | .evalDiverge e, hrun => (execEvalDiverge_mode e s t hrun).moved
  | .evalRepair e, hrun => (execEvalRepair_mode e s t hrun).moved
  | .eventCopyArrival e, hrun => (execEventCopyArrival_mode e s t hrun).moved
  | .mergeWaitExpiry, hrun => (execMergeWaitExpiry_mode s t hrun).moved
  | .eventDelivery ring, hrun => (execEventDelivery_mode ring s t hrun).moved
  | .publicationDatagram, hrun => (execPublicationDatagram_mode s t hrun).moved
  | .canPublication, hrun => (execCanPublication_mode s t hrun).moved
  | .trendSample entry dt, hrun => (execTrendSample_mode entry dt s t hrun).moved
  | .legEvtW0Read, hrun => (execLegEvtW0Read_mode s t hrun).moved
  | .legEvtW3Read, hrun => (execLegEvtW3Read_mode s t hrun).moved
  | .legFlush, hrun => (execLegFlush_mode s t hrun).moved
  | .engineFailure e cause, hrun => (execEngineFailure_mode e cause s t hrun).moved
  | .tickStall e, hrun => (execTickStall_mode e s t hrun).moved
  | .holdGrant, hrun => (execHoldGrant_mode s t hrun).moved
  | .engineReturnTest e pass, hrun => (execEngineReturnTest_mode e pass s t hrun).moved
  | .stateCopyComplete verified, hrun => (execStateCopyComplete_mode verified s t hrun).moved
  | .returnHoldoffExpiry e, hrun => (execReturnHoldoffExpiry_mode e s t hrun).moved
  | .takeBack, hrun => (execTakeBack_mode s t hrun).moved
  | .auditOffer, hrun => (execAuditOffer_mode s t hrun).moved
  | .auditCompare, hrun => (execAuditCompare_mode s t hrun).moved
  | .divergeResolution, hrun => (execDivergeResolution_mode s t hrun).moved
  | .aeInject e v, hrun => (execAeInject_mode e v s t hrun).moved
  | .intlkInChange high, hrun => (execIntlkInChange_mode high s t hrun).moved
  | .pairClaim, hrun => (execPairClaim_mode s t hrun).moved
  | .pairRelease, hrun => (execPairRelease_mode s t hrun).moved
  | .pairSenseChange high, hrun => (execPairSenseChange_mode high s t hrun).moved
  | .tickGeneration, hrun => (execTickGeneration_mode s t hrun).moved
  | .snapshotMarkOffer, hrun => (execSnapshotMarkOffer_mode s t hrun).moved
  | .snapshotCopyComplete, hrun => (execSnapshotCopyComplete_mode s t hrun).moved
  | .snapTimeout, hrun => (execSnapTimeout_mode s t hrun).moved
  | .spawnOutBufferWrite addr, hrun => (execSpawnOutBufferWrite_mode s addr t hrun).moved
  | .checkpoint, hrun => (execCheckpoint_mode s t hrun).moved
  | .windowFreeze, hrun => (execWindowFreeze_mode s t hrun).moved
  | .replayBuffer data, hrun => (execReplayBuffer_mode data s t hrun).moved
  | .replayCheckpointCompare, hrun => (execReplayCheckpointCompare_mode s t hrun).moved
  | .replayDone, hrun => (execReplayDone_mode s t hrun).moved
  | .laneSlotStart lane, hrun => (execLaneSlotStart_mode lane s t hrun).moved
  | .laneSlotEnd lane m dt, hrun => (execLaneSlotEnd_mode lane m dt s t hrun).moved
  | .calSlotDue lane, hrun => (execCalSlotDue_mode lane s t hrun).moved
  | .calSlotEnd lane meas, hrun => (execCalSlotEnd_mode lane meas s t hrun).moved
  | .laneDrained lane, hrun => (execLaneDrained_mode lane s t hrun).moved
  | .clampEventStart x, hrun => (execClampEventStart_mode x s t hrun).moved
  | .clampEventEnd x, hrun => (execClampEventEnd_mode x s t hrun).moved
  | .burdenShuntOpen x, hrun => (execBurdenShuntOpen_mode x s t hrun).moved
  | .burdenShuntReclose x, hrun => (execBurdenShuntReclose_mode x s t hrun).moved
  | .biasCurrentLimit n limiting, hrun => (execBiasCurrentLimit_mode n limiting s t hrun).moved
  | .xpCheck v, hrun => (execXpCheck_mode v s t hrun).moved
  | .dioWindowEnd bank pins settled dt, hrun => (execDioWindowEnd_mode bank pins settled dt s t hrun).moved
  | .counterEdge k, hrun => (execCounterEdge_mode k s t hrun).moved
  | .countPeriodExpiry k cycles dt, hrun => (execCountPeriodExpiry_mode k cycles dt s t hrun).moved
  | .newtRefresh newt late, hrun => (execNewtRefresh_mode newt late s t hrun).moved
  | .watchdogExpiry bank, hrun => (execWatchdogExpiry_mode bank s t hrun).moved
  | .newtStall newt, hrun => (execNewtStall_mode newt s t hrun).moved
  | .newtRestart newt, hrun => (execNewtRestart_mode newt s t hrun).moved
  | .faultSet bank cause, hrun => (execFaultSet_mode bank cause s t hrun).moved
  | .faultClear bank, hrun => (execFaultClear_mode bank s t hrun).moved
  | .fieldReset bank, hrun => (execFieldReset_mode bank s t hrun).moved
  | .fieldSideRestart bank, hrun => (execFieldSideRestart_mode bank s t hrun).moved
  | .thermalShutdownRetry ch shorted, hrun => (execThermalShutdownRetry_mode ch shorted s t hrun).moved
  | .canFrameReceived ch f dt, hrun => (execCanFrameReceived_mode ch f dt s t hrun).moved
  | .protocolException ch, hrun => (execProtocolException_mode ch s t hrun).moved
  | .canBusError ch err, hrun => (execCanBusError_mode ch err s t hrun).moved
  | .filterWalk, hrun => (execFilterWalk_mode s t hrun).moved
  | .canTxEntryTaken ch, hrun => (execCanTxEntryTaken_mode ch s t hrun).moved
  | .txAttemptStart ch dt, hrun => (execTxAttemptStart_mode ch dt s t hrun).moved
  | .txAttemptEnd ch r dt, hrun => (execTxAttemptEnd_mode ch r dt s t hrun).moved
  | .integrationComplete ch, hrun => (execIntegrationComplete_mode ch s t hrun).moved
  | .busOffRecoveryComplete ch, hrun => (execBusOffRecoveryComplete_mode ch s t hrun).moved
  | .timeSwitch, hrun => (execTimeSwitch_mode s t hrun).moved
  | .ptpSyncReceived port m dt, hrun => (execPtpSyncReceived_mode port m dt s t hrun).moved
  | .ptpDelayRespReceived port m, hrun => (execPtpDelayRespReceived_mode port m s t hrun).moved
  | .ptpAnnounceReceived port m, hrun => (execPtpAnnounceReceived_mode port m s t hrun).moved
  | .delayReqSend dt, hrun => (execDelayReqSend_mode dt s t hrun).moved
  | .masterLoss, hrun => (execMasterLoss_mode s t hrun).moved
  | .acquireTimeout, hrun => (execAcquireTimeout_mode s t hrun).moved
  | .hostTimeout, hrun => (execHostTimeout_mode s t hrun).moved
  | .ethFrameReceived port fr dt, hrun => (execEthFrameReceived_mode port fr dt s t hrun).moved
  | .ethTxFrame port f, hrun => (execEthTxFrame_mode port f s t hrun).moved
  | .ethTxTimestamp port dt, hrun => (execEthTxTimestamp_mode port dt s t hrun).moved
  | .ethLinkChange port up gig, hrun => (execEthLinkChange_mode port up gig s t hrun).moved
  | .ptpTxtsW0Read port, hrun => (execPtpTxtsW0Read_mode port s t hrun).moved
  | .ptpTxtsTimeHiRead port, hrun => (execPtpTxtsTimeHiRead_mode port s t hrun).moved
  | .tmoPulseStart k dt, hrun => (execTmoPulseStart_mode k dt s t hrun).moved
  | .tmoPulseEnd k dt, hrun => (execTmoPulseEnd_mode k dt s t hrun).moved
  | .rtcSet ticks, hrun => (execRtcSet_mode ticks s t hrun).moved
  | .rtcCommit, hrun => (execRtcCommit_mode s t hrun).moved
  | .swoClear, hrun => (execSwoClear_mode s t hrun).moved
  | .rtcShift v ticks, hrun => (execRtcShift_mode v ticks s t hrun).moved
  | .shiftDone ticks, hrun => (execShiftDone_mode ticks s t hrun).moved
  | .dstForward, hrun => (execDstForward_mode s t hrun).moved
  | .dstBack, hrun => (execDstBack_mode s t hrun).moved
  | .localTimeApply ticks, hrun => (execLocalTimeApply_mode ticks s t hrun).moved
  | .alarmArm v ticks, hrun => (execAlarmArm_mode v ticks s t hrun).moved
  | .alarmDisarm v, hrun => (execAlarmDisarm_mode v s t hrun).moved
  | .rtcAlarmFire ticks, hrun => (execRtcAlarmFire_mode ticks s t hrun).moved
  | .wakeEnable v, hrun => (execWakeEnable_mode v s t hrun).moved
  | .rtcWake ticks, hrun => (execRtcWake_mode ticks s t hrun).moved
  | .rtcFracRead ticks, hrun => (execRtcFracRead_mode ticks s t hrun).moved
  | .rtcSecHiRead ticks, hrun => (execRtcSecHiRead_mode ticks s t hrun).moved
  | .shadowFreezeTimeout who, hrun => (execShadowFreezeTimeout_mode who s t hrun).moved
  | .legRtcSecRead ticks, hrun => (execLegRtcSecRead_mode ticks s t hrun).moved
  | .legRtcYearRead ticks, hrun => (execLegRtcYearRead_mode ticks s t hrun).moved
  | .legRtcSet, hrun => (execLegRtcSet_mode s t hrun).moved
  | .rtcTrickleWrite w, hrun => (execRtcTrickleWrite_mode w s t hrun).moved
  | .cellTypeHigh, hrun => (execCellTypeHigh_mode s t hrun).moved
  | .oscStop, hrun => (execOscStop_mode s t hrun).moved
  | .legPtWrite, hrun => (execLegPtWrite_mode s t hrun).moved
  | .legPtRead, hrun => (execLegPtRead_mode s t hrun).moved
  | .panelFrameBoundary, hrun => (execPanelFrameBoundary_mode s t hrun).moved
  | .panelTempUpdate p, hrun => (execPanelTempUpdate_mode p s t hrun).moved
  | .vppFault, hrun => (execVppFault_mode s t hrun).moved
  | .vppRetry, hrun => (execVppRetry_mode s t hrun).moved
  | .alarmListRedraw ticks, hrun => (execAlarmListRedraw_mode ticks s t hrun).moved
  | .burnInShift, hrun => (execBurnInShift_mode s t hrun).moved
  | .pnlSenseChange high, hrun => (execPnlSenseChange_mode high s t hrun).moved
  | .updPieceReceived data, hrun => (execUpdPieceReceived_mode data s t hrun).moved
  | .pieceStored p readbackOk, hrun => (execPieceStored_mode p readbackOk s t hrun).moved
  | .activationComplete pauseUs, hrun => by cases hrun; exact s.fresh.activated_moved pauseUs
  | .activationTimeout, hrun => by cases hrun; exact s.fresh.notActivated_moved
  | .trialWarn, hrun => (execTrialWarn_mode s t hrun).moved
  | .trialTimeout, hrun => by cases hrun; exact s.fresh.trialOver_moved
  | .settingsConversionDone, hrun => (execSettingsConversionDone_mode s t hrun).moved
  | .settingsConversionFail, hrun => by cases hrun; exact s.fresh.notConverted_moved
  | .keyProgram, hrun => (execKeyProgram_mode s t hrun).moved
  | .keyProgrammed, hrun => (execKeyProgrammed_mode s t hrun).moved
  | .scrubSlot bank, hrun => (execScrubSlot_mode bank s t hrun).moved
  | .tarnCorrectedError off, hrun => (execTarnCorrectedError_mode off s t hrun).moved
  | .tarnUncorrectable off, hrun => (execTarnUncorrectable_mode off s t hrun).moved
  | .tcmScrub corrected, hrun => (execTcmScrub_mode corrected s t hrun).moved
  | .settingsJournalWrite sectorFail, hrun => (execSettingsJournalWrite_mode sectorFail s t hrun).moved
  | .baseGenerationStart, hrun => (execBaseGenerationStart_mode s t hrun).moved
  | .baseGenerationDurable, hrun => (execBaseGenerationDurable_mode s t hrun).moved
  | .digestRewrite, hrun => (execDigestRewrite_mode s t hrun).moved
  | .telemetry x dt, hrun => (execTelemetry_mode x dt s t hrun).moved
  | .linkUp speed width, hrun => (execLinkUp_mode speed width s t hrun).moved
  | .commandRateAllowance, hrun => (execCommandRateAllowance_mode s t hrun).moved

/-- Settles O58: most commands do not move the node, and those that do have a lemma each above. -/
theorem nodeStateMoves : Obligations.NodeStateMoves := by
  unfold Obligations.NodeStateMoves
  exact fun i s t => exec_moved s t i

end Sys2Proof.Machine

/-! PROOFS. Parts that an operation leaves alone, by its frame, and the custody key in OTP (R490): no operation but the programming of a key writes it. -/

namespace Sys2Proof.Machine

/-! ## A part outside an operation's frame -/

/-- An operation whose frame lies within a list of parts leaves every other part alone. The two hypotheses of the frame let Lean find the parts in the list. -/
theorem same_of_foot {s t : State} (zs : List Zone)
    (h : (∀ z zs, Named (within (z :: zs)) z) → (∀ y z zs [Named (within zs) z], Named (within (y :: zs)) z) → Foot (within zs) s t)
    (z : Zone) (hz : z ∉ zs := by decide) : z.same s t :=
  (h within_head fun y z zs h => within_tail y z zs h).same z (decide_eq_false hz)

/-- Every part but the stores. -/
abbrev Zone.offNvm : List Zone :=
  [.regs, .latch, .hold, .tarn, .inlet, .aeA, .aeB, .outlet, .hif, .skink, .spawn, .fe, .dio, .can, .canWalk, .ws, .rtc, .panel,
   .upd, .gecko, .behavBoot, .hostRead, .free]

/-! ## OTP's custody key -/

/-- The custody key in OTP, and the one that is being programmed. -/
def State.otp (s : State) : Option (List Byte) × Option (List Byte) := (s.nvm.custody, s.nvm.programming)

theorem otp_of_nvm {s t : State} (h : t.nvm = s.nvm) : t.otp = s.otp := by
  rw [State.otp, State.otp, h]

/-- An operation outside the stores leaves OTP alone. -/
theorem otp_of_foot {s t : State}
    (h : (∀ z zs, Named (within (z :: zs)) z) → (∀ y z zs [Named (within zs) z], Named (within (y :: zs)) z) →
      Foot (within Zone.offNvm) s t) : t.otp = s.otp :=
  otp_of_nvm (same_of_foot _ h .nvm)

section

variable (s : State)

@[simp] theorem State.otp_noteWrite (w : CopyWrite) : (s.noteWrite w).otp = s.otp := rfl
@[simp] theorem State.otp_writeDone : s.writeDone.otp = s.otp := rfl
@[simp] theorem State.otp_draw : s.draw.2.otp = s.otp := rfl
@[simp] theorem State.otp_updUpd (f : Upd → Upd) : (s.updUpd f).otp = s.otp := rfl
@[simp] theorem State.otp_setReg (o : Off) (v : U32) : (s.setReg o v).otp = s.otp := rfl
@[simp] theorem State.otp_withHif (h : Hif) : ({ s with hif := h } : State).otp = s.otp := rfl
@[simp] theorem State.otp_bump (o : Off) : (s.bump o).otp = s.otp := rfl
@[simp] theorem State.otp_bumpBy (o : Off) (n : Nat) : (s.bumpBy o n).otp = s.otp := rfl
@[simp] theorem State.otp_setRegBit (o : Off) (i : Nat) (b : Bool) : (s.setRegBit o i b).otp = s.otp := rfl
@[simp] theorem State.otp_raise (o : Off) (m : Nat) : (s.raise o m).otp = s.otp := otp_of_nvm (s.raise_nvm o m)
@[simp] theorem State.otp_setMgmt (st : Nat) : (s.setMgmt st).otp = s.otp := otp_of_nvm (s.setMgmt_nvm st)
@[simp] theorem State.otp_ignored (o : Off) (why : Nat) (b : Bool) : (s.ignored o why b).otp = s.otp := otp_of_nvm (s.ignored_nvm o why b)
@[simp] theorem State.otp_done (d : Desc) (status : Nat) (result : U64) : (s.done d status result).otp = s.otp :=
  otp_of_foot fun _ _ => done_foot _ _ _ _ (.refl s)
@[simp] theorem State.otp_unsave : s.unsave.otp = s.otp := otp_of_foot fun _ _ => unsave_foot _ (.refl s)
@[simp] theorem State.otp_startBase : s.startBase.otp = s.otp := otp_of_foot fun _ _ => startBase_foot _ (.refl s)

/-- A write of the stores that leaves OTP's two fields as they were. -/
theorem State.otp_updNvm (f : Nvm → Nvm) (hc : (f s.nvm).custody = s.nvm.custody) (hp : (f s.nvm).programming = s.nvm.programming) :
    (s.updNvm f).otp = s.otp := by
  rw [State.otp, State.otp, State.updNvm_nvm, hc, hp]

@[simp] theorem State.otp_updRegion (k : Nat) (f : Settings → Settings) : (s.updRegion k f).otp = s.otp :=
  s.otp_updNvm _ (by split <;> rfl) (by split <;> rfl)

@[simp] theorem State.otp_saveQuota (f : Quotas → Quotas) : (s.saveQuota f).otp = s.otp := s.otp_updRegion _ _

@[simp] theorem State.otp_updSlot (k : Nat) (f : ImageSlot → ImageSlot) : (s.updSlot k f).otp = s.otp :=
  s.otp_updNvm _ (by split <;> rfl) (by split <;> rfl)

@[simp] theorem State.otp_ssWrite (o : Nat) (l : List Byte) : (s.ssWrite o l).otp = s.otp := rfl

@[simp] theorem State.otp_writeSlot (l : List Byte) : (s.writeSlot l).otp = s.otp := rfl

@[simp] theorem State.otp_logReplacement (lock : Byte) : (s.logReplacement lock).otp = s.otp := by
  unfold State.logReplacement
  dsimp only
  split <;> rfl

@[simp] theorem State.otp_countErase (sector : Nat) : (s.countErase sector).otp = s.otp := by
  unfold State.countErase
  dsimp only
  split
  · rw [State.otp_raise]; rfl
  · rfl

@[simp] theorem State.otp_countErases (first n : Nat) : (s.countErases first n).otp = s.otp :=
  foldl_same State.otp _ State.otp_countErase _ s

@[simp] theorem State.otp_writeBoot (r : BootRec) : (s.writeBoot r).otp = s.otp := by
  unfold State.writeBoot
  dsimp only
  split
  · exact s.otp_countErase _
  · exact s.otp_countErase _

@[simp] theorem State.otp_writeSes (r : SesRec) : (s.writeSes r).otp = s.otp := by
  unfold State.writeSes
  dsimp only
  split
  · exact s.otp_countErase _
  · exact s.otp_countErase _

@[simp] theorem State.otp_setSes (st : Nat) : (s.setSes st).otp = s.otp := by
  unfold State.setSes
  dsimp only
  split
  · exact State.otp_writeSes _ _
  · rfl

@[simp] theorem State.otp_eraseBases (k n : Nat) : (s.eraseBases k n).otp = s.otp := by
  refine foldl_same State.otp _ ?_ _ s
  exact fun u g => u.otp_countErases _ _

@[simp] theorem State.otp_eraseRegion (k : Nat) (t : Settings) : (s.eraseRegion k t).otp = s.otp := by
  simp [State.eraseRegion]

@[simp] theorem State.otp_revoke (m : List Byte) : (s.revoke m).otp = s.otp := rfl

@[simp] theorem State.otp_clearBits (f : Nat → Bool) : (s.clearBits f).otp = s.otp :=
  (State.otp_updNvm _ _ rfl rfl).trans (s.otp_countErases _ _)

@[simp] theorem State.otp_setBits (p : Nat) : (s.setBits p).otp = s.otp := rfl

@[simp] theorem State.otp_endSession : s.endSession.otp = s.otp := by simp [State.endSession]

@[simp] theorem State.otp_bootActive : s.bootActive.otp = s.otp := by simp [State.bootActive]

@[simp] theorem State.otp_eraseResume : s.eraseResume.otp = s.otp := by
  unfold State.eraseResume
  split
  · rfl
  · exact (State.otp_updNvm _ _ rfl rfl).trans (by simp)

@[simp] theorem State.otp_sectorsFail (n : Nat) : (s.sectorsFail n).1.otp = s.otp := by
  unfold State.sectorsFail
  split
  · rfl
  · dsimp only
    split
    · rw [State.otp_raise, State.otp_bumpBy]; rfl
    · rfl

@[simp] theorem State.otp_baseSectors (first n : Nat) : (s.baseSectors first n).1.otp = s.otp := by
  simp [State.baseSectors]

@[simp] theorem State.otp_baseDurable : s.baseDurable.otp = s.otp := by
  unfold State.baseDurable
  split
  · rfl
  · dsimp only
    split <;> simp

@[simp] theorem State.otp_ringErase (k n : Nat) : (s.ringErase k n).otp = s.otp := by
  unfold State.ringErase
  dsimp only
  rw [State.otp_updRegion]
  refine foldl_same State.otp _ ?_ _ s
  exact fun u i => u.otp_countErase _

@[simp] theorem State.otp_journalWrite (fail : Bool) : (s.journalWrite fail).otp = s.otp := by
  unfold State.journalWrite
  split
  · rfl
  · next e l hq =>
    split
    · rfl
    · dsimp only
      generalize hu : ({ s with gecko := { s.gecko with journalQ := l } } : State) = u
      have hu : u.otp = s.otp := hu ▸ rfl
      generalize (if fail then 1 else 0) = n
      split
      · rw [State.otp_sectorsFail, hu]
      · split <;> simp [hu]

@[simp] theorem State.otp_digestRewrite : s.digestRewrite.otp = s.otp := by
  unfold State.digestRewrite
  split
  · rfl
  · split <;> rfl

/-! ## Resets and boot -/

theorem Nvm.otp_tear (v : Nvm) (n : Nat) (w : CopyWrite) : (v.tear n w).custody = v.custody ∧ (v.tear n w).programming = v.programming := by
  unfold Nvm.tear
  split <;> exact ⟨rfl, rfl⟩

theorem Nvm.otp_tearPiece (v : Nvm) (n p : Nat) (l : List Byte) :
    (v.tearPiece n p l).custody = v.custody ∧ (v.tearPiece n p l).programming = v.programming := by
  unfold Nvm.tearPiece
  dsimp only
  split <;> split <;> exact ⟨rfl, rfl⟩

@[simp] theorem State.otp_cutWrite (torn : Option Nat) : (s.cutWrite torn).otp = s.otp := by
  unfold State.cutWrite
  split
  · rfl
  · split
    · exact s.otp_updNvm _ (Nvm.otp_tear _ _ _).1 (Nvm.otp_tear _ _ _).2
    · exact s.otp_updRegion _ _
    · exact s.otp_updNvm _ (Nvm.otp_tearPiece _ _ _ _).1 (Nvm.otp_tearPiece _ _ _ _).2
    · rfl

theorem State.cutErase_otp : s.cutErase.custody = s.nvm.custody ∧ s.cutErase.programming = s.nvm.programming := by
  unfold State.cutErase
  split
  · split <;> exact ⟨rfl, rfl⟩
  · exact ⟨rfl, rfl⟩

/-- The stores after a reset are those before it, with an erase that it has cut still due (R74, R486). -/
@[simp] theorem State.restart_nvm (cause : Nat) : (s.restart cause).nvm = s.cutErase := by
  unfold State.restart
  dsimp only
  rw [State.setReg_nvm]
  refine (foldl_same State.nvm (fun s p => s.emitOut (.pin p false)) (fun _ _ => rfl) _ _).trans ?_
  split <;> split <;> rfl

@[simp] theorem State.otp_restart (cause : Nat) : (s.restart cause).otp = s.otp := by
  rw [State.otp, State.otp, State.restart_nvm, s.cutErase_otp.1, s.cutErase_otp.2]

@[simp] theorem State.otp_fallBack (reason : Nat) : (s.fallBack reason).otp = s.otp := by
  unfold State.fallBack
  exact (State.otp_restart _ Reset.upd).trans (State.otp_writeBoot _ _)

@[simp] theorem State.otp_bootRom (good : Nat → Bool) : (s.bootRom good).2.otp = s.otp := by
  unfold State.bootRom
  dsimp only
  split
  · rfl
  split
  · exact s.otp_writeBoot _
  split
  · exact s.otp_writeBoot _
  · exact (State.otp_writeBoot _ _).trans (s.otp_writeBoot _)

@[simp] theorem State.otp_bootChosen (b : BootChoice) : (s.bootChosen b).otp = s.otp := by
  unfold State.bootChosen
  dsimp only
  split
  · rw [State.otp_bump, State.otp_raise, State.otp_eraseResume]; rfl
  · rw [State.otp_eraseResume]; rfl

@[simp] theorem State.otp_setFmode : s.setFmode.otp = s.otp := otp_of_foot fun _ _ => setFmode_foot _ (.refl s)

@[simp] theorem State.otp_setSs (st : Nat) : (s.setSs st).otp = s.otp := otp_of_foot fun _ _ => setSs_foot _ _ (.refl s)
@[simp] theorem State.otp_loadIdentity (r : List Byte) : (s.loadIdentity r).otp = s.otp := otp_of_foot fun _ _ => loadIdentity_foot _ _ (.refl s)
@[simp] theorem State.otp_factoryClock : s.factoryClock.otp = s.otp := otp_of_foot fun _ _ => factoryClock_foot _ (.refl s)

@[simp] theorem State.otp_takeIdentity (answers : Bool) : (s.takeIdentity answers).otp = s.otp := by
  unfold State.takeIdentity
  extract_lets r slotId u lock v rev w x y
  have hu : u.otp = s.otp := s.otp_setSs _
  have hv : v.otp = s.otp := by
    unfold v
    split
    · exact (u.otp_logReplacement _).trans hu
    · exact hu
  have hy : y.otp = s.otp := by
    unfold y
    clear_value r
    split
    · rw [State.otp_setReg, State.otp_setReg, State.otp_loadIdentity]; exact hv
    · rw [State.otp_setReg, State.otp_setReg, State.otp_factoryClock]; exact hv
  exact y.otp_setFmode.trans hy

@[simp] theorem State.otp_convert : s.convert.otp = s.otp := by
  unfold State.convert
  extract_lets k prev fmt whole was u mark
  exact (rfl : _ = u.otp).trans (s.otp_updRegion k _)

@[simp] theorem State.otp_finishBoot : s.finishBoot.otp = s.otp := otp_of_foot fun _ _ => finishBoot_foot _ (.refl s)

/-- Self-test, the factory factors and the field supplies, behind the identity. -/
@[simp] theorem State.otp_selfTested (t : SelfTest) : (s.selfTested t).otp = s.otp := otp_of_foot fun _ _ => selfTested_foot _ _ (.refl s)
@[simp] theorem State.otp_haltNode (cause engCause : Nat) : (s.haltNode cause engCause).otp = s.otp :=
  otp_of_foot fun _ _ => haltNode_foot _ _ _ (.refl s)
@[simp] theorem State.otp_panelOut : s.panelOut.otp = s.otp := rfl
@[simp] theorem State.otp_firstCal (cal : List (Nat × Nat × F32)) : (s.firstCal cal).otp = s.otp :=
  otp_of_foot fun _ _ => firstCal_foot _ _ (.refl s)
@[simp] theorem State.otp_factoryFactors : s.factoryFactors.otp = s.otp := otp_of_foot fun _ _ => factoryFactors_foot _ (.refl s)

@[simp] theorem State.otp_bootImage (env : BootEnv) (b : BootChoice) : (s.bootImage env b).otp = s.otp := by
  unfold State.bootImage
  extract_lets u v w x
  have hv : v.otp = s.otp := by simp [v, u]
  have hx : x.otp = s.otp := by
    refine (foldl_same State.otp _ ?_ _ w).trans ?_
    · exact fun u k => otp_of_foot fun _ _ => updBank_foot _ _ _ (setRegBit_foot _ _ _ _ (.refl u))
    · simp [w, hv]
  split
  · simp [hv]
  · split
    · split <;> simp [hx]
    · exact (State.otp_finishBoot _).trans hx

@[simp] theorem State.otp_rtcElapse (n : Nat) : (s.rtcElapse n).otp = s.otp := otp_of_foot fun _ _ => rtcElapse_foot _ _ (.refl s)
@[simp] theorem State.otp_linkTrain (speed width : Nat) : (s.linkTrain speed width).otp = s.otp :=
  otp_of_foot fun _ _ => linkTrain_foot _ _ _ (.refl s)
@[simp] theorem State.otp_seedTime : s.seedTime.otp = s.otp := otp_of_foot fun _ _ => seedTime_foot _ (.refl s)
@[simp] theorem State.otp_switchBack : s.switchBack.otp = s.otp := otp_of_foot fun _ _ => switchBack_foot _ (.refl s)
@[simp] theorem State.otp_switchOver : s.switchOver.otp = s.otp := otp_of_foot fun _ _ => switchOver_foot _ (.refl s)
@[simp] theorem State.otp_tmoLow : s.tmoLow.otp = s.otp := otp_of_foot fun _ _ => tmoLow_foot _ (.refl s)
@[simp] theorem State.otp_updRtc (f : Rtc → Rtc) : (s.updRtc f).otp = s.otp := rfl

@[simp] theorem State.otp_boot (env : BootEnv) : (s.boot env).otp = s.otp := by
  unfold State.boot
  split
  · rfl
  extract_lets u v w x y bad
  have hv : v.otp = s.otp := by
    unfold v
    split <;> simp [u]
  have hy : y.otp = s.otp := by simp [y, x, w, hv]
  have hrom := (y.otp_bootRom (fun k => y.nvm.bootable k && !bad k)).trans hy
  split
  · next z hz => rw [hz] at hrom; exact hrom
  · next b z hz => rw [hz] at hrom; exact (z.otp_bootImage env b).trans hrom

/-- The loss of power spends a bank only while a key is being programmed (R490). -/
theorem State.otp_powerFall (ticks : Nat) (torn : Option Nat) (h : s.nvm.programming = none) : (s.powerFall ticks torn).otp = s.otp := by
  unfold State.powerFall
  extract_lets u v w
  have hv : v.otp = s.otp := by
    unfold v
    split <;> simp [u]
  have hp : v.nvm.programming = none := (congrArg Prod.snd hv).trans h
  have hw : w = v := if_neg (by simp [hp])
  rw [State.otp_restart, hw, hv]

/-! ## Commands -/

@[simp] theorem State.otp_takeHead (n : Nat) : (s.takeHead n).otp = s.otp := otp_of_foot fun _ _ => takeHead_foot _ _ (.refl s)

theorem State.otp_dirCmd (op : Nat) (f : Desc → State → State) (h : ∀ d u, (f d u).otp = u.otp) : (s.dirCmd op f).otp = s.otp := by
  unfold State.dirCmd
  split
  · rfl
  · dsimp only
    split <;> simp [h]

@[simp] theorem State.otp_splitApply : s.splitApply.otp = s.otp := otp_of_foot fun _ _ => splitApply_foot _ (.refl s)
@[simp] theorem State.otp_fetchMore (n : Nat) : (s.fetchMore n).otp = s.otp := otp_of_foot fun _ _ => fetchMore_foot _ _ (.refl s)
@[simp] theorem State.otp_sharesSet (l : List Nat) (a b : Nat) : (s.sharesSet l a b).otp = s.otp := otp_of_foot fun _ _ => sharesSet_foot _ _ _ _ (.refl s)

theorem State.otp_quotaSet (d : Desc) : (s.quotaSet d).otp = s.otp := by
  unfold State.quotaSet
  extract_lets kind ix v shares fin bad
  have hfin (b : Bool) (u : State) : (fin b u).otp = u.otp := by simp [fin]
  clear_value bad kind fin
  split
  · simp
  · split
    · split
      · simp
      · rw [hfin]; exact (State.otp_saveQuota _ _).trans (State.otp_splitApply _)
    · rw [hfin]; rw [State.otp_fetchMore, State.otp_withHif]; exact State.otp_saveQuota _ _
    · rw [hfin]; exact (State.otp_saveQuota _ _).trans (s.otp_sharesSet _ _ _)
    · rw [hfin, State.otp_withHif]; exact State.otp_saveQuota _ _
    · rw [hfin]; exact State.otp_saveQuota _ _

@[simp] theorem State.otp_cmdIgnored : s.cmdIgnored.otp = s.otp := s.otp_ignored _ _ _
@[simp] theorem State.otp_ssDone : s.ssDone.otp = s.otp := s.otp_raise _ _
@[simp] theorem State.otp_takeDigest : s.takeDigest.otp = s.otp := otp_of_foot fun _ _ => takeDigest_foot _ (.refl s)

theorem State.otp_commissionNow : s.commissionNow.otp = s.otp := by
  unfold State.commissionNow
  split
  · simp
  · rw [State.otp_ssDone, apply_ite State.otp, State.otp_startBase, ite_self]
    simp

theorem State.otp_acceptNow : s.acceptNow.otp = s.otp := by
  unfold State.acceptNow
  split
  · split <;> simp
  · simp

theorem State.otp_updBegin (d : Desc) : (s.updBegin d).otp = s.otp := by
  unfold State.updBegin
  extract_lets id n st k u v w x y
  have hu : u.otp = s.otp := by
    unfold u
    split <;> simp
  split
  · simp
  split
  · simp
  · simp [y, x, w, v, hu]

@[simp] theorem State.otp_dropBuf (p : Nat) : (s.dropBuf p).otp = s.otp := rfl
@[simp] theorem State.otp_pieceReject (p why : Nat) : (s.pieceReject p why).otp = s.otp := otp_of_foot fun _ _ => pieceReject_foot _ _ _ (.refl s)

theorem State.otp_storePiece (p : Nat) (ok : Bool) : (s.storePiece p ok).otp = s.otp := by
  unfold State.storePiece
  split
  · rfl
  · dsimp only
    split
    · simp
    split
    · simp
    split
    · simp
    · simp

@[simp] theorem State.otp_verifyFailed (why : Nat) : (s.verifyFailed why).otp = s.otp := otp_of_foot fun _ _ => verifyFailed_foot _ _ (.refl s)

theorem State.otp_updVerify (d : Desc) : (s.updVerify d).otp = s.otp := by
  unfold State.updVerify
  dsimp only
  split
  · simp
  split
  · simp
  split
  · simp
  split
  · simp
  split
  · simp
  split <;> simp

@[simp] theorem State.otp_trialRecord (minutes : Nat) : (s.trialRecord minutes).otp = s.otp := by simp [State.trialRecord]
@[simp] theorem State.otp_extendWatchdogs : s.extendWatchdogs.otp = s.otp := otp_of_foot fun _ _ => extendWatchdogs_foot _ (.refl s)
@[simp] theorem State.otp_claimGone : s.claimGone.otp = s.otp := otp_of_foot fun _ _ => claimGone_foot _ (.refl s)
@[simp] theorem State.otp_copyDone (b : Bool) : (s.copyDone b).otp = s.otp := otp_of_foot fun _ _ => copyDone_foot _ _ (.refl s)
@[simp] theorem State.otp_writeReady : s.writeReady.otp = s.otp := otp_of_foot fun _ _ => writeReady_foot _ (.refl s)
@[simp] theorem State.otp_lanesEnd (f : Lane → Lane) : (s.lanesEnd f).otp = s.otp := otp_of_foot fun _ _ => lanesEnd_foot _ _ (.refl s)
@[simp] theorem State.otp_canPause : s.canPause.otp = s.otp := otp_of_foot fun _ _ => canPause_foot _ (.refl s)
@[simp] theorem State.otp_beginHold : s.beginHold.otp = s.otp := otp_of_foot fun _ _ => beginHold_foot _ (.refl s)

theorem State.otp_updActivate (d : Desc) : (s.updActivate d).otp = s.otp := by
  unfold State.updActivate
  dsimp only
  split
  · simp
  split
  · simp
  split
  · simp
  · simp

theorem State.otp_updConfirm (d : Desc) : (s.updConfirm d).otp = s.otp := by
  unfold State.updConfirm
  dsimp only
  split
  · simp
  split
  · simp
  split
  · simp
  split
  · simp
  · simp

theorem State.otp_updAbandon (d : Desc) : (s.updAbandon d).otp = s.otp := by
  unfold State.updAbandon
  split
  · simp
  split
  · simp
  split
  · simp
  split
  · simp
  · dsimp only
    split <;> simp

theorem State.otp_notActivated : s.notActivated.otp = s.otp := by
  unfold State.notActivated
  split <;> simp

theorem State.otp_trialOver : s.trialOver.otp = s.otp := by
  unfold State.trialOver
  split <;> simp

theorem State.otp_notConverted : s.notConverted.otp = s.otp := by
  unfold State.notConverted
  split <;> simp

theorem State.otp_converted : s.converted.otp = s.otp := by
  unfold State.converted
  split <;> simp

/-- PROGRAM is refused while OTP holds a key (R490). -/
theorem State.otp_keyProgram (h : s.nvm.custody.isSome = true) : s.keyProgram.otp = s.otp := by
  unfold State.keyProgram
  rw [if_pos (by simp [h])]
  simp

theorem State.keyDone_of_none (h : s.nvm.programming = none) : s.keyDone = s := by
  rw [State.keyDone, h]

end

/-! ## Writes of BAR0 -/

theorem otp_ifSome {c : Prop} [Decidable c] {f g : State → State} {x : Option (State → State)} {s : State}
    (e : (if c then some g else x) = some f) (hg : (g s).otp = s.otp) (hx : x = some f → (f s).otp = s.otp) : (f s).otp = s.otp := by
  split at e
  · exact Option.some.inj e ▸ hg
  · exact hx e

theorem State.otp_mgmtCmd (s : State) (v : U32) : (s.mgmtCmd v).otp = s.otp := by
  unfold State.mgmtCmd
  split
  · exact otp_of_foot fun _ _ => startNow_foot _ _ _ (.refl s)
  · exact otp_of_foot fun _ _ => stopNow_foot _ (.refl s)
  · exact s.otp_restart _
  · exact s.otp_commissionNow
  · exact otp_of_foot fun _ _ => verifyNow_foot _ (.refl s)
  · exact s.otp_acceptNow
  · exact otp_of_foot fun _ _ => bypassNow_foot _ (.refl s)
  · simp

/-- Of the registers that have rows of their own, UPD_KEY_CMD and MGMT_CMD reach the stores. -/
theorem otp_ownWrite (s : State) (o : Off) (v : U32) (f : State → State) (hk : s.nvm.custody.isSome = true) (e : ownWrite o v = some f) :
    (f s).otp = s.otp := by
  unfold ownWrite at e
  refine otp_ifSome e (otp_of_foot fun _ _ => hifCtl_foot _ _ (.refl s)) fun e => ?_
  refine otp_ifSome e (otp_of_foot fun _ _ => ringCtl_foot _ _ _ (.refl s)) fun e => ?_
  refine otp_ifSome e (otp_of_foot fun _ _ => kickNow_foot _ (.refl s)) fun e => ?_
  refine otp_ifSome e (otp_of_foot fun _ _ => msixCtl_foot _ _ _ (.refl s)) fun e => ?_
  refine otp_ifSome e (otp_of_foot fun _ _ => ite_foot _ _ _ (fun _ => legFlush_foot _ (.refl s)) (fun _ => .refl s)) fun e => ?_
  refine otp_ifSome e (otp_of_foot fun _ _ => checkWrite_foot _ _ (.refl s)) fun e => ?_
  refine otp_ifSome e (otp_of_foot fun _ _ => byCode_foot _ _ _ _ _ (.refl s) (fun _ h => legPtWrite_foot _ h) (fun _ h => legPtRead_foot _ h))
    fun e => ?_
  refine otp_ifSome e (otp_of_foot fun _ _ => inject_foot _ _ _ (.refl s)) fun e => ?_
  refine otp_ifSome e (otp_of_foot fun _ _ => inject_foot _ _ _ (.refl s)) fun e => ?_
  refine otp_ifSome e (otp_of_foot fun _ _ => byCode_foot _ _ _ _ _ (.refl s) (fun _ h => setNow_foot _ h) (fun _ h => clearSwo_foot _ h))
    fun e => ?_
  refine otp_ifSome e (otp_of_foot fun _ _ => shiftWrite_foot _ _ (.refl s)) fun e => ?_
  refine otp_ifSome e (otp_of_foot fun _ _ => byCode_foot _ _ _ _ _ (.refl s) (fun _ h => dstWrite_foot _ _ h) (fun _ h => dstWrite_foot _ _ h))
    fun e => ?_
  refine otp_ifSome e (otp_of_foot fun _ _ => almCtl_foot _ _ (.refl s)) fun e => ?_
  refine otp_ifSome e (otp_of_foot fun _ _ => wakeCtl_foot _ _ (.refl s)) fun e => ?_
  refine otp_ifSome e (otp_of_foot fun _ _ => trickleWrite_foot _ _ (.refl s)) fun e => ?_
  refine otp_ifSome e (otp_of_foot fun _ _ => ite_foot _ _ _ (fun _ => legSet_foot _ (.refl s)) (fun _ => ignored_foot _ _ _ _ (.refl s)))
    fun e => ?_
  refine otp_ifSome e ?keyCmd fun e => ?_
  case keyCmd =>
    split
    · exact s.otp_keyProgram hk
    · simp
  refine otp_ifSome e (otp_of_foot fun _ _ => fmodeWrite_foot _ _ (.refl s)) fun e => ?_
  refine otp_ifSome e (otp_of_foot fun _ _ => intEnWrite_foot _ _ (.refl s)) fun e => ?_
  refine otp_ifSome e (otp_of_foot fun _ _ => intRearm_foot _ (.refl s)) fun e => ?_
  refine otp_ifSome e (s.otp_mgmtCmd v) fun e => ?_
  cases e

theorem State.otp_writeReg (s : State) (o : Off) (v : U32) (hk : s.nvm.custody.isSome = true) : (s.writeReg o v).otp = s.otp := by
  unfold State.writeReg
  split
  · simp
  next row hrow =>
  split
  · simp
  split
  · simp
  split
  · simp
  split
  · next f hf => exact otp_ownWrite s o v f hk hf
  · exact otp_of_foot fun _ _ => ite_foot _ _ _ (fun _ => holdLow_foot _ _ _ (.refl s)) fun _ =>
      ite_foot _ _ _ (fun _ => commitPair_foot _ _ _ _ (.refl s)) fun _ => writeByAccess_foot _ _ _ _ (.refl s)

/-! ## Every command -/

/-- The commands whose frame holds the stores leave OTP as it is, once it holds a key. -/
theorem exec_otp (i : Instr) (s t : State) (hk : s.nvm.custody.isSome = true) (hp : s.nvm.programming = none)
    (hrun : exec i s = .next t) : t.otp = s.otp := by
  by_cases hz : Zone.nvm ∈ i.touches
  · cases i
    case powerGoodRise env => cases hrun; exact s.fresh.otp_boot env
    case powerGoodFall f => cases hrun; exact s.fresh.otp_powerFall _ _ hp
    case ctrlWatchdog => cases hrun; exact s.fresh.otp_restart _
    case resetNode => cases hrun; exact s.fresh.otp_restart _
    case commission ticks => cases hrun; exact (State.otp_commissionNow _).trans (s.fresh.otp_rtcElapse _)
    case acceptSlot => cases hrun; exact s.fresh.otp_acceptNow
    case registerWrite off v =>
      obtain ⟨-, ht⟩ := need_next hrun
      subst ht
      split
      · exact s.fresh.otp_writeReg off v hk
      · exact otp_of_foot fun _ _ => badRequest_foot _ _ (fresh_foot _ (.refl s))
    case updBegin => cases hrun; exact s.fresh.otp_dirCmd _ _ fun d u => u.otp_updBegin d
    case updVerify => cases hrun; exact s.fresh.otp_dirCmd _ _ fun d u => u.otp_updVerify d
    case updActivate =>
      cases hrun
      refine (apply_ite State.otp _ _ _).trans (ite_eq_iff'.mpr ⟨fun _ => rfl, fun _ => ?_⟩)
      exact s.fresh.otp_dirCmd _ _ fun d u => u.otp_updActivate d
    case updConfirm => cases hrun; exact s.fresh.otp_dirCmd _ _ fun d u => u.otp_updConfirm d
    case updAbandon => cases hrun; exact s.fresh.otp_dirCmd _ _ fun d u => u.otp_updAbandon d
    case quotaSet => cases hrun; exact s.fresh.otp_dirCmd _ _ fun d u => u.otp_quotaSet d
    case pieceStored p ok => obtain ⟨-, rfl⟩ := need_next hrun; exact s.fresh.otp_storePiece p ok
    case activationTimeout => cases hrun; exact s.fresh.otp_notActivated
    case trialTimeout => cases hrun; exact s.fresh.otp_trialOver
    case settingsConversionDone => cases hrun; exact s.fresh.otp_converted
    case settingsConversionFail => cases hrun; exact s.fresh.otp_notConverted
    case keyProgram => cases hrun; exact s.fresh.otp_keyProgram hk
    case keyProgrammed => cases hrun; exact (congrArg State.otp (s.fresh.keyDone_of_none hp)).trans rfl
    case settingsJournalWrite fail => cases hrun; exact s.fresh.otp_journalWrite fail
    case baseGenerationDurable => cases hrun; exact s.fresh.otp_baseDurable
    case digestRewrite => cases hrun; exact s.fresh.otp_digestRewrite
    all_goals exact absurd hz (by simp [Instr.touches])
  · exact otp_of_nvm ((exec_foot i s t hrun).same .nvm (decide_eq_false hz))

/-- Settles O59: a step idles or runs a command, and none writes OTP again once it holds a key. -/
theorem custodyKeyIsWrittenOnce : Obligations.CustodyKeyIsWrittenOnce := by
  unfold Obligations.CustodyKeyIsWrittenOnce
  intro s t k hk hp h
  obtain rfl | ⟨c, cs, -, he⟩ := step_cases h
  · exact ⟨hk, hp⟩
  · obtain ⟨hc, hn⟩ := Prod.ext_iff.mp (exec_otp c { s with pending := cs } t (by rw [hk]; rfl) hp he)
    exact ⟨hc.trans hk, hn.trans hp⟩

end Sys2Proof.Machine

/-! PROOFS. The rules of the shared operations: registers that a step leaves alone, the rings' bookkeeping, and a command that stands at the head of the CMD ring (R109, R115, R119-R121, R126). -/

namespace Sys2Proof.Machine

/-! ## Registers but those named -/

theorem RegsBut.refl (s : State) (os : List Off) : RegsBut s s os := fun _ _ => rfl

theorem RegsBut.mono {s t : State} {os ps : List Off} (h : RegsBut s t os) (hs : os ⊆ ps) : RegsBut s t ps :=
  fun o ho => h o fun hm => ho (hs hm)

theorem RegsBut.trans {s t u : State} {os : List Off} (h : RegsBut s t os) (k : RegsBut t u os) : RegsBut s u os :=
  fun o ho => (k o ho).trans (h o ho)

/-- A register file that is the same. -/
theorem RegsBut.of_regs {s t : State} (h : t.regs = s.regs) (k : t.behavBoot = s.behavBoot) (os : List Off) : RegsBut s t os :=
  fun o _ => State.reg_congr h k o

/-- An operation that writes no register. -/
theorem RegsBut.of_foot {s t : State} (zs : List Zone)
    (h : (∀ z zs, Named (within (z :: zs)) z) → (∀ y z zs [Named (within zs) z], Named (within (y :: zs)) z) → Foot (within zs) s t)
    (os : List Off) (hr : Zone.regs ∉ zs := by decide) (hb : Zone.behavBoot ∉ zs := by decide) : RegsBut s t os :=
  .of_regs (same_of_foot zs h .regs hr) (same_of_foot zs h .behavBoot hb) os

section

variable (s : State)

theorem regsBut_setReg (o : Off) (v : U32) : RegsBut s (s.setReg o v) [o] := fun p hp => by
  rw [State.reg_setReg, if_neg (List.ne_of_not_mem_cons hp)]

theorem regsBut_setRegFld (o : Off) (lo n x : Nat) : RegsBut s (s.setRegFld o lo n x) [o] := regsBut_setReg s o _

theorem regsBut_setRegBit (o : Off) (i : Nat) (b : Bool) : RegsBut s (s.setRegBit o i b) [o] := regsBut_setReg s o _

theorem regsBut_bump (o : Off) : RegsBut s (s.bump o) [o] := regsBut_setReg s o _

theorem regsBut_recordMax (o : Off) (n : Nat) : RegsBut s (s.recordMax o n) [o] := by
  unfold State.recordMax
  split
  · exact regsBut_setReg s o _
  · exact .refl s _

theorem regsBut_sendVector (v : Nat) : RegsBut s (s.sendVector v) [Reg.MSIX_PBA 0] := fun p hp =>
  s.reg_sendVector v p (List.ne_of_not_mem_cons hp)

theorem regsBut_hifMessage : RegsBut s s.hifMessage [Reg.MSIX_PBA 0] := fun p hp => s.reg_hifMessage p (List.ne_of_not_mem_cons hp)

theorem regsBut_raise (o : Off) (m : Nat) : RegsBut s (s.raise o m) [o, Reg.MSIX_PBA 0] := fun p hp => by
  simp only [List.mem_cons, List.not_mem_nil, or_false, not_or] at hp
  rw [s.reg_raise o p m hp.2, if_neg hp.1]

/-! ## Rings (R109, R126) -/

theorem regsBut_report (n : Nat) (now : Bool) : RegsBut s (s.report n now) [Reg.MSIX_PBA 0] := by
  unfold State.report
  split
  · exact .refl s _
  · dsimp only
    split
    · exact regsBut_sendVector _ _
    · exact .refl s _

theorem regsBut_advanceRing (n : Nat) (now : Bool) :
    RegsBut s (s.advanceRing n now) [Reg.RING_NODE_IDX n, Reg.RING_ENTRY_CNT n, Reg.MSIX_PBA 0] := by
  unfold State.advanceRing
  have hcount : RegsBut s ((s.setReg (Reg.RING_NODE_IDX n) (s.reg (Reg.RING_NODE_IDX n) + 1)).bump (Reg.RING_ENTRY_CNT n))
      [Reg.RING_NODE_IDX n, Reg.RING_ENTRY_CNT n, Reg.MSIX_PBA 0] :=
    ((regsBut_setReg _ _ _).mono (by simp)).trans ((regsBut_bump _ _).mono (by simp))
  refine RegsBut.trans ?_ ((regsBut_report _ n now).mono (by simp))
  split
  · exact hcount
  · exact hcount

theorem regsBut_fetchMore (n : Nat) (os : List Off) : RegsBut s (s.fetchMore n) os :=
  .of_foot [.hif] (fun _ _ => fetchMore_foot _ _ (.refl s)) os

theorem regsBut_takeHead (n : Nat) : RegsBut s (s.takeHead n) [Reg.RING_NODE_IDX n, Reg.RING_ENTRY_CNT n, Reg.MSIX_PBA 0] :=
  RegsBut.trans (t := s.consume n) (regsBut_advanceRing _ n false) (regsBut_fetchMore _ n _)

/-- A report changes no part of HIF but the count of unsignalled entries. -/
theorem State.report_hif (n : Nat) (now : Bool) : ∃ u, (s.report n now).hif = { s.hif with unsig := u } := by
  unfold State.report
  split
  · exact ⟨_, rfl⟩
  · dsimp only
    split
    · refine ⟨_, (same_of_foot [.regs] (fun _ _ => sendVector_foot _ _ (.refl _)) .hif).trans rfl⟩
    · exact ⟨_, rfl⟩

theorem State.advanceRing_hif (n : Nat) (now : Bool) : ∃ u, (s.advanceRing n now).hif = { s.hif with unsig := u } := by
  unfold State.advanceRing
  extract_lets i t t'
  obtain ⟨u, hu⟩ := t'.report_hif n now
  have ht : t'.hif = s.hif := by
    unfold t'
    split <;> rfl
  exact ⟨u, hu.trans (by rw [ht])⟩

theorem State.fetchMore_hif (n : Nat) : ∃ f c, (s.fetchMore n).hif = { s.hif with fetching := f, prefetchCut := c } := by
  unfold State.fetchMore
  dsimp only
  split
  · exact ⟨_, _, rfl⟩
  · exact ⟨_, _, rfl⟩

/-- Taking the head of a ring's waiting descriptors changes them, and HIF's own bookkeeping (R115). -/
theorem State.takeHead_hif (n : Nat) : ∃ u f c, (s.takeHead n).hif =
    { s.hif with fetched := dropFirst n s.hif.fetched, unsig := u, fetching := f, prefetchCut := c } := by
  obtain ⟨u, hu⟩ := State.advanceRing_hif { s with hif := { s.hif with fetched := dropFirst n s.hif.fetched } } n false
  obtain ⟨f, c, hf⟩ := (s.consume n).fetchMore_hif n
  exact ⟨u, f, c, hf.trans (by rw [State.consume, hu])⟩

end

/-! ## Entries of a ring (R102, R109) -/

/-- What a step puts outside stays there through the step. -/
theorem State.sendVector_out (s : State) (v : Nat) : s.out <+: (s.sendVector v).out := by
  unfold State.sendVector
  split
  · exact List.prefix_rfl
  · exact List.prefix_append _ _

theorem State.report_out (s : State) (n : Nat) (now : Bool) : s.out <+: (s.report n now).out := by
  unfold State.report
  split
  · exact List.prefix_rfl
  · dsimp only
    split
    · exact (State.sendVector_out ({ s with hif := { s.hif with unsig := Sparse.set 0 s.hif.unsig n 0 } }) _)
    · exact List.prefix_rfl

theorem State.advanceRing_out (s : State) (n : Nat) (now : Bool) : s.out <+: (s.advanceRing n now).out := by
  unfold State.advanceRing
  refine List.IsPrefix.trans ?_ (State.report_out _ n now)
  split
  · exact List.prefix_append _ _
  · exact List.prefix_rfl

/-- The node's index of a ring advances by one, and the entry is counted. -/
theorem State.reg_advanceRing_idx (s : State) (n : Nat) (now : Bool) (hn : n < 32) :
    (s.advanceRing n now).reg (Reg.RING_NODE_IDX n) = s.reg (Reg.RING_NODE_IDX n) + 1 := by
  unfold State.advanceRing
  dsimp only
  have hpba : Reg.RING_NODE_IDX n ∉ [Reg.MSIX_PBA 0] := by
    rw [List.mem_singleton]
    exact Nat.ne_of_lt (by simp only [Reg.RING_NODE_IDX, Reg.MSIX_PBA]; omega)
  rw [regsBut_report _ _ _ _ hpba]
  split <;> simp

theorem regsBut_postEntry (s : State) (n : Nat) (data : List Byte) (now : Bool) :
    RegsBut s (s.postEntry n data now) [Reg.RING_NODE_IDX n, Reg.RING_ENTRY_CNT n, Reg.MSIX_PBA 0] :=
  regsBut_advanceRing (s.emitOut _) n now

theorem State.postEntry_hif (s : State) (n : Nat) (data : List Byte) (now : Bool) :
    ∃ u, (s.postEntry n data now).hif = { s.hif with unsig := u } := State.advanceRing_hif (s.emitOut _) n now

theorem State.postEntry_posts (s : State) (n : Nat) (data : List Byte) (now : Bool) :
    Output.ringEntry n (s.reg (Reg.RING_NODE_IDX n)) (s.ringSlot n (s.reg (Reg.RING_NODE_IDX n))) data ∈ (s.postEntry n data now).out :=
  (State.advanceRing_out _ n now).subset (by simp)

theorem State.reg_postEntry_idx (s : State) (n : Nat) (data : List Byte) (now : Bool) (hn : n < 32) :
    (s.postEntry n data now).reg (Reg.RING_NODE_IDX n) = s.reg (Reg.RING_NODE_IDX n) + 1 :=
  State.reg_advanceRing_idx (s.emitOut _) n now hn

/-- The descriptors of a ring lose their first, and every other ring's stay. -/
theorem fetched_dropFirst (n m : Nat) (l : List (Nat × List Byte)) :
    ((dropFirst n l).filter (fun d => d.1 == m)).map (·.2)
      = if m = n then ((l.filter (fun d => d.1 == m)).map (·.2)).drop 1 else (l.filter (fun d => d.1 == m)).map (·.2) := by
  induction l with
  | nil => simp [dropFirst]
  | cons d l ih =>
    by_cases hd : d.1 = n <;> by_cases hm : m = n <;> by_cases hdm : d.1 = m <;> simp_all [dropFirst]

/-! ## A command at the head of the CMD ring (R119-R121) -/

/-- The command at the head has been taken, and nothing has been answered yet. -/
structure HeadTaken (s t : State) : Prop where
  ready : t.hif.ready = s.hif.ready
  running : t.hif.running = s.hif.running
  fetched : t.fetchedOf 0 = (s.fetchedOf 0).drop 1

theorem State.takeHead_taken (s : State) : HeadTaken s (s.takeHead 0) := by
  obtain ⟨u, f, c, h⟩ := s.takeHead_hif 0
  refine ⟨by rw [h], by rw [h], ?_⟩
  unfold State.fetchedOf
  rw [h]
  simpa using fetched_dropFirst 0 0 s.hif.fetched

/-- Operations behind the taking of the head leave CTRL's queues alone. -/
theorem HeadTaken.then {s t u : State} (h : HeadTaken s t) (hready : u.hif.ready = t.hif.ready) (hrun : u.hif.running = t.hif.running)
    (hf : u.hif.fetched = t.hif.fetched) : HeadTaken s u :=
  ⟨hready.trans h.ready, hrun.trans h.running, by rw [← h.fetched, State.fetchedOf, State.fetchedOf, hf]⟩

theorem HeadTaken.then_hif {s t u : State} (h : HeadTaken s t) (hif : u.hif = t.hif) : HeadTaken s u :=
  h.then (by rw [hif]) (by rw [hif]) (by rw [hif])

/-- A completion behind a taken head. -/
theorem HeadTaken.answered {s t : State} (h : HeadTaken s t) (d : Desc) (status : Nat) (result : U64) :
    Answered s (t.done d status result) d status result :=
  ⟨by rw [← h.ready]; rfl, h.fetched⟩

theorem HeadTaken.deferred {s t : State} (h : HeadTaken s t) (d : Desc) :
    Deferred s (t.defer d.tag d.irqNow d.opcode) d :=
  ⟨by rw [← h.running]; rfl, h.ready, h.fetched⟩

theorem regsBut_done (s : State) (d : Desc) (status : Nat) (result : U64) (os : List Off) : RegsBut s (s.done d status result) os :=
  .of_foot [.hif] (fun _ _ => done_foot _ _ _ _ (.refl s)) os

/-- Registers that the taking of a command changes. -/
abbrev headRegs : List Off := [Reg.RING_NODE_IDX 0, Reg.RING_ENTRY_CNT 0, Reg.MSIX_PBA 0]

/-- A command at the head has the opcode that its step asks for. -/
theorem State.cmdHead_opcode {s : State} {p : Nat → Bool} {d : Desc} (h : s.cmdHead p = some d) : p d.opcode = true := by
  unfold State.cmdHead at h
  split at h
  · cases h
  · dsimp only at h
    split at h
    · next hc =>
      cases h
      simp only [Bool.and_eq_true] at hc
      exact hc.1.1.1.1
    · cases h

/-- A DIR command that is accepted is carried out behind the taking of its descriptor. -/
theorem State.dirCmd_of_heads {s : State} {op : Nat} {d : Desc} (h : s.Heads op d) (f : Desc → State → State) :
    s.dirCmd op f = f d (s.takeHead 0) := by
  obtain ⟨hd, ha⟩ := h
  simp [State.dirCmd, hd, ha]

theorem State.heads_fresh {s : State} {op : Nat} {d : Desc} (h : s.Heads op d) : s.fresh.Heads op d := h

end Sys2Proof.Machine

/-! PROOFS. Completions, and the command-rate allowance (R119, R120, R122, R123, R505). -/

namespace Sys2Proof.Machine

/-- Settles O11: NOP and an unknown opcode answer behind the taken descriptor, and the oldest ready completion becomes CMPL's next entry. -/
theorem completionsOfCommands : Obligations.CompletionsOfCommands := by
  unfold Obligations.CompletionsOfCommands
  refine ⟨fun s d h => ⟨_, rfl, ?nop⟩, fun s d h => ⟨_, rfl, ?unknown⟩, fun s c l hcredit hnone hready => ⟨_, rfl, ?write⟩⟩
  case nop =>
    rw [State.dirCmd_of_heads (State.heads_fresh h)]
    exact ⟨s.fresh.takeHead_taken.answered d _ _, (regsBut_takeHead s.fresh 0).trans (regsBut_done _ _ _ _ _)⟩
  case unknown =>
    have hd : s.fresh.cmdHead (fun op => (opInfo op).isNone) = some d := h
    rw [hd]
    exact ⟨s.fresh.takeHead_taken.answered d _ _, (regsBut_takeHead s.fresh 0).trans (regsBut_done _ _ _ _ _)⟩
  case write =>
    generalize hu : ({ s.fresh with hif := { s.hif with ready := l, kept := s.hif.kept ++ [c] } } : State) = u
    have hrun : s.fresh.writeCompletion = u.postEntry 1 c.bytes c.irqNow := by
      have hcr : ¬ s.fresh.ringCredit 1 = 0 := Nat.ne_of_gt hcredit
      have hun : s.fresh.hif.unwritten = 0 := hnone
      have hrd : s.fresh.hif.ready = c :: l := hready
      rw [State.writeCompletion, if_neg hcr, if_neg (not_not.mpr hun), hrd, ← hu]
      rfl
    obtain ⟨v, hv⟩ := u.postEntry_hif 1 c.bytes c.irqNow
    have hidx := u.reg_postEntry_idx 1 c.bytes c.irqNow (by decide)
    have hposted := u.postEntry_posts 1 c.bytes c.irqNow
    have hregs := regsBut_postEntry u 1 c.bytes c.irqNow
    subst hu
    rw [hrun, hv]
    exact ⟨rfl, rfl, hidx, hposted, hregs⟩

/-! ## The allowance -/

/-- A REC command is not taken while the allowance is spent. -/
theorem State.recTake_of_held {s : State} (h : s.hif.allowance ≤ 0) (op : Nat) : s.recTake op = s := by
  have hheld : s.recHeld = true := decide_eq_true h
  unfold State.recTake
  split
  · rfl
  · rw [if_pos hheld]

theorem State.cfgTake_of_held {s : State} (h : s.cfgHeld = true) (op : Nat) (check : Desc → State → Nat × State ⊕ CmdUnit) :
    s.cfgTake op check = s := by
  unfold State.cfgTake
  split
  · rfl
  · rw [if_pos h]

/-- Settles O12: the allowance holds a command before anything else is looked at. -/
theorem allowanceHoldsCommands : Obligations.AllowanceHoldsCommands := by
  unfold Obligations.AllowanceHoldsCommands
  refine ⟨fun s => ⟨_, rfl, rfl, fun _ _ => rfl⟩, fun s img h i hi => ?_⟩
  have hrec (op : Nat) : s.fresh.recTake op = s.fresh := State.recTake_of_held (s := s.fresh) h op
  have hcfg (op : Nat) (check : Desc → State → Nat × State ⊕ CmdUnit) : s.fresh.cfgTake op check = s.fresh :=
    State.cfgTake_of_held (by simp [State.cfgHeld, State.recHeld, h]) op check
  simp only [List.mem_cons, List.not_mem_nil, or_false] at hi
  rcases hi with rfl | rfl | rfl | rfl | rfl | rfl | rfl | rfl | rfl | rfl | rfl | rfl | rfl | rfl | rfl | rfl
  · exact congrArg _ (hcfg _ _)
  · exact congrArg _ (hcfg _ _)
  · exact congrArg _ (hcfg _ _)
  · exact congrArg _ (hcfg _ _)
  · exact congrArg _ (hcfg _ _)
  · exact congrArg _ (hcfg _ _)
  · exact congrArg _ (hcfg _ _)
  all_goals exact congrArg _ (hrec _)

end Sys2Proof.Machine

/-! PROOFS. Pages, rings, vectors, and the resets of HIF (R34, R51, R99, R108-R110, R125-R129, R138). -/

namespace Sys2Proof.Machine

section

variable (s : State)

/-! ## Bits of registers -/

theorem State.rbit_setRegBit_self (o : Off) (i : Nat) (b : Bool) (hi : i < 32) : (s.setRegBit o i b).rbit o i = b := by
  rw [State.rbit, State.reg_setRegBit, if_pos rfl, bitAt_setFld, if_pos ⟨Nat.le_refl i, Nat.lt_succ_self i, hi⟩, Nat.sub_self]
  cases b <;> rfl

theorem State.rbit_of_reg {s t : State} {o : Off} (h : t.reg o = s.reg o) (i : Nat) : t.rbit o i = s.rbit o i := by
  rw [State.rbit, State.rbit, h]

theorem State.rfld_of_reg {s t : State} {o : Off} (h : t.reg o = s.reg o) (lo n : Nat) : t.rfld o lo n = s.rfld o lo n := by
  rw [State.rfld, State.rfld, h]

theorem State.rbit_setRegBit_ne (o p : Off) (i j : Nat) (b : Bool) (h : p ≠ o ∨ j ≠ i) : (s.setRegBit o i b).rbit p j = s.rbit p j := by
  rw [State.rbit, State.rbit, State.reg_setRegBit]
  split
  · next hp =>
    subst hp
    have hj : ¬ (i ≤ j ∧ j < i + 1 ∧ j < 32) := by have := h.resolve_left (not_not.mpr rfl); omega
    rw [bitAt_setFld, if_neg hj]
  · rfl

theorem State.rfld_setRegFld_self (o : Off) (lo n x : Nat) (h : lo + n ≤ 32) : (s.setRegFld o lo n x).rfld o lo n = x % 2 ^ n := by
  rw [State.rfld, State.reg_setRegFld, if_pos rfl, fld_setFld _ _ _ _ h]

theorem State.rfld_setRegFld_ne (o p : Off) (lo n x lo' n' : Nat) (h : p ≠ o ∨ lo' + n' ≤ lo ∨ lo + n ≤ lo') :
    (s.setRegFld o lo n x).rfld p lo' n' = s.rfld p lo' n' := by
  rw [State.rfld, State.rfld, State.reg_setRegFld]
  split
  · next hp => subst hp; rw [fld_setFld_ne _ _ _ _ _ _ (h.resolve_left (not_not.mpr rfl))]
  · rfl

/-! ## Enabling pages -/

/-- An accepted PAGES_EN (R108). -/
theorem State.pagesEnable_accepted (hoff : s.pagesOn = false) (hp : s.dbPage ≠ s.pair Reg.HIF_STATPAGE_LO Reg.HIF_STATPAGE_HI) :
    ∃ t : State, s.pagesEnable = (if s.hif.linkUp then t.emitOut (.hostWrite t.statPage t.nodeIdx) else t)
      ∧ t.hif = { s.hif with heartbeat := 0 } ∧ t.out = s.out ∧ RegsBut s t [Reg.HIF_CTL, Reg.HIF_STATUS]
      ∧ t.rbit Reg.HIF_CTL 0 = true ∧ t.rbit Reg.HIF_STATUS 0 = true := by
  refine ⟨(((s.setReg Reg.HIF_CTL 1).setRegBit Reg.HIF_STATUS 0 true).setRegBit Reg.HIF_STATUS 8 false).updHif
    (fun h => { h with heartbeat := 0 }), ?_, rfl, rfl, ?_, ?_, ?_⟩
  · rw [State.pagesEnable, if_neg (by simp [hoff]), if_neg hp]
    rfl
  · intro o ho
    simp only [List.mem_cons, List.not_mem_nil, or_false, not_or] at ho
    simp [ho]
  · exact (State.rbit_setRegBit_ne _ _ _ _ _ _ (.inl (by decide))).trans
      ((State.rbit_setRegBit_ne _ _ _ _ _ _ (.inl (by decide))).trans (by rw [State.rbit, State.reg_setReg, if_pos rfl]; decide))
  · exact (State.rbit_setRegBit_ne _ _ _ _ _ _ (.inr (by decide))).trans (State.rbit_setRegBit_self _ _ _ _ (by decide))

/-- What the status page gets depends on the rings' indices and its address alone. -/
theorem State.nodeIdx_congr {s t : State} (h : ∀ n, n < 31 → t.reg (Reg.RING_NODE_IDX n) = s.reg (Reg.RING_NODE_IDX n)) :
    t.nodeIdx = s.nodeIdx := by
  unfold State.nodeIdx
  refine List.flatMap_congr fun n hn => ?_
  split
  · rfl
  · rw [h n (by have := List.mem_range.mp hn; omega)]

theorem ring_not_hif {n k : Nat} (hn : n < 32) (hk : k < 0x40) : 0x1000 + k + 0x40 * n ∉ [Reg.HIF_CTL, Reg.HIF_STATUS] := by
  simp only [Reg.HIF_CTL, Reg.HIF_STATUS, List.mem_cons, List.not_mem_nil, or_false, not_or]
  exact ⟨Nat.ne_of_lt (by omega), Nat.ne_of_lt (by omega)⟩

/-! ## Rings -/

theorem State.redeliver_hif (n : Nat) : ∃ k, (s.redeliver n).hif = { s.hif with unwritten := k } := by
  unfold State.redeliver
  split
  · exact ⟨_, rfl⟩
  · split
    · exact ⟨_, rfl⟩
    · split <;> exact ⟨_, rfl⟩

theorem regsBut_redeliver (n : Nat) (os : List Off) : RegsBut s (s.redeliver n) os :=
  .of_foot [.outlet, .hif, .spawn] (fun _ _ => redeliver_foot _ _ (.refl s)) os

end

theorem bitAt_setBit_self (v : U32) (i : Nat) (b : Bool) (hi : i < 32) : bitAt (setBit v i b) i = b := by
  rw [setBit, bitAt_setFld, if_pos ⟨Nat.le_refl i, Nat.lt_succ_self i, hi⟩, Nat.sub_self]
  cases b <;> rfl

theorem need_of {ok : Bool} (h : ok = true) (s : State) : need ok s = .next s := by rw [need, if_pos h]

theorem bitAt_and (a b : U32) (i : Nat) : bitAt (a &&& b) i = (bitAt a i && bitAt b i) := by simp [bitAt]

theorem State.ringCtl_enable {s : State} {n : Nat} {v : U32} (hv : bitAt v 0 = true) (hoff : s.rbit (Reg.RING_CTL n) 0 = false)
    (hon : s.pagesOn = true) (hm : Node.setup ≤ s.mgmt) : s.ringCtl n v = (s.setReg (Reg.RING_CTL n) (v &&& 0x1F07)).ringStart n := by
  simp [State.ringCtl, hv, hoff, hon, State.hifReady, hm]

theorem State.ringCtl_disable {s : State} {n : Nat} {v : U32} (hv : bitAt v 0 = false) (hon : s.rbit (Reg.RING_CTL n) 0 = true) :
    s.ringCtl n v = (s.setReg (Reg.RING_CTL n) (v &&& 0x1F07)).ringStop n := by
  simp [State.ringCtl, hv, hon]

/-- What a ring that starts has (R127). -/
theorem State.ringStart_good {s : State} {n : Nat} (h6 : 6 ≤ s.rfld (Reg.RING_SIZE n) 0 5) (h16 : s.rfld (Reg.RING_SIZE n) 0 5 ≤ 16) :
    (s.ringStart n).rbit (Reg.RING_STATUS n) 0 = true ∧ (s.ringStart n).reg (Reg.RING_NODE_IDX n) = s.reg (Reg.RING_START n)
      ∧ (s.ringStart n).hostIdx n = s.reg (Reg.RING_START n)
      ∧ RegsBut s (s.ringStart n) [Reg.RING_STATUS n, Reg.RING_NODE_IDX n] := by
  have hsize : ¬ (!inRange 6 16 (s.rfld (Reg.RING_SIZE n) 0 5)) = true := by simp [inRange, h6, h16]
  generalize hu : ((((s.setReg (Reg.RING_NODE_IDX n) (s.reg (Reg.RING_START n))).setHostIdx n (s.reg (Reg.RING_START n))).setRegBit
    (Reg.RING_STATUS n) 0 true).updHif (fun h => { h with unsig := Sparse.set 0 h.unsig n 0 })) = u
  have hrun : s.ringStart n = u.redeliver n := by rw [State.ringStart, if_neg hsize, ← hu]
  obtain ⟨k, hk⟩ := u.redeliver_hif n
  have hreg (o : Off) : (u.redeliver n).reg o = u.reg o := regsBut_redeliver u n [] o List.not_mem_nil
  rw [hrun, State.rbit_of_reg (hreg _), hreg, State.hostIdx, hk]
  refine ⟨?_, ?_, ?_, (RegsBut.trans ?_ (regsBut_redeliver u n _))⟩
  · subst hu
    exact State.rbit_setRegBit_self _ _ _ _ (by decide)
  · subst hu
    exact (regsBut_setRegBit _ _ _ _ _ (by simp)).trans (by simp [State.setHostIdx, State.reg])
  · subst hu
    simp [State.setHostIdx]
  · subst hu
    exact RegsBut.trans (t := s.setReg (Reg.RING_NODE_IDX n) (s.reg (Reg.RING_START n))) ((regsBut_setReg _ _ _).mono (by simp))
      ((regsBut_setRegBit (State.setHostIdx _ n _) _ _ _).mono (by simp))

theorem fld_lt {w : Nat} (v : BitVec w) (lo n : Nat) : fld v lo n < 2 ^ n := Nat.mod_lt _ (Nat.two_pow_pos n)

theorem State.sendVector_masked {s : State} {v : Nat} (h : s.rbit (Reg.MSIX v 3) 0 = true) :
    s.sendVector v = s.setRegBit (Reg.MSIX_PBA 0) v true := if_pos h

theorem State.sendVector_open {s : State} {v : Nat} (h : s.rbit (Reg.MSIX v 3) 0 = false) : s.sendVector v = s.emitOut (.msix v) :=
  if_neg (Bool.eq_false_iff.mp h)

/-- Settles O5: each write is one of the pages' or the ring's few registers. -/
theorem pagesRingsAndVectors : Obligations.PagesRingsAndVectors := by
  unfold Obligations.PagesRingsAndVectors
  refine ⟨⟨fun s hm hoff hp => ⟨_, rfl, ?enable⟩, fun s hm => ⟨_, rfl, ?disable⟩,
      fun s n v hn hm hon hen h6 h16 => ⟨_, need_of (decide_eq_true hn) _, ?ringOn⟩,
      fun s n v hn hm hen => ⟨_, need_of (decide_eq_true hn) _, ?ringOff⟩⟩,
    fun s hb hon hl => ⟨_, rfl, ?page⟩, fun s n hn hen hu => ⟨_, need_of (decide_eq_true hn) _, ?mod⟩,
    fun s vec hv hm => ⟨_, need_of (decide_eq_true hv) _, ?mask⟩⟩
  case enable =>
    rw [s.fresh.fromSetup_of_le _ _ _ hm]
    obtain ⟨t, ht, hhif, hout, hregs, hctl, hstat⟩ := s.fresh.pagesEnable_accepted hoff hp
    have hidx : t.nodeIdx = s.nodeIdx := State.nodeIdx_congr fun n hn => hregs _ (ring_not_hif (n := n) (k := 0x18) (by omega) (by decide))
    have hpage : t.statPage = s.statPage := by
      rw [State.statPage, State.pair, hregs _ (by decide), hregs _ (by decide)]
      rfl
    rw [ht, hidx, hpage]
    split
    · next hl => exact ⟨hctl, hstat, hhif, by simp [hout, show s.hif.linkUp = true from hl], hregs⟩
    · next hl => exact ⟨hctl, hstat, hhif, hout.trans (if_neg hl).symm, hregs⟩
  case disable =>
    rw [s.fresh.fromSetup_of_le _ _ _ hm]
    have h2 : RegsBut s (s.setReg Reg.HIF_CTL 0) [Reg.HIF_CTL, Reg.HIF_STATUS] := (regsBut_setReg _ _ _).mono (by simp)
    refine ⟨(State.rbit_setRegBit_ne _ _ _ _ _ _ (.inl (by decide))).trans (by rw [State.rbit, State.reg_setReg, if_pos rfl]; decide),
      State.rbit_setRegBit_self _ _ _ _ (by decide), rfl, h2.trans ((regsBut_setRegBit _ _ _ _).mono (by simp))⟩
  case ringOn =>
    rw [s.fresh.fromSetup_of_le _ _ _ hm, State.ringCtl_enable (s := s.fresh) (bitAt_setBit_self v 0 true (by decide)) hen hon hm]
    have hput : RegsBut s (s.fresh.setReg (Reg.RING_CTL n) (setBit v 0 true &&& 0x1F07)) [Reg.RING_CTL n] := regsBut_setReg s.fresh _ _
    have hsize := State.rfld_of_reg (hput (Reg.RING_SIZE n) (by simp)) 0 5
    obtain ⟨hact, hidx, hhost, hregs⟩ := State.ringStart_good (hsize.symm ▸ h6) (hsize.symm ▸ h16)
    rw [hput _ (by simp)] at hidx hhost
    refine ⟨?_, hact, hidx, hhost, (hput.mono (by simp)).trans (hregs.mono (by simp))⟩
    rw [State.rbit_of_reg (hregs _ (by simp)), State.rbit, State.reg_setReg, if_pos rfl, bitAt_and, bitAt_setBit_self _ _ _ (by decide)]
    decide
  case ringOff =>
    rw [s.fresh.fromSetup_of_le _ _ _ hm, State.ringCtl_disable (s := s.fresh) (bitAt_setBit_self v 0 false (by decide)) hen]
    refine ⟨?_, ?_, ?_, ?_⟩
    · rw [State.rbit, State.ringStop, State.reg_updHif, State.reg_setReg, if_neg (by simp), State.reg_setReg, if_pos rfl, bitAt_and,
        bitAt_setBit_self _ _ _ (by decide)]
      rfl
    · simp [State.ringStop]
    · simp [State.ringStop, State.fetchedOf]
    · exact RegsBut.trans (t := s.setReg (Reg.RING_CTL n) (setBit v 0 false &&& 0x1F07)) ((regsBut_setReg _ _ _).mono (by simp))
        ((regsBut_setReg _ _ _).mono (by simp))
  case page =>
    have hb' : s.fresh.hif.beating = true := hb
    have hon' : (s.fresh.updHif fun h => { h with heartbeat := h.heartbeat + 1 }).pagesOn = true := hon
    have hl' : (s.fresh.updHif fun h => { h with heartbeat := h.heartbeat + 1 }).hif.linkUp = true := hl
    rw [State.pageTick, if_pos hb']
    dsimp only
    rw [hon', hl']
    exact ⟨rfl, rfl, .refl _ _⟩
  case mod =>
    have hdue : (s.fresh.rbit (Reg.RING_CTL n) 1 && Sparse.get 0 s.fresh.hif.unsig n != 0) = true := by
      rw [Bool.and_eq_true, bne_iff_ne]
      exact ⟨hen, hu⟩
    rw [if_pos hdue]
    refine ⟨regsBut_sendVector _ _, ?_⟩
    have hvec : s.rfld (Reg.RING_CTL n) 8 5 < 32 := fld_lt _ _ _
    split
    · next hmask =>
      rw [State.sendVector_masked (by exact hmask)]
      exact ⟨State.rbit_setRegBit_self _ _ _ _ hvec, rfl⟩
    · next hmask =>
      rw [State.sendVector_open (by exact Bool.eq_false_iff.mpr hmask)]
      rfl
  case mask =>
    rw [s.fresh.fromSetup_of_le _ _ _ hm]
    have hpba : Reg.MSIX_PBA 0 ≠ Reg.MSIX vec 3 := Nat.ne_of_gt (by simp only [Reg.MSIX, Reg.MSIX_PBA]; omega)
    have hunmask : RegsBut s (s.fresh.setRegBit (Reg.MSIX vec 3) 0 false) [Reg.MSIX vec 3] := regsBut_setRegBit s.fresh _ _ _
    have hheld := State.rbit_of_reg (hunmask (Reg.MSIX_PBA 0) (by simpa using hpba)) vec
    have hopen : (s.fresh.setRegBit (Reg.MSIX vec 3) 0 false).rbit (Reg.MSIX vec 3) 0 = false := State.rbit_setRegBit_self _ _ _ _ (by decide)
    rw [State.unmask, hheld]
    cases hb : s.rbit (Reg.MSIX_PBA 0) vec
    · exact ⟨hopen, hheld.trans hb, rfl, hunmask.mono (by simp)⟩
    · refine ⟨(State.rbit_setRegBit_ne _ _ _ _ _ _ (.inl hpba.symm)).trans hopen, State.rbit_setRegBit_self _ _ _ _ hv, rfl,
        (hunmask.mono (by simp)).trans ((regsBut_setRegBit _ _ _ _).mono (by simp))⟩

end Sys2Proof.Machine

/-! PROOFS. Resets of HIF, the link, doorbells and descriptors (R34, R51, R99, R105, R107, R111, R129, R137). -/

namespace Sys2Proof.Machine

/-! ## Resets of HIF -/

/-- After a reset of HIF its registers read their reset values, but for the two counts and the link's state (R129). -/
theorem State.reg_hifReset (s : State) (o : Off) (ho : o ≠ Reg.HIF_STATUS) :
    s.hifReset.reg o = if hifCleared o then regReset s.behavBoot o else s.reg o := by
  unfold State.hifReset
  extract_lets hif keep u
  rw [State.reg_updHif, State.reg_setReg, if_neg ho]
  have hfind : Sparse.find u.regs o = if (!hif o || keep o) then Sparse.find s.regs o else none :=
    Sparse.find_filter (fun p => !hif p || keep p) s.regs o
  have hkeep : (!hif o || keep o) = !hifCleared o := by
    unfold hifCleared hif keep
    generalize ((decide (0x1000 ≤ o) && decide (o < 0x1900)) || (decide (0x3000 ≤ o) && decide (o < 0x3900))) = b
    simp only [bne, Bool.not_and, Bool.not_not, Bool.or_assoc]
  rw [hkeep] at hfind
  unfold State.reg
  rw [hfind]
  cases hifCleared o <;> rfl

/-- What a reset of HIF leaves, and any writes to its two counts and its status behind it. -/
theorem State.hifReset_then {s t : State} (hregs : RegsBut s.hifReset t [Reg.HIF_FLR_CNT, Reg.HIF_LINKDOWN_CNT, Reg.HIF_STATUS])
    (hboot : t.behavBoot = s.behavBoot) (hinlet : t.inlet = s.inlet) (hout : t.outlet = s.outlet)
    (hhif : ∃ l d, t.hif = { s.hifReset.hif with linkUp := l, d3hot := d }) : HifReset s t := by
  obtain ⟨l, d, hhif⟩ := hhif
  have hreg (o : Off) (h1 : o ≠ Reg.HIF_FLR_CNT) (h2 : o ≠ Reg.HIF_LINKDOWN_CNT) (h3 : o ≠ Reg.HIF_STATUS) :
      t.reg o = if hifCleared o then regReset s.behavBoot o else s.reg o := by
    rw [hregs o (by simp [h1, h2, h3]), s.reg_hifReset o h3]
  refine ⟨fun o ho => ?_, fun o ho h1 h2 h3 => ?_, ?_, ?_⟩
  · rw [hreg o (by rintro rfl; cases ho) (by rintro rfl; cases ho) (by rintro rfl; cases ho), if_pos ho, hboot]
  · rw [hreg o h1 h2 h3, if_neg (Bool.eq_false_iff.mp ho)]
  · rw [hhif]
    exact ⟨rfl, rfl, rfl, hinlet, hout⟩
  · rw [hhif]
    exact ⟨rfl, rfl, rfl, rfl⟩

theorem State.reg_hifReset_flr (s : State) : s.hifReset.reg Reg.HIF_FLR_CNT = s.reg Reg.HIF_FLR_CNT := s.reg_hifReset _ (by decide)

theorem State.reg_hifReset_linkDown (s : State) : s.hifReset.reg Reg.HIF_LINKDOWN_CNT = s.reg Reg.HIF_LINKDOWN_CNT :=
  s.reg_hifReset _ (by decide)

/-- A link that goes down resets HIF, and is counted. -/
theorem State.linkLost_reset (s : State) : HifReset s s.linkLost := by
  refine State.hifReset_then ?_ rfl rfl rfl ⟨false, s.hif.d3hot, rfl⟩
  exact RegsBut.trans (t := s.hifReset.setRegFld Reg.HIF_STATUS 1 7 0) ((regsBut_setRegFld _ _ _ _ _).mono (by simp))
    ((regsBut_bump _ _).mono (by simp))

theorem HifReset.d3hot {s t : State} (h : HifReset s t) (d : Bool) : HifReset s (t.updHif (fun h => { h with d3hot := d })) :=
  ⟨h.cleared, h.kept, h.taken, h.fetched⟩

theorem HifReset.of_fresh {s t : State} (h : HifReset s.fresh t) : HifReset s t := ⟨h.cleared, h.kept, h.taken, h.fetched⟩

theorem State.reg_linkLost (s : State) (o : Off) (ho : o ≠ Reg.HIF_STATUS) :
    s.linkLost.reg o = if o = Reg.HIF_LINKDOWN_CNT then satAdd (s.reg o) 1 else s.hifReset.reg o := by
  rw [State.linkLost, State.reg_updHif, State.reg_bump, State.reg_setRegFld, State.reg_setRegFld, if_neg ho,
    if_neg (show Reg.HIF_LINKDOWN_CNT ≠ Reg.HIF_STATUS by decide),
    s.reg_hifReset_linkDown]
  split
  · next h => rw [h]
  · rfl

/-- Settles O6: each of the four is the reset of HIF with its count. -/
theorem linkAndFunctionResets : Obligations.LinkAndFunctionResets := by
  unfold Obligations.LinkAndFunctionResets
  have hdown (s : State) : s.linkLost.reg Reg.HIF_LINKDOWN_CNT = satAdd (s.reg Reg.HIF_LINKDOWN_CNT) 1 := s.reg_linkLost _ (by decide)
  refine ⟨fun s => ⟨_, rfl, ?flr⟩, fun s => ⟨_, rfl, ?perst⟩, fun s hup => ⟨⟨s.fresh.linkLost, congrArg _ (if_pos hup), ?down⟩,
      ⟨s.fresh.linkLost.updHif (fun h => { h with d3hot := true }), ?hotRun, ?hot⟩⟩,
    fun s speed width h1 h2 h3 h4 hoff => ⟨s.fresh.linkTrain speed width, ?upRun, ?up⟩⟩
  case flr =>
    refine ⟨State.hifReset_then (s := s) ((regsBut_bump _ _).mono (by simp)) rfl rfl rfl ⟨_, _, rfl⟩, ?_, ?_, rfl⟩
    · rw [State.reg_bump, if_pos rfl, State.reg_hifReset_flr]
      rfl
    · rw [State.reg_bump, if_neg (by decide), State.reg_hifReset_linkDown]
      rfl
  case perst =>
    refine ⟨s.fresh.linkLost_reset.of_fresh, rfl, ?_, hdown s.fresh⟩
    rw [State.reg_linkLost _ _ (by decide), if_neg (by decide), State.reg_hifReset_flr]
    rfl
  case down => exact ⟨s.fresh.linkLost_reset.of_fresh, rfl, hdown s.fresh⟩
  case hotRun =>
    have h : s.fresh.hif.linkUp = true := hup
    exact congrArg (fun t : State => Host.Outcome.next (t.updHif _)) (if_pos h)
  case hot => exact ⟨(s.fresh.linkLost_reset.d3hot true).of_fresh, rfl, rfl, hdown s.fresh⟩
  case upRun =>
    exact (need_of (by simp [inRange, h1, h2, h3, h4]) _).trans (congrArg _ (if_neg (Bool.eq_false_iff.mp hoff)))
  case up =>
    refine ⟨rfl, ?_, ?_, ?_⟩
    · exact (State.rfld_setRegFld_ne _ _ _ _ _ _ _ _ (.inr (by decide))).trans
        ((State.rfld_setRegFld_self _ _ _ _ _ (by decide)).trans (Nat.mod_eq_of_lt (by omega)))
    · exact (State.rfld_setRegFld_self _ _ _ _ _ (by decide)).trans (Nat.mod_eq_of_lt (by omega))
    · exact RegsBut.trans (t := s.setRegFld Reg.HIF_STATUS 1 3 speed) (regsBut_setRegFld _ _ _ _ _) (regsBut_setRegFld _ _ _ _ _)

end Sys2Proof.Machine

/-! PROOFS. Bits and fields of a register after the writes that the operations are built from. -/

namespace Sys2Proof.Machine

section

variable (s : State)

/-! ## A register written -/

theorem bitAt_setBit (v : U32) (i j : Nat) (b : Bool) : bitAt (setBit v i b) j = if j = i ∧ i < 32 then b else bitAt v j := by
  rw [setBit, bitAt_setFld]
  by_cases h : j = i ∧ i < 32
  · obtain ⟨rfl, hj⟩ := h
    rw [if_pos ⟨Nat.le_refl _, Nat.lt_succ_self _, hj⟩, if_pos ⟨rfl, hj⟩, Nat.sub_self]
    cases b <;> rfl
  · rw [if_neg h, if_neg (by omega)]

theorem bitAt_or (a b : U32) (i : Nat) : bitAt (a ||| b) i = (bitAt a i || bitAt b i) := by simp [bitAt]

@[simp] theorem State.rbit_setReg (o p : Off) (v : U32) (j : Nat) : (s.setReg o v).rbit p j = if p = o then bitAt v j else s.rbit p j := by
  rw [State.rbit, State.reg_setReg]
  split <;> rfl

@[simp] theorem State.rbit_setRegBit (o p : Off) (i j : Nat) (b : Bool) :
    (s.setRegBit o i b).rbit p j = if p = o ∧ j = i ∧ i < 32 then b else s.rbit p j := by
  by_cases h : p = o ∧ j = i ∧ i < 32
  · obtain ⟨rfl, rfl, hi⟩ := h
    rw [if_pos ⟨rfl, rfl, hi⟩, s.rbit_setRegBit_self _ _ _ hi]
  · rw [if_neg h, State.rbit, State.reg_setRegBit]
    split
    · next hp =>
      subst hp
      rw [bitAt_setFld, if_neg (by simp only [true_and] at h; omega)]
      rfl
    · rfl

@[simp] theorem State.rbit_setRegFld (o p : Off) (lo n x j : Nat) :
    (s.setRegFld o lo n x).rbit p j = if p = o ∧ lo ≤ j ∧ j < lo + n ∧ j < 32 then x.testBit (j - lo) else s.rbit p j := by
  rw [State.rbit, State.reg_setRegFld]
  by_cases hp : p = o
  · subst hp
    rw [if_pos rfl, bitAt_setFld]
    simp only [true_and]
    split <;> rfl
  · rw [if_neg hp, if_neg (fun h => hp h.1)]
    rfl

@[simp] theorem State.rbit_bump (o p : Off) (j : Nat) (h : p ≠ o) : (s.bump o).rbit p j = s.rbit p j :=
  State.rbit_of_reg (by rw [State.reg_bump, if_neg h]) j

@[simp] theorem State.rbit_bumpBy (o p : Off) (n j : Nat) (h : p ≠ o) : (s.bumpBy o n).rbit p j = s.rbit p j :=
  State.rbit_of_reg (by rw [State.bumpBy, State.reg_setReg, if_neg h]) j

@[simp] theorem State.rbit_raise (o p : Off) (m j : Nat) (h : p ≠ Reg.MSIX_PBA 0) :
    (s.raise o m).rbit p j = if p = o then s.rbit p j || bitAt (BitVec.ofNat 32 m) j else s.rbit p j := by
  rw [State.rbit, s.reg_raise o p m h]
  split
  · next hp => rw [bitAt_or, hp]; rfl
  · rfl

@[simp] theorem State.rfld_setReg (o p : Off) (v : U32) (lo n : Nat) :
    (s.setReg o v).rfld p lo n = if p = o then fld v lo n else s.rfld p lo n := by
  rw [State.rfld, State.reg_setReg]
  split <;> rfl

theorem State.rfld_setRegBit_ne (o p : Off) (i lo n : Nat) (b : Bool) (h : p ≠ o ∨ lo + n ≤ i ∨ i < lo) :
    (s.setRegBit o i b).rfld p lo n = s.rfld p lo n := s.rfld_setRegFld_ne _ _ _ _ _ _ _ h

@[simp] theorem State.rfld_bump (o p : Off) (lo n : Nat) (h : p ≠ o) : (s.bump o).rfld p lo n = s.rfld p lo n :=
  State.rfld_of_reg (by rw [State.reg_bump, if_neg h]) lo n

@[simp] theorem State.rfld_raise (o p : Off) (m lo n : Nat) (h : p ≠ Reg.MSIX_PBA 0) (hp : p ≠ o) :
    (s.raise o m).rfld p lo n = s.rfld p lo n := State.rfld_of_reg (by rw [s.reg_raise o p m h, if_neg hp]) lo n

/-! ## Updates that write no register -/

@[simp] theorem State.rbit_fresh (o : Off) (i : Nat) : s.fresh.rbit o i = s.rbit o i := rfl
@[simp] theorem State.rfld_fresh (o : Off) (lo n : Nat) : s.fresh.rfld o lo n = s.rfld o lo n := rfl
@[simp] theorem State.rbit_emitOut (x : Output) (o : Off) (i : Nat) : (s.emitOut x).rbit o i = s.rbit o i := rfl
@[simp] theorem State.rfld_emitOut (x : Output) (o : Off) (lo n : Nat) : (s.emitOut x).rfld o lo n = s.rfld o lo n := rfl
@[simp] theorem State.rbit_tarnWrite (a : Off) (l : List Byte) (o : Off) (i : Nat) : (s.tarnWrite a l).rbit o i = s.rbit o i := rfl
@[simp] theorem State.rfld_tarnWrite (a : Off) (l : List Byte) (o : Off) (lo n : Nat) : (s.tarnWrite a l).rfld o lo n = s.rfld o lo n := rfl
@[simp] theorem State.rbit_updHif (f : Hif → Hif) (o : Off) (i : Nat) : (s.updHif f).rbit o i = s.rbit o i := rfl
@[simp] theorem State.rfld_updHif (f : Hif → Hif) (o : Off) (lo n : Nat) : (s.updHif f).rfld o lo n = s.rfld o lo n := rfl
@[simp] theorem State.rbit_updSkink (f : Skink → Skink) (o : Off) (i : Nat) : (s.updSkink f).rbit o i = s.rbit o i := rfl
@[simp] theorem State.rfld_updSkink (f : Skink → Skink) (o : Off) (lo n : Nat) : (s.updSkink f).rfld o lo n = s.rfld o lo n := rfl
@[simp] theorem State.rbit_updSpawn (f : Spawn → Spawn) (o : Off) (i : Nat) : (s.updSpawn f).rbit o i = s.rbit o i := rfl
@[simp] theorem State.rfld_updSpawn (f : Spawn → Spawn) (o : Off) (lo n : Nat) : (s.updSpawn f).rfld o lo n = s.rfld o lo n := rfl
@[simp] theorem State.rbit_updOutlet (f : Outlet → Outlet) (o : Off) (i : Nat) : (s.updOutlet f).rbit o i = s.rbit o i := rfl
@[simp] theorem State.rfld_updOutlet (f : Outlet → Outlet) (o : Off) (lo n : Nat) : (s.updOutlet f).rfld o lo n = s.rfld o lo n := rfl
@[simp] theorem State.rbit_updDio (f : Dio → Dio) (o : Off) (i : Nat) : (s.updDio f).rbit o i = s.rbit o i := rfl
@[simp] theorem State.rfld_updDio (f : Dio → Dio) (o : Off) (lo n : Nat) : (s.updDio f).rfld o lo n = s.rfld o lo n := rfl
@[simp] theorem State.rbit_updWs (f : Wellspring → Wellspring) (o : Off) (i : Nat) : (s.updWs f).rbit o i = s.rbit o i := rfl
@[simp] theorem State.rfld_updWs (f : Wellspring → Wellspring) (o : Off) (lo n : Nat) : (s.updWs f).rfld o lo n = s.rfld o lo n := rfl
@[simp] theorem State.rbit_updRtc (f : Rtc → Rtc) (o : Off) (i : Nat) : (s.updRtc f).rbit o i = s.rbit o i := rfl
@[simp] theorem State.rfld_updRtc (f : Rtc → Rtc) (o : Off) (lo n : Nat) : (s.updRtc f).rfld o lo n = s.rfld o lo n := rfl
@[simp] theorem State.rbit_updPanel (f : Panel → Panel) (o : Off) (i : Nat) : (s.updPanel f).rbit o i = s.rbit o i := rfl
@[simp] theorem State.rfld_updPanel (f : Panel → Panel) (o : Off) (lo n : Nat) : (s.updPanel f).rfld o lo n = s.rfld o lo n := rfl
@[simp] theorem State.rbit_updNvm (f : Nvm → Nvm) (o : Off) (i : Nat) : (s.updNvm f).rbit o i = s.rbit o i := rfl
@[simp] theorem State.rfld_updNvm (f : Nvm → Nvm) (o : Off) (lo n : Nat) : (s.updNvm f).rfld o lo n = s.rfld o lo n := rfl
@[simp] theorem State.rbit_updUpd (f : Upd → Upd) (o : Off) (i : Nat) : (s.updUpd f).rbit o i = s.rbit o i := rfl
@[simp] theorem State.rfld_updUpd (f : Upd → Upd) (o : Off) (lo n : Nat) : (s.updUpd f).rfld o lo n = s.rfld o lo n := rfl
@[simp] theorem State.rbit_updGecko (f : Gecko → Gecko) (o : Off) (i : Nat) : (s.updGecko f).rbit o i = s.rbit o i := rfl
@[simp] theorem State.rfld_updGecko (f : Gecko → Gecko) (o : Off) (lo n : Nat) : (s.updGecko f).rfld o lo n = s.rfld o lo n := rfl
@[simp] theorem State.rbit_updCan (n : Nat) (f : Can → Can) (o : Off) (i : Nat) : (s.updCan n f).rbit o i = s.rbit o i := rfl
@[simp] theorem State.rfld_updCan (ch : Nat) (f : Can → Can) (o : Off) (lo n : Nat) : (s.updCan ch f).rfld o lo n = s.rfld o lo n := rfl

end

end Sys2Proof.Machine

/-! PROOFS. The slot store commands, and the management writes (R81, R82, R86, R88, R90, R92, R520). -/

namespace Sys2Proof.Machine

theorem RegsBut.all {s t : State} (h : RegsBut s t []) (o : Off) : t.reg o = s.reg o := h o List.not_mem_nil

section

variable (s : State)

@[simp] theorem State.mgmt_fresh : s.fresh.mgmt = s.mgmt := rfl

theorem regsBut_writeSlot (r : List Byte) (os : List Off) : RegsBut s (s.writeSlot r) os :=
  .of_foot [.nvm, .gecko] (fun _ _ => writeSlot_foot _ _ (.refl s)) os

theorem regsBut_takeDigest : RegsBut s s.takeDigest [Reg.MGMT_SS_STATUS, Reg.INLET_CFG_EPOCH] := by
  intro o ho
  simp only [List.mem_cons, List.not_mem_nil, or_false, not_or] at ho
  unfold State.takeDigest
  dsimp only
  repeat' split
  all_goals simp [ho]

theorem State.cfgDirty_takeDigest : s.takeDigest.cfgDirty = false := by
  unfold State.takeDigest State.cfgDirty
  dsimp only
  repeat' split
  all_goals simp

theorem State.ss_takeDigest : s.takeDigest.ss = s.ss := by
  unfold State.takeDigest State.ss
  dsimp only
  repeat' split
  all_goals simp [State.rfld_setRegBit_ne]

theorem State.takeDigest_nvm : s.takeDigest.nvm = s.nvm := same_of_foot [.regs] (fun _ _ => takeDigest_foot _ (.refl s)) .nvm

theorem State.ss_setSs (st : Nat) (h : st < 8) : (s.setSs st).ss = st := by
  rw [State.setSs, State.ss, s.rfld_setRegFld_self _ _ _ _ (by decide)]
  exact Nat.mod_eq_of_lt h

theorem regsBut_setSs (st : Nat) : RegsBut s (s.setSs st) [Reg.MGMT_SS_STATUS] := regsBut_setRegFld _ _ _ _ _

/-- The end of a slot store command is shown in MGMT_EVT (R90). -/
theorem State.rbit_ssDone : s.ssDone.rbit Reg.MGMT_EVT 1 = true := State.rbit_raise_self _ _ _ _ (by decide) (by decide)

theorem regsBut_ssDone : RegsBut s s.ssDone [Reg.MGMT_EVT, Reg.MSIX_PBA 0] := regsBut_raise _ _ _

theorem State.ss_ssDone : s.ssDone.ss = s.ss := State.rfld_of_reg (regsBut_ssDone s _ (by decide)) _ _

theorem State.cfgDirty_ssDone : s.ssDone.cfgDirty = s.cfgDirty := State.rbit_of_reg (regsBut_ssDone s _ (by decide)) _

/-- The saving of a base generation starts, where one is needed, and shows in no register. -/
theorem regsBut_startBase (c : Bool) (os : List Off) : RegsBut s (if c then s.startBase else s) os := by
  split
  · exact .of_foot [.gecko] (fun _ _ => startBase_foot _ (.refl s)) os
  · exact .refl s os

theorem State.startBase_nvm (c : Bool) : (if c then s.startBase else s).nvm = s.nvm := by
  split
  · exact same_of_foot [.gecko] (fun _ _ => startBase_foot _ (.refl s)) .nvm
  · rfl

/-- The forerunner's definitions and lists lie above the node's own registers. -/
theorem State.reg_forerunner (o : Off) (h : o < 0x9000) : s.forerunner.reg o = s.reg o := by
  unfold State.forerunner
  refine (foldl_same (fun t : State => t.reg o) _ ?_ _ _).trans rfl
  intro t n
  have hstore : (t.tarnStore (Tarn.CHANDEF + 64 * n) (forerunnerDef n)).reg o = t.reg o :=
    RegsBut.all (.of_foot [.tarn, .gecko] (fun _ _ => tarnStore_foot _ _ _ (.refl t)) []) o
  dsimp only
  split
  · rw [State.setScan, State.reg_setReg, if_neg (Nat.ne_of_lt (Nat.lt_of_lt_of_le h (by simp only [Reg.LANE_SCAN]; omega))), hstore]
  · exact hstore

theorem State.rfld_setFmode : s.setFmode.rfld Reg.MGMT_FMODE 0 2 = s.rfld Reg.MGMT_FMODE 0 2 := by
  unfold State.setFmode
  dsimp only
  split <;> simp [State.rfld_setRegFld_ne]

/-- A command of the slot store, its record written, takes the digest. -/
theorem State.commissionNow_eq {s : State} (hm : s.mgmt = Node.setup) (hu : s.ss ≠ Ss.unreadable) (hb : s.ss ≠ Ss.bypassed) :
    ∃ u : State, s.commissionNow = u.ssDone ∧ RegsBut s u [Reg.MGMT_SS_STATUS, Reg.INLET_CFG_EPOCH] ∧ u.cfgDirty = false
      ∧ u.ss = (if lockRev (s.rfld Reg.MGMT_BEHAV_LOCK 0 8) = s.behav then Ss.valid else Ss.resetRequired)
      ∧ u.nvm = (s.writeSlot s.newRecord).nvm := by
  have hok : ¬ (s.mgmt != Node.setup || s.ss = Ss.unreadable || s.ss = Ss.bypassed) = true := by simp [hm, hu, hb]
  have hw := regsBut_writeSlot s s.newRecord [Reg.MGMT_SS_STATUS, Reg.INLET_CFG_EPOCH]
  rw [State.commissionNow, if_neg hok]
  extract_lets w same t
  have hsame : same = decide (lockRev (s.rfld Reg.MGMT_BEHAV_LOCK 0 8) = s.behav) := by
    unfold same State.behav
    rw [State.rfld_of_reg (hw _ (by decide)), State.rfld_of_reg (hw _ (by decide))]
    rfl
  have hss : (w.setSs (if same then Ss.valid else Ss.resetRequired)).ss = (if same then Ss.valid else Ss.resetRequired) :=
    State.ss_setSs _ _ (by split <;> decide)
  have hregs : RegsBut s t [Reg.MGMT_SS_STATUS, Reg.INLET_CFG_EPOCH] :=
    hw.trans (((regsBut_setSs w _).mono (by simp)).trans (regsBut_takeDigest _))
  refine ⟨_, rfl, hregs.trans (regsBut_startBase t _ _), ?_, ?_, ?_⟩
  · exact (State.rbit_of_reg (regsBut_startBase t _ [] _ List.not_mem_nil) _).trans (State.cfgDirty_takeDigest _)
  · refine (State.rfld_of_reg (regsBut_startBase t _ [] _ List.not_mem_nil) _ _).trans ((State.ss_takeDigest _).trans (hss.trans ?_))
    rw [hsame]
    simp only [decide_eq_true_eq]
  · rw [State.startBase_nvm, State.takeDigest_nvm]
    rfl

end

/-- Settles O3: a slot store command writes MGMT_SS_STATUS and shows its end; the management writes are of one register each. -/
theorem slotStoreAndManagement : Obligations.SlotStoreAndManagement := by
  unfold Obligations.SlotStoreAndManagement
  refine ⟨⟨fun s ticks hm hu hb => ⟨_, rfl, ?commission⟩, fun s hm => ⟨_, rfl, ?verify⟩, fun s r hm hss hr => ⟨_, rfl, ?accept⟩,
      fun s hm hss => ⟨_, rfl, ?bypass⟩⟩, fun s v hm hv => ⟨_, rfl, ?fmode⟩, fun s v hm hp => ⟨_, rfl, ?quiet⟩,
    fun s v hm hp hen hmask => ⟨_, rfl, ?rearm⟩, fun s v hm => ⟨_, rfl, ?intEn⟩⟩
  case commission =>
    obtain ⟨u, hu, hregs, hdirty, hss, hnvm⟩ := State.commissionNow_eq hm hu hb
    rw [hu]
    exact ⟨(State.cfgDirty_ssDone u).trans hdirty, State.rbit_ssDone u, (State.ss_ssDone u).trans hss,
      congrArg Nvm.slotStore ((same_of_foot [.regs] (fun _ _ => ssDone_foot _ (.refl u)) .nvm).trans hnvm)⟩
  case verify =>
    have hrun : s.fresh.verifyNow = s.fresh.takeDigest.ssDone := if_neg (by simpa using hm)
    rw [hrun]
    exact ⟨(State.cfgDirty_ssDone _).trans (State.cfgDirty_takeDigest _), State.rbit_ssDone _,
      ((regsBut_takeDigest s.fresh).mono (by simp)).trans ((regsBut_ssDone _).mono (by simp))⟩
  case accept =>
    have hrun : s.fresh.acceptNow =
        ((s.fresh.writeSlot (patch r 0xD [BitVec.ofNat 8 (s.rfld Reg.MGMT_SLOT_ID 0 6)])).setSs Ss.valid).ssDone := by
      have hrec : s.fresh.slotRecord = some r := hr
      rw [State.acceptNow, hrec]
      exact if_neg (by simp [hm, show s.fresh.ss = Ss.mismatch from hss])
    rw [hrun]
    refine ⟨(State.ss_ssDone _).trans (State.ss_setSs _ _ (by decide)), State.rbit_ssDone _,
      congrArg Nvm.slotStore (same_of_foot [.regs] (fun _ _ => ssDone_foot _ (.refl _)) .nvm), ?_⟩
    exact (regsBut_writeSlot s.fresh _ _).trans (((regsBut_setSs _ _).mono (by simp)).trans ((regsBut_ssDone _).mono (by simp)))
  case bypass =>
    have hrun : s.fresh.bypassNow = s.fresh.setSs Ss.bypassed := if_neg (by simp [hm, show s.fresh.ss = Ss.unreadable from hss])
    rw [hrun]
    exact ⟨State.ss_setSs _ _ (by decide), regsBut_setSs s.fresh _⟩
  case fmode =>
    rw [State.fmodeWrite, if_neg (by simpa using hm), if_neg hv]
    extract_lets was u
    have hmode : u.rfld Reg.MGMT_FMODE 0 2 = fld v 0 2 := by
      have hlt := fld_lt v 0 2
      unfold u State.setDirty
      rw [State.rfld_setRegBit_ne _ _ _ _ _ _ _ (.inl (by decide)), State.rfld_setFmode, State.rfld_setRegFld_self _ _ _ _ _ (by decide)]
      exact Nat.mod_eq_of_lt hlt
    have hdirty : u.cfgDirty = true := State.rbit_setRegBit_self _ _ _ _ (by decide)
    split
    · exact ⟨(State.rfld_of_reg (u.reg_forerunner _ (by decide)) _ _).trans hmode,
        (State.rbit_of_reg (u.reg_forerunner _ (by decide)) _).trans hdirty⟩
    · exact ⟨hmode, hdirty⟩
  case quiet =>
    rw [s.fresh.fromSetup_of_le _ _ _ hm]
    exact if_pos hp
  case rearm =>
    rw [s.fresh.fromSetup_of_le _ _ _ hm]
    have hrun : s.fresh.intRearm = s.fresh.emitOut (.msix (s.rfld Reg.HIF_INT_CTL 0 5)) :=
      (if_neg hp).trans ((if_pos hen).trans (State.sendVector_open hmask))
    rw [hrun]
    exact ⟨rfl, .refl _ _⟩
  case intEn =>
    rw [s.fresh.fromSetup_of_le _ _ _ hm]
    have hset : RegsBut s (s.fresh.setReg Reg.MGMT_INT_EN (v &&& 0x1FFFF)) [Reg.MGMT_INT_EN] := regsBut_setReg s.fresh _ _
    have hval : (s.fresh.setReg Reg.MGMT_INT_EN (v &&& 0x1FFFF)).reg Reg.MGMT_INT_EN = v &&& 0x1FFFF := by simp
    rw [State.intEnWrite, State.summarise]
    split
    · exact ⟨hval, hset.mono (by simp)⟩
    · exact ⟨(regsBut_hifMessage _ _ (by decide)).trans hval, (hset.mono (by simp)).trans ((regsBut_hifMessage _).mono (by simp))⟩

end Sys2Proof.Machine

/-! PROOFS. Bad accesses, pairs, and the Tarn window (R24, R90, R98, R435, R492, R511-R515). -/

namespace Sys2Proof.Machine

/-! ## Masks and association lists -/

theorem maskOf_fold (f : Nat → Bool) (n : Nat) :
    (List.range n).foldl (fun acc i => if f i then acc + 2 ^ i else acc) 0 < 2 ^ n
      ∧ ∀ i, ((List.range n).foldl (fun acc i => if f i then acc + 2 ^ i else acc) 0).testBit i = (decide (i < n) && f i) := by
  induction n with
  | zero => simp
  | succ n ih =>
    obtain ⟨hlt, hbits⟩ := ih
    simp only [List.range_succ, List.foldl_append, List.foldl_cons, List.foldl_nil]
    generalize (List.range n).foldl (fun acc i => if f i then acc + 2 ^ i else acc) 0 = m at *
    by_cases hf : f n = true
    · rw [if_pos hf]
      refine ⟨by rw [Nat.pow_succ]; omega, fun i => ?_⟩
      rw [Nat.add_comm]
      rcases Nat.lt_trichotomy i n with hi | rfl | hi
      · rw [Nat.testBit_two_pow_add_gt hi, hbits]
        simp [hi, Nat.lt_succ_of_lt hi]
      · rw [Nat.testBit_two_pow_add_eq, hbits]
        simp [hf]
      · rw [Nat.testBit_lt_two_pow (Nat.lt_of_lt_of_le (by rw [Nat.pow_succ]; omega : 2 ^ n + m < 2 ^ (n + 1)) (Nat.pow_le_pow_right (by decide) hi))]
        simp [Nat.not_lt.mpr hi]
    · rw [if_neg hf]
      refine ⟨by rw [Nat.pow_succ]; omega, fun i => ?_⟩
      rw [hbits]
      rcases Nat.lt_trichotomy i n with hi | rfl | hi
      · simp [hi, Nat.lt_succ_of_lt hi]
      · simp [hf]
      · simp [Nat.not_lt.mpr hi, Nat.not_lt.mpr (Nat.le_of_lt hi)]

/-- A mask has the bits of its predicate. -/
theorem bitAt_maskOf (w : Nat) (f : Nat → Bool) (i : Nat) (h : i < w) : bitAt (maskOf w f) i = f i := by
  obtain ⟨hlt, hbits⟩ := maskOf_fold f w
  rw [maskOf, bitAt, BitVec.toNat_ofNat, Nat.mod_eq_of_lt hlt, hbits]
  simp [h]

@[simp] theorem assocGet_assocSet_self {α β : Type} [DecidableEq α] (d : β) (l : List (α × β)) (k : α) (x : β) :
    assocGet d (assocSet l k x) k = x := by
  induction l with
  | nil => simp [assocSet, assocGet]
  | cons c l ih =>
    obtain ⟨a, b⟩ := c
    by_cases h : k = a
    · simp [assocSet, assocGet, h]
    · simp [assocSet, assocGet, h, ih]

theorem assocGet_assocSet_ne {α β : Type} [DecidableEq α] (d : β) (l : List (α × β)) {k j : α} (x : β) (h : j ≠ k) :
    assocGet d (assocSet l k x) j = assocGet d l j := by
  induction l with
  | nil => simp [assocSet, assocGet, h]
  | cons c l ih =>
    obtain ⟨a, b⟩ := c
    by_cases hk : k = a
    · subst hk
      simp [assocSet, assocGet, h]
    · by_cases hj : j = a <;> simp [assocSet, assocGet, hk, hj, ih]

/-! ## Reads of a word -/

/-- The registers whose read has side effects of its own are no half of a pair. -/
theorem State.readWord_pair (s : State) (o : Off) (h : isPairLo o = true ∨ isPairLo (o - 4) = true) : s.readWord o = s.readLo o := by
  have hne (p : Off) (hp : isPairLo p = false ∧ isPairLo (p - 4) = false) : o ≠ p := by
    rintro rfl
    simp [hp] at h
  unfold State.readWord
  rw [if_neg (hne _ (by decide)), if_neg (hne _ (by decide)), if_neg (hne _ (by decide)), if_neg (hne _ (by decide)),
    if_neg (hne _ (by decide)), if_neg (hne _ (by decide)), if_neg (hne _ (by decide)), if_neg (hne _ (by decide)),
    if_neg (hne _ (by decide)), if_neg (hne _ (by decide))]

/-! ## The Tarn window -/

/-- Bytes stored one by one. -/
def State.storeEach (s : State) (l : List (Off × Byte)) : State := l.foldl (fun s c => s.tarnStore c.1 [c.2]) s

theorem State.reg_storeEach (s : State) (l : List (Off × Byte)) (o : Off) : (s.storeEach l).reg o = s.reg o :=
  foldl_same (fun s => s.reg o) _ (fun t _ => RegsBut.all (.of_foot [.tarn, .gecko] (fun _ _ => tarnStore_foot _ _ _ (.refl t)) []) o) l s

theorem State.tarnStore_tarn (s : State) (o : Off) (l : List Byte) : (s.tarnStore o l).tarn = Sparse.write 0 s.tarn o l :=
  (same_of_foot [.gecko] (fun _ _ => clearUe_foot _ _ _ (.refl (s.tarnWrite o l))) .tarn).trans rfl

/-- Where the window writes every byte, the bytes go to their places. -/
theorem State.storeEach_window (s : State) (o : Off) (data : List Byte) (h : ∀ k, k < data.length → windowWrites (o + k) = true) :
    (windowBytes o data).length = data.length ∧ (s.storeEach (windowBytes o data)).tarn = Sparse.write 0 s.tarn o data := by
  induction data generalizing s o with
  | nil => exact ⟨rfl, rfl⟩
  | cons b l ih =>
    have hb : windowWrites o = true := h 0 (Nat.succ_pos _)
    have hl : ∀ k, k < l.length → windowWrites (o + 1 + k) = true := fun k hk => by
      have := h (k + 1) (Nat.succ_lt_succ hk)
      rwa [Nat.add_comm k 1, ← Nat.add_assoc] at this
    obtain ⟨hlen, htarn⟩ := ih (s.tarnStore o [b]) (o + 1) hl
    rw [windowBytes, if_pos hb]
    refine ⟨by rw [List.length_cons, hlen, List.length_cons], htarn.trans ?_⟩
    rw [State.tarnStore_tarn]
    rfl

/-- Settles O9: a pair's halves come from one instant's state and latch, and the window stores the bytes of its regions alone. -/
theorem pairsAndTheTarnWindow : Obligations.PairsAndTheTarnWindow := by
  unfold Obligations.PairsAndTheTarnWindow
  refine ⟨⟨fun s k hk => ⟨_, rfl, ?bad⟩, fun s off dt hoff ha hlo hfrc htime => ⟨_, need_of (decide_eq_true hoff) _, ?lo⟩,
      fun s o be => ⟨_, rfl, _, rfl, ?partial_⟩, fun s dt => ⟨_, need_of (decide_eq_true (by decide : Reg.WS_FRC_LO < 0x100000)) _, ?frc⟩,
      fun s dt => ⟨_, need_of (decide_eq_true (by decide : Reg.WS_TIME_LO < 0x100000)) _, ?time⟩,
      fun s off dt hoff ha hlo hhi => ⟨_, need_of (decide_eq_true hoff) _, ?hi⟩⟩,
    fun s off data hoff hne hm hall => ⟨_, need_of (decide_eq_true hoff) _, ?window⟩,
    fun s off data hoff hm => ⟨_, need_of (decide_eq_true hoff) _, ?closed⟩⟩
  case bad =>
    have hregs : RegsBut s ((s.fresh.bump Reg.MGMT_BAD_ACCESS_CNT).raise Reg.MGMT_EVT 8) [Reg.MGMT_BAD_ACCESS_CNT, Reg.MGMT_EVT, Reg.MSIX_PBA 0] :=
      RegsBut.trans (t := s.fresh.bump Reg.MGMT_BAD_ACCESS_CNT) ((regsBut_bump s.fresh _).mono (by simp)) ((regsBut_raise _ _ _).mono (by simp))
    have hcnt : ((s.fresh.bump Reg.MGMT_BAD_ACCESS_CNT).raise Reg.MGMT_EVT 8).reg Reg.MGMT_BAD_ACCESS_CNT
        = satAdd (s.reg Reg.MGMT_BAD_ACCESS_CNT) 1 := by
      rw [State.reg_raise _ _ _ _ (by decide), if_neg (by decide), State.reg_bump, if_pos rfl]
      rfl
    have hevt : ((s.fresh.bump Reg.MGMT_BAD_ACCESS_CNT).raise Reg.MGMT_EVT 8).rbit Reg.MGMT_EVT 3 = true :=
      State.rbit_raise_self _ _ _ _ (by decide) (by decide)
    cases k with
    | wideRead => exact ⟨hcnt, hevt, fun _ => List.mem_append_right _ (List.mem_singleton_self _), hregs⟩
    | tarnRead => exact ⟨hcnt, hevt, fun _ => List.mem_append_right _ (List.mem_singleton_self _), hregs⟩
    | wideWrite => exact ⟨hcnt, hevt, fun h => h.elim nofun nofun, hregs⟩
    | partialWrite => exact ⟨hcnt, hevt, fun h => h.elim nofun nofun, hregs⟩
    | partialRead o be => exact absurd rfl (hk o be)
  case lo =>
    rw [if_pos ha, State.readWord_pair _ _ (.inl hlo), State.readLo, if_neg (by simp [hlo]), if_neg hfrc]
    dsimp only
    rw [if_neg htime]
    exact ⟨rfl, assocGet_assocSet_self _ _ _ _, .refl _ _⟩
  case partial_ =>
    refine ⟨rfl, fun i hi => ?_⟩
    have hbit : bitAt (maskOf 32 fun i => bitAt be (i / 8)) i = bitAt be (i / 8) := bitAt_maskOf 32 _ i hi
    exact (bitAt_and _ _ _).trans (by rw [hbit])
  case frc =>
    rw [if_pos (by decide), State.readWord_pair _ _ (.inl (by decide)), State.readLo, if_neg (by decide), if_pos rfl]
    exact ⟨rfl, assocGet_assocSet_self _ _ _ _, rfl, rfl, .refl _ _⟩
  case time =>
    rw [if_pos (by decide), State.readWord_pair _ _ (.inl (by decide)), State.readLo, if_neg (by decide), if_neg (by decide)]
    dsimp only
    rw [if_pos rfl]
    refine ⟨rfl, (assocGet_assocSet_ne _ _ _ (by decide)).trans (assocGet_assocSet_self _ _ _ _), assocGet_assocSet_self _ _ _ _, rfl, .refl _ _⟩
  case hi =>
    rw [if_pos ha, State.readWord_pair _ _ (.inr hhi), State.readLo, if_pos (by simp [hlo]), State.readHi, if_pos hhi]
    exact ⟨rfl, rfl, .refl _ _⟩
  case window =>
    obtain ⟨hlen, htarn⟩ := s.fresh.storeEach_window off data hall
    have hsome : ¬ (windowBytes off data).isEmpty = true := by
      rw [List.isEmpty_iff_length_eq_zero, hlen]
      exact fun h => hne (List.length_eq_zero_iff.mp h)
    have hrun : s.fresh.windowWrite off data = (s.fresh.storeEach (windowBytes off data)).setDirty := by
      rw [State.windowWrite, if_neg (by simp [hm])]
      dsimp only
      rw [if_pos hlen, if_neg hsome]
      rfl
    have hregs : RegsBut s (s.fresh.storeEach (windowBytes off data)) [Reg.MGMT_SS_STATUS] := fun o _ => s.fresh.reg_storeEach _ o
    rw [hrun]
    refine ⟨fun k hk => ?_, fun a ha => ?_, State.rbit_setRegBit_self _ _ _ _ (by decide), hregs.trans (regsBut_setRegBit _ _ _ _)⟩
    · exact (congrArg (Sparse.get 0 · (off + k)) htarn).trans (Sparse.get_write_inside data _ off k hk)
    · exact (congrArg (Sparse.get 0 · a) htarn).trans (Sparse.get_write_outside data _ off a ha)
  case closed =>
    rw [State.windowWrite, if_pos (by simpa using hm)]
    refine ⟨State.ignored_tarn _ _ _ _, s.fresh.ignored_shown off Why.window true, ?_, ?_⟩
    · rw [State.ignored, State.reg_raise _ _ _ _ (by decide), if_neg (by decide), State.reg_setReg, if_pos rfl]
      rfl
    · exact RegsBut.trans (t := (s.fresh.bump Reg.MGMT_IGNORED_WR_CNT).setReg Reg.MGMT_IGNORED_LAST _)
        (RegsBut.trans (t := s.fresh.bump Reg.MGMT_IGNORED_WR_CNT) ((regsBut_bump s.fresh _).mono (by simp)) ((regsBut_setReg _ _ _).mono (by simp)))
        ((regsBut_raise _ _ _).mono (by simp))

end Sys2Proof.Machine

/-! PROOFS. Register writes by access type, and the writes that are ignored (R12-R14, R36, R76, R511, R512, R515, R516). -/

namespace Sys2Proof.Machine

section

variable (s : State)

/-! ## One write of a word -/

theorem State.writeReg_undecoded {off : Off} (v : U32) (h : decoded off = none) : s.writeReg off v = s.ignored off Why.undecoded := by
  rw [State.writeReg, h]

theorem State.writeReg_ro {off : Off} (v : U32) {r : RegRow} (h : decoded off = some r) (hro : r.acc = .ro) :
    s.writeReg off v = s.ignored off Why.readOnly := by
  rw [State.writeReg, h]
  exact if_pos hro

/-- Before SETUP every write but a RESET is ignored (R76). -/
theorem State.writeReg_early {off : Off} {v : U32} {r : RegRow} (h : decoded off = some r) (hro : r.acc ≠ .ro)
    (hm : s.mgmt < Node.setup) (hreset : ¬ (off = Reg.MGMT_CMD ∧ v = 3)) : s.writeReg off v = s.ignored off r.earlyWhy := by
  rw [State.writeReg, h]
  dsimp only
  rw [if_neg hro, if_neg (by simpa using hreset), if_pos hm]

/-- From SETUP onward a register with a row of its own does what its row says. -/
theorem State.writeReg_own {off : Off} {v : U32} {r : RegRow} {f : State → State} (h : decoded off = some r) (hro : r.acc ≠ .ro)
    (hm : Node.setup ≤ s.mgmt) (hreset : ¬ (off = Reg.MGMT_CMD ∧ v = 3)) (hown : ownWrite off v = some f) : s.writeReg off v = f s := by
  rw [State.writeReg, h]
  dsimp only
  rw [if_neg hro, if_neg (by simpa using hreset), if_neg (Nat.not_lt.mpr hm), hown]

theorem State.writeReg_hold {off : Off} {v : U32} {r : RegRow} (h : decoded off = some r) (hro : r.acc ≠ .ro)
    (hm : Node.setup ≤ s.mgmt) (hown : ownWrite off v = none) (hlo : isHoldLo off = true) : s.writeReg off v = s.holdLow off v := by
  have hcmd : ¬ (off = Reg.MGMT_CMD ∧ v = 3) := fun h => ne_mgmtCmd_of_ownWrite_none hown h.1
  rw [State.writeReg, h]
  dsimp only
  rw [if_neg hro, if_neg (by simpa using hcmd), if_neg (Nat.not_lt.mpr hm), hown]
  exact if_pos hlo

theorem State.writeReg_commit {off : Off} {v : U32} {r : RegRow} (h : decoded off = some r) (hro : r.acc ≠ .ro)
    (hm : Node.setup ≤ s.mgmt) (hown : ownWrite off v = none) (hlo : isHoldLo off = false) (hhi : isHoldLo (off - 4) = true) :
    s.writeReg off v = s.commitPair r off v := by
  have hcmd : ¬ (off = Reg.MGMT_CMD ∧ v = 3) := fun h => ne_mgmtCmd_of_ownWrite_none hown h.1
  rw [State.writeReg, h]
  dsimp only
  rw [if_neg hro, if_neg (by simpa using hcmd), if_neg (Nat.not_lt.mpr hm), hown]
  dsimp only
  rw [if_neg (by simp [hlo]), if_pos hhi]

theorem State.commitPair_ignored {r : RegRow} {off : Off} {v : U32} (h : s.whyIgnored r off v ≠ 0) :
    s.commitPair r off v = s.ignored off (s.whyIgnored r off v) := if_pos (bne_iff_ne.mpr h)

/-- Every register that lies where a write can be held, or behind one, is written by its value. -/
theorem State.writeByAccess_value {r : RegRow} {off : Off} {v : U32} (h : r.acc = .rw ∨ r.acc = .rws) :
    s.writeByAccess r off v = if s.whyIgnored r off v = 0 then s.storeReg r off v else s.ignored off (s.whyIgnored r off v) := by
  rcases h with h | h <;> simp only [State.writeByAccess, h]

/-! ## What a stored value leaves -/

/-- Registers that the consequences of a stored write may change (R322). -/
abbrev writtenRegs : List Off := [Reg.PAIR_LOST_CNT, Reg.SKINK_EVT, Reg.MSIX_PBA 0]

theorem regsBut_tmoWritten (k : Nat) (b : Off) (os : List Off) : RegsBut s (s.tmoWritten k b) os :=
  .of_foot [.ws] (fun _ _ => tmoWritten_foot _ _ _ (.refl s)) os

theorem regsBut_pairLost : RegsBut s s.pairLost writtenRegs :=
  RegsBut.trans (t := s.bump Reg.PAIR_LOST_CNT) ((regsBut_bump _ _).mono (by simp)) ((regsBut_raise _ _ _).mono (by simp))

/-- A stored write has no consequence in another register but PAIR_LOST's. -/
theorem regsBut_written (was : U32) (o : Off) (v : U32) : RegsBut s (s.written was o v) writtenRegs := by
  unfold State.written
  split
  · exact regsBut_tmoWritten _ _ _ _
  · split
    · dsimp only
      split
      · exact .of_foot [.ws] (fun _ _ => asymChanged_foot _ _ (.refl s)) _
      · exact .refl s _
    · split
      · exact .of_foot [.panel] (fun _ _ => panelCtl_foot _ (.refl s)) _
      · split
        · split
          · exact regsBut_pairLost s
          · exact .refl s _
        · split
          · split
            · exact .refl s _
            · exact .of_foot [.ws] (fun _ _ => servoChange_foot _ (.refl s)) _
          · split
            · exact .refl s _
            · split <;> exact .refl s _

theorem regsBut_summarise {s t : State} {os : List Off} (h : RegsBut s t os) (hp : Reg.MSIX_PBA 0 ∈ os) : RegsBut s (State.summarise s t) os := by
  unfold State.summarise
  split
  · exact h
  · exact h.trans ((regsBut_hifMessage t).mono (by simpa using hp))

theorem regsBut_storeReg (r : RegRow) (o : Off) (v : U32) : RegsBut s (s.storeReg r o v) (o :: Reg.MGMT_SS_STATUS :: writtenRegs) := by
  unfold State.storeReg
  extract_lets w was t u
  have ht : RegsBut s t (o :: Reg.MGMT_SS_STATUS :: writtenRegs) :=
    RegsBut.trans (t := s.setReg o w) ((regsBut_setReg _ _ _).mono (by simp)) ((regsBut_written _ _ _ _).mono (by simp))
  have hu : RegsBut s u (o :: Reg.MGMT_SS_STATUS :: writtenRegs) := by
    unfold u
    split
    · exact ht.trans ((regsBut_setRegBit _ _ _ _).mono (by simp))
    · exact ht
  split
  · exact regsBut_summarise hu (by simp)
  · exact hu

/-- A register with a value of its own is none of those that stored writes change beside it. -/
theorem value_apart {o : Off} {r : RegRow} (h : decoded o = some r) (hacc : r.acc = .rw ∨ r.acc = .rws) :
    o ∉ Reg.MGMT_SS_STATUS :: writtenRegs := by
  have hall : ∀ p ∈ Reg.MGMT_SS_STATUS :: writtenRegs, ∀ q ∈ decoded p, ¬ (q.acc = .rw ∨ q.acc = .rws) := by decide +kernel
  exact fun hm => hall o hm r h hacc

theorem State.reg_storeReg {s : State} {o : Off} {r : RegRow} (v : U32) (h : decoded o = some r) (hacc : r.acc = .rw ∨ r.acc = .rws) :
    (s.storeReg r o v).reg o = storedValue o (v &&& r.mask) ∧ (r.acc = .rws → (s.storeReg r o v).cfgDirty = true) := by
  have hapart := value_apart h hacc
  have hpba : o ≠ Reg.MSIX_PBA 0 := fun e => hapart (e ▸ by simp)
  unfold State.storeReg
  extract_lets w was t u
  have ht : t.reg o = w := (regsBut_written _ _ _ _ _ fun hm => hapart (List.mem_cons_of_mem _ hm)).trans (by simp)
  have hu : u.reg o = w := by
    unfold u
    split
    · exact (regsBut_setRegBit _ _ _ _ _ (by simpa using List.ne_of_not_mem_cons hapart)).trans ht
    · exact ht
  have hdirty : r.acc = .rws → u.cfgDirty = true := by
    intro hr
    unfold u
    rw [if_pos hr]
    exact State.rbit_setRegBit_self _ _ _ _ (by decide)
  split
  · unfold State.summarise
    split
    · exact ⟨hu, hdirty⟩
    · exact ⟨(regsBut_hifMessage u _ (by simpa using hpba)).trans hu,
        fun hr => (State.rbit_of_reg (regsBut_hifMessage u _ (by decide)) _).trans (hdirty hr)⟩
  · exact ⟨hu, hdirty⟩

end

/-! ## Pairs that hold one quantity (R512) -/

/-- The offsets of `isHoldLo`. -/
def holdLos : List Off :=
  (List.range 31).map Reg.RING_BASE_LO ++
    [Reg.HIF_DBPAGE_LO, Reg.HIF_STATPAGE_LO, Reg.RTC_ALM_LO, Reg.PTP_CLOCK_ID_LO, Reg.ETH_MAC_LO 0, Reg.ETH_MAC_LO 1] ++
    (List.range 8).map Reg.TMO_START_LO

theorem ring_base : ∀ o : Nat, 0x1000 ≤ o → o % 0x40 = 0 → 0x1000 + 0x40 * ((o - 0x1000) / 0x40) = o := by omega

theorem tmo_start : ∀ o : Nat, 0x29100 ≤ o → 0x29100 + (o - 0x29100) % 0x20 = 0x29104 + 0x20 * 0 →
    0x29104 + 0x20 * ((o - 0x29100) / 0x20) = o := by omega

theorem sub_four_eq_self : ∀ o : Nat, o - 4 = o → o - 4 = 0 := by omega

theorem mem_holdLos {o : Off} (h : isHoldLo o = true) : o ∈ holdLos := by
  simp only [isHoldLo, Bool.or_eq_true, Bool.and_eq_true, decide_eq_true_eq, beq_iff_eq, List.contains_eq_mem] at h
  unfold holdLos
  rw [List.mem_append, List.mem_append]
  rcases h with (⟨⟨h1, h2⟩, h3⟩ | h) | ⟨⟨h1, h2⟩, h3⟩
  · refine .inl (.inl (List.mem_map.mpr ⟨(o - 0x1000) / 0x40, List.mem_range.mpr ?_, ?_⟩))
    · exact (Nat.div_lt_iff_lt_mul (by decide)).mpr (Nat.sub_lt_left_of_lt_add h1 h2)
    · exact ring_base o h1 h3
  · exact .inl (.inr h)
  · refine .inr (List.mem_map.mpr ⟨(o - 0x29100) / 0x20, List.mem_range.mpr ?_, ?_⟩)
    · exact (Nat.div_lt_iff_lt_mul (by decide)).mpr (Nat.sub_lt_left_of_lt_add h1 h2)
    · exact tmo_start o h1 h3

theorem ifSome_isNone {α : Type} {c : Prop} [Decidable c] (f g : α) {x y : Option α} (h : x.isNone = y.isNone) :
    (if c then some f else x).isNone = (if c then some g else y).isNone := by
  by_cases hc : c
  · rw [if_pos hc, if_pos hc]
    rfl
  · rw [if_neg hc, if_neg hc, h]

/-- Whether a register has a row of its own does not hang on the value written. -/
theorem ownWrite_isNone (o : Off) (v w : U32) : (ownWrite o v).isNone = (ownWrite o w).isNone := by
  unfold ownWrite
  repeat refine ifSome_isNone _ _ ?_
  rfl

theorem ownWrite_of_zero {o : Off} (h : (ownWrite o 0).isNone = true) (v : U32) : ownWrite o v = none := by
  rw [← Option.isNone_iff_eq_none, ownWrite_isNone o v 0, h]

/-- Each of the two registers of such a pair is written by its value, and has no row of its own. -/
theorem holdLos_plain : ∀ o ∈ holdLos, (ownWrite o 0).isNone = true ∧ (∃ r ∈ decoded o, r.acc = .rw ∨ r.acc = .rws)
    ∧ ∀ r ∈ decoded (o + 4), r.acc = .rw ∨ r.acc = .rws := by decide +kernel

theorem assocGet_filter_ne {β : Type} (d : β) (l : List (Nat × β)) (k : Nat) : assocGet d (l.filter (fun c => c.1 != k)) k = d := by
  induction l with
  | nil => rfl
  | cons c l ih =>
    by_cases h : c.1 = k
    · simp [h, ih]
    · simp [assocGet, h, Ne.symm h, ih]

theorem Ignored.of_fresh {s t : State} {o : Off} {why : Nat} (h : Ignored s.fresh t o why) : Ignored s t o why :=
  ⟨h.last, h.shown, h.count, h.regs, h.held⟩

/-- A write that the model ignores, at a whole word of BAR0. -/
theorem ends_ignored {s : State} {off : Off} {v : U32} {why : Nat} (h : off < 0x100000) (ha : off % 4 = 0)
    (hrun : s.fresh.writeReg off v = s.fresh.ignored off why) : Ends (.registerWrite off v) s (fun t => Ignored s t off why) :=
  ⟨_, (exec_registerWrite_word s off v h ha).trans (congrArg _ hrun), (s.fresh.ignored_register off why h ha).of_fresh⟩

section

variable {s : State} {off : Off} {v : U32} {r : RegRow}

theorem PlainReg.ownWrite_none (h : PlainReg s off v r) : ownWrite off v = none := Option.isNone_iff_eq_none.mp h.own

/-- A value that its register refuses is ignored with its reason, as a word or as the high half of a pair. -/
theorem PlainReg.refused (h : PlainReg s off v r) (hacc : r.acc = .rw ∨ r.acc = .rws) (hwhy : s.whyIgnored r off v ≠ 0) :
    Ends (.registerWrite off v) s (fun t => Ignored s t off (s.whyIgnored r off v)) := by
  have hro : r.acc ≠ .ro := by
    rintro hr
    simp [hr] at hacc
  refine ends_ignored h.range h.aligned ?_
  cases hhi : isHoldLo (off - 4)
  · rw [s.fresh.writeReg_byAccess off v r h.row hro h.ready h.ownWrite_none h.lo hhi, State.writeByAccess_value _ hacc]
    exact if_neg hwhy
  · rw [s.fresh.writeReg_commit h.row hro h.ready h.ownWrite_none h.lo hhi]
    exact s.fresh.commitPair_ignored hwhy

/-- The high half of a pair is written by its value. -/
theorem commit_acc (hrow : decoded off = some r) (hhi : isHoldLo (off - 4) = true) : r.acc = .rw ∨ r.acc = .rws := by
  have hoff : off - 4 + 4 = off := by
    refine Nat.sub_add_cancel (Nat.le_of_not_lt fun hlt => ?_)
    rw [Nat.sub_eq_zero_of_le (Nat.le_of_lt hlt)] at hhi
    exact absurd hhi (by decide)
  exact (holdLos_plain _ (mem_holdLos hhi)).2.2 r (by rw [hoff]; exact hrow)

theorem whyIgnored_rwsState (hacc : r.acc = .rws) (hm : s.mgmt ≠ Node.setup) : s.whyIgnored r off v = Why.rwsState :=
  if_pos (by simp [hacc, hm])

/-- The state of the node does not speak against a value. -/
theorem rws_accepted (hacc : r.acc = .rw ∨ (r.acc = .rws ∧ s.mgmt = Node.setup)) : ¬ (r.acc = .rws && s.mgmt != Node.setup) = true := by
  rcases hacc with h | ⟨h, hm⟩
  · simp [h]
  · simp [hm]

theorem whyIgnored_range (hacc : r.acc = .rw ∨ (r.acc = .rws ∧ s.mgmt = Node.setup)) (hv : r.inRange v = false ∨ s.valueOk off v = false) :
    s.whyIgnored r off v = Why.range := by
  rw [State.whyIgnored, if_neg (rws_accepted hacc), if_pos]
  rcases hv with h | h <;> simp [h]

theorem whyIgnored_condition (hacc : r.acc = .rw ∨ (r.acc = .rws ∧ s.mgmt = Node.setup)) (hr : r.inRange v = true)
    (hv : s.valueOk off v = true) (hc : s.writeAllowed off v = false) : s.whyIgnored r off v = Why.condition := by
  rw [State.whyIgnored, if_neg (rws_accepted hacc), if_neg (by simp [hr, hv]), if_pos (by simp [hc])]

theorem acc_value (hacc : r.acc = .rw ∨ (r.acc = .rws ∧ s.mgmt = Node.setup)) : r.acc = .rw ∨ r.acc = .rws := hacc.imp_right And.left

end

/-! ## Registers of a ring and of the pages -/

/-- A register of HIF has no range but its row's. -/
theorem State.valueOk_hif (s : State) {o : Off} (v : U32) (h : o < 0x2000) : s.valueOk o v = true := by
  have hlt (p : Nat) (hp : 0x2000 ≤ p) : ¬ p ≤ o := Nat.not_le.mpr (Nat.lt_of_lt_of_le h hp)
  have hne (p : Nat) (hp : 0x2000 ≤ p) : o ≠ p := Nat.ne_of_lt (Nat.lt_of_lt_of_le h hp)
  unfold State.valueOk
  rw [if_neg (by simp [hlt 0x18000 (by decide)]), if_neg (by simp [hlt 0x20000 (by decide)]), if_neg (by simp [hlt 0x28000 (by decide)]),
    if_neg (by simp [hlt 0x29100 (by decide)]), if_neg (hne _ (by decide)), if_neg (hne _ (by decide)), if_neg (hne _ (by decide)),
    if_neg (hne _ (by decide))]

/-- A register of HIF that takes any value, but not in the present state. -/
theorem hif_condition {s : State} {off : Off} {v : U32} {r : RegRow} (hrow : decoded off = some r) (hrw : r.acc = .rw) (hchk : r.checks = [])
    (hoff : off < 0x2000) (ha : off % 4 = 0) (hm : Node.setup ≤ s.mgmt) (hown : (ownWrite off 0).isNone = true)
    (hlo : isHoldLo off = false) (hc : s.writeAllowed off v = false) :
    Ends (.registerWrite off v) s (fun t => Ignored s t off Why.condition) := by
  have hplain : PlainReg s off v r := ⟨Nat.lt_trans hoff (by decide), ha, hrow, hm, by rw [ownWrite_isNone off v 0, hown], hlo⟩
  have hrange : r.inRange v = true := by simp [RegRow.inRange, hchk]
  have hwhy := whyIgnored_condition (.inl hrw) hrange (s.valueOk_hif v hoff) hc
  have hend := hplain.refused (.inl hrw) (by rw [hwhy]; decide)
  rwa [hwhy] at hend

theorem ring_unit : ∀ b n : Nat, n < 31 → b = 0x1004 ∨ b = 0x1008 ∨ b = 0x100c →
    (b + 0x40 * n - 0x1000) / 0x40 = n ∧ 0x1000 + (b + 0x40 * n - 0x1000) % 0x40 = b ∧ 0x1000 ≤ b ∧ b + 0x40 * n < 0x1800 := by omega

/-- A ring's registers that only a ring at rest takes, while it is enabled (R127). -/
theorem State.writeAllowed_ring {s : State} {n : Nat} {b : Off} (v : U32) (hn : n < 31) (hb : b ∈ [Reg.RING_BASE_HI 0, Reg.RING_SIZE 0, Reg.RING_START 0])
    (hon : s.rbit (Reg.RING_CTL n) 0 = true) : s.writeAllowed (b + 0x40 * n) v = false := by
  have hwhere : b = 0x1004 ∨ b = 0x1008 ∨ b = 0x100c := by simpa [Reg.RING_BASE_HI, Reg.RING_SIZE, Reg.RING_START] using hb
  obtain ⟨hix, hbase, hlo, hhi⟩ := ring_unit b n hn hwhere
  have hu : regUnit 0x1000 0x40 (b + 0x40 * n) = (n, b) := Prod.ext hix hbase
  have hsetup : isRingSetup b = true := by
    simp only [List.mem_cons, List.not_mem_nil, or_false] at hb
    rcases hb with rfl | rfl | rfl <;> decide
  rw [State.writeAllowed, if_pos (by simp [hhi, Nat.le_add_right_of_le hlo]), hu]
  simp [hsetup, hon]

/-- The rows of those registers. -/
theorem ring_rows : ∀ n < 31, ∀ b ∈ [Reg.RING_BASE_HI 0, Reg.RING_SIZE 0, Reg.RING_START 0],
    (∃ r ∈ decoded (b + 0x40 * n), r.acc = .rw ∧ r.checks = []) ∧ (ownWrite (b + 0x40 * n) 0).isNone = true
      ∧ isHoldLo (b + 0x40 * n) = false ∧ (b + 0x40 * n) % 4 = 0 ∧ b + 0x40 * n < 0x2000 := by decide +kernel

theorem ring_condition {s : State} {n : Nat} {b : Off} (v : U32) (hn : n < 31) (hb : b ∈ [Reg.RING_BASE_HI 0, Reg.RING_SIZE 0, Reg.RING_START 0])
    (hm : Node.setup ≤ s.mgmt) (hon : s.rbit (Reg.RING_CTL n) 0 = true) :
    Ends (.registerWrite (b + 0x40 * n) v) s (fun t => Ignored s t (b + 0x40 * n) Why.condition) := by
  obtain ⟨⟨r, hrow, hrw, hchk⟩, hown, hlo, ha, hoff⟩ := ring_rows n hn b hb
  exact hif_condition hrow hrw hchk hoff ha hm hown hlo (State.writeAllowed_ring v hn hb hon)

theorem page_condition {s : State} {o : Off} (v : U32) (ho : o ∈ [Reg.HIF_DBPAGE_HI, Reg.HIF_STATPAGE_HI]) (hm : Node.setup ≤ s.mgmt)
    (hon : s.pagesOn = true) : Ends (.registerWrite o v) s (fun t => Ignored s t o Why.condition) := by
  have hrows : ∀ o ∈ [Reg.HIF_DBPAGE_HI, Reg.HIF_STATPAGE_HI], (∃ r ∈ decoded o, r.acc = .rw ∧ r.checks = [])
      ∧ (ownWrite o 0).isNone = true ∧ isHoldLo o = false ∧ o % 4 = 0 ∧ o < 0x2000 := by decide +kernel
  have hc : s.writeAllowed o v = false := by
    simp only [List.mem_cons, List.not_mem_nil, or_false] at ho
    rcases ho with rfl | rfl
    · rw [State.writeAllowed, if_neg (by decide), if_pos (by decide), hon]
      rfl
    · rw [State.writeAllowed, if_neg (by decide), if_pos (by decide), hon]
      rfl
  obtain ⟨⟨r, hrow, hrw, hchk⟩, hown, hlo, ha, hoff⟩ := hrows o ho
  exact hif_condition hrow hrw hchk hoff ha hm hown hlo hc

/-! ## The custody key's words -/

theorem key_rows : ∀ k < 8, (∃ r ∈ decoded (Reg.UPD_KEY k), r.acc = .wo) ∧ (ownWrite (Reg.UPD_KEY k) 0).isNone = true
    ∧ isHoldLo (Reg.UPD_KEY k) = false ∧ isHoldLo (Reg.UPD_KEY k - 4) = false ∧ Reg.UPD_KEY k < 0x100000 ∧ Reg.UPD_KEY k % 4 = 0
    ∧ (Reg.UPD_KEY k - Reg.UPD_KEY 0) / 4 = k := by decide +kernel

theorem State.writeAllowed_key (s : State) (v : U32) {k : Nat} (hk : k < 8) : s.writeAllowed (Reg.UPD_KEY k) v = (s.mgmt == Node.setup) := by
  interval_cases k <;> rfl

theorem State.writeReg_key (s : State) (v : U32) {k : Nat} (hk : k < 8) (hm : Node.setup ≤ s.mgmt) :
    s.writeReg (Reg.UPD_KEY k) v = if s.mgmt = Node.setup then s.updUpd (fun u => { u with keyWords := assocSet u.keyWords k v })
      else s.ignored (Reg.UPD_KEY k) Why.condition := by
  obtain ⟨⟨r, hrow, hwo⟩, hown, hlo, hhi, -, -, hix⟩ := key_rows k hk
  rw [s.writeReg_byAccess _ v r hrow (by rw [hwo]; decide) hm (ownWrite_of_zero hown v) hlo hhi]
  simp only [State.writeByAccess, hwo, s.writeAllowed_key v hk, hix, beq_iff_eq]

/-! ## MGMT_CMD, and the registers with a row of their own (R511, Table 3-5) -/

/-- Registers whose write is a command of its own. -/
def commandRegs : List Off :=
  [Reg.MGMT_CMD, Reg.MGMT_FMODE, Reg.MGMT_INT_REARM, Reg.MGMT_INT_EN, Reg.HIF_KICK, Reg.HIF_CTL, Reg.LEG_EVT_CTL, Reg.XP_CHECK,
    Reg.LEG_PT_CMD, Reg.AE_INJECT 0, Reg.AE_INJECT 1, Reg.RTC_CMD, Reg.RTC_DST, Reg.LEG_RTC_CTL, Reg.UPD_KEY_CMD]
  ++ (List.range 31).map Reg.RING_CTL

theorem commandRegs_row : ∀ o ∈ commandRegs, (∃ r ∈ decoded o, r.acc ≠ .ro) ∧ o < 0x100000 ∧ o % 4 = 0 := by decide +kernel

/-- From SETUP onward such a write does what its row says. -/
theorem exec_registerWrite_own {s : State} {o : Off} {v : U32} {f : State → State} (hown : ownWrite o v = some f) (ho : o ∈ commandRegs)
    (hm : Node.setup ≤ s.mgmt) (hreset : ¬ (o = Reg.MGMT_CMD ∧ v = 3)) : exec (.registerWrite o v) s = .next (f s.fresh) := by
  obtain ⟨⟨r, hrow, hro⟩, hoff, ha⟩ := commandRegs_row o ho
  rw [exec_registerWrite_word s o v hoff ha, s.fresh.writeReg_own hrow hro hm hreset hown]

theorem ring_index : ∀ n : Nat, (0x1010 + 0x40 * n - 0x1000) / 0x40 = n ∧ (0x1010 + 0x40 * n) % 0x40 = 0x10 := by omega

theorem ring_span : ∀ n : Nat, n < 31 → 0x1000 ≤ 0x1010 + 0x40 * n ∧ 0x1010 + 0x40 * n < 0x17C0 := by omega

theorem ringCtl_command {n : Nat} (hn : n < 31) : Reg.RING_CTL n ∈ commandRegs :=
  List.mem_append_right _ (List.mem_map.mpr ⟨n, List.mem_range.mpr hn, rfl⟩)

theorem ownWrite_ringCtl {n : Nat} (hn : n < 31) (w : U32) : ownWrite (Reg.RING_CTL n) w = some (fun s => s.ringCtl n w) := by
  obtain ⟨hix, hmod⟩ := ring_index n
  have hspan : 0x1000 ≤ Reg.RING_CTL n ∧ Reg.RING_CTL n < 0x17C0 := ring_span n hn
  have hctl : Reg.RING_CTL n ≠ Reg.HIF_CTL := Nat.ne_of_lt (Nat.lt_of_lt_of_le hspan.2 (by decide))
  rw [ownWrite, if_neg hctl, if_pos (by simp only [Bool.and_eq_true, decide_eq_true_eq, beq_iff_eq]; exact ⟨hspan, hmod⟩)]
  exact congrArg some (funext fun s => congrArg (fun i => s.ringCtl i w) hix)

theorem State.mgmtCmd_unknown (s : State) {v : U32} (hv : v.toNat ∉ [1, 2, 3, 0x10, 0x11, 0x12, 0x13]) : s.mgmtCmd v = s.cmdIgnored := by
  simp only [List.mem_cons, List.not_mem_nil, or_false, not_or] at hv
  unfold State.mgmtCmd
  split <;> first | omega | rfl

/-! ## A reset of the node (R74) -/

theorem State.restart_restarted (s : State) (cause : Nat) : Restarted s (s.restart cause) cause where
  mgmt := s.mgmt_restart cause
  cause := by rw [State.reg_restart, if_pos rfl]
  kept o ho := by
    rw [State.reg_restart, if_neg (by rintro rfl; cases ho), if_pos ho]
  cleared o ho hc := by
    have hboot : (s.restart cause).behavBoot = s.behavBoot := by
      unfold State.restart
      dsimp only
      split <;> split <;> rfl
    rw [State.reg_restart, if_neg hc, if_neg (Bool.eq_false_iff.mp ho), hboot]
  tarn := by
    unfold State.restart
    dsimp only
    split <;> split <;> rfl
  units := by
    unfold State.restart
    dsimp only
    split <;> split <;> exact ⟨rfl, rfl, rfl, rfl, rfl, rfl, rfl, rfl, rfl, rfl⟩
  queues := by
    unfold State.restart
    dsimp only
    split <;> split <;> exact ⟨rfl, rfl, rfl, rfl⟩
  stores := by
    refine ⟨s.restart_nvm cause, ?_⟩
    unfold State.restart
    dsimp only
    split <;> split <;> rfl

theorem Restarted.of_fresh {s t : State} {cause : Nat} (h : Restarted s.fresh t cause) : Restarted s t cause :=
  ⟨h.mgmt, h.cause, h.kept, h.cleared, h.tarn, h.units, h.queues, h.stores⟩

/-- Settles O8: one write comes down to its row of the table, whose access type says what it does. -/
theorem registerWrites : Obligations.RegisterWrites := by
  unfold Obligations.RegisterWrites
  refine ⟨fun s off v r hoff ha hm hrow hacc hown hlo hhi hwhy => ⟨_, exec_registerWrite_word s off v hoff ha, ?value⟩,
    fun s off v r hoff ha hrow hro => ends_ignored hoff ha (s.fresh.writeReg_ro v hrow hro),
    fun s off v hoff ha hrow => ends_ignored hoff ha (s.fresh.writeReg_undecoded v hrow),
    fun s off v hoff ha => ⟨s.fresh.badRequest .wideWrite, ?badRun, ?bad⟩, fun s => ⟨_, rfl, ?reset⟩,
    ⟨fun s off v r hp hacc hhi hok => ⟨_, exec_registerWrite_word s off v hp.range hp.aligned, ?w1c⟩,
      fun s v k hk hm => ⟨_, exec_registerWrite_word s _ v (key_rows k hk).2.2.2.2.1 (key_rows k hk).2.2.2.2.2.1, ?key⟩,
      fun s v k hk hm => ⟨_, exec_registerWrite_word s _ v (key_rows k hk).2.2.2.2.1 (key_rows k hk).2.2.2.2.2.1, ?keyLate⟩,
      fun s off v hoff ha hm hlo => ⟨_, exec_registerWrite_word s off v hoff ha, ?held⟩,
      fun s off v r hp hhi hwhy => ⟨_, exec_registerWrite_word s off v hp.range hp.aligned, ?commit⟩⟩,
    ⟨fun s off v r hp hacc hm => ?rwsState, fun s off v r hp hacc hv => ?range, fun s off v r hp hacc hr hv hc => ?condition,
      fun s n v hn hm hon => ⟨ring_condition v hn (by simp) hm hon, ring_condition v hn (by simp) hm hon, ring_condition v hn (by simp) hm hon⟩,
      fun s v hm hon => ⟨page_condition v (by simp) hm hon, page_condition v (by simp) hm hon⟩,
      fun s v hm hv => ?cmd, fun s off v r hoff ha hm hrow hro hreset => ends_ignored hoff ha (s.fresh.writeReg_early hrow hro hm hreset)⟩,
    fun s v hm => ?own⟩
  case value =>
    have hro : r.acc ≠ .ro := by
      rintro hr
      simp [hr] at hacc
    rw [s.fresh.writeReg_byAccess off v r hrow hro hm (Option.isNone_iff_eq_none.mp hown) hlo hhi, State.writeByAccess_value _ hacc,
      if_pos (by exact hwhy)]
    exact State.reg_storeReg v hrow hacc
  case badRun => exact (need_of (decide_eq_true hoff) _).trans (congrArg _ (if_neg ha))
  case bad =>
    refine ⟨?_, RegsBut.trans (t := s.fresh.bump Reg.MGMT_BAD_ACCESS_CNT) ((regsBut_bump s.fresh _).mono (by simp))
      ((regsBut_raise _ _ _).mono (by simp))⟩
    rw [State.badRequest, State.reg_raise _ _ _ _ (by decide), if_neg (by decide), State.reg_bump, if_pos rfl]
    rfl
  case reset => exact (s.fresh.restart_restarted Reset.mgmt).of_fresh
  case w1c =>
    have hro : r.acc ≠ .ro := by rw [hacc]; decide
    rw [s.fresh.writeReg_byAccess off v r hp.row hro hp.ready hp.ownWrite_none hp.lo hhi]
    simp only [State.writeByAccess, hacc]
    rw [if_pos (by exact hok), State.clearW1c]
    split
    · exact ⟨by simp, regsBut_setReg s.fresh _ _⟩
    · exact ⟨by simp, regsBut_setReg s.fresh _ _⟩
  case key =>
    rw [s.fresh.writeReg_key v hk (Nat.le_of_eq hm.symm), if_pos (by exact hm)]
    exact ⟨assocGet_assocSet_self _ _ _ _, fun j hj => assocGet_assocSet_ne _ _ _ hj, .refl _ _⟩
  case keyLate =>
    rw [s.fresh.writeReg_key v hk (Nat.le_of_lt hm), if_neg (by exact Nat.ne_of_gt hm)]
    exact ⟨(s.fresh.ignored_register _ _ (key_rows k hk).2.2.2.2.1 (key_rows k hk).2.2.2.2.2.1).of_fresh, State.ignored_upd _ _ _ _⟩
  case held =>
    obtain ⟨hown, ⟨r, hrow, hacc⟩, -⟩ := holdLos_plain off (mem_holdLos hlo)
    have hro : r.acc ≠ .ro := by
      rintro hr
      simp [hr] at hacc
    rw [s.fresh.writeReg_hold hrow hro hm (ownWrite_of_zero hown v) hlo]
    exact ⟨assocGet_assocSet_self _ _ _ _, .refl _ _⟩
  case commit =>
    have hacc := commit_acc hp.row hhi
    have hro : r.acc ≠ .ro := by
      rintro hr
      simp [hr] at hacc
    have hapart : off - 4 ∉ off :: Reg.MGMT_SS_STATUS :: writtenRegs := by
      intro hm
      rcases List.mem_cons.mp hm with h | h
      · have h0 : off - 4 = 0 := sub_four_eq_self off h
        rw [h0] at hhi
        exact absurd hhi (by decide)
      · have hnone : ∀ o ∈ Reg.MGMT_SS_STATUS :: writtenRegs, isHoldLo o = false := by decide
        rw [hnone _ h] at hhi
        cases hhi
    rw [s.fresh.writeReg_commit hp.row hro hp.ready hp.ownWrite_none hp.lo hhi, State.commitPair]
    dsimp only
    have hwhy' : s.fresh.whyIgnored r off v = 0 := hwhy
    rw [if_neg (by simp [hwhy'])]
    refine ⟨(State.reg_storeReg v hp.row hacc).1, ?_, fun x => ?_⟩
    · exact (regsBut_storeReg _ r off v _ hapart).trans ((s.fresh.reg_setReg (off - 4) _ _).trans (if_pos rfl))
    · rw [(same_of_foot [.regs, .ws, .rtc, .panel] (fun _ _ => storeReg_foot _ _ _ _ (.refl _)) .hold)]
      exact assocGet_filter_ne x _ _
  case rwsState =>
    have h := hp.refused (.inr hacc) (by rw [whyIgnored_rwsState hacc hm]; decide)
    rwa [whyIgnored_rwsState hacc hm] at h
  case range =>
    have h := hp.refused (acc_value hacc) (by rw [whyIgnored_range hacc hv]; decide)
    rwa [whyIgnored_range hacc hv] at h
  case condition =>
    have h := hp.refused (acc_value hacc) (by rw [whyIgnored_condition hacc hr hv hc]; decide)
    rwa [whyIgnored_condition hacc hr hv hc] at h
  case cmd =>
    have hreset : ¬ (Reg.MGMT_CMD = Reg.MGMT_CMD ∧ v = 3) := by
      rintro ⟨-, rfl⟩
      exact hv (by decide)
    refine ⟨_, exec_registerWrite_own (f := fun s => s.mgmtCmd v) rfl (by decide) hm hreset, ?_⟩
    rw [s.fresh.mgmtCmd_unknown hv]
    exact (s.fresh.ignored_register _ _ (by decide) (by decide)).of_fresh
  case own =>
    have hrun (o : Off) (v : U32) {f : State → State} (hown : ownWrite o v = some f) (ho : o ∈ commandRegs)
        (hreset : ¬ (o = Reg.MGMT_CMD ∧ v = 3)) : exec (.registerWrite o v) s = .next (f s.fresh) :=
      exec_registerWrite_own hown ho hm hreset
    have hcmd (v : U32) (hv : v ≠ 3) : exec (.registerWrite Reg.MGMT_CMD v) s = .next (s.fresh.mgmtCmd v) :=
      hrun Reg.MGMT_CMD v (f := fun s => s.mgmtCmd v) rfl (by decide) (fun h => hv h.2)
    have hother (o : Off) (v : U32) (f : State → State) (hown : ownWrite o v = some f) (ho : o ∈ commandRegs) (hne : o ≠ Reg.MGMT_CMD) :
        exec (.registerWrite o v) s = .next (f s.fresh) :=
      hrun o v hown ho (fun h => hne h.1)
    have hready (o : Off) (v : U32) (why : Nat) (f g : State → State) (hown : ownWrite o v = some g) (hg : g s.fresh = f s.fresh)
        (ho : o ∈ commandRegs) (hne : o ≠ Reg.MGMT_CMD) :
        exec (.registerWrite o v) s = .next (s.fresh.fromSetup o why f) := by
      rw [hother o v g hown ho hne, s.fresh.fromSetup_of_le o why f hm, hg]
    refine ⟨hcmd 2 (by decide), hcmd 0x11 (by decide), hcmd 0x12 (by decide), hcmd 0x13 (by decide),
      hother Reg.MGMT_FMODE v _ rfl (by decide) (by decide),
      hready Reg.MGMT_INT_REARM v _ _ _ rfl rfl (by decide) (by decide), hready Reg.MGMT_INT_EN v _ _ _ rfl rfl (by decide) (by decide),
      hready Reg.HIF_KICK v _ _ _ rfl rfl (by decide) (by decide), hready Reg.HIF_CTL 1 _ _ _ rfl rfl (by decide) (by decide),
      hready Reg.HIF_CTL 0 _ _ _ rfl rfl (by decide) (by decide), hready Reg.LEG_EVT_CTL 1 _ _ _ rfl rfl (by decide) (by decide),
      hother Reg.XP_CHECK v _ rfl (by decide) (by decide), hother Reg.LEG_PT_CMD 1 _ rfl (by decide) (by decide),
      hother Reg.LEG_PT_CMD 2 _ rfl (by decide) (by decide), hother (Reg.AE_INJECT 0) v _ rfl (by decide) (by decide),
      hother (Reg.AE_INJECT 1) v _ rfl (by decide) (by decide), hother Reg.RTC_CMD 2 _ rfl (by decide) (by decide),
      hother Reg.RTC_DST 1 _ rfl (by decide) (by decide), hother Reg.RTC_DST 2 _ rfl (by decide) (by decide),
      hother Reg.LEG_RTC_CTL 1 _ rfl (by decide) (by decide), hother Reg.UPD_KEY_CMD 1 _ rfl (by decide) (by decide), fun n hn => ?_⟩
    have hne : Reg.RING_CTL n ≠ Reg.MGMT_CMD := Nat.ne_of_gt (Nat.lt_of_lt_of_le (by decide) (ring_span n hn).1)
    have hring (w : U32) : exec (.registerWrite (Reg.RING_CTL n) w) s = .next (s.fresh.ringCtl n w) :=
      hother _ w _ (ownWrite_ringCtl hn w) (ringCtl_command hn) hne
    have hen (w : U32) : need (decide (n < 31)) (s.fresh.fromSetup (Reg.RING_CTL n) Why.condition (fun s => s.ringCtl n w))
        = .next (s.fresh.ringCtl n w) :=
      (need_of (decide_eq_true hn) _).trans (congrArg _ (s.fresh.fromSetup_of_le _ _ _ hm))
    exact ⟨(hring _).trans (hen _).symm, (hring _).trans (hen _).symm⟩

end Sys2Proof.Machine

/-! PROOFS. The host's writes to the real-time clock (R439-R453). -/

namespace Sys2Proof.Machine

section

variable {s : State}

/-- RTC registers take writes from SETUP onward. -/
theorem State.rtcWritable_of_le (hm : Node.setup ≤ s.mgmt) : s.rtcWritable = true := decide_eq_true hm

theorem State.rtcWritable_of_lt (hm : s.mgmt < Node.setup) : s.rtcWritable = false := decide_eq_false (Nat.not_le_of_lt hm)

theorem regsBut_updRtc (f : Rtc → Rtc) (os : List Off) : RegsBut s (s.updRtc f) os := fun o _ => s.reg_updRtc f o

/-! ## Ignored writes of the RTC block -/

theorem State.reg_ignored_count (o : Off) (why : Nat) (ho : 0x1900 ≤ o) :
    (s.ignored o why).reg Reg.MGMT_IGNORED_WR_CNT = satAdd (s.reg Reg.MGMT_IGNORED_WR_CNT) 1 := by
  have hhif : (!false && decide (0x1000 ≤ o) && decide (o < 0x1900)) = false := by simp [Nat.not_lt.mpr ho]
  rw [State.ignored]
  rw [hhif]
  simp [State.reg_raise, Reg.MSIX_PBA]

theorem State.rbit_ignored_event (o : Off) (why : Nat) : (s.ignored o why).rbit Reg.MGMT_EVT 2 = true := by
  rw [State.ignored]
  rw [State.rbit_raise _ _ _ _ _ (by decide), if_pos rfl, Bool.or_eq_true]
  exact .inr (by decide)

/-! ## The alarm -/

theorem State.almFire_rtc (b : Bool) : (s.almFire b).rtc = s.rtc := by simp [State.almFire]

theorem State.almFire_ctl (b : Bool) : (s.almFire b).reg Reg.RTC_ALM_CTL = 0x100 := by simp [State.almFire, State.reg_raise, Reg.MSIX_PBA]

theorem State.almFire_evt (b : Bool) : (s.almFire b).rbit Reg.RTC_EVT 0 = true := by
  cases b <;> simp [State.almFire, Reg.MSIX_PBA, bitAt, b2n]

theorem State.almFire_skip : (s.almFire true).rbit Reg.RTC_EVT 1 = true := by
  simp only [State.almFire, b2n]
  rw [State.rbit_raise _ _ _ _ _ (by decide), if_pos rfl, Bool.or_eq_true]
  exact .inr (by decide)

theorem State.almFire_count (b : Bool) : (s.almFire b).reg Reg.RTC_ALM_CNT = satAdd (s.reg Reg.RTC_ALM_CNT) 1 := by
  simp [State.almFire, State.reg_raise, Reg.MSIX_PBA]

/-! ## The charger -/

theorem State.cellGoesHigh_off (h : s.chargerOn = false) : s.cellGoesHigh = s.cellLevel true := by
  simp [State.cellGoesHigh, h]

theorem State.cellGoesHigh_on (h : s.chargerOn = true) :
    s.cellGoesHigh = ((s.cellLevel true).setRegBit Reg.RTC_TRICKLE 0 false).raise Reg.RTC_EVT 0x100 := by
  simp [State.cellGoesHigh, h]

theorem State.cellLevel_rtc (b : Bool) : (s.cellLevel b).rtc = { s.rtc with cellHigh := b } := rfl

theorem State.cellGoesHigh_rtc : s.cellGoesHigh.rtc = { s.rtc with cellHigh := true } := by
  cases h : s.chargerOn
  · rw [State.cellGoesHigh_off h, State.cellLevel_rtc]
  · rw [State.cellGoesHigh_on h]
    simp [State.cellLevel_rtc]

theorem State.trickleWrite_taken {v : U32} (hm : Node.setup ≤ s.mgmt) (h : bitAt v 0 = false ∨ s.rtc.cellHigh = false) :
    s.trickleWrite v = s.setReg Reg.RTC_TRICKLE (v &&& 0xF) := by
  rw [State.trickleWrite, if_neg (by simp [State.rtcWritable_of_le hm]), if_neg]
  rcases h with h | h <;> simp [h]

theorem State.trickleWrite_refused {v : U32} (hm : Node.setup ≤ s.mgmt) (h : bitAt v 0 = true) (hc : s.rtc.cellHigh = true) :
    s.trickleWrite v = s.ignored Reg.RTC_TRICKLE Why.condition := by
  rw [State.trickleWrite, if_neg (by simp [State.rtcWritable_of_le hm]), if_pos (by simp [h, hc])]

theorem State.cellGoesHigh_mgmt : s.cellGoesHigh.mgmt = s.mgmt := by
  cases h : s.chargerOn
  · rw [State.cellGoesHigh_off h]
    rfl
  · rw [State.cellGoesHigh_on h]
    rw [State.mgmt, State.rfld_raise _ _ _ _ _ _ (by decide) (by decide), State.rfld_setRegBit_ne _ _ _ _ _ _ _ (.inl (by decide))]
    rfl

/-! ## The wake timer -/

theorem bitAt_ext {a b : U32} (h : ∀ i, i < 32 → bitAt a i = bitAt b i) : a = b := BitVec.eq_of_getLsbD_eq h

theorem setBit_zero_and (v : U32) : setBit v 0 true &&& 3 = (v &&& 2) ||| 1 := by
  refine bitAt_ext fun i hi => ?_
  rw [bitAt_or, bitAt_and, bitAt_and, bitAt_setBit]
  rcases i with _ | _ | i
  · simp [bitAt]
  · have h3 : Nat.testBit 3 1 = true := by decide
    have h2 : Nat.testBit 2 1 = true := by decide
    have h1 : Nat.testBit 1 1 = false := by decide
    simp [bitAt, h3, h2, h1]
  · have hs (k : Nat) (hk : k < 4) : Nat.testBit k (i + 2) = false :=
      Nat.testBit_lt_two_pow (Nat.lt_of_lt_of_le hk (Nat.pow_le_pow_right (n := 2) (by decide) (Nat.le_add_left 2 i)))
    simp [bitAt, hs]

theorem State.wakeCtl_on (hm : Node.setup ≤ s.mgmt) (v : U32) :
    s.wakeCtl (setBit v 0 true) = if s.rbit Reg.RTC_WAKE_CTL 0 then s.setReg Reg.RTC_WAKE_CTL ((v &&& 2) ||| 1)
      else (s.setReg Reg.RTC_WAKE_CTL ((v &&& 2) ||| 1)).updRtc (fun r => { r with wakeLeft := s.wakePeriod + 1 }) := by
  have hp : (s.setReg Reg.RTC_WAKE_CTL ((v &&& 2) ||| 1)).wakePeriod = s.wakePeriod := by simp [State.wakePeriod]
  have hw : ¬ (!s.rtcWritable) = true := by simp [State.rtcWritable_of_le hm]
  rw [State.wakeCtl, if_neg hw]
  dsimp only
  rw [setBit_zero_and, bitAt_setBit_self _ _ _ (by decide), Bool.true_and, hp]
  cases s.rbit Reg.RTC_WAKE_CTL 0 <;> rfl

end

/-- Settles O44: each write comes down to the one branch of its condition. -/
theorem rtcControl : Obligations.RtcControl := by
  unfold Obligations.RtcControl
  refine ⟨fun s ticks r hr => ⟨fun hm => ⟨r.setNow, ?setRun, ?set⟩, fun hm => ⟨r.setNow, ?lateRun, ?late⟩⟩,
    fun s v ticks r hr hm => ⟨fun hb hn h1 h2 => ⟨r.shiftWrite v, ?shiftRun, ?shift⟩, fun hb => ⟨r.shiftWrite v, ?busyRun, ?busy⟩,
      fun ha => ⟨r.almCtl (setBit v 0 true), ?armRun, ?arm⟩, fun ha => ⟨r.almCtl (setBit v 0 true), ?fireRun, ?fire⟩⟩,
    fun s hm => ⟨fun hn hd => ⟨_, rfl, ?forward⟩, fun hn hd => ⟨_, rfl, ?back⟩, ⟨_, rfl, ?swo⟩, fun v => ⟨_, rfl, ?disarm⟩,
      fun v => ⟨_, rfl, ?wake⟩, fun v high hv => ⟨_, rfl, ?trickle⟩, fun v hv => ⟨_, rfl, ?refused⟩⟩⟩
  case setRun | lateRun | shiftRun | busyRun | armRun | fireRun => exact hr ▸ rfl
  case set =>
    rw [State.setNow, if_pos (State.rtcWritable_of_le hm)]
    exact ⟨rfl, regsBut_updRtc _ _⟩
  case late =>
    rw [State.setNow, if_neg (by simp [State.rtcWritable_of_lt hm])]
    exact ⟨State.ignored_rtc _ _ _ _, State.reg_ignored_count _ _ (by decide)⟩
  case shift =>
    rw [State.shiftWrite]
    simp only [State.rtcWritable_of_le hm, hb, hn]
    rw [if_neg (by simp), if_neg (by simp), if_neg (by simp; omega)]
    exact ⟨rfl, regsBut_updRtc _ _⟩
  case busy =>
    rw [State.shiftWrite]
    simp only [State.rtcWritable_of_le hm, hb]
    rw [if_neg (by simp), if_pos (by simp)]
    refine ⟨by simp, ?_⟩
    rw [State.rbit_of_reg (State.reg_ignored _ _ _ _ _ (by decide))]
    rw [State.rbit_raise _ _ _ _ _ (by decide), if_pos rfl, Bool.or_eq_true]
    exact .inr (by decide)
  case arm =>
    rw [State.almCtl, if_neg (by simp [State.rtcWritable_of_le hm]), if_neg (by simp [bitAt_setBit]), if_neg (Nat.not_le_of_lt ha)]
    exact ⟨rfl, by simp, regsBut_setReg _ _ _⟩
  case fire =>
    rw [State.almCtl, if_neg (by simp [State.rtcWritable_of_le hm]), if_neg (by simp [bitAt_setBit]), if_pos ha]
    refine ⟨State.almFire_rtc _, State.almFire_ctl _, State.almFire_evt _, fun hlt => ?_, State.almFire_count _⟩
    rw [decide_eq_true hlt]
    exact State.almFire_skip
  case forward =>
    rw [State.dstWrite, if_neg (by simp [State.rtcWritable_of_le (s := s.fresh) hm]), if_neg (by simp [hn, hd])]
    exact ⟨rfl, regsBut_updRtc (s := s.fresh) _ _⟩
  case back =>
    rw [State.dstWrite, if_neg (by simp [State.rtcWritable_of_le (s := s.fresh) hm]), if_neg (by simp [hn, hd])]
    exact ⟨rfl, regsBut_updRtc (s := s.fresh) _ _⟩
  case swo =>
    rw [State.clearSwo, if_pos (State.rtcWritable_of_le (s := s.fresh) hm)]
    exact ⟨by simp, by simp, regsBut_setRegBit s.fresh _ _ _⟩
  case disarm =>
    rw [State.almCtl, if_neg (by simp [State.rtcWritable_of_le (s := s.fresh) hm]), if_pos (by simp [bitAt_setBit])]
    exact ⟨by simp, by simp [State.almArmed], regsBut_setRegBit s.fresh _ _ _⟩
  case wake =>
    rw [State.wakeCtl_on (s := s.fresh) hm, State.rbit_fresh]
    cases s.rbit Reg.RTC_WAKE_CTL 0
    · exact ⟨by simp, regsBut_setReg s.fresh _ _, rfl⟩
    · exact ⟨by simp, regsBut_setReg s.fresh _ _, rfl⟩
  case trickle =>
    cases high
    · change ((s.fresh.cellLevel false).trickleWrite v).rtc = _ ∧ ((s.fresh.cellLevel false).trickleWrite v).reg _ = _
        ∧ (_ → RegsBut s ((s.fresh.cellLevel false).trickleWrite v) _)
      rw [State.trickleWrite_taken (by exact hm) (.inr rfl)]
      exact ⟨rfl, by simp, fun _ => regsBut_setReg (s.fresh.cellLevel false) _ _⟩
    · change (s.fresh.cellGoesHigh.trickleWrite v).rtc = _ ∧ (s.fresh.cellGoesHigh.trickleWrite v).reg _ = _
        ∧ (_ → RegsBut s (s.fresh.cellGoesHigh.trickleWrite v) _)
      rw [State.trickleWrite_taken (by rw [State.cellGoesHigh_mgmt]; exact hm) (.inl (hv.resolve_right (by decide)))]
      refine ⟨by rw [State.setReg_rtc, State.cellGoesHigh_rtc]; rfl, by simp, fun hoff => ?_⟩
      have hc : s.fresh.chargerOn = false := hoff.resolve_left (by decide)
      rw [State.cellGoesHigh_off hc]
      exact regsBut_setReg (s.fresh.cellLevel true) _ _
  case refused =>
    change (s.fresh.cellGoesHigh.trickleWrite v).rtc = _ ∧ (s.fresh.cellGoesHigh.trickleWrite v).rbit _ _ = _
      ∧ (_ → (s.fresh.cellGoesHigh.trickleWrite v).reg _ = _) ∧ (_ → (s.fresh.cellGoesHigh.trickleWrite v).rbit _ _ = _ ∧
        (s.fresh.cellGoesHigh.trickleWrite v).rbit _ _ = _)
    have hrtc : s.fresh.cellGoesHigh.rtc = { s.rtc with cellHigh := true } := State.cellGoesHigh_rtc
    have hreg (o : Off) (h : o ∉ [Reg.HIF_IGNORED_WR_CNT, Reg.MGMT_IGNORED_WR_CNT, Reg.MGMT_IGNORED_LAST, Reg.MGMT_EVT, Reg.MSIX_PBA 0]) :
        (s.fresh.cellGoesHigh.ignored Reg.RTC_TRICKLE Why.condition).reg o = s.fresh.cellGoesHigh.reg o := State.reg_ignored _ _ _ _ _ h
    rw [State.trickleWrite_refused (by rw [State.cellGoesHigh_mgmt]; exact hm) hv (by rw [hrtc])]
    refine ⟨by simp [hrtc], State.rbit_ignored_event _ _, fun hoff => ?_, fun hon => ⟨?_, ?_⟩⟩
    · rw [hreg _ (by decide), State.cellGoesHigh_off (s := s.fresh) hoff]
      rfl
    · rw [State.rbit_of_reg (hreg _ (by decide)), State.cellGoesHigh_on (s := s.fresh) hon]
      simp [Reg.MSIX_PBA]
    · rw [State.rbit_of_reg (hreg _ (by decide)), State.cellGoesHigh_on (s := s.fresh) hon,
        State.rbit_raise _ _ _ _ _ (by decide), if_pos rfl, Bool.or_eq_true]
      exact .inr (by decide)

end Sys2Proof.Machine

/-! PROOFS. The real-time clock's edges, and the views of its count (R442, R443, R449-R454). -/

namespace Sys2Proof.Machine

theorem packU32_pair {a b j : Nat} (ha : a < 2 ^ j) (hb : 2 ^ j * b + a < 2 ^ 32) : (packU32 [(a, 0), (b, j)]).toNat = 2 ^ j * b + a := by
  have hj : b <<< j < 2 ^ 32 := by
    rw [Nat.shiftLeft_eq, Nat.mul_comm]
    omega
  have hpack : packU32 [(a, 0), (b, j)] = BitVec.ofNat 32 a ||| BitVec.ofNat 32 (b <<< j) := by simp [packU32]
  rw [hpack, BitVec.toNat_or, BitVec.toNat_ofNat, BitVec.toNat_ofNat, Nat.mod_eq_of_lt (show a < 2 ^ 32 by omega), Nat.mod_eq_of_lt hj,
    Nat.or_comm, ← Nat.shiftLeft_add_eq_or_of_lt ha, Nat.shiftLeft_eq, Nat.mul_comm]

/-! ## What the edges leave alone -/

/-- The registers that the edges of the count write. -/
def edgeRegs : List Off :=
  [Reg.RTC_STATUS, Reg.RTC_SHIFT_LEFT, Reg.RTC_ALM_CTL, Reg.RTC_ALM_CNT, Reg.RTC_SHIFT_CNT, Reg.RTC_SET_CNT, Reg.RTC_EVT, Reg.MSIX_PBA 0]

/-- Edges of the count: the wake timer and the supply are as they were, and every register but the count's own. -/
structure EdgesOnly (s t : State) : Prop where
  regs : RegsBut s t edgeRegs
  wake : t.rbit Reg.RTC_EVT 2 = s.rbit Reg.RTC_EVT 2
  timer : t.rtc.wakeLeft = s.rtc.wakeLeft ∧ t.rtc.wakeN = s.rtc.wakeN
  supply : t.rtc.onVbk = s.rtc.onVbk ∧ t.rtc.vbkPhase = s.rtc.vbkPhase

theorem EdgesOnly.refl (s : State) : EdgesOnly s s := ⟨.refl _ _, rfl, ⟨rfl, rfl⟩, rfl, rfl⟩

theorem EdgesOnly.trans {s t u : State} (h : EdgesOnly s t) (k : EdgesOnly t u) : EdgesOnly s u :=
  ⟨h.regs.trans k.regs, k.wake.trans h.wake, ⟨k.timer.1.trans h.timer.1, k.timer.2.trans h.timer.2⟩,
    k.supply.1.trans h.supply.1, k.supply.2.trans h.supply.2⟩

section

variable (s : State)

theorem edgesOnly_setReg {o : Off} (v : U32) (ho : o ∈ edgeRegs) (hne : Reg.RTC_EVT ≠ o) : EdgesOnly s (s.setReg o v) :=
  ⟨(regsBut_setReg s o v).mono (by simpa using ho), by rw [State.rbit_setReg, if_neg hne], ⟨rfl, rfl⟩, rfl, rfl⟩

theorem edgesOnly_raise {m : Nat} (hm : bitAt (BitVec.ofNat 32 m) 2 = false) : EdgesOnly s (s.raise Reg.RTC_EVT m) where
  regs := (regsBut_raise s _ _).mono (by decide)
  wake := by
    rw [State.rbit_raise _ _ _ _ _ (by decide), if_pos rfl, hm, Bool.or_false]
  timer := by simp
  supply := by simp

theorem edgesOnly_updRtc {f : Rtc → Rtc} (h : (f s.rtc).wakeLeft = s.rtc.wakeLeft ∧ (f s.rtc).wakeN = s.rtc.wakeN)
    (k : (f s.rtc).onVbk = s.rtc.onVbk ∧ (f s.rtc).vbkPhase = s.rtc.vbkPhase) : EdgesOnly s (s.updRtc f) :=
  ⟨regsBut_updRtc _ _, rfl, h, k⟩

theorem edgesOnly_almFire (b : Bool) : EdgesOnly s (s.almFire b) :=
  ((edgesOnly_setReg s _ (by decide) (by decide)).trans (edgesOnly_setReg _ _ (by decide) (by decide))).trans
    (edgesOnly_raise _ (by cases b <;> decide))

theorem EdgesOnly.ite {c : Prop} [Decidable c] {s a b : State} (ha : EdgesOnly s a) (hb : EdgesOnly s b) : EdgesOnly s (if c then a else b) := by
  split
  · exact ha
  · exact hb

theorem edgesOnly_rtcCount (n : Nat) : EdgesOnly s (s.rtcCount n) := by
  unfold State.rtcCount
  extract_lets old t new u v
  have hu : EdgesOnly s u := edgesOnly_updRtc _ ⟨rfl, rfl⟩ ⟨rfl, rfl⟩
  have hv : EdgesOnly s v := hu.trans (.ite (edgesOnly_updRtc _ ⟨rfl, rfl⟩ ⟨rfl, rfl⟩) (.refl _))
  exact hv.trans (.ite (edgesOnly_almFire _ _) (.refl _))

theorem edgesOnly_shiftEnd : EdgesOnly s s.shiftEnd := by
  have h1 : EdgesOnly s (s.setRegBit Reg.RTC_STATUS RtcStat.busy false) := edgesOnly_setReg _ _ (by decide) (by decide)
  refine ((h1.trans (edgesOnly_updRtc _ ?_ ?_)).trans (edgesOnly_setReg _ _ ?_ ?_)).trans (edgesOnly_raise _ (by decide))
  · exact ⟨rfl, rfl⟩
  · exact ⟨rfl, rfl⟩
  · decide
  · decide

theorem edgesOnly_rtcRun (n : Nat) : EdgesOnly s (s.rtcRun n) := by
  refine .ite (edgesOnly_rtcCount _ _) ?_
  refine ((edgesOnly_rtcCount s _).trans (edgesOnly_setReg _ _ (by decide) (by decide))).trans (.ite (edgesOnly_shiftEnd _) ?_)
  exact edgesOnly_updRtc _ ⟨rfl, rfl⟩ ⟨rfl, rfl⟩

theorem edgesOnly_shiftBegin : EdgesOnly s s.shiftBegin := by
  unfold State.shiftBegin
  split
  · exact .refl _
  · exact ((edgesOnly_setReg s _ (by decide) (by decide)).trans (edgesOnly_setReg _ _ (by decide) (by decide))).trans
      (edgesOnly_updRtc _ ⟨rfl, rfl⟩ ⟨rfl, rfl⟩)

theorem edgesOnly_commit : EdgesOnly s s.commit := by
  unfold State.commit
  extract_lets old u
  split
  extract_lets v w
  have hbusy : EdgesOnly s ((s.setRegBit Reg.RTC_STATUS RtcStat.busy false).raise Reg.RTC_EVT 0x40) :=
    (edgesOnly_setReg _ _ (by decide) (by decide)).trans (edgesOnly_raise _ (by decide))
  have hu : EdgesOnly s u := .ite hbusy (.refl _)
  have hv : EdgesOnly s v := hu.trans (edgesOnly_updRtc _ ⟨rfl, rfl⟩ ⟨rfl, rfl⟩)
  have hw : EdgesOnly s w := ((hv.trans (edgesOnly_setReg _ _ (by decide) (by decide))).trans
    (edgesOnly_setReg _ _ (by decide) (by decide))).trans (edgesOnly_raise _ (by decide))
  exact hw.trans (.ite (edgesOnly_almFire _ _) (.refl _))

theorem edgesOnly_rtcEdges (n : Nat) : EdgesOnly s (s.rtcEdges n) := by
  cases n with
  | zero => exact .refl _
  | succ n => exact (EdgesOnly.trans (.ite (edgesOnly_commit _) (edgesOnly_rtcRun _ _)) (edgesOnly_shiftBegin _)).trans (edgesOnly_rtcRun _ _)

/-! ## The wake timer and the measurement of VBK -/

theorem State.vbkRun_rtc (n : Nat) : ∃ p, (s.vbkRun n).rtc = { s.rtc with vbkPhase := p } := by
  unfold State.vbkRun
  split
  · exact ⟨_, rfl⟩
  dsimp only
  split <;> exact ⟨_, rfl⟩

theorem regsBut_vbkRun (n : Nat) : RegsBut s (s.vbkRun n) [Reg.RTC_VBK] := by
  unfold State.vbkRun
  split
  · exact .refl _ _
  dsimp only
  split
  · exact .refl _ _
  · exact regsBut_setReg (State.draw (s.updRtc _)).2 _ _

theorem State.vbkRun_out (n : Nat) : (s.vbkRun n).out = s.out := by
  unfold State.vbkRun
  split
  · rfl
  dsimp only
  split <;> rfl

theorem State.vbkRun_idle (n : Nat) (h : s.rtc.onVbk = true ∨ s.rtc.vbkPhase + n < 32768) : (s.vbkRun n).reg Reg.RTC_VBK = s.reg Reg.RTC_VBK := by
  unfold State.vbkRun
  split
  · rfl
  · next hoff =>
    dsimp only
    rw [if_pos (h.resolve_left hoff)]
    rfl

theorem State.wakeRun_before {n : Nat} (hon : s.rbit Reg.RTC_WAKE_CTL 0 = true) (hp : 0 < s.wakePeriod) (hn : 1 ≤ n) (hl : n < s.rtc.wakeLeft) :
    s.wakeRun n = s.updRtc (fun r => { r with wakeLeft := s.rtc.wakeLeft - n }) := by
  have hrun : ¬ (!s.rbit Reg.RTC_WAKE_CTL 0 || s.wakePeriod = 0 || n = 0) = true := by
    simp only [hon, Bool.not_true, Bool.false_or, Bool.or_eq_true, decide_eq_true_eq]
    omega
  rw [State.wakeRun]
  rw [if_neg hrun, if_pos hl]

theorem State.wakeRun_fires {n : Nat} (hon : s.rbit Reg.RTC_WAKE_CTL 0 = true) (hp : 0 < s.wakePeriod) (hn : 1 ≤ n) (hl : s.rtc.wakeLeft ≤ n) :
    s.wakeRun n = (s.updRtc (fun r => { r with wakeLeft := s.wakePeriod - (n - s.rtc.wakeLeft) % s.wakePeriod })).wakes
      ((n - s.rtc.wakeLeft) / s.wakePeriod + 1) := by
  have hrun : ¬ (!s.rbit Reg.RTC_WAKE_CTL 0 || s.wakePeriod = 0 || n = 0) = true := by
    simp only [hon, Bool.not_true, Bool.false_or, Bool.or_eq_true, decide_eq_true_eq]
    omega
  rw [State.wakeRun]
  rw [if_neg hrun, if_neg (Nat.not_lt_of_le hl)]

/-- A wake that finds the supply present and the event clear drives WAKE_N. -/
def State.drivesWake (s : State) : Bool := s.rbit Reg.RTC_WAKE_CTL 1 && !s.rtc.onVbk && !s.rbit Reg.RTC_EVT 2

theorem State.wakes_succ (k : Nat) : s.wakes (k + 1) =
    if s.drivesWake then ((((s.raise Reg.RTC_EVT 4).bumpBy Reg.RTC_WAKE_CNT (k + 1)).updRtc (fun r => { r with wakeN := true })).emitOut
      (.pin "WAKE_N" false)) else (s.raise Reg.RTC_EVT 4).bumpBy Reg.RTC_WAKE_CNT (k + 1) := by
  rw [State.wakes, if_neg (Nat.succ_ne_zero k)]
  rfl

theorem State.wakes_counted (k : Nat) : (s.wakes (k + 1)).rbit Reg.RTC_EVT 2 = true
    ∧ (s.wakes (k + 1)).reg Reg.RTC_WAKE_CNT = satAdd (s.reg Reg.RTC_WAKE_CNT) (k + 1)
    ∧ (s.wakes (k + 1)).rtc = { s.rtc with wakeN := s.drivesWake || s.rtc.wakeN } := by
  have hev : ((s.raise Reg.RTC_EVT 4).bumpBy Reg.RTC_WAKE_CNT (k + 1)).rbit Reg.RTC_EVT 2 = true := by
    rw [State.rbit_bumpBy _ _ _ _ _ (by decide), State.rbit_raise _ _ _ _ _ (by decide), if_pos rfl, Bool.or_eq_true]
    exact .inr (by decide)
  have hcnt : ((s.raise Reg.RTC_EVT 4).bumpBy Reg.RTC_WAKE_CNT (k + 1)).reg Reg.RTC_WAKE_CNT = satAdd (s.reg Reg.RTC_WAKE_CNT) (k + 1) := by
    simp [State.bumpBy, State.reg_raise, Reg.MSIX_PBA]
  rw [State.wakes_succ]
  cases s.drivesWake
  · exact ⟨hev, hcnt, by simp⟩
  · refine ⟨hev, hcnt, ?_⟩
    simp [State.updRtc, State.emitOut]

theorem State.wakeRun_supply (n : Nat) : RegsBut s (s.wakeRun n) [Reg.RTC_EVT, Reg.RTC_WAKE_CNT, Reg.MSIX_PBA 0]
    ∧ (s.wakeRun n).rtc.onVbk = s.rtc.onVbk ∧ (s.wakeRun n).rtc.vbkPhase = s.rtc.vbkPhase := by
  unfold State.wakeRun
  extract_lets p left
  split
  · exact ⟨.refl _ _, rfl, rfl⟩
  split
  · exact ⟨regsBut_updRtc _ _, rfl, rfl⟩
  · obtain ⟨-, -, hrtc⟩ := (s.updRtc (fun r => { r with wakeLeft := p - (n - left) % p })).wakes_counted ((n - left) / p)
    rw [hrtc]
    refine ⟨fun o ho => ?_, rfl, rfl⟩
    simp only [List.mem_cons, List.not_mem_nil, or_false, not_or] at ho
    rw [State.wakes_succ]
    split <;> simp [State.bumpBy, State.reg_raise, ho]

/-! ## Losing the backup domain -/

theorem State.reg_backupLost (o : Off) : s.backupLost.reg o = if isBackup o then regReset s.behavBoot o else s.reg o := by
  rw [State.reg, State.backupLost]
  dsimp only
  rw [Sparse.find_filter (fun o => !isBackup o)]
  cases isBackup o <;> rfl

/-! ## The forerunner's window -/

theorem State.legSet_ready {s : State} (hf : s.fmodeOn = true) (hm : Node.setup ≤ s.mgmt) :
    s.legSet = match legLocal s.rtc.legStage with
      | none => (s.setRegBit Reg.LEG_RTC_STAT 0 true).bump Reg.LEG_RTC_ERR_CNT
      | some l => (s.setRegBit Reg.LEG_RTC_STAT 0 false).updRtc (fun r =>
          { r with setPending := true, legCommit := some (ofInt 40 ((l : Int) - 900 * s.rtc.ofs.toInt - if s.rtc.dst then 3600 else 0)) }) := by
  have hr : ¬ (!s.fmodeOn || !s.rtcWritable) = true := by simp [hf, State.rtcWritable_of_le hm]
  refine (if_neg hr).trans ?_
  cases legLocal s.rtc.legStage <;> rfl

theorem EdgesOnly.wakeReady {s u : State} (h : EdgesOnly s u) : u.rbit Reg.RTC_WAKE_CTL 0 = s.rbit Reg.RTC_WAKE_CTL 0
    ∧ u.wakePeriod = s.wakePeriod ∧ u.rtc.wakeLeft = s.rtc.wakeLeft ∧ u.drivesWake = s.drivesWake := by
  have hctl (i : Nat) : u.rbit Reg.RTC_WAKE_CTL i = s.rbit Reg.RTC_WAKE_CTL i := State.rbit_of_reg (h.regs _ (by decide)) i
  refine ⟨hctl 0, ?_, h.timer.1, ?_⟩
  · rw [State.wakePeriod, State.rfld_of_reg (h.regs _ (by decide)), State.wakePeriod]
  · rw [State.drivesWake, hctl, h.supply.1, h.wake, State.drivesWake]

end

/-- Ticks of the oscillator: the edges, then the wake timer, then the measurement of VBK. -/
theorem State.rtcElapse_split (s : State) (n : Nat) : ∃ u v, EdgesOnly s u ∧ u.wakeRun n = v ∧ s.rtcElapse n = v.vbkRun n :=
  ⟨_, _, edgesOnly_rtcEdges s n, rfl, rfl⟩

/-- Settles O45: the edges leave the wake timer and the supply alone, and each view is one update of the RTC's part. -/
theorem rtcViewsAndBackup : Obligations.RtcViewsAndBackup := by
  unfold Obligations.RtcViewsAndBackup
  refine ⟨fun s ticks r hr => ⟨⟨r.fracRead, hr ▸ rfl, ?frac⟩, ⟨r.secHiRead, hr ▸ rfl, ?secHi⟩, fun hf => ⟨r.legSecRead, hr ▸ rfl, ?legSec⟩,
      fun hf => ⟨r.legYearRead, hr ▸ rfl, ?legYear⟩⟩,
    fun s ticks period left hon hp hpos hl hn => ⟨fun hlt => ⟨_, rfl, ?before⟩, fun hle => ⟨_, rfl, ?fires⟩⟩,
    fun s ticks h => ⟨_, rfl, ?vbk⟩,
    fun s x => ⟨fun hx => ⟨_, rfl, ?host⟩, fun hx => ⟨_, rfl, ?leg⟩, ⟨_, rfl, rfl, regsBut_updRtc (s := s.fresh) _ _⟩⟩,
    fun s hf hm => ⟨fun hl => ⟨_, rfl, ?legBad⟩, fun l hl => ⟨_, rfl, ?legSet⟩⟩,
    fun s => ⟨fun h => ⟨_, rfl, ?high⟩, fun h => ⟨_, rfl, ?quiet⟩⟩,
    fun s => ⟨fun h => ⟨s.fresh.backupLost, congrArg _ (if_pos h), ?stop⟩, fun h => ⟨s.fresh, congrArg _ (if_neg (by simp [h])), rfl⟩⟩⟩
  case frac =>
    refine ⟨rfl, ?_, .of_regs rfl rfl _⟩
    exact BitVec.toNat_setWidth_of_le (by decide)
  case secHi =>
    refine ⟨rfl, ?_, .of_regs rfl rfl _⟩
    have hs : r.rtc.hostSet.sec.toNat / 2 ^ 32 < 2 ^ 8 := Nat.div_lt_of_lt_mul r.rtc.hostSet.sec.isLt
    have hb : b2n r.rtc.hostStale ≤ 1 := by cases r.rtc.hostStale <;> decide
    exact (packU32_pair (by omega) (by omega)).trans (Nat.add_comm _ _)
  case legSec =>
    rw [State.legSecRead, if_pos hf]
    exact ⟨rfl, rfl, .of_regs rfl rfl _⟩
  case legYear =>
    rw [State.legYearRead, if_pos hf]
    exact ⟨rfl, rfl, .of_regs rfl rfl _⟩
  case before =>
    obtain ⟨u, v, hu, hv, he⟩ := s.fresh.rtcElapse_split ticks
    obtain ⟨hon', hper, hleft, -⟩ := hu.wakeReady
    rw [u.wakeRun_before (by rwa [hon']) (by rw [hper]; exact Nat.lt_of_lt_of_eq hpos hp) hn (by rw [hleft]; exact hl ▸ hlt)] at hv
    subst hv
    obtain ⟨p, hrtc⟩ := State.vbkRun_rtc (u.updRtc (fun r => { r with wakeLeft := u.rtc.wakeLeft - ticks })) ticks
    rw [he, hrtc]
    refine ⟨?_, ?_, hu.timer.2⟩
    · rw [hl]
      exact congrArg (· - ticks) hleft
    · rw [regsBut_vbkRun _ _ _ (by decide)]
      exact hu.regs _ (by decide)
  case fires =>
    obtain ⟨u, v, hu, hv, he⟩ := s.fresh.rtcElapse_split ticks
    obtain ⟨hon', hper, hleft, hdrives⟩ := hu.wakeReady
    rw [u.wakeRun_fires (by rwa [hon']) (by rw [hper]; exact Nat.lt_of_lt_of_eq hpos hp) hn (by rw [hleft]; exact hl ▸ hle), hper, hleft] at hv
    have hdrives' : (u.updRtc (fun r => { r with wakeLeft := s.fresh.wakePeriod - (ticks - s.fresh.rtc.wakeLeft) % s.fresh.wakePeriod })).drivesWake
      = s.drivesWake := hdrives
    obtain ⟨hev, hcnt, hwakes⟩ := State.wakes_counted
      (u.updRtc (fun r => { r with wakeLeft := s.fresh.wakePeriod - (ticks - s.fresh.rtc.wakeLeft) % s.fresh.wakePeriod }))
      ((ticks - s.fresh.rtc.wakeLeft) / s.fresh.wakePeriod)
    rw [hv] at hev hcnt hwakes
    rw [hdrives'] at hwakes
    obtain ⟨p, hrtc⟩ := v.vbkRun_rtc ticks
    have hleft' : s.fresh.rtc.wakeLeft = left := hl.symm
    have hper' : s.fresh.wakePeriod = period := hp.symm
    rw [hleft', hper'] at hcnt hwakes
    rw [he, hrtc, hwakes]
    refine ⟨?_, ?_, rfl, fun h1 h2 h3 => ?_, fun hoff => ?_⟩
    · rw [State.rbit_of_reg (regsBut_vbkRun _ _ _ (by decide))]
      exact hev
    · rw [regsBut_vbkRun _ _ _ (by decide), hcnt]
      exact congrArg (fun x => satAdd x _) (hu.regs _ (by decide))
    · have hd : s.drivesWake = true := by simp [State.drivesWake, h1, h2, h3]
      refine ⟨by simp [hd], ?_⟩
      rw [State.vbkRun_out, ← hv, State.wakes_succ, hdrives', if_pos hd]
      exact List.mem_append_right _ (List.mem_singleton_self _)
    · have hd : s.drivesWake = false := by
        rcases hoff with h | h <;> simp [State.drivesWake, h]
      rw [hd]
      exact hu.timer.2
  case vbk =>
    obtain ⟨u, v, hu, hv, he⟩ := s.fresh.rtcElapse_split ticks
    have hsup : v.rtc.onVbk = s.rtc.onVbk ∧ v.rtc.vbkPhase = s.rtc.vbkPhase := by
      obtain ⟨-, hvon, hvph⟩ := u.wakeRun_supply ticks
      rw [← hv]
      exact ⟨hvon.trans hu.supply.1, hvph.trans hu.supply.2⟩
    rw [he, v.vbkRun_idle ticks (by rwa [hsup.1, hsup.2]), ← hv, (u.wakeRun_supply ticks).1 _ (by decide)]
    exact hu.regs _ (by decide)
  case host =>
    have hs : s.fresh.rtc.host.isSome = true := by
      change s.rtc.host.isSome = true
      rw [hx]
      rfl
    exact ⟨if_pos hs, regsBut_updRtc (s := s.fresh) _ _⟩
  case leg =>
    have hs : s.fresh.rtc.leg.isSome = true := by
      change s.rtc.leg.isSome = true
      rw [hx]
      rfl
    exact ⟨if_pos hs, regsBut_updRtc (s := s.fresh) _ _⟩
  case legBad =>
    rw [State.legSet_ready (s := s.fresh) hf hm, show legLocal s.fresh.rtc.legStage = none from hl]
    exact ⟨by simp, by simp, by simp⟩
  case legSet =>
    rw [State.legSet_ready (s := s.fresh) hf hm, show legLocal s.fresh.rtc.legStage = some l from hl]
    exact ⟨rfl, by simp, rfl, rfl, regsBut_setRegBit s.fresh _ _ _⟩
  case high =>
    rw [State.cellGoesHigh_on (s := s.fresh) h]
    refine ⟨by simp [State.cellLevel_rtc], by simp [Reg.MSIX_PBA], ?_⟩
    rw [State.rbit_raise _ _ _ _ _ (by decide), if_pos rfl, Bool.or_eq_true]
    exact .inr (by decide)
  case quiet =>
    rw [State.cellGoesHigh_off (s := s.fresh) h]
    exact ⟨rfl, .of_regs rfl rfl _⟩
  case stop =>
    exact ⟨congrArg (fun b => ({ cellHigh := s.rtc.cellHigh, onVbk := b } : Rtc)) h,
      fun o ho => by rw [State.reg_backupLost, if_pos ho]; rfl, fun o ho => by rw [State.reg_backupLost, if_neg (by simp [ho])]; rfl⟩

end Sys2Proof.Machine

/-! PROOFS. What the edges of the real-time clock count (R437, R439, R444-R448). -/

namespace Sys2Proof.Machine

/-- The count as ticks of 1/32,768 s. -/
def Rtc.ticks (r : Rtc) : Nat := r.sec.toNat * 32768 + r.frac.toNat

/-- A count goes on: ticks, the local times, the alarm's two answers, and nothing of a commit or a shift. -/
structure Counts (s t : State) (n : Nat) : Prop where
  ticks : t.rtc.ticks = (s.rtc.ticks + n) % 2 ^ 55
  within : s.rtc.frac.toNat + n < 32768 → t.rtc.ofs = s.rtc.ofs ∧ t.rtc.ofsNext = s.rtc.ofsNext ∧ t.rtc.dst = s.rtc.dst
    ∧ t.rtc.dstNext = s.rtc.dstNext
  across : 32768 ≤ s.rtc.frac.toNat + n → t.rtc.ofs = s.rtc.ofsNext.getD s.rtc.ofs ∧ t.rtc.ofsNext = none
    ∧ t.rtc.dst = s.rtc.dstNext.getD s.rtc.dst ∧ t.rtc.dstNext = none
  pending : t.rtc.setPending = s.rtc.setPending ∧ t.rtc.shiftNext = s.rtc.shiftNext ∧ t.rtc.shiftPhase = s.rtc.shiftPhase
    ∧ t.rtc.legCommit = s.rtc.legCommit
  regs : RegsBut s t [Reg.RTC_ALM_CTL, Reg.RTC_ALM_CNT, Reg.RTC_EVT, Reg.MSIX_PBA 0]
  evt : ∀ i, s.rbit Reg.RTC_EVT i = true → t.rbit Reg.RTC_EVT i = true
  fires : s.almArmed = true → s.rtc.sec.toNat < s.almSec → s.almSec ≤ s.rtc.sec.toNat + (s.rtc.frac.toNat + n) / 32768 →
    t.reg Reg.RTC_ALM_CTL = 0x100 ∧ t.rbit Reg.RTC_EVT 0 = true ∧ t.reg Reg.RTC_ALM_CNT = satAdd (s.reg Reg.RTC_ALM_CNT) 1
  waits : ¬ (s.almArmed = true ∧ s.rtc.sec.toNat < s.almSec ∧ s.almSec ≤ s.rtc.sec.toNat + (s.rtc.frac.toNat + n) / 32768) →
    t.reg Reg.RTC_ALM_CTL = s.reg Reg.RTC_ALM_CTL ∧ t.reg Reg.RTC_ALM_CNT = s.reg Reg.RTC_ALM_CNT

section

variable (s : State)

theorem regsBut_almFire (b : Bool) : RegsBut s (s.almFire b) [Reg.RTC_ALM_CTL, Reg.RTC_ALM_CNT, Reg.RTC_EVT, Reg.MSIX_PBA 0] := fun o ho => by
  simp only [List.mem_cons, List.not_mem_nil, or_false, not_or] at ho
  simp [State.almFire, State.reg_raise, ho]

theorem State.almFire_rises (b : Bool) (i : Nat) (h : s.rbit Reg.RTC_EVT i = true) : (s.almFire b).rbit Reg.RTC_EVT i = true := by
  rw [State.almFire, State.rbit_raise _ _ _ _ _ (by decide), if_pos rfl, State.rbit_bump _ _ _ _ (by decide), State.rbit_setReg,
    if_neg (by decide), h, Bool.true_or]

theorem ticks_carry : ∀ o f n : Nat, (o + (f + n) / 32768) % 2 ^ 40 * 32768 + (f + n) % 32768 = (o * 32768 + f + n) % 2 ^ 55 := by omega

theorem State.rtcCount_counts (n : Nat) : Counts s (s.rtcCount n) n := by
  have halm (t : State) (h : t.regs = s.regs) (k : t.behavBoot = s.behavBoot) : t.almArmed = s.almArmed ∧ t.almSec = s.almSec := by
    have hreg := State.reg_congr h k
    exact ⟨State.rbit_of_reg (hreg _) _, by simp only [State.almSec, State.rfld, hreg]⟩
  unfold State.rtcCount
  extract_lets old t new u v
  have hv : v.regs = s.regs ∧ v.behavBoot = s.behavBoot ∧ v.rtc.ticks = (s.rtc.ticks + n) % 2 ^ 55 ∧
      (s.rtc.frac.toNat + n < 32768 → v.rtc.ofs = s.rtc.ofs ∧ v.rtc.ofsNext = s.rtc.ofsNext ∧ v.rtc.dst = s.rtc.dst ∧ v.rtc.dstNext = s.rtc.dstNext) ∧
      (32768 ≤ s.rtc.frac.toNat + n → v.rtc.ofs = s.rtc.ofsNext.getD s.rtc.ofs ∧ v.rtc.ofsNext = none
        ∧ v.rtc.dst = s.rtc.dstNext.getD s.rtc.dst ∧ v.rtc.dstNext = none) ∧
      (v.rtc.setPending = s.rtc.setPending ∧ v.rtc.shiftNext = s.rtc.shiftNext ∧ v.rtc.shiftPhase = s.rtc.shiftPhase
        ∧ v.rtc.legCommit = s.rtc.legCommit) := by
    have hticks : (BitVec.ofNat 40 new).toNat * 32768 + (BitVec.ofNat 15 (t % 32768)).toNat = (s.rtc.ticks + n) % 2 ^ 55 := by
      rw [BitVec.toNat_ofNat, BitVec.toNat_ofNat, Nat.mod_mod]
      exact ticks_carry old s.rtc.frac.toNat n
    by_cases hc : old < new
    · have hge : ¬ s.rtc.frac.toNat + n < 32768 := fun h => by
        have h0 : new = old + t / 32768 := rfl
        rw [show t / 32768 = 0 from Nat.div_eq_of_lt h] at h0
        omega
      rw [show v = u.localApply from if_pos hc]
      exact ⟨rfl, rfl, hticks, fun h => absurd h hge, fun _ => ⟨rfl, rfl, rfl, rfl⟩, rfl, rfl, rfl, rfl⟩
    · have hlt : s.rtc.frac.toNat + n < 32768 := by
        by_contra h
        have h1 : 0 < (s.rtc.frac.toNat + n) / 32768 := Nat.div_pos (Nat.le_of_not_lt h) (Nat.zero_lt_succ _)
        exact hc (Nat.lt_add_of_pos_right h1)
      rw [show v = u from if_neg hc]
      exact ⟨rfl, rfl, hticks, fun _ => ⟨rfl, rfl, rfl, rfl⟩, fun h => absurd hlt (Nat.not_lt_of_le h), rfl, rfl, rfl, rfl⟩
  clear_value v
  obtain ⟨hregs, hboot, hticks, hwithin, hacross, hpending⟩ := hv
  obtain ⟨harm, hsec⟩ := halm v hregs hboot
  have hreg := State.reg_congr hregs hboot
  by_cases hf : s.almArmed = true ∧ old < s.almSec ∧ s.almSec ≤ new
  · obtain ⟨h1, h2, h3⟩ := hf
    rw [if_pos (by simp [harm, hsec, h1, h2, h3])]
    have hrtc (b : Bool) : (v.almFire b).rtc = v.rtc := State.almFire_rtc b
    exact ⟨(congrArg Rtc.ticks (hrtc _)).trans hticks, by simpa only [hrtc] using hwithin, by simpa only [hrtc] using hacross,
      by simpa only [hrtc] using hpending,
      fun o ho => (regsBut_almFire v _ o ho).trans (hreg o),
      fun i hi => v.almFire_rises _ i ((State.rbit_of_reg (hreg _) i).trans hi),
      fun _ _ _ => ⟨State.almFire_ctl _, State.almFire_evt _, (State.almFire_count _).trans (congrArg (satAdd · 1) (hreg _))⟩,
      fun hn => absurd ⟨h1, h2, h3⟩ hn⟩
  · rw [if_neg (by simp only [harm, hsec, Bool.and_eq_true, decide_eq_true_eq]; exact fun h => hf ⟨h.1.1, h.1.2, h.2⟩)]
    exact ⟨hticks, hwithin, hacross, hpending, fun o _ => hreg o, fun i hi => (State.rbit_of_reg (hreg _) i).trans hi,
      fun h1 h2 h3 => absurd ⟨h1, h2, h3⟩ hf, fun _ => ⟨hreg _, hreg _⟩⟩

end

theorem frac_of_ticks : ∀ o f n o' f' : Nat, f < 32768 → f' < 32768 → o' * 32768 + f' = (o * 32768 + f + n) % 2 ^ 55 → f' = (f + n) % 32768 := by
  omega

theorem Counts.frac {s t : State} {n : Nat} (h : Counts s t n) : t.rtc.frac.toNat = (s.rtc.frac.toNat + n) % 32768 :=
  frac_of_ticks _ _ n _ _ s.rtc.frac.isLt t.rtc.frac.isLt h.ticks

theorem sec_of_ticks : ∀ o f n o' f' : Nat, f < 32768 → f' < 32768 → o + (f + n) / 32768 < 2 ^ 40 →
    o' * 32768 + f' = (o * 32768 + f + n) % 2 ^ 55 → o' = o + (f + n) / 32768 := by
  omega

theorem Counts.sec {s t : State} {n : Nat} (h : Counts s t n) (hlt : s.rtc.sec.toNat + (s.rtc.frac.toNat + n) / 32768 < 2 ^ 40) :
    t.rtc.sec.toNat = s.rtc.sec.toNat + (s.rtc.frac.toNat + n) / 32768 :=
  sec_of_ticks _ _ n _ _ s.rtc.frac.isLt t.rtc.frac.isLt hlt h.ticks

/-! ## The wake timer and VBK behind the edges -/

/-- The wake timer and the measurement of VBK move no part of the count. -/
structure CountKept (s t : State) : Prop where
  regs : RegsBut s t [Reg.RTC_EVT, Reg.RTC_WAKE_CNT, Reg.RTC_VBK, Reg.MSIX_PBA 0]
  evt : ∀ i, s.rbit Reg.RTC_EVT i = true → t.rbit Reg.RTC_EVT i = true
  rtc : ∃ a b c, t.rtc = { s.rtc with wakeLeft := a, wakeN := b, vbkPhase := c }

theorem State.wakes_rises (s : State) (k i : Nat) (h : s.rbit Reg.RTC_EVT i = true) : (s.wakes (k + 1)).rbit Reg.RTC_EVT i = true := by
  have hr : ((s.raise Reg.RTC_EVT 4).bumpBy Reg.RTC_WAKE_CNT (k + 1)).rbit Reg.RTC_EVT i = true := by
    rw [State.rbit_bumpBy _ _ _ _ _ (by decide), State.rbit_raise _ _ _ _ _ (by decide), if_pos rfl, h, Bool.true_or]
  rw [State.wakes_succ]
  split
  · exact hr
  · exact hr

theorem State.wakeRun_kept (s : State) (n : Nat) : CountKept s (s.wakeRun n) := by
  refine ⟨(s.wakeRun_supply n).1.mono (by decide), fun i hi => ?_, ?_⟩
  · unfold State.wakeRun
    extract_lets p left
    split
    · exact hi
    split
    · exact hi
    · exact State.wakes_rises _ _ _ hi
  · unfold State.wakeRun
    extract_lets p left
    split
    · exact ⟨_, _, _, rfl⟩
    split
    · exact ⟨_, _, _, rfl⟩
    · exact ⟨_, _, _, (State.wakes_counted _ _).2.2⟩

theorem State.vbkRun_kept (s : State) (n : Nat) : CountKept s (s.vbkRun n) := by
  obtain ⟨p, hp⟩ := s.vbkRun_rtc n
  exact ⟨(regsBut_vbkRun s n).mono (by decide),
    fun i hi => (State.rbit_of_reg (regsBut_vbkRun s n _ (by decide)) i).trans hi, _, _, p, hp⟩

theorem CountKept.trans {s t u : State} (h : CountKept s t) (k : CountKept t u) : CountKept s u := by
  obtain ⟨a, b, c, hr⟩ := k.rtc
  obtain ⟨a', b', c', hr'⟩ := h.rtc
  exact ⟨h.regs.trans k.regs, fun i hi => k.evt i (h.evt i hi), a, b, c, hr.trans (by rw [hr'])⟩

theorem State.rtcElapse_kept (s : State) (n : Nat) : CountKept (s.rtcEdges n) (s.rtcElapse n) :=
  (State.wakeRun_kept _ n).trans (State.vbkRun_kept _ n)

/-! ## Edges without a commit and without a shift -/

section

variable {s : State}

theorem State.rtcRun_plain (hb : s.rtcBit RtcStat.busy = false) (n : Nat) : s.rtcRun n = s.rtcCount n := by
  rw [State.rtcRun, if_pos (by simp [hb])]

theorem State.shiftBegin_none (hn : s.rtc.shiftNext = none) : s.shiftBegin = s := by
  rw [State.shiftBegin, hn]

theorem Counts.busy {t : State} {n : Nat} (h : Counts s t n) : t.rtcBit RtcStat.busy = s.rtcBit RtcStat.busy :=
  State.rbit_of_reg (h.regs _ (by decide)) _

theorem State.rtcEdges_plain (hp : s.rtc.setPending = false) (hn : s.rtc.shiftNext = none) (hb : s.rtcBit RtcStat.busy = false) (n : Nat) :
    ∃ u, Counts s u 1 ∧ Counts u (s.rtcEdges (n + 1)) n := by
  have h1 := s.rtcCount_counts 1
  refine ⟨_, h1, ?_⟩
  have he : s.rtcEdge = s.rtcCount 1 := by
    rw [State.rtcEdge, if_neg (by simp [hp]), State.rtcRun_plain hb, State.shiftBegin_none (h1.pending.2.1.trans hn)]
  rw [State.rtcEdges, he, State.rtcRun_plain (h1.busy.trans hb)]
  exact State.rtcCount_counts _ n

theorem Counts.alarm {t : State} {n : Nat} (h : Counts s t n) : t.almSec = s.almSec := by
  rw [State.almSec, State.almSec, State.rfld_of_reg (h.regs _ (by decide)), h.regs _ (by decide)]

theorem State.almSec_lt : s.almSec < 2 ^ 40 := by
  have h1 : s.rfld Reg.RTC_ALM_HI 0 8 < 2 ^ 8 := fld_lt _ _ _
  have h2 := (s.reg Reg.RTC_ALM_LO).isLt
  rw [State.almSec]
  omega

end

/-! ## Edges of a running shift -/

section

variable {s : State}

/-- The ticks that a shift inserts or suppresses in the next `n`. -/
def State.shiftTicks (s : State) (n : Nat) : Nat := min (s.rfld Reg.RTC_SHIFT_LEFT 0 17) ((s.rtc.shiftPhase + n) / 8 - s.rtc.shiftPhase / 8)

/-- What `n` ticks of the oscillator count while `k` of them are shifted. -/
def State.shifted (s : State) (n k : Nat) : Nat := if s.rbit Reg.RTC_SHIFT_LEFT 31 then n - k else n + k

theorem State.rtcRun_shift (hb : s.rtcBit RtcStat.busy = true) (n : Nat) : ∃ u, Counts s u (s.shifted n (s.shiftTicks n)) ∧
    ∀ v, v = u.setRegFld Reg.RTC_SHIFT_LEFT 0 17 (s.rfld Reg.RTC_SHIFT_LEFT 0 17 - s.shiftTicks n) →
      (s.shiftTicks n = s.rfld Reg.RTC_SHIFT_LEFT 0 17 → s.rtcRun n = v.shiftEnd)
      ∧ (s.shiftTicks n ≠ s.rfld Reg.RTC_SHIFT_LEFT 0 17 →
          s.rtcRun n = v.updRtc (fun r => { r with shiftPhase := s.rtc.shiftPhase + n })) := by
  refine ⟨_, s.rtcCount_counts _, fun v hv => ⟨fun h => ?_, fun h => ?_⟩⟩
  · rw [State.rtcRun, if_neg (by simp [hb])]
    exact (if_pos h).trans (congrArg State.shiftEnd hv.symm)
  · rw [State.rtcRun, if_neg (by simp [hb])]
    exact (if_neg h).trans (by rw [hv]; rfl)

end

/-- A shift has ended: the count stands where its ticks have brought it. -/
structure ShiftEnded (s t : State) (n : Nat) : Prop where
  busy : t.rtcBit RtcStat.busy = false
  evt : t.rbit Reg.RTC_EVT 4 = true
  count : t.reg Reg.RTC_SHIFT_CNT = satAdd (s.reg Reg.RTC_SHIFT_CNT) 1
  ticks : t.rtc.ticks = (s.rtc.ticks + n) % 2 ^ 55

theorem State.shiftEnd_ended {s u : State} {m : Nat} (h : Counts s u m) (x : Nat) :
    ShiftEnded s (u.setRegFld Reg.RTC_SHIFT_LEFT 0 17 x).shiftEnd m where
  busy := by simp [State.rtcBit, State.shiftEnd, Reg.MSIX_PBA, RtcStat.busy]
  evt := by
    rw [State.shiftEnd]
    rw [State.rbit_raise _ _ _ _ _ (by decide), if_pos rfl, Bool.or_eq_true]
    exact .inr (by decide)
  count := by
    have hc : u.reg Reg.RTC_SHIFT_CNT = s.reg Reg.RTC_SHIFT_CNT := h.regs _ (by decide)
    simp [State.shiftEnd, State.reg_raise, Reg.MSIX_PBA, hc]
  ticks := by
    have hr : (u.setRegFld Reg.RTC_SHIFT_LEFT 0 17 x).shiftEnd.rtc = { u.rtc with shiftPhase := 0 } := by
      simp [State.shiftEnd, State.updRtc]
    rw [hr]
    exact h.ticks

theorem ShiftEnded.counts {s t u : State} {m n : Nat} (h : ShiftEnded s t m) (k : Counts t u n) : ShiftEnded s u (m + n) where
  busy := k.busy.trans h.busy
  evt := k.evt _ h.evt
  count := (k.regs _ (by decide)).trans h.count
  ticks := by rw [k.ticks, h.ticks, Nat.mod_add_mod, Nat.add_assoc]

theorem shift_rest : ∀ phase n left : Nat, left ≤ (phase + (n + 1)) / 8 - phase / 8 → min left ((phase + 1) / 8 - phase / 8) ≠ left →
    min (left - min left ((phase + 1) / 8 - phase / 8)) ((phase + 1 + n) / 8 - (phase + 1) / 8) = left - min left ((phase + 1) / 8 - phase / 8) := by
  omega

theorem shift_within : ∀ phase n left : Nat, left ≤ (phase + (n + 1)) / 8 - phase / 8 →
    left ≤ n + 1 ∧ min left ((phase + 1) / 8 - phase / 8) ≤ 1 ∧ left - min left ((phase + 1) / 8 - phase / 8) ≤ n := by
  omega

/-- The edges in which a shift has its last tick (R445). -/
theorem State.rtcEdges_shift {s : State} (hp : s.rtc.setPending = false) (hn : s.rtc.shiftNext = none) (hb : s.rtcBit RtcStat.busy = true)
    (n : Nat) (hl : s.rfld Reg.RTC_SHIFT_LEFT 0 17 ≤ (s.rtc.shiftPhase + (n + 1)) / 8 - s.rtc.shiftPhase / 8) :
    ShiftEnded s (s.rtcEdges (n + 1)) (s.shifted (n + 1) (s.rfld Reg.RTC_SHIFT_LEFT 0 17)) := by
  obtain ⟨h1, h2, h3⟩ := shift_within _ _ _ hl
  obtain ⟨u, hu, hrun⟩ := State.rtcRun_shift hb 1
  obtain ⟨hlast, hmore⟩ := hrun _ rfl
  have hedge (t : State) (ht : s.rtcRun 1 = t) (hsn : t.rtc.shiftNext = none) : s.rtcEdges (n + 1) = t.rtcRun n := by
    rw [State.rtcEdges, State.rtcEdge, if_neg (by simp [hp]), ht, State.shiftBegin_none hsn]
  by_cases hk : s.shiftTicks 1 = s.rfld Reg.RTC_SHIFT_LEFT 0 17
  · have hend := State.shiftEnd_ended hu (s.rfld Reg.RTC_SHIFT_LEFT 0 17 - s.shiftTicks 1)
    rw [hedge _ (hlast hk) (by simpa [State.shiftEnd, State.updRtc] using hu.pending.2.1.trans hn), State.rtcRun_plain hend.busy]
    have hall := hend.counts (State.rtcCount_counts _ n)
    have hsum : s.shifted 1 (s.shiftTicks 1) + n = s.shifted (n + 1) (s.rfld Reg.RTC_SHIFT_LEFT 0 17) := by
      have hk1 : s.rfld Reg.RTC_SHIFT_LEFT 0 17 ≤ 1 := by
        rw [← hk]
        exact h2
      rw [hk, State.shifted, State.shifted]
      split <;> omega
    rwa [hsum] at hall
  · have hrest : min (s.rfld Reg.RTC_SHIFT_LEFT 0 17 - s.shiftTicks 1) ((s.rtc.shiftPhase + 1 + n) / 8 - (s.rtc.shiftPhase + 1) / 8)
        = s.rfld Reg.RTC_SHIFT_LEFT 0 17 - s.shiftTicks 1 := shift_rest _ _ _ hl hk
    have hn2 : s.rfld Reg.RTC_SHIFT_LEFT 0 17 - s.shiftTicks 1 ≤ n := h3
    have hlt : s.rfld Reg.RTC_SHIFT_LEFT 0 17 < 2 ^ 17 := fld_lt _ _ _
    generalize hv : (u.setRegFld Reg.RTC_SHIFT_LEFT 0 17 (s.rfld Reg.RTC_SHIFT_LEFT 0 17 - s.shiftTicks 1)).updRtc
      (fun r => { r with shiftPhase := s.rtc.shiftPhase + 1 }) = v at hmore
    have hvb : v.rtcBit RtcStat.busy = true := by
      rw [← hv, State.rtcBit, State.rbit_updRtc, State.rbit_setRegFld, if_neg (by decide)]
      exact hu.busy.trans hb
    have hvl : v.rfld Reg.RTC_SHIFT_LEFT 0 17 = s.rfld Reg.RTC_SHIFT_LEFT 0 17 - s.shiftTicks 1 := by
      rw [← hv, State.rfld_updRtc, State.rfld_setRegFld_self _ _ _ _ _ (by decide), Nat.mod_eq_of_lt (by omega)]
    have hvs : v.rbit Reg.RTC_SHIFT_LEFT 31 = s.rbit Reg.RTC_SHIFT_LEFT 31 := by
      rw [← hv, State.rbit_updRtc, State.rbit_setRegFld, if_neg (by decide)]
      exact State.rbit_of_reg (hu.regs _ (by decide)) _
    have hvp : v.rtc.shiftPhase = s.rtc.shiftPhase + 1 := by
      rw [← hv]
      rfl
    have hvt : v.rtc.ticks = (s.rtc.ticks + s.shifted 1 (s.shiftTicks 1)) % 2 ^ 55 := by
      rw [← hv]
      exact hu.ticks
    have hvc : v.reg Reg.RTC_SHIFT_CNT = s.reg Reg.RTC_SHIFT_CNT := by
      rw [← hv, State.reg_updRtc, State.reg_setRegFld, if_neg (by decide)]
      exact hu.regs _ (by decide)
    have hvk : v.shiftTicks n = v.rfld Reg.RTC_SHIFT_LEFT 0 17 := by
      rw [State.shiftTicks, hvl, hvp]
      exact hrest
    rw [hedge _ (hmore hk) (by rw [← hv]; exact hu.pending.2.1.trans hn)]
    obtain ⟨w, hw, hrunw⟩ := State.rtcRun_shift hvb n
    rw [(hrunw _ rfl).1 hvk]
    have hend := State.shiftEnd_ended hw (v.rfld Reg.RTC_SHIFT_LEFT 0 17 - v.shiftTicks n)
    have hsum : s.shifted 1 (s.shiftTicks 1) + v.shifted n (v.shiftTicks n) = s.shifted (n + 1) (s.rfld Reg.RTC_SHIFT_LEFT 0 17) := by
      have hk1 : s.shiftTicks 1 ≤ 1 := h2
      have hkl : s.shiftTicks 1 ≤ s.rfld Reg.RTC_SHIFT_LEFT 0 17 := Nat.min_le_left _ _
      rw [hvk, hvl, State.shifted, State.shifted, State.shifted, hvs]
      split <;> omega
    refine ⟨hend.busy, hend.evt, hend.count.trans (congrArg (satAdd · 1) hvc), ?_⟩
    rw [hend.ticks, hvt, Nat.mod_add_mod, Nat.add_assoc, hsum]

/-! ## The commit edge -/

/-- The staged time has been loaded (R444). -/
structure Committed (s t : State) : Prop where
  time : t.rtc.sec = s.staged.1 ∧ t.rtc.frac = s.staged.2
  pending : t.rtc.setPending = false ∧ t.rtc.legCommit = none
  valid : t.rtcBit RtcStat.valid = true
  evt : t.rbit Reg.RTC_EVT 9 = true
  count : t.reg Reg.RTC_SET_CNT = satAdd (s.reg Reg.RTC_SET_CNT) 1
  cut : s.rtcBit RtcStat.busy = true → t.rbit Reg.RTC_EVT 6 = true

/-- What moves no time and clears no event leaves a commit as it was. -/
theorem Committed.then {s t u : State} (h : Committed s t) (time : u.rtc.sec = t.rtc.sec ∧ u.rtc.frac = t.rtc.frac)
    (pending : u.rtc.setPending = t.rtc.setPending ∧ u.rtc.legCommit = t.rtc.legCommit)
    (valid : u.rtcBit RtcStat.valid = t.rtcBit RtcStat.valid) (evt : ∀ i, t.rbit Reg.RTC_EVT i = true → u.rbit Reg.RTC_EVT i = true)
    (count : u.reg Reg.RTC_SET_CNT = t.reg Reg.RTC_SET_CNT) : Committed s u :=
  ⟨⟨time.1.trans h.time.1, time.2.trans h.time.2⟩, ⟨pending.1.trans h.pending.1, pending.2.trans h.pending.2⟩, valid.trans h.valid,
    evt _ h.evt, count.trans h.count, fun hb => evt _ (h.cut hb)⟩

theorem State.commit_committed (s : State) : Committed s s.commit := by
  have hbusy (i : Nat) (hi : i = 9 ∨ i = 6) (t : State) (h : t.rbit Reg.RTC_EVT i = true ∨ i = 9) :
      (((t.setRegBit Reg.RTC_STATUS RtcStat.valid true).bump Reg.RTC_SET_CNT).raise Reg.RTC_EVT 0x200).rbit Reg.RTC_EVT i = true := by
    rw [State.rbit_raise _ _ _ _ _ (by decide), if_pos rfl, State.rbit_bump _ _ _ _ (by decide), State.rbit_setRegBit,
      if_neg (fun h => absurd h.1 (by decide)), Bool.or_eq_true]
    rcases h with h | rfl
    · exact .inl h
    · exact .inr (by decide)
  unfold State.commit
  extract_lets old u
  split
  next sec frac hst =>
  extract_lets v w
  have hu : u.reg Reg.RTC_SET_CNT = s.reg Reg.RTC_SET_CNT ∧ (s.rtcBit RtcStat.busy = true → u.rbit Reg.RTC_EVT 6 = true) := by
    cases hb : s.rtcBit RtcStat.busy
    · rw [show u = s from if_neg (by simp [hb])]
      exact ⟨rfl, nofun⟩
    · rw [show u = _ from if_pos hb]
      refine ⟨by simp [State.reg_raise, Reg.MSIX_PBA], fun _ => ?_⟩
      rw [State.rbit_raise _ _ _ _ _ (by decide), if_pos rfl, Bool.or_eq_true]
      exact .inr (by decide)
  have hw : Committed s w := by
    have hrtc : w.rtc = v.rtc := by simp [w]
    refine ⟨?_, ?_, by simp [w, State.rtcBit, Reg.MSIX_PBA, RtcStat.valid], hbusy 9 (.inl rfl) v (.inr rfl), ?_,
      fun hb => hbusy 6 (.inr rfl) v (.inl (hu.2 hb))⟩
    · rw [hrtc, hst]
      exact ⟨rfl, rfl⟩
    · rw [hrtc]
      exact ⟨rfl, rfl⟩
    · have hv : v.reg Reg.RTC_SET_CNT = s.reg Reg.RTC_SET_CNT := hu.1
      simp [w, State.reg_raise, Reg.MSIX_PBA, hv]
  clear_value w
  split
  · refine hw.then ?_ ?_ (State.rbit_of_reg (regsBut_almFire w _ _ (by decide)) _) (w.almFire_rises _) (regsBut_almFire w _ _ (by decide))
    · exact ⟨by rw [State.almFire_rtc], by rw [State.almFire_rtc]⟩
    · exact ⟨by rw [State.almFire_rtc], by rw [State.almFire_rtc]⟩
  · exact hw

theorem Committed.shiftBegin {s t : State} (h : Committed s t) : Committed s t.shiftBegin := by
  unfold State.shiftBegin
  split
  · exact h
  · refine h.then ⟨rfl, rfl⟩ ⟨rfl, rfl⟩ ?_ (fun i hi => ?_) (by simp)
    · simp [State.rtcBit, RtcStat.valid, RtcStat.busy]
    · rw [State.rbit_updRtc, State.rbit_setRegBit, if_neg (fun h => absurd h.1 (by decide)), State.rbit_setReg, if_neg (by decide)]
      exact hi

theorem Committed.counts {s t u : State} (h : Committed s t) (k : Counts t u 0) : Committed s u := by
  have hf : u.rtc.frac = t.rtc.frac := BitVec.eq_of_toNat_eq (by
    rw [k.frac, Nat.add_zero, Nat.mod_eq_of_lt t.rtc.frac.isLt])
  have hs : u.rtc.sec = t.rtc.sec := BitVec.eq_of_toNat_eq (by
    have hdiv : (t.rtc.frac.toNat + 0) / 32768 = 0 := Nat.div_eq_of_lt t.rtc.frac.isLt
    rw [k.sec (by rw [hdiv]; exact t.rtc.sec.isLt), hdiv, Nat.add_zero])
  exact h.then ⟨hs, hf⟩ ⟨k.pending.1, k.pending.2.2.2⟩ (State.rbit_of_reg (k.regs _ (by decide)) _) k.evt (k.regs _ (by decide))

theorem Committed.rtcRun_zero {s t : State} (h : Committed s t) : Committed s (t.rtcRun 0) := by
  cases hb : t.rtcBit RtcStat.busy
  · rw [State.rtcRun_plain hb]
    exact h.counts (State.rtcCount_counts t 0)
  · have hk : t.shiftTicks 0 = 0 := by
      rw [State.shiftTicks, Nat.add_zero, Nat.sub_self, Nat.min_zero]
    obtain ⟨u, hu, hrun⟩ := State.rtcRun_shift hb 0
    obtain ⟨hlast, hmore⟩ := hrun _ rfl
    have h0 : t.shifted 0 (t.shiftTicks 0) = 0 := by
      rw [hk, State.shifted]
      split <;> rfl
    rw [h0] at hu
    have hu' := h.counts hu
    have hx : Committed s (u.setRegFld Reg.RTC_SHIFT_LEFT 0 17 (t.rfld Reg.RTC_SHIFT_LEFT 0 17 - t.shiftTicks 0)) :=
      hu'.then ⟨rfl, rfl⟩ ⟨rfl, rfl⟩ (by simp [State.rtcBit]) (fun i hi => by simpa using hi) (by simp)
    by_cases hl : t.shiftTicks 0 = t.rfld Reg.RTC_SHIFT_LEFT 0 17
    · rw [hlast hl]
      refine hx.then ?_ ?_ ?_ (fun i hi => ?_) ?_
      · simp [State.shiftEnd, State.updRtc]
      · simp [State.shiftEnd, State.updRtc]
      · simp [State.shiftEnd, State.rtcBit, Reg.MSIX_PBA, RtcStat.valid, RtcStat.busy]
      · rw [State.shiftEnd]
        rw [State.rbit_raise _ _ _ _ _ (by decide), if_pos rfl, State.rbit_bump _ _ _ _ (by decide), State.rbit_updRtc,
          State.rbit_setRegBit, if_neg (fun h => absurd h.1 (by decide)), hi, Bool.true_or]
      · simp [State.shiftEnd, State.reg_raise, Reg.MSIX_PBA]
    · rw [hmore hl]
      exact hx.then ⟨rfl, rfl⟩ ⟨rfl, rfl⟩ rfl (fun _ hi => hi) rfl

theorem State.rtcEdges_commit {s : State} (hp : s.rtc.setPending = true) : Committed s (s.rtcEdges 1) := by
  rw [State.rtcEdges, State.rtcEdge, if_pos hp]
  exact s.commit_committed.shiftBegin.rtcRun_zero

/-! ## The obligation -/

theorem alarm_within : ∀ o f a n : Nat, f < 32768 → o < a → a * 32768 ≤ o * 32768 + f + n → ∃ m, n = m + 1 := by
  intro o f a n hf ho ha
  exact ⟨n - 1, by omega⟩

theorem alarm_second : ∀ o f a n : Nat, ¬ a ≤ o + (f + 1) / 32768 → a * 32768 ≤ o * 32768 + f + (n + 1) →
    o + (f + 1) / 32768 < a ∧ a ≤ o + (f + 1) / 32768 + ((f + 1) % 32768 + n) / 32768 := by
  omega

/-- The edges up to ALM_SEC fire an armed alarm, once (R447). -/
theorem State.rtcEdges_alarm {s : State} {n : Nat} (hp : s.rtc.setPending = false) (hn : s.rtc.shiftNext = none)
    (hb : s.rtcBit RtcStat.busy = false) (ha : s.almArmed = true) (ho : s.rtc.sec.toNat < s.almSec)
    (hr : s.almSec * 32768 ≤ s.rtc.sec.toNat * 32768 + s.rtc.frac.toNat + n) :
    (s.rtcEdges n).reg Reg.RTC_ALM_CTL = 0x100 ∧ (s.rtcEdges n).rbit Reg.RTC_EVT 0 = true
      ∧ (s.rtcEdges n).reg Reg.RTC_ALM_CNT = satAdd (s.reg Reg.RTC_ALM_CNT) 1 := by
  obtain ⟨m, rfl⟩ := alarm_within _ _ _ _ s.rtc.frac.isLt ho hr
  obtain ⟨u, hu, hv⟩ := State.rtcEdges_plain hp hn hb m
  by_cases h1 : s.almSec ≤ s.rtc.sec.toNat + (s.rtc.frac.toNat + 1) / 32768
  · obtain ⟨hctl, hevt, hcnt⟩ := hu.fires ha ho h1
    have hoff : ¬ u.almArmed = true := by
      rw [State.almArmed, State.rbit, hctl]
      decide
    obtain ⟨hctl', hcnt'⟩ := hv.waits (fun h => hoff h.1)
    exact ⟨hctl'.trans hctl, hv.evt _ hevt, hcnt'.trans hcnt⟩
  · obtain ⟨hlt, hle⟩ := alarm_second _ _ _ _ h1 hr
    have hsec := hu.sec (Nat.lt_trans hlt State.almSec_lt)
    obtain ⟨hctl, hcnt⟩ := hu.waits (fun h => h1 h.2.2)
    obtain ⟨hctl', hevt', hcnt'⟩ := hv.fires ((State.rbit_of_reg hctl 0).trans ha) (by rw [hu.alarm, hsec]; exact hlt)
      (by rw [hu.alarm, hsec, hu.frac]; exact hle)
    exact ⟨hctl', hevt', hcnt'.trans (congrArg (satAdd · 1) hcnt)⟩

/-- The local times behind two counts, of which one at most crosses a second. -/
theorem Counts.locals {s u v : State} {n : Nat} (hu : Counts s u 1) (hv : Counts u v n) :
    (s.rtc.frac.toNat + (n + 1) < 32768 → v.rtc.ofs = s.rtc.ofs ∧ v.rtc.dst = s.rtc.dst ∧ v.rtc.dstNext = s.rtc.dstNext)
    ∧ (32768 ≤ s.rtc.frac.toNat + (n + 1) → v.rtc.ofs = s.rtc.ofsNext.getD s.rtc.ofs ∧ v.rtc.dst = s.rtc.dstNext.getD s.rtc.dst
        ∧ v.rtc.ofsNext = none ∧ v.rtc.dstNext = none) := by
  have hf := hu.frac
  have hlt := s.rtc.frac.isLt
  by_cases h1 : s.rtc.frac.toNat + 1 < 32768
  · obtain ⟨ho, hon, hd, hdn⟩ := hu.within h1
    rw [Nat.mod_eq_of_lt h1] at hf
    refine ⟨fun h => ?_, fun h => ?_⟩
    · obtain ⟨ho', -, hd', hdn'⟩ := hv.within (by omega)
      exact ⟨ho'.trans ho, hd'.trans hd, hdn'.trans hdn⟩
    · obtain ⟨ho', hon', hd', hdn'⟩ := hv.across (by omega)
      rw [hon, ho] at ho'
      rw [hdn, hd] at hd'
      exact ⟨ho', hd', hon', hdn'⟩
  · obtain ⟨ho, hon, hd, hdn⟩ := hu.across (by omega)
    refine ⟨fun h => by omega, fun _ => ?_⟩
    by_cases h2 : u.rtc.frac.toNat + n < 32768
    · obtain ⟨ho', hon', hd', hdn'⟩ := hv.within h2
      exact ⟨ho'.trans ho, hd'.trans hd, hon'.trans hon, hdn'.trans hdn⟩
    · obtain ⟨ho', hon', hd', hdn'⟩ := hv.across (by omega)
      rw [hon] at ho'
      rw [hdn] at hd'
      exact ⟨ho'.trans ho, hd'.trans hd, hon', hdn'⟩

/-- Settles O43: the edges of a step count on, and the wake timer and VBK behind them move no part of the count. -/
theorem rtcCounting : Obligations.RtcCounting := by
  unfold Obligations.RtcCounting
  refine ⟨fun s ticks h1 hp hn hb => ⟨_, rfl, ?count⟩, fun s ticks hp hn hb ha ho hr => ⟨_, rfl, ?alarm⟩,
    fun s ticks left h1 hp hn hb hleft hl => ⟨_, rfl, ?shift⟩, fun s hp => ⟨s.fresh.rtcElapse 1, congrArg _ (if_pos hp), ?commit⟩⟩
  case count =>
    obtain ⟨n, rfl⟩ := Nat.exists_eq_succ_of_ne_zero (Nat.ne_of_gt h1)
    obtain ⟨u, hu, hv⟩ := State.rtcEdges_plain (s := s.fresh) hp hn hb n
    obtain ⟨hwithin, hacross⟩ := hu.locals hv
    obtain ⟨a, b, c, hr⟩ := (s.fresh.rtcElapse_kept (n + 1)).rtc
    rw [hr]
    refine ⟨?_, hwithin, hacross⟩
    have ht := hv.ticks
    rw [hu.ticks, Nat.mod_add_mod, Nat.add_assoc, Nat.add_comm 1 n] at ht
    exact ht
  case alarm =>
    obtain ⟨hctl, hevt, hcnt⟩ := State.rtcEdges_alarm (s := s.fresh) hp hn hb ha ho hr
    have hk := s.fresh.rtcElapse_kept ticks
    exact ⟨(hk.regs _ (by decide)).trans hctl, hk.evt _ hevt, (hk.regs _ (by decide)).trans hcnt⟩
  case shift =>
    obtain ⟨n, rfl⟩ := Nat.exists_eq_succ_of_ne_zero (Nat.ne_of_gt h1)
    have hd := State.rtcEdges_shift (s := s.fresh) hp hn hb n (by rw [show s.fresh.rfld Reg.RTC_SHIFT_LEFT 0 17 = left from hleft]; exact hl)
    rw [show s.fresh.rfld Reg.RTC_SHIFT_LEFT 0 17 = left from hleft] at hd
    have hk := s.fresh.rtcElapse_kept (n + 1)
    obtain ⟨a, b, c, hr⟩ := hk.rtc
    refine ⟨(State.rbit_of_reg (hk.regs _ (by decide)) _).trans hd.busy, hk.evt _ hd.evt, (hk.regs _ (by decide)).trans hd.count, ?_⟩
    rw [hr]
    exact hd.ticks
  case commit =>
    have hd := State.rtcEdges_commit (s := s.fresh) hp
    have hk := s.fresh.rtcElapse_kept 1
    obtain ⟨a, b, c, hr⟩ := hk.rtc
    obtain ⟨⟨hsec, hfrac⟩, ⟨hsp, hlc⟩, hvalid, hevt, hcnt, hcut⟩ := hd
    dsimp only
    rw [hr]
    exact ⟨hsec, hfrac, hsp, hlc, (State.rbit_of_reg (hk.regs _ (by decide)) _).trans hvalid, hk.evt _ hevt,
      (hk.regs _ (by decide)).trans hcnt, fun h => hk.evt _ (hcut h)⟩

end Sys2Proof.Machine

/-! PROOFS. The terminals: clamps, burdens, biases and the check of the definitions (R148-R151, R156). -/

namespace Sys2Proof.Machine

/-- A bit of a word laid out field by field is that bit of one of its fields. -/
theorem bitAt_packU32 (fs : List (Nat × Nat)) {i : Nat} (hi : i < 32) :
    bitAt (packU32 fs) i = fs.any (fun f => decide (f.2 ≤ i) && f.1.testBit (i - f.2)) := by
  have hgen (acc : U32) : bitAt (fs.foldl (fun acc f => acc ||| BitVec.ofNat 32 (f.1 <<< f.2)) acc) i
      = (bitAt acc i || fs.any (fun f => decide (f.2 ≤ i) && f.1.testBit (i - f.2))) := by
    induction fs generalizing acc with
    | nil => simp
    | cons f fs ih =>
      have hf : bitAt (BitVec.ofNat 32 (f.1 <<< f.2)) i = (decide (f.2 ≤ i) && f.1.testBit (i - f.2)) := by
        rw [bitAt, BitVec.toNat_ofNat, Nat.testBit_mod_two_pow, decide_eq_true hi, Bool.true_and, Nat.testBit_shiftLeft]
      rw [List.foldl_cons, ih, bitAt_or, hf, List.any_cons, Bool.or_assoc]
  rw [packU32, hgen 0]
  simp [bitAt]

section

variable (s : State)

theorem div_lt_six {k : Nat} (hk : k < 192) : k / 32 < 6 := by omega

theorem clamp_offsets : ∀ a k : Nat, a < 6 → (0xc500 + 4 * a ≠ 0xc520 + 4 * a ∧ 0xc520 + 4 * a ≠ 0xc600 + 4 * k ∧ 0xc500 + 4 * a ≠ 0xc600 + 4 * k)
    ∧ 0xc500 + 4 * a ≠ 0x3800 ∧ 0xc600 + 4 * k ≠ 0x3800 ∧ 0xc520 + 4 * a ≠ 0x3800 := by omega

theorem clamp_apart (k : Nat) (hk : k < 192) : Reg.XP_CLAMP_FLAG (k / 32) ≠ Reg.XP_CLAMP_NOW (k / 32)
    ∧ Reg.XP_CLAMP_NOW (k / 32) ≠ Reg.XP_CLAMP_CNT k ∧ Reg.XP_CLAMP_FLAG (k / 32) ≠ Reg.XP_CLAMP_CNT k
    ∧ Reg.XP_CLAMP_FLAG (k / 32) ≠ Reg.MSIX_PBA 0 ∧ Reg.XP_CLAMP_CNT k ≠ Reg.MSIX_PBA 0 ∧ Reg.XP_CLAMP_NOW (k / 32) ≠ Reg.MSIX_PBA 0 := by
  obtain ⟨⟨h1, h2, h3⟩, h4, h5, h6⟩ := clamp_offsets (k / 32) k (div_lt_six hk)
  exact ⟨h1, h2, h3, h4, h5, h6⟩

theorem bitAt_two_pow {i : Nat} (hi : i < 32) : bitAt (BitVec.ofNat 32 (2 ^ i)) i = true := by
  rw [bitAt, BitVec.toNat_ofNat, Nat.testBit_mod_two_pow, Nat.testBit_two_pow_self, Bool.and_true, decide_eq_true hi]

/-- The event of a clamp leaves the lanes' slots to note it, and no register. -/
theorem State.reg_noteClamp (t : Nat) (o : Off) (u : State) :
    ((List.range 48).foldl (fun s n => s.updLane n (fun l => { l with
      slot := l.slot.map (fun sl => { sl with
        clampSeen := sl.clampSeen || (ChDef.ofBytes sl.image).terminals.contains t }) })) u).reg o = u.reg o :=
  foldl_same (fun s => s.reg o) _ (fun _ _ => State.reg_updLane _ _ _ o) _ u

theorem State.xpRun_setup : (s.xpRun false).rbit Reg.XP_CHK_STATUS 0 = true
    ∧ (s.xpRun false).rbit Reg.XP_CHK_STATUS 1 = !s.invalidDefs.isEmpty
    ∧ RegsBut s (s.xpRun false) [Reg.XP_CHK_STATUS, Reg.XP_CHK_FIRST] := by
  have hrun : ∃ first, s.xpRun false = (s.setReg Reg.XP_CHK_STATUS
    (packU32 [(1, 0), (b2n (!s.invalidDefs.isEmpty), 1), (min s.invalidDefs.length 255, 8), (b2n false, 16)])).setReg Reg.XP_CHK_FIRST first :=
    ⟨_, rfl⟩
  obtain ⟨first, hf⟩ := hrun
  rw [hf]
  refine ⟨?_, ?_, RegsBut.trans (t := s.setReg Reg.XP_CHK_STATUS _) ((regsBut_setReg s _ _).mono (by decide))
    ((regsBut_setReg _ _ _).mono (by decide))⟩
  · rw [State.rbit_setReg, if_neg (by decide), State.rbit_setReg, if_pos rfl, bitAt_packU32 _ (by decide)]
    simp
  · rw [State.rbit_setReg, if_neg (by decide), State.rbit_setReg, if_pos rfl, bitAt_packU32 _ (by decide)]
    have h11 : Nat.testBit 1 1 = false := by decide
    cases s.invalidDefs.isEmpty <;> simp [b2n, h11]

theorem State.invalidDefs_nonempty : (!s.invalidDefs.isEmpty) = true ↔ ∃ n, n < 256 ∧ s.chValid n = false := by
  rw [Bool.not_eq_true', List.isEmpty_eq_false_iff_exists_mem]
  simp [State.invalidDefs, State.chValid]

theorem State.chRuleBut10_fresh (n : Nat) : s.fresh.chRuleBut10 n = s.chRuleBut10 n := rfl

theorem State.chainBad_fresh (fuel : Nat) (seen : List Nat) (n : Nat) : s.fresh.chainBad fuel seen n = s.chainBad fuel seen n := by
  induction fuel generalizing seen n with
  | zero => rfl
  | succ fuel ih => simp only [State.chainBad, State.chRuleBut10_fresh, ih]; rfl

theorem State.chRule_fresh (n : Nat) : s.fresh.chRule n = s.chRule n := by
  simp only [State.chRule, State.chRuleBut10_fresh, State.chainBad_fresh]
  rfl

end

/-- Settles O27: each event is one write of its own bit and counter. -/
theorem terminalsAndCheck : Obligations.TerminalsAndCheck := by
  unfold Obligations.TerminalsAndCheck
  refine ⟨fun s k hk hoff => ⟨_, need_of (decide_eq_true hk) _, ?clamp⟩, fun s k hk => ⟨_, need_of (decide_eq_true hk) _, ?clampEnd⟩,
    fun s k hk hon hoff => ⟨_, need_of (decide_eq_true hk) _, ?burden⟩, fun s k hk => ⟨_, need_of (decide_eq_true hk) _, ?reclose⟩,
    fun s k hk hoff => ⟨_, need_of (decide_eq_true hk) _, ?bias⟩, fun s k hk => ⟨_, need_of (decide_eq_true hk) _, ?biasEnd⟩,
    fun s hm => ⟨_, rfl, ?check⟩, fun s v hm => ⟨_, rfl, ?late⟩⟩
  case clamp =>
    rw [if_neg (by rw [show s.fresh.clampNow k = false from hoff]; decide)]
    obtain ⟨hflag, hcnt, hnow, hfp, hcp, hnp⟩ := clamp_apart k hk
    have hm : k % 32 < 32 := Nat.mod_lt _ (by decide)
    refine ⟨?_, ?_, ?_⟩
    · rw [State.clampNow, State.rbit_of_reg (State.reg_noteClamp _ _ _), State.rbit_bump _ _ _ _ hcnt, State.rbit_raise _ _ _ _ _ hnp,
        if_neg (Ne.symm hflag), State.rbit_setRegBit_self _ _ _ _ hm]
    · rw [State.rbit_of_reg (State.reg_noteClamp _ _ _), State.rbit_bump _ _ _ _ hnow, State.rbit_raise _ _ _ _ _ hfp, if_pos rfl,
        Bool.or_eq_true]
      exact .inr (bitAt_two_pow hm)
    · rw [State.reg_noteClamp, State.reg_bump, if_pos rfl, State.reg_raise _ _ _ _ hcp, if_neg (Ne.symm hnow), State.reg_setRegBit,
        if_neg (Ne.symm hcnt)]
      rfl
  case clampEnd =>
    exact ⟨by simp [State.clampNow]; omega, regsBut_setRegBit s.fresh _ _ _⟩
  case burden =>
    rw [if_pos (by simp [show s.fresh.burdenOn k = true from hon, show s.fresh.burdenOpen k = false from hoff])]
    have hne : Reg.XP_BURDEN_OC_CNT ≠ Reg.XP_BURDEN_OPEN (k / 32) := Nat.ne_of_lt (Nat.lt_of_lt_of_le (by decide) (Nat.le_add_right _ _))
    refine ⟨?_, ?_, RegsBut.trans (t := s.fresh.setRegBit (Reg.XP_BURDEN_OPEN (k / 32)) (k % 32) true)
      ((regsBut_setRegBit s.fresh _ _ _).mono (by simp)) ((regsBut_bump _ _).mono (by simp))⟩
    · rw [State.burdenOpen, State.rbit_bump _ _ _ _ (Ne.symm hne), State.rbit_setRegBit_self _ _ _ _ (Nat.mod_lt _ (by decide))]
    · rw [State.reg_bump, if_pos rfl, State.reg_setRegBit, if_neg hne]
      rfl
  case reclose =>
    exact ⟨by simp [State.burdenOpen]; omega, regsBut_setRegBit s.fresh _ _ _⟩
  case bias =>
    rw [if_pos (by simp [hoff])]
    refine ⟨by simp; omega, by simp, RegsBut.trans (t := s.fresh.setRegBit Reg.BS_STATUS k true)
      ((regsBut_setRegBit s.fresh _ _ _).mono (by simp)) ((regsBut_bump _ _).mono (by simp))⟩
  case biasEnd =>
    rw [if_neg (by simp)]
    exact ⟨by simp; omega, regsBut_setRegBit s.fresh _ _ _⟩
  case check =>
    rw [State.checkWrite, if_neg (by simp [show s.fresh.mgmt = Node.setup from hm]), if_neg (by decide)]
    obtain ⟨h0, h1, hr⟩ := s.fresh.xpRun_setup
    refine ⟨h0, ?_, hr⟩
    rw [h1]
    simpa only [State.chValid, State.chRule_fresh] using s.fresh.invalidDefs_nonempty
  case late =>
    rw [State.checkWrite, if_pos (by simpa using hm)]
    refine ⟨?_, State.rbit_ignored_event (s := s.fresh) _ _⟩
    rw [State.reg_ignored s.fresh _ _ _ _ (by decide)]
    rfl

end Sys2Proof.Machine

/-! PROOFS. Isolated digital I/O: the banks, offered records, frames and counts (R351-R374). -/

namespace Sys2Proof.Machine

section

variable (s : State)

/-! ## Pairs -/

theorem State.reg_setPair (lo hi p : Off) (v : U64) :
    (s.setPair lo hi v).reg p = if p = hi then BitVec.ofNat 32 (v.toNat / 2 ^ 32) else if p = lo then v.truncate 32 else s.reg p := by
  rw [State.setPair, State.reg_setReg, State.reg_setReg]

theorem regsBut_setPair (lo hi : Off) (v : U64) : RegsBut s (s.setPair lo hi v) [lo, hi] := fun o ho => by
  simp only [List.mem_cons, List.not_mem_nil, or_false, not_or] at ho
  rw [State.reg_setPair, if_neg ho.2, if_neg ho.1]

theorem halves_append (v : U64) : (BitVec.ofNat 32 (v.toNat / 2 ^ 32) ++ v.truncate 32 : BitVec (32 + 32)) = v := by
  refine BitVec.eq_of_toNat_eq ?_
  have hv := v.isLt
  have hlo : (v.truncate 32).toNat < 2 ^ 32 := (v.truncate 32).isLt
  rw [BitVec.toNat_append, ← Nat.shiftLeft_add_eq_or_of_lt hlo, Nat.shiftLeft_eq, BitVec.toNat_ofNat, BitVec.toNat_setWidth,
    Nat.mod_eq_of_lt (show v.toNat / 2 ^ 32 < 2 ^ 32 by omega)]
  omega

theorem State.pair_setPair {lo hi : Off} (h : lo ≠ hi) (v : U64) : (s.setPair lo hi v).pair lo hi = v := by
  rw [State.pair, State.reg_setPair, State.reg_setPair, if_pos rfl, if_neg h, if_pos rfl]
  exact halves_append v

theorem State.pair_of_regs {s t : State} {lo hi : Off} (hlo : t.reg lo = s.reg lo) (hhi : t.reg hi = s.reg hi) : t.pair lo hi = s.pair lo hi := by
  rw [State.pair, State.pair, hlo, hhi]

/-! ## Banks -/

theorem State.updBank_dio (b : Nat) (f : Bank → Bank) : ∃ g : Dio → Dio, s.updBank b f = s.updDio g := by
  unfold State.updBank
  split <;> exact ⟨_, rfl⟩

@[simp] theorem State.reg_updBank (b : Nat) (f : Bank → Bank) (o : Off) : (s.updBank b f).reg o = s.reg o := by
  obtain ⟨g, hg⟩ := s.updBank_dio b f
  rw [hg, State.reg_updDio]

@[simp] theorem State.rbit_updBank (b : Nat) (f : Bank → Bank) (o : Off) (i : Nat) : (s.updBank b f).rbit o i = s.rbit o i :=
  State.rbit_of_reg (s.reg_updBank b f o) i

@[simp] theorem State.rfld_updBank (b : Nat) (f : Bank → Bank) (o : Off) (lo n : Nat) : (s.updBank b f).rfld o lo n = s.rfld o lo n :=
  State.rfld_of_reg (s.reg_updBank b f o) lo n

theorem regsBut_updBank (b : Nat) (f : Bank → Bank) (os : List Off) : RegsBut s (s.updBank b f) os := fun o _ => s.reg_updBank b f o

theorem State.bank_updBank_self {b : Nat} (hb : b < 4) (f : Bank → Bank) : (s.updBank b f).bank b = f (s.bank b) := by
  match b, hb with
  | 0, _ => rfl
  | 1, _ => rfl
  | 2, _ => rfl
  | 3, _ => rfl

theorem State.bank_updBank_ne {b c : Nat} (hb : b < 4) (hc : c < 4) (h : c ≠ b) (f : Bank → Bank) : (s.updBank b f).bank c = s.bank c := by
  match b, hb, c, hc with
  | 0, _, 1, _ | 0, _, 2, _ | 0, _, 3, _ | 1, _, 0, _ | 1, _, 2, _ | 1, _, 3, _ => rfl
  | 2, _, 0, _ | 2, _, 1, _ | 2, _, 3, _ | 3, _, 0, _ | 3, _, 1, _ | 3, _, 2, _ => rfl
  | 0, _, 0, _ | 1, _, 1, _ | 2, _, 2, _ | 3, _, 3, _ => exact absurd rfl h

theorem State.bank_of_dio {s t : State} (h : t.dio = s.dio) (b : Nat) : t.bank b = s.bank b := by
  unfold State.bank
  split <;> rw [h]

/-! ## Offered records -/

/-- A source with a credit has its record behind those that wait. -/
theorem State.offer_credit {pl : Nat} (r : InRec) (h : s.hasCredit pl = true) :
    ∃ n, (s.offer pl r).inlet.waiting = s.inlet.waiting ++ [(pl, { r with ssn := n })]
      ∧ (s.offer pl r).dio = s.dio ∧ (s.offer pl r).regs = s.regs ∧ (s.offer pl r).behavBoot = s.behavBoot := by
  have hc : (s.takeSsn r.source).2.hasCredit pl = true := h
  have he : s.offer pl r = { (s.takeSsn r.source).2 with inlet := { (s.takeSsn r.source).2.inlet with
      waiting := s.inlet.waiting ++ [(pl, { r with ssn := (s.takeSsn r.source).1 })] } } := if_pos hc
  rw [he]
  exact ⟨_, rfl, rfl, rfl, rfl⟩

/-! ## Folds of counters -/

theorem State.reg_foldl_bump {α : Type} (g : α → Off) (l : List α) (o : Off) (h : ∀ x ∈ l, o ≠ g x) :
    (l.foldl (fun s x => s.bump (g x)) s).reg o = s.reg o := by
  induction l generalizing s with
  | nil => rfl
  | cons x l ih =>
    rw [List.foldl_cons, ih _ (fun y hy => h y (List.mem_cons_of_mem x hy)), State.reg_bump, if_neg (h x List.mem_cons_self)]

theorem State.zone_foldl_bump {α : Type} (g : α → Off) (l : List α) {z : Zone} (hz : z ≠ .regs) :
    z.same s (l.foldl (fun s x => s.bump (g x)) s) := by
  refine onlyRegs (fun P _ => ?_) hz
  have hgen (u : State) (hu : Foot P s u) : Foot P s (l.foldl (fun s x => s.bump (g x)) u) := by
    induction l generalizing u with
    | nil => exact hu
    | cons x l ih => exact ih _ (bump_foot _ _ hu)
  exact hgen s (.refl s)

theorem mem_bitsOf {w : Nat} {v : BitVec w} {i : Nat} (h : i ∈ bitsOf v) : i < w := List.mem_range.mp (List.mem_filter.mp h).1

/-! ## Frames -/

/-- The registers that a frame writes. -/
def frameRegs : List Off :=
  [Reg.PAIR_BLOCKED_LO, Reg.PAIR_BLOCKED_HI, Reg.DIO_BANK_CMD 0, Reg.DIO_BANK_CMD 1, Reg.DIO_BANK_CMD 2, Reg.DIO_BANK_CMD 3,
    Reg.DIO_BANK_STATUS 0, Reg.DIO_BANK_STATUS 1, Reg.DIO_BANK_STATUS 2, Reg.DIO_BANK_STATUS 3]

theorem frameRegs_bank : ∀ b < 4, Reg.DIO_BANK_CMD b ∈ frameRegs ∧ Reg.DIO_BANK_STATUS b ∈ frameRegs := by decide

theorem RegsBut.ite {c : Prop} [Decidable c] {s a b : State} {os : List Off} (ha : RegsBut s a os) (hb : RegsBut s b os) :
    RegsBut s (if c then a else b) os := by
  split
  · exact ha
  · exact hb

theorem regsBut_refreshed (b : Nat) : RegsBut s (s.refreshed b) [Reg.DIO_BANK_STATUS b] :=
  (((regsBut_setRegBit s _ _ _).trans (regsBut_setRegBit _ _ _ _)).trans (regsBut_setRegBit _ _ _ _)).trans (regsBut_updBank _ _ _ _)

theorem regsBut_frameTo (refresh : Bool) {b : Nat} (hb : b < 4) : RegsBut s (s.frameTo refresh b) frameRegs := by
  obtain ⟨hcmd, hst⟩ := frameRegs_bank b hb
  unfold State.frameTo State.frameOf
  extract_lets u v w
  have hu : RegsBut s u frameRegs := (regsBut_setReg (s.emitOut _) _ _).mono (by simpa using hcmd)
  have hv : RegsBut s v frameRegs := hu.trans (regsBut_updBank _ _ _ _)
  have hw : RegsBut s w frameRegs := hv.trans (.ite ((regsBut_refreshed v b).mono (by simpa using hst)) (.refl _ _))
  exact hw.trans (.ite (regsBut_updBank _ _ _ _) (.refl _ _))

theorem regsBut_buildRequests (os : List Off) : RegsBut s s.buildRequests os := by
  unfold State.buildRequests
  split
  · exact .refl _ _
  · exact fun o _ => s.reg_updDio _ o

theorem regsBut_frames {newt : Nat} (hn : newt < 2) (refresh : Bool) : RegsBut s (s.frames newt refresh) frameRegs := by
  have hb : 2 * newt < 4 ∧ 2 * newt + 1 < 4 := by omega
  have hnote : RegsBut s s.buildRequests.noteBlocked frameRegs :=
    (regsBut_buildRequests s _).trans ((regsBut_setPair _ _ _ _).mono (by decide))
  exact .ite (.refl _ _) ((hnote.trans (regsBut_frameTo _ _ hb.1)).trans (regsBut_frameTo _ _ hb.2))

theorem regsBut_extraFrames : RegsBut s s.extraFrames frameRegs :=
  (regsBut_frames s (by decide) _).trans (regsBut_frames _ (by decide) _)

theorem State.extraFrames_hif : s.extraFrames.hif = s.hif := by
  exact same_of_foot [.regs, .dio] (fun _ _ => extraFrames_foot _ (.refl s)) .hif

/-! ## Windows -/

theorem off_ne_of_lt {base p : Nat} (h : p < base) (n : Nat) : base + n ≠ p := Nat.ne_of_gt (Nat.lt_of_lt_of_le h (Nat.le_add_right _ _))

theorem bank_offsets : ∀ b i : Nat, b < 4 → i < 16 → 0x1880c + 0x40 * b ≠ 0x18018 + 0x20 * (16 * b + i)
    ∧ 0x1880c + 0x40 * b ≠ 0x18014 + 0x20 * (16 * b + i) := by omega

theorem State.reg_mismatches_level {b : Nat} (hb : b < 4) (levels settled : U16) :
    (s.mismatches b levels settled).reg (Reg.DIO_BANK_LEVEL b) = s.reg (Reg.DIO_BANK_LEVEL b) := by
  unfold State.mismatches
  extract_lets k outs bad good old set now u v w
  have hw : w.reg (Reg.DIO_BANK_LEVEL b) = s.reg (Reg.DIO_BANK_LEVEL b) := by
    rw [show w = _ from rfl, State.reg_foldl_bump _ _ _ _ (fun i hi => (bank_offsets b i hb (mem_bitsOf hi)).1), show v = _ from rfl,
      State.reg_setReg, if_neg (by simp), show u = _ from rfl, State.reg_updBank]
  split
  · exact hw
  · rw [State.reg_raise _ _ _ _ (off_ne_of_lt (by decide) _), if_neg (by simp), hw]

theorem State.reg_mismatches_low (b : Nat) (levels settled : U16) {o : Off} (ho : o < 0x18000) (hp : o ≠ Reg.MSIX_PBA 0) :
    (s.mismatches b levels settled).reg o = s.reg o := by
  have hlow {base : Nat} (h : 0x18000 ≤ base) (n : Nat) : o ≠ base + n := Nat.ne_of_lt (Nat.lt_of_lt_of_le ho (Nat.le_trans h (Nat.le_add_right _ _)))
  unfold State.mismatches
  extract_lets k outs bad good old set now u v w
  have hw : w.reg o = s.reg o := by
    rw [show w = _ from rfl, State.reg_foldl_bump _ _ _ _ (fun i _ => hlow (by decide) _), show v = _ from rfl,
      State.reg_setReg, if_neg (hlow (by decide) _), show u = _ from rfl, State.reg_updBank]
  split
  · exact hw
  · rw [State.reg_raise _ _ _ _ hp, if_neg (hlow (by decide) _), hw]

theorem mismatches_same {z : Zone} (b : Nat) (levels settled : U16) (hz : z ∉ [Zone.regs, .dio]) : z.same s (s.mismatches b levels settled) :=
  same_of_foot [.regs, .dio] (fun _ _ => mismatches_foot _ _ _ _ (.refl s)) z hz

theorem State.bank_mismatches {b : Nat} (hb : b < 4) (levels settled : U16) :
    ((s.mismatches b levels settled).bank b).initial = (s.bank b).initial := by
  unfold State.mismatches
  extract_lets k outs bad good old set now u v w
  have hw : (w.bank b).initial = (s.bank b).initial := by
    have hdio : w.dio = v.dio := State.zone_foldl_bump v (fun i => Reg.DIO_CH_MISMATCH_CNT (16 * b + i)) (bitsOf set) (z := .dio) nofun
    have hvu : v.dio = u.dio := rfl
    rw [State.bank_of_dio (hdio.trans hvu), show u = _ from rfl, State.bank_updBank_self _ hb]
  split
  · exact hw
  · rw [State.bank_of_dio (State.raise_dio _ _ _), hw]

theorem window_payload : ∀ l c m b : Nat, l < 2 ^ 16 → c < 2 ^ 16 → m < 2 ^ 16 → b < 8 →
    (l + c * 2 ^ 16 + m * 2 ^ 32 + b * 2 ^ 48) % 2 ^ 64 / 2 ^ 48 % 2 ^ 8 = b := by omega

theorem initial_bit (f g : Bool) : (b2n f + 2 * b2n true + 4 * b2n g).testBit 1 = true := by
  cases f <;> cases g <;> decide

theorem State.reg_offer_high (pl : Nat) (r : InRec) {o : Off} (ho : 0x18000 ≤ o) : (s.offer pl r).reg o = s.reg o := by
  have hne : ∀ p ∈ [Reg.INLET_OVR_FE_CNT, Reg.INLET_OVR_DIO_CNT, Reg.INLET_OVR_CAN_CNT, Reg.INLET_OVR_TICK_CNT, Reg.INLET_EVT, Reg.MSIX_PBA 0],
      o ≠ p := by
    have hlow : ∀ p ∈ [Reg.INLET_OVR_FE_CNT, Reg.INLET_OVR_DIO_CNT, Reg.INLET_OVR_CAN_CNT, Reg.INLET_OVR_TICK_CNT, Reg.INLET_EVT,
        Reg.MSIX_PBA 0], p < 0x18000 := by decide
    exact fun p hp => Nat.ne_of_gt (Nat.lt_of_lt_of_le (hlow p hp) ho)
  have hovr : o ≠ placeOvr pl := by
    unfold placeOvr
    split
    · exact hne _ (by simp)
    split
    · exact hne _ (by simp)
    split <;> exact hne _ (by simp)
  unfold State.offer
  dsimp only
  split
  · rfl
  · rw [State.overrun, State.reg_raise _ _ _ _ (hne _ (by simp)), if_neg (hne _ (by simp)), State.reg_bump, if_neg hovr]
    rfl

theorem State.reg_offerDi_level {b : Nat} (hb : b < 4) (levels : U16) :
    (s.offerDi b levels).reg (Reg.DIO_BANK_LEVEL b) = s.reg (Reg.DIO_BANK_LEVEL b) := by
  unfold State.offerDi
  extract_lets k fault diff changed bstat pay credit u v
  have hu : u.reg (Reg.DIO_BANK_LEVEL b) = s.reg (Reg.DIO_BANK_LEVEL b) := by
    rw [show u = _ from rfl, State.reg_bump, if_neg (by simp), State.reg_offer_high _ _ _ (Nat.le_trans (by decide) (Nat.le_add_right _ _))]
  split
  · rfl
  split
  · exact hu
  · rw [State.reg_updBank]
    unfold v
    split
    · exact hu
    · rw [State.reg_foldl_bump _ _ _ _ (fun i hi => (bank_offsets b i hb (mem_bitsOf hi)).2), hu]

/-- The first window of a bank after entry to RUN offers its INITIAL record (R356). -/
theorem State.offerDi_initial {b : Nat} (hb : b < 4) (levels : U16) (hinit : (s.bank b).initial = true)
    (hc : s.hasCredit (Place.newt (b / 2)) = true) :
    ((s.offerDi b levels).bank b).initial = false
      ∧ ∃ r : InRec, (s.offerDi b levels).inlet.waiting = s.inlet.waiting ++ [(Place.newt (b / 2), r)]
        ∧ r.kind = Kind.diChange ∧ r.source = mkSource 2 b ∧ (r.pay 0x1E 1).testBit 1 = true := by
  unfold State.offerDi
  extract_lets k fault diff changed bstat pay credit u v
  rw [if_neg (by simp [k, hinit])]
  rw [if_neg (by simp [credit, hc])]
  obtain ⟨n, hw, -, -, -⟩ := s.offer_credit
    { time := s.now, source := mkSource 2 b, kind := Kind.diChange, payload := pay } hc
  have hv : v = u := if_pos hinit
  rw [hv]
  refine ⟨?_, { time := s.now, source := mkSource 2 b, kind := Kind.diChange, payload := pay, ssn := n }, ?_, rfl, rfl, ?_⟩
  · rw [State.bank_updBank_self _ hb]
  · have hin : ((u.updBank b fun k => { k with lastLevels := levels, lastFault := fault, initial := false, fieldResetRec := false })).inlet = u.inlet :=
      same_of_foot [.dio] (fun _ _ => updBank_foot _ _ _ (.refl u)) .inlet
    rw [hin, State.bump_inlet, hw]
  · have hk : k.initial = true := hinit
    have hb3 : bstat < 8 := by
      have hle (x : Bool) : b2n x ≤ 1 := by cases x <;> decide
      have h1 := hle fault
      have h2 := hle k.initial
      have h3 := hle k.fieldResetRec
      show b2n fault + 2 * b2n k.initial + 4 * b2n k.fieldResetRec < 8
      omega
    have hpay : fld pay 48 8 = bstat := by
      rw [fld, Nat.shiftRight_eq_div_pow, BitVec.toNat_ofNat]
      exact window_payload _ _ _ _ levels.isLt changed.isLt k.commanded.isLt hb3
    have hbit : bstat.testBit 1 = true := by
      rw [show bstat = b2n fault + 2 * b2n k.initial + 4 * b2n k.fieldResetRec from rfl, hk]
      exact initial_bit fault k.fieldResetRec
    exact (congrArg (fun x => Nat.testBit x 1) hpay).trans hbit

end

/-- The DIO_HOST levels of a DIO_WRITE go out with frames that write no register of theirs (R362). -/
theorem State.dioWrite_taken {s : State} {d : Desc} (hr : d.resv 0x18 40 = true)
    (hm : ∀ n, n < 64 → (d.arg 8 8).testBit n = true → s.dioMode n = Dmode.outHost)
    (hl : ∀ n, n < 64 → (d.arg 0x10 8).testBit n = true → (d.arg 8 8).testBit n = true) :
    s.dioWrite d = ((((s.setPair Reg.DIO_HOST_LO Reg.DIO_HOST_HI ((s.dioHost &&& ~~~(BitVec.ofNat 64 (d.arg 8 8))) |||
      BitVec.ofNat 64 (d.arg 0x10 8))).extraFrames).bump Reg.DIO_WRITE_CNT).done d Status.ok
        ((s.dioHost &&& ~~~(BitVec.ofNat 64 (d.arg 8 8))) ||| BitVec.ofNat 64 (d.arg 0x10 8))) := by
  have hgood : ¬ (!d.resv 0x18 40 || (List.range 64).any (fun n => ((d.arg 8 8).testBit n && s.dioMode n != Dmode.outHost)
      || ((d.arg 0x10 8).testBit n && !(d.arg 8 8).testBit n))) = true := by
    rw [hr, Bool.not_true, Bool.false_or, Bool.not_eq_true, List.any_eq_false]
    intro n hn
    have hn := List.mem_range.mp hn
    have hm := hm n hn
    have hl := hl n hn
    cases h1 : (d.arg 8 8).testBit n <;> cases h2 : (d.arg 0x10 8).testBit n <;> simp_all
  rw [State.dioWrite]
  exact if_neg hgood

theorem State.windowEnd_runs {s : State} {b : Nat} (pins settled : U16) (hu : s.fieldUp b = true) (hs : s.stalled (b / 2) = false)
    (hm : Node.setup ≤ s.mgmt) : ∃ u : State, ∃ levels : U16,
      levels = pins &&& bankMask b (fun n => s.dioMode n == Dmode.in_ || s.dioOut n)
      ∧ u = (s.setReg (Reg.DIO_BANK_LEVEL b) (levels.zeroExtend 32)).mismatches b levels settled
      ∧ s.windowEnd b pins settled = if u.mgmt = Node.run then u.offerDi b levels else u := by
  have hruns : ¬ (!s.fieldUp b || s.stalled (b / 2) || decide (s.mgmt < Node.setup)) = true := by
    simp [hu, hs, hm]
  refine ⟨_, _, rfl, rfl, ?_⟩
  rw [State.windowEnd]
  exact if_neg hruns

theorem count_payload : ∀ r c : Nat, c < 2 ^ 32 → (r * 2 ^ 32 + c) / 2 ^ 0 % 2 ^ 32 = c := by omega

theorem channel_free (n : Nat) : Reg.DIO_CH_CFG n ∉ [Reg.RING_NODE_IDX 0, Reg.RING_ENTRY_CNT 0, Reg.MSIX_PBA 0] := by
  simp only [List.mem_cons, List.not_mem_nil, or_false, not_or]
  exact ⟨off_ne_of_lt (by decide) _, off_ne_of_lt (by decide) _, off_ne_of_lt (by decide) _⟩

theorem State.offerCount_counts {s : State} {k : Nat} (cycles : Nat) (hm : s.mgmt = Node.run) (hc : s.counts k = true)
    (hcr : s.hasCredit (Place.newt (k / 8)) = true) :
    ((s.offerCount k cycles).counter k).prev = ((s.offerCount k cycles).counter k).count
      ∧ ∃ r : InRec, (s.offerCount k cycles).inlet.waiting = s.inlet.waiting ++ [(Place.newt (k / 8), r)] ∧ r.kind = Kind.count
        ∧ r.pay 0x18 4 = (s.counter k).count.toNat := by
  have hrun : ¬ (s.mgmt != Node.run || !s.counts k) = true := by simp [hm, hc]
  rw [State.offerCount, if_neg hrun]
  extract_lets c rate u
  obtain ⟨n, hw, hdio, -, -⟩ := u.offer_credit { time := u.now, source := mkSource 3 k, kind := Kind.count, payload := rate ++ c.count } hcr
  have hcounter : ∀ v : State, v.dio = u.dio → v.counter k = { s.counter k with prev := (s.counter k).count } := by
    intro v hv
    rw [State.counter, hv]
    exact Sparse.get_set_self _ _ _
  refine ⟨?_, { time := u.now, source := mkSource 3 k, kind := Kind.count, payload := rate ++ c.count, ssn := n }, hw, rfl, ?_⟩
  · rw [hcounter _ hdio]
  · change fld (rate ++ c.count) 0 32 = c.count.toNat
    rw [fld, BitVec.toNat_append, ← Nat.shiftLeft_add_eq_or_of_lt c.count.isLt, Nat.shiftRight_eq_div_pow, Nat.shiftLeft_eq]
    exact count_payload _ _ c.count.isLt

/-- Settles O28: the frames, windows and counts write registers of their own, and each record offered with a credit waits last. -/
theorem dioLevelsAndCounts : Obligations.DioLevelsAndCounts := by
  unfold Obligations.DioLevelsAndCounts
  refine ⟨fun s d hd hr hm hl => ⟨_, rfl, ?write⟩, fun s b dt pins settled hb => ?window, fun s k hk hc => ⟨_, need_of (decide_eq_true hk) _, ?edge⟩,
    fun s k cycles dt hk => ?count⟩
  case write =>
    have hregs := regsBut_takeHead s.fresh 0
    have hhost : (s.fresh.takeHead 0).dioHost = s.dioHost := State.pair_of_regs (hregs _ (by decide)) (hregs _ (by decide))
    have hmode (n : Nat) : (s.fresh.takeHead 0).dioMode n = s.dioMode n :=
      State.rfld_of_reg (hregs _ (channel_free n)) _ _
    rw [State.dirCmd_of_heads (State.heads_fresh hd), State.dioWrite_taken hr (fun n hn hbit => (hmode n).trans (hm n hn hbit)) hl, hhost]
    generalize (s.dioHost &&& ~~~(BitVec.ofNat 64 (d.arg 8 8))) ||| BitVec.ofNat 64 (d.arg 0x10 8) = img
    generalize hu : (s.fresh.takeHead 0).setPair Reg.DIO_HOST_LO Reg.DIO_HOST_HI img = u
    have hframes := regsBut_extraFrames u
    have hpair : u.dioHost = img := by
      rw [← hu]
      exact State.pair_setPair _ (by decide) img
    have hkept : (u.extraFrames.bump Reg.DIO_WRITE_CNT).dioHost = img := by
      rw [← hpair]
      exact State.pair_of_regs (by rw [State.reg_bump, if_neg (by decide), hframes _ (by decide)])
        (by rw [State.reg_bump, if_neg (by decide), hframes _ (by decide)])
    have htaken : HeadTaken s (u.extraFrames.bump Reg.DIO_WRITE_CNT) := by
      obtain ⟨hready, hrunning, hfetched⟩ := State.takeHead_taken s.fresh
      have h0 : HeadTaken s (s.fresh.takeHead 0) := ⟨hready, hrunning, hfetched⟩
      refine h0.then_hif ?_
      rw [State.bump_hif, State.extraFrames_hif, ← hu]
      rfl
    refine ⟨hkept, ?_, ?_⟩
    · have himg : ((u.extraFrames.bump Reg.DIO_WRITE_CNT).done d Status.ok img).dioHost = img := hkept
      rw [himg]
      exact htaken.answered d Status.ok img
    · have hcnt : u.extraFrames.reg Reg.DIO_WRITE_CNT = s.reg Reg.DIO_WRITE_CNT := by
        rw [hframes _ (by decide), ← hu, regsBut_setPair _ _ _ _ _ (by decide)]
        exact hregs _ (by decide)
      change (u.extraFrames.bump Reg.DIO_WRITE_CNT).reg Reg.DIO_WRITE_CNT = _
      rw [State.reg_bump, if_pos rfl, hcnt]
  case window =>
    have hrun : exec (.dioWindowEnd b pins settled dt) s = .next ((s.fresh.pass dt).windowEnd b pins settled) := need_of (decide_eq_true hb) _
    generalize s.fresh.pass dt = r at hrun ⊢
    intro hu hs hm
    obtain ⟨u, levels, hlev, hu', he⟩ := State.windowEnd_runs pins settled hu hs hm
    have hlevel : u.reg (Reg.DIO_BANK_LEVEL b) = levels.zeroExtend 32 := by
      rw [hu', State.reg_mismatches_level _ hb, State.reg_setReg, if_pos rfl]
    have hmgmt : u.mgmt = r.mgmt := by
      rw [hu', State.mgmt, State.rfld_of_reg (State.reg_mismatches_low _ b levels settled (by decide) (by decide)), State.rfld_setReg,
        if_neg (Nat.ne_of_lt (Nat.lt_of_lt_of_le (by decide) (Nat.le_add_right _ _)))]
      rfl
    have hinlet : u.inlet = r.inlet := by
      rw [hu']
      exact mismatches_same (z := .inlet) _ b levels settled (by decide)
    have hbank : (u.bank b).initial = (r.bank b).initial := by
      rw [hu', State.bank_mismatches _ hb]
      rfl
    refine ⟨_, hrun.trans (congrArg _ he), ?_⟩
    rw [hmgmt, ← hlev]
    by_cases hr : r.mgmt = Node.run
    · rw [if_pos hr]
      refine ⟨(State.reg_offerDi_level u hb levels).trans hlevel, fun _ hinit hcr => ?_⟩
      have hcr' : u.hasCredit (Place.newt (b / 2)) = true := by rwa [State.hasCredit, hinlet]
      rw [← hinlet]
      exact State.offerDi_initial u hb levels (hbank.trans hinit) hcr'
    · rw [if_neg hr]
      exact ⟨hlevel, fun h => absurd h hr⟩
  case edge =>
    rw [if_pos (by exact hc)]
    have hself : (s.fresh.updCounter k (fun c => { c with count := c.count + 1 })).counter k = { s.counter k with count := (s.counter k).count + 1 } :=
      Sparse.get_set_self _ _ _
    dsimp only
    rw [hself]
    exact ⟨rfl, rfl, .of_regs rfl rfl _⟩
  case count =>
    have hrun : exec (.countPeriodExpiry k cycles dt) s = .next ((s.fresh.pass dt).offerCount k cycles) := need_of (decide_eq_true hk) _
    generalize s.fresh.pass dt = r at hrun ⊢
    intro hm hc hcr
    exact ⟨_, hrun, State.offerCount_counts cycles hm hc hcr⟩

end Sys2Proof.Machine

/-! PROOFS. The field side: refresh frames, watchdogs, faults and resets (R35, R353, R361-R369). -/

namespace Sys2Proof.Machine

theorem State.hifMessage_out (s : State) : s.out <+: s.hifMessage.out := by
  unfold State.hifMessage
  split
  · exact s.sendVector_out _
  · exact List.prefix_refl _

/-- An event put in its register sends messages at most. -/
theorem State.raise_out (s : State) (o : Off) (m : Nat) : s.out <+: (s.raise o m).out := by
  unfold State.raise State.summarise
  dsimp only
  split
  · exact State.hifMessage_out (s.setReg _ _)
  split
  · exact List.prefix_rfl
  · exact State.hifMessage_out (s.setReg _ _)

/-! ## One frame -/

/-- What a frame with `img` to bank `b` leaves of the banks and of what the step puts outside. -/
structure Framed (s t : State) (b : Nat) (refresh : Bool) (img : U16) : Prop where
  commanded : (t.bank b).commanded = img
  other : ∀ c, c < 4 → c ≠ b → t.bank c = s.bank c
  skink : t.skink = s.skink
  out : t.out = s.out ++ [.dioFrame b img refresh]

section

variable {s t : State}

/-- An update of the bank that leaves its command keeps the frame. -/
theorem Framed.updBank {b : Nat} {refresh : Bool} {img : U16} (h : Framed s t b refresh img) (hb : b < 4) {u : State} {g : Bank → Bank}
    (hdio : u.dio = t.dio) (hskink : u.skink = t.skink) (hout : u.out = t.out) (hg : ∀ k, (g k).commanded = k.commanded) :
    Framed s (u.updBank b g) b refresh img := by
  obtain ⟨f, hf⟩ := u.updBank_dio b g
  refine ⟨?_, fun c hc hne => ?_, ?_, ?_⟩
  · rw [State.bank_updBank_self _ hb, hg, State.bank_of_dio hdio, h.commanded]
  · rw [State.bank_updBank_ne _ hb hc hne, State.bank_of_dio hdio, h.other c hc hne]
  · rw [hf]
    exact hskink.trans h.skink
  · rw [hf]
    exact hout.trans h.out

theorem State.frameTo_framed (s : State) (refresh : Bool) {b : Nat} (hb : b < 4) :
    Framed s (s.frameTo refresh b) b refresh (bankMask b s.commandLevel) := by
  unfold State.frameTo State.frameOf
  extract_lets u v w
  have hv : Framed s v b refresh (bankMask b s.commandLevel) := by
    obtain ⟨f, hf⟩ := u.updBank_dio b (fun k => { k with commanded := bankMask b s.commandLevel })
    refine ⟨?_, fun c hc hne => ?_, ?_, ?_⟩
    · rw [show v = _ from rfl, State.bank_updBank_self _ hb]
    · rw [show v = _ from rfl, State.bank_updBank_ne _ hb hc hne]
      rfl
    · rw [show v = _ from hf]
      rfl
    · rw [show v = _ from hf]
      rfl
  have hw : Framed s w b refresh (bankMask b s.commandLevel) := by
    unfold w
    split
    · exact hv.updBank hb rfl rfl rfl (fun _ => rfl)
    · exact hv
  unfold State.applyImage
  split
  · exact hw.updBank hb rfl rfl rfl (fun _ => rfl)
  · exact hw

/-! ## Refresh (R361) -/

theorem State.frames_run {newt : Nat} (hn : newt < 2) (hm : s.mgmt = Node.run) (hs : s.stalled newt = false) (ha : s.holderAlive = true) :
    (s.frames newt true).skink = s.skink
      ∧ ∀ b ∈ newtBanks newt, Output.dioFrame b ((s.frames newt true).bank b).commanded true ∈ (s.frames newt true).out := by
  have hb : 2 * newt < 4 ∧ 2 * newt + 1 < 4 := by omega
  have hrun : ¬ (!s.running || s.stalled newt) = true := by simp [State.running, hm, hs]
  have href : (true && (s.holderAlive || s.mgmt == Node.replay)) = true := by simp [ha]
  have he : s.frames newt true = (s.buildRequests.noteBlocked.frameTo true (2 * newt)).frameTo true (2 * newt + 1) := by
    rw [State.frames, if_neg hrun, href]
    rfl
  have h0 := s.buildRequests.noteBlocked.frameTo_framed true hb.1
  have h1 := (s.buildRequests.noteBlocked.frameTo true (2 * newt)).frameTo_framed true hb.2
  have hreq : s.buildRequests.noteBlocked.skink = s.skink := by
    have hbuild : s.buildRequests.skink = s.skink := same_of_foot [.dio] (fun _ _ => buildRequests_foot _ (.refl s)) .skink
    exact hbuild
  rw [he]
  refine ⟨h1.skink.trans (h0.skink.trans hreq), fun b hmem => ?_⟩
  rcases List.mem_cons.mp hmem with rfl | hmem
  · rw [h1.other _ hb.1 (Nat.ne_of_lt (Nat.lt_succ_self _)), h0.commanded, h1.out, h0.out]
    simp
  · rw [List.mem_singleton.mp hmem, h1.commanded, h1.out]
    simp

end

section

variable (s : State)

theorem State.stalled_of_dio {s t : State} (h : t.dio = s.dio) {n : Nat} : t.stalled n = s.stalled n := by
  rw [State.stalled, State.stalled, h]

theorem State.holderAlive_congr {s t : State} (hskink : t.skink.holder = s.skink.holder ∧ t.skink.handover = s.skink.handover
    ∧ t.skink.preferred = s.skink.preferred) (hA : t.aeA = s.aeA) (hB : t.aeB = s.aeB) (hws : t.ws = s.ws) : t.holderAlive = s.holderAlive := by
  have heng (e : EngineId) : t.eng e = s.eng e := by
    cases e
    · exact hA
    · exact hB
  obtain ⟨h1, h2, h3⟩ := hskink
  simp only [State.holderAlive, State.candidate, State.frcNat, heng, h1, h2, h3, hws]
  rfl

/-- The milliseconds that the fault bits of a Newt's banks are set. -/
def State.countFaultMs (s : State) (newt : Nat) : State :=
  (newtBanks newt).foldl (fun s b => if s.bankFault b then s.bump (Reg.DIO_BANK_FAULT_MS_CNT b) else s) s

theorem State.countFaultMs_same (newt : Nat) {z : Zone} (hz : z ≠ .regs) : z.same s (s.countFaultMs newt) :=
  onlyRegs (fun _ _ => foldl_foot _ (fun _ _ h => by
    split
    · exact bump_foot _ _ h
    · exact h) _ _ (.refl s)) hz

theorem regsBut_countFaultMs (newt : Nat) :
    RegsBut s (s.countFaultMs newt) [Reg.DIO_BANK_FAULT_MS_CNT (2 * newt), Reg.DIO_BANK_FAULT_MS_CNT (2 * newt + 1)] := by
  have hone (u : State) (b : Nat) : RegsBut u (if u.bankFault b then u.bump (Reg.DIO_BANK_FAULT_MS_CNT b) else u) [Reg.DIO_BANK_FAULT_MS_CNT b] := by
    split
    · exact regsBut_bump _ _
    · exact .refl _ _
  exact ((hone s _).mono (by simp)).trans ((hone _ _).mono (by simp))

/-- A refresh in RUN while the holder is alive (R361). -/
theorem State.newtRefresh_run {n : Nat} (late : Bool) (hm : s.mgmt = Node.run) (hs : s.stalled n = false) (ha : s.holderAlive = true) :
    ∃ u : State, u.mgmt = Node.run ∧ u.stalled n = false ∧ u.holderAlive = true ∧ u.skink.sharing = s.skink.claim
      ∧ RegsBut s u [Reg.DIO_BANK_FAULT_MS_CNT (2 * n), Reg.DIO_BANK_FAULT_MS_CNT (2 * n + 1)]
      ∧ s.newtRefresh n late = if late then ((u.frames n true).bump Reg.DIO_REFRESH_LATE_CNT).raise Reg.DIO_EVT 2 else u.frames n true := by
  have hr := regsBut_countFaultMs s n
  have hskink : (s.countFaultMs n).skink = s.skink := s.countFaultMs_same (z := .skink) n nofun
  have hmgmt : (s.countFaultMs n).mgmt = Node.run := by
    rw [← hm]
    refine State.rfld_of_reg (hr _ ?_) _ _
    simp only [List.mem_cons, List.not_mem_nil, or_false, not_or]
    exact ⟨(off_ne_of_lt (by decide) _).symm, (off_ne_of_lt (by decide) _).symm⟩
  have hst : (s.countFaultMs n).stalled n = false := (State.stalled_of_dio (s.countFaultMs_same (z := .dio) n nofun)).trans hs
  have hgo : ¬ (!(s.countFaultMs n).running || (s.countFaultMs n).stalled n) = true := by simp [State.running, hmgmt, hst]
  generalize hu : ({ s.countFaultMs n with skink := { (s.countFaultMs n).skink with sharing := (s.countFaultMs n).skink.claim } } : State) = u
  have halive : u.holderAlive = true := by
    rw [← ha, ← hu]
    exact State.holderAlive_congr (by rw [hskink]; exact ⟨rfl, rfl, rfl⟩) (s.countFaultMs_same (z := .aeA) n nofun)
      (s.countFaultMs_same (z := .aeB) n nofun) (s.countFaultMs_same (z := .ws) n nofun)
  refine ⟨u, ?_, ?_, halive, ?_, ?_, ?_⟩
  · rw [← hu]
    exact hmgmt
  · rw [← hu]
    exact hst
  · rw [← hu, hskink]
  · rw [← hu]
    exact hr
  · rw [State.newtRefresh]
    refine (if_neg hgo).trans ?_
    subst hu
    exact congrArg (fun v : State => if late then ((v.frames n true).bump Reg.DIO_REFRESH_LATE_CNT).raise Reg.DIO_EVT 2 else v.frames n true)
      (if_pos (Bool.or_eq_true_iff.mpr (.inr halive)))

end

/-! ## Settling the statement -/

theorem setFault_shut {k : Bank} {i : BitVec 4} (h : FaultCause.thermal i ∈ k.causes) : bitAt (k.pins &&& ~~~k.shut) i.toNat = false := by
  have hi : i.toNat < 16 := i.isLt
  have hs : bitAt k.shut i.toNat = true := by
    rw [Bank.shut, bitAt_maskOf _ _ _ hi]
    simpa using h
  have hget : k.shut.getLsbD i.toNat = true := hs
  change (k.pins &&& ~~~k.shut).getLsbD i.toNat = false
  rw [BitVec.getLsbD_and, BitVec.getLsbD_not, hget]
  simp

theorem bank_ne_pba (b : Nat) : Reg.DIO_BANK_STATUS b ≠ Reg.MSIX_PBA 0 ∧ Reg.DIO_BANK_EVT b ≠ Reg.MSIX_PBA 0
    ∧ Reg.DIO_BANK_WD_CNT b ≠ Reg.MSIX_PBA 0 ∧ Reg.DIO_BANK_FAULT_CNT b ≠ Reg.MSIX_PBA 0 ∧ Reg.DIO_BANK_FRESET_CNT b ≠ Reg.MSIX_PBA 0 :=
  ⟨off_ne_of_lt (by decide) _, off_ne_of_lt (by decide) _, off_ne_of_lt (by decide) _, off_ne_of_lt (by decide) _, off_ne_of_lt (by decide) _⟩

section

variable (s : State)

theorem State.mgmt_updBank (b : Nat) (f : Bank → Bank) : (s.updBank b f).mgmt = s.mgmt := s.rfld_updBank _ _ _ _ _

theorem State.bank_setRegBit (o : Off) (i : Nat) (x : Bool) (b : Nat) : (s.setRegBit o i x).bank b = s.bank b :=
  State.bank_of_dio (s.setRegBit_dio o i x) b

theorem State.bank_bump (o : Off) (b : Nat) : (s.bump o).bank b = s.bank b := State.bank_of_dio (s.bump_dio o) b

theorem State.bank_raise (o : Off) (m : Nat) (b : Nat) : (s.raise o m).bank b = s.bank b := State.bank_of_dio (s.raise_dio o m) b

theorem State.wdExpire_running {b : Nat} (hm : Node.selftest ≤ s.mgmt) (hw : (s.bank b).wdExpired = false) :
    s.wdExpire b = (((((s.updBank b (fun k => { k with wdExpired := true, held := k.pins, pins := s.safeLevels b k.pins &&& ~~~k.shut })).setRegBit
      (Reg.DIO_BANK_STATUS b) 2 false).setRegBit (Reg.DIO_BANK_STATUS b) 3 true).bump (Reg.DIO_BANK_WD_CNT b)).raise (Reg.DIO_BANK_EVT b) 8) := by
  have hk : ¬ (s.bank b).wdExpired = true := by simp [hw]
  have hm' : ¬ (s.updBank b (fun k => { k with wdExpired := true, held := k.pins, pins := s.safeLevels b k.pins &&& ~~~k.shut })).mgmt < Node.selftest := by
    rw [State.mgmt_updBank]
    exact Nat.not_lt_of_le hm
  rw [State.wdExpire, if_neg hk, if_neg hm']

theorem State.setFault_bank {b : Nat} (hb : b < 4) (c : FaultCause) : c ∈ ((s.setFault b c).bank b).causes
    ∧ ∀ i, c = .thermal i → bitAt ((s.setFault b c).bank b).pins i.toNat = false := by
  have hmem : c ∈ (if (s.bank b).causes.contains c then (s.bank b).causes else (s.bank b).causes ++ [c]) := by
    cases h : (s.bank b).causes.contains c
    · exact List.mem_append_right _ (List.mem_singleton_self c)
    · simpa using h
  unfold State.setFault
  extract_lets u v
  have hv : v.bank b = { u.bank b with pins := (u.bank b).pins &&& ~~~(u.bank b).shut } := State.bank_updBank_self _ hb _
  have hu : u.bank b = { s.bank b with causes := if (s.bank b).causes.contains c then (s.bank b).causes else (s.bank b).causes ++ [c] } :=
    State.bank_updBank_self _ hb _
  have hdone (t : State) (ht : t.bank b = v.bank b) : c ∈ (t.bank b).causes ∧ ∀ i, c = .thermal i → bitAt (t.bank b).pins i.toNat = false := by
    rw [ht, hv]
    refine ⟨by rw [hu]; exact hmem, fun i hi => setFault_shut ?_⟩
    rw [hu, ← hi]
    exact hmem
  split
  · exact hdone v rfl
  · exact hdone _ (by rw [State.bank_raise, State.bank_bump, State.bank_setRegBit])

theorem State.setFault_new {b : Nat} (c : FaultCause) (hf : s.bankFault b = false) : ∃ u : State, (∀ o, u.reg o = s.reg o) ∧
    s.setFault b c = ((u.setRegBit (Reg.DIO_BANK_STATUS b) 0 true).bump (Reg.DIO_BANK_FAULT_CNT b)).raise (Reg.DIO_BANK_EVT b) 1 := by
  unfold State.setFault
  extract_lets u v
  have hv : ¬ v.bankFault b = true := by
    rw [show v.bankFault b = s.bankFault b from ((u.rbit_updBank _ _ _ _).trans (s.rbit_updBank _ _ _ _)), hf]
    decide
  exact ⟨v, fun o => (u.reg_updBank _ _ o).trans (s.reg_updBank _ _ o), if_neg hv⟩

theorem State.clearFault_clears {b : Nat} (hf : s.bankFault b = true) (hu : s.fieldUp b = true) (hd : s.shutDown b = false) :
    s.clearFault b = ((s.updBank b (fun k => { k with causes := [] })).setRegBit (Reg.DIO_BANK_STATUS b) 0 false).raise (Reg.DIO_BANK_EVT b) 2 := by
  rw [State.clearFault, if_neg (by simp [hf, hu, hd])]

theorem State.fieldReset_resets {b : Nat} (h : s.fieldUp b = true ∨ (s.bank b).powered = true) :
    s.fieldReset b = ((s.updBank b (fun k => { k with
        pins := 0, wdExpired := true, held := 0, powered := false,
        causes := k.causes.filter (fun c => c == .currentLimit || c == .supplyLow || c == .noComm) })).setRegBit
      (Reg.DIO_BANK_STATUS b) 1 false).setRegBit (Reg.DIO_BANK_STATUS b) 2 false := by
  have hn : ¬ (!s.fieldUp b && !(s.bank b).powered) = true := by
    rcases h with h | h <;> simp [h]
  rw [State.fieldReset, if_neg hn]

theorem State.fieldReset_bank {b : Nat} (hb : b < 4) (h : s.fieldUp b = true ∨ (s.bank b).powered = true) :
    (s.fieldReset b).bank b = { s.bank b with
      pins := 0, wdExpired := true, held := 0, powered := false,
      causes := (s.bank b).causes.filter (fun c => c == .currentLimit || c == .supplyLow || c == .noComm) } := by
  rw [s.fieldReset_resets h, State.bank_setRegBit, State.bank_setRegBit, State.bank_updBank_self _ hb]

/-! ## Newt stops (R369) -/

/-- Newt `n` marked as stopped or as running. -/
def Dio.setStalled (d : Dio) (n : Nat) (x : Bool) : Dio := if n = 0 then { d with stalledA := x } else { d with stalledB := x }

theorem State.stalled_set {s : State} {n : Nat} (hn : n < 2) {x : Bool} : (s.updDio (fun d => d.setStalled n x)).stalled n = x := by
  match n, hn with
  | 0, _ => rfl
  | 1, _ => rfl

theorem State.newtStop_stops {n : Nat} (hs : s.stalled n = false) :
    s.newtStop n = ((((((s.updDio (fun d => d.setStalled n true)).setRegBit (Reg.DIO_BANK_STATUS (2 * n)) 2 false).setRegBit
      (Reg.DIO_BANK_STATUS (2 * n + 1)) 2 false).setRegBit Reg.DIO_STATUS n false).bump Reg.DIO_NEWT_RESTART_CNT).raise Reg.DIO_EVT 1) := by
  rw [State.newtStop, if_neg (by simp [hs])]
  rfl

theorem State.stalled_updBank (b n : Nat) (f : Bank → Bank) : (s.updBank b f).stalled n = s.stalled n := by
  have hd : (s.updBank b f).dio.stalledA = s.dio.stalledA ∧ (s.updBank b f).dio.stalledB = s.dio.stalledB := by
    unfold State.updBank
    split <;> exact ⟨rfl, rfl⟩
  rw [State.stalled, State.stalled, hd.1, hd.2]

/-- A Newt that runs again: its banks have INITIAL records to come, and their losses are marked. -/
structure NewtUp (t : State) (n : Nat) : Prop where
  runs : t.stalled n = false
  shown : t.rbit Reg.DIO_STATUS n = true
  banks : ∀ b ∈ newtBanks n, (t.bank b).initial = true ∧ t.inlet.lost.contains (mkSource 2 b).toNat = true

theorem State.markLoss_lost (x y : U16) (h : s.inlet.lost.contains x.toNat = true) : (s.markLoss y).inlet.lost.contains x.toNat = true := by
  unfold State.markLoss
  split
  · exact h
  · simpa using .inl (by simpa using h)

theorem State.markLoss_self (x : U16) : (s.markLoss x).inlet.lost.contains x.toNat = true := by
  unfold State.markLoss
  split
  · assumption
  · simp

theorem State.markLoss_dio (x : U16) : (s.markLoss x).dio = s.dio := by
  unfold State.markLoss
  split <;> rfl

theorem State.reg_markLoss (x : U16) (o : Off) : (s.markLoss x).reg o = s.reg o := by
  unfold State.markLoss
  split <;> rfl

theorem NewtUp.markLoss {t : State} {n : Nat} (h : NewtUp t n) (x : U16) : NewtUp (t.markLoss x) n :=
  ⟨(State.stalled_of_dio (t.markLoss_dio x)).trans h.runs, (State.rbit_of_reg (t.reg_markLoss x _) _).trans h.shown,
    fun b hb => ⟨by rw [State.bank_of_dio (t.markLoss_dio x)]; exact (h.banks b hb).1, t.markLoss_lost _ _ (h.banks b hb).2⟩⟩

theorem NewtUp.updCounter {t : State} {n : Nat} (h : NewtUp t n) (k : Nat) (f : Counter → Counter) : NewtUp (t.updCounter k f) n :=
  ⟨h.runs, h.shown, fun b hb => by
    have hbank : (t.updCounter k f).bank b = t.bank b := by
      unfold State.bank
      split <;> rfl
    rw [hbank]
    exact h.banks b hb⟩

theorem State.newtStart_up {n : Nat} (hn : n < 2) (hs : s.stalled n = true) (ht : s.rbit Reg.MGMT_SELFTEST (7 + n) = false) :
    NewtUp (s.newtStart n) n := by
  have hb : 2 * n < 4 ∧ 2 * n + 1 < 4 := by omega
  have hgo : ¬ (!s.stalled n || s.rbit Reg.MGMT_SELFTEST (7 + n)) = true := by simp [hs, ht]
  rw [State.newtStart, if_neg hgo]
  extract_lets u v w
  have hv : v.stalled n = false ∧ v.rbit Reg.DIO_STATUS n = true := by
    refine ⟨(State.stalled_of_dio (State.setRegBit_dio _ _ _ _)).trans (State.stalled_set (s := s) hn), ?_⟩
    rw [show v = _ from rfl, State.rbit_setRegBit_self _ _ _ _ (by omega)]
  have hw : NewtUp w n := by
    generalize hx : (v.updBank (2 * n) (fun k => { k with initial := true, disagree := 0, agree := 0 })).markLoss (mkSource 2 (2 * n)) = x
    have hxdio : x.dio = (v.updBank (2 * n) (fun k => { k with initial := true, disagree := 0, agree := 0 })).dio := by
      rw [← hx]
      exact State.markLoss_dio _ _
    have hxreg (o : Off) : x.reg o = v.reg o := by
      rw [← hx, State.reg_markLoss, State.reg_updBank]
    have hlost : (x.updBank (2 * n + 1) (fun k => { k with initial := true, disagree := 0, agree := 0 })).inlet = x.inlet :=
      same_of_foot [.dio] (fun _ _ => updBank_foot _ _ _ (.refl x)) .inlet
    have hwx : w = (x.updBank (2 * n + 1) (fun k => { k with initial := true, disagree := 0, agree := 0 })).markLoss (mkSource 2 (2 * n + 1)) := by
      rw [← hx]
      rfl
    rw [hwx]
    refine ⟨?_, ?_, fun b hmem => ?_⟩
    · rw [State.stalled_of_dio (State.markLoss_dio _ _), State.stalled_updBank, State.stalled_of_dio hxdio, State.stalled_updBank, hv.1]
    · rw [State.rbit_of_reg (State.reg_markLoss _ _ _), State.rbit_updBank, State.rbit_of_reg (hxreg _), hv.2]
    · rw [State.bank_of_dio (State.markLoss_dio _ _)]
      rcases List.mem_cons.mp hmem with rfl | hmem
      · refine ⟨?_, State.markLoss_lost _ _ _ ?_⟩
        · rw [State.bank_updBank_ne _ hb.2 hb.1 (Nat.ne_of_lt (Nat.lt_succ_self _)), State.bank_of_dio hxdio, State.bank_updBank_self _ hb.1]
        · rw [hlost, ← hx]
          exact State.markLoss_self _ _
      · rw [List.mem_singleton.mp hmem, State.bank_updBank_self _ hb.2]
        exact ⟨rfl, State.markLoss_self _ _⟩
  clear_value w
  generalize span (8 * n) 8 = l
  induction l generalizing w with
  | nil => exact hw
  | cons k l ih =>
    refine ih _ ?_
    dsimp only
    split
    · exact (hw.updCounter k _).markLoss _
    · exact hw.updCounter k _

/-! ## Restarts of the field side -/

/-- The bank behind a restart of its field side. -/
def Bank.restarted (k : Bank) (safe : U16) (rec : Bool) : Bank :=
  { k with pins := safe, wdExpired := true, held := 0, powered := true, disagree := 0, agree := 0, fieldResetRec := rec }

theorem State.fieldStart_early {b : Nat} (hu : s.fieldUp b = false) (hm : s.mgmt < Node.selftest) :
    s.fieldStart b = s.updBank b (fun k => k.restarted (s.safeLevels b 0) k.fieldResetRec) := by
  have hu' : ¬ s.fieldUp b = true := by simp [hu]
  rw [State.fieldStart, if_neg hu']
  exact if_pos (by rw [State.mgmt_updBank]; exact hm)

theorem State.fieldStart_shown {b : Nat} (hu : s.fieldUp b = false) (hm : Node.selftest ≤ s.mgmt) : ∃ v : State,
    v = (((s.updBank b (fun k => k.restarted (s.safeLevels b 0) k.fieldResetRec)).setRegBit (Reg.DIO_BANK_STATUS b) 1 true).bump
      (Reg.DIO_BANK_FRESET_CNT b)).raise (Reg.DIO_BANK_EVT b) 4
    ∧ s.fieldStart b = if v.sourcesRun then (v.updBank b (fun k => { k with fieldResetRec := true })).markLoss (mkSource 2 b) else v := by
  have hu' : ¬ s.fieldUp b = true := by simp [hu]
  refine ⟨_, rfl, ?_⟩
  rw [State.fieldStart, if_neg hu']
  exact if_neg (by rw [State.mgmt_updBank]; exact Nat.not_lt_of_le hm)

theorem State.fieldStart_bank {b : Nat} (hb : b < 4) (hu : s.fieldUp b = false) :
    ∃ rec, (s.fieldStart b).bank b = (s.bank b).restarted (s.safeLevels b 0) rec ∧ (s.mgmt = Node.run → rec = true) := by
  by_cases hm : s.mgmt < Node.selftest
  · rw [s.fieldStart_early hu hm, State.bank_updBank_self _ hb]
    exact ⟨_, rfl, fun h => absurd hm (by rw [h]; decide)⟩
  · obtain ⟨v, hv, he⟩ := s.fieldStart_shown hu (Nat.le_of_not_lt hm)
    have hbank : v.bank b = (s.bank b).restarted (s.safeLevels b 0) (s.bank b).fieldResetRec := by
      rw [hv, State.bank_raise, State.bank_bump, State.bank_setRegBit, State.bank_updBank_self _ hb]
    have hmgmt : v.mgmt = s.mgmt := by
      have hne {base : Nat} (h : Reg.MGMT_STATE < base) (n : Nat) : Reg.MGMT_STATE ≠ base + n := Ne.symm (off_ne_of_lt h n)
      rw [hv, State.mgmt, State.rfld_raise _ _ _ _ _ _ (by decide) (hne (by decide) _), State.rfld_bump _ _ _ _ _ (hne (by decide) _),
        State.rfld_setRegBit_ne _ _ _ _ _ _ _ (.inl (hne (by decide) _)), State.rfld_updBank]
      rfl
    rw [he]
    by_cases hr : v.sourcesRun = true
    · rw [if_pos hr, State.bank_of_dio (State.markLoss_dio _ _), State.bank_updBank_self _ hb, hbank]
      exact ⟨true, rfl, fun _ => rfl⟩
    · rw [if_neg hr, hbank]
      refine ⟨_, rfl, fun h => absurd ?_ hr⟩
      simp [State.sourcesRun, hmgmt, h]

theorem State.fieldStart_regs {b : Nat} (hu : s.fieldUp b = false) (hm : Node.selftest ≤ s.mgmt) :
    (s.fieldStart b).fieldUp b = true ∧ (s.fieldStart b).reg (Reg.DIO_BANK_FRESET_CNT b) = satAdd (s.reg (Reg.DIO_BANK_FRESET_CNT b)) 1
      ∧ (s.fieldStart b).rbit (Reg.DIO_BANK_EVT b) 2 = true := by
  obtain ⟨hst, hev, -, -, hcnt⟩ := bank_ne_pba b
  obtain ⟨v, hv, he⟩ := s.fieldStart_shown hu hm
  have hreg (o : Off) : (s.fieldStart b).reg o = v.reg o := by
    rw [he]
    split
    · rw [State.reg_markLoss, State.reg_updBank]
    · rfl
  refine ⟨(State.rbit_of_reg (hreg _) _).trans ?_, (hreg _).trans ?_, (State.rbit_of_reg (hreg _) _).trans ?_⟩
  · rw [hv]
    simp [hst]
  · rw [hv]
    simp [State.reg_raise, hcnt]
  · rw [hv, State.rbit_raise _ _ _ _ _ hev, if_pos rfl, Bool.or_eq_true]
    exact .inr (by decide)

/-! ## A switch in thermal shutdown (R353) -/

theorem State.thermalRetry_drives {ch : Nat} {shorted : Bool} (hc : FaultCause.thermal (BitVec.ofNat 4 ch) ∈ (s.bank (ch / 16)).causes)
    (hu : s.fieldUp (ch / 16) = true) (h : shorted = false ∨ s.driveLevel ch = false) :
    s.thermalRetry ch shorted = s.updBank (ch / 16) (fun k => { k with
      causes := k.causes.filter (· != .thermal (BitVec.ofNat 4 ch)), pins := setBit k.pins (ch % 16) (s.driveLevel ch) }) := by
  have hn : ¬ (!(s.bank (ch / 16)).causes.contains (.thermal (BitVec.ofNat 4 ch)) || !s.fieldUp (ch / 16) || (shorted && s.driveLevel ch)) = true := by
    have hs : (shorted && s.driveLevel ch) = false := by
      rcases h with h | h <;> simp [h]
    simp [hc, hu, hs]
  rw [State.thermalRetry, if_neg hn]

theorem bitAt_setBit_pins (v : U16) {i : Nat} (hi : i < 16) (x : Bool) : bitAt (setBit v i x) i = x := by
  rw [setBit, bitAt_setFld, if_pos ⟨Nat.le_refl i, Nat.lt_succ_self i, hi⟩, Nat.sub_self]
  cases x <;> rfl

end

/-- Settles O29: each event writes its bank and the bank's own registers. -/
theorem fieldSideAndWatchdogs : Obligations.FieldSideAndWatchdogs := by
  unfold Obligations.FieldSideAndWatchdogs
  refine ⟨⟨fun s n late hn hm hs ha => ⟨_, need_of (decide_eq_true hn) _, ?refresh⟩,
      fun s b hb hm hw => ⟨_, need_of (decide_eq_true hb) _, ?watchdog⟩, fun s n hn hs => ⟨_, need_of (decide_eq_true hn) _, ?stall⟩,
      fun s n hn hs ht => ⟨_, need_of (decide_eq_true hn) _, ?restart⟩⟩,
    fun s b c hb hf => ⟨_, need_of (decide_eq_true hb) _, ?fault⟩, fun s b hb hf hu hd => ⟨_, need_of (decide_eq_true hb) _, ?clear⟩,
    fun s b hb h => ⟨_, need_of (decide_eq_true hb) _, ?reset⟩, fun s b hb hu => ⟨_, need_of (decide_eq_true hb) _, ?start⟩,
    fun s ch shorted hch hc hu => ⟨fun h1 h2 => ⟨_, need_of (decide_eq_true hch) _, ?short⟩, fun h => ⟨_, need_of (decide_eq_true hch) _, ?retry⟩⟩⟩
  case watchdog =>
    obtain ⟨hst, hev, hcnt, -, -⟩ := bank_ne_pba b
    rw [State.wdExpire_running s.fresh (by exact hm) (by exact hw)]
    refine ⟨?_, ?_, ?_, ?_, ?_, ?_⟩
    · rw [State.bank_raise, State.bank_bump, State.bank_setRegBit, State.bank_setRegBit, State.bank_updBank_self _ hb]
    · rw [State.bank_raise, State.bank_bump, State.bank_setRegBit, State.bank_setRegBit, State.bank_updBank_self _ hb]
      rfl
    · rw [State.bank_raise, State.bank_bump, State.bank_setRegBit, State.bank_setRegBit, State.bank_updBank_self _ hb]
      rfl
    · simp [hst]
    · simp [hst]
    · simp [State.reg_raise, hcnt]
  case fault =>
    obtain ⟨hst, hev, -, hcnt, -⟩ := bank_ne_pba b
    obtain ⟨hc, hpins⟩ := s.fresh.setFault_bank hb c
    obtain ⟨u, hu, he⟩ := s.fresh.setFault_new c hf
    refine ⟨?_, hc, ?_, ?_, hpins⟩
    · rw [he]
      simp [State.bankFault, hst]
    · rw [he, State.rbit_raise _ _ _ _ _ hev, if_pos rfl, Bool.or_eq_true]
      exact .inr (by decide)
    · rw [he]
      simp [State.reg_raise, hcnt, hu]
  case clear =>
    obtain ⟨hst, hev, -, -, -⟩ := bank_ne_pba b
    rw [s.fresh.clearFault_clears hf hu hd]
    refine ⟨?_, ?_, ?_⟩
    · simp [State.bankFault, hst]
    · rw [State.bank_raise, State.bank_setRegBit, State.bank_updBank_self _ hb]
    · rw [State.rbit_raise _ _ _ _ _ hev, if_pos rfl, Bool.or_eq_true]
      exact .inr (by decide)
  case reset =>
    refine ⟨?_, ?_, ?_, ?_, ?_, fun i hi => ?_, ?_⟩
    · rw [s.fresh.fieldReset_resets h]
      simp [State.fieldUp]
    · rw [s.fresh.fieldReset_bank hb h]
    · rw [s.fresh.fieldReset_bank hb h]
    · rw [s.fresh.fieldReset_bank hb h]
    · rw [s.fresh.fieldReset_bank hb h]
    · rw [s.fresh.fieldReset_bank hb h] at hi
      simp at hi
    · rw [s.fresh.fieldReset_resets h]
      exact ((regsBut_updBank s.fresh _ _ _).trans (regsBut_setRegBit _ _ _ _)).trans (regsBut_setRegBit _ _ _ _)
  case stall =>
    rw [s.fresh.newtStop_stops hs]
    refine ⟨?_, ?_, ?_, ?_⟩
    · rw [State.stalled_of_dio (State.raise_dio _ _ _), State.stalled_of_dio (State.bump_dio _ _), State.stalled_of_dio (State.setRegBit_dio _ _ _ _),
        State.stalled_of_dio (State.setRegBit_dio _ _ _ _), State.stalled_of_dio (State.setRegBit_dio _ _ _ _)]
      exact State.stalled_set hn
    · simp [Reg.MSIX_PBA]
      omega
    · rw [State.rbit_raise _ _ _ _ _ (by decide), if_pos rfl, Bool.or_eq_true]
      exact .inr (by decide)
    · have hne (b : Nat) (hb : b < 4) : Reg.DIO_NEWT_RESTART_CNT ≠ Reg.DIO_BANK_STATUS b :=
        fun h => absurd (h ▸ (frameRegs_bank b hb).2) (by decide)
      rw [State.reg_raise _ _ _ _ (by decide), if_neg (by decide), State.reg_bump, if_pos rfl, State.reg_setRegBit, if_neg (by decide),
        State.reg_setRegBit, if_neg (hne _ (by omega)), State.reg_setRegBit, if_neg (hne _ (by omega))]
      rfl
  case restart =>
    obtain ⟨hst, hup, hbanks⟩ := s.fresh.newtStart_up hn hs ht
    exact ⟨hst, hup, hbanks⟩
  case refresh =>
    obtain ⟨u, hum, hus, hua, hshare, hur, he⟩ := s.fresh.newtRefresh_run late hm hs ha
    obtain ⟨hskink, hframes⟩ := State.frames_run hn hum hus hua
    have hregs := regsBut_frames u hn true
    rw [he]
    cases late
    · refine ⟨by rw [if_neg (by decide), hskink, hshare]; rfl, hframes, nofun⟩
    · refine ⟨by rw [if_pos rfl, State.raise_skink, State.bump_skink, hskink, hshare]; rfl, fun b hb => ?_, fun _ => ⟨?_, ?_⟩⟩
      · rw [if_pos rfl, State.bank_raise, State.bank_bump]
        exact (State.raise_out _ _ _).subset (hframes b hb)
      · have hcnt : (u.frames n true).reg Reg.DIO_REFRESH_LATE_CNT = s.reg Reg.DIO_REFRESH_LATE_CNT := by
          have hn2 : 2 * n < 4 ∧ 2 * n + 1 < 4 := by omega
          have hms : ∀ b < 4, Reg.DIO_REFRESH_LATE_CNT ≠ Reg.DIO_BANK_FAULT_MS_CNT b := by decide
          rw [hregs _ (by decide)]
          exact hur _ (by simp only [List.mem_cons, List.not_mem_nil, or_false, not_or]; exact ⟨hms _ hn2.1, hms _ hn2.2⟩)
        simp [State.reg_raise, Reg.MSIX_PBA, hcnt]
      · rw [if_pos rfl, State.rbit_raise _ _ _ _ _ (by decide), if_pos rfl, Bool.or_eq_true]
        exact .inr (by decide)
  case start =>
    obtain ⟨rec, hbank, hrec⟩ := s.fresh.fieldStart_bank hb hu
    rw [hbank]
    refine ⟨rfl, rfl, rfl, fun hm => s.fresh.fieldStart_regs hu hm, fun hm => ?_, hrec⟩
    rw [s.fresh.fieldStart_early hu hm]
    exact regsBut_updBank s.fresh _ _ _
  case short =>
    have hd : s.fresh.driveLevel ch = true := h2
    exact if_pos (by rw [h1, hd]; simp)
  case retry =>
    have hb : ch / 16 < 4 := Nat.div_lt_of_lt_mul hch
    have hi : ch % 16 < 16 := Nat.mod_lt _ (by decide)
    rw [s.fresh.thermalRetry_drives hc hu h]
    dsimp only
    rw [State.bank_updBank_self _ hb]
    exact ⟨by simp, bitAt_setBit_pins _ hi _, regsBut_updBank s.fresh _ _ _⟩

end Sys2Proof.Machine

/-! PROOFS. The rules of the non-volatile stores: erases that are counted, the two copies of the boot record and of the session record, and the bitmaps (R473, R477, R479, R482, R502). -/

namespace Sys2Proof.Machine

/-! ## Two copies of a record (R70, R473, R482) -/

/-- A record written behind copy 0, with the next number, is the one in use. -/
theorem copyInUse_of_zero {ok0 ok1 : Bool} {q0 q1 : U32} (h : copyInUse ok0 ok1 q0 q1 = some 0) : copyInUse ok0 true q0 (q0 + 1) = some 1 := by
  have hnext : newer32 (q0 + 1) q0 = true := by simp [newer32]
  cases ok0 with
  | true => simpa [copyInUse] using hnext
  | false => cases ok1 <;> simp [copyInUse] at h

/-- And one written behind copy 1, or behind none, into copy 0. -/
theorem copyInUse_of_one {ok0 ok1 : Bool} {q0 q1 : U32} (h : copyInUse ok0 ok1 q0 q1 ≠ some 0) {q : U32}
    (hq : copyInUse ok0 ok1 q0 q1 ≠ none → q = q1 + 1) : copyInUse true ok1 q q1 = some 0 := by
  cases ok1 with
  | false => rfl
  | true =>
    have hold : newer32 q1 (q1 + 1) = false := by simp [newer32]
    have hsome : copyInUse ok0 true q0 q1 ≠ none := by cases ok0 <;> simp [copyInUse]
    simpa [copyInUse, hq hsome] using hold

theorem copyInUse_le {ok0 ok1 : Bool} {q0 q1 : U32} {k : Nat} (h : copyInUse ok0 ok1 q0 q1 = some k) : k = 0 ∨ k = 1 := by
  cases ok0 <;> cases ok1 <;> simp [copyInUse] at h <;> grind

/-! ## Erases (R502) -/

section

variable (s : State)

theorem regsBut_countErase (k : Nat) : RegsBut s (s.countErase k) [Reg.HK_EVT, Reg.MSIX_PBA 0] := by
  unfold State.countErase
  dsimp only
  split
  · exact regsBut_raise (s.updNvm _) _ _
  · exact .refl s _

theorem State.countErase_nvm (k : Nat) : ∃ e, (s.countErase k).nvm = { s.nvm with erases := e } := by
  unfold State.countErase
  dsimp only
  split
  · exact ⟨_, State.raise_nvm _ _ _⟩
  · exact ⟨_, rfl⟩

end

theorem regsBut_countErases (s : State) (first n : Nat) : RegsBut s (s.countErases first n) [Reg.HK_EVT, Reg.MSIX_PBA 0] := by
  unfold State.countErases
  induction span first n generalizing s with
  | nil => exact .refl s _
  | cons k l ih => exact (regsBut_countErase s k).trans (ih _)

theorem State.countErases_nvm (s : State) (first n : Nat) : ∃ e, (s.countErases first n).nvm = { s.nvm with erases := e } := by
  unfold State.countErases
  induction span first n generalizing s with
  | nil => exact ⟨_, rfl⟩
  | cons k l ih =>
    obtain ⟨e, he⟩ := s.countErase_nvm k
    obtain ⟨f, hf⟩ := ih (s.countErase k)
    exact ⟨f, hf.trans (by rw [he])⟩

/-! ## The boot record (R482) -/

/-! ## The session record and the bitmaps (R473, R477, R479) -/

theorem Nvm.sesRec_zero {v : Nvm} (h : v.sesIx = some 0) : v.sesRec = v.ses0 := by simp [Nvm.sesRec, h]

theorem Nvm.sesRec_one {v : Nvm} (h : v.sesIx = some 1) : v.sesRec = v.ses1 := by simp [Nvm.sesRec, h]

/-- A record with its CRC32. -/
def SesRec.whole (r : SesRec) : SesRec := { r with crc := crc32 r.body }

theorem SesRec.ok_whole (r : SesRec) : r.whole.ok = true := by simp [SesRec.ok, SesRec.whole, SesRec.body]

/-- A session record that is written is the one in force. -/
theorem State.sesRec_writeSes (s : State) (r : SesRec) : (s.writeSes r).nvm.sesRec = ({ r with seq := s.nvm.sesRec.seq + 1 } : SesRec).whole := by
  unfold State.writeSes
  extract_lets r₁ r'
  have hok : r'.ok = true := SesRec.ok_whole r₁
  split
  · next h =>
    obtain ⟨e, he⟩ := s.countErase_nvm (sessionSector + 1)
    have hix : (((s.countErase (sessionSector + 1)).updNvm (fun v => { v with ses1 := r' })).noteWrite (.session 1)).nvm.sesIx = some 1 := by
      have hseq : r'.seq = s.nvm.ses0.seq + 1 := by rw [← Nvm.sesRec_zero h]
      show copyInUse (s.countErase _).nvm.ses0.ok r'.ok (s.countErase _).nvm.ses0.seq r'.seq = some 1
      rw [he, hok, hseq]
      exact copyInUse_of_zero h
    exact Nvm.sesRec_one hix
  · next h =>
    obtain ⟨e, he⟩ := s.countErase_nvm sessionSector
    have hix : (((s.countErase sessionSector).updNvm (fun v => { v with ses0 := r' })).noteWrite (.session 0)).nvm.sesIx = some 0 := by
      have hseq : s.nvm.sesIx ≠ none → r'.seq = s.nvm.ses1.seq + 1 := by
        intro hn
        obtain ⟨k, hk⟩ := Option.ne_none_iff_exists'.mp hn
        rcases copyInUse_le hk with rfl | rfl
        · exact absurd hk h
        · rw [← Nvm.sesRec_one hk]
      show copyInUse r'.ok (s.countErase _).nvm.ses1.ok r'.seq (s.countErase _).nvm.ses1.seq = some 0
      rw [he, hok]
      exact copyInUse_of_one h hseq
    exact Nvm.sesRec_zero hix

theorem State.writeSes_nvm (s : State) (r : SesRec) : ∃ a b e, (s.writeSes r).nvm = { s.nvm with ses0 := a, ses1 := b, erases := e } := by
  unfold State.writeSes
  extract_lets r₁ r'
  split
  · obtain ⟨e, he⟩ := s.countErase_nvm (sessionSector + 1)
    exact ⟨_, _, e, congrArg (fun v : Nvm => { v with ses1 := r' }) he⟩
  · obtain ⟨e, he⟩ := s.countErase_nvm sessionSector
    exact ⟨_, _, e, congrArg (fun v : Nvm => { v with ses0 := r' }) he⟩

theorem regsBut_writeSes (s : State) (r : SesRec) : RegsBut s (s.writeSes r) [Reg.HK_EVT, Reg.MSIX_PBA 0] := by
  unfold State.writeSes
  extract_lets r₁ r'
  split
  · exact regsBut_countErase s _
  · exact regsBut_countErase s _

theorem State.writeSes_upd (s : State) (r : SesRec) : (s.writeSes r).upd = s.upd :=
  same_of_foot [.regs, .nvm, .gecko] (fun _ _ => writeSes_foot _ _ (.refl s)) .upd

theorem regsBut_setSes (s : State) (st : Nat) : RegsBut s (s.setSes st) [Reg.HK_EVT, Reg.MSIX_PBA 0] := by
  unfold State.setSes
  dsimp only
  split
  · exact regsBut_writeSes { s with upd := { s.upd with state := st } } _
  · exact .refl s _

theorem State.setSes_upd (s : State) (st : Nat) : (s.setSes st).upd = { s.upd with state := st } := by
  unfold State.setSes
  dsimp only
  split
  · exact State.writeSes_upd _ _
  · rfl

theorem State.setSes_nvm (s : State) (st : Nat) : ∃ a b e, (s.setSes st).nvm = { s.nvm with ses0 := a, ses1 := b, erases := e } := by
  unfold State.setSes
  dsimp only
  split
  · exact State.writeSes_nvm _ _
  · exact ⟨_, _, _, rfl⟩

/-- IDLE and RECEIVING stand in the flash record. -/
theorem State.sesRec_setSes (s : State) (st : Nat) (h : st ≤ 1) : (s.setSes st).nvm.sesRec.state = st := by
  unfold State.setSes
  dsimp only
  split
  · exact congrArg SesRec.state (State.sesRec_writeSes _ _)
  · next hn =>
    by_contra hst
    exact hn (by simpa [h] using hst)

/-- A state that flash does not hold, or holds already, is of the working state alone. -/
theorem State.setSes_quiet (s : State) (st : Nat) (h : 1 < st ∨ s.nvm.sesRec.state = st) :
    s.setSes st = { s with upd := { s.upd with state := st } } := by
  unfold State.setSes
  dsimp only
  refine if_neg fun hc => ?_
  simp only [Bool.and_eq_true, decide_eq_true_eq, bne_iff_ne] at hc
  rcases h with h | h
  · exact Nat.not_le.mpr h hc.1
  · exact hc.2 h

theorem regsBut_clearBits (s : State) (f : Nat → Bool) : RegsBut s (s.clearBits f) [Reg.HK_EVT, Reg.MSIX_PBA 0] :=
  regsBut_countErases s bitmapSector 2

theorem State.clearBits_nvm (s : State) (f : Nat → Bool) :
    ∃ e, (s.clearBits f).nvm = { s.nvm with bits0 := s.nvm.bits0.filter (fun p => !f p), bits1 := s.nvm.bits1.filter (fun p => !f p), erases := e } := by
  obtain ⟨e, he⟩ := s.countErases_nvm bitmapSector 2
  exact ⟨e, congrArg (fun v : Nvm => { v with bits0 := v.bits0.filter (fun p => !f p), bits1 := v.bits1.filter (fun p => !f p) }) he⟩

/-- A session's end clears both bitmaps and both records of it, and no other store. -/
theorem State.endSession_nvm (s : State) : ∃ a b e, s.endSession.nvm = { s.nvm with ses0 := a, ses1 := b, bits0 := [], bits1 := [], erases := e } := by
  obtain ⟨e, he⟩ := s.clearBits_nvm (fun _ => true)
  obtain ⟨a, b, f, hs⟩ := ((s.clearBits (fun _ => true)).updUpd (fun u => { u with bufs := [], readFails := [] })).setSes_nvm Ses.idle
  refine ⟨a, b, f, hs.trans ?_⟩
  show { (s.clearBits (fun _ => true)).nvm with ses0 := a, ses1 := b, erases := f } = _
  rw [he]
  simp

theorem State.endSession_upd (s : State) : s.endSession.upd = { s.upd with bufs := [], readFails := [], state := Ses.idle } := by
  have h : (s.clearBits (fun _ => true)).upd = s.upd :=
    same_of_foot [.regs, .nvm] (fun _ _ => clearBits_foot _ _ (.refl s)) .upd
  exact (State.setSes_upd _ _).trans (congrArg (fun u : Upd => { u with bufs := [], readFails := [], state := Ses.idle }) h)

theorem State.sesRec_endSession (s : State) : s.endSession.nvm.sesRec.state = Ses.idle := State.sesRec_setSes _ _ (by decide)

theorem regsBut_endSession (s : State) : RegsBut s s.endSession [Reg.HK_EVT, Reg.MSIX_PBA 0] :=
  RegsBut.trans (t := (s.clearBits (fun _ => true)).updUpd (fun u => { u with bufs := [], readFails := [] }))
    (regsBut_clearBits s (fun _ => true)) (regsBut_setSes _ _)

theorem State.endSession_hif (s : State) : s.endSession.hif = s.hif :=
  same_of_foot [.regs, .nvm, .upd, .gecko] (fun _ _ => endSession_foot _ (.refl s)) .hif

end Sys2Proof.Machine

/-! PROOFS. What a command finds that CTRL has taken from the head of the CMD ring; UPD_BEGIN, UPD_STATUS and the custody key (R474, R475, R480, R490). -/

namespace Sys2Proof.Machine

/-! ## The state behind the taking of a command -/

/-- The head of the CMD ring has been taken: the ring's bookkeeping has moved on, and nothing else. -/
structure AtHead (s u : State) : Prop where
  taken : HeadTaken s u
  parts : PartsBut s u [.regs, .hif]
  regs : RegsBut s u headRegs
  hif : ∃ l f c, u.hif = { s.hif with fetched := dropFirst 0 s.hif.fetched, unsig := l, fetching := f, prefetchCut := c }

theorem State.atHead (s : State) : AtHead s (s.fresh.takeHead 0) where
  taken := ⟨(State.takeHead_taken s.fresh).ready, (State.takeHead_taken s.fresh).running, (State.takeHead_taken s.fresh).fetched⟩
  parts := fun z hz => same_of_foot [.regs, .hif] (fun _ _ => takeHead_foot _ _ ((fresh_foot _ (.refl s)))) z hz
  regs := regsBut_takeHead s.fresh 0
  hif := s.fresh.takeHead_hif 0

theorem AtHead.nvm {s u : State} (h : AtHead s u) : u.nvm = s.nvm := h.parts .nvm (by decide)

theorem AtHead.upd {s u : State} (h : AtHead s u) : u.upd = s.upd := h.parts .upd (by decide)

theorem AtHead.ws {s u : State} (h : AtHead s u) : u.ws = s.ws := h.parts .ws (by decide)

theorem AtHead.gecko {s u : State} (h : AtHead s u) : u.gecko = s.gecko := h.parts .gecko (by decide)

theorem AtHead.answered {s u : State} (h : AtHead s u) (d : Desc) (status : Nat) (result : U64) :
    Answered s (u.done d status result) d status result := h.taken.answered d status result

/-- A DIR command that heads the CMD ring does what its function does behind the taking of its descriptor. -/
theorem ends_dirCmd {s : State} {op : Nat} {d : Desc} {c : Instr} {f : Desc → State → State} {P : State → Prop} (h : s.Heads op d)
    (hex : exec c s = .next (s.fresh.dirCmd op f)) (hp : ∀ u, AtHead s u → P (f d u)) : Ends c s P :=
  ⟨_, hex.trans (congrArg _ (State.dirCmd_of_heads (State.heads_fresh h) f)), hp _ s.atHead⟩

/-! ## The session as flash gives it -/

/-- The slots alone. -/
theorem State.updSlot_nvm (s : State) (k : Nat) (f : ImageSlot → ImageSlot) :
    ∃ a b, (s.updSlot k f).nvm = { s.nvm with slotA := a, slotB := b } := by
  unfold State.updSlot State.updNvm
  dsimp only
  split
  · exact ⟨_, _, rfl⟩
  · exact ⟨_, _, rfl⟩

theorem State.updSlot_find (s : State) (k p : Nat) :
    Sparse.find ((s.updSlot k (fun g => { factory := false, pieces := Sparse.erase g.pieces p })).nvm.slotOf k).pieces p = none := by
  have herase : ∀ l : Sparse (List Byte), Sparse.find (Sparse.erase l p) p = none := by
    intro l
    induction l with
    | nil => rfl
    | cons x l ih => grind [Sparse.find, Sparse.erase]
  unfold State.updSlot State.updNvm Nvm.slotOf
  dsimp only
  split
  · exact herase _
  · exact herase _

/-- A bad argument is answered first, whatever the session (log entry 26). -/
theorem State.updBegin_bad {s : State} {d : Desc}
    (h : d.arg 8 4 = 0 ∨ 524287 < d.arg 8 4 ∨ d.arg 0xC 4 < 2 ∨ 8192 < d.arg 0xC 4 ∨ d.resv 0x30 16 = false) :
    s.updBegin d = s.done d Status.badArg := by
  refine if_pos ?_
  rcases h with h | h | h | h | h
  all_goals simp only [inRange, h, Bool.or_eq_true, Bool.not_eq_true', Bool.and_eq_false_iff, decide_eq_false_iff_not, Bool.not_false, or_true]
  all_goals omega

theorem State.updBegin_busy {s : State} {d : Desc} (hid : 1 ≤ d.arg 8 4) (hid' : d.arg 8 4 ≤ 524287) (hn : 2 ≤ d.arg 0xC 4) (hn' : d.arg 0xC 4 ≤ 8192)
    (hr : d.resv 0x30 16 = true) (h : s.upd.state = Ses.ready ∨ s.upd.state = Ses.trial ∨ (s.upd.state = Ses.receiving ∧ d.force = false)) :
    s.updBegin d = s.done d Status.busy := by
  unfold State.updBegin
  extract_lets id n st
  rw [if_neg (by simp [id, n, inRange, hid, hid', hn, hn', hr]), if_pos]
  rcases h with h | h | ⟨h, hf⟩
  · simp [st, h, inRange, Ses.ready, Ses.verifying, Ses.trial]
  · simp [st, h, inRange, Ses.verifying, Ses.trial]
  · simp [st, h, hf, Ses.receiving]

/-- The session record is durable, and the bitmap and the target's manifest erased, before UPD_BEGIN ends (R474). -/
theorem State.updBegin_begun {s : State} {d : Desc} (hid : 1 ≤ d.arg 8 4) (hid' : d.arg 8 4 ≤ 524287) (hn : 2 ≤ d.arg 0xC 4) (hn' : d.arg 0xC 4 ≤ 8192)
    (hr : d.resv 0x30 16 = true) (h : s.upd.state = Ses.idle ∨ (s.upd.state = Ses.receiving ∧ d.force = true)) :
    ∃ t : State, s.updBegin d = t.done d Status.ok (BitVec.ofNat 64 (1 - s.upd.runSlot)) ∧ t.hif = s.hif ∧ t.upd.state = Ses.receiving
      ∧ t.nvm.session = { id := BitVec.ofNat 32 (d.arg 8 4), pieces := d.arg 0xC 4, hash := slice d.raw 0x10 32,
                          target := 1 - s.upd.runSlot, state := Ses.receiving, bitmap := [], seq := s.nvm.session.seq + 1 }
      ∧ t.nvm.bits0 = [] ∧ t.nvm.bits1 = [] ∧ t.gecko.writing = none
      ∧ Sparse.find (t.nvm.slotOf (1 - s.upd.runSlot)).pieces 0 = none ∧ t.upd.bufs = [] ∧ t.upd.reason = 0 := by
  unfold State.updBegin
  extract_lets id n st k s₀ s₁ s₂ s₃ s₄
  have hst : st = Ses.idle ∨ (st = Ses.receiving ∧ d.force = true) := h
  have hbusy : ¬ (inRange Ses.verifying Ses.trial st || (st = Ses.receiving && !d.force)) = true := by
    rcases hst with e | ⟨e, f⟩
    · simp [e, inRange, Ses.idle, Ses.verifying, Ses.receiving]
    · simp [e, f, inRange, Ses.receiving, Ses.verifying]
  have hfall : st ≠ Ses.fallback := by
    rcases hst with e | ⟨e, -⟩
    · rw [e]; decide
    · rw [e]; decide
  rw [if_neg (by simp [id, n, inRange, hid, hid', hn, hn', hr]), if_neg hbusy]
  have h0 : s₀ = s := if_neg hfall
  have hrec : s₁.nvm.sesRec = ({ ({ id := BitVec.ofNat 32 id, pieces := n, hash := slice d.raw 0x10 32, target := k, state := Ses.receiving } : SesRec)
      with seq := s₀.nvm.sesRec.seq + 1 } : SesRec).whole := s₀.sesRec_writeSes _
  obtain ⟨e, he⟩ := s₁.clearBits_nvm (fun _ => true)
  obtain ⟨e', he'⟩ := (s₁.clearBits (fun _ => true)).countErase_nvm (0x2000 * k)
  obtain ⟨a, b, hs3⟩ := s₂.updSlot_nvm k (fun g => { factory := false, pieces := Sparse.erase g.pieces 0 })
  have hs2 : s₂.nvm = { s₁.nvm with bits0 := [], bits1 := [], erases := e' } := he'.trans (by rw [he]; simp)
  have hhif : s₂.hif = s.hif := (same_of_foot [.regs, .nvm, .gecko] (fun _ _ => countErase_foot _ _ (clearBits_foot _ _
    (writeSes_foot _ _ (.refl s₀)))) .hif).trans (by rw [h0])
  have hfind := State.updSlot_find s₂ k 0
  clear_value s₂ s₁
  have hs4 : s₄.nvm = { s₁.nvm with bits0 := [], bits1 := [], erases := e', slotA := a, slotB := b } := hs3.trans (by rw [hs2])
  have hrec4 : s₄.nvm.sesRec = s₁.nvm.sesRec := by rw [hs4]; rfl
  have hset : s₄.setSes Ses.receiving = { s₄ with upd := { s₄.upd with state := Ses.receiving } } :=
    State.setSes_quiet _ _ (.inr (by rw [hrec4, hrec]; rfl))
  rw [hset]
  refine ⟨({ s₄ with upd := { s₄.upd with state := Ses.receiving } } : State).writeDone, rfl, hhif, rfl, ?_,
    congrArg Nvm.bits0 hs4, congrArg Nvm.bits1 hs4, rfl, hfind, rfl, rfl⟩
  show s₄.nvm.session = _
  unfold Nvm.session Nvm.bitmap
  rw [hrec4, hrec, show s₄.nvm.bits0 = [] from congrArg Nvm.bits0 hs4, h0]
  rfl

/-! ## UPD_STATUS (R480) -/

/-- The block that UPD_STATUS writes is of the session, the slots and the time. -/
theorem State.updBlock_congr {s t : State} (hn : t.nvm = s.nvm) (hu : t.upd = s.upd) (hw : t.ws = s.ws) : t.updBlock = s.updBlock := by
  unfold State.updBlock State.updReason State.trialLeft State.targetVer State.frcNat
  rw [hn, hu, hw]

/-- The key that is being programmed is held, and its words are cleared. -/
theorem State.keyDone_eq {s : State} {k : List Byte} (hk : s.nvm.programming = some k) :
    ∃ u : State, s.keyDone = u.raise Reg.UPD_EVT 0x80 ∧ u.nvm = { s.nvm with custody := some k, programming := none }
      ∧ (∀ w, w ∈ u.upd.keyWords → w.2 = 0) ∧ ∀ os, RegsBut s u os := by
  rw [State.keyDone, hk]
  refine ⟨_, rfl, rfl, ?_, fun _ => .of_regs rfl rfl _⟩
  intro w hw
  obtain ⟨x, -, rfl⟩ := List.mem_map.mp hw
  rfl

/-- Settles O47: UPD_BEGIN makes a session from its arguments, UPD_STATUS reads it, and the eight key words go into OTP once. -/
theorem updateSessionAndKey : Obligations.UpdateSessionAndKey := by
  unfold Obligations.UpdateSessionAndKey
  refine ⟨⟨fun s d hd => ⟨fun hid hid' hn hn' hr => ⟨fun hst => ends_dirCmd hd rfl fun u hu => ?begun,
      fun hst => ends_dirCmd hd rfl fun u hu => ?busy⟩, fun hbad => ends_dirCmd hd rfl fun u hu => ?bad⟩,
      fun s d ok hd h8 h18 hal => ⟨fun hok => ends_dirCmd hd rfl fun u hu => ?status, fun hne hok => ends_dirCmd hd rfl fun u hu => ?badStatus⟩⟩,
    fun s => ⟨fun hm hc hp hw hb => ⟨_, rfl, ?program⟩, fun hno => ⟨_, rfl, ?refused⟩⟩, fun s k hk => ⟨_, rfl, ?programmed⟩⟩
  case begun =>
    rw [← hu.upd] at hst ⊢
    rw [← hu.nvm]
    obtain ⟨t, ht, hhif, hrest⟩ := State.updBegin_begun hid hid' hn hn' hr hst
    rw [ht]
    exact ⟨(hu.taken.then_hif hhif).answered d _ _, hrest⟩
  case busy =>
    rw [State.updBegin_busy hid hid' hn hn' hr (hu.upd ▸ hst)]
    exact ⟨hu.answered d _ _, hu.upd, hu.nvm⟩
  case bad =>
    rw [State.updBegin_bad hbad]
    exact ⟨hu.answered d _ _, hu.upd, hu.nvm⟩
  case status =>
    have hargs : ¬ (!d.resv 8 8 || !d.resv 0x18 40 || d.arg 0x10 8 % 64 != 0 || (d.arg 0x10 8 != 0 && !ok)) = true := by
      rcases hok with h | h <;> simp [h8, h18, hal, h]
    have hreason : u.updReason = s.updReason := by rw [State.updReason, State.updReason, hu.nvm, hu.upd]
    rw [State.updStatus]
    dsimp only
    rw [if_neg hargs]
    split
    · next h0 => exact ⟨hu.upd, hu.nvm, by rw [hreason, hu.upd, hu.nvm]; exact hu.answered d _ _, fun h => absurd h0 h⟩
    · refine ⟨hu.upd, hu.nvm, ?_, fun _ => ?_⟩
      · show Answered s ((u.emitOut _).done d Status.ok (BitVec.ofNat 64 (u.upd.state + 2 ^ 8 * u.updReason + 2 ^ 16 * u.nvm.session.bitmap.length
          + 2 ^ 32 * u.nvm.session.id.toNat))) d Status.ok _
        rw [hreason, hu.upd, hu.nvm]
        exact (hu.taken.then_hif rfl).answered d _ _
      · rw [← State.updBlock_congr hu.nvm hu.upd hu.ws]
        exact List.mem_append_right _ (List.mem_singleton_self _)
  case badStatus =>
    have hargs : (!d.resv 8 8 || !d.resv 0x18 40 || d.arg 0x10 8 % 64 != 0 || (d.arg 0x10 8 != 0 && !ok)) = true := by simp [hne, hok]
    rw [State.updStatus]
    dsimp only
    rw [if_pos hargs]
    exact hu.answered d _ _
  case program =>
    have hgo : ¬ (s.mgmt != Node.setup || s.nvm.custody.isSome || s.nvm.programming.isSome || !s.upd.keyWhole
        || (s.nvm.bank0Spent && s.nvm.bank1Spent)) = true := by
      rcases hb with h | h <;> simp [hm, hc, hp, hw, h]
    have hrun : s.fresh.keyProgram
        = (s.fresh.setRegBit Reg.UPD_KEY_STATUS 3 false).updNvm (fun v => { v with programming := some s.upd.key }) := if_neg hgo
    rw [hrun]
    exact ⟨rfl, State.rbit_setRegBit_self _ _ _ _ (by decide), regsBut_setRegBit s.fresh _ _ _⟩
  case refused =>
    have hno' : (s.mgmt != Node.setup || s.nvm.custody.isSome || s.nvm.programming.isSome || !s.upd.keyWhole
        || (s.nvm.bank0Spent && s.nvm.bank1Spent)) = true := by
      rcases hno with h | h | h <;> simp [h]
    have hrun : s.fresh.keyProgram = (s.fresh.setRegBit Reg.UPD_KEY_STATUS 3 true).ignored Reg.UPD_KEY_CMD Why.cmdState := if_pos hno'
    have hign := (s.fresh.setRegBit Reg.UPD_KEY_STATUS 3 true).ignored_register Reg.UPD_KEY_CMD Why.cmdState (by decide) (by decide)
    rw [hrun]
    exact ⟨State.ignored_nvm _ _ _ _, (State.rbit_of_reg (hign.regs _ (by decide)) _).trans (State.rbit_setRegBit_self _ _ _ _ (by decide)), hign.shown⟩
  case programmed =>
    obtain ⟨u, hrun, hnvm, hwords, hregs⟩ := State.keyDone_eq (s := s.fresh) hk
    rw [hrun]
    exact ⟨(State.raise_nvm _ _ _).trans hnvm, by rw [State.raise_upd]; exact hwords,
      State.rbit_raise_self u Reg.UPD_EVT 0x80 7 (by decide) (by decide), (hregs _).trans (regsBut_raise u _ _)⟩

end Sys2Proof.Machine

/-! PROOFS. Pieces of an update: taken, rejected, duplicate, stored (R476-R479). -/

namespace Sys2Proof.Machine

section

variable (s : State)

theorem State.slotOf_updSlot (k : Nat) (f : ImageSlot → ImageSlot) : (s.updSlot k f).nvm.slotOf k = f (s.nvm.slotOf k) := by
  unfold State.updSlot State.updNvm Nvm.slotOf
  dsimp only
  split
  · simp
  · simp

/-! ## A rejected piece (Table 17-8) -/

theorem State.pieceReject_nvm (p why : Nat) : (s.pieceReject p why).nvm = s.nvm := State.raise_nvm _ _ _

theorem State.pieceReject_upd (p why : Nat) : (s.pieceReject p why).upd = s.upd := State.raise_upd _ _ _

theorem State.pieceReject_hif (p why : Nat) : (s.pieceReject p why).hif = s.hif := State.raise_hif _ _ _

theorem State.pieceReject_shown (p why : Nat) : (s.pieceReject p why).reg Reg.UPD_LAST_REJ = packU32 [(p, 0), (why, 16)]
    ∧ (s.pieceReject p why).rbit Reg.UPD_EVT 0 = true
    ∧ (s.pieceReject p why).reg Reg.UPD_PIECE_REJ_CNT = satAdd (s.reg Reg.UPD_PIECE_REJ_CNT) 1 := by
  unfold State.pieceReject
  dsimp only
  refine ⟨?_, State.rbit_raise_self _ _ _ _ (by decide) (by decide), ?_⟩
  · simp [State.reg_raise, Reg.MSIX_PBA]
  · simp [State.reg_raise, Reg.MSIX_PBA]

/-! ## A buffer that is read (R476) -/

/-- The descriptor of the UPD ring is consumed as its buffer is read. -/
structure PieceRead (s u : State) (l : List (List Byte)) : Prop where
  upd : u.upd = s.upd
  nvm : u.nvm = s.nvm
  regs : RegsBut s u [Reg.RING_NODE_IDX 9, Reg.RING_ENTRY_CNT 9, Reg.MSIX_PBA 0]
  waiting : u.fetchedOf 9 = l

theorem State.pieceRead {s : State} {b : List Byte} {l : List (List Byte)} (h : s.fetchedOf 9 = b :: l) :
    PieceRead s ((s.fresh.readBuffer b).takeHead 9) l where
  upd := same_of_foot [.regs, .hif] (fun _ _ => takeHead_foot _ _ (.refl _)) .upd
  nvm := same_of_foot [.regs, .hif] (fun _ _ => takeHead_foot _ _ (.refl _)) .nvm
  regs := regsBut_takeHead (s.fresh.readBuffer b) 9
  waiting := by
    obtain ⟨u, f, c, hif⟩ := (s.fresh.readBuffer b).takeHead_hif 9
    unfold State.fetchedOf at h ⊢
    rw [hif]
    have hdrop := fetched_dropFirst 9 9 s.hif.fetched
    rw [if_pos rfl, h] at hdrop
    exact hdrop

/-- A buffer is read while one of the 16 on chip is free and the node is not in the pause of an activation. -/
theorem State.pieceReceived_eq {s : State} {data : Image} {b : List Byte} {l : List (List Byte)} (h : s.fetchedOf 9 = b :: l)
    (hfree : s.upd.bufs.length < 16) (hm : s.mgmt ≠ Node.activating) :
    s.fresh.pieceReceived data =
      (if s.pieceReason b data ≠ 0 then ((s.fresh.readBuffer b).takeHead 9).pieceReject (fld (u32At b 0xC) 0 13) (s.pieceReason b data)
      else if fld (u32At b 0xC) 0 13 ∈ s.nvm.session.bitmap then ((s.fresh.readBuffer b).takeHead 9).bump Reg.UPD_PIECE_DUP_CNT
      else ((s.fresh.readBuffer b).takeHead 9).updUpd
        (fun u => { u with bufs := u.bufs ++ [(fld (u32At b 0xC) 0 13, fit 4096 (data.getD []))] })) := by
  have hgo : ¬ (decide (16 ≤ s.upd.bufs.length) || s.mgmt == Node.activating) = true := by simp [Nat.not_le.mpr hfree, hm]
  have hnvm := (State.pieceRead h).nvm
  unfold State.pieceReceived
  rw [show s.fresh.fetchedOf 9 = b :: l from h]
  dsimp only
  refine (if_neg hgo).trans ?_
  rw [hnvm, show s.fresh.pieceReason b data = s.pieceReason b data from rfl]
  simp only [bne_iff_ne, List.contains_eq_mem, decide_eq_true_eq]

/-- A piece that is taken has been read. -/
theorem State.data_of_pieceReason {b : List Byte} {data : Image} (h : s.pieceReason b data = 0) : ∃ x, data = some x := by
  cases data with
  | some x => exact ⟨x, rfl⟩
  | none =>
    simp only [State.pieceReason] at h
    repeat' split at h
    all_goals simp at *

/-! ## A piece that is stored (R477) -/

end

/-- A bit put in its place stands among the others. -/
theorem mem_putBit (l : List Nat) (p q : Nat) : q ∈ l.filter (· < p) ++ p :: l.filter (p < ·) ↔ q = p ∨ q ∈ l := by
  simp only [List.mem_append, List.mem_cons, List.mem_filter, decide_eq_true_eq]
  rcases Nat.lt_trichotomy q p with h | h | h
  · simp [h, Nat.not_lt.mpr h.le, h.ne]
  · simp [h]
  · simp [h, Nat.not_lt.mpr h.le, h.ne']

theorem Nvm.mem_bitmap (v : Nvm) (q : Nat) : q ∈ v.session.bitmap ↔ q ∈ v.bits0 ∧ q ∈ v.bits1 := by
  simp [Nvm.session, Nvm.bitmap]

section

variable {s : State} {p : Nat} {x : List Byte}

/-- A buffered piece is erased, programmed and read back into the session's slot. -/
theorem State.storePiece_good (h : s.upd.bufs.find? (fun b => b.1 == p) = some (p, x)) (hn : p ∉ s.nvm.session.bitmap) :
    s.storePiece p true = ((((s.countErase (0x2000 * s.nvm.session.target + p)).updSlot s.nvm.session.target
      (fun g => { g with pieces := Sparse.insert g.pieces p x })).setBits p).dropBuf p).bump Reg.UPD_PIECE_CNT := by
  simp [State.storePiece, h, hn]

/-- What an attempt that fails leaves, before it is counted. -/
abbrev State.unstored (s : State) (p : Nat) : State :=
  (s.countErase (0x2000 * s.nvm.session.target + p)).updSlot s.nvm.session.target (fun g => { g with pieces := Sparse.erase g.pieces p })

theorem State.storePiece_bad (h : s.upd.bufs.find? (fun b => b.1 == p) = some (p, x)) (hn : p ∉ s.nvm.session.bitmap) :
    s.storePiece p false = (if Sparse.get 0 s.upd.readFails p = 2 then ((s.unstored p).dropBuf p).pieceReject p 7
      else (s.unstored p).updUpd (fun u => { u with readFails := Sparse.insert u.readFails p (Sparse.get 0 s.upd.readFails p + 1) })) := by
  have hupd : (s.countErase (0x2000 * s.nvm.session.target + p)).upd = s.upd :=
    same_of_foot [.regs, .nvm] (fun _ _ => countErase_foot _ _ (.refl s)) .upd
  simp only [State.storePiece, h, List.contains_eq_mem, hn, decide_false, hupd]
  rfl

theorem State.storePiece_again (h : s.upd.bufs.find? (fun b => b.1 == p) = some (p, x)) (hi : p ∈ s.nvm.session.bitmap) (ok : Bool) :
    s.storePiece p ok = (s.dropBuf p).bump Reg.UPD_PIECE_DUP_CNT := by
  simp [State.storePiece, h, hi]

/-- A piece that is stored has its bytes in the slot and its bit in both bitmaps, and leaves its buffer (R477). -/
theorem State.storePiece_stored (h : s.upd.bufs.find? (fun b => b.1 == p) = some (p, x)) (hn : p ∉ s.nvm.session.bitmap) :
    p ∈ (s.storePiece p true).nvm.session.bitmap ∧ p ∈ (s.storePiece p true).nvm.bits0 ∧ p ∈ (s.storePiece p true).nvm.bits1
      ∧ (s.storePiece p true).upd = { s.upd with bufs := dropFirst p s.upd.bufs, readFails := Sparse.erase s.upd.readFails p }
      ∧ (∀ q, q ≠ p → (q ∈ (s.storePiece p true).nvm.session.bitmap ↔ q ∈ s.nvm.session.bitmap))
      ∧ Sparse.find ((s.storePiece p true).nvm.slotOf s.nvm.session.target).pieces p = some x
      ∧ (s.storePiece p true).reg Reg.UPD_PIECE_CNT = satAdd (s.reg Reg.UPD_PIECE_CNT) 1 := by
  have hslot := (s.countErase (0x2000 * s.nvm.session.target + p)).slotOf_updSlot s.nvm.session.target
    (fun g => { g with pieces := Sparse.insert g.pieces p x })
  obtain ⟨e, he⟩ := s.countErase_nvm (0x2000 * s.nvm.session.target + p)
  obtain ⟨a, b, hs⟩ := (s.countErase (0x2000 * s.nvm.session.target + p)).updSlot_nvm s.nvm.session.target
    (fun g => { g with pieces := Sparse.insert g.pieces p x })
  have hupd : ((s.countErase (0x2000 * s.nvm.session.target + p)).updSlot s.nvm.session.target
      (fun g => { g with pieces := Sparse.insert g.pieces p x })).upd = s.upd :=
    same_of_foot [.regs, .nvm] (fun _ _ => updSlot_foot _ _ _ (countErase_foot _ _ (.refl s))) .upd
  have hregs : RegsBut s ((s.countErase (0x2000 * s.nvm.session.target + p)).updSlot s.nvm.session.target
      (fun g => { g with pieces := Sparse.insert g.pieces p x })) [Reg.HK_EVT, Reg.MSIX_PBA 0] := regsBut_countErase s _
  rw [State.storePiece_good h hn]
  generalize (s.countErase (0x2000 * s.nvm.session.target + p)).updSlot s.nvm.session.target
    (fun g => { g with pieces := Sparse.insert g.pieces p x }) = u at hslot hs hupd hregs ⊢
  have h0 : u.nvm.bits0 = s.nvm.bits0 := by rw [hs, he]
  have h1 : u.nvm.bits1 = s.nvm.bits1 := by rw [hs, he]
  have hbits : ∀ q, (q ∈ (((u.setBits p).dropBuf p).bump Reg.UPD_PIECE_CNT).nvm.bits0 ↔ q = p ∨ q ∈ s.nvm.bits0)
      ∧ (q ∈ (((u.setBits p).dropBuf p).bump Reg.UPD_PIECE_CNT).nvm.bits1 ↔ q = p ∨ q ∈ s.nvm.bits1) := fun q =>
    ⟨(mem_putBit u.nvm.bits0 p q).trans (by rw [h0]), (mem_putBit u.nvm.bits1 p q).trans (by rw [h1])⟩
  simp only [Nvm.mem_bitmap, hbits]
  refine ⟨⟨.inl trivial, .inl trivial⟩, .inl trivial, .inl trivial, ?_, fun q hq => ?_, ?_, ?_⟩
  · exact congrArg (fun v : Upd => { v with bufs := dropFirst p v.bufs, readFails := Sparse.erase v.readFails p }) hupd
  · simp [hq]
  · show Sparse.find (u.nvm.slotOf s.nvm.session.target).pieces p = some x
    rw [hslot]
    exact Sparse.find_insert_self _ _ _
  · rw [State.reg_bump, if_pos rfl]
    exact congrArg (fun v => satAdd v 1) (hregs _ (by decide))

theorem State.unstored_kept (s : State) (p : Nat) : (s.unstored p).upd = s.upd ∧ (s.unstored p).nvm.session = s.nvm.session
    ∧ ((s.unstored p).nvm.slotOf s.nvm.session.target).pieces = Sparse.erase (s.nvm.slotOf s.nvm.session.target).pieces p := by
  obtain ⟨e, he⟩ := s.countErase_nvm (0x2000 * s.nvm.session.target + p)
  obtain ⟨a, b, hs⟩ := (s.countErase (0x2000 * s.nvm.session.target + p)).updSlot_nvm s.nvm.session.target
    (fun g => { g with pieces := Sparse.erase g.pieces p })
  refine ⟨same_of_foot [.regs, .nvm] (fun _ _ => updSlot_foot _ _ _ (countErase_foot _ _ (.refl s))) .upd, ?_, ?_⟩
  · rw [hs, he]
    rfl
  · rw [State.slotOf_updSlot, he]
    rfl

end

/-- Settles O48: a piece is judged as its buffer is read, and has its bit in both bitmaps once a read-back of it is right. -/
theorem updatePieces : Obligations.UpdatePieces := by
  unfold Obligations.UpdatePieces
  refine ⟨fun s data b l p hb hfree hm hp => ?received, fun s p x hp hfind => ⟨fun hn => ⟨?good, ?slot, fun h2 => ?third, fun hlt => ?again⟩,
    fun hi ok => ?stored⟩⟩
  case received =>
    have hr := State.pieceRead hb
    have hrun : exec (.updPieceReceived data) s = .next (s.fresh.pieceReceived data) := rfl
    rw [State.pieceReceived_eq hb hfree hm, ← hp] at hrun
    generalize (s.fresh.readBuffer b).takeHead 9 = u at hr hrun
    refine ⟨fun hwhy => ⟨_, hrun.trans (congrArg _ (if_pos hwhy)), ?_⟩,
      fun hwhy hdup => ⟨_, hrun.trans (congrArg _ ((if_neg (not_not.mpr hwhy)).trans (if_pos hdup))), ?_⟩,
      fun hwhy hnew => ⟨_, hrun.trans (congrArg _ ((if_neg (not_not.mpr hwhy)).trans (if_neg hnew))), ?_⟩⟩
    · obtain ⟨hlast, hevt, hcnt⟩ := u.pieceReject_shown p (s.pieceReason b data)
      refine ⟨?_, (u.pieceReject_upd _ _).trans hr.upd, (u.pieceReject_nvm _ _).trans hr.nvm, hlast, hevt, ?_⟩
      · rw [State.fetchedOf, u.pieceReject_hif]
        exact hr.waiting
      · rw [hcnt, hr.regs _ (by decide)]
    · refine ⟨hr.waiting, hr.upd, hr.nvm, ?_⟩
      rw [State.reg_bump, if_pos rfl, hr.regs _ (by decide)]
    · obtain ⟨x, rfl⟩ := s.data_of_pieceReason hwhy
      exact ⟨hr.waiting, hr.nvm, x, rfl, congrArg (fun v : Upd => { v with bufs := v.bufs ++ [(p, fit 4096 x)] }) hr.upd⟩
  case good =>
    exact ⟨_, need_of (decide_eq_true hp) _, State.storePiece_stored (s := s.fresh) hfind hn⟩
  case slot =>
    refine ⟨_, need_of (decide_eq_true hp) _, ?_⟩
    rw [State.storePiece_bad (s := s.fresh) hfind hn]
    split
    · rw [State.pieceReject_nvm]
      exact (State.unstored_kept s.fresh p).2.2
    · exact (State.unstored_kept s.fresh p).2.2
  case third =>
    refine ⟨_, (need_of (decide_eq_true hp) _).trans (congrArg _ ((State.storePiece_bad (s := s.fresh) hfind hn).trans (if_pos h2))), ?_⟩
    obtain ⟨hupd, hses, -⟩ := State.unstored_kept s.fresh p
    rw [State.pieceReject_nvm, State.pieceReject_upd]
    exact ⟨hses, congrArg (fun v : Upd => dropFirst p v.bufs) hupd, (State.pieceReject_shown _ p 7).1⟩
  case again =>
    refine ⟨_, (need_of (decide_eq_true hp) _).trans (congrArg _ ((State.storePiece_bad (s := s.fresh) hfind hn).trans
      (if_neg (Nat.ne_of_lt hlt)))), ?_⟩
    obtain ⟨hupd, hses, -⟩ := State.unstored_kept s.fresh p
    exact ⟨hses, congrArg (fun v : Upd => { v with readFails := Sparse.insert v.readFails p (Sparse.get 0 s.upd.readFails p + 1) }) hupd⟩
  case stored =>
    exact ⟨_, (need_of (decide_eq_true hp) _).trans (congrArg _ (State.storePiece_again (s := s.fresh) hfind hi ok)), rfl, rfl,
      (State.reg_bump _ _ _).trans (if_pos rfl)⟩

end Sys2Proof.Machine

/-! PROOFS. UPD_VERIFY: the checks of Table 17-10, and what each outcome leaves (R472, R481). -/

namespace Sys2Proof.Machine

/-! ## Bytes of a manifest -/

theorem slice_slice (l : List Byte) (a k o n : Nat) (h : o + n ≤ k) : slice (slice l a k) o n = slice l (a + o) n := by
  unfold slice
  rw [List.drop_take, List.drop_drop, List.take_take, Nat.min_eq_left (by omega)]

theorem leAt_byte (l : List Byte) (o : Nat) : leAt l o 1 = (byteAt l o).toNat := by
  unfold leAt slice byteAt
  rcases Nat.lt_or_ge o l.length with h | h
  · rw [List.drop_eq_getElem_cons h, List.getD_eq_getElem _ _ h]
    show (l[o]).toNat + 256 * leNat [] = _
    simp [leNat]
  · rw [List.drop_eq_nil_of_le h, List.getD_eq_default _ _ h]
    rfl

/-- The high half of a byte is zero. -/
theorem fld_high_eq_zero (b : Byte) : fld b 4 4 = 0 ↔ b.toNat < 16 := by
  have hb := b.isLt
  rw [fld, Nat.shiftRight_eq_div_pow]
  omega

theorem allZero_iff (l : List Byte) : allZero l = true ↔ ∀ b, b ∈ l → b = 0 := by
  simp [allZero]

/-! ## Checks 1, 2, 5 and 6 as the statement has them -/

theorem manifestParts_eq (m : List Byte) : manifestParts m = (List.range 7).map (partOf m) := rfl

theorem partOf_resv (m : List Byte) (k : Nat) : (partOf m k).resv = allZero (slice m (0x21 + 48 * k) 3) := by
  show allZero (slice (slice m (0x20 + 48 * k) 48) 1 3) = _
  rw [slice_slice _ _ _ _ _ (by decide), Nat.add_right_comm]

theorem manifestFormatOk_iff (m : List Byte) : manifestFormatOk m = true ↔ ManifestFormat m := by
  have hrev : (fld (byteAt m 0xF) 4 4 == 0) = true ↔ leAt m 0xF 1 < 16 := by rw [beq_iff_eq, fld_high_eq_zero, leAt_byte]
  have hparts : (manifestParts m).all Part.resv = true ↔ ∀ k, k < 7 → ∀ b, b ∈ slice m (0x21 + 48 * k) 3 → b = 0 := by
    simp only [manifestParts_eq, List.all_map, List.all_eq_true, List.mem_range, Function.comp_apply, partOf_resv, allZero_iff]
  have hones : (slice m 0xF80 128).all (· == 0xFF) = true ↔ ∀ b, b ∈ slice m 0xF80 128 → b = 0xFF := by
    simp only [List.all_eq_true, beq_iff_eq]
  unfold manifestFormatOk
  simp only [Bool.and_eq_true, hrev, hparts, hones, allZero_iff, beq_iff_eq]
  constructor
  · rintro ⟨⟨⟨⟨⟨⟨⟨hmag, hver⟩, hcnt⟩, hr⟩, hz⟩, hz'⟩, hp⟩, ho⟩
    exact ⟨hmag, hver, hcnt, hr, fun b hb => (List.mem_append.mp hb).elim (hz b) (hz' b), hp, ho⟩
  · rintro ⟨hmag, hver, hcnt, hr, hz, hp, ho⟩
    exact ⟨⟨⟨⟨⟨⟨⟨hmag, hver⟩, hcnt⟩, hr⟩, fun b hb => hz b (List.mem_append_left _ hb)⟩, fun b hb => hz b (List.mem_append_right _ hb)⟩,
      hp⟩, ho⟩

theorem Nvm.keyOk_iff (v : Nvm) (m : List Byte) : v.keyOk m = true ↔ v.KeyRight m := by
  unfold Nvm.keyOk Nvm.KeyRight
  simp only [List.any_eq_true, Bool.and_eq_true, beq_iff_eq, Bool.not_eq_true']
  constructor
  · rintro ⟨⟨i, h, r⟩, hm, ⟨hi, hr⟩, hh⟩
    dsimp only at hi hr hh
    exact hi ▸ hr ▸ hh ▸ hm
  · intro h
    exact ⟨_, h, ⟨rfl, rfl⟩, rfl⟩

/-- The parts' numbers are 1 to 7, each once. -/
theorem partIds_iff (m : List Byte) : (manifestParts m).map Part.id = [1, 2, 3, 4, 5, 6, 7] ↔ ∀ k, k < 7 → (partOf m k).id = k + 1 := by
  have hlist : [1, 2, 3, 4, 5, 6, 7] = (List.range 7).map (· + 1) := by decide
  rw [manifestParts_eq, List.map_map, hlist, List.map_inj_left]
  simp only [List.mem_range, Function.comp_apply]

theorem packageLayout_iff (m : List Byte) (n : Nat) :
    (leAt m 0x10 4 != n || !partsOk (manifestParts m) n) = false ↔ PackageLayout m n := by
  have hall : ∀ f : Part → Bool, (manifestParts m).all f = true ↔ ∀ k, k < 7 → f (partOf m k) = true := by
    intro f
    simp only [manifestParts_eq, List.all_map, List.all_eq_true, List.mem_range, Function.comp_apply]
  unfold partsOk
  simp only [Bool.or_eq_false_iff, bne_eq_false_iff_eq, Bool.not_eq_false', Bool.and_eq_true, beq_iff_eq, partIds_iff, hall, bne_iff_ne,
    decide_eq_true_eq, Bool.or_eq_true]
  constructor
  · rintro ⟨hn, ⟨hids, hin⟩, hap⟩
    refine ⟨hn, hids, fun k hk => (hin k hk).1.1, fun k hk => ⟨(hin k hk).1.2, (hin k hk).2⟩, fun j k hj hk hjk => ?_⟩
    rcases hap j hj k hk with (h | h) | h
    · rw [hids j hj, hids k hk] at h
      exact absurd (Nat.succ_injective h) hjk
    · exact .inl h
    · exact .inr h
  · rintro ⟨hn, hids, hal, hin, hap⟩
    refine ⟨hn, ⟨hids, fun k hk => ⟨⟨hal k hk, (hin k hk).1⟩, (hin k hk).2⟩⟩, fun j hj k hk => ?_⟩
    rcases eq_or_ne j k with rfl | hjk
    · exact .inl (.inl rfl)
    · rcases hap j k hj hk hjk with h | h
      · exact .inl (.inr h)
      · exact .inr h

/-! ## The first check that fails -/

section

variable {u : State} {m : List Byte}

theorem State.checkManifest_format (h : ¬ManifestFormat m) : u.checkManifest m = some (0x11, Status.badArg) := by
  unfold State.checkManifest
  exact if_pos (by rw [Bool.not_eq_true', ← Bool.not_eq_true, manifestFormatOk_iff]; exact h)

/-- Behind the format come the key, the signature, and the rest. -/
theorem State.checkManifest_formatted (h : ManifestFormat m) : u.checkManifest m =
    (if !u.nvm.keyOk m then some (0x12, Status.auth)
    else if !manifestSigned m then some (0x13, Status.auth)
    else if u.rfld Reg.HW_REV 0 16 < leAt m 0xC 2 then some (0x14, Status.badArg)
    else if leAt m 0x10 4 != u.nvm.session.pieces || !partsOk (manifestParts m) u.nvm.session.pieces then some (0x15, Status.badArg)
    else if !(decide (leAt m 0x16 2 ≤ u.nvm.imageFormat u.upd.runSlot) && decide (u.nvm.imageFormat u.upd.runSlot ≤ leAt m 0x14 2)) then
      some (0x18, Status.badArg)
    else none) := by
  unfold State.checkManifest
  exact if_neg (by rw [Bool.not_eq_true', ← Bool.not_eq_true, manifestFormatOk_iff]; exact not_not.mpr h)

theorem not_keyOk (h : ¬u.nvm.KeyRight m) : (!u.nvm.keyOk m) = true := by
  rw [Bool.not_eq_true', ← Bool.not_eq_true, Nvm.keyOk_iff]
  exact h

/-- Behind the key come the signature, HW_REV, the layout and the settings format. -/
theorem State.checkManifest_keyed (h : ManifestFormat m) (hk : u.nvm.KeyRight m) : u.checkManifest m =
    (if !manifestSigned m then some (0x13, Status.auth)
    else if u.rfld Reg.HW_REV 0 16 < leAt m 0xC 2 then some (0x14, Status.badArg)
    else if leAt m 0x10 4 != u.nvm.session.pieces || !partsOk (manifestParts m) u.nvm.session.pieces then some (0x15, Status.badArg)
    else if !(decide (leAt m 0x16 2 ≤ u.nvm.imageFormat u.upd.runSlot) && decide (u.nvm.imageFormat u.upd.runSlot ≤ leAt m 0x14 2)) then
      some (0x18, Status.badArg)
    else none) :=
  (State.checkManifest_formatted h).trans (if_neg (by rw [(Nvm.keyOk_iff _ _).mpr hk]; decide))

/-- Behind a right signature come HW_REV, the layout and the settings format. -/
theorem State.checkManifest_signed (h : ManifestFormat m) (hk : u.nvm.KeyRight m) (hs : manifestSigned m = true) : u.checkManifest m =
    (if u.rfld Reg.HW_REV 0 16 < leAt m 0xC 2 then some (0x14, Status.badArg)
    else if leAt m 0x10 4 != u.nvm.session.pieces || !partsOk (manifestParts m) u.nvm.session.pieces then some (0x15, Status.badArg)
    else if !(decide (leAt m 0x16 2 ≤ u.nvm.imageFormat u.upd.runSlot) && decide (u.nvm.imageFormat u.upd.runSlot ≤ leAt m 0x14 2)) then
      some (0x18, Status.badArg)
    else none) :=
  (State.checkManifest_keyed h hk).trans (if_neg (by rw [hs]; decide))

theorem State.checkManifest_layout (h : ManifestFormat m) (hk : u.nvm.KeyRight m) (hs : manifestSigned m = true)
    (hw : leAt m 0xC 2 ≤ u.rfld Reg.HW_REV 0 16) (hl : ¬PackageLayout m u.nvm.session.pieces) :
    u.checkManifest m = some (0x15, Status.badArg) :=
  (State.checkManifest_signed h hk hs).trans ((if_neg (Nat.not_lt.mpr hw)).trans
    (if_pos (Bool.not_eq_false _ ▸ (packageLayout_iff m _).not.mpr hl)))

theorem State.checkManifest_laid (h : ManifestFormat m) (hk : u.nvm.KeyRight m) (hs : manifestSigned m = true)
    (hw : leAt m 0xC 2 ≤ u.rfld Reg.HW_REV 0 16) (hl : PackageLayout m u.nvm.session.pieces) :
    (SettingsFormatFits m (u.nvm.imageFormat u.upd.runSlot) → u.checkManifest m = none)
    ∧ (¬SettingsFormatFits m (u.nvm.imageFormat u.upd.runSlot) → u.checkManifest m = some (0x18, Status.badArg)) := by
  have hrun := (State.checkManifest_signed h hk hs).trans ((if_neg (Nat.not_lt.mpr hw)).trans
    (if_neg (Bool.eq_false_iff.mp ((packageLayout_iff m _).mpr hl))))
  have hfit : (decide (leAt m 0x16 2 ≤ u.nvm.imageFormat u.upd.runSlot) && decide (u.nvm.imageFormat u.upd.runSlot ≤ leAt m 0x14 2)) = true
      ↔ SettingsFormatFits m (u.nvm.imageFormat u.upd.runSlot) := by
    rw [Bool.and_eq_true, decide_eq_true_eq, decide_eq_true_eq, SettingsFormatFits]
  refine ⟨fun hf => hrun.trans (if_neg ?_), fun hf => hrun.trans (if_pos ?_)⟩
  · rw [hfit.mpr hf]
    decide
  · rw [Bool.not_eq_true', Bool.eq_false_iff]
    exact hfit.not.mpr hf

end

/-- The first part whose hash is wrong. -/
theorem ImageSlot.badPart_eq_some {g : ImageSlot} {k : Nat} (hk : k < 7)
    (hbad : sha256 (g.read (partOf g.manifest k).offset (partOf g.manifest k).length) ≠ (partOf g.manifest k).hash)
    (hok : ∀ j, j < k → sha256 (g.read (partOf g.manifest j).offset (partOf g.manifest j).length) = (partOf g.manifest j).hash) :
    g.badPart = some (partOf g.manifest k) := by
  unfold ImageSlot.badPart
  rw [manifestParts_eq, List.find?_map, Option.map_eq_some_iff]
  refine ⟨k, List.find?_range_eq_some.mpr ⟨by simpa using hbad, List.mem_range.mpr hk, fun j hj => by simpa using hok j hj⟩, rfl⟩

theorem ImageSlot.badPart_eq_none {g : ImageSlot}
    (hok : ∀ k, k < 7 → sha256 (g.read (partOf g.manifest k).offset (partOf g.manifest k).length) = (partOf g.manifest k).hash) :
    g.badPart = none := by
  unfold ImageSlot.badPart
  rw [List.find?_eq_none]
  intro p hp
  obtain ⟨k, hk, rfl⟩ := List.mem_map.mp hp
  rw [bne_iff_ne, not_not]
  exact hok k (List.mem_range.mp hk)

/-! ## What a verification leaves -/

section

variable {s u : State} {d : Desc}

theorem State.verifyFailed_upd (u : State) (why : Nat) : (u.verifyFailed why).upd = { u.upd with reason := why } := State.raise_upd _ _ _

theorem State.verifyFailed_nvm (u : State) (why : Nat) : (u.verifyFailed why).nvm = u.nvm := State.raise_nvm _ _ _

theorem State.verifyFailed_hif (u : State) (why : Nat) : (u.verifyFailed why).hif = u.hif := State.raise_hif _ _ _

theorem State.verifyFailed_shown (u : State) (why : Nat) : (u.verifyFailed why).rbit Reg.UPD_EVT 2 = true
    ∧ (u.verifyFailed why).reg Reg.UPD_VERIFY_FAIL_CNT = satAdd (u.reg Reg.UPD_VERIFY_FAIL_CNT) 1 := by
  unfold State.verifyFailed
  refine ⟨State.rbit_raise_self _ _ _ _ (by decide) (by decide), ?_⟩
  rw [State.reg_raise _ _ _ _ (by simp [Reg.MSIX_PBA]), if_neg (by decide), State.reg_bump, if_pos rfl]
  rfl

/-- A verification comes to its checks in RECEIVING, once every piece is stored. -/
structure Checkable (u : State) (d : Desc) : Prop where
  resv : d.resv 0xC 52 = true
  session : d.arg 8 4 = u.nvm.session.id.toNat
  receiving : u.upd.state = Ses.receiving
  whole : u.nvm.session.pieces ≤ u.nvm.session.bitmap.length

variable (h : Checkable u d)

include h

theorem Checkable.manifest_bad {why st : Nat} (hc : u.checkManifest (u.nvm.slotOf u.nvm.session.target).manifest = some (why, st)) :
    u.updVerify d = ((u.verifyFailed why).endSession).done d st := by
  obtain ⟨hr, hid, hst, hn⟩ := h
  simp [State.updVerify, State.sesMatch, hr, hid, hst, Nat.not_lt.mpr hn, hc, Ses.receiving, Ses.verifying]

theorem Checkable.part_bad {p : Part} (hc : u.checkManifest (u.nvm.slotOf u.nvm.session.target).manifest = none)
    (hp : (u.nvm.slotOf u.nvm.session.target).badPart = some p) :
    u.updVerify d = (((u.verifyFailed 0x17).clearBits (fun i => decide (p.offset / 4096 ≤ i) && decide (i < p.stop / 4096))).updUpd
      (fun v => { v with failPart := p.id })).done d Status.crc := by
  obtain ⟨hr, hid, hst, hn⟩ := h
  simp [State.updVerify, State.sesMatch, hr, hid, hst, Nat.not_lt.mpr hn, hc, hp, Ses.receiving, Ses.verifying]

theorem Checkable.right (hc : u.checkManifest (u.nvm.slotOf u.nvm.session.target).manifest = none)
    (hp : (u.nvm.slotOf u.nvm.session.target).badPart = none) :
    u.updVerify d = (({ u with upd := { u.upd with reason := 0, failPart := 0xFF, state := Ses.ready } } : State).raise Reg.UPD_EVT 2).done d
      Status.ok ((u32At (u.nvm.slotOf u.nvm.session.target).manifest 8).zeroExtend 64) := by
  have hready := (u.updUpd (fun v => { v with reason := 0, failPart := 0xFF })).setSes_quiet Ses.ready (.inl (by decide))
  obtain ⟨hr, hid, hst, hn⟩ := h
  simp [State.updVerify, State.sesMatch, hr, hid, hst, Nat.not_lt.mpr hn, hc, hp, Ses.receiving, Ses.verifying, hready]

end

/-- A failed check of the manifest ends the session. -/
theorem verifyEnded {s u : State} {d : Desc} (hu : AtHead s u) (st why : Nat) :
    VerifyEnded s (((u.verifyFailed why).endSession).done d st) d st why := by
  obtain ⟨hevt, hcnt⟩ := u.verifyFailed_shown why
  have hregs := regsBut_endSession (u.verifyFailed why)
  obtain ⟨a, b, e, hnvm⟩ := (u.verifyFailed why).endSession_nvm
  have hupd := (u.verifyFailed why).endSession_upd
  have hses := (u.verifyFailed why).sesRec_endSession
  have hhif := (State.endSession_hif (u.verifyFailed why)).trans (State.verifyFailed_hif _ _)
  rw [State.verifyFailed_upd] at hupd
  generalize (u.verifyFailed why).endSession = c at *
  exact ⟨⟨(hu.taken.then_hif hhif).answered d st 0, congrArg Upd.reason hupd, (State.rbit_of_reg (hregs _ (by decide)) _).trans hevt,
    (hregs _ (by decide)).trans (hcnt.trans (by rw [hu.regs _ (by decide)]))⟩, ⟨congrArg Upd.state hupd, hses⟩,
    congrArg Nvm.bits0 hnvm, congrArg Nvm.bits1 hnvm⟩

/-- A part whose hash is wrong leaves the session in RECEIVING, its pieces to be sent again. -/
theorem verifyPart {s u : State} {d : Desc} (hu : AtHead s u) (hst : s.upd.state = Ses.receiving) (p : Part) {t : State}
    (ht : t = (((u.verifyFailed 0x17).clearBits (fun i => decide (p.offset / 4096 ≤ i) && decide (i < p.stop / 4096))).updUpd
      (fun v => { v with failPart := p.id })).done d Status.crc) :
    VerifyFailed s t d Status.crc 0x17 ∧ t.upd.state = Ses.receiving ∧ t.upd.failPart = p.id
      ∧ (∀ i, i ∈ t.nvm.session.bitmap ↔ i ∈ s.nvm.session.bitmap ∧ ¬(p.offset / 4096 ≤ i ∧ i < p.stop / 4096)) := by
  obtain ⟨hevt, hcnt⟩ := u.verifyFailed_shown 0x17
  have hregs := regsBut_clearBits (u.verifyFailed 0x17) (fun i => decide (p.offset / 4096 ≤ i) && decide (i < p.stop / 4096))
  obtain ⟨e, hnvm⟩ := (u.verifyFailed 0x17).clearBits_nvm (fun i => decide (p.offset / 4096 ≤ i) && decide (i < p.stop / 4096))
  have hupd : ((u.verifyFailed 0x17).clearBits (fun i => decide (p.offset / 4096 ≤ i) && decide (i < p.stop / 4096))).upd
      = { u.upd with reason := 0x17 } :=
    (same_of_foot [.regs, .nvm] (fun _ _ => clearBits_foot _ _ (.refl _)) .upd).trans (State.verifyFailed_upd _ _)
  have hhif : ((u.verifyFailed 0x17).clearBits (fun i => decide (p.offset / 4096 ≤ i) && decide (i < p.stop / 4096))).hif = u.hif :=
    (same_of_foot [.regs, .nvm] (fun _ _ => clearBits_foot _ _ (.refl _)) .hif).trans (State.verifyFailed_hif _ _)
  rw [State.verifyFailed_nvm, hu.nvm] at hnvm
  subst ht
  generalize (u.verifyFailed 0x17).clearBits (fun i => decide (p.offset / 4096 ≤ i) && decide (i < p.stop / 4096)) = c at *
  refine ⟨⟨(hu.taken.then_hif hhif).answered d _ 0, congrArg Upd.reason hupd, ?_, ?_⟩, ?_, rfl, fun i => ?_⟩
  · exact (State.rbit_of_reg (hregs _ (by decide)) _).trans hevt
  · exact (hregs _ (by decide)).trans (hcnt.trans (by rw [hu.regs _ (by decide)]))
  · exact (congrArg Upd.state hupd).trans ((congrArg Upd.state hu.upd).trans hst)
  · show i ∈ c.nvm.session.bitmap ↔ _
    simp only [Nvm.mem_bitmap, hnvm, List.mem_filter, Bool.not_eq_true', Bool.and_eq_false_iff, decide_eq_false_iff_not]
    tauto

/-- With every check passed the session is READY, and flash is as it was. -/
theorem verifyReady {s u : State} {d : Desc} (hu : AtHead s u) (v : U64) {t : State}
    (ht : t = (({ u with upd := { u.upd with reason := 0, failPart := 0xFF, state := Ses.ready } } : State).raise Reg.UPD_EVT 2).done d Status.ok v) :
    t.upd.state = Ses.ready ∧ Answered s t d Status.ok v ∧ t.nvm = s.nvm ∧ t.upd.reason = 0 ∧ t.rbit Reg.UPD_EVT 1 = true := by
  generalize hc : ({ u with upd := { u.upd with reason := 0, failPart := 0xFF, state := Ses.ready } } : State) = c at ht
  have hupd : (c.raise Reg.UPD_EVT 2).upd = c.upd := State.raise_upd _ _ _
  have hnvm : (c.raise Reg.UPD_EVT 2).nvm = c.nvm := State.raise_nvm _ _ _
  have hhif : (c.raise Reg.UPD_EVT 2).hif = c.hif := State.raise_hif _ _ _
  have hevt : (c.raise Reg.UPD_EVT 2).rbit Reg.UPD_EVT 1 = true := State.rbit_raise_self _ _ _ _ (by decide) (by decide)
  rw [ht]
  generalize c.raise Reg.UPD_EVT 2 = w at *
  subst hc
  exact ⟨congrArg Upd.state hupd, (hu.taken.then_hif hhif).answered d _ _, hnvm.trans hu.nvm, congrArg Upd.reason hupd, hevt⟩

/-- Settles O49: the first check that fails gives status and REASON, and READY comes when none does. -/
theorem updateVerify : Obligations.UpdateVerify := by
  unfold Obligations.UpdateVerify
  refine ⟨fun s d hd => ⟨fun hr => ends_dirCmd hd rfl fun u hu => ?bad, fun hr hid => ends_dirCmd hd rfl fun u hu => ?other,
    fun hr hid hst => ends_dirCmd hd rfl fun u hu => ?busy, fun hr hid hst hn => ends_dirCmd hd rfl fun u hu => ?state⟩,
    fun s d g m hd hr hid hst hn hg hm => ?checks⟩
  case bad =>
    rw [State.updVerify, if_pos (by simp [hr])]
    exact ⟨hu.answered d _ _, hu.upd, hu.nvm⟩
  case other =>
    rw [State.updVerify, if_neg (by simp [hr]), if_pos (by simpa [State.sesMatch, hu.nvm] using hid)]
    exact ⟨hu.answered d _ _, hu.upd, hu.nvm⟩
  case busy =>
    rw [State.updVerify, if_neg (by simp [hr]), if_neg (by simp [State.sesMatch, hu.nvm, hid]), if_pos (by rw [hu.upd]; exact hst)]
    exact ⟨hu.answered d _ _, hu.upd, hu.nvm⟩
  case state =>
    rw [State.updVerify, if_neg (by simp [hr]), if_neg (by simp [State.sesMatch, hu.nvm, hid]), if_neg (by rw [hu.upd]; exact hst),
      if_pos (by simpa [hu.upd, hu.nvm] using hn), hu.nvm]
    exact ⟨hu.answered d _ _, hu.upd, hu.nvm⟩
  case checks =>
    have hcheck : ∀ u, AtHead s u → Checkable u d := fun u hu =>
      ⟨hr, by rw [hu.nvm]; exact hid, by rw [hu.upd]; exact hst, by rw [hu.nvm]; exact hn⟩
    have hman : ∀ u, AtHead s u → (u.nvm.slotOf u.nvm.session.target).manifest = m := fun u hu => by rw [hu.nvm, hm, hg]; rfl
    have hrev : ∀ u, AtHead s u → u.rfld Reg.HW_REV 0 16 = s.rfld Reg.HW_REV 0 16 := fun u hu =>
      State.rfld_of_reg (hu.regs _ (by decide)) _ _
    have hends : ∀ st why, (∀ u, AtHead s u → u.checkManifest m = some (why, st)) →
        Ends .updVerify s (fun t => VerifyEnded s t d st why) := fun st why h => ends_dirCmd hd rfl fun u hu => by
      rw [(hcheck u hu).manifest_bad (why := why) (st := st) ((hman u hu).symm ▸ h u hu)]
      exact verifyEnded hu st why
    have hnone : ManifestRight s m → ∀ u, AtHead s u → u.checkManifest m = none := fun h u hu =>
      (State.checkManifest_laid h.format (by rw [hu.nvm]; exact h.key) h.authentic (by rw [hrev u hu]; exact h.hwRev)
        (by rw [hu.nvm]; exact h.layout)).1 (by rw [hu.nvm, hu.upd]; exact h.settings)
    refine ⟨fun hf => hends _ _ fun u hu => State.checkManifest_format hf,
      fun hf hk => hends _ _ fun u hu => (State.checkManifest_formatted hf).trans (if_pos (not_keyOk (by rwa [hu.nvm]))),
      fun hf hk hs => hends _ _ fun u hu => (State.checkManifest_keyed hf (by rwa [hu.nvm])).trans (if_pos (by rw [hs]; rfl)),
      fun hf hk hs hw => hends _ _ fun u hu => (State.checkManifest_signed hf (by rwa [hu.nvm]) hs).trans (if_pos (by rwa [hrev u hu])),
      fun hf hk hs hw hl => hends _ _ fun u hu => State.checkManifest_layout hf (by rwa [hu.nvm]) hs (by rwa [hrev u hu]) (by rwa [hu.nvm]),
      fun hf hk hs hw hl hx => hends _ _ fun u hu => (State.checkManifest_laid hf (by rwa [hu.nvm]) hs (by rwa [hrev u hu])
        (by rwa [hu.nvm])).2 (by rwa [hu.nvm, hu.upd]), ?_, ?_⟩
    · intro k p hright hk hp hbad hok
      subst hm hp
      refine ends_dirCmd hd rfl fun u hu => ?_
      have hslot : u.nvm.slotOf u.nvm.session.target = g := by rw [hu.nvm, hg]
      have hpart := ImageSlot.badPart_eq_some hk hbad hok
      exact verifyPart hu hst _ ((hcheck u hu).part_bad ((hman u hu).symm ▸ hnone hright u hu) (hslot.symm ▸ hpart))
    · intro hright hok
      subst hm
      refine ends_dirCmd hd rfl fun u hu => ?_
      have hslot : u.nvm.slotOf u.nvm.session.target = g := by rw [hu.nvm, hg]
      rw [(hcheck u hu).right ((hman u hu).symm ▸ hnone hright u hu) (hslot.symm ▸ ImageSlot.badPart_eq_none hok), hslot]
      exact verifyReady hu _ rfl

end Sys2Proof.Machine

/-! PROOFS. UPD_ACTIVATE where a bus-off request waits on a channel: the pause completes the request behind the completions that have been written (R124, R376, R404). -/

namespace Sys2Proof.Machine

/-! ## The completions that the pause leaves -/

/-- A channel that goes off the bus adds at most a completion to those that are ready. -/
theorem State.canOff_ready (s : State) (n : Nat) : s.hif.ready <+: (s.canOff n).hif.ready := by
  unfold State.canOff
  dsimp only
  split
  · exact List.prefix_rfl
  · exact List.prefix_append _ _

/-- A BUS_OFF that waits for a channel completes as the channel goes off the bus (R404). -/
theorem State.canOff_completes (s : State) (n : Nat) {x : U32 × Bool} (h : (s.canCh n).busOffWait = some x) : (s.canOff n).hif.ready ≠ [] := by
  obtain ⟨tag, irq⟩ := x
  have hwait : (((((s.setCanBus n 0).setCanStat n CanStat.integrating false).setCanStat n CanStat.recovering false).canQuiet n).canCh n).busOffWait
      = some (tag, irq) := h
  unfold State.canOff
  dsimp only
  rw [hwait]
  exact List.append_ne_nil_of_right_ne_nil _ (List.cons_ne_nil _ _)

/-- What the pause does to one channel. -/
def State.pauseOne (s : State) (n : Nat) : State := if (s.canCh n).slots.any TxSlot.inTx then s else s.canOff n

theorem State.pauseOne_ready (s : State) (n : Nat) : s.hif.ready <+: (s.pauseOne n).hif.ready := by
  unfold State.pauseOne
  split
  · exact List.prefix_rfl
  · exact s.canOff_ready n

theorem State.pauses_ready (l : List Nat) (s : State) : s.hif.ready <+: (l.foldl State.pauseOne s).hif.ready := by
  induction l generalizing s with
  | nil => exact List.prefix_rfl
  | cons n l ih => exact (s.pauseOne_ready n).trans (ih _)

/-- The pause takes channel 0 off the bus first, where it has no frame in progress. -/
theorem State.canPause_completes (s : State) {x : U32 × Bool} (hwait : (s.canCh 0).busOffWait = some x)
    (hfree : (s.canCh 0).slots.any TxSlot.inTx = false) : s.canPause.hif.ready ≠ [] := by
  have hall : s.canPause = [1, 2, 3, 4, 5, 6, 7].foldl State.pauseOne (s.pauseOne 0) := by
    have hrange : List.range 8 = 0 :: [1, 2, 3, 4, 5, 6, 7] := by decide
    show (List.range 8).foldl State.pauseOne s = _
    rw [hrange, List.foldl_cons]
  have hfirst : s.pauseOne 0 = s.canOff 0 := if_neg (by rw [hfree]; decide)
  have hready := State.pauses_ready [1, 2, 3, 4, 5, 6, 7] (s.canOff 0)
  rw [hall, hfirst]
  intro hnil
  rw [hnil] at hready
  exact s.canOff_completes 0 hwait (List.prefix_nil.mp hready)

/-- Whatever has been written of the completions, that of the request is ready after the pause has begun. -/
theorem State.updActivate_ready (s : State) {d : Desc} {x : U32 × Bool} (hok : d.activateOk = true) (hses : s.sesMatch d = true)
    (hst : s.upd.state = Ses.ready) (hwait : (s.canCh 0).busOffWait = some x) (hfree : (s.canCh 0).slots.any TxSlot.inTx = false) :
    (s.updActivate d).hif.ready ≠ [] := by
  unfold State.updActivate
  extract_lets m v w w'
  rw [if_neg (by simp [hok]), if_neg (by simp [hses]), if_neg (by simp [hst])]
  have hclaim : s.extendWatchdogs.claimGone.can = s.can :=
    same_of_foot [.regs, .skink, .dio] (fun _ _ => claimGone_foot _ (extendWatchdogs_foot _ (.refl s))) .can
  have hcopy : (s.extendWatchdogs.claimGone.copyDone true).can = s.extendWatchdogs.claimGone.can :=
    same_of_foot [.regs, .inlet, .aeA, .aeB, .outlet, .skink, .gecko] (fun _ _ => copyDone_foot _ _ (.refl _)) .can
  have hv : v.can = s.can := hcopy.trans hclaim
  clear_value v
  have hl : Zone.same .can v ((v.writeReady.setMgmt Node.activating).lanesEnd Lane.cut) :=
    same_of_foot [.regs, .hif, .fe] (fun _ _ => lanesEnd_foot _ _ (setMgmt_foot _ _ (writeReady_foot _ (.refl v)))) .can
  change _ = v.can at hl
  have hch : (((v.writeReady.setMgmt Node.activating).lanesEnd Lane.cut).canCh 0) = s.canCh 0 := by rw [State.canCh, hl, hv]; rfl
  have hpause := State.canPause_completes _ ((congrArg Can.busOffWait hch).trans hwait) ((congrArg (fun c : Can => c.slots.any TxSlot.inTx) hch).trans hfree)
  have hend : (((w'.trialRecord (if m = 0 then 30 else m)).setSes Ses.activating).hif
      = ((v.writeReady.setMgmt Node.activating).lanesEnd Lane.cut).canPause.hif) :=
    same_of_foot [.regs, .nvm, .upd, .gecko, .inlet] (fun _ _ => setSes_foot _ _ (trialRecord_foot _ _ (updUpd_foot _ _ (beginHold_foot _
      (unsave_foot _ (.refl _)))))) .hif
  rw [hend]
  exact hpause

/-- So no UPD_ACTIVATE that goes into the pause leaves nothing ready on such a node. -/
theorem State.updActivate_never {s : State} {d : Desc} {x : U32 × Bool} (hd : s.Heads 0x63 d) (hans : s.canAnswer = true)
    (hok : d.activateOk = true) (hses : s.sesMatch d = true) (hst : s.upd.state = Ses.ready) (hwait : (s.canCh 0).busOffWait = some x)
    (hfree : (s.canCh 0).slots.any TxSlot.inTx = false) : ¬ Ends .updActivate s (fun t => t.hif.ready = []) := by
  rintro ⟨t, ht, hnone⟩
  have hgo : s.fresh.activateWaits = false := by
    rw [State.activateWaits, (State.heads_fresh hd).1]
    simp [show s.fresh.canAnswer = true from hans]
  have hrun : exec .updActivate s = .next ((s.fresh.takeHead 0).updActivate d) :=
    congrArg _ ((if_neg (by rw [hgo]; decide)).trans (State.dirCmd_of_heads (State.heads_fresh hd) _))
  have hu := s.atHead
  have hcan : (s.fresh.takeHead 0).canCh 0 = s.canCh 0 := by
    rw [State.canCh, show (s.fresh.takeHead 0).can = s.can from hu.parts .can (by decide)]
    rfl
  have hready := (s.fresh.takeHead 0).updActivate_ready hok (by rw [State.sesMatch, hu.nvm]; exact hses) (by rw [hu.upd]; exact hst)
    ((congrArg Can.busOffWait hcan).trans hwait) ((congrArg (fun c : Can => c.slots.any TxSlot.inTx) hcan).trans hfree)
  rw [hrun] at ht
  cases ht
  exact hready hnone

/-! ## Such a node -/

/-- UPD_ACTIVATE of session 0, with a trial time of 30 minutes. -/
def activateBytes : List Byte := [0x63] ++ zeros 63

/-- A node in RUN with a verified session, credit for a completion, and a BUS_OFF of channel 0 that waits. -/
def activating : State := { State.reset with
  regs := [(Reg.MGMT_STATE, 4), (Reg.RING_STATUS 1, 1), (Reg.RING_SIZE 1, 4)]
  hif := { linkUp := true, fetched := [(0, activateBytes)] }
  can := [(0, { busOffWait := some (0, false) })]
  upd := { state := Ses.ready } }

theorem activating_heads : activating.Heads 0x63 (Desc.ofBytes activateBytes) := by
  constructor
  · decide
  · decide

theorem activating_session : activating.nvm.session.id = 0 := by
  unfold Nvm.session Nvm.sesRec
  split <;> rfl

/-- Refutes O50: behind an UPD_ACTIVATE with credit for its completion, a BUS_OFF that waited for its channel is ready and not written. -/
theorem not_activationAndTrial : ¬ Obligations.ActivationAndTrial := by
  unfold Obligations.ActivationAndTrial
  intro h
  have hses : activating.sesMatch (Desc.ofBytes activateBytes) = true := by
    rw [State.sesMatch, activating_session]
    decide
  obtain ⟨t, ht, hp⟩ := (h.1 activating (Desc.ofBytes activateBytes) activating_heads (by decide) (by decide) hses rfl).2 (by decide)
  obtain ⟨-, -, -, -, -, -, -, -, -, -, -, -, hnone⟩ := hp
  exact State.updActivate_never activating_heads (by decide) (by decide) hses rfl (x := (0, false)) (by decide) (by decide)
    ⟨t, ht, (hnone (Nat.zero_le _)).1⟩

end Sys2Proof.Machine

/-! PROOFS. The credit of a node-to-host ring (R109, R111). -/

namespace Sys2Proof.Machine

section

variable (s : State)

/-! ## Credit (R111) -/

/-- What a node-to-host ring's credit depends on. -/
structure SameRing (s t : State) (n : Nat) : Prop where
  status : t.reg (Reg.RING_STATUS n) = s.reg (Reg.RING_STATUS n)
  size : t.reg (Reg.RING_SIZE n) = s.reg (Reg.RING_SIZE n)
  mgmt : t.mgmt = s.mgmt
  hostIdx : t.hif.hostIdx = s.hif.hostIdx
  link : t.hif.linkUp = s.hif.linkUp

variable {s}

theorem SameRing.of_regs {t : State} {n : Nat} {os : List Off} (h : RegsBut s t os) (hif : t.hif = s.hif)
    (hst : Reg.RING_STATUS n ∉ os) (hsz : Reg.RING_SIZE n ∉ os) (hm : Reg.MGMT_STATE ∉ os) : SameRing s t n :=
  ⟨h _ hst, h _ hsz, State.mgmt_congr (h _ hm), by rw [hif], by rw [hif]⟩

/-- A ring's credit, from its index. -/
theorem SameRing.credit {t : State} {n : Nat} (h : SameRing s t n) : t.ringCredit n =
    if s.ringActive n && s.mgmt != Node.activating && s.hif.linkUp
    then s.ringSize n - (t.reg (Reg.RING_NODE_IDX n) - s.hostIdx n).toNat else 0 := by
  obtain ⟨hst, hsz, hm, hidx, hl⟩ := h
  simp only [State.ringCredit, State.ringActive, State.ringSize, State.ringUsed, State.hostIdx, State.rbit_of_reg hst, State.rfld_of_reg hsz,
    hm, hidx, hl]
  rfl

theorem SameRing.credit_same {t : State} {n : Nat} (h : SameRing s t n) (hi : t.reg (Reg.RING_NODE_IDX n) = s.reg (Reg.RING_NODE_IDX n)) :
    t.ringCredit n = s.ringCredit n := by rw [h.credit, hi]; rfl

/-- An entry offered to a lossy ring that has credit is written. -/
theorem State.postLossy_posts {n : Nat} {data : List Byte} (h : 0 < s.ringCredit n) : s.postLossy n data = s.postEntry n data := if_pos h

theorem State.postLossy_lost {n : Nat} {data : List Byte} (h : s.ringCredit n = 0) : s.postLossy n data = s.ringLoss n :=
  if_neg (by rw [h]; decide)

end

end Sys2Proof.Machine

/-! PROOFS. The settings journal and base generations, the digest's rewrite, and telemetry (R91, R499-R503, R533). -/

namespace Sys2Proof.Machine

/-! ## Regions of the settings -/

theorem Nvm.region_congr {v w : Nvm} (h0 : v.set0 = w.set0) (h1 : v.set1 = w.set1) (k : Nat) : v.region k = w.region k := by
  rw [Nvm.region, Nvm.region, h0, h1]

section

variable (s : State)

theorem State.region_updRegion (k : Nat) (f : Settings → Settings) : (s.updRegion k f).nvm.region k = f (s.nvm.region k) := by
  unfold State.updRegion State.updNvm Nvm.region
  dsimp only
  split <;> rfl

/-- The region in use, where a step changes that region alone. -/
theorem State.active_updRegion (f : Settings → Settings) {u : State} (hu : u.upd = s.upd) :
    (u.updRegion s.upd.runSettings f).active = f u.active := by
  have h := u.region_updRegion s.upd.runSettings f
  rw [State.active, State.active, show (u.updRegion s.upd.runSettings f).upd = u.upd from rfl, hu]
  exact h

theorem State.spare_updRegion (k : Nat) (f : Settings → Settings) : (s.updRegion k f).nvm.spare = s.nvm.spare := by
  unfold State.updRegion State.updNvm
  dsimp only
  split <;> rfl

theorem satAdd_zero (v : U32) : satAdd v 0 = v := by
  have := v.isLt
  rw [satAdd, if_pos (by simpa using this)]
  simp

/-! ## Sectors that fail (R502) -/

/-- What the failing of sectors changes: the spare pool, the count, and SPARE_LOW where the pool is used up. -/
structure SectorsFailed (s t : State) (n : Nat) : Prop where
  nvm : t.nvm = { s.nvm with spare := s.nvm.spare - n }
  upd : t.upd = s.upd
  gecko : t.gecko = s.gecko
  tarn : t.tarn = s.tarn
  regs : RegsBut s t [Reg.HK_SET_WRITE_FAIL_CNT, Reg.HK_EVT, Reg.MSIX_PBA 0]
  count : t.reg Reg.HK_SET_WRITE_FAIL_CNT = satAdd (s.reg Reg.HK_SET_WRITE_FAIL_CNT) (min n s.nvm.spare)
  low : 0 < n → s.nvm.spare ≤ n → t.rbit Reg.HK_EVT 2 = true

theorem State.sectorsFail_failed (n : Nat) : SectorsFailed s (s.sectorsFail n).1 n ∧ (s.sectorsFail n).2 = decide (n ≤ s.nvm.spare) := by
  unfold State.sectorsFail
  by_cases hn : n = 0
  · rw [if_pos hn]
    subst hn
    refine ⟨⟨rfl, rfl, rfl, rfl, .refl s _, ?_, fun h => absurd h (by decide)⟩, by simp⟩
    rw [Nat.zero_min, satAdd_zero]
  · rw [if_neg hn]
    extract_lets left u
    have hu : u.nvm = { s.nvm with spare := s.nvm.spare - n } := rfl
    have hregs : RegsBut s u [Reg.HK_SET_WRITE_FAIL_CNT, Reg.HK_EVT, Reg.MSIX_PBA 0] :=
      (regsBut_setReg (s.updNvm (fun v => { v with spare := left - n })) _ _).mono (by simp)
    have hcnt : u.reg Reg.HK_SET_WRITE_FAIL_CNT = satAdd (s.reg Reg.HK_SET_WRITE_FAIL_CNT) (min n s.nvm.spare) :=
      (State.reg_setReg _ _ _ _).trans (if_pos rfl)
    have hsame : u.upd = s.upd ∧ u.gecko = s.gecko ∧ u.tarn = s.tarn := ⟨rfl, rfl, rfl⟩
    clear_value u
    refine ⟨?_, rfl⟩
    dsimp only
    split
    · refine ⟨(State.raise_nvm _ _ _).trans hu, (State.raise_upd _ _ _).trans hsame.1, (State.raise_gecko _ _ _).trans hsame.2.1,
        (State.raise_tarn _ _ _).trans hsame.2.2, hregs.trans ((regsBut_raise _ _ _).mono (by simp)), ?_,
        fun _ _ => State.rbit_raise_self _ _ _ _ (by decide) (by decide)⟩
      rw [regsBut_raise u _ _ _ (by decide), hcnt]
    · next hlt => exact ⟨hu, hsame.1, hsame.2.1, hsame.2.2, hregs, hcnt, fun _ h => absurd h hlt⟩

/-! ## The journal (R500) -/

/-- The sectors that a ring passes are erased, and its position moves on. -/
theorem State.ringErase_nvm (k n : Nat) : ∃ e, (s.ringErase k n).nvm
    = ({ s with nvm := { s.nvm with erases := e } }.updRegion k (fun t => { t with pos := ((s.nvm.region k).pos + n) % journalSize })).nvm := by
  unfold State.ringErase
  extract_lets pos first u
  have hu : ∃ e, u.nvm = { s.nvm with erases := e } := by
    have hgen : ∀ (l : List Nat) (s : State), ∃ e, (l.foldl (fun s i => s.countErase (regionSector k + i % 1024)) s).nvm
        = { s.nvm with erases := e } := by
      intro l
      induction l with
      | nil => exact fun s => ⟨_, rfl⟩
      | cons i l ih =>
        intro s
        obtain ⟨e, he⟩ := s.countErase_nvm (regionSector k + i % 1024)
        obtain ⟨f, hf⟩ := ih (s.countErase (regionSector k + i % 1024))
        exact ⟨f, hf.trans (by rw [he])⟩
    exact hgen _ s
  obtain ⟨e, he⟩ := hu
  exact ⟨e, by unfold State.updRegion State.updNvm; dsimp only; rw [he]⟩

theorem State.startBase_kept : s.startBase.nvm = s.nvm ∧ s.startBase.upd = s.upd ∧ s.startBase.gecko.journalQ = s.gecko.journalQ
    ∧ ∀ os, RegsBut s s.startBase os := by
  refine ⟨same_of_foot [.gecko] (fun _ _ => startBase_foot _ (.refl s)) .nvm, same_of_foot [.gecko] (fun _ _ => startBase_foot _ (.refl s)) .upd, ?_,
    fun os => .of_foot [.gecko] (fun _ _ => startBase_foot _ (.refl s)) os⟩
  unfold State.startBase
  dsimp only
  split <;> rfl

theorem State.ringErase_foot_same (k n : Nat) : (s.ringErase k n).upd = s.upd ∧ (s.ringErase k n).gecko = s.gecko :=
  ⟨same_of_foot [.regs, .nvm] (fun _ _ => ringErase_foot _ _ _ (.refl s)) .upd,
    same_of_foot [.regs, .nvm] (fun _ _ => ringErase_foot _ _ _ (.refl s)) .gecko⟩

/-- What a journal entry that is written leaves. -/
structure JournalWritten (s t : State) (e : JEntry) (l : List JEntry) (bad : Nat) : Prop where
  journal : t.active.journal = s.active.journal.takeWhile JEntry.ok ++ [e]
  queue : t.gecko.journalQ = l
  gens : t.active.gens = s.active.gens
  pos : t.active.pos = (s.active.pos + e.size) % journalSize
  spare : t.nvm.spare = s.nvm.spare - bad
  count : t.reg Reg.HK_SET_WRITE_FAIL_CNT = satAdd (s.reg Reg.HK_SET_WRITE_FAIL_CNT) (min bad s.nvm.spare)

theorem regsBut_ringErase (k n : Nat) : RegsBut s (s.ringErase k n) [Reg.HK_EVT, Reg.MSIX_PBA 0] := by
  unfold State.ringErase
  extract_lets pos first u
  have hgen : ∀ (l : List Nat) (s : State),
      RegsBut s (l.foldl (fun s i => s.countErase (regionSector k + i % 1024)) s) [Reg.HK_EVT, Reg.MSIX_PBA 0] := by
    intro l
    induction l with
    | nil => exact fun s => .refl s _
    | cons i l ih => exact fun s => (regsBut_countErase s _).trans (ih _)
  have hu : RegsBut s u [Reg.HK_EVT, Reg.MSIX_PBA 0] := hgen _ s
  exact hu.trans (.of_regs rfl rfl _)

variable {s}

/-- The entry goes behind those that are whole, in the sectors that the ring comes to. -/
theorem State.journalPut_written {u : State} {e : JEntry} {l : List JEntry} {bad : Nat} (hfail : SectorsFailed { s with gecko := { s.gecko with journalQ := l } } u bad) :
    JournalWritten s ((u.ringErase u.upd.runSettings e.size).updRegion u.upd.runSettings
      (fun t => { t with journal := t.journal.takeWhile JEntry.ok ++ [e] })) e l bad := by
  obtain ⟨f, hf⟩ := u.ringErase_nvm u.upd.runSettings e.size
  obtain ⟨hupd, hgecko⟩ := u.ringErase_foot_same u.upd.runSettings e.size
  have hregs := regsBut_ringErase u u.upd.runSettings e.size
  have hreg : (u.ringErase u.upd.runSettings e.size).active
      = { s.active with pos := (s.active.pos + e.size) % journalSize } := by
    have hself := State.region_updRegion { u with nvm := { u.nvm with erases := f } } u.upd.runSettings
      (fun t => { t with pos := ((u.nvm.region u.upd.runSettings).pos + e.size) % journalSize })
    rw [State.active, hupd, hf, hself]
    have hsame : u.nvm.region u.upd.runSettings = s.active := by
      rw [State.active, hfail.upd]
      exact Nvm.region_congr (by rw [hfail.nvm]) (by rw [hfail.nvm]) _
    refine (show _ = ({ u.nvm.region u.upd.runSettings with
      pos := ((u.nvm.region u.upd.runSettings).pos + e.size) % journalSize } : Settings) from rfl).trans ?_
    rw [hsame]
  have hspare : (u.ringErase u.upd.runSettings e.size).nvm.spare = s.nvm.spare - bad := by
    rw [hf, State.spare_updRegion, hfail.nvm]
  have hact : ((u.ringErase u.upd.runSettings e.size).updRegion u.upd.runSettings
      (fun t => { t with journal := t.journal.takeWhile JEntry.ok ++ [e] })).active
      = { s.active with pos := (s.active.pos + e.size) % journalSize, journal := s.active.journal.takeWhile JEntry.ok ++ [e] } := by
    rw [u.active_updRegion _ hupd, hreg]
  refine ⟨by rw [hact], ?_, by rw [hact], by rw [hact], (State.spare_updRegion _ _ _).trans hspare, ?_⟩
  · exact (congrArg Gecko.journalQ hgecko).trans (congrArg Gecko.journalQ hfail.gecko)
  · exact (hregs _ (by decide)).trans hfail.count

theorem JournalWritten.startBase {t : State} {e : JEntry} {l : List JEntry} {bad : Nat} (h : JournalWritten s t e l bad) :
    JournalWritten s t.startBase e l bad := by
  obtain ⟨hnvm, hupd, hq, hregs⟩ := t.startBase_kept
  have hact : t.startBase.active = t.active := by rw [State.active, State.active, hnvm, hupd]
  exact ⟨by rw [hact]; exact h.journal, hq.trans h.queue, by rw [hact]; exact h.gens, by rw [hact]; exact h.pos, by rw [hnvm]; exact h.spare,
    ((hregs []).all _).trans h.count⟩

/-- An entry for which the ring has room, and the spare pool a sector where one fails, is written. -/
theorem State.journalWrite_written {e : JEntry} {l : List JEntry} {b : Bool} (hq : s.gecko.journalQ = e :: l)
    (hfit : s.active.fill + e.size ≤ journalSize) (hspare : (if b then 1 else 0) ≤ s.nvm.spare) :
    JournalWritten s (s.journalWrite b) e l (if b then 1 else 0) := by
  unfold State.journalWrite
  rw [hq]
  dsimp only
  generalize (if b = true then 1 else 0) = c at hspare ⊢
  obtain ⟨hfail, hok⟩ := State.sectorsFail_failed { s with gecko := { s.gecko with journalQ := l } } c
  have hok' : (State.sectorsFail { s with gecko := { s.gecko with journalQ := l } } c).2 = true := hok.trans (decide_eq_true hspare)
  rw [if_neg (Nat.not_lt.mpr hfit), hok', if_neg (by decide)]
  have hput := State.journalPut_written (e := e) hfail
  split
  · exact hput.startBase
  · exact hput

/-! ## Base generations (R501, R502) -/

theorem State.startBase_new (h : s.gecko.saving = none) : ∃ g : Generation,
    s.startBase = { s with gecko := { s.gecko with saving := some g, saveMark := s.active.journal.length } }
    ∧ g.tarn = s.cfgTarn ∧ g.rws = s.rwsList ∧ g.valid = true ∧ g.epoch = BitVec.ofNat 16 s.evalEpoch ∧ g.format = s.active.format := by
  have hne : ∀ g : Generation, s.gecko.saving ≠ some g := fun g => by
    rw [h]
    exact nofun
  unfold State.startBase
  extract_lets g₀ g
  have htarn : g.tarn = g₀.tarn := by simp only [g]
  have hrws : g.rws = g₀.rws := by simp only [g]
  have hsha : g.sha = sha256 g₀.body := by simp only [g]
  refine ⟨g, if_neg (hne g), htarn.trans (by simp only [g₀]), hrws.trans (by simp only [g₀]), ?_, by simp only [g, g₀], by simp only [g, g₀]⟩
  rw [Generation.valid, hsha, Generation.body, Generation.body, htarn, hrws]
  exact beq_self_eq_true _

/-- The sectors of a generation that is due are erased, and some of them may fail. -/
theorem State.baseSectors_failed (s : State) (first n : Nat) :
    ∃ u : State, SectorsFailed u (s.baseSectors first n).1 (Config.badSectors s.free) ∧ (s.baseSectors first n).2 = decide (Config.badSectors s.free ≤ s.nvm.spare)
      ∧ (∃ e, u.nvm = { s.nvm with erases := e }) ∧ u.upd = s.upd ∧ u.gecko = s.gecko ∧ RegsBut s u [Reg.HK_EVT, Reg.MSIX_PBA 0] := by
  obtain ⟨e, he⟩ := s.countErases_nvm first n
  have hfree : (s.countErases first n).free = s.free := same_of_foot [.regs, .nvm] (fun _ _ => countErases_foot _ _ _ (.refl s)) .free
  have hsect := State.sectorsFail_failed (s.countErases first n).draw.2 (Config.badSectors s.free)
  have hrun : s.baseSectors first n = (s.countErases first n).draw.2.sectorsFail (Config.badSectors s.free) := by
    show (s.countErases first n).draw.2.sectorsFail (Config.badSectors (s.countErases first n).free) = _
    rw [hfree]
  rw [hrun]
  refine ⟨(s.countErases first n).draw.2, hsect.1, hsect.2.trans ?_, ⟨e, he⟩,
    same_of_foot [.regs, .nvm, .free] (fun _ _ => draw_foot _ (countErases_foot _ _ _ (.refl s))) .upd,
    same_of_foot [.regs, .nvm, .free] (fun _ _ => draw_foot _ (countErases_foot _ _ _ (.refl s))) .gecko,
    regsBut_countErases s first n⟩
  show decide (_ ≤ (s.countErases first n).nvm.spare) = _
  rw [he]

/-! ## Telemetry (R503) -/

/-- The measurements of a telemetry period. -/
def State.measured (s : State) (t : TelemEnv) : State :=
  (((((s.setReg Reg.HK_LV_A (t.lvA.zeroExtend 32)).setReg Reg.HK_LV_B (t.lvB.zeroExtend 32)).setReg Reg.HK_DIE_TEMP
    (t.dieTemp.zeroExtend 32)).setReg Reg.HK_BOARD_TEMP (t.boardTemp.zeroExtend 32)).setReg Reg.HK_GECKO_LOAD
    (t.geckoLoad.zeroExtend 32)).setRegBit Reg.HK_STATUS 4 (decide (700 < sext 16 t.boardTemp.toNat))

/-- The registers that it writes. -/
abbrev measuredRegs : List Off := [Reg.HK_STATUS, Reg.HK_LV_A, Reg.HK_LV_B, Reg.HK_DIE_TEMP, Reg.HK_BOARD_TEMP, Reg.HK_GECKO_LOAD]

/-- The record that is written, and the counts that start again. -/
def State.reported (s : State) (t : TelemEnv) : State :=
  (((s.measured t).updGecko (fun g => { g with telemSeq := g.telemSeq + 1 })).setReg Reg.HK_TELEM_SEQ (s.gecko.telemSeq + 1)).updGecko
    (fun g => { g with ueSince := 0, ceSince := 0, lossSince := 0, overrunSince := 0, lagSince := 0, waitClocks := 0 })

theorem regsBut_measured (t : TelemEnv) : RegsBut s (s.measured t) [Reg.HK_STATUS, Reg.HK_LV_A, Reg.HK_LV_B, Reg.HK_DIE_TEMP, Reg.HK_BOARD_TEMP, Reg.HK_GECKO_LOAD] := by
  intro o ho
  simp only [List.mem_cons, List.not_mem_nil, or_false, not_or] at ho
  simp [State.measured, ho]

/-- What the measurements show. -/
theorem State.measured_regs (t : TelemEnv) : (s.measured t).rbit Reg.HK_STATUS 4 = decide (700 < sext 16 t.boardTemp.toNat)
    ∧ (s.measured t).reg Reg.HK_BOARD_TEMP = t.boardTemp.zeroExtend 32 ∧ (s.measured t).reg Reg.HK_DIE_TEMP = t.dieTemp.zeroExtend 32
    ∧ (s.measured t).reg Reg.HK_LV_A = t.lvA.zeroExtend 32 ∧ (s.measured t).reg Reg.HK_LV_B = t.lvB.zeroExtend 32 := by
  refine ⟨State.rbit_setRegBit_self _ _ _ _ (by decide), ?_, ?_, ?_, ?_⟩ <;> simp [State.measured]

/-- A telemetry period with EN clear only measures. -/
theorem State.telemetry_off {t : TelemEnv} (hg : s.geckoRuns = true) (hen : s.rbit Reg.HK_TELEM_CTL 0 = false) : s.telemetry t = s.measured t := by
  have hen' : (s.measured t).rbit Reg.HK_TELEM_CTL 0 = false := hen ▸ by simp [State.measured]
  refine (if_neg (by rw [hg]; decide)).trans (if_pos ?_)
  exact (congrArg (!·) hen').trans rfl

/-- With EN set the record is offered to ring 30. -/
theorem State.telemetry_on {t : TelemEnv} (hg : s.geckoRuns = true) (hen : s.rbit Reg.HK_TELEM_CTL 0 = true) : ∃ w : State,
    RegsBut s w (Reg.HK_TELEM_SEQ :: measuredRegs) ∧ PartsBut s w [.regs, .gecko] ∧ w.gecko.telemSeq = s.gecko.telemSeq + 1
    ∧ w.gecko.waitClocks = s.gecko.waitClocks ∧ w.reg Reg.HK_LV_A = t.lvA.zeroExtend 32 ∧ w.reg Reg.HK_LV_B = t.lvB.zeroExtend 32
    ∧ s.telemetry t = (if (s.reported t).ringCredit 30 = 0 then (s.reported t).raise Reg.HK_EVT 0x10 else s.reported t).postLossy 30
        (w.telemRecord t (decide (700 < sext 16 t.boardTemp.toNat))) := by
  have hen' : (s.measured t).rbit Reg.HK_TELEM_CTL 0 = true := hen ▸ by simp [State.measured]
  refine ⟨((s.measured t).updGecko (fun g => { g with telemSeq := g.telemSeq + 1 })).setReg Reg.HK_TELEM_SEQ (s.gecko.telemSeq + 1), ?_, ?_, rfl, rfl,
    ?_, ?_, (if_neg (by rw [hg]; decide)).trans ((if_neg (fun h => absurd ((congrArg (!·) hen').symm.trans h) (by decide))).trans rfl)⟩
  · exact ((regsBut_measured t).mono (by simp)).trans ((regsBut_setReg _ _ _).mono (by simp))
  · exact fun z hz => same_of_foot [.regs, .gecko] (fun _ _ => setReg_foot _ _ _ (updGecko_foot _ _ (setRegBit_foot _ _ _ _ (setReg_foot _ _ _
      (setReg_foot _ _ _ (setReg_foot _ _ _ (setReg_foot _ _ _ (setReg_foot _ _ _ (.refl s))))))))) z hz
  · rw [State.reg_setReg, if_neg (by decide)]
    exact (s.measured_regs t).2.2.2.1
  · rw [State.reg_setReg, if_neg (by decide)]
    exact (s.measured_regs t).2.2.2.2

/-! ### Fields of the record (Table 18-4) -/

theorem slice_append_skip (a b : List Byte) (o n : Nat) (h : a.length ≤ o) : slice (a ++ b) o n = slice b (o - a.length) n := by
  unfold slice
  rw [List.drop_append, List.drop_eq_nil_of_le h, List.nil_append]

theorem slice_append_head (a b : List Byte) (n : Nat) (h : a.length = n) : slice (a ++ b) 0 n = a := by
  unfold slice
  rw [List.drop_zero, ← h, List.take_left]

theorem length_satBytes (n x : Nat) : (satBytes n x).length = n := length_leBytes _ _

theorem leNat_u32 (v : U32) : leNat (leBytes 4 v.toNat) = v.toNat := by
  rw [leNat_leBytes]
  exact Nat.mod_eq_of_lt v.isLt

theorem leNat_u16 (v : U16) : leNat (leBytes 2 v.toNat) = v.toNat := by
  rw [leNat_leBytes]
  exact Nat.mod_eq_of_lt v.isLt

theorem leNat_satBytes (x : Nat) : leNat (satBytes 4 x) = min x (2 ^ 32 - 1) := by
  rw [satBytes, leNat_leBytes]
  exact Nat.mod_eq_of_lt (by omega)

theorem rfld_low {w : State} {o : Off} {v : U16} (h : w.reg o = v.zeroExtend 32) : w.rfld o 0 16 = v.toNat := by
  rw [State.rfld, h, fld]
  have := v.isLt
  simp only [BitVec.truncate_eq_setWidth, BitVec.toNat_setWidth, Nat.shiftRight_zero]
  omega

theorem State.telemRecord_fields (w : State) (t : TelemEnv) (hot : Bool) :
    (w.telemRecord t hot).length = 64 ∧ slice (w.telemRecord t hot) 0 8 = leBytes 8 w.now.toNat
    ∧ leAt (w.telemRecord t hot) 8 4 = w.gecko.telemSeq.toNat ∧ leAt (w.telemRecord t hot) 0xC 2 = t.dieTemp.toNat
    ∧ leAt (w.telemRecord t hot) 0xE 2 = t.boardTemp.toNat ∧ leAt (w.telemRecord t hot) 0x10 2 = w.rfld Reg.HK_LV_A 0 16
    ∧ leAt (w.telemRecord t hot) 0x12 2 = w.rfld Reg.HK_LV_B 0 16
    ∧ leAt (w.telemRecord t hot) 0x38 4 = min (w.gecko.waitClocks / 1024) (2 ^ 32 - 1) := by
  have hfld : ∀ o, leNat (leBytes 2 (w.rfld o 0 16)) = w.rfld o 0 16 := fun o => by
    rw [leNat_leBytes]
    exact Nat.mod_eq_of_lt (fld_lt _ _ _)
  unfold State.telemRecord leAt
  dsimp only
  refine ⟨?_, ?_, ?_, ?_, ?_, ?_, ?_, ?_⟩
  · simp only [List.length_append, length_leBytes, length_satBytes, List.length_cons, List.length_nil]
  · simp only [List.append_assoc]
    exact slice_append_head _ _ _ (length_leBytes _ _)
  all_goals
    simp (disch := simp [length_leBytes, length_satBytes]) only [List.append_assoc, slice_append_skip, slice_append_head, length_leBytes,
      length_satBytes, Nat.reduceSub]
  · exact leNat_u32 _
  · exact leNat_u16 _
  · exact leNat_u16 _
  · exact hfld _
  · exact hfld _
  · exact leNat_satBytes _

end

/-! ### The generation that is due -/

section

variable {s : State}

/-- The generation goes behind those that are not its elders by three, and the entries that it holds are freed. -/
theorem State.baseDurable_done {g : Generation} (hg : s.gecko.saving = some g) (hle : Config.badSectors s.free ≤ s.nvm.spare) :
    s.baseDurable.active = { s.active with
        gens := (s.active.gens.filter (fun x => decide (g.seq < x.seq + 3))) ++ [g], journal := s.active.journal.drop s.gecko.saveMark }
    ∧ s.baseDurable.gecko = { s.gecko with saving := none, saveMark := 0 } ∧ s.baseDurable.rbit Reg.HK_EVT 1 = true
    ∧ s.baseDurable.rbit Reg.HK_STATUS 2 = false ∧ s.baseDurable.nvm.spare = s.nvm.spare - Config.badSectors s.free
    ∧ s.baseDurable.reg Reg.HK_SET_WRITE_FAIL_CNT = satAdd (s.reg Reg.HK_SET_WRITE_FAIL_CNT) (Config.badSectors s.free)
    ∧ s.baseDurable.reg Reg.HK_BASE_CNT = satAdd (s.reg Reg.HK_BASE_CNT) 1 := by
  obtain ⟨u, hfail, hok, ⟨f, hnvm⟩, hupd, hgecko, hregs⟩ := s.unsave.baseSectors_failed (baseSector s.upd.runSettings (g.seq % 3)) 2048
  unfold State.baseDurable
  rw [hg]
  dsimp only
  have hbad : (!(s.unsave.baseSectors (baseSector s.upd.runSettings (g.seq % 3)) 2048).2) = false := by
    rw [hok, decide_eq_true (show Config.badSectors s.unsave.free ≤ s.unsave.nvm.spare from hle)]
    rfl
  rw [hbad]
  generalize (s.unsave.baseSectors (baseSector s.upd.runSettings (g.seq % 3)) 2048).1 = w at hfail ⊢
  rw [if_neg (by decide)]
  have hupd' : w.upd = s.upd := hfail.upd.trans hupd
  have hact : w.active = s.active := by
    rw [State.active, State.active, hupd']
    exact Nvm.region_congr (by rw [hfail.nvm, hnvm]; rfl) (by rw [hfail.nvm, hnvm]; rfl) _
  have hspare : w.nvm.spare = s.nvm.spare - Config.badSectors s.free := by rw [hfail.nvm, hnvm]; rfl
  have hput := s.active_updRegion (fun t => { t with
      gens := (t.gens.filter (fun x => decide (g.seq < x.seq + 3))) ++ [g], journal := t.journal.drop s.gecko.saveMark }) hupd'
  have hspare' := w.spare_updRegion s.upd.runSettings (fun t => { t with
      gens := (t.gens.filter (fun x => decide (g.seq < x.seq + 3))) ++ [g], journal := t.journal.drop s.gecko.saveMark })
  have hgecko' : (w.updRegion s.upd.runSettings (fun t => { t with
      gens := (t.gens.filter (fun x => decide (g.seq < x.seq + 3))) ++ [g], journal := t.journal.drop s.gecko.saveMark })).gecko
      = { s.gecko with saving := none, saveMark := 0 } := hfail.gecko.trans hgecko
  have hregs' : ∀ o, (w.updRegion s.upd.runSettings (fun t => { t with
      gens := (t.gens.filter (fun x => decide (g.seq < x.seq + 3))) ++ [g], journal := t.journal.drop s.gecko.saveMark })).reg o = w.reg o :=
    fun _ => rfl
  rw [hact] at hput
  generalize w.updRegion s.upd.runSettings _ = v at hput hspare' hgecko' hregs' ⊢
  refine ⟨?_, ?_, State.rbit_raise_self _ _ _ _ (by decide) (by decide), ?_, ?_, ?_, ?_⟩
  · rw [← hput, State.active, State.active, State.raise_nvm, State.raise_upd]
    rfl
  · rw [State.raise_gecko]
    exact hgecko'
  · rw [State.rbit_raise _ _ _ _ _ (by decide), if_neg (by decide), State.rbit_bump _ _ _ _ (by decide)]
    exact State.rbit_setRegBit_self _ _ _ _ (by decide)
  · rw [State.raise_nvm]
    exact hspare'.trans hspare
  · rw [State.reg_raise _ _ _ _ (by simp [Reg.MSIX_PBA]), if_neg (by decide), State.reg_bump, if_neg (by decide), State.reg_setRegBit,
      if_neg (by decide), hregs', hfail.count, hnvm, hregs _ (by decide)]
    exact congrArg _ (Nat.min_eq_left hle)
  · rw [State.reg_raise _ _ _ _ (by simp [Reg.MSIX_PBA]), if_neg (by decide), State.reg_bump, if_pos rfl, State.reg_setRegBit,
      if_neg (by decide), hregs', hfail.regs _ (by decide), hregs _ (by decide)]
    rfl

/-- Where the pool cannot replace the sectors that fail, the generation before it stays in force. -/
theorem State.baseDurable_failed {g : Generation} (hg : s.gecko.saving = some g) (hlt : s.nvm.spare < Config.badSectors s.free) :
    s.baseDurable.active = s.active ∧ s.baseDurable.gecko = { s.gecko with saving := none, saveMark := 0 }
    ∧ s.baseDurable.nvm.spare = 0 ∧ s.baseDurable.rbit Reg.HK_EVT 2 = true := by
  obtain ⟨u, hfail, hok, ⟨f, hnvm⟩, hupd, hgecko, hregs⟩ := s.unsave.baseSectors_failed (baseSector s.upd.runSettings (g.seq % 3)) 2048
  unfold State.baseDurable
  rw [hg]
  dsimp only
  have hbad : (!(s.unsave.baseSectors (baseSector s.upd.runSettings (g.seq % 3)) 2048).2) = true := by
    rw [hok, decide_eq_false (Nat.not_le.mpr (show s.unsave.nvm.spare < Config.badSectors s.unsave.free from hlt))]
    rfl
  rw [hbad, if_pos rfl]
  generalize (s.unsave.baseSectors (baseSector s.upd.runSettings (g.seq % 3)) 2048).1 = w at hfail ⊢
  refine ⟨?_, hfail.gecko.trans hgecko, ?_, hfail.low (Nat.lt_of_le_of_lt (Nat.zero_le _) hlt) ?_⟩
  · rw [State.active, State.active, hfail.upd, hupd]
    exact Nvm.region_congr (by rw [hfail.nvm, hnvm]; rfl) (by rw [hfail.nvm, hnvm]; rfl) _
  · rw [hfail.nvm, hnvm]
    exact Nat.sub_eq_zero_of_le hlt.le
  · rw [hnvm]
    exact hlt.le

end

section

variable {r : State} {e : TelemEnv}

theorem regsBut_reported : RegsBut r (r.reported e) (Reg.HK_TELEM_SEQ :: measuredRegs) :=
  ((regsBut_measured e).mono (by simp)).trans ((regsBut_setReg ((r.measured e).updGecko _) _ _).mono (by simp))

theorem State.reported_ring : SameRing r (r.reported e) 30 ∧ (r.reported e).reg (Reg.RING_NODE_IDX 30) = r.reg (Reg.RING_NODE_IDX 30) :=
  ⟨.of_regs regsBut_reported rfl (by decide) (by decide) (by decide), regsBut_reported _ (by decide)⟩

/-- What the record's writing leaves of the measurements. -/
theorem State.reported_kept {t : State} (h : RegsBut (r.reported e) t [Reg.RING_NODE_IDX 30, Reg.RING_ENTRY_CNT 30, Reg.MSIX_PBA 0]) :
    t.reg Reg.HK_TELEM_SEQ = r.gecko.telemSeq + 1 ∧ t.reg Reg.HK_DIE_TEMP = e.dieTemp.zeroExtend 32
    ∧ t.reg Reg.HK_BOARD_TEMP = e.boardTemp.zeroExtend 32 ∧ t.reg Reg.HK_LV_A = e.lvA.zeroExtend 32 ∧ t.reg Reg.HK_LV_B = e.lvB.zeroExtend 32
    ∧ t.rbit Reg.HK_STATUS 4 = decide (700 < sext 16 e.boardTemp.toNat) := by
  obtain ⟨hst, hboard, hdie, hla, hlb⟩ := State.measured_regs (s := r) e
  have hset : ∀ o, o ≠ Reg.HK_TELEM_SEQ → (r.reported e).reg o = (r.measured e).reg o := fun o ho =>
    (State.reg_setReg ((r.measured e).updGecko _) _ _ _).trans (if_neg ho)
  refine ⟨(h _ (by decide)).trans ((State.reg_setReg _ _ _ _).trans (if_pos rfl)), ?_, ?_, ?_, ?_, ?_⟩
  · rw [h _ (by decide), hset _ (by decide), hdie]
  · rw [h _ (by decide), hset _ (by decide), hboard]
  · rw [h _ (by decide), hset _ (by decide), hla]
  · rw [h _ (by decide), hset _ (by decide), hlb]
  · rw [State.rbit_of_reg (h _ (by decide)), State.rbit_of_reg (hset _ (by decide)), hst]

/-- A ring's slot follows from its base, its size and the index. -/
theorem State.ringSlot_congr {s t : State} {n : Nat} {i : U32} (hlo : t.reg (Reg.RING_BASE_LO n) = s.reg (Reg.RING_BASE_LO n))
    (hhi : t.reg (Reg.RING_BASE_HI n) = s.reg (Reg.RING_BASE_HI n)) (hsz : t.reg (Reg.RING_SIZE n) = s.reg (Reg.RING_SIZE n)) :
    t.ringSlot n i = s.ringSlot n i := by
  rw [State.ringSlot, State.ringSlot, State.pair_of_regs hlo hhi, State.ringSize, State.ringSize, State.rfld_of_reg hsz]

theorem State.telemetry_posted (hg : r.geckoRuns = true) (hen : r.rbit Reg.HK_TELEM_CTL 0 = true) (hc : 0 < r.ringCredit 30) :
    (r.telemetry e).gecko.telemSeq = r.gecko.telemSeq + 1
      ∧ (r.telemetry e).reg Reg.HK_TELEM_SEQ = r.gecko.telemSeq + 1 ∧ (r.telemetry e).reg Reg.HK_DIE_TEMP = e.dieTemp.zeroExtend 32
      ∧ (r.telemetry e).reg Reg.HK_BOARD_TEMP = e.boardTemp.zeroExtend 32 ∧ (r.telemetry e).reg Reg.HK_LV_A = e.lvA.zeroExtend 32
      ∧ (r.telemetry e).reg Reg.HK_LV_B = e.lvB.zeroExtend 32
      ∧ (r.telemetry e).gecko.ceSince = 0 ∧ (r.telemetry e).gecko.ueSince = 0 ∧ (r.telemetry e).gecko.lossSince = 0
      ∧ (r.telemetry e).gecko.waitClocks = 0 ∧ (r.telemetry e).rbit Reg.HK_STATUS 4 = decide (700 < sext 16 e.boardTemp.toNat)
      ∧ ∃ data, Output.ringEntry 30 (r.reg (Reg.RING_NODE_IDX 30)) (r.ringSlot 30 (r.reg (Reg.RING_NODE_IDX 30))) data ∈ (r.telemetry e).out
        ∧ data.length = 64
        ∧ slice data 0 8 = leBytes 8 r.now.toNat ∧ leAt data 8 4 = (r.gecko.telemSeq + 1).toNat
        ∧ leAt data 0xC 2 = e.dieTemp.toNat ∧ leAt data 0xE 2 = e.boardTemp.toNat
        ∧ leAt data 0x10 2 = e.lvA.toNat ∧ leAt data 0x12 2 = e.lvB.toNat
        ∧ leAt data 0x38 4 = min (r.gecko.waitClocks / 1024) (2 ^ 32 - 1) := by
  obtain ⟨w, hregs, hparts, hseq, hwait, hla, hlb, htel⟩ := State.telemetry_on (t := e) hg hen
  obtain ⟨hring, hidx⟩ := State.reported_ring (r := r) (e := e)
  have hcred : (r.reported e).ringCredit 30 = r.ringCredit 30 := hring.credit_same hidx
  rw [htel, if_neg (by rw [hcred]; exact Nat.ne_of_gt hc), State.postLossy_posts (by rw [hcred]; exact hc)]
  obtain ⟨h1, h2, h3, h4, h5, h6⟩ := State.reported_kept
    (regsBut_postEntry (r.reported e) 30 (w.telemRecord e (decide (700 < sext 16 e.boardTemp.toNat))) false)
  have hgecko : ((r.reported e).postEntry 30 (w.telemRecord e (decide (700 < sext 16 e.boardTemp.toNat)))).gecko = (r.reported e).gecko :=
    same_of_foot [.regs, .hif] (fun _ _ => postEntry_foot _ _ _ _ (.refl _)) .gecko
  obtain ⟨d1, d2, d3, d4, d5, d6, d7, d8⟩ := w.telemRecord_fields e (decide (700 < sext 16 e.boardTemp.toNat))
  have hslot : (r.reported e).ringSlot 30 (r.reg (Reg.RING_NODE_IDX 30)) = r.ringSlot 30 (r.reg (Reg.RING_NODE_IDX 30)) :=
    State.ringSlot_congr (regsBut_reported _ (by decide)) (regsBut_reported _ (by decide)) hring.size
  have hpost := (r.reported e).postEntry_posts 30 (w.telemRecord e (decide (700 < sext 16 e.boardTemp.toNat))) false
  rw [hidx, hslot] at hpost
  have hws : w.ws = r.ws := hparts .ws (by decide)
  rw [hgecko]
  refine ⟨rfl, h1, h2, h3, h4, h5, rfl, rfl, rfl, rfl, h6, _, hpost, d1, ?_, ?_, d4, d5, ?_, ?_, ?_⟩
  · rw [d2, State.now, State.now, hws]
  · rw [d3, hseq]
  · rw [d6, rfld_low hla]
  · rw [d7, rfld_low hlb]
  · rw [d8, hwait]

theorem State.telemetry_lost (hg : r.geckoRuns = true) (hen : r.rbit Reg.HK_TELEM_CTL 0 = true) (hc : r.ringCredit 30 = 0) :
    (r.telemetry e).gecko.telemSeq = r.gecko.telemSeq + 1
      ∧ (r.telemetry e).reg (Reg.RING_LOSS_CNT 30) = satAdd (r.reg (Reg.RING_LOSS_CNT 30)) 1 ∧ (r.telemetry e).gecko.lossSince = 1
      ∧ (r.telemetry e).rbit Reg.HK_EVT 4 = true := by
  obtain ⟨w, hregs, hparts, hseq, hwait, hla, hlb, htel⟩ := State.telemetry_on (t := e) hg hen
  obtain ⟨hring, hidx⟩ := State.reported_ring (r := r) (e := e)
  have hcred : (r.reported e).ringCredit 30 = r.ringCredit 30 := hring.credit_same hidx
  have hraised : ((r.reported e).raise Reg.HK_EVT 0x10).ringCredit 30 = 0 := by
    have hsame : SameRing (r.reported e) ((r.reported e).raise Reg.HK_EVT 0x10) 30 :=
      .of_regs (regsBut_raise _ _ _) (State.raise_hif _ _ _) (by decide) (by decide) (by decide)
    rw [hsame.credit_same (regsBut_raise _ _ _ _ (by decide)), hcred, hc]
  rw [htel, if_pos (by rw [hcred, hc]), State.postLossy_lost hraised]
  have hgecko : ((r.reported e).raise Reg.HK_EVT 0x10).gecko = (r.reported e).gecko := State.raise_gecko _ _ _
  have hevt : ((r.reported e).raise Reg.HK_EVT 0x10).rbit Reg.HK_EVT 4 = true := State.rbit_raise_self _ _ _ _ (by decide) (by decide)
  have hcnt : ((r.reported e).raise Reg.HK_EVT 0x10).reg (Reg.RING_LOSS_CNT 30) = r.reg (Reg.RING_LOSS_CNT 30) :=
    (regsBut_raise _ _ _ _ (by decide)).trans (regsBut_reported _ (by decide))
  generalize (r.reported e).raise Reg.HK_EVT 0x10 = v at hgecko hevt hcnt ⊢
  refine ⟨congrArg Gecko.telemSeq hgecko, ?_, congrArg (fun g : Gecko => g.lossSince + 1) hgecko, ?_⟩
  · unfold State.ringLoss
    rw [State.reg_bump, if_pos rfl]
    exact congrArg (fun x => satAdd x 1) hcnt
  · unfold State.ringLoss
    rw [State.rbit_bump _ _ _ _ (by decide)]
    exact hevt

end

/-- Settles O52: an entry goes behind those that are whole, a generation that is durable takes its place, the digest's record is written, and telemetry is measured and offered. -/
theorem settingsDigestAndTelemetry : Obligations.SettingsDigestAndTelemetry := by
  unfold Obligations.SettingsDigestAndTelemetry
  refine ⟨⟨fun s e l hq => ⟨fun hfull b => ⟨_, rfl, ?full⟩, fun hfit => ⟨_, rfl, ?written⟩, fun hfit h0 => ⟨_, rfl, ?lost⟩,
      fun hfit hsp => ⟨_, rfl, ?replaced⟩⟩, fun s hg hfill hsave => ⟨_, rfl, ?start⟩,
      fun s g n hg hn => ⟨fun hle => ⟨_, rfl, ?durable⟩, fun hlt => ⟨_, rfl, ?undurable⟩⟩, fun s r hr hm hss hst hstale hb hj => ⟨_, rfl, ?digest⟩⟩,
    fun s e dt r hr hg hen => ?telemetry, fun s e dt r hr hg hen => ?measured⟩
  case full =>
    have hrun : s.fresh.journalWrite b = s.fresh.setRegBit Reg.HK_STATUS 2 true := by
      unfold State.journalWrite
      rw [show s.fresh.gecko.journalQ = e :: l from hq]
      exact if_pos hfull
    rw [hrun]
    exact ⟨rfl, rfl, State.rbit_setRegBit_self _ _ _ _ (by decide), regsBut_setRegBit s.fresh _ _ _⟩
  case written =>
    obtain ⟨hj, hq', hg, hp, -, -⟩ := State.journalWrite_written (s := s.fresh) (b := false) hq hfit (Nat.zero_le _)
    exact ⟨hj, hq', hg, hp⟩
  case lost =>
    obtain ⟨hfail, hok⟩ := State.sectorsFail_failed ({ s.fresh with gecko := { s.gecko with journalQ := l } } : State) 1
    have hno : (State.sectorsFail ({ s.fresh with gecko := { s.gecko with journalQ := l } } : State) 1).2 = false :=
      hok.trans (decide_eq_false (by rw [show ({ s.fresh with gecko := { s.gecko with journalQ := l } } : State).nvm.spare = 0 from h0]; decide))
    have hrun : s.fresh.journalWrite true = (State.sectorsFail ({ s.fresh with gecko := { s.gecko with journalQ := l } } : State) 1).1 := by
      unfold State.journalWrite
      rw [show s.fresh.gecko.journalQ = e :: l from hq]
      dsimp only
      refine (if_neg (Nat.not_lt.mpr hfit)).trans (if_pos ?_)
      exact (congrArg (!·) hno).trans rfl
    rw [hrun]
    refine ⟨hfail.nvm.trans ?_, hfail.gecko, hfail.tarn, hfail.low (by decide) (by rw [show ({ s.fresh with gecko := { s.gecko with journalQ := l } } : State).nvm.spare = 0 from h0]; decide)⟩
    show ({ s.nvm with spare := s.nvm.spare - 1 } : Nvm) = s.nvm
    rw [h0, show 0 - 1 = s.nvm.spare from h0.symm]
  case replaced =>
    obtain ⟨hj, -, -, -, hs, hc⟩ := State.journalWrite_written (s := s.fresh) (b := true) hq hfit hsp
    refine ⟨hs, hj, hc.trans ?_⟩
    rw [if_pos rfl, Nat.min_eq_left (show 1 ≤ s.fresh.nvm.spare from hsp)]
    rfl
  case start =>
    rw [if_pos (show (s.fresh.geckoRuns && decide (3 * journalSize < 4 * s.fresh.active.fill) && s.fresh.gecko.saving.isNone) = true from
      Bool.and_eq_true_iff.mpr ⟨Bool.and_eq_true_iff.mpr ⟨hg, decide_eq_true hfill⟩, Option.isNone_iff_eq_none.mpr hsave⟩)]
    obtain ⟨g, hrun, htarn, hrws, hvalid, hep, hfmt⟩ := State.startBase_new (s := s.fresh) hsave
    rw [hrun]
    exact ⟨.of_regs rfl rfl _, rfl, rfl, g, rfl, htarn, hrws, hvalid, hep, hfmt⟩
  case durable =>
    obtain ⟨hact, hgecko, hevt, hst, hspare, hfail, hcnt⟩ := State.baseDurable_done (s := s.fresh) hg (hn ▸ hle)
    subst hn
    rw [hact]
    exact ⟨List.mem_append_right _ (List.mem_singleton_self _), rfl, hgecko, hevt, hst, hspare, hfail, hcnt⟩
  case undurable =>
    subst hn
    exact State.baseDurable_failed (s := s.fresh) hg hlt
  case digest =>
    have hrun : s.fresh.digestRewrite = ((s.fresh.writeSlot (patch (patch r 0x40 s.fresh.digest) 0x60 (leBytes 2 s.fresh.cfgEpoch))).updGecko
        (fun g => { g with digestStale := false })).setRegBit Reg.MGMT_SS_STATUS 9 true := by
      unfold State.digestRewrite
      rw [show s.fresh.slotRecord = some r from hr]
      refine if_neg ?_
      simp [hm, show s.fresh.ss = Ss.valid from hss, show s.upd.state ≠ 5 from hst, hstale, hb, hj]
    rw [hrun]
    exact ⟨rfl, State.rbit_setRegBit_self _ _ _ _ (by decide), rfl, rfl, rfl⟩
  case telemetry =>
    have hrun : exec (.telemetry e dt) s = .next ((s.fresh.pass dt).telemetry e) := rfl
    rw [hr] at hrun
    exact ⟨fun hc => ⟨_, hrun, State.telemetry_posted hg hen hc⟩, fun hc => ⟨_, hrun, State.telemetry_lost hg hen hc⟩⟩
  case measured =>
    have hrun : exec (.telemetry e dt) s = .next ((s.fresh.pass dt).telemetry e) := rfl
    rw [hr, State.telemetry_off hg hen] at hrun
    obtain ⟨hst, hboard, -, -, -⟩ := State.measured_regs (s := r) e
    exact ⟨_, hrun, hst, rfl, rfl, hboard, regsBut_measured e⟩

end Sys2Proof.Machine

/-! PROOFS. Trends, quotas and the elastic split (R291, R292, R395, R493, R504, R506). -/

namespace Sys2Proof.Machine

section

variable {s : State}

/-! ## Trends (R291, R292, R493) -/

theorem State.now_congr {t : State} (h : t.ws = s.ws) : t.now = s.now := by rw [State.now, State.now, h]

theorem State.trendRate_congr {t : State} (h : t.tarn = s.tarn) (hg : t.gecko = s.gecko) : t.trendRate = s.trendRate := by
  have htrend : ∀ i, t.trend i = s.trend i := fun i => by
    rw [State.trend, State.trend, State.tarnSee, State.tarnSee, State.tarnRead, State.tarnRead, h, hg]
  rw [State.trendRate, State.trendRate, State.trends, State.trends, State.listed, State.listed, h]
  simp only [htrend]

/-- A store into Tarn leaves every other part alone, but what Gecko knows of damage. -/
theorem State.tarnStore_parts (s : State) (o : Off) (l : List Byte) : PartsBut s (s.tarnStore o l) [.tarn, .gecko] :=
  fun z hz => same_of_foot [.tarn, .gecko] (fun _ _ => tarnStore_foot _ _ _ (.refl s)) z hz

/-- A lossy entry goes to the ring's next place. -/
theorem State.postLossy_next (n : Nat) (data : List Byte) (h : 0 < s.ringCredit n) (hn : n < 32) :
    (s.postLossy n data).reg (Reg.RING_NODE_IDX n) = s.reg (Reg.RING_NODE_IDX n) + 1
    ∧ Output.ringEntry n (s.reg (Reg.RING_NODE_IDX n)) (s.ringSlot n (s.reg (Reg.RING_NODE_IDX n))) data ∈ (s.postLossy n data).out
    ∧ (s.postLossy n data).outlet = s.outlet := by
  rw [State.postLossy_posts h]
  refine ⟨?_, s.postEntry_posts n data false, same_of_foot [.regs, .hif] (fun _ _ => postEntry_foot _ _ _ _ (.refl s)) .outlet⟩
  rw [State.reg_postEntry_idx _ _ _ _ hn]

/-- What a trend's record leaves where ring 6 takes it. -/
def TrendPosted (s t : State) (i : Nat) : Prop :=
  i ∉ t.outlet.trendFresh ∧ t.reg (Reg.RING_NODE_IDX 6) = s.reg (Reg.RING_NODE_IDX 6) + 1
  ∧ ∃ at_ data, Output.ringEntry 6 (s.reg (Reg.RING_NODE_IDX 6)) at_ data ∈ t.out
    ∧ at_ = s.ringSlot 6 (s.reg (Reg.RING_NODE_IDX 6)) ∧ slice data 0 8 = leBytes 8 s.now.toNat

theorem State.postLossy_trendPosted {w : State} {i : Nat} (hregs : w.regs = s.regs) (hboot : w.behavBoot = s.behavBoot) (hhif : w.hif = s.hif) (hws : w.ws = s.ws)
    (hi : i ∉ w.outlet.trendFresh) (hc : 0 < s.ringCredit 6) (a b : List Byte) :
    TrendPosted s (w.postLossy 6 (leBytes 8 w.now.toNat ++ a ++ b)) i := by
  have hreg : ∀ o, w.reg o = s.reg o := RegsBut.all (.of_regs hregs hboot [])
  have hring : SameRing s w 6 := .of_regs (.of_regs hregs hboot []) hhif List.not_mem_nil List.not_mem_nil List.not_mem_nil
  obtain ⟨hidx, hout, houtlet⟩ := w.postLossy_next 6 (leBytes 8 w.now.toNat ++ a ++ b) (by rw [hring.credit_same (hreg _)]; exact hc) (by decide)
  rw [hreg] at hidx hout
  refine ⟨by rw [houtlet]; exact hi, hidx, _, _, hout, State.ringSlot_congr (hreg _) (hreg _) hring.size, ?_⟩
  rw [State.now_congr hws, List.append_assoc]
  exact slice_append_head _ _ _ (length_leBytes _ _)

/-- A step in which ring 6 takes the record of a fresh trend. -/
theorem State.trendStep_posted {i : Nat} (hu : (s.trend i).used = true) (hm : s.mgmt = Node.run) (hdue : (s.trend i).due ≤ s.now.toNat)
    (hf : s.outlet.trendFresh.contains i = true) (hc : 0 < s.ringCredit 6) : TrendPosted s (s.trendStep i) i := by
  have hgo : ¬ (!(s.trend i).used || s.mgmt != Node.run || decide (s.now.toNat < (s.trend i).due)) = true := by
    simp [hu, hm, Nat.not_lt.mpr hdue]
  unfold State.trendStep
  extract_lets t x at_ u w
  have hu : PartsBut s u [.tarn, .gecko] := s.tarnStore_parts _ _
  have hmoved : t.moved x.value (u.outlet.trendFresh.contains i) = true := by
    rw [hu .outlet (by decide), hf]
    rfl
  have hv := u.tarnStore_parts (at_ + 0xC) (leBytes 4 x.value.toNat)
  have hi : i ∉ w.outlet.trendFresh := by
    show i ∉ List.filter _ _
    simp [List.mem_filter]
  have hregs : w.regs = s.regs := (hv .regs (by decide)).trans (hu .regs (by decide))
  have hboot : w.behavBoot = s.behavBoot := (hv .behavBoot (by decide)).trans (hu .behavBoot (by decide))
  have hhif : w.hif = s.hif := (hv .hif (by decide)).trans (hu .hif (by decide))
  have hws : w.ws = s.ws := (hv .ws (by decide)).trans (hu .ws (by decide))
  rw [if_neg hgo, if_pos hmoved]
  clear_value w
  exact State.postLossy_trendPosted hregs hboot hhif hws hi hc _ _

/-- TREND_CTL REMOVE. -/
theorem State.trendCtl_remove {d : Desc} (h9 : d.resv 9 1 = true) (h12 : d.resv 0x12 2 = true) (h18 : d.resv 0x18 40 = true) (hf : d.arg 8 1 = 1)
    (hi : d.arg 0xA 2 ≤ 4095) : ∃ u : State, s.trendCtl d = u.done d Status.ok u.trends.length ∧ PartsBut s u [.tarn, .gecko] := by
  have hgo : ¬ (decide (3 < d.arg 8 1) || !d.resv 9 1 || !d.resv 0x12 2 || !d.resv 0x18 40
      || (decide (d.arg 8 1 ≤ 1) && decide (4095 < d.arg 0xA 2))
      || (d.arg 8 1 = 0 && (decide (81919 < d.arg 0xC 4) || !inRange 10 60000 (d.arg 0x10 2) || !F32.isFinite (u32At d.raw 0x14)
        || !F32.le 0 (u32At d.raw 0x14)))) = true := by
    simp [hf, h9, h12, h18, Nat.not_lt.mpr hi]
  refine ⟨_, (if_neg hgo).trans ?_, s.tarnStore_parts (Tarn.TREND + 32 * d.arg 0xA 2) (leBytes 4 0xFFFFFFFF ++ zeros 28)⟩
  rw [hf]
  simp only []

/-- The record by which TREND_CTL asks for a seal (R292). -/
def State.sealAsked (s : State) (d : Desc) : InRec :=
  { time := s.now, source := mkSource 8 0, kind := Kind.cmd, payload := cmdPayload 0xFF01 0 0 1, ext := slice d.raw 8 56 ++ zeros 8 }

theorem InRec.isSeal_of {r : InRec} (hk : r.kind = Kind.cmd) (hs : r.source = mkSource 8 0) (hp : r.payload = cmdPayload 0xFF01 0 0 1) :
    r.isSeal = true := by
  rw [InRec.isSeal, InRec.srcType, InRec.pay, hk, hs, hp]
  decide

/-- TREND_CTL SEAL waits for its record. -/
theorem State.trendCtl_seal {d : Desc} (h9 : d.resv 9 1 = true) (h12 : d.resv 0x12 2 = true) (h18 : d.resv 0x18 40 = true) (hf : d.arg 8 1 = 3)
    (hm : s.mgmt = Node.run) : s.trendCtl d = (s.defer d.tag d.irqNow 0x72).offer Place.gecko (s.sealAsked d) := by
  have hgo : ¬ (decide (3 < d.arg 8 1) || !d.resv 9 1 || !d.resv 0x12 2 || !d.resv 0x18 40
      || (decide (d.arg 8 1 ≤ 1) && decide (4095 < d.arg 0xA 2))
      || (d.arg 8 1 = 0 && (decide (81919 < d.arg 0xC 4) || !inRange 10 60000 (d.arg 0x10 2) || !F32.isFinite (u32At d.raw 0x14)
        || !F32.le 0 (u32At d.raw 0x14)))) = true := by
    simp [hf, h9, h12, h18]
  refine (if_neg hgo).trans ?_
  rw [hf]
  exact if_neg (by simp [hm])

/-! ## Quotas (R504, R506) -/

theorem State.splitApply_eq (s : State) : ∃ n, s.splitApply = { s with hif := { s.hif with elasticNow := n } } := by
  unfold State.splitApply
  dsimp only
  split
  · exact ⟨_, rfl⟩
  · exact ⟨_, rfl⟩

/-- The registers of a channel's share. -/
theorem State.shareSet_regs (n base size : Nat) (hn : n < 8) : (s.shareSet n base size).reg (Reg.CAN_FILT_BASE n) = BitVec.ofNat 32 base
    ∧ (s.shareSet n base size).reg (Reg.CAN_FILT_SHARE n) = BitVec.ofNat 32 size
    ∧ RegsBut s (s.shareSet n base size) [Reg.CAN_FILT_BASE n, Reg.CAN_FILT_SHARE n, Reg.CAN_STATUS n] := by
  have hoff : ∀ n < 8, Reg.CAN_FILT_BASE n ≠ Reg.CAN_STATUS n ∧ Reg.CAN_FILT_SHARE n ≠ Reg.CAN_STATUS n
      ∧ Reg.CAN_FILT_BASE n ≠ Reg.CAN_FILT_SHARE n := by decide
  obtain ⟨h1, h2, h3⟩ := hoff n hn
  unfold State.shareSet
  extract_lets w u fits
  have hbase : u.reg (Reg.CAN_FILT_BASE n) = BitVec.ofNat 32 base := by
    rw [State.reg_setReg, if_neg h3, State.reg_setReg, if_pos rfl]
  have hshare : u.reg (Reg.CAN_FILT_SHARE n) = BitVec.ofNat 32 size := by rw [State.reg_setReg, if_pos rfl]
  have hu : RegsBut s u [Reg.CAN_FILT_BASE n, Reg.CAN_FILT_SHARE n, Reg.CAN_STATUS n] :=
    ((regsBut_setReg _ _ _).mono (by simp)).trans ((regsBut_setReg _ _ _).mono (by simp))
  have hv : RegsBut u ((u.updCan n (fun c => { c with oldWalk := if fits then none else some w })).setCanStat n CanStat.overQuota (!fits))
      [Reg.CAN_STATUS n] := regsBut_setRegBit (u.updCan n _) _ _ _
  exact ⟨(hv _ (by simp)).trans hbase, (hv _ (by simp)).trans hshare, hu.trans (hv.mono (by simp))⟩

end

/-- New shares leave the registers of the channels before them alone. -/
theorem State.sharesSet_before (l : List Nat) (s : State) (n base : Nat) (hn : n + l.length ≤ 8) (m : Nat) (hm : m < n) :
    (s.sharesSet l n base).reg (Reg.CAN_FILT_BASE m) = s.reg (Reg.CAN_FILT_BASE m)
    ∧ (s.sharesSet l n base).reg (Reg.CAN_FILT_SHARE m) = s.reg (Reg.CAN_FILT_SHARE m) := by
  induction l generalizing s n base with
  | nil => exact ⟨rfl, rfl⟩
  | cons k l ih =>
    simp only [List.length_cons] at hn
    have hoff : ∀ n < 8, ∀ m < n, Reg.CAN_FILT_BASE m ∉ [Reg.CAN_FILT_BASE n, Reg.CAN_FILT_SHARE n, Reg.CAN_STATUS n]
        ∧ Reg.CAN_FILT_SHARE m ∉ [Reg.CAN_FILT_BASE n, Reg.CAN_FILT_SHARE n, Reg.CAN_STATUS n] := by decide
    obtain ⟨h1, h2⟩ := hoff n (by omega) m hm
    obtain ⟨-, -, hregs⟩ := s.shareSet_regs n base k (by omega)
    obtain ⟨i1, i2⟩ := ih (s.shareSet n base k) (n + 1) (base + k) (by omega) (by omega)
    exact ⟨i1.trans (hregs _ h1), i2.trans (hregs _ h2)⟩

/-- The shares lie behind one another in channel order. -/
theorem State.sharesSet_regs (l : List Nat) (s : State) (n base : Nat) (hn : n + l.length ≤ 8) (m : Nat) (hm : m < l.length) :
    (s.sharesSet l n base).reg (Reg.CAN_FILT_SHARE (n + m)) = BitVec.ofNat 32 (l.getD m 0)
    ∧ (s.sharesSet l n base).reg (Reg.CAN_FILT_BASE (n + m)) = BitVec.ofNat 32 (base + (l.take m).sum) := by
  induction l generalizing s n base m with
  | nil => exact absurd hm (Nat.not_lt_zero m)
  | cons k l ih =>
    simp only [List.length_cons] at hn hm
    obtain ⟨hbase, hshare, -⟩ := s.shareSet_regs n base k (by omega)
    cases m with
    | zero =>
      obtain ⟨i1, i2⟩ := State.sharesSet_before l (s.shareSet n base k) (n + 1) (base + k) (by omega) n (by omega)
      exact ⟨i2.trans hshare, i1.trans hbase⟩
    | succ m =>
      obtain ⟨i1, i2⟩ := ih (s.shareSet n base k) (n + 1) (base + k) (by omega) m (by omega)
      rw [show n + (m + 1) = n + 1 + m by omega]
      refine ⟨i1, i2.trans ?_⟩
      rw [List.take_succ_cons, List.sum_cons, Nat.add_assoc]

theorem State.sharesSet_hif (l : List Nat) (s : State) (n base : Nat) : (s.sharesSet l n base).hif = s.hif := by
  induction l generalizing s n base with
  | nil => rfl
  | cons k l ih => exact (ih _ _ _).trans rfl

section

variable {s : State} {d : Desc}

/-- The arguments of QUOTA_SET are judged by its KIND (Table 18-5). -/
theorem State.quotaSet_args (hr : d.resv 0xA 2 = true) (hr' : d.resv 0x20 32 = true) {k : Nat} (hk : d.arg 8 1 = k) (hk4 : k ≤ 4)
    (hix : k = 1 ∨ d.arg 9 1 = 0) {bad : Bool} (hbad : bad = false) :
    ¬ (decide (4 < d.arg 8 1) || !d.resv 0xA 2 || !d.resv 0x20 32 || (d.arg 8 1 != 1 && d.arg 9 1 != 0) || bad) = true := by
  rcases hix with h | h <;> simp [hk, hr, hr', hbad, h, Nat.not_lt.mpr hk4]

/-- A quota set completes with whether the use lies above it. -/
abbrev State.quotaDone (s : State) (d : Desc) (excess : Bool) : State :=
  (s.bump Reg.QUOTA_SET_CNT).done d Status.ok (BitVec.ofNat 64 (b2n excess))

theorem State.quotaSet_elastic (hr : d.resv 0xA 2 = true) (hr' : d.resv 0x20 32 = true) (hk : d.arg 8 1 = 0) (hix : d.arg 9 1 = 0)
    (hv : 1 ≤ d.arg 0xC 4) (hv' : d.arg 0xC 4 ≤ 16) (hreq : s.hif.elasticReq = s.hif.elasticNow) :
    ∃ u : State, s.quotaSet d = u.quotaDone d u.backlogOver ∧ ∃ n, u.hif = { s.hif with elasticReq := d.arg 0xC 4, elasticNow := n } := by
  obtain ⟨n, hn⟩ := State.splitApply_eq { s with hif := { s.hif with elasticReq := d.arg 0xC 4 } }
  unfold State.quotaSet
  extract_lets kind ix v shares fin bad
  rw [if_neg (State.quotaSet_args hr hr' hk (by decide) (.inr hix) (by simp [bad, kind, v, hk, inRange, hv, hv'])), show kind = 0 from hk]
  simp only []
  rw [if_neg (by simp [hreq])]
  exact ⟨_, rfl, n, congrArg State.hif hn⟩

theorem State.quotaSet_prefetch (hr : d.resv 0xA 2 = true) (hr' : d.resv 0x20 32 = true) (hk : d.arg 8 1 = 1) (hix : isHostToNode (d.arg 9 1) = true)
    (hv : 1 ≤ d.arg 0xC 4) (hv' : d.arg 0xC 4 ≤ 64) :
    ∃ (u : State) (cut : Bool), s.quotaSet d = u.quotaDone d cut
      ∧ ∃ f c, u.hif = { s.hif with prefetch := Sparse.set 16 s.hif.prefetch (d.arg 9 1) (d.arg 0xC 4), fetching := f, prefetchCut := c } := by
  unfold State.quotaSet
  extract_lets kind ix v shares fin bad
  rw [if_neg (State.quotaSet_args hr hr' hk (by decide) (.inl rfl) (by simp [bad, kind, v, ix, hk, inRange, hv, hv', hix])), show kind = 1 from hk]
  simp only []
  obtain ⟨f, c, hf⟩ := State.fetchMore_hif { (State.saveQuota { s with hif := { s.hif with prefetch := Sparse.set 16 s.hif.prefetch ix v } }
      (fun q => { q with prefetch := Sparse.set 16 q.prefetch ix v })) with
    hif := { s.hif with prefetch := Sparse.set 16 s.hif.prefetch ix v, prefetchCut := s.hif.prefetchCut.filter (· != ix) ++
      (if decide (v < (State.saveQuota { s with hif := { s.hif with prefetch := Sparse.set 16 s.hif.prefetch ix v } }
        (fun q => { q with prefetch := Sparse.set 16 q.prefetch ix v })).prefetched ix) then [ix] else []) } } ix
  exact ⟨_, _, rfl, f, c, hf⟩

theorem State.quotaSet_shares (hr : d.resv 0xA 2 = true) (hr' : d.resv 0x20 32 = true) (hk : d.arg 8 1 = 2) (hix : d.arg 9 1 = 0)
    (hmod : ∀ n, n < 8 → d.arg (0x10 + 2 * n) 2 % 16 = 0) (hsum : ((List.range 8).map (fun n => d.arg (0x10 + 2 * n) 2)).sum ≤ 16384) :
    ∃ (u : State) (ov : Bool), s.quotaSet d = u.quotaDone d ov ∧ u.hif = s.hif
      ∧ ∀ o, u.reg o = (s.sharesSet ((List.range 8).map (fun n => d.arg (0x10 + 2 * n) 2)) 0 0).reg o := by
  unfold State.quotaSet
  extract_lets kind ix v shares fin bad
  have hany : shares.any (fun x => decide (16384 < x) || x % 16 != 0) = false := by
    rw [List.any_eq_false]
    intro x hx
    have hle : x ≤ 16384 := (List.single_le_sum (fun _ _ => Nat.zero_le _) x hx).trans hsum
    obtain ⟨n, hn, rfl⟩ := List.mem_map.mp hx
    simp [Nat.not_lt.mpr hle, hmod n (List.mem_range.mp hn)]
  have hbad : bad = false := by
    simp only [bad, show kind = 2 from hk, hany, Bool.false_or, decide_eq_false_iff_not, Nat.not_lt]
    exact hsum
  rw [if_neg (State.quotaSet_args hr hr' hk (by decide) (.inr hix) hbad), show kind = 2 from hk]
  simp only []
  have hhif := s.sharesSet_hif shares 0 0
  show ∃ (u : State) (ov : Bool), fin _ (State.saveQuota (s.sharesSet shares 0 0) _) = _ ∧ u.hif = s.hif ∧ ∀ o, u.reg o = (s.sharesSet shares 0 0).reg o
  generalize s.sharesSet shares 0 0 = x at hhif ⊢
  exact ⟨_, _, rfl, hhif, fun o => State.reg_congr rfl rfl o⟩

theorem State.quotaSet_trend (hr : d.resv 0xA 2 = true) (hr' : d.resv 0x20 32 = true) (hk : d.arg 8 1 = 3) (hix : d.arg 9 1 = 0)
    (hv : d.arg 0xC 4 ≤ 100000) :
    ∃ u : State, s.quotaSet d = u.quotaDone d (decide (d.arg 0xC 4 * s.trendRate.2 < s.trendRate.1))
      ∧ u.hif = { s.hif with trendQuota := d.arg 0xC 4, trendCut := decide (d.arg 0xC 4 * s.trendRate.2 < s.trendRate.1) } := by
  unfold State.quotaSet
  extract_lets kind ix v shares fin bad
  rw [if_neg (State.quotaSet_args hr hr' hk (by decide) (.inr hix) (by simp [bad, kind, v, hk, Nat.not_lt.mpr hv])), show kind = 3 from hk]
  simp only [fin]
  exact ⟨_, rfl, rfl⟩

theorem State.quotaSet_cmd (hr : d.resv 0xA 2 = true) (hr' : d.resv 0x20 32 = true) (hk : d.arg 8 1 = 4) (hix : d.arg 9 1 = 0)
    (hv : 1 ≤ d.arg 0xC 4) (hv' : d.arg 0xC 4 ≤ 64) : s.quotaSet d
      = State.quotaDone ({ s with hif := { s.hif with cmdQuota := d.arg 0xC 4 } }.saveQuota (fun q => { q with cmd := d.arg 0xC 4 })) d false := by
  unfold State.quotaSet
  extract_lets kind ix v shares fin bad
  rw [if_neg (State.quotaSet_args hr hr' hk (by decide) (.inr hix) (by simp [bad, kind, v, hk, inRange, hv, hv'])), show kind = 4 from hk]
  rfl

end

section

variable {s u v : State} {d : Desc}

/-- A quota set behind the taking of its command, the queues of CTRL as they were. -/
theorem AtHead.quotaDone (h : AtHead s u) (hready : v.hif.ready = u.hif.ready) (hrun : v.hif.running = u.hif.running)
    (hf : v.hif.fetched = u.hif.fetched) (excess : Bool) :
    Answered s (v.quotaDone d excess) d Status.ok (BitVec.ofNat 64 (b2n excess)) :=
  (h.taken.then (u := v.bump Reg.QUOTA_SET_CNT) hready hrun hf).answered d _ _

theorem State.quotaDone_hif (d : Desc) (excess : Bool) {x : Hif} (hx : v.hif = x) :
    (v.quotaDone d excess).hif = { x with ready := x.ready ++ [d.answer Status.ok (BitVec.ofNat 64 (b2n excess))] } := by
  rw [← hx]
  rfl

theorem State.reg_quotaDone (d : Desc) (excess : Bool) (o : Off) (ho : o ≠ Reg.QUOTA_SET_CNT) : (v.quotaDone d excess).reg o = v.reg o := by
  rw [regsBut_done _ _ _ _ [] _ List.not_mem_nil, State.reg_bump, if_neg ho]

end

/-- The boundary moves to the split that was asked for. -/
theorem State.splitApply_applies {s : State} (h : (s.hif.elasticReq < s.hif.elasticNow ∧ ∀ b, b ∈ s.outlet.backlog → b.place < 32768 * s.hif.elasticReq)
    ∨ (s.hif.elasticNow < s.hif.elasticReq ∧ s.capturing = false)) :
    s.splitApply = { s with hif := { s.hif with elasticNow := s.hif.elasticReq } } := by
  refine if_pos ?_
  rcases h with ⟨hlt, hfree⟩ | ⟨hlt, hcap⟩
  · simp only [Bool.or_eq_true, Bool.and_eq_true, decide_eq_true_eq, List.all_eq_true]
    exact .inl ⟨hlt, hfree⟩
  · simp [hlt, hcap]

/-- A trend sampled on the running node. -/
theorem ends_trendSample {s : State} {i dt : Nat} (hi : i < 4096) (hu : ((s.fresh.pass dt).trend i).used = true)
    (hm : (s.fresh.pass dt).mgmt = Node.run) (hdue : ((s.fresh.pass dt).trend i).due ≤ (s.fresh.pass dt).now.toNat)
    (hf : (s.fresh.pass dt).outlet.trendFresh.contains i = true) (hc : 0 < (s.fresh.pass dt).ringCredit 6) :
    Ends (.trendSample i dt) s (fun t => TrendPosted (s.fresh.pass dt) t i) :=
  ⟨_, need_of (decide_eq_true hi) _, State.trendStep_posted hu hm hdue hf hc⟩

theorem ends_trendCtl_remove {s : State} {d : Desc} (h : s.Heads 0x72 d) (h9 : d.resv 9 1 = true) (h12 : d.resv 0x12 2 = true)
    (h18 : d.resv 0x18 40 = true) (hf : d.arg 8 1 = 1) (hi : d.arg 0xA 2 ≤ 4095) :
    Ends .trendCtl s (fun t => Answered s t d Status.ok t.trends.length ∧ t.inlet = s.inlet) := by
  refine ends_dirCmd h rfl fun u hu => ?_
  obtain ⟨v, hv, hkept⟩ := State.trendCtl_remove (s := u) h9 h12 h18 hf hi
  rw [hv]
  refine ⟨(hu.taken.then_hif (hkept .hif (by decide))).answered d _ _, ?_⟩
  exact (hkept .inlet (by decide)).trans (hu.parts .inlet (by decide))

theorem ends_trendCtl_seal {s : State} {d : Desc} (h : s.Heads 0x72 d) (h9 : d.resv 9 1 = true) (h12 : d.resv 0x12 2 = true)
    (h18 : d.resv 0x18 40 = true) (hf : d.arg 8 1 = 3) (hm : s.mgmt = Node.run) :
    Ends .trendCtl s (fun t => Deferred s t d ∧ t.tarn = s.tarn
      ∧ ∃ r : InRec, t.inlet.waiting = s.inlet.waiting ++ [(Place.gecko, r)] ∧ r.isSeal = true ∧ r.ext = slice d.raw 8 56 ++ zeros 8) := by
  refine ends_dirCmd h rfl fun u hu => ?_
  have hmu : u.mgmt = Node.run := (State.mgmt_congr (hu.regs _ (by decide))).trans hm
  rw [State.trendCtl_seal h9 h12 h18 hf hmu]
  have hop : d.opcode = 0x72 := by simpa using State.cmdHead_opcode h.1
  have hdef : Deferred s (u.defer d.tag d.irqNow 0x72) d := hop ▸ hu.taken.deferred d
  obtain ⟨n, hw, -, -, -⟩ := State.offer_credit (s := u.defer d.tag d.irqNow 0x72) (pl := Place.gecko) (u.sealAsked d) rfl
  have hwait : (u.defer d.tag d.irqNow 0x72).inlet.waiting = s.inlet.waiting := congrArg Inlet.waiting (hu.parts .inlet (by decide))
  exact ⟨hdef, hu.parts .tarn (by decide), _, hw.trans (by rw [hwait]), InRec.isSeal_of rfl rfl rfl, rfl⟩

/-- Settles O25. -/
theorem trendsAndQuotas : Obligations.TrendsAndQuotas := by
  unfold Obligations.TrendsAndQuotas
  refine ⟨⟨fun s i dt hi hu hm hdue hf hc => ends_trendSample hi hu hm hdue hf hc, fun s d h h9 h12 h18 =>
      ⟨ends_trendCtl_remove h h9 h12 h18, ends_trendCtl_seal h h9 h12 h18⟩⟩, fun s d h hr hr' => ⟨?_, ?_, ?_, ?_, ?_⟩, fun s h => ?_⟩
  · intro hk hix hv hv' hreq
    refine ends_dirCmd h rfl fun u hu => ?_
    obtain ⟨l, f, c, hhif⟩ := hu.hif
    obtain ⟨v, hq, n, hv⟩ := State.quotaSet_elastic (s := u) hr hr' hk hix hv hv' (by rw [hhif]; exact hreq)
    rw [hq]
    exact ⟨⟨_, hu.quotaDone (by rw [hv]) (by rw [hv]) (by rw [hv]) _⟩, by rw [State.quotaDone_hif d _ hv]⟩
  · intro hk hix hv hv'
    refine ends_dirCmd h rfl fun u hu => ?_
    obtain ⟨v, cut, hq, f, c, hv⟩ := State.quotaSet_prefetch (s := u) hr hr' hk hix hv hv'
    rw [hq]
    refine ⟨⟨_, hu.quotaDone (by rw [hv]) (by rw [hv]) (by rw [hv]) _⟩, ?_⟩
    rw [State.prefetchQuota, State.quotaDone_hif d _ hv]
    exact Sparse.get_set_self _ _ _
  · intro hk hix hmod hsum
    refine ends_dirCmd h rfl fun u hu => ?_
    obtain ⟨v, ov, hq, hhif, hreg⟩ := State.quotaSet_shares (s := u) hr hr' hk hix hmod hsum
    rw [hq]
    refine ⟨⟨_, hu.quotaDone (by rw [hhif]) (by rw [hhif]) (by rw [hhif]) _⟩, fun n hn => ?_⟩
    have hoff : ∀ n < 8, Reg.CAN_FILT_SHARE n ≠ Reg.QUOTA_SET_CNT ∧ Reg.CAN_FILT_BASE n ≠ Reg.QUOTA_SET_CNT := by decide
    obtain ⟨hshare, hbase⟩ := State.sharesSet_regs ((List.range 8).map (fun n => d.arg (0x10 + 2 * n) 2)) u 0 0 (by simp) n (by simpa using hn)
    rw [State.reg_quotaDone _ _ _ (hoff n hn).1, State.reg_quotaDone _ _ _ (hoff n hn).2, hreg, hreg]
    rw [Nat.zero_add] at hshare hbase
    rw [hshare, hbase, Nat.zero_add, ← List.map_take, List.take_range, Nat.min_eq_left hn.le]
    refine ⟨?_, rfl⟩
    rw [List.getD_eq_getElem _ _ (by simpa using hn), List.getElem_map, List.getElem_range]
  · intro hk hix hv
    refine ends_dirCmd h rfl fun u hu => ?_
    obtain ⟨v, hq, hhif⟩ := State.quotaSet_trend (s := u) hr hr' hk hix hv
    have hrate : u.trendRate = s.trendRate := State.trendRate_congr (hu.parts .tarn (by decide)) hu.gecko
    rw [hq, hrate] 
    rw [hrate] at hhif
    refine ⟨hu.quotaDone (by rw [hhif]) (by rw [hhif]) (by rw [hhif]) _, ?_, ?_⟩
    · rw [State.quotaDone_hif d _ hhif]
    · rw [State.quotaDone_hif d _ hhif]
  · intro hk hix hv hv'
    refine ends_dirCmd h rfl fun u hu => ?_
    rw [State.quotaSet_cmd hr hr' hk hix hv hv']
    refine ⟨hu.quotaDone rfl rfl rfl _, rfl, ?_, ?_⟩
    · exact congrArg (fun t => t.quotas.cmd) (State.active_updRegion (s := u)
        (u := { u with hif := { u.hif with cmdQuota := d.arg 0xC 4 } }) (fun t => { t with quotas := { t.quotas with cmd := d.arg 0xC 4 } }) rfl)
    · rw [regsBut_done _ _ _ _ [] _ List.not_mem_nil, State.reg_bump, if_pos rfl]
      exact congrArg (satAdd · 1) (hu.regs Reg.QUOTA_SET_CNT (by decide))
  · refine ⟨_, rfl, ?_⟩
    rw [State.splitApply_applies (s := s.fresh) h]
    exact ⟨rfl, .of_regs rfl rfl _⟩

end Sys2Proof.Machine

/-! PROOFS. Captures, their triggers and their snapshots (R329-R332, R341, R342, Tables 11-4 and 11-7 to 11-11). -/

namespace Sys2Proof.Machine

/-- A field inside a field. -/
theorem fld_of_fld {w : Nat} (v : BitVec w) {lo n lo' n' : Nat} (h : lo ≤ lo') (h' : lo' + n' ≤ lo + n) :
    fld v lo' n' = (fld v lo n >>> (lo' - lo)) % 2 ^ n' := by
  refine Nat.eq_of_testBit_eq fun i => ?_
  simp only [fld, Nat.testBit_mod_two_pow, Nat.testBit_shiftRight]
  by_cases hi : i < n'
  · rw [show lo + (lo' - lo + i) = lo' + i by omega]
    simp [hi, show lo' - lo + i < n by omega]
  · simp [hi]

section

variable {s : State}

theorem State.rfld_of_zero {o : Off} {lo n lo' n' : Nat} (hz : s.rfld o lo n = 0) (h : lo ≤ lo') (h' : lo' + n' ≤ lo + n) :
    s.rfld o lo' n' = 0 := by
  rw [State.rfld, fld_of_fld _ h h', show fld (s.reg o) lo n = 0 from hz, Nat.zero_shiftRight, Nat.zero_mod]

theorem State.capMode_congr {t : State} (h : t.reg Reg.SPAWN_STATUS = s.reg Reg.SPAWN_STATUS) : t.capMode = s.capMode := State.rfld_of_reg h _ _

theorem State.capState_congr {t : State} (h : t.reg Reg.SPAWN_STATUS = s.reg Reg.SPAWN_STATUS) : t.capState = s.capState := State.rfld_of_reg h _ _

/-- MODE off and CAPTURE idle. -/
theorem State.captureOff (s : State) : (s.setRegFld Reg.SPAWN_STATUS 0 6 0).capMode = 0 ∧ (s.setRegFld Reg.SPAWN_STATUS 0 6 0).capState = Cap.idle := by
  have hz : (s.setRegFld Reg.SPAWN_STATUS 0 6 0).rfld Reg.SPAWN_STATUS 0 6 = 0 := s.rfld_setRegFld_self _ _ _ _ (by decide)
  exact ⟨State.rfld_of_zero hz (by decide) (by decide), State.rfld_of_zero hz (by decide) (by decide)⟩

theorem State.setCap_capState (s : State) {c : Nat} (hc : c < 8) : (s.setCap c).capState = c := by
  rw [State.setCap, State.capState, State.rfld_setRegFld_self _ _ _ _ _ (by decide)]
  exact Nat.mod_eq_of_lt hc

theorem State.setCap_capMode (s : State) (c : Nat) : (s.setCap c).capMode = s.capMode := by
  rw [State.setCap, State.capMode, State.rfld_setRegFld_ne _ _ _ _ _ _ _ _ (.inr (.inl (by decide)))]
  rfl

/-- What the elastic split leaves alone: all but its own boundary. -/
theorem State.splitApply_parts (s : State) : PartsBut s s.splitApply [.hif] :=
  fun z hz => same_of_foot [.hif] (fun _ _ => splitApply_foot _ (.refl s)) z hz

theorem regsBut_splitApply (os : List Off) : RegsBut s s.splitApply os := .of_foot [.hif] (fun _ _ => splitApply_foot _ (.refl s)) os

/-! ## SPAWN_CTL (Tables 11-10, 11-11) -/

theorem State.stopCapture_off (s : State) : ∃ t : State, s.stopCapture = t.splitApply ∧ t.capMode = 0 ∧ t.capState = Cap.idle
    ∧ t.spawn.journaling = false ∧ t.spawn.ring = [] ∧ t.hif = s.hif := by
  unfold State.stopCapture
  extract_lets a b c
  have hb : b.hif = s.hif := by
    show (if a.capMode = 1 then a.updSpawn Spawn.endJournal else a).hif = s.hif
    split <;> rfl
  refine ⟨_, rfl, (State.captureOff _).1, (State.captureOff _).2, rfl, rfl, hb⟩

/-- The command behind its first argument checks. -/
theorem State.spawnCtl_taken {d : Desc} (h18 : d.resv 0x18 40 = true) {f : Nat} (hf : d.arg 8 1 = f) (hf3 : f ≤ 3) :
    ¬ (decide (3 < d.arg 8 1) || !d.resv 0x18 40) = true := by
  simp [h18, hf, Nat.not_lt.mpr hf3]

variable {d : Desc} (img : Image)

theorem State.spawnCtl_stop (h18 : d.resv 0x18 40 = true) (hf : d.arg 8 1 = 0) : s.spawnCtl img d = s.stopCapture.done d Status.ok := by
  unfold State.spawnCtl
  refine (if_neg (State.spawnCtl_taken h18 hf (by decide))).trans ?_
  rw [hf]
  simp only []

/-- Without entries FUNC 3 empties the trigger table. -/
theorem State.spawnCtl_noTriggers (h18 : d.resv 0x18 40 = true) (hf : d.arg 8 1 = 3) (hn : d.arg 0xE 2 = 0) (ha : d.aligned 0x10 = true) :
    s.spawnCtl img d = ((s.updSpawn (fun p => { p with trigTable := [] })).setRegFld Reg.SPAWN_TRIG_CFG 16 9 0).done d Status.ok := by
  unfold State.spawnCtl
  refine (if_neg (State.spawnCtl_taken h18 hf (by decide))).trans ?_
  rw [hf]
  simp only [hn, ha, if_true]
  rfl

/-- FUNC 1 behind its checks. -/
theorem State.spawnCtl_continuous (h18 : d.resv 0x18 40 = true) (hf : d.arg 8 1 = 1) (hp : d.arg 0xA 2 ≤ 3600) (hs : 4 ≤ s.spawnShare) :
    s.spawnCtl img d = if s.capturing then s.done d Status.busy else (s.startCapture 1 d).done d Status.ok := by
  unfold State.spawnCtl
  refine (if_neg (State.spawnCtl_taken h18 hf (by decide))).trans ?_
  rw [hf]
  simp [Nat.not_lt.mpr hp, Nat.not_lt.mpr hs]

/-- A CONTINUOUS capture as it starts. -/
theorem State.startCapture_started (s : State) (d : Desc) : (s.startCapture 1 d).capMode = 1 ∧ (s.startCapture 1 d).spawn.ring = []
    ∧ (s.startCapture 1 d).spawn.markWanted = (s.mgmt != Node.setup) ∧ (s.startCapture 1 d).hif = s.hif
    ∧ (s.startCapture 1 d).capState = (if s.mgmt = Node.setup then Cap.armed else Cap.snapshot) := by
  unfold State.startCapture
  extract_lets a b share setup u v w x
  have hb : b.hif = s.hif := by
    show (if d.arg 0xA 2 = 0 then s else s.setRegFld Reg.SPAWN_CFG 0 12 (d.arg 0xA 2)).hif = s.hif
    split <;> rfl
  have hmgmt : b.mgmt = s.mgmt := by
    show (if d.arg 0xA 2 = 0 then s else s.setRegFld Reg.SPAWN_CFG 0 12 (d.arg 0xA 2)).mgmt = s.mgmt
    split
    · rfl
    · exact State.mgmt_congr (regsBut_setRegFld _ _ _ _ _ _ (by decide))
  have hsetup : setup = (s.mgmt == Node.setup) := by rw [← hmgmt]
  have hcap : ∀ y : State, (y.setRegBit Reg.SPAWN_STATUS 5 (!setup)).capMode = y.capMode ∧ (y.setRegBit Reg.SPAWN_STATUS 5 (!setup)).capState = y.capState :=
    fun y => ⟨y.rfld_setRegBit_ne _ _ _ _ _ _ (.inr (.inl (by decide))), y.rfld_setRegBit_ne _ _ _ _ _ _ (.inr (.inl (by decide)))⟩
  refine ⟨?_, rfl, (show (!setup) = _ by rw [hsetup]; rfl), hb, ?_⟩
  · rw [(hcap x).1, State.setCap_capMode]
    exact State.rfld_setRegFld_self _ _ _ _ _ (by decide)
  · rw [(hcap x).2, State.setCap_capState _ (by split <;> decide), hsetup]
    by_cases h : s.mgmt = Node.setup <;> simp [h]

theorem AtHead.capState {u : State} (h : AtHead s u) : u.capState = s.capState := State.capState_congr (h.regs _ (by decide))

theorem AtHead.capMode {u : State} (h : AtHead s u) : u.capMode = s.capMode := State.capMode_congr (h.regs _ (by decide))

theorem AtHead.capturing {u : State} (h : AtHead s u) : u.capturing = s.capturing := by rw [State.capturing, State.capturing, h.capState]

theorem AtHead.spawnShare {u : State} (h : AtHead s u) : u.spawnShare = s.spawnShare := by
  obtain ⟨l, f, c, hhif⟩ := h.hif
  rw [State.spawnShare, State.spawnShare, hhif]

theorem ends_spawnCtl_stop (h : s.Heads 0x50 d) (h18 : d.resv 0x18 40 = true) (hf : d.arg 8 1 = 0) :
    Ends (.spawnCtl img) s (fun t => Answered s t d Status.ok 0 ∧ t.capMode = 0 ∧ t.capState = Cap.idle
      ∧ t.spawn.journaling = false ∧ t.spawn.ring = []) := by
  refine ends_dirCmd h rfl fun u hu => ?_
  obtain ⟨v, hv, hmode, hcap, hj, hr, hhif⟩ := u.stopCapture_off
  rw [State.spawnCtl_stop img h18 hf, hv]
  have hkept := v.splitApply_parts
  have hregs := regsBut_splitApply (s := v) []
  obtain ⟨n, hn⟩ := v.splitApply_eq
  have hq := hu.taken.then (u := v.splitApply) (by rw [hn, ← hhif]) (by rw [hn, ← hhif]) (by rw [hn, ← hhif])
  exact ⟨hq.answered d _ _, (State.capMode_congr (hregs.all _)).trans hmode, (State.capState_congr (hregs.all _)).trans hcap,
    (congrArg Spawn.journaling (hkept .spawn (by decide))).trans hj, (congrArg Spawn.ring (hkept .spawn (by decide))).trans hr⟩

theorem ends_spawnCtl_noTriggers (h : s.Heads 0x50 d) (h18 : d.resv 0x18 40 = true) (hf : d.arg 8 1 = 3) (hn : d.arg 0xE 2 = 0)
    (ha : d.aligned 0x10 = true) :
    Ends (.spawnCtl img) s (fun t => Answered s t d Status.ok 0 ∧ t.spawn.trigTable = [] ∧ t.rfld Reg.SPAWN_TRIG_CFG 16 9 = 0) := by
  refine ends_dirCmd h rfl fun u hu => ?_
  rw [State.spawnCtl_noTriggers img h18 hf hn ha]
  exact ⟨(hu.taken.then_hif rfl).answered d _ _, rfl, State.rfld_setRegFld_self _ _ _ _ _ (by decide)⟩

/-- What the start of a CONTINUOUS capture leaves. -/
def CaptureStarted (s t : State) (d : Desc) : Prop :=
  Answered s t d Status.ok 0 ∧ t.capMode = 1 ∧ t.spawn.ring = []
    ∧ t.spawn.markWanted = (s.mgmt != Node.setup) ∧ t.capState = (if s.mgmt = Node.setup then Cap.armed else Cap.snapshot)

theorem HeadTaken.captureStarted {v : State} (h : HeadTaken s v) (hmode : v.capMode = 1) (hring : v.spawn.ring = [])
    (hmark : v.spawn.markWanted = (s.mgmt != Node.setup)) (hcap : v.capState = (if s.mgmt = Node.setup then Cap.armed else Cap.snapshot)) :
    CaptureStarted s (v.done d Status.ok) d := ⟨h.answered d _ _, hmode, hring, hmark, hcap⟩

theorem ends_spawnCtl_start (h : s.Heads 0x50 d) (h18 : d.resv 0x18 40 = true) (hf : d.arg 8 1 = 1) (hp : d.arg 0xA 2 ≤ 3600)
    (hs : 4 ≤ s.spawnShare) (hc : s.capturing = false) : Ends (.spawnCtl img) s (fun t => CaptureStarted s t d) := by
  refine ends_dirCmd h rfl fun u hu => ?_
  obtain ⟨hmode, hring, hmark, hhif, hcap⟩ := u.startCapture_started d
  have hmgmt : u.mgmt = s.mgmt := State.mgmt_congr (hu.regs _ (by decide))
  rw [hmgmt] at hmark hcap
  rw [State.spawnCtl_continuous img h18 hf hp (by rw [hu.spawnShare]; exact hs), hu.capturing, hc]
  exact (hu.taken.then_hif hhif).captureStarted hmode hring hmark hcap

theorem ends_spawnCtl_busy (h : s.Heads 0x50 d) (h18 : d.resv 0x18 40 = true) (hf : d.arg 8 1 = 1) (hp : d.arg 0xA 2 ≤ 3600)
    (hs : 4 ≤ s.spawnShare) (hc : s.capturing = true) :
    Ends (.spawnCtl img) s (fun t => Answered s t d Status.busy 0 ∧ t.spawn = s.spawn) := by
  refine ends_dirCmd h rfl fun u hu => ?_
  rw [State.spawnCtl_continuous img h18 hf hp (by rw [hu.spawnShare]; exact hs), if_pos (by rw [hu.capturing, hc])]
  exact ⟨hu.answered d _ _, hu.parts .spawn (by decide)⟩

end

section

variable {s : State} {d : Desc}

/-! ## SPAWN_TRIGGER (R336, R337, R342) -/

/-- The trigger that acts. -/
theorem State.trigger_acts (isn : U64) (hm : s.capMode = 2) (hj : s.spawn.journaling = true) (ht : s.spawn.triggered = false)
    (hc : s.capState = Cap.recording) : (s.trigger isn).spawn.triggered = true ∧ (s.trigger isn).capState = Cap.postTrigger
      ∧ (s.trigger isn).reg Reg.SPAWN_TRIG_CNT = satAdd (s.reg Reg.SPAWN_TRIG_CNT) 1
      ∧ (s.trigger isn).pair Reg.SPAWN_TRIG_ISN_LO Reg.SPAWN_TRIG_ISN_HI = isn ∧ (s.trigger isn).hif = s.hif := by
  unfold State.trigger
  rw [if_neg (by simp [hm, hj]), if_neg (by simp [ht]), if_pos (by simp [hc])]
  extract_lets u v
  have hraise := regsBut_raise ((v.bump Reg.SPAWN_TRIG_CNT).setCap Cap.postTrigger) Reg.SPAWN_EVT 1
  have hset : RegsBut v ((v.bump Reg.SPAWN_TRIG_CNT).setCap Cap.postTrigger) [Reg.SPAWN_TRIG_CNT, Reg.SPAWN_STATUS] :=
    ((regsBut_bump v _).mono (by simp)).trans ((regsBut_setRegFld _ _ _ _ _).mono (by simp))
  refine ⟨?_, ?_, ?_, ?_, ?_⟩
  · rw [State.raise_spawn]
    rfl
  · exact (State.capState_congr (hraise _ (by decide))).trans (State.setCap_capState _ (by decide))
  · rw [hraise _ (by decide), State.setCap, State.reg_setRegFld, if_neg (by decide), State.reg_bump, if_pos rfl]
    exact congrArg (satAdd · 1) (regsBut_setPair s _ _ isn _ (by decide))
  · refine (State.pair_of_regs (s := v) ?_ ?_).trans (State.pair_setPair _ (by decide) isn)
    · rw [hraise _ (by decide), hset _ (by decide)]
    · rw [hraise _ (by decide), hset _ (by decide)]
  · rw [State.raise_hif]
    rfl

theorem ends_spawnTrigger (h : s.Heads 0x51 d) (hm : s.capMode = 2) (hj : s.spawn.journaling = true) (hr : s.rbit Reg.SPAWN_TRIG_CFG 2 = true)
    (ht : s.spawn.triggered = false) (hc : s.capState = Cap.recording) :
    Ends .spawnTrigger s (fun t => Answered s t d Status.ok s.inlet.isn ∧ t.spawn.triggered = true ∧ t.capState = Cap.postTrigger
      ∧ t.reg Reg.SPAWN_TRIG_CNT = satAdd (s.reg Reg.SPAWN_TRIG_CNT) 1
      ∧ t.pair Reg.SPAWN_TRIG_ISN_LO Reg.SPAWN_TRIG_ISN_HI = s.inlet.isn) := by
  refine ends_dirCmd h rfl fun u hu => ?_
  have hspawn : u.spawn = s.spawn := hu.parts .spawn (by decide)
  have hinlet : u.inlet = s.inlet := hu.parts .inlet (by decide)
  obtain ⟨htrig, hcap, hcnt, hpair, hhif⟩ := State.trigger_acts (s := u) u.inlet.isn (hu.capMode.trans hm) (by rw [hspawn]; exact hj)
    (by rw [hspawn]; exact ht) (hu.capState.trans hc)
  unfold State.spawnTrigger
  rw [if_neg (by simp [hu.capMode, hm, hspawn, hj, State.rbit_of_reg (hu.regs Reg.SPAWN_TRIG_CFG (by decide)), hr]), if_neg (by simp [hspawn, ht])]
  generalize u.trigger u.inlet.isn = v at htrig hcap hcnt hpair hhif ⊢
  rw [hinlet] at hpair ⊢
  exact ⟨(hu.taken.then_hif hhif).answered d _ _, htrig, hcap, hcnt.trans (congrArg (satAdd · 1) (hu.regs _ (by decide))), hpair⟩

theorem ends_spawnTrigger_state (h : s.Heads 0x51 d) (hm : s.capMode ≠ 2) :
    Ends .spawnTrigger s (fun t => Answered s t d Status.state 0 ∧ t.spawn = s.spawn) := by
  refine ends_dirCmd h rfl fun u hu => ?_
  unfold State.spawnTrigger
  rw [if_pos (by simp [hu.capMode, hm])]
  exact ⟨hu.answered d _ _, hu.parts .spawn (by decide)⟩

end

section

variable {s : State}

/-! ## Snapshots (Table 11-4) -/

theorem State.markOffer_offers (hm : s.mgmt = Node.run) (hw : s.spawn.markWanted = true) (hmw : s.markWaits = false) (hb : s.inlet.barriers = [])
    (hc : s.inlet.cmds.any CmdUnit.cfg = false) :
    s.markOffer.spawn = { s.spawn with markWanted := false, snapping := true }
    ∧ ∃ r : InRec, s.markOffer.inlet.waiting = s.inlet.waiting ++ [(Place.gecko, r)] ∧ r.kind = Kind.mark ∧ r.ext = [] ∧ r.time = s.now := by
  unfold State.markOffer
  rw [if_neg (by simp [hm, hw, hmw, hb, hc])]
  obtain ⟨n, hwait, -, -, -⟩ := State.offer_credit (s := s.updSpawn (fun p => { p with markWanted := false, snapping := true })) (pl := Place.gecko)
    { time := s.now, source := mkSource 8 0, kind := Kind.mark } rfl
  exact ⟨rfl, _, hwait, rfl, rfl, rfl⟩

theorem State.copyComplete_pushes {e : EngineId} {pts : Region PtState} {grs : Region GrState} {isn : U64}
    (hst : s.spawn.staging = some (e, pts, grs, isn)) (hno : s.spawn.units.any s.spawn.isSnap = false) :
    ∃ u : SpawnUnit, u.kind = 0 ∧ u.snap = some isn ∧ u.closed = true
      ∧ u.bytes = (s.snapRegions pts grs).flatMap (fun r => sectionBytes e isn r.1 r.2)
      ∧ (s.capMode ≠ 1 → s.copyComplete.spawn.units = s.spawn.units ++ [u])
      ∧ (s.capMode = 1 → ∃ j : SpawnUnit, s.copyComplete.spawn.units = s.spawn.units ++ [u, j] ∧ j.kind = 1 ∧ j.closed = false) := by
  unfold State.copyComplete
  rw [hst]
  simp only []
  rw [if_neg (by simp [hno])]
  have hmode : ∀ x, (s.pushUnit x).capMode = s.capMode := fun _ => rfl
  generalize (s.snapRegions pts grs).flatMap (fun r => sectionBytes e isn r.1 r.2) = l
  refine ⟨{ kind := 0, bytes := l, snap := some isn, closed := true, restart := !s.spawn.numbered }, rfl, rfl, rfl, rfl, fun h => ?_, fun h => ?_⟩
  · rw [if_neg (by rw [hmode]; exact h)]
    rfl
  · rw [if_pos (by rw [hmode]; exact h)]
    exact ⟨{ kind := 1, restart := false }, List.append_assoc _ _ _, rfl, rfl⟩

/-- What the end of SNAP_TIMEOUT leaves, whatever the mode. -/
structure SnapOver (s t : State) : Prop where
  idle : t.snapUnderWay = false
  busy : t.rbit Reg.SPAWN_STATUS 5 = false
  event : t.rbit Reg.SPAWN_EVT 2 = true
  count : t.reg Reg.SPAWN_SNAP_FAIL_CNT = satAdd (s.reg Reg.SPAWN_SNAP_FAIL_CNT) 1

/-- What keeps the four. -/
theorem SnapOver.then {t u : State} (h : SnapOver s t) (hidle : u.snapUnderWay = t.snapUnderWay) (hregs : RegsBut t u [Reg.SPAWN_STATUS])
    (hbusy : u.rbit Reg.SPAWN_STATUS 5 = false) : SnapOver s u where
  idle := hidle.trans h.idle
  busy := hbusy
  event := (State.rbit_of_reg (hregs _ (by decide)) 2).trans h.event
  count := (hregs _ (by decide)).trans h.count

theorem State.snapShown {c : State} (hregs : RegsBut s c []) (hidle : c.snapUnderWay = false) :
    SnapOver s (((c.setRegBit Reg.SPAWN_STATUS 5 false).raise Reg.SPAWN_EVT 4).bump Reg.SPAWN_SNAP_FAIL_CNT) where
  idle := by
    rw [State.snapUnderWay, State.bump_spawn, State.raise_spawn]
    exact hidle
  busy := by simp [Reg.SPAWN_STATUS, Reg.SPAWN_EVT, Reg.SPAWN_SNAP_FAIL_CNT, Reg.MSIX_PBA]
  event := by
    rw [State.rbit_bump _ _ _ _ (by decide)]
    exact State.rbit_raise_self _ Reg.SPAWN_EVT 4 2 (by decide) (by decide)
  count := by
    rw [State.reg_bump, if_pos rfl, regsBut_raise _ _ _ _ (by decide), State.reg_setRegBit, if_neg (by decide), hregs.all]

/-- MODE off behind it. -/
theorem SnapOver.captureEnded {t y : State} (h : SnapOver s t) (hregs : RegsBut t y []) (hidle : y.snapUnderWay = t.snapUnderWay)
    (hj : y.spawn.journaling = false) : SnapOver s (y.setRegFld Reg.SPAWN_STATUS 0 6 0).splitApply
      ∧ (y.setRegFld Reg.SPAWN_STATUS 0 6 0).splitApply.capMode = 0 ∧ (y.setRegFld Reg.SPAWN_STATUS 0 6 0).splitApply.spawn.journaling = false := by
  have hsplit := regsBut_splitApply (s := y.setRegFld Reg.SPAWN_STATUS 0 6 0) []
  have hspawn : (y.setRegFld Reg.SPAWN_STATUS 0 6 0).splitApply.spawn = y.spawn := State.splitApply_parts _ .spawn (by decide)
  refine ⟨h.then ?_ ?_ ?_, (State.capMode_congr (hsplit.all _)).trans y.captureOff.1, by rw [hspawn, hj]⟩
  · rw [← hidle, State.snapUnderWay, State.snapUnderWay, hspawn]
  · exact ((hregs.mono (List.nil_subset _)).trans (regsBut_setRegFld _ _ _ _ _)).trans (hsplit.mono (List.nil_subset _))
  · rw [State.rbit_of_reg (hsplit.all _), State.rbit_setRegFld, if_pos ⟨rfl, by decide, by decide, by decide⟩]
    rfl

theorem State.snapExpire_expires (h : s.snapUnderWay = true) : SnapOver s s.snapExpire
    ∧ (s.capMode = 1 → s.snapExpire.capMode = 0 ∧ s.snapExpire.spawn.journaling = false) := by
  unfold State.snapExpire
  rw [if_neg (by simp [h])]
  extract_lets had a b c e
  have hregs : RegsBut s c [] := .of_regs (by show b.regs = s.regs; simp only [b]; split <;> rfl) (by show b.behavBoot = _; simp only [b]; split <;> rfl) _
  have hover : c.snapUnderWay = false := rfl
  have he : SnapOver s e := State.snapShown hregs hover
  have hmode : e.capMode = s.capMode := by
    have hraise := regsBut_raise (c.setRegBit Reg.SPAWN_STATUS 5 false) Reg.SPAWN_EVT 4
    have hbump := regsBut_bump ((c.setRegBit Reg.SPAWN_STATUS 5 false).raise Reg.SPAWN_EVT 4) Reg.SPAWN_SNAP_FAIL_CNT
    calc e.capMode = (c.setRegBit Reg.SPAWN_STATUS 5 false).capMode := State.capMode_congr ((hbump _ (by decide)).trans (hraise _ (by decide)))
      _ = c.capMode := c.rfld_setRegBit_ne _ _ _ _ _ _ (.inr (.inl (by decide)))
      _ = s.capMode := State.capMode_congr (hregs.all _)
  clear_value e
  by_cases hm : s.capMode = 1
  · rw [if_pos (hmode.trans hm)]
    have hend := fun f hf hj => he.captureEnded (y := e.updSpawn f) (.of_regs rfl rfl _) hf hj
    exact ⟨(hend _ rfl rfl).1, fun _ => (hend _ rfl rfl).2⟩
  · rw [if_neg (by rw [hmode]; exact hm)]
    refine ⟨?_, fun h1 => absurd h1 hm⟩
    split
    · exact he.then rfl (regsBut_setRegFld _ _ _ _ _) ((State.rbit_setRegFld _ _ _ _ _ _ _).trans (by simpa using he.busy))
    · exact he

end

/-- Settles O37. -/
theorem capturesAndSnapshots : Obligations.CapturesAndSnapshots := by
  unfold Obligations.CapturesAndSnapshots
  refine ⟨⟨fun s d img h h18 => ⟨ends_spawnCtl_stop img h h18, ends_spawnCtl_noTriggers img h h18,
    ends_spawnCtl_start img h h18, ends_spawnCtl_busy img h h18⟩, fun s d h => ⟨?_, ?_⟩⟩, fun s hm hw hmw hb hc => ?_, fun s e pts grs isn hst hno => ?_, fun s h => ?_⟩
  · exact ends_spawnTrigger h
  · exact ends_spawnTrigger_state h
  · exact ⟨_, rfl, State.markOffer_offers (s := s.fresh) hm hw hmw hb hc⟩
  · exact ⟨_, rfl, State.copyComplete_pushes (s := s.fresh) hst hno⟩
  · obtain ⟨hover, hmode⟩ := State.snapExpire_expires (s := s.fresh) h
    exact ⟨_, rfl, hover.idle, hover.busy, hover.event, hover.count, hmode⟩

end Sys2Proof.Machine

/-! PROOFS. Spawn's buffers, checkpoints and the frozen window (R326, R327, R337, R339). -/

namespace Sys2Proof.Machine

section

variable {s : State}

/-! ## The buffers of SPAWN_OUT (R339) -/

/-- A ring that was not in ERROR stops with its code. -/
theorem State.ringError_stops (s : State) {n : Nat} (hn : n < 32) {code : Nat} (hc : code < 8) (h : s.rbit (Reg.RING_STATUS n) 2 = false) :
    (s.ringError n code).rbit (Reg.RING_STATUS n) 2 = true ∧ (s.ringError n code).rfld (Reg.RING_STATUS n) 4 3 = code := by
  have hoff : ∀ n < 32, Reg.RING_STATUS n ≠ Reg.RING_ERR_CNT n ∧ Reg.RING_STATUS n ≠ Reg.HIF_EVT ∧ Reg.RING_STATUS n ≠ Reg.MSIX_PBA 0 := by decide
  obtain ⟨h1, h2, h3⟩ := hoff n hn
  unfold State.ringError
  rw [if_neg (by simp [h])]
  extract_lets u
  have hkept : ((u.bump (Reg.RING_ERR_CNT n)).raise Reg.HIF_EVT 2).reg (Reg.RING_STATUS n) = u.reg (Reg.RING_STATUS n) := by
    rw [State.reg_raise _ _ _ _ h3, if_neg h2, State.reg_bump, if_neg h1]
  refine ⟨(State.rbit_of_reg hkept 2).trans ?_, (State.rfld_of_reg hkept 4 3).trans ?_⟩
  · simp [u]
  · exact (State.rfld_setRegFld_self _ _ _ _ _ (by decide)).trans (Nat.mod_eq_of_lt hc)

/-- A posted buffer takes its ring's next place. -/
theorem State.postBuffer_posts (s : State) {n : Nat} (hn : n < 32) (a : Nat) (desc data : List Byte) :
    (s.postBuffer n (some a) desc data).reg (Reg.RING_NODE_IDX n) = s.reg (Reg.RING_NODE_IDX n) + 1
    ∧ Output.hostRead (s.ringSlot n (s.reg (Reg.RING_NODE_IDX n))) 8 ∈ (s.postBuffer n (some a) desc data).out
    ∧ Output.hostWrite a data ∈ (s.postBuffer n (some a) desc data).out
    ∧ Output.ringEntry n (s.reg (Reg.RING_NODE_IDX n)) (s.ringSlot n (s.reg (Reg.RING_NODE_IDX n)) + 8) desc
      ∈ (s.postBuffer n (some a) desc data).out := by
  unfold State.postBuffer
  extract_lets i u
  have hout := State.advanceRing_out ((u.emitOut (.hostWrite a data)).emitOut (.ringEntry n i (u.ringSlot n i + 8) desc)) n false
  refine ⟨State.reg_advanceRing_idx _ n false hn, hout.subset ?_, hout.subset ?_, hout.subset ?_⟩
  · simp [u, State.emitOut, i]
  · simp [State.emitOut]
  · simp [State.emitOut, i]
    exact .inr rfl

theorem regsBut_postBuffer (n a : Nat) (desc data : List Byte) :
    RegsBut s (s.postBuffer n (some a) desc data) [Reg.RING_NODE_IDX n, Reg.RING_ENTRY_CNT n, Reg.MSIX_PBA 0] := by
  unfold State.postBuffer
  exact regsBut_advanceRing (((s.emitOut _).emitOut _).emitOut _) n false

theorem State.snapshotSent_kept (s : State) (isn : U64) : (s.snapshotSent isn).spawn.units = s.spawn.units
    ∧ (s.snapshotSent isn).spawn.kept = s.spawn.kept ∧ (s.snapshotSent isn).out = s.out
    ∧ RegsBut s (s.snapshotSent isn) [Reg.SPAWN_STATUS, Reg.SPAWN_SNAP_CNT] := by
  unfold State.snapshotSent
  extract_lets now u v
  have hu : RegsBut s u [Reg.SPAWN_STATUS, Reg.SPAWN_SNAP_CNT] := (regsBut_bump (s.updSpawn _) _).mono (by simp)
  have hv : RegsBut s v [Reg.SPAWN_STATUS, Reg.SPAWN_SNAP_CNT] := hu.trans ((regsBut_setRegBit (u.updSpawn _) _ _ _).mono (by simp))
  split
  · exact ⟨rfl, rfl, rfl, hu⟩
  · split
    · exact ⟨rfl, rfl, rfl, hv.trans ((regsBut_setRegFld _ _ _ _ _).mono (by simp))⟩
    · exact ⟨rfl, rfl, rfl, hv⟩

/-- The end of a unit leaves the units, the kept buffers, the ring and what is put outside alone. -/
theorem State.unitSent_kept (s : State) (u : SpawnUnit) : (s.unitSent u).spawn.units = s.spawn.units ∧ (s.unitSent u).spawn.kept = s.spawn.kept
    ∧ (s.unitSent u).out = s.out ∧ RegsBut s (s.unitSent u) [Reg.SPAWN_STATUS, Reg.SPAWN_SNAP_CNT] := by
  unfold State.unitSent
  split
  · exact ⟨rfl, rfl, rfl, .refl _ _⟩
  · split
    · exact s.snapshotSent_kept _
    · split
      · obtain ⟨n, hn⟩ := (s.setCap Cap.done).splitApply_eq
        rw [hn]
        exact ⟨rfl, rfl, rfl, (regsBut_setRegFld s _ _ _ _).mono (by simp)⟩
      · exact ⟨rfl, rfl, rfl, .refl _ _⟩

/-- The buffer that takes the unit's next bytes. -/
def SpawnUnit.buffer (u : SpawnUnit) (seq : U32) : SpawnBuf where
  len := (u.bytes.take 4096).length
  dflags := BitVec.ofNat 16 (b2n (decide (u.bytes.length ≤ 4096)) + 2 * b2n (decide (u.bytes.length ≤ 4096) && u.err) + 4 * u.kind + 32 * b2n u.first)
  info := if u.restart && u.first then 1 else seq + 1
  data := u.bytes.take 4096

/-- Spawn behind the buffer. -/
def Spawn.buffered (p : Spawn) (u : SpawnUnit) (rest : List SpawnUnit) : Spawn :=
  { p with units := if decide (u.bytes.length ≤ 4096) then rest else { u with bytes := u.bytes.drop 4096, first := false } :: rest,
           seq := (u.buffer p.seq).info, kept := p.kept ++ [u.buffer p.seq] }

/-- The buffer on the ring. -/
def State.bufferPosted (s : State) (u : SpawnUnit) (rest : List SpawnUnit) (n : U64) (a : Nat) : State :=
  (State.setPair { s with spawn := s.spawn.buffered u rest } Reg.SPAWN_BYTES_LO Reg.SPAWN_BYTES_HI n).postBuffer 7 (some a)
    (u.buffer s.spawn.seq).desc (u.buffer s.spawn.seq).data

theorem State.writeBuf_closed {u : SpawnUnit} {rest : List SpawnUnit} (hu : s.spawn.units = u :: rest) (hc : u.closed = true) (a : Nat) :
    ∃ n, s.writeBuf a = if decide (u.bytes.length ≤ 4096) then (s.bufferPosted u rest n a).unitSent u else s.bufferPosted u rest n a := by
  have hnext : s.spawn.nextBuffer u = some (u.bytes.take 4096, decide (u.bytes.length ≤ 4096), s.spawn, { u with bytes := u.bytes.drop 4096 }) := by
    rw [Spawn.nextBuffer, if_neg (by simp [hc]), if_pos hc]
  unfold State.writeBuf
  rw [hu]
  simp only [hnext]
  exact ⟨_, rfl⟩

theorem State.bufferPosted_posts (s : State) (u : SpawnUnit) (rest : List SpawnUnit) (n : U64) (a : Nat) :
    (s.bufferPosted u rest n a).spawn = s.spawn.buffered u rest
    ∧ (s.bufferPosted u rest n a).reg (Reg.RING_NODE_IDX 7) = s.reg (Reg.RING_NODE_IDX 7) + 1
    ∧ Output.hostRead (s.ringSlot 7 (s.reg (Reg.RING_NODE_IDX 7))) 8 ∈ (s.bufferPosted u rest n a).out
    ∧ Output.hostWrite a (u.buffer s.spawn.seq).data ∈ (s.bufferPosted u rest n a).out
    ∧ Output.ringEntry 7 (s.reg (Reg.RING_NODE_IDX 7)) (s.ringSlot 7 (s.reg (Reg.RING_NODE_IDX 7)) + 8) (u.buffer s.spawn.seq).desc
      ∈ (s.bufferPosted u rest n a).out := by
  have hx : RegsBut s (State.setPair { s with spawn := s.spawn.buffered u rest } Reg.SPAWN_BYTES_LO Reg.SPAWN_BYTES_HI n)
      [Reg.SPAWN_BYTES_LO, Reg.SPAWN_BYTES_HI] := regsBut_setPair { s with spawn := s.spawn.buffered u rest } _ _ n
  have hslot := State.ringSlot_congr (n := 7) (i := s.reg (Reg.RING_NODE_IDX 7)) (hx _ (by decide)) (hx _ (by decide)) (hx _ (by decide))
  have hpost := (State.setPair { s with spawn := s.spawn.buffered u rest } Reg.SPAWN_BYTES_LO Reg.SPAWN_BYTES_HI n).postBuffer_posts (n := 7)
    (by decide) a (u.buffer s.spawn.seq).desc (u.buffer s.spawn.seq).data
  rw [hx _ (by decide), hslot] at hpost
  exact ⟨same_of_foot [.regs, .hif] (fun _ _ => postBuffer_foot _ _ _ _ _ (.refl (State.setPair _ _ _ n))) .spawn, hpost⟩

/-- A buffer of the oldest unit as SPAWN_OUT takes it. -/
def BufferWritten (s t : State) (u : SpawnUnit) (rest : List SpawnUnit) (a : Nat) : Prop :=
  t.reg (Reg.RING_NODE_IDX 7) = s.reg (Reg.RING_NODE_IDX 7) + 1
    ∧ (∃ b : SpawnBuf, t.spawn.kept = s.spawn.kept ++ [b] ∧ b.data = u.bytes.take 4096
        ∧ b.info = (if u.restart && u.first then 1 else s.spawn.seq + 1)
        ∧ Output.hostRead (s.ringSlot 7 (s.reg (Reg.RING_NODE_IDX 7))) 8 ∈ t.out ∧ Output.hostWrite a b.data ∈ t.out
        ∧ Output.ringEntry 7 (s.reg (Reg.RING_NODE_IDX 7)) (s.ringSlot 7 (s.reg (Reg.RING_NODE_IDX 7)) + 8) b.desc ∈ t.out)
    ∧ (u.bytes.length ≤ 4096 → t.spawn.units = rest)
    ∧ (4096 < u.bytes.length → t.spawn.units = { u with bytes := u.bytes.drop 4096, first := false } :: rest)

/-- The next buffer of a closed unit (R339). -/
theorem State.writeBuf_writes {u : SpawnUnit} {rest : List SpawnUnit} (hu : s.spawn.units = u :: rest) (hc : u.closed = true) (a : Nat) :
    BufferWritten s (s.writeBuf a) u rest a := by
  obtain ⟨n, hn⟩ := State.writeBuf_closed hu hc a
  obtain ⟨hspawn, hidx, hread, hwrite, hentry⟩ := s.bufferPosted_posts u rest n a
  rw [hn]
  generalize s.bufferPosted u rest n a = y at hspawn hidx hread hwrite hentry ⊢
  obtain ⟨hsu, hsk, hso, hsr⟩ := y.unitSent_kept u
  by_cases hlast : u.bytes.length ≤ 4096
  · rw [if_pos (by simpa using hlast)]
    refine ⟨(hsr _ (by decide)).trans hidx, ⟨u.buffer s.spawn.seq, ?_, rfl, rfl, ?_, ?_, ?_⟩, fun _ => ?_, fun h => absurd hlast (Nat.not_le.mpr h)⟩
    · rw [hsk, hspawn]
      rfl
    · rw [hso]; exact hread
    · rw [hso]; exact hwrite
    · rw [hso]; exact hentry
    · rw [hsu, hspawn]
      exact if_pos (by simpa using hlast)
  · rw [if_neg (by simpa using hlast)]
    refine ⟨hidx, ⟨u.buffer s.spawn.seq, ?_, rfl, rfl, hread, hwrite, hentry⟩, fun h => absurd h hlast, fun _ => ?_⟩
    · rw [hspawn]
      rfl
    · rw [hspawn]
      exact if_neg (by simpa using hlast)

/-- What SPAWN_OUT does with a buffer ready and the ring's credit. -/
theorem State.spawnOut_ready {u : SpawnUnit} {rest : List SpawnUnit} (hcr : 0 < s.ringCredit 7) (hun : s.spawn.unwritten = 0)
    (hu : s.spawn.units = u :: rest) (hc : u.closed = true) (addr : Option Nat) :
    s.spawnOut addr = match addr with | none => s.postBuffer 7 none [] [] | some a => s.writeBuf a := by
  have hnext : (s.spawn.nextBuffer u).isSome = true := by
    rw [Spawn.nextBuffer, if_neg (by simp [hc]), if_pos hc]
    rfl
  have hready : s.bufReady = true := by
    unfold State.bufReady
    rw [hu]
    simp [hnext]
  unfold State.spawnOut
  refine (if_neg (by simp [hready, Nat.pos_iff_ne_zero.mp hcr])).trans ?_
  cases addr with
  | none => rfl
  | some a => exact if_neg (by simp [hun])

/-! ## Checkpoints (R326) -/

/-- Records have gone into the ring: the ring's own parts alone have moved. -/
structure RingPut (s t : State) (l : List (List Byte)) : Prop where
  spawn : ∃ r k w, t.spawn = { s.spawn with ring := r, torn := k, wrote := w }
  regs : RegsBut s t [Reg.SPAWN_LAST_ISN_LO, Reg.SPAWN_LAST_ISN_HI]
  ring : s.capMode ≠ 2 → t.spawn.ring = s.spawn.ring ++ l

theorem RingPut.capMode {t : State} {l : List (List Byte)} (h : RingPut s t l) : t.capMode = s.capMode :=
  State.capMode_congr (h.regs _ (by decide))

theorem State.ringPut_puts (s : State) (b : List Byte) : RingPut s (s.ringPut b) [b] := by
  unfold State.ringPut
  extract_lets ring fill cap cut u v
  have hu : RegsBut s u [] := .of_foot [.gecko] (fun _ _ => lineWritten_foot _ _ _ (.refl s)) []
  have hsp : u.spawn = s.spawn := same_of_foot [.gecko] (fun _ _ => lineWritten_foot _ _ _ (.refl s)) .spawn
  have hv : RegsBut s v [Reg.SPAWN_LAST_ISN_LO, Reg.SPAWN_LAST_ISN_HI] :=
    (hu.mono (List.nil_subset _)).trans (.of_regs rfl rfl _)
  refine ⟨⟨cut.1, cut.2, u.spawn.wrote + b.length, ?_⟩, hv.trans (regsBut_setPair v _ _ _), fun hm => ?_⟩
  · rw [← hsp]
    rfl
  · exact congrArg Prod.fst (if_neg hm)

theorem State.foldl_ringPut (l : List (List Byte)) (s : State) : RingPut s (l.foldl (fun s b => s.ringPut b) s) l := by
  induction l generalizing s with
  | nil => exact ⟨⟨_, _, _, rfl⟩, .refl _ _, fun _ => (List.append_nil _).symm⟩
  | cons b l ih =>
    have hb := s.ringPut_puts b
    have hl := ih (s.ringPut b)
    obtain ⟨r, k, w, hsp⟩ := hb.spawn
    obtain ⟨r', k', w', hsp'⟩ := hl.spawn
    refine ⟨⟨r', k', w', by rw [List.foldl_cons, hsp', hsp]⟩, hb.regs.trans hl.regs, fun hm => ?_⟩
    rw [List.foldl_cons, hl.ring (by rw [hb.capMode]; exact hm), hb.ring hm, List.append_assoc]
    rfl

/-- The records behind the checkpoint follow it. -/
theorem State.putBehind_puts (s : State) : s.putBehind.spawn.behind = [] ∧ s.putBehind.spawn.ckptDue = s.spawn.ckptDue
    ∧ s.putBehind.spawn.ckptNo = s.spawn.ckptNo ∧ RegsBut s s.putBehind [Reg.SPAWN_LAST_ISN_LO, Reg.SPAWN_LAST_ISN_HI]
    ∧ (s.capMode ≠ 2 → s.putBehind.spawn.ring = s.spawn.ring ++ s.spawn.behind) := by
  have h := State.foldl_ringPut s.spawn.behind (s.updSpawn (fun p => { p with behind := [] }))
  unfold State.putBehind
  obtain ⟨r, k, w, hsp⟩ := h.spawn
  exact ⟨by rw [hsp]; rfl, by rw [hsp]; rfl, by rw [hsp]; rfl, h.regs, h.ring⟩

/-- A checkpoint's snapshot leaves the checkpoint's own bookkeeping alone. -/
theorem State.ckptSnapshot_kept (s : State) (recs : List Byte) : (s.ckptSnapshot recs).spawn.ckptDue = s.spawn.ckptDue
    ∧ (s.ckptSnapshot recs).spawn.ckptNo = s.spawn.ckptNo ∧ (s.ckptSnapshot recs).spawn.behind = s.spawn.behind
    ∧ RegsBut s (s.ckptSnapshot recs) [Reg.SPAWN_STATUS, Reg.SPAWN_SNAP_SKIP_CNT] := by
  unfold State.ckptSnapshot
  split
  · exact ⟨rfl, rfl, rfl, .refl _ _⟩
  · split
    · unfold State.ckptGiveUp
      split
      · exact ⟨rfl, rfl, rfl, (regsBut_setRegBit (s.updSpawn _) _ _ _).mono (by simp)⟩
      · exact ⟨rfl, rfl, rfl, .refl _ _⟩
    · split
      · exact ⟨rfl, rfl, rfl, (regsBut_bump (s.pushUnit _) _).mono (by simp)⟩
      · exact ⟨rfl, rfl, rfl, .of_regs rfl rfl _⟩

/-- The CHECKPOINT records have gone into the ring. -/
structure CkptPut (s t : State) (recs : List (List Byte)) : Prop where
  due : t.spawn.ckptDue = none
  no : t.spawn.ckptNo = s.spawn.ckptNo + 1
  behind : t.spawn.behind = s.spawn.behind
  shown : t.reg Reg.SPAWN_CKPT_NO = (s.spawn.ckptNo + 1).zeroExtend 32
  mode : t.capMode = s.capMode
  ring : s.capMode ≠ 2 → t.spawn.ring = s.spawn.ring ++ recs

/-- The records go into the ring under the next number, and their bytes count behind a trigger. -/
def State.ckptWritten (s : State) (recs : List (List Byte)) (no : U16) (differ after : Bool) : State :=
  let s := recs.foldl (fun s b => s.ringPut b) (s.updSpawn (fun p => { p with ckptNo := no }))
  let s := if after then s.countPost recs.flatten.length else s
  let s := s.setReg Reg.SPAWN_CKPT_NO (no.zeroExtend 32)
  if differ then (s.raise Reg.SPAWN_EVT 8).bump Reg.SPAWN_CKPT_DIFF_CNT else s

theorem State.ckptWritten_put {u : State} (hu : u = s.updSpawn (fun p => { p with ckptDue := none })) (recs : List (List Byte)) (differ after : Bool) :
    CkptPut s (u.ckptWritten recs (s.spawn.ckptNo + 1) differ after) recs := by
  have hput := State.foldl_ringPut recs (u.updSpawn (fun p => { p with ckptNo := s.spawn.ckptNo + 1 }))
  have hsu : (u.updSpawn (fun p => { p with ckptNo := s.spawn.ckptNo + 1 })).spawn = { s.spawn with ckptDue := none, ckptNo := s.spawn.ckptNo + 1 } := by
    rw [hu]; rfl
  have hmu : (u.updSpawn (fun p => { p with ckptNo := s.spawn.ckptNo + 1 })).capMode = s.capMode := by rw [hu]; rfl
  unfold State.ckptWritten
  extract_lets v w x
  rw [show recs.foldl (fun s b => s.ringPut b) (u.updSpawn (fun p => { p with ckptNo := s.spawn.ckptNo + 1 })) = v from rfl] at hput
  obtain ⟨r, k, wr, hsp⟩ := hput.spawn
  have hmode : v.capMode = s.capMode := hput.capMode.trans hmu
  have hring : s.capMode ≠ 2 → v.spawn.ring = s.spawn.ring ++ recs := fun hm => by
    rw [hput.ring (by rw [hmu]; exact hm), hsu]
  rw [hsu] at hsp
  clear_value v
  have hw : ∃ post, w.spawn = { v.spawn with post := post } ∧ w.capMode = v.capMode := by
    show ∃ post, (if after then v.countPost recs.flatten.length else v).spawn = _ ∧ (if after then v.countPost recs.flatten.length else v).capMode = _
    unfold State.countPost
    split
    · split
      · exact ⟨_, rfl, rfl⟩
      · exact ⟨_, rfl, rfl⟩
    · exact ⟨_, rfl, rfl⟩
  obtain ⟨post, hpost, hwm⟩ := hw
  clear_value w
  have hx : x.spawn = w.spawn := rfl
  have hxm : x.capMode = s.capMode := (State.capMode_congr (regsBut_setReg _ _ _ _ (by decide))).trans (hwm.trans hmode)
  have hxr : x.reg Reg.SPAWN_CKPT_NO = (s.spawn.ckptNo + 1).zeroExtend 32 := by rw [State.reg_setReg, if_pos rfl]
  clear_value x
  have hdone : CkptPut s x recs := by
    refine ⟨?_, ?_, ?_, hxr, hxm, fun hm => ?_⟩
    · rw [hx, hpost, hsp]
    · rw [hx, hpost, hsp]
    · rw [hx, hpost, hsp]
    · rw [hx, hpost, hring hm]
  split
  · have hreg : RegsBut x ((x.raise Reg.SPAWN_EVT 8).bump Reg.SPAWN_CKPT_DIFF_CNT) [Reg.SPAWN_EVT, Reg.MSIX_PBA 0, Reg.SPAWN_CKPT_DIFF_CNT] :=
      ((regsBut_raise _ _ _).mono (by simp)).trans ((regsBut_bump _ _).mono (by simp))
    have hspawn : ((x.raise Reg.SPAWN_EVT 8).bump Reg.SPAWN_CKPT_DIFF_CNT).spawn = x.spawn := by simp
    obtain ⟨h1, h2, h3, h4, h5, h6⟩ := hdone
    rw [← hspawn] at h1 h2 h3 h6
    exact ⟨h1, h2, h3, (hreg _ (by decide)).trans h4, (State.capMode_congr (hreg _ (by decide))).trans h5, h6⟩
  · exact hdone

theorem State.takeCkpt_put {isn time tick : U64} {e : EngineId} (hm : s.mgmt = Node.run) (hd : s.spawn.ckptDue = some (isn, time, tick))
    (he : s.sourceEng = some e) (hev : ∀ x, x ∈ s.servers → isn.toNat ≤ (s.eng x).evalIsn.toNat) (hj : s.spawn.journaling = true)
    (hw : s.windowFull = false ∨ s.spawn.behind ≠ []) :
    ∃ t recs, s.takeCkpt = t.putBehind.ckptSnapshot recs
      ∧ CkptPut s t ((List.range 3).map (ckptRecord isn time tick (s.spawn.ckptNo + 1) e s.hashesDiffer (s.eng e).hashes)) := by
  have hall : s.servers.all (fun x => decide (isn.toNat ≤ (s.eng x).evalIsn.toNat)) = true := by simpa using hev
  have hgo : ∀ u : State, u.spawn = { s.spawn with ckptDue := none } →
      u.windowFull = s.windowFull → ¬ (!u.spawn.journaling || (u.windowFull && u.spawn.behind.isEmpty)) = true := by
    intro u hu huw
    rw [huw, hu]
    rcases hw with h | h <;> simp [hj, h]
  refine ⟨_, ?recs, ?_, State.ckptWritten_put rfl _ s.hashesDiffer (decide ((s.pair Reg.SPAWN_TRIG_ISN_LO Reg.SPAWN_TRIG_ISN_HI).toNat ≤ isn.toNat))⟩
  case recs => exact ((List.range 3).map (ckptRecord isn time tick (s.spawn.ckptNo + 1) e s.hashesDiffer (s.eng e).hashes)).flatten
  · unfold State.takeCkpt
    rw [hd, he]
    exact (if_neg (by simp [hm, hall])).trans (if_neg (hgo (s.updSpawn (fun p => { p with ckptDue := none })) rfl rfl))

theorem State.takeCkpt_takes {isn time tick : U64} {e : EngineId} (hm : s.mgmt = Node.run) (hd : s.spawn.ckptDue = some (isn, time, tick))
    (he : s.sourceEng = some e) (hev : ∀ x, x ∈ s.servers → isn.toNat ≤ (s.eng x).evalIsn.toNat) (hj : s.spawn.journaling = true)
    (hw : s.windowFull = false ∨ s.spawn.behind ≠ []) :
    s.takeCkpt.spawn.ckptDue = none ∧ s.takeCkpt.spawn.ckptNo = s.spawn.ckptNo + 1 ∧ s.takeCkpt.spawn.behind = []
      ∧ s.takeCkpt.reg Reg.SPAWN_CKPT_NO = (s.spawn.ckptNo + 1).zeroExtend 32
      ∧ (s.capMode = 1 → s.takeCkpt.spawn.ring = s.spawn.ring
          ++ (List.range 3).map (ckptRecord isn time tick (s.spawn.ckptNo + 1) e s.hashesDiffer (s.eng e).hashes) ++ s.spawn.behind) := by
  obtain ⟨t, recs, heq, hput⟩ := State.takeCkpt_put hm hd he hev hj hw
  obtain ⟨hbehind, hdue, hno, hregs, hring⟩ := t.putBehind_puts
  obtain ⟨hdue', hno', hbehind', hregs'⟩ := t.putBehind.ckptSnapshot_kept recs
  rw [heq]
  refine ⟨hdue'.trans (hdue.trans hput.due), hno'.trans (hno.trans hput.no), hbehind'.trans hbehind,
    ((hregs' _ (by decide)).trans (hregs _ (by decide))).trans hput.shown, fun hmode => ?_⟩
  have hcont : t.putBehind.capMode = 1 := ((State.capMode_congr (hregs _ (by decide))).trans hput.mode).trans hmode
  rw [State.ckptSnapshot, if_pos (by rw [hcont]; decide), hring (by rw [hput.mode, hmode]; decide), hput.ring (by rw [hmode]; decide), hput.behind]

/-! ## The frozen window (R337) -/

theorem State.freeze_freezes (hc : s.capState = Cap.postTrigger) (hw : s.windowFull = true) (hb : s.spawn.behind = []) :
    s.freeze.capState = Cap.frozen ∧ s.freeze.rbit Reg.SPAWN_EVT 1 = true
      ∧ ∃ u : SpawnUnit, s.freeze.spawn.units = s.spawn.units ++ [u] ∧ u.kind = 3 ∧ u.closed = true
        ∧ u.bytes = (if s.spawn.torn then s.spawn.ring.drop 1 else s.spawn.ring).flatten := by
  unfold State.freeze
  rw [if_neg (by simp [hc, hw, hb])]
  extract_lets whole v
  refine ⟨?_, State.rbit_raise_self _ Reg.SPAWN_EVT 2 1 (by decide) (by decide), ?_⟩
  · exact (State.capState_congr (regsBut_raise _ _ _ _ (by decide))).trans (State.setCap_capState _ (by decide))
  · rw [State.raise_spawn]
    exact ⟨{ kind := 3, bytes := whole.flatten, closed := true, restart := !s.spawn.numbered }, rfl, rfl, rfl, rfl⟩

end

/-- Settles O38. -/
theorem journalStreaming : Obligations.JournalStreaming := by
  unfold Obligations.JournalStreaming
  refine ⟨fun s u rest hcr hun hu hc => ?_, fun s isn time tick e hm hd he hev hj hw => ?_, fun s hc hw hb => ?_⟩
  · have hrun := fun addr => State.spawnOut_ready (s := s.fresh) hcr hun hu hc addr
    refine ⟨fun hst => ?_, fun a => ⟨_, congrArg Host.Outcome.next (hrun (some a)), State.writeBuf_writes (s := s.fresh) hu hc a⟩⟩
    obtain ⟨herr, hcode⟩ := State.ringError_stops (s.fresh.emitOut (.hostRead (s.fresh.ringSlot 7 (s.fresh.reg (Reg.RING_NODE_IDX 7))) 8)) (n := 7)
      (by decide) (code := 3) (by decide) hst
    exact ⟨_, congrArg Host.Outcome.next (hrun none), herr, hcode, same_of_foot [.regs] (fun _ _ => ringError_foot _ _ _ (.refl (s.fresh.emitOut _))) .spawn⟩
  · exact ⟨_, rfl, State.takeCkpt_takes (s := s.fresh) hm hd he hev hj hw⟩
  · exact ⟨_, rfl, State.freeze_freezes (s := s.fresh) hc hw hb⟩

end Sys2Proof.Machine

/-! PROOFS. Steps and switches of the time: the registers that they write, and the time that they leave (R408-R412, R431, R433). -/

namespace Sys2Proof.Machine

/-! ## The registers of triggers, timed outputs and steps -/

/-- The registers that a trigger of Spawn may write (R336, R337). -/
def triggerRegs : List Off :=
  [Reg.SPAWN_TRIG_ISN_LO, Reg.SPAWN_TRIG_ISN_HI, Reg.SPAWN_TRIG_CNT, Reg.SPAWN_TRIG_LOST_CNT, Reg.SPAWN_STATUS, Reg.SPAWN_EVT, Reg.MSIX_PBA 0]

/-- The registers that the timed outputs may write as the time is stepped (R433). -/
def revisitRegs : List Off := Reg.WS_EVT :: triggerRegs ++ (List.range 8).flatMap (fun k => [Reg.TMO_PULSE_CNT k, Reg.TMO_MISSED_CNT k])

/-- The registers that a step of the time may write (R412, R433). -/
def stepRegs : List Off := [Reg.WS_LAST_STEP_LO, Reg.WS_LAST_STEP_HI, Reg.WS_STEP_CNT] ++ revisitRegs

theorem revisitRegs_tmo {k : Nat} (hk : k < 8) : Reg.WS_EVT :: Reg.TMO_PULSE_CNT k :: Reg.TMO_MISSED_CNT k :: triggerRegs ⊆ revisitRegs := by
  intro o ho
  simp only [revisitRegs, List.mem_append, List.mem_cons, List.mem_flatMap, List.mem_range] at ho ⊢
  rcases ho with rfl | rfl | rfl | ho
  · exact .inl (.inl rfl)
  · exact .inr ⟨k, hk, .inl rfl⟩
  · exact .inr ⟨k, hk, .inr (.inl rfl)⟩
  · exact .inl (.inr ho)

section

variable (s : State)

theorem regsBut_trigger (isn : U64) : RegsBut s (s.trigger isn) triggerRegs := by
  unfold State.trigger
  refine .ite (.refl _ _) (.ite ((regsBut_bump s _).mono (by decide)) (.ite ?_ (.refl _ _)))
  extract_lets u v
  have hv : RegsBut s v triggerRegs := (regsBut_setPair s _ _ isn).mono (by decide)
  exact ((hv.trans ((regsBut_bump v _).mono (by decide))).trans ((regsBut_setRegFld _ _ _ _ _).mono (by decide))).trans
    ((regsBut_raise _ _ _).mono (by decide))

theorem regsBut_tmoPin (k : Nat) (os : List Off) : RegsBut s (s.tmoPin k) os := .ite (.of_regs rfl rfl _) (.refl _ _)

theorem regsBut_pulse (k : Nat) : RegsBut s (s.pulse k) (Reg.TMO_PULSE_CNT k :: triggerRegs) := by
  unfold State.pulse
  extract_lets u
  have hcnt : RegsBut s (u.bump (Reg.TMO_PULSE_CNT k)) (Reg.TMO_PULSE_CNT k :: triggerRegs) := (regsBut_bump u _).mono (by simp)
  have hpin := hcnt.trans (regsBut_tmoPin (u.bump (Reg.TMO_PULSE_CNT k)) k _)
  exact hpin.trans (.ite ((regsBut_trigger _ _).mono (List.subset_cons_self _ _)) (.refl _ _))

theorem regsBut_tmoRevisit (step : Int) (t t' k : Nat) :
    RegsBut s (s.tmoRevisit step t t' k) (Reg.WS_EVT :: Reg.TMO_PULSE_CNT k :: Reg.TMO_MISSED_CNT k :: triggerRegs) := by
  unfold State.tmoRevisit
  extract_lets x
  split
  · refine .ite ?_ (.refl _ _)
    exact ((regsBut_pulse s k).mono (by intro o; simp; tauto)).trans ((regsBut_raise ((s.pulse k).updTmo k _) _ _).mono (by intro o; simp [triggerRegs]; tauto))
  · refine .ite (.refl _ _) ?_
    exact ((regsBut_setReg (s.updTmo k _) (Reg.TMO_MISSED_CNT k) _).mono (by simp)).trans ((regsBut_raise _ _ _).mono (by intro o; simp [triggerRegs]; tauto))
  · exact .refl _ _

theorem regsBut_revisits (step : Int) (t : Nat) (l : List Nat) (hl : ∀ k, k ∈ l → k < 8) :
    RegsBut s (l.foldl (fun s k => s.tmoRevisit step t s.now.toNat k) s) revisitRegs := by
  induction l generalizing s with
  | nil => exact .refl _ _
  | cons k l ih =>
    exact ((regsBut_tmoRevisit s _ _ _ k).mono (revisitRegs_tmo (hl k (List.mem_cons_self ..)))).trans
      (ih _ fun k hk => hl k (List.mem_cons_of_mem _ hk))

/-- A step's own registers, before the timed outputs are looked at. -/
theorem regsBut_stepped (step : Int) (change : Bool) (t : U64) : RegsBut s (s.stepped step change t) stepRegs
    ∧ (step ≠ 0 → (s.stepped step change t).reg Reg.WS_STEP_CNT = satAdd (s.reg Reg.WS_STEP_CNT) 1) := by
  unfold State.stepped
  extract_lets ws u v ev w
  have hu : RegsBut s u [] := .ite (.of_regs rfl rfl _) (.refl _ _)
  have hv : RegsBut u v stepRegs := .ite (.refl _ _) (((regsBut_setPair u _ _ _).mono (by decide)).trans ((regsBut_bump _ _).mono (by decide)))
  have hw : RegsBut v w [Reg.WS_EVT, Reg.MSIX_PBA 0] := .ite (.refl _ _) (regsBut_raise v _ _)
  have hfold := regsBut_revisits w step t.toNat (List.range 8) fun k hk => List.mem_range.mp hk
  refine ⟨(((hu.mono (List.nil_subset _)).trans hv).trans (hw.mono (by decide))).trans (hfold.mono (List.subset_append_right _ _)), fun h => ?_⟩
  rw [hfold _ (by decide), hw _ (by decide)]
  show (if step = 0 then u else _).reg Reg.WS_STEP_CNT = _
  rw [if_neg h, State.reg_bump, if_pos rfl, regsBut_setPair _ _ _ _ _ (by decide), hu.all]

theorem regsBut_doSwitch (sw : Switch) : RegsBut s (s.doSwitch sw) stepRegs := by
  unfold State.doSwitch
  extract_lets t t' change ws ws'
  have hws : RegsBut s { s with ws := ws' } stepRegs := .of_regs rfl rfl _
  exact hws.trans (regsBut_stepped _ _ _ _).1

/-! ## What a step and a switch leave of Wellspring -/

theorem State.trigger_ws (isn : U64) : (s.trigger isn).ws = s.ws :=
  same_of_foot [.regs, .spawn] (fun _ _ => trigger_foot _ _ (.refl s)) .ws

theorem State.pulse_ws (k : Nat) : ∃ m, (s.pulse k).ws = { s.ws with tmos := m } := by
  unfold State.pulse
  extract_lets u
  have hpin : ((u.bump (Reg.TMO_PULSE_CNT k)).tmoPin k).ws = u.ws := by
    unfold State.tmoPin
    split <;> rfl
  refine ⟨u.ws.tmos, Eq.trans ?_ hpin⟩
  unfold State.tmoTrigger
  split
  · exact State.trigger_ws _ _
  · rfl

theorem State.tmoRevisit_ws (step : Int) (t t' : Nat) (k : Nat) : ∃ m, (s.tmoRevisit step t t' k).ws = { s.ws with tmos := m } := by
  unfold State.tmoRevisit
  extract_lets x
  split
  · split
    · obtain ⟨m, hm⟩ := s.pulse_ws k
      rw [State.raise_ws]
      exact ⟨_, congrArg (fun w : Wellspring => { w with tmos := Sparse.upd { } w.tmos k fun t => { t with late := true } }) hm⟩
    · exact ⟨_, rfl⟩
  · split
    · exact ⟨_, rfl⟩
    · rw [State.raise_ws]
      exact ⟨_, rfl⟩
  · exact ⟨_, rfl⟩

/-- The time stepped: its epoch and the timed outputs alone. -/
theorem State.stepped_ws (step : Int) (change : Bool) (t : U64) : ∃ e m, (s.stepped step change t).ws = { s.ws with epoch := e, tmos := m } := by
  have hfold : ∀ (l : List Nat) (a : State), ∃ m, (l.foldl (fun s k => s.tmoRevisit step t.toNat s.now.toNat k) a).ws = { a.ws with tmos := m } := by
    intro l
    induction l with
    | nil => exact fun a => ⟨_, rfl⟩
    | cons k l ih =>
      intro a
      obtain ⟨m, hm⟩ := a.tmoRevisit_ws step t.toNat a.now.toNat k
      obtain ⟨m', hm'⟩ := ih (a.tmoRevisit step t.toNat a.now.toNat k)
      exact ⟨m', by rw [List.foldl_cons, hm', hm]⟩
  unfold State.stepped
  extract_lets ws u v ev w
  have hu : ∃ e, u.ws = { s.ws with epoch := e } := by
    simp only [u]
    split
    · exact ⟨_, rfl⟩
    · exact ⟨_, rfl⟩
  have hv : v.ws = u.ws := by
    simp only [v]
    split <;> rfl
  have hw : w.ws = v.ws := by
    simp only [w]
    split
    · rfl
    · exact State.raise_ws _ _ _
  obtain ⟨e, he⟩ := hu
  obtain ⟨m, hm⟩ := hfold (List.range 8) w
  exact ⟨e, m, by rw [hm, hw, hv, he]⟩

/-- Wellspring on the other side of a switch (R411). -/
def Wellspring.switch (w : Wellspring) (sw : Switch) : Wellspring :=
  if sw.normal then
    { w with normal := true, rate := sw.rate,
             offset := w.time + ofInt 64 sw.step - BitVec.ofNat 64 (w.frc.toNat * sw.rate.toNat / 2 ^ 56) }
  else { w with normal := false, inc := sw.inc, counter := (w.time + ofInt 64 sw.step) ++ (0 : U32) }

theorem State.doSwitch_ws (sw : Switch) : ∃ e m, (s.doSwitch sw).ws = { s.ws.switch sw with epoch := e, tmos := m } := by
  unfold State.doSwitch
  extract_lets t t' change ws ws'
  exact State.stepped_ws { s with ws := ws' } sw.step change t

theorem Wellspring.time_switch (w : Wellspring) (sw : Switch) : (w.switch sw).time = w.time + ofInt 64 sw.step := by
  unfold Wellspring.switch
  split
  · rw [Wellspring.time, if_pos rfl, Wellspring.normalTime]
    exact BitVec.sub_add_cancel _ _
  · rw [Wellspring.time, if_neg (by simp)]
    refine BitVec.eq_of_toNat_eq ?_
    rw [BitVec.toNat_append]
    have h : ∀ x : U64, (x.toNat <<< 32 ||| (0 : U32).toNat) / 2 ^ 32 = x.toNat := fun x => by
      rw [show (0 : U32).toNat = 0 from rfl, Nat.or_zero, Nat.shiftLeft_eq, Nat.mul_div_cancel _ (by decide)]
    rw [h, BitVec.toNat_ofNat, Nat.mod_eq_of_lt (BitVec.isLt _)]

theorem State.doSwitch_now (sw : Switch) : (s.doSwitch sw).now = s.now + ofInt 64 sw.step := by
  obtain ⟨e, m, h⟩ := s.doSwitch_ws sw
  rw [State.now, h]
  exact s.ws.time_switch sw

/-! ## Edges of timed outputs -/

/-- With the levels as they were nothing follows. -/
theorem State.tmoEdges_none {t : State} (h : ∀ k, (t.tmo k).level = (s.tmo k).level) : State.tmoEdges s t = t := by
  unfold State.tmoEdges
  rw [if_neg]
  simp only [List.any_eq_true, h, bne_self_eq_false, Bool.false_and, Bool.false_eq_true, and_false, exists_false, not_false_eq_true]

theorem State.tmoEdges_tmos {t : State} (h : t.ws.tmos = s.ws.tmos) : State.tmoEdges s t = t :=
  s.tmoEdges_none fun k => by rw [State.tmo, State.tmo, h]

theorem State.tmoEdges_parts (t : State) : PartsBut t (State.tmoEdges s t) [.regs, .dio] :=
  fun z hz => same_of_foot [.regs, .dio] (fun _ _ => tmoEdges_foot _ _ (.refl t)) z hz

theorem regsBut_tmoEdges (t : State) : RegsBut t (State.tmoEdges s t) frameRegs := .ite (regsBut_extraFrames _) (.refl _ _)

end

end Sys2Proof.Machine

/-! PROOFS. The host's ways to set the time: TIME_ADJ, the armed switch, HOST_TIMEOUT (R409-R413, R428-R430, Table 14-5). -/

namespace Sys2Proof.Machine

/-! ## TIME_ADJ behind the passing of its clocks -/

section

variable {s r u : State} {d : Desc}

/-- The head of the CMD ring has been taken, with what the step has put outside kept. -/
theorem State.atHead_here (s : State) : AtHead s (s.takeHead 0) where
  taken := s.takeHead_taken
  parts := fun z hz => same_of_foot [.regs, .hif] (fun _ _ => takeHead_foot _ _ (.refl s)) z hz
  regs := regsBut_takeHead s 0
  hif := s.takeHead_hif 0

theorem ends_timeAdj {dt : Nat} {P : State → Prop} (hr : s.fresh.pass dt = r) (h : r.Heads 0x75 d)
    (hp : ∀ u, AtHead r u → P (State.tmoEdges r (u.timeAdj d))) : Ends (.timeAdj dt) s P := by
  have hrun : exec (.timeAdj dt) s = .next (State.tmoEdges (s.fresh.pass dt) ((s.fresh.pass dt).dirCmd 0x75 (fun d s => s.timeAdj d))) := rfl
  rw [hr, State.dirCmd_of_heads h] at hrun
  exact ⟨_, hrun, hp _ r.atHead_here⟩

theorem Answered.then_hif {t v : State} {status : Nat} {result : U64} (h : Answered s t d status result) (hif : v.hif = t.hif) :
    Answered s v d status result := by
  obtain ⟨hready, hf⟩ := h
  exact ⟨by rw [hif]; exact hready, by rw [State.fetchedOf, hif]; exact hf⟩

theorem Deferred.then_hif {t v : State} (h : Deferred s t d) (hif : v.hif = t.hif) : Deferred s v d := by
  obtain ⟨hrun, hready, hf⟩ := h
  exact ⟨by rw [hif]; exact hrun, by rw [hif]; exact hready, by rw [State.fetchedOf, hif]; exact hf⟩

theorem AtHead.adjBad (h : AtHead r u) : u.adjBad d = r.adjBad d := by
  unfold State.adjBad State.frcNat
  rw [h.ws]

/-- Good arguments name a timed output and a port that the node has. -/
theorem State.adjBad_sel (h : s.adjBad d = false) : (d.arg 8 1 = 6 → d.arg 9 1 < 8) ∧ (d.arg 8 1 = 7 → d.arg 9 1 < 2)
    ∧ (d.arg 8 1 = 0 ∨ d.arg 8 1 = 3 ∨ d.arg 8 1 = 4 → d.arg 8 1 ≤ 7) := by
  unfold State.adjBad at h
  simp only [Bool.or_eq_false_iff] at h
  obtain ⟨⟨⟨⟨⟨⟨-, hsel⟩, -⟩, -⟩, -⟩, -⟩, -⟩ := h
  refine ⟨fun hf => ?_, fun hf => ?_, by omega⟩
  · rw [hf] at hsel
    simpa [Nat.lt_succ_iff] using hsel
  · rw [hf] at hsel
    simpa [Nat.lt_succ_iff] using hsel

theorem AtHead.adjState (h : AtHead r u) (hb : r.adjBad d = false) : u.adjState d = r.adjState d := by
  have hoff : ∀ k < 8, Reg.TMO_CFG k ∉ headRegs := by decide
  have hhost : u.servoHost = r.servoHost := State.rbit_of_reg (h.regs _ (by decide)) 0
  unfold State.adjState
  rw [hhost, h.ws]
  dsimp only
  by_cases hf : d.arg 8 1 = 6
  · have hmode : u.tmoMode (d.arg 9 1) = r.tmoMode (d.arg 9 1) := State.rfld_of_reg (h.regs _ (hoff _ ((State.adjBad_sel hb).1 hf))) 0 2
    rw [hmode]
  · rw [show (d.arg 8 1 == 6) = false from beq_false_of_ne hf, Bool.false_and, Bool.false_and]

/-- An answer that leaves Wellspring alone. -/
theorem AtHead.timeAnswered (h : AtHead r u) (status : Nat) (result : U64) :
    Answered r (State.tmoEdges r (u.done d status result)) d status result ∧ (State.tmoEdges r (u.done d status result)).ws = r.ws := by
  have hws : (u.done d status result).ws = r.ws := h.ws
  rw [State.tmoEdges_tmos r (by rw [hws])]
  exact ⟨h.answered d _ _, hws⟩

/-- An answer behind an operation on Wellspring that begins and ends no pulse. -/
theorem AtHead.timeDone {v : State} (h : AtHead r u) (hif : v.hif = u.hif) (ht : v.ws.tmos = r.ws.tmos) (status : Nat) (result : U64) :
    Answered r (State.tmoEdges r (v.done d status result)) d status result ∧ State.tmoEdges r (v.done d status result) = v.done d status result := by
  rw [State.tmoEdges_tmos r (t := v.done d status result) ht]
  exact ⟨(h.taken.then_hif hif).answered d _ _, rfl⟩

/-! ## Its functions (Table 14-5) -/

theorem leNat_lt (l : List Byte) : leNat l < 256 ^ l.length := by
  induction l with
  | nil => exact Nat.one_pos
  | cons b l ih =>
    rw [leNat, List.length_cons, Nat.pow_succ]
    have hb := b.isLt
    omega

theorem Desc.arg_lt (d : Desc) (o n : Nat) : d.arg o n < 256 ^ n := by
  refine (leNat_lt _).trans_le (Nat.pow_le_pow_right (by decide) ?_)
  rw [slice, List.length_take]
  exact Nat.min_le_left _ _

theorem State.timeAdj_bad (hb : s.adjBad d = true) : s.timeAdj d = s.done d Status.badArg := if_pos hb

theorem State.timeAdj_state (hb : s.adjBad d = false) (hs : s.adjState d = true) : s.timeAdj d = s.done d Status.state :=
  (if_neg (by simp [hb])).trans (if_pos hs)

theorem State.timeAdj_busy (hb : s.adjBad d = false) (hs : s.adjState d = false)
    (hf : d.arg 8 1 = 0 ∨ d.arg 8 1 = 2 ∨ d.arg 8 1 = 3 ∨ d.arg 8 1 = 4) (ha : s.ws.armed.isSome = true) :
    s.timeAdj d = s.done d Status.busy :=
  (if_neg (by simp [hb])).trans ((if_neg (by simp [hs])).trans (if_pos (by rcases hf with h | h | h | h <;> simp [h, ha])))

theorem State.timeAdj_inc (hb : s.adjBad d = false) (hs : s.adjState d = false) (hf : d.arg 8 1 = 1) :
    s.timeAdj d = (s.updWs (fun w => { w with inc := BitVec.ofNat 64 (d.arg 0x28 8), quality := 4 })).done d Status.ok := by
  unfold State.timeAdj
  refine (if_neg (by simp [hb])).trans ((if_neg (by simp [hs])).trans ((if_neg (by simp [hf])).trans ?_))
  rw [hf]
  simp only []

theorem State.timeAdj_step (hb : s.adjBad d = false) (hs : s.adjState d = false) (hf : d.arg 8 1 = 2) (ha : s.ws.armed = none) :
    s.timeAdj d = (((s.elapse 1).incStep (sext 64 (d.arg 0x20 8))).updWs (fun w => { w with quality := 4 })).done d Status.ok
      (((s.elapse 1).incStep (sext 64 (d.arg 0x20 8))).updWs (fun w => { w with quality := 4 })).ws.frc := by
  unfold State.timeAdj
  refine (if_neg (by simp [hb])).trans ((if_neg (by simp [hs])).trans ((if_neg (by simp [ha])).trans ?_))
  rw [hf]
  simp only []

theorem State.timeAdj_quality (hb : s.adjBad d = false) (hs : s.adjState d = false) (hf : d.arg 8 1 = 5) :
    s.timeAdj d = (s.updWs (fun w => { w with quality := if w.normal then BitVec.ofNat 3 (d.arg 9 1) else w.quality, hostQuality := BitVec.ofNat 3 (d.arg 9 1) })).done d Status.ok := by
  unfold State.timeAdj
  refine (if_neg (by simp [hb])).trans ((if_neg (by simp [hs])).trans ((if_neg (by simp [hf])).trans ?_))
  rw [hf]
  simp only []

theorem State.timeAdj_oneshot (hb : s.adjBad d = false) (hs : s.adjState d = false) (hf : d.arg 8 1 = 6) :
    s.timeAdj d = ((s.setPair (Reg.TMO_START_LO (d.arg 9 1)) (Reg.TMO_START_HI (d.arg 9 1)) (BitVec.ofNat 64 (d.arg 0x30 8))).tmoArm
      (d.arg 9 1)).done d Status.ok := by
  unfold State.timeAdj
  refine (if_neg (by simp [hb])).trans ((if_neg (by simp [hs])).trans ((if_neg (by simp [hf])).trans ?_))
  rw [hf]
  simp only []

theorem State.timeAdj_asym (hb : s.adjBad d = false) (hs : s.adjState d = false) (hf : d.arg 8 1 = 7) :
    s.timeAdj d = (s.setAsymRun (d.arg 9 1) (u32At d.raw 0x20)).done d Status.ok := by
  unfold State.timeAdj
  refine (if_neg (by simp [hb])).trans ((if_neg (by simp [hs])).trans ((if_neg (by simp [hf])).trans ?_))
  rw [hf]
  simp only []

theorem State.timeAdj_arms (hb : s.adjBad d = false) (hs : s.adjState d = false) (hf : d.arg 8 1 = 0 ∨ d.arg 8 1 = 3 ∨ d.arg 8 1 = 4)
    (ha : s.ws.armed = none) : s.timeAdj d = s.armSwitch d := by
  unfold State.timeAdj
  refine (if_neg (by simp [hb])).trans ((if_neg (by simp [hs])).trans ((if_neg (by simp [ha])).trans ?_))
  rcases hf with h | h | h
  all_goals
    rw [h]
    simp only []

theorem State.defer_hif (h : u.hif = s.hif) (tag : U32) (irq : Bool) (opcode : Nat) : (u.defer tag irq opcode).hif = (s.defer tag irq opcode).hif := by
  rw [State.defer, State.defer, h]

/-- The armed switch waits for its instant, and its command with it. -/
theorem State.armSwitch_armed (s : State) (d : Desc) : ∃ sw : Switch, (s.armSwitch d).ws = { s.ws with armed := some sw }
    ∧ (s.armSwitch d).hif = (s.defer d.tag d.irqNow 0x75).hif
    ∧ sw.step = sext 64 (d.arg 0x20 8) ∧ sw.normal = (d.arg 8 1 != 4) ∧ sw.rate = BitVec.ofNat 64 (d.arg 0x18 8)
    ∧ sw.inc = BitVec.ofNat 64 (d.arg 0x28 8) ∧ sw.late = decide (d.arg 0x10 8 < s.frcNat)
    ∧ (s.frcNat ≤ d.arg 0x10 8 → sw.at_ = BitVec.ofNat 64 (d.arg 0x10 8)) ∧ (d.arg 0x10 8 < s.frcNat → sw.at_ = s.ws.frc + 1) := by
  have hat : (BitVec.ofNat 64 (d.arg 0x10 8)).toNat = d.arg 0x10 8 := by
    rw [BitVec.toNat_ofNat]
    exact Nat.mod_eq_of_lt (d.arg_lt 0x10 8)
  unfold State.armSwitch
  extract_lets f at_ late sw u
  have hlate : late = decide (d.arg 0x10 8 < s.frcNat) := congrArg (fun n : Nat => decide (n < s.frcNat)) hat
  have hu : u.ws = s.ws ∧ u.hif = s.hif := by
    simp only [u]
    split
    · exact ⟨rfl, rfl⟩
    · exact ⟨rfl, rfl⟩
  refine ⟨sw, ?_, ?_, rfl, rfl, rfl, rfl, hlate, fun h => ?_, fun h => ?_⟩
  · exact congrArg (fun w : Wellspring => { w with armed := some sw }) hu.1
  · exact State.defer_hif (u := u.updWs _) hu.2 _ _ _
  · exact if_neg (by simp [hlate, Nat.not_lt.mpr h])
  · exact if_pos (by simp [hlate, h])

theorem State.tmo_updTmo_self (s : State) (k : Nat) (f : Tmo → Tmo) : (s.updTmo k f).tmo k = f (s.tmo k) := Sparse.get_set_self _ _ _

theorem State.tmo_updTmo_ne (s : State) {j k : Nat} (h : j ≠ k) (f : Tmo → Tmo) : (s.updTmo k f).tmo j = s.tmo j :=
  Sparse.get_set_ne _ _ h

theorem State.tmoArm_oneshot {k : Nat} (h : s.tmoMode k = 1) :
    s.tmoArm k = s.updTmo k (fun t => { t with armed := true, fired := false, late := false }) := by
  unfold State.tmoArm
  rw [h]
  simp only []

/-- A step in INCREMENT mode. -/
theorem State.incStep_ws (s : State) (step : Int) : ∃ e m, (s.incStep step).ws
    = { s.ws with counter := s.ws.counter + ofInt 96 (step * 2 ^ 32), epoch := e, tmos := m } :=
  State.stepped_ws { s with ws := { s.ws with counter := s.ws.counter + ofInt 96 (step * 2 ^ 32) } } step false s.now

theorem State.incStep_hif (s : State) (step : Int) : (s.incStep step).hif = s.hif :=
  same_of_foot [.regs, .spawn, .ws] (fun _ _ => incStep_foot _ _ (.refl s)) .hif

theorem State.elapse_unarmed (ha : s.ws.armed = none) (n : Nat) : s.elapse n = { s with ws := s.ws.clocks n } := by
  unfold State.elapse
  rw [ha]

end

section

variable {s r : State} {d : Desc} {dt : Nat}

/-! ## What TIME_ADJ leaves -/

theorem ends_timeAdj_arms (hr : s.fresh.pass dt = r) (h : r.Heads 0x75 d) (hb : r.adjBad d = false) (hs : r.adjState d = false)
    (hf : d.arg 8 1 = 0 ∨ d.arg 8 1 = 3 ∨ d.arg 8 1 = 4) (ha : r.ws.armed = none) :
    Ends (.timeAdj dt) s (fun t => Deferred r t d ∧ t.now = r.now ∧ ∃ sw : Switch, t.ws = { r.ws with armed := some sw }
      ∧ sw.step = sext 64 (d.arg 0x20 8) ∧ sw.normal = (d.arg 8 1 != 4) ∧ sw.rate = BitVec.ofNat 64 (d.arg 0x18 8)
      ∧ sw.inc = BitVec.ofNat 64 (d.arg 0x28 8) ∧ sw.late = decide (d.arg 0x10 8 < r.frcNat)
      ∧ (r.frcNat ≤ d.arg 0x10 8 → sw.at_ = BitVec.ofNat 64 (d.arg 0x10 8)) ∧ (d.arg 0x10 8 < r.frcNat → sw.at_ = r.ws.frc + 1)) := by
  refine ends_timeAdj hr h fun u hu => ?_
  rw [State.timeAdj_arms (hu.adjBad.trans hb) ((hu.adjState hb).trans hs) hf (by rw [hu.ws]; exact ha)]
  obtain ⟨sw, hws, hif, hsw⟩ := u.armSwitch_armed d
  rw [hu.ws] at hws
  rw [State.tmoEdges_tmos r (by rw [hws])]
  have hop : d.opcode = 0x75 := by simpa using State.cmdHead_opcode h.1
  have hdef : Deferred r (u.defer d.tag d.irqNow 0x75) d := hop ▸ hu.taken.deferred d
  have hfrc : u.frcNat = r.frcNat := by rw [State.frcNat, State.frcNat, hu.ws]
  rw [hfrc, hu.ws] at hsw
  refine ⟨hdef.then_hif hif, ?_, sw, hws, hsw⟩
  rw [State.now, hws]
  rfl

theorem ends_timeAdj_step (hr : s.fresh.pass dt = r) (h : r.Heads 0x75 d) (hb : r.adjBad d = false) (hs : r.adjState d = false)
    (hf : d.arg 8 1 = 2) (ha : r.ws.armed = none) :
    Ends (.timeAdj dt) s (fun t => Answered r t d Status.ok (r.ws.frc + 1) ∧ t.ws.frc = r.ws.frc + 1 ∧ t.ws.quality = 4
      ∧ t.ws.counter = (r.ws.clocks 1).counter + ofInt 96 (sext 64 (d.arg 0x20 8) * 2 ^ 32)) := by
  refine ends_timeAdj hr h fun u hu => ?_
  rw [State.timeAdj_step (hu.adjBad.trans hb) ((hu.adjState hb).trans hs) hf (by rw [hu.ws]; exact ha),
    State.elapse_unarmed (by rw [hu.ws]; exact ha)]
  obtain ⟨e, m, hws⟩ := State.incStep_ws { u with ws := u.ws.clocks 1 } (sext 64 (d.arg 0x20 8))
  have hif := State.incStep_hif { u with ws := u.ws.clocks 1 } (sext 64 (d.arg 0x20 8))
  generalize State.incStep { u with ws := u.ws.clocks 1 } (sext 64 (d.arg 0x20 8)) = v at hws hif ⊢
  rw [hu.ws] at hws
  have hfrc : v.ws.frc = r.ws.frc + 1 := by rw [hws]; rfl
  have hparts := State.tmoEdges_parts r ((v.updWs (fun w => { w with quality := 4 })).done d Status.ok (v.updWs (fun w => { w with quality := 4 })).ws.frc)
  have hdone := (hu.taken.then_hif (u := v.updWs (fun w => { w with quality := 4 })) hif).answered d Status.ok v.ws.frc
  have hw := hparts .ws (by decide)
  refine ⟨?_, ?_, ?_, ?_⟩
  · rw [← hfrc]
    exact hdone.then_hif (hparts .hif (by decide))
  · rw [hw]
    exact hfrc
  · rw [hw]
    rfl
  · rw [hw]
    exact (congrArg Wellspring.counter hws).trans rfl

theorem ends_timeAdj_oneshot (hr : s.fresh.pass dt = r) (h : r.Heads 0x75 d) (hb : r.adjBad d = false) (hs : r.adjState d = false)
    (hf : d.arg 8 1 = 6) :
    Ends (.timeAdj dt) s (fun t => Answered r t d Status.ok 0 ∧ (t.tmo (d.arg 9 1)).armed = true
      ∧ (t.tmo (d.arg 9 1)).fired = false ∧ t.tmoStart (d.arg 9 1) = d.arg 0x30 8 ∧ t.ws.servo = r.ws.servo) := by
  have hoff : ∀ k < 8, Reg.TMO_START_LO k ≠ Reg.TMO_START_HI k ∧ Reg.TMO_CFG k ∉ [Reg.TMO_START_LO k, Reg.TMO_START_HI k] := by decide
  refine ends_timeAdj hr h fun u hu => ?_
  have hbu := hu.adjBad.trans hb
  have hsu := (hu.adjState hb).trans hs
  rw [State.timeAdj_oneshot hbu hsu hf]
  generalize hk : d.arg 9 1 = k
  have hk8 : k < 8 := hk ▸ (State.adjBad_sel hb).1 hf
  obtain ⟨hlo, hcfg⟩ := hoff k hk8
  have hmode : (u.setPair (Reg.TMO_START_LO k) (Reg.TMO_START_HI k) (BitVec.ofNat 64 (d.arg 0x30 8))).tmoMode k = 1 := by
    rw [State.tmoMode, State.rfld_of_reg (regsBut_setPair u _ _ _ _ hcfg)]
    simpa [State.adjState, hf, hk, State.tmoMode] using hsu
  rw [State.tmoArm_oneshot hmode]
  have hpair := State.pair_setPair u hlo (BitVec.ofNat 64 (d.arg 0x30 8))
  generalize hv : u.setPair (Reg.TMO_START_LO k) (Reg.TMO_START_HI k) (BitVec.ofNat 64 (d.arg 0x30 8)) = v at hpair
  have hvws : v.ws = r.ws := by rw [← hv, State.setPair_ws, hu.ws]
  have hvhif : v.hif = u.hif := by rw [← hv, State.setPair_hif]
  have hw : (v.updTmo k (fun t => { t with armed := true, fired := false, late := false })).tmo k
      = { v.tmo k with armed := true, fired := false, late := false } := v.tmo_updTmo_self k _
  have hlevel : ∀ j, ((v.updTmo k (fun t => { t with armed := true, fired := false, late := false })).tmo j).level = (r.tmo j).level := by
    intro j
    have hvj : v.tmo j = r.tmo j := by rw [State.tmo, State.tmo, hvws]
    by_cases hj : j = k
    · subst hj
      rw [hw, ← hvj]
    · rw [v.tmo_updTmo_ne hj, hvj]
  rw [State.tmoEdges_none r (t := (v.updTmo k (fun t => { t with armed := true, fired := false, late := false })).done d Status.ok) hlevel]
  refine ⟨(hu.taken.then_hif (u := v.updTmo k _) hvhif).answered d _ _, congrArg Tmo.armed hw, congrArg Tmo.fired hw, ?_, (show v.ws.servo = r.ws.servo by rw [hvws])⟩
  refine (congrArg BitVec.toNat hpair).trans ?_
  rw [BitVec.toNat_ofNat]
  exact Nat.mod_eq_of_lt (d.arg_lt 0x30 8)

theorem ends_timeAdj_asym (hr : s.fresh.pass dt = r) (h : r.Heads 0x75 d) (hb : r.adjBad d = false) (hs : r.adjState d = false)
    (hf : d.arg 8 1 = 7) :
    Ends (.timeAdj dt) s (fun t => Answered r t d Status.ok 0
      ∧ t.reg (Reg.PTP_ASYM_RUN (d.arg 9 1)) = u32At d.raw 0x20
      ∧ RegsBut r t [Reg.PTP_ASYM_RUN (d.arg 9 1), Reg.RING_NODE_IDX 0, Reg.RING_ENTRY_CNT 0, Reg.MSIX_PBA 0]) := by
  refine ends_timeAdj hr h fun u hu => ?_
  rw [State.timeAdj_asym (hu.adjBad.trans hb) ((hu.adjState hb).trans hs) hf]
  have hasym : ∀ v : State, (v.asymChanged (d.arg 9 1)).hif = v.hif ∧ (v.asymChanged (d.arg 9 1)).ws.tmos = v.ws.tmos
      ∧ RegsBut v (v.asymChanged (d.arg 9 1)) [] := fun v => by
    unfold State.asymChanged
    split
    · exact ⟨rfl, rfl, .of_regs rfl rfl _⟩
    · exact ⟨rfl, rfl, .refl _ _⟩
  obtain ⟨hif, htmos, hregs⟩ := hasym (u.setReg (Reg.PTP_ASYM_RUN (d.arg 9 1)) (u32At d.raw 0x20))
  obtain ⟨hans, heq⟩ := hu.timeDone (v := u.setAsymRun (d.arg 9 1) (u32At d.raw 0x20)) hif (htmos.trans (congrArg Wellspring.tmos hu.ws)) Status.ok 0
  have hdone := regsBut_done (u.setAsymRun (d.arg 9 1) (u32At d.raw 0x20)) d Status.ok 0 []
  have hset := regsBut_setReg u (Reg.PTP_ASYM_RUN (d.arg 9 1)) (u32At d.raw 0x20)
  rw [heq]
  refine ⟨heq ▸ hans, ?_, ?_⟩
  · rw [hdone.all]
    refine (hregs.all _).trans ?_
    rw [State.reg_setReg, if_pos rfl]
  · exact (((hu.regs.mono (by simp)).trans (hset.mono (by simp))).trans (hregs.mono (List.nil_subset _))).trans (hdone.mono (List.nil_subset _))

/-! ## The armed switch (R411, R413, R430) -/

theorem Wellspring.time_switched (w : Wellspring) (host : Bool) (func : Nat) : (w.switched host func).time = w.time := by
  unfold Wellspring.switched
  split <;> rfl

theorem Wellspring.clocks_zero (w : Wellspring) : w.clocks 0 = w := by
  simp [Wellspring.clocks]

/-- Wellspring behind an applied switch. -/
def Wellspring.applied (w : Wellspring) (sw : Switch) (host : Bool) (e : BitVec 6) (m : Sparse Tmo) : Wellspring :=
  { { w.switch sw with epoch := e, tmos := m }.switched host sw.func with armed := none }

/-- What the applied switch leaves. -/
structure Wellspring.Switched (w t : Wellspring) (sw : Switch) (host : Bool) : Prop where
  frc : t.frc = w.frc
  armed : t.armed = none
  normal : t.normal = sw.normal
  rate : sw.normal = true → t.rate = sw.rate
  inc : sw.normal = false → t.inc = sw.inc
  time : t.time = w.time + ofInt 64 sw.step
  quality : host = true → t.quality = (if sw.func = 3 then 2 else if sw.func = 4 then 4 else w.hostQuality)

theorem Wellspring.switched_clock (w : Wellspring) (host : Bool) (func : Nat) : (w.switched host func).frc = w.frc
    ∧ (w.switched host func).normal = w.normal ∧ (w.switched host func).rate = w.rate ∧ (w.switched host func).inc = w.inc := by
  unfold Wellspring.switched
  split <;> exact ⟨rfl, rfl, rfl, rfl⟩

theorem Wellspring.switched_quality (w : Wellspring) (func : Nat) :
    (w.switched true func).quality = (if func = 3 then 2 else if func = 4 then 4 else w.hostQuality) := by
  unfold Wellspring.switched
  split
  · rfl
  · rfl
  · next h3 h4 => rw [if_neg h3, if_neg h4]; rfl

theorem Wellspring.switch_clock (w : Wellspring) (sw : Switch) : (w.switch sw).frc = w.frc ∧ (w.switch sw).normal = sw.normal
    ∧ (sw.normal = true → (w.switch sw).rate = sw.rate) ∧ (sw.normal = false → (w.switch sw).inc = sw.inc)
    ∧ (w.switch sw).hostQuality = w.hostQuality := by
  unfold Wellspring.switch
  split
  · next h => exact ⟨rfl, h.symm, fun _ => rfl, fun h' => absurd (h.symm.trans h') (by decide), rfl⟩
  · next h => exact ⟨rfl, ((Bool.not_eq_true _).mp h).symm, fun h' => absurd h' h, fun _ => rfl, rfl⟩

theorem Wellspring.applied_switched (w : Wellspring) (sw : Switch) (host : Bool) (e : BitVec 6) (m : Sparse Tmo) :
    w.Switched (w.applied sw host e m) sw host := by
  obtain ⟨hfrc, hnormal, hrate, hinc, hq⟩ := w.switch_clock sw
  obtain ⟨kfrc, knormal, krate, kinc⟩ := Wellspring.switched_clock { w.switch sw with epoch := e, tmos := m } host sw.func
  refine ⟨kfrc.trans hfrc, rfl, knormal.trans hnormal, fun h => krate.trans (hrate h), fun h => kinc.trans (hinc h), ?_, ?_⟩
  · exact (Wellspring.time_switched { w.switch sw with epoch := e, tmos := m } host sw.func).trans (w.time_switch sw)
  · rintro rfl
    refine (Wellspring.switched_quality { w.switch sw with epoch := e, tmos := m } sw.func).trans ?_
    rw [show Wellspring.hostQuality { w.switch sw with epoch := e, tmos := m } = (w.switch sw).hostQuality from rfl, hq]

theorem State.applySwitch_ws (s : State) (sw : Switch) : ∃ e m, (s.applySwitch sw).ws = s.ws.applied sw s.servoHost e m := by
  obtain ⟨e, m, hws⟩ := s.doSwitch_ws sw
  have hhost : (s.doSwitch sw).rbit Reg.WS_CTL 0 = s.servoHost := State.rbit_of_reg (regsBut_doSwitch s sw _ (by decide)) 0
  unfold State.applySwitch
  refine ⟨e, m, ?_⟩
  have hv : { (s.doSwitch sw).ws.switched ((s.doSwitch sw).rbit Reg.WS_CTL 0) sw.func with armed := none } = s.ws.applied sw s.servoHost e m := by
    rw [hws, hhost]
    rfl
  rw [← hv]
  split
  · rfl
  · rfl

/-- The TIME_ADJ that armed the switch completes with the FRC of its instant. -/
theorem State.applySwitch_completes (s : State) (sw : Switch) {tag : U32} {irq : Bool} (h : sw.cmd = some (tag, irq)) :
    ∃ c, c ∈ (s.applySwitch sw).hif.ready ∧ c.tag = tag ∧ c.opcode = 0x75 ∧ c.result = (s.applySwitch sw).ws.frc
      ∧ c.status.toNat = (if sw.late then Status.late else Status.ok) := by
  unfold State.applySwitch
  extract_lets u v
  rw [h]
  refine ⟨_, List.mem_append_right _ (List.mem_singleton.mpr rfl), rfl, rfl, rfl, ?_⟩
  cases sw.late <;> rfl

theorem ends_timeSwitch (s : State) (sw : Switch) (ha : s.ws.armed = some sw) : Ends .timeSwitch s (fun t =>
      t.ws.frc = sw.at_ ∧ t.ws.armed = none ∧ t.ws.normal = sw.normal
      ∧ (sw.normal = true → t.ws.rate = sw.rate) ∧ (sw.normal = false → t.ws.inc = sw.inc)
      ∧ t.now = (s.ws.clocks (sw.at_ - s.ws.frc).toNat).time + ofInt 64 sw.step
      ∧ (s.servoHost = true → t.ws.quality = (if sw.func = 3 then 2 else if sw.func = 4 then 4 else s.ws.hostQuality))
      ∧ (∀ tag irq, sw.cmd = some (tag, irq) → ∃ c, c ∈ t.hif.ready ∧ c.tag = tag ∧ c.opcode = 0x75 ∧ c.result = sw.at_
          ∧ c.status.toNat = (if sw.late then Status.late else Status.ok))) := by
  generalize hn : (sw.at_ - s.ws.frc).toNat = n
  obtain ⟨v, hv, hregs, hvws⟩ : ∃ v : State, s.fresh.countWait n = v ∧ RegsBut s v [] ∧ v.ws = s.ws :=
    ⟨_, rfl, .of_foot [.gecko] (fun _ _ => countWait_foot _ _ (.refl s.fresh)) [], same_of_foot [.gecko] (fun _ _ => countWait_foot _ _ (.refl s.fresh)) .ws⟩
  have hrun : exec .timeSwitch s = .next (State.tmoEdges s.fresh (v.elapse n)) := by
    rw [← hv, ← hn]
    exact congrArg Host.Outcome.next (by rw [show s.fresh.ws.armed = some sw from ha]; rfl)
  obtain ⟨u, hu⟩ : ∃ u, State.applySwitch { v with ws := v.ws.clocks n } sw = u := ⟨_, rfl⟩
  have hlapse : v.elapse n = u := by
    have ha' : v.ws.armed = some sw := by rw [hvws, ha]
    have hd : (sw.at_ - v.ws.frc).toNat = n := by rw [hvws, hn]
    unfold State.elapse
    rw [ha']
    simp only [hd]
    rw [if_pos (Nat.le_refl n), hu, Nat.sub_self, Wellspring.clocks_zero]
  obtain ⟨e, m, hws⟩ := State.applySwitch_ws { v with ws := v.ws.clocks n } sw
  have hcompl := fun tag irq h => State.applySwitch_completes { v with ws := v.ws.clocks n } sw (tag := tag) (irq := irq) h
  have hhost : State.servoHost { v with ws := v.ws.clocks n } = s.servoHost := State.rbit_of_reg (hregs.all _) 0
  have hparts := State.tmoEdges_parts s.fresh u
  rw [hu] at hws hcompl
  rw [hhost] at hws
  have hsw : (s.ws.clocks n).Switched (State.tmoEdges s.fresh u).ws sw s.servoHost := by
    rw [hparts .ws (by decide), hws, hvws]
    exact Wellspring.applied_switched _ sw _ e m
  have hfrc : (State.tmoEdges s.fresh u).ws.frc = sw.at_ := by
    rw [hsw.frc, ← hn]
    show s.ws.frc + BitVec.ofNat 64 (sw.at_ - s.ws.frc).toNat = sw.at_
    rw [BitVec.ofNat_toNat, BitVec.setWidth_eq]
    bv_omega
  rw [hlapse] at hrun
  refine ⟨_, hrun, hfrc, hsw.armed, hsw.normal, hsw.rate, hsw.inc, hsw.time, hsw.quality, fun tag irq h => ?_⟩
  · obtain ⟨c, hc, h1, h2, h3, h4⟩ := hcompl tag irq h
    refine ⟨c, ?_, h1, h2, ?_, h4⟩
    · rw [hparts .hif (by decide)]
      exact hc
    · rw [h3, ← hfrc, hparts .ws (by decide)]

end

/-- Settles O40. -/
theorem hostTimeControl : Obligations.HostTimeControl := by
  unfold Obligations.HostTimeControl
  refine ⟨fun s dt d r hr h => ⟨fun hb => ?_, fun hb hs => ?_, fun hb hs => ⟨ends_timeAdj_arms hr h hb hs, fun hf ha => ?_, fun hf => ?_,
    ends_timeAdj_step hr h hb hs, fun hf => ?_, ends_timeAdj_oneshot hr h hb hs, ends_timeAdj_asym hr h hb hs⟩⟩,
    ends_timeSwitch, fun s hh hn => ⟨fun hm => ?_, fun hm => ?_⟩⟩
  · refine ends_timeAdj hr h fun u hu => ?_
    rw [State.timeAdj_bad (hu.adjBad.trans hb)]
    exact hu.timeAnswered _ _
  · refine ends_timeAdj hr h fun u hu => ?_
    rw [State.timeAdj_state (hu.adjBad.trans hb) ((hu.adjState hb).trans hs)]
    exact hu.timeAnswered _ _
  · refine ends_timeAdj hr h fun u hu => ?_
    rw [State.timeAdj_busy (hu.adjBad.trans hb) ((hu.adjState hb).trans hs) hf (by rw [hu.ws]; exact ha)]
    exact hu.timeAnswered _ _
  · refine ends_timeAdj hr h fun u hu => ?_
    rw [State.timeAdj_inc (hu.adjBad.trans hb) ((hu.adjState hb).trans hs) hf]
    obtain ⟨hans, heq⟩ := hu.timeDone (v := u.updWs (fun w => { w with inc := BitVec.ofNat 64 (d.arg 0x28 8), quality := 4 })) rfl
      (show u.ws.tmos = r.ws.tmos by rw [hu.ws]) Status.ok 0
    refine ⟨hans, ?_⟩
    rw [heq, ← hu.ws]
    rfl
  · refine ends_timeAdj hr h fun u hu => ?_
    rw [State.timeAdj_quality (hu.adjBad.trans hb) ((hu.adjState hb).trans hs) hf]
    obtain ⟨hans, heq⟩ := hu.timeDone (v := u.updWs (fun w => { w with quality := if w.normal then BitVec.ofNat 3 (d.arg 9 1) else w.quality, hostQuality := BitVec.ofNat 3 (d.arg 9 1) })) rfl
      (show u.ws.tmos = r.ws.tmos by rw [hu.ws]) Status.ok 0
    refine ⟨hans, ?_⟩
    rw [heq, ← hu.ws]
    rfl
  · refine ⟨_, congrArg Host.Outcome.next (if_pos (show (s.fresh.servoHost && s.fresh.ws.normal && s.fresh.mgmt != Node.activating) = true from ?_)), rfl, .of_regs rfl rfl _⟩
    rw [show s.fresh.servoHost = true from hh, show s.fresh.ws.normal = true from hn]
    simpa using hm
  · refine ⟨_, congrArg Host.Outcome.next (if_neg (show ¬ (s.fresh.servoHost && s.fresh.ws.normal && s.fresh.mgmt != Node.activating) = true from ?_)), rfl⟩
    simp [hm]

end Sys2Proof.Machine

/-! PROOFS. The node servo on Sync, Delay and Announce messages, and the loss of its master (R421-R428, Table 14-3). -/

namespace Sys2Proof.Machine

/-! ## Steps, slews and states of the servo (R423, R426) -/

/-- An operation of the servo: of Wellspring it keeps the servo's measured delay, and it writes no register but those of steps and of SUSPECT. -/
structure ServoMoved (s t : State) : Prop where
  regs : RegsBut s t (Reg.WS_SUSPECT_CNT :: stepRegs)
  fwd : t.ws.servo.fwd = s.ws.servo.fwd

section

variable {s t u : State}

theorem ServoMoved.refl (s : State) : ServoMoved s s := ⟨.refl _ _, rfl⟩

theorem ServoMoved.trans (h : ServoMoved s t) (k : ServoMoved t u) : ServoMoved s u := ⟨h.regs.trans k.regs, k.fwd.trans h.fwd⟩

/-- What writes Wellspring alone. -/
theorem ServoMoved.of_ws (hregs : t.regs = s.regs) (hboot : t.behavBoot = s.behavBoot) (hf : t.ws.servo.fwd = s.ws.servo.fwd) : ServoMoved s t :=
  ⟨.of_regs hregs hboot _, hf⟩

theorem ServoMoved.ite {c : Prop} [Decidable c] {a b : State} (ha : ServoMoved s a) (hb : ServoMoved s b) : ServoMoved s (if c then a else b) := by
  split
  · exact ha
  · exact hb

/-- A committed step leaves the servo as it was and moves the time by itself. -/
structure Stepped (s t : State) (step : Int) : Prop where
  servo : t.ws.servo = s.ws.servo
  state : t.ws.servoState = s.ws.servoState
  quality : t.ws.quality = s.ws.quality
  normal : t.ws.normal = s.ws.normal
  now : t.now = s.now + ofInt 64 step
  regs : RegsBut s t stepRegs
  count : step ≠ 0 → t.reg Reg.WS_STEP_CNT = satAdd (s.reg Reg.WS_STEP_CNT) 1

theorem Wellspring.switch_servo (w : Wellspring) (sw : Switch) : (w.switch sw).servo = w.servo ∧ (w.switch sw).servoState = w.servoState
    ∧ (w.switch sw).quality = w.quality := by
  unfold Wellspring.switch
  split
  · exact ⟨rfl, rfl, rfl⟩
  · exact ⟨rfl, rfl, rfl⟩

theorem State.doSwitch_kept (s : State) (sw : Switch) : (s.doSwitch sw).ws.servo = s.ws.servo ∧ (s.doSwitch sw).ws.servoState = s.ws.servoState
    ∧ (s.doSwitch sw).ws.quality = s.ws.quality ∧ (s.doSwitch sw).ws.normal = sw.normal := by
  obtain ⟨e, m, h⟩ := s.doSwitch_ws sw
  rw [h]
  exact ⟨(s.ws.switch_servo sw).1, (s.ws.switch_servo sw).2.1, (s.ws.switch_servo sw).2.2, (s.ws.switch_clock sw).2.1⟩

theorem State.doSwitch_counts (s : State) (sw : Switch) (h : sw.step ≠ 0) :
    (s.doSwitch sw).reg Reg.WS_STEP_CNT = satAdd (s.reg Reg.WS_STEP_CNT) 1 := by
  unfold State.doSwitch
  extract_lets t t' change ws ws'
  exact (regsBut_stepped { s with ws := ws' } sw.step change t).2 h

/-- Whole nanoseconds added to the counter are added to the time. -/
theorem counter_add (c : BitVec 96) (step : Int) :
    BitVec.ofNat 64 ((c + ofInt 96 (step * 2 ^ 32)).toNat / 2 ^ 32) = BitVec.ofNat 64 (c.toNat / 2 ^ 32) + ofInt 64 step := by
  have hx : (ofInt 96 (step * 2 ^ 32)).toNat = (step % 2 ^ 64).toNat * 2 ^ 32 := by
    rw [ofInt, BitVec.toNat_ofInt]
    have : step * 2 ^ 32 % ((2 ^ 96 : Nat) : Int) = step % 2 ^ 64 * 2 ^ 32 := by
      omega
    rw [this]
    omega
  have hk : (ofInt 64 step).toNat = (step % 2 ^ 64).toNat := by
    rw [ofInt, BitVec.toNat_ofInt]
    norm_num
  refine BitVec.eq_of_toNat_eq ?_
  rw [BitVec.toNat_ofNat, BitVec.toNat_add, BitVec.toNat_add, BitVec.toNat_ofNat, hx, hk]
  have hc := c.isLt
  omega

theorem State.incStep_stepped (s : State) (step : Int) (h : s.ws.normal = false) : Stepped s (s.incStep step) step := by
  obtain ⟨e, m, hws⟩ := s.incStep_ws step
  obtain ⟨hregs, hcount⟩ := regsBut_stepped { s with ws := { s.ws with counter := s.ws.counter + ofInt 96 (step * 2 ^ 32) } } step false s.now
  refine ⟨by rw [hws], by rw [hws], by rw [hws], by rw [hws], ?_, fun o ho => hregs o ho, fun hs => hcount hs⟩
  rw [State.now, State.now, hws, Wellspring.time, Wellspring.time, if_neg (by simp [h]), if_neg (by simp [h])]
  exact counter_add _ _

theorem State.servoStep_stepped (s : State) (step : Int) : Stepped s (s.servoStep step) step := by
  unfold State.servoStep
  split
  · next h =>
    generalize hsw : ({ at_ := s.ws.frc, step := step, normal := true, rate := s.ws.rate } : Switch) = sw
    obtain ⟨h1, h2, h3, h4⟩ := s.doSwitch_kept sw
    refine ⟨h1, h2, h3, ?_, ?_, regsBut_doSwitch s sw, fun hs => ?_⟩
    · rw [h4, h, ← hsw]
    · rw [s.doSwitch_now, ← hsw]
    · exact s.doSwitch_counts sw (by rw [← hsw]; exact hs)
  · next h => exact s.incStep_stepped step ((Bool.not_eq_true _).mp h)

/-- A slew leaves the servo's states and counts alone. -/
structure Slewed (s t : State) : Prop where
  servo : ∃ f, t.ws.servo = { s.ws.servo with freq := f }
  state : t.ws.servoState = s.ws.servoState
  quality : t.ws.quality = s.ws.quality
  normal : t.ws.normal = s.ws.normal
  regs : RegsBut s t stepRegs

/-- A slew by its frequency estimate and its rate. -/
theorem State.servoSlew_eq (s : State) : ∃ freq rate : Nat, s.servoSlew =
    let v := State.updServo { s with free := s.free + 1 } (fun x => { x with freq := BitVec.ofNat 64 freq })
    if v.ws.normal then v.doSwitch { at_ := v.ws.frc, step := 0, normal := true, rate := BitVec.ofNat 64 rate }
    else v.updWs (fun w => { w with inc := incOf rate }) := ⟨_, _, rfl⟩

theorem State.servoSlew_slewed (s : State) : Slewed s s.servoSlew := by
  obtain ⟨freq, rate, heq⟩ := s.servoSlew_eq
  rw [heq]
  extract_lets v
  have hv : v.ws = { s.ws with servo := { s.ws.servo with freq := BitVec.ofNat 64 freq } } := rfl
  have hregs : RegsBut s v [] := .of_regs rfl rfl _
  clear_value v
  split
  · next h =>
    generalize hsw : ({ at_ := v.ws.frc, step := 0, normal := true, rate := BitVec.ofNat 64 rate } : Switch) = sw
    obtain ⟨h1, h2, h3, h4⟩ := v.doSwitch_kept sw
    refine ⟨⟨_, h1.trans (by rw [hv])⟩, h2.trans (by rw [hv]), h3.trans (by rw [hv]), ?_, (hregs.mono (List.nil_subset _)).trans (regsBut_doSwitch v sw)⟩
    rw [hv] at h
    rw [h4, ← hsw]
    exact h.symm
  · have hservo : v.ws.servo = { s.ws.servo with freq := BitVec.ofNat 64 freq } := by rw [hv]
    have hstate : v.ws.servoState = s.ws.servoState := by rw [hv]
    have hquality : v.ws.quality = s.ws.quality := by rw [hv]
    have hnormal : v.ws.normal = s.ws.normal := by rw [hv]
    exact ⟨⟨_, hservo⟩, hstate, hquality, hnormal, (hregs.mono (List.nil_subset _)).trans (.of_regs rfl rfl _)⟩

/-- Entry to LOCKED. -/
theorem State.servoLock_locked (s : State) : s.servoLock.ws.servoState = Servo.locked ∧ s.servoLock.ws.quality = 2 ∧ s.servoLock.ws.normal = true
    ∧ s.servoLock.rbit Reg.WS_EVT 5 = true ∧ ServoMoved s s.servoLock := by
  unfold State.servoLock
  extract_lets u
  have hu : u.ws.normal = true ∧ ServoMoved s u := by
    simp only [u]
    split
    · next h => exact ⟨h, .refl s⟩
    · generalize hsw : ({ at_ := s.ws.frc, step := 0, normal := true, rate := s.ws.inc <<< 24 } : Switch) = sw
      obtain ⟨h1, -, -, h4⟩ := s.doSwitch_kept sw
      exact ⟨h4.trans (by rw [← hsw]), (regsBut_doSwitch s sw).mono (List.subset_cons_self _ _), by rw [h1]⟩
  clear_value u
  have hws := (u.setServo Servo.locked 2).raise_ws Reg.WS_EVT 0x20
  refine ⟨by rw [hws]; rfl, by rw [hws]; rfl, by rw [hws]; exact hu.1, State.rbit_raise_self _ Reg.WS_EVT 0x20 5 (by decide) (by decide), ?_⟩
  refine hu.2.trans ⟨?_, by rw [hws]; rfl⟩
  exact (regsBut_raise (u.setServo Servo.locked 2) Reg.WS_EVT 0x20).mono (by decide)

/-- Entry to SUSPECT. -/
theorem State.servoSuspect_suspects (s : State) : s.servoSuspect.ws = { s.ws with servoState := Servo.suspect, quality := 3, servo := { s.ws.servo with pds := [] } }
    ∧ s.servoSuspect.reg Reg.WS_SUSPECT_CNT = satAdd (s.reg Reg.WS_SUSPECT_CNT) 1 ∧ s.servoSuspect.rbit Reg.WS_EVT 4 = true
    ∧ RegsBut s s.servoSuspect [Reg.WS_SUSPECT_CNT, Reg.WS_EVT, Reg.MSIX_PBA 0] := by
  unfold State.servoSuspect
  have hbump := regsBut_bump ((s.setServo Servo.suspect 3).updServo (fun x => { x with pds := [] })) Reg.WS_SUSPECT_CNT
  have hraise := regsBut_raise (((s.setServo Servo.suspect 3).updServo (fun x => { x with pds := [] })).bump Reg.WS_SUSPECT_CNT) Reg.WS_EVT 0x10
  refine ⟨?_, ?_, State.rbit_raise_self _ Reg.WS_EVT 0x10 4 (by decide) (by decide), (hbump.mono (by decide)).trans (hraise.mono (by decide))⟩
  · rw [State.raise_ws]
    rfl
  · rw [hraise _ (by decide), State.reg_bump, if_pos rfl]
    rfl

theorem State.predict_predicts (s : State) : (∃ x, s.predict.ws = { s.ws with servo := { s.ws.servo with pred := x, predOk := true } }) ∧ RegsBut s s.predict [] :=
  ⟨⟨_, rfl⟩, .of_regs rfl rfl _⟩

theorem Stepped.moved {step : Int} (h : Stepped s t step) : ServoMoved s t := ⟨h.regs.mono (List.subset_cons_self _ _), by rw [h.servo]⟩

theorem Slewed.moved (h : Slewed s t) : ServoMoved s t := by
  obtain ⟨f, hf⟩ := h.servo
  exact ⟨h.regs.mono (List.subset_cons_self _ _), by rw [hf]⟩

/-! ## Sync messages (R422-R426) -/

/-- What ACQUIRE shows before its correction. -/
def State.acquiring (s : State) : State := if s.ws.normal then s else s.updWs (fun w => { w with quality := 4 })

theorem State.acquiring_kept (s : State) : RegsBut s s.acquiring [] ∧ s.acquiring.ws.servo = s.ws.servo ∧ s.acquiring.now = s.now := by
  unfold State.acquiring
  split
  · exact ⟨.refl _ _, rfl, rfl⟩
  · exact ⟨.of_regs rfl rfl _, rfl, rfl⟩

/-- An offset above STEP_THRESH in ACQUIRE. -/
theorem State.acquireSync_steps {o : Int} (h : s.stepThresh < o.natAbs) : (s.acquireSync o).now = s.now + ofInt 64 (-o)
    ∧ (s.acquireSync o).ws.servo.lockRun = 0 ∧ (s.acquireSync o).reg Reg.WS_STEP_CNT = satAdd (s.reg Reg.WS_STEP_CNT) 1
    ∧ ServoMoved s (s.acquireSync o) := by
  obtain ⟨hregs, hservo, hnow⟩ := s.acquiring_kept
  have hstep := s.acquiring.servoStep_stepped (-o)
  have heq : s.acquireSync o = (s.acquiring.servoStep (-o)).updServo (fun x => { x with lockRun := 0 }) := by
    refine if_pos (show s.acquiring.stepThresh < o.natAbs from ?_)
    rw [State.stepThresh, State.rfld_of_reg (hregs.all _)]
    exact h
  rw [heq]
  refine ⟨hstep.now.trans (by rw [hnow]), rfl, (hstep.count (by omega)).trans (by rw [hregs.all]), ?_⟩
  exact (ServoMoved.trans ⟨hregs.mono (List.nil_subset _), by rw [hservo]⟩ hstep.moved).trans (.of_ws rfl rfl rfl)

/-- An offset below it in ACQUIRE. -/
theorem State.acquireSync_slews {o : Int} (h : o.natAbs ≤ s.stepThresh) :
    ServoMoved s (s.acquireSync o) ∧ (o.natAbs < s.lockThresh → 15 ≤ s.ws.servo.lockRun →
      (s.acquireSync o).ws.servoState = Servo.locked ∧ (s.acquireSync o).ws.quality = 2 ∧ (s.acquireSync o).ws.normal = true
        ∧ (s.acquireSync o).rbit Reg.WS_EVT 5 = true) := by
  obtain ⟨hregs, hservo, hnow⟩ := s.acquiring_kept
  have hslew := s.acquiring.servoSlew_slewed
  obtain ⟨f, hf⟩ := hslew.servo
  have hmoved : ServoMoved s s.acquiring.servoSlew := ServoMoved.trans ⟨hregs.mono (List.nil_subset _), by rw [hservo]⟩ hslew.moved
  obtain ⟨n, hn, heq⟩ : ∃ n, n = (if o.natAbs < s.acquiring.servoSlew.lockThresh then s.acquiring.servoSlew.ws.servo.lockRun + 1 else 0)
      ∧ s.acquireSync o = if 16 ≤ n then (s.acquiring.servoSlew.updServo (fun x => { x with lockRun := n })).servoLock
        else s.acquiring.servoSlew.updServo (fun x => { x with lockRun := n }) := by
    refine ⟨_, rfl, if_neg (show ¬ s.acquiring.stepThresh < o.natAbs from ?_)⟩
    rw [State.stepThresh, State.rfld_of_reg (hregs.all _), Nat.not_lt]
    exact h
  have hrun : s.acquiring.servoSlew.ws.servo.lockRun = s.ws.servo.lockRun := by rw [hf, hservo]
  have hthresh : s.acquiring.servoSlew.lockThresh = s.lockThresh :=
    State.rfld_of_reg ((hslew.regs _ (by decide)).trans (hregs.all _)) _ _
  rw [hrun, hthresh] at hn
  rw [heq]
  clear heq
  generalize hv : s.acquiring.servoSlew.updServo (fun x => { x with lockRun := n }) = v
  have hvm : ServoMoved s v := by
    rw [← hv]
    exact hmoved.trans (.of_ws rfl rfl rfl)
  obtain ⟨h1, h2, h3, h4, h5⟩ := v.servoLock_locked
  refine ⟨.ite (hvm.trans h5) hvm, fun hl h15 => ?_⟩
  rw [if_pos hl] at hn
  rw [if_pos (show 16 ≤ n by omega)]
  exact ⟨h1, h2, h3, h4⟩

theorem State.acquireSync_moved (s : State) (o : Int) : ServoMoved s (s.acquireSync o) := by
  by_cases h : s.stepThresh < o.natAbs
  · exact (State.acquireSync_steps h).2.2.2
  · exact (State.acquireSync_slews (Nat.not_lt.mp h)).1

theorem State.servoSuspect_moved (s : State) : ServoMoved s s.servoSuspect := by
  obtain ⟨hws, -, -, hregs⟩ := s.servoSuspect_suspects
  exact ⟨hregs.mono (by decide), by rw [hws]⟩

theorem State.lockedSync_moved (s : State) (o : Int) : ServoMoved s (s.lockedSync o) :=
  .ite s.servoSuspect_moved (.ite (s.servoStep_stepped _).moved s.servoSlew_slewed.moved)

/-- The servo's correction of a measured offset. -/
def State.corrected (s : State) (o : Int) : State :=
  match s.ws.servoState with
  | 1 => s.acquireSync o
  | 2 => s.lockedSync o
  | _ => s

theorem State.corrected_moved (s : State) (o : Int) : ServoMoved s (s.corrected o) := by
  unfold State.corrected
  split
  · exact s.acquireSync_moved o
  · exact s.lockedSync_moved o
  · exact .refl s

/-- The offset measured, and shown. -/
def State.measuredOfs (s : State) (fwd o : Int) : State := (s.updServo (fun x => { x with fwd := fwd })).setReg Reg.WS_LAST_OFS (sat32 o)

theorem State.syncReceived_taken {p : Nat} {m : PtpSync} (hr : s.servoRuns = true) (hp : s.ptpPort p = true) (ht : s.ptpTakes m.hdr = true)
    (hl : -4 ≤ m.logInterval) (hl' : m.logInterval ≤ 1) (hm : s.isMaster m.master p = true) {o : Int}
    (ho : o = (s.rxStamp p - m.t1).toInt - s.ws.servo.d - s.asymmetry p) :
    s.syncReceived p m = ((s.measuredOfs (s.rxStamp p - m.t1).toInt o).corrected o).predict := by
  subst ho
  unfold State.syncReceived
  exact if_neg (by simp [hr, hp, ht, hl, hl', hm])

theorem State.syncReceived_not {p : Nat} {m : PtpSync} (h : s.ptpTakes m.hdr = false ∨ m.logInterval < -4 ∨ 1 < m.logInterval) :
    s.syncReceived p m = s := by
  unfold State.syncReceived
  refine if_pos ?_
  rcases h with h | h | h
  · simp [h]
  · simp [Int.not_le.mpr h]
  · simp [Int.not_le.mpr h]

/-- What the measured offset leaves in the step. -/
def SyncDone (r t : State) (p : Nat) (m : PtpSync) (o : Int) : Prop :=
  t.reg Reg.WS_LAST_OFS = sat32 o ∧ t.ws.servo.fwd = (r.rxStamp p - m.t1).toInt
    ∧ (r.ws.servoState = Servo.locked → r.ws.servo.predOk = true → r.jumpLimit < (o - r.ws.servo.pred).natAbs →
        t.ws.servoState = Servo.suspect ∧ t.ws.quality = 3 ∧ t.ws.rate = r.ws.rate
        ∧ t.reg Reg.WS_SUSPECT_CNT = satAdd (r.reg Reg.WS_SUSPECT_CNT) 1)
    ∧ (r.ws.servoState = Servo.acquire → r.stepThresh < o.natAbs → t.now = r.now + ofInt 64 (-o) ∧ t.ws.servo.lockRun = 0
        ∧ t.reg Reg.WS_STEP_CNT = satAdd (r.reg Reg.WS_STEP_CNT) 1)
    ∧ (r.ws.servoState = Servo.acquire → o.natAbs ≤ r.stepThresh → o.natAbs < r.lockThresh → 15 ≤ r.ws.servo.lockRun →
        t.ws.servoState = Servo.locked ∧ t.ws.quality = 2 ∧ t.ws.normal = true ∧ t.rbit Reg.WS_EVT 5 = true)
    ∧ (r.ws.servoState = Servo.suspect → t.ws.servoState = Servo.suspect ∧ t.now = r.now ∧ t.ws.rate = r.ws.rate)

theorem State.corrected_done (r : State) (p : Nat) (m : PtpSync) (o : Int) :
    SyncDone r ((r.measuredOfs (r.rxStamp p - m.t1).toInt o).corrected o) p m o := by
  obtain ⟨u, hu⟩ : ∃ u, r.measuredOfs (r.rxStamp p - m.t1).toInt o = u := ⟨_, rfl⟩
  have hws : u.ws = { r.ws with servo := { r.ws.servo with fwd := (r.rxStamp p - m.t1).toInt } } := by rw [← hu]; rfl
  have hregs : RegsBut r u [Reg.WS_LAST_OFS] := by rw [← hu]; exact regsBut_setReg (r.updServo _) _ _
  have hofs : u.reg Reg.WS_LAST_OFS = sat32 o := by rw [← hu, State.measuredOfs, State.reg_setReg, if_pos rfl]
  have hstep : u.stepThresh = r.stepThresh := congrArg (1000 * ·) (State.rfld_of_reg (hregs _ (by decide)) 16 16)
  have hlock : u.lockThresh = r.lockThresh := State.rfld_of_reg (hregs _ (by decide)) 0 16
  have hjump : u.jumpLimit = r.jumpLimit := State.rfld_of_reg (hregs _ (by decide)) 0 16
  have hnow : u.now = r.now := by rw [State.now, hws]; rfl
  have hmoved := u.corrected_moved o
  have hstate : u.ws.servoState = r.ws.servoState := by rw [hws]
  rw [hu]
  refine ⟨(hmoved.regs _ (by decide)).trans hofs, hmoved.fwd.trans (by rw [hws]), fun h hp hj => ?_, fun h ht => ?_, fun h ht hl hr => ?_, fun h => ?_⟩
  · have heq : u.corrected o = u.servoSuspect := by
      rw [State.corrected, hstate, h]
      exact if_pos (by simp [hws, hp, hjump, hj])
    obtain ⟨hsw, hcnt, -, -⟩ := u.servoSuspect_suspects
    rw [heq, hsw, hws]
    exact ⟨rfl, rfl, rfl, hcnt.trans (by rw [hregs _ (by decide)])⟩
  · have heq : u.corrected o = u.acquireSync o := by simp only [State.corrected, hstate, h, Servo.acquire]
    obtain ⟨h1, h2, h3, -⟩ := State.acquireSync_steps (s := u) (o := o) (by rw [hstep]; exact ht)
    rw [heq]
    exact ⟨h1.trans (by rw [hnow]), h2, h3.trans (by rw [hregs _ (by decide)])⟩
  · have heq : u.corrected o = u.acquireSync o := by simp only [State.corrected, hstate, h, Servo.acquire]
    rw [heq]
    exact (State.acquireSync_slews (s := u) (o := o) (by rw [hstep]; exact ht)).2 (by rw [hlock]; exact hl) (by rw [hws]; exact hr)
  · have heq : u.corrected o = u := by simp only [State.corrected, hstate, h, Servo.suspect]
    rw [heq]
    exact ⟨hstate.trans h, hnow, by rw [hws]⟩

/-- The next prediction and the edges of timed outputs behind the correction. -/
theorem SyncDone.predicted {r v t : State} {p : Nat} {m : PtpSync} {o : Int} (h : SyncDone r v p m o)
    (hws : ∃ x, t.ws = { v.ws with servo := { v.ws.servo with pred := x, predOk := true } }) (hregs : RegsBut v t frameRegs) : SyncDone r t p m o := by
  obtain ⟨x, hws⟩ := hws
  obtain ⟨h1, h2, h3, h4, h5, h6⟩ := h
  have hnow : t.now = v.now := by rw [State.now, State.now, hws]; rfl
  refine ⟨(hregs _ (by decide)).trans h1, by rw [hws]; exact h2, fun ha hb hc => ?_, fun ha hb => ?_, fun ha hb hc hd => ?_, fun ha => ?_⟩
  · obtain ⟨k1, k2, k3, k4⟩ := h3 ha hb hc
    rw [hws]
    exact ⟨k1, k2, k3, (hregs _ (by decide)).trans k4⟩
  · obtain ⟨k1, k2, k3⟩ := h4 ha hb
    exact ⟨hnow.trans k1, by rw [hws]; exact k2, (hregs _ (by decide)).trans k3⟩
  · obtain ⟨k1, k2, k3, k4⟩ := h5 ha hb hc hd
    rw [hws]
    exact ⟨k1, k2, k3, (State.rbit_of_reg (hregs _ (by decide)) 5).trans k4⟩
  · obtain ⟨k1, k2, k3⟩ := h6 ha
    rw [hnow, hws]
    exact ⟨k1, k2, k3⟩

theorem ends_ptpSync {p dt : Nat} {m : PtpSync} {o : Int} {r : State} (hp : p < 2) (hr : s.fresh.pass dt = r) (hrun : r.servoRuns = true)
    (hport : r.ptpPort p = true) (ht : r.ptpTakes m.hdr = true) (hl : -4 ≤ m.logInterval) (hl' : m.logInterval ≤ 1)
    (hm : r.isMaster m.master p = true) (ho : o = (r.rxStamp p - m.t1).toInt - r.ws.servo.d - r.asymmetry p) :
    Ends (.ptpSyncReceived p m dt) s (fun t => SyncDone r t p m o) := by
  refine ⟨_, need_of (decide_eq_true hp) _, ?_⟩
  rw [hr, State.syncReceived_taken hrun hport ht hl hl' hm ho]
  have hdone := r.corrected_done p m o
  generalize (r.measuredOfs (r.rxStamp p - m.t1).toInt o).corrected o = v at hdone ⊢
  obtain ⟨hws, hregs⟩ := v.predict_predicts
  refine hdone.predicted ?_ ((hregs.mono (List.nil_subset _)).trans (regsBut_tmoEdges r v.predict))
  rw [State.tmoEdges_parts r v.predict .ws (by decide)]
  exact hws

theorem ends_ptpSync_not {p dt : Nat} {m : PtpSync} {r : State} (hp : p < 2) (hr : s.fresh.pass dt = r)
    (h : r.ptpTakes m.hdr = false ∨ m.logInterval < -4 ∨ 1 < m.logInterval) : Ends (.ptpSyncReceived p m dt) s (fun t => t = r) := by
  refine ⟨_, need_of (decide_eq_true hp) _, ?_⟩
  rw [hr, State.syncReceived_not h]
  exact r.tmoEdges_tmos rfl

/-! ## Path delay (R424, R426) -/

theorem State.filterD_first {s : State} (md : Int) (h : s.ws.servo.haveD = false) : s.filterD md = State.setD { s with free := s.free + 1 } md := by
  unfold State.filterD State.draw
  exact congrArg (State.setD _) (if_neg (by simp [h]))

/-- A Delay_Resp behind its checks. -/
theorem State.delayResp_taken {p : Nat} {m : PtpDelayResp} {t3 : U64} (hq : s.ws.servo.t3 = some (m.seq, t3)) (hr : s.servoRuns = true)
    (hp : s.ptpPort p = true) (ht : s.ptpTakes m.hdr = true) (hm : s.isMaster m.master p = true) {md : Int}
    (hmd : md = (s.ws.servo.fwd + (m.t4 - t3).toInt).fdiv 2) (hs : s.ws.servoState ≠ Servo.suspect) :
    s.delayResp p m = if s.ws.servoState = Servo.locked && s.ws.servo.haveD && decide (s.jumpLimit < (md - s.ws.servo.d).natAbs)
      then (s.updServo (fun x => { x with t3 := none })).servoSuspect else (s.updServo (fun x => { x with t3 := none })).filterD md := by
  subst hmd
  unfold State.delayResp
  rw [hq]
  exact (if_neg (by simp [hr, hp, ht, hm])).trans (if_neg hs)

theorem ends_delayResp_first {p : Nat} {m : PtpDelayResp} {t3 : U64} {md : Int} (hp : p < 2) (hq : s.ws.servo.t3 = some (m.seq, t3))
    (hr : s.servoRuns = true) (hport : s.ptpPort p = true) (ht : s.ptpTakes m.hdr = true) (hm : s.isMaster m.master p = true)
    (hmd : md = (s.ws.servo.fwd + (m.t4 - t3).toInt).fdiv 2) (hs : s.ws.servoState ≠ Servo.suspect) (hd : s.ws.servo.haveD = false) :
    Ends (.ptpDelayRespReceived p m) s (fun t => t.ws.servo = { s.ws.servo with t3 := none, d := md, haveD := true }
      ∧ t.reg Reg.WS_MEAN_PD = sat32 md ∧ RegsBut s t [Reg.WS_MEAN_PD]) := by
  refine ⟨_, need_of (decide_eq_true hp) _, ?_⟩
  rw [State.delayResp_taken (s := s.fresh) hq hr hport ht hm hmd hs, if_neg (by simp [hd]),
    State.filterD_first (s := s.fresh.updServo (fun x => { x with t3 := none })) md hd]
  refine ⟨rfl, by rw [State.setD, State.reg_setReg, if_pos rfl], ?_⟩
  exact regsBut_setReg (State.updServo _ _) _ _

theorem ends_delayResp_jump {p : Nat} {m : PtpDelayResp} {t3 : U64} {md : Int} (hp : p < 2) (hq : s.ws.servo.t3 = some (m.seq, t3))
    (hr : s.servoRuns = true) (hport : s.ptpPort p = true) (ht : s.ptpTakes m.hdr = true) (hm : s.isMaster m.master p = true)
    (hmd : md = (s.ws.servo.fwd + (m.t4 - t3).toInt).fdiv 2) (hs : s.ws.servoState = Servo.locked) (hd : s.ws.servo.haveD = true)
    (hj : s.jumpLimit < (md - s.ws.servo.d).natAbs) :
    Ends (.ptpDelayRespReceived p m) s (fun t => t.ws.servoState = Servo.suspect ∧ t.ws.servo.d = s.ws.servo.d
      ∧ t.reg Reg.WS_SUSPECT_CNT = satAdd (s.reg Reg.WS_SUSPECT_CNT) 1 ∧ t.rbit Reg.WS_EVT 4 = true) := by
  refine ⟨_, need_of (decide_eq_true hp) _, ?_⟩
  rw [State.delayResp_taken (s := s.fresh) hq hr hport ht hm hmd (by rw [State.fresh_ws, hs]; decide),
    if_pos (by simp [hs, hd, show s.fresh.jumpLimit = s.jumpLimit from rfl, hj])]
  obtain ⟨hws, hcnt, hevt, -⟩ := (s.fresh.updServo (fun x => { x with t3 := none })).servoSuspect_suspects
  rw [hws]
  exact ⟨rfl, rfl, hcnt, hevt⟩

/-! ## Ports -/

theorem State.port_updPort_self (s : State) (p : Nat) (f : Port → Port) : (s.updPort p f).port p = f (s.port p) := by
  unfold State.updPort State.port
  split <;> rfl

theorem State.updPort_servo (s : State) (p : Nat) (f : Port → Port) : (s.updPort p f).ws.servo = s.ws.servo := by
  unfold State.updPort
  split <;> rfl

/-! ## The loss of the master, and a long ACQUIRE (R425, Table 14-3) -/

theorem State.loseMaster_lost {x : U64} {p : Nat} (hm : s.ws.servo.master = some (x, p)) (hr : s.servoRuns = true) :
    s.loseMaster.ws.servo.master = none ∧ s.loseMaster.ws.servoState = Servo.holdover
      ∧ (s.ws.normal = true → s.loseMaster.ws.quality = 3) ∧ s.loseMaster.ws.rate = s.ws.rate ∧ s.loseMaster.now = s.now
      ∧ s.loseMaster.reg Reg.WS_HOLDOVER_CNT = satAdd (s.reg Reg.WS_HOLDOVER_CNT) 1 ∧ s.loseMaster.rbit Reg.WS_EVT 3 = true := by
  obtain ⟨u, hu, heq⟩ : ∃ u : State, u = (s.setRegBit (Reg.ETH_STATUS p) 2 false).updServo
        (fun x => { x with master := none, t3 := none, pds := [], lockRun := 0 })
      ∧ s.loseMaster = ((u.setServo Servo.holdover (if u.ws.normal then 3 else u.ws.quality)).bump Reg.WS_HOLDOVER_CNT).raise Reg.WS_EVT 8 := by
    refine ⟨_, rfl, ?_⟩
    unfold State.loseMaster
    rw [hm]
    exact if_neg (by simp [hr])
  have hraise := regsBut_raise ((u.setServo Servo.holdover (if u.ws.normal then 3 else u.ws.quality)).bump Reg.WS_HOLDOVER_CNT) Reg.WS_EVT 8
  have hws := ((u.setServo Servo.holdover (if u.ws.normal then 3 else u.ws.quality)).bump Reg.WS_HOLDOVER_CNT).raise_ws Reg.WS_EVT 8
  have hcnt : u.reg Reg.WS_HOLDOVER_CNT = s.reg Reg.WS_HOLDOVER_CNT := by
    have hoff : (0x29074 : Nat) ≠ 0x28004 + 0x800 * p := by omega
    rw [hu]
    exact regsBut_setRegBit s _ _ _ Reg.WS_HOLDOVER_CNT (List.mem_singleton.not.mpr hoff)
  rw [heq, State.now, hws]
  refine ⟨by rw [hu]; rfl, rfl, fun hn => if_pos (by rw [hu]; exact hn), by rw [hu]; rfl, by rw [hu]; rfl, ?_,
    State.rbit_raise_self _ Reg.WS_EVT 8 3 (by decide) (by decide)⟩
  rw [hraise _ (by decide), State.reg_bump, if_pos rfl]
  exact congrArg (satAdd · 1) hcnt

theorem State.acquireAgain_increments (hr : s.servoRuns = true) (hs : s.ws.servoState = Servo.acquire) (hn : s.ws.normal = true) :
    s.acquireAgain.ws.normal = false ∧ s.acquireAgain.ws.servoState = Servo.acquire ∧ s.acquireAgain.ws.quality = 4
      ∧ s.acquireAgain.ws.inc = incOf s.ws.rate.toNat ∧ s.acquireAgain.now = s.now := by
  unfold State.acquireAgain
  rw [if_pos (by simp [hr, hs, hn])]
  generalize hsw : ({ at_ := s.ws.frc, step := 0, normal := false, inc := incOf s.ws.rate.toNat } : Switch) = sw
  have hnow := s.doSwitch_now sw
  obtain ⟨e, m, hws⟩ := s.doSwitch_ws sw
  have hinc := (s.ws.switch_clock sw).2.2.2.1
  generalize s.doSwitch sw = u at hnow hws ⊢
  have hnormal : u.ws.normal = false := by rw [hws, ← hsw]; rfl
  refine ⟨hnormal, rfl, rfl, ?_, ?_⟩
  · show u.ws.inc = _
    rw [hws]
    exact (hinc (by rw [← hsw])).trans (by rw [← hsw])
  · show u.now = s.now
    rw [hnow, ← hsw]
    exact BitVec.add_zero _

/-! ## Announce messages (R421, R425) -/

/-- A new master's Announce is heard, and no more. -/
theorem State.announce_hears {p : Nat} {m : PtpAnnounce} (hr : s.servoRuns = true) (hp : s.ptpPort p = true) (ht : s.ptpTakes m.hdr = true)
    (hq : s.qualifies p m = false) : s.announce p m = (s.setRegBit (Reg.ETH_STATUS p) 2 true).hear p m := by
  unfold State.announce
  refine (if_neg (by simp [hr, hp, ht])).trans (if_pos ?_)
  rw [show State.qualifies (s.setRegBit (Reg.ETH_STATUS p) 2 true) p m = s.qualifies p m from rfl, hq]
  rfl

/-- The first master that qualifies is taken. -/
theorem State.announce_takes {p : Nat} {m : PtpAnnounce} (hr : s.servoRuns = true) (hp : s.ptpPort p = true) (ht : s.ptpTakes m.hdr = true)
    (hq : s.qualifies p m = true) (hm : s.ws.servo.master = none) (hb : s.ws.servo.best = none) (hf : s.ws.servoState = Servo.free) :
    s.announce p m = (((s.setRegBit (Reg.ETH_STATUS p) 2 true).hear p m).updServo
      (fun x => { x with best := some m, bestPort := p, bestSeen := s.frcNat })).takeMaster m.master p := by
  unfold State.announce
  refine (if_neg (by simp [hr, hp, ht])).trans ((if_neg ?_).trans ?_)
  · rw [show State.qualifies (s.setRegBit (Reg.ETH_STATUS p) 2 true) p m = s.qualifies p m from rfl, hq,
      show State.isMaster ((s.setRegBit (Reg.ETH_STATUS p) 2 true).hear p m) m.master p = s.isMaster m.master p from rfl, State.isMaster, hm]
    simp
  · have hforeign : State.foreign ((s.setRegBit (Reg.ETH_STATUS p) 2 true).hear p m) = none := by
      rw [State.foreign, show ((s.setRegBit (Reg.ETH_STATUS p) 2 true).hear p m).ws.servo.best = s.ws.servo.best from rfl, hb]
      rfl
    simp only [hforeign]
    exact if_pos (by simp [show ∀ f, (((s.setRegBit (Reg.ETH_STATUS p) 2 true).hear p m).updServo f).ws.servoState = s.ws.servoState from fun _ => rfl, hf])

/-- A master taken. -/
theorem State.takeMaster_taken (s : State) (x : U64) (p : Nat) : (s.takeMaster x p).ws.servo.master = some (x, p)
    ∧ (s.takeMaster x p).ws.servoState = Servo.acquire ∧ (s.takeMaster x p).pair Reg.WS_MASTER_ID_LO Reg.WS_MASTER_ID_HI = x
    ∧ (s.ws.normal = true → (s.takeMaster x p).ws.quality = 3) ∧ (s.takeMaster x p).now = s.now
    ∧ (s.takeMaster x p).reg Reg.WS_MEAN_PD = sat32 (s.takeMaster x p).ws.servo.d
    ∧ (s.ws.servo.lastMaster ≠ some (x, p) → (s.takeMaster x p).ws.servo.d = 0) := by
  unfold State.takeMaster
  extract_lets was u v w
  have hu : u.ws = s.ws := by
    simp only [u]
    split
    · exact (State.raise_ws _ _ _).trans rfl
    · rfl
  have hpair := State.pair_setPair u (lo := Reg.WS_MASTER_ID_LO) (hi := Reg.WS_MASTER_ID_HI) (by decide) x
  have hv : v.ws = s.ws := (State.setPair_ws _ _ _ _).trans hu
  have hmean := regsBut_setReg w Reg.WS_MEAN_PD (sat32 w.ws.servo.d)
  refine ⟨rfl, rfl, ?_, fun hn => ?_, ?_, ?_, fun hl => ?_⟩
  · refine (State.pair_of_regs (s := v) ?_ ?_).trans hpair
    · exact hmean _ (by decide)
    · exact hmean _ (by decide)
  · exact if_pos (show v.ws.normal = true by rw [hv]; exact hn)
  · rw [State.now, State.now, ← hv]
    rfl
  · show (w.setReg Reg.WS_MEAN_PD (sat32 w.ws.servo.d)).reg Reg.WS_MEAN_PD = _
    rw [State.reg_setReg, if_pos rfl]
    rfl
  · exact if_neg (by simpa [was] using hl)

end

/-- Settles O41. -/
theorem nodeServo : Obligations.NodeServo := by
  unfold Obligations.NodeServo
  refine ⟨fun s p m dt o hp r hr hrun hport ht hl hl' hm ho => ends_ptpSync hp hr hrun hport ht hl hl' hm ho,
    fun s p m dt hp r hr h => ends_ptpSync_not hp hr h,
    fun s p m t3 md hp hq hr hport ht hm hmd => ⟨ends_delayResp_first hp hq hr hport ht hm hmd, ends_delayResp_jump hp hq hr hport ht hm hmd⟩,
    fun s p m hp r hr => ⟨fun ht => ?_, fun hrun hport ht => ⟨fun h => ?_, fun h hsteps hin hmaster hport' hwin hm hb hf => ?_⟩⟩,
    fun s dt x p r hr hm hrun hport => ?_, fun s x p hm hrun => ?_, fun s hrun hstate hn => ?_⟩
  · refine ⟨_, need_of (decide_eq_true hp) _, ?_⟩
    rw [hr]
    exact if_pos (by simp [ht])
  · refine ⟨_, need_of (decide_eq_true hp) _, ?_⟩
    have hq : r.qualifies p m = false := by
      unfold State.qualifies
      rcases h with h | h
      · simp [Nat.not_lt.mpr h]
      · rw [Bool.and_eq_false_iff]
        refine .inr ?_
        rw [List.any_eq_false]
        intro x hx
        simp only [Bool.and_eq_true, beq_iff_eq, decide_eq_true_eq, not_and, Nat.not_le]
        exact fun hx' => h x hx hx'.1 hx'.2
    rw [hr, State.announce_hears hrun hport ht hq]
    refine ⟨?_, regsBut_setRegBit r _ _ _, _, rfl, fun x => ?_⟩
    · exact State.rbit_setRegBit_self _ _ _ _ (by decide)
    · simp only [State.setRegBit_ws, List.mem_filter, Bool.not_eq_true', Bool.and_eq_false_iff, beq_eq_false_iff_ne, ne_eq]
  · refine ⟨_, need_of (decide_eq_true hp) _, ?_⟩
    have hq : r.qualifies p m = true := by
      unfold State.qualifies
      simp only [hsteps, decide_true, Bool.true_and, List.any_eq_true]
      exact ⟨h, hin, by simp [hmaster, hport', hwin]⟩
    rw [hr, State.announce_takes hrun hport ht hq hm hb hf]
    obtain ⟨h1, h2, h3, h4, h5, h6, h7⟩ := State.takeMaster_taken (((r.setRegBit (Reg.ETH_STATUS p) 2 true).hear p m).updServo
      (fun x => { x with best := some m, bestPort := p, bestSeen := r.frcNat })) m.master p
    exact ⟨h1, h2, h3, h4, h5, h6, h7⟩
  · have hrun' : exec (.delayReqSend dt) s = .next (s.fresh.pass dt).sendDelayReq := rfl
    rw [hr] at hrun'
    refine ⟨_, hrun', ?_⟩
    have heq : r.sendDelayReq = (r.updPort p (fun x => { x with txServo := x.txServo ++ [(r.ws.servo.seq, r.delayReqFrame p)] })).updServo
        (fun x => { x with seq := x.seq + 1 }) := by
      unfold State.sendDelayReq
      rw [hm]
      exact if_neg (by simp [hrun, hport])
    rw [heq]
    refine ⟨?_, congrArg (fun x : Servo => { x with seq := x.seq + 1 }) (r.updPort_servo p _)⟩
    exact congrArg Port.txServo (r.port_updPort_self p _)
  · exact ⟨_, rfl, State.loseMaster_lost (s := s.fresh) hm hrun⟩
  · exact ⟨_, rfl, State.acquireAgain_increments (s := s.fresh) hrun hstate hn⟩

end Sys2Proof.Machine

/-! PROOFS. The Ethernet ports and the timed outputs (R415-R420, R431, R432). -/

namespace Sys2Proof.Machine

section

variable {s : State} {p : Nat}

/-! ## Frames received (R417) -/

/-- The registers that a port's reception goes by. -/
def portRegs (p : Nat) : List Off :=
  [Reg.RING_STATUS (28 + p), Reg.RING_SIZE (28 + p), Reg.MGMT_STATE, Reg.RING_NODE_IDX (28 + p), Reg.RING_BASE_LO (28 + p), Reg.RING_BASE_HI (28 + p),
    Reg.ETH_CTL p, Reg.ETH_STATUS p, Reg.PTP_RXLAT p, Reg.PTP_TXLAT p, Reg.ETH_RX_DROP_CNT p, Reg.ETH_MAC_LO p, Reg.ETH_MAC_HI p]

theorem portRegs_frame : ∀ p < 2, Reg.ETH_RX_FRAME_CNT p ∉ portRegs p := by decide

/-- The count of frames received leaves what reception goes by. -/
theorem State.reg_received (s : State) (hp : p < 2) {o : Off} (ho : o ∈ portRegs p) : (s.bump (Reg.ETH_RX_FRAME_CNT p)).reg o = s.reg o := by
  rw [State.reg_bump, if_neg fun h : o = Reg.ETH_RX_FRAME_CNT p => portRegs_frame p hp (by rw [← h]; exact ho)]

/-- The buffer that a frame for the host takes. -/
def State.hostFrame (s : State) (p : Nat) (f : EthRx) : State :=
  (s.bump (Reg.ETH_RX_FRAME_CNT p)).postBuffer (28 + p) f.addr
    (leBytes 2 (8 + f.data.length) ++ leBytes 2 1 ++ leBytes 4 (b2n false + 2 + 4 * b2n (isGroup f.data))) (leBytes 8 (s.rxStamp p).toNat ++ f.data)

theorem State.ethReceive_host {f : EthRx} (hp : p < 2) (hup : s.ethUp p = true) (hf : f.fcsOk = true) (hptp : isPtp f.data = false)
    (hlong : rxLong f.data = false) (hctl : s.rbit (Reg.ETH_CTL p) 2 = true) (hmac : slice f.data 0 6 = s.ethMac p)
    (htype : etherType f.data ≠ 0x8808) (hcr : 0 < s.ringCredit (28 + p)) : s.ethReceive p f = s.hostFrame p f := by
  have hkept := fun o ho => s.reg_received hp (o := o) ho
  have hring : SameRing s (s.bump (Reg.ETH_RX_FRAME_CNT p)) (28 + p) :=
    ⟨hkept _ (by simp [portRegs]), hkept _ (by simp [portRegs]), State.mgmt_congr (hkept _ (by simp [portRegs])), rfl, rfl⟩
  have hcr' : (s.bump (Reg.ETH_RX_FRAME_CNT p)).ringCredit (28 + p) ≠ 0 := by
    rw [hring.credit_same (hkept _ (by simp [portRegs]))]
    omega
  have hmac' : (s.bump (Reg.ETH_RX_FRAME_CNT p)).ethMac p = s.ethMac p := by
    rw [State.ethMac, State.ethMac, hkept _ (by simp [portRegs]), hkept _ (by simp [portRegs])]
  have hstamp : (s.bump (Reg.ETH_RX_FRAME_CNT p)).rxStamp p = s.rxStamp p := by
    rw [State.rxStamp, State.rxStamp, State.phyLat, State.phyLat, State.rbit_of_reg (hkept _ (by simp [portRegs])),
      State.rfld_of_reg (hkept _ (by simp [portRegs])), State.rfld_of_reg (hkept _ (by simp [portRegs]))]
    rfl
  unfold State.ethReceive State.hostFrame
  rw [if_neg (by simp [hup]), if_neg (by simp [hf]), ← hstamp]
  simp only [hptp, hlong, hmac', hmac, State.rbit_of_reg (hkept (Reg.ETH_CTL p) (by simp [portRegs])), hctl, hcr', htype, bne_iff_ne, ne_eq,
    Bool.false_eq_true, if_false, beq_self_eq_true, Bool.true_or, Bool.true_and, not_false_eq_true, if_true]

theorem State.ethReceive_deaf {f : EthRx} (hp : p < 2) (hup : s.ethUp p = true) (hf : f.fcsOk = true) (hptp : isPtp f.data = false)
    (hctl : s.rbit (Reg.ETH_CTL p) 2 = false) : s.ethReceive p f = (s.bump (Reg.ETH_RX_FRAME_CNT p)).bump (Reg.ETH_RX_DROP_CNT p) := by
  have hctl' : (s.bump (Reg.ETH_RX_FRAME_CNT p)).rbit (Reg.ETH_CTL p) 2 = false :=
    (State.rbit_of_reg (s.reg_received hp (by simp [portRegs])) 2).trans hctl
  unfold State.ethReceive
  rw [if_neg (by simp [hup]), if_neg (by simp [hf])]
  simp only [hptp, hctl', Bool.false_eq_true, if_false, Bool.false_and, ite_self]

/-- What the frame for the host leaves where its buffer is written. -/
theorem State.hostFrame_posts (r : State) (f : EthRx) (hp : p < 2) (hlen : f.data.length ≤ 1518) (a : Nat) {t : State}
    (ht : t = (r.bump (Reg.ETH_RX_FRAME_CNT p)).postBuffer (28 + p) (some a)
      (leBytes 2 (8 + f.data.length) ++ leBytes 2 1 ++ leBytes 4 (b2n false + 2 + 4 * b2n (isGroup f.data))) (leBytes 8 (r.rxStamp p).toNat ++ f.data)) :
    t.reg (Reg.ETH_RX_FRAME_CNT p) = satAdd (r.reg (Reg.ETH_RX_FRAME_CNT p)) 1 ∧ t.reg (Reg.ETH_RX_DROP_CNT p) = r.reg (Reg.ETH_RX_DROP_CNT p)
      ∧ Output.hostWrite a (leBytes 8 (r.rxStamp p).toNat ++ f.data) ∈ t.out
      ∧ ∃ desc, Output.ringEntry (28 + p) (r.reg (Reg.RING_NODE_IDX (28 + p))) (r.ringSlot (28 + p) (r.reg (Reg.RING_NODE_IDX (28 + p))) + 8) desc ∈ t.out
        ∧ desc.length = 8 ∧ leAt desc 0 2 = 8 + f.data.length := by
  have hoff : ∀ p < 2, Reg.ETH_RX_FRAME_CNT p ∉ [Reg.RING_NODE_IDX (28 + p), Reg.RING_ENTRY_CNT (28 + p), Reg.MSIX_PBA 0]
      ∧ Reg.ETH_RX_DROP_CNT p ∉ [Reg.RING_NODE_IDX (28 + p), Reg.RING_ENTRY_CNT (28 + p), Reg.MSIX_PBA 0] := by decide
  obtain ⟨hcnt, hdrop⟩ := hoff p hp
  have hkept := fun o ho => r.reg_received hp (o := o) ho
  generalize hdesc : leBytes 2 (8 + f.data.length) ++ leBytes 2 1 ++ leBytes 4 (b2n false + 2 + 4 * b2n (isGroup f.data)) = desc at ht
  obtain ⟨-, -, hwrite, hentry⟩ := (r.bump (Reg.ETH_RX_FRAME_CNT p)).postBuffer_posts (n := 28 + p) (by omega) a desc (leBytes 8 (r.rxStamp p).toNat ++ f.data)
  have hregs := regsBut_postBuffer (s := r.bump (Reg.ETH_RX_FRAME_CNT p)) (28 + p) a desc (leBytes 8 (r.rxStamp p).toNat ++ f.data)
  rw [hkept _ (by simp [portRegs]), State.ringSlot_congr (hkept _ (by simp [portRegs])) (hkept _ (by simp [portRegs])) (hkept _ (by simp [portRegs]))] at hentry
  subst ht
  refine ⟨?_, ?_, hwrite, desc, hentry, ?_, ?_⟩
  · rw [hregs _ hcnt, State.reg_bump, if_pos rfl]
  · rw [hregs _ hdrop, hkept _ (by simp [portRegs])]
  · rw [← hdesc]
    simp [length_leBytes]
  · rw [← hdesc, List.append_assoc, leAt, slice_append_head _ _ _ (length_leBytes _ _), leNat_leBytes]
    exact Nat.mod_eq_of_lt (by norm_num; omega)

/-! ## Frames sent (R416, R419) -/

theorem State.ethTransmit_servo {q : U16} {f : List Byte} {l : List (U16 × List Byte)} (buf : Image) (hup : s.ethUp p = true)
    (hq : (s.port p).txServo = (q, f) :: l) :
    s.ethTransmit p buf = (((s.updPort p (fun x => { x with txServo := l })).updServo (fun x => { x with t3 := some (q, s.txStamp p) }))).ethSend p f := by
  unfold State.ethTransmit
  rw [if_neg (by simp [hup]), hq]

/-- The oldest descriptor of the port's ring is taken, its buffer read. -/
def State.ethTaken (s : State) (p : Nat) (d : List Byte) : State := (s.readBuffer d).takeHead (26 + p)

theorem State.ethTransmit_unread {d : List Byte} {l : List (List Byte)} (hup : s.ethUp p = true) (hq : (s.port p).txServo = [])
    (hd : s.fetchedOf (26 + p) = d :: l) : s.ethTransmit p none = (s.ethTaken p d).bump (Reg.ETH_TX_BAD_CNT p) := by
  unfold State.ethTransmit
  rw [if_neg (by simp [hup]), hq, hd]
  rfl

theorem State.ethTransmit_ring {d b : List Byte} {l : List (List Byte)} {n : Nat} (hup : s.ethUp p = true) (hq : (s.port p).txServo = [])
    (hd : s.fetchedOf (26 + p) = d :: l) (hn : n = leAt d 8 2) (hlo : 14 ≤ n) (hhi : n ≤ 1514) :
    s.ethTransmit p (some b) = if bitAt (u32At d 0xC) 16
      then ((s.ethTaken p d).ethSend p (fit n b)).updPort p (fun x => { x with
        tsWait := x.tsWait ++ [((u32At d 0xC).truncate 16, ((s.ethTaken p d).ethSend p (fit n b)).txStamp p)] })
      else (s.ethTaken p d).ethSend p (fit n b) := by
  subst hn
  unfold State.ethTransmit
  rw [if_neg (by simp [hup]), hq, hd]
  refine if_neg ?_
  simp only [Bool.or_eq_true, decide_eq_true_eq, not_or, Nat.not_lt]
  refine ⟨hlo, ?_⟩
  split <;> omega

/-- A frame leaves: it is put outside and counted, and of Wellspring nothing moves. -/
theorem State.ethSend_sent (s : State) (p : Nat) (l : List Byte) : Output.ethFrame p (fit (max 60 l.length) l) ∈ (s.ethSend p l).out
    ∧ s.out ⊆ (s.ethSend p l).out ∧ (s.ethSend p l).reg (Reg.ETH_TX_FRAME_CNT p) = satAdd (s.reg (Reg.ETH_TX_FRAME_CNT p)) 1
    ∧ RegsBut s (s.ethSend p l) [Reg.ETH_TX_FRAME_CNT p] ∧ (s.ethSend p l).ws = s.ws ∧ (s.ethSend p l).hif = s.hif := by
  unfold State.ethSend
  refine ⟨?_, ?_, ?_, regsBut_bump (s.emitOut _) _, rfl, rfl⟩
  · exact List.mem_append_right _ (List.mem_singleton.mpr rfl)
  · exact List.subset_append_left _ _
  · rw [State.reg_bump, if_pos rfl]
    rfl

theorem State.takeHead_out (s : State) (n : Nat) : s.out <+: (s.takeHead n).out := by
  have hfetch : ∀ u : State, u.out <+: (u.fetchMore n).out := fun u => by
    unfold State.fetchMore
    dsimp only
    split
    · exact List.prefix_rfl
    · exact List.prefix_append _ _
  exact (State.advanceRing_out { s with hif := { s.hif with fetched := dropFirst n s.hif.fetched } } n false).trans (hfetch _)

theorem State.txStamp_congr {t : State} (hws : t.ws = s.ws) (hst : t.reg (Reg.ETH_STATUS p) = s.reg (Reg.ETH_STATUS p))
    (hlat : t.reg (Reg.PTP_TXLAT p) = s.reg (Reg.PTP_TXLAT p)) : t.txStamp p = s.txStamp p := by
  rw [State.txStamp, State.txStamp, State.phyLat, State.phyLat, State.rbit_of_reg hst, State.rfld_of_reg hlat, State.rfld_of_reg hlat,
    State.now_congr hws]

theorem length_fit (n : Nat) (l : List Byte) : (fit n l).length = n := by
  simp only [fit, zeros, List.length_append, List.length_take, List.length_replicate]
  omega

/-- What the taking of a port's descriptor leaves. -/
theorem State.ethTaken_taken (s : State) {d : List Byte} {l : List (List Byte)} (hd : s.fetchedOf (26 + p) = d :: l) :
    (s.ethTaken p d).fetchedOf (26 + p) = l ∧ Output.hostRead (leAt d 0 8) (leAt d 8 2) ∈ (s.ethTaken p d).out
    ∧ RegsBut s (s.ethTaken p d) [Reg.RING_NODE_IDX (26 + p), Reg.RING_ENTRY_CNT (26 + p), Reg.MSIX_PBA 0] ∧ (s.ethTaken p d).ws = s.ws := by
  unfold State.ethTaken
  refine ⟨?_, ?_, regsBut_takeHead (s.readBuffer d) (26 + p), same_of_foot [.regs, .hif] (fun _ _ => takeHead_foot _ _ (.refl (s.readBuffer d))) .ws⟩
  · obtain ⟨u, f, c, h⟩ := (s.readBuffer d).takeHead_hif (26 + p)
    rw [State.fetchedOf, h]
    refine (fetched_dropFirst (26 + p) (26 + p) s.hif.fetched).trans ?_
    rw [if_pos rfl]
    exact congrArg (List.drop 1) hd
  · refine ((s.readBuffer d).takeHead_out (26 + p)).subset ?_
    exact List.mem_append_right _ (List.mem_singleton.mpr rfl)

/-! ## Timestamps of sent frames (R420) -/

theorem State.ethStamp_eq {id : U16} {x : U64} {l : List (U16 × U64)} (h : (s.port p).tsWait = (id, x) :: l) :
    s.ethStamp p = if (s.port p).txts.length < 16
      then (s.updPort p (fun y => { y with tsWait := l })).updPort p (fun y => { y with txts := y.txts ++ [(id, x)] })
      else ((s.updPort p (fun y => { y with tsWait := l })).raise (Reg.PTP_TXTS_STAT p) 1).bump (Reg.PTP_TXTS_OVF_CNT p) := by
  unfold State.ethStamp
  rw [h]
  simp only [s.port_updPort_self p]

theorem regsBut_updPort (f : Port → Port) (os : List Off) : RegsBut s (s.updPort p f) os :=
  .ite (.of_regs rfl rfl _) (.of_regs rfl rfl _)

theorem State.updPort_hif (s : State) (p : Nat) (f : Port → Port) : (s.updPort p f).hif = s.hif := by
  unfold State.updPort
  split <;> rfl

theorem State.updPort_out (s : State) (p : Nat) (f : Port → Port) : (s.updPort p f).out = s.out := by
  unfold State.updPort
  split <;> rfl

theorem State.port_congr {t : State} (h : t.ws = s.ws) (p : Nat) : t.port p = s.port p := by rw [State.port, State.port, h]

theorem State.ethStamp_room {id : U16} {x : U64} {l : List (U16 × U64)} (h : (s.port p).tsWait = (id, x) :: l) (hn : (s.port p).txts.length < 16) :
    (s.ethStamp p).port p = { s.port p with tsWait := l, txts := (s.port p).txts ++ [(id, x)] } ∧ RegsBut s (s.ethStamp p) [] := by
  rw [State.ethStamp_eq h, if_pos hn]
  refine ⟨?_, (regsBut_updPort _ _).trans (regsBut_updPort _ _)⟩
  rw [State.port_updPort_self, State.port_updPort_self]

theorem State.ethStamp_full {id : U16} {x : U64} {l : List (U16 × U64)} (h : (s.port p).tsWait = (id, x) :: l) (hn : 16 ≤ (s.port p).txts.length)
    (hp : p < 2) : (s.ethStamp p).port p = { s.port p with tsWait := l }
      ∧ (s.ethStamp p).reg (Reg.PTP_TXTS_OVF_CNT p) = satAdd (s.reg (Reg.PTP_TXTS_OVF_CNT p)) 1 ∧ (s.ethStamp p).rbit (Reg.PTP_TXTS_STAT p) 0 = true := by
  have hoff : ∀ p < 2, Reg.PTP_TXTS_OVF_CNT p ∉ [Reg.PTP_TXTS_STAT p, Reg.MSIX_PBA 0] ∧ Reg.PTP_TXTS_STAT p ≠ Reg.PTP_TXTS_OVF_CNT p
      ∧ Reg.PTP_TXTS_STAT p ≠ Reg.MSIX_PBA 0 := by decide
  obtain ⟨hovf, hne, hpba⟩ := hoff p hp
  rw [State.ethStamp_eq h, if_neg (Nat.not_lt.mpr hn)]
  obtain ⟨u, hu⟩ : ∃ u, s.updPort p (fun y => { y with tsWait := l }) = u := ⟨_, rfl⟩
  have hregs : RegsBut s u [] := hu ▸ regsBut_updPort _ _
  have hport : u.port p = { s.port p with tsWait := l } := hu ▸ s.port_updPort_self p _
  rw [hu]
  refine ⟨?_, ?_, ?_⟩
  · rw [State.port, State.bump_ws, State.raise_ws]
    exact hport
  · rw [State.reg_bump, if_pos rfl, regsBut_raise _ _ _ _ hovf, hregs.all]
  · rw [State.rbit_bump _ _ _ _ hne]
    exact State.rbit_raise_self _ _ 1 0 hpba (by decide)

/-! ## The link (R415) -/

/-- The link as ETH_STATUS shows it. -/
def State.linkTo (s : State) (p : Nat) (up gig : Bool) : State :=
  let t := (s.setRegBit (Reg.ETH_STATUS p) 0 up).setRegBit (Reg.ETH_STATUS p) 1 (up && gig)
  if s.rbit (Reg.ETH_STATUS p) 0 && !up then t.bump (Reg.ETH_LINKDOWN_CNT p) else t

theorem State.linkTo_shown (s : State) (hp : p < 2) (up gig : Bool) : (s.linkTo p up gig).rbit (Reg.ETH_STATUS p) 0 = up
    ∧ (s.linkTo p up gig).rbit (Reg.ETH_STATUS p) 1 = (up && gig) ∧ RegsBut s (s.linkTo p up gig) [Reg.ETH_STATUS p, Reg.ETH_LINKDOWN_CNT p]
    ∧ (s.rbit (Reg.ETH_STATUS p) 0 = true → up = false →
        (s.linkTo p up gig).reg (Reg.ETH_LINKDOWN_CNT p) = satAdd (s.reg (Reg.ETH_LINKDOWN_CNT p)) 1) := by
  have hne : ∀ p < 2, Reg.ETH_STATUS p ≠ Reg.ETH_LINKDOWN_CNT p := by decide
  unfold State.linkTo
  extract_lets t
  have h0 : t.rbit (Reg.ETH_STATUS p) 0 = up := by simp [t]
  have h1 : t.rbit (Reg.ETH_STATUS p) 1 = (up && gig) := by simp [t]
  have hregs : RegsBut s t [Reg.ETH_STATUS p] := (regsBut_setRegBit s _ _ _).trans (regsBut_setRegBit _ _ _ _)
  clear_value t
  split
  · refine ⟨(State.rbit_bump _ _ _ _ (hne p hp)).trans h0, (State.rbit_bump _ _ _ _ (hne p hp)).trans h1,
      (hregs.mono (by simp)).trans ((regsBut_bump _ _).mono (by simp)), fun _ _ => ?_⟩
    rw [State.reg_bump, if_pos rfl, hregs _ (List.mem_singleton.not.mpr (hne p hp).symm)]
  · next h => exact ⟨h0, h1, hregs.mono (by simp), fun hl hu => absurd (by simp [hl, hu]) h⟩

/-! ## Timed outputs (R431, R432) -/

theorem State.tmo_congr {t : State} (h : t.ws = s.ws) (k : Nat) : t.tmo k = s.tmo k := by rw [State.tmo, State.tmo, h]

/-- The pulse that begins, and its count. -/
theorem State.pulse_pulses (s : State) {k : Nat} (hk : k < 8) : (s.pulse k).tmo k = { s.tmo k with
      level := true, fired := true, armed := false, began := s.ws.frc, routeErr := (s.tmo k).routeErr || (s.tmoRouted k && !s.tmoRouteOk k) }
    ∧ (s.pulse k).reg (Reg.TMO_PULSE_CNT k) = satAdd (s.reg (Reg.TMO_PULSE_CNT k)) 1 := by
  have hoff : ∀ k < 8, Reg.TMO_PULSE_CNT k ∉ triggerRegs := by decide
  unfold State.pulse
  extract_lets u
  have htmo : u.tmo k = { s.tmo k with
      level := true, fired := true, armed := false, began := s.ws.frc, routeErr := (s.tmo k).routeErr || (s.tmoRouted k && !s.tmoRouteOk k) } :=
    s.tmo_updTmo_self k _
  have hpin : ((u.bump (Reg.TMO_PULSE_CNT k)).tmoPin k).ws = u.ws := by
    unfold State.tmoPin
    split <;> rfl
  have htrig := same_of_foot [.regs, .spawn] (fun _ _ => tmoTrigger_foot _ k (.refl ((u.bump (Reg.TMO_PULSE_CNT k)).tmoPin k))) .ws
  have hregs : RegsBut ((u.bump (Reg.TMO_PULSE_CNT k)).tmoPin k) (((u.bump (Reg.TMO_PULSE_CNT k)).tmoPin k).tmoTrigger k) triggerRegs :=
    .ite (regsBut_trigger _ _) (.refl _ _)
  refine ⟨?_, ?_⟩
  · rw [State.tmo, htrig.trans hpin]
    exact htmo
  · rw [hregs _ (hoff k hk), (regsBut_tmoPin (u.bump (Reg.TMO_PULSE_CNT k)) k []).all, State.reg_bump, if_pos rfl]
    rfl

theorem State.tmoFire_fires {k : Nat} (hk : k < 8) (hd : s.tmoDue k = true) : ((s.tmoFire k).tmo k).level = true ∧ ((s.tmoFire k).tmo k).fired = true
    ∧ ((s.tmoFire k).tmo k).armed = false ∧ ((s.tmoFire k).tmo k).began = s.ws.frc
    ∧ (s.tmoFire k).reg (Reg.TMO_PULSE_CNT k) = satAdd (s.reg (Reg.TMO_PULSE_CNT k)) 1
    ∧ (s.tmoMode k = 2 → ((s.tmoFire k).tmo k).next = (s.tmo k).next + 1) := by
  have hoff : ∀ k < 8, Reg.TMO_CFG k ∉ Reg.TMO_PULSE_CNT k :: triggerRegs ∧ Reg.TMO_PULSE_CNT k ∉ triggerRegs := by decide
  obtain ⟨htmo, hcnt⟩ := s.pulse_pulses hk
  have hmode : (s.pulse k).tmoMode k = s.tmoMode k := State.rfld_of_reg (regsBut_pulse s k _ (hoff k hk).1) 0 2
  unfold State.tmoFire
  rw [if_pos hd]
  extract_lets u
  rw [show u = s.pulse k from rfl, hmode]
  by_cases h2 : s.tmoMode k = 2
  · rw [if_pos h2, State.tmo_updTmo_self, htmo]
    exact ⟨rfl, rfl, rfl, rfl, hcnt, fun _ => rfl⟩
  · rw [if_neg h2, htmo]
    exact ⟨rfl, rfl, rfl, rfl, hcnt, fun h => absurd h h2⟩

theorem State.tmoEnd_ends {k : Nat} (hl : (s.tmo k).level = true) (hw : (s.tmoWidth k + 4) / 5 ≤ s.ws.frc.toNat - (s.tmo k).began.toNat) :
    (s.tmoEnd k).tmo k = { s.tmo k with level := false } := by
  unfold State.tmoEnd
  refine (congrArg (State.tmo · k) (if_pos (by simp [hl, hw]))).trans ?_
  have hpin : ((s.updTmo k (fun t => { t with level := false })).tmoPin k).ws = (s.updTmo k (fun t => { t with level := false })).ws := by
    unfold State.tmoPin
    split <;> rfl
  rw [State.tmo, hpin]
  exact s.tmo_updTmo_self k _

end

/-- Settles O42. -/
theorem ethernetAndTimedOutputs : Obligations.EthernetAndTimedOutputs := by
  unfold Obligations.EthernetAndTimedOutputs
  refine ⟨fun s p dt f hp r hr hup => ⟨fun hf => ?_, fun hf hptp hlong hctl hmac htype hcr => ⟨fun haddr hst => ?_, fun a haddr => ?_⟩,
      fun hf hptp hctl => ?_⟩,
    fun s p dt q f l buf hp r hr hup hq => ?_, fun s p dt d l hp r hr hup hq hd => ⟨?_, fun b n hn hlo hhi => ?_⟩,
    fun s p dt id x l hp r hr h => ⟨fun hn => ?_, fun hn => ?_⟩, fun s p up gig hp => ?_, fun s p hp => ⟨?_, ?_⟩,
    fun s k dt hk r hr hm hd => ?_, fun s k dt hk r hr hl hw => ?_⟩
  · refine ⟨_, need_of (decide_eq_true hp) _, ?_⟩
    have heq : r.ethReceive p f = r.bump (Reg.ETH_RX_FCS_CNT p) := (if_neg (by simp [hup])).trans (if_pos (by simp [hf]))
    rw [hr, heq]
    exact ⟨by rw [State.reg_bump, if_pos rfl], regsBut_bump _ _⟩
  · refine ⟨_, need_of (decide_eq_true hp) _, ?_⟩
    rw [hr, State.ethReceive_host hp hup hf hptp hlong hctl hmac htype hcr, State.hostFrame, haddr]
    have hlt : 28 + p < 32 := by omega
    have hst' : (r.bump (Reg.ETH_RX_FRAME_CNT p)).rbit (Reg.RING_STATUS (28 + p)) 2 = false :=
      (State.rbit_of_reg (r.reg_received hp (by simp [portRegs])) 2).trans hst
    exact State.ringError_stops ((r.bump (Reg.ETH_RX_FRAME_CNT p)).emitOut _) hlt (by decide) hst'
  · refine ⟨_, need_of (decide_eq_true hp) _, ?_⟩
    rw [hr, State.ethReceive_host hp hup hf hptp hlong hctl hmac htype hcr, State.hostFrame, haddr]
    have hlen : f.data.length ≤ 1518 := by
      unfold rxLong at hlong
      simp only [decide_eq_false_iff_not, Nat.not_lt] at hlong
      refine hlong.trans ?_
      split <;> decide
    exact r.hostFrame_posts f hp hlen a rfl
  · refine ⟨_, need_of (decide_eq_true hp) _, ?_⟩
    rw [hr, State.ethReceive_deaf hp hup hf hptp hctl]
    have hne : ∀ p < 2, Reg.ETH_RX_DROP_CNT p ≠ Reg.ETH_RX_FRAME_CNT p := by decide
    exact ⟨rfl, by rw [State.reg_bump, if_pos rfl, State.reg_bump, if_neg (hne p hp)]⟩
  · refine ⟨_, need_of (decide_eq_true hp) _, ?_⟩
    rw [hr, State.ethTransmit_servo buf hup hq]
    obtain ⟨hout, -, hcnt, -, hws, hif⟩ := State.ethSend_sent ((r.updPort p (fun x => { x with txServo := l })).updServo
      (fun x => { x with t3 := some (q, r.txStamp p) })) p f
    have hport : ((r.updPort p (fun x => { x with txServo := l })).updServo (fun x => { x with t3 := some (q, r.txStamp p) })).port p
        = { r.port p with txServo := l } := r.port_updPort_self p _
    have hif' : ((r.updPort p (fun x => { x with txServo := l })).updServo (fun x => { x with t3 := some (q, r.txStamp p) })).hif = r.hif := r.updPort_hif p _
    have hreg := (regsBut_updPort (s := r) (p := p) (fun x => { x with txServo := l }) []).all (Reg.ETH_TX_FRAME_CNT p)
    refine ⟨?_, hout, ?_, ?_, ?_⟩
    · rw [State.port, hws]
      exact congrArg Port.txServo hport
    · rw [hws]
      rfl
    · rw [hcnt]
      exact congrArg (satAdd · 1) hreg
    · rw [State.fetchedOf, hif, hif']
      rfl
  · refine ⟨_, need_of (decide_eq_true hp) _, ?_⟩
    rw [hr, State.ethTransmit_unread hup hq hd]
    have hoff : ∀ p < 2, Reg.ETH_TX_BAD_CNT p ∉ [Reg.RING_NODE_IDX (26 + p), Reg.RING_ENTRY_CNT (26 + p), Reg.MSIX_PBA 0] := by decide
    obtain ⟨hf, hout, hregs, hws⟩ := r.ethTaken_taken hd
    refine ⟨hf, ?_, hout, ?_⟩
    · exact State.port_congr hws p
    · rw [State.reg_bump, if_pos rfl, hregs _ (hoff p hp)]
  · refine ⟨_, need_of (decide_eq_true hp) _, ?_⟩
    rw [hr, State.ethTransmit_ring hup hq hd hn hlo hhi]
    have hfit : (fit n b).length = n := length_fit n b
    obtain ⟨hf, -, hregs, hws⟩ := r.ethTaken_taken hd
    have hoff : ∀ p < 2, Reg.ETH_TX_FRAME_CNT p ∉ [Reg.RING_NODE_IDX (26 + p), Reg.RING_ENTRY_CNT (26 + p), Reg.MSIX_PBA 0] ∧
      (∀ o, o ∈ [Reg.ETH_STATUS p, Reg.PTP_TXLAT p] → o ∉ [Reg.RING_NODE_IDX (26 + p), Reg.RING_ENTRY_CNT (26 + p), Reg.MSIX_PBA 0]
        ∧ o ∉ [Reg.ETH_TX_FRAME_CNT p]) := by decide
    obtain ⟨hout, -, hcnt, hsent, hws', hif⟩ := (r.ethTaken p d).ethSend_sent p (fit n b)
    have hstamp : ((r.ethTaken p d).ethSend p (fit n b)).txStamp p = r.txStamp p := by
      have hkept : ∀ o, o ∈ [Reg.ETH_STATUS p, Reg.PTP_TXLAT p] → ((r.ethTaken p d).ethSend p (fit n b)).reg o = r.reg o := fun o ho =>
        (hsent o ((hoff p hp).2 o ho).2).trans (hregs o ((hoff p hp).2 o ho).1)
      exact State.txStamp_congr (hws'.trans hws) (hkept _ (by simp)) (hkept _ (by simp))
    have hfetched : ((r.ethTaken p d).ethSend p (fit n b)).fetchedOf (26 + p) = l := by rw [State.fetchedOf, hif]; exact hf
    have hport : ((r.ethTaken p d).ethSend p (fit n b)).port p = r.port p := State.port_congr (hws'.trans hws) p
    rw [hregs _ (hoff p hp).1] at hcnt
    rw [hfit] at hout
    rw [hstamp]
    generalize (r.ethTaken p d).ethSend p (fit n b) = v at hout hcnt hfetched hport ⊢
    by_cases hts : bitAt (u32At d 0xC) 16 = true
    · rw [if_pos hts, if_pos hts]
      refine ⟨?_, ?_, ?_, ?_⟩
      · rw [State.fetchedOf, v.updPort_hif]
        exact hfetched
      · rw [v.updPort_out]
        exact hout
      · rw [(regsBut_updPort _ []).all, hcnt]
      · rw [State.port_updPort_self, hport]
    · rw [if_neg hts, if_neg hts]
      exact ⟨hfetched, hout, hcnt, by rw [hport, List.append_nil]⟩
  · refine ⟨_, need_of (decide_eq_true hp) _, ?_⟩
    rw [hr]
    exact State.ethStamp_room h hn
  · refine ⟨_, need_of (decide_eq_true hp) _, ?_⟩
    rw [hr]
    exact State.ethStamp_full h hn hp
  · obtain ⟨h1, h2, h3, h4⟩ := s.fresh.linkTo_shown hp (up && !(s.port p).failed) gig
    exact ⟨_, need_of (decide_eq_true hp) _, h1, h2, h3, fun h hu => h4 h (by simp [hu])⟩
  · refine ⟨_, need_of (decide_eq_true hp) _, s.fresh.port_updPort_self p _, (regsBut_updPort (s := s.fresh) _ []), ?_⟩
    show (State.txtsW0Read s.fresh p).hostRead.toNat = _
    unfold State.txtsW0Read
    simp only [show s.fresh.port p = s.port p from rfl]
    cases (s.port p).txts with
    | nil => rfl
    | cons x l =>
      refine (packU32_pair (j := 16) x.1.isLt ?_).trans (Nat.add_comm _ _)
      have hx := x.1.isLt
      omega
  · refine ⟨_, need_of (decide_eq_true hp) _, s.fresh.port_updPort_self p _, (regsBut_updPort (s := s.fresh) _ []), fun x hx => ?_⟩
    show (State.txtsHiRead s.fresh p).hostRead.toNat = _
    unfold State.txtsHiRead
    rw [show (s.fresh.port p).latch = some x from hx]
    refine (BitVec.toNat_ofNat _ _).trans (Nat.mod_eq_of_lt ?_)
    have hlt := x.2.isLt
    omega
  · refine ⟨_, need_of (decide_eq_true hk) _, ?_⟩
    rw [hr, if_pos hm]
    obtain ⟨h1, h2, h3, h4, h5, h6⟩ := State.tmoFire_fires hk hd
    have hoff : ∀ k < 8, Reg.TMO_PULSE_CNT k ∉ frameRegs := by decide
    have hws := State.tmoEdges_parts r (r.tmoFire k) .ws (by decide)
    have htmo : (State.tmoEdges r (r.tmoFire k)).tmo k = (r.tmoFire k).tmo k := State.tmo_congr hws k
    rw [htmo]
    exact ⟨h1, h2, h3, h4, (regsBut_tmoEdges r _ _ (hoff k hk)).trans h5, h6⟩
  · refine ⟨_, need_of (decide_eq_true hk) _, ?_⟩
    rw [hr]
    have hws := State.tmoEdges_parts r (r.tmoEnd k) .ws (by decide)
    exact (State.tmo_congr hws k).trans (State.tmoEnd_ends hl hw)

end Sys2Proof.Machine

/-! PROOFS. The panel: flips, frames, the boost, the measurements, the alarm list (R458-R466, Table 16-2). -/

namespace Sys2Proof.Machine

section

variable (s : State)

/-- Two operations one behind the other write the registers of both. -/
theorem RegsBut.andThen {s t u : State} {os ps : List Off} (h : RegsBut s t os) (k : RegsBut t u ps) : RegsBut s u (os ++ ps) :=
  fun o ho => (k o fun hm => ho (List.mem_append_right _ hm)).trans (h o fun hm => ho (List.mem_append_left _ hm))

/-! ## Flips asked for -/

theorem AtHead.panel {s u : State} (h : AtHead s u) : u.panel = s.panel := h.parts .panel (by decide)

theorem AtHead.tarn {s u : State} (h : AtHead s u) : u.tarn = s.tarn := h.parts .tarn (by decide)

/-- A flip is judged with its argument in order, the panel fitted and enabled, and the list not Lilypad's own. -/
theorem AtHead.panelFlip {s u : State} {d : Desc} (h : AtHead s u) (img : Image) (hresv : d.resv 0x10 48 = true)
    (hon : s.rbit Reg.PNL_CTL 0 = true) (hfit : s.panel.absent = false) (hown : s.mgmt ≠ Node.run ∨ s.rbit Reg.PNL_CTL 1 = false)
    (harg : (d.arg 8 8 != 0 && (!d.aligned 8 || img.isNone)) = false) :
    u.panelFlip img d = if s.panel.flip.isSome then u.done d Status.busy else
      ((if d.arg 8 8 != 0 then u.tarnStore (fbOffset (!s.panel.front)) (fit 8192 (img.getD [])) else u).updPanel
        (fun p => { p with flip := some (some (d.tag, d.irqNow)) })).defer d.tag d.irqNow 0x74 := by
  have hbit : ∀ i, u.rbit Reg.PNL_CTL i = s.rbit Reg.PNL_CTL i := State.rbit_of_reg (h.regs _ (by decide))
  have hmgmt : u.mgmt = s.mgmt := State.mgmt_congr (h.regs _ (by decide))
  have hstate : ((u.mgmt = Node.run && u.rbit Reg.PNL_CTL 1) || !u.rbit Reg.PNL_CTL 0 || u.panel.absent) = false := by
    rw [hmgmt, hbit, hbit, h.panel, hon, hfit]
    rcases hown with hm | hl
    · simp [hm]
    · simp [hl]
  unfold State.panelFlip
  dsimp only
  rw [hresv, harg]
  refine (if_neg (by simp)).trans ((if_neg (by rw [hstate]; simp)).trans ?_)
  rw [h.panel]

/-- What a flip that now waits has done: it waits with its completion, over the buffer behind. -/
theorem AtHead.flipWaits {s u v : State} {d : Desc} (h : AtHead s u) (hop : d.opcode = 0x74) (hpanel : v.panel = u.panel)
    (hif : v.hif = u.hif) :
    let t := (v.updPanel (fun p => { p with flip := some (some (d.tag, d.irqNow)) })).defer d.tag d.irqNow 0x74
    Deferred s t d ∧ t.tarn = v.tarn ∧ t.panel = { s.panel with flip := some (some (d.tag, d.irqNow)) } := by
  refine ⟨?_, rfl, congrArg (fun p : Panel => { p with flip := some (some (d.tag, d.irqNow)) }) (hpanel.trans h.panel)⟩
  have hd : Deferred s (u.defer d.tag d.irqNow d.opcode) d := h.taken.deferred d
  rw [hop] at hd
  exact hd.then_hif (State.defer_hif (s := u) (u := v.updPanel _) hif d.tag d.irqNow 0x74)

/-! ## Frames -/

/-- What a frame boundary shows before the flip: the frame sent whole or begun, the drive values and the shift. -/
def State.frameShown : State :=
  let s := if s.panel.scanning then s.emitOut (.panelFrame s.frameBytes) else s.updPanel (fun p => { p with scanning := true })
  let s := s.bump Reg.PNL_FRAME_CNT
  let s := match s.panel.drive with
    | some (v, i) => (s.setReg Reg.PNL_VPP_SET (BitVec.ofNat 32 v)).setReg Reg.PNL_ICODE (BitVec.ofNat 32 i)
    | none => s
  let s := if s.panel.shiftDue then s.setRegFld Reg.PNL_STATUS 8 2 (s.rfld Reg.PNL_STATUS 8 2 + 1) else s
  s.updPanel (fun p => { p with drive := none, shiftDue := false })

theorem State.frame_driven (h : s.driven = true) : s.frame = s.frameShown.flipNow := if_neg (by rw [h]; decide)

/-- The frame's begin or end, its count, the drive values and the shift, each as an operation of its own. -/
def State.frameBegun : State :=
  if s.panel.scanning then s.emitOut (.panelFrame s.frameBytes) else s.updPanel (fun p => { p with scanning := true })

def State.frameDriven : State :=
  match s.panel.drive with
  | some (v, i) => (s.setReg Reg.PNL_VPP_SET (BitVec.ofNat 32 v)).setReg Reg.PNL_ICODE (BitVec.ofNat 32 i)
  | none => s

def State.frameShifted : State :=
  if s.panel.shiftDue then s.setRegFld Reg.PNL_STATUS 8 2 (s.rfld Reg.PNL_STATUS 8 2 + 1) else s

theorem State.frameShown_eq : s.frameShown
    = (s.frameBegun.bump Reg.PNL_FRAME_CNT).frameDriven.frameShifted.updPanel (fun p => { p with drive := none, shiftDue := false }) := rfl

theorem State.frameBegun_kept : s.frameBegun.regs = s.regs ∧ s.frameBegun.behavBoot = s.behavBoot ∧ s.frameBegun.hif = s.hif
    ∧ s.frameBegun.panel = { s.panel with scanning := true }
    ∧ s.frameBegun.out = if s.panel.scanning then s.out ++ [.panelFrame s.frameBytes] else s.out := by
  unfold State.frameBegun
  split
  next h => exact ⟨rfl, rfl, rfl, congrArg (fun b => { s.panel with scanning := b }) h, rfl⟩
  next => exact ⟨rfl, rfl, rfl, rfl, rfl⟩

theorem State.frameDriven_kept : s.frameDriven.hif = s.hif ∧ s.frameDriven.panel = s.panel ∧ s.frameDriven.out = s.out
    ∧ RegsBut s s.frameDriven [Reg.PNL_VPP_SET, Reg.PNL_ICODE]
    ∧ ∀ v i, s.panel.drive = some (v, i) → s.frameDriven.reg Reg.PNL_VPP_SET = BitVec.ofNat 32 v
      ∧ s.frameDriven.reg Reg.PNL_ICODE = BitVec.ofNat 32 i := by
  unfold State.frameDriven
  split
  next w j h =>
    refine ⟨rfl, rfl, rfl, (regsBut_setReg s _ _).andThen (regsBut_setReg _ _ _), fun v i hd => ?_⟩
    obtain ⟨rfl, rfl⟩ : w = v ∧ j = i := by simpa [hd] using h.symm
    simp
  next h => exact ⟨rfl, rfl, rfl, .refl _ _, fun v i hd => by simp [hd] at h⟩

theorem State.frameShifted_kept : s.frameShifted.hif = s.hif ∧ s.frameShifted.panel = s.panel ∧ s.frameShifted.out = s.out
    ∧ RegsBut s s.frameShifted [Reg.PNL_STATUS] := by
  unfold State.frameShifted
  split
  · exact ⟨rfl, rfl, rfl, regsBut_setRegFld _ _ _ _ _⟩
  · exact ⟨rfl, rfl, rfl, .refl _ _⟩

/-- What a frame boundary shows before the flip. -/
theorem State.frameShown_shown : s.frameShown.hif = s.hif
    ∧ s.frameShown.panel = { s.panel with drive := none, shiftDue := false, scanning := true }
    ∧ (s.frameShown.out = if s.panel.scanning then s.out ++ [.panelFrame s.frameBytes] else s.out)
    ∧ RegsBut s s.frameShown [Reg.PNL_FRAME_CNT, Reg.PNL_VPP_SET, Reg.PNL_ICODE, Reg.PNL_STATUS]
    ∧ s.frameShown.reg Reg.PNL_FRAME_CNT = satAdd (s.reg Reg.PNL_FRAME_CNT) 1
    ∧ ∀ v i, s.panel.drive = some (v, i) → s.frameShown.reg Reg.PNL_VPP_SET = BitVec.ofNat 32 v
      ∧ s.frameShown.reg Reg.PNL_ICODE = BitVec.ofNat 32 i := by
  obtain ⟨hr, hb, hh, hp, ho⟩ := s.frameBegun_kept
  rw [State.frameShown_eq]
  generalize s.frameBegun = a at hr hb hh hp ho ⊢
  have hreg : ∀ o, a.reg o = s.reg o := State.reg_congr hr hb
  obtain ⟨hh2, hp2, ho2, hr2, hd2⟩ := (a.bump Reg.PNL_FRAME_CNT).frameDriven_kept
  generalize (a.bump Reg.PNL_FRAME_CNT).frameDriven = b at hh2 hp2 ho2 hr2 hd2 ⊢
  obtain ⟨hh3, hp3, ho3, hr3⟩ := b.frameShifted_kept
  generalize b.frameShifted = c at hh3 hp3 ho3 hr3 ⊢
  have hregs : RegsBut s c [Reg.PNL_FRAME_CNT, Reg.PNL_VPP_SET, Reg.PNL_ICODE, Reg.PNL_STATUS] :=
    (((RegsBut.of_regs hr hb []).andThen (regsBut_bump a _)).andThen hr2).andThen hr3
  refine ⟨hh3.trans (hh2.trans hh), ?_, ho3.trans (ho2.trans ho), hregs, ?_, fun v i hd => ?_⟩
  · show { c.panel with drive := none, shiftDue := false } = _
    rw [hp3, hp2, State.bump_panel, hp]
  · show c.reg _ = _
    rw [hr3 _ (by decide), hr2 _ (by decide), State.reg_bump, if_pos rfl, hreg]
  · obtain ⟨hv, hi⟩ := hd2 v i (by rw [State.bump_panel, hp]; exact hd)
    exact ⟨(hr3 _ (by decide)).trans hv, (hr3 _ (by decide)).trans hi⟩

/-- The completion of a flip that PANEL_FLIP asked for. -/
def State.flipAnswered (cmd : Option (U32 × Bool)) : State :=
  match cmd with
  | some (tag, irq) => s.finish tag irq 0x74 Status.ok ((s.reg Reg.PNL_FRAME_CNT).zeroExtend 64)
  | none => s

/-- A pending flip is applied. -/
theorem State.flipNow_flips {cmd : Option (U32 × Bool)} (h : s.panel.flip = some cmd) :
    s.flipNow.panel = { s.panel with flip := none, front := !s.panel.front }
    ∧ s.out <+: s.flipNow.out ∧ RegsBut s s.flipNow [Reg.PNL_FLIP_CNT, Reg.PNL_EVT, Reg.MSIX_PBA 0]
    ∧ s.flipNow.reg Reg.PNL_FLIP_CNT = satAdd (s.reg Reg.PNL_FLIP_CNT) 1 ∧ s.flipNow.rbit Reg.PNL_EVT 0 = true
    ∧ ∀ tag irq, cmd = some (tag, irq) → ∃ c, c ∈ s.flipNow.hif.ready ∧ c.tag = tag ∧ c.opcode = 0x74 ∧ c.status = 0
        ∧ c.result = (s.reg Reg.PNL_FRAME_CNT).zeroExtend 64 := by
  let a := s.updPanel (fun p => { p with flip := none, front := !p.front })
  let b := (a.bump Reg.PNL_FLIP_CNT).raise Reg.PNL_EVT 1
  have hb : RegsBut s b [Reg.PNL_FLIP_CNT, Reg.PNL_EVT, Reg.MSIX_PBA 0] :=
    (regsBut_bump a _).andThen (regsBut_raise _ _ _)
  have hpanel : b.panel = a.panel := (State.raise_panel _ _ _).trans (State.bump_panel _ _)
  have hout : s.out <+: b.out := State.raise_out (a.bump Reg.PNL_FLIP_CNT) _ _
  have hcnt : b.reg Reg.PNL_FLIP_CNT = satAdd (s.reg Reg.PNL_FLIP_CNT) 1 := by
    refine (regsBut_raise (a.bump Reg.PNL_FLIP_CNT) Reg.PNL_EVT 1 _ (by decide)).trans ?_
    rw [State.reg_bump, if_pos rfl]
    rfl
  have hevt : b.rbit Reg.PNL_EVT 0 = true := State.rbit_raise_self _ _ _ _ (by decide) (by decide)
  have heq : s.flipNow = b.flipAnswered cmd := by
    unfold State.flipNow
    rw [h]
    rfl
  have hfrm : b.reg Reg.PNL_FRAME_CNT = s.reg Reg.PNL_FRAME_CNT := hb _ (by decide)
  clear_value b
  rcases cmd with - | ⟨tag, irq⟩
  · rw [heq, show b.flipAnswered none = b from rfl]
    exact ⟨hpanel, hout, hb, hcnt, hevt, fun _ _ hc => by cases hc⟩
  · rw [heq, State.flipAnswered, hfrm]
    refine ⟨hpanel, hout, hb, hcnt, hevt, fun tag' irq' hc => ?_⟩
    obtain ⟨rfl, rfl⟩ : tag = tag' ∧ irq = irq' := by simpa using hc
    exact ⟨_, List.mem_append_right _ (List.mem_singleton_self _), rfl, rfl, rfl, rfl⟩

theorem State.flipNow_idle (h : s.panel.flip = none) : s.flipNow = s := by
  unfold State.flipNow
  rw [h]

/-! ## Measurements -/

/-- What a reading of the NTC outside its range counts and shows. -/
def State.ntcCounted (bad : Bool) : State := if bad && !s.rbit Reg.PNL_STATUS 5 then s.bump Reg.PNL_NTC_FAULT_CNT else s

def State.ntcShown (bad : Bool) : State := if bad then (s.ntcCounted bad).raise Reg.PNL_EVT 4 else s.ntcCounted bad

theorem regsBut_ntcShown (bad : Bool) : RegsBut s (s.ntcShown bad) [Reg.PNL_NTC_FAULT_CNT, Reg.PNL_EVT, Reg.MSIX_PBA 0] := by
  have hcnt : RegsBut s (s.ntcCounted bad) [Reg.PNL_NTC_FAULT_CNT] := by
    unfold State.ntcCounted
    split
    · exact regsBut_bump _ _
    · exact .refl _ _
  have hevt : RegsBut (s.ntcCounted bad) (s.ntcShown bad) [Reg.PNL_EVT, Reg.MSIX_PBA 0] := by
    unfold State.ntcShown
    split
    · exact regsBut_raise _ _ _
    · exact .refl _ _
  exact hcnt.andThen hevt

theorem State.ntcShown_bad : (s.ntcShown true).rbit Reg.PNL_EVT 2 = true
    ∧ (s.rbit Reg.PNL_STATUS 5 = false → (s.ntcShown true).reg Reg.PNL_NTC_FAULT_CNT = satAdd (s.reg Reg.PNL_NTC_FAULT_CNT) 1) := by
  rw [show s.ntcShown true = (s.ntcCounted true).raise Reg.PNL_EVT 4 from rfl]
  refine ⟨State.rbit_raise_self _ _ _ _ (by decide) (by decide), fun h => ?_⟩
  refine (regsBut_raise _ Reg.PNL_EVT 4 _ (by decide)).trans ?_
  rw [State.ntcCounted, if_pos (by rw [h]; decide), State.reg_bump, if_pos rfl]

/-- The measurements shown, and the drive values kept for the next frame. -/
def State.panelRead (flags : Nat) (t : Int) (ohm vpp : U32) (d : Nat × Nat) : State :=
  ((((s.setRegFld Reg.PNL_STATUS 5 3 flags).setReg Reg.PNL_TEMP (packU32 [((ofInt 16 t).toNat, 0)])).setReg Reg.PNL_NTC_OHM ohm).setReg
    Reg.PNL_VPP_MEAS vpp).updPanel (fun x => { x with drive := some d })

theorem regsBut_panelRead (flags : Nat) (t : Int) (ohm vpp : U32) (d : Nat × Nat) :
    RegsBut s (s.panelRead flags t ohm vpp d) [Reg.PNL_STATUS, Reg.PNL_TEMP, Reg.PNL_NTC_OHM, Reg.PNL_VPP_MEAS] :=
  (((regsBut_setRegFld _ _ _ _ _).andThen (regsBut_setReg _ _ _)).andThen (regsBut_setReg _ _ _)).andThen
    (regsBut_setReg (((s.setRegFld Reg.PNL_STATUS 5 3 flags).setReg Reg.PNL_TEMP _).setReg Reg.PNL_NTC_OHM ohm) Reg.PNL_VPP_MEAS vpp)

theorem packU32_one (n : Nat) : packU32 [(n, 0)] = BitVec.ofNat 32 n := by
  show 0 ||| BitVec.ofNat 32 (n <<< 0) = _
  rw [Nat.shiftLeft_zero]
  exact BitVec.zero_or

theorem State.panelRead_temp (flags : Nat) (t : Int) (ohm vpp : U32) (d : Nat × Nat) :
    (s.panelRead flags t ohm vpp d).reg Reg.PNL_TEMP = BitVec.ofNat 32 (ofInt 16 t).toNat := by
  show (State.setReg _ _ _).reg _ = _
  rw [State.reg_setReg, if_neg (by decide), State.reg_setReg, if_neg (by decide), State.reg_setReg, if_pos rfl, packU32_one]

/-- The bits 5 to 7 of PNL_STATUS take the flags. -/
theorem State.panelRead_flag (a b c : Bool) (t : Int) (ohm vpp : U32) (d : Nat × Nat) :
    (s.panelRead (b2n a + 2 * b2n b + 4 * b2n c) t ohm vpp d).rbit Reg.PNL_STATUS 5 = a
    ∧ (s.panelRead (b2n a + 2 * b2n b + 4 * b2n c) t ohm vpp d).rbit Reg.PNL_STATUS 6 = b := by
  show bitAt (State.reg (State.setReg _ _ _) _) 5 = a ∧ bitAt (State.reg (State.setReg _ _ _) _) 6 = b
  rw [State.reg_setReg, if_neg (by decide), State.reg_setReg, if_neg (by decide), State.reg_setReg, if_neg (by decide)]
  unfold State.setRegFld
  rw [State.reg_setReg, if_pos rfl, bitAt_setFld, bitAt_setFld, if_pos (by decide), if_pos (by decide)]
  revert a b c
  decide

/-- The voltage before its clamp, of the temperature in 0.1 °C (R460). -/
def State.panelVolts (t : Int) : Int := 10 * (s.rfld Reg.PNL_V25 0 14 : Int) + sext 8 (s.rfld Reg.PNL_TC 0 8) * (t - 250)

/-- The drive values and the registers of a second's measurements at the temperature `t`. -/
def State.panelMeasured (i : Nat) (p : PanelTemp) (bad : Bool) (t : Int) : State :=
  let tc := sext 8 (s.rfld Reg.PNL_TC 0 8)
  let itc := sext 16 (s.rfld Reg.PNL_ITC 0 16)
  let v := 10 * s.rfld Reg.PNL_V25 0 14 + tc * (t - 250)
  let c := (s.rfld Reg.PNL_I25 0 8 : Int) * (100000 + itc * (t - 250))
  let vv := max 80000 (min 160000 v)
  let cc := max 0 (min 25500000 c)
  let code := if 2 * cc.fmod 100000 = 100000 && !Config.freeTie (i + 1) then cc.fdiv 100000 else nearest cc 100000
  ({ s with free := s.free + 1 } : State).panelRead (b2n bad + 2 * b2n (decide (vv != v)) + 4 * b2n (decide (cc != c))) t
    (BitVec.ofNat 32 (min p.ntcOhm 0xFFFFF)) (BitVec.ofNat 32 (p.vppMv % 16384)) ((openRound vv 10 (Config.freeTie i)).toNat, code.toNat)

theorem State.panelTemp_measures (p : PanelTemp) (hm : Node.setup ≤ s.mgmt) :
    s.panelTemp p = (s.draw.2.ntcShown (decide (p.ntcOhm < 200) || decide (400000 < p.ntcOhm))).panelMeasured s.draw.1 p
      (decide (p.ntcOhm < 200) || decide (400000 < p.ntcOhm))
      (if (decide (p.ntcOhm < 200) || decide (400000 < p.ntcOhm)) || s.draw.2.rbit Reg.PNL_CTL 2 then p.internal
        else ntcReading p.ntcOhm (Config.freeTemp s.draw.1)) :=
  if_neg (Nat.not_lt.mpr hm)

theorem State.panelMeasured_reads (i : Nat) (p : PanelTemp) (bad : Bool) (t : Int) :
    ∃ hot ohm vpp d, s.panelMeasured i p bad t = ({ s with free := s.free + 1 } : State).panelRead
      (b2n bad + 2 * b2n (max 80000 (min 160000 (s.panelVolts t)) != s.panelVolts t) + 4 * b2n hot) t ohm vpp d := by
  unfold State.panelMeasured
  extract_lets tc itc v c vv cc code
  rw [Bool.decide_coe]
  exact ⟨_, _, _, _, rfl⟩

/-- A second's measurements, with what the NTC shows before them. -/
theorem State.panelTemp_eq {p : PanelTemp} {bad : Bool} (hm : Node.setup ≤ s.mgmt)
    (hbad : (decide (p.ntcOhm < 200) || decide (400000 < p.ntcOhm)) = bad) (hint : bad = true ∨ s.rbit Reg.PNL_CTL 2 = true) :
    ∃ fr hot ohm vpp d, s.panelTemp p = ({ s.draw.2.ntcShown bad with free := fr } : State).panelRead
      (b2n bad + 2 * b2n (max 80000 (min 160000 (s.panelVolts p.internal)) != s.panelVolts p.internal) + 4 * b2n hot) p.internal ohm vpp d := by
  have hregs : ∀ o ∉ [Reg.PNL_NTC_FAULT_CNT, Reg.PNL_EVT, Reg.MSIX_PBA 0], (s.draw.2.ntcShown bad).reg o = s.reg o :=
    fun o ho => regsBut_ntcShown s.draw.2 bad o ho
  have hv : 10 * ((s.draw.2.ntcShown bad).rfld Reg.PNL_V25 0 14 : Int) + sext 8 ((s.draw.2.ntcShown bad).rfld Reg.PNL_TC 0 8) * (p.internal - 250)
      = s.panelVolts p.internal := by
    unfold State.panelVolts State.rfld
    rw [hregs _ (by decide), hregs _ (by decide)]
  have ht : (bad || s.draw.2.rbit Reg.PNL_CTL 2) = true := by
    rcases hint with h | h
    · rw [h]; rfl
    · exact (congrArg (bad || ·) h).trans (Bool.or_true _)
  have hint' : (if bad || s.draw.2.rbit Reg.PNL_CTL 2 then p.internal else ntcReading p.ntcOhm (Config.freeTemp s.draw.1)) = p.internal :=
    if_pos ht
  rw [s.panelTemp_measures p hm, hbad, hint']
  obtain ⟨hot, ohm, vpp, d, h⟩ := (s.draw.2.ntcShown bad).panelMeasured_reads s.draw.1 p bad p.internal
  exact ⟨_, hot, ohm, vpp, d, by rw [← hv]; exact h⟩

/-- The registers that a second's measurements fill, and the drive values that wait for the next frame. -/
theorem State.panelTemp_measured {p : PanelTemp} {bad : Bool} (hm : Node.setup ≤ s.mgmt)
    (hbad : (decide (p.ntcOhm < 200) || decide (400000 < p.ntcOhm)) = bad) (hint : bad = true ∨ s.rbit Reg.PNL_CTL 2 = true) :
    (s.panelTemp p).reg Reg.PNL_TEMP = BitVec.ofNat 32 (ofInt 16 p.internal).toNat ∧ (s.panelTemp p).panel.drive.isSome = true
    ∧ (s.panelTemp p).rbit Reg.PNL_STATUS 5 = bad
    ∧ ((s.panelTemp p).rbit Reg.PNL_STATUS 6 = true ↔ s.panelVolts p.internal < 80000 ∨ 160000 < s.panelVolts p.internal)
    ∧ RegsBut (s.draw.2.ntcShown bad) (s.panelTemp p) [Reg.PNL_STATUS, Reg.PNL_TEMP, Reg.PNL_NTC_OHM, Reg.PNL_VPP_MEAS] := by
  obtain ⟨fr, hot, ohm, vpp, d, heq⟩ := s.panelTemp_eq hm hbad hint
  rw [heq]
  generalize s.panelVolts p.internal = v
  obtain ⟨h5, h6⟩ := State.panelRead_flag { s.draw.2.ntcShown bad with free := fr } bad (max 80000 (min 160000 v) != v) hot p.internal ohm vpp d
  refine ⟨State.panelRead_temp _ _ _ _ _ _, rfl, h5, ?_, fun o ho => (regsBut_panelRead _ _ _ _ _ _ o ho).trans rfl⟩
  rw [h6, bne_iff_ne]
  omega

/-! ## The alarm list -/

theorem length_listInsert (a : ListEntry) (l : List ListEntry) : (listInsert a l).length = l.length + 1 := by
  induction l with
  | nil => rfl
  | cons b l ih =>
    rw [listInsert]
    split
    · rfl
    · rw [List.length_cons, ih, List.length_cons]

theorem length_foldr_listInsert (l : List ListEntry) : (l.foldr listInsert []).length = l.length := by
  induction l with
  | nil => rfl
  | cons a l ih => rw [List.foldr_cons, length_listInsert, ih, List.length_cons]

theorem State.length_listEntries (e : EngineId) : (s.listEntries e).length = (s.points.filter (s.listedPoint e)).length := by
  rw [State.listEntries, length_foldr_listInsert, List.length_map]

/-- Pixels of a list put into the back buffer, its count shown and its flip asked for. -/
def State.listPut (l : List Byte) (n : Nat) : State :=
  ((s.tarnStore (fbOffset (!s.panel.front)) l).setReg Reg.PNL_LIST_CNT (BitVec.ofNat 32 n)).updPanel
    (fun p => { p with flip := p.flip.or (some none) })

def State.listDrawn (g : ListImage) : State := s.listPut (leBytes 8192 (Config.listPixels g).toNat) g.count

theorem State.redraw_draws {e : EngineId} (he : s.skink.holder = some e) (hm : s.mgmt = Node.run) (hl : s.rbit Reg.PNL_CTL 1 = true) :
    s.redraw = if Config.panelRows < (s.freezeLil.listImage e).count
      then (s.freezeLil.listDrawn (s.freezeLil.listImage e)).raise Reg.PNL_EVT 0x10 else s.freezeLil.listDrawn (s.freezeLil.listImage e) := by
  unfold State.redraw
  rw [he]
  exact if_neg (by simp [hm, hl])

/-- What a list leaves: the flip, the count, and the back buffer's pixels. -/
theorem State.listPut_put {l : List Byte} (hlen : l.length = 8192) (n : Nat) :
    (s.listPut l n).panel = { s.panel with flip := if s.panel.flip.isSome then s.panel.flip else some none }
    ∧ (s.listPut l n).reg Reg.PNL_LIST_CNT = BitVec.ofNat 32 n ∧ (s.listPut l n).hif = s.hif ∧ (s.listPut l n).rtc = s.rtc
    ∧ (∀ k, k < 8192 → Sparse.get 0 (s.listPut l n).tarn (fbOffset (!s.panel.front) + k) = l.getD k 0)
    ∧ ∀ a, a < fbOffset (!s.panel.front) ∨ fbOffset (!s.panel.front) + 8192 ≤ a →
      Sparse.get 0 (s.listPut l n).tarn a = Sparse.get 0 s.tarn a := by
  have hparts := s.tarnStore_parts (fbOffset (!s.panel.front)) l
  have htarn := s.tarnStore_tarn (fbOffset (!s.panel.front)) l
  unfold State.listPut
  generalize s.tarnStore (fbOffset (!s.panel.front)) l = u at hparts htarn ⊢
  have hpanel : u.panel = s.panel := hparts .panel (by decide)
  refine ⟨?_, (State.reg_setReg _ _ _ _).trans (if_pos rfl), hparts .hif (by decide), hparts .rtc (by decide), fun k hk => ?_, fun a ha => ?_⟩
  · show { u.panel with flip := u.panel.flip.or (some none) } = _
    rw [hpanel]
    cases h : s.panel.flip <;> rfl
  · exact (congrArg (Sparse.get 0 · (fbOffset (!s.panel.front) + k)) htarn).trans (Sparse.get_write_inside l _ _ k (by omega))
  · exact (congrArg (Sparse.get 0 · a) htarn).trans (Sparse.get_write_outside l _ _ a (by rw [hlen]; exact ha))

end

/-! ## The panel's commands -/

theorem length_fit_getD (n : Nat) (b : List Byte) {k : Nat} (hk : k < n) : (fit n b).getD k 0 = b.getD k 0 := by
  unfold fit zeros
  rw [List.getD_eq_getElem?_getD, List.getD_eq_getElem?_getD, List.getElem?_append]
  split
  next h => rw [List.getElem?_take_of_lt hk]
  next h =>
    have hb : b.length ≤ k := by
      rw [List.length_take] at h
      omega
    rw [List.getElem?_replicate, List.getElem?_eq_none hb]
    split <;> rfl

theorem ends_panelFlip_waits {s : State} {d : Desc} {img : Image} (h : s.Heads 0x74 d) (hresv : d.resv 0x10 48 = true)
    (hon : s.rbit Reg.PNL_CTL 0 = true) (hfit : s.panel.absent = false) (hown : s.mgmt ≠ Node.run ∨ s.rbit Reg.PNL_CTL 1 = false)
    (hflip : s.panel.flip = none) (harg : d.arg 8 8 = 0) : Ends (.panelFlip img) s (fun t => Deferred s t d ∧ t.tarn = s.tarn
        ∧ t.panel = { s.panel with flip := some (some (d.tag, d.irqNow)) }) := by
  refine ends_dirCmd h rfl fun u hu => ?_
  rw [hu.panelFlip img hresv hon hfit hown (by rw [harg]; rfl), hflip, if_neg (by simp), harg, if_neg (by simp)]
  obtain ⟨hd, ht, hp⟩ := hu.flipWaits (v := u) (d := d) (by simpa using State.cmdHead_opcode h.1) rfl rfl
  exact ⟨hd, ht.trans hu.tarn, hp⟩

theorem ends_panelFlip_copies {s : State} {d : Desc} {b : List Byte} (h : s.Heads 0x74 d) (hresv : d.resv 0x10 48 = true)
    (hon : s.rbit Reg.PNL_CTL 0 = true) (hfit : s.panel.absent = false) (hown : s.mgmt ≠ Node.run ∨ s.rbit Reg.PNL_CTL 1 = false)
    (hflip : s.panel.flip = none) (harg : d.arg 8 8 ≠ 0) (hal : d.aligned 8 = true) :
    Ends (.panelFlip (some b)) s (fun t => Deferred s t d ∧ (∀ k, k < 8192 → Sparse.get 0 t.tarn (fbOffset (!s.panel.front) + k) = b.getD k 0)
      ∧ (∀ a, a < fbOffset (!s.panel.front) ∨ fbOffset (!s.panel.front) + 8192 ≤ a → Sparse.get 0 t.tarn a = Sparse.get 0 s.tarn a)
      ∧ t.panel = { s.panel with flip := some (some (d.tag, d.irqNow)) }) := by
  refine ends_dirCmd h rfl fun u hu => ?_
  rw [hu.panelFlip (some b) hresv hon hfit hown (by rw [hal]; simp), hflip, if_neg (by simp), if_pos (by simpa using harg)]
  have hlen : (fit 8192 ((some b).getD [])).length = 8192 := length_fit _ _
  have hget : ∀ k < 8192, (fit 8192 ((some b).getD [])).getD k 0 = b.getD k 0 := fun k hk => length_fit_getD _ _ hk
  generalize fit 8192 ((some b).getD []) = l at hlen hget ⊢
  have hparts := u.tarnStore_parts (fbOffset (!s.panel.front)) l
  have htarn := u.tarnStore_tarn (fbOffset (!s.panel.front)) l
  generalize u.tarnStore (fbOffset (!s.panel.front)) l = v at hparts htarn ⊢
  obtain ⟨hd, ht, hp⟩ := hu.flipWaits (v := v) (d := d) (by simpa using State.cmdHead_opcode h.1) (hparts .panel (by decide))
    (hparts .hif (by decide))
  rw [hu.tarn] at htarn
  refine ⟨hd, fun k hk => ?_, fun a ha => ?_, hp⟩
  · refine (congrArg (Sparse.get 0 · _) (ht.trans htarn)).trans ((Sparse.get_write_inside l _ _ k (by omega)).trans (hget k hk))
  · exact (congrArg (Sparse.get 0 · a) (ht.trans htarn)).trans (Sparse.get_write_outside l _ _ a (by rw [hlen]; exact ha))

theorem ends_panelFlip_busy {s : State} {d : Desc} {img : Image} (h : s.Heads 0x74 d) (hresv : d.resv 0x10 48 = true)
    (hon : s.rbit Reg.PNL_CTL 0 = true) (hfit : s.panel.absent = false) (hown : s.mgmt ≠ Node.run ∨ s.rbit Reg.PNL_CTL 1 = false)
    (hflip : s.panel.flip.isSome = true) (harg : d.arg 8 8 = 0) : Ends (.panelFlip img) s (fun t => Answered s t d Status.busy 0
        ∧ t.tarn = s.tarn ∧ t.panel = s.panel) := by
  refine ends_dirCmd h rfl fun u hu => ?_
  rw [hu.panelFlip img hresv hon hfit hown (by rw [harg]; rfl), if_pos hflip]
  exact ⟨hu.answered d _ _, hu.tarn, hu.panel⟩

/-- A frame boundary that applies a pending flip. -/
theorem frame_flips {s : State} (h : s.driven = true) {cmd : Option (U32 × Bool)} (hf : s.panel.flip = some cmd) :
    Ends .panelFrameBoundary s (fun t => t.panel.front = !s.panel.front ∧ t.panel.flip = none
        ∧ t.reg Reg.PNL_FRAME_CNT = satAdd (s.reg Reg.PNL_FRAME_CNT) 1 ∧ t.reg Reg.PNL_FLIP_CNT = satAdd (s.reg Reg.PNL_FLIP_CNT) 1
        ∧ t.rbit Reg.PNL_EVT 0 = true
        ∧ ∀ tag irq, cmd = some (tag, irq) → ∃ c, c ∈ t.hif.ready ∧ c.tag = tag ∧ c.opcode = 0x74 ∧ c.status = 0
            ∧ c.result = (t.reg Reg.PNL_FRAME_CNT).zeroExtend 64) := by
  refine ⟨_, rfl, ?_⟩
  rw [State.frame_driven s.fresh h]
  obtain ⟨-, hp, -, hr, hcnt, -⟩ := s.fresh.frameShown_shown
  generalize s.fresh.frameShown = u at hp hr hcnt ⊢
  obtain ⟨hp2, -, hr2, hfl, hevt, hcompl⟩ := u.flipNow_flips (cmd := cmd) (by rw [hp]; exact hf)
  have hfrm : u.flipNow.reg Reg.PNL_FRAME_CNT = u.reg Reg.PNL_FRAME_CNT := hr2 _ (by decide)
  refine ⟨?_, ?_, hfrm.trans hcnt, ?_, hevt, ?_⟩
  · rw [hp2, hp]; rfl
  · rw [hp2]
  · rw [hfl, hr _ (by decide)]; rfl
  · rw [hfrm]; exact hcompl

/-- A frame boundary without a flip. -/
theorem frame_idle {s : State} (h : s.driven = true) (hf : s.panel.flip = none) : exec .panelFrameBoundary s = .next s.fresh.frameShown := by
  show Host.Outcome.next s.fresh.frame = _
  rw [State.frame_driven s.fresh h, State.flipNow_idle]
  rw [(s.fresh.frameShown_shown).2.1]
  exact hf

theorem frame_sends {s : State} (h : s.driven = true) (hs : s.panel.scanning = true) : Ends .panelFrameBoundary s (fun t =>
    .panelFrame (shifted (s.tarnRead (fbOffset s.panel.front) 8192) (shiftOffset (s.rfld Reg.PNL_STATUS 8 2))) ∈ t.out) := by
  refine ⟨_, rfl, ?_⟩
  rw [State.frame_driven s.fresh h]
  obtain ⟨-, hp, ho, -⟩ := s.fresh.frameShown_shown
  rw [if_pos (show s.fresh.panel.scanning = true from hs)] at ho
  have hmem : Output.panelFrame s.fresh.frameBytes ∈ s.fresh.frameShown.out := by rw [ho]; simp
  generalize s.fresh.frameShown = u at hp hmem ⊢
  cases hf : u.panel.flip with
  | none => rw [u.flipNow_idle hf]; exact hmem
  | some cmd => exact (u.flipNow_flips hf).2.1.subset hmem

theorem ends_alarmListRedraw {s r : State} {ticks : Nat} {e : EngineId} (hr : s.fresh.rtcElapse ticks = r) (he : r.skink.holder = some e)
    (hm : r.mgmt = Node.run) (hl : r.rbit Reg.PNL_CTL 1 = true) :
    Ends (.alarmListRedraw ticks) s (fun t => t.panel = { r.panel with flip := if r.panel.flip.isSome then r.panel.flip else some none }
      ∧ t.reg Reg.PNL_LIST_CNT = BitVec.ofNat 32 (r.points.filter (r.listedPoint e)).length ∧ t.hif = r.hif
      ∧ t.rtc = { r.rtc with lil := some r.rtc.live }
      ∧ (∃ g : ListImage, g.time = r.rtc.live.bcdTime ∧ g.date = r.rtc.live.bcdDate ∧ g.node = r.nodeId
          ∧ g.count = (r.points.filter (r.listedPoint e)).length ∧ g.entries = (r.listEntries e).take Config.panelRows
          ∧ ∀ k, k < 8192 → Sparse.get 0 t.tarn (fbOffset (!r.panel.front) + k) = (leBytes 8192 (Config.listPixels g).toNat).getD k 0)
      ∧ ∀ a, a < fbOffset (!r.panel.front) ∨ fbOffset (!r.panel.front) + 8192 ≤ a → Sparse.get 0 t.tarn a = Sparse.get 0 r.tarn a) := by
  have hrun : exec (.alarmListRedraw ticks) s = .next (s.fresh.rtcElapse ticks).redraw := rfl
  rw [hr, r.redraw_draws he hm hl] at hrun
  refine ⟨_, hrun, ?_⟩
  have hcount : (r.freezeLil.listImage e).count = (r.points.filter (r.listedPoint e)).length := r.length_listEntries e
  have hg : (r.freezeLil.listImage e).time = r.rtc.live.bcdTime ∧ (r.freezeLil.listImage e).date = r.rtc.live.bcdDate
      ∧ (r.freezeLil.listImage e).node = r.nodeId ∧ (r.freezeLil.listImage e).entries = (r.listEntries e).take Config.panelRows :=
    ⟨rfl, rfl, rfl, rfl⟩
  generalize r.freezeLil.listImage e = g at hcount hg ⊢
  obtain ⟨htime, hdate, hnode, hentries⟩ := hg
  obtain ⟨hp, hcnt, hh, hrtc, hin, hout⟩ := r.freezeLil.listPut_put (length_leBytes 8192 (Config.listPixels g).toNat) g.count
  have hfold : r.freezeLil.listPut (leBytes 8192 (Config.listPixels g).toNat) g.count = r.freezeLil.listDrawn g := rfl
  rw [hfold] at hp hcnt hh hrtc hin hout
  rw [hcount] at hcnt
  generalize r.freezeLil.listDrawn g = u at hp hcnt hh hrtc hin hout ⊢
  have hkept : ∀ v : State, v.panel = u.panel → v.reg Reg.PNL_LIST_CNT = u.reg Reg.PNL_LIST_CNT → v.hif = u.hif → v.rtc = u.rtc → v.tarn = u.tarn →
      v.panel = { r.panel with flip := if r.panel.flip.isSome then r.panel.flip else some none }
      ∧ v.reg Reg.PNL_LIST_CNT = BitVec.ofNat 32 (r.points.filter (r.listedPoint e)).length ∧ v.hif = r.hif
      ∧ v.rtc = { r.rtc with lil := some r.rtc.live }
      ∧ (∃ g : ListImage, g.time = r.rtc.live.bcdTime ∧ g.date = r.rtc.live.bcdDate ∧ g.node = r.nodeId
          ∧ g.count = (r.points.filter (r.listedPoint e)).length ∧ g.entries = (r.listEntries e).take Config.panelRows
          ∧ ∀ k, k < 8192 → Sparse.get 0 v.tarn (fbOffset (!r.panel.front) + k) = (leBytes 8192 (Config.listPixels g).toNat).getD k 0)
      ∧ ∀ a, a < fbOffset (!r.panel.front) ∨ fbOffset (!r.panel.front) + 8192 ≤ a → Sparse.get 0 v.tarn a = Sparse.get 0 r.tarn a := by
    intro v hvp hvc hvh hvr hvt
    rw [hvp, hvc, hvh, hvr, hvt]
    exact ⟨hp, hcnt, hh, hrtc, ⟨g, htime, hdate, hnode, hcount, hentries, hin⟩, hout⟩
  split
  · exact hkept _ (State.raise_panel _ _ _) (regsBut_raise _ _ _ _ (by decide)) (State.raise_hif _ _ _) (State.raise_rtc _ _ _) (State.raise_tarn _ _ _)
  · exact hkept _ rfl rfl rfl rfl rfl

theorem ends_vppFault {s : State} (h : s.driven = true) : Ends .vppFault s (fun t =>
    t.panel = { s.panel with vppOff := true, scanning := false } ∧ t.rbit Reg.PNL_EVT 1 = true
      ∧ t.reg Reg.PNL_VPP_FAULT_CNT = satAdd (s.reg Reg.PNL_VPP_FAULT_CNT) 1) := by
  refine ⟨_, congrArg Host.Outcome.next (if_pos (show s.fresh.driven = true from h)), ?_, ?_, ?_⟩
  · rw [State.raise_panel, State.bump_panel]
    rfl
  · exact State.rbit_raise_self _ _ _ _ (by decide) (by decide)
  · refine (regsBut_raise _ Reg.PNL_EVT 2 _ (by decide)).trans ?_
    rw [State.reg_bump, if_pos rfl]
    rfl

/-- The removal of the panel is shown. -/
def State.senseShown (s : State) (high : Bool) : State := if high then s.raise Reg.PNL_EVT 8 else s

theorem State.senseShown_shown {s u : State} {high : Bool} {p : Panel} (hp : u.panel = p) (hr : u.regs = s.regs) (hb : u.behavBoot = s.behavBoot) :
    (u.senseShown high).panel = p ∧ RegsBut s (u.senseShown high) [Reg.PNL_EVT, Reg.MSIX_PBA 0]
      ∧ (high = true → s.panel.absent = false → (u.senseShown high).rbit Reg.PNL_EVT 3 = true) := by
  cases high with
  | true =>
    rw [show u.senseShown true = u.raise Reg.PNL_EVT 8 from rfl]
    exact ⟨(State.raise_panel u _ _).trans hp, (RegsBut.of_regs hr hb _).trans (regsBut_raise u Reg.PNL_EVT 8),
      fun _ _ => State.rbit_raise_self _ _ _ _ (by decide) (by decide)⟩
  | false =>
    rw [show u.senseShown false = u from rfl]
    exact ⟨hp, RegsBut.of_regs hr hb _, fun h => by cases h⟩

theorem ends_pnlSenseChange (s : State) (high : Bool) : Ends (.pnlSenseChange high) s (fun t =>
    t.panel = { s.panel with absent := high, scanning := s.panel.scanning && high == s.panel.absent } ∧ RegsBut s t [Reg.PNL_EVT, Reg.MSIX_PBA 0]
      ∧ (high = true → s.panel.absent = false → t.rbit Reg.PNL_EVT 3 = true)) := by
  by_cases hsame : high = s.panel.absent
  · refine ⟨_, congrArg Host.Outcome.next (if_pos (by simpa using hsame)), ?_, fun _ _ => rfl, fun ht hf => by rw [ht, hf] at hsame; cases hsame⟩
    rw [hsame, beq_self_eq_true, Bool.and_true]
    rfl
  · have hscan : (s.panel.scanning && high == s.panel.absent) = false := by simp [hsame]
    rw [hscan]
    exact ⟨_, congrArg Host.Outcome.next (if_neg (by simpa using hsame)), State.senseShown_shown (s := s) rfl rfl rfl⟩

/-- Settles O46: each command by the lemmas above. -/
theorem panelCommands : Obligations.PanelCommands := by
  unfold Obligations.PanelCommands
  refine ⟨fun s d img h hresv hon hfit hown => ⟨?_, ?_, ?_⟩, fun s hd => ⟨?_, ?_, ?_, ?_, ends_vppFault hd⟩,
    fun s => ⟨⟨_, rfl, rfl, fun _ _ => rfl⟩, fun hb => ?_, ends_pnlSenseChange s⟩, fun s p hm => ⟨?_, ?_⟩,
    fun s ticks e r hr he hm hl => ends_alarmListRedraw hr he hm hl⟩
  · exact ends_panelFlip_waits h hresv hon hfit hown
  · rintro b rfl hflip harg hal
    exact ends_panelFlip_copies h hresv hon hfit hown hflip harg hal
  · exact ends_panelFlip_busy h hresv hon hfit hown
  · exact fun cmd hf => frame_flips hd hf
  · intro v i hf hdr
    obtain ⟨hh, hp, -, -, -, hdrive⟩ := s.fresh.frameShown_shown
    obtain ⟨hv, hi⟩ := hdrive v i hdr
    exact ⟨_, frame_idle hd hf, hp, hv, hi, hh⟩
  · exact frame_sends hd
  · intro hs hf
    obtain ⟨-, hp, ho, -⟩ := s.fresh.frameShown_shown
    rw [if_neg (show ¬ s.fresh.panel.scanning = true from by simp [State.fresh, hs])] at ho
    exact ⟨_, frame_idle hd hf, ho, congrArg Panel.scanning hp⟩
  · exact ⟨_, congrArg Host.Outcome.next (if_pos hb), rfl, fun _ _ => rfl⟩
  · intro hc hlo hhi
    obtain ⟨ht, hdr, h5, h6, -⟩ := s.fresh.panelTemp_measured (p := p) (bad := false) hm (by simp; omega) (.inr hc)
    exact ⟨_, rfl, ht, h5, hdr, fun v hv => by rw [hv]; exact h6⟩
  · intro hbad
    obtain ⟨ht, -, h5, -, hr⟩ := s.fresh.panelTemp_measured (p := p) (bad := true) hm (by simpa using hbad) (.inl rfl)
    obtain ⟨hevt, hcnt⟩ := s.fresh.draw.2.ntcShown_bad
    refine ⟨_, rfl, ht, h5, ?_, fun hf => ?_⟩
    · exact (State.rbit_of_reg (hr _ (by decide)) 2).trans hevt
    · exact (hr _ (by decide)).trans (hcnt hf)

end Sys2Proof.Machine

/-! PROOFS. What an entry for CAN_RXn, an outcome and a change of the error counters do to a CAN channel (R384, R388, R394, R397). -/

namespace Sys2Proof.Machine

/-! ## A channel's record -/

section

variable (s : State)

theorem State.canCh_congr {s t : State} (h : t.can = s.can) (n : Nat) : t.canCh n = s.canCh n := by rw [State.canCh, State.canCh, h]

theorem State.canCh_updCan (n : Nat) (f : Can → Can) : (s.updCan n f).canCh n = f (s.canCh n) := Sparse.get_set_self _ _ _

/-! ## Entries of a channel's ring -/

/-- Registers that an entry for CAN_RXn changes, an outcome of a frame, and a change of the error counters. -/
abbrev canRingRegs (n : Nat) : List Off :=
  [Reg.RING_NODE_IDX (18 + n), Reg.RING_ENTRY_CNT (18 + n), Reg.RING_LOSS_CNT (18 + n), Reg.CAN_EVT n, Reg.MSIX_PBA 0]

abbrev outcomeRegs (n : Nat) : List Off := Reg.CAN_TX_CANCEL_CNT n :: Reg.CAN_TX_ABORT_CNT n :: canRingRegs n

abbrev errRegs (n : Nat) : List Off := Reg.CAN_STATUS n :: Reg.CAN_BUSOFF_CNT n :: Reg.CAN_NOACK_RUN n :: outcomeRegs n

/-- Entries of a channel's ring, or outcomes, have been given out: LOST_BEFORE and the echoes that wait follow, and the channel is otherwise as it was. -/
structure CanPosted (s t : State) (n : Nat) (os : List Off) : Prop where
  regs : RegsBut s t os
  out : s.out <+: t.out
  hif : ∃ u, t.hif = { s.hif with unsig := u }
  channel : ∃ b e, t.canCh n = { s.canCh n with lostBefore := b, echoes := e }
  events : ∀ i, s.rbit (Reg.CAN_EVT n) i = true → t.rbit (Reg.CAN_EVT n) i = true

theorem CanPosted.refl (n : Nat) (os : List Off) : CanPosted s s n os :=
  ⟨.refl _ _, List.prefix_rfl, ⟨_, rfl⟩, ⟨_, _, rfl⟩, fun _ h => h⟩

variable {s}

theorem CanPosted.mono {t : State} {n : Nat} {os ps : List Off} (h : CanPosted s t n os) (hs : os ⊆ ps) : CanPosted s t n ps :=
  ⟨h.regs.mono hs, h.out, h.hif, h.channel, h.events⟩

theorem CanPosted.trans {t u : State} {n : Nat} {os : List Off} (h : CanPosted s t n os) (k : CanPosted t u n os) : CanPosted s u n os := by
  obtain ⟨hr, ho, ⟨x, hx⟩, ⟨b, e, hc⟩, he⟩ := h
  obtain ⟨kr, ko, ⟨y, ky⟩, ⟨b', e', kc⟩, ke⟩ := k
  exact ⟨hr.trans kr, ho.trans ko, ⟨y, by rw [ky, hx]⟩, ⟨b', e', by rw [kc, hc]⟩, fun i hi => ke i (he i hi)⟩

/-- A register written that is not CAN_EVT. -/
theorem CanPosted.of_regs {t : State} {n : Nat} {os : List Off} (h : RegsBut s t os) (hif : t.hif = s.hif) (hout : t.out = s.out) (hcan : t.can = s.can)
    (hevt : Reg.CAN_EVT n ∉ os) : CanPosted s t n os :=
  ⟨h, by rw [hout], ⟨s.hif.unsig, by rw [hif]⟩, ⟨(s.canCh n).lostBefore, (s.canCh n).echoes, by rw [State.canCh_congr hcan]⟩,
    fun i hi => (State.rbit_of_reg (h _ hevt) i).trans hi⟩

/-- A part of a channel's record that does not count here. -/
theorem canPosted_updCan (s : State) (n : Nat) (f : Can → Can) {b : Bool} {e : List Echo}
    (hf : f (s.canCh n) = { s.canCh n with lostBefore := b, echoes := e }) (os : List Off) : CanPosted s (s.updCan n f) n os :=
  ⟨.of_regs rfl rfl os, List.prefix_rfl, ⟨_, rfl⟩, ⟨b, e, (s.canCh_updCan n f).trans hf⟩, fun _ h => h⟩

theorem canPosted_raise (s : State) {n : Nat} (hn : n < 8) (m : Nat) : CanPosted s (s.raise (Reg.CAN_EVT n) m) n [Reg.CAN_EVT n, Reg.MSIX_PBA 0] := by
  have hne : ∀ n < 8, Reg.CAN_EVT n ≠ Reg.MSIX_PBA 0 := by decide
  refine ⟨regsBut_raise _ _ _, State.raise_out _ _ _, ⟨_, State.raise_hif s _ _⟩,
    ⟨(s.canCh n).lostBefore, (s.canCh n).echoes, State.canCh_congr (State.raise_can s _ _) n⟩, fun i hi => ?_⟩
  rw [State.rbit_raise _ _ _ _ _ (hne n hn), hi]
  simp

theorem canPosted_postEntry (s : State) {n : Nat} (hn : n < 8) (data : List Byte) : CanPosted s (s.postEntry (18 + n) data) n (canRingRegs n) := by
  have hevt : ∀ n < 8, Reg.CAN_EVT n ∉ [Reg.RING_NODE_IDX (18 + n), Reg.RING_ENTRY_CNT (18 + n), Reg.MSIX_PBA 0] := by decide
  have hregs := regsBut_postEntry s (18 + n) data false
  refine ⟨hregs.mono (by simp), ?_, State.postEntry_hif _ _ _ _,
    ⟨(s.canCh n).lostBefore, (s.canCh n).echoes, State.canCh_congr (same_of_foot [.regs, .hif] (fun _ _ => postEntry_foot _ _ _ _ (.refl s)) .can) n⟩,
    fun i hi => (State.rbit_of_reg (hregs _ (hevt n hn)) i).trans hi⟩
  exact (List.prefix_append _ _).trans (State.advanceRing_out (s.emitOut _) (18 + n) false)

theorem canPosted_ringLoss (s : State) {n : Nat} (hn : n < 8) : CanPosted s (s.ringLoss (18 + n)) n (canRingRegs n) := by
  have hevt : ∀ n < 8, Reg.CAN_EVT n ∉ [Reg.RING_LOSS_CNT (18 + n)] := by decide
  have hregs : RegsBut s (s.ringLoss (18 + n)) [Reg.RING_LOSS_CNT (18 + n)] :=
    regsBut_bump { s with gecko := { s.gecko with lossSince := s.gecko.lossSince + 1 } } _
  exact (CanPosted.of_regs hregs rfl rfl rfl (hevt n hn)).mono (by simp)

theorem canPosted_canRing (s : State) {n : Nat} (hn : n < 8) (entry : Nat → List Byte) : CanPosted s (s.canRing n entry).1 n (canRingRegs n) := by
  unfold State.canRing
  dsimp only
  split
  · exact (canPosted_updCan s n _ rfl _).trans (canPosted_postEntry _ hn _)
  · exact ((canPosted_updCan s n _ rfl _).trans (canPosted_ringLoss _ hn)).trans ((canPosted_raise _ hn _).mono (by simp))

theorem CanPosted.foldl {α : Type} {n : Nat} {os : List Off} (g : State → α → State) (h : ∀ (t : State) (x : α), CanPosted t (g t x) n os)
    (l : List α) (s : State) : CanPosted s (l.foldl g s) n os := by
  induction l generalizing s with
  | nil => exact .refl s n os
  | cons x l ih => exact (h s x).trans (ih _)

theorem canPosted_echoesDue (s : State) {n : Nat} (hn : n < 8) : CanPosted s (s.echoesDue n) n (canRingRegs n) := by
  unfold State.echoesDue
  dsimp only
  exact (canPosted_updCan s n _ rfl _).trans (.foldl (fun s e => s.postEcho n e) (fun t _ => canPosted_canRing t hn _) _ _)

theorem canPosted_echo (s : State) {n : Nat} (hn : n < 8) (t : TxSlot) (code : Nat) : CanPosted s (s.echo n t code) n (canRingRegs n) := by
  unfold State.echo
  exact (canPosted_updCan s n _ rfl _).trans (canPosted_echoesDue _ hn)

/-- The count that an outcome raises (Table 13-6). -/
def State.outcomeCounted (s : State) (n code : Nat) : State :=
  if code = TxOut.cancelled then s.bump (Reg.CAN_TX_CANCEL_CNT n)
  else if code = TxOut.busOff || code = TxOut.aborted || code = TxOut.rejected then s.bump (Reg.CAN_TX_ABORT_CNT n)
  else s

theorem canPosted_outcomeCounted (s : State) {n : Nat} (hn : n < 8) (code : Nat) : CanPosted s (s.outcomeCounted n code) n (outcomeRegs n) := by
  have hevt : ∀ n < 8, Reg.CAN_EVT n ∉ [Reg.CAN_TX_CANCEL_CNT n] ∧ Reg.CAN_EVT n ∉ [Reg.CAN_TX_ABORT_CNT n] := by decide
  unfold State.outcomeCounted
  split
  · exact (CanPosted.of_regs (regsBut_bump s _) rfl rfl rfl (hevt n hn).1).mono (by simp)
  · split
    · exact (CanPosted.of_regs (regsBut_bump s _) rfl rfl rfl (hevt n hn).2).mono (by simp)
    · exact .refl _ _ _

theorem State.txOutcome_eq (s : State) (n : Nat) (t : TxSlot) (code : Nat) : s.txOutcome n t code =
    if t.node then s else if t.report then (s.outcomeCounted n code).echo n t code else s.outcomeCounted n code := rfl

theorem canPosted_txOutcome (s : State) {n : Nat} (hn : n < 8) (t : TxSlot) (code : Nat) :
    CanPosted s (s.txOutcome n t code) n (outcomeRegs n) := by
  rw [State.txOutcome_eq]
  split
  · exact .refl _ _ _
  · split
    · exact (canPosted_outcomeCounted s hn code).trans ((canPosted_echo _ hn t code).mono (by simp))
    · exact canPosted_outcomeCounted s hn code

/-- Frames that leave their slots, before their outcomes. -/
def State.framesOut (s : State) (n : Nat) (f : TxSlot → Bool) : State := s.updCan n (fun c => { c with slots := c.slots.filter (fun t => !f t) })

theorem canPosted_endFrames (s : State) {n : Nat} (hn : n < 8) (f : TxSlot → Bool) (code : Nat) :
    CanPosted (s.framesOut n f) (s.endFrames n f code) n (outcomeRegs n) := by
  unfold State.endFrames
  exact .foldl (fun s t => s.txOutcome n t code) (fun t x => canPosted_txOutcome t hn x code) _ _

/-! ## Error confinement (R388) -/

theorem errState_lt (tec rec : Nat) : errState tec rec < 4 := by
  unfold errState
  split
  · decide
  · split <;> decide

theorem errState_busOff {tec rec : Nat} : errState tec rec = 3 ↔ 255 < tec := by
  unfold errState
  split
  next h => exact ⟨fun _ => h, fun _ => rfl⟩
  next h =>
    refine ⟨fun h3 => ?_, fun h' => absurd h' h⟩
    split at h3 <;> cases h3

/-- TEC and REC taken, with the state that they give. -/
def State.errSet (s : State) (n tec rec : Nat) : State :=
  (s.updCan n (fun c => { c with tecCnt := min tec 256, recCnt := min rec 255 })).setCanBus n (errState tec rec)

theorem State.regs_errSet (s : State) (n tec rec : Nat) : RegsBut s (s.errSet n tec rec) [Reg.CAN_STATUS n] :=
  regsBut_setRegFld (s.updCan n _) _ _ _ _

theorem State.canCh_errSet (s : State) (n tec rec : Nat) :
    (s.errSet n tec rec).canCh n = { s.canCh n with tecCnt := min tec 256, recCnt := min rec 255 } :=
  s.canCh_updCan n (fun c => { c with tecCnt := min tec 256, recCnt := min rec 255 })

theorem State.canBus_errSet (s : State) (n tec rec : Nat) : (s.errSet n tec rec).canBus n = errState tec rec := by
  refine (State.rfld_setRegFld_self _ _ _ _ _ (by decide)).trans (Nat.mod_eq_of_lt (errState_lt tec rec))

theorem State.canStat_errSet (s : State) (n tec rec : Nat) {i : Nat} (hi : 2 ≤ i) : (s.errSet n tec rec).canStat n i = s.canStat n i := by
  refine (State.rbit_setRegFld _ _ _ _ _ _ _).trans ?_
  rw [if_neg (by omega)]
  rfl

/-- The entry into bus-off, before the frames of one attempt leave. -/
def State.busOffEntered (s : State) (n : Nat) : State := ((s.bump (Reg.CAN_BUSOFF_CNT n)).raise (Reg.CAN_EVT n) 1).canQuiet n

/-- The frames of one attempt leave, and recovery begins where it is automatic. -/
def State.busOffLeft (s : State) (n : Nat) : State :=
  let u := s.endFrames n (fun t => !t.inTx && s.oneShot n t) TxOut.busOff
  if u.rbit (Reg.CAN_CFG n) 6 then u.canRecover n else u

theorem State.setErr_eq (s : State) (n tec rec : Nat) : s.setErr n tec rec =
    if errState tec rec = 3 then ((s.errSet n tec rec).busOffEntered n).busOffLeft n
    else if errState tec rec = 2 && s.canBus n != 2 then (s.errSet n tec rec).raise (Reg.CAN_EVT n) 2 else s.errSet n tec rec := rfl

/-- A change of the counters that leaves the channel out of bus-off. -/
structure ErrKept (s t : State) (n tec rec : Nat) : Prop where
  regs : RegsBut s t [Reg.CAN_STATUS n, Reg.CAN_EVT n, Reg.MSIX_PBA 0]
  hif : t.hif = s.hif
  out : s.out <+: t.out
  channel : t.canCh n = { s.canCh n with tecCnt := tec, recCnt := min rec 255 }
  bus : t.canBus n = errState tec rec
  stat : ∀ i, 2 ≤ i → t.canStat n i = s.canStat n i
  events : ∀ i, s.rbit (Reg.CAN_EVT n) i = true → t.rbit (Reg.CAN_EVT n) i = true

theorem errKept_errSet (s : State) {n : Nat} (hn : n < 8) {tec : Nat} (h : tec ≤ 256) (rec : Nat) : ErrKept s (s.errSet n tec rec) n tec rec := by
  have hne : ∀ n < 8, Reg.CAN_EVT n ∉ [Reg.CAN_STATUS n] := by decide
  refine ⟨(s.regs_errSet n tec rec).mono (by simp), rfl, List.prefix_rfl, ?_, s.canBus_errSet n tec rec, fun i hi => s.canStat_errSet n tec rec hi,
    fun i hi => (State.rbit_of_reg (s.regs_errSet n tec rec _ (hne n hn)) i).trans hi⟩
  rw [State.canCh_errSet, Nat.min_eq_left h]

theorem errKept_setErr (s : State) {n : Nat} (hn : n < 8) {tec : Nat} (h : tec ≤ 255) (rec : Nat) : ErrKept s (s.setErr n tec rec) n tec rec := by
  have hoff : ¬ errState tec rec = 3 := fun h3 => by have := errState_busOff.mp h3; omega
  have hset := errKept_errSet s hn (by omega : tec ≤ 256) rec
  rw [State.setErr_eq, if_neg hoff]
  split
  · have hne : ∀ n < 8, Reg.CAN_STATUS n ∉ [Reg.CAN_EVT n, Reg.MSIX_PBA 0] := by decide
    have hst : ((s.errSet n tec rec).raise (Reg.CAN_EVT n) 2).reg (Reg.CAN_STATUS n) = (s.errSet n tec rec).reg (Reg.CAN_STATUS n) :=
      regsBut_raise _ _ _ _ (hne n hn)
    obtain ⟨hr, ho, -, -, he⟩ := canPosted_raise (s.errSet n tec rec) hn 2
    exact ⟨hset.regs.trans (hr.mono (by simp)), (State.raise_hif _ _ _).trans hset.hif, hset.out.trans ho,
      (State.canCh_congr (State.raise_can _ _ _) n).trans hset.channel, (State.rfld_of_reg hst 0 2).trans hset.bus,
      fun i hi => (State.rbit_of_reg hst i).trans (hset.stat i hi), fun i hi => he i (hset.events i hi)⟩
  · exact hset

/-- What a change of the counters leaves in every case: the frames that stay are among those that waited. -/
structure ErrMoved (s t : State) (n tec rec : Nat) : Prop where
  regs : RegsBut s t (errRegs n)
  hif : ∃ u, t.hif = { s.hif with unsig := u }
  out : s.out <+: t.out
  channel : ∃ b e f, t.canCh n = { s.canCh n with tecCnt := min tec 256, recCnt := min rec 255, slots := (s.canCh n).slots.filter f, lostBefore := b, echoes := e }
  bus : t.canBus n = errState tec rec
  events : ∀ i, s.rbit (Reg.CAN_EVT n) i = true → t.rbit (Reg.CAN_EVT n) i = true
  entered : 255 < tec → t.reg (Reg.CAN_BUSOFF_CNT n) = satAdd (s.reg (Reg.CAN_BUSOFF_CNT n)) 1 ∧ t.rbit (Reg.CAN_EVT n) 0 = true
  quiet : s.reg (Reg.CAN_NOACK_RUN n) = 0 → s.canStat n CanStat.lonely = false → t.reg (Reg.CAN_NOACK_RUN n) = 0 ∧ t.canStat n CanStat.lonely = false

theorem ErrKept.moved {s t : State} {n tec rec : Nat} (h : ErrKept s t n tec rec) (hn : n < 8) (htec : tec ≤ 255) : ErrMoved s t n tec rec := by
  have hne : ∀ n < 8, Reg.CAN_NOACK_RUN n ∉ [Reg.CAN_STATUS n, Reg.CAN_EVT n, Reg.MSIX_PBA 0] := by decide
  refine ⟨h.regs.mono (by simp), ⟨s.hif.unsig, h.hif⟩, h.out, ⟨(s.canCh n).lostBefore, (s.canCh n).echoes, fun _ => true, ?_⟩, h.bus, h.events,
    fun hb => by omega, fun hq hl => ⟨(h.regs _ (hne n hn)).trans hq, (h.stat _ (by decide)).trans hl⟩⟩
  rw [h.channel, List.filter_eq_self.mpr (fun _ _ => rfl), Nat.min_eq_left (show tec ≤ 256 by omega)]

/-- What leaving the bus, or an acknowledgement, ends. -/
theorem State.canQuiet_quiet (s : State) (n : Nat) : RegsBut s (s.canQuiet n) [Reg.CAN_NOACK_RUN n, Reg.CAN_STATUS n]
    ∧ (s.canQuiet n).canBus n = s.canBus n ∧ (s.canQuiet n).reg (Reg.CAN_NOACK_RUN n) = 0 ∧ (s.canQuiet n).canStat n CanStat.lonely = false
    ∧ ∀ i, i ≠ CanStat.lonely → (s.canQuiet n).canStat n i = s.canStat n i := by
  have hbus : (s.setReg (Reg.CAN_NOACK_RUN n) 0).canBus n = s.canBus n := State.rfld_of_reg (regsBut_setReg _ _ _ _ (by simp)) 0 2
  refine ⟨(regsBut_setReg _ _ _).andThen (regsBut_setRegBit (s.setReg (Reg.CAN_NOACK_RUN n) 0) _ _ _),
    (State.rfld_setRegBit_ne _ _ _ _ _ _ _ (.inr (.inl (by decide)))).trans hbus, ?_, State.rbit_setRegBit_self _ _ _ _ (by decide), fun i hi => ?_⟩
  · refine (regsBut_setRegBit (s.setReg (Reg.CAN_NOACK_RUN n) 0) (Reg.CAN_STATUS n) _ _ _ (by simp)).trans ?_
    rw [State.reg_setReg, if_pos rfl]
  · refine (State.rbit_setRegBit_ne _ _ _ _ _ _ (.inr hi)).trans ?_
    exact State.rbit_of_reg (regsBut_setReg _ _ _ _ (by simp)) i

/-- Bus-off is entered. -/
theorem busOffEntered_entered (s : State) {n : Nat} (hn : n < 8) :
    RegsBut s (s.busOffEntered n) (errRegs n) ∧ (s.busOffEntered n).hif = s.hif ∧ s.out <+: (s.busOffEntered n).out
    ∧ (s.busOffEntered n).canCh n = s.canCh n ∧ (s.busOffEntered n).canBus n = s.canBus n
    ∧ (∀ i, s.rbit (Reg.CAN_EVT n) i = true → (s.busOffEntered n).rbit (Reg.CAN_EVT n) i = true)
    ∧ (s.busOffEntered n).reg (Reg.CAN_BUSOFF_CNT n) = satAdd (s.reg (Reg.CAN_BUSOFF_CNT n)) 1
    ∧ (s.busOffEntered n).rbit (Reg.CAN_EVT n) 0 = true
    ∧ (s.busOffEntered n).reg (Reg.CAN_NOACK_RUN n) = 0 ∧ (s.busOffEntered n).canStat n CanStat.lonely = false := by
  have hst : ∀ n < 8, Reg.CAN_STATUS n ∉ [Reg.CAN_BUSOFF_CNT n] ++ [Reg.CAN_EVT n, Reg.MSIX_PBA 0] := by decide
  have hcnt : ∀ n < 8, Reg.CAN_BUSOFF_CNT n ∉ [Reg.CAN_NOACK_RUN n, Reg.CAN_STATUS n] ∧ Reg.CAN_BUSOFF_CNT n ∉ [Reg.CAN_EVT n, Reg.MSIX_PBA 0] := by decide
  have hevt : ∀ n < 8, Reg.CAN_EVT n ∉ [Reg.CAN_NOACK_RUN n, Reg.CAN_STATUS n] ∧ Reg.CAN_EVT n ∉ [Reg.CAN_BUSOFF_CNT n]
      ∧ Reg.CAN_EVT n ≠ Reg.MSIX_PBA 0 := by decide
  unfold State.busOffEntered
  have hr1 := regsBut_bump s (Reg.CAN_BUSOFF_CNT n)
  have hr2 := regsBut_raise (s.bump (Reg.CAN_BUSOFF_CNT n)) (Reg.CAN_EVT n) 1
  have hraise := canPosted_raise (s.bump (Reg.CAN_BUSOFF_CNT n)) hn 1
  have hset := State.rbit_raise_self (s.bump (Reg.CAN_BUSOFF_CNT n)) (Reg.CAN_EVT n) 1 0 (hevt n hn).2.2 (by decide)
  have hif : ((s.bump (Reg.CAN_BUSOFF_CNT n)).raise (Reg.CAN_EVT n) 1).hif = s.hif := State.raise_hif _ _ _
  have hcan : ((s.bump (Reg.CAN_BUSOFF_CNT n)).raise (Reg.CAN_EVT n) 1).can = s.can := State.raise_can _ _ _
  have hbump : (s.bump (Reg.CAN_BUSOFF_CNT n)).reg (Reg.CAN_BUSOFF_CNT n) = satAdd (s.reg (Reg.CAN_BUSOFF_CNT n)) 1 := by rw [State.reg_bump, if_pos rfl]
  have hr12 := hr1.andThen hr2
  have hevents : ∀ i, s.rbit (Reg.CAN_EVT n) i = true → ((s.bump (Reg.CAN_BUSOFF_CNT n)).raise (Reg.CAN_EVT n) 1).rbit (Reg.CAN_EVT n) i = true :=
    fun i hi => hraise.events i ((State.rbit_of_reg (hr1 _ (hevt n hn).2.1) i).trans hi)
  have hout : s.out <+: ((s.bump (Reg.CAN_BUSOFF_CNT n)).raise (Reg.CAN_EVT n) 1).out := hraise.out
  have hraised := (hr2 _ (hcnt n hn).2).trans hbump
  generalize (s.bump (Reg.CAN_BUSOFF_CNT n)).raise (Reg.CAN_EVT n) 1 = u at *
  obtain ⟨hq, hbus, hrun, hl, -⟩ := u.canQuiet_quiet n
  refine ⟨(hr12.andThen hq).mono (by simp), hif, hout, State.canCh_congr hcan n, hbus.trans (State.rfld_of_reg (hr12 _ (hst n hn)) 0 2),
    fun i hi => (State.rbit_of_reg (hq _ (hevt n hn).1) i).trans (hevents i hi), (hq _ (hcnt n hn).1).trans hraised,
    (State.rbit_of_reg (hq _ (hevt n hn).1) 0).trans hset, hrun, hl⟩

theorem busOffLeft_left (s : State) {n : Nat} (hn : n < 8) :
    CanPosted (s.framesOut n (fun t => !t.inTx && s.oneShot n t)) (s.busOffLeft n) n (errRegs n) ∧ (s.busOffLeft n).canBus n = s.canBus n
    ∧ (s.busOffLeft n).reg (Reg.CAN_BUSOFF_CNT n) = s.reg (Reg.CAN_BUSOFF_CNT n)
    ∧ (s.busOffLeft n).reg (Reg.CAN_NOACK_RUN n) = s.reg (Reg.CAN_NOACK_RUN n) ∧ (s.busOffLeft n).canStat n CanStat.lonely = s.canStat n CanStat.lonely := by
  have hkept : ∀ n < 8, Reg.CAN_STATUS n ∉ outcomeRegs n ∧ Reg.CAN_BUSOFF_CNT n ∉ outcomeRegs n ∧ Reg.CAN_NOACK_RUN n ∉ outcomeRegs n := by decide
  have hst : ∀ n < 8, Reg.CAN_BUSOFF_CNT n ∉ [Reg.CAN_STATUS n] ∧ Reg.CAN_NOACK_RUN n ∉ [Reg.CAN_STATUS n] ∧ Reg.CAN_EVT n ∉ [Reg.CAN_STATUS n] := by decide
  obtain ⟨hks, hkb, hkn⟩ := hkept n hn
  obtain ⟨hsb, hsn, hse⟩ := hst n hn
  have hp := canPosted_endFrames s hn (fun t => !t.inTx && s.oneShot n t) TxOut.busOff
  unfold State.busOffLeft
  dsimp only
  generalize s.endFrames n (fun t => !t.inTx && s.oneShot n t) TxOut.busOff = u at hp ⊢
  have hstatus : u.reg (Reg.CAN_STATUS n) = s.reg (Reg.CAN_STATUS n) := hp.regs _ hks
  split
  · have hr := regsBut_setRegBit u (Reg.CAN_STATUS n) CanStat.recovering true
    refine ⟨(hp.mono (by simp)).trans ((CanPosted.of_regs hr rfl rfl rfl hse).mono (by simp)),
      (State.rfld_setRegBit_ne _ _ _ _ _ _ _ (.inr (.inl (by decide)))).trans (State.rfld_of_reg hstatus 0 2),
      (hr _ hsb).trans (hp.regs _ hkb), (hr _ hsn).trans (hp.regs _ hkn), ?_⟩
    exact (State.rbit_setRegBit_ne _ _ _ _ _ _ (.inr (by decide))).trans (State.rbit_of_reg hstatus _)
  · exact ⟨hp.mono (by simp), State.rfld_of_reg hstatus 0 2, hp.regs _ hkb, hp.regs _ hkn, State.rbit_of_reg hstatus _⟩

theorem errMoved_setErr (s : State) {n : Nat} (hn : n < 8) (tec rec : Nat) : ErrMoved s (s.setErr n tec rec) n tec rec := by
  by_cases htec : tec ≤ 255
  · exact (errKept_setErr s hn htec rec).moved hn htec
  · rw [State.setErr_eq, if_pos (errState_busOff.mpr (by omega))]
    have hset := s.regs_errSet n tec rec
    have hch := s.canCh_errSet n tec rec
    have hbus := s.canBus_errSet n tec rec
    have hst : ∀ n < 8, Reg.CAN_EVT n ∉ [Reg.CAN_STATUS n] ∧ Reg.CAN_BUSOFF_CNT n ∉ [Reg.CAN_STATUS n] := by decide
    obtain ⟨hse, hsb⟩ := hst n hn
    have hif : (s.errSet n tec rec).hif = s.hif := rfl
    have ho : (s.errSet n tec rec).out = s.out := rfl
    generalize s.errSet n tec rec = u at hset hch hbus hif ho ⊢
    obtain ⟨hr2, hif2, ho2, hch2, hbus2, hevt2, hcnt2, hoff2, hrun2, hl2⟩ := busOffEntered_entered u hn
    generalize u.busOffEntered n = v at hr2 hif2 ho2 hch2 hbus2 hevt2 hcnt2 hoff2 hrun2 hl2 ⊢
    obtain ⟨⟨hr3, ho3, ⟨x, hif3⟩, ⟨b, e, hch3⟩, hevt3⟩, hbus3, hcnt3, hrun3, hl3⟩ := busOffLeft_left v hn
    have hout : s.out <+: (v.busOffLeft n).out := by
      rw [← ho]
      exact ho2.trans ho3
    refine ⟨((hset.mono (by simp)).trans hr2).trans hr3, ⟨x, ?_⟩, hout, ⟨b, e, fun t => !(!t.inTx && v.oneShot n t), ?_⟩, hbus3.trans (hbus2.trans hbus),
      fun i hi => hevt3 i (hevt2 i ((State.rbit_of_reg (hset _ hse) i).trans hi)), fun _ => ⟨?_, hevt3 0 hoff2⟩, fun _ _ => ⟨hrun3.trans hrun2, hl3.trans hl2⟩⟩
    · rw [hif3]
      show { v.hif with unsig := x } = _
      rw [hif2, hif]
    · rw [hch3, State.framesOut, State.canCh_updCan, hch2, hch]
    · rw [hcnt3, hcnt2, hset _ hsb]

end

end Sys2Proof.Machine

/-! PROOFS. CAN frames received, the filter walk, protocol exceptions and bus errors (R376, R388, R390, R391, R394). -/

namespace Sys2Proof.Machine

section

variable {s : State} {n : Nat}

/-! ## Reception -/

/-- A good reception changes the error counters at most. -/
theorem State.goodRx_kept (s : State) (hn : n < 8) : RegsBut s (s.goodRx n) (errRegs n)
    ∧ ((s.goodRx n).canCh n).rxFifo = (s.canCh n).rxFifo ∧ ((s.goodRx n).canCh n).seq = (s.canCh n).seq := by
  have herr : ∀ (u : State) tec rec, u.can = s.can → RegsBut s u (errRegs n) → RegsBut s (u.setErr n tec rec) (errRegs n)
      ∧ ((u.setErr n tec rec).canCh n).rxFifo = (s.canCh n).rxFifo ∧ ((u.setErr n tec rec).canCh n).seq = (s.canCh n).seq := by
    intro u tec rec hu hr
    obtain ⟨b, e, f, hch⟩ := (errMoved_setErr u hn tec rec).channel
    rw [hch, State.canCh_congr hu]
    exact ⟨hr.trans (errMoved_setErr u hn tec rec).regs, rfl, rfl⟩
  unfold State.goodRx
  dsimp only
  split
  · exact ⟨.refl _ _, rfl, rfl⟩
  · split
    · exact ⟨.refl _ _, rfl, rfl⟩
    · split
      · exact herr s _ _ rfl (.refl _ _)
      · exact herr s.draw.2 _ _ rfl (.of_regs rfl rfl _)

/-- A frame counted and numbered. -/
def State.rxCounted (s : State) (n : Nat) : State :=
  ((s.goodRx n).bump (Reg.CAN_RX_CNT n)).updCan n (fun c => { c with seq := (((s.goodRx n).bump (Reg.CAN_RX_CNT n)).canCh n).seq + 1 })

theorem State.canReceive_takes {f : CanFrame} (hm : s.mgmt = Node.run) (hon : s.canOn n = true) (hfd : frameFd f = true → s.canFd n = true) :
    s.canReceive n f = if ((s.rxCounted n).canCh n).rxFifo.length < 16 then
      { (s.rxCounted n).updCan n (fun c => { c with rxFifo := c.rxFifo ++ [(f, (s.rxCounted n).now, (((s.goodRx n).bump (Reg.CAN_RX_CNT n)).canCh n).seq + 1)] })
        with canWalk := (s.rxCounted n).canWalk ++ [n] }
    else (((s.rxCounted n).bump (Reg.CAN_RX_FIFO_OVF_CNT n)).raise (Reg.CAN_EVT n) 0x10).markLoss (mkSource 4 n) := by
  refine if_neg ?_
  simp only [hm, hon, bne_self_eq_false, Bool.not_true, Bool.false_or, Bool.and_eq_true, Bool.not_eq_true', not_and, Bool.not_eq_false]
  exact fun h => by simpa using hfd h

theorem State.rxCounted_kept (s : State) (hn : n < 8) : RegsBut s (s.rxCounted n) (Reg.CAN_RX_CNT n :: errRegs n)
    ∧ (s.rxCounted n).reg (Reg.CAN_RX_CNT n) = satAdd (s.reg (Reg.CAN_RX_CNT n)) 1
    ∧ ((s.rxCounted n).canCh n).rxFifo = (s.canCh n).rxFifo ∧ (s.rxCounted n).canWalk = s.canWalk ∧ (s.rxCounted n).now = s.now := by
  have hrx : ∀ n < 8, Reg.CAN_RX_CNT n ∉ errRegs n := by decide
  obtain ⟨hr, hf, -⟩ := s.goodRx_kept hn
  have hp : PartsBut s (s.goodRx n) [.regs, .hif, .can, .gecko, .free] :=
    fun z hz => same_of_foot [.regs, .hif, .can, .gecko, .free] (fun _ _ => goodRx_foot _ _ (.refl s)) z hz
  unfold State.rxCounted
  generalize s.goodRx n = u at hr hf hp ⊢
  refine ⟨(hr.mono (by simp)).trans ((RegsBut.trans (regsBut_bump u _) (.of_regs rfl rfl _)).mono (by simp)), ?_, ?_, hp .canWalk (by decide), ?_⟩
  · show (u.bump _).reg _ = _
    rw [State.reg_bump, if_pos rfl, hr _ (hrx n hn)]
  · rw [State.canCh_updCan]
    exact hf
  · exact (State.now_congr (s := u) rfl).trans (State.now_congr (hp .ws (by decide)))

theorem State.canReceive_fifo {f : CanFrame} (hn : n < 8) (hm : s.mgmt = Node.run) (hon : s.canOn n = true)
    (hfd : frameFd f = true → s.canFd n = true) (hroom : (s.canCh n).rxFifo.length < 16) :
    (s.canReceive n f).reg (Reg.CAN_RX_CNT n) = satAdd (s.reg (Reg.CAN_RX_CNT n)) 1
    ∧ ((s.canReceive n f).canCh n).rxFifo = (s.canCh n).rxFifo ++ [(f, s.now, (s.canCh n).seq + 1)]
    ∧ (s.canReceive n f).canWalk = s.canWalk ++ [n] := by
  obtain ⟨-, hcnt, hfifo, hwalk, hnow⟩ := s.rxCounted_kept hn
  rw [State.canReceive_takes hm hon hfd, if_pos (by rw [hfifo]; exact hroom)]
  have hseq : (((s.goodRx n).bump (Reg.CAN_RX_CNT n)).canCh n).seq = (s.canCh n).seq := (s.goodRx_kept hn).2.2
  generalize s.rxCounted n = u at hcnt hfifo hwalk hnow ⊢
  rw [hseq, hnow, hwalk]
  refine ⟨hcnt, ?_, rfl⟩
  refine (congrArg Can.rxFifo (State.canCh_updCan u n (fun c => { c with rxFifo := c.rxFifo ++ [(f, s.now, (s.canCh n).seq + 1)] }))).trans ?_
  rw [hfifo]

theorem State.canReceive_lost {f : CanFrame} (hn : n < 8) (hm : s.mgmt = Node.run) (hon : s.canOn n = true)
    (hfd : frameFd f = true → s.canFd n = true) (hfull : 16 ≤ (s.canCh n).rxFifo.length) :
    ((s.canReceive n f).canCh n).rxFifo = (s.canCh n).rxFifo
    ∧ (s.canReceive n f).reg (Reg.CAN_RX_FIFO_OVF_CNT n) = satAdd (s.reg (Reg.CAN_RX_FIFO_OVF_CNT n)) 1
    ∧ (s.canReceive n f).inlet.lost.contains (mkSource 4 n).toNat = true := by
  have hovf : ∀ n < 8, Reg.CAN_RX_FIFO_OVF_CNT n ∉ Reg.CAN_RX_CNT n :: errRegs n ∧ Reg.CAN_RX_FIFO_OVF_CNT n ∉ [Reg.CAN_EVT n, Reg.MSIX_PBA 0] := by decide
  obtain ⟨hr, -, hfifo, -, -⟩ := s.rxCounted_kept hn
  rw [State.canReceive_takes hm hon hfd, if_neg (by rw [hfifo]; omega)]
  generalize s.rxCounted n = u at hr hfifo ⊢
  have hloss : PartsBut ((u.bump (Reg.CAN_RX_FIFO_OVF_CNT n)).raise (Reg.CAN_EVT n) 0x10)
      (((u.bump (Reg.CAN_RX_FIFO_OVF_CNT n)).raise (Reg.CAN_EVT n) 0x10).markLoss (mkSource 4 n)) [.inlet] :=
    fun z hz => same_of_foot [.inlet] (fun _ _ => markLoss_foot _ _ (.refl _)) z hz
  refine ⟨?_, ?_, State.markLoss_self _ _⟩
  · rw [State.canCh_congr (hloss .can (by decide)), State.canCh_congr (State.raise_can _ _ _)]
    exact hfifo
  · rw [State.reg_congr (hloss .regs (by decide)) (hloss .behavBoot (by decide)), regsBut_raise _ _ _ _ (hovf n hn).2, State.reg_bump,
      if_pos rfl, hr _ (hovf n hn).1]

/-! ## The filter walk -/

theorem Zone.same_trans {z : Zone} {s t u : State} (h : z.same s t) (k : z.same t u) : z.same s u := by
  cases z <;> exact Eq.trans k h

theorem State.tarnSee_congr {s t : State} (h : t.tarn = s.tarn) (hg : t.gecko = s.gecko) (o k : Nat) : t.tarnSee o k = s.tarnSee o k := by
  rw [State.tarnSee, State.tarnSee, State.tarnRead, State.tarnRead, h, hg]

theorem State.walk_congr {s t : State} (h : t.tarn = s.tarn) (hg : t.gecko = s.gecko) (f : CanFrame) (base k i : Nat) (w : Walk) :
    t.walk f base k i w = s.walk f base k i w := by
  have hfilt : ∀ j, t.filt j = s.filt j := fun j => by rw [State.filt, State.filt, State.tarnSee_congr h hg]
  induction k generalizing i w with
  | zero => rfl
  | succ k ih => rw [State.walk, State.walk, hfilt, ih, ih]

/-- The frame that ended first has left the FIFO. -/
def State.walkTaken (s : State) (n : Nat) (rest : List Nat) (l : List (CanFrame × U64 × U32)) : State :=
  { s with canWalk := rest }.updCan n (fun c => { c with rxFifo := l, echoes := c.echoes.map Echo.nearer })

/-- What the walk counts. -/
def State.walkCounted (s : State) (n : Nat) (w : Walk) : State :=
  let s := (s.bump Reg.CAN_WALK_CNT).recordMax (Reg.CAN_WALK_MAX n) ((w.read + 3) / 4 * 5)
  if w.bad = 0 then s else (s.bumpBy (Reg.CAN_FILT_BAD_CNT n) w.bad).raise (Reg.CAN_EVT n) 0x80

theorem State.walkNext_takes {rest : List Nat} {f : CanFrame} {time : U64} {q : U32} {l : List (CanFrame × U64 × U32)}
    (hw : s.canWalk = n :: rest) (hf : (s.canCh n).rxFifo = (f, time, q) :: l) :
    s.walkNext = (((s.walkTaken n rest l).walkCounted n (s.walk f (s.filtWalked n).1 (s.filtWalked n).2 0 { })).route n f time q
      (s.walk f (s.filtWalked n).1 (s.filtWalked n).2 0 { })).echoesDue n := by
  have hwalked : (s.walkTaken n rest l).filtWalked n = s.filtWalked n := by
    have hch : ((s.walkTaken n rest l).canCh n).oldWalk = (s.canCh n).oldWalk :=
      by
      rw [State.walkTaken, State.canCh_updCan]
      rfl
    rw [State.filtWalked, State.filtWalked, hch]
    rfl
  have hwalk : ∀ b : Nat × Nat, (s.walkTaken n rest l).walk f b.1 b.2 0 { } = s.walk f b.1 b.2 0 { } := fun b => State.walk_congr (s := s) (t := s.walkTaken n rest l) rfl rfl f _ _ _ _
  rw [← hwalk, ← hwalked]
  unfold State.walkNext
  rw [hw]
  dsimp only
  rw [hf]
  rfl

/-- What the walk counts changes three registers and CAN_EVT. -/
theorem State.walkCounted_kept (s : State) (hn : n < 8) (w : Walk) :
    RegsBut s (s.walkCounted n w) [Reg.CAN_WALK_CNT, Reg.CAN_WALK_MAX n, Reg.CAN_FILT_BAD_CNT n, Reg.CAN_EVT n, Reg.MSIX_PBA 0]
    ∧ (s.walkCounted n w).reg Reg.CAN_WALK_CNT = satAdd (s.reg Reg.CAN_WALK_CNT) 1
    ∧ PartsBut s (s.walkCounted n w) [.regs] := by
  have hne : ∀ n < 8, Reg.CAN_WALK_CNT ∉ [Reg.CAN_WALK_MAX n] ∧ Reg.CAN_WALK_CNT ∉ [Reg.CAN_FILT_BAD_CNT n]
      ∧ Reg.CAN_WALK_CNT ∉ [Reg.CAN_EVT n, Reg.MSIX_PBA 0] := by decide
  obtain ⟨hmax, hbad, hevt⟩ := hne n hn
  have hr := (regsBut_bump s Reg.CAN_WALK_CNT).andThen (regsBut_recordMax (s.bump Reg.CAN_WALK_CNT) (Reg.CAN_WALK_MAX n) ((w.read + 3) / 4 * 5))
  have hcnt : ((s.bump Reg.CAN_WALK_CNT).recordMax (Reg.CAN_WALK_MAX n) ((w.read + 3) / 4 * 5)).reg Reg.CAN_WALK_CNT
      = satAdd (s.reg Reg.CAN_WALK_CNT) 1 := by
    rw [regsBut_recordMax _ _ _ _ hmax, State.reg_bump, if_pos rfl]
  have hp : PartsBut s ((s.bump Reg.CAN_WALK_CNT).recordMax (Reg.CAN_WALK_MAX n) ((w.read + 3) / 4 * 5)) [.regs] :=
    fun z hz => same_of_foot [.regs] (fun _ _ => recordMax_foot _ _ _ (bump_foot _ _ (.refl s))) z hz
  unfold State.walkCounted
  dsimp only
  generalize (s.bump Reg.CAN_WALK_CNT).recordMax (Reg.CAN_WALK_MAX n) ((w.read + 3) / 4 * 5) = u at hr hcnt hp ⊢
  split
  · exact ⟨hr.mono (by simp), hcnt, hp⟩
  · have hb : RegsBut u (u.bumpBy (Reg.CAN_FILT_BAD_CNT n) w.bad) [Reg.CAN_FILT_BAD_CNT n] := regsBut_setReg _ _ _
    refine ⟨((hr.andThen hb).andThen (regsBut_raise _ _ _)).mono (by simp), ?_, fun z hz => ?_⟩
    · rw [regsBut_raise _ _ _ _ hevt, hb _ hbad, hcnt]
    · refine Zone.same_trans (hp z hz) ?_
      exact same_of_foot [.regs] (fun _ _ => raise_foot _ _ _ (bumpBy_foot _ _ _ (.refl u))) z hz

/-- A walked frame leaves the walk's count and the FIFO behind it alone. -/
structure Routed (s t : State) (n : Nat) : Prop where
  count : t.reg Reg.CAN_WALK_CNT = s.reg Reg.CAN_WALK_CNT
  fifo : (t.canCh n).rxFifo = (s.canCh n).rxFifo

theorem Routed.trans {t u : State} (h : Routed s t n) (k : Routed t u n) : Routed s u n := ⟨k.count.trans h.count, k.fifo.trans h.fifo⟩

theorem CanPosted.routed {t : State} {os : List Off} (h : CanPosted s t n os) (hos : Reg.CAN_WALK_CNT ∉ os) : Routed s t n := by
  obtain ⟨b, e, hch⟩ := h.channel
  exact ⟨h.regs _ hos, by rw [hch]⟩

theorem routed_bump (s : State) {o : Off} (n : Nat) (ho : Reg.CAN_WALK_CNT ∉ [o]) : Routed s (s.bump o) n := ⟨regsBut_bump s o _ ho, rfl⟩

theorem walkCnt_posted : ∀ n < 8, Reg.CAN_WALK_CNT ∉ canRingRegs n := by decide

theorem routed_canToRing (s : State) (hn : n < 8) (f : CanFrame) (time : U64) (q : U32) (filter : Nat) : Routed s (s.canToRing n f time q filter) n := by
  have hcnt : ∀ n < 8, Reg.CAN_WALK_CNT ∉ [Reg.CAN_RX_RING_CNT n] := by decide
  unfold State.canToRing
  dsimp only
  split
  · exact ((canPosted_canRing s hn _).routed (walkCnt_posted n hn)).trans (routed_bump _ n (hcnt n hn))
  · exact (canPosted_canRing s hn _).routed (walkCnt_posted n hn)

theorem routed_canExtract (s : State) (hn : n < 8) (f : CanFrame) (time : U64) (e : FiltElem) : Routed s (s.canExtract n f time e) n := by
  have hcnt : ∀ n < 8, Reg.CAN_WALK_CNT ∉ [Reg.CAN_RX_EXTRACT_CNT n] := by decide
  have hevt : ∀ n < 8, Reg.CAN_WALK_CNT ∉ [Reg.CAN_EVT n, Reg.MSIX_PBA 0] := by decide
  have hoffer : ∀ r, Routed s (s.offer (Place.can n) r) n := fun r =>
    ⟨s.reg_offer_high _ r (by decide), congrArg Can.rxFifo (State.canCh_congr (same_of_foot [.regs, .inlet, .gecko] (fun _ _ => offer_foot _ _ _ (.refl s)) .can) n)⟩
  unfold State.canExtract
  dsimp only
  split
  · exact ((hoffer _).trans (routed_bump _ n (hcnt n hn))).trans
      ⟨regsBut_raise _ _ _ _ (hevt n hn), congrArg Can.rxFifo (State.canCh_congr (State.raise_can _ _ _) n)⟩
  · exact (hoffer _).trans (routed_bump _ n (hcnt n hn))

theorem routed_route (s : State) (hn : n < 8) (f : CanFrame) (time : U64) (q : U32) (w : Walk) : Routed s (s.route n f time q w) n := by
  have hcnt : ∀ n < 8, Reg.CAN_WALK_CNT ∉ [Reg.CAN_RX_REJECT_CNT n] := by decide
  have hreject := routed_bump s n (hcnt n hn)
  unfold State.route
  dsimp only
  split
  · split
    · exact routed_canToRing s hn _ _ _ _
    · exact hreject
  · split
    · exact routed_canToRing s hn _ _ _ _
    · split
      · exact hreject
      · exact routed_canExtract s hn _ _ _
    · split
      · exact routed_canToRing s hn _ _ _ _
      · exact (routed_canToRing s hn _ _ _ _).trans (routed_canExtract _ hn _ _ _)
    · exact hreject

/-- The walk of the frame that ended first, with its outcome. -/
structure Walked (s t : State) (n : Nat) (rest : List Nat) (f : CanFrame) (time : U64) (l : List (CanFrame × U64 × U32)) (w : Walk) : Prop where
  next : t.canWalk = rest
  fifo : (t.canCh n).rxFifo = l
  count : t.reg Reg.CAN_WALK_CNT = satAdd (s.reg Reg.CAN_WALK_CNT) 1
  reject : w.found = none → s.rbit (Reg.CAN_CFG n) 7 = false →
    t.reg (Reg.CAN_RX_REJECT_CNT n) = satAdd (s.reg (Reg.CAN_RX_REJECT_CNT n)) 1 ∧ t.inlet = s.inlet
  extract : ∀ (i : Nat) (e : FiltElem), w.found = some (i, e) → e.action = 2 → frameRtr f = false → s.hasCredit (Place.can n) = true →
    ∃ r : InRec, t.inlet.waiting = s.inlet.waiting ++ [(Place.can n, r)] ∧ r.kind = Kind.canFrame ∧ r.time = time
      ∧ r.payload = framePayload f e

theorem State.canExtract_offers (s : State) (f : CanFrame) (time : U64) (e : FiltElem) (hc : s.hasCredit (Place.can n) = true) :
    ∃ r : InRec, (s.canExtract n f time e).inlet.waiting = s.inlet.waiting ++ [(Place.can n, r)] ∧ r.kind = Kind.canFrame ∧ r.time = time
      ∧ r.payload = framePayload f e := by
  let r : InRec := { time := time, source := mkSource 4 n, kind := Kind.canFrame, payload := framePayload f e,
                     ext := frameData (frameFd f) (frameRtr f) f.dlc.toNat f.data }
  obtain ⟨k, hw, -⟩ := s.offer_credit r hc
  refine ⟨{ r with ssn := k }, ?_, rfl, rfl, rfl⟩
  refine Eq.trans (congrArg Inlet.waiting ?_) hw
  unfold State.canExtract
  dsimp only
  rw [hc, if_neg (by decide)]
  exact State.bump_inlet _ _

theorem walked_walkNext {rest : List Nat} {f : CanFrame} {time : U64} {q : U32} {l : List (CanFrame × U64 × U32)} (hn : n < 8)
    (hw : s.canWalk = n :: rest) (hf : (s.canCh n).rxFifo = (f, time, q) :: l) :
    Walked s s.walkNext n rest f time l (s.walk f (s.filtWalked n).1 (s.filtWalked n).2 0 { }) := by
  have hrej : ∀ n < 8, Reg.CAN_RX_REJECT_CNT n ∉ [Reg.CAN_WALK_CNT, Reg.CAN_WALK_MAX n, Reg.CAN_FILT_BAD_CNT n, Reg.CAN_EVT n, Reg.MSIX_PBA 0]
      ∧ Reg.CAN_CFG n ∉ [Reg.CAN_WALK_CNT, Reg.CAN_WALK_MAX n, Reg.CAN_FILT_BAD_CNT n, Reg.CAN_EVT n, Reg.MSIX_PBA 0]
      ∧ Reg.CAN_RX_REJECT_CNT n ∉ canRingRegs n := by decide
  obtain ⟨hrc, hcc, hrr⟩ := hrej n hn
  rw [State.walkNext_takes hw hf]
  generalize s.walk f (s.filtWalked n).1 (s.filtWalked n).2 0 { } = w
  have hfifo : ((s.walkTaken n rest l).canCh n).rxFifo = l := by rw [State.walkTaken, State.canCh_updCan]
  have hregs : ∀ o, (s.walkTaken n rest l).reg o = s.reg o := fun _ => rfl
  have hnext : (s.walkTaken n rest l).canWalk = rest := rfl
  have hin : (s.walkTaken n rest l).inlet = s.inlet := rfl
  generalize s.walkTaken n rest l = a at hfifo hregs hnext hin ⊢
  obtain ⟨hr, hcnt, hp⟩ := a.walkCounted_kept hn w
  generalize a.walkCounted n w = b at hr hcnt hp ⊢
  have hbin : b.inlet = s.inlet := (hp .inlet (by decide)).trans hin
  have hrt := (routed_route b hn f time q w).trans ((canPosted_echoesDue (b.route n f time q w) hn).routed (walkCnt_posted n hn))
  have hwalk : ((b.route n f time q w).echoesDue n).canWalk = b.canWalk :=
    same_of_foot [.regs, .inlet, .hif, .can, .gecko] (fun _ _ => echoesDue_foot _ _ (route_foot _ _ _ _ _ _ (.refl b))) .canWalk
  have hdue : ∀ u : State, (u.echoesDue n).inlet = u.inlet := fun u =>
    same_of_foot [.regs, .hif, .can, .gecko] (fun _ _ => echoesDue_foot _ _ (.refl u)) .inlet
  refine ⟨hwalk.trans ((hp .canWalk (by decide)).trans hnext), ?_, ?_, fun hnone hcfg => ?_, fun i e hfound hact hrtr hc => ?_⟩
  · rw [hrt.fifo, State.canCh_congr (hp .can (by decide)), hfifo]
  · rw [hrt.count, hcnt, hregs]
  · have hroute : b.route n f time q w = b.bump (Reg.CAN_RX_REJECT_CNT n) := by
      unfold State.route
      dsimp only
      rw [hnone]
      exact if_neg (by rw [State.rbit_of_reg (hr _ hcc), State.rbit_of_reg (hregs _), hcfg]; decide)
    rw [hroute, hdue, State.bump_inlet, (canPosted_echoesDue _ hn).regs _ hrr, State.reg_bump, if_pos rfl, hr _ hrc, hregs]
    exact ⟨rfl, hbin⟩
  · have hroute : b.route n f time q w = b.canExtract n f time e := by
      unfold State.route
      dsimp only
      rw [hfound]
      dsimp only
      rw [hact]
      exact if_neg (by rw [hrtr]; decide)
    have hcredit : b.hasCredit (Place.can n) = true := by
      rw [State.hasCredit, hbin]
      exact hc
    rw [hroute, hdue]
    obtain ⟨r, hwait, hr⟩ := b.canExtract_offers f time e hcredit
    exact ⟨r, by rw [hwait, hbin], hr⟩

/-! ## Errors on the bus -/

theorem ends_protocolException (hn : n < 8) (hm : s.mgmt = Node.run) (hon : s.canOn n = true) (hfd : s.canFd n = false) :
    Ends (.protocolException n) s (fun t => t.canBus n = 0 ∧ t.canStat n CanStat.integrating = true
      ∧ t.rbit (Reg.CAN_EVT n) 9 = true ∧ t.can = s.can) := by
  have hst : ∀ n < 8, Reg.CAN_STATUS n ∉ [Reg.CAN_EVT n, Reg.MSIX_PBA 0] ∧ Reg.CAN_EVT n ≠ Reg.MSIX_PBA 0 := by decide
  obtain ⟨hs, he⟩ := hst n hn
  let u := (s.fresh.setCanBus n 0).setCanStat n CanStat.integrating true
  have hgo : (s.fresh.mgmt == Node.run && s.fresh.canOn n && !s.fresh.canFd n) = true := by
    have hmgmt : s.fresh.mgmt = Node.run := hm
    have hon' : s.fresh.canOn n = true := hon
    have hfd' : s.fresh.canFd n = false := hfd
    rw [hmgmt, hon', hfd']
    rfl
  have hstatus : (u.raise (Reg.CAN_EVT n) 0x200).reg (Reg.CAN_STATUS n) = u.reg (Reg.CAN_STATUS n) := regsBut_raise _ _ _ _ hs
  refine ⟨u.raise (Reg.CAN_EVT n) 0x200, (need_of (decide_eq_true hn) _).trans (congrArg Host.Outcome.next (if_pos hgo)),
    (State.rfld_of_reg hstatus 0 2).trans ?_, (State.rbit_of_reg hstatus _).trans ?_, State.rbit_raise_self _ _ _ _ he (by decide), State.raise_can _ _ _⟩
  · exact (State.rfld_setRegBit_ne _ _ _ _ _ _ _ (.inr (.inl (by decide)))).trans (State.rfld_setRegFld_self _ _ _ _ _ (by decide))
  · exact State.rbit_setRegBit_self _ _ _ _ (by decide)

/-- An error frame counted, and its code shown. -/
theorem regsBut_errFrame (s : State) (n code : Nat) (dp : Bool) : RegsBut s (s.errFrame n code dp) [Reg.CAN_ERR_FRAME_CNT n, Reg.CAN_LAST_ERR n] :=
  (regsBut_bump s (Reg.CAN_ERR_FRAME_CNT n)).andThen (regsBut_setReg _ _ _)

theorem State.errFrame_shows (s : State) (n code : Nat) (dp : Bool) :
    (s.errFrame n code dp).reg (Reg.CAN_ERR_FRAME_CNT n) = satAdd (s.reg (Reg.CAN_ERR_FRAME_CNT n)) 1
    ∧ (s.errFrame n code dp).reg (Reg.CAN_LAST_ERR n) = packU32 [(code, 0), (b2n dp, 3)] := by
  refine ⟨?_, (State.reg_setReg _ _ _ _).trans (if_pos rfl)⟩
  exact (regsBut_setReg _ _ _ _ (by simp)).trans ((State.reg_bump _ _ _).trans (if_pos rfl))

/-- The error frame that an error seen as receiver has, where it has one. -/
def State.rxErrShown (s : State) (n : Nat) (err : CanErr) : State := if err.code = 0 then s else s.errFrame n err.code.toNat err.dataPhase

theorem State.rxErrShown_shown (s : State) (n : Nat) (err : CanErr) : RegsBut s (s.rxErrShown n err) [Reg.CAN_ERR_FRAME_CNT n, Reg.CAN_LAST_ERR n]
    ∧ (s.rxErrShown n err).can = s.can
    ∧ (s.rxErrShown n err).reg (Reg.CAN_ERR_FRAME_CNT n)
      = (if err.code = 0 then s.reg (Reg.CAN_ERR_FRAME_CNT n) else satAdd (s.reg (Reg.CAN_ERR_FRAME_CNT n)) 1)
    ∧ (err.code ≠ 0 → (s.rxErrShown n err).reg (Reg.CAN_LAST_ERR n) = packU32 [(err.code.toNat, 0), (b2n err.dataPhase, 3)]) := by
  unfold State.rxErrShown
  split
  next h => exact ⟨.refl _ _, rfl, rfl, fun hne => absurd h hne⟩
  next h =>
    obtain ⟨hc, hl⟩ := s.errFrame_shows n err.code.toNat err.dataPhase
    exact ⟨regsBut_errFrame _ _ _ _, rfl, hc, fun _ => hl⟩

theorem ends_canBusError_receiver {err : CanErr} (hn : n < 8) (hm : s.mgmt = Node.run) (hrx : err.asTransmitter = false) (hon : s.canOn n = true)
    (hmon : s.canMonitor n = false) :
    Ends (.canBusError n err) s (fun t =>
      (t.canCh n).recCnt = min ((s.canCh n).recCnt + (if err.stepsOnly then 0 else 1) + 8 * err.flagSteps) 255
      ∧ (t.canCh n).tecCnt = min (s.canCh n).tecCnt 256
      ∧ t.reg (Reg.CAN_ERR_FRAME_CNT n) =
          (if err.code = 0 then s.reg (Reg.CAN_ERR_FRAME_CNT n) else satAdd (s.reg (Reg.CAN_ERR_FRAME_CNT n)) 1)
      ∧ (err.code ≠ 0 → t.reg (Reg.CAN_LAST_ERR n) = packU32 [(err.code.toNat, 0), (b2n err.dataPhase, 3)])
      ∧ t.canBus n = errState (s.canCh n).tecCnt ((s.canCh n).recCnt + (if err.stepsOnly then 0 else 1) + 8 * err.flagSteps)) := by
  have hkept : ∀ n < 8, (Reg.CAN_CFG n ∉ [Reg.CAN_ERR_FRAME_CNT n, Reg.CAN_LAST_ERR n] ∧ Reg.CAN_STATUS n ∉ [Reg.CAN_ERR_FRAME_CNT n, Reg.CAN_LAST_ERR n])
      ∧ Reg.CAN_ERR_FRAME_CNT n ∉ errRegs n ∧ Reg.CAN_LAST_ERR n ∉ errRegs n := by decide
  obtain ⟨⟨hcfg, hst⟩, hcnt, hlast⟩ := hkept n hn
  have hgo : ¬ (s.fresh.mgmt != Node.run || !s.fresh.canOn n) = true := by
    have hmgmt : s.fresh.mgmt = Node.run := hm
    have hon' : s.fresh.canOn n = true := hon
    rw [hmgmt, hon']
    decide
  obtain ⟨hr, hcan, hframes, hcode⟩ := s.fresh.rxErrShown_shown n err
  have hmon' : ¬ (s.fresh.rxErrShown n err).canMonitor n = true := by
    rw [State.canMonitor, State.canMode, State.canStat, State.rfld_of_reg (hr _ hcfg), State.rbit_of_reg (hr _ hst)]
    exact fun h => Bool.noConfusion (hmon.symm.trans h)
  have hrun : exec (.canBusError n err) s = .next ((s.fresh.rxErrShown n err).setErr n ((s.fresh.rxErrShown n err).canCh n).tecCnt
      (((s.fresh.rxErrShown n err).canCh n).recCnt + b2n (!err.stepsOnly) + 8 * err.flagSteps)) :=
    (need_of (decide_eq_true hn) _).trans (congrArg Host.Outcome.next
      ((if_neg (by rw [hrx]; decide)).trans ((if_neg hgo).trans (if_neg hmon'))))
  refine ⟨_, hrun, ?_⟩
  have hch : (s.fresh.rxErrShown n err).canCh n = s.canCh n := State.canCh_congr hcan n
  rw [hch]
  have hsteps : b2n (!err.stepsOnly) = if err.stepsOnly then 0 else 1 := by cases err.stepsOnly <;> rfl
  rw [hsteps]
  generalize s.fresh.rxErrShown n err = u at hr hcan hframes hcode hch ⊢
  obtain ⟨hregs, -, -, ⟨b, e, f, hchan⟩, hbus, -, -⟩ := errMoved_setErr u hn (s.canCh n).tecCnt
    ((s.canCh n).recCnt + (if err.stepsOnly then 0 else 1) + 8 * err.flagSteps)
  exact ⟨by rw [hchan], by rw [hchan], (hregs _ hcnt).trans hframes, fun h => (hregs _ hlast).trans (hcode h), hbus⟩

theorem ends_canBusError_transmitter {err : CanErr} (hn : n < 8) (htx : err.asTransmitter = true) (hon : s.canOn n = true)
    (hmon : s.canMonitor n = false) (hcur : (s.canCh n).current = none ∨ err.stepsOnly = true) (hsteps : err.flagSteps ≠ 0) :
    Ends (.canBusError n err) s (fun t => (t.canCh n).tecCnt = min ((s.canCh n).tecCnt + 8 * err.flagSteps) 256
      ∧ (t.canCh n).recCnt = min (s.canCh n).recCnt 255
      ∧ t.canBus n = errState ((s.canCh n).tecCnt + 8 * err.flagSteps) (s.canCh n).recCnt) := by
  have hgo : (s.fresh.canOn n && !s.fresh.canMonitor n && err.flagSteps != 0) = true := by
    have hon' : s.fresh.canOn n = true := hon
    have hmon' : s.fresh.canMonitor n = false := hmon
    rw [hon', hmon']
    simpa using hsteps
  have hrun : exec (.canBusError n err) s = .next (s.fresh.setErr n ((s.fresh.canCh n).tecCnt + 8 * err.flagSteps) (s.fresh.canCh n).recCnt) := by
    refine (need_of (decide_eq_true hn) _).trans (congrArg Host.Outcome.next ((if_pos htx).trans ?_))
    dsimp only
    rcases hcur with h | h
    · rw [show (s.fresh.canCh n).current = none from h]
      exact if_pos hgo
    · rw [h]
      cases (s.fresh.canCh n).current with
      | none => exact if_pos hgo
      | some x => exact if_pos hgo
  refine ⟨_, hrun, ?_⟩
  obtain ⟨-, -, -, ⟨b, e, f, hchan⟩, hbus, -, -⟩ := errMoved_setErr s.fresh hn ((s.fresh.canCh n).tecCnt + 8 * err.flagSteps) (s.fresh.canCh n).recCnt
  exact ⟨by rw [hchan]; rfl, by rw [hchan]; rfl, hbus⟩

/-- Settles O30: reception, the walk, and the errors seen, each by its lemma above. -/
theorem canReception : Obligations.CanReception := by
  unfold Obligations.CanReception
  refine ⟨fun s ch dt f hn hm hon hfd => ⟨fun hroom => ?_, fun hfull => ?_⟩, fun s n rest f time q l hn hw hf => ?_,
    fun s ch hn hm hon hfd => ends_protocolException hn hm hon hfd,
    fun s ch err hn hm hrx hon hmon => ends_canBusError_receiver hn hm hrx hon hmon,
    fun s ch err hn htx hon hmon hcur hsteps => ends_canBusError_transmitter hn htx hon hmon hcur hsteps⟩
  · exact ⟨_, need_of (decide_eq_true hn) _, State.canReceive_fifo hn hm hon hfd hroom⟩
  · exact ⟨_, need_of (decide_eq_true hn) _, State.canReceive_lost hn hm hon hfd hfull⟩
  · have hwalked := walked_walkNext (s := s.fresh) (n := n) hn hw hf
    have hwalk : s.fresh.walk f (s.fresh.filtWalked n).1 (s.fresh.filtWalked n).2 0 { } = s.walk f (s.filtWalked n).1 (s.filtWalked n).2 0 { } :=
      State.walk_congr (s := s) (t := s.fresh) rfl rfl f _ _ _ _
    rw [hwalk] at hwalked
    obtain ⟨hnext, hfifo, hcnt, hrej, hext⟩ := hwalked
    exact ⟨_, rfl, hnext, hfifo, hcnt, hrej, hext⟩

end

end Sys2Proof.Machine

/-! PROOFS. CAN transmissions: entries taken, attempts begun and ended, outcomes and their echoes (R379-R384, R388, R389, R397). -/

namespace Sys2Proof.Machine

section

variable {s : State} {n : Nat}

/-! ## Entries taken -/

theorem State.takeTx_taken (s : State) (n : Nat) : (s.takeTx n).fetchedOf (10 + n) = (s.fetchedOf (10 + n)).drop 1
    ∧ (s.takeTx n).can = s.can
    ∧ RegsBut s (s.takeTx n) ([Reg.CAN_TX_TAKEN n] ++ [Reg.RING_NODE_IDX (10 + n), Reg.RING_ENTRY_CNT (10 + n), Reg.MSIX_PBA 0]) := by
  refine ⟨?_, same_of_foot [.regs, .hif] (fun _ _ => takeTx_foot _ _ (.refl s)) .can, (regsBut_setReg s _ _).andThen (regsBut_takeHead _ _)⟩
  obtain ⟨u, f, c, h⟩ := (s.setReg (Reg.CAN_TX_TAKEN n) (s.reg (Reg.CAN_TX_TAKEN n) + 1)).takeHead_hif (10 + n)
  unfold State.fetchedOf State.takeTx
  rw [h]
  simpa using fetched_dropFirst (10 + n) (10 + n) s.hif.fetched

theorem State.reg_takeTx (s : State) (hn : n < 8) : (s.takeTx n).reg (Reg.CAN_TX_TAKEN n) = s.reg (Reg.CAN_TX_TAKEN n) + 1 := by
  have hne : ∀ n < 8, Reg.CAN_TX_TAKEN n ∉ [Reg.RING_NODE_IDX (10 + n), Reg.RING_ENTRY_CNT (10 + n), Reg.MSIX_PBA 0] := by decide
  exact (regsBut_takeHead _ _ _ (hne n hn)).trans ((State.reg_setReg _ _ _ _).trans (if_pos rfl))

theorem State.txEntryOk_congr {s t : State} (h : t.reg (Reg.CAN_CFG n) = s.reg (Reg.CAN_CFG n)) (l : List Byte) : t.txEntryOk n l = s.txEntryOk n l := by
  simp only [State.txEntryOk, State.canFd, State.canBrs, State.rbit_of_reg h]

/-- A host frame's outcome is counted as Table 13-6 says. -/
theorem State.txOutcome_count (hn : n < 8) {t : TxSlot} (hnode : t.node = false) :
    (s.txOutcome n t TxOut.rejected).reg (Reg.CAN_TX_ABORT_CNT n) = satAdd (s.reg (Reg.CAN_TX_ABORT_CNT n)) 1 := by
  have hne : ∀ n < 8, Reg.CAN_TX_ABORT_CNT n ∉ canRingRegs n := by decide
  have hcnt : (s.outcomeCounted n TxOut.rejected).reg (Reg.CAN_TX_ABORT_CNT n) = satAdd (s.reg (Reg.CAN_TX_ABORT_CNT n)) 1 :=
    (State.reg_bump _ _ _).trans (if_pos rfl)
  rw [State.txOutcome_eq, hnode, if_neg (by decide)]
  split
  · rw [(canPosted_echo _ hn t _).regs _ (hne n hn), hcnt]
  · exact hcnt

theorem State.takeEntry_takes {i : Nat} {l : List Byte} {rest : List (List Byte)} (hm : s.mgmt = Node.run) (hmode : s.canMode n ≠ 0)
    (hin : s.canStat n CanStat.outOfService = false) (hroom : (s.canCh n).hostSlots < s.canShare n) (hl : s.fetchedOf (10 + n) = l :: rest)
    (hi : (s.canCh n).freeSlot = some i) :
    s.takeEntry n = if (s.takeTx n).txEntryOk n l then
        (s.takeTx n).updCan n (fun c => { c with slots := c.slots ++ [txOfEntry l i (s.canCh n).txSeq], txSeq := c.txSeq + 1 })
      else (s.takeTx n).txOutcome n (txOfEntry l i (s.canCh n).txSeq) TxOut.rejected := by
  have hgo : ¬ (s.mgmt != Node.run || s.canMode n = 0 || s.canStat n CanStat.outOfService || decide (s.canShare n ≤ (s.canCh n).hostSlots)) = true := by
    rw [hm, hin, decide_eq_false hmode, decide_eq_false (by omega : ¬ s.canShare n ≤ (s.canCh n).hostSlots)]
    decide
  unfold State.takeEntry
  dsimp only
  refine (if_neg hgo).trans ?_
  rw [hl, hi]

theorem ends_canTxEntryTaken {i : Nat} {l : List Byte} {rest : List (List Byte)} (hn : n < 8) (hm : s.mgmt = Node.run) (hmode : s.canMode n ≠ 0)
    (hin : s.canStat n CanStat.outOfService = false) (hroom : (s.canCh n).hostSlots < s.canShare n) (hl : s.fetchedOf (10 + n) = l :: rest)
    (hi : (s.canCh n).freeSlot = some i) :
    Ends (.canTxEntryTaken n) s (fun t => t.reg (Reg.CAN_TX_TAKEN n) = s.reg (Reg.CAN_TX_TAKEN n) + 1
      ∧ t.fetchedOf (10 + n) = rest
      ∧ (s.txEntryOk n l = true → (t.canCh n).slots = (s.canCh n).slots ++ [txOfEntry l i (s.canCh n).txSeq])
      ∧ (s.txEntryOk n l = false → (t.canCh n).slots = (s.canCh n).slots
          ∧ t.reg (Reg.CAN_TX_ABORT_CNT n) = satAdd (s.reg (Reg.CAN_TX_ABORT_CNT n)) 1)) := by
  refine ⟨_, need_of (decide_eq_true hn) _, ?_⟩
  rw [State.takeEntry_takes (s := s.fresh) hm hmode hin hroom hl hi]
  have hcfg : ∀ n < 8, Reg.CAN_CFG n ∉ [Reg.CAN_TX_TAKEN n] ++ [Reg.RING_NODE_IDX (10 + n), Reg.RING_ENTRY_CNT (10 + n), Reg.MSIX_PBA 0]
      ∧ Reg.CAN_TX_ABORT_CNT n ∉ [Reg.CAN_TX_TAKEN n] ++ [Reg.RING_NODE_IDX (10 + n), Reg.RING_ENTRY_CNT (10 + n), Reg.MSIX_PBA 0]
      ∧ Reg.CAN_TX_TAKEN n ∉ outcomeRegs n := by decide
  obtain ⟨hc, ha, ht⟩ := hcfg n hn
  obtain ⟨hf, hcan, hr⟩ := s.fresh.takeTx_taken n
  have htaken := s.fresh.reg_takeTx hn
  have hok : (s.fresh.takeTx n).txEntryOk n l = s.txEntryOk n l := State.txEntryOk_congr (s := s.fresh) (hr _ hc) l
  have hch : (s.fresh.takeTx n).canCh n = s.canCh n := State.canCh_congr (s := s.fresh) hcan n
  have hrest : (s.fresh.takeTx n).fetchedOf (10 + n) = rest := by
    rw [hf]
    exact congrArg (List.drop 1) hl
  have habort : (s.fresh.takeTx n).reg (Reg.CAN_TX_ABORT_CNT n) = s.reg (Reg.CAN_TX_ABORT_CNT n) := hr _ ha
  rw [hok]
  generalize s.fresh.takeTx n = u at htaken hch hrest habort ⊢
  split
  next h =>
    refine ⟨htaken, hrest, fun _ => ?_, fun hno => absurd (h.symm.trans hno) (by decide)⟩
    rw [State.canCh_updCan, hch]
    rfl
  next h =>
    have hp := canPosted_txOutcome u hn (txOfEntry l i (s.fresh.canCh n).txSeq) TxOut.rejected
    obtain ⟨b, e, hchan⟩ := hp.channel
    obtain ⟨k, hif⟩ := hp.hif
    refine ⟨(hp.regs _ ht).trans htaken, ?_, fun hyes => absurd hyes h, fun _ => ⟨by rw [hchan, hch], ?_⟩⟩
    · rw [State.fetchedOf, hif]
      exact hrest
    · rw [State.txOutcome_count hn rfl, habort]

/-! ## Attempts begun -/

theorem bestSlot_mem {l : List TxSlot} {x : TxSlot} (h : bestSlot l = some x) : x ∈ l := by
  induction l generalizing x with
  | nil => cases h
  | cons t l ih =>
    rw [bestSlot] at h
    split at h
    · exact List.mem_cons.mpr (.inl (Option.some.inj h).symm)
    next u hu =>
      split at h
      · exact List.mem_cons_of_mem _ (ih (hu.trans h))
      · exact List.mem_cons.mpr (.inl (Option.some.inj h).symm)

theorem State.attemptStart_begins {x : TxSlot} (hm : s.mgmt = Node.run) (hon : s.canOn n = true) (hmon : s.canMonitor n = false)
    (hcur : (s.canCh n).current = none) (hx : bestSlot (s.canCh n).slots = some x) :
    { x with inTx := true, attempts := min 255 (x.attempts + 1), sof := s.now } ∈ ((s.attemptStart n).canCh n).slots := by
  unfold State.attemptStart
  rw [if_neg (by rw [hm, hon, hmon, hcur]; decide), hx]
  dsimp only
  rw [State.canCh_updCan]
  exact List.mem_map.mpr ⟨x, bestSlot_mem hx, if_pos rfl⟩

/-! ## Echoes of outcomes -/

/-- An echo with no frame before it goes out at once, where the ring has credit. -/
theorem State.echo_posted (s : State) {x : TxSlot} {code : Nat} (hx : 1 ≤ x.attempts) (hrx : (s.canCh n).rxFifo = [])
    (he : (s.canCh n).echoes = []) (hc : 0 < s.ringCredit (18 + n)) :
    Output.ringEntry (18 + n) (s.reg (Reg.RING_NODE_IDX (18 + n))) (s.ringSlot (18 + n) (s.reg (Reg.RING_NODE_IDX (18 + n))))
      (s.echoEntry n x code) ∈ (s.echo n x code).out := by
  let e : Echo := { behind := 0, slot := x, code := code, seq := (s.canCh n).seq, time := x.sof }
  let u : State := (s.updCan n (fun c => { c with echoes := c.echoes ++ [e] })).updCan n
    (fun c => { c with echoes := c.echoes.dropWhile (fun e => e.behind == 0) })
  have hecho : s.echo n x code = (s.updCan n (fun c => { c with echoes := c.echoes ++ [e] })).echoesDue n := by
    unfold State.echo
    dsimp only
    rw [hrx, if_neg (by omega)]
    rfl
  have hdue : (s.updCan n (fun c => { c with echoes := c.echoes ++ [e] })).echoesDue n = u.postEcho n e := by
    unfold State.echoesDue
    dsimp only
    rw [State.canCh_updCan, he]
    rfl
  have hlost : (u.canCh n).lostBefore = (s.canCh n).lostBefore := by
    rw [State.canCh_updCan, State.canCh_updCan]
  have hcredit : 0 < u.ringCredit (18 + n) := hc
  rw [hecho, hdue]
  unfold State.postEcho State.canRing
  dsimp only
  rw [if_pos hcredit, hlost]
  exact State.postEntry_posts _ _ _ _

/-- An echo behind frames of the FIFO waits. -/
theorem State.echo_waits (s : State) {x : TxSlot} {code : Nat} (hx : 1 ≤ x.attempts) (hrx : (s.canCh n).rxFifo ≠ [])
    (he : (s.canCh n).echoes = []) :
    ((s.echo n x code).canCh n).echoes = [{ behind := (s.canCh n).rxFifo.length, slot := x, code := code, seq := (s.canCh n).seq, time := x.sof }] := by
  let e : Echo := { behind := (s.canCh n).rxFifo.length, slot := x, code := code, seq := (s.canCh n).seq, time := x.sof }
  have hecho : s.echo n x code = (s.updCan n (fun c => { c with echoes := c.echoes ++ [e] })).echoesDue n := by
    unfold State.echo
    dsimp only
    rw [if_neg (by omega)]
  have hbehind : (e.behind == 0) = false := beq_false_of_ne (fun h => hrx (List.length_eq_zero_iff.mp h))
  rw [hecho]
  unfold State.echoesDue
  dsimp only
  rw [State.canCh_updCan, he, List.nil_append, List.takeWhile_cons_of_neg (by rw [hbehind]; decide), List.foldl_nil, State.canCh_updCan,
    State.canCh_updCan, he, List.nil_append, List.dropWhile_cons_of_neg (by rw [hbehind]; decide)]

/-! ## Attempts ended -/

/-- Registers that an attempt's end changes before its frame's outcome. -/
abbrev attemptRegs (n : Nat) : List Off :=
  [Reg.CAN_STATUS n, Reg.CAN_EVT n, Reg.MSIX_PBA 0, Reg.CAN_TX_OK_CNT n, Reg.CAN_NOACK_RUN n, Reg.CAN_ERR_FRAME_CNT n, Reg.CAN_LAST_ERR n,
   Reg.CAN_TX_NOACK_CNT n, Reg.CAN_LONELY_CNT n, Reg.CAN_TX_ARB_LOST_CNT n]

/-- An attempt has ended, and no outcome has been given out yet. -/
structure AttemptMet (s t : State) (n : Nat) : Prop where
  regs : RegsBut s t (attemptRegs n)
  hif : t.hif = s.hif
  out : s.out <+: t.out
  channel : ∃ tec rec, t.canCh n = { s.canCh n with tecCnt := tec, recCnt := rec }

theorem AttemptMet.refl (s : State) (n : Nat) : AttemptMet s s n := ⟨.refl _ _, rfl, List.prefix_rfl, ⟨_, _, rfl⟩⟩

theorem AttemptMet.trans {t u : State} (h : AttemptMet s t n) (k : AttemptMet t u n) : AttemptMet s u n := by
  obtain ⟨hr, hif, ho, ⟨a, b, hc⟩⟩ := h
  obtain ⟨kr, kif, ko, ⟨a', b', kc⟩⟩ := k
  exact ⟨hr.trans kr, kif.trans hif, ho.trans ko, ⟨a', b', by rw [kc, hc]⟩⟩

/-- Registers written, and no more. -/
theorem AttemptMet.of_regs {t : State} {os : List Off} (h : RegsBut s t os) (hos : os ⊆ attemptRegs n) (hif : t.hif = s.hif)
    (hout : s.out <+: t.out) (hcan : t.can = s.can) : AttemptMet s t n :=
  ⟨h.mono hos, hif, hout, ⟨_, _, State.canCh_congr hcan n⟩⟩

theorem attemptMet_setErr (s : State) (hn : n < 8) {tec : Nat} (h : tec ≤ 255) (rec : Nat) : AttemptMet s (s.setErr n tec rec) n := by
  obtain ⟨hr, hif, ho, hch, -⟩ := errKept_setErr s hn h rec
  exact ⟨hr.mono (by simp), hif, ho, ⟨_, _, hch⟩⟩

/-- The frame leaves its slot with its outcome. -/
def State.frameEnds (s : State) (n : Nat) (x : TxSlot) (code : Nat) : State := (s.freeTx n x.idx).txOutcome n x code

theorem canPosted_frameEnds (s : State) (hn : n < 8) (x : TxSlot) (code : Nat) :
    CanPosted (s.freeTx n x.idx) (s.frameEnds n x code) n (outcomeRegs n) := canPosted_txOutcome _ hn x code

theorem State.frameEnds_slots (s : State) (hn : n < 8) (x : TxSlot) (code : Nat) :
    ∀ y, y ∈ ((s.frameEnds n x code).canCh n).slots → y.idx ≠ x.idx := by
  obtain ⟨b, e, hch⟩ := (canPosted_frameEnds s hn x code).channel
  intro y hy
  rw [hch, State.freeTx, State.canCh_updCan] at hy
  simpa using (List.mem_filter.mp hy).2

theorem State.outcomeCounted_kept (s : State) (n code : Nat) :
    RegsBut s (s.outcomeCounted n code) [Reg.CAN_TX_CANCEL_CNT n, Reg.CAN_TX_ABORT_CNT n] ∧ (s.outcomeCounted n code).hif = s.hif
    ∧ (s.outcomeCounted n code).can = s.can := by
  unfold State.outcomeCounted
  split
  · exact ⟨(regsBut_bump _ _).mono (by simp), rfl, rfl⟩
  · split
    · exact ⟨(regsBut_bump _ _).mono (by simp), rfl, rfl⟩
    · exact ⟨.refl _ _, rfl, rfl⟩

theorem State.frameEnds_echo (s : State) {x : TxSlot} (code : Nat) (hnode : x.node = false) (hrep : x.report = true) :
    s.frameEnds n x code = ((s.freeTx n x.idx).outcomeCounted n code).echo n x code := by
  rw [State.frameEnds, State.txOutcome_eq, hnode, hrep]
  rfl

theorem AttemptMet.echoed {v : State} (h : AttemptMet s v n) (hn : n < 8) {x : TxSlot} {code : Nat} (hnode : x.node = false)
    (hrep : x.report = true) (hx : 1 ≤ x.attempts) : Echoed s (v.frameEnds n x code) n x code := by
  have hkept : ∀ n < 8, Reg.RING_STATUS (18 + n) ∉ attemptRegs n ++ [Reg.CAN_TX_CANCEL_CNT n, Reg.CAN_TX_ABORT_CNT n]
      ∧ Reg.RING_SIZE (18 + n) ∉ attemptRegs n ++ [Reg.CAN_TX_CANCEL_CNT n, Reg.CAN_TX_ABORT_CNT n]
      ∧ Reg.MGMT_STATE ∉ attemptRegs n ++ [Reg.CAN_TX_CANCEL_CNT n, Reg.CAN_TX_ABORT_CNT n]
      ∧ Reg.RING_NODE_IDX (18 + n) ∉ attemptRegs n ++ [Reg.CAN_TX_CANCEL_CNT n, Reg.CAN_TX_ABORT_CNT n]
      ∧ Reg.RING_BASE_LO (18 + n) ∉ attemptRegs n ++ [Reg.CAN_TX_CANCEL_CNT n, Reg.CAN_TX_ABORT_CNT n]
      ∧ Reg.RING_BASE_HI (18 + n) ∉ attemptRegs n ++ [Reg.CAN_TX_CANCEL_CNT n, Reg.CAN_TX_ABORT_CNT n] := by decide
  obtain ⟨hst, hsz, hm, hidx, hlo, hhi⟩ := hkept n hn
  obtain ⟨hr, hif, -, ⟨tec, rec, hch⟩⟩ := h
  obtain ⟨hr2, hif2, hcan2⟩ := (v.freeTx n x.idx).outcomeCounted_kept n code
  rw [State.frameEnds_echo _ code hnode hrep]
  have hregs : RegsBut s ((v.freeTx n x.idx).outcomeCounted n code) (attemptRegs n ++ [Reg.CAN_TX_CANCEL_CNT n, Reg.CAN_TX_ABORT_CNT n]) :=
    hr.andThen (fun o ho => (hr2 o ho).trans rfl)
  have hwif : ((v.freeTx n x.idx).outcomeCounted n code).hif = s.hif := hif2.trans hif
  have hwch : ((v.freeTx n x.idx).outcomeCounted n code).canCh n
      = { s.canCh n with tecCnt := tec, recCnt := rec, slots := (s.canCh n).slots.filter (fun t => t.idx != x.idx) } := by
    rw [State.canCh_congr hcan2, State.freeTx, State.canCh_updCan, hch]
  generalize (v.freeTx n x.idx).outcomeCounted n code = w at hregs hwif hwch ⊢
  have hring : SameRing s w (18 + n) := SameRing.of_regs hregs hwif hst hsz hm
  have hentry : w.echoEntry n x code = s.echoEntry n x code := by rw [State.echoEntry, State.echoEntry, hwch]
  refine ⟨fun hrx he hc => ?_, fun hrx he => ?_⟩
  · rw [← hring.credit_same (hregs _ hidx)] at hc
    have hp := w.echo_posted (code := code) hx (by rw [hwch]; exact hrx) (by rw [hwch]; exact he) hc
    rw [hregs _ hidx, hentry, State.ringSlot_congr (hregs _ hlo) (hregs _ hhi) (hregs _ hsz)] at hp
    exact hp
  · have hp := w.echo_waits (code := code) hx (by rw [hwch]; exact hrx) (by rw [hwch]; exact he)
    rw [hp, hwch]

theorem AttemptMet.silent {v : State} (h : AttemptMet s v n) {x : TxSlot} (code : Nat) (hx : x.node = true ∨ x.report = false) :
    ((v.frameEnds n x code).canCh n).echoes = (s.canCh n).echoes := by
  obtain ⟨-, -, -, ⟨tec, rec, hch⟩⟩ := h
  have hfree : ((v.freeTx n x.idx).canCh n).echoes = (s.canCh n).echoes := by
    rw [State.freeTx, State.canCh_updCan, hch]
  rw [State.frameEnds, State.txOutcome_eq]
  rcases hx with hnode | hrep
  · rw [if_pos hnode, hfree]
  · split
    · exact hfree
    · rw [hrep, if_neg (by decide), State.canCh_congr ((v.freeTx n x.idx).outcomeCounted_kept n code).2.2, hfree]

/-- The frame whose attempt failed waits for the next one. -/
def State.retried (s : State) (n : Nat) (x : TxSlot) : State :=
  (s.updCan n (fun c => { c with slots := c.slots.map (fun y => if y.idx = x.idx then { x with inTx := false } else y) })).bump (Reg.CAN_TX_RETRY_CNT n)

theorem State.canCh_retried (s : State) (x : TxSlot) : (s.retried n x).canCh n
    = { s.canCh n with slots := (s.canCh n).slots.map (fun y => if y.idx = x.idx then { x with inTx := false } else y) } :=
  s.canCh_updCan n (fun c => { c with slots := c.slots.map (fun y => if y.idx = x.idx then { x with inTx := false } else y) })

theorem State.attemptFails_eq (s : State) {x : TxSlot} (hx : x.cancel = false) (code : Nat) : s.attemptFails n x code =
    if s.oneShot n x then s.frameEnds n x code else if s.canAborts n then s.frameEnds n x TxOut.aborted else s.retried n x :=
  if_neg (by rw [hx]; decide)

theorem State.oneShot_congr {s t : State} (h : t.reg (Reg.CAN_CFG n) = s.reg (Reg.CAN_CFG n)) (x : TxSlot) : t.oneShot n x = s.oneShot n x := by
  rw [State.oneShot, State.oneShot, State.rbit_of_reg h]

/-- An attempt that failed on the bus, in RUN with no BUS_OFF that waits. -/
theorem AttemptMet.failed {v : State} (h : AttemptMet s v n) (hn : n < 8) (hm : s.mgmt = Node.run) (hw : (s.canCh n).busOffWait = none)
    {x : TxSlot} (hx : x.cancel = false) (hmem : x ∈ (s.canCh n).slots) (code : Nat) : AttemptFailed s (v.attemptFails n x code) n x code := by
  have hkept : ∀ n < 8, Reg.CAN_CFG n ∉ attemptRegs n ∧ Reg.MGMT_STATE ∉ attemptRegs n ∧ Reg.CAN_TX_RETRY_CNT n ∉ attemptRegs n := by decide
  obtain ⟨hcfg, hmg, hcnt⟩ := hkept n hn
  have hshot : v.oneShot n x = s.oneShot n x := State.oneShot_congr (h.regs _ hcfg) x
  obtain ⟨tec, rec, hch⟩ := h.channel
  have hstays : v.canAborts n = false := by
    rw [State.canAborts, State.mgmt_congr (h.regs _ hmg), hm, hch]
    show (_ || (s.canCh n).busOffWait.isSome) = false
    rw [hw]
    rfl
  rw [State.attemptFails_eq v hx, hshot]
  refine ⟨fun hs => ?_, fun hs => ?_⟩
  · rw [if_neg (by rw [hs]; decide), if_neg (by rw [hstays]; decide)]
    refine ⟨?_, ?_⟩
    · rw [State.canCh_retried, hch]
      exact List.mem_map.mpr ⟨x, hmem, if_pos rfl⟩
    · refine (State.reg_bump _ _ _).trans ((if_pos rfl).trans ?_)
      exact congrArg (satAdd · 1) (h.regs _ hcnt)
  · rw [if_pos hs]
    exact ⟨v.frameEnds_slots hn x code, fun hnode hrep ha => h.echoed hn hnode hrep ha⟩

/-- What a failed attempt leaves as it was, on every way out of it. -/
structure FailKept (s t : State) (n : Nat) : Prop where
  regs : RegsBut s t (Reg.CAN_TX_RETRY_CNT n :: outcomeRegs n)
  tec : (t.canCh n).tecCnt = (s.canCh n).tecCnt
  wait : (t.canCh n).busOffWait = (s.canCh n).busOffWait
  events : ∀ i, s.rbit (Reg.CAN_EVT n) i = true → t.rbit (Reg.CAN_EVT n) i = true

theorem failKept_frameEnds (s : State) (hn : n < 8) (x : TxSlot) (code : Nat) : FailKept s (s.frameEnds n x code) n := by
  have hp := canPosted_frameEnds s hn x code
  obtain ⟨b, e, hch⟩ := hp.channel
  refine ⟨(show RegsBut s (s.freeTx n x.idx) _ from .of_regs rfl rfl _).trans (hp.regs.mono (by simp)), ?_, ?_, hp.events⟩
  · rw [hch, State.freeTx, State.canCh_updCan]
  · rw [hch, State.freeTx, State.canCh_updCan]

theorem failKept_attemptFails (s : State) (hn : n < 8) {x : TxSlot} (hx : x.cancel = false) (code : Nat) : FailKept s (s.attemptFails n x code) n := by
  have hevt : ∀ n < 8, Reg.CAN_EVT n ∉ [Reg.CAN_TX_RETRY_CNT n] := by decide
  rw [State.attemptFails_eq s hx]
  split
  · exact failKept_frameEnds s hn x code
  · split
    · exact failKept_frameEnds s hn x TxOut.aborted
    · have hch := s.canCh_retried (n := n) x
      have hr : RegsBut s (s.retried n x) [Reg.CAN_TX_RETRY_CNT n] := regsBut_bump (s.updCan n _) _
      exact ⟨hr.mono (by simp), by rw [hch], by rw [hch], fun i hi => (State.rbit_of_reg (hr _ (hevt n hn)) i).trans hi⟩

/-- The loop delay of a frame is shown at most. -/
theorem State.loopDelay_shown (s : State) (n : Nat) (x : TxSlot) (r : TxResult) : AttemptMet s (s.loopDelay n x r) n
    ∧ (s.loopDelay n x r).can = s.can ∧ RegsBut s (s.loopDelay n x r) [Reg.CAN_STATUS n]
    ∧ (s.loopDelay n x r).canBus n = s.canBus n ∧ ∀ i, i < 16 → (s.loopDelay n x r).canStat n i = s.canStat n i := by
  have hfree : ∀ u : State, u.regs = s.regs → u.behavBoot = s.behavBoot → u.hif = s.hif → u.out = s.out → u.can = s.can →
      AttemptMet s u n ∧ u.can = s.can ∧ RegsBut s u [Reg.CAN_STATUS n] ∧ u.canBus n = s.canBus n
        ∧ ∀ i, i < 16 → u.canStat n i = s.canStat n i := by
    intro u hr hb hif ho hcan
    exact ⟨.of_regs (os := []) (.of_regs hr hb _) (by simp) hif (by rw [ho]) hcan, hcan, .of_regs hr hb _,
      State.rfld_of_reg (State.reg_congr hr hb _) 0 2, fun i _ => State.rbit_of_reg (State.reg_congr hr hb _) i⟩
  unfold State.loopDelay
  dsimp only
  split
  · exact hfree s rfl rfl rfl rfl rfl
  · split
    · obtain ⟨-, -, -, hbus, hstat⟩ := hfree s.draw.2.draw.2 rfl rfl rfl rfl rfl
      have hr : RegsBut s (s.draw.2.draw.2.setRegFld (Reg.CAN_STATUS n) 16 7 ((Config.freeLoop s.draw.1).toNat % 21)) [Reg.CAN_STATUS n] :=
        RegsBut.trans (t := s.draw.2.draw.2) (.of_regs rfl rfl _) (regsBut_setRegFld _ _ _ _ _)
      refine ⟨.of_regs hr (by simp) rfl List.prefix_rfl rfl, rfl, hr, ?_, fun i hi => ?_⟩
      · exact (State.rfld_setRegFld_ne _ _ _ _ _ _ _ _ (.inr (.inl (by decide)))).trans hbus
      · exact (State.rbit_setRegFld _ _ _ _ _ _ _).trans ((if_neg (by omega)).trans (hstat i hi))
    · exact hfree s.draw.2.draw.2 rfl rfl rfl rfl rfl

/-- The channel leaves the bus behind an attempt, where it was to. -/
def State.attemptLeft (s : State) (n : Nat) : State :=
  if s.canLeaving n then
    let s := s.canOff n
    if s.mgmt = Node.run && !s.canStat n CanStat.hostOff then s.canJoin n else s
  else s

theorem State.attemptLeft_stays (s : State) (hm : s.mgmt = Node.run) (hw : (s.canCh n).busOffWait = none) : s.attemptLeft n = s :=
  if_neg (by rw [State.canLeaving, hm, hw]; decide)

/-- An acknowledged attempt ends LONELY and its count. -/
theorem State.acked_quiet (s : State) (hn : n < 8) : RegsBut s (s.acked n) [Reg.CAN_NOACK_RUN n, Reg.CAN_STATUS n, Reg.CAN_EVT n, Reg.MSIX_PBA 0]
    ∧ (s.acked n).hif = s.hif ∧ s.out <+: (s.acked n).out ∧ (s.acked n).can = s.can ∧ (s.acked n).canBus n = s.canBus n
    ∧ (s.acked n).reg (Reg.CAN_NOACK_RUN n) = 0 ∧ (s.acked n).canStat n CanStat.lonely = false := by
  have hkept : ∀ n < 8, Reg.CAN_NOACK_RUN n ∉ [Reg.CAN_EVT n, Reg.MSIX_PBA 0] ∧ Reg.CAN_STATUS n ∉ [Reg.CAN_EVT n, Reg.MSIX_PBA 0] := by decide
  obtain ⟨hq, hbus, hrun, hl, -⟩ := s.canQuiet_quiet n
  have hif : (s.canQuiet n).hif = s.hif := rfl
  have ho : (s.canQuiet n).out = s.out := rfl
  have hcan : (s.canQuiet n).can = s.can := rfl
  unfold State.acked
  dsimp only
  generalize s.canQuiet n = u at hq hbus hrun hl hif ho hcan ⊢
  split
  · have hr := regsBut_raise u (Reg.CAN_EVT n) 8
    exact ⟨(hq.andThen hr).mono (by simp), (State.raise_hif _ _ _).trans hif, ho ▸ State.raise_out u _ _, (State.raise_can _ _ _).trans hcan,
      (State.rfld_of_reg (hr _ (hkept n hn).2) 0 2).trans hbus, (hr _ (hkept n hn).1).trans hrun, (State.rbit_of_reg (hr _ (hkept n hn).2) _).trans hl⟩
  · exact ⟨hq.mono (by simp), hif, by rw [ho], hcan, hbus, hrun, hl⟩

/-! ## The frame sent -/

/-- The frame has gone out acknowledged. -/
def State.sentShown (s : State) (n : Nat) (x : TxSlot) : State :=
  ((s.emitOut (.canFrame n x.id x.rtr x.brs (bitAt x.id 30 && s.canBus n == 2) x.dlc (frameData (bitAt x.id 30) x.rtr x.dlc.toNat x.data))).bump
    (Reg.CAN_TX_OK_CNT n)).acked n

def State.txLowered (s : State) (n : Nat) : State := s.setErr n ((s.canCh n).tecCnt - 1) (s.canCh n).recCnt

theorem State.attemptEnd_sent (s : State) {x : TxSlot} (hx : x.cancel = false) : s.attemptEnd n x .sent
    = (((((s.loopDelay n x .sent).sentShown n x).txLowered n).frameEnds n x TxOut.sent)).attemptLeft n := by
  have hall : s.attemptEnd n x .sent = State.attemptLeft (if x.cancel then
      (((((s.loopDelay n x .sent).sentShown n x).txLowered n).frameEnds n x TxOut.sent).bump (Reg.CAN_TX_LATE_CNT n)).cancelEnds n true
    else ((((s.loopDelay n x .sent).sentShown n x).txLowered n).frameEnds n x TxOut.sent)) n := rfl
  rw [hall, if_neg (by rw [hx]; decide)]

theorem State.sentShown_shown (s : State) (hn : n < 8) (x : TxSlot) : AttemptMet s (s.sentShown n x) n ∧ (s.sentShown n x).can = s.can
    ∧ (s.sentShown n x).reg (Reg.CAN_TX_OK_CNT n) = satAdd (s.reg (Reg.CAN_TX_OK_CNT n)) 1
    ∧ (s.sentShown n x).reg (Reg.CAN_NOACK_RUN n) = 0 ∧ (s.sentShown n x).canStat n CanStat.lonely = false
    ∧ Output.canFrame n x.id x.rtr x.brs (bitAt x.id 30 && s.canBus n == 2) x.dlc (frameData (bitAt x.id 30) x.rtr x.dlc.toNat x.data)
      ∈ (s.sentShown n x).out := by
  have hok : ∀ n < 8, Reg.CAN_TX_OK_CNT n ∉ [Reg.CAN_NOACK_RUN n, Reg.CAN_STATUS n, Reg.CAN_EVT n, Reg.MSIX_PBA 0] := by decide
  let a := s.emitOut (.canFrame n x.id x.rtr x.brs (bitAt x.id 30 && s.canBus n == 2) x.dlc (frameData (bitAt x.id 30) x.rtr x.dlc.toNat x.data))
  obtain ⟨hr, hif, ho, hcan, -, hrun, hl⟩ := (a.bump (Reg.CAN_TX_OK_CNT n)).acked_quiet hn
  have hbump : RegsBut s (a.bump (Reg.CAN_TX_OK_CNT n)) [Reg.CAN_TX_OK_CNT n] := regsBut_bump a _
  have hout : s.out <+: (a.bump (Reg.CAN_TX_OK_CNT n)).out := List.prefix_append _ _
  refine ⟨.of_regs (hbump.andThen hr) (by simp) hif (hout.trans ho) hcan, hcan, ?_, hrun, hl, ho.subset (List.mem_append_right _ (List.mem_singleton_self _))⟩
  exact (hr _ (hok n hn)).trans ((State.reg_bump _ _ _).trans (if_pos rfl))

/-- An attempt that ended with the frame sent. -/
theorem State.attemptEnd_sends (s : State) (hn : n < 8) {x : TxSlot} (hm : s.mgmt = Node.run) (hw : (s.canCh n).busOffWait = none)
    (hx : x.cancel = false) :
    (∀ y, y ∈ ((s.attemptEnd n x .sent).canCh n).slots → y.idx ≠ x.idx)
    ∧ (s.attemptEnd n x .sent).reg (Reg.CAN_TX_OK_CNT n) = satAdd (s.reg (Reg.CAN_TX_OK_CNT n)) 1
    ∧ (s.attemptEnd n x .sent).reg (Reg.CAN_NOACK_RUN n) = 0 ∧ (s.attemptEnd n x .sent).canStat n CanStat.lonely = false
    ∧ Output.canFrame n x.id x.rtr x.brs (bitAt x.id 30 && s.canBus n == 2) x.dlc (frameData (bitAt x.id 30) x.rtr x.dlc.toNat x.data)
      ∈ (s.attemptEnd n x .sent).out
    ∧ ((s.canCh n).tecCnt ≤ 256 → x.node = false → x.report = true → 1 ≤ x.attempts → Echoed s (s.attemptEnd n x .sent) n x TxOut.sent)
    ∧ ((s.canCh n).tecCnt ≤ 256 → x.node = true ∨ x.report = false → ((s.attemptEnd n x .sent).canCh n).echoes = (s.canCh n).echoes) := by
  have hkept : ∀ n < 8, (Reg.CAN_TX_OK_CNT n ∉ [Reg.CAN_STATUS n] ∧ Reg.CAN_TX_OK_CNT n ∉ errRegs n ∧ Reg.CAN_TX_OK_CNT n ∉ outcomeRegs n)
      ∧ (Reg.CAN_NOACK_RUN n ∉ outcomeRegs n ∧ Reg.CAN_STATUS n ∉ outcomeRegs n)
      ∧ Reg.MGMT_STATE ∉ attemptRegs n ∧ Reg.MGMT_STATE ∉ errRegs n ∧ Reg.MGMT_STATE ∉ outcomeRegs n := by decide
  obtain ⟨⟨hok1, hok2, hok3⟩, ⟨hrun1, hst1⟩, hm1, hm2, hm3⟩ := hkept n hn
  rw [State.attemptEnd_sent s hx]
  obtain ⟨hmet1, hcan1, hr1, hbus1, -⟩ := s.loopDelay_shown n x .sent
  generalize s.loopDelay n x .sent = a at hmet1 hcan1 hr1 hbus1 ⊢
  rw [← hbus1]
  obtain ⟨hmet2, hcan2, hcnt, hrun, hl, hout⟩ := a.sentShown_shown hn x
  generalize a.sentShown n x = b at hmet2 hcan2 hcnt hrun hl hout ⊢
  have hmet := hmet1.trans hmet2
  have hch : b.canCh n = s.canCh n := (State.canCh_congr hcan2 n).trans (State.canCh_congr hcan1 n)
  have herr : ErrMoved b (b.txLowered n) n ((b.canCh n).tecCnt - 1) (b.canCh n).recCnt := errMoved_setErr b hn _ _
  have hlow : (s.canCh n).tecCnt ≤ 256 → AttemptMet s (b.txLowered n) n := fun h =>
    hmet.trans (attemptMet_setErr b hn (by rw [hch]; omega) _)
  generalize b.txLowered n = c at hlow herr ⊢
  obtain ⟨hrunc, hlc⟩ := herr.quiet hrun hl
  obtain ⟨lb, e, g, hchc⟩ := herr.channel
  have hp := canPosted_frameEnds c hn x TxOut.sent
  have hk := failKept_frameEnds c hn x TxOut.sent
  have hmgmt : (c.frameEnds n x TxOut.sent).mgmt = Node.run :=
    (State.mgmt_congr ((hp.regs _ hm3).trans ((herr.regs _ hm2).trans (hmet.regs _ hm1)))).trans hm
  have hwait : ((c.frameEnds n x TxOut.sent).canCh n).busOffWait = none := by
    rw [hk.wait, hchc, hch]
    exact hw
  rw [State.attemptLeft_stays _ hmgmt hwait]
  refine ⟨c.frameEnds_slots hn x _, ?_, (hp.regs _ hrun1).trans hrunc, (State.rbit_of_reg (hp.regs _ hst1) _).trans hlc,
    hp.out.subset (herr.out.subset hout), fun h hnode hrep ha => (hlow h).echoed hn hnode hrep ha, fun h hs => (hlow h).silent _ hs⟩
  rw [hp.regs _ hok3]
  exact (herr.regs _ hok2).trans (hcnt.trans (congrArg (satAdd · 1) (hr1 _ hok1)))

/-! ## The attempt failed -/

/-- A failed attempt's end, with no BUS_OFF that waits. -/
theorem State.attemptFails_left (v : State) (hn : n < 8) {x : TxSlot} (hx : x.cancel = false) (code : Nat) (hm : v.mgmt = Node.run)
    (hw : (v.canCh n).busOffWait = none) : (v.attemptFails n x code).attemptLeft n = v.attemptFails n x code := by
  have hmg : ∀ n < 8, Reg.MGMT_STATE ∉ Reg.CAN_TX_RETRY_CNT n :: outcomeRegs n := by decide
  have hk := failKept_attemptFails v hn hx code
  exact State.attemptLeft_stays _ ((State.mgmt_congr (hk.regs _ (hmg n hn))).trans hm) (hk.wait.trans hw)

theorem AttemptMet.ends {v : State} (h : AttemptMet s v n) (hn : n < 8) (hm : s.mgmt = Node.run) (hw : (s.canCh n).busOffWait = none)
    {x : TxSlot} (hx : x.cancel = false) (hcur : (s.canCh n).current = some x) (code : Nat) :
    AttemptFailed s ((v.attemptFails n x code).attemptLeft n) n x code ∧ FailKept v ((v.attemptFails n x code).attemptLeft n) n := by
  have hmg : ∀ n < 8, Reg.MGMT_STATE ∉ attemptRegs n := by decide
  obtain ⟨tec, rec, hch⟩ := h.channel
  rw [State.attemptFails_left v hn hx code ((State.mgmt_congr (h.regs _ (hmg n hn))).trans hm) (by rw [hch]; exact hw)]
  exact ⟨h.failed hn hm hw hx (List.mem_of_find?_eq_some hcur) code, failKept_attemptFails v hn hx code⟩

theorem State.attemptEnd_lostArb (s : State) (hn : n < 8) {x : TxSlot} (hm : s.mgmt = Node.run) (hw : (s.canCh n).busOffWait = none)
    (hx : x.cancel = false) (hcur : (s.canCh n).current = some x) :
    AttemptFailed s (s.attemptEnd n x .lostArb) n x TxOut.lostArb
    ∧ (s.attemptEnd n x .lostArb).reg (Reg.CAN_TX_ARB_LOST_CNT n) = satAdd (s.reg (Reg.CAN_TX_ARB_LOST_CNT n)) 1 := by
  have hkept : ∀ n < 8, Reg.CAN_TX_ARB_LOST_CNT n ∉ [Reg.CAN_STATUS n] ∧ Reg.CAN_TX_ARB_LOST_CNT n ∉ Reg.CAN_TX_RETRY_CNT n :: outcomeRegs n := by decide
  have heq : s.attemptEnd n x .lostArb
      = (((s.loopDelay n x .lostArb).bump (Reg.CAN_TX_ARB_LOST_CNT n)).attemptFails n x TxOut.lostArb).attemptLeft n := rfl
  rw [heq]
  obtain ⟨hmet, -, hr, -, -⟩ := s.loopDelay_shown n x .lostArb
  generalize s.loopDelay n x .lostArb = a at hmet hr ⊢
  have hlost : AttemptMet a (a.bump (Reg.CAN_TX_ARB_LOST_CNT n)) n := .of_regs (regsBut_bump _ _) (by simp) rfl List.prefix_rfl rfl
  obtain ⟨hf, hk⟩ := (hmet.trans hlost).ends hn hm hw hx hcur TxOut.lostArb
  refine ⟨hf, ?_⟩
  rw [hk.regs _ (hkept n hn).2, State.reg_bump, if_pos rfl, hr _ (hkept n hn).1]

/-- An ACK error is counted toward LONELY. -/
structure NoAcked (s t : State) (n : Nat) : Prop where
  met : AttemptMet s t n
  can : t.can = s.can
  regs : RegsBut s t [Reg.CAN_TX_NOACK_CNT n, Reg.CAN_NOACK_RUN n, Reg.CAN_STATUS n, Reg.CAN_LONELY_CNT n, Reg.CAN_EVT n, Reg.MSIX_PBA 0]
  bus : t.canBus n = s.canBus n
  count : t.reg (Reg.CAN_TX_NOACK_CNT n) = satAdd (s.reg (Reg.CAN_TX_NOACK_CNT n)) 1
  off : s.rbit (Reg.CAN_CFG n) 8 = false → t.reg (Reg.CAN_NOACK_RUN n) = s.reg (Reg.CAN_NOACK_RUN n)
  run : s.rbit (Reg.CAN_CFG n) 8 = true → t.reg (Reg.CAN_NOACK_RUN n) = BitVec.ofNat 32 (min 255 ((s.reg (Reg.CAN_NOACK_RUN n)).toNat + 1))
  lonely : s.rbit (Reg.CAN_CFG n) 8 = true → (s.reg (Reg.CAN_NOACK_RUN n)).toNat + 1 = s.rfld (Reg.CAN_CFG n) 16 8 →
    t.canStat n CanStat.lonely = true ∧ t.rbit (Reg.CAN_EVT n) 2 = true ∧ t.reg (Reg.CAN_LONELY_CNT n) = satAdd (s.reg (Reg.CAN_LONELY_CNT n)) 1

/-- LONELY is entered. -/
def State.lonelyShown (s : State) (n : Nat) : State := ((s.setCanStat n CanStat.lonely true).bump (Reg.CAN_LONELY_CNT n)).raise (Reg.CAN_EVT n) 4

theorem State.lonelyShown_shown (s : State) (hn : n < 8) : RegsBut s (s.lonelyShown n) [Reg.CAN_STATUS n, Reg.CAN_LONELY_CNT n, Reg.CAN_EVT n, Reg.MSIX_PBA 0]
    ∧ (s.lonelyShown n).hif = s.hif ∧ s.out <+: (s.lonelyShown n).out ∧ (s.lonelyShown n).can = s.can ∧ (s.lonelyShown n).canBus n = s.canBus n
    ∧ (s.lonelyShown n).canStat n CanStat.lonely = true ∧ (s.lonelyShown n).rbit (Reg.CAN_EVT n) 2 = true
    ∧ (s.lonelyShown n).reg (Reg.CAN_LONELY_CNT n) = satAdd (s.reg (Reg.CAN_LONELY_CNT n)) 1 := by
  have hkept : ∀ n < 8, (Reg.CAN_STATUS n ∉ [Reg.CAN_EVT n, Reg.MSIX_PBA 0] ∧ Reg.CAN_STATUS n ∉ [Reg.CAN_LONELY_CNT n])
      ∧ (Reg.CAN_LONELY_CNT n ∉ [Reg.CAN_EVT n, Reg.MSIX_PBA 0] ∧ Reg.CAN_LONELY_CNT n ∉ [Reg.CAN_STATUS n]) ∧ Reg.CAN_EVT n ≠ Reg.MSIX_PBA 0 := by decide
  obtain ⟨⟨hs1, hs2⟩, ⟨hl1, hl2⟩, he⟩ := hkept n hn
  have hset := regsBut_setRegBit s (Reg.CAN_STATUS n) CanStat.lonely true
  have hbump := regsBut_bump (s.setCanStat n CanStat.lonely true) (Reg.CAN_LONELY_CNT n)
  have hraise := regsBut_raise ((s.setCanStat n CanStat.lonely true).bump (Reg.CAN_LONELY_CNT n)) (Reg.CAN_EVT n) 4
  have hst : (s.lonelyShown n).reg (Reg.CAN_STATUS n) = (s.setCanStat n CanStat.lonely true).reg (Reg.CAN_STATUS n) := (hraise _ hs1).trans (hbump _ hs2)
  refine ⟨((hset.andThen hbump).andThen hraise).mono (by simp), State.raise_hif _ _ _, State.raise_out ((s.setCanStat n CanStat.lonely true).bump _) _ _,
    State.raise_can _ _ _, (State.rfld_of_reg hst 0 2).trans (State.rfld_setRegBit_ne _ _ _ _ _ _ _ (.inr (.inl (by decide)))),
    (State.rbit_of_reg hst _).trans (State.rbit_setRegBit_self _ _ _ _ (by decide)), State.rbit_raise_self _ _ _ _ he (by decide), ?_⟩
  exact (hraise _ hl1).trans ((State.reg_bump _ _ _).trans ((if_pos rfl).trans (congrArg (satAdd · 1) (hset _ hl2))))

theorem noAcked_noAck (s : State) (hn : n < 8) : NoAcked s (s.noAck n) n := by
  have hkept : ∀ n < 8, (Reg.CAN_CFG n ∉ [Reg.CAN_TX_NOACK_CNT n] ∧ Reg.CAN_NOACK_RUN n ∉ [Reg.CAN_TX_NOACK_CNT n]
        ∧ Reg.CAN_STATUS n ∉ [Reg.CAN_TX_NOACK_CNT n] ∧ Reg.CAN_LONELY_CNT n ∉ [Reg.CAN_TX_NOACK_CNT n])
      ∧ (Reg.CAN_TX_NOACK_CNT n ∉ [Reg.CAN_NOACK_RUN n] ∧ Reg.CAN_CFG n ∉ [Reg.CAN_NOACK_RUN n] ∧ Reg.CAN_STATUS n ∉ [Reg.CAN_NOACK_RUN n]
        ∧ Reg.CAN_LONELY_CNT n ∉ [Reg.CAN_NOACK_RUN n])
      ∧ Reg.CAN_TX_NOACK_CNT n ∉ [Reg.CAN_STATUS n, Reg.CAN_LONELY_CNT n, Reg.CAN_EVT n, Reg.MSIX_PBA 0]
      ∧ Reg.CAN_NOACK_RUN n ∉ [Reg.CAN_STATUS n, Reg.CAN_LONELY_CNT n, Reg.CAN_EVT n, Reg.MSIX_PBA 0] := by decide
  obtain ⟨⟨hc1, hr1, hs1, hl1⟩, ⟨hn2, hc2, hs2, hl2⟩, hn3, hr3⟩ := hkept n hn
  have hb := regsBut_bump s (Reg.CAN_TX_NOACK_CNT n)
  have hcnt : (s.bump (Reg.CAN_TX_NOACK_CNT n)).reg (Reg.CAN_TX_NOACK_CNT n) = satAdd (s.reg (Reg.CAN_TX_NOACK_CNT n)) 1 :=
    (State.reg_bump _ _ _).trans (if_pos rfl)
  have hcfg : ∀ i, (s.bump (Reg.CAN_TX_NOACK_CNT n)).rbit (Reg.CAN_CFG n) i = s.rbit (Reg.CAN_CFG n) i := State.rbit_of_reg (hb _ hc1)
  have hmet : AttemptMet s (s.bump (Reg.CAN_TX_NOACK_CNT n)) n := .of_regs hb (by simp) rfl List.prefix_rfl rfl
  have hcan : (s.bump (Reg.CAN_TX_NOACK_CNT n)).can = s.can := rfl
  unfold State.noAck
  dsimp only
  generalize s.bump (Reg.CAN_TX_NOACK_CNT n) = u at hb hcnt hcfg hmet hcan ⊢
  rw [hcfg]
  by_cases hoff : s.rbit (Reg.CAN_CFG n) 8 = false
  · rw [if_pos (by rw [hoff]; rfl)]
    exact ⟨hmet, hcan, hb.mono (by simp), State.rfld_of_reg (hb _ hs1) 0 2, hcnt, fun _ => hb _ hr1,
      fun h => absurd (h.symm.trans hoff) (by decide), fun h => absurd (h.symm.trans hoff) (by decide)⟩
  · have hon : s.rbit (Reg.CAN_CFG n) 8 = true := by simpa using hoff
    rw [if_neg (by rw [hon]; decide), hb _ hr1]
    let k := (s.reg (Reg.CAN_NOACK_RUN n)).toNat
    let v := u.setReg (Reg.CAN_NOACK_RUN n) (BitVec.ofNat 32 (min 255 (k + 1)))
    have hv := regsBut_setReg u (Reg.CAN_NOACK_RUN n) (BitVec.ofNat 32 (min 255 (k + 1)))
    have hvrun : v.reg (Reg.CAN_NOACK_RUN n) = BitVec.ofNat 32 (min 255 (k + 1)) := (State.reg_setReg _ _ _ _).trans (if_pos rfl)
    have hvmet : AttemptMet s v n := hmet.trans (.of_regs hv (by simp) rfl List.prefix_rfl rfl)
    have hlimit : v.rfld (Reg.CAN_CFG n) 16 8 = s.rfld (Reg.CAN_CFG n) 16 8 := State.rfld_of_reg ((hv _ hc2).trans (hb _ hc1)) 16 8
    have hvbus : v.canBus n = s.canBus n := State.rfld_of_reg ((hv _ hs2).trans (hb _ hs1)) 0 2
    have hvcnt : v.reg (Reg.CAN_TX_NOACK_CNT n) = satAdd (s.reg (Reg.CAN_TX_NOACK_CNT n)) 1 := (hv _ hn2).trans hcnt
    have hvl : v.reg (Reg.CAN_LONELY_CNT n) = s.reg (Reg.CAN_LONELY_CNT n) := (hv _ hl2).trans (hb _ hl1)
    have hvcan : v.can = s.can := hcan
    have hvr : RegsBut s v ([Reg.CAN_TX_NOACK_CNT n] ++ [Reg.CAN_NOACK_RUN n]) := hb.andThen hv
    show NoAcked s (if k + 1 = v.rfld (Reg.CAN_CFG n) 16 8 then v.lonelyShown n else v) n
    rw [hlimit]
    clear_value v
    split
    next hk =>
      obtain ⟨hr, hif, ho, hcan', hbus, hl, he, hlc⟩ := v.lonelyShown_shown hn
      exact ⟨hvmet.trans (.of_regs hr (by simp) hif ho hcan'), hcan'.trans hvcan, (hvr.andThen hr).mono (by simp), hbus.trans hvbus,
        (hr _ hn3).trans hvcnt, fun h => absurd (h.symm.trans hon) (by decide), fun _ => (hr _ hr3).trans hvrun,
        fun _ _ => ⟨hl, he, hlc.trans (congrArg (satAdd · 1) hvl)⟩⟩
    next hk =>
      exact ⟨hvmet, hvcan, hvr.mono (by simp), hvbus, hvcnt, fun h => absurd (h.symm.trans hon) (by decide), fun _ => hvrun,
        fun _ h => absurd h hk⟩

/-- TEC rises at an ACK error only while the channel is error active. -/
def State.ackRaised (s : State) (n : Nat) : State := if s.canBus n = 1 then s.txError n else s

theorem State.ackRaised_raised (s : State) (hn : n < 8) (ht : (s.canCh n).tecCnt ≤ 247) : AttemptMet s (s.ackRaised n) n
    ∧ RegsBut s (s.ackRaised n) [Reg.CAN_STATUS n, Reg.CAN_EVT n, Reg.MSIX_PBA 0]
    ∧ ((s.ackRaised n).canCh n).tecCnt = (s.canCh n).tecCnt + (if s.canBus n = 1 then 8 else 0)
    ∧ (∀ i, 2 ≤ i → (s.ackRaised n).canStat n i = s.canStat n i)
    ∧ ∀ i, s.rbit (Reg.CAN_EVT n) i = true → (s.ackRaised n).rbit (Reg.CAN_EVT n) i = true := by
  unfold State.ackRaised
  split
  · obtain ⟨hr, hif, ho, hch, -, hstat, hevt⟩ := errKept_setErr s hn (show (s.canCh n).tecCnt + 8 ≤ 255 by omega) (s.canCh n).recCnt
    exact ⟨attemptMet_setErr s hn (by omega) _, hr, by rw [State.txError, hch], hstat, hevt⟩
  · exact ⟨.refl _ _, .refl _ _, rfl, fun _ _ => rfl, fun _ h => h⟩

/-- What the end of an attempt in an ACK error shows. -/
structure AckFailed (s t : State) (n : Nat) : Prop where
  noAcks : t.reg (Reg.CAN_TX_NOACK_CNT n) = satAdd (s.reg (Reg.CAN_TX_NOACK_CNT n)) 1
  frames : t.reg (Reg.CAN_ERR_FRAME_CNT n) = satAdd (s.reg (Reg.CAN_ERR_FRAME_CNT n)) 1
  last : t.reg (Reg.CAN_LAST_ERR n) = 3
  tec : (t.canCh n).tecCnt = (s.canCh n).tecCnt + (if s.canBus n = 1 then 8 else 0)
  off : s.rbit (Reg.CAN_CFG n) 8 = false → t.reg (Reg.CAN_NOACK_RUN n) = s.reg (Reg.CAN_NOACK_RUN n)
  run : s.rbit (Reg.CAN_CFG n) 8 = true → t.reg (Reg.CAN_NOACK_RUN n) = BitVec.ofNat 32 (min 255 ((s.reg (Reg.CAN_NOACK_RUN n)).toNat + 1))
    ∧ ((s.reg (Reg.CAN_NOACK_RUN n)).toNat + 1 = s.rfld (Reg.CAN_CFG n) 16 8 →
      t.canStat n CanStat.lonely = true ∧ t.rbit (Reg.CAN_EVT n) 2 = true ∧ t.reg (Reg.CAN_LONELY_CNT n) = satAdd (s.reg (Reg.CAN_LONELY_CNT n)) 1)

theorem State.attemptEnd_ackError (s : State) (hn : n < 8) {x : TxSlot} (hm : s.mgmt = Node.run) (hw : (s.canCh n).busOffWait = none)
    (hx : x.cancel = false) (hcur : (s.canCh n).current = some x) (ht : (s.canCh n).tecCnt ≤ 247) :
    AttemptFailed s (s.attemptEnd n x .ackError) n x TxOut.noAck ∧ AckFailed s (s.attemptEnd n x .ackError) n := by
  have hkept : ∀ n < 8, (∀ o ∈ [Reg.CAN_TX_NOACK_CNT n, Reg.CAN_ERR_FRAME_CNT n, Reg.CAN_LAST_ERR n, Reg.CAN_NOACK_RUN n, Reg.CAN_LONELY_CNT n],
        o ∉ [Reg.CAN_STATUS n, Reg.CAN_EVT n, Reg.MSIX_PBA 0] ∧ o ∉ Reg.CAN_TX_RETRY_CNT n :: outcomeRegs n ∧ o ∉ [Reg.CAN_STATUS n])
      ∧ (∀ o ∈ [Reg.CAN_TX_NOACK_CNT n, Reg.CAN_NOACK_RUN n, Reg.CAN_LONELY_CNT n, Reg.CAN_CFG n, Reg.CAN_STATUS n],
        o ∉ [Reg.CAN_ERR_FRAME_CNT n, Reg.CAN_LAST_ERR n])
      ∧ (∀ o ∈ [Reg.CAN_ERR_FRAME_CNT n, Reg.CAN_LAST_ERR n],
        o ∉ [Reg.CAN_TX_NOACK_CNT n, Reg.CAN_NOACK_RUN n, Reg.CAN_STATUS n, Reg.CAN_LONELY_CNT n, Reg.CAN_EVT n, Reg.MSIX_PBA 0])
      ∧ Reg.CAN_CFG n ∉ [Reg.CAN_STATUS n] ∧ Reg.CAN_STATUS n ∉ Reg.CAN_TX_RETRY_CNT n :: outcomeRegs n := by decide
  obtain ⟨hall, hno, herr, hcfg, hst⟩ := hkept n hn
  have heq : s.attemptEnd n x .ackError
      = ((((((s.loopDelay n x .ackError).errFrame n 3 false).noAck n).ackRaised n).attemptFails n x TxOut.noAck)).attemptLeft n := rfl
  rw [heq]
  obtain ⟨hmet1, hcan1, hr1, hbus1, hstat1⟩ := s.loopDelay_shown n x .ackError
  generalize s.loopDelay n x .ackError = a at hmet1 hcan1 hr1 hbus1 hstat1 ⊢
  have hr2 := regsBut_errFrame a n 3 false
  obtain ⟨hframes, hlast⟩ := a.errFrame_shows n 3 false
  have hmet2 : AttemptMet a (a.errFrame n 3 false) n := .of_regs hr2 (by simp) rfl List.prefix_rfl rfl
  have hcan2 : (a.errFrame n 3 false).can = a.can := rfl
  generalize a.errFrame n 3 false = b at hr2 hframes hlast hmet2 hcan2 ⊢
  have hk := noAcked_noAck b hn
  generalize b.noAck n = c at hk ⊢
  have hch : c.canCh n = s.canCh n := State.canCh_congr (hk.can.trans (hcan2.trans hcan1)) n
  obtain ⟨hmet4, hr4, htec, hstat4, hevt4⟩ := c.ackRaised_raised hn (by rw [hch]; exact ht)
  have hbus : c.canBus n = s.canBus n :=
    hk.bus.trans ((State.rfld_of_reg (hr2 _ (hno _ (by simp))) 0 2).trans hbus1)
  generalize c.ackRaised n = d at hmet4 hr4 htec hstat4 hevt4 ⊢
  obtain ⟨hf, hfk⟩ := (((hmet1.trans hmet2).trans hk.met).trans hmet4).ends hn hm hw hx hcur TxOut.noAck
  generalize (d.attemptFails n x TxOut.noAck).attemptLeft n = t at hf hfk ⊢
  have hcfgs : ∀ i, b.rbit (Reg.CAN_CFG n) i = s.rbit (Reg.CAN_CFG n) i := State.rbit_of_reg ((hr2 _ (hno _ (by simp))).trans (hr1 _ hcfg))
  have hlim : b.rfld (Reg.CAN_CFG n) 16 8 = s.rfld (Reg.CAN_CFG n) 16 8 := State.rfld_of_reg ((hr2 _ (hno _ (by simp))).trans (hr1 _ hcfg)) 16 8
  have hback : ∀ o ∈ [Reg.CAN_TX_NOACK_CNT n, Reg.CAN_ERR_FRAME_CNT n, Reg.CAN_LAST_ERR n, Reg.CAN_NOACK_RUN n, Reg.CAN_LONELY_CNT n], t.reg o = c.reg o :=
    fun o ho => (hfk.regs _ (hall o ho).2.1).trans (hr4 _ (hall o ho).1)
  have hfront : ∀ o ∈ [Reg.CAN_TX_NOACK_CNT n, Reg.CAN_NOACK_RUN n, Reg.CAN_LONELY_CNT n], b.reg o = s.reg o := fun o ho =>
    (hr2 _ (hno o (by simp at ho ⊢; tauto))).trans (hr1 _ (hall o (by simp at ho ⊢; tauto)).2.2)
  refine ⟨hf, ?_, ?_, ?_, ?_, fun h => ?_, fun h => ⟨?_, fun hrun => ?_⟩⟩
  · rw [hback _ (by simp), hk.count, hfront _ (by simp)]
  · rw [hback _ (by simp), hk.regs _ (herr _ (by simp)), hframes, hr1 _ (hall _ (by simp)).2.2]
  · rw [hback _ (by simp), hk.regs _ (herr _ (by simp)), hlast]
    rfl
  · rw [hfk.tec, htec, hch, hbus]
  · rw [hback _ (by simp), hk.off (by rw [hcfgs]; exact h), hfront _ (by simp)]
  · rw [hback _ (by simp), hk.run (by rw [hcfgs]; exact h), hfront _ (by simp)]
  · obtain ⟨hl, he, hlc⟩ := hk.lonely (by rw [hcfgs]; exact h) (by rw [hlim, hfront _ (by simp)]; exact hrun)
    refine ⟨(State.rbit_of_reg (hfk.regs _ hst) _).trans ((hstat4 _ (by decide)).trans hl), hfk.events _ (hevt4 _ he), ?_⟩
    rw [hback _ (by simp), hlc, hfront _ (by simp)]

/-- Another error has ended the attempt. -/
def State.errShown (s : State) (n : Nat) (code : BitVec 3) (dp acked : Bool) : State := (if acked then s.acked n else s).errFrame n code.toNat dp

theorem State.errShown_shown (s : State) (hn : n < 8) (code : BitVec 3) (dp acked : Bool) : AttemptMet s (s.errShown n code dp acked) n
    ∧ (s.errShown n code dp acked).can = s.can
    ∧ RegsBut s (s.errShown n code dp acked)
      ([Reg.CAN_NOACK_RUN n, Reg.CAN_STATUS n, Reg.CAN_EVT n, Reg.MSIX_PBA 0] ++ [Reg.CAN_ERR_FRAME_CNT n, Reg.CAN_LAST_ERR n])
    ∧ (s.errShown n code dp acked).reg (Reg.CAN_ERR_FRAME_CNT n) = satAdd (s.reg (Reg.CAN_ERR_FRAME_CNT n)) 1
    ∧ (s.errShown n code dp acked).reg (Reg.CAN_LAST_ERR n) = packU32 [(code.toNat, 0), (b2n dp, 3)]
    ∧ (acked = true → (s.errShown n code dp acked).reg (Reg.CAN_NOACK_RUN n) = 0 ∧ (s.errShown n code dp acked).canStat n CanStat.lonely = false) := by
  have hkept : ∀ n < 8, Reg.CAN_ERR_FRAME_CNT n ∉ [Reg.CAN_NOACK_RUN n, Reg.CAN_STATUS n, Reg.CAN_EVT n, Reg.MSIX_PBA 0]
      ∧ Reg.CAN_NOACK_RUN n ∉ [Reg.CAN_ERR_FRAME_CNT n, Reg.CAN_LAST_ERR n] ∧ Reg.CAN_STATUS n ∉ [Reg.CAN_ERR_FRAME_CNT n, Reg.CAN_LAST_ERR n] := by decide
  obtain ⟨hframe, hrun, hst⟩ := hkept n hn
  have hfront : ∃ u, u = (if acked then s.acked n else s)
      ∧ RegsBut s u [Reg.CAN_NOACK_RUN n, Reg.CAN_STATUS n, Reg.CAN_EVT n, Reg.MSIX_PBA 0] ∧ u.hif = s.hif ∧ s.out <+: u.out ∧ u.can = s.can
      ∧ (acked = true → u.reg (Reg.CAN_NOACK_RUN n) = 0 ∧ u.canStat n CanStat.lonely = false) := by
    cases acked with
    | true =>
      obtain ⟨hr, hif, ho, hcan, -, hq, hl⟩ := s.acked_quiet hn
      exact ⟨_, rfl, hr, hif, ho, hcan, fun _ => ⟨hq, hl⟩⟩
    | false => exact ⟨_, rfl, .refl _ _, rfl, List.prefix_rfl, rfl, fun h => by cases h⟩
  obtain ⟨u, hu, hr, hif, ho, hcan, hq⟩ := hfront
  unfold State.errShown
  rw [← hu]
  have hr2 := regsBut_errFrame u n code.toNat dp
  obtain ⟨hframes, hlast⟩ := u.errFrame_shows n code.toNat dp
  refine ⟨.of_regs (hr.andThen hr2) (by simp) hif ho hcan, hcan, hr.andThen hr2, ?_, hlast, fun ha => ?_⟩
  · rw [hframes, hr _ hframe]
  · obtain ⟨hq0, hl⟩ := hq ha
    exact ⟨(hr2 _ hrun).trans hq0, (State.rbit_of_reg (hr2 _ hst) _).trans hl⟩

/-- TEC rises by 8 outside the arbitration field. -/
def State.errRaised (s : State) (n : Nat) (inArb : Bool) : State := if inArb then s else s.txError n

theorem State.errRaised_raised (s : State) (hn : n < 8) (ht : (s.canCh n).tecCnt ≤ 247) (inArb : Bool) : AttemptMet s (s.errRaised n inArb) n
    ∧ RegsBut s (s.errRaised n inArb) [Reg.CAN_STATUS n, Reg.CAN_EVT n, Reg.MSIX_PBA 0]
    ∧ ((s.errRaised n inArb).canCh n).tecCnt = (s.canCh n).tecCnt + (if inArb then 0 else 8)
    ∧ ∀ i, 2 ≤ i → (s.errRaised n inArb).canStat n i = s.canStat n i := by
  unfold State.errRaised
  split
  · exact ⟨.refl _ _, .refl _ _, rfl, fun _ _ => rfl⟩
  · obtain ⟨hr, hif, ho, hch, -, hstat, hevt⟩ := errKept_setErr s hn (show (s.canCh n).tecCnt + 8 ≤ 255 by omega) (s.canCh n).recCnt
    exact ⟨attemptMet_setErr s hn (by omega) _, hr, by rw [State.txError, hch], hstat⟩

theorem State.attemptEnd_eq_error (s : State) (x : TxSlot) (code : BitVec 3) (dp inArb acked : Bool) :
    s.attemptEnd n x (.error code dp inArb acked)
      = (((((s.loopDelay n x (.error code dp inArb acked)).errShown n code dp acked).errRaised n inArb).attemptFails n x TxOut.error)).attemptLeft n := rfl

/-- What the end of an attempt in another error shows. -/
structure ErrFailed (s t : State) (n : Nat) (code : BitVec 3) (dp inArb acked : Bool) : Prop where
  frames : t.reg (Reg.CAN_ERR_FRAME_CNT n) = satAdd (s.reg (Reg.CAN_ERR_FRAME_CNT n)) 1
  last : t.reg (Reg.CAN_LAST_ERR n) = packU32 [(code.toNat, 0), (b2n dp, 3)]
  tec : (t.canCh n).tecCnt = (s.canCh n).tecCnt + (if inArb then 0 else 8)
  quiet : acked = true → t.reg (Reg.CAN_NOACK_RUN n) = 0 ∧ t.canStat n CanStat.lonely = false

theorem State.attemptEnd_error (s : State) (hn : n < 8) {x : TxSlot} (hm : s.mgmt = Node.run) (hw : (s.canCh n).busOffWait = none)
    (hx : x.cancel = false) (hcur : (s.canCh n).current = some x) (ht : (s.canCh n).tecCnt ≤ 247) (code : BitVec 3) (dp inArb acked : Bool) :
    AttemptFailed s (s.attemptEnd n x (.error code dp inArb acked)) n x TxOut.error
    ∧ ErrFailed s (s.attemptEnd n x (.error code dp inArb acked)) n code dp inArb acked := by
  have hkept : ∀ n < 8, (∀ o ∈ [Reg.CAN_ERR_FRAME_CNT n, Reg.CAN_LAST_ERR n, Reg.CAN_NOACK_RUN n],
        o ∉ [Reg.CAN_STATUS n, Reg.CAN_EVT n, Reg.MSIX_PBA 0] ∧ o ∉ Reg.CAN_TX_RETRY_CNT n :: outcomeRegs n)
      ∧ Reg.CAN_ERR_FRAME_CNT n ∉ [Reg.CAN_STATUS n] ∧ Reg.CAN_STATUS n ∉ Reg.CAN_TX_RETRY_CNT n :: outcomeRegs n := by decide
  obtain ⟨hall, hfr, hst⟩ := hkept n hn
  rw [State.attemptEnd_eq_error]
  obtain ⟨hmet1, hcan1, hr1, -, -⟩ := s.loopDelay_shown n x (.error code dp inArb acked)
  generalize s.loopDelay n x (.error code dp inArb acked) = a at hmet1 hcan1 hr1 ⊢
  obtain ⟨hmet2, hcan2, -, hframes, hlast, hquiet⟩ := a.errShown_shown hn code dp acked
  generalize a.errShown n code dp acked = b at hmet2 hcan2 hframes hlast hquiet ⊢
  have hch : b.canCh n = s.canCh n := State.canCh_congr (hcan2.trans hcan1) n
  obtain ⟨hmet3, hr3, htec, hstat3⟩ := b.errRaised_raised hn (by rw [hch]; exact ht) inArb
  generalize b.errRaised n inArb = c at hmet3 hr3 htec hstat3 ⊢
  obtain ⟨hf, hfk⟩ := ((hmet1.trans hmet2).trans hmet3).ends hn hm hw hx hcur TxOut.error
  generalize (c.attemptFails n x TxOut.error).attemptLeft n = t at hf hfk ⊢
  have hback : ∀ o ∈ [Reg.CAN_ERR_FRAME_CNT n, Reg.CAN_LAST_ERR n, Reg.CAN_NOACK_RUN n], t.reg o = b.reg o :=
    fun o ho => (hfk.regs _ (hall o ho).2).trans (hr3 _ (hall o ho).1)
  refine ⟨hf, ?_, ?_, ?_, fun ha => ?_⟩
  · rw [hback _ (by simp), hframes, hr1 _ hfr]
  · rw [hback _ (by simp), hlast]
  · rw [hfk.tec, htec, hch]
  · obtain ⟨hrun, hl⟩ := hquiet ha
    refine ⟨(hback _ (by simp)).trans hrun, (State.rbit_of_reg (hfk.regs _ hst) _).trans ((hstat3 _ (by decide)).trans hl)⟩

/-- An error that takes TEC past 255 takes the channel into bus-off. -/
theorem State.attemptEnd_busOff (s : State) (hn : n < 8) {x : TxSlot} (hm : s.mgmt = Node.run) (hw : (s.canCh n).busOffWait = none)
    (hx : x.cancel = false) (ht : 247 < (s.canCh n).tecCnt) (code : BitVec 3) (dp acked : Bool) :
    (s.attemptEnd n x (.error code dp false acked)).canBus n = 3
    ∧ (s.attemptEnd n x (.error code dp false acked)).reg (Reg.CAN_BUSOFF_CNT n) = satAdd (s.reg (Reg.CAN_BUSOFF_CNT n)) 1
    ∧ (s.attemptEnd n x (.error code dp false acked)).rbit (Reg.CAN_EVT n) 0 = true := by
  have hkept : ∀ n < 8, (Reg.CAN_STATUS n ∉ Reg.CAN_TX_RETRY_CNT n :: outcomeRegs n ∧ Reg.CAN_BUSOFF_CNT n ∉ Reg.CAN_TX_RETRY_CNT n :: outcomeRegs n)
      ∧ Reg.CAN_BUSOFF_CNT n ∉ attemptRegs n ∧ Reg.MGMT_STATE ∉ attemptRegs n ∧ Reg.MGMT_STATE ∉ errRegs n := by decide
  obtain ⟨⟨hst, hb1⟩, hb2, hm1, hm2⟩ := hkept n hn
  rw [State.attemptEnd_eq_error]
  obtain ⟨hmet1, hcan1, -, -, -⟩ := s.loopDelay_shown n x (.error code dp false acked)
  generalize s.loopDelay n x (.error code dp false acked) = a at hmet1 hcan1 ⊢
  obtain ⟨hmet2, hcan2, -, -, -, -⟩ := a.errShown_shown hn code dp acked
  generalize a.errShown n code dp acked = b at hmet2 hcan2 ⊢
  have hmet := hmet1.trans hmet2
  have hch : b.canCh n = s.canCh n := State.canCh_congr (hcan2.trans hcan1) n
  have herr : ErrMoved b (b.errRaised n false) n ((b.canCh n).tecCnt + 8) (b.canCh n).recCnt := errMoved_setErr b hn _ _
  generalize b.errRaised n false = c at herr ⊢
  have htec : 255 < (b.canCh n).tecCnt + 8 := by rw [hch]; omega
  obtain ⟨hcnt, hevt⟩ := herr.entered htec
  obtain ⟨lb, e, f, hchan⟩ := herr.channel
  have hmgmt : c.mgmt = Node.run := (State.mgmt_congr ((herr.regs _ hm2).trans (hmet.regs _ hm1))).trans hm
  rw [State.attemptFails_left c hn hx TxOut.error hmgmt (by rw [hchan, hch]; exact hw)]
  have hk := failKept_attemptFails c hn hx TxOut.error
  refine ⟨(State.rfld_of_reg (hk.regs _ hst) 0 2).trans (herr.bus.trans (errState_busOff.mpr htec)), ?_, hk.events 0 hevt⟩
  rw [hk.regs _ hb1, hcnt, hmet.regs _ hb2]

theorem ends_txAttemptEnd {dt : Nat} {r : TxResult} {x : TxSlot} {P : State → Prop} (hn : n < 8) (hcur : ((s.fresh.pass dt).canCh n).current = some x)
    (hp : P ((s.fresh.pass dt).attemptEnd n x r)) : Ends (.txAttemptEnd n r dt) s P := by
  refine ⟨_, (need_of (decide_eq_true hn) _).trans (congrArg Host.Outcome.next ?_), hp⟩
  rw [hcur]

/-- Settles O31: entries, attempts begun, and each way that an attempt ends. -/
theorem canTransmission : Obligations.CanTransmission := by
  unfold Obligations.CanTransmission
  refine ⟨fun s ch i l rest hn hm hmode hin hroom hl hi => ends_canTxEntryTaken hn hm hmode hin hroom hl hi,
    fun s ch dt x hn hm hon hmon hcur hx => ⟨_, need_of (decide_eq_true hn) _, State.attemptStart_begins hm hon hmon hcur hx⟩,
    fun s ch dt x hn hm hcur hw hx => ⟨?_, ?_, fun ht _ => ⟨?_, fun code dp inArb acked => ?_⟩, fun _ ht code dp acked => ?_⟩⟩
  · exact ends_txAttemptEnd hn hcur (State.attemptEnd_sends _ hn hm hw hx)
  · exact ends_txAttemptEnd hn hcur (State.attemptEnd_lostArb _ hn hm hw hx hcur)
  · obtain ⟨hf, hcnt, hframes, hlast, htec, hoff, hrun⟩ := State.attemptEnd_ackError _ hn hm hw hx hcur ht
    exact ends_txAttemptEnd hn hcur ⟨hf, hcnt, hframes, hlast, htec, hoff, hrun⟩
  · obtain ⟨hf, hframes, hlast, htec, hquiet⟩ := State.attemptEnd_error _ hn hm hw hx hcur ht code dp inArb acked
    exact ends_txAttemptEnd hn hcur ⟨hf, hframes, hlast, htec, hquiet⟩
  · exact ends_txAttemptEnd hn hcur (State.attemptEnd_busOff _ hn hm hw hx ht code dp acked)

end

end Sys2Proof.Machine

/-! PROOFS. CAN integration, bus-off recovery, CAN_CANCEL and CAN_CHANNEL_CTL (R376, R385-R388, R404). -/

namespace Sys2Proof.Machine

section

variable {s : State} {n : Nat}

theorem ends_integrationComplete (hn : n < 8) (hm : s.mgmt = Node.run) (hi : s.canStat n CanStat.integrating = true) :
    Ends (.integrationComplete n) s (fun t => t.canStat n CanStat.integrating = false
      ∧ t.canBus n = errState (s.canCh n).tecCnt (s.canCh n).recCnt ∧ t.can = s.can ∧ RegsBut s t [Reg.CAN_STATUS n]) := by
  have hgo : (s.fresh.mgmt == Node.run && s.fresh.canStat n CanStat.integrating) = true := by
    rw [show s.fresh.mgmt = Node.run from hm, show s.fresh.canStat n CanStat.integrating = true from hi]
    rfl
  refine ⟨_, (need_of (decide_eq_true hn) _).trans (congrArg Host.Outcome.next (if_pos hgo)), ?_, ?_, rfl, ?_⟩
  · exact (State.rbit_setRegFld _ _ _ _ _ _ _).trans ((if_neg fun h => absurd h.2.2.1 (by decide)).trans (State.rbit_setRegBit_self _ _ _ _ (by decide)))
  · exact (State.rfld_setRegFld_self _ _ _ _ _ (by decide)).trans (Nat.mod_eq_of_lt (errState_lt _ _))
  · exact RegsBut.trans (regsBut_setRegBit s.fresh _ _ _) (regsBut_setRegFld _ _ _ _ _)

theorem ends_busOffRecoveryComplete (hn : n < 8) (hm : s.mgmt = Node.run) (hb : s.canBus n = 3) (hr : s.canStat n CanStat.recovering = true) :
    Ends (.busOffRecoveryComplete n) s (fun t => t.canBus n = 1 ∧ t.canStat n CanStat.recovering = false
      ∧ (t.canCh n).tecCnt = 0 ∧ (t.canCh n).recCnt = 0 ∧ (t.canCh n).slots = (s.canCh n).slots ∧ t.rbit (Reg.CAN_EVT n) 8 = true) := by
  have hst : ∀ n < 8, Reg.CAN_STATUS n ∉ [Reg.CAN_EVT n, Reg.MSIX_PBA 0] ∧ Reg.CAN_EVT n ≠ Reg.MSIX_PBA 0 := by decide
  obtain ⟨hs, he⟩ := hst n hn
  let a : State := s.fresh.updCan n (fun c => { c with tecCnt := 0, recCnt := 0 })
  let u : State := (a.setCanBus n 1).setCanStat n CanStat.recovering false
  have hgo : (s.fresh.mgmt == Node.run && s.fresh.canBus n == 3 && s.fresh.canStat n CanStat.recovering) = true := by
    rw [show s.fresh.mgmt = Node.run from hm, show s.fresh.canStat n CanStat.recovering = true from hr, show s.fresh.canBus n = 3 from hb]
    rfl
  have hstatus : (u.raise (Reg.CAN_EVT n) 0x100).reg (Reg.CAN_STATUS n) = u.reg (Reg.CAN_STATUS n) := regsBut_raise _ _ _ _ hs
  have hch : (u.raise (Reg.CAN_EVT n) 0x100).canCh n = { s.canCh n with tecCnt := 0, recCnt := 0 } :=
    (State.canCh_congr (State.raise_can u _ _) n).trans (s.fresh.canCh_updCan n (fun c => { c with tecCnt := 0, recCnt := 0 }))
  refine ⟨u.raise (Reg.CAN_EVT n) 0x100, (need_of (decide_eq_true hn) _).trans (congrArg Host.Outcome.next (if_pos hgo)),
    (State.rfld_of_reg hstatus 0 2).trans ?_, (State.rbit_of_reg hstatus _).trans ?_, by rw [hch], by rw [hch], by rw [hch],
    State.rbit_raise_self _ _ _ _ he (by decide)⟩
  · exact (State.rfld_setRegBit_ne _ _ _ _ _ _ _ (.inr (.inl (by decide)))).trans (State.rfld_setRegFld_self _ _ _ _ _ (by decide))
  · exact State.rbit_setRegBit_self _ _ _ _ (by decide)

/-! ## CAN_CANCEL -/

theorem AtHead.can {s u : State} (h : AtHead s u) : u.can = s.can := h.parts .can (by decide)

/-- With no descriptor of the channel's ring prefetched, a cancel finds none there. -/
theorem State.cancelPrefetched_none (s : State) (n : Nat) (hit : U16 → Bool) (h : s.fetchedOf (10 + n) = []) : s.cancelPrefetched n hit = (s, 0) := by
  have hnone : ∀ d ∈ s.hif.fetched, (d.1 == 10 + n) = false := by
    intro d hd
    rw [State.fetchedOf, List.map_eq_nil_iff, List.filter_eq_nil_iff] at h
    simpa using h d hd
  have hgone : s.hif.fetched.filter (fun d => d.1 == 10 + n && hit (u16At d.2 6)) = [] := by
    rw [List.filter_eq_nil_iff]
    intro d hd
    rw [hnone d hd, Bool.false_and]
    decide
  have hstay : s.hif.fetched.filter (fun d => !(d.1 == 10 + n && hit (u16At d.2 6))) = s.hif.fetched := by
    rw [List.filter_eq_self]
    intro d hd
    rw [hnone d hd]
    rfl
  unfold State.cancelPrefetched
  dsimp only
  rw [hgone, hstay]
  rfl

/-- The frames that a cancel of all of the host's frames ends: those that are not in transmission. -/
def hostWaits (t : TxSlot) : Bool := !t.node && !t.inTx

theorem State.cancel_all {d : Desc} (hch : d.arg 8 1 ≤ 7) (hf : d.arg 9 1 = 1) (hresv : d.resv 0xC 52 = true)
    (hnone : (s.endFrames (d.arg 8 1) hostWaits TxOut.cancelled).fetchedOf (10 + d.arg 8 1) = [])
    (hfly : (s.canCh (d.arg 8 1)).slots.any (fun t => !t.node && t.inTx) = false) :
    s.cancel d = if ((s.canCh (d.arg 8 1)).slots.filter hostWaits).length = 0
      then (s.endFrames (d.arg 8 1) hostWaits TxOut.cancelled).done d Status.notFound
      else (s.endFrames (d.arg 8 1) hostWaits TxOut.cancelled).done d Status.ok
        (BitVec.ofNat 64 ((s.canCh (d.arg 8 1)).slots.filter hostWaits).length) := by
  have hmine : (fun t : TxSlot => !t.node && ((d.arg 9 1 == 1 || t.tag == u16At d.raw 0xA)) && !t.inTx) = hostWaits := by
    funext t
    rw [hf]
    simp [hostWaits]
  have hflying : (s.canCh (d.arg 8 1)).slots.any (fun t : TxSlot => !t.node && ((d.arg 9 1 == 1 || t.tag == u16At d.raw 0xA)) && t.inTx) = false := by
    rw [hf]
    simpa using hfly
  unfold State.cancel
  extract_lets n hit mine k flying u
  have hk : k = ((s.canCh (d.arg 8 1)).slots.filter hostWaits).length := congrArg (fun f => ((s.canCh (d.arg 8 1)).slots.filter f).length) hmine
  have hu : u = s.endFrames (d.arg 8 1) hostWaits TxOut.cancelled := congrArg (fun f => s.endFrames (d.arg 8 1) f TxOut.cancelled) hmine
  have hpre : u.cancelPrefetched n hit = (u, 0) := State.cancelPrefetched_none u n hit (by rw [hu]; exact hnone)
  refine (if_neg (by rw [hf, hresv]; simp; omega)).trans ?_
  rw [hpre]
  refine (if_neg (by rw [show flying = false from hflying]; decide)).trans ?_
  rw [hk, hu, Nat.add_zero]

/-- CAN_CANCEL of all of the host's frames, with none in transmission and none prefetched. -/
theorem ends_canCancel {d : Desc} (h : s.Heads 0x40 d) (hch : d.arg 8 1 ≤ 7) (hf : d.arg 9 1 = 1) (hresv : d.resv 0xC 52 = true)
    (hring : s.fetchedOf (10 + d.arg 8 1) = []) (hfly : ∀ x, x ∈ (s.canCh (d.arg 8 1)).slots → x.node = false → x.inTx = false)
    {P : State → Prop} (hp : ∀ t, (t.canCh (d.arg 8 1)).slots = (s.canCh (d.arg 8 1)).slots.filter TxSlot.node →
      (if ((s.canCh (d.arg 8 1)).slots.filter (fun x => !x.node)).length = 0 then Answered s t d Status.notFound 0
        else Answered s t d Status.ok (BitVec.ofNat 64 ((s.canCh (d.arg 8 1)).slots.filter (fun x => !x.node)).length)) → P t) :
    Ends .canCancel s P := by
  refine ends_dirCmd h rfl fun u hu => ?_
  have hslots : (u.canCh (d.arg 8 1)).slots = (s.canCh (d.arg 8 1)).slots := congrArg Can.slots (State.canCh_congr hu.can _)
  have hwaits : ∀ x ∈ (s.canCh (d.arg 8 1)).slots, hostWaits x = !x.node := by
    intro x hx
    cases hnode : x.node with
    | true => rw [hostWaits, hnode]; rfl
    | false => rw [hostWaits, hnode, hfly x hx hnode]; rfl
  have hcount : (u.canCh (d.arg 8 1)).slots.filter hostWaits = (s.canCh (d.arg 8 1)).slots.filter (fun x => !x.node) := by
    rw [hslots]
    exact List.filter_congr hwaits
  have hpost := canPosted_endFrames u (show d.arg 8 1 < 8 by omega) hostWaits TxOut.cancelled
  have hleft : ((u.endFrames (d.arg 8 1) hostWaits TxOut.cancelled).canCh (d.arg 8 1)).slots = (s.canCh (d.arg 8 1)).slots.filter TxSlot.node := by
    obtain ⟨b, e, hchan⟩ := hpost.channel
    rw [hchan, State.framesOut, State.canCh_updCan]
    show (u.canCh (d.arg 8 1)).slots.filter (fun t => !hostWaits t) = _
    rw [hslots]
    refine List.filter_congr fun x hx => ?_
    rw [hwaits x hx, Bool.not_not]
  obtain ⟨k, hif⟩ := hpost.hif
  have htaken : HeadTaken s (u.endFrames (d.arg 8 1) hostWaits TxOut.cancelled) := hu.taken.then (by rw [hif]; rfl) (by rw [hif]; rfl) (by rw [hif]; rfl)
  have hnone : (u.endFrames (d.arg 8 1) hostWaits TxOut.cancelled).fetchedOf (10 + d.arg 8 1) = [] := by
    obtain ⟨l, f, c, hh⟩ := hu.hif
    rw [State.fetchedOf, hif]
    show ((u.hif.fetched.filter _).map _) = []
    rw [hh]
    refine (fetched_dropFirst 0 _ _).trans ?_
    rw [if_neg (by omega)]
    exact hring
  rw [State.cancel_all hch hf hresv hnone (by
    rw [hslots, List.any_eq_false]
    intro x hx
    cases hnode : x.node with
    | true => simp
    | false => simp [hfly x hx hnode]), hcount]
  split
  next h0 => exact hp _ hleft (by rw [if_pos h0]; exact htaken.answered d _ _)
  next h0 => exact hp _ hleft (by rw [if_neg h0]; exact htaken.answered d _ _)

/-! ## CAN_CHANNEL_CTL -/

theorem ends_channelCtl_term {d : Desc} (h : s.Heads 0x41 d) (hch : d.arg 8 1 ≤ 7) (hv : d.arg 0xA 1 ≤ 1) (hresv : d.resv 0xB 53 = true)
    (hf : d.arg 9 1 = 2) : Ends .canChannelCtl s (fun t => Answered s t d Status.ok ((t.canStatusView (d.arg 8 1)).zeroExtend 64)
      ∧ t.canTerm (d.arg 8 1) = decide (d.arg 0xA 1 = 1)) := by
  refine ends_dirCmd h rfl fun u hu => ?_
  let v : State := u.updCan (d.arg 8 1) (fun c => { c with term := some (d.arg 0xA 1 == 1) })
  have heq : u.channelCtl d = v.done d Status.ok ((v.canStatusView (d.arg 8 1)).zeroExtend 64) := by
    unfold State.channelCtl
    dsimp only
    rw [hf, hresv]
    refine (if_neg (by simp; omega)).trans ((if_neg (by simp)).trans ?_)
    rfl
  rw [heq]
  refine ⟨(hu.taken.then_hif rfl).answered d _ _, ?_⟩
  show ((v.canCh (d.arg 8 1)).term.getD _) = _
  rw [State.canCh_updCan]
  rfl

theorem ends_channelCtl_monitor {d : Desc} (h : s.Heads 0x41 d) (hch : d.arg 8 1 ≤ 7) (hv : d.arg 0xA 1 ≤ 1) (hresv : d.resv 0xB 53 = true)
    (hf : d.arg 9 1 = 3) (hm : s.mgmt = Node.run) (hmode : s.canMode (d.arg 8 1) = 1) (hin : s.canStat (d.arg 8 1) CanStat.outOfService = false) :
    Ends .canChannelCtl s (fun t => Answered s t d Status.ok ((t.canStatusView (d.arg 8 1)).zeroExtend 64)
        ∧ t.canMonitor (d.arg 8 1) = decide (d.arg 0xA 1 = 1)) := by
  have hkept : ∀ n ≤ 7, Reg.CAN_CFG n ∉ headRegs ∧ Reg.CAN_STATUS n ∉ headRegs := by decide
  refine ends_dirCmd h rfl fun u hu => ?_
  have hmode' : u.canMode (d.arg 8 1) = 1 := (State.rfld_of_reg (hu.regs _ (hkept _ hch).1) 0 2).trans hmode
  have hin' : u.canStat (d.arg 8 1) CanStat.outOfService = false := (State.rbit_of_reg (hu.regs _ (hkept _ hch).2) _).trans hin
  have hm' : u.mgmt = Node.run := (State.mgmt_congr (hu.regs _ (by decide))).trans hm
  let v : State := u.setCanStat (d.arg 8 1) CanStat.monitorOvr (d.arg 0xA 1 == 1)
  have heq : u.channelCtl d = v.done d Status.ok ((v.canStatusView (d.arg 8 1)).zeroExtend 64) := by
    unfold State.channelCtl
    dsimp only
    rw [hf, hresv, hmode', hin', hm']
    refine (if_neg (by simp; omega)).trans ((if_neg (by decide)).trans ?_)
    rfl
  rw [heq]
  refine ⟨(hu.taken.then_hif rfl).answered d _ _, ?_⟩
  have hcfg : v.canMode (d.arg 8 1) = 1 :=
    (State.rfld_of_reg (regsBut_setRegBit u (Reg.CAN_STATUS (d.arg 8 1)) _ _ _ (by simp)) 0 2).trans hmode'
  have hmon : v.canStat (d.arg 8 1) CanStat.monitorOvr = (d.arg 0xA 1 == 1) := State.rbit_setRegBit_self _ _ _ _ (by decide)
  show (v.canMode (d.arg 8 1) == 2 || v.canStat (d.arg 8 1) CanStat.monitorOvr) = _
  rw [hcfg, hmon]
  rfl

/-- Settles O32: integration, recovery, and the two commands by their lemmas. -/
theorem canControl : Obligations.CanControl := by
  unfold Obligations.CanControl
  refine ⟨fun s ch hn hm hi => ends_integrationComplete hn hm hi, fun s ch hn hm hb hr => ends_busOffRecoveryComplete hn hm hb hr,
    fun s d h hch hf hresv hring => ⟨fun hnode => ?_, fun hfly hne => ?_⟩,
    fun s d h hch hv hresv => ⟨fun hf => ends_channelCtl_term h hch hv hresv hf,
      fun hf hm hmode hin => ends_channelCtl_monitor h hch hv hresv hf hm hmode hin⟩⟩
  · have hnone : (s.canCh (d.arg 8 1)).slots.filter (fun x => !x.node) = [] :=
      List.filter_eq_nil_iff.mpr fun x hx => by rw [hnode x hx]; decide
    refine ends_canCancel h hch hf hresv hring (fun x hx hno => absurd ((hnode x hx).symm.trans hno) (by decide)) fun t hslots hans => ?_
    rw [hnone, if_pos List.length_nil] at hans
    exact ⟨hans, hslots.trans (List.filter_eq_self.mpr hnode)⟩
  · refine ends_canCancel h hch hf hresv hring hfly fun t hslots hans => ?_
    rw [if_neg (show ¬ ((s.canCh (d.arg 8 1)).slots.filter (fun x => !x.node)).length = 0 from hne)] at hans
    exact ⟨hans, hslots⟩

end

end Sys2Proof.Machine

/-! PROOFS. A calibration slot whose source's mode does not fit its field of EX_STATUS (R180, Table 5-9): over an arbitrary state the lane field does not read the lane. -/

namespace Sys2Proof.Machine

/-- A calibration slot of a source's item shows the source's last mode and the lane. -/
theorem State.slotStart_shows (s : State) (n k : Nat) (hm : s.mgmt = Node.setup) (hon : s.laneOn n = true) (hslot : (s.lane n).slot = none)
    (hcal : (s.lane n).calActive = false) (hdue : (s.lane n).calDue = true) (hitem : s.calItemFrom n (s.lane n).calItem = 16 + k) :
    ((s.slotStart n).lane n).calItem = 16 + k
      ∧ (s.slotStart n).reg (Reg.EX_STATUS k) = packU32 [(1, 0), (Sparse.get 0 s.fe.exModes k, 1), (n, 8)] := by
  have hrest : ∀ (l : List Nat) (u : State), (l.foldl State.restSource u).fe = u.fe := by
    intro l u
    induction l generalizing u with
    | nil => rfl
    | cons j l ih => exact ih _
  have hstart : s.slotStart n = s.calStart n := by
    unfold State.slotStart
    dsimp only
    refine (if_neg (by rw [hslot, hcal]; decide)).trans ((if_neg (by rw [hon, hm]; decide)).trans (if_pos ?_))
    rw [if_neg (by rw [hm]; decide), hdue]
    simp
  rw [hstart]
  unfold State.calStart
  dsimp only
  rw [hitem, if_neg (by omega), Nat.add_sub_cancel_left]
  have hmodes : (s.crosspoint n (s.calSwitches n (16 + k))).fe.exModes = s.fe.exModes := by
    rw [State.crosspoint, State.updLane]
    show (List.foldl State.restSource s _).fe.exModes = _
    rw [hrest]
  refine ⟨?_, ?_⟩
  · rw [State.lane, State.updLane, Sparse.upd, Sparse.get_set_self]
  · refine (State.reg_setReg _ _ _ _).trans ((if_pos rfl).trans ?_)
    rw [hmodes]

theorem exec_laneSlotStart (s : State) {n : Nat} (hn : n < 48) : exec (.laneSlotStart n) s = .next (s.fresh.slotStart n) :=
  need_of (decide_eq_true hn) _

/-- A node in SETUP with a calibration slot due on lane 0 at source 0's item, and a last mode of 128 that is held for the source. -/
def calibrating : State := { State.reset with
  regs := [(Reg.MGMT_STATE, 3), (Reg.LANE_CTL 0, 1), (Reg.EX_LAST_MAG 0, 1)]
  fe := { lanes := [(0, { calDue := true, calItem := 16 })], exModes := [(0, 128)] } }

/-- Refutes O26: with 128 held as the last mode of source 0, EX_STATUS of its calibration slot on lane 0 reads lane 1. -/
theorem not_lanesAndCalibration : ¬ Obligations.LanesAndCalibration := by
  unfold Obligations.LanesAndCalibration
  intro h
  obtain ⟨⟨-, hcal, -⟩, -⟩ := h
  obtain ⟨t, ht, -, -, -, -, -, hshown⟩ := hcal calibrating 0 (by decide) (.inr (by decide)) (by decide) (by decide) (by decide) (by decide) (.inr (by decide))
  obtain ⟨hitem, hreg⟩ := calibrating.fresh.slotStart_shows 0 0 (by decide) (by decide) (by decide) (by decide) (by decide) (by decide)
  have hrun : exec (.laneSlotStart 0) calibrating = .next (calibrating.fresh.slotStart 0) := exec_laneSlotStart _ (by decide)
  rw [hrun] at ht
  cases ht
  have hlane := (hshown 0 (by decide) hitem).2
  rw [State.rfld, hreg] at hlane
  exact absurd hlane (by decide)

end Sys2Proof.Machine

/-! PROOFS. CFG and REC commands as CTRL takes them (R119, R121, R157, R187, R212, R234, R263, R396, R403). -/

namespace Sys2Proof.Machine

section

variable {s : State} {d : Desc} {op : Nat}

/-! ## The taking of a CFG command -/

/-- The records of a taken command wait for Inlet. -/
theorem State.submit_taken (h : s.cmdHead (· == op) = some d) (u : CmdUnit) :
    Taken s ((s.fresh.takeHead 0).submit { u with opcode := BitVec.ofNat 16 op, tag := d.tag, flags := u16At d.raw 2 }) d u := by
  have hu := s.atHead
  have hop : d.opcode = op := by simpa using State.cmdHead_opcode h
  have hin : (s.fresh.takeHead 0).inlet = s.inlet := hu.parts .inlet (by decide)
  have hcmd : (s.fresh.takeHead 0).cmdRecords = s.cmdRecords := by rw [State.cmdRecords, hin]; rfl
  have hnow : (s.fresh.takeHead 0).now = s.now := State.now_congr hu.ws
  obtain ⟨hready, hrun, hf⟩ := hu.taken
  obtain ⟨l, f, c, hif⟩ := hu.hif
  have htarn : (s.fresh.takeHead 0).tarn = s.tarn := hu.tarn
  have hregs := hu.regs
  generalize s.fresh.takeHead 0 = v at hin hcmd hnow hready hrun hf hif htarn hregs ⊢
  refine ⟨?_, ?_, ⟨hready, hrun, hf⟩, hregs, htarn⟩
  · show v.inlet.cmds ++ [_] = _
    rw [hin, hop, hnow, hcmd]
  · show v.hif.allowance - _ = _
    rw [hif]

/-- A good CFG command. -/
theorem ends_cfg_good {i : Instr} {check : Desc → State → Check} (hi : exec i s = .next (s.fresh.cfgTake op check)) (h : s.Heads op d)
    (hheld : s.cfgHeld = false) {u : CmdUnit} (hc : check d (s.fresh.takeHead 0) = .inr u) : Ends i s (fun t => Taken s t d { u with cfg := true }) := by
  have htake : s.fresh.cfgTake op check
      = (s.fresh.takeHead 0).submit { u with opcode := BitVec.ofNat 16 op, cfg := true, tag := d.tag, flags := u16At d.raw 2 } := by
    obtain ⟨hh, ha⟩ := State.heads_fresh h
    unfold State.cfgTake
    rw [hh]
    dsimp only
    rw [if_neg (by rw [show s.fresh.cfgHeld = false from hheld]; decide), if_neg (by rw [ha]; decide), hc]
  exact ⟨_, hi.trans (congrArg _ htake), State.submit_taken h.1 { u with cfg := true }⟩

/-- A bad one answers with the status of its check. -/
theorem ends_cfg_bad {i : Instr} {check : Desc → State → Check} (hi : exec i s = .next (s.fresh.cfgTake op check)) (h : s.Heads op d)
    (hheld : s.cfgHeld = false) {st : Nat} {w : State} (hc : check d (s.fresh.takeHead 0) = .inl (st, w))
    (hif : w.hif = (s.fresh.takeHead 0).hif) {P : State → Prop} (hp : Answered s (w.done d st) d st 0 → P (w.done d st)) : Ends i s P := by
  have htake : s.fresh.cfgTake op check = w.done d st := by
    obtain ⟨hh, ha⟩ := State.heads_fresh h
    unfold State.cfgTake
    rw [hh]
    dsimp only
    rw [if_neg (by rw [show s.fresh.cfgHeld = false from hheld]; decide), if_neg (by rw [ha]; decide), hc]
  exact ⟨_, hi.trans (congrArg _ htake), hp ((s.atHead.taken.then_hif hif).answered d st 0)⟩

/-! ## What a check records -/

/-- A check that refuses records one report word at most. -/
def Reports (check : Desc → State → Check) : Prop := ∀ d v st w, check d v = .inl (st, w) → w = v ∨ ∃ o x, w = v.setReg o x

theorem Reports.kept {check : Desc → State → Check} (h : Reports check) {v w : State} {st : Nat} (hc : check d v = .inl (st, w)) :
    w.hif = v.hif ∧ w.tarn = v.tarn ∧ w.inlet = v.inlet := by
  rcases h d v st w hc with rfl | ⟨o, x, rfl⟩
  · exact ⟨rfl, rfl, rfl⟩
  · exact ⟨rfl, rfl, rfl⟩

/-- A branch of a check. -/
theorem reports_inl {v w u : State} {st k : Nat} (h : (Sum.inl (k, u) : Check) = .inl (st, w)) (hu : u = v ∨ ∃ o x, u = v.setReg o x) :
    w = v ∨ ∃ o x, w = v.setReg o x := by
  cases h
  exact hu

theorem reports_checkPoint (img : Image) : Reports (checkPoint img) := by
  intro d v st w h
  unfold checkPoint at h
  dsimp only at h
  split at h
  · exact reports_inl h (.inl rfl)
  · split at h
    · exact reports_inl h (.inl rfl)
    · split at h
      · exact reports_inl h (.inl rfl)
      · split at h
        · exact reports_inl h (.inl rfl)
        · cases h

theorem reports_checkChandef (img : Image) : Reports (checkChandef img) := by
  intro d v st w h
  unfold checkChandef at h
  dsimp only at h
  split at h
  · exact reports_inl h (.inr ⟨_, _, rfl⟩)
  · split at h
    · exact reports_inl h (.inr ⟨_, _, rfl⟩)
    · split at h
      · exact reports_inl h (.inl rfl)
      · split at h
        · exact reports_inl h (.inr ⟨_, _, rfl⟩)
        · split at h
          · exact reports_inl h (.inl rfl)
          · cases h

theorem reports_checkGroup (img : Image) : Reports (checkGroup img) := by
  intro d v st w h
  unfold checkGroup at h
  dsimp only at h
  split at h
  · exact reports_inl h (.inl rfl)
  · split at h
    · exact reports_inl h (.inl rfl)
    · split at h
      · exact reports_inl h (.inl rfl)
      · split at h
        · exact reports_inl h (.inl rfl)
        · split at h
          · exact reports_inl h (.inl rfl)
          · cases h

theorem reports_checkFanout (img : Image) : Reports (checkFanout img) := by
  intro d v st w h
  unfold checkFanout at h
  dsimp only at h
  split at h
  · exact reports_inl h (.inl rfl)
  · split at h
    · exact reports_inl h (.inl rfl)
    · split at h
      · exact reports_inl h (.inl rfl)
      · cases h

/-- What a table's reason leads to (Table 6-7). -/
def lintabJudged (d : Desc) (v : State) (l : List Byte) (r : Nat) : Check :=
  if r != 0 then .inl (if r = 1 then Status.crc else Status.badArg, v.setReg Reg.FE_LIN_LAST (packU32 [(d.arg 8 1, 0), (r, 8)]))
  else if v.unadmitted [0x15] then .inl (Status.busy, v)
  else .inr { target := d.arg 8 1, bodies := bodiesOf l, image := l }

theorem reports_lintabJudged {v w : State} {l : List Byte} {r st : Nat} (h : lintabJudged d v l r = .inl (st, w)) :
    w = v ∨ ∃ o x, w = v.setReg o x := by
  unfold lintabJudged at h
  split at h
  · exact reports_inl h (.inr ⟨_, _, rfl⟩)
  · split at h
    · exact reports_inl h (.inl rfl)
    · cases h

theorem reports_checkLintab (img : Image) : Reports (checkLintab img) := by
  intro d v st w h
  unfold checkLintab at h
  dsimp only at h
  split at h
  · exact reports_inl h (.inr ⟨_, _, rfl⟩)
  · exact (Decidable.em _).elim (fun hb => reports_inl ((if_pos hb).symm.trans h) (.inr ⟨_, _, rfl⟩))
      (fun hb => reports_lintabJudged ((if_neg hb).symm.trans h))

theorem reports_checkCanfilt (img : Image) : Reports (checkCanfilt img) := by
  intro d v st w h
  unfold checkCanfilt at h
  dsimp only at h
  split at h
  · exact reports_inl h (.inl rfl)
  · split at h
    · exact reports_inl h (.inl rfl)
    · split at h
      · exact reports_inl h (.inr ⟨_, _, rfl⟩)
      · split at h
        · exact reports_inl h (.inl rfl)
        · split at h
          · exact reports_inl h (.inl rfl)
          · cases h

theorem reports_checkCansig (img : Image) : Reports (checkCansig img) := by
  intro d v st w h
  unfold checkCansig at h
  dsimp only at h
  split at h
  · exact reports_inl h (.inl rfl)
  · split at h
    · exact reports_inl h (.inl rfl)
    · split at h
      · exact reports_inl h (.inr ⟨_, _, rfl⟩)
      · split at h
        · exact reports_inl h (.inl rfl)
        · cases h

/-- The outcome of a CFG command by its check. -/
theorem ends_cfg {i : Instr} {check : Desc → State → Check} (hi : exec i s = .next (s.fresh.cfgTake op check)) (hrep : Reports check)
    (h : s.Heads op d) (hheld : s.cfgHeld = false) :
    (∀ u, check d (s.fresh.takeHead 0) = .inr u → Ends i s (fun t => Taken s t d { u with cfg := true }))
      ∧ (∀ st v, check d (s.fresh.takeHead 0) = .inl (st, v) → Ends i s (fun t => Answered s t d st 0 ∧ t.tarn = s.tarn ∧ t.inlet = s.inlet)) := by
  refine ⟨fun u hc => ends_cfg_good hi h hheld hc, fun st v hc => ?_⟩
  obtain ⟨hif, htarn, hin⟩ := hrep.kept hc
  exact ends_cfg_bad hi h hheld hc hif fun ha => ⟨ha, htarn.trans s.atHead.tarn, hin.trans (s.atHead.parts .inlet (by decide))⟩

/-! ## Definitions, groups, lists, tables -/

theorem fit_self {l : List Byte} {n : Nat} (h : l.length = n) : fit n l = l := by
  rw [fit, h, Nat.sub_self, List.take_of_length_le (by omega)]
  exact List.append_nil l

theorem Desc.image_some {o n : Nat} {l : List Byte} (ha : d.aligned o = true) (hl : l.length = n) : d.image o n (some l) = some l := by
  rw [Desc.image, if_pos ha, Option.map_some, fit_self hl]

/-- A bad command that leaves a report word. -/
theorem ends_cfg_report {i : Instr} {check : Desc → State → Check} (hi : exec i s = .next (s.fresh.cfgTake op check)) (h : s.Heads op d)
    (hheld : s.cfgHeld = false) {st : Nat} {o : Off} {x : U32} (hc : check d (s.fresh.takeHead 0) = .inl (st, (s.fresh.takeHead 0).setReg o x)) :
    Ends i s (fun t => Answered s t d st 0 ∧ t.reg o = x) :=
  ends_cfg_bad hi h hheld hc rfl fun ha => ⟨ha, (State.reg_setReg _ _ _ _).trans (if_pos rfl)⟩

/-- A bad command that leaves none. -/
theorem ends_cfg_refused {i : Instr} {check : Desc → State → Check} (hi : exec i s = .next (s.fresh.cfgTake op check)) (h : s.Heads op d)
    (hheld : s.cfgHeld = false) {st : Nat} (hc : check d (s.fresh.takeHead 0) = .inl (st, s.fresh.takeHead 0)) :
    Ends i s (fun t => Answered s t d st 0) := ends_cfg_bad hi h hheld hc rfl id

/-- A check that branches, and a statement that branches with it. -/
theorem ends_ite {i : Instr} {x a b : Check} {p q : Prop} [Decidable p] [Decidable q] {P Q : State → Prop} (hx : x = if q then a else b)
    (hpq : p ↔ q) (ha : p → x = a → Ends i s P) (hb : ¬ p → x = b → Ends i s Q) : Ends i s (fun t => if p then P t else Q t) := by
  by_cases hp : p
  · simp only [if_pos hp]
    exact ha hp (hx.trans (if_pos (hpq.mp hp)))
  · simp only [if_neg hp]
    exact hb hp (hx.trans (if_neg fun hq => hp (hpq.mpr hq)))

theorem ends_chandefWrite_args {img : Image} (h : s.Heads 0x12 d) (hheld : s.cfgHeld = false)
    (hbad : d.image 0x10 64 img = none ∨ d.resv 9 7 = false ∨ d.resv 0x18 40 = false) :
    Ends (.chandefWrite img) s (fun t => Answered s t d Status.badArg 0 ∧ t.reg Reg.XP_CHK_LAST = chReportArgs (d.arg 8 1)) := by
  refine ends_cfg_report (check := checkChandef img) rfl h hheld ?_
  unfold checkChandef
  dsimp only
  split
  · rfl
  next l hl =>
    rw [hl] at hbad
    refine if_pos ?_
    rcases hbad with hb | hb | hb
    · cases hb
    · rw [hb]; rfl
    · rw [hb]; simp

theorem ends_chandefWrite {l : List Byte} (h : s.Heads 0x12 d) (hheld : s.cfgHeld = false) (hl : l.length = 64) (hal : d.aligned 0x10 = true)
    (h9 : d.resv 9 7 = true) (h18 : d.resv 0x18 40 = true) {v w : State} (hv : v = s.fresh.takeHead 0) {u : CmdUnit}
    (hu : u = ({ opcode := 0x12, target := d.arg 8 1, bodies := [l], image := l } : CmdUnit)) (hw : w = (v.ahead.applyScan u).applyUnit u) :
    Ends (.chandefWrite (some l)) s (fun t =>
      if crcOk l 64 = false then Answered s t d Status.crc 0
      else if w.chRule (d.arg 8 1) ≠ 0 then Answered s t d Status.badArg 0
        ∧ t.reg Reg.XP_CHK_LAST = packU32 [(d.arg 8 1, 0), (w.chRule (d.arg 8 1), 8), (w.chOther (d.arg 8 1) (w.chRule (d.arg 8 1)), 16)]
      else if (v.moving (d.arg 8 1) || v.movesAhead (d.arg 8 1)) = true then Answered s t d Status.busy 0
      else Taken s t d { u with cfg := true }) := by
  have hcheck : checkChandef (some l) d v = if !crcOk l 64 then .inl (Status.crc, v)
      else if w.chRule (d.arg 8 1) != 0 then .inl (Status.badArg, v.setReg Reg.XP_CHK_LAST (w.chReport (d.arg 8 1) (w.chRule (d.arg 8 1))))
      else if v.moving (d.arg 8 1) || v.movesAhead (d.arg 8 1) then .inl (Status.busy, v) else .inr u := by
    unfold checkChandef
    dsimp only
    rw [Desc.image_some hal hl, h9, h18, hw, hu]
    rfl
  rw [hv] at hcheck ⊢
  refine ends_ite hcheck (by simp) (fun _ hc => ends_cfg_refused (check := checkChandef (some l)) rfl h hheld hc) fun _ hc => ?_
  refine ends_ite hc (by simp) (fun _ hc => ends_cfg_report (check := checkChandef (some l)) rfl h hheld hc) fun _ hc => ?_
  exact ends_ite hc Iff.rfl (fun _ hc => ends_cfg_refused (check := checkChandef (some l)) rfl h hheld hc)
    fun _ hc => ends_cfg_good (check := checkChandef (some l)) rfl h hheld hc

theorem ends_groupWrite {l : List Byte} (h : s.Heads 0x13 d) (hheld : s.cfgHeld = false) (hl : l.length = 0xB0) (hal : d.aligned 0x10 = true)
    (h9 : d.resv 9 7 = true) (h18 : d.resv 0x18 40 = true) {v : State} (hv : v = s.fresh.takeHead 0) :
    Ends (.groupWrite (some l)) s (fun t =>
      if crcOk l 0xB0 = false then Answered s t d Status.crc 0
      else if (GCfg.ofBytes l).rulesOk = false then Answered s t d Status.badArg 0
      else if v.unadmitted [0x13] = true then Answered s t d Status.busy 0
      else Taken s t d { target := d.arg 8 1, bodies := bodiesOf l, image := l, cfg := true }) := by
  have hcheck : checkGroup (some l) d v = if !crcOk l 0xB0 then .inl (Status.crc, v)
      else if !(GCfg.ofBytes l).rulesOk then .inl (Status.badArg, v)
      else if v.unadmitted [0x13] then .inl (Status.busy, v)
      else .inr { target := d.arg 8 1, bodies := bodiesOf l, image := l } := by
    unfold checkGroup
    dsimp only
    rw [Desc.image_some hal hl, h9, h18]
    rfl
  rw [hv] at hcheck ⊢
  refine ends_ite hcheck (by simp) (fun _ hc => ends_cfg_refused (check := checkGroup (some l)) rfl h hheld hc) fun _ hc => ?_
  refine ends_ite hc (by simp) (fun _ hc => ends_cfg_refused (check := checkGroup (some l)) rfl h hheld hc) fun _ hc => ?_
  exact ends_ite hc Iff.rfl (fun _ hc => ends_cfg_refused (check := checkGroup (some l)) rfl h hheld hc)
    fun _ hc => ends_cfg_good (check := checkGroup (some l)) rfl h hheld hc

theorem ends_fanoutWrite {l : List Byte} (h : s.Heads 0x14 d) (hheld : s.cfgHeld = false) (hl : l.length = 4 * d.arg 0x1C 2)
    (hn : 0 < d.arg 0x1C 2) (hmax : d.arg 0x1C 2 ≤ 4096) (hal : d.aligned 0x10 = true) (h9 : d.resv 9 3 = true) (h1e : d.resv 0x1E 34 = true)
    (ht : 1 ≤ d.arg 8 1) (ht4 : d.arg 8 1 ≤ 4) (hsrc : srcRange (d.arg 8 1) (d.arg 0xC 4) = true) (hspan : d.arg 0x18 4 + d.arg 0x1C 2 ≤ 195584)
    {v : State} (hv : v = s.fresh.takeHead 0) {head : Nat} (hhead : head = (headOffset (d.arg 8 1) (d.arg 0xC 4) - Tarn.FANOUT) / 8)
    {es : List Nat} (hes : es = (chunks 4 l).map leNat) :
    Ends (.fanoutWrite (some l)) s (fun t =>
      if ascending es = false ∨ (∃ p, p ∈ es ∧ 81919 < p) ∨ v.ahead.fanOverlap head (d.arg 0x18 4) (d.arg 0x1C 2) = true then
        Answered s t d Status.badArg 0
      else if v.unadmitted [0x14] = true then Answered s t d Status.busy 0
      else Taken s t d { target := head, image := fanoutImage (d.arg 0x18 4) l, cfg := true,
                         bodies := bodiesOf l ++ [fit 64 ((fanoutImage (d.arg 0x18 4) l).take 8)] }) := by
  have hcheck : checkFanout (some l) d v = if !ascending es || es.any (fun p => decide (81919 < p)) || v.ahead.fanOverlap head (d.arg 0x18 4) (d.arg 0x1C 2)
      then .inl (Status.badArg, v)
      else if v.unadmitted [0x14] then .inl (Status.busy, v)
      else .inr { target := head, bodies := bodiesOf l ++ [fit 64 ((fanoutImage (d.arg 0x18 4) l).take 8)], image := fanoutImage (d.arg 0x18 4) l } := by
    have hin : inRange 1 4 (d.arg 8 1) = true := by simp [inRange, ht, ht4]
    have hlo : decide (195583 < d.arg 0x18 4) = false := decide_eq_false (by omega)
    have hcnt : decide (4096 < d.arg 0x1C 2) = false := decide_eq_false (by omega)
    have hsum : decide (195584 < d.arg 0x18 4 + d.arg 0x1C 2) = false := decide_eq_false (by omega)
    have hne : (d.arg 0x1C 2 != 0) = true := by simp; omega
    unfold checkFanout
    dsimp only
    rw [if_neg (by omega : ¬ d.arg 0x1C 2 = 0), Desc.image_some hal hl, h9, h1e, hin, hsrc, hlo, hcnt, hsum, hne, ← hhead, hes]
    rfl
  have hbad : (ascending es = false ∨ (∃ p, p ∈ es ∧ 81919 < p) ∨ v.ahead.fanOverlap head (d.arg 0x18 4) (d.arg 0x1C 2) = true)
      ↔ (!ascending es || es.any (fun p => decide (81919 < p)) || v.ahead.fanOverlap head (d.arg 0x18 4) (d.arg 0x1C 2)) = true := by
    simp [or_assoc]
  rw [hv] at hcheck hbad ⊢
  refine ends_ite hcheck hbad (fun _ hc => ends_cfg_refused (check := checkFanout (some l)) rfl h hheld hc) fun _ hc => ?_
  exact ends_ite hc Iff.rfl (fun _ hc => ends_cfg_refused (check := checkFanout (some l)) rfl h hheld hc)
    fun _ hc => ends_cfg_good (check := checkFanout (some l)) rfl h hheld hc

theorem ends_lintabWrite {l : List Byte} (h : s.Heads 0x15 d) (hheld : s.cfgHeld = false) (hl : l.length = 2048) (hal : d.aligned 0x10 = true)
    (ht : d.arg 8 1 < 64) (h9 : d.resv 9 7 = true) (h18 : d.resv 0x18 40 = true) {v : State} (hv : v = s.fresh.takeHead 0) :
    Ends (.lintabWrite (some l)) s (fun t =>
      if linReason l ≠ 0 then Answered s t d (if linReason l = 1 then Status.crc else Status.badArg) 0
        ∧ t.reg Reg.FE_LIN_LAST = packU32 [(d.arg 8 1, 0), (linReason l, 8)]
      else if v.ahead.cjUser (d.arg 8 1) = true ∧ linRising l = false then Answered s t d Status.badArg 0
        ∧ t.reg Reg.FE_LIN_LAST = packU32 [(d.arg 8 1, 0), (6, 8)]
      else if v.unadmitted [0x15] = true then Answered s t d Status.busy 0
      else Taken s t d { target := d.arg 8 1, bodies := bodiesOf l, image := l, cfg := true }) := by
  have hjudge : checkLintab (some l) d v
      = lintabJudged d v l (if linReason l = 0 && v.ahead.cjUser (d.arg 8 1) && !linRising l then 6 else linReason l) := by
    have harg : decide (63 < d.arg 8 1) = false := decide_eq_false (by omega)
    unfold checkLintab
    dsimp only
    rw [Desc.image_some hal hl, harg, h9, h18]
    rfl
  have hcheck : checkLintab (some l) d v = if linReason l ≠ 0
      then .inl (if linReason l = 1 then Status.crc else Status.badArg, v.setReg Reg.FE_LIN_LAST (packU32 [(d.arg 8 1, 0), (linReason l, 8)]))
      else if v.ahead.cjUser (d.arg 8 1) = true ∧ linRising l = false
        then .inl (Status.badArg, v.setReg Reg.FE_LIN_LAST (packU32 [(d.arg 8 1, 0), (6, 8)]))
      else if v.unadmitted [0x15] = true then .inl (Status.busy, v)
      else .inr { target := d.arg 8 1, bodies := bodiesOf l, image := l } := by
    rw [hjudge]
    by_cases hr : linReason l = 0
    · rw [if_neg (not_not.mpr hr), hr]
      by_cases hcj : v.ahead.cjUser (d.arg 8 1) = true ∧ linRising l = false
      · rw [if_pos hcj, hcj.1, hcj.2]
        rfl
      · rw [if_neg hcj, if_neg (by simpa using hcj)]
        rfl
    · rw [if_pos hr, if_neg (by simp [hr]), lintabJudged, if_pos (by simpa using hr)]
  rw [hv] at hcheck ⊢
  refine ends_ite hcheck Iff.rfl (fun _ hc => ends_cfg_report (check := checkLintab (some l)) rfl h hheld hc) fun _ hc => ?_
  refine ends_ite hc Iff.rfl (fun _ hc => ends_cfg_report (check := checkLintab (some l)) rfl h hheld hc) fun _ hc => ?_
  exact ends_ite hc Iff.rfl (fun _ hc => ends_cfg_refused (check := checkLintab (some l)) rfl h hheld hc)
    fun _ hc => ends_cfg_good (check := checkLintab (some l)) rfl h hheld hc

/-! ## Filter elements and signals -/

theorem getElem?_chunksAux {α : Type} (k : Nat) (hk : 0 < k) (f : Nat) (l : List α) (hf : l.length ≤ f) (i : Nat) :
    (chunksAux k f l)[i]? = if k * i < l.length then some ((l.drop (k * i)).take k) else none := by
  induction f generalizing l i with
  | zero =>
    have hl : l = [] := List.length_eq_zero_iff.mp (by omega)
    subst hl
    simp [chunksAux]
  | succ f ih =>
    cases l with
    | nil => simp [chunksAux]
    | cons a l =>
      rw [chunksAux]
      · cases i with
        | zero => simp
        | succ i =>
          rw [List.getElem?_cons_succ, ih _ (by simp at hf ⊢; omega), List.drop_drop, List.length_drop, Nat.mul_succ, Nat.add_comm (k * i) k]
          congr 1
          rw [eq_iff_iff]
          omega
      · simp

/-- The pieces of a list of whole pieces. -/
theorem getElem?_chunks {l : List Byte} {n : Nat} (hl : l.length = 16 * n) (i : Nat) :
    (chunks 16 l)[i]? = if i < n then some (slice l (16 * i) 16) else none := by
  rw [chunks, getElem?_chunksAux 16 (by decide) _ _ (Nat.le_refl _), hl]
  congr 1
  rw [eq_iff_iff]
  omega

theorem length_chunks {l : List Byte} {n : Nat} (hl : l.length = 16 * n) : (chunks 16 l).length = n := by
  have hat := getElem?_chunks hl
  have hend := hat n
  rw [if_neg (Nat.lt_irrefl n), List.getElem?_eq_none_iff] at hend
  by_contra hne
  have hlt : (chunks 16 l).length < n := by omega
  have hin := hat (chunks 16 l).length
  rw [if_pos hlt, List.getElem?_eq_none (Nat.le_refl _)] at hin
  cases hin

/-- The first piece that a test names. -/
theorem findIdx?_chunks_some {l : List Byte} {n : Nat} (hl : l.length = 16 * n) {f : List Byte → Bool} {i : Nat} (hi : i < n)
    (hfi : f (slice l (16 * i) 16) = true) (hmin : ∀ j, j < i → f (slice l (16 * j) 16) = false) :
    (chunks 16 l).findIdx? f = some i := by
  rw [List.findIdx?_eq_some_iff_getElem]
  have hget : ∀ j (hj : j < (chunks 16 l).length), (chunks 16 l)[j] = slice l (16 * j) 16 := fun j hj => by
    have h := getElem?_chunks hl j
    rw [if_pos (by rw [length_chunks hl] at hj; exact hj), List.getElem?_eq_getElem hj] at h
    exact Option.some.inj h
  refine ⟨by rw [length_chunks hl]; exact hi, by rw [hget]; exact hfi, fun j hj => ?_⟩
  rw [hget, hmin j hj]
  decide

theorem findIdx?_chunks_none {l : List Byte} {n : Nat} (hl : l.length = 16 * n) {f : List Byte → Bool}
    (hall : ∀ i, i < n → f (slice l (16 * i) 16) = false) : (chunks 16 l).findIdx? f = none := by
  rw [List.findIdx?_eq_none_iff]
  intro x hx
  obtain ⟨i, hi⟩ := List.mem_iff_getElem?.mp hx
  rw [getElem?_chunks hl] at hi
  split at hi
  next h => rw [← Option.some.inj hi]; exact hall i h
  next => cases hi

theorem chkLast_elem (ix ch : Nat) : chkLast ix 1 false ch = packU32 [(ix, 0), (1, 16), (ch, 25)] := by simp [chkLast, packU32, b2n]

theorem chkLast_signal (ix r : Nat) : chkLast ix r true 0 = packU32 [(ix, 0), (r, 16), (1, 24)] := by simp [chkLast, packU32, b2n]

/-- A good argument list of CANFILT_WRITE comes to the test of its elements. -/
theorem checkCanfilt_elements {l : List Byte} {v : State} (hl : l.length = 16 * d.arg 0xE 2) (hn : 0 < d.arg 0xE 2) (hmax : d.arg 0xE 2 ≤ 2048)
    (hal : d.aligned 0x10 = true) (hch : d.arg 8 1 < 8) (h9 : d.resv 9 3 = true) (h18 : d.resv 0x18 40 = true)
    (hshare : d.arg 0xC 2 + d.arg 0xE 2 ≤ (v.filtShare (d.arg 8 1)).2) :
    checkCanfilt (some l) d v = match (chunks 16 l).findIdx? (fun e => !(FiltElem.ofBytes e).valid) with
      | some i => .inl (Status.badArg, v.setReg Reg.CAN_CHK_LAST (chkLast (d.arg 0xC 2 + i) 1 false (d.arg 8 1)))
      | none =>
        if v.walkedByOther (d.arg 8 1) ((v.filtShare (d.arg 8 1)).1 + d.arg 0xC 2) (d.arg 0xE 2) then .inl (Status.quota, v)
        else if v.unadmitted [0x16, 0x17] then .inl (Status.busy, v)
        else .inr { target := (v.filtShare (d.arg 8 1)).1 + d.arg 0xC 2, bodies := bodiesOf l, image := l } := by
  have h7 : decide (7 < d.arg 8 1) = false := decide_eq_false (by omega)
  have hcnt : decide (2048 < d.arg 0xE 2) = false := decide_eq_false (by omega)
  have hsh : decide ((v.filtShare (d.arg 8 1)).2 < d.arg 0xC 2 + d.arg 0xE 2) = false := decide_eq_false (by omega)
  unfold checkCanfilt
  dsimp only
  rw [if_neg (by omega : ¬ d.arg 0xE 2 = 0), Desc.image_some hal hl, h9, h18, h7, hcnt, hsh]
  rfl

theorem ends_canfiltWrite_bad {l : List Byte} (h : s.Heads 0x16 d) (hheld : s.cfgHeld = false) (hl : l.length = 16 * d.arg 0xE 2)
    (hn : 0 < d.arg 0xE 2) (hmax : d.arg 0xE 2 ≤ 2048) (hal : d.aligned 0x10 = true) (hch : d.arg 8 1 < 8) (h9 : d.resv 9 3 = true)
    (h18 : d.resv 0x18 40 = true) (hshare : d.arg 0xC 2 + d.arg 0xE 2 ≤ ((s.fresh.takeHead 0).filtShare (d.arg 8 1)).2)
    {i : Nat} (hi : i < d.arg 0xE 2) (hbad : (FiltElem.ofBytes (slice l (16 * i) 16)).valid = false)
    (hmin : ∀ j, j < i → (FiltElem.ofBytes (slice l (16 * j) 16)).valid = true) :
    Ends (.canfiltWrite (some l)) s (fun t => Answered s t d Status.badArg 0
      ∧ t.reg Reg.CAN_CHK_LAST = packU32 [(d.arg 0xC 2 + i, 0), (1, 16), (d.arg 8 1, 25)]) := by
  have hfind := findIdx?_chunks_some hl (f := fun e => !(FiltElem.ofBytes e).valid) hi (by rw [hbad]; rfl) (fun j hj => by rw [hmin j hj]; rfl)
  have hcheck := checkCanfilt_elements (v := s.fresh.takeHead 0) hl hn hmax hal hch h9 h18 hshare
  rw [hfind, ← chkLast_elem] at *
  exact ends_cfg_report (check := checkCanfilt (some l)) rfl h hheld hcheck

theorem ends_canfiltWrite {l : List Byte} (h : s.Heads 0x16 d) (hheld : s.cfgHeld = false) (hl : l.length = 16 * d.arg 0xE 2)
    (hn : 0 < d.arg 0xE 2) (hmax : d.arg 0xE 2 ≤ 2048) (hal : d.aligned 0x10 = true) (hch : d.arg 8 1 < 8) (h9 : d.resv 9 3 = true)
    (h18 : d.resv 0x18 40 = true) {v : State} (hv : v = s.fresh.takeHead 0) (hshare : d.arg 0xC 2 + d.arg 0xE 2 ≤ (v.filtShare (d.arg 8 1)).2)
    (hall : ∀ i, i < d.arg 0xE 2 → (FiltElem.ofBytes (slice l (16 * i) 16)).valid = true) :
    Ends (.canfiltWrite (some l)) s (fun t =>
      if v.walkedByOther (d.arg 8 1) ((v.filtShare (d.arg 8 1)).1 + d.arg 0xC 2) (d.arg 0xE 2) = true then
        Answered s t d Status.quota 0
      else if v.unadmitted [0x16, 0x17] = true then Answered s t d Status.busy 0
      else Taken s t d { target := (v.filtShare (d.arg 8 1)).1 + d.arg 0xC 2, bodies := bodiesOf l, image := l, cfg := true }) := by
  have hfind := findIdx?_chunks_none hl (f := fun e => !(FiltElem.ofBytes e).valid) (fun j hj => by rw [hall j hj]; rfl)
  have hcheck := checkCanfilt_elements (v := v) hl hn hmax hal hch h9 h18 hshare
  rw [hfind] at hcheck
  rw [hv] at hcheck ⊢
  refine ends_ite hcheck Iff.rfl (fun _ hc => ends_cfg_refused (check := checkCanfilt (some l)) rfl h hheld hc) fun _ hc => ?_
  exact ends_ite hc Iff.rfl (fun _ hc => ends_cfg_refused (check := checkCanfilt (some l)) rfl h hheld hc)
    fun _ hc => ends_cfg_good (check := checkCanfilt (some l)) rfl h hheld hc

/-- A good argument list of CANSIG_WRITE comes to the rules of its signals. -/
theorem checkCansig_signals {l : List Byte} {v : State} (hl : l.length = 16 * d.arg 0xA 2) (hn : 0 < d.arg 0xA 2) (hmax : d.arg 0xA 2 ≤ 1024)
    (hal : d.aligned 0x10 = true) (hspan : d.arg 8 2 + d.arg 0xA 2 ≤ 32768) (hc : d.resv 0xC 4 = true) (h18 : d.resv 0x18 40 = true) :
    checkCansig (some l) d v = match (chunks 16 l).findIdx? (fun e => (SigDef.ofBytes e).rule != 0) with
      | some i => .inl (if (((chunks 16 l).map (fun e => (SigDef.ofBytes e).rule)).getD i 0) = 1 then Status.crc else Status.badArg,
          v.setReg Reg.CAN_CHK_LAST (chkLast (d.arg 8 2 + i) (((chunks 16 l).map (fun e => (SigDef.ofBytes e).rule)).getD i 0) true 0))
      | none =>
        if v.unadmitted [0x16, 0x17] then .inl (Status.busy, v)
        else .inr { target := d.arg 8 2, bodies := bodiesOf l, image := l } := by
  have hcnt : decide (1024 < d.arg 0xA 2) = false := decide_eq_false (by omega)
  have hsp : decide (32768 < d.arg 8 2 + d.arg 0xA 2) = false := decide_eq_false (by omega)
  have hmap : ((chunks 16 l).map (fun e => (SigDef.ofBytes e).rule)).findIdx? (· != 0) = (chunks 16 l).findIdx? (fun e => (SigDef.ofBytes e).rule != 0) :=
    List.findIdx?_map
  unfold checkCansig
  dsimp only
  rw [if_neg (by omega : ¬ d.arg 0xA 2 = 0), Desc.image_some hal hl, hc, h18, hcnt, hsp]
  dsimp only
  rw [hmap]
  rfl

theorem ends_cansigWrite_bad {l : List Byte} (h : s.Heads 0x17 d) (hheld : s.cfgHeld = false) (hl : l.length = 16 * d.arg 0xA 2)
    (hn : 0 < d.arg 0xA 2) (hmax : d.arg 0xA 2 ≤ 1024) (hal : d.aligned 0x10 = true) (hspan : d.arg 8 2 + d.arg 0xA 2 ≤ 32768)
    (hc : d.resv 0xC 4 = true) (h18 : d.resv 0x18 40 = true)
    {i : Nat} (hi : i < d.arg 0xA 2) (hbad : (SigDef.ofBytes (slice l (16 * i) 16)).rule ≠ 0)
    (hmin : ∀ j, j < i → (SigDef.ofBytes (slice l (16 * j) 16)).rule = 0) :
    Ends (.cansigWrite (some l)) s (fun t =>
      Answered s t d (if (SigDef.ofBytes (slice l (16 * i) 16)).rule = 1 then Status.crc else Status.badArg) 0
        ∧ t.reg Reg.CAN_CHK_LAST = packU32 [(d.arg 8 2 + i, 0), ((SigDef.ofBytes (slice l (16 * i) 16)).rule, 16), (1, 24)]) := by
  have hfind := findIdx?_chunks_some hl (f := fun e => (SigDef.ofBytes e).rule != 0) hi (by simpa using hbad) (fun j hj => by rw [hmin j hj]; rfl)
  have hrule : ((chunks 16 l).map (fun e => (SigDef.ofBytes e).rule)).getD i 0 = (SigDef.ofBytes (slice l (16 * i) 16)).rule := by
    rw [List.getD_eq_getElem?_getD, List.getElem?_map, getElem?_chunks hl, if_pos hi]
    rfl
  have hcheck := checkCansig_signals (v := s.fresh.takeHead 0) hl hn hmax hal hspan hc h18
  rw [hfind] at hcheck
  dsimp only at hcheck
  rw [hrule] at hcheck
  rw [← chkLast_signal]
  exact ends_cfg_report (check := checkCansig (some l)) rfl h hheld hcheck

theorem ends_cansigWrite {l : List Byte} (h : s.Heads 0x17 d) (hheld : s.cfgHeld = false) (hl : l.length = 16 * d.arg 0xA 2)
    (hn : 0 < d.arg 0xA 2) (hmax : d.arg 0xA 2 ≤ 1024) (hal : d.aligned 0x10 = true) (hspan : d.arg 8 2 + d.arg 0xA 2 ≤ 32768)
    (hc : d.resv 0xC 4 = true) (h18 : d.resv 0x18 40 = true) {v : State} (hv : v = s.fresh.takeHead 0)
    (hall : ∀ i, i < d.arg 0xA 2 → (SigDef.ofBytes (slice l (16 * i) 16)).rule = 0) :
    Ends (.cansigWrite (some l)) s (fun t =>
      if v.unadmitted [0x16, 0x17] = true then Answered s t d Status.busy 0
      else Taken s t d { target := d.arg 8 2, bodies := bodiesOf l, image := l, cfg := true }) := by
  have hfind := findIdx?_chunks_none hl (f := fun e => (SigDef.ofBytes e).rule != 0) (fun j hj => by rw [hall j hj]; rfl)
  have hcheck := checkCansig_signals (v := v) hl hn hmax hal hspan hc h18
  rw [hfind] at hcheck
  rw [hv] at hcheck ⊢
  exact ends_ite hcheck Iff.rfl (fun _ hc => ends_cfg_refused (check := checkCansig (some l)) rfl h hheld hc)
    fun _ hc => ends_cfg_good (check := checkCansig (some l)) rfl h hheld hc

/-! ## REC commands -/

/-- The unit that a REC command becomes: its arguments are the BODY of one record (Table 9-5). -/
def Desc.recUnit (d : Desc) (op : Nat) : CmdUnit :=
  { target := if op = 0x21 || 0x30 ≤ op then d.arg 8 1 else d.arg 8 4 % 2 ^ 22, bodies := [slice d.raw 8 56 ++ zeros 8] }

theorem ends_rec_taken {i : Instr} (hi : exec i s = .next (s.fresh.recTake op)) (h : s.cmdHead (· == op) = some d) (hheld : s.recHeld = false)
    (hacc : s.accepts op = true) : Ends i s (fun t =>
      Taken s t d { target := if op = 0x21 ∨ 0x30 ≤ op then d.arg 8 1 else d.arg 8 4 % 2 ^ 22, bodies := [slice d.raw 8 56 ++ zeros 8] }) := by
  obtain ⟨hh, ha⟩ := State.heads_fresh ⟨h, hacc⟩
  have htake : s.fresh.recTake op
      = (s.fresh.takeHead 0).submit { d.recUnit op with opcode := BitVec.ofNat 16 op, tag := d.tag, flags := u16At d.raw 2 } := by
    unfold State.recTake
    rw [hh]
    dsimp only
    rw [if_neg (by rw [show s.fresh.recHeld = false from hheld]; decide), if_neg (by rw [ha]; decide)]
    rfl
  have hunit : ({ target := if op = 0x21 ∨ 0x30 ≤ op then d.arg 8 1 else d.arg 8 4 % 2 ^ 22, bodies := [slice d.raw 8 56 ++ zeros 8] } : CmdUnit)
      = d.recUnit op := by simp [Desc.recUnit]
  rw [hunit]
  exact ⟨_, hi.trans (congrArg _ htake), State.submit_taken h (d.recUnit op)⟩

theorem ends_rec_refused {i : Instr} (hi : exec i s = .next (s.fresh.recTake op)) (h : s.cmdHead (· == op) = some d) (hheld : s.recHeld = false)
    (hacc : s.accepts op = false) : Ends i s (fun t => Answered s t d Status.state 0 ∧ t.inlet = s.inlet) := by
  have htake : s.fresh.recTake op = (s.fresh.takeHead 0).done d Status.state := by
    unfold State.recTake
    rw [show s.fresh.cmdHead (· == op) = some d from h]
    dsimp only
    rw [if_neg (by rw [show s.fresh.recHeld = false from hheld]; decide), if_pos (by rw [show s.fresh.accepts op = false from hacc]; decide)]
  exact ⟨_, hi.trans (congrArg _ htake), s.atHead.answered d _ _, s.atHead.parts .inlet (by decide)⟩

/-- A REC command is accepted in RUN alone. -/
theorem State.accepts_rec (hop : opInfo op = some (.record, [Node.run])) : s.accepts op = (s.mgmt == Node.run) := by
  rw [State.accepts, hop]
  simp [beq_eq_decide]

/-- A REC command taken, or refused outside RUN. -/
theorem ends_rec {i : Instr} (hi : exec i s = .next (s.fresh.recTake op)) (hop : opInfo op = some (.record, [Node.run]))
    (hheld : s.recHeld = false) (h : s.cmdHead (· == op) = some d) :
    (s.mgmt = Node.run → Ends i s (fun t =>
      Taken s t d { target := if op = 0x21 ∨ 0x30 ≤ op then d.arg 8 1 else d.arg 8 4 % 2 ^ 22, bodies := [slice d.raw 8 56 ++ zeros 8] }))
    ∧ (s.mgmt ≠ Node.run → Ends i s (fun t => Answered s t d Status.state 0 ∧ t.inlet = s.inlet)) :=
  ⟨fun hm => ends_rec_taken hi h hheld (by rw [State.accepts_rec hop, hm]; rfl),
    fun hm => ends_rec_refused hi h hheld (by rw [State.accepts_rec hop]; exact beq_false_of_ne hm)⟩

end

/-- Settles O13: each CFG command by its check, each REC command by its one record. -/
theorem commandsTaken : Obligations.CommandsTaken := by
  unfold Obligations.CommandsTaken
  refine ⟨fun s d img hheld x hx h => ?_, fun s d hheld v hv => ⟨fun h => ⟨fun img hbad => ends_chandefWrite_args h hheld hbad,
      fun l hl hal h9 h18 u hu w hw => ends_chandefWrite h hheld hl hal h9 h18 hv hu hw⟩,
    fun h l hl hal h9 h18 => ends_groupWrite h hheld hl hal h9 h18 hv,
    fun h l hl hn hmax hal h9 h1e ht ht4 hsrc hspan head hhead es hes => ends_fanoutWrite h hheld hl hn hmax hal h9 h1e ht ht4 hsrc hspan hv hhead hes,
    fun h l hl hal ht h9 h18 => ends_lintabWrite h hheld hl hal ht h9 h18 hv,
    fun h l hl hn hmax hal hch h9 h18 hshare => ⟨fun i hi hbad hmin => ends_canfiltWrite_bad h hheld hl hn hmax hal hch h9 h18 (hv ▸ hshare) hi hbad hmin,
      fun hall => ends_canfiltWrite h hheld hl hn hmax hal hch h9 h18 hv hshare hall⟩,
    fun h l hl hn hmax hal hspan hc h18 => ⟨fun i hi hbad hmin => ends_cansigWrite_bad h hheld hl hn hmax hal hspan hc h18 hi hbad hmin,
      fun hall => ends_cansigWrite h hheld hl hn hmax hal hspan hc h18 hv hall⟩⟩, fun s d x hx hheld h => ?_⟩
  · simp only [List.mem_cons, List.not_mem_nil, or_false] at hx
    rcases hx with rfl | rfl | rfl | rfl | rfl | rfl | rfl
    · exact ends_cfg rfl (reports_checkPoint img) h hheld
    · exact ends_cfg rfl (reports_checkChandef img) h hheld
    · exact ends_cfg rfl (reports_checkGroup img) h hheld
    · exact ends_cfg rfl (reports_checkFanout img) h hheld
    · exact ends_cfg rfl (reports_checkLintab img) h hheld
    · exact ends_cfg rfl (reports_checkCanfilt img) h hheld
    · exact ends_cfg rfl (reports_checkCansig img) h hheld
  · simp only [List.mem_cons, List.not_mem_nil, or_false] at hx
    rcases hx with rfl | rfl | rfl | rfl | rfl | rfl | rfl | rfl | rfl
    · exact ends_rec rfl rfl hheld h
    · exact ends_rec rfl rfl hheld h
    · exact ends_rec rfl rfl hheld h
    · exact ends_rec rfl rfl hheld h
    · exact ends_rec rfl rfl hheld h
    · exact ends_rec rfl rfl hheld h
    · exact ends_rec rfl rfl hheld h
    · exact ends_rec rfl rfl hheld h
    · exact ends_rec rfl rfl hheld h

end Sys2Proof.Machine

/-! PROOFS. Rounding to binary32: a normal value is within half a unit of its last place, and h/1000 comes back as h (R10, R239). -/

namespace Sys2Proof.Machine

/-! ## Division to the nearest integer -/

theorem divEven_bounds (n : Nat) {d : Nat} (hd : 0 < d) : 2 * (divEven n d * d) ≤ 2 * n + d ∧ 2 * n ≤ 2 * (divEven n d * d) + d := by
  have hdiv : n / d * d + n % d = n := Nat.div_add_mod' n d
  have hlt : n % d < d := Nat.mod_lt n hd
  have hsucc : (n / d + 1) * d = n / d * d + d := Nat.succ_mul _ _
  unfold divEven
  dsimp only
  split
  · omega
  · split
    · omega
    · split
      · omega
      · omega

theorem divEven_floor (n d : Nat) : n / d ≤ divEven n d ∧ divEven n d ≤ n / d + 1 := by
  unfold divEven
  dsimp only
  split
  · omega
  · split
    · omega
    · split
      · omega
      · omega

/-- An integer that is nearer than half. -/
theorem divEven_near {n d k : Nat} (h1 : 2 * (k * d) < 2 * n + d) (h2 : 2 * n < 2 * (k * d) + d) : divEven n d = k := by
  have hd : 0 < d := by omega
  obtain ⟨hb1, hb2⟩ := divEven_bounds n hd
  have hlow : divEven n d * d < (k + 1) * d := by
    rw [Nat.succ_mul]
    omega
  have hhigh : k * d < (divEven n d + 1) * d := by
    rw [Nat.succ_mul]
    omega
  have hle := Nat.lt_of_mul_lt_mul_right hlow
  have hge := Nat.lt_of_mul_lt_mul_right hhigh
  omega

/-! ## The word of a normal value -/

theorem F32.expo_ofNat {e f : Nat} (he : e < 256) (hf : f < 2 ^ 23) : F32.expo (BitVec.ofNat 32 (e * 2 ^ 23 + f)) = e := by
  have hdiv : (e * 2 ^ 23 + f) / 2 ^ 23 = e := by omega
  unfold F32.expo fld
  simp only [BitVec.toNat_ofNat, Nat.shiftRight_eq_div_pow]
  omega

theorem F32.frac_ofNat {e f : Nat} (hf : f < 2 ^ 23) : F32.frac (BitVec.ofNat 32 (e * 2 ^ 23 + f)) = f := by
  unfold F32.frac fld
  simp only [BitVec.toNat_ofNat, Nat.shiftRight_eq_div_pow]
  omega

theorem F32.neg?_ofNat {n : Nat} (h : n < 2 ^ 31) : F32.neg? (BitVec.ofNat 32 n) = false := by
  unfold F32.neg? bitAt
  simp only [BitVec.toNat_ofNat]
  rw [Nat.mod_eq_of_lt (by omega), Nat.testBit_lt_two_pow h]

/-- A word of a normal value, from the 24 bits of its significand and its shift. -/
theorem F32.mag_ofNat {sh q : Nat} (hq : 2 ^ 23 ≤ q) (hq' : q ≤ 2 ^ 24) (hsh : sh ≤ 252) :
    F32.mag (BitVec.ofNat 32 (sh * 2 ^ 23 + q)) = q * 2 ^ sh ∧ F32.isFinite (BitVec.ofNat 32 (sh * 2 ^ 23 + q)) = true
      ∧ F32.neg? (BitVec.ofNat 32 (sh * 2 ^ 23 + q)) = false := by
  rcases Nat.lt_or_eq_of_le hq' with hlt | heq
  · have hsplit : sh * 2 ^ 23 + q = (sh + 1) * 2 ^ 23 + (q - 2 ^ 23) := by omega
    rw [hsplit]
    have he := F32.expo_ofNat (e := sh + 1) (f := q - 2 ^ 23) (by omega) (by omega)
    refine ⟨?_, ?_, F32.neg?_ofNat (by omega)⟩
    · rw [F32.mag, he, F32.frac_ofNat (by omega), if_neg (by omega), Nat.add_sub_cancel, Nat.add_sub_cancel' hq]
    · rw [F32.isFinite, he]
      simp only [bne_iff_ne, ne_eq]
      omega
  · have hsplit : sh * 2 ^ 23 + q = (sh + 2) * 2 ^ 23 + 0 := by omega
    rw [hsplit]
    have he := F32.expo_ofNat (e := sh + 2) (f := 0) (by omega) (by omega)
    refine ⟨?_, ?_, F32.neg?_ofNat (by omega)⟩
    · rw [F32.mag, he, F32.frac_ofNat (by omega), if_neg (by omega), Nat.add_zero, show sh + 2 - 1 = sh + 1 from rfl, heq, Nat.pow_succ]
      omega
    · rw [F32.isFinite, he]
      simp only [bne_iff_ne, ne_eq]
      omega

/-- A ratio in the normal range is rounded to within 2^−24 of itself. -/
theorem F32.round_normal {n d : Nat} (hlow : 2 ^ 23 ≤ n / d) (hhigh : Nat.log2 (n / d) < 276) :
    F32.isFinite (F32.round false n d) = true ∧ F32.neg? (F32.round false n d) = false
      ∧ 2 ^ 24 * (F32.mag (F32.round false n d) * d) ≤ 2 ^ 24 * n + n ∧ 2 ^ 24 * n ≤ 2 ^ 24 * (F32.mag (F32.round false n d) * d) + n := by
  have hd : 0 < d := by
    by_contra h
    rw [Nat.eq_zero_of_not_pos h, Nat.div_zero] at hlow
    omega
  have ht : n / d ≠ 0 := by omega
  have hlog : 23 ≤ Nat.log2 (n / d) := (Nat.le_log2 ht).mpr hlow
  obtain ⟨sh, hsh⟩ : ∃ sh, Nat.log2 (n / d) = sh + 23 := ⟨_, (Nat.sub_add_cancel hlog).symm⟩
  have hle : 2 ^ (sh + 23) ≤ n / d := hsh ▸ Nat.log2_self_le ht
  have hlt : n / d < 2 ^ (sh + 24) := (Nat.log2_lt ht).mp (by omega)
  have hpow : 0 < 2 ^ sh := Nat.two_pow_pos sh
  have hfloor : n / (d * 2 ^ sh) = n / d / 2 ^ sh := (Nat.div_div_eq_div_mul n d (2 ^ sh)).symm
  have hq : 2 ^ 23 ≤ n / (d * 2 ^ sh) := by
    rw [hfloor, Nat.le_div_iff_mul_le hpow, ← Nat.pow_add, Nat.add_comm]
    exact hle
  have hq' : n / (d * 2 ^ sh) < 2 ^ 24 := by
    rw [hfloor, Nat.div_lt_iff_lt_mul hpow, ← Nat.pow_add, Nat.add_comm]
    exact hlt
  obtain ⟨hf1, hf2⟩ := divEven_floor n (d * 2 ^ sh)
  obtain ⟨hb1, hb2⟩ := divEven_bounds n (Nat.mul_pos hd hpow)
  have hround : F32.round false n d = BitVec.ofNat 32 (sh * 2 ^ 23 + divEven n (d * 2 ^ sh)) := by
    unfold F32.round
    dsimp only
    rw [if_neg ht, hsh, show sh + 23 + 1 - 24 = sh from Nat.add_sub_cancel sh 24]
    exact (if_neg (by omega)).trans (congrArg (BitVec.ofNat 32) (Nat.add_zero _))
  obtain ⟨hmag, hfin, hneg⟩ := F32.mag_ofNat (sh := sh) (q := divEven n (d * 2 ^ sh)) (by omega) (by omega) (by omega)
  rw [hround, hmag]
  have hunit : 2 ^ 23 * (d * 2 ^ sh) ≤ n := by
    calc 2 ^ 23 * (d * 2 ^ sh) = 2 ^ (sh + 23) * d := by rw [Nat.pow_add]; ring
      _ ≤ n / d * d := Nat.mul_le_mul_right d hle
      _ ≤ n := Nat.div_mul_le_self n d
  have hval : divEven n (d * 2 ^ sh) * 2 ^ sh * d = divEven n (d * 2 ^ sh) * (d * 2 ^ sh) := by ring
  refine ⟨hfin, hneg, ?_, ?_⟩
  · rw [hval]
    omega
  · rw [hval]
    omega

/-! ## A thousandth and back -/

/-- Two roundings of h/1000·1000 move it by less than a half. -/
theorem thousand_near {h a b D : Nat} (hpos : 0 < h) (hh : h < 65536) (hD : 0 < D)
    (ha1 : 2 ^ 24 * (a * 1000) ≤ 2 ^ 24 * (h * D) + h * D) (ha2 : 2 ^ 24 * (h * D) ≤ 2 ^ 24 * (a * 1000) + h * D)
    (hb1 : 2 ^ 24 * (b * D) ≤ 2 ^ 24 * (a * (1000 * D)) + a * (1000 * D)) (hb2 : 2 ^ 24 * (a * (1000 * D)) ≤ 2 ^ 24 * (b * D) + a * (1000 * D)) :
    divEven b D = h := by
  have hb1' : 2 ^ 24 * b ≤ 2 ^ 24 * (a * 1000) + a * 1000 := by
    refine Nat.le_of_mul_le_mul_right ?_ hD
    calc 2 ^ 24 * b * D = 2 ^ 24 * (b * D) := by ring
      _ ≤ 2 ^ 24 * (a * (1000 * D)) + a * (1000 * D) := hb1
      _ = (2 ^ 24 * (a * 1000) + a * 1000) * D := by ring
  have hb2' : 2 ^ 24 * (a * 1000) ≤ 2 ^ 24 * b + a * 1000 := by
    refine Nat.le_of_mul_le_mul_right ?_ hD
    calc 2 ^ 24 * (a * 1000) * D = 2 ^ 24 * (a * (1000 * D)) := by ring
      _ ≤ 2 ^ 24 * (b * D) + a * (1000 * D) := hb2
      _ = (2 ^ 24 * b + a * 1000) * D := by ring
  have hle : h * D ≤ 65535 * D := Nat.mul_le_mul_right D (by omega)
  refine divEven_near ?_ ?_
  · omega
  · omega

theorem thousandth_range {h D : Nat} (hpos : 0 < h) (hh : h < 65536) (hD : 2 ^ 34 ≤ D) :
    2 ^ 23 * 1000 ≤ h * D ∧ h * D < 2 ^ 17 * D * 1000 := by
  have hle : h * D ≤ 65535 * D := Nat.mul_le_mul_right D (by omega)
  have hge : 1 * D ≤ h * D := Nat.mul_le_mul_right D hpos
  omega

theorem thousandfold_range {h D a : Nat} (hpos : 0 < h) (hh : h < 65536) (hD : 2 ^ 34 ≤ D)
    (ha1 : 2 ^ 24 * (a * 1000) ≤ 2 ^ 24 * (h * D) + h * D) (ha2 : 2 ^ 24 * (h * D) ≤ 2 ^ 24 * (a * 1000) + h * D) :
    2 ^ 23 * D ≤ a * (1000 * D) ∧ a * (1000 * D) < 2 ^ 17 * D * D := by
  have hle : h * D ≤ 65535 * D := Nat.mul_le_mul_right D (by omega)
  have hge : 1 * D ≤ h * D := Nat.mul_le_mul_right D hpos
  rw [← Nat.mul_assoc]
  exact ⟨Nat.mul_le_mul_right D (by omega), Nat.mul_lt_mul_of_pos_right (by omega) (by omega)⟩

theorem F32.mul_finite {a b : F32} {m : Nat} (ha : F32.isFinite a = true) (hb : F32.isFinite b = true) (hna : F32.neg? a = false)
    (hnb : F32.neg? b = false) (hm : F32.mag b = m) : F32.mul a b = F32.round false (F32.mag a * m) (2 ^ 149) := by
  simp only [F32.isFinite, bne_iff_ne, ne_eq] at ha hb
  simp [F32.mul, F32.isNaN, F32.isInf, ha, hb, hna, hnb, hm]

/-- A ratio between 2^23 and 2^166 is a normal value. -/
theorem F32.round_small {n d : Nat} (hd : 0 < d) (hlow : 2 ^ 23 * d ≤ n) (hhigh : n < 2 ^ 17 * 2 ^ 149 * d) :
    F32.isFinite (F32.round false n d) = true ∧ F32.neg? (F32.round false n d) = false
      ∧ 2 ^ 24 * (F32.mag (F32.round false n d) * d) ≤ 2 ^ 24 * n + n ∧ 2 ^ 24 * n ≤ 2 ^ 24 * (F32.mag (F32.round false n d) * d) + n := by
  have hq : 2 ^ 23 ≤ n / d := (Nat.le_div_iff_mul_le hd).mpr hlow
  have hq' : n / d < 2 ^ 166 := (Nat.div_lt_iff_lt_mul hd).mpr (Nat.pow_add 2 17 149 ▸ hhigh)
  have hlog : Nat.log2 (n / d) < 166 := (Nat.log2_lt (by omega)).mpr hq'
  exact F32.round_normal hq (Nat.lt_trans hlog (by decide))

/-- An integer below 2^16 divided by 1,000, multiplied by 1,000 and rounded is itself (R240). -/
theorem F32.toIntEven_thousand {h : Nat} (hh : h < 65536) : F32.toIntEven (F32.mul (F32.ofRatio h 1000) 0x447A0000) = h := by
  rcases Nat.eq_zero_or_pos h with rfl | hpos
  · decide
  · have hratio : F32.ofRatio h 1000 = F32.round false (h * 2 ^ 149) 1000 := by
      unfold F32.ofRatio
      rw [if_neg (by omega), decide_eq_false (by omega), Int.natAbs_natCast]
    have hbig : 2 ^ 34 ≤ 2 ^ 149 := Nat.pow_le_pow_right (by decide) (by decide)
    have hthousand : F32.mag 0x447A0000 = 1000 * 2 ^ 149 := by decide
    have hfin : F32.isFinite 0x447A0000 = true := by decide
    have hneg : F32.neg? 0x447A0000 = false := by decide
    obtain ⟨hlow, hhigh⟩ := thousandth_range hpos hh hbig
    obtain ⟨hafin, haneg, ha1, ha2⟩ := F32.round_small (n := h * 2 ^ 149) (d := 1000) (by decide) hlow hhigh
    obtain ⟨hlow', hhigh'⟩ := thousandfold_range hpos hh hbig ha1 ha2
    obtain ⟨-, hbneg, hb1, hb2⟩ := F32.round_small (n := F32.mag (F32.round false (h * 2 ^ 149) 1000) * (1000 * 2 ^ 149)) (d := 2 ^ 149)
      (Nat.two_pow_pos 149) hlow' hhigh'
    have hmul : F32.mul (F32.ofRatio h 1000) 0x447A0000
        = F32.round false (F32.mag (F32.round false (h * 2 ^ 149) 1000) * (1000 * 2 ^ 149)) (2 ^ 149) := by
      rw [hratio]
      exact F32.mul_finite hafin hfin haneg hneg hthousand
    rw [hmul, F32.toIntEven, hbneg]
    exact congrArg Int.ofNat (thousand_near hpos hh (Nat.two_pow_pos 149) ha1 ha2 hb1 hb2)

end Sys2Proof.Machine

/-! PROOFS. The forerunner's point entry and the configuration record: the layout of Table 7-20, field by field, and the way back (R239, R240). -/

namespace Sys2Proof.Machine

/-! ## Fields of laid-out bytes -/

theorem leAt_of_slice {l : List Byte} {o n x : Nat} (h : slice l o n = leBytes n x) : leAt l o n = x % 256 ^ n := by
  rw [leAt, h, leNat_leBytes]

theorem u32At_of_slice {l : List Byte} {o : Nat} {v : U32} (h : slice l o 4 = leBytes 4 v.toNat) : u32At l o = v := by
  rw [u32At, leAt_of_slice h]
  refine BitVec.eq_of_toNat_eq ?_
  have hv := v.isLt
  simp only [BitVec.toNat_ofNat]
  omega

theorem slice_take {l : List Byte} {o n m : Nat} (h : o + n ≤ m) : slice (l.take m) o n = slice l o n := by
  unfold slice
  rw [List.drop_take, List.take_take, Nat.min_eq_left (by omega)]

theorem byteAt_take {l : List Byte} {i m : Nat} (h : i < m) : byteAt (l.take m) i = byteAt l i := by
  unfold byteAt
  rw [List.getD_eq_getElem?_getD, List.getD_eq_getElem?_getD, List.getElem?_take_of_lt h]

theorem byteAt_of_allZero {l : List Byte} (h : allZero l = true) (i : Nat) : byteAt l i = 0 := by
  unfold byteAt
  rw [List.getD_eq_getElem?_getD]
  rcases hi : l[i]? with _ | b
  · rfl
  · exact eq_of_beq (List.all_eq_true.mp h b (List.mem_of_getElem? hi))

theorem bytes_of_take {l l' : List Byte} {m : Nat} (h : l.take m = l'.take m) {o n : Nat} (hn : o + n ≤ m) : slice l o n = slice l' o n := by
  rw [← slice_take hn, h, slice_take hn]

/-! ## The layout of the record -/

/-- The first 60 bytes of a record from a forerunner's entry (Table 7-20). -/
def legLayout (src lo hi hyst : U32) (delay group en epoch : Nat) : List Byte :=
  leBytes 4 src.toNat ++ leBytes 4 0x3F800000 ++ zeros 8 ++ leBytes 4 lo.toNat ++ leBytes 4 hi.toNat ++ zeros 4
    ++ leBytes 4 hyst.toNat ++ zeros 4 ++ leBytes 2 delay ++ leBytes 2 delay
    ++ [BitVec.ofNat 8 group, 2, 0, BitVec.ofNat 8 en] ++ leBytes 4 0x1FFFF ++ zeros 8 ++ leBytes 2 epoch ++ zeros 2

/-- SRC of the record of an entry. -/
def LegEntry.src (x : LegEntry) : U32 := packU32 [(b2n (bitAt x.mode 0), 0), (b2n (bitAt x.mode 1), 2), (x.channel, 8), (1, 28)]

/-- TH_EN of the record of an entry. -/
def LegEntry.thEn (x : LegEntry) : Nat := 2 * b2n (bitAt x.mode 3) + 4 * b2n (bitAt x.mode 2)

def LegEntry.layout (x : LegEntry) (epoch : Nat) : List Byte :=
  legLayout x.src x.lo x.hi (F32.ofRatio x.hyst 1000) (10 * x.delay) x.group x.thEn epoch

/-- The entry that an empty record gives back (log entry 36). -/
def LegEntry.blank : LegEntry := { channel := 0xFFFF, mode := 0, group := 0, lo := 0, hi := 0, delay := 0, hyst := 0 }

theorem withCrc_append {a b : List Byte} (ha : a.length = 60) : ∃ crc, withCrc (a ++ b) 64 = a ++ crc ∧ crc.length = 4 := by
  refine ⟨_, ?_, length_leBytes 4 (crc32 a).toNat⟩
  unfold withCrc
  rw [List.take_left' ha]

theorem length_legLayout (src lo hi hyst : U32) (delay group en epoch : Nat) : (legLayout src lo hi hyst delay group en epoch).length = 60 := by
  simp [legLayout, zeros]

theorem LegEntry.record_used {x : LegEntry} (h : x.channel ≤ 15) (epoch : Nat) :
    ∃ crc, x.record epoch = x.layout epoch ++ crc ∧ crc.length = 4 := by
  have hrec : x.record epoch = withCrc (x.layout epoch ++ zeros 4) 64 := by
    unfold LegEntry.record
    rw [if_neg (by omega), LegEntry.layout, legLayout, List.append_assoc _ (zeros 2) (zeros 4)]
    rfl
  rw [hrec]
  exact withCrc_append (length_legLayout _ _ _ _ _ _ _ _)

theorem LegEntry.record_unused {x : LegEntry} (h : x.channel = 0xFFFF) (epoch : Nat) : x.record epoch = withCrc (zeros 64) 64 :=
  if_pos h

theorem withCrc_zeros : ∃ crc, withCrc (zeros 64) 64 = zeros 60 ++ crc ∧ crc.length = 4 :=
  withCrc_append (a := zeros 60) (b := zeros 4) (by simp [zeros])

theorem LegEntry.record_crc (x : LegEntry) (epoch : Nat) : crcOk (x.record epoch) 64 = true := by
  unfold LegEntry.record
  split
  · exact crcOk_withCrc _ 64 (by decide) (by decide)
  · exact crcOk_withCrc _ 64 (by simp [zeros]) (by decide)

/-- Where the fields of a laid-out record lie (Table 7-20). -/
theorem legLayout_slices (src lo hi hyst : U32) (delay group en epoch : Nat) (crc : List Byte) {l : List Byte}
    (hl : l = legLayout src lo hi hyst delay group en epoch ++ crc) :
    slice l 0 4 = leBytes 4 src.toNat ∧ slice l 0x10 4 = leBytes 4 lo.toNat ∧ slice l 0x14 4 = leBytes 4 hi.toNat
      ∧ slice l 0x1C 4 = leBytes 4 hyst.toNat ∧ slice l 0x24 2 = leBytes 2 delay ∧ slice l 0x26 2 = leBytes 2 delay
      ∧ slice l 0x28 1 = leBytes 1 group ∧ byteAt l 0x2B = BitVec.ofNat 8 en ∧ slice l 0x38 2 = leBytes 2 epoch := by
  subst hl
  simp [legLayout, slice, byteAt, leBytes, zeros, List.replicate]

theorem legLayout_constant_slices (src lo hi hyst : U32) (delay group en epoch : Nat) (crc : List Byte) {l : List Byte}
    (hl : l = legLayout src lo hi hyst delay group en epoch ++ crc) :
    slice l 4 4 = leBytes 4 0x3F800000 ∧ slice l 8 4 = zeros 4 ∧ slice l 0xC 4 = zeros 4 ∧ slice l 0x18 4 = zeros 4
      ∧ slice l 0x20 4 = zeros 4 ∧ slice l 0x29 1 = [2] ∧ slice l 0x2A 1 = [0] ∧ slice l 0x2C 4 = leBytes 4 0x1FFFF
      ∧ slice l 0x30 2 = zeros 2 ∧ slice l 0x32 2 = zeros 2 ∧ slice l 0x34 4 = zeros 4 ∧ slice l 0x3A 2 = zeros 2
      ∧ byteAt l 7 = 0x3F := by
  subst hl
  simp [legLayout, slice, byteAt, leBytes, zeros, List.replicate]

/-- The fields of a laid-out record. -/
theorem legLayout_fields (src lo hi hyst : U32) (delay group en epoch : Nat) (crc : List Byte) {l : List Byte}
    (hl : l = legLayout src lo hi hyst delay group en epoch ++ crc) {c : PCfg} (hc : c = PCfg.ofBytes l) :
    c.srcType = fld src 28 4 ∧ c.srcIndex = fld src 8 20 ∧ c.thL = lo ∧ c.thH = hi ∧ c.hyst = hyst
      ∧ c.onDelay = delay % 65536 ∧ c.offDelay = delay % 65536 ∧ c.group = group % 256 ∧ c.thEn = BitVec.ofNat 8 en := by
  obtain ⟨h0, h1, h2, h3, h4, h5, h6, h7, -⟩ := legLayout_slices src lo hi hyst delay group en epoch crc hl
  subst hc
  simp only [PCfg.ofBytes, u32At_of_slice h0, u32At_of_slice h1, u32At_of_slice h2, u32At_of_slice h3, leAt_of_slice h4, leAt_of_slice h5,
    leAt_of_slice h6, h7]
  exact ⟨trivial, trivial, trivial, trivial, trivial, rfl, rfl, rfl, trivial⟩

/-- The flags of SRC in a laid-out record. -/
theorem legLayout_flags (src lo hi hyst : U32) (delay group en epoch : Nat) (crc : List Byte) {l : List Byte}
    (hl : l = legLayout src lo hi hyst delay group en epoch ++ crc) {c : PCfg} (hc : c = PCfg.ofBytes l) :
    c.enable = bitAt src 0 ∧ c.invert = bitAt src 1 ∧ c.latch = bitAt src 2 ∧ c.faultAlarm = bitAt src 3 ∧ c.rate = bitAt src 4
      ∧ c.custody = bitAt src 5 ∧ c.panel = bitAt src 6 := by
  obtain ⟨h0, -⟩ := legLayout_slices src lo hi hyst delay group en epoch crc hl
  subst hc
  simp only [PCfg.ofBytes, u32At_of_slice h0, and_self]

/-- The constant fields of a laid-out record. -/
theorem legLayout_constants (src lo hi hyst : U32) (delay group en epoch : Nat) (crc : List Byte) {l : List Byte}
    (hl : l = legLayout src lo hi hyst delay group en epoch ++ crc) {c : PCfg} (hc : c = PCfg.ofBytes l) :
    c.gain = 0x3F800000 ∧ c.offset = 0 ∧ c.thLL = 0 ∧ c.thHH = 0 ∧ c.rateLimit = 0 ∧ c.prio = 2 ∧ c.blockSrc = 0x1FFFF
      ∧ c.blockDelay = 0 ∧ c.shelveMax = 0 := by
  obtain ⟨h0, h1, h2, h3, h4, h5, -, h6, h7, h8, -⟩ := legLayout_constant_slices src lo hi hyst delay group en epoch crc hl
  subst hc
  simp only [PCfg.ofBytes, u32At, leAt, h0, h1, h2, h3, h4, h5, h6, h7, h8]
  decide

theorem LegEntry.src_fields {x : LegEntry} (h : x.channel ≤ 15) :
    fld x.src 28 4 = 1 ∧ fld x.src 8 20 = x.channel ∧ bitAt x.src 0 = bitAt x.mode 0 ∧ bitAt x.src 2 = bitAt x.mode 1
      ∧ bitAt x.src 1 = false ∧ bitAt x.src 3 = false ∧ bitAt x.src 4 = false ∧ bitAt x.src 5 = false ∧ bitAt x.src 6 = false := by
  have hall : ∀ ch < 16, ∀ en la : Bool, fld (packU32 [(b2n en, 0), (b2n la, 2), (ch, 8), (1, 28)]) 28 4 = 1
      ∧ fld (packU32 [(b2n en, 0), (b2n la, 2), (ch, 8), (1, 28)]) 8 20 = ch
      ∧ bitAt (packU32 [(b2n en, 0), (b2n la, 2), (ch, 8), (1, 28)]) 0 = en
      ∧ bitAt (packU32 [(b2n en, 0), (b2n la, 2), (ch, 8), (1, 28)]) 2 = la
      ∧ bitAt (packU32 [(b2n en, 0), (b2n la, 2), (ch, 8), (1, 28)]) 1 = false
      ∧ bitAt (packU32 [(b2n en, 0), (b2n la, 2), (ch, 8), (1, 28)]) 3 = false
      ∧ bitAt (packU32 [(b2n en, 0), (b2n la, 2), (ch, 8), (1, 28)]) 4 = false
      ∧ bitAt (packU32 [(b2n en, 0), (b2n la, 2), (ch, 8), (1, 28)]) 5 = false
      ∧ bitAt (packU32 [(b2n en, 0), (b2n la, 2), (ch, 8), (1, 28)]) 6 = false := by decide
  exact hall x.channel (by omega) _ _

theorem legThEn_bits (th tl : Bool) :
    ∀ i < 8, bitAt (BitVec.ofNat 8 (2 * b2n tl + 4 * b2n th)) i = (if i = 1 then tl else if i = 2 then th else false) := by
  revert th tl
  decide

theorem legMode_bits : ∀ m : Byte, fld m 4 4 = 0 →
    BitVec.ofNat 8 (b2n (bitAt m 0) + 2 * b2n (bitAt m 1) + 4 * b2n (bitAt m 2) + 8 * b2n (bitAt m 3)) = m := by
  decide

/-! ## The way back -/

/-- The entry that could have made a record rests on its first 56 bytes. -/
theorem LegEntry.candidate_congr {l l' : List Byte} (h : l.take 0x38 = l'.take 0x38) :
    LegEntry.candidate l = LegEntry.candidate l' := by
  have hbytes : ∀ o n, o + n ≤ 0x38 → leAt l o n = leAt l' o n := fun o n hn => congrArg leNat (bytes_of_take h hn)
  have hwords : ∀ o, o + 4 ≤ 0x38 → u32At l o = u32At l' o := fun o hn => congrArg (BitVec.ofNat 32) (hbytes o 4 hn)
  have hbyte : byteAt l 0x2B = byteAt l' 0x2B := by
    rw [← byteAt_take (m := 0x38) (by decide), h, byteAt_take (by decide)]
  unfold LegEntry.candidate
  rw [h]
  simp only [PCfg.ofBytes, hbyte, hwords 0 (by decide), hwords 0x10 (by decide), hwords 0x14 (by decide), hwords 0x1C (by decide),
    hbytes 0x24 2 (by decide), hbytes 0x28 1 (by decide)]

theorem LegEntry.candidate_blank {l : List Byte} (h : l.take 0x38 = zeros 0x38) : LegEntry.candidate l = LegEntry.blank := by
  unfold LegEntry.candidate
  rw [h, if_pos (by decide)]
  rfl

/-- What the fields of an entry that is good satisfy. -/
theorem LegEntry.ok_fields {x : LegEntry} (h : x.ok = true) : fld x.mode 4 4 = 0 ∧ (x.channel ≤ 15 ∨ x.channel = 0xFFFF) ∧ x.delay ≤ 6553 := by
  simp only [LegEntry.ok, Bool.and_eq_true, Bool.or_eq_true, beq_iff_eq, decide_eq_true_eq] at h
  obtain ⟨⟨⟨⟨⟨hmode, hch⟩, hdelay⟩, -⟩, -⟩, -⟩ := h
  exact ⟨hmode, hch, hdelay⟩

/-- An entry in use is what could have made its record (R240). -/
theorem LegEntry.candidate_record {x : LegEntry} (hok : x.ok = true) (hch : x.channel ≤ 15) (hgroup : x.group < 256) (hhyst : x.hyst < 65536)
    (epoch : Nat) : LegEntry.candidate (x.record epoch) = x := by
  obtain ⟨hmode, -, hdelay⟩ := LegEntry.ok_fields hok
  obtain ⟨crc, hrec, -⟩ := LegEntry.record_used hch epoch
  obtain ⟨-, hindex, hen, hla, -⟩ := LegEntry.src_fields hch
  obtain ⟨-, h2, h5, h6, h7, h8, -, h10, h11⟩ := legLayout_fields _ _ _ _ _ _ _ _ _ hrec rfl
  obtain ⟨he, -, hl, -⟩ := legLayout_flags _ _ _ _ _ _ _ _ _ hrec rfl
  obtain ⟨-, -, -, -, -, -, -, -, -, -, -, -, hgain⟩ := legLayout_constant_slices _ _ _ _ _ _ _ _ _ hrec
  have hnz : ¬allZero ((x.record epoch).take 0x38) = true := by
    intro hz
    have hbyte := byteAt_of_allZero hz 7
    rw [byteAt_take (by decide), hgain] at hbyte
    exact absurd hbyte (by decide)
  unfold LegEntry.candidate
  rw [if_neg hnz]
  have hbits := legThEn_bits (bitAt x.mode 2) (bitAt x.mode 3)
  have hb1 : bitAt (BitVec.ofNat 8 x.thEn) 1 = bitAt x.mode 3 := hbits 1 (by decide)
  have hb2 : bitAt (BitVec.ofNat 8 x.thEn) 2 = bitAt x.mode 2 := hbits 2 (by decide)
  have hback : (F32.toIntEven (F32.mul (F32.ofRatio x.hyst 1000) 0x447A0000)).toNat % 65536 = x.hyst := by
    rw [F32.toIntEven_thousand hhyst]
    exact Nat.mod_eq_of_lt hhyst
  simp only [h2, he, hl, h5, h6, h7, h8, h10, h11, hb1, hb2, hindex, hen, hla, hback, legMode_bits x.mode hmode]
  rw [Nat.mod_eq_of_lt hgroup, Nat.mod_eq_of_lt (show 10 * x.delay < 65536 by omega), Nat.mul_div_cancel_left _ (by decide)]

theorem legUnconvert_of_candidate {l : List Byte} {x : LegEntry} (hc : LegEntry.candidate l = x) (hok : x.ok = true)
    (htake : (x.record 0).take 0x38 = l.take 0x38) (hslice : slice (x.record 0) 0x3A 2 = slice l 0x3A 2) : legUnconvert l = some x := by
  unfold legUnconvert
  rw [hc, if_pos (by rw [hok, htake, hslice, beq_self_eq_true, beq_self_eq_true]; rfl)]

/-- What is given back made the record, EPOCH and CRC32 apart. -/
theorem legUnconvert_some {l : List Byte} {x : LegEntry} (h : legUnconvert l = some x) :
    x.ok = true ∧ (x.record 0).take 0x38 = l.take 0x38 ∧ slice (x.record 0) 0x3A 2 = slice l 0x3A 2 := by
  unfold legUnconvert at h
  dsimp only at h
  split at h
  next hcond =>
    obtain rfl := Option.some.inj h
    simp only [Bool.and_eq_true, beq_iff_eq] at hcond
    exact ⟨hcond.1.1, hcond.1.2, hcond.2⟩
  next => exact absurd h nofun

/-- The two records of an entry under two epochs agree but for EPOCH and CRC32. -/
theorem LegEntry.record_epoch {x : LegEntry} (hch : x.channel ≤ 15) (epoch : Nat) :
    (x.record 0).take 0x38 = (x.record epoch).take 0x38 ∧ slice (x.record 0) 0x3A 2 = slice (x.record epoch) 0x3A 2 := by
  obtain ⟨crc, hrec, -⟩ := LegEntry.record_used hch epoch
  obtain ⟨crc0, hrec0, -⟩ := LegEntry.record_used hch 0
  obtain ⟨-, -, -, -, -, -, -, -, -, -, -, hz, -⟩ := legLayout_constant_slices _ _ _ _ _ _ _ _ _ hrec
  obtain ⟨-, -, -, -, -, -, -, -, -, -, -, hz0, -⟩ := legLayout_constant_slices _ _ _ _ _ _ _ _ _ hrec0
  refine ⟨?_, hz0.trans hz.symm⟩
  rw [hrec, hrec0, LegEntry.layout, LegEntry.layout]
  simp only [legLayout, List.append_assoc]
  simp [leBytes, zeros, List.replicate]

theorem leAt_lt (l : List Byte) (o n : Nat) : leAt l o n < 256 ^ n := by
  refine Nat.lt_of_lt_of_le (leNat_lt _) (Nat.pow_le_pow_right (by decide) ?_)
  unfold slice
  exact List.length_take_le _ _

theorem LegEntry.ofBytes_bounds (b : List Byte) : (LegEntry.ofBytes b).group < 256 ∧ (LegEntry.ofBytes b).hyst < 65536 :=
  ⟨leAt_lt b 3 1, leAt_lt b 0xE 2⟩

theorem LegEntry.unused_take {x : LegEntry} (h : x.channel = 0xFFFF) (epoch : Nat) : (x.record epoch).take 0x38 = zeros 0x38 := by
  obtain ⟨crc, hz, -⟩ := withCrc_zeros
  rw [LegEntry.record_unused h, hz]
  simp [zeros, List.replicate]

/-- The entry of an unused point gives a blank record, which gives the blank entry back. -/
theorem legUnconvert_unused {x : LegEntry} (h : x.channel = 0xFFFF) (epoch : Nat) : legUnconvert (x.record epoch) = some LegEntry.blank :=
  legUnconvert_of_candidate (LegEntry.candidate_blank (LegEntry.unused_take h epoch)) (by decide)
    (by rw [LegEntry.unused_take rfl, LegEntry.unused_take h]) (by rw [LegEntry.record_unused rfl, LegEntry.record_unused h])

theorem legUnconvert_used {b : List Byte} {x : LegEntry} (hx : x = LegEntry.ofBytes b) (hok : x.ok = true) (hch : x.channel ≤ 15) (epoch : Nat) :
    legUnconvert (x.record epoch) = some x := by
  obtain ⟨hgroup, hhyst⟩ := LegEntry.ofBytes_bounds b
  rw [← hx] at hgroup hhyst
  obtain ⟨htake, hslice⟩ := LegEntry.record_epoch hch epoch
  exact legUnconvert_of_candidate (LegEntry.candidate_record hok hch hgroup hhyst epoch) hok htake hslice

/-- A record that an entry could have made is given back (R240). -/
theorem legUnconvert_made {b l : List Byte} {x : LegEntry} (hx : x = LegEntry.ofBytes b) (hok : x.ok = true)
    (htake : (x.record 0).take 0x38 = l.take 0x38) (hslice : slice (x.record 0) 0x3A 2 = slice l 0x3A 2) : legUnconvert l ≠ none := by
  obtain ⟨-, hch | hch, -⟩ := LegEntry.ok_fields hok
  · obtain ⟨hgroup, hhyst⟩ := LegEntry.ofBytes_bounds b
    rw [← hx] at hgroup hhyst
    have hc := (LegEntry.candidate_congr htake).symm.trans (LegEntry.candidate_record hok hch hgroup hhyst 0)
    rw [legUnconvert_of_candidate hc hok htake hslice]
    exact nofun
  · rw [LegEntry.unused_take hch] at htake
    rw [LegEntry.record_unused hch] at hslice
    rw [legUnconvert_of_candidate (LegEntry.candidate_blank htake.symm) (by decide) ((LegEntry.unused_take rfl 0).trans htake)
      ((congrArg (fun r => slice r 0x3A 2) (LegEntry.record_unused rfl 0)).trans hslice)]
    exact nofun

end Sys2Proof.Machine

/-! PROOFS. O14 PointRecords: POINT_WRITE, and the forerunner's point registers (R234, R235, R239-R241). -/

namespace Sys2Proof.Machine

/-! ## POINT_WRITE -/

theorem checkPoint_none (d : Desc) (w : State) : checkPoint none d w = .inl (Status.badArg, w) := by
  have himg : d.image 0x10 64 none = none := ite_self _
  unfold checkPoint
  dsimp only
  rw [himg]

section

variable {s : State} {d : Desc} {l : List Byte} (h : s.Heads 0x10 d) (hheld : s.cfgHeld = false) (hl : l.length = 64)
  (hal : d.aligned 0x10 = true)

include hl hal in
theorem checkPoint_image (w : State) : checkPoint (some l) d w
    = if decide (81919 < d.arg 8 4) || !d.resv 0xC 4 || !d.resv 0x18 40 then .inl (Status.badArg, w)
      else if !crcOk l 64 then .inl (Status.crc, w)
      else if !(PCfg.ofBytes l).rulesOk (d.arg 8 4) then .inl (Status.badArg, w)
      else .inr { target := d.arg 8 4, bodies := [l], image := l } := by
  unfold checkPoint
  dsimp only
  rw [Desc.image_some hal hl]

include h hheld hl hal in
theorem pointWrite_good (hp : d.arg 8 4 < 81920) (hr : d.resv 0xC 4 = true) (hr' : d.resv 0x18 40 = true) (hcrc : crcOk l 64 = true)
    (hrules : (PCfg.ofBytes l).rulesOk (d.arg 8 4) = true) :
    Ends (.pointWrite (some l)) s (fun t => Taken s t d { target := d.arg 8 4, bodies := [l], image := l, cfg := true }) := by
  refine ends_cfg_good (check := checkPoint (some l)) rfl h hheld (u := { target := d.arg 8 4, bodies := [l], image := l }) ?_
  rw [checkPoint_image hl hal, hr, hr', hcrc, hrules, decide_eq_false (by omega)]
  rfl

include h hheld hl hal in
theorem pointWrite_crc (hp : d.arg 8 4 < 81920) (hr : d.resv 0xC 4 = true) (hr' : d.resv 0x18 40 = true) (hcrc : crcOk l 64 = false) :
    Ends (.pointWrite (some l)) s (fun t => Answered s t d Status.crc 0) := by
  refine ends_cfg_refused (check := checkPoint (some l)) rfl h hheld ?_
  rw [checkPoint_image hl hal, hr, hr', hcrc, decide_eq_false (by omega)]
  rfl

include h hheld hl hal in
theorem pointWrite_bad (hbad : 81920 ≤ d.arg 8 4 ∨ d.resv 0xC 4 = false ∨ d.resv 0x18 40 = false
      ∨ (crcOk l 64 = true ∧ (PCfg.ofBytes l).rulesOk (d.arg 8 4) = false)) :
    Ends (.pointWrite (some l)) s (fun t => Answered s t d Status.badArg 0) := by
  refine ends_cfg_refused (check := checkPoint (some l)) rfl h hheld ?_
  rw [checkPoint_image hl hal]
  rcases hbad with hp | hr | hr | ⟨hcrc, hrules⟩
  · exact if_pos (by simp; omega)
  · exact if_pos (by simp [hr])
  · exact if_pos (by simp [hr])
  · split
    · rfl
    · rw [hcrc, hrules]
      rfl

end

/-! ## The words of an entry -/

theorem leBytes_leNat (l : List Byte) : leBytes l.length (leNat l) = l := by
  induction l with
  | nil => rfl
  | cons b l ih =>
    have hb := b.isLt
    rw [List.length_cons, leBytes, leNat]
    congr 1
    · exact BitVec.eq_of_toNat_eq (by simp only [BitVec.toNat_ofNat]; omega)
    · rw [show (b.toNat + 256 * leNat l) / 256 = leNat l by omega, ih]

theorem leBytes_u32At {l : List Byte} {o : Nat} (h : o + 4 ≤ l.length) : leBytes 4 (u32At l o).toNat = slice l o 4 := by
  have hlen : (slice l o 4).length = 4 := by
    unfold slice
    rw [List.length_take, List.length_drop]
    omega
  have hlt := leAt_lt l o 4
  rw [u32At, BitVec.toNat_ofNat, Nat.mod_eq_of_lt (show leAt l o 4 < 2 ^ 32 from hlt), leAt]
  exact (congrArg (fun n => leBytes n (leNat (slice l o 4))) hlen).symm.trans (leBytes_leNat _)

theorem LegEntry.length_bytes (x : LegEntry) : x.bytes.length = 16 := by simp [LegEntry.bytes]

/-- The registers of the entry. -/
def legRegs : List Off := [Reg.LEG_PT_W0, Reg.LEG_PT_W1, Reg.LEG_PT_W2, Reg.LEG_PT_W3]

theorem State.legWords_congr {s t : State} (h : ∀ o ∈ legRegs, t.reg o = s.reg o) : t.legWords = s.legWords :=
  congrArg List.flatten (List.map_congr_left fun o ho => congrArg (fun v : U32 => leBytes 4 v.toNat) (h o ho))

theorem State.legWords_set (s : State) {l : List Byte} (hl : l.length = 16) : (s.setLegWords l).legWords = l := by
  have hsplit : slice l 0 4 ++ (slice l 4 4 ++ (slice l 8 4 ++ slice l 12 4)) = l := by
    unfold slice
    rw [List.take_of_length_le (l := l.drop 12) (by rw [List.length_drop]; omega)]
    rw [show l.drop 12 = (l.drop 8).drop 4 by rw [List.drop_drop], List.take_append_drop, show l.drop 8 = (l.drop 4).drop 4 by rw [List.drop_drop],
      List.take_append_drop, show l.drop 4 = (l.drop 0).drop 4 by rw [List.drop_drop], List.take_append_drop]
    rfl
  have hw : (s.setLegWords l).legWords = leBytes 4 (u32At l 0).toNat ++ (leBytes 4 (u32At l 4).toNat ++ (leBytes 4 (u32At l 8).toNat
      ++ leBytes 4 (u32At l 12).toNat)) := by
    simp [State.legWords, State.setLegWords, State.reg_setReg, Reg.LEG_PT_W0, Reg.LEG_PT_W1, Reg.LEG_PT_W2, Reg.LEG_PT_W3]
  rw [hw, leBytes_u32At (by omega), leBytes_u32At (by omega), leBytes_u32At (by omega), leBytes_u32At (by omega), hsplit]

theorem State.regsBut_setLegWords (s : State) (l : List Byte) : RegsBut s (s.setLegWords l) legRegs := by
  have hin : ∀ o ∈ legRegs, ∀ p ∈ [o], p ∈ legRegs := fun o ho p hp => List.mem_singleton.mp hp ▸ ho
  exact ((((regsBut_setReg s _ _).mono (hin Reg.LEG_PT_W0 (by decide))).trans ((regsBut_setReg _ _ _).mono (hin Reg.LEG_PT_W1 (by decide)))).trans
    ((regsBut_setReg _ _ _).mono (hin Reg.LEG_PT_W2 (by decide)))).trans ((regsBut_setReg _ _ _).mono (hin Reg.LEG_PT_W3 (by decide)))

/-! ## The end of a command of the forerunner's points -/

theorem State.legPtEnd_done (s : State) : (s.legPtEnd 0).reg Reg.LEG_PT_STATUS = 1 ∧ (s.legPtEnd 0).tarn = s.tarn
    ∧ RegsBut s (s.legPtEnd 0) [Reg.LEG_PT_STATUS] :=
  ⟨(State.reg_setReg _ _ _ _).trans (if_pos rfl), rfl, regsBut_setReg s _ _⟩

theorem State.legPtEnd_failed (s : State) {n : Nat} (hn : n ≠ 0) : (s.legPtEnd n).reg Reg.LEG_PT_STATUS = packU32 [(1, 1), (n, 2)]
    ∧ (s.legPtEnd n).reg Reg.LEG_PT_ERR_CNT = satAdd (s.reg Reg.LEG_PT_ERR_CNT) 1 ∧ (s.legPtEnd n).tarn = s.tarn
    ∧ RegsBut s (s.legPtEnd n) [Reg.LEG_PT_STATUS, Reg.LEG_PT_ERR_CNT] := by
  unfold State.legPtEnd
  rw [if_neg hn]
  refine ⟨?_, ?_, rfl, ?_⟩
  · rw [State.reg_bump, if_neg (by decide), State.reg_setReg, if_pos rfl]
  · rw [State.reg_bump, if_pos rfl, State.reg_setReg, if_neg (by decide)]
  · exact ((regsBut_setReg s _ _).mono (by decide)).trans ((regsBut_bump _ _).mono (by decide))

/-! ## LEG_PT_WRITE and LEG_PT_READ -/

theorem ends_legPtWrite_good {s : State} {x : LegEntry} (hf : s.fmodeOn = true) (hm : s.mgmt = Node.setup) (hx : x = LegEntry.ofBytes s.legWords)
    (hok : x.ok = true) (hlen : (x.record s.cfgEpoch).length = 64) :
    Ends .legPtWrite s (fun t => (∀ k, k < 64 → Sparse.get 0 t.tarn (Tarn.POINT_CFG + 64 * s.legIndex + k) = (x.record s.cfgEpoch).getD k 0)
      ∧ (∀ a, a < Tarn.POINT_CFG + 64 * s.legIndex ∨ Tarn.POINT_CFG + 64 * s.legIndex + 64 ≤ a → Sparse.get 0 t.tarn a = Sparse.get 0 s.tarn a)
      ∧ t.reg Reg.LEG_PT_STATUS = 1 ∧ t.cfgDirty = true ∧ t.reg Reg.LEG_PT_ERR_CNT = s.reg Reg.LEG_PT_ERR_CNT) := by
  have hrun : s.fresh.legPtWrite
      = ((s.fresh.tarnStore (Tarn.POINT_CFG + 64 * s.legIndex) (x.record s.cfgEpoch)).setDirty).legPtEnd 0 := by
    unfold State.legPtWrite
    rw [if_neg (by rw [show s.fresh.fmodeOn = s.fmodeOn from rfl, hf]; decide),
      if_neg (by rw [show s.fresh.mgmt = s.mgmt from rfl, hm]; decide)]
    dsimp only
    rw [show s.fresh.legWords = s.legWords from rfl, ← hx, if_neg (by rw [hok]; decide)]
    rfl
  refine ⟨_, congrArg Host.Outcome.next hrun, ?_⟩
  generalize x.record s.cfgEpoch = r at hlen ⊢
  generalize Tarn.POINT_CFG + 64 * s.legIndex = o
  have htarn : (s.fresh.tarnStore o r).tarn = Sparse.write 0 s.tarn o r := State.tarnStore_tarn _ _ _
  have hregs : (s.fresh.tarnStore o r).regs = s.regs := (State.tarnStore_parts s.fresh o r .regs (by decide)).trans rfl
  have hboot : (s.fresh.tarnStore o r).behavBoot = s.behavBoot := (State.tarnStore_parts s.fresh o r .behavBoot (by decide)).trans rfl
  generalize s.fresh.tarnStore o r = w at htarn hregs hboot
  obtain ⟨hst, htarn', hbut⟩ := w.setDirty.legPtEnd_done
  have hcells : (w.setDirty.legPtEnd 0).tarn = Sparse.write 0 s.tarn o r := htarn'.trans htarn
  refine ⟨fun k hk => ?_, fun a ha => ?_, hst, ?_, ?_⟩
  · rw [hcells]
    exact Sparse.get_write_inside _ _ _ _ (by omega)
  · rw [hcells]
    exact Sparse.get_write_outside _ _ _ _ (hlen.symm ▸ ha)
  · exact (State.rbit_of_reg (hbut _ (by decide)) 10).trans (State.rbit_setRegBit_self _ _ _ _ (by decide))
  · exact (hbut _ (by decide)).trans ((regsBut_setRegBit w _ _ _ _ (by decide)).trans (State.reg_congr hregs hboot _))

theorem ends_legPtWrite_bad {s : State} {x : LegEntry} (hf : s.fmodeOn = true) (hm : s.mgmt = Node.setup) (hx : x = LegEntry.ofBytes s.legWords)
    (hok : x.ok = false) : Ends .legPtWrite s (fun t => t.tarn = s.tarn ∧ t.rfld Reg.LEG_PT_STATUS 1 1 = 1 ∧ t.rfld Reg.LEG_PT_STATUS 2 2 = 1
      ∧ t.reg Reg.LEG_PT_ERR_CNT = satAdd (s.reg Reg.LEG_PT_ERR_CNT) 1 ∧ RegsBut s t [Reg.LEG_PT_STATUS, Reg.LEG_PT_ERR_CNT]) := by
  have hrun : s.fresh.legPtWrite = s.fresh.legPtEnd 1 := by
    unfold State.legPtWrite
    rw [if_neg (by rw [show s.fresh.fmodeOn = s.fmodeOn from rfl, hf]; decide),
      if_neg (by rw [show s.fresh.mgmt = s.mgmt from rfl, hm]; decide)]
    dsimp only
    rw [show s.fresh.legWords = s.legWords from rfl, ← hx, if_pos (by rw [hok]; decide)]
  refine ⟨_, congrArg Host.Outcome.next hrun, ?_⟩
  obtain ⟨hst, hcnt, htarn, hregs⟩ := s.fresh.legPtEnd_failed (n := 1) (by decide)
  refine ⟨htarn, ?_, ?_, hcnt, hregs⟩
  · rw [State.rfld, hst]
    decide
  · rw [State.rfld, hst]
    decide

/-- A command of the forerunner's points that is ignored. -/
theorem ignored_legPt (s : State) : Ignored s (s.fresh.ignored Reg.LEG_PT_CMD Why.cmdState) Reg.LEG_PT_CMD Why.cmdState :=
  (s.fresh.ignored_register Reg.LEG_PT_CMD Why.cmdState (by decide) (by decide)).of_fresh

theorem ends_legPtWrite_off {s : State} (hf : s.fmodeOn = false) : Ends .legPtWrite s (fun t => Ignored s t Reg.LEG_PT_CMD Why.cmdState) :=
  ⟨_, congrArg Host.Outcome.next (if_pos (by rw [show s.fresh.fmodeOn = s.fmodeOn from rfl, hf]; decide)), ignored_legPt s⟩

theorem ends_legPtRead_off {s : State} (h : s.fmodeOn = false ∨ s.mgmt < Node.setup) :
    Ends .legPtRead s (fun t => Ignored s t Reg.LEG_PT_CMD Why.cmdState) := by
  have hrun : s.fresh.legPtRead = s.fresh.ignored Reg.LEG_PT_CMD Why.cmdState := by
    unfold State.legPtRead
    rcases h with hf | hm
    · exact if_pos (by rw [show s.fresh.fmodeOn = s.fmodeOn from rfl, hf]; decide)
    · split
      · rfl
      · exact if_pos hm
  exact ⟨_, congrArg Host.Outcome.next hrun, ignored_legPt s⟩

theorem ends_legPtWrite_away {s : State} (hf : s.fmodeOn = true) (hm : s.mgmt ≠ Node.setup) : Ends .legPtWrite s (fun t =>
      t.reg Reg.MGMT_IGNORED_LAST = packU32 [(Reg.LEG_PT_CMD, 0), (Why.cmdState, 25)] ∧ t.rbit Reg.MGMT_EVT 2 = true
      ∧ t.reg Reg.LEG_PT_STATUS = packU32 [(1, 1), (3, 2)] ∧ t.tarn = s.tarn
      ∧ t.reg Reg.LEG_PT_ERR_CNT = satAdd (s.reg Reg.LEG_PT_ERR_CNT) 1) := by
  have hrun : s.fresh.legPtWrite = (s.fresh.ignored Reg.LEG_PT_CMD Why.cmdState).legPtEnd 3 := by
    unfold State.legPtWrite
    rw [if_neg (by rw [show s.fresh.fmodeOn = s.fmodeOn from rfl, hf]; decide),
      if_pos (by rw [show s.fresh.mgmt = s.mgmt from rfl]; exact bne_iff_ne.mpr hm)]
  have hig := ignored_legPt s
  have htarn : (s.fresh.ignored Reg.LEG_PT_CMD Why.cmdState).tarn = s.tarn := State.ignored_tarn s.fresh _ _ _
  refine ⟨_, congrArg Host.Outcome.next hrun, ?_⟩
  generalize s.fresh.ignored Reg.LEG_PT_CMD Why.cmdState = w at hig htarn
  obtain ⟨hst, hcnt, htarn', hregs⟩ := w.legPtEnd_failed (n := 3) (by decide)
  refine ⟨(hregs _ (by decide)).trans hig.last, (State.rbit_of_reg (hregs _ (by decide)) 2).trans hig.shown, hst, htarn'.trans htarn, ?_⟩
  rw [hcnt, hig.regs _ (by decide)]

theorem ends_legPtRead_some {s : State} (hf : s.fmodeOn = true) (hm : Node.setup ≤ s.mgmt) {x : LegEntry}
    (hx : legUnconvert (s.tarnSee (Tarn.POINT_CFG + 64 * s.legIndex) 64) = some x) : Ends .legPtRead s (fun t =>
      t.legWords = x.bytes ∧ t.reg Reg.LEG_PT_STATUS = 1 ∧ t.tarn = s.tarn
      ∧ RegsBut s t [Reg.LEG_PT_W0, Reg.LEG_PT_W1, Reg.LEG_PT_W2, Reg.LEG_PT_W3, Reg.LEG_PT_STATUS]) := by
  have hrun : s.fresh.legPtRead = (s.fresh.setLegWords x.bytes).legPtEnd 0 := by
    unfold State.legPtRead
    rw [if_neg (by rw [show s.fresh.fmodeOn = s.fmodeOn from rfl, hf]; decide),
      if_neg (by rw [show s.fresh.mgmt = s.mgmt from rfl]; omega),
      show legUnconvert (s.fresh.tarnSee (Tarn.POINT_CFG + 64 * s.fresh.legIndex) 64) = some x from hx]
  refine ⟨_, congrArg Host.Outcome.next hrun, ?_⟩
  have hwords := s.fresh.legWords_set x.length_bytes
  have hbut := s.fresh.regsBut_setLegWords x.bytes
  have htarn : (s.fresh.setLegWords x.bytes).tarn = s.tarn := rfl
  generalize s.fresh.setLegWords x.bytes = w at hwords hbut htarn
  obtain ⟨hst, htarn', hregs⟩ := w.legPtEnd_done
  refine ⟨(State.legWords_congr fun o ho => hregs o ?_).trans hwords, hst, htarn'.trans htarn, ?_⟩
  · revert o
    decide
  · exact (hbut.mono (by decide)).trans (hregs.mono (by decide))

theorem ends_legPtRead_none {s : State} (hf : s.fmodeOn = true) (hm : Node.setup ≤ s.mgmt)
    (hx : legUnconvert (s.tarnSee (Tarn.POINT_CFG + 64 * s.legIndex) 64) = none) : Ends .legPtRead s (fun t =>
      t.legWords = zeros 16 ∧ t.rfld Reg.LEG_PT_STATUS 1 1 = 1 ∧ t.rfld Reg.LEG_PT_STATUS 2 2 = 2 ∧ t.tarn = s.tarn
      ∧ t.reg Reg.LEG_PT_ERR_CNT = satAdd (s.reg Reg.LEG_PT_ERR_CNT) 1) := by
  have hrun : s.fresh.legPtRead = (s.fresh.setLegWords (zeros 16)).legPtEnd 2 := by
    unfold State.legPtRead
    rw [if_neg (by rw [show s.fresh.fmodeOn = s.fmodeOn from rfl, hf]; decide),
      if_neg (by rw [show s.fresh.mgmt = s.mgmt from rfl]; omega),
      show legUnconvert (s.fresh.tarnSee (Tarn.POINT_CFG + 64 * s.fresh.legIndex) 64) = none from hx]
  refine ⟨_, congrArg Host.Outcome.next hrun, ?_⟩
  have hwords := s.fresh.legWords_set (l := zeros 16) rfl
  have hbut := s.fresh.regsBut_setLegWords (zeros 16)
  have htarn : (s.fresh.setLegWords (zeros 16)).tarn = s.tarn := rfl
  generalize s.fresh.setLegWords (zeros 16) = w at hwords hbut htarn
  obtain ⟨hst, hcnt, htarn', hregs⟩ := w.legPtEnd_failed (n := 2) (by decide)
  refine ⟨(State.legWords_congr fun o ho => hregs o ?_).trans hwords, ?_, ?_, htarn'.trans htarn, ?_⟩
  · revert o
    decide
  · rw [State.rfld, hst]
    decide
  · rw [State.rfld, hst]
    decide
  · rw [hcnt, hbut _ (by decide)]
    rfl

/-! ## The record of an entry -/

theorem LegEntry.length_record {x : LegEntry} (hok : x.ok = true) (epoch : Nat) : (x.record epoch).length = 64 := by
  obtain ⟨-, hch | hch, -⟩ := LegEntry.ok_fields hok
  · obtain ⟨crc, hrec, hlen⟩ := LegEntry.record_used hch epoch
    rw [hrec, List.length_append, LegEntry.layout, length_legLayout, hlen]
  · obtain ⟨crc, hz, hlen⟩ := withCrc_zeros
    rw [LegEntry.record_unused hch, hz, List.length_append, hlen]
    simp [zeros]

/-- An entry in use becomes a point's record, field by field as in Table 7-20. -/
theorem LegEntry.record_fields {x : LegEntry} (hok : x.ok = true) (hch : x.channel ≤ 15) (hgroup : x.group < 256) (epoch : Nat) {c : PCfg}
    (hc : c = PCfg.ofBytes (x.record epoch)) :
    c.srcType = 1 ∧ c.srcIndex = x.channel ∧ c.enable = bitAt x.mode 0 ∧ c.latch = bitAt x.mode 1
        ∧ c.invert = false ∧ c.faultAlarm = false ∧ c.rate = false ∧ c.custody = false ∧ c.panel = false
        ∧ c.gain = 0x3F800000 ∧ c.offset = 0 ∧ c.thL = x.lo ∧ c.thH = x.hi ∧ c.thLL = 0 ∧ c.thHH = 0 ∧ c.rateLimit = 0
        ∧ (∀ i, i < 8 → bitAt c.thEn i = (if i = 1 then bitAt x.mode 3 else if i = 2 then bitAt x.mode 2 else false))
        ∧ c.hyst = F32.ofRatio x.hyst 1000 ∧ c.onDelay = 10 * x.delay ∧ c.offDelay = 10 * x.delay
        ∧ c.group = x.group ∧ c.prio = 2 ∧ leAt (x.record epoch) 0x2A 1 = 0 ∧ c.blockSrc = 0x1FFFF ∧ c.blockDelay = 0
        ∧ c.shelveMax = 0 ∧ leAt (x.record epoch) 0x34 4 = 0 ∧ leAt (x.record epoch) 0x38 2 = epoch % 65536
        ∧ (x.record epoch).length = 64 ∧ crcOk (x.record epoch) 64 = true := by
  obtain ⟨-, -, hdelay⟩ := LegEntry.ok_fields hok
  obtain ⟨crc, hrec, -⟩ := LegEntry.record_used hch epoch
  obtain ⟨htype, hindex, hen, hla, hinv, hfa, hrate, hcust, hpanel⟩ := LegEntry.src_fields hch
  obtain ⟨h1, h2, h3, h4, h5, h6, h7, h8, h9⟩ := legLayout_fields _ _ _ _ _ _ _ _ _ hrec hc
  obtain ⟨f0, f1, f2, f3, f4, f5, f6⟩ := legLayout_flags _ _ _ _ _ _ _ _ _ hrec hc
  obtain ⟨k1, k2, k3, k4, k5, k6, k7, k8, k9⟩ := legLayout_constants _ _ _ _ _ _ _ _ _ hrec hc
  obtain ⟨-, -, -, -, -, -, -, -, hepoch⟩ := legLayout_slices _ _ _ _ _ _ _ _ _ hrec
  obtain ⟨-, -, -, -, -, -, hr1, -, -, -, hr2, -⟩ := legLayout_constant_slices _ _ _ _ _ _ _ _ _ hrec
  have hd : 10 * x.delay % 65536 = 10 * x.delay := Nat.mod_eq_of_lt (by omega)
  refine ⟨h1.trans htype, h2.trans hindex, f0.trans hen, f2.trans hla, f1.trans hinv, f3.trans hfa, f4.trans hrate, f5.trans hcust,
    f6.trans hpanel, k1, k2, h3, h4, k3, k4, k5, fun i hi => ?_, h5, h6.trans hd, h7.trans hd, h8.trans (Nat.mod_eq_of_lt hgroup), k6, ?_, k7, k8,
    k9, ?_, leAt_of_slice hepoch, LegEntry.length_record hok epoch, x.record_crc epoch⟩
  · rw [h9]
    exact legThEn_bits _ _ i hi
  · rw [leAt, hr1]
    decide
  · rw [leAt, hr2]
    decide

theorem LegEntry.record_blank {x : LegEntry} (hch : x.channel = 0xFFFF) (epoch : Nat) :
    (x.record epoch).take 60 = zeros 60 ∧ (x.record epoch).length = 64 ∧ crcOk (x.record epoch) 64 = true := by
  obtain ⟨crc, hz, hlen⟩ := withCrc_zeros
  refine ⟨?_, ?_, x.record_crc epoch⟩
  · rw [LegEntry.record_unused hch, hz]
    exact List.take_left' (by simp [zeros])
  · rw [LegEntry.record_unused hch, hz, List.length_append, hlen]
    simp [zeros]

/-- Settles O14: the check of POINT_WRITE in its order, and the layout of Table 7-20 with its inverse, in which HYST comes back because the two roundings move it by less than a half. -/
theorem pointRecords : Obligations.PointRecords := by
  unfold Obligations.PointRecords
  refine ⟨⟨?_, ?_, ?_, ?_⟩, ⟨?_, ?_, ?_, ?_⟩, ⟨?_, ?_, ?_, ?_, ?_⟩⟩
  · exact fun s d l h hheld hl hal hp hr hr' hcrc hrules => pointWrite_good h hheld hl hal hp hr hr' hcrc hrules
  · exact fun s d h hheld => ends_cfg_refused (check := checkPoint none) rfl h hheld (checkPoint_none _ _)
  · exact fun s d l h hheld hl hal hp hr hr' hcrc => pointWrite_crc h hheld hl hal hp hr hr' hcrc
  · exact fun s d l h hheld hl hal hbad => pointWrite_bad h hheld hl hal hbad
  · exact fun s x hf hm hx => ⟨fun hok => ends_legPtWrite_good hf hm hx hok (LegEntry.length_record hok _), fun hok => ends_legPtWrite_bad hf hm hx hok⟩
  · intro s h
    exact ⟨ends_legPtRead_off h, fun hf => ends_legPtWrite_off hf⟩
  · exact fun s hf hm => ends_legPtWrite_away hf hm
  · exact fun s hf hm => ⟨fun x hx => ends_legPtRead_some hf hm hx, fun hx => ends_legPtRead_none hf hm hx⟩
  · exact fun b x epoch hx hok => ⟨fun hch => legUnconvert_used hx hok hch epoch, fun hch => legUnconvert_unused hch epoch⟩
  · exact fun l x hx => legUnconvert_some hx
  · exact fun l hnone b x hx hok ⟨htake, hslice⟩ => legUnconvert_made hx hok htake hslice hnone
  · exact fun b x epoch hx hok hch c hc => LegEntry.record_fields hok hch (hx ▸ (LegEntry.ofBytes_bounds b).1) epoch hc
  · exact fun x epoch hch => LegEntry.record_blank hch epoch

end Sys2Proof.Machine

/-! PROOFS. What halts the node: the registers that FAULT_HALT writes, and what it shows (R37, R120, R518). -/

namespace Sys2Proof.Machine

/-! ## Folds over the channels and sources -/

/-- Steps that each write registers of a list of their own write those of all. -/
theorem RegsBut.foldl_flatMap {α : Type} {f : State → α → State} {os : α → List Off} (l : List α)
    (h : ∀ t : State, ∀ x ∈ l, RegsBut t (f t x) (os x)) (s : State) : RegsBut s (l.foldl f s) (l.flatMap os) := by
  induction l generalizing s with
  | nil => exact .refl s _
  | cons x l ih =>
    have hx := h s x List.mem_cons_self
    exact hx.andThen (ih (fun t y hy => h t y (List.mem_cons_of_mem x hy)) (f s x))

/-! ## CAN channels that leave the bus -/

theorem regsBut_rxFlush (s : State) {n : Nat} (hn : n < 8) : RegsBut s (s.rxFlush n) (canRingRegs n) :=
  (canPosted_echoesDue (s.updCan n _) hn).regs

theorem regsBut_endFrames (s : State) {n : Nat} (hn : n < 8) (f : TxSlot → Bool) (code : Nat) :
    RegsBut s (s.endFrames n f code) (outcomeRegs n) := (canPosted_endFrames s hn f code).regs

theorem regsBut_cancelEnds (s : State) (n : Nat) (sent : Bool) (os : List Off) : RegsBut s (s.cancelEnds n sent) os :=
  .of_foot [.hif, .can] (fun _ _ => cancelEnds_foot _ _ _ (.refl s)) os

theorem regsBut_canOff (s : State) (n : Nat) : RegsBut s (s.canOff n) [Reg.CAN_NOACK_RUN n, Reg.CAN_STATUS n] := by
  have hbits : RegsBut s (((s.setCanBus n 0).setCanStat n CanStat.integrating false).setCanStat n CanStat.recovering false)
      [Reg.CAN_NOACK_RUN n, Reg.CAN_STATUS n] :=
    (((regsBut_setRegFld s _ _ _ _).mono (by simp)).trans ((regsBut_setRegBit _ _ _ _).mono (by simp))).trans
      ((regsBut_setRegBit _ _ _ _).mono (by simp))
  have hquiet := hbits.trans (State.canQuiet_quiet _ n).1
  unfold State.canOff
  dsimp only
  split
  · exact hquiet
  · exact hquiet.trans (.of_regs rfl rfl _)

/-- Registers of a channel that leaves the bus as the node halts. -/
abbrev canHaltOneRegs (n : Nat) : List Off := Reg.CAN_NOACK_RUN n :: Reg.CAN_STATUS n :: outcomeRegs n

theorem regsBut_canHaltOne (s : State) {n : Nat} (hn : n < 8) : RegsBut s (s.canHaltOne n) (canHaltOneRegs n) := by
  unfold State.canHaltOne
  dsimp only
  exact ((((regsBut_rxFlush s hn).mono (by simp)).trans ((regsBut_endFrames _ hn _ _).mono (by simp))).trans (regsBut_cancelEnds _ n _ _)).trans
    (((regsBut_endFrames _ hn _ _).mono (by simp)).trans ((regsBut_canOff _ n).mono (by simp)))

def canHaltRegs : List Off := (List.range 8).flatMap canHaltOneRegs

theorem regsBut_canHalt (s : State) : RegsBut s s.canHalt canHaltRegs :=
  (RegsBut.of_regs (t := { s with canWalk := [], outlet := { s.outlet with pubCan := [] } }) rfl rfl canHaltRegs).trans
    (RegsBut.foldl_flatMap (f := State.canHaltOne) (os := canHaltOneRegs) (List.range 8) (fun t _ hn => regsBut_canHaltOne t (List.mem_range.mp hn)) _)

/-! ## FAULT_HALT -/

def restRegs : List Off := (List.range 16).flatMap fun k => [Reg.EX_STATUS k]

theorem regsBut_restSources (s : State) : RegsBut s s.restSources restRegs := by
  unfold State.restSources restRegs
  refine RegsBut.foldl_flatMap (os := fun k => [Reg.EX_STATUS k]) (List.range 16) (fun t k _ => ?_) s
  split
  · exact .refl t _
  · exact regsBut_setReg t _ _

theorem regsBut_lanesEnd (s : State) (f : Lane → Lane) : RegsBut s (s.lanesEnd f) restRegs := by
  unfold State.lanesEnd
  exact (RegsBut.of_foot [.fe] (fun _ _ => foldl_foot _ (fun _ _ ht => updLane_foot _ _ _ ht) _ _ (.refl s)) restRegs).trans (regsBut_restSources _)

theorem regsBut_setMgmt (s : State) (st : Nat) : RegsBut s (s.setMgmt st) [Reg.MGMT_STATE, Reg.MGMT_EVT, Reg.MSIX_PBA 0] := by
  unfold State.setMgmt
  split
  · exact .refl s _
  · exact ((regsBut_setRegFld s _ _ _ _).mono (by decide)).trans ((regsBut_raise _ _ _).mono (by decide))

theorem State.closeTaken_inlet (s : State) : s.closeTaken.inlet = { s.inlet with cmds := [] } := by
  unfold State.closeTaken
  exact same_of_foot [.hif] (fun _ _ => refuseTaken_foot _ _ (foldl_foot _ (fun t r ht => ite_foot _ _ _ (fun _ => closeRunning_foot _ _ ht)
    (fun _ => complete_foot _ _ _ _ _ _ ht)) _ _ (.refl _))) .inlet

theorem regsBut_requestsEnd (s : State) : RegsBut s s.requestsEnd [Reg.PAIR_BLOCKED_LO, Reg.PAIR_BLOCKED_HI] := by
  unfold State.requestsEnd
  exact (RegsBut.of_regs rfl rfl _).trans (regsBut_setPair { s with dio := { s.dio with callReq := 0, ownReq := 0 } } _ _ _)

/-- What the node has done before its cause is written. -/
def State.haltClosed (s : State) : State := s.closeTaken.endContinuous.requestsEnd.lanesEnd Lane.halt

def haltClosedRegs : List Off := [Reg.SPAWN_STATUS] ++ [Reg.PAIR_BLOCKED_LO, Reg.PAIR_BLOCKED_HI] ++ restRegs

theorem State.haltClosed_isn (s : State) : s.haltClosed.inlet.isn = s.inlet.isn := by
  have hin : s.haltClosed.inlet = s.closeTaken.inlet :=
    same_of_foot [.regs, .spawn, .dio, .fe] (fun _ _ => lanesEnd_foot _ _ (requestsEnd_foot _ (endContinuous_foot _ (.refl s.closeTaken)))) .inlet
  rw [hin, State.closeTaken_inlet]

/-- The cause and ISN_HWM written, and the halt shown; the CAN channels are still on the bus. -/
def State.haltShown (s : State) (cause engCause : Nat) : State :=
  (((((s.haltClosed).setReg Reg.MGMT_FAULT_CAUSE (packU32 [(cause, 0), (engCause, 8)])).setPair Reg.MGMT_FAULT_ISN_LO Reg.MGMT_FAULT_ISN_HI
    (s.haltClosed.setReg Reg.MGMT_FAULT_CAUSE (packU32 [(cause, 0), (engCause, 8)])).inlet.isn).setMgmt Node.faultHalt).raise Reg.MGMT_EVT 0x10)

theorem State.haltNode_eq {s : State} (h : s.mgmt ≠ Node.faultHalt) (cause engCause : Nat) :
    s.haltNode cause engCause = (s.haltShown cause engCause).canHalt := by
  unfold State.haltNode State.haltShown State.haltClosed
  rw [if_neg h]

def haltShownRegs : List Off := haltClosedRegs ++ [Reg.MGMT_FAULT_CAUSE, Reg.MGMT_FAULT_ISN_LO, Reg.MGMT_FAULT_ISN_HI, Reg.MGMT_STATE, Reg.MGMT_EVT, Reg.MSIX_PBA 0]

def haltRegs : List Off := haltShownRegs ++ canHaltRegs

/-- A node that enters FAULT_HALT shows its cause and ISN_HWM (R37, R518). -/
theorem State.haltNode_shows {s : State} (h : s.mgmt ≠ Node.faultHalt) (cause engCause : Nat) :
    (s.haltNode cause engCause).mgmt = Node.faultHalt
      ∧ (s.haltNode cause engCause).reg Reg.MGMT_FAULT_CAUSE = packU32 [(cause, 0), (engCause, 8)]
      ∧ (s.haltNode cause engCause).pair Reg.MGMT_FAULT_ISN_LO Reg.MGMT_FAULT_ISN_HI = s.inlet.isn
      ∧ (s.haltNode cause engCause).rbit Reg.MGMT_EVT 4 = true := by
  refine ⟨State.mgmt_haltNode _ _ _, ?_⟩
  rw [State.haltNode_eq h]
  have hcan := regsBut_canHalt (s.haltShown cause engCause)
  have hisn := s.haltClosed_isn
  unfold State.haltShown at hcan ⊢
  generalize s.haltClosed = w at hcan hisn ⊢
  set x := (w.setReg Reg.MGMT_FAULT_CAUSE (packU32 [(cause, 0), (engCause, 8)])).setPair Reg.MGMT_FAULT_ISN_LO Reg.MGMT_FAULT_ISN_HI
    (w.setReg Reg.MGMT_FAULT_CAUSE (packU32 [(cause, 0), (engCause, 8)])).inlet.isn with hx
  have hlate : RegsBut x ((x.setMgmt Node.faultHalt).raise Reg.MGMT_EVT 0x10) [Reg.MGMT_STATE, Reg.MGMT_EVT, Reg.MSIX_PBA 0] :=
    (regsBut_setMgmt x _).trans ((regsBut_raise _ _ _).mono (by decide))
  refine ⟨?_, ?_, ?_⟩
  · rw [hcan _ (by decide), hlate _ (by decide), hx, State.reg_setPair, if_neg (by decide), if_neg (by decide), State.reg_setReg, if_pos rfl]
  · rw [← hisn, State.pair_of_regs (hcan _ (by decide)) (hcan _ (by decide)), State.pair_of_regs (hlate _ (by decide)) (hlate _ (by decide))]
    exact State.pair_setPair _ (by decide) _
  · exact (State.rbit_of_reg (hcan _ (by decide)) 4).trans (State.rbit_raise_self _ _ _ _ (by decide) (by decide))

end Sys2Proof.Machine

/-! PROOFS. O1 BootAndResets: the boot into SETUP, the resets, and the loss of the logic supply (R49, R62, R63, R71, R73-R79). -/

namespace Sys2Proof.Machine

/-! ## The boot -/

theorem State.bootRom_slot {s : State} {good : Nat → Bool} (hm : s.nvm.boot.mode ≠ 1) (hg : good s.nvm.boot.slot.toNat = true) :
    s.bootRom good = (some { slot := s.nvm.boot.slot.toNat, settings := s.nvm.boot.settings.toNat }, s.writeDone) := by
  unfold State.bootRom
  dsimp only
  rw [if_pos (bne_iff_ne.mpr hm), bootSlot, if_pos hg]

/-- The node as the boot ROM finds it. -/
def State.powered (s : State) (env : BootEnv) : State :=
  let s := s.rtcElapse env.ticks
  let s := if s.rtc.onVbk then s.switchBack else s
  let s := ((s.updRtc (fun r => { r with cellHigh := env.cellHigh })).tmoLow).setMgmt Node.boot
  let s := s.setReg Reg.MGMT_SLOT_ID (packU32 [(env.slotId.toNat, 0), (b2n env.fmodeStrap, 8)])
  (s.linkTrain env.linkSpeed env.linkWidth).seedTime

theorem State.powered_nvm (s : State) (env : BootEnv) : (s.powered env).nvm = s.nvm := by
  unfold State.powered
  exact same_of_foot [.regs, .rtc, .free, .hif, .ws] (fun _ _ => seedTime_foot _ (linkTrain_foot _ _ _ (setReg_foot _ _ _ (setMgmt_foot _ _
    (tmoLow_foot _ (updRtc_foot _ _ (ite_foot _ _ _ (fun _ => switchBack_foot _ (rtcElapse_foot _ _ (.refl s)))
      (fun _ => rtcElapse_foot _ _ (.refl s))))))))) .nvm

/-- The choice of the boot ROM under a record that is no trial's. -/
def State.bootChoice (s : State) : BootChoice := { slot := s.nvm.boot.slot.toNat, settings := s.nvm.boot.settings.toNat }

theorem State.boot_slot {s : State} {env : BootEnv} (h : s.mgmt = Node.reset) (hm : s.nvm.boot.mode ≠ 1)
    (hb : s.nvm.bootable s.nvm.boot.slot.toNat = true) (ha : env.imgBadA = false) (hb' : env.imgBadB = false) :
    s.boot env = ((s.powered env).writeDone).bootImage env s.bootChoice := by
  have hn := s.powered_nvm env
  have hrom : (s.powered env).bootRom (fun k => (s.powered env).nvm.bootable k && !(if k = 0 then env.imgBadA else env.imgBadB))
      = (some s.bootChoice, (s.powered env).writeDone) := by
    rw [State.bootRom_slot (by rw [hn]; exact hm) (by simp [hn, hb, ha, hb']), State.bootChoice, hn]
  unfold State.boot
  rw [if_neg (by simp [h])]
  exact congrArg (fun x : Option BootChoice × State => match x with
    | (none, s) => s.setReg Reg.MGMT_BOOT_STATUS 2
    | (some b, s) => s.bootImage env b) hrom

/-- The image has been started and the units tested. -/
def State.tested (s : State) (env : BootEnv) (b : BootChoice) : State :=
  ((((s.bootChosen b).takeIdentity env.ssAnswers).setMgmt Node.selftest).setReg Reg.MGMT_SELFTEST (testsWord env.tests)).selfTested env.tests

/-- The units' factors, and the supplies of the front end and the field sides. -/
def State.supplied (s : State) (env : BootEnv) : State :=
  (List.range 4).foldl (fun (s : State) k => (s.setRegBit (Reg.DIO_BANK_STATUS k) 1 (bitAt env.fieldUp k)).updBank k
    (fun x => { x with powered := x.powered || bitAt env.fieldUp k }))
    ((s.factoryFactors.firstCal env.cal).setReg Reg.FE_STATUS (packU32 [(b2n env.fePwrOk, 0), (b2n env.fePwrOk, 1)]))

theorem State.bootImage_halt (s : State) {env : BootEnv} (b : BootChoice) (h : testsHalt env.tests = true) :
    s.bootImage env b = ((s.tested env b).haltNode 1 0).panelOut := if_pos h

/-- A boot that is no trial's goes on to SETUP. -/
def State.ready (s : State) (env : BootEnv) (b : BootChoice) : State :=
  { (s.tested env b).supplied env with upd := { ((s.tested env b).supplied env).upd with converted := b.trial } }

theorem State.bootImage_ready (s : State) {env : BootEnv} {b : BootChoice} (h : testsHalt env.tests = false) (hb : b.trial = false) :
    s.bootImage env b = (s.ready env b).finishBoot := by
  unfold State.bootImage
  dsimp only
  rw [if_neg (by rw [h]; decide), if_neg (by rw [hb, Bool.false_and]; decide)]
  rfl

theorem State.holder_releaseHold (s : State) : s.releaseHold.skink.holder = none := by
  unfold State.releaseHold
  split
  next h => exact h
  next => rfl

/-- Entry to SETUP (R94, R246). -/
structure SetUp (t : State) : Prop where
  mgmt : t.mgmt = Node.setup
  holder : t.skink.holder = none
  waiting : t.inlet.waiting = []
  cmds : t.inlet.cmds = []
  regions : t.aeA.pts.live = false ∧ t.aeB.pts.live = false

theorem State.setupShown_parts (v : State) : PartsBut v (v.statesWritten.requestsEnd.setMgmt Node.setup) [.regs, .dio, .gecko] := fun z hz =>
  same_of_foot [.regs, .dio, .gecko] (fun _ _ => setMgmt_foot _ _ (requestsEnd_foot _ (statesWritten_foot _ (.refl v)))) z hz

theorem State.enterSetup_setUp (s : State) : SetUp s.enterSetup := by
  refine ⟨State.mgmt_enterSetup s, ?_, ?_, ?_, ?_, ?_⟩
  · exact (congrArg Skink.holder (State.setupShown_parts _ .skink (by decide))).trans s.holder_releaseHold
  · exact (congrArg Inlet.waiting (State.setupShown_parts _ .inlet (by decide))).trans rfl
  · exact (congrArg Inlet.cmds (State.setupShown_parts _ .inlet (by decide))).trans rfl
  · exact (congrArg (fun x : Engine => x.pts.live) (State.setupShown_parts _ .aeA (by decide))).trans rfl
  · exact (congrArg (fun x : Engine => x.pts.live) (State.setupShown_parts _ .aeB (by decide))).trans rfl

theorem SetUp.kept {s t : State} (h : SetUp s) (hreg : t.reg Reg.MGMT_STATE = s.reg Reg.MGMT_STATE) (hk : t.skink = s.skink) (hi : t.inlet = s.inlet)
    (hA : t.aeA = s.aeA) (hB : t.aeB = s.aeB) : SetUp t := by
  refine ⟨(State.rfld_of_reg hreg 0 3).trans h.mgmt, ?_, ?_, ?_, ?_⟩
  · rw [hk]
    exact h.holder
  · rw [hi]
    exact h.waiting
  · rw [hi]
    exact h.cmds
  · rw [hA, hB]
    exact h.regions

theorem State.forerunner_parts (s : State) : PartsBut s s.forerunner [.regs, .tarn, .gecko] := fun z hz =>
  same_of_foot [.regs, .tarn, .gecko] (fun _ _ => forerunner_foot _ (.refl s)) z hz

/-- The settings loaded, Wellspring seeded, the digest taken. -/
def State.loaded (s : State) : State := (s.loadSettings.pairEnabled s).seedTime.takeDigest

theorem State.loaded_upd (s : State) : s.loaded.upd = s.upd := by
  unfold State.loaded
  exact same_of_foot [.regs, .tarn, .hif, .ws] (fun _ _ => takeDigest_foot _ (seedTime_foot _ (pairEnabled_foot _ _ (loadSettings_foot _ (.refl s))))) .upd

/-- SETUP entered, and the panel and the timed outputs at work. -/
def State.setupShown (s : State) : State := (s.enterSetup.updHif (fun h => { h with beating := true })).panelOut.tmosLoaded

theorem State.finishBoot_eq (s : State) : s.finishBoot =
    if s.loaded.setupShown.fmodeOn && (s.loaded.setupShown.listed Tarn.CHANDEF 64 256).isEmpty then s.loaded.setupShown.forerunner else s.loaded.setupShown := rfl

theorem State.setupShown_ends (s : State) : SetUp s.setupShown ∧ s.setupShown.hif.beating = true ∧ s.setupShown.upd = s.upd := by
  unfold State.setupShown
  generalize hv : s.enterSetup.updHif (fun h => { h with beating := true }) = v
  have hset : SetUp v := hv ▸ (s.enterSetup_setUp).kept rfl rfl rfl rfl rfl
  have hbeat : v.hif.beating = true := hv ▸ rfl
  have hupd : v.upd = s.upd := hv ▸ same_of_foot [.regs, .inlet, .aeA, .aeB, .outlet, .skink, .dio, .gecko, .hif]
    (fun _ _ => updHif_foot _ _ (enterSetup_foot _ (.refl s))) .upd
  have hwp : PartsBut v v.panelOut.tmosLoaded [.ws] := fun z hz => same_of_foot [.ws] (fun _ _ => tmosLoaded_foot _ (panelOut_foot _ (.refl v))) z hz
  generalize v.panelOut.tmosLoaded = w at hwp
  have hwr : w.reg Reg.MGMT_STATE = v.reg Reg.MGMT_STATE := State.reg_congr (hwp .regs (by decide)) (hwp .behavBoot (by decide)) _
  exact ⟨hset.kept hwr (hwp .skink (by decide)) (hwp .inlet (by decide)) (hwp .aeA (by decide)) (hwp .aeB (by decide)),
    (congrArg Hif.beating (hwp .hif (by decide))).trans hbeat, (hwp .upd (by decide)).trans hupd⟩

/-- The last steps of a boot end in SETUP with the pages' heartbeat (Table 3-2). -/
theorem State.finishBoot_ends (s : State) : SetUp s.finishBoot ∧ s.finishBoot.hif.beating = true ∧ s.finishBoot.upd = s.upd := by
  obtain ⟨hw, hbeat, hupd⟩ := s.loaded.setupShown_ends
  rw [State.loaded_upd] at hupd
  rw [State.finishBoot_eq]
  generalize s.loaded.setupShown = w at hw hbeat hupd
  split
  · have hf := w.forerunner_parts
    exact ⟨hw.kept (State.reg_forerunner w _ (by decide)) (hf .skink (by decide)) (hf .inlet (by decide)) (hf .aeA (by decide)) (hf .aeB (by decide)),
      (congrArg Hif.beating (hf .hif (by decide))).trans hbeat, (hf .upd (by decide)).trans hupd⟩
  · exact ⟨hw, hbeat, hupd⟩

/-! ## The slot that runs -/

theorem State.setSes_slot (s : State) (st : Nat) : (s.setSes st).upd.runSlot = s.upd.runSlot := by
  unfold State.setSes
  dsimp only
  split
  · exact (congrArg Upd.runSlot (same_of_foot [.regs, .nvm, .gecko] (fun _ _ => writeSes_foot _ _ (.refl _)) .upd)).trans rfl
  · rfl

theorem State.eraseResume_slot (s : State) : s.eraseResume.upd.runSlot = s.upd.runSlot := by
  unfold State.eraseResume
  split
  · rfl
  · exact (State.setSes_slot _ _).trans (congrArg Upd.runSlot (same_of_foot [.regs, .nvm, .gecko]
      (fun _ _ => revoke_foot _ _ (eraseRegion_foot _ _ _ (.refl s))) .upd))

theorem State.bootChosen_slot (s : State) (b : BootChoice) : (s.bootChosen b).upd.runSlot = b.slot := by
  unfold State.bootChosen
  extract_lets r fall u v w
  have hw : w.upd.runSlot = b.slot := v.eraseResume_slot
  split
  · exact (congrArg Upd.runSlot (same_of_foot [.regs] (fun _ _ => bump_foot _ _ (raise_foot _ _ _ (.refl w))) .upd)).trans hw
  · exact hw

theorem State.tested_slot (s : State) (env : BootEnv) (b : BootChoice) : (s.tested env b).upd.runSlot = b.slot :=
  (congrArg Upd.runSlot (same_of_foot [.regs, .outlet, .nvm, .gecko, .behavBoot, .aeA, .aeB, .dio, .ws] (fun _ _ => selfTested_foot _ _ (setReg_foot _ _ _
    (setMgmt_foot _ _ (takeIdentity_foot _ _ (.refl (s.bootChosen b)))))) .upd)).trans (s.bootChosen_slot b)

theorem State.supplied_upd (s : State) (env : BootEnv) : (s.supplied env).upd = s.upd := by
  unfold State.supplied
  exact same_of_foot [.regs, .fe, .dio] (fun _ _ => foldl_foot _ (fun _ _ ht => updBank_foot _ _ _ (setRegBit_foot _ _ _ _ ht)) _ _
    (setReg_foot _ _ _ (firstCal_foot _ _ (factoryFactors_foot _ (.refl s))))) .upd

/-- A node whose image and units are in order comes to SETUP. -/
theorem ends_powerGoodRise_setup {s : State} {env : BootEnv} (h : s.mgmt = Node.reset) (hm : s.nvm.boot.mode ≠ 1)
    (hb : s.nvm.bootable s.nvm.boot.slot.toNat = true) (ha : env.imgBadA = false) (hb' : env.imgBadB = false)
    (ht : testsHalt env.tests = false) : Ends (.powerGoodRise env) s (fun t => t.mgmt = Node.setup ∧ t.upd.runSlot = s.nvm.boot.slot.toNat
      ∧ t.hif.beating = true ∧ t.inlet.waiting = [] ∧ t.skink.holder = none) := by
  have hrun : s.fresh.boot env = (((s.fresh.powered env).writeDone).ready env s.bootChoice).finishBoot :=
    (State.boot_slot (s := s.fresh) h hm hb ha hb').trans (State.bootImage_ready _ ht rfl)
  refine ⟨_, congrArg Host.Outcome.next hrun, ?_⟩
  obtain ⟨hset, hbeat, hupd⟩ := State.finishBoot_ends (((s.fresh.powered env).writeDone).ready env s.bootChoice)
  have hslot : (((s.fresh.powered env).writeDone).ready env s.bootChoice).upd.runSlot = s.nvm.boot.slot.toNat :=
    (congrArg Upd.runSlot (State.supplied_upd _ env)).trans (State.tested_slot _ _ _)
  exact ⟨hset.mgmt, (congrArg Upd.runSlot hupd).trans hslot, hbeat, hset.waiting, hset.holder⟩

theorem State.mgmt_tested (s : State) (env : BootEnv) (b : BootChoice) : (s.tested env b).mgmt ≠ Node.faultHalt := by
  have hself : ((s.bootChosen b).takeIdentity env.ssAnswers |>.setMgmt Node.selftest).mgmt = Node.selftest := State.mgmt_setMgmt _ _ (by decide)
  have hmode := selfTested_mode _ env.tests (setReg_mode _ Reg.MGMT_SELFTEST (testsWord env.tests) (Mode.refl _) (by decide))
    (r := (s.bootChosen b).takeIdentity env.ssAnswers |>.setMgmt Node.selftest)
  unfold State.tested
  rw [hmode.mgmt_eq (by rw [hself]; decide), hself]
  decide

theorem ends_powerGoodRise_halt {s : State} {env : BootEnv} (h : s.mgmt = Node.reset) (hm : s.nvm.boot.mode ≠ 1)
    (hb : s.nvm.bootable s.nvm.boot.slot.toNat = true) (ha : env.imgBadA = false) (hb' : env.imgBadB = false)
    (ht : testsHalt env.tests = true) : Ends (.powerGoodRise env) s (fun t => t.mgmt = Node.faultHalt ∧ t.reg Reg.MGMT_FAULT_CAUSE = 1) := by
  have hrun : s.fresh.boot env = ((((s.fresh.powered env).writeDone).tested env s.bootChoice).haltNode 1 0).panelOut :=
    (State.boot_slot (s := s.fresh) h hm hb ha hb').trans (State.bootImage_halt _ _ ht)
  obtain ⟨hmg, hcause, -⟩ := State.haltNode_shows (((s.fresh.powered env).writeDone).mgmt_tested env s.bootChoice) 1 0
  exact ⟨_, congrArg Host.Outcome.next hrun, hmg, hcause⟩

/-! ## The loss of the logic supply -/

/-- The stores that a boot reads are as they were. -/
structure SameStores (v w : Nvm) : Prop where
  set0 : w.set0 = v.set0
  set1 : w.set1 = v.set1
  store : w.slotStore = v.slotStore
  boot0 : w.boot0 = v.boot0
  boot1 : w.boot1 = v.boot1

theorem SameStores.of_eq {v w : Nvm} (h : w = v) : SameStores v w := h ▸ ⟨rfl, rfl, rfl, rfl, rfl⟩

theorem SameStores.trans {u v w : Nvm} (h : SameStores u v) (k : SameStores v w) : SameStores u w :=
  ⟨k.set0.trans h.set0, k.set1.trans h.set1, k.store.trans h.store, k.boot0.trans h.boot0, k.boot1.trans h.boot1⟩

theorem SameStores.region {v w : Nvm} (h : SameStores v w) (k : Nat) : w.region k = v.region k := by
  unfold Nvm.region
  rw [h.set0, h.set1]

theorem State.cutErase_stores (s : State) : SameStores s.nvm s.cutErase := by
  unfold State.cutErase
  split
  · split
    · exact ⟨rfl, rfl, rfl, rfl, rfl⟩
    · exact .of_eq rfl
  · exact .of_eq rfl

theorem State.cutErase_programming (s : State) : s.cutErase.programming = s.nvm.programming := by
  unfold State.cutErase
  split
  · split <;> rfl
  · rfl

/-- The supply is gone: the RTC is on VBK, and a key bank that was being programmed is spent. -/
def State.unpowered (s : State) (ticks : Nat) (torn : Option Nat) : State :=
  let s := (s.cutWrite torn).rtcElapse ticks
  let s := if s.rtc.onVbk then s else s.switchOver
  if s.nvm.programming.isSome then
    s.updNvm (fun v => { v with programming := none, bank0Spent := true, bank1Spent := v.bank0Spent })
  else s

theorem State.powerFall_eq (s : State) (ticks : Nat) (torn : Option Nat) : s.powerFall ticks torn = (s.unpowered ticks torn).restart Reset.powerOn := rfl

theorem State.switchOver_onVbk (s : State) : s.switchOver.rtc.onVbk = true := rfl

/-- With the supply gone the stores hold what the cut write has left. -/
theorem State.unpowered_facts (s : State) (ticks : Nat) (torn : Option Nat) : SameStores (s.cutWrite torn).nvm (s.unpowered ticks torn).nvm
    ∧ (s.unpowered ticks torn).rtc.onVbk = true ∧ (s.unpowered ticks torn).nvm.programming = none := by
  unfold State.unpowered
  extract_lets u v
  have hu : u.nvm = (s.cutWrite torn).nvm := same_of_foot [.regs, .rtc, .free] (fun _ _ => rtcElapse_foot _ _ (.refl _)) .nvm
  have hv : v.nvm = (s.cutWrite torn).nvm :=
    (same_of_foot [.regs, .rtc] (fun _ _ => ite_foot _ _ _ (fun _ => .refl u) (fun _ => switchOver_foot _ (.refl u))) .nvm).trans hu
  have hvbk : v.rtc.onVbk = true := by
    unfold v
    split
    next h => exact h
    next => exact u.switchOver_onVbk
  split
  · exact ⟨SameStores.trans (.of_eq hv) ⟨rfl, rfl, rfl, rfl, rfl⟩, hvbk, rfl⟩
  next hp => exact ⟨.of_eq hv, hvbk, Option.not_isSome_iff_eq_none.mp hp⟩

/-! ## The write that is cut -/

theorem State.cutWrite_copy {s : State} {w : CopyWrite} (h : s.copyWriting = some w) (n : Nat) :
    (s.cutWrite (some n)).nvm = s.nvm.tear n w := by
  unfold State.cutWrite
  dsimp only
  rw [h]
  rfl

theorem State.cutWrite_entry {s : State} {e : JEntry} {l : List JEntry} (h : s.copyWriting = none) (hq : s.gecko.journalQ = e :: l) (n : Nat) :
    s.cutWrite (some n) = s.updRegion s.upd.runSettings (fun t => { t with journal := t.journal.takeWhile JEntry.ok ++ [e.torn n] }) := by
  unfold State.cutWrite
  dsimp only
  rw [h, hq]

theorem Nvm.tearPiece_stores (v : Nvm) (n p : Nat) (data : List Byte) : SameStores v (v.tearPiece n p data) := by
  unfold Nvm.tearPiece
  extract_lets put w
  have hw : SameStores v w := by
    unfold w
    split <;> exact ⟨rfl, rfl, rfl, rfl, rfl⟩
  split
  · exact hw.trans ⟨rfl, rfl, rfl, rfl, rfl⟩
  · exact hw

/-- Nothing but a piece was being written. -/
theorem State.cutWrite_piece {s : State} (h : s.copyWriting = none) (hq : s.gecko.journalQ = []) (n : Nat) :
    SameStores s.nvm (s.cutWrite (some n)).nvm := by
  unfold State.cutWrite
  dsimp only
  rw [h, hq]
  split
  · next hx => cases hx
  · next hx => cases hx
  · exact s.nvm.tearPiece_stores _ _ _
  · exact .of_eq rfl

theorem Nvm.tear_sets (v : Nvm) (n : Nat) (w : CopyWrite) : (v.tear n w).set0 = v.set0 ∧ (v.tear n w).set1 = v.set1 := by
  unfold Nvm.tear
  split <;> exact ⟨rfl, rfl⟩

theorem State.updRegion_stores (s : State) (k : Nat) (f : Settings → Settings) : (s.updRegion k f).nvm.slotStore = s.nvm.slotStore
    ∧ (s.updRegion k f).nvm.boot0 = s.nvm.boot0 ∧ (s.updRegion k f).nvm.boot1 = s.nvm.boot1
    ∧ (s.updRegion k f).nvm.region k = f (s.nvm.region k) := by
  unfold State.updRegion State.updNvm Nvm.region
  dsimp only
  split <;> exact ⟨rfl, rfl, rfl, rfl⟩

/-- A copy's write that is cut leaves the settings regions alone. -/
theorem State.cutWrite_sets {s : State} {torn : Option Nat} (h : torn = none ∨ s.copyWriting.isSome = true ∨ s.gecko.journalQ = []) :
    (s.cutWrite torn).nvm.set0 = s.nvm.set0 ∧ (s.cutWrite torn).nvm.set1 = s.nvm.set1 := by
  rcases torn with _ | n
  · exact ⟨rfl, rfl⟩
  · rcases hw : s.copyWriting with _ | w
    · have hq : s.gecko.journalQ = [] := by
        rw [hw] at h
        simpa using h
      have hs := s.cutWrite_piece hw hq n
      exact ⟨hs.set0, hs.set1⟩
    · rw [State.cutWrite_copy hw]
      exact Nvm.tear_sets _ _ _

/-- Without a copy's write under way the slot store and the boot records stay. -/
theorem State.cutWrite_copies {s : State} {torn : Option Nat} (h : torn = none ∨ s.copyWriting = none) :
    (s.cutWrite torn).nvm.slotStore = s.nvm.slotStore ∧ (s.cutWrite torn).nvm.boot0 = s.nvm.boot0 ∧ (s.cutWrite torn).nvm.boot1 = s.nvm.boot1 := by
  rcases torn with _ | n
  · exact ⟨rfl, rfl, rfl⟩
  · have hw : s.copyWriting = none := h.resolve_left nofun
    rcases hq : s.gecko.journalQ with _ | ⟨e, l⟩
    · have hs := s.cutWrite_piece hw hq n
      exact ⟨hs.store, hs.boot0, hs.boot1⟩
    · rw [State.cutWrite_entry hw hq]
      obtain ⟨h1, h2, h3, -⟩ := s.updRegion_stores s.upd.runSettings
        (fun t => { t with journal := t.journal.takeWhile JEntry.ok ++ [e.torn n] })
      exact ⟨h1, h2, h3⟩

theorem State.copyWriting_store {s : State} {o : Nat} {old : List Byte} {at_ : Nat} (h : s.gecko.writing = some (.slotStore o old, at_))
    (ht : s.frcNat - at_ < 60000000) : s.copyWriting = some (.slotStore o old) := by
  unfold State.copyWriting
  rw [h]
  exact if_pos ht

theorem State.restart_pins (s : State) (cause : Nat) {p : String} (hp : p ∈ ["TMO0", "TMO1", "TMO2", "TMO3"]) :
    Output.pin p false ∈ (s.restart cause).out := by
  unfold State.restart
  extract_lets t u v
  simp only [List.mem_cons, List.not_mem_nil, or_false] at hp
  rcases hp with rfl | rfl | rfl | rfl
  all_goals
    show _ ∈ v.out ++ [_] ++ [_] ++ [_] ++ [_]
    simp

/-- The node without logic supply, and what the cut write has left of its copy. -/
theorem ends_powerGoodFall (s : State) (ticks : Nat) (torn : Option Nat) : Ends (.powerGoodFall ⟨ticks, torn⟩) s (fun t =>
    t.mgmt = Node.reset ∧ t.reg Reg.MGMT_RESET_CAUSE = 0 ∧ t.tarn = [] ∧ t.hif.running = [] ∧ t.rtc.onVbk = true
      ∧ (∀ p, p ∈ ["TMO0", "TMO1", "TMO2", "TMO3"] → Output.pin p false ∈ t.out)
      ∧ t.nvm.programming = none
      ∧ (torn = none ∨ s.copyWriting.isSome = true ∨ s.gecko.journalQ = [] → t.nvm.set0 = s.nvm.set0 ∧ t.nvm.set1 = s.nvm.set1)
      ∧ (torn = none ∨ s.copyWriting = none → t.nvm.slotStore = s.nvm.slotStore ∧ t.nvm.boot0 = s.nvm.boot0 ∧ t.nvm.boot1 = s.nvm.boot1)
      ∧ (∀ n, torn = some n → s.copyWriting = some (.bootRec 0) → t.nvm.boot0 = s.nvm.boot0.torn n ∧ t.nvm.boot1 = s.nvm.boot1)
      ∧ (∀ n, torn = some n → s.copyWriting = some (.bootRec 1) → t.nvm.boot1 = s.nvm.boot1.torn n ∧ t.nvm.boot0 = s.nvm.boot0)
      ∧ (∀ n e l, torn = some n → s.copyWriting = none → s.gecko.journalQ = e :: l →
          t.nvm.region s.upd.runSettings = { s.active with journal := s.active.journal.takeWhile JEntry.ok ++ [e.torn n] })
      ∧ (∀ n o old at_, torn = some n → s.gecko.writing = some (.slotStore o old, at_) → s.frcNat - at_ < 60000000 →
          t.nvm.slotStore = Sparse.write 0xFF s.nvm.slotStore (o + n) (old.drop n))) := by
  refine ⟨_, congrArg Host.Outcome.next (s.fresh.powerFall_eq ticks torn), ?_⟩
  obtain ⟨hstores, hvbk, hprog⟩ := s.fresh.unpowered_facts ticks torn
  have hpins := fun p hp => (s.fresh.unpowered ticks torn).restart_pins Reset.powerOn (p := p) hp
  have hr := (s.fresh.unpowered ticks torn).restart_restarted Reset.powerOn
  have hcut := (s.fresh.unpowered ticks torn).cutErase_stores
  have hcutp := (s.fresh.unpowered ticks torn).cutErase_programming
  generalize s.fresh.unpowered ticks torn = u at hstores hvbk hprog hpins hr hcut hcutp ⊢
  obtain ⟨-, -, hrunning, -⟩ := hr.queues
  obtain ⟨hnvm, hrtc⟩ := hr.stores
  have hsame : SameStores (s.fresh.cutWrite torn).nvm (u.restart Reset.powerOn).nvm := hnvm ▸ hstores.trans hcut
  refine ⟨hr.mgmt, hr.cause, hr.tarn, hrunning, ?_, hpins, ?_, ?_, ?_, ?_, ?_, ?_, ?_⟩
  · rw [hrtc]
    exact hvbk
  · rw [hnvm, hcutp]
    exact hprog
  · intro h
    obtain ⟨h0, h1⟩ := State.cutWrite_sets (s := s.fresh) h
    exact ⟨hsame.set0.trans h0, hsame.set1.trans h1⟩
  · intro h
    obtain ⟨h0, h1, h2⟩ := State.cutWrite_copies (s := s.fresh) h
    exact ⟨hsame.store.trans h0, hsame.boot0.trans h1, hsame.boot1.trans h2⟩
  · rintro n rfl h
    have hc := State.cutWrite_copy (s := s.fresh) h n
    exact ⟨hsame.boot0.trans (congrArg Nvm.boot0 hc), hsame.boot1.trans ((congrArg Nvm.boot1 hc).trans rfl)⟩
  · rintro n rfl h
    have hc := State.cutWrite_copy (s := s.fresh) h n
    exact ⟨hsame.boot1.trans (congrArg Nvm.boot1 hc), hsame.boot0.trans ((congrArg Nvm.boot0 hc).trans rfl)⟩
  · rintro n e l rfl h hq
    rw [hsame.region, State.cutWrite_entry (s := s.fresh) h hq]
    exact (State.updRegion_stores _ _ _).2.2.2
  · rintro n o old at_ rfl h ht
    exact hsame.store.trans (congrArg Nvm.slotStore (State.cutWrite_copy (s := s.fresh) (State.copyWriting_store (s := s.fresh) h ht) n))

theorem ends_logicInputChange (s : State) (a b : U16) : Ends (.logicInputChange a b) s (fun t =>
    t.reg Reg.HK_LV_A = a.zeroExtend 32 ∧ t.reg Reg.HK_LV_B = b.zeroExtend 32 ∧ RegsBut s t [Reg.HK_LV_A, Reg.HK_LV_B]) := by
  refine ⟨_, rfl, ?_, ?_, ?_⟩
  · rw [State.reg_setReg, if_neg (by decide), State.reg_setReg, if_pos rfl]
  · rw [State.reg_setReg, if_pos rfl]
  · exact ((regsBut_setReg s.fresh _ _).mono (by decide)).trans ((regsBut_setReg _ _ _).mono (by decide))

/-- Settles O1: the boot ROM's choice and the steps behind it, the reset of every cause, and what a write that is cut leaves of its copy. -/
theorem bootAndResets : Obligations.BootAndResets := by
  unfold Obligations.BootAndResets
  refine ⟨⟨?_, ?_⟩, ?_, ?_, ?_⟩
  · exact fun s env h hm hb ha hb' ht => ends_powerGoodRise_setup h hm hb ha hb' ht
  · exact fun s env h hm hb ha hb' ht => ends_powerGoodRise_halt h hm hb ha hb' ht
  · exact fun s => ⟨⟨_, rfl, (s.fresh.restart_restarted _).of_fresh⟩, ⟨_, rfl, (s.fresh.restart_restarted _).of_fresh⟩⟩
  · exact fun s ticks torn => ends_powerGoodFall s ticks torn
  · exact fun s a b => ends_logicInputChange s a b

end Sys2Proof.Machine

/-! PROOFS. The engines of a state: what setting one leaves of the other, and what the service of each rests on (R297). -/

namespace Sys2Proof.Machine

variable (s : State)

theorem other_ne (e : EngineId) : other e ≠ e := by cases e <;> exact nofun

theorem ne_other (e : EngineId) : e ≠ other e := (other_ne e).symm

theorem eq_other_of_ne {e f : EngineId} (h : f ≠ e) : f = other e := by
  cases e <;> cases f
  · exact absurd rfl h
  · rfl
  · rfl
  · exact absurd rfl h

@[simp] theorem State.eng_setEng_self (e : EngineId) (x : Engine) : (s.setEng e x).eng e = x := by cases e <;> rfl

theorem State.eng_setEng_ne {e f : EngineId} (h : f ≠ e) (x : Engine) : (s.setEng e x).eng f = s.eng f := by
  obtain rfl := eq_other_of_ne h
  cases e <;> rfl

@[simp] theorem State.eng_setEng_other (e : EngineId) (x : Engine) : (s.setEng e x).eng (other e) = s.eng (other e) :=
  s.eng_setEng_ne (other_ne e) x

@[simp] theorem State.eng_updEng_self (e : EngineId) (f : Engine → Engine) : (s.updEng e f).eng e = f (s.eng e) := s.eng_setEng_self e _

@[simp] theorem State.eng_updEng_other (e : EngineId) (f : Engine → Engine) : (s.updEng e f).eng (other e) = s.eng (other e) :=
  s.eng_setEng_other e _

theorem State.eng_updEng_ne {e g : EngineId} (h : g ≠ e) (f : Engine → Engine) : (s.updEng e f).eng g = s.eng g := s.eng_setEng_ne h _

theorem State.eng_congr {s t : State} (hA : t.aeA = s.aeA) (hB : t.aeB = s.aeB) (e : EngineId) : t.eng e = s.eng e := by
  cases e
  · exact hA
  · exact hB

/-- Every part but those named, the engines' not among them. -/
theorem PartsBut.eng {s t : State} {zs : List Zone} (h : PartsBut s t zs) (hA : Zone.aeA ∉ zs := by decide) (hB : Zone.aeB ∉ zs := by decide)
    (e : EngineId) : t.eng e = s.eng e := State.eng_congr (h .aeA hA) (h .aeB hB) e

/-- Setting an engine touches nothing but the engines. -/
theorem State.setEng_parts (e : EngineId) (x : Engine) : PartsBut s (s.setEng e x) [.aeA, .aeB] := fun z hz =>
  same_of_foot [.aeA, .aeB] (fun _ _ => setEng_foot _ _ _ (.refl s)) z hz

theorem State.updEng_parts (e : EngineId) (f : Engine → Engine) : PartsBut s (s.updEng e f) [.aeA, .aeB] := s.setEng_parts e _

theorem regsBut_setEng (e : EngineId) (x : Engine) (os : List Off) : RegsBut s (s.setEng e x) os := by
  cases e <;> exact .of_regs rfl rfl _

theorem regsBut_updEng (e : EngineId) (f : Engine → Engine) (os : List Off) : RegsBut s (s.updEng e f) os := regsBut_setEng s e _ os

theorem State.serves_congr {s t : State} {e : EngineId} (h : t.eng e = s.eng e) : t.serves e = s.serves e := congrArg Engine.serving h

end Sys2Proof.Machine

/-! PROOFS. O2 RunAndHalt: the ways into FAULT_HALT, START and STOP (R37, R93, R94, R233, R246, R299). -/

namespace Sys2Proof.Machine

/-! ## Records that a source offers (R28, R272) -/

/-- The registers that an offer without credit writes. -/
def overrunRegs : List Off :=
  [Reg.INLET_OVR_FE_CNT, Reg.INLET_OVR_DIO_CNT, Reg.INLET_OVR_CAN_CNT, Reg.INLET_OVR_TICK_CNT, Reg.INLET_EVT, Reg.MSIX_PBA 0]

theorem placeOvr_mem (pl : Nat) : placeOvr pl ∈ overrunRegs := by
  unfold placeOvr overrunRegs
  split
  · simp
  split
  · simp
  split <;> simp

theorem regsBut_overrun (s : State) (pl : Nat) : RegsBut s (s.overrun pl) overrunRegs :=
  RegsBut.trans ((regsBut_bump { s with gecko := _ } (placeOvr pl)).mono (by simpa using placeOvr_mem pl))
    ((regsBut_raise _ _ _).mono (by simp [overrunRegs]))

/-- An offer leaves the admission where it stands: ISN_HWM, the stream and the barriers, TICK's number and Inlet's holds. -/
structure Offered (s t : State) : Prop where
  regs : RegsBut s t overrunRegs
  inlet : ∃ w k, t.inlet = { s.inlet with waiting := w, ssn := k }

theorem Offered.refl (s : State) : Offered s s := ⟨.refl _ _, _, _, rfl⟩

theorem Offered.trans {s t u : State} (h : Offered s t) (k : Offered t u) : Offered s u := by
  obtain ⟨w, n, h'⟩ := h.inlet
  obtain ⟨w', n', k'⟩ := k.inlet
  exact ⟨h.regs.trans k.regs, w', n', by rw [k', h']⟩

theorem State.offer_offered (s : State) (pl : Nat) (r : InRec) : Offered s (s.offer pl r) := by
  unfold State.offer
  dsimp only
  split
  · exact ⟨.of_regs rfl rfl _, _, _, rfl⟩
  · exact ⟨(RegsBut.of_regs (t := (s.takeSsn r.source).2) rfl rfl _).trans (regsBut_overrun _ _), _, _,
      same_of_foot [.regs, .gecko] (fun _ _ => overrun_foot _ _ (.refl _)) .inlet⟩

theorem State.repairsDue_offered (s : State) : Offered s s.repairsDue := by
  unfold State.repairsDue
  dsimp only
  have hbase : Offered s (s.updGecko (fun g => { g with ueWords := g.ueWords.filter eccConfig })) := ⟨.of_regs rfl rfl _, _, _, rfl⟩
  generalize s.updGecko (fun g => { g with ueWords := g.ueWords.filter eccConfig }) = u at hbase
  generalize u.gecko.ueWords = l
  induction l generalizing u with
  | nil => exact hbase
  | cons w l ih =>
    refine ih _ (hbase.trans ?_)
    unfold State.eccOffer
    dsimp only
    split
    · exact u.offer_offered _ _
    · exact .refl u

/-! ## START -/

theorem regsBut_canJoin (s : State) (n : Nat) : RegsBut s (s.canJoin n) [Reg.CAN_STATUS n] := by
  unfold State.canJoin
  split
  · exact .refl s _
  split
  · exact regsBut_setRegBit s _ _ _
  split
  · dsimp only
    split
    · exact (regsBut_setRegFld s _ _ _ _).trans (regsBut_setRegBit _ _ _ _)
    · exact regsBut_setRegFld s _ _ _ _
  · exact regsBut_setRegBit s _ _ _

def canJoinRegs : List Off := (List.range 8).flatMap fun n => [Reg.CAN_STATUS n]

theorem regsBut_canStart (s : State) : RegsBut s s.canStart canJoinRegs := by
  unfold State.canStart canJoinRegs
  exact RegsBut.foldl_flatMap (os := fun n => [Reg.CAN_STATUS n]) (List.range 8) (fun t n _ => regsBut_canJoin t n) s

theorem regsBut_firstRecords (s : State) : RegsBut s s.firstRecords [Reg.SPAWN_STATUS] := by
  unfold State.firstRecords
  split
  · dsimp only
    exact (RegsBut.trans (t := ((s.takeSsn (mkSource 8 0)).2.updSpawn _).setCap Cap.snapshot)
      (RegsBut.trans (.of_regs rfl rfl _) (regsBut_setRegFld _ _ _ _ _)) (regsBut_setRegBit _ _ _ _)).trans (.of_regs rfl rfl _)
  · exact .of_regs rfl rfl _

theorem State.firstRecords_inlet (s : State) : ∃ k r, s.firstRecords.inlet = { s.inlet with ssn := k, reveal := r } := by
  unfold State.firstRecords
  split
  · exact ⟨_, _, rfl⟩
  · exact ⟨_, _, rfl⟩

theorem State.recordFailure_other (s : State) {e f : EngineId} (h : f ≠ e) (cause : Nat) : (s.recordFailure e cause).eng f = s.eng f := by
  unfold State.recordFailure
  extract_lets x times off u v w
  have hu : u.eng f = s.eng f := State.eng_setEng_ne _ h _
  have hp : PartsBut u w [.regs] := fun z hz => same_of_foot [.regs] (fun _ _ => raise_foot _ _ _ (bump_foot _ _ (setPair_foot _ _ _ _ (.refl u)))) z hz
  exact (PartsBut.eng hp (e := f)).trans hu

/-- An engine in service at START stays so. -/
theorem State.startService_serves {s : State} {f : EngineId} (h : (s.eng f).svc = Svc.inService) (e : EngineId) (pass : Bool) :
    ((s.startService e pass).eng f).svc = Svc.inService := by
  unfold State.startService
  dsimp only
  split
  · exact h
  next hn =>
    have hne : f ≠ e := by
      rintro rfl
      simp [h] at hn
    split
    · rw [State.updEng, State.eng_setEng_ne _ hne _]
      exact h
    · rw [State.recordFailure_other _ hne]
      exact h

/-- The node as it goes into RUN, before an engine holds. -/
def State.runEntered (s : State) (vecA vecB : Bool) : State :=
  let s := (s.startService .A vecA).startService .B vecB
  let s := if s.unsaved then s.startBase else s
  let s := (((((s.xpRun true).noteMasks).noteBad).writeSafe).dioRun).dropHeld
  let s := State.statesWritten { s with aeA := s.freshEngine s.aeA, aeB := s.freshEngine s.aeB, inlet := { } }
  let s := s.updSkink (fun k => { k with holder := none, handover := false, diverge := none, diverges := [], mismatches := [], copy := none, auditTick := 0, auditPasses := 0 })
  s.lanesStart.setMgmt Node.run

theorem State.enterRun_granted {s : State} {vecA vecB : Bool} {e : EngineId} (h : (s.runEntered vecA vecB).candidate = some e) :
    s.enterRun vecA vecB = ((s.runEntered vecA vecB).grantHold e).canStart.firstRecords.repairsDue := by
  unfold State.enterRun
  extract_lets u v w x y z
  have hz : z.candidate = some e := h
  split
  next hn => exact absurd (hn.symm.trans hz) nofun
  next f hf =>
    obtain rfl := Option.some.inj (hf.symm.trans hz)
    rfl

theorem State.candidate_preferred {s : State} (h : (s.eng s.skink.preferred).svc = Svc.inService) : s.candidate = some s.skink.preferred := by
  unfold State.candidate
  rw [List.find?_cons_of_pos (by rw [h]; rfl)]

/-- What the units' preparation for RUN leaves alone. -/
theorem State.runUnits_parts (s : State) : PartsBut s (((((s.xpRun true).noteMasks).noteBad).writeSafe).dioRun).dropHeld
    [.regs, .dio, .outlet, .hif, .spawn] := fun z hz =>
  same_of_foot [.regs, .dio, .outlet, .hif, .spawn] (fun _ _ => dropHeld_foot _ (dioRun_foot _ (writeSafe_foot _ (noteBad_foot _ (noteMasks_foot _
    (xpRun_foot _ _ (.refl s))))))) z hz

theorem State.saved_parts (s : State) : PartsBut s (if s.unsaved then s.startBase else s) [.gecko] := fun z hz =>
  same_of_foot [.gecko] (fun _ _ => ite_foot _ _ _ (fun _ => startBase_foot _ (.refl s)) (fun _ => .refl s)) z hz

theorem State.startService_parts (s : State) (e : EngineId) (pass : Bool) : PartsBut s (s.startService e pass) [.regs, .aeA, .aeB] := fun z hz =>
  same_of_foot [.regs, .aeA, .aeB] (fun _ _ => startService_foot _ _ _ (.refl s)) z hz

theorem State.statesWritten_parts (s : State) : PartsBut s s.statesWritten [.gecko] := fun z hz =>
  same_of_foot [.gecko] (fun _ _ => statesWritten_foot _ (.refl s)) z hz

theorem State.lanesRun_parts (s : State) : PartsBut s (s.lanesStart.setMgmt Node.run) [.regs, .fe] := fun z hz =>
  same_of_foot [.regs, .fe] (fun _ _ => setMgmt_foot _ _ (lanesStart_foot _ (.refl s))) z hz

/-- An engine at entry to RUN has evaluated nothing, and its regions are written. -/
structure FreshEngine (x : Engine) : Prop where
  isn : x.evalIsn = 0
  live : x.pts.live = true

/-- The node has entered RUN: both engines fresh, nothing admitted, and the engine that is in service still is. -/
structure RunEntered (s t : State) : Prop where
  mgmt : t.mgmt = Node.run
  fresh : ∀ e, FreshEngine (t.eng e)
  inlet : t.inlet = { }
  preferred : t.skink.preferred = s.skink.preferred
  serves : (s.eng s.skink.preferred).svc = Svc.inService → (t.eng s.skink.preferred).svc = Svc.inService

theorem State.runEntered_entered (s : State) (vecA vecB : Bool) : RunEntered s (s.runEntered vecA vecB) := by
  unfold State.runEntered
  extract_lets u v w x y
  have hup : PartsBut s u [.regs, .aeA, .aeB] := fun z hz =>
    ((s.startService .A vecA).startService_parts .B vecB z hz) |> fun h2 => Zone.same_trans (s.startService_parts .A vecA z hz) h2
  have hwp : PartsBut v w [.regs, .dio, .outlet, .hif, .spawn] := v.runUnits_parts
  have hvp : PartsBut u v [.gecko] := u.saved_parts
  have hxp : PartsBut { w with aeA := w.freshEngine w.aeA, aeB := w.freshEngine w.aeB, inlet := { } } x [.gecko] := State.statesWritten_parts _
  have hlp : PartsBut y (y.lanesStart.setMgmt Node.run) [.regs, .fe] := y.lanesRun_parts
  have hpref : w.skink.preferred = s.skink.preferred :=
    congrArg Skink.preferred ((hwp .skink (by decide)).trans ((hvp .skink (by decide)).trans (hup .skink (by decide))))
  have heng : ∀ e, (y.lanesStart.setMgmt Node.run).eng e = w.freshEngine (w.eng e) := fun e => by
    rw [PartsBut.eng hlp (e := e)]
    cases e
    · exact hxp .aeA (by decide)
    · exact hxp .aeB (by decide)
  refine ⟨State.mgmt_setMgmt _ _ (by decide), fun e => ?_, (hlp .inlet (by decide)).trans (hxp .inlet (by decide)), ?_, fun h => ?_⟩
  · rw [heng]
    exact ⟨rfl, rfl⟩
  · rw [hlp .skink (by decide)]
    exact (congrArg Skink.preferred (hxp .skink (by decide))).trans hpref
  · rw [heng]
    show (w.eng s.skink.preferred).svc = Svc.inService
    rw [PartsBut.eng hwp (e := s.skink.preferred), PartsBut.eng hvp (e := s.skink.preferred)]
    exact State.startService_serves (State.startService_serves h .A vecA) .B vecB

theorem State.grantHold_parts (s : State) (e : EngineId) : PartsBut s (s.grantHold e) [.regs, .aeA, .aeB, .skink] := fun z hz =>
  same_of_foot [.regs, .aeA, .aeB, .skink] (fun _ _ => grantHold_foot _ _ (.refl s)) z hz

theorem regsBut_grantHold (s : State) (e : EngineId) : RegsBut s (s.grantHold e) [Reg.SKINK_HANDOVER_MAX] := by
  unfold State.grantHold
  exact (RegsBut.trans (regsBut_recordMax s _ _) (regsBut_updEng _ _ _ _)).trans (.of_regs rfl rfl _)

/-- A grant changes of the engine only what belongs to the hold. -/
theorem State.grantHold_eng (s : State) (e f : EngineId) : ∃ n, (s.grantHold e).eng f
    = if f = e then { s.eng f with holdSince := n, proved := false, handReq := false } else s.eng f := by
  unfold State.grantHold
  extract_lets u v
  have hu : ∀ g, u.eng g = s.eng g := fun g => State.eng_congr (State.recordMax_aeA s _ _) (State.recordMax_aeB s _ _) g
  refine ⟨u.frcNat, ?_⟩
  show v.eng f = _
  split
  next h =>
    subst h
    exact (u.eng_updEng_self f _).trans (by rw [hu])
  next h => exact (u.eng_updEng_ne h _).trans (hu f)

theorem State.grantHold_holder (s : State) (e : EngineId) : (s.grantHold e).skink.holder = some e := rfl

theorem FreshEngine.granted {s : State} {e f : EngineId} (h : FreshEngine (s.eng f)) : FreshEngine ((s.grantHold e).eng f) := by
  obtain ⟨n, hn⟩ := s.grantHold_eng e f
  rw [hn]
  split
  · exact ⟨h.isn, h.live⟩
  · exact h

theorem State.runBegun_parts (s : State) : PartsBut s s.canStart.firstRecords.repairsDue [.regs, .inlet, .spawn, .gecko] := fun z hz =>
  same_of_foot [.regs, .inlet, .spawn, .gecko] (fun _ _ => repairsDue_foot _ (firstRecords_foot _ (canStart_foot _ (.refl s)))) z hz

/-- START with its conditions met enters RUN under the preferred engine (R93, R299). -/
theorem State.enterRun_runs {s : State} (vecA vecB : Bool) (h : (s.eng s.skink.preferred).svc = Svc.inService) :
    (s.enterRun vecA vecB).mgmt = Node.run ∧ (s.enterRun vecA vecB).skink.holder = some s.skink.preferred
      ∧ (s.enterRun vecA vecB).inlet.isn = 0 ∧ (s.enterRun vecA vecB).inlet.tickNo = 0 ∧ ∀ e, FreshEngine ((s.enterRun vecA vecB).eng e) := by
  have hen := s.runEntered_entered vecA vecB
  have hcand : (s.runEntered vecA vecB).candidate = some s.skink.preferred := by
    rw [← hen.preferred]
    exact State.candidate_preferred (by rw [hen.preferred]; exact hen.serves h)
  rw [State.enterRun_granted hcand]
  generalize s.runEntered vecA vecB = u at hen hcand
  have hg := u.grantHold_parts s.skink.preferred
  have hgr := regsBut_grantHold u s.skink.preferred
  have hgh := u.grantHold_holder s.skink.preferred
  have hfresh : ∀ e, FreshEngine ((u.grantHold s.skink.preferred).eng e) := fun e => (hen.fresh e).granted
  generalize u.grantHold s.skink.preferred = v at hg hgr hgh hfresh
  have hb := v.runBegun_parts
  have hoff := v.canStart.firstRecords.repairsDue_offered
  have hregs : RegsBut v v.canStart.firstRecords.repairsDue (canJoinRegs ++ [Reg.SPAWN_STATUS] ++ overrunRegs) :=
    ((regsBut_canStart v).andThen (regsBut_firstRecords _)).andThen hoff.regs
  obtain ⟨w, k, hin⟩ := hoff.inlet
  obtain ⟨k', r, hin'⟩ := v.canStart.firstRecords_inlet
  have hstart : v.canStart.inlet = v.inlet := same_of_foot [.regs] (fun _ _ => canStart_foot _ (.refl v)) .inlet
  have hinlet : v.inlet = { } := (hg .inlet (by decide)).trans hen.inlet
  rw [hin', hstart, hinlet] at hin
  refine ⟨?_, (congrArg Skink.holder (hb .skink (by decide))).trans hgh, ?_, ?_, fun e => ?_⟩
  · exact (State.rfld_of_reg ((hregs _ (by decide)).trans (hgr _ (by decide))) 0 3).trans hen.mgmt
  · rw [hin]
  · rw [hin]
  · rw [PartsBut.eng hb (e := e)]
    exact hfresh e

theorem ends_startRun {s : State} (va vb : Bool) (dt : Nat) (hm : (s.fresh.pass dt).mgmt = Node.setup) (hd : (s.fresh.pass dt).cfgDirty = false)
    (hok : (s.fresh.pass dt).startOk = true) (hs : ((s.fresh.pass dt).eng (s.fresh.pass dt).skink.preferred).svc = Svc.inService) :
    Ends (.startRun va vb dt) s (fun t => t.mgmt = Node.run ∧ t.skink.holder = some (s.fresh.pass dt).skink.preferred
      ∧ t.inlet.isn = 0 ∧ t.inlet.tickNo = 0 ∧ t.aeA.evalIsn = 0 ∧ t.aeB.evalIsn = 0 ∧ t.aeA.pts.live = true ∧ t.aeB.pts.live = true) := by
  have hrun : exec (.startRun va vb dt) s = .next ((s.fresh.pass dt).startNow va vb) := rfl
  have hgo : (s.fresh.pass dt).startNow va vb = (s.fresh.pass dt).enterRun va vb := by
    unfold State.startNow
    rw [if_neg (by simp [hm])]
    dsimp only
    rw [if_neg (show ¬ (s.fresh.pass dt).cfgDirty = true by rw [hd]; exact Bool.false_ne_true), if_pos hok]
  obtain ⟨h1, h2, h3, h4, h5⟩ := State.enterRun_runs va vb hs
  rw [hgo] at hrun
  generalize (s.fresh.pass dt).enterRun va vb = t at hrun h1 h2 h3 h4 h5
  exact ⟨t, hrun, h1, h2, h3, h4, (h5 .A).isn, (h5 .B).isn, (h5 .A).live, (h5 .B).live⟩

/-! ## STOP -/

/-- Nothing is left to evaluate or to release. -/
structure Drained (s : State) : Prop where
  stream : s.inlet.stream = []
  barriers : s.inlet.barriers = []
  ckpt : s.spawn.ckptDue = none
  queues : ∀ e, (s.eng e).evq = []
  merge : s.outlet.merge = []

section

variable {s : State} (h : Drained s)

include h

theorem Drained.headRec (e : EngineId) : s.headRec e = none := by
  unfold State.headRec
  rw [h.stream]
  exact ite_self _

theorem Drained.evalNext (e : EngineId) : s.evalNext e = s := by
  have hr := h.headRec e
  unfold State.evalNext
  split
  · rfl
  next r hs => exact absurd (hr.symm.trans hs) nofun

theorem Drained.configBarrier : s.configBarrier = s := by
  have hb := h.barriers
  unfold State.configBarrier
  split
  · rfl
  next hs => exact absurd (hb.symm.trans hs) nofun

theorem Drained.eccFault : s.eccFault = s := by
  have hm : ∀ r rest, s.servers.map s.headRec ≠ some r :: rest := by
    intro r rest hr
    have hmem : some r ∈ s.servers.map s.headRec := hr ▸ List.mem_cons_self
    obtain ⟨e, -, he⟩ := List.mem_map.mp hmem
    exact absurd ((h.headRec e).symm.trans he) nofun
  unfold State.eccFault
  split
  next hr => exact absurd hr (hm _ _)
  · rfl

theorem Drained.takeCkpt : s.takeCkpt = s := by
  have hc := h.ckpt
  unfold State.takeCkpt
  split
  next hs _ => exact absurd (hc.symm.trans hs) nofun
  · rfl

theorem Drained.drainRound : s.drainRound = s := by
  unfold State.drainRound
  rw [h.evalNext, h.evalNext, h.configBarrier, h.eccFault, h.takeCkpt]
  exact ite_self s

theorem Drained.release : s.release = s := by
  unfold State.release
  rw [h.merge]
  rfl

theorem Drained.copyArrives (e : EngineId) : s.copyArrives e = s := by
  have hq : s.takeCopy e = s := by
    have hq := h.queues e
    unfold State.takeCopy
    split
    · rfl
    next hs => exact absurd (hq.symm.trans hs) nofun
  unfold State.copyArrives
  rw [hq, h.release]
  exact ite_self s

theorem Drained.drainEvents : s.drainEvents = s := by
  have hfold : ∀ l : List Nat, l.foldl (fun s _ => (s.copyArrives .A).copyArrives .B) s = s := by
    intro l
    induction l with
    | nil => rfl
    | cons n l ih => rw [List.foldl_cons, h.copyArrives, h.copyArrives, ih]
  unfold State.drainEvents
  dsimp only
  rw [hfold, h.release]

theorem Drained.rounds (l : List Nat) : l.foldl (fun s _ => s.drainRound) s = s := by
  induction l with
  | nil => rfl
  | cons n l ih => rw [List.foldl_cons, h.drainRound, ih]

end

theorem State.admitBegun_none {s : State} (h : s.begunUnit = false) : s.admitBegun = s := by
  unfold State.begunUnit at h
  unfold State.admitBegun
  split
  next u l hc =>
    rw [hc] at h
    exact if_pos (by simpa using h)
  · rfl

theorem regsBut_refuseTaken (s : State) (units : List CmdUnit) (os : List Off) : RegsBut s (s.refuseTaken units) os :=
  .of_foot [.hif] (fun _ _ => refuseTaken_foot _ _ (.refl s)) os

/-- The sources' records and the commands taken are dropped, as STOP does first. -/
def State.stopDropped (s : State) : State := { s with inlet := { s.inlet with waiting := [], reveal := none, cmds := [] } }

/-- STOP with nothing left to do enters SETUP. -/
theorem State.stopNow_drained {s : State} (h : Drained s) (hm : s.mgmt = Node.run) (hc : s.skink.copy = none) (hb : s.begunUnit = false) :
    s.stopNow = (s.stopDropped.refuseTaken s.inlet.cmds).captureStop.unitsStop.enterSetup := by
  have hd : Drained s.stopDropped := ⟨h.stream, h.barriers, h.ckpt, h.queues, h.merge⟩
  have hrun : (s.stopDropped.refuseTaken s.inlet.cmds).mgmt = Node.run :=
    (State.rfld_of_reg (regsBut_refuseTaken s.stopDropped _ [] _ List.not_mem_nil) 0 3).trans hm
  unfold State.stopNow
  rw [if_neg (by simp [hm]), State.admitBegun_none hb]
  extract_lets s0 units i u w x
  have hw : w = s.stopDropped := by
    unfold w
    split
    next c hs => exact absurd (hc.symm.trans hs) nofun
    · rfl
  have hx : x = s.stopDropped.refuseTaken s.inlet.cmds := by
    unfold x
    rw [hw, hd.rounds, hd.drainEvents]
  rw [hx, if_neg (by simp [hrun])]

theorem ends_stopRun_drained {s : State} (h : Drained s) (hm : s.mgmt = Node.run) (hc : s.skink.copy = none) (hb : s.begunUnit = false) :
    Ends .stopRun s (fun t => t.mgmt = Node.setup ∧ t.skink.holder = none ∧ t.aeA.pts.live = false ∧ t.aeB.pts.live = false
      ∧ t.inlet.waiting = [] ∧ t.inlet.cmds = []) := by
  have hd : Drained s.fresh := ⟨h.stream, h.barriers, h.ckpt, h.queues, h.merge⟩
  have hset := (s.fresh.stopDropped.refuseTaken s.fresh.inlet.cmds).captureStop.unitsStop.enterSetup_setUp
  refine ⟨_, congrArg Host.Outcome.next (State.stopNow_drained hd hm hc hb), ?_⟩
  obtain ⟨hA, hB⟩ := hset.regions
  exact ⟨hset.mgmt, hset.holder, hA, hB, hset.waiting, hset.cmds⟩

/-! ## FAULT_HALT -/

/-- A fault that halts the node from SETUP, RUN or REPLAY. -/
theorem haltNode_enters {s : State} {n : Nat} (h : s.mgmt = Node.setup ∨ s.mgmt = Node.run ∨ s.mgmt = Node.replay) :
    (s.fresh.mgmt == Node.setup || s.fresh.running) = true ∧ (s.fresh.haltNode n 0).mgmt = Node.faultHalt
      ∧ (s.fresh.haltNode n 0).reg Reg.MGMT_FAULT_CAUSE = packU32 [(n, 0), (0, 8)]
      ∧ (s.fresh.haltNode n 0).pair Reg.MGMT_FAULT_ISN_LO Reg.MGMT_FAULT_ISN_HI = s.inlet.isn
      ∧ (s.fresh.haltNode n 0).rbit Reg.MGMT_EVT 4 = true := by
  have hne : s.fresh.mgmt ≠ Node.faultHalt := by
    show s.mgmt ≠ Node.faultHalt
    rcases h with h | h | h <;> rw [h] <;> decide
  refine ⟨?_, State.haltNode_shows hne n 0⟩
  unfold State.running
  show (s.mgmt == Node.setup || (s.mgmt == Node.run || s.mgmt == Node.replay)) = true
  rcases h with h | h | h <;> rw [h] <;> decide

/-- Settles O2: the halt's registers behind what ends with it, START's grant to the preferred engine, and STOP's drain that finds nothing. -/
theorem runAndHalt : Obligations.RunAndHalt := by
  unfold Obligations.RunAndHalt
  refine ⟨fun s h => ⟨?_, ?_⟩, ?_, ?_, ?_⟩
  · obtain ⟨hgo, hshow⟩ := haltNode_enters (n := 2) h
    exact ⟨_, congrArg Host.Outcome.next (if_pos hgo), hshow⟩
  · obtain ⟨hgo, hshow⟩ := haltNode_enters (n := 4) h
    exact ⟨_, congrArg Host.Outcome.next (if_pos hgo), hshow⟩
  · exact fun s va vb dt hm hd hok hs => ends_startRun va vb dt hm hd hok hs
  · exact fun s h => ⟨_, rfl, State.mgmt_stopNow s.fresh h⟩
  · intro s hm h1 h2 h3 h4 h5 h6 h7 h8
    refine ends_stopRun_drained ⟨h1, h2, h4, fun e => ?_, h7⟩ hm h3 h8
    cases e
    · exact h5
    · exact h6

end Sys2Proof.Machine

/-! PROOFS. What a release and a failure leave alone: the registers that they write, the engines that cannot fail any more, the hold, the copy, the rings and the replay (R280, R281, R301, R316). -/

namespace Sys2Proof.Machine

/-! ## The relation -/

/-- Registers of an engine's failure. -/
def failRegs (e : EngineId) : List Off := [Reg.AE_FAIL_ISN_LO (engIx e), Reg.AE_FAIL_ISN_HI (engIx e), Reg.AE_FAIL_CNT (engIx e)]

/-- Registers that a release writes, those of failures apart. -/
def releaseRegs : List Off :=
  haltRegs ++ overrunRegs ++ [Reg.SKINK_EVT, Reg.SPAWN_SNAP_RETRY_CNT, Reg.SKINK_LAST_DIVERGE, Reg.SKINK_DIVERGE_CNT, Reg.OUT_MISMATCH_ESN_LO,
    Reg.OUT_MISMATCH_ESN_HI, Reg.OUT_COPY_MISMATCH_CNT, Reg.OUT_EVT, Reg.OUT_NOTICE_CNT, Reg.CUST_LAST_MAC_LO, Reg.CUST_LAST_MAC_HI,
    Reg.CUST_LAST_ESN_LO, Reg.CUST_LAST_ESN_HI, Reg.CUST_SEAL_CNT, Reg.LEG_EVT_OVF_CNT, Reg.LEG_EVT_STAT, Reg.SPAWN_TRIG_LOST_CNT,
    Reg.SPAWN_TRIG_ISN_LO, Reg.SPAWN_TRIG_ISN_HI, Reg.SPAWN_TRIG_CNT, Reg.SPAWN_STATUS, Reg.SPAWN_EVT, Reg.MSIX_PBA 0]

/-- Registers that a release writes in which no engine but those of `fs` can fail. -/
def releaseRegsOf (fs : List EngineId) : List Off := releaseRegs ++ fs.flatMap failRegs

/-- Every engine but those of `fs` is out of service already, and no copy goes to it: no rule can fail it any more. -/
def State.Failed (s : State) (fs : List EngineId) : Prop := ∀ f, f ∉ fs → s.serves f = false ∧ s.isTarget f = false

theorem subset_releaseRegs_can {n : Nat} (hn : n < 8) : canHaltOneRegs n ⊆ releaseRegs :=
  fun _ ho => List.mem_append_left _ (List.mem_append_left _ (List.mem_append_right _ (List.mem_flatMap.mpr ⟨n, List.mem_range.mpr hn, ho⟩)))

theorem replay_endJournal (p : Spawn) : p.endJournal.closeJournal.replay = p.replay := by
  unfold Spawn.endJournal Spawn.closeJournal
  split
  · rfl
  · split <;> rfl

/-- What a step of a release leaves alone, when no engine but those of `fs` can fail. -/
structure Kept (fs : List EngineId) (s t : State) : Prop where
  regs : RegsBut s t (releaseRegsOf fs)
  engine : ∀ f, f ∉ fs → (t.eng f).svc = (s.eng f).svc ∧ (t.eng f).lastCause = (s.eng f).lastCause
  stopped : ∀ f, (s.eng f).stopped = false → (t.eng f).stopped = false
  holder : t.skink.holder = s.skink.holder ∨ t.skink.holder = none
  copy : t.skink.copy = s.skink.copy ∨ t.skink.copy = none
  preferred : t.skink.preferred = s.skink.preferred
  hif : ∃ r d u, t.hif = { s.hif with running := r, ready := d, unsig := u }
  replay : t.spawn.replay = s.spawn.replay

variable {fs : List EngineId} {s t u : State}

theorem Kept.refl (fs : List EngineId) (s : State) : Kept fs s s :=
  ⟨.refl _ _, fun _ _ => ⟨rfl, rfl⟩, fun _ h => h, .inl rfl, .inl rfl, rfl, ⟨_, _, _, rfl⟩, rfl⟩

theorem Kept.trans (h : Kept fs s t) (k : Kept fs t u) : Kept fs s u := by
  obtain ⟨r, d, n, h'⟩ := h.hif
  obtain ⟨r', d', n', k'⟩ := k.hif
  refine ⟨h.regs.trans k.regs, fun f hf => ⟨(k.engine f hf).1.trans (h.engine f hf).1, (k.engine f hf).2.trans (h.engine f hf).2⟩,
    fun f hf => k.stopped f (h.stopped f hf), ?_, ?_, k.preferred.trans h.preferred, ⟨r', d', n', by rw [k', h']⟩, k.replay.trans h.replay⟩
  · exact k.holder.elim (fun hk => h.holder.imp hk.trans hk.trans) .inr
  · exact k.copy.elim (fun hk => h.copy.imp hk.trans hk.trans) .inr

/-- The engines that could not fail still cannot. -/
theorem Kept.failed (h : Kept fs s t) (hs : s.Failed fs) : t.Failed fs := by
  intro f hf
  obtain ⟨hserve, htarget⟩ := hs f hf
  refine ⟨?_, ?_⟩
  · rw [State.serves, Engine.serving, (h.engine f hf).1]
    exact hserve
  · unfold State.isTarget at htarget ⊢
    rcases h.copy with hc | hc
    · rw [hc]
      exact htarget
    · rw [hc]
      rfl

/-- Registers of the list have been written, and nothing else that counts here. -/
theorem Kept.of_fields {os : List Off} (hr : RegsBut s t os) (hos : os ⊆ releaseRegsOf fs) (hA : t.aeA = s.aeA) (hB : t.aeB = s.aeB)
    (hk : t.skink = s.skink) (hh : t.hif = s.hif) (hsp : t.spawn.replay = s.spawn.replay) : Kept fs s t := by
  have heng : ∀ f, t.eng f = s.eng f := State.eng_congr hA hB
  refine ⟨hr.mono hos, fun f _ => by rw [heng]; exact ⟨rfl, rfl⟩, fun f hf => by rw [heng]; exact hf, ?_, ?_, ?_, ⟨s.hif.running, s.hif.ready, s.hif.unsig, hh⟩, hsp⟩
  · exact .inl (congrArg Skink.holder hk)
  · exact .inl (congrArg Skink.copy hk)
  · exact congrArg Skink.preferred hk

/-- A field that does not count here has been set. -/
theorem Kept.of_same (hr : t.regs = s.regs) (hb : t.behavBoot = s.behavBoot) (hA : t.aeA = s.aeA) (hB : t.aeB = s.aeB) (hk : t.skink = s.skink)
    (hh : t.hif = s.hif) (hsp : t.spawn.replay = s.spawn.replay) : Kept fs s t :=
  .of_fields (.of_regs hr hb []) (List.nil_subset _) hA hB hk hh hsp

/-- An operation on parts that count nothing here. -/
theorem Kept.of_parts {zs : List Zone} {os : List Off} (hr : RegsBut s t os) (hp : PartsBut s t zs) (hos : os ⊆ releaseRegsOf fs)
    (hA : Zone.aeA ∉ zs := by decide) (hB : Zone.aeB ∉ zs := by decide) (hk : Zone.skink ∉ zs := by decide) (hh : Zone.hif ∉ zs := by decide)
    (hsp : Zone.spawn ∉ zs := by decide) : Kept fs s t :=
  .of_fields hr hos (hp .aeA hA) (hp .aeB hB) (hp .skink hk) (hp .hif hh) (congrArg Spawn.replay (hp .spawn hsp))

/-- An operation on registers alone. -/
theorem Kept.of_regs {os : List Off} (hr : RegsBut s t os) (hp : PartsBut s t [.regs]) (hos : os ⊆ releaseRegsOf fs) : Kept fs s t :=
  .of_parts hr hp hos

theorem subset_releaseRegsOf {os : List Off} (h : os ⊆ releaseRegs) (fs : List EngineId) : os ⊆ releaseRegsOf fs :=
  fun _ ho => List.mem_append_left _ (h ho)

theorem failRegs_subset {f : EngineId} (h : f ∈ fs) : failRegs f ⊆ releaseRegsOf fs :=
  fun _ ho => List.mem_append_right _ (List.mem_flatMap.mpr ⟨f, h, ho⟩)

/-! ## Registers -/

section

variable (fs) (s)

theorem kept_bump {o : Off} (h : o ∈ releaseRegs) : Kept fs s (s.bump o) :=
  .of_regs (regsBut_bump s o) (fun z hz => same_of_foot [.regs] (fun _ _ => bump_foot _ _ (.refl s)) z hz)
    (subset_releaseRegsOf (by simpa using h) fs)

theorem kept_setReg {o : Off} (v : U32) (h : o ∈ releaseRegs) : Kept fs s (s.setReg o v) :=
  .of_regs (regsBut_setReg s o v) (fun z hz => same_of_foot [.regs] (fun _ _ => setReg_foot _ _ _ (.refl s)) z hz)
    (subset_releaseRegsOf (by simpa using h) fs)

theorem kept_raise {o : Off} (m : Nat) (h : o ∈ releaseRegs) : Kept fs s (s.raise o m) :=
  .of_regs (regsBut_raise s o m) (fun z hz => same_of_foot [.regs] (fun _ _ => raise_foot _ _ _ (.refl s)) z hz)
    (subset_releaseRegsOf (by
      intro p hp
      rcases List.mem_cons.mp hp with rfl | hp
      · exact h
      · rw [List.mem_singleton.mp hp]
        decide) fs)

theorem kept_setPair {lo hi : Off} (v : U64) (hlo : lo ∈ releaseRegs) (hhi : hi ∈ releaseRegs) : Kept fs s (s.setPair lo hi v) :=
  (kept_setReg fs s _ hlo).trans (kept_setReg fs _ _ hhi)

theorem kept_updOutlet (f : Outlet → Outlet) : Kept fs s (s.updOutlet f) := .of_same rfl rfl rfl rfl rfl rfl rfl

/-! ## Commands that end -/

/-- HIF's commands and completions change, and nothing else that counts here. -/
theorem Kept.of_hif {s t : State} (hp : PartsBut s t [.hif]) (hif : ∃ r d, t.hif = { s.hif with running := r, ready := d }) : Kept fs s t := by
  obtain ⟨r, d, hif⟩ := hif
  have heng : ∀ f, t.eng f = s.eng f := fun f => PartsBut.eng hp (e := f)
  have hskink : t.skink = s.skink := hp .skink (by decide)
  exact ⟨.of_regs (hp .regs (by decide)) (hp .behavBoot (by decide)) _, fun f _ => by rw [heng]; exact ⟨rfl, rfl⟩, fun f hf => by rw [heng]; exact hf,
    .inl (congrArg Skink.holder hskink), .inl (congrArg Skink.copy hskink), congrArg Skink.preferred hskink, ⟨r, d, s.hif.unsig, by rw [hif]⟩,
    congrArg Spawn.replay (hp .spawn (by decide))⟩

theorem kept_complete (tag : U32) (irq : Bool) (op status : Nat) (x : U64) : Kept fs s (s.complete tag irq op status x) :=
  .of_hif fs (fun z hz => same_of_foot [.hif] (fun _ _ => complete_foot _ _ _ _ _ _ (.refl s)) z hz) ⟨_, _, rfl⟩

theorem kept_finish (tag : U32) (irq : Bool) (op status : Nat) (x : U64) : Kept fs s (s.finish tag irq op status x) :=
  .of_hif fs (fun z hz => same_of_foot [.hif] (fun _ _ => finish_foot _ _ _ _ _ _ (.refl s)) z hz) ⟨_, _, rfl⟩

theorem kept_closeRunning (r : Running) : Kept fs s (s.closeRunning r) := by
  refine .of_hif fs (fun z hz => same_of_foot [.hif] (fun _ _ => closeRunning_foot _ _ (.refl s)) z hz) ?_
  unfold State.closeRunning
  dsimp only
  split
  · exact ⟨_, _, rfl⟩
  · exact ⟨_, _, rfl⟩

variable {s}

theorem Kept.foldl {α : Type} {f : State → α → State} (h : ∀ (t : State) (x : α), Kept fs t (f t x)) (l : List α) (s : State) : Kept fs s (l.foldl f s) := by
  induction l generalizing s with
  | nil => exact .refl fs s
  | cons x l ih => exact (h s x).trans (ih (f s x))

theorem Kept.ite {c : Prop} [Decidable c] {t u : State} (ht : Kept fs s t) (hu : Kept fs s u) : Kept fs s (if c then t else u) := by
  split
  · exact ht
  · exact hu

variable (s)

theorem kept_refuseTaken (units : List CmdUnit) : Kept fs s (s.refuseTaken units) := by
  unfold State.refuseTaken
  exact (Kept.foldl fs (fun t _ => kept_complete fs t _ _ _ _ _) _ _).trans (.foldl fs (fun t _ => kept_finish fs t _ _ _ _ _) _ _)

/-- The commands taken are set aside. -/
theorem kept_setRunning (r : List Running) : Kept fs s { s with hif := { s.hif with running := r } } :=
  .of_hif fs (fun z hz => same_of_foot [.hif] (fun _ _ => updHif_foot _ (fun h => { h with running := r }) (.refl s)) z hz) ⟨_, _, rfl⟩

theorem kept_closeTaken : Kept fs s s.closeTaken := by
  unfold State.closeTaken
  extract_lets rs us h i u v
  have hu : Kept fs s u := (kept_setRunning fs s _).trans (.of_same rfl rfl rfl rfl rfl rfl rfl)
  have hv : Kept fs u v := .foldl fs (fun t r => .ite fs (kept_closeRunning fs t r) (kept_complete fs t _ _ _ _ _)) _ _
  exact (hu.trans hv).trans (kept_refuseTaken fs v us)

theorem kept_dropWaiter (e : EngineId) : Kept fs s (s.dropWaiter e) := by
  unfold State.dropWaiter
  exact (kept_setRunning fs s _).trans (.foldl fs (fun t r => .ite fs (kept_closeRunning fs t r) (kept_complete fs t _ _ _ _ _)) _ _)

/-! ## FAULT_HALT -/

variable {s} in
/-- HIF's commands, completions and interrupts change with registers of the list. -/
theorem Kept.of_rings {zs : List Zone} {os : List Off} {t : State} (hr : RegsBut s t os) (hos : os ⊆ releaseRegsOf fs) (hp : PartsBut s t zs)
    (hif : ∃ r d u, t.hif = { s.hif with running := r, ready := d, unsig := u })
    (hA : Zone.aeA ∉ zs := by decide) (hB : Zone.aeB ∉ zs := by decide) (hk : Zone.skink ∉ zs := by decide)
    (hsp : Zone.spawn ∉ zs := by decide) : Kept fs s t := by
  have heng : ∀ f, t.eng f = s.eng f := State.eng_congr (hp .aeA hA) (hp .aeB hB)
  have hskink : t.skink = s.skink := hp .skink hk
  exact ⟨hr.mono hos, fun f _ => by rw [heng]; exact ⟨rfl, rfl⟩, fun f hf => by rw [heng]; exact hf, .inl (congrArg Skink.holder hskink),
    .inl (congrArg Skink.copy hskink), congrArg Skink.preferred hskink, hif, congrArg Spawn.replay (hp .spawn hsp)⟩

theorem canHaltOneRegs_subset {n : Nat} (hn : n < 8) : canHaltOneRegs n ⊆ releaseRegsOf fs :=
  subset_releaseRegsOf (subset_releaseRegs_can hn) fs

theorem kept_rxFlush {n : Nat} (hn : n < 8) : Kept fs s (s.rxFlush n) := by
  obtain ⟨u, hu⟩ := (canPosted_echoesDue (s.updCan n (fun c => { c with rxFifo := [], echoes := c.echoes.map (fun e => { e with behind := 0 }) })) hn).hif
  exact .of_rings fs (zs := [.regs, .hif, .can, .gecko]) (regsBut_rxFlush s hn)
    (fun _ ho => canHaltOneRegs_subset fs hn (List.mem_cons_of_mem _ (List.mem_cons_of_mem _ (List.mem_cons_of_mem _ (List.mem_cons_of_mem _ ho)))))
    (fun z hz => same_of_foot [.regs, .hif, .can, .gecko] (fun _ _ => rxFlush_foot _ _ (.refl s)) z hz) ⟨_, _, u, hu⟩

theorem kept_endFrames {n : Nat} (hn : n < 8) (f : TxSlot → Bool) (code : Nat) : Kept fs s (s.endFrames n f code) := by
  obtain ⟨u, hu⟩ := (canPosted_endFrames s hn f code).hif
  exact .of_rings fs (zs := [.regs, .hif, .can, .gecko]) (regsBut_endFrames s hn f code)
    (fun _ ho => canHaltOneRegs_subset fs hn (List.mem_cons_of_mem _ (List.mem_cons_of_mem _ ho)))
    (fun z hz => same_of_foot [.regs, .hif, .can, .gecko] (fun _ _ => endFrames_foot _ _ _ _ (.refl s)) z hz) ⟨_, _, u, hu⟩

theorem kept_updCan (n : Nat) (f : Can → Can) : Kept fs s (s.updCan n f) := .of_same rfl rfl rfl rfl rfl rfl rfl

theorem kept_cancelEnds (n : Nat) (sent : Bool) : Kept fs s (s.cancelEnds n sent) := by
  unfold State.cancelEnds
  exact (kept_updCan fs s _ _).trans (.foldl fs (fun t _ => kept_finish fs t _ _ _ _ _) _ _)

theorem kept_canOff {n : Nat} (hn : n < 8) : Kept fs s (s.canOff n) := by
  have hquiet : Kept fs s ((((s.setCanBus n 0).setCanStat n CanStat.integrating false).setCanStat n CanStat.recovering false).canQuiet n) := by
    have hst : Reg.CAN_STATUS n ∈ releaseRegs := subset_releaseRegs_can hn (by simp)
    have hrun : Reg.CAN_NOACK_RUN n ∈ releaseRegs := subset_releaseRegs_can hn (by simp)
    exact ((((kept_setReg fs s _ hst).trans (kept_setReg fs _ _ hst)).trans (kept_setReg fs _ _ hst)).trans (kept_setReg fs _ _ hrun)).trans
      (kept_setReg fs _ _ hst)
  unfold State.canOff
  dsimp only
  split
  · exact hquiet
  · exact (hquiet.trans (kept_updCan fs _ _ _)).trans (kept_finish fs _ _ _ _ _ _)

theorem kept_canHaltOne {n : Nat} (hn : n < 8) : Kept fs s (s.canHaltOne n) := by
  unfold State.canHaltOne
  exact ((((kept_rxFlush fs s hn).trans (kept_endFrames fs _ hn _ _)).trans (kept_cancelEnds fs _ _ _)).trans (kept_endFrames fs _ hn _ _)).trans
    (kept_canOff fs _ hn)

theorem kept_canHalt : Kept fs s s.canHalt := by
  have hall : ∀ (l : List Nat) (t : State), (∀ n ∈ l, n < 8) → Kept fs t (l.foldl State.canHaltOne t) := by
    intro l
    induction l with
    | nil => exact fun t _ => .refl fs t
    | cons n l ih =>
      intro t hl
      have hone := kept_canHaltOne fs t (hl n List.mem_cons_self)
      rw [List.foldl_cons]
      generalize t.canHaltOne n = u at hone
      exact hone.trans (ih u fun m hm => hl m (List.mem_cons_of_mem n hm))
  have hbegun : Kept fs s { s with canWalk := [], outlet := { s.outlet with pubCan := [] } } := .of_same rfl rfl rfl rfl rfl rfl rfl
  unfold State.canHalt
  exact hbegun.trans (hall (List.range 8) _ fun n hn => List.mem_range.mp hn)

theorem kept_endContinuous : Kept fs s s.endContinuous := by
  unfold State.endContinuous
  split
  · exact (kept_setReg fs s _ (by decide)).trans (.of_same rfl rfl rfl rfl rfl rfl (replay_endJournal s.spawn))
  · exact .refl fs s

theorem haltRegs_subset : haltRegs ⊆ releaseRegsOf fs :=
  subset_releaseRegsOf (fun _ ho => List.mem_append_left _ (List.mem_append_left _ ho)) fs

theorem kept_haltClosed : Kept fs s s.haltClosed := by
  unfold State.haltClosed
  refine ((kept_closeTaken fs s).trans (kept_endContinuous fs _)).trans (.of_parts (zs := [.regs, .dio, .fe])
    ((regsBut_requestsEnd _).andThen (regsBut_lanesEnd _ _)) (fun z hz => same_of_foot [.regs, .dio, .fe]
      (fun _ _ => lanesEnd_foot _ _ (requestsEnd_foot _ (.refl _))) z hz) ?_)
  exact fun _ ho => haltRegs_subset fs (List.mem_append_left _ (List.mem_append_left _ (List.mem_cons_of_mem _ ho)))

theorem kept_haltNode (cause engCause : Nat) : Kept fs s (s.haltNode cause engCause) := by
  by_cases h : s.mgmt = Node.faultHalt
  · unfold State.haltNode
    rw [if_pos h]
    exact .refl fs s
  · rw [State.haltNode_eq h]
    refine Kept.trans ((kept_haltClosed fs s).trans ?_) (kept_canHalt fs _)
    unfold State.haltShown
    refine .of_parts (zs := [.regs]) (os := [Reg.MGMT_FAULT_CAUSE, Reg.MGMT_FAULT_ISN_LO, Reg.MGMT_FAULT_ISN_HI, Reg.MGMT_STATE, Reg.MGMT_EVT, Reg.MSIX_PBA 0])
      ((((regsBut_setReg _ _ _).mono (by decide)).trans ((regsBut_setPair _ _ _ _).mono (by decide))).trans
        ((regsBut_setMgmt _ _).mono (by decide)) |>.trans ((regsBut_raise _ _ _).mono (by decide)))
      (fun z hz => same_of_foot [.regs] (fun _ _ => raise_foot _ _ _ (setMgmt_foot _ _ (setPair_foot _ _ _ _ (setReg_foot _ _ _ (.refl _))))) z hz) ?_
    exact fun _ ho => haltRegs_subset fs (List.mem_append_left _ (List.mem_append_right _ ho))

end

end Sys2Proof.Machine

/-! PROOFS. What a release and a failure leave alone, continued: an engine's failure, differing copies, and the release itself (R280-R284, R301, R304, R310, R316, R332, R337). -/

namespace Sys2Proof.Machine

section

variable (fs : List EngineId) (s : State)

/-! ## Offers of Skink's -/

theorem kept_offer (pl : Nat) (r : InRec) : Kept fs s (s.offer pl r) :=
  .of_parts (zs := [.regs, .inlet, .gecko]) (s.offer_offered pl r).regs (fun z hz => same_of_foot [.regs, .inlet, .gecko] (fun _ _ => offer_foot _ _ _ (.refl s)) z hz)
    (subset_releaseRegsOf (fun _ ho => List.mem_append_left _ (List.mem_append_right _ ho)) fs)

theorem kept_offerResync (func cause : Nat) (arg : U32) : Kept fs s (s.offerResync func cause arg) := by
  unfold State.offerResync
  exact .ite fs (kept_offer fs s _ _) (.refl fs s)

theorem kept_offerStatus (cause : Nat) : Kept fs s (s.offerStatus cause) := by
  unfold State.offerStatus
  split
  · exact .of_same rfl rfl rfl rfl rfl rfl rfl
  · split
    · exact .of_same rfl rfl rfl rfl rfl rfl rfl
    · exact kept_offerResync fs s _ _ _

/-! ## A failure -/

/-- An engine changes in what does not count here. -/
theorem kept_setEng {e : EngineId} {x : Engine} (hsvc : e ∉ fs → x.svc = (s.eng e).svc ∧ x.lastCause = (s.eng e).lastCause)
    (hst : (s.eng e).stopped = false → x.stopped = false) : Kept fs s (s.setEng e x) := by
  have hp := s.setEng_parts e x
  refine ⟨regsBut_setEng s e x _, fun f hf => ?_, fun f hf => ?_, .inl (congrArg Skink.holder (hp .skink (by decide))),
    .inl (congrArg Skink.copy (hp .skink (by decide))), congrArg Skink.preferred (hp .skink (by decide)),
    ⟨s.hif.running, s.hif.ready, s.hif.unsig, hp .hif (by decide)⟩, congrArg Spawn.replay (hp .spawn (by decide))⟩
  · by_cases h : f = e
    · subst h
      rw [State.eng_setEng_self]
      exact hsvc hf
    · rw [State.eng_setEng_ne _ h]
      exact ⟨rfl, rfl⟩
  · by_cases h : f = e
    · subst h
      rw [State.eng_setEng_self]
      exact hst hf
    · rw [State.eng_setEng_ne _ h]
      exact hf

theorem kept_updEng {e : EngineId} {f : Engine → Engine} (hsvc : e ∉ fs → (f (s.eng e)).svc = (s.eng e).svc ∧ (f (s.eng e)).lastCause = (s.eng e).lastCause)
    (hst : (s.eng e).stopped = false → (f (s.eng e)).stopped = false) : Kept fs s (s.updEng e f) := kept_setEng fs s hsvc hst

/-- Skink changes in what does not count here. -/
theorem kept_updSkink {f : Skink → Skink} (hh : (f s.skink).holder = s.skink.holder ∨ (f s.skink).holder = none)
    (hc : (f s.skink).copy = s.skink.copy ∨ (f s.skink).copy = none) (hp : (f s.skink).preferred = s.skink.preferred) : Kept fs s (s.updSkink f) :=
  ⟨.of_regs rfl rfl _, fun _ _ => ⟨rfl, rfl⟩, fun _ h => h, hh, hc, hp, ⟨_, _, _, rfl⟩, rfl⟩

variable {fs s} in
theorem kept_recordFailure {e : EngineId} (he : e ∈ fs) (cause : Nat) : Kept fs s (s.recordFailure e cause) := by
  unfold State.recordFailure
  extract_lets x times off u v w
  have hu : Kept fs s u := kept_setEng fs s (fun h => absurd he h) fun _ => rfl
  have hfail : ∀ o ∈ failRegs e, o ∈ releaseRegsOf fs := failRegs_subset he
  have hv : Kept fs u (v.bump (Reg.AE_FAIL_CNT (engIx e))) := .of_regs (os := failRegs e)
    (((regsBut_setPair u _ _ _).mono (by simp [failRegs])).trans ((regsBut_bump _ _).mono (by simp [failRegs])))
    (fun z hz => same_of_foot [.regs] (fun _ _ => bump_foot _ _ (setPair_foot _ _ _ _ (.refl u))) z hz) hfail
  exact (hu.trans hv).trans (kept_raise fs _ _ (by decide))

theorem kept_releaseHold : Kept fs s s.releaseHold := by
  unfold State.releaseHold
  split
  · exact .refl fs s
  next h hh => exact (kept_updEng fs s (fun _ => ⟨rfl, rfl⟩) fun h => h).trans (kept_updSkink fs _ (.inr rfl) (.inl rfl) rfl)

theorem kept_snapRetry (e : EngineId) (source : Bool) : Kept fs s (s.snapRetry e source) := by
  unfold State.snapRetry
  extract_lets src copied u
  have hu : Kept fs s u := .ite fs (.of_same rfl rfl rfl rfl rfl rfl rfl) (.of_same rfl rfl rfl rfl rfl rfl rfl)
  exact .ite fs (.refl fs s) (hu.trans (kept_bump fs u (by decide)))

variable {fs s}

theorem kept_abandonCopy (hs : s.Failed fs) (e : EngineId) : Kept fs s (s.abandonCopy e) := by
  unfold State.abandonCopy
  split
  · exact .refl fs s
  next c hc =>
    have hskink : ∀ u : State, Kept fs u (u.updSkink (fun k => { k with copy := none })) := fun u => kept_updSkink fs u (.inl rfl) (.inr rfl) rfl
    split
    · refine (kept_updEng fs s (fun h => ?_) fun h => h).trans (hskink _)
      have htarget := (hs _ h).2
      rw [State.isTarget, hc] at htarget
      simp at htarget
    · split
      · exact (kept_updEng fs s (fun _ => ⟨rfl, rfl⟩) fun _ => rfl).trans (hskink _)
      · exact .refl fs s

theorem kept_leaveService (hs : s.Failed fs) (e : EngineId) (cause : Nat) : Kept fs s (s.leaveService e cause) := by
  unfold State.leaveService
  extract_lets source u v w
  have hu : Kept fs s u := .ite fs (kept_releaseHold fs s) (.refl fs s)
  have hv' : Kept fs s ((u.dropWaiter e).snapRetry e source) := (hu.trans (kept_dropWaiter fs u e)).trans (kept_snapRetry fs _ _ _)
  have hv : Kept fs s v := hv'.trans (kept_abandonCopy (hv'.failed hs) e)
  have hw : Kept fs s w := hv.trans (kept_offerStatus fs v cause)
  exact .ite fs (hw.trans (kept_haltNode fs w _ _)) hw

/-- An engine that cannot fail does not; the failure of another leaves it alone. -/
theorem kept_failCore (hs : s.Failed fs) (e : EngineId) (cause : Nat) : Kept fs s (s.failCore e cause) := by
  unfold State.failCore
  by_cases he : e ∈ fs
  · have hr : Kept fs s (s.recordFailure e cause) := kept_recordFailure he cause
    refine .ite fs (hr.trans (kept_leaveService (hr.failed hs) e cause)) (.ite fs ?_ (.refl fs s))
    have ha := hr.trans (kept_abandonCopy (hr.failed hs) e)
    exact ha.trans (kept_offerStatus fs _ cause)
  · obtain ⟨hserve, htarget⟩ := hs e he
    rw [hserve, htarget]
    exact .refl fs s

/-! ## Differing copies -/

variable (fs s) in
theorem kept_offerDiverge (arg : U32) : Kept fs s (s.offerDiverge arg) := by
  unfold State.offerDiverge
  extract_lets clear k u v
  have hu : Kept fs s u := by
    unfold u
    split
    · refine ⟨.of_regs rfl rfl _, fun f _ => ?_, fun f hf => ?_, .inl rfl, .inl rfl, rfl, ⟨_, _, _, rfl⟩, rfl⟩
      · cases f <;> exact ⟨rfl, rfl⟩
      · cases f <;> exact hf
    · exact kept_updSkink fs s (.inl rfl) (.inl rfl) rfl
  have hv : Kept fs u v := kept_setReg fs u arg (by decide)
  have hw : Kept fs v ((v.bump Reg.SKINK_DIVERGE_CNT).raise Reg.SKINK_EVT 8) := (kept_bump fs v (by decide)).trans (kept_raise fs _ _ (by decide))
  exact ((hu.trans hv).trans hw).trans (kept_offerResync fs _ _ _ _)

theorem kept_pointMismatch (hs : s.Failed fs) (p : Nat) : Kept fs s (s.pointMismatch p) := by
  unfold State.pointMismatch
  refine .ite fs (.refl fs s) (.ite fs (kept_offerDiverge fs s _) (.ite fs (kept_updSkink fs s (.inl rfl) (.inl rfl) rfl) ?_))
  split
  · exact kept_failCore hs _ 9
  · exact .refl fs s

theorem kept_mismatch (hs : s.Failed fs) (v : Event) : Kept fs s (s.mismatch v) := by
  unfold State.mismatch
  extract_lets u w
  have hw : Kept fs s w := ((kept_setPair fs s _ (by decide) (by decide)).trans (kept_bump fs u (by decide))).trans (kept_raise fs _ _ (by decide))
  refine .ite fs (hw.trans (kept_pointMismatch (hw.failed hs) _)) ?_
  split
  · exact hw.trans (kept_failCore (hw.failed hs) _ 9)
  · exact hw

/-! ## The release of an event -/

section

variable (fs s)

theorem kept_noteRelease (v : Event) : Kept fs s (s.noteRelease v) := by
  unfold State.noteRelease
  refine .ite fs (kept_bump fs s (by decide)) (.ite fs ?_ (.refl fs s))
  exact ((kept_setPair fs s _ (by decide) (by decide)).trans (kept_setPair fs _ _ (by decide) (by decide))).trans (kept_bump fs _ (by decide))

theorem kept_legacyPut (v : Event) : Kept fs s (s.legacyPut v) := by
  unfold State.legacyPut
  refine .ite fs (.ite fs (kept_updOutlet fs s _) ?_) (.refl fs s)
  exact (kept_bump fs s (by decide)).trans (kept_raise fs _ _ (by decide))

theorem kept_publish (cs : List Event) : Kept fs s (s.publish cs) := by
  unfold State.publish
  exact .ite fs (.refl fs s) (kept_updOutlet fs s _)

theorem kept_trigger (isn : U64) : Kept fs s (s.trigger isn) := by
  unfold State.trigger
  refine .ite fs (.refl fs s) (.ite fs (kept_bump fs s (by decide)) (.ite fs ?_ (.refl fs s)))
  extract_lets u v
  have hu : Kept fs s u := kept_setPair fs s _ (by decide) (by decide)
  have hv : Kept fs u v := .of_same rfl rfl rfl rfl rfl rfl rfl
  have hw : Kept fs v ((v.bump Reg.SPAWN_TRIG_CNT).setCap Cap.postTrigger) := (kept_bump fs v (by decide)).trans (kept_setReg fs _ _ (by decide))
  exact ((hu.trans hv).trans hw).trans (kept_raise fs _ _ (by decide))

theorem kept_eventTrigger (v : Event) : Kept fs s (s.eventTrigger v) := by
  unfold State.eventTrigger
  exact .ite fs (kept_trigger fs s _) (.refl fs s)

theorem kept_lineWritten (o n : Nat) : Kept fs s (s.lineWritten o n) :=
  .of_parts (zs := [.gecko]) (os := []) (.of_foot [.gecko] (fun _ _ => lineWritten_foot _ _ _ (.refl s)) [])
    (fun z hz => same_of_foot [.gecko] (fun _ _ => lineWritten_foot _ _ _ (.refl s)) z hz) (List.nil_subset _)

end

theorem kept_releaseOne (hs : s.Failed fs) (m : Merge) : Kept fs s (s.releaseOne m) := by
  unfold State.releaseOne
  extract_lets u cs
  have hu : Kept fs s u := kept_updOutlet fs s _
  clear_value cs
  cases cs with
  | nil => exact hu
  | cons v rest =>
    dsimp -zeta only
    extract_lets differ out w x cs' v' takes b y
    have hw : Kept fs s w := hu.trans (.ite fs (kept_mismatch (hu.failed hs) v) (.refl fs u))
    have hx : Kept fs s x := by
      unfold x
      generalize out = o
      cases o with
      | none => exact hw
      | some e => exact hw.trans (kept_failCore (hw.failed hs) e 9)
    have hy : Kept fs s y := (hx.trans (kept_lineWritten fs x _ _)).trans (kept_updOutlet fs _ _)
    exact (((hy.trans (kept_noteRelease fs y _)).trans (kept_legacyPut fs _ _)).trans (kept_publish fs _ _)).trans (kept_eventTrigger fs _ _)

theorem kept_releaseReady (hs : s.Failed fs) (n : Nat) : Kept fs s (s.releaseReady n) := by
  induction n generalizing s with
  | zero => exact .refl fs s
  | succ n ih =>
    unfold State.releaseReady
    split
    · exact .refl fs s
    next m hm =>
      have hone := kept_releaseOne hs m
      exact .ite fs (hone.trans (ih (hone.failed hs))) (.refl fs s)

/-- A release leaves alone the engines that cannot fail, the rings, and the replay. -/
theorem kept_release (hs : s.Failed fs) : Kept fs s s.release := kept_releaseReady hs _

/-- Where every engine may fail, nothing is asked of them. -/
theorem State.failed_all (s : State) : s.Failed [.A, .B] := fun f hf => absurd (by cases f <;> decide) hf

end

end Sys2Proof.Machine

/-! PROOFS. A state copy of an engine with itself (R316): its end gives the failed engine the state of a copy's target, whatever its failures say. -/

namespace Sys2Proof.Machine

/-- ENGINE_CTL REMOVE of engine A. -/
def removeBytes : List Byte := [0x71] ++ zeros 7 ++ [1, 1] ++ zeros 54

/-- A node in RUN whose engines both serve, engine A with two failures just before and as both sides of a copy. -/
def selfCopying : State := { State.reset with
  regs := [(Reg.MGMT_STATE, 4), (Reg.RING_STATUS 1, 1), (Reg.RING_SIZE 1, 4)]
  hif := { linkUp := true, fetched := [(0, removeBytes)] }
  aeA := { svc := Svc.inService, failTimes := [0, 0] }
  aeB := { svc := Svc.inService }
  skink := { copy := some { source := .A, target := .A } } }

theorem selfCopying_heads : selfCopying.Heads 0x71 (Desc.ofBytes removeBytes) := by
  constructor
  · decide
  · decide

/-- The third failure within the window takes engine A OFFLINE, and the end of its copy with itself makes it FAILED. -/
theorem selfCopying_removed : Ends .engineCtl selfCopying (fun t => (t.eng .A).svc = Svc.failed) := by
  unfold Ends
  exact ⟨_, rfl, by decide⟩

/-- Refutes O33: an engine removed at its third failure within the window, with a copy of itself under way, ends FAILED and not OFFLINE. -/
theorem not_engineFailuresAndControl : ¬ Obligations.EngineFailuresAndControl := by
  unfold Obligations.EngineFailuresAndControl
  intro h
  obtain ⟨-, -, hctl⟩ := h
  obtain ⟨-, hremove, -⟩ := hctl selfCopying _ .A selfCopying_heads (by decide) (by decide)
  obtain ⟨t, ht, -, -, hsvc⟩ := hremove (by decide) (by decide) (by decide) (by decide)
  obtain ⟨u, hu, hfailed⟩ := selfCopying_removed
  rw [hu] at ht
  cases ht
  rw [hfailed] at hsvc
  exact absurd hsvc (by decide)

end Sys2Proof.Machine

/-! PROOFS. A divergence resolved while the engine that fails is the source of a state copy to the other (R307, R316): no engine is left to repair. -/

namespace Sys2Proof.Machine

/-- A node in RUN whose engines both serve and both reported mismatches of a DIVERGE, with a copy from engine B to engine A. -/
def divergedCopying : State := { State.reset with
  regs := [(Reg.MGMT_STATE, 4)]
  aeA := { svc := Svc.inService, report := some [0, 1] }
  aeB := { svc := Svc.inService, report := some [0, 1] }
  skink := { diverge := some 0, copy := some { source := .B, target := .A } } }

/-- Its resolution fails engine B, whose copy takes engine A with it, and no REPAIR is offered. -/
theorem divergedCopying_resolved : Ends .divergeResolution divergedCopying (fun t => t.inlet.waiting.length < 2) := by
  unfold Ends
  exact ⟨_, rfl, by decide +kernel⟩

/-- Refutes O35: with both engines failed by the resolution, the REPAIR records of the engine kept are not offered. -/
theorem not_auditAndDivergence : ¬ Obligations.AuditAndDivergence := by
  unfold Obligations.AuditAndDivergence
  intro h
  obtain ⟨-, -, -, hres⟩ := h
  obtain ⟨-, -, hboth⟩ := hres divergedCopying 0 [0, 1] [0, 1] rfl (by decide) rfl rfl
  obtain ⟨t, ht, -, -, -, hrepairs⟩ := hboth .B (by decide) (by decide)
  obtain ⟨rest, repairs, hwait, hmap⟩ := hrepairs (by decide)
  obtain ⟨u, hu, hfew⟩ := divergedCopying_resolved
  rw [hu] at ht
  cases ht
  have hlen : repairs.length = 2 := by simpa using congrArg List.length hmap
  rw [hwait, List.length_append] at hfew
  omega

end Sys2Proof.Machine

/-! PROOFS. O34 HoldAndReturn: the grant of the hold, the take-back, and the return of a failed engine (R299, R311-R315). -/

namespace Sys2Proof.Machine

/-! ## What an offer of Skink's and a recorded failure are -/

/-- The parts that an offer of Skink's touches. -/
theorem State.offerStatus_parts (s : State) (cause : Nat) : PartsBut s (s.offerStatus cause) [.regs, .inlet, .gecko] := fun z hz =>
  same_of_foot [.regs, .inlet, .gecko] (fun _ _ => offerStatus_foot _ _ (.refl s)) z hz

theorem State.offerResync_parts (s : State) (func cause : Nat) (arg : U32) : PartsBut s (s.offerResync func cause arg) [.regs, .inlet, .gecko] :=
  fun z hz => same_of_foot [.regs, .inlet, .gecko] (fun _ _ => offerResync_foot _ _ _ _ (.refl s)) z hz

theorem regsBut_offerResync (s : State) (func cause : Nat) (arg : U32) : RegsBut s (s.offerResync func cause arg) overrunRegs := by
  unfold State.offerResync
  split
  · exact (s.offer_offered _ _).regs
  · exact .refl s _

theorem regsBut_offerStatus (s : State) (cause : Nat) : RegsBut s (s.offerStatus cause) overrunRegs := by
  unfold State.offerStatus
  split
  · exact .of_regs rfl rfl _
  · split
    · exact .of_regs rfl rfl _
    · exact regsBut_offerResync s _ _ _

@[simp] theorem State.offerStatus_eng (s : State) (cause : Nat) (e : EngineId) : (s.offerStatus cause).eng e = s.eng e :=
  PartsBut.eng (s.offerStatus_parts cause) (e := e)

@[simp] theorem State.offerStatus_skink (s : State) (cause : Nat) : (s.offerStatus cause).skink = s.skink :=
  s.offerStatus_parts cause .skink (by decide)

@[simp] theorem State.offerResync_eng (s : State) (func cause : Nat) (arg : U32) (e : EngineId) : (s.offerResync func cause arg).eng e = s.eng e :=
  PartsBut.eng (s.offerResync_parts func cause arg) (e := e)

@[simp] theorem State.offerResync_skink (s : State) (func cause : Nat) (arg : U32) : (s.offerResync func cause arg).skink = s.skink :=
  s.offerResync_parts func cause arg .skink (by decide)

theorem State.recordFailure_parts (s : State) (e : EngineId) (cause : Nat) : PartsBut s (s.recordFailure e cause) [.regs, .aeA, .aeB] := fun z hz =>
  same_of_foot [.regs, .aeA, .aeB] (fun _ _ => recordFailure_foot _ _ _ (.refl s)) z hz

@[simp] theorem State.recordFailure_skink (s : State) (e : EngineId) (cause : Nat) : (s.recordFailure e cause).skink = s.skink :=
  s.recordFailure_parts e cause .skink (by decide)

theorem State.reg_bump_self (s : State) (o : Off) : (s.bump o).reg o = satAdd (s.reg o) 1 := (s.reg_bump _ _).trans (if_pos rfl)

/-- What a recorded failure leaves of the engine and counts (R301, R315). -/
structure FailureRecorded (s t : State) (e : EngineId) (cause : Nat) : Prop where
  out : t.serves e = false
  cause : (t.eng e).lastCause = cause
  goes : (t.eng e).stopped = false
  count : t.reg (Reg.AE_FAIL_CNT (engIx e)) = satAdd (s.reg (Reg.AE_FAIL_CNT (engIx e))) 1

theorem State.recordFailure_records (s : State) (e : EngineId) (cause : Nat) : FailureRecorded s (s.recordFailure e cause) e cause := by
  unfold State.recordFailure
  extract_lets x times off u v w
  have heng : w.eng e = u.eng e := by
    have hp : PartsBut u w [.regs] := fun z hz => same_of_foot [.regs] (fun _ _ => raise_foot _ _ _ (bump_foot _ _ (setPair_foot _ _ _ _ (.refl u)))) z hz
    exact PartsBut.eng hp (e := e)
  have hx : w.eng e = _ := heng.trans (State.eng_setEng_self _ e _)
  refine ⟨?_, by rw [hx], by rw [hx], ?_⟩
  · rw [State.serves, hx, Engine.serving]
    dsimp only
    split <;> rfl
  · have hv : RegsBut s v [Reg.AE_FAIL_ISN_LO (engIx e), Reg.AE_FAIL_ISN_HI (engIx e)] :=
      (regsBut_setEng s e _ _).trans (regsBut_setPair _ _ _ _)
    have hw := (regsBut_raise (v.bump (Reg.AE_FAIL_CNT (engIx e))) Reg.SKINK_EVT (4 + if off then 0x10 else 0))
      (Reg.AE_FAIL_CNT (engIx e)) (by cases e <;> decide)
    exact hw.trans ((State.reg_bump_self _ _).trans (congrArg (satAdd · 1) (hv _ (by cases e <;> decide))))

theorem FailureRecorded.offered {s t u : State} {e : EngineId} {cause : Nat} (h : FailureRecorded s t e cause) (heng : u.eng e = t.eng e)
    (hr : RegsBut t u overrunRegs) : FailureRecorded s u e cause :=
  ⟨(State.serves_congr heng).trans h.out, by rw [heng]; exact h.cause, by rw [heng]; exact h.goes,
    (hr _ (by cases e <;> decide)).trans h.count⟩

theorem State.failAgain_records (s : State) (e : EngineId) (cause : Nat) : FailureRecorded s (s.failAgain e cause) e cause :=
  (s.recordFailure_records e cause).offered (State.offerStatus_eng _ _ _) (regsBut_offerStatus _ _)

@[simp] theorem State.failAgain_skink (s : State) (e : EngineId) (cause : Nat) : (s.failAgain e cause).skink = s.skink :=
  (State.offerStatus_skink _ _).trans (State.recordFailure_skink _ _ _)

/-! ## HOLD_GRANT and TAKE_BACK (R299, R311, R314) -/

/-- The hold granted, counted, shown, and reported. -/
def State.holdMoves (s : State) (e : EngineId) (cnt : Off) (bit : Nat) : State :=
  (((s.grantHold e).bump cnt).raise Reg.SKINK_EVT bit).offerStatus 0

theorem State.holdMoves_parts (s : State) (e : EngineId) (cnt : Off) (bit : Nat) :
    PartsBut (s.grantHold e) (s.holdMoves e cnt bit) [.regs, .inlet, .gecko] := fun z hz =>
  same_of_foot [.regs, .inlet, .gecko] (fun _ _ => offerStatus_foot _ _ (raise_foot _ _ _ (bump_foot _ _ (.refl (s.grantHold e))))) z hz

theorem State.holdMoves_skink (s : State) (e : EngineId) (cnt : Off) (bit : Nat) :
    (s.holdMoves e cnt bit).skink = { s.skink with holder := some e, handover := false } := by
  refine (s.holdMoves_parts e cnt bit .skink (by decide)).trans ?_
  unfold State.grantHold
  exact congrArg (fun k : Skink => { k with holder := some e, handover := false })
    (same_of_foot [.regs, .aeA, .aeB] (fun _ _ => updEng_foot _ _ _ (recordMax_foot _ _ _ (.refl s))) .skink)

theorem State.holdMoves_count (s : State) (e : EngineId) {cnt : Off} (bit : Nat) (hcnt : cnt ∉ Reg.SKINK_HANDOVER_MAX :: Reg.SKINK_EVT :: overrunRegs) :
    (s.holdMoves e cnt bit).reg cnt = satAdd (s.reg cnt) 1 := by
  simp only [List.mem_cons, not_or] at hcnt
  obtain ⟨hmax, hevt, hovr⟩ := hcnt
  have hpba : cnt ∉ [Reg.SKINK_EVT, Reg.MSIX_PBA 0] := by
    simp only [List.mem_cons, List.not_mem_nil, or_false, not_or]
    exact ⟨hevt, fun h => hovr (h ▸ by decide)⟩
  calc (s.holdMoves e cnt bit).reg cnt
    _ = _ := regsBut_offerStatus _ 0 cnt hovr
    _ = _ := regsBut_raise _ _ _ cnt hpba
    _ = satAdd ((s.grantHold e).reg cnt) 1 := State.reg_bump_self _ _
    _ = satAdd (s.reg cnt) 1 := congrArg (satAdd · 1) (regsBut_grantHold s e cnt (by simpa using hmax))

theorem State.holdMoves_shown (s : State) (e : EngineId) (cnt : Off) {bit j : Nat} (hbit : bitAt (BitVec.ofNat 32 bit) j = true) :
    (s.holdMoves e cnt bit).rbit Reg.SKINK_EVT j = true :=
  (State.rbit_of_reg (regsBut_offerStatus _ 0 _ (by decide)) j).trans (State.rbit_raise_self _ _ _ _ (by decide) hbit)

theorem State.takeOver_grants {s : State} {e : EngineId} (hrun : s.running = true) (hnone : s.skink.holder = none) (he : s.candidate = some e) :
    s.takeOver = s.holdMoves e Reg.SKINK_TAKEOVER_CNT 1 := by
  unfold State.takeOver
  rw [if_neg (by rw [hrun, hnone]; decide), he]
  rfl

theorem State.takeBack_grants {s : State} {e : EngineId} (he : s.takeBackTo = some e) :
    s.takeBack = s.releaseHold.holdMoves e Reg.SKINK_TAKEBACK_CNT 2 := by
  unfold State.takeBack
  rw [he]
  rfl

theorem State.reg_releaseHold (s : State) (o : Off) : s.releaseHold.reg o = s.reg o :=
  State.reg_congr (same_of_foot [.aeA, .aeB, .skink] (fun _ _ => releaseHold_foot _ (.refl s)) .regs)
    (same_of_foot [.aeA, .aeB, .skink] (fun _ _ => releaseHold_foot _ (.refl s)) .behavBoot) o

/-- A grant takes back what the engine had asked with. -/
theorem State.holdMoves_eng (s : State) (e : EngineId) (cnt : Off) (bit : Nat) :
    ((s.holdMoves e cnt bit).eng e).handReq = false ∧ ((s.holdMoves e cnt bit).eng e).proved = false := by
  obtain ⟨n, hn⟩ := s.grantHold_eng e e
  rw [if_pos rfl] at hn
  rw [PartsBut.eng (s.holdMoves_parts e cnt bit) (e := e), hn]
  exact ⟨rfl, rfl⟩

/-! ## The return test and the copy (R312, R313) -/

/-- An engine in FAILED whose test is good goes to RESYNC, and its copy begins. -/
def State.resyncs (s : State) (e : EngineId) : State :=
  ((s.updEng e (fun x => { x with svc := Svc.resync })).updSkink (fun k => { k with copy := some { source := other e, target := e } })).offerResync
    Resync.copy 0 (BitVec.ofNat 32 (engNo e))

theorem State.returnTest_eq {s : State} {e : EngineId} (hm : s.mgmt = Node.run) (hsvc : (s.eng e).svc = Svc.failed) (hc : s.skink.copy = none)
    (ho : s.serves (other e) = true) (pass : Bool) : s.returnTest e pass = if pass then s.resyncs e else s.failAgain e 11 := by
  unfold State.returnTest
  rw [if_neg (by rw [hm, hsvc, hc, ho]; decide)]
  cases pass <;> rfl

theorem State.resyncs_ends (s : State) (e : EngineId) : ((s.resyncs e).eng e).svc = Svc.resync
    ∧ (s.resyncs e).skink.copy = some { source := other e, target := e } ∧ (s.resyncs e).eng (other e) = s.eng (other e) := by
  unfold State.resyncs
  refine ⟨?_, ?_, ?_⟩
  · rw [State.offerResync_eng]
    exact congrArg Engine.svc (s.eng_updEng_self e _)
  · rw [State.offerResync_skink]
    rfl
  · rw [State.offerResync_eng]
    exact s.eng_updEng_other e _

/-- The copy has ended, and its source goes on. -/
def State.copyClosed (s : State) (c : Copy) : State :=
  (s.updSkink (fun k => { k with copy := none })).updEng c.source (fun x => { x with stopped := false })

theorem State.copyClosed_skink (s : State) (c : Copy) : (s.copyClosed c).skink = { s.skink with copy := none } :=
  (s.updSkink _).updEng_parts c.source _ .skink (by decide)

theorem State.copyClosed_source (s : State) (c : Copy) : (s.copyClosed c).eng c.source = { s.eng c.source with stopped := false } :=
  State.eng_updEng_self _ _ _

theorem State.copyDone_failed {s : State} {c : Copy} (hc : s.skink.copy = some c) (hst : c.started = true) :
    s.copyDone false = (s.copyClosed c).failAgain c.target 12 := by
  unfold State.copyDone
  rw [hc]
  dsimp only
  rw [if_neg (by rw [hst]; decide)]
  exact if_pos rfl

/-- The target has the source's state, and proves itself. -/
def State.copyTaken (s : State) (c : Copy) : State :=
  s.setEng c.target { (s.eng c.source).copied (s.eng c.target) c.isn with svc := Svc.proving, provingSince := s.frcNat }

theorem State.copyDone_good {s : State} {c : Copy} (hc : s.skink.copy = some c) (hst : c.started = true) :
    PartsBut ((s.copyClosed c).copyTaken c) (s.copyDone true) [.regs, .inlet, .gecko, .outlet] := by
  unfold State.copyDone
  rw [hc]
  dsimp only
  rw [if_neg (by rw [hst]; decide), if_neg (by decide)]
  exact fun z hz => same_of_foot [.regs, .inlet, .gecko, .outlet]
    (fun _ _ => offerStatus_foot _ _ (setChain_foot _ _ _ (rewritten_foot _ _ (.refl ((s.copyClosed c).copyTaken c))))) z hz

theorem State.copyTaken_source {s : State} {c : Copy} (hs : (s.eng c.source).stopped = false) : ((s.copyTaken c).eng c.source).stopped = false := by
  unfold State.copyTaken
  by_cases h : c.source = c.target
  · rw [h] at hs ⊢
    rw [State.eng_setEng_self]
    exact hs
  · rw [State.eng_setEng_ne _ h]
    exact hs

/-- Settles O34: each clause is the step's own branch, behind which only an offer of Skink's follows. -/
theorem holdAndReturn : Obligations.HoldAndReturn := by
  unfold Obligations.HoldAndReturn
  refine ⟨?grant, ?back, ?test, ?copy, ?holdoff⟩
  case grant =>
    intro s e hrun hnone he
    refine ⟨s.fresh.holdMoves e Reg.SKINK_TAKEOVER_CNT 1, congrArg Host.Outcome.next (State.takeOver_grants hrun hnone he), ?_, ?_, ?_, ?_⟩
    · rw [State.holdMoves_skink]
    · rw [State.holdMoves_skink]
    · exact State.holdMoves_shown _ _ _ (by decide)
    · exact State.holdMoves_count s.fresh e 1 (by decide)
  case back =>
    intro s e he
    obtain ⟨hreq, hproved⟩ := State.holdMoves_eng s.fresh.releaseHold e Reg.SKINK_TAKEBACK_CNT 2
    refine ⟨s.fresh.releaseHold.holdMoves e Reg.SKINK_TAKEBACK_CNT 2, congrArg Host.Outcome.next (State.takeBack_grants he), ?_, hreq, hproved, ?_, ?_⟩
    · rw [State.holdMoves_skink]
    · exact State.holdMoves_shown _ _ _ (by decide)
    · exact (State.holdMoves_count s.fresh.releaseHold e 2 (by decide)).trans
        (congrArg (satAdd · 1) (s.fresh.reg_releaseHold _))
  case test =>
    intro s e hm hsvc hc ho
    have htest := State.returnTest_eq (s := s.fresh) hm hsvc hc ho
    refine ⟨⟨s.fresh.resyncs e, congrArg Host.Outcome.next (htest true), State.resyncs_ends s.fresh e⟩, fun hh => ?_⟩
    have hrec := s.fresh.failAgain_records e 11
    refine ⟨_, congrArg Host.Outcome.next (htest false), hrec.out, hrec.cause, hrec.count, ?_⟩
    exact (congrArg Skink.holder (State.failAgain_skink _ _ _)).trans_ne hh
  case copy =>
    intro s c hc hst
    have hgoes : ((s.fresh.copyClosed c).eng c.source).stopped = false := congrArg Engine.stopped (State.copyClosed_source _ _)
    refine ⟨?_, ?_⟩
    · have hp := State.copyDone_good (s := s.fresh) hc hst
      have htarget : (s.fresh.copyDone true).eng c.target = _ := (PartsBut.eng hp (e := c.target)).trans (State.eng_setEng_self _ _ _)
      refine ⟨s.fresh.copyDone true, rfl, ?_, ?_, ?_, ?_, ?_, ?_, ?_⟩
      · have hskink : (s.fresh.copyDone true).skink = { s.skink with copy := none } :=
          (hp .skink (by decide)).trans ((State.setEng_parts _ _ _ .skink (by decide)).trans (s.fresh.copyClosed_skink c))
        rw [hskink]
      · rw [htarget]
      · rw [htarget]
        rfl
      · rw [htarget, State.copyClosed_source]
        rfl
      · rw [htarget, State.copyClosed_source]
        rfl
      · rw [htarget, State.copyClosed_source]
        rfl
      · rw [PartsBut.eng hp (e := c.source)]
        exact State.copyTaken_source hgoes
    · have hrec := (s.fresh.copyClosed c).failAgain_records c.target 12
      refine ⟨_, congrArg Host.Outcome.next (State.copyDone_failed (s := s.fresh) hc hst), ?_, hrec.out, hrec.cause, ?_⟩
      · rw [State.failAgain_skink, State.copyClosed_skink]
      · by_cases h : c.source = c.target
        · rw [h]
          exact hrec.goes
        · rw [State.failAgain, State.offerStatus_eng, State.recordFailure_other _ h]
          exact hgoes
  case holdoff =>
    intro s e hm hsvc
    refine ⟨s.fresh.holdoffOver e, rfl, ?_⟩
    unfold State.holdoffOver
    rw [if_neg (by rw [State.sourcesRun, show s.fresh.mgmt = Node.run from hm, show (s.fresh.eng e).svc = Svc.proving from hsvc]; decide)]
    dsimp only
    rw [State.offerStatus_eng, State.offerStatus_eng, State.offerStatus_skink, State.eng_updEng_self, State.eng_updEng_other]
    exact ⟨rfl, rfl, State.updEng_parts _ _ _ .skink (by decide)⟩

end Sys2Proof.Machine

/-! PROOFS. An engine in service fails: whatever else its failure ends, it is out of service and without the hold (R297, R301, R304, R316). -/

namespace Sys2Proof.Machine

theorem FailureRecorded.failed {s t : State} {e : EngineId} {cause : Nat} (h : FailureRecorded s t e cause) (hold : t.skink.holder ≠ some e) :
    EngineFailed s t e cause := ⟨h.out, h.cause, h.count, hold⟩

/-- What a failure keeps of an engine that is not named, a failed one among them. -/
theorem EngineFailed.kept {s t u : State} {e : EngineId} {cause : Nat} (h : EngineFailed s t e cause) (k : Kept [other e] t u) : EngineFailed s u e cause := by
  obtain ⟨hsvc, hcause⟩ := k.engine e (by simpa using ne_other e)
  refine ⟨?_, hcause.trans h.cause, (k.regs _ (by cases e <;> decide)).trans h.count, ?_⟩
  · rw [State.serves, Engine.serving, hsvc]
    exact h.out
  · rcases k.holder with hk | hk
    · exact hk.trans_ne h.hold
    · rw [hk]
      exact nofun

/-- The copy that a failing engine takes part in ends: nothing is left to fail it again. -/
theorem EngineFailed.abandons {s t : State} {e : EngineId} {cause : Nat} (h : EngineFailed s t e cause) :
    EngineFailed s (t.abandonCopy e) e cause ∧ (t.abandonCopy e).Failed [other e] := by
  suffices hs : EngineFailed s (t.abandonCopy e) e cause ∧ (t.abandonCopy e).isTarget e = false by
    refine ⟨hs.1, fun f hf => ?_⟩
    obtain rfl : f = e := Decidable.byContradiction fun hne => hf (List.mem_singleton.2 (eq_other_of_ne hne))
    exact ⟨hs.1.out, hs.2⟩
  unfold State.abandonCopy
  split
  · next hc => exact ⟨h, by rw [State.isTarget, hc]; rfl⟩
  · next c hc =>
    split
    · next hsrc =>
      refine ⟨⟨?_, ?_, ?_, ?_⟩, rfl⟩
      · by_cases ht : e = c.target
        · rw [ht]
          exact congrArg Engine.serving (State.eng_updEng_self _ _ _)
        · exact (State.serves_congr (State.eng_updEng_ne _ ht _)).trans h.out
      · by_cases ht : e = c.target
        · rw [← h.cause, ht]
          exact (congrArg Engine.lastCause (State.eng_updEng_self _ _ _)).trans rfl
        · exact (congrArg Engine.lastCause (State.eng_updEng_ne _ ht _)).trans h.cause
      · exact (regsBut_updEng t _ _ [] _ (by simp)).trans h.count
      · exact (congrArg Skink.holder (State.updEng_parts t _ _ .skink (by decide))).trans_ne h.hold
    · next hsrc =>
      have hsame : (t.updEng c.source (fun x => { x with stopped := false })).eng e = t.eng e := State.eng_updEng_ne _ (Ne.symm hsrc) _
      split
      · refine ⟨⟨(State.serves_congr hsame).trans h.out, (congrArg Engine.lastCause hsame).trans h.cause, ?_, ?_⟩, rfl⟩
        · exact (regsBut_updEng t _ _ [] _ (by simp)).trans h.count
        · exact (congrArg Skink.holder (State.updEng_parts t _ _ .skink (by decide))).trans_ne h.hold
      · next ht => exact ⟨h, by rw [State.isTarget, hc]; simpa using ht⟩

/-- The engine's hold, its commands and its snapshot go before its copy. -/
theorem State.leaveService_fails {s t : State} {e : EngineId} {cause : Nat} (h : FailureRecorded s t e cause) :
    EngineFailed s (t.leaveService e cause) e cause ∧ (t.leaveService e cause).Failed [other e] := by
  unfold State.leaveService
  extract_lets source u v w
  have hu : EngineFailed s u e cause := by
    by_cases hh : t.skink.holder = some e
    · have k : Kept [other e] t u := Kept.ite _ (kept_releaseHold _ _) (.refl _ _)
      obtain ⟨hsvc, hcause⟩ := k.engine e (by simpa using ne_other e)
      refine ⟨?_, hcause.trans h.cause, (k.regs _ (by cases e <;> decide)).trans h.count, ?_⟩
      · rw [State.serves, Engine.serving, hsvc]
        exact h.out
      · rw [show u = t.releaseHold from if_pos hh, State.holder_releaseHold]
        exact nofun
    · rw [show u = t from if_neg hh]
      exact h.failed hh
  obtain ⟨hv, hvf⟩ := (hu.kept ((kept_dropWaiter _ _ _).trans (kept_snapRetry _ _ _ _))).abandons
  have hw : Kept [other e] v w := kept_offerStatus _ _ _
  have hend := hw.trans (Kept.ite (c := (w.servers.isEmpty && w.running) = true) _ (kept_haltNode _ _ 3 cause) (.refl _ _))
  exact ⟨hv.kept hend, hend.failed hvf⟩

/-- An engine in service that fails is out of service and without the hold (R301). -/
theorem State.failEngine_fails {s : State} {e : EngineId} (hs : s.serves e = true) (cause : Nat) : EngineFailed s (s.failEngine e cause) e cause := by
  unfold State.failEngine State.failCore
  rw [if_pos hs]
  obtain ⟨hfail, hout⟩ := State.leaveService_fails (s.recordFailure_records e cause)
  exact hfail.kept (kept_release hout)

end Sys2Proof.Machine

/-! PROOFS. O36 ExternalPair: the claim of a shared output, its ties and its release, and the pair's inputs (R319-R322). -/

namespace Sys2Proof.Machine

/-! ## The shared outputs of a bank -/

/-- The image of a bank without its shared outputs. -/
def State.unshared (s : State) (b : Nat) : U16 := (s.bank b).commanded &&& ~~~bankMask b s.sharedOut

theorem State.unshared_bit (s : State) {b i : Nat} (hi : i < 16) (h : s.sharedOut (16 * b + i) = true) : bitAt (s.unshared b) i = false := by
  have hm : (bankMask b s.sharedOut).getLsbD i = true := (bitAt_maskOf _ _ _ hi).trans h
  change (s.unshared b).getLsbD i = false
  rw [State.unshared, BitVec.getLsbD_and, BitVec.getLsbD_not, hm]
  simp

/-- What a frame of another level leaves alone. -/
structure SharedKept (s t : State) : Prop where
  shared : t.sharedOut = s.sharedOut
  stalled : ∀ n, t.stalled n = s.stalled n

theorem SharedKept.refl (s : State) : SharedKept s s := ⟨rfl, fun _ => rfl⟩

theorem SharedKept.trans {s t u : State} (h : SharedKept s t) (k : SharedKept t u) : SharedKept s u :=
  ⟨k.shared.trans h.shared, fun n => (k.stalled n).trans (h.stalled n)⟩

theorem SharedKept.of_regs {s t : State} (hcfg : ∀ n, t.reg (Reg.DIO_CH_CFG n) = s.reg (Reg.DIO_CH_CFG n))
    (hlo : t.reg Reg.PAIR_MASK_LO = s.reg Reg.PAIR_MASK_LO) (hhi : t.reg Reg.PAIR_MASK_HI = s.reg Reg.PAIR_MASK_HI)
    (hst : ∀ n, t.stalled n = s.stalled n) : SharedKept s t :=
  ⟨funext fun n => by rw [State.sharedOut, State.dioMode, State.rfld_of_reg (hcfg n), State.pair_of_regs hlo hhi]; rfl, hst⟩

theorem SharedKept.updBank (s : State) (b : Nat) (f : Bank → Bank) : SharedKept s (s.updBank b f) :=
  .of_regs (fun _ => s.reg_updBank b f _) (s.reg_updBank b f _) (s.reg_updBank b f _) fun n => s.stalled_updBank b n f

/-- A frame's registers are its bank's alone. -/
theorem bankCmd_ne {b : Nat} (hb : b < 4) : (∀ n, Reg.DIO_CH_CFG n ≠ Reg.DIO_BANK_CMD b) ∧ Reg.PAIR_MASK_LO ≠ Reg.DIO_BANK_CMD b
    ∧ Reg.PAIR_MASK_HI ≠ Reg.DIO_BANK_CMD b := by
  refine ⟨fun n => ?_, ?_, ?_⟩
  · show (0x18000 + 0x20 * n : Nat) ≠ 0x18810 + 0x40 * b
    omega
  · revert b
    decide
  · revert b
    decide

/-- A frame that is no refresh, before its levels reach the pins. -/
def State.framed (s : State) (b : Nat) (img : U16) : State :=
  ((s.emitOut (.dioFrame b img false)).setReg (Reg.DIO_BANK_CMD b) (img.zeroExtend 32)).updBank b (fun k => { k with commanded := img })

theorem State.framed_kept (s : State) {b : Nat} (hb : b < 4) (img : U16) : SharedKept s (s.framed b img) := by
  obtain ⟨hcfg, hlo, hhi⟩ := bankCmd_ne hb
  refine SharedKept.trans (.of_regs (fun n => ?_) ?_ ?_ fun n => ?_) (.updBank _ b _)
  · rw [State.reg_setReg, if_neg (hcfg n)]
    rfl
  · rw [State.reg_setReg, if_neg hlo]
    rfl
  · rw [State.reg_setReg, if_neg hhi]
    rfl
  · exact State.stalled_of_dio (State.setReg_dio _ _ _)

theorem State.framed_bank (s : State) {b : Nat} (hb : b < 4) (img : U16) : (s.framed b img).bank b = { s.bank b with commanded := img } :=
  State.bank_updBank_self _ hb _

theorem State.framed_bank_ne (s : State) {b c : Nat} (hb : b < 4) (hc : c < 4) (h : c ≠ b) (img : U16) : (s.framed b img).bank c = s.bank c :=
  State.bank_updBank_ne _ hb hc h _

theorem State.frameOf_eq (s : State) (b : Nat) (img : U16) : s.frameOf false b img = (s.framed b img).applyImage b := by
  unfold State.frameOf
  rfl

/-- The pins follow a bank's image and nothing else of it. -/
theorem State.applyImage_kept (s : State) {b : Nat} (hb : b < 4) : SharedKept s (s.applyImage b) ∧ ((s.applyImage b).bank b).commanded = (s.bank b).commanded
    ∧ ∀ c, c < 4 → c ≠ b → (s.applyImage b).bank c = s.bank c := by
  unfold State.applyImage
  split
  · refine ⟨.updBank _ _ _, ?_, fun c hc h => State.bank_updBank_ne _ hb hc h _⟩
    rw [State.bank_updBank_self _ hb]
  · exact ⟨.refl s, rfl, fun _ _ _ => rfl⟩

/-- The shared outputs of a bank are commanded low. -/
def State.BankOff (s : State) (b : Nat) : Prop := ∀ i, i < 16 → s.sharedOut (16 * b + i) = true → bitAt (s.bank b).commanded i = false

theorem State.BankOff.of_unshared {s t : State} {b : Nat} (hk : SharedKept s t) (h : (t.bank b).commanded = s.unshared b) : t.BankOff b := by
  intro i hi hs
  rw [h]
  exact s.unshared_bit hi (by rw [← hk.shared]; exact hs)

theorem State.BankOff.kept {s t : State} {b : Nat} (h : s.BankOff b) (hk : SharedKept s t) (hb : t.bank b = s.bank b) : t.BankOff b := by
  intro i hi hs
  rw [hb]
  exact h i hi (by rw [← hk.shared]; exact hs)

/-- One bank's shared outputs go off, outside RUN and REPLAY. -/
def State.bankOff (s : State) (b : Nat) : State :=
  if s.stalled (b / 2) || s.unshared b == (s.bank b).commanded then s else s.frameOf false b (s.unshared b)

theorem State.bankOff_off (s : State) {b : Nat} (hb : b < 4) : SharedKept s (s.bankOff b) ∧ (s.stalled (b / 2) = false → (s.bankOff b).BankOff b)
    ∧ ∀ c, c < 4 → c ≠ b → (s.bankOff b).bank c = s.bank c := by
  unfold State.bankOff
  split
  · next h =>
    refine ⟨.refl s, fun hst => ?_, fun _ _ _ => rfl⟩
    rw [hst, Bool.false_or, beq_iff_eq] at h
    exact .of_unshared (.refl s) h.symm
  · obtain ⟨hk, hcmd, hne⟩ := (s.framed b (s.unshared b)).applyImage_kept hb
    have hkept := (s.framed_kept hb (s.unshared b)).trans hk
    rw [State.frameOf_eq]
    refine ⟨hkept, fun _ => .of_unshared hkept ?_, fun c hc h => (hne c hc h).trans (s.framed_bank_ne hb hc h _)⟩
    rw [hcmd, State.framed_bank s hb]

theorem State.foldl_bankOff (l : List Nat) (hl : ∀ b ∈ l, b < 4) (s : State) : SharedKept s (l.foldl State.bankOff s)
    ∧ ∀ b, b < 4 → s.stalled (b / 2) = false → b ∈ l ∨ s.BankOff b → (l.foldl State.bankOff s).BankOff b := by
  induction l generalizing s with
  | nil => exact ⟨.refl s, fun b _ _ h => h.elim nofun id⟩
  | cons c l ih =>
    have hc := hl c List.mem_cons_self
    obtain ⟨hk, hoff, hne⟩ := s.bankOff_off hc
    obtain ⟨hkept, hall⟩ := ih (fun b hb => hl b (List.mem_cons_of_mem _ hb)) (s.bankOff c)
    refine ⟨hk.trans hkept, fun b hb hst h => hall b hb ((hk.stalled _).trans hst) ?_⟩
    by_cases hbc : b = c
    · subst hbc
      exact .inr (hoff hst)
    · refine (h.imp (fun hm => (List.mem_cons.1 hm).resolve_left hbc) fun ho => ho.kept hk (hne b hb hbc))

theorem State.sharedOff_off {s : State} (h : s.running = false) : s.sharedOff = (List.range 4).foldl State.bankOff s :=
  if_neg (by rw [h]; exact Bool.false_ne_true)

/-! ## Settling the statement -/

/-- The claimant may no longer drive its shared outputs. -/
def State.shareEnds (s : State) : State := s.updSkink (fun k => { k with sharing := false })

theorem State.pairRelease_eq {s : State} (hc : s.skink.claim = true) (he : s.pairEligible = false) :
    s.pairRelease = s.shareEnds.sharedOff.dropClaim :=
  if_neg (by rw [hc, he]; decide)

theorem mem_out_dropClaim (s : State) : Output.pin "INTLK_OUT_N" true ∈ s.dropClaim.out := List.mem_append_right _ (List.mem_singleton_self _)

/-- Settles O36: each step's own branch, and bank by bank the image without the shared outputs. -/
theorem externalPair : Obligations.ExternalPair := by
  unfold Obligations.ExternalPair
  refine ⟨?intlk, ?claim, ?release, ?sense⟩
  case intlk =>
    intro s high
    refine ⟨s.fresh.intlkIn high, rfl, ?_⟩
    unfold State.intlkIn
    dsimp only
    split
    · next h =>
      have hskink : ∀ u : State, ((u.dropClaim.bump Reg.PAIR_TIE_CNT).raise Reg.SKINK_EVT 0x40).skink = { u.skink with claim := false, sharing := false } :=
        fun u => same_of_foot [.regs] (fun _ _ => raise_foot _ _ _ (bump_foot _ _ (.refl u.dropClaim))) .skink
      refine ⟨(congrArg Skink.intlkInHigh (hskink _)).trans rfl, fun _ _ _ _ => ⟨congrArg Skink.claim (hskink _), ?_, ?_⟩⟩
      · exact (regsBut_raise _ _ _ _ (by decide)).trans (State.reg_bump_self _ _)
      · exact (State.raise_out _ _ _).subset (mem_out_dropClaim _)
    · next h =>
      refine ⟨rfl, fun hlow hc hs hid => absurd ?_ h⟩
      subst hlow
      simp only [Bool.not_false, Bool.true_and, Bool.and_eq_true, Bool.not_eq_true', decide_eq_true_eq]
      exact ⟨⟨hc, hs⟩, hid⟩
  case claim =>
    intro s hp hc he hi
    have hgo : ¬ (!s.fresh.paired || s.fresh.skink.claim || !s.fresh.pairEligible || !s.fresh.skink.intlkInHigh) = true := by
      rw [show s.fresh.paired = true from hp, show s.fresh.skink.claim = false from hc, show s.fresh.pairEligible = true from he,
        show s.fresh.skink.intlkInHigh = true from hi]
      decide
    refine ⟨fun hid => ?_, fun hid => ?_⟩
    · exact ⟨_, congrArg Host.Outcome.next ((if_neg hgo).trans (if_neg hid)), rfl, State.reg_bump_self _ _, rfl⟩
    · refine ⟨_, congrArg Host.Outcome.next ((if_neg hgo).trans (if_pos hid)), same_of_foot [.regs] (fun _ _ => raise_foot _ _ _ (.refl s.fresh)) .skink, ?_⟩
      exact State.rbit_raise_self _ _ _ _ (by decide) (by decide)
  case release =>
    intro s hc he
    refine ⟨_, congrArg Host.Outcome.next (State.pairRelease_eq (s := s.fresh) hc he), rfl, rfl, mem_out_dropClaim _, fun hr n hn hs hst => ?_⟩
    change bitAt (s.fresh.shareEnds.sharedOff.bank (n / 16)).commanded (n % 16) = false
    rw [State.sharedOff_off (s := s.fresh.shareEnds) hr]
    obtain ⟨hk, hoff⟩ := State.foldl_bankOff (List.range 4) (fun b hb => List.mem_range.1 hb) s.fresh.shareEnds
    have hn' : 16 * (n / 16) + n % 16 = n := by omega
    refine hoff (n / 16) (by omega) ?_ (.inl (List.mem_range.2 (by omega))) (n % 16) (by omega) ?_
    · rw [Nat.div_div_eq_div_mul]
      exact hst
    · rw [hk.shared, hn']
      exact hs
  case sense =>
    intro s high
    refine ⟨s.fresh.pairSense high, rfl, ?_⟩
    unfold State.pairSense
    dsimp only
    split
    · refine ⟨same_of_foot [.regs] (fun _ _ => pairLost_foot _ (.refl (s.fresh.updSkink _))) .skink, fun _ _ _ => ⟨?_, ?_⟩⟩
      · exact (regsBut_raise _ _ _ _ (by decide)).trans (State.reg_bump_self _ _)
      · exact State.rbit_raise_self _ _ _ _ (by decide) (by decide)
    · next h =>
      refine ⟨rfl, fun hhigh hlow hen => absurd ?_ h⟩
      subst hhigh
      simp only [Bool.true_and, Bool.and_eq_true, Bool.not_eq_true']
      exact ⟨hlow, hen⟩

end Sys2Proof.Machine

/-! PROOFS. O4 DoorbellsAndDescriptors: the doorbell page's reads, the indices that they bring, and the descriptors (R105, R107, R111, R137). -/

namespace Sys2Proof.Machine

/-! ## What an index of another ring leaves of a ring -/

/-- A ring's own registers that the node goes by. -/
def ringOwn (n : Nat) : List Off := [Reg.RING_STATUS n, Reg.RING_NODE_IDX n, Reg.RING_SIZE n]

/-- A ring as it was: the index that the host's page gave, the index that the node goes by, and the link. A node-to-host ring keeps its own registers, and the node its state, while no event waits to be released: a release may halt the node, and a halt empties the receivers of the CAN channels into their rings. -/
structure RingKept (n : Nat) (s t : State) : Prop where
  shown : t.reg (Reg.RING_HOST_IDX n) = s.reg (Reg.RING_HOST_IDX n)
  hostIdx : t.hostIdx n = s.hostIdx n
  link : t.hif.linkUp = s.hif.linkUp
  own : isHostToNode n = true ∨ s.outlet.merge = [] → ∀ o ∈ ringOwn n, t.reg o = s.reg o
  quiet : s.outlet.merge = [] → t.outlet.merge = [] ∧ t.mgmt = s.mgmt

theorem RingKept.refl (n : Nat) (s : State) : RingKept n s s := ⟨rfl, rfl, rfl, fun _ _ _ => rfl, fun h => ⟨h, rfl⟩⟩

theorem RingKept.trans {n : Nat} {s t u : State} (h : RingKept n s t) (k : RingKept n t u) : RingKept n s u := by
  refine ⟨k.shown.trans h.shown, k.hostIdx.trans h.hostIdx, k.link.trans h.link, fun hc o ho => ?_, fun hq => ?_⟩
  · exact (k.own (hc.imp_right fun hq => (h.quiet hq).1) o ho).trans (h.own hc o ho)
  · obtain ⟨hm, hs⟩ := h.quiet hq
    obtain ⟨hm', hs'⟩ := k.quiet hm
    exact ⟨hm', hs'.trans hs⟩

/-- Registers outside the rings' block belong to no ring. -/
theorem outside_rings {n : Nat} (hn : n < 31) {o : Off} (h : o < 0x1000 ∨ 0x17c0 ≤ o) : o ∉ Reg.RING_HOST_IDX n :: ringOwn n := by
  simp only [ringOwn, List.mem_cons, List.not_mem_nil, or_false, not_or, Reg.RING_HOST_IDX, Reg.RING_STATUS, Reg.RING_NODE_IDX, Reg.RING_SIZE, Off]
    at h ⊢
  omega

/-- A ring's registers are not another's. -/
theorem other_ring {n m : Nat} (h : m ≠ n) :
    ∀ o ∈ [Reg.RING_HOST_IDX m, Reg.RING_STATUS m, Reg.RING_ERR_CNT m], o ∉ Reg.RING_HOST_IDX n :: ringOwn n := by
  simp only [ringOwn, List.mem_cons, List.not_mem_nil, or_false, not_or, forall_eq_or_imp, forall_eq, Reg.RING_HOST_IDX, Reg.RING_STATUS,
    Reg.RING_NODE_IDX, Reg.RING_SIZE, Reg.RING_ERR_CNT, Off]
  omega

/-- Registers of no ring change, of HIF neither the indices nor the link, and no event comes to wait. -/
theorem RingKept.of_fields {n : Nat} {s t : State} {os : List Off} (hr : RegsBut s t os) (hos : ∀ o ∈ os, o ∉ Reg.RING_HOST_IDX n :: ringOwn n)
    (hm : Reg.MGMT_STATE ∉ os) (hidx : t.hif.hostIdx = s.hif.hostIdx) (hl : t.hif.linkUp = s.hif.linkUp) (ho : t.outlet.merge = s.outlet.merge) :
    RingKept n s t :=
  ⟨hr _ fun hin => hos _ hin List.mem_cons_self, congrArg (Sparse.get 0 · n) hidx, hl,
    fun _ o h => hr o fun hin => hos o hin (List.mem_cons_of_mem _ h), fun hq => ⟨ho.trans hq, State.mgmt_congr (hr _ hm)⟩⟩

/-- What a release writes belongs to no host-to-node ring and shows no index. -/
theorem release_rings : ∀ n < 31, Reg.RING_HOST_IDX n ∉ releaseRegsOf [.A, .B]
    ∧ (isHostToNode n = true → ∀ o ∈ ringOwn n, o ∉ releaseRegsOf [.A, .B]) := by decide +kernel

theorem State.release_quiet {s : State} (h : s.outlet.merge = []) : s.release = s := by
  unfold State.release
  rw [h]
  rfl

theorem State.release_ringKept {n : Nat} (hn : n < 31) (s : State) : RingKept n s s.release := by
  have k := kept_release s.failed_all
  obtain ⟨hshown, hown⟩ := release_rings n hn
  obtain ⟨r, d, u, hhif⟩ := k.hif
  refine ⟨k.regs _ hshown, ?_, ?_, fun hc => ?_, fun hq => ?_⟩
  · rw [State.hostIdx, hhif]
    rfl
  · rw [hhif]
  · rcases hc with hn' | hq
    · exact fun o ho => k.regs o (hown hn' o ho)
    · rw [State.release_quiet hq]
      exact fun _ _ => rfl
  · rw [State.release_quiet hq]
    exact ⟨hq, rfl⟩

theorem State.freed_ringKept {n : Nat} (hn : n < 31) (s : State) (m k : Nat) : RingKept n s (s.freed m k) := by
  unfold State.freed
  split
  · exact .of_fields (.of_regs rfl rfl []) nofun nofun rfl rfl rfl
  · split
    · unfold State.eventsConsumed
      refine .trans ?_ (State.release_ringKept hn _)
      exact .of_fields (.of_regs rfl rfl []) nofun nofun rfl rfl rfl
    · split
      · exact .of_fields (.of_regs rfl rfl []) nofun nofun rfl rfl rfl
      · exact .refl n s

theorem regsBut_ringError (s : State) (m code : Nat) :
    RegsBut s (s.ringError m code) [Reg.RING_STATUS m, Reg.RING_ERR_CNT m, Reg.HIF_EVT, Reg.MSIX_PBA 0] := by
  unfold State.ringError
  split
  · exact .refl s _
  · exact ((((regsBut_setRegBit s _ _ _).mono (by simp)).trans ((regsBut_setRegFld _ _ _ _ _).mono (by simp))).trans
      ((regsBut_bump _ _).mono (by simp))).trans ((regsBut_raise _ _ _).mono (by simp))

theorem State.ringError_parts (s : State) (m code : Nat) : PartsBut s (s.ringError m code) [.regs] := fun z hz =>
  same_of_foot [.regs] (fun _ _ => ringError_foot _ _ _ (.refl s)) z hz

theorem ringError_outside (m : Nat) : Reg.MGMT_STATE ∉ [Reg.RING_STATUS m, Reg.RING_ERR_CNT m, Reg.HIF_EVT, Reg.MSIX_PBA 0] := by
  simp only [List.mem_cons, List.not_mem_nil, or_false, not_or, Reg.RING_STATUS, Reg.RING_ERR_CNT, Reg.MGMT_STATE, Reg.HIF_EVT, Reg.MSIX_PBA, Off]
  omega

theorem hostIdx_outside (m : Nat) : Reg.MGMT_STATE ∉ [Reg.RING_HOST_IDX m] := by
  simp only [List.mem_singleton, Reg.RING_HOST_IDX, Reg.MGMT_STATE, Off]
  omega

theorem State.ringError_ringKept {n m : Nat} (hn : n < 31) (h : m ≠ n) (s : State) (code : Nat) : RingKept n s (s.ringError m code) := by
  have hp := s.ringError_parts m code
  refine .of_fields (regsBut_ringError s m code) (fun o ho => ?_) (ringError_outside m) (congrArg Hif.hostIdx (hp .hif (by decide)))
    (congrArg Hif.linkUp (hp .hif (by decide))) (congrArg Outlet.merge (hp .outlet (by decide)))
  simp only [List.mem_cons, List.not_mem_nil, or_false] at ho
  rcases ho with rfl | rfl | rfl | rfl
  · exact other_ring h _ (by simp)
  · exact other_ring h _ (by simp)
  · exact outside_rings hn (by decide)
  · exact outside_rings hn (by decide)

theorem State.setHostIdx_ringKept {n m : Nat} (h : m ≠ n) (s : State) (i : U32) : RingKept n s (s.setHostIdx m i) :=
  ⟨rfl, Sparse.get_set_ne _ _ (Ne.symm h), rfl, fun _ _ _ => rfl, fun hq => ⟨hq, rfl⟩⟩

/-- Another ring's doorbell entry. -/
theorem State.doorbell_ringKept {n m : Nat} (hn : n < 31) (h : m ≠ n) (s : State) (i : U32) : RingKept n s (s.doorbell m i) := by
  unfold State.doorbell
  extract_lets u node ahead k stale
  have hu : RingKept n s u := .of_fields (regsBut_setReg s (Reg.RING_HOST_IDX m) i)
    (fun o ho => by rw [List.mem_singleton.1 ho]; exact other_ring h _ (by simp)) (hostIdx_outside m) rfl rfl rfl
  refine hu.trans ?_
  split
  · exact .refl n u
  · split
    · split
      · exact u.ringError_ringKept hn h 1
      · exact u.setHostIdx_ringKept h i
    · split
      · exact u.ringError_ringKept hn h 2
      · exact (u.setHostIdx_ringKept h i).trans ((u.setHostIdx m i).freed_ringKept hn m _)

/-- A ring's own doorbell entry is one of those of its page. -/
theorem State.foldl_doorbell {n : Nat} (hn : n < 31) (f : Nat → U32) (l : List Nat) (hl : l.Nodup) (h : n ∈ l) (s : State) :
    ∃ u, RingKept n s u ∧ RingKept n (u.doorbell n (f n)) (l.foldl (fun s n => s.doorbell n (f n)) s) := by
  have hrest : ∀ (l : List Nat), n ∉ l → ∀ s : State, RingKept n s (l.foldl (fun s n => s.doorbell n (f n)) s) := by
    intro l
    induction l with
    | nil => exact fun _ s => .refl n s
    | cons m l ih =>
      intro hm s
      exact (s.doorbell_ringKept hn (fun he => hm (he ▸ List.mem_cons_self)) _).trans (ih (fun hin => hm (List.mem_cons_of_mem _ hin)) _)
  induction l generalizing s with
  | nil => exact absurd h nofun
  | cons m l ih =>
    obtain ⟨hm, hnd⟩ := List.nodup_cons.1 hl
    by_cases he : m = n
    · subst he
      exact ⟨s, .refl m s, hrest l hm _⟩
    · obtain ⟨u, hu, hend⟩ := ih hnd ((List.mem_cons.1 h).resolve_left (Ne.symm he)) (s.doorbell m (f m))
      exact ⟨u, (s.doorbell_ringKept hn he _).trans hu, hend⟩

/-! ## The doorbell page arrives (R105, R107) -/

theorem State.fetchAll_ringKept (n : Nat) (s : State) : RingKept n s s.fetchAll := by
  have hone : ∀ (m : Nat) (s : State), RingKept n s (s.fetchMore m) := by
    intro m s
    obtain ⟨f, c, hf⟩ := s.fetchMore_hif m
    exact .of_fields (regsBut_fetchMore s m []) nofun nofun (by rw [hf]) (by rw [hf])
      (congrArg Outlet.merge (same_of_foot [.hif] (fun _ _ => fetchMore_foot _ _ (.refl s)) .outlet))
  unfold State.fetchAll
  induction List.range 31 generalizing s with
  | nil => exact .refl n s
  | cons m l ih => exact (hone m s).trans (ih _)

theorem State.dbRead_ringKept {n : Nat} (hn : n < 31) (s : State) : RingKept n s s.dbRead := by
  unfold State.dbRead
  split
  · exact .refl n s
  · exact .of_fields (os := [Reg.HIF_DB_READ_CNT]) (regsBut_bump (s.updHif (fun h => { h with dbOut := true })) _)
      (fun o ho => by rw [List.mem_singleton.1 ho]; exact outside_rings hn (by decide)) (by decide) rfl rfl rfl

/-- The read that was outstanding has ended, and its time is kept. -/
def State.dbEnded (s : State) (ns : Nat) : State := (s.updHif (fun h => { h with dbOut := false })).recordMax Reg.HIF_DB_LAT_MAX ns

theorem State.dbEnded_same (s : State) (ns : Nat) : RegsBut s (s.dbEnded ns) [Reg.HIF_DB_LAT_MAX]
    ∧ (s.dbEnded ns).hif = { s.hif with dbOut := false } ∧ (s.dbEnded ns).outlet = s.outlet := by
  have hp : PartsBut (s.updHif (fun h => { h with dbOut := false })) (s.dbEnded ns) [.regs] := fun z hz =>
    same_of_foot [.regs] (fun _ _ => recordMax_foot _ _ _ (.refl _)) z hz
  exact ⟨regsBut_recordMax (s.updHif (fun h => { h with dbOut := false })) _ _, hp .hif (by decide), hp .outlet (by decide)⟩

/-- A good doorbell read gives each ring its entry; what happens before and behind it leaves the ring as it was. -/
theorem State.doorbells_good {s : State} {rsp : DoorbellRsp} (ho : s.hif.dbOut = true) (hok : rsp.ok = true) (hp : s.pagesOn = true) {n : Nat}
    (hn : n < 31) : ∃ u, RingKept n s u ∧ RingKept n (u.doorbell n (rsp.idx.getD n 0)) (s.doorbells rsp) := by
  unfold State.doorbells
  rw [if_neg (by rw [ho]; decide)]
  extract_lets u v
  obtain ⟨hregs, hhif, hout⟩ := s.dbEnded_same rsp.latNs
  have hu : RingKept n s u := .of_fields hregs (fun o ho => by rw [List.mem_singleton.1 ho]; exact outside_rings hn (by decide)) (by decide)
    (by rw [show u.hif = _ from hhif]) (by rw [show u.hif = _ from hhif]) (congrArg Outlet.merge hout)
  have hon : u.pagesOn = true := (State.rbit_of_reg (hregs _ (by decide)) 0).trans hp
  have hv : v = ((List.range 31).foldl (fun s n => s.doorbell n (rsp.idx.getD n 0)) u).fetchAll := by
    show (if _ then _ else _) = _
    rw [if_neg (by rw [hok]; decide), if_neg (by rw [hon]; decide)]
  obtain ⟨w, hw, hend⟩ := State.foldl_doorbell hn (fun n => rsp.idx.getD n 0) (List.range 31) List.nodup_range (List.mem_range.2 hn) u
  refine ⟨w, hu.trans hw, hend.trans ?_⟩
  rw [hv]
  refine (State.fetchAll_ringKept n _).trans ?_
  generalize State.fetchAll _ = x
  split
  · refine .trans ?_ (State.dbRead_ringKept hn _)
    exact .of_fields (.of_regs rfl rfl []) nofun nofun rfl rfl rfl
  · exact .refl n x

/-! ## A ring's own entry (R107, R111) -/

section

variable {u : State} {n : Nat} {h : U32}

theorem ring_shown_error (n : Nat) : Reg.RING_HOST_IDX n ∉ [Reg.RING_STATUS n, Reg.RING_ERR_CNT n, Reg.HIF_EVT, Reg.MSIX_PBA 0] := by
  simp only [List.mem_cons, List.not_mem_nil, or_false, not_or, Reg.RING_STATUS, Reg.RING_ERR_CNT, Reg.RING_HOST_IDX, Reg.HIF_EVT, Reg.MSIX_PBA, Off]
  omega

theorem node_outside (n : Nat) : Reg.RING_NODE_IDX n ∉ [Reg.RING_STATUS n, Reg.RING_ERR_CNT n, Reg.HIF_EVT, Reg.MSIX_PBA 0] := by
  simp only [List.mem_cons, List.not_mem_nil, or_false, not_or, Reg.RING_STATUS, Reg.RING_ERR_CNT, Reg.RING_NODE_IDX, Reg.HIF_EVT, Reg.MSIX_PBA, Off]
  omega

theorem State.doorbell_shown (hn : n < 31) (u : State) (h : U32) : (u.doorbell n h).reg (Reg.RING_HOST_IDX n) = h := by
  unfold State.doorbell
  extract_lets v node ahead k stale
  have hv : v.reg (Reg.RING_HOST_IDX n) = h := (State.reg_setReg _ _ _ _).trans (if_pos rfl)
  have herr : ∀ code, (v.ringError n code).reg (Reg.RING_HOST_IDX n) = h := fun code =>
    (regsBut_ringError v n code _ (ring_shown_error n)).trans hv
  split
  · exact hv
  · split
    · split
      · exact herr 1
      · exact hv
    · split
      · exact herr 2
      · exact ((v.setHostIdx n h).freed_ringKept hn n _).shown.trans hv

/-- The entry as it shows, before the node goes by it. -/
def State.entryShown (u : State) (n : Nat) (h : U32) : State := u.setReg (Reg.RING_HOST_IDX n) h

theorem State.entryShown_own (u : State) (n : Nat) (h : U32) : ∀ o ∈ ringOwn n, (u.entryShown n h).reg o = u.reg o := by
  intro o ho
  refine (State.reg_setReg _ _ _ _).trans (if_neg fun he => ?_)
  subst he
  simp only [ringOwn, List.mem_cons, List.not_mem_nil, or_false, Reg.RING_HOST_IDX, Reg.RING_STATUS, Reg.RING_NODE_IDX, Reg.RING_SIZE, Off] at ho
  omega

theorem RingKept.status {s t : State} (h : RingKept n s t) (hc : isHostToNode n = true ∨ s.outlet.merge = []) :
    t.reg (Reg.RING_STATUS n) = s.reg (Reg.RING_STATUS n) ∧ t.reg (Reg.RING_NODE_IDX n) = s.reg (Reg.RING_NODE_IDX n)
      ∧ t.ringActive n = s.ringActive n ∧ t.ringSize n = s.ringSize n := by
  have hst := h.own hc (Reg.RING_STATUS n) (by simp [ringOwn])
  refine ⟨hst, h.own hc _ (by simp [ringOwn]), ?_, ?_⟩
  · rw [State.ringActive, State.rbit_of_reg hst, State.rbit_of_reg hst]
    rfl
  · rw [State.ringSize, State.rfld_of_reg (h.own hc (Reg.RING_SIZE n) (by simp [ringOwn]))]
    rfl

theorem State.entryShown_status (u : State) (n : Nat) (h : U32) : (u.entryShown n h).reg (Reg.RING_NODE_IDX n) = u.reg (Reg.RING_NODE_IDX n)
    ∧ (u.entryShown n h).ringActive n = u.ringActive n ∧ (u.entryShown n h).ringSize n = u.ringSize n := by
  have hst := u.entryShown_own n h (Reg.RING_STATUS n) (by simp [ringOwn])
  refine ⟨u.entryShown_own n h _ (by simp [ringOwn]), ?_, ?_⟩
  · rw [State.ringActive, State.rbit_of_reg hst, State.rbit_of_reg hst]
    rfl
  · rw [State.ringSize, State.rfld_of_reg (u.entryShown_own n h (Reg.RING_SIZE n) (by simp [ringOwn]))]
    rfl

theorem State.ringActive_status (ha : u.ringActive n = true) : u.rbit (Reg.RING_STATUS n) 2 = false := by
  rw [State.ringActive, Bool.and_eq_true, Bool.not_eq_true'] at ha
  exact ha.2

theorem State.doorbell_within (hd : isHostToNode n = true) (ha : u.ringActive n = true) (hle : (h - u.reg (Reg.RING_NODE_IDX n)).toNat ≤ u.ringSize n) :
    u.doorbell n h = (u.entryShown n h).setHostIdx n h := by
  obtain ⟨hnode, hact, hsize⟩ := u.entryShown_status n h
  unfold State.doorbell
  change (if !(u.entryShown n h).ringActive n then _ else _) = _
  rw [if_neg (by rw [hact, ha]; decide)]
  change (if isHostToNode n then if (u.entryShown n h).ringSize n < (h - (u.entryShown n h).reg (Reg.RING_NODE_IDX n)).toNat then _ else _ else _) = _
  rw [if_pos hd, hsize, hnode, if_neg (Nat.not_lt.2 hle)]
  rfl

theorem State.doorbell_beyond (hd : isHostToNode n = true) (ha : u.ringActive n = true) (hlt : u.ringSize n < (h - u.reg (Reg.RING_NODE_IDX n)).toNat) :
    u.doorbell n h = (u.entryShown n h).ringError n 1 := by
  obtain ⟨hnode, hact, hsize⟩ := u.entryShown_status n h
  unfold State.doorbell
  change (if !(u.entryShown n h).ringActive n then _ else _) = _
  rw [if_neg (by rw [hact, ha]; decide)]
  change (if isHostToNode n then if (u.entryShown n h).ringSize n < (h - (u.entryShown n h).reg (Reg.RING_NODE_IDX n)).toNat then _ else _ else _) = _
  rw [if_pos hd, hsize, hnode, if_pos hlt]
  rfl

theorem State.doorbell_ahead (hd : isHostToNode n = false) (ha : u.ringActive n = true) (h1 : 1 ≤ (h - u.reg (Reg.RING_NODE_IDX n)).toNat)
    (h2 : (h - u.reg (Reg.RING_NODE_IDX n)).toNat ≤ 2 ^ 31) : u.doorbell n h = (u.entryShown n h).ringError n 2 := by
  obtain ⟨hnode, hact, -⟩ := u.entryShown_status n h
  unfold State.doorbell
  change (if !(u.entryShown n h).ringActive n then _ else _) = _
  rw [if_neg (by rw [hact, ha]; decide)]
  dsimp only
  rw [if_neg (by rw [hd]; decide)]
  refine if_pos ?_
  change (decide (1 ≤ (h - (u.entryShown n h).reg (Reg.RING_NODE_IDX n)).toNat) && decide ((h - (u.entryShown n h).reg (Reg.RING_NODE_IDX n)).toNat ≤ 2 ^ 31)) = true
  rw [hnode, decide_eq_true h1, decide_eq_true h2]
  rfl

theorem State.doorbell_behind (hd : isHostToNode n = false) (ha : u.ringActive n = true)
    (hb : h = u.reg (Reg.RING_NODE_IDX n) ∨ 2 ^ 31 < (h - u.reg (Reg.RING_NODE_IDX n)).toNat) :
    ∃ k, u.doorbell n h = ((u.entryShown n h).setHostIdx n h).freed n k := by
  obtain ⟨hnode, hact, -⟩ := u.entryShown_status n h
  unfold State.doorbell
  change ∃ k, (if !(u.entryShown n h).ringActive n then _ else _) = _
  rw [if_neg (by rw [hact, ha]; decide)]
  dsimp only
  rw [if_neg (by rw [hd]; decide)]
  refine ⟨_, if_neg ?_⟩
  change ¬ (decide (1 ≤ (h - (u.entryShown n h).reg (Reg.RING_NODE_IDX n)).toNat) && decide ((h - (u.entryShown n h).reg (Reg.RING_NODE_IDX n)).toNat ≤ 2 ^ 31)) = true
  rw [hnode, Bool.and_eq_true, decide_eq_true_eq, decide_eq_true_eq]
  rcases hb with rfl | hb
  · rw [BitVec.sub_self]
    exact fun hc => absurd hc.1 (by decide)
  · exact fun hc => absurd hc.2 (Nat.not_le.2 hb)

/-- A ring in ERROR goes by no new index. -/
theorem State.ringError_hostIdx (w : State) (n code : Nat) : (w.ringError n code).hostIdx n = w.hostIdx n :=
  congrArg (fun x : Hif => Sparse.get 0 x.hostIdx n) (w.ringError_parts n code .hif (by decide))

end

/-! ## Settling the statement -/

/-- Settles O4: each ring's entry is judged on the ring as it was, for no other ring's entry touches it. -/
theorem doorbellsAndDescriptors : Obligations.DoorbellsAndDescriptors := by
  unfold Obligations.DoorbellsAndDescriptors
  refine ⟨⟨?kick, ?again, ?poll⟩, ?failed, ?good, ?credit, ?arrives, ?fails⟩
  case kick =>
    intro s v hm hp hl ho
    have hon : (s.fresh.bump Reg.HIF_KICK_CNT).pagesOn = true := (State.rbit_of_reg (regsBut_bump s.fresh _ _ (by decide)) 0).trans hp
    refine ⟨_, congrArg Host.Outcome.next ((if_neg (Nat.not_lt.2 hm)).trans ((if_neg ?_).trans (if_neg ?_))), rfl, rfl, ?_, ?_⟩
    · rw [show (s.fresh.bump Reg.HIF_KICK_CNT).hif.dbOut = false from ho]
      exact nofun
    · rw [hon, show (s.fresh.bump Reg.HIF_KICK_CNT).hif.linkUp = true from hl, show (s.fresh.bump Reg.HIF_KICK_CNT).hif.dbOut = false from ho]
      decide
    · exact (regsBut_bump ((s.fresh.bump Reg.HIF_KICK_CNT).updHif _) _ _ (by decide)).trans (State.reg_bump_self s.fresh _)
    · exact ((regsBut_bump s.fresh _).mono (by simp)).trans ((regsBut_bump ((s.fresh.bump Reg.HIF_KICK_CNT).updHif _) _).mono (by simp))
  case again =>
    intro s v hm hp ho
    have hon : (s.fresh.bump Reg.HIF_KICK_CNT).pagesOn = true := (State.rbit_of_reg (regsBut_bump s.fresh _ _ (by decide)) 0).trans hp
    refine ⟨_, congrArg Host.Outcome.next ((if_neg (Nat.not_lt.2 hm)).trans (if_pos ?_)), rfl, rfl, State.reg_bump_self s.fresh _,
      regsBut_bump s.fresh _⟩
    rw [hon, show (s.fresh.bump Reg.HIF_KICK_CNT).hif.dbOut = true from ho]
    rfl
  case poll =>
    intro s hp hl ho
    refine ⟨_, congrArg Host.Outcome.next (if_neg ?_), rfl, rfl, State.reg_bump_self (s.fresh.updHif _) _, regsBut_bump (s.fresh.updHif _) _⟩
    rw [show s.fresh.pagesOn = true from hp, show s.fresh.hif.linkUp = true from hl, show s.fresh.hif.dbOut = false from ho]
    decide
  case failed =>
    intro s rsp ho hk hr
    obtain ⟨hregs, hhif, -⟩ := s.fresh.dbEnded_same rsp.latNs
    refine ⟨((s.fresh.dbEnded rsp.latNs).bump Reg.HIF_DB_ERR_CNT).raise Reg.HIF_EVT 1, congrArg Host.Outcome.next ?_, ?_, ?_, ?_, ?_⟩
    · unfold State.doorbells
      rw [if_neg (by rw [show s.fresh.hif.dbOut = true from ho]; decide)]
      extract_lets u v
      have hv : v = ((s.fresh.dbEnded rsp.latNs).bump Reg.HIF_DB_ERR_CNT).raise Reg.HIF_EVT 1 := if_pos (by rw [hr]; rfl)
      have hkick : v.hif.kick = false := by
        rw [hv, State.raise_hif]
        exact (congrArg Hif.kick hhif).trans hk
      exact (if_neg (by rw [hkick]; decide)).trans hv
    · rw [State.raise_hif]
      exact hhif
    · refine (regsBut_raise _ _ _ _ (by decide)).trans ((State.reg_bump_self _ _).trans ?_)
      exact congrArg (satAdd · 1) (hregs _ (by decide))
    · exact State.rbit_raise_self _ _ _ _ (by decide) (by decide)
    · exact ((RegsBut.mono hregs (by simp)).trans ((regsBut_bump _ _).mono (by simp))).trans ((regsBut_raise _ _ _).mono (by simp))
  case good =>
    intro s rsp ho hok hp
    refine ⟨s.fresh.doorbells rsp, rfl, fun n hn => ?_⟩
    obtain ⟨u, hu, ht⟩ := State.doorbells_good (s := s.fresh) ho hok hp hn
    generalize s.fresh.doorbells rsp = t at ht
    generalize rsp.idx.getD n 0 = h at ht ⊢
    refine ⟨ht.shown.trans (State.doorbell_shown hn u h), fun hd ha hle => ?_, fun hd ha hlt => ?_⟩
    · obtain ⟨-, hnode, hact, hsize⟩ := hu.status (.inl hd)
      rw [ht.hostIdx, State.doorbell_within hd (hact.trans ha) (by rw [hnode, hsize]; exact hle)]
      exact Sparse.get_set_self _ _ _
    · obtain ⟨-, hnode, hact, hsize⟩ := hu.status (.inl hd)
      obtain ⟨hst, -⟩ := ht.status (.inl hd)
      have hdb := State.doorbell_beyond (h := h) hd (hact.trans ha) (by rw [hnode, hsize]; exact hlt)
      have hok' : (u.entryShown n h).rbit (Reg.RING_STATUS n) 2 = false :=
        State.ringActive_status (((u.entryShown_status n h).2.1).trans (hact.trans ha))
      obtain ⟨hbit, hcode⟩ := (u.entryShown n h).ringError_stops (by omega : n < 32) (by decide : 1 < 8) hok'
      rw [hdb] at hst
      refine ⟨(State.rbit_of_reg hst 2).trans hbit, (State.rfld_of_reg hst 4 3).trans hcode, ?_⟩
      rw [ht.hostIdx, hdb, State.ringError_hostIdx]
      exact hu.hostIdx
  case credit =>
    intro s rsp ho hok hp hq
    refine ⟨s.fresh.doorbells rsp, rfl, fun n hn hd ha => ?_⟩
    obtain ⟨u, hu, ht⟩ := State.doorbells_good (s := s.fresh) ho hok hp hn
    obtain ⟨huq, hum⟩ := hu.quiet hq
    obtain ⟨hust, hunode, huact, husize⟩ := hu.status (.inr hq)
    have hact : u.ringActive n = true := huact.trans ha
    generalize s.fresh.doorbells rsp = t at ht
    generalize rsp.idx.getD n 0 = h at ht ⊢
    obtain ⟨hwnode, hwact, hwsize⟩ := u.entryShown_status n h
    have hbit := State.ringActive_status (hwact.trans hact)
    by_cases hc : 1 ≤ (h - s.reg (Reg.RING_NODE_IDX n)).toNat ∧ (h - s.reg (Reg.RING_NODE_IDX n)).toNat ≤ 2 ^ 31
    · obtain ⟨h1, h2⟩ := hc
      have hdb := State.doorbell_ahead (h := h) hd hact (by rw [hunode]; exact h1) (by rw [hunode]; exact h2)
      rw [hdb] at ht
      have hquiet : ((u.entryShown n h).ringError n 2).outlet.merge = [] :=
        (congrArg Outlet.merge ((u.entryShown n h).ringError_parts n 2 .outlet (by decide))).trans huq
      obtain ⟨hst, hnode, hact', -⟩ := ht.status (.inr hquiet)
      obtain ⟨hstop, hcode⟩ := (u.entryShown n h).ringError_stops (by omega : n < 32) (by decide : 2 < 8) hbit
      have hsame : t.reg (Reg.RING_NODE_IDX n) = s.reg (Reg.RING_NODE_IDX n) :=
        hnode.trans ((regsBut_ringError _ n 2 _ (node_outside n)).trans (hwnode.trans hunode))
      have hidx : t.hostIdx n = s.hostIdx n := ht.hostIdx.trans ((State.ringError_hostIdx _ n 2).trans hu.hostIdx)
      have hstop' : t.rbit (Reg.RING_STATUS n) 2 = true := (State.rbit_of_reg hst 2).trans hstop
      refine ⟨hsame, fun _ _ => ⟨hstop', (State.rfld_of_reg hst 4 3).trans hcode, hidx, ?_, ?_⟩, fun hb => ?_⟩
      · rw [State.ringUsed, hsame, hidx]
        rfl
      · rw [State.ringCredit, State.ringActive, hstop']
        simp
      · rcases hb with rfl | hb
        · rw [BitVec.sub_self] at h1
          exact absurd h1 (by decide)
        · exact absurd h2 (Nat.not_le.2 hb)
    · have hb : h = s.reg (Reg.RING_NODE_IDX n) ∨ 2 ^ 31 < (h - s.reg (Reg.RING_NODE_IDX n)).toNat := by
        rcases Nat.eq_zero_or_pos (h - s.reg (Reg.RING_NODE_IDX n)).toNat with hz | hpos
        · exact .inl (by bv_omega)
        · exact .inr (Nat.not_le.1 fun hle => hc ⟨hpos, hle⟩)
      obtain ⟨k, hdb⟩ := State.doorbell_behind (h := h) hd hact (by rw [hunode]; exact hb)
      rw [hdb] at ht
      have ht' := (((u.entryShown n h).setHostIdx n h).freed_ringKept hn n k).trans ht
      obtain ⟨hst, hnode, hact', hsize⟩ := ht'.status (.inr huq)
      obtain ⟨-, hmgmt⟩ := ht'.quiet huq
      have hsame : t.reg (Reg.RING_NODE_IDX n) = s.reg (Reg.RING_NODE_IDX n) := hnode.trans (hwnode.trans hunode)
      have hidx : t.hostIdx n = h := ht'.hostIdx.trans (Sparse.get_set_self _ _ _)
      have hactive : t.ringActive n = true := hact'.trans (hwact.trans hact)
      have hused : t.ringUsed n = (s.reg (Reg.RING_NODE_IDX n) - h).toNat := by rw [State.ringUsed, hsame, hidx]
      refine ⟨hsame, fun h1 h2 => absurd ⟨h1, h2⟩ hc, fun _ => ⟨hidx, State.ringActive_status hactive, hused, fun hm hl => ?_⟩⟩
      have hm' : t.mgmt = s.mgmt := hmgmt.trans ((State.mgmt_congr (regsBut_setReg u _ _ _ (hostIdx_outside n))).trans hum)
      rw [State.ringCredit, hactive, hm', ht'.link, show ((u.entryShown n h).setHostIdx n h).hif.linkUp = true from hu.link.trans hl, hused,
        hsize, show ((u.entryShown n h).setHostIdx n h).ringSize n = s.ringSize n from hwsize.trans husize]
      exact if_pos (by simpa using hm)
  case arrives =>
    intro s n l hn hd hk
    refine ⟨_, need_of (decide_eq_true hn) _, ?_⟩
    unfold State.arrive
    dsimp only
    rw [if_neg (by rw [hd]; exact fun hc => hk (of_decide_eq_true hc))]
    exact ⟨rfl, .of_regs rfl rfl []⟩
  case fails =>
    intro s n hn hd hk hb
    refine ⟨_, need_of (decide_eq_true hn) _, ?_⟩
    unfold State.arrive
    dsimp only
    rw [if_neg (by rw [hd]; exact fun hc => hk (of_decide_eq_true hc))]
    generalize hu : s.fresh.updHif _ = u
    have hub : u.rbit (Reg.RING_STATUS n) 2 = false := by rw [← hu]; exact hb
    obtain ⟨hbit, hcode⟩ := u.ringError_stops (by omega : n < 32) (by decide : 3 < 8) hub
    refine ⟨?_, hbit, hcode, ?_, ?_⟩
    · exact (congrArg Hif.fetched (u.ringError_parts n 3 .hif (by decide))).trans (by rw [← hu]; rfl)
    · unfold State.ringError
      rw [if_neg (by rw [hub]; decide)]
      exact State.rbit_raise_self _ _ _ _ (by decide) (by decide)
    · exact RegsBut.trans (t := u) (by rw [← hu]; exact .of_regs rfl rfl _) (regsBut_ringError u n 3)

end Sys2Proof.Machine

/-! PROOFS. The way into a replay (R343, R344, Tables 11-13 and 11-14). -/

namespace Sys2Proof.Machine

/-! ## REPLAY_START -/

/-- A replay begins with its state LOADING. -/
theorem State.rpClear_status (s : State) : s.rpClear.reg Reg.SPAWN_RP_STATUS = packU32 [(Rp.loading, 0), (0xFF, 16)] := by
  unfold State.rpClear
  simp only [List.foldl_cons, List.foldl_nil]
  repeat rw [State.reg_setReg, if_neg (by decide)]
  exact (State.reg_setReg _ _ _ _).trans (if_pos rfl)

/-- What is discarded as the node leaves SETUP waits for nothing that runs. -/
theorem State.dropHeld_running (s : State) : s.dropHeld.hif.running = s.hif.running := by
  unfold State.dropHeld
  extract_lets u v w
  split <;> rfl

/-- Entry to REPLAY: the state, the engines, Inlet, and the replay's own state. -/
structure ReplayEntered (s t : State) : Prop where
  mgmt : t.mgmt = Node.replay
  preferred : t.skink.preferred = s.skink.preferred
  engine : ∀ e, (s.eng e).svc ≠ Svc.offline → (t.eng e).svc = Svc.inService
  inlet : t.inlet = {}
  running : t.hif.running = s.hif.running
  state : t.rpState = Rp.loading

/-- What runs before REPLAY is gone, and the figures of the replay stand. -/
def State.replayCleared (s : State) : State := s.dropHeld.rpClear.lanesEnd Lane.halt

theorem State.replayCleared_parts (s : State) : PartsBut s s.replayCleared [.regs, .outlet, .hif, .spawn, .fe] := fun z hz =>
  same_of_foot [.regs, .outlet, .hif, .spawn, .fe] (fun _ _ => lanesEnd_foot _ _ (rpClear_foot _ (dropHeld_foot _ (.refl s)))) z hz

theorem State.replayCleared_running (s : State) : s.replayCleared.hif.running = s.hif.running := by
  have hp : PartsBut s.dropHeld s.replayCleared [.regs, .fe] := fun z hz =>
    same_of_foot [.regs, .fe] (fun _ _ => lanesEnd_foot _ _ (rpClear_foot _ (.refl s.dropHeld))) z hz
  rw [hp .hif (by decide), State.dropHeld_running]

theorem State.replayCleared_status (s : State) : s.replayCleared.reg Reg.SPAWN_RP_STATUS = packU32 [(Rp.loading, 0), (0xFF, 16)] :=
  (regsBut_lanesEnd s.dropHeld.rpClear _ _ (by decide)).trans (State.rpClear_status _)

/-- The units made ready for the replay. -/
def State.replayReady (u : State) (d : Desc) : State :=
  let s := u.updReplay (fun _ => { rflags := BitVec.ofNat 32 (d.arg 8 4), stopIsn := u64At d.raw 0x10, tag := d.tag, irqNow := d.irqNow })
  let s := s.updSpawn (fun p => { p with ckptDue := none, journaling := false })
  let s := s.updDio (fun x => { x with replayHold := some s.pinImage })
  let s := { s with aeA := replayEngine s.aeA, aeB := replayEngine s.aeB, inlet := { } }
  s.updSkink (fun k => { k with holder := none, handover := false, diverge := none, diverges := [], mismatches := [], copy := none, auditTick := 0 })

theorem State.enterReplay_eq (s : State) (d : Desc) : s.enterReplay d = (s.replayCleared.replayReady d).setMgmt Node.replay := rfl

theorem State.replayReady_eng (u : State) (d : Desc) (e : EngineId) : (u.replayReady d).eng e = replayEngine (u.eng e) := by cases e <;> rfl

theorem State.enterReplay_entered (s : State) (d : Desc) : ReplayEntered s (s.enterReplay d) := by
  rw [State.enterReplay_eq]
  have hparts := s.replayCleared_parts
  have hrun := s.replayCleared_running
  have hstatus := s.replayCleared_status
  generalize s.replayCleared = u at hparts hrun hstatus ⊢
  have hready : (u.replayReady d).skink.preferred = u.skink.preferred ∧ (u.replayReady d).inlet = {} ∧ (u.replayReady d).hif = u.hif
      ∧ (u.replayReady d).reg Reg.SPAWN_RP_STATUS = u.reg Reg.SPAWN_RP_STATUS := ⟨rfl, rfl, rfl, State.reg_congr rfl rfl _⟩
  have heng := fun e => State.replayReady_eng u d e
  generalize u.replayReady d = v at hready heng ⊢
  obtain ⟨hpref, hinlet, hhif, hreg⟩ := hready
  have hp : PartsBut v (v.setMgmt Node.replay) [.regs] := fun k hk => same_of_foot [.regs] (fun _ _ => setMgmt_foot _ _ (.refl v)) k hk
  have hin : (v.setMgmt Node.replay).inlet = {} := (hp .inlet (by decide)).trans hinlet
  refine ⟨v.mgmt_setMgmt Node.replay (by decide), ?_, fun e he => ?_, hin, ?_, ?_⟩
  · exact (congrArg Skink.preferred (hp .skink (by decide))).trans (hpref.trans (congrArg Skink.preferred (hparts .skink (by decide))))
  · rw [PartsBut.eng hp (e := e), heng, PartsBut.eng hparts (e := e)]
    exact if_neg he
  · exact (congrArg Hif.running ((hp .hif (by decide)).trans hhif)).trans hrun
  · rw [State.rpState, State.rfld, (regsBut_setMgmt v _ _ (by decide)).trans (hreg.trans hstatus)]
    decide

/-- With the preferred engine not OFFLINE, it holds, and the command waits for its file or has failed. -/
theorem State.replayStart_eq {s : State} {d : Desc} (hsvc : (s.eng s.skink.preferred).svc ≠ Svc.offline) :
    s.replayStart d = if s.replayBad d = Status.ok then ((s.enterReplay d).grantHold s.skink.preferred).defer d.tag d.irqNow 0x52
      else (((s.enterReplay d).grantHold s.skink.preferred).rpFail 0).done d (s.replayBad d) := by
  have h := s.enterReplay_entered d
  have hc : (s.enterReplay d).candidate = some s.skink.preferred := by
    rw [State.candidate_preferred, h.preferred]
    rw [h.preferred]
    exact h.engine _ hsvc
  unfold State.replayStart
  dsimp only
  rw [hc]

theorem State.grantHold_mgmt (s : State) (e : EngineId) : (s.grantHold e).mgmt = s.mgmt := State.mgmt_congr (regsBut_grantHold s e _ (by decide))

theorem State.grantHold_rpState (s : State) (e : EngineId) : (s.grantHold e).rpState = s.rpState :=
  State.rfld_of_reg (regsBut_grantHold s e _ (by decide)) _ _

/-- A replay that fails as it begins. -/
theorem State.rpFail_ends (s : State) (err : Nat) (herr : err < 16) : (s.rpFail err).rpState = Rp.error
    ∧ (s.rpFail err).rfld Reg.SPAWN_RP_STATUS 4 4 = err ∧ RegsBut s (s.rpFail err) [Reg.SPAWN_RP_STATUS, Reg.SPAWN_EVT, Reg.MSIX_PBA 0]
    ∧ PartsBut s (s.rpFail err) [.regs] := by
  have hkept : (s.rpFail err).reg Reg.SPAWN_RP_STATUS = ((s.setRp Rp.error).setRegFld Reg.SPAWN_RP_STATUS 4 4 err).reg Reg.SPAWN_RP_STATUS :=
    regsBut_raise _ _ _ _ (by decide)
  refine ⟨(State.rfld_of_reg hkept 0 3).trans ?_, (State.rfld_of_reg hkept 4 4).trans ?_, ?_, ?_⟩
  · rw [State.rfld_setRegFld_ne _ _ _ _ _ _ _ _ (.inr (.inl (by decide)))]
    exact (State.rfld_setRegFld_self _ _ _ _ _ (by decide)).trans rfl
  · exact (State.rfld_setRegFld_self _ _ _ _ _ (by decide)).trans (Nat.mod_eq_of_lt herr)
  · exact (((regsBut_setRegFld s _ _ _ _).mono (by simp)).trans ((regsBut_setRegFld _ _ _ _ _).mono (by simp))).trans ((regsBut_raise _ _ _).mono (by simp))
  · exact fun z hz => same_of_foot [.regs] (fun _ _ => rpFail_foot _ _ (.refl s)) z hz

end Sys2Proof.Machine

/-! PROOFS. O39 ReplayRuns: what the bytes of a replay's file leave of its count, and the ends of a replay (R343-R348). -/

namespace Sys2Proof.Machine

/-! ## What taking in the file leaves alone -/

/-- The sequence of the buffers, the checkpoints compared, and the descriptors that have been fetched. -/
structure RpKept (s t : State) : Prop where
  seq : t.spawn.replay.seq = s.spawn.replay.seq
  compared : t.spawn.replay.compared = s.spawn.replay.compared
  fetched : t.hif.fetched = s.hif.fetched

theorem RpKept.refl (s : State) : RpKept s s := ⟨rfl, rfl, rfl⟩

theorem RpKept.trans {s t u : State} (h : RpKept s t) (k : RpKept t u) : RpKept s u :=
  ⟨k.seq.trans h.seq, k.compared.trans h.compared, k.fetched.trans h.fetched⟩

/-- Neither Spawn nor HIF is touched. -/
theorem RpKept.of_parts {s t : State} {zs : List Zone} (hp : PartsBut s t zs) (hsp : Zone.spawn ∉ zs := by decide)
    (hh : Zone.hif ∉ zs := by decide) : RpKept s t := by
  have h1 : t.spawn = s.spawn := hp .spawn hsp
  have h2 : t.hif = s.hif := hp .hif hh
  exact ⟨by rw [h1], by rw [h1], by rw [h2]⟩

theorem RpKept.endStart (s : State) (status : Nat) (result : U64) : RpKept s (s.endStart status result) := ⟨rfl, rfl, rfl⟩

theorem RpKept.rpError (s : State) (err status : Nat) : RpKept s (s.rpError err status) := by
  unfold State.rpError
  dsimp only
  have h : RpKept s (s.rpFail err) := .of_parts (fun z hz => same_of_foot [.regs] (fun _ _ => rpFail_foot _ _ (.refl s)) z hz)
  split
  · exact h.trans (.endStart _ _ _)
  · exact h

/-- The replay's own state changes in what does not count here. -/
theorem RpKept.updReplay (s : State) {f : Replay → Replay} (hs : (f s.spawn.replay).seq = s.spawn.replay.seq)
    (hc : (f s.spawn.replay).compared = s.spawn.replay.compared) : RpKept s (s.updReplay f) := ⟨hs, hc, rfl⟩

theorem RpKept.eat (s : State) (n : Nat) : RpKept s (s.eat n) := .updReplay s rfl rfl

theorem RpKept.setRegFld (s : State) (o : Off) (lo n x : Nat) : RpKept s (s.setRegFld o lo n x) := ⟨rfl, rfl, rfl⟩

theorem RpKept.rpHeader (s : State) (l : List Byte) : RpKept s (s.rpHeader l) := by
  unfold State.rpHeader
  dsimp only
  split
  · exact .rpError _ _ _
  split
  · exact .rpError _ _ _
  split
  · exact .rpError _ _ _
  · exact ((RpKept.updReplay s rfl rfl).trans (.eat _ _)).trans (.setRegFld _ _ _ _ _)

theorem RpKept.rpSection {s t : State} (h : s.rpSection = some t) : RpKept s t := by
  unfold State.rpSection at h
  dsimp only at h
  split at h
  · cases h
  split at h
  · cases h
    exact .rpError _ _ _
  split at h
  · cases h
  split at h
  · cases h
    exact .rpError _ _ _
  split at h
  · cases h
    exact .rpError _ _ _
  · cases h
    refine RpKept.trans ?_ (.updReplay _ rfl rfl)
    refine RpKept.trans ?_ (.eat _ _)
    exact .of_parts (zs := [.regs, .tarn, .aeA, .aeB, .gecko]) (fun z hz => same_of_foot [.regs, .tarn, .aeA, .aeB, .gecko]
      (fun _ _ => clearUe_foot _ _ _ (loadSection_foot _ _ _ (.refl s))) z hz)

theorem RpKept.rpMark (s : State) (r : InRec) : RpKept s (s.rpMark r) := ⟨rfl, rfl, rfl⟩

theorem RpKept.rpAdmit (s : State) (r : InRec) : RpKept s (s.rpAdmit r) := by
  unfold State.rpAdmit
  extract_lets i u v w
  have hu : RpKept s u := ⟨rfl, rfl, rfl⟩
  have hspill : RpKept u (u.spill.bump Reg.INLET_ADMIT_CNT) := .of_parts (zs := [.regs, .gecko]) fun z hz =>
    same_of_foot [.regs, .gecko] (fun _ _ => bump_foot _ _ (spill_foot _ (.refl u))) z hz
  have hv : RpKept u v := hspill.trans (.updReplay _ rfl rfl)
  have hw : RpKept v w := .of_parts (zs := [.regs]) fun z hz =>
    same_of_foot [.regs] (fun _ _ => foldl_foot _ (fun _ _ h => recordMax_foot _ _ _ h) _ _ (.refl v)) z hz
  have hx : RpKept w (w.rpBarrier r) := .of_parts (zs := [.regs, .inlet]) fun z hz =>
    same_of_foot [.regs, .inlet] (fun _ _ => rpBarrier_foot _ _ (.refl w)) z hz
  exact ((hu.trans hv).trans hw).trans hx

theorem RpKept.rpTick {s t : State} {r : InRec} {n : Nat} (h : s.rpTick r n = some t) : RpKept s t := by
  unfold State.rpTick at h
  dsimp only at h
  have hplain : RpKept s ((s.eat n).rpAdmit r) := (RpKept.eat s n).trans (.rpAdmit _ r)
  split at h
  · split at h
    · cases h
      exact hplain
    · cases h
  split at h
  · cases h
    exact hplain
  split at h
  · cases h
    exact hplain.trans (.rpError _ _ _)
  split at h
  · split at h
    · cases h
    split at h
    · cases h
      exact (RpKept.eat s _).trans (.rpAdmit _ r)
    · cases h
      exact hplain.trans (.rpError _ _ _)
  · cases h
    have hread := (RpKept.eat s (n + 288)).trans (.rpAdmit _ r)
    generalize (s.eat (n + 288)).rpAdmit r = u at hread ⊢
    exact hread.trans ⟨rfl, rfl, rfl⟩

theorem RpKept.rpRecord {s t : State} (h : s.rpRecord = some t) : RpKept s t := by
  unfold State.rpRecord at h
  dsimp only at h
  have hshort : (if (s.spawn.replay.lastSeen && !s.spawn.replay.buf.isEmpty) = true then some (s.rpError RpErr.truncated 0) else none) = some t →
      RpKept s t := by
    intro h
    split at h
    · cases h
      exact .rpError _ _ _
    · cases h
  split at h
  · exact hshort h
  split at h
  · cases h
    exact .rpError _ _ _
  split at h
  · exact hshort h
  split at h
  · cases h
    exact .rpError _ _ _
  split at h
  · exact .rpTick h
  · cases h
    exact (RpKept.eat s _).trans (.rpAdmit _ _)

theorem RpKept.rpShort {s t : State} {err : Nat} (h : s.rpShort err = some t) : RpKept s t := by
  unfold State.rpShort at h
  split at h
  · cases h
    exact .rpError _ _ _
  · cases h

theorem RpKept.rpNext {s t : State} (h : s.rpNext = some t) : RpKept s t := by
  unfold State.rpNext at h
  dsimp only at h
  split at h
  · cases h
  split at h
  · split at h
    · exact .rpShort h
    · cases h
      exact .rpHeader s _
  · cases hs : s.rpSection with
    | none =>
      rw [hs] at h
      exact .rpShort h
    | some u =>
      rw [hs] at h
      cases h
      exact .rpSection hs
  · split at h
    · exact .rpShort h
    split at h
    · cases h
      exact (RpKept.eat s _).trans (.rpMark _ _)
    · cases h
      exact .rpError _ _ _
  · split at h
    · cases h
    · exact .rpRecord h

theorem RpKept.rpFeed (n : Nat) (s : State) : RpKept s (s.rpFeed n) := by
  induction n generalizing s with
  | zero => exact .refl s
  | succ n ih =>
    unfold State.rpFeed
    split
    · exact .refl s
    · next t ht => exact (RpKept.rpNext ht).trans (ih t)

/-- What the bytes at hand allow changes neither the buffers' count nor the checkpoints'. -/
theorem RpKept.rpRun (s : State) : RpKept s s.rpRun := .rpFeed _ s

/-! ## The comparator (R346) -/

theorem Kept.rpKept {fs : List EngineId} {s t : State} (h : Kept fs s t) : RpKept s t := by
  obtain ⟨r, d, u, hhif⟩ := h.hif
  exact ⟨congrArg Replay.seq h.replay, congrArg Replay.compared h.replay, by rw [hhif]⟩

theorem RpKept.failEngine (s : State) (e : EngineId) (cause : Nat) : RpKept s (s.failEngine e cause) :=
  have h := kept_failCore s.failed_all e cause
  (h.trans (kept_release (h.failed s.failed_all))).rpKept

theorem RpKept.rpMismatch (s : State) (isn : U64) (bad : List Nat) : RpKept s (s.rpMismatch isn bad) := by
  unfold State.rpMismatch
  split
  · exact .refl s
  extract_lets u v w
  have hw : RpKept s w := .of_parts (zs := [.regs]) fun z hz =>
    same_of_foot [.regs] (fun _ _ => setRegFld_foot _ _ _ _ _ (setRegFld_foot _ _ _ _ _ (setReg_foot _ _ _ (setPair_foot _ _ _ _ (.refl s))))) z hz
  have hx : RpKept w (w.updReplay (fun p => { p with mismatch := true })) := .updReplay _ rfl rfl
  have hy : ∀ x : State, RpKept x (x.raise Reg.SPAWN_EVT 0x40) := fun x => .of_parts (zs := [.regs]) fun z hz =>
    same_of_foot [.regs] (fun _ _ => raise_foot _ _ _ (.refl x)) z hz
  exact (hw.trans hx).trans (hy _)

/-- One more checkpoint has been compared, whatever the comparison found. -/
theorem State.rpCompare_counts {s : State} {isn : U64} {x : U64 × U64} (hm : s.mgmt = Node.replay) (hdue : s.spawn.ckptDue = some (isn, x))
    (hc : s.spawn.replay.ckpt ≠ []) (hev : ∀ e, e ∈ s.servers → isn.toNat ≤ (s.eng e).evalIsn.toNat) :
    s.rpCompare.spawn.replay.compared = s.spawn.replay.compared + 1 := by
  unfold State.rpCompare
  rw [hdue]
  dsimp only
  rw [if_neg]
  case hnc =>
    have hall : s.servers.all (fun e => decide (isn.toNat ≤ (s.eng e).evalIsn.toNat)) = true := by simpa using hev
    rw [hm, List.isEmpty_eq_false_iff.2 hc, hall]
    decide
  generalize (List.range 22).filter _ = bad
  have hu : ((((s.updReplay (fun p => { p with ckpt := [], compared := p.compared + 1 })).bump Reg.SPAWN_RP_CKPT_CNT).updSpawn
      (fun p => { p with ckptDue := none })).spawn.replay.compared) = s.spawn.replay.compared + 1 := rfl
  generalize ((s.updReplay (fun p => { p with ckpt := [], compared := p.compared + 1 })).bump Reg.SPAWN_RP_CKPT_CNT).updSpawn
    (fun p => { p with ckptDue := none }) = u at hu ⊢
  have hv : RpKept u (if bad.isEmpty then u else u.rpMismatch isn bad) := by
    split
    · exact .refl u
    · exact .rpMismatch u _ _
  generalize (if bad.isEmpty then u else u.rpMismatch isn bad) = v at hv ⊢
  have hend : ∀ w : State, RpKept v w → (if (!bad.isEmpty && bitAt s.spawn.replay.rflags 0 && decide (w.rpState = Rp.running)) = true
      then w.setRp Rp.held else w.rpRun).spawn.replay.compared = s.spawn.replay.compared + 1 := by
    intro w hw
    refine Eq.trans ?_ ((hv.trans hw).compared.trans hu)
    split
    · rfl
    · exact (RpKept.rpRun w).compared
  split
  · next e _ => exact hend _ (by
      split
      · exact .failEngine v e 8
      · exact .refl v)
  · exact hend v (.refl v)

/-! ## The buffers of SPAWN_IN (R343, R345) -/

theorem State.fetchedOf_takeHead (s : State) (n : Nat) : (s.takeHead n).fetchedOf n = (s.fetchedOf n).drop 1 := by
  obtain ⟨u, f, c, h⟩ := s.takeHead_hif n
  unfold State.fetchedOf
  rw [h]
  simpa using fetched_dropFirst n n s.hif.fetched

/-- The replay takes bytes: a buffer that has arrived is read. -/
theorem State.rpBuffer_reads {s : State} (hm : s.mgmt = Node.replay) (hst : s.rpState = Rp.loading ∨ s.rpState = Rp.running)
    (hl : s.spawn.replay.lastSeen = false) (hr : s.rpRoom = true) :
    ¬ (s.mgmt != Node.replay || (s.rpState != Rp.loading && s.rpState != Rp.running) || s.spawn.replay.lastSeen || !s.rpRoom) = true := by
  rw [hm, hl, hr]
  rcases hst with h | h
  · rw [h]
    decide
  · rw [h]
    decide

/-- The bytes of a buffer taken, and counted. -/
def State.rpTaken (s : State) (b l : List Byte) : State :=
  let u := (s.readBuffer b).takeHead 8
  u.setPair Reg.SPAWN_RP_BYTES_LO Reg.SPAWN_RP_BYTES_HI (u.pair Reg.SPAWN_RP_BYTES_LO Reg.SPAWN_RP_BYTES_HI + BitVec.ofNat 64 l.length)

theorem State.rpTaken_fetched (s : State) (b l : List Byte) : (s.rpTaken b l).fetchedOf 8 = (s.fetchedOf 8).drop 1
    ∧ (s.rpTaken b l).spawn = s.spawn := by
  have hp : PartsBut s (s.rpTaken b l) [.regs, .hif] := fun z hz =>
    same_of_foot [.regs, .hif] (fun _ _ => setPair_foot _ _ _ _ (takeHead_foot _ _ (readBuffer_foot _ _ (.refl s)))) z hz
  have hq : PartsBut ((s.readBuffer b).takeHead 8) (s.rpTaken b l) [.regs] := fun z hz =>
    same_of_foot [.regs] (fun _ _ => setPair_foot _ _ _ _ (.refl _)) z hz
  refine ⟨?_, hp .spawn (by decide)⟩
  rw [State.fetchedOf, show (s.rpTaken b l).hif = _ from hq .hif (by decide)]
  exact (s.readBuffer b).fetchedOf_takeHead 8

/-- A buffer's bytes stand behind those at hand. -/
def State.rpMore (s : State) (l : List Byte) (last : Bool) : State :=
  s.updReplay (fun p => { p with buf := p.buf ++ l, seq := p.seq + 1, lastSeen := last })

section

variable {s : State} {b : List Byte} {rest : List (List Byte)}

theorem State.rpBuffer_lost (hf : s.fetchedOf 8 = b :: rest) (hm : s.mgmt = Node.replay) (hst : s.rpState = Rp.loading ∨ s.rpState = Rp.running)
    (hl : s.spawn.replay.lastSeen = false) (hr : s.rpRoom = true) : s.rpBuffer none = (s.readBuffer b).ringError 8 3 := by
  unfold State.rpBuffer
  rw [hf]
  exact if_neg (State.rpBuffer_reads hm hst hl hr)

theorem State.rpBuffer_read (hf : s.fetchedOf 8 = b :: rest) (hm : s.mgmt = Node.replay) (hst : s.rpState = Rp.loading ∨ s.rpState = Rp.running)
    (hl : s.spawn.replay.lastSeen = false) (hr : s.rpRoom = true) (l : List Byte) : ∃ k, s.rpBuffer (some l) =
      if u32At b 0xC != s.spawn.replay.seq + 1 then (s.rpTaken b k).rpError RpErr.sequence Status.badArg
      else ((s.rpTaken b k).rpMore k (bitAt (u16At b 0xA) 0)).rpRun := by
  unfold State.rpBuffer
  rw [hf]
  exact ⟨fit (min 4096 (leAt b 8 2)) l, if_neg (State.rpBuffer_reads hm hst hl hr)⟩

end

/-! ## REPLAY_STOP (R343) -/

/-- A completion stands behind those that are ready. -/
theorem State.done_last (s : State) (d : Desc) (status : Nat) (result : U64) :
    (s.done d status result).hif.ready.getLast? = some (d.answer status result) := List.getLast?_concat ..

/-- The state as the node enters SETUP, the engines' and Inlet's parts gone. -/
theorem regsBut_enterSetup (s : State) : RegsBut s s.enterSetup
    [Reg.PAIR_BLOCKED_LO, Reg.PAIR_BLOCKED_HI, Reg.MGMT_STATE, Reg.MGMT_EVT, Reg.MSIX_PBA 0] := by
  unfold State.enterSetup
  extract_lets clear u i0 i g o v
  have hu : RegsBut s u [] := fun o _ => s.reg_releaseHold o
  have hv : RegsBut u v [] := .of_regs rfl rfl _
  have hw : RegsBut v v.statesWritten [] := .of_regs rfl rfl _
  exact ((((hu.trans hv).trans hw).mono (List.nil_subset _)).trans ((regsBut_requestsEnd _).mono (by simp))).trans ((regsBut_setMgmt _ _).mono (by simp))

theorem State.enterSetup_hold (s : State) : s.enterSetup.dio.replayHold = s.dio.replayHold := by
  unfold State.enterSetup
  extract_lets clear u i0 i g o v
  have hu : u.dio = s.dio := same_of_foot [.aeA, .aeB, .skink] (fun _ _ => updSkink_foot _ _ (releaseHold_foot _ (.refl s))) .dio
  have hv : v.statesWritten.requestsEnd.dio.replayHold = v.dio.replayHold := rfl
  have hw : (v.statesWritten.requestsEnd.setMgmt Node.setup).dio = v.statesWritten.requestsEnd.dio :=
    same_of_foot [.regs] (fun _ _ => setMgmt_foot _ _ (.refl v.statesWritten.requestsEnd)) .dio
  rw [hw, hv]
  exact congrArg Dio.replayHold hu

/-- A replay that has ended, before the node is in SETUP. -/
def State.replayEnded (s : State) : State :=
  let s := if s.loading && s.rpState = Rp.loading then s.endStart Status.state 0 else s
  let s := (s.eatSpawnIn.setRp Rp.idle).updReplay (fun _ => { })
  (s.updSpawn (fun p => { p with ckptDue := none })).updDio (fun x => { x with replayHold := none })

theorem State.replayStop_eq (s : State) (d : Desc) : s.replayStop d = (s.replayEnded.enterSetup.setDirty.setRegFld Reg.BEHAV_REV 0 8 s.replayEnded.behavBoot).done d
    Status.ok (s.reg Reg.SPAWN_RP_CKPT_CNT ++ s.reg Reg.SPAWN_RP_STATUS) := rfl

theorem State.replayEnded_ends (s : State) : s.replayEnded.rpState = Rp.idle ∧ s.replayEnded.dio.replayHold = none := by
  unfold State.replayEnded
  extract_lets u v
  have hv : v.rpState = Rp.idle := by
    have hreg : v.reg Reg.SPAWN_RP_STATUS = (u.eatSpawnIn.setRp Rp.idle).reg Reg.SPAWN_RP_STATUS := State.reg_congr rfl rfl _
    exact (State.rfld_of_reg hreg 0 3).trans (State.rfld_setRegFld_self _ _ _ _ _ (by decide))
  exact ⟨hv, rfl⟩

/-- The node in SETUP with its native behaviour, and the command that took it there ended. -/
def State.replayLeft (u : State) : State := u.enterSetup.setDirty.setRegFld Reg.BEHAV_REV 0 8 u.behavBoot

theorem State.replayLeft_ends (u : State) : u.replayLeft.mgmt = Node.setup ∧ u.replayLeft.rpState = u.rpState ∧ u.replayLeft.cfgDirty = true
    ∧ u.replayLeft.dio.replayHold = u.dio.replayHold := by
  have hregs : RegsBut u.enterSetup.setDirty u.replayLeft [Reg.BEHAV_REV] := regsBut_setRegFld _ _ _ _ _
  have hdirty : RegsBut u.enterSetup u.enterSetup.setDirty [Reg.MGMT_SS_STATUS] := regsBut_setRegBit _ _ _ _
  refine ⟨?_, ?_, ?_, u.enterSetup_hold⟩
  · exact (State.mgmt_congr ((hregs _ (by decide)).trans (hdirty _ (by decide)))).trans (State.mgmt_enterSetup u)
  · exact State.rfld_of_reg ((hregs _ (by decide)).trans ((hdirty _ (by decide)).trans (regsBut_enterSetup u _ (by decide)))) _ _
  · exact (State.rbit_of_reg (hregs _ (by decide)) _).trans (State.rbit_setRegBit_self _ _ _ _ (by decide))

theorem State.replayStop_ends (s : State) (d : Desc) : (s.replayStop d).mgmt = Node.setup ∧ (s.replayStop d).rpState = Rp.idle
    ∧ (s.replayStop d).cfgDirty = true ∧ (s.replayStop d).dio.replayHold = none
    ∧ (s.replayStop d).hif.ready.getLast? = some (d.answer Status.ok (s.reg Reg.SPAWN_RP_CKPT_CNT ++ s.reg Reg.SPAWN_RP_STATUS)) := by
  obtain ⟨hidle, hhold⟩ := s.replayEnded_ends
  obtain ⟨hm, hst, hdirty, hpins⟩ := s.replayEnded.replayLeft_ends
  have hd := regsBut_done s.replayEnded.replayLeft d Status.ok (s.reg Reg.SPAWN_RP_CKPT_CNT ++ s.reg Reg.SPAWN_RP_STATUS) []
  rw [State.replayStop_eq]
  change (s.replayEnded.replayLeft.done d Status.ok _).mgmt = Node.setup ∧ (s.replayEnded.replayLeft.done d Status.ok _).rpState = Rp.idle
    ∧ (s.replayEnded.replayLeft.done d Status.ok _).cfgDirty = true ∧ s.replayEnded.replayLeft.dio.replayHold = none ∧ _
  exact ⟨(State.mgmt_congr (hd _ nofun)).trans hm, (State.rfld_of_reg (hd _ nofun) _ _).trans (hst.trans hidle),
    (State.rbit_of_reg (hd _ nofun) _).trans hdirty, hpins.trans hhold, State.done_last _ _ _ _⟩

/-- A replay at the end of its file, with its outcome. -/
theorem State.rpDone_ends (s : State) {k : Nat} (hk : k < 4) :
    (((s.setRp Rp.done).setRegFld Reg.SPAWN_RP_STATUS 8 2 k).raise Reg.SPAWN_EVT 0x20).rpState = Rp.done
      ∧ (((s.setRp Rp.done).setRegFld Reg.SPAWN_RP_STATUS 8 2 k).raise Reg.SPAWN_EVT 0x20).rbit Reg.SPAWN_EVT 5 = true
      ∧ (((s.setRp Rp.done).setRegFld Reg.SPAWN_RP_STATUS 8 2 k).raise Reg.SPAWN_EVT 0x20).rfld Reg.SPAWN_RP_STATUS 8 2 = k := by
  have hkept := regsBut_raise ((s.setRp Rp.done).setRegFld Reg.SPAWN_RP_STATUS 8 2 k) Reg.SPAWN_EVT 0x20 Reg.SPAWN_RP_STATUS (by decide)
  refine ⟨(State.rfld_of_reg hkept 0 3).trans ?_, State.rbit_raise_self _ _ _ _ (by decide) (by decide), (State.rfld_of_reg hkept 8 2).trans ?_⟩
  · rw [State.rfld_setRegFld_ne _ _ _ _ _ _ _ _ (.inr (.inl (by decide)))]
    exact State.rfld_setRegFld_self _ _ _ _ _ (by decide)
  · exact (State.rfld_setRegFld_self _ _ _ _ _ (by decide)).trans (Nat.mod_eq_of_lt hk)

theorem State.outcome_lt (mismatch : Bool) (n : Nat) : (if mismatch then 2 else if n = 0 then 0 else 1) < 4 := by
  split
  · decide
  · split <;> decide

theorem State.ringError_out (s : State) (n code : Nat) : s.out <+: (s.ringError n code).out := by
  unfold State.ringError
  split
  · exact List.prefix_refl _
  · extract_lets u
    have hu : s.out = (u.bump (Reg.RING_ERR_CNT n)).out := rfl
    rw [hu]
    exact (u.bump (Reg.RING_ERR_CNT n)).raise_out _ _

/-! ## Settling the statement -/

/-- Settles O39: the node enters REPLAY whatever REPLAY_START finds wrong, and what the file brings keeps its counts. -/
theorem replayRuns : Obligations.ReplayRuns := by
  unfold Obligations.ReplayRuns
  refine ⟨?starts, ?bad, ?stop, ?buffer, ?compare, ?done⟩
  case starts =>
    intro s d hd harg hr hr' h8 hcap hsvc
    refine ends_dirCmd hd rfl fun u hu => ?_
    have hskink : u.skink = s.skink := hu.parts .skink (by decide)
    have hsvc' : (u.eng u.skink.preferred).svc ≠ Svc.offline := by
      rw [hskink, PartsBut.eng hu.parts]
      exact hsvc
    have hok : u.replayBad d = Status.ok := by
      unfold State.replayBad
      have h8' : u.ringActive 8 = true := by
        rw [State.ringActive, State.rbit_of_reg (hu.regs _ (by decide)), State.rbit_of_reg (hu.regs _ (by decide))]
        exact h8
      have hstate : u.capState = s.capState := State.rfld_of_reg (hu.regs _ (by decide)) _ _
      have hcap' : (u.capturing && u.capState != Cap.frozen) = false := by
        rw [State.capturing, hstate]
        rcases hcap with h | h
        · rw [show (s.capState != Cap.idle && s.capState != Cap.done) = false from h]
          rfl
        · rw [h]
          rfl
      rw [if_neg (by rw [decide_eq_false (Nat.not_lt.2 harg), hr, hr']; decide), h8', hcap']
      rfl
    have h := u.enterReplay_entered d
    rw [State.replayStart_eq hsvc', if_pos hok]
    generalize u.enterReplay d = v at h ⊢
    refine ⟨?_, ?_, ?_, ?_, ?_, ?_⟩
    · exact (State.grantHold_mgmt v _).trans h.mgmt
    · exact congrArg some (congrArg Skink.preferred hskink)
    · exact (State.grantHold_rpState v _).trans h.state
    · rw [show ((v.grantHold u.skink.preferred).defer d.tag d.irqNow 0x52).inlet = v.inlet from v.grantHold_parts _ .inlet (by decide), h.inlet]
    · rw [show ((v.grantHold u.skink.preferred).defer d.tag d.irqNow 0x52).inlet = v.inlet from v.grantHold_parts _ .inlet (by decide), h.inlet]
    · have hrun : (v.grantHold u.skink.preferred).hif.running = s.hif.running :=
        (congrArg Hif.running (v.grantHold_parts _ .hif (by decide))).trans (h.running.trans hu.taken.running)
      exact congrArg (· ++ [_]) hrun
  case bad =>
    intro s d hd hsvc
    have hfail : ∀ u, AtHead s u → ∀ bad, u.replayBad d = bad → bad ≠ Status.ok → (u.replayStart d).mgmt = Node.replay
        ∧ (u.replayStart d).rpState = Rp.error ∧ (u.replayStart d).hif.ready.getLast? = some (d.answer bad 0) := by
      intro u hu bad hbad hne
      subst hbad
      have hsvc' : (u.eng u.skink.preferred).svc ≠ Svc.offline := by
        rw [show u.skink = s.skink from hu.parts .skink (by decide), PartsBut.eng hu.parts]
        exact hsvc
      have h := u.enterReplay_entered d
      rw [State.replayStart_eq hsvc', if_neg hne]
      generalize u.enterReplay d = v at h ⊢
      obtain ⟨herr, -, hregs, -⟩ := (v.grantHold u.skink.preferred).rpFail_ends 0 (by decide)
      refine ⟨?_, ?_, State.done_last ..⟩
      · exact (State.mgmt_congr (hregs _ (by decide))).trans ((State.grantHold_mgmt v _).trans h.mgmt)
      · exact herr
    refine ⟨fun harg => ?_, fun harg hr hr' h8 => ?_⟩
    · refine ends_dirCmd hd rfl fun u hu => hfail u hu Status.badArg ?_ (by decide)
      exact if_pos (by rw [decide_eq_true harg]; rfl)
    · refine ends_dirCmd hd rfl fun u hu => hfail u hu Status.state ?_ (by decide)
      have h8' : u.ringActive 8 = false := by
        rw [State.ringActive, State.rbit_of_reg (hu.regs _ (by decide)), State.rbit_of_reg (hu.regs _ (by decide))]
        exact h8
      exact (if_neg (by rw [decide_eq_false (Nat.not_lt.2 harg), hr, hr']; decide)).trans (if_pos (by rw [h8']; rfl))
  case stop =>
    intro s d hd
    refine ends_dirCmd hd rfl fun u hu => ?_
    have h := u.replayStop_ends d
    rw [hu.regs Reg.SPAWN_RP_CKPT_CNT (by decide), hu.regs Reg.SPAWN_RP_STATUS (by decide)] at h
    exact h
  case buffer =>
    intro s b rest hf hm hst hl hr
    refine ⟨fun hb => ?_, fun l hseq => ?_, fun l hseq => ?_⟩
    · refine ⟨_, congrArg Host.Outcome.next (State.rpBuffer_lost (s := s.fresh) hf hm hst hl hr), ?_⟩
      obtain ⟨hbit, hcode⟩ := (s.fresh.readBuffer b).ringError_stops (by decide : 8 < 32) (by decide : 3 < 8) hb
      refine ⟨hbit, hcode, (s.fresh.readBuffer b).ringError_parts 8 3 .spawn (by decide), ?_⟩
      exact ((s.fresh.readBuffer b).ringError_out 8 3).subset (List.mem_append_right _ (List.mem_singleton_self _))
    · obtain ⟨k, hk⟩ := State.rpBuffer_read (s := s.fresh) hf hm hst hl hr l
      obtain ⟨hfetch, -⟩ := s.fresh.rpTaken_fetched b k
      refine ⟨_, congrArg Host.Outcome.next (hk.trans (if_pos (bne_iff_ne.2 hseq))), ?_⟩
      generalize s.fresh.rpTaken b k = u at hfetch ⊢
      obtain ⟨herr, hcode, -, -⟩ := u.rpFail_ends RpErr.sequence (by decide)
      have hregs : RegsBut (u.rpFail RpErr.sequence) (u.rpError RpErr.sequence Status.badArg) [] := by
        unfold State.rpError
        dsimp only
        split
        · exact .of_regs rfl rfl _
        · exact .refl _ _
      refine ⟨(State.rfld_of_reg (hregs _ nofun) _ _).trans herr, (State.rfld_of_reg (hregs _ nofun) _ _).trans hcode, ?_⟩
      rw [State.fetchedOf, (RpKept.rpError u _ _).fetched]
      exact hfetch.trans (by rw [show s.fresh.fetchedOf 8 = b :: rest from hf]; rfl)
    · obtain ⟨k, hk⟩ := State.rpBuffer_read (s := s.fresh) hf hm hst hl hr l
      obtain ⟨hfetch, hspawn⟩ := s.fresh.rpTaken_fetched b k
      refine ⟨_, congrArg Host.Outcome.next (hk.trans (if_neg (by simpa using hseq))), ?_⟩
      generalize s.fresh.rpTaken b k = u at hfetch hspawn ⊢
      have hkept := RpKept.rpRun (u.rpMore k (bitAt (u16At b 0xA) 0))
      refine ⟨hkept.seq.trans (congrArg (fun p : Spawn => p.replay.seq + 1) hspawn), ?_⟩
      rw [State.fetchedOf, hkept.fetched]
      exact hfetch.trans (by rw [show s.fresh.fetchedOf 8 = b :: rest from hf]; rfl)
  case compare =>
    intro s isn x hm hdue hc hev
    exact ⟨_, rfl, State.rpCompare_counts (s := s.fresh) hm hdue hc hev⟩
  case done =>
    intro s hm hst hall
    have hgo : ¬ (s.fresh.mgmt != Node.replay || s.fresh.rpState != Rp.running || !s.fresh.allEvaluated) = true := by
      rw [show s.fresh.mgmt = Node.replay from hm, show s.fresh.rpState = Rp.running from hst, show s.fresh.allEvaluated = true from hall]
      decide
    refine ⟨fun hstop => ?_, fun hstop hl hbuf hw => ?_⟩
    · exact ⟨_, congrArg Host.Outcome.next ((if_neg hgo).trans (if_pos hstop)), State.rfld_setRegFld_self _ _ _ _ _ (by decide), rfl⟩
    · have hlast : (s.fresh.spawn.replay.lastSeen && s.fresh.spawn.replay.buf.isEmpty && s.fresh.allWritten) = true := by
        rw [show s.fresh.spawn.replay.lastSeen = true from hl, show s.fresh.spawn.replay.buf = [] from hbuf, show s.fresh.allWritten = true from hw]
        rfl
      refine ⟨_, congrArg Host.Outcome.next ((if_neg hgo).trans ((if_neg (by rw [show s.fresh.rpStopped = false from hstop]; exact nofun)).trans
        (if_pos hlast))), State.rpDone_ends _ (State.outcome_lt _ _)⟩

end Sys2Proof.Machine

/-! PROOFS. Admission of one record (R266, R271-R274): what it writes and leaves of Inlet and of the registers. -/

namespace Sys2Proof.Machine

/-- Registers that follow a record into the stream, its count apart. -/
def streamRegs : List Off :=
  [Reg.AE_LAG_MAX 0, Reg.AE_LAG_MAX 1, Reg.SPAWN_LAST_ISN_LO, Reg.SPAWN_LAST_ISN_HI, Reg.SPAWN_STATUS, Reg.SPAWN_MARK_ISN_LO, Reg.SPAWN_MARK_ISN_HI]

theorem regsBut_lags (s : State) (l : List EngineId) : RegsBut s (l.foldl (fun s e => s.recordMax (Reg.AE_LAG_MAX (engIx e)) (s.lag e)) s) streamRegs := by
  induction l generalizing s with
  | nil => exact .refl s _
  | cons e l ih => exact ((regsBut_recordMax s _ _).mono (by cases e <;> simp [streamRegs, engIx])).trans (ih _)

theorem regsBut_ringPut (s : State) (bs : List Byte) : RegsBut s (s.ringPut bs) [Reg.SPAWN_LAST_ISN_LO, Reg.SPAWN_LAST_ISN_HI] := by
  unfold State.ringPut
  extract_lets ring fill cap cut u v
  have hv : RegsBut s v [Reg.SPAWN_LAST_ISN_LO, Reg.SPAWN_LAST_ISN_HI] := .of_regs rfl rfl _
  exact hv.trans (regsBut_setPair v _ _ _)

theorem regsBut_journal (s : State) (bs : List Byte) : RegsBut s (s.journal bs) streamRegs := by
  unfold State.journal
  split
  · exact .refl s _
  · extract_lets u
    have hu : RegsBut s u streamRegs := .of_foot [.spawn] (fun _ _ => countPost_foot _ _ (.refl s)) _
    refine hu.trans ?_
    split
    · exact .of_regs rfl rfl _
    · exact (regsBut_ringPut u bs).mono (by simp [streamRegs])

theorem regsBut_ckptStart (s : State) : RegsBut s s.ckptStart streamRegs := by
  unfold State.ckptStart
  split
  · exact .refl s _
  · extract_lets take u
    have hu : RegsBut s u streamRegs := .of_regs rfl rfl _
    exact hu.trans (.ite ((regsBut_setRegBit u _ _ _).mono (by simp [streamRegs])) (.refl u _))

theorem regsBut_markAdmitted (s : State) (r : InRec) : RegsBut s (s.markAdmitted r) streamRegs := by
  unfold State.markAdmitted
  extract_lets u
  have hu : RegsBut s u streamRegs := (regsBut_setPair s _ _ _).mono (by simp [streamRegs])
  refine hu.trans ?_
  unfold State.statusNext
  split
  · exact .of_regs rfl rfl _
  · exact .of_regs rfl rfl _

/-- The record as Inlet takes it. -/
def InRec.admitted (r : InRec) (s : State) : InRec := { r with isn := s.inlet.isn + 1 }

/-- Inlet with a record more in its stream. -/
def State.streamed (s : State) (r : InRec) : State :=
  { s with inlet := { s.inlet with isn := s.inlet.isn + 1, stream := s.inlet.stream ++ [r.admitted s], holding := false,
                                   expect := if r.kind = Kind.sourceGap then s.inlet.expect else assocSet s.inlet.expect r.source.toNat (r.ssn + 1) } }

/-- The record counted, with the lags that it makes. -/
def State.lagged (s : State) : State :=
  let s := s.spill.bump Reg.INLET_ADMIT_CNT
  let s := s.servers.foldl (fun s e => s.recordMax (Reg.AE_LAG_MAX (engIx e)) (s.lag e)) s
  { s with gecko := { s.gecko with lagSince := s.servers.foldl (fun m e => max m (s.lag e)) s.gecko.lagSince } }

/-- What a mark and a RESYNC record do as they are admitted. -/
def State.kindAdmitted (s : State) (r : InRec) : State :=
  if r.kind = Kind.mark then (if s.spawn.snapping then (s.markAdmitted r).ckptUnit 288 (storedBytes r) else s.markAdmitted r)
  else if r.kind = Kind.resync then s.ckptUnit 384 r.bytes else s

theorem State.admitRec_eq (s : State) (r : InRec) : ∃ due : Bool, s.admitRec r =
    let u := ((s.streamed r).lagged.kindAdmitted (r.admitted s)).journal (storedBytes (r.admitted s))
    if due then (u.updSpawn (fun p => { p with ckptDue := some (s.inlet.isn + 1, r.time, r.payload) })).ckptStart else u := ⟨_, rfl⟩

theorem State.lagged_regs (s : State) : s.lagged.reg Reg.INLET_ADMIT_CNT = satAdd (s.reg Reg.INLET_ADMIT_CNT) 1
    ∧ RegsBut s s.lagged (Reg.INLET_ADMIT_CNT :: streamRegs) := by
  have hspill : RegsBut s s.spill [] := .of_foot [.gecko] (fun _ _ => spill_foot _ (.refl s)) _
  have hlag := regsBut_lags (s.spill.bump Reg.INLET_ADMIT_CNT) (s.spill.bump Reg.INLET_ADMIT_CNT).servers
  refine ⟨?_, ?_⟩
  · exact (hlag _ (by decide)).trans ((State.reg_bump_self _ _).trans (congrArg (satAdd · 1) (hspill _ nofun)))
  · exact ((hspill.mono (List.nil_subset _)).trans ((regsBut_bump _ _).mono (by simp))).trans (RegsBut.mono hlag (by simp))

theorem regsBut_kindAdmitted (s : State) (r : InRec) : RegsBut s (s.kindAdmitted r) streamRegs := by
  have hunit : ∀ (u : State) n bs, RegsBut u (u.ckptUnit n bs) streamRegs := fun u n bs => .of_regs rfl rfl _
  unfold State.kindAdmitted
  split
  · split
    · exact (regsBut_markAdmitted s r).trans (hunit _ _ _)
    · exact regsBut_markAdmitted s r
  · exact .ite (hunit _ _ _) (.refl s _)

/-- What the admission of a record leaves: its place in the stream, and its count. -/
structure Admitted (s t : State) (r : InRec) : Prop where
  count : t.reg Reg.INLET_ADMIT_CNT = satAdd (s.reg Reg.INLET_ADMIT_CNT) 1
  regs : RegsBut s t (Reg.INLET_ADMIT_CNT :: streamRegs)
  inlet : r.kind ≠ Kind.mark → t.inlet = (s.streamed r).inlet

theorem State.admitRec_admitted (s : State) (r : InRec) : Admitted s (s.admitRec r) r := by
  obtain ⟨due, heq⟩ := s.admitRec_eq r
  rw [heq]
  extract_lets u
  obtain ⟨hcnt, hlag⟩ := (s.streamed r).lagged_regs
  have hu : RegsBut (s.streamed r).lagged u streamRegs := (regsBut_kindAdmitted _ _).trans (regsBut_journal _ _)
  have ht : RegsBut u (if due then (u.updSpawn (fun p => { p with ckptDue := some (s.inlet.isn + 1, r.time, r.payload) })).ckptStart else u) streamRegs := by
    split
    · exact regsBut_ckptStart (u.updSpawn _)
    · exact .refl u _
  have hall := hu.trans ht
  refine ⟨(hall _ (by decide)).trans hcnt, RegsBut.trans hlag (hall.mono (by simp)), fun hk => ?_⟩
  have hlagged : (s.streamed r).lagged.inlet = (s.streamed r).inlet := by
    unfold State.lagged
    extract_lets v w
    have hv : v.inlet = (s.streamed r).inlet := same_of_foot [.regs, .gecko] (fun _ _ => bump_foot _ _ (spill_foot _ (.refl (s.streamed r)))) .inlet
    have hw : w.inlet = v.inlet := same_of_foot [.regs] (fun _ _ => foldl_foot _ (fun _ _ h => recordMax_foot _ _ _ h) _ _ (.refl v)) .inlet
    exact hw.trans hv
  have hkind : ((s.streamed r).lagged.kindAdmitted (r.admitted s)).inlet = (s.streamed r).lagged.inlet := by
    unfold State.kindAdmitted
    rw [if_neg (show ¬ (r.admitted s).kind = Kind.mark from hk)]
    split <;> rfl
  have hjournal : u.inlet = ((s.streamed r).lagged.kindAdmitted (r.admitted s)).inlet :=
    same_of_foot [.regs, .spawn, .gecko] (fun _ _ => journal_foot _ _ (.refl _)) .inlet
  have hend : (if due then (u.updSpawn (fun p => { p with ckptDue := some (s.inlet.isn + 1, r.time, r.payload) })).ckptStart else u).inlet = u.inlet := by
    split
    · exact same_of_foot [.regs, .spawn] (fun _ _ => ckptStart_foot _ (.refl (u.updSpawn _))) .inlet
    · rfl
  exact hend.trans (hjournal.trans (hkind.trans hlagged))

/-! ## Which record is the next (R271) -/

theorem takePlace_none {pl : Nat} {l : List (Nat × InRec)} (h : ∀ w, w ∈ l → w.1 ≠ pl) : takePlace pl l = none := by
  induction l with
  | nil => rfl
  | cons w l ih =>
    rw [takePlace, if_neg (h w List.mem_cons_self), ih fun v hv => h v (List.mem_cons_of_mem w hv)]
    rfl

theorem State.admitPlace_none {s : State} {pl : Nat} (h : s.noneAt pl) : s.admitPlace pl = none := by
  unfold State.admitPlace
  rw [takePlace_none h]

theorem State.placesAhead_none {s : State} (ht : s.noneAt Place.tick) (hk : s.noneAt Place.skink) (hg : s.noneAt Place.gecko) :
    State.placesAhead.findSome? s.admitPlace = none := by
  simp only [State.placesAhead, List.findSome?_cons, State.admitPlace_none ht, State.admitPlace_none hk, State.admitPlace_none hg, List.findSome?_nil]

/-- The first of the rotation that has a record waiting. -/
theorem State.rotation_first {s t : State} {i : Nat} (hi : i < 58) (h : s.admitPlace ((s.inlet.rot + i) % 58) = some t)
    (hb : ∀ j, j < i → s.noneAt ((s.inlet.rot + j) % 58)) : s.rotation.findSome? s.admitPlace = some t := by
  have hgen : ∀ n, i < n → ((List.range n).map (fun i => (s.inlet.rot + i) % 58)).findSome? s.admitPlace = some t := by
    intro n
    induction n with
    | zero => exact fun h => absurd h (Nat.not_lt_zero _)
    | succ n ih =>
      intro hn
      rw [List.range_succ, List.map_append, List.findSome?_append]
      rcases Nat.lt_or_ge i n with hlt | hge
      · rw [ih hlt]
        rfl
      · obtain rfl : i = n := by omega
        rw [List.findSome?_eq_none_iff.2]
        · simp [h]
        · intro pl hpl
          obtain ⟨j, hj, rfl⟩ := List.mem_map.1 hpl
          exact State.admitPlace_none (hb j (List.mem_range.1 hj))
  exact hgen 58 hi

/-- The state behind the taking of a place's first record. -/
def State.taken (s : State) (pl : Nat) (w : List (Nat × InRec)) : State :=
  { s with inlet := { s.inlet with waiting := w, rot := if pl < 58 then (pl + 1) % 58 else s.inlet.rot } }

/-- A place's record admitted, with what Gecko's own records do. -/
def State.placeAdmitted (s : State) (pl : Nat) (r : InRec) (w : List (Nat × InRec)) : State :=
  if pl = Place.gecko then ((s.taken pl w).admitSource r).geckoAdmitted r else (s.taken pl w).admitSource r

theorem State.admitPlace_eq {s : State} {pl : Nat} {r : InRec} {w : List (Nat × InRec)} (h : takePlace pl s.inlet.waiting = some (r, w)) :
    s.admitPlace pl = some (s.placeAdmitted pl r w) := by
  unfold State.admitPlace
  rw [h]
  rfl

theorem State.admitNext_place {s : State} {pl : Nat} {r : InRec} {w : List (Nat × InRec)} (hrev : s.inlet.reveal = none) (hb : s.begunUnit = false)
    (hf : s.firstPlace pl) (h : takePlace pl s.inlet.waiting = some (r, w)) : s.admitNext = s.placeAdmitted pl r w := by
  have hp := State.admitPlace_eq h
  unfold State.admitNext
  rw [hrev]
  dsimp only
  rw [hb, if_neg Bool.false_ne_true]
  rcases hf with rfl | ⟨rfl, ht⟩ | ⟨rfl, ht, hk⟩ | ⟨i, hi, rfl, hc, ht, hk, hg, hj⟩
  · simp only [State.placesAhead, List.findSome?_cons, hp]
  · simp only [State.placesAhead, List.findSome?_cons, hp, State.admitPlace_none ht]
  · simp only [State.placesAhead, List.findSome?_cons, hp, State.admitPlace_none ht, State.admitPlace_none hk]
  · have hcmd : s.admitCmd = none := by
      unfold State.admitCmd
      rw [hc]
    rw [State.placesAhead_none ht hk hg, hcmd, State.rotation_first hi hp hj]
    rfl

theorem State.admitNext_cmd {s : State} {u : CmdUnit} {l : List CmdUnit} (hrev : s.inlet.reveal = none)
    (hb : s.begunUnit = true ∨ (s.noneAt Place.tick ∧ s.noneAt Place.skink ∧ s.noneAt Place.gecko)) (hc : s.inlet.cmds = u :: l) :
    s.admitNext = s.admitUnit u l := by
  have hcmd : s.admitCmd = some (s.admitUnit u l) := by
    unfold State.admitCmd
    rw [hc]
  unfold State.admitNext
  rw [hrev, hcmd]
  dsimp only
  split
  · rfl
  · next h =>
    obtain ⟨ht, hk, hg⟩ := hb.resolve_left h
    rw [State.placesAhead_none ht hk hg]

end Sys2Proof.Machine

/-! PROOFS. O23 Admission: what waits first is admitted, an engine without credit fails, a hold admits nothing, and the TICK of each millisecond (R23, R28, R29, R119, R266, R269, R271-R274). -/

namespace Sys2Proof.Machine

/-! ## The admission opportunity (R29, R272) -/

theorem State.admitRecord_credited {s : State} (hm : s.mgmt = Node.run) (hc : s.credited) (hs : s.heldBySpawn = false) :
    s.admitRecord = s.admitNext := by
  obtain ⟨hne, hcred⟩ := hc
  have hcheck : s.creditCheck = s := by
    unfold State.creditCheck
    rw [List.filter_eq_nil_iff.2 fun e he => by rw [hcred e he]; exact Bool.false_ne_true]
  have heng : s.heldByEngines = false := by
    obtain ⟨e, l, hl⟩ := List.exists_cons_of_ne_nil hne
    rw [State.heldByEngines, hl, List.all_cons, hcred e (by rw [hl]; exact List.mem_cons_self)]
    rfl
  unfold State.admitRecord
  rw [if_neg (by rw [hm]; decide), hcheck]
  dsimp only
  rw [if_neg (by rw [hm]; decide), heng, hs]
  rfl

/-- What is revealed, with the gap's record before it. -/
theorem State.admitNext_reveal {s : State} {r : InRec} (h : s.inlet.reveal = some r) :
    s.admitNext = State.admitRec { s with inlet := { s.inlet with reveal := none } } r := by
  unfold State.admitNext
  rw [h]

/-! ## A record of a source, in series and out of it (R274) -/

section

variable {s : State} {r : InRec} {x : U16}

theorem State.admitSource_series (hl : s.inlet.lost.contains r.source.toNat = false)
    (hx : s.inlet.expect.find? (fun x => x.1 == r.source.toNat) = some (r.source.toNat, r.ssn)) : s.admitSource r = s.admitRec r := by
  unfold State.admitSource
  rw [hx]
  dsimp only
  rw [hl]
  exact if_neg (by simp)

theorem State.admitSource_gap (hl : s.inlet.lost.contains r.source.toNat = false)
    (hx : s.inlet.expect.find? (fun x => x.1 == r.source.toNat) = some (r.source.toNat, x)) (hne : x ≠ r.ssn) : s.admitSource r = s.admitGap r x 0 := by
  unfold State.admitSource
  rw [hx]
  dsimp only
  rw [hl, if_pos (by simpa using hne)]
  rfl

/-- The SOURCE_GAP ahead of a record. -/
def gapRec (r : InRec) (x : U16) (cause : Nat) : InRec :=
  { time := r.time, source := r.source, ssn := r.ssn - 1, kind := Kind.sourceGap, payload := gapPayload x r.ssn cause }

/-- The gap's record stands in the stream, the record behind it is revealed, and the gap is counted. -/
theorem State.admitGap_ends (s : State) (r : InRec) (x : U16) (cause : Nat) :
    (∃ l, (s.admitGap r x cause).inlet = { (s.streamed (gapRec r x cause)).inlet with reveal := some r, lost := l })
      ∧ (s.admitGap r x cause).reg Reg.INLET_GAP_CNT = satAdd (s.reg Reg.INLET_GAP_CNT) 1 := by
  have h := s.admitRec_admitted (gapRec r x cause)
  unfold State.admitGap
  extract_lets missing u i v w
  have hu : u.inlet = (s.streamed (gapRec r x cause)).inlet := h.inlet (show Kind.sourceGap ≠ Kind.mark by decide)
  have hcnt : u.reg Reg.INLET_GAP_CNT = s.reg Reg.INLET_GAP_CNT := h.regs _ (by decide)
  refine ⟨⟨u.inlet.lost.filter (· != r.source.toNat), ?_⟩, ?_⟩
  · have hv : (w.raise Reg.INLET_EVT 1).inlet = v.inlet := same_of_foot [.regs] (fun _ _ => raise_foot _ _ _ (setReg_foot _ _ _
      (bumpBy_foot _ _ _ (bump_foot _ _ (.refl v))))) .inlet
    exact hv.trans (congrArg (fun i : Inlet => { i with reveal := some r, lost := u.inlet.lost.filter (· != r.source.toNat) }) hu)
  · have hw : RegsBut (v.bump Reg.INLET_GAP_CNT) (w.raise Reg.INLET_EVT 1) [Reg.INLET_GAP_MISSING_CNT, Reg.INLET_LAST_GAP, Reg.INLET_EVT, Reg.MSIX_PBA 0] :=
      (((regsBut_setReg (v.bump Reg.INLET_GAP_CNT) _ _).mono (by simp)).trans ((regsBut_setReg _ _ _).mono (by simp))).trans
        ((regsBut_raise _ _ _).mono (by simp))
    exact (hw _ (by decide)).trans ((State.reg_bump_self v _).trans (congrArg (satAdd · 1) hcnt))

end

/-- What Gecko's own records do at admission leaves what Inlet took, and its counts. -/
theorem State.geckoAdmitted_ends (s : State) (r : InRec) : RegsBut s (s.geckoAdmitted r) [Reg.INLET_CFG_EPOCH]
    ∧ ∃ b, (s.geckoAdmitted r).inlet = { s.inlet with barriers := b } := by
  unfold State.geckoAdmitted
  split
  · split
    · exact ⟨.of_regs rfl rfl _, _, rfl⟩
    · exact ⟨.refl s _, _, rfl⟩
  · split
    · exact ⟨regsBut_setReg s _ _, _, rfl⟩
    · exact ⟨.refl s _, _, rfl⟩

/-- What follows from the admission of a source's record, for the step of its place. -/
theorem State.placeAdmitted_ends (s : State) (pl : Nat) (r : InRec) (w : List (Nat × InRec)) :
    (∀ o, o ≠ Reg.INLET_CFG_EPOCH → (s.placeAdmitted pl r w).reg o = ((s.taken pl w).admitSource r).reg o)
      ∧ ∃ b, (s.placeAdmitted pl r w).inlet = { ((s.taken pl w).admitSource r).inlet with barriers := b } := by
  unfold State.placeAdmitted
  split
  · obtain ⟨hr, hb⟩ := ((s.taken pl w).admitSource r).geckoAdmitted_ends r
    exact ⟨fun o ho => hr o (by simpa using ho), hb⟩
  · exact ⟨fun _ _ => rfl, _, rfl⟩

/-! ## A host command's records (R23, R119) -/

theorem CmdUnit.renew_fields (u : CmdUnit) (epoch : Nat) : (u.renew epoch).cfg = u.cfg ∧ (u.renew epoch).sent = u.sent := by
  unfold CmdUnit.renew
  dsimp only
  split <;> exact ⟨rfl, rfl⟩

/-- The command as its first record carries it. -/
def CmdUnit.asAdmitted (u : CmdUnit) (s : State) : CmdUnit := if u.cfg && u.sent = 0 then u.renew ((s.cfgEpoch + 1) % 65536) else u

theorem CmdUnit.asAdmitted_cfg (u : CmdUnit) (s : State) : (u.asAdmitted s).cfg = u.cfg := by
  unfold CmdUnit.asAdmitted
  split
  · exact (u.renew_fields _).1
  · rfl

/-- The state behind the record of a unit. -/
def State.unitTaken (s : State) (v : CmdUnit) : State := (s.unitRec v).2.admitRec (s.unitRec v).1

/-- The commands that wait for Inlet. -/
def State.withCmds (t : State) (c : List CmdUnit) : State := { t with inlet := { t.inlet with cmds := c } }

/-- The command behind its next record. -/
def CmdUnit.next (v : CmdUnit) : CmdUnit := { v with sent := v.sent + 1 }

theorem State.admitUnit_eq (s : State) (u : CmdUnit) (l : List CmdUnit) : s.admitUnit u l =
    if (u.asAdmitted s).sent + 1 < (u.asAdmitted s).bodies.length then (s.unitTaken (u.asAdmitted s)).withCmds ((u.asAdmitted s).next :: l)
    else ((s.unitTaken (u.asAdmitted s)).withCmds l).unitAdmitted (u.asAdmitted s).next := rfl

/-- The record of a command's next part. -/
def CmdUnit.partRec (v : CmdUnit) (ssn : U16) : InRec :=
  { time := v.time, source := mkSource 6 0, ssn := ssn, kind := Kind.cmd,
    payload := cmdPayload v.opcode.toNat v.sent (v.partTarget v.sent) v.bodies.length, ext := v.bodies.getD v.sent [] }

theorem State.unitTaken_eq (s : State) (v : CmdUnit) :
    ∃ ssn k, s.unitTaken v = State.admitRec { s with inlet := { s.inlet with ssn := k } } (v.partRec ssn) := ⟨_, _, rfl⟩

/-- A unit's record stands in the stream, and the rest of Inlet as before. -/
theorem State.unitTaken_ends (s : State) (v : CmdUnit) :
    (∃ g : InRec, ∃ k x, (s.unitTaken v).inlet = { s.inlet with isn := s.inlet.isn + 1, stream := s.inlet.stream ++ [g], holding := false, ssn := k, expect := x }
        ∧ g.kind = Kind.cmd ∧ g.isn = s.inlet.isn + 1 ∧ g.source = mkSource 6 0
        ∧ g.payload = cmdPayload v.opcode.toNat v.sent (v.partTarget v.sent) v.bodies.length ∧ g.ext = v.bodies.getD v.sent [])
      ∧ RegsBut s (s.unitTaken v) (Reg.INLET_ADMIT_CNT :: streamRegs) := by
  obtain ⟨ssn, k, h⟩ := s.unitTaken_eq v
  rw [h]
  have hadm := State.admitRec_admitted { s with inlet := { s.inlet with ssn := k } } (v.partRec ssn)
  refine ⟨⟨_, k, _, (hadm.inlet (show Kind.cmd ≠ Kind.mark by decide)).trans rfl, rfl, rfl, rfl, rfl, rfl⟩, ?_⟩
  exact RegsBut.trans (.of_regs rfl rfl _) hadm.regs

/-- A command's last record opens the barrier of a configuration change, and of no other. -/
theorem State.unitAdmitted_ends (t : State) (w : CmdUnit) :
    (w.cfg = false → (t.unitAdmitted w).inlet = t.inlet ∧ (t.unitAdmitted w).cfgEpoch = t.cfgEpoch)
      ∧ (w.cfg = true → (t.unitAdmitted w).inlet = { t.inlet with barriers := t.inlet.barriers ++ [(t.inlet.isn.toNat, w)] }
        ∧ (t.unitAdmitted w).cfgEpoch = (t.cfgEpoch + 1) % 65536)
      ∧ RegsBut t (t.unitAdmitted w) [Reg.INLET_CFG_EPOCH] := by
  unfold State.unitAdmitted
  dsimp only
  refine ⟨fun h => ?_, fun h => ?_, ?_⟩
  · rw [if_neg (by rw [h]; exact Bool.false_ne_true)]
    exact ⟨rfl, State.rfld_of_reg (State.reg_congr rfl rfl _) _ _⟩
  · rw [if_pos h]
    refine ⟨rfl, ?_⟩
    have hreg : (t.openBarrier t.inlet.isn w).reg Reg.INLET_CFG_EPOCH = BitVec.ofNat 32 ((t.cfgEpoch + 1) % 65536) :=
      (State.reg_setReg t _ _ _).trans (if_pos rfl)
    refine (State.rfld_of_reg (s := t.openBarrier t.inlet.isn w) (State.reg_congr rfl rfl _) 0 16).trans ?_
    rw [State.rfld, hreg, fld, BitVec.toNat_ofNat]
    omega
  · split
    · exact regsBut_setReg t _ _
    · exact .of_regs rfl rfl _

/-! ## What the admission writes (R29) -/

/-- Registers that an admission may write. -/
def admitRegs : List Off :=
  Reg.INLET_ADMIT_CNT :: streamRegs ++ [Reg.INLET_GAP_CNT, Reg.INLET_GAP_MISSING_CNT, Reg.INLET_LAST_GAP, Reg.INLET_EVT, Reg.MSIX_PBA 0, Reg.INLET_CFG_EPOCH]

theorem regsBut_admitRec (s : State) (r : InRec) : RegsBut s (s.admitRec r) admitRegs :=
  RegsBut.mono (s.admitRec_admitted r).regs (List.subset_append_left _ _)

theorem regsBut_admitSource (s : State) (r : InRec) : RegsBut s (s.admitSource r) admitRegs := by
  have hgap : ∀ x cause, RegsBut s (s.admitGap r x cause) admitRegs := by
    intro x cause
    unfold State.admitGap
    extract_lets missing u i v w
    have hu : RegsBut s u admitRegs := regsBut_admitRec s (gapRec r x cause)
    have hv : RegsBut u v admitRegs := .of_regs rfl rfl _
    have hw : RegsBut v w admitRegs := (((regsBut_bump v _).mono (by simp [admitRegs])).trans ((regsBut_setReg _ _ _).mono (by simp [admitRegs]))).trans
      ((regsBut_setReg _ _ _).mono (by simp [admitRegs]))
    exact ((hu.trans hv).trans hw).trans ((regsBut_raise w _ _).mono (by simp [admitRegs]))
  unfold State.admitSource
  dsimp only
  split
  · exact .ite (hgap _ _) (regsBut_admitRec s r)
  · exact .ite (hgap _ _) (regsBut_admitRec s r)

theorem regsBut_admitUnit (s : State) (u : CmdUnit) (l : List CmdUnit) : RegsBut s (s.admitUnit u l) admitRegs := by
  rw [State.admitUnit_eq]
  have ht : RegsBut s (s.unitTaken (u.asAdmitted s)) admitRegs := RegsBut.mono (s.unitTaken_ends _).2 (List.subset_append_left _ _)
  have hput : ∀ c, RegsBut s ((s.unitTaken (u.asAdmitted s)).withCmds c) admitRegs := fun c =>
    RegsBut.trans (t := s.unitTaken (u.asAdmitted s)) ht (.of_regs rfl rfl _)
  split
  · exact hput _
  · exact (hput l).trans (RegsBut.mono (State.unitAdmitted_ends _ _).2.2 (by simp [admitRegs]))

theorem regsBut_admitPlace {s t : State} {pl : Nat} (h : s.admitPlace pl = some t) : RegsBut s t admitRegs := by
  cases hp : takePlace pl s.inlet.waiting with
  | none =>
    unfold State.admitPlace at h
    rw [hp] at h
    cases h
  | some x =>
    rw [State.admitPlace_eq hp] at h
    cases h
    have hs : RegsBut s ((s.taken pl x.2).admitSource x.1) admitRegs := RegsBut.trans (t := s.taken pl x.2) (.of_regs rfl rfl _) (regsBut_admitSource _ _)
    intro o ho
    exact ((s.placeAdmitted_ends pl x.1 x.2).1 o (fun he => ho (by rw [he]; simp [admitRegs]))).trans (hs o ho)

theorem regsBut_admitNext (s : State) : RegsBut s s.admitNext admitRegs := by
  have hcmd : ∀ t, s.admitCmd = some t → RegsBut s t admitRegs := by
    intro t h
    unfold State.admitCmd at h
    split at h
    · cases h
      exact regsBut_admitUnit s _ _
    · cases h
  have hplace : ∀ (l : List Nat) t, l.findSome? s.admitPlace = some t → RegsBut s t admitRegs := by
    intro l t h
    obtain ⟨pl, -, hpl⟩ := List.exists_of_findSome?_eq_some h
    exact regsBut_admitPlace hpl
  have hget : ∀ o : Option State, (∀ t, o = some t → RegsBut s t admitRegs) → RegsBut s (o.getD s) admitRegs := by
    intro o ho
    cases o with
    | none => exact .refl s _
    | some t => exact ho t rfl
  unfold State.admitNext
  split
  · exact RegsBut.trans (t := { s with inlet := { s.inlet with reveal := none } }) (.of_regs rfl rfl _) (regsBut_admitRec _ _)
  · split
    · exact hget _ hcmd
    · split
      · next t ht => exact hplace _ t ht
      · split
        · next t ht => exact hcmd t ht
        · exact hget _ (hplace _)

/-- A failed engine's record stands while its engine, the hold and its count do. -/
theorem EngineFailed.stands {s t u : State} {e : EngineId} {cause : Nat} (h : EngineFailed s t e cause) (heng : u.eng e = t.eng e)
    (hk : u.skink = t.skink) (hr : u.reg (Reg.AE_FAIL_CNT (engIx e)) = t.reg (Reg.AE_FAIL_CNT (engIx e))) : EngineFailed s u e cause :=
  ⟨(State.serves_congr heng).trans h.out, by rw [heng]; exact h.cause, hr.trans h.count, by rw [hk]; exact h.hold⟩

theorem regsBut_beginHold (s : State) : RegsBut s s.beginHold [Reg.INLET_HOLD_CNT, Reg.SPAWN_HOLD_CNT, Reg.SPAWN_EVT, Reg.MSIX_PBA 0] := by
  unfold State.beginHold
  split
  · exact .refl s _
  extract_lets i v
  have hi : RegsBut s { s with inlet := { i with holding := true } } [Reg.INLET_HOLD_CNT, Reg.SPAWN_HOLD_CNT, Reg.SPAWN_EVT, Reg.MSIX_PBA 0] := .of_regs rfl rfl _
  have hv : RegsBut s v [Reg.INLET_HOLD_CNT, Reg.SPAWN_HOLD_CNT, Reg.SPAWN_EVT, Reg.MSIX_PBA 0] := hi.trans ((regsBut_bump _ _).mono (by simp))
  exact hv.trans (.ite (((regsBut_bump v _).mono (by simp)).trans ((regsBut_raise _ _ _).mono (by simp))) (.refl v _))

/-- An engine without credit beside one that has some, or alone, is failed, whatever is admitted then. -/
theorem State.admitRecord_fails {s : State} {e : EngineId} (hm : s.mgmt = Node.run) (he : s.servers.filter s.noCredit = [e]) :
    EngineFailed s s.admitRecord e 4 := by
  have hserve : s.serves e = true := by
    have hin : e ∈ s.servers := List.mem_of_mem_filter (by rw [he]; exact List.mem_singleton_self e)
    exact (List.mem_filter.1 hin).2
  have hfail := State.failEngine_fails hserve 4
  have hcheck : s.creditCheck = s.failEngine e 4 := by
    unfold State.creditCheck
    rw [he]
  unfold State.admitRecord
  rw [if_neg (by rw [hm]; decide), hcheck]
  dsimp only
  generalize s.failEngine e 4 = t at hfail ⊢
  have hnot : Reg.AE_FAIL_CNT (engIx e) ∉ [Reg.INLET_HOLD_CNT, Reg.SPAWN_HOLD_CNT, Reg.SPAWN_EVT, Reg.MSIX_PBA 0]
      ∧ Reg.AE_FAIL_CNT (engIx e) ∉ admitRegs := by cases e <;> decide
  split
  · exact hfail
  · split
    · have hp : PartsBut t t.beginHold [.regs, .inlet] := fun z hz => same_of_foot [.regs, .inlet] (fun _ _ => beginHold_foot _ (.refl t)) z hz
      exact hfail.stands (PartsBut.eng hp (e := e)) (hp .skink (by decide)) (regsBut_beginHold t _ hnot.1)
    · have hp : PartsBut t t.admitNext [.regs, .inlet, .hif, .spawn, .gecko] := fun z hz =>
        same_of_foot [.regs, .inlet, .hif, .spawn, .gecko] (fun _ _ => admitNext_foot _ (.refl t)) z hz
      exact hfail.stands (PartsBut.eng hp (e := e)) (hp .skink (by decide)) (regsBut_admitNext t _ hnot.2)

/-- With every engine in service without credit, and not one alone, nothing is admitted and a hold begins. -/
theorem State.admitRecord_holds {s : State} (hm : s.mgmt = Node.run) (hh : s.heldByEngines = true) (hn : s.servers.length ≠ 1) :
    s.admitRecord = s.beginHold := by
  have hall : s.servers.filter s.noCredit = s.servers := List.filter_eq_self.2 (List.all_eq_true.1 hh)
  have hcheck : s.creditCheck = s := by
    unfold State.creditCheck
    rw [hall]
    split
    · next e he => exact absurd (by rw [he]; rfl) hn
    · rfl
  unfold State.admitRecord
  rw [if_neg (by rw [hm]; decide), hcheck]
  dsimp only
  rw [if_neg (by rw [hm]; decide), hh]
  rfl

theorem State.beginHold_ends {s : State} (h : s.inlet.holding = false) : s.beginHold.inlet = { s.inlet with holding := true }
    ∧ s.beginHold.reg Reg.INLET_HOLD_CNT = satAdd (s.reg Reg.INLET_HOLD_CNT) 1 := by
  unfold State.beginHold
  rw [if_neg (by rw [h]; exact Bool.false_ne_true)]
  extract_lets i v
  have hcnt : v.reg Reg.INLET_HOLD_CNT = satAdd (s.reg Reg.INLET_HOLD_CNT) 1 := State.reg_bump_self { s with inlet := _ } _
  refine ⟨?_, ?_⟩
  · split
    · exact same_of_foot [.regs] (fun _ _ => raise_foot _ _ _ (bump_foot _ _ (.refl v))) .inlet
    · rfl
  · split
    · exact ((regsBut_raise _ _ _ _ (by decide)).trans (regsBut_bump v _ _ (by decide))).trans hcnt
    · exact hcnt

/-! ## TICKs (R28, R269) -/

/-- The free-running counter counts every clock, whatever takes place in them. -/
theorem State.pass_frc (s : State) (n : Nat) : (s.pass n).ws.frc = s.ws.frc + BitVec.ofNat 64 n := by
  unfold State.pass
  have hedge : (State.tmoEdges s ((s.countWait n).elapse n)).ws = ((s.countWait n).elapse n).ws :=
    same_of_foot [.regs, .dio] (fun _ _ => tmoEdges_foot _ _ (.refl _)) .ws
  have hwait : (s.countWait n).ws = s.ws := same_of_foot [.gecko] (fun _ _ => countWait_foot _ _ (.refl s)) .ws
  rw [hedge, ← hwait]
  generalize s.countWait n = u
  unfold State.elapse
  split
  · next sw _ =>
    dsimp only
    split
    · next hle =>
      obtain ⟨e, m, hws⟩ := State.applySwitch_ws { u with ws := u.ws.clocks (sw.at_ - u.ws.frc).toNat } sw
      have hfrc : (State.applySwitch { u with ws := u.ws.clocks (sw.at_ - u.ws.frc).toNat } sw).ws.frc
          = u.ws.frc + BitVec.ofNat 64 (sw.at_ - u.ws.frc).toNat := by
        rw [hws]
        exact (Wellspring.applied_switched _ _ _ _ _).frc
      show (State.applySwitch { u with ws := u.ws.clocks (sw.at_ - u.ws.frc).toNat } sw).ws.frc + BitVec.ofNat 64 _ = _
      rw [hfrc]
      bv_omega
    · rfl
  · rfl

/-- The TICK of a millisecond. -/
def State.tickRec (s : State) : InRec :=
  { time := s.now, source := mkSource 5 0, kind := Kind.tick, payload := s.inlet.tickNo + 1, ext := s.tickExt }

/-- Inlet with the next TICK's number. -/
def State.tickNumbered (s : State) : State := { s with inlet := { s.inlet with tickNo := s.inlet.tickNo + 1 } }

theorem State.issueTick_run {s : State} (hm : s.mgmt = Node.run) :
    s.issueTick = s.tickNumbered.offer Place.tick s.tickRec := if_neg (by rw [hm]; decide)

theorem State.offer_lost {s : State} {pl : Nat} (r : InRec) (h : s.hasCredit pl = false) :
    (s.offer pl r).inlet.waiting = s.inlet.waiting ∧ (s.offer pl r).reg (placeOvr pl) = satAdd (s.reg (placeOvr pl)) 1 := by
  have hne : placeOvr pl ∉ [Reg.INLET_EVT, Reg.MSIX_PBA 0] := by
    unfold placeOvr
    split
    · decide
    split
    · decide
    split <;> decide
  have hc : (s.takeSsn r.source).2.hasCredit pl = false := h
  have hw : (s.takeSsn r.source).2.inlet.waiting = s.inlet.waiting := rfl
  have hreg : (s.takeSsn r.source).2.reg (placeOvr pl) = s.reg (placeOvr pl) := State.reg_congr rfl rfl _
  have he : s.offer pl r = (s.takeSsn r.source).2.overrun pl := by
    unfold State.offer
    exact if_neg fun ht => absurd (hc.symm.trans ht) Bool.false_ne_true
  rw [he, ← hw, ← hreg]
  generalize (s.takeSsn r.source).2 = u
  have hp : (u.overrun pl).inlet = u.inlet := same_of_foot [.regs, .gecko] (fun _ _ => overrun_foot _ _ (.refl u)) .inlet
  exact ⟨by rw [hp], (regsBut_raise _ _ _ _ hne).trans (State.reg_bump_self { u with gecko := _ } _)⟩

theorem State.offer_kept (s : State) (pl : Nat) (r : InRec) : (s.offer pl r).inlet.tickNo = s.inlet.tickNo ∧ (s.offer pl r).ws = s.ws := by
  obtain ⟨w, k, h⟩ := (s.offer_offered pl r).inlet
  exact ⟨by rw [h], same_of_foot [.regs, .inlet, .gecko] (fun _ _ => offer_foot _ _ _ (.refl s)) .ws⟩

theorem State.issueTick_waits {p : State} (hm : p.mgmt = Node.run) (hc : p.hasCredit Place.tick = true) :
    p.issueTick.ws = p.ws ∧ p.issueTick.inlet.tickNo = p.inlet.tickNo + 1
      ∧ ∃ r : InRec, p.issueTick.inlet.waiting = p.inlet.waiting ++ [(Place.tick, r)] ∧ r.kind = Kind.tick ∧ r.payload = p.issueTick.inlet.tickNo
        ∧ r.time = p.issueTick.now ∧ r.source = mkSource 5 0 := by
  rw [State.issueTick_run hm]
  obtain ⟨hno, hws⟩ := p.tickNumbered.offer_kept Place.tick p.tickRec
  have hc' : p.tickNumbered.hasCredit Place.tick = true := hc
  obtain ⟨n, hwait, -⟩ := State.offer_credit p.tickNumbered p.tickRec hc'
  exact ⟨hws, hno, _, hwait, rfl, hno.symm, (congrArg Wellspring.time hws).symm, rfl⟩

theorem State.issueTick_lost {p : State} (hm : p.mgmt = Node.run) (hc : p.hasCredit Place.tick = false) :
    p.issueTick.inlet.waiting = p.inlet.waiting ∧ p.issueTick.reg Reg.INLET_OVR_TICK_CNT = satAdd (p.reg Reg.INLET_OVR_TICK_CNT) 1 := by
  rw [State.issueTick_run hm]
  have hc' : p.tickNumbered.hasCredit Place.tick = false := hc
  obtain ⟨hwait, hcnt⟩ := State.offer_lost p.tickRec hc'
  exact ⟨hwait, hcnt.trans (congrArg (satAdd · 1) (State.reg_congr rfl rfl _))⟩

/-- A command's record admitted, and the command behind it. -/
theorem State.admitUnit_ends (s : State) {u v : CmdUnit} (l : List CmdUnit) (hv : v = u.asAdmitted s) :
    (s.admitUnit u l).inlet.isn = s.inlet.isn + 1 ∧ (s.admitUnit u l).inlet.waiting = s.inlet.waiting
      ∧ (∃ g : InRec, (s.admitUnit u l).inlet.stream = s.inlet.stream ++ [g] ∧ g.kind = Kind.cmd ∧ g.isn = s.inlet.isn + 1 ∧ g.source = mkSource 6 0
            ∧ g.payload = cmdPayload v.opcode.toNat v.sent (v.partTarget v.sent) v.bodies.length ∧ g.ext = v.bodies.getD v.sent [])
      ∧ (v.sent + 1 < v.bodies.length → (s.admitUnit u l).inlet.cmds = v.next :: l ∧ (s.admitUnit u l).inlet.barriers = s.inlet.barriers
            ∧ (s.admitUnit u l).cfgEpoch = s.cfgEpoch)
      ∧ (v.bodies.length ≤ v.sent + 1 → (s.admitUnit u l).inlet.cmds = l
            ∧ (u.cfg = false → (s.admitUnit u l).cfgEpoch = s.cfgEpoch ∧ (s.admitUnit u l).inlet.barriers = s.inlet.barriers)
            ∧ (u.cfg = true → (s.admitUnit u l).cfgEpoch = (s.cfgEpoch + 1) % 65536
                ∧ (s.admitUnit u l).inlet.barriers = s.inlet.barriers ++ [((s.inlet.isn + 1).toNat, v.next)])) := by
  have hcfg : v.next.cfg = u.cfg := by rw [hv, CmdUnit.next, CmdUnit.asAdmitted_cfg]
  rw [State.admitUnit_eq, ← hv]
  obtain ⟨⟨g, k, x, hin, hg⟩, hregs⟩ := s.unitTaken_ends v
  have hepoch : (s.unitTaken v).cfgEpoch = s.cfgEpoch := State.rfld_of_reg (hregs _ (by decide)) _ _
  generalize s.unitTaken v = t at hin hepoch ⊢
  have hput : ∀ c, (t.withCmds c).inlet = { t.inlet with cmds := c } ∧ (t.withCmds c).cfgEpoch = s.cfgEpoch := fun c => ⟨rfl, hepoch⟩
  by_cases hmore : v.sent + 1 < v.bodies.length
  · rw [if_pos hmore]
    obtain ⟨hput, hput'⟩ := hput (v.next :: l)
    rw [hput, hin]
    exact ⟨rfl, rfl, ⟨g, rfl, hg⟩, fun _ => ⟨rfl, rfl, hput'⟩, fun hle => absurd hmore (Nat.not_lt.2 hle)⟩
  · rw [if_neg hmore]
    obtain ⟨hput, hput'⟩ := hput l
    generalize t.withCmds l = w at hput hput' ⊢
    rw [hin] at hput
    obtain ⟨hplain, hbar, -⟩ := w.unitAdmitted_ends v.next
    have hrest : ∃ bs, (w.unitAdmitted v.next).inlet = { w.inlet with barriers := bs } := by
      cases hc : v.next.cfg
      · exact ⟨_, (hplain hc).1⟩
      · exact ⟨_, (hbar hc).1⟩
    obtain ⟨bs, hbs⟩ := hrest
    refine ⟨?_, ?_, ⟨g, ?_, hg⟩, fun h => absurd h hmore, fun _ => ⟨?_, fun hno => ?_, fun hyes => ?_⟩⟩
    · rw [hbs, hput]
    · rw [hbs, hput]
    · rw [hbs, hput]
    · rw [hbs, hput]
    · obtain ⟨h1, h2⟩ := hplain (hcfg.trans hno)
      exact ⟨h2.trans hput', by rw [h1, hput]⟩
    · obtain ⟨h1, h2⟩ := hbar (hcfg.trans hyes)
      exact ⟨h2.trans (by rw [hput']), by rw [h1, hput]⟩

/-! ## Settling the statement -/

/-- Settles O23: with credit the place that R271 names is admitted, and each way of admitting ends in one record's. -/
theorem admission : Obligations.Admission := by
  unfold Obligations.Admission
  refine ⟨fun s hm => ⟨fun hc hs r hr hk => ?reveal, fun hc hs hr hb pl r w hf hp hk hl => ⟨fun hx => ?series, fun x hx hne => ?gap⟩,
    fun hc hs hr hb u v l hu hv => ?unit, fun e he => ?fails, fun hh hn hhold => ?hold⟩, fun s hm => ⟨fun hcr => ?tick, fun hcr => ?lost⟩⟩
  case reveal =>
    refine ⟨_, congrArg Host.Outcome.next ((State.admitRecord_credited (s := s.fresh) hm hc hs).trans (State.admitNext_reveal hr)), ?_⟩
    obtain ⟨hcnt, -, hin⟩ := State.admitRec_admitted { s.fresh with inlet := { s.fresh.inlet with reveal := none } } r
    have hin' := hin hk
    refine ⟨?_, ?_, ?_, hcnt⟩
    · rw [hin']
      rfl
    · rw [hin']
      rfl
    · rw [hin']
      rfl
  case series =>
    have hrun : s.fresh.admitRecord = s.fresh.placeAdmitted pl r w :=
      (State.admitRecord_credited (s := s.fresh) hm hc hs).trans (State.admitNext_place hr hb hf hp)
    refine ⟨_, congrArg Host.Outcome.next hrun, ?_⟩
    obtain ⟨-, b, hin⟩ := s.fresh.placeAdmitted_ends pl r w
    have hsource : (s.fresh.taken pl w).admitSource r = (s.fresh.taken pl w).admitRec r := State.admitSource_series hl hx
    rw [hsource, ((s.fresh.taken pl w).admitRec_admitted r).inlet hk] at hin
    rw [hin]
    exact ⟨rfl, rfl, rfl, rfl⟩
  case gap =>
    have hrun : s.fresh.admitRecord = s.fresh.placeAdmitted pl r w :=
      (State.admitRecord_credited (s := s.fresh) hm hc hs).trans (State.admitNext_place hr hb hf hp)
    refine ⟨_, congrArg Host.Outcome.next hrun, ?_⟩
    obtain ⟨hreg, b, hin⟩ := s.fresh.placeAdmitted_ends pl r w
    have hsource : (s.fresh.taken pl w).admitSource r = (s.fresh.taken pl w).admitGap r x 0 := State.admitSource_gap hl hx hne
    obtain ⟨⟨lo, hgap⟩, hcnt⟩ := (s.fresh.taken pl w).admitGap_ends r x 0
    rw [hsource, hgap] at hin
    rw [hin, hreg _ (by decide), hsource]
    exact ⟨rfl, rfl, rfl, rfl, ⟨_, rfl, rfl, rfl, rfl⟩, hcnt⟩
  case unit =>
    have hrun : s.fresh.admitRecord = s.fresh.admitUnit u l :=
      (State.admitRecord_credited (s := s.fresh) hm hc hs).trans (State.admitNext_cmd hr hb hu)
    exact ⟨_, congrArg Host.Outcome.next hrun, s.fresh.admitUnit_ends l hv⟩
  case fails =>
    obtain ⟨hout, hcause, hcnt, hhold⟩ := State.admitRecord_fails (s := s.fresh) hm he
    exact ⟨s.fresh.admitRecord, rfl, hout, hcause, hcnt, hhold⟩
  case hold =>
    exact ⟨_, congrArg Host.Outcome.next (State.admitRecord_holds (s := s.fresh) hm hh hn), State.beginHold_ends hhold⟩
  case tick =>
    obtain ⟨hws, hrest⟩ := State.issueTick_waits hm hcr
    exact ⟨_, rfl, (congrArg Wellspring.frc hws).trans (s.fresh.pass_frc s.fresh.toTick), hrest⟩
  case lost => exact ⟨_, rfl, State.issueTick_lost hm hcr⟩

end Sys2Proof.Machine

/-! PROOFS. Outlet's merge and backlog (R280-R283, R286, R506): what a release adds, and what a failure leaves. -/

namespace Sys2Proof.Machine

/-! ## The merge only empties, and the backlog only grows -/

/-- Copies that wait go out of the merge, and what is released stands behind what stood there. -/
structure OutGrows (s t : State) : Prop where
  merge : ∀ m, m ∈ t.outlet.merge → m ∈ s.outlet.merge
  backlog : ∃ l, t.outlet.backlog = s.outlet.backlog ++ l

theorem OutGrows.refl (s : State) : OutGrows s s := ⟨fun _ h => h, [], (List.append_nil _).symm⟩

theorem OutGrows.trans {s t u : State} (h : OutGrows s t) (k : OutGrows t u) : OutGrows s u := by
  obtain ⟨l, hl⟩ := h.backlog
  obtain ⟨l', hl'⟩ := k.backlog
  exact ⟨fun m hm => h.merge m (k.merge m hm), l ++ l', by rw [hl', hl, List.append_assoc]⟩

theorem OutGrows.of_fields {s t : State} (hm : t.outlet.merge = s.outlet.merge) (hb : t.outlet.backlog = s.outlet.backlog) : OutGrows s t :=
  ⟨fun m h => by rw [← hm]; exact h, [], by rw [hb, List.append_nil]⟩

theorem OutGrows.of_outlet {s t : State} (h : t.outlet = s.outlet) : OutGrows s t := .of_fields (by rw [h]) (by rw [h])

theorem OutGrows.ite {c : Prop} [Decidable c] {s t u : State} (ht : OutGrows s t) (hu : OutGrows s u) : OutGrows s (if c then t else u) := by
  split
  · exact ht
  · exact hu

theorem OutGrows.haltNode (s : State) (cause engCause : Nat) : OutGrows s (s.haltNode cause engCause) := by
  have hcan : ∀ u : State, OutGrows u u.canHalt := by
    intro u
    have hbegun : OutGrows u { u with canWalk := [], outlet := { u.outlet with pubCan := [] } } := .of_fields rfl rfl
    refine hbegun.trans (.of_outlet ?_)
    exact same_of_foot [.regs, .hif, .can, .inlet, .gecko] (fun _ _ => foldl_foot _ (fun _ _ h => canHaltOne_foot _ _ h) _ _ (.refl _)) .outlet
  by_cases h : s.mgmt = Node.faultHalt
  · unfold State.haltNode
    rw [if_pos h]
    exact .refl s
  · rw [State.haltNode_eq h]
    have hshown : (s.haltShown cause engCause).outlet = s.outlet := same_of_foot [.regs, .spawn, .dio, .fe, .inlet, .hif] (fun _ _ =>
      raise_foot _ _ _ (setMgmt_foot _ _ (setPair_foot _ _ _ _ (setReg_foot _ _ _ (lanesEnd_foot _ _ (requestsEnd_foot _ (endContinuous_foot _
        (closeTaken_foot _ (.refl s))))))))) .outlet
    exact (OutGrows.of_outlet hshown).trans (hcan _)

theorem OutGrows.failCore (s : State) (e : EngineId) (cause : Nat) : OutGrows s (s.failCore e cause) := by
  have hleave : ∀ u : State, OutGrows u (u.leaveService e cause) := by
    intro u
    unfold State.leaveService
    extract_lets source v w x
    have hv : v.outlet = u.outlet := by
      unfold v
      split
      · exact same_of_foot [.aeA, .aeB, .skink] (fun _ _ => releaseHold_foot _ (.refl u)) .outlet
      · rfl
    have hx : x.outlet = v.outlet := same_of_foot [.regs, .inlet, .gecko, .aeA, .aeB, .skink, .spawn, .hif] (fun _ _ =>
      offerStatus_foot _ _ (abandonCopy_foot _ _ (snapRetry_foot _ _ _ (dropWaiter_foot _ _ (.refl v))))) .outlet
    exact (OutGrows.of_outlet (hx.trans hv)).trans (.ite (.haltNode x _ _) (.refl x))
  have hrec : OutGrows s (s.recordFailure e cause) := .of_outlet (s.recordFailure_parts e cause .outlet (by decide))
  unfold State.failCore
  refine .ite (hrec.trans (hleave _)) (.ite ?_ (.refl s))
  exact hrec.trans (.of_outlet (same_of_foot [.regs, .inlet, .gecko, .aeA, .aeB, .skink] (fun _ _ =>
    offerStatus_foot _ _ (abandonCopy_foot _ _ (.refl (s.recordFailure e cause)))) .outlet))

theorem OutGrows.pointMismatch (s : State) (p : Nat) : OutGrows s (s.pointMismatch p) := by
  unfold State.pointMismatch
  refine .ite (.refl s) (.ite (.of_outlet ?_) (.ite (.of_fields rfl rfl) ?_))
  · exact same_of_foot [.regs, .inlet, .aeA, .aeB, .skink, .gecko] (fun _ _ => offerDiverge_foot _ _ (.refl s)) .outlet
  · split
    · exact .failCore s _ _
    · exact .refl s

theorem OutGrows.mismatch (s : State) (v : Event) : OutGrows s (s.mismatch v) := by
  unfold State.mismatch
  extract_lets u w
  have hw : OutGrows s w := .of_outlet (same_of_foot [.regs] (fun _ _ => raise_foot _ _ _ (bump_foot _ _ (setPair_foot _ _ _ _ (.refl s)))) .outlet)
  refine .ite (hw.trans (.pointMismatch w _)) ?_
  split
  · exact hw.trans (.failCore w _ _)
  · exact hw

/-! ## One ESN released -/

/-- What Outlet holds, the receivers' queues and the forerunner's apart. -/
structure SameStore (s t : State) : Prop where
  merge : t.outlet.merge = s.outlet.merge
  nextRel : t.outlet.nextRel = s.outlet.nextRel
  backlog : t.outlet.backlog = s.outlet.backlog

theorem SameStore.refl (s : State) : SameStore s s := ⟨rfl, rfl, rfl⟩

theorem SameStore.trans {s t u : State} (h : SameStore s t) (k : SameStore t u) : SameStore s u :=
  ⟨k.merge.trans h.merge, k.nextRel.trans h.nextRel, k.backlog.trans h.backlog⟩

theorem SameStore.of_outlet {s t : State} (h : t.outlet = s.outlet) : SameStore s t := ⟨by rw [h], by rw [h], by rw [h]⟩

theorem SameStore.grows {s t : State} (h : SameStore s t) : OutGrows s t := .of_fields h.merge h.backlog

/-- What the receivers get of a released ESN. -/
def State.handOut (s : State) (v : Event) (cs : List Event) : State := (((s.noteRelease v).legacyPut v).publish cs).eventTrigger v

theorem State.handOut_store (s : State) (v : Event) (cs : List Event) : SameStore s (s.handOut v cs) := by
  have hnote : SameStore s (s.noteRelease v) := .of_outlet (same_of_foot [.regs] (fun _ _ => noteRelease_foot _ _ (.refl s)) .outlet)
  have hleg : ∀ u : State, SameStore u (u.legacyPut v) := by
    intro u
    unfold State.legacyPut
    split
    · split
      · exact ⟨rfl, rfl, rfl⟩
      · exact .of_outlet (same_of_foot [.regs] (fun _ _ => raise_foot _ _ _ (bump_foot _ _ (.refl u))) .outlet)
    · exact .refl u
  have hpub : ∀ u : State, SameStore u (u.publish cs) := by
    intro u
    unfold State.publish
    split
    · exact .refl u
    · exact ⟨rfl, rfl, rfl⟩
  have htrig : ∀ u : State, SameStore u (u.eventTrigger v) := fun u =>
    .of_outlet (same_of_foot [.regs, .spawn] (fun _ _ => eventTrigger_foot _ _ (.refl u)) .outlet)
  exact ((hnote.trans (hleg _)).trans (hpub _)).trans (htrig _)

/-- The merge without an ESN, the next of the series in its turn. -/
def State.esnOut (s : State) (m : Merge) : State :=
  s.updOutlet (fun o => { o with nextRel := nextEsnOf m.esn, merge := o.merge.filter (fun x => x.esn != m.esn) })

/-- A released ESN in its place of the backlog. -/
def State.placed (s : State) (b : Backlog) : State :=
  (s.lineWritten (Tarn.ELASTIC + 32 * b.place) 32).updOutlet (fun o => { o with backlog := o.backlog ++ [b] })

theorem State.releaseOne_grows (s : State) (m : Merge) : OutGrows s (s.releaseOne m) := by
  unfold State.releaseOne
  extract_lets u cs
  have hu : OutGrows s u := ⟨fun _ h => List.mem_of_mem_filter h, [], (List.append_nil _).symm⟩
  clear_value cs
  cases cs with
  | nil => exact hu
  | cons v rest =>
    dsimp -zeta only
    extract_lets differ out w x cs' v' takes b y
    have hw : OutGrows u w := .ite (.mismatch u v) (.refl u)
    have hx : OutGrows w x := by
      unfold x
      cases out with
      | none => exact .refl w
      | some e => exact .failCore w e 9
    have hy : OutGrows x y := ⟨fun _ h => h, [b], rfl⟩
    exact (((hu.trans hw).trans hx).trans hy).trans (y.handOut_store v' cs').grows

theorem State.releaseReady_grows (n : Nat) (s : State) : OutGrows s (s.releaseReady n) := by
  induction n generalizing s with
  | zero => exact .refl s
  | succ n ih =>
    unfold State.releaseReady
    split
    · exact .refl s
    · exact .ite ((s.releaseOne_grows _).trans (ih _)) (.refl s)

/-- An ESN with one copy, released. -/
theorem State.releaseOne_single {s : State} {m : Merge} {v : Event} (h : m.copies = [v]) : ∃ takes, s.releaseOne m =
    State.handOut ((s.esnOut m).placed { ev := v, mismatch := none, place := s.freePlace, takes := takes }) v [v]
      ∧ takes = ((s.esnOut m).copiesFor ((s.esnOut m).rfld Reg.OUT_DELIVER 0 2) [v]).map Event.engine := by
  have hcs : m.copies.filter (fun v => v.engine == .A) ++ m.copies.filter (fun v => v.engine == .B) = [v] := by
    rw [h]
    cases hv : v.engine <;> simp [hv]
  unfold State.releaseOne
  dsimp only
  rw [hcs]
  exact ⟨_, rfl, rfl⟩

end Sys2Proof.Machine

/-! PROOFS. Event copies that arrive, and the wait that ends (O24; R280, R286, R506). -/

namespace Sys2Proof.Machine

/-! ## A copy that an engine hands over -/

theorem Chain.take_event (c : Chain) (key : Option (List Byte)) (node : Nat) (v : Event) :
    (c.take key node v).2.esn = v.esn ∧ (c.take key node v).2.engine = v.engine := by
  unfold Chain.take
  split
  · exact ⟨rfl, rfl⟩
  · split
    · exact ⟨rfl, rfl⟩
    · exact ⟨rfl, rfl⟩

theorem State.setChain_store (s : State) (e : EngineId) (c : Chain) : SameStore s (s.setChain e c) := by
  cases e
  · exact ⟨rfl, rfl, rfl⟩
  · exact ⟨rfl, rfl, rfl⟩

theorem State.setChain_parts (s : State) (e : EngineId) (c : Chain) : PartsBut s (s.setChain e c) [.outlet] := by
  exact fun z hz => same_of_foot [.outlet] (fun _ _ => setChain_foot _ _ _ (.refl s)) z hz

/-- The engine's queue one event shorter, and its custody chain. -/
def State.handedOver (s : State) (e : EngineId) (c : Chain) : State := (s.updEng e Engine.handed).setChain e c

theorem State.handedOver_parts (s : State) (e : EngineId) (c : Chain) : PartsBut s (s.handedOver e c) [.aeA, .aeB, .outlet] := by
  intro z hz
  simp only [List.mem_cons, List.not_mem_nil, or_false, not_or] at hz
  obtain ⟨hA, hB, hO⟩ := hz
  have h1 := s.updEng_parts e Engine.handed z (by simp [hA, hB])
  exact Zone.same_trans h1 ((s.updEng e Engine.handed).setChain_parts e c z (by simp [hO]))

theorem State.handedOver_store (s : State) (e : EngineId) (c : Chain) : SameStore s (s.handedOver e c) :=
  (SameStore.of_outlet (s.updEng_parts e Engine.handed .outlet (by decide))).trans (State.setChain_store _ e c)

theorem State.handedOver_eng (s : State) (e : EngineId) (c : Chain) (g : EngineId) :
    (s.handedOver e c).eng g = if g = e then (s.eng e).handed else s.eng g := by
  have hset : (s.handedOver e c).eng g = (s.updEng e Engine.handed).eng g := ((s.updEng e Engine.handed).setChain_parts e c).eng (e := g)
  rw [hset]
  split
  · next h => rw [h, State.eng_updEng_self]
  · next h => exact s.eng_updEng_ne h _

/-- An event of an engine's queue reaches Outlet: late, or to the merge. -/
theorem State.takeCopy_eq {s : State} {e : EngineId} {v : Event} {rest : List Event} (h : (s.eng e).evq = v :: rest) :
    ∃ c w, w.esn = v.esn ∧ w.engine = v.engine ∧ s.takeCopy e =
      if (s.handedOver e c).isReleased w.esn then ((s.handedOver e c).bump Reg.OUT_LATE_COPY_CNT).raise Reg.OUT_EVT 4
      else (s.handedOver e c).updOutlet (fun o => { o with merge := addCopy w o.merge }) := by
  obtain ⟨hesn, heng⟩ := Chain.take_event ((s.updEng e Engine.handed).chain e) (s.updEng e Engine.handed).nvm.custody (s.updEng e Engine.handed).streamNode v
  refine ⟨(((s.updEng e Engine.handed).chain e).take (s.updEng e Engine.handed).nvm.custody (s.updEng e Engine.handed).streamNode v).1, _, hesn, heng, ?_⟩
  unfold State.takeCopy
  rw [h]
  rfl

theorem State.isReleased_congr {s t : State} (h : SameStore s t) (esn : BitVec 48) : t.isReleased esn = s.isReleased esn := by
  unfold State.isReleased
  rw [h.nextRel]

theorem State.freePlace_congr {s t : State} (h : t.outlet.backlog = s.outlet.backlog) : t.freePlace = s.freePlace := by
  unfold State.freePlace State.backlogFill
  rw [h]

theorem State.outletFull_congr {s t : State} (hb : t.outlet.backlog = s.outlet.backlog) (hh : t.hif = s.hif) (hm : t.mgmt = s.mgmt) :
    t.outletFull = s.outletFull := by
  unfold State.outletFull State.backlogCap State.backlogFill
  rw [hb, hh, hm]

/-! ## What a release does with the one copy that waits -/

/-- Nothing is released while the next ESN in series has no copy. -/
theorem State.release_waits {s : State} (h : ∀ m, m ∈ s.outlet.merge → m.esn ≠ s.outlet.nextRel) : s.release = s := by
  have hfind : s.outlet.merge.find? (fun m => m.esn == s.outlet.nextRel) = none :=
    List.find?_eq_none.mpr (fun m hm => by simpa using h m hm)
  unfold State.release
  cases hn : s.outlet.merge.length with
  | zero => rfl
  | succ n =>
    unfold State.releaseReady
    rw [hfind]

/-- The only merge that waits is the next in series: it goes out when there is a place and all in service have delivered. -/
theorem State.release_only {s : State} {m : Merge} (hm : s.outlet.merge = [m]) (he : m.esn = s.outlet.nextRel) : s.release =
    if !s.outletFull && decide (s.freePlace < s.backlogCap) && s.servers.all (fun e => m.copies.any (fun v => v.engine == e)) then s.releaseOne m
    else s := by
  unfold State.release
  rw [hm]
  show State.releaseReady 1 s = _
  unfold State.releaseReady
  rw [hm, List.find?_cons_of_pos (by rw [he]; exact beq_self_eq_true _)]
  rfl

theorem State.copiesFor_one (s : State) (sel : Nat) (v : Event) : s.copiesFor sel [v] = [v] := by
  unfold State.copiesFor
  split
  · rfl
  · by_cases h : s.skink.holder == some v.engine <;> by_cases k : s.serves v.engine <;> simp [h, k]

/-- The receivers' queues and the triggers are all that a released copy reaches. -/
theorem State.handOut_parts (s : State) (v : Event) (cs : List Event) : PartsBut s (s.handOut v cs) [.regs, .outlet, .spawn] := fun z hz =>
  same_of_foot [.regs, .outlet, .spawn] (fun _ _ => eventTrigger_foot _ _ (publish_foot _ _ (legacyPut_foot _ _ (noteRelease_foot _ _ (.refl s))))) z hz

theorem State.placed_parts (s : State) (b : Backlog) : PartsBut s (s.placed b) [.gecko, .outlet] := fun z hz =>
  same_of_foot [.gecko, .outlet] (fun _ _ => updOutlet_foot _ _ (lineWritten_foot _ _ _ (.refl s))) z hz

theorem State.placed_store (s : State) (b : Backlog) :
    (s.placed b).outlet = { s.outlet with backlog := s.outlet.backlog ++ [b] } := by
  have h : (s.lineWritten (Tarn.ELASTIC + 32 * b.place) 32).outlet = s.outlet :=
    same_of_foot [.gecko] (fun _ _ => lineWritten_foot _ _ _ (.refl s)) .outlet
  show ({ (s.lineWritten (Tarn.ELASTIC + 32 * b.place) 32).outlet with backlog := _ } : Outlet) = _
  rw [h]

/-- An ESN with one copy goes out: to its place, and out of the merge. -/
structure OneOut (s t : State) (m : Merge) (v : Event) : Prop where
  parts : PartsBut s t [.regs, .outlet, .spawn, .gecko]
  merge : t.outlet.merge = s.outlet.merge.filter (fun x => x.esn != m.esn)
  nextRel : t.outlet.nextRel = nextEsnOf m.esn
  backlog : t.outlet.backlog = s.outlet.backlog ++ [{ ev := v, mismatch := none, place := s.freePlace, takes := [v.engine] }]

theorem State.releaseOne_oneOut {s : State} {m : Merge} {v : Event} (h : m.copies = [v]) : OneOut s (s.releaseOne m) m v := by
  obtain ⟨takes, heq, htakes⟩ := State.releaseOne_single (s := s) h
  rw [State.copiesFor_one] at htakes
  rw [heq, htakes, show List.map Event.engine [v] = [v.engine] from rfl]
  have hs := State.handOut_store ((s.esnOut m).placed { ev := v, mismatch := none, place := s.freePlace, takes := [v.engine] }) v [v]
  have ho := (s.esnOut m).placed_store { ev := v, mismatch := none, place := s.freePlace, takes := [v.engine] }
  refine ⟨?_, ?_, ?_, ?_⟩
  · intro z hz
    simp only [List.mem_cons, List.not_mem_nil, or_false, not_or] at hz
    obtain ⟨hr, hou, hsp, hg⟩ := hz
    have h0 : Zone.same z s (s.esnOut m) := same_of_foot [.outlet] (fun _ _ => updOutlet_foot _ _ (.refl s)) z (by simp [hou])
    exact Zone.same_trans h0 (Zone.same_trans ((s.esnOut m).placed_parts _ z (by simp [hg, hou])) (State.handOut_parts _ _ _ z (by simp [hr, hou, hsp])))
  · rw [hs.merge, ho]
    rfl
  · rw [hs.nextRel, ho]
    rfl
  · rw [hs.backlog, ho]
    rfl

/-! ## EVENT_COPY_ARRIVAL -/

variable {s : State} {e : EngineId} {v : Event} {rest : List Event}

theorem State.copyArrives_late (h : (s.eng e).evq = v :: rest) (hfull : s.outletFull = false) (hrel : s.isReleased v.esn = true)
    (hno : ∀ m, m ∈ s.outlet.merge → m.esn ≠ s.outlet.nextRel) :
    ((s.copyArrives e).eng e).evq = rest ++ (s.eng e).evWait.take 1 ∧ (s.copyArrives e).outlet.backlog = s.outlet.backlog
      ∧ (s.copyArrives e).outlet.merge = s.outlet.merge ∧ (s.copyArrives e).reg Reg.OUT_LATE_COPY_CNT = satAdd (s.reg Reg.OUT_LATE_COPY_CNT) 1
      ∧ (s.copyArrives e).rbit Reg.OUT_EVT 2 = true := by
  obtain ⟨c, w, hesn, -, heq⟩ := State.takeCopy_eq h
  have hst := s.handedOver_store e c
  rw [hesn, State.isReleased_congr hst, if_pos hrel] at heq
  have hparts : PartsBut (s.handedOver e c) (((s.handedOver e c).bump Reg.OUT_LATE_COPY_CNT).raise Reg.OUT_EVT 4) [.regs] := fun z hz =>
    same_of_foot [.regs] (fun _ _ => raise_foot _ _ _ (bump_foot _ _ (.refl _))) z hz
  have hout : (s.takeCopy e).outlet = (s.handedOver e c).outlet := by
    rw [heq]
    exact hparts .outlet (by decide)
  have hquiet : s.copyArrives e = s.takeCopy e := by
    unfold State.copyArrives
    rw [if_neg (by rw [hfull]; exact Bool.false_ne_true)]
    refine State.release_waits ?_
    rw [hout, hst.merge, hst.nextRel]
    exact hno
  have hreg : (s.handedOver e c).reg Reg.OUT_LATE_COPY_CNT = s.reg Reg.OUT_LATE_COPY_CNT :=
    State.reg_congr (s.handedOver_parts e c .regs (by decide)) (s.handedOver_parts e c .behavBoot (by decide)) _
  rw [hquiet, hout, hst.backlog, hst.merge]
  refine ⟨?_, rfl, rfl, ?_, ?_⟩
  · rw [heq, hparts.eng, State.handedOver_eng, if_pos rfl, Engine.handed, h]
    rfl
  · rw [heq, State.reg_raise _ _ _ _ (by decide), if_neg (by decide), State.reg_bump_self, hreg]
  · rw [heq]
    exact State.rbit_raise_self _ _ _ _ (by decide) (by decide)

/-- The copy stands alone in the merge, the next ESN in series. -/
structure CopyTaken (s t : State) (e : EngineId) (v w : Event) (rest : List Event) : Prop where
  esn : w.esn = v.esn
  engine : w.engine = v.engine
  merge : t.outlet.merge = [{ esn := v.esn, copies := [w] }]
  nextRel : t.outlet.nextRel = v.esn
  backlog : t.outlet.backlog = s.outlet.backlog
  evq : (t.eng e).evq = rest ++ (s.eng e).evWait.take 1
  serves : ∀ g, t.serves g = s.serves g
  hif : t.hif = s.hif
  mgmt : t.mgmt = s.mgmt

theorem not_isReleased_next (h : v.esn = s.outlet.nextRel) : s.isReleased v.esn = false := by
  unfold State.isReleased
  rw [h, BitVec.sub_self]
  decide

theorem State.takeCopy_next (h : (s.eng e).evq = v :: rest) (hesn : v.esn = s.outlet.nextRel) (hmerge : s.outlet.merge = []) :
    ∃ w, CopyTaken s (s.takeCopy e) e v w rest := by
  obtain ⟨c, w, hwesn, hweng, heq⟩ := State.takeCopy_eq h
  have hst := s.handedOver_store e c
  have hparts := s.handedOver_parts e c
  rw [hwesn, State.isReleased_congr hst, not_isReleased_next hesn, if_neg Bool.false_ne_true] at heq
  have hone : (s.takeCopy e).outlet.merge = [{ esn := v.esn, copies := [w] }] := by
    rw [heq]
    show addCopy w (s.handedOver e c).outlet.merge = _
    rw [hst.merge, hmerge, addCopy, hwesn]
  have heng : ∀ g, (s.takeCopy e).eng g = if g = e then (s.eng e).handed else s.eng g := fun g => by
    rw [heq]
    exact s.handedOver_eng e c g
  refine ⟨w, hwesn, hweng, hone, ?_, ?_, ?_, fun g => ?_, ?_, ?_⟩
  · rw [heq, hesn]
    exact hst.nextRel
  · rw [heq]
    exact hst.backlog
  · rw [heng, if_pos rfl, Engine.handed, h]
    rfl
  · unfold State.serves
    rw [heng]
    split
    · next hg => rw [hg]; rfl
    · rfl
  · rw [heq]
    exact hparts .hif (by decide)
  · rw [heq]
    exact State.mgmt_congr (State.reg_congr (hparts .regs (by decide)) (hparts .behavBoot (by decide)) _)

theorem State.copyArrives_next {w : Event} (k : CopyTaken s (s.takeCopy e) e v w rest) (hfull : s.outletFull = false) :
    s.copyArrives e = if decide (s.freePlace < s.backlogCap) && s.servers.all (fun g => w.engine == g) then
      (s.takeCopy e).releaseOne { esn := v.esn, copies := [w] } else s.takeCopy e := by
  have hf : (s.takeCopy e).outletFull = false := (State.outletFull_congr k.backlog k.hif k.mgmt).trans hfull
  have hserv : (s.takeCopy e).servers = s.servers := by
    unfold State.servers
    rw [funext k.serves]
  have hcap : (s.takeCopy e).backlogCap = s.backlogCap := by rw [State.backlogCap, State.backlogCap, k.hif]
  unfold State.copyArrives
  rw [if_neg (by rw [hfull]; exact Bool.false_ne_true), State.release_only k.merge k.nextRel.symm, hf, State.freePlace_congr k.backlog, hcap, hserv]
  simp only [Bool.not_false, Bool.true_and, List.any_cons, List.any_nil, Bool.or_false]

theorem State.copyArrives_out (h : (s.eng e).evq = v :: rest) (hfull : s.outletFull = false) (hesn : v.esn = s.outlet.nextRel)
    (hmerge : s.outlet.merge = []) (hserv : s.servers = [e]) (heng : v.engine = e) (hplace : s.freePlace < s.backlogCap) :
    ((s.copyArrives e).eng e).evq = rest ++ (s.eng e).evWait.take 1 ∧ (s.copyArrives e).outlet.merge = []
      ∧ (s.copyArrives e).outlet.nextRel = nextEsnOf v.esn
      ∧ ∃ b : Backlog, (s.copyArrives e).outlet.backlog = s.outlet.backlog ++ [b] ∧ b.ev.esn = v.esn ∧ b.takes = [e] ∧ b.place = s.freePlace := by
  obtain ⟨w, k⟩ := State.takeCopy_next h hesn hmerge
  have hw : w.engine = e := k.engine.trans heng
  have hall : (s.servers.all (fun g => w.engine == g)) = true := by
    rw [hserv, hw]
    simp
  have hgo := State.copyArrives_next k hfull
  rw [hall, Bool.and_true, if_pos (decide_eq_true hplace)] at hgo
  have hone := State.releaseOne_oneOut (s := s.takeCopy e) (m := { esn := v.esn, copies := [w] }) rfl
  rw [← hgo] at hone
  refine ⟨?_, ?_, hone.nextRel, { ev := w, mismatch := none, place := (s.takeCopy e).freePlace, takes := [w.engine] }, ?_, k.esn, ?_,
    State.freePlace_congr k.backlog⟩
  · rw [hone.parts.eng]
    exact k.evq
  · rw [hone.merge, k.merge]
    simp
  · rw [hone.backlog, k.backlog]
  · exact congrArg (fun g => [g]) hw

/-- With both engines in service, or with no place in the backlog, the copy waits. -/
theorem State.copyArrives_waits (h : (s.eng e).evq = v :: rest) (hfull : s.outletFull = false) (hesn : v.esn = s.outlet.nextRel)
    (hmerge : s.outlet.merge = []) (hwait : s.bothServe = true ∨ (s.servers = [e] ∧ s.backlogCap ≤ s.freePlace)) (heng : v.engine = e) :
    ((s.copyArrives e).eng e).evq = rest ++ (s.eng e).evWait.take 1 ∧ (s.copyArrives e).outlet.backlog = s.outlet.backlog
      ∧ (s.copyArrives e).outlet.nextRel = s.outlet.nextRel
      ∧ ∃ w : Event, (s.copyArrives e).outlet.merge = [{ esn := v.esn, copies := [w] }] ∧ w.esn = v.esn := by
  obtain ⟨w, k⟩ := State.takeCopy_next h hesn hmerge
  have hw : w.engine = e := k.engine.trans heng
  have hno : (decide (s.freePlace < s.backlogCap) && s.servers.all (fun g => w.engine == g)) = false := by
    rcases hwait with hboth | ⟨-, hcap⟩
    · unfold State.bothServe at hboth
      rw [Bool.and_eq_true] at hboth
      obtain ⟨hA, hB⟩ := hboth
      have hs : s.servers = [.A, .B] := by
        have hsA : s.serves .A = true := hA
        have hsB : s.serves .B = true := hB
        simp [State.servers, hsA, hsB]
      rw [hs, hw]
      cases e <;> simp
    · rw [decide_eq_false (Nat.not_lt.mpr hcap), Bool.false_and]
  have hgo := State.copyArrives_next k hfull
  rw [hno, if_neg Bool.false_ne_true] at hgo
  rw [hgo]
  exact ⟨k.evq, k.backlog, k.nextRel.trans hesn, w, k.merge, k.esn⟩

/-! ## MERGE_WAIT_EXPIRY -/

theorem State.mergeExpire_one {m : Merge} (hold : s.oldestMerge = some m) (hc : m.copies = [v]) (hfull : s.outletFull = false)
    (hplace : s.freePlace < s.backlogCap) :
    (∀ x, x ∈ s.mergeExpire.outlet.merge → x.esn ≠ m.esn) ∧ ∃ b, b ∈ s.mergeExpire.outlet.backlog ∧ b.ev = v := by
  have heq : s.mergeExpire = (s.releaseOne m).release := by
    unfold State.mergeExpire
    rw [if_neg (by rw [hfull, decide_eq_false (Nat.not_le.mpr hplace)]; exact Bool.false_ne_true), hold]
  have hone := State.releaseOne_oneOut (s := s) hc
  have hgrow : OutGrows (s.releaseOne m) (s.releaseOne m).release := State.releaseReady_grows _ _
  obtain ⟨l, hl⟩ := hgrow.backlog
  rw [heq]
  refine ⟨fun x hx => ?_, { ev := v, mismatch := none, place := s.freePlace, takes := [v.engine] }, ?_, rfl⟩
  · have hmem := hgrow.merge x hx
    rw [hone.merge] at hmem
    simpa using (List.mem_filter.mp hmem).2
  · rw [hl, hone.backlog]
    exact List.mem_append_left _ (List.mem_append_right _ (List.mem_singleton.mpr rfl))

theorem State.mergeExpire_noPlace (h : s.backlogCap ≤ s.freePlace) : s.mergeExpire = s := by
  unfold State.mergeExpire
  rw [if_pos (by rw [decide_eq_true h, Bool.or_true])]

end Sys2Proof.Machine

/-! PROOFS. Delivery to the receivers: event rings, datagrams, CAN frames (O24; R111, R279, R293, R294, R418). -/

namespace Sys2Proof.Machine

/-! ## Datagrams -/

/-- One port's part of a datagram, and whether a port has taken it. -/
def State.pubGo (data : List Byte) (p : Nat) (x : State × Bool) : State × Bool :=
  if x.1.rbit Reg.PUB_ETH_CTL (1 + p) then ((x.1.pubOn p data).1, x.2 || (x.1.pubOn p data).2) else x

/-- What a port's part of a datagram changes. -/
structure PubTried (x y : State × Bool) (data : List Byte) (p : Nat) : Prop where
  outlet : y.1.outlet = x.1.outlet
  regs : RegsBut x.1 y.1 [Reg.PUB_ETH_LOSS_CNT]
  others : ∀ q, q < 2 → q ≠ p → y.1.port q = x.1.port q
  taken : x.1.rbit Reg.PUB_ETH_CTL (1 + p) = true → (x.1.port p).txPub.length < 4 →
    (y.1.port p).txPub = (x.1.port p).txPub ++ [x.1.pubFrame p (x.1.port p).pubId data] ∧ y.2 = true
  full : 4 ≤ (x.1.port p).txPub.length → y.1.port p = x.1.port p
  idle : x.1.rbit Reg.PUB_ETH_CTL (1 + p) = false ∨ 4 ≤ (x.1.port p).txPub.length → y.2 = x.2
  keeps : x.2 = true → y.2 = true

theorem State.port_updPort_ne {s : State} {p q : Nat} (f : Port → Port) (hp : p < 2) (hq : q < 2) (h : q ≠ p) : (s.updPort p f).port q = s.port q := by
  rcases (show p = 0 ∧ q = 1 ∨ p = 1 ∧ q = 0 by omega) with ⟨rfl, rfl⟩ | ⟨rfl, rfl⟩
  · rfl
  · rfl

theorem State.pubGo_tried (data : List Byte) {p : Nat} (hp : p < 2) (x : State × Bool) : PubTried x (State.pubGo data p x) data p := by
  unfold State.pubGo
  cases hon : x.1.rbit Reg.PUB_ETH_CTL (1 + p) with
  | false =>
    rw [if_neg Bool.false_ne_true]
    exact ⟨rfl, .refl _ _, fun _ _ _ => rfl, fun h => absurd h (by rw [hon]; exact Bool.false_ne_true), fun _ => rfl, fun _ => rfl, id⟩
  | true =>
    rw [if_pos rfl]
    unfold State.pubOn
    by_cases hlen : (x.1.port p).txPub.length < 4
    · dsimp only
      rw [if_pos hlen]
      refine ⟨?_, regsBut_updPort _ _, fun q hq h => State.port_updPort_ne _ hp hq h, fun _ _ => ⟨?_, ?_⟩, fun h => absurd hlen (by omega),
        fun h => ?_, fun h => ?_⟩
      · unfold State.updPort
        split
        · rfl
        · rfl
      · rw [State.port_updPort_self]
      · exact Bool.or_true _
      · rcases h with h | h
        · exact absurd h (by rw [hon]; decide)
        · exact absurd hlen (by omega)
      · exact Bool.or_true _
    · dsimp only
      rw [if_neg hlen]
      have hport : ∀ q, (x.1.bump Reg.PUB_ETH_LOSS_CNT).port q = x.1.port q := fun q => rfl
      exact ⟨rfl, regsBut_bump _ _, fun q _ _ => hport q, fun _ h => absurd h hlen, fun _ => hport p, fun _ => Bool.or_false _,
        fun h => (Bool.or_false _).trans h⟩

/-- A frame is made of registers that no loss of a datagram changes. -/
theorem State.pubFrame_congr {s t : State} (h : RegsBut s t [Reg.PUB_ETH_LOSS_CNT]) {p : Nat} (hp : p < 2) (ident : U16) (data : List Byte) :
    t.pubFrame p ident data = s.pubFrame p ident data := by
  have hip : t.reg (Reg.ETH_IPV4 p) = s.reg (Reg.ETH_IPV4 p) := h _ (by simp only [List.mem_singleton, Reg.ETH_IPV4, Reg.PUB_ETH_LOSS_CNT, Off]; omega)
  have hlo : t.reg (Reg.ETH_MAC_LO p) = s.reg (Reg.ETH_MAC_LO p) := h _ (by simp only [List.mem_singleton, Reg.ETH_MAC_LO, Reg.PUB_ETH_LOSS_CNT, Off]; omega)
  have hhi : t.reg (Reg.ETH_MAC_HI p) = s.reg (Reg.ETH_MAC_HI p) := h _ (by simp only [List.mem_singleton, Reg.ETH_MAC_HI, Reg.PUB_ETH_LOSS_CNT, Off]; omega)
  unfold State.pubFrame State.ethMac State.rfld
  rw [hip, hlo, hhi, h Reg.PUB_GROUP (by decide), h Reg.PUB_PORT (by decide), h Reg.PUB_ETH_CTL (by decide)]

theorem State.pubSend_eq {s : State} (hpub : s.outlet.pub ≠ []) (hon : s.rbit Reg.PUB_ETH_CTL 0 = true) {data : List Byte}
    (hdata : data = s.pubDatagram (s.outlet.pub.take 40)) {u : State} (hu : u = s.updOutlet (fun o => { o with pub := o.pub.drop 40 }))
    {y : State × Bool} (hy : y = State.pubGo data 1 (State.pubGo data 0 (u, false))) :
    s.pubSend = if y.2 then (y.1.updOutlet (fun o => { o with pubSeq := o.pubSeq + 1 })).bump Reg.PUB_ETH_SENT_CNT else y.1 := by
  have hgo : ¬ (s.outlet.pub.isEmpty || !s.rbit Reg.PUB_ETH_CTL 0) = true := by
    rw [hon, List.isEmpty_eq_false_iff.mpr hpub]
    decide
  unfold State.pubSend
  rw [if_neg hgo, hy, hu, hdata]
  rfl

/-- PUBLICATION_DATAGRAM with records that wait. -/
theorem State.pubSend_sent {s : State} (hpub : s.outlet.pub ≠ []) (hon : s.rbit Reg.PUB_ETH_CTL 0 = true) :
    s.pubSend.outlet.pub = s.outlet.pub.drop 40 ∧ s.pubSend.outlet.backlog = s.outlet.backlog
      ∧ (∀ p, p < 2 → s.rbit Reg.PUB_ETH_CTL (1 + p) = true → (s.port p).txPub.length < 4 →
          (s.pubSend.port p).txPub = (s.port p).txPub ++ [s.pubFrame p (s.port p).pubId (s.pubDatagram (s.outlet.pub.take 40))]
          ∧ s.pubSend.outlet.pubSeq = s.outlet.pubSeq + 1 ∧ s.pubSend.reg Reg.PUB_ETH_SENT_CNT = satAdd (s.reg Reg.PUB_ETH_SENT_CNT) 1)
      ∧ (∀ p, p < 2 → 4 ≤ (s.port p).txPub.length → s.pubSend.port p = s.port p)
      ∧ ((∀ p, p < 2 → s.rbit Reg.PUB_ETH_CTL (1 + p) = false ∨ 4 ≤ (s.port p).txPub.length) →
          s.pubSend.outlet.pubSeq = s.outlet.pubSeq ∧ s.pubSend.reg Reg.PUB_ETH_SENT_CNT = s.reg Reg.PUB_ETH_SENT_CNT) := by
  generalize hdata : s.pubDatagram (s.outlet.pub.take 40) = data
  generalize hu : s.updOutlet (fun o => { o with pub := o.pub.drop 40 }) = u
  have k0 := State.pubGo_tried data (p := 0) (by decide) (u, false)
  generalize hx : State.pubGo data 0 (u, false) = x at k0
  have k1 := State.pubGo_tried data (p := 1) (by decide) x
  generalize hy : State.pubGo data 1 x = y at k1
  have heq := State.pubSend_eq hpub hon hdata.symm hu.symm (y := y) (by rw [hx, hy])
  have huport : ∀ p, u.port p = s.port p := fun p => by rw [← hu]; rfl
  have huregs : RegsBut s u [Reg.PUB_ETH_LOSS_CNT] := by rw [← hu]; exact .of_regs rfl rfl _
  have hxregs : RegsBut s x.1 [Reg.PUB_ETH_LOSS_CNT] := huregs.trans k0.regs
  have hxctl : x.1.reg Reg.PUB_ETH_CTL = s.reg Reg.PUB_ETH_CTL := hxregs _ (by decide)
  have huctl : u.reg Reg.PUB_ETH_CTL = s.reg Reg.PUB_ETH_CTL := huregs _ (by decide)
  have hxbit : ∀ i, x.1.rbit Reg.PUB_ETH_CTL i = s.rbit Reg.PUB_ETH_CTL i := fun i => State.rbit_of_reg hxctl i
  have hubit : ∀ i, u.rbit Reg.PUB_ETH_CTL i = s.rbit Reg.PUB_ETH_CTL i := fun i => State.rbit_of_reg huctl i
  have hyout : y.1.outlet = { s.outlet with pub := s.outlet.pub.drop 40 } := by
    rw [k1.outlet, k0.outlet, ← hu]
    rfl
  have hysent : y.1.reg Reg.PUB_ETH_SENT_CNT = s.reg Reg.PUB_ETH_SENT_CNT := (hxregs.trans k1.regs) _ (by decide)
  have hx1 : x.1.port 1 = s.port 1 := (k0.others 1 (by decide) (by decide)).trans (huport 1)
  have hy0 : y.1.port 0 = x.1.port 0 := k1.others 0 (by decide) (by decide)
  have hport : ∀ p, s.pubSend.port p = y.1.port p := fun p => by
    rw [heq]
    split
    · rfl
    · rfl
  have hkept : s.pubSend.outlet.pub = y.1.outlet.pub ∧ s.pubSend.outlet.backlog = y.1.outlet.backlog := by
    rw [heq]
    split
    · exact ⟨rfl, rfl⟩
    · exact ⟨rfl, rfl⟩
  have hsent : y.2 = true → s.pubSend.outlet.pubSeq = s.outlet.pubSeq + 1
      ∧ s.pubSend.reg Reg.PUB_ETH_SENT_CNT = satAdd (s.reg Reg.PUB_ETH_SENT_CNT) 1 := fun h => by
    rw [heq, if_pos h, State.reg_bump_self]
    refine ⟨?_, ?_⟩
    · show y.1.outlet.pubSeq + 1 = _
      rw [hyout]
    · rw [← hysent]
      rfl
  refine ⟨?_, ?_, fun p hp hbit hlen => ?_, fun p hp hlen => ?_, fun hnone => ?_⟩
  · rw [hkept.1, hyout]
  · rw [hkept.2, hyout]
  · rcases (show p = 0 ∨ p = 1 by omega) with rfl | rfl
    · obtain ⟨htx, ht⟩ := k0.taken ((hubit _).trans hbit) (by rw [huport]; exact hlen)
      refine ⟨?_, hsent (k1.keeps ht)⟩
      rw [hport, hy0, htx, huport, State.pubFrame_congr huregs hp]
    · obtain ⟨htx, ht⟩ := k1.taken ((hxbit _).trans hbit) (by rw [hx1]; exact hlen)
      refine ⟨?_, hsent ht⟩
      rw [hport, htx, hx1, State.pubFrame_congr hxregs hp]
  · rcases (show p = 0 ∨ p = 1 by omega) with rfl | rfl
    · rw [hport, hy0, k0.full (by rw [huport]; exact hlen)]
      exact huport 0
    · rw [hport, k1.full (by rw [hx1]; exact hlen), hx1]
  · have h0 : x.2 = false := k0.idle (by rw [hubit, huport]; exact hnone 0 (by decide))
    have h1 : y.2 = false := (k1.idle (by rw [hxbit, hx1]; exact hnone 1 (by decide))).trans h0
    rw [heq, h1, if_neg Bool.false_ne_true, hyout]
    exact ⟨rfl, hysent⟩

/-! ## CAN frames -/

theorem State.placeNode_stopped {s : State} (h : s.sourcesRun = false) (n : Nat) (id : U32) (brs : Bool) (data : List Byte) (dlc : Nat) :
    s.placeNode n id brs data dlc = (s, false) := by
  unfold State.placeNode
  dsimp only
  rw [if_pos (by rw [h]; rfl)]

/-- A channel that runs with a free slot takes the node's frame. -/
theorem State.placeNode_taken {s : State} {n : Nat} (hrun : s.sourcesRun = true) (hmode : s.canMode n ≠ 0)
    (hin : s.canStat n CanStat.outOfService = false) (hfd : s.canFd n = true) (hfree : (s.canCh n).freeSlot.isSome = true)
    (id : U32) (brs : Bool) (data : List Byte) (dlc : Nat) :
    ∃ x : TxSlot, (s.placeNode n id brs data dlc).2 = true ∧ x.node = true ∧ x.data = data ∧ x.dlc = BitVec.ofNat 4 dlc
      ∧ ((s.placeNode n id brs data dlc).1.canCh n).slots = (s.canCh n).slots ++ [x] := by
  obtain ⟨i, hi⟩ := Option.isSome_iff_exists.mp hfree
  have hgo : ¬ (!s.sourcesRun || s.canMode n = 0 || s.canStat n CanStat.outOfService || (bitAt id 30 && !s.canFd n)) = true := by
    rw [hrun, hin, hfd, decide_eq_false hmode, Bool.not_true, Bool.and_false]
    exact Bool.false_ne_true
  unfold State.placeNode
  dsimp only
  rw [if_neg hgo, hi]
  exact ⟨{ idx := i, seq := (s.canCh n).txSeq, node := true, id := id, rtr := false, brs := brs, oneShot := false, report := false,
           dlc := BitVec.ofNat 4 dlc, tag := 0, data := data }, rfl, rfl, rfl, rfl, by dsimp only; rw [State.canCh_updCan]⟩

/-- The next selected copy out of its queue. -/
def State.pubTaken (s : State) (l : List Event) : State := s.updOutlet (fun o => { o with pubCan := l })

/-- What is tried for a copy: its frame placed, and whether it was. -/
def State.pubTry (s : State) (v : Event) : State × Bool :=
  let base := s.reg Reg.PUB_CAN_ID
  let id : U32 := BitVec.ofNat 32 ((fld base 0 29 + v.prio) % 2 ^ 29 + 2 ^ 29 * fld base 29 1 + 2 ^ 30)
  if s.rbit Reg.PUB_CAN_CTL 0 then s.placeNode (s.rfld Reg.PUB_CAN_CTL 1 3) id (s.canBrs (s.rfld Reg.PUB_CAN_CTL 1 3)) v.bytes 13 else (s, false)

theorem State.pubCan_eq {s : State} {v : Event} {l : List Event} (h : s.outlet.pubCan = v :: l) :
    s.pubCan = ((s.pubTaken l).pubTry v).1.bump (if ((s.pubTaken l).pubTry v).2 then Reg.PUB_CAN_SENT_CNT else Reg.PUB_CAN_LOSS_CNT) := by
  unfold State.pubCan
  rw [h]
  rfl

theorem State.pubTry_parts (s : State) (v : Event) : PartsBut s (s.pubTry v).1 [.can] := by
  unfold State.pubTry
  dsimp only
  split
  · exact fun z hz => same_of_foot [.can] (fun _ _ => placeNode_foot _ _ _ _ _ _ (.refl s)) z hz
  · exact fun z _ => same_of_foot [] (fun _ _ => .refl s) z (by simp)

theorem State.pubCan_sent {s : State} {v : Event} {l : List Event} (h : s.outlet.pubCan = v :: l) :
    s.pubCan.outlet = { s.outlet with pubCan := l }
      ∧ (s.rbit Reg.PUB_CAN_CTL 0 = false → s.pubCan.reg Reg.PUB_CAN_LOSS_CNT = satAdd (s.reg Reg.PUB_CAN_LOSS_CNT) 1)
      ∧ (s.sourcesRun = false → s.pubCan.can = s.can ∧ s.pubCan.reg Reg.PUB_CAN_LOSS_CNT = satAdd (s.reg Reg.PUB_CAN_LOSS_CNT) 1)
      ∧ (s.sourcesRun = true → s.rbit Reg.PUB_CAN_CTL 0 = true → s.canMode (s.rfld Reg.PUB_CAN_CTL 1 3) ≠ 0 →
          s.canStat (s.rfld Reg.PUB_CAN_CTL 1 3) CanStat.outOfService = false → s.canFd (s.rfld Reg.PUB_CAN_CTL 1 3) = true →
          (s.canCh (s.rfld Reg.PUB_CAN_CTL 1 3)).freeSlot.isSome = true →
          s.pubCan.reg Reg.PUB_CAN_SENT_CNT = satAdd (s.reg Reg.PUB_CAN_SENT_CNT) 1
          ∧ ∃ x, (s.pubCan.canCh (s.rfld Reg.PUB_CAN_CTL 1 3)).slots = (s.canCh (s.rfld Reg.PUB_CAN_CTL 1 3)).slots ++ [x]
            ∧ x.node = true ∧ x.data = v.bytes ∧ x.dlc = 13) := by
  rw [State.pubCan_eq h]
  have hparts := (s.pubTaken l).pubTry_parts v
  have hreg : ∀ o, ((s.pubTaken l).pubTry v).1.reg o = s.reg o := State.reg_congr (hparts .regs (by decide)) (hparts .behavBoot (by decide))
  have hout : ((s.pubTaken l).pubTry v).1.outlet = { s.outlet with pubCan := l } := hparts .outlet (by decide)
  have hlost : ((s.pubTaken l).pubTry v).2 = false →
      (((s.pubTaken l).pubTry v).1.bump (if ((s.pubTaken l).pubTry v).2 then Reg.PUB_CAN_SENT_CNT else Reg.PUB_CAN_LOSS_CNT)).reg
        Reg.PUB_CAN_LOSS_CNT = satAdd (s.reg Reg.PUB_CAN_LOSS_CNT) 1 := fun hno => by
    rw [hno, if_neg Bool.false_ne_true, State.reg_bump_self, hreg]
  refine ⟨hout, fun hoff => hlost ?_, fun hstop => ?_, fun hrun hon hmode hin hfd hfree => ?_⟩
  · unfold State.pubTry
    dsimp only
    rw [if_neg (show ¬ (s.pubTaken l).rbit Reg.PUB_CAN_CTL 0 = true by rw [show (s.pubTaken l).rbit Reg.PUB_CAN_CTL 0 = false from hoff]; exact Bool.false_ne_true)]
  · have hno : (s.pubTaken l).pubTry v = (s.pubTaken l, false) := by
      unfold State.pubTry
      dsimp only
      split
      · exact State.placeNode_stopped (s := s.pubTaken l) hstop _ _ _ _ _
      · rfl
    refine ⟨?_, hlost (by rw [hno])⟩
    rw [hno]
    rfl
  · generalize hid : (BitVec.ofNat 32 ((fld (s.reg Reg.PUB_CAN_ID) 0 29 + v.prio) % 2 ^ 29 + 2 ^ 29 * fld (s.reg Reg.PUB_CAN_ID) 29 1 + 2 ^ 30) : U32) = id
    have hgo : (s.pubTaken l).pubTry v = (s.pubTaken l).placeNode (s.rfld Reg.PUB_CAN_CTL 1 3) id (s.canBrs (s.rfld Reg.PUB_CAN_CTL 1 3)) v.bytes 13 := by
      rw [← hid]
      unfold State.pubTry
      dsimp only
      rw [if_pos (show (s.pubTaken l).rbit Reg.PUB_CAN_CTL 0 = true from hon)]
      rfl
    obtain ⟨x, hok, hnode, hdata, hdlc, hslots⟩ := State.placeNode_taken (s := s.pubTaken l) hrun hmode hin hfd hfree id
      (s.canBrs (s.rfld Reg.PUB_CAN_CTL 1 3)) v.bytes 13
    rw [← hgo] at hok hslots
    rw [hok, if_pos rfl, State.reg_bump_self, hreg]
    exact ⟨rfl, x, hslots, hnode, hdata, hdlc⟩

/-! ## Event rings -/

theorem State.deliver_delivered {s : State} {ring : Nat} {v : Event} {l : List Backlog} (hlo : 2 ≤ ring) (hhi : ring ≤ 5)
    (hcredit : 0 < s.ringCredit ring) (hnext : writeNext (ring - 2) s.outlet.backlog = some (v, l)) :
    (s.deliver ring).outlet = { s.outlet with backlog := l }
      ∧ Output.ringEntry ring (s.reg (Reg.RING_NODE_IDX ring)) (s.ringSlot ring (s.reg (Reg.RING_NODE_IDX ring))) v.bytes ∈ (s.deliver ring).out
      ∧ (s.deliver ring).reg (Reg.RING_NODE_IDX ring) = s.reg (Reg.RING_NODE_IDX ring) + 1
      ∧ RegsBut s (s.deliver ring) [Reg.RING_NODE_IDX ring, Reg.RING_ENTRY_CNT ring, Reg.MSIX_PBA 0] := by
  have heq : s.deliver ring = (s.updOutlet (fun o => { o with backlog := l })).postEntry ring v.bytes := by
    unfold State.deliver
    rw [if_neg (by omega), hnext]
  rw [heq]
  generalize hu : s.updOutlet (fun o => { o with backlog := l }) = u
  have hout : u.outlet = { s.outlet with backlog := l } := by rw [← hu]; rfl
  have hreg : ∀ o, u.reg o = s.reg o := by rw [← hu]; exact State.reg_congr rfl rfl
  have hslot : ∀ i, u.ringSlot ring i = s.ringSlot ring i := fun i => by
    unfold State.ringSlot State.pair State.ringSize State.rfld
    simp only [hreg]
  have hkept : (u.postEntry ring v.bytes).outlet = u.outlet := same_of_foot [.regs, .hif] (fun _ _ => postEntry_foot _ _ _ _ (.refl u)) .outlet
  have hposts := u.postEntry_posts ring v.bytes false
  have hidx := u.reg_postEntry_idx ring v.bytes false (by omega)
  rw [hreg, hslot] at hposts
  rw [hreg] at hidx
  refine ⟨hkept.trans hout, hposts, hidx, fun o ho => ?_⟩
  rw [regsBut_postEntry u ring v.bytes false o ho, hreg]

/-! ## O24 -/

/-- Settles O24: each of a copy's ways through the merge, then each receiver's. -/
theorem eventsToReceivers : Obligations.EventsToReceivers := by
  unfold Obligations.EventsToReceivers
  refine ⟨⟨fun s e v rest hq => ⟨fun hfull => ?_, fun hfull hrel hno => ?_, fun hfull hesn hmerge hserv heng hplace => ?_,
    fun hfull hesn hmerge hwait heng => ?_⟩, fun s m v hold hc => ⟨fun hfull hplace => ?_, fun hcap => ?_⟩⟩,
    fun s ring v l hlo hhi hcredit hnext => ?_, fun s hpub hon => ?_, fun s v l h => ?_⟩
  · refine ⟨_, rfl, ?_⟩
    unfold State.copyArrives
    exact if_pos hfull
  · exact ⟨_, rfl, State.copyArrives_late (s := s.fresh) hq hfull hrel hno⟩
  · exact ⟨_, rfl, State.copyArrives_out (s := s.fresh) hq hfull hesn hmerge hserv heng hplace⟩
  · exact ⟨_, rfl, State.copyArrives_waits (s := s.fresh) hq hfull hesn hmerge hwait heng⟩
  · exact ⟨_, rfl, State.mergeExpire_one (s := s.fresh) hold hc hfull hplace⟩
  · exact ⟨_, rfl, State.mergeExpire_noPlace (s := s.fresh) hcap⟩
  · refine ⟨_, need_of (decide_eq_true (by omega)) _, ?_⟩
    rw [if_pos (by unfold inRange; simp only [Bool.and_eq_true, decide_eq_true_eq]; omega)]
    exact State.deliver_delivered (s := s.fresh) hlo hhi hcredit hnext
  · exact ⟨_, rfl, State.pubSend_sent (s := s.fresh) hpub hon⟩
  · exact ⟨_, rfl, State.pubCan_sent (s := s.fresh) h⟩

end Sys2Proof.Machine

/-! PROOFS. What an engine's evaluation leaves alone: the layer under the statements about records (R213-R262, R284, R287). -/

namespace Sys2Proof.Machine

/-! ## Views of an engine -/

/-- An engine but for its events: the queue, the ESN and what an emission or its withholding counts (R277, R284, R287). -/
def Engine.eventless (x : Engine) : Engine :=
  { x with evq := [], evWait := [], nextEsn := 1, custN := 0, sealNo := 0, sealDue := none, nodeRefresh := false, groupRefresh := false, withheldCnt := 0 }

/-- An engine but for its events and point records. -/
def Engine.pointless (x : Engine) : Engine := { x.eventless with pts := { dflt := { } }, unreported := 0 }

/-- An engine but for its events and what it holds of groups and calls. -/
def Engine.groupless (x : Engine) : Engine := { x.eventless with grs := { dflt := { } }, swept := [], called := [], opened := [] }

/-- An engine but for its events, point records, groups and running totals. -/
def Engine.stateless (x : Engine) : Engine :=
  { x.eventless with pts := { dflt := { } }, unreported := 0, grs := { dflt := { } }, swept := [], called := [], opened := [], totals := [] }

/-- A view that an engine's events do not show in. -/
def NoEvents (view : Engine → Engine) : Prop := ∀ x : Engine, view x.eventless = view x

theorem noEvents_eventless : NoEvents Engine.eventless := fun _ => rfl
theorem noEvents_pointless : NoEvents Engine.pointless := fun _ => rfl
theorem noEvents_groupless : NoEvents Engine.groupless := fun _ => rfl
theorem noEvents_stateless : NoEvents Engine.stateless := fun _ => rfl

theorem NoEvents.same {view : Engine → Engine} (h : NoEvents view) {x y : Engine} (hxy : x.eventless = y.eventless) : view x = view y := by
  rw [← h x, ← h y, hxy]

/-- An engine but for its queue of events and the next ESN. -/
def Engine.queueless (x : Engine) : Engine := { x with evq := [], evWait := [], nextEsn := 1 }

/-- A view that the queue does not show in. -/
def NoQueue (view : Engine → Engine) : Prop := ∀ x : Engine, view x.queueless = view x

theorem noQueue_queueless : NoQueue Engine.queueless := fun _ => rfl

theorem NoQueue.same {view : Engine → Engine} (h : NoQueue view) {x y : Engine} (hxy : x.queueless = y.queueless) : view x = view y := by
  rw [← h x, ← h y, hxy]

theorem NoEvents.noQueue {view : Engine → Engine} (h : NoEvents view) : NoQueue view := fun x => by
  rw [← h x.queueless, ← h x]
  rfl

/-! ## The relation -/

/-- The parts of the node that an engine's evaluation of a record may change, before it ends. -/
def evalParts : List Zone := [.regs, .aeA, .aeB, .outlet, .can, .gecko]

/-- The registers that it may change. -/
def evalRegs : List Off :=
  [Reg.AE_EVT_CNT 0, Reg.AE_EVT_CNT 1, Reg.AE_CFG_INVALID_CNT 0, Reg.AE_CFG_INVALID_CNT 1, Reg.OUT_EVT, Reg.OUT_WITHHELD_CNT,
   Reg.OUT_LATE_COPY_CNT, Reg.OUT_COALESCE_CNT, Reg.CROAK_EVT, Reg.CROAK_RAISE_CNT, Reg.CROAK_ESC_CNT, Reg.CROAK_BRIDGE_CNT,
   Reg.CROAK_ACCEPT_CNT, Reg.CROAK_SILENCE_CNT, Reg.CROAK_DM_CALL_CNT, Reg.CROAK_FLOOD_CNT, Reg.CROAK_CANTX_LOSS_CNT,
   Reg.CAN_SIG_FAULT_CNT, Reg.MSIX_PBA 0]

/-- The engine's evaluation keeps: the other engine, of its own what the view shows, the node's other parts, and which words of Tarn read as zero. -/
structure EvalKeeps (view : Engine → Engine) (e : EngineId) (s t : State) : Prop where
  parts : PartsBut s t evalParts
  regs : RegsBut s t evalRegs
  other_ : t.eng (other e) = s.eng (other e)
  own : view (t.eng e) = view (s.eng e)
  ue : t.gecko.ueWords = s.gecko.ueWords

section
variable {view : Engine → Engine} {e : EngineId} {s t u : State}

theorem EvalKeeps.refl (view : Engine → Engine) (e : EngineId) (s : State) : EvalKeeps view e s s :=
  ⟨fun z _ => by cases z <;> rfl, .refl _ _, rfl, rfl, rfl⟩

theorem EvalKeeps.trans (h : EvalKeeps view e s t) (k : EvalKeeps view e t u) : EvalKeeps view e s u :=
  ⟨fun z hz => Zone.same_trans (h.parts z hz) (k.parts z hz), h.regs.trans k.regs, k.other_.trans h.other_, k.own.trans h.own, k.ue.trans h.ue⟩

theorem EvalKeeps.ite {c : Prop} [Decidable c] (ht : EvalKeeps view e s t) (hu : EvalKeeps view e s u) : EvalKeeps view e s (if c then t else u) := by
  split
  · exact ht
  · exact hu

theorem EvalKeeps.foldl {α : Type} {f : State → α → State} (h : ∀ t x, EvalKeeps view e t (f t x)) (l : List α) (s : State) :
    EvalKeeps view e s (l.foldl f s) := by
  induction l generalizing s with
  | nil => exact .refl _ _ _
  | cons x l ih => exact (h s x).trans (ih _)

/-- A coarser view is kept too. -/
theorem EvalKeeps.coarser {view' : Engine → Engine} (h : EvalKeeps view e s t) (hv : ∀ x, view' (view x) = view' x) : EvalKeeps view' e s t :=
  ⟨h.parts, h.regs, h.other_, by rw [← hv (t.eng e), ← hv (s.eng e), h.own], h.ue⟩

theorem EvalKeeps.of_events (h : EvalKeeps Engine.eventless e s t) (hv : NoEvents view) : EvalKeeps view e s t := h.coarser hv

/-- An operation on Outlet, the CAN channels or Gecko, which leaves the words that read as zero. -/
theorem EvalKeeps.of_parts {zs : List Zone} (hp : PartsBut s t zs) (hz : ∀ z, z ∈ zs → z = .outlet ∨ z = .can ∨ z = .gecko)
    (hue : t.gecko.ueWords = s.gecko.ueWords) : EvalKeeps view e s t := by
  have hsub : PartsBut s t [.outlet, .can, .gecko] := fun z h => hp z (fun hmem => h (by simpa using hz z hmem))
  refine ⟨fun z h => hsub z (fun hmem => h ?_), .of_regs (hsub .regs (by decide)) (hsub .behavBoot (by decide)) _, hsub.eng (e := other e),
    congrArg view (hsub.eng (e := e)), hue⟩
  simp only [List.mem_cons, List.not_mem_nil, or_false] at hmem
  rcases hmem with rfl | rfl | rfl <;> decide

/-- An operation on registers alone. -/
theorem EvalKeeps.of_regs (hp : PartsBut s t [.regs]) (hr : RegsBut s t evalRegs) : EvalKeeps view e s t := by
  refine ⟨fun z hz => hp z (fun h => hz ?_), hr, hp.eng (e := other e), congrArg view (hp.eng (e := e)), congrArg Gecko.ueWords (hp .gecko (by decide))⟩
  rw [List.mem_singleton.mp h]
  decide

/-- An operation on the engine alone. -/
theorem EvalKeeps.updEng {f : Engine → Engine} (h : view (f (s.eng e)) = view (s.eng e)) : EvalKeeps view e s (s.updEng e f) := by
  have hp := s.updEng_parts e f
  refine ⟨fun z hz => hp z (fun h => hz ?_), regsBut_updEng _ _ _ _, s.eng_updEng_other e f, ?_, congrArg Gecko.ueWords (hp .gecko (by decide))⟩
  · simp only [List.mem_cons, List.not_mem_nil, or_false] at h
    rcases h with rfl | rfl <;> decide
  · rw [State.eng_updEng_self]
    exact h

theorem keeps_bump {o : Off} (h : o ∈ evalRegs) : EvalKeeps view e s (s.bump o) :=
  .of_regs (fun z hz => same_of_foot [.regs] (fun _ _ => bump_foot _ _ (.refl s)) z hz)
    ((regsBut_bump s o).mono (List.cons_subset.mpr ⟨h, List.nil_subset _⟩))

theorem keeps_raise {o : Off} (m : Nat) (h : o ∈ evalRegs) : EvalKeeps view e s (s.raise o m) :=
  .of_regs (fun z hz => same_of_foot [.regs] (fun _ _ => raise_foot _ _ _ (.refl s)) z hz)
    ((regsBut_raise s o m).mono (List.cons_subset.mpr ⟨h, List.cons_subset.mpr ⟨by decide, List.nil_subset _⟩⟩))

theorem keeps_bumpView (g : EngineId) {o : Off} (h : o ∈ evalRegs) : EvalKeeps view e s (s.bumpView g o) := .ite (keeps_bump h) (.refl _ _ _)

theorem keeps_lineWritten (o n : Nat) : EvalKeeps view e s (s.lineWritten o n) :=
  .of_parts (zs := [.gecko]) (fun z hz => same_of_foot [.gecko] (fun _ _ => lineWritten_foot _ _ _ (.refl s)) z hz) (by simp) rfl

theorem keeps_updOutlet (f : Outlet → Outlet) : EvalKeeps view e s (s.updOutlet f) :=
  .of_parts (zs := [.outlet]) (fun z hz => same_of_foot [.outlet] (fun _ _ => updOutlet_foot _ _ (.refl s)) z hz) (by simp) rfl

theorem keeps_setChain (g : EngineId) (c : Chain) : EvalKeeps view e s (s.setChain g c) :=
  .of_parts (zs := [.outlet]) (s.setChain_parts g c) (by simp) (by cases g <;> rfl)

/-! ## Events -/

section
variable (hq : NoQueue view)
include hq

theorem keeps_takeCopy : EvalKeeps view e s (s.takeCopy e) := by
  unfold State.takeCopy
  split
  · exact .refl _ _ _
  · dsimp only
    refine (EvalKeeps.updEng (f := Engine.handed) (hq.same rfl)).trans ((keeps_setChain _ _).trans (.ite ?_ (keeps_updOutlet _)))
    exact (keeps_bump (by decide)).trans (keeps_raise _ (by decide))

theorem keeps_eventCredit : EvalKeeps view e s (s.eventCredit e) := .ite (keeps_takeCopy hq) (.refl _ _ _)

/-- An event's emission touches the queue and the ESN alone. -/
theorem keeps_put_queue (v : Event) : EvalKeeps view e s (s.put e v) := by
  have hqueue : ∀ (x : Engine) (v : Event) (n : BitVec 48), ({ x.queue v with nextEsn := n } : Engine).queueless = x.queueless := by
    intro x v n
    unfold Engine.queue
    split
    · rfl
    · rfl
  have hset : ∀ u : State, EvalKeeps view e u (u.setEng e { (u.eng e).queue { v with esn := (u.eng e).nextEsn } with nextEsn := nextEsnOf (u.eng e).nextEsn }) :=
    fun u => EvalKeeps.updEng (f := fun x => { x.queue { v with esn := x.nextEsn } with nextEsn := nextEsnOf x.nextEsn }) (hq.same (hqueue _ _ _))
  unfold State.put
  exact (keeps_eventCredit hq).trans ((hset _).trans (keeps_bump (by cases e <;> decide)))

end

variable (hv : NoEvents view)
include hv

theorem keeps_put (v : Event) : EvalKeeps view e s (s.put e v) := keeps_put_queue hv.noQueue v

theorem keeps_putNode (v : Event) : EvalKeeps view e s (s.putNode e v) := by
  unfold State.putNode
  refine .ite (keeps_put hv v) ((EvalKeeps.updEng ?_).trans (.ite ((keeps_bump (by decide)).trans (keeps_raise _ (by decide))) (.refl _ _ _)))
  exact hv.same rfl

theorem keeps_putGroup (v : Event) : EvalKeeps view e s (s.putGroup e v) := by
  unfold State.putGroup
  refine .ite (keeps_put hv v) ((EvalKeeps.updEng ?_).trans (.ite ((keeps_bump (by decide)).trans (keeps_raise _ (by decide))) (.refl _ _ _)))
  exact hv.same rfl

theorem keeps_putSeal (r : InRec) (cause : Byte) : EvalKeeps view e s (s.putSeal e r cause) := by
  unfold State.putSeal
  refine .ite ((EvalKeeps.updEng ?_).trans (keeps_put hv _)) ((EvalKeeps.updEng ?_).trans (keeps_putNode hv _))
  · exact hv.same rfl
  · exact hv.same rfl

theorem keeps_countCustody (r : InRec) (c : Bool) : EvalKeeps view e s (s.countCustody e r c) := by
  unfold State.countCustody
  refine .ite (.refl _ _ _) ((EvalKeeps.updEng ?_).trans (.ite (keeps_putSeal hv r 0) (.refl _ _ _)))
  exact hv.same rfl

theorem keeps_groupEvent (r : InRec) (g : Nat) (c : GCfg) (type stNew stOld : Byte) (sub value : Nat) :
    EvalKeeps view e s (s.groupEvent e r g c type stNew stOld sub value) := keeps_putGroup hv _

theorem keeps_epochChange (r : InRec) (cause : Byte) (epoch : Nat) : EvalKeeps view e s (s.epochChange e r cause epoch) := keeps_putNode hv _

theorem keeps_health (r : InRec) (b : Bool) : EvalKeeps view e s (s.health e r b) := keeps_putNode hv _

omit hv

theorem keeps_noteInvalid (raw : List Byte) (n : Nat) : EvalKeeps view e s (s.noteInvalid e raw n) :=
  .ite (.refl _ _ _) (keeps_bump (by cases e <;> decide))

theorem keeps_noteGroup (g : Nat) : EvalKeeps view e s (s.noteGroup e g) := .ite (keeps_noteInvalid _ _) (.refl _ _ _)

/-! ## Point records -/

theorem keeps_setPt (r : InRec) (p : Nat) (y : PtState) : EvalKeeps Engine.pointless e s (s.setPt e r p y) := by
  unfold State.setPt
  exact (keeps_lineWritten _ _).trans (EvalKeeps.updEng rfl)

theorem keeps_pointEvent (r : InRec) (p prio : Nat) (custody : Bool) (type stNew stOld : Byte) :
    EvalKeeps Engine.pointless e s (s.pointEvent e r p prio custody type stNew stOld) := by
  have hv := noEvents_pointless
  unfold State.pointEvent
  refine .ite (.ite ?_ ?_) ?_
  · exact (keeps_setPt r p _).trans ((keeps_put hv _).trans (keeps_countCustody hv r custody))
  · exact (keeps_setPt r p _).trans ((keeps_put hv _).trans (keeps_countCustody hv r custody))
  · exact (keeps_setPt r p _).trans (.ite ((keeps_bump (by decide)).trans (.ite (keeps_raise _ (by decide)) (.refl _ _ _))) (.refl _ _ _))

theorem keeps_sweepNotice (r : InRec) (p prio : Nat) (custody : Bool) : EvalKeeps Engine.pointless e s (s.sweepNotice e r p prio custody) := by
  have hv := noEvents_pointless
  unfold State.sweepNotice
  exact .ite ((keeps_setPt r p _).trans ((keeps_put hv _).trans (keeps_countCustody hv r custody))) (.refl _ _ _)

theorem keeps_resetPoint (r : InRec) (p prio : Nat) (custody : Bool) (st : Byte) :
    EvalKeeps Engine.pointless e s (s.resetPoint e r p prio custody st) := by
  unfold State.resetPoint
  exact (keeps_setPt r p _).trans (keeps_pointEvent r p prio custody _ _ _)

theorem keeps_ackPoint (r : InRec) (p : Nat) : EvalKeeps Engine.pointless e s (s.ackPoint e r p) := by
  unfold State.ackPoint
  exact .ite (.refl _ _ _) ((keeps_noteInvalid _ _).trans ((keeps_setPt r p _).trans (keeps_pointEvent r p _ _ _ _ _)))

theorem keeps_ackMembers (r : InRec) (g : Nat) : EvalKeeps Engine.pointless e s (s.ackMembers e r g) := by
  unfold State.ackMembers
  exact .foldl (fun t p => .ite (.refl _ _ _) (.ite (keeps_noteInvalid _ _) (.ite (keeps_ackPoint r p) (.refl _ _ _)))) _ _

theorem keeps_configFault (r : InRec) (p : Nat) : EvalKeeps Engine.pointless e s (s.configFault e r p) := by
  unfold State.configFault
  exact .ite (.refl _ _ _) ((keeps_setPt r p _).trans (keeps_pointEvent r p _ _ _ _ _))

/-! ## Groups and calls -/

theorem keeps_setGr (g : Nat) (y : GrState) : EvalKeeps Engine.groupless e s (s.setGr e g y) := by
  unfold State.setGr
  exact (keeps_lineWritten _ _).trans (EvalKeeps.updEng rfl)

theorem keeps_updGr (g : Nat) (f : GrState → GrState) : EvalKeeps Engine.groupless e s (s.updGr e g f) := keeps_setGr g _

theorem keeps_markSwept (g : Nat) : EvalKeeps Engine.groupless e s (s.markSwept e g) := EvalKeeps.updEng rfl

theorem keeps_groupState (r : InRec) (g : Nat) (c : GCfg) : EvalKeeps Engine.groupless e s (s.groupState e r g c) := by
  unfold State.groupState
  exact (keeps_groupEvent noEvents_groupless r g c _ _ _ _ _).trans (keeps_markSwept g)

theorem keeps_newAlarm (r : InRec) (p : Nat) (c : PCfg) (stNew stOld : Byte) : EvalKeeps Engine.groupless e s (s.newAlarm e r p c stNew stOld) := by
  have hopen : ∀ u : State, EvalKeeps Engine.groupless e u (u.updEng e (fun x => { x with opened := x.opened ++ [c.group] })) := fun u => EvalKeeps.updEng rfl
  unfold State.newAlarm
  dsimp only
  refine (keeps_noteGroup _).trans (.ite (.refl _ _ _) ((keeps_updGr _ _).trans (EvalKeeps.trans (.ite ?_ (.refl _ _ _)) (.ite (.refl _ _ _) ?_))))
  · exact (keeps_updGr _ _).trans (keeps_putGroup noEvents_groupless _)
  · exact EvalKeeps.trans (.ite ((keeps_updGr _ _).trans (hopen _)) (.refl _ _ _)) (keeps_updGr _ _)

theorem keeps_placeNode (n : Nat) (id : U32) (brs : Bool) (data : List Byte) (dlc : Nat) : EvalKeeps view e s (s.placeNode n id brs data dlc).1 := by
  have hp : PartsBut s (s.placeNode n id brs data dlc).1 [.can] := fun z hz => same_of_foot [.can] (fun _ _ => placeNode_foot _ _ _ _ _ _ (.refl s)) z hz
  exact .of_parts hp (by simp) (congrArg Gecko.ueWords (hp .gecko (by decide)))

theorem keeps_sendFrames (g : Nat) (fs : List (Nat × U32 × Nat)) : EvalKeeps view e s (s.sendFrames e g fs) := by
  unfold State.sendFrames
  refine .ite (.refl _ _ _) (.foldl (fun t f => ?_) _ _)
  dsimp only
  exact .ite (keeps_placeNode _ _ _ _ _) ((keeps_placeNode _ _ _ _ _).trans (keeps_bump (by decide)))

theorem keeps_countCall (st : Byte) (cause : Nat) : EvalKeeps view e s (s.countCall e st cause) := by
  have hb : ∀ (o : Off) (u : State), o ∈ evalRegs → EvalKeeps view e u (u.bump o) := fun _ _ h => keeps_bump h
  unfold State.countCall
  dsimp only
  refine .ite (.refl _ _ _) (EvalKeeps.trans (.ite (hb _ _ (by decide)) (.refl _ _ _)) (EvalKeeps.trans (.ite (hb _ _ (by decide)) (.refl _ _ _))
    (EvalKeeps.trans (.ite ((hb _ _ (by decide)).trans (keeps_raise _ (by decide))) (.refl _ _ _)) (.ite ?_ (.ite ?_ (.ite ?_ (.refl _ _ _)))))))
  · exact (hb _ _ (by decide)).trans (keeps_raise _ (by decide))
  · exact hb _ _ (by decide)
  · exact hb _ _ (by decide)

/-- A state half whose CALL_STATE changes (R255, R256). -/
def GrState.calls (x : GrState) (c : GCfg) (st : Byte) (cause timer : Nat) : GrState :=
  let y := { x with callState := st, callTimer := BitVec.ofNat 16 (c.timer st timer), canTimer := if calling st then BitVec.ofNat 16 c.canRepeat else 0 }
  if (cause == Cause.newAlarm || cause == Cause.period) && x.has G.flooded then y.mark G.floodRaised true else y

/-- The frames of a change of CALL_STATE (R259, R260). -/
def State.callFrames (s : State) (e : EngineId) (g : Nat) (c : GCfg) (st was : Byte) : State :=
  let used := Sparse.get [] (s.eng e).called g
  let keep := fun l => s.updEng e (fun z => { z with called := Sparse.set [] z.called g l })
  if calling st then (keep (addFrames (if calling was then used else []) (c.frames st.toNat))).sendFrames e g (c.frames st.toNat)
  else if st = Call.idle then keep []
  else s.sendFrames e g used

theorem State.callTo_eq (s : State) (e : EngineId) (r : InRec) (g : Nat) (c : GCfg) (st : Byte) (cause timer : Nat) :
    s.callTo e r g c st cause timer =
      (((s.setGr e g ((s.gr e g).calls c st cause timer)).groupEvent e r g c Ev.callState st (s.gr e g).callState cause (c.timer st timer)).countCall e st
        cause).callFrames e g c st (s.gr e g).callState := rfl

theorem keeps_callFrames (g : Nat) (c : GCfg) (st was : Byte) : EvalKeeps Engine.groupless e s (s.callFrames e g c st was) := by
  have hcalled : ∀ l, EvalKeeps Engine.groupless e s (s.updEng e (fun z => { z with called := Sparse.set [] z.called g l })) := fun l => EvalKeeps.updEng rfl
  unfold State.callFrames
  exact .ite ((hcalled _).trans (keeps_sendFrames _ _)) (.ite (hcalled _) (keeps_sendFrames _ _))

theorem keeps_callTo (r : InRec) (g : Nat) (c : GCfg) (st : Byte) (cause timer : Nat) :
    EvalKeeps Engine.groupless e s (s.callTo e r g c st cause timer) := by
  rw [State.callTo_eq]
  exact (keeps_setGr _ _).trans ((keeps_groupEvent noEvents_groupless r g c _ _ _ _ _).trans ((keeps_countCall _ _).trans (keeps_callFrames g c st _)))

theorem keeps_press (r : InRec) (g : Nat) (c : GCfg) : EvalKeeps Engine.groupless e s (s.press e r g c) := by
  unfold State.press
  exact (keeps_updGr _ _).trans (.ite (keeps_updGr _ _) (keeps_callTo r g c _ _ _))

end

end Sys2Proof.Machine

/-! PROOFS. What the steps on points and groups leave alone: inputs, delays, blocking and shelving, the sweeps, the refresh (R214, R217-R231, R250-R258, R284). -/

namespace Sys2Proof.Machine

variable {view : Engine → Engine} {e : EngineId} {s t u : State}

/-! ## What the evaluation reads of Tarn stays -/

theorem EvalKeeps.tarn (h : EvalKeeps view e s t) : t.tarn = s.tarn := h.parts .tarn (by decide)

theorem EvalKeeps.inlet (h : EvalKeeps view e s t) : t.inlet = s.inlet := h.parts .inlet (by decide)

theorem EvalKeeps.hif (h : EvalKeeps view e s t) : t.hif = s.hif := h.parts .hif (by decide)

theorem EvalKeeps.mgmt (h : EvalKeeps view e s t) : t.mgmt = s.mgmt := State.mgmt_congr (h.regs _ (by decide))

theorem EvalKeeps.tarnSee (h : EvalKeeps view e s t) (o n : Nat) : t.tarnSee o n = s.tarnSee o n := by
  unfold State.tarnSee State.tarnRead
  rw [h.ue, h.tarn]

theorem EvalKeeps.pcfg (h : EvalKeeps view e s t) (p : Nat) : t.pcfg p = s.pcfg p := by
  unfold State.pcfg
  rw [h.tarnSee]

theorem EvalKeeps.gcfg (h : EvalKeeps view e s t) (g : Nat) : t.gcfg g = s.gcfg g := by
  unfold State.gcfg
  rw [h.tarnSee]

theorem EvalKeeps.fanout (h : EvalKeeps view e s t) (type index : Nat) : t.fanout type index = s.fanout type index := by
  unfold State.fanout
  simp only [h.tarnSee]

theorem EvalKeeps.points (h : EvalKeeps view e s t) : t.points = s.points := by
  unfold State.points State.listed
  rw [h.tarn]

theorem EvalKeeps.eccHeld (h : EvalKeeps view e s t) (g : EngineId) (p : Nat) : t.eccHeld g p = s.eccHeld g p := by
  unfold State.eccHeld State.eccAwaits
  rw [h.inlet]

theorem EvalKeeps.faultCount (h : EvalKeeps view e s t) (c : PCfg) : t.faultCount c = s.faultCount c := by
  unfold State.faultCount
  rw [h.tarnSee]

theorem EvalKeeps.stateless_of_pointless (h : EvalKeeps Engine.pointless e s t) : EvalKeeps Engine.stateless e s t := h.coarser (fun _ => rfl)

theorem EvalKeeps.stateless_of_groupless (h : EvalKeeps Engine.groupless e s t) : EvalKeeps Engine.stateless e s t := h.coarser (fun _ => rfl)

/-! ## Points: changes, inputs, delays, blocking, shelving -/

theorem keeps_report (r : InRec) (p : Nat) (c : PCfg) (y : PtState) (old : Byte) (alarm : Bool) :
    EvalKeeps Engine.stateless e s (s.report_ e r p c y old alarm) := by
  unfold State.report_
  exact (keeps_setPt r p y).stateless_of_pointless.trans ((keeps_pointEvent r p _ _ _ _ _).stateless_of_pointless.trans
    (.ite (keeps_newAlarm r p c _ _).stateless_of_groupless (.refl _ _ _)))

theorem keeps_setPt_stateless (r : InRec) (p : Nat) (y : PtState) : EvalKeeps Engine.stateless e s (s.setPt e r p y) :=
  (keeps_setPt r p y).stateless_of_pointless

theorem keeps_moveTo (r : InRec) (p : Nat) (c : PCfg) (x : PtState) (st : Byte) : EvalKeeps Engine.stateless e s (s.moveTo e r p c x st) := by
  unfold State.moveTo
  exact .ite (.refl _ _ _) (keeps_report r p c _ _ _)

theorem keeps_decide (r : InRec) (p : Nat) (c : PCfg) (d : Decision) : EvalKeeps Engine.stateless e s (s.decide_ e r p c d).1 := by
  unfold State.decide_
  split
  · exact keeps_setPt_stateless r p _
  · exact keeps_moveTo r p c _ _

theorem keeps_applyInput (r : InRec) (p : Nat) (c : PCfg) (i : PtInput) : EvalKeeps Engine.stateless e s (s.applyInput e r p c i).1 := by
  unfold State.applyInput
  dsimp only
  split
  · exact keeps_setPt_stateless r p _
  · split
    · split
      · exact keeps_moveTo r p c _ _
      · exact keeps_setPt_stateless r p _
    · exact keeps_decide r p c _

theorem keeps_rateStep (r : InRec) (p : Nat) (c : PCfg) : EvalKeeps Engine.stateless e s (s.rateStep e r p c).1 := by
  unfold State.rateStep
  dsimp only
  split
  · exact .refl _ _ _
  · exact keeps_decide r p c _

theorem keeps_delayTick (r : InRec) (p : Nat) (c : PCfg) : EvalKeeps Engine.stateless e s (s.delayTick e r p c) := by
  unfold State.delayTick
  exact .ite (keeps_setPt_stateless r p _) (.ite (keeps_setPt_stateless r p _) (keeps_moveTo r p c _ _))

theorem keeps_endBlock (r : InRec) (p : Nat) (c : PCfg) : EvalKeeps Engine.stateless e s (s.endBlock e r p c) := keeps_report r p c _ _ _

theorem keeps_blockStep (r : InRec) (p : Nat) (c : PCfg) (tick : Nat) : EvalKeeps Engine.stateless e s (s.blockStep e r p c tick) := by
  unfold State.blockStep
  refine .ite (.ite (keeps_endBlock r p c) (.refl _ _ _)) (.ite (.ite (keeps_setPt_stateless r p _) (keeps_report r p c _ _ _)) ?_)
  exact (keeps_setPt_stateless r p _).trans (.ite (keeps_endBlock r p c) (.refl _ _ _))

theorem keeps_endShelve (r : InRec) (p : Nat) (c : PCfg) : EvalKeeps Engine.stateless e s (s.endShelve e r p c) := keeps_report r p _ _ _ _

theorem keeps_shelveTick (r : InRec) (p : Nat) (c : PCfg) : EvalKeeps Engine.stateless e s (s.shelveTick e r p c) := by
  unfold State.shelveTick
  exact .ite (keeps_setPt_stateless r p _) (keeps_endShelve r p c)

theorem keeps_feed (r : InRec) (type index : Nat) (input : PCfg → PtInput) : EvalKeeps Engine.stateless e s (s.feed e r type index input) := by
  unfold State.feed
  exact .foldl (fun t p => .ite (.refl _ _ _) (.ite (keeps_noteInvalid _ _) (.ite (.refl _ _ _) (keeps_applyInput r p _ _)))) _ _

/-! ## The visit of the points -/

/-- The totals of a visit's groups. -/
def State.totalled (s : State) (e : EngineId) (p : Nat) (c : PCfg) : State :=
  s.updEng e (fun g => { g with totals := Sparse.upd { } g.totals c.group (fun t => t.add c (g.pt p)) })

theorem keeps_totalled (p : Nat) (c : PCfg) : EvalKeeps Engine.stateless e s (s.totalled e p c) := EvalKeeps.updEng rfl

/-- Shelving counts at whole minutes. -/
def State.shelveCount (s : State) (e : EngineId) (r : InRec) (p : Nat) (c : PCfg) (tick : Nat) : State :=
  if (s.pt e p).has Sub.shelved && tick % 60000 == 0 then s.shelveTick e r p c else s

/-- A delay counts at whole tenths of a second, but in the TICK that started it. -/
def State.delayCount (s : State) (e : EngineId) (r : InRec) (p : Nat) (c : PCfg) (tick : Nat) (started : Bool) : State :=
  if ((s.pt e p).has Sub.pendOn || (s.pt e p).has Sub.pendOff) && !started && tick % 10 == 0 then s.delayTick e r p c else s

/-- The input of a derived point. -/
def State.derivedStep (s : State) (e : EngineId) (r : InRec) (p : Nat) (c : PCfg) : State × Bool :=
  if 5 ≤ c.srcType && !(s.pt e p).has Sub.forced then s.applyInput e r p c (s.derived e c) else (s, false)

/-- A rate point's step at its TICK of each second. -/
def State.rateCount (s : State) (e : EngineId) (r : InRec) (p : Nat) (c : PCfg) (tick : Nat) : State × Bool :=
  if c.rate && tick % 1000 == p % 1000 then s.rateStep e r p c else (s, false)

theorem State.sweepPoint_on {s : State} {e : EngineId} {r : InRec} {tick p : Nat} (hon : (s.pcfg p).on = true) (hok : (s.pcfg p).valid p = true) :
    s.sweepPoint e r tick p =
      (let c := s.pcfg p
       let n := s.sweepNotice e r p c.prio c.custody
       let a := n.derivedStep e r p c
       let b := a.1.rateCount e r p c tick
       (((b.1.delayCount e r p c tick (a.2 || b.2)).blockStep e r p c tick).shelveCount e r p c tick).totalled e p c) := by
  have hread : (s.pcfg p).read p = s.pcfg p := by
    unfold PCfg.read
    rw [if_pos hok]
  unfold State.sweepPoint
  dsimp only
  rw [hread, if_neg (by rw [hon]; decide), if_neg (by rw [hok]; decide)]
  rfl

theorem keeps_derivedStep (r : InRec) (p : Nat) (c : PCfg) : EvalKeeps Engine.stateless e s (s.derivedStep e r p c).1 := by
  unfold State.derivedStep
  split
  · exact keeps_applyInput r p _ _
  · exact .refl _ _ _

theorem keeps_rateCount (r : InRec) (p : Nat) (c : PCfg) (tick : Nat) : EvalKeeps Engine.stateless e s (s.rateCount e r p c tick).1 := by
  unfold State.rateCount
  split
  · exact keeps_rateStep r p _
  · exact .refl _ _ _

theorem keeps_delayCount (r : InRec) (p : Nat) (c : PCfg) (tick : Nat) (b : Bool) : EvalKeeps Engine.stateless e s (s.delayCount e r p c tick b) :=
  .ite (keeps_delayTick r p _) (.refl _ _ _)

theorem keeps_shelveCount (r : InRec) (p : Nat) (c : PCfg) (tick : Nat) : EvalKeeps Engine.stateless e s (s.shelveCount e r p c tick) :=
  .ite (keeps_shelveTick r p _) (.refl _ _ _)

theorem keeps_sweepPoint (r : InRec) (tick p : Nat) : EvalKeeps Engine.stateless e s (s.sweepPoint e r tick p) := by
  have hnotice : ∀ prio custody, EvalKeeps Engine.stateless e s (s.sweepNotice e r p prio custody) := fun _ _ =>
    (keeps_sweepNotice r p _ _).stateless_of_pointless
  by_cases hon : (s.pcfg p).on = true
  · by_cases hok : (s.pcfg p).valid p = true
    · rw [State.sweepPoint_on hon hok]
      dsimp only
      exact (hnotice _ _).trans ((keeps_derivedStep r p _).trans ((keeps_rateCount r p _ tick).trans ((keeps_delayCount r p _ tick _).trans
        ((keeps_blockStep r p _ tick).trans ((keeps_shelveCount r p _ tick).trans (keeps_totalled p _))))))
    · rw [Bool.not_eq_true] at hok
      unfold State.sweepPoint
      dsimp only
      rw [if_neg (by rw [hon]; decide), if_pos (by rw [hok]; rfl)]
      exact (hnotice _ _).trans ((keeps_noteInvalid _ _).trans (keeps_configFault r p).stateless_of_pointless)
  · rw [Bool.not_eq_true] at hon
    unfold State.sweepPoint
    dsimp only
    rw [if_pos (by rw [hon]; rfl)]
    exact hnotice _ _

/-! ## The group sweep -/

theorem keeps_groupBlock (g : Nat) (c : GCfg) (tick : Nat) : EvalKeeps Engine.groupless e s (s.groupBlock e g c tick) := by
  unfold State.groupBlock
  exact .ite (keeps_setGr g _) (.ite (.refl _ _ _) (.ite (keeps_setGr g _) (keeps_setGr g _)))

theorem keeps_floodStep (g : Nat) (c : GCfg) (tick : Nat) : EvalKeeps Engine.groupless e s (s.floodStep e g c tick) := by
  unfold State.floodStep
  refine .ite (.refl _ _ _) ?_
  extract_lets x excess i u y
  have hu : EvalKeeps Engine.groupless e s u := by
    unfold u
    split
    · exact (keeps_setGr g _).trans (keeps_bumpView e (by decide))
    · exact .refl _ _ _
  exact hu.trans (.ite (.refl _ _ _) (.ite (keeps_setGr g _) (.ite (keeps_setGr g _) (keeps_setGr g _))))

theorem keeps_callTimers (r : InRec) (g : Nat) (c : GCfg) (tick : Nat) : EvalKeeps Engine.groupless e s (s.callTimers e r g c tick) := by
  have hcalled : ∀ (u : State) (l : Engine → List (Nat × U32 × Nat)), EvalKeeps Engine.groupless e u (u.updEng e (fun z => { z with called := Sparse.set [] z.called g (l z) })) :=
    fun u l => EvalKeeps.updEng rfl
  unfold State.callTimers
  refine .ite (.refl _ _ _) (.ite (keeps_callTo r g c _ _ _) (.ite ?_ (keeps_setGr g _)))
  exact (keeps_setGr g _).trans ((hcalled _ _).trans (keeps_sendFrames _ _))

theorem keeps_alarmStep (r : InRec) (g : Nat) (c : GCfg) (tick : Nat) : EvalKeeps Engine.groupless e s (s.alarmStep e r g c tick) := by
  unfold State.alarmStep
  exact .ite (.refl _ _ _) (.ite (keeps_callTo r g c _ _ _) (.ite (keeps_callTo r g c _ _ _) (keeps_callTimers r g c tick)))

theorem keeps_dmWarnNow (r : InRec) (g : Nat) (c : GCfg) : EvalKeeps Engine.groupless e s (s.dmWarnNow e r g c) :=
  (keeps_updGr g _).trans (keeps_groupState r g c)

theorem keeps_dmExpire (r : InRec) (g : Nat) (c : GCfg) : EvalKeeps Engine.groupless e s (s.dmExpire e r g c) :=
  (keeps_updGr g _).trans (keeps_callTo r g c _ _ _)

theorem keeps_deadmanStep (r : InRec) (g : Nat) (c : GCfg) (tick : Nat) : EvalKeeps Engine.groupless e s (s.deadmanStep e r g c tick) := by
  unfold State.deadmanStep
  refine .ite (.ite (keeps_setGr g _) (keeps_callTo r g c _ _ _)) (.ite (.refl _ _ _) (.ite (keeps_callTimers r g c tick) (.ite (keeps_setGr g _)
    (.ite (.refl _ _ _) ((keeps_setGr g _).trans (EvalKeeps.trans (.ite (keeps_dmWarnNow r g c) (.refl _ _ _)) (.ite (keeps_dmExpire r g c) (.refl _ _ _))))))))

theorem keeps_groupFault (r : InRec) (g : Nat) (c : GCfg) : EvalKeeps Engine.groupless e s (s.groupFault e r g c) := by
  unfold State.groupFault
  exact .ite (.refl _ _ _) ((keeps_setGr g _).trans ((keeps_groupState r g c).trans (.ite (keeps_updGr g _) (keeps_callTo r g c _ _ _))))

/-- The totals of the point visit, in the group's half (R247). -/
def State.pictured (s : State) (e : EngineId) (g : Nat) : State := s.updGr e g (fun x => x.picture (Sparse.get { } (s.eng e).totals g))

/-- FIRST_OUT is kept while the group is in alarm. -/
def State.firstOutKept (s : State) (e : EngineId) (g : Nat) : State := s.updGr e g (fun x => if x.has G.inAlarm then x else { x with firstOut := noPoint })

/-- A picture that differs from the last sweep's is shown (R252 step 6). -/
def State.pictureShown (s : State) (e : EngineId) (r : InRec) (g : Nat) (c : GCfg) : State :=
  if ((s.gr e g).worst, (s.gr e g).gflags) = (s.eng e).sweptOf g then s else s.groupState e r g c

/-- The group's session. -/
def State.sessionStep (s : State) (e : EngineId) (r : InRec) (g : Nat) (c : GCfg) (tick : Nat) : State :=
  if c.deadman then s.deadmanStep e r g c tick else s.alarmStep e r g c tick

/-- The end of a group's part of the sweep. -/
def State.groupSwept (s : State) (e : EngineId) (g : Nat) : State := (s.updGr e g (fun x => { x with newCnt := 0 })).markSwept e g

theorem State.sweepGroup_on {s : State} {e : EngineId} {r : InRec} {tick g : Nat} (hon : (s.gcfg g).enable = true) (hok : (s.gcfg g).valid = true) :
    s.sweepGroup e r tick g =
      (((((((s.pictured e g).groupBlock e g (s.gcfg g) tick).floodStep e g (s.gcfg g) tick).firstOutKept e g).pictureShown e r g (s.gcfg g)).sessionStep
        e r g (s.gcfg g) tick).groupSwept e g) := by
  unfold State.sweepGroup
  dsimp only
  rw [if_neg (by rw [hon]; decide), if_neg (by rw [hok]; decide)]
  rfl

theorem keeps_pictureShown (r : InRec) (g : Nat) (c : GCfg) : EvalKeeps Engine.groupless e s (s.pictureShown e r g c) :=
  .ite (.refl _ _ _) (keeps_groupState r g c)

theorem keeps_sessionStep (r : InRec) (g : Nat) (c : GCfg) (tick : Nat) : EvalKeeps Engine.groupless e s (s.sessionStep e r g c tick) :=
  .ite (keeps_deadmanStep r g c tick) (keeps_alarmStep r g c tick)

theorem keeps_sweepGroup (r : InRec) (tick g : Nat) : EvalKeeps Engine.groupless e s (s.sweepGroup e r tick g) := by
  by_cases hon : (s.gcfg g).enable = true
  · by_cases hok : (s.gcfg g).valid = true
    · rw [State.sweepGroup_on hon hok]
      exact (keeps_updGr g _).trans ((keeps_groupBlock g _ tick).trans ((keeps_floodStep g _ tick).trans ((keeps_updGr g _).trans
        ((keeps_pictureShown r g _).trans ((keeps_sessionStep r g _ tick).trans ((keeps_updGr g _).trans (keeps_markSwept g)))))))
    · rw [Bool.not_eq_true] at hok
      unfold State.sweepGroup
      dsimp only
      rw [if_neg (by rw [hon]; decide), if_pos (by rw [hok]; rfl)]
      exact (keeps_noteInvalid _ _).trans ((keeps_groupFault r g _).trans (keeps_updGr g _))
  · rw [Bool.not_eq_true] at hon
    unfold State.sweepGroup
    dsimp only
    rw [if_pos (by rw [hon]; rfl)]
    exact .refl _ _ _

theorem keeps_resetHalf (r : InRec) (g : Nat) (c : GCfg) (event : Bool) : EvalKeeps Engine.groupless e s (s.resetHalf e r g c event) := by
  have hcalled : ∀ u : State, EvalKeeps Engine.groupless e u (u.updEng e (fun z => { z with called := Sparse.set [] z.called g [] })) :=
    fun u => EvalKeeps.updEng rfl
  unfold State.resetHalf
  extract_lets old u v w
  have hu : EvalKeeps Engine.groupless e s u := keeps_setGr g _
  have hv : EvalKeeps Engine.groupless e u v := .ite (keeps_groupState r g c) (.refl _ _ _)
  have hw : EvalKeeps Engine.groupless e v w := hcalled v
  exact (hu.trans (hv.trans hw)).trans (.ite (.refl _ _ _) (keeps_groupEvent noEvents_groupless r g c _ _ _ _ _))

/-! ## Accept sources -/

theorem keeps_acceptGroup (r : InRec) (dis sigs : List Nat) (g : Nat) : EvalKeeps Engine.groupless e s (s.acceptGroup e r dis sigs g) := by
  unfold State.acceptGroup
  dsimp only
  refine (keeps_noteGroup g).trans (.ite (.refl _ _ _) (.ite (.ite (keeps_press r g _) (.refl _ _ _)) ?_))
  split
  · exact keeps_callTo r g _ _ _ _
  · exact .refl _ _ _

theorem keeps_acceptSources (r : InRec) (dis sigs : List Nat) : EvalKeeps Engine.groupless e s (s.acceptSources e r dis sigs) := by
  unfold State.acceptSources
  exact .ite (.refl _ _ _) (.foldl (fun t g => keeps_acceptGroup r dis sigs g) _ _)

/-! ## The refresh -/

theorem keeps_refreshGroup (r : InRec) (g : Nat) : EvalKeeps Engine.eventless e s (s.refreshGroup e r g) := by
  have hv := noEvents_eventless
  unfold State.refreshGroup
  refine (keeps_noteGroup g).trans ((keeps_groupEvent hv r g _ _ _ _ _ _).trans (EvalKeeps.trans (.ite (.refl _ _ _) ?_) (.ite (.refl _ _ _)
    (keeps_groupEvent hv r g _ _ _ _ _ _))))
  exact (keeps_noteInvalid _ _).trans (keeps_putGroup hv _)

theorem keeps_refreshNode (r : InRec) : EvalKeeps Engine.eventless e s (s.refreshNode e r) := by
  have hv := noEvents_eventless
  have hupd : ∀ u : State, EvalKeeps Engine.eventless e u (u.updEng e (fun x => { x with nodeRefresh := false, withheldCnt := 0 })) := fun u => EvalKeeps.updEng rfl
  unfold State.refreshNode
  dsimp only
  split
  · exact (keeps_putNode hv _).trans ((hupd _).trans (keeps_putSeal hv r _))
  · exact (keeps_putNode hv _).trans (hupd _)

theorem keeps_refresh (r : InRec) : EvalKeeps Engine.eventless e s (s.refresh e r) := by
  have hupd : ∀ u : State, EvalKeeps Engine.eventless e u (u.updEng e (fun x => { x with groupRefresh := false })) := fun u => EvalKeeps.updEng rfl
  unfold State.refresh
  refine .ite (EvalKeeps.trans (.ite ?_ (.refl _ _ _)) (.ite (keeps_refreshNode r) (.refl _ _ _))) (.refl _ _ _)
  exact (EvalKeeps.foldl (fun t g => keeps_refreshGroup r g) _ _).trans (hupd _)

end Sys2Proof.Machine

/-! PROOFS. The frame of one record's evaluation: RUN_START before it, EVAL_ISN and the counts after it (R25, R273, R278, R301). -/

namespace Sys2Proof.Machine

/-! ## Before: RUN_START -/

/-- An engine but for its events, its run begun. -/
def Engine.begun (x : Engine) : Engine := { x.eventless with runStarted := true }

section
variable {e : EngineId} {s t u : State}

theorem State.runStart_of_begun (r : InRec) (h : (s.eng e).runStarted = true) : s.runStart e r = s := by
  unfold State.runStart
  rw [if_pos h]

/-- What the view shows of the engine is kept. -/
theorem EvalKeeps.get {view : Engine → Engine} {α : Type} (h : EvalKeeps view e s t) (f : Engine → α) (hf : ∀ x, f (view x) = f x) :
    f (t.eng e) = f (s.eng e) := by rw [← hf, h.own, hf]

theorem keeps_runStart (r : InRec) : EvalKeeps Engine.begun e s (s.runStart e r) := by
  unfold State.runStart
  have hupd : EvalKeeps Engine.begun e s (s.updEng e (fun x => { x with runStarted := true })) := EvalKeeps.updEng rfl
  exact .ite (.refl _ _ _) (hupd.trans (keeps_epochChange (fun _ => rfl) r 0 _))

theorem State.runStart_begun (r : InRec) : ((s.runStart e r).eng e).runStarted = true := by
  unfold State.runStart
  split
  · next h => exact h
  · refine ((keeps_epochChange (e := e) noEvents_eventless r 0 _).get Engine.runStarted (fun _ => rfl)).trans ?_
    rw [State.eng_updEng_self]

theorem State.runStart_pts (r : InRec) : ((s.runStart e r).eng e).pts = (s.eng e).pts := (keeps_runStart r).get Engine.pts (fun _ => rfl)

theorem State.runStart_grs (r : InRec) : ((s.runStart e r).eng e).grs = (s.eng e).grs := (keeps_runStart r).get Engine.grs (fun _ => rfl)

/-! ## After: the record is behind the engine -/

theorem State.cmdDone_parts (isn : U64) : PartsBut s (s.cmdDone e isn) [.hif] := fun z hz =>
  same_of_foot [.hif] (fun _ _ => cmdDone_foot _ _ _ (.refl s)) z hz

/-- The registers that the end of an evaluation may change. -/
def evaluatedRegs : List Off := [Reg.AE_EVAL_CNT 0, Reg.AE_EVAL_CNT 1, Reg.SPAWN_RP_ISN_LO, Reg.SPAWN_RP_ISN_HI]

/-- Where REPLAY stands is shown of the record. -/
def State.rpShown (s : State) (isn : U64) : State := if s.mgmt = Node.replay then s.replayed isn else s

theorem State.replayed_parts (isn : U64) : PartsBut s (s.replayed isn) [.regs, .spawn] := fun z hz =>
  same_of_foot [.regs, .spawn] (fun _ _ => replayed_foot _ _ (.refl s)) z hz

theorem State.rpShown_parts (isn : U64) : PartsBut s (s.rpShown isn) [.regs, .spawn] := by
  unfold State.rpShown
  split
  · exact s.replayed_parts isn
  · exact fun z _ => by cases z <;> rfl

theorem regsBut_rpShown (isn : U64) : RegsBut s (s.rpShown isn) [Reg.SPAWN_RP_ISN_LO, Reg.SPAWN_RP_ISN_HI] := by
  unfold State.rpShown
  split
  · unfold State.replayed
    dsimp only
    split
    · exact regsBut_setPair _ _ _ _
    · exact (regsBut_setPair s _ _ isn).trans (.of_regs rfl rfl _)
  · exact .refl _ _

theorem State.evaluated_eq (isn : U64) :
    s.evaluated e isn = (((((s.updEng e (fun x => { x with evalIsn := isn })).bump (Reg.AE_EVAL_CNT (engIx e))).rpShown isn).cmdDone e isn).prune) := rfl

theorem State.prune_parts : PartsBut s s.prune [.inlet] := fun z hz => same_of_foot [.inlet] (fun _ _ => prune_foot _ (.refl s)) z hz

theorem State.bump_parts (o : Off) : PartsBut s (s.bump o) [.regs] := fun z hz => same_of_foot [.regs] (fun _ _ => bump_foot _ _ (.refl s)) z hz

theorem State.evaluated_parts (isn : U64) : PartsBut s (s.evaluated e isn) [.regs, .inlet, .aeA, .aeB, .hif, .spawn] := fun z hz =>
  same_of_foot [.regs, .inlet, .aeA, .aeB, .hif, .spawn] (fun _ _ => evaluated_foot _ _ _ (.refl s)) z hz

theorem State.evaluated_eng (isn : U64) (g : EngineId) :
    (s.evaluated e isn).eng g = if g = e then { s.eng e with evalIsn := isn } else s.eng g := by
  have hupd : (s.evaluated e isn).eng g = (s.updEng e (fun x => { x with evalIsn := isn })).eng g := by
    rw [State.evaluated_eq, State.prune_parts.eng, (State.cmdDone_parts isn).eng, (State.rpShown_parts isn).eng, (State.bump_parts _).eng]
  rw [hupd]
  split
  · next h => rw [h, State.eng_updEng_self]
  · next h => exact s.eng_updEng_ne h _

theorem State.evaluated_own (isn : U64) : (s.evaluated e isn).eng e = { s.eng e with evalIsn := isn } := by rw [State.evaluated_eng, if_pos rfl]

/-- The end of an evaluation leaves every register but two of REPLAY's and the engine's count. -/
theorem regsBut_evaluated (isn : U64) :
    RegsBut (s.bump (Reg.AE_EVAL_CNT (engIx e))) (s.evaluated e isn) [Reg.SPAWN_RP_ISN_LO, Reg.SPAWN_RP_ISN_HI] := by
  have hbump : RegsBut (s.bump (Reg.AE_EVAL_CNT (engIx e))) ((s.updEng e (fun x => { x with evalIsn := isn })).bump (Reg.AE_EVAL_CNT (engIx e)))
      [Reg.SPAWN_RP_ISN_LO, Reg.SPAWN_RP_ISN_HI] := fun o _ => by
    rw [State.reg_bump, State.reg_bump, (regsBut_updEng s e _ []).all, (regsBut_updEng s e _ []).all]
  have hdone : ∀ v : State, RegsBut v (v.cmdDone e isn).prune [Reg.SPAWN_RP_ISN_LO, Reg.SPAWN_RP_ISN_HI] := fun v =>
    (RegsBut.of_regs (State.cmdDone_parts isn .regs (by decide)) (State.cmdDone_parts isn .behavBoot (by decide)) _).trans (.of_regs rfl rfl _)
  rw [State.evaluated_eq]
  exact hbump.trans ((regsBut_rpShown isn).trans (hdone _))

theorem State.reg_evaluated {o : Off} (isn : U64) (ho : o ∉ evaluatedRegs) : (s.evaluated e isn).reg o = s.reg o := by
  simp only [evaluatedRegs, List.mem_cons, List.not_mem_nil, or_false, not_or] at ho
  obtain ⟨h0, h1, hlo, hhi⟩ := ho
  have hne : o ≠ Reg.AE_EVAL_CNT (engIx e) := by
    cases e
    · exact h0
    · exact h1
  rw [regsBut_evaluated isn o (by simp [hlo, hhi]), State.reg_bump, if_neg hne]

/-- What holds of an engine as its record's effect is complete. -/
structure Readied (s u : State) (e : EngineId) : Prop where
  begun : (u.eng e).runStarted = true
  count : u.reg (Reg.AE_EVAL_CNT (engIx e)) = s.reg (Reg.AE_EVAL_CNT (engIx e))
  other_ : u.eng (other e) = s.eng (other e)
  tarn : u.tarn = s.tarn

theorem Readied.evaluated {r : InRec} (h : Readied s u e) : Evaluated s (u.evaluated e r.isn) e r := by
  have hoth : (u.evaluated e r.isn).eng (other e) = s.eng (other e) := by rw [State.evaluated_eng, if_neg (other_ne e), h.other_]
  refine ⟨?_, ?_, ?_, ?_, ?_⟩
  · rw [State.evaluated_own]
  · rw [State.evaluated_own]
    exact h.begun
  · rw [regsBut_evaluated r.isn _ (by cases e <;> decide), State.reg_bump_self, h.count]
  · rw [hoth]
    exact ⟨rfl, rfl, rfl, rfl⟩
  · exact (State.evaluated_parts r.isn .tarn (by decide)).trans h.tarn

theorem EvalKeeps.count {view : Engine → Engine} (h : EvalKeeps view e s t) : t.reg (Reg.AE_EVAL_CNT (engIx e)) = s.reg (Reg.AE_EVAL_CNT (engIx e)) :=
  h.regs _ (by cases e <;> decide)

theorem State.runStart_readied (r : InRec) : Readied s (s.runStart e r) e :=
  ⟨State.runStart_begun r, (keeps_runStart r).count, (keeps_runStart r).other_, (keeps_runStart r).tarn⟩

theorem Readied.keeps (h : Readied s t e) (k : EvalKeeps Engine.stateless e t u) : Readied s u e :=
  ⟨(k.get Engine.runStarted (fun _ => rfl)).trans h.begun, k.count.trans h.count, k.other_.trans h.other_, k.tarn.trans h.tarn⟩

/-! ## A record evaluated -/

theorem State.evaluate_eq {r : InRec} {ok : InRec → Bool} {f : InRec → State → State} (h : s.headRec e = some r) (hok : ok r = true)
    (hcrc : s.failsCrc e (s.recReads r) = false) : s.evaluate e ok f = (f r (s.runStart e r)).evaluated e r.isn := by
  unfold State.evaluate
  rw [h]
  dsimp only
  rw [if_neg (by rw [hok]; decide), if_neg (by rw [hcrc]; decide)]

theorem State.evaluate_fails {r : InRec} {ok : InRec → Bool} {f : InRec → State → State} (h : s.headRec e = some r) (hok : ok r = true)
    (hcrc : s.failsCrc e (s.recReads r) = true) : s.evaluate e ok f = s.failEngine e 2 := by
  unfold State.evaluate
  rw [h]
  dsimp only
  rw [if_neg (by rw [hok]; decide), if_pos hcrc]

theorem State.serves_of_headRec {r : InRec} (h : s.headRec e = some r) : s.serves e = true := by
  cases hs : s.serves e with
  | true => rfl
  | false =>
    have hx : (s.eng e).serving = false := hs
    unfold State.headRec at h
    dsimp only at h
    rw [hx, Bool.not_false, Bool.true_or, Bool.true_or, Bool.true_or, Bool.true_or, if_pos rfl] at h
    exact absurd h nofun

/-- After the end of an evaluation, a point's record is what the effect has left. -/
theorem State.pt_evaluated (isn : U64) (p : Nat) : (s.evaluated e isn).pt e p = s.pt e p := by
  unfold State.pt
  rw [State.evaluated_own]
  rfl

theorem State.gr_evaluated (isn : U64) (g : Nat) : (s.evaluated e isn).gr e g = s.gr e g := by
  unfold State.gr
  rw [State.evaluated_own]
  rfl

theorem State.pt_runStart (r : InRec) (p : Nat) : (s.runStart e r).pt e p = s.pt e p := by
  unfold State.pt Engine.pt
  rw [State.runStart_pts]

theorem State.gr_runStart (r : InRec) (g : Nat) : (s.runStart e r).gr e g = s.gr e g := by
  unfold State.gr Engine.gr
  rw [State.runStart_grs]

/-- The states' points agree where the view shows them. -/
theorem EvalKeeps.pt_of_groupless (h : EvalKeeps Engine.groupless e s t) (p : Nat) : t.pt e p = s.pt e p := by
  have hpts : (t.eng e).pts = (s.eng e).pts := h.get Engine.pts (fun _ => rfl)
  unfold State.pt Engine.pt
  rw [hpts]

theorem EvalKeeps.gr_of_pointless (h : EvalKeeps Engine.pointless e s t) (g : Nat) : t.gr e g = s.gr e g := by
  have hgrs : (t.eng e).grs = (s.eng e).grs := h.get Engine.grs (fun _ => rfl)
  unfold State.gr Engine.gr
  rw [hgrs]

theorem EvalKeeps.gr_of_eventless (h : EvalKeeps Engine.eventless e s t) (g : Nat) : t.gr e g = s.gr e g :=
  (h.of_events noEvents_pointless).gr_of_pointless g

theorem EvalKeeps.pt_of_eventless (h : EvalKeeps Engine.eventless e s t) (p : Nat) : t.pt e p = s.pt e p :=
  (h.of_events noEvents_groupless).pt_of_groupless p

end

end Sys2Proof.Machine

/-! PROOFS. Point state records: what a stored record and its event show (R215, R285, Tables 7-5 to 7-7). -/

namespace Sys2Proof.Machine

/-! ## Bits of SUBFLAGS and GFLAGS -/

theorem PtState.has_mark (x : PtState) {i : Nat} (j : Nat) (b : Bool) (hi : i < 16) : (x.mark i b).has j = if j = i then b else x.has j := by
  unfold PtState.has PtState.mark setBit
  dsimp only
  rw [bitAt_setFld]
  by_cases h : j = i
  · subst h
    simp [hi, b2n]
    cases b <;> rfl
  · rw [if_neg (by omega), if_neg h]

theorem PtState.has_mark_self (x : PtState) {i : Nat} (b : Bool) (hi : i < 16 := by decide) : (x.mark i b).has i = b := by
  rw [x.has_mark i b hi, if_pos rfl]

theorem PtState.has_mark_ne (x : PtState) {i j : Nat} (b : Bool) (h : j ≠ i := by decide) (hi : i < 16 := by decide) : (x.mark i b).has j = x.has j := by
  rw [x.has_mark j b hi, if_neg h]

theorem PtState.faultRun_mark (x : PtState) {i : Nat} (b : Bool) (hi : i < 8 := by decide) : (x.mark i b).faultRun = x.faultRun :=
  fld_setFld_ne _ _ _ _ _ _ (.inr (by omega))

theorem PtState.faultRun_setRun (x : PtState) (n : Nat) : (x.setRun n).faultRun = min n 255 := by
  unfold PtState.faultRun PtState.setRun
  dsimp only
  rw [fld_setFld _ _ _ _ (by decide)]
  omega

theorem PtState.has_setRun (x : PtState) (n : Nat) {i : Nat} (hi : i < 8 := by decide) : (x.setRun n).has i = x.has i := by
  unfold PtState.has PtState.setRun
  dsimp only
  rw [bitAt_setFld, if_neg (by omega)]

theorem GrState.has_mark (x : GrState) {i : Nat} (j : Nat) (b : Bool) (hi : i < 8) : (x.mark i b).has j = if j = i then b else x.has j := by
  unfold GrState.has GrState.mark setBit
  dsimp only
  rw [bitAt_setFld]
  by_cases h : j = i
  · subst h
    simp [hi, b2n]
    cases b <;> rfl
  · rw [if_neg (by omega), if_neg h]

theorem GrState.has_mark_self (x : GrState) {i : Nat} (b : Bool) (hi : i < 8 := by decide) : (x.mark i b).has i = b := by
  rw [x.has_mark i b hi, if_pos rfl]

theorem GrState.has_mark_ne (x : GrState) {i j : Nat} (b : Bool) (h : j ≠ i := by decide) (hi : i < 8 := by decide) : (x.mark i b).has j = x.has j := by
  rw [x.has_mark j b hi, if_neg h]

/-! ## What a record shows -/

/-- The record shows what the other does: all but UNREPORTED and what the emission of events notes in it. -/
structure PtShows (x y : PtState) : Prop where
  state : y.state = x.state
  value : y.value = x.value
  prev : y.prev = x.prev
  timer : y.timer = x.timer
  blockTimer : y.blockTimer = x.blockTimer
  has : ∀ i, i ≠ Sub.unreported → y.has i = x.has i
  run : y.faultRun = x.faultRun

theorem PtShows.refl (x : PtState) : PtShows x x := ⟨rfl, rfl, rfl, rfl, rfl, fun _ _ => rfl, rfl⟩

theorem PtShows.trans {x y z : PtState} (h : PtShows x y) (k : PtShows y z) : PtShows x z :=
  ⟨k.state.trans h.state, k.value.trans h.value, k.prev.trans h.prev, k.timer.trans h.timer, k.blockTimer.trans h.blockTimer,
    fun i hi => (k.has i hi).trans (h.has i hi), k.run.trans h.run⟩

theorem PtShows.of_fields {x y : PtState} (hs : y.state = x.state) (hv : y.value = x.value) (hp : y.prev = x.prev) (ht : y.timer = x.timer)
    (hb : y.blockTimer = x.blockTimer) (hsub : y.sub = x.sub) : PtShows x y :=
  ⟨hs, hv, hp, ht, hb, fun _ _ => by rw [PtState.has, PtState.has, hsub], by rw [PtState.faultRun, PtState.faultRun, hsub]⟩

theorem PtShows.mark_unreported (x : PtState) (b : Bool) : PtShows x (x.mark Sub.unreported b) :=
  ⟨rfl, rfl, rfl, rfl, rfl, fun _ hi => x.has_mark_ne b hi, x.faultRun_mark b⟩

variable {s : State} {e : EngineId}

/-! ## A record stored -/

theorem State.setPt_cells (r : InRec) (p : Nat) (y : PtState) : ∃ z : PtState, PtShows y z ∧ z.sub = y.sub ∧ z.crcFlip = 0 ∧
    ((s.setPt e r p y).eng e).pts = { (s.eng e).pts with cells := Sparse.set (s.eng e).pts.dflt (s.eng e).pts.cells p z } := by
  have hwritten : (s.lineWritten (stateOffset e p) 32).eng e = s.eng e :=
    (keeps_lineWritten (view := id) (e := e) (s := s) (stateOffset e p) 32).own
  unfold State.setPt
  dsimp only
  rw [State.eng_updEng_self, hwritten]
  refine ⟨_, ?_, ?_, ?_, rfl⟩
  · split
    · exact .of_fields rfl rfl rfl rfl rfl rfl
    · exact .of_fields rfl rfl rfl rfl rfl rfl
  · split
    · rfl
    · rfl
  · rfl

theorem State.pt_setPt_self (r : InRec) (p : Nat) (y : PtState) : PtShows y ((s.setPt e r p y).pt e p) := by
  obtain ⟨z, hz, -, -, hpts⟩ := State.setPt_cells (s := s) (e := e) r p y
  have hpt : (s.setPt e r p y).pt e p = z := by
    unfold State.pt Engine.pt
    rw [hpts]
    exact Sparse.get_set_self _ _ _
  rw [hpt]
  exact hz

theorem State.pt_setPt_ne (r : InRec) {p q : Nat} (h : q ≠ p) (y : PtState) : (s.setPt e r p y).pt e q = s.pt e q := by
  obtain ⟨z, -, -, -, hpts⟩ := State.setPt_cells (s := s) (e := e) r p y
  unfold State.pt Engine.pt
  rw [hpts]
  exact Sparse.get_set_ne _ _ h

/-! ## Its event -/

theorem State.countCustody_pt (r : InRec) (c : Bool) (p : Nat) : (s.countCustody e r c).pt e p = s.pt e p :=
  (keeps_countCustody noEvents_eventless r c).pt_of_eventless p

theorem State.put_pt (v : Event) (p : Nat) : (s.put e v).pt e p = s.pt e p := (keeps_put noEvents_eventless v).pt_of_eventless p

/-- A record that shows what it did, stored with an event that is emitted. -/
theorem State.pt_noted (r : InRec) {p : Nat} {y : PtState} (h : PtShows (s.pt e p) y) (v : Event) (c : Bool) :
    PtShows (s.pt e p) ((((s.setPt e r p y).put e v).countCustody e r c).pt e p)
      ∧ ∀ q, q ≠ p → (((s.setPt e r p y).put e v).countCustody e r c).pt e q = s.pt e q := by
  refine ⟨?_, fun q hq => ?_⟩
  · rw [State.countCustody_pt, State.put_pt]
    exact h.trans (State.pt_setPt_self r p y)
  · rw [State.countCustody_pt, State.put_pt, State.pt_setPt_ne r hq]

/-- UNREPORTED taken from a record, and what the event that reports it notes there. -/
theorem PtShows.reported (x : PtState) (n : U16) (esn : BitVec 48) :
    PtShows x { x.mark Sub.unreported false with coalesced := n, lastEsn := esn } :=
  (PtShows.mark_unreported x false).trans (.of_fields rfl rfl rfl rfl rfl rfl)

/-- A point whose event is coalesced. -/
theorem PtShows.unreported (x : PtState) (n : U16) : PtShows x ({ x with coalesced := n }.mark Sub.unreported true) :=
  PtShows.trans (y := { x with coalesced := n }) (.of_fields rfl rfl rfl rfl rfl rfl) (PtShows.mark_unreported _ true)

/-- A point's event leaves its record as it shows, and every other point's as it is. -/
theorem State.pt_pointEvent (r : InRec) (p prio : Nat) (custody : Bool) (type stNew stOld : Byte) :
    PtShows (s.pt e p) ((s.pointEvent e r p prio custody type stNew stOld).pt e p)
      ∧ ∀ q, q ≠ p → (s.pointEvent e r p prio custody type stNew stOld).pt e q = s.pt e q := by
  unfold State.pointEvent
  dsimp only
  split
  · split
    · exact State.pt_noted r (.reported _ _ _) _ _
    · refine State.pt_noted r ?_ _ _
      exact .of_fields rfl rfl rfl rfl rfl rfl
  · generalize hu : s.setPt e r p _ = u
    have hself : PtShows (s.pt e p) (u.pt e p) := hu ▸ (PtShows.unreported _ _).trans (State.pt_setPt_self r p _)
    have hne : ∀ q, q ≠ p → u.pt e q = s.pt e q := fun q hq => hu ▸ State.pt_setPt_ne r hq _
    split
    · split
      · have hk : EvalKeeps Engine.eventless e u ((u.bump Reg.OUT_COALESCE_CNT).raise Reg.OUT_EVT 1) := (keeps_bump (by decide)).trans (keeps_raise 1 (by decide))
        exact ⟨hk.pt_of_eventless p ▸ hself, fun q hq => (hk.pt_of_eventless q).trans (hne q hq)⟩
      · have hk : EvalKeeps Engine.eventless e u (u.bump Reg.OUT_COALESCE_CNT) := keeps_bump (by decide)
        exact ⟨hk.pt_of_eventless p ▸ hself, fun q hq => (hk.pt_of_eventless q).trans (hne q hq)⟩
    · exact ⟨hself, hne⟩

/-- The notice of a sweep's visit. -/
theorem State.pt_sweepNotice (r : InRec) (p prio : Nat) (custody : Bool) :
    PtShows (s.pt e p) ((s.sweepNotice e r p prio custody).pt e p) ∧ ∀ q, q ≠ p → (s.sweepNotice e r p prio custody).pt e q = s.pt e q := by
  unfold State.sweepNotice
  dsimp only
  split
  · exact State.pt_noted r (.reported _ _ _) _ _
  · exact ⟨.refl _, fun _ _ => rfl⟩

/-- A changed record with its event. -/
theorem State.pt_report (r : InRec) (p : Nat) (c : PCfg) (y : PtState) (old : Byte) (alarm : Bool) :
    PtShows y ((s.report_ e r p c y old alarm).pt e p) ∧ ∀ q, q ≠ p → (s.report_ e r p c y old alarm).pt e q = s.pt e q := by
  obtain ⟨hself, hne⟩ := State.pt_pointEvent (s := s.setPt e r p y) (e := e) r p c.prio c.custody Ev.pointTransition y.state old
  have halarm : ∀ (u : State) q, (if alarm = true then u.newAlarm e r p c y.state old else u).pt e q = u.pt e q := fun u q =>
    (EvalKeeps.ite (keeps_newAlarm r p c _ _) (.refl _ _ _)).pt_of_groupless q
  unfold State.report_
  dsimp only
  refine ⟨?_, fun q hq => ?_⟩
  · rw [halarm]
    exact (State.pt_setPt_self r p y).trans hself
  · rw [halarm, hne q hq, State.pt_setPt_ne r hq]

/-- STATE moves, unless the record awaits its repair (R497). -/
theorem State.pt_moveTo (r : InRec) (p : Nat) (c : PCfg) (x : PtState) (t : Byte) (h : s.eccHeld e p = false) :
    PtShows (x.enter c t).1 ((s.moveTo e r p c x t).pt e p) ∧ ∀ q, q ≠ p → (s.moveTo e r p c x t).pt e q = s.pt e q := by
  unfold State.moveTo
  dsimp only
  rw [if_neg (by rw [h]; decide)]
  exact State.pt_report r p c _ _ _

theorem State.pt_moveTo_ne (r : InRec) {p q : Nat} (c : PCfg) (x : PtState) (t : Byte) (h : q ≠ p) : (s.moveTo e r p c x t).pt e q = s.pt e q := by
  unfold State.moveTo
  dsimp only
  split
  · rfl
  · exact (State.pt_report r p c _ _ _).2 q h

/-- What a decision leaves in the record. -/
def Decision.record (d : Decision) (c : PCfg) : PtState :=
  match d.move with
  | none => d.pt
  | some t => (d.pt.enter c t).1

theorem State.pt_decide (r : InRec) (p : Nat) (c : PCfg) (d : Decision) (h : s.eccHeld e p = false) :
    PtShows (d.record c) ((s.decide_ e r p c d).1.pt e p) := by
  obtain ⟨x, move, started⟩ := d
  cases move with
  | none => exact State.pt_setPt_self r p x
  | some t => exact (State.pt_moveTo r p c x t h).1

/-! ## What an entry into a state leaves of the record -/

/-- An entry changes STATE and UNACKED alone. -/
theorem PtState.enter_shown (c : PCfg) (x : PtState) (t : Byte) :
    (x.enter c t).1.state = t ∧ (x.enter c t).1.value = x.value ∧ (x.enter c t).1.prev = x.prev ∧ (x.enter c t).1.timer = x.timer
      ∧ (x.enter c t).1.blockTimer = x.blockTimer ∧ (∀ i, i ≠ Sub.unacked → (x.enter c t).1.has i = x.has i) ∧ (x.enter c t).1.faultRun = x.faultRun := by
  unfold PtState.enter
  dsimp only
  split
  · exact ⟨rfl, rfl, rfl, rfl, rfl, fun i hi => PtState.has_mark_ne _ true hi, PtState.faultRun_mark _ true⟩
  · split
    · exact ⟨rfl, rfl, rfl, rfl, rfl, fun i hi => PtState.has_mark_ne _ false hi, PtState.faultRun_mark _ false⟩
    · exact ⟨rfl, rfl, rfl, rfl, rfl, fun i _ => rfl, rfl⟩

theorem PtState.clearPend_shown (x : PtState) :
    x.clearPend.state = x.state ∧ x.clearPend.value = x.value ∧ x.clearPend.prev = x.prev ∧ x.clearPend.blockTimer = x.blockTimer
      ∧ x.clearPend.has Sub.pendOn = false ∧ x.clearPend.has Sub.pendOff = false
      ∧ (∀ i, i ≠ Sub.pendOn → i ≠ Sub.pendOff → x.clearPend.has i = x.has i) ∧ x.clearPend.faultRun = x.faultRun := by
  have hoff : ((x.mark Sub.pendOn false).mark Sub.pendOff false).has Sub.pendOn = false := by
    rw [PtState.has_mark_ne, PtState.has_mark_self]
  have hother : ∀ i, i ≠ Sub.pendOn → i ≠ Sub.pendOff → ((x.mark Sub.pendOn false).mark Sub.pendOff false).has i = x.has i := fun i h k => by
    rw [PtState.has_mark_ne _ _ k, PtState.has_mark_ne _ _ h]
  have hrun : ((x.mark Sub.pendOn false).mark Sub.pendOff false).faultRun = x.faultRun := by rw [PtState.faultRun_mark, PtState.faultRun_mark]
  unfold PtState.clearPend
  dsimp only
  split
  · exact ⟨rfl, rfl, rfl, rfl, hoff, PtState.has_mark_self _ _, hother, hrun⟩
  · exact ⟨rfl, rfl, rfl, rfl, hoff, PtState.has_mark_self _ _, hother, hrun⟩

end Sys2Proof.Machine

/-! PROOFS. Source records at an engine (O15; R213, R216, R217, R301, R358, R359, R402). -/

namespace Sys2Proof.Machine

/-! ## What a decision leaves of a record -/

/-- The input's part of a record: VALUE, the rate's last value, the block timer and the flags but those of delays and acknowledgement. -/
structure PtHolds (x y : PtState) : Prop where
  value : y.value = x.value
  prev : y.prev = x.prev
  blockTimer : y.blockTimer = x.blockTimer
  has : ∀ i, i ∉ [Sub.pendOn, Sub.pendOff, Sub.unacked, Sub.unreported] → y.has i = x.has i
  run : y.faultRun = x.faultRun

theorem PtHolds.refl (x : PtState) : PtHolds x x := ⟨rfl, rfl, rfl, fun _ _ => rfl, rfl⟩

theorem PtHolds.trans {x y z : PtState} (h : PtHolds x y) (k : PtHolds y z) : PtHolds x z :=
  ⟨k.value.trans h.value, k.prev.trans h.prev, k.blockTimer.trans h.blockTimer, fun i hi => (k.has i hi).trans (h.has i hi), k.run.trans h.run⟩

theorem PtState.enter_holds (c : PCfg) (x : PtState) (t : Byte) : PtHolds x (x.enter c t).1 := by
  obtain ⟨-, hvalue, hprev, -, hblock, hhas, hrun⟩ := x.enter_shown c t
  exact ⟨hvalue, hprev, hblock, fun i hi => hhas i (fun k => hi (by rw [k]; decide)), hrun⟩

theorem PtState.clearPend_holds (x : PtState) : PtHolds x x.clearPend := by
  obtain ⟨-, hvalue, hprev, hblock, -, -, hhas, hrun⟩ := x.clearPend_shown
  exact ⟨hvalue, hprev, hblock, fun i hi => hhas i (fun k => hi (by rw [k]; decide)) (fun k => hi (by rw [k]; decide)), hrun⟩

theorem PtState.mark_holds (x : PtState) {i : Nat} (b : Bool) (h : i ∈ [Sub.pendOn, Sub.pendOff, Sub.unacked, Sub.unreported] := by decide)
    (hi : i < 8 := by decide) : PtHolds x (x.mark i b) :=
  ⟨rfl, rfl, rfl, fun j hj => x.has_mark_ne b (fun k => hj (k ▸ h)) (by omega), x.faultRun_mark b hi⟩

theorem Decision.record_holds (d : Decision) (c : PCfg) : PtHolds d.pt (d.record c) := by
  unfold Decision.record
  split
  · exact .refl _
  · exact d.pt.enter_holds c _

/-- A threshold step decides on delays and STATE alone. -/
theorem PCfg.towards_holds (c : PCfg) (x : PtState) (t : Byte) : PtHolds x (c.towards x t).pt := by
  unfold PCfg.towards
  extract_lets on d y
  generalize x.has (if on = true then Sub.pendOn else Sub.pendOff) = pending
  clear_value d on
  split
  · exact x.clearPend_holds
  · split
    · exact x.clearPend_holds
    · split
      · exact x.clearPend_holds
      · split
        · exact .refl x
        · have hy : PtHolds x y := (x.mark_holds (i := Sub.pendOn) on).trans (PtState.mark_holds _ (i := Sub.pendOff) (!on))
          exact ⟨hy.value, hy.prev, hy.blockTimer, hy.has, hy.run⟩

/-- A usable input's record (R217). -/
theorem PCfg.usable_record (c : PCfg) (x : PtState) (v : F32) :
    ((c.usable x v).record c).value = v ∧ ((c.usable x v).record c).faultRun = 0
      ∧ ∀ i, i < 8 → i ∉ [Sub.pendOn, Sub.pendOff, Sub.unacked, Sub.unreported, Sub.settling] → ((c.usable x v).record c).has i = x.has i := by
  have hy : ∀ y : PtState, PtHolds { (x.mark Sub.settling false).setRun 0 with value := v } y → y.value = v ∧ y.faultRun = 0
      ∧ ∀ i, i < 8 → i ∉ [Sub.pendOn, Sub.pendOff, Sub.unacked, Sub.unreported, Sub.settling] → y.has i = x.has i := by
    intro y h
    refine ⟨h.value, h.run.trans ((x.mark Sub.settling false).faultRun_setRun 0), fun i hi hmem => ?_⟩
    simp only [List.mem_cons, List.not_mem_nil, or_false, not_or] at hmem
    obtain ⟨hon, hoff, hack, hrep, hset⟩ := hmem
    refine (h.has i (by simp [hon, hoff, hack, hrep])).trans ?_
    exact ((x.mark Sub.settling false).has_setRun 0 hi).trans (x.has_mark_ne false hset)
  unfold PCfg.usable
  dsimp only
  split
  · split
    · obtain ⟨hvalue, hrun, hhas⟩ := hy { { (x.mark Sub.settling false).setRun 0 with value := v } with prev := x.prev } (.refl _)
      have hrec := Decision.record_holds
        { pt := { { (x.mark Sub.settling false).setRun 0 with value := v } with prev := v }, move := some Pt.normal } c
      refine ⟨hrec.value, hrec.run.trans hrun, fun i hi hmem => (hrec.has i (fun h => hmem ?_)).trans (hhas i hi hmem)⟩
      simp only [List.mem_cons, List.not_mem_nil, or_false] at h ⊢
      rcases h with h | h | h | h <;> simp [h]
    · exact hy _ (.refl _)
  · exact hy _ ((c.towards_holds _ _).trans (Decision.record_holds _ c))

/-! ## One head's point -/

variable {s t : State} {e : EngineId}

theorem Feeds.of_keeps {view : Engine → Engine} {type index p : Nat} (h : Feeds s e type index p) (k : EvalKeeps view e s t) (hpt : t.pt e p = s.pt e p) :
    Feeds t e type index p := by
  refine ⟨(k.fanout _ _).trans h.list, h.range, ?_, ?_, ?_, ?_, (k.eccHeld e p).trans h.whole⟩
  · rw [k.pcfg]; exact h.valid
  · rw [k.pcfg]; exact h.enabled
  · rw [k.pcfg]; exact h.source
  · rw [hpt]; exact h.free

/-- A head that lists one point feeds it. -/
theorem State.feed_one {type index p : Nat} (h : Feeds s e type index p) (r : InRec) (input : PCfg → PtInput) :
    s.feed e r type index input = (s.applyInput e r p (s.pcfg p) (input (s.pcfg p))).1 := by
  obtain ⟨htype, hindex⟩ := h.source
  have hrange := h.range
  unfold State.feed
  rw [h.list]
  show (if 81919 < p then s else _) = _
  rw [if_neg (by omega), if_neg (by rw [h.valid]; decide), if_neg (by rw [h.enabled, htype, hindex, h.free]; simp)]

/-- A settling input sets SETTLING and nothing else that the record shows. -/
theorem State.applyInput_settling (r : InRec) (p : Nat) (c : PCfg) {i : PtInput} (h : i.settling = true) :
    ((s.applyInput e r p c i).1.pt e p).has Sub.settling = true ∧ ((s.applyInput e r p c i).1.pt e p).state = (s.pt e p).state := by
  have hshown := State.pt_setPt_self (s := s) (e := e) r p ((s.pt e p).mark Sub.settling true)
  unfold State.applyInput
  dsimp only
  rw [if_pos h]
  refine ⟨(hshown.has _ (by decide)).trans (PtState.has_mark_self _ _), hshown.state⟩

/-- A usable input gives the record its value. -/
theorem State.applyInput_usable (r : InRec) (p : Nat) (c : PCfg) {i : PtInput} (hset : i.settling = false) (hbad : i.bad = false)
    (hfin : F32.isFinite i.value = true) (hecc : s.eccHeld e p = false) :
    ((s.applyInput e r p c i).1.pt e p).value = i.value ∧ ((s.applyInput e r p c i).1.pt e p).faultRun = 0 := by
  have hshown := State.pt_decide (s := s) (e := e) r p c (c.usable (s.pt e p) i.value) hecc
  obtain ⟨hvalue, hrun, -⟩ := c.usable_record (s.pt e p) i.value
  unfold State.applyInput
  dsimp only
  rw [if_neg (by rw [hset]; decide), if_neg (by rw [hbad, hfin]; decide)]
  exact ⟨hshown.value.trans hvalue, hshown.run.trans hrun⟩

/-- The first of a run of bad inputs is enough where the fault count is 1. -/
theorem State.applyInput_bad (r : InRec) (p : Nat) (c : PCfg) {i : PtInput} (hset : i.settling = false) (hbad : i.bad = true)
    (hcount : s.faultCount c ≤ 1) (hecc : s.eccHeld e p = false) : ((s.applyInput e r p c i).1.pt e p).state = Pt.fault := by
  have hrun : s.faultCount c ≤ (((s.pt e p).mark Sub.settling false).setRun ((s.pt e p).faultRun + 1)).faultRun := by
    rw [PtState.faultRun_setRun]
    omega
  unfold State.applyInput
  dsimp only
  rw [if_neg (by rw [hset]; decide), if_pos (by rw [hbad]; rfl), decide_eq_true hrun, Bool.and_true]
  by_cases hfault : (s.pt e p).state = Pt.fault
  · rw [if_neg (by rw [hfault]; decide)]
    exact (State.pt_setPt_self r p _).state.trans hfault
  · rw [if_pos (by simpa using hfault)]
    exact (State.pt_moveTo r p c _ _ hecc).1.state.trans (PtState.enter_shown c _ _).1

/-! ## The records -/

theorem keeps_onSample (r : InRec) : EvalKeeps Engine.stateless e s (s.onSample e r) := by
  unfold State.onSample
  exact keeps_feed r 1 _ _

theorem keeps_onCount (r : InRec) : EvalKeeps Engine.stateless e s (s.onCount e r) := keeps_feed r 3 _ _

theorem keeps_onDiChange (r : InRec) : EvalKeeps Engine.stateless e s (s.onDiChange e r) := by
  unfold State.onDiChange
  dsimp only
  exact EvalKeeps.trans (.foldl (fun t i => keeps_feed r 2 _ _) _ _) (.ite (.refl _ _ _) (keeps_acceptSources r _ _).stateless_of_groupless)

/-- What one signal definition does with a frame: the points it feeds, and the definitions that deliver a value. -/
def State.onSignal (e : EngineId) (r : InRec) (a : State × List Nat) (k : Nat) : State × List Nat :=
  let u := a.1.noteInvalid e (SigDef.ofBytes (a.1.tarnSee (Tarn.CAN_SIG + 16 * k) 16)).raw 16
  match a.1.carried r k with
  | none => (u, a.2)
  | some none => ((u.bumpView e Reg.CAN_SIG_FAULT_CNT).feed e r 4 k (fun _ => { bad := true }), a.2)
  | some (some v) => (u.feed e r 4 k (fun c => { value := c.scale v }), if F32.isFinite v && !F32.eq v 0 then a.2 ++ [k] else a.2)

theorem State.onCanFrame_eq (r : InRec) : s.onCanFrame e r =
    (let a := (span (r.pay 0x1E 2) (r.pay 0x1D 1)).foldl (State.onSignal e r) (s, [])
     a.1.acceptSources e r [] a.2) := rfl

theorem keeps_onSignal (r : InRec) (a : State × List Nat) (k : Nat) : EvalKeeps Engine.stateless e a.1 (State.onSignal e r a k).1 := by
  unfold State.onSignal
  dsimp only
  split
  · exact keeps_noteInvalid _ _
  · dsimp only
    exact (keeps_noteInvalid _ _).trans ((keeps_bumpView e (o := Reg.CAN_SIG_FAULT_CNT) (by decide)).trans (keeps_feed r 4 k _))
  · dsimp only
    exact (keeps_noteInvalid _ _).trans (keeps_feed r 4 k _)

theorem keeps_onSignals (r : InRec) (l : List Nat) (a : State × List Nat) : EvalKeeps Engine.stateless e a.1 (l.foldl (State.onSignal e r) a).1 := by
  induction l generalizing a with
  | nil => exact .refl _ _ _
  | cons k l ih => exact (keeps_onSignal r a k).trans (ih _)

theorem keeps_onCanFrame (r : InRec) : EvalKeeps Engine.stateless e s (s.onCanFrame e r) := by
  rw [State.onCanFrame_eq]
  exact (keeps_onSignals r _ (s, [])).trans (keeps_acceptSources r _ _).stateless_of_groupless

theorem State.onCanFrame_none {r : InRec} (h : r.pay 0x1D 1 = 0) : s.onCanFrame e r = s := by
  rw [State.onCanFrame_eq, h]
  rfl

/-- A signal that delivers a finite value gives it to the point that it feeds. -/
theorem State.onCanFrame_value {r : InRec} {p : Nat} {v : F32} (h : r.pay 0x1D 1 = 1) (hv : s.carried r (r.pay 0x1E 2) = some (some v))
    (hf : Feeds s e 4 (r.pay 0x1E 2) p) (hfin : F32.isFinite ((s.pcfg p).scale v) = true) :
    ((s.onCanFrame e r).pt e p).value = (s.pcfg p).scale v := by
  have hspan : span (r.pay 0x1E 2) 1 = [r.pay 0x1E 2] := by simp [span]
  have hk : EvalKeeps Engine.groupless e s (s.noteInvalid e (SigDef.ofBytes (s.tarnSee (Tarn.CAN_SIG + 16 * r.pay 0x1E 2) 16)).raw 16) := keeps_noteInvalid _ _
  generalize hu : s.noteInvalid e (SigDef.ofBytes (s.tarnSee (Tarn.CAN_SIG + 16 * r.pay 0x1E 2) 16)).raw 16 = u at hk
  have hone : (State.onSignal e r (s, []) (r.pay 0x1E 2)).1 = u.feed e r 4 (r.pay 0x1E 2) (fun c => { value := c.scale v }) := by
    unfold State.onSignal
    dsimp only
    rw [hv, hu]
  have hfu := hf.of_keeps hk (hk.pt_of_groupless p)
  have happ := State.applyInput_usable (e := e) r p (u.pcfg p) (i := { value := (u.pcfg p).scale v }) rfl rfl (by rw [hk.pcfg]; exact hfin) hfu.whole
  rw [State.onCanFrame_eq, h, hspan]
  show ((State.acceptSources (State.onSignal e r (s, []) (r.pay 0x1E 2)).1 e r [] (State.onSignal e r (s, []) (r.pay 0x1E 2)).2).pt e p).value = _
  rw [(keeps_acceptSources r _ _).pt_of_groupless, hone, State.feed_one hfu, happ.1, hk.pcfg]

theorem changed_one {r : InRec} {i : Nat} (hi : i < 16) (h : r.pay 0x1A 2 = 2 ^ i) : (List.range 16).filter (fun j => (r.pay 0x1A 2).testBit j) = [i] := by
  have hall : ∀ i, i < 16 → (List.range 16).filter (fun j => (2 ^ i).testBit j) = [i] := by decide
  rw [h]
  exact hall i hi

/-- One changed channel feeds its point. -/
theorem State.onDiChange_value {r : InRec} {p i : Nat} (hi : i < 16) (h : r.pay 0x1A 2 = 2 ^ i) (hf : Feeds s e 2 (16 * r.srcIndex + i) p) :
    ((s.onDiChange e r).pt e p).value = boolF ((r.pay 0x18 2).testBit i) := by
  have hfin : F32.isFinite (boolF ((r.pay 0x18 2).testBit i)) = true := by cases (r.pay 0x18 2).testBit i <;> decide
  have happ := State.applyInput_usable (s := s) (e := e) r p (s.pcfg p) (i := { value := boolF ((r.pay 0x18 2).testBit i) }) rfl rfl hfin hf.whole
  have haccept : ∀ (u : State) (l : List Nat), (if ((r.pay 0x1E 1).testBit 1 || (r.pay 0x1E 1).testBit 2) = true then u
      else u.acceptSources e r l []).pt e p = u.pt e p := fun u l =>
    (EvalKeeps.ite (.refl _ _ _) (keeps_acceptSources r l [])).pt_of_groupless p
  unfold State.onDiChange
  dsimp only
  rw [haccept, changed_one hi h]
  show ((s.feed e r 2 (16 * r.srcIndex + i) (fun _ => { value := boolF ((r.pay 0x18 2).testBit i) })).pt e p).value = _
  rw [State.feed_one hf, happ.1]

/-! ## O15 -/

/-- An evaluation that keeps the engine's own place. -/
theorem State.evaluate_keeps {r : InRec} {ok : InRec → Bool} {f : InRec → State → State} (h : s.atRec e r) (hok : ok r = true)
    (hk : ∀ u : State, EvalKeeps Engine.stateless e u (f r u)) :
    ∃ t, s.evaluate e ok f = t ∧ Evaluated s t e r ∧ ∀ p, t.pt e p = (f r (s.runStart e r)).pt e p := by
  obtain ⟨hhead, hcrc⟩ := h
  exact ⟨_, State.evaluate_eq hhead hok hcrc, ((State.runStart_readied r).keeps (hk _)).evaluated, fun p => State.pt_evaluated _ p⟩

theorem Feeds.runStart {type index p : Nat} (h : Feeds s e type index p) (r : InRec) : Feeds (s.runStart e r) e type index p :=
  h.of_keeps (keeps_runStart r) (State.pt_runStart r p)

theorem Evaluated.of_fresh {r : InRec} (h : Evaluated s.fresh t e r) : Evaluated s t e r := ⟨h.isn, h.begun, h.count, h.other_, h.tarn⟩

theorem EngineFailed.of_fresh {cause : Nat} (h : EngineFailed s.fresh t e cause) : EngineFailed s t e cause := ⟨h.out, h.cause, h.count, h.hold⟩

theorem Feeds.fresh {type index p : Nat} (h : Feeds s e type index p) : Feeds s.fresh e type index p :=
  ⟨h.list, h.range, h.valid, h.enabled, h.source, h.free, h.whole⟩

/-- SAMPLE's three kinds of input. -/
theorem State.onSample_feeds {r : InRec} {p : Nat} (hf : Feeds s e 1 r.srcIndex p) :
    (bitAt r.flags 0 = true → ((s.onSample e r).pt e p).has Sub.settling = true ∧ ((s.onSample e r).pt e p).state = (s.pt e p).state)
      ∧ (bitAt r.flags 0 = false → bitAt r.flags 1 = false → F32.isFinite ((s.pcfg p).scale (BitVec.ofNat 32 (r.pay 0x18 4))) = true →
          ((s.onSample e r).pt e p).value = (s.pcfg p).scale (BitVec.ofNat 32 (r.pay 0x18 4)) ∧ ((s.onSample e r).pt e p).faultRun = 0)
      ∧ (bitAt r.flags 0 = false → bitAt r.flags 1 = true → s.faultCount (s.pcfg p) ≤ 1 → ((s.onSample e r).pt e p).state = Pt.fault) := by
  unfold State.onSample
  dsimp only
  rw [State.feed_one hf]
  exact ⟨fun h => State.applyInput_settling r p _ h, fun h hb hfin => State.applyInput_usable r p _ h hb hfin hf.whole,
    fun h hb hc => State.applyInput_bad r p _ h hb hc hf.whole⟩

theorem State.onCount_value {r : InRec} {p : Nat} (hf : Feeds s e 3 r.srcIndex p)
    (hfin : F32.isFinite ((s.pcfg p).scale (BitVec.ofNat 32 (r.pay 0x1C 4))) = true) :
    ((s.onCount e r).pt e p).value = (s.pcfg p).scale (BitVec.ofNat 32 (r.pay 0x1C 4)) := by
  unfold State.onCount
  rw [State.feed_one hf]
  exact (State.applyInput_usable r p _ (i := { value := (s.pcfg p).scale (BitVec.ofNat 32 (r.pay 0x1C 4)) }) rfl rfl hfin hf.whole).1

/-- A record of the kinds that a wrong STATE_CRC keeps from being evaluated. -/
theorem crcFailure {r : InRec} {x : Byte × Instr} (hhead : s.headRec e = some r) (hcrc : s.failsCrc e (s.recReads r) = true)
    (hx : x ∈ [(Kind.sample, .evalSample e), (Kind.diChange, .evalDiChange e), (Kind.count, .evalCount e), (Kind.canFrame, .evalCanFrame e),
      (Kind.tick, .evalTick e)]) (hkind : r.kind = x.1) : exec x.2 s = .next (s.fresh.failEngine e 2) := by
  have hrun : ∀ (k : Byte) (f : InRec → State → State), r.kind = k → s.fresh.evaluate e (fun r => r.kind == k) f = s.fresh.failEngine e 2 :=
    fun k f hk => State.evaluate_fails (s := s.fresh) hhead (beq_iff_eq.mpr hk) hcrc
  simp only [List.mem_cons, List.not_mem_nil, or_false] at hx
  rcases hx with rfl | rfl | rfl | rfl | rfl
  · exact congrArg Host.Outcome.next (hrun _ (fun r s => s.onSample e r) hkind)
  · exact congrArg Host.Outcome.next (hrun _ (fun r s => s.onDiChange e r) hkind)
  · exact congrArg Host.Outcome.next (hrun _ (fun r s => s.onCount e r) hkind)
  · exact congrArg Host.Outcome.next (hrun _ (fun r s => s.onCanFrame e r) hkind)
  · exact congrArg Host.Outcome.next (hrun _ (fun r s => s.onTick e r) hkind)

/-- Settles O15: the record's effect within its frame, the point's record by the one input that its head gives. -/
theorem sourceRecords : Obligations.SourceRecords := by
  unfold Obligations.SourceRecords
  refine ⟨fun s e r x hhead hcrc hx hkind => ?_, fun s e r hrec => ⟨fun hkind => ?_, fun hkind => ?_, fun hkind => ?_, fun hkind => ?_⟩⟩
  · refine ⟨_, crcFailure hhead hcrc hx hkind, ?_⟩
    exact EngineFailed.of_fresh (State.failEngine_fails (State.serves_of_headRec (s := s.fresh) hhead) 2)
  · obtain ⟨t, ht, hev, hpt⟩ := State.evaluate_keeps (s := s.fresh) (ok := fun r => r.kind == Kind.sample) (f := fun r s => s.onSample e r) hrec (beq_iff_eq.mpr hkind) (fun u => keeps_onSample r)
    refine ⟨t, congrArg Host.Outcome.next ht, hev.of_fresh, fun p hf => ?_⟩
    have hstart := keeps_runStart (s := s.fresh) (e := e) r
    have hsample := State.onSample_feeds (hf.fresh.runStart r)
    rw [State.pt_runStart, hstart.pcfg, hstart.faultCount] at hsample
    rw [hpt]
    exact hsample
  · obtain ⟨t, ht, hev, hpt⟩ := State.evaluate_keeps (s := s.fresh) (ok := fun r => r.kind == Kind.diChange) (f := fun r s => s.onDiChange e r) hrec (beq_iff_eq.mpr hkind) (fun u => keeps_onDiChange r)
    refine ⟨t, congrArg Host.Outcome.next ht, hev.of_fresh, fun p i hi hone hf => ?_⟩
    rw [hpt]
    exact State.onDiChange_value hi hone (hf.fresh.runStart r)
  · obtain ⟨t, ht, hev, hpt⟩ := State.evaluate_keeps (s := s.fresh) (ok := fun r => r.kind == Kind.count) (f := fun r s => s.onCount e r) hrec (beq_iff_eq.mpr hkind) (fun u => keeps_onCount r)
    refine ⟨t, congrArg Host.Outcome.next ht, hev.of_fresh, fun p hf hfin => ?_⟩
    have hstart := keeps_runStart (s := s.fresh) (e := e) r
    rw [hpt, State.onCount_value (hf.fresh.runStart r) (by rw [hstart.pcfg]; exact hfin), hstart.pcfg]
    rfl
  · obtain ⟨hhead, hcrc⟩ := hrec
    have hstart := keeps_runStart (s := s.fresh) (e := e) r
    have heq := State.evaluate_eq (s := s.fresh) (f := fun r s => s.onCanFrame e r) hhead (ok := fun r => r.kind == Kind.canFrame) (beq_iff_eq.mpr hkind) hcrc
    refine ⟨_, congrArg Host.Outcome.next heq, ((State.runStart_readied (s := s.fresh) r).keeps (keeps_onCanFrame r)).evaluated.of_fresh, fun hnone => ?_,
      fun hone p v hv hf hfin => ?_⟩
    · rw [State.evaluated_own, State.onCanFrame_none hnone]
      exact ⟨State.runStart_pts r, State.runStart_grs r⟩
    · have hcarried : (s.fresh.runStart e r).carried r (r.pay 0x1E 2) = s.carried r (r.pay 0x1E 2) := by
        unfold State.carried
        rw [hstart.tarnSee]
        rfl
      rw [State.pt_evaluated, State.onCanFrame_value hone (hcarried.trans hv) (hf.fresh.runStart r)
        (by rw [hstart.pcfg]; exact hfin), hstart.pcfg]
      rfl

end Sys2Proof.Machine

/-! PROOFS. Point commands at their record (O19; R226, R227, R229-R231, R238). -/

namespace Sys2Proof.Machine

variable {s t u : State} {e : EngineId}

/-! ## A command's evaluation -/

/-- The status that a command's evaluation gives, where its completion waits for it. -/
def State.noteStatus (s : State) (isn : U64) (st : Nat) : State :=
  { s with hif := { s.hif with running := s.hif.running.map (fun x => if !x.dir && x.isn == isn then { x with status := BitVec.ofNat 16 st } else x) } }

theorem State.evalCmd_eq {r : InRec} {op : Nat} {f : InRec → State → Eval} {d : Desc} (h : s.AtCmd e op r d) :
    s.evalCmd e op f = ((f r (s.runStart e r)).2.noteStatus r.isn (f r (s.runStart e r)).1).evaluated e r.isn := by
  obtain ⟨⟨hhead, hcrc⟩, hcmd, -⟩ := h
  unfold State.evalCmd
  exact State.evaluate_eq hhead hcmd hcrc

theorem Readied.noteStatus (h : Readied s u e) (isn : U64) (st : Nat) : Readied s (u.noteStatus isn st) e :=
  ⟨h.begun, (State.reg_congr rfl rfl _).trans h.count, h.other_, h.tarn⟩

/-- A command that keeps the engine's own place has its effect within the frame of an evaluation. -/
theorem State.evalCmd_keeps {r : InRec} {op : Nat} {f : InRec → State → Eval} {d : Desc} {st : Nat} {u : State} (h : s.AtCmd e op r d)
    (hf : f r (s.runStart e r) = (st, u)) (hk : EvalKeeps Engine.stateless e (s.runStart e r) u) :
    Evaluated s (s.evalCmd e op f) e r ∧ (∀ p, (s.evalCmd e op f).pt e p = u.pt e p) ∧ ∀ g, (s.evalCmd e op f).gr e g = u.gr e g := by
  rw [State.evalCmd_eq h, hf]
  refine ⟨(((State.runStart_readied r).keeps hk).noteStatus _ _).evaluated, fun p => ?_, fun g => ?_⟩
  · rw [State.pt_evaluated]
    rfl
  · rw [State.gr_evaluated]
    rfl

/-! ## Acknowledgement -/

theorem State.ackPoint_acked (r : InRec) (p : Nat) :
    ((s.ackPoint e r p).pt e p).has Sub.unacked = false ∧ ((s.ackPoint e r p).pt e p).state = (s.pt e p).state
      ∧ ∀ q, q ≠ p → (s.ackPoint e r p).pt e q = s.pt e q := by
  unfold State.ackPoint
  dsimp only
  split
  · next h => exact ⟨by simpa using h, rfl, fun _ _ => rfl⟩
  · have hnote : ∀ raw n q, (s.noteInvalid e raw n).pt e q = s.pt e q := fun raw n q =>
      (keeps_noteInvalid (view := Engine.eventless) raw n).pt_of_eventless q
    generalize hv : (s.noteInvalid e (s.pcfg p).raw 64).setPt e r p ((s.pt e p).mark Sub.unacked false) = v
    have hself : PtShows ((s.pt e p).mark Sub.unacked false) (v.pt e p) := hv ▸ State.pt_setPt_self r p _
    obtain ⟨hshown, hne⟩ := State.pt_pointEvent (s := v) (e := e) r p ((s.noteInvalid e (s.pcfg p).raw 64).pcfg p |>.read p).prio
      ((s.noteInvalid e (s.pcfg p).raw 64).pcfg p |>.read p).custody Ev.ack (s.pt e p).state (s.pt e p).state
    have hall := hself.trans hshown
    refine ⟨(hall.has _ (by decide)).trans (PtState.has_mark_self _ _), hall.state, fun q hq => ?_⟩
    rw [hne q hq, ← hv, State.pt_setPt_ne r hq, hnote]

/-! ## Shelving -/

theorem PtState.unackIfAlarm_shown (c : PCfg) (x : PtState) :
    (x.unackIfAlarm c).1.state = x.state ∧ (x.unackIfAlarm c).1.timer = x.timer ∧ (x.unackIfAlarm c).1.value = x.value ∧
      (x.unackIfAlarm c).1.prev = x.prev ∧ ∀ i, i ≠ Sub.unacked → (x.unackIfAlarm c).1.has i = x.has i := by
  unfold PtState.unackIfAlarm
  split
  · exact ⟨rfl, rfl, rfl, rfl, fun i hi => x.has_mark_ne true hi⟩
  · exact ⟨rfl, rfl, rfl, rfl, fun _ _ => rfl⟩

/-- The end of a shelving: no longer SHELVED, its timer at 0, the rest as it was but for UNACKED. -/
theorem State.pt_endShelve (r : InRec) (p : Nat) (c : PCfg) :
    ((s.endShelve e r p c).pt e p).has Sub.shelved = false ∧ ((s.endShelve e r p c).pt e p).timer = 0
      ∧ ((s.endShelve e r p c).pt e p).state = (s.pt e p).state
      ∧ (∀ i, i ∉ [Sub.shelved, Sub.unacked, Sub.unreported] → ((s.endShelve e r p c).pt e p).has i = (s.pt e p).has i) := by
  obtain ⟨hstate, htimer, -, -, hhas⟩ := PtState.unackIfAlarm_shown (c.read p) { (s.pt e p).mark Sub.shelved false with timer := 0 }
  unfold State.endShelve
  dsimp only
  have hshown := (State.pt_report (s := s) (e := e) r p (c.read p) ({ (s.pt e p).mark Sub.shelved false with timer := 0 }.unackIfAlarm (c.read p)).1
    (s.pt e p).state (({ (s.pt e p).mark Sub.shelved false with timer := 0 }.unackIfAlarm (c.read p)).2 && c.valid p)).1
  refine ⟨(hshown.has _ (by decide)).trans ((hhas _ (by decide)).trans (PtState.has_mark_self _ _)), hshown.timer.trans htimer,
    hshown.state.trans hstate, fun i hi => ?_⟩
  simp only [List.mem_cons, List.not_mem_nil, or_false, not_or] at hi
  obtain ⟨hsh, hun, hrep⟩ := hi
  exact (hshown.has i hrep).trans ((hhas i hun).trans (PtState.has_mark_ne _ _ hsh))

/-- SHELVE with its arguments in order (R229). -/
theorem State.evalShelve_shelves {r : InRec} (hp : r.desc.pointOk = true) (hresv : r.desc.resv 0xE 50 = true) (hm : r.desc.arg 0xC 2 ≠ 0)
    (hmax : r.desc.arg 0xC 2 ≤ (s.pcfg r.desc.point).shelveMax) (hon : (s.pcfg r.desc.point).unusable r.desc.point = false) :
    ∃ u, s.evalShelve e r = (Status.ok, u) ∧ EvalKeeps Engine.stateless e s u ∧ (u.pt e r.desc.point).has Sub.shelved = true
      ∧ (u.pt e r.desc.point).timer = BitVec.ofNat 16 (r.desc.arg 0xC 2) ∧ (u.pt e r.desc.point).state = (s.pt e r.desc.point).state := by
  have hk : EvalKeeps Engine.eventless e s (s.noteInvalid e (s.pcfg r.desc.point).raw 64) := keeps_noteInvalid _ _
  have hks : EvalKeeps Engine.stateless e s (s.noteInvalid e (s.pcfg r.desc.point).raw 64) := keeps_noteInvalid _ _
  have hpt := hk.pt_of_eventless r.desc.point
  unfold State.evalShelve
  dsimp only
  rw [if_pos hp]
  generalize s.noteInvalid e (s.pcfg r.desc.point).raw 64 = v at hk hks hpt
  have hgo : ¬ (!r.desc.pointOk || !r.desc.resv 0xE 50 || decide (r.desc.arg 0xC 2 = 0)
      || (s.pcfg r.desc.point).valid r.desc.point && (s.pcfg r.desc.point).shelveMax != 0
        && decide ((s.pcfg r.desc.point).shelveMax < r.desc.arg 0xC 2)) = true := by
    rw [hp, hresv, decide_eq_false hm, decide_eq_false (show ¬ (s.pcfg r.desc.point).shelveMax < r.desc.arg 0xC 2 by omega), Bool.and_false]
    decide
  rw [if_neg hgo, if_neg (by rw [hon, decide_eq_false (show ¬ (s.pcfg r.desc.point).shelveMax = 0 by omega)]; decide), hpt]
  split
  · next hsh =>
    have hshown := State.pt_setPt_self (s := v) (e := e) r r.desc.point { s.pt e r.desc.point with timer := BitVec.ofNat 16 (r.desc.arg 0xC 2) }
    exact ⟨_, rfl, hks.trans (keeps_setPt_stateless r _ _), (hshown.has _ (by decide)).trans hsh, hshown.timer, hshown.state⟩
  · obtain ⟨hstate, -, -, -, -, -, -, -⟩ := (s.pt e r.desc.point).clearPend_shown
    generalize hy : ({ ((s.pt e r.desc.point).clearPend.mark Sub.shelved true) with timer := BitVec.ofNat 16 (r.desc.arg 0xC 2) } : PtState) = y
    have hysh : y.has Sub.shelved = true := hy ▸ PtState.has_mark_self _ _
    have hyt : y.timer = BitVec.ofNat 16 (r.desc.arg 0xC 2) := hy ▸ rfl
    have hys : y.state = (s.pt e r.desc.point).state := hy ▸ hstate
    refine ⟨_, rfl, hks.trans (keeps_report r _ _ _ _ _), ?_⟩
    have hshown := (State.pt_report (s := v) (e := e) r r.desc.point (s.pcfg r.desc.point) (if (s.pcfg r.desc.point).latch = true then y else y.mark Sub.unacked false)
      (s.pt e r.desc.point).state false).1
    refine ⟨(hshown.has _ (by decide)).trans ?_, hshown.timer.trans ?_, hshown.state.trans ?_⟩
    · split
      · exact hysh
      · exact (PtState.has_mark_ne _ _).trans hysh
    · split
      · exact hyt
      · exact hyt
    · split
      · exact hys
      · exact hys

/-- UNSHELVE of a shelved point. -/
theorem State.evalUnshelve_ends {r : InRec} (hp : r.desc.pointOk = true) (hresv : r.desc.resv 0xC 52 = true)
    (hsh : (s.pt e r.desc.point).has Sub.shelved = true) :
    ∃ u, s.evalUnshelve e r = (Status.ok, u) ∧ EvalKeeps Engine.stateless e s u ∧ (u.pt e r.desc.point).has Sub.shelved = false
      ∧ (u.pt e r.desc.point).timer = 0 := by
  obtain ⟨hoff, htimer, -⟩ := State.pt_endShelve (s := s.noteInvalid e (s.pcfg r.desc.point).raw 64) (e := e) r r.desc.point (s.pcfg r.desc.point)
  unfold State.evalUnshelve
  dsimp only
  rw [if_neg (by rw [hp, hresv]; decide), if_neg (by rw [hsh]; decide)]
  exact ⟨_, rfl, (keeps_noteInvalid _ _).trans (keeps_endShelve r _ _), hoff, htimer⟩

/-! ## Forcing -/

theorem keeps_force (r : InRec) (p : Nat) (c : PCfg) (v : F32) : EvalKeeps Engine.stateless e s (s.force e r p c v) := by
  unfold State.force
  dsimp only
  split
  · exact keeps_moveTo r p c _ _
  · exact .ite (keeps_setPt_stateless r p _) (keeps_report r p c _ _ _)

theorem State.pt_force (r : InRec) (p : Nat) (c : PCfg) (v : F32) (h : s.eccHeld e p = false) :
    ((s.force e r p c v).pt e p).has Sub.forced = true ∧ ((s.force e r p c v).pt e p).value = v := by
  obtain ⟨hvalue, -, hhas⟩ := c.usable_record ((s.pt e p).mark Sub.forced true) v
  have hforced := (hhas Sub.forced (by decide) (by decide)).trans (PtState.has_mark_self _ _)
  unfold State.force
  dsimp only
  generalize c.usable ((s.pt e p).mark Sub.forced true) v = d at hvalue hforced
  obtain ⟨x, move, started⟩ := d
  cases move with
  | some t =>
    have hshown := (State.pt_moveTo (s := s) (e := e) r p c x t h).1
    exact ⟨(hshown.has _ (by decide)).trans hforced, hshown.value.trans hvalue⟩
  | none =>
    dsimp only
    split
    · have hshown := State.pt_setPt_self (s := s) (e := e) r p x
      exact ⟨(hshown.has _ (by decide)).trans hforced, hshown.value.trans hvalue⟩
    · have hshown := (State.pt_report (s := s) (e := e) r p c x (s.pt e p).state false).1
      exact ⟨(hshown.has _ (by decide)).trans hforced, hshown.value.trans hvalue⟩

/-- FORCE_POINT with its arguments in order (R231). -/
theorem State.evalForcePoint_eq {r : InRec} (hp : r.desc.pointOk = true) (h1 : r.desc.resv 0xC 2 = true) (h2 : r.desc.resv 0xF 1 = true)
    (h3 : r.desc.resv 0x14 44 = true) (hon : (s.pcfg r.desc.point).unusable r.desc.point = false)
    (hfin : F32.isFinite (u32At r.desc.raw 0x10) = true) (hbin : (s.pcfg r.desc.point).digital = true →
      (F32.eq (u32At r.desc.raw 0x10) 0 || F32.eq (u32At r.desc.raw 0x10) 0x3F800000) = true)
    (hmode : r.desc.arg 0xE 1 ≤ 1) (hoff : r.desc.arg 0xE 1 = 0 → (s.pt e r.desc.point).has Sub.forced = true) :
    s.evalForcePoint e r = (Status.ok, let v := s.noteInvalid e (s.pcfg r.desc.point).raw 64
      if r.desc.arg 0xE 1 = 1 then v.force e r r.desc.point (s.pcfg r.desc.point) (u32At r.desc.raw 0x10)
      else v.report_ e r r.desc.point (s.pcfg r.desc.point) ((v.pt e r.desc.point).mark Sub.forced false) (v.pt e r.desc.point).state false) := by
  have hk : EvalKeeps Engine.eventless e s (s.noteInvalid e (s.pcfg r.desc.point).raw 64) := keeps_noteInvalid _ _
  have hpt := hk.pt_of_eventless r.desc.point
  have hnotBin : ((s.pcfg r.desc.point).valid r.desc.point && (s.pcfg r.desc.point).digital
      && !(F32.eq (u32At r.desc.raw 0x10) 0 || F32.eq (u32At r.desc.raw 0x10) 0x3F800000)) = false := by
    cases hd : (s.pcfg r.desc.point).digital with
    | false => rw [Bool.and_false, Bool.false_and]
    | true => rw [hbin hd, Bool.not_true, Bool.and_false]
  unfold State.evalForcePoint
  dsimp only
  rw [if_pos hp]
  generalize s.noteInvalid e (s.pcfg r.desc.point).raw 64 = v at hpt
  rw [if_neg (by rw [hp, h1, h2, h3, hfin, hnotBin, decide_eq_false (show ¬ 1 < r.desc.arg 0xE 1 by omega)]; decide), hon]
  rw [if_neg (by
    rw [Bool.false_or, hpt]
    by_cases h0 : r.desc.arg 0xE 1 = 0
    · rw [hoff h0, Bool.not_true, Bool.and_false]; decide
    · rw [decide_eq_false h0, Bool.false_and]; decide)]
  split
  · rfl
  · rfl

end Sys2Proof.Machine

/-! PROOFS. POINT_READ's image, and the point commands as a whole (O19; R238). -/

namespace Sys2Proof.Machine

/-! ## Fields of a patched record -/

theorem le_length_patch (l : List Byte) (k : Nat) (bs : List Byte) : l.length ≤ (patch l k bs).length := by
  unfold patch
  simp only [List.length_append, List.length_take, List.length_drop]
  omega

theorem slice_append_within (a b : List Byte) {o n : Nat} (h : o + n ≤ a.length) : slice (a ++ b) o n = slice a o n := by
  unfold slice
  rw [List.drop_append_of_le_length (by omega), List.take_append_of_le_length (by rw [List.length_drop]; omega)]

theorem slice_patch_below {l : List Byte} {k o n : Nat} (bs : List Byte) (hk : k ≤ l.length) (h : o + n ≤ k) : slice (patch l k bs) o n = slice l o n := by
  have htake : (l.take k).length = k := by rw [List.length_take]; omega
  unfold patch
  rw [slice_append_within _ _ (by simp only [List.length_append, htake]; omega), slice_append_within _ _ (by rw [htake]; omega), slice_take h]

theorem slice_patch_self {l : List Byte} {k : Nat} (bs : List Byte) (hk : k ≤ l.length) : slice (patch l k bs) k bs.length = bs := by
  have htake : (l.take k).length = k := by rw [List.length_take]; omega
  unfold patch slice
  rw [List.append_assoc, List.drop_append_of_le_length (by omega), List.drop_of_length_le (by omega), List.nil_append, List.take_left']
  rfl

theorem slice_patch_above {l : List Byte} {k o n : Nat} (bs : List Byte) (hk : k ≤ l.length) (h : k + bs.length ≤ o) :
    slice (patch l k bs) o n = slice l o n := by
  have htake : (l.take k).length = k := by rw [List.length_take]; omega
  unfold patch slice
  rw [List.drop_append, List.drop_of_length_le (by rw [List.length_append]; omega), List.nil_append, List.drop_drop]
  congr 2
  rw [List.length_append, htake]
  omega

theorem PtState.length_bytes (x : PtState) : x.bytes.length = 32 := by
  simp [PtState.bytes, PtState.body]

theorem Sparse.length_bytes (d : Byte) (l : Sparse Byte) (o n : Nat) : (Sparse.bytes d l o n).length = n := by
  fun_induction Sparse.bytes d l o n <;> simp_all

theorem State.le_length_tarnSee (s : State) (o n : Nat) : n ≤ (s.tarnSee o n).length := by
  have hfold : ∀ (ws : List Nat) (l : List Byte), l.length ≤ (ws.foldl (fun l w => patch l (w - o) (zeros 8)) l).length := by
    intro ws
    induction ws with
    | nil => exact fun l => Nat.le_refl _
    | cons w ws ih => exact fun l => Nat.le_trans (le_length_patch l _ _) (ih _)
  have hread : (s.tarnRead o n).length = n := Sparse.length_bytes _ _ _ _
  unfold State.tarnSee
  exact hread.symm.le.trans (hfold _ _)

/-! ## The last engine's record of a command -/

variable {s u : State} {e : EngineId}

/-- The last engine that a command waits for completes it, its image written before (R120, R238). -/
theorem State.evaluated_completes {isn : U64} {y : Running} (h : u.hif.running = [y]) (hdir : y.dir = false) (hisn : y.isn = isn) (hleft : y.left = [e])
    (himg : y.img.isEmpty = false) (hst : y.status = 0) :
    (u.evaluated e isn).hif.running = [] ∧ (u.evaluated e isn).hif.ready = u.hif.ready ++
        [{ tag := y.tag, opcode := y.opcode, status := 0, result := isn, irqNow := y.irqNow }]
      ∧ Output.hostWrite y.addr y.img ∈ (u.evaluated e isn).out := by
  have hbefore : (((u.updEng e (fun x => { x with evalIsn := isn })).bump (Reg.AE_EVAL_CNT (engIx e))).rpShown isn).hif = u.hif := by
    rw [State.rpShown_parts isn .hif (by decide), State.bump_parts _ .hif (by decide), u.updEng_parts e _ .hif (by decide)]
  rw [State.evaluated_eq]
  generalize ((u.updEng e (fun x => { x with evalIsn := isn })).bump (Reg.AE_EVAL_CNT (engIx e))).rpShown isn = w at hbefore
  have hfind : w.hif.running.find? (fun r => !r.dir && r.isn == isn) = some y := by
    rw [hbefore, h, List.find?_cons_of_pos (by rw [hdir, hisn]; simp)]
  have hlast : y.left.filter (· != e) = [] := by rw [hleft]; simp
  have hdone : w.cmdDone e isn = State.closeRunning { w with hif := { w.hif with running := w.hif.running.filter (fun x => x.dir || x.isn != isn) } } y := by
    unfold State.cmdDone
    rw [hfind]
    dsimp only
    rw [hlast, if_pos List.isEmpty_nil]
  have hnone : w.hif.running.filter (fun x => x.dir || x.isn != isn) = [] := by
    rw [hbefore, h, List.filter_cons_of_neg (by rw [hdir, hisn]; simp), List.filter_nil]
  rw [hdone, hnone]
  unfold State.closeRunning State.complete
  rw [if_neg (by rw [himg]; decide)]
  refine ⟨rfl, ?_, ?_⟩
  · show w.hif.ready ++ _ = _
    rw [hbefore, hst, if_pos rfl, hisn]
    simp
  · exact List.mem_append_right _ (List.mem_singleton.mpr rfl)

/-! ## The image of a point -/

/-- What POINT_READ's image holds before the engine's own part. -/
def State.imageBase (s : State) (r : InRec) (p : Nat) : List Byte :=
  leBytes 8 r.isn.toNat ++ zeros 8 ++ leBytes 2 s.evalEpoch ++ zeros 46 ++ s.tarnSee (Tarn.POINT_CFG + 64 * p) 64 ++ zeros 64

/-- The engine's own part of it. -/
def State.imageOf (s : State) (e : EngineId) (r : InRec) (p : Nat) : List Byte :=
  patch (patch (s.imageBase r p) (0x80 + 32 * engIx e) (s.pt e p).bytes) 8 [byteAt (s.imageBase r p) 8 ||| BitVec.ofNat 8 (engNo e)]

theorem State.le_length_imageBase (r : InRec) (p : Nat) : 192 ≤ (s.imageBase r p).length := by
  have hsee := s.le_length_tarnSee (Tarn.POINT_CFG + 64 * p) 64
  unfold State.imageBase zeros
  simp only [List.length_append, length_leBytes, List.length_replicate]
  omega

theorem State.slice_imageOf_isn (r : InRec) (p : Nat) : slice (s.imageOf e r p) 0 8 = leBytes 8 r.isn.toNat := by
  have hlen := s.le_length_imageBase r p
  have hix : engIx e ≤ 1 := by cases e <;> decide
  unfold State.imageOf
  rw [slice_patch_below _ (Nat.le_trans (by omega) (le_length_patch _ _ _)) (by omega), slice_patch_below _ (by omega) (by omega)]
  unfold State.imageBase
  simp only [List.append_assoc]
  rw [slice_append_within _ _ (by rw [length_leBytes])]
  unfold slice
  rw [List.drop_zero, List.take_of_length_le (by rw [length_leBytes])]

theorem State.slice_imageOf_state (r : InRec) (p : Nat) : slice (s.imageOf e r p) (0x80 + 32 * engIx e) 32 = (s.pt e p).bytes := by
  have hlen := s.le_length_imageBase r p
  have hix : engIx e ≤ 1 := by cases e <;> decide
  have hself := slice_patch_self (l := s.imageBase r p) (k := 0x80 + 32 * engIx e) (s.pt e p).bytes (by omega)
  rw [PtState.length_bytes] at hself
  unfold State.imageOf
  rw [slice_patch_above _ (Nat.le_trans (by omega) (le_length_patch _ _ _)) (by simp only [List.length_singleton]; omega), hself]

theorem State.imageOf_nonempty (r : InRec) (p : Nat) : (s.imageOf e r p).isEmpty = false := by
  have hlen := s.le_length_imageBase r p
  rw [List.isEmpty_eq_false_iff, ← List.length_pos_iff]
  unfold State.imageOf
  exact Nat.lt_of_lt_of_le (by omega) ((le_length_patch _ _ _).trans (le_length_patch _ _ _))

/-- POINT_READ with its arguments in order: the image stands with the command that waits. -/
theorem State.evalPointRead_eq {r : InRec} {x : Running} (hp : r.desc.pointOk = true) (h1 : r.desc.resv 0xC 4 = true) (h2 : r.desc.resv 0x18 40 = true)
    (h3 : r.desc.aligned 0x10 = true) (hrun : s.hif.running = [x]) (hdir : x.dir = false) (hisn : x.isn = r.isn) (himg : x.img = []) :
    s.evalPointRead e r = (Status.ok, { s with hif := { s.hif with running := [{ x with img := s.imageOf e r r.desc.point, addr := r.desc.arg 0x10 8 }] } }) := by
  unfold State.evalPointRead
  dsimp only
  rw [if_neg (by rw [hp, h1, h2, h3]; decide), hrun, List.map_singleton, if_pos (by rw [hdir, hisn]; simp), himg]
  rfl

/-! ## O19 -/

theorem pointRead_done {r : InRec} {d : Desc} {x : Running} (hp : d.pointOk = true) (h : s.AtCmd e 0x11 r d) (h1 : d.resv 0xC 4 = true)
    (h2 : d.resv 0x18 40 = true) (h3 : d.aligned 0x10 = true) (hrun : s.hif.running = [x]) (hdir : x.dir = false) (hisn : x.isn = r.isn)
    (hleft : x.left = [e]) (himg : x.img = []) :
    Ends (.pointRead (.eval e)) s (fun t => Evaluated s t e r ∧ t.hif.running = []
      ∧ t.hif.ready = s.hif.ready ++ [{ tag := x.tag, opcode := x.opcode, status := 0, result := r.isn, irqNow := x.irqNow }]
      ∧ ∃ img, Output.hostWrite (d.arg 0x10 8) img ∈ t.out ∧ slice img 0 8 = leBytes 8 r.isn.toNat
        ∧ slice img (0x80 + 32 * engIx e) 32 = (s.pt e d.point).bytes) := by
  have hd : d = r.desc := h.2.2
  subst hd
  have hstart := keeps_runStart (s := s.fresh) (e := e) r
  have hready := State.runStart_readied (s := s.fresh) (e := e) r
  have hpt : (s.fresh.runStart e r).pt e r.desc.point = s.pt e r.desc.point := State.pt_runStart (s := s.fresh) r _
  have hcmd := State.evalCmd_eq (s := s.fresh) (f := fun r s => s.evalPointRead e r) h
  have hhif : (s.fresh.runStart e r).hif = s.hif := hstart.hif
  generalize s.fresh.runStart e r = v at hstart hready hpt hcmd hhif
  rw [State.evalPointRead_eq hp h1 h2 h3 (by rw [hhif]; exact hrun) hdir hisn himg] at hcmd
  generalize hy : ({ x with img := v.imageOf e r r.desc.point, addr := r.desc.arg 0x10 8, status := 0 } : Running) = y
  generalize hw : State.noteStatus { v with hif := { v.hif with running := [{ x with img := v.imageOf e r r.desc.point, addr := r.desc.arg 0x10 8 }] } }
    r.isn Status.ok = w
  rw [hw] at hcmd
  have hwrun : w.hif.running = [y] := by
    rw [← hw, ← hy]
    show List.map _ [_] = _
    rw [List.map_singleton, if_pos (by show (!x.dir && x.isn == r.isn) = true; rw [hdir, hisn]; simp)]
    rfl
  have hwready : w.hif.ready = s.hif.ready := by
    rw [← hw, ← hhif]
    rfl
  have hwr : Readied s.fresh w e := by
    rw [← hw]
    exact Readied.noteStatus (u := { v with hif := { v.hif with running := [{ x with img := v.imageOf e r r.desc.point, addr := r.desc.arg 0x10 8 }] } })
      ⟨hready.begun, (State.reg_congr rfl rfl _).trans hready.count, hready.other_, hready.tarn⟩ _ _
  obtain ⟨hempty, hcompl, hout⟩ := State.evaluated_completes (e := e) (isn := r.isn) hwrun (by rw [← hy]; exact hdir) (by rw [← hy]; exact hisn)
    (by rw [← hy]; exact hleft) (by rw [← hy]; exact State.imageOf_nonempty r _) (by rw [← hy])
  refine ⟨_, congrArg Host.Outcome.next hcmd, hwr.evaluated.of_fresh, hempty, ?_, v.imageOf e r r.desc.point, ?_, State.slice_imageOf_isn r _, ?_⟩
  · rw [hcompl, hwready, ← hy]
  · rw [← hy] at hout
    exact hout
  · rw [State.slice_imageOf_state, hpt]

/-- Settles O19: each command's evaluation, then what it leaves in the point's record. -/
theorem pointCommands : Obligations.PointCommands := by
  unfold Obligations.PointCommands
  intro s e r d hp
  refine ⟨fun h hresv => ?_, fun h hresv hm hmax hon => ?_, fun h hresv hsh => ?_, fun h h1 h2 h3 hon hfin hbin => ⟨fun hmode hecc => ?_, fun hmode hforced => ?_⟩,
    fun h h1 h2 h3 x hrun hdir hisn hleft himg => pointRead_done hp h h1 h2 h3 hrun hdir hisn hleft himg⟩
  all_goals
    have hd : d = r.desc := h.2.2
    subst hd
    have hstart := keeps_runStart (s := s.fresh) (e := e) r
    have hpt : (s.fresh.runStart e r).pt e r.desc.point = s.pt e r.desc.point := State.pt_runStart (s := s.fresh) r _
  · obtain ⟨hun, hstate, -⟩ := State.ackPoint_acked (s := s.fresh.runStart e r) (e := e) r r.desc.point
    have hf : (s.fresh.runStart e r).evalAckPoint e r = (Status.ok, (s.fresh.runStart e r).ackPoint e r r.desc.point) := by
      unfold State.evalAckPoint
      dsimp only
      rw [if_neg (by rw [hp, hresv]; decide)]
    obtain ⟨hev, hpts, -⟩ := State.evalCmd_keeps (s := s.fresh) (f := fun r s => s.evalAckPoint e r) h hf (keeps_ackPoint r _).stateless_of_pointless
    exact ⟨_, rfl, hev.of_fresh, by rw [hpts]; exact hun, by rw [hpts]; exact hstate.trans (congrArg PtState.state hpt)⟩
  · obtain ⟨u, hf, hk, hshelved, htimer, hstate⟩ := State.evalShelve_shelves (s := s.fresh.runStart e r) (e := e) hp hresv hm
      (by rw [hstart.pcfg]; exact hmax) (by rw [hstart.pcfg]; exact hon)
    obtain ⟨hev, hpts, -⟩ := State.evalCmd_keeps (s := s.fresh) (f := fun r s => s.evalShelve e r) h hf hk
    exact ⟨_, rfl, hev.of_fresh, by rw [hpts]; exact hshelved, by rw [hpts]; exact htimer,
      by rw [hpts]; exact hstate.trans (congrArg PtState.state hpt)⟩
  · obtain ⟨u, hf, hk, hoff, htimer⟩ := State.evalUnshelve_ends (s := s.fresh.runStart e r) (e := e) hp hresv (by rw [hpt]; exact hsh)
    obtain ⟨hev, hpts, -⟩ := State.evalCmd_keeps (s := s.fresh) (f := fun r s => s.evalUnshelve e r) h hf hk
    exact ⟨_, rfl, hev.of_fresh, by rw [hpts]; exact hoff, by rw [hpts]; exact htimer⟩
  · have hnote := keeps_noteInvalid (view := Engine.stateless) (e := e) (s := s.fresh.runStart e r)
      ((s.fresh.runStart e r).pcfg r.desc.point).raw 64
    have hf := State.evalForcePoint_eq (s := s.fresh.runStart e r) (e := e) hp h1 h2 h3 (by rw [hstart.pcfg]; exact hon) hfin
      (by rw [hstart.pcfg]; exact hbin) (by omega) (by omega)
    dsimp only at hf
    rw [if_pos hmode] at hf
    obtain ⟨hev, hpts, -⟩ := State.evalCmd_keeps (s := s.fresh) (f := fun r s => s.evalForcePoint e r) h hf (hnote.trans (keeps_force r _ _ _))
    obtain ⟨hforced, hvalue⟩ := State.pt_force (e := e) r r.desc.point ((s.fresh.runStart e r).pcfg r.desc.point) (u32At r.desc.raw 0x10)
      ((hnote.eccHeld e _).trans ((hstart.eccHeld e _).trans hecc))
    exact ⟨_, rfl, hev.of_fresh, by rw [hpts]; exact hforced, by rw [hpts]; exact hvalue⟩
  · have hnote := keeps_noteInvalid (view := Engine.eventless) (e := e) (s := s.fresh.runStart e r)
      ((s.fresh.runStart e r).pcfg r.desc.point).raw 64
    have hf := State.evalForcePoint_eq (s := s.fresh.runStart e r) (e := e) hp h1 h2 h3 (by rw [hstart.pcfg]; exact hon) hfin
      (by rw [hstart.pcfg]; exact hbin) (by omega) (fun _ => by rw [hpt]; exact hforced)
    dsimp only at hf
    rw [if_neg (by omega)] at hf
    obtain ⟨hev, hpts, -⟩ := State.evalCmd_keeps (s := s.fresh) (f := fun r s => s.evalForcePoint e r) h hf
      ((hnote.of_events noEvents_stateless).trans (keeps_report r _ _ _ _ _))
    have hvalue := congrArg PtState.value ((hnote.pt_of_eventless r.desc.point).trans hpt)
    have hshown := (State.pt_report (e := e) (s := (s.fresh.runStart e r).noteInvalid e ((s.fresh.runStart e r).pcfg r.desc.point).raw 64) r r.desc.point
      ((s.fresh.runStart e r).pcfg r.desc.point)
      ((((s.fresh.runStart e r).noteInvalid e ((s.fresh.runStart e r).pcfg r.desc.point).raw 64).pt e r.desc.point).mark Sub.forced false)
      (((s.fresh.runStart e r).noteInvalid e ((s.fresh.runStart e r).pcfg r.desc.point).raw 64).pt e r.desc.point).state false).1
    exact ⟨_, rfl, hev.of_fresh, by rw [hpts]; exact (hshown.has _ (by decide)).trans (PtState.has_mark_self _ _),
      by rw [hpts]; exact hshown.value.trans hvalue⟩

end Sys2Proof.Machine

/-! PROOFS. What the steps on a group leave in its state half, and the group commands (O20; R255, R258, R262, Table 8-13). -/

namespace Sys2Proof.Machine

variable {s t u : State} {e : EngineId}

/-! ## State halves -/

theorem State.gr_setGr_self (g : Nat) (y : GrState) : (s.setGr e g y).gr e g = { y with crcFlip := 0 } := by
  have hwritten : (s.lineWritten (halfOffset e g) 40).eng e = s.eng e := (keeps_lineWritten (view := id) (e := e) (s := s) (halfOffset e g) 40).own
  unfold State.setGr State.gr Engine.gr
  rw [State.eng_updEng_self, hwritten]
  exact Sparse.get_set_self _ _ _

theorem State.gr_updGr_self (g : Nat) (f : GrState → GrState) : (s.updGr e g f).gr e g = { f (s.gr e g) with crcFlip := 0 } := State.gr_setGr_self g _

/-- An engine but for its events and what it notes of groups beside their halves: the last pictures and the frames of calls. -/
def Engine.noteless (x : Engine) : Engine := { x.eventless with swept := [], called := [] }

theorem noEvents_noteless : NoEvents Engine.noteless := fun _ => rfl

theorem EvalKeeps.gr_of_noteless (h : EvalKeeps Engine.noteless e s t) (g : Nat) : t.gr e g = s.gr e g := by
  have hgrs : (t.eng e).grs = (s.eng e).grs := h.get Engine.grs (fun _ => rfl)
  unfold State.gr Engine.gr
  rw [hgrs]

theorem keeps_callFrames_noteless (g : Nat) (c : GCfg) (st was : Byte) : EvalKeeps Engine.noteless e s (s.callFrames e g c st was) := by
  have hcalled : ∀ l, EvalKeeps Engine.noteless e s (s.updEng e (fun z => { z with called := Sparse.set [] z.called g l })) := fun l => EvalKeeps.updEng rfl
  unfold State.callFrames
  exact .ite ((hcalled _).trans (keeps_sendFrames _ _)) (.ite (hcalled _) (keeps_sendFrames _ _))

theorem keeps_markSwept_noteless (g : Nat) : EvalKeeps Engine.noteless e s (s.markSwept e g) := EvalKeeps.updEng rfl

theorem keeps_groupState_noteless (r : InRec) (g : Nat) (c : GCfg) : EvalKeeps Engine.noteless e s (s.groupState e r g c) := by
  unfold State.groupState
  exact (keeps_groupEvent noEvents_noteless r g c _ _ _ _ _).trans (keeps_markSwept_noteless g)

/-- A change of CALL_STATE in the half. -/
theorem State.gr_callTo (r : InRec) (g : Nat) (c : GCfg) (st : Byte) (cause timer : Nat) :
    (s.callTo e r g c st cause timer).gr e g = { (s.gr e g).calls c st cause timer with crcFlip := 0 } := by
  rw [State.callTo_eq, (keeps_callFrames_noteless g c st _).gr_of_noteless, (keeps_countCall (view := Engine.noteless) _ _).gr_of_noteless,
    (keeps_groupEvent noEvents_noteless r g c _ _ _ _ _).gr_of_noteless, State.gr_setGr_self]

/-- What a change of CALL_STATE leaves in the half. -/
theorem GrState.calls_shown (x : GrState) (c : GCfg) (st : Byte) (cause timer : Nat) :
    (x.calls c st cause timer).callState = st ∧ (x.calls c st cause timer).callTimer = BitVec.ofNat 16 (c.timer st timer)
      ∧ (x.calls c st cause timer).floodCnt = x.floodCnt ∧ (x.calls c st cause timer).floodTimer = x.floodTimer
      ∧ (x.calls c st cause timer).blockTimer = x.blockTimer ∧ ∀ i, i ≠ G.floodRaised → (x.calls c st cause timer).has i = x.has i := by
  unfold GrState.calls
  dsimp only
  split
  · exact ⟨rfl, rfl, rfl, rfl, rfl, fun i hi => GrState.has_mark_ne _ true hi⟩
  · exact ⟨rfl, rfl, rfl, rfl, rfl, fun _ _ => rfl⟩

theorem State.callState_callTo (r : InRec) (g : Nat) (c : GCfg) (st : Byte) (cause timer : Nat) :
    ((s.callTo e r g c st cause timer).gr e g).callState = st := by
  rw [State.gr_callTo]
  exact (GrState.calls_shown _ _ _ _ _).1

theorem EvalKeeps.groupReady {view : Engine → Engine} (h : EvalKeeps view e s t) {g : Nat} (hg : t.gr e g = s.gr e g) :
    t.groupReady e g = s.groupReady e g := by
  unfold State.groupReady
  rw [h.gcfg, hg]

/-! ## ACK_GROUP -/

/-- One member's part of ACK_GROUP. -/
def State.ackMember (e : EngineId) (r : InRec) (g : Nat) (s : State) (p : Nat) : State :=
  if !(s.pcfg p).on then s
  else if !(s.pcfg p).valid p then s.noteInvalid e (s.pcfg p).raw 64
  else if (s.pcfg p).group = g then s.ackPoint e r p else s

theorem keeps_ackMember (r : InRec) (g p : Nat) : EvalKeeps Engine.pointless e s (State.ackMember e r g s p) :=
  .ite (.refl _ _ _) (.ite (keeps_noteInvalid _ _) (.ite (keeps_ackPoint r p) (.refl _ _ _)))

/-- No member's part of ACK_GROUP sets UNACKED. -/
theorem State.ackMember_unacked (r : InRec) (g p q : Nat) (h : (s.pt e q).has Sub.unacked = false) :
    ((State.ackMember e r g s p).pt e q).has Sub.unacked = false := by
  have hack : ((s.ackPoint e r p).pt e q).has Sub.unacked = false := by
    obtain ⟨hself, -, hne⟩ := State.ackPoint_acked (s := s) (e := e) r p
    by_cases hq : q = p
    · rw [hq]
      exact hself
    · rw [hne q hq]
      exact h
  have hnote : ((s.noteInvalid e (s.pcfg p).raw 64).pt e q).has Sub.unacked = false := by
    rw [(keeps_noteInvalid (view := Engine.eventless) _ _).pt_of_eventless]
    exact h
  unfold State.ackMember
  split
  · exact h
  · split
    · exact hnote
    · split
      · exact hack
      · exact h

theorem State.ackMembers_unacked (r : InRec) (g q : Nat) (l : List Nat) (s : State) (h : (s.pt e q).has Sub.unacked = false) :
    ((l.foldl (State.ackMember e r g) s).pt e q).has Sub.unacked = false := by
  induction l generalizing s with
  | nil => exact h
  | cons p l ih => exact ih _ (State.ackMember_unacked r g p q h)

/-- Every valid member of the group that is on is acknowledged. -/
theorem State.ackMembers_acks (r : InRec) (g q : Nat) (l : List Nat) (s : State) (hq : q ∈ l) (hon : (s.pcfg q).on = true)
    (hgroup : (s.pcfg q).group = g) (hvalid : (s.pcfg q).valid q = true) : ((l.foldl (State.ackMember e r g) s).pt e q).has Sub.unacked = false := by
  induction l generalizing s with
  | nil => exact absurd hq List.not_mem_nil
  | cons p l ih =>
    by_cases hp : q = p
    · subst hp
      refine State.ackMembers_unacked r g q l _ ?_
      unfold State.ackMember
      rw [if_neg (by rw [hon]; decide), if_neg (by rw [hvalid]; decide), if_pos hgroup]
      exact (State.ackPoint_acked r q).1
    · have hk := keeps_ackMember (s := s) (e := e) r g p
      exact ih _ (List.mem_of_ne_of_mem hp hq) (by rw [hk.pcfg]; exact hon) (by rw [hk.pcfg]; exact hgroup) (by rw [hk.pcfg]; exact hvalid)

theorem State.ackMembers_eq (r : InRec) (g : Nat) : s.ackMembers e r g = s.points.foldl (State.ackMember e r g) s := rfl

theorem State.evalAckGroup_acks {r : InRec} (hready : s.groupReady e (r.desc.arg 8 1) = true) (hresv : r.desc.resv 0xA 54 = true)
    (hmode : r.desc.arg 9 1 = 0) :
    ∃ u, s.evalAckGroup e r = (Status.ok, u) ∧ EvalKeeps Engine.stateless e s u
      ∧ (calling (s.gr e (r.desc.arg 8 1)).callState = true → (u.gr e (r.desc.arg 8 1)).callState = Call.accepted)
      ∧ ∀ p, p ∈ s.points → (s.pcfg p).on = true → (s.pcfg p).group = r.desc.arg 8 1 → (s.pcfg p).valid p = true →
          (u.pt e p).has Sub.unacked = false := by
  have hk : EvalKeeps Engine.pointless e s (s.noteGroup e (r.desc.arg 8 1)) := keeps_noteGroup _
  have hgr := hk.gr_of_pointless (r.desc.arg 8 1)
  unfold State.evalAckGroup
  dsimp only
  generalize s.noteGroup e (r.desc.arg 8 1) = v at hk hgr
  rw [if_neg (by rw [hresv, hmode]; decide), if_neg (by rw [hk.groupReady hgr, hready]; decide), if_pos hmode]
  have hack : EvalKeeps Engine.pointless e v (v.ackMembers e r (r.desc.arg 8 1)) := keeps_ackMembers r _
  have hgr' := (hack.gr_of_pointless (r.desc.arg 8 1)).trans hgr
  have hpts : ∀ p, p ∈ s.points → (s.pcfg p).on = true → (s.pcfg p).group = r.desc.arg 8 1 → (s.pcfg p).valid p = true →
      ((v.ackMembers e r (r.desc.arg 8 1)).pt e p).has Sub.unacked = false := fun p hp hon hgroup hvalid => by
    rw [State.ackMembers_eq]
    exact State.ackMembers_acks r _ p _ v (by rw [hk.points]; exact hp) (by rw [hk.pcfg]; exact hon) (by rw [hk.pcfg]; exact hgroup)
      (by rw [hk.pcfg]; exact hvalid)
  have hall := (hk.trans hack).stateless_of_pointless
  generalize v.ackMembers e r (r.desc.arg 8 1) = w at hack hgr' hpts hall
  rw [hgr']
  cases hcall : calling (s.gr e (r.desc.arg 8 1)).callState with
  | true =>
    have hto := keeps_callTo (s := w) (e := e) r (r.desc.arg 8 1) (w.gcfg (r.desc.arg 8 1)) Call.accepted Cause.ackGroup 0
    refine ⟨_, rfl, ?_⟩
    rw [if_pos rfl]
    exact ⟨hall.trans hto.stateless_of_groupless, fun _ => State.callState_callTo r _ _ _ _ _, fun p hp hon hg hv => by
      rw [hto.pt_of_groupless]; exact hpts p hp hon hg hv⟩
  | false => exact ⟨w, rfl, hall, nofun, hpts⟩

/-! ## The other group commands -/

theorem State.evalCallManual_calls {r : InRec} (hready : s.groupReady e (r.desc.arg 8 1) = true) (hresv : r.desc.resv 0xA 54 = true)
    (h0 : r.desc.arg 9 1 ≠ 0) (hstage : r.desc.arg 9 1 ≤ (s.gcfg (r.desc.arg 8 1)).nStages ∨ r.desc.arg 9 1 = 7 ∨ r.desc.arg 9 1 = 8)
    (h8 : r.desc.arg 9 1 ≤ 8) (hen : (s.gcfg (r.desc.arg 8 1)).callEn = true) (hdm : (s.gcfg (r.desc.arg 8 1)).deadman = false)
    (hcall : calling (s.gr e (r.desc.arg 8 1)).callState = false) :
    ∃ u, s.evalCallManual e r = (Status.ok, u) ∧ EvalKeeps Engine.stateless e s u
      ∧ (u.gr e (r.desc.arg 8 1)).callState = BitVec.ofNat 8 (r.desc.arg 9 1) := by
  have hk : EvalKeeps Engine.pointless e s (s.noteGroup e (r.desc.arg 8 1)) := keeps_noteGroup _
  have hgr := hk.gr_of_pointless (r.desc.arg 8 1)
  unfold State.evalCallManual
  dsimp only
  generalize s.noteGroup e (r.desc.arg 8 1) = v at hk hgr
  have hstages : (decide ((s.gcfg (r.desc.arg 8 1)).nStages < r.desc.arg 9 1) && decide (r.desc.arg 9 1 ≤ 6)) = false := by
    rw [← Bool.decide_and]
    exact decide_eq_false (by omega)
  rw [if_neg (by rw [hresv, hstages, decide_eq_false h0, decide_eq_false (show ¬ 8 < r.desc.arg 9 1 by omega)]; decide),
    if_neg (by rw [hk.groupReady hgr, hready, hen, hdm, hgr, hcall]; decide)]
  exact ⟨_, rfl, hk.stateless_of_pointless.trans (keeps_callTo r _ _ _ _ _).stateless_of_groupless, State.callState_callTo r _ _ _ _ _⟩

theorem State.evalCallSilence_silences {r : InRec} (hready : s.groupReady e (r.desc.arg 8 1) = true) (hresv : r.desc.resv 9 55 = true)
    (hcall : calling (s.gr e (r.desc.arg 8 1)).callState = true) :
    ∃ u, s.evalCallSilence e r = (Status.ok, u) ∧ EvalKeeps Engine.stateless e s u ∧ (u.gr e (r.desc.arg 8 1)).callState = Call.silenced := by
  have hk : EvalKeeps Engine.pointless e s (s.noteGroup e (r.desc.arg 8 1)) := keeps_noteGroup _
  have hgr := hk.gr_of_pointless (r.desc.arg 8 1)
  unfold State.evalCallSilence
  dsimp only
  generalize s.noteGroup e (r.desc.arg 8 1) = v at hk hgr
  rw [if_neg (by rw [hresv]; decide), if_neg (by rw [hk.groupReady hgr, hready, hgr, hcall]; decide)]
  exact ⟨_, rfl, hk.stateless_of_pointless.trans (keeps_callTo r _ _ _ _ _).stateless_of_groupless, State.callState_callTo r _ _ _ _ _⟩

/-- A press begins the period anew (R258). -/
theorem State.gr_press (r : InRec) (g : Nat) (c : GCfg) :
    ((s.press e r g c).gr e g).callState = Call.idle ∧ ((s.press e r g c).gr e g).callTimer = BitVec.ofNat 16 c.dmPeriod
      ∧ ((s.press e r g c).gr e g).has G.dmWarn = false := by
  have hfirst := State.gr_updGr_self (s := s) (e := e) g (fun x => x.mark G.dmWarn false)
  have hwarn : ((s.updGr e g (fun x => x.mark G.dmWarn false)).gr e g).has G.dmWarn = false := by
    rw [hfirst]
    exact GrState.has_mark_self _ _
  unfold State.press
  dsimp only
  generalize s.updGr e g (fun x => x.mark G.dmWarn false) = v at hfirst hwarn
  split
  · next hidle =>
    rw [State.gr_updGr_self]
    exact ⟨hidle, rfl, hwarn⟩
  · rw [State.gr_callTo]
    obtain ⟨hstate, htimer, -, -, -, hhas⟩ := GrState.calls_shown (v.gr e g) c Call.idle Cause.press c.dmPeriod
    exact ⟨hstate, htimer, (hhas _ (by decide)).trans hwarn⟩

theorem State.evalDeadmanReset_presses {r : InRec} (hready : s.groupReady e (r.desc.arg 8 1) = true) (hresv : r.desc.resv 9 55 = true)
    (hdm : (s.gcfg (r.desc.arg 8 1)).deadman = true) (hen : (s.gcfg (r.desc.arg 8 1)).callEn = true)
    (hblock : (s.gr e (r.desc.arg 8 1)).has G.blocked = false) :
    ∃ u, s.evalDeadmanReset e r = (Status.ok, u) ∧ EvalKeeps Engine.stateless e s u ∧ (u.gr e (r.desc.arg 8 1)).callState = Call.idle
      ∧ (u.gr e (r.desc.arg 8 1)).callTimer = BitVec.ofNat 16 (s.gcfg (r.desc.arg 8 1)).dmPeriod
      ∧ (u.gr e (r.desc.arg 8 1)).has G.dmWarn = false := by
  have hk : EvalKeeps Engine.pointless e s (s.noteGroup e (r.desc.arg 8 1)) := keeps_noteGroup _
  have hgr := hk.gr_of_pointless (r.desc.arg 8 1)
  unfold State.evalDeadmanReset
  dsimp only
  generalize s.noteGroup e (r.desc.arg 8 1) = v at hk hgr
  rw [if_neg (by rw [hresv]; decide), if_neg (by rw [hk.groupReady hgr, hready, hdm, hen, hgr, hblock]; decide)]
  exact ⟨_, rfl, hk.stateless_of_pointless.trans (keeps_press r _ _).stateless_of_groupless, State.gr_press r _ _⟩

/-! ## O20 -/

/-- Settles O20: each command's evaluation, then what it leaves in the group's half. -/
theorem groupCommands : Obligations.GroupCommands := by
  unfold Obligations.GroupCommands
  intro s e r d hready
  refine ⟨fun h hresv hmode => ?_, fun h hresv h0 hstage h8 hen hdm hcall => ?_, fun h hresv hcall => ?_, fun h hresv hdm hen hblock => ?_⟩
  all_goals
    have hd : d = r.desc := h.2.2
    subst hd
    have hstart := keeps_runStart (s := s.fresh) (e := e) r
    have hgr : (s.fresh.runStart e r).gr e (r.desc.arg 8 1) = s.gr e (r.desc.arg 8 1) := State.gr_runStart (s := s.fresh) r _
    have hgo : (s.fresh.runStart e r).groupReady e (r.desc.arg 8 1) = true := (hstart.groupReady hgr).trans hready
  · obtain ⟨u, hf, hk, hacc, hun⟩ := State.evalAckGroup_acks (s := s.fresh.runStart e r) hgo hresv hmode
    obtain ⟨hev, hpts, hgrs⟩ := State.evalCmd_keeps (s := s.fresh) (f := fun r s => s.evalAckGroup e r) h hf hk
    refine ⟨_, rfl, hev.of_fresh, fun hcall => ?_, fun p hp hon hg hv => ?_⟩
    · rw [hgrs]
      exact hacc (by rw [hgr]; exact hcall)
    · rw [hpts]
      exact hun p (by rw [hstart.points]; exact hp) (by rw [hstart.pcfg]; exact hon) (by rw [hstart.pcfg]; exact hg) (by rw [hstart.pcfg]; exact hv)
  · obtain ⟨u, hf, hk, hstate⟩ := State.evalCallManual_calls (s := s.fresh.runStart e r) hgo hresv h0 (by rw [hstart.gcfg]; exact hstage) h8
      (by rw [hstart.gcfg]; exact hen) (by rw [hstart.gcfg]; exact hdm) (by rw [hgr]; exact hcall)
    obtain ⟨hev, -, hgrs⟩ := State.evalCmd_keeps (s := s.fresh) (f := fun r s => s.evalCallManual e r) h hf hk
    exact ⟨_, rfl, hev.of_fresh, by rw [hgrs]; exact hstate⟩
  · obtain ⟨u, hf, hk, hstate⟩ := State.evalCallSilence_silences (s := s.fresh.runStart e r) hgo hresv (by rw [hgr]; exact hcall)
    obtain ⟨hev, -, hgrs⟩ := State.evalCmd_keeps (s := s.fresh) (f := fun r s => s.evalCallSilence e r) h hf hk
    exact ⟨_, rfl, hev.of_fresh, by rw [hgrs]; exact hstate⟩
  · obtain ⟨u, hf, hk, hstate, htimer, hwarn⟩ := State.evalDeadmanReset_presses (s := s.fresh.runStart e r) hgo hresv
      (by rw [hstart.gcfg]; exact hdm) (by rw [hstart.gcfg]; exact hen) (by rw [hgr]; exact hblock)
    obtain ⟨hev, -, hgrs⟩ := State.evalCmd_keeps (s := s.fresh) (f := fun r s => s.evalDeadmanReset e r) h hf hk
    rw [hstart.gcfg] at htimer
    exact ⟨_, rfl, hev.of_fresh, by rw [hgrs]; exact hstate, by rw [hgrs]; exact htimer, by rw [hgrs]; exact hwarn⟩

end Sys2Proof.Machine

/-! PROOFS. A TICK's evaluation: its values, its sweeps, and what comes behind them (O16; R214, R252, R269, R284, R287, R317). -/

namespace Sys2Proof.Machine

variable {s t u : State} {e : EngineId}

/-! ## Events that stand in the queue -/

theorem EvalKeeps.sysId {view : Engine → Engine} (h : EvalKeeps view e s t) (p : Nat) : t.sysId p = s.sysId p := by
  have hspawn : t.spawn = s.spawn := h.parts .spawn (by decide)
  have hnode : t.nodeId = s.nodeId := by
    unfold State.nodeId State.rfld
    rw [h.regs _ (by decide)]
  unfold State.sysId State.streamNode
  rw [h.mgmt, hspawn, hnode]

/-- An emitted event stands behind those of its engine, with its ESN. -/
theorem State.put_mem (v : Event) : ∃ n, { v with esn := n } ∈ ((s.put e v).eng e).evq ++ ((s.put e v).eng e).evWait := by
  have hq : ∀ (x : Engine) (w : Event) (n : BitVec 48), w ∈ ({ x.queue w with nextEsn := n } : Engine).evq ++ ({ x.queue w with nextEsn := n } : Engine).evWait := by
    intro x w n
    unfold Engine.queue
    split
    · simp
    · simp
  have heng : (s.put e v).eng e = { ((s.eventCredit e).eng e).queue { v with esn := ((s.eventCredit e).eng e).nextEsn } with
      nextEsn := nextEsnOf ((s.eventCredit e).eng e).nextEsn } := by
    unfold State.put
    rw [(State.bump_parts _).eng, State.eng_setEng_self]
  exact ⟨_, by rw [heng]; exact hq _ _ _⟩

/-- A put event is what `queued` asks for. -/
theorem State.put_queued {v : Event} {type : Byte} {index : Nat} {p : Event → Prop} (ht : v.type = type) (hi : v.pointId = s.sysId index)
    (hp : ∀ n, p { v with esn := n }) : (s.put e v).queued e type index p := by
  obtain ⟨n, hn⟩ := State.put_mem (s := s) (e := e) v
  exact ⟨_, hn, ht, hi.trans ((keeps_put noEvents_eventless (s := s) (e := e) v).sysId index).symm, hp n⟩

/-- What is queued stays so where the queue and the node's number stay. -/
theorem State.queued_congr {type : Byte} {index : Nat} {p : Event → Prop} (h : s.queued e type index p) (hq : (t.eng e).evq = (s.eng e).evq)
    (hw : (t.eng e).evWait = (s.eng e).evWait) (hid : t.sysId index = s.sysId index) : t.queued e type index p := by
  obtain ⟨v, hv, ht, hi, hp⟩ := h
  exact ⟨v, by rw [hq, hw]; exact hv, ht, hi.trans hid.symm, hp⟩

/-- A seal with room is put, and the chain's count begins again (R287). -/
theorem State.putSeal_sealed (r : InRec) (cause : Byte) (h : 0 < (s.eng e).room) :
    ((s.putSeal e r cause).eng e).custN = 0 ∧ ((s.putSeal e r cause).eng e).sealNo = (s.eng e).sealNo + 1
      ∧ (s.putSeal e r cause).queued e Ev.custodySeal nodeIndex (fun v => v.stOld = cause ∧ v.stNew = BitVec.ofNat 8 (s.eng e).custN) := by
  have hupd : EvalKeeps Engine.eventless e s (s.updEng e (fun x => { x with custN := 0, sealNo := x.sealNo + 1, sealDue := none })) := EvalKeeps.updEng rfl
  have heng := s.eng_updEng_self e (fun x => { x with custN := 0, sealNo := x.sealNo + 1, sealDue := none })
  have hid := hupd.sysId nodeIndex
  unfold State.putSeal
  dsimp only
  rw [if_pos h]
  generalize s.updEng e (fun x => { x with custN := 0, sealNo := x.sealNo + 1, sealDue := none }) = w at heng hid
  have hk := fun v => keeps_put_queue noQueue_queueless (s := w) (e := e) v
  refine ⟨((hk _).get Engine.custN (fun _ => rfl)).trans (by rw [heng]), ((hk _).get Engine.sealNo (fun _ => rfl)).trans (by rw [heng]), ?_⟩
  exact State.put_queued rfl hid.symm (fun _ => ⟨rfl, rfl⟩)

/-- A node event with room is put. -/
theorem State.putNode_queued {v : Event} {type : Byte} {index : Nat} {p : Event → Prop} (h : 0 < (s.eng e).room) (ht : v.type = type)
    (hi : v.pointId = s.sysId index) (hp : ∀ n, p { v with esn := n }) : (s.putNode e v).queued e type index p := by
  unfold State.putNode
  rw [if_pos h]
  exact State.put_queued ht hi hp

/-! ## How far a TICK's evaluation has come -/

/-- An engine but for what a TICK's evaluation works on behind the TICK's own values. -/
def Engine.ticking (x : Engine) : Engine := { x.stateless with sweepAt := 0, groupAt := 0, tickStage := 0, unreportedSwept := 0, hashes := [] }

theorem noEvents_ticking : NoEvents Engine.ticking := fun _ => rfl

theorem EvalKeeps.ticking (h : EvalKeeps Engine.stateless e s t) : EvalKeeps Engine.ticking e s t := h.coarser (fun _ => rfl)

theorem EvalKeeps.ticking_of_groupless (h : EvalKeeps Engine.groupless e s t) : EvalKeeps Engine.ticking e s t := h.coarser (fun _ => rfl)

theorem keeps_sweepPoints (r : InRec) (upto : Nat) : EvalKeeps Engine.ticking e s (s.sweepPoints e r upto) := by
  have hupd : ∀ u : State, EvalKeeps Engine.ticking e u (u.updEng e (fun x => { x with sweepAt := upto })) := fun u => EvalKeeps.updEng rfl
  unfold State.sweepPoints
  exact .ite (.refl _ _ _) ((EvalKeeps.foldl (fun t p => (keeps_sweepPoint r _ p).ticking) _ _).trans (hupd _))

theorem keeps_sweptPoints (r : InRec) : EvalKeeps Engine.ticking e s (s.sweptPoints e r) := by
  have hupd : ∀ u : State, EvalKeeps Engine.ticking e u (u.updEng e (fun x => { x with unreportedSwept := x.unreported })) := fun u => EvalKeeps.updEng rfl
  unfold State.sweptPoints
  exact .ite (.refl _ _ _) ((keeps_sweepPoints r _).trans (hupd _))

theorem keeps_sweepGroups (r : InRec) (upto : Nat) : EvalKeeps Engine.ticking e s (s.sweepGroups e r upto) := by
  have hupd : ∀ u : State, EvalKeeps Engine.ticking e u (u.updEng e (fun x => { x with groupAt := upto })) := fun u => EvalKeeps.updEng rfl
  unfold State.sweepGroups
  exact (keeps_sweptPoints r).trans (.ite (.refl _ _ _) ((EvalKeeps.foldl (fun t g => (keeps_sweepGroup r _ g).ticking_of_groupless) _ _).trans (hupd _)))

theorem State.sweepAt_sweepPoints (r : InRec) (upto : Nat) : upto ≤ ((s.sweepPoints e r upto).eng e).sweepAt := by
  unfold State.sweepPoints
  split
  · next h => exact h
  · rw [State.eng_updEng_self]

theorem State.sweepAt_sweptPoints (r : InRec) : 81920 ≤ ((s.sweptPoints e r).eng e).sweepAt := by
  unfold State.sweptPoints
  split
  · next h => exact h
  · rw [State.eng_updEng_self]
    exact State.sweepAt_sweepPoints r _

/-- An engine's group sweep, as far as its place in the TICK goes. -/
def Engine.placed (x : Engine) : Engine := { x.stateless with groupAt := 0 }

theorem keeps_sweepGroups_placed (r : InRec) (upto : Nat) (h : 81920 ≤ (s.eng e).sweepAt) : EvalKeeps Engine.placed e s (s.sweepGroups e r upto) := by
  have hupd : ∀ u : State, EvalKeeps Engine.placed e u (u.updEng e (fun x => { x with groupAt := upto })) := fun u => EvalKeeps.updEng rfl
  have hswept : s.sweptPoints e r = s := by
    unfold State.sweptPoints
    rw [if_pos h]
  unfold State.sweepGroups
  rw [hswept]
  exact .ite (.refl _ _ _) ((EvalKeeps.foldl (fun t g => (keeps_sweepGroup r _ g).coarser (fun _ => rfl)) _ _).trans (hupd _))

theorem State.swept_sweepGroups (r : InRec) (upto : Nat) :
    81920 ≤ ((s.sweepGroups e r upto).eng e).sweepAt ∧ upto ≤ ((s.sweepGroups e r upto).eng e).groupAt := by
  have hsplit : s.sweepGroups e r upto = (s.sweptPoints e r).sweepGroups e r upto := by
    have hswept : (s.sweptPoints e r).sweptPoints e r = s.sweptPoints e r := if_pos (State.sweepAt_sweptPoints r)
    unfold State.sweepGroups
    rw [hswept]
  have hat := State.sweepAt_sweptPoints (s := s) (e := e) r
  refine ⟨?_, ?_⟩
  · rw [hsplit, (keeps_sweepGroups_placed r upto hat).get Engine.sweepAt (fun _ => rfl)]
    exact hat
  · unfold State.sweepGroups
    dsimp only
    split
    · next h => exact h
    · rw [State.eng_updEng_self]

theorem State.tickStage_sweepPoints (r : InRec) (upto : Nat) : ((s.sweepPoints e r upto).eng e).tickStage = (s.eng e).tickStage := by
  have hfold : ∀ (l : List Nat) (s : State), ((l.foldl (fun s p => s.sweepPoint e r r.payload.toNat p) s).eng e).tickStage = (s.eng e).tickStage := fun l s =>
    (EvalKeeps.foldl (fun t p => keeps_sweepPoint (e := e) r r.payload.toNat p) l s).get Engine.tickStage (fun _ => rfl)
  unfold State.sweepPoints
  split
  · rfl
  · rw [State.eng_updEng_self]
    exact hfold _ _

theorem State.tickStage_sweepGroups (r : InRec) (upto : Nat) : ((s.sweepGroups e r upto).eng e).tickStage = (s.eng e).tickStage := by
  have hpoints : ((s.sweptPoints e r).eng e).tickStage = (s.eng e).tickStage := by
    unfold State.sweptPoints
    split
    · rfl
    · rw [State.eng_updEng_self]
      exact State.tickStage_sweepPoints r _
  have hfold : ∀ (l : List Nat) (s : State), ((l.foldl (fun s g => s.sweepGroup e r r.payload.toNat g) s).eng e).tickStage = (s.eng e).tickStage := fun l s =>
    (EvalKeeps.foldl (fun t g => keeps_sweepGroup (e := e) r r.payload.toNat g) l s).get Engine.tickStage (fun _ => rfl)
  unfold State.sweepGroups
  dsimp only
  split
  · exact hpoints
  · rw [State.eng_updEng_self]
    exact (hfold _ _).trans hpoints

/-! ## The later parts, each once -/

theorem keeps_tickHash (r : InRec) : EvalKeeps Engine.ticking e s (s.tickHash e r) := by
  unfold State.tickHash
  split
  · split
    · exact EvalKeeps.updEng rfl
    · exact .refl _ _ _
  · exact .refl _ _ _

/-- An engine but for its events and checkpoint hashes. -/
def Engine.hashless (x : Engine) : Engine := { x.eventless with hashes := [] }

theorem keeps_tickHash_hashless (r : InRec) : EvalKeeps Engine.hashless e s (s.tickHash e r) := by
  unfold State.tickHash
  split
  · split
    · exact EvalKeeps.updEng rfl
    · exact .refl _ _ _
  · exact .refl _ _ _

theorem keeps_tickRefresh (r : InRec) : EvalKeeps Engine.ticking e s (s.tickRefresh e r) := by
  have htot : ∀ u : State, EvalKeeps Engine.ticking e u (u.updEng e (fun x => { x with totals := [], opened := [] })) := fun u => EvalKeeps.updEng rfl
  have hstage : ∀ u : State, EvalKeeps Engine.ticking e u (u.updEng e (fun x => { x with tickStage := 1 })) := fun u => EvalKeeps.updEng rfl
  unfold State.tickRefresh
  exact (keeps_sweepGroups r 256).trans (.ite (.refl _ _ _) ((htot _).trans ((keeps_tickHash r).trans (((keeps_refresh r).of_events noEvents_ticking).trans (hstage _)))))

theorem keeps_healthTick (r : InRec) : EvalKeeps Engine.eventless e s (s.healthTick e r) := by
  unfold State.healthTick
  exact .ite (keeps_health noEvents_eventless r _) (.refl _ _ _)

theorem keeps_sealTick (r : InRec) : EvalKeeps Engine.eventless e s (s.sealTick e r) := by
  unfold State.sealTick
  exact .ite (keeps_putSeal noEvents_eventless r _) (.refl _ _ _)

theorem keeps_tickHealth (r : InRec) : EvalKeeps Engine.ticking e s (s.tickHealth e r) := by
  have hstage : ∀ u : State, EvalKeeps Engine.ticking e u (u.updEng e (fun x => { x with tickStage := 2 })) := fun u => EvalKeeps.updEng rfl
  unfold State.tickHealth
  exact (keeps_tickRefresh r).trans (.ite (.refl _ _ _) (((keeps_healthTick r).of_events noEvents_ticking).trans (hstage _)))

theorem keeps_tickSeal (r : InRec) : EvalKeeps Engine.ticking e s (s.tickSeal e r) := by
  have hstage : ∀ u : State, EvalKeeps Engine.ticking e u (u.updEng e (fun x => { x with tickStage := 3 })) := fun u => EvalKeeps.updEng rfl
  unfold State.tickSeal
  exact (keeps_tickHealth r).trans (.ite (.refl _ _ _) (((keeps_sealTick r).of_events noEvents_ticking).trans (hstage _)))

/-- The refresh behind the sweeps leaves both behind it. -/
structure TickSwept (t : State) (e : EngineId) (k : Nat) : Prop where
  points : 81920 ≤ (t.eng e).sweepAt
  groups : 256 ≤ (t.eng e).groupAt
  stage : k ≤ (t.eng e).tickStage

theorem State.tickRefresh_swept (r : InRec) : TickSwept (s.tickRefresh e r) e 1 := by
  obtain ⟨hpoints, hgroups⟩ := State.swept_sweepGroups (s := s) (e := e) r 256
  unfold State.tickRefresh
  dsimp only
  split
  · next h => exact ⟨hpoints, hgroups, h⟩
  · generalize s.sweepGroups e r 256 = v at hpoints hgroups
    have htot := v.eng_updEng_self e (fun x => { x with totals := [], opened := [] })
    have hk : EvalKeeps Engine.hashless e (v.updEng e (fun x => { x with totals := [], opened := [] }))
        (((v.updEng e (fun x => { x with totals := [], opened := [] })).tickHash e r).refresh e r) :=
      (keeps_tickHash_hashless r).trans ((keeps_refresh r).of_events (fun _ => rfl))
    refine ⟨?_, ?_, ?_⟩
    · rw [State.eng_updEng_self]
      show 81920 ≤ Engine.sweepAt _
      rw [hk.get Engine.sweepAt (fun _ => rfl), htot]
      exact hpoints
    · rw [State.eng_updEng_self]
      show 256 ≤ Engine.groupAt _
      rw [hk.get Engine.groupAt (fun _ => rfl), htot]
      exact hgroups
    · rw [State.eng_updEng_self]

/-- A TICK whose refresh was still to come ends with new totals (R247). -/
theorem State.tickRefresh_totals (r : InRec) (h : (s.eng e).tickStage = 0) : ((s.tickRefresh e r).eng e).totals = [] ∧ ((s.tickRefresh e r).eng e).opened = [] := by
  have hstage := State.tickStage_sweepGroups (s := s) (e := e) r 256
  unfold State.tickRefresh
  dsimp only
  rw [if_neg (by rw [hstage, h]; decide)]
  generalize s.sweepGroups e r 256 = v
  have htot := v.eng_updEng_self e (fun x => { x with totals := [], opened := [] })
  have hk : EvalKeeps Engine.hashless e (v.updEng e (fun x => { x with totals := [], opened := [] }))
      (((v.updEng e (fun x => { x with totals := [], opened := [] })).tickHash e r).refresh e r) :=
    (keeps_tickHash_hashless r).trans ((keeps_refresh r).of_events (fun _ => rfl))
  rw [State.eng_updEng_self]
  exact ⟨(hk.get Engine.totals (fun _ => rfl)).trans (by rw [htot]), (hk.get Engine.opened (fun _ => rfl)).trans (by rw [htot])⟩

/-- An engine but for its events and how many of the later parts are behind it. -/
def Engine.stageless (x : Engine) : Engine := { x.eventless with tickStage := 0 }

theorem keeps_stage_health (r : InRec) : EvalKeeps Engine.stageless e (s.tickRefresh e r) (s.tickHealth e r) := by
  have hstage : ∀ u : State, EvalKeeps Engine.stageless e u (u.updEng e (fun x => { x with tickStage := 2 })) := fun u => EvalKeeps.updEng rfl
  unfold State.tickHealth
  exact .ite (.refl _ _ _) (((keeps_healthTick r).of_events (fun _ => rfl)).trans (hstage _))

theorem keeps_stage_seal (r : InRec) : EvalKeeps Engine.stageless e (s.tickHealth e r) (s.tickSeal e r) := by
  have hstage : ∀ u : State, EvalKeeps Engine.stageless e u (u.updEng e (fun x => { x with tickStage := 3 })) := fun u => EvalKeeps.updEng rfl
  unfold State.tickSeal
  exact .ite (.refl _ _ _) (((keeps_sealTick r).of_events (fun _ => rfl)).trans (hstage _))

theorem State.tickHealth_swept (r : InRec) : TickSwept (s.tickHealth e r) e 2 := by
  have hrefresh := State.tickRefresh_swept (s := s) (e := e) r
  have hk := keeps_stage_health (s := s) (e := e) r
  refine ⟨by rw [hk.get Engine.sweepAt (fun _ => rfl)]; exact hrefresh.points, by rw [hk.get Engine.groupAt (fun _ => rfl)]; exact hrefresh.groups, ?_⟩
  unfold State.tickHealth
  dsimp only
  split
  · next h => exact h
  · rw [State.eng_updEng_self]

theorem State.tickSeal_swept (r : InRec) : TickSwept (s.tickSeal e r) e 3 := by
  have hhealth := State.tickHealth_swept (s := s) (e := e) r
  have hk := keeps_stage_seal (s := s) (e := e) r
  refine ⟨by rw [hk.get Engine.sweepAt (fun _ => rfl)]; exact hhealth.points, by rw [hk.get Engine.groupAt (fun _ => rfl)]; exact hhealth.groups, ?_⟩
  unfold State.tickSeal
  dsimp only
  split
  · next h => exact h
  · rw [State.eng_updEng_self]

theorem State.tickSeal_totals (r : InRec) (h : (s.eng e).tickStage = 0) : ((s.tickSeal e r).eng e).totals = [] ∧ ((s.tickSeal e r).eng e).opened = [] := by
  obtain ⟨htotals, hopened⟩ := State.tickRefresh_totals r h
  have hk := (keeps_stage_health (s := s) (e := e) r).trans (keeps_stage_seal r)
  exact ⟨(hk.get Engine.totals (fun _ => rfl)).trans htotals, (hk.get Engine.opened (fun _ => rfl)).trans hopened⟩

/-- With everything before it done, a part of a TICK does nothing of that again. -/
theorem State.tickRefresh_done (r : InRec) (hp : 81920 ≤ (s.eng e).sweepAt) (hg : 256 ≤ (s.eng e).groupAt) (hk : 1 ≤ (s.eng e).tickStage) :
    s.tickRefresh e r = s := by
  have hpoints : s.sweptPoints e r = s := if_pos hp
  have hgroups : s.sweepGroups e r 256 = s := by
    unfold State.sweepGroups
    rw [hpoints]
    exact if_pos hg
  unfold State.tickRefresh
  rw [hgroups]
  exact if_pos hk

/-! ## The TICK's own values -/

/-- An engine but for its events and the TICK at hand. -/
def Engine.untimed (x : Engine) : Engine :=
  { x.eventless with lastTick := 0, tickRel := 1, tickCap := 0, tickQual := 0, tickEpoch := 0, opened := [], sweepAt := 0, groupAt := 0, tickStage := 0 }

/-- A TICK's values, as an engine takes them. -/
def Engine.tickTaken (x : Engine) (r : InRec) : Engine :=
  { x with lastTick := r.payload, tickRel := BitVec.ofNat 48 (leAt r.ext 0 8), tickCap := u32At r.ext 8, tickQual := BitVec.ofNat 3 (leAt r.ext 0xC 1),
           tickEpoch := BitVec.ofNat 6 (leAt r.ext 0xD 1), opened := [], sweepAt := 0, groupAt := 0, tickStage := 0 }

/-- A TICK at hand whose values are taken is not entered again. -/
theorem State.enterTick_taken (r : InRec) (h : (s.eng e).lastTick = r.payload) : s.enterTick e r = s := by
  unfold State.enterTick
  exact if_pos h

/-- A new TICK's values are taken, and only events come with them. -/
theorem State.enterTick_new (r : InRec) (h : (s.eng e).lastTick ≠ r.payload) :
    EvalKeeps Engine.eventless e (s.updEng e (fun x => x.tickTaken r)) (s.enterTick e r) := by
  unfold State.enterTick
  dsimp only
  rw [if_neg h]
  refine .ite (.refl _ _ _) ?_
  exact (keeps_putNode noEvents_eventless _).trans (keeps_countCustody noEvents_eventless r _)

theorem keeps_enterTick (r : InRec) : EvalKeeps Engine.untimed e s (s.enterTick e r) := by
  by_cases h : (s.eng e).lastTick = r.payload
  · rw [State.enterTick_taken r h]
    exact .refl _ _ _
  · have hupd : EvalKeeps Engine.untimed e s (s.updEng e (fun x => x.tickTaken r)) := EvalKeeps.updEng rfl
    exact hupd.trans ((State.enterTick_new r h).of_events (fun _ => rfl))

theorem State.lastTick_enterTick (r : InRec) : ((s.enterTick e r).eng e).lastTick = r.payload := by
  by_cases h : (s.eng e).lastTick = r.payload
  · rw [State.enterTick_taken r h]
    exact h
  · rw [(State.enterTick_new r h).get Engine.lastTick (fun _ => rfl), State.eng_updEng_self]
    rfl

theorem State.tickStage_enterTick (r : InRec) (h : (s.eng e).lastTick ≠ r.payload ∨ (s.eng e).tickStage = 0) : ((s.enterTick e r).eng e).tickStage = 0 := by
  by_cases hl : (s.eng e).lastTick = r.payload
  · rw [State.enterTick_taken r hl]
    exact h.resolve_left (fun hne => hne hl)
  · rw [(State.enterTick_new r hl).get Engine.tickStage (fun _ => rfl), State.eng_updEng_self]
    rfl

/-! ## A part of a TICK as a step of its own -/

/-- The engine at the TICK's own values. -/
def State.ticked (s : State) (e : EngineId) (r : InRec) : State := (s.runStart e r).enterTick e r

theorem State.inTick_eq {r : InRec} {f : InRec → State → State} (h : s.AtTick e r) : s.inTick e f = f r (s.ticked e r) := by
  obtain ⟨⟨hhead, hcrc⟩, hkind⟩ := h
  unfold State.inTick
  rw [hhead]
  dsimp only
  rw [if_neg (by rw [hkind]; decide), if_neg (by rw [hcrc]; decide)]
  rfl

/-- An engine but for its events and the TICK at hand, its run begun. -/
def Engine.tickBegun (x : Engine) : Engine := { x.untimed with runStarted := true }

theorem keeps_ticked (r : InRec) : EvalKeeps Engine.tickBegun e s (s.ticked e r) :=
  ((keeps_runStart r).coarser (fun _ => rfl)).trans ((keeps_enterTick r).coarser (fun _ => rfl))

theorem State.begun_ticked (r : InRec) : ((s.ticked e r).eng e).runStarted = true := by
  unfold State.ticked
  rw [(keeps_enterTick r).get Engine.runStarted (fun _ => rfl)]
  exact State.runStart_begun r

theorem State.ticked_at {r : InRec} (hl : (s.eng e).lastTick = r.payload) (hb : (s.eng e).runStarted = true) : s.ticked e r = s := by
  unfold State.ticked
  rw [State.runStart_of_begun r hb, State.enterTick_taken r hl]

/-- A part that keeps the TICK's values stays within the TICK. -/
theorem withinTick_of_keeps {r : InRec} (h : EvalKeeps Engine.ticking e (s.ticked e r) t) : WithinTick s t e r := by
  have hk := keeps_ticked (s := s) (e := e) r
  refine ⟨?_, ?_, ?_, h.inlet.trans hk.inlet, h.other_.trans hk.other_, h.tarn.trans hk.tarn⟩
  · rw [h.get Engine.lastTick (fun _ => rfl)]
    exact State.lastTick_enterTick r
  · rw [h.get Engine.runStarted (fun _ => rfl)]
    exact State.begun_ticked r
  · rw [h.get Engine.evalIsn (fun _ => rfl), hk.get Engine.evalIsn (fun _ => rfl)]

theorem WithinTick.of_fresh {r : InRec} (h : WithinTick s.fresh t e r) : WithinTick s t e r := ⟨h.taken, h.begun, h.isn, h.inlet, h.other_, h.tarn⟩

end Sys2Proof.Machine

/-! PROOFS. A TICK evaluated whole, and its periodic seal and health report (O16). -/

namespace Sys2Proof.Machine

variable {s t u : State} {e : EngineId}

/-- The end of a TICK's evaluation: how long it took, and when. -/
def State.tickEnded (s : State) (e : EngineId) : State :=
  let d := s.draw
  (d.2.recordMax (Reg.AE_SWEEP_MAX (engIx e)) (min 820000 (Config.freeSweep d.1).toNat)).updEng e (fun x => { x with tickAt := d.2.frcNat })

theorem State.onTick_eq (r : InRec) : s.onTick e r = ((s.enterTick e r).tickSeal e r).tickEnded e := rfl

theorem State.recordMax_parts (s : State) (o : Off) (n : Nat) : PartsBut s (s.recordMax o n) [.regs] := fun z hz =>
  same_of_foot [.regs] (fun _ _ => recordMax_foot _ _ _ (.refl s)) z hz

/-- The end notes the time in the engine, and a register beside the engine's counts. -/
theorem State.tickEnded_shown : (s.tickEnded e).eng e = { s.eng e with tickAt := s.frcNat } ∧ (s.tickEnded e).eng (other e) = s.eng (other e)
    ∧ (s.tickEnded e).tarn = s.tarn ∧ (s.tickEnded e).reg (Reg.AE_EVAL_CNT (engIx e)) = s.reg (Reg.AE_EVAL_CNT (engIx e)) := by
  unfold State.tickEnded
  dsimp only
  have hdraw : ∀ g, s.draw.2.eng g = s.eng g := fun g => State.eng_congr rfl rfl g
  have hfrc : s.draw.2.frcNat = s.frcNat := rfl
  have htarn : s.draw.2.tarn = s.tarn := rfl
  have hreg : s.draw.2.reg (Reg.AE_EVAL_CNT (engIx e)) = s.reg (Reg.AE_EVAL_CNT (engIx e)) := State.reg_congr rfl rfl _
  generalize s.draw.2 = v at hdraw hfrc htarn hreg
  have hparts := v.recordMax_parts (Reg.AE_SWEEP_MAX (engIx e)) (min 820000 (Config.freeSweep s.draw.1).toNat)
  have hregs := regsBut_recordMax v (Reg.AE_SWEEP_MAX (engIx e)) (min 820000 (Config.freeSweep s.draw.1).toNat)
  generalize v.recordMax (Reg.AE_SWEEP_MAX (engIx e)) (min 820000 (Config.freeSweep s.draw.1).toNat) = w at hparts hregs
  refine ⟨?_, ?_, ?_, ?_⟩
  · rw [State.eng_updEng_self, hparts.eng, hdraw, hfrc]
  · rw [State.eng_updEng_other, hparts.eng, hdraw]
  · rw [w.updEng_parts e _ .tarn (by decide), hparts .tarn (by decide), htarn]
  · rw [(regsBut_updEng w e _ []).all, hregs _ (by cases e <;> decide), hreg]

/-- What a TICK's evaluation leaves in its engine. -/
theorem State.onTick_shown (r : InRec) :
    ((s.onTick e r).eng e).lastTick = r.payload ∧ ((s.onTick e r).eng e).tickAt = s.frcNat
      ∧ TickSwept (s.onTick e r) e 3
      ∧ ((s.eng e).lastTick ≠ r.payload ∨ (s.eng e).tickStage = 0 → ((s.onTick e r).eng e).totals = [] ∧ ((s.onTick e r).eng e).opened = [])
      ∧ ((s.eng e).lastTick ≠ r.payload → ((s.onTick e r).eng e).tickRel = BitVec.ofNat 48 (leAt r.ext 0 8) ∧ ((s.onTick e r).eng e).tickCap = u32At r.ext 8
          ∧ ((s.onTick e r).eng e).tickQual = BitVec.ofNat 3 (leAt r.ext 0xC 1) ∧ ((s.onTick e r).eng e).tickEpoch = BitVec.ofNat 6 (leAt r.ext 0xD 1)) := by
  have henter := keeps_enterTick (s := s) (e := e) r
  have hseal := keeps_tickSeal (s := s.enterTick e r) (e := e) r
  have hswept := State.tickSeal_swept (s := s.enterTick e r) (e := e) r
  have htotals := fun h => State.tickSeal_totals (s := s.enterTick e r) (e := e) r h
  have hfrc : ((s.enterTick e r).tickSeal e r).frcNat = s.frcNat := by
    unfold State.frcNat
    rw [hseal.parts .ws (by decide), henter.parts .ws (by decide)]
  obtain ⟨hend, -, -, -⟩ := State.tickEnded_shown (s := (s.enterTick e r).tickSeal e r) (e := e)
  rw [State.onTick_eq]
  refine ⟨?_, ?_, ⟨?_, ?_, ?_⟩, fun h => ?_, fun h => ?_⟩
  · rw [hend]
    exact (hseal.get Engine.lastTick (fun _ => rfl)).trans (State.lastTick_enterTick r)
  · rw [hend]
    exact hfrc
  · rw [hend]
    exact hswept.points
  · rw [hend]
    exact hswept.groups
  · rw [hend]
    exact hswept.stage
  · rw [hend]
    exact htotals (State.tickStage_enterTick r h)
  · have hnew := State.enterTick_new (s := s) (e := e) r h
    have htaken := s.eng_updEng_self e (fun x => x.tickTaken r)
    rw [hend]
    refine ⟨?_, ?_, ?_, ?_⟩
    · exact (hseal.get Engine.tickRel (fun _ => rfl)).trans ((hnew.get Engine.tickRel (fun _ => rfl)).trans (congrArg Engine.tickRel htaken))
    · exact (hseal.get Engine.tickCap (fun _ => rfl)).trans ((hnew.get Engine.tickCap (fun _ => rfl)).trans (congrArg Engine.tickCap htaken))
    · exact (hseal.get Engine.tickQual (fun _ => rfl)).trans ((hnew.get Engine.tickQual (fun _ => rfl)).trans (congrArg Engine.tickQual htaken))
    · exact (hseal.get Engine.tickEpoch (fun _ => rfl)).trans ((hnew.get Engine.tickEpoch (fun _ => rfl)).trans (congrArg Engine.tickEpoch htaken))

theorem State.onTick_readied {r : InRec} (h : Readied s u e) : Readied s (u.onTick e r) e := by
  have henter := keeps_enterTick (s := u) (e := e) r
  have hseal := keeps_tickSeal (s := u.enterTick e r) (e := e) r
  obtain ⟨hend, hother, htarn, hcount⟩ := State.tickEnded_shown (s := (u.enterTick e r).tickSeal e r) (e := e)
  rw [State.onTick_eq]
  refine ⟨?_, ?_, ?_, ?_⟩
  · rw [hend]
    exact (hseal.get Engine.runStarted (fun _ => rfl)).trans ((henter.get Engine.runStarted (fun _ => rfl)).trans h.begun)
  · rw [hcount, hseal.count, henter.count, h.count]
  · rw [hother, hseal.other_, henter.other_, h.other_]
  · rw [htarn, hseal.tarn, henter.tarn, h.tarn]

/-! ## The periodic parts in their turn -/

/-- The seal of a TICK whose other parts are behind it. -/
theorem State.tickSeal_seals {r : InRec} (h : s.atStage e r 2) (hp : s.rfld Reg.CUST_CTL 0 16 ≠ 0)
    (hdue : r.tickNo % (1000 * s.rfld Reg.CUST_CTL 0 16) = 0) (hn : (s.eng e).custN ≠ 0) (hroom : 0 < (s.eng e).room) :
    ((s.tickSeal e r).eng e).custN = 0 ∧ ((s.tickSeal e r).eng e).sealNo = (s.eng e).sealNo + 1
      ∧ (s.tickSeal e r).queued e Ev.custodySeal nodeIndex (fun v => v.stOld = 1 ∧ v.stNew = BitVec.ofNat 8 (s.eng e).custN) := by
  obtain ⟨-, -, hpoints, hgroups, hstage⟩ := h
  have hdone : s.tickHealth e r = s := by
    unfold State.tickHealth
    rw [State.tickRefresh_done r hpoints hgroups (by omega)]
    exact if_pos (by omega)
  have hseal : s.tickSeal e r = (s.putSeal e r 1).updEng e (fun x => { x with tickStage := 3 }) := by
    unfold State.tickSeal State.sealTick
    rw [hdone]
    dsimp only
    rw [if_neg (by omega), if_pos (by simp [hp, hdue, hn])]
  obtain ⟨hcust, hno, hq⟩ := State.putSeal_sealed (s := s) (e := e) r 1 hroom
  rw [hseal]
  have heng := (s.putSeal e r 1).eng_updEng_self e (fun x => { x with tickStage := 3 })
  have hid : EvalKeeps Engine.ticking e (s.putSeal e r 1) ((s.putSeal e r 1).updEng e (fun x => { x with tickStage := 3 })) := EvalKeeps.updEng rfl
  exact ⟨by rw [heng]; exact hcust, by rw [heng]; exact hno, State.queued_congr hq (by rw [heng]) (by rw [heng]) (hid.sysId _)⟩

/-- The health report of a TICK that stands behind its refresh. -/
theorem State.tickHealth_reports {r : InRec} (h : s.atStage e r 1) (hp : s.rfld Reg.SKINK_CTL 16 16 ≠ 0)
    (hdue : r.tickNo % (1000 * s.rfld Reg.SKINK_CTL 16 16) = 0) (hroom : 0 < (s.eng e).room) :
    (s.tickHealth e r).queued e Ev.engineHealth nodeIndex (fun v => v.stNew = (s.eng e).stHolder ∧ v.stOld = (s.eng e).stSvc) := by
  obtain ⟨-, -, hpoints, hgroups, hstage⟩ := h
  have hhealth : s.tickHealth e r = (s.health e r false).updEng e (fun x => { x with tickStage := 2 }) := by
    unfold State.tickHealth State.healthTick
    rw [State.tickRefresh_done r hpoints hgroups (by omega)]
    dsimp only
    rw [if_neg (by omega), if_pos (by simp [hp, hdue])]
  have hq : (s.health e r false).queued e Ev.engineHealth nodeIndex (fun v => v.stNew = (s.eng e).stHolder ∧ v.stOld = (s.eng e).stSvc) :=
    State.putNode_queued hroom rfl rfl (fun _ => ⟨rfl, rfl⟩)
  rw [hhealth]
  have heng := (s.health e r false).eng_updEng_self e (fun x => { x with tickStage := 2 })
  have hid : EvalKeeps Engine.ticking e (s.health e r false) ((s.health e r false).updEng e (fun x => { x with tickStage := 2 })) := EvalKeeps.updEng rfl
  exact State.queued_congr hq (by rw [heng]) (by rw [heng]) (hid.sysId _)

/-! ## O16 -/

/-- Settles O16: the TICK evaluated within its frame, then each periodic part in its turn. -/
theorem tickRecords : Obligations.TickRecords := by
  unfold Obligations.TickRecords
  intro s e r h
  have hin : ∀ f, s.fresh.inTick e f = f r (s.fresh.ticked e r) := fun f => State.inTick_eq (s := s.fresh) h
  refine ⟨?_, ?_, ?_⟩
  · obtain ⟨⟨hhead, hcrc⟩, hkind⟩ := h
    have heq := State.evaluate_eq (s := s.fresh) (ok := fun r => r.kind == Kind.tick) (f := fun r s => s.onTick e r) hhead (beq_iff_eq.mpr hkind) hcrc
    have hstart := keeps_runStart (s := s.fresh) (e := e) r
    obtain ⟨hlast, hat, hswept, htotals, hvalues⟩ := State.onTick_shown (s := s.fresh.runStart e r) (e := e) r
    have hfrc : (s.fresh.runStart e r).frcNat = s.frcNat := by
      unfold State.frcNat
      rw [hstart.parts .ws (by decide)]
      rfl
    have hlast0 : ((s.fresh.runStart e r).eng e).lastTick = (s.eng e).lastTick := hstart.get Engine.lastTick (fun _ => rfl)
    have hstage0 : ((s.fresh.runStart e r).eng e).tickStage = (s.eng e).tickStage := hstart.get Engine.tickStage (fun _ => rfl)
    refine ⟨_, congrArg Host.Outcome.next heq, (State.onTick_readied (State.runStart_readied (s := s.fresh) r)).evaluated.of_fresh, ?_⟩
    rw [State.evaluated_own]
    rw [hlast0, hstage0] at htotals
    rw [hlast0] at hvalues
    exact ⟨hlast, hat.trans hfrc, hswept.points, hswept.groups, hswept.stage, htotals, hvalues⟩
  · refine ⟨_, congrArg Host.Outcome.next (hin _), (withinTick_of_keeps (keeps_tickSeal r)).of_fresh, (State.tickSeal_swept r).stage, fun hp hdue hn hst hroom => ?_⟩
    rw [State.ticked_at (s := s.fresh) hst.1 hst.2.1]
    exact State.tickSeal_seals (s := s.fresh) hst hp hdue hn hroom
  · refine ⟨_, congrArg Host.Outcome.next (hin _), (withinTick_of_keeps (keeps_tickHealth r)).of_fresh, (State.tickHealth_swept r).stage, fun hp hdue hst hroom => ?_⟩
    rw [State.ticked_at (s := s.fresh) hst.1 hst.2.1]
    exact State.tickHealth_reports (s := s.fresh) hst hp hdue hroom

end Sys2Proof.Machine

/-! PROOFS. Which records of a configuration region the sweeps visit: those that hold a byte other than 0, each once, in ascending order (R214, R252). -/

namespace Sys2Proof.Machine

/-! ## The cells of a region -/

theorem Sparse.le_of_mem_rising {α : Type} {l : Sparse α} {lo : Nat} (h : Sparse.rising lo l = true) : ∀ c ∈ l, lo ≤ c.1 := by
  induction l generalizing lo with
  | nil => simp
  | cons c l ih =>
    obtain ⟨k, v⟩ := c
    simp only [Sparse.rising, Bool.and_eq_true, decide_eq_true_eq] at h
    intro x hx
    rcases List.mem_cons.1 hx with rfl | hx
    · exact h.1
    · exact Nat.le_trans h.1 (Nat.le_of_succ_le (ih h.2 x hx))

/-- Rising keys, as a list in order. -/
theorem Sparse.sorted_of_rising {α : Type} {l : Sparse α} {lo : Nat} (h : Sparse.rising lo l = true) : l.Pairwise (fun a b => a.1 ≤ b.1) := by
  induction l generalizing lo with
  | nil => exact .nil
  | cons c l ih =>
    obtain ⟨k, v⟩ := c
    simp only [Sparse.rising, Bool.and_eq_true, decide_eq_true_eq] at h
    exact List.pairwise_cons.2 ⟨fun x hx => Nat.le_of_succ_le (Sparse.le_of_mem_rising h.2 x hx), ih h.2⟩

/-- A key that reads other than an unlisted one has its cell. -/
theorem Sparse.mem_of_get {α : Type} [DecidableEq α] {d : α} {l : Sparse α} {i : Nat} (h : Sparse.get d l i ≠ d) : ∃ v, (i, v) ∈ l := by
  induction l with
  | nil => exact absurd rfl h
  | cons c l ih =>
    obtain ⟨k, v⟩ := c
    simp only [Sparse.get] at h
    split at h
    · next hk => exact ⟨v, by subst hk; exact List.mem_cons_self⟩
    · obtain ⟨w, hw⟩ := ih h
      exact ⟨w, List.mem_cons_of_mem _ hw⟩

/-- The cells before the end of a region, where the keys rise. -/
theorem mem_takeWhile_of_sorted {α : Type} {l : Sparse α} (h : l.Pairwise (fun a b => a.1 ≤ b.1)) {n : Nat} {c : Nat × α} (hc : c ∈ l) (hn : c.1 < n) :
    c ∈ l.takeWhile (fun c => decide (c.1 < n)) := by
  induction l with
  | nil => exact absurd hc List.not_mem_nil
  | cons a l ih =>
    obtain ⟨ha, hl⟩ := List.pairwise_cons.1 h
    rcases List.mem_cons.1 hc with rfl | hmem
    · simp [hn]
    · have han : a.1 < n := Nat.lt_of_le_of_lt (ha c hmem) hn
      simp [han, ih hl hmem]

/-! ## Their indices, each once -/

/-- Indices of cells gathered, an index that repeats the last one left out. -/
def gathered (acc : List Nat) (l : List Nat) : List Nat := l.foldl (fun acc i => if acc.head? = some i then acc else i :: acc) acc

/-- Of indices in order, each is gathered once. -/
theorem gathered_distinct (l acc : List Nat) (hl : l.Pairwise (· ≤ ·)) (hacc : acc.Pairwise (· > ·)) (hle : ∀ a ∈ acc, ∀ i ∈ l, a ≤ i) :
    (gathered acc l).Nodup ∧ ∀ i, i ∈ acc ∨ i ∈ l → i ∈ gathered acc l := by
  induction l generalizing acc with
  | nil =>
    refine ⟨hacc.imp (fun h => Nat.ne_of_gt h), fun i hi => ?_⟩
    rcases hi with hi | hi
    · exact hi
    · exact absurd hi List.not_mem_nil
  | cons j l ih =>
    obtain ⟨hj, hl⟩ := List.pairwise_cons.1 hl
    have hrest : ∀ a ∈ acc, ∀ i ∈ l, a ≤ i := fun a ha i hi => hle a ha i (List.mem_cons_of_mem _ hi)
    by_cases hhead : acc.head? = some j
    · have hstep : gathered acc (j :: l) = gathered acc l := by
        unfold gathered
        rw [List.foldl_cons, if_pos hhead]
      rw [hstep]
      refine ⟨(ih acc hl hacc hrest).1, fun i hi => (ih acc hl hacc hrest).2 i ?_⟩
      rcases hi with hi | hi
      · exact .inl hi
      · rcases List.mem_cons.1 hi with rfl | hi
        · exact .inl (List.mem_of_mem_head? hhead)
        · exact .inr hi
    · have hstep : gathered acc (j :: l) = gathered (j :: acc) l := by
        unfold gathered
        rw [List.foldl_cons, if_neg hhead]
      have hlt : ∀ a ∈ acc, a < j := by
        intro a ha
        have haj := hle a ha j List.mem_cons_self
        cases acc with
        | nil => exact absurd ha List.not_mem_nil
        | cons b acc =>
          have hbj := hle b List.mem_cons_self j List.mem_cons_self
          have hne : b ≠ j := fun k => hhead (by rw [k]; rfl)
          rcases List.mem_cons.1 ha with rfl | hmem
          · omega
          · have := (List.pairwise_cons.1 hacc).1 a hmem
            omega
      have hgo := ih (j :: acc) hl (List.pairwise_cons.2 ⟨hlt, hacc⟩) (fun a ha i hi => by
        rcases List.mem_cons.1 ha with rfl | ha
        · exact hj i hi
        · exact hrest a ha i hi)
      rw [hstep]
      refine ⟨hgo.1, fun i hi => hgo.2 i ?_⟩
      rcases hi with hi | hi
      · exact .inl (List.mem_cons_of_mem _ hi)
      · rcases List.mem_cons.1 hi with rfl | hi
        · exact .inl List.mem_cons_self
        · exact .inr hi

variable {s : State}

/-- The cells of a region of `n` records of `size` bytes. -/
def State.regionCells (s : State) (base size n : Nat) : Sparse Byte :=
  (Sparse.dropBelow s.tarn base).takeWhile (fun c => decide (c.1 < base + size * n))

theorem State.listed_eq (base size n : Nat) :
    s.listed base size n = (gathered [] ((s.regionCells base size n).map (fun c => (c.1 - base) / size))).reverse := by
  unfold gathered
  rw [List.foldl_map]
  rfl

/-- The indices listed of a region differ, and a record with a byte other than 0 is among them. -/
theorem State.listed_distinct (base size n : Nat) (h : Sparse.wf 0 s.tarn = true) :
    (s.listed base size n).Nodup ∧ ∀ i, i < n → (∃ b ∈ s.tarnRead (base + size * i) size, b ≠ 0) → i ∈ s.listed base size n := by
  have hrising : Sparse.rising 0 s.tarn = true := Sparse.wfFrom_rising _ h
  have hsorted : (Sparse.dropBelow s.tarn base).Pairwise (fun a b => a.1 ≤ b.1) := Sparse.sorted_of_rising (Sparse.dropBelow_rising _ base hrising)
  have hcells : (s.regionCells base size n).Pairwise (fun a b => a.1 ≤ b.1) := hsorted.sublist (List.takeWhile_sublist _)
  obtain ⟨hnodup, hmem⟩ := gathered_distinct ((s.regionCells base size n).map (fun c => (c.1 - base) / size)) []
    (List.pairwise_map.2 (hcells.imp (fun hab => Nat.div_le_div_right (Nat.sub_le_sub_right hab base)))) .nil (fun a ha => absurd ha List.not_mem_nil)
  rw [State.listed_eq]
  refine ⟨List.nodup_reverse.2 hnodup, fun i hi hbyte => List.mem_reverse.2 (hmem i (.inr ?_))⟩
  obtain ⟨b, hb, hne⟩ := hbyte
  unfold State.tarnRead at hb
  rw [Sparse.read_eq 0 s.tarn _ _ hrising] at hb
  obtain ⟨k, hk, hget⟩ := List.mem_map.1 hb
  have hk := List.mem_range.1 hk
  have hbelow : base + size * i + k < base + size * n := by
    have : size * (i + 1) ≤ size * n := Nat.mul_le_mul_left size hi
    rw [Nat.mul_add] at this
    omega
  rw [← Sparse.get_dropBelow 0 s.tarn (show base ≤ base + size * i + k by omega)] at hget
  obtain ⟨v, hv⟩ := Sparse.mem_of_get (d := (0 : Byte)) (by rw [hget]; exact hne)
  refine List.mem_map.2 ⟨_, mem_takeWhile_of_sorted hsorted hv hbelow, ?_⟩
  show (base + size * i + k - base) / size = i
  rw [show base + size * i + k - base = k + size * i by omega, Nat.add_mul_div_left _ _ (by omega), Nat.div_eq_of_lt hk, Nat.zero_add]

/-- Of indices that differ, those of a window of one place are that place's. -/
theorem filter_window {l : List Nat} (hl : l.Nodup) {p : Nat} (hp : p ∈ l) : l.filter (fun q => decide (p ≤ q) && decide (q < p + 1)) = [p] := by
  have hwin : (fun q => decide (p ≤ q) && decide (q < p + 1)) = (fun q => q == p) := by
    funext q
    rw [Bool.eq_iff_iff, Bool.and_eq_true, decide_eq_true_eq, decide_eq_true_eq, beq_iff_eq]
    omega
  rw [hwin, List.filter_beq, List.count_eq_one_of_mem hl hp]
  rfl

/-! ## A record that says anything holds a byte other than 0 -/

theorem mem_of_mem_patch_zeros {l : List Byte} {k n : Nat} {b : Byte} (hb : b ∈ patch l k (zeros n)) (hne : b ≠ 0) : b ∈ l := by
  unfold patch zeros at hb
  rcases List.mem_append.1 hb with hb | hb
  · rcases List.mem_append.1 hb with hb | hb
    · exact List.mem_of_mem_take hb
    · exact absurd (List.eq_of_mem_replicate hb) hne
  · exact List.mem_of_mem_drop hb

/-- What a reader of configuration sees other than 0 stands in Tarn. -/
theorem State.mem_tarnRead_of_see {o n : Nat} {b : Byte} (hb : b ∈ s.tarnSee o n) (hne : b ≠ 0) : b ∈ s.tarnRead o n := by
  have hfold : ∀ (ws : List Nat) (l : List Byte), b ∈ ws.foldl (fun l w => patch l (w - o) (zeros 8)) l → b ∈ l := by
    intro ws
    induction ws with
    | nil => exact fun l h => h
    | cons w ws ih => exact fun l h => mem_of_mem_patch_zeros (ih _ h) hne
  exact hfold _ _ hb

theorem leNat_eq_zero {l : List Byte} (h : ∀ b ∈ l, b = 0) : leNat l = 0 := by
  induction l with
  | nil => rfl
  | cons b l ih =>
    unfold leNat
    rw [ih (fun c hc => h c (List.mem_cons_of_mem _ hc)), h b List.mem_cons_self]
    rfl

theorem exists_byte_of_u32At {l : List Byte} {o : Nat} (h : u32At l o ≠ 0) : ∃ b ∈ l, b ≠ 0 := by
  by_contra hall
  push Not at hall
  exact h (congrArg (BitVec.ofNat 32) (leNat_eq_zero (l := slice l o 4) (fun b hb => hall b (List.mem_of_mem_drop (List.mem_of_mem_take hb)))))

/-- The record of size `size` whose ENABLE, bit 0 of its first word, is set has its place in the sweep. -/
theorem State.listed_window {base size n i m : Nat} (h : Sparse.wf 0 s.tarn = true) (hi : i < n) (hm : m ≤ size)
    (hon : bitAt (u32At (s.tarnSee (base + size * i) m) 0) 0 = true) :
    (s.listed base size n).filter (fun q => decide (i ≤ q) && decide (q < i + 1)) = [i] := by
  obtain ⟨hnodup, hmem⟩ := State.listed_distinct (s := s) base size n h
  have hword : u32At (s.tarnSee (base + size * i) m) 0 ≠ 0 := by
    intro hz
    rw [hz] at hon
    exact absurd hon (by decide)
  obtain ⟨b, hb, hne⟩ := exists_byte_of_u32At hword
  have hread : b ∈ s.tarnRead (base + size * i) size := by
    have hrising : Sparse.rising 0 s.tarn = true := Sparse.wfFrom_rising _ h
    have hshort := State.mem_tarnRead_of_see hb hne
    unfold State.tarnRead at hshort ⊢
    rw [Sparse.read_eq 0 s.tarn _ _ hrising] at hshort ⊢
    exact (List.map_subset _ (List.range_subset.2 hm)) hshort
  exact filter_window hnodup (hmem i hi ⟨b, hread, hne⟩)

/-- An enabled point is visited by a TICK, once. -/
theorem State.points_window {p : Nat} (h : Sparse.wf 0 s.tarn = true) (hp : p < 81920) (hon : (s.pcfg p).on = true) :
    s.points.filter (fun q => decide (p ≤ q) && decide (q < p + 1)) = [p] := by
  unfold PCfg.on at hon
  exact State.listed_window h hp (Nat.le_refl _) (Bool.and_eq_true _ _ ▸ hon).2

/-- An enabled group is swept by a TICK, once. -/
theorem State.groups_window {g : Nat} (h : Sparse.wf 0 s.tarn = true) (hg : g < 256) (hon : (s.gcfg g).enable = true) :
    s.groups.filter (fun q => decide (g ≤ q) && decide (q < g + 1)) = [g] :=
  State.listed_window h hg (by decide) hon

/-! ## One visit -/

variable {e : EngineId}

theorem State.sweepPoints_one (r : InRec) {p : Nat} (h : Sparse.wf 0 s.tarn = true) (hp : p < 81920) (hon : (s.pcfg p).on = true) (hat : (s.eng e).sweepAt = p) :
    s.sweepPoints e r (p + 1) = (s.sweepPoint e r r.payload.toNat p).updEng e (fun x => { x with sweepAt := p + 1 }) := by
  unfold State.sweepPoints
  rw [if_neg (by rw [hat]; omega), hat, State.points_window h hp hon]
  rfl

theorem State.sweepGroups_one (r : InRec) {g : Nat} (h : Sparse.wf 0 s.tarn = true) (hg : g < 256) (hon : (s.gcfg g).enable = true)
    (hp : 81920 ≤ (s.eng e).sweepAt) (hat : (s.eng e).groupAt = g) :
    s.sweepGroups e r (g + 1) = (s.sweepGroup e r r.payload.toNat g).updEng e (fun x => { x with groupAt := g + 1 }) := by
  have hswept : s.sweptPoints e r = s := if_pos hp
  unfold State.sweepGroups
  rw [hswept]
  dsimp only
  rw [if_neg (by rw [hat]; omega), hat, State.groups_window h hg hon]
  rfl

end Sys2Proof.Machine

/-! PROOFS. A TICK's visit of one point, step by step: what each leaves in the point's record (R214, R219, R222, R228, R230). -/

namespace Sys2Proof.Machine

/-! ## What the steps before BLOCKED and SHELVED leave of both -/

/-- BLOCKED and SHELVED stand with their timers; that of a shelving at its last count stays there. -/
structure PtAwaits (x y : PtState) : Prop where
  blockTimer : y.blockTimer = x.blockTimer
  blocked : y.has Sub.blocked = x.has Sub.blocked
  shelved : y.has Sub.shelved = x.has Sub.shelved
  last : x.has Sub.shelved = true → x.timer.toNat ≤ 1 → y.timer.toNat ≤ 1

theorem PtAwaits.refl (x : PtState) : PtAwaits x x := ⟨rfl, rfl, rfl, fun _ h => h⟩

theorem PtAwaits.trans {x y z : PtState} (h : PtAwaits x y) (k : PtAwaits y z) : PtAwaits x z :=
  ⟨k.blockTimer.trans h.blockTimer, k.blocked.trans h.blocked, k.shelved.trans h.shelved, fun hs ht => k.last (h.shelved.trans hs) (h.last hs ht)⟩

theorem PtShows.awaits {x y : PtState} (h : PtShows x y) : PtAwaits x y :=
  ⟨h.blockTimer, h.has _ (by decide), h.has _ (by decide), fun _ ht => by rw [h.timer]; exact ht⟩

theorem PtAwaits.mark (x : PtState) {i : Nat} (b : Bool) (hb : i ≠ Sub.blocked := by decide) (hs : i ≠ Sub.shelved := by decide) (hi : i < 16 := by decide) :
    PtAwaits x (x.mark i b) := ⟨rfl, x.has_mark_ne b (Ne.symm hb) hi, x.has_mark_ne b (Ne.symm hs) hi, fun _ h => h⟩

theorem PtAwaits.setRun (x : PtState) (n : Nat) : PtAwaits x (x.setRun n) := ⟨rfl, x.has_setRun n, x.has_setRun n, fun _ h => h⟩

theorem PtState.clearPend_awaits (x : PtState) : PtAwaits x x.clearPend := by
  obtain ⟨-, -, -, hblock, -, -, hhas, -⟩ := x.clearPend_shown
  refine ⟨hblock, hhas _ (by decide) (by decide), hhas _ (by decide) (by decide), fun hs ht => ?_⟩
  unfold PtState.clearPend
  dsimp only
  rw [if_pos hs]
  exact ht

theorem PtState.enter_awaits (c : PCfg) (x : PtState) (t : Byte) : PtAwaits x (x.enter c t).1 := by
  obtain ⟨-, -, -, htimer, hblock, hhas, -⟩ := x.enter_shown c t
  exact ⟨hblock, hhas _ (by decide), hhas _ (by decide), fun _ ht => by rw [htimer]; exact ht⟩

/-- A threshold step starts no delay at a shelved point. -/
theorem PCfg.towards_awaits (c : PCfg) (x : PtState) (t : Byte) : PtAwaits x (c.towards x t).pt := by
  unfold PCfg.towards
  extract_lets on d y
  generalize x.has (if on = true then Sub.pendOn else Sub.pendOff) = pending
  clear_value d on
  split
  · exact x.clearPend_awaits
  · split
    · exact x.clearPend_awaits
    · next hfree =>
      have hsh : x.has Sub.shelved = false := by
        rw [Bool.or_eq_true, not_or] at hfree
        exact Bool.not_eq_true _ ▸ hfree.2
      split
      · exact x.clearPend_awaits
      · split
        · exact .refl x
        · have hy : PtAwaits x y := (PtAwaits.mark x on).trans (PtAwaits.mark _ (i := Sub.pendOff) (!on))
          exact ⟨hy.blockTimer, hy.blocked, hy.shelved, fun hs _ => absurd (hs.symm.trans hsh) (by decide)⟩

theorem PCfg.usable_awaits (c : PCfg) (x : PtState) (v : F32) : PtAwaits x (c.usable x v).pt := by
  have hy : PtAwaits x { (x.mark Sub.settling false).setRun 0 with value := v } := by
    have h := (PtAwaits.mark x (i := Sub.settling) false).trans (PtAwaits.setRun _ 0)
    exact ⟨h.blockTimer, h.blocked, h.shelved, h.last⟩
  unfold PCfg.usable
  dsimp only
  split
  · split
    · exact ⟨hy.blockTimer, hy.blocked, hy.shelved, hy.last⟩
    · exact hy
  · exact hy.trans (c.towards_awaits _ _)

variable {s t u : State} {e : EngineId} {p : Nat}

/-- One point's record awaits its BLOCKED and SHELVED, and no other changes. -/
structure Awaits (s t : State) (e : EngineId) (p : Nat) : Prop where
  self : PtAwaits (s.pt e p) (t.pt e p)
  others : ∀ q, q ≠ p → t.pt e q = s.pt e q

theorem Awaits.refl (s : State) (e : EngineId) (p : Nat) : Awaits s s e p := ⟨.refl _, fun _ _ => rfl⟩

theorem Awaits.trans (h : Awaits s t e p) (k : Awaits t u e p) : Awaits s u e p := ⟨h.self.trans k.self, fun q hq => (k.others q hq).trans (h.others q hq)⟩

theorem State.awaits_setPt (r : InRec) {y : PtState} (h : PtAwaits (s.pt e p) y) : Awaits s (s.setPt e r p y) e p :=
  ⟨h.trans (State.pt_setPt_self r p y).awaits, fun _ hq => State.pt_setPt_ne r hq y⟩

theorem State.awaits_moveTo (r : InRec) (c : PCfg) {x : PtState} (t : Byte) (h : PtAwaits (s.pt e p) x) : Awaits s (s.moveTo e r p c x t) e p := by
  refine ⟨?_, fun _ hq => State.pt_moveTo_ne r c x t hq⟩
  cases hheld : s.eccHeld e p with
  | false => exact h.trans ((x.enter_awaits c t).trans (State.pt_moveTo r p c x t hheld).1.awaits)
  | true =>
    unfold State.moveTo
    dsimp only
    rw [if_pos hheld]
    exact .refl _

theorem State.awaits_decide (r : InRec) (c : PCfg) {d : Decision} (h : PtAwaits (s.pt e p) d.pt) : Awaits s (s.decide_ e r p c d).1 e p := by
  obtain ⟨x, move, started⟩ := d
  cases move with
  | none => exact State.awaits_setPt r h
  | some t => exact State.awaits_moveTo r c t h

theorem State.awaits_sweepNotice (r : InRec) (prio : Nat) (custody : Bool) : Awaits s (s.sweepNotice e r p prio custody) e p := by
  obtain ⟨hshown, hne⟩ := State.pt_sweepNotice (s := s) (e := e) r p prio custody
  exact ⟨hshown.awaits, hne⟩

theorem State.awaits_applyInput (r : InRec) (c : PCfg) (i : PtInput) : Awaits s (s.applyInput e r p c i).1 e p := by
  have hbad : PtAwaits (s.pt e p) (((s.pt e p).mark Sub.settling false).setRun ((s.pt e p).faultRun + 1)) :=
    (PtAwaits.mark _ (i := Sub.settling) false).trans (PtAwaits.setRun _ _)
  unfold State.applyInput
  dsimp only
  split
  · exact State.awaits_setPt r (PtAwaits.mark _ (i := Sub.settling) true)
  · split
    · split
      · exact State.awaits_moveTo r c _ (hbad.trans (PtState.clearPend_awaits _))
      · exact State.awaits_setPt r hbad
    · exact State.awaits_decide r c (c.usable_awaits _ _)

theorem State.awaits_derivedStep (r : InRec) (c : PCfg) : Awaits s (s.derivedStep e r p c).1 e p := by
  unfold State.derivedStep
  split
  · exact State.awaits_applyInput r c _
  · exact .refl _ _ _

theorem State.awaits_rateStep (r : InRec) (c : PCfg) : Awaits s (s.rateStep e r p c).1 e p := by
  have hprev : PtAwaits (s.pt e p) { s.pt e p with prev := (s.pt e p).value } := ⟨rfl, rfl, rfl, fun _ h => h⟩
  unfold State.rateStep
  dsimp only
  split
  · exact .refl _ _ _
  · exact State.awaits_decide r c (hprev.trans (c.towards_awaits _ _))

theorem State.awaits_rateCount (r : InRec) (c : PCfg) (tick : Nat) : Awaits s (s.rateCount e r p c tick).1 e p := by
  unfold State.rateCount
  split
  · exact State.awaits_rateStep r c
  · exact .refl _ _ _

theorem State.awaits_delayTick (r : InRec) (c : PCfg) : Awaits s (s.delayTick e r p c) e p := by
  have hy : PtAwaits (s.pt e p) { (s.pt e p).clearPend with timer := 0 } := by
    have h := (s.pt e p).clearPend_awaits
    exact ⟨h.blockTimer, h.blocked, h.shelved, fun _ _ => Nat.zero_le 1⟩
  unfold State.delayTick
  dsimp only
  split
  · next hlt => exact State.awaits_setPt r ⟨rfl, rfl, rfl, fun _ h => absurd hlt (Nat.not_lt.2 h)⟩
  · split
    · exact State.awaits_setPt r hy
    · exact State.awaits_moveTo r c _ hy

theorem State.awaits_delayCount (r : InRec) (c : PCfg) (tick : Nat) (started : Bool) : Awaits s (s.delayCount e r p c tick started) e p := by
  unfold State.delayCount
  split
  · exact State.awaits_delayTick r c
  · exact .refl _ _ _

/-! ## A visit in two halves -/

/-- A visit up to its delay: the notice, the derived input, the rate and the delay. -/
def State.counted (s : State) (e : EngineId) (r : InRec) (tick p : Nat) : State :=
  let c := s.pcfg p
  let n := s.sweepNotice e r p c.prio c.custody
  let a := n.derivedStep e r p c
  let b := a.1.rateCount e r p c tick
  b.1.delayCount e r p c tick (a.2 || b.2)

theorem State.sweepPoint_halves {r : InRec} {tick : Nat} (hon : (s.pcfg p).on = true) (hok : (s.pcfg p).valid p = true) :
    s.sweepPoint e r tick p = (((s.counted e r tick p).blockStep e r p (s.pcfg p) tick).shelveCount e r p (s.pcfg p) tick).totalled e p (s.pcfg p) :=
  State.sweepPoint_on hon hok

theorem State.awaits_counted (r : InRec) (tick : Nat) : Awaits s (s.counted e r tick p) e p :=
  (State.awaits_sweepNotice r _ _).trans ((State.awaits_derivedStep r _).trans ((State.awaits_rateCount r _ tick).trans (State.awaits_delayCount r _ tick _)))

theorem State.pt_totalled (c : PCfg) (q : Nat) : (s.totalled e p c).pt e q = s.pt e q := by
  unfold State.totalled State.pt
  rw [State.eng_updEng_self]
  rfl

/-! ## The block and the shelving -/

/-- STATE, VALUE, the rate's last value and the flags but those named stand. -/
structure PtLeaves (flags : List Nat) (x y : PtState) : Prop where
  state : y.state = x.state
  value : y.value = x.value
  prev : y.prev = x.prev
  has : ∀ i, i ∉ flags → y.has i = x.has i

theorem PtLeaves.refl (l : List Nat) (x : PtState) : PtLeaves l x x := ⟨rfl, rfl, rfl, fun _ _ => rfl⟩

theorem PtLeaves.trans {l : List Nat} {x y z : PtState} (h : PtLeaves l x y) (k : PtLeaves l y z) : PtLeaves l x z :=
  ⟨k.state.trans h.state, k.value.trans h.value, k.prev.trans h.prev, fun i hi => (k.has i hi).trans (h.has i hi)⟩

theorem PtLeaves.mono {l m : List Nat} {x y : PtState} (h : PtLeaves l x y) (hlm : l ⊆ m) : PtLeaves m x y :=
  ⟨h.state, h.value, h.prev, fun i hi => h.has i (fun k => hi (hlm k))⟩

theorem PtShows.leaves {l : List Nat} {x y : PtState} (h : PtShows x y) (hl : Sub.unreported ∈ l := by decide) : PtLeaves l x y :=
  ⟨h.state, h.value, h.prev, fun i hi => h.has i (fun k => hi (k ▸ hl))⟩

theorem PtLeaves.mark {l : List Nat} (x : PtState) {i : Nat} (b : Bool) (hl : i ∈ l := by decide) (hi : i < 16 := by decide) : PtLeaves l x (x.mark i b) :=
  ⟨rfl, rfl, rfl, fun _ hj => x.has_mark_ne b (fun k => hj (k ▸ hl)) hi⟩

theorem PtState.unackIfAlarm_leaves {l : List Nat} (c : PCfg) (x : PtState) (hl : Sub.unacked ∈ l := by decide) : PtLeaves l x (x.unackIfAlarm c).1 := by
  obtain ⟨hstate, -, hvalue, hprev, hhas⟩ := x.unackIfAlarm_shown c
  exact ⟨hstate, hvalue, hprev, fun i hi => hhas i (fun k => hi (k ▸ hl))⟩

/-- The flags that a block's step changes. -/
def blockFlags : List Nat := [Sub.blocked, Sub.unacked, Sub.unreported]

/-- The flags that a shelving's end changes. -/
def shelveFlags : List Nat := [Sub.shelved, Sub.unacked, Sub.unreported]

theorem State.pt_endBlock (r : InRec) (c : PCfg) :
    PtLeaves blockFlags (s.pt e p) ((s.endBlock e r p c).pt e p) ∧ ((s.endBlock e r p c).pt e p).timer = (s.pt e p).timer
      ∧ ((s.endBlock e r p c).pt e p).has Sub.blocked = false := by
  obtain ⟨-, htimer, -, -, hhas⟩ := ((s.pt e p).mark Sub.blocked false).unackIfAlarm_shown c
  have hleaves : PtLeaves blockFlags (s.pt e p) (((s.pt e p).mark Sub.blocked false).unackIfAlarm c).1 :=
    (PtLeaves.mark _ (i := Sub.blocked) false).trans (PtState.unackIfAlarm_leaves c _)
  have hshown := (State.pt_report (s := s) (e := e) r p c (((s.pt e p).mark Sub.blocked false).unackIfAlarm c).1 (s.pt e p).state
    (((s.pt e p).mark Sub.blocked false).unackIfAlarm c).2).1
  exact ⟨hleaves.trans hshown.leaves, hshown.timer.trans htimer, (hshown.has _ (by decide)).trans ((hhas _ (by decide)).trans (PtState.has_mark_self _ _))⟩

/-- A block's step leaves the record but for what BLOCKED is of. -/
theorem State.pt_blockStep (r : InRec) (c : PCfg) (tick : Nat) :
    PtLeaves blockFlags (s.pt e p) ((s.blockStep e r p c tick).pt e p) ∧ ((s.blockStep e r p c tick).pt e p).timer = (s.pt e p).timer := by
  have hset : ∀ n, PtLeaves blockFlags (s.pt e p) ((s.setPt e r p { s.pt e p with blockTimer := n }).pt e p)
      ∧ ((s.setPt e r p { s.pt e p with blockTimer := n }).pt e p).timer = (s.pt e p).timer := by
    intro n
    have hshown := State.pt_setPt_self (s := s) (e := e) r p { s.pt e p with blockTimer := n }
    exact ⟨PtLeaves.trans (y := { s.pt e p with blockTimer := n }) ⟨rfl, rfl, rfl, fun _ _ => rfl⟩ hshown.leaves, hshown.timer⟩
  unfold State.blockStep
  extract_lets x y z w n v
  split
  · split
    · exact ⟨(State.pt_endBlock r c).1, (State.pt_endBlock r c).2.1⟩
    · exact ⟨.refl _ _, rfl⟩
  · split
    · split
      · exact hset _
      · have hz : PtLeaves blockFlags (s.pt e p) z := PtLeaves.trans (y := y) ⟨rfl, rfl, rfl, fun _ _ => rfl⟩ (PtLeaves.mark y (i := Sub.blocked) true)
        have hw : PtLeaves blockFlags (s.pt e p) w ∧ w.timer = (s.pt e p).timer := by
          unfold w
          split
          · exact ⟨hz, rfl⟩
          · exact ⟨hz.trans (PtLeaves.mark z (i := Sub.unacked) false), rfl⟩
        have hshown := (State.pt_report (s := s) (e := e) r p c w y.state false).1
        exact ⟨hw.1.trans hshown.leaves, hshown.timer.trans hw.2⟩
    · obtain ⟨hleaves, htimer⟩ := hset n
      split
      · obtain ⟨hend, hendTimer, -⟩ := State.pt_endBlock (s := v) (e := e) (p := p) r c
        exact ⟨hleaves.trans hend, hendTimer.trans htimer⟩
      · exact ⟨hleaves, htimer⟩

/-- A block ends once its condition is over and its delay counted (R228). -/
theorem State.blockStep_ends (r : InRec) (c : PCfg) {tick : Nat} (hb : (s.pt e p).has Sub.blocked = true)
    (hdue : (s.pt e p).blockTimer = 0 ∨ ((s.pt e p).blockTimer = 1 ∧ tick % 1000 = 0)) (hquiet : s.sourceQuiet e c.blockSrc) :
    ((s.blockStep e r p c tick).pt e p).has Sub.blocked = false := by
  unfold State.blockStep
  extract_lets x y z w n v
  split
  · exact (State.pt_endBlock r c).2.2
  · next hsrc =>
    have hcond := hquiet.resolve_left hsrc
    have hn : n = 0 := by
      unfold n
      rcases hdue with h | ⟨h, ht⟩
      · rw [show x.blockTimer = 0 from h, if_neg (by simp)]
      · rw [show x.blockTimer = 1 from h, show x.has Sub.blocked = true from hb, ht]
        decide
    rw [if_neg (by rw [hcond]; decide), if_pos (by rw [hb, hn]; decide)]
    exact (State.pt_endBlock r c).2.2

/-- The end of a shelving, and the count towards it. -/
theorem State.pt_endShelve_leaves (r : InRec) (c : PCfg) : PtLeaves shelveFlags (s.pt e p) ((s.endShelve e r p c).pt e p) := by
  have hmark : PtLeaves shelveFlags (s.pt e p) { (s.pt e p).mark Sub.shelved false with timer := 0 } :=
    (PtLeaves.mark (s.pt e p) (i := Sub.shelved) false).trans ⟨rfl, rfl, rfl, fun _ _ => rfl⟩
  have hleaves := hmark.trans (PtState.unackIfAlarm_leaves (c.read p) _)
  exact hleaves.trans (State.pt_report (s := s) (e := e) r p (c.read p) _ _ _).1.leaves

theorem State.pt_shelveCount (r : InRec) (c : PCfg) (tick : Nat) : PtLeaves shelveFlags (s.pt e p) ((s.shelveCount e r p c tick).pt e p) := by
  unfold State.shelveCount State.shelveTick
  dsimp only
  split
  · split
    · exact PtLeaves.trans (y := { s.pt e p with timer := (s.pt e p).timer - 1 }) ⟨rfl, rfl, rfl, fun _ _ => rfl⟩ (State.pt_setPt_self r p _).leaves
    · exact State.pt_endShelve_leaves r c
  · exact .refl _ _

/-- A shelving ends with its last minute (R230). -/
theorem State.shelveCount_ends (r : InRec) (c : PCfg) {tick : Nat} (hs : (s.pt e p).has Sub.shelved = true) (ht : (s.pt e p).timer.toNat ≤ 1)
    (htick : tick % 60000 = 0) :
    ((s.shelveCount e r p c tick).pt e p).has Sub.shelved = false ∧ ((s.shelveCount e r p c tick).pt e p).timer = 0 := by
  obtain ⟨hoff, htimer, -⟩ := State.pt_endShelve (s := s) (e := e) r p c
  unfold State.shelveCount State.shelveTick
  dsimp only
  rw [if_pos (by rw [hs, htick]; decide), if_neg (Nat.not_lt.2 ht)]
  exact ⟨hoff, htimer⟩

/-- What a visit's second half leaves of the first half's record. -/
theorem State.pt_sweepPoint_late (r : InRec) (tick : Nat) (hon : (s.pcfg p).on = true) (hok : (s.pcfg p).valid p = true) :
    PtLeaves [Sub.blocked, Sub.shelved, Sub.unacked, Sub.unreported] ((s.counted e r tick p).pt e p) ((s.sweepPoint e r tick p).pt e p) := by
  rw [State.sweepPoint_halves hon hok, State.pt_totalled]
  exact ((State.pt_blockStep r _ tick).1.mono (by decide)).trans ((State.pt_shelveCount r _ tick).mono (by decide))

/-- The end of a shelving's time, in a visit. -/
theorem State.sweepPoint_unshelves (r : InRec) {tick : Nat} (hon : (s.pcfg p).on = true) (hok : (s.pcfg p).valid p = true)
    (hs : (s.pt e p).has Sub.shelved = true) (ht : (s.pt e p).timer.toNat ≤ 1) (htick : tick % 60000 = 0) :
    ((s.sweepPoint e r tick p).pt e p).has Sub.shelved = false ∧ ((s.sweepPoint e r tick p).pt e p).timer = 0 := by
  obtain ⟨hawait, -⟩ := State.awaits_counted (s := s) (e := e) (p := p) r tick
  obtain ⟨hleaves, htimer⟩ := State.pt_blockStep (s := s.counted e r tick p) (e := e) (p := p) r (s.pcfg p) tick
  rw [State.sweepPoint_halves hon hok, State.pt_totalled]
  refine State.shelveCount_ends r _ ?_ ?_ htick
  · rw [hleaves.has _ (by decide), hawait.shelved]
    exact hs
  · rw [htimer]
    exact hawait.last hs ht

theorem PCfg.blockSrc_ne {c : PCfg} (h : c.valid p = true) : fld c.blockSrc 0 17 ≠ p := by
  unfold PCfg.valid PCfg.rulesOk at h
  simp only [Bool.and_eq_true, bne_iff_ne] at h
  exact h.1.1.2

/-- The end of a block's time, in a visit. -/
theorem State.sweepPoint_unblocks (r : InRec) {tick : Nat} (hon : (s.pcfg p).on = true) (hok : (s.pcfg p).valid p = true)
    (hb : (s.pt e p).has Sub.blocked = true) (hdue : (s.pt e p).blockTimer = 0 ∨ ((s.pt e p).blockTimer = 1 ∧ tick % 1000 = 0))
    (hquiet : s.sourceQuiet e (s.pcfg p).blockSrc) : ((s.sweepPoint e r tick p).pt e p).has Sub.blocked = false := by
  obtain ⟨hawait, hothers⟩ := State.awaits_counted (s := s) (e := e) (p := p) r tick
  have hstill : (s.counted e r tick p).sourceQuiet e (s.pcfg p).blockSrc := by
    unfold State.sourceQuiet
    rw [hothers _ (PCfg.blockSrc_ne hok)]
    exact hquiet
  rw [State.sweepPoint_halves hon hok, State.pt_totalled, (State.pt_shelveCount r _ tick).has _ (by decide)]
  exact State.blockStep_ends r _ (hawait.blocked.trans hb) (by rw [hawait.blockTimer]; exact hdue) hstill

end Sys2Proof.Machine

/-! PROOFS. The ends of a point's times, each a part of its TICK's visit of the points (O17). -/

namespace Sys2Proof.Machine

variable {s t : State} {e : EngineId} {p : Nat}

/-! ## The delay and the rate -/

theorem PtShows.delayTarget {x y : PtState} (h : PtShows x y) (c : PCfg) : c.delayTarget y = c.delayTarget x := by
  unfold PCfg.delayTarget
  rw [h.has _ (by decide), h.value, h.state]

/-- A delay's last count moves the point to its target, nothing pending (R219). -/
theorem State.delayTick_ends (r : InRec) (c : PCfg) (ht : (s.pt e p).timer.toNat ≤ 1) (hheld : s.eccHeld e p = false) :
    ((s.delayTick e r p c).pt e p).state = c.delayTarget (s.pt e p)
      ∧ ((s.delayTick e r p c).pt e p).has Sub.pendOn = false ∧ ((s.delayTick e r p c).pt e p).has Sub.pendOff = false := by
  obtain ⟨hstate, -, -, -, hon, hoff, -, -⟩ := (s.pt e p).clearPend_shown
  unfold State.delayTick
  extract_lets x t z y
  have hy : y.state = (s.pt e p).state ∧ y.has Sub.pendOn = false ∧ y.has Sub.pendOff = false := ⟨hstate, hon, hoff⟩
  rw [if_neg (Nat.not_lt.2 ht)]
  split
  · next h =>
    have hshown := State.pt_setPt_self (s := s) (e := e) r p y
    exact ⟨hshown.state.trans (hy.1.trans h.symm), (hshown.has _ (by decide)).trans hy.2.1, (hshown.has _ (by decide)).trans hy.2.2⟩
  · obtain ⟨henter, -, -, -, -, hhas, -⟩ := y.enter_shown c t
    have hshown := (State.pt_moveTo (s := s) (e := e) r p c y t hheld).1
    exact ⟨hshown.state.trans henter, (hshown.has _ (by decide)).trans ((hhas _ (by decide)).trans hy.2.1),
      (hshown.has _ (by decide)).trans ((hhas _ (by decide)).trans hy.2.2)⟩

theorem State.delayTick_values (r : InRec) (c : PCfg) :
    ((s.delayTick e r p c).pt e p).value = (s.pt e p).value ∧ ((s.delayTick e r p c).pt e p).prev = (s.pt e p).prev := by
  obtain ⟨-, hvalue, hprev, -⟩ := (s.pt e p).clearPend_shown
  unfold State.delayTick
  extract_lets x t z y
  have hset : ∀ z : PtState, z.value = (s.pt e p).value → z.prev = (s.pt e p).prev →
      ((s.setPt e r p z).pt e p).value = (s.pt e p).value ∧ ((s.setPt e r p z).pt e p).prev = (s.pt e p).prev := fun z hv hp =>
    ⟨(State.pt_setPt_self r p z).value.trans hv, (State.pt_setPt_self r p z).prev.trans hp⟩
  split
  · exact hset _ rfl rfl
  · split
    · exact hset y hvalue hprev
    · cases hheld : s.eccHeld e p with
      | false =>
        obtain ⟨-, henter, henterPrev, -⟩ := y.enter_shown c t
        have hshown := (State.pt_moveTo (s := s) (e := e) r p c y t hheld).1
        exact ⟨hshown.value.trans (henter.trans hvalue), hshown.prev.trans (henterPrev.trans hprev)⟩
      | true =>
        unfold State.moveTo
        dsimp only
        rw [if_pos hheld]
        exact ⟨rfl, rfl⟩

/-- Without delays a threshold step takes its target at once. -/
theorem PCfg.towards_undelayed (c : PCfg) (x : PtState) (t : Byte) (hon : c.onDelay = 0) (hoff : c.offDelay = 0) :
    ((c.towards x t).record c).state = t ∧ ((c.towards x t).record c).has Sub.pendOn = false ∧ ((c.towards x t).record c).has Sub.pendOff = false := by
  obtain ⟨hstate, -, -, -, hpendOn, hpendOff, -, -⟩ := x.clearPend_shown
  obtain ⟨henter, -, -, -, -, hhas, -⟩ := x.clearPend.enter_shown c t
  have hmove : (Decision.record { pt := x.clearPend, move := some t } c).state = t
      ∧ (Decision.record { pt := x.clearPend, move := some t } c).has Sub.pendOn = false
      ∧ (Decision.record { pt := x.clearPend, move := some t } c).has Sub.pendOff = false :=
    ⟨henter, (hhas _ (by decide)).trans hpendOn, (hhas _ (by decide)).trans hpendOff⟩
  unfold PCfg.towards
  extract_lets on d y
  have hd : d = 0 := by
    unfold d
    split
    · exact hon
    · exact hoff
  split
  · next h => exact ⟨hstate.trans h.symm, hpendOn, hpendOff⟩
  · split
    · exact hmove
    · exact hmove

/-- A rate point's step: its last value is taken, and STATE goes to the target of the change (R222). -/
theorem State.rateStep_takes (r : InRec) (c : PCfg) (hset : (s.pt e p).has Sub.settling = false) (hunknown : (s.pt e p).state ≠ Pt.unknown)
    (hfault : (s.pt e p).state ≠ Pt.fault) (hheld : s.eccHeld e p = false) :
    ((s.rateStep e r p c).1.pt e p).prev = (s.pt e p).value ∧ ((s.rateStep e r p c).1.pt e p).value = (s.pt e p).value
      ∧ (c.onDelay = 0 → c.offDelay = 0 → ((s.rateStep e r p c).1.pt e p).state = c.rateTarget (s.pt e p).state (F32.sub (s.pt e p).value (s.pt e p).prev)
        ∧ ((s.rateStep e r p c).1.pt e p).has Sub.pendOn = false ∧ ((s.rateStep e r p c).1.pt e p).has Sub.pendOff = false) := by
  have hgo : ¬ ((s.pt e p).has Sub.settling || (s.pt e p).state == Pt.unknown || (s.pt e p).state == Pt.fault) = true := by
    rw [hset, beq_eq_false_iff_ne.2 hunknown, beq_eq_false_iff_ne.2 hfault]
    decide
  unfold State.rateStep
  dsimp only
  rw [if_neg hgo]
  generalize hd : c.towards { s.pt e p with prev := (s.pt e p).value } (c.rateTarget (s.pt e p).state (F32.sub (s.pt e p).value (s.pt e p).prev)) = d
  have hholds : PtHolds { s.pt e p with prev := (s.pt e p).value } (d.record c) := (hd ▸ c.towards_holds _ _).trans (d.record_holds c)
  have hshown := State.pt_decide (s := s) (e := e) r p c d hheld
  refine ⟨hshown.prev.trans hholds.prev, hshown.value.trans hholds.value, fun hon hoff => ?_⟩
  obtain ⟨hstate, hpendOn, hpendOff⟩ := hd ▸ c.towards_undelayed { s.pt e p with prev := (s.pt e p).value }
    (c.rateTarget (s.pt e p).state (F32.sub (s.pt e p).value (s.pt e p).prev)) hon hoff
  exact ⟨hshown.state.trans hstate, (hshown.has _ (by decide)).trans hpendOn, (hshown.has _ (by decide)).trans hpendOff⟩

/-! ## A visit's delay and rate -/

/-- A visit's first half at a point with an input of its own. -/
theorem State.counted_eq (r : InRec) (tick : Nat) (hsrc : (s.pcfg p).srcType < 5 ∨ (s.pt e p).has Sub.forced = true) :
    ∃ n, s.counted e r tick p = (n.rateCount e r p (s.pcfg p) tick).1.delayCount e r p (s.pcfg p) tick (n.rateCount e r p (s.pcfg p) tick).2
      ∧ EvalKeeps Engine.stateless e s n ∧ PtShows (s.pt e p) (n.pt e p) := by
  have hshown := (State.pt_sweepNotice (s := s) (e := e) r p (s.pcfg p).prio (s.pcfg p).custody).1
  have hk : EvalKeeps Engine.stateless e s (s.sweepNotice e r p (s.pcfg p).prio (s.pcfg p).custody) := (keeps_sweepNotice r p _ _).stateless_of_pointless
  refine ⟨_, ?_, hk, hshown⟩
  unfold State.counted
  dsimp only
  generalize s.sweepNotice e r p (s.pcfg p).prio (s.pcfg p).custody = n at hshown
  have hown : ¬ (decide (5 ≤ (s.pcfg p).srcType) && !(n.pt e p).has Sub.forced) = true := by
    rw [hshown.has Sub.forced (by decide)]
    rcases hsrc with h | h
    · rw [decide_eq_false (Nat.not_le.2 h)]
      exact Bool.false_ne_true
    · rw [h, Bool.not_true, Bool.and_false]
      exact Bool.false_ne_true
  have hderived : n.derivedStep e r p (s.pcfg p) = (n, false) := if_neg hown
  rw [hderived]
  rfl

theorem State.counted_delays (r : InRec) {tick : Nat} (hsrc : (s.pcfg p).srcType < 5 ∨ (s.pt e p).has Sub.forced = true) (hheld : s.eccHeld e p = false)
    (hpend : ((s.pt e p).has Sub.pendOn || (s.pt e p).has Sub.pendOff) = true) (ht : (s.pt e p).timer.toNat ≤ 1) (htick : tick % 10 = 0)
    (hrate : (s.pcfg p).rate = false ∨ tick % 1000 ≠ p % 1000) :
    ((s.counted e r tick p).pt e p).state = (s.pcfg p).delayTarget (s.pt e p)
      ∧ ((s.counted e r tick p).pt e p).has Sub.pendOn = false ∧ ((s.counted e r tick p).pt e p).has Sub.pendOff = false := by
  obtain ⟨n, heq, hk, hshown⟩ := State.counted_eq (s := s) (e := e) (p := p) r tick hsrc
  have hoff : ¬ ((s.pcfg p).rate && tick % 1000 == p % 1000) = true := by
    rcases hrate with h | h
    · rw [h, Bool.false_and]
      exact Bool.false_ne_true
    · rw [beq_eq_false_iff_ne.2 h, Bool.and_false]
      exact Bool.false_ne_true
  have hcount : n.rateCount e r p (s.pcfg p) tick = (n, false) := if_neg hoff
  have hdue : ((n.pt e p).has Sub.pendOn || (n.pt e p).has Sub.pendOff) && !false && tick % 10 == 0 := by
    rw [hshown.has _ (by decide), hshown.has _ (by decide), hpend, htick]
    decide
  have hdelay : n.delayCount e r p (s.pcfg p) tick false = n.delayTick e r p (s.pcfg p) := if_pos hdue
  rw [heq, hcount]
  dsimp only
  rw [hdelay, ← hshown.delayTarget]
  exact State.delayTick_ends r _ (by rw [hshown.timer]; exact ht) ((hk.eccHeld e p).trans hheld)

theorem State.counted_rates (r : InRec) {tick : Nat} (hsrc : (s.pcfg p).srcType < 5 ∨ (s.pt e p).has Sub.forced = true) (hheld : s.eccHeld e p = false)
    (hrate : (s.pcfg p).rate = true) (htick : tick % 1000 = p % 1000) (hset : (s.pt e p).has Sub.settling = false)
    (hunknown : (s.pt e p).state ≠ Pt.unknown) (hfault : (s.pt e p).state ≠ Pt.fault) :
    ((s.counted e r tick p).pt e p).prev = (s.pt e p).value ∧ ((s.counted e r tick p).pt e p).value = (s.pt e p).value
      ∧ ((s.pcfg p).onDelay = 0 → (s.pcfg p).offDelay = 0 →
          ((s.counted e r tick p).pt e p).state = (s.pcfg p).rateTarget (s.pt e p).state (F32.sub (s.pt e p).value (s.pt e p).prev)) := by
  obtain ⟨n, heq, hk, hshown⟩ := State.counted_eq (s := s) (e := e) (p := p) r tick hsrc
  have hcount : n.rateCount e r p (s.pcfg p) tick = n.rateStep e r p (s.pcfg p) := if_pos (by rw [hrate, htick, beq_self_eq_true]; rfl)
  obtain ⟨hprev, hvalue, hstate⟩ := State.rateStep_takes (s := n) (e := e) (p := p) r (s.pcfg p) ((hshown.has _ (by decide)).trans hset)
    (by rw [hshown.state]; exact hunknown) (by rw [hshown.state]; exact hfault) ((hk.eccHeld e p).trans hheld)
  rw [hshown.value] at hprev hvalue
  rw [hshown.state, hshown.value, hshown.prev] at hstate
  rw [heq, hcount]
  generalize n.rateStep e r p (s.pcfg p) = b at hprev hvalue hstate
  obtain ⟨v, started⟩ := b
  refine ⟨?_, ?_, fun hon hoff => ?_⟩
  · unfold State.delayCount
    split
    · exact (State.delayTick_values r _).2.trans hprev
    · exact hprev
  · unfold State.delayCount
    split
    · exact (State.delayTick_values r _).1.trans hvalue
    · exact hvalue
  · obtain ⟨hto, hpendOn, hpendOff⟩ := hstate hon hoff
    have hidle : v.delayCount e r p (s.pcfg p) tick started = v := if_neg (by rw [hpendOn, hpendOff]; exact Bool.false_ne_true)
    rw [hidle]
    exact hto

/-! ## O17 -/

theorem State.pt_sweepAt (k q : Nat) : (s.updEng e (fun x => { x with sweepAt := k })).pt e q = s.pt e q := by
  unfold State.pt
  rw [State.eng_updEng_self]
  rfl

/-- A part of a TICK that is due at its point is that point's visit. -/
theorem State.inTick_visit {r : InRec} {due : InRec → State → Bool} (h : s.AtTick e r) (hp : p < 81920) (hwf : Sparse.wf 0 s.tarn = true)
    (hat : s.atPoint e r p) (hon : (s.pcfg p).on = true) (hdue : due r s = true) :
    s.inTick e (fun r s => if due r s then s.sweepPoints e r (p + 1) else s)
      = (s.sweepPoint e r r.payload.toNat p).updEng e (fun x => { x with sweepAt := p + 1 }) := by
  obtain ⟨hlast, hbegun, hsweep⟩ := hat
  rw [State.inTick_eq h, State.ticked_at hlast hbegun]
  rw [if_pos hdue]
  exact State.sweepPoints_one r hwf hp hon hsweep

/-- A part of a TICK that visits points stays within the TICK, due or not. -/
theorem withinTick_visit {r : InRec} {due : InRec → State → Bool} (h : s.AtTick e r) (p : Nat) :
    WithinTick s (s.fresh.inTick e (fun r s => if due r s then s.sweepPoints e r (p + 1) else s)) e r := by
  have heq := State.inTick_eq (s := s.fresh) (f := fun r s => if due r s then s.sweepPoints e r (p + 1) else s) h
  rw [heq]
  exact (withinTick_of_keeps (.ite (keeps_sweepPoints r _) (.refl _ _ _))).of_fresh

/-- A command that is such a part, at its point: the record is the visit's. -/
theorem visit_ends {r : InRec} {due : InRec → State → Bool} {c : Instr}
    (hexec : exec c s = need (decide (p < 81920)) (s.fresh.inTick e (fun r s => if due r s then s.sweepPoints e r (p + 1) else s)))
    (h : s.AtTick e r) (hp : p < 81920) (hwf : Sparse.wf 0 s.tarn = true) (hat : s.atPoint e r p) (hon : (s.pcfg p).on = true)
    (hdue : due r s.fresh = true) {P : State → Prop}
    (hP : ∀ t : State, t.pt e p = (s.fresh.sweepPoint e r r.payload.toNat p).pt e p → (t.eng e).sweepAt = p + 1 → P t) : Ends c s P := by
  have heq := State.inTick_visit (s := s.fresh) (due := due) h hp hwf hat hon hdue
  refine ⟨_, hexec.trans ((need_of (decide_eq_true hp) _).trans (congrArg Host.Outcome.next heq)), hP _ (State.pt_sweepAt _ _) ?_⟩
  rw [State.eng_updEng_self]

/-- Settles O17: each part is its point's visit, and the visit's steps leave what the time's end does. -/
theorem pointTimes : Obligations.PointTimes := by
  unfold Obligations.PointTimes
  refine ⟨fun s e r p h hp i hi => ?_, fun s e r p h hp hwf hat hon hok => ?_⟩
  · simp only [List.mem_cons, List.not_mem_nil, or_false] at hi
    rcases hi with rfl | rfl | rfl | rfl
    · exact ⟨_, need_of (decide_eq_true hp) _, withinTick_visit h p⟩
    · exact ⟨_, need_of (decide_eq_true hp) _, withinTick_visit h p⟩
    · exact ⟨_, need_of (decide_eq_true hp) _, withinTick_visit h p⟩
    · exact ⟨_, need_of (decide_eq_true hp) _, withinTick_visit h p⟩
  · have hlate := State.pt_sweepPoint_late (s := s.fresh) (e := e) (p := p) r r.payload.toNat hon hok
    have hon' : (s.fresh.pcfg p).on = true := hon
    have hok' : (s.fresh.pcfg p).valid p = true := hok
    refine ⟨fun hs ht htick => ?_, fun hb hdue hquiet => ?_, fun hsrc hheld => ⟨fun hpend ht htick hrate => ?_, fun hrate htick hset hunknown hfault => ?_⟩⟩
    · have hs' : (s.fresh.pt e p).has Sub.shelved = true := hs
      have ht' : (s.fresh.pt e p).timer.toNat ≤ 1 := ht
      obtain ⟨hoff, htimer⟩ := State.sweepPoint_unshelves (s := s.fresh) (e := e) (p := p) r hon hok hs ht htick
      refine visit_ends rfl h hp hwf hat hon ?_ (fun t hpt hsweep => ⟨by rw [hpt]; exact hoff, by rw [hpt]; exact htimer, hsweep⟩)
      simp only [hon', hok', hs', ht', htick, decide_true, beq_self_eq_true, Bool.and_self]
    · have hb' : (s.fresh.pt e p).has Sub.blocked = true := hb
      have hdue' : ((s.fresh.pt e p).blockTimer == 0 || ((s.fresh.pt e p).blockTimer == 1 && r.tickNo % 1000 == 0)) = true := by
        simp only [Bool.or_eq_true, Bool.and_eq_true, beq_iff_eq]
        exact hdue
      have hoff := State.sweepPoint_unblocks (s := s.fresh) (e := e) (p := p) r hon hok hb hdue hquiet
      refine visit_ends rfl h hp hwf hat hon ?_ (fun t hpt hsweep => ⟨by rw [hpt]; exact hoff, hsweep⟩)
      simp only [hon', hok', hb', hdue', Bool.and_self]
    · have hpend' : ((s.fresh.pt e p).has Sub.pendOn || (s.fresh.pt e p).has Sub.pendOff) = true := hpend
      have ht' : (s.fresh.pt e p).timer.toNat ≤ 1 := ht
      obtain ⟨hstate, hpendOn, hpendOff⟩ := State.counted_delays (s := s.fresh) (e := e) (p := p) r (tick := r.payload.toNat) hsrc hheld hpend ht htick hrate
      refine visit_ends rfl h hp hwf hat hon ?_ (fun t hpt _ => ?_)
      · simp only [hon', hok', hpend', ht', htick, decide_true, beq_self_eq_true, Bool.and_self]
      · rw [hpt]
        exact ⟨hlate.state.trans hstate, (hlate.has _ (by decide)).trans hpendOn, (hlate.has _ (by decide)).trans hpendOff⟩
    · have hrate' : (s.fresh.pcfg p).rate = true := hrate
      obtain ⟨hprev, hvalue, hstate⟩ := State.counted_rates (s := s.fresh) (e := e) (p := p) r (tick := r.payload.toNat) hsrc hheld hrate htick hset hunknown hfault
      refine visit_ends rfl h hp hwf hat hon ?_ (fun t hpt _ => ?_)
      · simp only [hon', hok', hrate', htick, beq_self_eq_true, Bool.and_self]
      · rw [hpt]
        exact ⟨hlate.prev.trans hprev, hlate.value.trans hvalue, fun hod hfd => hlate.state.trans (hstate hod hfd)⟩

end Sys2Proof.Machine

/-! PROOFS. A TICK's sweep of one group, step by step: what each leaves in the group's half (R250, R251, R252, R255, R256, R258). -/

namespace Sys2Proof.Machine

/-! ## What a step leaves of a half -/

/-- The session's part: CALL_STATE and its timers. -/
structure GrCalls (x y : GrState) : Prop where
  callState : y.callState = x.callState
  callTimer : y.callTimer = x.callTimer
  canTimer : y.canTimer = x.canTimer

theorem GrCalls.refl (x : GrState) : GrCalls x x := ⟨rfl, rfl, rfl⟩

theorem GrCalls.trans {x y z : GrState} (h : GrCalls x y) (k : GrCalls y z) : GrCalls x z :=
  ⟨k.callState.trans h.callState, k.callTimer.trans h.callTimer, k.canTimer.trans h.canTimer⟩

/-- The flood's part: its count, its window and FLOODED. -/
structure GrFloods (x y : GrState) : Prop where
  timer : y.floodTimer = x.floodTimer
  cnt : y.floodCnt = x.floodCnt
  flooded : y.has G.flooded = x.has G.flooded

theorem GrFloods.refl (x : GrState) : GrFloods x x := ⟨rfl, rfl, rfl⟩

theorem GrFloods.trans {x y z : GrState} (h : GrFloods x y) (k : GrFloods y z) : GrFloods x z :=
  ⟨k.timer.trans h.timer, k.cnt.trans h.cnt, k.flooded.trans h.flooded⟩

/-- All that the sweep decides on: the half but for its picture, FIRST_OUT and NEW_CNT. -/
structure GrShows (x y : GrState) : Prop where
  calls : GrCalls x y
  floods : GrFloods x y
  blockTimer : y.blockTimer = x.blockTimer
  blocked : y.has G.blocked = x.has G.blocked
  dmWarn : y.has G.dmWarn = x.has G.dmWarn

theorem GrShows.refl (x : GrState) : GrShows x x := ⟨.refl x, .refl x, rfl, rfl, rfl⟩

theorem GrShows.trans {x y z : GrState} (h : GrShows x y) (k : GrShows y z) : GrShows x z :=
  ⟨h.calls.trans k.calls, h.floods.trans k.floods, k.blockTimer.trans h.blockTimer, k.blocked.trans h.blocked, k.dmWarn.trans h.dmWarn⟩

theorem GrShows.mark (x : GrState) {i : Nat} (b : Bool) (h : i ∈ [G.inAlarm, G.unacked] := by decide) : GrShows x (x.mark i b) := by
  have hne : ∀ j, j ∈ [G.blocked, G.flooded, G.dmWarn] → (x.mark i b).has j = x.has j := by
    intro j hj
    simp only [List.mem_cons, List.not_mem_nil, or_false, G.inAlarm, G.unacked, G.blocked, G.flooded, G.dmWarn] at h hj
    exact x.has_mark_ne b (by omega) (by omega)
  exact ⟨⟨rfl, rfl, rfl⟩, ⟨rfl, rfl, hne _ (by decide)⟩, rfl, hne _ (by decide), hne _ (by decide)⟩

theorem GrState.picture_shows (x : GrState) (t : Totals) : GrShows x (x.picture t) := by
  unfold GrState.picture
  refine GrShows.trans ?_ ((GrShows.mark _ (i := G.inAlarm) _).trans (GrShows.mark _ (i := G.unacked) _))
  exact ⟨⟨rfl, rfl, rfl⟩, ⟨rfl, rfl, rfl⟩, rfl, rfl, rfl⟩

theorem GrState.calls_floods (x : GrState) (c : GCfg) (st : Byte) (cause timer : Nat) : GrFloods x (x.calls c st cause timer) := by
  obtain ⟨-, -, hcnt, htimer, -, hhas⟩ := x.calls_shown c st cause timer
  exact ⟨htimer, hcnt, hhas _ (by decide)⟩

variable {s t : State} {e : EngineId} {g : Nat}

theorem State.gr_updGr_shows {f : GrState → GrState} (h : GrShows (s.gr e g) (f (s.gr e g))) : GrShows (s.gr e g) ((s.updGr e g f).gr e g) := by
  rw [State.gr_updGr_self]
  exact ⟨⟨h.calls.callState, h.calls.callTimer, h.calls.canTimer⟩, ⟨h.floods.timer, h.floods.cnt, h.floods.flooded⟩, h.blockTimer, h.blocked, h.dmWarn⟩

/-! ## The steps that decide nothing -/

theorem State.pictured_shows : GrShows (s.gr e g) ((s.pictured e g).gr e g) := State.gr_updGr_shows (GrState.picture_shows _ _)

theorem State.firstOutKept_shows : GrShows (s.gr e g) ((s.firstOutKept e g).gr e g) := by
  refine State.gr_updGr_shows ?_
  split
  · exact .refl _
  · exact ⟨⟨rfl, rfl, rfl⟩, ⟨rfl, rfl, rfl⟩, rfl, rfl, rfl⟩

theorem State.pictureShown_gr (r : InRec) (c : GCfg) : (s.pictureShown e r g c).gr e g = s.gr e g := by
  unfold State.pictureShown
  split
  · rfl
  · exact (keeps_groupState_noteless r g c).gr_of_noteless g

theorem State.groupSwept_shows : GrShows (s.gr e g) ((s.groupSwept e g).gr e g) := by
  unfold State.groupSwept
  rw [(keeps_markSwept_noteless g).gr_of_noteless]
  exact State.gr_updGr_shows ⟨⟨rfl, rfl, rfl⟩, ⟨rfl, rfl, rfl⟩, rfl, rfl, rfl⟩

/-! ## The group block -/

/-- The block step leaves the session and the flood. -/
theorem State.groupBlock_leaves (c : GCfg) (tick : Nat) :
    GrCalls (s.gr e g) ((s.groupBlock e g c tick).gr e g) ∧ GrFloods (s.gr e g) ((s.groupBlock e g c tick).gr e g) := by
  have hset : ∀ y : GrState, GrCalls (s.gr e g) y → GrFloods (s.gr e g) y →
      GrCalls (s.gr e g) ((s.setGr e g y).gr e g) ∧ GrFloods (s.gr e g) ((s.setGr e g y).gr e g) := by
    intro y hc hf
    rw [State.gr_setGr_self]
    exact ⟨⟨hc.callState, hc.callTimer, hc.canTimer⟩, hf.timer, hf.cnt, hf.flooded⟩
  have hmark : ∀ (x : GrState) (i : Nat) (b : Bool), i ∈ [G.blocked, G.dmWarn] → GrCalls x (x.mark i b) ∧ GrFloods x (x.mark i b) := by
    intro x i b hi
    simp only [List.mem_cons, List.not_mem_nil, or_false, G.blocked, G.dmWarn] at hi
    exact ⟨⟨rfl, rfl, rfl⟩, rfl, rfl, x.has_mark_ne b (by unfold G.flooded; omega) (by omega)⟩
  have htimer : ∀ n, GrCalls (s.gr e g) { s.gr e g with blockTimer := n } ∧ GrFloods (s.gr e g) { s.gr e g with blockTimer := n } := fun n =>
    ⟨⟨rfl, rfl, rfl⟩, rfl, rfl, rfl⟩
  unfold State.groupBlock
  extract_lets x y n z
  split
  · obtain ⟨hcalls, hfloods⟩ := hmark { s.gr e g with blockTimer := BitVec.ofNat 16 c.blockDelay } G.blocked true (by decide)
    have hy : GrCalls (s.gr e g) y ∧ GrFloods (s.gr e g) y := ⟨(htimer _).1.trans hcalls, (htimer _).2.trans hfloods⟩
    split
    · exact hset _ (hy.1.trans (hmark y G.dmWarn false (by decide)).1) (hy.2.trans (hmark y G.dmWarn false (by decide)).2)
    · exact hset _ hy.1 hy.2
  · split
    · exact ⟨.refl _, .refl _⟩
    · split
      · exact hset _ (hmark x G.blocked false (by decide)).1 (hmark x G.blocked false (by decide)).2
      · split
        · exact hset _ ((htimer n).1.trans (hmark _ G.blocked false (by decide)).1) ((htimer n).2.trans (hmark _ G.blocked false (by decide)).2)
        · exact hset _ (htimer n).1 (htimer n).2

/-- A quiet source's condition does not hold. -/
theorem State.sourceQuiet_cond {w : U32} (h : s.sourceQuiet e w) :
    ¬ (fld w 0 17 != 0x1FFFF && blockCond (fld w 17 3) (s.pt e (fld w 0 17)).state) = true := by
  rcases h with h | h
  · rw [h]
    exact Bool.false_ne_true
  · rw [h, Bool.and_false]
    exact Bool.false_ne_true

/-- A quiet source leaves a group that is not blocked alone. -/
theorem State.groupBlock_idle (c : GCfg) (tick : Nat) (hquiet : s.sourceQuiet e c.blockSrc) (hb : (s.gr e g).has G.blocked = false) :
    s.groupBlock e g c tick = s := by
  unfold State.groupBlock
  dsimp only
  rw [if_neg (State.sourceQuiet_cond hquiet), if_pos (by rw [hb]; rfl)]

/-- A group's block ends once its condition is over and its delay counted (R251). -/
theorem State.groupBlock_ends (c : GCfg) {tick : Nat} (hquiet : s.sourceQuiet e c.blockSrc) (hb : (s.gr e g).has G.blocked = true)
    (hdue : (s.gr e g).blockTimer = 0 ∨ (s.gr e g).blockTimer = 1) (htick : tick % 1000 = 0) :
    ((s.groupBlock e g c tick).gr e g).has G.blocked = false := by
  have hset : ∀ x : GrState, ((s.setGr e g (x.mark G.blocked false)).gr e g).has G.blocked = false := fun x => by
    rw [State.gr_setGr_self]
    exact x.has_mark_self false
  unfold State.groupBlock
  extract_lets x y n z
  have hn : n = 0 := by
    unfold n
    rcases hdue with h | h
    · rw [show x.blockTimer = 0 from h, if_neg (by simp)]
    · rw [show x.blockTimer = 1 from h, htick]
      decide
  rw [if_neg (State.sourceQuiet_cond hquiet), if_neg (by rw [show x.has G.blocked = true from hb]; decide)]
  split
  · exact hset _
  · rw [if_pos (beq_iff_eq.2 hn)]
    exact hset _

/-! ## The flood -/

/-- An engine but for its events and the groups' halves. -/
def Engine.halfless (x : Engine) : Engine := { x.eventless with grs := { dflt := { } } }

theorem keeps_setGr_halfless (y : GrState) : EvalKeeps Engine.halfless e s (s.setGr e g y) := by
  unfold State.setGr
  exact (keeps_lineWritten _ _).trans (EvalKeeps.updEng rfl)

theorem keeps_groupBlock_halfless (c : GCfg) (tick : Nat) : EvalKeeps Engine.halfless e s (s.groupBlock e g c tick) := by
  unfold State.groupBlock
  exact .ite (keeps_setGr_halfless _) (.ite (.refl _ _ _) (.ite (keeps_setGr_halfless _) (keeps_setGr_halfless _)))

/-- FLOODED as the count passes the bound (R250). -/
def State.floodMarked (s : State) (e : EngineId) (g : Nat) (c : GCfg) : State :=
  if decide (c.floodN < (s.gr e g).floodCnt.toNat) && !(s.gr e g).has G.flooded then
    (s.setGr e g (if (s.gr e g).callState = Call.idle then (s.gr e g).mark G.flooded true else ((s.gr e g).mark G.flooded true).mark G.floodRaised true)).bumpView e
      Reg.CROAK_FLOOD_CNT
  else s

/-- The count of a flood's window. -/
def State.floodTimed (s : State) (e : EngineId) (g : Nat) (c : GCfg) (tick : Nat) (excess : Bool) : State :=
  let x := s.gr e g
  if x.floodTimer = 0 || tick % 1000 != 0 || (s.eng e).opened.contains g then s
  else if 1 < x.floodTimer.toNat then s.setGr e g { x with floodTimer := x.floodTimer - 1 }
  else if x.has G.flooded && excess then s.setGr e g { x with floodTimer := BitVec.ofNat 16 c.floodWindow, floodCnt := 0 }
  else s.setGr e g (({ x with floodTimer := 0, floodCnt := 0 }.mark G.flooded false).mark G.floodRaised false)

theorem State.floodStep_eq (c : GCfg) (tick : Nat) (h : c.floodN ≠ 0) :
    s.floodStep e g c tick = (s.floodMarked e g c).floodTimed e g c tick (decide (c.floodN < (s.gr e g).floodCnt.toNat)) := by
  unfold State.floodStep
  rw [if_neg h]
  rfl

/-- What a flood's steps leave: the session, BLOCKED. -/
structure GrAround (x y : GrState) : Prop where
  calls : GrCalls x y
  blocked : y.has G.blocked = x.has G.blocked

theorem GrAround.refl (x : GrState) : GrAround x x := ⟨.refl x, rfl⟩

theorem GrAround.trans {x y z : GrState} (h : GrAround x y) (k : GrAround y z) : GrAround x z := ⟨h.calls.trans k.calls, k.blocked.trans h.blocked⟩

theorem GrAround.mark (x : GrState) {i : Nat} (b : Bool) (h : i ≠ G.blocked := by decide) (hi : i < 8 := by decide) : GrAround x (x.mark i b) :=
  ⟨⟨rfl, rfl, rfl⟩, x.has_mark_ne b (Ne.symm h) hi⟩

theorem State.gr_setGr_around {y : GrState} (h : GrAround (s.gr e g) y) : GrAround (s.gr e g) ((s.setGr e g y).gr e g) := by
  rw [State.gr_setGr_self]
  exact ⟨⟨h.calls.callState, h.calls.callTimer, h.calls.canTimer⟩, h.blocked⟩

theorem State.gr_bumpView (o : Off) (ho : o ∈ evalRegs) : (s.bumpView e o).gr e g = s.gr e g :=
  (keeps_bumpView (view := Engine.noteless) e ho).gr_of_noteless g

theorem State.floodMarked_around (c : GCfg) : GrAround (s.gr e g) ((s.floodMarked e g c).gr e g) := by
  unfold State.floodMarked
  split
  · rw [State.gr_bumpView _ (by decide)]
    refine State.gr_setGr_around ?_
    split
    · exact GrAround.mark _ (i := G.flooded) true
    · exact (GrAround.mark _ (i := G.flooded) true).trans (GrAround.mark _ (i := G.floodRaised) true)
  · exact .refl _

theorem State.floodTimed_around (c : GCfg) (tick : Nat) (excess : Bool) : GrAround (s.gr e g) ((s.floodTimed e g c tick excess).gr e g) := by
  have hcount : ∀ n k, GrAround (s.gr e g) { s.gr e g with floodTimer := n, floodCnt := k } := fun _ _ => ⟨⟨rfl, rfl, rfl⟩, rfl⟩
  unfold State.floodTimed
  dsimp only
  split
  · exact .refl _
  · split
    · exact State.gr_setGr_around (hcount _ _)
    · split
      · exact State.gr_setGr_around (hcount _ _)
      · exact State.gr_setGr_around ((hcount _ _).trans ((GrAround.mark _ (i := G.flooded) false).trans (GrAround.mark _ (i := G.floodRaised) false)))

theorem State.floodStep_around (c : GCfg) (tick : Nat) : GrAround (s.gr e g) ((s.floodStep e g c tick).gr e g) := by
  by_cases h : c.floodN = 0
  · unfold State.floodStep
    rw [if_pos h]
    exact .refl _
  · rw [State.floodStep_eq c tick h]
    exact (State.floodMarked_around c).trans (State.floodTimed_around c tick _)

/-- A group that exceeds its bound is FLOODED, its window as it was. -/
theorem State.floodMarked_marks (c : GCfg) :
    ((s.floodMarked e g c).gr e g).floodTimer = (s.gr e g).floodTimer ∧ ((s.floodMarked e g c).eng e).opened = (s.eng e).opened
      ∧ (c.floodN < (s.gr e g).floodCnt.toNat → ((s.floodMarked e g c).gr e g).has G.flooded = true) := by
  unfold State.floodMarked
  split
  · have hraised : ∀ x : GrState, ((x.mark G.flooded true).mark G.floodRaised true).has G.flooded = true := fun x =>
      (GrState.has_mark_ne _ true).trans (x.has_mark_self true)
    have hopen : ∀ y : GrState, (((s.setGr e g y).bumpView e Reg.CROAK_FLOOD_CNT).eng e).opened = (s.eng e).opened := fun y =>
      ((keeps_setGr_halfless y).trans (keeps_bumpView e (by decide))).get Engine.opened (fun _ => rfl)
    rw [State.gr_bumpView _ (by decide), State.gr_setGr_self]
    refine ⟨?_, hopen _, fun _ => ?_⟩
    · split
      · rfl
      · rfl
    · split
      · exact (s.gr e g).has_mark_self true
      · exact hraised _
  · next h =>
    refine ⟨rfl, rfl, fun hlt => ?_⟩
    rw [decide_eq_true hlt, Bool.true_and, Bool.not_eq_true, Bool.not_eq_false'] at h
    exact h

/-- A flood's window closes with its last second: begun again while the count passed the bound, and over otherwise (R250). -/
theorem State.floodStep_closes (c : GCfg) {tick : Nat} (hn : c.floodN ≠ 0) (ht : (s.gr e g).floodTimer = 1) (hopen : (s.eng e).opened.contains g = false)
    (htick : tick % 1000 = 0) :
    ((s.floodStep e g c tick).gr e g).floodCnt = 0
      ∧ (if c.floodN < (s.gr e g).floodCnt.toNat
          then ((s.floodStep e g c tick).gr e g).has G.flooded = true ∧ ((s.floodStep e g c tick).gr e g).floodTimer = BitVec.ofNat 16 c.floodWindow
          else ((s.floodStep e g c tick).gr e g).has G.flooded = false ∧ ((s.floodStep e g c tick).gr e g).floodTimer = 0) := by
  obtain ⟨htimer, hopened, hmarks⟩ := State.floodMarked_marks (s := s) (e := e) (g := g) c
  rw [State.floodStep_eq c tick hn]
  generalize s.floodMarked e g c = v at htimer hopened hmarks
  rw [ht] at htimer
  rw [← hopened] at hopen
  have hoff : ∀ x : GrState, ((x.mark G.flooded false).mark G.floodRaised false).has G.flooded = false := fun x =>
    (GrState.has_mark_ne _ false).trans (x.has_mark_self false)
  unfold State.floodTimed
  dsimp only
  rw [if_neg (by rw [htimer, htick, hopen]; decide), if_neg (by rw [htimer]; decide)]
  by_cases hlt : c.floodN < (s.gr e g).floodCnt.toNat
  · rw [if_pos hlt, if_pos (by rw [hmarks hlt, decide_eq_true hlt]; rfl), State.gr_setGr_self]
    exact ⟨rfl, hmarks hlt, rfl⟩
  · rw [if_neg hlt, if_neg (by rw [decide_eq_false hlt, Bool.and_false]; decide), State.gr_setGr_self]
    exact ⟨rfl, hoff _, rfl⟩

end Sys2Proof.Machine

/-! PROOFS. The ends of a group's times, each a part of its TICK's sweep of the groups (O18). -/

namespace Sys2Proof.Machine

variable {s t : State} {e : EngineId} {g : Nat}

/-! ## What a session's step leaves -/

/-- What is beside the session: the flood and BLOCKED. -/
structure GrBeside (x y : GrState) : Prop where
  floods : GrFloods x y
  blocked : y.has G.blocked = x.has G.blocked

theorem GrBeside.refl (x : GrState) : GrBeside x x := ⟨.refl x, rfl⟩

theorem GrBeside.trans {x y z : GrState} (h : GrBeside x y) (k : GrBeside y z) : GrBeside x z := ⟨h.floods.trans k.floods, k.blocked.trans h.blocked⟩

theorem State.gr_setGr_beside {y : GrState} (h : GrBeside (s.gr e g) y) : GrBeside (s.gr e g) ((s.setGr e g y).gr e g) := by
  rw [State.gr_setGr_self]
  exact ⟨⟨h.floods.timer, h.floods.cnt, h.floods.flooded⟩, h.blocked⟩

theorem State.callTo_beside (r : InRec) (c : GCfg) (st : Byte) (cause timer : Nat) : GrBeside (s.gr e g) ((s.callTo e r g c st cause timer).gr e g) := by
  obtain ⟨-, -, -, -, -, hhas⟩ := (s.gr e g).calls_shown c st cause timer
  have hfloods := (s.gr e g).calls_floods c st cause timer
  rw [State.gr_callTo]
  exact ⟨⟨hfloods.timer, hfloods.cnt, hfloods.flooded⟩, hhas _ (by decide)⟩

/-- A call's frames repeated (R260). -/
def State.framesRepeated (s : State) (e : EngineId) (g : Nat) (fs : List (Nat × U32 × Nat)) : State :=
  (s.updEng e (fun z => { z with called := Sparse.set [] z.called g (addFrames (Sparse.get [] z.called g) fs) })).sendFrames e g fs

theorem State.gr_framesRepeated (fs : List (Nat × U32 × Nat)) : (s.framesRepeated e g fs).gr e g = s.gr e g := by
  have hupd : EvalKeeps Engine.noteless e s (s.updEng e (fun z => { z with called := Sparse.set [] z.called g (addFrames (Sparse.get [] z.called g) fs) })) :=
    EvalKeeps.updEng rfl
  exact (hupd.trans (keeps_sendFrames g fs)).gr_of_noteless g

/-- The half whose CALL_TIMER has counted. -/
def GrState.callCounted (x : GrState) : GrState := if x.callTimer = 0 then x else { x with callTimer := x.callTimer - 1 }

theorem GrState.callCounted_shown (x : GrState) : GrBeside x x.callCounted ∧ x.callCounted.callState = x.callState ∧ x.callCounted.canTimer = x.canTimer := by
  unfold GrState.callCounted
  split
  · exact ⟨.refl x, rfl, rfl⟩
  · exact ⟨⟨⟨rfl, rfl, rfl⟩, rfl⟩, rfl, rfl⟩

theorem State.callTimers_eq (r : InRec) (c : GCfg) (tick : Nat) :
    s.callTimers e r g c tick =
      if !calling (s.gr e g).callState || tick % 1000 != 0 then s
      else if (s.gr e g).callState != Call.bridge && (s.gr e g).callTimer.toNat = 1 then
        s.callTo e r g c (c.escalate (s.gr e g).callState) Cause.timeout
      else if (s.gr e g).callCounted.canTimer.toNat = 1 then
        (s.setGr e g { (s.gr e g).callCounted with canTimer := BitVec.ofNat 16 c.canRepeat }).framesRepeated e g
          (c.frames (s.gr e g).callCounted.callState.toNat)
      else s.setGr e g (if (s.gr e g).callCounted.canTimer = 0 then (s.gr e g).callCounted
        else { (s.gr e g).callCounted with canTimer := (s.gr e g).callCounted.canTimer - 1 }) := rfl

theorem State.callTimers_beside (r : InRec) (c : GCfg) (tick : Nat) : GrBeside (s.gr e g) ((s.callTimers e r g c tick).gr e g) := by
  obtain ⟨hcounted, -, -⟩ := (s.gr e g).callCounted_shown
  rw [State.callTimers_eq]
  split
  · exact .refl _
  · split
    · exact State.callTo_beside r c _ _ _
    · generalize (s.gr e g).callCounted = y at hcounted
      have hcan : ∀ n, GrBeside (s.gr e g) { y with canTimer := n } := fun n => hcounted.trans ⟨⟨rfl, rfl, rfl⟩, rfl⟩
      split
      · rw [State.gr_framesRepeated]
        exact State.gr_setGr_beside (hcan _)
      · refine State.gr_setGr_beside ?_
        split
        · exact hcounted
        · exact hcan _

theorem State.alarmStep_beside (r : InRec) (c : GCfg) (tick : Nat) : GrBeside (s.gr e g) ((s.alarmStep e r g c tick).gr e g) := by
  unfold State.alarmStep
  dsimp only
  split
  · exact .refl _
  · split
    · exact State.callTo_beside r c _ _ _
    · split
      · exact State.callTo_beside r c _ _ _
      · exact State.callTimers_beside r c tick

theorem State.dmMark_beside (b : Bool) : GrBeside (s.gr e g) ((s.updGr e g (fun x => x.mark G.dmWarn b)).gr e g) :=
  State.gr_setGr_beside ⟨⟨rfl, rfl, GrState.has_mark_ne _ b⟩, GrState.has_mark_ne _ b⟩

theorem State.dmWarnNow_gr (r : InRec) (c : GCfg) : (s.dmWarnNow e r g c).gr e g = (s.updGr e g (fun x => x.mark G.dmWarn true)).gr e g :=
  (keeps_groupState_noteless r g c).gr_of_noteless g

theorem State.dmExpire_beside (r : InRec) (c : GCfg) : GrBeside (s.gr e g) ((s.dmExpire e r g c).gr e g) :=
  (State.dmMark_beside false).trans (State.callTo_beside r c _ _ _)

/-- The last second of a dead-man period, and the one before its warning (R258). -/
def State.dmTurn (s : State) (e : EngineId) (r : InRec) (g : Nat) (c : GCfg) (n : U16) : State :=
  let s := if c.dmWarn != 0 && n.toNat == c.dmWarn then s.dmWarnNow e r g c else s
  if n = 0 then s.dmExpire e r g c else s

theorem State.dmTurn_beside (r : InRec) (c : GCfg) (n : U16) : GrBeside (s.gr e g) ((s.dmTurn e r g c n).gr e g) := by
  have hwarn : GrBeside (s.gr e g) ((if c.dmWarn != 0 && n.toNat == c.dmWarn then s.dmWarnNow e r g c else s).gr e g) := by
    split
    · rw [State.dmWarnNow_gr]
      exact State.dmMark_beside true
    · exact .refl _
  unfold State.dmTurn
  dsimp only
  split
  · exact hwarn.trans (State.dmExpire_beside r c)
  · exact hwarn

theorem State.deadmanStep_eq (r : InRec) (c : GCfg) (tick : Nat) :
    s.deadmanStep e r g c tick =
      if (s.gr e g).has G.blocked then
        if (s.gr e g).callState = Call.idle then s.setGr e g { s.gr e g with callTimer := 0 } else s.callTo e r g c Call.idle Cause.block
      else if !c.callEn then s
      else if (s.gr e g).callState != Call.idle then s.callTimers e r g c tick
      else if (s.gr e g).callTimer = 0 then s.setGr e g { s.gr e g with callTimer := BitVec.ofNat 16 c.dmPeriod }
      else if tick % 1000 != 0 then s
      else (s.setGr e g { s.gr e g with callTimer := (s.gr e g).callTimer - 1 }).dmTurn e r g c ((s.gr e g).callTimer - 1) := rfl

theorem State.deadmanStep_beside (r : InRec) (c : GCfg) (tick : Nat) : GrBeside (s.gr e g) ((s.deadmanStep e r g c tick).gr e g) := by
  have hset : ∀ n, GrBeside (s.gr e g) ((s.setGr e g { s.gr e g with callTimer := n }).gr e g) := fun n =>
    State.gr_setGr_beside ⟨⟨rfl, rfl, rfl⟩, rfl⟩
  rw [State.deadmanStep_eq]
  split
  · split
    · exact hset _
    · exact State.callTo_beside r c _ _ _
  · split
    · exact .refl _
    · split
      · exact State.callTimers_beside r c tick
      · split
        · exact hset _
        · split
          · exact .refl _
          · exact (hset _).trans (State.dmTurn_beside r c _)

theorem State.sessionStep_beside (r : InRec) (c : GCfg) (tick : Nat) : GrBeside (s.gr e g) ((s.sessionStep e r g c tick).gr e g) := by
  unfold State.sessionStep
  split
  · exact State.deadmanStep_beside r c tick
  · exact State.alarmStep_beside r c tick

/-! ## What a session's step does -/

/-- A calling session counts its timers, whatever kind it is. -/
theorem State.sessionStep_calling (r : InRec) {c : GCfg} (tick : Nat) (hen : c.callEn = true) (hcall : calling (s.gr e g).callState = true)
    (hb : c.deadman = true → (s.gr e g).has G.blocked = false) : s.sessionStep e r g c tick = s.callTimers e r g c tick := by
  have hne : ∀ st : Byte, calling st = false → ((s.gr e g).callState == st) = false := fun st hst => beq_eq_false_iff_ne.2 fun h => by
    rw [h, hst] at hcall
    exact Bool.false_ne_true hcall
  have hidle := hne Call.idle (by decide)
  have hsilenced := hne Call.silenced (by decide)
  have haccepted := hne Call.accepted (by decide)
  unfold State.sessionStep
  split
  · next hdm =>
    rw [State.deadmanStep_eq, if_neg (by rw [hb hdm]; decide), if_neg (by rw [hen]; decide), if_pos (by rw [bne, hidle]; rfl)]
  · unfold State.alarmStep
    dsimp only
    rw [if_neg (by rw [hen]; decide), if_neg (by rw [hidle, hsilenced, haccepted]; exact Bool.false_ne_true),
      if_neg (by rw [hsilenced, haccepted]; exact Bool.false_ne_true)]

/-- A stage that is not answered escalates (R255). -/
theorem State.callTimers_escalates (r : InRec) (c : GCfg) {tick : Nat} (hcall : calling (s.gr e g).callState = true) (hbr : (s.gr e g).callState ≠ Call.bridge)
    (ht : (s.gr e g).callTimer = 1) (htick : tick % 1000 = 0) :
    ((s.callTimers e r g c tick).gr e g).callState = c.escalate (s.gr e g).callState := by
  rw [State.callTimers_eq, if_neg (by rw [hcall, htick]; decide), if_pos (by rw [bne_iff_ne.2 hbr, ht]; decide), State.callState_callTo]

/-- A call's frames are sent again as CAN_TIMER has counted (R260). -/
theorem State.callTimers_repeats (r : InRec) (c : GCfg) {tick : Nat} (hcall : calling (s.gr e g).callState = true) (hcan : (s.gr e g).canTimer = 1)
    (hstay : (s.gr e g).callState = Call.bridge ∨ (s.gr e g).callTimer ≠ 1) (htick : tick % 1000 = 0) :
    ((s.callTimers e r g c tick).gr e g).canTimer = BitVec.ofNat 16 c.canRepeat
      ∧ ((s.callTimers e r g c tick).gr e g).callState = (s.gr e g).callState := by
  obtain ⟨-, hstate, htimer⟩ := (s.gr e g).callCounted_shown
  have hno : ¬ ((s.gr e g).callState != Call.bridge && decide ((s.gr e g).callTimer.toNat = 1)) = true := by
    rcases hstay with h | h
    · rw [h]
      exact Bool.false_ne_true
    · rw [decide_eq_false (fun k : (s.gr e g).callTimer.toNat = 1 => h (BitVec.eq_of_toNat_eq k)), Bool.and_false]
      exact Bool.false_ne_true
  rw [State.callTimers_eq, if_neg (by rw [hcall, htick]; decide), if_neg hno, if_pos (by rw [htimer, hcan]; rfl), State.gr_framesRepeated, State.gr_setGr_self]
  exact ⟨rfl, hstate⟩

/-- A dead-man period of an idle session counts. -/
theorem State.sessionStep_period (r : InRec) {c : GCfg} {tick : Nat} (hdm : c.deadman = true) (hen : c.callEn = true)
    (hb : (s.gr e g).has G.blocked = false) (hidle : (s.gr e g).callState = Call.idle) (ht : (s.gr e g).callTimer ≠ 0) (htick : tick % 1000 = 0) :
    s.sessionStep e r g c tick
      = (s.setGr e g { s.gr e g with callTimer := (s.gr e g).callTimer - 1 }).dmTurn e r g c ((s.gr e g).callTimer - 1) := by
  unfold State.sessionStep
  rw [if_pos hdm, State.deadmanStep_eq, if_neg (by rw [hb]; decide), if_neg (by rw [hen]; decide), if_neg (by rw [hidle]; decide), if_neg ht,
    if_neg (by rw [htick]; decide)]

/-- The pre-warning of a dead-man period (R258). -/
theorem State.dmTurn_warns (r : InRec) {c : GCfg} {n : U16} (hw : c.dmWarn ≠ 0) (hn : n.toNat = c.dmWarn) :
    ((s.dmTurn e r g c n).gr e g).has G.dmWarn = true ∧ GrCalls (s.gr e g) ((s.dmTurn e r g c n).gr e g) := by
  have hn0 : n ≠ 0 := fun h => hw (by rw [← hn, h]; rfl)
  unfold State.dmTurn
  dsimp only
  rw [if_neg hn0, if_pos (by rw [bne_iff_ne.2 hw, hn, beq_self_eq_true]; rfl), State.dmWarnNow_gr, State.gr_updGr_self]
  exact ⟨GrState.has_mark_self _ true, rfl, rfl, rfl⟩

/-- The end of a dead-man period calls (R258). -/
theorem State.dmTurn_expires (r : InRec) (c : GCfg) :
    ((s.dmTurn e r g c 0).gr e g).callState = Call.stage1 ∧ ((s.dmTurn e r g c 0).gr e g).has G.dmWarn = false := by
  have hexpire : ∀ v : State, ((v.dmExpire e r g c).gr e g).callState = Call.stage1 ∧ ((v.dmExpire e r g c).gr e g).has G.dmWarn = false := by
    intro v
    obtain ⟨hstate, -, -, -, -, hhas⟩ := ((v.updGr e g (fun x => x.mark G.dmWarn false)).gr e g).calls_shown c Call.stage1 Cause.period 0
    unfold State.dmExpire
    rw [State.gr_callTo]
    refine ⟨hstate, (hhas _ (by decide)).trans ?_⟩
    rw [State.gr_updGr_self]
    exact GrState.has_mark_self _ false
  unfold State.dmTurn
  dsimp only
  rw [if_pos rfl]
  exact hexpire _

/-! ## A sweep in two halves -/

/-- A group's sweep up to its session. -/
def State.unsessioned (s : State) (e : EngineId) (r : InRec) (tick g : Nat) : State :=
  ((((s.pictured e g).groupBlock e g (s.gcfg g) tick).floodStep e g (s.gcfg g) tick).firstOutKept e g).pictureShown e r g (s.gcfg g)

theorem State.sweepGroup_halves (r : InRec) {tick : Nat} (h : s.groupReady e g = true) :
    s.sweepGroup e r tick g = ((s.unsessioned e r tick g).sessionStep e r g (s.gcfg g) tick).groupSwept e g := by
  unfold State.groupReady at h
  simp only [Bool.and_eq_true] at h
  obtain ⟨⟨hon, hok⟩, -⟩ := h
  exact State.sweepGroup_on hon hok

theorem State.pictured_quiet {w : U32} (h : s.sourceQuiet e w) : (s.pictured e g).sourceQuiet e w := by
  have hk : EvalKeeps Engine.groupless e s (s.pictured e g) := keeps_updGr g _
  unfold State.sourceQuiet
  rw [hk.pt_of_groupless]
  exact h

/-- What stands as the session's turn comes. -/
theorem State.unsessioned_shown (r : InRec) (tick : Nat) :
    GrCalls (s.gr e g) ((s.unsessioned e r tick g).gr e g)
      ∧ ((s.unsessioned e r tick g).gr e g).has G.blocked = (((s.pictured e g).groupBlock e g (s.gcfg g) tick).gr e g).has G.blocked := by
  have hpic := State.pictured_shows (s := s) (e := e) (g := g)
  obtain ⟨hblock, -⟩ := State.groupBlock_leaves (s := s.pictured e g) (e := e) (g := g) (s.gcfg g) tick
  have hflood := State.floodStep_around (s := (s.pictured e g).groupBlock e g (s.gcfg g) tick) (e := e) (g := g) (s.gcfg g) tick
  have hfirst := State.firstOutKept_shows (s := ((s.pictured e g).groupBlock e g (s.gcfg g) tick).floodStep e g (s.gcfg g) tick) (e := e) (g := g)
  unfold State.unsessioned
  rw [State.pictureShown_gr]
  exact ⟨hpic.calls.trans (hblock.trans (hflood.calls.trans hfirst.calls)), hfirst.blocked.trans hflood.blocked⟩

theorem State.unsessioned_unblocked (r : InRec) (tick : Nat) (hquiet : s.sourceQuiet e (s.gcfg g).blockSrc) (hb : (s.gr e g).has G.blocked = false) :
    ((s.unsessioned e r tick g).gr e g).has G.blocked = false := by
  have hpic := State.pictured_shows (s := s) (e := e) (g := g)
  rw [(State.unsessioned_shown r tick).2, State.groupBlock_idle _ tick (State.pictured_quiet hquiet) (hpic.blocked.trans hb)]
  exact hpic.blocked.trans hb

/-- A sweep leaves BLOCKED as its block step does. -/
theorem State.sweepGroup_unblocks (r : InRec) {tick : Nat} (h : s.groupReady e g = true) (hb : (s.gr e g).has G.blocked = true)
    (hdue : (s.gr e g).blockTimer = 0 ∨ (s.gr e g).blockTimer = 1) (hquiet : s.sourceQuiet e (s.gcfg g).blockSrc) (htick : tick % 1000 = 0) :
    ((s.sweepGroup e r tick g).gr e g).has G.blocked = false := by
  have hpic := State.pictured_shows (s := s) (e := e) (g := g)
  rw [State.sweepGroup_halves r h, State.groupSwept_shows.blocked, (State.sessionStep_beside r _ tick).blocked, (State.unsessioned_shown r tick).2]
  exact State.groupBlock_ends _ (State.pictured_quiet hquiet) (hpic.blocked.trans hb) (by rw [hpic.blockTimer]; exact hdue) htick

/-- A sweep leaves the flood as its flood step does. -/
theorem State.sweepGroup_floods (r : InRec) (tick : Nat) (h : s.groupReady e g = true) :
    GrFloods ((((s.pictured e g).groupBlock e g (s.gcfg g) tick).floodStep e g (s.gcfg g) tick).gr e g) ((s.sweepGroup e r tick g).gr e g) := by
  have hfirst := State.firstOutKept_shows (s := ((s.pictured e g).groupBlock e g (s.gcfg g) tick).floodStep e g (s.gcfg g) tick) (e := e) (g := g)
  have hsession := State.sessionStep_beside (s := s.unsessioned e r tick g) (e := e) (g := g) r (s.gcfg g) tick
  have hpicture : (s.unsessioned e r tick g).gr e g
      = ((((s.pictured e g).groupBlock e g (s.gcfg g) tick).floodStep e g (s.gcfg g) tick).firstOutKept e g).gr e g := State.pictureShown_gr r _
  rw [hpicture] at hsession
  rw [State.sweepGroup_halves r h]
  exact hfirst.floods.trans (hsession.floods.trans State.groupSwept_shows.floods)

theorem State.sweepGroup_closes (r : InRec) {tick : Nat} (h : s.groupReady e g = true) (hn : (s.gcfg g).floodN ≠ 0) (ht : (s.gr e g).floodTimer = 1)
    (hopen : (s.eng e).opened.contains g = false) (htick : tick % 1000 = 0) :
    ((s.sweepGroup e r tick g).gr e g).floodCnt = 0
      ∧ (if (s.gcfg g).floodN < (s.gr e g).floodCnt.toNat
          then ((s.sweepGroup e r tick g).gr e g).has G.flooded = true ∧ ((s.sweepGroup e r tick g).gr e g).floodTimer = BitVec.ofNat 16 (s.gcfg g).floodWindow
          else ((s.sweepGroup e r tick g).gr e g).has G.flooded = false ∧ ((s.sweepGroup e r tick g).gr e g).floodTimer = 0) := by
  have hpic := State.pictured_shows (s := s) (e := e) (g := g)
  obtain ⟨-, hblock⟩ := State.groupBlock_leaves (s := s.pictured e g) (e := e) (g := g) (s.gcfg g) tick
  have hopened : (((s.pictured e g).groupBlock e g (s.gcfg g) tick).eng e).opened = (s.eng e).opened :=
    (EvalKeeps.trans (keeps_setGr_halfless _) (keeps_groupBlock_halfless _ tick)).get Engine.opened (fun _ => rfl)
  have hclose := State.floodStep_closes (s := (s.pictured e g).groupBlock e g (s.gcfg g) tick) (e := e) (g := g) (s.gcfg g) (tick := tick) hn
    (hblock.timer.trans (hpic.floods.timer.trans ht)) (by rw [hopened]; exact hopen) htick
  have hfloods := State.sweepGroup_floods (s := s) (e := e) (g := g) r tick h
  rw [hblock.cnt, hpic.floods.cnt] at hclose
  rw [hfloods.cnt, hfloods.flooded, hfloods.timer]
  exact hclose

/-! ## O18 -/

theorem State.gr_groupAt (k q : Nat) : (s.updEng e (fun x => { x with groupAt := k })).gr e q = s.gr e q := by
  unfold State.gr
  rw [State.eng_updEng_self]
  rfl

/-- A part of a TICK that sweeps groups stays within the TICK, due or not. -/
theorem withinTick_sweep {r : InRec} {due : InRec → State → Bool} (h : s.AtTick e r) (g : Nat) :
    WithinTick s (s.fresh.inTick e (fun r s => if due r s then s.sweepGroups e r (g + 1) else s)) e r := by
  have heq := State.inTick_eq (s := s.fresh) (f := fun r s => if due r s then s.sweepGroups e r (g + 1) else s) h
  rw [heq]
  exact (withinTick_of_keeps (.ite (keeps_sweepGroups r _) (.refl _ _ _))).of_fresh

/-- A command that is such a part, at its group: the half is the sweep's. -/
theorem sweep_ends {r : InRec} {due : InRec → State → Bool} {c : Instr}
    (hexec : exec c s = need (decide (g < 256)) (s.fresh.inTick e (fun r s => if due r s then s.sweepGroups e r (g + 1) else s)))
    (h : s.AtTick e r) (hg : g < 256) (hwf : Sparse.wf 0 s.tarn = true) (hat : s.atGroup e r g) (hready : s.groupReady e g = true)
    (hdue : due r s.fresh = true) {P : State → Prop}
    (hP : ∀ t : State, t.gr e g = (s.fresh.sweepGroup e r r.payload.toNat g).gr e g → (t.eng e).groupAt = g + 1 → P t) : Ends c s P := by
  obtain ⟨hlast, hbegun, hpoints, hgroup⟩ := hat
  have hon : (s.gcfg g).enable = true := by
    unfold State.groupReady at hready
    simp only [Bool.and_eq_true] at hready
    exact hready.1.1
  have heq : s.fresh.inTick e (fun r s => if due r s then s.sweepGroups e r (g + 1) else s)
      = (s.fresh.sweepGroup e r r.payload.toNat g).updEng e (fun x => { x with groupAt := g + 1 }) := by
    rw [State.inTick_eq (s := s.fresh) h, State.ticked_at (s := s.fresh) hlast hbegun]
    rw [if_pos hdue]
    exact State.sweepGroups_one (s := s.fresh) r hwf hg hon hpoints hgroup
  refine ⟨_, hexec.trans ((need_of (decide_eq_true hg) _).trans (congrArg Host.Outcome.next heq)), hP _ (State.gr_groupAt _ _) ?_⟩
  rw [State.eng_updEng_self]

/-- A dead-man period comes down to `left` with this TICK. -/
theorem State.dmDue_of {r : InRec} {left : Nat} (hready : s.groupReady e g = true) (hdm : (s.gcfg g).deadman = true) (hen : (s.gcfg g).callEn = true)
    (hb : (s.gr e g).has G.blocked = false) (hidle : (s.gr e g).callState = Call.idle) (ht : (s.gr e g).callTimer.toNat = left + 1)
    (htick : r.tickNo % 1000 = 0) : s.dmDue e r g left = true := by
  unfold State.dmDue
  simp only [hready, hdm, hen, hb, hidle, ht, htick, beq_self_eq_true, Bool.and_self, Bool.not_false]

/-- The session's part of a sweep. -/
theorem State.sweepGroup_session (r : InRec) {tick : Nat} (h : s.groupReady e g = true) :
    GrShows (((s.unsessioned e r tick g).sessionStep e r g (s.gcfg g) tick).gr e g) ((s.sweepGroup e r tick g).gr e g) := by
  rw [State.sweepGroup_halves r h]
  exact State.groupSwept_shows

/-- Settles O18: each part is its group's sweep, and the sweep's steps leave what the time's end does. -/
theorem groupTimes : Obligations.GroupTimes := by
  unfold Obligations.GroupTimes
  refine ⟨fun s e r g h hg i hi => ?_, fun s e r g h hg hwf hat hready htick => ?_⟩
  · simp only [List.mem_cons, List.not_mem_nil, or_false] at hi
    rcases hi with rfl | rfl | rfl | rfl | rfl | rfl
    · exact ⟨_, need_of (decide_eq_true hg) _, withinTick_sweep h g⟩
    · exact ⟨_, need_of (decide_eq_true hg) _, withinTick_sweep h g⟩
    · exact ⟨_, need_of (decide_eq_true hg) _, withinTick_sweep h g⟩
    · exact ⟨_, need_of (decide_eq_true hg) _, withinTick_sweep h g⟩
    · exact ⟨_, need_of (decide_eq_true hg) _, withinTick_sweep h g⟩
    · exact ⟨_, need_of (decide_eq_true hg) _, withinTick_sweep h g⟩
  · have hready' : s.fresh.groupReady e g = true := hready
    have hsession := State.sweepGroup_session (s := s.fresh) (e := e) (g := g) r (tick := r.payload.toNat) hready
    obtain ⟨hcalls, -⟩ := State.unsessioned_shown (s := s.fresh) (e := e) (g := g) r r.payload.toNat
    refine ⟨fun hb hdue hquiet => ?_, fun ht hn hopen => ?_, fun hen hfree => ?_⟩
    · have hb' : (s.fresh.gr e g).has G.blocked = true := hb
      have hdue' : ((s.fresh.gr e g).blockTimer == 0 || ((s.fresh.gr e g).blockTimer == 1 && r.tickNo % 1000 == 0)) = true := by
        simp only [Bool.or_eq_true, Bool.and_eq_true, beq_iff_eq]
        exact hdue.imp_right (fun k => ⟨k, htick⟩)
      have hoff := State.sweepGroup_unblocks (s := s.fresh) (e := e) (g := g) r (tick := r.payload.toNat) hready hb hdue hquiet htick
      refine sweep_ends rfl h hg hwf hat hready ?_ (fun t hgr hswept => ⟨by rw [hgr]; exact hoff, hswept⟩)
      simp only [hready', hb', hdue', Bool.and_self]
    · have ht' : (s.fresh.gr e g).floodTimer = 1 := ht
      have hclose := State.sweepGroup_closes (s := s.fresh) (e := e) (g := g) r (tick := r.payload.toNat) hready hn ht hopen htick
      refine sweep_ends rfl h hg hwf hat hready ?_ (fun t hgr _ => by rw [hgr]; exact hclose)
      simp only [hready', ht', htick, beq_self_eq_true, Bool.and_self]
    · have hunblocked : (s.gcfg g).deadman = true → ((s.fresh.unsessioned e r r.payload.toNat g).gr e g).has G.blocked = false := fun hdm =>
        State.unsessioned_unblocked (s := s.fresh) r r.payload.toNat (hfree hdm).2 (hfree hdm).1
      have hstate : ((s.fresh.unsessioned e r r.payload.toNat g).gr e g).callState = (s.gr e g).callState := hcalls.callState
      have htimer : ((s.fresh.unsessioned e r r.payload.toNat g).gr e g).callTimer = (s.gr e g).callTimer := hcalls.callTimer
      have hcan : ((s.fresh.unsessioned e r r.payload.toNat g).gr e g).canTimer = (s.gr e g).canTimer := hcalls.canTimer
      have hstep := hsession
      generalize hu : s.fresh.unsessioned e r r.payload.toNat g = u at hunblocked hstate htimer hcan hstep
      have hcfg : s.fresh.gcfg g = s.gcfg g := rfl
      rw [hcfg] at hstep
      refine ⟨fun hcall hbr ht => ?_, fun hcall hc hstay => ?_, fun hdm hidle hw ht => ?_, fun hdm hidle ht => ?_⟩
      · have hcall' : calling (s.fresh.gr e g).callState = true := hcall
        have hbr' : ((s.fresh.gr e g).callState != Call.bridge) = true := bne_iff_ne.2 hbr
        have ht' : (s.fresh.gr e g).callTimer = 1 := ht
        have hesc := State.callTimers_escalates (s := u) (e := e) (g := g) r (s.gcfg g) (tick := r.payload.toNat) (by rw [hstate]; exact hcall)
          (by rw [hstate]; exact hbr) (htimer.trans ht) htick
        rw [State.sessionStep_calling r r.payload.toNat hen (by rw [hstate]; exact hcall) hunblocked] at hstep
        refine sweep_ends rfl h hg hwf hat hready ?_ (fun t hgr hswept => ⟨?_, hswept⟩)
        · simp only [hready', hcall', hbr', ht', htick, beq_self_eq_true, Bool.and_self]
        · rw [hgr, hstep.calls.callState, hesc, hstate]
      · have hcall' : calling (s.fresh.gr e g).callState = true := hcall
        have hc' : (s.fresh.gr e g).canTimer = 1 := hc
        have hstay' : ((s.fresh.gr e g).callState == Call.bridge || (s.fresh.gr e g).callTimer != 1) = true := by
          simp only [Bool.or_eq_true, beq_iff_eq, bne_iff_ne]
          exact hstay
        obtain ⟨hagain, hsame⟩ := State.callTimers_repeats (s := u) (e := e) (g := g) r (s.gcfg g) (tick := r.payload.toNat) (by rw [hstate]; exact hcall)
          (hcan.trans hc) (by rw [hstate, htimer]; exact hstay) htick
        rw [State.sessionStep_calling r r.payload.toNat hen (by rw [hstate]; exact hcall) hunblocked] at hstep
        refine sweep_ends rfl h hg hwf hat hready ?_ (fun t hgr hswept => ⟨?_, ?_, hswept⟩)
        · simp only [hready', hcall', hc', hstay', htick, beq_self_eq_true, Bool.and_self]
        · rw [hgr, hstep.calls.canTimer, hagain]
        · rw [hgr, hstep.calls.callState, hsame, hstate]
      · have hdue : s.fresh.dmDue e r g (s.gcfg g).dmWarn = true := State.dmDue_of hready hdm hen (hfree hdm).1 hidle ht htick
        have hlt := (s.gr e g).callTimer.isLt
        have hne : (s.gr e g).callTimer ≠ 0 := fun k => by
          rw [k] at ht
          exact absurd ht (by simp)
        have hcount : ((s.gr e g).callTimer - 1).toNat = (s.gcfg g).dmWarn := by
          bv_omega
        rw [State.sessionStep_period r (tick := r.payload.toNat) hdm hen (hunblocked hdm) (hstate.trans hidle) (by rw [htimer]; exact hne) htick, htimer] at hstep
        obtain ⟨hwarn, hkept⟩ := State.dmTurn_warns (s := u.setGr e g { u.gr e g with callTimer := (s.gr e g).callTimer - 1 }) (e := e) (g := g) r hw hcount
        rw [State.gr_setGr_self] at hkept
        refine sweep_ends rfl h hg hwf hat hready ?_ (fun t hgr _ => ⟨?_, ?_, ?_⟩)
        · exact Bool.and_eq_true_iff.2 ⟨bne_iff_ne.2 hw, hdue⟩
        · rw [hgr, hstep.dmWarn, hwarn]
        · rw [hgr, hstep.calls.callTimer, hkept.callTimer]
          exact hcount
        · rw [hgr, hstep.calls.callState, hkept.callState]
          exact hstate.trans hidle
      · have hdue : s.fresh.dmDue e r g 0 = true := State.dmDue_of hready hdm hen (hfree hdm).1 hidle (congrArg BitVec.toNat ht) htick
        rw [State.sessionStep_period r (tick := r.payload.toNat) hdm hen (hunblocked hdm) (hstate.trans hidle) (by rw [htimer, ht]; decide) htick, htimer, ht] at hstep
        obtain ⟨hcalled, hquiet⟩ := State.dmTurn_expires (s := u.setGr e g { u.gr e g with callTimer := 1 - 1 }) (e := e) (g := g) r (s.gcfg g)
        refine sweep_ends rfl h hg hwf hat hready ?_ (fun t hgr _ => ⟨?_, ?_⟩)
        · exact hdue
        · rw [hgr, hstep.calls.callState]
          exact hcalled
        · rw [hgr, hstep.dmWarn]
          exact hquiet

end Sys2Proof.Machine

/-! PROOFS. Gaps, seals and snapshot marks at an engine (R275, R276, R287). -/

namespace Sys2Proof.Machine

variable {s t u : State} {e : EngineId}

/-! ## Events behind the end of an evaluation -/

theorem State.replayed_nodeId (isn : U64) : (s.replayed isn).spawn.replay.nodeId = s.spawn.replay.nodeId := by
  unfold State.replayed
  dsimp only
  split
  · rfl
  · rfl

theorem State.sysId_evaluated (isn : U64) (p : Nat) : (s.evaluated e isn).sysId p = s.sysId p := by
  have hmgmt : (s.evaluated e isn).mgmt = s.mgmt := State.mgmt_congr (State.reg_evaluated isn (by decide))
  have hnode : (s.evaluated e isn).nodeId = s.nodeId := State.rfld_of_reg (State.reg_evaluated isn (by decide)) 0 6
  have hstream : (s.evaluated e isn).spawn.replay.nodeId = s.spawn.replay.nodeId := by
    rw [State.evaluated_eq, State.prune_parts .spawn (by decide), State.cmdDone_parts isn .spawn (by decide)]
    have hcount : ((s.updEng e (fun x => { x with evalIsn := isn })).bump (Reg.AE_EVAL_CNT (engIx e))).spawn = s.spawn :=
      (State.bump_parts _ .spawn (by decide)).trans (State.updEng_parts _ _ _ .spawn (by decide))
    rw [← hcount]
    unfold State.rpShown
    split
    · exact State.replayed_nodeId isn
    · rfl
  unfold State.sysId State.streamNode
  rw [hmgmt, hnode, hstream]

/-- An event queued as a record's effect stays queued behind its end. -/
theorem State.queued_evaluated {type : Byte} {index : Nat} {p : Event → Prop} (isn : U64) (h : s.queued e type index p) :
    (s.evaluated e isn).queued e type index p :=
  State.queued_congr h (by rw [State.evaluated_own]) (by rw [State.evaluated_own]) (State.sysId_evaluated isn index)

theorem State.staging_evaluated (isn : U64) : (s.evaluated e isn).spawn.staging = s.spawn.staging := by
  have hcount : ((s.updEng e (fun x => { x with evalIsn := isn })).bump (Reg.AE_EVAL_CNT (engIx e))).spawn = s.spawn :=
    (State.bump_parts _ .spawn (by decide)).trans (State.updEng_parts _ _ _ .spawn (by decide))
  rw [State.evaluated_eq, State.prune_parts .spawn (by decide), State.cmdDone_parts isn .spawn (by decide), ← hcount]
  unfold State.rpShown State.replayed
  dsimp only
  split
  · split
    · rfl
    · rfl
  · rfl

/-! ## Gaps and seals -/

theorem keeps_onSourceGap (r : InRec) : EvalKeeps Engine.eventless e s (s.onSourceGap e r) := keeps_putNode noEvents_eventless _

theorem State.onSourceGap_queued (r : InRec) (h : 0 < (s.eng e).room) :
    (s.onSourceGap e r).queued e Ev.sourceGap nodeIndex (fun v => v.stNew = BitVec.ofNat 8 r.srcType ∧ v.sub = BitVec.ofNat 16 r.srcIndex) :=
  State.putNode_queued h rfl rfl (fun _ => ⟨rfl, rfl⟩)

theorem gapEnds {r : InRec} (hhead : s.headRec e = some r) (hkind : r.kind = Kind.sourceGap) :
    Ends (.evalSourceGap e) s (fun t => Evaluated s t e r ∧ (t.eng e).pts = (s.eng e).pts ∧ (t.eng e).grs = (s.eng e).grs
      ∧ (0 < ((s.fresh.runStart e r).eng e).room → t.queued e Ev.sourceGap nodeIndex (fun v =>
          v.stNew = BitVec.ofNat 8 r.srcType ∧ v.sub = BitVec.ofNat 16 r.srcIndex))) := by
  have hreads : s.fresh.recReads r = ([], []) := by
    unfold State.recReads
    rw [hkind]
    rfl
  have heq := State.evaluate_eq (s := s.fresh) (e := e) (ok := fun r => r.kind == Kind.sourceGap) (f := fun r s => s.onSourceGap e r) hhead (beq_iff_eq.2 hkind)
    (by rw [hreads]; rfl)
  have hk := keeps_onSourceGap (s := s.fresh.runStart e r) (e := e) r
  have hev : Evaluated s.fresh _ e r := ((State.runStart_readied (s := s.fresh) (e := e) r).keeps (hk.of_events noEvents_stateless)).evaluated
  refine ⟨_, congrArg Host.Outcome.next heq, hev.of_fresh, ?_, ?_, fun hroom => State.queued_evaluated r.isn (State.onSourceGap_queued r hroom)⟩
  · rw [State.evaluated_own]
    exact (hk.get Engine.pts (fun _ => rfl)).trans (State.runStart_pts r)
  · rw [State.evaluated_own]
    exact (hk.get Engine.grs (fun _ => rfl)).trans (State.runStart_grs r)

/-- An engine but for its queue of events and what is withheld for want of room, its run begun. -/
def Engine.waitless (x : Engine) : Engine := { x.queueless with nodeRefresh := false, withheldCnt := 0, runStarted := true }

theorem keeps_runStart_waitless (r : InRec) : EvalKeeps Engine.waitless e s (s.runStart e r) := by
  have hbegin : EvalKeeps Engine.waitless e s (s.updEng e (fun x => { x with runStarted := true })) := EvalKeeps.updEng rfl
  have hheld : ∀ u : State, EvalKeeps Engine.waitless e u (u.updEng e (fun x => { x with nodeRefresh := true, withheldCnt := satAdd x.withheldCnt 1 })) :=
    fun u => EvalKeeps.updEng rfl
  unfold State.runStart State.epochChange State.putNode
  refine .ite (.refl _ _ _) (hbegin.trans (.ite (keeps_put_queue (fun _ => rfl) _) ((hheld _).trans (.ite ?_ (.refl _ _ _)))))
  exact (keeps_bump (by decide)).trans (keeps_raise _ (by decide))

theorem sealEnds {r : InRec} (hhead : s.headRec e = some r) (hseal : r.isSeal = true) (hroom : 0 < ((s.fresh.runStart e r).eng e).room) :
    Ends (.evalSealRequest e) s (fun t => Evaluated s t e r ∧ (t.eng e).custN = 0 ∧ (t.eng e).sealNo = (s.eng e).sealNo + 1
      ∧ t.queued e Ev.custodySeal nodeIndex (fun v => v.stNew = BitVec.ofNat 8 (s.eng e).custN ∧ v.stOld = 2)) := by
  have hreads : s.fresh.recReads r = ([], []) := by
    unfold InRec.isSeal at hseal
    simp only [Bool.and_eq_true, beq_iff_eq] at hseal
    obtain ⟨⟨hkind, hsrc⟩, -⟩ := hseal
    unfold State.recReads
    rw [hkind, hsrc]
    rfl
  have heq := State.evaluate_eq (s := s.fresh) (e := e) (ok := InRec.isSeal) (f := fun r s => s.putSeal e r 2) hhead hseal (by rw [hreads]; rfl)
  have hk : EvalKeeps Engine.eventless e (s.fresh.runStart e r) ((s.fresh.runStart e r).putSeal e r 2) := keeps_putSeal noEvents_eventless r 2
  have hev : Evaluated s.fresh _ e r := ((State.runStart_readied (s := s.fresh) (e := e) r).keeps (hk.of_events noEvents_stateless)).evaluated
  have hstart := keeps_runStart_waitless (s := s.fresh) (e := e) r
  have hcust : ((s.fresh.runStart e r).eng e).custN = (s.eng e).custN := hstart.get Engine.custN (fun _ => rfl)
  have hno : ((s.fresh.runStart e r).eng e).sealNo = (s.eng e).sealNo := hstart.get Engine.sealNo (fun _ => rfl)
  obtain ⟨hzero, hnext, hqueued⟩ := State.putSeal_sealed (s := s.fresh.runStart e r) (e := e) r 2 hroom
  rw [hcust] at hqueued
  rw [hno] at hnext
  refine ⟨_, congrArg Host.Outcome.next heq, hev.of_fresh, ?_, ?_, ?_⟩
  · rw [State.evaluated_own]
    exact hzero
  · rw [State.evaluated_own]
    exact hnext
  · obtain ⟨v, hv, htype, hindex, hold, hnew⟩ := State.queued_evaluated r.isn hqueued
    exact ⟨v, hv, htype, hindex, hnew, hold⟩

/-! ## Marks -/

theorem State.fillMark_parts (isn : U64) (ext : List Byte) : PartsBut s (s.fillMark isn ext) [.inlet, .spawn] := fun z hz =>
  same_of_foot [.inlet, .spawn] (fun _ _ => fillMark_foot _ _ _ (.refl s)) z hz

/-- The source engine's state, staged where the mark is the snapshot's. -/
def State.markStaged (s : State) (e : EngineId) (isn : U64) : State :=
  if s.snapMark isn then (s.lineWritten s.shareBase stagingSize).updSpawn (fun p => { p with staging := some (e, (s.eng e).pts, (s.eng e).grs, isn) }) else s

theorem State.markStaged_parts (isn : U64) : PartsBut s (s.markStaged e isn) [.gecko, .spawn] := by
  unfold State.markStaged
  split
  · exact fun z hz => same_of_foot [.gecko, .spawn] (fun _ _ => updSpawn_foot _ _ (lineWritten_foot _ _ _ (.refl s))) z hz
  · exact fun z _ => by cases z <;> rfl

/-- The mark as its source engine leaves it. -/
def State.markFilled (s : State) (e : EngineId) (r : InRec) : State :=
  (((((s.runStart e r).fillMark r.isn ((s.runStart e r).wideOf e)).markStaged e r.isn).setRegFld Reg.SPAWN_STATUS 9 2 (engNo e)).updEng e Engine.atMark)

theorem State.evalMark_fills {r : InRec} (hhead : s.headRec e = some r) (hkind : r.kind = Kind.mark) (hext : r.ext = []) (hsrc : s.sourceEng = some e) :
    s.evalMark e = (s.markFilled e r).evaluated e r.isn := by
  unfold State.evalMark
  rw [hhead]
  dsimp only
  rw [if_neg (by rw [hkind]; decide), if_pos (by rw [hext]; rfl), if_neg (by rw [hsrc]; simp)]
  rfl

theorem State.evalMark_compares {r : InRec} (hhead : s.headRec e = some r) (hkind : r.kind = Kind.mark) (hext : r.ext ≠ []) :
    s.evalMark e = if (s.runStart e r).wideOf e = r.ext then ((s.runStart e r).updEng e Engine.atMark).evaluated e r.isn
      else (s.runStart e r).failEngine e 6 := by
  unfold State.evalMark
  rw [hhead]
  dsimp only
  rw [if_neg (by rw [hkind]; decide), if_neg (by simp [hext])]

theorem State.snapMark_congr (isn : U64) (hspawn : t.spawn.snapping = s.spawn.snapping ∧ t.spawn.journaling = s.spawn.journaling)
    (hlo : t.reg Reg.SPAWN_MARK_ISN_LO = s.reg Reg.SPAWN_MARK_ISN_LO) (hhi : t.reg Reg.SPAWN_MARK_ISN_HI = s.reg Reg.SPAWN_MARK_ISN_HI) :
    t.snapMark isn = s.snapMark isn := by
  unfold State.snapMark State.pair
  rw [hspawn.1, hspawn.2, hlo, hhi]

/-- A filled mark: the source shown, and its state staged for the snapshot. -/
theorem State.markFilled_shown (r : InRec) :
    Readied s (s.markFilled e r) e ∧ (s.markFilled e r).rfld Reg.SPAWN_STATUS 9 2 = engNo e
      ∧ (s.snapMark r.isn = true → (s.markFilled e r).spawn.staging = some (e, (s.eng e).pts, (s.eng e).grs, r.isn)) := by
  have hready := State.runStart_readied (s := s) (e := e) r
  have hstart := keeps_runStart (s := s) (e := e) r
  have hfill := (s.runStart e r).fillMark_parts r.isn ((s.runStart e r).wideOf e)
  have hflags : ((s.runStart e r).fillMark r.isn ((s.runStart e r).wideOf e)).spawn.snapping = (s.runStart e r).spawn.snapping
      ∧ ((s.runStart e r).fillMark r.isn ((s.runStart e r).wideOf e)).spawn.journaling = (s.runStart e r).spawn.journaling := ⟨rfl, rfl⟩
  unfold State.markFilled
  generalize (s.runStart e r).fillMark r.isn ((s.runStart e r).wideOf e) = v at hfill hflags
  have hstage := v.markStaged_parts (e := e) r.isn
  have hregs : ∀ o, o ∉ evalRegs → (v.markStaged e r.isn).reg o = s.reg o := fun o ho =>
    (State.reg_congr (hstage .regs (by decide)) (hstage .behavBoot (by decide)) o).trans
      ((State.reg_congr (hfill .regs (by decide)) (hfill .behavBoot (by decide)) o).trans (hstart.regs o ho))
  have hstaged : s.snapMark r.isn = true → (v.markStaged e r.isn).spawn.staging = some (e, (s.eng e).pts, (s.eng e).grs, r.isn) := by
    intro h
    have hmark : v.snapMark r.isn = true := by
      have hspawn : (s.runStart e r).spawn = s.spawn := hstart.parts .spawn (by decide)
      have hreg : ∀ o, o ∉ evalRegs → v.reg o = s.reg o := fun o ho =>
        (State.reg_congr (hfill .regs (by decide)) (hfill .behavBoot (by decide)) o).trans (hstart.regs o ho)
      rw [hspawn] at hflags
      exact (State.snapMark_congr r.isn hflags (hreg _ (by decide)) (hreg _ (by decide))).trans h
    have heng : (v.eng e).pts = (s.eng e).pts ∧ (v.eng e).grs = (s.eng e).grs := by
      rw [hfill.eng]
      exact ⟨State.runStart_pts r, State.runStart_grs r⟩
    have hown : (v.lineWritten v.shareBase stagingSize).eng e = v.eng e := (keeps_lineWritten (view := id) (e := e) (s := v) v.shareBase stagingSize).own
    unfold State.markStaged
    rw [if_pos hmark]
    show some (e, ((v.lineWritten v.shareBase stagingSize).eng e).pts, ((v.lineWritten v.shareBase stagingSize).eng e).grs, r.isn) = _
    rw [hown, heng.1, heng.2]
  generalize v.markStaged e r.isn = w at hstage hregs hstaged
  have hset := regsBut_setRegFld w Reg.SPAWN_STATUS 9 2 (engNo e)
  have hx : PartsBut w (w.setRegFld Reg.SPAWN_STATUS 9 2 (engNo e)) [.regs] := fun z hz =>
    same_of_foot [.regs] (fun _ _ => setRegFld_foot _ _ _ _ _ (.refl w)) z hz
  have heng : ∀ g, (w.setRegFld Reg.SPAWN_STATUS 9 2 (engNo e)).eng g = (s.runStart e r).eng g := fun g => by
    rw [hx.eng, hstage.eng, hfill.eng]
  have hshown : (w.setRegFld Reg.SPAWN_STATUS 9 2 (engNo e)).rfld Reg.SPAWN_STATUS 9 2 = engNo e := by
    rw [State.rfld_setRegFld_self _ _ _ _ _ (by decide)]
    cases e <;> rfl
  generalize w.setRegFld Reg.SPAWN_STATUS 9 2 (engNo e) = x at hset hx heng hshown
  have hupd : EvalKeeps (fun y => { y with swept := [], sealDue := none }) e x (x.updEng e Engine.atMark) := EvalKeeps.updEng rfl
  refine ⟨⟨?_, ?_, ?_, ?_⟩, ?_, fun h => ?_⟩
  · rw [hupd.get Engine.runStarted (fun _ => rfl), heng]
    exact hready.begun
  · rw [hupd.count, hset _ (by cases e <;> decide), hregs _ (by cases e <;> decide)]
  · rw [hupd.other_, heng]
    exact hready.other_
  · rw [hupd.tarn, hx .tarn (by decide), hstage .tarn (by decide), hfill .tarn (by decide)]
    exact hready.tarn
  · rw [State.rfld_of_reg (hupd.regs _ (by decide)) 9 2]
    exact hshown
  · rw [hupd.parts .spawn (by decide), hx .spawn (by decide)]
    exact hstaged h

/-- A mark that is filled already, at an engine whose state agrees. -/
theorem State.markPassed_readied (r : InRec) : Readied s ((s.runStart e r).updEng e Engine.atMark) e := by
  have hready := State.runStart_readied (s := s) (e := e) r
  have hupd : EvalKeeps (fun y => { y with swept := [], sealDue := none }) e (s.runStart e r) ((s.runStart e r).updEng e Engine.atMark) := EvalKeeps.updEng rfl
  refine ⟨?_, hupd.count.trans hready.count, hupd.other_.trans hready.other_, hupd.tarn.trans hready.tarn⟩
  rw [hupd.get Engine.runStarted (fun _ => rfl)]
  exact hready.begun

theorem markFillEnds {r : InRec} (hhead : s.headRec e = some r) (hkind : r.kind = Kind.mark) (hext : r.ext = []) (hsrc : s.sourceEng = some e) :
    Ends (.evalSnapshotMark e) s (fun t => Evaluated s t e r ∧ t.rfld Reg.SPAWN_STATUS 9 2 = engNo e
      ∧ (s.snapMark r.isn = true → t.spawn.staging = some (e, (s.eng e).pts, (s.eng e).grs, r.isn))) := by
  have heq := State.evalMark_fills (s := s.fresh) (e := e) hhead hkind hext hsrc
  obtain ⟨hready, hshown, hstaged⟩ := State.markFilled_shown (s := s.fresh) (e := e) r
  refine ⟨_, congrArg Host.Outcome.next heq, hready.evaluated.of_fresh, ?_, fun h => ?_⟩
  · rw [State.rfld_of_reg (State.reg_evaluated r.isn (by decide)) 9 2]
    exact hshown
  · rw [State.staging_evaluated]
    exact hstaged h

theorem markPassEnds {r : InRec} (hhead : s.headRec e = some r) (hkind : r.kind = Kind.mark) (hext : r.ext ≠ [])
    (hsame : (s.fresh.runStart e r).wideOf e = r.ext) : Ends (.evalSnapshotMark e) s (fun t => Evaluated s t e r ∧ (t.eng e).pts = (s.eng e).pts) := by
  have heq := State.evalMark_compares (s := s.fresh) (e := e) hhead hkind hext
  rw [if_pos hsame] at heq
  refine ⟨_, congrArg Host.Outcome.next heq, (State.markPassed_readied (s := s.fresh) r).evaluated.of_fresh, ?_⟩
  rw [State.evaluated_own, State.eng_updEng_self]
  exact State.runStart_pts r

theorem markFailEnds {r : InRec} (hhead : s.headRec e = some r) (hkind : r.kind = Kind.mark) (hext : r.ext ≠ [])
    (hdiffer : (s.fresh.runStart e r).wideOf e ≠ r.ext) : Ends (.evalSnapshotMark e) s (fun t => t.serves e = false) := by
  have heq := State.evalMark_compares (s := s.fresh) (e := e) hhead hkind hext
  rw [if_neg hdiffer] at heq
  have hserves : (s.fresh.runStart e r).serves e = true :=
    ((keeps_runStart r).get Engine.serving (fun _ => rfl)).trans (State.serves_of_headRec (s := s.fresh) hhead)
  exact ⟨_, congrArg Host.Outcome.next heq, (State.failEngine_fails hserves 6).out⟩

end Sys2Proof.Machine

/-! PROOFS. Configuration barriers and the repair of damaged state records, at every engine in service (R22, R236, R301, R497; O21). -/

namespace Sys2Proof.Machine

variable {s t u : State} {e : EngineId}

/-! ## An engine's adjustment -/

theorem keeps_leaveGroup (p : Nat) (old new : PCfg) : EvalKeeps Engine.stateless e s (s.leaveGroup e p old new) := by
  unfold State.leaveGroup
  exact .ite (.refl _ _ _) (.foldl (fun t g => (keeps_updGr g _).stateless_of_groupless) _ _)

theorem keeps_pointAdjust (r : InRec) (p : Nat) (old new : PCfg) : EvalKeeps Engine.stateless e s (s.pointAdjust e r p old new) := by
  have hset : ∀ (u : State) y, EvalKeeps Engine.stateless e u (u.setPt e r p y) := fun u y => keeps_setPt_stateless r p y
  unfold State.pointAdjust
  extract_lets x0 s1 x1 t1 v1 s2 x2 s3 x3 s4 x4
  have h1 : EvalKeeps Engine.stateless e s s1 := .ite (keeps_decide r p _ _) (.refl _ _ _)
  have h2 : EvalKeeps Engine.stateless e s1 s2 := .ite ((hset _ _).trans (.ite (keeps_delayTick r p _) (.refl _ _ _))) (.refl _ _ _)
  have h3 : EvalKeeps Engine.stateless e s2 s3 := .ite (.ite (keeps_endShelve r p _) (hset _ _)) (.refl _ _ _)
  have h4 : EvalKeeps Engine.stateless e s3 s4 := .ite (hset _ _) (.refl _ _ _)
  exact ((h1.trans h2).trans (h3.trans h4)).trans (.ite (hset _ _) (.refl _ _ _))

theorem keeps_pointWritten (r : InRec) (p : Nat) (old new : PCfg) : EvalKeeps Engine.stateless e s (s.pointWritten e r p old new) := by
  have hreset : ∀ (u : State) prio custody st, EvalKeeps Engine.stateless e u (u.resetPoint e r p prio custody st) := fun u _ _ _ =>
    (keeps_resetPoint r p _ _ _).stateless_of_pointless
  unfold State.pointWritten
  exact (keeps_leaveGroup p old new).trans (.ite (.ite (.refl _ _ _) (hreset _ _ _ _)) (.ite (hreset _ _ _ _) (keeps_pointAdjust r p old new)))

theorem keeps_groupAdjust (r : InRec) (g : Nat) (old new : GCfg) : EvalKeeps Engine.groupless e s (s.groupAdjust e r g old new) := by
  unfold State.groupAdjust
  extract_lets low v1 s1 st s2 s3 s4 s5
  have h1 : EvalKeeps Engine.groupless e s s1 := .ite ((keeps_updGr g _).trans (.ite (keeps_updGr g _) (keeps_callTo r g _ _ _ _))) (.refl _ _ _)
  have h2 : EvalKeeps Engine.groupless e s1 s2 := .ite (keeps_callTo r g _ _ _ _) (.refl _ _ _)
  have h3 : EvalKeeps Engine.groupless e s2 s3 := .ite (.refl _ _ _) (keeps_updGr g _)
  have h4 : EvalKeeps Engine.groupless e s3 s4 := .ite (keeps_updGr g _) (.refl _ _ _)
  have h5 : EvalKeeps Engine.groupless e s4 s5 := .ite (keeps_updGr g _) (.refl _ _ _)
  exact ((h1.trans h2).trans (h3.trans (h4.trans h5))).trans (.ite (keeps_updGr g _) (.refl _ _ _))

theorem keeps_groupWritten (r : InRec) (g : Nat) (old new : GCfg) : EvalKeeps Engine.groupless e s (s.groupWritten e r g old new) := by
  unfold State.groupWritten
  exact .ite (keeps_resetHalf r g _ _) (.ite (.refl _ _ _) (.ite (keeps_resetHalf r g _ _) (keeps_groupAdjust r g old new)))

theorem keeps_adjust (r : InRec) (u : CmdUnit) (before : State) : EvalKeeps Engine.stateless e s (s.adjust e r u before) := by
  unfold State.adjust
  split
  · exact keeps_pointWritten r _ _ _
  · exact (keeps_groupWritten r _ _ _).stateless_of_groupless
  · exact .ite (keeps_configFault r _).stateless_of_pointless (.refl _ _ _)
  · exact .refl _ _ _

/-! ## An engine passes the barrier -/

theorem State.barriers_evaluated (isn : U64) : (s.evaluated e isn).inlet.barriers = s.inlet.barriers := by
  have hprune : ∀ v : State, v.prune.inlet.barriers = v.inlet.barriers := fun _ => rfl
  rw [State.evaluated_eq, hprune, State.cmdDone_parts isn .inlet (by decide), State.rpShown_parts isn .inlet (by decide), State.bump_parts _ .inlet (by decide),
    State.updEng_parts _ _ _ .inlet (by decide)]

/-- An engine's own step over a record: Tarn, the barriers and the other engine stay. -/
structure OwnStep (s t : State) (e : EngineId) : Prop where
  tarn : t.tarn = s.tarn
  barriers : t.inlet.barriers = s.inlet.barriers
  other_ : t.eng (other e) = s.eng (other e)

theorem OwnStep.trans (h : OwnStep s t e) (k : OwnStep t u e) : OwnStep s u e := ⟨k.tarn.trans h.tarn, k.barriers.trans h.barriers, k.other_.trans h.other_⟩

theorem EvalKeeps.ownStep {view : Engine → Engine} (h : EvalKeeps view e s t) : OwnStep s t e := ⟨h.tarn, congrArg Inlet.barriers h.inlet, h.other_⟩

theorem State.evaluated_ownStep (isn : U64) : OwnStep s (s.evaluated e isn) e :=
  ⟨State.evaluated_parts isn .tarn (by decide), State.barriers_evaluated isn, by rw [State.evaluated_eng, if_neg (other_ne e)]⟩

theorem State.passBarrier_ownStep (r : InRec) (u : CmdUnit) (before : State) :
    OwnStep s (s.passBarrier e r u before) e ∧ ((s.passBarrier e r u before).eng e).evalIsn = r.isn := by
  unfold State.passBarrier
  have hstart := (keeps_runStart (s := s) (e := e) r).ownStep
  have hepoch : EvalKeeps Engine.eventless e (s.runStart e r) ((s.runStart e r).epochChange e r 1 s.evalEpoch) := keeps_epochChange noEvents_eventless r 1 _
  have hadjust := (keeps_adjust (s := (s.runStart e r).epochChange e r 1 s.evalEpoch) (e := e) r u before).ownStep
  refine ⟨(hstart.trans (hepoch.ownStep.trans hadjust)).trans (State.evaluated_ownStep r.isn), ?_⟩
  rw [State.evaluated_own]

theorem State.passParts_tarn (isn : Nat) : (s.passParts e isn).tarn = s.tarn :=
  same_of_foot [.regs, .inlet, .aeA, .aeB, .outlet, .hif, .spawn] (fun _ _ => passParts_foot _ _ _ (.refl s)) .tarn (by decide)

/-! ## What the barrier writes -/

theorem State.eccRepair_tarn (o : Off) (h : t.tarn = s.tarn) : (t.eccRepair o).tarn = (s.eccRepair o).tarn := by
  have hread : ∀ b n, t.tarnRead b n = s.tarnRead b n := fun b n => by
    unfold State.tarnRead
    rw [h]
  have hwrite : ∀ b l, (t.tarnWrite b l).tarn = (s.tarnWrite b l).tarn := fun b l => congrArg (Sparse.write 0 · b l) h
  unfold State.eccRepair
  split
  · dsimp only
    rw [hread]
    exact hwrite _ _
  · split
    · exact hwrite _ _
    · exact hwrite _ _

theorem State.applyUnit_tarn (u : CmdUnit) (h : t.tarn = s.tarn) : (t.applyUnit u).tarn = (s.applyUnit u).tarn := by
  have hwrite : ∀ {v w : State} b l, w.tarn = v.tarn → (w.tarnWrite b l).tarn = (v.tarnWrite b l).tarn := fun b l hw => congrArg (Sparse.write 0 · b l) hw
  unfold State.applyUnit
  split
  · exact hwrite _ _ h
  · exact hwrite _ _ h
  · exact hwrite _ _ h
  · exact hwrite _ _ (hwrite _ _ h)
  · exact hwrite _ _ h
  · exact hwrite _ _ h
  · exact hwrite _ _ h
  · exact State.eccRepair_tarn _ h
  · exact h

/-- The leader's write puts the unit into Tarn, and nothing else. -/
theorem State.applyBarrier_tarn (u : CmdUnit) : (s.applyBarrier u).tarn = (s.applyUnit u).tarn := by
  have hscan : (s.applyScan u).tarn = s.tarn := same_of_foot [.regs] (fun _ _ => applyScan_foot _ _ (.refl s)) .tarn (by decide)
  unfold State.applyBarrier
  extract_lets old s1 s2 s3 s4 s5 je
  have h1 : s1.tarn = (s.applyUnit u).tarn := State.applyUnit_tarn u hscan
  have hite : ∀ {c : Prop} [Decidable c] {v w : State}, w.tarn = v.tarn → (if c then w else v).tarn = v.tarn := fun hw => by
    split
    · exact hw
    · rfl
  have h2 : s2.tarn = s1.tarn := foldl_same State.tarn _ (fun v _ => same_of_foot [.gecko] (fun _ _ => clearUe_foot _ _ _ (.refl v)) .tarn (by decide)) _ _
  have h3 : s3.tarn = s2.tarn := hite (same_of_foot [.regs, .fe] (fun _ _ => chandefApplied_foot _ _ _ _ (.refl s2)) .tarn (by decide))
  have h4 : s4.tarn = s3.tarn := hite (same_of_foot [.regs] (fun _ _ => noteMasks_foot _ (.refl s3)) .tarn (by decide))
  have h5 : s5.tarn = s4.tarn := hite (same_of_foot [.regs, .can] (fun _ _ => shareSettle_foot _ _ (.refl s4)) .tarn (by decide))
  have h : s5.tarn = (s.applyUnit u).tarn := h5.trans (h4.trans (h3.trans (h2.trans h1)))
  split
  · exact h
  · exact h

theorem State.applyBarrier_parts (u : CmdUnit) : PartsBut s (s.applyBarrier u) [.regs, .tarn, .fe, .can, .gecko] := fun z hz =>
  same_of_foot [.regs, .tarn, .fe, .can, .gecko] (fun _ _ => applyBarrier_foot _ _ (.refl s)) z hz

/-! ## Every engine in turn -/

/-- What each engine's step brings about, and the other's leaves, holds of each at the end. -/
theorem foldl_engines {f : State → EngineId → State} {P : EngineId → State → Prop} (hself : ∀ s e, P e (f s e))
    (hother : ∀ s e g, g ≠ e → P g s → P g (f s e)) (l : List EngineId) (s : State) {g : EngineId} (h : g ∈ l ∨ P g s) : P g (l.foldl f s) := by
  induction l generalizing s with
  | nil => exact h.resolve_left List.not_mem_nil
  | cons e l ih =>
    refine ih (f s e) ?_
    by_cases hge : g = e
    · exact .inr (hge ▸ hself s e)
    · rcases h with hmem | hp
      · exact .inl ((List.mem_cons.1 hmem).resolve_left hge)
      · exact .inr (hother s e g hge hp)

/-- The unit written, and every engine past its barrier. -/
def State.barrierPassed (s : State) (isn : Nat) (u : CmdUnit) (rest : List (Nat × CmdUnit)) (r : InRec) : State :=
  let before := s.servers.foldl (fun s e => s.passParts e isn) s
  s.servers.foldl (fun s e => s.passBarrier e r u before) (State.applyBarrier { before with inlet := { before.inlet with barriers := rest } } u)

/-- A barrier at which every engine in service stands. -/
structure AtBarrier (s : State) (isn : Nat) (u : CmdUnit) (rest : List (Nat × CmdUnit)) (r : InRec) : Prop where
  first : s.inlet.barriers = (isn, u) :: rest
  some_ : s.servers ≠ []
  arrived : ∀ e, e ∈ s.servers → s.atUnit e isn (max 1 u.bodies.length) = true
  record : s.inlet.stream.find? (fun r => r.isn.toNat == isn) = some r

theorem AtBarrier.configBarrier {isn : Nat} {u : CmdUnit} {rest : List (Nat × CmdUnit)} {r : InRec} (h : AtBarrier s isn u rest r) :
    s.configBarrier = match s.servers.find? (fun e => s.failsCrc e (s.unitReads u)) with
      | some e => s.failEngine e 2
      | none => s.barrierPassed isn u rest r := by
  have hready : ¬ (!(!s.servers.isEmpty && s.servers.all (fun e => s.atUnit e isn (max 1 u.bodies.length)))) = true := by
    rw [List.isEmpty_eq_false_iff.2 h.some_, List.all_eq_true.2 h.arrived]
    decide
  unfold State.configBarrier
  rw [h.first]
  dsimp only
  rw [h.record]
  dsimp only
  rw [if_neg hready]
  rfl

theorem AtBarrier.fails {isn : Nat} {u : CmdUnit} {rest : List (Nat × CmdUnit)} {r : InRec} (h : AtBarrier s isn u rest r)
    (hbad : s.servers.find? (fun e => s.failsCrc e (s.unitReads u)) = some e) : s.configBarrier = s.failEngine e 2 := by
  rw [h.configBarrier, hbad]

theorem AtBarrier.passes {isn : Nat} {u : CmdUnit} {rest : List (Nat × CmdUnit)} {r : InRec} (h : AtBarrier s isn u rest r)
    (hgood : ∀ e, e ∈ s.servers → s.failsCrc e (s.unitReads u) = false) : s.configBarrier = s.barrierPassed isn u rest r := by
  have hnone : s.servers.find? (fun e => s.failsCrc e (s.unitReads u)) = none :=
    List.find?_eq_none.2 (fun e he => by rw [hgood e he]; exact Bool.false_ne_true)
  rw [h.configBarrier, hnone]

/-- The unit stands in Tarn, its barrier is gone, and every engine in service has evaluated its record. -/
theorem State.barrierPassed_shown (isn : Nat) (u : CmdUnit) (rest : List (Nat × CmdUnit)) (r : InRec) :
    (s.barrierPassed isn u rest r).inlet.barriers = rest ∧ (s.barrierPassed isn u rest r).tarn = (s.applyUnit u).tarn
      ∧ ∀ e, e ∈ s.servers → ((s.barrierPassed isn u rest r).eng e).evalIsn = r.isn := by
  unfold State.barrierPassed
  extract_lets before
  have hbefore : before.tarn = s.tarn := foldl_same State.tarn _ (fun _ _ => State.passParts_tarn isn) _ _
  have hwritten : (State.applyBarrier { before with inlet := { before.inlet with barriers := rest } } u).tarn = (s.applyUnit u).tarn :=
    State.applyBarrier_tarn u |>.trans (State.applyUnit_tarn u hbefore)
  have hrest : (State.applyBarrier { before with inlet := { before.inlet with barriers := rest } } u).inlet.barriers = rest :=
    congrArg Inlet.barriers (State.applyBarrier_parts u .inlet (by decide))
  refine ⟨?_, ?_, fun e he => ?_⟩
  · exact (foldl_same (fun v : State => v.inlet.barriers) _ (fun _ e => (State.passBarrier_ownStep (e := e) r u before).1.barriers) _ _).trans hrest
  · exact (foldl_same State.tarn _ (fun _ e => (State.passBarrier_ownStep (e := e) r u before).1.tarn) _ _).trans hwritten
  · refine foldl_engines (P := fun g v => (v.eng g).evalIsn = r.isn) (fun v e => (State.passBarrier_ownStep r u before).2) (fun v e g hne hg => ?_) _ _ (.inl he)
    rw [eq_other_of_ne hne, (State.passBarrier_ownStep (e := e) r u before).1.other_, ← eq_other_of_ne hne]
    exact hg

/-! ## A damaged point record -/

theorem State.pt_resetPoint (r : InRec) (p prio : Nat) (custody : Bool) (st : Byte) : ((s.resetPoint e r p prio custody st).pt e p).state = st := by
  unfold State.resetPoint
  dsimp only
  refine (State.pt_pointEvent r p prio custody _ _ _).1.state.trans ?_
  exact (State.pt_setPt_self r p _).state

/-- One engine's part of the repair of a point's record. -/
def State.pointRepaired (s : State) (e : EngineId) (r : InRec) (bad : EngineId) (p : Nat) : State :=
  ((s.runStart e r).eccState e r (.point bad p) { } false).evaluated e r.isn

theorem keeps_eccState_point (r : InRec) (bad : EngineId) (p : Nat) (x : GrState) (b : Bool) :
    EvalKeeps Engine.pointless e s (s.eccState e r (.point bad p) x b) := by
  unfold State.eccState
  exact (EvalKeeps.ite (keeps_setPt r p _) (.refl _ _ _)).trans (keeps_resetPoint r p _ _ _)

theorem State.pointRepaired_shown (r : InRec) (bad : EngineId) (p : Nat) :
    ((s.pointRepaired e r bad p).eng e).evalIsn = r.isn ∧ ((s.pointRepaired e r bad p).pt e p).state = Pt.unknown
      ∧ (s.pointRepaired e r bad p).eng (other e) = s.eng (other e) := by
  have hstart := keeps_runStart (s := s) (e := e) r
  have hk := keeps_eccState_point (s := s.runStart e r) (e := e) r bad p { } false
  unfold State.pointRepaired
  refine ⟨by rw [State.evaluated_own], ?_, ?_⟩
  · rw [State.pt_evaluated]
    exact State.pt_resetPoint r p _ _ _
  · rw [State.evaluated_eng, if_neg (other_ne e)]
    exact hk.other_.trans hstart.other_

theorem State.eccFault_point {r : InRec} {bad : EngineId} {p : Nat} (hsome : s.servers ≠ []) (hhead : ∀ e, e ∈ s.servers → s.headRec e = some r)
    (hkind : r.kind = Kind.cmd) (hsrc : r.srcType = 8) (hop : r.pay 0x18 2 = 0xFF02) (hd : damagedAt r.eccOffset = some (.point bad p)) :
    s.eccFault = s.servers.foldl (fun s e => s.pointRepaired e r bad p) (s.clearUe r.eccOffset 8) := by
  have hheads : ∃ l, s.servers.map s.headRec = some r :: l ∧ l.all (· == some r) = true := by
    cases hl : s.servers with
    | nil => exact absurd hl hsome
    | cons e l =>
      rw [hl] at hhead
      refine ⟨l.map s.headRec, by rw [List.map_cons, hhead e List.mem_cons_self], ?_⟩
      rw [List.all_map, List.all_eq_true]
      exact fun x hx => beq_iff_eq.2 (hhead x (List.mem_cons_of_mem _ hx))
  obtain ⟨l, hmap, hall⟩ := hheads
  unfold State.eccFault
  rw [hmap]
  dsimp only
  rw [if_neg (by rw [hkind, hsrc, hop, hall]; decide), hd]
  rfl

/-! ## O21 -/

/-- Settles O21: each record's effect within its evaluation, and the barrier and the repair engine by engine. -/
theorem gapsSealsAndBarriers : Obligations.GapsSealsAndBarriers := by
  unfold Obligations.GapsSealsAndBarriers
  refine ⟨fun s e r hhead => ⟨gapEnds hhead, sealEnds hhead, markFillEnds hhead, markPassEnds hhead, markFailEnds hhead⟩,
    fun s isn u rest r hfirst hsome harrived hrec => ?_, fun s r bad p hsome hhead hkind hsrc hop hd => ?_⟩
  · have hat : AtBarrier s.fresh isn u rest r := ⟨hfirst, hsome, harrived, hrec⟩
    refine ⟨fun hgood => ?_, fun e hbad => ?_⟩
    · obtain ⟨hbarriers, htarn, hevals⟩ := State.barrierPassed_shown (s := s.fresh) isn u rest r
      have heq := hat.passes hgood
      rw [← heq] at hbarriers htarn hevals
      exact ⟨_, rfl, hbarriers, htarn.trans (State.applyUnit_tarn u rfl), hevals⟩
    · have heq := hat.fails hbad
      have hserves : s.fresh.serves e = true := (List.mem_filter.1 (List.mem_of_find?_eq_some hbad)).2
      exact ⟨_, congrArg Host.Outcome.next heq, (State.failEngine_fails hserves 2).of_fresh⟩
  · have heq := State.eccFault_point (s := s.fresh) hsome hhead hkind hsrc hop hd
    refine ⟨_, congrArg Host.Outcome.next heq, fun e he => ?_⟩
    refine foldl_engines (P := fun g v => (v.eng g).evalIsn = r.isn ∧ (v.pt g p).state = Pt.unknown)
      (fun v e => ⟨(State.pointRepaired_shown r bad p).1, (State.pointRepaired_shown r bad p).2.1⟩) (fun v e g hne hg => ?_) _ _ (.inl he)
    have hsame : (v.pointRepaired e r bad p).eng g = v.eng g := by
      rw [eq_other_of_ne hne]
      exact (State.pointRepaired_shown r bad p).2.2
    unfold State.pt
    rw [hsame]
    exact hg

end Sys2Proof.Machine

/-! PROOFS. Skink's records at an engine: the status, the copy, the audit, the divergence and the repair (R305, R307, R308, R312, R534; O22). -/

namespace Sys2Proof.Machine

variable {s t u : State} {e : EngineId}

/-! ## The status that every RESYNC record carries -/

/-- An engine but for its events and the last status, its run begun. -/
def Engine.statusless (x : Engine) : Engine := { x.eventless with runStarted := true, stHolder := 0, stSvc := 0, stCause := 0 }

/-- The engine has taken the status of a record that it evaluates. -/
structure StatusTaken (s u : State) (e : EngineId) (r : InRec) : Prop where
  ready : Readied s u e
  parts : PartsBut s u evalParts
  regs : RegsBut s u (Reg.AE_LAST_STATUS (engIx e) :: evalRegs)
  own : (u.eng e).statusless = (s.eng e).statusless
  ue : u.gecko.ueWords = s.gecko.ueWords
  shown : u.reg (Reg.AE_LAST_STATUS (engIx e)) = packU32 [(r.pay 0x19 1, 0), (r.pay 0x1A 1, 8), (r.pay 0x1B 1, 16)]

theorem StatusTaken.get {r : InRec} (h : StatusTaken s u e r) {α : Type} (f : Engine → α) (hf : ∀ x, f x.statusless = f x) : f (u.eng e) = f (s.eng e) := by
  rw [← hf, h.own, hf]

theorem State.takeStatus_taken (r : InRec) : StatusTaken s ((s.runStart e r).takeStatus e r) e r := by
  have hready := State.runStart_readied (s := s) (e := e) r
  have hstart := keeps_runStart (s := s) (e := e) r
  unfold State.takeStatus
  have hupd : EvalKeeps Engine.statusless e (s.runStart e r) ((s.runStart e r).updEng e (fun x => { x with
      stHolder := BitVec.ofNat 8 (r.pay 0x19 1), stSvc := BitVec.ofNat 8 (r.pay 0x1A 1), stCause := BitVec.ofNat 8 (r.pay 0x1B 1) })) := EvalKeeps.updEng rfl
  have heng := (s.runStart e r).eng_updEng_self e (fun x => { x with
      stHolder := BitVec.ofNat 8 (r.pay 0x19 1), stSvc := BitVec.ofNat 8 (r.pay 0x1A 1), stCause := BitVec.ofNat 8 (r.pay 0x1B 1) })
  generalize (s.runStart e r).updEng e _ = v at hupd heng
  have hk : EvalKeeps Engine.statusless e s v := (hstart.coarser (fun _ => rfl)).trans hupd
  have hset : PartsBut v (v.setReg (Reg.AE_LAST_STATUS (engIx e)) (packU32 [(r.pay 0x19 1, 0), (r.pay 0x1A 1, 8), (r.pay 0x1B 1, 16)])) [.regs] := fun z hz =>
    same_of_foot [.regs] (fun _ _ => setReg_foot _ _ _ (.refl v)) z hz
  refine ⟨⟨?_, ?_, ?_, ?_⟩, ?_, ?_, ?_, ?_, ?_⟩
  · rw [hset.eng, heng]
    exact hready.begun
  · rw [State.reg_setReg, if_neg (by cases e <;> decide), hk.count]
  · rw [hset.eng]
    exact hk.other_
  · rw [hset .tarn (by decide)]
    exact hk.tarn
  · exact fun z hz => Zone.same_trans (hk.parts z hz) (hset z (fun h => hz (by rw [List.mem_singleton.1 h]; decide)))
  · exact (hk.regs.mono (List.subset_cons_self _ _)).trans ((regsBut_setReg v _ _).mono (by simp))
  · rw [hset.eng]
    exact hk.own
  · exact (congrArg Gecko.ueWords (hset .gecko (by decide))).trans hk.ue
  · rw [State.reg_setReg, if_pos rfl]

theorem StatusTaken.pt {r : InRec} (h : StatusTaken s u e r) (p : Nat) : u.pt e p = s.pt e p := by
  unfold State.pt Engine.pt
  rw [h.get Engine.pts (fun _ => rfl)]

theorem StatusTaken.gr {r : InRec} (h : StatusTaken s u e r) (g : Nat) : u.gr e g = s.gr e g := by
  unfold State.gr Engine.gr
  rw [h.get Engine.grs (fun _ => rfl)]

theorem StatusTaken.mgmt {r : InRec} (h : StatusTaken s u e r) : u.mgmt = s.mgmt := State.mgmt_congr (h.regs _ (by cases e <;> decide))

theorem StatusTaken.tarnSee {r : InRec} (h : StatusTaken s u e r) (o n : Nat) : u.tarnSee o n = s.tarnSee o n := by
  unfold State.tarnSee State.tarnRead
  rw [h.ready.tarn, h.ue]

/-- A RESYNC record reads no state record. -/
theorem State.resync_evaluate {r : InRec} {func : Nat} {f : InRec → State → State} (hhead : s.headRec e = some r) (h : r.isResync func = true) :
    s.evaluate e (fun r => r.isResync func) f = (f r (s.runStart e r)).evaluated e r.isn := by
  have hkind : r.kind = Kind.resync := by
    unfold InRec.isResync at h
    simp only [Bool.and_eq_true, beq_iff_eq] at h
    exact h.1
  have hreads : s.recReads r = ([], []) := by
    unfold State.recReads
    rw [hkind]
    rfl
  exact State.evaluate_eq hhead h (by rw [hreads]; rfl)

/-- What a record's effect may change beside what it reads, for its end. -/
theorem Readied.through {view : Engine → Engine} (h : Readied s t e) (k : EvalKeeps view e t u) (hb : (u.eng e).runStarted = (t.eng e).runStarted) :
    Readied s u e := ⟨hb.trans h.begun, k.count.trans h.count, k.other_.trans h.other_, k.tarn.trans h.tarn⟩

/-! ## STATUS, COPY and AUDIT -/

theorem statusEnds {r : InRec} (hhead : s.headRec e = some r) (h : r.isResync Resync.status = true) :
    Ends (.evalResyncStatus e) s (fun t => Evaluated s t e r
      ∧ t.reg (Reg.AE_LAST_STATUS (engIx e)) = packU32 [(r.pay 0x19 1, 0), (r.pay 0x1A 1, 8), (r.pay 0x1B 1, 16)]
      ∧ (t.eng e).pts = (s.eng e).pts ∧ (t.eng e).grs = (s.eng e).grs) := by
  have heq := State.resync_evaluate (s := s.fresh) (e := e) (f := fun r s => s.onStatus e r) hhead h
  have htaken := State.takeStatus_taken (s := s.fresh) (e := e) r
  have hk : EvalKeeps Engine.eventless e ((s.fresh.runStart e r).takeStatus e r) ((s.fresh.runStart e r).onStatus e r) := keeps_health noEvents_eventless r true
  have hev : Evaluated s.fresh _ e r := (htaken.ready.keeps (hk.of_events noEvents_stateless)).evaluated
  refine ⟨_, congrArg Host.Outcome.next heq, hev.of_fresh, ?_, ?_, ?_⟩
  · rw [State.reg_evaluated r.isn (by cases e <;> decide), hk.regs _ (by cases e <;> decide)]
    exact htaken.shown
  · rw [State.evaluated_own]
    exact (hk.get Engine.pts (fun _ => rfl)).trans (htaken.get Engine.pts (fun _ => rfl))
  · rw [State.evaluated_own]
    exact (hk.get Engine.grs (fun _ => rfl)).trans (htaken.get Engine.grs (fun _ => rfl))

/-- The source engine of a copy, stopped at its record. -/
def State.copyBegun (s : State) (e : EngineId) (c : Copy) (isn : U64) : State :=
  (s.updEng e (fun x => { x with stopped := true })).updSkink (fun k => { k with copy := some { c with source := e, isn := isn, started := true } })

theorem State.onCopy_begins {r : InRec} {c : Copy} (hm : ((s.takeStatus e r)).mgmt = Node.run) (hc : (s.takeStatus e r).skink.copy = some c)
    (hst : c.started = false) (ht : c.target ≠ e) : s.onCopy e r = (s.takeStatus e r).copyBegun e c r.isn := by
  unfold State.onCopy
  dsimp only
  rw [hc]
  dsimp only
  rw [if_pos (by rw [hm, hst, bne_iff_ne.2 ht]; rfl)]
  rfl

theorem State.copyBegun_readied {c : Copy} {isn : U64} (h : Readied s u e) : Readied s (u.copyBegun e c isn) e := by
  have hupd : EvalKeeps (fun x => { x with stopped := true }) e u (u.updEng e (fun x => { x with stopped := true })) := EvalKeeps.updEng rfl
  have hready := h.through hupd (hupd.get Engine.runStarted (fun _ => rfl))
  have heng : ∀ g, (u.copyBegun e c isn).eng g = (u.updEng e (fun x => { x with stopped := true })).eng g := fun g => State.eng_congr rfl rfl g
  exact ⟨by rw [heng]; exact hready.begun, hready.count, by rw [heng]; exact hready.other_, hready.tarn⟩

theorem copyEnds {r : InRec} (hhead : s.headRec e = some r) (c : Copy) (h : r.isResync Resync.copy = true) (hm : s.mgmt = Node.run)
    (hc : s.skink.copy = some c) (hst : c.started = false) (ht : c.target ≠ e) :
    Ends (.evalResyncCopy e) s (fun t => Evaluated s t e r ∧ (t.eng e).stopped = true ∧ t.skink.copy = some { c with source := e, isn := r.isn, started := true }) := by
  have heq := State.resync_evaluate (s := s.fresh) (e := e) (f := fun r s => s.onCopy e r) hhead h
  have htaken := State.takeStatus_taken (s := s.fresh) (e := e) r
  have hcopy : ((s.fresh.runStart e r).takeStatus e r).skink.copy = some c := (congrArg Skink.copy (htaken.parts .skink (by decide))).trans hc
  have hbegin := State.onCopy_begins (s := s.fresh.runStart e r) (htaken.mgmt.trans hm) hcopy hst ht
  rw [hbegin] at heq
  have hev : Evaluated s.fresh _ e r := (State.copyBegun_readied (c := c) (isn := r.isn) htaken.ready).evaluated
  refine ⟨_, congrArg Host.Outcome.next heq, hev.of_fresh, ?_, ?_⟩
  · have heng : (((s.fresh.runStart e r).takeStatus e r).copyBegun e c r.isn).eng e
        = (((s.fresh.runStart e r).takeStatus e r).updEng e (fun x => { x with stopped := true })).eng e := State.eng_congr rfl rfl e
    rw [State.evaluated_own, heng, State.eng_updEng_self]
  · rw [State.evaluated_parts r.isn .skink (by decide)]
    rfl

theorem Engine.auditCrcs_congr {x y : Engine} (hp : y.pts = x.pts) (hg : y.grs = x.grs) (b : Nat) : y.auditCrcs b = x.auditCrcs b := by
  unfold Engine.auditCrcs
  rw [hp, hg]

theorem auditEnds {r : InRec} (hhead : s.headRec e = some r) (h : r.isResync Resync.audit = true) :
    Ends (.evalAudit e) s (fun t => Evaluated s t e r
      ∧ (t.eng e).audit = some (fld r.arg 0 7, (s.eng e).auditCrcs (fld r.arg 0 7)) ∧ (t.eng e).pts = (s.eng e).pts) := by
  have heq := State.resync_evaluate (s := s.fresh) (e := e) (f := fun r s => s.onAudit e r) hhead h
  have htaken := State.takeStatus_taken (s := s.fresh) (e := e) r
  have hpts : (((s.fresh.runStart e r).takeStatus e r).eng e).pts = (s.eng e).pts := htaken.get Engine.pts (fun _ => rfl)
  have hgrs : (((s.fresh.runStart e r).takeStatus e r).eng e).grs = (s.eng e).grs := htaken.get Engine.grs (fun _ => rfl)
  unfold State.onAudit at heq
  dsimp only at heq
  have hready := htaken.ready
  generalize (s.fresh.runStart e r).takeStatus e r = u at heq hready hpts hgrs
  have hupd : EvalKeeps (fun x => { x with audit := none }) e u (u.updEng e (fun x => { x with audit := some (fld r.arg 0 7, x.auditCrcs (fld r.arg 0 7)) })) :=
    EvalKeeps.updEng rfl
  have hev : Evaluated s.fresh _ e r := (hready.through hupd (hupd.get Engine.runStarted (fun _ => rfl))).evaluated
  refine ⟨_, congrArg Host.Outcome.next heq, hev.of_fresh, ?_, ?_⟩
  · rw [State.evaluated_own, State.eng_updEng_self]
    exact congrArg (fun l => some (fld r.arg 0 7, l)) (Engine.auditCrcs_congr hpts hgrs _)
  · rw [State.evaluated_own, State.eng_updEng_self]
    exact hpts

/-! ## DIVERGE -/

theorem keeps_divergeReads (arg : U32) : EvalKeeps Engine.eventless e s (s.divergeReads e arg) := by
  unfold State.divergeReads
  exact .ite (.refl _ _ _) (.foldl (fun t p => .ite (keeps_noteInvalid _ _) (.refl _ _ _)) _ _)

/-- What an engine holds of points and groups, in both engines. -/
def EngineStores (s t : State) : Prop := ∀ g, (t.eng g).pts = (s.eng g).pts ∧ (t.eng g).grs = (s.eng g).grs

theorem EngineStores.trans (h : EngineStores s t) (k : EngineStores t u) : EngineStores s u := fun g => ⟨(k g).1.trans (h g).1, (k g).2.trans (h g).2⟩

theorem PartsBut.engineStores {zs : List Zone} (h : PartsBut s t zs) (hA : Zone.aeA ∉ zs := by decide) (hB : Zone.aeB ∉ zs := by decide) : EngineStores s t :=
  fun g => by
    rw [h.eng hA hB]
    exact ⟨rfl, rfl⟩

theorem State.offerDiverge_stores (arg : U32) : EngineStores s (s.offerDiverge arg) := by
  have hrest : ∀ v : State, EngineStores v (((((v.setReg Reg.SKINK_LAST_DIVERGE arg).bump Reg.SKINK_DIVERGE_CNT).raise Reg.SKINK_EVT 8).offerResync Resync.diverge 0 arg)) :=
    fun v => PartsBut.engineStores (zs := [.regs, .inlet, .gecko]) (fun z hz => same_of_foot [.regs, .inlet, .gecko]
      (fun _ _ => offerResync_foot _ _ _ _ (raise_foot _ _ _ (bump_foot _ _ (setReg_foot _ _ _ (.refl v))))) z hz)
  unfold State.offerDiverge
  extract_lets clear w a b
  refine EngineStores.trans (t := a) ?_ (hrest a)
  unfold a
  split
  · intro g
    cases g <;> exact ⟨rfl, rfl⟩
  · intro g
    cases g <;> exact ⟨rfl, rfl⟩

theorem State.divergeDone_stores (failed : Bool) : EngineStores s (s.divergeDone failed) := by
  unfold State.divergeDone
  extract_lets next a b
  have hb : EngineStores s b := fun g => by cases g <;> exact ⟨rfl, rfl⟩
  split
  · exact hb
  · split
    · exact hb
    · refine EngineStores.trans (t := b.updSkink _) (hb.trans ?_) (State.offerDiverge_stores _)
      intro g
      cases g <;> exact ⟨rfl, rfl⟩

theorem Engine.reportOf_shown (x : Engine) (l : List Nat) :
    (if x.report = none then (x.reportOf l).report = some l ∧ (x.reportOf l).reports = x.reports
      else (x.reportOf l).report = x.report ∧ (x.reportOf l).reports = x.reports ++ [l]) ∧ (x.reportOf l).pts = x.pts ∧ (x.reportOf l).grs = x.grs := by
  unfold Engine.reportOf
  cases h : x.report with
  | none => exact ⟨⟨rfl, rfl⟩, rfl, rfl⟩
  | some b => exact ⟨⟨rfl, rfl⟩, rfl, rfl⟩

/-- The DIVERGE event, and the configuration that the check reads. -/
def State.divergeRead (s : State) (e : EngineId) (r : InRec) : State :=
  (s.putNode e { s.baseEvent e r Ev.diverge nodeIndex with
    stNew := BitVec.ofNat 8 (fld r.arg 0 7), stOld := BitVec.ofNat 8 (fld r.arg 28 1), sub := BitVec.ofNat 16 (fld r.arg 7 10),
    value := F32.ofNat (fld r.arg 17 11) }).divergeReads e r.arg

/-- The check's breaks counted. -/
def State.breakCounted (s : State) (e : EngineId) (broken : List Nat) : State := if broken.isEmpty then s else s.bump (Reg.AE_AUDIT_BREAK_CNT (engIx e))

/-- The check's end: in RUN with both engines its report, with one engine nothing. -/
def State.divergeEnded (s : State) (e : EngineId) (broken : List Nat) : State :=
  if s.mgmt = Node.replay then s else if s.bothServe then s.updEng e (fun x => x.reportOf broken) else s.divergeDone false

theorem State.onDiverge_eq (r : InRec) :
    s.onDiverge e r = ((s.divergeRead e r).breakCounted e ((s.divergeRead e r).divergeBreaks e r.arg)).divergeEnded e ((s.divergeRead e r).divergeBreaks e r.arg) := rfl

theorem keeps_divergeRead (r : InRec) : EvalKeeps Engine.eventless e s (s.divergeRead e r) := (keeps_putNode noEvents_eventless _).trans (keeps_divergeReads _)

theorem State.divergeBreaks_congr (arg : U32) (hpt : ∀ p, t.pt e p = s.pt e p) (hgr : ∀ g, t.gr e g = s.gr e g) (hcfg : ∀ p, t.pcfg p = s.pcfg p) :
    t.divergeBreaks e arg = s.divergeBreaks e arg := by
  unfold State.divergeBreaks
  simp only [hpt, hgr, hcfg]

theorem State.breakCounted_parts (l : List Nat) : PartsBut s (s.breakCounted e l) [.regs] := by
  unfold State.breakCounted
  split
  · exact fun z _ => by cases z <;> rfl
  · exact s.bump_parts _

theorem State.breakCounted_mgmt (l : List Nat) : (s.breakCounted e l).mgmt = s.mgmt := by
  unfold State.breakCounted
  split
  · rfl
  · exact State.mgmt_congr (regsBut_bump s _ _ (by cases e <;> decide))

theorem State.bothServe_congr (h : ∀ g, (t.eng g).serving = (s.eng g).serving) : t.bothServe = s.bothServe := by
  have hA : t.aeA.serving = s.aeA.serving := h .A
  have hB : t.aeB.serving = s.aeB.serving := h .B
  unfold State.bothServe
  rw [hA, hB]

theorem State.divergeEnded_stores (l : List Nat) : EngineStores s (s.divergeEnded e l) := by
  unfold State.divergeEnded
  split
  · exact fun _ => ⟨rfl, rfl⟩
  · split
    · intro g
      by_cases h : g = e
      · rw [h, State.eng_updEng_self]
        exact ((s.eng e).reportOf_shown l).2
      · rw [s.eng_updEng_ne h]
        exact ⟨rfl, rfl⟩
    · exact State.divergeDone_stores false

theorem divergeEnds {r : InRec} (hhead : s.headRec e = some r) (h : r.isResync Resync.diverge = true) :
    Ends (.evalDiverge e) s (fun t => (t.eng e).evalIsn = r.isn ∧ (t.eng e).pts = (s.eng e).pts ∧ (t.eng e).grs = (s.eng e).grs
      ∧ (s.mgmt = Node.run → s.bothServe = true →
        (if (s.eng e).report = none then (t.eng e).report = some (s.divergeBreaks e r.arg) ∧ (t.eng e).reports = (s.eng e).reports
          else (t.eng e).report = (s.eng e).report ∧ (t.eng e).reports = (s.eng e).reports ++ [s.divergeBreaks e r.arg]))) := by
  have heq := State.resync_evaluate (s := s.fresh) (e := e) (f := fun r s => (s.takeStatus e r).onDiverge e r) hhead h
  have htaken := State.takeStatus_taken (s := s.fresh) (e := e) r
  have hk := keeps_divergeRead (s := (s.fresh.runStart e r).takeStatus e r) (e := e) r
  rw [State.onDiverge_eq] at heq
  have hbreaks : (((s.fresh.runStart e r).takeStatus e r).divergeRead e r).divergeBreaks e r.arg = s.divergeBreaks e r.arg :=
    State.divergeBreaks_congr r.arg (fun p => (hk.pt_of_eventless p).trans (htaken.pt p)) (fun g => (hk.gr_of_eventless g).trans (htaken.gr g))
      (fun p => (hk.pcfg p).trans (congrArg PCfg.ofBytes (htaken.tarnSee _ _)))
  rw [hbreaks] at heq
  generalize hv : ((s.fresh.runStart e r).takeStatus e r).divergeRead e r = v at heq hk
  have hget : ∀ {α : Type} (f : Engine → α), (∀ x, f (x.eventless) = f x) → (∀ x, f x.statusless = f x) → f (v.eng e) = f (s.eng e) := fun f hf hs =>
    (hk.get f hf).trans (htaken.get f hs)
  have hcount := State.breakCounted_parts (s := v) (e := e) (s.divergeBreaks e r.arg)
  have hmode := State.breakCounted_mgmt (s := v) (e := e) (s.divergeBreaks e r.arg)
  have hvmgmt : v.mgmt = s.mgmt := hk.mgmt.trans htaken.mgmt
  have hstores := State.divergeEnded_stores (s := v.breakCounted e (s.divergeBreaks e r.arg)) (e := e) (s.divergeBreaks e r.arg) e
  rw [hcount.eng] at hstores
  refine ⟨_, congrArg Host.Outcome.next heq, ?_, ?_, ?_, fun hrun hboth => ?_⟩
  · rw [State.evaluated_own]
  · rw [State.evaluated_own]
    exact hstores.1.trans (hget Engine.pts (fun _ => rfl) (fun _ => rfl))
  · rw [State.evaluated_own]
    exact hstores.2.trans (hget Engine.grs (fun _ => rfl) (fun _ => rfl))
  · have hserving : ∀ g, ((v.breakCounted e (s.divergeBreaks e r.arg)).eng g).serving = (s.eng g).serving := fun g => by
      rw [hcount.eng]
      by_cases hg : g = e
      · rw [hg]
        exact hget Engine.serving (fun _ => rfl) (fun _ => rfl)
      · rw [eq_other_of_ne hg, hk.other_, htaken.ready.other_]
        rfl
    have hend : (v.breakCounted e (s.divergeBreaks e r.arg)).divergeEnded e (s.divergeBreaks e r.arg)
        = (v.breakCounted e (s.divergeBreaks e r.arg)).updEng e (fun x => x.reportOf (s.divergeBreaks e r.arg)) := by
      unfold State.divergeEnded
      rw [if_neg (by rw [hmode, hvmgmt, hrun]; decide), if_pos ((State.bothServe_congr hserving).trans hboth)]
    have hreport := ((v.eng e).reportOf_shown (s.divergeBreaks e r.arg)).1
    rw [hget Engine.report (fun _ => rfl) (fun _ => rfl), hget Engine.reports (fun _ => rfl) (fun _ => rfl)] at hreport
    rw [State.evaluated_own, hend, State.eng_updEng_self, hcount.eng]
    exact hreport

/-! ## REPAIR -/

/-- A half reset is as at entry to RUN. -/
theorem State.gr_resetHalf (r : InRec) (g : Nat) (c : GCfg) (event : Bool) : (s.resetHalf e r g c event).gr e g = freshHalf c.enable := by
  have hcalled : ∀ u : State, EvalKeeps Engine.noteless e u (u.updEng e (fun z => { z with called := Sparse.set [] z.called g [] })) := fun u => EvalKeeps.updEng rfl
  unfold State.resetHalf
  extract_lets old u v w
  have hu : u.gr e g = freshHalf c.enable := State.gr_setGr_self g _
  have hv : EvalKeeps Engine.noteless e u v := .ite (keeps_groupState_noteless r g c) (.refl _ _ _)
  have hw : EvalKeeps Engine.noteless e v w := hcalled v
  have hend : EvalKeeps Engine.noteless e w (if old = Call.idle then w else w.groupEvent e r g c Ev.callState Call.idle old Cause.config 0) :=
    .ite (.refl _ _ _) (keeps_groupEvent noEvents_noteless r g c _ _ _ _ _)
  rw [((hv.trans hw).trans hend).gr_of_noteless, hu]

theorem keeps_onRepair (r : InRec) : EvalKeeps Engine.stateless e s (s.onRepair e r) := by
  unfold State.onRepair
  refine .ite (.ite ?_ (.refl _ _ _)) (.ite ?_ (.refl _ _ _))
  · exact EvalKeeps.trans (keeps_noteGroup _) (keeps_resetHalf r _ _ _).stateless_of_groupless
  · exact EvalKeeps.trans (keeps_noteInvalid _ _) (keeps_resetPoint r _ _ _ _).stateless_of_pointless

theorem State.onRepair_point {r : InRec} (hb : fld r.arg 0 7 ≠ 80) (hp : 1024 * fld r.arg 0 7 + fld r.arg 7 10 < 81920) :
    ((s.onRepair e r).pt e (1024 * fld r.arg 0 7 + fld r.arg 7 10)).state = Pt.unknown := by
  unfold State.onRepair
  dsimp only
  rw [if_neg hb, if_pos hp]
  exact State.pt_resetPoint r _ _ _ _

theorem State.onRepair_half {r : InRec} (hb : fld r.arg 0 7 = 80) (hg : fld r.arg 7 10 < 256) :
    (s.onRepair e r).gr e (fld r.arg 7 10) = freshHalf (s.gcfg (fld r.arg 7 10)).enable := by
  unfold State.onRepair
  dsimp only
  rw [if_pos hb, if_pos hg, State.gr_resetHalf]

theorem repairEnds {r : InRec} (hhead : s.headRec e = some r) (h : r.isResync Resync.repair = true) :
    Ends (.evalRepair e) s (fun t => Evaluated s t e r
      ∧ (fld r.arg 0 7 ≠ 80 → 1024 * fld r.arg 0 7 + fld r.arg 7 10 < 81920 →
          (t.pt e (1024 * fld r.arg 0 7 + fld r.arg 7 10)).state = Pt.unknown)
      ∧ (fld r.arg 0 7 = 80 → fld r.arg 7 10 < 256 → t.gr e (fld r.arg 7 10) = freshHalf (s.gcfg (fld r.arg 7 10)).enable)) := by
  have heq := State.resync_evaluate (s := s.fresh) (e := e) (f := fun r s => (s.takeStatus e r).onRepair e r) hhead h
  have htaken := State.takeStatus_taken (s := s.fresh) (e := e) r
  have hev : Evaluated s.fresh _ e r := (htaken.ready.keeps (keeps_onRepair r)).evaluated
  have hcfg : ((s.fresh.runStart e r).takeStatus e r).gcfg (fld r.arg 7 10) = s.gcfg (fld r.arg 7 10) := congrArg GCfg.ofBytes (htaken.tarnSee _ _)
  refine ⟨_, congrArg Host.Outcome.next heq, hev.of_fresh, fun hb hp => ?_, fun hb hg => ?_⟩
  · rw [State.pt_evaluated]
    exact State.onRepair_point hb hp
  · rw [State.gr_evaluated, State.onRepair_half hb hg, hcfg]

/-- Settles O22: each record behind the status it carries, with what it does to the engine's own records. -/
theorem skinkRecords : Obligations.SkinkRecords := by
  unfold Obligations.SkinkRecords
  exact fun s e r hhead => ⟨statusEnds hhead, copyEnds hhead, auditEnds hhead, divergeEnds hhead, repairEnds hhead⟩

end Sys2Proof.Machine
